-- ==== Sys2Proof/Word.lean ====
section
/-! DEFINITION. The word types of the block: registers are 32 bits wide and little-endian (R6); bytes are the cells of its memories. -/

namespace Sys2Proof

/-- One byte. -/
abbrev Byte := BitVec 8
/-- One register (R6). -/
abbrev Word := BitVec 32
/-- A 64-bit quantity, such as TB0 or an Oar register. -/
abbrev Dword := BitVec 64

end Sys2Proof
end

