-- ==== Sys2Proof/Machine/Sparse.lean ====
section
/-! DEFINITION. Sparse tables: lists of (key, entry) pairs with strictly rising keys. An unlisted key stands for a default that the reader
gives, and an entry equal to its default is not listed, so that equal tables are equal data. Registers, GDDR7, the MRAM store and the large
on-chip tables are held in this form. -/

namespace Sys2Proof.Machine

/-- A sparse table from addresses or indexes to entries. -/
abbrev Table (α : Type) := List (Nat × α)

/-- The entry listed under a key. -/
def tabGet? {α : Type} (t : Table α) (k : Nat) : Option α := (t.find? (fun e => e.1 == k)).map (·.2)

/-- The entry under a key, or the default. -/
def tabGet {α : Type} (t : Table α) (d : α) (k : Nat) : α := (tabGet? t k).getD d

/-- The table without a key. -/
def tabDel {α : Type} (t : Table α) (k : Nat) : Table α := t.filter (fun e => e.1 != k)

/-- Put an entry at its place in a list with rising keys that does not list the key. -/
def tabInsert {α : Type} (k : Nat) (v : α) : Table α → Table α
  | [] => [(k, v)]
  | e :: t => if k < e.1 then (k, v) :: e :: t else e :: tabInsert k v t

/-- Set the entry of a key; an entry equal to the default is removed. -/
def tabSet {α : Type} [DecidableEq α] (t : Table α) (d : α) (k : Nat) (v : α) : Table α :=
  if v = d then tabDel t k else tabInsert k v (tabDel t k)

/-- Set the entry of a key, whatever it is. -/
def tabPut {α : Type} (t : Table α) (k : Nat) (v : α) : Table α := tabInsert k v (tabDel t k)

/-- The canonical form: keys strictly rise, and no entry equals the default. -/
def tabWf {α : Type} [DecidableEq α] (d : α) (t : Table α) : Bool :=
  decide (t.Pairwise (fun a b => a.1 < b.1)) && t.all (fun e => decide (e.2 ≠ d))

/-- Keys strictly rise. -/
def tabSorted {α : Type} (t : Table α) : Bool := decide (t.Pairwise (fun a b => a.1 < b.1))

/-- Entries `k`, `k + 1`, … set from a list, one by one. -/
def tabFill {α : Type} [DecidableEq α] (d : α) : Table α → Nat → List α → Table α
  | t, _, [] => t
  | t, k, v :: vs => tabFill d (tabSet t d k v) (k + 1) vs

/-- `n` entries from `k` upwards. -/
def tabSlice {α : Type} (t : Table α) (d : α) : Nat → Nat → List α
  | _, 0 => []
  | k, n + 1 => tabGet t d k :: tabSlice t d (k + 1) n

end Sys2Proof.Machine
end

