-- ==== Sys2Proof/Machine/Bits.lean ====
section
/-! DEFINITION. Bit fields of 32-bit registers, little-endian byte strings, and the shapes of the register map. -/

namespace Sys2Proof.Machine

/-- A register: its BAR0 offset, and its value after the reset of its domain (R10). -/
structure Reg where
  off : Nat
  reset : Word
deriving DecidableEq, Repr

/-- A bit field [hi:lo] of a register. -/
structure Fld where
  hi : Nat
  lo : Nat
deriving DecidableEq, Repr

/-- One row of the register map: `dims` gives (count, stride) of each array dimension, outermost first; `reset` is the value after reset as a
function of the innermost index; the masks say which bits have which access type (R7). A bit under no mask is RO or reserved. -/
structure RegRow where
  name : String
  base : Nat
  dims : List (Nat × Nat)
  reset : Nat → Word
  rw : Word
  w1c : Word
  w1s : Word
  rg : Word
  rc : Word
  wo : Word

/-- A Nat as a register word, low 32 bits. -/
abbrev w32 (n : Nat) : Word := BitVec.ofNat 32 n

/-- The bits [hi:lo] of a number. -/
def bitsOf (n hi lo : Nat) : Nat := n / 2 ^ lo % 2 ^ (hi + 1 - lo)

/-- The bits of a field. -/
def Fld.get (f : Fld) (w : Word) : Nat := bitsOf w.toNat f.hi f.lo

/-- The mask of a field. -/
def Fld.mask (f : Fld) : Word := w32 ((2 ^ (f.hi + 1 - f.lo) - 1) * 2 ^ f.lo)

/-- A word with a field replaced by the low bits of a number. -/
def Fld.put (f : Fld) (w : Word) (v : Nat) : Word :=
  (w &&& ~~~ f.mask) ||| w32 (v % 2 ^ (f.hi + 1 - f.lo) * 2 ^ f.lo)

/-- One bit of a word. -/
def bitOf (w : Word) (i : Nat) : Bool := w.getLsbD i

/-- A word with one bit set or cleared. -/
def putBit (w : Word) (i : Nat) (b : Bool) : Word := Fld.put ⟨i, i⟩ w b.toNat

/-- A Bool as 0 or 1. -/
abbrev b2n (b : Bool) : Nat := b.toNat

/-- The largest 32-bit value, at which counters saturate. -/
def satMax : Nat := 4294967295

/-- A saturating count. -/
def satAdd (w : Word) (n : Nat) : Word := w32 (min satMax (w.toNat + n))

/-- Sign-extended value of the low `n` bits. -/
def sext (n v : Nat) : Int := if v % 2 ^ n < 2 ^ (n - 1) then ((v % 2 ^ n : Nat) : Int) else ((v % 2 ^ n : Nat) : Int) - 2 ^ n

/-- The low 32 bits of an integer, two's complement. -/
def wOfInt (i : Int) : Word := BitVec.ofInt 32 i

/-- Ceiling division. -/
def ceilDiv (a b : Nat) : Nat := (a + b - 1) / b

/-- Round up to a multiple. -/
def roundUp (a m : Nat) : Nat := ceilDiv a m * m

/-- A clamp to a closed range. -/
def clampNat (lo hi v : Nat) : Nat := max lo (min hi v)

/-- A clamp of an integer to a closed range. -/
def clampInt (lo hi v : Int) : Int := max lo (min hi v)

/-- A list of numbers without its later repeats. -/
def uniqNat : List Nat → List Nat
  | [] => []
  | a :: as => a :: (uniqNat as).filter (· != a)

/-- A list set at an index. -/
def setAt {α : Type} : List α → Nat → α → List α
  | [], _, _ => []
  | _ :: t, 0, v => v :: t
  | h :: t, n + 1, v => h :: setAt t n v

/-! ### Little-endian byte strings -/

/-- `n` little-endian bytes of a number. -/
def leBytes : Nat → Nat → List Byte
  | 0, _ => []
  | n + 1, v => BitVec.ofNat 8 v :: leBytes n (v / 256)

/-- The number that little-endian bytes spell. -/
def leNat : List Byte → Nat
  | [] => 0
  | b :: bs => b.toNat + 256 * leNat bs

/-- `n` bytes at an offset of a byte string, missing bytes read as 0. -/
def sliceAt (bs : List Byte) (off n : Nat) : List Byte :=
  let t := (bs.drop off).take n
  t ++ List.replicate (n - t.length) 0

/-- The little-endian number of `n` bytes at an offset. -/
def leAt (bs : List Byte) (off n : Nat) : Nat := leNat ((bs.drop off).take n)

/-- The bytes of a word, little-endian. -/
def wordBytes (w : Word) : List Byte := leBytes 4 w.toNat

/-- The words of a byte string, little-endian, a short tail padded with zeros. -/
def bytesWords (bs : List Byte) : List Word :=
  (List.range (ceilDiv bs.length 4)).map (fun i => w32 (leAt bs (4 * i) 4))

/-- The bytes of a list of words. -/
def wordsBytes (ws : List Word) : List Byte := ws.flatMap wordBytes

/-- All bytes are zero. -/
def allZero (bs : List Byte) : Bool := bs.all (· == 0)

/-- CRC-32C (Castagnoli), reflected, polynomial 0x1EDC6F41, initial value and final XOR of all ones (R157): one bit. -/
def crc32cBit (c : Word) : Word := if c.getLsbD 0 then (c >>> 1) ^^^ 0x82F63B78#32 else c >>> 1

/-- CRC-32C: one byte into the running value. -/
def crc32cByte (c : Word) (b : Byte) : Word :=
  let x := c ^^^ b.setWidth 32
  crc32cBit (crc32cBit (crc32cBit (crc32cBit (crc32cBit (crc32cBit (crc32cBit (crc32cBit x)))))))

/-- CRC-32C of a byte string (R157). -/
def crc32c (bs : List Byte) : Word := (bs.foldl crc32cByte 0xFFFFFFFF#32) ^^^ 0xFFFFFFFF#32

end Sys2Proof.Machine
end

