-- ==== Sys2Proof/Machine/StBoat.lean ====
section
/-! DEFINITION. State of the Boathouse side: blocks and regions, the Rig controller, bring-up, the Umpire's streams, the event router, the
Logbook and the health round. Every structure is plain data, and its default is its value after PORESET_N. -/

namespace Sys2Proof.Machine

/-- What a block is doing (R18, R19, R60): not brought up, running, held at its boundary, or stopped. -/
inductive BlkPhase where
  | down | running | held | stopped
deriving DecidableEq, Repr

/-- One block of R47. `code` is its STOP_REASON (R32, R33); `holdRig` and `holdReset` ask it to be held at its next boundary by a commit (R60)
or a reset (R108, R111); `restartDue` marks a fault stop that restarts at the boundary (R501); `gaveUp` that the restart limit was passed;
`restarts` the ticks of its fault restarts; `upstream` the pending code of R34 (3 or 4, 0 none); `skipped` the frames skipped while held (R61). -/
structure Blk where
  phase : BlkPhase := .down
  code : Nat := 0
  holdRig : Bool := false
  holdReset : Bool := false
  restartDue : Bool := false
  gaveUp : Bool := false
  restarts : List Nat := []
  upstream : Nat := 0
  skipped : Nat := 0
deriving DecidableEq, Repr

/-- Where an uncorrectable error arises (R501, R502): a cell of a block, or a region's marshal. -/
inductive FaultUnit where
  | block (bid : BitVec 16)
  | marshal (r : Fin 5)
deriving DecidableEq, Repr

/-- What the inline ECC finds in an access (R92, R93). -/
inductive EccOutcome where
  | ok | corrected | uncorrected
deriving DecidableEq, Repr

/-- One section of a Rig image as committed (R46): block, kind, SFLAGS, KIND_VER and payload. -/
structure Section where
  block : Nat
  kind : Nat
  sflags : Nat
  ver : Nat
  data : List Byte
deriving DecidableEq, Repr

/-- What the Rig controller was asked to do (R56, R57, R67). -/
inductive RigJob where
  | commit | check | repair
deriving DecidableEq, Repr

/-- A refusal under R57 and R70: the step, the code, the owner word and the detail word. -/
structure Refused where
  step : Nat
  code : Nat
  owner : Word := 0
  detail : Word := 0xFFFF1FFF
deriving DecidableEq, Repr

/-- The Rig controller beyond its registers: the job in progress, the image copied into the Boathouse area (R56), the listed blocks, the blocks
still to be held, the Eight and seat of a repair, whether passed checks wait for a reset to end (R112), the committed sections, whether a full commit has applied since PORESET_N, the Vault's
answer for the image once it has come (0 when it verifies), repairs that a cox asks for and that wait (R67), and whether the job in progress is one. -/
structure Rig where
  job : Option RigJob := none
  image : List Byte := []
  listed : List Nat := []
  repair : Nat × Nat := (0, 0)
  waiting : Bool := false
  sections : List Section := []
  everFull : Bool := false
  verdict : Option Nat := none
  cox : List (Nat × Nat) := []
  coxJob : Bool := false
deriving DecidableEq, Repr

/-- A reset asked for: a region, with or without DOWN, or one block (R108 to R111). -/
inductive ResetJob where
  | region (r : Nat) (down : Bool)
  | block (bid : Nat)
deriving DecidableEq, Repr

/-- The boot descriptor of R116. -/
structure BootDesc where
  bflags : Nat := 0
  paddleOut : Nat := 0
  paddleQuad : Nat := 0
  paddleRate : Nat := 0
  paddleTmo : Nat := 0
  rigOffset : Nat := 0
  rigLength : Nat := 0
  calOffset : Nat := 0
  calLength : Nat := 0
  scriptOffset : Nat := 0
  scriptLength : Nat := 0
  paddleW : Nat := 0
  paddleH : Nat := 0
  paddleB : Nat := 0
  paddleCfa : Nat := 0
  paddleTrain : Nat := 0
  paddleSync : Nat := 0
  paddleTag : Nat := 0
deriving DecidableEq, Repr

/-- Paddle mode (R118): off, waiting for H0's first Frame Start, or serving. -/
inductive PaddleState where
  | off | waiting | serving
deriving DecidableEq, Repr

/-- Bring-up and reset state beyond the registers: the verified descriptor, Paddle mode, the level of PORESET_N, resets in progress and waiting
(R112), the shutdown step in progress and its timeout in ms (R126), whether slot A was rejected (R115), and whether the straps were not agreed or not
supported (R520). -/
structure Boot where
  desc : Option BootDesc := none
  paddle : PaddleState := .off
  paddleFirst : Bool := false
  poresetLow : Bool := false
  resets : List ResetJob := []
  waitingResets : List ResetJob := []
  shutStep : Nat := 0
  shutTmo : Nat := 0
  loaderBad : Bool := false
  strapBad : Bool := false
deriving DecidableEq, Repr

/-- One Umpire stream record beyond its registers (R96, R99, R102, R105): credit in 1/5000 byte and the tick it was last filled; bytes produced
and not yet taken beyond the on-chip queue; bytes in that queue, where the stream's own rows do not keep them; whether event 25 may be raised again; whether event 26 was raised this round; the 64-bit delay counter. -/
structure Strm where
  credit : Nat := 0
  creditAt : Nat := 0
  backlog : Nat := 0
  queued : Nat := 0
  highRaised : Bool := false
  isoRaised : Bool := false
  refused : Bool := false
  delay : Nat := 0
deriving DecidableEq, Repr

/-- An occurrence of an event (R474), with the route that stood when it was raised (R475). -/
structure Occ where
  num : Nat
  source : Nat
  value : Word
  detail : List Word
  ns : Word
  cfg : Word
  tgt : Word
deriving DecidableEq, Repr

/-- An entry of the Logbook intake (R485, R486): an occurrence, a NOTE, or the OVERFLOW record of R486 with its pairs. -/
inductive LogEntry where
  | event (o : Occ)
  | note (value ns : Word)
  | overflow (dropped : Nat) (sources : Nat) (pairs : List (Nat × Nat)) (ns : Word)
deriving DecidableEq, Repr

/-- The Logbook (R481 to R491): the intake FIFO, the entry being assembled, the staged records with their SEQ (oldest first), the next SEQ, the
operating time in ms at a tick and its stored copy, the drops since the last OVERFLOW record, the flush in progress and how many staged records it
covers, whether PFAIL_N was accepted, and the 8 MiB MRAM store as bytes; an MRAM byte never written reads 0 (R491). -/
structure Log where
  fifo : List LogEntry := []
  asm : Option LogEntry := none
  staged : List (Nat × List Byte) := []
  seq : Nat := 0
  opTime : Nat := 0
  opTick : Nat := 0
  opStored : Nat := 0
  dropped : Nat := 0
  flushing : Bool := false
  flushN : Nat := 0
  pfail : Bool := false
  mram : List Host.Cell := []
deriving DecidableEq, Repr

/-- One temperature sensor (R495, R496): last raw reading in 1/16 °C and oscillator count, the runs of R495, whether it is broken, and its effective
reading in 1/32 °C. -/
structure TempSensor where
  raw : Int := 0
  osc : Nat := 0
  sameRun : Nat := 0
  divRun : Nat := 0
  goodRun : Nat := 0
  read : Bool := false
  broken : Bool := false
  eff : Int := 0
deriving DecidableEq, Repr

/-- One voltage or clock monitor (R499, R500): the last reading, and the runs of rounds outside and inside the limits; for CM12–15, the quads whose PLL
is outside its tolerance in the last reading and in the one before. -/
structure Monitor where
  value : Nat := 0
  outRun : Nat := 0
  inRun : Nat := 0
  read : Bool := false
  quads : Nat := 0
  quadsOld : Nat := 0
deriving DecidableEq, Repr

/-- The health block (R493 to R505): sensors TS0–47, monitors VM0–63 and CM0–15, the run of rounds towards a lower level, the safe state's cause,
whether the Trip path has started and whether it has stopped the clocks, whether the Course PLL has its 1 ms of grace, whether the Oar PLL is out, Tj in
1/16 °C, and the rounds in which the Vault's sensors and VDD_AON were good (R469). -/
structure Health where
  ts : Table TempSensor := []
  vm : Table Monitor := []
  cm : Table Monitor := []
  fallRun : Nat := 0
  fatal : Option Nat := none
  trip : Bool := false
  clocksStopped : Bool := false
  courseGrace : Bool := false
  oarPllBad : Bool := false
  tj : Int := 0
  vaultRun : Nat := 0
  aonRun : Nat := 0
deriving DecidableEq, Repr

/-- What leaves the block on its pins, links and buses, in order. -/
inductive Out where
  /-- An MSI-X message on a vector (R437, R476). -/
  | msix (vector : Nat)
  /-- A PCIe write to host memory. -/
  | hostWrite (addr : Nat) (data : List Byte)
  /-- A read request to host memory. -/
  | hostRead (addr : Nat) (length : Nat)
  /-- A pulse on a GPIO ball, or on a trigger ball, of a width in ticks. -/
  | gpioPulse (ball : Nat) (high : Bool) (width : Nat)
  /-- A trigger to a sensor head. -/
  | trigger (head : Nat) (detail : Nat)
  /-- Control and data blocks on a head's command lane (R167). -/
  | cmdLane (head : Nat) (blocks : List Byte)
  /-- A set-up script access on a port's sensor SPI or I2C (R182). -/
  | sensorBus (port : Nat) (op : Nat) (addr : Nat) (data : Nat)
  /-- A frame on an Ethernet port. -/
  | packet (port : Nat) (data : List Byte)
  /-- An NVMe command to a drive: port, opcode (0x100 for a controller reset), start block, blocks, tag, and the data of a Write, none for a Write
  of zeros (R360, R361). -/
  | nvme (port : Nat) (op : Nat) (lba : Nat) (blocks : Nat) (tag : Nat) (data : List Byte)
  /-- The start of an output frame: its number, the timecode it carries (R287), payload identifier, and the packets sent with it (R289). -/
  | scanFrame (head : Nat) (frame : Word) (timecode : Option Word) (st352 : Word) (packets : List (List Word))
  /-- One output line of a scan-out head: the codes of its components Y, Cb and Cr, or R, G and B; empty where the line carries none. -/
  | scanLine (head : Nat) (line : Nat) (components : List (List Nat))
  /-- Sample frames that a scan-out head carries with a line, one word per channel (R288). -/
  | scanAudio (head : Nat) (frames : List (List Word))
  /-- Samples of an audio frame sent on a transmit port, one word per slot. -/
  | audioFrame (port : Nat) (slots : List Word)
  /-- A DDC or AUX access of a scan-out head (R290). -/
  | sideband (head : Nat) (write : Bool) (addr : Nat) (data : List Byte)
  /-- Bytes from the PCIe endpoint in answer to a BAR2 read (R436). -/
  | bar2Data (data : List Byte)
deriving DecidableEq, Repr

end Sys2Proof.Machine
end

