-- ==== Sys2Proof/Machine/StCall.lean ====
section
/-! DEFINITION. State of Calls, Answers, MSI-X and the host DMA channels beyond their registers (R437 to R444), and of the Botos Vault
(R454 to R473). -/

namespace Sys2Proof.Machine

/-- What a Call in progress waits for before its Answer (R444): the Rig controller, the verification of the store of queue `q`, the apply or the seal of a
recording channel, a mount, a format, a deletion, or the Vault. -/
inductive WaitFor where
  | rig
  | cal (q : Nat)
  | recStart (c : Nat)
  | recSeal (c : Nat)
  | mount (m : Nat)
  | format (m : Nat)
  | delete (m e : Nat)
  | vault
deriving DecidableEq, Repr

/-- A Call entry (R440). -/
structure Call where
  op : Nat
  tag : Nat
  args : List Nat
  addr : Nat
  len : Nat
deriving DecidableEq, Repr

/-- An Answer that waits to be written (R441): its Call queue, tag, status, CALL_HEAD and results. -/
structure Answer where
  queue : Nat
  tag : Nat
  status : Nat
  head : Nat
  r0 : Nat
  r1 : Nat
deriving DecidableEq, Repr

/-- A Call queue (R439): its entries in BAR4 as written by the host, the Call in progress and what it waits for (none: its Answer waits for room),
and whether a write of EN 0 awaits its Answer. -/
structure CallQ where
  entries : Table (List Byte) := []
  cur : Option (Call × Option WaitFor) := none
  stop : Bool := false
deriving DecidableEq, Repr

/-- An Answer queue (R441): the PHASE of the pass, and the Answers that wait for room. -/
structure AnsQ where
  phase : Bool := true
  wait : List Answer := []
deriving DecidableEq, Repr

/-- An MSI-X vector (R437): mask and pending bit, masked after reset as PCIe gives it. -/
structure MsixVec where
  masked : Bool := true
  pending : Bool := false
deriving DecidableEq, Repr

/-- Calls, Answers, MSI-X vectors, and the host DMA channels that read a descriptor ring. -/
structure CallSt where
  q : Table CallQ := []
  a : Table AnsQ := []
  msix : Table MsixVec := []
deriving DecidableEq, Repr

/-- What the public-key tests of R458 find for an image: the certificate chain, the signer's organizational unit, KEY_ID against the signer's keys, and
both signatures (log entry 73). -/
structure SigCheck where
  chain : Bool
  unit : Bool
  key : Bool
  sigs : Bool
deriving DecidableEq, Repr

/-- A request to the Vault (R467): its path, 0 to 15 the Call queues and 16 the mailbox, its service code and its bytes. -/
structure VReq where
  path : Nat
  code : Nat
  data : List Byte
deriving DecidableEq, Repr

/-- A verification asked of the Vault (R458): 0 Rig image, 1 calibration store, 2 colour store, with the bytes and the Call queue that asked, 16 none. -/
structure VVerify where
  cls : Nat
  data : List Byte
  path : Nat := 16
deriving DecidableEq, Repr

/-- The Vault beyond its registers: tests passed, Hold and its cause bits, which VLT_STATUS and VLT_HOLD_CAUSE show from LOADER on. `life` is the LIFECYCLE count, `burnt` that the secret fields are overwritten; `rbRig` `rbCal` `rbFw` the rollback
thermometers; `keys` the media keys; `gen` the key-store generation; the RTC as seconds at a tick; the measurements; the ROLLBACK of the image,
store and loader in force; the policy's bytes (none: all zero); challenges per path and their count; open sessions as (role, tick of the last
request), role 1 CO and 2 User; consecutive failures and whether a lockout runs; host requests in order and verifications in order, and which of the two
is in progress (R468), true for a verification; the boot loader received by RECOVERY_LOAD; whether a tamper found without VDD_AON awaits zeroisation. -/
structure Vault where
  ready : Bool := false
  hold : Bool := false
  cause : Nat := 0
  life : Nat := 33
  burnt : Bool := false
  vendor : Nat := 0
  serial : List Byte := List.replicate 16 0
  rbRig : Nat := 0
  rbCal : Nat := 0
  rbFw : Nat := 0
  keys : List (Nat × List Byte) := []
  certs : List Byte := []
  gen : Nat := 0
  storeOk : Bool := true
  rtcValid : Bool := false
  rtcSec : Nat := 0
  rtcTick : Nat := 0
  fwMeas : List Byte := List.replicate 48 0
  rigMeas : List Byte := List.replicate 48 0
  calMeas : List Byte := List.replicate 48 0
  rigIn : Nat := 0
  calIn : Nat := 0
  fwIn : Nat := 0
  policy : List Byte := []
  chal : Table (List Byte) := []
  chalCount : Nat := 0
  sess : Table (Option (Nat × Nat)) := []
  fails : Nat := 0
  locked : Bool := false
  queue : List VReq := []
  verify : List VVerify := []
  turn : Option Bool := none
  loader : List Byte := []
  tampWait : Bool := false
deriving DecidableEq, Repr

end Sys2Proof.Machine
end

