-- ==== Sys2Proof/Machine/StDecode.lean ====
section
/-! DEFINITION. State of the decoder sessions beyond their registers (R383 to R395). -/

namespace Sys2Proof.Machine

/-- What loading a source tells (R386): the essence, 1 ZRX, 2 HEVC, 3 VVC, 0 none of R369; its size, rate in millifps and frames; whether it is
intra-only and Quad-Bayer; the file offset of each content package in coding order and of the end of the last; and the packages that are IRAP. -/
structure DecInfo where
  codec : Nat
  w : Nat
  h : Nat
  rate : Nat
  frames : Nat
  intra : Bool
  quad : Bool
  starts : List Nat
  stop : Nat
  keys : List Nat
deriving DecidableEq, Repr

/-- What decoding one HEVC or VVC picture gives (R384, R392, R393): its display position, POC, whether it is an IRAP, whether it is discarded as RASL or
as outside capability, errors of coding found, concealed rectangles of luma samples (x, y, w, h) and the CTUs they make up, references replaced,
the POCs of its references, chroma format, depth, range and matrix of the VUI, and its sample planes with the conformance window applied. -/
structure DecCoded where
  pos : Int
  poc : Int
  irap : Bool
  rasl : Bool
  unsup : Bool
  syntaxErr : Nat
  areas : List (Nat × Nat × Nat × Nat)
  ctus : Nat
  missing : Nat
  refs : List Int
  chroma : Nat
  depth : Nat
  full : Bool
  matrix : Nat
  planes : List (List (List Nat))
deriving DecidableEq, Repr

/-- A content package being read, or read (R386, R387): its place in coding order, whether every part came without error, its parts by tag, and the
bytes before its first one in the first block. -/
structure DecPkg where
  idx : Nat
  ok : Bool := true
  parts : List (Nat × Option (List Byte)) := []
  skip : Nat := 0
  len : Nat := 0
deriving DecidableEq, Repr

/-- A picture that awaits its output (R390, R391): display position, trailer fields, size, and its bytes with their offsets in the buffer. -/
structure DecOut where
  pos : Int
  seq : Word
  group : Word
  time : Word
  flags : Nat
  poc : Word
  conceal : Nat
  w : Nat
  h : Nat
  size : Nat
  body : List (Nat × List Byte)
deriving DecidableEq, Repr

/-- One session. `cmd` is the command in progress (OP, DIR, ARG, SET); `clip` the source loaded, with its set and entry; `key` the clip key; `back` that
play runs in reverse; `shown` the last position output, or none and then `seek` is the next; `skipTo` bounds positions decoded and not output;
`next` the next package to read; `reading` and `pkgs` packages in reading and read; `ready` decoded pictures by position; `first` the position that
took the first pacing event of the command and `evs` the events since; `step` that one picture is to be output; `buf` the next buffer; `count` the
outputs; `prev` the previous decoded picture and `good` the last correctly decoded one; `marks` which POCs are predicted from a substitute; `div`
the frame starts since a MODE 1 event. -/
structure DecS where
  cmd : Option (Nat × Bool × Nat × Nat) := none
  clip : Option (DecInfo × Nat × Nat) := none
  key : Option (List Byte) := none
  back : Bool := false
  shown : Option Int := none
  seek : Int := 0
  skipTo : Int := 0
  next : Nat := 0
  reading : Option DecPkg := none
  pkgs : List DecPkg := []
  ready : List DecOut := []
  first : Option Int := none
  evs : Nat := 0
  step : Bool := false
  buf : Nat := 0
  count : Nat := 0
  prev : List (List (List Nat)) := []
  good : List (List (List Nat)) := []
  marks : List (Int × Bool) := []
  marking : Bool := false
  div : Nat := 0
deriving DecidableEq, Repr

end Sys2Proof.Machine
end

