-- ==== Sys2Proof/Machine/StCatch.lean ====
section
/-! DEFINITION. State of the raw front end beyond its registers (R184 to R214), per head. -/

namespace Sys2Proof.Machine

/-- What the port passes to Catch about a frame (R176, R177, R214): SPT_H_FRAMES at Frame Start, the Zevlink frame number, the group frame, the
times at its start and close, the counts of substituted and kept lines, and the lines marked in LINE_MAP. -/
structure FrameInfo where
  seq : Word := 0
  number : Nat := 0
  group : Word := 0xFFFFFFFF
  tStart : Word := 0
  tClose : Word := 0
  tb1 : Word := 0
  subst : Nat := 0
  kept : Nat := 0
  map : List Nat := []
  incomplete : Bool := false
deriving DecidableEq, Repr

/-- One line of the line stream to Drive (R209): FP32 values, and per photosite the flags corrected 1, saturated 2, ghosted 4, substituted 8. -/
structure SLine where
  line : Nat
  vals : List Word
  flags : List Nat
deriving DecidableEq, Repr

/-- One readout of a line in merge memory (R206): readout, q values, corrected flags, and whether the port substituted the line. -/
structure MergePart where
  readout : Nat
  q : List Nat
  corr : List Bool
  subst : Bool
deriving DecidableEq, Repr

/-- An incomplete line in merge memory (R206). -/
structure MergeLine where
  line : Nat
  parts : List MergePart
deriving DecidableEq, Repr

/-- A flagged photosite reported to the learner (R202): row, column, score. -/
structure DynFlag where
  row : Nat
  col : Nat
  score : Word
deriving DecidableEq, Repr

/-- A frame in progress in Catch: its raw buffer, the head temperature taken at Frame Start, merge memory oldest first, the lines already merged,
the last eight stage-3 lines of each readout newest first (R200), the counts of R207 and R208, and the flags for the learner. -/
structure CatFrame where
  buf : Option Nat := none
  temp : Option Int := none
  merge : List MergeLine := []
  merged : List Nat := []
  hist : Table (List (List Word)) := []
  overruns : Nat := 0
  ghost : Nat := 0
  allsat : Nat := 0
  dyn : List DynFlag := []
deriving DecidableEq, Repr

/-- A calibration or colour store section (R193): head, TYPE, READOUT, MODE_TAG, ZL_ID, ENTRIES and its entries as bytes. -/
structure CalSection where
  head : Nat
  typ : Nat
  readout : Nat
  tag : Nat
  zlId : Nat
  entries : Nat
  data : List Byte
deriving DecidableEq, Repr

/-- A verified store (R193, R194): its CAL_ID, the hash of its header, whether it has applied to a head (R459), and its sections. -/
structure CalStore where
  id : List Byte := []
  hash : List Byte := []
  used : Bool := true
  sections : List CalSection := []
deriving DecidableEq, Repr

/-- One head of the raw front end. Tables are keyed by (TYPE × 4 + READOUT) × 65,536 + entry; `factHas` names the tables a store section serves.
Contexts are keyed by their index in the context memory; an unlisted entry is empty. `active` is the raster index in force, `built` one that
awaits a Frame Start, `idxDue` one being built. `k` holds the clamp levels at 4 r + p. -/
structure CatH where
  fact : Table Word := []
  factHas : List Nat := []
  user : Table Word := []
  shadow : Table Word := []
  ctx : Table (BitVec 96) := []
  ctxShadow : Table (BitVec 96) := []
  nFact : Nat := 0
  active : List (Nat × BitVec 96) := []
  built : Option (List (Nat × BitVec 96)) := none
  idxDue : Bool := false
  query : Bool := false
  calDue : Bool := false
  calId : List Byte := []
  k : Table Word := []
  kInit : Bool := true
  temp : Option (BitVec 16) := none
  frame : Option CatFrame := none
  rawNext : Nat := 0
  stream : List SLine := []
  streamSeq : Word := 0
deriving DecidableEq, Repr

end Sys2Proof.Machine
end

