-- ==== Sys2Proof/Machine/StEncode.lean ====
section
/-! DEFINITION. State of the encoder cores beyond their registers (R296 to R327). -/

namespace Sys2Proof.Machine

/-- A source frame taken by a session (R303): ring and buffer, what its trailer tells, its number among the offers, the offers since the frame taken
before it, itself included, and whether an offer was skipped before it. -/
structure EncFrame where
  ring : Nat
  buf : Nat
  info : FrameInfo
  idx : Nat
  gap : Nat
  skipped : Bool
deriving DecidableEq, Repr

/-- A picture to code, in coding order (R308, R310): the frame's number, type 0 I, 1 P, 2 B, and whether it is an IRAP. -/
structure EncPlan where
  idx : Nat
  typ : Nat
  irap : Bool
deriving DecidableEq, Repr

/-- The session values that a session commit changes (R324): CROP_XY, ROI_EN, RC, QP, BITRATE, MAXRATE, CPB, HARD_CAP, VUI, and the ROI rectangles
as (XY, WH, CTL). -/
structure EncCfg where
  cropXY : Word := 0
  roiEn : Bool := false
  rc : Word := 0x00330000
  qp : Word := 0x1E20201E
  bitrate : Word := 0
  maxrate : Word := 0
  cpb : Word := 0
  hardCap : Word := 0
  vui : Word := 0x00010101
  roi : List (Word × Word × Word) := []
deriving DecidableEq, Repr

/-- What the engine's coding of one CTU offers (R318): the rate-control QP, and the bits of the CTU in phases 1, 2 and 3. -/
structure CtuCand where
  qp : Nat
  normal : Nat
  maxQp : Nat
  floor : Nat
deriving DecidableEq, Repr

/-- A picture in progress (R318, R321): its session and frame, type, POC, cap C, phase, bits written B, the CTU row reached, the slices not yet
started, bits and count of its phase-2 CTUs, record flags, the first row that a close floor-coded, payload so far, the luma, Cb and Cr codes of the
coded picture (R304), and the QP of the quantisation groups of the last row. -/
structure EncPic where
  session : Nat
  frame : EncFrame
  typ : Nat
  irap : Bool
  poc : Nat
  cap : Nat
  phase : Nat := 1
  bits : Nat := 0
  row : Nat := 0
  slices : Nat := 0
  p2Bits : Nat := 0
  p2Ctus : Nat := 0
  flags : Nat := 0
  lateRow : Option Nat := none
  payload : List Byte := []
  source : List (List (List Nat)) := []
  groupQp : List Nat := []
deriving DecidableEq, Repr

/-- One session: active values, the input queue oldest first, offers so far, the number of the frame taken last, whether an offer was skipped since,
the number of the last IDR's frame, pictures coded since the last IRAP (none before the first), whether the next picture must be an IRAP, the plan of
complete GOPs, frames not yet in a GOP, the refresh column reached, CPB fullness in bits, Fq of each kind, and whether a close came before the picture
started. -/
structure EncSess where
  act : EncCfg := {}
  queue : List EncFrame := []
  offers : Nat := 0
  lastIdx : Nat := 0
  skipped : Bool := false
  idrIdx : Nat := 0
  since : Option Nat := none
  force : Bool := false
  plan : List EncPlan := []
  gop : List Nat := []
  sweep : Nat := 0
  fullness : Option Nat := none
  fq : Option Nat := none
  closed : Bool := false
deriving DecidableEq, Repr

/-- One core: the picture in progress, and the sessions whose pictures have started and wait for the core, in order (R296). -/
structure EncCore where
  cur : Option EncPic := none
  wait : List Nat := []
deriving DecidableEq, Repr

end Sys2Proof.Machine
end

