-- ==== Sys2Proof/Machine/StEngine.lean ====
section
/-! DEFINITION. State of the Oars and Coaches beyond their registers (R411 to R428). -/

namespace Sys2Proof.Machine

/-- A wake-up in a task's queue (R417, R478): the slot, or 0x3FE with its event number; TB0 NS; and the wake-ups merged into it. -/
structure Wake where
  slot : Nat
  event : Nat := 0
  ns : Word
  merged : Nat := 0
deriving DecidableEq, Repr

/-- What a context waits for (R419, R420): a word for a register, room for a word, elements for a vector register, room for elements, a delivery of a
selection, a delivery that has come with its result, a ticket to be free, or the end of a DMA. -/
inductive OarWait where
  | pop (rd port : Nat)
  | push (port : Nat) (v : BitVec 64)
  | vpop (vd port : Nat)
  | vpush (port : Nat) (vs : List (BitVec 64))
  | swait (rd sel : Nat) (timed : Bool)
  | got (rd : Nat) (v : BitVec 64)
  | dmaStart (rd addr : Nat)
  | dmaWait (rd ticket : Nat)
deriving DecidableEq, Repr

/-- A DMA ticket (R420): its number, its descriptor, and its status once it is complete. -/
structure Ticket where
  num : Nat
  desc : List Byte
  status : Option Nat := none
deriving DecidableEq, Repr

/-- A context (R411, R412): pc, integer, floating-point and vector registers, vl and SEW, CSRs by number; clocks and instructions counted; whether a trap
has no mret yet; budget left in the period; what it waits for and the tick since when; the selection of its last SWAIT; its wake queue; its
tickets and the next ticket number; and the tick from which its delay is still to be counted (R417). -/
structure OarCtx where
  pc : BitVec 64 := 0
  x : Table (BitVec 64) := []
  f : Table (BitVec 64) := []
  v : Table (BitVec 512) := []
  vl : Nat := 0
  sew : Nat := 64
  csrs : Table (BitVec 64) := []
  cycle : Nat := 0
  instret : Nat := 0
  inTrap : Bool := false
  budget : Nat := 0
  wait : Option OarWait := none
  waitAt : Nat := 0
  sel : Option Nat := none
  queue : List Wake := []
  tickets : List Ticket := []
  nextTicket : Nat := 1
  delayAt : Nat := 0
deriving DecidableEq, Repr

/-- What a context's RISC-V instructions, which are no rows of the table, have left since its last command: pc, clocks and instructions, the registers
and CSRs written, vl and SEW (0 where vtype is illegal), whether an mret was executed, the bytes stored by Oar address, and the 32-bit accesses through a
BAR0 window in order, a write with its word (R411, R413). -/
structure OarRun where
  pc : BitVec 64
  clocks : Nat := 0
  retired : Nat := 0
  x : List (Nat × BitVec 64) := []
  f : List (Nat × BitVec 64) := []
  v : List (Nat × BitVec 512) := []
  csrs : List (Nat × BitVec 64) := []
  vl : Nat := 0
  sew : Nat := 64
  mret : Bool := false
  stores : List (Nat × Byte) := []
  bus : List (Nat × Option Word) := []
deriving DecidableEq, Repr

/-- The Eights: contexts by 64 × Eight + 8 × logical seat + context, stream ports by 8 × Eight + port, local memory by (9 × Eight + physical seat) × 2^18 +
address, and shared memory by Eight × 2^21 + address (R412, R413, R418); the ticks of corrected errors by 9 × Eight + physical seat (R424). -/
structure EngSt where
  ctx : Table OarCtx := []
  fifo : Table (List (BitVec 64)) := []
  mem : Table Byte := []
  shared : Table Byte := []
  ceAt : Table (List Nat) := []
deriving DecidableEq, Repr

end Sys2Proof.Machine
end

