-- ==== Sys2Proof/Machine/StRecord.lean ====
section
/-! DEFINITION. State of the recording channels, media sets and root ports beyond their registers (R353 to R381). -/

namespace Sys2Proof.Machine

/-- What a drive says of itself when its link trains (R359, R360): PCIe generation and width, whether namespace 1 has a 4,096-byte LBA format and
whether it is in use, its blocks, the largest transfer in bytes (MDTS), and its serial number. -/
structure DriveId where
  speed : Nat
  width : Nat
  fmtOk : Bool
  fmtNow : Bool
  blocks : Nat
  mdts : Nat
  serial : List Byte
deriving DecidableEq, Repr

/-- Why an NVMe command was issued: clip data of a channel from one byte of the file to another; step `n` of a channel's checkpoint or seal; an
administrative step of a set; step `n` of a deletion; a playback read of a session; the Abort of a tag. -/
inductive NvUse where
  | data (c lo hi : Nat)
  | ckpt (c k n : Nat)
  | set (m : Nat)
  | delete (m e n : Nat)
  | read (d : Nat)
  | abort (tag : Nat)
deriving DecidableEq, Repr

/-- An NVMe command outstanding on a root port. `op` is the NVMe opcode: 0 Flush, 1 Write, 2 Read, 9 Dataset Management, 0x80 Format NVM, 8 Abort. -/
structure NvCmd where
  tag : Nat
  op : Nat
  use : NvUse
deriving DecidableEq, Repr

/-- A root port: outstanding commands, the next tag, and what its drive is. -/
structure NvPort where
  cmds : List NvCmd := []
  next : Nat := 0
  drive : Option DriveId := none
deriving DecidableEq, Repr

/-- A run of set stripes that holds a run of file stripes (R366). -/
structure Extent where
  file : Nat
  set : Nat
  count : Nat
deriving DecidableEq, Repr

/-- A directory entry (R366). `extents` and `chain` are those of the whole clip: its continuation entries in order; a continuation entry itself has
KIND 2. `copy` is the copy last written. -/
structure DirEnt where
  state : Nat := 0
  kind : Nat := 0
  chan : Nat := 0
  flags : Nat := 0
  jseq : Nat := 0
  clipId : List Byte := List.replicate 16 0
  name : List Byte := List.replicate 32 0
  startTc : Word := 0
  frames : Nat := 0
  length : Nat := 0
  utc : Nat := 0
  peer : Nat := 0xFFFFFFFF
  extents : List Extent := []
  chain : List Nat := []
  keyId : Nat := 0
  wrapped : List Byte := List.replicate 40 0
  rigId : List Byte := List.replicate 16 0
  calId : List Byte := List.replicate 16 0
  copy : Bool := true
deriving DecidableEq, Repr

/-- What a mount read: superblock blocks 0 and 1 of each root port, directory entries of 2,048 bytes, journal blocks, and for each entry the bytes of
the block that holds its end. -/
structure MountRead where
  supers : List (Nat × List Byte × List Byte) := []
  dir : List (Nat × List Byte) := []
  journal : List (Nat × List Byte) := []
  tails : List (Nat × List Byte) := []
deriving DecidableEq, Repr

/-- A journal record (R365) without its SEQ. -/
structure JRec where
  typ : Nat
  chan : Nat
  entry : Nat
  a : Nat := 0
  b : Nat := 0
deriving DecidableEq, Repr

/-- A media set: root ports by DRIVE_INDEX, SET_UUID, the directory as mounted, the bytes of each directory copy (key 2 × entry + copy), the next
journal SEQ and block, and where the next run is looked for (R362 to R367). -/
structure RecSet where
  disks : List Nat := []
  uuid : List Byte := List.replicate 16 0
  stripes : Nat := 0
  dir : Table DirEnt := []
  raw : Table (List Byte) := []
  jSeq : Nat := 0
  jBlock : Nat := 0
  nextFit : Nat := 80
deriving DecidableEq, Repr

/-- A picture frame as a channel takes it (R353, R370): SEQ, T_START or T_SRC, GROUP_FRAME, frame flags, SUBST, CAL_ID, whether a clip may start with
it, and the element value. -/
structure RecFrame where
  seq : Word
  time : Word
  group : Word
  flags : Nat
  subst : Word
  calId : List Byte
  key : Bool
  data : List Byte
deriving DecidableEq, Repr

/-- A sound sample frame of one port: its time in 1/(256 fs) ns, and the words of the enabled slots. -/
structure RecSample where
  time : Int
  fs : Nat
  slots : List Word
deriving DecidableEq, Repr

/-- A checkpoint in progress, or the seal (`k` 0): the file bytes and frames it covers; its step, 1 waiting for data, 2 flushing, 3 writing the
journal, 4 flushing the journal; and the commands still out (R375, R376). -/
structure Ckpt where
  k : Nat
  length : Nat
  frames : Nat
  step : Nat := 1
  left : Nat := 0
deriving DecidableEq, Repr

/-- An open clip. `file` is the MXF file so far; `sent` bytes are issued, `acked` lists completed writes beyond `done`; `pre` bytes came from
pre-record, of which `preLeft` frames are not wrapped yet; `index` the starts of the content packages and `part` how many of them the partitions hold; `fresh` the runs not yet journaled; `ext0` the
extended stamp of frame 0; `wait` frames with their extended stamps that are not wrapped yet; `sound` samples of each port; `tc` the next frame's
timecode; `ck` the next checkpoint; `cause` the cause of its end, 0 while it runs. -/
structure Clip where
  entry : Nat
  file : List Byte
  sent : Nat := 0
  done : Nat := 0
  acked : List (Nat × Nat) := []
  pre : Nat := 0
  preLeft : Nat := 0
  frames : Nat := 0
  index : List Nat := []
  part : Nat := 0
  fresh : List Extent := []
  ext0 : Int := 0
  wait : List (RecFrame × Int) := []
  sound : Table (List RecSample) := []
  tc : Word := 0
  ck : Nat := 1
  cks : List Ckpt := []
  key : Option (List Byte) := none
  incomplete : Bool := false
  cause : Nat := 0
deriving DecidableEq, Repr

/-- A recording channel: frames held in pre-record, a START that waits for its frame, with the key and wrapped key it got and the name it latched, the
access unit being read, the 64-bit extension of TB0 and the NS it was made at (R372), the open clip, and the code it stops with after its seal. -/
structure RecC where
  hold : List RecFrame := []
  start : Bool := false
  key : Option (List Byte) := none
  wrapped : List Byte := List.replicate 40 0
  name : List Byte := List.replicate 32 0
  unit : List Byte := []
  ext : Int := 0
  extNs : Word := 0
  clip : Option Clip := none
  after : Nat := 0
  held : Bool := false
deriving DecidableEq, Repr

end Sys2Proof.Machine
end

