-- ==== Sys2Proof/Syntax.lean ====
section
/-! DEFINITION. The commands of the block: one constructor per row of the opcode table, in its order. An operand is what the sender of the command gives
(an index, a register word, received bytes) or what the spec leaves to the world outside (what a drive, a sensor head or a test answered). -/

namespace Sys2Proof

open Sys2Proof.Machine

/-- A command. -/
inductive Instr where
  /-- HOST_REGISTER_WRITE (R7). -/
  | hostRegisterWrite (addr : BitVec 28) (size : Fin 4) (v : BitVec 64) (hw : Word)
  /-- UNMAPPED_ACCESS (R39). -/
  | unmappedAccess (addr : BitVec 28) (size : Fin 4) (write : Bool)
  /-- STK_TB0_NOW_READ (R140). -/
  | stkTb0NowRead
  /-- UMP_S_DELAY_LO_READ (R105). -/
  | umpSDelayLoRead (r : Fin 1024)
  /-- VLT_RTC_LO_READ (R467). -/
  | vltRtcLoRead
  /-- LOG_SEQ_LO_READ (R491). -/
  | logSeqLoRead
  /-- LOG_OPTIME_LO_READ (R483). -/
  | logOptimeLoRead
  /-- POWER_ON_RESET (R106). -/
  | powerOnReset (aon : Bool) (off : Word) (dens : BitVec 2) (clam agree : Bool)
  /-- BOOT_PLL_LOCKED (R113). -/
  | bootPllLocked
  /-- SELFTEST_DONE (R113). -/
  | selftestDone (pass store : Bool)
  /-- LOADER_VERIFIED (R115). -/
  | loaderVerified (slotB : Bool) (img : List Byte) (k : SigCheck) (descAt : BitVec 22) (script : List Byte)
  /-- G7_TRAINING_DONE (R87). -/
  | g7TrainingDone (rate : BitVec 8) (addr : BitVec 36) (rig : List Byte)
  /-- PADDLE_TIMEOUT (R119). -/
  | paddleTimeout
  /-- HOST_WARM_RESET (R107). -/
  | hostWarmReset
  /-- REGION_RESET (R108). -/
  | regionReset (regions : BitVec 5)
  /-- REGION_DOWN (R110). -/
  | regionDown (regions : BitVec 5)
  /-- REGION_BOUNDARY_REACHED (R108). -/
  | regionBoundaryReached (r : Fin 5)
  /-- REGION_RESET_TIMEOUT (R109). -/
  | regionResetTimeout (r : Fin 5)
  /-- BLOCK_RESET (R111). -/
  | blockReset (bid : BitVec 16)
  /-- BLOCK_RESET_TIMEOUT (R111). -/
  | blockResetTimeout (bid : BitVec 16)
  /-- BLOCK_BOUNDARY_REACHED (R19). -/
  | blockBoundaryReached (bid : BitVec 16)
  /-- SHUTDOWN (R126). -/
  | shutdown (v : Word)
  /-- SHUTDOWN_STEP_DONE (R126). -/
  | shutdownStepDone
  /-- SHUTDOWN_STEP_TIMEOUT (R126). -/
  | shutdownStepTimeout
  /-- RIG_CMD_COMMIT (R56). -/
  | rigCmdCommit
  /-- RIG_CMD_CHECK (R57). -/
  | rigCmdCheck
  /-- RIG_CMD_ABORT (R69). -/
  | rigCmdAbort
  /-- RIG_CMD_REPAIR (R67). -/
  | rigCmdRepair (e : Byte) (p : BitVec 4)
  /-- RIG_IMAGE_COPIED (R56). -/
  | rigImageCopied
  /-- RIG_CHECKS_COMPLETE (R57). -/
  | rigChecksComplete
  /-- RIG_BLOCK_HELD (R60). -/
  | rigBlockHeld (bid : BitVec 16)
  /-- RIG_BOUNDARY_TIMEOUT (R60). -/
  | rigBoundaryTimeout
  /-- EIGHT_REMAP_RESTART (R425). -/
  | eightRemapRestart (e : Fin 32)
  /-- CELL_CORRECTED_ERROR (R424). -/
  | cellCorrectedError (bid : BitVec 16) (seat : Fin 9)
  /-- CELL_UNCORRECTABLE_ERROR (R501). -/
  | cellUncorrectableError (unit : FaultUnit) (seat : Option (Fin 9))
  /-- COX_CONTROL_PARITY_ERROR (R501). -/
  | coxControlParityError (bid : BitVec 16)
  /-- COX_ANSWER_TIMEOUT (R502). -/
  | coxAnswerTimeout (bid : BitVec 16)
  /-- COURSE_PORT_ERROR (R502). -/
  | coursePortError (r : Fin 5)
  /-- STREAM_BOUNDARY_STOP (R34). -/
  | streamBoundaryStop (k : BitVec 32)
  /-- GDDR7_REQUEST (R95). -/
  | gddr7Request (r : Fin 1024) (write : Bool) (a : BitVec 36) (data : List Byte) (length : BitVec 25) (waited alone course : Word) (fails : Fin 5) (ecc : EccOutcome)
  /-- G7_CHANNEL_RETRAIN (R91). -/
  | g7ChannelRetrain (ch : Fin 8)
  /-- STREAM_DATA_PRODUCED (R99). -/
  | streamDataProduced (r : Fin 1024) (n taken : Word)
  /-- STREAM_DATA_CONSUMED (R101). -/
  | streamDataConsumed (r : Fin 1024) (n : Word)
  /-- TB0_INC_WRITE (R132). -/
  | tb0IncWrite (v : Word) (servo : Bool)
  /-- TB0_STEP (R133). -/
  | tb0Step (v : Word) (servo : Bool)
  /-- TB0_WRAP (R449). -/
  | tb0Wrap
  /-- TB1_MODE_WRITE (R135). -/
  | tb1ModeWrite (v : Word)
  /-- GENLOCK_PULSE (R136). -/
  | genlockPulse (lines : BitVec 14) (lineQ16 : Word)
  /-- TB1_HOLDOVER_TIMEOUT (R136). -/
  | tb1HoldoverTimeout
  /-- TB1_ALIGN_WRITE (R137). -/
  | tb1AlignWrite (v : Word)
  /-- TB1_ALIGN_REACHED (R137). -/
  | tb1AlignReached
  /-- TB3_ENABLE (R139). -/
  | tb3Enable (v : Word)
  /-- MAINS_EDGE_CONFIRMED (R139). -/
  | mainsEdgeConfirmed
  /-- TB3_HOLDOVER_TIMEOUT (R139). -/
  | tb3HoldoverTimeout
  /-- SLOT_ARM (R143). -/
  | slotArm (n : Fin 512)
  /-- SLOT_DISARM (R143). -/
  | slotDisarm (n : Fin 512) (matching : Bool)
  /-- SLOT_COMPARE_WRITE (R146). -/
  | slotCompareWrite (n : Fin 512) (v : Word) (matching : Bool)
  /-- SLOT_MATCH (R143). -/
  | slotMatch (n : Fin 512)
  /-- SLOT_DELIVERY (R143). -/
  | slotDelivery (errs : List Word)
  /-- GPIO_PULSE_END (R142). -/
  | gpioPulseEnd (g : Fin 64)
  /-- PTP_P_TXQ_POP (R150). -/
  | ptpPTxqPop (p : Fin 8)
  /-- PTP_ANNOUNCE_TIMEOUT (R151). -/
  | ptpAnnounceTimeout (eight : Fin 4)
  /-- LANE_IDLE_EXIT (R163). -/
  | laneIdleExit (h : Fin 8)
  /-- EQ_ADAPT_DONE (R163). -/
  | eqAdaptDone (h : Fin 8)
  /-- TRAIN_TIMEOUT (R163). -/
  | trainTimeout (h : Fin 8)
  /-- LOCK_TIMEOUT (R163). -/
  | lockTimeout (h : Fin 8)
  /-- ZL_BLOCK_INVALID (R156). -/
  | zlBlockInvalid (h : Fin 8) (k : Nat) (valid : Nat)
  /-- ZL_ALIGN (R162). -/
  | zlAlign (h : Fin 8) (lanes : List (BitVec 56 × Byte))
  /-- ZL_TRAIN (R163). -/
  | zlTrain (h : Fin 8) (k : Nat) (c : BitVec 56)
  /-- ZL_IDLE (R158). -/
  | zlIdle (h : Fin 8) (k : Nat) (c : BitVec 56)
  /-- ZL_FRAME_START (R171). -/
  | zlFrameStart (h : Fin 8) (c : BitVec 56)
  /-- ZL_LINE_START (R171). -/
  | zlLineStart (h : Fin 8) (c : BitVec 56)
  /-- ZL_PAYLOAD (R159). -/
  | zlPayload (h : Fin 8) (d : BitVec 64)
  /-- ZL_LINE_END (R171). -/
  | zlLineEnd (h : Fin 8) (c : BitVec 56)
  /-- ZL_FRAME_END (R175). -/
  | zlFrameEnd (h : Fin 8) (c : BitVec 56)
  /-- ZL_STATUS (R183). -/
  | zlStatus (h : Fin 8) (c : BitVec 56)
  /-- ZL_RESPONSE (R167). -/
  | zlResponse (h : Fin 8) (c : BitVec 56) (d : BitVec 64)
  /-- ZL_SLEEP (R169). -/
  | zlSleep (h : Fin 8) (c : BitVec 56)
  /-- LINE_TIMEOUT (R173). -/
  | lineTimeout (h : Fin 8)
  /-- FRAME_TIMEOUT (R175). -/
  | frameTimeout (h : Fin 8)
  /-- SG_DEADLINE (R177). -/
  | sgDeadline (g : Fin 4)
  /-- SG_REJOIN_WRITE (R178). -/
  | sgRejoinWrite (g : Fin 4) (v : Word)
  /-- SPT_CMD_GO (R168). -/
  | sptCmdGo (p : Fin 8) (v : Word)
  /-- SPT_CMD_TIMEOUT (R168). -/
  | sptCmdTimeout (h : Fin 8)
  /-- CMDL_TX_IDLE_TIMEOUT (R169). -/
  | cmdlTxIdleTimeout (h : Fin 8)
  /-- CMDL_WAKE_TIMEOUT (R169). -/
  | cmdlWakeTimeout (h : Fin 8)
  /-- TRIGGER_PULSE_END (R170). -/
  | triggerPulseEnd (h : Fin 8)
  /-- SPT_L_BITSLIP (R181). -/
  | sptLBitslip (p : Fin 8) (l : Fin 12) (v : Word)
  /-- LEGACY_ALIGN (R181). -/
  | legacyAlign (p : Fin 8) (v : Word)
  /-- LEGACY_ALIGN_DONE (R181). -/
  | legacyAlignDone (p : Fin 8) (offs : List (Option Nat))
  /-- LEGACY_RUN (R181). -/
  | legacyRun (p : Fin 8) (v : Word)
  /-- LEGACY_SYNC_CODE (R180). -/
  | legacySyncCode (p : Fin 8) (code : Byte)
  /-- SCRIPT_GO (R182). -/
  | scriptGo (p : Fin 8) (v : Word)
  /-- SCRIPT_ENTRY_DONE (R182). -/
  | scriptEntryDone (p : Fin 8) (ok : Bool)
  /-- CAT_USER_COMMIT_GO (R190). -/
  | catUserCommitGo (h : Fin 8) (v : Word)
  /-- CAT_TBL_DATA_ACCESS (R192). -/
  | catTblDataAccess (h : Fin 8) (write : Bool) (v : Word)
  /-- CAT_DEF_DATA_ACCESS (R199). -/
  | catDefDataAccess (h : Fin 8) (write : Bool) (v : Word)
  /-- CAT_DEF_QUERY (R522). -/
  | catDefQuery (h : Fin 8) (v : Word)
  /-- CAT_DEF_QUERY_DONE (R522). -/
  | catDefQueryDone (h : Fin 8)
  /-- DEFECT_INDEX_BUILT (R198). -/
  | defectIndexBuilt (h : Fin 8)
  /-- CAL_STORE_VERIFIED (R194). -/
  | calStoreVerified (colour : Bool) (flash : Option (List Byte)) (k : SigCheck)
  /-- HEAD_TEMP_STALE (R199). -/
  | headTempStale (h : Fin 8)
  /-- BUFFER_RELEASE (R213). -/
  | bufferRelease (ring : Fin 24) (buf : Byte) (reader : BitVec 16)
  /-- DRV_H_COMMIT_GO (R230). -/
  | drvHCommitGo (p : Fin 2) (h : Fin 8) (v : Word)
  /-- DRV_PRECOMPUTE_DONE (R234). -/
  | drvPrecomputeDone (h : Fin 8)
  /-- DRV_H_ILL_DATA_ACCESS (R244). -/
  | drvHIllDataAccess (p : Fin 2) (h : Fin 8) (write : Bool) (v : Word)
  /-- LKP_SWAP (R243). -/
  | lkpSwap (n : Fin 8) (v : Word)
  /-- LKP_BANK_COPY_DONE (R243). -/
  | lkpBankCopyDone (n : Fin 8)
  /-- LKP_TBL_DATA_ACCESS (R243). -/
  | lkpTblDataAccess (n : Fin 8) (hi write : Bool) (v : Word)
  /-- LKP_FRAME_WRITTEN (R246). -/
  | lkpFrameWritten (n : Fin 8)
  /-- LAYER_COMMIT (R263). -/
  | layerCommit (n : Fin 4) (l : Fin 8) (v : Word)
  /-- LAYER_POST (R266). -/
  | layerPost (n : Fin 4) (l : Fin 8) (v : Word)
  /-- BUOY_LEARN (R272). -/
  | buoyLearn (n : Fin 4) (b : Fin 16) (v : Word)
  /-- BUOY_FS_CLEAR (R273). -/
  | buoyFsClear (n : Fin 4) (b : Fin 16) (v : Word)
  /-- WB_FRAME_WRITTEN (R270). -/
  | wbFrameWritten (n : Fin 4)
  /-- TIMING_WRITE (R279). -/
  | timingWrite (n : Fin 4) (v : Word)
  /-- SCN_SOFT_STOP (R283). -/
  | scnSoftStop (n : Fin 4) (v : Word)
  /-- SCN_START (R283). -/
  | scnStart (n : Fin 4) (v : Word)
  /-- SCN_PSR_EXIT (R291). -/
  | scnPsrExit (n : Fin 4) (v : Word)
  /-- SCN_PLL_LOCKED (R281). -/
  | scnPllLocked (n : Fin 4) (us : BitVec 8)
  /-- SCN_RELOCK_TIMEOUT (R281). -/
  | scnRelockTimeout (n : Fin 4)
  /-- SCN_FRAME_START (R277). -/
  | scnFrameStart (n : Fin 4)
  /-- SCN_LINE (R277). -/
  | scnLine (n : Fin 4) (missed : List (Nat × Nat))
  /-- SCN_DELIVERY_TIMEOUT (R284). -/
  | scnDeliveryTimeout (n : Fin 4)
  /-- SCN_SB_GO (R290). -/
  | scnSbGo (n : Fin 4) (v : Word)
  /-- SCN_SB_DONE (R290). -/
  | scnSbDone (n : Fin 4) (ok : Bool) (data : BitVec 128)
  /-- HPD_CHANGE (R290). -/
  | hpdChange (n : Fin 4) (level : Bool)
  /-- SCN_LINK_TRAINED (R290). -/
  | scnLinkTrained (n : Fin 4) (ok psr : Bool)
  /-- ENC_PICTURE_START (R320). -/
  | encPictureStart (c : Fin 4) (extra : Nat) (pre : List Byte)
  /-- ENC_CTU_ROW_DONE (R321). -/
  | encCtuRowDone (c : Fin 4) (hdr : Nat) (cands : List CtuCand) (data : List Byte)
  /-- ENC_PICTURE_DONE (R322). -/
  | encPictureDone (c : Fin 4)
  /-- ENC_SESSION_COMMIT (R324). -/
  | encSessionCommit (c e : Fin 4) (v : Word)
  /-- ENC_BS_RP_WRITE (R323). -/
  | encBsRpWrite (c e : Fin 4) (v : Word)
  /-- ZRX_FRAME_START (R342). -/
  | zrxFrameStart (z : Fin 8)
  /-- ZRX_TILE_CODED (R341). -/
  | zrxTileCoded (z : Fin 8)
  /-- ZRX_FRAME_DONE (R343). -/
  | zrxFrameDone (z : Fin 8)
  /-- ZRX_OUT_RP_WRITE (R343). -/
  | zrxOutRpWrite (z : Fin 8) (v : Word)
  /-- CMX_FALLBACK (R348). -/
  | cmxFallback
  /-- CMX_RESTORE (R348). -/
  | cmxRestore
  /-- CMX_JOB_SUBMIT (R349). -/
  | cmxJobSubmit (j : Fin 16) (v : Word)
  /-- CMX_JOB_COMPLETE (R351). -/
  | cmxJobComplete (j : Fin 16)
  /-- REC_ARM (R354). -/
  | recArm (c : Fin 8)
  /-- REC_DISARM (R354). -/
  | recDisarm (c : Fin 8)
  /-- REC_START (R355). -/
  | recStart (c : Fin 8)
  /-- REC_STOP (R355). -/
  | recStop (c : Fin 8)
  /-- NVME_COMPLETION (R361). -/
  | nvmeCompletion (p : Fin 4) (tag : Fin 65536) (status : Nat) (data : List Byte)
  /-- NVME_CMD_TIMEOUT (R361). -/
  | nvmeCmdTimeout (p : Fin 4) (tag : Fin 65536)
  /-- NVME_ABORT_TIMEOUT (R361). -/
  | nvmeAbortTimeout (p : Fin 4) (tag : Fin 65536)
  /-- SET_MOUNT (R362). -/
  | setMount (m : Fin 4) (v : Word)
  /-- SET_MOUNT_DONE (R362). -/
  | setMountDone (m : Fin 4) (rd : MountRead)
  /-- SET_FORMAT (R362). -/
  | setFormat (m : Fin 4) (v : Word)
  /-- SET_FORMAT_DONE (R362). -/
  | setFormatDone (m : Fin 4)
  /-- CLIP_DELETE (R367). -/
  | clipDelete (m : Fin 4) (e : Fin 32768)
  /-- DEC_LOAD (R388). -/
  | decLoad (d : Fin 4) (v : Word)
  /-- DEC_PLAY (R388). -/
  | decPlay (d : Fin 4) (v : Word)
  /-- DEC_PAUSE (R388). -/
  | decPause (d : Fin 4) (v : Word)
  /-- DEC_SEEK (R388). -/
  | decSeek (d : Fin 4) (v : Word)
  /-- DEC_STEP (R388). -/
  | decStep (d : Fin 4) (v : Word)
  /-- DEC_STOP (R388). -/
  | decStop (d : Fin 4) (v : Word)
  /-- DEC_CMD_DONE (R388). -/
  | decCmdDone (d : Fin 4) (info : DecInfo)
  /-- DEC_PICTURE_DECODED (R392). -/
  | decPictureDecoded (d : Fin 4) (c : DecCoded)
  /-- DEC_IN_WP_WRITE (R386). -/
  | decInWpWrite (d : Fin 4) (v : Word)
  /-- AUD_START (R406). -/
  | audStart (p : Fin 16)
  /-- AUD_STOP (R405). -/
  | audStop (p : Fin 16)
  /-- AUD_PORT_STARTED (R406). -/
  | audPortStarted (p : Fin 16) (fetched : Bool)
  /-- AUD_FRAME_SYNC (R400). -/
  | audFrameSync (p : Fin 16) (width : Nat) (rx : List Word) (serve fetched : Bool)
  /-- AUD_FS_TIMEOUT (R400). -/
  | audFsTimeout (p : Fin 16)
  /-- AUD_MASK_WRITE (R408). -/
  | audMaskWrite (p : Fin 16) (d : Fin 2) (v : Word)
  /-- AUD_MUTE_WRITE (R405). -/
  | audMuteWrite (p : Fin 16) (d : Fin 2) (v : Word)
  /-- AUD_WP_WRITE (R402). -/
  | audWpWrite (p : Fin 16) (v : Word)
  /-- AUD_RAMP_END (R405). -/
  | audRampEnd (p : Fin 16) (d : Fin 2)
  /-- STPOP (R419). -/
  | stpop (e : Fin 32) (l c : Fin 8) (rd : BitVec 5) (imm : BitVec 12) (run : OarRun)
  /-- STPUSH (R419). -/
  | stpush (e : Fin 32) (l c : Fin 8) (rs1 : BitVec 5) (imm : BitVec 12) (run : OarRun)
  /-- VSTPOP (R419). -/
  | vstpop (e : Fin 32) (l c : Fin 8) (vd : BitVec 5) (imm : BitVec 12) (run : OarRun)
  /-- VSTPUSH (R419). -/
  | vstpush (e : Fin 32) (l c : Fin 8) (vs3 : BitVec 5) (imm : BitVec 12) (run : OarRun)
  /-- SWAIT (R419). -/
  | swait (e : Fin 32) (l c : Fin 8) (rd rs1 rs2 : BitVec 5) (run : OarRun)
  /-- SWAIT_TIMEOUT (R419). -/
  | swaitTimeout (e : Fin 32) (l c : Fin 8)
  /-- EVRAISE (R419). -/
  | evraise (e : Fin 32) (l c : Fin 8) (rd rs1 rs2 : BitVec 5) (run : OarRun)
  /-- DMASTART (R420). -/
  | dmastart (e : Fin 32) (l c : Fin 8) (rd rs1 rs2 : BitVec 5) (run : OarRun)
  /-- DMAWAIT (R420). -/
  | dmawait (e : Fin 32) (l c : Fin 8) (rd rs1 rs2 : BitVec 5) (run : OarRun)
  /-- OAR_DMA_COMPLETE (R420). -/
  | oarDmaComplete (e : Fin 32) (l c : Fin 8) (num : BitVec 16) (poison : Bool)
  /-- OAR_CONTEXT_RESUME (R412). -/
  | oarContextResume (e : Fin 32) (l c : Fin 8)
  /-- OAR_TRAP (R414). -/
  | oarTrap (e : Fin 32) (l c : Fin 8) (mcause : BitVec 64) (run : OarRun)
  /-- SEAT_PERIOD_REFILL (R416). -/
  | seatPeriodRefill (e : Fin 32)
  /-- TAP_WORD (R418). -/
  | tapWord (look : Bool) (inst : Fin 8) (w : BitVec 64)
  /-- EIGHT_WATCHDOG (R422). -/
  | eightWatchdog (e : Fin 32) (l c : Fin 8)
  /-- COACH_FAULT (R428). -/
  | coachFault (c : Fin 8)
  /-- COACH_HANDOVER_DONE (R428). -/
  | coachHandoverDone (c : Fin 8)
  /-- COACH_RESTARTED (R428). -/
  | coachRestarted (c : Fin 8)
  /-- QUAD_LINK_UP (R432). -/
  | quadLinkUp (q : Fin 40) (gen : BitVec 4) (width : BitVec 5) (lanes : BitVec 4) (d : DriveId)
  /-- QUAD_LINK_DOWN (R432). -/
  | quadLinkDown (q : Fin 40)
  /-- QUAD_TRAIN_TIMEOUT (R432). -/
  | quadTrainTimeout (q : Fin 40)
  /-- QUAD_RETRY_DETECT (R432). -/
  | quadRetryDetect (q : Fin 40)
  /-- ETH_LPI_ENTRY (R433). -/
  | ethLpiEntry (p : Fin 8)
  /-- BAR2_ACCESS (R436). -/
  | bar2Access (write : Bool) (off : BitVec 36) (data : List Byte) (len : BitVec 13)
  /-- HOST_DMA_SUBMIT (R438). -/
  | hostDmaSubmit (k : Fin 32) (v : Word)
  /-- HOST_DMA_DESC_DONE (R438). -/
  | hostDmaDescDone (k : Fin 32) (desc data : List Byte) (err : Bool)
  /-- MSIX_UNMASK (R437). -/
  | msixUnmask (v : Fin 2048) (mask : Bool)
  /-- CALL_SUBMIT (R439). -/
  | callSubmit (q : Fin 16) (entries : List (List Byte)) (tail : Word)
  /-- CALL_QUEUE_ENABLE (R439). -/
  | callQueueEnable (q : Fin 16) (v : Word)
  /-- ANSWER_QUEUE_ENABLE (R439). -/
  | answerQueueEnable (a : Fin 16) (v : Word)
  /-- ANSWER_HEAD_WRITE (R441). -/
  | answerHeadWrite (a : Fin 16) (v : Word)
  /-- CALL_NOP (R444). -/
  | callNop (q : Fin 16)
  /-- CALL_IDENTIFY (R444). -/
  | callIdentify (q : Fin 16)
  /-- CALL_RIG_CHECK (R444). -/
  | callRigCheck (q : Fin 16)
  /-- CALL_RIG_COMMIT (R444). -/
  | callRigCommit (q : Fin 16)
  /-- CALL_RIG_ABORT (R444). -/
  | callRigAbort (q : Fin 16)
  /-- CALL_RIG_REPAIR (R444). -/
  | callRigRepair (q : Fin 16)
  /-- CALL_CAL_LOAD (R444). -/
  | callCalLoad (q : Fin 16)
  /-- CALL_TIME_READ (R444). -/
  | callTimeRead (q : Fin 16)
  /-- CALL_TIME_STEP (R444). -/
  | callTimeStep (q : Fin 16)
  /-- CALL_TIME_INC (R444). -/
  | callTimeInc (q : Fin 16)
  /-- CALL_TIME_ALIGN (R444). -/
  | callTimeAlign (q : Fin 16)
  /-- CALL_REC_ARM (R444). -/
  | callRecArm (q : Fin 16)
  /-- CALL_REC_DISARM (R444). -/
  | callRecDisarm (q : Fin 16)
  /-- CALL_REC_START (R444). -/
  | callRecStart (q : Fin 16)
  /-- CALL_REC_STOP (R444). -/
  | callRecStop (q : Fin 16)
  /-- CALL_SET_MOUNT (R444). -/
  | callSetMount (q : Fin 16)
  /-- CALL_SET_FORMAT (R444). -/
  | callSetFormat (q : Fin 16)
  /-- CALL_CLIP_DELETE (R444). -/
  | callClipDelete (q : Fin 16)
  /-- CALL_DIR_READ (R444). -/
  | callDirRead (q : Fin 16)
  /-- CALL_VAULT (R444). -/
  | callVault (q : Fin 16) (data : List Byte) (err : Bool)
  /-- ETH_RX_FRAME (R448). -/
  | ethRxFrame (p : Fin 8) (f : List Byte) (fcs : Bool) (buf : BitVec 64)
  /-- ETH_TX_TAIL_WRITE (R447). -/
  | ethTxTailWrite (p : Fin 8) (t : Fin 4) (v : Word)
  /-- ETH_TX_FRAME_SENT (R447). -/
  | ethTxFrameSent (p : Fin 8) (t : Fin 4) (desc data : List Byte)
  /-- ETH_SEND_PACKET (R450). -/
  | ethSendPacket (n : Fin 32)
  /-- RTP_WINDOW_EXPIRE (R452). -/
  | rtpWindowExpire (r : Fin 4)
  /-- RTP_PATH_SILENT (R452). -/
  | rtpPathSilent (r : Fin 4) (b : Bool)
  /-- VAULT_MB_GO (R467). -/
  | vaultMbGo (v : Word)
  /-- VAULT_STATUS (R467). -/
  | vaultStatus
  /-- VAULT_SELFTEST (R467). -/
  | vaultSelftest (pass : Bool)
  /-- AUTH_CHALLENGE (R466). -/
  | authChallenge
  /-- AUTH_RESPONSE (R466). -/
  | authResponse (sigs : Bool)
  /-- LOGOUT (R466). -/
  | logout
  /-- QUOTE (R460). -/
  | quote
  /-- GET_CERTS (R456). -/
  | getCerts
  /-- RANDOM (R467). -/
  | random
  /-- MEDIA_KEY_IMPORT (R461). -/
  | mediaKeyImport
  /-- MEDIA_KEY_DELETE (R467). -/
  | mediaKeyDelete
  /-- MEDIA_KEY_LIST (R467). -/
  | mediaKeyList
  /-- ROLLBACK_ADVANCE (R467). -/
  | rollbackAdvance
  /-- RTC_SET (R467). -/
  | rtcSet
  /-- ZEROISE (R471). -/
  | zeroise
  /-- RECOVERY_LOAD (R467). -/
  | recoveryLoad (k : SigCheck) (descAt : BitVec 22) (script : List Byte)
  /-- HOLD_CLEAR (R469). -/
  | holdClear
  /-- VAULT_VERIFY_DONE (R458). -/
  | vaultVerifyDone (k : SigCheck)
  /-- ENTROPY_HEALTH_FAIL (R469). -/
  | entropyHealthFail
  /-- CONDITIONAL_SELFTEST_FAIL (R469). -/
  | conditionalSelftestFail
  /-- AUTH_SESSION_TIMEOUT (R466). -/
  | authSessionTimeout (path : Fin 17)
  /-- AUTH_LOCKOUT_END (R466). -/
  | authLockoutEnd
  /-- TAMPER_DETECT (R472). -/
  | tamperDetect (n : Fin 7) (aon : Bool)
  /-- VBAT_LOW (R472). -/
  | vbatLow
  /-- EVENT_DELIVERY (R475). -/
  | eventDelivery
  /-- LOG_RECORD_ASSEMBLED (R485). -/
  | logRecordAssembled
  /-- LOG_CTRL_FLUSH (R488). -/
  | logCtrlFlush
  /-- LOG_CTRL_NOTE (R486). -/
  | logCtrlNote
  /-- LOG_FLUSH_DONE (R488). -/
  | logFlushDone (high : Bool)
  /-- POWER_FAIL (R489). -/
  | powerFail
  /-- OP_TIME_STORE (R483). -/
  | opTimeStore
  /-- HEALTH_CHANNEL_READ (R493). -/
  | healthChannelRead (k : Fin 128) (reading aux : Word)
  /-- HOUSEKEEPING_ROUND_END (R497). -/
  | housekeepingRoundEnd
  /-- COURSE_PLL_GRACE_EXPIRE (R500). -/
  | coursePllGraceExpire
  /-- CORE_DROOP (R499). -/
  | coreDroop
  /-- LTC_FRAME_DECODED (R505). -/
  | ltcFrameDecoded (v : BitVec 31)
  /-- LTC_INPUT_TIMEOUT (R505). -/
  | ltcInputTimeout
  /-- RC_READ (R7). -/
  | rcRead (addr : BitVec 28) (size : Fin 3) (inc : Word)
  /-- QUAD_SIGNAL_DETECT (R431). -/
  | quadSignalDetect (q : Fin 40)
  /-- PORESET_N_ASSERT (R511). -/
  | poresetNAssert (written : BitVec 16)
  /-- LEGACY_WORD (R181). -/
  | legacyWord (p : Fin 8) (l : Fin 12) (w : BitVec 16)
deriving DecidableEq, Repr

end Sys2Proof
end

