-- ==== Sys2Proof/Decode.lean ====
section
/-! DEFINITION. Commands from the opcode table's words. No row of the table gives its command any bits (every row's fields are empty): commands arrive as
register accesses and events, not as encoded words, so no word spells one. -/

namespace Sys2Proof

/-- The command that a word of `nbits` bits spells by the table: none. -/
def decodeTableWord (nbits w : Nat) : Option Instr :=
  match nbits, w with
  | _, _ => none

end Sys2Proof
end

