-- ==== Sys2Proof/Machine/RegMap.lean ====
section
/-! DEFINITION. The register map of BAR0: one named `Reg` per register of the spec, its bit fields, and the rows by which a host access
finds a register (R6 to R10, R38). Each name is the spec's; the offset is the spec's base plus strides, and the value after reset is the
Reset column's. -/

namespace Sys2Proof.Machine

/-- Reset of a row-major 3 × 3 matrix register: 1.0 on the diagonal (entries 0, 4 and 8), else 0. -/
def matReset (i : Nat) : Word := if i == 0 || i == 4 || i == 8 then 0x3F800000 else 0
/-- Reset of HLT_TS_ST: CLASS per R494. -/
def tsClassReset (i : Nat) : Word := if i < 40 then 0 else if i < 42 then 0x08 else if i < 44 then 0x10 else 0x18
/-- Reset of LND_Q_CFG: Q0 and Q1 carry PCIe, the others nothing. -/
def quadCfgReset (q : Nat) : Word := if q < 2 then 1 else 0
/-- The events of R480 whose LOG bit is fixed at 1. -/
def evtAlwaysLogged (n : Nat) : Bool := n == 16 || n == 17 || n == 833 || (992 ≤ n && n ≤ 1001)
/-- The events of R480 that are never logged. -/
def evtNeverLogged (n : Nat) : Bool := 1020 ≤ n && n ≤ 1023
/-- Reset of EVT_R_CFG: LOG set for the events of R480. -/
def routeReset (n : Nat) : Word := if evtAlwaysLogged n then 0x00100000 else 0

/-! ## Registers of chapter 00 to 05: the global, Umpire, Rig, memory and bring-up registers -/

/-- Part and stepping; see R2 (01_course.md). -/
def BOH_CHIP_ID : Reg := ⟨0x0, 0xC96B000⟩
/-- BOH_CHIP_ID.PART: Part number -/
def BOH_CHIP_ID_PART : Fld := ⟨31, 16⟩
/-- BOH_CHIP_ID.STEP: Silicon stepping -/
def BOH_CHIP_ID_STEP : Fld := ⟨15, 8⟩
/-- State of each region (01_course.md). -/
def BOH_REGION_STATE : Reg := ⟨0x10, 0⟩
/-- BOH_REGION_STATE.LANDING: State of Landing -/
def BOH_REGION_STATE_LANDING : Fld := ⟨19, 16⟩
/-- BOH_REGION_STATE.BOATHOUSE: State of the Boathouse service blocks -/
def BOH_REGION_STATE_BOATHOUSE : Fld := ⟨15, 12⟩
/-- BOH_REGION_STATE.FINISH: State of Finish -/
def BOH_REGION_STATE_FINISH : Fld := ⟨11, 8⟩
/-- BOH_REGION_STATE.DRIVE: State of Drive -/
def BOH_REGION_STATE_DRIVE : Fld := ⟨7, 4⟩
/-- BOH_REGION_STATE.CATCH: State of Catch -/
def BOH_REGION_STATE_CATCH : Fld := ⟨3, 0⟩
/-- First unmapped access since last clear (01_course.md). -/
def BOH_UNMAPPED_ADDR : Reg := ⟨0x14, 0⟩
/-- BOH_UNMAPPED_ADDR.VALID: 1: an access has been latched -/
def BOH_UNMAPPED_ADDR_VALID : Fld := ⟨31, 31⟩
/-- BOH_UNMAPPED_ADDR.WRITE: 1: the latched access was a write -/
def BOH_UNMAPPED_ADDR_WRITE : Fld := ⟨30, 30⟩
/-- BOH_UNMAPPED_ADDR.ISO: 1: the offset is mapped, but its region was not RUNNING -/
def BOH_UNMAPPED_ADDR_ISO : Fld := ⟨28, 28⟩
/-- BOH_UNMAPPED_ADDR.OFFSET: BAR0 offset [27:2] of the latched access -/
def BOH_UNMAPPED_ADDR_OFFSET : Fld := ⟨27, 2⟩
/-- Count of unmapped accesses (01_course.md). -/
def BOH_UNMAPPED_CNT : Reg := ⟨0x18, 0⟩
/-- Controller state and last result (02_rig.md). -/
def RIG_STATUS : Reg := ⟨0x100000, 0⟩
/-- RIG_STATUS.HELD: Listed blocks held so far in HOLDING -/
def RIG_STATUS_HELD : Fld := ⟨31, 16⟩
/-- RIG_STATUS.LAST_REFUSED: 1: the last command was refused -/
def RIG_STATUS_LAST_REFUSED : Fld := ⟨9, 9⟩
/-- RIG_STATUS.LAST_OK: 1: the last command completed -/
def RIG_STATUS_LAST_OK : Fld := ⟨8, 8⟩
/-- RIG_STATUS.STATE: 0 IDLE, 1 COPYING, 2 CHECKING, 3 HOLDING, 4 APPLYING, 5 REPAIRING; 6 and 7 never returned -/
def RIG_STATUS_STATE : Fld := ⟨2, 0⟩
/-- Command (02_rig.md). -/
def RIG_CMD : Reg := ⟨0x100004, 0⟩
/-- RIG_CMD.SEAT: REPAIR: physical seat 0–7 to replace -/
def RIG_CMD_SEAT : Fld := ⟨19, 16⟩
/-- RIG_CMD.EIGHT: REPAIR: Eight 0–31 -/
def RIG_CMD_EIGHT : Fld := ⟨15, 8⟩
/-- RIG_CMD.OP: 0x1 COMMIT, 0x2 ABORT, 0x3 REPAIR, 0x4 CHECK; other values discarded -/
def RIG_CMD_OP : Fld := ⟨3, 0⟩
/-- GDDR7 address of image [31:6]; [5:0] read 0 (02_rig.md). -/
def RIG_IMG_ADDR_LO : Reg := ⟨0x100008, 0⟩
/-- GDDR7 address of image [63:32] (02_rig.md). -/
def RIG_IMG_ADDR_HI : Reg := ⟨0x10000C, 0⟩
/-- Image length in bytes (02_rig.md). -/
def RIG_IMG_LEN : Reg := ⟨0x100010, 0⟩
/-- Hold timeout in ms, 1 to 60,000; 0 and larger values act as 60,000 (02_rig.md). -/
def RIG_BOUNDARY_TMO : Reg := ⟨0x100014, 0x3E8⟩
/-- Step and code of the last refusal (02_rig.md). -/
def RIG_REFUSAL : Reg := ⟨0x100018, 0⟩
/-- RIG_REFUSAL.STEP: Check step 1–8 of R57 that failed; 0 for a refusal made outside the check steps (R71) -/
def RIG_REFUSAL_STEP : Fld := ⟨19, 16⟩
/-- RIG_REFUSAL.CODE: Refusal code; 0x0000 if none -/
def RIG_REFUSAL_CODE : Fld := ⟨15, 0⟩
/-- Owner or blocking BLOCK_ID of the last refusal (02_rig.md). -/
def RIG_REFUSAL_OWNER : Reg := ⟨0x10001C, 0⟩
/-- Section and record of the last refusal (02_rig.md). -/
def RIG_REFUSAL_DETAIL : Reg := ⟨0x100020, 0xFFFF1FFF⟩
/-- RIG_REFUSAL_DETAIL.RECORD: Record or entry index within the section, 0 to 0xFFFE; an index above 0xFFFE reads 0xFFFE; 0xFFFF if not applicable -/
def RIG_REFUSAL_DETAIL_RECORD : Fld := ⟨31, 16⟩
/-- RIG_REFUSAL_DETAIL.SECTION: Section-table index, 0 to 4,095; 0x1FFF if not applicable -/
def RIG_REFUSAL_DETAIL_SECTION : Fld := ⟨12, 0⟩
/-- Short time of the last refusal (02_rig.md). -/
def RIG_REFUSAL_TIME : Reg := ⟨0x100024, 0⟩
/-- Commits applied since PORESET_N, saturating (02_rig.md). -/
def RIG_COMMIT_CNT : Reg := ⟨0x100028, 0⟩
/-- Commits refused since PORESET_N, saturating (02_rig.md). -/
def RIG_REFUSE_CNT : Reg := ⟨0x10002C, 0⟩
/-- R61 figure for the last commit (02_rig.md). -/
def RIG_HOLD_FRAMES : Reg := ⟨0x100030, 0⟩
/-- Running RIG_ID, bytes 0–3 in ID0 up to bytes 12–15 in ID3 (02_rig.md). -/
def RIG_ACTIVE_ID (i : Nat) : Reg := ⟨0x100040 + i * 0x4, 0⟩
/-- STREAM_ID; 0 if the record is unused (04_memory.md). -/
def UMP_S_ID (n : Nat) : Reg := ⟨0x10000 + n * 0x40, 0⟩
/-- Class and backlog size (04_memory.md). -/
def UMP_S_CFG (n : Nat) : Reg := ⟨0x10004 + n * 0x40, 0⟩
/-- UMP_S_CFG.BACKLOG: Backlog buffer in MiB, 0–4,096 -/
def UMP_S_CFG_BACKLOG : Fld := ⟨31, 16⟩
/-- UMP_S_CFG.DIR: TARGET 2: directions reserved, as DIR of R52 with 0 shown as 0b11 -/
def UMP_S_CFG_DIR : Fld := ⟨5, 4⟩
/-- UMP_S_CFG.TARGET: 1 GDDR7, 2 Course, 3 seat time; 0 a Soft claimant with no reservation record -/
def UMP_S_CFG_TARGET : Fld := ⟨3, 2⟩
/-- UMP_S_CFG.CLASS: 0 Iso, 1 Firm, 2 Soft; 3 never returned -/
def UMP_S_CFG_CLASS : Fld := ⟨1, 0⟩
/-- RATE in MB/s (04_memory.md). -/
def UMP_S_RATE (n : Nat) : Reg := ⟨0x10008 + n * 0x40, 0⟩
/-- Current backlog in KiB (04_memory.md). -/
def UMP_S_BKL_NOW (n : Nat) : Reg := ⟨0x1000C + n * 0x40, 0⟩
/-- Peak backlog in KiB since last read (04_memory.md). -/
def UMP_S_BKL_PEAK (n : Nat) : Reg := ⟨0x10010 + n * 0x40, 0⟩
/-- Course clocks delayed above reservation, [31:0]; a read latches DELAY_HI (04_memory.md). -/
def UMP_S_DELAY_LO (n : Nat) : Reg := ⟨0x10014 + n * 0x40, 0⟩
/-- [63:32] as latched (04_memory.md). -/
def UMP_S_DELAY_HI (n : Nat) : Reg := ⟨0x10018 + n * 0x40, 0⟩
/-- Last refusal (04_memory.md). -/
def UMP_S_REFUSAL (n : Nat) : Reg := ⟨0x1001C + n * 0x40, 0⟩
/-- UMP_S_REFUSAL.RUNTIME: 1: refused at run time -/
def UMP_S_REFUSAL_RUNTIME : Fld := ⟨16, 16⟩
/-- UMP_S_REFUSAL.CODE: Refusal code; 0x0000 if never refused -/
def UMP_S_REFUSAL_CODE : Fld := ⟨15, 0⟩
/-- Short time of the last refusal (04_memory.md). -/
def UMP_S_REFUSAL_TIME (n : Nat) : Reg := ⟨0x10020 + n * 0x40, 0⟩
/-- STOP_REASON in [7:0], per R32; [31:8] reserved (04_memory.md). -/
def UMP_S_STOP (n : Nat) : Reg := ⟨0x10024 + n * 0x40, 0⟩
/-- [15:0] size of the stream's on-chip queue in KiB (R99); [31:16] reserved (04_memory.md). -/
def UMP_S_QUEUE (n : Nat) : Reg := ⟨0x10028 + n * 0x40, 0⟩
/-- Sum of Iso RATE, MB/s (04_memory.md). -/
def UMP_ISO_RES : Reg := ⟨0x1000, 0⟩
/-- Sum of Firm RATE, MB/s (04_memory.md). -/
def UMP_FIRM_RES : Reg := ⟨0x1004, 0⟩
/-- Admission limit of R73, MB/s (04_memory.md). -/
def UMP_ADMIT_LIMIT : Reg := ⟨0x1008, 0⟩
/-- Run-time refusals since PORESET_N, saturating (04_memory.md). -/
def UMP_RT_REFUSE_CNT : Reg := ⟨0x100C, 0⟩
/-- Course clocks in which at least one Soft request waited unserved on any channel (R105), saturating (04_memory.md). -/
def UMP_SOFT_DELAY : Reg := ⟨0x1010, 0⟩
/-- 512 words; word k holds the STREAM_IDs of records 2k ([15:0]) and 2k + 1 ([31:16]), low 16 bits of each ID (04_memory.md). -/
def UMP_STREAM_MAP (i : Nat) : Reg := ⟨0x2000 + i * 0x4, 0⟩
/-- Population and ECC (04_memory.md). -/
def G7_CONFIG : Reg := ⟨0x5000000, 0⟩
/-- G7_CONFIG.IECC: 1: inline ECC enabled -/
def G7_CONFIG_IECC : Fld := ⟨4, 4⟩
/-- G7_CONFIG.CLAM: 1: clamshell, from straps -/
def G7_CONFIG_CLAM : Fld := ⟨3, 3⟩
/-- G7_CONFIG.DENS: 1: 16 Gbit; 2: 24 Gbit; 3: 32 Gbit; other values never returned after training -/
def G7_CONFIG_DENS : Fld := ⟨2, 0⟩
/-- Training state and rate (04_memory.md). -/
def G7_STATUS : Reg := ⟨0x5000004, 0⟩
/-- G7_STATUS.RATE: Trained pin rate in Gbit/s; 0 if not trained -/
def G7_STATUS_RATE : Fld := ⟨15, 8⟩
/-- G7_STATUS.STATE: 0 UNTRAINED, 1 TRAINING, 2 TRAINED, 3 FAILED -/
def G7_STATUS_STATE : Fld := ⟨1, 0⟩
/-- Trained bandwidth, MB/s (04_memory.md). -/
def G7_TRAINED_BW : Reg := ⟨0x5000008, 0⟩
/-- Trained capacity, MiB (04_memory.md). -/
def G7_TRAINED_CAP : Reg := ⟨0x500000C, 0⟩
/-- Corrected errors, saturating (04_memory.md). -/
def G7_ECC_CORR_CNT : Reg := ⟨0x5000010, 0⟩
/-- Uncorrectable errors, saturating (04_memory.md). -/
def G7_ECC_UNC_CNT : Reg := ⟨0x5000014, 0⟩
/-- Address [35:4] of the last uncorrectable error (04_memory.md). -/
def G7_ECC_ADDR : Reg := ⟨0x5000018, 0⟩
/-- EDC retries per channel G0–G7, saturating (04_memory.md). -/
def G7_EDC_RETRY_CNT (i : Nat) : Reg := ⟨0x5000100 + i * 0x4, 0⟩
/-- Stage, slot, Paddle and handover state (05_bringup.md). -/
def BOH_BOOT_STATUS : Reg := ⟨0x20, 0⟩
/-- BOH_BOOT_STATUS.REPEAT: Frames repeated at handover, 0 or 1 -/
def BOH_BOOT_STATUS_REPEAT : Fld := ⟨9, 8⟩
/-- BOH_BOOT_STATUS.AUTO: AUTO_COMMIT from the descriptor -/
def BOH_BOOT_STATUS_AUTO : Fld := ⟨7, 7⟩
/-- BOH_BOOT_STATUS.PADDLE: 1: Paddle mode serving -/
def BOH_BOOT_STATUS_PADDLE : Fld := ⟨6, 6⟩
/-- BOH_BOOT_STATUS.SLOT: Boot-loader slot: 0 A, 1 B -/
def BOH_BOOT_STATUS_SLOT : Fld := ⟨5, 5⟩
/-- BOH_BOOT_STATUS.STAGE: Stage, per R113; 0x9 to 0xF never returned -/
def BOH_BOOT_STATUS_STAGE : Fld := ⟨3, 0⟩
/-- Cause of the last bring-up failure (05_bringup.md). -/
def BOH_BOOT_ERR : Reg := ⟨0x24, 0⟩
/-- BOH_BOOT_ERR.CAUSE: 0x00 none; 0x01 ROM self-test; 0x02 slot A rejected, slot B in use; 0x03 both slots rejected; 0x04 calibration store rejected; 0x05 H0 Frame Start timeout; 0x06 GDDR7 training; 0x07 first full commit refused (R117); 0x08 H0 outside the R119 or R121 limits; 0x09 SP0 Legacy alignment failed (R121) -/
def BOH_BOOT_ERR_CAUSE : Fld := ⟨7, 0⟩
/-- ms from PORESET_N release to FULL, rounded down; 0 before FULL (05_bringup.md). -/
def BOH_READY_MS : Reg := ⟨0x28, 0⟩
/-- Region reset request (05_bringup.md). -/
def BOH_REGION_RESET : Reg := ⟨0x2C, 0⟩
/-- BOH_REGION_RESET.DOWN: 1 in the same write as REGION bits: those regions are taken down and left DOWN (R110); reads 1 while such a reset is in progress -/
def BOH_REGION_RESET_DOWN : Fld := ⟨8, 8⟩
/-- BOH_REGION_RESET.REGION: [0] Catch, [1] Drive, [2] Finish, [3] Boathouse service blocks, [4] Landing; each bit stays 1 until its reset completes -/
def BOH_REGION_RESET_REGION : Fld := ⟨4, 0⟩
/-- Block reset request (05_bringup.md). -/
def BOH_BLOCK_RESET : Reg := ⟨0x30, 0⟩
/-- BOH_BLOCK_RESET.BLOCK_ID: Block to reset, per R47; type 0x0E is discarded -/
def BOH_BLOCK_RESET_BLOCK_ID : Fld := ⟨15, 0⟩
/-- Orderly shutdown (05_bringup.md). -/
def BOH_SHUTDOWN : Reg := ⟨0x34, 0⟩
/-- BOH_SHUTDOWN.GO: 1: start orderly shutdown -/
def BOH_SHUTDOWN_GO : Fld := ⟨31, 31⟩
/-- BOH_SHUTDOWN.TMO: Per-step timeout in ms; 0 means 5,000 -/
def BOH_SHUTDOWN_TMO : Fld := ⟨15, 0⟩
/-- [31:16] partitions held, one bit each; [15:8] VERSION major; [2:0] 0 down, 1 running, 2 handing over, 3 restarting (17_engines.md). -/
def BOH_COACH (c : Nat) : Reg := ⟨0x100 + c * 0x4, 0⟩

/-- Access rows (RW, W1C, W1S, RG, RC, WO masks) of chapter 00 to 05: the global, Umpire, Rig, memory and bring-up registers. -/
def regRowsBoat0 : List RegRow :=
  [ ⟨"BOH_CHIP_ID", 0x0, [], (fun _ => 0xC96B000), 0x0, 0x0, 0x0, 0x0, 0x0, 0x0⟩,
    ⟨"BOH_REGION_STATE", 0x10, [], (fun _ => 0), 0x0, 0x0, 0x0, 0x0, 0x0, 0x0⟩,
    ⟨"BOH_UNMAPPED_ADDR", 0x14, [], (fun _ => 0), 0x0, 0x80000000, 0x0, 0x0, 0x0, 0x0⟩,
    ⟨"BOH_UNMAPPED_CNT", 0x18, [], (fun _ => 0), 0x0, 0x0, 0x0, 0x0, 0xFFFFFFFF, 0x0⟩,
    ⟨"RIG_STATUS", 0x100000, [], (fun _ => 0), 0x0, 0x0, 0x0, 0x0, 0x0, 0x0⟩,
    ⟨"RIG_CMD", 0x100004, [], (fun _ => 0), 0x0, 0x0, 0x0, 0x0, 0x0, 0xFFF0F⟩,
    ⟨"RIG_IMG_ADDR_LO", 0x100008, [], (fun _ => 0), 0xFFFFFFC0, 0x0, 0x0, 0x0, 0x0, 0x0⟩,
    ⟨"RIG_IMG_ADDR_HI", 0x10000C, [], (fun _ => 0), 0xFFFFFFFF, 0x0, 0x0, 0x0, 0x0, 0x0⟩,
    ⟨"RIG_IMG_LEN", 0x100010, [], (fun _ => 0), 0xFFFFFFFF, 0x0, 0x0, 0x0, 0x0, 0x0⟩,
    ⟨"RIG_BOUNDARY_TMO", 0x100014, [], (fun _ => 0x3E8), 0xFFFFFFFF, 0x0, 0x0, 0x0, 0x0, 0x0⟩,
    ⟨"RIG_REFUSAL", 0x100018, [], (fun _ => 0), 0x0, 0x0, 0x0, 0x0, 0x0, 0x0⟩,
    ⟨"RIG_REFUSAL_OWNER", 0x10001C, [], (fun _ => 0), 0x0, 0x0, 0x0, 0x0, 0x0, 0x0⟩,
    ⟨"RIG_REFUSAL_DETAIL", 0x100020, [], (fun _ => 0xFFFF1FFF), 0x0, 0x0, 0x0, 0x0, 0x0, 0x0⟩,
    ⟨"RIG_REFUSAL_TIME", 0x100024, [], (fun _ => 0), 0x0, 0x0, 0x0, 0x0, 0x0, 0x0⟩,
    ⟨"RIG_COMMIT_CNT", 0x100028, [], (fun _ => 0), 0x0, 0x0, 0x0, 0x0, 0x0, 0x0⟩,
    ⟨"RIG_REFUSE_CNT", 0x10002C, [], (fun _ => 0), 0x0, 0x0, 0x0, 0x0, 0x0, 0x0⟩,
    ⟨"RIG_HOLD_FRAMES", 0x100030, [], (fun _ => 0), 0x0, 0x0, 0x0, 0x0, 0x0, 0x0⟩,
    ⟨"RIG_ACTIVE_ID", 0x100040, [(4, 0x4)], (fun _ => 0), 0x0, 0x0, 0x0, 0xFFFFFFFF, 0x0, 0x0⟩,
    ⟨"UMP_S_ID", 0x10000, [(1024, 0x40)], (fun _ => 0), 0x0, 0x0, 0x0, 0xFFFFFFFF, 0x0, 0x0⟩,
    ⟨"UMP_S_CFG", 0x10004, [(1024, 0x40)], (fun _ => 0), 0x0, 0x0, 0x0, 0xFFFF003F, 0x0, 0x0⟩,
    ⟨"UMP_S_RATE", 0x10008, [(1024, 0x40)], (fun _ => 0), 0x0, 0x0, 0x0, 0xFFFFFFFF, 0x0, 0x0⟩,
    ⟨"UMP_S_BKL_NOW", 0x1000C, [(1024, 0x40)], (fun _ => 0), 0x0, 0x0, 0x0, 0x0, 0x0, 0x0⟩,
    ⟨"UMP_S_BKL_PEAK", 0x10010, [(1024, 0x40)], (fun _ => 0), 0x0, 0x0, 0x0, 0x0, 0xFFFFFFFF, 0x0⟩,
    ⟨"UMP_S_DELAY_LO", 0x10014, [(1024, 0x40)], (fun _ => 0), 0x0, 0x0, 0x0, 0x0, 0x0, 0x0⟩ ]
/-- Access rows (RW, W1C, W1S, RG, RC, WO masks) of chapter 00 to 05: the global, Umpire, Rig, memory and bring-up registers. -/
def regRowsBoat1 : List RegRow :=
  [ ⟨"UMP_S_DELAY_HI", 0x10018, [(1024, 0x40)], (fun _ => 0), 0x0, 0x0, 0x0, 0x0, 0x0, 0x0⟩,
    ⟨"UMP_S_REFUSAL", 0x1001C, [(1024, 0x40)], (fun _ => 0), 0x0, 0x0, 0x0, 0x0, 0x0, 0x0⟩,
    ⟨"UMP_S_REFUSAL_TIME", 0x10020, [(1024, 0x40)], (fun _ => 0), 0x0, 0x0, 0x0, 0x0, 0x0, 0x0⟩,
    ⟨"UMP_S_STOP", 0x10024, [(1024, 0x40)], (fun _ => 0), 0x0, 0x0, 0x0, 0x0, 0x0, 0x0⟩,
    ⟨"UMP_S_QUEUE", 0x10028, [(1024, 0x40)], (fun _ => 0), 0x0, 0x0, 0x0, 0x0, 0x0, 0x0⟩,
    ⟨"UMP_ISO_RES", 0x1000, [], (fun _ => 0), 0x0, 0x0, 0x0, 0xFFFFFFFF, 0x0, 0x0⟩,
    ⟨"UMP_FIRM_RES", 0x1004, [], (fun _ => 0), 0x0, 0x0, 0x0, 0xFFFFFFFF, 0x0, 0x0⟩,
    ⟨"UMP_ADMIT_LIMIT", 0x1008, [], (fun _ => 0), 0x0, 0x0, 0x0, 0x0, 0x0, 0x0⟩,
    ⟨"UMP_RT_REFUSE_CNT", 0x100C, [], (fun _ => 0), 0x0, 0x0, 0x0, 0x0, 0x0, 0x0⟩,
    ⟨"UMP_SOFT_DELAY", 0x1010, [], (fun _ => 0), 0x0, 0x0, 0x0, 0x0, 0x0, 0x0⟩,
    ⟨"UMP_STREAM_MAP", 0x2000, [(512, 0x4)], (fun _ => 0), 0x0, 0x0, 0x0, 0xFFFFFFFF, 0x0, 0x0⟩,
    ⟨"G7_CONFIG", 0x5000000, [], (fun _ => 0), 0x0, 0x0, 0x0, 0x10, 0x0, 0x0⟩,
    ⟨"G7_STATUS", 0x5000004, [], (fun _ => 0), 0x0, 0x0, 0x0, 0x0, 0x0, 0x0⟩,
    ⟨"G7_TRAINED_BW", 0x5000008, [], (fun _ => 0), 0x0, 0x0, 0x0, 0x0, 0x0, 0x0⟩,
    ⟨"G7_TRAINED_CAP", 0x500000C, [], (fun _ => 0), 0x0, 0x0, 0x0, 0x0, 0x0, 0x0⟩,
    ⟨"G7_ECC_CORR_CNT", 0x5000010, [], (fun _ => 0), 0x0, 0x0, 0x0, 0x0, 0xFFFFFFFF, 0x0⟩,
    ⟨"G7_ECC_UNC_CNT", 0x5000014, [], (fun _ => 0), 0x0, 0x0, 0x0, 0x0, 0xFFFFFFFF, 0x0⟩,
    ⟨"G7_ECC_ADDR", 0x5000018, [], (fun _ => 0), 0x0, 0x0, 0x0, 0x0, 0x0, 0x0⟩,
    ⟨"G7_EDC_RETRY_CNT", 0x5000100, [(8, 0x4)], (fun _ => 0), 0x0, 0x0, 0x0, 0x0, 0xFFFFFFFF, 0x0⟩,
    ⟨"BOH_BOOT_STATUS", 0x20, [], (fun _ => 0), 0x0, 0x0, 0x0, 0x0, 0x0, 0x0⟩,
    ⟨"BOH_BOOT_ERR", 0x24, [], (fun _ => 0), 0x0, 0x0, 0x0, 0x0, 0x0, 0x0⟩,
    ⟨"BOH_READY_MS", 0x28, [], (fun _ => 0), 0x0, 0x0, 0x0, 0x0, 0x0, 0x0⟩,
    ⟨"BOH_REGION_RESET", 0x2C, [], (fun _ => 0), 0x0, 0x0, 0x11F, 0x0, 0x0, 0x0⟩,
    ⟨"BOH_BLOCK_RESET", 0x30, [], (fun _ => 0), 0x0, 0x0, 0x0, 0x0, 0x0, 0xFFFF⟩ ]
/-- Access rows (RW, W1C, W1S, RG, RC, WO masks) of chapter 00 to 05: the global, Umpire, Rig, memory and bring-up registers. -/
def regRowsBoat2 : List RegRow :=
  [ ⟨"BOH_SHUTDOWN", 0x34, [], (fun _ => 0), 0x0, 0x0, 0x0, 0x0, 0x0, 0x8000FFFF⟩,
    ⟨"BOH_COACH", 0x100, [(8, 0x4)], (fun _ => 0), 0x0, 0x0, 0x0, 0x0, 0x0, 0x0⟩ ]
/-- All access rows of chapter 00 to 05: the global, Umpire, Rig, memory and bring-up registers. -/
def regRowsBoat : List RegRow := regRowsBoat0 ++ regRowsBoat1 ++ regRowsBoat2

/-! ## Registers of chapter 06: Stroke and PTP -/

/-- TB0 NS; a read latches the snapshot of R140 (06_stroke_time.md). -/
def STK_TB0_NOW : Reg := ⟨0x200000, 0⟩
/-- Increment per tick, 2^-32 ns (06_stroke_time.md). -/
def STK_TB0_INC : Reg := ⟨0x200004, 0xCCCCCCCD⟩
/-- Signed step in ns (06_stroke_time.md). -/
def STK_TB0_STEP : Reg := ⟨0x200008, 0⟩
/-- Servo ownership, clamp flag (06_stroke_time.md). -/
def STK_TB0_STATUS : Reg := ⟨0x20000C, 0⟩
/-- STK_TB0_STATUS.SERVO: 1: the PTP servo service disciplines TB0 (R134) -/
def STK_TB0_STATUS_SERVO : Fld := ⟨8, 8⟩
/-- STK_TB0_STATUS.CLAMPED: 1: an increment write was clamped -/
def STK_TB0_STATUS_CLAMPED : Fld := ⟨0, 0⟩
/-- TB0 FRAC at the last STK_TB0_NOW read (06_stroke_time.md). -/
def STK_SNAP_FRAC : Reg := ⟨0x200010, 0⟩
/-- TB1 at the last STK_TB0_NOW read (06_stroke_time.md). -/
def STK_SNAP_TB1 : Reg := ⟨0x200014, 0⟩
/-- TB3 at the last STK_TB0_NOW read (06_stroke_time.md). -/
def STK_SNAP_TB3 : Reg := ⟨0x200018, 0⟩
/-- [15:0] COUNT: steps since PORESET_N, wrapping, at the last read; [31:16] reserved (06_stroke_time.md). -/
def STK_SNAP_STEPS : Reg := ⟨0x20001C, 0⟩
/-- Mode and state (06_stroke_time.md). -/
def STK_TB1_CTRL : Reg := ⟨0x200020, 0⟩
/-- STK_TB1_CTRL.JUMP: 1: the holdover exit before the last entry to LOCKED realigned the frame (R136) -/
def STK_TB1_CTRL_JUMP : Fld := ⟨10, 10⟩
/-- STK_TB1_CTRL.STATE: 0 OFF, 1 LOCKING, 2 LOCKED, 3 HOLDOVER -/
def STK_TB1_CTRL_STATE : Fld := ⟨9, 8⟩
/-- STK_TB1_CTRL.MODE: Per R135 -/
def STK_TB1_CTRL_MODE : Fld := ⟨1, 0⟩
/-- TB1, live (06_stroke_time.md). -/
def STK_TB1_NOW : Reg := ⟨0x200024, 0⟩
/-- FRAME0 and LINES (06_stroke_time.md). -/
def STK_TB1_LINES : Reg := ⟨0x200028, 0⟩
/-- STK_TB1_LINES.FRAME0: MODE 2: frame count at ALIGN -/
def STK_TB1_LINES_FRAME0 : Fld := ⟨31, 14⟩
/-- STK_TB1_LINES.LINES: MODE 2: lines per frame, 1–16,383; 0 acts as 1. MODE 1: detected total lines; writes discarded -/
def STK_TB1_LINES_LINES : Fld := ⟨13, 0⟩
/-- MODE 2 alignment, TB0 ns (06_stroke_time.md). -/
def STK_TB1_ALIGN : Reg := ⟨0x20002C, 0⟩
/-- MODE 2 frame period, whole ns (06_stroke_time.md). -/
def STK_TB1_PERIOD_NS : Reg := ⟨0x200030, 0⟩
/-- [15:0] frame period fraction, 2^-16 ns; [31:16] reserved (06_stroke_time.md). -/
def STK_TB1_PERIOD_FRAC : Reg := ⟨0x200034, 0⟩
/-- TB2 of H0–H7 (06_stroke_time.md). -/
def STK_TB2_NOW (i : Nat) : Reg := ⟨0x200040 + i * 0x4, 0⟩
/-- Enable and state (06_stroke_time.md). -/
def STK_TB3_CTRL : Reg := ⟨0x200060, 0⟩
/-- STK_TB3_CTRL.STATE: 0 OFF, 1 LOCKING, 2 LOCKED, 3 HOLDOVER -/
def STK_TB3_CTRL_STATE : Fld := ⟨9, 8⟩
/-- STK_TB3_CTRL.EN: 1: TB3 enabled -/
def STK_TB3_CTRL_EN : Fld := ⟨0, 0⟩
/-- TB3, live (06_stroke_time.md). -/
def STK_TB3_NOW : Reg := ⟨0x200064, 0⟩
/-- Late matches, saturating (06_stroke_time.md). -/
def STK_LATE_CNT : Reg := ⟨0x200100, 0⟩
/-- Merged deliveries, saturating (06_stroke_time.md). -/
def STK_MERGE_CNT : Reg := ⟨0x200104, 0⟩
/-- Captured TB0 NS (06_stroke_time.md). -/
def STK_CAP (i : Nat) : Reg := ⟨0x200200 + i * 0x4, 0⟩
/-- [15:0] VALID per capture register; [31:16] OVR per capture register (06_stroke_time.md). -/
def STK_CAP_FLAGS : Reg := ⟨0x200240, 0⟩
/-- Timebase and target (06_stroke_time.md). -/
def STK_S_CFG (n : Nat) : Reg := ⟨0x201000 + n * 0x20, 0⟩
/-- STK_S_CFG.TB: 0 TB0, 1 TB1, 2 TB2, 3 TB3 -/
def STK_S_CFG_TB : Fld := ⟨31, 30⟩
/-- STK_S_CFG.HEAD: Head for TB2 -/
def STK_S_CFG_HEAD : Fld := ⟨26, 24⟩
/-- STK_S_CFG.TTYPE: Per R142 -/
def STK_S_CFG_TTYPE : Fld := ⟨23, 16⟩
/-- STK_S_CFG.TINST: Per R142 -/
def STK_S_CFG_TINST : Fld := ⟨15, 0⟩
/-- [31:16] DELAY in ticks; [15:0] TPARAM (06_stroke_time.md). -/
def STK_S_PARAM (n : Nat) : Reg := ⟨0x201004 + n * 0x20, 0⟩
/-- Compare value; advances on repeat (06_stroke_time.md). -/
def STK_S_COMPARE (n : Nat) : Reg := ⟨0x201008 + n * 0x20, 0⟩
/-- Repeat period; 0 one-shot (06_stroke_time.md). -/
def STK_S_REPEAT (n : Nat) : Reg := ⟨0x20100C + n * 0x20, 0⟩
/-- Arm, disarm, late flag (06_stroke_time.md). -/
def STK_S_CTRL (n : Nat) : Reg := ⟨0x201010 + n * 0x20, 0⟩
/-- STK_S_CTRL.LATE: 1: a late match has occurred (R144) -/
def STK_S_CTRL_LATE : Fld := ⟨8, 8⟩
/-- STK_S_CTRL.DISARM: Write 1 to disarm; reads 0. Wins over ARM set in the same write (R143) -/
def STK_S_CTRL_DISARM : Fld := ⟨1, 1⟩
/-- STK_S_CTRL.ARM: Write 1 to arm; reads 1 while armed. Discarded when TTYPE is 0x00 -/
def STK_S_CTRL_ARM : Fld := ⟨0, 0⟩
/-- Deliveries, saturating (06_stroke_time.md). -/
def STK_S_FIRES (n : Nat) : Reg := ⟨0x201014 + n * 0x20, 0⟩
/-- Periods passed over (R145), saturating (06_stroke_time.md). -/
def STK_S_SKIP (n : Nat) : Reg := ⟨0x201018 + n * 0x20, 0⟩
/-- [0] RX_EN, [1] TX_EN: enable stamping; [31:2] reserved (06_stroke_time.md). -/
def PTP_P_CTRL (p : Nat) : Reg := ⟨0x4700000 + p * 0x100, 0⟩
/-- Signed receive compensation, 1/256 ns (06_stroke_time.md). -/
def PTP_P_RX_COMP (p : Nat) : Reg := ⟨0x4700004 + p * 0x100, 0⟩
/-- Signed transmit compensation, 1/256 ns (06_stroke_time.md). -/
def PTP_P_TX_COMP (p : Nat) : Reg := ⟨0x4700008 + p * 0x100, 0⟩
/-- Queue state (06_stroke_time.md). -/
def PTP_P_TXQ_STAT (p : Nat) : Reg := ⟨0x470000C + p * 0x100, 0⟩
/-- PTP_P_TXQ_STAT.OVF: 1: a stamp was dropped since last clear -/
def PTP_P_TXQ_STAT_OVF : Fld := ⟨31, 31⟩
/-- PTP_P_TXQ_STAT.COUNT: Entries queued, 0–64 -/
def PTP_P_TXQ_STAT_COUNT : Fld := ⟨6, 0⟩
/-- Head entry identifier (06_stroke_time.md). -/
def PTP_P_TXQ_ID (p : Nat) : Reg := ⟨0x4700010 + p * 0x100, 0⟩
/-- PTP_P_TXQ_ID.VALID: 1: the queue holds an entry -/
def PTP_P_TXQ_ID_VALID : Fld := ⟨31, 31⟩
/-- PTP_P_TXQ_ID.ID: Identifier from the transmit descriptor -/
def PTP_P_TXQ_ID_ID : Fld := ⟨15, 0⟩
/-- Head entry NS (06_stroke_time.md). -/
def PTP_P_TXQ_NS (p : Nat) : Reg := ⟨0x4700014 + p * 0x100, 0⟩
/-- [7:0] head entry FRAC; [31:8] reserved (06_stroke_time.md). -/
def PTP_P_TXQ_FRAC (p : Nat) : Reg := ⟨0x4700018 + p * 0x100, 0⟩
/-- [0] 1: remove the head entry; [31:1] reserved (06_stroke_time.md). -/
def PTP_P_TXQ_POP (p : Nat) : Reg := ⟨0x470001C + p * 0x100, 0⟩
/-- Stamps dropped, saturating (06_stroke_time.md). -/
def PTP_P_TXQ_DROP (p : Nat) : Reg := ⟨0x4700020 + p * 0x100, 0⟩

/-- Access rows (RW, W1C, W1S, RG, RC, WO masks) of chapter 06: Stroke and PTP. -/
def regRowsTime0 : List RegRow :=
  [ ⟨"STK_TB0_NOW", 0x200000, [], (fun _ => 0), 0x0, 0x0, 0x0, 0x0, 0x0, 0x0⟩,
    ⟨"STK_TB0_INC", 0x200004, [], (fun _ => 0xCCCCCCCD), 0xFFFFFFFF, 0x0, 0x0, 0x0, 0x0, 0x0⟩,
    ⟨"STK_TB0_STEP", 0x200008, [], (fun _ => 0), 0x0, 0x0, 0x0, 0x0, 0x0, 0xFFFFFFFF⟩,
    ⟨"STK_TB0_STATUS", 0x20000C, [], (fun _ => 0), 0x0, 0x1, 0x0, 0x0, 0x0, 0x0⟩,
    ⟨"STK_SNAP_FRAC", 0x200010, [], (fun _ => 0), 0x0, 0x0, 0x0, 0x0, 0x0, 0x0⟩,
    ⟨"STK_SNAP_TB1", 0x200014, [], (fun _ => 0), 0x0, 0x0, 0x0, 0x0, 0x0, 0x0⟩,
    ⟨"STK_SNAP_TB3", 0x200018, [], (fun _ => 0), 0x0, 0x0, 0x0, 0x0, 0x0, 0x0⟩,
    ⟨"STK_SNAP_STEPS", 0x20001C, [], (fun _ => 0), 0x0, 0x0, 0x0, 0x0, 0x0, 0x0⟩,
    ⟨"STK_TB1_CTRL", 0x200020, [], (fun _ => 0), 0x3, 0x0, 0x0, 0x0, 0x0, 0x0⟩,
    ⟨"STK_TB1_NOW", 0x200024, [], (fun _ => 0), 0x0, 0x0, 0x0, 0x0, 0x0, 0x0⟩,
    ⟨"STK_TB1_LINES", 0x200028, [], (fun _ => 0), 0xFFFFFFFF, 0x0, 0x0, 0x0, 0x0, 0x0⟩,
    ⟨"STK_TB1_ALIGN", 0x20002C, [], (fun _ => 0), 0xFFFFFFFF, 0x0, 0x0, 0x0, 0x0, 0x0⟩,
    ⟨"STK_TB1_PERIOD_NS", 0x200030, [], (fun _ => 0), 0xFFFFFFFF, 0x0, 0x0, 0x0, 0x0, 0x0⟩,
    ⟨"STK_TB1_PERIOD_FRAC", 0x200034, [], (fun _ => 0), 0xFFFF, 0x0, 0x0, 0x0, 0x0, 0x0⟩,
    ⟨"STK_TB2_NOW", 0x200040, [(8, 0x4)], (fun _ => 0), 0x0, 0x0, 0x0, 0x0, 0x0, 0x0⟩,
    ⟨"STK_TB3_CTRL", 0x200060, [], (fun _ => 0), 0x1, 0x0, 0x0, 0x0, 0x0, 0x0⟩,
    ⟨"STK_TB3_NOW", 0x200064, [], (fun _ => 0), 0x0, 0x0, 0x0, 0x0, 0x0, 0x0⟩,
    ⟨"STK_LATE_CNT", 0x200100, [], (fun _ => 0), 0x0, 0x0, 0x0, 0x0, 0xFFFFFFFF, 0x0⟩,
    ⟨"STK_MERGE_CNT", 0x200104, [], (fun _ => 0), 0x0, 0x0, 0x0, 0x0, 0xFFFFFFFF, 0x0⟩,
    ⟨"STK_CAP", 0x200200, [(16, 0x4)], (fun _ => 0), 0x0, 0x0, 0x0, 0x0, 0x0, 0x0⟩,
    ⟨"STK_CAP_FLAGS", 0x200240, [], (fun _ => 0), 0x0, 0xFFFFFFFF, 0x0, 0x0, 0x0, 0x0⟩,
    ⟨"STK_S_CFG", 0x201000, [(512, 0x20)], (fun _ => 0), 0x0, 0x0, 0x0, 0xC7FFFFFF, 0x0, 0x0⟩,
    ⟨"STK_S_PARAM", 0x201004, [(512, 0x20)], (fun _ => 0), 0x0, 0x0, 0x0, 0xFFFFFFFF, 0x0, 0x0⟩,
    ⟨"STK_S_COMPARE", 0x201008, [(512, 0x20)], (fun _ => 0), 0xFFFFFFFF, 0x0, 0x0, 0x0, 0x0, 0x0⟩ ]
/-- Access rows (RW, W1C, W1S, RG, RC, WO masks) of chapter 06: Stroke and PTP. -/
def regRowsTime1 : List RegRow :=
  [ ⟨"STK_S_REPEAT", 0x20100C, [(512, 0x20)], (fun _ => 0), 0xFFFFFFFF, 0x0, 0x0, 0x0, 0x0, 0x0⟩,
    ⟨"STK_S_CTRL", 0x201010, [(512, 0x20)], (fun _ => 0), 0x0, 0x100, 0x3, 0x0, 0x0, 0x0⟩,
    ⟨"STK_S_FIRES", 0x201014, [(512, 0x20)], (fun _ => 0), 0x0, 0x0, 0x0, 0x0, 0xFFFFFFFF, 0x0⟩,
    ⟨"STK_S_SKIP", 0x201018, [(512, 0x20)], (fun _ => 0), 0x0, 0x0, 0x0, 0x0, 0xFFFFFFFF, 0x0⟩,
    ⟨"PTP_P_CTRL", 0x4700000, [(8, 0x100)], (fun _ => 0), 0x3, 0x0, 0x0, 0x0, 0x0, 0x0⟩,
    ⟨"PTP_P_RX_COMP", 0x4700004, [(8, 0x100)], (fun _ => 0), 0xFFFFFFFF, 0x0, 0x0, 0x0, 0x0, 0x0⟩,
    ⟨"PTP_P_TX_COMP", 0x4700008, [(8, 0x100)], (fun _ => 0), 0xFFFFFFFF, 0x0, 0x0, 0x0, 0x0, 0x0⟩,
    ⟨"PTP_P_TXQ_STAT", 0x470000C, [(8, 0x100)], (fun _ => 0), 0x0, 0x80000000, 0x0, 0x0, 0x0, 0x0⟩,
    ⟨"PTP_P_TXQ_ID", 0x4700010, [(8, 0x100)], (fun _ => 0), 0x0, 0x0, 0x0, 0x0, 0x0, 0x0⟩,
    ⟨"PTP_P_TXQ_NS", 0x4700014, [(8, 0x100)], (fun _ => 0), 0x0, 0x0, 0x0, 0x0, 0x0, 0x0⟩,
    ⟨"PTP_P_TXQ_FRAC", 0x4700018, [(8, 0x100)], (fun _ => 0), 0x0, 0x0, 0x0, 0x0, 0x0, 0x0⟩,
    ⟨"PTP_P_TXQ_POP", 0x470001C, [(8, 0x100)], (fun _ => 0), 0x0, 0x0, 0x0, 0x0, 0x0, 0x1⟩,
    ⟨"PTP_P_TXQ_DROP", 0x4700020, [(8, 0x100)], (fun _ => 0), 0x0, 0x0, 0x0, 0x0, 0xFFFFFFFF, 0x0⟩ ]
/-- All access rows of chapter 06: Stroke and PTP. -/
def regRowsTime : List RegRow := regRowsTime0 ++ regRowsTime1

/-! ## Registers of chapter 07: sensor ports -/

/-- Port configuration (07_sensor_ports.md). -/
def SPT_P_CFG (p : Nat) : Reg := ⟨0x1000000 + p * 0x10000, 0⟩
/-- SPT_P_CFG.RATE: Lane rate code, 10–80 -/
def SPT_P_CFG_RATE : Fld := ⟨23, 16⟩
/-- SPT_P_CFG.LEAD: 1: lead port of its head -/
def SPT_P_CFG_LEAD : Fld := ⟨15, 15⟩
/-- SPT_P_CFG.LANES: L, 1–12 -/
def SPT_P_CFG_LANES : Fld := ⟨11, 8⟩
/-- SPT_P_CFG.HEAD: Owning head -/
def SPT_P_CFG_HEAD : Fld := ⟨6, 4⟩
/-- SPT_P_CFG.LEGACY: 1: Legacy mode -/
def SPT_P_CFG_LEGACY : Fld := ⟨1, 1⟩
/-- SPT_P_CFG.EN: 1: port in use -/
def SPT_P_CFG_EN : Fld := ⟨0, 0⟩
/-- [11:0] block lock per lane; [27:16] electrical idle per lane (07_sensor_ports.md). -/
def SPT_P_LANE_STAT (p : Nat) : Reg := ⟨0x1000004 + p * 0x10000, 0⟩
/-- GDDR7 script address [31:4]; [3:0] read 0 (07_sensor_ports.md). -/
def SPT_P_SCRIPT_ADDR_LO (p : Nat) : Reg := ⟨0x1000008 + p * 0x10000, 0⟩
/-- GDDR7 script address [63:32] (07_sensor_ports.md). -/
def SPT_P_SCRIPT_ADDR_HI (p : Nat) : Reg := ⟨0x100000C + p * 0x10000, 0⟩
/-- [0] GO (W1S); [1] BUSY; [2] FAIL; [27:16] failing entry index (07_sensor_ports.md). -/
def SPT_P_SCRIPT_CTRL (p : Nat) : Reg := ⟨0x1000010 + p * 0x10000, 0⟩
/-- [7:0] SOL, [15:8] EOL, [23:16] SOF, [31:24] EOF (07_sensor_ports.md). -/
def SPT_P_LEG_SYNC (p : Nat) : Reg := ⟨0x1000020 + p * 0x10000, 0xB6AB9D80⟩
/-- [15:0] training word (07_sensor_ports.md). -/
def SPT_P_LEG_TRAIN (p : Nat) : Reg := ⟨0x1000024 + p * 0x10000, 0⟩
/-- [0] ALIGN; [1] RUN (07_sensor_ports.md). -/
def SPT_P_LEG_CTRL (p : Nat) : Reg := ⟨0x1000028 + p * 0x10000, 0⟩
/-- [0] ALIGNED; [11:8] skew in words (07_sensor_ports.md). -/
def SPT_P_LEG_STAT (p : Nat) : Reg := ⟨0x100002C + p * 0x10000, 0⟩
/-- [0] INV: invert lane polarity (07_sensor_ports.md). -/
def SPT_L_CFG (p l : Nat) : Reg := ⟨0x1000100 + p * 0x10000 + l * 0x20, 0⟩
/-- [0] block lock; [13:8] skew in blocks against the earliest lane (07_sensor_ports.md). -/
def SPT_L_STAT (p l : Nat) : Reg := ⟨0x1000104 + p * 0x10000 + l * 0x20, 0⟩
/-- Invalid sync headers, saturating (07_sensor_ports.md). -/
def SPT_L_ERR_CNT (p l : Nat) : Reg := ⟨0x1000108 + p * 0x10000 + l * 0x20, 0⟩
/-- [0] 1: slip one bit (07_sensor_ports.md). -/
def SPT_L_BITSLIP (p l : Nat) : Reg := ⟨0x100010C + p * 0x10000 + l * 0x20, 0⟩
/-- [7:0] consecutive training-word matches (07_sensor_ports.md). -/
def SPT_L_LEG_MATCH (p l : Nat) : Reg := ⟨0x1000110 + p * 0x10000 + l * 0x20, 0⟩
/-- Head configuration (07_sensor_ports.md). -/
def SPT_H_CFG (p : Nat) : Reg := ⟨0x1001000 + p * 0x10000, 0⟩
/-- SPT_H_CFG.PORTS: P − 1 -/
def SPT_H_CFG_PORTS : Fld := ⟨14, 12⟩
/-- SPT_H_CFG.TRIG: Trigger path, per R170 -/
def SPT_H_CFG_TRIG : Fld := ⟨11, 10⟩
/-- SPT_H_CFG.CRC_KEEP: 1: keep lines that fail CRC, flagged -/
def SPT_H_CFG_CRC_KEEP : Fld := ⟨9, 9⟩
/-- SPT_H_CFG.CMDL: 1: command lane present -/
def SPT_H_CFG_CMDL : Fld := ⟨8, 8⟩
/-- SPT_H_CFG.MODE_TAG: Mode entry index -/
def SPT_H_CFG_MODE_TAG : Fld := ⟨7, 0⟩
/-- Stage and stop reason (07_sensor_ports.md). -/
def SPT_H_STATE (p : Nat) : Reg := ⟨0x1001004 + p * 0x10000, 0⟩
/-- SPT_H_STATE.STOP_REASON: Per R32 -/
def SPT_H_STATE_STOP_REASON : Fld := ⟨15, 8⟩
/-- SPT_H_STATE.MISMATCH: 1: held in EXCHANGE by R166 -/
def SPT_H_STATE_MISMATCH : Fld := ⟨3, 3⟩
/-- SPT_H_STATE.STAGE: Per R163; 6 and 7 never returned -/
def SPT_H_STATE_STAGE : Fld := ⟨2, 0⟩
/-- [15:0] W; [31:16] H (07_sensor_ports.md). -/
def SPT_H_GEOM (p : Nat) : Reg := ⟨0x1001008 + p * 0x10000, 0⟩
/-- [4:0] b; [6:5] R − 1; [9:8] CFA; [11:10] phase; [31:16] O (07_sensor_ports.md). -/
def SPT_H_FMT (p : Nat) : Reg := ⟨0x100100C + p * 0x10000, 0⟩
/-- Line timeout, TB0 ns; 0 acts as 1 (07_sensor_ports.md). -/
def SPT_H_LINE_TMO (p : Nat) : Reg := ⟨0x1001010 + p * 0x10000, 0x2710⟩
/-- Frame timeout, TB0 ns (07_sensor_ports.md). -/
def SPT_H_FRAME_TMO (p : Nat) : Reg := ⟨0x1001014 + p * 0x10000, 0x2000000⟩
/-- [15:0] FILL code (07_sensor_ports.md). -/
def SPT_H_FILL (p : Nat) : Reg := ⟨0x1001018 + p * 0x10000, 0⟩
/-- Lock timeout, TB0 ns (07_sensor_ports.md). -/
def SPT_H_LOCK_TMO (p : Nat) : Reg := ⟨0x100101C + p * 0x10000, 0x1312D00⟩
/-- Frames accepted, wrapping (07_sensor_ports.md). -/
def SPT_H_FRAMES (p : Nat) : Reg := ⟨0x1001020 + p * 0x10000, 0⟩
/-- INCOMPLETE frames, saturating (07_sensor_ports.md). -/
def SPT_H_INCOMPLETE (p : Nat) : Reg := ⟨0x1001024 + p * 0x10000, 0⟩
/-- Substituted lines, saturating (07_sensor_ports.md). -/
def SPT_H_SUBST (p : Nat) : Reg := ⟨0x1001028 + p * 0x10000, 0⟩
/-- Line End CRC failures, saturating (07_sensor_ports.md). -/
def SPT_H_CRC_ERR (p : Nat) : Reg := ⟨0x100102C + p * 0x10000, 0⟩
/-- Protocol errors, saturating (07_sensor_ports.md). -/
def SPT_H_PROTO_ERR (p : Nat) : Reg := ⟨0x1001030 + p * 0x10000, 0⟩
/-- Line timeouts, saturating (07_sensor_ports.md). -/
def SPT_H_TMO_CNT (p : Nat) : Reg := ⟨0x1001034 + p * 0x10000, 0⟩
/-- Late lines discarded, saturating (07_sensor_ports.md). -/
def SPT_H_LATE_LINE (p : Nat) : Reg := ⟨0x1001038 + p * 0x10000, 0⟩
/-- Frame-number gaps, saturating (07_sensor_ports.md). -/
def SPT_H_FRAME_GAP (p : Nat) : Reg := ⟨0x100103C + p * 0x10000, 0⟩
/-- Triggers discarded, saturating (07_sensor_ports.md). -/
def SPT_H_TRIG_DROP (p : Nat) : Reg := ⟨0x1001040 + p * 0x10000, 0⟩
/-- Exits from ACTIVE, saturating (07_sensor_ports.md). -/
def SPT_H_LINK_DOWN_CNT (p : Nat) : Reg := ⟨0x1001044 + p * 0x10000, 0⟩
/-- [7:0] Frame End flags; [15:8] last Status code; [31:16] low half of last Status value (07_sensor_ports.md). -/
def SPT_H_STATUS_WORD (p : Nat) : Reg := ⟨0x1001048 + p * 0x10000, 0⟩
/-- [15:0] frame number of the last Frame Start (07_sensor_ports.md). -/
def SPT_H_LAST_FRAME (p : Nat) : Reg := ⟨0x100104C + p * 0x10000, 0⟩
/-- Command-lane address (07_sensor_ports.md). -/
def SPT_H_CMD_ADDR (p : Nat) : Reg := ⟨0x1001080 + p * 0x10000, 0⟩
/-- Write data; read result after completion (07_sensor_ports.md). -/
def SPT_H_CMD_DATA (p : Nat) : Reg := ⟨0x1001084 + p * 0x10000, 0⟩
/-- Command control (07_sensor_ports.md). -/
def SPT_H_CMD_CTRL (p : Nat) : Reg := ⟨0x1001088 + p * 0x10000, 0⟩
/-- SPT_H_CMD_CTRL.STATUS: Response status; 0xF timed out -/
def SPT_H_CMD_CTRL_STATUS : Fld := ⟨19, 16⟩
/-- SPT_H_CMD_CTRL.DISCARD: 1: a GO was discarded while BUSY -/
def SPT_H_CMD_CTRL_DISCARD : Fld := ⟨9, 9⟩
/-- SPT_H_CMD_CTRL.BUSY: 1: command in progress -/
def SPT_H_CMD_CTRL_BUSY : Fld := ⟨8, 8⟩
/-- SPT_H_CMD_CTRL.GO: Write 1 to send; reads 0 -/
def SPT_H_CMD_CTRL_GO : Fld := ⟨1, 1⟩
/-- SPT_H_CMD_CTRL.OP: 0 READ, 1 WRITE -/
def SPT_H_CMD_CTRL_OP : Fld := ⟨0, 0⟩
/-- Response timeout, µs, 1–65,535; 0 acts as 1 (07_sensor_ports.md). -/
def SPT_H_CMD_TMO (p : Nat) : Reg := ⟨0x100108C + p * 0x10000, 0x3E8⟩
/-- [15:0] IDLE, µs before the transmit direction sleeps; 0 never (07_sensor_ports.md). -/
def SPT_H_SLEEP (p : Nat) : Reg := ⟨0x1001090 + p * 0x10000, 0⟩
/-- Committed frame rate f, millifps (R525) (07_sensor_ports.md). -/
def SPT_H_RATE (p : Nat) : Reg := ⟨0x1001094 + p * 0x10000, 0⟩
/-- [7:0] MEMBERS; [15:8] DROP_LIMIT, 0 acts as 8; [16] EN (07_sensor_ports.md). -/
def SPT_SG_CFG (g : Nat) : Reg := ⟨0x1008000 + g * 0x40, 0x800⟩
/-- Deadline after the group frame start, TB0 ns (07_sensor_ports.md). -/
def SPT_SG_DEADLINE (g : Nat) : Reg := ⟨0x1008004 + g * 0x40, 0⟩
/-- Group frame number (07_sensor_ports.md). -/
def SPT_SG_FRAME (g : Nat) : Reg := ⟨0x1008008 + g * 0x40, 0⟩
/-- [7:0] current members; [15:8] SPT_SG_DROPPED, dropped members (07_sensor_ports.md). -/
def SPT_SG_ACTIVE (g : Nat) : Reg := ⟨0x100800C + g * 0x40, 0⟩
/-- [7:0] readmission request per head; bits clear when served (07_sensor_ports.md). -/
def SPT_SG_REJOIN (g : Nat) : Reg := ⟨0x1008010 + g * 0x40, 0⟩
/-- Consecutive INCOMPLETE counts, 8 bits per head, H0–H3 (07_sensor_ports.md). -/
def SPT_SG_RUN_LO (g : Nat) : Reg := ⟨0x1008014 + g * 0x40, 0⟩
/-- Consecutive INCOMPLETE counts, H4–H7 (07_sensor_ports.md). -/
def SPT_SG_RUN_HI (g : Nat) : Reg := ⟨0x1008018 + g * 0x40, 0⟩

/-- Access rows (RW, W1C, W1S, RG, RC, WO masks) of chapter 07: sensor ports. -/
def regRowsSensor0 : List RegRow :=
  [ ⟨"SPT_P_CFG", 0x1000000, [(8, 0x10000)], (fun _ => 0), 0x0, 0x0, 0x0, 0xFF8F73, 0x0, 0x0⟩,
    ⟨"SPT_P_LANE_STAT", 0x1000004, [(8, 0x10000)], (fun _ => 0), 0x0, 0x0, 0x0, 0x0, 0x0, 0x0⟩,
    ⟨"SPT_P_SCRIPT_ADDR_LO", 0x1000008, [(8, 0x10000)], (fun _ => 0), 0xFFFFFFF0, 0x0, 0x0, 0x0, 0x0, 0x0⟩,
    ⟨"SPT_P_SCRIPT_ADDR_HI", 0x100000C, [(8, 0x10000)], (fun _ => 0), 0xFFFFFFFF, 0x0, 0x0, 0x0, 0x0, 0x0⟩,
    ⟨"SPT_P_SCRIPT_CTRL", 0x1000010, [(8, 0x10000)], (fun _ => 0), 0x0, 0x0, 0x1, 0x0, 0x0, 0x0⟩,
    ⟨"SPT_P_LEG_SYNC", 0x1000020, [(8, 0x10000)], (fun _ => 0xB6AB9D80), 0xFFFFFFFF, 0x0, 0x0, 0x0, 0x0, 0x0⟩,
    ⟨"SPT_P_LEG_TRAIN", 0x1000024, [(8, 0x10000)], (fun _ => 0), 0xFFFF, 0x0, 0x0, 0x0, 0x0, 0x0⟩,
    ⟨"SPT_P_LEG_CTRL", 0x1000028, [(8, 0x10000)], (fun _ => 0), 0x0, 0x0, 0x3, 0x0, 0x0, 0x0⟩,
    ⟨"SPT_P_LEG_STAT", 0x100002C, [(8, 0x10000)], (fun _ => 0), 0x0, 0x0, 0x0, 0x0, 0x0, 0x0⟩,
    ⟨"SPT_L_CFG", 0x1000100, [(8, 0x10000), (12, 0x20)], (fun _ => 0), 0x0, 0x0, 0x0, 0x1, 0x0, 0x0⟩,
    ⟨"SPT_L_STAT", 0x1000104, [(8, 0x10000), (12, 0x20)], (fun _ => 0), 0x0, 0x0, 0x0, 0x0, 0x0, 0x0⟩,
    ⟨"SPT_L_ERR_CNT", 0x1000108, [(8, 0x10000), (12, 0x20)], (fun _ => 0), 0x0, 0x0, 0x0, 0x0, 0xFFFFFFFF, 0x0⟩,
    ⟨"SPT_L_BITSLIP", 0x100010C, [(8, 0x10000), (12, 0x20)], (fun _ => 0), 0x0, 0x0, 0x0, 0x0, 0x0, 0x1⟩,
    ⟨"SPT_L_LEG_MATCH", 0x1000110, [(8, 0x10000), (12, 0x20)], (fun _ => 0), 0x0, 0x0, 0x0, 0x0, 0x0, 0x0⟩,
    ⟨"SPT_H_CFG", 0x1001000, [(8, 0x10000)], (fun _ => 0), 0x0, 0x0, 0x0, 0x7FFF, 0x0, 0x0⟩,
    ⟨"SPT_H_STATE", 0x1001004, [(8, 0x10000)], (fun _ => 0), 0x0, 0x0, 0x0, 0x0, 0x0, 0x0⟩,
    ⟨"SPT_H_GEOM", 0x1001008, [(8, 0x10000)], (fun _ => 0), 0x0, 0x0, 0x0, 0xFFFFFFFF, 0x0, 0x0⟩,
    ⟨"SPT_H_FMT", 0x100100C, [(8, 0x10000)], (fun _ => 0), 0x0, 0x0, 0x0, 0xFFFF0F7F, 0x0, 0x0⟩,
    ⟨"SPT_H_LINE_TMO", 0x1001010, [(8, 0x10000)], (fun _ => 0x2710), 0xFFFFFFFF, 0x0, 0x0, 0x0, 0x0, 0x0⟩,
    ⟨"SPT_H_FRAME_TMO", 0x1001014, [(8, 0x10000)], (fun _ => 0x2000000), 0xFFFFFFFF, 0x0, 0x0, 0x0, 0x0, 0x0⟩,
    ⟨"SPT_H_FILL", 0x1001018, [(8, 0x10000)], (fun _ => 0), 0xFFFF, 0x0, 0x0, 0x0, 0x0, 0x0⟩,
    ⟨"SPT_H_LOCK_TMO", 0x100101C, [(8, 0x10000)], (fun _ => 0x1312D00), 0xFFFFFFFF, 0x0, 0x0, 0x0, 0x0, 0x0⟩,
    ⟨"SPT_H_FRAMES", 0x1001020, [(8, 0x10000)], (fun _ => 0), 0x0, 0x0, 0x0, 0x0, 0x0, 0x0⟩,
    ⟨"SPT_H_INCOMPLETE", 0x1001024, [(8, 0x10000)], (fun _ => 0), 0x0, 0x0, 0x0, 0x0, 0xFFFFFFFF, 0x0⟩ ]
/-- Access rows (RW, W1C, W1S, RG, RC, WO masks) of chapter 07: sensor ports. -/
def regRowsSensor1 : List RegRow :=
  [ ⟨"SPT_H_SUBST", 0x1001028, [(8, 0x10000)], (fun _ => 0), 0x0, 0x0, 0x0, 0x0, 0xFFFFFFFF, 0x0⟩,
    ⟨"SPT_H_CRC_ERR", 0x100102C, [(8, 0x10000)], (fun _ => 0), 0x0, 0x0, 0x0, 0x0, 0xFFFFFFFF, 0x0⟩,
    ⟨"SPT_H_PROTO_ERR", 0x1001030, [(8, 0x10000)], (fun _ => 0), 0x0, 0x0, 0x0, 0x0, 0xFFFFFFFF, 0x0⟩,
    ⟨"SPT_H_TMO_CNT", 0x1001034, [(8, 0x10000)], (fun _ => 0), 0x0, 0x0, 0x0, 0x0, 0xFFFFFFFF, 0x0⟩,
    ⟨"SPT_H_LATE_LINE", 0x1001038, [(8, 0x10000)], (fun _ => 0), 0x0, 0x0, 0x0, 0x0, 0xFFFFFFFF, 0x0⟩,
    ⟨"SPT_H_FRAME_GAP", 0x100103C, [(8, 0x10000)], (fun _ => 0), 0x0, 0x0, 0x0, 0x0, 0xFFFFFFFF, 0x0⟩,
    ⟨"SPT_H_TRIG_DROP", 0x1001040, [(8, 0x10000)], (fun _ => 0), 0x0, 0x0, 0x0, 0x0, 0xFFFFFFFF, 0x0⟩,
    ⟨"SPT_H_LINK_DOWN_CNT", 0x1001044, [(8, 0x10000)], (fun _ => 0), 0x0, 0x0, 0x0, 0x0, 0xFFFFFFFF, 0x0⟩,
    ⟨"SPT_H_STATUS_WORD", 0x1001048, [(8, 0x10000)], (fun _ => 0), 0x0, 0x0, 0x0, 0x0, 0x0, 0x0⟩,
    ⟨"SPT_H_LAST_FRAME", 0x100104C, [(8, 0x10000)], (fun _ => 0), 0x0, 0x0, 0x0, 0x0, 0x0, 0x0⟩,
    ⟨"SPT_H_CMD_ADDR", 0x1001080, [(8, 0x10000)], (fun _ => 0), 0xFFFFFFFF, 0x0, 0x0, 0x0, 0x0, 0x0⟩,
    ⟨"SPT_H_CMD_DATA", 0x1001084, [(8, 0x10000)], (fun _ => 0), 0xFFFFFFFF, 0x0, 0x0, 0x0, 0x0, 0x0⟩,
    ⟨"SPT_H_CMD_CTRL", 0x1001088, [(8, 0x10000)], (fun _ => 0), 0x1, 0x200, 0x2, 0x0, 0x0, 0x0⟩,
    ⟨"SPT_H_CMD_TMO", 0x100108C, [(8, 0x10000)], (fun _ => 0x3E8), 0xFFFFFFFF, 0x0, 0x0, 0x0, 0x0, 0x0⟩,
    ⟨"SPT_H_SLEEP", 0x1001090, [(8, 0x10000)], (fun _ => 0), 0xFFFF, 0x0, 0x0, 0x0, 0x0, 0x0⟩,
    ⟨"SPT_H_RATE", 0x1001094, [(8, 0x10000)], (fun _ => 0), 0x0, 0x0, 0x0, 0xFFFFFFFF, 0x0, 0x0⟩,
    ⟨"SPT_SG_CFG", 0x1008000, [(4, 0x40)], (fun _ => 0x800), 0x0, 0x0, 0x0, 0x1FFFF, 0x0, 0x0⟩,
    ⟨"SPT_SG_DEADLINE", 0x1008004, [(4, 0x40)], (fun _ => 0), 0xFFFFFFFF, 0x0, 0x0, 0x0, 0x0, 0x0⟩,
    ⟨"SPT_SG_FRAME", 0x1008008, [(4, 0x40)], (fun _ => 0), 0x0, 0x0, 0x0, 0x0, 0x0, 0x0⟩,
    ⟨"SPT_SG_ACTIVE", 0x100800C, [(4, 0x40)], (fun _ => 0), 0x0, 0x0, 0x0, 0x0, 0x0, 0x0⟩,
    ⟨"SPT_SG_REJOIN", 0x1008010, [(4, 0x40)], (fun _ => 0), 0x0, 0x0, 0xFF, 0x0, 0x0, 0x0⟩,
    ⟨"SPT_SG_RUN_LO", 0x1008014, [(4, 0x40)], (fun _ => 0), 0x0, 0x0, 0x0, 0x0, 0x0, 0x0⟩,
    ⟨"SPT_SG_RUN_HI", 0x1008018, [(4, 0x40)], (fun _ => 0), 0x0, 0x0, 0x0, 0x0, 0x0, 0x0⟩ ]
/-- All access rows of chapter 07: sensor ports. -/
def regRowsSensor : List RegRow := regRowsSensor0 ++ regRowsSensor1

/-! ## Registers of chapter 08: raw front end -/

/-- Head configuration (08_raw_front_end.md). -/
def CAT_H_CFG (h : Nat) : Reg := ⟨0x1200000 + h * 0x10000, 0⟩
/-- CAT_H_CFG.FE_COUNT: Front-end lanes, 1–8 -/
def CAT_H_CFG_FE_COUNT : Fld := ⟨14, 11⟩
/-- CAT_H_CFG.FE_FIRST: First front-end lane -/
def CAT_H_CFG_FE_FIRST : Fld := ⟨10, 8⟩
/-- CAT_H_CFG.FACTORY_ONLY: 1: Paddle processing under R120 -/
def CAT_H_CFG_FACTORY_ONLY : Fld := ⟨4, 4⟩
/-- CAT_H_CFG.DYN_EN: 1: dynamic detection -/
def CAT_H_CFG_DYN_EN : Fld := ⟨3, 3⟩
/-- CAT_H_CFG.OUTFMT: 0 native, 1 CL20 -/
def CAT_H_CFG_OUTFMT : Fld := ⟨2, 2⟩
/-- CAT_H_CFG.RAW_WR: 1: raw frames written -/
def CAT_H_CFG_RAW_WR : Fld := ⟨1, 1⟩
/-- CAT_H_CFG.EN: 1: head in use -/
def CAT_H_CFG_EN : Fld := ⟨0, 0⟩
/-- Calibration state, stop reason (08_raw_front_end.md). -/
def CAT_H_STATUS (h : Nat) : Reg := ⟨0x1200004 + h * 0x10000, 0⟩
/-- CAT_H_STATUS.STOP_REASON: Per R32 -/
def CAT_H_STATUS_STOP_REASON : Fld := ⟨23, 16⟩
/-- CAT_H_STATUS.FACT_MISSING: Bit TYPE − 1 set: that factory table is identity -/
def CAT_H_STATUS_FACT_MISSING : Fld := ⟨14, 8⟩
/-- CAT_H_STATUS.TEMP_VALID: 1: head temperature current -/
def CAT_H_STATUS_TEMP_VALID : Fld := ⟨2, 2⟩
/-- CAT_H_STATUS.USER_PENDING: 1: user shadow awaits a Frame Start -/
def CAT_H_STATUS_USER_PENDING : Fld := ⟨1, 1⟩
/-- CAT_H_STATUS.FACTORY_VALID: 1: a verified store is in force -/
def CAT_H_STATUS_FACTORY_VALID : Fld := ⟨0, 0⟩
/-- Optical-black clamp (08_raw_front_end.md). -/
def CAT_H_OB (h : Nat) : Reg := ⟨0x1200008 + h * 0x10000, 0⟩
/-- CAT_H_OB.REJECT: Acceptance band in codes; 0 accepts all -/
def CAT_H_OB_REJECT : Fld := ⟨31, 16⟩
/-- CAT_H_OB.SHIFT: 0–8; 9–15 act as 8 -/
def CAT_H_OB_SHIFT : Fld := ⟨11, 8⟩
/-- CAT_H_OB.OB_LEFT: OB columns per line -/
def CAT_H_OB_OB_LEFT : Fld := ⟨7, 0⟩
/-- Initial K, FP32 (08_raw_front_end.md). -/
def CAT_H_CLAMP_INIT (h : Nat) : Reg := ⟨0x120000C + h * 0x10000, 0⟩
/-- K with OB_LEFT 0, FP32 (08_raw_front_end.md). -/
def CAT_H_CLAMP_FIXED (h : Nat) : Reg := ⟨0x1200010 + h * 0x10000, 0⟩
/-- [15:0] native pedestal; [31:16] reserved (08_raw_front_end.md). -/
def CAT_H_NATIVE_PED (h : Nat) : Reg := ⟨0x1200014 + h * 0x10000, 0⟩
/-- [15:0] head temperature, 1/16 °C; 0x8000 none; [31:16] reserved (08_raw_front_end.md). -/
def CAT_H_TEMP (h : Nat) : Reg := ⟨0x1200018 + h * 0x10000, 0x8000⟩
/-- RATIO_r, FP32 (08_raw_front_end.md). -/
def CAT_H_RATIO (h i : Nat) : Reg := ⟨0x1200020 + h * 0x10000 + i * 0x4, 0x3F800000⟩
/-- SAT_r in codes, FP32 (08_raw_front_end.md). -/
def CAT_H_SAT (h i : Nat) : Reg := ⟨0x1200030 + h * 0x10000 + i * 0x4, 0x47800000⟩
/-- Merge control (08_raw_front_end.md). -/
def CAT_H_MERGE (h : Nat) : Reg := ⟨0x1200040 + h * 0x10000, 0x3000000⟩
/-- CAT_H_MERGE.GHOST_K: Unsigned 8.8; 0 disables exclusion -/
def CAT_H_MERGE_GHOST_K : Fld := ⟨31, 16⟩
/-- CAT_H_MERGE.REF: Readout preferred under REF_POLICY 1 -/
def CAT_H_MERGE_REF : Fld := ⟨2, 1⟩
/-- CAT_H_MERGE.REF_POLICY: 0 most sensitive valid; 1 REF when valid -/
def CAT_H_MERGE_REF_POLICY : Fld := ⟨0, 0⟩
/-- [13:0] first granule; [29:16] granule count; others reserved (08_raw_front_end.md). -/
def CAT_H_MERGE_GRAN (h : Nat) : Reg := ⟨0x1200044 + h * 0x10000, 0⟩
/-- Dynamic detection (08_raw_front_end.md). -/
def CAT_H_DYN (h : Nat) : Reg := ⟨0x1200048 + h * 0x10000, 0xF00004⟩
/-- CAT_H_DYN.RETIRE: DYN_RETIRE in frames; 0 never -/
def CAT_H_DYN_RETIRE : Fld := ⟨31, 16⟩
/-- CAT_H_DYN.PROMOTE: DYN_PROMOTE in frames; 0 acts as 1 -/
def CAT_H_DYN_PROMOTE : Fld := ⟨7, 0⟩
/-- Flag threshold, FP32 (08_raw_front_end.md). -/
def CAT_H_DYN_K (h : Nat) : Reg := ⟨0x120004C + h * 0x10000, 0x41000000⟩
/-- [19:0] first context of the range (08_raw_front_end.md). -/
def CAT_H_DEF_FIRST (h : Nat) : Reg := ⟨0x1200050 + h * 0x10000, 0⟩
/-- [20:0] contexts in the range (08_raw_front_end.md). -/
def CAT_H_DEF_COUNT (h : Nat) : Reg := ⟨0x1200054 + h * 0x10000, 0⟩
/-- [20:0] dynamic contexts in use (08_raw_front_end.md). -/
def CAT_H_DEF_DYN (h : Nat) : Reg := ⟨0x1200058 + h * 0x10000, 0⟩
/-- Ring address [31:12]; [11:0] read 0 (08_raw_front_end.md). -/
def CAT_H_RAW_ADDR_LO (h : Nat) : Reg := ⟨0x1200060 + h * 0x10000, 0⟩
/-- Ring address [63:32] (08_raw_front_end.md). -/
def CAT_H_RAW_ADDR_HI (h : Nat) : Reg := ⟨0x1200064 + h * 0x10000, 0⟩
/-- [7:0] RAW_BUFS, 2–255 (08_raw_front_end.md). -/
def CAT_H_RAW_BUFS (h : Nat) : Reg := ⟨0x1200068 + h * 0x10000, 0⟩
/-- [7:0] last closed buffer (08_raw_front_end.md). -/
def CAT_H_RAW_LAST (h : Nat) : Reg := ⟨0x120006C + h * 0x10000, 0⟩
/-- User shadow commit (08_raw_front_end.md). -/
def CAT_H_USER_COMMIT (h : Nat) : Reg := ⟨0x1200080 + h * 0x10000, 0⟩
/-- CAT_H_USER_COMMIT.DISCARDED: 1: a commit discarded the shadow (R191) -/
def CAT_H_USER_COMMIT_DISCARDED : Fld := ⟨1, 1⟩
/-- CAT_H_USER_COMMIT.GO: Write 1 to schedule; reads 1 while pending -/
def CAT_H_USER_COMMIT_GO : Fld := ⟨0, 0⟩
/-- User applies, wrapping (08_raw_front_end.md). -/
def CAT_H_USER_GEN (h : Nat) : Reg := ⟨0x1200084 + h * 0x10000, 0⟩
/-- Frames not written, saturating (08_raw_front_end.md). -/
def CAT_H_RAW_DROP (h : Nat) : Reg := ⟨0x1200100 + h * 0x10000, 0⟩
/-- Lines merged under R207, saturating (08_raw_front_end.md). -/
def CAT_H_MERGE_OVR (h : Nat) : Reg := ⟨0x1200104 + h * 0x10000, 0⟩
/-- Flags without an empty context, saturating (08_raw_front_end.md). -/
def CAT_H_DYN_FULL (h : Nat) : Reg := ⟨0x1200108 + h * 0x10000, 0⟩
/-- Contexts not applied, saturating (08_raw_front_end.md). -/
def CAT_H_DEF_SKIP (h : Nat) : Reg := ⟨0x120010C + h * 0x10000, 0⟩
/-- Clamp lines without accepted OB photosites, saturating (08_raw_front_end.md). -/
def CAT_H_CLAMP_EMPTY (h : Nat) : Reg := ⟨0x1200110 + h * 0x10000, 0⟩
/-- Values clamped or replaced, saturating (08_raw_front_end.md). -/
def CAT_H_LOAD_CLAMP (h : Nat) : Reg := ⟨0x1200114 + h * 0x10000, 0⟩
/-- Ghosted photosites, last closed frame (08_raw_front_end.md). -/
def CAT_H_GHOST (h : Nat) : Reg := ⟨0x1200118 + h * 0x10000, 0⟩
/-- Saturated photosites, last closed frame (08_raw_front_end.md). -/
def CAT_H_ALLSAT (h : Nat) : Reg := ⟨0x120011C + h * 0x10000, 0⟩
/-- Table selection (08_raw_front_end.md). -/
def CAT_TBL_SEL (h : Nat) : Reg := ⟨0x1200200 + h * 0x10000, 0⟩
/-- CAT_TBL_SEL.EFF: 1: reads return the effective FP32 value -/
def CAT_TBL_SEL_EFF : Fld := ⟨9, 9⟩
/-- CAT_TBL_SEL.LAYER: 0 factory, 1 user shadow -/
def CAT_TBL_SEL_LAYER : Fld := ⟨8, 8⟩
/-- CAT_TBL_SEL.READOUT: Readout -/
def CAT_TBL_SEL_READOUT : Fld := ⟨5, 4⟩
/-- CAT_TBL_SEL.TYPE: 1–6 per R188; other values select nothing -/
def CAT_TBL_SEL_TYPE : Fld := ⟨3, 0⟩
/-- [23:0] entry index, advancing (08_raw_front_end.md). -/
def CAT_TBL_INDEX (h : Nat) : Reg := ⟨0x1200204 + h * 0x10000, 0⟩
/-- Entry data (08_raw_front_end.md). -/
def CAT_TBL_DATA (h : Nat) : Reg := ⟨0x1200208 + h * 0x10000, 0⟩
/-- [19:0] context index; advances after a DATA2 access (08_raw_front_end.md). -/
def CAT_DEF_INDEX (h : Nat) : Reg := ⟨0x1200300 + h * 0x10000, 0⟩
/-- Context bits [31:0], [63:32], [95:64] (08_raw_front_end.md). -/
def CAT_DEF_DATA (h i : Nat) : Reg := ⟨0x1200304 + h * 0x10000 + i * 0x4, 0⟩
/-- [14:0] COL; [28:15] ROW; a write starts a query (08_raw_front_end.md). -/
def CAT_DEF_QUERY (h : Nat) : Reg := ⟨0x1200310 + h * 0x10000, 0⟩
/-- Query result (08_raw_front_end.md). -/
def CAT_DEF_QRESULT (h : Nat) : Reg := ⟨0x1200314 + h * 0x10000, 0⟩
/-- CAT_DEF_QRESULT.VALID: 1: query complete, within 2 µs of the QUERY write -/
def CAT_DEF_QRESULT_VALID : Fld := ⟨31, 31⟩
/-- CAT_DEF_QRESULT.SOURCE: Context applied in the current frame: 0 none, 1 factory, 2 user, 3 dynamic -/
def CAT_DEF_QRESULT_SOURCE : Fld := ⟨30, 29⟩
/-- CAT_DEF_QRESULT.RECIPE: Recipe applied -/
def CAT_DEF_QRESULT_RECIPE : Fld := ⟨28, 26⟩
/-- CAT_DEF_QRESULT.INDEX: Index of the applied context -/
def CAT_DEF_QRESULT_INDEX : Fld := ⟨19, 0⟩

/-- Access rows (RW, W1C, W1S, RG, RC, WO masks) of chapter 08: raw front end. -/
def regRowsCatch0 : List RegRow :=
  [ ⟨"CAT_H_CFG", 0x1200000, [(8, 0x10000)], (fun _ => 0), 0x0, 0x0, 0x0, 0x7F1F, 0x0, 0x0⟩,
    ⟨"CAT_H_STATUS", 0x1200004, [(8, 0x10000)], (fun _ => 0), 0x0, 0x0, 0x0, 0x0, 0x0, 0x0⟩,
    ⟨"CAT_H_OB", 0x1200008, [(8, 0x10000)], (fun _ => 0), 0x0, 0x0, 0x0, 0xFFFF0FFF, 0x0, 0x0⟩,
    ⟨"CAT_H_CLAMP_INIT", 0x120000C, [(8, 0x10000)], (fun _ => 0), 0x0, 0x0, 0x0, 0xFFFFFFFF, 0x0, 0x0⟩,
    ⟨"CAT_H_CLAMP_FIXED", 0x1200010, [(8, 0x10000)], (fun _ => 0), 0x0, 0x0, 0x0, 0xFFFFFFFF, 0x0, 0x0⟩,
    ⟨"CAT_H_NATIVE_PED", 0x1200014, [(8, 0x10000)], (fun _ => 0), 0x0, 0x0, 0x0, 0xFFFF, 0x0, 0x0⟩,
    ⟨"CAT_H_TEMP", 0x1200018, [(8, 0x10000)], (fun _ => 0x8000), 0x0, 0x0, 0x0, 0x0, 0x0, 0x0⟩,
    ⟨"CAT_H_RATIO", 0x1200020, [(8, 0x10000), (4, 0x4)], (fun _ => 0x3F800000), 0x0, 0x0, 0x0, 0xFFFFFFFF, 0x0, 0x0⟩,
    ⟨"CAT_H_SAT", 0x1200030, [(8, 0x10000), (4, 0x4)], (fun _ => 0x47800000), 0x0, 0x0, 0x0, 0xFFFFFFFF, 0x0, 0x0⟩,
    ⟨"CAT_H_MERGE", 0x1200040, [(8, 0x10000)], (fun _ => 0x3000000), 0x0, 0x0, 0x0, 0xFFFF0007, 0x0, 0x0⟩,
    ⟨"CAT_H_MERGE_GRAN", 0x1200044, [(8, 0x10000)], (fun _ => 0), 0x0, 0x0, 0x0, 0x0, 0x0, 0x0⟩,
    ⟨"CAT_H_DYN", 0x1200048, [(8, 0x10000)], (fun _ => 0xF00004), 0x0, 0x0, 0x0, 0xFFFF00FF, 0x0, 0x0⟩,
    ⟨"CAT_H_DYN_K", 0x120004C, [(8, 0x10000)], (fun _ => 0x41000000), 0x0, 0x0, 0x0, 0xFFFFFFFF, 0x0, 0x0⟩,
    ⟨"CAT_H_DEF_FIRST", 0x1200050, [(8, 0x10000)], (fun _ => 0), 0x0, 0x0, 0x0, 0x0, 0x0, 0x0⟩,
    ⟨"CAT_H_DEF_COUNT", 0x1200054, [(8, 0x10000)], (fun _ => 0), 0x0, 0x0, 0x0, 0x0, 0x0, 0x0⟩,
    ⟨"CAT_H_DEF_DYN", 0x1200058, [(8, 0x10000)], (fun _ => 0), 0x0, 0x0, 0x0, 0x0, 0x0, 0x0⟩,
    ⟨"CAT_H_RAW_ADDR_LO", 0x1200060, [(8, 0x10000)], (fun _ => 0), 0x0, 0x0, 0x0, 0xFFFFF000, 0x0, 0x0⟩,
    ⟨"CAT_H_RAW_ADDR_HI", 0x1200064, [(8, 0x10000)], (fun _ => 0), 0x0, 0x0, 0x0, 0xFFFFFFFF, 0x0, 0x0⟩,
    ⟨"CAT_H_RAW_BUFS", 0x1200068, [(8, 0x10000)], (fun _ => 0), 0x0, 0x0, 0x0, 0xFF, 0x0, 0x0⟩,
    ⟨"CAT_H_RAW_LAST", 0x120006C, [(8, 0x10000)], (fun _ => 0), 0x0, 0x0, 0x0, 0x0, 0x0, 0x0⟩,
    ⟨"CAT_H_USER_COMMIT", 0x1200080, [(8, 0x10000)], (fun _ => 0), 0x0, 0x2, 0x1, 0x0, 0x0, 0x0⟩,
    ⟨"CAT_H_USER_GEN", 0x1200084, [(8, 0x10000)], (fun _ => 0), 0x0, 0x0, 0x0, 0x0, 0x0, 0x0⟩,
    ⟨"CAT_H_RAW_DROP", 0x1200100, [(8, 0x10000)], (fun _ => 0), 0x0, 0x0, 0x0, 0x0, 0xFFFFFFFF, 0x0⟩,
    ⟨"CAT_H_MERGE_OVR", 0x1200104, [(8, 0x10000)], (fun _ => 0), 0x0, 0x0, 0x0, 0x0, 0xFFFFFFFF, 0x0⟩ ]
/-- Access rows (RW, W1C, W1S, RG, RC, WO masks) of chapter 08: raw front end. -/
def regRowsCatch1 : List RegRow :=
  [ ⟨"CAT_H_DYN_FULL", 0x1200108, [(8, 0x10000)], (fun _ => 0), 0x0, 0x0, 0x0, 0x0, 0xFFFFFFFF, 0x0⟩,
    ⟨"CAT_H_DEF_SKIP", 0x120010C, [(8, 0x10000)], (fun _ => 0), 0x0, 0x0, 0x0, 0x0, 0xFFFFFFFF, 0x0⟩,
    ⟨"CAT_H_CLAMP_EMPTY", 0x1200110, [(8, 0x10000)], (fun _ => 0), 0x0, 0x0, 0x0, 0x0, 0xFFFFFFFF, 0x0⟩,
    ⟨"CAT_H_LOAD_CLAMP", 0x1200114, [(8, 0x10000)], (fun _ => 0), 0x0, 0x0, 0x0, 0x0, 0xFFFFFFFF, 0x0⟩,
    ⟨"CAT_H_GHOST", 0x1200118, [(8, 0x10000)], (fun _ => 0), 0x0, 0x0, 0x0, 0x0, 0x0, 0x0⟩,
    ⟨"CAT_H_ALLSAT", 0x120011C, [(8, 0x10000)], (fun _ => 0), 0x0, 0x0, 0x0, 0x0, 0x0, 0x0⟩,
    ⟨"CAT_TBL_SEL", 0x1200200, [(8, 0x10000)], (fun _ => 0), 0x33F, 0x0, 0x0, 0x0, 0x0, 0x0⟩,
    ⟨"CAT_TBL_INDEX", 0x1200204, [(8, 0x10000)], (fun _ => 0), 0xFFFFFF, 0x0, 0x0, 0x0, 0x0, 0x0⟩,
    ⟨"CAT_TBL_DATA", 0x1200208, [(8, 0x10000)], (fun _ => 0), 0xFFFFFFFF, 0x0, 0x0, 0x0, 0x0, 0x0⟩,
    ⟨"CAT_DEF_INDEX", 0x1200300, [(8, 0x10000)], (fun _ => 0), 0xFFFFF, 0x0, 0x0, 0x0, 0x0, 0x0⟩,
    ⟨"CAT_DEF_DATA", 0x1200304, [(8, 0x10000), (3, 0x4)], (fun _ => 0), 0xFFFFFFFF, 0x0, 0x0, 0x0, 0x0, 0x0⟩,
    ⟨"CAT_DEF_QUERY", 0x1200310, [(8, 0x10000)], (fun _ => 0), 0x1FFFFFFF, 0x0, 0x0, 0x0, 0x0, 0x0⟩,
    ⟨"CAT_DEF_QRESULT", 0x1200314, [(8, 0x10000)], (fun _ => 0), 0x0, 0x0, 0x0, 0x0, 0x0, 0x0⟩ ]
/-- All access rows of chapter 08: raw front end. -/
def regRowsCatch : List RegRow := regRowsCatch0 ++ regRowsCatch1

/-! ## Registers of chapter 09: colour and look paths -/

/-- Pipe configuration (09_colour.md). -/
def DRV_P_CFG (p : Nat) : Reg := ⟨0x2000000 + p * 0x80000, 0⟩
/-- DRV_P_CFG.SPLIT: 1: serves half of a head under R217 -/
def DRV_P_CFG_SPLIT : Fld := ⟨16, 16⟩
/-- DRV_P_CFG.HEADS: Heads served, one bit per head -/
def DRV_P_CFG_HEADS : Fld := ⟨15, 8⟩
/-- DRV_P_CFG.MODE: 0 matrix, 1 spectral -/
def DRV_P_CFG_MODE : Fld := ⟨1, 1⟩
/-- DRV_P_CFG.EN: 1: pipe in use -/
def DRV_P_CFG_EN : Fld := ⟨0, 0⟩
/-- [15:8] STOP_REASON per R32; others reserved (09_colour.md). -/
def DRV_P_STATUS (p : Nat) : Reg := ⟨0x2000004 + p * 0x80000, 0⟩
/-- Head colour configuration (09_colour.md). -/
def DRV_H_CFG (p h : Nat) : Reg := ⟨0x2010000 + p * 0x80000 + h * 0x1000, 0x100⟩
/-- DRV_H_CFG.SAT_FALLBACK: 1: saturated pixels take L (R236) -/
def DRV_H_CFG_SAT_FALLBACK : Fld := ⟨8, 8⟩
/-- DRV_H_CFG.WS: 0 AP0, 1 BT.2020 linear, 2 native -/
def DRV_H_CFG_WS : Fld := ⟨5, 4⟩
/-- DRV_H_CFG.FCS_EN: 1: pass 3 enabled -/
def DRV_H_CFG_FCS_EN : Fld := ⟨2, 2⟩
/-- DRV_H_CFG.DEMOSAIC: 0 normal, 1 bin bypass -/
def DRV_H_CFG_DEMOSAIC : Fld := ⟨1, 0⟩
/-- Store and computation state (09_colour.md). -/
def DRV_H_STATUS (p h : Nat) : Reg := ⟨0x2010004 + p * 0x80000 + h * 0x1000, 0⟩
/-- DRV_H_STATUS.FACT_MISSING: Bit CTYPE − 1 set: that table is missing -/
def DRV_H_STATUS_FACT_MISSING : Fld := ⟨13, 8⟩
/-- DRV_H_STATUS.ILLUM_INVALID: 1: an illuminant sums to 0 -/
def DRV_H_STATUS_ILLUM_INVALID : Fld := ⟨3, 3⟩
/-- DRV_H_STATUS.COMPUTING: 1: precomputation in progress -/
def DRV_H_STATUS_COMPUTING : Fld := ⟨2, 2⟩
/-- DRV_H_STATUS.PENDING: 1: computed values await a Frame Start -/
def DRV_H_STATUS_PENDING : Fld := ⟨1, 1⟩
/-- DRV_H_STATUS.FACTORY_VALID: 1: a verified colour store is in force -/
def DRV_H_STATUS_FACTORY_VALID : Fld := ⟨0, 0⟩
/-- [3:0] source, [7:4] target, per R233; [31:8] reserved (09_colour.md). -/
def DRV_H_ILLUM (p h : Nat) : Reg := ⟨0x2010008 + p * 0x80000 + h * 0x1000, 0x11⟩
/-- Reflectance bound, FP32, 2.0 (09_colour.md). -/
def DRV_H_RHO_MAX (p h : Nat) : Reg := ⟨0x201000C + p * 0x80000 + h * 0x1000, 0x40000000⟩
/-- User shadow commit (09_colour.md). -/
def DRV_H_COMMIT (p h : Nat) : Reg := ⟨0x2010010 + p * 0x80000 + h * 0x1000, 0⟩
/-- DRV_H_COMMIT.DISCARDED: 1: a commit discarded a pending GO -/
def DRV_H_COMMIT_DISCARDED : Fld := ⟨1, 1⟩
/-- DRV_H_COMMIT.GO: Write 1 to copy and compute; reads 1 until applied -/
def DRV_H_COMMIT_GO : Fld := ⟨0, 0⟩
/-- Applies, wrapping (09_colour.md). -/
def DRV_H_GEN (p h : Nat) : Reg := ⟨0x2010014 + p * 0x80000 + h * 0x1000, 0⟩
/-- σ_w, FP32 (09_colour.md). -/
def DRV_H_SIGMA_W (p h : Nat) : Reg := ⟨0x2010018 + p * 0x80000 + h * 0x1000, 0⟩
/-- α, FP32 (09_colour.md). -/
def DRV_H_ALPHA (p h : Nat) : Reg := ⟨0x201001C + p * 0x80000 + h * 0x1000, 0⟩
/-- User matrix, row-major, FP32 (09_colour.md). -/
def DRV_H_UMAT (p h i : Nat) : Reg := ⟨0x2010020 + p * 0x80000 + h * 0x1000 + i * 0x4, matReset i⟩
/-- WB gains R, G, B, FP32 (09_colour.md). -/
def DRV_H_WB (p h i : Nat) : Reg := ⟨0x2010044 + p * 0x80000 + h * 0x1000 + i * 0x4, 0x3F800000⟩
/-- M (matrix mode) or L (spectral mode), row-major (09_colour.md). -/
def DRV_H_EMAT (p h i : Nat) : Reg := ⟨0x2010060 + p * 0x80000 + h * 0x1000 + i * 0x4, 0⟩
/-- [0] 0 source, 1 target; [1] EFF: reads return the effective scaled table; [31:2] reserved (09_colour.md). -/
def DRV_H_ILL_SEL (p h : Nat) : Reg := ⟨0x2010100 + p * 0x80000 + h * 0x1000, 0⟩
/-- [5:0] bin 0–40; advances after each DATA access (09_colour.md). -/
def DRV_H_ILL_INDEX (p h : Nat) : Reg := ⟨0x2010104 + p * 0x80000 + h * 0x1000, 0⟩
/-- User illuminant entry, FP32 (09_colour.md). -/
def DRV_H_ILL_DATA (p h : Nat) : Reg := ⟨0x2010108 + p * 0x80000 + h * 0x1000, 0⟩
/-- Clamped pixels, last closed frame (09_colour.md). -/
def DRV_H_SPEC_CLAMP (p h : Nat) : Reg := ⟨0x2010200 + p * 0x80000 + h * 0x1000, 0⟩
/-- Fallback pixels, last closed frame (09_colour.md). -/
def DRV_H_SPEC_FALLBACK (p h : Nat) : Reg := ⟨0x2010204 + p * 0x80000 + h * 0x1000, 0⟩
/-- Values replaced or clamped, saturating (09_colour.md). -/
def DRV_H_REPLACED (p h : Nat) : Reg := ⟨0x2010208 + p * 0x80000 + h * 0x1000, 0⟩
/-- Source and stage enables (09_colour.md). -/
def LKP_CFG (n : Nat) : Reg := ⟨0x2100000 + n * 0x10000, 0⟩
/-- LKP_CFG.WR_EN: 1: frame write enabled -/
def LKP_CFG_WR_EN : Fld := ⟨7, 7⟩
/-- LKP_CFG.POST_EN: 1: post table enabled -/
def LKP_CFG_POST_EN : Fld := ⟨6, 6⟩
/-- LKP_CFG.LUT_EN: 1: 3D LUT enabled -/
def LKP_CFG_LUT_EN : Fld := ⟨5, 5⟩
/-- LKP_CFG.SHAPER_EN: 1: shaper enabled -/
def LKP_CFG_SHAPER_EN : Fld := ⟨4, 4⟩
/-- LKP_CFG.EN: 1: look path in use -/
def LKP_CFG_EN : Fld := ⟨3, 3⟩
/-- LKP_CFG.HEAD: Source head -/
def LKP_CFG_HEAD : Fld := ⟨2, 0⟩
/-- Bank and stop reason (09_colour.md). -/
def LKP_STATUS (n : Nat) : Reg := ⟨0x2100004 + n * 0x10000, 0⟩
/-- LKP_STATUS.STOP_REASON: Per R32 -/
def LKP_STATUS_STOP_REASON : Fld := ⟨15, 8⟩
/-- LKP_STATUS.SWAP_PENDING: 1: a swap or bank copy is in progress -/
def LKP_STATUS_SWAP_PENDING : Fld := ⟨1, 1⟩
/-- LKP_STATUS.BANK: Active bank -/
def LKP_STATUS_BANK : Fld := ⟨0, 0⟩
/-- [2:0] OUT_ENC per R241; [31:3] reserved (09_colour.md). -/
def LKP_ENC (n : Nat) : Reg := ⟨0x2100008 + n * 0x10000, 0⟩
/-- [0] SWAP: reads 1 while pending; [31:1] reserved (09_colour.md). -/
def LKP_CTRL (n : Nat) : Reg := ⟨0x210000C + n * 0x10000, 0⟩
/-- Swaps applied, wrapping (09_colour.md). -/
def LKP_GEN (n : Nat) : Reg := ⟨0x2100010 + n * 0x10000, 0⟩
/-- Exposure gain, FP32 (09_colour.md). -/
def LKP_EXPOSURE (n : Nat) : Reg := ⟨0x2100014 + n * 0x10000, 0x3F800000⟩
/-- Encoding scale, FP32 (09_colour.md). -/
def LKP_LIN_SCALE (n : Nat) : Reg := ⟨0x2100018 + n * 0x10000, 0x3F800000⟩
/-- cd/m² at x = 1, FP32, 100.0 (09_colour.md). -/
def LKP_PQ_NITS (n : Nat) : Reg := ⟨0x210001C + n * 0x10000, 0x42C80000⟩
/-- Stage 1 matrix, row-major, FP32 (09_colour.md). -/
def LKP_MAT (n i : Nat) : Reg := ⟨0x2100020 + n * 0x10000 + i * 0x4, matReset i⟩
/-- Stage 1 offsets, FP32 (09_colour.md). -/
def LKP_OFS (n i : Nat) : Reg := ⟨0x2100044 + n * 0x10000 + i * 0x4, 0⟩
/-- Table selection (09_colour.md). -/
def LKP_TBL_SEL (n : Nat) : Reg := ⟨0x2100080 + n * 0x10000, 0⟩
/-- LKP_TBL_SEL.ACTIVE: 1: reads return the active bank; writes are discarded -/
def LKP_TBL_SEL_ACTIVE : Fld := ⟨9, 9⟩
/-- LKP_TBL_SEL.CH: Channel for the shaper and post tables: 0 R, 1 G, 2 B -/
def LKP_TBL_SEL_CH : Fld := ⟨5, 4⟩
/-- LKP_TBL_SEL.TABLE: 0 shaper, 1 LUT, 2 post; 3 selects nothing -/
def LKP_TBL_SEL_TABLE : Fld := ⟨1, 0⟩
/-- [18:0] entry index, advancing (09_colour.md). -/
def LKP_TBL_INDEX (n : Nat) : Reg := ⟨0x2100084 + n * 0x10000, 0⟩
/-- Shaper [15:0]; post FP32; LUT R [15:0], G [31:16] (09_colour.md). -/
def LKP_TBL_DATA0 (n : Nat) : Reg := ⟨0x2100088 + n * 0x10000, 0⟩
/-- LUT B [15:0]; [31:16] reserved (09_colour.md). -/
def LKP_TBL_DATA1 (n : Nat) : Reg := ⟨0x210008C + n * 0x10000, 0⟩
/-- Frame write format (09_colour.md). -/
def LKP_WR_CFG (n : Nat) : Reg := ⟨0x2100100 + n * 0x10000, 0⟩
/-- LKP_WR_CFG.BUFS: Ring buffers, 2–255 -/
def LKP_WR_CFG_BUFS : Fld := ⟨23, 16⟩
/-- LKP_WR_CFG.D: One frame in D, 1–255 -/
def LKP_WR_CFG_D : Fld := ⟨15, 8⟩
/-- LKP_WR_CFG.MATRIX: 0 BT.709, 1 BT.2020 non-constant luminance -/
def LKP_WR_CFG_MATRIX : Fld := ⟨4, 4⟩
/-- LKP_WR_CFG.RANGE: 0 narrow, 1 full -/
def LKP_WR_CFG_RANGE : Fld := ⟨3, 3⟩
/-- LKP_WR_CFG.DEPTH: 0 10-bit, 1 12-bit -/
def LKP_WR_CFG_DEPTH : Fld := ⟨2, 2⟩
/-- LKP_WR_CFG.FMT: 0 4:2:0, 1 4:2:2, 2 4:4:4 -/
def LKP_WR_CFG_FMT : Fld := ⟨1, 0⟩
/-- Ring address [31:12]; [11:0] read 0 (09_colour.md). -/
def LKP_WR_ADDR_LO (n : Nat) : Reg := ⟨0x2100104 + n * 0x10000, 0⟩
/-- Ring address [63:32] (09_colour.md). -/
def LKP_WR_ADDR_HI (n : Nat) : Reg := ⟨0x2100108 + n * 0x10000, 0⟩
/-- [7:0] last written buffer (09_colour.md). -/
def LKP_WR_LAST (n : Nat) : Reg := ⟨0x210010C + n * 0x10000, 0⟩
/-- Frames not written, saturating (09_colour.md). -/
def LKP_WR_DROP (n : Nat) : Reg := ⟨0x2100110 + n * 0x10000, 0⟩
/-- Values replaced or clamped, saturating (09_colour.md). -/
def LKP_REPLACED (n : Nat) : Reg := ⟨0x2100114 + n * 0x10000, 0⟩

/-- Access rows (RW, W1C, W1S, RG, RC, WO masks) of chapter 09: colour and look paths. -/
def regRowsColour0 : List RegRow :=
  [ ⟨"DRV_P_CFG", 0x2000000, [(2, 0x80000)], (fun _ => 0), 0x0, 0x0, 0x0, 0x1FF03, 0x0, 0x0⟩,
    ⟨"DRV_P_STATUS", 0x2000004, [(2, 0x80000)], (fun _ => 0), 0x0, 0x0, 0x0, 0x0, 0x0, 0x0⟩,
    ⟨"DRV_H_CFG", 0x2010000, [(2, 0x80000), (8, 0x1000)], (fun _ => 0x100), 0x0, 0x0, 0x0, 0x137, 0x0, 0x0⟩,
    ⟨"DRV_H_STATUS", 0x2010004, [(2, 0x80000), (8, 0x1000)], (fun _ => 0), 0x0, 0x0, 0x0, 0x0, 0x0, 0x0⟩,
    ⟨"DRV_H_ILLUM", 0x2010008, [(2, 0x80000), (8, 0x1000)], (fun _ => 0x11), 0xFF, 0x0, 0x0, 0x0, 0x0, 0x0⟩,
    ⟨"DRV_H_RHO_MAX", 0x201000C, [(2, 0x80000), (8, 0x1000)], (fun _ => 0x40000000), 0xFFFFFFFF, 0x0, 0x0, 0x0, 0x0, 0x0⟩,
    ⟨"DRV_H_COMMIT", 0x2010010, [(2, 0x80000), (8, 0x1000)], (fun _ => 0), 0x0, 0x2, 0x1, 0x0, 0x0, 0x0⟩,
    ⟨"DRV_H_GEN", 0x2010014, [(2, 0x80000), (8, 0x1000)], (fun _ => 0), 0x0, 0x0, 0x0, 0x0, 0x0, 0x0⟩,
    ⟨"DRV_H_SIGMA_W", 0x2010018, [(2, 0x80000), (8, 0x1000)], (fun _ => 0), 0x0, 0x0, 0x0, 0x0, 0x0, 0x0⟩,
    ⟨"DRV_H_ALPHA", 0x201001C, [(2, 0x80000), (8, 0x1000)], (fun _ => 0), 0x0, 0x0, 0x0, 0x0, 0x0, 0x0⟩,
    ⟨"DRV_H_UMAT", 0x2010020, [(2, 0x80000), (8, 0x1000), (9, 0x4)], matReset, 0xFFFFFFFF, 0x0, 0x0, 0x0, 0x0, 0x0⟩,
    ⟨"DRV_H_WB", 0x2010044, [(2, 0x80000), (8, 0x1000), (3, 0x4)], (fun _ => 0x3F800000), 0xFFFFFFFF, 0x0, 0x0, 0x0, 0x0, 0x0⟩,
    ⟨"DRV_H_EMAT", 0x2010060, [(2, 0x80000), (8, 0x1000), (9, 0x4)], (fun _ => 0), 0x0, 0x0, 0x0, 0x0, 0x0, 0x0⟩,
    ⟨"DRV_H_ILL_SEL", 0x2010100, [(2, 0x80000), (8, 0x1000)], (fun _ => 0), 0x3, 0x0, 0x0, 0x0, 0x0, 0x0⟩,
    ⟨"DRV_H_ILL_INDEX", 0x2010104, [(2, 0x80000), (8, 0x1000)], (fun _ => 0), 0x3F, 0x0, 0x0, 0x0, 0x0, 0x0⟩,
    ⟨"DRV_H_ILL_DATA", 0x2010108, [(2, 0x80000), (8, 0x1000)], (fun _ => 0), 0xFFFFFFFF, 0x0, 0x0, 0x0, 0x0, 0x0⟩,
    ⟨"DRV_H_SPEC_CLAMP", 0x2010200, [(2, 0x80000), (8, 0x1000)], (fun _ => 0), 0x0, 0x0, 0x0, 0x0, 0x0, 0x0⟩,
    ⟨"DRV_H_SPEC_FALLBACK", 0x2010204, [(2, 0x80000), (8, 0x1000)], (fun _ => 0), 0x0, 0x0, 0x0, 0x0, 0x0, 0x0⟩,
    ⟨"DRV_H_REPLACED", 0x2010208, [(2, 0x80000), (8, 0x1000)], (fun _ => 0), 0x0, 0x0, 0x0, 0x0, 0xFFFFFFFF, 0x0⟩,
    ⟨"LKP_CFG", 0x2100000, [(8, 0x10000)], (fun _ => 0), 0x0, 0x0, 0x0, 0xFF, 0x0, 0x0⟩,
    ⟨"LKP_STATUS", 0x2100004, [(8, 0x10000)], (fun _ => 0), 0x0, 0x0, 0x0, 0x0, 0x0, 0x0⟩,
    ⟨"LKP_ENC", 0x2100008, [(8, 0x10000)], (fun _ => 0), 0x0, 0x0, 0x0, 0x7, 0x0, 0x0⟩,
    ⟨"LKP_CTRL", 0x210000C, [(8, 0x10000)], (fun _ => 0), 0x0, 0x0, 0x1, 0x0, 0x0, 0x0⟩,
    ⟨"LKP_GEN", 0x2100010, [(8, 0x10000)], (fun _ => 0), 0x0, 0x0, 0x0, 0x0, 0x0, 0x0⟩ ]
/-- Access rows (RW, W1C, W1S, RG, RC, WO masks) of chapter 09: colour and look paths. -/
def regRowsColour1 : List RegRow :=
  [ ⟨"LKP_EXPOSURE", 0x2100014, [(8, 0x10000)], (fun _ => 0x3F800000), 0xFFFFFFFF, 0x0, 0x0, 0x0, 0x0, 0x0⟩,
    ⟨"LKP_LIN_SCALE", 0x2100018, [(8, 0x10000)], (fun _ => 0x3F800000), 0xFFFFFFFF, 0x0, 0x0, 0x0, 0x0, 0x0⟩,
    ⟨"LKP_PQ_NITS", 0x210001C, [(8, 0x10000)], (fun _ => 0x42C80000), 0xFFFFFFFF, 0x0, 0x0, 0x0, 0x0, 0x0⟩,
    ⟨"LKP_MAT", 0x2100020, [(8, 0x10000), (9, 0x4)], matReset, 0xFFFFFFFF, 0x0, 0x0, 0x0, 0x0, 0x0⟩,
    ⟨"LKP_OFS", 0x2100044, [(8, 0x10000), (3, 0x4)], (fun _ => 0), 0xFFFFFFFF, 0x0, 0x0, 0x0, 0x0, 0x0⟩,
    ⟨"LKP_TBL_SEL", 0x2100080, [(8, 0x10000)], (fun _ => 0), 0x233, 0x0, 0x0, 0x0, 0x0, 0x0⟩,
    ⟨"LKP_TBL_INDEX", 0x2100084, [(8, 0x10000)], (fun _ => 0), 0x7FFFF, 0x0, 0x0, 0x0, 0x0, 0x0⟩,
    ⟨"LKP_TBL_DATA0", 0x2100088, [(8, 0x10000)], (fun _ => 0), 0xFFFFFFFF, 0x0, 0x0, 0x0, 0x0, 0x0⟩,
    ⟨"LKP_TBL_DATA1", 0x210008C, [(8, 0x10000)], (fun _ => 0), 0xFFFF, 0x0, 0x0, 0x0, 0x0, 0x0⟩,
    ⟨"LKP_WR_CFG", 0x2100100, [(8, 0x10000)], (fun _ => 0), 0x0, 0x0, 0x0, 0xFFFF1F, 0x0, 0x0⟩,
    ⟨"LKP_WR_ADDR_LO", 0x2100104, [(8, 0x10000)], (fun _ => 0), 0x0, 0x0, 0x0, 0xFFFFF000, 0x0, 0x0⟩,
    ⟨"LKP_WR_ADDR_HI", 0x2100108, [(8, 0x10000)], (fun _ => 0), 0x0, 0x0, 0x0, 0xFFFFFFFF, 0x0, 0x0⟩,
    ⟨"LKP_WR_LAST", 0x210010C, [(8, 0x10000)], (fun _ => 0), 0x0, 0x0, 0x0, 0x0, 0x0, 0x0⟩,
    ⟨"LKP_WR_DROP", 0x2100110, [(8, 0x10000)], (fun _ => 0), 0x0, 0x0, 0x0, 0x0, 0xFFFFFFFF, 0x0⟩,
    ⟨"LKP_REPLACED", 0x2100114, [(8, 0x10000)], (fun _ => 0), 0x0, 0x0, 0x0, 0x0, 0xFFFFFFFF, 0x0⟩ ]
/-- All access rows of chapter 09: colour and look paths. -/
def regRowsColour : List RegRow := regRowsColour0 ++ regRowsColour1

/-! ## Registers of chapter 10: compositors -/

/-- Compositor configuration (10_composition.md). -/
def CMP_CFG (n : Nat) : Reg := ⟨0x2400000 + n * 0x10000, 0⟩
/-- CMP_CFG.FSYNC: Per R249 -/
def CMP_CFG_FSYNC : Fld := ⟨5, 5⟩
/-- CMP_CFG.EN: 1: compositor in use -/
def CMP_CFG_EN : Fld := ⟨4, 4⟩
/-- CMP_CFG.LAYERS: 2–8 -/
def CMP_CFG_LAYERS : Fld := ⟨3, 0⟩
/-- [15:8] STOP_REASON per R32; others reserved (10_composition.md). -/
def CMP_STATUS (n : Nat) : Reg := ⟨0x2400004 + n * 0x10000, 0⟩
/-- [15:0] Wo; [31:16] Ho (10_composition.md). -/
def CMP_OUT_SIZE (n : Nat) : Reg := ⟨0x2400008 + n * 0x10000, 0⟩
/-- [9:0] B, [19:10] G, [29:20] R, each ÷ 1,023; [31:30] reserved (10_composition.md). -/
def CMP_BG (n : Nat) : Reg := ⟨0x240000C + n * 0x10000, 0⟩
/-- Compositor frame number, wrapping (10_composition.md). -/
def CMP_FRAME (n : Nat) : Reg := ⟨0x2400010 + n * 0x10000, 0⟩
/-- Write-back format (10_composition.md). -/
def CMP_WB_CFG (n : Nat) : Reg := ⟨0x2400014 + n * 0x10000, 0⟩
/-- CMP_WB_CFG.BUFS: 2–255 -/
def CMP_WB_CFG_BUFS : Fld := ⟨23, 16⟩
/-- CMP_WB_CFG.EN: 1: write-back enabled -/
def CMP_WB_CFG_EN : Fld := ⟨8, 8⟩
/-- CMP_WB_CFG.DEPTH: Y/Cb/Cr: 0 10-bit, 1 12-bit. RGBA: 0 8, 1 10, 2 16 -/
def CMP_WB_CFG_DEPTH : Fld := ⟨7, 6⟩
/-- CMP_WB_CFG.MATRIX: 0 BT.709, 1 BT.2020 non-constant luminance -/
def CMP_WB_CFG_MATRIX : Fld := ⟨5, 5⟩
/-- CMP_WB_CFG.RANGE: 0 narrow, 1 full -/
def CMP_WB_CFG_RANGE : Fld := ⟨4, 4⟩
/-- CMP_WB_CFG.FMT: 0 4:2:0, 1 4:2:2, 2 4:4:4, 3 RGBA -/
def CMP_WB_CFG_FMT : Fld := ⟨1, 0⟩
/-- Ring address [31:12]; [11:0] read 0 (10_composition.md). -/
def CMP_WB_ADDR_LO (n : Nat) : Reg := ⟨0x2400018 + n * 0x10000, 0⟩
/-- Ring address [63:32] (10_composition.md). -/
def CMP_WB_ADDR_HI (n : Nat) : Reg := ⟨0x240001C + n * 0x10000, 0⟩
/-- [7:0] last written buffer (10_composition.md). -/
def CMP_WB_LAST (n : Nat) : Reg := ⟨0x2400020 + n * 0x10000, 0⟩
/-- Frames not written, saturating (10_composition.md). -/
def CMP_WB_DROP (n : Nat) : Reg := ⟨0x2400024 + n * 0x10000, 0⟩
/-- [15:0] SPILL_W; 0 if no spill ring (10_composition.md). -/
def CMP_SPILL_W (n : Nat) : Reg := ⟨0x2400028 + n * 0x10000, 0⟩
/-- Source, format, filters, policy (10_composition.md). -/
def CMP_L_CFG (n l : Nat) : Reg := ⟨0x2401000 + n * 0x10000 + l * 0x100, 0⟩
/-- CMP_L_CFG.EN: 1: layer composed -/
def CMP_L_CFG_EN : Fld := ⟨31, 31⟩
/-- CMP_L_CFG.VTAPS: 1–6; 0 and 7 are refused with 0x0401 -/
def CMP_L_CFG_VTAPS : Fld := ⟨30, 28⟩
/-- CMP_L_CFG.VFILT: Per R256 -/
def CMP_L_CFG_VFILT : Fld := ⟨27, 26⟩
/-- CMP_L_CFG.HFILT: Per R256 -/
def CMP_L_CFG_HFILT : Fld := ⟨25, 24⟩
/-- CMP_L_CFG.POLICY: 0 HOLD, 1 DROP -/
def CMP_L_CFG_POLICY : Fld := ⟨23, 23⟩
/-- CMP_L_CFG.PREMUL: 1: RGBA stored premultiplied -/
def CMP_L_CFG_PREMUL : Fld := ⟨22, 22⟩
/-- CMP_L_CFG.MATRIX: 0 BT.709, 1 BT.2020 non-constant luminance -/
def CMP_L_CFG_MATRIX : Fld := ⟨21, 21⟩
/-- CMP_L_CFG.RANGE: 0 narrow, 1 full -/
def CMP_L_CFG_RANGE : Fld := ⟨20, 20⟩
/-- CMP_L_CFG.PLANAR: Per R253 -/
def CMP_L_CFG_PLANAR : Fld := ⟨19, 19⟩
/-- CMP_L_CFG.DEPTH: Y/Cb/Cr: 0 8-bit, 1 10-bit, 2 12-bit -/
def CMP_L_CFG_DEPTH : Fld := ⟨18, 17⟩
/-- CMP_L_CFG.FMT: Per R253; 6 and 7 are refused with 0x0401 -/
def CMP_L_CFG_FMT : Fld := ⟨16, 14⟩
/-- CMP_L_CFG.SRC_INST: Look path for SRC 1 -/
def CMP_L_CFG_SRC_INST : Fld := ⟨13, 11⟩
/-- CMP_L_CFG.SRC: Per R252 -/
def CMP_L_CFG_SRC : Fld := ⟨10, 9⟩
/-- Line-buffer allocation (10_composition.md). -/
def CMP_L_ALLOC (n l : Nat) : Reg := ⟨0x2401004 + n * 0x10000 + l * 0x100, 0⟩
/-- CMP_L_ALLOC.STRIPE: 1: striping permitted -/
def CMP_L_ALLOC_STRIPE : Fld := ⟨23, 23⟩
/-- CMP_L_ALLOC.LB_LINES: Lines allocated, 1–6 -/
def CMP_L_ALLOC_LB_LINES : Fld := ⟨22, 20⟩
/-- CMP_L_ALLOC.WA: Wa in pixels -/
def CMP_L_ALLOC_WA : Fld := ⟨15, 0⟩
/-- [15:0] CX; [31:16] CY (10_composition.md). -/
def CMP_L_CROP_XY (n l : Nat) : Reg := ⟨0x2401008 + n * 0x10000 + l * 0x100, 0⟩
/-- [15:0] CW; [31:16] CH (10_composition.md). -/
def CMP_L_CROP_WH (n l : Nat) : Reg := ⟨0x240100C + n * 0x10000 + l * 0x100, 0⟩
/-- [15:0] DX, [31:16] DY, signed (10_composition.md). -/
def CMP_L_DST_XY (n l : Nat) : Reg := ⟨0x2401010 + n * 0x10000 + l * 0x100, 0⟩
/-- [15:0] DW; [31:16] DH (10_composition.md). -/
def CMP_L_DST_WH (n l : Nat) : Reg := ⟨0x2401014 + n * 0x10000 + l * 0x100, 0⟩
/-- [15:0] GALPHA; [18:16] Z; [31:19] reserved (10_composition.md). -/
def CMP_L_ALPHA (n l : Nat) : Reg := ⟨0x2401018 + n * 0x10000 + l * 0x100, 0xFFFF⟩
/-- Ring address [31:12]; [11:0] read 0 (10_composition.md). -/
def CMP_L_SRC_ADDR_LO (n l : Nat) : Reg := ⟨0x240101C + n * 0x10000 + l * 0x100, 0⟩
/-- Ring address [63:32] (10_composition.md). -/
def CMP_L_SRC_ADDR_HI (n l : Nat) : Reg := ⟨0x2401020 + n * 0x10000 + l * 0x100, 0⟩
/-- [19:0] PITCH in bytes (10_composition.md). -/
def CMP_L_PITCH (n l : Nat) : Reg := ⟨0x2401024 + n * 0x10000 + l * 0x100, 0⟩
/-- Buffer size in bytes, a multiple of 4,096 (10_composition.md). -/
def CMP_L_BUF_SIZE (n l : Nat) : Reg := ⟨0x2401028 + n * 0x10000 + l * 0x100, 0⟩
/-- [7:0] buffers, 1–255; [15:8] UPDATE_DIV (10_composition.md). -/
def CMP_L_RING (n l : Nat) : Reg := ⟨0x240102C + n * 0x10000 + l * 0x100, 0⟩
/-- [0] GO (W1S; reads 1 while PENDING); [1] DISCARDED (W1C) (10_composition.md). -/
def CMP_L_COMMIT (n l : Nat) : Reg := ⟨0x2401030 + n * 0x10000 + l * 0x100, 0⟩
/-- Layer state (10_composition.md). -/
def CMP_L_STATUS (n l : Nat) : Reg := ⟨0x2401034 + n * 0x10000 + l * 0x100, 0⟩
/-- CMP_L_STATUS.STOP_REASON: Per R32 -/
def CMP_L_STATUS_STOP_REASON : Fld := ⟨31, 24⟩
/-- CMP_L_STATUS.BUF: Buffer shown in the current frame -/
def CMP_L_STATUS_BUF : Fld := ⟨23, 16⟩
/-- CMP_L_STATUS.STRIPES: S per R260 -/
def CMP_L_STATUS_STRIPES : Fld := ⟨15, 12⟩
/-- CMP_L_STATUS.WR_DISCARD: 1: a write was discarded while PENDING -/
def CMP_L_STATUS_WR_DISCARD : Fld := ⟨2, 2⟩
/-- CMP_L_STATUS.OVER_RES: 1: RATE_NEED exceeds RATE -/
def CMP_L_STATUS_OVER_RES : Fld := ⟨1, 1⟩
/-- CMP_L_STATUS.PENDING: 1: accepted commit awaits its frame start -/
def CMP_L_STATUS_PENDING : Fld := ⟨0, 0⟩
/-- [15:0] code of the last refusal; 0x0000 if none (10_composition.md). -/
def CMP_L_REFUSAL (n l : Nat) : Reg := ⟨0x2401038 + n * 0x10000 + l * 0x100, 0⟩
/-- Short time of the last refusal (10_composition.md). -/
def CMP_L_REFUSAL_TIME (n l : Nat) : Reg := ⟨0x240103C + n * 0x10000 + l * 0x100, 0⟩
/-- [7:0] buffer index posted; SRC 3 only, else discarded (10_composition.md). -/
def CMP_L_POST (n l : Nat) : Reg := ⟨0x2401040 + n * 0x10000 + l * 0x100, 0⟩
/-- Late frames, saturating (10_composition.md). -/
def CMP_L_LATE_CNT (n l : Nat) : Reg := ⟨0x2401044 + n * 0x10000 + l * 0x100, 0⟩
/-- Underrun lines, saturating (10_composition.md). -/
def CMP_L_UNDERRUN (n l : Nat) : Reg := ⟨0x2401048 + n * 0x10000 + l * 0x100, 0⟩
/-- Iso read demand, MB/s (10_composition.md). -/
def CMP_L_RATE_NEED (n l : Nat) : Reg := ⟨0x240104C + n * 0x10000 + l * 0x100, 0⟩
/-- Latches, wrapping (10_composition.md). -/
def CMP_L_GEN (n l : Nat) : Reg := ⟨0x2401050 + n * 0x10000 + l * 0x100, 0⟩
/-- Buoy configuration (10_composition.md). -/
def CMP_B_CFG (n b : Nat) : Reg := ⟨0x2400800 + n * 0x10000 + b * 0x20, 0xF00⟩
/-- CMP_B_CFG.LIMIT: Consecutive mismatches before fail-safe; 0 acts as 1 -/
def CMP_B_CFG_LIMIT : Fld := ⟨31, 24⟩
/-- CMP_B_CFG.FS_ACTION: Per R273; 3 acts as 0 -/
def CMP_B_CFG_FS_ACTION : Fld := ⟨13, 12⟩
/-- CMP_B_CFG.BIND: Bound layer 0–7; 0xF none; 8–14 act as 0xF -/
def CMP_B_CFG_BIND : Fld := ⟨11, 8⟩
/-- CMP_B_CFG.LEARN: Per R272; reads 1 until the next checked frame -/
def CMP_B_CFG_LEARN : Fld := ⟨1, 1⟩
/-- CMP_B_CFG.EN: 1: buoy checked -/
def CMP_B_CFG_EN : Fld := ⟨0, 0⟩
/-- [15:0] X; [31:16] Y (10_composition.md). -/
def CMP_B_XY (n b : Nat) : Reg := ⟨0x2400804 + n * 0x10000 + b * 0x20, 0⟩
/-- [15:0] W; [31:16] H (10_composition.md). -/
def CMP_B_WH (n b : Nat) : Reg := ⟨0x2400808 + n * 0x10000 + b * 0x20, 0⟩
/-- Expected signature; in the bound layer's shadow when BIND names a layer (10_composition.md). -/
def CMP_B_EXPECT (n b : Nat) : Reg := ⟨0x240080C + n * 0x10000 + b * 0x20, 0⟩
/-- Last signature (10_composition.md). -/
def CMP_B_LAST (n b : Nat) : Reg := ⟨0x2400810 + n * 0x10000 + b * 0x20, 0⟩
/-- Buoy state (10_composition.md). -/
def CMP_B_STATUS (n b : Nat) : Reg := ⟨0x2400814 + n * 0x10000 + b * 0x20, 0⟩
/-- CMP_B_STATUS.SKIPPED: Frames not compared, saturating -/
def CMP_B_STATUS_SKIPPED : Fld := ⟨31, 16⟩
/-- CMP_B_STATUS.RUN: Consecutive mismatches, saturating -/
def CMP_B_STATUS_RUN : Fld := ⟨15, 8⟩
/-- CMP_B_STATUS.RANGE_ERR: 1: rectangle not checkable (R271) -/
def CMP_B_STATUS_RANGE_ERR : Fld := ⟨1, 1⟩
/-- CMP_B_STATUS.FS_LATCHED: 1: fail-safe in force; write 1 to end it -/
def CMP_B_STATUS_FS_LATCHED : Fld := ⟨0, 0⟩
/-- Mismatches, saturating (10_composition.md). -/
def CMP_B_MISMATCH_CNT (n b : Nat) : Reg := ⟨0x2400818 + n * 0x10000 + b * 0x20, 0⟩
/-- [9:0] B, [19:10] G, [29:20] R, each ÷ 1,023 (10_composition.md). -/
def CMP_B_FS_COLOUR (n b : Nat) : Reg := ⟨0x240081C + n * 0x10000 + b * 0x20, 0⟩

/-- Access rows (RW, W1C, W1S, RG, RC, WO masks) of chapter 10: compositors. -/
def regRowsCompose0 : List RegRow :=
  [ ⟨"CMP_CFG", 0x2400000, [(4, 0x10000)], (fun _ => 0), 0x0, 0x0, 0x0, 0x3F, 0x0, 0x0⟩,
    ⟨"CMP_STATUS", 0x2400004, [(4, 0x10000)], (fun _ => 0), 0x0, 0x0, 0x0, 0x0, 0x0, 0x0⟩,
    ⟨"CMP_OUT_SIZE", 0x2400008, [(4, 0x10000)], (fun _ => 0), 0x0, 0x0, 0x0, 0xFFFFFFFF, 0x0, 0x0⟩,
    ⟨"CMP_BG", 0x240000C, [(4, 0x10000)], (fun _ => 0), 0x3FFFFFFF, 0x0, 0x0, 0x0, 0x0, 0x0⟩,
    ⟨"CMP_FRAME", 0x2400010, [(4, 0x10000)], (fun _ => 0), 0x0, 0x0, 0x0, 0x0, 0x0, 0x0⟩,
    ⟨"CMP_WB_CFG", 0x2400014, [(4, 0x10000)], (fun _ => 0), 0x0, 0x0, 0x0, 0xFF01F3, 0x0, 0x0⟩,
    ⟨"CMP_WB_ADDR_LO", 0x2400018, [(4, 0x10000)], (fun _ => 0), 0x0, 0x0, 0x0, 0xFFFFF000, 0x0, 0x0⟩,
    ⟨"CMP_WB_ADDR_HI", 0x240001C, [(4, 0x10000)], (fun _ => 0), 0x0, 0x0, 0x0, 0xFFFFFFFF, 0x0, 0x0⟩,
    ⟨"CMP_WB_LAST", 0x2400020, [(4, 0x10000)], (fun _ => 0), 0x0, 0x0, 0x0, 0x0, 0x0, 0x0⟩,
    ⟨"CMP_WB_DROP", 0x2400024, [(4, 0x10000)], (fun _ => 0), 0x0, 0x0, 0x0, 0x0, 0xFFFFFFFF, 0x0⟩,
    ⟨"CMP_SPILL_W", 0x2400028, [(4, 0x10000)], (fun _ => 0), 0x0, 0x0, 0x0, 0xFFFF, 0x0, 0x0⟩,
    ⟨"CMP_L_CFG", 0x2401000, [(4, 0x10000), (8, 0x100)], (fun _ => 0), 0xFFFFFE00, 0x0, 0x0, 0x0, 0x0, 0x0⟩,
    ⟨"CMP_L_ALLOC", 0x2401004, [(4, 0x10000), (8, 0x100)], (fun _ => 0), 0x0, 0x0, 0x0, 0xF0FFFF, 0x0, 0x0⟩,
    ⟨"CMP_L_CROP_XY", 0x2401008, [(4, 0x10000), (8, 0x100)], (fun _ => 0), 0xFFFFFFFF, 0x0, 0x0, 0x0, 0x0, 0x0⟩,
    ⟨"CMP_L_CROP_WH", 0x240100C, [(4, 0x10000), (8, 0x100)], (fun _ => 0), 0xFFFFFFFF, 0x0, 0x0, 0x0, 0x0, 0x0⟩,
    ⟨"CMP_L_DST_XY", 0x2401010, [(4, 0x10000), (8, 0x100)], (fun _ => 0), 0xFFFFFFFF, 0x0, 0x0, 0x0, 0x0, 0x0⟩,
    ⟨"CMP_L_DST_WH", 0x2401014, [(4, 0x10000), (8, 0x100)], (fun _ => 0), 0xFFFFFFFF, 0x0, 0x0, 0x0, 0x0, 0x0⟩,
    ⟨"CMP_L_ALPHA", 0x2401018, [(4, 0x10000), (8, 0x100)], (fun _ => 0xFFFF), 0x7FFFF, 0x0, 0x0, 0x0, 0x0, 0x0⟩,
    ⟨"CMP_L_SRC_ADDR_LO", 0x240101C, [(4, 0x10000), (8, 0x100)], (fun _ => 0), 0xFFFFF000, 0x0, 0x0, 0x0, 0x0, 0x0⟩,
    ⟨"CMP_L_SRC_ADDR_HI", 0x2401020, [(4, 0x10000), (8, 0x100)], (fun _ => 0), 0xFFFFFFFF, 0x0, 0x0, 0x0, 0x0, 0x0⟩,
    ⟨"CMP_L_PITCH", 0x2401024, [(4, 0x10000), (8, 0x100)], (fun _ => 0), 0xFFFFF, 0x0, 0x0, 0x0, 0x0, 0x0⟩,
    ⟨"CMP_L_BUF_SIZE", 0x2401028, [(4, 0x10000), (8, 0x100)], (fun _ => 0), 0xFFFFFFFF, 0x0, 0x0, 0x0, 0x0, 0x0⟩,
    ⟨"CMP_L_RING", 0x240102C, [(4, 0x10000), (8, 0x100)], (fun _ => 0), 0xFFFF, 0x0, 0x0, 0x0, 0x0, 0x0⟩,
    ⟨"CMP_L_COMMIT", 0x2401030, [(4, 0x10000), (8, 0x100)], (fun _ => 0), 0x0, 0x2, 0x1, 0x0, 0x0, 0x0⟩ ]
/-- Access rows (RW, W1C, W1S, RG, RC, WO masks) of chapter 10: compositors. -/
def regRowsCompose1 : List RegRow :=
  [ ⟨"CMP_L_STATUS", 0x2401034, [(4, 0x10000), (8, 0x100)], (fun _ => 0), 0x0, 0x4, 0x0, 0x0, 0x0, 0x0⟩,
    ⟨"CMP_L_REFUSAL", 0x2401038, [(4, 0x10000), (8, 0x100)], (fun _ => 0), 0x0, 0x0, 0x0, 0x0, 0x0, 0x0⟩,
    ⟨"CMP_L_REFUSAL_TIME", 0x240103C, [(4, 0x10000), (8, 0x100)], (fun _ => 0), 0x0, 0x0, 0x0, 0x0, 0x0, 0x0⟩,
    ⟨"CMP_L_POST", 0x2401040, [(4, 0x10000), (8, 0x100)], (fun _ => 0), 0x0, 0x0, 0x0, 0x0, 0x0, 0xFF⟩,
    ⟨"CMP_L_LATE_CNT", 0x2401044, [(4, 0x10000), (8, 0x100)], (fun _ => 0), 0x0, 0x0, 0x0, 0x0, 0xFFFFFFFF, 0x0⟩,
    ⟨"CMP_L_UNDERRUN", 0x2401048, [(4, 0x10000), (8, 0x100)], (fun _ => 0), 0x0, 0x0, 0x0, 0x0, 0xFFFFFFFF, 0x0⟩,
    ⟨"CMP_L_RATE_NEED", 0x240104C, [(4, 0x10000), (8, 0x100)], (fun _ => 0), 0x0, 0x0, 0x0, 0x0, 0x0, 0x0⟩,
    ⟨"CMP_L_GEN", 0x2401050, [(4, 0x10000), (8, 0x100)], (fun _ => 0), 0x0, 0x0, 0x0, 0x0, 0x0, 0x0⟩,
    ⟨"CMP_B_CFG", 0x2400800, [(4, 0x10000), (16, 0x20)], (fun _ => 0xF00), 0xFF003F01, 0x0, 0x2, 0x0, 0x0, 0x0⟩,
    ⟨"CMP_B_XY", 0x2400804, [(4, 0x10000), (16, 0x20)], (fun _ => 0), 0xFFFFFFFF, 0x0, 0x0, 0x0, 0x0, 0x0⟩,
    ⟨"CMP_B_WH", 0x2400808, [(4, 0x10000), (16, 0x20)], (fun _ => 0), 0xFFFFFFFF, 0x0, 0x0, 0x0, 0x0, 0x0⟩,
    ⟨"CMP_B_EXPECT", 0x240080C, [(4, 0x10000), (16, 0x20)], (fun _ => 0), 0xFFFFFFFF, 0x0, 0x0, 0x0, 0x0, 0x0⟩,
    ⟨"CMP_B_LAST", 0x2400810, [(4, 0x10000), (16, 0x20)], (fun _ => 0), 0x0, 0x0, 0x0, 0x0, 0x0, 0x0⟩,
    ⟨"CMP_B_STATUS", 0x2400814, [(4, 0x10000), (16, 0x20)], (fun _ => 0), 0x0, 0x1, 0x0, 0x0, 0x0, 0x0⟩,
    ⟨"CMP_B_MISMATCH_CNT", 0x2400818, [(4, 0x10000), (16, 0x20)], (fun _ => 0), 0x0, 0x0, 0x0, 0x0, 0xFFFFFFFF, 0x0⟩,
    ⟨"CMP_B_FS_COLOUR", 0x240081C, [(4, 0x10000), (16, 0x20)], (fun _ => 0), 0x3FFFFFFF, 0x0, 0x0, 0x0, 0x0, 0x0⟩ ]
/-- All access rows of chapter 10: compositors. -/
def regRowsCompose : List RegRow := regRowsCompose0 ++ regRowsCompose1

/-! ## Registers of chapter 11: scan-out -/

/-- Protocol and link (11_scanout.md). -/
def SCN_CFG (n : Nat) : Reg := ⟨0x2600000 + n * 0x10000, 0⟩
/-- SCN_CFG.EN: 1: head in use -/
def SCN_CFG_EN : Fld := ⟨16, 16⟩
/-- SCN_CFG.RATE: Per R275 -/
def SCN_CFG_RATE : Fld := ⟨15, 12⟩
/-- SCN_CFG.LANES: 1, 2, 3 or 4 -/
def SCN_CFG_LANES : Fld := ⟨10, 8⟩
/-- SCN_CFG.QUAD: 1: quad-link SDI -/
def SCN_CFG_QUAD : Fld := ⟨6, 6⟩
/-- SCN_CFG.PROTO: Per R275 -/
def SCN_CFG_PROTO : Fld := ⟨3, 0⟩
/-- State, lock, link (11_scanout.md). -/
def SCN_STATUS (n : Nat) : Reg := ⟨0x2600004 + n * 0x10000, 0⟩
/-- SCN_STATUS.STOP_REASON: Per R32 -/
def SCN_STATUS_STOP_REASON : Fld := ⟨15, 8⟩
/-- SCN_STATUS.PSR_UNSUP: 1: sink lacks PSR -/
def SCN_STATUS_PSR_UNSUP : Fld := ⟨7, 7⟩
/-- SCN_STATUS.HPD: Hot-plug detect level -/
def SCN_STATUS_HPD : Fld := ⟨6, 6⟩
/-- SCN_STATUS.LINK_UP: 1: link trained -/
def SCN_STATUS_LINK_UP : Fld := ⟨5, 5⟩
/-- SCN_STATUS.LOCKED: Per R284 -/
def SCN_STATUS_LOCKED : Fld := ⟨4, 4⟩
/-- SCN_STATUS.STATE: 0 OFF, 1 RUNNING, 2 HOLD, 3 STOPPING, 4 STOPPED, 5 PSR; 6 and 7 never returned -/
def SCN_STATUS_STATE : Fld := ⟨2, 0⟩
/-- [0] TIMING_GO; [1] SOFT_STOP; [2] START; [3] PSR_EXIT; each reads 0 (11_scanout.md). -/
def SCN_CTRL (n : Nat) : Reg := ⟨0x2600008 + n * 0x10000, 0⟩
/-- [15:0] HACTIVE; [31:16] HTOTAL (11_scanout.md). -/
def SCN_HACT (n : Nat) : Reg := ⟨0x2600010 + n * 0x10000, 0⟩
/-- [14:0] HFRONT; [30:16] HSYNC; [31] HPOL, 1 active high (11_scanout.md). -/
def SCN_HBLK (n : Nat) : Reg := ⟨0x2600014 + n * 0x10000, 0⟩
/-- [15:0] VACTIVE; [31:16] VTOTAL (11_scanout.md). -/
def SCN_VACT (n : Nat) : Reg := ⟨0x2600018 + n * 0x10000, 0⟩
/-- [14:0] VFRONT; [30:16] VSYNC; [31] VPOL (11_scanout.md). -/
def SCN_VBLK (n : Nat) : Reg := ⟨0x260001C + n * 0x10000, 0⟩
/-- [6:0] NINT; [15:8] POSTDIV (11_scanout.md). -/
def SCN_PLL_DIV (n : Nat) : Reg := ⟨0x2600020 + n * 0x10000, 0⟩
/-- [23:0] NFRAC (11_scanout.md). -/
def SCN_PLL_FRAC (n : Nat) : Reg := ⟨0x2600024 + n * 0x10000, 0⟩
/-- Output sample format (11_scanout.md). -/
def SCN_FMT (n : Nat) : Reg := ⟨0x2600028 + n * 0x10000, 0⟩
/-- SCN_FMT.TRANSFER: Signalled only: 0 BT.709, 1 PQ, 2 HLG; 3 refused with 0x0401 -/
def SCN_FMT_TRANSFER : Fld := ⟨7, 6⟩
/-- SCN_FMT.GAMUT: 0 BT.709, 1 BT.2020 non-constant luminance; matrix and signalling -/
def SCN_FMT_GAMUT : Fld := ⟨5, 5⟩
/-- SCN_FMT.RANGE: 0 narrow, 1 full -/
def SCN_FMT_RANGE : Fld := ⟨4, 4⟩
/-- SCN_FMT.DEPTH: 0 8-bit, 1 10-bit, 2 12-bit; 3 refused with 0x0401 -/
def SCN_FMT_DEPTH : Fld := ⟨3, 2⟩
/-- SCN_FMT.SAMPLING: 0 Y′CbCr 4:2:2, 1 Y′CbCr 4:4:4, 2 RGB, 3 Y′CbCr 4:2:0 -/
def SCN_FMT_SAMPLING : Fld := ⟨1, 0⟩
/-- Frame lock (11_scanout.md). -/
def SCN_SYNC (n : Nat) : Reg := ⟨0x260002C + n * 0x10000, 0⟩
/-- SCN_SYNC.TRIM: ppm, 1–500; 0 and values above 500 act as 500 -/
def SCN_SYNC_TRIM : Fld := ⟨31, 16⟩
/-- SCN_SYNC.SNAP: Lines; 0 acts as 1 -/
def SCN_SYNC_SNAP : Fld := ⟨15, 4⟩
/-- SCN_SYNC.MODE: 0 free-run, 1 slot-locked -/
def SCN_SYNC_MODE : Fld := ⟨0, 0⟩
/-- [15:0] code of the last refusal (11_scanout.md). -/
def SCN_TW_REFUSAL (n : Nat) : Reg := ⟨0x2600030 + n * 0x10000, 0⟩
/-- Short time of the last refusal (11_scanout.md). -/
def SCN_TW_REFUSAL_TIME (n : Nat) : Reg := ⟨0x2600034 + n * 0x10000, 0⟩
/-- Timing writes applied, wrapping (11_scanout.md). -/
def SCN_TW_GEN (n : Nat) : Reg := ⟨0x2600038 + n * 0x10000, 0⟩
/-- Output frame number, wrapping (11_scanout.md). -/
def SCN_FRAME (n : Nat) : Reg := ⟨0x260003C + n * 0x10000, 0⟩
/-- Signed error at the last delivery, pixel clocks (11_scanout.md). -/
def SCN_PHASE (n : Nat) : Reg := ⟨0x2600040 + n * 0x10000, 0⟩
/-- Truncated frames, saturating (11_scanout.md). -/
def SCN_TRUNC_CNT (n : Nat) : Reg := ⟨0x2600044 + n * 0x10000, 0⟩
/-- Realignments, saturating (11_scanout.md). -/
def SCN_REALIGN_CNT (n : Nat) : Reg := ⟨0x2600048 + n * 0x10000, 0⟩
/-- Relocks, saturating (11_scanout.md). -/
def SCN_RELOCK_CNT (n : Nat) : Reg := ⟨0x260004C + n * 0x10000, 0⟩
/-- Wake check (11_scanout.md). -/
def SCN_WAKE_CFG (n : Nat) : Reg := ⟨0x2600050 + n * 0x10000, 0x12200400⟩
/-- SCN_WAKE_CFG.GY: Rows of points, 1–63; 0 acts as 18 -/
def SCN_WAKE_CFG_GY : Fld := ⟨29, 24⟩
/-- SCN_WAKE_CFG.GX: Columns of points, 1–63; 0 acts as 32 -/
def SCN_WAKE_CFG_GX : Fld := ⟨21, 16⟩
/-- SCN_WAKE_CFG.K: 1–60; 0 acts as 1, above 60 as 60 -/
def SCN_WAKE_CFG_K : Fld := ⟨13, 8⟩
/-- SCN_WAKE_CFG.CHANGING: 1: the picture is declared changing -/
def SCN_WAKE_CFG_CHANGING : Fld := ⟨1, 1⟩
/-- SCN_WAKE_CFG.EN: 1: signatures computed -/
def SCN_WAKE_CFG_EN : Fld := ⟨0, 0⟩
/-- Last signature (11_scanout.md). -/
def SCN_WAKE_SIG (n : Nat) : Reg := ⟨0x2600054 + n * 0x10000, 0⟩
/-- [0] STALL (W1C); [13:8] RUN (11_scanout.md). -/
def SCN_WAKE_STATUS (n : Nat) : Reg := ⟨0x2600058 + n * 0x10000, 0⟩
/-- Stalls, saturating (11_scanout.md). -/
def SCN_WAKE_CNT (n : Nat) : Reg := ⟨0x260005C + n * 0x10000, 0⟩
/-- Self-refresh (11_scanout.md). -/
def SCN_PSR (n : Nat) : Reg := ⟨0x2600060 + n * 0x10000, 0x200⟩
/-- SCN_PSR.IDLE_FRAMES: 2–255; 0 and 1 act as 2 -/
def SCN_PSR_IDLE_FRAMES : Fld := ⟨15, 8⟩
/-- SCN_PSR.ML_OFF: 1: main link powered down in PSR -/
def SCN_PSR_ML_OFF : Fld := ⟨1, 1⟩
/-- SCN_PSR.EN: 1: self-refresh permitted; eDP only -/
def SCN_PSR_EN : Fld := ⟨0, 0⟩
/-- Entries, saturating (11_scanout.md). -/
def SCN_PSR_CNT (n : Nat) : Reg := ⟨0x2600064 + n * 0x10000, 0⟩
/-- Embedded audio (11_scanout.md). -/
def SCN_AUD (n : Nat) : Reg := ⟨0x2600068 + n * 0x10000, 0⟩
/-- SCN_AUD.FILL_US: Buffer target, 250–4,000 µs; 0 acts as 1,000 -/
def SCN_AUD_FILL_US : Fld := ⟨27, 16⟩
/-- SCN_AUD.CHANNELS: 2–32, per R288 -/
def SCN_AUD_CHANNELS : Fld := ⟨15, 10⟩
/-- SCN_AUD.EN: 1: audio carried -/
def SCN_AUD_EN : Fld := ⟨8, 8⟩
/-- SCN_AUD.PORT_B: Source of channels 17–32 -/
def SCN_AUD_PORT_B : Fld := ⟨7, 4⟩
/-- SCN_AUD.PORT_A: Source of channels 1–16 -/
def SCN_AUD_PORT_A : Fld := ⟨3, 0⟩
/-- Slips, saturating (11_scanout.md). -/
def SCN_AUD_SLIP (n : Nat) : Reg := ⟨0x260006C + n * 0x10000, 0⟩
/-- [29:0] BCD timecode hh:mm:ss:ff; [30] INC; [31] EN (11_scanout.md). -/
def SCN_TC (n : Nat) : Reg := ⟨0x2600070 + n * 0x10000, 0⟩
/-- Payload identifier bytes 1–4; 0 automatic (11_scanout.md). -/
def SCN_ST352 (n : Nat) : Reg := ⟨0x2600074 + n * 0x10000, 0⟩
/-- [0] GO (W1S); [1] WRITE; [2] BUSY; [3] NACK; [12:8] LEN − 1 (11_scanout.md). -/
def SCN_SB_CTRL (n : Nat) : Reg := ⟨0x2600080 + n * 0x10000, 0⟩
/-- [7:0] DDC address, or [19:0] DPCD address (11_scanout.md). -/
def SCN_SB_ADDR (n : Nat) : Reg := ⟨0x2600084 + n * 0x10000, 0⟩
/-- Data bytes, byte 0 in [7:0] of DATA0 (11_scanout.md). -/
def SCN_SB_DATA (n i : Nat) : Reg := ⟨0x2600088 + n * 0x10000 + i * 0x4, 0⟩
/-- Packet word 0: [31] VALID, [23:0] header (11_scanout.md). -/
def SCN_PKT_HDR (n t : Nat) : Reg := ⟨0x2600100 + n * 0x10000 + t * 0x20, 0⟩
/-- Packet words 1-7: payload (11_scanout.md). -/
def SCN_PKT_PAY (n t i : Nat) : Reg := ⟨0x2600104 + n * 0x10000 + t * 0x20 + i * 0x4, 0⟩

/-- Access rows (RW, W1C, W1S, RG, RC, WO masks) of chapter 11: scan-out. -/
def regRowsScan0 : List RegRow :=
  [ ⟨"SCN_CFG", 0x2600000, [(4, 0x10000)], (fun _ => 0), 0x0, 0x0, 0x0, 0x1F74F, 0x0, 0x0⟩,
    ⟨"SCN_STATUS", 0x2600004, [(4, 0x10000)], (fun _ => 0), 0x0, 0x0, 0x0, 0x0, 0x0, 0x0⟩,
    ⟨"SCN_CTRL", 0x2600008, [(4, 0x10000)], (fun _ => 0), 0x0, 0x0, 0xF, 0x0, 0x0, 0x0⟩,
    ⟨"SCN_HACT", 0x2600010, [(4, 0x10000)], (fun _ => 0), 0xFFFFFFFF, 0x0, 0x0, 0x0, 0x0, 0x0⟩,
    ⟨"SCN_HBLK", 0x2600014, [(4, 0x10000)], (fun _ => 0), 0xFFFF7FFF, 0x0, 0x0, 0x0, 0x0, 0x0⟩,
    ⟨"SCN_VACT", 0x2600018, [(4, 0x10000)], (fun _ => 0), 0xFFFFFFFF, 0x0, 0x0, 0x0, 0x0, 0x0⟩,
    ⟨"SCN_VBLK", 0x260001C, [(4, 0x10000)], (fun _ => 0), 0xFFFF7FFF, 0x0, 0x0, 0x0, 0x0, 0x0⟩,
    ⟨"SCN_PLL_DIV", 0x2600020, [(4, 0x10000)], (fun _ => 0), 0xFF7F, 0x0, 0x0, 0x0, 0x0, 0x0⟩,
    ⟨"SCN_PLL_FRAC", 0x2600024, [(4, 0x10000)], (fun _ => 0), 0xFFFFFF, 0x0, 0x0, 0x0, 0x0, 0x0⟩,
    ⟨"SCN_FMT", 0x2600028, [(4, 0x10000)], (fun _ => 0), 0xFF, 0x0, 0x0, 0x0, 0x0, 0x0⟩,
    ⟨"SCN_SYNC", 0x260002C, [(4, 0x10000)], (fun _ => 0), 0xFFFFFFF1, 0x0, 0x0, 0x0, 0x0, 0x0⟩,
    ⟨"SCN_TW_REFUSAL", 0x2600030, [(4, 0x10000)], (fun _ => 0), 0x0, 0x0, 0x0, 0x0, 0x0, 0x0⟩,
    ⟨"SCN_TW_REFUSAL_TIME", 0x2600034, [(4, 0x10000)], (fun _ => 0), 0x0, 0x0, 0x0, 0x0, 0x0, 0x0⟩,
    ⟨"SCN_TW_GEN", 0x2600038, [(4, 0x10000)], (fun _ => 0), 0x0, 0x0, 0x0, 0x0, 0x0, 0x0⟩,
    ⟨"SCN_FRAME", 0x260003C, [(4, 0x10000)], (fun _ => 0), 0x0, 0x0, 0x0, 0x0, 0x0, 0x0⟩,
    ⟨"SCN_PHASE", 0x2600040, [(4, 0x10000)], (fun _ => 0), 0x0, 0x0, 0x0, 0x0, 0x0, 0x0⟩,
    ⟨"SCN_TRUNC_CNT", 0x2600044, [(4, 0x10000)], (fun _ => 0), 0x0, 0x0, 0x0, 0x0, 0xFFFFFFFF, 0x0⟩,
    ⟨"SCN_REALIGN_CNT", 0x2600048, [(4, 0x10000)], (fun _ => 0), 0x0, 0x0, 0x0, 0x0, 0xFFFFFFFF, 0x0⟩,
    ⟨"SCN_RELOCK_CNT", 0x260004C, [(4, 0x10000)], (fun _ => 0), 0x0, 0x0, 0x0, 0x0, 0xFFFFFFFF, 0x0⟩,
    ⟨"SCN_WAKE_CFG", 0x2600050, [(4, 0x10000)], (fun _ => 0x12200400), 0x3F3F3F03, 0x0, 0x0, 0x0, 0x0, 0x0⟩,
    ⟨"SCN_WAKE_SIG", 0x2600054, [(4, 0x10000)], (fun _ => 0), 0x0, 0x0, 0x0, 0x0, 0x0, 0x0⟩,
    ⟨"SCN_WAKE_STATUS", 0x2600058, [(4, 0x10000)], (fun _ => 0), 0x0, 0x1, 0x0, 0x0, 0x0, 0x0⟩,
    ⟨"SCN_WAKE_CNT", 0x260005C, [(4, 0x10000)], (fun _ => 0), 0x0, 0x0, 0x0, 0x0, 0xFFFFFFFF, 0x0⟩,
    ⟨"SCN_PSR", 0x2600060, [(4, 0x10000)], (fun _ => 0x200), 0xFF03, 0x0, 0x0, 0x0, 0x0, 0x0⟩ ]
/-- Access rows (RW, W1C, W1S, RG, RC, WO masks) of chapter 11: scan-out. -/
def regRowsScan1 : List RegRow :=
  [ ⟨"SCN_PSR_CNT", 0x2600064, [(4, 0x10000)], (fun _ => 0), 0x0, 0x0, 0x0, 0x0, 0xFFFFFFFF, 0x0⟩,
    ⟨"SCN_AUD", 0x2600068, [(4, 0x10000)], (fun _ => 0), 0x0, 0x0, 0x0, 0xFFFFDFF, 0x0, 0x0⟩,
    ⟨"SCN_AUD_SLIP", 0x260006C, [(4, 0x10000)], (fun _ => 0), 0x0, 0x0, 0x0, 0x0, 0xFFFFFFFF, 0x0⟩,
    ⟨"SCN_TC", 0x2600070, [(4, 0x10000)], (fun _ => 0), 0xFFFFFFFF, 0x0, 0x0, 0x0, 0x0, 0x0⟩,
    ⟨"SCN_ST352", 0x2600074, [(4, 0x10000)], (fun _ => 0), 0xFFFFFFFF, 0x0, 0x0, 0x0, 0x0, 0x0⟩,
    ⟨"SCN_SB_CTRL", 0x2600080, [(4, 0x10000)], (fun _ => 0), 0x1F02, 0x0, 0x1, 0x0, 0x0, 0x0⟩,
    ⟨"SCN_SB_ADDR", 0x2600084, [(4, 0x10000)], (fun _ => 0), 0xFFFFF, 0x0, 0x0, 0x0, 0x0, 0x0⟩,
    ⟨"SCN_SB_DATA", 0x2600088, [(4, 0x10000), (4, 0x4)], (fun _ => 0), 0xFFFFFFFF, 0x0, 0x0, 0x0, 0x0, 0x0⟩,
    ⟨"SCN_PKT_HDR", 0x2600100, [(4, 0x10000), (4, 0x20)], (fun _ => 0), 0x80FFFFFF, 0x0, 0x0, 0x0, 0x0, 0x0⟩,
    ⟨"SCN_PKT_PAY", 0x2600104, [(4, 0x10000), (4, 0x20), (7, 0x4)], (fun _ => 0), 0xFFFFFFFF, 0x0, 0x0, 0x0, 0x0, 0x0⟩ ]
/-- All access rows of chapter 11: scan-out. -/
def regRowsScan : List RegRow := regRowsScan0 ++ regRowsScan1

/-! ## Registers of chapter 12: encoders -/

/-- [3:0] sessions in use, one bit each; [4] EN; [31:5] reserved (12_encoding.md). -/
def ENC_C_CFG (c : Nat) : Reg := ⟨0x3000000 + c * 0x100000, 0⟩
/-- [1:0] session coding; [2] BUSY; [15:8] STOP_REASON per R32; others reserved (12_encoding.md). -/
def ENC_C_STATUS (c : Nat) : Reg := ⟨0x3000004 + c * 0x100000, 0⟩
/-- [9:0] committed share of the R81 limit, thousandths (12_encoding.md). -/
def ENC_C_LOAD (c : Nat) : Reg := ⟨0x3000008 + c * 0x100000, 0⟩
/-- Codec, profile, format, pacing (12_encoding.md). -/
def ENC_S_CODEC (c s : Nat) : Reg := ⟨0x3001000 + c * 0x100000 + s * 0x1000, 0⟩
/-- ENC_S_CODEC.HOT_DIV: HOT_DIV − 1 -/
def ENC_S_CODEC_HOT_DIV : Fld := ⟨25, 24⟩
/-- ENC_S_CODEC.PACE: Per R320 -/
def ENC_S_CODEC_PACE : Fld := ⟨22, 22⟩
/-- ENC_S_CODEC.SUBFRAME: 1: sub-frame mode -/
def ENC_S_CODEC_SUBFRAME : Fld := ⟨21, 21⟩
/-- ENC_S_CODEC.TIER: 0 Main, 1 High -/
def ENC_S_CODEC_TIER : Fld := ⟨20, 20⟩
/-- ENC_S_CODEC.DEPTH: 0 8-bit, 1 10-bit, 2 12-bit; 3 refused with 0x0401 -/
def ENC_S_CODEC_DEPTH : Fld := ⟨19, 18⟩
/-- ENC_S_CODEC.CHROMA: 0 4:2:0, 1 4:2:2, 2 4:4:4; 3 refused with 0x0401 -/
def ENC_S_CODEC_CHROMA : Fld := ⟨17, 16⟩
/-- ENC_S_CODEC.LEVEL: general_level_idc -/
def ENC_S_CODEC_LEVEL : Fld := ⟨15, 8⟩
/-- ENC_S_CODEC.PROFILE: Per R299 -/
def ENC_S_CODEC_PROFILE : Fld := ⟨4, 2⟩
/-- ENC_S_CODEC.CODEC: 0 HEVC, 1 VVC -/
def ENC_S_CODEC_CODEC : Fld := ⟨1, 1⟩
/-- ENC_S_CODEC.EN: 1: session in use -/
def ENC_S_CODEC_EN : Fld := ⟨0, 0⟩
/-- [1:0] 0 look path, 1 write-back, 2 DEC0; [4:2] unit; others reserved (12_encoding.md). -/
def ENC_S_SRC (c s : Nat) : Reg := ⟨0x3001004 + c * 0x100000 + s * 0x1000, 0⟩
/-- [15:0] CX; [31:16] CY (12_encoding.md). -/
def ENC_S_CROP_XY (c s : Nat) : Reg := ⟨0x3001008 + c * 0x100000 + s * 0x1000, 0⟩
/-- [15:0] CW; [31:16] CH (12_encoding.md). -/
def ENC_S_CROP_WH (c s : Nat) : Reg := ⟨0x300100C + c * 0x100000 + s * 0x1000, 0⟩
/-- [15:0] SW; [31:16] SH (12_encoding.md). -/
def ENC_S_SCALE (c s : Nat) : Reg := ⟨0x3001010 + c * 0x100000 + s * 0x1000, 0⟩
/-- [1:0] ROT (RG); [8] ROI_EN (RW); others reserved (12_encoding.md). -/
def ENC_S_XFORM (c s : Nat) : Reg := ⟨0x3001014 + c * 0x100000 + s * 0x1000, 0⟩
/-- Picture structure (12_encoding.md). -/
def ENC_S_GOP (c s : Nat) : Reg := ⟨0x3001018 + c * 0x100000 + s * 0x1000, 0⟩
/-- ENC_S_GOP.INTRA_PERIOD: Pictures between IRAPs; 0 first only -/
def ENC_S_GOP_INTRA_PERIOD : Fld := ⟨31, 16⟩
/-- ENC_S_GOP.REFRESH: Low-delay P sweep length, 2–255 -/
def ENC_S_GOP_REFRESH : Fld := ⟨15, 8⟩
/-- ENC_S_GOP.IRAP_TYPE: 0 IDR_N_LP, 1 CRA -/
def ENC_S_GOP_IRAP_TYPE : Fld := ⟨4, 4⟩
/-- ENC_S_GOP.BGOP: 1–3: GOP of 2^BGOP; 0 refused with 0x0401 for STRUCT 3 -/
def ENC_S_GOP_BGOP : Fld := ⟨3, 2⟩
/-- ENC_S_GOP.STRUCT: Per R308 -/
def ENC_S_GOP_STRUCT : Fld := ⟨1, 0⟩
/-- [3:0] SRX ÷ 64; [7:4] SRY ÷ 32; others reserved (12_encoding.md). -/
def ENC_S_SEARCH (c s : Nat) : Reg := ⟨0x300101C + c * 0x100000 + s * 0x1000, 0x44⟩
/-- Rate control (12_encoding.md). -/
def ENC_S_RC (c s : Nat) : Reg := ⟨0x3001020 + c * 0x100000 + s * 0x1000, 0x330000⟩
/-- ENC_S_RC.MAX_QP: Highest QP; above 51 (HEVC) or 63 (VVC) acts as that limit -/
def ENC_S_RC_MAX_QP : Fld := ⟨21, 16⟩
/-- ENC_S_RC.MIN_QP: Lowest QP; above MAX_QP refused with 0x0401 -/
def ENC_S_RC_MIN_QP : Fld := ⟨13, 8⟩
/-- ENC_S_RC.RC_MODE: Per R314 -/
def ENC_S_RC_RC_MODE : Fld := ⟨1, 0⟩
/-- [5:0] QP_I; [13:8] QP_P; [21:16] QP_B; [29:24] CQ_LEVEL (12_encoding.md). -/
def ENC_S_QP (c s : Nat) : Reg := ⟨0x3001024 + c * 0x100000 + s * 0x1000, 0x1E20201E⟩
/-- BITRATE, kbit/s (12_encoding.md). -/
def ENC_S_BITRATE (c s : Nat) : Reg := ⟨0x3001028 + c * 0x100000 + s * 0x1000, 0⟩
/-- MAXRATE, kbit/s (12_encoding.md). -/
def ENC_S_MAXRATE (c s : Nat) : Reg := ⟨0x300102C + c * 0x100000 + s * 0x1000, 0⟩
/-- CPB size, kbit (12_encoding.md). -/
def ENC_S_CPB (c s : Nat) : Reg := ⟨0x3001030 + c * 0x100000 + s * 0x1000, 0⟩
/-- HARD_CAP, bytes (12_encoding.md). -/
def ENC_S_HARD_CAP (c s : Nat) : Reg := ⟨0x3001034 + c * 0x100000 + s * 0x1000, 0⟩
/-- [7:0] colour_primaries; [15:8] transfer_characteristics; [23:16] matrix_coeffs; [24] full range (12_encoding.md). -/
def ENC_S_VUI (c s : Nat) : Reg := ⟨0x3001038 + c * 0x100000 + s * 0x1000, 0x10101⟩
/-- VUI time_scale (12_encoding.md). -/
def ENC_S_TIME_SCALE (c s : Nat) : Reg := ⟨0x300103C + c * 0x100000 + s * 0x1000, 0⟩
/-- VUI num_units_in_tick; f = TIME_SCALE ÷ NUM_UNITS (12_encoding.md). -/
def ENC_S_NUM_UNITS (c s : Nat) : Reg := ⟨0x3001040 + c * 0x100000 + s * 0x1000, 0⟩
/-- [0] GO (W1S; reads 1 while PENDING); [1] DISCARDED (W1C) (12_encoding.md). -/
def ENC_S_COMMIT (c s : Nat) : Reg := ⟨0x3001044 + c * 0x100000 + s * 0x1000, 0⟩
/-- Session state (12_encoding.md). -/
def ENC_S_STATUS (c s : Nat) : Reg := ⟨0x3001048 + c * 0x100000 + s * 0x1000, 0⟩
/-- ENC_S_STATUS.STOP_REASON: Per R32 -/
def ENC_S_STATUS_STOP_REASON : Fld := ⟨31, 24⟩
/-- ENC_S_STATUS.PHASE: Phase of the picture in progress, 1–3; 0 idle -/
def ENC_S_STATUS_PHASE : Fld := ⟨17, 16⟩
/-- ENC_S_STATUS.QUEUED: Frames in the input queue -/
def ENC_S_STATUS_QUEUED : Fld := ⟨15, 8⟩
/-- ENC_S_STATUS.WR_DISCARD: 1: a write was discarded while PENDING -/
def ENC_S_STATUS_WR_DISCARD : Fld := ⟨1, 1⟩
/-- ENC_S_STATUS.PENDING: 1: accepted commit awaits its picture start -/
def ENC_S_STATUS_PENDING : Fld := ⟨0, 0⟩
/-- [15:0] code of the last refusal; 0x0000 if none (12_encoding.md). -/
def ENC_S_REFUSAL (c s : Nat) : Reg := ⟨0x300104C + c * 0x100000 + s * 0x1000, 0⟩
/-- Short time of the last refusal (12_encoding.md). -/
def ENC_S_REFUSAL_TIME (c s : Nat) : Reg := ⟨0x3001050 + c * 0x100000 + s * 0x1000, 0⟩
/-- Ring address [31:12]; [11:0] read 0 (12_encoding.md). -/
def ENC_S_BS_ADDR_LO (c s : Nat) : Reg := ⟨0x3001054 + c * 0x100000 + s * 0x1000, 0⟩
/-- Ring address [63:32] (12_encoding.md). -/
def ENC_S_BS_ADDR_HI (c s : Nat) : Reg := ⟨0x3001058 + c * 0x100000 + s * 0x1000, 0⟩
/-- [12:0] ring size in MiB, equal to BACKLOG, 1–4,096; [31:13] reserved (12_encoding.md). -/
def ENC_S_BS_SIZE (c s : Nat) : Reg := ⟨0x300105C + c * 0x100000 + s * 0x1000, 0⟩
/-- Write offset; [5:0] read 0 (12_encoding.md). -/
def ENC_S_BS_WP (c s : Nat) : Reg := ⟨0x3001060 + c * 0x100000 + s * 0x1000, 0⟩
/-- Read offset; [5:0] read 0 (12_encoding.md). -/
def ENC_S_BS_RP (c s : Nat) : Reg := ⟨0x3001064 + c * 0x100000 + s * 0x1000, 0⟩
/-- DPB address [31:12]; [11:0] read 0 (12_encoding.md). -/
def ENC_S_DPB_ADDR_LO (c s : Nat) : Reg := ⟨0x3001068 + c * 0x100000 + s * 0x1000, 0⟩
/-- DPB address [63:32] (12_encoding.md). -/
def ENC_S_DPB_ADDR_HI (c s : Nat) : Reg := ⟨0x300106C + c * 0x100000 + s * 0x1000, 0⟩
/-- Pictures completed, wrapping (12_encoding.md). -/
def ENC_S_PICTURES (c s : Nat) : Reg := ⟨0x3001070 + c * 0x100000 + s * 0x1000, 0⟩
/-- Offers not taken, saturating (12_encoding.md). -/
def ENC_S_SRC_SKIP (c s : Nat) : Reg := ⟨0x3001074 + c * 0x100000 + s * 0x1000, 0⟩
/-- Frames released under R326, saturating (12_encoding.md). -/
def ENC_S_HOT_SKIP (c s : Nat) : Reg := ⟨0x3001078 + c * 0x100000 + s * 0x1000, 0⟩
/-- Pictures entering phase 2, saturating (12_encoding.md). -/
def ENC_S_MAXQP_CNT (c s : Nat) : Reg := ⟨0x300107C + c * 0x100000 + s * 0x1000, 0⟩
/-- Pictures entering phase 3, saturating (12_encoding.md). -/
def ENC_S_FLOOR_CNT (c s : Nat) : Reg := ⟨0x3001080 + c * 0x100000 + s * 0x1000, 0⟩
/-- Close deliveries that floor-coded rows, saturating (12_encoding.md). -/
def ENC_S_WIN_LATE (c s : Nat) : Reg := ⟨0x3001084 + c * 0x100000 + s * 0x1000, 0⟩
/-- Open deliveries with nothing waiting, saturating (12_encoding.md). -/
def ENC_S_WIN_IDLE (c s : Nat) : Reg := ⟨0x3001088 + c * 0x100000 + s * 0x1000, 0⟩
/-- Fq, bits per CTU (12_encoding.md). -/
def ENC_S_FQ (c s : Nat) : Reg := ⟨0x300108C + c * 0x100000 + s * 0x1000, 0⟩
/-- Bits of the last picture (12_encoding.md). -/
def ENC_S_LAST_BITS (c s : Nat) : Reg := ⟨0x3001090 + c * 0x100000 + s * 0x1000, 0⟩
/-- C of the last picture, bits (12_encoding.md). -/
def ENC_S_LAST_CAP (c s : Nat) : Reg := ⟨0x3001094 + c * 0x100000 + s * 0x1000, 0⟩
/-- Fi, bits (12_encoding.md). -/
def ENC_S_FLOOR_I (c s : Nat) : Reg := ⟨0x3001098 + c * 0x100000 + s * 0x1000, 0⟩
/-- Fp, bits (12_encoding.md). -/
def ENC_S_FLOOR_P (c s : Nat) : Reg := ⟨0x300109C + c * 0x100000 + s * 0x1000, 0⟩
/-- Values clamped at commit, saturating (12_encoding.md). -/
def ENC_S_REPLACED (c s : Nat) : Reg := ⟨0x30010A0 + c * 0x100000 + s * 0x1000, 0⟩
/-- [15:0] X; [31:16] Y (12_encoding.md). -/
def ENC_S_ROI_XY (c s i : Nat) : Reg := ⟨0x3001400 + c * 0x100000 + s * 0x1000 + i * 0x10, 0⟩
/-- [15:0] W; [31:16] H (12_encoding.md). -/
def ENC_S_ROI_WH (c s i : Nat) : Reg := ⟨0x3001404 + c * 0x100000 + s * 0x1000 + i * 0x10, 0⟩
/-- [7:0] QP offset, signed; [31] EN; others reserved (12_encoding.md). -/
def ENC_S_ROI_CTL (c s i : Nat) : Reg := ⟨0x3001408 + c * 0x100000 + s * 0x1000 + i * 0x10, 0⟩

/-- Access rows (RW, W1C, W1S, RG, RC, WO masks) of chapter 12: encoders. -/
def regRowsEncode0 : List RegRow :=
  [ ⟨"ENC_C_CFG", 0x3000000, [(4, 0x100000)], (fun _ => 0), 0x0, 0x0, 0x0, 0x1F, 0x0, 0x0⟩,
    ⟨"ENC_C_STATUS", 0x3000004, [(4, 0x100000)], (fun _ => 0), 0x0, 0x0, 0x0, 0x0, 0x0, 0x0⟩,
    ⟨"ENC_C_LOAD", 0x3000008, [(4, 0x100000)], (fun _ => 0), 0x0, 0x0, 0x0, 0x0, 0x0, 0x0⟩,
    ⟨"ENC_S_CODEC", 0x3001000, [(4, 0x100000), (4, 0x1000)], (fun _ => 0), 0x0, 0x0, 0x0, 0x37FFF1F, 0x0, 0x0⟩,
    ⟨"ENC_S_SRC", 0x3001004, [(4, 0x100000), (4, 0x1000)], (fun _ => 0), 0x0, 0x0, 0x0, 0x1F, 0x0, 0x0⟩,
    ⟨"ENC_S_CROP_XY", 0x3001008, [(4, 0x100000), (4, 0x1000)], (fun _ => 0), 0xFFFFFFFF, 0x0, 0x0, 0x0, 0x0, 0x0⟩,
    ⟨"ENC_S_CROP_WH", 0x300100C, [(4, 0x100000), (4, 0x1000)], (fun _ => 0), 0x0, 0x0, 0x0, 0xFFFFFFFF, 0x0, 0x0⟩,
    ⟨"ENC_S_SCALE", 0x3001010, [(4, 0x100000), (4, 0x1000)], (fun _ => 0), 0x0, 0x0, 0x0, 0xFFFFFFFF, 0x0, 0x0⟩,
    ⟨"ENC_S_XFORM", 0x3001014, [(4, 0x100000), (4, 0x1000)], (fun _ => 0), 0x100, 0x0, 0x0, 0x3, 0x0, 0x0⟩,
    ⟨"ENC_S_GOP", 0x3001018, [(4, 0x100000), (4, 0x1000)], (fun _ => 0), 0x0, 0x0, 0x0, 0xFFFFFF1F, 0x0, 0x0⟩,
    ⟨"ENC_S_SEARCH", 0x300101C, [(4, 0x100000), (4, 0x1000)], (fun _ => 0x44), 0x0, 0x0, 0x0, 0xFFFF, 0x0, 0x0⟩,
    ⟨"ENC_S_RC", 0x3001020, [(4, 0x100000), (4, 0x1000)], (fun _ => 0x330000), 0x3F3F03, 0x0, 0x0, 0x0, 0x0, 0x0⟩,
    ⟨"ENC_S_QP", 0x3001024, [(4, 0x100000), (4, 0x1000)], (fun _ => 0x1E20201E), 0x3F3F3F3F, 0x0, 0x0, 0x0, 0x0, 0x0⟩,
    ⟨"ENC_S_BITRATE", 0x3001028, [(4, 0x100000), (4, 0x1000)], (fun _ => 0), 0xFFFFFFFF, 0x0, 0x0, 0x0, 0x0, 0x0⟩,
    ⟨"ENC_S_MAXRATE", 0x300102C, [(4, 0x100000), (4, 0x1000)], (fun _ => 0), 0xFFFFFFFF, 0x0, 0x0, 0x0, 0x0, 0x0⟩,
    ⟨"ENC_S_CPB", 0x3001030, [(4, 0x100000), (4, 0x1000)], (fun _ => 0), 0xFFFFFFFF, 0x0, 0x0, 0x0, 0x0, 0x0⟩,
    ⟨"ENC_S_HARD_CAP", 0x3001034, [(4, 0x100000), (4, 0x1000)], (fun _ => 0), 0xFFFFFFFF, 0x0, 0x0, 0x0, 0x0, 0x0⟩,
    ⟨"ENC_S_VUI", 0x3001038, [(4, 0x100000), (4, 0x1000)], (fun _ => 0x10101), 0x1FFFFFF, 0x0, 0x0, 0x0, 0x0, 0x0⟩,
    ⟨"ENC_S_TIME_SCALE", 0x300103C, [(4, 0x100000), (4, 0x1000)], (fun _ => 0), 0x0, 0x0, 0x0, 0xFFFFFFFF, 0x0, 0x0⟩,
    ⟨"ENC_S_NUM_UNITS", 0x3001040, [(4, 0x100000), (4, 0x1000)], (fun _ => 0), 0x0, 0x0, 0x0, 0xFFFFFFFF, 0x0, 0x0⟩,
    ⟨"ENC_S_COMMIT", 0x3001044, [(4, 0x100000), (4, 0x1000)], (fun _ => 0), 0x0, 0x2, 0x1, 0x0, 0x0, 0x0⟩,
    ⟨"ENC_S_STATUS", 0x3001048, [(4, 0x100000), (4, 0x1000)], (fun _ => 0), 0x0, 0x2, 0x0, 0x0, 0x0, 0x0⟩,
    ⟨"ENC_S_REFUSAL", 0x300104C, [(4, 0x100000), (4, 0x1000)], (fun _ => 0), 0x0, 0x0, 0x0, 0x0, 0x0, 0x0⟩,
    ⟨"ENC_S_REFUSAL_TIME", 0x3001050, [(4, 0x100000), (4, 0x1000)], (fun _ => 0), 0x0, 0x0, 0x0, 0x0, 0x0, 0x0⟩ ]
/-- Access rows (RW, W1C, W1S, RG, RC, WO masks) of chapter 12: encoders. -/
def regRowsEncode1 : List RegRow :=
  [ ⟨"ENC_S_BS_ADDR_LO", 0x3001054, [(4, 0x100000), (4, 0x1000)], (fun _ => 0), 0x0, 0x0, 0x0, 0xFFFFF000, 0x0, 0x0⟩,
    ⟨"ENC_S_BS_ADDR_HI", 0x3001058, [(4, 0x100000), (4, 0x1000)], (fun _ => 0), 0x0, 0x0, 0x0, 0xFFFFFFFF, 0x0, 0x0⟩,
    ⟨"ENC_S_BS_SIZE", 0x300105C, [(4, 0x100000), (4, 0x1000)], (fun _ => 0), 0x0, 0x0, 0x0, 0x1FFF, 0x0, 0x0⟩,
    ⟨"ENC_S_BS_WP", 0x3001060, [(4, 0x100000), (4, 0x1000)], (fun _ => 0), 0x0, 0x0, 0x0, 0x0, 0x0, 0x0⟩,
    ⟨"ENC_S_BS_RP", 0x3001064, [(4, 0x100000), (4, 0x1000)], (fun _ => 0), 0xFFFFFFC0, 0x0, 0x0, 0x0, 0x0, 0x0⟩,
    ⟨"ENC_S_DPB_ADDR_LO", 0x3001068, [(4, 0x100000), (4, 0x1000)], (fun _ => 0), 0x0, 0x0, 0x0, 0xFFFFF000, 0x0, 0x0⟩,
    ⟨"ENC_S_DPB_ADDR_HI", 0x300106C, [(4, 0x100000), (4, 0x1000)], (fun _ => 0), 0x0, 0x0, 0x0, 0xFFFFFFFF, 0x0, 0x0⟩,
    ⟨"ENC_S_PICTURES", 0x3001070, [(4, 0x100000), (4, 0x1000)], (fun _ => 0), 0x0, 0x0, 0x0, 0x0, 0x0, 0x0⟩,
    ⟨"ENC_S_SRC_SKIP", 0x3001074, [(4, 0x100000), (4, 0x1000)], (fun _ => 0), 0x0, 0x0, 0x0, 0x0, 0xFFFFFFFF, 0x0⟩,
    ⟨"ENC_S_HOT_SKIP", 0x3001078, [(4, 0x100000), (4, 0x1000)], (fun _ => 0), 0x0, 0x0, 0x0, 0x0, 0xFFFFFFFF, 0x0⟩,
    ⟨"ENC_S_MAXQP_CNT", 0x300107C, [(4, 0x100000), (4, 0x1000)], (fun _ => 0), 0x0, 0x0, 0x0, 0x0, 0xFFFFFFFF, 0x0⟩,
    ⟨"ENC_S_FLOOR_CNT", 0x3001080, [(4, 0x100000), (4, 0x1000)], (fun _ => 0), 0x0, 0x0, 0x0, 0x0, 0xFFFFFFFF, 0x0⟩,
    ⟨"ENC_S_WIN_LATE", 0x3001084, [(4, 0x100000), (4, 0x1000)], (fun _ => 0), 0x0, 0x0, 0x0, 0x0, 0xFFFFFFFF, 0x0⟩,
    ⟨"ENC_S_WIN_IDLE", 0x3001088, [(4, 0x100000), (4, 0x1000)], (fun _ => 0), 0x0, 0x0, 0x0, 0x0, 0xFFFFFFFF, 0x0⟩,
    ⟨"ENC_S_FQ", 0x300108C, [(4, 0x100000), (4, 0x1000)], (fun _ => 0), 0x0, 0x0, 0x0, 0x0, 0x0, 0x0⟩,
    ⟨"ENC_S_LAST_BITS", 0x3001090, [(4, 0x100000), (4, 0x1000)], (fun _ => 0), 0x0, 0x0, 0x0, 0x0, 0x0, 0x0⟩,
    ⟨"ENC_S_LAST_CAP", 0x3001094, [(4, 0x100000), (4, 0x1000)], (fun _ => 0), 0x0, 0x0, 0x0, 0x0, 0x0, 0x0⟩,
    ⟨"ENC_S_FLOOR_I", 0x3001098, [(4, 0x100000), (4, 0x1000)], (fun _ => 0), 0x0, 0x0, 0x0, 0x0, 0x0, 0x0⟩,
    ⟨"ENC_S_FLOOR_P", 0x300109C, [(4, 0x100000), (4, 0x1000)], (fun _ => 0), 0x0, 0x0, 0x0, 0x0, 0x0, 0x0⟩,
    ⟨"ENC_S_REPLACED", 0x30010A0, [(4, 0x100000), (4, 0x1000)], (fun _ => 0), 0x0, 0x0, 0x0, 0x0, 0xFFFFFFFF, 0x0⟩,
    ⟨"ENC_S_ROI_XY", 0x3001400, [(4, 0x100000), (4, 0x1000), (64, 0x10)], (fun _ => 0), 0xFFFFFFFF, 0x0, 0x0, 0x0, 0x0, 0x0⟩,
    ⟨"ENC_S_ROI_WH", 0x3001404, [(4, 0x100000), (4, 0x1000), (64, 0x10)], (fun _ => 0), 0xFFFFFFFF, 0x0, 0x0, 0x0, 0x0, 0x0⟩,
    ⟨"ENC_S_ROI_CTL", 0x3001408, [(4, 0x100000), (4, 0x1000), (64, 0x10)], (fun _ => 0), 0x800000FF, 0x0, 0x0, 0x0, 0x0, 0x0⟩ ]
/-- All access rows of chapter 12: encoders. -/
def regRowsEncode : List RegRow := regRowsEncode0 ++ regRowsEncode1

/-! ## Registers of chapter 13: ZRX and CMX -/

/-- Session configuration (13_raw_codec.md). -/
def ZRX_S_CFG (s : Nat) : Reg := ⟨0x3401000 + s * 0x100, 0⟩
/-- ZRX_S_CFG.DECL_RATIO: Hundredths, 100–1,600; modes L and B -/
def ZRX_S_CFG_DECL_RATIO : Fld := ⟨31, 16⟩
/-- ZRX_S_CFG.CLOSE: 1: a close slot is owned (R342) -/
def ZRX_S_CFG_CLOSE : Fld := ⟨15, 15⟩
/-- ZRX_S_CFG.HEAD: Source head -/
def ZRX_S_CFG_HEAD : Fld := ⟨14, 12⟩
/-- ZRX_S_CFG.NEAR_MIN: Mode C, 0–15 -/
def ZRX_S_CFG_NEAR_MIN : Fld := ⟨11, 8⟩
/-- ZRX_S_CFG.NEAR: Mode B: NEAR, 1–15. Mode C: NEAR_MAX, 0–15 -/
def ZRX_S_CFG_NEAR : Fld := ⟨7, 4⟩
/-- ZRX_S_CFG.PACE: Per R342 -/
def ZRX_S_CFG_PACE : Fld := ⟨3, 3⟩
/-- ZRX_S_CFG.MODE: 0 U, 1 L, 2 B, 3 C -/
def ZRX_S_CFG_MODE : Fld := ⟨2, 1⟩
/-- ZRX_S_CFG.EN: 1: session in use -/
def ZRX_S_CFG_EN : Fld := ⟨0, 0⟩
/-- Mode C TARGET, bytes (13_raw_codec.md). -/
def ZRX_S_TARGET (s : Nat) : Reg := ⟨0x3401004 + s * 0x100, 0⟩
/-- Session state (13_raw_codec.md). -/
def ZRX_S_STATUS (s : Nat) : Reg := ⟨0x3401008 + s * 0x100, 0⟩
/-- ZRX_S_STATUS.STOP_REASON: Per R32 -/
def ZRX_S_STATUS_STOP_REASON : Fld := ⟨23, 16⟩
/-- ZRX_S_STATUS.QUEUED: Frames in the input queue, 0–2 -/
def ZRX_S_STATUS_QUEUED : Fld := ⟨9, 8⟩
/-- ZRX_S_STATUS.PHASE: Phase of the frame in progress, 1–3; 0 idle -/
def ZRX_S_STATUS_PHASE : Fld := ⟨1, 0⟩
/-- Ring address [31:12]; [11:0] read 0 (13_raw_codec.md). -/
def ZRX_S_OUT_ADDR_LO (s : Nat) : Reg := ⟨0x340100C + s * 0x100, 0⟩
/-- Ring address [63:32] (13_raw_codec.md). -/
def ZRX_S_OUT_ADDR_HI (s : Nat) : Reg := ⟨0x3401010 + s * 0x100, 0⟩
/-- [12:0] ring size in MiB, equal to BACKLOG, 1–4,096; [31:13] reserved (13_raw_codec.md). -/
def ZRX_S_OUT_SIZE (s : Nat) : Reg := ⟨0x3401014 + s * 0x100, 0⟩
/-- Write offset; [11:0] read 0 (13_raw_codec.md). -/
def ZRX_S_OUT_WP (s : Nat) : Reg := ⟨0x3401018 + s * 0x100, 0⟩
/-- Read offset; [11:0] read 0 (13_raw_codec.md). -/
def ZRX_S_OUT_RP (s : Nat) : Reg := ⟨0x340101C + s * 0x100, 0⟩
/-- Frames completed, wrapping (13_raw_codec.md). -/
def ZRX_S_FRAMES (s : Nat) : Reg := ⟨0x3401020 + s * 0x100, 0⟩
/-- Offers not taken, saturating (13_raw_codec.md). -/
def ZRX_S_SRC_SKIP (s : Nat) : Reg := ⟨0x3401024 + s * 0x100, 0⟩
/-- Frames entering phase 2, saturating (13_raw_codec.md). -/
def ZRX_S_NEARMAX_CNT (s : Nat) : Reg := ⟨0x3401028 + s * 0x100, 0⟩
/-- Frames entering phase 3, saturating (13_raw_codec.md). -/
def ZRX_S_FLOOR_CNT (s : Nat) : Reg := ⟨0x340102C + s * 0x100, 0⟩
/-- Close deliveries that made tiles FLAT, saturating (13_raw_codec.md). -/
def ZRX_S_WIN_LATE (s : Nat) : Reg := ⟨0x3401030 + s * 0x100, 0⟩
/-- Tiles recoded, saturating (13_raw_codec.md). -/
def ZRX_S_RECODE (s : Nat) : Reg := ⟨0x3401034 + s * 0x100, 0⟩
/-- Fq, bytes (13_raw_codec.md). -/
def ZRX_S_FQ (s : Nat) : Reg := ⟨0x3401038 + s * 0x100, 0⟩
/-- FRAME_LENGTH of the last frame (13_raw_codec.md). -/
def ZRX_S_LAST_BYTES (s : Nat) : Reg := ⟨0x340103C + s * 0x100, 0⟩
/-- Floor of R340, bytes (13_raw_codec.md). -/
def ZRX_S_FLOOR (s : Nat) : Reg := ⟨0x3401040 + s * 0x100, 0⟩
/-- Tiles written in mode U under R338, saturating (13_raw_codec.md). -/
def ZRX_S_UTILES (s : Nat) : Reg := ⟨0x3401044 + s * 0x100, 0⟩
/-- Open deliveries with nothing waiting, saturating (13_raw_codec.md). -/
def ZRX_S_WIN_IDLE (s : Nat) : Reg := ⟨0x3401048 + s * 0x100, 0⟩
/-- Level and enable (13_raw_codec.md). -/
def CMX_CFG : Reg := ⟨0x3600000, 0⟩
/-- CMX_CFG.EN: 1: CMX in use -/
def CMX_CFG_EN : Fld := ⟨4, 4⟩
/-- CMX_CFG.LEVEL: Committed level 0–9; 10–15 refused with 0x0401 -/
def CMX_CFG_LEVEL : Fld := ⟨3, 0⟩
/-- Level in use, fall-back (13_raw_codec.md). -/
def CMX_STATUS : Reg := ⟨0x3600004, 0⟩
/-- CMX_STATUS.STOP_REASON: Per R32 -/
def CMX_STATUS_STOP_REASON : Fld := ⟨15, 8⟩
/-- CMX_STATUS.FALLBACK: 1: coding at level 0 under R348 -/
def CMX_STATUS_FALLBACK : Fld := ⟨4, 4⟩
/-- CMX_STATUS.LEVEL_NOW: Level in use -/
def CMX_STATUS_LEVEL_NOW : Fld := ⟨3, 0⟩
/-- [15:0] HI, MiB; [31:16] LO, MiB (13_raw_codec.md). -/
def CMX_FB : Reg := ⟨0x3600008, 0x1000200⟩
/-- Backlog of R348, KiB (13_raw_codec.md). -/
def CMX_BACKLOG : Reg := ⟨0x360000C, 0⟩
/-- Fall-back entries, saturating (13_raw_codec.md). -/
def CMX_FB_CNT : Reg := ⟨0x3600010, 0⟩
/-- Ring configuration (13_raw_codec.md). -/
def CMX_J_CFG (j : Nat) : Reg := ⟨0x3601000 + j * 0x40, 0⟩
/-- CMX_J_CFG.EN: 1: ring in use -/
def CMX_J_CFG_EN : Fld := ⟨31, 31⟩
/-- CMX_J_CFG.SIZE: log2 of descriptors, 4–12; other values refused with 0x0401 -/
def CMX_J_CFG_SIZE : Fld := ⟨19, 16⟩
/-- CMX_J_CFG.OWNER: 0xFFFF host; otherwise the owning Eight's BLOCK_ID -/
def CMX_J_CFG_OWNER : Fld := ⟨15, 0⟩
/-- Ring address [31:6]; [5:0] read 0 (13_raw_codec.md). -/
def CMX_J_BASE_LO (j : Nat) : Reg := ⟨0x3601004 + j * 0x40, 0⟩
/-- Ring address [63:32] (13_raw_codec.md). -/
def CMX_J_BASE_HI (j : Nat) : Reg := ⟨0x3601008 + j * 0x40, 0⟩
/-- Declared input rate, MB/s (13_raw_codec.md). -/
def CMX_J_RATE (j : Nat) : Reg := ⟨0x360100C + j * 0x40, 0⟩
/-- [11:0] next descriptor to start (13_raw_codec.md). -/
def CMX_J_HEAD (j : Nat) : Reg := ⟨0x3601010 + j * 0x40, 0⟩
/-- [11:0] one past the last descriptor submitted (13_raw_codec.md). -/
def CMX_J_TAIL (j : Nat) : Reg := ⟨0x3601014 + j * 0x40, 0⟩
/-- Jobs completed, wrapping (13_raw_codec.md). -/
def CMX_J_DONE (j : Nat) : Reg := ⟨0x3601018 + j * 0x40, 0⟩
/-- [0] OVF (W1C); [1] ERR (W1C); [31:2] reserved (13_raw_codec.md). -/
def CMX_J_STATUS (j : Nat) : Reg := ⟨0x360101C + j * 0x40, 0⟩

/-- Access rows (RW, W1C, W1S, RG, RC, WO masks) of chapter 13: ZRX and CMX. -/
def regRowsZrx0 : List RegRow :=
  [ ⟨"ZRX_S_CFG", 0x3401000, [(8, 0x100)], (fun _ => 0), 0x0, 0x0, 0x0, 0xFFFFFFFF, 0x0, 0x0⟩,
    ⟨"ZRX_S_TARGET", 0x3401004, [(8, 0x100)], (fun _ => 0), 0x0, 0x0, 0x0, 0xFFFFFFFF, 0x0, 0x0⟩,
    ⟨"ZRX_S_STATUS", 0x3401008, [(8, 0x100)], (fun _ => 0), 0x0, 0x0, 0x0, 0x0, 0x0, 0x0⟩,
    ⟨"ZRX_S_OUT_ADDR_LO", 0x340100C, [(8, 0x100)], (fun _ => 0), 0x0, 0x0, 0x0, 0xFFFFF000, 0x0, 0x0⟩,
    ⟨"ZRX_S_OUT_ADDR_HI", 0x3401010, [(8, 0x100)], (fun _ => 0), 0x0, 0x0, 0x0, 0xFFFFFFFF, 0x0, 0x0⟩,
    ⟨"ZRX_S_OUT_SIZE", 0x3401014, [(8, 0x100)], (fun _ => 0), 0x0, 0x0, 0x0, 0x1FFF, 0x0, 0x0⟩,
    ⟨"ZRX_S_OUT_WP", 0x3401018, [(8, 0x100)], (fun _ => 0), 0x0, 0x0, 0x0, 0x0, 0x0, 0x0⟩,
    ⟨"ZRX_S_OUT_RP", 0x340101C, [(8, 0x100)], (fun _ => 0), 0xFFFFF000, 0x0, 0x0, 0x0, 0x0, 0x0⟩,
    ⟨"ZRX_S_FRAMES", 0x3401020, [(8, 0x100)], (fun _ => 0), 0x0, 0x0, 0x0, 0x0, 0x0, 0x0⟩,
    ⟨"ZRX_S_SRC_SKIP", 0x3401024, [(8, 0x100)], (fun _ => 0), 0x0, 0x0, 0x0, 0x0, 0xFFFFFFFF, 0x0⟩,
    ⟨"ZRX_S_NEARMAX_CNT", 0x3401028, [(8, 0x100)], (fun _ => 0), 0x0, 0x0, 0x0, 0x0, 0xFFFFFFFF, 0x0⟩,
    ⟨"ZRX_S_FLOOR_CNT", 0x340102C, [(8, 0x100)], (fun _ => 0), 0x0, 0x0, 0x0, 0x0, 0xFFFFFFFF, 0x0⟩,
    ⟨"ZRX_S_WIN_LATE", 0x3401030, [(8, 0x100)], (fun _ => 0), 0x0, 0x0, 0x0, 0x0, 0xFFFFFFFF, 0x0⟩,
    ⟨"ZRX_S_RECODE", 0x3401034, [(8, 0x100)], (fun _ => 0), 0x0, 0x0, 0x0, 0x0, 0xFFFFFFFF, 0x0⟩,
    ⟨"ZRX_S_FQ", 0x3401038, [(8, 0x100)], (fun _ => 0), 0x0, 0x0, 0x0, 0x0, 0x0, 0x0⟩,
    ⟨"ZRX_S_LAST_BYTES", 0x340103C, [(8, 0x100)], (fun _ => 0), 0x0, 0x0, 0x0, 0x0, 0x0, 0x0⟩,
    ⟨"ZRX_S_FLOOR", 0x3401040, [(8, 0x100)], (fun _ => 0), 0x0, 0x0, 0x0, 0x0, 0x0, 0x0⟩,
    ⟨"ZRX_S_UTILES", 0x3401044, [(8, 0x100)], (fun _ => 0), 0x0, 0x0, 0x0, 0x0, 0xFFFFFFFF, 0x0⟩,
    ⟨"ZRX_S_WIN_IDLE", 0x3401048, [(8, 0x100)], (fun _ => 0), 0x0, 0x0, 0x0, 0x0, 0xFFFFFFFF, 0x0⟩,
    ⟨"CMX_CFG", 0x3600000, [], (fun _ => 0), 0x0, 0x0, 0x0, 0x1F, 0x0, 0x0⟩,
    ⟨"CMX_STATUS", 0x3600004, [], (fun _ => 0), 0x0, 0x0, 0x0, 0x0, 0x0, 0x0⟩,
    ⟨"CMX_FB", 0x3600008, [], (fun _ => 0x1000200), 0xFFFFFFFF, 0x0, 0x0, 0x0, 0x0, 0x0⟩,
    ⟨"CMX_BACKLOG", 0x360000C, [], (fun _ => 0), 0x0, 0x0, 0x0, 0x0, 0x0, 0x0⟩,
    ⟨"CMX_FB_CNT", 0x3600010, [], (fun _ => 0), 0x0, 0x0, 0x0, 0x0, 0xFFFFFFFF, 0x0⟩ ]
/-- Access rows (RW, W1C, W1S, RG, RC, WO masks) of chapter 13: ZRX and CMX. -/
def regRowsZrx1 : List RegRow :=
  [ ⟨"CMX_J_CFG", 0x3601000, [(16, 0x40)], (fun _ => 0), 0x0, 0x0, 0x0, 0x800FFFFF, 0x0, 0x0⟩,
    ⟨"CMX_J_BASE_LO", 0x3601004, [(16, 0x40)], (fun _ => 0), 0x0, 0x0, 0x0, 0xFFFFFFC0, 0x0, 0x0⟩,
    ⟨"CMX_J_BASE_HI", 0x3601008, [(16, 0x40)], (fun _ => 0), 0x0, 0x0, 0x0, 0xFFFFFFFF, 0x0, 0x0⟩,
    ⟨"CMX_J_RATE", 0x360100C, [(16, 0x40)], (fun _ => 0), 0x0, 0x0, 0x0, 0xFFFFFFFF, 0x0, 0x0⟩,
    ⟨"CMX_J_HEAD", 0x3601010, [(16, 0x40)], (fun _ => 0), 0x0, 0x0, 0x0, 0x0, 0x0, 0x0⟩,
    ⟨"CMX_J_TAIL", 0x3601014, [(16, 0x40)], (fun _ => 0), 0xFFF, 0x0, 0x0, 0x0, 0x0, 0x0⟩,
    ⟨"CMX_J_DONE", 0x3601018, [(16, 0x40)], (fun _ => 0), 0x0, 0x0, 0x0, 0x0, 0x0, 0x0⟩,
    ⟨"CMX_J_STATUS", 0x360101C, [(16, 0x40)], (fun _ => 0), 0x0, 0x3, 0x0, 0x0, 0x0, 0x0⟩ ]
/-- All access rows of chapter 13: ZRX and CMX. -/
def regRowsZrx : List RegRow := regRowsZrx0 ++ regRowsZrx1

/-! ## Registers of chapter 14: media and recording -/

/-- [0] EN; [31:1] reserved (14_recording.md). -/
def NVR_CFG (n : Nat) : Reg := ⟨0x4800000 + n * 0x10000, 0⟩
/-- Link and drive state (14_recording.md). -/
def NVR_STATUS (n : Nat) : Reg := ⟨0x4800004 + n * 0x10000, 0⟩
/-- NVR_STATUS.WIDTH: Link width 1, 2 or 4 -/
def NVR_STATUS_WIDTH : Fld := ⟨15, 12⟩
/-- NVR_STATUS.SPEED: PCIe generation 1–5 -/
def NVR_STATUS_SPEED : Fld := ⟨11, 8⟩
/-- NVR_STATUS.FMT_BAD: 1: no 4,096-byte LBA format -/
def NVR_STATUS_FMT_BAD : Fld := ⟨3, 3⟩
/-- NVR_STATUS.READY: 1: controller enabled, queues created -/
def NVR_STATUS_READY : Fld := ⟨2, 2⟩
/-- NVR_STATUS.LINK_UP: 1: link trained -/
def NVR_STATUS_LINK_UP : Fld := ⟨1, 1⟩
/-- NVR_STATUS.PRESENT: 1: device detected -/
def NVR_STATUS_PRESENT : Fld := ⟨0, 0⟩
/-- Command timeout, ms, 1–60,000; 0 acts as 1 (14_recording.md). -/
def NVR_CMD_TMO (n : Nat) : Reg := ⟨0x4800008 + n * 0x10000, 0x7D0⟩
/-- Namespace 1 capacity in 4,096-byte blocks, [31:0] (14_recording.md). -/
def NVR_CAP_LO (n : Nat) : Reg := ⟨0x480000C + n * 0x10000, 0⟩
/-- Capacity [63:32] (14_recording.md). -/
def NVR_CAP_HI (n : Nat) : Reg := ⟨0x4800010 + n * 0x10000, 0⟩
/-- Error completions, saturating (14_recording.md). -/
def NVR_ERR_CNT (n : Nat) : Reg := ⟨0x4800014 + n * 0x10000, 0⟩
/-- Timeouts, saturating (14_recording.md). -/
def NVR_TMO_CNT (n : Nat) : Reg := ⟨0x4800018 + n * 0x10000, 0⟩
/-- [3:0] DRIVES, one bit per root port; [4] EN; [31:5] reserved (14_recording.md). -/
def REC_M_CFG (m : Nat) : Reg := ⟨0x4880000 + m * 0x100, 0⟩
/-- [2:0] STATE: 0 DOWN, 1 MOUNTING, 2 MOUNTED, 3 UNFORMATTED, 4 MISMATCH, 5 FAILED; 6 and 7 never returned. [8] FMT_DISCARD (W1C); [15:12] drives in error; others reserved (14_recording.md). -/
def REC_M_STATUS (m : Nat) : Reg := ⟨0x4880004 + m * 0x100, 0⟩
/-- [0] MOUNT; [1] FORMAT; [15:8] KEY, 0x5A for FORMAT, else FORMAT is discarded (14_recording.md). -/
def REC_M_CTRL (m : Nat) : Reg := ⟨0x4880008 + m * 0x100, 0⟩
/-- SET_STRIPES (14_recording.md). -/
def REC_M_TOTAL (m : Nat) : Reg := ⟨0x488000C + m * 0x100, 0⟩
/-- Free stripes (14_recording.md). -/
def REC_M_FREE (m : Nat) : Reg := ⟨0x4880010 + m * 0x100, 0⟩
/-- Clips recovered, saturating (14_recording.md). -/
def REC_M_RECOVERED (m : Nat) : Reg := ⟨0x4880014 + m * 0x100, 0⟩
/-- SET_UUID, bytes 0–3 in UUID0 (14_recording.md). -/
def REC_M_UUID (m i : Nat) : Reg := ⟨0x4880018 + m * 0x100 + i * 0x4, 0⟩
/-- Source, set, options (14_recording.md). -/
def REC_C_CFG (c : Nat) : Reg := ⟨0x4900000 + c * 0x1000, 0⟩
/-- REC_C_CFG.PROV: 1: C2PA sidecar at seal -/
def REC_C_CFG_PROV : Fld := ⟨13, 13⟩
/-- REC_C_CFG.ENCRYPT: 1: clips encrypted -/
def REC_C_CFG_ENCRYPT : Fld := ⟨12, 12⟩
/-- REC_C_CFG.SET: Media set 0–3 -/
def REC_C_CFG_SET : Fld := ⟨11, 10⟩
/-- REC_C_CFG.SRC_INST: ZRX session 0–7, or 4 × core + session -/
def REC_C_CFG_SRC_INST : Fld := ⟨9, 6⟩
/-- REC_C_CFG.SRC_TYPE: 0 ZRX session, 1 encoder session -/
def REC_C_CFG_SRC_TYPE : Fld := ⟨1, 1⟩
/-- REC_C_CFG.EN: 1: channel in use -/
def REC_C_CFG_EN : Fld := ⟨0, 0⟩
/-- [3:0] PORT_A; [7:4] PORT_B; [9:8] ports used, 0–2; others reserved (14_recording.md). -/
def REC_C_AUD (c : Nat) : Reg := ⟨0x4900004 + c * 0x1000, 0⟩
/-- [15:0] PRE_MIB; 0 no pre-record (14_recording.md). -/
def REC_C_PRE (c : Nat) : Reg := ⟨0x4900008 + c * 0x1000, 0⟩
/-- MEDIA_KEY_ID (14_recording.md). -/
def REC_C_KEY (c : Nat) : Reg := ⟨0x490000C + c * 0x1000, 0⟩
/-- State and causes (14_recording.md). -/
def REC_C_STATUS (c : Nat) : Reg := ⟨0x4900010 + c * 0x1000, 0⟩
/-- REC_C_STATUS.STOP_REASON: Per R32 -/
def REC_C_STATUS_STOP_REASON : Fld := ⟨23, 16⟩
/-- REC_C_STATUS.START_FAIL: Last START: 0 accepted, 1 set not mounted, 2 directory full, 3 media full, 4 refused under R380, 5 wrong state -/
def REC_C_STATUS_START_FAIL : Fld := ⟨10, 8⟩
/-- REC_C_STATUS.CAUSE: Per R357; 0 none -/
def REC_C_STATUS_CAUSE : Fld := ⟨7, 4⟩
/-- REC_C_STATUS.STATE: Per R354; 5–7 never returned -/
def REC_C_STATUS_STATE : Fld := ⟨2, 0⟩
/-- [0] ARM; [1] DISARM; [2] START; [3] STOP; each reads 0 (14_recording.md). -/
def REC_C_CTRL (c : Nat) : Reg := ⟨0x4900014 + c * 0x1000, 0⟩
/-- [29:0] BCD start timecode; [30] DF; [31] SRC: 0 this register, 1 LTC input (14_recording.md). -/
def REC_C_TC (c : Nat) : Reg := ⟨0x4900018 + c * 0x1000, 0⟩
/-- Directory entry of the current or last clip (14_recording.md). -/
def REC_C_ENTRY (c : Nat) : Reg := ⟨0x490001C + c * 0x1000, 0xFFFFFFFF⟩
/-- Frames wrapped in the current or last clip (14_recording.md). -/
def REC_C_FRAMES (c : Nat) : Reg := ⟨0x4900020 + c * 0x1000, 0⟩
/-- FRAMES of the last durable checkpoint (14_recording.md). -/
def REC_C_CKPT_FRAMES (c : Nat) : Reg := ⟨0x4900024 + c * 0x1000, 0⟩
/-- Clip frame number of the last frame at the last end (14_recording.md). -/
def REC_C_LAST_FRAME (c : Nat) : Reg := ⟨0x4900028 + c * 0x1000, 0⟩
/-- Offered frames discarded, saturating (14_recording.md). -/
def REC_C_DISCARD (c : Nat) : Reg := ⟨0x490002C + c * 0x1000, 0⟩
/-- Merged checkpoints, saturating (14_recording.md). -/
def REC_C_CKPT_LAG (c : Nat) : Reg := ⟨0x4900030 + c * 0x1000, 0⟩
/-- [15:0] code of the last refusal; 0x0000 if none (14_recording.md). -/
def REC_C_REFUSAL (c : Nat) : Reg := ⟨0x4900034 + c * 0x1000, 0⟩
/-- Short time of the last refusal (14_recording.md). -/
def REC_C_REFUSAL_TIME (c : Nat) : Reg := ⟨0x4900038 + c * 0x1000, 0⟩
/-- Frames held in pre-record (14_recording.md). -/
def REC_C_PRE_FRAMES (c : Nat) : Reg := ⟨0x490003C + c * 0x1000, 0⟩
/-- Clip name, 32 bytes, latched at START (14_recording.md). -/
def REC_C_NAME (c i : Nat) : Reg := ⟨0x4900040 + c * 0x1000 + i * 0x4, 0⟩

/-- Access rows (RW, W1C, W1S, RG, RC, WO masks) of chapter 14: media and recording. -/
def regRowsRecord0 : List RegRow :=
  [ ⟨"NVR_CFG", 0x4800000, [(4, 0x10000)], (fun _ => 0), 0x0, 0x0, 0x0, 0x1, 0x0, 0x0⟩,
    ⟨"NVR_STATUS", 0x4800004, [(4, 0x10000)], (fun _ => 0), 0x0, 0x0, 0x0, 0x0, 0x0, 0x0⟩,
    ⟨"NVR_CMD_TMO", 0x4800008, [(4, 0x10000)], (fun _ => 0x7D0), 0xFFFFFFFF, 0x0, 0x0, 0x0, 0x0, 0x0⟩,
    ⟨"NVR_CAP_LO", 0x480000C, [(4, 0x10000)], (fun _ => 0), 0x0, 0x0, 0x0, 0x0, 0x0, 0x0⟩,
    ⟨"NVR_CAP_HI", 0x4800010, [(4, 0x10000)], (fun _ => 0), 0x0, 0x0, 0x0, 0x0, 0x0, 0x0⟩,
    ⟨"NVR_ERR_CNT", 0x4800014, [(4, 0x10000)], (fun _ => 0), 0x0, 0x0, 0x0, 0x0, 0xFFFFFFFF, 0x0⟩,
    ⟨"NVR_TMO_CNT", 0x4800018, [(4, 0x10000)], (fun _ => 0), 0x0, 0x0, 0x0, 0x0, 0xFFFFFFFF, 0x0⟩,
    ⟨"REC_M_CFG", 0x4880000, [(4, 0x100)], (fun _ => 0), 0x0, 0x0, 0x0, 0x1F, 0x0, 0x0⟩,
    ⟨"REC_M_STATUS", 0x4880004, [(4, 0x100)], (fun _ => 0), 0x0, 0x100, 0x0, 0x0, 0x0, 0x0⟩,
    ⟨"REC_M_CTRL", 0x4880008, [(4, 0x100)], (fun _ => 0), 0x0, 0x0, 0x0, 0x0, 0x0, 0xFF03⟩,
    ⟨"REC_M_TOTAL", 0x488000C, [(4, 0x100)], (fun _ => 0), 0x0, 0x0, 0x0, 0x0, 0x0, 0x0⟩,
    ⟨"REC_M_FREE", 0x4880010, [(4, 0x100)], (fun _ => 0), 0x0, 0x0, 0x0, 0x0, 0x0, 0x0⟩,
    ⟨"REC_M_RECOVERED", 0x4880014, [(4, 0x100)], (fun _ => 0), 0x0, 0x0, 0x0, 0x0, 0xFFFFFFFF, 0x0⟩,
    ⟨"REC_M_UUID", 0x4880018, [(4, 0x100), (4, 0x4)], (fun _ => 0), 0x0, 0x0, 0x0, 0x0, 0x0, 0x0⟩,
    ⟨"REC_C_CFG", 0x4900000, [(8, 0x1000)], (fun _ => 0), 0x0, 0x0, 0x0, 0x3FC3, 0x0, 0x0⟩,
    ⟨"REC_C_AUD", 0x4900004, [(8, 0x1000)], (fun _ => 0), 0x0, 0x0, 0x0, 0x3FF, 0x0, 0x0⟩,
    ⟨"REC_C_PRE", 0x4900008, [(8, 0x1000)], (fun _ => 0), 0x0, 0x0, 0x0, 0xFFFF, 0x0, 0x0⟩,
    ⟨"REC_C_KEY", 0x490000C, [(8, 0x1000)], (fun _ => 0), 0x0, 0x0, 0x0, 0xFFFFFFFF, 0x0, 0x0⟩,
    ⟨"REC_C_STATUS", 0x4900010, [(8, 0x1000)], (fun _ => 0), 0x0, 0x0, 0x0, 0x0, 0x0, 0x0⟩,
    ⟨"REC_C_CTRL", 0x4900014, [(8, 0x1000)], (fun _ => 0), 0x0, 0x0, 0xF, 0x0, 0x0, 0x0⟩,
    ⟨"REC_C_TC", 0x4900018, [(8, 0x1000)], (fun _ => 0), 0xFFFFFFFF, 0x0, 0x0, 0x0, 0x0, 0x0⟩,
    ⟨"REC_C_ENTRY", 0x490001C, [(8, 0x1000)], (fun _ => 0xFFFFFFFF), 0x0, 0x0, 0x0, 0x0, 0x0, 0x0⟩,
    ⟨"REC_C_FRAMES", 0x4900020, [(8, 0x1000)], (fun _ => 0), 0x0, 0x0, 0x0, 0x0, 0x0, 0x0⟩,
    ⟨"REC_C_CKPT_FRAMES", 0x4900024, [(8, 0x1000)], (fun _ => 0), 0x0, 0x0, 0x0, 0x0, 0x0, 0x0⟩ ]
/-- Access rows (RW, W1C, W1S, RG, RC, WO masks) of chapter 14: media and recording. -/
def regRowsRecord1 : List RegRow :=
  [ ⟨"REC_C_LAST_FRAME", 0x4900028, [(8, 0x1000)], (fun _ => 0), 0x0, 0x0, 0x0, 0x0, 0x0, 0x0⟩,
    ⟨"REC_C_DISCARD", 0x490002C, [(8, 0x1000)], (fun _ => 0), 0x0, 0x0, 0x0, 0x0, 0xFFFFFFFF, 0x0⟩,
    ⟨"REC_C_CKPT_LAG", 0x4900030, [(8, 0x1000)], (fun _ => 0), 0x0, 0x0, 0x0, 0x0, 0xFFFFFFFF, 0x0⟩,
    ⟨"REC_C_REFUSAL", 0x4900034, [(8, 0x1000)], (fun _ => 0), 0x0, 0x0, 0x0, 0x0, 0x0, 0x0⟩,
    ⟨"REC_C_REFUSAL_TIME", 0x4900038, [(8, 0x1000)], (fun _ => 0), 0x0, 0x0, 0x0, 0x0, 0x0, 0x0⟩,
    ⟨"REC_C_PRE_FRAMES", 0x490003C, [(8, 0x1000)], (fun _ => 0), 0x0, 0x0, 0x0, 0x0, 0x0, 0x0⟩,
    ⟨"REC_C_NAME", 0x4900040, [(8, 0x1000), (8, 0x4)], (fun _ => 0), 0xFFFFFFFF, 0x0, 0x0, 0x0, 0x0, 0x0⟩ ]
/-- All access rows of chapter 14: media and recording. -/
def regRowsRecord : List RegRow := regRowsRecord0 ++ regRowsRecord1

/-! ## Registers of chapter 15: decoder -/

/-- Session configuration (15_playback.md). -/
def DEC_S_CFG (s : Nat) : Reg := ⟨0x3801000 + s * 0x1000, 0⟩
/-- DEC_S_CFG.BUFS: Output buffers, 2–255 -/
def DEC_S_CFG_BUFS : Fld := ⟨31, 24⟩
/-- DEC_S_CFG.PREVIEW: Per R395 -/
def DEC_S_CFG_PREVIEW : Fld := ⟨4, 4⟩
/-- DEC_S_CFG.SRC: 0 clip, 1 ring -/
def DEC_S_CFG_SRC : Fld := ⟨3, 3⟩
/-- DEC_S_CFG.FIRM: 1: stream is Firm -/
def DEC_S_CFG_FIRM : Fld := ⟨2, 2⟩
/-- DEC_S_CFG.EN: 1: session in use -/
def DEC_S_CFG_EN : Fld := ⟨0, 0⟩
/-- [15:0] largest W; [31:16] largest H (15_playback.md). -/
def DEC_S_MAX (s : Nat) : Reg := ⟨0x3801004 + s * 0x1000, 0⟩
/-- Largest frame rate, millifps (15_playback.md). -/
def DEC_S_MAX_RATE (s : Nat) : Reg := ⟨0x3801008 + s * 0x1000, 0⟩
/-- Pacing (15_playback.md). -/
def DEC_S_PACE (s : Nat) : Reg := ⟨0x380100C + s * 0x1000, 0⟩
/-- DEC_S_PACE.SLOT: Owned slot for MODE 2 -/
def DEC_S_PACE_SLOT : Fld := ⟨24, 16⟩
/-- DEC_S_PACE.DIV: MODE 1 divisor; 0 acts as 1 -/
def DEC_S_PACE_DIV : Fld := ⟨15, 8⟩
/-- DEC_S_PACE.CMP: Compositor for MODE 1 -/
def DEC_S_PACE_CMP : Fld := ⟨3, 2⟩
/-- DEC_S_PACE.MODE: Per R390; 3 refused with 0x0401 -/
def DEC_S_PACE_MODE : Fld := ⟨1, 0⟩
/-- Ring address [31:12]; [11:0] read 0 (15_playback.md). -/
def DEC_S_OUT_ADDR_LO (s : Nat) : Reg := ⟨0x3801010 + s * 0x1000, 0⟩
/-- Ring address [63:32] (15_playback.md). -/
def DEC_S_OUT_ADDR_HI (s : Nat) : Reg := ⟨0x3801014 + s * 0x1000, 0⟩
/-- SRC 1 ring address [31:12]; [11:0] read 0 (15_playback.md). -/
def DEC_S_IN_ADDR_LO (s : Nat) : Reg := ⟨0x3801018 + s * 0x1000, 0⟩
/-- SRC 1 ring address [63:32] (15_playback.md). -/
def DEC_S_IN_ADDR_HI (s : Nat) : Reg := ⟨0x380101C + s * 0x1000, 0⟩
/-- SRC 1 ring bytes (15_playback.md). -/
def DEC_S_IN_SIZE (s : Nat) : Reg := ⟨0x3801020 + s * 0x1000, 0⟩
/-- Producer offset; [5:0] read 0 (15_playback.md). -/
def DEC_S_IN_WP (s : Nat) : Reg := ⟨0x3801024 + s * 0x1000, 0⟩
/-- Consumed offset (15_playback.md). -/
def DEC_S_IN_RP (s : Nat) : Reg := ⟨0x3801028 + s * 0x1000, 0⟩
/-- Command (15_playback.md). -/
def DEC_S_CMD (s : Nat) : Reg := ⟨0x3801030 + s * 0x1000, 0⟩
/-- DEC_S_CMD.SET: Media set for LOAD -/
def DEC_S_CMD_SET : Fld := ⟨13, 12⟩
/-- DEC_S_CMD.FAIL: Per R388; 0 none -/
def DEC_S_CMD_FAIL : Fld := ⟨11, 8⟩
/-- DEC_S_CMD.DIR: 1: reverse -/
def DEC_S_CMD_DIR : Fld := ⟨7, 7⟩
/-- DEC_S_CMD.DISCARD: 1: a GO was discarded -/
def DEC_S_CMD_DISCARD : Fld := ⟨6, 6⟩
/-- DEC_S_CMD.BUSY: 1: command in progress -/
def DEC_S_CMD_BUSY : Fld := ⟨5, 5⟩
/-- DEC_S_CMD.GO: Write 1 to issue; reads 0 -/
def DEC_S_CMD_GO : Fld := ⟨4, 4⟩
/-- DEC_S_CMD.OP: Per R388; other values discarded -/
def DEC_S_CMD_OP : Fld := ⟨3, 0⟩
/-- Entry or clip frame (15_playback.md). -/
def DEC_S_CMD_ARG (s : Nat) : Reg := ⟨0x3801034 + s * 0x1000, 0⟩
/-- State (15_playback.md). -/
def DEC_S_STATUS (s : Nat) : Reg := ⟨0x3801038 + s * 0x1000, 0⟩
/-- DEC_S_STATUS.STOP_REASON: Per R32 -/
def DEC_S_STATUS_STOP_REASON : Fld := ⟨15, 8⟩
/-- DEC_S_STATUS.STATE: 0 IDLE, 1 PAUSED, 2 PLAYING, 3 ENDED, 4 STOPPED; 5–7 never returned -/
def DEC_S_STATUS_STATE : Fld := ⟨2, 0⟩
/-- [1:0] chroma; [3:2] depth 0 8, 1 10, 2 12; [4] full range; [15:8] matrix_coeffs; [16] ZRX (15_playback.md). -/
def DEC_S_FMT (s : Nat) : Reg := ⟨0x380103C + s * 0x1000, 0⟩
/-- Last clip frame posted (15_playback.md). -/
def DEC_S_FRAME (s : Nat) : Reg := ⟨0x3801040 + s * 0x1000, 0⟩
/-- Pictures posted, wrapping (15_playback.md). -/
def DEC_S_PICTURES (s : Nat) : Reg := ⟨0x3801044 + s * 0x1000, 0⟩
/-- Syntax errors, saturating (15_playback.md). -/
def DEC_S_SYNTAX_CNT (s : Nat) : Reg := ⟨0x3801048 + s * 0x1000, 0⟩
/-- Concealed CTUs, saturating (15_playback.md). -/
def DEC_S_CONCEAL_CTU (s : Nat) : Reg := ⟨0x380104C + s * 0x1000, 0⟩
/-- Pictures predicted from substitutes, saturating (15_playback.md). -/
def DEC_S_CONCEAL_PIC (s : Nat) : Reg := ⟨0x3801050 + s * 0x1000, 0⟩
/-- Substitutions, saturating (15_playback.md). -/
def DEC_S_SUBST_CNT (s : Nat) : Reg := ⟨0x3801054 + s * 0x1000, 0⟩
/-- Pacing events without a picture, saturating (15_playback.md). -/
def DEC_S_LATE (s : Nat) : Reg := ⟨0x3801058 + s * 0x1000, 0⟩
/-- Pictures not written, saturating (15_playback.md). -/
def DEC_S_OUT_DROP (s : Nat) : Reg := ⟨0x380105C + s * 0x1000, 0⟩
/-- Concealed tiles, saturating (15_playback.md). -/
def DEC_S_TILE_BAD (s : Nat) : Reg := ⟨0x3801060 + s * 0x1000, 0⟩
/-- Pictures outside capability, saturating (15_playback.md). -/
def DEC_S_UNSUP (s : Nat) : Reg := ⟨0x3801064 + s * 0x1000, 0⟩
/-- [15:0] code of the last refusal (15_playback.md). -/
def DEC_S_REFUSAL (s : Nat) : Reg := ⟨0x3801068 + s * 0x1000, 0⟩
/-- Short time of the last refusal (15_playback.md). -/
def DEC_S_REFUSAL_TIME (s : Nat) : Reg := ⟨0x380106C + s * 0x1000, 0⟩
/-- Preview matrix, row-major, FP32 (15_playback.md). -/
def DEC_S_PV_MAT (s i : Nat) : Reg := ⟨0x3801070 + s * 0x1000 + i * 0x4, matReset i⟩
/-- [3:0] sessions in use, [4] EN (15_playback.md). -/
def DEC_C_CFG : Reg := ⟨0x3800000, 0⟩
/-- [9:0] committed share of R383 (15_playback.md). -/
def DEC_C_LOAD : Reg := ⟨0x3800008, 0⟩

/-- Access rows (RW, W1C, W1S, RG, RC, WO masks) of chapter 15: decoder. -/
def regRowsDecode0 : List RegRow :=
  [ ⟨"DEC_S_CFG", 0x3801000, [(4, 0x1000)], (fun _ => 0), 0x0, 0x0, 0x0, 0xFF00001D, 0x0, 0x0⟩,
    ⟨"DEC_S_MAX", 0x3801004, [(4, 0x1000)], (fun _ => 0), 0x0, 0x0, 0x0, 0xFFFFFFFF, 0x0, 0x0⟩,
    ⟨"DEC_S_MAX_RATE", 0x3801008, [(4, 0x1000)], (fun _ => 0), 0x0, 0x0, 0x0, 0xFFFFFFFF, 0x0, 0x0⟩,
    ⟨"DEC_S_PACE", 0x380100C, [(4, 0x1000)], (fun _ => 0), 0x0, 0x0, 0x0, 0x1FFFF0F, 0x0, 0x0⟩,
    ⟨"DEC_S_OUT_ADDR_LO", 0x3801010, [(4, 0x1000)], (fun _ => 0), 0x0, 0x0, 0x0, 0xFFFFF000, 0x0, 0x0⟩,
    ⟨"DEC_S_OUT_ADDR_HI", 0x3801014, [(4, 0x1000)], (fun _ => 0), 0x0, 0x0, 0x0, 0xFFFFFFFF, 0x0, 0x0⟩,
    ⟨"DEC_S_IN_ADDR_LO", 0x3801018, [(4, 0x1000)], (fun _ => 0), 0x0, 0x0, 0x0, 0xFFFFF000, 0x0, 0x0⟩,
    ⟨"DEC_S_IN_ADDR_HI", 0x380101C, [(4, 0x1000)], (fun _ => 0), 0x0, 0x0, 0x0, 0xFFFFFFFF, 0x0, 0x0⟩,
    ⟨"DEC_S_IN_SIZE", 0x3801020, [(4, 0x1000)], (fun _ => 0), 0x0, 0x0, 0x0, 0xFFFFFFFF, 0x0, 0x0⟩,
    ⟨"DEC_S_IN_WP", 0x3801024, [(4, 0x1000)], (fun _ => 0), 0xFFFFFFC0, 0x0, 0x0, 0x0, 0x0, 0x0⟩,
    ⟨"DEC_S_IN_RP", 0x3801028, [(4, 0x1000)], (fun _ => 0), 0x0, 0x0, 0x0, 0x0, 0x0, 0x0⟩,
    ⟨"DEC_S_CMD", 0x3801030, [(4, 0x1000)], (fun _ => 0), 0x308F, 0x40, 0x10, 0x0, 0x0, 0x0⟩,
    ⟨"DEC_S_CMD_ARG", 0x3801034, [(4, 0x1000)], (fun _ => 0), 0xFFFFFFFF, 0x0, 0x0, 0x0, 0x0, 0x0⟩,
    ⟨"DEC_S_STATUS", 0x3801038, [(4, 0x1000)], (fun _ => 0), 0x0, 0x0, 0x0, 0x0, 0x0, 0x0⟩,
    ⟨"DEC_S_FMT", 0x380103C, [(4, 0x1000)], (fun _ => 0), 0x0, 0x0, 0x0, 0x0, 0x0, 0x0⟩,
    ⟨"DEC_S_FRAME", 0x3801040, [(4, 0x1000)], (fun _ => 0), 0x0, 0x0, 0x0, 0x0, 0x0, 0x0⟩,
    ⟨"DEC_S_PICTURES", 0x3801044, [(4, 0x1000)], (fun _ => 0), 0x0, 0x0, 0x0, 0x0, 0x0, 0x0⟩,
    ⟨"DEC_S_SYNTAX_CNT", 0x3801048, [(4, 0x1000)], (fun _ => 0), 0x0, 0x0, 0x0, 0x0, 0xFFFFFFFF, 0x0⟩,
    ⟨"DEC_S_CONCEAL_CTU", 0x380104C, [(4, 0x1000)], (fun _ => 0), 0x0, 0x0, 0x0, 0x0, 0xFFFFFFFF, 0x0⟩,
    ⟨"DEC_S_CONCEAL_PIC", 0x3801050, [(4, 0x1000)], (fun _ => 0), 0x0, 0x0, 0x0, 0x0, 0xFFFFFFFF, 0x0⟩,
    ⟨"DEC_S_SUBST_CNT", 0x3801054, [(4, 0x1000)], (fun _ => 0), 0x0, 0x0, 0x0, 0x0, 0xFFFFFFFF, 0x0⟩,
    ⟨"DEC_S_LATE", 0x3801058, [(4, 0x1000)], (fun _ => 0), 0x0, 0x0, 0x0, 0x0, 0xFFFFFFFF, 0x0⟩,
    ⟨"DEC_S_OUT_DROP", 0x380105C, [(4, 0x1000)], (fun _ => 0), 0x0, 0x0, 0x0, 0x0, 0xFFFFFFFF, 0x0⟩,
    ⟨"DEC_S_TILE_BAD", 0x3801060, [(4, 0x1000)], (fun _ => 0), 0x0, 0x0, 0x0, 0x0, 0xFFFFFFFF, 0x0⟩ ]
/-- Access rows (RW, W1C, W1S, RG, RC, WO masks) of chapter 15: decoder. -/
def regRowsDecode1 : List RegRow :=
  [ ⟨"DEC_S_UNSUP", 0x3801064, [(4, 0x1000)], (fun _ => 0), 0x0, 0x0, 0x0, 0x0, 0xFFFFFFFF, 0x0⟩,
    ⟨"DEC_S_REFUSAL", 0x3801068, [(4, 0x1000)], (fun _ => 0), 0x0, 0x0, 0x0, 0x0, 0x0, 0x0⟩,
    ⟨"DEC_S_REFUSAL_TIME", 0x380106C, [(4, 0x1000)], (fun _ => 0), 0x0, 0x0, 0x0, 0x0, 0x0, 0x0⟩,
    ⟨"DEC_S_PV_MAT", 0x3801070, [(4, 0x1000), (9, 0x4)], matReset, 0xFFFFFFFF, 0x0, 0x0, 0x0, 0x0, 0x0⟩,
    ⟨"DEC_C_CFG", 0x3800000, [], (fun _ => 0), 0x0, 0x0, 0x0, 0x1F, 0x0, 0x0⟩,
    ⟨"DEC_C_LOAD", 0x3800008, [], (fun _ => 0), 0x0, 0x0, 0x0, 0x0, 0x0, 0x0⟩ ]
/-- All access rows of chapter 15: decoder. -/
def regRowsDecode : List RegRow := regRowsDecode0 ++ regRowsDecode1

/-! ## Registers of chapter 16: audio -/

/-- [0] SRC; [11:8] RATE code of R116 (16_audio.md). -/
def AUD_REF_CFG : Reg := ⟨0x4C00000, 0⟩
/-- [0] FREE (16_audio.md). -/
def AUD_REF_STATUS : Reg := ⟨0x4C00004, 0⟩
/-- [15:0] member ports; [16] EN (16_audio.md). -/
def AUD_G_CFG (g : Nat) : Reg := ⟨0x4C00100 + g * 0x20, 0⟩
/-- Group block counter (16_audio.md). -/
def AUD_G_BLOCK (g : Nat) : Reg := ⟨0x4C00104 + g * 0x20, 0⟩
/-- Port format (16_audio.md). -/
def AUD_P_CFG (p : Nat) : Reg := ⟨0x4C08000 + p * 0x8000, 0⟩
/-- AUD_P_CFG.EN: 1: port in use -/
def AUD_P_CFG_EN : Fld := ⟨31, 31⟩
/-- AUD_P_CFG.START_TRIG: Per R406 -/
def AUD_P_CFG_START_TRIG : Fld := ⟨21, 21⟩
/-- AUD_P_CFG.GROUPED: 1: member of group GROUP -/
def AUD_P_CFG_GROUPED : Fld := ⟨20, 20⟩
/-- AUD_P_CFG.GROUP: Alignment group 0–3 -/
def AUD_P_CFG_GROUP : Fld := ⟨19, 18⟩
/-- AUD_P_CFG.DLY: TDM data delay, per R397 -/
def AUD_P_CFG_DLY : Fld := ⟨15, 15⟩
/-- AUD_P_CFG.FS_POL: 1: frame sync inverted -/
def AUD_P_CFG_FS_POL : Fld := ⟨14, 14⟩
/-- AUD_P_CFG.BCLK_POL: 1: bit-clock edges inverted -/
def AUD_P_CFG_BCLK_POL : Fld := ⟨13, 13⟩
/-- AUD_P_CFG.MASTER: 1: clock master -/
def AUD_P_CFG_MASTER : Fld := ⟨12, 12⟩
/-- AUD_P_CFG.SLOTS: SLOTS − 1; 0x1 for I2S and left-justified -/
def AUD_P_CFG_SLOTS : Fld := ⟨11, 8⟩
/-- AUD_P_CFG.FORMAT: Per R397; 3 refused with 0x0401 -/
def AUD_P_CFG_FORMAT : Fld := ⟨1, 0⟩
/-- [17:0] FS, Hz (16_audio.md). -/
def AUD_P_FS (p : Nat) : Reg := ⟨0x4C08004 + p * 0x8000, 0xBB80⟩
/-- [11:0] DIV_INT (16_audio.md). -/
def AUD_P_DIV (p : Nat) : Reg := ⟨0x4C08008 + p * 0x8000, 0x1⟩
/-- [23:0] DIV_FRAC (16_audio.md). -/
def AUD_P_FRAC (p : Nat) : Reg := ⟨0x4C0800C + p * 0x8000, 0⟩
/-- [7:0] ms; 0 acts as 1, above 128 as 128 (16_audio.md). -/
def AUD_P_FEATHER (p : Nat) : Reg := ⟨0x4C08010 + p * 0x8000, 0xA⟩
/-- [0] START; [1] STOP; each reads 0 (16_audio.md). -/
def AUD_P_CTRL (p : Nat) : Reg := ⟨0x4C08014 + p * 0x8000, 0⟩
/-- [2:0] 0 OFF, 1 WAITING, 2 RUNNING, 3 STOPPING, 4 LOST; [15:8] STOP_REASON per R32 (16_audio.md). -/
def AUD_P_STATUS (p : Nat) : Reg := ⟨0x4C08018 + p * 0x8000, 0⟩
/-- Measured frame rate, Hz (16_audio.md). -/
def AUD_P_FS_MEAS (p : Nat) : Reg := ⟨0x4C0801C + p * 0x8000, 0⟩
/-- Ignored deliveries, saturating (16_audio.md). -/
def AUD_P_TRIG_IGN (p : Nat) : Reg := ⟨0x4C08020 + p * 0x8000, 0⟩
/-- Direction configuration (16_audio.md). -/
def AUD_D_CFG (p d : Nat) : Reg := ⟨0x4C08100 + p * 0x8000 + d * 0x100, 0⟩
/-- AUD_D_CFG.RING_LOG: 1–12; others refused with 0x0401 -/
def AUD_D_CFG_RING_LOG : Fld := ⟨19, 16⟩
/-- AUD_D_CFG.CS_EN: 1: slots carry IEC 60958 bits (R409) -/
def AUD_D_CFG_CS_EN : Fld := ⟨3, 3⟩
/-- AUD_D_CFG.NA_ACTION: 0 mute, 1 flag only -/
def AUD_D_CFG_NA_ACTION : Fld := ⟨2, 2⟩
/-- AUD_D_CFG.TRI: Transmit: 1 tri-state disabled slots -/
def AUD_D_CFG_TRI : Fld := ⟨1, 1⟩
/-- AUD_D_CFG.EN: 1: direction in use -/
def AUD_D_CFG_EN : Fld := ⟨0, 0⟩
/-- Ring address [31:12]; [11:0] read 0 (16_audio.md). -/
def AUD_D_ADDR_LO (p d : Nat) : Reg := ⟨0x4C08104 + p * 0x8000 + d * 0x100, 0⟩
/-- Ring address [63:32] (16_audio.md). -/
def AUD_D_ADDR_HI (p d : Nat) : Reg := ⟨0x4C08108 + p * 0x8000 + d * 0x100, 0⟩
/-- [15:0] slot mask (16_audio.md). -/
def AUD_D_MASK (p d : Nat) : Reg := ⟨0x4C0810C + p * 0x8000 + d * 0x100, 0⟩
/-- [15:0] feathered mute per slot (16_audio.md). -/
def AUD_D_MUTE (p d : Nat) : Reg := ⟨0x4C08110 + p * 0x8000 + d * 0x100, 0⟩
/-- Block in progress (16_audio.md). -/
def AUD_D_BLOCK (p d : Nat) : Reg := ⟨0x4C08114 + p * 0x8000 + d * 0x100, 0⟩
/-- Block count per R402 (16_audio.md). -/
def AUD_D_WP (p d : Nat) : Reg := ⟨0x4C08118 + p * 0x8000 + d * 0x100, 0⟩
/-- [0] UNDERRUN; [1] MASK_PENDING (16_audio.md). -/
def AUD_D_STATUS (p d : Nat) : Reg := ⟨0x4C0811C + p * 0x8000 + d * 0x100, 0⟩
/-- [7:0] pairs found non-audio (16_audio.md). -/
def AUD_D_NA_PAIRS (p d : Nat) : Reg := ⟨0x4C08120 + p * 0x8000 + d * 0x100, 0⟩
/-- Underruns, saturating (16_audio.md). -/
def AUD_D_UNDERRUN_CNT (p d : Nat) : Reg := ⟨0x4C08124 + p * 0x8000 + d * 0x100, 0⟩
/-- Lost or skipped blocks, saturating (16_audio.md). -/
def AUD_D_LOST_CNT (p d : Nat) : Reg := ⟨0x4C08128 + p * 0x8000 + d * 0x100, 0⟩
/-- Stamp of the last mask apply (16_audio.md). -/
def AUD_D_MASK_STAMP (p d : Nat) : Reg := ⟨0x4C0812C + p * 0x8000 + d * 0x100, 0⟩
/-- Stamp table: entry b mod 256 is 16 bytes, four words (R403) (16_audio.md). -/
def AUD_D_STAMP (p d w : Nat) : Reg := ⟨0x4C09000 + p * 0x8000 + d * 0x1000 + w * 0x4, 0⟩

/-- Access rows (RW, W1C, W1S, RG, RC, WO masks) of chapter 16: audio. -/
def regRowsAudio0 : List RegRow :=
  [ ⟨"AUD_REF_CFG", 0x4C00000, [], (fun _ => 0), 0x0, 0x0, 0x0, 0xF01, 0x0, 0x0⟩,
    ⟨"AUD_REF_STATUS", 0x4C00004, [], (fun _ => 0), 0x0, 0x0, 0x0, 0x0, 0x0, 0x0⟩,
    ⟨"AUD_G_CFG", 0x4C00100, [(4, 0x20)], (fun _ => 0), 0x0, 0x0, 0x0, 0x1FFFF, 0x0, 0x0⟩,
    ⟨"AUD_G_BLOCK", 0x4C00104, [(4, 0x20)], (fun _ => 0), 0x0, 0x0, 0x0, 0x0, 0x0, 0x0⟩,
    ⟨"AUD_P_CFG", 0x4C08000, [(16, 0x8000)], (fun _ => 0), 0x0, 0x0, 0x0, 0x803CFF03, 0x0, 0x0⟩,
    ⟨"AUD_P_FS", 0x4C08004, [(16, 0x8000)], (fun _ => 0xBB80), 0x0, 0x0, 0x0, 0x3FFFF, 0x0, 0x0⟩,
    ⟨"AUD_P_DIV", 0x4C08008, [(16, 0x8000)], (fun _ => 0x1), 0x0, 0x0, 0x0, 0xFFF, 0x0, 0x0⟩,
    ⟨"AUD_P_FRAC", 0x4C0800C, [(16, 0x8000)], (fun _ => 0), 0x0, 0x0, 0x0, 0xFFFFFF, 0x0, 0x0⟩,
    ⟨"AUD_P_FEATHER", 0x4C08010, [(16, 0x8000)], (fun _ => 0xA), 0xFF, 0x0, 0x0, 0x0, 0x0, 0x0⟩,
    ⟨"AUD_P_CTRL", 0x4C08014, [(16, 0x8000)], (fun _ => 0), 0x0, 0x0, 0x3, 0x0, 0x0, 0x0⟩,
    ⟨"AUD_P_STATUS", 0x4C08018, [(16, 0x8000)], (fun _ => 0), 0x0, 0x0, 0x0, 0x0, 0x0, 0x0⟩,
    ⟨"AUD_P_FS_MEAS", 0x4C0801C, [(16, 0x8000)], (fun _ => 0), 0x0, 0x0, 0x0, 0x0, 0x0, 0x0⟩,
    ⟨"AUD_P_TRIG_IGN", 0x4C08020, [(16, 0x8000)], (fun _ => 0), 0x0, 0x0, 0x0, 0x0, 0xFFFFFFFF, 0x0⟩,
    ⟨"AUD_D_CFG", 0x4C08100, [(16, 0x8000), (2, 0x100)], (fun _ => 0), 0x0, 0x0, 0x0, 0xF000F, 0x0, 0x0⟩,
    ⟨"AUD_D_ADDR_LO", 0x4C08104, [(16, 0x8000), (2, 0x100)], (fun _ => 0), 0x0, 0x0, 0x0, 0xFFFFF000, 0x0, 0x0⟩,
    ⟨"AUD_D_ADDR_HI", 0x4C08108, [(16, 0x8000), (2, 0x100)], (fun _ => 0), 0x0, 0x0, 0x0, 0xFFFFFFFF, 0x0, 0x0⟩,
    ⟨"AUD_D_MASK", 0x4C0810C, [(16, 0x8000), (2, 0x100)], (fun _ => 0), 0xFFFF, 0x0, 0x0, 0x0, 0x0, 0x0⟩,
    ⟨"AUD_D_MUTE", 0x4C08110, [(16, 0x8000), (2, 0x100)], (fun _ => 0), 0xFFFF, 0x0, 0x0, 0x0, 0x0, 0x0⟩,
    ⟨"AUD_D_BLOCK", 0x4C08114, [(16, 0x8000), (2, 0x100)], (fun _ => 0), 0x0, 0x0, 0x0, 0x0, 0x0, 0x0⟩,
    ⟨"AUD_D_WP", 0x4C08118, [(16, 0x8000)], (fun _ => 0), 0x0, 0x0, 0x0, 0x0, 0x0, 0x0⟩,
    ⟨"AUD_D_WP", 0x4C08218, [(16, 0x8000)], (fun _ => 0), 0xFFFFFFFF, 0x0, 0x0, 0x0, 0x0, 0x0⟩,
    ⟨"AUD_D_STATUS", 0x4C0811C, [(16, 0x8000), (2, 0x100)], (fun _ => 0), 0x0, 0x0, 0x0, 0x0, 0x0, 0x0⟩,
    ⟨"AUD_D_NA_PAIRS", 0x4C08120, [(16, 0x8000), (2, 0x100)], (fun _ => 0), 0x0, 0x0, 0x0, 0x0, 0x0, 0x0⟩,
    ⟨"AUD_D_UNDERRUN_CNT", 0x4C08124, [(16, 0x8000), (2, 0x100)], (fun _ => 0), 0x0, 0x0, 0x0, 0x0, 0xFFFFFFFF, 0x0⟩ ]
/-- Access rows (RW, W1C, W1S, RG, RC, WO masks) of chapter 16: audio. -/
def regRowsAudio1 : List RegRow :=
  [ ⟨"AUD_D_LOST_CNT", 0x4C08128, [(16, 0x8000), (2, 0x100)], (fun _ => 0), 0x0, 0x0, 0x0, 0x0, 0xFFFFFFFF, 0x0⟩,
    ⟨"AUD_D_MASK_STAMP", 0x4C0812C, [(16, 0x8000), (2, 0x100)], (fun _ => 0), 0x0, 0x0, 0x0, 0x0, 0x0, 0x0⟩,
    ⟨"AUD_D_STAMP", 0x4C09000, [(16, 0x8000), (2, 0x1000), (1024, 0x4)], (fun _ => 0), 0x0, 0x0, 0x0, 0x0, 0x0, 0x0⟩ ]
/-- All access rows of chapter 16: audio. -/
def regRowsAudio : List RegRow := regRowsAudio0 ++ regRowsAudio1

/-! ## Registers of chapter 17: Eights -/

/-- [15:8] STOP_REASON per R32; [0] RUNNING; others reserved (17_engines.md). -/
def EGT_STATUS (e : Nat) : Reg := ⟨0x8000000 + e * 0x100000, 0⟩
/-- Per R423 (17_engines.md). -/
def EGT_SEAT_MAP (e : Nat) : Reg := ⟨0x8000004 + e * 0x100000, 0x76543210⟩
/-- Seat state (17_engines.md). -/
def EGT_SEAT_STATE (e : Nat) : Reg := ⟨0x8000008 + e * 0x100000, 0⟩
/-- EGT_SEAT_STATE.WARN: Per physical seat: corrected-error limit reached -/
def EGT_SEAT_STATE_WARN : Fld := ⟨24, 16⟩
/-- EGT_SEAT_STATE.FAILED: Per physical seat: marked failed -/
def EGT_SEAT_STATE_FAILED : Fld := ⟨8, 0⟩
/-- Watchdog, µs, 1–1,000,000; 0 acts as 1 (17_engines.md). -/
def EGT_WDOG (e : Nat) : Reg := ⟨0x800000C + e * 0x100000, 0x2710⟩
/-- Discarded EVRAISEs, saturating (17_engines.md). -/
def EGT_EV_DENY (e : Nat) : Reg := ⟨0x8000010 + e * 0x100000, 0⟩
/-- Dropped tap words, saturating (17_engines.md). -/
def EGT_PORT_DROP (e : Nat) : Reg := ⟨0x8000014 + e * 0x100000, 0⟩
/-- Corrected errors per physical seat, saturating (17_engines.md). -/
def EGT_SEAT_CE (e i : Nat) : Reg := ⟨0x8000020 + e * 0x100000 + i * 0x4, 0⟩
/-- Context c of logical seat l (17_engines.md). -/
def EGT_CTX (e l c : Nat) : Reg := ⟨0x8000100 + e * 0x100000 + l * 0x20 + c * 0x4, 0⟩
/-- EGT_CTX.MCAUSE: mcause [7:0] of the last halt -/
def EGT_CTX_MCAUSE : Fld := ⟨31, 24⟩
/-- EGT_CTX.QUEUED: Wake-ups queued, 0–15; 15 means 15 or 16 -/
def EGT_CTX_QUEUED : Fld := ⟨7, 4⟩
/-- EGT_CTX.STATE: 0 unused, 1 ready, 2 running, 3 waiting, 4 halted, 5 refused; 6 and 7 never returned -/
def EGT_CTX_STATE : Fld := ⟨2, 0⟩

/-- Access rows (RW, W1C, W1S, RG, RC, WO masks) of chapter 17: Eights. -/
def regRowsEight : List RegRow :=
  [ ⟨"EGT_STATUS", 0x8000000, [(32, 0x100000)], (fun _ => 0), 0x0, 0x0, 0x0, 0x0, 0x0, 0x0⟩,
    ⟨"EGT_SEAT_MAP", 0x8000004, [(32, 0x100000)], (fun _ => 0x76543210), 0x0, 0x0, 0x0, 0xFFFFFFFF, 0x0, 0x0⟩,
    ⟨"EGT_SEAT_STATE", 0x8000008, [(32, 0x100000)], (fun _ => 0), 0x0, 0x0, 0x0, 0x0, 0x0, 0x0⟩,
    ⟨"EGT_WDOG", 0x800000C, [(32, 0x100000)], (fun _ => 0x2710), 0xFFFFFFFF, 0x0, 0x0, 0x0, 0x0, 0x0⟩,
    ⟨"EGT_EV_DENY", 0x8000010, [(32, 0x100000)], (fun _ => 0), 0x0, 0x0, 0x0, 0x0, 0xFFFFFFFF, 0x0⟩,
    ⟨"EGT_PORT_DROP", 0x8000014, [(32, 0x100000)], (fun _ => 0), 0x0, 0x0, 0x0, 0x0, 0xFFFFFFFF, 0x0⟩,
    ⟨"EGT_SEAT_CE", 0x8000020, [(32, 0x100000), (9, 0x4)], (fun _ => 0), 0x0, 0x0, 0x0, 0x0, 0xFFFFFFFF, 0x0⟩,
    ⟨"EGT_CTX", 0x8000100, [(32, 0x100000), (8, 0x20), (8, 0x4)], (fun _ => 0), 0x0, 0x0, 0x0, 0x0, 0x0, 0x0⟩ ]

/-! ## Registers of chapter 18: Landing and Ethernet -/

/-- [3:0] PROTO; [16:8] RATE code, rate ÷ 0.125 Gbit/s, 10–256; [20] EN (18_landing.md). -/
def LND_Q_CFG (q : Nat) : Reg := ⟨0x4000000 + q * 0x10000, quadCfgReset q⟩
/-- [2:0] STAGE 0–4 per R163, 5 STOPPED; [7:4] lanes locked; [11:8] transmit asleep per lane; [15:12] receive asleep per lane; [23:16] STOP_REASON per R32 (18_landing.md). -/
def LND_Q_STATUS (q : Nat) : Reg := ⟨0x4000004 + q * 0x10000, 0⟩
/-- ms, 1–60,000; 0 acts as 1 (18_landing.md). -/
def LND_Q_TRAIN_TMO (q : Nat) : Reg := ⟨0x4000008 + q * 0x10000, 0x1F4⟩
/-- Exits from ACTIVE, saturating (18_landing.md). -/
def LND_Q_DOWN_CNT (q : Nat) : Reg := ⟨0x400000C + q * 0x10000, 0⟩
/-- [15:0] vendor ID from OTP; [31:16] device ID (18_landing.md). -/
def LND_EP_ID : Reg := ⟨0x4001000, 0xC960000⟩
/-- [3:0] generation; [8:4] width; [9] L0s transmit; [10] L0s receive; [11] L1 (18_landing.md). -/
def LND_EP_LINK : Reg := ⟨0x4001004, 0⟩
/-- GDDR7 base [31:0]; bits below the BAR2 size read 0 (18_landing.md). -/
def LND_BAR2_BASE_LO : Reg := ⟨0x4001008, 0⟩
/-- Base [63:32] (18_landing.md). -/
def LND_BAR2_BASE_HI : Reg := ⟨0x400100C, 0⟩
/-- [31] VALID (W1C); [30] WRITE; [29:0] window offset [35:6] (18_landing.md). -/
def LND_BAR2_FAULT : Reg := ⟨0x4001010, 0⟩
/-- Faults, saturating (18_landing.md). -/
def LND_BAR2_FAULT_CNT : Reg := ⟨0x4001014, 0⟩
/-- Ring address; [5:0] read 0 (18_landing.md). -/
def LND_D_BASE_LO (k : Nat) : Reg := ⟨0x4002000 + k * 0x20, 0⟩
/-- Ring address; [5:0] read 0 (18_landing.md). -/
def LND_D_BASE_HI (k : Nat) : Reg := ⟨0x4002004 + k * 0x20, 0⟩
/-- [3:0] SIZE_LOG; [8] EN; [26:16] vector (18_landing.md). -/
def LND_D_CFG (k : Nat) : Reg := ⟨0x4002008 + k * 0x20, 0⟩
/-- [11:0] next descriptor (18_landing.md). -/
def LND_D_HEAD (k : Nat) : Reg := ⟨0x400200C + k * 0x20, 0⟩
/-- [11:0] one past the last submitted (18_landing.md). -/
def LND_D_TAIL (k : Nat) : Reg := ⟨0x4002010 + k * 0x20, 0⟩
/-- Descriptors completed, wrapping (18_landing.md). -/
def LND_D_DONE (k : Nat) : Reg := ⟨0x4002014 + k * 0x20, 0⟩
/-- [0] OVF; [1] ERR (18_landing.md). -/
def LND_D_STATUS (k : Nat) : Reg := ⟨0x4002018 + k * 0x20, 0⟩
/-- [0] EN; [11:8] AQ (18_landing.md). -/
def CLL_Q_CFG (q : Nat) : Reg := ⟨0x80000 + q * 0x40, 0⟩
/-- [7:0] tail (18_landing.md). -/
def CLL_Q_TAIL (q : Nat) : Reg := ⟨0x80004 + q * 0x40, 0⟩
/-- [7:0] head (18_landing.md). -/
def CLL_Q_HEAD (q : Nat) : Reg := ⟨0x80008 + q * 0x40, 0⟩
/-- [0] OVF; [1] BUSY, a Call in progress (18_landing.md). -/
def CLL_Q_STATUS (q : Nat) : Reg := ⟨0x8000C + q * 0x40, 0⟩
/-- Ring address [31:5]; [4:0] read 0 (18_landing.md). -/
def CLL_A_BASE_LO (a : Nat) : Reg := ⟨0x81000 + a * 0x40, 0⟩
/-- [63:32] (18_landing.md). -/
def CLL_A_BASE_HI (a : Nat) : Reg := ⟨0x81004 + a * 0x40, 0⟩
/-- [3:0] SIZE_LOG; [8] EN; [26:16] VEC (18_landing.md). -/
def CLL_A_CFG (a : Nat) : Reg := ⟨0x81008 + a * 0x40, 0⟩
/-- [11:0] entries taken by the host (18_landing.md). -/
def CLL_A_HEAD (a : Nat) : Reg := ⟨0x8100C + a * 0x40, 0⟩
/-- [11:0] next entry to write (18_landing.md). -/
def CLL_A_TAIL (a : Nat) : Reg := ⟨0x81010 + a * 0x40, 0⟩
/-- [0] FULL (18_landing.md). -/
def CLL_A_STATUS (a : Nat) : Reg := ⟨0x81014 + a * 0x40, 0⟩
/-- [1:0] MODE; [5:4] FEC 0 none, 1 BASE-R, 2 RS; [8] AN; [9] LPI_EN (18_landing.md). -/
def ETH_P_CFG (p : Nat) : Reg := ⟨0x4400000 + p * 0x10000, 0⟩
/-- [0] LINK_UP; [1] transmit LPI; [2] receive LPI; [15:8] STOP_REASON (18_landing.md). -/
def ETH_P_STATUS (p : Nat) : Reg := ⟨0x4400004 + p * 0x10000, 0⟩
/-- MAC bytes 0–3 (18_landing.md). -/
def ETH_P_MAC_LO (p : Nat) : Reg := ⟨0x4400008 + p * 0x10000, 0⟩
/-- [15:0] MAC bytes 4–5 (18_landing.md). -/
def ETH_P_MAC_HI (p : Nat) : Reg := ⟨0x440000C + p * 0x10000, 0⟩
/-- µs idle before LPI (18_landing.md). -/
def ETH_P_LPI_US (p : Nat) : Reg := ⟨0x4400010 + p * 0x10000, 0x64⟩
/-- Frames without buffer, saturating (18_landing.md). -/
def ETH_P_RX_DROP (p : Nat) : Reg := ⟨0x4400014 + p * 0x10000, 0⟩
/-- Frames over BUF, saturating (18_landing.md). -/
def ETH_P_RX_LONG (p : Nat) : Reg := ⟨0x4400018 + p * 0x10000, 0⟩
/-- Bad FCS, saturating (18_landing.md). -/
def ETH_P_FCS_ERR (p : Nat) : Reg := ⟨0x440001C + p * 0x10000, 0⟩
/-- Descriptor or buffer ring (18_landing.md). -/
def ETH_Q_BASE_LO (p i : Nat) : Reg := ⟨0x4400100 + p * 0x10000 + i * 0x40, 0⟩
/-- Descriptor or buffer ring (18_landing.md). -/
def ETH_Q_BASE_HI (p i : Nat) : Reg := ⟨0x4400104 + p * 0x10000 + i * 0x40, 0⟩
/-- Head write-back (transmit) or completion ring (receive) (18_landing.md). -/
def ETH_Q_WB_LO (p i : Nat) : Reg := ⟨0x4400108 + p * 0x10000 + i * 0x40, 0⟩
/-- Head write-back (transmit) or completion ring (receive) (18_landing.md). -/
def ETH_Q_WB_HI (p i : Nat) : Reg := ⟨0x440010C + p * 0x10000 + i * 0x40, 0⟩
/-- [3:0] SIZE_LOG (RW); [8] EN (RW); [13:10] BUF ÷ 1,024, 2–16 (RW); [31:16] OWNER (RG) (18_landing.md). -/
def ETH_Q_CFG (p i : Nat) : Reg := ⟨0x4400110 + p * 0x10000 + i * 0x40, 0⟩
/-- [11:0] (18_landing.md). -/
def ETH_Q_HEAD (p i : Nat) : Reg := ⟨0x4400114 + p * 0x10000 + i * 0x40, 0⟩
/-- [11:0] (18_landing.md). -/
def ETH_Q_TAIL (p i : Nat) : Reg := ⟨0x4400118 + p * 0x10000 + i * 0x40, 0⟩
/-- [0] EN; [4:1] match MAC, EtherType, IP, UDP; [9:8] action 0 queue, 1 RTP stream, 2 discard; [18:16] target (18_landing.md). -/
def ETH_F_CTRL (p j : Nat) : Reg := ⟨0x4401000 + p * 0x10000 + j * 0x20, 0⟩
/-- MAC (6), EtherType (2), IP (16; IPv4 in bytes 0–3), UDP port (2), 0 (2) (18_landing.md). -/
def ETH_F_KEY (p j i : Nat) : Reg := ⟨0x4401004 + p * 0x10000 + j * 0x20 + i * 0x4, 0⟩
/-- Signed 64-bit ns (R449) (18_landing.md). -/
def ETH_TAI_OFS_LO : Reg := ⟨0x4480000, 0⟩
/-- Signed 64-bit ns (R449) (18_landing.md). -/
def ETH_TAI_OFS_HI : Reg := ⟨0x4480004, 0⟩
/-- TB0 wraps (18_landing.md). -/
def ETH_TB0_WRAP : Reg := ⟨0x4480008, 0⟩
/-- [0] EN; [2:1] TYPE; [6:4] PORT_A; [10:8] PORT_B; [11] B_EN; [15:12] source kind; [20:16] source unit; [28:24] payload type − 96 (18_landing.md). -/
def ETH_S_CFG (s : Nat) : Reg := ⟨0x4600000 + s * 0x100, 0⟩
/-- [10:0] PKT_BYTES; [31:16] slot mask (TYPE 1) (18_landing.md). -/
def ETH_S_FMT (s : Nat) : Reg := ⟨0x4600004 + s * 0x100, 0⟩
/-- TRO, ns (18_landing.md). -/
def ETH_S_TRO (s : Nat) : Reg := ⟨0x4600008 + s * 0x100, 0⟩
/-- RTP SSRC (18_landing.md). -/
def ETH_S_SSRC (s : Nat) : Reg := ⟨0x460000C + s * 0x100, 0⟩
/-- Packets sent, wrapping (18_landing.md). -/
def ETH_S_PKTS (s : Nat) : Reg := ⟨0x4600010 + s * 0x100, 0⟩
/-- Repeated frames, saturating (18_landing.md). -/
def ETH_S_LATE (s : Nat) : Reg := ⟨0x4600014 + s * 0x100, 0⟩
/-- Packets dropped on a down path, saturating (18_landing.md). -/
def ETH_S_PATH_DROP (s : Nat) : Reg := ⟨0x4600018 + s * 0x100, 0⟩
/-- 48 bytes each: destination MAC 6, VLAN 2, destination IP 16, source IP 16, UDP ports 4, DSCP 1, TTL 1, 0 2 (18_landing.md). -/
def ETH_S_HDR_A (s i : Nat) : Reg := ⟨0x4600040 + s * 0x100 + i * 0x4, 0⟩
/-- 48 bytes each: destination MAC 6, VLAN 2, destination IP 16, source IP 16, UDP ports 4, DSCP 1, TTL 1, 0 2 (18_landing.md). -/
def ETH_S_HDR_B (s i : Nat) : Reg := ⟨0x4600070 + s * 0x100 + i * 0x4, 0⟩
/-- [0] EN; [6:4] PORT_A; [10:8] PORT_B; [11] B_EN; [13:12] DEC; [23:16] WINDOW, ms, 1–50 (18_landing.md). -/
def ETH_R_CFG (r : Nat) : Reg := ⟨0x4680000 + r * 0x100, 0⟩
/-- [0] path A alive; [1] path B alive (18_landing.md). -/
def ETH_R_STATUS (r : Nat) : Reg := ⟨0x4680004 + r * 0x100, 0⟩
/-- Missing packets, saturating (18_landing.md). -/
def ETH_R_GAP_CNT (r : Nat) : Reg := ⟨0x4680008 + r * 0x100, 0⟩
/-- Duplicates discarded, saturating (18_landing.md). -/
def ETH_R_DUP_CNT (r : Nat) : Reg := ⟨0x468000C + r * 0x100, 0⟩

/-- Access rows (RW, W1C, W1S, RG, RC, WO masks) of chapter 18: Landing and Ethernet. -/
def regRowsLanding0 : List RegRow :=
  [ ⟨"LND_Q_CFG", 0x4000000, [(40, 0x10000)], quadCfgReset, 0x0, 0x0, 0x0, 0x11FF0F, 0x0, 0x0⟩,
    ⟨"LND_Q_STATUS", 0x4000004, [(40, 0x10000)], (fun _ => 0), 0x0, 0x0, 0x0, 0x0, 0x0, 0x0⟩,
    ⟨"LND_Q_TRAIN_TMO", 0x4000008, [(40, 0x10000)], (fun _ => 0x1F4), 0xFFFFFFFF, 0x0, 0x0, 0x0, 0x0, 0x0⟩,
    ⟨"LND_Q_DOWN_CNT", 0x400000C, [(40, 0x10000)], (fun _ => 0), 0x0, 0x0, 0x0, 0x0, 0xFFFFFFFF, 0x0⟩,
    ⟨"LND_EP_ID", 0x4001000, [], (fun _ => 0xC960000), 0x0, 0x0, 0x0, 0x0, 0x0, 0x0⟩,
    ⟨"LND_EP_LINK", 0x4001004, [], (fun _ => 0), 0x0, 0x0, 0x0, 0x0, 0x0, 0x0⟩,
    ⟨"LND_BAR2_BASE_LO", 0x4001008, [], (fun _ => 0), 0xFFFFFFFF, 0x0, 0x0, 0x0, 0x0, 0x0⟩,
    ⟨"LND_BAR2_BASE_HI", 0x400100C, [], (fun _ => 0), 0xFFFFFFFF, 0x0, 0x0, 0x0, 0x0, 0x0⟩,
    ⟨"LND_BAR2_FAULT", 0x4001010, [], (fun _ => 0), 0x0, 0x80000000, 0x0, 0x0, 0x0, 0x0⟩,
    ⟨"LND_BAR2_FAULT_CNT", 0x4001014, [], (fun _ => 0), 0x0, 0x0, 0x0, 0x0, 0xFFFFFFFF, 0x0⟩,
    ⟨"LND_D_BASE_LO", 0x4002000, [(32, 0x20)], (fun _ => 0), 0xFFFFFFC0, 0x0, 0x0, 0x0, 0x0, 0x0⟩,
    ⟨"LND_D_BASE_HI", 0x4002004, [(32, 0x20)], (fun _ => 0), 0xFFFFFFFF, 0x0, 0x0, 0x0, 0x0, 0x0⟩,
    ⟨"LND_D_CFG", 0x4002008, [(32, 0x20)], (fun _ => 0), 0x7FF010F, 0x0, 0x0, 0x0, 0x0, 0x0⟩,
    ⟨"LND_D_HEAD", 0x400200C, [(32, 0x20)], (fun _ => 0), 0x0, 0x0, 0x0, 0x0, 0x0, 0x0⟩,
    ⟨"LND_D_TAIL", 0x4002010, [(32, 0x20)], (fun _ => 0), 0xFFF, 0x0, 0x0, 0x0, 0x0, 0x0⟩,
    ⟨"LND_D_DONE", 0x4002014, [(32, 0x20)], (fun _ => 0), 0x0, 0x0, 0x0, 0x0, 0x0, 0x0⟩,
    ⟨"LND_D_STATUS", 0x4002018, [(32, 0x20)], (fun _ => 0), 0x0, 0x3, 0x0, 0x0, 0x0, 0x0⟩,
    ⟨"CLL_Q_CFG", 0x80000, [(16, 0x40)], (fun _ => 0), 0xF01, 0x0, 0x0, 0x0, 0x0, 0x0⟩,
    ⟨"CLL_Q_TAIL", 0x80004, [(16, 0x40)], (fun _ => 0), 0xFF, 0x0, 0x0, 0x0, 0x0, 0x0⟩,
    ⟨"CLL_Q_HEAD", 0x80008, [(16, 0x40)], (fun _ => 0), 0x0, 0x0, 0x0, 0x0, 0x0, 0x0⟩,
    ⟨"CLL_Q_STATUS", 0x8000C, [(16, 0x40)], (fun _ => 0), 0x0, 0x1, 0x0, 0x0, 0x0, 0x0⟩,
    ⟨"CLL_A_BASE_LO", 0x81000, [(16, 0x40)], (fun _ => 0), 0xFFFFFFE0, 0x0, 0x0, 0x0, 0x0, 0x0⟩,
    ⟨"CLL_A_BASE_HI", 0x81004, [(16, 0x40)], (fun _ => 0), 0xFFFFFFFF, 0x0, 0x0, 0x0, 0x0, 0x0⟩,
    ⟨"CLL_A_CFG", 0x81008, [(16, 0x40)], (fun _ => 0), 0x7FF010F, 0x0, 0x0, 0x0, 0x0, 0x0⟩ ]
/-- Access rows (RW, W1C, W1S, RG, RC, WO masks) of chapter 18: Landing and Ethernet. -/
def regRowsLanding1 : List RegRow :=
  [ ⟨"CLL_A_HEAD", 0x8100C, [(16, 0x40)], (fun _ => 0), 0xFFF, 0x0, 0x0, 0x0, 0x0, 0x0⟩,
    ⟨"CLL_A_TAIL", 0x81010, [(16, 0x40)], (fun _ => 0), 0x0, 0x0, 0x0, 0x0, 0x0, 0x0⟩,
    ⟨"CLL_A_STATUS", 0x81014, [(16, 0x40)], (fun _ => 0), 0x0, 0x1, 0x0, 0x0, 0x0, 0x0⟩,
    ⟨"ETH_P_CFG", 0x4400000, [(8, 0x10000)], (fun _ => 0), 0x0, 0x0, 0x0, 0x333, 0x0, 0x0⟩,
    ⟨"ETH_P_STATUS", 0x4400004, [(8, 0x10000)], (fun _ => 0), 0x0, 0x0, 0x0, 0x0, 0x0, 0x0⟩,
    ⟨"ETH_P_MAC_LO", 0x4400008, [(8, 0x10000)], (fun _ => 0), 0xFFFFFFFF, 0x0, 0x0, 0x0, 0x0, 0x0⟩,
    ⟨"ETH_P_MAC_HI", 0x440000C, [(8, 0x10000)], (fun _ => 0), 0xFFFFFFFF, 0x0, 0x0, 0x0, 0x0, 0x0⟩,
    ⟨"ETH_P_LPI_US", 0x4400010, [(8, 0x10000)], (fun _ => 0x64), 0xFFFFFFFF, 0x0, 0x0, 0x0, 0x0, 0x0⟩,
    ⟨"ETH_P_RX_DROP", 0x4400014, [(8, 0x10000)], (fun _ => 0), 0x0, 0x0, 0x0, 0x0, 0xFFFFFFFF, 0x0⟩,
    ⟨"ETH_P_RX_LONG", 0x4400018, [(8, 0x10000)], (fun _ => 0), 0x0, 0x0, 0x0, 0x0, 0xFFFFFFFF, 0x0⟩,
    ⟨"ETH_P_FCS_ERR", 0x440001C, [(8, 0x10000)], (fun _ => 0), 0x0, 0x0, 0x0, 0x0, 0xFFFFFFFF, 0x0⟩,
    ⟨"ETH_Q_BASE_LO", 0x4400100, [(8, 0x10000), (8, 0x40)], (fun _ => 0), 0xFFFFFFFF, 0x0, 0x0, 0x0, 0x0, 0x0⟩,
    ⟨"ETH_Q_BASE_HI", 0x4400104, [(8, 0x10000), (8, 0x40)], (fun _ => 0), 0xFFFFFFFF, 0x0, 0x0, 0x0, 0x0, 0x0⟩,
    ⟨"ETH_Q_WB_LO", 0x4400108, [(8, 0x10000), (8, 0x40)], (fun _ => 0), 0xFFFFFFFF, 0x0, 0x0, 0x0, 0x0, 0x0⟩,
    ⟨"ETH_Q_WB_HI", 0x440010C, [(8, 0x10000), (8, 0x40)], (fun _ => 0), 0xFFFFFFFF, 0x0, 0x0, 0x0, 0x0, 0x0⟩,
    ⟨"ETH_Q_CFG", 0x4400110, [(8, 0x10000), (8, 0x40)], (fun _ => 0), 0x3D0F, 0x0, 0x0, 0xFFFF0000, 0x0, 0x0⟩,
    ⟨"ETH_Q_HEAD", 0x4400114, [(8, 0x10000), (8, 0x40)], (fun _ => 0), 0x0, 0x0, 0x0, 0x0, 0x0, 0x0⟩,
    ⟨"ETH_Q_TAIL", 0x4400118, [(8, 0x10000), (8, 0x40)], (fun _ => 0), 0xFFF, 0x0, 0x0, 0x0, 0x0, 0x0⟩,
    ⟨"ETH_F_CTRL", 0x4401000, [(8, 0x10000), (256, 0x20)], (fun _ => 0), 0x7031F, 0x0, 0x0, 0x0, 0x0, 0x0⟩,
    ⟨"ETH_F_KEY", 0x4401004, [(8, 0x10000), (256, 0x20), (7, 0x4)], (fun _ => 0), 0xFFFFFFFF, 0x0, 0x0, 0x0, 0x0, 0x0⟩,
    ⟨"ETH_TAI_OFS_LO", 0x4480000, [], (fun _ => 0), 0xFFFFFFFF, 0x0, 0x0, 0x0, 0x0, 0x0⟩,
    ⟨"ETH_TAI_OFS_HI", 0x4480004, [], (fun _ => 0), 0xFFFFFFFF, 0x0, 0x0, 0x0, 0x0, 0x0⟩,
    ⟨"ETH_TB0_WRAP", 0x4480008, [], (fun _ => 0), 0x0, 0x0, 0x0, 0x0, 0x0, 0x0⟩,
    ⟨"ETH_S_CFG", 0x4600000, [(32, 0x100)], (fun _ => 0), 0x0, 0x0, 0x0, 0x1F1FFF77, 0x0, 0x0⟩ ]
/-- Access rows (RW, W1C, W1S, RG, RC, WO masks) of chapter 18: Landing and Ethernet. -/
def regRowsLanding2 : List RegRow :=
  [ ⟨"ETH_S_FMT", 0x4600004, [(32, 0x100)], (fun _ => 0), 0x0, 0x0, 0x0, 0xFFFF07FF, 0x0, 0x0⟩,
    ⟨"ETH_S_TRO", 0x4600008, [(32, 0x100)], (fun _ => 0), 0x0, 0x0, 0x0, 0xFFFFFFFF, 0x0, 0x0⟩,
    ⟨"ETH_S_SSRC", 0x460000C, [(32, 0x100)], (fun _ => 0), 0x0, 0x0, 0x0, 0xFFFFFFFF, 0x0, 0x0⟩,
    ⟨"ETH_S_PKTS", 0x4600010, [(32, 0x100)], (fun _ => 0), 0x0, 0x0, 0x0, 0x0, 0x0, 0x0⟩,
    ⟨"ETH_S_LATE", 0x4600014, [(32, 0x100)], (fun _ => 0), 0x0, 0x0, 0x0, 0x0, 0xFFFFFFFF, 0x0⟩,
    ⟨"ETH_S_PATH_DROP", 0x4600018, [(32, 0x100)], (fun _ => 0), 0x0, 0x0, 0x0, 0x0, 0xFFFFFFFF, 0x0⟩,
    ⟨"ETH_S_HDR_A", 0x4600040, [(32, 0x100), (12, 0x4)], (fun _ => 0), 0x0, 0x0, 0x0, 0xFFFFFFFF, 0x0, 0x0⟩,
    ⟨"ETH_S_HDR_B", 0x4600070, [(32, 0x100), (12, 0x4)], (fun _ => 0), 0x0, 0x0, 0x0, 0xFFFFFFFF, 0x0, 0x0⟩,
    ⟨"ETH_R_CFG", 0x4680000, [(4, 0x100)], (fun _ => 0), 0x0, 0x0, 0x0, 0xFF3F71, 0x0, 0x0⟩,
    ⟨"ETH_R_STATUS", 0x4680004, [(4, 0x100)], (fun _ => 0), 0x0, 0x0, 0x0, 0x0, 0x0, 0x0⟩,
    ⟨"ETH_R_GAP_CNT", 0x4680008, [(4, 0x100)], (fun _ => 0), 0x0, 0x0, 0x0, 0x0, 0xFFFFFFFF, 0x0⟩,
    ⟨"ETH_R_DUP_CNT", 0x468000C, [(4, 0x100)], (fun _ => 0), 0x0, 0x0, 0x0, 0x0, 0xFFFFFFFF, 0x0⟩ ]
/-- All access rows of chapter 18: Landing and Ethernet. -/
def regRowsLanding : List RegRow := regRowsLanding0 ++ regRowsLanding1 ++ regRowsLanding2

/-! ## Registers of chapter 19: Vault -/

/-- Vault state (19_vault.md). -/
def VLT_STATUS : Reg := ⟨0x500000, 0⟩
/-- VLT_STATUS.LIFECYCLE: 0 BLANK, 1 PROVISIONED, 2 DEPLOYED, 3 ZEROISED -/
def VLT_STATUS_LIFECYCLE : Fld := ⟨7, 6⟩
/-- VLT_STATUS.RTC_VALID: 1: secure RTC set and valid -/
def VLT_STATUS_RTC_VALID : Fld := ⟨5, 5⟩
/-- VLT_STATUS.LOCKED_POLICY: 1: a policy with LOCK is in force -/
def VLT_STATUS_LOCKED_POLICY : Fld := ⟨4, 4⟩
/-- VLT_STATUS.MB_AUTH: 1: an authenticated session is open on the mailbox -/
def VLT_STATUS_MB_AUTH : Fld := ⟨3, 3⟩
/-- VLT_STATUS.BUSY: 1: a request is in progress -/
def VLT_STATUS_BUSY : Fld := ⟨2, 2⟩
/-- VLT_STATUS.HOLD: 1: Vault in Hold -/
def VLT_STATUS_HOLD : Fld := ⟨1, 1⟩
/-- VLT_STATUS.READY: 1: pre-operational tests passed -/
def VLT_STATUS_READY : Fld := ⟨0, 0⟩
/-- [4:0] cause bits of R469 (19_vault.md). -/
def VLT_HOLD_CAUSE : Reg := ⟨0x500004, 0⟩
/-- Latched tamper sources (19_vault.md). -/
def VLT_TAMPER : Reg := ⟨0x500008, 0⟩
/-- VLT_TAMPER.VBAT_LOW: VBAT fell below 1.4 V -/
def VLT_TAMPER_VBAT_LOW : Fld := ⟨7, 7⟩
/-- VLT_TAMPER.OSC: VBAT-domain oscillator fault -/
def VLT_TAMPER_OSC : Fld := ⟨6, 6⟩
/-- VLT_TAMPER.TEMP: VBAT-domain temperature out of range -/
def VLT_TAMPER_TEMP : Fld := ⟨5, 5⟩
/-- VLT_TAMPER.MESH: Mesh fault -/
def VLT_TAMPER_MESH : Fld := ⟨4, 4⟩
/-- VLT_TAMPER.IN: TAMP_IN0–3 asserted -/
def VLT_TAMPER_IN : Fld := ⟨3, 0⟩
/-- [10:0] Rig rollback minimum (19_vault.md). -/
def VLT_RB_RIG : Reg := ⟨0x50000C, 0⟩
/-- [10:0] calibration rollback minimum (19_vault.md). -/
def VLT_RB_CAL : Reg := ⟨0x500010, 0⟩
/-- [10:0] boot loader rollback minimum (19_vault.md). -/
def VLT_RB_FW : Reg := ⟨0x500014, 0⟩
/-- RTC UTC seconds [31:0]; a read latches VLT_RTC_HI (19_vault.md). -/
def VLT_RTC_LO : Reg := ⟨0x500018, 0⟩
/-- RTC seconds [63:32], as latched (19_vault.md). -/
def VLT_RTC_HI : Reg := ⟨0x50001C, 0⟩
/-- SERIAL, bytes 0–3 in SERIAL0 (19_vault.md). -/
def VLT_SERIAL (i : Nat) : Reg := ⟨0x500020 + i * 0x4, 0⟩
/-- Authentication failures, saturating (19_vault.md). -/
def VLT_AUTH_FAIL_CNT : Reg := ⟨0x500030, 0⟩
/-- Mailbox control (19_vault.md). -/
def VLT_MB_CTRL : Reg := ⟨0x500040, 0⟩
/-- VLT_MB_CTRL.CAUSE: FAILED cause of the last request -/
def VLT_MB_CTRL_CAUSE : Fld := ⟨23, 16⟩
/-- VLT_MB_CTRL.RSTATUS: Answer STATUS code of R442 for the last request -/
def VLT_MB_CTRL_RSTATUS : Fld := ⟨15, 8⟩
/-- VLT_MB_CTRL.SERVICE: Service code of R467, [5:0] -/
def VLT_MB_CTRL_SERVICE : Fld := ⟨7, 2⟩
/-- VLT_MB_CTRL.BUSY: 1: request in progress -/
def VLT_MB_CTRL_BUSY : Fld := ⟨1, 1⟩
/-- VLT_MB_CTRL.GO: Write 1 to submit; reads 0. Discarded while BUSY reads 1 -/
def VLT_MB_CTRL_GO : Fld := ⟨0, 0⟩
/-- [13:0] request bytes in the window, 0–16,384 (19_vault.md). -/
def VLT_MB_LEN : Reg := ⟨0x500044, 0⟩
/-- [13:0] response bytes in the window (19_vault.md). -/
def VLT_MB_RESP : Reg := ⟨0x500048, 0⟩
/-- 16 KiB request and response window (19_vault.md). -/
def VLT_MB_DATA (i : Nat) : Reg := ⟨0x508000 + i * 0x4, 0⟩

/-- Access rows (RW, W1C, W1S, RG, RC, WO masks) of chapter 19: Vault. -/
def regRowsVault : List RegRow :=
  [ ⟨"VLT_STATUS", 0x500000, [], (fun _ => 0), 0x0, 0x0, 0x0, 0x0, 0x0, 0x0⟩,
    ⟨"VLT_HOLD_CAUSE", 0x500004, [], (fun _ => 0), 0x0, 0x0, 0x0, 0x0, 0x0, 0x0⟩,
    ⟨"VLT_TAMPER", 0x500008, [], (fun _ => 0), 0x0, 0xFF, 0x0, 0x0, 0x0, 0x0⟩,
    ⟨"VLT_RB_RIG", 0x50000C, [], (fun _ => 0), 0x0, 0x0, 0x0, 0x0, 0x0, 0x0⟩,
    ⟨"VLT_RB_CAL", 0x500010, [], (fun _ => 0), 0x0, 0x0, 0x0, 0x0, 0x0, 0x0⟩,
    ⟨"VLT_RB_FW", 0x500014, [], (fun _ => 0), 0x0, 0x0, 0x0, 0x0, 0x0, 0x0⟩,
    ⟨"VLT_RTC_LO", 0x500018, [], (fun _ => 0), 0x0, 0x0, 0x0, 0x0, 0x0, 0x0⟩,
    ⟨"VLT_RTC_HI", 0x50001C, [], (fun _ => 0), 0x0, 0x0, 0x0, 0x0, 0x0, 0x0⟩,
    ⟨"VLT_SERIAL", 0x500020, [(4, 0x4)], (fun _ => 0), 0x0, 0x0, 0x0, 0x0, 0x0, 0x0⟩,
    ⟨"VLT_AUTH_FAIL_CNT", 0x500030, [], (fun _ => 0), 0x0, 0x0, 0x0, 0x0, 0xFFFFFFFF, 0x0⟩,
    ⟨"VLT_MB_CTRL", 0x500040, [], (fun _ => 0), 0xFC, 0x0, 0x1, 0x0, 0x0, 0x0⟩,
    ⟨"VLT_MB_LEN", 0x500044, [], (fun _ => 0), 0x3FFF, 0x0, 0x0, 0x0, 0x0, 0x0⟩,
    ⟨"VLT_MB_RESP", 0x500048, [], (fun _ => 0), 0x0, 0x0, 0x0, 0x0, 0x0, 0x0⟩,
    ⟨"VLT_MB_DATA", 0x508000, [(4096, 0x4)], (fun _ => 0), 0xFFFFFFFF, 0x0, 0x0, 0x0, 0x0, 0x0⟩ ]

/-! ## Registers of chapter 20: events and Logbook -/

/-- Vector, Coaches, Logbook (20_events_logbook.md). -/
def EVT_R_CFG (n : Nat) : Reg := ⟨0x300000 + n * 0x10, routeReset n⟩
/-- EVT_R_CFG.FLUSH: 1: flush after this event's record (R488) -/
def EVT_R_CFG_FLUSH : Fld := ⟨21, 21⟩
/-- EVT_R_CFG.LOG: 1: to the Logbook; fixed under R480 -/
def EVT_R_CFG_LOG : Fld := ⟨20, 20⟩
/-- EVT_R_CFG.COACH: Coaches interrupted, one bit each -/
def EVT_R_CFG_COACH : Fld := ⟨19, 12⟩
/-- EVT_R_CFG.MSI_EN: 1: deliver to VECTOR -/
def EVT_R_CFG_MSI_EN : Fld := ⟨11, 11⟩
/-- EVT_R_CFG.VECTOR: MSI-X vector 0–2,047 -/
def EVT_R_CFG_VECTOR : Fld := ⟨10, 0⟩
/-- Seat and slot (20_events_logbook.md). -/
def EVT_R_TGT (n : Nat) : Reg := ⟨0x300004 + n * 0x10, 0⟩
/-- EVT_R_TGT.STK_EN: 1: deliver to SLOT -/
def EVT_R_TGT_STK_EN : Fld := ⟨31, 31⟩
/-- EVT_R_TGT.SLOT: Stroke slot 0–511 -/
def EVT_R_TGT_SLOT : Fld := ⟨24, 16⟩
/-- EVT_R_TGT.WAKE_EN: 1: wake SEAT -/
def EVT_R_TGT_WAKE_EN : Fld := ⟨15, 15⟩
/-- EVT_R_TGT.SEAT: Seat index 9e + s, 0–287; above 287 acts as WAKE_EN 0 -/
def EVT_R_TGT_SEAT : Fld := ⟨8, 0⟩
/-- Occurrences, saturating (20_events_logbook.md). -/
def EVT_R_CNT (n : Nat) : Reg := ⟨0x300008 + n * 0x10, 0⟩
/-- VALUE of the last occurrence (20_events_logbook.md). -/
def EVT_R_LAST (n : Nat) : Reg := ⟨0x30000C + n * 0x10, 0⟩
/-- Bit n mod 32 of word floor(n ÷ 32): event n delivered to MSI-X (20_events_logbook.md). -/
def EVT_PEND (i : Nat) : Reg := ⟨0x304000 + i * 0x4, 0⟩
/-- Deliveries to unarmed slots, saturating (20_events_logbook.md). -/
def EVT_STK_DROP : Reg := ⟨0x304100, 0⟩
/-- Logbook state (20_events_logbook.md). -/
def LOG_STATUS : Reg := ⟨0x380000, 0⟩
/-- LOG_STATUS.INTAKE: FIFO entries, 0–256 -/
def LOG_STATUS_INTAKE : Fld := ⟨24, 16⟩
/-- LOG_STATUS.STAGED: Completed records awaiting the MRAM, 0–512 -/
def LOG_STATUS_STAGED : Fld := ⟨13, 4⟩
/-- LOG_STATUS.PFAIL: 1: PFAIL_N accepted, intake stopped -/
def LOG_STATUS_PFAIL : Fld := ⟨3, 3⟩
/-- LOG_STATUS.DROPPING: 1: a LOG_DROP(n) or LOG_NOTE_DROP is non-zero -/
def LOG_STATUS_DROPPING : Fld := ⟨2, 2⟩
/-- LOG_STATUS.KEEL_FULL: 1: keel area full (R484); kept across power cycles -/
def LOG_STATUS_KEEL_FULL : Fld := ⟨1, 1⟩
/-- LOG_STATUS.FLUSHING: 1: a flush is in progress -/
def LOG_STATUS_FLUSHING : Fld := ⟨0, 0⟩
/-- [0] FLUSH, reads 1 until done; [1] NOTE, queues a NOTE record as an occurrence, reads 0 (20_events_logbook.md). -/
def LOG_CTRL : Reg := ⟨0x380004, 0⟩
/-- VALUE of the next NOTE record (20_events_logbook.md). -/
def LOG_NOTE_VAL : Reg := ⟨0x380008, 0⟩
/-- SEQ of the next record [31:0]; a read latches LOG_SEQ_HI (20_events_logbook.md). -/
def LOG_SEQ_LO : Reg := ⟨0x38000C, 0⟩
/-- [63:32] as latched (20_events_logbook.md). -/
def LOG_SEQ_HI : Reg := ⟨0x380010, 0⟩
/-- OP_TIME [31:0]; a read latches LOG_OPTIME_HI (20_events_logbook.md). -/
def LOG_OPTIME_LO : Reg := ⟨0x380014, 0⟩
/-- [15:0] OP_TIME [47:32] as latched (20_events_logbook.md). -/
def LOG_OPTIME_HI : Reg := ⟨0x380018, 0⟩
/-- Power-cycle count (20_events_logbook.md). -/
def LOG_PCYCLES : Reg := ⟨0x38001C, 0⟩
/-- Occurrences dropped, saturating (20_events_logbook.md). -/
def LOG_DROP_CNT : Reg := ⟨0x380020, 0⟩
/-- [15:0] slot to read (20_events_logbook.md). -/
def LOG_RD_SLOT : Reg := ⟨0x380024, 0⟩
/-- [15:0] NOTEs dropped since the last OVERFLOW record (R486) (20_events_logbook.md). -/
def LOG_NOTE_DROP : Reg := ⟨0x380028, 0⟩
/-- Selected record (20_events_logbook.md). -/
def LOG_RD_DATA (i : Nat) : Reg := ⟨0x380100 + i * 0x4, 0⟩
/-- [15:0] drops of event n since the last OVERFLOW record (20_events_logbook.md). -/
def LOG_DROP (i : Nat) : Reg := ⟨0x381000 + i * 0x4, 0⟩

/-- Access rows (RW, W1C, W1S, RG, RC, WO masks) of chapter 20: events and Logbook. -/
def regRowsEvent : List RegRow :=
  [ ⟨"EVT_R_CFG", 0x300000, [(1024, 0x10)], routeReset, 0x3FFFFF, 0x0, 0x0, 0x0, 0x0, 0x0⟩,
    ⟨"EVT_R_TGT", 0x300004, [(1024, 0x10)], (fun _ => 0), 0x81FF81FF, 0x0, 0x0, 0x0, 0x0, 0x0⟩,
    ⟨"EVT_R_CNT", 0x300008, [(1024, 0x10)], (fun _ => 0), 0x0, 0x0, 0x0, 0x0, 0xFFFFFFFF, 0x0⟩,
    ⟨"EVT_R_LAST", 0x30000C, [(1024, 0x10)], (fun _ => 0), 0x0, 0x0, 0x0, 0x0, 0x0, 0x0⟩,
    ⟨"EVT_PEND", 0x304000, [(32, 0x4)], (fun _ => 0), 0x0, 0xFFFFFFFF, 0x0, 0x0, 0x0, 0x0⟩,
    ⟨"EVT_STK_DROP", 0x304100, [], (fun _ => 0), 0x0, 0x0, 0x0, 0x0, 0xFFFFFFFF, 0x0⟩,
    ⟨"LOG_STATUS", 0x380000, [], (fun _ => 0), 0x0, 0x0, 0x0, 0x0, 0x0, 0x0⟩,
    ⟨"LOG_CTRL", 0x380004, [], (fun _ => 0), 0x0, 0x0, 0x3, 0x0, 0x0, 0x0⟩,
    ⟨"LOG_NOTE_VAL", 0x380008, [], (fun _ => 0), 0xFFFFFFFF, 0x0, 0x0, 0x0, 0x0, 0x0⟩,
    ⟨"LOG_SEQ_LO", 0x38000C, [], (fun _ => 0), 0x0, 0x0, 0x0, 0x0, 0x0, 0x0⟩,
    ⟨"LOG_SEQ_HI", 0x380010, [], (fun _ => 0), 0x0, 0x0, 0x0, 0x0, 0x0, 0x0⟩,
    ⟨"LOG_OPTIME_LO", 0x380014, [], (fun _ => 0), 0x0, 0x0, 0x0, 0x0, 0x0, 0x0⟩,
    ⟨"LOG_OPTIME_HI", 0x380018, [], (fun _ => 0), 0x0, 0x0, 0x0, 0x0, 0x0, 0x0⟩,
    ⟨"LOG_PCYCLES", 0x38001C, [], (fun _ => 0), 0x0, 0x0, 0x0, 0x0, 0x0, 0x0⟩,
    ⟨"LOG_DROP_CNT", 0x380020, [], (fun _ => 0), 0x0, 0x0, 0x0, 0x0, 0xFFFFFFFF, 0x0⟩,
    ⟨"LOG_RD_SLOT", 0x380024, [], (fun _ => 0), 0xFFFF, 0x0, 0x0, 0x0, 0x0, 0x0⟩,
    ⟨"LOG_NOTE_DROP", 0x380028, [], (fun _ => 0), 0x0, 0x0, 0x0, 0x0, 0x0, 0x0⟩,
    ⟨"LOG_RD_DATA", 0x380100, [(32, 0x4)], (fun _ => 0), 0x0, 0x0, 0x0, 0x0, 0x0, 0x0⟩,
    ⟨"LOG_DROP", 0x381000, [(1024, 0x4)], (fun _ => 0), 0x0, 0x0, 0x0, 0x0, 0x0, 0x0⟩ ]

/-! ## Registers of chapter 21: health -/

/-- Level and safe state (21_health.md). -/
def HLT_STATUS : Reg := ⟨0x400000, 0⟩
/-- HLT_STATUS.SAFE: 1: chip safe state (R503) -/
def HLT_STATUS_SAFE : Fld := ⟨16, 16⟩
/-- HLT_STATUS.HOTTEST: Sensor giving Tj -/
def HLT_STATUS_HOTTEST : Fld := ⟨13, 8⟩
/-- HLT_STATUS.LEVEL: Per R497; 5–7 never returned -/
def HLT_STATUS_LEVEL : Fld := ⟨2, 0⟩
/-- Rounds completed, wrapping (21_health.md). -/
def HLT_ROUNDS : Reg := ⟨0x400004, 0⟩
/-- [7:0] COUNT, 0 acts as 1; [23:16] WINDOW, s, 0 acts as 1 (21_health.md). -/
def HLT_RESTART : Reg := ⟨0x400008, 0xA0003⟩
/-- [29:0] BCD hh:mm:ss:ff; [30] drop frame; [31] VALID (21_health.md). -/
def HLT_LTC_IN : Reg := ⟨0x40000C, 0⟩
/-- Clock stretches, saturating (21_health.md). -/
def HLT_VM_DROOP : Reg := ⟨0x400010, 0⟩
/-- One byte per ball group, BG4n in [7:0] up to BG4n+3 in [31:24]; µs (21_health.md). -/
def HLT_GPIO_FILT (i : Nat) : Reg := ⟨0x400020 + i * 0x4, 0⟩
/-- [15:0] effective, [31:16] raw, each s16 1/16 °C; 0x8000 none (21_health.md). -/
def HLT_TS_VAL (i : Nat) : Reg := ⟨0x400100 + i * 0x8, 0x80008000⟩
/-- Sensor state (21_health.md). -/
def HLT_TS_ST (i : Nat) : Reg := ⟨0x400104 + i * 0x8, tsClassReset i⟩
/-- HLT_TS_ST.GOOD: Consecutive good rounds while BROKEN, saturating at 489 -/
def HLT_TS_ST_GOOD : Fld := ⟨19, 8⟩
/-- HLT_TS_ST.CLASS: 0 cross-checked, 1 Vault, 2 clock and PLL, 3 GDDR7 PHY -/
def HLT_TS_ST_CLASS : Fld := ⟨4, 3⟩
/-- HLT_TS_ST.SUBSTITUTED: 1: effective reading is a neighbour median -/
def HLT_TS_ST_SUBSTITUTED : Fld := ⟨2, 2⟩
/-- HLT_TS_ST.BROKEN: 1: broken (R495) -/
def HLT_TS_ST_BROKEN : Fld := ⟨0, 0⟩
/-- [15:0] mV; [16] WARN; [17] FAULT; [31:18] reserved (21_health.md). -/
def HLT_VM (i : Nat) : Reg := ⟨0x400300 + i * 0x4, 0⟩
/-- [23:0] measured kHz; [31] FAULT; [30:24] reserved (21_health.md). -/
def HLT_CM (i : Nat) : Reg := ⟨0x400400 + i * 0x4, 0⟩

/-- Access rows (RW, W1C, W1S, RG, RC, WO masks) of chapter 21: health. -/
def regRowsHealth : List RegRow :=
  [ ⟨"HLT_STATUS", 0x400000, [], (fun _ => 0), 0x0, 0x0, 0x0, 0x0, 0x0, 0x0⟩,
    ⟨"HLT_ROUNDS", 0x400004, [], (fun _ => 0), 0x0, 0x0, 0x0, 0x0, 0x0, 0x0⟩,
    ⟨"HLT_RESTART", 0x400008, [], (fun _ => 0xA0003), 0xFF00FF, 0x0, 0x0, 0x0, 0x0, 0x0⟩,
    ⟨"HLT_LTC_IN", 0x40000C, [], (fun _ => 0), 0x0, 0x0, 0x0, 0x0, 0x0, 0x0⟩,
    ⟨"HLT_VM_DROOP", 0x400010, [], (fun _ => 0), 0x0, 0x0, 0x0, 0x0, 0xFFFFFFFF, 0x0⟩,
    ⟨"HLT_GPIO_FILT", 0x400020, [(4, 0x4)], (fun _ => 0), 0xFFFFFFFF, 0x0, 0x0, 0x0, 0x0, 0x0⟩,
    ⟨"HLT_TS_VAL", 0x400100, [(48, 0x8)], (fun _ => 0x80008000), 0x0, 0x0, 0x0, 0x0, 0x0, 0x0⟩,
    ⟨"HLT_TS_ST", 0x400104, [(48, 0x8)], tsClassReset, 0x0, 0x0, 0x0, 0x0, 0x0, 0x0⟩,
    ⟨"HLT_VM", 0x400300, [(64, 0x4)], (fun _ => 0), 0x0, 0x0, 0x0, 0x0, 0x0, 0x0⟩,
    ⟨"HLT_CM", 0x400400, [(16, 0x4)], (fun _ => 0), 0x0, 0x0, 0x0, 0x0, 0x0, 0x0⟩ ]

end Sys2Proof.Machine
end

