-- ==== Sys2Proof/Machine/BlockId.lean ====
section
/-! DEFINITION. BLOCK_IDs (R47), regions (R15), the owner of each BAR0 span (R38), and the block that a span belongs to (R49, R523, R522). -/

namespace Sys2Proof.Machine

/-- Block type of a BLOCK_ID, its upper byte (R47). -/
def bidType (b : Nat) : Nat := b / 256 % 256
/-- Unit number of a BLOCK_ID, its lower byte (R47). -/
def bidUnit (b : Nat) : Nat := b % 256

/-- How many units each block type has (R47); 0 for a type that is never valid. -/
def bidCount : Nat → Nat
  | 0x01 => 32 | 0x02 => 8 | 0x03 => 8 | 0x04 => 2 | 0x05 => 8 | 0x06 => 4 | 0x07 => 4 | 0x08 => 4
  | 0x09 => 1 | 0x0A => 1 | 0x0B => 40 | 0x0C => 8 | 0x0D => 16 | 0x0E => 7 | 0x0F => 8
  | _ => 0

/-- The BLOCK_ID names a block (R47). -/
def bidValid (b : Nat) : Bool := decide (b < 0x10000) && decide (bidUnit b < bidCount (bidType b))

/-- The BLOCK_ID is a chip function (R16, R47). -/
def bidChip (b : Nat) : Bool := bidType b == 0x0E

/-- Regions, indexed as in BOH_REGION_STATE (R52): 0 Catch, 1 Drive, 2 Finish, 3 Boathouse, 4 Landing. 5 stands for a chip function. -/
def bidRegion (b : Nat) : Nat :=
  match bidType b with
  | 0x01 => if bidUnit b < 8 then 0 else if bidUnit b < 20 then 1 else if bidUnit b < 28 then 2 else 3
  | 0x02 | 0x03 => 0
  | 0x04 | 0x05 | 0x06 | 0x07 => 1
  | 0x08 | 0x09 | 0x0A => 2
  | 0x0B | 0x0C | 0x0D => 4
  | 0x0F => 3
  | _ => 5

/-- The BLOCK_IDs of one type. -/
def bidsOfType (t : Nat) : List Nat := (List.range (bidCount t)).map (fun i => t * 256 + i)

/-- Every block that is not a chip function, in ascending BLOCK_ID. -/
def allBlocks : List Nat :=
  [0x01, 0x02, 0x03, 0x04, 0x05, 0x06, 0x07, 0x08, 0x09, 0x0A, 0x0B, 0x0C, 0x0D, 0x0F].flatMap bidsOfType

/-- The blocks of a region (R15, R47). Q0 and Q1 carry the endpoint, which is a chip function (R17). -/
def regionBlocks (r : Nat) : List Nat :=
  allBlocks.filter (fun b => bidRegion b == r && b != 0x0B00 && b != 0x0B01)

/-- The field of BOH_REGION_STATE that holds a region's state (R41). -/
def regionFld (r : Nat) : Fld := ⟨4 * r + 3, 4 * r⟩

/-- Who owns a BAR0 offset (R38): nobody, the chip, or a region 0 to 4. The endpoint registers in Q0's span are chip-owned (R17). -/
inductive SpanOwner where
  | none | chip | region (r : Nat)
deriving DecidableEq, Repr

/-- The owner of an offset under R38. -/
def spanOwner (o : Nat) : SpanOwner :=
  if o < 0x0040_0000 then .chip
  else if o < 0x0050_0000 then .chip
  else if o < 0x0051_0000 then .chip
  else if o < 0x0100_0000 then .none
  else if o < 0x0108_0000 then .region 0
  else if o < 0x0120_0000 then .none
  else if o < 0x0140_0000 then .region 0
  else if o < 0x0200_0000 then .none
  else if o < 0x0244_0000 then .region 1
  else if o < 0x0260_0000 then .none
  else if o < 0x0264_0000 then .region 1
  else if o < 0x0300_0000 then .none
  else if o < 0x03C0_0000 then .region 2
  else if o < 0x0400_0000 then .none
  else if 0x0400_1000 ≤ o && o < 0x0401_0000 then .chip
  else if o < 0x0428_0000 then .region 4
  else if o < 0x0440_0000 then .none
  else if o < 0x04D0_0000 then .region 4
  else if o < 0x0500_0000 then .none
  else if o < 0x0510_0000 then .chip
  else if o < 0x0800_0000 then .none
  else if o < 0x0A00_0000 then .region (bidRegion (0x0100 + (o - 0x0800_0000) / 0x10_0000))
  else .none

/-- The map rows of the chapter whose registers lie at an offset. -/
def rowsAt (o : Nat) : List RegRow :=
  if o < 0x0008_0000 then regRowsBoat
  else if o < 0x0010_0000 then regRowsLanding
  else if o < 0x0020_0000 then regRowsBoat
  else if o < 0x0030_0000 then regRowsTime
  else if o < 0x0040_0000 then regRowsEvent
  else if o < 0x0050_0000 then regRowsHealth
  else if o < 0x0100_0000 then regRowsVault
  else if o < 0x0120_0000 then regRowsSensor
  else if o < 0x0200_0000 then regRowsCatch
  else if o < 0x0240_0000 then regRowsColour
  else if o < 0x0260_0000 then regRowsCompose
  else if o < 0x0300_0000 then regRowsScan
  else if o < 0x0340_0000 then regRowsEncode
  else if o < 0x0380_0000 then regRowsZrx
  else if o < 0x0400_0000 then regRowsDecode
  else if o < 0x0470_0000 then regRowsLanding
  else if o < 0x0480_0000 then regRowsTime
  else if o < 0x04C0_0000 then regRowsRecord
  else if o < 0x0500_0000 then regRowsAudio
  else if o < 0x0800_0000 then regRowsBoat
  else regRowsEight

/-- The innermost array index at which a row's dimensions meet a distance from its base. -/
def rowIndex : List (Nat × Nat) → Nat → Nat → Option Nat
  | [], d, last => if d = 0 then some last else none
  | (c, st) :: ds, d, _ => if d / st < c then rowIndex ds (d % st) (d / st) else none

/-- The row of a mapped register and its innermost index. -/
def findRow (o : Nat) : List RegRow → Option (RegRow × Nat)
  | [] => none
  | r :: rs =>
    if r.base ≤ o then
      match rowIndex r.dims (o - r.base) 0 with
      | some i => some (r, i)
      | none => findRow o rs
    else findRow o rs

/-- The register that stands at an offset, if one is defined there (R38). -/
def regRowAt (o : Nat) : Option (RegRow × Nat) := if spanOwner o = .none then none else findRow o (rowsAt o)

/-- The register at an offset, as the accessors take it. -/
def regAt (o : Nat) : Option Reg := (regRowAt o).map (fun p => ⟨o, p.1.reset p.2⟩)

/-- The block whose CONFIG section may set an offset (R49, R523, R522), where the offset alone tells it. -/
def spanBlock (o : Nat) : Option Nat :=
  if o < 0x0008_0000 then some 0x0E00
  else if o < 0x0010_0000 then none
  else if o < 0x0020_0000 then some 0x0E01
  else if o < 0x0030_0000 then some 0x0E02
  else if o < 0x0038_0000 then some 0x0E03
  else if o < 0x0040_0000 then some 0x0E04
  else if o < 0x0050_0000 then some 0x0E05
  else if o < 0x0051_0000 then some 0x0E06
  else if 0x0100_0000 ≤ o && o < 0x0108_0000 then some (0x0200 + (o - 0x0100_0000) / 0x1_0000)
  else if 0x0200_0000 ≤ o && o < 0x0210_0000 then some (0x0400 + (o - 0x0200_0000) / 0x8_0000)
  else if 0x0210_0000 ≤ o && o < 0x0218_0000 then some (0x0500 + (o - 0x0210_0000) / 0x1_0000)
  else if 0x0240_0000 ≤ o && o < 0x0244_0000 then some (0x0600 + (o - 0x0240_0000) / 0x1_0000)
  else if 0x0260_0000 ≤ o && o < 0x0264_0000 then some (0x0700 + (o - 0x0260_0000) / 0x1_0000)
  else if 0x0300_0000 ≤ o && o < 0x0340_0000 then some (0x0800 + (o - 0x0300_0000) / 0x10_0000)
  else if 0x0340_0000 ≤ o && o < 0x0380_0000 then some 0x0A00
  else if 0x0380_0000 ≤ o && o < 0x03C0_0000 then some 0x0900
  else if 0x0400_0000 ≤ o && o < 0x0428_0000 then some (0x0B00 + (o - 0x0400_0000) / 0x1_0000)
  else if 0x0440_0000 ≤ o && o < 0x0490_0000 then some 0x0E01
  else if 0x0490_0000 ≤ o && o < 0x0490_8000 then some (0x0C00 + (o - 0x0490_0000) / 0x1000)
  else if 0x04C0_0000 ≤ o && o < 0x04C0_8000 then some 0x0E01
  else if 0x04C0_8000 ≤ o && o < 0x04C8_8000 then some (0x0D00 + (o - 0x04C0_8000) / 0x8000)
  else if 0x0500_0000 ≤ o && o < 0x0510_0000 then some 0x0E00
  else if 0x0800_0000 ≤ o && o < 0x0A00_0000 then some (0x0100 + (o - 0x0800_0000) / 0x10_0000)
  else none

end Sys2Proof.Machine
end

