-- ==== Sys2Proof/Machine/StAudio.lean ====
section
/-! DEFINITION. State of the audio ports beyond their registers (R397 to R409). -/

namespace Sys2Proof.Machine

/-- The gain of a slot (R405): rising or falling, the step reached, and the steps of the ramp; at the last step it stays at 1 or at 0. -/
structure Ramp where
  up : Bool := false
  k : Nat := 0
  n : Nat := 0
deriving DecidableEq, Repr

/-- Channel status of a slot (R409): the place in its 192-frame block, the non-audio bit of the block in progress, and that of the last whole block. -/
structure ChanStat where
  pos : Nat := 192
  cur : Bool := false
  last : Bool := false
deriving DecidableEq, Repr

/-- Non-audio state of a slot pair (R409), with the frames since the last preamble. -/
structure NaPair where
  on : Bool := false
  since : Nat := 0
deriving DecidableEq, Repr

/-- A block of a direction (R401, R403): number, stamp, mask at frame 0, FLAGS, and its frames of slot words. -/
structure AudBlock where
  num : Nat := 0
  ns : Word := 0
  frac : Nat := 0
  mask : Nat := 0
  flags : Nat := 0
  frames : List (List Word) := []
deriving DecidableEq, Repr

/-- One direction of a port: moving or idle; its stop ramp runs; the mask in force and a write that awaits its frame with the tick it came in (R408);
slot gains; the block in progress, and received blocks not yet written to the ring (R404); pairs and channel status (R409). -/
structure AudDir where
  active : Bool := false
  stopping : Bool := false
  mask : Nat := 0
  pend : Option (Nat × Nat) := none
  ramps : Table Ramp := []
  blk : AudBlock := {}
  wait : List AudBlock := []
  pairs : Table NaPair := []
  cs : Table ChanStat := []
deriving DecidableEq, Repr

/-- One port: whether its trigger came (R406); frame and block in progress; the tick of its last frame sync; TB0 at the last frame syncs of a slave,
newest first (R400); frames in range in a row and the tick at which the port was LOST; whether the next block is the first after it; and its directions. -/
structure AudPort where
  trig : Bool := false
  frame : Nat := 0
  block : Nat := 0
  last : Nat := 0
  times : List Nat := []
  good : Nat := 0
  lostAt : Nat := 0
  disc : Bool := false
  rx : AudDir := {}
  tx : AudDir := {}
deriving DecidableEq, Repr

end Sys2Proof.Machine
end

