-- ==== Sys2Proof/Machine/StDrive.lean ====
section
/-! DEFINITION. State of the colour pipes and look paths beyond their registers (R216 to R246). -/

namespace Sys2Proof.Machine

/-- The user colour values of a head (R230): UMAT, WB, ILLUM, RHO_MAX, and the two illuminant tables keyed by 64 × selection + bin. -/
structure DrvUser where
  umat : List Word := [0x3F800000, 0, 0, 0, 0x3F800000, 0, 0, 0, 0x3F800000]
  wb : List Word := [0x3F800000, 0x3F800000, 0x3F800000]
  illum : Nat := 0x11
  rho : Word := 0x40000000
  ill : Table Word := []
deriving DecidableEq, Repr

/-- What is precomputed for a head (R232, R234): M or L, σ_w, α, Q, P, R0, and whether an illuminant is invalid or spectral data are missing. -/
structure DrvPre where
  emat : List Word := []
  sigma : Word := 0
  alpha : Word := 0
  q : List Word := []
  p : List Word := []
  r0 : List Word := []
  illBad : Bool := false
  specMissing : Bool := false
deriving DecidableEq, Repr

/-- One head in Drive. `fact` holds the colour store keyed by 1,024 × CTYPE + entry; `copied` the copy of a GO that is computed or awaits Frame
Start; `next` the next output line; the counts are those of the frame in progress. -/
structure DrvH where
  fact : Table Word := []
  factHas : List Nat := []
  calDue : Bool := false
  illShadow : Table Word := []
  cur : DrvUser := {}
  pre : DrvPre := {}
  copied : Option DrvUser := none
  ready : Bool := false
  open_ : Bool := false
  next : Nat := 0
  clampCnt : Nat := 0
  fallCnt : Nat := 0
deriving DecidableEq, Repr

/-- One bank of a look path (R243): shaper and post tables keyed by 4,096 × channel + entry, LUT entries as R + 2^16 G + 2^32 B. -/
structure LkpTables where
  shaper : Table Nat := []
  lut : Table Nat := []
  post : Table Word := []
deriving DecidableEq, Repr

/-- The RW parameters of a look path's active bank. -/
structure LkpParams where
  exposure : Word := 0x3F800000
  linScale : Word := 0x3F800000
  pqNits : Word := 0x42C80000
  mat : List Word := [0x3F800000, 0, 0, 0, 0x3F800000, 0, 0, 0, 0x3F800000]
  ofs : List Word := [0, 0, 0]
deriving DecidableEq, Repr

/-- A line of a look feed: FP32 R′G′B′ per pixel and its flags (R227, R242). -/
structure FeedLine where
  line : Nat
  rgb : List (Word × Word × Word)
  flags : List Nat
deriving DecidableEq, Repr

/-- A frame write in progress or awaiting its trailer (R246). -/
structure LkpWrite where
  buf : Nat
  info : FrameInfo := {}
  gen : Word := 0
  drvGen : Word := 0
deriving DecidableEq, Repr

/-- One look path: its active bank, the tables of the incoming bank, the bank copy in progress, the feed of the current frame, and its writes. -/
structure Lkp where
  active : LkpParams := {}
  tabs : LkpTables := {}
  incoming : LkpTables := {}
  copying : Bool := false
  feed : List FeedLine := []
  feedSeq : Word := 0
  buf : Option Nat := none
  start : Word := 0
  written : List LkpWrite := []
  next : Nat := 0
deriving DecidableEq, Repr

end Sys2Proof.Machine
end

