-- ==== Sys2Proof/Machine/StCompose.lean ====
section
/-! DEFINITION. State of the compositors and scan-out heads beyond their registers (R248 to R295). -/

namespace Sys2Proof.Machine

/-- One layer's configuration: the words of its RW registers (R263). -/
structure LayerCfg where
  cfg : Word := 0
  cropXY : Word := 0
  cropWH : Word := 0
  dstXY : Word := 0
  dstWH : Word := 0
  alpha : Word := 0xFFFF
  addrLo : Word := 0
  addrHi : Word := 0
  pitch : Word := 0
  bufSize : Word := 0
  ring : Word := 0
deriving DecidableEq, Repr

/-- A composed sample: R′, G′, B′ and, in a layer, A. -/
structure Rgba where
  r : Word
  g : Word
  b : Word
  a : Word
deriving DecidableEq, Repr

/-- A layer: its active configuration; the buffers posted since the last take, oldest first; the buffer it took last; frames since the apply (R266);
whether it took one since the previous expected frame start; whether it is omitted in this frame; its previous output line of the frame (R268); and
whether events 418 and 419 were raised for the frame. -/
structure CmpLayer where
  act : LayerCfg := {}
  posted : List Nat := []
  taken : Option Nat := none
  since : Nat := 0
  took : Bool := false
  gone : Bool := false
  prev : Option (List (Nat × Rgba)) := none
  lateEv : Bool := false
  underEv : Bool := false
deriving DecidableEq, Repr

/-- A buoy as its registers stood at the last frame start (R271, R272), and whether it is still to be compared in the frame. -/
structure Buoy where
  cfg : Word := 0xF00
  xy : Word := 0
  wh : Word := 0
  expect : Word := 0
  colour : Word := 0
  due : Bool := false
deriving DecidableEq, Repr

/-- A painted rectangle of the frame (R273): x, y, w, h and FS_COLOUR. -/
structure Paint where
  x : Nat
  y : Nat
  w : Nat
  h : Nat
  colour : Word
deriving DecidableEq, Repr

/-- A write-back frame that awaits its trailer (R270). -/
structure WbWrite where
  buf : Nat
  info : FrameInfo
  head : Nat
deriving DecidableEq, Repr

/-- One compositor: layers, buoys, whether a frame is open, its composed lines before painting, the frame's painting, its start time, whether it is
INCOMPLETE, the write-back buffer chosen, the next one, those that await their trailer, and whether anything changed since the last frame end for
R291. -/
structure Cmp where
  layers : Table CmpLayer := []
  buoys : Table Buoy := []
  open_ : Bool := false
  lines : List (List Rgba) := []
  paint : List Paint := []
  start : Word := 0
  bad : Bool := false
  wb : Option Nat := none
  wbNext : Nat := 0
  wbDone : List WbWrite := []
  chg : Bool := false
deriving DecidableEq, Repr

/-- The timing group in force (R277): SCN_HACT, HBLK, VACT, VBLK, PLL_DIV, PLL_FRAC, FMT. -/
structure ScnTiming where
  hact : Word := 0
  hblk : Word := 0
  vact : Word := 0
  vblk : Word := 0
  div : Word := 0
  frac : Word := 0
  fmt : Word := 0
deriving DecidableEq, Repr

/-- Audio that a head embeds (R288): the sample frames in its buffer, whether it has reached its target fill, the part of a sample frame that is owed,
and the last frame of PORT_B. -/
structure ScnAud where
  fifo : List (List Word) := []
  on : Bool := false
  owed : Rat := 0
  b : List Word := []
deriving DecidableEq, Repr

/-- One scan-out head: the timing in force; the next line of the frame and whether a frame is open; the component codes of its lines so far; a START
or SOFT_STOP asked for; a stop due when HOLD ends; whether the head entered HOLD while STOPPED (R282); deliveries in a row with a small error (R284);
whether it waits for a delivery to start a frame; the wake check's reference, run and the frames still not checked; whether this frame is checked;
idle frames for R291; whether the sink reports PSR; the sideband access in progress; the timecode latched for the frame; the audio it embeds; and the codes of a frame that is to be
repeated at the next frame start, and of one that is being repeated (R123). -/
structure Scn where
  tim : ScnTiming := {}
  open_ : Bool := false
  line : Nat := 0
  codes : List (List (List Nat)) := []
  startReq : Bool := false
  stopReq : Bool := false
  stopAfter : Bool := false
  black : Bool := false
  lockRun : Nat := 0
  waitSlot : Bool := false
  ref : Option Word := none
  skip : Nat := 0
  fresh : Bool := false
  checked : Bool := false
  idle : Nat := 0
  psrSink : Bool := false
  tc : Word := 0
  trained : Bool := false
  audio : ScnAud := {}
  again : List (List (List Nat)) := []
  shown : List (List (List Nat)) := []
deriving DecidableEq, Repr

end Sys2Proof.Machine
end

