-- ==== Sys2Proof/Machine/StLanding.lean ====
section
/-! DEFINITION. State of the quads, the PCIe endpoint and Ethernet beyond their registers (R430 to R453). -/

namespace Sys2Proof.Machine

/-- A send stream (R450): the newest buffer posted and not yet sent, the buffer of the frame being sent or sent last, the RTP timestamp of the frame,
its next packet, whether packets of it are left, the 32-bit sequence number, the audio sample after the last one sent (none before the first), and
in a record the NAL unit and the bytes of it sent. -/
structure EthSend where
  posted : Option (Nat × Nat) := none
  cur : Option (Nat × Nat) := none
  ts : Word := 0
  idx : Nat := 0
  sending : Bool := false
  seq : Nat := 0
  sample : Option Nat := none
  nal : Nat := 0
  sent : Nat := 0
deriving DecidableEq, Repr

/-- An RTP packet held for reordering (R452). -/
structure RtpPkt where
  seq : Nat
  ts : Word
  marker : Bool
  payload : List Byte
deriving DecidableEq, Repr

/-- A receive stream (R452): the sequence number expected next (none before the first packet), packets held out of order, the access unit being
collected with its timestamp, whether a packet of it is missing, the bytes of a fragmented NAL unit, and whether an IRAP NAL unit is in it. -/
structure EthRecv where
  next : Option Nat := none
  held : List RtpPkt := []
  unit : List Byte := []
  ts : Word := 0
  opened : Bool := false
  bad : Bool := false
  frag : Option (List Byte) := none
  irap : Bool := false
deriving DecidableEq, Repr

/-- Landing: quads that wait 100 ms after a training failure (R432); the base-2 logarithm of the BAR2 size (R435); send and receive streams; and the
PHASE of each receive queue's completion ring, by 8 × port + queue (R448). -/
structure LandSt where
  waiting : List Nat := []
  bar2Log : Nat := 28
  send : Table EthSend := []
  recv : Table EthRecv := []
  phase : Table Bool := []
deriving DecidableEq, Repr

end Sys2Proof.Machine
end

