-- ==== Sys2Proof/Machine/StRaw.lean ====
section
/-! DEFINITION. State of the ZRX sessions and CMX beyond their registers (R328 to R352). -/

namespace Sys2Proof.Machine

/-- A ZRX frame in progress: raw buffer and whether a frame was skipped before it; where it starts in the ring; the next tile, phase, bytes B, index
entries so far, header flags, first tiles of phase 2 and FLAT, whether the window closed, and bytes and count of its phase-2 tiles. -/
structure ZrxFrame where
  buf : Nat
  start : Nat
  tile : Nat := 0
  phase : Nat := 1
  bytes : Nat := 0
  index : List (Nat × Nat) := []
  flags : Nat := 0
  firstNear : Option Nat := none
  firstFlat : Option Nat := none
  closed : Bool := false
  p2Bytes : Nat := 0
  p2Tiles : Nat := 0
deriving DecidableEq, Repr

/-- One ZRX session: taken buffers oldest first, each with whether a frame was skipped before it; the frame in progress; whether a frame was skipped
since; open deliveries that await their frame start; and Fq. -/
structure ZrxS where
  queue : List (Nat × Bool) := []
  cur : Option ZrxFrame := none
  skipped : Bool := false
  go : Nat := 0
  fq : Nat := 48
deriving DecidableEq, Repr

end Sys2Proof.Machine
end

