-- ==== Sys2Proof/Machine/StSensor.lean ====
section
/-! DEFINITION. State of the sensor ports beyond their registers (R153 to R182): per lane, per head, per port and per stakeboat group. -/

namespace Sys2Proof.Machine

/-- A lane (R156, R162): consecutive valid sync headers, up to 64, and how many headers ago each recent invalid one came. -/
structure ZlLane where
  run : Nat := 0
  bad : List Nat := []
deriving DecidableEq, Repr

/-- What becomes of the line being received: it is in its frame, or discarded, or discarded as late at its Line End (R171). -/
inductive LineMode where
  | taken | dropped | late
deriving DecidableEq, Repr

/-- The line being received (R159): readout, number, the payload bytes of its blocks so far, and in Legacy mode the words of each lane (R180). -/
structure OpenLine where
  mode : LineMode := .dropped
  readout : Nat := 0
  line : Nat := 0
  payload : List Byte := []
  words : Table (List Nat) := []
deriving DecidableEq, Repr

/-- An open frame of a head: its readouts, the next expected line of each readout (R172), and the last four lines of each readout newest first as
code values (R174). `headless` marks a group frame without a Frame Start (R177). -/
structure OpenFrame where
  info : FrameInfo := {}
  readouts : Nat := 1
  next : Table Nat := []
  hist : Table (List (List Nat)) := []
  headless : Bool := false
deriving DecidableEq, Repr

/-- Where the CX96's own EXCHANGE stands (R163, R166): reading ZL_MODES, word 0 to 3 of the mode entry, ZL_ID, then writing ZL_MODE_SEL and
ZL_RUN. -/
inductive ExStep where
  | idle | modes | word (k : Nat) | zlId | modeSel | run
deriving DecidableEq, Repr

/-- Who sent a command on a command lane. -/
inductive CmdBy where
  | software | exchange | script
deriving DecidableEq, Repr

/-- The command outstanding on a head's command lane (R168): direction, tag, address, data, attempts made, and who sent it. -/
structure CmdReq where
  write : Bool
  tag : Nat
  addr : Word
  data : Word
  tries : Nat
  by_ : CmdBy
deriving DecidableEq, Repr

/-- One head. `reject` marks that a Frame Start was refused and what follows belongs to no frame (R171); `closed` is the number of the frame last
closed, while no later Frame Start has been accepted; `last` that of the last accepted Frame Start; `offsets` those of the last Align stripe;
`ex` where EXCHANGE stands and `words` what it has read; `due` a group frame that still awaits this member. -/
structure SptH where
  frame : Option OpenFrame := none
  line : Option OpenLine := none
  reject : Bool := false
  closed : Option Nat := none
  last : Option Nat := none
  offsets : List Nat := []
  ex : ExStep := .idle
  words : List Word := []
  zlId : Option Word := none
  cmd : Option CmdReq := none
  tag : Nat := 0
  txSleep : Bool := false
  rxSleep : Bool := false
  trigPulse : Bool := false
  due : Bool := false
  legLine : Nat := 0
deriving DecidableEq, Repr

/-- One port's set-up script (R182): the address it runs from, its current entry, whether it runs, whether from flash during bring-up, whether its
entry awaits the command lane, and whether Legacy word alignment is in progress. -/
structure Script where
  base : Nat := 0
  entry : Nat := 0
  busy : Bool := false
  boot : Bool := false
  waitCmd : Bool := false
  aligning : Bool := false
  flash : List Byte := []
deriving DecidableEq, Repr

end Sys2Proof.Machine
end

