-- ==== Sys2Proof/Machine/StTime.lean ====
section
/-! DEFINITION. State of the Stroke timeline beyond its registers: TB1, TB3, slots, pending deliveries, GPIO pulses and PTP stamp queues. -/

namespace Sys2Proof.Machine

/-- TB1 (R135 to R137): the frame in progress, the tick (MODE 1) or TB0 value (MODE 2) at its line 0, the line period in 2^-16 ns, accepted
references in a row, whether a first reference has come, whether the realignment before LOCKED moved the line field, and in MODE 2 whether an
ALIGN has taken effect and whether one awaits TB0. -/
structure Tb1 where
  frame : Nat := 0
  refTick : Nat := 0
  start : BitVec 64 := 0
  lineQ16 : Nat := 0
  count : Nat := 0
  seen : Bool := false
  moved : Bool := false
  aligned : Bool := false
  alignWait : Bool := false
deriving DecidableEq, Repr

/-- TB3 (R139): cycle count, tick of the last cycle boundary, period in ticks (0 before the first), accepted edges in a row, and the input ticks
of the last accepted and the last confirmed edge. -/
structure Tb3 where
  cycle : Nat := 0
  bound : Nat := 0
  period : Nat := 0
  count : Nat := 0
  accepted : Option Nat := none
  confirmed : Option Nat := none
deriving DecidableEq, Repr

/-- A match whose delivery is due (R143): slot, tick of delivery, and the slot's CFG and PARAM at the match. -/
structure Delivery where
  slot : Nat
  due : Nat
  cfg : Word
  param : Word
deriving DecidableEq, Repr

/-- A transmit stamp (R148, R150): identifier, NS and FRAC [7:0]. -/
structure Stamp where
  id : Nat
  ns : Word
  frac : Nat
deriving DecidableEq, Repr

/-- The Stroke timeline and PTP: steps since PORESET_N (R133), TB1, TB3, the slots that an event
delivery makes match (R479), deliveries due, GPIO pulses in progress with their end tick, and the transmit stamp queues of P0 to P7. -/
structure Stroke where
  steps : Nat := 0
  tb1 : Tb1 := {}
  tb3 : Tb3 := {}
  evMatch : List Nat := []
  due : List Delivery := []
  gpio : Table Nat := []
  ptp : Table (List Stamp) := []
deriving DecidableEq, Repr

end Sys2Proof.Machine
end

