-- ==== Sys2Proof/Machine/State.lean ====
section
/-! DEFINITION. The state of the CX96 as a block, its faults and refusals, and the state after PORESET_N. -/

namespace Sys2Proof.Machine

/-- The whole block. `regs` holds every register of the map, sparse against its Reset column; the other fields hold what the spec gives the
block beyond its registers. `ticks`, `out`, `hostData`, `roundFlags`, `freeCtr` and `pending` are the model's own (log entries 1 to 6). -/
structure State where
  regs : Table Word := []
  g7 : List Host.Cell := []
  blk : Table Blk := []
  rig : Rig := {}
  boot : Boot := {}
  strm : Table Strm := []
  log : Log := {}
  hlt : Health := {}
  occ : List Occ := []
  stk : Stroke := {}
  coachPend : Table Bool := []
  cat : Table CatH := []
  calNew : CalStore := {}
  colNew : CalStore := {}
  drv : Table DrvH := []
  lkp : Table Lkp := []
  cmp : Table Cmp := []
  scn : Table Scn := []
  enc : Table EncSess := []
  encCore : Table EncCore := []
  zrx : Table ZrxS := []
  call : CallSt := {}
  vault : Vault := {}
  nv : Table NvPort := []
  sets : Table RecSet := []
  recs : Table RecC := []
  dec : Table DecS := []
  aud : Table AudPort := []
  eng : EngSt := {}
  lnd : LandSt := {}
  spt : Table SptH := []
  lanes : Table ZlLane := []
  scripts : Table Script := []
  rings : Table (List Nat) := []
  edc : Table Nat := []
  retrain : List Nat := []
  tb0 : BitVec 64 := 0
  ticks : Nat := 0
  fatalN : Bool := false
  hiZ : Bool := false
  hostData : Word := 0
  out : List Out := []
  roundFlags : List (Nat × Nat) := []
  freeCtr : Nat := 0
  pending : List Instr := []
deriving DecidableEq, Repr

/-- Faults: no command of this block ends in one (a stop of the hardware is a state of it, not an end of the model). -/
inductive Fault where
  /-- Raised by no command; kept so that the type names a reason. Safe: it is never answered. -/
  | unreachable
deriving DecidableEq, Repr

/-- Refusals. -/
inductive Refusal where
  /-- A command whose meaning is not written yet; safe, since nothing is then claimed of it. -/
  | notModelled (mnemonic : String)
deriving DecidableEq, Repr

/-- The block right after PORESET_N (R106): every register at its Reset column, every region DOWN, memory with nothing listed. -/
def State.reset : State := {}

end Sys2Proof.Machine
end

