-- ==== Sys2Proof/Machine/Ops.lean ====
section
/-! DEFINITION. The named operations on registers, memory, events and outputs that the meanings share. -/

namespace Sys2Proof.Machine

/-! ### Registers -/

/-- The value of a register. -/
def State.rd (s : State) (r : Reg) : Word := tabGet s.regs r.reset r.off

/-- A register set by the hardware. -/
def State.wr (s : State) (r : Reg) (v : Word) : State := { s with regs := tabSet s.regs r.reset r.off v }

/-- A field of a register, as a number. -/
def State.fld (s : State) (r : Reg) (f : Fld) : Nat := f.get (s.rd r)

/-- A one-bit field of a register. -/
def State.bit (s : State) (r : Reg) (f : Fld) : Bool := bitOf (s.rd r) f.lo

/-- A field set by the hardware. -/
def State.setFld (s : State) (r : Reg) (f : Fld) (v : Nat) : State := s.wr r (f.put (s.rd r) v)

/-- A one-bit field set by the hardware. -/
def State.setBit (s : State) (r : Reg) (f : Fld) (b : Bool) : State := s.setFld r f (b2n b)

/-- A saturating counter advanced (R7 RC counters). -/
def State.inc (s : State) (r : Reg) (n : Nat := 1) : State := s.wr r (satAdd (s.rd r) n)

/-- A wrapping counter advanced by one. -/
def State.incWrap (s : State) (r : Reg) : State := s.wr r (s.rd r + 1)

/-- A saturating field of `max` advanced by one. -/
def State.incFld (s : State) (r : Reg) (f : Fld) : State :=
  s.setFld r f (min (2 ^ (f.hi + 1 - f.lo) - 1) (s.fld r f + 1))

/-- Two registers read as one 64-bit number, low register first. -/
def State.rd64 (s : State) (lo hi : Reg) : Nat := (s.rd lo).toNat + 4294967296 * (s.rd hi).toNat

/-! ### Time -/

/-- TB0 NS: the short time (R130). -/
def State.ns (s : State) : Word := (s.tb0 >>> 32).setWidth 32

/-- TB0 FRAC. -/
def State.frac (s : State) : Word := s.tb0.setWidth 32

/-- Ticks of 0.8 ns in a number of milliseconds. -/
def ticksOfMs (ms : Nat) : Nat := ms * 1250000

/-- Ticks of 0.8 ns in a number of microseconds. -/
def ticksOfUs (us : Nat) : Nat := us * 1250

/-! ### GDDR7 -/

/-- What a byte of GDDR7 that nothing has written reads as (log entry 7). -/
def memDefault : Byte := 0

/-- One byte of GDDR7. -/
def State.mem (s : State) (a : Nat) : Byte := tabGet s.g7 memDefault a

/-- One byte of GDDR7 written. -/
def State.memPut (s : State) (a : Nat) (b : Byte) : State := { s with g7 := tabSet s.g7 memDefault a b }

/-- `n` bytes of GDDR7 from an address upwards. -/
def State.memRead (s : State) (a n : Nat) : List Byte := tabSlice s.g7 memDefault a n

/-- Bytes written to GDDR7 from an address upwards. -/
def State.memWrite (s : State) (a : Nat) (bs : List Byte) : State := { s with g7 := tabFill memDefault s.g7 a bs }

/-- A little-endian word of GDDR7. -/
def State.memWord (s : State) (a : Nat) : Word := w32 (leNat (s.memRead a 4))

/-- The memory is in its canonical form: addresses strictly rise and no listed byte equals the default. -/
abbrev Memory.wf (m : List Host.Cell) : Prop := tabWf memDefault m = true

/-- Bytes written into a ring of a given size that starts at `base`, wrapping at its end. -/
def State.ringWrite (s : State) (base size off : Nat) : List Byte → State
  | [] => s
  | b :: bs => (s.memPut (base + (if size = 0 then 0 else off % size)) b).ringWrite base size (off + 1) bs

/-! ### Outputs -/

/-- Something leaves the block. -/
def State.emit (s : State) (o : Out) : State := { s with out := s.out ++ [o] }

/-! ### Events (R474, R475) -/

/-- The event number's bit in EVT_PEND (R476). -/
def evtBit (n : Nat) : Fld := ⟨n % 32, n % 32⟩

/-- Raise an event: it counts, its VALUE is kept, and the occurrence awaits delivery on the route that stands (R475). -/
def State.raise (s : State) (ev src : Nat) (items : List Word := []) : State :=
  let o : Occ := ⟨ev, src, items.headD 0, items.tail, s.ns, s.rd (EVT_R_CFG ev), s.rd (EVT_R_TGT ev)⟩
  let s := (s.inc (EVT_R_CNT ev)).wr (EVT_R_LAST ev) (items.headD 0)
  { s with occ := s.occ ++ [o] }

/-- Raise an event at most once per housekeeping round and key; what is held back is no occurrence (R475). -/
def State.raiseOnce (s : State) (ev key src : Nat) (items : List Word := []) : State :=
  if s.roundFlags.contains (ev, key) then s
  else { s with roundFlags := (ev, key) :: s.roundFlags }.raise ev src items

/-- Occurrences in ascending event number, equal numbers in the order of their raising: insertion. -/
def occInsert (o : Occ) : List Occ → List Occ
  | [] => [o]
  | p :: ps => if o.num < p.num then o :: p :: ps else p :: occInsert o ps

/-- Occurrences sorted by event number (R475). -/
def occSort (os : List Occ) : List Occ := os.foldl (fun acc o => occInsert o acc) []

/-- The end of a command that ran in one Course clock: what it raised is taken in ascending event number (R475). -/
def State.settle (s t : State) : State :=
  { t with occ := t.occ.take s.occ.length ++ occSort (t.occ.drop s.occ.length) }

/-! ### Free values -/

/-- The number of the next free value, which the step uses up. -/
def State.useFree (s : State) : State := { s with freeCtr := s.freeCtr + 1 }

/-! ### Blocks and regions -/

/-- A block's record. -/
def State.blkOf (s : State) (b : Nat) : Blk := tabGet s.blk {} b

/-- A block's record set. -/
def State.setBlk (s : State) (b : Nat) (k : Blk) : State := { s with blk := tabSet s.blk {} b k }

/-- The state of a region (R41). -/
def State.region (s : State) (r : Nat) : Nat := s.fld BOH_REGION_STATE (regionFld r)

/-- The state of a region set. -/
def State.setRegion (s : State) (r v : Nat) : State := s.setFld BOH_REGION_STATE (regionFld r) v

/-- The chip is in the safe state (R503). -/
def State.safe (s : State) : Bool := s.bit HLT_STATUS HLT_STATUS_SAFE

/-- A block is running. -/
def State.running (s : State) (b : Nat) : Bool := (s.blkOf b).phase == .running

/-! ### Host access (R39 to R42, R114) -/

/-- What a command answers. -/
abbrev Res := Host.Outcome State Fault Refusal

/-- The bring-up stage (R113). -/
def State.stage (s : State) : Nat := s.fld BOH_BOOT_STATUS BOH_BOOT_STATUS_STAGE

/-- Host requests reach the endpoint: from stage LOADER on (R114), and while the Trip path has not stopped the clocks (R498). -/
def State.hostUp (s : State) : Bool := decide (2 ≤ s.stage) && !s.hlt.clocksStopped

/-- The blocks that serve Paddle mode (R118). -/
def State.paddleBlocks (s : State) : List Nat :=
  [0x0200, 0x0300, 0x0400, 0x0500, 0x0600, 0x0700, 0x0B00 + (match s.boot.desc with | some d => d.paddleQuad | none => 0)]

/-- The states of Catch, Drive and Landing in Paddle mode set (R118). -/
def State.paddleRegions (s : State) (v : Nat) : State := ((s.setRegion 0 v).setRegion 1 v).setRegion 4 v

/-- Paddle mode serves: its regions read PADDLE (R118). -/
def State.paddleServe (s : State) : State :=
  (({ s with boot := { s.boot with paddle := .serving } }).paddleRegions 4).setBit BOH_BOOT_STATUS BOH_BOOT_STATUS_PADDLE true

/-- Paddle mode is not started, or ends before a full commit: its blocks are down again. -/
def State.paddleEnd (s : State) : State :=
  if s.boot.paddle = .off then s
  else
    let s := s.paddleBlocks.foldl (fun s b => s.setBlk b {}) s
    (({ s with boot := { s.boot with paddle := .off } }).paddleRegions 0).setBit BOH_BOOT_STATUS BOH_BOOT_STATUS_PADDLE false

/-- The block whose registers stand at an offset; the raw front end of H0 counts as FE0 in Paddle mode (R118). -/
def blockAt (o : Nat) : Option Nat :=
  if 0x0120_0000 ≤ o && o < 0x0121_0000 then some 0x0300 else spanBlock o

/-- A host access to an offset reaches a register: it is mapped, and its owner is in service (R38, R40, R41). -/
def State.accessible (s : State) (o : Nat) : Bool :=
  (regRowAt o).isSome &&
  match spanOwner o with
  | .none => false
  | .chip => true
  | .region r =>
    s.region r == 2 || (s.region r == 4 && (match blockAt o with | some b => s.paddleBlocks.contains b | none => false))

/-- The word that BOH_UNMAPPED_ADDR latches for an access (R39, R42). -/
def unmappedWord (o : Nat) (write iso : Bool) : Word :=
  w32 (0x8000_0000 + b2n write * 0x4000_0000 + b2n iso * 0x1000_0000 + o % 0x1000_0000 / 4 * 4)

/-- An unmapped access (R39, R42): reads 0 or is discarded, is latched if VALID is 0, counted, and raises event 8. -/
def State.unmapped (s : State) (o : Nat) (write : Bool) : State :=
  let w := unmappedWord o write (regRowAt o).isSome
  let s := if write then s else { s with hostData := 0 }
  let s := if bitOf (s.rd BOH_UNMAPPED_ADDR) 31 then s else s.wr BOH_UNMAPPED_ADDR w
  (s.inc BOH_UNMAPPED_CNT).raise 8 0x0E00 [w]

/-- A host access to a register: it takes its effect, or is an unmapped access, or does not reach the endpoint. -/
def State.hostDo (s : State) (r : Reg) (write : Bool) (f : State → State) : State :=
  if !s.hostUp then s else if s.accessible r.off then f s else s.unmapped r.off write

end Sys2Proof.Machine
end

