-- ==== Sys2Proof/Machine/RigImage.lean ====
section
/-! DEFINITION. The Rig image container byte by byte: header, section table, signature block, and the record formats of its sections
(R43 to R55). -/

namespace Sys2Proof.Machine

/-- A section-table entry (R46). -/
structure SectEntry where
  block : Nat
  kind : Nat
  sflags : Nat
  off : Nat
  len : Nat
  ver : Nat
  rsv : Nat
  hash : List Byte
deriving DecidableEq, Repr

/-- An image header (R45). -/
structure ImgHeader where
  magic : Nat
  format : Nat
  headerSize : Nat
  part : Nat
  minStep : Nat
  flags : Nat
  length : Nat
  count : Nat
  tableOff : Nat
  sigOff : Nat
  rollback : Nat
  rigId : List Byte
  baseId : List Byte
  minBw : Nat
  minGib : Nat
  tableHash : List Byte
deriving DecidableEq, Repr

/-- The header of an image (R45). -/
def imgHeader (b : List Byte) : ImgHeader where
  magic := leAt b 0x00 4
  format := leAt b 0x04 2
  headerSize := leAt b 0x06 2
  part := leAt b 0x08 2
  minStep := leAt b 0x0A 1
  flags := leAt b 0x0B 1
  length := leAt b 0x0C 4
  count := leAt b 0x10 2
  tableOff := leAt b 0x14 4
  sigOff := leAt b 0x18 4
  rollback := leAt b 0x1C 4
  rigId := sliceAt b 0x20 16
  baseId := sliceAt b 0x30 16
  minBw := leAt b 0x48 2
  minGib := leAt b 0x4A 1
  tableHash := sliceAt b 0x80 48

/-- The image is PARTIAL (R45). -/
def ImgHeader.isPartial (h : ImgHeader) : Bool := h.flags % 2 == 1

/-- The section-table entry at an offset of the image. -/
def sectEntryAt (b : List Byte) (o : Nat) : SectEntry where
  block := leAt b o 2
  kind := leAt b (o + 2) 1
  sflags := leAt b (o + 3) 1
  off := leAt b (o + 4) 4
  len := leAt b (o + 8) 4
  ver := leAt b (o + 12) 2
  rsv := leAt b (o + 14) 2
  hash := sliceAt b (o + 16) 48

/-- The section table of an image. -/
def sectTable (b : List Byte) : List SectEntry :=
  (List.range (imgHeader b).count).map (fun i => sectEntryAt b (256 + 64 * i))

/-- A section of an image as the committed form keeps it. -/
def sectOf (b : List Byte) (e : SectEntry) : Section :=
  ⟨e.block, e.kind, e.sflags, e.ver, sliceAt b e.off e.len⟩

/-- The sections of an image in table order. -/
def imgSections (b : List Byte) : List Section := (sectTable b).map (sectOf b)

/-- The listed blocks of an image: those its table names, in table order, each once. -/
def imgListed (b : List Byte) : List Nat := uniqNat ((sectTable b).map (·.block))

/-- An ownership record (R50). -/
structure OwnRec where
  rclass : Nat
  rsv : Nat
  owner : Nat
  first : Nat
  count : Nat
deriving DecidableEq, Repr

/-- A reservation record (R52). -/
structure ResRec where
  target : Nat
  cls : Nat
  dir : Nat
  rsv : Nat
  stream : Nat
  rate : Nat
  backlog : Nat
deriving DecidableEq, Repr

/-- A topology record (R53). -/
structure TopoRec where
  link : Nat
  index : Nat
  rsv : Nat
  source : Nat
  sink : Nat
deriving DecidableEq, Repr

/-- The ownership records of a section. -/
def ownRecs (d : List Byte) : List OwnRec :=
  (List.range (d.length / 16)).map (fun i =>
    ⟨leAt d (16 * i) 1, leAt d (16 * i + 1) 3, leAt d (16 * i + 4) 4, leAt d (16 * i + 8) 4, leAt d (16 * i + 12) 4⟩)

/-- The reservation records of a section. -/
def resRecs (d : List Byte) : List ResRec :=
  (List.range (d.length / 16)).map (fun i =>
    ⟨leAt d (16 * i) 1, leAt d (16 * i + 1) 1, leAt d (16 * i + 2) 1, leAt d (16 * i + 3) 1, leAt d (16 * i + 4) 4,
      leAt d (16 * i + 8) 4, leAt d (16 * i + 12) 4⟩)

/-- The topology records of a section. -/
def topoRecs (d : List Byte) : List TopoRec :=
  (List.range (d.length / 8)).map (fun i =>
    ⟨leAt d (8 * i) 1, leAt d (8 * i + 1) 1, leAt d (8 * i + 2) 2, leAt d (8 * i + 4) 2, leAt d (8 * i + 6) 2⟩)

/-- The CONFIG entries of a section: BAR0 offset and value (R48). -/
def cfgEntries (d : List Byte) : List (Nat × Word) :=
  (List.range (d.length / 8)).map (fun i => (leAt d (8 * i) 4, w32 (leAt d (8 * i + 4) 4)))

/-- The sections of one kind. -/
def sectsOfKind (k : Nat) (ss : List Section) : List Section := ss.filter (·.kind == k)

/-- Every ownership record of a configuration. -/
def allOwn (ss : List Section) : List OwnRec := (sectsOfKind 4 ss).flatMap (fun x => ownRecs x.data)

/-- Every reservation record of a configuration. -/
def allRes (ss : List Section) : List ResRec := (sectsOfKind 5 ss).flatMap (fun x => resRecs x.data)

/-- Every topology record of a configuration. -/
def allTopo (ss : List Section) : List TopoRec := (sectsOfKind 8 ss).flatMap (fun x => topoRecs x.data)

/-- The owner word of a unit of a resource class, if a committed block owns it (R50, R84). -/
def ownerOf (ss : List Section) (rclass unit : Nat) : Option Nat :=
  ((allOwn ss).find? (fun o => o.rclass == rclass && o.first ≤ unit && unit < o.first + o.count)).map (·.owner)

/-- A Stroke slot belongs to someone: slots 0 to 15 to chip function 2, the others by record (R141). -/
def State.slotOwned (s : State) (n : Nat) : Bool := n < 16 || (ownerOf s.rig.sections 2 n).isSome

end Sys2Proof.Machine
end

