-- ==== Sys2Proof/Machine/Heads.lean ====
section
/-! DEFINITION. Heads, their lead ports and their geometry (R153, R186, R121), and the ring buffers that named readers hold (R213). -/

namespace Sys2Proof.Machine

/-- The lead port of a head: the enabled port with LEAD set that names it (R153); SP0 for H0 in Paddle mode (R118). -/
def State.leadPort (s : State) (h : Nat) : Option Nat :=
  if s.boot.paddle != .off && h == 0 then some 0
  else (List.range 8).find? (fun p => s.bit (SPT_P_CFG p) SPT_P_CFG_EN && s.bit (SPT_P_CFG p) SPT_P_CFG_LEAD
    && s.fld (SPT_P_CFG p) SPT_P_CFG_HEAD == h)

/-- The span that holds a head's port registers: its lead port's, or its own number's where no port leads it. -/
def State.hp (s : State) (h : Nat) : Nat := (s.leadPort h).getD h

/-- Geometry and format of a head (R186, R187). -/
structure Geom where
  w : Nat
  h : Nat
  b : Nat
  r : Nat
  cfa : Nat
  phase : Nat
  o : Nat
deriving DecidableEq, Repr

/-- A head runs Paddle processing from the boot descriptor (R118, R121). -/
def State.paddleHead (s : State) (h : Nat) : Bool := s.boot.paddle != .off && h == 0

/-- The head's geometry: from SPT_H_GEOM and SPT_H_FMT, or in Paddle mode from the boot descriptor (R121). -/
def State.geom (s : State) (h : Nat) : Geom :=
  match (if s.paddleHead h then s.boot.desc else none) with
  | some d => ⟨d.paddleW, d.paddleH, d.paddleB, 1, d.paddleCfa % 4, d.paddleCfa / 4 % 4, 0⟩
  | none =>
    let g := s.rd (SPT_H_GEOM (s.hp h))
    let f := s.rd (SPT_H_FMT (s.hp h))
    ⟨bitsOf g.toNat 15 0, bitsOf g.toNat 31 16, bitsOf f.toNat 4 0, bitsOf f.toNat 6 5 + 1, bitsOf f.toNat 9 8, bitsOf f.toNat 11 10,
      bitsOf f.toNat 31 16⟩

/-- The frame rate of a head in millifps (R525). -/
def State.headRate (s : State) (h : Nat) : Nat :=
  match (if s.paddleHead h then s.boot.desc else none) with
  | some d => d.paddleRate
  | none => (s.rd (SPT_H_RATE (s.hp h))).toNat

/-- CFA plane of a photosite (R187). -/
def Geom.plane (g : Geom) (row col : Nat) : Nat :=
  if g.cfa = 1 then 2 * (row / 2 % 2) + col / 2 % 2 else 2 * (row % 2) + col % 2

/-- The same-colour period d (R187). -/
def Geom.period (g : Geom) : Nat := if g.cfa = 1 then 4 else 2

/-- The front-end lane blocks of a head (R185). -/
def State.feBlocks (s : State) (h : Nat) : List Nat :=
  if s.paddleHead h then [0x0300]
  else
    let f := s.fld (CAT_H_CFG h) CAT_H_CFG_FE_FIRST
    (List.range (s.fld (CAT_H_CFG h) CAT_H_CFG_FE_COUNT)).map (fun i => 0x0300 + f + i)

/-- The block that raises a head's Catch events: its first front-end lane (R522). -/
def State.feBid (s : State) (h : Nat) : Nat := if s.paddleHead h then 0x0300 else 0x0300 + s.fld (CAT_H_CFG h) CAT_H_CFG_FE_FIRST

/-- The head is in use in Catch. -/
def State.catOn (s : State) (h : Nat) : Bool := s.paddleHead h || s.bit (CAT_H_CFG h) CAT_H_CFG_EN

/-- Paddle processing of a head (R120). -/
def State.factoryOnly (s : State) (h : Nat) : Bool := s.paddleHead h || s.bit (CAT_H_CFG h) CAT_H_CFG_FACTORY_ONLY

/-! ### Rings (R213): 0 to 7 the raw rings of the heads, 8 to 15 the look paths, 16 to 19 the compositors' write-back, 20 to 23 the picture rings of DEC0's sessions -/

/-- Key of a buffer of a ring. -/
def ringKey (ring buf : Nat) : Nat := ring * 256 + buf

/-- The readers that hold a buffer. -/
def State.holders (s : State) (ring buf : Nat) : List Nat := tabGet s.rings [] (ringKey ring buf)

/-- A buffer is held (R213). -/
def State.bufHeld (s : State) (ring buf : Nat) : Bool := !(s.holders ring buf).isEmpty

/-- Readers take hold of a buffer. -/
def State.holdBuf (s : State) (ring buf : Nat) (readers : List Nat) : State :=
  { s with rings := tabSet s.rings [] (ringKey ring buf) (uniqNat (s.holders ring buf ++ readers)) }

/-- A reader releases a buffer. -/
def State.releaseBuf (s : State) (ring buf reader : Nat) : State :=
  { s with rings := tabSet s.rings [] (ringKey ring buf) ((s.holders ring buf).filter (· != reader)) }

/-- Row BUFFER_RELEASE: a named reader releases a ring buffer that it held (R213). -/
def execBufferRelease (ring : Fin 24) (buf : Byte) (reader : BitVec 16) (s : State) : Res :=
  .next (s.releaseBuf ring.val buf.toNat reader.toNat)

end Sys2Proof.Machine
end

