-- ==== Sys2Proof/Machine/Layers.lean ====
section
/-! DEFINITION. Records and accessors of compositors, layers and scan-out heads, posts to layers (R266), and the exit from self-refresh (R291). -/

namespace Sys2Proof.Machine

/-- A compositor's record. -/
def State.cmpOf (s : State) (n : Nat) : Cmp := tabGet s.cmp {} n
/-- A compositor's record set. -/
def State.setCmp (s : State) (n : Nat) (c : Cmp) : State := { s with cmp := tabSet s.cmp {} n c }
/-- A layer's record. -/
def State.layerOf (s : State) (n l : Nat) : CmpLayer := tabGet (s.cmpOf n).layers {} l
/-- A layer's record set. -/
def State.setLayer (s : State) (n l : Nat) (x : CmpLayer) : State :=
  s.setCmp n { s.cmpOf n with layers := tabSet (s.cmpOf n).layers {} l x }
/-- A scan-out head's record. -/
def State.scnOf (s : State) (n : Nat) : Scn := tabGet s.scn {} n
/-- A scan-out head's record set. -/
def State.setScn (s : State) (n : Nat) (x : Scn) : State := { s with scn := tabSet s.scn {} n x }

/-- CMP0 serves Paddle mode (R118). -/
def State.paddleCmp (s : State) (n : Nat) : Bool := s.boot.paddle == .serving && n == 0

/-- The compositor is in use. -/
def State.cmpOn (s : State) (n : Nat) : Bool := s.paddleCmp n || s.bit (CMP_CFG n) CMP_CFG_EN

/-- Number of layers (R248). -/
def State.cmpLayers (s : State) (n : Nat) : Nat := if s.paddleCmp n then 1 else min 8 (s.fld (CMP_CFG n) CMP_CFG_LAYERS)

/-- Low half of a word. -/
def lo16 (w : Word) : Nat := bitsOf w.toNat 15 0
/-- High half of a word. -/
def hi16 (w : Word) : Nat := bitsOf w.toNat 31 16

/-- The layer is composed. -/
def LayerCfg.on (c : LayerCfg) : Bool := bitOf c.cfg 31
/-- SRC of R252. -/
def LayerCfg.src (c : LayerCfg) : Nat := CMP_L_CFG_SRC.get c.cfg
/-- VTAPS. -/
def LayerCfg.taps (c : LayerCfg) : Nat := CMP_L_CFG_VTAPS.get c.cfg
/-- FMT of R253. -/
def LayerCfg.fmt (c : LayerCfg) : Nat := CMP_L_CFG_FMT.get c.cfg
/-- Crop width and height. -/
def LayerCfg.cw (c : LayerCfg) : Nat := lo16 c.cropWH
def LayerCfg.ch (c : LayerCfg) : Nat := hi16 c.cropWH
/-- Destination width and height. -/
def LayerCfg.dw (c : LayerCfg) : Nat := lo16 c.dstWH
def LayerCfg.dh (c : LayerCfg) : Nat := hi16 c.dstWH
/-- Depth in bits of a Y/Cb/Cr source. -/
def LayerCfg.depth (c : LayerCfg) : Nat := [8, 10, 12, 8].getD (CMP_L_CFG_DEPTH.get c.cfg) 8
/-- Bytes of one container. -/
def LayerCfg.box (c : LayerCfg) : Nat := if c.depth = 8 then 1 else 2
/-- Ring address (R253). -/
def LayerCfg.base (c : LayerCfg) : Nat := (c.addrLo.toNat + 4294967296 * c.addrHi.toNat) / 4096 * 4096
/-- Pitch in bytes. -/
def LayerCfg.pitchB (c : LayerCfg) : Nat := bitsOf c.pitch.toNat 19 0
/-- Bytes per pixel for budgeting, doubled (R77). -/
def LayerCfg.bp2 (c : LayerCfg) : Nat :=
  match c.fmt with
  | 0 => 3 * c.box | 1 => 4 * c.box | 2 => 6 * c.box | 3 | 4 => 8 | _ => 16
/-- Bytes of one line per pixel in the first plane. -/
def LayerCfg.lineB (c : LayerCfg) : Nat := if c.fmt ≤ 2 then c.box else if c.fmt = 5 then 8 else 4

/-- The DEC0 session whose picture ring a layer with SRC 2 names: the one at its ring address (log entry 30). -/
def State.decRing (s : State) (c : LayerCfg) : Option Nat :=
  (List.range 4).find? (fun d => s.bit (DEC_S_CFG d) DEC_S_CFG_EN && s.rd64 (DEC_S_OUT_ADDR_LO d) (DEC_S_OUT_ADDR_HI d) / 4096 * 4096 == c.base)

/-! ### Self-refresh exit (R291) -/

/-- A change source: a head in PSR leaves it. -/
def State.psrExit (s : State) (n : Nat) : State :=
  if s.fld (SCN_STATUS n) SCN_STATUS_STATE = 5 then
    let x := s.scnOf n
    ((s.setFld (SCN_STATUS n) SCN_STATUS_STATE (if x.stopAfter then 3 else 1)).setScn n { x with idle := 0, fresh := true, stopAfter := false, waitSlot := s.fld (SCN_SYNC n) SCN_SYNC_MODE == 1 }).raise 442 (0x0700 + n)
  else s

/-- Something changed for R291. -/
def State.psrChange (s : State) (n : Nat) : State := s.setCmp n { s.cmpOf n with chg := true }

/-- The reader that a layer is (R213). -/
def layerReader (n l : Nat) : Nat := 0x0600 + 16 * n + l

/-- The ring that a layer reads, of those of R213. -/
def State.layerRing (s : State) (c : LayerCfg) : Option Nat :=
  match c.src with
  | 1 => some (8 + CMP_L_CFG_SRC_INST.get c.cfg)
  | 2 => (s.decRing c).map (20 + ·)
  | _ => none

/-- A buffer is posted to a layer (R266). -/
def State.layerPosted (s : State) (n l buf : Nat) : State :=
  let x := s.layerOf n l
  let s := s.setLayer n l { x with posted := x.posted ++ [buf] }
  let s := match s.layerRing x.act with
    | some r => s.holdBuf r buf [layerReader n l]
    | none => s
  s.psrExit n

/-- A post of a ring of R213 reaches every layer that reads it (R252, R266). -/
def State.postLayers (s : State) (ring buf : Nat) : State :=
  (List.range 4).foldl (fun s n => (List.range (s.cmpLayers n)).foldl (fun s l =>
    let c := (s.layerOf n l).act
    if s.cmpOn n && c.on && s.layerRing c == some ring then s.layerPosted n l buf else s) s) s

end Sys2Proof.Machine
end

