-- ==== Sys2Proof/Machine/Embed.lean ====
section
/-! DEFINITION. Audio that scan-out heads carry (R288): the buffer between a port's frame syncs and the output lines. -/

namespace Sys2Proof.Machine

/-- The sample rate of the audio that a head carries. -/
def State.embedFs (s : State) (n : Nat) : Nat := (s.rd (AUD_P_FS (s.fld (SCN_AUD n) SCN_AUD_PORT_A))).toNat

/-- FILL_US: 0 acts as 1,000. -/
def State.embedFill (s : State) (n : Nat) : Nat :=
  let f := s.fld (SCN_AUD n) SCN_AUD_FILL_US
  if f = 0 then 1000 else f

/-- The head carries audio now: EN is set, and frames are sent. -/
def State.embedOn (s : State) (n : Nat) : Bool :=
  s.bit (SCN_AUD n) SCN_AUD_EN && (s.fld (SCN_STATUS n) SCN_STATUS_STATE == 1 || s.fld (SCN_STATUS n) SCN_STATUS_STATE == 3)

/-- A head's audio set. -/
def State.setEmbed (s : State) (n : Nat) (a : ScnAud) : State := s.setScn n { s.scnOf n with audio := a }

/-- A sample frame is repeated or dropped: counted, and event 443 at most once per housekeeping round. -/
def State.embedSlip (s : State) (n : Nat) : State := (s.inc (SCN_AUD_SLIP n)).raiseOnce 443 n (0x0700 + n) [w32 n]

/-- The channels of a sample frame: slots of PORT_A, and from channel 17 on of PORT_B. -/
def State.embedChannels (s : State) (n : Nat) (fa fb : List Word) : List Word :=
  (List.range (s.fld (SCN_AUD n) SCN_AUD_CHANNELS)).map (fun c => if c < 16 then fa.getD c 0 else fb.getD (c - 16) 0)

/-- A received frame of an audio port reaches the heads that carry it; a fill one sample frame above FILL_US + 1 ms drops one. -/
def State.embedFrame (s : State) (p : Nat) (f : List Word) : State :=
  (List.range 4).foldl (fun s n =>
    let a := (s.scnOf n).audio
    if !s.embedOn n then if a = {} then s else s.setEmbed n {}
    else
      let a := if 16 < s.fld (SCN_AUD n) SCN_AUD_CHANNELS && s.fld (SCN_AUD n) SCN_AUD_PORT_B = p then { a with b := f } else a
      if s.fld (SCN_AUD n) SCN_AUD_PORT_A = p then
        let q := a.fifo ++ [s.embedChannels n f a.b]
        if (s.embedFill n + 1000) * s.embedFs n ≤ (q.length - 1) * 1000000 then (s.setEmbed n { a with fifo := q.tail }).embedSlip n
        else s.setEmbed n { a with fifo := q, on := a.on || decide (s.embedFill n * s.embedFs n ≤ q.length * 1000000) }
      else s.setEmbed n a) s

/-- `k` sample frames leave the buffer; one that would leave the fill a sample frame below 250 µs is repeated. -/
def State.embedTake (s : State) (n : Nat) : Nat → State × List (List Word)
  | 0 => (s, [])
  | k + 1 =>
    let a := (s.scnOf n).audio
    let f := a.fifo.headD []
    let s := if a.fifo.length * 1000000 ≤ 250 * s.embedFs n then s.embedSlip n else s.setEmbed n { a with fifo := a.fifo.tail }
    let (t, fs) := s.embedTake n k
    (t, f :: fs)

/-- An output line carries the sample frames that fall due in it: those of a frame over its active lines, `num` ÷ `den` frames per second. -/
def State.embedLine (s : State) (n num den vActive : Nat) : State :=
  let a := (s.scnOf n).audio
  if !s.embedOn n || !a.on || num * vActive = 0 then s
  else
    let owed : Rat := a.owed + (s.embedFs n * den : Nat) / (num * vActive : Nat)
    let k := owed.floor.toNat
    let (s, fs) := (s.setEmbed n { a with owed := owed - k }).embedTake n k
    if k = 0 then s else s.emit (.scanAudio n fs)

end Sys2Proof.Machine
end

