-- ==== Sys2Proof/Machine/Fp32.lean ====
section
/-! DEFINITION. IEEE 754 binary32 as R185 uses it: round to nearest with ties to even, subnormal results flushed after rounding, NaN replaced by
0.0 and infinities by ±65,536.0. Each operation answers its value and the number of replacements it made. -/

namespace Sys2Proof.Machine

/-- A finite number `(-1)^neg × m × 2^e`. -/
structure Ex where
  neg : Bool
  m : Nat
  e : Int
deriving DecidableEq, Repr

/-- A binary32 operand. -/
inductive Fp where
  | nan
  | inf (neg : Bool)
  | fin (x : Ex)
deriving DecidableEq, Repr

/-- A word read as binary32; subnormal operands are used as they stand (R185). -/
def fpOf (w : Word) : Fp :=
  let ex := bitsOf w.toNat 30 23
  let fr := bitsOf w.toNat 22 0
  if ex = 255 then if fr = 0 then .inf w.msb else .nan
  else if ex = 0 then .fin ⟨w.msb, fr, -149⟩
  else .fin ⟨w.msb, 0x800000 + fr, (ex : Int) - 150⟩

/-- A zero of a sign. -/
def fpZero (neg : Bool) : Word := if neg then 0x80000000 else 0

/-- What R185 puts in place of an infinity. -/
def fpBig (neg : Bool) : Word × Nat := (if neg then 0xC7800000 else 0x47800000, 1)

/-- What R185 puts in place of a NaN. -/
def fpNan : Word × Nat := (0, 1)

/-- Divide by a power of two, rounding to nearest with ties to even; `sticky` says that the value lies above what the digits show. -/
def rneShift (m k : Nat) (sticky : Bool) : Nat :=
  let q := m / 2 ^ k
  let r := m % 2 ^ k
  if 2 * r > 2 ^ k || (2 * r = 2 ^ k && (sticky || q % 2 = 1)) then q + 1 else q

/-- Round an exact result to binary32 under R185. -/
def fpRound (neg : Bool) (m : Nat) (e : Int) (sticky : Bool := false) : Word × Nat :=
  if m = 0 then (fpZero neg, 0)
  else
    let qe := max ((m.log2 : Int) + e - 23) (-149)
    let k := qe - e
    let mant := if k ≤ 0 then m * 2 ^ (-k).toNat else rneShift m k.toNat sticky
    let (mant, qe) := if mant = 0x1000000 then (0x800000, qe + 1) else (mant, qe)
    if mant < 0x800000 then (fpZero neg, 0)
    else if qe + 150 ≥ 255 then fpBig neg
    else (w32 ((if neg then 0x80000000 else 0) + (qe + 150).toNat * 0x800000 + (mant - 0x800000)), 0)

/-- A signed integer times a power of two, as binary32. -/
def fpScaled (i : Int) (e : Int) : Word := (fpRound (decide (i < 0)) i.natAbs e).1

/-- An integer as binary32. -/
def fpInt (i : Int) : Word := fpScaled i 0

/-- The number with its sign changed. -/
def fpNeg (a : Word) : Word := a ^^^ 0x80000000

/-- The magnitude. -/
def fpAbs (a : Word) : Word := a &&& 0x7FFFFFFF

/-- Sum. -/
def fpAdd (a b : Word) : Word × Nat :=
  match fpOf a, fpOf b with
  | .nan, _ | _, .nan => fpNan
  | .inf x, .inf y => if x = y then fpBig x else fpNan
  | .inf x, _ | _, .inf x => fpBig x
  | .fin x, .fin y =>
    let e := min x.e y.e
    let v (z : Ex) : Int := (if z.neg then -1 else 1) * ((z.m * 2 ^ (z.e - e).toNat : Nat) : Int)
    let t := v x + v y
    if t = 0 then (fpZero (x.neg && y.neg), 0) else fpRound (decide (t < 0)) t.natAbs e

/-- Difference. -/
def fpSub (a b : Word) : Word × Nat := fpAdd a (fpNeg b)

/-- Product. -/
def fpMul (a b : Word) : Word × Nat :=
  match fpOf a, fpOf b with
  | .nan, _ | _, .nan => fpNan
  | .inf x, .inf y => fpBig (x != y)
  | .inf x, .fin y | .fin y, .inf x => if y.m = 0 then fpNan else fpBig (x != y.neg)
  | .fin x, .fin y => fpRound (x.neg != y.neg) (x.m * y.m) (x.e + y.e)

/-- Quotient. -/
def fpDiv (a b : Word) : Word × Nat :=
  match fpOf a, fpOf b with
  | .nan, _ | _, .nan => fpNan
  | .inf _, .inf _ => fpNan
  | .inf x, .fin y => fpBig (x != y.neg)
  | .fin x, .inf y => (fpZero (x.neg != y), 0)
  | .fin x, .fin y =>
    if y.m = 0 then if x.m = 0 then fpNan else fpBig (x.neg != y.neg)
    else
      let n := x.m * 2 ^ 52
      fpRound (x.neg != y.neg) (n / y.m) (x.e - y.e - 52) (n % y.m != 0)

/-- Integer square root by its binary digits: the largest `r` with `r² ≤ n` among `r < acc + 2^k`. -/
def isqrt (n : Nat) : Nat → Nat → Nat
  | 0, acc => acc
  | k + 1, acc => if (acc + 2 ^ k) * (acc + 2 ^ k) ≤ n then isqrt n k (acc + 2 ^ k) else isqrt n k acc

/-- Square root. -/
def fpSqrt (a : Word) : Word × Nat :=
  match fpOf a with
  | .nan => fpNan
  | .inf x => if x then fpNan else fpBig false
  | .fin x =>
    if x.m = 0 then (fpZero x.neg, 0)
    else if x.neg then fpNan
    else
      let k : Nat := 60 + (x.e % 2).toNat
      let n := x.m * 2 ^ k
      let r := isqrt n 48 0
      fpRound false r ((x.e - (k : Int)) / 2) (r * r != n)

/-- Order key of a number that is no NaN. -/
def fpKey (a : Word) : Int := if a.msb then -((fpAbs a).toNat : Int) else ((fpAbs a).toNat : Int)

/-- The word is a NaN. -/
def fpIsNan (a : Word) : Bool := fpOf a == .nan

/-- The word is a finite number. -/
def fpFinite (a : Word) : Bool := decide (bitsOf a.toNat 30 23 ≠ 255)

/-- `a < b`; false where either is a NaN. -/
def fpLt (a b : Word) : Bool := !fpIsNan a && !fpIsNan b && decide (fpKey a < fpKey b)

/-- `a ≤ b`; false where either is a NaN. -/
def fpLe (a b : Word) : Bool := !fpIsNan a && !fpIsNan b && decide (fpKey a ≤ fpKey b)

/-- The larger of two numbers. -/
def fpMax (a b : Word) : Word := if fpLt a b then b else a

/-- The smaller of two numbers. -/
def fpMin (a b : Word) : Word := if fpLt b a then b else a

/-- Conversion to an integer, to nearest with ties to even (R185). -/
def fpToInt (a : Word) : Int :=
  match fpOf a with
  | .nan => 0
  | .inf x => if x then -65536 else 65536
  | .fin x =>
    let q := if 0 ≤ x.e then x.m * 2 ^ x.e.toNat else rneShift x.m (-x.e).toNat false
    if x.neg then -(q : Int) else q

/-- The largest integer not above the number. -/
def fpFloor (a : Word) : Int :=
  match fpOf a with
  | .nan => 0
  | .inf x => if x then -65536 else 65536
  | .fin x =>
    let v : Int := if x.neg then -(x.m : Int) else x.m
    if 0 ≤ x.e then v * 2 ^ x.e.toNat else v / 2 ^ (-x.e).toNat

/-- 1.0. -/
def fpOne : Word := 0x3F800000

/-! ### Counting the replacements -/

/-- A computation that counts the replacements of R185. -/
abbrev Cnt := StateM Nat

/-- An operation's value, its replacements counted. -/
def cnt (p : Word × Nat) : Cnt Word := fun n => (p.1, n + p.2)

/-- Counted sum. -/
def cAdd (a b : Word) : Cnt Word := cnt (fpAdd a b)
/-- Counted difference. -/
def cSub (a b : Word) : Cnt Word := cnt (fpSub a b)
/-- Counted product. -/
def cMul (a b : Word) : Cnt Word := cnt (fpMul a b)
/-- Counted quotient. -/
def cDiv (a b : Word) : Cnt Word := cnt (fpDiv a b)
/-- Counted square root. -/
def cSqrt (a : Word) : Cnt Word := cnt (fpSqrt a)

/-- The sum of a list, left to right. -/
def cSum : Word → List Word → Cnt Word
  | acc, [] => pure acc
  | acc, v :: vs => do cSum (← cAdd acc v) vs

/-- The mean of a list: its sum left to right, divided by its length. -/
def cMean (vs : List Word) : Cnt Word := do
  match vs with
  | [] => pure 0
  | v :: t => cDiv (← cSum v t) (fpInt vs.length)

/-! ### Logarithms to base 2 -/

/-- `n` binary digits of log2 of a number in [1, 2) held as a multiple of 2^-64. -/
def log2Digits : Nat → Nat → Nat → Nat
  | 0, _, acc => acc
  | n + 1, y, acc =>
    let z := y * y / 2 ^ 64
    if 2 ^ 65 ≤ z then log2Digits n (z / 2) (2 * acc + 1) else log2Digits n z (2 * acc)

/-- log2 of `m × 2^e`, m positive, as a multiple of 2^-40, cut off below. -/
def log2Q40 (m : Nat) (e : Int) : Int :=
  let l := m.log2
  let y := if l ≤ 64 then m * 2 ^ (64 - l) else m / 2 ^ (l - 64)
  ((l : Int) + e) * 2 ^ 40 + (log2Digits 40 y 0 : Nat)

end Sys2Proof.Machine
end

