-- ==== Sys2Proof/Config.lean ====
section
/-! DEFINITION. What the spec leaves open: each constant here is a free value without a body, so that nothing can be proved of which value it
takes. The log entry beside each says where the spec leaves it open. -/

namespace Sys2Proof.Config

/-- Where the exact CL20 code of a value lies within 2^-7 of a half-integer, whether the upper neighbour is given (R211; log entry 20). -/
opaque cl20Up : Word → Bool

/-- What an EFF read of a column offset and gain entry returns, from its effective offset and gain (R192; log entry 21). -/
opaque colEffRead : Word → Word → Word

/-- How many units in the last place, −1 to 1, a precomputed colour quantity lies from the exact value rounded to binary32 (R218; log entry 22). -/
opaque preUlp : Nat → Word → Int

/-- How far, in 2^-40, the evaluated log2 of a value lies from the exact one, within 2^-22 (R211, R238; log entry 23). -/
opaque log2Err : Word → Int

/-- The CIE illuminants D65, A and D50 (1, 2, 3) at a bin, which the spec names but does not tabulate (R233; log entry 24). -/
opaque cieIllum : Nat → Nat → Word

/-- The CIE 1931 colour-matching functions x, y and z at a bin (R233; log entry 24). -/
opaque cieCmf : Nat → Nat → Word

/-- XYZ to ACES AP0 (0) and to BT.2020 linear (1), row-major (R234; log entry 24). -/
opaque xyzTo : Nat → Nat → Word

/-- The BT.709 transfer function of ITU-R BT.709 (R241; log entry 24). -/
opaque oetf709 : Word → Word

/-- The PQ inverse EOTF of ITU-R BT.2100 on cd/m² (R241; log entry 24). -/
opaque pqInv : Word → Word

/-- The HLG transfer function of ITU-R BT.2100 (R241; log entry 24). -/
opaque oetfHlg : Word → Word

/-- Lines of a Y/Cb/Cr surface that the host or Oars write, from CMP_L_CFG, CMP_L_PITCH and CMP_L_BUF_SIZE: the plane offsets of R253 rest on it, and
no register gives it (log entry 25). -/
opaque srcLines : Word → Word → Word → Nat

/-- The ST 352 payload identifier that a head derives from SCN_CFG, SCN_HACT, SCN_VACT, SCN_PLL_DIV and SCN_FMT (R287; log entry 26). -/
opaque st352 : Word → Word → Word → Word → Word → Word

/-- The fullness in bits of a CPB of a size in kbit at the removal of a session's first picture (R317; log entry 27). -/
opaque cpbInit : Nat → Nat

/-- The NEAR that mode C rate control chooses for a tile, by the number of its free value (R341; log entry 28). -/
opaque zrxNear : Nat → Nat

/-- The Zstandard frame that CMX makes of an input, by level and job flags (R344, R345; log entry 29). -/
opaque zstd : Nat → Nat → List Byte → List Byte

/-- What CMX inflates an input to: status of R351, input offset of the first error, and output (R344; log entry 29). -/
opaque unzstd : List Byte → Nat × Nat × List Byte

/-- Bytes whose content the spec does not define, by the number of the free value and the byte's place (R351; log entry 37). -/
opaque freeByte : Nat → Nat → Byte

/-- The header metadata of an MXF file (1), the index and footer of its footer partition (2), its random index pack (3), and a body partition (4),
from the directory entry's bytes and the starts of the content packages (R368; log entry 41). -/
opaque mxf : Nat → List Byte → List Nat → List Byte

/-- The C2PA manifest store of a clip, from the claim's content and its hash (R378; log entry 42). -/
opaque c2pa : List Byte → List Byte → List Byte

/-- The value that a CL20 code decodes to, as a binary32 value; R211 gives the real number and no rounding (R211, R395; log entry 46). -/
opaque cl20Decode : Nat → Word

/-- The binary32 cosine of π × k ÷ n, where it is no rational number: R405 computes the gain in binary32 and states no rounding of its steps
(R405; log entry 50). -/
opaque cosPi : Nat → Nat → Word

/-- The IPv4 identification and DF flag, or the IPv6 flow label, of a packet of a send stream, by the number of the free value (R450; log entry 58). -/
opaque ipFree : Nat → BitVec 20

/-- Where a send stream's RTP sequence numbers start (R451; log entry 58). -/
opaque rtpSeq0 : Nat → Nat

/-- The RTP payload of the ST 2110-40 packet that carries an ATC_LTC timecode and an ST 352 payload identifier (R450; log entry 59). -/
opaque ancPayload : Word → Word → List Byte

/-- What a receive stream writes in the fields of an R322 record that RTP does not carry: 0 SESSION, 1 POC, 2 SEQ, 3 T_SRC, 4 picture type
(R452; log entry 60). -/
opaque rtpField : Nat → Nat → Nat

/-- The service partition to which a Call of an opcode belongs; the firmware fixes it (R426; log entry 68). -/
opaque callPart : Nat → Nat

/-- Whether a PTP servo is rigged, from the payloads of the committed sections: the servo is a program, and no field of an image names it
(R151; log entry 69). -/
opaque ptpServo : List (List Byte) → Bool

/-- The number that event 968 gives for a cause of isolation, which R502 does not state: 0 a cox that does not answer, 1 the Course port, 2 a rail, 3 a
clock (R502; log entry 70). -/
opaque isoCause : Nat → Word

/-- Whether a median that falls halfway between two values of 1/16 °C is shown as the upper one; the rule gives no rounding (R496; log entry 75). -/
opaque tsHalf : Int → Bool

/-- The role that a byte of an AUTH_RESPONSE names, which R467 does not give: true CO, false User, none no role (log entry 83). -/
opaque authRole : Byte → Option Bool

/-- The KEY_IDs of the Adeim factory chain that stand for the CO keys while LIFECYCLE reads PROVISIONED (R466; log entry 83). -/
opaque factoryCo : List Byte → Bool

/-- The x-coordinate that ECDH gives with the device agreement key and an ephemeral public key (R461; log entry 84). -/
opaque ecdhZ : List Byte → List Byte

/-- The bits of an SWAIT result that R419 and R478 do not name, from the slot, the event and the short time of the delivery, 0x400 at a timeout (R419, R478;
log entry 85). -/
opaque swaitRest : Nat → Nat → Word → BitVec 64

/-- The bits above SEW of a 64-bit port word that VSTPUSH appends, by the number of the free value (R419; log entry 53). -/
opaque stHigh : Nat → BitVec 64

end Sys2Proof.Config
end

