-- ==== Sys2Proof/Machine/Aes.lean ====
section
/-! DEFINITION. AES-256 (FIPS 197), its key wrap (SP 800-38F) and AES-256-GCM with 96-bit IVs (SP 800-38D), which the spec names for clip keys and
clip essence (R380, R381, R454; log entry 38). -/

namespace Sys2Proof.Machine

/-- Multiplication by x in GF(2^8). -/
def gfX (b : Byte) : Byte := if b.getLsbD 7 then (b <<< 1) ^^^ 0x1B#8 else b <<< 1

/-- Multiplication in GF(2^8), over the bits of the first factor. -/
def gfMul (a b : Byte) : Byte :=
  ((List.range 8).foldl (fun (p : Byte × Byte) i => (if a.getLsbD i then p.1 ^^^ p.2 else p.1, gfX p.2)) (0, b)).1

/-- The inverse in GF(2^8) as the 254th power, 0 for 0. -/
def gfInv (b : Byte) : Byte :=
  let sq (x : Byte) : Byte := gfMul x x
  let b2 := sq b
  let b3 := gfMul b2 b
  let b12 := sq (sq b3)
  let b15 := gfMul b12 b3
  let b240 := sq (sq (sq (sq b15)))
  gfMul (gfMul b240 b12) b2

/-- The S-box. -/
def sbox (b : Byte) : Byte :=
  let i := gfInv b
  i ^^^ i.rotateLeft 1 ^^^ i.rotateLeft 2 ^^^ i.rotateLeft 3 ^^^ i.rotateLeft 4 ^^^ 0x63#8

/-- The inverse S-box. -/
def sboxInv (b : Byte) : Byte := gfInv (b.rotateLeft 1 ^^^ b.rotateLeft 3 ^^^ b.rotateLeft 6 ^^^ 0x05#8)

/-- Byte strings added. -/
def xorBytes (a b : List Byte) : List Byte := List.zipWith (· ^^^ ·) a b

/-- One step of the key expansion for word `i`: the words so far, newest first. -/
def aesKeyWord (ws : List (List Byte)) (i : Nat) : List (List Byte) :=
  let t := ws.headD []
  let t := if i % 8 = 0 then
      match (t.drop 1 ++ t.take 1).map sbox with
      | h :: r => (h ^^^ (1#8 <<< (i / 8 - 1))) :: r
      | [] => []
    else if i % 8 = 4 then t.map sbox else t
  xorBytes (ws.getD 7 []) t :: ws

/-- The fifteen round keys of AES-256. -/
def aesKeys (key : List Byte) : List (List Byte) :=
  let w0 := ((List.range 8).map (fun i => sliceAt key (4 * i) 4)).reverse
  let ws := ((List.range 52).foldl (fun ws i => aesKeyWord ws (i + 8)) w0).reverse
  (List.range 15).map (fun r => ((ws.drop (4 * r)).take 4).flatten)

/-- Rows shifted: the byte at row r of column c comes from column c + k·r. -/
def aesShift (k : Nat) (st : List Byte) : List Byte :=
  (List.range 16).map (fun i => st.getD (4 * ((i / 4 + k * (i % 4)) % 4) + i % 4) 0)

/-- Columns mixed with a circulant matrix. -/
def aesMix (m : List Byte) (st : List Byte) : List Byte :=
  (List.range 16).map (fun i =>
    (List.range 4).foldl (fun a j => a ^^^ gfMul (m.getD ((j + 4 - i % 4) % 4) 0) (st.getD (4 * (i / 4) + j) 0)) 0)

/-- AES-256 of one block. -/
def aesEnc (key blk : List Byte) : List Byte :=
  match aesKeys key with
  | k0 :: ks =>
    let st := (ks.take 13).foldl (fun st k => xorBytes (aesMix [2, 3, 1, 1] (aesShift 1 (st.map sbox))) k) (xorBytes blk k0)
    xorBytes (aesShift 1 (st.map sbox)) (ks.getD 13 [])
  | [] => blk

/-- The inverse of AES-256 of one block. -/
def aesDec (key blk : List Byte) : List Byte :=
  match (aesKeys key).reverse with
  | k0 :: ks =>
    let st := (ks.take 13).foldl (fun st k => aesMix [14, 11, 13, 9] (xorBytes ((aesShift 3 st).map sboxInv) k)) (xorBytes blk k0)
    xorBytes ((aesShift 3 st).map sboxInv) (ks.getD 13 [])
  | [] => blk

/-- The initial value of key wrap. -/
def kwIv : List Byte := List.replicate 8 0xA6

/-- AES-256 key wrap of a whole number of 8-byte blocks. -/
def aesWrap (kek plain : List Byte) : List Byte :=
  let n := plain.length / 8
  let r := (List.range n).map (fun i => sliceAt plain (8 * i) 8)
  let step (s : List Byte × List (List Byte)) (t : Nat) : List Byte × List (List Byte) :=
    let b := aesEnc kek (s.1 ++ s.2.getD (t % n) [])
    (xorBytes (b.take 8) (beBytes 8 (t + 1)), setAt s.2 (t % n) (b.drop 8))
  let (a, r) := (List.range (6 * n)).foldl step (kwIv, r)
  a ++ r.flatten

/-- AES-256 key unwrap; none where the integrity check fails. -/
def aesUnwrap (kek c : List Byte) : Option (List Byte) :=
  let n := c.length / 8 - 1
  let r := (List.range n).map (fun i => sliceAt c (8 * i + 8) 8)
  let step (s : List Byte × List (List Byte)) (t : Nat) : List Byte × List (List Byte) :=
    let b := aesDec kek (xorBytes s.1 (beBytes 8 (t + 1)) ++ s.2.getD (t % n) [])
    (b.take 8, setAt s.2 (t % n) (b.drop 8))
  let (a, r) := (List.range (6 * n)).reverse.foldl step (c.take 8, r)
  if a = kwIv && c.length % 8 == 0 && decide (3 ≤ c.length / 8) then some r.flatten else none

/-- A block as a 128-bit value, first byte highest. -/
def be128 (b : List Byte) : BitVec 128 := b.foldl (fun a x => a <<< 8 ||| x.setWidth 128) 0

/-- Multiplication in the field of GHASH. -/
def ghashMul (x y : BitVec 128) : BitVec 128 :=
  ((List.range 128).foldl (fun (p : BitVec 128 × BitVec 128) i =>
    (if x.getLsbD (127 - i) then p.1 ^^^ p.2 else p.1,
      if p.2.getLsbD 0 then (p.2 >>> 1) ^^^ (0xE1#128 <<< 120) else p.2 >>> 1)) (0, y)).1

/-- A byte string cut into blocks, the last padded with zeros. -/
def blocks16 (b : List Byte) : List (List Byte) := (List.range (ceilDiv b.length 16)).map (fun i => sliceAt b (16 * i) 16)

/-- GHASH over additional data and ciphertext. -/
def ghash (h : BitVec 128) (aad c : List Byte) : BitVec 128 :=
  let bs := blocks16 aad ++ blocks16 c ++ [beBytes 8 (8 * aad.length) ++ beBytes 8 (8 * c.length)]
  bs.foldl (fun y b => ghashMul (y ^^^ be128 b) h) 0

/-- Counter-mode bytes from counter value 2 on. -/
def gcmCrypt (key iv p : List Byte) : List Byte :=
  (blocks16 p).zipIdx.flatMap (fun e => xorBytes (sliceAt p (16 * e.2) (min 16 (p.length - 16 * e.2))) (aesEnc key (iv ++ beBytes 4 (e.2 + 2))))

/-- The 16-byte tag of AES-256-GCM. -/
def gcmTag (key iv aad c : List Byte) : List Byte :=
  let h := be128 (aesEnc key (List.replicate 16 0))
  xorBytes (beBytes 16 (ghash h aad c).toNat) (aesEnc key (iv ++ beBytes 4 1))

/-- AES-256-GCM: ciphertext followed by its tag (R381). -/
def gcmSeal (key iv aad p : List Byte) : List Byte :=
  let c := gcmCrypt key iv p
  c ++ gcmTag key iv aad c

/-- AES-256-GCM opened: none where the tag fails. -/
def gcmOpen (key iv aad v : List Byte) : Option (List Byte) :=
  let c := v.take (v.length - 16)
  if 16 ≤ v.length && gcmTag key iv aad c = v.drop (v.length - 16) then some (gcmCrypt key iv c) else none

end Sys2Proof.Machine
end

