-- ==== Sys2Proof/Machine/CallCore.lean ====
section
/-! DEFINITION. MSI-X messages (R437), Call entries (R440) and the writing of Answers (R441, R442). -/

namespace Sys2Proof.Machine

/-! ### MSI-X (R437) -/

/-- A vector's record. -/
def State.msixOf (s : State) (v : Nat) : MsixVec := tabGet s.call.msix {} v
/-- A vector's record set. -/
def State.setMsix (s : State) (v : Nat) (x : MsixVec) : State := { s with call := { s.call with msix := tabSet s.call.msix {} v x } }

/-- A message on a vector: sent, or pending while the vector is masked. -/
def State.msixSend (s : State) (v : Nat) : State :=
  let x := s.msixOf v
  if x.masked then s.setMsix v { x with pending := true } else s.emit (.msix v)

/-- Row MSIX_UNMASK: a write of a vector's mask bit; unmasking sends a pending message. -/
def execMsixUnmask (v : Fin 2048) (mask : Bool) (s : State) : Res :=
  .next (
    if !s.hostUp then s
    else
      let x := s.msixOf v
      if mask then s.setMsix v { x with masked := true }
      else
        let s := s.setMsix v { masked := false, pending := false }
        if x.pending then s.emit (.msix v) else s)

/-! ### Answers -/

/-- A Call queue's record. -/
def State.callQ (s : State) (q : Nat) : CallQ := tabGet s.call.q {} q
/-- A Call queue's record set. -/
def State.setCallQ (s : State) (q : Nat) (x : CallQ) : State := { s with call := { s.call with q := tabSet s.call.q {} q x } }
/-- An Answer queue's record. -/
def State.ansQ (s : State) (a : Nat) : AnsQ := tabGet s.call.a {} a
/-- An Answer queue's record set. -/
def State.setAnsQ (s : State) (a : Nat) (x : AnsQ) : State := { s with call := { s.call with a := tabSet s.call.a {} a x } }

/-- The Answer queue that a Call queue names. -/
def State.callAq (s : State) (q : Nat) : Nat := bitsOf (s.rd (CLL_Q_CFG q)).toNat 11 8

/-- Entries of an Answer ring. -/
def State.ansSize (s : State) (a : Nat) : Nat := 2 ^ bitsOf (s.rd (CLL_A_CFG a)).toNat 3 0

/-- The queue takes no further Call: HEAD, TAIL and BUSY read 0 (R439). -/
def State.callClear (s : State) (q : Nat) : State :=
  let s := s.setCallQ q { s.callQ q with cur := none, stop := false }
  ((s.wr (CLL_Q_HEAD q) 0).wr (CLL_Q_TAIL q) 0).setFld (CLL_Q_STATUS q) ⟨1, 1⟩ 0

/-- A Call's Answer is written: the queue may take its next Call. -/
def State.callEnded (s : State) (q : Nat) : State :=
  let x := s.callQ q
  if x.stop then s.callClear q else (s.setCallQ q { x with cur := none }).setFld (CLL_Q_STATUS q) ⟨1, 1⟩ 0

/-- The 32 bytes of an Answer entry (R441). -/
def ansBytes (e : Answer) (phase : Bool) (now : Word) : List Byte :=
  leBytes 2 e.tag ++ leBytes 1 e.status ++ leBytes 1 (e.queue + 128 * b2n phase) ++ leBytes 2 e.head ++ leBytes 2 0 ++ leBytes 8 e.r0 ++
    leBytes 8 e.r1 ++ wordBytes now ++ leBytes 4 0

/-- An Answer is written if its ring has room; else the Call waits and FULL is set (R441). -/
def State.ansPut (s : State) (a : Nat) (e : Answer) : State :=
  let n := s.ansSize a
  let t := (s.rd (CLL_A_TAIL a)).toNat
  let x := s.ansQ a
  if !bitOf (s.rd (CLL_A_CFG a)) 8 then s.setAnsQ a { x with wait := x.wait ++ [e] }
  else if (t + 1) % n = (s.rd (CLL_A_HEAD a)).toNat % n then
    ((s.setAnsQ a { x with wait := x.wait ++ [e] }).setFld (CLL_A_STATUS a) ⟨0, 0⟩ 1).raise 777 0x0B00
  else
    let base := s.rd64 (CLL_A_BASE_LO a) (CLL_A_BASE_HI a) / 32 * 32
    let s := s.emit (.hostWrite (base + 32 * t) (ansBytes e x.phase s.ns))
    let s := s.wr (CLL_A_TAIL a) (w32 ((t + 1) % n))
    let s := if (t + 1) % n = 0 then s.setAnsQ a { s.ansQ a with phase := !x.phase } else s
    (s.msixSend (bitsOf (s.rd (CLL_A_CFG a)).toNat 26 16)).callEnded e.queue

/-- Answers that waited are written while there is room. -/
def State.ansFlush : Nat → State → Nat → State
  | 0, s, _ => s
  | k + 1, s, a =>
    match (s.ansQ a).wait with
    | [] => s
    | e :: es =>
      let n := s.ansSize a
      if !bitOf (s.rd (CLL_A_CFG a)) 8 || (((s.rd (CLL_A_TAIL a)).toNat + 1) % n == (s.rd (CLL_A_HEAD a)).toNat % n) then s
      else State.ansFlush k ((s.setAnsQ a { s.ansQ a with wait := es }).ansPut a e) a

/-- A Call gets its Answer (R442). -/
def State.callAnswer (s : State) (q status : Nat) (r0 r1 : Nat := 0) : State :=
  let x := s.callQ q
  match x.cur with
  | some (c, _) =>
    let s := s.setCallQ q { x with cur := some (c, none) }
    s.ansPut (s.callAq q) ⟨q, c.tag, status, (s.rd (CLL_Q_HEAD q)).toNat, r0, r1⟩
  | none => s

/-- What a Call waited for has happened: each Call that waits for it gets its Answer. -/
def State.callDone (s : State) (w : WaitFor) (status : Nat) (r0 r1 : Nat := 0) : State :=
  (List.range 16).foldl (fun s q =>
    match (s.callQ q).cur with
    | some (_, some x) => if x = w then s.callAnswer q status r0 r1 else s
    | _ => s) s

/-- A Call of a queue waits. -/
def State.callWait (s : State) (q : Nat) (w : WaitFor) : State :=
  match (s.callQ q).cur with
  | some (c, _) => s.setCallQ q { s.callQ q with cur := some (c, some w) }
  | none => s

/-- A Call entry read from its 64 bytes (R440). -/
def callOf (b : List Byte) : Call :=
  ⟨leAt b 0 2, leAt b 2 2, (List.range 4).map (fun i => leAt b (8 + 8 * i) 8), leAt b 0x28 8, leAt b 0x30 4⟩

/-- The opcodes of R444. -/
def callOps : List Nat :=
  [0x0001, 0x0002, 0x0101, 0x0102, 0x0103, 0x0104, 0x0201, 0x0301, 0x0302, 0x0303, 0x0304, 0x0401, 0x0402, 0x0403, 0x0404, 0x0405, 0x0601]

/-- Argument `i` of a Call. -/
def Call.arg (c : Call) (i : Nat) : Nat := c.args.getD i 0

/-- The Call service reads the next Call of a queue and, where its opcode and arguments are those of the row, runs it; an opcode outside R444 is
answered BAD_OPCODE. -/
def State.callRun (s : State) (q op : Nat) (sel : Call → Bool) (f : State → Call → State) : State :=
  let h := (s.rd (CLL_Q_HEAD q)).toNat
  if !bitOf (s.rd (CLL_Q_CFG q)) 0 || (s.callQ q).cur.isSome || h == (s.rd (CLL_Q_TAIL q)).toNat || !s.hostUp then s
  else
    let c := callOf (tabGet (s.callQ q).entries [] h)
    let take (s : State) : State :=
      ((s.setCallQ q { s.callQ q with cur := some (c, none) }).wr (CLL_Q_HEAD q) (w32 ((h + 1) % 256))).setFld (CLL_Q_STATUS q) ⟨1, 1⟩ 1
    if !callOps.contains c.op then s.settle ((take s).callAnswer q 1)
    else if c.op = op && sel c then s.settle (f (take s) c)
    else s

end Sys2Proof.Machine
end

