-- ==== Sys2Proof/Machine/VaultCore.lean ====
section
/-! DEFINITION. The Botos Vault as the other blocks use it: its state and registers, Hold, random bytes, media keys, measurements and quotes
(R457 to R462, R469, R470). -/

namespace Sys2Proof.Machine

/-- LIFECYCLE as VLT_STATUS gives it (R457). -/
def Vault.lifecycle (v : Vault) : Nat := if v.life = 0 then 0 else if v.life ≤ 32 then 1 else if v.life ≤ 64 then 2 else 3

/-- The policy in force: none before DEPLOYED (R466). -/
def Vault.pol (v : Vault) : List Byte := if 2 ≤ v.lifecycle then v.policy else []

/-- PFLAGS of the policy in force (R464). -/
def Vault.pflags (v : Vault) : Nat := leAt v.pol 6 2

/-- The Vault registers show their values from LOADER on (R114). -/
def State.vaultShow (s : State) : State :=
  if s.stage < 2 then s
  else
    let v := s.vault
    let st := b2n v.ready + 2 * b2n v.hold + 4 * b2n (!v.queue.isEmpty || !v.verify.isEmpty) + 8 * b2n (tabGet v.sess none 16).isSome +
      16 * (v.pflags % 2) + 32 * b2n v.rtcValid + 64 * v.lifecycle
    let s := ((s.wr VLT_STATUS (w32 st)).wr VLT_HOLD_CAUSE (w32 v.cause)).wr VLT_RB_RIG (w32 v.rbRig)
    let s := (s.wr VLT_RB_CAL (w32 v.rbCal)).wr VLT_RB_FW (w32 v.rbFw)
    (List.range 4).foldl (fun s i => s.wr (VLT_SERIAL i) (w32 (leAt v.serial (4 * i) 4))) s

/-- The Vault's record set, with its registers. -/
def State.setVault (s : State) (v : Vault) : State := { s with vault := v }.vaultShow

/-- What the Vault takes up next: a verification before a host request (R468). -/
def Vault.next (v : Vault) : Option Bool := if !v.verify.isEmpty then some true else if !v.queue.isEmpty then some false else none

/-- A verification is asked of the Vault; it is in progress at once where the Vault is idle. -/
def State.vaultAsk (s : State) (x : VVerify) : State :=
  let v := s.vault
  s.setVault { v with verify := v.verify ++ [x], turn := if v.turn.isSome then v.turn else some true }

/-- A host request arrives at the Vault (R467); the session of its path counts it (R466). -/
def State.vaultHost (s : State) (r : VReq) : State :=
  let v := s.vault
  let sess := match tabGet v.sess none r.path with | some x => tabSet v.sess none r.path (some (x.1, s.ticks)) | none => v.sess
  s.setVault { v with queue := v.queue ++ [r], sess := sess, turn := if v.turn.isSome then v.turn else some false }

/-- The verification in progress ends; a request that waits comes next. -/
def State.verifyPop (s : State) : State :=
  let v := s.vault
  let w := { v with verify := v.verify.tail }
  s.setVault { w with turn := w.next }

/-- A Hold cause sets (R469). -/
def State.vaultHoldSet (s : State) (bit : Nat) : State :=
  let v := s.vault
  if bitsOf v.cause bit bit = 1 then s.setVault { v with hold := true }
  else (s.setVault { v with hold := true, cause := v.cause + 2 ^ bit }).raise 992 0x0E06 [w32 bit]

/-- A Hold cause clears; Hold itself stays (R469). -/
def State.vaultHoldClear (s : State) (bit : Nat) : State :=
  let v := s.vault
  if bitsOf v.cause bit bit = 1 then s.setVault { v with cause := v.cause - 2 ^ bit } else s

/-- Random bytes of the DRBG (R454): free values. -/
def State.drbg (s : State) (n : Nat) : List Byte × State := ((List.range n).map (Config.freeByte s.freeCtr), s.useFree)

/-- UTC seconds of the secure RTC. -/
def State.rtcNow (s : State) : Nat := s.vault.rtcSec + (s.ticks - s.vault.rtcTick) / 1250000000

/-- UTC seconds, or 0 while the RTC is not valid. -/
def State.utc (s : State) : Nat := if s.vault.rtcValid then s.rtcNow else 0

/-- A media key (R461). -/
def State.mediaKey (s : State) (id : Nat) : Option (List Byte) := (s.vault.keys.find? (·.1 == id)).map (·.2)

/-- A measurement extended by a hash (R459). -/
def measExtend (m h : List Byte) : List Byte := sha384 (m ++ h)

/-- A store applies to its first head (R459). -/
def State.storeMeasure (s : State) (st : CalStore) : State :=
  if st.used then s else s.setVault { s.vault with calMeas := measExtend s.vault.calMeas st.hash }

/-- The calibration store applies to a head. -/
def State.calMeasure (s : State) : State := { s.storeMeasure s.calNew with calNew := { s.calNew with used := true } }

/-- The colour store applies to a head. -/
def State.colMeasure (s : State) : State := { s.storeMeasure s.colNew with colNew := { s.colNew with used := true } }

/-- The 16 bytes of RIG_ACTIVE_ID. -/
def State.rigId (s : State) : List Byte := (List.range 4).flatMap (fun i => wordBytes (s.rd (RIG_ACTIVE_ID i)))

/-- The 256-byte body of a quote (R460). -/
def State.quoteBody (s : State) (purpose : Nat) (nonce : List Byte) : List Byte :=
  let v := s.vault
  leBytes 4 0x51415843 ++ leBytes 2 1 ++ leBytes 2 purpose ++ sliceAt v.serial 0 16 ++ wordBytes (s.rd LOG_PCYCLES) ++ wordBytes s.ns ++
    sliceAt nonce 0 32 ++ s.rigId ++ v.rigMeas ++ v.calMeas ++ v.fwMeas ++ leBytes 8 s.utc ++
    leBytes 4 (b2n v.rtcValid + 2 * (v.pflags % 2) + 4 * b2n (v.lifecycle == 2)) ++ leBytes 2 v.rbRig ++ leBytes 2 v.rbCal ++ leBytes 2 v.rbFw ++
    List.replicate 14 0

/-- A quote of 3,661 bytes; its two signatures are free values (R460; log entry 39). -/
def State.quote (s : State) (purpose : Nat) (nonce : List Byte) : List Byte × State :=
  let (sig, t) := s.drbg 3405
  (s.quoteBody purpose nonce ++ sig, t)

end Sys2Proof.Machine
end

