-- ==== Sys2Proof/Machine/Media.lean ====
section
/-! DEFINITION. Root ports, NVMe commands, and the Shell layout on a media set: addresses, journal, directory, allocation, superblocks
(R359 to R367, R377). -/

namespace Sys2Proof.Machine

/-! ### Records -/

/-- A root port's record. -/
def State.nvOf (s : State) (p : Nat) : NvPort := tabGet s.nv {} p
/-- A root port's record set. -/
def State.setNv (s : State) (p : Nat) (x : NvPort) : State := { s with nv := tabSet s.nv {} p x }
/-- A media set's record. -/
def State.mediaOf (s : State) (m : Nat) : RecSet := tabGet s.sets {} m
/-- A media set's record set. -/
def State.setMedia (s : State) (m : Nat) (x : RecSet) : State := { s with sets := tabSet s.sets {} m x }

/-- The root ports of a set (R359). -/
def State.setPorts (s : State) (m : Nat) : List Nat := (List.range 4).filter (fun p => bitOf (s.rd (REC_M_CFG m)) p)

/-- The set that a root port belongs to. -/
def State.portSet (s : State) (p : Nat) : Option Nat := (List.range 4).find? (fun m => bitOf (s.rd (REC_M_CFG m)) 4 && bitOf (s.rd (REC_M_CFG m)) p)

/-- STATE of a set. -/
def State.setState (s : State) (m : Nat) : Nat := bitsOf (s.rd (REC_M_STATUS m)).toNat 2 0
/-- STATE of a set changed. -/
def State.setSetState (s : State) (m v : Nat) : State := s.setFld (REC_M_STATUS m) ⟨2, 0⟩ v

/-- The quad that carries a root port: root ports in use take the PROTO 2 quads in ascending order (log entry 43). -/
def State.nvQuad (s : State) (p : Nat) : Nat :=
  let rank := ((List.range p).filter (fun i => (s.rd (NVR_CFG i)).getLsbD 0)).length
  (((List.range 40).filter (fun q => bitsOf (s.rd (LND_Q_CFG q)).toNat 3 0 == 2))[rank]?).getD 2

/-- BLOCK_ID that raises a root port's events (R524). -/
def State.nvBid (s : State) (p : Nat) : Nat := 0x0B00 + s.nvQuad p

/-! ### NVMe commands (R360, R361) -/

/-- A command issued on a root port; in the safe state no NVMe command is issued (R503). -/
def State.nvIssue (s : State) (p op lba blocks : Nat) (data : List Byte) (use : NvUse) : State :=
  let x := s.nvOf p
  if s.safe then s
  else (s.setNv p { x with cmds := x.cmds ++ [⟨x.next, op, use⟩], next := (x.next + 1) % 65536 }).emit (.nvme p op lba blocks x.next data)

/-- A block of a set stripe: root port and drive block (R363). -/
def State.setAddr (s : State) (m stripe blk : Nat) : Nat × Nat :=
  let d := (s.mediaOf m).disks
  let n := max 1 d.length
  (d.getD (stripe % n) 0, 1024 * (1 + stripe / n) + blk)

/-- Whole blocks written at a place of a set stripe. -/
def State.setWrite (s : State) (m stripe blk : Nat) (data : List Byte) (use : NvUse) : State :=
  let (p, lba) := s.setAddr m stripe blk
  s.nvIssue p 1 lba (data.length / 4096) data use

/-- Flush on every drive of a set. -/
def State.setFlush (s : State) (m : Nat) (use : NvUse) : State := (s.mediaOf m).disks.foldl (fun s p => s.nvIssue p 0 0 0 [] use) s

/-! ### Superblocks (R364) -/

/-- A structure of a fixed size closed by its CRC-32C. -/
def withCrc (size : Nat) (b : List Byte) : List Byte := let x := sliceAt b 0 (size - 4); x ++ wordBytes (crc32c x)

/-- The CRC at the end of a structure holds. -/
def crcOk (size : Nat) (b : List Byte) : Bool := b.length == size && leAt b (size - 4) 4 == (crc32c (b.take (size - 4))).toNat

/-- A valid superblock. -/
def superOk (b : List Byte) : Bool :=
  crcOk 4096 b && leAt b 0 4 == 0x48535843 && leAt b 4 2 == 1 && decide (1 ≤ leAt b 6 1) && decide (leAt b 6 1 ≤ 4) && decide (leAt b 7 1 < leAt b 6 1) &&
    leAt b 0x18 4 == 4096 && leAt b 0x1C 4 == 1024

/-- The superblock that a reader takes: block 0, or block 1 where the CRC of block 0 fails. -/
def superPick (b0 b1 : List Byte) : Option (List Byte) := if crcOk 4096 b0 then (if superOk b0 then some b0 else none) else if superOk b1 then some b1 else none

/-- A new superblock. -/
def superBytes (drives index : Nat) (uuid : List Byte) (stripes utc : Nat) (serials : List Byte) : List Byte :=
  withCrc 4096 (leBytes 4 0x48535843 ++ leBytes 2 1 ++ leBytes 1 drives ++ leBytes 1 index ++ sliceAt uuid 0 16 ++ leBytes 4 4096 ++ leBytes 4 1024 ++
    leBytes 4 stripes ++ leBytes 4 64 ++ leBytes 4 16 ++ leBytes 4 32768 ++ leBytes 8 utc ++ List.replicate 32 0 ++ sliceAt serials 0 80)

/-- SET_STRIPES of drives (R363). -/
def setStripes (blocks : List Nat) : Nat :=
  match blocks with
  | [] => 0
  | b :: bs => blocks.length * (bs.foldl min b / 1024 - 1)

/-! ### Directory (R366) -/

/-- The extents that the `i`-th entry of a clip holds. -/
def extChunk (xs : List Extent) (i : Nat) : List Extent := (xs.drop (47 * i)).take 47

/-- The extent table of an entry. -/
def extBytes (xs : List Extent) : List Byte :=
  sliceAt (xs.flatMap (fun x => leBytes 4 x.file ++ leBytes 4 x.set ++ leBytes 4 x.count ++ leBytes 4 0)) 0 752

/-- The 1,024 bytes of a clip's first directory entry. -/
def dirBytes (d : DirEnt) : List Byte :=
  let xs := extChunk d.extents 0
  let a := leBytes 4 0x44435843 ++ leBytes 1 d.state ++ leBytes 1 d.kind ++ leBytes 1 d.chan ++ leBytes 1 d.flags ++ leBytes 8 d.jseq ++
    sliceAt d.clipId 0 16 ++ sliceAt d.name 0 32 ++ wordBytes d.startTc ++ leBytes 4 d.frames ++ leBytes 8 d.length ++ leBytes 8 d.utc ++
    leBytes 4 d.peer ++ leBytes 4 (d.chain.headD 0xFFFFFFFF) ++ leBytes 2 xs.length ++ leBytes 2 0 ++ leBytes 4 d.keyId ++ sliceAt d.wrapped 0 40 ++
    sliceAt d.rigId 0 16 ++ sliceAt d.calId 0 16
  withCrc 1024 (sliceAt a 0 0x100 ++ extBytes xs)

/-- The 1,024 bytes of the `i`-th continuation entry of a clip. -/
def contBytes (d : DirEnt) (i : Nat) : List Byte :=
  let xs := extChunk d.extents (i + 1)
  let a := leBytes 4 0x44435843 ++ leBytes 1 d.state ++ leBytes 1 2 ++ leBytes 2 0 ++ leBytes 8 d.jseq ++ List.replicate 0x4C 0 ++
    leBytes 4 (d.chain.getD (i + 1) 0xFFFFFFFF) ++ leBytes 2 xs.length
  withCrc 1024 (sliceAt a 0 0x100 ++ extBytes xs)

/-- One entry rewritten in the copy not last written, with the block of two entries that holds it. -/
def State.dirPutOne (s : State) (m e : Nat) (copy : Bool) (b : List Byte) : State :=
  let x := s.mediaOf m
  let s := s.setMedia m { x with raw := tabSet x.raw [] (2 * e + b2n copy) b }
  let e0 := e / 2 * 2
  let data := (List.range 4).flatMap (fun i => sliceAt (tabGet (s.mediaOf m).raw [] (2 * e0 + i)) 0 1024)
  s.setWrite m (64 + e / 2048) (e % 2048 / 2) data (.set m)

/-- A clip's directory entries rewritten. -/
def State.dirPut (s : State) (m e : Nat) (d : DirEnt) : State :=
  let d := { d with copy := !d.copy }
  let x := s.mediaOf m
  let s := s.setMedia m { x with dir := tabSet x.dir {} e d }
  let s := s.dirPutOne m e d.copy (dirBytes d)
  (d.chain.zipIdx).foldl (fun s p =>
    let x := s.mediaOf m
    let k := tabGet x.dir {} p.1
    let k := { k with state := d.state, kind := 2, jseq := d.jseq, copy := !k.copy }
    let s := s.setMedia m { x with dir := tabSet x.dir {} p.1 k }
    s.dirPutOne m p.1 k.copy (contBytes d p.2)) s

/-- A free directory entry: the lowest one with STATE 0. -/
def State.dirFree (s : State) (m : Nat) : Option Nat :=
  let d := (s.mediaOf m).dir
  if d.length < 32768 then
    (List.range (d.length + 1)).find? (fun e => (tabGet d {} e).state == 0)
  else (d.find? (fun e => e.2.state == 0)).map (·.1)

/-- Continuation entries are taken until the extents have room. -/
def State.dirChain (s : State) (m e : Nat) : State :=
  let x := s.mediaOf m
  let d := tabGet x.dir {} e
  if d.extents.length ≤ 47 * (1 + d.chain.length) then s
  else
    match s.dirFree m with
    | some k =>
      let dir := tabSet x.dir {} k { state := d.state, kind := 2 }
      s.setMedia m { x with dir := tabSet dir {} e { d with chain := d.chain ++ [k] } }
    | none => s

/-! ### Allocation (R367) -/

/-- The stripes in use: those of OPEN, SEALED and RECOVERED entries. -/
def RecSet.used (x : RecSet) : List Extent := x.dir.flatMap (fun e => if e.2.state == 1 || e.2.state == 2 || e.2.state == 3 then e.2.extents else [])

/-- Free data stripes. -/
def RecSet.free (x : RecSet) : Nat := x.stripes - 80 - (x.used.map (·.count)).sum

/-- REC_M_FREE and REC_M_TOTAL. -/
def State.setShow (s : State) (m : Nat) : State :=
  let x := s.mediaOf m
  (s.wr (REC_M_TOTAL m) (w32 x.stripes)).wr (REC_M_FREE m) (w32 x.free)

/-- The start of `n` consecutive free stripes, looked for from the last run on, then from stripe 80. -/
def RecSet.findRun (x : RecSet) (n : Nat) : Option Nat :=
  let u := x.used
  let ok (a : Nat) : Bool := decide (80 ≤ a) && decide (a + n ≤ x.stripes) && u.all (fun e => decide (a + n ≤ e.set) || decide (e.set + e.count ≤ a))
  let cs := (max 80 x.nextFit :: 80 :: u.map (fun e => e.set + e.count)).filter ok
  let least (l : List Nat) : Option Nat := match l with | [] => none | a :: as => some (as.foldl min a)
  match least (cs.filter (fun a => decide (x.nextFit ≤ a))) with
  | some a => some a
  | none => least cs

/-- A run appended to a clip's extents; one that follows on lengthens the last extent. -/
def extAdd (xs : List Extent) (a n : Nat) : List Extent :=
  match xs.reverse with
  | [] => [⟨0, a, n⟩]
  | l :: rs => if l.set + l.count = a then (⟨l.file, l.set, l.count + n⟩ :: rs).reverse else (⟨l.file + l.count, a, n⟩ :: l :: rs).reverse

/-- Stripes that a clip holds. -/
def extStripes (xs : List Extent) : Nat := (xs.map (·.count)).sum

/-- `n` stripes taken for an entry where a run of them is free; the run as an extent of the file. -/
def State.takeRun (s : State) (m e n : Nat) : Option (State × Extent) :=
  let x := s.mediaOf m
  match x.findRun n with
  | none => none
  | some a =>
    let d := tabGet x.dir {} e
    let run : Extent := ⟨extStripes d.extents, a, n⟩
    let s := s.setMedia m { x with dir := tabSet x.dir {} e { d with extents := extAdd d.extents a n }, nextFit := a + n }
    some ((s.dirChain m e).setShow m, run)

/-- The set stripe that holds a file stripe. -/
def stripeOf (xs : List Extent) (f : Nat) : Option Nat := (xs.find? (fun x => x.file ≤ f && f < x.file + x.count)).map (fun x => x.set + (f - x.file))

/-! ### Journal (R365) -/

/-- The 64 bytes of a journal record. -/
def jrecBytes (seq : Nat) (r : JRec) (now : Word) : List Byte :=
  withCrc 64 (leBytes 8 seq ++ leBytes 1 r.typ ++ leBytes 1 r.chan ++ leBytes 2 0 ++ leBytes 4 r.entry ++ leBytes 8 r.a ++ leBytes 4 r.b ++ wordBytes now)

/-- Journal blocks written from the head of the ring on, 64 records a block; answers how many blocks. -/
def State.journal (s : State) (m : Nat) (use : NvUse) : Nat → List JRec → State × Nat
  | 0, _ => (s, 0)
  | k + 1, rs =>
    if rs.isEmpty then (s, 0)
    else
      let x := s.mediaOf m
      let blk := sliceAt ((rs.take 64).zipIdx.flatMap (fun p => jrecBytes (x.jSeq + p.2) p.1 s.ns)) 0 4096
      let s := s.setMedia m { x with jSeq := x.jSeq + (rs.take 64).length, jBlock := (x.jBlock + 1) % 65536 }
      let s := s.setWrite m (x.jBlock / 1024) (x.jBlock % 1024) blk use
      let (s, n) := State.journal s m use k (rs.drop 64)
      (s, n + 1)

/-- The highest SEQ written. -/
def State.jLast (s : State) (m : Nat) : Nat := (s.mediaOf m).jSeq - 1

/-- The ALLOC records of runs. -/
def allocRecs (chan e : Nat) (xs : List Extent) : List JRec := xs.map (fun x => ⟨1, chan, e, x.file + 4294967296 * x.set, x.count⟩)

/-! ### Mounting and recovery (R362, R377) -/

/-- A copy of a directory entry whose CRC and MAGIC hold. -/
def dirCopyOk (b : List Byte) : Bool := crcOk 1024 b && leAt b 0 4 == 0x44435843

/-- The copy that a reader takes: valid, with the higher JSEQ; true is copy B. -/
def dirPick (b : List Byte) : Option (Bool × List Byte) :=
  let a := sliceAt b 0 1024
  let c := sliceAt b 1024 1024
  match dirCopyOk a, dirCopyOk c with
  | true, true => if leAt a 8 8 < leAt c 8 8 then some (true, c) else some (false, a)
  | true, false => some (false, a)
  | false, true => some (true, c)
  | false, false => none

/-- The extents of one entry's bytes. -/
def dirExtents (b : List Byte) : List Extent :=
  (List.range (min 47 (leAt b 0x60 2))).map (fun i => ⟨leAt b (0x100 + 16 * i) 4, leAt b (0x104 + 16 * i) 4, leAt b (0x108 + 16 * i) 4⟩)

/-- One entry's bytes as a directory entry, its chain still to be followed. -/
def dirParse (copy : Bool) (b : List Byte) : DirEnt where
  state := leAt b 4 1
  kind := leAt b 5 1
  chan := leAt b 6 1
  flags := leAt b 7 1
  jseq := leAt b 8 8
  clipId := sliceAt b 0x10 16
  name := sliceAt b 0x20 32
  startTc := w32 (leAt b 0x40 4)
  frames := leAt b 0x44 4
  length := leAt b 0x48 8
  utc := leAt b 0x50 8
  peer := leAt b 0x58 4
  extents := dirExtents b
  chain := if leAt b 0x5C 4 = 0xFFFFFFFF then [] else [leAt b 0x5C 4]
  keyId := leAt b 0x64 4
  wrapped := sliceAt b 0x68 40
  rigId := sliceAt b 0x90 16
  calId := sliceAt b 0xA0 16
  copy := copy

/-- The chain of a clip followed through NEXT: its entries and extents. -/
def dirFollow (all : List (Nat × DirEnt)) : Nat → List Nat → List Nat × List Extent
  | 0, _ => ([], [])
  | k + 1, next =>
    match next with
    | [] => ([], [])
    | e :: _ =>
      match all.find? (·.1 == e) with
      | some (_, d) => let (c, x) := dirFollow all k d.chain; (e :: c, d.extents ++ x)
      | none => ([], [])

/-- The directory as read. -/
def dirRead (bs : List (Nat × List Byte)) : List (Nat × DirEnt) :=
  let all := bs.filterMap (fun p => (dirPick p.2).map (fun c => (p.1, dirParse c.1 c.2)))
  all.map (fun p => if p.2.kind = 2 then p else let (c, x) := dirFollow all 1024 p.2.chain; (p.1, { p.2 with chain := c, extents := p.2.extents ++ x }))

/-- The valid journal records of blocks: SEQ, block and record. -/
def journalRead (bs : List (Nat × List Byte)) : List (Nat × Nat × JRec) :=
  bs.flatMap (fun p => (List.range 64).filterMap (fun i =>
    let r := sliceAt p.2 (64 * i) 64
    let t := leAt r 8 1
    if crcOk 64 r && decide (1 ≤ t) && decide (t ≤ 6) then some (leAt r 0 8, p.1, ⟨t, leAt r 9 1, leAt r 0xC 4, leAt r 0x10 8, leAt r 0x18 4⟩) else none))

/-- Records sorted by SEQ: insertion. -/
def jInsert (r : Nat × Nat × JRec) : List (Nat × Nat × JRec) → List (Nat × Nat × JRec)
  | [] => [r]
  | q :: qs => if r.1 ≤ q.1 then r :: q :: qs else q :: jInsert r qs

/-- An entry's extents after the journal's ALLOC records. -/
def jAlloc (xs : List Extent) (rs : List JRec) : List Extent := (rs.filter (·.typ == 1)).foldl (fun xs r => extAdd xs (r.a / 4294967296) r.b) xs

/-- Extents trimmed to their first `n` stripes. -/
def extTrim : Nat → List Extent → List Extent
  | _, [] => []
  | n, x :: xs => if n = 0 then [] else if x.count ≤ n then x :: extTrim (n - x.count) xs else [{ x with count := n }]

/-- File bytes written from a place on, the first block completed with the bytes before it. -/
def State.fileWrite (s : State) (m : Nat) (xs : List Extent) : Nat → Nat → List Byte → State
  | 0, _, _ => s
  | k + 1, pos, data =>
    if data.isEmpty then s
    else
      let n := min 1048576 (4194304 - pos % 4194304)
      let part := data.take n
      let s := match stripeOf xs (pos / 4194304) with
        | some st => s.setWrite m st (pos % 4194304 / 4096) (sliceAt part 0 (roundUp part.length 4096)) (.set m)
        | none => s
      State.fileWrite s m xs k (pos + part.length) (data.drop n)

/-- One OPEN entry recovered (R377). -/
def State.recoverOne (s : State) (m e : Nat) (js : List (Nat × Nat × JRec)) (tails : List (Nat × List Byte)) : State :=
  let x := s.mediaOf m
  let d := tabGet x.dir {} e
  let mine := (js.filter (fun r => r.2.2.entry == e)).map (fun r => (r.1, r.2.2))
  let rs := (mine.filter (fun r => decide (d.jseq < r.1))).map (·.2)
  let d := { d with extents := jAlloc d.extents rs }
  let jmax := (mine.map (·.1)).foldl max d.jseq
  match rs.find? (·.typ == 3) with
  | some r => s.dirPut m e { d with state := 2, jseq := jmax, length := r.a, frames := r.b }
  | none =>
    let c : Option (Nat × Nat) := match (rs.filter (·.typ == 2)).getLast? with
      | some r => some (r.a, r.b)
      | none => if d.length = 0 then none else some (d.length, d.frames)
    match c with
    | none => s.dirPut m e { d with state := 4, jseq := jmax, extents := [] }
    | some (len, frames) =>
      let foot := Config.mxf 2 (dirBytes d) [frames] ++ Config.mxf 3 (dirBytes d) [frames]
      let head := sliceAt ((tails.find? (·.1 == e)).map (·.2) |>.getD []) 0 (len % 4096)
      let s := s.fileWrite m d.extents (foot.length / 4096 + 2) (len - len % 4096) (head ++ foot)
      let fin := len + foot.length
      let (s, _) := s.journal m (.set m) 1 [⟨5, 0xFF, e, fin, frames⟩]
      let s := s.setFlush m (.set m)
      let s := s.dirPut m e { d with
        state := 3, flags := d.flags ||| 16, frames := frames, length := fin, jseq := s.jLast m, extents := extTrim (ceilDiv fin 4194304) d.extents }
      (s.inc (REC_M_RECOVERED m)).raise 840 0x0E01

/-- The end of mounting (R362): the set's new STATE, and on MOUNTED the directory read, recovery and free space. -/
def State.mountEnd (s : State) (m : Nat) (rd : MountRead) : State :=
  let ports := s.setPorts m
  let sup (p : Nat) : Option (List Byte) := (rd.supers.find? (·.1 == p)).bind (fun x => superPick x.2.1 x.2.2)
  let sb := ports.filterMap (fun p => (sup p).map (fun b => (p, b)))
  let bad := ports.any (fun p => s.bit (NVR_STATUS p) NVR_STATUS_FMT_BAD || !s.bit (NVR_STATUS p) NVR_STATUS_READY)
  if bad then s.setSetState m 4
  else if sb.length < ports.length || ports.isEmpty then s.setSetState m 3
  else
    let b0 := (sb.map (·.2)).headD []
    let agree := sb.all (fun p => sliceAt p.2 8 16 == sliceAt b0 8 16 && leAt p.2 6 1 == ports.length) &&
      (List.range ports.length).all (fun i => sb.any (fun p => leAt p.2 7 1 == i))
    if !agree then s.setSetState m 4
    else
      let disks := (List.range ports.length).filterMap (fun i => (sb.find? (fun p => leAt p.2 7 1 == i)).map (·.1))
      let js := (journalRead rd.journal).foldl (fun l r => jInsert r l) []
      let dir := (dirRead rd.dir).foldl (fun t p => tabSet t {} p.1 p.2) []
      let raw := rd.dir.foldl (fun t p => tabSet (tabSet t [] (2 * p.1) (sliceAt p.2 0 1024)) [] (2 * p.1 + 1) (sliceAt p.2 1024 1024)) []
      let x : RecSet :=
        { disks := disks, uuid := sliceAt b0 8 16, stripes := leAt b0 0x20 4, dir := dir, raw := raw, jSeq := (js.getLast?.map (·.1 + 1)).getD 0,
          jBlock := (js.getLast?.map (fun r => (r.2.1 + 1) % 65536)).getD 0 }
      let s := s.setMedia m x
      let opens := (dir.filter (fun e => e.2.state == 1 && e.2.kind != 2)).map (·.1)
      let s := opens.foldl (fun s e => s.recoverOne m e js rd.tails) s
      let s := (List.range 4).foldl (fun s i => s.wr (REC_M_UUID m i) (w32 (leAt x.uuid (4 * i) 4))) s
      ((s.setShow m).setSetState m 2).raise 841 0x0E01

end Sys2Proof.Machine
end

