-- ==== Sys2Proof/Machine/Offers.lean ====
section
/-! DEFINITION. Posts of ring buffers: each post offers one frame to the sessions that read the ring (R213, R303, R329). -/

namespace Sys2Proof.Machine

/-! ### Encoder sessions (R303, R310, R320, R326) -/

/-- A session's record. -/
def State.encOf (s : State) (c e : Nat) : EncSess := tabGet s.enc {} (4 * c + e)
/-- A session's record set. -/
def State.setEnc (s : State) (c e : Nat) (x : EncSess) : State := { s with enc := tabSet s.enc {} (4 * c + e) x }
/-- A core's record. -/
def State.encCoreOf (s : State) (c : Nat) : EncCore := tabGet s.encCore {} c
/-- A core's record set. -/
def State.setEncCore (s : State) (c : Nat) (x : EncCore) : State := { s with encCore := tabSet s.encCore {} c x }

/-- A session is in use and not stopped. -/
def State.encOn (s : State) (c e : Nat) : Bool :=
  bitOf (s.rd (ENC_C_CFG c)) 4 && bitOf (s.rd (ENC_C_CFG c)) e && s.bit (ENC_S_CODEC c e) ENC_S_CODEC_EN && s.running (0x0800 + c) &&
    s.fld (ENC_S_STATUS c e) ENC_S_STATUS_STOP_REASON == 0

/-- The ring that a session reads (R302). -/
def State.encRing (s : State) (c e : Nat) : Nat :=
  let v := (s.rd (ENC_S_SRC c e)).toNat
  match v % 4 with
  | 0 => 8 + v / 4 % 8
  | 1 => 16 + v / 4 % 4
  | _ => 20 + v / 4 % 4

/-- The reader that a session is (R213). -/
def encReader (c e : Nat) : Nat := 0x0800 + 16 * c + e

/-- STRUCT of R308. -/
def State.encStruct (s : State) (c e : Nat) : Nat := s.fld (ENC_S_GOP c e) ENC_S_GOP_STRUCT

/-- Frames of a GOP: 2^BGOP for hierarchical-B, else 1. -/
def State.gopSize (s : State) (c e : Nat) : Nat := if s.encStruct c e = 3 then 2 ^ s.fld (ENC_S_GOP c e) ENC_S_GOP_BGOP else 1

/-- B pictures between two coded ones, the middle one first (R308). -/
def dyadic : Nat → Int → Int → List Int
  | 0, _, _ => []
  | n + 1, lo, hi => if hi - lo ≤ 1 then [] else let m := (lo + hi) / 2; m :: (dyadic n lo m ++ dyadic n m hi)

/-- The coding order of a GOP: an IRAP GOP codes its first frame as the IRAP; the last frame precedes the pyramid (log entry 34). -/
def gopPlan (irap : Bool) (frames : List Nat) : List EncPlan :=
  let g := frames.length
  let at_ (i : Int) : Nat := (frames[i.toNat]?).getD 0
  if irap then
    ⟨at_ 0, 0, true⟩ :: ((if 1 < g then [⟨at_ (g - 1), 1, false⟩] else []) ++ (dyadic 4 0 (g - 1)).map (fun i => ⟨at_ i, 2, false⟩))
  else ⟨at_ (g - 1), 1, false⟩ :: (dyadic 4 (-1) (g - 1)).map (fun i => ⟨at_ i, 2, false⟩)

/-- A session's pictures start: they wait for the core in order (R296). -/
def State.encReady (s : State) (c e k : Nat) : State :=
  let x := s.encCoreOf c
  s.setEncCore c { x with wait := x.wait ++ List.replicate k e }

/-- A taken frame completes a GOP, or a picture of another structure (R310): its coding order is planned, and with PACE 0 its pictures start. -/
def State.encPlanned (s : State) (c e : Nat) : State :=
  let x := s.encOf c e
  let g := s.gopSize c e
  if x.gop.length < g then s
  else
    let pace := s.bit (ENC_S_CODEC c e) ENC_S_CODEC_PACE
    let per := s.fld (ENC_S_GOP c e) ENC_S_GOP_INTRA_PERIOD
    if s.encStruct c e = 3 then
      let irap := match x.since with | none => true | some k => per != 0 && decide (per ≤ k)
      let s := s.setEnc c e { x with gop := [], plan := x.plan ++ gopPlan irap x.gop, since := some (if irap then g else (x.since.getD 0) + g) }
      if pace then s else s.encReady c e g
    else
      let s := s.setEnc c e { x with gop := [] }
      if pace then s else s.encReady c e 1

/-- Frames in the input queue, shown. -/
def State.encQueued (s : State) (c e : Nat) : State := s.setFld (ENC_S_STATUS c e) ENC_S_STATUS_QUEUED (s.encOf c e).queue.length

/-- A posted buffer is offered to a session (R303, R326). -/
def State.encOffer (s : State) (c e ring buf : Nat) (i : FrameInfo) : State :=
  let x := s.encOf c e
  let idx := x.offers
  let hot := 2 ≤ s.fld HLT_STATUS HLT_STATUS_LEVEL
  let div := s.fld (ENC_S_CODEC c e) ENC_S_CODEC_HOT_DIV + 1
  let cap := if s.encStruct c e = 3 then s.gopSize c e + 1 else 2
  if hot && (idx - x.idrIdx) % div != 0 then (s.setEnc c e { x with offers := idx + 1 }).inc (ENC_S_HOT_SKIP c e)
  else if cap ≤ x.queue.length then
    ((s.setEnc c e { x with offers := idx + 1, skipped := true }).inc (ENC_S_SRC_SKIP c e)).raiseOnce 581 (4 * c + e) (0x0800 + c)
  else
    let f : EncFrame := ⟨ring, buf, i, idx, idx - x.lastIdx, x.skipped⟩
    let s := s.setEnc c e { x with offers := idx + 1, lastIdx := idx, skipped := false, queue := x.queue ++ [f], gop := x.gop ++ [idx] }
    ((s.holdBuf ring buf [encReader c e]).encPlanned c e).encQueued c e

/-- A post of a ring reaches the sessions that read it. -/
def State.postEnc (s : State) (ring buf : Nat) (i : FrameInfo) : State :=
  (List.range 4).foldl (fun s c => (List.range 4).foldl (fun s e =>
    if s.encOn c e && s.encRing c e == ring then s.encOffer c e ring buf i else s) s) s

/-! ### ZRX sessions (R329) -/

/-- A ZRX session's record. -/
def State.zrxOf (s : State) (z : Nat) : ZrxS := tabGet s.zrx {} z
/-- A ZRX session's record set. -/
def State.setZrx (s : State) (z : Nat) (x : ZrxS) : State := { s with zrx := tabSet s.zrx {} z x }

/-- The reader that a ZRX session is (R213). -/
def zrxReader (z : Nat) : Nat := 0x0A00 + z

/-- A ZRX session is in use and not stopped. -/
def State.zrxOn (s : State) (z : Nat) : Bool :=
  s.bit (ZRX_S_CFG z) ZRX_S_CFG_EN && s.running 0x0A00 && s.fld (ZRX_S_STATUS z) ZRX_S_STATUS_STOP_REASON == 0

/-- Frames in the input queue, shown. -/
def State.zrxQueued (s : State) (z : Nat) : State := s.setFld (ZRX_S_STATUS z) ZRX_S_STATUS_QUEUED (s.zrxOf z).queue.length

/-- A closed raw frame is offered to the sessions on its head (R329). -/
def State.postZrx (s : State) (h buf : Nat) : State :=
  (List.range 8).foldl (fun s z =>
    if s.zrxOn z && s.fld (ZRX_S_CFG z) ZRX_S_CFG_HEAD == h then
      let x := s.zrxOf z
      if 2 ≤ x.queue.length then
        ((s.setZrx z { x with skipped := true }).inc (ZRX_S_SRC_SKIP z)).raiseOnce 601 z 0x0A00
      else ((s.setZrx z { x with queue := x.queue ++ [(buf, x.skipped)], skipped := false }).holdBuf h buf [zrxReader z]).zrxQueued z
    else s) s

/-! ### Ethernet send streams (R450) -/

/-- A send stream's record. -/
def State.sendOf (s : State) (n : Nat) : EthSend := tabGet s.lnd.send {} n
/-- A send stream's record set. -/
def State.setSend (s : State) (n : Nat) (x : EthSend) : State := { s with lnd := { s.lnd with send := tabSet s.lnd.send {} n x } }
/-- TYPE of a send stream. -/
def State.sendType (s : State) (n : Nat) : Nat := bitsOf (s.rd (ETH_S_CFG n)).toNat 2 1
/-- Source unit of a send stream. -/
def State.sendInst (s : State) (n : Nat) : Nat := bitsOf (s.rd (ETH_S_CFG n)).toNat 20 16
/-- The ring that a video stream reads, its source kinds being those of ENC_S_SRC (log entry 57). -/
def State.sendRing (s : State) (n : Nat) : Nat :=
  match bitsOf (s.rd (ETH_S_CFG n)).toNat 15 12 with
  | 0 => 8 + s.sendInst n % 8
  | 1 => 16 + s.sendInst n % 4
  | _ => 20 + s.sendInst n % 4
/-- The reader that a send stream is (R213). -/
def sendReader (n : Nat) : Nat := 0x0E20 + n

/-- A post of a ring reaches the video send streams that read it: each holds the newest buffer it has not sent. -/
def State.postSend (s : State) (ring buf : Nat) : State :=
  (List.range 32).foldl (fun s n =>
    if bitOf (s.rd (ETH_S_CFG n)) 0 && s.sendType n == 0 && s.sendRing n == ring then
      let x := s.sendOf n
      let s := match x.posted with
        | some (r, b) => if x.cur == some (r, b) then s else s.releaseBuf r b (sendReader n)
        | none => s
      (s.setSend n { x with posted := some (ring, buf) }).holdBuf ring buf [sendReader n]
    else s) s

/-! ### Posts -/

/-- A buffer of a ring is posted. -/
def State.postRing (s : State) (ring buf : Nat) (i : FrameInfo) : State := if ring < 8 then s.postZrx ring buf else ((s.postLayers ring buf).postEnc ring buf i).postSend ring buf

end Sys2Proof.Machine
end

