-- ==== Sys2Proof/Machine/Streams.lean ====
section
/-! DEFINITION. The Umpire's stream records as the blocks use them: backlog and refusal at run time (R99 to R103, R105). -/

namespace Sys2Proof.Machine

/-- The record of a stream's GDDR7 reservation (R105). -/
def State.strmRec (s : State) (id : Nat) : Option Nat :=
  (List.range 1024).find? (fun i => (s.rd (UMP_S_ID i)).toNat == id && s.fld (UMP_S_CFG i) UMP_S_CFG_TARGET == 1)

/-- A stream record beyond its registers. -/
def State.strmOf (s : State) (r : Nat) : Strm := tabGet s.strm {} r
/-- A stream record beyond its registers, set. -/
def State.setStrm (s : State) (r : Nat) (x : Strm) : State := { s with strm := tabSet s.strm {} r x }

/-- BACKLOG of a record in bytes. -/
def State.backlogMax (s : State) (r : Nat) : Nat := s.fld (UMP_S_CFG r) UMP_S_CFG_BACKLOG * 1048576

/-- A stream's backlog becomes `bytes` (R99, R102): BKL_NOW and BKL_PEAK in KiB, and event 25 when it first exceeds 75 % of BACKLOG. -/
def State.backlogSet (s : State) (r bytes : Nat) : State :=
  let x := s.strmOf r
  let m := s.backlogMax r
  let kib := w32 (ceilDiv bytes 1024)
  let s := (s.wr (UMP_S_BKL_NOW r) kib).wr (UMP_S_BKL_PEAK r) (if (s.rd (UMP_S_BKL_PEAK r)).toNat < kib.toNat then kib else s.rd (UMP_S_BKL_PEAK r))
  if 3 * m < 4 * bytes && !x.highRaised then (s.setStrm r { x with backlog := bytes, highRaised := true }).raise 25 0x0E00
  else s.setStrm r { x with backlog := bytes, highRaised := x.highRaised && !decide (2 * bytes < m) }

/-- A stream is refused at run time (R100): it stops with 0x06, its refusal record takes code 0x0204, and event 24 is raised. -/
def State.streamRefuse (s : State) (r : Nat) : State :=
  let s := s.setStrm r { s.strmOf r with refused := true }
  let s := if s.rd (UMP_S_STOP r) = 0 then s.wr (UMP_S_STOP r) 6 else s
  let s := ((s.wr (UMP_S_REFUSAL r) 0x00010204).wr (UMP_S_REFUSAL_TIME r) s.ns).inc UMP_RT_REFUSE_CNT
  s.raise 24 0x0E00 [s.rd (UMP_S_ID r)]

/-- The stream of an identifier is refused, where it has a record. -/
def State.streamRefuseId (s : State) (id : Nat) : State := match s.strmRec id with | some r => s.streamRefuse r | none => s

/-- The backlog of the stream of an identifier, where it has a record. -/
def State.backlogSetId (s : State) (id bytes : Nat) : State := match s.strmRec id with | some r => s.backlogSet r bytes | none => s

/-- A block's Firm stream to GDDR7 is stopped: a refused one takes no data until it restarts (R100, R103). -/
def State.firmStopped (s : State) (b : Nat) : Bool :=
  (List.range 1024).any (fun i => (s.rd (UMP_S_ID i)).toNat / 65536 == b && s.rd (UMP_S_STOP i) != 0 &&
    s.fld (UMP_S_CFG i) UMP_S_CFG_TARGET == 1 && s.fld (UMP_S_CFG i) UMP_S_CFG_CLASS == 1)

end Sys2Proof.Machine
end

