-- ==== Sys2Proof/Machine/Timecode.lean ====
section
/-! DEFINITION. Timecode in SMPTE ST 12-1 BCD, as the outputs (R287) and the recording channels (R373) count it. -/

namespace Sys2Proof.Machine

/-- A BCD digit pair advanced within a limit: value and carry. -/
def bcdNext (v lim : Nat) : Nat × Bool :=
  let n := v / 16 * 10 + v % 16 + 1
  if lim ≤ n then (0, true) else (n / 10 * 16 + n % 10, false)

/-- A timecode advanced by one frame, at a whole number of frames per second (R287). -/
def tcNext (fps : Nat) (w : Word) : Word :=
  let t := w.toNat
  let (ff, c1) := bcdNext (bitsOf t 7 0) fps
  let (ss, c2) := if c1 then bcdNext (bitsOf t 15 8) 60 else (bitsOf t 15 8, false)
  let (mm, c3) := if c2 then bcdNext (bitsOf t 23 16) 60 else (bitsOf t 23 16, false)
  let (hh, _) := if c3 then bcdNext (bitsOf t 29 24) 24 else (bitsOf t 29 24, false)
  (w &&& 0xC0000000) ||| w32 (ff + 256 * ss + 65536 * mm + 16777216 * hh)

/-- A timecode advanced by one frame with drop-frame counting when DF is set (R373): at each whole minute but every tenth, the first two frame
numbers, four at 60 fps, are left out, as SMPTE ST 12-1 gives it (log entry 40). -/
def tcNextDf (fps : Nat) (w : Word) : Word :=
  let v := tcNext fps w
  let t := v.toNat
  if bitOf w 30 && t % 65536 = 0 && bitsOf t 19 16 != 0 then v ||| w32 (2 * max 1 (fps / 30)) else v

end Sys2Proof.Machine
end

