-- ==== Sys2Proof/Machine/Record.lean ====
section
/-! DEFINITION. Recording channels: states, clips, checkpoints, seals, encryption and provenance (R353 to R358, R367 to R382). Rows 141 to 152. -/

namespace Sys2Proof.Machine

/-- A channel's record. -/
def State.recOf (s : State) (c : Nat) : RecC := tabGet s.recs {} c
/-- A channel's record set. -/
def State.setRec (s : State) (c : Nat) (x : RecC) : State := { s with recs := tabSet s.recs {} c x }
/-- A channel's open clip changed. -/
def State.setClip (s : State) (c : Nat) (k : Clip) : State := s.setRec c { s.recOf c with clip := some k }

/-- STATE of a channel (R354). -/
def State.recState (s : State) (c : Nat) : Nat := s.fld (REC_C_STATUS c) REC_C_STATUS_STATE
/-- STATE of a channel changed. -/
def State.setRecState (s : State) (c v : Nat) : State := s.setFld (REC_C_STATUS c) REC_C_STATUS_STATE v
/-- BLOCK_ID of a channel. -/
def recBid (c : Nat) : Nat := 0x0C00 + c
/-- Stream 0 of a channel (R353). -/
def recStream (c : Nat) : Nat := 65536 * recBid c
/-- The media set of a channel. -/
def State.recSet (s : State) (c : Nat) : Nat := s.fld (REC_C_CFG c) REC_C_CFG_SET
/-- A channel is in use. -/
def State.recUp (s : State) (c : Nat) : Bool := s.bit (REC_C_CFG c) REC_C_CFG_EN && s.running (recBid c)
/-- The channel that reads a picture source (R353). -/
def State.recFor (s : State) (typ inst : Nat) : Option Nat :=
  (List.range 8).find? (fun c => s.recUp c && s.fld (REC_C_CFG c) REC_C_CFG_SRC_TYPE == typ && s.fld (REC_C_CFG c) REC_C_CFG_SRC_INST == inst)

/-- The audio ports of a channel. -/
def State.recPorts (s : State) (c : Nat) : List Nat :=
  let v := (s.rd (REC_C_AUD c)).toNat
  ([bitsOf v 3 0, bitsOf v 7 4] : List Nat).take (bitsOf v 9 8)

/-- Picture rate of a channel's source as a fraction. -/
def State.recRate (s : State) (c : Nat) : Nat × Nat :=
  let i := s.fld (REC_C_CFG c) REC_C_CFG_SRC_INST
  if s.fld (REC_C_CFG c) REC_C_CFG_SRC_TYPE = 0 then (max 1 (s.headRate (s.fld (ZRX_S_CFG i) ZRX_S_CFG_HEAD)), 1000)
  else (max 1 (s.rd (ENC_S_TIME_SCALE (i / 4) (i % 4))).toNat, max 1 (s.rd (ENC_S_NUM_UNITS (i / 4) (i % 4))).toNat)

/-- The codec number of R369: 1 ZRX, 2 HEVC, 3 VVC. -/
def State.recCodec (s : State) (c : Nat) : Nat :=
  let i := s.fld (REC_C_CFG c) REC_C_CFG_SRC_INST
  if s.fld (REC_C_CFG c) REC_C_CFG_SRC_TYPE = 0 then 1 else if s.bit (ENC_S_CODEC (i / 4) (i % 4)) ENC_S_CODEC_CODEC then 3 else 2

/-! ### Essence (R368 to R371, R381) -/

/-- An element key from its last bytes. -/
def elemKey (b : List Byte) : List Byte := [0x06, 0x0E, 0x2B, 0x34, 0x01, 0x02, 0x01, 0x01] ++ b

/-- The picture element key (R369). -/
def pictureKey (nn : Nat) : List Byte := elemKey [0x0E, 0x5A, 0x03, 0x01, 0x15, 0x01, BitVec.ofNat 8 nn, 0x01]
/-- The data element key (R369). -/
def dataKey : List Byte := elemKey [0x0E, 0x5A, 0x03, 0x01, 0x17, 0x01, 0x01, 0x01]
/-- The key of sound element `i` of `n`, frame-wrapped Wave audio of ST 382 (log entry 44). -/
def soundKey (n i : Nat) : List Byte := elemKey [0x0D, 0x01, 0x03, 0x01, 0x16, BitVec.ofNat 8 n, 0x01, BitVec.ofNat 8 (i + 1)]

/-- A KLV length in BER long form (R368). -/
def berLength (n : Nat) : List Byte := if n < 16777216 then 0x83 :: beBytes 3 n else 0x87 :: beBytes 7 n

/-- An essence element, encrypted where the clip has a key (R381). -/
def essence (key : Option (List Byte)) (frame : Nat) (k v : List Byte) : List Byte :=
  let v := match key with
    | some ck => gcmSeal ck (k.drop 12 ++ beBytes 8 frame) k v
    | none => v
  k ++ berLength v.length ++ v

/-- The 64-byte frame record (R370). -/
def frameRecord (frame : Nat) (f : RecFrame) (tc : Word) (samples : Nat) (tau : Int) : List Byte :=
  withCrc 64 (leBytes 4 frame ++ wordBytes f.seq ++ wordBytes f.time ++ wordBytes f.group ++ wordBytes tc ++ leBytes 2 f.flags ++ leBytes 2 samples ++
    wordBytes f.subst ++ leBytes 8 (BitVec.ofInt 64 tau).toNat)

/-- The upper 24 bits of a slot word, little-endian. -/
def sample24 (w : Word) : List Byte := (wordBytes w).drop 1

/-- The samples of a port whose clip time lies before a limit, and the others. -/
def takeSamples (limit ext0 : Int) (l : List RecSample) : List RecSample × List RecSample :=
  l.partition (fun x => decide (x.time < (limit + ext0) * 256 * x.fs))

/-! ### Clip time (R372) -/

/-- The channel reads TB0. -/
def State.recClock (s : State) (c : Nat) : State :=
  let r := s.recOf c
  s.setRec c { r with ext := r.ext + sext 32 (s.ns - r.extNs).toNat, extNs := s.ns }

/-- A stamp extended to the value within 2^31 ns of the channel's last reading. -/
def RecC.extend (r : RecC) (t : Word) : Int := r.ext + sext 32 (t - r.extNs).toNat

/-! ### Data writes and checkpoints (R360, R368, R375) -/

/-- Backlog of a channel: bytes wrapped from live frames and not yet written, less the on-chip queue of R99. -/
def Clip.backlog (k : Clip) : Nat := k.file.length - max k.done k.pre - 65536

/-- The backlog of the channel's stream is shown. -/
def State.recBacklog (s : State) (c : Nat) : State := match (s.recOf c).clip with | some k => s.backlogSetId (recStream c) k.backlog | none => s

/-- Writes of clip data are issued: whole units of at most 1 MiB and MDTS within a stripe, and with `force` what remains, padded to a block. -/
def State.recIssue (s : State) (c : Nat) (force : Bool) : Nat → State
  | 0 => s
  | fuel + 1 =>
    match (s.recOf c).clip with
    | none => s
    | some k =>
      let m := s.recSet c
      let d := tabGet (s.mediaOf m).dir {} k.entry
      match stripeOf d.extents (k.sent / 4194304) with
      | none => s
      | some st =>
        let (p, lba) := s.setAddr m st (k.sent % 4194304 / 4096)
        let mdts := match (s.nvOf p).drive with | some i => if i.mdts = 0 then 1048576 else i.mdts | none => 1048576
        let unit := min (min 1048576 (mdts / 4096 * 4096)) (4194304 - k.sent % 4194304)
        let avail := k.file.length - k.sent
        if (s.nvOf p).cmds.countP (fun x => match x.use with | .data c' _ _ => c' == c | _ => false) = 255 then s
        else if unit ≤ avail then
          let s := s.setClip c { k with sent := k.sent + unit }
          State.recIssue (s.nvIssue p 1 lba (unit / 4096) (sliceAt k.file k.sent unit) (.data c k.sent (k.sent + unit))) c force fuel
        else if force && k.done < k.file.length && 0 < avail then
          let s := s.setClip c { k with sent := k.sent + avail / 4096 * 4096 }
          s.nvIssue p 1 lba (ceilDiv avail 4096) (sliceAt k.file k.sent (roundUp avail 4096)) (.data c k.sent (k.sent + avail))
        else s

/-- All that can be issued is issued. -/
def State.recFeed (s : State) (c : Nat) (force : Bool) : State :=
  match (s.recOf c).clip with
  | some k => s.recIssue c force ((k.file.length - k.sent) / 4096 + 2)
  | none => s

/-- A partition's bytes: a partition pack of 132 bytes, an index segment of 141 + 11 × n bytes, and fill to whole blocks (R368; log entry 41). -/
def bodyPart (d : DirEnt) (starts : List Nat) : List Byte :=
  sliceAt (Config.mxf 4 (dirBytes d) starts) 0 (roundUp (132 + 141 + 11 * starts.length) 4096)

/-- A checkpoint begins: its body partition ends the file so far (R374, R375). -/
def State.ckptBegin (s : State) (c n : Nat) : State :=
  match (s.recOf c).clip with
  | some k =>
    let d := tabGet (s.mediaOf (s.recSet c)).dir {} k.entry
    let file := k.file ++ bodyPart d (k.index.drop k.part)
    let s := s.setClip c { k with file := file, part := k.index.length, ck := n + 1, cks := k.cks ++ [⟨n, file.length, k.frames, 1, 0⟩] }
    (s.recFeed c true).recBacklog c
  | none => s

/-! ### Seal (R376, R378, R379) -/

/-- The sidecar of a sealed clip is written, or left out while the Vault is in Hold. -/
def State.recSidecar (s : State) (c e : Nat) (k : Clip) : State :=
  let m := s.recSet c
  let d := tabGet (s.mediaOf m).dir {} e
  if s.vault.hold then (s.dirPut m e { d with flags := d.flags ||| 8 }).raise 839 (recBid c)
  else
    match s.dirFree m with
    | none => s
    | some x =>
      let hash := sha384 k.file
      let (q, s) := s.quote 1 hash
      let body := Config.c2pa (d.clipId ++ d.rigId ++ d.calId ++ sha384 q) hash
      let name := sliceAt (d.name.takeWhile (· != 0) ++ [0x2E, 0x63, 0x32, 0x70, 0x61]) 0 32
      let side : DirEnt := { state := 1, kind := 1, chan := c, clipId := d.clipId, name := name, peer := e, utc := s.utc, rigId := d.rigId, calId := d.calId }
      let s := s.setMedia m { s.mediaOf m with dir := tabSet (s.mediaOf m).dir {} x side }
      match s.takeRun m x (max 1 (ceilDiv body.length 4194304)) with
      | none => s
      | some (s, run) =>
        let s := s.fileWrite m (tabGet (s.mediaOf m).dir {} x).extents (body.length / 4096 + 2) 0 body
        let s := s.setFlush m (.set m)
        let (s, _) := s.journal m (.set m) 1 (⟨6, c, x, 0, 0⟩ :: allocRecs c x [run] ++ [⟨3, c, x, body.length, 0⟩])
        let s := s.dirPut m x { tabGet (s.mediaOf m).dir {} x with state := 2, length := body.length, jseq := s.jLast m }
        s.dirPut m e { tabGet (s.mediaOf m).dir {} e with peer := x }

/-- The words of a byte string, for an event. -/
def evWords (b : List Byte) : List Word := bytesWords b

/-- The SEAL record is durable: the clip is sealed (R376), and the channel takes the state that the cause of the end gives (R357). -/
def State.recSealed (s : State) (c : Nat) (k : Clip) : State :=
  let m := s.recSet c
  let e := k.entry
  let d := tabGet (s.mediaOf m).dir {} e
  let fl := d.flags ||| (2 * b2n k.incomplete + 4 * b2n (k.cause == 2) + 32 * b2n (k.cause == 3))
  let s := s.dirPut m e { d with state := 2, flags := fl, frames := k.frames, length := k.file.length, jseq := s.jLast m }
  let s := if s.bit (REC_C_CFG c) REC_C_CFG_PROV then s.recSidecar c e k else s
  let d := tabGet (s.mediaOf m).dir {} e
  let s := s.setRec c { s.recOf c with clip := none, key := none, after := 0 }
  let s := s.raise 833 (recBid c) ([w32 c, w32 e, w32 k.frames] ++ evWords d.clipId ++ evWords (s.mediaOf m).uuid ++ [w32 d.flags])
  let s := match k.cause with
    | 2 => s.setRecState c 4
    | 5 => if 3 ≤ s.fld HLT_STATUS HLT_STATUS_LEVEL then (s.setRecState c 4).setFld (REC_C_STATUS c) REC_C_STATUS_STOP_REASON 5 else s.setRecState c 0
    | _ => s.setRecState c 0
  let s := s.setShow m
  let s := s.backlogSetId (recStream c) 0
  if k.cause = 1 then s.callDone (.recSeal c) 0 k.frames else s.callDone (.recSeal c) 4 6

/-- The next steps of a clip's checkpoints and seal (R375, R376): those whose condition holds, oldest first. -/
def State.ckptAdvance (s : State) (c : Nat) : Nat → State
  | 0 => s
  | fuel + 1 =>
    match (s.recOf c).clip with
    | none => s
    | some k =>
      let m := s.recSet c
      let disks := (s.mediaOf m).disks.length
      let go (x : Ckpt) : Bool := if x.step = 1 then x.length ≤ k.done else x.left = 0
      match k.cks.find? go with
      | none => s
      | some x =>
        let put (s : State) (y : Ckpt) : State :=
          match (s.recOf c).clip with
          | some k => s.setClip c { k with cks := k.cks.map (fun z => if z.k == x.k then y else z) }
          | none => s
        match x.step with
        | 1 => ((put s { x with step := 2, left := disks }).setFlush m (.ckpt c x.k 2)).ckptAdvance c fuel
        | 2 =>
          let rec_ : JRec := ⟨if x.k = 0 then 3 else 2, c, k.entry, x.length, x.frames⟩
          let rs := allocRecs c k.entry k.fresh ++ [rec_]
          let old := k.cks.countP (fun z => z.k != x.k && z.step < 3 && (decide (z.k < x.k) || x.k == 0))
          let s := s.setClip c { k with fresh := [], cks := k.cks.filter (fun z => z.k == x.k || z.step == 3 || z.step == 4 || (decide (x.k < z.k) && x.k != 0) || z.k == 0) }
          let s := if x.k = 0 then s else if old = 0 then s else s.inc (REC_C_CKPT_LAG c) old
          let (s, n) := s.journal m (.ckpt c x.k 3) (rs.length / 64 + 1) rs
          (put s { x with step := 3, left := n }).ckptAdvance c fuel
        | 3 => ((put s { x with step := 4, left := disks }).setFlush m (.ckpt c x.k 4)).ckptAdvance c fuel
        | _ =>
          if x.k = 0 then s.recSealed c k
          else
            let s := s.setClip c { k with cks := k.cks.filter (fun z => z.k != x.k) }
            let s := (s.wr (REC_C_CKPT_FRAMES c) (w32 x.frames)).raise 835 (recBid c)
            let d := tabGet (s.mediaOf m).dir {} k.entry
            (s.dirPut m k.entry { d with frames := x.frames, length := x.length, jseq := s.jLast m }).ckptAdvance c fuel

/-- Steps as far as they go. -/
def State.ckptRun (s : State) (c : Nat) : State := s.ckptAdvance c 64

/-- The seal begins: footer partition and random index pack close the file (R376). No seal starts after PFAIL_N (R358). -/
def State.sealBegin (s : State) (c : Nat) : State :=
  match (s.recOf c).clip with
  | some k =>
    if s.log.pfail then s
    else
      let m := s.recSet c
      let d := tabGet (s.mediaOf m).dir {} k.entry
      let foot := Config.mxf 2 (dirBytes d) k.index ++ Config.mxf 3 (dirBytes d) k.index
      let file := k.file ++ foot
      let need := ceilDiv file.length 4194304
      let have_ := extStripes d.extents
      let (s, fresh) := if need ≤ have_ then (s, ([] : List Extent)) else
        match s.takeRun m k.entry (need - have_) with
        | some (s, run) => (s, [run])
        | none => (s, [])
      let s := s.setClip c { k with file := file, fresh := k.fresh ++ fresh, cks := k.cks ++ [⟨0, file.length, k.frames, 1, 0⟩] }
      (s.recFeed c true).ckptRun c
  | none => s

/-! ### Content packages (R367, R368, R371, R373, R374) -/

/-- The footer reserve in stripes (R367). -/
def footReserve (frames : Nat) : Nat := ceilDiv (65536 + 16 * frames) 4194304 + 1

/-- Runs are taken until the clip's stripes and its footer reserve hold the file; none where they cannot. -/
def State.recPlace (s : State) (c need reserve : Nat) : Nat → Option State
  | 0 => none
  | fuel + 1 =>
    match (s.recOf c).clip with
    | none => none
    | some k =>
      let m := s.recSet c
      let d := tabGet (s.mediaOf m).dir {} k.entry
      let have_ := extStripes d.extents
      if need ≤ have_ then (if reserve ≤ (have_ - need) + (s.mediaOf m).free then some s else none)
      else
        match s.takeRun m k.entry 4096 with
        | none => none
        | some (s, run) =>
          match (s.recOf c).clip with
          | some k => (s.setClip c { k with fresh := k.fresh ++ [run] }).recPlace c need reserve fuel
          | none => none

/-- A clip ends: the cause and the last frame are recorded, and it seals (R357). -/
def State.clipEnds (s : State) (c cause : Nat) : State :=
  match (s.recOf c).clip with
  | some k =>
    let s := s.setClip c { k with cause := cause }
    let s := (s.setFld (REC_C_STATUS c) REC_C_STATUS_CAUSE cause).setRecState c 3
    s.wr (REC_C_LAST_FRAME c) (w32 (k.frames - 1))
  | none => s

/-- Sound of a port up to a clip time has arrived. -/
def soundReady (limit ext0 : Int) (l : List RecSample) : Bool :=
  match l.getLast? with
  | some x => decide ((limit + ext0) * 256 * x.fs ≤ x.time)
  | none => false

/-- One waiting frame is wrapped, if it may be: answers whether it was. -/
def State.recWrap (s : State) (c : Nat) : State × Bool :=
  match (s.recOf c).clip with
  | none => (s, false)
  | some k =>
    match k.wait with
    | [] => (s, false)
    | (f, x) :: rest =>
      let ports := s.recPorts c
      let tau := x - k.ext0
      let rate := s.recRate c
      let next : Int := match rest with | (_, y) :: _ => y - k.ext0 | [] => tau + (rate.2 * 1000000000 / rate.1 : Nat)
      let ended := k.cause != 0
      let due := decide ((k.ck : Int) * 1000000000 ≤ tau)
      let ready := ports.zipIdx.all (fun p => soundReady next k.ext0 (tabGet k.sound [] p.2) || s.fld (AUD_P_STATUS p.1) ⟨2, 0⟩ != 2)
      if !ended && ((due || !ports.isEmpty) && rest.isEmpty || (!ports.isEmpty && !ready)) then (s, false)
      else
        let s := if due && !(ended && rest.isEmpty) && !s.log.pfail then s.ckptBegin c (tau / 1000000000).toNat else s
        match (s.recOf c).clip with
        | none => (s, false)
        | some k =>
          let parts := ports.zipIdx.map (fun p => (p.2, takeSamples next k.ext0 (tabGet k.sound [] p.2)))
          let n := ((parts.head?).map (fun p => p.2.1.length)).getD 0
          let snd := parts.flatMap (fun p => essence k.key k.frames (soundKey ports.length p.1) (p.2.1.flatMap (fun y => y.slots.flatMap sample24)))
          let pkg := essence k.key k.frames (pictureKey (s.recCodec c)) f.data ++ snd ++ essence k.key k.frames dataKey (frameRecord k.frames f k.tc n tau)
          let len := k.file.length + pkg.length
          match s.recPlace c (ceilDiv len 4194304) (footReserve (k.frames + 1)) (pkg.length / 4194304 + 3) with
          | none =>
            let s := s.setClip c { k with wait := [] }
            (((s.clipEnds c 3).raise 837 (recBid c)).sealBegin c, false)
          | some s =>
            match (s.recOf c).clip with
            | none => (s, false)
            | some k =>
              let limit := (s.strmRec (recStream c)).map s.backlogMax
              let live := k.preLeft == 0
              let k2 := { k with
                file := k.file ++ pkg, pre := if live then k.pre else len, preLeft := k.preLeft - 1, frames := k.frames + 1, index := k.index ++ [k.file.length], wait := rest,
                tc := tcNextDf ((rate.1 + rate.2 / 2) / rate.2) k.tc, incomplete := k.incomplete || f.flags % 2 == 1,
                sound := parts.foldl (fun t p => tabSet t [] p.1 p.2.2) k.sound }
              if live && (match limit with | some b => b < k2.backlog | none => false) then
                let s := (s.streamRefuseId (recStream c)).setFld (REC_C_STATUS c) REC_C_STATUS_STOP_REASON 6
                let s := s.setClip c { k with wait := [] }
                (((s.clipEnds c 2).raise 834 (recBid c) [w32 (k.frames - 1)]).sealBegin c, false)
              else
                let s := (s.setClip c k2).wr (REC_C_FRAMES c) (w32 k2.frames)
                ((s.recFeed c false).recBacklog c, true)

/-- Waiting frames are wrapped as far as they may be. -/
def State.recPump (s : State) (c : Nat) : Nat → State
  | 0 => s
  | fuel + 1 => let (s, more) := s.recWrap c; if more then s.recPump c fuel else s

/-- The clip of a channel ends (R357): every frame taken is wrapped, then the clip seals. -/
def State.recEnd (s : State) (c cause : Nat) : State :=
  match (s.recOf c).clip with
  | some k =>
    if k.cause != 0 || s.recState c != 2 then s
    else
      let s := (s.setClip c { k with cause := cause }).recPump c (k.wait.length + 1)
      match (s.recOf c).clip with
      | some k => if k.cause = cause && s.recState c = 2 then (s.clipEnds c cause).sealBegin c else s
      | none => s
  | none => s

/-- A channel's clip is left OPEN: its state STOPPED with a code, and its key is zeroised (R357 CAUSE 4, R471). -/
def State.recAbort (s : State) (c code : Nat) : State :=
  let frames := ((s.recOf c).clip.map (·.frames)).getD 0
  let s := s.wr (REC_C_LAST_FRAME c) (w32 (frames - 1))
  let s := s.setRec c { s.recOf c with clip := none, key := none, hold := [], start := false }
  let s := (s.setRecState c 4).setFld (REC_C_STATUS c) REC_C_STATUS_STOP_REASON code
  ((s.wr (REC_C_PRE_FRAMES c) 0).callDone (.recSeal c) 4 6).callDone (.recStart c) 4 5

/-- A media error stops every channel on a set (R357, R361). -/
def State.recMediaStop (s : State) (m : Nat) : State :=
  (List.range 8).foldl (fun s c =>
    if s.bit (REC_C_CFG c) REC_C_CFG_EN && s.recSet c == m && s.recState c != 4 then
      let had := (s.recOf c).clip.isSome
      let s := (s.setFld (REC_C_STATUS c) REC_C_STATUS_CAUSE 4).recAbort c 2
      if had then s.raise 836 (recBid c) else s
    else s) s

/-- A media error of a root port's drive (R361). -/
def State.mediaError (s : State) (p : Nat) : State :=
  match s.portSet p with
  | some m =>
    let s := s.setFld (REC_M_STATUS m) ⟨12 + p, 12 + p⟩ 1
    if s.setState m = 5 || s.setState m = 0 then s
    else
      let mounting := s.setState m == 1
      let s := ((s.setSetState m 5).raise 842 0x0E01).recMediaStop m
      if mounting then s.callDone (.mount m) 4 5 else s
  | none => s

/-! ### Frames offered (R353 to R356) -/

/-- Pre-record keeps the newest whole frames that fit (R356). -/
def preTrim (limit : Nat) : List RecFrame → List RecFrame
  | [] => []
  | f :: fs => if ((f :: fs).map (·.data.length)).sum ≤ limit then f :: fs else preTrim limit fs

/-- A START fails at its apply. -/
def State.startFails (s : State) (c code : Nat) : State :=
  let s := s.setRec c { s.recOf c with start := false, key := none }
  ((s.setFld (REC_C_STATUS c) REC_C_STATUS_START_FAIL code).raise 838 (recBid c)).callDone (.recStart c) 4 code

/-- A frame joins the clip (R372). -/
def State.recTake (s : State) (c : Nat) (f : RecFrame) : State :=
  let s := s.recClock c
  match (s.recOf c).clip with
  | some k => (s.setClip c { k with wait := k.wait ++ [(f, (s.recOf c).extend f.time)] }).recPump c (k.wait.length + 2)
  | none => s

/-- A clip starts with frames, oldest first; those but the last come from pre-record (R355, R356). -/
def State.clipStart (s : State) (c : Nat) (frames : List RecFrame) : State :=
  match frames with
  | [] => s
  | f0 :: _ =>
    let m := s.recSet c
    if s.setState m != 2 then s.startFails c 1
    else
      match s.dirFree m with
      | none => s.startFails c 2
      | some e =>
        let r := s.recOf c
        let (uuid, s) := s.drbg 16
        let tc := if bitOf (s.rd (REC_C_TC c)) 31 then s.rd HLT_LTC_IN &&& 0x7FFFFFFF else s.rd (REC_C_TC c) &&& 0x7FFFFFFF
        let d : DirEnt :=
          { state := 1, chan := c, flags := b2n r.key.isSome, clipId := uuid, name := r.name, startTc := tc, utc := s.utc,
            keyId := if r.key.isSome then (s.rd (REC_C_KEY c)).toNat else 0, wrapped := if r.key.isSome then r.wrapped else List.replicate 40 0,
            rigId := s.rigId, calId := f0.calId }
        let s := s.setMedia m { s.mediaOf m with dir := tabSet (s.mediaOf m).dir {} e d }
        match s.takeRun m e 4096 with
        | none => (s.setMedia m { s.mediaOf m with dir := tabSet (s.mediaOf m).dir {} e {} }).startFails c 3
        | some (s, run) =>
          let (s, _) := s.journal m (.set m) 1 [⟨6, c, e, 0, 0⟩]
          let s := s.dirPut m e { tabGet (s.mediaOf m).dir {} e with jseq := s.jLast m }
          let s := s.recClock c
          let r := s.recOf c
          let k : Clip :=
            { entry := e, file := sliceAt (Config.mxf 1 (dirBytes d) []) 0 65536, preLeft := frames.length - 1, fresh := [run],
              ext0 := r.extend f0.time, tc := tc, key := r.key }
          let s := s.setRec c { r with clip := some k, start := false, hold := [] }
          let s := (((s.wr (REC_C_ENTRY c) (w32 e)).wr (REC_C_FRAMES c) 0).wr (REC_C_CKPT_FRAMES c) 0).wr (REC_C_PRE_FRAMES c) 0
          let s := ((s.setFld (REC_C_STATUS c) REC_C_STATUS_CAUSE 0).setRecState c 2).raise 832 (recBid c)
          let s := s.callDone (.recStart c) 0 e
          frames.foldl (fun s f => s.recTake c f) s

/-- A picture frame is offered to a channel (R353, R354). -/
def State.recOffer (s : State) (c : Nat) (f : RecFrame) : State :=
  if s.log.pfail then s
  else
    let s := s.recClock c
    let r := s.recOf c
    let hold := preTrim (bitsOf (s.rd (REC_C_PRE c)).toNat 15 0 * 1048576) (r.hold ++ [f])
    let discard := s.inc (REC_C_DISCARD c)
    match s.recState c with
    | 0 => if r.start && f.key then s.clipStart c [f] else discard
    | 1 =>
      let all := (r.hold ++ [f]).dropWhile (fun x => !x.key)
      if r.start && !all.isEmpty then s.clipStart c all
      else (s.setRec c { r with hold := hold }).wr (REC_C_PRE_FRAMES c) (w32 hold.length)
    | 2 => s.recTake c f
    | _ => discard

/-- A record of an encoder session reaches the channel that reads it; with LAST the access unit is offered (R322, R353, R370). -/
def State.recEncRecord (s : State) (ch kind flags : Nat) (f : FrameInfo) (payload : List Byte) : State :=
  let r := s.recOf ch
  let unit := (if kind = 1 then r.unit else []) ++ payload
  if bitsOf flags 6 6 = 0 then s.setRec ch { r with unit := unit }
  else
    let fl := flags % 16 + 16 * bitsOf flags 5 5
    (s.setRec ch { r with unit := [] }).recOffer ch ⟨f.seq, f.tStart, f.group, fl, w32 f.subst, List.replicate 16 0, bitsOf flags 4 4 == 1, unit⟩

/-- A ZRX frame is offered to the channel that reads its session (R353, R370): its bytes as in R331. -/
def State.recZrxFrame (s : State) (ch : Nat) (b : List Byte) : State :=
  let h := leAt b 0x26 2
  s.recOffer ch ⟨w32 (leAt b 0x20 4), w32 (leAt b 0x2C 4), w32 (leAt b 0x28 4), h % 16 + 16 * bitsOf h 6 6, w32 (leAt b 0x34 4),
    sliceAt b 0x48 16, true, b⟩

/-- Sound of a receive block reaches the channels that record its port (R371): the block's stamp, the frame rate, and the words of the enabled slots of each
sample frame. -/
def State.recSound (s : State) (port : Nat) (stamp : Word) (frac fs : Nat) (frames : List (List Word)) : State :=
  (List.range 8).foldl (fun s c =>
    match (s.recOf c).clip with
    | some k =>
      if !(s.recPorts c).contains port || s.log.pfail then s
      else
        let s := s.recClock c
        let t0 : Int := ((s.recOf c).extend stamp * 256 + (frac : Int)) * (fs : Int)
        let new := (frames.zipIdx.map (fun p => (⟨t0 + ((p.2 * 256000000000 : Nat) : Int), fs, p.1⟩ : RecSample))).filter (fun x => decide (k.ext0 * 256 * (fs : Int) ≤ x.time))
        let sound := (s.recPorts c).zipIdx.foldl (fun t p => if p.1 = port then tabSet t [] p.2 (tabGet t [] p.2 ++ new) else t) k.sound
        (s.setClip c { k with sound := sound }).recPump c (k.wait.length + 1)
    | none => s) s

/-- Every byte of the backlog that a Firm stream's producer adds by itself counts here too: the clip ends by a run-time refusal (R100, R357). -/
def State.recRefused (s : State) (c : Nat) : State :=
  match (s.recOf c).clip with
  | some k =>
    if k.cause != 0 then s
    else
      let s := (s.setClip c { k with wait := [] }).setFld (REC_C_STATUS c) REC_C_STATUS_STOP_REASON 6
      ((s.clipEnds c 2).raise 834 (recBid c) [w32 (k.frames - 1)]).sealBegin c
  | none => s

/-! ### Commands (R354, R355) -/

/-- ARM. -/
def State.recArm (s : State) (c : Nat) : State := if s.recUp c && s.recState c == 0 then (s.setRecState c 1).wr (REC_C_PRE_FRAMES c) 0 else s

/-- DISARM. -/
def State.recDisarm (s : State) (c : Nat) : State :=
  if s.recState c = 1 then ((s.setRec c { s.recOf c with hold := [] }).setRecState c 0).wr (REC_C_PRE_FRAMES c) 0 else s

/-- The clip key of a START with ENCRYPT (R380, R462): the DRBG's 32 bytes and their wrapping, or the reason it fails. -/
def State.clipKey (s : State) (c : Nat) : State × Bool :=
  if !s.bit (REC_C_CFG c) REC_C_CFG_ENCRYPT then (s.setRec c { s.recOf c with key := none }, true)
  else if s.vault.hold then ((s.wr (REC_C_REFUSAL c) 0x0305).wr (REC_C_REFUSAL_TIME c) s.ns, false)
  else
    match s.mediaKey (s.rd (REC_C_KEY c)).toNat with
    | none => (s, false)
    | some kek => let (k, s) := s.drbg 32; (s.setRec c { s.recOf c with key := some k, wrapped := aesWrap kek k }, true)

/-- START (R355). -/
def State.recStart (s : State) (c : Nat) : State :=
  let m := s.recSet c
  let fail (s : State) (code : Nat) : State := (s.setFld (REC_C_STATUS c) REC_C_STATUS_START_FAIL code).raise 838 (recBid c)
  if !s.recUp c || !(s.recState c == 0 || s.recState c == 1) then s.setFld (REC_C_STATUS c) REC_C_STATUS_START_FAIL 5
  else if s.setState m != 2 then fail s 1
  else if (s.dirFree m).isNone then fail s 2
  else if (s.mediaOf m).free < 4096 + footReserve 0 || ((s.mediaOf m).findRun 4096).isNone then fail s 3
  else
    let (s, ok) := s.clipKey c
    if !ok then fail s 4
    else
      let name := (List.range 8).flatMap (fun i => wordBytes (s.rd (REC_C_NAME c i)))
      let r := s.recOf c
      let s := (s.setRec c { r with start := true, name := name, ext := 0, extNs := s.ns }).setFld (REC_C_STATUS c) REC_C_STATUS_START_FAIL 0
      let i := s.fld (REC_C_CFG c) REC_C_CFG_SRC_INST
      if s.fld (REC_C_CFG c) REC_C_CFG_SRC_TYPE = 1 && !r.hold.any (·.key) then
        s.setEnc (i / 4) (i % 4) { s.encOf (i / 4) (i % 4) with force := true }
      else s

/-- A write of REC_C_CTRL: its bits act in the order ARM, DISARM, START, STOP (log entry 45). -/
def State.recCtrl (s : State) (c : Nat) (v : Word) : State :=
  let s := if bitOf v 0 then s.recArm c else s
  let s := if bitOf v 1 then s.recDisarm c else s
  let s := if bitOf v 2 then s.recStart c else s
  if bitOf v 3 then s.recEnd c 1 else s

/-- Row REC_ARM. -/
def execRecArm (c : Fin 8) (s : State) : Res := .next (s.hostDo (REC_C_CTRL c) true (·.recCtrl c 1))
/-- Row REC_DISARM. -/
def execRecDisarm (c : Fin 8) (s : State) : Res := .next (s.hostDo (REC_C_CTRL c) true (·.recCtrl c 2))
/-- Row REC_START. -/
def execRecStart (c : Fin 8) (s : State) : Res := .next (s.hostDo (REC_C_CTRL c) true (fun s => s.settle (s.recCtrl c 4)))
/-- Row REC_STOP. -/
def execRecStop (c : Fin 8) (s : State) : Res := .next (s.hostDo (REC_C_CTRL c) true (fun s => s.settle (s.recCtrl c 8)))

/-! ### Deletion (R367) -/

/-- An entry is deleted once its DELETE record is durable: its stripes and its sidecar's are free. -/
def State.clipDeleted (s : State) (m e : Nat) : State :=
  let d := tabGet (s.mediaOf m).dir {} e
  let del (s : State) (e : Nat) : State := s.dirPut m e { tabGet (s.mediaOf m).dir {} e with state := 4, jseq := s.jLast m }
  let s := del s e
  let s := if d.kind = 0 && d.peer != 0xFFFFFFFF then del s d.peer else s
  (s.setShow m).callDone (.delete m e) 0

/-- A host DELETE: answers whether it is accepted. -/
def State.clipDelete (s : State) (m e : Nat) : State × Bool :=
  let d := tabGet (s.mediaOf m).dir {} e
  if s.setState m != 2 || d.state = 0 || d.state = 1 || d.state = 4 || d.kind = 2 || 32768 ≤ e then (s, false)
  else ((s.journal m (.delete m e 1) 1 [⟨4, 0xFF, e, 0, 0⟩]).1, true)

/-- Row CLIP_DELETE: a host DELETE of an entry. -/
def execClipDelete (m : Fin 4) (e : Fin 32768) (s : State) : Res := .next (if s.hostUp then (s.clipDelete m e).1 else s)

/-! ### Sets (R362) -/

/-- A channel on the set is ARMED, RECORDING or SEALING. -/
def State.setBusy (s : State) (m : Nat) : Bool :=
  (List.range 8).any (fun c => s.bit (REC_C_CFG c) REC_C_CFG_EN && s.recSet c == m && (s.recState c == 1 || s.recState c == 2 || s.recState c == 3))

/-- MOUNT: the superblocks of each drive are read. -/
def State.setMount (s : State) (m : Nat) : State :=
  if !bitOf (s.rd (REC_M_CFG m)) 4 || s.setBusy m then s
  else
    let s := (s.setSetState m 1).setFld (REC_M_STATUS m) ⟨15, 12⟩ 0
    (s.setPorts m).foldl (fun s p => s.nvIssue p 2 0 2 [] (.set m)) s

/-- FORMAT with KEY 0x5A: answers whether it is accepted. -/
def State.setFormat (s : State) (m key : Nat) : State × Bool :=
  if !bitOf (s.rd (REC_M_CFG m)) 4 || key != 0x5A then (s, false)
  else if s.setBusy m then (s.setFld (REC_M_STATUS m) ⟨8, 8⟩ 1, false)
  else
    let ports := s.setPorts m
    let s := s.setSetState m 0
    let s := ports.foldl (fun s p =>
      let i := (s.nvOf p).drive
      let s := if i.all (·.fmtNow) then s else s.nvIssue p 0x80 0 0 [] (.set m)
      s.nvIssue p 9 0 ((i.map (·.blocks)).getD 0) [] (.set m)) s
    let s := s.setMedia m { disks := ports }
    ((List.range 80).foldl (fun s st => let (p, lba) := s.setAddr m st 0; s.nvIssue p 1 lba 1024 [] (.set m)) s, true)

/-- A write of REC_M_CTRL. -/
def State.setCtrl (s : State) (m : Nat) (v : Word) : State :=
  let s := if bitOf v 0 then s.setMount m else s
  if bitOf v 1 then (s.setFormat m (bitsOf v.toNat 15 8)).1 else s

/-- Row SET_MOUNT. -/
def execSetMount (m : Fin 4) (v : Word) (s : State) : Res := .next (s.hostDo (REC_M_CTRL m) true (·.setCtrl m (v &&& 0xFF03 ||| 1)))
/-- Row SET_FORMAT. -/
def execSetFormat (m : Fin 4) (v : Word) (s : State) : Res := .next (s.hostDo (REC_M_CTRL m) true (·.setCtrl m (v &&& 0xFF03 ||| 2)))

/-- Channels that a media error stopped leave STOPPED when their set is mounted again (R357). -/
def State.recRemounted (s : State) (m : Nat) : State :=
  (List.range 8).foldl (fun s c =>
    if s.recSet c == m && s.recState c == 4 && s.fld (REC_C_STATUS c) REC_C_STATUS_CAUSE == 4 then
      (s.setRecState c 0).setFld (REC_C_STATUS c) REC_C_STATUS_STOP_REASON 0 else s) s

/-- Row SET_MOUNT_DONE: the reads of a mount have completed. -/
def execSetMountDone (m : Fin 4) (rd : MountRead) (s : State) : Res :=
  .next (
    if s.setState m != 1 then s
    else s.settle (
      let t := s.mountEnd m rd
      let st := t.setState m
      if st = 2 then (t.recRemounted m).callDone (.mount m) 0 else t.callDone (.mount m) 4 st))

/-- Row SET_FORMAT_DONE: the new superblocks are written, both on each drive. -/
def execSetFormatDone (m : Fin 4) (s : State) : Res :=
  .next (
    let x := s.mediaOf m
    if s.setState m != 0 || x.disks.isEmpty || x.stripes != 0 then s
    else
      let (uuid, s) := s.drbg 16
      let drives := x.disks.map (fun p => (s.nvOf p).drive)
      let stripes := setStripes (drives.map (fun d => (d.map (·.blocks)).getD 0))
      let serials := drives.flatMap (fun d => sliceAt ((d.map (·.serial)).getD []) 0 20)
      let s := x.disks.zipIdx.foldl (fun s p =>
        let b := superBytes x.disks.length p.2 uuid stripes s.utc serials
        (s.nvIssue p.1 1 0 1 b (.set m)).nvIssue p.1 1 1 1 b (.set m)) s
      ((s.setMedia m { x with uuid := uuid, stripes := stripes }).callDone (.format m) 0))

/-! ### NVMe (R361) -/

/-- A command leaves the outstanding ones of its root port. -/
def State.nvRemove (s : State) (p tag : Nat) : State := s.setNv p { s.nvOf p with cmds := (s.nvOf p).cmds.filter (·.tag != tag) }

/-- Clip data up to a byte of the file is written: the longest complete part from its start. -/
def ackedPart : Nat → Nat → List (Nat × Nat) → Nat × List (Nat × Nat)
  | 0, d, l => (d, l)
  | fuel + 1, d, l =>
    match l.find? (fun r => r.1 ≤ d && d < r.2) with
    | some r => ackedPart fuel r.2 (l.filter (· != r))
    | none => (d, l.filter (fun r => decide (d < r.2)))

/-- A checkpoint step's command completes. -/
def State.ckptLess (s : State) (c k n : Nat) : State :=
  match (s.recOf c).clip with
  | some x => (s.setClip c { x with cks := x.cks.map (fun z => if z.k == k && z.step == n then { z with left := z.left - 1 } else z) }).ckptRun c
  | none => s

/-- A command completes without error: what it was issued for goes on. -/
def State.nvDone (s : State) (use : NvUse) : State :=
  match use with
  | .data c lo hi =>
    match (s.recOf c).clip with
    | some k =>
      let (d, l) := ackedPart (k.acked.length + 1) k.done (k.acked ++ [(lo, hi)])
      let s := s.setClip c { k with done := d, acked := l }
      ((s.recFeed c (!k.cks.isEmpty)).recBacklog c).ckptRun c
    | none => s
  | .ckpt c k n => s.ckptLess c k n
  | .set _ => s
  | .delete m e n => if n = 1 then s.setFlush m (.delete m e 2) else
      if ((List.range 4).any (fun p => (s.nvOf p).cmds.any (fun x => match x.use with | .delete m' e' _ => m' == m && e' == e | _ => false))) then s
      else s.clipDeleted m e
  | .read _ => s
  | .abort _ => s

end Sys2Proof.Machine
end

