-- ==== Sys2Proof/Machine/Audio.lean ====
section
/-! DEFINITION. Audio ports: frame syncs, blocks and stamps, feather ramps, underrun, slot masks, non-audio payload (R397 to R410). Rows 162 to 170. -/

namespace Sys2Proof.Machine

/-! ### Records and configuration -/

/-- A port's record. -/
def State.audOf (s : State) (p : Nat) : AudPort := tabGet s.aud {} p
/-- A port's record set. -/
def State.setAud (s : State) (p : Nat) (x : AudPort) : State := { s with aud := tabSet s.aud {} p x }
/-- A direction's record: 0 receive, 1 transmit. -/
def State.audDir (s : State) (p d : Nat) : AudDir := if d = 0 then (s.audOf p).rx else (s.audOf p).tx
/-- A direction's record set. -/
def State.setAudDir (s : State) (p d : Nat) (x : AudDir) : State :=
  let a := s.audOf p
  s.setAud p (if d = 0 then { a with rx := x } else { a with tx := x })

/-- BLOCK_ID of a port. -/
def audBid (p : Nat) : Nat := 0x0D00 + p
/-- A port is in use. -/
def State.audOn (s : State) (p : Nat) : Bool := s.bit (AUD_P_CFG p) AUD_P_CFG_EN && s.running (audBid p)
/-- STATE of a port: 0 OFF, 1 WAITING, 2 RUNNING, 3 STOPPING, 4 LOST. -/
def State.audState (s : State) (p : Nat) : Nat := bitsOf (s.rd (AUD_P_STATUS p)).toNat 2 0
/-- STATE changed. -/
def State.setAudState (s : State) (p v : Nat) : State := s.setFld (AUD_P_STATUS p) ⟨2, 0⟩ v
/-- Slots per frame (R397): 2 for formats 0 and 1. -/
def State.audSlots (s : State) (p : Nat) : Nat :=
  if s.fld (AUD_P_CFG p) AUD_P_CFG_FORMAT < 2 then 2 else s.fld (AUD_P_CFG p) AUD_P_CFG_SLOTS + 1
/-- FS in Hz. -/
def State.audFs (s : State) (p : Nat) : Nat := max 1 (bitsOf (s.rd (AUD_P_FS p)).toNat 17 0)
/-- Samples of a feather ramp (R405). -/
def State.audRampLen (s : State) (p : Nat) : Nat :=
  (clampNat 1 128 (bitsOf (s.rd (AUD_P_FEATHER p)).toNat 7 0) * s.audFs p + 500) / 1000
/-- The lead of a transmit direction in blocks (R407). -/
def State.audLead (s : State) (p : Nat) : Nat := ceilDiv (s.audRampLen p) 64 + 1
/-- A direction is in use. -/
def State.audDirOn (s : State) (p d : Nat) : Bool := s.bit (AUD_D_CFG p d) AUD_D_CFG_EN
/-- Directions that move. -/
def State.audActive (s : State) (p : Nat) : List Nat := (List.range 2).filter (fun d => (s.audDir p d).active)

/-! ### Gains (R405) -/

/-- The cosine of π × k ÷ n: exact where it is rational. -/
def featherCos (k n : Nat) : Word :=
  if k = 0 then 0x3F800000 else if 2 * k = n then 0 else if 3 * k = n then 0x3F000000 else if 3 * k = 2 * n then 0xBF000000 else Config.cosPi k n

/-- The gain at a ramp's step. -/
def Ramp.gain (r : Ramp) : Word :=
  if r.n ≤ r.k then (if r.up then fpOne else 0)
  else (fpMul 0x3F000000 (if r.up then (fpSub fpOne (featherCos r.k r.n)).1 else (fpAdd fpOne (featherCos r.k r.n)).1)).1

/-- A sample times a gain, rounded to nearest with ties to even. -/
def scaleSample (w g : Word) : Word :=
  match fpOf g with
  | .fin x =>
    let i := sext 32 w.toNat
    let m := i.natAbs * x.m
    let q := if x.e < 0 then rneShift m (-x.e).toNat false else m * 2 ^ x.e.toNat
    wOfInt (clampInt (-2147483648) 2147483647 (if (decide (i < 0)) != x.neg then -(q : Int) else (q : Int)))
  | _ => 0

/-- A ramp towards 1 or 0: a reversal at step k goes on at step n − k. -/
def Ramp.toward (r : Ramp) (up : Bool) (n : Nat) : Ramp :=
  if r.up == up then r else if r.n ≤ r.k then ⟨up, 0, n⟩ else ⟨up, r.n - r.k, r.n⟩

/-- The next sample's step. -/
def Ramp.next (r : Ramp) : Ramp := if r.k < r.n then { r with k := r.k + 1 } else r

/-- A slot of a direction sends or receives nothing, without a ramp: outside the mask, or in a pair muted as non-audio (R408, R409). -/
def State.audCut (s : State) (p d : Nat) (x : AudDir) (i : Nat) : Bool :=
  !x.mask.testBit i || (!s.bit (AUD_D_CFG p d) AUD_D_CFG_NA_ACTION && (tabGet x.pairs {} (i / 2)).on)

/-- Every slot's gain heads for what mask, mute, stop and underrun ask (R405, R407). -/
def State.audRetarget (s : State) (p d : Nat) : State :=
  let x := s.audDir p d
  let under := d = 1 && bitOf (s.rd (AUD_D_STATUS p d)) 0
  let n := s.audRampLen p
  let ramps := (List.range (s.audSlots p)).foldl (fun t i =>
    let r := tabGet t {} i
    let up := !x.stopping && !under && !bitOf (s.rd (AUD_D_MUTE p d)) i
    tabSet t {} i (if s.audCut p d x i then {} else r.toward up n)) x.ramps
  s.setAudDir p d { x with ramps := ramps }

/-! ### Stamps (R403) -/

/-- The stamp entry of a block. -/
def State.audStamp (s : State) (p d : Nat) (b : AudBlock) : State :=
  let e := b.num % 256 * 4
  (((s.wr (AUD_D_STAMP p d e) (w32 b.num)).wr (AUD_D_STAMP p d (e + 1)) b.ns).wr (AUD_D_STAMP p d (e + 2)) (w32 (b.mask % 65536 + 65536 * b.flags))).wr
    (AUD_D_STAMP p d (e + 3)) (w32 (b.frac % 256))

/-- FLAGS are added to the block in progress. -/
def State.audFlag (s : State) (p d fl : Nat) : State :=
  let x := s.audDir p d
  let b := { x.blk with flags := x.blk.flags ||| fl }
  if fl = 0 then s else (s.setAudDir p d { x with blk := b }).audStamp p d b

/-- The ring place of a block (R401). -/
def State.audPlace (s : State) (p d b : Nat) : Nat :=
  s.rd64 (AUD_D_ADDR_LO p d) (AUD_D_ADDR_HI p d) + b % 2 ^ s.fld (AUD_D_CFG p d) AUD_D_CFG_RING_LOG * (256 * s.audSlots p)

/-- A block lost or played as zeros under delayed service (R404). -/
def State.audBlockLost (s : State) (p d : Nat) : State := (s.inc (AUD_D_LOST_CNT p d)).raiseOnce 872 p (audBid p)

/-! ### Non-audio payload (R409) -/

/-- Channel status of a slot takes one frame. -/
def ChanStat.step (c : ChanStat) (w : Word) : ChanStat :=
  let pos := if bitOf w 3 then 0 else min 192 (c.pos + 1)
  let cur := if pos = 0 then false else if pos = 1 then bitOf w 2 else c.cur
  ⟨pos, cur, if pos = 191 then cur else c.last⟩

/-- Detection on one pair of a frame as it crosses the balls. -/
def State.audPair (s : State) (p d : Nat) (f : List Word) (i : Nat) : State :=
  let a := f.getD (2 * i) 0
  let b := f.getD (2 * i + 1) 0
  let x := s.audDir p d
  let cs := if s.bit (AUD_D_CFG p d) AUD_D_CFG_CS_EN then
      tabSet (tabSet x.cs {} (2 * i) ((tabGet x.cs {} (2 * i)).step a)) {} (2 * i + 1) ((tabGet x.cs {} (2 * i + 1)).step b)
    else []
  let bad := (tabGet cs {} (2 * i)).last || (tabGet cs {} (2 * i + 1)).last
  let pre := a >>> 16 == 0xF872 && b >>> 16 == 0x4E1F
  let q := tabGet x.pairs {} i
  let put (q : NaPair) : State := s.setAudDir p d { x with cs := cs, pairs := tabSet x.pairs {} i q }
  if q.on then
    let n := if pre then 0 else q.since + 1
    if 4096 ≤ n && !bad then
      let s := put {}
      ((s.setFld (AUD_D_NA_PAIRS p d) ⟨i, i⟩ 0).raise 871 (audBid p)).audRetarget p d
    else put { q with since := n }
  else if pre || bad then
    let s := put ⟨true, 0⟩
    ((s.setFld (AUD_D_NA_PAIRS p d) ⟨i, i⟩ 1).raise 870 (audBid p) [w32 p, w32 d, w32 i]).audRetarget p d
  else put q

/-- A frame of a direction: detection, gains, and the next step of every ramp. -/
def State.audFrame (s : State) (p d : Nat) (f : List Word) : State × List Word :=
  let n := s.audSlots p
  let s := (List.range (n / 2)).foldl (fun s i => s.audPair p d f i) s
  let x := s.audDir p d
  let out := (List.range n).map (fun i => if s.audCut p d x i then 0 else scaleSample (f.getD i 0) (tabGet x.ramps {} i).gain)
  let ramping := (List.range n).any (fun i => let r := tabGet x.ramps {} i; r.k < r.n && !s.audCut p d x i)
  let na := !s.bit (AUD_D_CFG p d) AUD_D_CFG_NA_ACTION && x.pairs.any (·.2.on)
  let ramps := (List.range n).foldl (fun t i => tabSet t {} i (tabGet t {} i).next) x.ramps
  ((s.setAudDir p d { x with ramps := ramps }).audFlag p d (8 * b2n ramping + 16 * b2n na), out)

/-! ### Receive (R402, R404) -/

/-- A received block is written to its ring, and its sound reaches the recording channels. -/
def State.audWriteBlock (s : State) (p : Nat) (b : AudBlock) : State :=
  let s := s.memWrite (s.audPlace p 0 b.num) (wordsBytes (b.frames.flatMap (fun f => f)))
  let s := s.wr (AUD_D_WP p 0) (w32 (b.num + 1))
  let on (f : List Word) : List Word := f.zipIdx.filterMap (fun e => if b.mask.testBit e.2 then some e.1 else none)
  s.recSound p b.ns b.frac (s.audFs p) (b.frames.map on)

/-- A receive block completes: written with those that wait, or the oldest is lost as a third completes unwritten. -/
def State.audBlockDone (s : State) (p : Nat) (serve : Bool) : State :=
  let x := s.audDir p 0
  let all := x.wait ++ [x.blk]
  if serve then all.foldl (fun s b => s.audWriteBlock p b) (s.setAudDir p 0 { x with wait := [] })
  else match all with
    | a :: b :: c :: rest =>
      ((s.setAudDir p 0 { x with wait := b :: c :: rest }).audStamp p 0 { a with flags := a.flags ||| 1 }).audBlockLost p 0
    | l => s.setAudDir p 0 { x with wait := l }

/-- The received words of the frame that ends. -/
def State.audRxEnd (s : State) (p : Nat) (rx : List Word) (serve : Bool) : State :=
  if !(s.audDir p 0).active then s
  else
    let (s, out) := s.audFrame p 0 rx
    let x := s.audDir p 0
    let s := s.setAudDir p 0 { x with blk := { x.blk with frames := x.blk.frames ++ [out] } }
    let s := s.embedFrame p (out.zipIdx.map (fun e => if x.mask.testBit e.2 then e.1 else 0))
    if (s.audOf p).frame = 63 then s.audBlockDone p serve else s

/-! ### Frames and blocks begin (R402, R407, R408) -/

/-- A mask that was written more than 2 ticks before this frame sync applies (R408). -/
def State.audMaskApply (s : State) (p d : Nat) : State :=
  let x := s.audDir p d
  match x.pend with
  | some (v, at_) =>
    if s.ticks - at_ ≤ 2 then s
    else
      let s := (s.setAudDir p d { x with mask := v, pend := none }).setFld (AUD_D_STATUS p d) ⟨1, 1⟩ 0
      ((s.wr (AUD_D_MASK_STAMP p d) s.ns).raise 866 (audBid p) [w32 p, w32 d, s.ns]).audRetarget p d
  | none => s

/-- A transmit block starts (R404, R407): its lead rule, and the words it plays. -/
def State.audTxStart (s : State) (p : Nat) (fetched : Bool) : State :=
  let x := s.audDir p 1
  let b := x.blk.num
  let wp := (s.rd (AUD_D_WP p 1)).toNat
  let under := bitOf (s.rd (AUD_D_STATUS p 1)) 0
  let short := decide (wp < b + s.audLead p)
  let s := if x.stopping then s
    else if short && !under then
      (((s.setFld (AUD_D_STATUS p 1) ⟨0, 0⟩ 1).inc (AUD_D_UNDERRUN_CNT p 1)).raise 867 (audBid p)).audRetarget p 1
    else if !short && under then ((s.setFld (AUD_D_STATUS p 1) ⟨0, 0⟩ 0).raise 868 (audBid p)).audRetarget p 1
    else s
  let s := if bitOf (s.rd (AUD_D_STATUS p 1)) 0 then s.audFlag p 1 4 else s
  let late := decide (b < wp) && !fetched
  let n := s.audSlots p
  let data := if b < wp && fetched then bytesWords (s.memRead (s.audPlace p 1 b) (256 * n)) else []
  let x := s.audDir p 1
  let s := s.setAudDir p 1 { x with blk := { x.blk with frames := (List.range 64).map (fun k => (data.drop (k * n)).take n) } }
  if late then (s.audFlag p 1 1).audBlockLost p 1 else s

/-- A block of a moving direction begins. -/
def State.audBlockStart (s : State) (p d : Nat) (fetched : Bool) : State :=
  let a := s.audOf p
  let x := s.audDir p d
  let blk : AudBlock := { num := a.block, ns := s.ns, frac := s.frac.toNat / 16777216, mask := x.mask, flags := 2 * b2n a.disc }
  let s := (s.setAudDir p d { x with blk := blk }).wr (AUD_D_BLOCK p d) (w32 a.block)
  let s := s.audStamp p d blk
  if d = 1 then s.audTxStart p fetched else s

/-- A frame begins at its sync: masks apply, a block begins at frame 0, and the transmit frame leaves. -/
def State.audBegin (s : State) (p : Nat) (fetched : Bool) : State :=
  let s := s.setAud p { s.audOf p with last := s.ticks }
  let ds := s.audActive p
  let s := ds.foldl (fun s d => s.audMaskApply p d) s
  let s :=
    if (s.audOf p).frame = 0 then
      let s := ds.foldl (fun s d => s.audBlockStart p d fetched) s
      let s := s.setAud p { s.audOf p with disc := false }
      let c := s.rd (AUD_P_CFG p)
      if bitOf c 20 then s.wr (AUD_G_BLOCK (AUD_P_CFG_GROUP.get c)) (w32 (s.audOf p).block) else s
    else s
  if (s.audDir p 1).active then
    let f := (s.audDir p 1).blk.frames.getD (s.audOf p).frame []
    let (s, out) := s.audFrame p 1 f
    s.emit (.audioFrame p out)
  else s

/-- The next frame of a running port. -/
def State.audAdvance (s : State) (p : Nat) : State :=
  let a := s.audOf p
  s.setAud p (if a.frame = 63 then { a with frame := 0, block := (a.block + 1) % 4294967296 } else { a with frame := a.frame + 1 })

/-! ### Slave clocks (R400) -/

/-- `n` frames that lasted `q` in 2^-32 ns lie within FS ± 0.5 %. -/
def audInRange (fs n q : Nat) : Bool :=
  decide (995 * fs * q ≤ n * 1000000000000 * 4294967296) && decide (n * 1000000000000 * 4294967296 ≤ 1005 * fs * q)

/-- The time from an older sync to the newest, in 2^-32 ns. -/
def audSpan (times : List Nat) (i : Nat) : Nat := (times.getD 0 0 + 18446744073709551616 - times.getD i 0) % 18446744073709551616

/-- A slave's frame sync is measured. -/
def State.audMeasure (s : State) (p : Nat) : State :=
  let a := s.audOf p
  let a := { a with times := (s.tb0.toNat :: a.times).take 65 }
  let s := s.setAud p a
  if a.times.length = 65 then s.wr (AUD_P_FS_MEAS p) (w32 (64 * 1000000000 * 4294967296 / max 1 (audSpan a.times 64))) else s

/-- The port enters LOST (R400). -/
def State.audLost (s : State) (p cause : Nat) : State :=
  let s := s.setAud p { s.audOf p with good := 0, lostAt := s.ticks }
  (s.setAudState p 4).raise 869 (audBid p) [w32 cause]

/-- The port resumes at this frame (R400): a block begins anew with a ramp-up, and the block periods skipped count. -/
def State.audResume (s : State) (p : Nat) (fetched : Bool) : State :=
  let a := s.audOf p
  let skipped := (s.ticks - a.lostAt) * 4 * s.audFs p / (5 * 64 * 1000000000)
  let s := s.setAud p { a with frame := 0, disc := true, good := 0, times := a.times.take 1 }
  let s := (s.audActive p).foldl (fun s d =>
    let s := s.inc (AUD_D_LOST_CNT p d) skipped
    (s.setAudDir p d { s.audDir p d with ramps := [] }).audRetarget p d) s
  let stop := (s.audActive p).any (fun d => (s.audDir p d).stopping)
  (s.setAudState p (if stop then 3 else 2)).audBegin p fetched

/-- A frame sync in LOST. -/
def State.audLostSync (s : State) (p : Nat) (fetched : Bool) : State :=
  let a := s.audOf p
  if 64 ≤ a.good then s.audResume p fetched
  else s.setAud p { a with good := if 2 ≤ a.times.length && audInRange (s.audFs p) 1 (audSpan a.times 1) then a.good + 1 else 0 }

/-- A frame sync of a port: `width` ticks of its pulse, the words received in the frame that it ends, and whether Iso service wrote the blocks that
wait and fetched the block that may start (R400, R402, R404). -/
def State.audSync (s : State) (p width : Nat) (rx : List Word) (serve fetched : Bool) : State :=
  let slave := !s.bit (AUD_P_CFG p) AUD_P_CFG_MASTER
  if !s.audOn p || (slave && width < 2) then s
  else
    let s := if slave then s.audMeasure p else s
    let st := s.audState p
    if st = 4 then s.audLostSync p fetched
    else if st = 2 || st = 3 then
      let s := s.audRxEnd p rx serve
      let a := s.audOf p
      if slave && a.times.length == 65 && !audInRange (s.audFs p) 64 (audSpan a.times 64) then s.audLost p 1
      else (s.audAdvance p).audBegin p fetched
    else s

/-- Row AUD_FRAME_SYNC. -/
def execAudFrameSync (p : Fin 16) (width : Nat) (rx : List Word) (serve fetched : Bool) (s : State) : Res :=
  .next (s.settle (s.audSync p width rx serve fetched))

/-- Row AUD_FS_TIMEOUT: no frame sync of a slave for 2 frame periods. -/
def execAudFsTimeout (p : Fin 16) (s : State) : Res :=
  .next (if s.audOn p && !s.bit (AUD_P_CFG p) AUD_P_CFG_MASTER && (s.audState p == 2 || s.audState p == 3) then s.audLost p 2 else s)

/-! ### Start and stop (R405, R406) -/

/-- A port in use is WAITING after START. -/
def State.audStart (s : State) (p : Nat) : State :=
  if s.audOn p && s.audState p == 0 then (s.setAud p { s.audOf p with trig := false }).setAudState p 1 else s

/-- A direction idles. -/
def State.audIdle (s : State) (p d : Nat) : State :=
  let x := s.audDir p d
  let s := s.setAudDir p d { mask := x.mask, pend := x.pend }
  let s := s.wr (AUD_D_NA_PAIRS p d) 0
  let s := s.setFld (AUD_D_STATUS p d) ⟨0, 0⟩ 0
  if (s.audActive p).isEmpty then s.setAudState p 0 else s

/-- STOP: every moving direction ramps down. -/
def State.audStop (s : State) (p : Nat) : State :=
  let st := s.audState p
  if st = 1 then s.setAudState p 0
  else if st = 2 then
    if (s.audActive p).isEmpty then s.setAudState p 0
    else (s.audActive p).foldl (fun s d => (s.setAudDir p d { s.audDir p d with stopping := true }).audRetarget p d) (s.setAudState p 3)
  else if st = 4 then ((s.audActive p).foldl (fun s d => s.audIdle p d) s).setAudState p 0
  else s

/-- A write of AUD_P_CTRL: START, then STOP. -/
def State.audCtrl (s : State) (p : Nat) (v : Word) : State :=
  let s := if bitOf v 0 then s.audStart p else s
  if bitOf v 1 then s.audStop p else s

/-- Row AUD_START. -/
def execAudStart (p : Fin 16) (s : State) : Res := .next (s.hostDo (AUD_P_CTRL p) true (·.audCtrl p 1))
/-- Row AUD_STOP. -/
def execAudStop (p : Fin 16) (s : State) : Res := .next (s.hostDo (AUD_P_CTRL p) true (·.audCtrl p 2))

/-- A delivery of the port's Stroke slot (R406). -/
def State.audTrigger (s : State) (p : Nat) : State :=
  if s.audState p = 2 then s.inc (AUD_P_TRIG_IGN p)
  else if s.audState p = 1 then s.setAud p { s.audOf p with trig := true } else s

/-- The ports of a port's alignment group, itself alone where it is in none (R406). -/
def State.audMembers (s : State) (p : Nat) : List Nat :=
  let c := s.rd (AUD_P_CFG p)
  if !bitOf c 20 then [p]
  else (List.range 16).filter (fun q => let k := s.rd (AUD_P_CFG q); s.audOn q && bitOf k 20 && AUD_P_CFG_GROUP.get k == AUD_P_CFG_GROUP.get c)

/-- One port starts at a block number (R402, R406). -/
def State.audRun (s : State) (p block : Nat) (fetched : Bool) : State :=
  let a := s.audOf p
  let s := s.setAud p { block := block, times := a.times, rx := { mask := a.rx.mask, pend := a.rx.pend }, tx := { mask := a.tx.mask, pend := a.tx.pend } }
  let s := (List.range 2).foldl (fun s d =>
    if s.audDirOn p d then
      let s := s.wr (AUD_D_NA_PAIRS p d) 0
      let s := if d = 0 then s.wr (AUD_D_WP p 0) (w32 block) else s
      (s.setAudDir p d { s.audDir p d with active := true }).audRetarget p d
    else s) s
  ((s.setAudState p 2).raise 864 (audBid p) [s.ns]).audBegin p fetched

/-- A port's first frame sync falls: it starts with every WAITING member of its group, or joins the running group at a block boundary (R406). -/
def State.audFirstSync (s : State) (p : Nat) (fetched : Bool) : State :=
  let c := s.rd (AUD_P_CFG p)
  if !s.audOn p || s.audState p != 1 || (bitOf c 21 && !(s.audOf p).trig) then s
  else
    let ms := s.audMembers p
    match ms.find? (fun q => s.audState q == 2 || s.audState q == 3) with
    | none => (ms.filter (fun q => s.audState q == 1)).foldl (fun s q => s.audRun q 0 fetched) s
    | some q => if (s.audOf q).frame = 0 && (s.audOf q).last = s.ticks then s.audRun p (s.audOf q).block fetched else s

/-- Row AUD_PORT_STARTED. -/
def execAudPortStarted (p : Fin 16) (fetched : Bool) (s : State) : Res := .next (s.settle (s.audFirstSync p fetched))

/-- Row AUD_RAMP_END: every ramp of a direction has reached its last sample; after a stop ramp the direction idles. -/
def execAudRampEnd (p : Fin 16) (d : Fin 2) (s : State) : Res :=
  .next (
    let x := s.audDir p d
    if x.active && x.stopping && x.ramps.all (fun r => r.2.n ≤ r.2.k) then s.settle ((s.raise 865 (audBid p)).audIdle p d) else s)

/-! ### Masks, mutes and positions (R402, R405, R408) -/

/-- A write of AUD_D_MASK. -/
def State.audMaskWrite (s : State) (p d : Nat) (v : Word) : State :=
  let v := v &&& 0xFFFF
  let x := s.audDir p d
  ((s.wr (AUD_D_MASK p d) v).setAudDir p d { x with pend := some (v.toNat, s.ticks) }).setFld (AUD_D_STATUS p d) ⟨1, 1⟩ 1

/-- Row AUD_MASK_WRITE. -/
def execAudMaskWrite (p : Fin 16) (d : Fin 2) (v : Word) (s : State) : Res := .next (s.hostDo (AUD_D_MASK p d) true (·.audMaskWrite p d v))

/-- A write of AUD_D_MUTE: changed slots ramp down or up. -/
def State.audMuteWrite (s : State) (p d : Nat) (v : Word) : State :=
  let s := s.wr (AUD_D_MUTE p d) (v &&& 0xFFFF)
  if (s.audDir p d).active then s.audRetarget p d else s

/-- Row AUD_MUTE_WRITE. -/
def execAudMuteWrite (p : Fin 16) (d : Fin 2) (v : Word) (s : State) : Res := .next (s.hostDo (AUD_D_MUTE p d) true (·.audMuteWrite p d v))

/-- A producer's write of a transmit AUD_D_WP. -/
def State.audWp (s : State) (p : Nat) (v : Word) : State := s.wr (AUD_D_WP p 1) v

/-- Row AUD_WP_WRITE. -/
def execAudWpWrite (p : Fin 16) (v : Word) (s : State) : Res := .next (s.hostDo (AUD_D_WP p 1) true (·.audWp p v))

/-! ### Commit and stop -/

/-- DIV_INT + DIV_FRAC ÷ 2^24 in units of 2^-24 (R399). -/
def State.audDiv (v : State) (p : Nat) : Nat := bitsOf (v.rd (AUD_P_DIV p)).toNat 11 0 * 16777216 + bitsOf (v.rd (AUD_P_FRAC p)).toNat 23 0

/-- A port at step 4 (R397, R399, R401). -/
def chkAudPort (v : State) (p : Nat) : Option Nat :=
  if !v.bit (AUD_P_CFG p) AUD_P_CFG_EN then none
  else
    let fs := bitsOf (v.rd (AUD_P_FS p)).toNat 17 0
    let den := v.audDiv p * 32 * v.audSlots p
    let num := 98304000 * 16777216
    let bad := v.fld (AUD_P_CFG p) AUD_P_CFG_FORMAT == 3 || decide (fs < 32000) || decide (192000 < fs) ||
      (List.range 2).any (fun d => v.audDirOn p d && (v.fld (AUD_D_CFG p d) AUD_D_CFG_RING_LOG < 1 || 12 < v.fld (AUD_D_CFG p d) AUD_D_CFG_RING_LOG)) ||
      (v.bit (AUD_P_CFG p) AUD_P_CFG_MASTER &&
        (decide (v.audDiv p < 16777216) || decide (fs * den < (max num (fs * den) - min num (fs * den)) * 1000000))) ||
      (!v.bit (AUD_P_CFG p) AUD_P_CFG_MASTER && v.bit (AUD_P_CFG p) AUD_P_CFG_GROUPED)
    if bad then some 0x0401 else none

/-- The alignment groups at step 4 (R406): masters with one FS and one product DIV × SLOTS, as AUD_G_CFG names them. -/
def chkAudGroups (v : State) : Option Nat :=
  let grouped (p g : Nat) : Bool :=
    let c := v.rd (AUD_P_CFG p)
    bitOf c 31 && bitOf c 20 && AUD_P_CFG_GROUP.get c == g
  let bad := (List.range 4).any (fun g =>
    let ms := (List.range 16).filter (fun p => grouped p g)
    let c := v.rd (AUD_G_CFG g)
    let one (f : Nat → Nat) : Bool := match ms with | [] => true | p :: ps => ps.all (fun q => f q == f p)
    !ms.isEmpty && (!bitOf c 16 || ms.any (fun p => !bitOf c p)) || (bitOf c 16 && (List.range 16).any (fun p => bitOf c p && !grouped p g)) ||
      !one (fun p => v.audFs p) || !one (fun p => v.audDiv p * v.audSlots p))
  if bad then some 0x0401 else none

/-- A port returns to OFF with nothing in progress. -/
def State.audReset (s : State) (p : Nat) : State := (s.setAud p {}).setAudState p 0

/-- A port stops with a code (R32). -/
def State.audFail (s : State) (p code : Nat) : State :=
  let s := s.audReset p
  if bitsOf (s.rd (AUD_P_STATUS p)).toNat 15 8 = 0 then s.setFld (AUD_P_STATUS p) ⟨15, 8⟩ code else s

end Sys2Proof.Machine
end

