-- ==== Sys2Proof/Machine/Catch.lean ====
section
/-! DEFINITION. The raw front end (R184 to R214): calibration layers, the stages on one line, merge memory, raw frames, dynamic defects, and rows
CAT_USER_COMMIT_GO to DEFECT_INDEX_BUILT and HEAD_TEMP_STALE. -/

namespace Sys2Proof.Machine

/-- The Catch state of a head. -/
def State.catOf (s : State) (h : Nat) : CatH := tabGet s.cat {} h

/-- The Catch state of a head set. -/
def State.setCat (s : State) (h : Nat) (c : CatH) : State := { s with cat := tabSet s.cat {} h c }

/-- Values replaced or clamped: they count in CAT_H_LOAD_CLAMP, with event 170 once per round (R185, R189). -/
def State.loadClamp (s : State) (h n : Nat) : State :=
  if n = 0 then s else (s.inc (CAT_H_LOAD_CLAMP h) n).raiseOnce 170 h (s.feBid h)

/-! ### Calibration layers (R188, R189) -/

/-- Key of a table entry. -/
def calKey (typ ro i : Nat) : Nat := (typ * 4 + ro) * 65536 + i

/-- Entries of a table (R188); 0 for a TYPE that names none. -/
def calLen (g : Geom) : Nat → Nat
  | 1 => 12288 | 2 => g.w | 3 => g.h | 4 => 4096 | 5 => 12288 | 6 => 2 | _ => 0

/-- Whether a table is kept per readout (R188). -/
def calPerReadout (typ : Nat) : Bool := typ != 5

/-- The readout under which a table is kept. -/
def calReadout (typ ro : Nat) : Nat := if calPerReadout typ then ro % 4 else 0

/-- Identity factory entries (R194). -/
def calIdentFact (g : Geom) (typ i : Nat) : Word :=
  if typ = 2 then 0x40000000
  else if typ = 4 then (fpDiv (fpScaled i ((g.b : Int) - 12)) (fpInt (2 ^ g.b - 1))).1
  else if typ = 5 then 0x1000
  else if typ = 6 then fpOne
  else 0

/-- Identity user entries (R188). -/
def calIdentUser (typ i : Nat) : Word :=
  if typ = 2 then 0x40000000 else if typ = 5 then 0x4000 else if typ = 6 && i == 0 then fpOne else 0

/-- A factory entry of a head. -/
def CatH.factEntry (c : CatH) (g : Geom) (typ ro i : Nat) : Word :=
  let ro := calReadout typ ro
  if c.factHas.contains (typ * 4 + ro) then tabGet c.fact 0 (calKey typ ro i) else calIdentFact g typ i

/-- A user entry of a head, of the layer in force or of the shadow. -/
def CatH.userEntry (c : CatH) (shadow : Bool) (typ ro i : Nat) : Word :=
  tabGet (if shadow then c.shadow else c.user) (calIdentUser typ i) (calKey typ (calReadout typ ro) i)

/-- A 16-bit gain held within 0.5 to 2.0 (R188, R189). -/
def clampGain16 (v : Nat) : Nat × Nat := let c := clampNat 0x2000 0x8000 v; (c, if c = v then 0 else 1)

/-- An FP32 entry that is NaN or infinite is replaced by 0.0 (R189). -/
def cleanFp (v : Word) : Word × Nat := if fpFinite v then (v, 0) else (0, 1)

/-- A user entry as it is kept, with the number of substitutions of R189. -/
def cleanUser (typ i : Nat) (v : Word) : Word × Nat :=
  if typ = 1 || typ = 3 then (v &&& 0xFFFF, 0)
  else if typ = 2 then
    let (g, n) := clampGain16 (bitsOf v.toNat 31 16)
    (w32 (g * 65536 + v.toNat % 65536), n)
  else if typ = 4 then cleanFp v
  else if typ = 5 then let (g, n) := clampGain16 (v.toNat % 65536); (w32 g, n)
  else if i = 0 then
    let (f, n) := cleanFp v
    if fpLt f 0x3F000000 then (0x3F000000, n + 1) else if fpLt 0x40000000 f then (0x40000000, n + 1) else (f, n)
  else (0, 0)

/-- A factory entry as it is kept (R189). -/
def cleanFact (typ : Nat) (v : Word) : Word × Nat :=
  if typ = 4 || typ = 6 then cleanFp v else if typ = 2 then (v, 0) else (v &&& 0xFFFF, 0)

/-- The low 16 bits of an entry as a signed number. -/
def s16 (v : Word) : Int := sext 16 v.toNat

/-- Effective values of R188 from the factory and the user entry: black, offsets, linearisation, shading and noise. -/
def calEffective (typ : Nat) (f u : Word) : Word × Nat :=
  if typ = 4 then fpAdd f u
  else if typ = 5 then fpMul (fpScaled (f.toNat % 65536 : Nat) (-12)) (fpScaled (u.toNat % 65536 : Nat) (-14))
  else if typ = 6 then fpMul f u
  else (fpScaled (s16 f + s16 u) (-4), 0)

/-- The effective column gain (R188). -/
def colGain (f u : Word) : Word := (fpMul (fpScaled (bitsOf f.toNat 31 16 : Nat) (-14)) (fpScaled (bitsOf u.toNat 31 16 : Nat) (-14))).1

/-- What the stages of one line take from the state: geometry, calibration layers, and the head's registers. -/
structure CatCfg where
  g : Geom
  c : CatH
  fonly : Bool

/-- The user entry that the pipeline uses: the identity under Paddle processing (R120). -/
def CatCfg.user (k : CatCfg) (typ ro i : Nat) : Word := if k.fonly then calIdentUser typ i else k.c.userEntry false typ ro i

/-- The effective value of an entry as the pipeline uses it. TYPE 6 entry 1 takes the gain of entry 0 (R188). -/
def CatCfg.eff (k : CatCfg) (typ ro i : Nat) : Word :=
  (calEffective typ (k.c.factEntry k.g typ ro i) (k.user typ ro (if typ = 6 then 0 else i))).1

/-- The effective column gain. -/
def CatCfg.gain (k : CatCfg) (ro col : Nat) : Word := colGain (k.c.factEntry k.g 2 ro col) (k.user 2 ro col)

/-- The stage configuration of a head. -/
def State.catCfg (s : State) (h : Nat) : CatCfg := ⟨s.geom h, s.catOf h, s.factoryOnly h⟩

/-- Replacements of R185 in the effective linearisation and noise values of every readout, counted when a layer applies. -/
def CatCfg.applyCount (k : CatCfg) : Nat :=
  ((List.range k.g.r).map (fun ro =>
    ((List.range 4096).map (fun i => (calEffective 4 (k.c.factEntry k.g 4 ro i) (k.user 4 ro i)).2)).sum +
    ((List.range 2).map (fun i => (calEffective 6 (k.c.factEntry k.g 6 ro i) (k.user 6 ro 0)).2)).sum)).sum

/-- Bilinear interpolation of a grid table (R196). -/
def gridAt (g : Geom) (node : Nat → Word) (row col : Nat) : Cnt Word := do
  let gx ← cDiv (fpInt (col * 63 : Nat)) (fpInt ((g.w : Int) - 1))
  let gy ← cDiv (fpInt (row * 47 : Nat)) (fpInt ((g.h : Int) - 1))
  let i := min (fpFloor gx).toNat 62
  let j := min (fpFloor gy).toNat 46
  let fx ← cSub gx (fpInt i)
  let fy ← cSub gy (fpInt j)
  let n (a b : Nat) : Word := node (g.plane row col * 3072 + b * 64 + a)
  let mx ← cSub fpOne fx
  let my ← cSub fpOne fy
  let lo ← cAdd (← cMul mx (n i j)) (← cMul fx (n (i + 1) j))
  let hi ← cAdd (← cMul mx (n i (j + 1))) (← cMul fx (n (i + 1) (j + 1)))
  cAdd (← cMul my lo) (← cMul fy hi)

/-! ### The optical-black clamp (R195) -/

/-- The clamp level of a readout and plane. -/
def CatH.kLev (c : CatH) (r p : Nat) : Word := tabGet c.k 0 (4 * r + p)

/-- The OB photosites of a plane in a line, as FP32 codes. -/
def obCodes (g : Geom) (row left p : Nat) (px : List Nat) : List Word :=
  (((px.take left).zipIdx).filter (fun e => g.plane row e.2 == p)).map (fun e => fpInt e.1)

/-- One plane's clamp update: the new level, and whether the plane had OB photosites of which none was accepted. -/
def clampUpdate (codes : List Word) (k : Word) (reject shift : Nat) : Cnt (Word × Bool) := do
  let near ← codes.mapM (fun c => do pure (c, fpLe (fpAbs (← cSub c k)) (fpInt reject)))
  let acc := (near.filter (fun e => reject == 0 || e.2)).map (·.1)
  if acc.isEmpty then pure (k, !codes.isEmpty)
  else
    let m ← cMean acc
    pure (← cAdd k (← cMul (← cSub m k) (fpScaled 1 (-(min shift 8 : Nat)))), false)

/-- The clamp update of a line of a readout, before the line's own photosites are clamped (R195). -/
def State.catClamp (s : State) (h r row : Nat) (px : List Nat) : State :=
  let ob := s.rd (CAT_H_OB h)
  let left := CAT_H_OB_OB_LEFT.get ob
  let g := s.geom h
  if left = 0 then
    let c := s.catOf h
    s.setCat h { c with k := (List.range 16).foldl (fun t i => tabSet t 0 i (s.rd (CAT_H_CLAMP_FIXED h))) c.k }
  else
    let c := s.catOf h
    let step (st : Table Word × Bool × Nat) (p : Nat) : Table Word × Bool × Nat :=
      let ((v, e), n) := clampUpdate (obCodes g row left p px) (c.kLev r p) (CAT_H_OB_REJECT.get ob) (CAT_H_OB_SHIFT.get ob) 0
      (tabSet st.1 0 (4 * r + p) v, st.2.1 || e, st.2.2 + n)
    let (k, empty, n) := (List.range 4).foldl step (c.k, false, 0)
    let s := (s.setCat h { c with k := k }).loadClamp h n
    if empty then (s.inc (CAT_H_CLAMP_EMPTY h)).raiseOnce 163 h (s.feBid h) else s

/-! ### Defect contexts (R197 to R201) -/

/-- Fields of a context (R197). -/
structure Ctx where
  col : Nat
  row : Nat
  recipe : Nat
  cw : Nat
  ch : Nat
  state : Nat
  user : Bool
  tco : Int
  miss : Nat
  hits : Nat
  dev : Nat

/-- An empty context: STATE 3, every other field 0. -/
def ctxEmpty : BitVec 96 := 0x000000000000_00C0_0000_0000#96

/-- The fields of a context's bits. -/
def ctxOf (v : BitVec 96) : Ctx where
  col := bitsOf v.toNat 14 0
  row := bitsOf v.toNat 28 15
  recipe := bitsOf v.toNat 31 29
  cw := bitsOf v.toNat 34 32
  ch := bitsOf v.toNat 37 35
  state := bitsOf v.toNat 39 38
  user := v.getLsbD 40
  tco := sext 8 (bitsOf v.toNat 49 42)
  miss := bitsOf v.toNat 79 64
  hits := bitsOf v.toNat 87 80
  dev := bitsOf v.toNat 95 88

/-- A context's bits with a field set. -/
def ctxPut (v : BitVec 96) (hi lo n : Nat) : BitVec 96 :=
  BitVec.ofNat 96 (v.toNat / 2 ^ (hi + 1) * 2 ^ (hi + 1) + n % 2 ^ (hi + 1 - lo) * 2 ^ lo + v.toNat % 2 ^ lo)

/-- The context under an index of the context memory. -/
def CatH.ctxAt (c : CatH) (i : Nat) : BitVec 96 := tabGet c.ctx ctxEmpty i

/-- A context set. -/
def CatH.setCtx (c : CatH) (i : Nat) (v : BitVec 96) : CatH := { c with ctx := tabSet c.ctx ctxEmpty i v }

/-- First index and count of a head's context range. -/
def State.defRange (s : State) (h : Nat) : Nat × Nat :=
  (bitsOf (s.rd (CAT_H_DEF_FIRST h)).toNat 19 0, bitsOf (s.rd (CAT_H_DEF_COUNT h)).toNat 20 0)

/-- The context is not invalid: its RECIPE is defined and its position lies in the frame (R197). -/
def Ctx.valid (x : Ctx) (g : Geom) : Bool := decide (x.recipe ≤ 2) && decide (x.col < g.w) && decide (x.row < g.h)

/-- Kinds of context in the order in which they win (R199): 0 user, 1 factory, 2 dynamic, 3 none that corrects. -/
def ctxKind (x : Ctx) (isFact suspended : Bool) (promote : Nat) : Nat :=
  if x.state = 0 then if isFact then if suspended then 3 else 1 else if x.user then 0 else 3
  else if x.state = 1 && decide (max 1 promote ≤ x.hits) then 2 else 3

/-- A context of the raster index that may correct in this frame: kind, index, fields. -/
structure LiveCtx where
  kind : Nat
  idx : Nat
  x : Ctx

/-- The contexts that may correct in this frame (R199): valid, of a kind that corrects, and active at the head temperature. -/
def liveCtxs (g : Geom) (act : List (Nat × BitVec 96)) (firstUser promote : Nat) (temp : Option Int) (fonly : Bool) : List LiveCtx :=
  let all := act.map (fun e => (e.1, ctxOf e.2))
  let susp (x : Ctx) : Bool := !fonly && all.any (fun e => e.2.user && e.2.state == 2 && e.2.col == x.col && e.2.row == x.row)
  all.filterMap (fun e =>
    let k := ctxKind e.2 (decide (e.1 < firstUser) && !e.2.user) (susp e.2) promote
    let on := match temp with
      | none => true
      | some t => decide (e.2.tco = -128) || decide (16 * e.2.tco ≤ t)
    if e.2.valid g && on && k < 3 && (!fonly || k == 1) then some ⟨k, e.1, e.2⟩ else none)

/-- The context covers a line. -/
def LiveCtx.onLine (l : LiveCtx) (row : Nat) : Bool :=
  if l.x.recipe = 2 then decide (l.x.row ≤ row) && decide (row ≤ l.x.row + l.x.ch) else l.x.row == row

/-- The context covers a column of a line that it touches. -/
def LiveCtx.onCol (l : LiveCtx) (col : Nat) : Bool :=
  if l.x.recipe = 2 then decide (l.x.col ≤ col) && decide (col ≤ l.x.col + l.x.cw) else l.x.col == col

/-- Insertion by column, then index: raster order within a line. -/
def insertLive (l : LiveCtx) : List LiveCtx → List LiveCtx
  | [] => [l]
  | m :: ms => if l.x.col < m.x.col || (l.x.col == m.x.col && l.idx < m.idx) then l :: m :: ms else m :: insertLive l ms

/-- The contexts that touch a line, in raster order. -/
def lineCtxs (live : List LiveCtx) (row : Nat) : List LiveCtx :=
  (live.filter (·.onLine row)).foldl (fun acc l => insertLive l acc) []

/-- Contexts that apply to one line of one readout at most (R201). -/
def defLineMax : Nat := 4096

/-- The better of two contexts at a position: lower kind, then lower index (R199). -/
def betterCtx (a : Option LiveCtx) (b : LiveCtx) : Option LiveCtx :=
  match a with
  | none => some b
  | some a => if b.kind < a.kind || (b.kind == a.kind && b.idx < a.idx) then some b else some a

/-- The context that applies at a position of a line. -/
def applied (line : List LiveCtx) (col : Nat) : Option LiveCtx :=
  ((line.take defLineMax).filter (·.onCol col)).foldl betterCtx none

/-- What a recipe may read (R200): the current line at index 0 and the lines above it, newest first, with the contexts of each line. -/
structure DefView where
  g : Geom
  rows : List (List Word × List LiveCtx)

/-- A neighbour `up` lines above at a column, unless it lies outside the frame or is itself corrected (R200). -/
def DefView.at (v : DefView) (up : Nat) (col : Int) : Option Word :=
  if col < 0 then none
  else match v.rows[up]? with
    | none => none
    | some (xs, cs) => if (applied cs col.toNat).isSome then none else xs[col.toNat]?

/-- Insertion by value. -/
def insertFp (a : Word) : List Word → List Word
  | [] => [a]
  | b :: bs => if fpKey a < fpKey b then a :: b :: bs else b :: insertFp a bs

/-- The median-of-4 value of R200. -/
def median4 (v : DefView) (d : Nat) (col : Nat) (own : Word) : Cnt Word :=
  let c : Int := col
  let s := ([v.at 0 (c - d), v.at 0 (c + d), v.at d (c - d), v.at d (c + d)].filterMap id).foldl (fun acc a => insertFp a acc) []
  match s with
  | [_, a, b, _] => cMean [a, b]
  | [_, a, _] => pure a
  | [a, b] => cMean [a, b]
  | [a] => pure a
  | _ => pure own

/-- The directional value of R200. -/
def directional (v : DefView) (d : Nat) (col : Nat) (own : Word) : Cnt Word :=
  let c : Int := col
  match v.at 0 (c - d), v.at 0 (c + d), v.at d c, v.at (2 * d) c with
  | some l, some r, some u, some u2 => do
    let gh ← cSub l r
    let gv ← cSub u u2
    if fpLe (fpAbs gh) (fpAbs gv) then cMean [l, r] else pure u
  | _, _, _, _ => median4 v d col own

/-- Two columns or rows show the same colour along a line of the array. -/
def sameColour (g : Geom) (a b : Nat) : Bool :=
  if g.cfa = 2 then true else if g.cfa = 1 then a / 2 % 2 == b / 2 % 2 else a % 2 == b % 2

/-- The nearest same-colour distance for which a test holds, up to 16. -/
def nearest (test : Nat → Bool) : Option Nat := ((List.range 16).map (· + 1)).find? test

/-- The cluster value of R200: inverse-distance mean of the nearest same-colour photosites to the left, to the right and above. -/
def clusterValue (v : DefView) (x : Ctx) (row col : Nat) (own : Word) : Cnt Word := do
  let l := nearest (fun t => decide (col < x.col + t) && decide (t ≤ col) && sameColour v.g col (col - t))
  let r := nearest (fun t => decide (x.col + x.cw < col + t) && sameColour v.g col (col + t))
  let u := nearest (fun t => decide (row < x.row + t) && decide (t ≤ row) && sameColour v.g row (row - t))
  let side (t : Option Nat) (f : Nat → Option Word) : List (Word × Nat) :=
    match t with
    | some t => match f t with
      | some w => [(w, t)]
      | none => []
    | none => []
  let ns := side l (fun t => v.at 0 ((col : Int) - t)) ++ side r (fun t => v.at 0 ((col : Int) + t)) ++ side u (fun t => v.at t col)
  match ns with
  | [] => pure own
  | _ =>
    let num ← ns.mapM (fun e => cDiv e.1 (fpInt e.2))
    let den ← ns.mapM (fun e => cDiv fpOne (fpInt e.2))
    cDiv (← cSum 0 num) (← cSum 0 den)

/-- The corrected value at a position under a context (R200); mono uses d = 1. -/
def recipeValue (v : DefView) (x : Ctx) (row col : Nat) (own : Word) : Cnt Word :=
  let d := if v.g.cfa = 2 then 1 else v.g.period
  if x.recipe = 0 then median4 v d col own else if x.recipe = 1 then directional v d col own else clusterValue v x row col own

/-- Result of stage 4 on a line: values, corrected flags, and the flagged photosites in column order. -/
structure Stage4 where
  xs : List Word
  corr : List Bool
  flagged : List (Nat × Word)

/-- The detection score of R202. -/
def dynScore (v : DefView) (col : Nat) (x a b : Word) : Cnt Word := do
  let d := if v.g.cfa = 2 then 1 else v.g.period
  let m ← median4 v d col x
  let num ← cSub x m
  let den ← cSqrt (← cAdd a (← cMul b (fpMax m 0)))
  cDiv (fpAbs num) den

/-- Stage 4 on a line: each position takes its context's value, and with dynamic detection each position without a static context is scored. -/
def stage4 (v : DefView) (ctxs : List LiveCtx) (row : Nat) (xs : List Word) (dyn : Option (Word × Word × Word)) : Cnt Stage4 := do
  let out ← xs.zipIdx.mapM (fun (e : Word × Nat) => do
    let ap := applied ctxs e.2
    let val ← match ap with
      | some l => recipeValue v l.x row e.2 e.1
      | none => pure e.1
    let fl ← match dyn with
      | some (k, a, b) =>
        if (match ap with | some l => l.kind == 2 | none => true) then do
          let s ← dynScore v e.2 e.1 a b
          pure (if fpLe k s then some (e.2, s) else none)
        else pure none
      | none => pure none
    pure (val, ap.isSome, fl))
  pure ⟨out.map (·.1), out.map (·.2.1), (out.filterMap (·.2.2)).take 64⟩

/-! ### Stages 5 to 8 (R204 to R209) -/

/-- Stage 5: fixed-pattern correction of a line (R204). -/
def stage5 (k : CatCfg) (ro row : Nat) (xs : List Word) : Cnt (List Word) :=
  xs.zipIdx.mapM (fun (e : Word × Nat) => do
    let a ← cSub e.1 (k.eff 2 ro e.2)
    let b ← cSub a (k.eff 3 ro row)
    cMul b (k.gain ro e.2))

/-- Stage 6: linearisation (R205), with the step of the segment for R208. -/
def linearise (k : CatCfg) (ro : Nat) (x : Word) : Cnt (Word × Word) := do
  let u ← cDiv x (fpScaled 1 ((k.g.b : Int) - 12))
  let i := (clampInt 0 4094 (fpFloor u)).toNat
  let f ← cSub u (fpInt i)
  let d ← cSub (k.eff 4 ro (i + 1)) (k.eff 4 ro i)
  let y ← cAdd (k.eff 4 ro i) (← cMul f d)
  pure (y, d)

/-- One readout's contribution at a photosite (R208): readout, x, z, variance, RATIO. -/
structure Contrib where
  ro : Nat
  z : Word
  var : Word
  ratio : Word
  valid : Bool

/-- The merge registers of a head. -/
structure MergeCfg where
  ratio : Nat → Word
  sat : Nat → Word
  ghostK : Word
  policy : Bool
  ref : Nat

/-- A readout's contribution at a photosite. -/
def contrib (k : CatCfg) (m : MergeCfg) (ro : Nat) (x : Word) : Cnt Contrib := do
  let (y, d) ← linearise k ro x
  let z ← cMul (m.ratio ro) y
  if fpLt x (m.sat ro) then
    let dr ← cDiv d (fpScaled 1 ((k.g.b : Int) - 12))
    let t ← cMul (m.ratio ro) dr
    let n ← cAdd (k.eff 6 ro 0) (← cMul (k.eff 6 ro 1) (fpMax x 0))
    pure ⟨ro, z, ← cMul (← cMul t t) n, m.ratio ro, true⟩
  else pure ⟨ro, z, 0, m.ratio ro, false⟩

/-- The contribution with the smallest RATIO, the lower readout winning a tie. -/
def smallest : Contrib → List Contrib → Contrib
  | a, [] => a
  | a, b :: bs => smallest (if fpLt b.ratio a.ratio then b else a) bs

/-- The contribution with the largest RATIO, the lower readout winning a tie. -/
def largest : Contrib → List Contrib → Contrib
  | a, [] => a
  | a, b :: bs => largest (if fpLt a.ratio b.ratio then b else a) bs

/-- A variance of 0 is taken as 2^-40 (R208). -/
def varOf (v : Word) : Word := if v &&& 0x7FFFFFFF = 0 then 0x2B800000 else v

/-- The merge of one photosite (R208): its value, saturated, ghosted. -/
def mergePhotosite (m : MergeCfg) (cs : List Contrib) : Cnt (Word × Bool × Bool) := do
  match cs with
  | [] => pure (0, false, false)
  | a :: as =>
    match cs.filter (·.valid) with
    | [] => pure ((largest a as).z, true, false)
    | v :: vs =>
      let r := match (v :: vs).find? (fun c => m.policy && c.ro == m.ref) with
        | some c => c
        | none => smallest v vs
      let cons ← (v :: vs).mapM (fun c => do
        if c.ro == r.ro then pure (c, true)
        else if m.ghostK = 0 then pure (c, true)
        else
          let lim ← cMul m.ghostK (← cSqrt (← cAdd c.var r.var))
          pure (c, fpLe (fpAbs (← cSub c.z r.z)) lim))
      let use := (cons.filter (·.2)).map (·.1)
      let num ← use.mapM (fun c => cDiv c.z (varOf c.var))
      let den ← use.mapM (fun c => cDiv fpOne (varOf c.var))
      match num, den with
      | n :: ns, d :: ds => do pure (← cDiv (← cSum n ns) (← cSum d ds), false, decide (use.length < cons.length))
      | _, _ => pure (r.z, false, false)

/-- The merge configuration of a head. -/
def State.mergeCfg (s : State) (h : Nat) : MergeCfg where
  ratio := fun r => s.rd (CAT_H_RATIO h r)
  sat := fun r => s.rd (CAT_H_SAT h r)
  ghostK := fpScaled (s.fld (CAT_H_MERGE h) CAT_H_MERGE_GHOST_K : Nat) (-8)
  policy := s.bit (CAT_H_MERGE h) CAT_H_MERGE_REF_POLICY
  ref := s.fld (CAT_H_MERGE h) CAT_H_MERGE_REF

/-- A readout of a line as the merge takes it: its index, stage-5 values, corrected flags, substituted. -/
structure LinePart where
  ro : Nat
  xs : List Word
  corr : List Bool
  subst : Bool

/-- Stages 6 to 8 on a line from its readouts (R205 to R209), in column order: value, saturated, ghosted. -/
def mergeLine (k : CatCfg) (m : MergeCfg) (row : Nat) (ps : List LinePart) : Cnt (List (Word × Bool × Bool)) :=
  (List.range k.g.w).mapM (fun col => do
    let (v, sat, gh) ←
      if k.fonly then do
        let (y, _) ← linearise k 0 ((ps.head?.bind (fun p => p.xs[col]?)).getD 0)
        pure (y, false, false)
      else do
        let cs ← ps.mapM (fun p => contrib k m p.ro ((p.xs[col]?).getD 0))
        mergePhotosite m cs
    let sh ← gridAt k.g (k.eff 5 0) row col
    pure (← cMul v sh, sat, gh))

/-! ### Raw output (R210 to R212) -/

/-- The exact CL20 position of a value as a multiple of 2^-25 above code 0, cut off below; none where v + 2^-20 ≤ 0 (R211). -/
def cl20Q25 (v : Word) : Option Int :=
  match fpOf v with
  | .fin x =>
    let e := min x.e (-20)
    let a : Int := (if x.neg then -1 else 1) * ((x.m * 2 ^ (x.e - e).toNat : Nat) : Int) + ((2 ^ (-20 - e).toNat : Nat) : Int)
    if a ≤ 0 then none else some (log2Q40 a.natAbs e + 786431 * 33554432)
  | .inf neg => if neg then none else some 1125899906842624
  | .nan => none

/-- The CL20 code of a value (R211). Within 2^-7 of a half-integer the code may be either neighbour, and the choice is free (log entry 20). -/
def cl20 (v : Word) : Nat :=
  match cl20Q25 v with
  | none => 0
  | some q =>
    let n := q / 33554432
    let f := (q % 33554432).toNat
    let near := decide (16777216 ≤ f + 262160) && decide (f ≤ 16777216 + 262160)
    let c := if near then (if Config.cl20Up v then n + 1 else n) else if f < 16777216 then n else n + 1
    (clampInt 0 1048575 c).toNat

/-- The native code of a stage-5 value (R210). -/
def nativeCode (b : Nat) (ped : Nat) (x : Word) : Cnt Nat := do
  pure (clampInt 0 (2 ^ b - 1) (fpToInt (← cAdd x (fpInt ped)))).toNat

/-- Bits per written photosite (R76). -/
def State.rawBits (s : State) (h : Nat) : Nat := if s.bit (CAT_H_CFG h) CAT_H_CFG_OUTFMT then 20 else (s.geom h).b

/-- Bytes per line of a raw frame (R76). -/
def rawStride (w bo : Nat) : Nat := ceilDiv (w * bo) 512 * 64

/-- Bytes of a raw buffer (R212). -/
def State.rawBufBytes (s : State) (h : Nat) : Nat := roundUp ((s.geom h).h * rawStride (s.geom h).w (s.rawBits h) + 4096) 4096

/-- Address of a raw buffer. -/
def State.rawBufAddr (s : State) (h i : Nat) : Nat :=
  s.rd64 (CAT_H_RAW_ADDR_LO h) (CAT_H_RAW_ADDR_HI h) / 4096 * 4096 + i * s.rawBufBytes h

/-- Codes packed at a width, the first lowest. -/
def packBits (bo : Nat) : List Nat → Nat
  | [] => 0
  | c :: cs => c % 2 ^ bo + 2 ^ bo * packBits bo cs

/-- One line written to the frame's raw buffer, if the frame has one (R212). -/
def State.rawLine (s : State) (h row : Nat) (codes : List Nat) : State :=
  match (s.catOf h).frame.bind (·.buf) with
  | none => s
  | some i =>
    let bo := s.rawBits h
    let st := rawStride (s.geom h).w bo
    s.memWrite (s.rawBufAddr h i + 4096 + row * st) (leBytes st (packBits bo codes))

/-! ### Frames and lines -/

/-- The frame in progress of a head changed. -/
def State.modCatFrame (s : State) (h : Nat) (f : CatFrame → CatFrame) : State :=
  let c := s.catOf h
  match c.frame with
  | none => s
  | some fr => s.setCat h { c with frame := some (f fr) }

/-- Live contexts of a head in its frame in progress. -/
def State.catLive (s : State) (h : Nat) : List LiveCtx :=
  let c := s.catOf h
  liveCtxs (s.geom h) c.active ((s.defRange h).1 + c.nFact) (s.fld (CAT_H_DYN h) CAT_H_DYN_PROMOTE) (c.frame.bind (·.temp)) (s.factoryOnly h)

/-- A merged line enters the line stream and, with RAW_WR, the raw buffer (R209 to R212). -/
def State.catEmit (s : State) (h row : Nat) (ps : List LinePart) : State :=
  let k := s.catCfg h
  let (out, n) := mergeLine k (s.mergeCfg h) row ps 0
  let flag (e : (Word × Bool × Bool) × Nat) : Nat :=
    b2n (ps.any (fun p => (p.corr[e.2]?).getD false)) + 2 * b2n e.1.2.1 + 4 * b2n e.1.2.2 + 8 * b2n (ps.any (·.subst))
  let sl : SLine := ⟨row, out.map (·.1), out.zipIdx.map flag⟩
  let s := s.loadClamp h n
  let c := s.catOf h
  let s := s.setCat h { c with stream := c.stream ++ [sl] }
  let s := s.modCatFrame h (fun f => { f with
    merged := row :: f.merged, allsat := f.allsat + (out.filter (·.2.1)).length, ghost := f.ghost + (out.filter (·.2.2)).length })
  if s.bit (CAT_H_CFG h) CAT_H_CFG_OUTFMT then s.rawLine h row (sl.vals.map cl20)
  else
    let ped := bitsOf (s.rd (CAT_H_NATIVE_PED h)).toNat 15 0
    let (codes, m) := (((ps.head?.map (·.xs)).getD []).mapM (nativeCode k.g.b ped)) 0
    (s.loadClamp h m).rawLine h row codes

/-- A stored value read back: x = q − 2,048 (R206). -/
def MergePart.asLine (p : MergePart) : LinePart := ⟨p.readout, p.q.map (fun (q : Nat) => fpInt ((q : Int) - 2048)), p.corr, p.subst⟩

/-- Readouts of a line in ascending order. -/
def insertPart (p : LinePart) : List LinePart → List LinePart
  | [] => [p]
  | a :: as => if p.ro < a.ro then p :: a :: as else a :: insertPart p as

/-- A stage-5 value as merge memory holds it (R206). -/
def mergeQ (x : Word) : Cnt Nat := do pure (clampInt 0 65535 (fpToInt (← cAdd x (fpInt 2048)))).toNat

/-- Bytes that a head's merge granules hold (R206). -/
def State.mergeCap (s : State) (h : Nat) : Nat := bitsOf (s.rd (CAT_H_MERGE_GRAN h)).toNat 29 16 * 4096

/-- Readouts stored in merge memory. -/
def mergeStored (ms : List MergeLine) : Nat := (ms.map (·.parts.length)).sum

/-- The oldest incomplete line merges from the readouts present (R207), with the arriving one if it is of that line. -/
def State.mergeOldest (s : State) (h : Nat) (arriving : Option (Nat × LinePart)) : State :=
  match (s.catOf h).frame with
  | none => s
  | some f =>
    let paste (s : State) (row : Nat) (ps : List LinePart) : State :=
      let first := decide (f.overruns = 0)
      let s := (s.inc (CAT_H_MERGE_OVR h)).modCatFrame h (fun f => { f with overruns := f.overruns + 1 })
      let s := if first then s.raise 162 (s.feBid h) else s
      s.catEmit h row (ps.foldl (fun acc p => insertPart p acc) [])
    match f.merge with
    | [] => match arriving with
      | some (row, p) => paste s row [p]
      | none => s
    | m :: ms =>
      let s := s.modCatFrame h (fun f => { f with merge := ms })
      let extra := match arriving with
        | some (row, p) => if row = m.line then [p] else []
        | none => []
      paste s m.line (m.parts.map (·.asLine) ++ extra)

/-- Merge memory makes room for one more stored readout (R207); at most `n` lines merge early. -/
def State.mergeRoom (s : State) (h row : Nat) (p : LinePart) : Nat → State
  | 0 => s
  | n + 1 =>
    match (s.catOf h).frame with
    | none => s
    | some f =>
      if f.merged.contains row then s
      else if (mergeStored f.merge + 1) * (2 * (s.geom h).w) ≤ s.mergeCap h then s
      else (s.mergeOldest h (some (row, p))).mergeRoom h row p n

/-- A readout is put into merge memory. -/
def storePart (row : Nat) (p : MergePart) : List MergeLine → List MergeLine
  | [] => [⟨row, [p]⟩]
  | m :: ms => if m.line = row then { m with parts := m.parts ++ [p] } :: ms else m :: storePart row p ms

/-- A readout of a line after stage 5 reaches the merge (R206, R207). -/
def State.catMerge (s : State) (h row : Nat) (p : LinePart) : State :=
  match (s.catOf h).frame with
  | none => s
  | some f =>
    if f.merged.contains row then s
    else if s.factoryOnly h then s.catEmit h row [p]
    else
      let have_ := ((f.merge.find? (fun m => m.line == row)).map (·.parts)).getD []
      if have_.length + 1 = (s.geom h).r then
        let s := s.modCatFrame h (fun f => { f with merge := f.merge.filter (fun m => m.line != row) })
        s.catEmit h row ((have_.map (·.asLine)).foldl (fun acc q => insertPart q acc) [p])
      else
        let s := s.mergeRoom h row p (f.merge.length + 1)
        match (s.catOf h).frame with
        | none => s
        | some f =>
          if f.merged.contains row then s
          else
            let (q, n) := p.xs.mapM mergeQ 0
            (s.modCatFrame h (fun f => { f with merge := storePart row ⟨p.ro, q, p.corr, p.subst⟩ f.merge })).loadClamp h n

/-- Stages 2 and 3 on a line (R195, R196). -/
def stage23 (k : CatCfg) (ro row : Nat) (px : List Nat) : Cnt (List Word) :=
  px.zipIdx.mapM (fun (e : Nat × Nat) => do
    let x ← cSub (fpInt e.1) (k.c.kLev ro (k.g.plane row e.2))
    cSub x (← gridAt k.g (k.eff 1 ro) row e.2))

/-- A line of a readout arrives from the port, with its code values, substituted or not (R184). -/
def State.catLine (s : State) (h ro row : Nat) (px : List Nat) (subst : Bool) : State :=
  match (s.catOf h).frame with
  | none => s
  | some _ =>
    if s.factoryOnly h && ro != 0 then s
    else
      let s := s.catClamp h ro row px
      let k := s.catCfg h
      let (x3, n3) := stage23 k ro row px 0
      let live := s.catLive h
      let cs := lineCtxs live row
      let f := ((s.catOf h).frame).getD {}
      let above := tabGet f.hist [] ro
      let view : DefView := ⟨k.g, (x3, cs) :: (above.zipIdx.map (fun e => (e.1, lineCtxs live (row - 1 - e.2))))⟩
      let dyn := if s.bit (CAT_H_CFG h) CAT_H_CFG_DYN_EN && !k.fonly then some (s.rd (CAT_H_DYN_K h), k.eff 6 ro 0, k.eff 6 ro 1) else none
      let (r4, n4) := stage4 view cs row x3 dyn 0
      let skip := cs.length - defLineMax
      let s := if skip = 0 then s else (s.inc (CAT_H_DEF_SKIP h) skip).raiseOnce 164 h (s.feBid h)
      let s := s.modCatFrame h (fun f => { f with
        hist := tabSet f.hist [] ro ((x3 :: above).take 8),
        dyn := f.dyn ++ r4.flagged.map (fun e => ⟨row, e.1, e.2⟩) })
      let (x5, n5) := stage5 k ro row r4.xs 0
      (s.loadClamp h (n3 + n4 + n5)).catMerge h row ⟨ro, x5, r4.corr, subst⟩

/-! ### Frame Start: what applies there (R190, R194, R198, R199, R212) -/

/-- Sections of a store for one head's table, of TYPE and READOUT, under the rules of R194. -/
def calPick (st : CalStore) (h typ ro tag : Nat) (zl : Option Nat) (len : Option Nat) : Option CalSection :=
  let ok (x : CalSection) : Bool :=
    x.head == h && x.typ == typ && (x.readout == ro || !calPerReadout typ) &&
    (match len with | some n => x.entries == n | none => true) &&
    (match zl with | some z => x.zlId == 0 || x.zlId == z | none => true)
  match st.sections.find? (fun x => ok x && x.tag == tag) with
  | some x => some x
  | none => st.sections.find? (fun x => ok x && x.tag == 0xFF)

/-- The tables a head takes from a store, in TYPE and READOUT order: key of the table and its section, if it has one. -/
def calTables (st : CalStore) (g : Geom) (h tag : Nat) (zl : Option Nat) : List (Nat × Nat × Option CalSection) :=
  [1, 2, 3, 4, 6].flatMap (fun t => (List.range g.r).map (fun r => (t, r, calPick st h t r tag zl (some (calLen g t))))) ++
  [(5, 0, calPick st h 5 0 tag zl (some (calLen g 5))), (7, 0, calPick st h 7 0 tag zl none)]

/-- Factory contexts of a section (R193, R197): USER is set by the CX96. -/
def calContexts (x : CalSection) : List (BitVec 96) :=
  (List.range (min x.entries (x.data.length / 12))).map (fun i => ctxPut (BitVec.ofNat 96 (leAt x.data (12 * i) 12)) 40 40 0)

/-- Contexts of a range by what they are: user, in index order. -/
def CatH.userCtxs (c : CatH) : List (BitVec 96) := (c.ctx.filter (fun e => e.2.getLsbD 40)).map (·.2)

/-- A range rebuilt: factory contexts from its start, user contexts after them, the rest empty (R198). -/
def CatH.relay (c : CatH) (first count : Nat) (fact user : List (BitVec 96)) : CatH :=
  { c with ctx := tabFill ctxEmpty [] first ((fact ++ user).take count), nFact := min fact.length count }

/-- Dynamic contexts in use. -/
def CatH.dynCount (c : CatH) : Nat := (c.ctx.filter (fun e => (ctxOf e.2).state == 1)).length

/-- CAT_H_DEF_DYN follows the contexts. -/
def State.showDyn (s : State) (h : Nat) : State := s.wr (CAT_H_DEF_DYN h) (w32 (s.catOf h).dynCount)

/-- Dynamic contexts cleared (R203). -/
def State.clearDyn (s : State) (h : Nat) : State :=
  let c := s.catOf h
  (s.setCat h { c with ctx := c.ctx.filter (fun e => (ctxOf e.2).state != 1), idxDue := true }).showDyn h

/-- Invalid contexts of a list (R197). -/
def badCtxs (g : Geom) (xs : List (BitVec 96)) : Nat := (xs.filter (fun v => !(ctxOf v).valid g)).length

/-- The MODE_TAG of a head. -/
def State.modeTag (s : State) (h : Nat) : Nat :=
  match (if s.paddleHead h then s.boot.desc else none) with
  | some d => d.paddleTag
  | none => s.fld (SPT_H_CFG (s.hp h)) SPT_H_CFG_MODE_TAG

/-- The ZL_ID that a section must name, if it is tested (R194). -/
def State.zlTest (s : State) (h : Nat) : Option Nat :=
  if s.paddleHead h || !s.bit (SPT_H_CFG (s.hp h)) SPT_H_CFG_CMDL then none
  else some ((((tabGet s.spt {} h).zlId).getD 0).toNat)

/-- The pending calibration store applies to a head (R194). -/
def State.catApplyCal (s : State) (h : Nat) : State :=
  let c := s.catOf h
  let g := s.geom h
  let ts := calTables s.calNew g h (s.modeTag h) (s.zlTest h)
  let load (st : Table Word × Nat) (t : Nat × Nat × Option CalSection) : Table Word × Nat :=
    match t with
    | (typ, ro, some x) =>
      if typ = 7 then st
      else (List.range x.entries).foldl (fun st i =>
        let (v, n) := cleanFact typ (w32 (leAt x.data (4 * i) 4))
        (tabSet st.1 0 (calKey typ ro i) v, st.2 + n)) st
    | _ => st
  let (fact, n) := ts.foldl load ([], 0)
  let has := (ts.filter (fun t => t.2.2.isSome && t.1 != 7)).map (fun t => t.1 * 4 + t.2.1)
  let miss := ((List.range 7).map (fun i => if ts.any (fun t => t.1 == i + 1 && t.2.2.isNone) then 2 ^ i else 0)).sum
  let fc := match (ts.find? (fun t => t.1 == 7)).bind (·.2.2) with
    | some x => calContexts x
    | none => []
  let (first, count) := s.defRange h
  let c := ({ c with fact := fact, factHas := has, calDue := false, calId := s.calNew.id, idxDue := true }).relay first count fc c.userCtxs
  let s := (s.setCat h c).calMeasure
  let s := (s.setFld (CAT_H_STATUS h) CAT_H_STATUS_FACT_MISSING miss).setBit (CAT_H_STATUS h) CAT_H_STATUS_FACTORY_VALID true
  let s := (s.showDyn h).loadClamp h (n + (s.catCfg h).applyCount)
  let s := if badCtxs g fc = 0 then s else s.inc (CAT_H_LOAD_CLAMP h) (badCtxs g fc)
  let s := s.raise 168 (s.feBid h) [w32 h]
  if miss = 0 then s else s.raise 169 (s.feBid h) [2]

/-- The user shadow applies to a head (R190). -/
def State.catApplyUser (s : State) (h : Nat) : State :=
  let c := s.catOf h
  let put (c : CatH) (e : Nat × BitVec 96) : CatH :=
    c.setCtx e.1 (if (ctxOf e.2).state = 3 then ctxEmpty else ctxPut e.2 40 40 1)
  let bad := badCtxs (s.geom h) ((c.ctxShadow.filter (fun e => (ctxOf e.2).state != 3)).map (·.2))
  let c := { c.ctxShadow.foldl put { c with user := c.shadow } with ctxShadow := [], idxDue := true }
  let s := ((s.setCat h c).setBit (CAT_H_STATUS h) CAT_H_STATUS_USER_PENDING false).setBit (CAT_H_USER_COMMIT h) CAT_H_USER_COMMIT_GO false
  let s := ((s.showDyn h).loadClamp h ((s.catCfg h).applyCount)).incWrap (CAT_H_USER_GEN h)
  let s := if bad = 0 then s else s.inc (CAT_H_LOAD_CLAMP h) bad
  s.raise 167 (s.feBid h) [w32 h, s.rd (SPT_H_FRAMES (s.hp h))]

/-- The clamp levels take their start at the first frame after a commit of the head (R195). -/
def State.catInitClamp (s : State) (h : Nat) : State :=
  let c := s.catOf h
  if c.kInit then
    s.setCat h { c with kInit := false, k := (List.range 16).foldl (fun t i => tabSet t 0 i (s.rd (CAT_H_CLAMP_INIT h))) [] }
  else s

/-- The head temperature as Frame Start takes it (R199): TEMP_VALID says that one arrived within 1 s. -/
def State.catTakeTemp (s : State) (h : Nat) : State :=
  if s.bit (CAT_H_STATUS h) CAT_H_STATUS_TEMP_VALID then s.wr (CAT_H_TEMP h) (((s.catOf h).temp.getD 0).setWidth 32)
  else s.wr (CAT_H_TEMP h) 0x8000

/-- A block of the head's front end is held or stopped, so that a frame is skipped (R61) or not taken. -/
def State.feIdle (s : State) (h : Nat) : Bool :=
  !s.catOn h || (s.feBlocks h).any (fun b => (s.blkOf b).phase != .running)

/-- A frame of a held block is skipped and counted (R61). -/
def State.skipHeld (s : State) (b : Nat) : State :=
  let k := s.blkOf b
  if k.phase == .held then s.setBlk b { k with skipped := k.skipped + 1 } else s

/-- Frame Start in Catch: pending tables apply, the index, temperature and clamp are taken, and a raw buffer is chosen (R190 to R213). -/
def State.catFrameStart (s : State) (h : Nat) : State :=
  if s.feIdle h then (s.feBlocks h).foldl (fun s b => s.skipHeld b) s
  else
    let s := if (s.catOf h).calDue then s.catApplyCal h else s
    let s := if s.bit (CAT_H_STATUS h) CAT_H_STATUS_USER_PENDING then s.catApplyUser h else s
    let s := match (s.catOf h).built with
      | some a => s.setCat h { s.catOf h with active := a, built := none }
      | none => s
    let s := (s.catTakeTemp h).catInitClamp h
    let t := if s.bit (CAT_H_STATUS h) CAT_H_STATUS_TEMP_VALID then some ((s.catOf h).temp.getD 0).toInt else none
    let wr := s.bit (CAT_H_CFG h) CAT_H_CFG_RAW_WR && !s.paddleHead h
    let c := s.catOf h
    let held := s.bufHeld h c.rawNext
    let fr : CatFrame := { buf := if wr && !held then some c.rawNext else none, temp := t }
    let s := s.setCat h { c with frame := some fr, stream := [], streamSeq := s.rd (SPT_H_FRAMES (s.hp h)) }
    if wr && held then (s.inc (CAT_H_RAW_DROP h)).raise 161 (s.feBid h) [w32 h, s.rd (SPT_H_FRAMES (s.hp h))] else s

/-! ### The learner at frame close (R203) -/

/-- The empty entry that a new dynamic context takes: the lowest after the factory contexts that holds nothing. -/
def CatH.freeEntry (c : CatH) (first count : Nat) : Option Nat :=
  ((List.range (count - c.nFact)).map (fun i => first + c.nFact + i)).find? (fun i => (ctxOf (c.ctxAt i)).state == 3 && (tabGet? c.ctxShadow i).isNone)

/-- The dynamic context at a position. -/
def CatH.dynAt (c : CatH) (row col : Nat) : Option (Nat × BitVec 96) :=
  c.ctx.find? (fun e => let x := ctxOf e.2; x.state == 1 && x.row == row && x.col == col)

/-- DEV moved by an eighth towards four times the score, saturating (R203). -/
def devStep (dev : Nat) (score : Word) : Nat :=
  let four := (fpMul (fpInt 4) score).1
  let d := (fpDiv (fpSub four (fpInt dev)).1 (fpInt 8)).1
  (clampInt 0 255 (fpToInt (fpAdd (fpInt dev) d).1)).toNat

/-- One flagged photosite: its context advances, or it takes an empty entry, or none is empty. -/
def State.dynFlagged (s : State) (h : Nat) (f : DynFlag) : State :=
  let c := s.catOf h
  let promote := max 1 (s.fld (CAT_H_DYN h) CAT_H_DYN_PROMOTE)
  let (first, count) := s.defRange h
  let put (s : State) (i : Nat) (v : BitVec 96) (was : Nat) : State :=
    let now := (ctxOf v).hits
    let s := s.setCat h { (s.catOf h).setCtx i v with idxDue := true }
    if was < promote && promote ≤ now then s.raiseOnce 166 h (s.feBid h) else s
  match c.dynAt f.row f.col with
  | some (i, v) =>
    let x := ctxOf v
    put s i (ctxPut (ctxPut (ctxPut v 79 64 0) 87 80 (min 255 (x.hits + 1))) 95 88 (devStep x.dev f.score)) x.hits
  | none =>
    match c.freeEntry first count with
    | some i => put s i (ctxPut (ctxPut (ctxPut (ctxPut (ctxPut 0 14 0 f.col) 28 15 f.row) 39 38 1) 49 42 0x80) 87 80 1) 0
    | none => (s.inc (CAT_H_DYN_FULL h)).raiseOnce 165 h (s.feBid h)

/-- A dynamic context that was not flagged in the frame (R203). -/
def dynMissed (promote retire : Nat) (v : BitVec 96) : BitVec 96 :=
  let x := ctxOf v
  if x.hits < promote then ctxEmpty
  else if retire ≠ 0 && retire ≤ x.miss + 1 then ctxEmpty
  else ctxPut v 79 64 (min 65535 (x.miss + 1))

/-- First flags of each position. -/
def uniqFlags : List DynFlag → List DynFlag
  | [] => []
  | f :: fs => f :: (uniqFlags fs).filter (fun g => g.row != f.row || g.col != f.col)

/-- The learner takes the frame's flags (R203). -/
def State.dynLearn (s : State) (h : Nat) : State :=
  if !s.bit (CAT_H_CFG h) CAT_H_CFG_DYN_EN || s.factoryOnly h then s
  else
    let flags := uniqFlags (((s.catOf h).frame.map (·.dyn)).getD [])
    let d := s.rd (CAT_H_DYN h)
    let promote := max 1 (CAT_H_DYN_PROMOTE.get d)
    let c := s.catOf h
    let miss (c : CatH) (e : Nat × BitVec 96) : CatH :=
      let x := ctxOf e.2
      if x.state == 1 && !flags.any (fun f => f.row == x.row && f.col == x.col) then
        { c.setCtx e.1 (dynMissed promote (CAT_H_DYN_RETIRE.get d) e.2) with idxDue := true }
      else c
    let s := s.setCat h (c.ctx.foldl miss c)
    (flags.foldl (fun s f => s.dynFlagged h f) s).showDyn h

/-! ### Frame close (R208, R212, R214) -/

/-- A number written at an offset of a byte string. -/
def putLe (bs : List Byte) (off n v : Nat) : List Byte := bs.take off ++ leBytes n v ++ bs.drop (off + n)

/-- LINE_MAP: a bit per line (R214). -/
def lineMap (ls : List Nat) : List Byte :=
  (List.range 2048).map (fun i => BitVec.ofNat 8 ((List.range 8).map (fun b => if ls.contains (8 * i + b) then 2 ^ b else 0)).sum)

/-- Bytes 0x000 to 0x7FB of a frame header (R214). -/
def State.rawHeaderBytes (s : State) (h : Nat) (i : FrameInfo) (f : CatFrame) : List Byte :=
  let g := s.geom h
  let bo := s.rawBits h
  let c := s.catOf h
  let flags := b2n i.incomplete + 2 * b2n (decide (0 < i.kept)) + 4 * b2n (decide (0 < f.overruns)) +
    8 * b2n (decide (s.fld (CAT_H_STATUS h) CAT_H_STATUS_FACT_MISSING ≠ 0)) + 16 * b2n (s.factoryOnly h)
  let temp := match f.temp with
    | some t => (BitVec.ofInt 16 t).toNat
    | none => 0x8000
  leBytes 4 0x46525843 ++ leBytes 2 1 ++ leBytes 1 h ++ leBytes 1 (b2n (s.bit (CAT_H_CFG h) CAT_H_CFG_OUTFMT)) ++ leBytes 2 g.w ++ leBytes 2 g.h ++
  leBytes 1 g.b ++ leBytes 1 bo ++ leBytes 1 g.r ++ leBytes 1 (g.cfa + 4 * g.phase) ++ leBytes 4 (rawStride g.w bo) ++ wordBytes i.seq ++
  leBytes 2 i.number ++ leBytes 2 flags ++ wordBytes i.group ++ wordBytes i.tStart ++ wordBytes i.tClose ++ wordBytes i.tb1 ++
  leBytes 4 i.subst ++ leBytes 4 i.kept ++ leBytes 4 f.overruns ++ leBytes 2 temp ++
  leBytes 2 (bitsOf (s.rd (CAT_H_NATIVE_PED h)).toNat 15 0) ++ wordBytes (s.rd (CAT_H_USER_GEN h)) ++ sliceAt c.calId 0 16 ++
  (List.range 4).flatMap (fun r => wordBytes (s.rd (CAT_H_RATIO h r))) ++
  (List.range 16).flatMap (fun j => wordBytes (if j / 4 < g.r then c.kLev (j / 4) (j % 4) else 0)) ++ List.replicate 1884 0

/-- The whole frame header with its CRC (R214). -/
def State.rawHeader (s : State) (h : Nat) (i : FrameInfo) (f : CatFrame) : List Byte :=
  let a := s.rawHeaderBytes h i f
  let m := lineMap i.map
  a ++ wordBytes (crc32c (a ++ m)) ++ m

/-- The frame closes: the counts of R208 are shown, the learner runs, the header is written, and the buffer is posted to its readers. -/
def State.catFrameClose (s : State) (h : Nat) (i : FrameInfo) : State :=
  match (s.catOf h).frame with
  | none => s
  | some f =>
    let s := (s.wr (CAT_H_GHOST h) (w32 f.ghost)).wr (CAT_H_ALLSAT h) (w32 f.allsat)
    let s := s.dynLearn h
    let s := match f.buf with
      | none => s
      | some b =>
        let s := s.memWrite (s.rawBufAddr h b) (s.rawHeader h i f)
        let s := s.wr (CAT_H_RAW_LAST h) (w32 b)
        let c := s.catOf h
        let s := s.setCat h { c with rawNext := (b + 1) % max 1 (bitsOf (s.rd (CAT_H_RAW_BUFS h)).toNat 7 0) }
        (s.raise 160 (s.feBid h) [w32 h, w32 b]).postRing h b i
    s.setCat h { s.catOf h with frame := none }

/-! ### Rows -/

/-- A write of CAT_H_USER_COMMIT (R190, R191). -/
def State.userCommitWrite (s : State) (h : Nat) (v : Word) : State :=
  let s := if bitOf v 1 then s.setBit (CAT_H_USER_COMMIT h) CAT_H_USER_COMMIT_DISCARDED false else s
  if bitOf v 0 then
    (s.setBit (CAT_H_USER_COMMIT h) CAT_H_USER_COMMIT_GO true).setBit (CAT_H_STATUS h) CAT_H_STATUS_USER_PENDING true
  else s

/-- Row CAT_USER_COMMIT_GO. -/
def execCatUserCommitGo (h : Fin 8) (v : Word) (s : State) : Res :=
  .next (s.hostDo (CAT_H_USER_COMMIT h) true (·.userCommitWrite h v))

/-- What a read of CAT_TBL_DATA returns (R192). -/
def State.tblRead (s : State) (h : Nat) : Word :=
  let sel := s.rd (CAT_TBL_SEL h)
  let t := CAT_TBL_SEL_TYPE.get sel
  let r := CAT_TBL_SEL_READOUT.get sel
  let i := bitsOf (s.rd (CAT_TBL_INDEX h)).toNat 23 0
  let k := s.catCfg h
  if calLen k.g t ≤ i then 0
  else if bitOf sel 9 then if t = 2 then Config.colEffRead (k.eff 2 r i) (k.gain r i) else k.eff t r i
  else if bitOf sel 8 then k.c.userEntry true t r i
  else k.c.factEntry k.g t r i

/-- A write of CAT_TBL_DATA: the factory layer discards it, the user shadow takes it under R189 (R190, R192). -/
def State.tblWrite (s : State) (h : Nat) (v : Word) : State :=
  let sel := s.rd (CAT_TBL_SEL h)
  let t := CAT_TBL_SEL_TYPE.get sel
  let i := bitsOf (s.rd (CAT_TBL_INDEX h)).toNat 23 0
  let c := s.catOf h
  if bitOf sel 8 && i < calLen (s.geom h) t then
    let (w, n) := cleanUser t i v
    (s.setCat h { c with shadow := tabSet c.shadow (calIdentUser t i) (calKey t (calReadout t (CAT_TBL_SEL_READOUT.get sel)) i) w }).loadClamp h n
  else s

/-- An index register advances by one within its width. -/
def State.advance (s : State) (r : Reg) (bits : Nat) : State := s.wr r (w32 (((s.rd r).toNat + 1) % 2 ^ bits))

/-- An access to CAT_TBL_DATA, after which the index advances (R192). -/
def State.tblAccess (s : State) (h : Nat) (write : Bool) (v : Word) : State :=
  (if write then s.tblWrite h v else { s with hostData := s.tblRead h }).advance (CAT_TBL_INDEX h) 24

/-- Row CAT_TBL_DATA_ACCESS. -/
def execCatTblDataAccess (h : Fin 8) (write : Bool) (v : Word) (s : State) : Res :=
  .next (s.hostDo (CAT_TBL_DATA h) write (·.tblAccess h write v))

/-- The context that the window shows at an index: the shadow's, or the one held; outside the range nothing (R199). -/
def State.defShown (s : State) (h i : Nat) : Option (BitVec 96) :=
  let (first, count) := s.defRange h
  if first ≤ i && i < first + count then
    some (match tabGet? (s.catOf h).ctxShadow i with
      | some v => v
      | none => (s.catOf h).ctxAt i)
  else none

/-- A word of a context written through CAT_DEF_DATA0 to 2: it reaches only the user part of the range (R199). -/
def State.defDataWrite (s : State) (h k : Nat) (v : Word) : State :=
  let i := bitsOf (s.rd (CAT_DEF_INDEX h)).toNat 19 0
  let c := s.catOf h
  match s.defShown h i with
  | none => s
  | some x =>
    if i < (s.defRange h).1 + c.nFact || ((ctxOf (c.ctxAt i)).state == 1 && (tabGet? c.ctxShadow i).isNone) then s
    else
      let y := ctxPut x (32 * k + 31) (32 * k) v.toNat
      let y := ctxPut (ctxPut (ctxPut y 40 40 1) 41 41 0) 63 50 0
      s.setCat h { c with ctxShadow := tabPut c.ctxShadow i y }

/-- A word of a context read through CAT_DEF_DATA0 to 2. -/
def State.defDataRead (s : State) (h k : Nat) : Word :=
  match s.defShown h (bitsOf (s.rd (CAT_DEF_INDEX h)).toNat 19 0) with
  | some x => w32 (bitsOf x.toNat (32 * k + 31) (32 * k))
  | none => 0

/-- An access to CAT_DEF_DATA`k`; the index advances after DATA2 (R199). -/
def State.defAccess (s : State) (h k : Nat) (write : Bool) (v : Word) : State :=
  let s : State := if write then s.defDataWrite h k v else { s with hostData := s.defDataRead h k }
  if k = 2 then s.advance (CAT_DEF_INDEX h) 20 else s

/-- Row CAT_DEF_DATA_ACCESS: an access to CAT_DEF_DATA2. -/
def execCatDefDataAccess (h : Fin 8) (write : Bool) (v : Word) (s : State) : Res :=
  .next (s.hostDo (CAT_DEF_DATA h 2) write (·.defAccess h 2 write v))

/-- A write of CAT_DEF_QUERY: the position is taken and the query runs. -/
def State.defQuery (s : State) (h : Nat) (v : Word) : State :=
  let s := (s.wr (CAT_DEF_QUERY h) (v &&& 0x1FFFFFFF)).wr (CAT_DEF_QRESULT h) 0
  s.setCat h { s.catOf h with query := true }

/-- Row CAT_DEF_QUERY. -/
def execCatDefQuery (h : Fin 8) (v : Word) (s : State) : Res :=
  .next (s.hostDo (CAT_DEF_QUERY h) true (·.defQuery h v))

/-- Row CAT_DEF_QUERY_DONE: CAT_DEF_QRESULT shows the context applied at the position. -/
def execCatDefQueryDone (h : Fin 8) (s : State) : Res :=
  .next (
    let c := s.catOf h
    if c.query then
      let q := s.rd (CAT_DEF_QUERY h)
      let r := match applied (lineCtxs (s.catLive h) (bitsOf q.toNat 28 15)) (bitsOf q.toNat 14 0) with
        | some l => (if l.kind = 0 then 2 else if l.kind = 1 then 1 else 3) * 2 ^ 29 + l.x.recipe * 2 ^ 26 + l.idx % 2 ^ 20
        | none => 0
      (s.wr (CAT_DEF_QRESULT h) (w32 (2 ^ 31 + r))).setCat h { c with query := false }
    else s)

/-- Row DEFECT_INDEX_BUILT: the raster index is complete and awaits the next Frame Start (R198). -/
def execDefectIndexBuilt (h : Fin 8) (s : State) : Res :=
  .next (
    let c := s.catOf h
    if c.idxDue then s.setCat h { c with idxDue := false, built := some c.ctx } else s)

/-- Row HEAD_TEMP_STALE: no temperature for 1 s (R199). -/
def execHeadTempStale (h : Fin 8) (s : State) : Res :=
  .next (if s.bit (CAT_H_STATUS h) CAT_H_STATUS_TEMP_VALID then
      (s.setBit (CAT_H_STATUS h) CAT_H_STATUS_TEMP_VALID false).raise 171 (s.feBid h)
    else s)

/-- A temperature Status of a head: 1/16 °C (R199). -/
def State.catTemp (s : State) (h : Nat) (v : Word) : State :=
  (s.setCat h { s.catOf h with temp := some (v.setWidth 16) }).setBit (CAT_H_STATUS h) CAT_H_STATUS_TEMP_VALID true

end Sys2Proof.Machine
end

