-- ==== Sys2Proof/Machine/Colour.lean ====
section
/-! DEFINITION. Colour pipes and look paths (R216 to R246): demosaic, matrix and spectral colour, the look path, frame writes, and rows
DRV_H_COMMIT_GO to LKP_FRAME_WRITTEN. -/

namespace Sys2Proof.Machine

/-- The Drive state of a head. -/
def State.drvOf (s : State) (h : Nat) : DrvH := tabGet s.drv {} h
/-- The Drive state of a head set. -/
def State.setDrv (s : State) (h : Nat) (d : DrvH) : State := { s with drv := tabSet s.drv {} h d }
/-- The state of a look path. -/
def State.lkpOf (s : State) (n : Nat) : Lkp := tabGet s.lkp {} n
/-- The state of a look path set. -/
def State.setLkp (s : State) (n : Nat) (l : Lkp) : State := { s with lkp := tabSet s.lkp {} n l }

/-- The first colour pipe that serves a head (R216, R217); pipe 0 for H0 in Paddle mode (R118). -/
def State.pipeOf (s : State) (h : Nat) : Option Nat :=
  if s.paddleHead h then some 0
  else (List.range 2).find? (fun p => s.bit (DRV_P_CFG p) DRV_P_CFG_EN && bitOf (s.rd (DRV_P_CFG p)) (8 + h))

/-- The pipe in whose span a head's registers stand. -/
def State.pp (s : State) (h : Nat) : Nat := (s.pipeOf h).getD 0

/-- Values replaced or clamped in a colour pipe (R218, R230). -/
def State.drvReplaced (s : State) (h n : Nat) : State :=
  if n = 0 then s else (s.inc (DRV_H_REPLACED (s.pp h) h) n).raiseOnce 386 h (0x0400 + s.pp h)

/-- Values replaced or clamped in a look path (R218, R243). -/
def State.lkpReplaced (s : State) (n k : Nat) : State :=
  if k = 0 then s else (s.inc (LKP_REPLACED n) k).raiseOnce 403 n (0x0500 + n)

/-! ### Pixels with flags (R227) -/

/-- A value and the flags of the photosites it was computed from. -/
structure Fx where
  v : Word
  f : Nat
deriving DecidableEq, Repr

/-- A computation's value, its replacements not counted. -/
def uncounted {α : Type} (m : Cnt α) : α := (m 0).1

/-- Sum with flags. -/
def xAdd (a b : Fx) : Cnt Fx := do pure ⟨← cAdd a.v b.v, a.f ||| b.f⟩
/-- Difference with flags. -/
def xSub (a b : Fx) : Cnt Fx := do pure ⟨← cSub a.v b.v, a.f ||| b.f⟩
/-- Quotient by a whole number. -/
def xDivN (a : Fx) (n : Nat) : Cnt Fx := do pure ⟨← cDiv a.v (fpInt n), a.f⟩
/-- Product with a whole number. -/
def xMulN (n : Nat) (a : Fx) : Cnt Fx := do pure ⟨← cMul (fpInt n) a.v, a.f⟩
/-- Mean of a list, summed left to right. -/
def xMean (l : List Fx) : Cnt Fx :=
  match l with
  | [] => pure ⟨0, 0⟩
  | a :: t => do xDivN (← t.foldlM xAdd a) l.length

/-- A mosaic as the demosaic sees it: size, CFA kind, phase, and photosites by row and column. -/
structure Mosaic where
  w : Nat
  h : Nat
  cfa : Nat
  phase : Nat
  lines : List SLine

/-- A mirrored index (R221). -/
def mirror (n : Nat) (k : Int) : Nat := (if k < 0 then -k else if (n : Int) ≤ k then 2 * ((n : Int) - 1) - k else k).toNat

/-- A photosite with its flags; an index outside the frame is mirrored (R221). -/
def Mosaic.site (m : Mosaic) (r c : Int) : Fx :=
  match m.lines[mirror m.h r]? with
  | some l => ⟨(l.vals[mirror m.w c]?).getD 0, (l.flags[mirror m.w c]?).getD 0⟩
  | none => ⟨0, 0⟩

/-- Colour of a CFA plane under a phase (R219): 0 R, 1 G, 2 B. -/
def planeColour (phase p : Nat) : Nat :=
  ((([[0, 1, 1, 2], [1, 0, 2, 1], [1, 2, 0, 1], [2, 1, 1, 0]] : List (List Nat))[phase % 4]?).getD [])[p % 4]?.getD 1

/-- Colour of the Bayer lattice at a position. -/
def Mosaic.bayer (m : Mosaic) (r c : Int) : Nat := planeColour m.phase (2 * (mirror m.h r % 2) + mirror m.w c % 2)

/-- Colour of the photosite that a Quad-Bayer head has at a position (R187, R219). -/
def Mosaic.quad (m : Mosaic) (r c : Int) : Nat := planeColour m.phase (2 * (mirror m.h r / 2 % 2) + mirror m.w c / 2 % 2)

/-- Offsets −n to n. -/
def around (n : Nat) : List Int := (List.range (2 * n + 1)).map (fun (i : Nat) => (i : Int) - n)

/-- Photosites of a colour in a square neighbourhood of a Quad-Bayer mosaic, in raster order. -/
def Mosaic.ofColour (m : Mosaic) (r c : Int) (n col : Nat) : List Fx :=
  (around n).flatMap (fun i => ((around n).filter (fun j => m.quad (r + i) (c + j) == col)).map (fun j => m.site (r + i) (c + j)))

/-- A site of the Bayer lattice: the photosite, or its remosaicked value (R225). -/
def Mosaic.lattice (m : Mosaic) (r c : Int) : Cnt Fx :=
  if m.cfa = 1 && m.quad r c != m.bayer r c then
    match m.ofColour r c 1 (m.bayer r c) with
    | [] => xMean (m.ofColour r c 2 (m.bayer r c))
    | l => xMean l
  else pure (m.site r c)

/-- Pass 1: green at a site (R222). -/
def Mosaic.green (m : Mosaic) (r c : Int) : Cnt Fx := do
  let x ← m.lattice r c
  if m.bayer r c = 1 then pure x
  else
    let at_ (i j : Int) : Fx := uncounted (m.lattice (r + i) (c + j))
    let grad (a b p q : Fx) : Cnt (Word × Fx) := do
      let two ← xMulN 2 x
      let sec ← xSub (← xSub two p) q
      let d ← cAdd (fpAbs (← xSub a b).v) (fpAbs sec.v)
      let g ← xAdd (← xDivN (← xAdd a b) 2) (← xDivN sec 4)
      pure (d, g)
    let (dh, gh) ← grad (at_ 0 (-1)) (at_ 0 1) (at_ 0 (-2)) (at_ 0 2)
    let (dv, gv) ← grad (at_ (-1) 0) (at_ 1 0) (at_ (-2) 0) (at_ 2 0)
    if fpLt dh dv then pure gh else if fpLt dv dh then pure gv else xDivN (← xAdd gh gv) 2

/-- D_X at a site (R223). -/
def Mosaic.diff (m : Mosaic) (r c : Int) : Fx := uncounted (do xSub (← m.lattice r c) (← m.green r c))

/-- An RGB pixel with flags. -/
structure Px where
  r : Word
  g : Word
  b : Word
  f : Nat
deriving DecidableEq, Repr

/-- Pass 2: red and blue at a site (R223). -/
def Mosaic.pass2 (m : Mosaic) (r c : Int) : Cnt Px := do
  let g ← m.green r c
  let add (l : List Fx) : Cnt Fx := do xAdd g (← xMean l)
  let col := m.bayer r c
  let rowPair := [m.diff r (c - 1), m.diff r (c + 1)]
  let colPair := [m.diff (r - 1) c, m.diff (r + 1) c]
  let diag := [m.diff (r - 1) (c - 1), m.diff (r - 1) (c + 1), m.diff (r + 1) (c - 1), m.diff (r + 1) (c + 1)]
  if col = 1 then
    let a ← add rowPair
    let b ← add colPair
    if m.bayer r (c + 1) = 0 then pure ⟨a.v, g.v, b.v, g.f ||| a.f ||| b.f⟩ else pure ⟨b.v, g.v, a.v, g.f ||| a.f ||| b.f⟩
  else
    let x ← m.lattice r c
    let o ← add diag
    if col = 0 then pure ⟨x.v, g.v, o.v, x.f ||| g.f ||| o.f⟩ else pure ⟨o.v, g.v, x.v, x.f ||| g.f ||| o.f⟩

/-- The median of three. -/
def median3 (a b c : Fx) : Fx :=
  if fpLe a.v b.v then if fpLe b.v c.v then b else if fpLe a.v c.v then c else a
  else if fpLe a.v c.v then a else if fpLe b.v c.v then c else b

/-- Pass 3: false-colour suppression (R224). -/
def Mosaic.pass3 (m : Mosaic) (r c : Int) : Cnt Px := do
  let p ← m.pass2 r c
  let at_ (i : Int) : Px := uncounted (m.pass2 (r + i) c)
  let d (q : Px) (red : Bool) : Cnt Fx := do pure ⟨← cSub (if red then q.r else q.b) q.g, q.f⟩
  let u := at_ (-1)
  let n := at_ 1
  let mr := median3 (uncounted (d u true)) (← d p true) (uncounted (d n true))
  let mb := median3 (uncounted (d u false)) (← d p false) (uncounted (d n false))
  pure ⟨← cAdd p.g mr.v, p.g, ← cAdd p.g mb.v, p.f ||| mr.f ||| mb.f⟩

/-- One pixel of the 2 × 2 bin bypass (R226). -/
def Mosaic.bin (m : Mosaic) (i j : Nat) : Cnt Px := do
  let s (a b : Nat) : Fx := m.site (2 * i + a : Nat) (2 * j + b : Nat)
  let f := (s 0 0).f ||| (s 0 1).f ||| (s 1 0).f ||| (s 1 1).f
  if m.cfa = 2 then
    let v ← xMean [s 0 0, s 0 1, s 1 0, s 1 1]
    pure ⟨v.v, v.v, v.v, f⟩
  else
    let of (col : Nat) : Cnt Word := do
      let l := ([(0, 0), (0, 1), (1, 0), (1, 1)] : List (Nat × Nat)).filter (fun e => planeColour m.phase (2 * e.1 + e.2) == col)
      pure (← xMean (l.map (fun e => s e.1 e.2))).v
    pure ⟨← of 0, ← of 1, ← of 2, f⟩

/-- One output pixel of the demosaic: bypass, mono, or the passes (R220 to R226). -/
def Mosaic.pixel (m : Mosaic) (bin fcs : Bool) (i j : Nat) : Cnt Px :=
  if bin then m.bin i j
  else if m.cfa = 2 then let s := m.site i j; pure ⟨s.v, s.v, s.v, s.f⟩
  else if fcs && m.cfa != 1 then m.pass3 i j
  else m.pass2 i j

/-! ### Colour data and its precomputation (R228 to R234) -/

/-- Exact value of a finite binary32 word. -/
def ratOf (w : Word) : Rat :=
  match fpOf w with
  | .fin x => let m : Rat := ((if x.neg then -(x.m : Int) else x.m) : Int); if 0 ≤ x.e then m * 2 ^ x.e.toNat else m / 2 ^ (-x.e).toNat
  | _ => 0

/-- A rational rounded to binary32, and whether that is exact. -/
def fpOfRat (q : Rat) : Word × Bool :=
  let n := q.num.natAbs * 2 ^ 200
  let r := (fpRound (decide (q.num < 0)) (n / q.den) (-200) (n % q.den != 0)).1
  (r, decide (ratOf r = q))

/-- A precomputed quantity: exact, or within a unit in the last place of the rounded exact value (R218; log entry 22). -/
def preWord (id : Nat) (q : Rat) : Word :=
  match fpOfRat q with
  | (w, true) => w
  | (w, false) => w32 ((w.toNat : Int) + clampInt (-1) 1 (Config.preUlp id w)).toNat

/-- A matrix product of row-major matrices, `a` with `k` columns, `b` with `n`. -/
def matMul (k n : Nat) (a b : List Rat) : List Rat :=
  (List.range (a.length / k)).flatMap (fun i => (List.range n).map (fun j =>
    ((List.range k).map (fun t => (a[i * k + t]?).getD 0 * (b[t * n + j]?).getD 0)).sum))

/-- The transpose of a row-major matrix with `n` columns. -/
def matT (n : Nat) (a : List Rat) : List Rat :=
  (List.range n).flatMap (fun j => (List.range (a.length / n)).map (fun i => (a[i * n + j]?).getD 0))

/-- The inverse of a 3 × 3 matrix by its adjugate; a singular one gives 0. -/
def inv3 (a : List Rat) : List Rat :=
  let e (i j : Nat) : Rat := (a[3 * (i % 3) + j % 3]?).getD 0
  let co (i j : Nat) : Rat := e (i + 1) (j + 1) * e (i + 2) (j + 2) - e (i + 1) (j + 2) * e (i + 2) (j + 1)
  let det := e 0 0 * co 0 0 + e 0 1 * co 0 1 + e 0 2 * co 0 2
  (List.range 3).flatMap (fun i => (List.range 3).map (fun j => if det = 0 then 0 else co j i / det))

/-- Entries of a colour table type (R229). -/
def colLen : Nat → Nat
  | 1 => 36 | 2 => 9 | 3 => 123 | 4 => 492 | 5 => 16 | 6 => 192 | _ => 0

/-- A factory colour entry; identity matrices where the table is missing (R229). -/
def DrvH.fac (d : DrvH) (t i : Nat) : Word :=
  if d.factHas.contains t then tabGet d.fact 0 (1024 * t + i)
  else if (t = 1 || t = 2) && i % 9 % 4 == 0 then fpOne else 0

/-- An illuminant at the 41 bins (R233): user, D65, A or D50; other codes select D65. -/
def illumTable (u : DrvUser) (sel code : Nat) : List Word :=
  (List.range 41).map (fun i =>
    if code = 0 then tabGet u.ill 0 (64 * sel + i) else Config.cieIllum (if code = 2 then 2 else if code = 3 then 3 else 1) i)

/-- Σ ȳ E of an illuminant. -/
def illumSum (e : List Word) : Rat := (e.zipIdx.map (fun p => ratOf (Config.cieCmf 1 p.2) * ratOf p.1)).sum

/-- The scaled illuminant (R233). -/
def illumScaled (e : List Word) : List Rat := let t := illumSum e; e.map (fun w => if t = 0 then 0 else ratOf w / t)

/-- The working-space matrix from XYZ (R234). -/
def DrvH.xyz (d : DrvH) (ws : Nat) : List Rat :=
  (List.range 9).map (fun i => ratOf (if ws = 2 then d.fac 2 i else Config.xyzTo ws i))

/-- Precomputation of a head in matrix mode: M = UMAT × F_ws × diag(WB) (R232). -/
def DrvH.preMatrix (d : DrvH) (u : DrvUser) (ws : Nat) : DrvPre :=
  let f := (List.range 9).map (fun i => ratOf (d.fac 1 (9 * ws + i)))
  let diag := (List.range 9).map (fun i => if i % 4 = 0 then ratOf ((u.wb[i / 4]?).getD 0) else 0)
  { emat := (matMul 3 3 (matMul 3 3 (u.umat.map ratOf) f) diag).zipIdx.map (fun e => preWord e.2 e.1) }

/-- Precomputation of a head in spectral mode (R234, R236). -/
def DrvH.preSpectral (d : DrvH) (u : DrvUser) (ws : Nat) : DrvPre :=
  let es := illumTable u 0 (u.illum % 16)
  let et := illumTable u 1 (u.illum / 16 % 16)
  let bad := decide (illumSum es = 0) || decide (illumSum et = 0)
  let e1 := illumScaled es
  let e2 := illumScaled et
  let s (c i : Nat) : Rat := ratOf (d.fac 3 (41 * c + i))
  let phi (k i : Nat) : Rat := ratOf (d.fac 4 (41 * k + i))
  let bins (f : Nat → Rat) : Rat := ((List.range 41).map f).sum
  let q := (List.range 3).flatMap (fun c => (List.range 12).map (fun k => bins (fun i => s c i * (e1[i]?).getD 0 * phi k i)))
  let sig := ((List.range 3).map (fun c => bins (fun i => s c i * (e1[i]?).getD 0))).sum
  let m := d.xyz ws
  let cm := (List.range 3).flatMap (fun j => (List.range 12).map (fun k => bins (fun i => ratOf (Config.cieCmf j i) * (e2[i]?).getD 0 * phi k i)))
  let p := matMul 3 12 m cm
  let g := matMul 12 3 q (matT 12 q)
  let tau := (g[0]?).getD 0 + (g[4]?).getD 0 + (g[8]?).getD 0
  let reg := g.zipIdx.map (fun e => if e.2 % 4 = 0 then e.1 + tau / 1048576 else e.1)
  let r0 := matMul 3 3 (matT 12 q) (inv3 reg)
  let l := matMul 3 3 (u.umat.map ratOf) (matMul 12 3 p r0)
  let wr (base : Nat) (xs : List Rat) : List Word := xs.zipIdx.map (fun e => preWord (base + e.2) e.1)
  { emat := wr 100 l, sigma := preWord 200 sig, alpha := preWord 201 (if tau = 0 then 0 else 1 / tau), q := wr 300 q, p := wr 400 p, r0 := wr 500 r0,
    illBad := bad, specMissing := [3, 4, 5, 6].any (fun t => !d.factHas.contains t) }

/-- The working space of a head; Paddle mode uses the BT.709-linear matrix (R229). -/
def State.drvWs (s : State) (h : Nat) : Nat := if s.paddleHead h then 3 else s.fld (DRV_H_CFG (s.pp h) h) DRV_H_CFG_WS

/-- The head's pipe runs in spectral mode. -/
def State.spectral (s : State) (h : Nat) : Bool := !s.paddleHead h && s.bit (DRV_P_CFG (s.pp h)) DRV_P_CFG_MODE

/-- Precomputation of a head from user values. -/
def State.drvPre (s : State) (h : Nat) (u : DrvUser) : DrvPre :=
  if s.spectral h then (s.drvOf h).preSpectral u (s.drvWs h)
  else (s.drvOf h).preMatrix (if s.paddleHead h then {} else u) (s.drvWs h)

/-- User values and their precomputed quantities take effect: EMAT, σ_w, α and ILLUM_INVALID show them (R230, R233, R234). -/
def State.drvTake (s : State) (h : Nat) (u : DrvUser) : State :=
  let p := s.pp h
  let pre := s.drvPre h u
  let s := s.setDrv h { s.drvOf h with cur := u, pre := pre }
  let s := (List.range 9).foldl (fun s i => s.wr (DRV_H_EMAT p h i) ((pre.emat[i]?).getD 0)) s
  let s := if s.spectral h then (s.wr (DRV_H_SIGMA_W p h) pre.sigma).wr (DRV_H_ALPHA p h) pre.alpha else s
  let s := s.setBit (DRV_H_STATUS p h) DRV_H_STATUS_ILLUM_INVALID pre.illBad
  if pre.illBad then s.raise 387 (0x0400 + p) [w32 h] else s

/-- A value clamped to a range: NaN and infinities are replaced first (R218, R230). -/
def clampFp (lo hi v : Word) : Word × Nat :=
  let (c, n) := cleanFp v
  if fpLt c lo then (lo, n + 1) else if fpLt hi c then (hi, n + 1) else (c, n)

/-- The shadow copied with the clamps of R230, and how many there were. -/
def State.drvCopy (s : State) (h : Nat) : DrvUser × Nat :=
  let p := s.pp h
  let um := (List.range 9).map (fun i => clampFp 0xC1000000 0x41000000 (s.rd (DRV_H_UMAT p h i)))
  let wb := (List.range 3).map (fun i => clampFp 0x3E000000 0x41000000 (s.rd (DRV_H_WB p h i)))
  let rho := clampFp 0x3FA00000 0x40800000 (s.rd (DRV_H_RHO_MAX p h))
  let ill := (s.drvOf h).illShadow.map (fun e => (e.1, clampFp 0 0x47800000 e.2))
  ({ umat := um.map (·.1), wb := wb.map (·.1), illum := bitsOf (s.rd (DRV_H_ILLUM p h)).toNat 7 0, rho := rho.1,
     ill := (ill.map (fun e => (e.1, e.2.1))).filter (fun e => e.2 != 0) },
   (um.map (·.2)).sum + (wb.map (·.2)).sum + rho.2 + (ill.map (·.2.2)).sum)

/-- A write of DRV_H_COMMIT (R230). -/
def State.drvCommitWrite (s : State) (p h : Nat) (v : Word) : State :=
  let s := if bitOf v 1 then s.setBit (DRV_H_COMMIT p h) DRV_H_COMMIT_DISCARDED false else s
  if bitOf v 0 && (s.drvOf h).copied.isNone && s.pp h == p then
    let (u, n) := s.drvCopy h
    let s := s.setDrv h { s.drvOf h with copied := some u, ready := false }
    ((s.setBit (DRV_H_COMMIT p h) DRV_H_COMMIT_GO true).setBit (DRV_H_STATUS p h) DRV_H_STATUS_COMPUTING true).drvReplaced h n
  else s

/-- Row DRV_H_COMMIT_GO. -/
def execDrvHCommitGo (p : Fin 2) (h : Fin 8) (v : Word) (s : State) : Res :=
  .next (s.hostDo (DRV_H_COMMIT p h) true (·.drvCommitWrite p h v))

/-- Row DRV_PRECOMPUTE_DONE: the values await the next Frame Start (R230, R234). -/
def execDrvPrecomputeDone (h : Fin 8) (s : State) : Res :=
  .next (
    let d := s.drvOf h
    let p := s.pp h
    if d.copied.isSome && !d.ready then
      ((s.setDrv h { d with ready := true }).setBit (DRV_H_STATUS p h) DRV_H_STATUS_COMPUTING false).setBit
        (DRV_H_STATUS p h) DRV_H_STATUS_PENDING true
    else s)

/-- An illuminant entry is read or written, and the index advances (R244). -/
def State.illAccess (s : State) (p h : Nat) (write : Bool) (v : Word) : State :=
  let i := bitsOf (s.rd (DRV_H_ILL_INDEX p h)).toNat 5 0
  let sel := bitsOf (s.rd (DRV_H_ILL_SEL p h)).toNat 0 0
  let d := s.drvOf h
  let eff := bitOf (s.rd (DRV_H_ILL_SEL p h)) 1
  let s :=
    if write then if i < 41 then s.setDrv h { d with illShadow := tabSet d.illShadow 0 (64 * sel + i) v } else s
    else if 41 ≤ i then { s with hostData := 0 }
    else if eff then
      let e := illumScaled (illumTable d.cur sel (if sel = 0 then d.cur.illum % 16 else d.cur.illum / 16 % 16))
      { s with hostData := preWord (600 + 64 * sel + i) ((e[i]?).getD 0) }
    else { s with hostData := tabGet d.illShadow 0 (64 * sel + i) }
  s.advance (DRV_H_ILL_INDEX p h) 6

/-- Row DRV_H_ILL_DATA_ACCESS. -/
def execDrvHIllDataAccess (p : Fin 2) (h : Fin 8) (write : Bool) (v : Word) (s : State) : Res :=
  .next (s.hostDo (DRV_H_ILL_DATA p h) write (·.illAccess p h write v))

/-- The pending colour store applies to a head (R194, R228, R229). -/
def State.drvApplyStore (s : State) (h : Nat) : State :=
  let d := s.drvOf h
  let p := s.pp h
  let pick (t : Nat) : Option CalSection := calPick s.colNew h t 0 (s.modeTag h) (s.zlTest h) (some (colLen t))
  let has := ([1, 2, 3, 4, 5, 6] : List Nat).filter (fun t => (pick t).isSome)
  let load (f : Table Word × Nat) (t : Nat) : Table Word × Nat :=
    match pick t with
    | none => f
    | some x => (List.range (colLen t)).foldl (fun (f : Table Word × Nat) i =>
        let (v, n) := cleanFp (w32 (leAt x.data (4 * i) 4))
        (tabSet f.1 0 (1024 * t + i) v, f.2 + n)) f
  let (fact, n) := has.foldl load ([], 0)
  let miss := (([1, 2, 3, 4, 5, 6] : List Nat).map (fun t => if has.contains t then 0 else 2 ^ (t - 1))).sum
  let s := (s.setDrv h { d with fact := fact, factHas := has, calDue := false }).colMeasure
  let s := (s.setFld (DRV_H_STATUS p h) DRV_H_STATUS_FACT_MISSING miss).setBit (DRV_H_STATUS p h) DRV_H_STATUS_FACTORY_VALID true
  let s := (s.drvReplaced h n).drvTake h d.cur
  if miss = 0 then s else s.raise 385 (0x0400 + p) [2]

/-- Frame Start in a head's colour pipe: a colour store and computed user values apply (R228, R230). -/
def State.drvFrameStart (s : State) (h : Nat) : State :=
  match s.pipeOf h with
  | none => s
  | some p =>
    if (s.catOf h).frame.isNone || !s.running (0x0400 + p) then (s.skipHeld (0x0400 + p)).setDrv h { s.drvOf h with open_ := false }
    else
      let s := if (s.drvOf h).calDue then s.drvApplyStore h else s
      let s := match (s.drvOf h).ready, (s.drvOf h).copied with
        | true, some u =>
          let s := s.setDrv h { s.drvOf h with ready := false, copied := none }
          let s := ((s.setBit (DRV_H_STATUS p h) DRV_H_STATUS_PENDING false).setBit (DRV_H_COMMIT p h) DRV_H_COMMIT_GO false).drvTake h u
          (s.incWrap (DRV_H_GEN p h)).raise 384 (0x0400 + p) [w32 h, s.rd (SPT_H_FRAMES (s.hp h))]
        | _, _ => s
      s.setDrv h { s.drvOf h with open_ := true, next := 0, clampCnt := 0, fallCnt := 0 }

/-! ### Colour conversion of a pixel (R232 to R236) -/

/-- A matrix of binary32 words times a vector, sums in ascending index order (R218). -/
def matVec (n : Nat) (m v : List Word) : Cnt (List Word) :=
  (List.range (m.length / n)).mapM (fun i => do
    let ts ← (List.range n).mapM (fun j => cMul ((m[i * n + j]?).getD 0) ((v[j]?).getD 0))
    match ts with
    | [] => pure 0
    | t :: ts => cSum t ts)

/-- Two vectors combined entry by entry. -/
def zipVec (f : Word → Word → Cnt Word) (a b : List Word) : Cnt (List Word) := (a.zip b).mapM (fun e => f e.1 e.2)

/-- proj of R235, and whether its clamp changed a sample. -/
def projSpec (phi phiPlus : List Word) (rho : Word) (a : List Word) : Cnt (List Word × Bool) := do
  let s ← matVec 12 phi a
  let c := s.map (fun v => fpMin (fpMax v 0) rho)
  pure (← matVec 16 phiPlus c, c != s)

/-- The gradient step of R235. -/
def specStep (pre : DrvPre) (phi phiPlus : List Word) (rho : Word) (cn : List Word) (a : List Word) : Cnt (List Word × Bool) := do
  let r ← zipVec cSub (← matVec 12 pre.q a) cn
  let qt := (List.range 12).flatMap (fun k => (List.range 3).map (fun c => (pre.q[12 * c + k]?).getD 0))
  let g ← matVec 3 qt r
  let g ← g.mapM (cMul pre.alpha)
  projSpec phi phiPlus rho (← zipVec cSub a g)

/-- One pixel converted: its RGB, whether it took the linear fallback, and whether the final projection changed a sample. -/
def drvPixel (d : DrvH) (spectral satFb : Bool) (p : Px) : Cnt (List Word × Bool × Bool) := do
  let c := [p.r, p.g, p.b]
  if !spectral then pure (← matVec 3 d.pre.emat c, false, false)
  else
    let sig ← cAdd (← cAdd p.r p.g) p.b
    if fpLe sig 0x35800000 || (p.f / 2 % 2 == 1 && satFb) || d.pre.illBad || d.pre.specMissing then
      pure (← matVec 3 d.pre.emat c, true, false)
    else
      let bins := (List.range 16).map (fun i => (fpToInt (d.fac 5 i)).toNat)
      let phi := bins.flatMap (fun b => (List.range 12).map (fun k => d.fac 4 (41 * k + b)))
      let pp := (List.range 192).map (fun i => d.fac 6 i)
      let sc ← cDiv d.pre.sigma sig
      let cn ← c.mapM (fun v => cMul v sc)
      let (a0, _) ← projSpec phi pp d.cur.rho (← matVec 3 d.pre.r0 cn)
      let (a1, _) ← specStep d.pre phi pp d.cur.rho cn a0
      let (a2, _) ← specStep d.pre phi pp d.cur.rho cn a1
      let (a3, _) ← specStep d.pre phi pp d.cur.rho cn a2
      let (a4, ch) ← specStep d.pre phi pp d.cur.rho cn a3
      let t ← cDiv sig d.pre.sigma
      let w ← (← matVec 12 d.pre.p a4).mapM (cMul t)
      pure (← matVec 3 d.cur.umat w, false, ch)

/-! ### Look paths (R237 to R243) -/

/-- A look path is in use; LP0 is in Paddle mode (R118). -/
def State.lkpOn (s : State) (n : Nat) : Bool := (s.boot.paddle != .off && n == 0) || s.bit (LKP_CFG n) LKP_CFG_EN

/-- The source head of a look path. -/
def State.lkpHead (s : State) (n : Nat) : Nat := if s.boot.paddle != .off && n == 0 then 0 else s.fld (LKP_CFG n) LKP_CFG_HEAD

/-- The output encoding of a look path: BT.709 in Paddle mode (R120). -/
def State.lkpEnc (s : State) (n : Nat) : Nat := if s.boot.paddle != .off && n == 0 then 1 else (s.rd (LKP_ENC n)).toNat % 8

/-- log2 as the CX96 evaluates it: within 2^-22 (R211; log entry 23). -/
def fpLog2 (v : Word) : Word :=
  match fpOf v with
  | .fin x => if x.m = 0 || x.neg then 0 else fpScaled (log2Q40 x.m x.e + clampInt (-262144) 262144 (Config.log2Err v)) (-40)
  | _ => 0

/-- Linear interpolation in a table of 4,096 entries at t in [0, 1] (R238). -/
def table4096 (e : Nat → Word) (t : Word) : Cnt Word := do
  let u ← cMul (fpInt 4095) t
  let i := min (fpFloor u).toNat 4094
  let f ← cSub u (fpInt i)
  cAdd (e i) (← cMul f (← cSub (e (i + 1)) (e i)))

/-- A value clamped to [0, 1]. -/
def clamp01 (x : Word) : Word := fpMin (fpMax x 0) fpOne

/-- The shaper (R238). -/
def shaperAt (t : LkpTables) (ch : Nat) (x : Word) : Cnt Word := do
  let a ← cAdd (fpMax x 0) (fpScaled 1 (-20))
  let b ← cAdd (← cMul (fpInt 32768) (fpLog2 a)) (fpInt 786431)
  let t01 := clamp01 (← cDiv b (fpInt 1048575))
  cDiv (← table4096 (fun i => fpInt (tabGet t.shaper 0 (4096 * ch + i) : Nat)) t01) (fpInt 65535)

/-- A LUT vertex (R239). -/
def lutAt (t : LkpTables) (r g b ch : Nat) : Word :=
  (fpDiv (fpInt (tabGet t.lut 0 ((b * 65 + g) * 65 + r) / 65536 ^ ch % 65536 : Nat)) (fpInt 65535)).1

/-- Axes in descending order of their fractions, ties in the order r, g, b (R239): insertion. -/
def insertAxis (a : Nat × Word) : List (Nat × Word) → List (Nat × Word)
  | [] => [a]
  | b :: bs => if fpLt b.2 a.2 then a :: b :: bs else b :: insertAxis a bs

/-- Tetrahedral interpolation in the 3D LUT (R239). -/
def lutEval (t : LkpTables) (x : List Word) : Cnt (List Word) := do
  let fr ← x.mapM (fun v => do
    let u ← cMul (fpInt 64) v
    let i := min (fpFloor u).toNat 63
    pure (i, ← cSub u (fpInt i)))
  let base := fr.map (·.1)
  match (fr.zipIdx.map (fun e => (e.2, e.1.2))).foldl (fun acc a => insertAxis a acc) [] with
  | [a1, a2, a3] =>
    let vert (axes : List Nat) (ch : Nat) : Word :=
      let at_ (k : Nat) : Nat := (base[k]?).getD 0 + b2n (axes.contains k)
      lutAt t (at_ 0) (at_ 1) (at_ 2) ch
    (List.range 3).mapM (fun ch => do
      let v0 ← cMul (← cSub fpOne a1.2) (vert [] ch)
      let v1 ← cMul (← cSub a1.2 a2.2) (vert [a1.1] ch)
      let v2 ← cMul (← cSub a2.2 a3.2) (vert [a1.1, a2.1] ch)
      let v3 ← cMul a3.2 (vert [a1.1, a2.1, a3.1] ch)
      cAdd (← cAdd (← cAdd v0 v1) v2) v3)
  | _ => pure x

/-- Output encoding of a component (R241). -/
def encodeOut (enc : Nat) (p : LkpParams) (x : Word) : Cnt Word := do
  let y ←
    if enc = 0 then pure x
    else if enc = 2 then do pure (Config.pqInv (← cMul x p.pqNits))
    else
      let l ← cMul x p.linScale
      if enc = 1 then pure (Config.oetf709 (clamp01 l))
      else if enc = 3 then pure (Config.oetfHlg (clamp01 l))
      else if fpLt l 0 then cDiv (← cMul (fpInt 16) l) 0x3F317218
      else cDiv (← cAdd (fpLog2 (← cAdd l (fpScaled 1 (-8)))) (fpInt 8)) (fpInt 16)
  pure (clamp01 y)

/-- Stage enables of a look path. -/
structure LkpEnables where
  shaper : Bool
  lut : Bool
  post : Bool
  enc : Nat

/-- One pixel through a look path (R237). -/
def lkpPixel (l : Lkp) (e : LkpEnables) (c : List Word) : Cnt (List Word) := do
  let p := l.active
  let m ← matVec 3 p.mat c
  let x1 ← zipVec (fun a o => do cAdd (← cMul p.exposure a) o) m p.ofs
  let x2 ← if e.shaper then x1.zipIdx.mapM (fun v => shaperAt l.tabs v.2 v.1) else pure (if e.lut then x1.map clamp01 else x1)
  let x3 ← if e.lut then lutEval l.tabs x2 else pure x2
  let x4 ← if e.post then x3.zipIdx.mapM (fun v => table4096 (fun i => tabGet l.tabs.post 0 (4096 * v.2 + i)) (clamp01 v.1)) else pure x3
  x4.mapM (encodeOut e.enc p)

/-- The stage enables of a look path as they stand. -/
def State.lkpEnables (s : State) (n : Nat) : LkpEnables :=
  if s.boot.paddle != .off && n == 0 then ⟨false, false, false, 1⟩
  else ⟨s.bit (LKP_CFG n) LKP_CFG_SHAPER_EN, s.bit (LKP_CFG n) LKP_CFG_LUT_EN, s.bit (LKP_CFG n) LKP_CFG_POST_EN, s.lkpEnc n⟩

/-- Look paths that take a head's pixels and run. -/
def State.headPaths (s : State) (h : Nat) : List Nat :=
  (List.range 8).filter (fun n => s.lkpOn n && s.lkpHead n == h && s.running (0x0500 + n))

/-- One working-space line through a look path into its feed. -/
def State.lkpLine (s : State) (n m : Nat) (px : List (List Word)) (flags : List Nat) : State :=
  let l := s.lkpOf n
  let e := s.lkpEnables n
  let (out, k) := px.mapM (lkpPixel l e) 0
  let rgb := out.map (fun v => ((v[0]?).getD 0, (v[1]?).getD 0, (v[2]?).getD 0))
  (s.setLkp n { l with feed := l.feed ++ [⟨m, rgb, flags⟩] }).lkpReplaced n k

/-! ### The demosaic's output lines (R220) -/

/-- The demosaic of a head runs in the 2 × 2 bin bypass (R220, R120). -/
def State.drvBin (s : State) (h : Nat) : Bool :=
  if s.paddleHead h then decide (2048 < (s.geom h).w) else s.fld (DRV_H_CFG (s.pp h) h) DRV_H_CFG_DEMOSAIC == 1

/-- Output size of a head's demosaic (R226). -/
def State.drvSize (s : State) (h : Nat) : Nat × Nat :=
  let g := s.geom h
  if s.drvBin h then (g.w / 2, g.h / 2) else (g.w, g.h)

/-- One output line leaves the demosaic, is converted, and enters the look paths of the head. -/
def State.drvLine (s : State) (h m : Nat) : State :=
  let g := s.geom h
  let d := s.drvOf h
  let mos : Mosaic := ⟨g.w, g.h, g.cfa, g.phase, (s.catOf h).stream⟩
  let fcs := s.bit (DRV_H_CFG (s.pp h) h) DRV_H_CFG_FCS_EN && !s.paddleHead h
  let satFb := s.bit (DRV_H_CFG (s.pp h) h) DRV_H_CFG_SAT_FALLBACK
  let run : Cnt (List (Px × List Word × Bool × Bool)) := (List.range (s.drvSize h).1).mapM (fun j => do
    let p ← mos.pixel (s.drvBin h) fcs m j
    pure (p, ← drvPixel d (s.spectral h) satFb p))
  let (out, n) := run 0
  let s := s.setDrv h { d with
    next := m + 1, fallCnt := d.fallCnt + (out.filter (·.2.2.1)).length, clampCnt := d.clampCnt + (out.filter (·.2.2.2)).length }
  let s := s.drvReplaced h n
  (s.headPaths h).foldl (fun s n => s.lkpLine n m (out.map (·.2.1)) (out.map (·.1.f))) s

/-- Output lines that are due for a number of complete input lines (R220). -/
def linesDue (bin : Bool) (hp complete : Nat) : Nat := min hp (if bin then (complete - 4) / 2 else complete - 4)

/-- Output lines leave as input lines complete; at the close those still pending leave in order. At most `fuel` lines leave. -/
def State.drvAdvance (s : State) (h : Nat) (close : Bool) : Nat → State
  | 0 => s
  | fuel + 1 =>
    let d := s.drvOf h
    let hp := (s.drvSize h).2
    let due := if close then hp else linesDue (s.drvBin h) hp (s.catOf h).stream.length
    if d.open_ && d.next < due then (s.drvLine h d.next).drvAdvance h close fuel else s

/-! ### Frame writes (R245, R246) -/

/-- Planes of a frame write: pitch, and offset of each plane and the end of the last, for FMT 0 to 2. -/
def lkpPlanes (wp hp fmt : Nat) : Nat × List Nat × Nat :=
  let py := ceilDiv (wp * 2) 256 * 256
  let y := roundUp (py * hp) 4096
  if fmt = 2 then (py, [0, y, 2 * y], 2 * y + py * hp)
  else (py, [0, y], y + py * (if fmt = 0 then hp / 2 else hp))

/-- Bytes of a look-path buffer (R246). -/
def State.lkpBufBytes (s : State) (n : Nat) : Nat :=
  let (wp, hp) := s.drvSize (s.lkpHead n)
  roundUp ((lkpPlanes wp hp (s.fld (LKP_WR_CFG n) LKP_WR_CFG_FMT)).2.2 + 64) 4096

/-- Address of a look-path buffer. -/
def State.lkpBufAddr (s : State) (n i : Nat) : Nat :=
  s.rd64 (LKP_WR_ADDR_LO n) (LKP_WR_ADDR_HI n) / 4096 * 4096 + i * s.lkpBufBytes n

/-- (Kr, Kb) of BT.709 and of BT.2020, in ten-thousandths. -/
def lumaK (bt2020 : Bool) : Nat × Nat := if bt2020 then (2627, 593) else (2126, 722)

/-- Y′, Cb and Cr of a pixel (R245). -/
def yCbCr (bt2020 : Bool) (r g b : Word) : Cnt (Word × Word × Word) := do
  let (kr, kb) := lumaK bt2020
  let kr := (fpDiv (fpInt kr) (fpInt 10000)).1
  let kb := (fpDiv (fpInt kb) (fpInt 10000)).1
  let kg ← cSub (← cSub fpOne kr) kb
  let y ← cAdd (← cAdd (← cMul kr r) (← cMul kg g)) (← cMul kb b)
  let cb ← cDiv (← cSub b y) (← cMul (fpInt 2) (← cSub fpOne kb))
  let cr ← cDiv (← cSub r y) (← cMul (fpInt 2) (← cSub fpOne kr))
  pure (y, cb, cr)

/-- A code from a scale and an offset, clamped (R245). -/
def quant (scale ofs lo hi : Nat) (v : Word) : Cnt Nat := do
  pure (clampInt lo hi (fpToInt (← cAdd (← cMul (fpInt scale) v) (fpInt ofs)))).toNat

/-- The luma code of a value (R245). -/
def quantY (full : Bool) (n : Nat) (v : Word) : Cnt Nat :=
  if full then quant (2 ^ n - 1) 0 0 (2 ^ n - 1) v
  else quant (219 * 2 ^ (n - 8)) (16 * 2 ^ (n - 8)) (2 ^ (n - 8)) (2 ^ n - 1 - 2 ^ (n - 8)) v

/-- The chroma code of a value (R245). -/
def quantC (full : Bool) (n : Nat) (v : Word) : Cnt Nat :=
  if full then quant (2 ^ n - 1) (2 ^ (n - 1)) 0 (2 ^ n - 1) v
  else quant (224 * 2 ^ (n - 8)) (2 ^ (n - 1)) (2 ^ (n - 8)) (2 ^ n - 1 - 2 ^ (n - 8)) v

/-- Horizontal chroma of a line at even columns with (1, 2, 1) ÷ 4 (R245). -/
def chromaH (c : List Word) : Cnt (List Word) :=
  (List.range ((c.length + 1) / 2)).mapM (fun (i : Nat) => do
    let at_ (k : Int) : Word := c.getD (mirror c.length k) 0
    let t ← cAdd (← cAdd (at_ (2 * (i : Int) - 1)) (← cMul (fpInt 2) (at_ (2 * (i : Int))))) (at_ (2 * (i : Int) + 1))
    cDiv t (fpInt 4))

/-- A sample most-significant-bit aligned in a 16-bit container. -/
def msbCode (depth c : Nat) : List Byte := leBytes 2 (c * 2 ^ (16 - depth))

/-- The planes of a frame from its lines (R245): bytes with their offsets. -/
def framePlanes (wp hp fmt depth : Nat) (full bt2020 : Bool) (feed : List FeedLine) : Cnt (List (Nat × List Byte)) := do
  let (py, offs, _) := lkpPlanes wp hp fmt
  let off (i : Nat) : Nat := (offs[i]?).getD 0
  let lines ← feed.mapM (fun l => do
    let px ← l.rgb.mapM (fun e => yCbCr bt2020 e.1 e.2.1 e.2.2)
    pure (l.line, px))
  let ys ← lines.mapM (fun l => do pure (off 0 + py * l.1, (← l.2.mapM (fun e => quantY full depth e.1)).flatMap (msbCode depth)))
  if fmt = 2 then
    let cb ← lines.mapM (fun l => do pure (off 1 + py * l.1, (← l.2.mapM (fun e => quantC full depth e.2.1)).flatMap (msbCode depth)))
    let cr ← lines.mapM (fun l => do pure (off 2 + py * l.1, (← l.2.mapM (fun e => quantC full depth e.2.2)).flatMap (msbCode depth)))
    pure (ys ++ cb ++ cr)
  else
    let half ← lines.mapM (fun l => do pure (l.1, ← chromaH (l.2.map (·.2.1)), ← chromaH (l.2.map (·.2.2))))
    let code (row : Nat) (cb cr : List Word) : Cnt (Nat × List Byte) := do
      let bs ← (cb.zip cr).mapM (fun e => do pure (msbCode depth (← quantC full depth e.1) ++ msbCode depth (← quantC full depth e.2)))
      pure (off 1 + py * row, bs.flatten)
    let at_ (i : Nat) : List Word × List Word := ((half.find? (fun l => l.1 == i)).map (·.2)).getD ([], [])
    let mean (a b : List Word) : Cnt (List Word) := zipVec (fun x y => do cDiv (← cAdd x y) (fpInt 2)) a b
    let cs ←
      if fmt = 1 then half.mapM (fun l => code l.1 l.2.1 l.2.2)
      else (List.range (hp / 2)).mapM (fun i => do
        code i (← mean (at_ (2 * i)).1 (at_ (2 * i + 1)).1) (← mean (at_ (2 * i)).2 (at_ (2 * i + 1)).2))
    pure (ys ++ cs)

/-- Frame Start in a look path: a pending swap applies, and a buffer is chosen for a frame that D selects (R243, R245, R246). -/
def State.lkpSwapNow (s : State) (n : Nat) : State :=
  let e := clampFp 0x37800000 0x47800000 (s.rd (LKP_EXPOSURE n))
  let ls := clampFp 0x37800000 0x47800000 (s.rd (LKP_LIN_SCALE n))
  let pq := clampFp 0x3F800000 0x461C4000 (s.rd (LKP_PQ_NITS n))
  let l := s.lkpOf n
  let par : LkpParams := ⟨e.1, ls.1, pq.1, (List.range 9).map (fun i => s.rd (LKP_MAT n i)), (List.range 3).map (fun i => s.rd (LKP_OFS n i))⟩
  let s := (s.setLkp n { l with active := par, tabs := l.incoming, copying := true }).lkpReplaced n (e.2 + ls.2 + pq.2)
  let s := s.setFld (LKP_STATUS n) LKP_STATUS_BANK (1 - s.fld (LKP_STATUS n) LKP_STATUS_BANK)
  ((s.wr (LKP_CTRL n) 0).incWrap (LKP_GEN n)).raise 400 (0x0500 + n)

/-- Frame Start in one look path. -/
def State.lkpStart (s : State) (n h : Nat) : State :=
  if !s.running (0x0500 + n) then (s.skipHeld (0x0500 + n)).setLkp n { s.lkpOf n with feed := [], buf := none }
  else
    let s := if bitOf (s.rd (LKP_CTRL n)) 0 then s.lkpSwapNow n else s
    let seq := s.rd (SPT_H_FRAMES (s.hp h))
    let d := s.fld (LKP_WR_CFG n) LKP_WR_CFG_D
    let want := s.bit (LKP_CFG n) LKP_CFG_WR_EN && d != 0 && seq.toNat % d == 0 && !s.firmStopped (0x0500 + n)
    let l := s.lkpOf n
    let held := s.bufHeld (8 + n) l.next
    let s := s.setLkp n { l with feed := [], feedSeq := seq, start := s.ns, buf := if want && !held then some l.next else none }
    if want && held then (s.inc (LKP_WR_DROP n)).raise 402 (0x0500 + n) [w32 n, seq] else s

/-- Frame Start in the look paths of a head. -/
def State.lkpFrameStart (s : State) (h : Nat) : State :=
  if (s.catOf h).frame.isNone then s
  else ((List.range 8).filter (fun n => s.lkpOn n && s.lkpHead n == h)).foldl (fun s n => s.lkpStart n h) s

/-- A look path's frame closes: its planes are written, and its trailer is due (R245, R246). -/
def State.lkpClose (s : State) (n : Nat) (i : FrameInfo) : State :=
  let l := s.lkpOf n
  match l.buf with
  | none => s
  | some b =>
    let c := s.rd (LKP_WR_CFG n)
    let (wp, hp) := s.drvSize (s.lkpHead n)
    let depth := if LKP_WR_CFG_DEPTH.get c = 1 then 12 else 10
    let (ps, k) := framePlanes wp hp (LKP_WR_CFG_FMT.get c) depth (LKP_WR_CFG_RANGE.get c == 1) (LKP_WR_CFG_MATRIX.get c == 1) l.feed 0
    let s := ps.foldl (fun s p => s.memWrite (s.lkpBufAddr n b + p.1) p.2) s
    let w : LkpWrite := ⟨b, i, s.rd (LKP_GEN n), s.rd (DRV_H_GEN (s.pp (s.lkpHead n)) (s.lkpHead n))⟩
    (s.setLkp n { s.lkpOf n with buf := none, written := l.written ++ [w], next := (b + 1) % max 1 (LKP_WR_CFG_BUFS.get c) }).lkpReplaced n k

/-- A head's frame closes in Drive: the pending output lines leave, the counts show, and the look paths close their writes. -/
def State.drvClose (s : State) (h : Nat) (i : FrameInfo) : State :=
  match s.pipeOf h with
  | none => s
  | some p =>
    let s := s.drvAdvance h true (s.drvSize h).2
    let d := s.drvOf h
    if !d.open_ then s
    else
      let s := (s.wr (DRV_H_SPEC_CLAMP p h) (w32 d.clampCnt)).wr (DRV_H_SPEC_FALLBACK p h) (w32 d.fallCnt)
      let s := s.setDrv h { d with open_ := false }
      (s.headPaths h).foldl (fun s n => s.lkpClose n i) s

/-- The trailer of a look-path buffer (R246). -/
def State.lkpTrailer (s : State) (n : Nat) (w : LkpWrite) : List Byte :=
  let (wp, hp) := s.drvSize (s.lkpHead n)
  let a := leBytes 4 0x464C5843 ++ leBytes 2 1 ++ leBytes 1 n ++ leBytes 1 (s.lkpHead n) ++ leBytes 2 wp ++ leBytes 2 hp ++
    wordBytes (s.rd (LKP_WR_CFG n)) ++ wordBytes w.info.seq ++ wordBytes w.info.group ++ wordBytes w.info.tStart ++
    leBytes 4 (b2n w.info.incomplete) ++ wordBytes w.gen ++ wordBytes w.drvGen ++ List.replicate 20 0
  a ++ wordBytes (crc32c a)

/-- Row LKP_FRAME_WRITTEN: the trailer is written last, and event 401 posts the buffer (R246). -/
def execLkpFrameWritten (n : Fin 8) (s : State) : Res :=
  .next (
    let l := s.lkpOf n
    match l.written with
    | [] => s
    | w :: ws =>
      let s := s.memWrite (s.lkpBufAddr n w.buf + s.lkpBufBytes n - 64) (s.lkpTrailer n w)
      let s := (s.setLkp n { l with written := ws }).wr (LKP_WR_LAST n) (w32 w.buf)
      (s.raise 401 (0x0500 + n) [w32 n.val, w32 w.buf]).postRing (8 + n) w.buf w.info)

/-- A write of LKP_CTRL (R243): nothing while a swap or a copy is in progress. -/
def State.lkpSwapWrite (s : State) (n : Nat) (v : Word) : State :=
  if bitOf v 0 && !s.bit (LKP_STATUS n) LKP_STATUS_SWAP_PENDING then
    (s.wr (LKP_CTRL n) 1).setBit (LKP_STATUS n) LKP_STATUS_SWAP_PENDING true
  else s

/-- Row LKP_SWAP. -/
def execLkpSwap (n : Fin 8) (v : Word) (s : State) : Res := .next (s.hostDo (LKP_CTRL n) true (·.lkpSwapWrite n v))

/-- Row LKP_BANK_COPY_DONE: the incoming bank holds what the active one holds (R243). -/
def execLkpBankCopyDone (n : Fin 8) (s : State) : Res :=
  .next (
    let l := s.lkpOf n
    if l.copying then
      let p := l.active
      let s := s.setLkp n { l with copying := false, incoming := l.tabs }
      let s := ((s.wr (LKP_EXPOSURE n) p.exposure).wr (LKP_LIN_SCALE n) p.linScale).wr (LKP_PQ_NITS n) p.pqNits
      let s := p.mat.zipIdx.foldl (fun s e => s.wr (LKP_MAT n e.2) e.1) s
      let s := p.ofs.zipIdx.foldl (fun s e => s.wr (LKP_OFS n e.2) e.1) s
      s.setBit (LKP_STATUS n) LKP_STATUS_SWAP_PENDING false
    else s)

/-- Entries of a look-path table. -/
def lkpLen (t : Nat) : Nat := if t = 1 then 274625 else if t = 0 || t = 2 then 4096 else 0

/-- A look-path table entry through LKP_TBL_DATA0 or 1. -/
def lkpEntry (t : LkpTables) (tab ch i : Nat) (hi : Bool) : Word :=
  if lkpLen tab ≤ i then 0
  else if tab = 1 then let v := tabGet t.lut 0 i; if hi then w32 (v / 4294967296 % 65536) else w32 (v % 4294967296)
  else if hi || 3 ≤ ch then 0
  else if tab = 0 then w32 (tabGet t.shaper 0 (4096 * ch + i)) else tabGet t.post 0 (4096 * ch + i)

/-- A look-path table entry written. -/
def lkpPutEntry (t : LkpTables) (tab ch i : Nat) (hi : Bool) (v : Word) : LkpTables :=
  if lkpLen tab ≤ i then t
  else if tab = 1 then
    let o := tabGet t.lut 0 i
    { t with lut := tabSet t.lut 0 i (if hi then o % 4294967296 + v.toNat % 65536 * 4294967296 else o / 4294967296 * 4294967296 + v.toNat) }
  else if hi || 3 ≤ ch then t
  else if tab = 0 then { t with shaper := tabSet t.shaper 0 (4096 * ch + i) (v.toNat % 65536) }
  else { t with post := tabSet t.post 0 (4096 * ch + i) v }

/-- An access to LKP_TBL_DATA0 or, with `hi`, DATA1. The index advances after DATA0 for the shaper and post tables and after DATA1 for the LUT. -/
def State.lkpAccess (s : State) (n : Nat) (hi write : Bool) (v : Word) : State :=
  let sel := s.rd (LKP_TBL_SEL n)
  let tab := LKP_TBL_SEL_TABLE.get sel
  let ch := LKP_TBL_SEL_CH.get sel
  let act := bitOf sel 9
  let i := bitsOf (s.rd (LKP_TBL_INDEX n)).toNat 18 0
  let l := s.lkpOf n
  let s :=
    if write then if act then s else s.setLkp n { l with incoming := lkpPutEntry l.incoming tab ch i hi v }
    else { s with hostData := lkpEntry (if act then l.tabs else l.incoming) tab ch i hi }
  if (tab == 1) == hi then s.advance (LKP_TBL_INDEX n) 19 else s

/-- Row LKP_TBL_DATA_ACCESS. -/
def execLkpTblDataAccess (n : Fin 8) (hi write : Bool) (v : Word) (s : State) : Res :=
  .next (s.hostDo (if hi then LKP_TBL_DATA1 n else LKP_TBL_DATA0 n) write (·.lkpAccess n hi write v))

/-! ### TABLE sections (R244) -/

/-- A TABLE section of a look-path block loads both banks. -/
def State.lkpTable (s : State) (n : Nat) (d : List Byte) : State :=
  let sel := leAt d 0 1
  let tab := sel % 4
  let ch := sel / 4 % 4
  let cnt := min (leAt d 4 4) (lkpLen tab)
  let put (t : LkpTables) (i : Nat) : LkpTables :=
    if tab = 1 then lkpPutEntry (lkpPutEntry t 1 0 i false (w32 (leAt d (16 + 8 * i) 4))) 1 0 i true (w32 (leAt d (20 + 8 * i) 4))
    else lkpPutEntry t tab ch i false (w32 (leAt d (16 + 4 * i) 4))
  let l := s.lkpOf n
  s.setLkp n { l with tabs := (List.range cnt).foldl put l.tabs, incoming := (List.range cnt).foldl put l.incoming }

/-- A TABLE section of a colour-pipe block loads a user illuminant table. -/
def State.drvTable (s : State) (d : List Byte) : State :=
  let sel := leAt d 0 1
  let h := sel % 8
  let k := sel / 8 % 2
  let x := s.drvOf h
  let vs := (List.range 41).map (fun i => w32 (leAt d (16 + 4 * i) 4))
  let n := (vs.map (fun v => (clampFp 0 0x47800000 v).2)).sum
  let ill := tabFill 0 x.cur.ill (64 * k) (vs.map (fun v => (clampFp 0 0x47800000 v).1))
  (s.setDrv h { x with illShadow := tabFill 0 x.illShadow (64 * k) vs, cur := { x.cur with ill := ill } }).drvReplaced h n

/-! ### Checks of a commit (R231) -/

/-- A head with its pipe: the cases of R231 that concern a colour pipe. -/
def chkDrv (v : State) (p : Nat) : Option Nat :=
  if !v.bit (DRV_P_CFG p) DRV_P_CFG_EN then none
  else
    let bad (h : Nat) : Bool :=
      bitOf (v.rd (DRV_P_CFG p)) (8 + h) &&
      (let dm := v.fld (DRV_H_CFG p h) DRV_H_CFG_DEMOSAIC
       (v.bit (DRV_P_CFG p) DRV_P_CFG_MODE && (v.geom h).cfa == 2) || (dm == 1 && (v.geom h).cfa == 1) || 2 ≤ dm ||
       v.fld (DRV_H_CFG p h) DRV_H_CFG_WS == 3)
    if (List.range 8).any bad then some 0x0401 else none

/-- A look path: the cases of R231 that concern it. -/
def chkLkp (v : State) (n : Nat) : Option Nat :=
  if !v.bit (LKP_CFG n) LKP_CFG_EN then none
  else
    let c := v.rd (LKP_WR_CFG n)
    let h := v.fld (LKP_CFG n) LKP_CFG_HEAD
    let wr := v.bit (LKP_CFG n) LKP_CFG_WR_EN
    if 5 ≤ (v.rd (LKP_ENC n)).toNat % 8 || LKP_WR_CFG_FMT.get c == 3 || (v.pipeOf h).isNone ||
      (wr && ((LKP_WR_CFG_FMT.get c == 0 && (v.drvSize h).2 % 2 == 1) || LKP_WR_CFG_D.get c == 0 || LKP_WR_CFG_BUFS.get c < 2)) then some 0x0401
    else none

end Sys2Proof.Machine
end

