-- ==== Sys2Proof/Machine/Raw.lean ====
section
/-! DEFINITION. The ZRX raw codec and CMX (R328 to R352). Rows 133 to 140. -/

namespace Sys2Proof.Machine

/-! ### Tiles (R331 to R339) -/

/-- Tile columns and rows of a head's frame (R76, R332). -/
def Geom.tiles (g : Geom) : Nat × Nat := (g.w / 128, ceilDiv g.h 32)

/-- Height of a tile (R76). -/
def Geom.tileH (g : Geom) (i : Nat) : Nat := min 32 (g.h - 32 * (i / max 1 g.tiles.1))

/-- Head of a ZRX session. -/
def State.zrxHead (s : State) (z : Nat) : Nat := s.fld (ZRX_S_CFG z) ZRX_S_CFG_HEAD
/-- MODE of a session: 0 U, 1 L, 2 B, 3 C. -/
def State.zrxMode (s : State) (z : Nat) : Nat := s.fld (ZRX_S_CFG z) ZRX_S_CFG_MODE

/-- Photosite codes of a line of a number's bit string (R212). -/
def unpackCodes (bo : Nat) : Nat → Nat → List Nat
  | 0, _ => []
  | n + 1, v => v % 2 ^ bo :: unpackCodes bo n (v / 2 ^ bo)

/-- The photosites of a tile in raster order, by rows (R332). -/
def State.tileRows (s : State) (h buf i : Nat) : List (List Nat) :=
  let g := s.geom h
  let bo := s.rawBits h
  let st := rawStride g.w bo
  let tx := i % max 1 g.tiles.1
  let ty := i / max 1 g.tiles.1
  (List.range (g.tileH i)).map (fun r =>
    let a := s.rawBufAddr h buf + 4096 + (32 * ty + r) * st + 16 * bo * tx
    unpackCodes bo 128 (leNat (s.memRead a (16 * bo))))

/-- A plane of a tile: the grid of its photosites whose plane index is p (R334). -/
def Geom.tilePlane (g : Geom) (p : Nat) (rows : List (List Nat)) : List (List Nat) :=
  let grid := rows.zipIdx.map (fun r => (r.1.zipIdx.filter (fun e => g.plane r.2 e.2 == p)).map (·.1))
  grid.filter (fun r => !r.isEmpty)

/-- The predictor of R335. -/
def predict (bo : Nat) (first : Bool) (a b c : Option Int) : Int :=
  match first, a, b, c with
  | true, some a, _, _ => a
  | true, none, _, _ => 2 ^ (bo - 1)
  | false, none, some b, _ => b
  | false, some a, some b, some c => if max a b ≤ c then min a b else if c ≤ min a b then max a b else a + b - c
  | false, _, _, _ => 2 ^ (bo - 1)

/-- One sample coded (R336): the mapped residual and the reconstruction. -/
def codeSample (bo near : Nat) (p : Int) (x : Nat) : Nat × Int :=
  let maxval : Int := 2 ^ bo - 1
  let q2 : Int := 2 * near + 1
  let range : Int := (maxval + 2 * near) / q2 + 1
  let e : Int := x - p
  let m : Int := (((e.natAbs + near) / (2 * near + 1) : Nat) : Int)
  let q : Int := if e < 0 then -m else m
  let q := if q < 0 then q + range else q
  let q := if range + 1 ≤ 2 * q then q - range else q
  let rx := p + q * q2
  let rx := if rx < -(near : Int) then rx + range * q2 else rx
  let rx := if maxval + near < rx then rx - range * q2 else rx
  ((if 0 ≤ q then 2 * q else -2 * q - 1).toNat, clampInt 0 maxval rx)

/-- One row of a plane coded: residuals and reconstruction; `above` is the reconstruction of the row before, empty in row 0. -/
def codeRow (bo near : Nat) (first : Bool) : List Nat → List Int → Option Int → Option Int → List Nat × List Int
  | [], _, _, _ => ([], [])
  | x :: xs, above, a, c =>
    let b := above.head?
    let (m, rx) := codeSample bo near (predict bo first a b c) x
    let (ms, rs) := codeRow bo near first xs above.tail (some rx) b
    (m :: ms, rx :: rs)

/-- The mapped residuals of a plane in raster order (R335, R336). -/
def codePlane (bo near : Nat) (rows : List (List Nat)) : List Nat :=
  (rows.foldl (fun (acc : List Nat × List Int × Bool) r =>
    let (ms, rs) := codeRow bo near acc.2.2 r acc.2.1 none none
    (acc.1 ++ ms, rs, false)) ([], [], true)).1

/-- The residual stream of a tile (R337). -/
def residualStream (g : Geom) (bo near : Nat) (rows : List (List Nat)) : List Byte :=
  let ms := (List.range 4).flatMap (fun p => codePlane bo near (g.tilePlane p rows))
  (List.range (ceilDiv bo 8)).flatMap (fun k => ms.map (fun m => BitVec.ofNat 8 (m / 256 ^ k)))

/-- The payload of mode U (R338). -/
def payloadU (bo : Nat) (rows : List (List Nat)) : List Byte := rows.flatMap (fun r => leBytes (16 * bo) (packBits bo r))

/-- a ÷ b rounded to nearest, ties to even. -/
def rneDiv (a b : Nat) : Nat :=
  if b = 0 then 0
  else
    let q := a / b
    let r := a % b
    if 2 * r < b then q else if b < 2 * r then q + 1 else q + q % 2

/-- The FLAT payload (R339). -/
def payloadFlat (g : Geom) (bo : Nat) (rows : List (List Nat)) : List Byte :=
  (List.range 4).flatMap (fun p =>
    let xs := (g.tilePlane p rows).flatten
    leBytes 2 (if bo = 20 then min 65535 (rneDiv xs.sum (16 * xs.length)) else rneDiv xs.sum xs.length))

/-- A Zstandard frame from CMX within the bound of R346. -/
def cmxOut (level flags : Nat) (x : List Byte) : List Byte := (Config.zstd level flags x).take (x.length + 24 * max 1 (ceilDiv x.length 131072))

/-- A coded tile: its mode, NEAR and payload. -/
structure TileCode where
  mode : Nat
  near : Nat
  payload : List Byte

/-- Bytes of a tile, its header included. -/
def TileCode.size (t : TileCode) : Nat := 16 + t.payload.length

/-- A tile coded at a NEAR (mode L at 0, else B), or in mode U where that is no longer (R338). -/
def codeTile (g : Geom) (bo near level : Nat) (rows : List (List Nat)) : TileCode :=
  let u := payloadU bo rows
  let z := cmxOut level 0 (residualStream g bo near rows)
  if u.length ≤ z.length then ⟨0, 0, u⟩ else ⟨if near = 0 then 1 else 2, near, z⟩

/-- The header of a tile (R333). -/
def tileHeader (g : Geom) (i tflags : Nat) (t : TileCode) : List Byte :=
  leBytes 1 t.mode ++ leBytes 1 t.near ++ leBytes 1 (g.cfa + 4 * g.phase) ++ leBytes 1 tflags ++ leBytes 4 t.payload.length ++ leBytes 4 i ++
    wordBytes (crc32c t.payload)

/-! ### Sessions (R329, R340 to R343) -/

/-- Tiles of a session's frames. -/
def State.zrxTiles (s : State) (z : Nat) : Nat := let t := (s.geom (s.zrxHead z)).tiles; t.1 * t.2

/-- The floor Fz_min (R340). -/
def State.zrxFloor (s : State) (z : Nat) : Nat := 256 + 32 * s.zrxTiles z

/-- The mode U size of a tile (R338). -/
def State.tileU (s : State) (z i : Nat) : Nat := let h := s.zrxHead z; 16 + 16 * (s.geom h).tileH i * s.rawBits h

/-- A ZRX frame in mode U, Fu (R76). -/
def State.zrxFu (s : State) (z : Nat) : Nat := 256 + 8 * s.zrxTiles z + ((List.range (s.zrxTiles z)).map (s.tileU z)).sum

/-- The CMX backlog of R348, shown in KiB. -/
def State.cmxBacklog (s : State) : Nat :=
  ((List.range 8).map (fun z =>
    if s.zrxMode z = 0 then 0
    else
      let x := s.zrxOf z
      let tiles := s.zrxTiles z
      let whole := ((List.range tiles).map (s.tileU z)).sum
      x.queue.length * whole + (match x.cur with | some f => ((List.range (tiles - f.tile)).map (fun i => s.tileU z (f.tile + i))).sum | none => 0))).sum

/-- CMX_BACKLOG follows the backlog. -/
def State.cmxShow (s : State) : State := s.wr CMX_BACKLOG (w32 (ceilDiv s.cmxBacklog 1024))

/-- Output ring size in bytes. -/
def State.zrxRing (s : State) (z : Nat) : Nat := (s.rd (ZRX_S_OUT_SIZE z)).toNat % 8192 * 1048576
/-- Output ring address. -/
def State.zrxBase (s : State) (z : Nat) : Nat := s.rd64 (ZRX_S_OUT_ADDR_LO z) (ZRX_S_OUT_ADDR_HI z) / 4096 * 4096
/-- STREAM_ID of a session's output. -/
def zrxStream (z : Nat) : Nat := 0x0A00 * 65536 + 2 * z + 1

/-- Bytes of the ring from RP to an offset. -/
def State.zrxUsed (s : State) (z off : Nat) : Nat :=
  let so := s.zrxRing z
  if so = 0 then 0 else (off + so - (s.rd (ZRX_S_OUT_RP z)).toNat % so) % so

/-- A session stops with a reason: its frame is abandoned, and its buffers are released (R343, R32). -/
def State.zrxStop (s : State) (z code : Nat) : State :=
  let s := if s.fld (ZRX_S_STATUS z) ZRX_S_STATUS_STOP_REASON = 0 then s.setFld (ZRX_S_STATUS z) ZRX_S_STATUS_STOP_REASON code else s
  let x := s.zrxOf z
  let held := x.queue.map (·.1) ++ (match x.cur with | some f => [f.buf] | none => [])
  let s := held.foldl (fun s b => s.releaseBuf (s.zrxHead z) b (zrxReader z)) s
  ((s.setZrx z { x with queue := [], cur := none, skipped := false, go := 0 }).setFld (ZRX_S_STATUS z) ZRX_S_STATUS_PHASE 0).zrxQueued z

/-- A write of ZRX_S_OUT_RP. -/
def State.zrxRpWrite (s : State) (z : Nat) (v : Word) : State :=
  let s := s.wr (ZRX_S_OUT_RP z) (v &&& 0xFFFFF000)
  s.backlogSetId (zrxStream z) (s.zrxUsed z (s.rd (ZRX_S_OUT_WP z)).toNat)

/-- Row ZRX_OUT_RP_WRITE. -/
def execZrxOutRpWrite (z : Fin 8) (v : Word) (s : State) : Res := .next (s.hostDo (ZRX_S_OUT_RP z) true (·.zrxRpWrite z v))

/-- Row ZRX_FRAME_START: the session starts coding the oldest taken frame, at once or at an open delivery (R342). -/
def execZrxFrameStart (z : Fin 8) (s : State) : Res :=
  .next (
    let x := s.zrxOf z
    let pace := s.bit (ZRX_S_CFG z) ZRX_S_CFG_PACE
    match x.cur, x.queue with
    | none, (b, sk) :: q =>
      if s.zrxOn z && (!pace || 0 < x.go) then
        let f : ZrxFrame := { buf := b, start := (s.rd (ZRX_S_OUT_WP z)).toNat, bytes := 256 + 8 * s.zrxTiles z, flags := 64 * b2n sk }
        (((s.setZrx z { x with queue := q, cur := some f, go := x.go - 1 }).setFld (ZRX_S_STATUS z) ZRX_S_STATUS_PHASE 1).zrxQueued z).cmxShow
      else s
    | _, _ => s)

/-- An open delivery to a session (R342). -/
def State.zrxOpen (s : State) (z : Nat) : State :=
  let x := s.zrxOf z
  if !s.zrxOn z || !s.bit (ZRX_S_CFG z) ZRX_S_CFG_PACE then s
  else if x.go < x.queue.length then s.setZrx z { x with go := x.go + 1 }
  else s.inc (ZRX_S_WIN_IDLE z)

/-- SEQ of the raw frame that a session codes. -/
def State.zrxSeq (s : State) (z : Nat) (f : ZrxFrame) : Word := s.memWord (s.rawBufAddr (s.zrxHead z) f.buf + 0x14)

/-- A close delivery to a session (R342): every tile not yet written becomes FLAT. -/
def State.zrxClose (s : State) (z : Nat) : State :=
  match (s.zrxOf z).cur with
  | none => s
  | some f =>
    if s.zrxTiles z ≤ f.tile || f.closed then s
    else
      let g := { f with closed := true, flags := f.flags ||| 8, firstFlat := some (f.firstFlat.getD f.tile) }
      ((s.setZrx z { s.zrxOf z with cur := some g }).inc (ZRX_S_WIN_LATE z)).raise 604 0x0A00 [w32 f.tile]

/-- A later phase is entered at a tile (R341). -/
def State.zrxEnter (s : State) (z ph : Nat) (f : ZrxFrame) : State × ZrxFrame :=
  let ev := if ph = 2 then 602 else 603
  let s := (s.inc (if ph = 2 then ZRX_S_NEARMAX_CNT z else ZRX_S_FLOOR_CNT z)).raise ev 0x0A00 [w32 z, s.zrxSeq z f, w32 f.tile]
  (s, if ph = 2 then { f with phase := 2, firstNear := some f.tile } else { f with phase := 3, flags := f.flags ||| 4, firstFlat := some (f.firstFlat.getD f.tile) })

/-- The coding of the next tile of mode C under the phase rules (R341). -/
def State.zrxModeC (s : State) (z : Nat) (f : ZrxFrame) (g : Geom) (bo level : Nat) (rows : List (List Nat)) : State × ZrxFrame × TileCode :=
  let target := (s.rd (ZRX_S_TARGET z)).toNat
  let m := s.zrxTiles z - f.tile
  let a : Int := (target : Int) - f.bytes - 24 * m
  let cfg := s.rd (ZRX_S_CFG z)
  let nmin := ZRX_S_CFG_NEAR_MIN.get cfg
  let nmax := ZRX_S_CFG_NEAR.get cfg
  let flat : TileCode := ⟨3, 0, payloadFlat g bo rows⟩
  let keep (t : TileCode) : Bool := decide ((t.size : Int) ≤ a + 24)
  let (s, f) := if f.phase = 1 && f.tile % max 1 g.tiles.1 == 0 && a < (m * (s.zrxOf z).fq : Nat) then s.zrxEnter z 2 f else (s, f)
  let second (s : State) (f : ZrxFrame) : State × ZrxFrame × TileCode :=
    let t := codeTile g bo nmax level rows
    if keep t then (s, f, t) else let (s, f) := s.zrxEnter z 3 f; (s, f, flat)
  match f.phase with
  | 1 =>
    let t := codeTile g bo (clampNat nmin nmax (Config.zrxNear s.freeCtr)) level rows
    let s := s.useFree
    if keep t then (s, f, t)
    else
      let (s, f) := (s.inc (ZRX_S_RECODE z)).zrxEnter z 2 f
      second s f
  | 2 => second s f
  | _ => (s, f, flat)

/-- A tile is written at its place in the ring, or the output is refused (R343). -/
def State.zrxWriteTile (s : State) (z : Nat) (f : ZrxFrame) (g : Geom) (t : TileCode) (tflags : Nat) : State :=
  if s.zrxRing z ≤ s.zrxUsed z f.start + f.bytes + t.size then
    (((s.streamRefuseId (zrxStream z)).zrxStop z 6).raise 605 0x0A00).cmxShow
  else
    let s := s.ringWrite (s.zrxBase z) (s.zrxRing z) (f.start + f.bytes) (tileHeader g f.tile tflags t ++ t.payload)
    let p2 := f.phase == 2 && t.mode != 3
    let f := { f with
      tile := f.tile + 1, bytes := f.bytes + t.size, index := f.index ++ [(f.bytes, t.size)],
      p2Bytes := if p2 then f.p2Bytes + t.size else f.p2Bytes, p2Tiles := f.p2Tiles + b2n p2 }
    let s := (s.setZrx z { s.zrxOf z with cur := some f }).setFld (ZRX_S_STATUS z) ZRX_S_STATUS_PHASE f.phase
    let s := if f.tile = s.zrxTiles z then s.releaseBuf (s.zrxHead z) f.buf (zrxReader z) else s
    (s.backlogSetId (zrxStream z) (s.zrxUsed z f.start + f.bytes)).cmxShow

/-- The next tile of a session's frame is coded and written (R338, R341, R342, R348). -/
def State.zrxTile (s : State) (z : Nat) (f : ZrxFrame) : State :=
  let h := s.zrxHead z
  let g := s.geom h
  let bo := s.rawBits h
  let rows := s.tileRows h f.buf f.tile
  let mode := s.zrxMode z
  let fb := s.bit CMX_STATUS CMX_STATUS_FALLBACK
  let level := if fb then 0 else s.fld CMX_STATUS CMX_STATUS_LEVEL_NOW
  let (s, f, t) : State × ZrxFrame × TileCode :=
    if f.closed then (s, f, ⟨3, 0, payloadFlat g bo rows⟩)
    else match mode with
      | 0 => (s, f, ⟨0, 0, payloadU bo rows⟩)
      | 1 => (s, f, codeTile g bo 0 level rows)
      | 2 => (s, f, codeTile g bo (s.fld (ZRX_S_CFG z) ZRX_S_CFG_NEAR) level rows)
      | _ => s.zrxModeC z f g bo level rows
  let u := mode != 0 && t.mode == 0
  let z0 := fb && (t.mode == 1 || t.mode == 2)
  let p2 := f.phase == 2 && t.mode != 3
  let s := if u then s.inc (ZRX_S_UTILES z) else s
  let f := { f with flags := f.flags ||| (2 * b2n p2 + 16 * b2n z0 + 32 * b2n u) }
  s.zrxWriteTile z f g t (b2n p2 + 2 * b2n f.closed + 4 * b2n z0)

/-- Row ZRX_TILE_CODED: the session's next tile. -/
def execZrxTileCoded (z : Fin 8) (s : State) : Res :=
  .next (
    match (s.zrxOf z).cur with
    | some f => if s.zrxOn z && f.tile < s.zrxTiles z then s.settle (s.zrxTile z f) else s
    | none => s)

/-- The frame header without its CRC (R331). -/
def State.zrxHeader (s : State) (z : Nat) (f : ZrxFrame) (index : List Byte) : List Byte :=
  let h := s.zrxHead z
  let g := s.geom h
  let raw := s.memRead (s.rawBufAddr h f.buf) 128
  let cfg := s.rd (ZRX_S_CFG z)
  let mode := ZRX_S_CFG_MODE.get cfg
  let near := if 2 ≤ mode then ZRX_S_CFG_NEAR.get cfg else 0
  let from_ (o n : Nat) : List Byte := sliceAt raw o n
  let opt (x : Option Nat) : List Byte := leBytes 4 (x.getD 0xFFFFFFFF)
  leBytes 4 0x525A5843 ++ leBytes 2 1 ++ leBytes 2 256 ++ leBytes 4 f.bytes ++ leBytes 1 mode ++ leBytes 1 near ++ leBytes 1 h ++ from_ 0xF 1 ++
    leBytes 2 g.w ++ leBytes 2 g.h ++ leBytes 1 g.b ++ leBytes 1 (s.rawBits h) ++ from_ 0x7 1 ++ leBytes 1 (s.fld CMX_CFG CMX_CFG_LEVEL) ++
    leBytes 2 g.tiles.1 ++ leBytes 2 g.tiles.2 ++ leBytes 4 (s.zrxTiles z) ++ from_ 0x14 4 ++ from_ 0x18 2 ++
    leBytes 2 (f.flags + leAt raw 0x1A 2 % 2) ++ from_ 0x1C 4 ++ from_ 0x20 4 ++ wordBytes s.ns ++ from_ 0x2C 4 ++
    leBytes 4 (if mode = 3 then (s.rd (ZRX_S_TARGET z)).toNat else 0) ++ opt f.firstNear ++ opt f.firstFlat ++ from_ 0x3C 4 ++ from_ 0x40 16 ++
    from_ 0x50 16 ++ List.replicate 144 0 ++ wordBytes (crc32c index)

/-- A ZRX frame completes (R341, R343); a recording channel that reads the session takes it (R353). -/
def State.zrxDone (s : State) (z : Nat) (f : ZrxFrame) : State :=
  let index := f.index.flatMap (fun e => leBytes 4 e.1 ++ leBytes 4 e.2)
  let a := s.zrxHeader z f index
  let s := s.ringWrite (s.zrxBase z) (s.zrxRing z) f.start (a ++ wordBytes (crc32c a) ++ index)
  let so := s.zrxRing z
  let wp := (f.start + roundUp f.bytes 4096) % so
  let x := s.zrxOf z
  let fq := if f.p2Tiles = 0 then x.fq else f.p2Bytes / f.p2Tiles
  let s := ((s.setZrx z { x with cur := none, fq := fq }).wr (ZRX_S_FQ z) (w32 fq)).wr (ZRX_S_OUT_WP z) (w32 wp)
  let s := ((s.wr (ZRX_S_LAST_BYTES z) (w32 f.bytes)).incWrap (ZRX_S_FRAMES z)).setFld (ZRX_S_STATUS z) ZRX_S_STATUS_PHASE 0
  let s := (s.backlogSetId (zrxStream z) (s.zrxUsed z wp)).raise 600 0x0A00 [w32 z, w32 f.start]
  match s.recFor 0 z with
  | none => s
  | some ch =>
    let bytes := s.memRead (s.zrxBase z + f.start) (min f.bytes (so - f.start)) ++ s.memRead (s.zrxBase z) (f.bytes - (so - f.start))
    let s := s.wr (ZRX_S_OUT_RP z) (w32 wp)
    (s.backlogSetId (zrxStream z) (s.zrxUsed z wp)).recZrxFrame ch bytes

/-- Row ZRX_FRAME_DONE: header and index are written after the last tile. -/
def execZrxFrameDone (z : Fin 8) (s : State) : Res :=
  .next (
    match (s.zrxOf z).cur with
    | some f => if s.zrxOn z && f.tile = s.zrxTiles z then s.settle (s.zrxDone z f) else s
    | none => s)

/-! ### CMX (R345, R348 to R351) -/

/-- HI and LO of R348 in bytes; a LO at or above HI acts as HI ÷ 2. -/
def State.cmxLimits (s : State) : Nat × Nat :=
  let hi := lo16n (s.rd CMX_FB) * 1048576
  let lo := (s.rd CMX_FB).toNat / 65536 * 1048576
  (hi, if hi ≤ lo then hi / 2 else lo)
where
  lo16n (w : Word) : Nat := w.toNat % 65536

/-- Row CMX_FALLBACK: the backlog exceeds HI. -/
def execCmxFallback (s : State) : Res :=
  .next (
    if s.cmxLimits.1 < s.cmxBacklog && !s.bit CMX_STATUS CMX_STATUS_FALLBACK then
      (((s.setBit CMX_STATUS CMX_STATUS_FALLBACK true).setFld CMX_STATUS CMX_STATUS_LEVEL_NOW 0).inc CMX_FB_CNT).raise 616 0x0A00
    else s)

/-- Row CMX_RESTORE: the backlog falls below LO. -/
def execCmxRestore (s : State) : Res :=
  .next (
    if s.cmxBacklog < s.cmxLimits.2 && s.bit CMX_STATUS CMX_STATUS_FALLBACK then
      ((s.setBit CMX_STATUS CMX_STATUS_FALLBACK false).setFld CMX_STATUS CMX_STATUS_LEVEL_NOW (s.fld CMX_CFG CMX_CFG_LEVEL)).raise 617 0x0A00
    else s)

/-- Descriptors of a job ring. -/
def State.jobRing (s : State) (j : Nat) : Nat := 2 ^ s.fld (CMX_J_CFG j) CMX_J_CFG_SIZE

/-- A write of CMX_J_TAIL (R349). -/
def State.jobTailWrite (s : State) (j : Nat) (v : Word) : State :=
  let t := v.toNat % 4096
  if s.jobRing j ≤ t then s.setFld (CMX_J_STATUS j) ⟨0, 0⟩ 1 else s.wr (CMX_J_TAIL j) (w32 t)

/-- Row CMX_JOB_SUBMIT. -/
def execCmxJobSubmit (j : Fin 16) (v : Word) (s : State) : Res := .next (s.hostDo (CMX_J_TAIL j) true (·.jobTailWrite j v))

/-- Bytes of GDDR7 outside the device-service area (R88, R90). -/
def State.g7Open (s : State) : Nat := (s.rd G7_TRAINED_CAP).toNat * 1048576 - 1073741824

/-- A span lies in GDDR7 outside the device-service area. -/
def State.g7Span (s : State) (a n : Nat) : Bool := decide (a + n ≤ s.g7Open)

/-- The outcome of a job (R350, R351): status, level used, error offset, output length, and the bytes to write. -/
def State.jobRun (s : State) (d : List Byte) : Nat × Nat × Nat × Nat × List Byte :=
  let op := leAt d 0 1
  let lv := leAt d 1 1
  let fl := leAt d 2 2
  let src := leAt d 8 8
  let len := leAt d 0x10 4
  let cap := leAt d 0x14 4
  let dst := leAt d 0x18 8
  let com := s.fld CMX_CFG CMX_CFG_LEVEL
  let used := if s.bit CMX_STATUS CMX_STATUS_FALLBACK then 0 else if lv = 0xFF then com else min lv com
  let short (out : List Byte) (lu : Nat) : Nat × Nat × Nat × Nat × List Byte :=
    if cap < out.length then (2, lu, 0, cap, (List.range cap).map (Config.freeByte s.freeCtr)) else (1, lu, 0, out.length, out)
  if !(op = 1 || op = 2) || (10 ≤ lv && lv != 0xFF) then (3, 0, 0, 0, [])
  else if !s.g7Span src len || !s.g7Span dst cap then (6, 0, 0, 0, [])
  else
    let x := s.memRead src len
    if op = 1 then short (cmxOut used (fl % 4) x) used
    else
      match Config.unzstd x with
      | (1, _, out) => short out 0
      | (st, eo, out) =>
        let st := if st = 4 || st = 5 || st = 7 then st else 4
        (st, 0, eo % 4294967296, min cap out.length, out.take cap)

/-- The job at the head of a ring completes (R349 to R351). -/
def State.jobDone (s : State) (j : Nat) : State :=
  let i := (s.rd (CMX_J_HEAD j)).toNat
  let a := s.rd64 (CMX_J_BASE_LO j) (CMX_J_BASE_HI j) / 64 * 64 + 64 * i
  let d := s.memRead a 64
  let (st, lu, eo, n, out) := s.jobRun d
  let s := (s.memWrite (leAt d 0x18 8) out).useFree
  let s := s.memWrite (a + 0x21) (leBytes 1 lu ++ leBytes 2 0 ++ leBytes 4 n ++ leBytes 4 eo ++ wordBytes s.ns)
  let s := s.memWrite (a + 0x20) (leBytes 1 st)
  let s := (s.wr (CMX_J_HEAD j) (w32 ((i + 1) % s.jobRing j))).incWrap (CMX_J_DONE j)
  let tag := w32 (leAt d 4 4)
  let s := if bitsOf (leAt d 2 2) 2 2 = 1 then s.raise 618 0x0A00 [tag] else s
  if st = 1 then s else (s.setFld (CMX_J_STATUS j) ⟨1, 1⟩ 1).raiseOnce 619 j 0x0A00 [tag]

/-- Row CMX_JOB_COMPLETE: the oldest job of a ring. -/
def execCmxJobComplete (j : Fin 16) (s : State) : Res :=
  .next (if s.running 0x0A00 && s.bit (CMX_J_CFG j) CMX_J_CFG_EN && s.rd (CMX_J_HEAD j) != s.rd (CMX_J_TAIL j) then s.settle (s.jobDone j) else s)

/-! ### Commit -/

/-- Rate of a CMX level in MB/s (R81). -/
def cmxRate : Nat → Nat
  | 0 => 64000 | 1 => 48000 | 2 => 40000 | 3 => 32000 | 4 => 24000 | 5 => 16000 | 6 => 12000 | 7 => 8000 | 8 => 6000 | 9 => 4000 | _ => 0

/-- The ZRX and CMX block at step 4 (R328, R340, R343, R344, R349, R81, R83). -/
def chkRaw (v : State) : Option Nat :=
  let on := (List.range 8).filter (fun z => v.bit (ZRX_S_CFG z) ZRX_S_CFG_EN)
  let one (z : Nat) : Option Nat :=
    let c := v.rd (ZRX_S_CFG z)
    let h := v.zrxHead z
    let mode := v.zrxMode z
    let decl := ZRX_S_CFG_DECL_RATIO.get c
    let size := (v.rd (ZRX_S_OUT_SIZE z)).toNat % 8192
    if !v.bit (CAT_H_CFG h) CAT_H_CFG_RAW_WR || (v.geom h).w % 128 != 0 || (mode == 2 && ZRX_S_CFG_NEAR.get c == 0) ||
      (mode == 3 && ZRX_S_CFG_NEAR.get c < ZRX_S_CFG_NEAR_MIN.get c) || ((mode == 1 || mode == 2) && (decl < 100 || 1600 < decl)) then some 0x0401
    else if size = 0 || 4096 < size then some 0x0401
    else none
  let rings := (List.range 16).filter (fun j => v.bit (CMX_J_CFG j) CMX_J_CFG_EN)
  let cmxUse := on.filter (fun z => v.zrxMode z != 0)
  let px := (on.map (fun z => let h := v.zrxHead z; v.headRate h * (v.geom h).w * (v.geom h).h)).sum
  let fu := (cmxUse.map (fun z => v.headRate (v.zrxHead z) * v.zrxFu z)).sum
  let jobs := (rings.map (fun j => (v.rd (CMX_J_RATE j)).toNat)).sum
  let level := v.fld CMX_CFG CMX_CFG_LEVEL
  match on.findSome? one with
  | some k => some k
  | none =>
    if 10 ≤ level || rings.any (fun j => let z := v.fld (CMX_J_CFG j) CMX_J_CFG_SIZE; z < 4 || 12 < z) then some 0x0401
    else if 32000000000 * 1000 < px || cmxRate level * 1000000000 < fu + jobs * 1000000000 then some 0x0401
    else if !cmxUse.isEmpty && !v.bit CMX_CFG CMX_CFG_EN then some 0x0401
    else none

/-- The floors of ZRX mode C at step 6 (R328, R340). -/
def zrxFloorsMet (v : State) : Bool :=
  (List.range 8).all (fun z => !v.bit (ZRX_S_CFG z) ZRX_S_CFG_EN || v.zrxMode z != 3 || decide (v.zrxFloor z ≤ (v.rd (ZRX_S_TARGET z)).toNat))

/-- A Rig apply that lists the block. -/
def State.rawApplyConfig (s : State) : State :=
  let s := (List.range 8).foldl (fun s z =>
    if s.bit (ZRX_S_CFG z) ZRX_S_CFG_EN then
      (s.wr (ZRX_S_FLOOR z) (w32 (s.zrxFloor z))).wr (ZRX_S_FQ z) (w32 (s.zrxOf z).fq)
    else s) s
  if s.bit CMX_STATUS CMX_STATUS_FALLBACK then s else s.setFld CMX_STATUS CMX_STATUS_LEVEL_NOW (s.fld CMX_CFG CMX_CFG_LEVEL)

end Sys2Proof.Machine
end

