-- ==== Sys2Proof/Machine/Decode.lean ====
section
/-! DEFINITION. DEC0: sessions, commands, pacing, output, concealment and the ZRX decoder (R383 to R396). What decoding an HEVC or VVC picture gives
comes with the command, since the named standards define it; ZRX frames are decoded here. Rows 153 to 161. -/

namespace Sys2Proof.Machine

/-- A session's record. -/
def State.decOf (s : State) (d : Nat) : DecS := tabGet s.dec {} d
/-- A session's record set. -/
def State.setDec (s : State) (d : Nat) (x : DecS) : State := { s with dec := tabSet s.dec {} d x }
/-- STATE of a session: 0 IDLE, 1 PAUSED, 2 PLAYING, 3 ENDED, 4 STOPPED. -/
def State.decState (s : State) (d : Nat) : Nat := s.fld (DEC_S_STATUS d) DEC_S_STATUS_STATE
/-- STATE changed. -/
def State.setDecState (s : State) (d v : Nat) : State := s.setFld (DEC_S_STATUS d) DEC_S_STATUS_STATE v
/-- A session is in use. -/
def State.decOn (s : State) (d : Nat) : Bool :=
  bitOf (s.rd DEC_C_CFG) 4 && bitOf (s.rd DEC_C_CFG) d && s.bit (DEC_S_CFG d) DEC_S_CFG_EN && s.running 0x0900
/-- SRC of a session: a ring. -/
def State.decRingSrc (s : State) (d : Nat) : Bool := s.bit (DEC_S_CFG d) DEC_S_CFG_SRC

/-! ### ZRX decoding (R339, R394, R395) -/

/-- A residual as a signed quotient (R339). -/
def unmapResidual (m : Nat) : Int := if m % 2 = 0 then (m / 2 : Nat) else -(((m + 1) / 2 : Nat) : Int)

/-- One sample reconstructed from its residual (R336 step 4). -/
def reconSample (bo near : Nat) (p : Int) (m : Nat) : Int :=
  let maxval : Int := 2 ^ bo - 1
  let q2 : Int := 2 * near + 1
  let range : Int := (maxval + 2 * near) / q2 + 1
  let rx := p + unmapResidual m * q2
  let rx := if rx < -(near : Int) then rx + range * q2 else rx
  let rx := if maxval + near < rx then rx - range * q2 else rx
  clampInt 0 maxval rx

/-- One row of a plane decoded. -/
def reconRow (bo near : Nat) (first : Bool) : List Nat → List Int → Option Int → Option Int → List Int
  | [], _, _, _ => []
  | m :: ms, above, a, c =>
    let b := above.head?
    let rx := reconSample bo near (predict bo first a b c) m
    rx :: reconRow bo near first ms above.tail (some rx) b

/-- A plane of 64 columns decoded from its residuals. -/
def reconPlane (bo near : Nat) : Nat → Bool → List Int → List Nat → List (List Nat)
  | 0, _, _, _ => []
  | k + 1, first, above, ms =>
    let r := reconRow bo near first (ms.take 64) above none none
    r.map Int.toNat :: reconPlane bo near k false r (ms.drop 64)

/-- Rows of a plane in a tile of a height (R334). -/
def Geom.planeRows (g : Geom) (h p : Nat) : Nat := (List.range h).countP (fun r => g.plane r 0 / 2 == p / 2)

/-- A tile's photosites from its four planes. -/
def Geom.joinPlanes (g : Geom) (h : Nat) (ps : List (List (List Nat))) : List (List Nat) :=
  (List.range h).map (fun r => (List.range 128).map (fun c =>
    let p := g.plane r c
    let gr := (List.range r).countP (fun i => g.plane i 0 / 2 == p / 2)
    let gc := (List.range c).countP (fun i => g.plane 0 i % 2 == p % 2)
    ((((ps[p]?).getD [])[gr]?).getD [])[gc]?.getD 0))

/-- The photosites of a tile of a ZRX frame; none where it must be concealed (R339, R394). -/
def decodeTile (g : Geom) (bo : Nat) (frame : List Byte) (i : Nat) : Option (List (List Nat)) :=
  let t := frame.drop (leAt frame (256 + 8 * i) 4) |>.take (leAt frame (260 + 8 * i) 4)
  let pay := (t.drop 16).take (leAt t 4 4)
  let h := g.tileH i
  if leAt t 0xC 4 != (crc32c pay).toNat || leAt t 8 4 != i then none
  else match leAt t 0 1 with
    | 0 => some ((List.range h).map (fun r => unpackCodes bo 128 (leNat (sliceAt pay (16 * bo * r) (16 * bo)))))
    | 3 => some (g.joinPlanes h ((List.range 4).map (fun p =>
        let m := leAt pay (2 * p) 2
        List.replicate (g.planeRows h p) (List.replicate 64 (if bo = 20 then min (16 * m) 1048575 else m)))))
    | _ =>
      match Config.unzstd pay with
      | (1, _, s) =>
        let n := 128 * h
        if s.length != ceilDiv bo 8 * n then none
        else
          let ms := (List.range n).map (fun j => ((List.range (ceilDiv bo 8)).map (fun k => ((s[k * n + j]?).getD 0).toNat * 256 ^ k)).sum)
          let cut := (List.range 4).foldl (fun (acc : List (List (List Nat)) × Nat) p =>
            let rows := g.planeRows h p
            (acc.1 ++ [reconPlane bo (leAt t 1 1) rows true [] (ms.drop acc.2)], acc.2 + 64 * rows)) ([], 0)
          some (g.joinPlanes h cut.1)
      | _ => none

/-- Geometry that a ZRX frame header gives (R331). -/
def zrxGeom (f : List Byte) : Geom := ⟨leAt f 0x10 2, leAt f 0x12 2, leAt f 0x14 1, 1, leAt f 0x0F 1 % 4, leAt f 0x0F 1 / 4 % 4, 0⟩

/-- Header and index CRCs of a ZRX frame hold (R331, R394). -/
def zrxFrameOk (f : List Byte) : Bool :=
  256 ≤ f.length && leAt f 0 4 == 0x525A5843 && leAt f 0xFC 4 == (crc32c (f.take 252)).toNat &&
    leAt f 0xF8 4 == (crc32c (sliceAt f 256 (8 * leAt f 0x1C 4))).toNat

/-- The lines of a ZRX frame, with the number of tiles concealed: a bad tile takes the collocated tile of the previous frame, or mid-range (R394). -/
def zrxLines (f : List Byte) (prev : List (List Nat)) : List (List Nat) × Nat :=
  let g := zrxGeom f
  let bo := leAt f 0x15 1
  let tx := g.tiles.1
  let tiles := (List.range (tx * g.tiles.2)).map (fun i =>
    match decodeTile g bo f i with
    | some rows => (rows, false)
    | none =>
      ((List.range (g.tileH i)).map (fun r => (List.range 128).map (fun c =>
        match prev[32 * (i / max 1 tx) + r]? with
        | some l => (l[128 * (i % max 1 tx) + c]?).getD (2 ^ (bo - 1))
        | none => 2 ^ (bo - 1))), true))
  ((List.range g.h).map (fun y => (List.range tx).flatMap (fun x => (((tiles[y / 32 * tx + x]?).map (·.1)).getD [])[y % 32]?.getD [])),
    tiles.countP (·.2))

/-- The raw frame header of R214 with the fields that a ZRX frame header holds (R395; log entry 47). -/
def zrxRawHeader (f : List Byte) : List Byte :=
  let c (o n : Nat) : List Byte := sliceAt f o n
  let a := leBytes 4 0x46525843 ++ leBytes 2 1 ++ c 0x0E 1 ++ c 0x16 1 ++ c 0x10 4 ++ c 0x14 2 ++ leBytes 1 0 ++ c 0x0F 1 ++ leBytes 4 0 ++ c 0x20 4 ++
    c 0x24 2 ++ leBytes 2 (leAt f 0x26 2 % 2) ++ c 0x28 8 ++ leBytes 4 0 ++ leBytes 4 0 ++ c 0x34 4 ++ leBytes 8 0 ++ leBytes 2 0x8000 ++ leBytes 2 0 ++
    c 0x44 4 ++ c 0x48 16 ++ c 0x58 16
  let a := sliceAt a 0 0x7FC
  let map := List.replicate 2048 0
  a ++ wordBytes (crc32c (a ++ map)) ++ map

/-- A ZRX frame as the session writes it with PREVIEW clear: the raw layout of R212 (R395). -/
def zrxRaw (f : List Byte) (lines : List (List Nat)) : Nat × List (Nat × List Byte) :=
  let w := leAt f 0x10 2
  let bo := leAt f 0x15 1
  let st := rawStride w bo
  (4096 + st * lines.length, (0, zrxRawHeader f) :: lines.zipIdx.map (fun l => (4096 + st * l.2, leBytes st (packBits bo l.1))))

/-- The preview of a ZRX frame (R395): size of its planes and their bytes. -/
def State.zrxPreview (s : State) (d : Nat) (f : List Byte) (lines : List (List Nat)) : Nat × List (Nat × List Byte) :=
  let g := zrxGeom f
  let cl := leAt f 0x16 1 == 1
  let val (c : Nat) : Word := if cl then Config.cl20Decode c else (fpDiv (fpInt c) (fpInt ((2 ^ g.b - 1 : Nat) : Int))).1
  let mos : Mosaic := ⟨g.w, g.h, g.cfa, g.phase, lines.zipIdx.map (fun l => { line := l.2, vals := l.1.map val, flags := l.1.map (fun _ => 0) })⟩
  let mat := (List.range 9).map (fun i => s.rd (DEC_S_PV_MAT d i))
  let run : Cnt (List (Nat × List Byte)) := do
    let feed ← (List.range (g.h / 2)).mapM (fun m => do
      let px ← (List.range (g.w / 2)).mapM (fun j => do
        let p ← mos.pixel true false m j
        let v ← matVec 3 mat [p.r, p.g, p.b]
        let o ← v.mapM (encodeOut 4 {})
        pure ((o[0]?).getD 0, (o[1]?).getD 0, (o[2]?).getD 0))
      pure (⟨m, px, []⟩ : FeedLine))
    framePlanes (g.w / 2) (g.h / 2) 1 10 false false feed
  ((lkpPlanes (g.w / 2) (g.h / 2) 1).2.2, (run 0).1)

/-! ### Output (R390, R391) -/

/-- Planes of a decoded picture in the layout of R391: size and bytes. -/
def decPlanes (chroma depth w h : Nat) (ps : List (List (List Nat))) : Nat × List (Nat × List Byte) :=
  let box := if depth = 8 then 1 else 2
  let py := ceilDiv (w * box) 256 * 256
  let code (c : Nat) : List Byte := if depth = 8 then leBytes 1 c else msbCode depth c
  let pl (i : Nat) : List (List Nat) := (ps[i]?).getD []
  let y := roundUp (py * h) 4096
  let rows (o : Nat) (p : List (List Nat)) : List (Nat × List Byte) := p.zipIdx.map (fun r => (o + py * r.2, r.1.flatMap code))
  let pair : List (List Nat) := List.zipWith (fun a b => (List.zip a b).flatMap (fun e => [e.1, e.2])) (pl 1) (pl 2)
  match chroma with
  | 2 => (2 * y + py * h, rows 0 (pl 0) ++ rows y (pl 1) ++ rows (2 * y) (pl 2))
  | _ => (y + py * (if chroma = 0 then h / 2 else h), rows 0 (pl 0) ++ rows y pair)

/-- The ring of a session among those of R213. -/
def decRingNo (d : Nat) : Nat := 20 + d

/-- The trailer of an output buffer (R246, R391); the word at 0x0C is a free value (log entry 48). -/
def decTrailer (d : Nat) (o : DecOut) (free : List Byte) : List Byte :=
  let a := leBytes 4 0x50445843 ++ leBytes 2 1 ++ leBytes 1 d ++ leBytes 1 0xFF ++ leBytes 2 o.w ++ leBytes 2 o.h ++ sliceAt free 0 4 ++ wordBytes o.seq ++
    wordBytes o.group ++ wordBytes o.time ++ leBytes 4 o.flags ++ wordBytes o.poc ++ leBytes 4 o.conceal ++ List.replicate 20 0
  a ++ wordBytes (crc32c a)

/-- A picture is output: written into the next buffer and posted, or dropped where that buffer is held (R391). -/
def State.decPost (s : State) (d : Nat) (o : DecOut) : State :=
  let x := s.decOf d
  let x := { x with shown := some o.pos, count := x.count + 1 }
  let s := s.setDec d x
  let n := max 1 (s.fld (DEC_S_CFG d) DEC_S_CFG_BUFS)
  let b := x.buf % n
  if s.bufHeld (decRingNo d) b then (s.inc (DEC_S_OUT_DROP d)).raise 646 0x0900
  else
    let size := roundUp (o.size + 64) 4096
    let base := s.rd64 (DEC_S_OUT_ADDR_LO d) (DEC_S_OUT_ADDR_HI d) / 4096 * 4096 + b * size
    let s := o.body.foldl (fun s p => s.memWrite (base + p.1) p.2) s
    let o := if s.decRingSrc d then { o with seq := w32 (x.count - 1) } else o
    let s := s.memWrite (base + size - 64) (decTrailer d o ((List.range 4).map (Config.freeByte s.freeCtr)))
    let s := (s.useFree).setDec d { s.decOf d with buf := (b + 1) % n }
    let s := ((s.wr (DEC_S_FRAME d) (w32 o.pos.toNat)).incWrap (DEC_S_PICTURES d)).raise 640 0x0900
    s.postRing (decRingNo d) b { seq := o.seq, number := 0, group := o.group, tStart := o.time, incomplete := o.flags % 2 == 1 }

/-- Nothing of the clip is left to output in the direction of play. -/
def State.decDry (s : State) (d : Nat) : Bool :=
  let x := s.decOf d
  match x.clip with
  | some (i, _) => !s.decRingSrc d && !x.back && x.ready.isEmpty && x.pkgs.isEmpty && x.reading.isNone && decide (i.frames ≤ x.next)
  | none => false

/-- Forward play reaches the last frame (R389), or a STEP has output its picture (R388). -/
def State.decAfter (s : State) (d : Nat) : State :=
  let x := s.decOf d
  let last := match x.clip with
    | some (i, _) => !s.decRingSrc d && !x.back && decide ((i.frames : Int) - 1 ≤ x.shown.getD (-1))
    | none => false
  if s.decState d = 2 && (last || s.decDry d) then ((s.setDec d { x with step := false }).setDecState d 3).raise 650 0x0900
  else s

/-- The reading of clip packages goes on: at most two are read ahead (R386). -/
def State.decFetch (s : State) (d : Nat) : State :=
  let x := s.decOf d
  match x.clip with
  | none => s
  | some (i, m, e) =>
    if s.decRingSrc d || x.reading.isSome || 2 ≤ x.pkgs.length || i.frames ≤ x.next || s.decState d = 4 then s
    else
      let a := i.starts.getD x.next i.stop
      let b := if x.next + 1 < i.starts.length then i.starts.getD (x.next + 1) i.stop else i.stop
      let xs := (tabGet (s.mediaOf m).dir {} e).extents
      let lo := a / 4096 * 4096
      let hi := roundUp b 4096
      let cuts := (List.range (ceilDiv (hi - lo / 1048576 * 1048576) 1048576)).map (fun k =>
        let p := max lo (lo / 1048576 * 1048576 + 1048576 * k)
        (p, min hi (lo / 1048576 * 1048576 + 1048576 * (k + 1))))
      let (s, tags) := cuts.foldl (fun (st : State × List (Nat × Option (List Byte))) c =>
        match stripeOf xs (c.1 / 4194304) with
        | none => st
        | some g =>
          let (p, lba) := st.1.setAddr m g (c.1 % 4194304 / 4096)
          let t := (st.1.nvOf p).next
          (st.1.nvIssue p 2 lba ((c.2 - c.1) / 4096) [] (.read d), st.2 ++ [(t + 65536 * p, none)])) (s, [])
      let nx := if x.back then (if x.next = 0 then i.frames else x.next - 1) else x.next + 1
      s.setDec d { s.decOf d with reading := some ⟨x.next, true, tags, a - lo, b - a⟩, next := nx }

/-- Reading starts anew so that a position is decoded: at the nearest IRAP at or before it, or in reverse at the position itself (R388). -/
def State.decSeekTo (s : State) (d : Nat) (pos : Int) (back : Bool) : State :=
  let x := s.decOf d
  match x.clip with
  | some (i, _) =>
    let p := pos.toNat
    let k := if back then p else (i.keys.filter (· ≤ p)).foldl max 0
    (s.setDec d { x with back := back, next := k, reading := none, pkgs := [], ready := [], skipTo := pos, marks := [], first := none, evs := 0 }).decFetch d
  | none => s

/-- A pacing event (R390): the picture bound to it is posted, or the late one that its successor has not overtaken; else DEC_S_LATE counts. -/
def State.decPace (s : State) (d : Nat) : State :=
  let x := s.decOf d
  if !s.decOn d || !(s.decState d == 2 || (s.decState d == 1 && x.step)) then s
  else
    let first := x.first.getD (match x.shown with | some p => if x.back then p - 1 else p + 1 | none => x.seek)
    let n : Int := x.evs
    let due (o : DecOut) : Bool := if x.back then decide (first - o.pos ≤ n) else decide (o.pos - first ≤ n)
    let cand := x.ready.filter due
    let s := s.setDec d { x with first := some first, evs := x.evs + 1, ready := x.ready.filter (fun o => !due o) }
    let late (s : State) : State := (s.inc (DEC_S_LATE d)).raiseOnce 645 d 0x0900
    match cand.getLast? with
    | none => (late s).decAfter d
    | some o =>
      let s := if cand.length = 1 then s else s.inc (DEC_S_OUT_DROP d) (cand.length - 1)
      ((s.decPost d o).setDec d { (s.decPost d o).decOf d with step := false }).decAfter d

/-- Compositor frame starts pace sessions in MODE 1: every DIV-th one (R390). -/
def State.decCmpStart (s : State) (n : Nat) : State :=
  (List.range 4).foldl (fun s d =>
    let p := s.rd (DEC_S_PACE d)
    if s.decOn d && DEC_S_PACE_MODE.get p == 1 && DEC_S_PACE_CMP.get p == n then
      let k := (s.decOf d).div + 1
      if max 1 (DEC_S_PACE_DIV.get p) ≤ k then (s.setDec d { s.decOf d with div := 0 }).decPace d
      else s.setDec d { s.decOf d with div := k }
    else s) s

/-- Deliveries of a slot pace sessions in MODE 2 (R390). -/
def State.decSlot (s : State) (slot : Nat) : State :=
  (List.range 4).foldl (fun s d =>
    let p := s.rd (DEC_S_PACE d)
    if DEC_S_PACE_MODE.get p == 2 && DEC_S_PACE_SLOT.get p == slot then s.decPace d else s) s

/-- In MODE 0 pictures are output as soon as they are decoded, in display order. -/
def State.decFree (s : State) (d : Nat) : Nat → State
  | 0 => s
  | k + 1 =>
    let x := s.decOf d
    if s.fld (DEC_S_PACE d) DEC_S_PACE_MODE != 0 || !(s.decState d == 2 || (s.decState d == 1 && x.step)) then s
    else
      match x.ready with
      | [] => s.decAfter d
      | o :: os =>
        let next := match x.shown with | some p => if x.back then p - 1 else p + 1 | none => x.seek
        if o.pos = next || (if x.back then o.pos < next else next < o.pos) && (x.pkgs.isEmpty && x.reading.isNone || s.decRingSrc d) then
          let s := (s.setDec d { x with ready := os }).decPost d o
          ((s.setDec d { s.decOf d with step := false }).decAfter d).decFree d k
        else s

/-! ### Pictures (R386, R387, R392 to R394) -/

/-- The elements of a content package: keys and values (R368). -/
def klvParse : Nat → List Byte → List (List Byte × List Byte)
  | 0, _ => []
  | k + 1, b =>
    if b.length < 17 then []
    else
      let l := ((b[16]?).getD 0).toNat
      let n := if 128 ≤ l then l - 128 else 0
      let len := if 128 ≤ l then leNat ((b.drop 17).take n).reverse else l
      (b.take 16, (b.drop (17 + n)).take len) :: klvParse k (b.drop (17 + n + len))

/-- The value of an element: opened with the clip key where there is one; none where its tag fails (R381, R387). -/
def elemValue (key : Option (List Byte)) (frame : Nat) (e : List Byte × List Byte) : Option (List Byte) :=
  match key with
  | some k => gcmOpen k (e.1.drop 12 ++ beBytes 8 frame) e.1 e.2
  | none => some e.2

/-- A picture joins those that await output, in the order of play. -/
def readyInsert (back : Bool) (o : DecOut) : List DecOut → List DecOut
  | [] => [o]
  | p :: ps => if (if back then p.pos < o.pos else o.pos < p.pos) then o :: p :: ps else p :: readyInsert back o ps

/-- A decoded picture awaits its output, unless it lies before the position sought (R388). -/
def State.decReady (s : State) (d : Nat) (o : DecOut) : State :=
  let x := s.decOf d
  let skip := if x.back then decide (x.skipTo < o.pos) else decide (o.pos < x.skipTo)
  let s := if skip then s else s.setDec d { x with ready := readyInsert x.back o x.ready }
  (s.decFetch d).decFree d (x.ready.length + 2)

/-- Syntax errors of a NAL unit (R392). -/
def State.decSyntax (s : State) (d n : Nat) : State := if n = 0 then s else (s.inc (DEC_S_SYNTAX_CNT d) n).raiseOnce 641 d 0x0900

/-- A sample of a picture, mid-grey where there is none (R392). -/
def sampleOf (depth : Nat) (p : List (List (List Nat))) (i y x : Nat) : Nat := ((((p[i]?).getD [])[y]?).getD [])[x]?.getD (2 ^ (depth - 1))

/-- Concealed rectangles take the collocated area of the previous picture (R392). -/
def concealPlanes (chroma depth : Nat) (areas : List (Nat × Nat × Nat × Nat)) (prev cur : List (List (List Nat))) : List (List (List Nat)) :=
  cur.zipIdx.map (fun p => p.1.zipIdx.map (fun r => r.1.zipIdx.map (fun v =>
    let sx := if p.2 = 0 || chroma = 2 then 1 else 2
    let sy := if p.2 = 0 || chroma != 0 then 1 else 2
    let inside := areas.any (fun a => a.1 ≤ sx * v.2 && sx * v.2 < a.1 + a.2.2.1 && a.2.1 ≤ sy * r.2 && sy * r.2 < a.2.1 + a.2.2.2)
    if inside then sampleOf depth prev p.2 r.2 v.2 else v.1)))

/-- An HEVC or VVC picture finishes decoding, with its frame record's GROUP_FRAME, time and source flags. -/
def State.decPicture (s : State) (d : Nat) (c : DecCoded) (group time : Word) (srcFlags : Nat) : State :=
  let s := s.decSyntax d c.syntaxErr
  if c.unsup then (s.inc (DEC_S_UNSUP d)).raise 651 0x0900
  else if c.rasl then s
  else
    let x := s.decOf d
    let (x, s) := if c.irap && x.marking then ({ x with marking := false, marks := [] }, s.raise 644 0x0900) else (x, s)
    let sub := !c.irap && (0 < c.missing || c.refs.any (fun r => x.marks.contains (r, true)))
    let s := (List.range c.missing).foldl (fun s _ => (s.inc (DEC_S_SUBST_CNT d)).raise 643 0x0900 [wOfInt c.poc]) s
    let s := if sub then s.inc (DEC_S_CONCEAL_PIC d) else s
    let s := if c.ctus = 0 then s else s.inc (DEC_S_CONCEAL_CTU d) c.ctus
    let planes := concealPlanes c.chroma c.depth c.areas x.prev c.planes
    let ok := c.ctus == 0 && !sub
    let y := (planes[0]?).getD []
    let w := (y.head?.map List.length).getD 0
    let h := y.length
    let (size, body) := decPlanes c.chroma c.depth w h planes
    let fl := 2 * b2n (decide (0 < c.ctus)) + 4 * b2n sub
    let s := s.setDec d { x with
      prev := planes, good := if ok then planes else x.good, marking := x.marking || sub, marks := (c.poc, sub) :: x.marks.filter (·.1 != c.poc) }
    let depth := if c.depth = 8 then 0 else if c.depth = 10 then 1 else 2
    let s := s.wr (DEC_S_FMT d) (w32 (c.chroma + 4 * depth + 16 * b2n c.full + 256 * (c.matrix % 256)))
    s.decReady d ⟨c.pos, wOfInt c.pos, group, time, fl + b2n (srcFlags % 2 == 1 || fl != 0), wOfInt c.poc, c.ctus, w, h, size, body⟩

/-- A ZRX frame finishes decoding (R394, R395); one whose header or index CRC fails is lost. -/
def State.decZrx (s : State) (d : Nat) (pos : Int) (f : List Byte) : State :=
  if !zrxFrameOk f then s.decFetch d
  else
    let x := s.decOf d
    let (lines, bad) := zrxLines f ((x.prev[0]?).getD [])
    let s := if bad = 0 then s else (s.inc (DEC_S_TILE_BAD d) bad).raiseOnce 647 d 0x0900
    let s := s.setDec d { x with prev := [lines], good := if bad = 0 then [lines] else x.good }
    let pv := s.bit (DEC_S_CFG d) DEC_S_CFG_PREVIEW
    let (size, body) := if pv then s.zrxPreview d f lines else zrxRaw f lines
    let w := leAt f 0x10 2
    let h := leAt f 0x12 2
    let fl := 2 * b2n (decide (0 < bad))
    let s := s.wr (DEC_S_FMT d) (w32 (65536 + (if pv then 1 + 4 + 256 else 0)))
    s.decReady d ⟨pos, wOfInt pos, w32 (leAt f 0x28 4), w32 (leAt f 0x2C 4), fl + b2n (leAt f 0x26 2 % 2 == 1 || fl != 0), 0, bad,
      if pv then w / 2 else w, if pv then h / 2 else h, size, body⟩

/-- The access unit at the read offset of a SRC 1 ring: offset after it, whether it is whole, and T_SRC and flags of its last record (R322, R386). -/
def State.decUnit (s : State) (d : Nat) : Nat → Nat → Bool → Option (Nat × Bool × Word × Nat)
  | 0, _, _ => none
  | k + 1, off, started =>
    let size := (s.rd (DEC_S_IN_SIZE d)).toNat
    let base := s.rd64 (DEC_S_IN_ADDR_LO d) (DEC_S_IN_ADDR_HI d) / 4096 * 4096
    if size = 0 || off = (s.rd (DEC_S_IN_WP d)).toNat then none
    else
      let h := s.memRead (base + off) 32
      let kind := leAt h 4 1
      let next := (off + roundUp (32 + leAt h 8 4) 64) % size
      if kind = 3 then s.decUnit d k next started
      else if started && kind != 1 then some (off, false, 0, 0)
      else if bitsOf (leAt h 0x1C 2) 6 6 = 1 then some (next, true, w32 (leAt h 0x14 4), leAt h 0x1C 2)
      else s.decUnit d k next true

/-- The next access unit or frame of a session finishes decoding. -/
def State.decNext (s : State) (d : Nat) (c : DecCoded) : State :=
  let x := s.decOf d
  match x.clip with
  | none => s
  | some (i, _) =>
    if s.decRingSrc d then
      let rp := (s.rd (DEC_S_IN_RP d)).toNat
      let size := (s.rd (DEC_S_IN_SIZE d)).toNat
      if i.codec = 1 then
        if size = 0 || rp = (s.rd (DEC_S_IN_WP d)).toNat then s
        else
          let base := s.rd64 (DEC_S_IN_ADDR_LO d) (DEC_S_IN_ADDR_HI d) / 4096 * 4096
          let n := leAt (s.memRead (base + rp) 16) 8 4
          let f := s.memRead (base + rp) (min n (size - rp)) ++ s.memRead base (n - (size - rp))
          (s.wr (DEC_S_IN_RP d) (w32 ((rp + roundUp n 4096) % size))).decZrx d c.pos f
      else
        match s.decUnit d (size / 64 + 1) rp false with
        | none => s
        | some (next, whole, t, fl) =>
          let s := s.wr (DEC_S_IN_RP d) (w32 next)
          if whole then s.decPicture d c 0xFFFFFFFF t fl else s
    else
      match x.pkgs with
      | [] => s
      | p :: ps =>
        let s := s.setDec d { x with pkgs := ps }
        let bytes := ((p.parts.flatMap (fun e => e.2.getD [])).drop p.skip).take p.len
        let els := klvParse 64 bytes
        let pic := els.find? (fun e => e.1.take 13 == (pictureKey 1).take 13)
        let dat := (els.find? (fun e => e.1 == dataKey)).bind (elemValue x.key p.idx)
        let val := if p.ok then pic.bind (elemValue x.key p.idx) else none
        match val with
        | none => (s.decFetch d).decFree d (x.ready.length + 1)
        | some v =>
          if i.codec = 1 then s.decZrx d p.idx v
          else
            let r := dat.getD []
            s.decPicture d c (if r.isEmpty then 0xFFFFFFFF else w32 (leAt r 0xC 4)) (w32 (leAt r 8 4)) (leAt r 0x14 2)

/-- Row DEC_PICTURE_DECODED: the next picture of a session finishes decoding. -/
def execDecPictureDecoded (d : Fin 4) (c : DecCoded) (s : State) : Res :=
  .next (if s.decOn d && (s.decOf d).clip.isSome && s.decState d != 4 then s.settle (s.decNext d c) else s)

/-! ### Reads (R386, R387) -/

/-- A part of a package has been read, or failed. -/
def State.decRead (s : State) (d tag : Nat) (ok : Bool) (data : List Byte) : State :=
  let x := s.decOf d
  match x.reading with
  | none => s
  | some p =>
    if !p.parts.any (·.1 == tag) then s
    else
      let p := { p with ok := p.ok && ok, parts := p.parts.map (fun e => if e.1 = tag then (e.1, some data) else e) }
      if p.parts.all (·.2.isSome) then (s.setDec d { x with reading := none, pkgs := x.pkgs ++ [p] }).decFetch d
      else s.setDec d { x with reading := some p }

/-- A session stops: STOP_REASON is set, and its key is zeroised (R32, R387). -/
def State.decStop (s : State) (d code : Nat) : State :=
  let r := s.fld (DEC_S_STATUS d) DEC_S_STATUS_STOP_REASON
  let s := if r = 0 then s.setFld (DEC_S_STATUS d) DEC_S_STATUS_STOP_REASON code else s
  let x := s.decOf d
  (s.setDec d { x with clip := none, key := none, reading := none, pkgs := [], ready := [], cmd := none, step := false }).setDecState d 4
    |>.setFld (DEC_S_CMD d) DEC_S_CMD_BUSY 0

/-- A session returns to IDLE with nothing loaded (R388, R389). -/
def State.decIdle (s : State) (d : Nat) : State :=
  let x := s.decOf d
  (s.setDec d { buf := x.buf, count := x.count }).setDecState d 0

/-- A Read of a session times out: the session stops (R387). -/
def State.decReadTimeout (s : State) (d : Nat) : State := s.decStop d 3

/-! ### Commands (R388) -/

/-- A write of DEC_S_CMD. -/
def State.decCmdWrite (s : State) (d : Nat) (v : Word) : State :=
  let old := s.rd (DEC_S_CMD d)
  let keep := old &&& 0x00000F60
  let keep := if bitOf v 6 then keep &&& 0xFFFFFFBF else keep
  let new := keep ||| (v &&& 0x0000308F)
  let go := bitOf v 4
  if go && bitOf old 5 then s.wr (DEC_S_CMD d) (old ||| 0x40)
  else
    let op := bitsOf v.toNat 3 0
    let s := s.wr (DEC_S_CMD d) new
    if go && s.decOn d && 1 ≤ op && op ≤ 6 then
      let s := s.setDec d { s.decOf d with cmd := some (op, bitOf v 7, (s.rd (DEC_S_CMD_ARG d)).toNat, bitsOf v.toNat 13 12) }
      (s.setFld (DEC_S_CMD d) DEC_S_CMD_FAIL 0).setFld (DEC_S_CMD d) DEC_S_CMD_BUSY 1
    else s

/-- A write of DEC_S_CMD that issues an OP. -/
def State.decGo (s : State) (d op : Nat) (v : Word) : State := s.hostDo (DEC_S_CMD d) true (·.decCmdWrite d (v &&& 0x30C0 ||| 0x10 ||| w32 op))

/-- Row DEC_LOAD. -/
def execDecLoad (d : Fin 4) (v : Word) (s : State) : Res := .next (s.decGo d 1 v)
/-- Row DEC_PLAY. -/
def execDecPlay (d : Fin 4) (v : Word) (s : State) : Res := .next (s.decGo d 2 v)
/-- Row DEC_PAUSE. -/
def execDecPause (d : Fin 4) (v : Word) (s : State) : Res := .next (s.decGo d 3 v)
/-- Row DEC_SEEK. -/
def execDecSeek (d : Fin 4) (v : Word) (s : State) : Res := .next (s.decGo d 4 v)
/-- Row DEC_STEP. -/
def execDecStep (d : Fin 4) (v : Word) (s : State) : Res := .next (s.decGo d 5 v)
/-- Row DEC_STOP. -/
def execDecStop (d : Fin 4) (v : Word) (s : State) : Res := .next (s.decGo d 6 v)

/-- LOAD (R386, R388): its failure code, or the session loaded. -/
def State.decLoad (s : State) (d : Nat) (info : DecInfo) (entry m : Nat) : State × Nat :=
  let st := s.decState d
  let cap := info.codec = 0 || (s.rd (DEC_S_MAX d)).toNat % 65536 < info.w || (s.rd (DEC_S_MAX d)).toNat / 65536 < info.h ||
    (s.rd (DEC_S_MAX_RATE d)).toNat < info.rate || (info.quad && s.bit (DEC_S_CFG d) DEC_S_CFG_PREVIEW)
  let e := tabGet (s.mediaOf m).dir {} entry
  let load (s : State) (key : Option (List Byte)) : State :=
    let x := s.decOf d
    let s := (s.setDec d { clip := some (info, m, entry), key := key, buf := x.buf, count := if s.decRingSrc d then 0 else x.count }).setDecState d 1
    (s.decFetch d)
  if !(st = 0 || st = 1 || st = 3) then (s, 5)
  else if s.decRingSrc d then if cap then (s, 3) else (load s none, 0)
  else if s.setState m != 2 then (s, 1)
  else if !((e.state = 2 || e.state = 3) && e.kind = 0) then (s, 2)
  else if cap then (s, 3)
  else if e.flags % 2 = 0 then (load s none, 0)
  else if s.vault.hold then ((s.wr (DEC_S_REFUSAL d) 0x0305).wr (DEC_S_REFUSAL_TIME d) s.ns, 4)
  else
    match (s.mediaKey e.keyId).bind (fun kek => aesUnwrap kek e.wrapped) with
    | none => (s, 4)
    | some k => (load s (some k), 0)

/-- Reverse play is not possible. -/
def State.decNoBack (s : State) (d : Nat) : Bool := match (s.decOf d).clip with | some (i, _) => i.codec != 1 && !i.intra | none => true

/-- A command runs: the new state and its FAIL code, 0 for done (R388). -/
def State.decRun (s : State) (d op : Nat) (dir : Bool) (arg m : Nat) (info : DecInfo) : State × Nat :=
  let st := s.decState d
  let x := s.decOf d
  let frames := match x.clip with | some (i, _) => i.frames | none => 0
  let nextPos (back : Bool) : Int := match x.shown with | some p => if back then p - 1 else p + 1 | none => x.seek
  let turn (s : State) (back : Bool) : State :=
    if x.back != back then s.decSeekTo d (nextPos back) back else s.setDec d { x with first := none, evs := 0 }
  match op with
  | 1 => s.decLoad d info arg m
  | 2 =>
    if !(st = 1 || st = 3) then (s, 5) else if dir && s.decNoBack d then (s, 7)
    else
      let s := (turn s dir).setDecState d 2
      (s.decFree d 1024, 0)
  | 3 => if st != 2 then (s, 5) else (s.setDecState d 1, 0)
  | 4 =>
    if s.decRingSrc d || !(st = 1 || st = 2) then (s, 5) else if frames ≤ arg then (s, 6)
    else (s.decSeekTo d arg false |> fun s => s.setDec d { s.decOf d with shown := none, seek := arg }, 0)
  | 5 =>
    if s.decRingSrc d || st != 1 then (s, 5) else if dir && s.decNoBack d then (s, 7)
    else if nextPos dir < 0 || (frames : Int) ≤ nextPos dir then (s, 6)
    else
      let s := turn s dir
      ((s.setDec d { s.decOf d with step := true }).decFree d 2, 0)
  | _ => if st = 0 then (s, 5) else ((s.decIdle d).setFld (DEC_S_STATUS d) DEC_S_STATUS_STOP_REASON 0, 0)

/-- Row DEC_CMD_DONE: the command in progress completes or fails; `info` is what a LOAD found. -/
def execDecCmdDone (d : Fin 4) (info : DecInfo) (s : State) : Res :=
  .next (
    match (s.decOf d).cmd with
    | none => s
    | some (op, dir, arg, m) =>
      let (t, fail) := (s.setDec d { s.decOf d with cmd := none }).decRun d op dir arg m info
      let t := (t.setFld (DEC_S_CMD d) DEC_S_CMD_BUSY 0).setFld (DEC_S_CMD d) DEC_S_CMD_FAIL fail
      s.settle (if fail = 0 then t.raise 648 0x0900 else t.raise 649 0x0900))

/-- A write of DEC_S_IN_WP. -/
def State.decInWp (s : State) (d : Nat) (v : Word) : State := s.wr (DEC_S_IN_WP d) (v &&& 0xFFFFFFC0)

/-- Row DEC_IN_WP_WRITE: the producer offers new records. -/
def execDecInWpWrite (d : Fin 4) (v : Word) (s : State) : Res := .next (s.hostDo (DEC_S_IN_WP d) true (·.decInWp d v))

/-! ### Commit (R383, R389) -/

/-- Load of the sessions in units of 1 / (1.6 × 10^10 × 1,990,656,000 × 1,000) of R383. -/
def State.decLoadOf (v : State) (zrx : Nat → Bool) (ck2 : Nat → Nat) : Nat :=
  ((List.range 4).map (fun d =>
    if bitOf (v.rd DEC_C_CFG) d && v.bit (DEC_S_CFG d) DEC_S_CFG_EN then
      let px := ((v.rd (DEC_S_MAX d)).toNat % 65536) * ((v.rd (DEC_S_MAX d)).toNat / 65536) * (v.rd (DEC_S_MAX_RATE d)).toNat
      if zrx d then px * 1990656000 * 2 else px * ck2 d * 16000000000
    else 0)).sum

/-- DEC0 at step 4 (R383, R390): pacing, buffers, and the declared load, counted as 4:2:0 or 4:2:2 HEVC since no register names the codec (log entry 49). -/
def chkDec (v : State) : Option Nat :=
  if !bitOf (v.rd DEC_C_CFG) 4 then none
  else
    let on := (List.range 4).filter (fun d => bitOf (v.rd DEC_C_CFG) d && v.bit (DEC_S_CFG d) DEC_S_CFG_EN)
    if on.any (fun d => v.fld (DEC_S_PACE d) DEC_S_PACE_MODE == 3 || v.fld (DEC_S_CFG d) DEC_S_CFG_BUFS < 2) then some 0x0401
    else if 1990656000 * 16000000000 * 2000 < v.decLoadOf (fun _ => false) (fun _ => 2) then some 0x0401
    else none

/-- A Rig apply that lists DEC0: every session ends and is IDLE (R389); DEC_C_LOAD takes the committed share. -/
def State.decApplyConfig (s : State) : State :=
  let s := (List.range 4).foldl (fun s d => s.decIdle d) s
  s.wr DEC_C_LOAD (w32 (min 1023 (s.decLoadOf (fun _ => false) (fun _ => 2) / (1990656000 * 16000000000 * 2))))

end Sys2Proof.Machine
end

