-- ==== Sys2Proof/Machine/Surface.lean ====
section
/-! DEFINITION. Y/Cb/Cr surfaces in GDDR7 (R245, R253), their samples, chroma upsampling (R254), and the scaling filters of R255 and R256. -/

namespace Sys2Proof.Machine

/-- A Y/Cb/Cr surface: address of its buffer, pitch, width and lines, FMT 0 4:2:0, 1 4:2:2, 2 4:4:4, depth in bits, and PLANAR. -/
structure Surface where
  base : Nat
  pitch : Nat
  w : Nat
  h : Nat
  fmt : Nat
  depth : Nat
  planar : Bool

/-- Bytes of one container. -/
def Surface.box (f : Surface) : Nat := if f.depth = 8 then 1 else 2

/-- The code in the container at an address. -/
def State.codeAt (s : State) (f : Surface) (a : Nat) : Nat :=
  if f.box = 1 then (s.mem a).toNat else leNat (s.memRead a 2) / 2 ^ (16 - f.depth)

/-- The luma code at a pixel. -/
def State.lumaAt (s : State) (f : Surface) (x y : Nat) : Nat := s.codeAt f (f.base + f.pitch * y + f.box * x)

/-- A Cb (`cr` false) or Cr code, by its chroma row and column (R253). -/
def State.chromaAt (s : State) (f : Surface) (cr : Bool) (row col : Nat) : Nat :=
  let y := roundUp (f.pitch * f.h) 4096
  let ch := if f.fmt = 0 then f.h / 2 else f.h
  if !f.planar then s.codeAt f (f.base + y + f.pitch * row + f.box * (2 * col + b2n cr))
  else
    let cp := if f.fmt = 2 then f.pitch else f.pitch / 2
    let plane := if cr then y + roundUp (cp * ch) 4096 else y
    s.codeAt f (f.base + plane + cp * row + f.box * col)

/-- Chroma at a pixel, upsampled on its codes before conversion (R254). -/
def State.chromaUp (s : State) (f : Surface) (cr : Bool) (x y : Nat) : Word :=
  if f.fmt = 2 then fpInt (s.chromaAt f cr y x)
  else
    let v (col : Nat) : Word :=
      if f.fmt = 1 then fpInt (s.chromaAt f cr y col)
      else
        let i := y / 2
        let o := mirror (f.h / 2) (if y % 2 = 0 then (i : Int) - 1 else (i : Int) + 1)
        fpScaled (3 * (s.chromaAt f cr i col : Int) + s.chromaAt f cr o col) (-2)
    let j := x / 2
    if x % 2 = 0 then v j else (fpMul (fpAdd (v j) (v (mirror ((f.w + 1) / 2) ((j : Int) + 1)))).1 0x3F000000).1

/-- Y′ from a luma code (R254). -/
def yNorm (full : Bool) (n : Nat) (y : Word) : Cnt Word := do
  let k : Nat := 2 ^ (n - 8)
  if full then cDiv y (fpInt (2 ^ n - 1 : Nat)) else cDiv (← cSub y (fpInt (16 * k : Nat))) (fpInt (219 * k : Nat))

/-- Cb or Cr from a chroma code (R254). -/
def cNorm (full : Bool) (n : Nat) (c : Word) : Cnt Word := do
  let k : Nat := 2 ^ (n - 8)
  cDiv (← cSub c (fpInt (2 ^ (n - 1) : Nat))) (if full then fpInt (2 ^ n - 1 : Nat) else fpInt (224 * k : Nat))

/-! ### Scaling (R255, R256) -/

/-- Base n and phase φ of a destination position. -/
def scalePos (c cw dw x : Nat) : Int × Nat :=
  let num : Int := 2 * (c : Int) * dw + (2 * (x : Int) + 1) * cw - dw
  let den : Int := 2 * dw
  (num.fdiv den, ((num.fmod den) * 64 / den).toNat)

/-- ⌊p + 0.5⌋ of a destination position. -/
def scaleNear (c cw dw x : Nat) : Int := (2 * (c : Int) * dw + (2 * (x : Int) + 1) * cw).fdiv (2 * dw)

/-- π in units of 2^-128. -/
def piQ : Int := 1069028584064966747859680373161870783300

/-- sin of an angle in units of 2^-128 by its power series, `t` being the running term. -/
def sinQ (x : Int) (t : Int) (k : Nat) : Nat → Int
  | 0 => 0
  | n + 1 => t + sinQ x (-(t * x / 2 ^ 128 * x / 2 ^ 128) / ((2 * k + 2) * (2 * k + 3))) (k + 1) n

/-- sinc(u) = sin(πu) ÷ (πu), for a rational u. -/
def sincRat (u : Rat) : Rat :=
  if u = 0 then 1
  else if u.den = 1 then 0
  else
    let x : Int := (u.num * piQ) / u.den
    if x = 0 then 1 else (sinQ x x 0 48 : Rat) / (x : Rat)

/-- The kernel K(u) of R256; `a` is 4 horizontally and 3 vertically. -/
def kernel (filt a : Nat) (u : Rat) : Rat :=
  let m : Rat := if u < 0 then -u else u
  if filt = 1 then (if m < 1 then 1 - m else 0)
  else if m < (a : Rat) then sincRat u * sincRat (u / (a : Rat)) else 0

/-- The taps of one output position: sample positions and weights (R255, R256). `before` taps stand up to and with the base. -/
def tapWeights (filt a taps before cw dw : Nat) (n : Int) (phi : Nat) : List (Int × Word) :=
  let pos : List Int := (List.range taps).map (fun (i : Nat) => n - before + 1 + i)
  if filt = 2 then pos.map (fun t => (t, if t = (if phi < 32 then n else n + 1) then fpOne else 0))
  else
    let st : Rat := if dw < cw then (cw : Rat) / (dw : Rat) else 1
    let k := pos.map (fun t => kernel filt a ((((64 * (t - n) - phi : Int) : Rat) / 64) / st))
    let sum := k.sum
    (pos.zip k).map (fun e => (e.1, preWord 100 (if sum = 0 then 0 else e.2 / sum)))

/-- A sample position mirrored at the crop edges (R255). -/
def cropAt (c0 cw : Nat) (t : Int) : Nat := c0 + mirror cw (t - c0)

end Sys2Proof.Machine
end

