-- ==== Sys2Proof/Machine/Compose.lean ====
section
/-! DEFINITION. Compositors (R248 to R274): layer commits, frame starts, composition, buoys and write-back. Rows 110 to 114. -/

namespace Sys2Proof.Machine

/-- Output size (R248, R120). -/
def State.cmpSize (s : State) (n : Nat) : Nat × Nat :=
  if s.paddleCmp n then (1920, 1080)
  else (bitsOf (s.rd (CMP_OUT_SIZE n)).toNat 15 0, bitsOf (s.rd (CMP_OUT_SIZE n)).toNat 31 16)

/-- FSYNC of R249. -/
def State.fsync (s : State) (n : Nat) : Bool := !s.paddleCmp n && s.bit (CMP_CFG n) CMP_CFG_FSYNC

/-- The look path of the live feed (R252, R53). -/
def State.livePath (s : State) (n : Nat) : Option Nat :=
  if s.paddleCmp n then some 0
  else ((allTopo s.rig.sections).find? (fun t => t.link == 4 && t.sink == 0x0600 + n && bidType t.source == 0x05)).map (fun t => bidUnit t.source)

/-! ### Layer configurations -/

/-- The shadow of a layer. -/
def State.layerShadow (s : State) (n l : Nat) : LayerCfg :=
  ⟨s.rd (CMP_L_CFG n l), s.rd (CMP_L_CROP_XY n l), s.rd (CMP_L_CROP_WH n l), s.rd (CMP_L_DST_XY n l), s.rd (CMP_L_DST_WH n l), s.rd (CMP_L_ALPHA n l),
    s.rd (CMP_L_SRC_ADDR_LO n l), s.rd (CMP_L_SRC_ADDR_HI n l), s.rd (CMP_L_PITCH n l), s.rd (CMP_L_BUF_SIZE n l), s.rd (CMP_L_RING n l)⟩

/-- Width and height of a layer's source (R251, R252). -/
def State.srcSize (s : State) (n : Nat) (c : LayerCfg) : Nat × Nat :=
  match c.src with
  | 0 => match s.livePath n with | some k => s.drvSize (s.lkpHead k) | none => (0, 0)
  | 1 => s.drvSize (s.lkpHead (CMP_L_CFG_SRC_INST.get c.cfg))
  | 2 => match s.decRing c with | some d => (lo16 (s.rd (DEC_S_MAX d)), hi16 (s.rd (DEC_S_MAX d))) | none => (0, 0)
  | _ => (c.pitchB / c.lineB,
      if c.fmt ≤ 2 then Config.srcLines c.cfg c.pitch c.bufSize else if c.pitchB = 0 then 0 else c.bufSize.toNat / c.pitchB)

/-- Output frame rate of a compositor as a fraction, frames per second (R249, R278). -/
def State.cmpRate (s : State) (n : Nat) : Nat × Nat :=
  if s.fsync n then (match s.livePath n with | some k => (s.headRate (s.lkpHead k), 1000) | none => (0, 1))
  else
    let t := (s.scnOf n).tim
    let div := bitsOf t.div.toNat 15 8
    let tot := hi16 t.hact * hi16 t.vact
    if div = 0 || tot = 0 then (0, 1)
    else (100000000 * (bitsOf t.div.toNat 6 0 * 16777216 + bitsOf t.frac.toNat 23 0), 16777216 * div * tot)

/-- The stripes S of R259 and R260; 1 where the layer is not striped. -/
def State.stripes (s : State) (n l : Nat) (c : LayerCfg) : Nat :=
  let wa := s.fld (CMP_L_ALLOC n l) CMP_L_ALLOC_WA
  if wa < c.cw && 0 < wa then ceilDiv c.cw wa else 1

/-- Iso read demand of a layer in MB/s, rounded up (R262, R78, R79); `live2` says that it is the spill ring of a striped live layer. -/
def State.layerNeed (s : State) (n l : Nat) (c : LayerCfg) : Nat :=
  let (num, den) := s.cmpRate n
  let st := s.stripes n l c
  let row := c.cw + 8 * (st - 1)
  let bytes2 := if c.src = 0 then (if st = 1 then 0 else row * c.ch * 16) else row * c.ch * c.bp2
  ceilDiv (num * bytes2) (den * 2000000)

/-- The RATE of a block's GDDR7 stream, 0 where no record is in force (R105). -/
def State.resRate (s : State) (bid stream : Nat) : Nat :=
  match (List.range 1024).find? (fun i => (s.rd (UMP_S_ID i)).toNat == bid * 65536 + stream && s.fld (UMP_S_CFG i) UMP_S_CFG_TARGET == 1) with
  | some i => (s.rd (UMP_S_RATE i)).toNat
  | none => 0

/-- A rate in units per second exceeds 2 × 10^10 (R250). -/
def overRate (r : Nat × Nat) (px : Nat) : Bool := decide (20000000000 * r.2 < r.1 * px)

/-- The format of a look-path ring equals its LKP_WR_CFG (R253). -/
def State.ringFmtOk (s : State) (c : LayerCfg) : Bool :=
  let k := CMP_L_CFG_SRC_INST.get c.cfg
  let w := s.rd (LKP_WR_CFG k)
  let depth := if LKP_WR_CFG_DEPTH.get w = 1 then 12 else 10
  let (py, _, _) := lkpPlanes (s.drvSize (s.lkpHead k)).1 0 c.fmt
  c.fmt == LKP_WR_CFG_FMT.get w && c.depth == depth && CMP_L_CFG_RANGE.get c.cfg == LKP_WR_CFG_RANGE.get w &&
    CMP_L_CFG_MATRIX.get c.cfg == LKP_WR_CFG_MATRIX.get w && CMP_L_CFG_PLANAR.get c.cfg == b2n (c.fmt == 2) && c.pitchB == py

/-- The head is rigged for eDP self-refresh (R82, R252). -/
def State.psrRigged (s : State) (n : Nat) : Bool :=
  s.bit (SCN_CFG n) SCN_CFG_EN && s.fld (SCN_CFG n) SCN_CFG_PROTO == 5 && s.bit (SCN_PSR n) SCN_PSR_EN

/-- The checks of a layer configuration (R248, R250 to R253, R259 to R261): the code of the first that fails. -/
def State.layerCheck (s : State) (n l : Nat) (c : LayerCfg) : Option Nat :=
  let r := s.cmpRate n
  let (sw, sh) := s.srcSize n c
  let cx := lo16 c.cropXY
  let cy := hi16 c.cropXY
  let wa := s.fld (CMP_L_ALLOC n l) CMP_L_ALLOC_WA
  if s.cmpLayers n ≤ l then some 0x0401
  else if !c.on then none
  else if c.taps = 0 || c.taps = 7 || 6 ≤ c.fmt then some 0x0401
  else if overRate r (c.cw * c.ch) || overRate r (c.dw * c.dh) then some 0x0401
  else if c.cw = 0 || c.ch = 0 || 16 * c.dw < c.cw || 16 * c.dh < c.ch || 8 * c.cw < c.dw || 8 * c.ch < c.dh then some 0x0401
  else if sw < cx + c.cw || sh < cy + c.ch then some 0x0401
  else if c.src != 0 && c.fmt ≤ 1 && (cx % 2 == 1 || c.cw % 2 == 1) then some 0x0401
  else if c.src != 0 && c.fmt = 0 && (cy % 2 == 1 || c.ch % 2 == 1) then some 0x0401
  else if c.src = 0 && (l != 0 || (s.livePath n).isNone || s.psrRigged n) then some 0x0401
  else if c.src = 1 && !s.ringFmtOk c then some 0x0401
  else if s.fld (CMP_L_ALLOC n l) CMP_L_ALLOC_LB_LINES < c.taps then some 0x0102
  else if c.cw ≤ wa then none
  else if !s.bit (CMP_L_ALLOC n l) CMP_L_ALLOC_STRIPE || wa < c.dw then some 0x0102
  else if c.src = 0 && lo16 (s.rd (CMP_SPILL_W n)) < c.cw then some 0x0102
  else none

/-- STRIPES, RATE_NEED and OVER_RES of an accepted configuration (R260, R262). -/
def State.layerFigures (s : State) (n l : Nat) (c : LayerCfg) : State :=
  let need := s.layerNeed n l c
  let rate := s.resRate (0x0600 + n) (if c.src = 0 then 10 else l)
  ((s.wr (CMP_L_RATE_NEED n l) (w32 need)).setBit (CMP_L_STATUS n l) CMP_L_STATUS_OVER_RES (decide (rate < need)))

/-! ### Layer commit (R263 to R265) and posts (R266) -/

/-- A commit of the compositor's block is being held or applied (R265). -/
def State.rigListing (s : State) (bid : Nat) : Bool :=
  let st := s.fld RIG_STATUS RIG_STATUS_STATE
  (st == 3 || st == 4) && s.rig.listed.contains bid

/-- Row LAYER_COMMIT: a write of CMP_L_COMMIT. -/
def State.layerCommitWrite (s : State) (n l : Nat) (v : Word) : State :=
  let s := if bitOf v 1 then s.wr (CMP_L_COMMIT n l) (putBit (s.rd (CMP_L_COMMIT n l)) 1 false) else s
  if !bitOf v 0 then s
  else if s.bit (CMP_L_STATUS n l) CMP_L_STATUS_PENDING then s.setBit (CMP_L_STATUS n l) CMP_L_STATUS_WR_DISCARD true
  else
    let c := s.layerShadow n l
    let code := if s.rigListing (0x0600 + n) then some 0x0503 else s.layerCheck n l c
    match code with
    | some k => ((s.wr (CMP_L_REFUSAL n l) (w32 k)).wr (CMP_L_REFUSAL_TIME n l) s.ns).raise 417 (0x0600 + n) [s.rd (CMP_FRAME n)]
    | none =>
      let s := s.layerFigures n l c
      let s := (s.wr (CMP_L_COMMIT n l) (putBit (s.rd (CMP_L_COMMIT n l)) 0 true)).setBit (CMP_L_STATUS n l) CMP_L_STATUS_PENDING true
      s.psrExit n

/-- Row LAYER_COMMIT. -/
def execLayerCommit (n : Fin 4) (l : Fin 8) (v : Word) (s : State) : Res :=
  .next (s.hostDo (CMP_L_COMMIT n l) true (·.layerCommitWrite n l v))

/-- A write of CMP_L_POST: only a layer with SRC 3 takes it. -/
def State.layerPostWrite (s : State) (n l : Nat) (v : Word) : State :=
  if (s.layerOf n l).act.on && (s.layerOf n l).act.src == 3 then s.layerPosted n l (bitsOf v.toNat 7 0) else s

/-- Row LAYER_POST. -/
def execLayerPost (n : Fin 4) (l : Fin 8) (v : Word) (s : State) : Res := .next (s.hostDo (CMP_L_POST n l) true (·.layerPostWrite n l v))

/-- A layer drops what it holds of its ring. -/
def State.layerRelease (s : State) (n l : Nat) (bufs : List Nat) : State :=
  match s.layerRing (s.layerOf n l).act with
  | some r => bufs.foldl (fun s b => s.releaseBuf r b (layerReader n l)) s
  | none => s

/-- A layer's configuration comes into force; buffers of another source are dropped. -/
def State.layerApply (s : State) (n l : Nat) (c : LayerCfg) : State :=
  let x := s.layerOf n l
  let same := x.act.src == c.src && x.act.base == c.base && CMP_L_CFG_SRC_INST.get x.act.cfg == CMP_L_CFG_SRC_INST.get c.cfg && c.on
  let s := if same then s else s.layerRelease n l (x.posted ++ x.taken.toList)
  let x := if same then x else { x with posted := [], taken := none, took := false }
  (s.setLayer n l { x with act := c, since := 0 }).setFld (CMP_L_STATUS n l) CMP_L_STATUS_STRIPES (s.stripes n l c)

/-- The buoys bound to a layer take their EXPECT registers (R272). -/
def State.buoyExpect (s : State) (n l : Nat) : State :=
  (List.range 16).foldl (fun s b =>
    if s.fld (CMP_B_CFG n b) CMP_B_CFG_BIND == l then
      let c := s.cmpOf n
      s.setCmp n { c with buoys := tabSet c.buoys {} b { tabGet c.buoys {} b with expect := s.rd (CMP_B_EXPECT n b) } }
    else s) s

/-- The latch of a pending layer commit at a compositor frame start (R263). -/
def State.layerLatch (s : State) (n l : Nat) : State :=
  if s.bit (CMP_L_STATUS n l) CMP_L_STATUS_PENDING then
    let s := ((s.layerApply n l (s.layerShadow n l)).buoyExpect n l).setBit (CMP_L_STATUS n l) CMP_L_STATUS_PENDING false
    let s := (s.wr (CMP_L_COMMIT n l) (putBit (s.rd (CMP_L_COMMIT n l)) 0 false)).incWrap (CMP_L_GEN n l)
    (s.raise 416 (0x0600 + n) [w32 n, w32 l, s.rd (CMP_FRAME n)]).psrChange n
  else s

/-- A Rig commit that lists a compositor (R265): its CONFIG is in the active set and the shadow, and pending layer commits are discarded. -/
def State.cmpApplyConfig (s : State) (n : Nat) : State :=
  let s := (List.range 8).foldl (fun s l =>
    let p := s.bit (CMP_L_STATUS n l) CMP_L_STATUS_PENDING
    let s := (s.layerApply n l (s.layerShadow n l)).buoyExpect n l
    let s := if (s.layerShadow n l).on then s.layerFigures n l (s.layerShadow n l) else s
    if p then (s.setBit (CMP_L_STATUS n l) CMP_L_STATUS_PENDING false).wr (CMP_L_COMMIT n l) 2 else s) s
  s.psrChange n

/-! ### Frame start (R263, R266, R267, R270, R271, R273) -/

/-- A layer is late (R267, R268). -/
def State.layerLate (s : State) (n l : Nat) : State :=
  (s.inc (CMP_L_LATE_CNT n l)).raise 418 (0x0600 + n) [w32 n, w32 l, s.rd (CMP_FRAME n)]

/-- A memory layer at a frame start: it takes the newest posted buffer, and may be late. -/
def State.layerTake (s : State) (n l : Nat) : State :=
  let x := s.layerOf n l
  if !x.act.on || x.act.src = 0 then s.setLayer n l { x with prev := none, lateEv := false, underEv := false, gone := false }
  else
    let div := bitsOf x.act.ring.toNat 15 8
    let new := x.posted.getLast?
    let s := match new with
      | some b => (s.layerRelease n l ((x.posted ++ x.taken.toList).filter (· != b))).psrChange n
      | none => s
    let took := x.took || new.isSome
    let expected := div != 0 && x.since % div == 0 && x.since != 0
    let late := expected && !took
    let taken := match new with | some b => some b | none => x.taken
    let gone := taken.isNone || (late && bitOf x.act.cfg 23)
    let y := { x with posted := [], taken := taken, since := x.since + 1, took := if expected then false else took, gone := gone,
                      prev := none, lateEv := false, underEv := false }
    let s := (s.setLayer n l y).setFld (CMP_L_STATUS n l) CMP_L_STATUS_BUF (taken.getD 0)
    if late then (s.layerLate n l).setCmp n { s.cmpOf n with bad := true } else s

/-- The active copy of a buoy at a frame start (R271): an unbound buoy takes its EXPECT too. -/
def State.buoyStart (s : State) (n b : Nat) : State :=
  let c := s.cmpOf n
  let o := tabGet c.buoys {} b
  let cfg := s.rd (CMP_B_CFG n b)
  let ex := if 8 ≤ CMP_B_CFG_BIND.get cfg then s.rd (CMP_B_EXPECT n b) else o.expect
  let (wo, ho) := s.cmpSize n
  let xy := s.rd (CMP_B_XY n b)
  let wh := s.rd (CMP_B_WH n b)
  let fits := lo16 wh != 0 && hi16 wh != 0 && decide (lo16 xy + lo16 wh ≤ wo) && decide (hi16 xy + hi16 wh ≤ ho)
  let s := s.setCmp n { c with buoys := tabSet c.buoys {} b ⟨cfg, xy, wh, ex, s.rd (CMP_B_FS_COLOUR n b), bitOf cfg 0 && fits⟩ }
  if bitOf cfg 0 then s.setBit (CMP_B_STATUS n b) CMP_B_STATUS_RANGE_ERR (!fits) else s

/-- What fail-safe paints in the frame that starts (R273). -/
def State.painting (s : State) (n : Nat) : List Paint :=
  let (wo, ho) := s.cmpSize n
  (List.range 16).filterMap (fun b =>
    let o := tabGet (s.cmpOf n).buoys {} b
    if !s.bit (CMP_B_STATUS n b) CMP_B_STATUS_FS_LATCHED then none
    else match CMP_B_CFG_FS_ACTION.get o.cfg with
      | 1 => some ⟨lo16 o.xy, hi16 o.xy, lo16 o.wh, hi16 o.wh, o.colour⟩
      | 2 => some ⟨0, 0, wo, ho, o.colour⟩
      | _ => none)

/-- Bytes of a write-back buffer: pitch, plane offsets and size (R270). -/
def State.wbPlanes (s : State) (n : Nat) : Nat × List Nat × Nat :=
  let c := s.rd (CMP_WB_CFG n)
  let (wo, ho) := s.cmpSize n
  if CMP_WB_CFG_FMT.get c = 3 then
    let p := ceilDiv (wo * (if CMP_WB_CFG_DEPTH.get c = 2 then 8 else 4)) 256 * 256
    (p, [0], p * ho)
  else lkpPlanes wo ho (CMP_WB_CFG_FMT.get c)

/-- Bytes of a write-back buffer. -/
def State.wbBytes (s : State) (n : Nat) : Nat := roundUp ((s.wbPlanes n).2.2 + 64) 4096

/-- Address of a write-back buffer. -/
def State.wbAddr (s : State) (n i : Nat) : Nat := s.rd64 (CMP_WB_ADDR_LO n) (CMP_WB_ADDR_HI n) / 4096 * 4096 + i * s.wbBytes n

/-- A write-back frame is not written (R270, R213). -/
def State.wbDrop (s : State) (n : Nat) : State := (s.inc (CMP_WB_DROP n)).raise 421 (0x0600 + n) [s.rd (CMP_FRAME n)]

/-- The compositor's frame in progress ends early or unfinished: buoys not yet compared are SKIPPED, and the write-back frame is not written. -/
def State.cmpTruncate (s : State) (n : Nat) : State :=
  let c := s.cmpOf n
  if !c.open_ then s
  else
    let s := (List.range 16).foldl (fun s b => if (tabGet c.buoys {} b).due then s.incFld (CMP_B_STATUS n b) CMP_B_STATUS_SKIPPED else s) s
    let s := if c.wb.isSome then s.wbDrop n else s
    s.setCmp n { s.cmpOf n with open_ := false, wb := none, lines := [] }

/-- A compositor frame start (R249). -/
def State.cmpFrameStart (s : State) (n : Nat) : State :=
  let s := s.cmpTruncate n
  if !s.cmpOn n then s
  else if !s.running (0x0600 + n) then s.skipHeld (0x0600 + n)
  else
    let s := s.incWrap (CMP_FRAME n)
    let s := (List.range 8).foldl (fun s l => s.layerLatch n l) s
    let s := s.setCmp n { s.cmpOf n with bad := false }
    let s := s.decCmpStart n
    let s := (List.range (s.cmpLayers n)).foldl (fun s l => s.layerTake n l) s
    let s := (List.range 16).foldl (fun s b => s.buoyStart n b) s
    let p := s.painting n
    let c := s.cmpOf n
    let want := s.bit (CMP_WB_CFG n) CMP_WB_CFG_EN && !s.firmStopped (0x0600 + n)
    let held := s.bufHeld (16 + n) c.wbNext
    let s := s.setCmp n { c with
      open_ := true, lines := [], paint := p, start := s.ns, chg := c.chg || c.paint != p, wb := if want && !held then some c.wbNext else none }
    if want && held then s.wbDrop n else s

/-! ### Sources (R253, R254) -/

/-- Luma and chroma of a Y/Cb/Cr sample as R′G′B′A (R254). -/
def yccToRgb (full bt2020 : Bool) (n : Nat) (y cb cr : Word) : Rgba := uncounted (do
  let ys ← yNorm full n y
  let b ← cNorm full n cb
  let r ← cNorm full n cr
  let (kr, kb) := lumaK bt2020
  let kr := (fpDiv (fpInt kr) (fpInt 10000)).1
  let kb := (fpDiv (fpInt kb) (fpInt 10000)).1
  let rr ← cAdd ys (← cMul (← cMul (fpInt 2) (← cSub fpOne kr)) r)
  let bb ← cAdd ys (← cMul (← cMul (fpInt 2) (← cSub fpOne kb)) b)
  let gg ← cDiv (← cSub (← cSub ys (← cMul kr rr)) (← cMul kb bb)) (← cSub (← cSub fpOne kr) kb)
  pure ⟨rr, gg, bb, fpOne⟩)

/-- Colour multiplied by A (R254). -/
def Rgba.premul (p : Rgba) : Rgba := ⟨(fpMul p.r p.a).1, (fpMul p.g p.a).1, (fpMul p.b p.a).1, p.a⟩

/-- A component of n bits. -/
def compFp (n v : Nat) : Word := (fpDiv (fpInt v) (fpInt (2 ^ n - 1 : Nat))).1

/-- Lines of a source whose chroma planes follow its Y plane: those of its look path, of its trailer, or of the surface (R253). -/
def State.planeLines (s : State) (n : Nat) (c : LayerCfg) (buf : Nat) : Nat :=
  if c.src = 2 then leNat (s.memRead (c.base + (buf + 1) * c.bufSize.toNat - 64 + 0x0A) 2) else (s.srcSize n c).2

/-- The Y/Cb/Cr surface that a memory layer reads. -/
def State.layerSurface (s : State) (n : Nat) (c : LayerCfg) (buf : Nat) : Surface :=
  ⟨c.base + buf * c.bufSize.toNat, c.pitchB, (s.srcSize n c).1, s.planeLines n c buf, c.fmt, c.depth, CMP_L_CFG_PLANAR.get c.cfg == 1⟩

/-- A pixel of a memory layer's source. -/
def State.memPx (s : State) (n : Nat) (c : LayerCfg) (buf x y : Nat) : Rgba :=
  let a := c.base + buf * c.bufSize.toNat + c.pitchB * y
  let pre (p : Rgba) : Rgba := if bitOf c.cfg 22 then p else p.premul
  match c.fmt with
  | 3 =>
    let v (i : Nat) : Word := compFp 8 (s.mem (a + 4 * x + i)).toNat
    pre ⟨v 0, v 1, v 2, v 3⟩
  | 4 =>
    let w := leNat (s.memRead (a + 4 * x) 4)
    pre ⟨compFp 10 (bitsOf w 9 0), compFp 10 (bitsOf w 19 10), compFp 10 (bitsOf w 29 20), compFp 2 (bitsOf w 31 30)⟩
  | 5 =>
    let v (i : Nat) : Word := compFp 16 (leNat (s.memRead (a + 8 * x + 2 * i) 2))
    pre ⟨v 0, v 1, v 2, v 3⟩
  | _ =>
    let f := s.layerSurface n c buf
    yccToRgb (CMP_L_CFG_RANGE.get c.cfg == 1) (CMP_L_CFG_MATRIX.get c.cfg == 1) c.depth (fpInt (s.lumaAt f x y)) (s.chromaUp f false x y)
      (s.chromaUp f true x y)

/-- The live feed's u16 of a component (R242), read back (R254). -/
def liveComp (v : Word) : Word := compFp 16 (clampInt 0 65535 (fpToInt (fpMul v (fpInt 65535)).1)).toNat

/-- A line of the live feed, if it has arrived. -/
def State.liveLine (s : State) (k line : Nat) : Option (List (Word × Word × Word)) := ((s.lkpOf k).feed.find? (·.line == line)).map (·.rgb)

/-- The lines of a source that a layer needs, as pixel functions; none if a live line is missing (R268). -/
def State.srcLine (s : State) (n : Nat) (x : CmpLayer) (line : Nat) : Option (Nat → Rgba) :=
  if x.act.src = 0 then
    match s.livePath n with
    | none => none
    | some k => (s.liveLine k line).map (fun px (i : Nat) => let e := (px[i]?).getD (0, 0, 0); ⟨liveComp e.1, liveComp e.2.1, liveComp e.2.2, fpOne⟩)
  else some (fun i => s.memPx n x.act (x.taken.getD 0) i line)

/-! ### Scaling (R255, R257) -/

/-- A weighted sum of samples in ascending order. -/
def weigh (l : List (Word × Rgba)) : Rgba :=
  let comp (f : Rgba → Word) : Word := uncounted (do cSum 0 (← l.mapM (fun e => cMul e.1 (f e.2))))
  ⟨comp (·.r), comp (·.g), comp (·.b), comp (·.a)⟩

/-- The vertical taps of an output line of a layer, y counted from DY. -/
def LayerCfg.vTaps (c : LayerCfg) (y : Nat) : List (Int × Word) :=
  let cy := hi16 c.cropXY
  if c.taps = 1 then [(scaleNear cy c.ch c.dh y, fpOne)]
  else
    let (n, phi) := scalePos cy c.ch c.dh y
    tapWeights (CMP_L_CFG_VFILT.get c.cfg) 3 c.taps (ceilDiv c.taps 2) c.ch c.dh n phi

/-- The clamps of R257 after the multiplication by GALPHA. -/
def LayerCfg.finish (c : LayerCfg) (p : Rgba) : Rgba :=
  let g := (fpDiv (fpInt (lo16 c.alpha)) (fpInt 65535)).1
  let m (v : Word) : Word := (fpMul v g).1
  let a := clamp01 (m p.a)
  let k (v : Word) : Word := fpMin (fpMax (m v) 0) a
  ⟨k p.r, k p.g, k p.b, a⟩

/-- One output line of a layer within the output: (output column, sample), or none where a live line is missing. -/
def State.layerLine (s : State) (n l : Nat) (x : CmpLayer) (y wo : Nat) : Option (List (Nat × Rgba)) :=
  let c := x.act
  let dx := sext 16 (lo16 c.dstXY)
  let dy := sext 16 (hi16 c.dstXY)
  let vt := c.vTaps ((y : Int) - dy).toNat
  let cx := lo16 c.cropXY
  let cy := hi16 c.cropXY
  match vt.mapM (fun t => (s.srcLine n x (cropAt cy c.ch t.1)).map (fun f => (t.2, f))) with
  | none => none
  | some rows =>
    let cols := (List.range c.dw).filter (fun (i : Nat) => decide (0 ≤ dx + i) && decide (dx + i < wo))
    some (cols.map (fun i =>
      let (b, phi) := scalePos cx c.cw c.dw i
      let ht := tapWeights (CMP_L_CFG_HFILT.get c.cfg) 4 8 4 c.cw c.dw b phi
      let one := c.taps = 1
      let col (t : Int) : Rgba :=
        let k := cropAt cx c.cw t
        if one then ((rows[0]?).map (fun r => r.2 k)).getD ⟨0, 0, 0, 0⟩ else weigh (rows.map (fun r => (r.1, r.2 k)))
      let row (f : Nat → Rgba) : Rgba := weigh (ht.map (fun t => (t.2, f (cropAt cx c.cw t.1))))
      let p := if s.stripes n l c = 1 then weigh (ht.map (fun t => (t.2, col t.1)))
        else if one then ((rows[0]?).map (fun r => row r.2)).getD ⟨0, 0, 0, 0⟩ else weigh (rows.map (fun r => (r.1, row r.2)))
      ((dx + i).toNat, c.finish p)))

/-! ### Blending (R251, R258) and lines -/

/-- dst ← src + (1 − α) × dst, per colour component. -/
def blend (src dst : Rgba) : Rgba :=
  let k := (fpSub fpOne src.a).1
  let m (a b : Word) : Word := (fpAdd a (fpMul k b).1).1
  ⟨m src.r dst.r, m src.g dst.g, m src.b dst.b, dst.a⟩

/-- A row of samples blended over a line. -/
def blendRow (line : List Rgba) (row : List (Nat × Rgba)) : List Rgba :=
  line.zipIdx.map (fun e => match row.find? (·.1 == e.2) with | some r => blend r.2 e.1 | none => e.1)

/-- A colour of CMP_BG or FS_COLOUR. -/
def colour10 (w : Word) : Rgba := ⟨compFp 10 (bitsOf w.toNat 29 20), compFp 10 (bitsOf w.toNat 19 10), compFp 10 (bitsOf w.toNat 9 0), fpOne⟩

/-- Layers in the order of R251: ascending Z, then ascending index. -/
def State.layerOrder (s : State) (n : Nat) : List Nat :=
  let on := (List.range (s.cmpLayers n)).filter (fun l => (s.layerOf n l).act.on)
  (List.range 8).flatMap (fun z => on.filter (fun l => bitsOf (s.layerOf n l).act.alpha.toNat 18 16 == z))

/-- A layer underruns its line (R262, R268): counted, with event 418 or 419 once for the frame. -/
def State.layerUnder (s : State) (n l : Nat) (live : Bool) : State :=
  let x := s.layerOf n l
  let s := (s.inc (CMP_L_UNDERRUN n l)).setCmp n { s.cmpOf n with bad := true }
  if live then
    if x.lateEv then s
    else (s.setLayer n l { x with lateEv := true }).raise 418 (0x0600 + n) [w32 n, w32 l, s.rd (CMP_FRAME n)]
  else if x.underEv then s
  else (s.setLayer n l { x with underEv := true }).raise 419 (0x0600 + n) [s.rd (CMP_FRAME n)]

/-- One layer over the line being composed; `missed` gives the layers whose data did not arrive, with the pixel from which they add nothing. -/
def State.layerOver (s : State) (n l y : Nat) (missed : List (Nat × Nat)) (line : List Rgba) : State × List Rgba :=
  let x := s.layerOf n l
  let dy := sext 16 (hi16 x.act.dstXY)
  if x.gone || (y : Int) < dy || dy + x.act.dh ≤ y then (s, line)
  else
    match s.layerLine n l x y line.length with
    | none =>
      let s := s.layerUnder n l true
      match (if bitOf x.act.cfg 23 then none else x.prev) with
      | some row => (s, blendRow line row)
      | none => (s, line)
    | some row =>
      if x.act.src = 0 then (s.setLayer n l { x with prev := some row }, blendRow line row)
      else match missed.find? (·.1 == l) with
        | some m => (s.layerUnder n l false, blendRow line (row.filter (fun (e : Nat × Rgba) => decide (e.1 < m.2))))
        | none => (s, blendRow line row)

/-- Six bytes of a pixel for a signature (R271). -/
def sigBytes (p : Rgba) : List Byte :=
  let u (v : Word) : List Byte := leBytes 2 (clampInt 0 65535 (fpToInt (fpMul (clamp01 v) (fpInt 65535)).1)).toNat
  u p.r ++ u p.g ++ u p.b

/-- A buoy is compared once its last line is composed (R272, R273). -/
def State.buoyCompare (s : State) (n b : Nat) : State :=
  let c := s.cmpOf n
  let o := tabGet c.buoys {} b
  let x := lo16 o.xy
  let y := hi16 o.xy
  let w := lo16 o.wh
  let h := hi16 o.wh
  let sig := crc32c (((c.lines.drop y).take h).flatMap (fun l => ((l.drop x).take w).flatMap sigBytes))
  let s := (s.setCmp n { c with buoys := tabSet c.buoys {} b { o with due := false } }).wr (CMP_B_LAST n b) sig
  if bitOf o.cfg 1 then
    let s := s.setCmp n { s.cmpOf n with buoys := tabSet (s.cmpOf n).buoys {} b { o with due := false, expect := sig, cfg := putBit o.cfg 1 false } }
    (s.wr (CMP_B_EXPECT n b) sig).wr (CMP_B_CFG n b) (putBit (s.rd (CMP_B_CFG n b)) 1 false)
  else if sig = o.expect then s.setFld (CMP_B_STATUS n b) CMP_B_STATUS_RUN 0
  else
    let s := (s.inc (CMP_B_MISMATCH_CNT n b)).incFld (CMP_B_STATUS n b) CMP_B_STATUS_RUN
    let s := s.raise 422 (0x0600 + n) [w32 n, w32 b, s.rd (CMP_FRAME n)]
    if max 1 (CMP_B_CFG_LIMIT.get o.cfg) ≤ s.fld (CMP_B_STATUS n b) CMP_B_STATUS_RUN && !s.bit (CMP_B_STATUS n b) CMP_B_STATUS_FS_LATCHED then
      ((s.setBit (CMP_B_STATUS n b) CMP_B_STATUS_FS_LATCHED true).raise 423 (0x0600 + n) [s.rd (CMP_FRAME n)]).psrExit n
    else s

/-- A composed line with the frame's fail-safe painting. -/
def paintLine (ps : List Paint) (y : Nat) (line : List Rgba) : List Rgba :=
  ps.foldl (fun line p =>
    if p.y ≤ y && y < p.y + p.h then line.zipIdx.map (fun e => if p.x ≤ e.2 && e.2 < p.x + p.w then colour10 p.colour else e.1) else line) line

/-- The head of layer 0's source, 0xFF where it has none. -/
def State.layer0Head (s : State) (n : Nat) : Nat :=
  let c := (s.layerOf n 0).act
  if !c.on then 0xFF
  else match c.src with
    | 0 => (match s.livePath n with | some k => s.lkpHead k | none => 0xFF)
    | 1 => s.lkpHead (CMP_L_CFG_SRC_INST.get c.cfg)
    | _ => 0xFF

/-- The trailer of the buffer that layer 0 shows (R246). -/
def State.layer0Trailer (s : State) (n : Nat) : List Byte :=
  let x := s.layerOf n 0
  s.memRead (x.act.base + (x.taken.getD 0 + 1) * x.act.bufSize.toNat - 64) 64

/-- What the write-back trailer tells of layer 0's source: GROUP_FRAME and whether its frame is INCOMPLETE (R270). -/
def State.layer0Info (s : State) (n : Nat) : Word × Bool :=
  let c := (s.layerOf n 0).act
  if !c.on then (0xFFFFFFFF, false)
  else match c.src with
    | 0 =>
      match s.livePath n with
      | none => (0xFFFFFFFF, false)
      | some k =>
        match (tabGet s.spt {} (s.lkpHead k)).frame with
        | some f => (f.info.group, decide (0 < f.info.subst) || decide (0 < f.info.kept))
        | none => (match (s.lkpOf k).written.getLast? with | some w => (w.info.group, w.info.incomplete) | none => (0xFFFFFFFF, false))
    | 1 | 2 => let t := s.layer0Trailer n; (w32 (leAt t 0x14 4), leAt t 0x1C 4 % 2 == 1)
    | _ => (0xFFFFFFFF, false)

/-- RGBA bytes of a pixel in write-back (R253, R270). -/
def rgbaBytes (depth : Nat) (p : Rgba) : List Byte :=
  let q (n : Nat) (v : Word) : Nat := (clampInt 0 ((2 ^ n - 1 : Nat) : Int) (fpToInt (fpMul v (fpInt (2 ^ n - 1 : Nat))).1)).toNat
  match depth with
  | 0 => leBytes 1 (q 8 p.r) ++ leBytes 1 (q 8 p.g) ++ leBytes 1 (q 8 p.b) ++ [255]
  | 1 => leBytes 4 (q 10 p.r + 1024 * q 10 p.g + 1048576 * q 10 p.b + 3221225472)
  | _ => leBytes 2 (q 16 p.r) ++ leBytes 2 (q 16 p.g) ++ leBytes 2 (q 16 p.b) ++ leBytes 2 65535

/-- The composed frame's planes go to its write-back buffer, and its trailer is due. `info` overrides what layer 0's source tells. -/
def State.wbFrame (s : State) (n : Nat) (info : Option FrameInfo) : State :=
  let c := s.cmpOf n
  match c.wb with
  | none => s
  | some b =>
    let w := s.rd (CMP_WB_CFG n)
    let (wo, ho) := s.cmpSize n
    let (py, _, _) := s.wbPlanes n
    let lines := c.lines.zipIdx.map (fun e => paintLine c.paint e.2 e.1)
    let parts : List (Nat × List Byte) :=
      if CMP_WB_CFG_FMT.get w = 3 then lines.zipIdx.map (fun e => (py * e.2, e.1.flatMap (rgbaBytes (CMP_WB_CFG_DEPTH.get w))))
      else uncounted (framePlanes wo ho (CMP_WB_CFG_FMT.get w) (if CMP_WB_CFG_DEPTH.get w = 1 then 12 else 10) (CMP_WB_CFG_RANGE.get w == 1)
        (CMP_WB_CFG_MATRIX.get w == 1) (lines.zipIdx.map (fun e => ⟨e.2, e.1.map (fun p => (p.r, p.g, p.b)), []⟩)))
    let s := parts.foldl (fun s p => s.memWrite (s.wbAddr n b + p.1) p.2) s
    let (g, inc) := match info with | some i => (i.group, i.incomplete) | none => s.layer0Info n
    let i : FrameInfo := { seq := s.rd (CMP_FRAME n), group := g, tStart := c.start, incomplete := c.bad || inc }
    s.setCmp n { c with wb := none, wbNext := (b + 1) % max 1 (CMP_WB_CFG_BUFS.get w), wbDone := c.wbDone ++ [⟨b, i, s.layer0Head n⟩] }

/-- One line of the frame is composed (R257, R258): the painted line, and after the last line the end of the frame. -/
def State.cmpLine (s : State) (n y : Nat) (missed : List (Nat × Nat)) (info : Option FrameInfo := none) : State × List Rgba :=
  let c := s.cmpOf n
  let (wo, ho) := s.cmpSize n
  if !c.open_ || ho ≤ y then (s, List.replicate wo ⟨0, 0, 0, fpOne⟩)
  else
    let bg := List.replicate wo (colour10 (s.rd (CMP_BG n)))
    let (s, line) := (s.layerOrder n).foldl (fun (p : State × List Rgba) l => p.1.layerOver n l y missed p.2) (s, bg)
    let s := s.setCmp n { s.cmpOf n with lines := (s.cmpOf n).lines ++ [line] }
    let s := (List.range 16).foldl (fun s b =>
      let o := tabGet (s.cmpOf n).buoys {} b
      if o.due && hi16 o.xy + hi16 o.wh == y + 1 then s.buoyCompare n b else s) s
    let s := if y + 1 = ho then
        let s := s.wbFrame n info
        s.setCmp n { s.cmpOf n with open_ := false, lines := [] }
      else s
    (s, paintLine c.paint y line)

/-- Every line of a frame, for a compositor that follows its source head (R249). -/
def State.cmpWhole (s : State) (n y : Nat) (info : FrameInfo) : Nat → State
  | 0 => s
  | k + 1 => (s.cmpLine n y [] (some info)).1.cmpWhole n (y + 1) info k

/-- The compositors that follow a head's Frame Start (R249). -/
def State.followers (s : State) (h : Nat) : List Nat :=
  (List.range 4).filter (fun n => s.cmpOn n && s.fsync n && (match s.livePath n with | some k => s.lkpHead k == h && s.lkpOn k | none => false))

/-- A head's Frame Start reaches the compositors that follow it. -/
def State.cmpHeadStart (s : State) (h : Nat) : State := (s.followers h).foldl (fun s n => s.cmpFrameStart n) s

/-- A head's frame is complete: the compositors that follow it compose it. -/
def State.cmpHeadClose (s : State) (h : Nat) (i : FrameInfo) : State :=
  (s.followers h).foldl (fun s n => s.cmpWhole n 0 i (s.cmpSize n).2) s

/-- The trailer of a write-back buffer (R270). -/
def State.wbTrailer (s : State) (n : Nat) (w : WbWrite) : List Byte :=
  let (wo, ho) := s.cmpSize n
  let gen := ((List.range 8).map (fun l => s.rd (CMP_L_GEN n l))).foldl (· + ·) 0
  let a := leBytes 4 0x57435843 ++ leBytes 2 1 ++ leBytes 1 n ++ leBytes 1 w.head ++ leBytes 2 wo ++ leBytes 2 ho ++ wordBytes (s.rd (CMP_WB_CFG n)) ++
    wordBytes w.info.seq ++ wordBytes w.info.group ++ wordBytes w.info.tStart ++ leBytes 4 (b2n w.info.incomplete) ++ wordBytes gen ++
    List.replicate 24 0
  a ++ wordBytes (crc32c a)

/-- Row WB_FRAME_WRITTEN: the trailer is written last, and event 420 posts the buffer (R270). -/
def execWbFrameWritten (n : Fin 4) (s : State) : Res :=
  .next (
    let c := s.cmpOf n
    match c.wbDone with
    | [] => s
    | w :: ws =>
      let s := s.memWrite (s.wbAddr n w.buf + s.wbBytes n - 64) (s.wbTrailer n w)
      let s := (s.setCmp n { c with wbDone := ws }).wr (CMP_WB_LAST n) (w32 w.buf)
      (s.raise 420 (0x0600 + n) [w32 w.buf, s.rd (CMP_FRAME n)]).postRing (16 + n) w.buf w.info)

/-- CMP0 in Paddle mode: layer 0 fits the picture into 1,920 × 1,080, centred on black, with the 6-tap vertical filter (R120). The fitted size is
rounded down (log entry 31). -/
def State.paddleLayer (s : State) : State :=
  let (w, h) := s.drvSize 0
  let (dw, dh) := if w = 0 || h = 0 then (0, 0) else if 1080 * w ≤ 1920 * h then (1080 * w / h, 1080) else (1920, 1920 * h / w)
  let c : LayerCfg := { cfg := 0xE0000000, cropWH := w32 (w + 65536 * h), dstXY := w32 ((1920 - dw) / 2 + 65536 * ((1080 - dh) / 2)),
                        dstWH := w32 (dw + 65536 * dh) }
  s.setLayer 0 0 { s.layerOf 0 0 with act := c }

/-! ### Buoy registers -/

/-- A write of CMP_B_CFG: its RW fields, and LEARN (W1S). -/
def State.buoyCfgWrite (s : State) (n b : Nat) (v : Word) : State :=
  let learn := s.rd (CMP_B_CFG n b) &&& 2
  s.wr (CMP_B_CFG n b) ((v &&& 0xFF003F03) ||| learn)

/-- Row BUOY_LEARN. -/
def execBuoyLearn (n : Fin 4) (b : Fin 16) (v : Word) (s : State) : Res := .next (s.hostDo (CMP_B_CFG n b) true (·.buoyCfgWrite n b v))

/-- A write of CMP_B_STATUS: a 1 to FS_LATCHED ends painting (R273). -/
def State.buoyStatusWrite (s : State) (n b : Nat) (v : Word) : State :=
  if bitOf v 0 then s.setBit (CMP_B_STATUS n b) CMP_B_STATUS_FS_LATCHED false else s

/-- Row BUOY_FS_CLEAR. -/
def execBuoyFsClear (n : Fin 4) (b : Fin 16) (v : Word) (s : State) : Res := .next (s.hostDo (CMP_B_STATUS n b) true (·.buoyStatusWrite n b v))

/-! ### Checks of a commit -/

/-- A compositor at step 4 (R248, R249, R250 to R253, R259 to R261). -/
def chkCmp (v : State) (n : Nat) : Option Nat :=
  if !v.bit (CMP_CFG n) CMP_CFG_EN then none
  else
    let k := v.fld (CMP_CFG n) CMP_CFG_LAYERS
    let (wo, ho) := v.cmpSize n
    if k < 2 || 8 < k || 7680 < wo || 4320 < ho || wo = 0 || ho = 0 then some 0x0401
    else if v.fsync n && !((v.layerShadow n 0).on && (v.layerShadow n 0).src == 0) then some 0x0401
    else (List.range 8).findSome? (fun l => if (v.layerShadow n l).on then v.layerCheck n l (v.layerShadow n l) else none)

end Sys2Proof.Machine
end

