-- ==== Sys2Proof/Machine/Encode.lean ====
section
/-! DEFINITION. HEVC and VVC encoder cores (R296 to R327). Rows 128 to 132. What the coding of a CTU yields, its bits and its payload bytes, comes
with the command, since the spec leaves the encoder's choices open (R314; log entry 35); the caps, phases and records follow R315 to R323. -/

namespace Sys2Proof.Machine

/-! ### Session values -/

/-- The session shadow (R324). -/
def State.encShadow (s : State) (c e : Nat) : EncCfg :=
  ⟨s.rd (ENC_S_CROP_XY c e), bitOf (s.rd (ENC_S_XFORM c e)) 8, s.rd (ENC_S_RC c e), s.rd (ENC_S_QP c e), s.rd (ENC_S_BITRATE c e),
    s.rd (ENC_S_MAXRATE c e), s.rd (ENC_S_CPB c e), s.rd (ENC_S_HARD_CAP c e), s.rd (ENC_S_VUI c e),
    (List.range 64).map (fun i => (s.rd (ENC_S_ROI_XY c e i), s.rd (ENC_S_ROI_WH c e i), s.rd (ENC_S_ROI_CTL c e i)))⟩

/-- RC_MODE. -/
def EncCfg.mode (k : EncCfg) : Nat := ENC_S_RC_RC_MODE.get k.rc

/-- Rate control with an HRD: CBR and capped VBR (R314). -/
def EncCfg.hrd (k : EncCfg) : Bool := k.mode == 1 || k.mode == 2

/-- ROI offsets clamped to −26 to 25, and how many were (R307). -/
def EncCfg.clampRoi (k : EncCfg) : EncCfg × Nat :=
  let off (w : Word) : Int := sext 8 (w.toNat % 256)
  let bad := (k.roi.filter (fun r => decide (off r.2.2 < -26) || decide (25 < off r.2.2))).length
  ({ k with roi := k.roi.map (fun r => (r.1, r.2.1, Fld.put ⟨7, 0⟩ r.2.2 ((clampInt (-26) 25 (off r.2.2)) % 256).toNat)) }, bad)

/-- Coded size We × He (R305). -/
def State.encSize (s : State) (c e : Nat) : Nat × Nat :=
  let v := s.rd (ENC_S_SCALE c e)
  let rot := bitsOf (s.rd (ENC_S_XFORM c e)).toNat 1 0
  if rot = 1 || rot = 3 then (hi16 v, lo16 v) else (lo16 v, hi16 v)

/-- Session frame rate as a fraction. -/
def State.encRate (s : State) (c e : Nat) : Nat × Nat := ((s.rd (ENC_S_TIME_SCALE c e)).toNat, max 1 (s.rd (ENC_S_NUM_UNITS c e)).toNat)

/-- Chroma format 0 4:2:0, 1 4:2:2, 2 4:4:4. -/
def State.encChroma (s : State) (c e : Nat) : Nat := s.fld (ENC_S_CODEC c e) ENC_S_CODEC_CHROMA
/-- Coded depth in bits. -/
def State.encDepth (s : State) (c e : Nat) : Nat := [8, 10, 12, 8].getD (s.fld (ENC_S_CODEC c e) ENC_S_CODEC_DEPTH) 8
/-- CODEC is VVC. -/
def State.encVvc (s : State) (c e : Nat) : Bool := s.bit (ENC_S_CODEC c e) ENC_S_CODEC_CODEC

/-- Sub-frame mode (R321). -/
def State.encSub (s : State) (c e : Nat) : Bool := s.bit (ENC_S_CODEC c e) ENC_S_CODEC_SUBFRAME

/-- CTU columns and rows. -/
def State.encCtus (s : State) (c e : Nat) : Nat × Nat := let (w, h) := s.encSize c e; (ceilDiv w 64, ceilDiv h 64)

/-- SLICE_ROWS (R309). -/
def State.sliceRows (s : State) (c e : Nat) : Nat := bitsOf (s.rd (ENC_S_SEARCH c e)).toNat 15 8

/-- Slices per picture S (R309). -/
def State.encSlices (s : State) (c e : Nat) : Nat :=
  let k := s.sliceRows c e
  if k = 0 then 1 else ceilDiv (s.encCtus c e).2 k

/-- Fdc (R315). -/
def State.encFdc (s : State) (c e : Nat) : Nat := match s.encChroma c e with | 0 => 160 | 1 => 224 | _ => 288

/-- REFRESH, at least 1. -/
def State.encRefresh (s : State) (c e : Nat) : Nat := max 1 (s.fld (ENC_S_GOP c e) ENC_S_GOP_REFRESH)

/-- CTU columns of a refresh column (R308); 0 outside low-delay P. -/
def State.sweepWidth (s : State) (c e : Nat) : Nat := if s.encStruct c e = 1 then ceilDiv (s.encCtus c e).1 (s.encRefresh c e) else 0

/-- Intra floor Fi (R315). -/
def State.encFi (s : State) (c e : Nat) : Nat :=
  let (w, h) := s.encCtus c e
  8192 + s.encSlices c e * 640 + w * h * s.encFdc c e

/-- Inter floor Fp (R315). -/
def State.encFp (s : State) (c e : Nat) : Nat :=
  let (w, h) := s.encCtus c e
  1024 + s.encSlices c e * 640 + w * h * 8 + s.sweepWidth c e * h * (s.encFdc c e - 8)

/-! ### Checks (R299 to R322) -/

/-- Limits of a level: luma samples per picture, CPB and bit rate of the Main and High tiers in kbit, luma samples per second. -/
structure LevelLimit where
  ps : Nat
  cpb : Nat
  cpbHigh : Nat
  sr : Nat
  br : Nat
  brHigh : Nat

/-- Limits of Annex A of ITU-T H.265 by general_level_idc (R299; log entry 36). -/
def hevcLevel : Nat → Option LevelLimit
  | 30 => some ⟨36864, 350, 0, 552960, 128, 0⟩
  | 60 => some ⟨122880, 1500, 0, 3686400, 1500, 0⟩
  | 63 => some ⟨245760, 3000, 0, 7372800, 3000, 0⟩
  | 90 => some ⟨552960, 6000, 0, 16588800, 6000, 0⟩
  | 93 => some ⟨983040, 10000, 0, 33177600, 10000, 0⟩
  | 120 => some ⟨2228224, 12000, 30000, 66846720, 12000, 30000⟩
  | 123 => some ⟨2228224, 20000, 50000, 133693440, 20000, 50000⟩
  | 150 => some ⟨8912896, 25000, 100000, 267386880, 25000, 100000⟩
  | 153 => some ⟨8912896, 40000, 160000, 534773760, 40000, 160000⟩
  | 156 => some ⟨8912896, 60000, 240000, 1069547520, 60000, 240000⟩
  | 180 => some ⟨35651584, 60000, 240000, 1069547520, 60000, 240000⟩
  | 183 => some ⟨35651584, 120000, 480000, 2139095040, 120000, 480000⟩
  | 186 => some ⟨35651584, 240000, 800000, 4278190080, 240000, 800000⟩
  | _ => none

/-- Limits of Annex A of ITU-T H.266 by general_level_idc (R299; log entry 36). -/
def vvcLevel : Nat → Option LevelLimit
  | 16 => some ⟨36864, 350, 0, 552960, 128, 0⟩
  | 32 => some ⟨122880, 1500, 0, 3686400, 1500, 0⟩
  | 35 => some ⟨245760, 3000, 0, 7372800, 3000, 0⟩
  | 48 => some ⟨552960, 6000, 0, 16588800, 6000, 0⟩
  | 51 => some ⟨983040, 10000, 0, 33177600, 10000, 0⟩
  | 64 => some ⟨2228224, 12000, 30000, 66846720, 12000, 30000⟩
  | 67 => some ⟨2228224, 20000, 50000, 133693440, 20000, 50000⟩
  | 80 => some ⟨8912896, 25000, 100000, 267386880, 25000, 100000⟩
  | 83 => some ⟨8912896, 40000, 160000, 534773760, 40000, 160000⟩
  | 86 => some ⟨8912896, 60000, 240000, 1069547520, 60000, 240000⟩
  | 96 => some ⟨35651584, 80000, 320000, 1069547520, 80000, 320000⟩
  | 99 => some ⟨35651584, 120000, 480000, 2139095040, 120000, 480000⟩
  | 102 => some ⟨35651584, 180000, 800000, 4278190080, 180000, 800000⟩
  | _ => none

/-- The factor on bit rate and CPB of a profile, in thousandths (log entry 36). -/
def vclFactor (vvc : Bool) (profile : Nat) : Nat :=
  match vvc, profile with
  | false, 2 => 1667
  | false, 3 => 3000
  | true, 1 => 2500
  | _, _ => 1000

/-- Chroma formats up to and depths up to which a profile goes (R299). -/
def profileMax (vvc : Bool) (profile : Nat) : Option (Nat × Nat) :=
  match vvc, profile with
  | false, 0 => some (0, 8)
  | false, 1 => some (0, 10)
  | false, 2 => some (1, 10)
  | false, 3 => some (2, 12)
  | true, 0 => some (0, 10)
  | true, 1 => some (2, 10)
  | _, _ => none

/-- The profile, format, depth and level of a session (R299). -/
def State.encLevelOk (s : State) (c e : Nat) (k : EncCfg) : Bool :=
  let v := s.rd (ENC_S_CODEC c e)
  let vvc := ENC_S_CODEC_CODEC.get v == 1
  let prof := ENC_S_CODEC_PROFILE.get v
  let high := ENC_S_CODEC_TIER.get v == 1
  let (we, he) := s.encSize c e
  let (fn, fd) := s.encRate c e
  match profileMax vvc prof, (if vvc then vvcLevel (ENC_S_CODEC_LEVEL.get v) else hevcLevel (ENC_S_CODEC_LEVEL.get v)) with
  | some (ch, d), some l =>
    let cpb := (if high then l.cpbHigh else l.cpb) * vclFactor vvc prof / 1000
    let br := (if high then l.brHigh else l.br) * vclFactor vvc prof / 1000
    ENC_S_CODEC_CHROMA.get v ≤ ch && ENC_S_CODEC_DEPTH.get v ≤ 2 && s.encDepth c e ≤ d &&
      we * he ≤ l.ps && we * we ≤ 8 * l.ps && he * he ≤ 8 * l.ps && we * he * fn ≤ l.sr * fd &&
      k.bitrate.toNat ≤ br && k.maxrate.toNat ≤ br && k.cpb.toNat ≤ cpb
  | _, _ => false

/-- Width, height and chroma format (3 RGBA) of a session's source (R302); a DEC0 source has the chroma format of its pictures. -/
def State.srcGeom (s : State) (kind i : Nat) : Nat × Nat × Nat :=
  match kind with
  | 0 => let (w, h) := s.drvSize (s.lkpHead i); (w, h, s.fld (LKP_WR_CFG i) LKP_WR_CFG_FMT)
  | 1 => let (w, h) := s.cmpSize (i % 4); (w, h, s.fld (CMP_WB_CFG (i % 4)) CMP_WB_CFG_FMT)
  | _ => (lo16 (s.rd (DEC_S_MAX (i % 4))), hi16 (s.rd (DEC_S_MAX (i % 4))), 2)

/-- Width, lines and FMT of a session's source. -/
def State.encSource (s : State) (c e : Nat) : Nat × Nat × Nat :=
  let v := (s.rd (ENC_S_SRC c e)).toNat
  s.srcGeom (v % 4) (v / 4 % 8)

/-- Crop, scale and coded size (R302, R305). -/
def State.encGeomOk (s : State) (c e : Nat) (k : EncCfg) : Bool :=
  let (sw, sh, sf) := s.encSource c e
  let cx := lo16 k.cropXY
  let cy := hi16 k.cropXY
  let cw := lo16 (s.rd (ENC_S_CROP_WH c e))
  let ch := hi16 (s.rd (ENC_S_CROP_WH c e))
  let tw := lo16 (s.rd (ENC_S_SCALE c e))
  let th := hi16 (s.rd (ENC_S_SCALE c e))
  let (we, he) := s.encSize c e
  let fmt := s.encChroma c e
  sf != 3 && fmt ≤ sf && 0 < cw && 0 < ch && cx + cw ≤ sw && cy + ch ≤ sh && !(sf ≤ 1 && (cx % 2 == 1 || cw % 2 == 1)) &&
    !(sf == 0 && (cy % 2 == 1 || ch % 2 == 1)) && cw ≤ 8 * tw && ch ≤ 8 * th && tw ≤ 2 * cw && th ≤ 2 * ch &&
    64 ≤ we && we ≤ 8192 && 64 ≤ he && he ≤ 8192 && we * he ≤ 35651584 && !(fmt ≤ 1 && we % 2 == 1) && !(fmt == 0 && he % 2 == 1)

/-- Picture structure and search window (R308, R311). -/
def State.encStructOk (s : State) (c e : Nat) : Bool :=
  let g := s.rd (ENC_S_GOP c e)
  let st := ENC_S_GOP_STRUCT.get g
  let b := ENC_S_GOP_BGOP.get g
  let sx := bitsOf (s.rd (ENC_S_SEARCH c e)).toNat 3 0
  let sy := bitsOf (s.rd (ENC_S_SEARCH c e)).toNat 7 4
  !(st == 1 && ENC_S_GOP_REFRESH.get g < 2) && !(st == 3 && (b == 0 || ENC_S_GOP_INTRA_PERIOD.get g % 2 ^ b != 0)) &&
    1 ≤ sx && sx ≤ 8 && 1 ≤ sy && sy ≤ 8

/-- The highest QP in force (ENC_S_RC.MAX_QP). -/
def State.encMaxQp (s : State) (c e : Nat) (k : EncCfg) : Nat := min (ENC_S_RC_MAX_QP.get k.rc) (if s.encVvc c e then 63 else 51)

/-- The floor checks of R316. -/
def State.encFloorOk (s : State) (c e : Nat) (k : EncCfg) : Bool :=
  let fi := s.encFi c e
  let (fn, fd) := s.encRate c e
  let per := if s.encStruct c e = 0 then fi else s.encFp c e
  fi ≤ 8 * k.hardCap.toNat && (!k.hrd || (per * fn ≤ k.bitrate.toNat * 1000 * fd && 2 * fi ≤ k.cpb.toNat * 1000))

/-- The checks of a session configuration that are refused with 0x0401, in the order of R299 to R322. -/
def State.encLegal (s : State) (c e : Nat) (k : EncCfg) : Bool :=
  s.encLevelOk c e k && s.encGeomOk c e k && s.encStructOk c e &&
    !(s.encMaxQp c e k < ENC_S_RC_MIN_QP.get k.rc || (k.mode == 2 && k.maxrate.toNat < k.bitrate.toNat)) &&
    !(s.encSub c e && (s.sliceRows c e != 1 || !s.bit (ENC_S_CODEC c e) ENC_S_CODEC_PACE || s.encStruct c e == 3)) &&
    !((s.rd (ENC_S_BS_SIZE c e)).toNat % 8192 == 0 || decide (4096 < (s.rd (ENC_S_BS_SIZE c e)).toNat % 8192))

/-- The checks of a session commit: the code of the first that fails. -/
def State.encCheck (s : State) (c e : Nat) (k : EncCfg) : Option Nat :=
  if !s.encLegal c e k then some 0x0401 else if !s.encFloorOk c e k then some 0x0203 else none

/-- Sessions of a core in use. -/
def State.encSessions (s : State) (c : Nat) : List Nat :=
  (List.range 4).filter (fun e => bitOf (s.rd (ENC_C_CFG c)) e && s.bit (ENC_S_CODEC c e) ENC_S_CODEC_EN)

/-- Thousandths of the limit of R81 that a core's sessions take, rounded down, and whether they exceed it (R296). -/
def State.encLoad (s : State) (c : Nat) : Nat × Bool :=
  let sum : Rat := ((s.encSessions c).map (fun e =>
    let (w, h) := s.encSize c e
    let (fn, fd) := s.encRate c e
    let ck : Rat := (if s.encChroma c e = 2 then 3 / 2 else 1) * (if s.encVvc c e then 2 else 1)
    ((w * h * fn : Nat) : Rat) / (fd : Rat) * ck)).sum
  ((sum * 1000 / 1990656000).floor.toNat, decide (1990656000 < sum))

/-- An encoder core at step 4. -/
def chkEnc (v : State) (c : Nat) : Option Nat :=
  if bitOf (v.rd (ENC_C_CFG c)) 4 && ((v.encLoad c).2 || (v.encSessions c).any (fun e => !v.encLegal c e (v.encShadow c e)) ||
      1 < ((v.encSessions c).filter (fun e => v.encSub c e)).length) then some 0x0401
  else none

/-- The floors of a core at step 6 (R316). -/
def encFloorsMet (v : State) (c : Nat) : Bool :=
  !bitOf (v.rd (ENC_C_CFG c)) 4 || (v.encSessions c).all (fun e => v.encFloorOk c e (v.encShadow c e))

/-! ### Session commit (R324, R325) -/

/-- A write of ENC_S_COMMIT. -/
def State.encCommitWrite (s : State) (c e : Nat) (v : Word) : State :=
  let s := if bitOf v 1 then s.wr (ENC_S_COMMIT c e) (putBit (s.rd (ENC_S_COMMIT c e)) 1 false) else s
  if !bitOf v 0 then s
  else if s.bit (ENC_S_STATUS c e) ENC_S_STATUS_PENDING then s.setBit (ENC_S_STATUS c e) ENC_S_STATUS_WR_DISCARD true
  else
    match (if s.rigListing (0x0800 + c) then some 0x0503 else s.encCheck c e (s.encShadow c e)) with
    | some k => ((s.wr (ENC_S_REFUSAL c e) (w32 k)).wr (ENC_S_REFUSAL_TIME c e) s.ns).raise 583 (0x0800 + c)
    | none =>
      let s := s.inc (ENC_S_REPLACED c e) (s.encShadow c e).clampRoi.2
      (s.wr (ENC_S_COMMIT c e) (putBit (s.rd (ENC_S_COMMIT c e)) 0 true)).setBit (ENC_S_STATUS c e) ENC_S_STATUS_PENDING true

/-- Row ENC_SESSION_COMMIT. -/
def execEncSessionCommit (c e : Fin 4) (v : Word) (s : State) : Res := .next (s.hostDo (ENC_S_COMMIT c e) true (·.encCommitWrite c e v))

/-- FLOOR_I and FLOOR_P (R315). -/
def State.encFloors (s : State) (c e : Nat) : State := (s.wr (ENC_S_FLOOR_I c e) (w32 (s.encFi c e))).wr (ENC_S_FLOOR_P c e) (w32 (s.encFp c e))

/-- A pending session commit applies at a picture start (R324). -/
def State.encApply (s : State) (c e : Nat) : State :=
  if !s.bit (ENC_S_STATUS c e) ENC_S_STATUS_PENDING then s
  else
    let x := s.encOf c e
    let k := (s.encShadow c e).clampRoi.1
    let force := k.mode != x.act.mode || k.bitrate != x.act.bitrate || k.maxrate != x.act.maxrate || k.cpb != x.act.cpb
    let s := s.setEnc c e { x with act := k, force := x.force || force, fullness := if k.cpb != x.act.cpb then none else x.fullness }
    let s := (s.setBit (ENC_S_STATUS c e) ENC_S_STATUS_PENDING false).wr (ENC_S_COMMIT c e) (putBit (s.rd (ENC_S_COMMIT c e)) 0 false)
    (s.encFloors c e).raise 582 (0x0800 + c)

/-- A Rig apply that lists a core (R325). -/
def State.encApplyConfig (s : State) (c : Nat) : State :=
  let s := (List.range 4).foldl (fun s e =>
    let x := s.encOf c e
    let p := s.bit (ENC_S_STATUS c e) ENC_S_STATUS_PENDING
    let s := (s.setEnc c e { x with act := (s.encShadow c e).clampRoi.1 }).encFloors c e
    if p then (s.setBit (ENC_S_STATUS c e) ENC_S_STATUS_PENDING false).wr (ENC_S_COMMIT c e) 2 else s) s
  s.wr (ENC_C_LOAD c) (w32 (s.encLoad c).1)

/-! ### Bitstream ring (R322, R323) -/

/-- STREAM_ID of a session (R298). -/
def encStream (c e : Nat) : Nat := (0x0800 + c) * 65536 + e

/-- Ring size in bytes. -/
def State.encRingSize (s : State) (c e : Nat) : Nat := (s.rd (ENC_S_BS_SIZE c e)).toNat % 8192 * 1048576

/-- Ring address. -/
def State.encRingBase (s : State) (c e : Nat) : Nat := s.rd64 (ENC_S_BS_ADDR_LO c e) (ENC_S_BS_ADDR_HI c e) / 4096 * 4096

/-- Bytes in the ring that the consumer has not taken. -/
def State.encBacklog (s : State) (c e : Nat) : Nat :=
  let sb := s.encRingSize c e
  if sb = 0 then 0 else ((s.rd (ENC_S_BS_WP c e)).toNat + sb - (s.rd (ENC_S_BS_RP c e)).toNat % sb) % sb

/-- A session's picture ends or is dropped: the core is free. -/
def State.encFree (s : State) (c e : Nat) : State :=
  let s := s.setEncCore c { s.encCoreOf c with cur := none }
  (s.wr (ENC_C_STATUS c) (s.rd (ENC_C_STATUS c) &&& 0xFFFFFFF8)).setFld (ENC_S_STATUS c e) ENC_S_STATUS_PHASE 0

/-- A session stops with a reason (R32, R33): its picture is dropped, and its buffers are released. -/
def State.encStop (s : State) (c e code : Nat) : State :=
  let r := s.fld (ENC_S_STATUS c e) ENC_S_STATUS_STOP_REASON
  let s := if r = 0 then s.setFld (ENC_S_STATUS c e) ENC_S_STATUS_STOP_REASON code else s
  let x := s.encOf c e
  let mine := match (s.encCoreOf c).cur with | some p => p.session == e | none => false
  let held := x.queue ++ (match (s.encCoreOf c).cur with | some p => if mine then [p.frame] else [] | none => [])
  let s := held.foldl (fun s f => s.releaseBuf f.ring f.buf (encReader c e)) s
  let s := if mine then s.encFree c e else s
  let s := s.setEncCore c { s.encCoreOf c with wait := (s.encCoreOf c).wait.filter (· != e) }
  (s.setEnc c e { x with queue := [], plan := [], gop := [], since := none, closed := false, skipped := false, fullness := none }).encQueued c e

/-- The header of a bitstream record (R322). -/
def encHeader (kind ses row len poc : Nat) (seq tSrc tDone : Word) (flags : Nat) : List Byte :=
  leBytes 4 0x55455843 ++ leBytes 1 kind ++ leBytes 1 ses ++ leBytes 2 row ++ leBytes 4 len ++ leBytes 4 poc ++ wordBytes seq ++ wordBytes tSrc ++
    wordBytes tDone ++ leBytes 2 flags ++ leBytes 2 0

/-- A record is written, and a recording channel that reads the session takes it (R322, R323, R353); a record that would fill the ring is refused, and the session stops with 0x06. Answers whether it was
written. -/
def State.encRecord (s : State) (c e kind row poc flags : Nat) (f : FrameInfo) (payload : List Byte) : State × Bool :=
  let sb := s.encRingSize c e
  let wp := (s.rd (ENC_S_BS_WP c e)).toNat
  let size := roundUp (32 + payload.length) 64
  let pad := if sb < wp + size then sb - wp else 0
  let ses := e + 4 * c
  if sb ≤ s.encBacklog c e + pad + size then
    (((s.streamRefuseId (encStream c e)).encStop c e 6).raise 584 (0x0800 + c), false)
  else
    let s := if pad = 0 then s
      else s.memWrite (s.encRingBase c e + wp) (encHeader 3 ses 0xFFFF (pad - 32) poc f.seq f.tStart s.ns 0 ++ List.replicate (pad - 32) 0)
    let at_ := if pad = 0 then wp else 0
    let bytes := encHeader kind ses row payload.length poc f.seq f.tStart s.ns flags ++ payload
    let s := s.memWrite (s.encRingBase c e + at_) (bytes ++ List.replicate (size - bytes.length) 0)
    let s := s.wr (ENC_S_BS_WP c e) (w32 ((at_ + size) % sb))
    let s := s.backlogSetId (encStream c e) (s.encBacklog c e)
    match s.recFor 1 (4 * c + e) with
    | none => (s, true)
    | some ch =>
      let s := s.wr (ENC_S_BS_RP c e) (w32 ((at_ + size) % sb))
      ((s.backlogSetId (encStream c e) (s.encBacklog c e)).recEncRecord ch kind flags f payload, true)

/-- A write of ENC_S_BS_RP (R323). -/
def State.encRpWrite (s : State) (c e : Nat) (v : Word) : State :=
  let s := s.wr (ENC_S_BS_RP c e) (v &&& 0xFFFFFFC0)
  s.backlogSetId (encStream c e) (s.encBacklog c e)

/-- Row ENC_BS_RP_WRITE. -/
def execEncBsRpWrite (c e : Fin 4) (v : Word) (s : State) : Res := .next (s.hostDo (ENC_S_BS_RP c e) true (·.encRpWrite c e v))

/-! ### Input stage (R304) -/

/-- The surface of a buffer of a ring, with its range (R302): `i` is the number of the ring's writer, and width, lines and FMT are those of its source. -/
def State.ringSurface (s : State) (ring i buf w h fmt : Nat) : Surface × Bool :=
  if ring < 16 then
    let cfg := s.rd (LKP_WR_CFG i)
    (⟨s.lkpBufAddr i buf, (lkpPlanes w h fmt).1, w, h, fmt, if LKP_WR_CFG_DEPTH.get cfg = 1 then 12 else 10, fmt == 2⟩, LKP_WR_CFG_RANGE.get cfg == 1)
  else if ring < 20 then
    let cfg := s.rd (CMP_WB_CFG (i % 4))
    (⟨s.wbAddr (i % 4) buf, (lkpPlanes w h fmt).1, w, h, fmt, if CMP_WB_CFG_DEPTH.get cfg = 1 then 12 else 10, fmt == 2⟩,
      CMP_WB_CFG_RANGE.get cfg == 1)
  else
    let d := i % 4
    let k := (s.rd (DEC_S_FMT d)).toNat
    let fm := k % 4
    let depth := [8, 10, 12, 8].getD (k / 4 % 4) 8
    let one := if depth = 8 then 1 else 2
    let (py, _, bytes) := lkpPlanes (if one = 1 then ceilDiv w 2 else w) h fm
    (⟨s.rd64 (DEC_S_OUT_ADDR_LO d) (DEC_S_OUT_ADDR_HI d) / 4096 * 4096 + buf * roundUp (bytes + 64) 4096, py, w, h, fm, depth, fm == 2⟩,
      k / 16 % 2 == 1)

/-- The surface of a taken frame, with its range. -/
def State.encSurface (s : State) (c e : Nat) (f : EncFrame) : Surface × Bool :=
  let (w, h, fmt) := s.encSource c e
  s.ringSurface f.ring ((s.rd (ENC_S_SRC c e)).toNat / 4 % 8) f.buf w h fmt

/-- A plane turned clockwise by ROT × 90°. -/
def rotPlane (rot : Nat) (rows : List (List Word)) : List (List Word) :=
  let h := rows.length
  let w := (rows.headD []).length
  let at_ (y x : Nat) : Word := (((rows[y]?).getD [])[x]?).getD 0
  match rot with
  | 1 => (List.range w).map (fun y => (List.range h).map (fun x => at_ (h - 1 - x) y))
  | 2 => (List.range h).map (fun y => (List.range w).map (fun x => at_ (h - 1 - y) (w - 1 - x)))
  | 3 => (List.range w).map (fun y => (List.range h).map (fun x => at_ x (w - 1 - y)))
  | _ => rows

/-- One component scaled from a crop to SW × SH: vertically, then horizontally (R255, R256). -/
def scalePlane (cx cy cw ch tw th : Nat) (f : Nat → Nat → Word) : List (List Word) :=
  let sum (l : List (Word × Word)) : Word := uncounted (do cSum 0 (← l.mapM (fun e => cMul e.1 e.2)))
  (List.range th).map (fun y =>
    let (ny, py) := scalePos cy ch th y
    let vt := tapWeights 0 3 6 3 ch th ny py
    (List.range tw).map (fun x =>
      let (nx, px) := scalePos cx cw tw x
      let ht := tapWeights 0 4 8 4 cw tw nx px
      sum (ht.map (fun t => (t.2, sum (vt.map (fun u => (u.2, f (cropAt cx cw t.1) (cropAt cy ch u.1)))))))))

/-- Chroma subsampled to a coded format with the filters of R245. -/
def subChroma (fmt : Nat) (rows : List (List Word)) : List (List Word) :=
  if fmt = 2 then rows
  else
    let half := rows.map (fun r => uncounted (chromaH r))
    if fmt = 1 then half
    else (List.range (half.length / 2)).map (fun i =>
      uncounted (zipVec (fun a b => do cDiv (← cAdd a b) (fpInt 2)) ((half[2 * i]?).getD []) ((half[2 * i + 1]?).getD [])))

/-- The coded picture's luma, Cb and Cr codes before the extension to multiples of 8 (R304). -/
def State.encInput (s : State) (c e : Nat) (k : EncCfg) (f : EncFrame) : List (List (List Nat)) :=
  let (sf, full) := s.encSurface c e f
  let cx := lo16 k.cropXY
  let cy := hi16 k.cropXY
  let cw := lo16 (s.rd (ENC_S_CROP_WH c e))
  let ch := hi16 (s.rd (ENC_S_CROP_WH c e))
  let tw := lo16 (s.rd (ENC_S_SCALE c e))
  let th := hi16 (s.rd (ENC_S_SCALE c e))
  let rot := bitsOf (s.rd (ENC_S_XFORM c e)).toNat 1 0
  let fmt := s.encChroma c e
  let depth := s.encDepth c e
  let cfull := bitOf k.vui 24
  if cw = tw && ch = th && rot = 0 && fmt = sf.fmt && depth = sf.depth && cfull = full then
    let hs := if fmt = 2 then 1 else 2
    let vs := if fmt = 0 then 2 else 1
    let plane (cr : Bool) : List (List Nat) := (List.range (ch / vs)).map (fun y => (List.range (cw / hs)).map (fun x =>
      s.chromaAt sf cr (cy / vs + y) (cx / hs + x)))
    [(List.range ch).map (fun y => (List.range cw).map (fun x => s.lumaAt sf (cx + x) (cy + y))), plane false, plane true]
  else
    let y := scalePlane cx cy cw ch tw th (fun x y => uncounted (yNorm full sf.depth (fpInt (s.lumaAt sf x y))))
    let cp (cr : Bool) := scalePlane cx cy cw ch tw th (fun x y => uncounted (cNorm full sf.depth (s.chromaUp sf cr x y)))
    let q (rows : List (List Word)) : List (List Nat) := (subChroma fmt (rotPlane rot rows)).map (·.map (fun v => uncounted (quantC cfull depth v)))
    [(rotPlane rot y).map (·.map (fun v => uncounted (quantY cfull depth v))), q (cp false), q (cp true)]

/-- Rows and columns repeated up to multiples of 8 (R305). -/
def extend8 (rows : List (List Nat)) : List (List Nat) :=
  let wide := rows.map (fun r => r ++ List.replicate (roundUp r.length 8 - r.length) (r.getLastD 0))
  wide ++ List.replicate (roundUp rows.length 8 - rows.length) (wide.getLastD [])

/-! ### Picture start (R296, R308, R317, R320) -/

/-- What kind of picture a session codes next (R308): type, IRAP. -/
def State.encKind (s : State) (c e : Nat) (plan : Option EncPlan) : Nat × Bool :=
  let x := s.encOf c e
  let per := s.fld (ENC_S_GOP c e) ENC_S_GOP_INTRA_PERIOD
  match s.encStruct c e with
  | 0 => (0, true)
  | 1 => if x.since.isNone || x.force then (0, true) else (1, false)
  | 2 => if x.since.isNone || x.force || (per != 0 && decide (per ≤ x.since.getD 0)) then (0, true) else (1, false)
  | _ => match plan with
    | some p => if x.force then (0, true) else (p.typ, p.irap)
    | none => (0, true)

/-- CPB fullness in bits at a picture's nominal removal (R317): the bits left after the last one, filled at the rate for the frames since. -/
def State.encFullness (s : State) (c e gap : Nat) : Nat :=
  let x := s.encOf c e
  let size := x.act.cpb.toNat * 1000
  let rate := (if x.act.mode = 1 then x.act.bitrate else x.act.maxrate).toNat * 1000
  let (fn, fd) := s.encRate c e
  match x.fullness with
  | none => clampNat (min size (s.encFi c e)) size (Config.cpbInit x.act.cpb.toNat)
  | some f => if fn = 0 then f else min size (f + rate * max 1 gap * fd / fn)

/-- Fq in force for a picture (R318). -/
def State.encFq (s : State) (c e fc : Nat) : Nat := ((s.encOf c e).fq).getD (2 * fc)

/-- A picture starts coding on a free core: `extra` are the bits of its picture overhead and `pre` its delimiter, parameter sets and SEI. -/
def State.encStart (s : State) (c e extra : Nat) (pre : List Byte) : State :=
  let s := s.encApply c e
  let x := s.encOf c e
  let plan := x.plan.head?
  let hier := s.encStruct c e == 3
  match (if hier then (match plan with | some p => x.queue.find? (·.idx == p.idx) | none => none) else x.queue.head?) with
  | none => s
  | some f =>
    let (typ, irap) := s.encKind c e plan
    let idr := irap && (s.encStruct c e == 1 || s.fld (ENC_S_GOP c e) ENC_S_GOP_IRAP_TYPE == 0)
    let base := if idr then f.idx else x.idrIdx
    let full := s.encFullness c e f.gap
    let cap8 := 8 * x.act.hardCap.toNat
    let cap := if x.act.hrd then min cap8 full else cap8
    let poc := f.idx - base
    let fc := if typ = 0 then s.encFdc c e else 8
    let p : EncPic := {
      session := e, frame := f, typ := typ, irap := irap, poc := poc, cap := cap, bits := min extra (if irap then 8192 else 1024),
      slices := s.encSlices c e, phase := if x.closed then 3 else 1, lateRow := if x.closed then some 0 else none,
      flags := b2n f.info.incomplete + 16 * b2n irap + 32 * b2n f.skipped + 256 * typ + 4 * b2n x.closed,
      payload := if s.encSub c e then [] else pre, source := (s.encInput c e x.act f).map extend8 }
    let s := s.setEnc c e { x with
      queue := x.queue.filter (·.idx != f.idx), plan := x.plan.drop (b2n hier), force := false, idrIdx := base, closed := false,
      since := if hier then x.since else if irap then some 1 else x.since.map (· + 1), sweep := if irap then 0 else x.sweep,
      fullness := if x.act.hrd then some full else none }
    let s := (s.setEncCore c { s.encCoreOf c with cur := some p }).encQueued c e
    let s := (s.wr (ENC_C_STATUS c) ((s.rd (ENC_C_STATUS c) &&& 0xFFFFFFF8) ||| w32 (4 + e))).setFld (ENC_S_STATUS c e) ENC_S_STATUS_PHASE p.phase
    let s := s.wr (ENC_S_FQ c e) (w32 (s.encFq c e fc))
    let s := if x.closed then (s.inc (ENC_S_FLOOR_CNT c e)).raise 579 (0x0800 + c) [w32 e, w32 poc, 0] else s
    if s.encSub c e then (s.encRecord c e 0 0xFFFF poc p.flags f.info pre).1 else s

/-- Row ENC_PICTURE_START: the next picture waiting for the core starts coding. -/
def execEncPictureStart (c : Fin 4) (extra : Nat) (pre : List Byte) (s : State) : Res :=
  .next (
    let k := s.encCoreOf c
    match k.cur, k.wait with
    | none, e :: ws =>
      if s.encOn c e then s.settle ((s.setEncCore c { k with wait := ws }).encStart c e extra pre)
      else s.setEncCore c { k with wait := ws }
    | _, _ => s)

/-! ### Coding a CTU row (R307, R318) -/

/-- QP of the quantisation groups of a CTU (R307): the QP of its phase, with the offset of the highest rectangle over the group's centre. -/
def State.ctuQps (s : State) (c e : Nat) (k : EncCfg) (phase qp col row : Nat) : List Nat :=
  let mx := s.encMaxQp c e k
  (List.range 16).map (fun g =>
    if phase ≠ 1 then mx
    else
      let x := 64 * col + 16 * (g % 4) + 8
      let y := 64 * row + 16 * (g / 4) + 8
      let extra := k.roi.filter (fun r => bitOf r.2.2 31 && lo16 r.1 ≤ x && x < lo16 r.1 + lo16 r.2.1 && hi16 r.1 ≤ y && y < hi16 r.1 + hi16 r.2.1)
      let off : Int := if k.roiEn then (match extra.getLast? with | some r => sext 8 (r.2.2.toNat % 256) | none => 0) else 0
      (max ((ENC_S_RC_MIN_QP.get k.rc : Nat) : Int) (min ((mx : Nat) : Int) ((qp : Int) + off))).toNat)

/-- A picture with a phase entered (R318): the event is told to the caller. -/
structure CtuRun where
  pic : EncPic
  entered : List Nat := []

/-- A later phase is entered; phases never return (R318). -/
def CtuRun.enter (r : CtuRun) (ph : Nat) : CtuRun :=
  if r.pic.phase < ph then
    { pic := { r.pic with phase := ph, flags := r.pic.flags ||| (if ph = 2 then 2 else 4) }, entered := r.entered ++ [ph] }
  else r

/-- One CTU (R318): `fc` is its floor, and `rest` the reserve of the CTUs and slices from it on. -/
def CtuRun.ctu (r : CtuRun) (fc rest : Nat) (k : CtuCand) : CtuRun :=
  let a : Int := (r.pic.cap : Int) - r.pic.bits - rest
  let keep (b : Nat) : Bool := decide ((b : Int) ≤ a + fc)
  let r := if r.pic.phase = 1 && !keep k.normal then r.enter 2 else r
  let r := if r.pic.phase = 2 && !keep k.maxQp then r.enter 3 else r
  match r.pic.phase with
  | 1 => { r with pic := { r.pic with bits := r.pic.bits + k.normal } }
  | 2 => { r with pic := { r.pic with bits := r.pic.bits + k.maxQp, p2Bits := r.pic.p2Bits + k.maxQp, p2Ctus := r.pic.p2Ctus + 1 } }
  | _ => { r with pic := { r.pic with bits := r.pic.bits + min k.floor fc } }

/-- The reserve from a CTU on (R318): the floors of the CTUs not yet written, itself included, and of the slices not yet started. -/
def State.encReserve (s : State) (c e : Nat) (p : EncPic) (row col : Nat) : Nat :=
  let (w, h) := s.encCtus c e
  let fdc := s.encFdc c e
  let m := (h - row) * w - col
  if p.typ = 0 then m * fdc + p.slices * 640
  else
    let sw := s.sweepWidth c e
    let lo := (s.encOf c e).sweep * sw
    let hi := min w (lo + sw)
    let left := (h - row - 1) * (hi - lo) + (hi - max col lo)
    m * 8 + left * (fdc - 8) + p.slices * 640

/-- The floor of the CTU in a column. -/
def State.ctuFloor (s : State) (c e : Nat) (p : EncPic) (col : Nat) : Nat :=
  let sw := s.sweepWidth c e
  let lo := (s.encOf c e).sweep * sw
  if p.typ = 0 || (lo ≤ col && col < lo + sw) then s.encFdc c e else 8

/-- A CTU row is coded: `hdr` are the bits of its slice header, if a slice starts with it, `cands` what the coding of its CTUs offers, and `data` its
payload. -/
def State.encRow (s : State) (c : Nat) (p : EncPic) (hdr : Nat) (cands : List CtuCand) (data : List Byte) : State :=
  let e := p.session
  let (w, h) := s.encCtus c e
  let k := (s.encOf c e).act
  let fq := (s.rd (ENC_S_FQ c e)).toNat
  let row := p.row
  let a : Int := (p.cap : Int) - p.bits - s.encReserve c e p row 0
  let r : CtuRun := { pic := p }
  let r := if p.phase = 1 && a < ((h - row) * w * fq : Nat) then r.enter 2 else r
  let sr := s.sliceRows c e
  let starts := if sr = 0 then row == 0 else row % sr == 0
  let r := if starts then { r with pic := { r.pic with slices := r.pic.slices - 1, bits := r.pic.bits + min hdr 640 } } else r
  let r := (List.range w).foldl (fun r col =>
    r.ctu (s.ctuFloor c e p col) (s.encReserve c e r.pic row col) ((cands[col]?).getD ⟨0, 0, 0, 0⟩)) r
  let qps := (List.range w).flatMap (fun col => s.ctuQps c e k r.pic.phase ((cands[col]?).getD ⟨0, 0, 0, 0⟩).qp col row)
  let last := row + 1 == h
  let q := { r.pic with row := row + 1, groupQp := qps, payload := if s.encSub c e then [] else r.pic.payload ++ data }
  let s := (s.setEncCore c { s.encCoreOf c with cur := some q }).setFld (ENC_S_STATUS c e) ENC_S_STATUS_PHASE q.phase
  let s := r.entered.foldl (fun s ph =>
    (s.inc (if ph = 2 then ENC_S_MAXQP_CNT c e else ENC_S_FLOOR_CNT c e)).raise (if ph = 2 then 578 else 579) (0x0800 + c) [w32 e, w32 p.poc, w32 row]) s
  if s.encSub c e then
    let fl := q.flags + 8 * b2n (q.lateRow == some row) + 64 * b2n last
    let (t, ok) := s.encRecord c e 1 row p.poc fl p.frame.info data
    if ok then t.raise 577 (0x0800 + c) [w32 e, w32 p.poc, w32 row] else t
  else s

/-- Row ENC_CTU_ROW_DONE. -/
def execEncCtuRowDone (c : Fin 4) (hdr : Nat) (cands : List CtuCand) (data : List Byte) (s : State) : Res :=
  .next (
    match (s.encCoreOf c).cur with
    | some p => if p.row < (s.encCtus c p.session).2 && s.running (0x0800 + c) then s.settle (s.encRow c p hdr cands data) else s
    | none => s)

/-- A coded picture is complete: its record, its figures and its buffer (R303, R317, R318, R322). -/
def State.encDone (s : State) (c : Nat) (p : EncPic) : State :=
  let e := p.session
  let (s, ok) := if s.encSub c e then (s, true) else s.encRecord c e 2 0xFFFF p.poc (p.flags + 64) p.frame.info p.payload
  if !ok then s
  else
    let x := s.encOf c e
    let fq := if p.p2Ctus = 0 then x.fq else some (p.p2Bits / p.p2Ctus)
    let s := s.setEnc c e { x with
      fq := fq, fullness := x.fullness.map (· - p.bits), sweep := if s.encStruct c e = 1 && !p.irap then (x.sweep + 1) % s.encRefresh c e else x.sweep }
    let s := ((s.releaseBuf p.frame.ring p.frame.buf (encReader c e)).wr (ENC_S_LAST_BITS c e) (w32 p.bits)).wr (ENC_S_LAST_CAP c e) (w32 p.cap)
    let s := match fq with | some v => s.wr (ENC_S_FQ c e) (w32 v) | none => s
    ((s.incWrap (ENC_S_PICTURES c e)).encFree c e).raise 576 (0x0800 + c)

/-- Row ENC_PICTURE_DONE. -/
def execEncPictureDone (c : Fin 4) (s : State) : Res :=
  .next (
    match (s.encCoreOf c).cur with
    | some p => if p.row = (s.encCtus c p.session).2 && s.running (0x0800 + c) then s.settle (s.encDone c p) else s
    | none => s)

/-! ### Slice windows (R320, R321) -/

/-- An open delivery to a core (R320). -/
def State.encOpen (s : State) (c : Nat) : State :=
  (List.range 4).foldl (fun s e =>
    if s.encOn c e && s.bit (ENC_S_CODEC c e) ENC_S_CODEC_PACE then
      let x := s.encOf c e
      let ready := if s.encStruct c e = 3 then x.plan.length else x.queue.length
      if ((s.encCoreOf c).wait.filter (· == e)).length < ready then s.encReady c e 1 else s.inc (ENC_S_WIN_IDLE c e)
    else s) s

/-- A close delivery to a core (R321): the sub-frame session's picture is floor-coded from its first row not yet complete. -/
def State.encClose (s : State) (c : Nat) : State :=
  match (s.encSessions c).find? (fun e => s.encSub c e && s.encOn c e) with
  | none => s
  | some e =>
    let late (s : State) (row : Nat) : State := (s.inc (ENC_S_WIN_LATE c e)).raise 580 (0x0800 + c) [w32 row]
    let waits := (s.encCoreOf c).wait.contains e
    match (s.encCoreOf c).cur with
    | some p =>
      if p.session = e && p.row < (s.encCtus c e).2 then
        let s := if p.phase < 3 then (s.inc (ENC_S_FLOOR_CNT c e)).raise 579 (0x0800 + c) [w32 e, w32 p.poc, w32 p.row] else s
        let q := { p with phase := 3, flags := p.flags ||| 4, lateRow := some p.row }
        late ((s.setEncCore c { s.encCoreOf c with cur := some q }).setFld (ENC_S_STATUS c e) ENC_S_STATUS_PHASE 3) p.row
      else if p.session ≠ e && waits then late (s.setEnc c e { s.encOf c e with closed := true }) 0
      else s
    | none => if waits then late (s.setEnc c e { s.encOf c e with closed := true }) 0 else s

/-- The junction enters or leaves Hot (R326). -/
def State.encHot (s : State) : State :=
  (List.range 4).foldl (fun s c => if bitOf (s.rd (ENC_C_CFG c)) 4 then s.raise 585 (0x0800 + c) else s) s

end Sys2Proof.Machine
end

