-- ==== Sys2Proof/Machine/EngineCore.lean ====
section
/-! DEFINITION. Oar programs, contexts, stream ports, wake queues and task faults, as the other blocks use them (R411 to R419, R478). Rows 171 to 188
stand on them. -/

namespace Sys2Proof.Machine

/-! ### Programs (R415) -/

/-- A task-table entry. -/
structure OarTask where
  entry : BitVec 64
  sp : BitVec 64
  arg : BitVec 64
  stream : Nat
  cls : Nat
  wdog : Bool
deriving DecidableEq, Repr

/-- A window-table entry (R413). -/
structure OarWin where
  kind : Nat
  perm : Nat
  log : Nat
  base : Nat
deriving DecidableEq, Repr

/-- A port-table entry (R418). -/
structure OarPort where
  kind : Nat
  dir : Nat
  inst : Nat
  peer : Nat
deriving DecidableEq, Repr

/-- A segment-table entry. -/
structure OarSeg where
  addr : Nat
  len : Nat
  off : Nat
  zero : Bool
deriving DecidableEq, Repr

/-- A program. -/
structure OarProg where
  events : List Byte
  tasks : List OarTask
  windows : List OarWin
  ports : List OarPort
  segs : List OarSeg
deriving DecidableEq, Repr

/-- A segment table of `n` entries at an offset. -/
def segTable (d : List Byte) (o n : Nat) : List OarSeg :=
  (List.range n).map (fun i => let a := o + 16 * i; ⟨leAt d a 4, leAt d (a + 4) 4, leAt d (a + 8) 4, leAt d (a + 12) 4 % 2 == 1⟩)

/-- A PROGRAM payload read. -/
def oarProg (d : List Byte) : OarProg :=
  let t := leAt d 6 1
  let w := leAt d 7 1
  let p := leAt d 8 1
  let ow := 0x90 + 32 * t
  let op := ow + 16 * w
  let os := op + 8 * p
  { events := sliceAt d 0x10 128
    tasks := (List.range t).map (fun i => let a := 0x90 + 32 * i
      ⟨BitVec.ofNat 64 (leAt d a 8), BitVec.ofNat 64 (leAt d (a + 8) 8), BitVec.ofNat 64 (leAt d (a + 16) 8), leAt d (a + 24) 4, leAt d (a + 28) 1,
        leAt d (a + 29) 1 == 1⟩)
    windows := (List.range w).map (fun i => let a := ow + 16 * i; ⟨leAt d a 1, leAt d (a + 1) 1, leAt d (a + 2) 1, leAt d (a + 8) 8⟩)
    ports := (List.range p).map (fun i => let a := op + 8 * i; ⟨leAt d a 1, leAt d (a + 1) 1, leAt d (a + 2) 2, leAt d (a + 4) 2⟩)
    segs := segTable d os (leAt d 9 1) }

/-- The PROGRAM payload of a logical seat in sections. -/
def progOf (ss : List Section) (e l : Nat) : Option (List Byte) :=
  (ss.find? (fun x => x.kind == 2 && x.block == 0x0100 + e && x.sflags % 16 == l)).map (·.data)

/-- The committed program of a logical seat. -/
def State.prog (s : State) (e l : Nat) : Option OarProg := (progOf s.rig.sections e l).map oarProg

/-- The task of a context. -/
def State.task (s : State) (e l c : Nat) : Option OarTask := (s.prog e l).bind (fun p => p.tasks[c]?)

/-! ### Contexts -/

/-- A context's key. -/
def ctxKey (e l c : Nat) : Nat := 64 * e + 8 * l + c
/-- A context's record. -/
def State.ctxOf (s : State) (e l c : Nat) : OarCtx := tabGet s.eng.ctx {} (ctxKey e l c)
/-- A context's record set. -/
def State.setCtx (s : State) (e l c : Nat) (x : OarCtx) : State := { s with eng := { s.eng with ctx := tabSet s.eng.ctx {} (ctxKey e l c) x } }
/-- STATE of a context: 0 unused, 1 ready, 2 running, 3 waiting, 4 halted, 5 refused. -/
def State.ctxState (s : State) (e l c : Nat) : Nat := s.fld (EGT_CTX e l c) EGT_CTX_STATE

/-- The physical seat of a logical seat (R423). -/
def State.physSeat (s : State) (e l : Nat) : Nat := bitsOf (s.rd (EGT_SEAT_MAP e)).toNat (4 * l + 3) (4 * l)

/-- The seat-time record of a stream (R105, R415). -/
def State.seatRec (s : State) (id : Nat) : Option Nat :=
  (List.range 1024).find? (fun i => (s.rd (UMP_S_ID i)).toNat == id && s.fld (UMP_S_CFG i) UMP_S_CFG_TARGET == 3)

/-- The record of a task's stream. -/
def State.taskRec (s : State) (e l c : Nat) : Option Nat := (s.task e l c).bind (fun t => if t.cls < 2 then s.seatRec t.stream else none)

/-- A task runs at level 3 or 4 (R416): Soft, or without budget. -/
def State.taskLow (s : State) (e l c : Nat) : Bool :=
  match s.task e l c with
  | some t => decide (2 ≤ t.cls) || (s.ctxOf e l c).budget == 0
  | none => true

/-- Course clocks in which the task was ready at level 3 or 4 are counted up to now (R417). -/
def State.seatDelay (s : State) (e l c : Nat) : State :=
  let x := s.ctxOf e l c
  let n := s.ticks - x.delayAt
  let t := s.setCtx e l c { x with delayAt := s.ticks }
  if s.ctxState e l c = 1 && s.taskLow e l c then
    match s.taskRec e l c with
    | some r =>
      let t := t.setStrm r { t.strmOf r with delay := (t.strmOf r).delay + n }
      t.wr (UMP_S_DELAY_LO r) (w32 (t.strmOf r).delay)
    | none => t
  else t

/-- A context's STATE changes; the time it was ready is counted first. -/
def State.setCtxState (s : State) (e l c v : Nat) : State := (s.seatDelay e l c).setFld (EGT_CTX e l c) EGT_CTX_STATE v

/-- A context's wake queue changes: QUEUED, and the record's BKL_NOW and BKL_PEAK (R417). -/
def State.setQueue (s : State) (e l c : Nat) (q : List Wake) : State :=
  let s := s.setCtx e l c { s.ctxOf e l c with queue := q }
  let s := s.setFld (EGT_CTX e l c) EGT_CTX_QUEUED (min 15 q.length)
  match s.taskRec e l c with
  | some r =>
    let n := w32 q.length
    (s.wr (UMP_S_BKL_NOW r) n).wr (UMP_S_BKL_PEAK r) (if (s.rd (UMP_S_BKL_PEAK r)).toNat < q.length then n else s.rd (UMP_S_BKL_PEAK r))
  | none => s

/-- A task's stream takes a stop reason (R32). -/
def State.taskStop (s : State) (e l c code : Nat) : State :=
  match s.taskRec e l c with
  | some r => if s.rd (UMP_S_STOP r) = 0 then s.wr (UMP_S_STOP r) (w32 code) else s
  | none => s

/-- A context halts (R414). -/
def State.ctxHalt (s : State) (e l c : Nat) (mcause : BitVec 64) : State :=
  let s := s.setCtx e l c { s.ctxOf e l c with wait := none }
  let s := (s.setCtxState e l c 4).setFld (EGT_CTX e l c) EGT_CTX_MCAUSE (mcause.toNat % 256)
  (s.taskStop e l c 2).raise 66 (0x0100 + e) [w32 e, w32 l, w32 c, w32 mcause.toNat]

/-- mtvec, mepc and mcause. -/
def csrMtvec : Nat := 0x305
def csrMepc : Nat := 0x341
def csrMcause : Nat := 0x342

/-- A trap of a context (R414): to mtvec, or it halts where mtvec is 0 or a trap has no mret yet. -/
def State.ctxTrap (s : State) (e l c : Nat) (mcause : BitVec 64) : State :=
  let x := s.ctxOf e l c
  let mtvec := tabGet x.csrs 0 csrMtvec
  if mtvec = 0 || x.inTrap then s.ctxHalt e l c mcause
  else
    let csrs := tabSet (tabSet x.csrs 0 csrMepc x.pc) 0 csrMcause mcause
    s.setCtx e l c { x with csrs := csrs, pc := mtvec &&& 0xFFFFFFFFFFFFFFFC, inTrap := true, wait := none }

/-- An integer register set; x0 stays 0. -/
def OarCtx.setX (x : OarCtx) (rd : Nat) (v : BitVec 64) : OarCtx := if rd = 0 then x else { x with x := tabSet x.x 0 rd v }

/-- An integer register. -/
def OarCtx.getX (x : OarCtx) (r : Nat) : BitVec 64 := if r = 0 then 0 else tabGet x.x 0 r

/-! ### Wake-ups (R417, R419, R478) -/

/-- A selection of SWAIT takes a wake-up. -/
def selTakes (sel slot : Nat) : Bool := sel == 0x3FF || sel == slot

/-- The value that SWAIT returns for a wake-up: the slot, for an event its number, and TB0 NS; the bits that the rules do not name are free. -/
def Wake.value (w : Wake) : BitVec 64 :=
  let rest := Config.swaitRest w.slot w.event w.ns &&& (if w.slot = 0x3FE then 0xFC007C00 else 0xFFFF7C00)
  BitVec.ofNat 64 (w.slot % 1024 + 65536 * (if w.slot = 0x3FE then w.event % 1024 else 0) + 4294967296 * w.ns.toNat) ||| rest

/-- The value that SWAIT returns at a timeout: bit 15, and TB0 NS at expiry. -/
def timeoutValue (ns : Word) : BitVec 64 :=
  BitVec.ofNat 64 (0x8000 + 4294967296 * ns.toNat) ||| (Config.swaitRest 0x400 0 ns &&& 0xFFFF7FFF)

/-- The contexts of a seat that run tasks. -/
def State.liveCtx (s : State) (e l : Nat) : List Nat :=
  (List.range 8).filter (fun c => let st := s.ctxState e l c; st == 1 || st == 2 || st == 3)

/-- The context that has waited longest for a wake-up. -/
def State.waiter (s : State) (e l slot : Nat) : Option Nat :=
  (s.liveCtx e l).foldl (fun best c =>
    match (s.ctxOf e l c).wait with
    | some (.swait _ sel _) =>
      if !selTakes sel slot then best
      else match best with
        | some b => if (s.ctxOf e l c).waitAt < (s.ctxOf e l b).waitAt then some c else best
        | none => some c
    | _ => best) none

/-- The task whose queue takes a wake-up that nobody waits for (log entry 51). -/
def State.wakeOwner (s : State) (e l slot : Nat) : Option Nat :=
  let cs := s.liveCtx e l
  match cs.find? (fun c => match (s.ctxOf e l c).sel with | some sel => selTakes sel slot | none => false) with
  | some c => some c
  | none => cs.head?

/-- A Firm task is refused (R417). -/
def State.taskRefuse (s : State) (e l c : Nat) : State :=
  let s := s.setCtx e l c { s.ctxOf e l c with wait := none }
  let s := (s.setCtxState e l c 5).taskStop e l c 6
  let s := match s.taskRec e l c with
    | some r => (s.wr (UMP_S_REFUSAL r) 0x00010205).wr (UMP_S_REFUSAL_TIME r) s.ns
    | none => s
  (s.inc UMP_RT_REFUSE_CNT).raise 71 (0x0100 + e) [w32 e, w32 l, w32 c]

/-- A wake-up merges into the last entry of a queue. -/
def mergeLast : List Wake → List Wake
  | [] => []
  | [w] => [{ w with merged := w.merged + 1 }]
  | w :: ws => w :: mergeLast ws

/-- A delivery reaches a seat: a waiting context takes it, or it queues under the rules of the task's class. -/
def State.wakeSeat (s : State) (e l : Nat) (w : Wake) : State :=
  if !s.running (0x0100 + e) then s
  else
    match s.waiter e l w.slot with
    | some c =>
      let x := s.ctxOf e l c
      let rd := match x.wait with | some (.swait rd _ _) => rd | _ => 0
      s.setCtx e l c { x with wait := some (.got rd w.value) }
    | none =>
      match s.wakeOwner e l w.slot with
      | none => s
      | some c =>
        let q := (s.ctxOf e l c).queue
        if q.length < 16 then s.setQueue e l c (q ++ [w])
        else if ((s.task e l c).map (·.cls)).getD 2 = 1 then s.taskRefuse e l c
        else s.setQueue e l c (mergeLast q)

/-- A delivery to seat index 9e + s (R142): the logical seat that the physical seat serves. -/
def State.wakeIndex (s : State) (i : Nat) (w : Wake) : State :=
  match (List.range 8).find? (fun l => s.physSeat (i / 9) l == i % 9) with
  | some l => s.wakeSeat (i / 9) l w
  | none => s

/-! ### Stream ports (R418) -/

/-- A stream port's FIFO. -/
def State.portQ (s : State) (e p : Nat) : List (BitVec 64) := tabGet s.eng.fifo [] (8 * e + p)
/-- A stream port's FIFO set. -/
def State.setPortQ (s : State) (e p : Nat) (q : List (BitVec 64)) : State :=
  { s with eng := { s.eng with fifo := tabSet s.eng.fifo [] (8 * e + p) q } }

/-- The port that a tap of a kind and unit feeds: Eight and port. -/
def State.tapPort (s : State) (kind inst : Nat) : Option (Nat × Nat) :=
  ((List.range 32).flatMap (fun e => (List.range 8).flatMap (fun l =>
    match s.prog e l with
    | some g => g.ports.zipIdx.filterMap (fun q => if q.1.kind == kind && q.1.dir == 0 && q.1.inst == inst then some (e, q.2) else none)
    | none => []))).head?

/-- A fixed-function tap gives a word: its port takes it, or it is dropped (R418). -/
def State.tapWord (s : State) (kind inst : Nat) (w : BitVec 64) : State :=
  match s.tapPort kind inst with
  | some (e, p) =>
    if !s.running (0x0100 + e) then s
    else if (s.portQ e p).length < 512 then s.setPortQ e p (s.portQ e p ++ [w])
    else (s.inc (EGT_PORT_DROP e)).raiseOnce 70 e (0x0100 + e) [w32 e]
  | none => s

/-! ### Loading (R412, R415, R425) -/

/-- A byte stored at an Oar address of local or shared memory. -/
def State.oarPut (s : State) (e l a : Nat) (b : Byte) : State :=
  if a < 0x40000 then { s with eng := { s.eng with mem := tabSet s.eng.mem 0 ((9 * e + s.physSeat e l) * 0x40000 + a) b } }
  else if 0x100000 ≤ a && a < 0x300000 then { s with eng := { s.eng with shared := tabSet s.eng.shared 0 (e * 0x200000 + (a - 0x100000)) b } }
  else s

/-- A byte of local or shared memory. -/
def State.oarByte (s : State) (e l a : Nat) : Byte :=
  if a < 0x40000 then tabGet s.eng.mem 0 ((9 * e + s.physSeat e l) * 0x40000 + a)
  else if 0x100000 ≤ a && a < 0x300000 then tabGet s.eng.shared 0 (e * 0x200000 + (a - 0x100000)) else 0

/-- Bytes stored from an Oar address upwards. -/
def State.oarFill (s : State) (e l : Nat) : Nat → List Byte → State
  | _, [] => s
  | a, b :: bs => (s.oarPut e l a b).oarFill e l (a + 1) bs

/-- The local memory of a physical seat is zeroed (R423). -/
def State.seatZero (s : State) (e p : Nat) : State :=
  { s with eng := { s.eng with mem := s.eng.mem.filter (fun b => b.1 / 0x40000 != 9 * e + p) } }

/-- A seat starts: its segments are loaded, and task t waits in context t at ENTRY. -/
def State.seatStart (s : State) (e l : Nat) : State :=
  let s := s.seatZero e (s.physSeat e l)
  match progOf s.rig.sections e l with
  | none => (List.range 8).foldl (fun s c => (s.setCtx e l c {}).wr (EGT_CTX e l c) 0) s
  | some d =>
    let g := oarProg d
    let s := g.segs.foldl (fun s x => s.oarFill e l x.addr (if x.zero then List.replicate x.len 0 else sliceAt d x.off x.len)) s
    (List.range 8).foldl (fun s c =>
      let s := (s.setCtx e l c {}).wr (EGT_CTX e l c) 0
      match g.tasks[c]? with
      | some t =>
        let rate := match s.taskRec e l c with | some r => (s.rd (UMP_S_RATE r)).toNat | none => 0
        let x : OarCtx := { pc := t.entry, budget := rate * 160, delayAt := s.ticks }
        (s.setCtx e l c ((x.setX 2 t.sp).setX 10 t.arg)).setFld (EGT_CTX e l c) EGT_CTX_STATE 1
      | none => s) s

/-- An Eight starts or restarts: its ports are empty and every seat starts. -/
def State.eightStart (s : State) (e : Nat) : State :=
  let s := (List.range 8).foldl (fun s p => s.setPortQ e p []) s
  let s := (List.range 8).foldl (fun s l => s.seatStart e l) s
  s.wr (EGT_STATUS e) 1

/-- An Eight stops with a code (R32). -/
def State.eightStop (s : State) (e code : Nat) : State :=
  let s := s.setFld (EGT_STATUS e) ⟨0, 0⟩ 0
  if bitsOf (s.rd (EGT_STATUS e)).toNat 15 8 = 0 then s.setFld (EGT_STATUS e) ⟨15, 8⟩ code else s

/-- Corrected errors of a physical seat (R424): counted, and 16 within 1 s set WARN and raise event 64. -/
def State.seatCorrected (s : State) (e p : Nat) : State :=
  let k := 9 * e + p
  let l := ((s.ticks :: tabGet s.eng.ceAt [] k).filter (fun t => decide (s.ticks < t + ticksOfMs 1000))).take 16
  let s := { s with eng := { s.eng with ceAt := tabSet s.eng.ceAt [] k l } }
  let s := s.inc (EGT_SEAT_CE e p)
  if l.length = 16 && !bitOf (s.rd (EGT_SEAT_STATE e)) (16 + p) then
    (s.setFld (EGT_SEAT_STATE e) ⟨16 + p, 16 + p⟩ 1).raise 64 (0x0100 + e) [w32 e, w32 p]
  else s

end Sys2Proof.Machine
end

