-- ==== Sys2Proof/Machine/Nvme.lean ====
section
/-! DEFINITION. Ends of NVMe commands: completion, timeout, and timeout of the Abort (R361, R387). Rows 145 to 147. -/

namespace Sys2Proof.Machine

/-- The command of a root port with a tag. -/
def State.nvCmd (s : State) (p tag : Nat) : Option NvCmd := (s.nvOf p).cmds.find? (·.tag == tag)

/-- A completion of a command: its status, 0 for success, and the data of a Read (R361, R387). -/
def State.nvComplete (s : State) (p tag status : Nat) (data : List Byte) : State :=
  match s.nvCmd p tag with
  | none => s
  | some k =>
    let s := s.nvRemove p tag
    match k.use with
    | .read d => s.decRead d (tag + 65536 * p) (status == 0) data
    | u =>
      if status != 0 && (k.op == 0 || k.op == 1) then (((s.inc (NVR_ERR_CNT p)).raise 851 (s.nvBid p)).mediaError p)
      else if status = 0 then
        match u with
        | .abort t => s.nvRemove p t
        | _ => s.nvDone u
      else s

/-- Row NVME_COMPLETION. -/
def execNvmeCompletion (p : Fin 4) (tag : Fin 65536) (status : Nat) (data : List Byte) (s : State) : Res :=
  .next (s.settle (s.nvComplete p tag status data))

/-- NVR_CMD_TMO expires on a command: Abort is issued, the timeout counts and raises event 850, and it is a media error (R361); the session of a
Read stops (R387). -/
def State.nvTimeout (s : State) (p tag : Nat) : State :=
  match s.nvCmd p tag with
  | none => s
  | some k =>
    match k.use with
    | .abort _ => s
    | u =>
      let s := s.nvIssue p 8 0 0 [] (.abort tag)
      let s := ((s.inc (NVR_TMO_CNT p)).raise 850 (s.nvBid p)).mediaError p
      match u with
      | .read d => s.decReadTimeout d
      | _ => s

/-- Row NVME_CMD_TIMEOUT. -/
def execNvmeCmdTimeout (p : Fin 4) (tag : Fin 65536) (s : State) : Res := .next (s.settle (s.nvTimeout p tag))

/-- Row NVME_ABORT_TIMEOUT: the controller is reset, which ends every command of the root port. -/
def execNvmeAbortTimeout (p : Fin 4) (tag : Fin 65536) (s : State) : Res :=
  .next (
    match s.nvCmd p tag with
    | some ⟨_, _, .abort _⟩ => s.settle (((s.setNv p { s.nvOf p with cmds := [] }).emit (.nvme p 0x100 0 0 0 [])).mediaError p)
    | _ => s)

end Sys2Proof.Machine
end

