-- ==== Sys2Proof/Machine/Quads.lean ====
section
/-! DEFINITION. The stages of the Landing quads (R430 to R432) and the quads that carry a scan-out head's link. -/

namespace Sys2Proof.Machine

/-- PROTO of a quad (R430). -/
def State.quadProto (s : State) (q : Nat) : Nat := bitsOf (s.rd (LND_Q_CFG q)).toNat 3 0

/-- STAGE of a quad: 0 DETECT, 1 TRAIN, 2 LOCK, 3 EXCHANGE, 4 ACTIVE, 5 STOPPED. -/
def State.quadStage (s : State) (q : Nat) : Nat := bitsOf (s.rd (LND_Q_STATUS q)).toNat 2 0

/-- The quad is in use: the endpoint's pair always, another one where it is enabled, runs a protocol, and its block runs. -/
def State.quadOn (s : State) (q : Nat) : Bool :=
  q < 2 || (bitOf (s.rd (LND_Q_CFG q)) 20 && s.quadProto q != 0 && s.running (0x0B00 + q))

/-- STAGE changes, and event 768 gives the new one (R431). -/
def State.setQuadStage (s : State) (q n : Nat) : State :=
  if s.quadStage q = n then s else (s.setFld (LND_Q_STATUS q) ⟨2, 0⟩ n).raise 768 (0x0B00 + q) [w32 n]

/-- The quad waits 100 ms after a training failure (R432). -/
def State.quadWaiting (s : State) (q : Nat) : Bool := s.lnd.waiting.contains q

/-- The wait begins or ends. -/
def State.setQuadWaiting (s : State) (q : Nat) (b : Bool) : State :=
  let l := s.lnd.waiting.filter (· != q)
  { s with lnd := { s.lnd with waiting := if b then q :: l else l } }

/-- The link partner is found: DETECT passes to TRAIN (R431). -/
def State.quadDetect (s : State) (q : Nat) : State :=
  if s.quadOn q && s.quadStage q == 0 && !s.quadWaiting q && s.quadProto q != 3 then s.setQuadStage q 1 else s

/-- The quad leaves whatever stage it is in for DETECT; leaving ACTIVE counts and raises event 769 (R432). -/
def State.quadFail (s : State) (q : Nat) : State :=
  let s := if s.quadStage q = 4 then (s.inc (LND_Q_DOWN_CNT q)).raise 769 (0x0B00 + q) else s
  let s := s.wr (LND_Q_STATUS q) (s.rd (LND_Q_STATUS q) &&& 0xFFFF0007)
  s.setQuadStage q 0

/-- The quads that carry the scan link of a head, by the committed topology (R53). -/
def State.scnQuads (s : State) (n : Nat) : List Nat :=
  (allTopo s.rig.sections).filterMap (fun t =>
    if t.link == 5 && t.source == 0x0700 + n && bidType t.sink == 0x0B then some (bidUnit t.sink) else none)

/-- The scan-out head whose link a quad carries. -/
def State.quadScn (s : State) (q : Nat) : Option Nat := (List.range 4).find? (fun n => (s.scnQuads n).contains q)

end Sys2Proof.Machine
end

