-- ==== Sys2Proof/Machine/Scan.lean ====
section
/-! DEFINITION. Scan-out heads, monitor outputs and the wake check (R275 to R295). Rows 115 to 127. -/

namespace Sys2Proof.Machine

/-- States of a head (SCN_STATUS.STATE). -/
def State.scnState (s : State) (n : Nat) : Nat := s.fld (SCN_STATUS n) SCN_STATUS_STATE
/-- A head's state set. -/
def State.setScnState (s : State) (n v : Nat) : State := s.setFld (SCN_STATUS n) SCN_STATUS_STATE v

/-- BLOCK_ID of a head. -/
def scnBid (n : Nat) : Nat := 0x0700 + n

/-- SCN0 serves Paddle mode (R118). -/
def State.paddleScn (s : State) (n : Nat) : Bool := s.boot.paddle == .serving && n == 0

/-- The head is in use. -/
def State.scnOn (s : State) (n : Nat) : Bool :=
  s.paddleScn n || (s.bit (SCN_CFG n) SCN_CFG_EN && s.fld (SCN_CFG n) SCN_CFG_PROTO != 0)

/-! ### Timing groups (R275 to R279) -/

/-- The shadow of the timing group. -/
def State.scnShadow (s : State) (n : Nat) : ScnTiming :=
  ⟨s.rd (SCN_HACT n), s.rd (SCN_HBLK n), s.rd (SCN_VACT n), s.rd (SCN_VBLK n), s.rd (SCN_PLL_DIV n), s.rd (SCN_PLL_FRAC n), s.rd (SCN_FMT n)⟩

/-- Pixels and lines of a timing group. -/
def ScnTiming.hActive (t : ScnTiming) : Nat := lo16 t.hact
def ScnTiming.hTotal (t : ScnTiming) : Nat := hi16 t.hact
def ScnTiming.vActive (t : ScnTiming) : Nat := lo16 t.vact
def ScnTiming.vTotal (t : ScnTiming) : Nat := hi16 t.vact
/-- NINT, POSTDIV and NFRAC (R278). -/
def ScnTiming.nint (t : ScnTiming) : Nat := bitsOf t.div.toNat 6 0
def ScnTiming.post (t : ScnTiming) : Nat := bitsOf t.div.toNat 15 8
def ScnTiming.nfrac (t : ScnTiming) : Nat := bitsOf t.frac.toNat 23 0
/-- f_pix as a fraction of Hz (R278). -/
def ScnTiming.pix (t : ScnTiming) : Nat × Nat := (100000000 * (t.nint * 16777216 + t.nfrac), 16777216 * t.post)
/-- Sample depth in bits. -/
def ScnTiming.depth (t : ScnTiming) : Nat := [8, 10, 12, 8].getD (SCN_FMT_DEPTH.get t.fmt) 8
/-- SAMPLING: 0 4:2:2, 1 4:4:4, 2 RGB, 3 4:2:0. -/
def ScnTiming.sampling (t : ScnTiming) : Nat := SCN_FMT_SAMPLING.get t.fmt

/-- The frame rate num ÷ den lies within 10 parts per million of p ÷ q (log entry 32). -/
def rateNear (num den p q : Nat) : Bool :=
  decide (num * q * 1000000 ≤ p * den * 1000010) && decide (p * den * 999990 ≤ num * q * 1000000)

/-- Frames per second of a timing group as a fraction. -/
def ScnTiming.rate (t : ScnTiming) : Nat × Nat := (t.pix.1, t.pix.2 * t.hTotal * t.vTotal)

/-- Rates of the SDI tables, as fractions, with the total samples of a line at full width for 1,125 lines (log entry 33). -/
def sdiRates : List (Nat × Nat × Nat) :=
  [(24000, 1001, 2750), (24, 1, 2750), (25, 1, 2640), (30000, 1001, 2200), (30, 1, 2200), (50, 1, 2640), (60000, 1001, 2200), (60, 1, 2200)]

/-- An SDI raster of R286: the rate indexes that it may have, the line count, and the factor on the samples of `sdiRates`. -/
def sdiRaster (rate w h : Nat) (quad : Bool) : Option (List Nat × Nat × Nat) :=
  let slow := [0, 1, 2, 3, 4]
  let fast := [5, 6, 7]
  if quad then (if rate = 3 && w = 7680 && h = 4320 then some (slow ++ fast, 4500, 4) else none)
  else match rate with
    | 0 => if w = 1280 && h = 720 then some (fast, 750, 0) else if (w = 1920 || w = 2048) && h = 1080 then some (slow, 1125, 1) else none
    | 1 => if (w = 1920 || w = 2048) && h = 1080 then some (fast, 1125, 1) else none
    | 2 => if (w = 3840 || w = 4096) && h = 2160 then some (slow, 2250, 2) else none
    | 3 => if (w = 3840 || w = 4096) && h = 2160 then some (fast, 2250, 2) else none
    | _ => none

/-- The SDI condition of R276 and R286. -/
def sdiOk (rate : Nat) (quad : Bool) (t : ScnTiming) : Bool :=
  match sdiRaster rate t.hActive t.vActive quad with
  | none => false
  | some (idx, lines, k) =>
    t.sampling == 0 && t.depth == 10 && SCN_FMT_RANGE.get t.fmt == 0 && t.vTotal == lines &&
      idx.any (fun i => match sdiRates[i]? with
        | some (p, q, tot) => t.hTotal == (if k = 0 then (if tot = 2640 then 1980 else 1650) else k * tot) && rateNear t.rate.1 t.rate.2 p q
        | none => false)

/-- Lanes and lane rate in Mbit/s of an HDMI FRL code. -/
def frlRate : Nat → Nat × Nat
  | 1 => (3, 3000) | 2 => (3, 6000) | 3 => (4, 6000) | 4 => (4, 8000) | 5 => (4, 10000) | 6 => (4, 12000) | _ => (0, 0)

/-- Lane rate of a DisplayPort or eDP code in Mbit/s (log entry 33), and whether it is coded 128b/132b. -/
def dpRate : Nat → Nat × Bool
  | 1 => (1620, false) | 2 => (2700, false) | 3 => (5400, false) | 4 => (8100, false) | 5 => (10000, true) | 6 => (13500, true) | 7 => (20000, true)
  | 8 => (2160, false) | 9 => (2430, false) | 10 => (3240, false) | 11 => (4320, false) | _ => (0, false)

/-- Twice the bits per pixel of R276. -/
def bpp2 (hdmi : Bool) (t : ScnTiming) : Nat :=
  match t.sampling with
  | 0 => if hdmi then 48 else 4 * t.depth
  | 3 => 3 * t.depth
  | _ => 6 * t.depth

/-- The link check of R276. -/
def linkOk (proto rate lanes : Nat) (quad : Bool) (t : ScnTiming) : Bool :=
  let (fn, fd) := t.pix
  let d2 := fn * bpp2 (proto == 2 || proto == 3) t
  match proto with
  | 1 => sdiOk rate quad t
  | 2 =>
    match t.sampling with
    | 0 => decide (fn ≤ 600000000 * fd)
    | 3 => decide (fn * t.depth ≤ 600000000 * 16 * fd)
    | _ => decide (fn * t.depth ≤ 600000000 * 8 * fd)
  | 3 => let (l, r) := frlRate rate; decide (d2 * 18 * 100 ≤ 2 * fd * l * r * 1000000 * 16 * 97)
  | 4 | 5 =>
    let (r, uhbr) := dpRate rate
    t.sampling != 3 && (if uhbr then decide (d2 * 132 * 100 ≤ 2 * fd * lanes * r * 1000000 * 128 * 97)
      else decide (d2 * 10 * 100 ≤ 2 * fd * lanes * r * 1000000 * 8 * 97))
  | _ => true

/-- The active-area limit of R81, with the tolerance of log entry 32. -/
def areaOk (t : ScnTiming) : Bool :=
  let (n, d) := t.rate
  let upTo (f : Nat) : Bool := decide (n * 1000000 ≤ f * d * 1000010)
  (decide (t.hActive ≤ 7680) && decide (t.vActive ≤ 4320) && upTo 60) || (decide (t.hActive ≤ 4096) && decide (t.vActive ≤ 2160) && upTo 120)

/-- TRIM of R284. -/
def State.trim (s : State) (n : Nat) : Nat := let v := s.fld (SCN_SYNC n) SCN_SYNC_TRIM; if v = 0 || 500 < v then 500 else v

/-- The frame period differs by more than `ppm` from that of a head at `rate` millifps (R279). -/
def periodOff (t : ScnTiming) (rate ppm : Nat) : Bool :=
  let a := t.hTotal * t.vTotal * t.pix.2 * rate
  let b := t.pix.1 * 1000
  decide (b * (1000000 + ppm) < a * 1000000) || decide (a * 1000000 < b * (1000000 - ppm))

/-- The checks of R279 on a timing group; `live` is the head of the compositor's live layer 0. -/
def State.timingCheck (s : State) (n : Nat) (t : ScnTiming) (live : Option Nat) : Option Nat :=
  let c := s.rd (SCN_CFG n)
  let (fn, fd) := t.pix
  let hf := bitsOf t.hblk.toNat 14 0
  let hs := bitsOf t.hblk.toNat 30 16
  let vf := bitsOf t.vblk.toNat 14 0
  let vs := bitsOf t.vblk.toNat 30 16
  if (t.hActive, t.vActive) != s.cmpSize n then some 0x0401
  else if t.nint < 60 || 119 < t.nint || t.post = 0 || fn < 25000000 * fd || 2400000000 * fd < fn then some 0x0401
  else if SCN_FMT_DEPTH.get t.fmt = 3 || SCN_FMT_TRANSFER.get t.fmt = 3 then some 0x0401
  else if !linkOk (SCN_CFG_PROTO.get c) (SCN_CFG_RATE.get c) (SCN_CFG_LANES.get c) (SCN_CFG_QUAD.get c == 1) t || !areaOk t then some 0x0401
  else if t.hTotal < t.hActive + hf + hs || t.vTotal < t.vActive + vf + vs || hs = 0 || vs = 0 then some 0x0401
  else if (match live with | some h => periodOff t (s.headRate h) (s.trim n) | none => false) then some 0x0401
  else none

/-- The source head of a compositor's live layer 0 in force. -/
def State.liveHead (s : State) (n : Nat) : Option Nat :=
  let c := (s.layerOf n 0).act
  if c.on && c.src = 0 then (s.livePath n).map s.lkpHead else none

/-- A timing group refused (R279). -/
def State.timingRefuse (s : State) (n k : Nat) : State :=
  ((s.wr (SCN_TW_REFUSAL n) (w32 k)).wr (SCN_TW_REFUSAL_TIME n) s.ns).raise 433 (scnBid n)

/-- The frame in progress is truncated (R281, R284). -/
def State.scnTruncate (s : State) (n : Nat) : State :=
  let x := s.scnOf n
  if x.open_ then ((s.inc (SCN_TRUNC_CNT n)).cmpTruncate n).setScn n { x with open_ := false, checked := false } else s

/-- A timing group takes effect (R280 to R282). -/
def State.timingApply (s : State) (n : Nat) (t : ScnTiming) : State :=
  let x := s.scnOf n
  let pll := t.div != x.tim.div || t.frac != x.tim.frac
  let st := s.scnState n
  let s := s.setScn n { x with tim := t, checked := false, skip := 2 }
  let s := s.wr (SCN_WAKE_STATUS n) ((s.rd (SCN_WAKE_STATUS n)) &&& 1)
  let s := (s.incWrap (SCN_TW_GEN n)).raise 432 (scnBid n) [w32 n, s.rd (SCN_FRAME n)]
  if !pll || st = 0 then s
  else if st = 4 then (s.setScn n { s.scnOf n with black := true }).setScnState n 2
  else ((s.scnTruncate n).setScn n { (s.scnTruncate n).scnOf n with stopAfter := decide (st = 3) }).setScnState n 2

/-- TIMING_GO (R277, R279). -/
def State.timingGo (s : State) (n : Nat) : State :=
  let t := s.scnShadow n
  match s.timingCheck n t (s.liveHead n) with
  | some k => s.timingRefuse n k
  | none =>
    if s.scnState n = 2 || s.rigListing (scnBid n) then s.timingRefuse n 0x0503
    else (s.psrExit n).timingApply n t

/-- SOFT_STOP (R282, R283). -/
def State.softStop (s : State) (n : Nat) : State :=
  match s.scnState n with
  | 1 => s.setScnState n 3
  | 2 | 5 => s.setScn n { s.scnOf n with stopAfter := true }
  | _ => s

/-- A write of SCN_CTRL: each of its bits is a command of its own (R277, R283, R291). -/
def State.scnCtrlWrite (s : State) (n : Nat) (v : Word) : State :=
  let s := if bitOf v 0 then s.timingGo n else s
  let s := if bitOf v 1 then s.softStop n else s
  let s := if bitOf v 2 && s.scnState n == 4 then s.setScn n { s.scnOf n with startReq := true } else s
  if bitOf v 3 then s.psrExit n else s

/-- Row TIMING_WRITE. -/
def execTimingWrite (n : Fin 4) (v : Word) (s : State) : Res := .next (s.hostDo (SCN_CTRL n) true (fun t => t.settle (t.scnCtrlWrite n v)))
/-- Row SCN_SOFT_STOP. -/
def execScnSoftStop (n : Fin 4) (v : Word) (s : State) : Res := .next (s.hostDo (SCN_CTRL n) true (fun t => t.settle (t.scnCtrlWrite n v)))
/-- Row SCN_START. -/
def execScnStart (n : Fin 4) (v : Word) (s : State) : Res := .next (s.hostDo (SCN_CTRL n) true (fun t => t.settle (t.scnCtrlWrite n v)))
/-- Row SCN_PSR_EXIT. -/
def execScnPsrExit (n : Fin 4) (v : Word) (s : State) : Res := .next (s.hostDo (SCN_CTRL n) true (fun t => t.settle (t.scnCtrlWrite n v)))

/-- A Rig apply on a head (R275, R279): its timing group is in force, and a head newly in use runs. -/
def State.scnApplyConfig (s : State) (n : Nat) : State :=
  let x := s.scnOf n
  let t := s.scnShadow n
  if !s.scnOn n then (s.setScn n { x with tim := t, open_ := false }).setScnState n 0
  else if s.scnState n = 0 then (s.setScn n { x with tim := t, fresh := true, waitSlot := s.fld (SCN_SYNC n) SCN_SYNC_MODE == 1 }).setScnState n 1
  else if t = x.tim then s
  else s.timingApply n t

/-- Paddle output: 1,920 × 1,080 with 1,125 lines at PADDLE_RATE, 10-bit narrow-range BT.709 4:2:2 (R120, R116). -/
def State.paddleScan (s : State) : State :=
  match s.boot.desc with
  | some d =>
    let tot := if d.paddleRate ≤ 24000 then 2750 else if d.paddleRate = 25000 || d.paddleRate = 50000 then 2640 else 2200
    (s.setScn 0 { s.scnOf 0 with tim := { hact := w32 (1920 + 65536 * tot), vact := w32 (1080 + 65536 * 1125), fmt := 4 } }).setScnState 0 1
  | none => s

/-! ### Frames (R283, R284, R287, R289, R291) -/

/-- The nearest whole number of frames per second. -/
def ScnTiming.fps (t : ScnTiming) : Nat := if t.rate.2 = 0 then 1 else max 1 ((2 * t.rate.1 + t.rate.2) / (2 * t.rate.2))

/-- The packets sent with a frame: the buffers whose VALID is set, which SDI ignores (R289). -/
def State.scnPackets (s : State) (n : Nat) : List (List Word) :=
  if s.fld (SCN_CFG n) SCN_CFG_PROTO = 1 then []
  else ((List.range 4).filter (fun t => bitOf (s.rd (SCN_PKT_HDR n t)) 31)).map (fun t =>
    s.rd (SCN_PKT_HDR n t) :: (List.range 7).map (fun i => s.rd (SCN_PKT_PAY n t i)))

/-- A head enters STOPPED by software (R283). -/
def State.scnStopped (s : State) (n : Nat) : State :=
  let s := if s.fld (SCN_STATUS n) SCN_STATUS_STOP_REASON = 0 then s.setFld (SCN_STATUS n) SCN_STATUS_STOP_REASON 1 else s
  ((s.setScnState n 4).raise 436 (scnBid n)).cmpTruncate n

/-- The frame that ends leaves the head in self-refresh (R291). -/
def State.psrDecide (s : State) (n : Nat) : State × Bool :=
  let x := s.scnOf n
  let p := s.rd (SCN_PSR n)
  let c := s.cmpOf n
  if !x.open_ || s.fld (SCN_CFG n) SCN_CFG_PROTO != 5 || !bitOf p 0 || !x.psrSink || s.scnState n != 1 then
    ((s.setCmp n { c with chg := false }).setScn n { x with idle := 0 }, false)
  else
    let idle := if c.chg then 0 else x.idle + 1
    let s := s.setCmp n { c with chg := false }
    if max 2 (SCN_PSR_IDLE_FRAMES.get p) ≤ idle then
      let s := (s.setScn n { x with idle := 0, open_ := false }).setScnState n 5
      ((s.inc (SCN_PSR_CNT n)).raise 441 (scnBid n), true)
    else (s.setScn n { x with idle := idle }, false)

/-- The ST 352 payload identifier of a head (R287): SCN_ST352, or the one derived where it reads 0. -/
def State.scnId (s : State) (n : Nat) : Word :=
  let x := s.scnOf n
  if s.rd (SCN_ST352 n) = 0 then Config.st352 (s.rd (SCN_CFG n)) x.tim.hact x.tim.vact x.tim.div x.tim.fmt else s.rd (SCN_ST352 n)

/-- A frame starts in a running head. -/
def State.scnOpen (s : State) (n : Nat) : State :=
  let x := s.scnOf n
  let s := s.incWrap (SCN_FRAME n)
  let tc := s.rd (SCN_TC n)
  let cfg := s.rd (SCN_CFG n)
  let tcOut := if SCN_CFG_PROTO.get cfg = 1 && bitOf tc 31 then some (tc &&& 0x3FFFFFFF) else none
  let s := s.emit (.scanFrame n (s.rd (SCN_FRAME n)) tcOut (if SCN_CFG_PROTO.get cfg = 1 then s.scnId n else 0) (s.scnPackets n))
  let s := if bitOf tc 30 then s.wr (SCN_TC n) (tcNext x.tim.fps tc) else s
  s.setScn n { x with
    open_ := true, line := 0, codes := [], tc := tc, waitSlot := false, skip := x.skip - 1, shown := x.again, again := [],
    checked := s.bit (SCN_WAKE_CFG n) SCN_WAKE_CFG_EN && x.skip == 0 }

/-- The compositor starts its frame with the head, unless the head repeats a frame (R123). -/
def State.scnCompose (s : State) (n : Nat) : State := if s.fsync n || !(s.scnOf n).shown.isEmpty then s else s.cmpFrameStart n

/-- A frame start of a head (R277, R283, R284). -/
def State.scnFrameStart (s : State) (n : Nat) : State :=
  let (s, psr) := s.psrDecide n
  if psr then s
  else match s.scnState n with
    | 1 => (s.scnOpen n).scnCompose n
    | 3 => (s.scnStopped n).scnOpen n
    | 4 =>
      let x := s.scnOf n
      if x.startReq then
        let s := ((s.setFld (SCN_STATUS n) SCN_STATUS_STOP_REASON 0).setScnState n 1).setScn n { x with startReq := false, fresh := true }
        (s.scnOpen n).scnCompose n
      else s.scnOpen n
    | _ => s

/-- Row SCN_FRAME_START. -/
def execScnFrameStart (n : Fin 4) (s : State) : Res :=
  .next (if s.scnOn n && s.running (scnBid n) && !(s.scnOf n).waitSlot then s.settle (s.scnFrameStart n) else s)

/-- The output frame-start slot delivers to a head, with the error in pixel clocks (R284). -/
def State.scnDelivery (s : State) (n : Nat) (err : Int) : State :=
  let st := s.scnState n
  if s.fld (SCN_SYNC n) SCN_SYNC_MODE = 0 || !s.scnOn n || st = 0 || st = 2 || st = 5 then s
  else
    let x := s.scnOf n
    let s := s.wr (SCN_PHASE n) (wOfInt err)
    let small := decide (err.natAbs < 16)
    let run := if small then min 8 (x.lockRun + 1) else 0
    let s := s.setScn n { x with lockRun := run }
    let s := if run = 8 && !s.bit (SCN_STATUS n) SCN_STATUS_LOCKED then (s.setBit (SCN_STATUS n) SCN_STATUS_LOCKED true).raise 439 (scnBid n) else s
    if x.waitSlot then s.scnFrameStart n
    else if max 1 (s.fld (SCN_SYNC n) SCN_SYNC_SNAP) * x.tim.hTotal < err.natAbs then
      let s := ((s.scnTruncate n).inc (SCN_REALIGN_CNT n)).raise 437 (scnBid n)
      s.scnFrameStart n
    else s

/-- Row SCN_DELIVERY_TIMEOUT: no delivery for 2 frame periods (R284). -/
def execScnDeliveryTimeout (n : Fin 4) (s : State) : Res :=
  .next (if s.fld (SCN_SYNC n) SCN_SYNC_MODE = 1 && s.scnOn n then
      ((s.setBit (SCN_STATUS n) SCN_STATUS_LOCKED false).setScn n { s.scnOf n with lockRun := 0 }).raise 438 (scnBid n)
    else s)

/-- Row SCN_PLL_LOCKED: the PLL relocks, `us` microseconds after HOLD began (R281, R282). -/
def execScnPllLocked (n : Fin 4) (us : BitVec 8) (s : State) : Res :=
  .next (
    if s.scnState n ≠ 2 then s
    else s.settle (
      let x := s.scnOf n
      let s := (s.inc (SCN_RELOCK_CNT n)).raise 434 (scnBid n) [w32 us.toNat]
      let s := s.setScn n { x with black := false, stopAfter := false }
      if x.black then s.setScnState n 4
      else if x.stopAfter then s.scnStopped n
      else
        let s := s.setScnState n 1
        if s.fld (SCN_SYNC n) SCN_SYNC_MODE = 1 then s.setScn n { s.scnOf n with waitSlot := true } else s.scnFrameStart n))

/-- Row SCN_RELOCK_TIMEOUT: the PLL has not locked by 200 µs (R281). -/
def execScnRelockTimeout (n : Fin 4) (s : State) : Res :=
  .next (
    if s.scnState n ≠ 2 then s
    else
      let s := if s.fld (SCN_STATUS n) SCN_STATUS_STOP_REASON = 0 then s.setFld (SCN_STATUS n) SCN_STATUS_STOP_REASON 2 else s
      ((s.setScn n { s.scnOf n with black := false, stopAfter := false }).setScnState n 4).raise 435 (scnBid n))

/-! ### Output samples (R285) -/

/-- The component codes of a line, in full resolution before chroma subsampling: luma codes and Cb and Cr values, or the codes of R, G and B. -/
def rgbCodes (t : ScnTiming) (line : List Rgba) : List (List Nat) :=
  let full := SCN_FMT_RANGE.get t.fmt == 1
  let q (v : Word) : Nat := uncounted (quantY full t.depth v)
  [line.map (fun p => q p.r), line.map (fun p => q p.g), line.map (fun p => q p.b)]

/-- Y′, Cb and Cr of a line. -/
def lineYcc (t : ScnTiming) (line : List Rgba) : List (Word × Word × Word) :=
  line.map (fun p => uncounted (yCbCr (SCN_FMT_GAMUT.get t.fmt == 1) p.r p.g p.b))

/-- The codes of one line; `above` is the line before it, with which 4:2:0 chroma is averaged on odd lines (R245, R285). -/
def lineCodes (t : ScnTiming) (y : Nat) (above line : List Rgba) : List (List Nat) :=
  if t.sampling = 2 then rgbCodes t line
  else
    let full := SCN_FMT_RANGE.get t.fmt == 1
    let px := lineYcc t line
    let qy := px.map (fun e => uncounted (quantY full t.depth e.1))
    let qc (l : List Word) : List Nat := l.map (fun v => uncounted (quantC full t.depth v))
    match t.sampling with
    | 1 => [qy, qc (px.map (·.2.1)), qc (px.map (·.2.2))]
    | 0 => [qy, qc (uncounted (chromaH (px.map (·.2.1)))), qc (uncounted (chromaH (px.map (·.2.2))))]
    | _ =>
      if y % 2 = 0 then [qy, [], []]
      else
        let pa := lineYcc t above
        let avg (f : Word × Word × Word → Word) : List Nat :=
          qc (uncounted (zipVec (fun a b => do cDiv (← cAdd a b) (fpInt 2)) (uncounted (chromaH (pa.map f))) (uncounted (chromaH (px.map f)))))
        [qy, avg (·.2.1), avg (·.2.2)]

/-- The codes of a wake-check point (R292). -/
def pointCodes (t : ScnTiming) (codes : List (List (List Nat))) (row col : Nat) : List Nat :=
  let at_ (r c i : Nat) : Nat := ((((codes[r]?).getD [])[i]?).getD [])[c]?.getD 0
  match t.sampling with
  | 0 => [at_ row col 0, at_ row (col / 2) 1, at_ row (col / 2) 2]
  | 3 => let r := row / 2 * 2 + 1; [at_ row col 0, at_ r (col / 2) 1, at_ r (col / 2) 2]
  | _ => [at_ row col 0, at_ row col 1, at_ row col 2]

/-- The signature of a frame (R292). -/
def State.wakeSig (s : State) (n : Nat) : Word :=
  let x := s.scnOf n
  let c := s.rd (SCN_WAKE_CFG n)
  let gx := if SCN_WAKE_CFG_GX.get c = 0 then 32 else SCN_WAKE_CFG_GX.get c
  let gy := if SCN_WAKE_CFG_GY.get c = 0 then 18 else SCN_WAKE_CFG_GY.get c
  let t := x.tim
  crc32c ((List.range gy).flatMap (fun j => (List.range gx).flatMap (fun i =>
    (pointCodes t x.codes ((2 * j + 1) * t.vActive / (2 * gy)) ((2 * i + 1) * t.hActive / (2 * gx))).flatMap (leBytes 2))))

/-- RUN of SCN_WAKE_STATUS. -/
def scnRun : Fld := ⟨13, 8⟩

/-- The wake check at the end of a frame's active lines (R292, R293). -/
def State.wakeCheck (s : State) (n : Nat) : State :=
  let x := s.scnOf n
  if !x.checked then s
  else
    let sig := s.wakeSig n
    let s := (s.wr (SCN_WAKE_SIG n) sig).setScn n { x with ref := some sig, fresh := false, checked := false }
    if x.fresh || x.ref.isNone then s
    else
      let run := if x.ref = some sig then min 63 (s.fld (SCN_WAKE_STATUS n) scnRun + 1) else 0
      let c := s.rd (SCN_WAKE_CFG n)
      let k := clampNat 1 60 (SCN_WAKE_CFG_K.get c)
      if bitOf c 1 && k ≤ run then
        let s := (s.setFld (SCN_WAKE_STATUS n) scnRun 0).setFld (SCN_WAKE_STATUS n) ⟨0, 0⟩ 1
        (s.inc (SCN_WAKE_CNT n)).raise 440 (scnBid n) [w32 n, s.rd (SCN_FRAME n)]
      else s.setFld (SCN_WAKE_STATUS n) scnRun run

/-- One output line (R283 to R285): composed by the compositor, or black in a stopped head. -/
def State.scnLine (s : State) (n : Nat) (missed : List (Nat × Nat)) : State :=
  let x := s.scnOf n
  let st := s.scnState n
  let t := x.tim
  if !x.open_ || t.vActive ≤ x.line || !(st = 1 || st = 3 || st = 4) then s
  else if !x.shown.isEmpty then
    let codes := x.shown.getD x.line []
    (s.setScn n { x with line := x.line + 1, codes := x.codes ++ [codes] }).emit (.scanLine n x.line codes)
  else
    let above := (s.cmpOf n).lines.getLast?
    let prev := match above with | some l => paintLine (s.cmpOf n).paint (x.line - 1) l | none => List.replicate t.hActive ⟨0, 0, 0, fpOne⟩
    let (s, line) := if st = 4 then (s, List.replicate t.hActive ⟨0, 0, 0, fpOne⟩) else s.cmpLine n x.line missed
    let codes := lineCodes t x.line prev line
    let s := (s.setScn n { x with line := x.line + 1, codes := x.codes ++ [codes] }).emit (.scanLine n x.line codes)
    let s := s.embedLine n t.rate.1 t.rate.2 t.vActive
    if x.line + 1 = t.vActive && st != 4 then s.wakeCheck n else s

/-- Row SCN_LINE: the head pulls one line; `missed` gives the memory layers whose data did not arrive, and the pixel from which (R262). -/
def execScnLine (n : Fin 4) (missed : List (Nat × Nat)) (s : State) : Res :=
  .next (if s.scnOn n && s.running (scnBid n) then s.settle (s.scnLine n missed) else s)

/-! ### Sideband and link (R290) -/

/-- A write of SCN_SB_CTRL: GO starts an access; a GO while BUSY is discarded. -/
def State.sbWrite (s : State) (n : Nat) (v : Word) : State :=
  let old := s.rd (SCN_SB_CTRL n)
  let busy := bitOf old 2
  let s := if busy then s else s.wr (SCN_SB_CTRL n) ((v &&& 0x1F02) ||| (old &&& 0x8))
  if !bitOf v 0 || busy then s
  else
    let len := bitsOf v.toNat 12 8 + 1
    let data := (wordsBytes ((List.range 4).map (fun i => s.rd (SCN_SB_DATA n i)))).take (min 16 len)
    let s := s.wr (SCN_SB_CTRL n) (putBit (putBit (s.rd (SCN_SB_CTRL n)) 2 true) 3 false)
    s.emit (.sideband n (bitOf v 1) (bitsOf (s.rd (SCN_SB_ADDR n)).toNat 19 0) (if bitOf v 1 then data else []))

/-- Row SCN_SB_GO. -/
def execScnSbGo (n : Fin 4) (v : Word) (s : State) : Res := .next (s.hostDo (SCN_SB_CTRL n) true (·.sbWrite n v))

/-- Row SCN_SB_DONE: the access completes, with NACK if it failed; a read's bytes go to the data registers. -/
def execScnSbDone (n : Fin 4) (ok : Bool) (data : BitVec 128) (s : State) : Res :=
  .next (
    let c := s.rd (SCN_SB_CTRL n)
    if !bitOf c 2 then s
    else
      let s := s.wr (SCN_SB_CTRL n) (putBit (putBit c 2 false) 3 (!ok))
      if ok && !bitOf c 1 then
        let len := min 16 (bitsOf c.toNat 12 8 + 1)
        let old := wordsBytes ((List.range 4).map (fun i => s.rd (SCN_SB_DATA n i)))
        let bytes := (leBytes 16 data.toNat).take len ++ old.drop len
        (List.range 4).foldl (fun s i => s.wr (SCN_SB_DATA n i) (w32 (leAt bytes (4 * i) 4))) s
      else s)

/-- The head's link goes idle (R290). -/
def State.scnLinkDown (s : State) (n : Nat) : State :=
  ((s.setBit (SCN_STATUS n) SCN_STATUS_LINK_UP false).raise 444 (scnBid n))

/-- Row HPD_CHANGE: hot-plug detect changes level after its filter. HPD high takes the quads of the head's link out of DETECT (R431); HPD low fails the
link (R290, R432). -/
def execHpdChange (n : Fin 4) (level : Bool) (s : State) : Res :=
  .next (s.settle (
    let old := s.bit (SCN_STATUS n) SCN_STATUS_HPD
    let qs := (s.scnQuads n).filter (fun q => s.quadProto q == 4 || s.quadProto q == 5)
    let t := s.setBit (SCN_STATUS n) SCN_STATUS_HPD level
    if old && !level then (qs.foldl (fun s q => s.quadFail q) t).scnLinkDown n
    else if level then qs.foldl (fun s q => s.quadDetect q) t
    else t))

/-- Row SCN_LINK_TRAINED: link training completes (`ok`) or fails; `psr` tells whether the sink's DPCD reports self-refresh. -/
def execScnLinkTrained (n : Fin 4) (ok psr : Bool) (s : State) : Res :=
  .next (
    if !ok then s.scnLinkDown n
    else
      let edp := s.fld (SCN_CFG n) SCN_CFG_PROTO == 5
      let s := (s.setBit (SCN_STATUS n) SCN_STATUS_LINK_UP true).setScn n { s.scnOf n with psrSink := edp && psr }
      let s := s.setBit (SCN_STATUS n) SCN_STATUS_PSR_UNSUP (edp && !psr && s.bit (SCN_PSR n) SCN_PSR_EN)
      s.raise 445 (scnBid n))

/-! ### Checks of a commit (R275, R279, R288) -/

/-- Protocol, rate and lane codes of R275. -/
def scnCodesOk (c : Word) : Bool :=
  let r := SCN_CFG_RATE.get c
  let l := SCN_CFG_LANES.get c
  let quad := SCN_CFG_QUAD.get c == 1
  match SCN_CFG_PROTO.get c with
  | 0 => true
  | 1 => decide (r ≤ 3) && (if quad then r == 3 && l == 4 else l == 1)
  | 2 => l == 4 && !quad
  | 3 => decide (1 ≤ r) && decide (r ≤ 6) && l == (frlRate r).1 && !quad
  | 4 => decide (1 ≤ r) && decide (r ≤ 7) && (l == 1 || l == 2 || l == 4) && !quad
  | 5 => ((decide (1 ≤ r) && decide (r ≤ 4)) || (decide (8 ≤ r) && decide (r ≤ 11))) && (l == 1 || l == 2 || l == 4) && !quad
  | _ => false

/-- Channel count and port rates of R288. -/
def State.scnAudioOk (v : State) (n : Nat) : Bool :=
  let a := v.rd (SCN_AUD n)
  let c := v.rd (SCN_CFG n)
  let ch := SCN_AUD_CHANNELS.get a
  let fs (p : Nat) : Nat := (v.rd (AUD_P_FS p)).toNat
  let ports := if 16 < ch then [SCN_AUD_PORT_A.get a, SCN_AUD_PORT_B.get a] else [SCN_AUD_PORT_A.get a]
  let fill := SCN_AUD_FILL_US.get a
  if !bitOf a 8 then true
  else (fill == 0 || (decide (250 ≤ fill) && decide (fill ≤ 4000))) && decide (2 ≤ ch) &&
    (match SCN_CFG_PROTO.get c with
     | 1 => decide (ch ≤ (if SCN_CFG_RATE.get c ≤ 1 then 16 else 32)) && ports.all (fun p => fs p == 48000)
     | 2 | 3 => (ch == 2 || ch == 8) && ports.all (fun p => decide (32000 ≤ fs p) && decide (fs p ≤ 192000))
     | _ => decide (ch ≤ 8) && ports.all (fun p => decide (32000 ≤ fs p) && decide (fs p ≤ 192000)))

/-- A scan-out head at step 4. -/
def chkScn (v : State) (n : Nat) : Option Nat :=
  let c := v.rd (SCN_CFG n)
  if !bitOf c 16 then none
  else if !scnCodesOk c then some 0x0401
  else if SCN_CFG_PROTO.get c = 0 then none
  else
    let l0 := v.layerShadow n 0
    let live := if l0.on && l0.src = 0 then (v.livePath n).map v.lkpHead else none
    match v.timingCheck n (v.scnShadow n) live with
    | some k => some k
    | none => if v.scnAudioOk n then none else some 0x0401

end Sys2Proof.Machine
end

