-- ==== Sys2Proof/Machine/Landing.lean ====
section
/-! DEFINITION. Quads, the PCIe endpoint's window on GDDR7 and its DMA channels (R430 to R438). Rows 189 to 196 and 266, without Ethernet frames. -/

namespace Sys2Proof.Machine

/-! ### Ethernet ports on quads (R445) -/

/-- MODE of a port. -/
def State.ethMode (s : State) (p : Nat) : Nat := bitsOf (s.rd (ETH_P_CFG p)).toNat 1 0

/-- A group of ports has a port in use. -/
def State.ethGroupOn (s : State) (g : Nat) : Bool := (List.range 4).any (fun i => s.ethMode (4 * g + i) != 0)

/-- The quads that carry Ethernet. -/
def State.ethQuads (s : State) : List Nat := (List.range 40).filter (fun q => s.quadProto q == 6 || s.quadProto q == 7)

/-- The quad of a port: the groups in use take the Ethernet quads in ascending order (log entry 54). -/
def State.ethQuad (s : State) (p : Nat) : Nat :=
  let g := p / 4
  (s.ethQuads[if g = 1 && s.ethGroupOn 0 then 1 else 0]?).getD 0

/-- BLOCK_ID that raises a port's events (R524). -/
def State.ethBid (s : State) (p : Nat) : Nat := 0x0B00 + s.ethQuad p

/-- The ports in use on a quad. -/
def State.quadPorts (s : State) (q : Nat) : List Nat :=
  (List.range 8).filter (fun p => s.ethMode p != 0 && s.ethQuads.contains q && s.ethQuad p == q)

/-- LINK_UP of a port. -/
def State.ethUp (s : State) (p : Nat) : Bool := bitOf (s.rd (ETH_P_STATUS p)) 0

/-- The transmit direction of a port sleeps or wakes (R433). -/
def State.ethTxSleep (s : State) (p : Nat) (b : Bool) : State :=
  let q := s.ethQuad p
  let s := s.setFld (ETH_P_STATUS p) ⟨1, 1⟩ (b2n b)
  s.setFld (LND_Q_STATUS q) ⟨8 + p % 4, 8 + p % 4⟩ (b2n b)

/-- A frame is queued or sent: the transmit direction wakes. -/
def State.ethWake (s : State) (p : Nat) : State := if bitOf (s.rd (ETH_P_STATUS p)) 1 then s.ethTxSleep p false else s

/-! ### Root ports (R359, R360) -/

/-- The root port whose link a quad carries. -/
def State.quadNvr (s : State) (q : Nat) : Option Nat :=
  (List.range 4).find? (fun p => bitOf (s.rd (NVR_CFG p)) 0 && s.nvQuad p == q)

/-- A root port's link is up and its controller ready: what the drive is shows in NVR_STATUS and NVR_CAP, and event 848 is raised. -/
def State.nvUp (s : State) (p : Nat) (d : DriveId) : State :=
  let s := s.setNv p { s.nvOf p with drive := some d }
  let v := ((NVR_STATUS_SPEED.put 0 d.speed) ||| (NVR_STATUS_WIDTH.put 0 d.width)) ||| w32 (7 + 8 * b2n (!d.fmtOk))
  let s := s.wr (NVR_STATUS p) v
  let s := (s.wr (NVR_CAP_LO p) (w32 d.blocks)).wr (NVR_CAP_HI p) (w32 (d.blocks / 4294967296))
  s.raise 848 (s.nvBid p)

/-- A root port's link is gone: its commands end without completion. -/
def State.nvGone (s : State) (p : Nat) : State := (s.setNv p { s.nvOf p with cmds := [], drive := none }).wr (NVR_STATUS p) 0

/-! ### Links (R431, R432) -/

/-- A quad's training is complete: the stages its protocol passes, ACTIVE and event 770, and what its owner then does. `lanes` are the lanes that
locked, `gen` and `width` what a PCIe link trained at, and `d` the drive on a root port. -/
def State.quadUp (s : State) (q gen width lanes : Nat) (d : DriveId) : State :=
  let proto := s.quadProto q
  if !s.quadOn q || !(s.quadStage q == 1 || s.quadStage q == 2) then s
  else
    let s := s.setFld (LND_Q_STATUS q) ⟨7, 4⟩ lanes
    let s := if proto = 6 || proto = 7 || proto = 8 then s.setQuadStage q 2 else if proto = 2 then s.setQuadStage q 3 else s
    let s := (s.setQuadStage q 4).raise 770 (0x0B00 + q)
    if proto = 1 then s.wr LND_EP_LINK (w32 (gen % 16 + 16 * (width % 32)))
    else if proto = 2 then
      match s.quadNvr q with
      | some p => s.nvUp p { d with speed := gen, width := width }
      | none => s
    else if proto = 6 || proto = 7 then
      ((s.quadPorts q).filter (fun p => proto == 7 || lanes.testBit (p % 4))).foldl (fun s p =>
        (s.setFld (ETH_P_STATUS p) ⟨0, 0⟩ 1).raise 816 (s.ethBid p)) s
    else s

/-- Row QUAD_LINK_UP. -/
def execQuadLinkUp (q : Fin 40) (gen : BitVec 4) (width : BitVec 5) (lanes : BitVec 4) (d : DriveId) (s : State) : Res :=
  .next (s.settle (s.quadUp q gen.toNat width.toNat lanes.toNat d))

/-- A port's link is gone: both directions are awake (R446). -/
def State.ethGone (s : State) (p : Nat) : State := s.wr (ETH_P_STATUS p) (s.rd (ETH_P_STATUS p) &&& 0xFFFFFFF8)

/-- A quad's link fails (R432): it returns to DETECT, and its owner acts under its own chapter. -/
def State.quadLinkDown (s : State) (q : Nat) : State :=
  let proto := s.quadProto q
  if !s.quadOn q || s.quadStage q != 4 then s
  else
    let ports := (s.quadPorts q).filter s.ethUp
    let s := s.quadFail q
    if proto = 1 then s.wr LND_EP_LINK 0
    else if proto = 2 then
      match s.quadNvr q with
      | some p => ((s.nvGone p).raise 849 (s.nvBid p)).mediaError p
      | none => s
    else if proto = 4 || proto = 5 then
      match s.quadScn q with
      | some n => s.scnLinkDown n
      | none => s
    else ports.foldl (fun s p => (s.ethGone p).raise 817 (s.ethBid p)) s

/-- Row QUAD_LINK_DOWN. -/
def execQuadLinkDown (q : Fin 40) (s : State) : Res := .next (s.settle (s.quadLinkDown q))

/-- Row QUAD_TRAIN_TIMEOUT: TRAIN and LOCK together lasted LND_Q_TRAIN_TMO; the quad waits before DETECT (R432). -/
def execQuadTrainTimeout (q : Fin 40) (s : State) : Res :=
  .next (
    if s.quadOn q && (s.quadStage q == 1 || s.quadStage q == 2) then
      s.settle (((s.setQuadWaiting q true).raise 771 (0x0B00 + q.val)).setQuadStage q 0)
    else s)

/-- Row QUAD_RETRY_DETECT: the wait ends. -/
def execQuadRetryDetect (q : Fin 40) (s : State) : Res := .next (s.setQuadWaiting q false)

/-- Row QUAD_SIGNAL_DETECT: the quad finds its link partner (R431); on HDMI and DisplayPort this is a high HPD of its head. -/
def execQuadSignalDetect (q : Fin 40) (s : State) : Res :=
  .next (
    if s.quadProto q == 4 || s.quadProto q == 5 then
      match s.quadScn q with
      | some n => if s.bit (SCN_STATUS n) SCN_STATUS_HPD then s.quadDetect q else s
      | none => s
    else s.quadDetect q)

/-- Row ETH_LPI_ENTRY: ETH_P_LPI_US passed with no frame queued (R433). -/
def execEthLpiEntry (p : Fin 8) (s : State) : Res :=
  .next (
    let idle := (List.range 4).all (fun i => !bitOf (s.rd (ETH_Q_CFG p i)) 8 || s.rd (ETH_Q_HEAD p i) == s.rd (ETH_Q_TAIL p i))
    if s.ethMode p == 2 && bitOf (s.rd (ETH_P_CFG p)) 9 && s.ethUp p && idle then s.ethTxSleep p true else s)

/-- A Rig apply that lists a quad restarts its link in that clock (R432), and raises no event 769; SDI is ACTIVE at once (R431). -/
def State.lndApplyConfig (s : State) (q : Nat) : State :=
  let was := s.quadStage q
  let s := s.setQuadWaiting q false
  let s := s.wr (LND_Q_STATUS q) (s.rd (LND_Q_STATUS q) &&& 0xFF000007)
  let s := match s.quadNvr q with | some p => s.nvGone p | none => s
  let s := (s.quadPorts q).foldl (fun s p => s.ethGone p) s
  let s := if was = 0 then s else s.setQuadStage q 0
  if s.quadProto q = 3 && s.quadOn q then
    ([1, 2, 3, 4].foldl (fun s k => s.setQuadStage q k) s).raise 770 (0x0B00 + q)
  else s

/-- A quad stops (R32). -/
def State.quadStop (s : State) (q code : Nat) : State :=
  let s : State := if bitsOf (s.rd (LND_Q_STATUS q)).toNat 23 16 = 0 then s.setFld (LND_Q_STATUS q) ⟨23, 16⟩ code else s
  let ports := (s.quadPorts q).filter s.ethUp
  let s : State := ports.foldl (fun s p =>
    let s : State := (s.ethGone p).raise 817 (s.ethBid p)
    if bitsOf (s.rd (ETH_P_STATUS p)).toNat 15 8 = 0 then s.setFld (ETH_P_STATUS p) ⟨15, 8⟩ code else s) s
  let s : State := match s.quadNvr q with
    | some p => if (s.nvOf p).drive.isSome then ((s.nvGone p).raise 849 (s.nvBid p)).mediaError p else s
    | none => s
  let s : State := match s.quadScn q with
    | some n => if s.bit (SCN_STATUS n) SCN_STATUS_LINK_UP then s.scnLinkDown n else s
    | none => s
  let s : State := if s.quadStage q = 4 then (s.inc (LND_Q_DOWN_CNT q)).raise 769 (0x0B00 + q) else s
  let s : State := s.wr (LND_Q_STATUS q) (s.rd (LND_Q_STATUS q) &&& 0xFFFF0007)
  s.setQuadStage q 5

/-- A quad at step 4 (R430). -/
def chkQuad (v : State) (q : Nat) : Option Nat :=
  let p := v.quadProto q
  if (q < 2 && p != 1) || (2 ≤ q && p == 1) || 9 ≤ p then some 0x0401 else none

/-- The Ethernet ports and video streams at step 4 (R445, R450): modes and FEC, one quad to each group in use, and formats that ST 2110-20 carries. -/
def chkEth (v : State) : Option Nat :=
  let bad (p : Nat) : Bool :=
    let m := v.ethMode p
    let fec := bitsOf (v.rd (ETH_P_CFG p)).toNat 5 4
    (m == 1 && fec != 0) || (m == 2 && fec == 3) || (m == 3 && (fec != 2 || p % 4 != 0)) ||
      (m != 0 && p % 4 != 0 && v.ethMode (p / 4 * 4) == 3)
  let groups := (List.range 2).filter v.ethGroupOn
  let short := decide (v.ethQuads.length < groups.length)
  let wrong := groups.any (fun g => v.quadProto (v.ethQuad (4 * g)) != (if v.ethMode (4 * g) == 3 then 7 else 6))
  let src (n : Nat) : Bool :=
    let i := v.sendInst n
    if !bitOf (v.rd (ETH_S_CFG n)) 0 || v.sendType n != 0 then false
    else
      match bitsOf (v.rd (ETH_S_CFG n)).toNat 15 12 with
      | 0 => LKP_WR_CFG_FMT.get (v.rd (LKP_WR_CFG i)) == 0
      | 1 => CMP_WB_CFG_FMT.get (v.rd (CMP_WB_CFG i)) == 0 || CMP_WB_CFG_FMT.get (v.rd (CMP_WB_CFG i)) == 3
      | 2 => false
      | _ => true
  if (List.range 8).any bad || short || wrong || (List.range 32).any src then some 0x0401 else none

/-! ### BAR2 (R436) -/

/-- A host request to the BAR2 window: performed whole, or not at all, and then latched, counted and reported. -/
def State.bar2 (s : State) (write : Bool) (off : Nat) (data : List Byte) (len : Nat) : State :=
  let size := 2 ^ s.lnd.bar2Log
  let n := if write then data.length else len
  if !s.hostUp || size ≤ off then s
  else
    let a := s.rd64 LND_BAR2_BASE_LO LND_BAR2_BASE_HI / size * size + off
    if s.g7Span a n then (if write then s.memWrite a data else s.emit (.bar2Data (s.memRead a n)))
    else
      let s := if write then s else s.emit (.bar2Data (List.replicate n 0))
      let s := if bitOf (s.rd LND_BAR2_FAULT) 31 then s
        else s.wr LND_BAR2_FAULT (w32 (0x80000000 + 0x40000000 * b2n write + off / 64 % 1073741824))
      (s.inc LND_BAR2_FAULT_CNT).raise 772 0x0B00

/-- Row BAR2_ACCESS: a write of `data`, or a read of `len` bytes. -/
def execBar2Access (write : Bool) (off : BitVec 36) (data : List Byte) (len : BitVec 13) (s : State) : Res :=
  .next (s.bar2 write off.toNat data len.toNat)

/-- A host write of a half of LND_BAR2_BASE: bits below the BAR2 size read 0. -/
def State.bar2Base (s : State) (hi : Bool) (v : Word) : State :=
  let size := 2 ^ s.lnd.bar2Log
  if hi then s.wr LND_BAR2_BASE_HI (w32 (v.toNat * 4294967296 / size * size / 4294967296))
  else s.wr LND_BAR2_BASE_LO (w32 (v.toNat / size * size))

/-! ### Host DMA (R438) -/

/-- Descriptors in the ring of a channel. -/
def State.dmaRing (s : State) (k : Nat) : Nat := 2 ^ bitsOf (s.rd (LND_D_CFG k)).toNat 3 0

/-- A write of LND_D_TAIL. -/
def State.dmaTail (s : State) (k : Nat) (v : Word) : State :=
  let t := v.toNat % 4096
  if s.dmaRing k ≤ t then s.setFld (LND_D_STATUS k) ⟨0, 0⟩ 1 else s.wr (LND_D_TAIL k) (w32 t)

/-- Row HOST_DMA_SUBMIT. -/
def execHostDmaSubmit (k : Fin 32) (v : Word) (s : State) : Res := .next (s.hostDo (LND_D_TAIL k) true (·.dmaTail k v))

/-- The descriptor at the head of a channel completes: its 32 bytes as the host wrote them, the bytes read from host memory, and whether PCIe answered
with an error. A failed one sets ERR and raises event 774, a good one with DFLAGS [1] event 773, and both send the channel's vector (log entry 55). -/
def State.dmaDone (s : State) (k : Nat) (desc data : List Byte) (err : Bool) : State :=
  let h := (s.rd (LND_D_HEAD k)).toNat
  if !s.hostUp || !bitOf (s.rd (LND_D_CFG k)) 8 || h == (s.rd (LND_D_TAIL k)).toNat then s
  else
    let host := leAt desc 0 8
    let a := leAt desc 8 8
    let n := leAt desc 16 4
    let fl := leAt desc 20 1
    let ok := s.g7Span a n && decide (1 ≤ n) && decide (n ≤ 67108864)
    let st := if !ok then 2 else if err then 3 else 1
    let s := if !ok then s
      else if fl % 2 = 0 then s.memWrite a (data.take n)
      else if err then s else s.emit (.hostWrite host (s.memRead a n))
    let base := s.rd64 (LND_D_BASE_LO k) (LND_D_BASE_HI k) / 64 * 64
    let s := s.emit (.hostWrite (base + 32 * h + 21) (leBytes 1 st))
    let s := (s.wr (LND_D_HEAD k) (w32 ((h + 1) % s.dmaRing k))).incWrap (LND_D_DONE k)
    let s := if st = 1 then (if fl / 2 % 2 = 1 then s.raise 773 0x0B00 else s)
      else (s.setFld (LND_D_STATUS k) ⟨1, 1⟩ 1).raise 774 0x0B00
    if st = 1 && fl / 2 % 2 = 0 then s else s.msixSend (bitsOf (s.rd (LND_D_CFG k)).toNat 26 16)

/-- Row HOST_DMA_DESC_DONE. -/
def execHostDmaDescDone (k : Fin 32) (desc data : List Byte) (err : Bool) (s : State) : Res := .next (s.dmaDone k desc data err)

end Sys2Proof.Machine
end

