-- ==== Sys2Proof/Machine/Packets.lean ====
section
/-! DEFINITION. Ethernet frames as bytes: addresses, VLAN tag, IP and UDP headers, Internet checksums, PTP event messages, and the headers of an RTP
packet (R446 to R452). Field layouts are those of IEEE 802.3, IPv4, IPv6, UDP and RTP, which the spec names (log entry 56). -/

namespace Sys2Proof.Machine

/-- `n` big-endian bytes at an offset, as a number. -/
def beAt (bs : List Byte) (off n : Nat) : Nat := leNat ((bs.drop off).take n).reverse

/-- Bytes replaced from an offset upwards. -/
def putBytes (bs : List Byte) (off : Nat) (v : List Byte) : List Byte := bs.take off ++ v ++ bs.drop (off + v.length)

/-- The frame carries an 802.1Q tag. -/
def frTagged (f : List Byte) : Bool := beAt f 12 2 == 0x8100

/-- Offset of the payload behind the EtherType. -/
def frL3 (f : List Byte) : Nat := if frTagged f then 18 else 14

/-- The EtherType, behind a tag where there is one. -/
def frType (f : List Byte) : Nat := beAt f (frL3 f - 2) 2

/-- What a frame's IP header says: offsets of the IP header and of layer 4, protocol, length of layer 4, source and destination address. -/
structure IpInfo where
  v6 : Bool
  ip : Nat
  l4 : Nat
  proto : Nat
  len : Nat
  src : List Byte
  dst : List Byte

/-- The IP header of a frame, where it has one. -/
def frIp (f : List Byte) : Option IpInfo :=
  let o := frL3 f
  if frType f = 0x0800 then
    let ihl := beAt f o 1 % 16 * 4
    some ⟨false, o, o + ihl, beAt f (o + 9) 1, beAt f (o + 2) 2 - ihl, sliceAt f (o + 12) 4, sliceAt f (o + 16) 4⟩
  else if frType f = 0x86DD then some ⟨true, o, o + 40, beAt f (o + 6) 1, beAt f (o + 4) 2, sliceAt f (o + 8) 16, sliceAt f (o + 24) 16⟩
  else none

/-- The one's complement sum of 16-bit big-endian words, an odd last byte padded with 0. -/
def inetSum : List Byte → Nat → Nat
  | [], a => a
  | [b], a => let t := a + 256 * b.toNat; t % 65536 + t / 65536
  | b :: c :: r, a => let t := a + 256 * b.toNat + c.toNat; inetSum r (t % 65536 + t / 65536)

/-- The sum that covers layer 4 and its pseudo-header. -/
def l4Sum (f : List Byte) (i : IpInfo) : Nat :=
  inetSum ((f.drop i.l4).take i.len) (inetSum (i.src ++ i.dst ++ beBytes 4 i.len ++ beBytes 4 i.proto) 0)

/-- The offset of the checksum in layer 4: UDP or TCP. -/
def l4SumAt (i : IpInfo) : Option Nat := if i.proto = 17 then some (i.l4 + 6) else if i.proto = 6 then some (i.l4 + 16) else none

/-- Checksum offload of a sent frame: the IPv4 header checksum and the UDP or TCP checksum (R446). -/
def sumOffload (f : List Byte) : List Byte :=
  match frIp f with
  | none => f
  | some i =>
    let f := if i.v6 then f
      else
        let z := putBytes f (i.ip + 10) [0, 0]
        putBytes z (i.ip + 10) (beBytes 2 (65535 - inetSum ((z.drop i.ip).take (i.l4 - i.ip)) 0))
    match l4SumAt i with
    | none => f
    | some a =>
      let z := putBytes f a [0, 0]
      let c := 65535 - l4Sum z i
      putBytes z a (beBytes 2 (if c = 0 && i.proto == 17 then 65535 else c))

/-- A received frame's UDP or TCP checksum is present and right. -/
def l4Good (f : List Byte) : Bool :=
  match frIp f with
  | none => false
  | some i =>
    match l4SumAt i with
    | none => false
    | some a => !(i.proto == 17 && beAt f a 2 == 0) && l4Sum f i == 65535

/-- UDP destination port of a frame. -/
def frUdp (f : List Byte) : Option Nat :=
  match frIp f with
  | some i => if i.proto = 17 then some (beAt f (i.l4 + 2) 2) else none
  | none => none

/-- The payload of a UDP frame. -/
def frUdpData (f : List Byte) : List Byte :=
  match frIp f with
  | some i => if i.proto = 17 then (f.drop (i.l4 + 8)).take (beAt f (i.l4 + 4) 2 - 8) else []
  | none => []

/-- The frame is a PTP event message (R147, R148): over EtherType 0x88F7 or UDP port 319, messageType 0 to 3. -/
def ptpEvent (f : List Byte) : Bool :=
  if frType f = 0x88F7 then decide (beAt f (frL3 f) 1 % 16 ≤ 3)
  else frUdp f == some 319 && !(frUdpData f).isEmpty && decide (beAt (frUdpData f) 0 1 % 16 ≤ 3)

/-- A tag inserted behind the addresses. -/
def addTag (f : List Byte) (vlan : Nat) : List Byte := f.take 12 ++ beBytes 2 0x8100 ++ beBytes 2 vlan ++ f.drop 12

/-- A frame without its tag. -/
def dropTag (f : List Byte) : List Byte := if frTagged f then f.take 12 ++ f.drop 16 else f

/-- The frame that carries a UDP payload under a header template of R450: destination MAC, VLAN (0 for none), destination and source IP (IPv4 where the
last 12 bytes are 0), UDP source and destination port, DSCP and TTL. `free` fills the IPv4 identification and DF, or the IPv6 flow label. -/
def udpFrame (hdr mac : List Byte) (free : BitVec 20) (data : List Byte) : List Byte :=
  let v4 := allZero ((hdr.drop 12).take 12)
  let dscp := beAt hdr 44 1 % 64
  let ttl := sliceAt hdr 45 1
  let ulen := 8 + data.length
  let eth := hdr.take 6 ++ mac ++ (if beAt hdr 6 2 = 0 then [] else beBytes 2 0x8100 ++ sliceAt hdr 6 2) ++ beBytes 2 (if v4 then 0x0800 else 0x86DD)
  let ip := if v4 then
      [0x45] ++ beBytes 1 (4 * dscp) ++ beBytes 2 (20 + ulen) ++ beBytes 2 (free.toNat % 65536) ++ beBytes 2 (free.toNat / 65536 % 2 * 16384) ++ ttl ++
        [17] ++ [0, 0] ++ sliceAt hdr 24 4 ++ sliceAt hdr 8 4
    else beBytes 4 (6 * 268435456 + dscp * 4194304 + free.toNat) ++ beBytes 2 ulen ++ [17] ++ ttl ++ sliceAt hdr 24 16 ++ sliceAt hdr 8 16
  sumOffload (eth ++ ip ++ sliceAt hdr 40 4 ++ beBytes 2 ulen ++ [0, 0] ++ data)

/-- The 12-byte RTP header. -/
def rtpHeader (marker : Bool) (pt seq : Nat) (ts ssrc : Word) : List Byte :=
  [0x80] ++ beBytes 1 (128 * b2n marker + pt % 128) ++ beBytes 2 (seq % 65536) ++ beBytes 4 ts.toNat ++ beBytes 4 ssrc.toNat

/-- Sequence number, timestamp, marker and payload of an RTP packet, without contributing sources, extension and padding. -/
def rtpParse (d : List Byte) : Option (Nat × Word × Bool × List Byte) :=
  if d.length < 12 || beAt d 0 1 / 64 != 2 then none
  else
    let b0 := beAt d 0 1
    let o := 12 + 4 * (b0 % 16)
    let o := if b0 / 16 % 2 = 1 then o + 4 + 4 * beAt d (o + 2) 2 else o
    let pad := if b0 / 32 % 2 = 1 then beAt d (d.length - 1) 1 else 0
    some (beAt d 2 2, w32 (beAt d 4 4), beAt d 1 1 / 128 == 1, (d.drop o).take (d.length - pad - o))

end Sys2Proof.Machine
end

