-- ==== Sys2Proof/Machine/Time.lean ====
section
/-! DEFINITION. The Stroke timebases TB0 to TB3 and the PTP stamp queues (R127 to R151): rows TB0_INC_WRITE to TB3_HOLDOVER_TIMEOUT,
PTP_P_TXQ_POP, PTP_ANNOUNCE_TIMEOUT and STK_TB0_NOW_READ. -/

namespace Sys2Proof.Machine

/-! ### The half-range rule and the timebases' values -/

/-- A has reached C (R130). -/
def reached (a c : Word) : Bool := decide ((a - c).toNat < 2147483648)

/-- Lines per TB1 frame; 0 acts as 1 (R137). -/
def State.tb1Lines (s : State) : Nat := max 1 (s.fld STK_TB1_LINES STK_TB1_LINES_LINES)

/-- The source of TB1: MODE 3 acts as 0 (R135). -/
def State.tb1Mode (s : State) : Nat :=
  let m := s.fld STK_TB1_CTRL STK_TB1_CTRL_MODE
  if m = 3 then 0 else m

/-- The state of TB1 (R136): 0 OFF, 1 LOCKING, 2 LOCKED, 3 HOLDOVER. -/
def State.tb1State (s : State) : Nat := s.fld STK_TB1_CTRL STK_TB1_CTRL_STATE

/-- The MODE 2 frame period in 2^-32 ns (R137). -/
def State.tb1PeriodQ32 (s : State) : Nat :=
  (s.rd STK_TB1_PERIOD_NS).toNat * 4294967296 + (s.rd STK_TB1_PERIOD_FRAC).toNat % 65536 * 65536

/-- Elapsed 2^-16 ns in a number of ticks of 0.8 ns. -/
def q16OfTicks (t : Nat) : Nat := t * 262144 / 5

/-- TB1's frame and line (R135 to R137). In MODE 1 it runs from the last reference at the detected line period; in MODE 2 from TB0. -/
def State.tb1FrameLine (s : State) : Nat × Nat :=
  let t := s.stk.tb1
  let l := s.tb1Lines
  if s.tb1Mode = 1 then
    if t.seen && t.lineQ16 != 0 then
      let n := q16OfTicks (s.ticks - t.refTick) / t.lineQ16
      (t.frame + n / l, n % l)
    else (0, 0)
  else if s.tb1Mode = 2 then
    if t.aligned && s.tb1PeriodQ32 != 0 then
      let p := s.tb1PeriodQ32
      let d := (s.tb0 - t.start).toInt
      let k := d / (p : Int)
      ((((t.frame : Int) + k) % 262144).toNat, (d - k * p).toNat * l / p)
    else (0, 0)
  else (0, 0)

/-- The value of TB1 (R129). -/
def State.tb1Now (s : State) : Word :=
  let (f, l) := s.tb1FrameLine
  w32 (f % 262144 * 16384 + l % 16384)

/-- The value of TB3 (R129, R139): the phase runs linearly at the last measured period; in HOLDOVER cycles pass by themselves. -/
def State.tb3Now (s : State) : Word :=
  let t := s.stk.tb3
  if t.period = 0 then w32 (t.cycle % 65536 * 65536)
  else
    let e := s.ticks - t.bound
    if s.fld STK_TB3_CTRL STK_TB3_CTRL_STATE = 3 then
      w32 ((t.cycle + e / t.period) % 65536 * 65536 + e % t.period * 65536 / t.period)
    else w32 (t.cycle % 65536 * 65536 + min 65535 (e * 65536 / t.period))

/-- The value of a slot's timebase (R129): 0 TB0, 1 TB1, 2 TB2 of a head, 3 TB3. -/
def State.tbNow (s : State) (tb head : Nat) : Word :=
  if tb = 0 then s.ns else if tb = 1 then s.tb1Now else if tb = 2 then s.rd (STK_TB2_NOW head) else s.tb3Now

/-! ### The tick -/

/-- `n` ticks pass on TB0 (R131); passing 2^32 counts in ETH_TB0_WRAP (R449), and MODE 2 keeps its frame origin near (R137). -/
def State.passTicks (s : State) (n : Nat) : State :=
  if s.hlt.clocksStopped then s
  else
  let total := s.tb0.toNat + n * (s.rd STK_TB0_INC).toNat
  let wraps := total / 2 ^ 64
  let s := if wraps = 0 then s else s.wr ETH_TB0_WRAP (s.rd ETH_TB0_WRAP + w32 wraps)
  { s with tb0 := BitVec.ofNat 64 total, ticks := s.ticks + n }

/-- Bring MODE 2's frame origin to the frame in progress, so that TB0 may wrap (R137). -/
def State.tb1Sync (s : State) : State :=
  let t := s.stk.tb1
  let p := s.tb1PeriodQ32
  if s.tb1Mode = 2 && t.aligned && p != 0 then
    let k := (s.tb0 - t.start).toInt / (p : Int)
    let f := (((t.frame : Int) + k) % 262144).toNat
    { s with stk := { s.stk with tb1 := { t with frame := f, start := t.start + BitVec.ofInt 64 (k * p) } } }
  else s

/-- One tick (R127, R131). -/
def State.tick (s : State) : State := (s.passTicks 1).tb1Sync

/-- The ticks until TB0 NS reaches a value that it has not reached yet. -/
def State.ticksToNs (s : State) (c : Word) : Nat :=
  if reached s.ns c then 0
  else ceilDiv (c.toNat * 4294967296 + (if c.toNat < s.ns.toNat then 2 ^ 64 else 0) - s.tb0.toNat) (max 1 (s.rd STK_TB0_INC).toNat)

/-- Time passes until TB0 NS reaches a value. -/
def State.passToNs (s : State) (c : Word) : State := (s.passTicks (s.ticksToNs c)).tb1Sync

/-! ### Slots that a moved timebase has passed (R144) -/

/-- A slot is armed. -/
def State.armed (s : State) (n : Nat) : Bool := s.bit (STK_S_CTRL n) STK_S_CTRL_ARM

/-- The armed slots, from the listed registers. -/
def State.armedSlots (s : State) : List Nat :=
  s.regs.filterMap (fun e =>
    if 0x201000 ≤ e.1 && e.1 < 0x205000 && (e.1 - 0x201000) % 0x20 == 0x10 && bitOf e.2 0 then some ((e.1 - 0x201000) / 0x20) else none)

/-- Units of a timebase's low field in one unit of its high field (R143). -/
def State.tbRadix (s : State) (tb head : Nat) : Nat :=
  if tb = 1 then s.tb1Lines else if tb = 2 then max 1 (s.geom head).h else if tb = 3 then 65536 else 4294967296

/-- A timebase value counted in units of its low field. -/
def tbLinear (tb radix : Nat) (w : Word) : Nat :=
  if tb = 0 then w.toNat else if tb = 3 then w.toNat else w.toNat / 16384 * radix + w.toNat % 16384

/-- A count of low-field units as a timebase value. -/
def tbWord (tb radix n : Nat) : Word := if tb = 0 || tb = 3 then w32 n else w32 (n / radix % 262144 * 16384 + n % radix % 16384)

/-- COMPARE of a repeating slot after a match: one REPEAT on, or, late, the first that lies in the future; and the periods passed over (R143, R145). -/
def State.slotNext (s : State) (n : Nat) (late : Bool) : Word × Nat :=
  let tb := s.fld (STK_S_CFG n) STK_S_CFG_TB
  let h := s.fld (STK_S_CFG n) STK_S_CFG_HEAD
  let r := s.tbRadix tb h
  let wrap := if tb = 0 || tb = 3 then 4294967296 else 262144 * r
  let c := tbLinear tb r (s.rd (STK_S_COMPARE n))
  let rep := (s.rd (STK_S_REPEAT n)).toNat
  let k := if late then (tbLinear tb r (s.tbNow tb h) + wrap - c % wrap) % wrap / rep + 1 else 1
  (tbWord tb r ((c + k * rep) % wrap), k - 1)

/-- A match: the delivery is due after DELAY, a one-shot slot disarms, a repeating one goes on (R143, R145); a late match sets LATE, counts, and raises event
48 at most once per slot and round (R144). -/
def State.slotMatch (s : State) (n : Nat) (late : Bool) : State :=
  let param := s.rd (STK_S_PARAM n)
  let d : Delivery := ⟨n, s.ticks + bitsOf param.toNat 31 16, s.rd (STK_S_CFG n), param⟩
  let s := { s with stk := { s.stk with due := s.stk.due ++ [d] } }
  let s : State := if s.rd (STK_S_REPEAT n) = 0 then s.setBit (STK_S_CTRL n) STK_S_CTRL_ARM false
    else
      let (c, k) := s.slotNext n late
      (s.wr (STK_S_COMPARE n) c).inc (STK_S_SKIP n) k
  if late then ((s.setBit (STK_S_CTRL n) STK_S_CTRL_LATE true).inc STK_LATE_CNT).raiseOnce 48 n 0x0E02 [w32 n] else s

/-- An armed slot's timebase has reached its COMPARE. -/
def State.slotReached (s : State) (n : Nat) : Bool :=
  reached (s.tbNow (s.fld (STK_S_CFG n) STK_S_CFG_TB) (s.fld (STK_S_CFG n) STK_S_CFG_HEAD)) (s.rd (STK_S_COMPARE n))

/-- The armed slots on a timebase whose value has reached COMPARE now and had not before match late in this tick (R144). -/
def State.markLate (before s : State) (tb : Nat) : State :=
  let moved := s.armedSlots.filter (fun n =>
    s.fld (STK_S_CFG n) STK_S_CFG_TB == tb && s.slotReached n && !before.slotReached n)
  moved.foldl (fun s n => s.slotMatch n true) s

/-! ### TB0 -/

/-- The limits of R132. -/
def tb0IncMin : Nat := 0xCC985F07
def tb0IncMax : Nat := 0xCD013A93

/-- An increment write, clamped with event 50 (R132). -/
def State.setTb0Inc (s : State) (v : Word) : State :=
  let c := clampNat tb0IncMin tb0IncMax v.toNat
  let t := s.wr STK_TB0_INC (w32 c)
  if c = v.toNat then t else (t.setBit STK_TB0_STATUS STK_TB0_STATUS_CLAMPED true).raise 50 0x0E02

/-- TB0 is disciplined by the PTP servo (R134). -/
def State.servo (s : State) : Bool := s.bit STK_TB0_STATUS STK_TB0_STATUS_SERVO

/-- A write of STK_TB0_INC by the servo or the host (R132, R134). -/
def State.tb0IncWrite (s : State) (v : Word) (servo : Bool) : State :=
  if servo then s.setTb0Inc v else if s.servo then s else s.setTb0Inc v

/-- Row TB0_INC_WRITE. -/
def execTb0IncWrite (v : Word) (servo : Bool) (s : State) : Res :=
  .next (if servo then s.tb0IncWrite v true else s.hostDo STK_TB0_INC true (fun s => s.tb0IncWrite v false))

/-- Wraps of NS that a signed step makes: −1, 0 or 1 (R449). -/
def stepWrap (ns v : Word) : Int := ((ns.toNat : Int) + v.toInt).fdiv 4294967296

/-- A step of TB0 in the next tick (R133): NS moves by the signed value, FRAC stays, the step counts, event 49, and slots passed match late; a step that
carries NS across 0 moves ETH_TB0_WRAP (R449). -/
def State.stepTb0 (s : State) (v : Word) : State :=
  let a := s.tick
  let a := a.wr ETH_TB0_WRAP (a.rd ETH_TB0_WRAP + wOfInt (stepWrap a.ns v))
  let b := { a with tb0 := a.tb0 + (v.signExtend 64 <<< 32), stk := { a.stk with steps := (a.stk.steps + 1) % 65536 } }
  let b := if v.msb then b else (a.markLate b 0)
  let b := if v.msb || s.tb1Mode ≠ 2 then b else (a.markLate b 1)
  b.tb1Sync.raise 49 0x0E02

/-- A write of STK_TB0_STEP by the servo or the host (R133, R134). -/
def State.tb0StepWrite (s : State) (v : Word) (servo : Bool) : State :=
  if servo then s.stepTb0 v else if s.servo then s else s.stepTb0 v

/-- Row TB0_STEP. -/
def execTb0Step (v : Word) (servo : Bool) (s : State) : Res :=
  .next (if servo then s.tb0StepWrite v true else s.hostDo STK_TB0_STEP true (fun s => s.tb0StepWrite v false))

/-- Row TB0_WRAP: time passes to the tick in which NS passes 2^32 − 1 (R449). -/
def execTb0Wrap (s : State) : Res :=
  .next (if s.hlt.clocksStopped then s
    else (s.passTicks (ceilDiv (2 ^ 64 - s.tb0.toNat) (max 1 (s.rd STK_TB0_INC).toNat))).tb1Sync)

/-! ### TB1 -/

/-- TB1's own state set. -/
def State.setTb1 (s : State) (t : Tb1) : State := { s with stk := { s.stk with tb1 := t } }

/-- AUD_REF_STATUS.FREE (R398): the audio reference has TB1 as its source, and TB1 is OFF or LOCKING. -/
def State.audRef (s : State) : State := s.wr AUD_REF_STATUS (w32 (b2n (bitOf (s.rd AUD_REF_CFG) 0 && decide (s.tb1State < 2))))

/-- TB1 changes its state. -/
def State.setTb1State (s : State) (v : Nat) : State := (s.setFld STK_TB1_CTRL STK_TB1_CTRL_STATE v).audRef

/-- Entry to LOCKED: event 51 with JUMP (R136, R137). -/
def State.tb1Lock (s : State) (jump : Bool) : State :=
  ((s.setTb1State 2).setBit STK_TB1_CTRL STK_TB1_CTRL_JUMP jump).raise 51 0x0E02 [w32 (b2n jump)]

/-- An ALIGN takes effect in MODE 2: the frame count is FRAME0 at ALIGN (R137). -/
def State.tb1Align (s : State) : State :=
  let b := s.setTb1 { s.stk.tb1 with
    aligned := true, alignWait := false, frame := s.fld STK_TB1_LINES STK_TB1_LINES_FRAME0, start := (s.rd STK_TB1_ALIGN).setWidth 64 <<< 32 }
  let b := (s.markLate b 1).tb1Sync
  if s.tb1State = 2 then b else b.tb1Lock false

/-- The standing ALIGN taken as newly written (R137): nothing outside MODE 2 or with PERIOD 0; if TB0 has already reached it, it takes effect in
the next tick with event 55; else it awaits TB0. -/
def State.tb1TakeAlign (s : State) : State :=
  if s.tb1Mode ≠ 2 || s.tb1PeriodQ32 = 0 then s
  else if reached s.ns (s.rd STK_TB1_ALIGN) then s.tick.tb1Align.raise 55 0x0E02
  else s.setTb1 { s.stk.tb1 with alignWait := true }

/-- A write of STK_TB1_CTRL: a change of MODE restarts TB1 (R135), and MODE 2 takes the standing ALIGN (R137). -/
def State.tb1ModeWrite (s : State) (v : Word) : State :=
  let m := v.toNat % 4
  if m = s.fld STK_TB1_CTRL STK_TB1_CTRL_MODE then s
  else
    let s := (s.setFld STK_TB1_CTRL STK_TB1_CTRL_MODE m).setTb1 {}
    let s := s.setTb1State (if m = 1 || m = 2 then 1 else 0)
    if m = 2 then s.tb1TakeAlign else s

/-- Row TB1_MODE_WRITE. -/
def execTb1ModeWrite (v : Word) (s : State) : Res := .next (s.hostDo STK_TB1_CTRL true (·.tb1ModeWrite v))

/-- A measured line period lies within 500 ppm of the detected one (R136). -/
def within500ppm (p q : Nat) : Bool := decide (max p q - min p q ≤ q * 500 / 1000000)

/-- A format that GENLOCK takes (R136). -/
def genlockFormat (lines : Nat) : Bool := lines == 525 || lines == 625 || lines == 750 || lines == 1125

/-- A frame reference accepted while TB1 is LOCKING or LOCKED: the frame nearest to the free-running one starts here (R136). -/
def State.tb1FollowRef (s : State) : State :=
  let t := s.stk.tb1
  let n := if t.lineQ16 = 0 then 0 else q16OfTicks (s.ticks - t.refTick) / t.lineQ16
  let f := if t.seen then t.frame + max 1 ((n + s.tb1Lines / 2) / s.tb1Lines) else 0
  let s := s.setTb1 { t with frame := f % 262144, refTick := s.ticks, seen := true, count := t.count + 1 }
  if s.tb1State = 1 && 8 ≤ s.stk.tb1.count then s.tb1Lock s.stk.tb1.moved else s

/-- The first accepted reference in HOLDOVER: LOCKING, and TB1 realigns by the line at which it arrives (R136). -/
def State.tb1Realign (s : State) : State :=
  let (f, n) := s.tb1FrameLine
  let late := decide (s.tb1Lines / 2 ≤ n)
  let b := s.setTb1 { s.stk.tb1 with
    frame := (if late then f + 1 else f) % 262144, refTick := s.ticks, seen := true, count := 1, moved := decide (0 < n) }
  let b := b.setTb1State 1
  let b := if 0 < n then b.setBit STK_TB1_CTRL STK_TB1_CTRL_JUMP true else b
  if late then s.markLate b 1 else b

/-- A GENLOCK frame reference of a format and a measured line period (R136). In LOCKING and HOLDOVER another format is detected anew; in LOCKED
it is not accepted, and neither is a pulse outside ±500 ppm. -/
def State.genlockPulse (s : State) (lines lineQ16 : Nat) : State :=
  if s.tb1Mode ≠ 1 || !genlockFormat lines then s
  else if s.tb1State = 2 then
    if lines = s.tb1Lines && within500ppm lineQ16 s.stk.tb1.lineQ16 then s.tb1FollowRef
    else s.setTb1 { s.stk.tb1 with count := 0 }
  else
    let same := lines = s.fld STK_TB1_LINES STK_TB1_LINES_LINES && s.stk.tb1.lineQ16 ≠ 0
    if same && !within500ppm lineQ16 s.stk.tb1.lineQ16 then s.setTb1 { s.stk.tb1 with count := 0 }
    else
      let hold := s.tb1State = 3
      let r := if hold then s.tb1Realign else s
      let r := if same then r
        else (r.setFld STK_TB1_LINES STK_TB1_LINES_LINES lines).setTb1 { r.stk.tb1 with lineQ16 := lineQ16, count := if hold then 1 else 0 }
      if hold then r else r.tb1FollowRef

/-- Row GENLOCK_PULSE. -/
def execGenlockPulse (lines : BitVec 14) (lineQ16 : Word) (s : State) : Res := .next (s.genlockPulse lines.toNat lineQ16.toNat)

/-- Row TB1_HOLDOVER_TIMEOUT: no accepted reference for two frame periods (R136). -/
def execTb1HoldoverTimeout (s : State) : Res :=
  .next (if s.tb1Mode = 1 && s.stk.tb1.seen && (s.tb1State = 1 || s.tb1State = 2) then
      ((s.setTb1State 3).setTb1 { s.stk.tb1 with count := 0 }).raise 52 0x0E02
    else s)

/-- A write of STK_TB1_ALIGN (R137). -/
def State.tb1AlignWrite (s : State) (v : Word) : State := (s.wr STK_TB1_ALIGN v).tb1TakeAlign

/-- Row TB1_ALIGN_WRITE. -/
def execTb1AlignWrite (v : Word) (s : State) : Res := .next (s.hostDo STK_TB1_ALIGN true (·.tb1AlignWrite v))

/-- Row TB1_ALIGN_REACHED: TB0 reaches the ALIGN that awaits it (R137). -/
def execTb1AlignReached (s : State) : Res :=
  .next (if s.tb1Mode = 2 && s.stk.tb1.alignWait && s.tb1PeriodQ32 ≠ 0 then (s.passToNs (s.rd STK_TB1_ALIGN)).tb1Align else s)

/-- A write of the frame period: a PERIOD that becomes non-zero takes the standing ALIGN (R137). -/
def State.tb1PeriodWrite (s : State) (frac : Bool) (v : Word) : State :=
  let was := s.tb1PeriodQ32
  let s := if frac then s.wr STK_TB1_PERIOD_FRAC (v &&& 0xFFFF) else s.wr STK_TB1_PERIOD_NS v
  if was = 0 then s.tb1TakeAlign else s

/-- A write of STK_TB1_LINES: in MODE 1 LINES holds the detected total and its write is discarded. -/
def State.tb1LinesWrite (s : State) (v : Word) : State :=
  if s.tb1Mode = 1 then s.setFld STK_TB1_LINES STK_TB1_LINES_FRAME0 (STK_TB1_LINES_FRAME0.get v) else s.wr STK_TB1_LINES v

/-! ### TB3 -/

/-- TB3's own state set. -/
def State.setTb3 (s : State) (t : Tb3) : State := { s with stk := { s.stk with tb3 := t } }

/-- A write of STK_TB3_CTRL: EN set enters LOCKING, EN cleared turns TB3 off (R139). -/
def State.tb3Write (s : State) (v : Word) : State :=
  let en := bitOf v 0
  if en == s.bit STK_TB3_CTRL STK_TB3_CTRL_EN then s
  else ((s.setBit STK_TB3_CTRL STK_TB3_CTRL_EN en).setFld STK_TB3_CTRL STK_TB3_CTRL_STATE (b2n en)).setTb3 {}

/-- Row TB3_ENABLE. -/
def execTb3Enable (v : Word) (s : State) : Res := .next (s.hostDo STK_TB3_CTRL true (·.tb3Write v))

/-- An interval of 15.38 to 22.22 ms in ticks (R139). -/
def mainsWindow (t : Nat) : Bool := decide (19225000 ≤ t) && decide (t ≤ 27775000)

/-- A confirmed mains edge (R139): its time is that of the input edge, 100 µs ago; it is accepted first, or within the window of its state. -/
def State.mainsEdge (s : State) : State :=
  if !s.bit STK_TB3_CTRL STK_TB3_CTRL_EN then s
  else
    let t := s.stk.tb3
    let e := s.ticks - ticksOfUs 100
    let st := s.fld STK_TB3_CTRL STK_TB3_CTRL_STATE
    match t.confirmed with
    | none => s.setTb3 { t with cycle := t.cycle + 1, bound := e, count := 1, accepted := some e, confirmed := some e }
    | some c =>
      let base := if st = 3 then c else t.accepted.getD c
      if mainsWindow (e - base) then
        let t' : Tb3 := { t with
          cycle := (if st = 3 && t.period ≠ 0 then t.cycle + (e - t.bound) / t.period else t.cycle) + 1,
          bound := e, period := e - base, count := (if st = 3 then 1 else t.count + 1), accepted := some e, confirmed := some e }
        let s' := s.setTb3 t'
        if st = 3 then s'.setFld STK_TB3_CTRL STK_TB3_CTRL_STATE 1
        else if st = 1 && 16 ≤ t'.count then (s'.setFld STK_TB3_CTRL STK_TB3_CTRL_STATE 2).raise 53 0x0E02
        else s'
      else s.setTb3 { t with count := 0, confirmed := some e }

/-- Row MAINS_EDGE_CONFIRMED. -/
def execMainsEdgeConfirmed (s : State) : Res := .next s.mainsEdge

/-- Row TB3_HOLDOVER_TIMEOUT: no accepted edge for 25 ms (R139). -/
def execTb3HoldoverTimeout (s : State) : Res :=
  .next (if s.bit STK_TB3_CTRL STK_TB3_CTRL_EN && (s.fld STK_TB3_CTRL STK_TB3_CTRL_STATE = 1 || s.fld STK_TB3_CTRL STK_TB3_CTRL_STATE = 2)
      && s.stk.tb3.accepted.isSome then
      ((s.setFld STK_TB3_CTRL STK_TB3_CTRL_STATE 3).setTb3 { s.stk.tb3 with count := 0 }).raise 54 0x0E02
    else s)

/-! ### The snapshot and PTP -/

/-- A read of STK_TB0_NOW: FRAC, TB1, TB3 and the step count are latched (R140). -/
def State.snapshot (s : State) : State :=
  (((s.wr STK_SNAP_FRAC s.frac).wr STK_SNAP_TB1 s.tb1Now).wr STK_SNAP_TB3 s.tb3Now).wr STK_SNAP_STEPS (w32 s.stk.steps)

/-- Row STK_TB0_NOW_READ: TB0 NS is returned with the snapshot. -/
def execStkTb0NowRead (s : State) : Res :=
  .next (s.hostDo STK_TB0_NOW false (fun s => { s.snapshot with hostData := s.ns }))

/-- The transmit stamp queue of a port. -/
def State.ptpQ (s : State) (p : Nat) : List Stamp := tabGet s.stk.ptp [] p

/-- The queue of a port set, with the head entry and the count in its registers (R150). -/
def State.setPtpQ (s : State) (p : Nat) (q : List Stamp) : State :=
  let s := { s with stk := { s.stk with ptp := tabSet s.stk.ptp [] p q } }
  let s := s.setFld (PTP_P_TXQ_STAT p) PTP_P_TXQ_STAT_COUNT q.length
  match q with
  | [] => ((s.wr (PTP_P_TXQ_ID p) 0).wr (PTP_P_TXQ_NS p) 0).wr (PTP_P_TXQ_FRAC p) 0
  | e :: _ => ((s.wr (PTP_P_TXQ_ID p) (w32 (0x80000000 + e.id % 65536))).wr (PTP_P_TXQ_NS p) e.ns).wr (PTP_P_TXQ_FRAC p) (w32 (e.frac % 256))

/-- A transmit stamp arrives (R150): a full queue drops it, sets OVF, counts, and raises event 800 once per setting. -/
def State.ptpStamp (s : State) (p : Nat) (e : Stamp) : State :=
  if 64 ≤ (s.ptpQ p).length then
    let was := s.bit (PTP_P_TXQ_STAT p) PTP_P_TXQ_STAT_OVF
    let s := (s.setBit (PTP_P_TXQ_STAT p) PTP_P_TXQ_STAT_OVF true).inc (PTP_P_TXQ_DROP p)
    if was then s else s.raise 800 0x0E02
  else s.setPtpQ p (s.ptpQ p ++ [e])

/-- The head entry of a stamp queue is removed. -/
def State.ptpPop (s : State) (p : Nat) : State := s.setPtpQ p (s.ptpQ p).tail

/-- Row PTP_P_TXQ_POP. -/
def execPtpPTxqPop (p : Fin 8) (s : State) : Res := .next (s.hostDo (PTP_P_TXQ_POP p) true (·.ptpPop p))

/-- Row PTP_ANNOUNCE_TIMEOUT: the servo on a seat of E28 to E31 stops writing; TB0 free-runs; event 801 from its Eight (R151, R524). -/
def execPtpAnnounceTimeout (eight : Fin 4) (s : State) : Res :=
  .next (if s.servo then s.raise 801 (0x0100 + 28 + eight.val) else s)

end Sys2Proof.Machine
end

