-- ==== Sys2Proof/Machine/Ethernet.lean ====
section
/-! DEFINITION. Ethernet queues, filters, PTP stamps of frames, and the RTP send and receive streams (R446 to R452). Rows 222 to 227. -/

namespace Sys2Proof.Machine

/-! ### Queues (R447, R448) -/

/-- Entries of a queue's ring. -/
def State.ethRing (s : State) (p i : Nat) : Nat := 2 ^ bitsOf (s.rd (ETH_Q_CFG p i)).toNat 3 0

/-- The queue belongs to the host. -/
def State.ethHost (s : State) (p i : Nat) : Bool := bitsOf (s.rd (ETH_Q_CFG p i)).toNat 31 16 == 0xFFFF

/-- Bytes of a queue's owner: in host memory for the host, in GDDR7 for an Eight (log entry 55). -/
def State.ethWrite (s : State) (p i a : Nat) (bs : List Byte) : State := if s.ethHost p i then s.emit (.hostWrite a bs) else s.memWrite a bs

/-- A queue holds a descriptor or a posted buffer. -/
def State.ethReady (s : State) (p i : Nat) : Bool :=
  bitOf (s.rd (ETH_Q_CFG p i)) 8 && s.rd (ETH_Q_HEAD p i) != s.rd (ETH_Q_TAIL p i)

/-- HEAD advances. -/
def State.ethAdvance (s : State) (p i : Nat) : State := s.wr (ETH_Q_HEAD p i) (w32 (((s.rd (ETH_Q_HEAD p i)).toNat + 1) % s.ethRing p i))

/-- A write of ETH_Q_TAIL: descriptors are queued, and the transmit direction wakes. -/
def State.ethTail (s : State) (p i : Nat) (v : Word) : State :=
  let s := s.wr (ETH_Q_TAIL p i) (v &&& 0xFFF)
  if i < 4 && s.ethReady p i then s.ethWake p else s

/-- Row ETH_TX_TAIL_WRITE. -/
def execEthTxTailWrite (p : Fin 8) (t : Fin 4) (v : Word) (s : State) : Res := .next (s.hostDo (ETH_Q_TAIL p t) true (·.ethTail p t v))

/-- TB0 with a signed compensation in 1/256 ns: NS and FRAC [7:0] (R148, R149). -/
def State.stampNow (s : State) (comp : Int) : Word × Nat :=
  let t := ((s.tb0.toNat / 16777216 : Nat) : Int) + comp
  (wOfInt (t.fdiv 256), (t.fmod 256).toNat)

/-- The frame of the descriptor at a transmit queue's head is sent: descriptor and bytes come from the host, or from GDDR7 (R447). -/
def State.ethSent (s : State) (p i : Nat) (desc data : List Byte) : State :=
  if !s.ethUp p || !s.ethReady p i then s
  else
    let h := (s.rd (ETH_Q_HEAD p i)).toNat
    let d := if s.ethHost p i then desc else s.memRead (s.rd64 (ETH_Q_BASE_LO p i) (ETH_Q_BASE_HI p i) + 16 * h) 16
    let n := leAt d 8 2
    let f := if s.ethHost p i then sliceAt data 0 n else s.memRead (leAt d 0 8) n
    let fl := leAt d 10 2
    let f := if fl / 4 % 2 = 1 then addTag f (leAt d 14 2) else f
    let f := if fl / 2 % 2 = 1 then sumOffload f else f
    let s := (s.ethWake p).emit (.packet p f)
    let s := if fl % 2 = 1 && bitOf (s.rd (PTP_P_CTRL p)) 1 && ptpEvent f then
        let (ns, fr) := s.stampNow (sext 32 (s.rd (PTP_P_TX_COMP p)).toNat)
        s.ptpStamp p ⟨leAt d 12 2, ns, fr⟩
      else s
    let s := s.ethAdvance p i
    s.ethWrite p i (s.rd64 (ETH_Q_WB_LO p i) (ETH_Q_WB_HI p i)) (wordBytes (s.rd (ETH_Q_HEAD p i)))

/-- Row ETH_TX_FRAME_SENT. -/
def execEthTxFrameSent (p : Fin 8) (t : Fin 4) (desc data : List Byte) (s : State) : Res := .next (s.settle (s.ethSent p t desc data))

/-! ### Receive queues (R448) -/

/-- A frame matches a filter entry. -/
def State.filterHit (s : State) (p j : Nat) (f : List Byte) : Bool :=
  let c := s.rd (ETH_F_CTRL p j)
  let key := wordsBytes ((List.range 7).map (fun i => s.rd (ETH_F_KEY p j i)))
  bitOf c 0 &&
  (!bitOf c 1 || f.take 6 == key.take 6) &&
  (!bitOf c 2 || sliceAt f (frL3 f - 2) 2 == sliceAt key 6 2) &&
  (!bitOf c 3 || (match frIp f with | some i => sliceAt i.dst 0 16 == sliceAt key 8 16 | none => false)) &&
  (!bitOf c 4 || frUdp f == some (beAt key 24 2))

/-- The port's own MAC. -/
def State.ethMac (s : State) (p : Nat) : List Byte := wordBytes (s.rd (ETH_P_MAC_LO p)) ++ (wordBytes (s.rd (ETH_P_MAC_HI p))).take 2

/-- A received frame is discarded for lack of buffer or for its length. -/
def State.rxDrop (s : State) (p : Nat) (r : Reg) : State := (s.inc r).raiseOnce 818 p (s.ethBid p)

/-- A frame is delivered to a receive queue: the buffer is the one at the head of its ring, which the host's DMA read or GDDR7 holds. -/
def State.rxQueue (s : State) (p i filter : Nat) (f : List Byte) (buf : Nat) : State :=
  let g := dropTag f
  if !s.ethReady p i then s.rxDrop p (ETH_P_RX_DROP p)
  else if bitsOf (s.rd (ETH_Q_CFG p i)).toNat 13 10 * 1024 < g.length then s.rxDrop p (ETH_P_RX_LONG p)
  else
    let h := (s.rd (ETH_Q_HEAD p i)).toNat
    let a := if s.ethHost p i then buf else leNat (s.memRead (s.rd64 (ETH_Q_BASE_LO p i) (ETH_Q_BASE_HI p i) + 8 * h) 8)
    let st := bitOf (s.rd (PTP_P_CTRL p)) 0 && ptpEvent f
    let (ns, fr) := s.stampNow (-(sext 32 (s.rd (PTP_P_RX_COMP p)).toNat))
    let ph := tabGet s.lnd.phase true (8 * p + i)
    let fl := b2n st + 2 * b2n (l4Good f) + 4 * b2n (frTagged f) + 8 * (beAt f 0 1 % 2) + 32768 * b2n ph
    let c := leBytes 2 g.length ++ leBytes 2 fl ++ leBytes 2 (if frTagged f then beAt f 14 2 else 0) ++ leBytes 2 filter ++
      (if st then wordBytes ns ++ leBytes 1 fr else List.replicate 5 0) ++ List.replicate 3 0
    let s := s.ethWrite p i a g
    let s := s.ethWrite p i (s.rd64 (ETH_Q_WB_LO p i) (ETH_Q_WB_HI p i) + 16 * h) c
    let s := if h + 1 = s.ethRing p i then { s with lnd := { s.lnd with phase := tabSet s.lnd.phase true (8 * p + i) (!ph) } } else s
    s.ethAdvance p i

/-! ### Receive streams (R452) -/

/-- A receive stream's record. -/
def State.recvOf (s : State) (r : Nat) : EthRecv := tabGet s.lnd.recv {} r
/-- A receive stream's record set. -/
def State.setRecv (s : State) (r : Nat) (x : EthRecv) : State := { s with lnd := { s.lnd with recv := tabSet s.lnd.recv {} r x } }

/-- The DEC0 session that a stream feeds. -/
def State.recvDec (s : State) (r : Nat) : Nat := bitsOf (s.rd (ETH_R_CFG r)).toNat 13 12

/-- The access unit collected becomes one record of R322 in the ring of the DEC0 session, with LAST unless a packet of it is missing; a unit that finds no
room in the ring is lost (log entry 60). -/
def State.recvClose (s : State) (r : Nat) : State :=
  let x := s.recvOf r
  let d := s.recvDec r
  let size := (s.rd (DEC_S_IN_SIZE d)).toNat
  let base := s.rd64 (DEC_S_IN_ADDR_LO d) (DEC_S_IN_ADDR_HI d) / 4096 * 4096
  let wp := (s.rd (DEC_S_IN_WP d)).toNat
  let len := roundUp (32 + x.unit.length) 64
  let used := if size = 0 then 0 else (wp + size - (s.rd (DEC_S_IN_RP d)).toNat % size) % size
  let pad := if size < wp + len then size - wp else 0
  let k := s.freeCtr
  let free (i m : Nat) : Nat := Config.rtpField k i % m
  let s := (s.setRecv r { x with unit := [], opened := false, bad := false, frag := none, irap := false }).useFree
  if size ≤ used + pad + len then s
  else
    let fl := 16 * b2n x.irap + 64 * b2n (!x.bad) + 256 * (free 4 3)
    let s := if pad = 0 then s else s.memWrite (base + wp) (encHeader 3 (free 0 16) 0xFFFF (pad - 32) 0 0 0 s.ns 0 ++ List.replicate (pad - 32) 0)
    let at_ := if pad = 0 then wp else 0
    let b := encHeader 2 (free 0 16) 0xFFFF x.unit.length (free 1 4294967296) (w32 (free 2 4294967296)) (w32 (free 3 4294967296)) s.ns fl ++ x.unit
    (s.memWrite (base + at_) (b ++ List.replicate (len - b.length) 0)).decInWp d (w32 ((at_ + len) % size))

/-- A NAL unit joins the access unit, with a start code. -/
def EthRecv.nal (x : EthRecv) (n : List Byte) : EthRecv :=
  let t := beAt n 0 1 / 2 % 64
  { x with unit := x.unit ++ [0, 0, 0, 1] ++ n, irap := x.irap || (decide (16 ≤ t) && decide (t ≤ 23)) }

/-- The NAL units of an aggregation packet. -/
def apNals : Nat → List Byte → List (List Byte)
  | 0, _ => []
  | k + 1, d => if d.length < 2 then [] else (d.drop 2).take (beAt d 0 2) :: apNals k (d.drop (2 + beAt d 0 2))

/-- The payload of one packet: a single NAL unit, an AP (type 48) or an FU (type 49) of RFC 7798. -/
def EthRecv.take (x : EthRecv) (d : List Byte) : EthRecv :=
  let t := beAt d 0 1 / 2 % 64
  if d.length < 3 then x
  else if t = 48 then (apNals d.length (d.drop 2)).foldl EthRecv.nal x
  else if t = 49 then
    let fu := beAt d 2 1
    let body := d.drop 3
    let start : List Byte := beBytes 1 (beAt d 0 1 / 128 * 128 + fu % 64 * 2 + beAt d 0 1 % 2) ++ sliceAt d 1 1
    let cur := if fu / 128 = 1 then some (start ++ body) else x.frag.map (· ++ body)
    if fu / 64 % 2 = 1 then
      match cur with
      | some n => { x.nal n with frag := none }
      | none => { x with frag := none }
    else { x with frag := cur }
  else x.nal d

/-- The packet expected next is taken: a new timestamp ends the unit in progress, and the marker bit ends its own. -/
def State.recvTake (s : State) (r : Nat) (k : RtpPkt) : State :=
  let s := if (s.recvOf r).opened && (s.recvOf r).ts != k.ts then s.recvClose r else s
  let x := s.recvOf r
  let s := s.setRecv r { ({ x with opened := true, ts := k.ts }.take k.payload) with next := some ((k.seq + 1) % 65536) }
  if k.marker then s.recvClose r else s

/-- Packets held out of order are taken as far as they follow on. -/
def State.recvDrain (s : State) (r : Nat) : Nat → State
  | 0 => s
  | n + 1 =>
    let x := s.recvOf r
    match x.held.find? (fun k => some k.seq == x.next) with
    | none => s
    | some k => ((s.setRecv r { x with held := x.held.filter (·.seq != k.seq) }).recvTake r k).recvDrain r n

/-- An RTP packet reaches a stream on a path: its first copy is taken or held, a later one is discarded and counted (R452). -/
def State.recvPacket (s : State) (r : Nat) (path : Nat) (k : RtpPkt) : State :=
  let s := s.setFld (ETH_R_STATUS r) ⟨path, path⟩ 1
  let x := s.recvOf r
  let exp := x.next.getD k.seq
  let dist := (k.seq + 65536 - exp) % 65536
  if 32768 ≤ dist || x.held.any (·.seq == k.seq) then s.inc (ETH_R_DUP_CNT r)
  else if dist = 0 then
    let t := s.recvTake r k
    t.recvDrain r ((t.recvOf r).held.length + 1)
  else s.setRecv r { x with held := x.held ++ [k], next := some exp }

/-- A frame steered to a receive stream (R452). -/
def State.rxStream (s : State) (p r : Nat) (f : List Byte) : State :=
  let c := (s.rd (ETH_R_CFG r)).toNat
  let path := if bitsOf c 6 4 = p then some 0 else if bitsOf c 11 11 = 1 && bitsOf c 10 8 = p then some 1 else none
  if 4 ≤ r || c % 2 = 0 then s
  else
    match path, rtpParse (frUdpData f) with
    | some a, some (seq, ts, m, d) => s.recvPacket r a ⟨seq, ts, m, d⟩
    | _, _ => s

/-- The first filter entry that a frame matches. -/
def State.filterOf (s : State) (p : Nat) (f : List Byte) : Option Nat := (List.range 256).find? (fun j => s.filterHit p j f)

/-- A frame received on a port: its bytes without FCS, whether the FCS was good, and the buffer address that a host queue's ring gives. -/
def State.ethRx (s : State) (p : Nat) (f : List Byte) (fcs : Bool) (buf : Nat) : State :=
  if s.ethMode p = 0 || !s.ethUp p then s
  else if !fcs then s.inc (ETH_P_FCS_ERR p)
  else if (frType f == 0x8808 && beAt f (frL3 f) 2 == 1) || f.length < 60 || 9212 < f.length then s
  else
    match s.filterOf p f with
    | some j =>
      let c := (s.rd (ETH_F_CTRL p j)).toNat
      let t := bitsOf c 18 16
      match bitsOf c 9 8 with
      | 0 => if t < 4 then s else s.rxQueue p t j f buf
      | 1 => s.rxStream p t f
      | _ => s
    | none => if f.take 6 == s.ethMac p && beAt f 0 1 % 2 == 0 then s.rxQueue p 4 0xFFFF f buf else s

/-- Row ETH_RX_FRAME. -/
def execEthRxFrame (p : Fin 8) (f : List Byte) (fcs : Bool) (buf : BitVec 64) (s : State) : Res :=
  .next (s.settle (s.ethRx p f fcs buf.toNat))

/-- Row RTP_WINDOW_EXPIRE: the window passes the sequence number that is missing; the access unit holding it gets no LAST (R452): the one in progress, or
else the one that the next packet begins (log entry 60). -/
def execRtpWindowExpire (r : Fin 4) (s : State) : Res :=
  .next (
    let x := s.recvOf r
    match x.next with
    | none => s
    | some n =>
      if x.held.isEmpty then s
      else
        let t := s.setRecv r { x with next := some ((n + 1) % 65536), bad := true, frag := none }
        let port := bitsOf (s.rd (ETH_R_CFG r)).toNat 6 4
        let t := (t.inc (ETH_R_GAP_CNT r)).raiseOnce 821 r (s.ethBid port)
        s.settle (t.recvDrain r (x.held.length + 1)))

/-- Row RTP_PATH_SILENT: no packet came on a path for 10 ms. -/
def execRtpPathSilent (r : Fin 4) (b : Bool) (s : State) : Res :=
  .next (
    let c := (s.rd (ETH_R_CFG r)).toNat
    let i := b2n b
    if c % 2 = 1 && bitOf (s.rd (ETH_R_STATUS r)) i then
      (s.setFld (ETH_R_STATUS r) ⟨i, i⟩ 0).raise 820 (s.ethBid (if b then bitsOf c 10 8 else bitsOf c 6 4))
    else s)

/-! ### Send streams (R449 to R451) -/

/-- TAI in ns of the present (R449). -/
def State.tai (s : State) : Int :=
  ((s.rd ETH_TB0_WRAP).toNat * 4294967296 + s.ns.toNat : Nat) + sext 64 (s.rd64 ETH_TAI_OFS_LO ETH_TAI_OFS_HI)

/-- The RTP timestamp of an instant in ns of TAI on a media clock (R449). -/
def rtpTs (t : Int) (clock : Nat) : Word := wOfInt ((t * clock).fdiv 1000000000)

/-- Payload bytes of a packet. -/
def State.sendBytes (s : State) (n : Nat) : Nat := bitsOf (s.rd (ETH_S_FMT n)).toNat 10 0

/-- A slot delivery to a video or ancillary stream (R450): it starts its newest posted frame, or sends its last one again. -/
def State.sendDelivery (s : State) (n : Nat) : State :=
  if !bitOf (s.rd (ETH_S_CFG n)) 0 then s
  else
    let x := s.sendOf n
    let ts := rtpTs s.tai 90000
    match s.sendType n with
    | 0 =>
      match x.posted, x.cur with
      | some b, c =>
        let s := match c with
          | some (r, k) => if c == some b then s else s.releaseBuf r k (sendReader n)
          | none => s
        s.setSend n { x with posted := none, cur := some b, ts := ts, idx := 0, sending := true }
      | none, some _ =>
        let port := bitsOf (s.rd (ETH_S_CFG n)).toNat 6 4
        ((s.setSend n { x with ts := ts, idx := 0, sending := true }).inc (ETH_S_LATE n)).raiseOnce 819 n (s.ethBid port)
      | none, none => s
    | 2 => s.setSend n { x with ts := ts, sending := true }
    | _ => s

/-- One packet of a stream leaves on each path whose port's link is up; a path that is down drops it (R450, R451). -/
def State.sendOut (s : State) (n : Nat) (marker : Bool) (ts : Word) (data : List Byte) : State :=
  let c := (s.rd (ETH_S_CFG n)).toNat
  let x := s.sendOf n
  let seq := (Config.rtpSeq0 n + x.seq) % 4294967296
  let rtp := rtpHeader marker (96 + bitsOf c 28 24) seq ts (s.rd (ETH_S_SSRC n)) ++ (if s.sendType n = 0 then beBytes 2 (seq / 65536) else []) ++ data
  let path (s : State) (p : Nat) (reg : Nat → Nat → Reg) : State :=
    if s.ethUp p then
      let hdr := wordsBytes ((List.range 12).map (fun i => s.rd (reg n i)))
      ((s.ethWake p).emit (.packet p (udpFrame hdr (s.ethMac p) (Config.ipFree s.freeCtr) rtp))).useFree
    else s.inc (ETH_S_PATH_DROP n)
  let s := s.setSend n { x with seq := (x.seq + 1) % 4294967296 }
  let s := path (s.incWrap (ETH_S_PKTS n)) (bitsOf c 6 4) ETH_S_HDR_A
  if bitsOf c 11 11 = 1 then path s (bitsOf c 10 8) ETH_S_HDR_B else s

/-- Bits of codes packed most significant bit first. -/
def beBits (depth : Nat) (codes : List Nat) : List Byte :=
  let n := codes.length * depth
  beBytes (ceilDiv n 8) (codes.foldl (fun a c => a * 2 ^ depth + c % 2 ^ depth) 0 * 2 ^ (8 * ceilDiv n 8 - n))

/-- Pixels of a pgroup and its bytes (ST 2110-20; log entry 56): 4:2:2 or 4:4:4 at 10 or 12 bits. -/
def pgroup (fmt depth : Nat) : Nat × Nat := if fmt = 1 then (2, depth / 2) else if depth = 10 then (4, 15) else (2, 9)

/-- The sample data of a run of pixels of a line. -/
def State.pgData (s : State) (f : Surface) (y x n : Nat) : List Byte :=
  beBits f.depth ((List.range n).flatMap (fun i =>
    let c := x + i
    if f.fmt = 1 then (if c % 2 = 0 then [s.chromaAt f false y (c / 2), s.lumaAt f c y] else [s.chromaAt f true y (c / 2), s.lumaAt f c y])
    else [s.chromaAt f false y c, s.lumaAt f c y, s.chromaAt f true y c]))

/-- The surface that a video stream sends from. -/
def State.sendSurface (s : State) (n : Nat) (b : Nat × Nat) : Surface :=
  let (w, h, fmt) := s.srcGeom (bitsOf (s.rd (ETH_S_CFG n)).toNat 15 12) (s.sendInst n)
  (s.ringSurface b.1 (s.sendInst n) b.2 w h fmt).1

/-- The next packet of a video frame (R450): one SRD, which never crosses a line. -/
def State.sendVideo (s : State) (n : Nat) : State :=
  let x := s.sendOf n
  match x.cur with
  | none => s
  | some b =>
    let f := s.sendSurface n b
    let (gp, gb) := pgroup f.fmt f.depth
    let per := max 1 (s.sendBytes n / gb) * gp
    let line := ceilDiv f.w per
    let y := x.idx / max 1 line
    let px := x.idx % max 1 line * per
    let cnt := min per (f.w - px)
    let data := s.pgData f y px cnt
    let last := x.idx + 1 == line * f.h
    let srd := beBytes 2 data.length ++ beBytes 2 y ++ beBytes 2 px
    let s := s.sendOut n last x.ts (srd ++ data)
    s.setSend n { s.sendOf n with idx := x.idx + 1, sending := !last }

/-- Bytes of a sample and samples of a packet of an audio stream, which PKT_BYTES gives: L24 or L16, 1 ms or 125 µs (R450). -/
def audPacking (ch fs bytes : Nat) : Option (Nat × Nat) :=
  [(3, fs / 1000), (2, fs / 1000), (3, fs / 8000), (2, fs / 8000)].find? (fun e => e.1 * e.2 * ch == bytes && bytes != 0)

/-- The next packet of an audio stream, once the blocks that hold its samples are written; its timestamp comes from the stamp of the block of its first
sample (R403, R450). -/
def State.sendAudio (s : State) (n : Nat) : State :=
  let p := s.sendInst n % 16
  let slots := (List.range 16).filter (fun i => bitOf (s.rd (ETH_S_FMT n)) (16 + i))
  let fs := s.audFs p
  let wp := (s.rd (AUD_D_WP p 0)).toNat
  let x := s.sendOf n
  match audPacking slots.length fs (s.sendBytes n) with
  | none => s
  | some (b, k) =>
    let i := max (x.sample.getD (64 * (wp - 1))) (64 * (wp - 2 ^ s.fld (AUD_D_CFG p 0) AUD_D_CFG_RING_LOG))
    if 64 * wp < i + k || wp = 0 then s
    else
      let blk := i / 64
      let stamp := s.rd (AUD_D_STAMP p 0 (blk % 256 * 4 + 1))
      let t := s.tai - ((s.ns - stamp).toNat : Int)
      let ts := rtpTs t fs + w32 (i % 64)
      let word (j sl : Nat) : Nat := leNat (s.memRead (s.audPlace p 0 (j / 64) + 4 * (j % 64 * s.audSlots p + sl)) 4)
      let data := (List.range k).flatMap (fun m => slots.flatMap (fun sl => beBytes b (word (i + m) sl / 2 ^ (32 - 8 * b))))
      let s := s.sendOut n false ts data
      s.setSend n { s.sendOf n with sample := some (i + k) }

/-- NAL units of Annex B bytes: `cur` is the unit in progress, reversed. -/
def annexB : List Byte → Option (List Byte) → List (List Byte)
  | [], none => []
  | [], some c => [c.reverse]
  | 0 :: 0 :: 1 :: r, none => annexB r (some [])
  | 0 :: 0 :: 1 :: r, some c => (c.dropWhile (· == 0)).reverse :: annexB r (some [])
  | _ :: r, none => annexB r none
  | b :: r, some c => annexB r (some (b :: c))

/-- The next packet of an HEVC stream: a NAL unit of the record at the read offset of its encoder ring, or a fragment of one (RFC 7798). -/
def State.sendHevc (s : State) (n : Nat) : State :=
  let c := s.sendInst n / 4 % 4
  let e := s.sendInst n % 4
  let sb := s.encRingSize c e
  let rp := (s.rd (ENC_S_BS_RP c e)).toNat
  if sb = 0 || rp = (s.rd (ENC_S_BS_WP c e)).toNat then s
  else
    let h := s.memRead (s.encRingBase c e + rp) 32
    let len := leAt h 8 4
    let next := w32 ((rp + roundUp (32 + len) 64) % sb)
    if leAt h 4 1 = 3 then s.encRpWrite c e next
    else
      let nals := (annexB (s.memRead (s.encRingBase c e + rp + 32) len) none).filter (fun u => decide (2 ≤ u.length))
      let x := s.sendOf n
      match nals[x.nal]? with
      | none => (s.setSend n { x with nal := 0, sent := 0 }).encRpWrite c e next
      | some u =>
        let room := max 4 (s.sendBytes n)
        let ago := ((s.ns - w32 (leAt h 0x14 4)).toNat : Int)
        let ts := rtpTs (s.tai - ago) 90000
        let lastRec := bitsOf (leAt h 0x1C 2) 6 6 == 1 && x.nal + 1 == nals.length
        let whole := decide (u.length ≤ room)
        let body := (u.drop (2 + x.sent)).take (room - 3)
        let done := whole || decide (u.length ≤ 2 + x.sent + body.length)
        let fu : List Byte := beBytes 1 (beAt u 0 1 / 128 * 128 + 98 + beAt u 0 1 % 2) ++ sliceAt u 1 1 ++
          beBytes 1 (128 * b2n (x.sent == 0) + 64 * b2n done + beAt u 0 1 / 2 % 64) ++ body
        let s := s.sendOut n (lastRec && done) ts (if whole then u else fu)
        let y := s.sendOf n
        if !done then s.setSend n { y with sent := x.sent + body.length }
        else if x.nal + 1 == nals.length then (s.setSend n { y with nal := 0, sent := 0 }).encRpWrite c e next
        else s.setSend n { y with nal := x.nal + 1, sent := 0 }

/-- Row ETH_SEND_PACKET: a stream transmits its next paced packet on each path. -/
def execEthSendPacket (n : Fin 32) (s : State) : Res :=
  .next (
    if !bitOf (s.rd (ETH_S_CFG n)) 0 then s
    else
      match s.sendType n with
      | 0 => if (s.sendOf n).sending then s.sendVideo n else s
      | 1 => s.sendAudio n
      | 2 =>
        if (s.sendOf n).sending then
          let t := s.sendOut n true (s.sendOf n).ts (Config.ancPayload (s.rd (SCN_TC (s.sendInst n % 4))) (s.scnId (s.sendInst n % 4)))
          t.setSend n { t.sendOf n with sending := false }
        else s
      | _ => s.sendHevc n)

end Sys2Proof.Machine
end

