-- ==== Sys2Proof/Machine/Sensor.lean ====
section
/-! DEFINITION. Sensor ports and Zevlink (R153 to R182): lanes and bring-up stages, the input checks and substitution, stakeboat groups, the
command lane, Legacy mode and set-up scripts: rows LANE_IDLE_EXIT to SCRIPT_ENTRY_DONE and LEGACY_WORD. -/

namespace Sys2Proof.Machine

/-- The port state of a head. -/
def State.sptOf (s : State) (h : Nat) : SptH := tabGet s.spt {} h
/-- The port state of a head set. -/
def State.setSpt (s : State) (h : Nat) (x : SptH) : State := { s with spt := tabSet s.spt {} h x }

/-- The block that raises a head's port events: its lead port. -/
def State.spBid (s : State) (h : Nat) : Nat := 0x0200 + s.hp h

/-- Ports of a head (R153). -/
def State.headPorts (s : State) (h : Nat) : List Nat :=
  let n := if s.paddleHead h then 1 else s.fld (SPT_H_CFG (s.hp h)) SPT_H_CFG_PORTS + 1
  (List.range n).map (s.hp h + ·)

/-- Lanes per port of a head. -/
def State.headLanes (s : State) (h : Nat) : Nat := if s.paddleHead h then 4 else s.fld (SPT_P_CFG (s.hp h)) SPT_P_CFG_LANES

/-- Head lanes N (R153). -/
def State.laneCount (s : State) (h : Nat) : Nat := (s.headPorts h).length * s.headLanes h

/-- Port and lane of a head lane (R161). -/
def State.lanePlace (s : State) (h k : Nat) : Nat × Nat :=
  let l := max 1 (s.headLanes h)
  (s.hp h + k / l, k % l)

/-- A head is committed, or is H0 of Paddle mode, and its ports' blocks run. -/
def State.headUp (s : State) (h : Nat) : Bool :=
  (s.leadPort h).isSome && (s.headPorts h).all (fun p => (s.blkOf (0x0200 + p)).phase != .down)

/-- The head's port is in Legacy mode (R179). -/
def State.legacy (s : State) (h : Nat) : Bool :=
  match (if s.paddleHead h then s.boot.desc else none) with
  | some d => d.bflags / 4 % 2 == 1
  | none => s.bit (SPT_P_CFG (s.hp h)) SPT_P_CFG_LEGACY

/-- The bring-up stage of a head (R163). -/
def State.zlStage (s : State) (h : Nat) : Nat := s.fld (SPT_H_STATE (s.hp h)) SPT_H_STATE_STAGE

/-- The head has a command lane (R165). -/
def State.cmdl (s : State) (h : Nat) : Bool := !s.paddleHead h && s.bit (SPT_H_CFG (s.hp h)) SPT_H_CFG_CMDL

/-! ### Control blocks (R157) -/

/-- CRC-8 of R157: one bit. -/
def crc8Bit (c : Byte) : Byte := if c.msb then (c <<< 1) ^^^ 0x07 else c <<< 1

/-- CRC-8 of a byte string. -/
def crc8 (bs : List Byte) : Byte :=
  bs.foldl (fun c b => crc8Bit (crc8Bit (crc8Bit (crc8Bit (crc8Bit (crc8Bit (crc8Bit (crc8Bit (c ^^^ b))))))))) 0

/-- A control block of a type from its content, bytes 1 to 6. -/
def ctlBlock (typ : Byte) (content : List Byte) : List Byte :=
  let b := typ :: (content ++ List.replicate (6 - content.length) 0)
  b ++ [crc8 b]

/-- Byte `i` (1 to 7) of a control block given as its bytes 1 to 7. -/
def ctlByte (c : BitVec 56) (i : Nat) : Nat := bitsOf c.toNat (8 * i - 1) (8 * (i - 1))

/-- Bytes `i` and `i + 1` as a number. -/
def ctlHalf (c : BitVec 56) (i : Nat) : Nat := ctlByte c i + 256 * ctlByte c (i + 1)

/-- The CRC-8 of a received block is right (R157). -/
def ctlOk (typ : Byte) (c : BitVec 56) : Bool := (crc8 (typ :: (leBytes 6 c.toNat))).toNat == ctlByte c 7

/-- A protocol error of R171: counted, with event 135 once per round in ACTIVE; a CRC-8 failure elsewhere counts alone (R157). -/
def State.proto (s : State) (h : Nat) : State :=
  let s := s.inc (SPT_H_PROTO_ERR (s.hp h))
  if s.zlStage h = 4 then s.raiseOnce 135 h (s.spBid h) else s

/-! ### Stages (R163) -/

/-- A head changes stage: event 128, and event 129 when it leaves ACTIVE. -/
def State.setStage (s : State) (h n : Nat) : State :=
  let old := s.zlStage h
  if old = n then s
  else
    let s := (s.setFld (SPT_H_STATE (s.hp h)) SPT_H_STATE_STAGE n).raise 128 (s.spBid h) [w32 n]
    let s := s.setBit (SPT_H_STATE (s.hp h)) SPT_H_STATE_MISMATCH false
    if old = 4 then (s.inc (SPT_H_LINK_DOWN_CNT (s.hp h))).raise 129 (s.spBid h) else s

/-- A lane's state. -/
def State.laneOf (s : State) (p l : Nat) : ZlLane := tabGet s.lanes {} (16 * p + l)
/-- A lane's state set. -/
def State.setLane (s : State) (p l : Nat) (x : ZlLane) : State := { s with lanes := tabSet s.lanes {} (16 * p + l) x }

/-- A lane has block lock. -/
def State.laneLock (s : State) (p l : Nat) : Bool := bitOf (s.rd (SPT_P_LANE_STAT p)) l

/-- Block lock of a lane set in both registers that show it. -/
def State.setLock (s : State) (p l : Nat) (b : Bool) : State :=
  (s.setFld (SPT_P_LANE_STAT p) ⟨l, l⟩ (b2n b)).setFld (SPT_L_STAT p l) ⟨0, 0⟩ (b2n b)

/-- All lanes of a head hold block lock. -/
def State.allLocked (s : State) (h : Nat) : Bool :=
  (List.range (s.laneCount h)).all (fun k => let pl := s.lanePlace h k; s.laneLock pl.1 pl.2)

/-- Valid sync headers on a lane: 64 in a row give block lock (R156). -/
def State.headers (s : State) (p l n : Nat) : State :=
  let x := s.laneOf p l
  let run := min 64 (x.run + n)
  let s := s.setLane p l { run := run, bad := (x.bad.map (· + n)).filter (· < 64) }
  if run = 64 && !s.laneLock p l then s.setLock p l true else s

/-- The command outstanding is taken away. -/
def State.dropCmd (s : State) (h : Nat) : State :=
  (s.setSpt h { s.sptOf h with cmd := none }).setBit (SPT_H_CMD_CTRL (s.hp h)) SPT_H_CMD_CTRL_BUSY false

/-- The CX96's own command-lane access stops (R163). -/
def State.stopExchange (s : State) (h : Nat) : State :=
  let x := s.sptOf h
  let own : Bool := match x.cmd with
    | some c => c.by_ == .exchange
    | none => false
  let s := s.setSpt h { x with ex := .idle, words := [] }
  if own then s.dropCmd h else s

/-- Block lock or the command lane is lost in EXCHANGE or ACTIVE: back to LOCK (R163). -/
def State.linkLost (s : State) (h : Nat) : State :=
  if s.zlStage h = 3 || s.zlStage h = 4 then
    let s := s.stopExchange h
    (s.setSpt h { s.sptOf h with offsets := [] }).setStage h 2
  else s

/-- An invalid sync header on a lane: counted; 16 in any 64 lose block lock (R156, R163). -/
def State.badHeader (s : State) (h k : Nat) : State :=
  let (p, l) := s.lanePlace h k
  let x := s.laneOf p l
  let bad := 0 :: (x.bad.map (· + 1)).filter (· < 64)
  let s := (s.inc (SPT_L_ERR_CNT p l)).setLane p l { run := 0, bad := bad }
  if 16 ≤ bad.length && s.laneLock p l then (s.setLock p l false).linkLost h else s

/-! ### The command lane (R166 to R169) -/

/-- A Request with its data block (R158, R167). -/
def requestBlocks (write : Bool) (tag : Nat) (addr data : Word) : List Byte :=
  let r := ctlBlock 0xC3 (leBytes 1 (if write then 2 else 1) ++ leBytes 1 tag ++ wordBytes addr)
  let d := wordBytes (if write then data else 0)
  r ++ d ++ wordBytes (crc32c (r ++ d))

/-- A command is sent on a head's command lane, or sent again; a sleeping transmit direction wakes (R168, R169). -/
def State.sendCmd (s : State) (h : Nat) (c : CmdReq) : State :=
  let s := s.setSpt h { s.sptOf h with cmd := some { c with tries := c.tries + 1 }, txSleep := false }
  (s.setBit (SPT_H_CMD_CTRL (s.hp h)) SPT_H_CMD_CTRL_BUSY true).emit (.cmdLane h (requestBlocks c.write c.tag c.addr c.data))

/-- A new command with the next tag. -/
def State.newCmd (s : State) (h : Nat) (write : Bool) (addr data : Word) (by_ : CmdBy) : State :=
  let x := s.sptOf h
  (s.setSpt h { x with tag := (x.tag + 1) % 256 }).sendCmd h ⟨write, x.tag, addr, data, 0, by_⟩

/-- The access that EXCHANGE makes next (R166). -/
def State.exchangeAccess (s : State) (h : Nat) : State :=
  let tag := s.modeTag h
  let cfg := s.rd (SPT_H_CFG (s.hp h))
  match (s.sptOf h).ex with
  | .idle => s
  | .modes => s.newCmd h false 0x8 0 .exchange
  | .word k => s.newCmd h false (w32 (0x100 + tag * 0x10 + 4 * k)) 0 .exchange
  | .zlId => s.newCmd h false 0 0 .exchange
  | .modeSel => s.newCmd h true 0x10 (w32 tag) .exchange
  | .run => s.newCmd h true 0x14 (if SPT_H_CFG_TRIG.get cfg = 0 then 3 else 1) .exchange

/-- EXCHANGE moves on; it waits while another command is outstanding (R168). -/
def State.exchangeStep (s : State) (h : Nat) (e : ExStep) : State :=
  let s := s.setSpt h { s.sptOf h with ex := e }
  if (s.sptOf h).cmd.isNone then s.exchangeAccess h else s

/-- EXCHANGE is entered: without a command lane it completes at once (R165). -/
def State.enterExchange (s : State) (h : Nat) : State :=
  let s := s.setStage h 3
  if s.cmdl h then (s.setSpt h { s.sptOf h with words := [] }).exchangeStep h .modes else s.setStage h 4

/-- A failing entry holds the head in EXCHANGE (R166). -/
def State.mismatch (s : State) (h : Nat) : State :=
  ((s.setSpt h { s.sptOf h with ex := .idle }).setBit (SPT_H_STATE (s.hp h)) SPT_H_STATE_MISMATCH true).raise 131 (s.spBid h)

/-- The mode entry passes (R166). -/
def State.modeOk (s : State) (h : Nat) (ws : List Word) : Bool :=
  let w (k : Nat) : Nat := ((ws[k]?).getD 0).toNat
  let g := s.geom h
  let f := s.rd (SPT_H_FMT (s.hp h))
  bitsOf (w 0) 15 0 == g.w && bitsOf (w 0) 31 16 == g.h && bitsOf (w 1) 4 0 == g.b && bitsOf (w 1) 6 5 == bitsOf f.toNat 6 5 &&
  bitsOf (w 1) 9 8 == g.cfa && bitsOf (w 1) 11 10 == g.phase && bitsOf (w 1) 15 12 == s.headLanes h &&
  bitsOf (w 1) 18 16 + 1 == (s.headPorts h).length && bitsOf (w 1) 31 24 == s.fld (SPT_P_CFG (s.hp h)) SPT_P_CFG_RATE &&
  decide (s.headRate h ≤ w 2) && decide (g.o ≤ bitsOf (w 3) 15 0)

/-- An access of EXCHANGE completes with a status and data (R166). -/
def State.exchangeDone (s : State) (h : Nat) (status : Nat) (d : Word) : State :=
  if status ≠ 0 then s.mismatch h
  else
    match (s.sptOf h).ex with
    | .idle => s
    | .modes => if s.modeTag h < d.toNat then s.exchangeStep h (.word 0) else s.mismatch h
    | .word k =>
      let ws := (s.sptOf h).words ++ [d]
      let s := s.setSpt h { s.sptOf h with words := ws }
      if k < 3 then s.exchangeStep h (.word (k + 1))
      else if s.modeOk h ws then s.exchangeStep h .zlId else s.mismatch h
    | .zlId => (s.setSpt h { s.sptOf h with zlId := some d }).exchangeStep h .modeSel
    | .modeSel => s.exchangeStep h .run
    | .run => (s.setSpt h { s.sptOf h with ex := .idle }).setStage h 4

/-! ### Set-up scripts (R182), with the accesses they make -/

/-- A port's script. -/
def State.scriptOf (s : State) (p : Nat) : Script := tabGet s.scripts {} p
/-- A port's script set. -/
def State.setScript (s : State) (p : Nat) (x : Script) : State := { s with scripts := tabSet s.scripts {} p x }

/-- The 16 bytes of a script entry, from GDDR7 or from flash. -/
def State.scriptEntry (s : State) (p : Nat) : List Byte :=
  let x := s.scriptOf p
  if x.boot then sliceAt x.flash (16 * x.entry) 16 else s.memRead (x.base + 16 * x.entry) 16

/-- A failure of bring-up is recorded (R117, R119, R121): cause and event 35. -/
def State.bootFail (s : State) (cause : Nat) : State := (s.wr BOH_BOOT_ERR (w32 cause)).raise 35 0x0E00 [w32 cause]

/-- The script stops on its current entry (R182); in bring-up OP 0x05 and 0x06 leave Paddle mode unstarted (R121). -/
def State.scriptFail (s : State) (p : Nat) : State :=
  let x := s.scriptOf p
  let op := leAt (s.scriptEntry p) 0 1
  let s := s.setScript p { x with busy := false, waitCmd := false, aligning := false }
  let s := (s.wr (SPT_P_SCRIPT_CTRL p) (w32 (4 + x.entry % 4096 * 65536))).raise 140 (0x0200 + p) [w32 x.entry]
  if x.boot && (op == 5 || op == 6) then (s.bootFail 9).paddleEnd else s

/-- The head that leads from a port. -/
def State.portHead (s : State) (p : Nat) : Nat := if s.boot.paddle != .off && p == 0 then 0 else s.fld (SPT_P_CFG p) SPT_P_CFG_HEAD

/-- OP 0x05 and 0x06 are accepted: a Legacy port, or SP0 in bring-up with LEGACY set (R182). -/
def State.scriptLegacy (s : State) (p : Nat) : Bool :=
  s.bit (SPT_P_CFG p) SPT_P_CFG_LEGACY ||
  (p == 0 && (s.scriptOf p).boot && (match s.boot.desc with | some d => d.bflags / 4 % 2 == 1 | none => false))

/-- The current entry is issued (R182). -/
def State.scriptIssue (s : State) (p : Nat) : State :=
  let x := s.scriptOf p
  let e := s.scriptEntry p
  let op := leAt e 0 1
  if 4096 ≤ x.entry then s.scriptFail p
  else if op = 0 then
    ((s.setScript p { x with busy := false }).wr (SPT_P_SCRIPT_CTRL p) 0).raise 141 (0x0200 + p)
  else if op = 1 || op = 2 then s.emit (.sensorBus p (leAt e 0 4) (leAt e 4 4) (leAt e 8 4))
  else if op = 3 then s
  else if op = 4 then
    let h := s.portHead p
    if (s.sptOf h).cmd.isSome then s.setScript p { x with waitCmd := true }
    else s.newCmd h true (w32 (leAt e 4 4)) (w32 (leAt e 8 4)) .script
  else if (op = 5 || op = 6) && s.scriptLegacy p then
    if op = 6 then (s.setScript p { x with aligning := true }).setFld (SPT_P_LEG_STAT p) ⟨0, 0⟩ 0 else s
  else s.scriptFail p

/-- An entry completed: the next one issues, or the script stops (R182). -/
def State.scriptDone (s : State) (p : Nat) (ok : Bool) : State :=
  let x := s.scriptOf p
  if !x.busy then s
  else if ok then (s.setScript p { x with entry := x.entry + 1, waitCmd := false }).scriptIssue p
  else s.scriptFail p

/-- Row SCRIPT_ENTRY_DONE: the access, delay or search of the current entry ends. -/
def execScriptEntryDone (p : Fin 8) (ok : Bool) (s : State) : Res := .next (s.settle (s.scriptDone p ok))

/-- A write of SPT_P_SCRIPT_CTRL (R182). -/
def State.scriptGo (s : State) (p : Nat) (v : Word) : State :=
  if bitOf v 0 && !(s.scriptOf p).busy then
    let a := s.rd64 (SPT_P_SCRIPT_ADDR_LO p) (SPT_P_SCRIPT_ADDR_HI p) / 16 * 16
    ((s.setScript p { base := a, busy := true }).wr (SPT_P_SCRIPT_CTRL p) 2).scriptIssue p
  else s

/-- Row SCRIPT_GO. -/
def execScriptGo (p : Fin 8) (v : Word) (s : State) : Res :=
  .next (s.settle (s.hostDo (SPT_P_SCRIPT_CTRL p) true (·.scriptGo p v)))

/-- The command lane is free: EXCHANGE goes on first, then a script that waits. -/
def State.cmdNext (s : State) (h : Nat) : State :=
  let p := s.hp h
  if (s.sptOf h).ex != .idle then s.exchangeAccess h
  else if (s.scriptOf p).waitCmd then (s.setScript p { s.scriptOf p with waitCmd := false }).scriptIssue p
  else s

/-- A command completes with a status (R168): BUSY falls, and who sent it goes on. -/
def State.cmdDone (s : State) (h status : Nat) (d : Word) (ev : Nat) : State :=
  match (s.sptOf h).cmd with
  | none => s
  | some c =>
    let p := s.hp h
    let s := (s.dropCmd h).setFld (SPT_H_CMD_CTRL p) SPT_H_CMD_CTRL_STATUS status
    let s := if !c.write && status != 15 then s.wr (SPT_H_CMD_DATA p) d else s
    let s := s.raise ev (s.spBid h)
    match c.by_ with
    | .software => s.cmdNext h
    | .exchange =>
      let s := s.exchangeDone h status d
      if (s.sptOf h).ex == .idle then s.cmdNext h else s
    | .script => (s.scriptDone p (status == 0)).cmdNext h

/-- A write of SPT_H_CMD_CTRL (R168). -/
def State.cmdCtrlWrite (s : State) (p : Nat) (v : Word) : State :=
  let r := SPT_H_CMD_CTRL p
  let s := s.setFld r SPT_H_CMD_CTRL_OP (b2n (bitOf v 0))
  let s := if bitOf v 9 then s.setBit r SPT_H_CMD_CTRL_DISCARD false else s
  if !bitOf v 1 then s
  else if s.bit r SPT_H_CMD_CTRL_BUSY then s.setBit r SPT_H_CMD_CTRL_DISCARD true
  else
    let h := s.portHead p
    if s.leadPort h = some p then s.newCmd h (bitOf v 0) (s.rd (SPT_H_CMD_ADDR p)) (s.rd (SPT_H_CMD_DATA p)) .software else s

/-- Row SPT_CMD_GO. -/
def execSptCmdGo (p : Fin 8) (v : Word) (s : State) : Res := .next (s.hostDo (SPT_H_CMD_CTRL p) true (·.cmdCtrlWrite p v))

/-- Row SPT_CMD_TIMEOUT: the request is sent again, or after three attempts the command ends with STATUS 0xF (R168). -/
def execSptCmdTimeout (h : Fin 8) (s : State) : Res :=
  .next (s.settle (match (s.sptOf h).cmd with
    | none => s
    | some c => if c.tries < 3 then s.sendCmd h c else s.cmdDone h 15 0 138))

/-- Row ZL_RESPONSE: a Response with its data block (R167, R168). -/
def execZlResponse (h : Fin 8) (c : BitVec 56) (d : BitVec 64) (s : State) : Res :=
  .next (s.settle (
    if !s.cmdl h then s
    else if !ctlOk 0x3C c then s.proto h
    else
      let s := s.setSpt h { s.sptOf h with rxSleep := false }
      let blk := 0x3C#8 :: leBytes 7 c.toNat
      let data := leBytes 4 d.toNat
      match (s.sptOf h).cmd with
      | none => s
      | some q =>
        if crc32c (blk ++ data) = w32 (d.toNat / 4294967296) && ctlByte c 1 == (if q.write then 2 else 1) && ctlByte c 2 == q.tag then
          s.cmdDone h (ctlByte c 3 % 16) (w32 d.toNat) 139
        else s))

/-- Row ZL_SLEEP: the head-to-CX96 direction of the command lane sleeps (R169). -/
def execZlSleep (h : Fin 8) (c : BitVec 56) (s : State) : Res :=
  .next (if !ctlOk 0xE1 c then s.proto h else if s.cmdl h then s.setSpt h { s.sptOf h with rxSleep := true } else s)

/-- Row CMDL_TX_IDLE_TIMEOUT: the CX96 sends Sleep and its transmit direction idles (R169). -/
def execCmdlTxIdleTimeout (h : Fin 8) (s : State) : Res :=
  .next (
    let p := s.hp h
    let idle := bitsOf (s.rd (SPT_H_SLEEP p)).toNat 15 0
    if s.cmdl h && idle ≠ 0 && s.fld (SPT_H_CFG p) SPT_H_CFG_TRIG < 2 && !(s.sptOf h).txSleep then
      (s.setSpt h { s.sptOf h with txSleep := true }).emit (.cmdLane h (ctlBlock 0xE1 []))
    else s)

/-- Row CMDL_WAKE_TIMEOUT: a waking direction fails to regain block lock (R169). -/
def execCmdlWakeTimeout (h : Fin 8) (s : State) : Res := .next (s.settle (if s.cmdl h then s.linkLost h else s))

/-! ### Triggers (R170) -/

/-- A trigger delivery to one head: detail bit 0 says exposure (0) or readout (1). -/
def State.trigHead (s : State) (h detail : Nat) : State :=
  let p := s.hp h
  if s.zlStage h ≠ 4 then s.inc (SPT_H_TRIG_DROP p)
  else
    let t := s.fld (SPT_H_CFG p) SPT_H_CFG_TRIG
    let s := if t % 2 = 1 then (s.setSpt h { s.sptOf h with trigPulse := true }).emit (.trigger h detail) else s
    if 2 ≤ t then s.emit (.cmdLane h (ctlBlock 0xA5 (leBytes 1 (detail % 2) ++ wordBytes s.ns))) else s

/-- Row TRIGGER_PULSE_END: the pulse on ball BG8 + h ends. -/
def execTriggerPulseEnd (h : Fin 8) (s : State) : Res := .next (s.setSpt h { s.sptOf h with trigPulse := false })

/-! ### TB2 (R138) -/

/-- A Frame Start on TB2: the frame count advances and the line is 0. -/
def State.tb2Frame (s : State) (h : Nat) : State :=
  s.wr (STK_TB2_NOW h) (w32 (((s.rd (STK_TB2_NOW h)).toNat / 16384 + 1) % 262144 * 16384))

/-- A line number on TB2. -/
def State.tb2Line (s : State) (h n : Nat) : State :=
  s.wr (STK_TB2_NOW h) (w32 ((s.rd (STK_TB2_NOW h)).toNat / 16384 * 16384 + n % 16384))

/-! ### Frames and lines (R171 to R176) -/

/-- The stakeboat group that has a head as a current member. -/
def State.groupOf (s : State) (h : Nat) : Option Nat :=
  (List.range 4).find? (fun g => bitOf (s.rd (SPT_SG_CFG g)) 16 && bitOf (s.rd (SPT_SG_ACTIVE g)) h)

/-- The open frame of a head changed. -/
def State.modFrame (s : State) (h : Nat) (f : OpenFrame → OpenFrame) : State :=
  let x := s.sptOf h
  match x.frame with
  | none => s
  | some fr => s.setSpt h { x with frame := some (f fr) }

/-- A line of a readout, received or substituted, passes to Catch and on to Drive. -/
def State.passLine (s : State) (h r n : Nat) (px : List Nat) (subst : Bool) : State :=
  let s := s.modFrame h (fun f => { f with
    next := tabSet f.next 0 r (n + 1), hist := tabSet f.hist [] r ((px :: tabGet f.hist [] r).take 4) })
  (s.catLine h r n px subst).drvAdvance h false (s.geom h).h

/-- Line E(r) of a readout is missing and is substituted (R172, R174). -/
def State.substLine (s : State) (h r : Nat) : State :=
  match (s.sptOf h).frame with
  | none => s
  | some f =>
    let g := s.geom h
    let n := tabGet f.next 0 r
    let d := if g.cfa = 1 then 4 else 2
    let px := match (tabGet f.hist [] r)[d - 1]? with
      | some l => l
      | none => List.replicate g.w (bitsOf (s.rd (SPT_H_FILL (s.hp h))).toNat 15 0)
    let s := s.inc (SPT_H_SUBST (s.hp h))
    let s := s.modFrame h (fun f => { f with info := { f.info with subst := f.info.subst + 1, map := n :: f.info.map } })
    let s := if f.headless then s else s.tb2Line h n
    s.passLine h r n px true

/-- Lines of a readout up to but not including `n` are missing (R172). -/
def State.substUpTo (s : State) (h r n : Nat) : Nat → State
  | 0 => s
  | fuel + 1 =>
    match (s.sptOf h).frame with
    | none => s
    | some f => if tabGet f.next 0 r < n then (s.substLine h r).substUpTo h r n fuel else s

/-- A line of a readout is missing (R172): it and what lies before it are substituted. -/
def State.lineMissing (s : State) (h r n : Nat) : State := s.substUpTo h r (n + 1) (n + 1)

/-- A received line is accepted; `kept` says that its CRC-32C failed and CRC_KEEP keeps it (R171, R172). -/
def State.lineAccept (s : State) (h r n : Nat) (px : List Nat) (kept : Bool) : State :=
  let s := s.substUpTo h r n n
  let s := if kept then s.modFrame h (fun f => { f with info := { f.info with kept := f.info.kept + 1, map := n :: f.info.map } }) else s
  s.passLine h r n px false

/-- Every line still missing, in ascending line order. -/
def State.substRest (s : State) (h : Nat) : State :=
  match (s.sptOf h).frame with
  | none => s
  | some f => (List.range (s.geom h).h).foldl (fun s n => (List.range f.readouts).foldl (fun s r => s.substUpTo h r (n + 1) 1) s) s

/-- The run of INCOMPLETE frames of a member (R178): a byte of SPT_SG_RUN_LO or HI. -/
def sgRunReg (g h : Nat) : Reg := if h < 4 then SPT_SG_RUN_LO g else SPT_SG_RUN_HI g
/-- Its field. -/
def sgRunFld (h : Nat) : Fld := ⟨8 * (h % 4) + 7, 8 * (h % 4)⟩

/-- A member's frame closed: its run of INCOMPLETE frames (R178). -/
def State.sgCount (s : State) (h : Nat) (incomplete : Bool) : State :=
  match s.groupOf h with
  | none => s
  | some g => s.setFld (sgRunReg g h) (sgRunFld h) (if incomplete then min 255 (s.fld (sgRunReg g h) (sgRunFld h) + 1) else 0)

/-- A frame closes (R175 to R177): missing lines are substituted, INCOMPLETE is counted, and the frame passes to Catch and Drive. `atEnd` says that
a Frame End or a Frame Start closes it, so that a line still open does not arrive later. -/
def State.closeFrame (s : State) (h : Nat) (atEnd : Bool) : State :=
  match (s.sptOf h).frame with
  | none => s
  | some _ =>
    let s := s.substRest h
    match (s.sptOf h).frame with
    | none => s
    | some f =>
      let inc := decide (0 < f.info.subst) || decide (0 < f.info.kept)
      let i := { f.info with tClose := s.ns, incomplete := inc }
      let x := s.sptOf h
      let s := s.setSpt h { x with
        frame := none, due := false, closed := if f.headless then x.closed else some i.number,
        line := if atEnd then none else x.line.map (fun l => if l.mode == LineMode.taken then { l with mode := LineMode.late } else l) }
      let s := if inc then (s.inc (SPT_H_INCOMPLETE (s.hp h))).raise 134 (s.spBid h) [w32 i.number] else s
      (((s.catFrameClose h i).drvClose h i).cmpHeadClose h i).sgCount h inc

/-- A block of the head's ports is held or stopped. -/
def State.spIdle (s : State) (h : Nat) : Bool := (s.headPorts h).any (fun p => !s.running (0x0200 + p))

/-- A frame opens in Catch and Drive. -/
def State.openFrame (s : State) (h : Nat) (f : OpenFrame) : State :=
  let s := s.setSpt h { s.sptOf h with frame := some f, line := none, legLine := 0 }
  (((s.catFrameStart h).drvFrameStart h).lkpFrameStart h).cmpHeadStart h

/-- H0's first frame in Paddle mode meets the limits of R119. -/
def paddleLimits (d : BootDesc) : Bool :=
  decide (1920 ≤ d.paddleW) && decide (d.paddleW ≤ 4096) && decide (1080 ≤ d.paddleH) && decide (d.paddleH ≤ 2304) &&
  decide (10 ≤ d.paddleB) && decide (d.paddleB ≤ 16) && !(d.paddleCfa % 4 == 1 && decide (2048 < d.paddleW)) &&
  decide (d.paddleRate * d.paddleW * d.paddleH * d.paddleB * 66 ≤ 9700000000 * 64 * 1000)

/-- Paddle mode serves from H0's first accepted frame (R118, R119, R122); a limit that fails leaves it unstarted. -/
def State.paddleFirst (s : State) (h : Nat) : State × Bool :=
  if h ≠ 0 then (s, true)
  else match s.boot.paddle, s.boot.desc with
    | .waiting, some d =>
      if paddleLimits d then ((s.paddleServe.paddleLayer.paddleScan).raise 33 0x0E00 [s.ns], true)
      else ((s.bootFail 8).paddleEnd, false)
    | _, _ => (s, true)

/-- A Frame Start is accepted (R171, R138, R173). -/
def State.acceptFrame (s : State) (h number readouts : Nat) : State :=
  let (s, go) := s.paddleFirst h
  if !go then s
  else if s.spIdle h then
    (s.headPorts h).foldl (fun s p => s.skipHeld (0x0200 + p)) (s.setSpt h { s.sptOf h with reject := true })
  else
    let p := s.hp h
    let s := ((s.incWrap (SPT_H_FRAMES p)).wr (SPT_H_LAST_FRAME p) (w32 number)).tb2Frame h
    let group := match s.groupOf h with
      | some g => s.rd (SPT_SG_FRAME g)
      | none => 0xFFFFFFFF
    let s := s.setSpt h { s.sptOf h with reject := false, closed := none, last := some number }
    let i : FrameInfo := { seq := s.rd (SPT_H_FRAMES p), number := number, group := group, tStart := s.ns, tb1 := s.tb1Now }
    s.openFrame h { info := i, readouts := readouts }

/-- The mode tag and readouts of a Frame Start fit (R171, R121). -/
def State.frameModeOk (s : State) (h tag r : Nat) : Bool :=
  if s.paddleHead h then (s.modeTag h == 0xFF || tag == s.modeTag h) && decide (1 ≤ r) && decide (r ≤ 4)
  else tag == s.modeTag h && r == (s.geom h).r

/-- A Frame Start packet (R171). -/
def State.frameStart (s : State) (h : Nat) (c : BitVec 56) : State :=
  let p := s.hp h
  let number := ctlHalf c 2
  if !ctlOk 0x55 c then s.proto h
  else if ctlByte c 1 % 8 ≠ h then s.proto h
  else if !s.frameModeOk h (ctlByte c 4) (ctlByte c 5) then
    let s := ((s.proto h).raise 131 (s.spBid h)).closeFrame h true
    s.setSpt h { s.sptOf h with reject := true, line := none }
  else
    let x := s.sptOf h
    let gap := match x.last with
      | some l => number != (l + 1) % 65536
      | none => false
    let s := if gap then s.inc (SPT_H_FRAME_GAP p) else if x.frame.isSome then s.proto h else s
    (s.closeFrame h true).acceptFrame h number (ctlByte c 5)

/-- Row ZL_FRAME_START. -/
def execZlFrameStart (h : Fin 8) (c : BitVec 56) (s : State) : Res :=
  .next (if s.zlStage h = 4 && s.headUp h then s.settle (s.frameStart h c) else s)

/-- A line begins that is not of an open frame, or is discarded. -/
def State.dropLine (s : State) (h : Nat) (late : Bool) : State :=
  let s := s.setSpt h { s.sptOf h with line := some { mode := LineMode.dropped } }
  if late then s.inc (SPT_H_LATE_LINE (s.hp h)) else s

/-- A Line Start packet (R171). -/
def State.lineStart (s : State) (h : Nat) (c : BitVec 56) : State :=
  let ro := bitsOf (ctlByte c 1) 5 4
  let n := ctlHalf c 2
  let x := s.sptOf h
  let g := s.geom h
  let open_ := match x.line with
    | some l => if l.mode == LineMode.taken then some l else none
    | none => none
  let endOpen (s : State) : State := match open_ with
    | some l => s.lineMissing h l.readout l.line
    | none => s
  if !ctlOk 0x66 c then ((endOpen s).proto h).dropLine h false
  else if ctlByte c 1 % 8 ≠ h then (s.proto h).dropLine h false
  else match x.frame with
    | none =>
      if x.closed.map (· % 256) = some (ctlByte c 4) then s.dropLine h true
      else if x.reject then s.dropLine h false
      else (s.proto h).dropLine h false
    | some f =>
      if g.h ≤ n || f.readouts ≤ ro || ctlByte c 4 ≠ f.info.number % 256 then ((endOpen s).proto h).dropLine h false
      else
        let s := if open_.isSome then (endOpen s).proto h else s
        let e := ((s.sptOf h).frame.map (fun f => tabGet f.next 0 ro)).getD 0
        if n < e then s.dropLine h true
        else
          let s := s.setSpt h { s.sptOf h with line := some ({ mode := LineMode.taken, readout := ro, line := n } : OpenLine) }
          if ro = 0 then s.tb2Line h n else s

/-- Row ZL_LINE_START. -/
def execZlLineStart (h : Fin 8) (c : BitVec 56) (s : State) : Res :=
  .next (if s.zlStage h = 4 && s.headUp h then s.settle (s.lineStart h c) else s)

/-- Row ZL_PAYLOAD: a data block of the open line; outside a line the Payload counts once as a protocol error (R171). -/
def execZlPayload (h : Fin 8) (d : BitVec 64) (s : State) : Res :=
  .next (if s.zlStage h = 4 && s.headUp h then
      match (s.sptOf h).line with
      | some l =>
        if l.mode == LineMode.taken then s.setSpt h { s.sptOf h with line := some { l with payload := l.payload ++ leBytes 8 d.toNat } } else s
      | none => if (s.sptOf h).reject then s else (s.proto h).dropLine h false
    else s)

/-- Code values packed in a line's payload (R160). -/
def unpackLine (w b : Nat) (bits : Nat) : List Nat := (List.range w).map (fun i => bits / 2 ^ (i * b) % 2 ^ b)

/-- A Line End packet (R171). -/
def State.lineEnd (s : State) (h : Nat) (c : BitVec 56) : State :=
  let g := s.geom h
  if !ctlOk 0x78 c then s.proto h
  else match (s.sptOf h).line with
    | none => s
    | some l =>
      let s := s.setSpt h { s.sptOf h with line := none }
      match l.mode with
      | .dropped => s
      | .late => s.inc (SPT_H_LATE_LINE (s.hp h))
      | .taken =>
        let e := ((s.sptOf h).frame.map (fun f => tabGet f.next 0 l.readout)).getD 0
        if l.line < e then s.inc (SPT_H_LATE_LINE (s.hp h))
        else if l.payload.length ≠ 8 * ceilDiv (g.w * g.b) 64 || ctlHalf c 5 ≠ l.line then (s.proto h).lineMissing h l.readout l.line
        else
          let ok := (crc32c l.payload).toNat == bitsOf c.toNat 31 0
          let px := unpackLine g.w g.b (leNat l.payload)
          if ok then s.lineAccept h l.readout l.line px false
          else
            let s := (s.inc (SPT_H_CRC_ERR (s.hp h))).raiseOnce 132 h (s.spBid h)
            if s.bit (SPT_H_CFG (s.hp h)) SPT_H_CFG_CRC_KEEP then s.lineAccept h l.readout l.line px true
            else s.lineMissing h l.readout l.line

/-- Row ZL_LINE_END. -/
def execZlLineEnd (h : Fin 8) (c : BitVec 56) (s : State) : Res :=
  .next (if s.zlStage h = 4 && s.headUp h then s.settle (s.lineEnd h c) else s)

/-- A Frame End packet (R171, R175). -/
def State.frameEnd (s : State) (h : Nat) (c : BitVec 56) : State :=
  let x := s.sptOf h
  if !ctlOk 0x87 c then s.proto h
  else match x.frame with
    | some _ => (s.setFld (SPT_H_STATUS_WORD (s.hp h)) ⟨7, 0⟩ (ctlByte c 5)).closeFrame h true
    | none =>
      if x.reject then s.setSpt h { x with reject := false, line := none }
      else if x.closed = some (ctlHalf c 1) then s
      else s.proto h

/-- Row ZL_FRAME_END. -/
def execZlFrameEnd (h : Fin 8) (c : BitVec 56) (s : State) : Res :=
  .next (if s.zlStage h = 4 && s.headUp h then s.settle (s.frameEnd h c) else s)

/-- Row ZL_STATUS: the status word, the head temperature and event 137 (R183, R199). -/
def execZlStatus (h : Fin 8) (c : BitVec 56) (s : State) : Res :=
  .next (if (s.zlStage h = 3 || s.zlStage h = 4) && s.headUp h then
      if !ctlOk 0x99 c then s.proto h
      else if ctlByte c 1 ≠ h then s.proto h
      else
        let v := w32 (bitsOf c.toNat 47 16)
        let code := ctlByte c 2
        let r := SPT_H_STATUS_WORD (s.hp h)
        let s := (s.setFld r ⟨15, 8⟩ code).setFld r ⟨31, 16⟩ (v.toNat % 65536)
        let s := if code = 0x10 then s.catTemp h v else s
        s.raise 137 (s.spBid h) [v, w32 code]
    else s)

/-- The readout whose next line is lowest, ties to the lower index (R173). -/
def lowestReadout (f : OpenFrame) : Nat :=
  (List.range f.readouts).foldl (fun b r => if tabGet f.next 0 r < tabGet f.next 0 b then r else b) 0

/-- Row LINE_TIMEOUT (R173). -/
def execLineTimeout (h : Fin 8) (s : State) : Res :=
  .next (match (s.sptOf h).frame with
    | none => s
    | some f =>
      let r := lowestReadout f
      if s.zlStage h = 4 && tabGet f.next 0 r < (s.geom h).h then
        s.settle (((s.substLine h r).inc (SPT_H_TMO_CNT (s.hp h))).raiseOnce 133 h (s.spBid h))
      else s)

/-- Row FRAME_TIMEOUT: SPT_H_FRAME_TMO after Frame Start, for a head outside a group (R175). -/
def execFrameTimeout (h : Fin 8) (s : State) : Res :=
  .next (if (s.groupOf h).isNone then s.settle (s.closeFrame h false) else s)

/-! ### Lanes, training and lock: rows LANE_IDLE_EXIT to ZL_IDLE -/

/-- Row LANE_IDLE_EXIT: DETECT passes to TRAIN (R163). -/
def execLaneIdleExit (h : Fin 8) (s : State) : Res :=
  .next (if s.headUp h && s.zlStage h = 0 && !s.spIdle h then
      let s := (s.headPorts h).foldl (fun s p => s.setFld (SPT_P_LANE_STAT p) ⟨27, 16⟩ 0) s
      (s.setSpt h { s.sptOf h with offsets := [] }).setStage h 1
    else s)

/-- Row EQ_ADAPT_DONE: TRAIN passes to LOCK (R163). -/
def execEqAdaptDone (h : Fin 8) (s : State) : Res :=
  .next (if s.zlStage h = 1 && !s.legacy h then s.setStage h 2 else s)

/-- Row TRAIN_TIMEOUT: TRAIN falls to LOCK at 200 µs (R163). -/
def execTrainTimeout (h : Fin 8) (s : State) : Res :=
  .next (if s.zlStage h = 1 && !s.legacy h then s.setStage h 2 else s)

/-- Row LOCK_TIMEOUT: no lock and deskew in SPT_H_LOCK_TMO; back to DETECT with event 130 (R163). -/
def execLockTimeout (h : Fin 8) (s : State) : Res :=
  .next (if (s.zlStage h = 1 || s.zlStage h = 2) && !s.legacy h then s.settle ((s.setStage h 0).raise 130 (s.spBid h)) else s)

/-- Row ZL_BLOCK_INVALID: on a head lane, after a number of valid headers since the last block counted there (R156). -/
def execZlBlockInvalid (h : Fin 8) (k : Nat) (valid : Nat) (s : State) : Res :=
  .next (if s.headUp h && k < s.laneCount h then
      let (p, l) := s.lanePlace h k
      s.settle ((s.headers p l valid).badHeader h k)
    else s)

/-- Row ZL_TRAIN: a Train block on a head lane is used for lock (R163). -/
def execZlTrain (h : Fin 8) (k : Nat) (c : BitVec 56) (s : State) : Res :=
  .next (if s.headUp h && k < s.laneCount h then
      let (p, l) := s.lanePlace h k
      let s := s.headers p l 1
      if ctlOk 0xD2 c then s else s.proto h
    else s)

/-- Row ZL_IDLE: an Idle block on a head lane is used for lock alone (R158, R163). -/
def execZlIdle (h : Fin 8) (k : Nat) (c : BitVec 56) (s : State) : Res :=
  .next (if s.headUp h && k < s.laneCount h then
      let (p, l) := s.lanePlace h k
      let s := s.headers p l 1
      if ctlOk 0x1E c then s else s.proto h
    else s)

/-- The lane of an Align stripe that is not in its own place (R162). -/
def State.miswired (s : State) (h : Nat) (lanes : List (BitVec 56 × Byte)) : Option Nat :=
  (lanes.zipIdx.find? (fun e =>
    let (p, l) := s.lanePlace h e.2
    !(ctlByte e.1.1 1 % 8 == h && ctlByte e.1.1 2 == p - s.hp h && ctlByte e.1.1 3 == l))).map (·.2)

/-- The latest lane of a stripe. -/
def latestLane (offs : List Nat) : Nat := (offs.zipIdx.foldl (fun (b : Nat × Nat) e => if b.1 < e.1 then e else b) (0, 0)).2

/-- An Align stripe (R162): each lane's content and its arrival in blocks after the earliest. -/
def State.alignStripe (s : State) (h : Nat) (lanes : List (BitVec 56 × Byte)) : State :=
  let offs0 := lanes.map (fun e => e.2.toNat)
  let lo := offs0.foldl min 255
  let offs := offs0.map (· - lo)
  let bad := (lanes.filter (fun e => !ctlOk 0x4B e.1)).length
  if bad ≠ 0 then (List.range bad).foldl (fun s _ => s.proto h) s
  else if !s.allLocked h then s
  else
    let s := offs.zipIdx.foldl (fun s e => let (p, l) := s.lanePlace h e.2; s.setFld (SPT_L_STAT p l) ⟨13, 8⟩ (min 63 e.1)) s
    let fail (s : State) (k : Nat) : State := (s.setSpt h { s.sptOf h with offsets := [] }).raise 136 (s.spBid h) [w32 k]
    match s.miswired h lanes with
    | some k => fail s k
    | none =>
      if 48 < offs.foldl max 0 then fail s (latestLane offs)
      else if s.zlStage h = 2 && (s.sptOf h).offsets = offs then (s.setSpt h { s.sptOf h with offsets := offs }).enterExchange h
      else s.setSpt h { s.sptOf h with offsets := offs }

/-- Row ZL_ALIGN: a stripe with one Align on every lane of the head. -/
def execZlAlign (h : Fin 8) (lanes : List (BitVec 56 × Byte)) (s : State) : Res :=
  .next (if s.headUp h && 2 ≤ s.zlStage h && s.zlStage h ≤ 4 && !s.legacy h && lanes.length = s.laneCount h then s.settle (s.alignStripe h lanes) else s)

/-! ### Stakeboat groups (R177, R178) -/

/-- Members of a group that receive its triggers. -/
def State.sgMembers (s : State) (g : Nat) : List Nat := (List.range 8).filter (fun h => bitOf (s.rd (SPT_SG_ACTIVE g)) h)

/-- A requested readmission is served (R178). -/
def State.sgRejoin (s : State) (g h : Nat) : State :=
  if !bitOf (s.rd (SPT_SG_REJOIN g)) h then s
  else if !bitOf (s.rd (SPT_SG_ACTIVE g)) (8 + h) then s.setFld (SPT_SG_REJOIN g) ⟨h, h⟩ 0
  else if s.zlStage h = 4 then
    let s := (s.setFld (SPT_SG_ACTIVE g) ⟨8 + h, 8 + h⟩ 0).setFld (SPT_SG_ACTIVE g) ⟨h, h⟩ 1
    let s := (s.setFld (SPT_SG_REJOIN g) ⟨h, h⟩ 0).setFld (sgRunReg g h) (sgRunFld h) 0
    s.raise 145 (s.spBid h) [w32 h, s.rd (SPT_SG_FRAME g)]
  else s

/-- A group frame start (R177): the group frame number advances, readmissions are served, and each member owes a frame. -/
def State.sgFrameStart (s : State) (g : Nat) : State :=
  let s := s.incWrap (SPT_SG_FRAME g)
  let s := (List.range 8).foldl (fun s h => s.sgRejoin g h) s
  (s.sgMembers g).foldl (fun s h => s.setSpt h { s.sptOf h with due := true }) s

/-- A trigger delivery to a head, and with it to every current member of its group (R177). -/
def State.trigger (s : State) (h detail : Nat) : State :=
  match (List.range 4).find? (fun g => bitOf (s.rd (SPT_SG_CFG g)) 16 && bitOf (s.rd (SPT_SG_CFG g)) h) with
  | some g =>
    let s := if detail % 2 = 0 then s.sgFrameStart g else s
    (s.sgMembers g).foldl (fun s m => s.trigHead m detail) s
  | none => s.trigHead h detail

/-- A member's frame at the group deadline (R177): it closes, or a frame of FILL lines stands for it. -/
def State.sgMemberClose (s : State) (g h : Nat) : State :=
  let x := s.sptOf h
  if x.frame.isSome then s.closeFrame h false
  else if x.due then
    let n := match x.last with
      | some l => (l + 1) % 65536
      | none => 0
    let i : FrameInfo := { seq := s.rd (SPT_H_FRAMES (s.hp h)), number := n, group := s.rd (SPT_SG_FRAME g), tStart := s.ns, tb1 := s.tb1Now }
    (s.openFrame h { info := i, readouts := (s.geom h).r, headless := true }).closeFrame h false
  else s

/-- A member whose run reaches DROP_LIMIT is dropped (R178). -/
def State.sgDrop (s : State) (g h : Nat) : State :=
  let lim := bitsOf (s.rd (SPT_SG_CFG g)).toNat 15 8
  let lim := if lim = 0 then 8 else lim
  if lim ≤ s.fld (sgRunReg g h) (sgRunFld h) then
    ((s.setFld (SPT_SG_ACTIVE g) ⟨h, h⟩ 0).setFld (SPT_SG_ACTIVE g) ⟨8 + h, 8 + h⟩ 1).raise 144 (s.spBid h) [w32 h, s.rd (SPT_SG_FRAME g)]
  else s

/-- Row SG_DEADLINE. -/
def execSgDeadline (g : Fin 4) (s : State) : Res :=
  .next (if bitOf (s.rd (SPT_SG_CFG g)) 16 then
      let ms := s.sgMembers g
      let t := ms.foldl (fun s h => s.sgMemberClose g h) s
      s.settle (ms.foldl (fun s h => s.sgDrop g h) t)
    else s)

/-- A write of SPT_SG_REJOIN: bits are set and clear when served. -/
def State.sgRejoinWrite (s : State) (g : Nat) (v : Word) : State := s.wr (SPT_SG_REJOIN g) (s.rd (SPT_SG_REJOIN g) ||| (v &&& 0xFF))

/-- Row SG_REJOIN_WRITE. -/
def execSgRejoinWrite (g : Fin 4) (v : Word) (s : State) : Res := .next (s.hostDo (SPT_SG_REJOIN g) true (·.sgRejoinWrite g v))

/-! ### Legacy mode (R179 to R181) -/

/-- A write of SPT_L_BITSLIP. -/
def State.bitslip (s : State) (p l : Nat) (v : Word) : State := if bitOf v 0 then s.wr (SPT_L_LEG_MATCH p l) 0 else s

/-- Row SPT_L_BITSLIP. -/
def execSptLBitslip (p : Fin 8) (l : Fin 12) (v : Word) (s : State) : Res := .next (s.hostDo (SPT_L_BITSLIP p l) true (·.bitslip p l v))

/-- RUN: a word-aligned Legacy port enters ACTIVE (R181). -/
def State.legRun (s : State) (p : Nat) : State :=
  let h := s.portHead p
  if s.legacy h && s.zlStage h = 2 then s.setStage h 4 else s

/-- A write of SPT_P_LEG_CTRL: ALIGN starts word alignment, RUN enters ACTIVE (R181). -/
def State.legCtrlWrite (s : State) (p : Nat) (v : Word) : State :=
  let h := s.portHead p
  let s := if bitOf v 0 && s.legacy h && s.zlStage h = 1 then
      (s.setScript p { s.scriptOf p with aligning := true }).setFld (SPT_P_LEG_STAT p) ⟨0, 0⟩ 0 else s
  if bitOf v 1 then s.legRun p else s

/-- Row LEGACY_ALIGN. -/
def execLegacyAlign (p : Fin 8) (v : Word) (s : State) : Res := .next (s.hostDo (SPT_P_LEG_CTRL p) true (·.legCtrlWrite p v))

/-- Row LEGACY_RUN. -/
def execLegacyRun (p : Fin 8) (v : Word) (s : State) : Res := .next (s.hostDo (SPT_P_LEG_CTRL p) true (·.legCtrlWrite p v))

/-- Word alignment ends (R181): the word offset at which each lane showed the all-ones word, or none. -/
def State.legAlignDone (s : State) (p : Nat) (offs : List (Option Nat)) : State :=
  let x := s.scriptOf p
  let op6 := x.busy && leAt (s.scriptEntry p) 0 1 == 6
  let h := s.portHead p
  if !x.aligning then s
  else
    let s := s.setScript p { x with aligning := false }
    let fail (s : State) (k : Nat) : State :=
      let s := s.raise 136 (0x0200 + p) [w32 k]
      if op6 then s.scriptDone p false else s
    match offs.zipIdx.find? (fun e => e.1.isNone) with
    | some e => fail s e.2
    | none =>
      let os := offs.map (·.getD 0)
      let skew := os.foldl max 0 - os.foldl min (os.headD 0)
      if 8 < skew then fail s (latestLane os)
      else
        let s := (s.wr (SPT_P_LEG_STAT p) (w32 (1 + skew * 256))).setStage h 2
        if op6 then (s.legRun p).scriptDone p true else s

/-- Row LEGACY_ALIGN_DONE. -/
def execLegacyAlignDone (p : Fin 8) (offs : List (Option Nat)) (s : State) : Res := .next (s.settle (s.legAlignDone p offs))

/-- A Legacy word on a lane (R180, R181): it counts against the training word, or fills the open line. -/
def State.legWord (s : State) (p l : Nat) (w : Nat) : State :=
  let h := s.portHead p
  let b := (s.geom h).b
  let w := w % 2 ^ b
  let m := if w = bitsOf (s.rd (SPT_P_LEG_TRAIN p)).toNat 15 0 % 2 ^ b then min 255 ((s.rd (SPT_L_LEG_MATCH p l)).toNat + 1) else 0
  let s := s.wr (SPT_L_LEG_MATCH p l) (w32 m)
  match (s.sptOf h).line with
  | some ln =>
    if s.zlStage h = 4 && ln.mode == LineMode.taken then
      s.setSpt h { s.sptOf h with line := some { ln with words := tabSet ln.words [] l (tabGet ln.words [] l ++ [w]) } }
    else s
  | none => s

/-- Row LEGACY_WORD. -/
def execLegacyWord (p : Fin 8) (l : Fin 12) (w : BitVec 16) (s : State) : Res :=
  .next (if s.legacy (s.portHead p) && s.headUp (s.portHead p) then s.legWord p l w.toNat else s)

/-- The open Legacy line ends at EOL: its word count per lane is W ÷ L, or it is missing (R180). -/
def State.legEndLine (s : State) (h : Nat) : State :=
  match (s.sptOf h).line with
  | none => s
  | some ln =>
    let s := s.setSpt h { s.sptOf h with line := none }
    let g := s.geom h
    let n := s.headLanes h
    let e := ((s.sptOf h).frame.map (fun f => tabGet f.next 0 0)).getD 0
    if ln.mode != LineMode.taken then s
    else if ln.line < e then s.inc (SPT_H_LATE_LINE (s.hp h))
    else if (List.range n).all (fun l => (tabGet ln.words [] l).length * n == g.w) then
      s.lineAccept h 0 ln.line ((List.range g.w).map (fun k => ((tabGet ln.words [] (k % n))[k / n]?).getD 0)) false
    else s.lineMissing h 0 ln.line

/-- A Legacy sync code on a port in ACTIVE (R180). -/
def State.legCode (s : State) (p : Nat) (code : Nat) : State :=
  let h := s.portHead p
  let r := (s.rd (SPT_P_LEG_SYNC p)).toNat
  let x := s.sptOf h
  if code = bitsOf r 23 16 then (s.closeFrame h true).acceptFrame h ((s.rd (SPT_H_FRAMES (s.hp h))).toNat % 65536) 1
  else if code = bitsOf r 7 0 then
    match x.frame with
    | none => s
    | some _ =>
      let s := match x.line with
        | some ln => if ln.mode == LineMode.taken then s.lineMissing h 0 ln.line else s
        | none => s
      let n := x.legLine
      let s := s.setSpt h { s.sptOf h with legLine := n + 1 }
      if (s.geom h).h ≤ n then (s.proto h).dropLine h false
      else (s.setSpt h { s.sptOf h with line := some ({ mode := LineMode.taken, line := n } : OpenLine) }).tb2Line h n
  else if code = bitsOf r 15 8 then s.legEndLine h
  else if code = bitsOf r 31 24 then s.closeFrame h true
  else s

/-- Row LEGACY_SYNC_CODE: bits [b − 1 : b − 8] of a code word. -/
def execLegacySyncCode (p : Fin 8) (code : Byte) (s : State) : Res :=
  .next (if s.legacy (s.portHead p) && s.headUp (s.portHead p) && s.zlStage (s.portHead p) = 4 then s.settle (s.legCode p code.toNat) else s)

/-! ### Checks of a commit (R153, R154, R179, R186, R202, R208, R210, R525) -/

/-- A head's port configuration is legal: its ports exist, carry it alone at one rate and lane count, and meet R154, R179 and R525. -/
def chkPorts (v : State) (p : Nat) : Option Nat :=
  let c := v.rd (SPT_P_CFG p)
  if !(v.bit (SPT_P_CFG p) SPT_P_CFG_EN && v.bit (SPT_P_CFG p) SPT_P_CFG_LEAD) then none
  else
    let h := SPT_P_CFG_HEAD.get c
    let n := v.fld (SPT_H_CFG p) SPT_H_CFG_PORTS + 1
    let rate := SPT_P_CFG_RATE.get c
    let lanes := SPT_P_CFG_LANES.get c
    let f := (v.rd (SPT_H_FMT p)).toNat
    let same (q : Nat) : Bool :=
      let d := v.rd (SPT_P_CFG q)
      v.bit (SPT_P_CFG q) SPT_P_CFG_EN && SPT_P_CFG_HEAD.get d == h && SPT_P_CFG_RATE.get d == rate && SPT_P_CFG_LANES.get d == lanes &&
      (q == p || !v.bit (SPT_P_CFG q) SPT_P_CFG_LEAD)
    let legacyOk := decide (rate ≤ 20) && n == 1 && decide (10 ≤ f % 32) && decide (f % 32 ≤ 16) && bitsOf f 6 5 == 0 &&
      !v.bit (SPT_H_CFG p) SPT_H_CFG_CMDL
    let fr := (v.rd (SPT_H_RATE p)).toNat
    if p + n ≤ 8 && (List.range n).all (fun i => same (p + i)) && 10 ≤ rate && rate ≤ 80 && 1 ≤ lanes && lanes ≤ 12 &&
      (!v.bit (SPT_P_CFG p) SPT_P_CFG_LEGACY || legacyOk) && 1000 ≤ fr && fr ≤ 2000000 then none
    else some 0x0401

/-- A head's geometry is within R186. -/
def geomOk (g : Geom) : Bool :=
  decide (256 ≤ g.w) && decide (g.w ≤ 32768) && g.w % 8 == 0 && decide (16 ≤ g.h) && decide (g.h ≤ 16384) && decide (10 ≤ g.b) && decide (g.b ≤ 16) &&
  decide (1 ≤ g.r) && decide (g.r ≤ 4) && (g.r == 1 || (decide (1 ≤ g.o) && decide (g.o ≤ g.h)))

/-- The RATIO registers meet R208. -/
def ratiosOk (v : State) (h r : Nat) : Bool :=
  (List.range r).all (fun i => fpLe fpOne (v.rd (CAT_H_RATIO h i)) && fpLe (v.rd (CAT_H_RATIO h i)) 0x43800000) &&
  (List.range r).any (fun i => v.rd (CAT_H_RATIO h i) == fpOne)

/-- A head of the raw front end: R186, R202, R208 and R82's limit on native output. `learner` says that a learner is rigged on a Catch seat. -/
def chkCat (v : State) (h : Nat) (learner : Bool) : Option Nat :=
  if !v.bit (CAT_H_CFG h) CAT_H_CFG_EN then none
  else
    let g := v.geom h
    let fe := v.fld (CAT_H_CFG h) CAT_H_CFG_FE_FIRST
    let fn := v.fld (CAT_H_CFG h) CAT_H_CFG_FE_COUNT
    let wr := v.bit (CAT_H_CFG h) CAT_H_CFG_RAW_WR
    if geomOk g && ratiosOk v h g.r && 1 ≤ fn && fe + fn ≤ 8 && (!v.bit (CAT_H_CFG h) CAT_H_CFG_DYN_EN || learner) &&
      (!wr || 2 ≤ bitsOf (v.rd (CAT_H_RAW_BUFS h)).toNat 7 0) &&
      !(wr && !v.bit (CAT_H_CFG h) CAT_H_CFG_OUTFMT && 2 ≤ g.r) then none
    else some 0x0401

/-- Merge memory that a head needs, in bytes (R206). -/
def mergeNeed (v : State) (h : Nat) : Nat := let g := v.geom h; g.w * g.o * (g.r - 1) * 2

end Sys2Proof.Machine
end

