-- ==== Sys2Proof/Machine/Stops.lean ====
section
/-! DEFINITION. Stopping and restarting a block of any type, and the streams that depend on it (R18, R19, R32 to R34, R103). -/

namespace Sys2Proof.Machine

/-! ### Stream records -/

/-- The Umpire's records of a block. -/
def State.blkStrms (s : State) (b : Nat) : List Nat :=
  (List.range 1024).filter (fun r => let id := (s.rd (UMP_S_ID r)).toNat; id != 0 && id / 65536 == b)

/-- A STOP_REASON field takes its first cause (R33). -/
def State.stopFld (s : State) (r : Reg) (f : Fld) (code : Nat) : State := if s.fld r f = 0 then s.setFld r f code else s

/-- The records of a block take a stop reason. -/
def State.strmsStop (s : State) (b code : Nat) : State :=
  (s.blkStrms b).foldl (fun s r => if s.rd (UMP_S_STOP r) = 0 then s.wr (UMP_S_STOP r) (w32 code) else s) s

/-- A restart of a record: backlog, BKL_NOW and STOP clear; the refusal record and the delay counters stay (R103). -/
def State.strmRestart (s : State) (r : Nat) : State :=
  let x := s.strmOf r
  ((s.setStrm r { x with backlog := 0, queued := 0, highRaised := false, refused := false }).wr (UMP_S_BKL_NOW r) 0).wr (UMP_S_STOP r) 0

/-! ### What a block serves -/

/-- Heads that use a sensor port. -/
def State.portHeads (s : State) (p : Nat) : List Nat :=
  (List.range 8).filter (fun h => (s.leadPort h).isSome && (s.headPorts h).contains p)

/-- Heads that use a front-end lane. -/
def State.feHeads (s : State) (b : Nat) : List Nat := (List.range 8).filter (fun h => s.catOn h && (s.feBlocks h).contains b)

/-- Heads of a colour pipe. -/
def State.pipeHeads (s : State) (p : Nat) : List Nat := (List.range 8).filter (fun h => s.pipeOf h == some p)

/-- A session of an encoder core is configured. -/
def State.encHas (s : State) (c e : Nat) : Bool :=
  bitOf (s.rd (ENC_C_CFG c)) 4 && bitOf (s.rd (ENC_C_CFG c)) e && s.bit (ENC_S_CODEC c e) ENC_S_CODEC_EN

/-- The recording channels of a picture source (R353). -/
def State.recsOf (s : State) (typ inst : Nat) : List Nat :=
  ((List.range 8).filter (fun c => s.bit (REC_C_CFG c) REC_C_CFG_EN && s.fld (REC_C_CFG c) REC_C_CFG_SRC_TYPE == typ &&
    s.fld (REC_C_CFG c) REC_C_CFG_SRC_INST == inst)).map (0x0C00 + ·)

/-! ### Stops -/

/-- A sensor head stops (R32, R163): what is open is dropped. -/
def State.headStop (s : State) (h code : Nat) : State :=
  let s := s.stopFld (SPT_H_STATE (s.hp h)) SPT_H_STATE_STOP_REASON code
  let s := s.stopExchange h
  let s := s.setSpt h { s.sptOf h with frame := none, line := none, reject := true, due := false }
  s.setStage h 5

/-- A layer takes a stop reason. -/
def State.layerStop (s : State) (n l code : Nat) : State := s.stopFld (CMP_L_STATUS n l) CMP_L_STATUS_STOP_REASON code

/-- The units and streams of a block stop with a code. -/
def State.unitsStop (s : State) (b code : Nat) : State :=
  let u := bidUnit b
  match bidType b with
  | 0x01 => s.eightStop u code
  | 0x02 => (s.portHeads u).foldl (fun s h => s.headStop h code) s
  | 0x03 => (s.feHeads b).foldl (fun s h =>
      (s.stopFld (CAT_H_STATUS h) CAT_H_STATUS_STOP_REASON code).setCat h { s.catOf h with frame := none, stream := [] }) s
  | 0x04 =>
    let s := s.stopFld (DRV_P_STATUS u) ⟨15, 8⟩ code
    (s.pipeHeads u).foldl (fun s h => s.setDrv h { s.drvOf h with open_ := false }) s
  | 0x05 =>
    (s.stopFld (LKP_STATUS u) LKP_STATUS_STOP_REASON code).setLkp u { s.lkpOf u with feed := [], buf := none }
  | 0x06 =>
    let s := (s.stopFld (CMP_STATUS u) ⟨15, 8⟩ code).cmpTruncate u
    (List.range 8).foldl (fun s l => if (s.layerShadow u l).on then s.layerStop u l code else s) s
  | 0x07 => if s.scnOn u then ((s.stopFld (SCN_STATUS u) SCN_STATUS_STOP_REASON code).scnTruncate u).setScnState u 4 else s
  | 0x08 =>
    let s := (List.range 4).foldl (fun s e => if s.encHas u e then s.encStop u e code else s) s
    s.stopFld (ENC_C_STATUS u) ⟨15, 8⟩ code
  | 0x09 => (List.range 4).foldl (fun s d => if s.bit (DEC_S_CFG d) DEC_S_CFG_EN then s.decStop d code else s) s
  | 0x0A =>
    let s := (List.range 8).foldl (fun s z => if s.bit (ZRX_S_CFG z) ZRX_S_CFG_EN then s.zrxStop z code else s) s
    s.stopFld CMX_STATUS CMX_STATUS_STOP_REASON code
  | 0x0B => s.quadStop u code
  | 0x0C => if s.bit (REC_C_CFG u) REC_C_CFG_EN && s.recState u != 4 then s.recAbort u code else s
  | 0x0D => if s.bit (AUD_P_CFG u) AUD_P_CFG_EN then s.audFail u code else s
  | 0x0F => s.setFld (BOH_COACH u) ⟨2, 0⟩ 0
  | _ => s

/-- A block stops with a code; a block that is down stays so, and a stopped block keeps its first cause (R33). -/
def State.blkStop (s : State) (b code : Nat) : State :=
  let k := s.blkOf b
  if k.phase = .down || k.phase = .stopped then s
  else ((s.unitsStop b code).strmsStop b code).setBlk b { k with phase := .stopped, code := code, upstream := 0 }

/-! ### Restarts -/

/-- A head comes back to DETECT (R163). -/
def State.headRestart (s : State) (h : Nat) : State :=
  let s := s.setSpt h { tag := (s.sptOf h).tag, reject := true }
  (s.setFld (SPT_H_STATE (s.hp h)) SPT_H_STATE_STOP_REASON 0).setStage h 0

/-- The units and streams of a block restart. -/
def State.unitsRestart (s : State) (b : Nat) : State :=
  let u := bidUnit b
  match bidType b with
  | 0x01 => s.eightStart u
  | 0x02 => (s.portHeads u).foldl (fun s h => s.headRestart h) s
  | 0x03 => (s.feHeads b).foldl (fun s h => s.setFld (CAT_H_STATUS h) CAT_H_STATUS_STOP_REASON 0) s
  | 0x04 => s.setFld (DRV_P_STATUS u) ⟨15, 8⟩ 0
  | 0x05 => s.setFld (LKP_STATUS u) LKP_STATUS_STOP_REASON 0
  | 0x06 => (List.range 8).foldl (fun s l => s.setFld (CMP_L_STATUS u l) CMP_L_STATUS_STOP_REASON 0) (s.setFld (CMP_STATUS u) ⟨15, 8⟩ 0)
  | 0x07 => ((s.setFld (SCN_STATUS u) SCN_STATUS_STOP_REASON 0).setScnState u 0).scnApplyConfig u
  | 0x08 =>
    (List.range 4).foldl (fun s e =>
      ((s.setFld (ENC_S_STATUS u e) ENC_S_STATUS_STOP_REASON 0).wr (ENC_S_BS_WP u e) 0).wr (ENC_S_BS_RP u e) 0) (s.setFld (ENC_C_STATUS u) ⟨15, 8⟩ 0)
  | 0x09 => (List.range 4).foldl (fun s d => (s.setFld (DEC_S_STATUS d) DEC_S_STATUS_STOP_REASON 0).decIdle d) s
  | 0x0A =>
    (List.range 8).foldl (fun s z =>
      ((s.setFld (ZRX_S_STATUS z) ZRX_S_STATUS_STOP_REASON 0).wr (ZRX_S_OUT_WP z) 0).wr (ZRX_S_OUT_RP z) 0) (s.setFld CMX_STATUS CMX_STATUS_STOP_REASON 0)
  | 0x0B => s.lndApplyConfig u
  | 0x0C =>
    let s := { s with recs := tabDel s.recs u }
    (s.setRecState u 0).setFld (REC_C_STATUS u) REC_C_STATUS_STOP_REASON 0
  | 0x0D => (s.audReset u).setFld (AUD_P_STATUS u) ⟨15, 8⟩ 0
  | 0x0F => s.setFld (BOH_COACH u) ⟨2, 0⟩ 1
  | _ => s

/-- A block restarts: its streams' STOP_REASON fields and backlogs clear (R33, R103); nothing restarts in the safe state (R503). -/
def State.blkStart (s : State) (b : Nat) : State :=
  let k := s.blkOf b
  if s.safe then s
  else
  let s := s.setBlk b { k with phase := .running, code := 0, holdRig := false, holdReset := false, restartDue := false, gaveUp := false, upstream := 0 }
  (s.blkStrms b).foldl (fun s r => s.strmRestart r) (s.unitsRestart b)

/-! ### Dependent streams (R34): a key is a BLOCK_ID, or a STREAM_ID or layer as BLOCK_ID × 65,536 + number -/

/-- Encoder sessions that read a ring. -/
def State.encReaders (s : State) (ring : Nat) : List Nat :=
  (List.range 4).flatMap (fun c => ((List.range 4).filter (fun e => s.encHas c e && s.encRing c e == ring)).map (fun e => encStream c e))

/-- The streams that take data straight from a block. -/
def State.downstream (s : State) (b : Nat) : List Nat :=
  let u := bidUnit b
  let looks (h : Nat) : List Nat := ((List.range 8).filter (fun n => s.lkpOn n && s.lkpHead n == h)).map (0x0500 + ·)
  match bidType b with
  | 0x02 => uniqNat ((s.portHeads u).flatMap s.feBlocks)
  | 0x03 => uniqNat ((s.feHeads b).flatMap (fun h => looks h ++
      ((List.range 8).filter (fun z => s.bit (ZRX_S_CFG z) ZRX_S_CFG_EN && s.zrxHead z == h)).map zrxStream))
  | 0x04 => uniqNat ((s.pipeHeads u).flatMap looks)
  | 0x05 => ((List.range 4).filter (fun n => s.livePath n == some u)).map (fun n => (0x0600 + n) * 65536) ++ s.encReaders (8 + u)
  | 0x06 => (if s.scnOn u then [0x0700 + u] else []) ++ s.encReaders (16 + u)
  | 0x08 => (List.range 4).flatMap (fun e => s.recsOf 1 (4 * u + e))
  | 0x09 => (List.range 4).flatMap (fun d => s.encReaders (20 + d))
  | 0x0A => (List.range 8).flatMap (fun z => s.recsOf 0 z)
  | _ => []

/-- The block that a key belongs to. -/
def keyBlock (k : Nat) : Nat := if k < 65536 then k else k / 65536

/-- The streams that depend on a block that stopped with a code have that cause pending until their own boundary (R34). -/
def State.markDown (s : State) (b code : Nat) : State :=
  let cause := if code = 4 then 4 else 3
  (s.downstream b).foldl (fun s k =>
    if (s.blkOf (keyBlock k)).phase = .running || (s.blkOf (keyBlock k)).phase = .held then
      s.setBlk k { s.blkOf k with upstream := max cause (s.blkOf k).upstream }
    else s) s

/-- A block stops for a fault or with its region: what depends on it is marked. -/
def State.blkFail (s : State) (b code : Nat) : State :=
  if (s.blkOf b).phase = .down || (s.blkOf b).phase = .stopped then s
  else (if code = 2 || code = 3 || code = 4 then s.markDown b code else s).blkStop b code

/-- A stream inside a block, named by its STREAM_ID, stops or takes data again. -/
def State.streamStop (s : State) (k code : Nat) : State :=
  let b := k / 65536
  let n := k % 65536
  let s := match s.strmRec k with
    | some r => if s.rd (UMP_S_STOP r) = 0 then s.wr (UMP_S_STOP r) (w32 code) else s
    | none => s
  match bidType b with
  | 0x06 => s.layerStop (bidUnit b) (n % 8) code
  | 0x08 => s.encStop (bidUnit b) (n % 4) code
  | 0x0A => s.zrxStop (n / 2 % 8) code
  | _ => s

/-- A stream inside a block restarts. -/
def State.streamStart (s : State) (k : Nat) : State :=
  let b := k / 65536
  let n := k % 65536
  let s := match s.strmRec k with | some r => s.strmRestart r | none => s
  match bidType b with
  | 0x06 => s.setFld (CMP_L_STATUS (bidUnit b) (n % 8)) CMP_L_STATUS_STOP_REASON 0
  | 0x08 =>
    let c := bidUnit b
    ((s.setFld (ENC_S_STATUS c (n % 4)) ENC_S_STATUS_STOP_REASON 0).wr (ENC_S_BS_WP c (n % 4)) 0).wr (ENC_S_BS_RP c (n % 4)) 0
  | 0x0A => ((s.setFld (ZRX_S_STATUS (n / 2 % 8)) ZRX_S_STATUS_STOP_REASON 0).wr (ZRX_S_OUT_WP (n / 2 % 8)) 0).wr (ZRX_S_OUT_RP (n / 2 % 8)) 0
  | _ => s

/-- The streams that depend on a block which runs again: a pending cause is taken back, and one stopped by 0x03 or 0x04 restarts (log entry 61). -/
def State.resumeDown : Nat → State → Nat → State
  | 0, s, _ => s
  | n + 1, s, b =>
    (s.downstream b).foldl (fun s k =>
      let x := s.blkOf k
      let s := s.setBlk k { x with upstream := 0 }
      if k < 65536 then
        if x.phase = .stopped && (x.code = 3 || x.code = 4) && s.region (bidRegion k) = 2 then State.resumeDown n (s.blkStart k) k else s
      else if x.phase = .stopped then (s.setBlk k {}).streamStart k
      else s) s

/-- A block restarts, and what depended on it with it. -/
def State.blkRestart (s : State) (b : Nat) : State := State.resumeDown 6 (s.blkStart b) b

/-- Row STREAM_BOUNDARY_STOP: a dependent stream reaches its own boundary and stops with 0x03 or 0x04 (R34); a recording channel does so when its clip is
closed (R19). -/
def execStreamBoundaryStop (k : BitVec 32) (s : State) : Res :=
  .next (
    let k := k.toNat
    let x := s.blkOf k
    let busy := bidType k == 0x0C && (s.recOf (bidUnit k)).clip.isSome
    if x.upstream = 0 then s
    else if k < 65536 then (if busy then s else s.settle (s.blkFail k x.upstream))
    else s.settle ((s.setBlk k { phase := .stopped, code := x.upstream }).streamStop k x.upstream))

end Sys2Proof.Machine
end

