-- ==== Sys2Proof/Machine/Configure.lean ====
section
/-! DEFINITION. How the committed sections of a block take effect: CONFIG entries, TABLE sections, and what each block type derives from them
(R48, R49, R191, R206, R230, R244, R522). -/

namespace Sys2Proof.Machine

/-! ### Spans -/

/-- The block to which an offset belongs, a head's front-end span to the lane that its FE_FIRST names (R49, R522, R523). -/
def State.offBlock (s : State) (o : Nat) : Option Nat :=
  if 0x0120_0000 ≤ o && o < 0x0128_0000 then some (0x0300 + s.fld (CAT_H_CFG ((o - 0x0120_0000) / 0x1_0000)) CAT_H_CFG_FE_FIRST)
  else spanBlock o

/-- A register with only its RG fields kept, the others at their Reset values. -/
def keepRg (row : RegRow) (i : Nat) (v : Word) : Word := (v &&& row.rg) ||| (row.reset i &&& ~~~row.rg)

/-- A register with its RG fields at their Reset values. -/
def dropRg (row : RegRow) (i : Nat) (v : Word) : Word := (v &&& ~~~row.rg) ||| (row.reset i &&& row.rg)

/-- The registers at the offsets that a test selects are changed by their rows. -/
def State.mapRegs (s : State) (sel : Nat → Bool) (f : RegRow → Nat → Word → Word) : State :=
  { s with regs := s.regs.filterMap (fun e =>
      if sel e.1 then
        match regRowAt e.1 with
        | some (row, i) => let v := f row i e.2; if v = row.reset i then none else some (e.1, v)
        | none => some e
      else some e) }

/-- Registers that show what a block reset does not change or that its restart itself sets: stages of heads and quads, the calibration in force, ranges and
temperature of a head, scan-out state with the sink's level, and seat states. -/
def keptReg (name : String) : Bool :=
  ["SPT_H_STATE", "CAT_H_STATUS", "CAT_H_TEMP", "CAT_H_MERGE_GRAN", "CAT_H_DEF_FIRST", "CAT_H_DEF_COUNT", "CAT_H_DEF_DYN", "CAT_H_USER_COMMIT",
   "SCN_STATUS", "LND_Q_STATUS", "EGT_SEAT_STATE"].contains name

/-- The registers of a block return to Reset, but for RG fields and those of `keptReg` (log entry 62); those of the endpoint stay (R17). -/
def State.blkRegsClear (s : State) (b : Nat) : State :=
  s.mapRegs (fun o => s.offBlock o == some b && spanOwner o != .chip) (fun row i v => if keptReg row.name then v else keepRg row i v)

/-- The RG fields of a block return to Reset (R59). -/
def State.blkRgClear (s : State) (b : Nat) : State := s.mapRegs (fun o => s.offBlock o == some b) dropRg

/-! ### CONFIG -/

/-- The LOG bit of an event's route is fixed (R480). -/
def evtFixed (n : Nat) : Bool := n == 16 || n == 17 || n == 833 || (992 ≤ n && n ≤ 1001) || (1020 ≤ n && n ≤ 1023)

/-- Bits of the word at an offset that no write changes: the fixed LOG bits (R480). -/
def fixedBits (o : Nat) : Word :=
  if 0x300000 ≤ o && o < 0x304000 && o % 16 == 0 && evtFixed ((o - 0x300000) / 16) then EVT_R_CFG_LOG.mask else 0

/-- A word written to the RW and RG fields of a register. -/
def State.maskPut (s : State) (row : RegRow) (i o : Nat) (v : Word) : State :=
  let r : Reg := ⟨o, row.reset i⟩
  let m := (row.rw ||| row.rg) &&& ~~~fixedBits o
  s.wr r ((s.rd r &&& ~~~m) ||| (v &&& m))

/-- A CONFIG entry: it sets RW and RG fields (R49); those of the time registers act as a host write does, and STK_TB0_INC yields to SERVO (R134 to R139). -/
def State.cfgPut (s : State) (o : Nat) (v : Word) : State :=
  if o = STK_TB0_INC.off then (if s.servo then s else s.setTb0Inc v)
  else if o = STK_TB1_CTRL.off then s.tb1ModeWrite v
  else if o = STK_TB1_LINES.off then s.tb1LinesWrite v
  else if o = STK_TB1_ALIGN.off then s.tb1AlignWrite v
  else if o = STK_TB1_PERIOD_NS.off then s.tb1PeriodWrite false v
  else if o = STK_TB1_PERIOD_FRAC.off then s.tb1PeriodWrite true v
  else if o = STK_TB3_CTRL.off then s.tb3Write v
  else
    match regRowAt o with
    | some (row, i) => s.maskPut row i o v
    | none => s

/-- The CONFIG entries of a block's sections, in order (R48). -/
def State.cfgBlock (s : State) (ss : List Section) (b : Nat) : State :=
  ((ss.filter (fun x => x.block == b && x.kind == 1)).flatMap (fun x => cfgEntries x.data)).foldl (fun s e => s.cfgPut e.1 e.2) s

/-- TABLE payloads of a block. -/
def tablesOf (ss : List Section) (b : Nat) : List (List Byte) := (ss.filter (fun x => x.block == b && x.kind == 7)).map (·.data)

/-- The ownership records that name a block as owner. -/
def ownedBy (ss : List Section) (rclass b : Nat) : List OwnRec := (allOwn ss).filter (fun o => o.rclass == rclass && o.owner / 65536 == b)

/-- First unit and count of what a block owns of a class (log entry 63). -/
def rangeOf (ss : List Section) (rclass b : Nat) : Nat × Nat :=
  match ownedBy ss rclass b with
  | [] => (0, 0)
  | o :: os => (o.first, ((o :: os).map (·.count)).sum)

/-! ### Front-end lanes (R191, R198, R203, R206) -/

/-- A calibration-section payload (R193) of a head. -/
def calSectionOf (head : Nat) (d : List Byte) : CalSection where
  head := head
  typ := leAt d 0 1 % 16
  readout := leAt d 0 1 / 16 % 4
  tag := leAt d 1 1
  zlId := leAt d 8 4
  entries := leAt d 4 4
  data := d.drop 16

/-- The factory contexts of a head, in index order. -/
def CatH.factCtxs (c : CatH) : List (BitVec 96) := (c.ctx.filter (fun e => !e.2.getLsbD 40 && (ctxOf e.2).state != 1)).map (·.2)

/-- A section replaces a user table (R191). -/
def userTable (t : Table Word × Nat) (x : CalSection) : Table Word × Nat :=
  (List.range (min x.entries (x.data.length / 4))).foldl (fun t i =>
    let (v, n) := cleanUser x.typ i (w32 (leAt x.data (4 * i) 4))
    (tabSet t.1 (calIdentUser x.typ i) (calKey x.typ (calReadout x.typ x.readout) i) v, t.2 + n)) t

/-- The TABLE sections of a head's block replace its user layer; a pending shadow is discarded (R191). -/
def State.catTables (s : State) (h : Nat) (ds : List (List Byte)) : State :=
  if ds.isEmpty then s
  else
    let xs := ds.map (calSectionOf h)
    let (user, n) := (xs.filter (·.typ != 7)).foldl userTable ([], 0)
    let ctxs := (xs.filter (·.typ == 7)).flatMap calContexts
    let c := s.catOf h
    let (first, count) := s.defRange h
    let c := ({ c with user := user, shadow := user, ctxShadow := [], idxDue := true }).relay first count c.factCtxs (ctxs.map (fun v => ctxPut v 40 40 1))
    let was := s.bit (CAT_H_STATUS h) CAT_H_STATUS_USER_PENDING
    let s := (s.setCat h c).showDyn h
    let s := if was then
        ((s.setBit (CAT_H_STATUS h) CAT_H_STATUS_USER_PENDING false).setBit (CAT_H_USER_COMMIT h) CAT_H_USER_COMMIT_GO false).setBit
          (CAT_H_USER_COMMIT h) CAT_H_USER_COMMIT_DISCARDED true
      else s
    s.loadClamp h (n + (s.catCfg h).applyCount)

/-- Heads whose first front-end lane a block is (R522). -/
def State.firstHeads (s : State) (b : Nat) : List Nat :=
  (List.range 8).filter (fun h => s.bit (CAT_H_CFG h) CAT_H_CFG_EN && 0x0300 + s.fld (CAT_H_CFG h) CAT_H_CFG_FE_FIRST == b)

/-- The heads of a front-end lane take their granules and context ranges (R198, R206). -/
def State.catRanges (s : State) (ss : List Section) (b : Nat) : State :=
  (s.firstHeads b).foldl (fun s h =>
    let (mf, mc) := rangeOf ss 6 b
    let (first, count) := rangeOf ss 8 b
    let c := s.catOf h
    let c := if s.defRange h != (first, count) then { c.relay first count c.factCtxs c.userCtxs with idxDue := true } else c
    let s := s.wr (CAT_H_MERGE_GRAN h) (w32 (mf % 16384 + 65536 * (mc % 16384)))
    (((s.wr (CAT_H_DEF_FIRST h) (w32 first)).wr (CAT_H_DEF_COUNT h) (w32 count)).setCat h c).showDyn h) s

/-- A front-end lane loads its TABLE sections (R191). -/
def State.catLoad (s : State) (ss : List Section) (b : Nat) : State :=
  (s.firstHeads b).foldl (fun s h => s.catTables h (tablesOf ss b)) (s.catRanges ss b)

/-- A commit lists a front-end lane: the heads whose first lane it is take their ranges and tables, lose their dynamic contexts, and start their clamp
anew (R195, R203). -/
def State.catConfig (s : State) (ss : List Section) (b : Nat) : State :=
  (s.firstHeads b).foldl (fun s h => (s.setCat h { s.catOf h with kInit := true }).clearDyn h) (s.catLoad ss b)

/-! ### Colour pipes and look paths (R230, R244) -/

/-- A commit lists a colour pipe: CONFIG and TABLE values apply, and a pending GO is discarded (R230). -/
def State.drvConfig (s : State) (ss : List Section) (p : Nat) : State :=
  let s := (tablesOf ss (0x0400 + p)).foldl (fun s d => s.drvTable d) s
  (s.pipeHeads p).foldl (fun s h =>
    let had := (s.drvOf h).copied.isSome
    let (u, n) := s.drvCopy h
    let s := s.setDrv h { s.drvOf h with copied := none, ready := false }
    let s := if had then
        ((s.setBit (DRV_H_STATUS p h) DRV_H_STATUS_COMPUTING false).setBit (DRV_H_COMMIT p h) DRV_H_COMMIT_GO false).setBit
          (DRV_H_COMMIT p h) DRV_H_COMMIT_DISCARDED true
      else s
    (s.drvReplaced h n).drvTake h u) s

/-- A commit lists a look path: its CONFIG values are in the active bank, and its tables in both (R244). -/
def State.lkpConfig (s : State) (ss : List Section) (n : Nat) : State :=
  let s := (tablesOf ss (0x0500 + n)).foldl (fun s d => s.lkpTable n d) s
  let e := clampFp 0x37800000 0x47800000 (s.rd (LKP_EXPOSURE n))
  let ls := clampFp 0x37800000 0x47800000 (s.rd (LKP_LIN_SCALE n))
  let pq := clampFp 0x3F800000 0x461C4000 (s.rd (LKP_PQ_NITS n))
  let par : LkpParams := ⟨e.1, ls.1, pq.1, (List.range 9).map (fun i => s.rd (LKP_MAT n i)), (List.range 3).map (fun i => s.rd (LKP_OFS n i))⟩
  (s.setLkp n { s.lkpOf n with active := par }).lkpReplaced n (e.2 + ls.2 + pq.2)

/-! ### All types -/

/-- What a block derives from its committed sections when it applies them. -/
def State.blkConfig (s : State) (ss : List Section) (b : Nat) : State :=
  let u := bidUnit b
  match bidType b with
  | 0x03 => s.catConfig ss b
  | 0x04 => s.drvConfig ss u
  | 0x05 => s.lkpConfig ss u
  | 0x06 => s.cmpApplyConfig u
  | 0x07 => s.scnApplyConfig u
  | 0x08 => s.encApplyConfig u
  | 0x09 => s.decApplyConfig
  | 0x0A => s.rawApplyConfig
  | 0x0B => s.lndApplyConfig u
  | _ => s

/-- A block has committed sections. -/
def State.committed (s : State) (b : Nat) : Bool := s.rig.sections.any (·.block == b)

/-- A block restarts from its last committed sections (R108, R111). -/
def State.blkReload (s : State) (b : Nat) : State :=
  let ss := s.rig.sections
  if !s.committed b then (s.blkRegsClear b).setBlk b {}
  else
    let s := (s.blkRegsClear b).cfgBlock ss b
    let s := if bidType b = 0x03 then s.catLoad ss b else if bidType b = 0x07 || bidType b = 0x0B then s else s.blkConfig ss b
    s.blkRestart b

end Sys2Proof.Machine
end

