-- ==== Sys2Proof/Machine/Logbook.lean ====
section
/-! DEFINITION. The Logbook: records, intake, drops, staging, flush, power failure and readout (R480 to R492). Rows 5, 6, 253 to 258. -/

namespace Sys2Proof.Machine

/-! ### Time and state (R483) -/

/-- OP_TIME in ms. -/
def State.opNow (s : State) : Nat := s.log.opTime + (s.ticks - s.log.opTick) / 1250000

/-- The Logbook's own state set. -/
def State.setLog (s : State) (l : Log) : State := { s with log := l }

/-- OP_TIME is stored in its nonvolatile cell. -/
def State.opStore (s : State) : State := s.setLog { s.log with opStored := s.opNow }

/-- Drops of any source await an OVERFLOW record. -/
def State.logDropping (s : State) : Bool :=
  s.rd LOG_NOTE_DROP != 0 || s.regs.any (fun e => 0x381000 ≤ e.1 && e.1 < 0x382000 && e.2 != 0)

/-- LOG_STATUS and LOG_SEQ_LO show the Logbook's state. -/
def State.logShow (s : State) : State :=
  let l := s.log
  let v := b2n l.flushing + 2 * b2n (s.bit LOG_STATUS LOG_STATUS_KEEL_FULL) + 4 * b2n s.logDropping + 8 * b2n l.pfail + 16 * l.staged.length +
    65536 * l.fifo.length
  (s.wr LOG_STATUS (w32 v)).wr LOG_SEQ_LO (w32 l.seq)

/-! ### The store and its readout (R484, R491) -/

/-- The slot of a SEQ. -/
def logSlot (seq : Nat) : Nat := if seq < 16384 then seq else 16384 + (seq - 16384) % 49152

/-- The 128 bytes that a slot reads as: the staged copy where there is one. -/
def State.logSlotBytes (s : State) (slot : Nat) : List Byte :=
  match s.log.staged.reverse.find? (fun r => logSlot r.1 == slot) with
  | some r => r.2
  | none => tabSlice s.log.mram 0 (128 * slot) 128

/-- LOG_RD_DATA shows the selected slot. -/
def State.logRead (s : State) : State :=
  let b := s.logSlotBytes (bitsOf (s.rd LOG_RD_SLOT).toNat 15 0)
  (List.range 32).foldl (fun s i => s.wr (LOG_RD_DATA i) (w32 (leAt b (4 * i) 4))) s

/-- The next SEQ from a scan of the store: one past the highest SEQ of a good record in its slot (R483). -/
def logScan (m : List Host.Cell) : Nat :=
  let slots := uniqNat (m.map (fun c => c.1 / 128))
  (slots.map (fun k =>
    let b := tabSlice m 0 (128 * k) 128
    let seq := leAt b 0 8
    if leAt b 0x7C 4 = (crc32c (b.take 0x7C)).toNat && logSlot seq = k then seq + 1 else 0)).foldl max 0

/-! ### Records (R481, R482) -/

/-- The events of privileged sources (R480, R482). -/
def evtPriv (n : Nat) : Bool := n == 16 || n == 17 || n == 833 || (992 ≤ n && n ≤ 1001)

/-- The 128 bytes of a record. -/
def State.logRecord (s : State) (typ : Nat) (priv flush : Bool) (ns : Word) (event source : Nat) (value : Word) (payload : List Byte) : List Byte :=
  let utc := priv && s.vault.rtcValid
  let b := leBytes 8 s.log.seq ++ leBytes 6 s.opNow ++ leBytes 1 typ ++ leBytes 1 (b2n priv + 2 * b2n utc + 4 * b2n flush) ++
    wordBytes (s.rd LOG_PCYCLES) ++ wordBytes ns ++ leBytes 8 (if utc then s.rtcNow else 0) ++ leBytes 2 event ++ leBytes 2 source ++ wordBytes value ++
    sliceAt payload 0 84
  b ++ wordBytes (crc32c b)

/-- The record of an intake entry. -/
def State.entryRecord (s : State) (e : LogEntry) : List Byte :=
  match e with
  | .event o => s.logRecord 0 (evtPriv o.num) (EVT_R_CFG_FLUSH.get o.cfg == 1) o.ns o.num o.source o.value (wordsBytes o.detail)
  | .note v ns => s.logRecord 4 false false ns 0xFFFF 0x0E04 v []
  | .overflow d n ps ns =>
    s.logRecord 1 false false ns 0xFFFF 0x0E04 (w32 (min satMax d)) (leBytes 2 n ++ leBytes 2 ps.length ++ ps.flatMap (fun p => leBytes 2 p.1 ++ leBytes 2 p.2))

/-- A record is complete in staging. -/
def State.logStage (s : State) (b : List Byte) : State :=
  let l := s.log
  (s.setLog { l with staged := l.staged ++ [(l.seq, b)], seq := l.seq + 1 }).logRead

/-! ### Flush (R488) -/

/-- A flush starts, or the one in progress extends to what is staged now. -/
def State.logFlush (s : State) : State := (s.setLog { s.log with flushing := true, flushN := s.log.staged.length }).opStore

/-! ### Intake and drops (R485, R486) -/

/-- An occurrence or a NOTE is dropped. -/
def State.logDrop (s : State) (num : Option Nat) : State :=
  let first := s.log.dropped == 0
  let s := match num with
    | some n => s.wr (LOG_DROP n) (w32 (min 65535 ((s.rd (LOG_DROP n)).toNat + 1)))
    | none => s.wr LOG_NOTE_DROP (w32 (min 65535 ((s.rd LOG_NOTE_DROP).toNat + 1)))
  let s := (s.inc LOG_DROP_CNT).setLog { s.log with dropped := s.log.dropped + 1 }
  if first then s.raise 1022 0x0E04 else s

/-- Counts sorted with the largest first, ties by ascending number: insertion. -/
def dropInsert (x : Nat × Nat) : List (Nat × Nat) → List (Nat × Nat)
  | [] => [x]
  | y :: ys => if y.2 < x.2 || (y.2 = x.2 && x.1 < y.1) then x :: y :: ys else y :: dropInsert x ys

/-- The OVERFLOW entry; every count is cleared. -/
def State.logOverflow (s : State) : LogEntry × State :=
  let cs := s.regs.filterMap (fun e => if 0x381000 ≤ e.1 && e.1 < 0x382000 && e.2 != 0 then some ((e.1 - 0x381000) / 4, e.2.toNat) else none)
  let nd := (s.rd LOG_NOTE_DROP).toNat
  let all := (if nd = 0 then cs else cs ++ [(0xFFFF, nd)]).foldl (fun l x => dropInsert x l) []
  let t := (cs.foldl (fun t c => t.wr (LOG_DROP c.1) 0) s).wr LOG_NOTE_DROP 0
  (.overflow s.log.dropped all.length (all.take 20) s.ns, t.setLog { t.log with dropped := 0 })

/-- The idle assembler takes the oldest entry, or builds an OVERFLOW record from what was dropped; it waits while 511 records are staged (R487). -/
def State.logTake (s : State) : State :=
  if s.log.asm.isSome || s.log.pfail || 511 ≤ s.log.staged.length then s
  else match s.log.fifo with
    | e :: es => s.setLog { s.log with asm := some e, fifo := es }
    | [] => if s.logDropping then let (e, t) := s.logOverflow; t.setLog { t.log with asm := some e } else s

/-- An entry arrives at the intake. -/
def State.logIntake (s : State) (e : LogEntry) : State :=
  let num := match e with | .event o => some o.num | _ => none
  let s := if s.log.pfail || 256 ≤ s.log.fifo.length then s.logDrop num else (s.setLog { s.log with fifo := s.log.fifo ++ [e] }).logTake
  s.logShow

/-- The entry in assembly is complete. -/
def State.logFinish (s : State) : State :=
  match s.log.asm with
  | some e => (s.logStage (s.entryRecord e)).setLog { (s.logStage (s.entryRecord e)).log with asm := none }
  | none => s

/-- Row LOG_RECORD_ASSEMBLED. -/
def execLogRecordAssembled (s : State) : Res :=
  .next (
    match s.log.asm with
    | none => s
    | some e =>
      let flush := match e with | .event o => EVT_R_CFG_FLUSH.get o.cfg == 1 | _ => false
      let t := s.logFinish
      let t := if flush || (256 ≤ t.log.staged.length && !t.log.flushing) then t.logFlush else t
      s.settle t.logTake.logShow)

/-! ### Commands of software (R486, R488) -/

/-- A write of LOG_CTRL. -/
def State.logCtrl (s : State) (v : Word) : State :=
  let s := if bitOf v 0 then (s.setFld LOG_CTRL ⟨0, 0⟩ 1).logFlush.logShow else s
  if bitOf v 1 then s.logIntake (.note (s.rd LOG_NOTE_VAL) s.ns) else s

/-- Row LOG_CTRL_FLUSH. -/
def execLogCtrlFlush (s : State) : Res := .next (s.hostDo LOG_CTRL true (fun s => s.settle (s.logCtrl 1)))
/-- Row LOG_CTRL_NOTE. -/
def execLogCtrlNote (s : State) : Res := .next (s.hostDo LOG_CTRL true (fun s => s.settle (s.logCtrl 2)))

/-- A write of LOG_RD_SLOT. -/
def State.logSelect (s : State) (v : Word) : State := (s.wr LOG_RD_SLOT (v &&& 0xFFFF)).logRead

/-- A read of LOG_SEQ_LO latches the high word. -/
def State.logSeqRead (s : State) : State := { (s.wr LOG_SEQ_HI (w32 (s.log.seq / 4294967296))) with hostData := w32 s.log.seq }

/-- Row LOG_SEQ_LO_READ. -/
def execLogSeqLoRead (s : State) : Res := .next (s.hostDo LOG_SEQ_LO false (·.logSeqRead))

/-- A read of LOG_OPTIME_LO latches the high word. -/
def State.logTimeRead (s : State) : State :=
  { ((s.wr LOG_OPTIME_LO (w32 s.opNow)).wr LOG_OPTIME_HI (w32 (s.opNow / 4294967296 % 65536))) with hostData := w32 s.opNow }

/-- Row LOG_OPTIME_LO_READ. -/
def execLogOptimeLoRead (s : State) : Res := .next (s.hostDo LOG_OPTIME_LO false (·.logTimeRead))

/-- Row OP_TIME_STORE. -/
def execOpTimeStore (s : State) : Res := .next s.opStore

/-! ### Power failure, chip-fatal, and the end of a flush (R488 to R490, R503) -/

/-- The end of the flush: the covered records are durable, and FATAL_N follows a chip-fatal flush. -/
def State.logFlushed (s : State) : State :=
  let l := s.log
  let done := l.staged.take l.flushN
  let mram := done.foldl (fun m r => tabFill 0 m (128 * logSlot r.1) r.2) l.mram
  let asked := bitOf (s.rd LOG_CTRL) 0
  let keel := done.any (fun r => r.1 == 16383)
  let s := s.setLog { l with staged := l.staged.drop l.flushN, flushing := false, flushN := 0, mram := mram }
  let s := if asked then (s.setFld LOG_CTRL ⟨0, 0⟩ 0).raise 1020 0x0E04 else s
  let s := if keel then (s.setFld LOG_STATUS LOG_STATUS_KEEL_FULL 1).raise 1021 0x0E04 else s
  let s := if s.hlt.fatal.isSome then { s with fatalN := true } else s
  s.opStore.logRead

/-- The clocks stop after the safe state that the Trip path brought (R498). -/
def State.tripClocks (s : State) : State :=
  if s.hlt.trip && !s.log.flushing then { s with hlt := { s.hlt with clocksStopped := true } } else s

/-- Row LOG_FLUSH_DONE: the flush in progress ends; `high` is the level of PFAIL_N, and intake resumes when it has returned high (R489). -/
def execLogFlushDone (high : Bool) (s : State) : Res :=
  .next (
    let t := if s.log.flushing then s.logFlushed else s
    let t := if t.log.pfail && high then t.setLog { t.log with pfail := false } else t
    s.settle t.logTake.logShow.tripClocks)

/-- PFAIL_N is accepted: the record in assembly is finished, the POWER_FAIL record takes the kept slot, what the FIFO holds is dropped, and a flush
starts. -/
def State.powerFail (s : State) : State :=
  if s.log.pfail then s
  else
    let s := s.logFinish
    let s := s.logStage (s.logRecord 3 false true s.ns 0xFFFF 0x0E04 (w32 s.log.staged.length) [])
    let left := s.log.fifo
    let s := s.setLog { s.log with pfail := true, fifo := [] }
    let s := left.foldl (fun s e => s.logDrop (match e with | .event o => some o.num | _ => none)) s
    s.logFlush.logShow

/-- Row POWER_FAIL: PFAIL_N has stayed low for 1 µs. -/
def execPowerFail (s : State) : Res := .next (s.settle s.powerFail)

/-- The CHIP_FATAL record takes the kept slot, and a flush starts (R490, R504). -/
def State.logFatal (s : State) (cause detector : Nat) (detail : List Word) : State :=
  let s := s.logFinish
  let sensor := s.fld HLT_STATUS HLT_STATUS_HOTTEST
  let pay := leBytes 2 detector ++ leBytes 2 0 ++ (List.range 4).flatMap (fun i => wordBytes (detail.getD i 0)) ++ wordBytes (s.rd BOH_REGION_STATE) ++
    leBytes 1 sensor ++ leBytes 1 0 ++ leBytes 2 (BitVec.ofInt 16 s.hlt.tj).toNat
  (s.logStage (s.logRecord 2 true true s.ns 0xFFFF 0x0E00 (w32 cause) pay)).logFlush.logShow

end Sys2Proof.Machine
end

