-- ==== Sys2Proof/Machine/RigCore.lean ====
section
/-! DEFINITION. The Rig controller: refusals, the hold phase, the apply, repairs, and the start of resets that wait for it (R56 to R71, R105, R108 to
R112, R425). -/

namespace Sys2Proof.Machine

/-! ### State of the controller -/

/-- STATE: 0 IDLE, 1 COPYING, 2 CHECKING, 3 HOLDING, 4 APPLYING, 5 REPAIRING. -/
def State.rigState (s : State) : Nat := s.fld RIG_STATUS RIG_STATUS_STATE
/-- STATE changed. -/
def State.setRigState (s : State) (v : Nat) : State := s.setFld RIG_STATUS RIG_STATUS_STATE v
/-- The controller's record changed. -/
def State.setRig (s : State) (r : Rig) : State := { s with rig := r }
/-- HELD. -/
def State.setHeld (s : State) (n : Nat) : State := s.setFld RIG_STATUS RIG_STATUS_HELD (min 65535 n)

/-- RIG_BOUNDARY_TMO in ms: 0 and values above 60,000 act as 60,000. -/
def State.rigTmo (s : State) : Nat := let v := (s.rd RIG_BOUNDARY_TMO).toNat; if v = 0 || 60000 < v then 60000 else v

/-! ### Refusals (R65, R70) -/

/-- The refusal registers are written together, and a commit's refusal counts and raises event 17 with the RIG_ID of its image (R65, R70, R482; log
entry 64). -/
def State.refuseRecord (s : State) (r : Refused) (commit cox : Bool) (rigId : List Byte) : State :=
  let code := w32 (r.step * 65536 + r.code)
  let s := (((s.wr RIG_REFUSAL code).wr RIG_REFUSAL_OWNER r.owner).wr RIG_REFUSAL_DETAIL r.detail).wr RIG_REFUSAL_TIME s.ns
  let s := if cox then s else (s.setBit RIG_STATUS RIG_STATUS_LAST_REFUSED true).setBit RIG_STATUS RIG_STATUS_LAST_OK false
  if commit then (s.inc RIG_REFUSE_CNT).raise 17 0x0E01 ([code, r.owner, r.detail, s.ns] ++ bytesWords ((rigId ++ List.replicate 16 0).take 16)) else s

/-- A command completes. -/
def State.rigOk (s : State) : State := (s.setBit RIG_STATUS RIG_STATUS_LAST_OK true).setBit RIG_STATUS RIG_STATUS_LAST_REFUSED false

/-- The Answer of a CHECK or REPAIR Call that completed (R444). -/
def State.rigAnswer (s : State) : State := s.callDone .rig 0 (s.rd RIG_REFUSAL).toNat (s.rd RIG_REFUSAL_DETAIL).toNat

/-! ### Holds (R19, R60, R108) -/

/-- A block is asked to stop at its next boundary: a recording channel seals its clip first (R357 CAUSE 7), and a Coach begins to hand over (R68). -/
def State.holdAsk (s : State) (b : Nat) : State :=
  match bidType b with
  | 0x0C => s.recEnd (bidUnit b) 7
  | 0x0F => s.setFld (BOH_COACH (bidUnit b)) ⟨2, 0⟩ 2
  | _ => s

/-- A DMA of an Eight is in flight. -/
def State.eightBusy (s : State) (e : Nat) : Bool :=
  (List.range 64).any (fun i => (s.ctxOf e (i / 8) (i % 8)).tickets.any (fun t => t.status.isNone))

/-- A Call in progress is handled by a Coach: it holds the Call's partition (R426). -/
def State.coachCalls (s : State) (c : Nat) : Bool :=
  let parts := bitsOf (s.rd (BOH_COACH c)).toNat 31 16
  (List.range 16).any (fun q => match (s.callQ q).cur with | some (k, _) => bitsOf parts (Config.callPart k.op % 16) (Config.callPart k.op % 16) == 1 | none => false)

/-- A block may be at its boundary (R19): what the model can see of it. -/
def State.atBoundary (s : State) (b : Nat) : Bool :=
  match bidType b with
  | 0x01 => !s.eightBusy (bidUnit b)
  | 0x0C => (s.recOf (bidUnit b)).clip.isNone
  | 0x0F => !s.coachCalls (bidUnit b)
  | _ => true

/-! ### Coaches (R68, R426 to R428) -/

/-- The FIRMWARE payload of a Coach in sections. -/
def fwOf (ss : List Section) (c : Nat) : Option (List Byte) := (ss.find? (fun x => x.kind == 3 && x.block == 0x0F00 + c)).map (·.data)

/-- VERSION, COMPAT_MIN, COMPAT_MAX, HOME and STANDBY of a FIRMWARE payload (R427). -/
def fwVersion (d : List Byte) : Nat := leAt d 0x08 4
def fwMin (d : List Byte) : Nat := leAt d 0x0C 4
def fwMax (d : List Byte) : Nat := leAt d 0x10 4
def fwHome (d : List Byte) : Nat := leAt d 0x14 2
def fwStandby (d : List Byte) : Nat := leAt d 0x16 1

/-- Partitions that a Coach holds. -/
def State.coachParts (s : State) (c : Nat) : Nat := bitsOf (s.rd (BOH_COACH c)).toNat 31 16
/-- Partitions set. -/
def State.setParts (s : State) (c v : Nat) : State := s.setFld (BOH_COACH c) ⟨31, 16⟩ v

/-- The Coach that takes a Coach's partitions: its standby, or the lowest-numbered running one where that is itself not running (R428). -/
def State.coachHeir (s : State) (c : Nat) : Option Nat :=
  let up (k : Nat) : Bool := k != c && bitsOf (s.rd (BOH_COACH k)).toNat 2 0 == 1
  let sb := ((fwOf s.rig.sections c).map fwStandby).getD 8
  if sb < 8 && up sb then some sb else (List.range 8).find? up

/-- A Coach's partitions pass to another Coach. -/
def State.coachHand (s : State) (c : Nat) : State :=
  match s.coachHeir c with
  | some k => (s.setParts k (s.coachParts k ||| s.coachParts c)).setParts c 0
  | none => s

/-- A Coach starts from its committed firmware and takes its home partitions back. -/
def State.coachStart (s : State) (c : Nat) : State :=
  match fwOf s.rig.sections c with
  | some d =>
    let home := fwHome d
    let s := (List.range 8).foldl (fun s k => if k = c then s else s.setParts k (s.coachParts k &&& (65535 - home))) s
    s.wr (BOH_COACH c) (w32 (home * 65536 + fwVersion d / 16777216 * 256 + 1))
  | none => s.setFld (BOH_COACH c) ⟨2, 0⟩ 1

/-! ### Umpire records (R105) -/

/-- A stream record that a configuration needs: STREAM_ID, CFG word, RATE and queue size in KiB. -/
structure UmpRec where
  id : Nat
  cfg : Word
  rate : Nat
  queue : Nat
deriving DecidableEq, Repr

/-- Soft tasks that name a stream: the Soft claimants that a Rig declares (log entry 65). -/
def softClaims (ss : List Section) : List Nat :=
  uniqNat ((((sectsOfKind 2 ss).flatMap (fun x => (oarProg x.data).tasks)).filter (fun t => t.cls == 2 && t.stream != 0)).map (·.stream))

/-- The records of a configuration: one for each reservation record, and one for each Soft claimant without one. -/
def umpRecs (ss : List Section) : List UmpRec :=
  let rs := allRes ss
  let dir (r : ResRec) : Nat := if r.target = 2 then (if r.dir % 4 = 0 then 3 else r.dir % 4) else 0
  rs.map (fun r => ⟨r.stream, w32 (r.cls + 4 * r.target + 16 * dir r + 65536 * (r.backlog % 65536)), r.rate, if r.target = 1 && r.cls = 1 then 64 else 0⟩) ++
    ((softClaims ss).filter (fun i => !rs.any (fun r => r.stream == i && r.target == 3))).map (fun i => ⟨i, 2, 0, 0⟩)

/-- A record is that of a register set: its STREAM_ID and TARGET. -/
def State.umpIs (s : State) (n : Nat) (r : UmpRec) : Bool :=
  (s.rd (UMP_S_ID n)).toNat == r.id && UMP_S_CFG_TARGET.get (s.rd (UMP_S_CFG n)) == UMP_S_CFG_TARGET.get r.cfg

/-- A record's registers cleared. -/
def State.umpClear (s : State) (n : Nat) : State :=
  [UMP_S_ID n, UMP_S_CFG n, UMP_S_RATE n, UMP_S_BKL_NOW n, UMP_S_BKL_PEAK n, UMP_S_DELAY_LO n, UMP_S_DELAY_HI n, UMP_S_REFUSAL n,
    UMP_S_REFUSAL_TIME n, UMP_S_STOP n, UMP_S_QUEUE n].foldl (fun s r => s.wr r 0) { s with strm := tabDel s.strm n }

/-- The Umpire's records follow a configuration: those that stay keep their place and counters, the others take the lowest free places (log entry 66). -/
def State.umpSet (s : State) (ss : List Section) : State :=
  let rs := umpRecs ss
  let used := (List.range 1024).filter (fun n => s.rd (UMP_S_ID n) != 0)
  let gone := used.filter (fun n => !rs.any (fun r => s.umpIs n r))
  let s := gone.foldl (fun s n => s.umpClear n) s
  let stay := used.filter (fun n => !gone.contains n)
  let place (p : State × List Nat) (r : UmpRec) : State × List Nat :=
    let (n, free) := match stay.find? (fun n => s.umpIs n r) with
      | some n => (n, p.2)
      | none => (p.2.headD 1023, p.2.tail)
    let t := (((p.1.wr (UMP_S_ID n) (w32 r.id)).wr (UMP_S_CFG n) r.cfg).wr (UMP_S_RATE n) (w32 r.rate)).wr (UMP_S_QUEUE n) (w32 r.queue)
    (t.setFld (UMP_STREAM_MAP (n / 2)) (if n % 2 = 0 then ⟨15, 0⟩ else ⟨31, 16⟩) (r.id % 65536), free)
  let free := (List.range 1024).filter (fun n => !stay.contains n)
  let s := gone.foldl (fun s n => s.setFld (UMP_STREAM_MAP (n / 2)) (if n % 2 = 0 then ⟨15, 0⟩ else ⟨31, 16⟩) 0) s
  let t := (rs.foldl place (s, free)).1
  let sum (c : Nat) : Nat := (((allRes ss).filter (fun r => r.target == 1 && r.cls == c)).map (·.rate)).sum
  (t.wr UMP_ISO_RES (w32 (sum 0))).wr UMP_FIRM_RES (w32 (sum 1))

/-! ### Resets begin (R108 to R112) -/

/-- A region's bit of BOH_REGION_RESET, and DOWN while such a reset is in progress. -/
def State.showResets (s : State) : State :=
  let js := s.boot.resets ++ s.boot.waitingResets
  let v := (js.map (fun j => match j with | .region r _ => 2 ^ r | .block _ => 0)).foldl (· ||| ·) 0
  let d := js.any (fun j => match j with | .region _ d => d | .block _ => false)
  s.wr BOH_REGION_RESET (w32 (v + 256 * b2n d))

/-- A reset begins: its blocks are asked to stop at their boundaries, and pending restarts in a region are cancelled (R108, R109, R111). -/
def State.resetBegin (s : State) (j : ResetJob) : State :=
  let s := { s with boot := { s.boot with resets := s.boot.resets ++ [j] } }
  let ask (s : State) (b : Nat) : State :=
    let k := s.blkOf b
    if k.phase = .running || k.phase = .held then (s.setBlk b { k with holdReset := true }).holdAsk b else s
  match j with
  | .region r _ =>
    let s := if s.region r = 4 then s.paddleEnd else s
    let s := (s.setRegion r 1).showResets
    (regionBlocks r).foldl (fun s b => ask (s.setBlk b { s.blkOf b with restartDue := false }) b) s
  | .block b => ask s b

/-- Resets that waited for IDLE begin (R112). -/
def State.resetsGo (s : State) : State :=
  s.boot.waitingResets.foldl (fun s j => s.resetBegin j) { s with boot := { s.boot with waitingResets := [] } }

/-- Any reset is in progress or waits. -/
def State.resetting (s : State) : Bool := !s.boot.resets.isEmpty || !s.boot.waitingResets.isEmpty

/-! ### Repairs (R66, R67, R425) -/

/-- The seat test of a repair (R67): seat 8 is in service or failed. -/
def State.spareGone (s : State) (e : Nat) : Bool :=
  (List.range 8).any (fun l => s.physSeat e l == 8) || bitOf (s.rd (EGT_SEAT_STATE e)) 8

/-- Repairs that coxes asked for while the controller was busy are taken up (R59, R67; log entry 67). -/
def State.coxNext : Nat → State → State
  | 0, s => s
  | n + 1, s =>
    match s.rig.cox with
    | [] => s
    | (e, p) :: rest =>
      let s := s.setRig { s.rig with cox := rest }
      if s.spareGone e then
        let s := s.setBlk (0x0100 + e) { s.blkOf (0x0100 + e) with restartDue := false }
        State.coxNext n ((s.refuseRecord ⟨5, 0x0103, 0, 0xFFFF1FFF⟩ false true []).raise 19 0x0E01)
      else (s.setRig { s.rig with job := some .repair, repair := (e, p), coxJob := true, listed := [0x0100 + e] }).setRigState 5

/-- The controller is IDLE again: resets that waited begin, and so does a repair that waited. -/
def State.rigIdle (s : State) : State :=
  let s := s.setRig { s.rig with job := none, image := [], listed := [], waiting := false, verdict := none, coxJob := false }
  let s := ((s.setRigState 0).setHeld 0).resetsGo
  if s.rig.cox.isEmpty then s else s.coxNext 33

/-- The block that a cox asks to be repaired (R67): the spare is taken, or is exhausted. -/
def State.coxRepair (s : State) (e p : Nat) : State :=
  let s := s.setRig { s.rig with cox := s.rig.cox ++ [(e, p)] }
  if s.rigState = 0 then s.coxNext 33 else s

/-- Blocks held for a commit are released on their previous configuration (R60, R69). -/
def State.holdRelease (s : State) : State :=
  s.rig.listed.foldl (fun s b =>
    let k := s.blkOf b
    let s := if bidType b = 0x0F && k.holdRig && k.phase != .stopped then
        (if k.phase = .held then s.coachStart (bidUnit b) else s.setFld (BOH_COACH (bidUnit b)) ⟨2, 0⟩ 1) else s
    if k.holdRig then s.setBlk b { s.blkOf b with phase := if k.phase = .held then .running else k.phase, holdRig := false } else s) s

/-- Refusal of the job in progress: nothing of it takes effect (R57, R70, R117). -/
def State.rigRefuse (s : State) (r : Refused) : State :=
  let commit := s.rig.job == some .commit
  let full := commit && !(imgHeader s.rig.image).isPartial && !s.rig.everFull
  let s := s.refuseRecord r commit s.rig.coxJob (sliceAt s.rig.image 0x20 16)
  let s := if r.code = 0x0103 && s.rig.job == some .repair then s.raise 19 0x0E01 else s
  let s := if full then s.wr BOH_BOOT_ERR 7 else s
  let s := if s.rigState = 3 then s.holdRelease else s
  (s.rigIdle).callDone .rig 3 (r.code % 65536 + r.owner.toNat * 4294967296) r.detail.toNat

/-- The bring-up stage changes and event 32 gives it (R113). -/
def State.toStage (s : State) (n : Nat) : State :=
  if s.stage = n then s
  else ((s.setFld BOH_BOOT_STATUS BOH_BOOT_STATUS_STAGE n).raise 32 0x0E00 [w32 n]).vaultShow

/-! ### Commands (R56, R59, R112, R117) -/

/-- An image of the source memory that RIG_IMG_ADDR and RIG_IMG_LEN name. -/
def State.rigSource (s : State) (n : Nat) : List Byte := s.memRead (s.rd64 RIG_IMG_ADDR_LO RIG_IMG_ADDR_HI) n

/-- A command finds the controller busy, or a reset in progress (R59, R112). -/
def State.rigBusy (s : State) : Bool := s.rigState != 0 || s.resetting

/-- COMMIT or CHECK: copying starts, or the command is refused with 0x0503 (R56, R59). STAGE becomes RIGLOAD when the first full commit starts (R117). -/
def State.rigStart (s : State) (job : RigJob) : State :=
  if s.rigBusy then s.refuseRecord ⟨0, 0x0503, 0, 0xFFFF1FFF⟩ (job == .commit) false (sliceAt (s.rigSource 64) 0x20 16)
  else
    let first := job == .commit && !s.rig.everFull && !(imgHeader (s.rigSource 256)).isPartial
    let s := (s.setRig { s.rig with job := some job, image := [], listed := [], waiting := false, verdict := none, coxJob := false }).setRigState 1
    if first && (s.stage = 3 || s.stage = 4) then s.toStage 4 else s

/-! ### Apply (R60 to R68, R105, R110, R123) -/

/-- Registers whose RG fields a full commit does not return to Reset: the seat map (R59), those that a commit derives from its records (R59, R105), and
those of Stroke slots, which follow their owner (R141). -/
def rgExempt (name : String) : Bool :=
  ["EGT_SEAT_MAP", "UMP_S_ID", "UMP_S_CFG", "UMP_S_RATE", "UMP_STREAM_MAP", "UMP_ISO_RES", "UMP_FIRM_RES", "STK_S_CFG", "STK_S_PARAM"].contains name

/-- A full image: the RG fields of every block that it does not list return to Reset, and those blocks are unconfigured (R59). -/
def State.fullClear (s : State) (listed : List Nat) : State :=
  let own (o : Nat) : Bool := match s.offBlock o with | some b => listed.contains b | none => false
  let s := s.mapRegs (fun o => !own o) (fun row i v => if rgExempt row.name then v else dropRg row i v)
  allBlocks.foldl (fun s b => if listed.contains b then s else s.setBlk b {}) s

/-- What follows the restart of an Eight or a Coach: events 68 and 73, and the Coach's partitions (R428, R429). -/
def State.blkAfter (s : State) (b : Nat) : State :=
  let u := bidUnit b
  match bidType b with
  | 0x01 => s.raise 68 b [w32 u]
  | 0x0F => (s.coachStart u).raise 73 b [w32 u]
  | _ => s

/-- The release of a listed block after the apply (R21, R60, R61, R64, R110). -/
def State.rigRelease (s : State) (b : Nat) : State :=
  let k := s.blkOf b
  let s := s.setBlk b { k with holdRig := false, skipped := 0 }
  if bidChip b || s.region (bidRegion b) ≠ 2 then s
  else
    match k.phase with
    | .stopped => if k.restartDue then s else (s.blkRestart b).blkAfter b
    | .down => if bidType b = 0x0F then (s.blkStart b).coachStart (bidUnit b) else s.blkStart b
    | _ =>
      let s := s.setBlk b { s.blkOf b with phase := .running }
      let s := (s.blkStrms b).foldl (fun s r => s.strmRestart r) s
      match bidType b with
      | 0x01 => (s.eightStart (bidUnit b)).blkAfter b
      | 0x0D => s.audReset (bidUnit b)
      | 0x0F => s.blkAfter b
      | _ => s

/-- The block that owns a Stroke slot under a configuration (R141). -/
def slotBlock (ss : List Section) (n : Nat) : Option Nat := if n < 16 then some 0x0E02 else (ownerOf ss 2 n).map (· / 65536)

/-- A slot reset: disarmed, and every field 0 (R141). -/
def State.slotReset (s : State) (n : Nat) : State :=
  [STK_S_CFG n, STK_S_PARAM n, STK_S_COMPARE n, STK_S_REPEAT n, STK_S_CTRL n, STK_S_FIRES n, STK_S_SKIP n].foldl (fun s r => s.wr r 0) s

/-- Slots that an apply gives to another owner, or releases, are reset; a full image that does not list chip function 2 unconfigures slots 0 to 15
(R59, R141). -/
def State.slotsMove (s : State) (old new : List Section) (timeline : Bool) : State :=
  let s := ((List.range 512).filter (fun n => slotBlock old n != slotBlock new n)).foldl (fun s n => s.slotReset n) s
  if timeline then s else (List.range 16).foldl (fun s n => (s.wr (STK_S_CFG n) 0).wr (STK_S_PARAM n) 0) s

/-- A slot that an apply leaves armed with TTYPE 0x00 is disarmed (R143). -/
def State.slotsOff (s : State) : State :=
  (s.armedSlots.filter (fun n => s.fld (STK_S_CFG n) STK_S_CFG_TTYPE == 0)).foldl (fun s n => s.setBit (STK_S_CTRL n) STK_S_CTRL_ARM false) s

/-- Raw GDDR7 capacity in MiB from the straps (R86): density 16, 24 or 32 Gbit on 8 devices, or 16 in clamshell. -/
def State.g7Raw (s : State) : Nat := (s.fld G7_CONFIG G7_CONFIG_DENS + 1) * 1024 * (if s.bit G7_CONFIG G7_CONFIG_CLAM then 16 else 8)

/-- Trained capacity in MiB with inline ECC as given (R88). -/
def State.g7Cap (s : State) (iecc : Bool) : Nat := if iecc then s.g7Raw * 15 / 16 else s.g7Raw

/-- G7_TRAINED_CAP follows inline ECC. -/
def State.g7Show (s : State) : State :=
  if s.fld G7_STATUS G7_STATUS_STATE = 2 then s.wr G7_TRAINED_CAP (w32 (s.g7Cap (s.bit G7_CONFIG G7_CONFIG_IECC))) else s

/-- What chip functions take from an apply: the policy, the audio reference, and measurements (R397, R459, R464). -/
def State.chipConfig (s : State) (img : List Byte) : State :=
  let v := s.vault
  let v := { v with rigMeas := measExtend v.rigMeas (sha384 (sliceAt img 0 256))
                    fwMeas := ((sectTable img).filter (·.kind == 3)).foldl (fun m e => measExtend m e.hash) v.fwMeas
                    rigIn := if (imgHeader img).isPartial then v.rigIn else (imgHeader img).rollback
                    policy := match (sectsOfKind 6 (imgSections img)).head? with
                      | some x => x.data
                      | none => if (imgHeader img).isPartial then v.policy else [] }
  ((s.setVault v).audRef).g7Show

/-- The Paddle mode of H0 is not the mode that the full rig gives it (R123). -/
def State.modeMoves (s t : State) : Bool :=
  match s.boot.desc with
  | some d =>
    let g := t.geom 0
    g.w != d.paddleW || g.h != d.paddleH || g.b != d.paddleB || g.r != 1 || (t.headRate 0) != d.paddleRate ||
      (d.paddleTag != 0xFF && t.modeTag 0 != d.paddleTag)
  | none => false

/-- Handover from Paddle mode (R123, R124): event 34 gives F and the repeat count, SCN0 repeats its last frame where the count is 1, and a mode that changes
is commanded at F. -/
def State.handover (s t : State) : State :=
  if s.boot.paddle ≠ .serving then t
  else
    let f := s.rd (SPT_H_FRAMES 0)
    let move := s.modeMoves t
    let rep := move && (t.scnOf 0).tim == (s.scnOf 0).tim
    let t := (t.setFld BOH_BOOT_STATUS BOH_BOOT_STATUS_REPEAT (b2n rep)).raise 34 0x0E00 [f, w32 (b2n rep)]
    let t := if rep then t.setScn 0 { t.scnOf 0 with again := (s.scnOf 0).codes } else t
    if move && t.bit (SPT_H_CFG (t.hp 0)) SPT_H_CFG_CMDL && (t.sptOf 0).cmd.isNone then
      t.newCmd 0 true 0x10 (w32 (t.modeTag 0)) .exchange else t

/-- Ticks since PORESET_N released are counted by the model's own clock, in ms. -/
def State.upMs (s : State) : Nat := s.ticks / 1250000

/-- A head whose mode or geometry an apply changed takes its tables from the stores in force anew at its next Frame Start (R194, R228; log entry 72). -/
def State.storesAgain (s t : State) : State :=
  (List.range 8).foldl (fun t h =>
    if t.modeTag h = s.modeTag h && t.geom h = s.geom h && t.catOn h == s.catOn h then t
    else
      let t := if t.calNew.hash.isEmpty then t else t.setCat h { t.catOf h with calDue := true }
      if t.colNew.hash.isEmpty then t else t.setDrv h { t.drvOf h with calDue := true }) t

/-- All sections of the image apply, and the held blocks are released (R60, R61, R63, R65). -/
def State.rigApply (s : State) : State :=
  let img := s.rig.image
  let h := imgHeader img
  let new := imgSections img
  let ls := s.rig.listed
  let frames := (ls.map (fun b => (s.blkOf b).skipped)).foldl max 0
  let ss := if h.isPartial then s.rig.sections.filter (fun x => !ls.contains x.block) ++ new else new
  let t := if h.isPartial then s else s.fullClear ls
  let t := t.setRig { t.rig with sections := ss }
  let t := if h.isPartial then t else
    let t := { t with boot := { t.boot with paddle := .off } }.setBit BOH_BOOT_STATUS BOH_BOOT_STATUS_PADDLE false
    (List.range 5).foldl (fun t r => t.setRegion r 2) t
  let t := t.slotsMove s.rig.sections ss (h.isPartial || ls.contains 0x0E02)
  let t := (t.umpSet ss).setBit STK_TB0_STATUS STK_TB0_STATUS_SERVO (Config.ptpServo (ss.map (·.data)))
  let t := (List.range 4).foldl (fun t i => t.wr (RIG_ACTIVE_ID i) (w32 (leAt h.rigId (4 * i) 4))) t
  let t := ls.foldl (fun t b => t.cfgBlock new b) t
  let t := ls.foldl (fun t b => t.blkConfig ss b) t
  let t := s.storesAgain (t.slotsOff.chipConfig img)
  let t := ls.foldl (fun t b => t.rigRelease b) t
  let t := if h.isPartial then t else s.handover t
  let t := (t.wr RIG_HOLD_FRAMES (w32 frames)).inc RIG_COMMIT_CNT
  let ids := (ls.take 33).flatMap (leBytes 2)
  let t := t.rigOk.raise 16 0x0E01 (w32 frames :: bytesWords ((h.rigId ++ leBytes 2 ls.length ++ ids ++ List.replicate 66 0).take 84))
  let first := !h.isPartial && !s.rig.everFull
  let t := if h.isPartial then t else t.setRig { t.rig with everFull := true }
  let t := if first then (t.wr BOH_READY_MS (w32 t.upMs)).toStage 5 else t
  t.rigIdle.callDone .rig 0 frames

/-! ### Holding (R60, R64, R112) -/

/-- A stream of a block was refused at run time: in HOLDING the block counts as held (R103). -/
def State.refusedBlk (s : State) (b : Nat) : Bool := (s.blkStrms b).any (fun r => (s.strmOf r).refused)

/-- Listed blocks that are not held yet: they run and were asked to stop. -/
def State.unheld (s : State) : List Nat :=
  s.rig.listed.filter (fun b => let k := s.blkOf b; k.phase == .running && k.holdRig && !s.refusedBlk b)

/-- HELD follows the hold; with every listed block held, the job applies, or a repair waits for its reload. -/
def State.holdCheck (s : State) : State :=
  let left := s.unheld
  let s := s.setHeld (s.rig.listed.length - left.length)
  if !left.isEmpty || s.rigState ≠ 3 then s
  else if s.rig.job = some .repair then s.setRigState 5
  else s.rigApply

/-- The controller enters HOLDING: every listed block that runs is asked to stop; the others count as held (R60, R64). -/
def State.holdEnter (s : State) (ls : List Nat) : State :=
  let s := s.setRig { s.rig with listed := ls, waiting := false }
  let s := s.setRigState 3
  let s := ls.foldl (fun s b =>
    let k := s.blkOf b
    if k.phase = .running && !bidChip b then (s.setBlk b { k with holdRig := true, skipped := 0 }).holdAsk b
    else s.setBlk b { k with skipped := 0 }) s
  s.holdCheck

/-- A commit whose checks passed enters HOLDING once no reset is in progress (R112). -/
def State.holdDeferred (s : State) : State :=
  if s.rig.waiting && !s.resetting then s.holdEnter s.rig.listed else s

end Sys2Proof.Machine
end

