-- ==== Sys2Proof/Machine/Blocks.lean ====
section
/-! DEFINITION. Faults and what contains them, chip-fatal, and region and block resets (R16 to R23, R108 to R112, R424, R425, R501 to R504). Rows
REGION_RESET to BLOCK_BOUNDARY_REACHED and EIGHT_REMAP_RESTART to COURSE_PORT_ERROR. -/

namespace Sys2Proof.Machine

/-! ### Chip-fatal (R22, R503, R504) -/

/-- The Umpire declares chip-fatal: every block outside the chip functions stops with 0x07, outputs go safe, and the CHIP_FATAL record is built and flushed.
A safe state already entered keeps its cause. -/
def State.chipFatal (s : State) (cause detector : Nat) (detail : List Word) : State :=
  if s.hlt.fatal.isSome then s
  else
    let s := allBlocks.foldl (fun s b => s.blkStop b 7) s
    let s := s.setBit HLT_STATUS HLT_STATUS_SAFE true
    let s := { s with hiZ := true, hlt := { s.hlt with fatal := some cause }, stk := { s.stk with due := [], evMatch := [], gpio := [] } }
    s.logFatal cause detector detail

/-! ### Block faults (R501) -/

/-- A cox stops its block for a fault: event 966, STOP_REASON 0x02, and a restart at the boundary, unless the restart limit is passed: then event 967. -/
def State.blkFault (s : State) (b : Nat) : State :=
  let k := s.blkOf b
  if k.phase = .down || k.phase = .stopped then s
  else
    let s := (s.raise 966 0x0E05 [w32 b]).blkFail b 2
    let window := max 1 (bitsOf (s.rd HLT_RESTART).toNat 23 16)
    let count := max 1 (bitsOf (s.rd HLT_RESTART).toNat 7 0)
    let recent := k.restarts.filter (fun t => decide (s.ticks < t + ticksOfMs (1000 * window)))
    let s := if recent.length < count then s.setBlk b { s.blkOf b with restarts := s.ticks :: recent, restartDue := true }
      else (s.setBlk b { s.blkOf b with restarts := recent, restartDue := false, gaveUp := true }).raise 967 0x0E05 [w32 b]
    s.holdCheck

/-- An uncorrectable error of a seat: FAILED and event 65, the Eight stops, and its cox asks for the spare (R67, R424). -/
def State.seatFault (s : State) (e p : Nat) : State :=
  let s := if bitOf (s.rd (EGT_SEAT_STATE e)) p then s
    else (s.setFld (EGT_SEAT_STATE e) ⟨p, p⟩ 1).raise 65 (0x0100 + e) [w32 e, w32 p]
  let was := (s.blkOf (0x0100 + e)).phase
  let s := s.blkFault (0x0100 + e)
  if was = .down || was = .stopped || !(List.range 8).any (fun l => s.physSeat e l == p) then s else s.coxRepair e p

/-- The seat whose task a STREAM_ID names. -/
def State.streamSeat (s : State) (e id : Nat) : Option Nat :=
  ((List.range 64).find? (fun i => match s.task e (i / 8) (i % 8) with | some t => t.stream == id | none => false)).map (fun i => s.physSeat e (i / 8))

/-- Poisoned data reaches the block of a STREAM_ID: an uncorrectable error of the receiving cell (R93, R501). -/
def State.poisoned (s : State) (id : Nat) : State :=
  let b := id / 65536
  if bidType b = 0x01 then
    match s.streamSeat (bidUnit b) id with
    | some p => s.seatFault (bidUnit b) p
    | none => s.blkFault b
  else if bidChip b then s.chipFatal 5 b [w32 b]
  else s.blkFault b

/-! ### Region isolation (R21, R502) -/

/-- A marshal isolates its region: its blocks stop with 0x04 and their pending restarts are cancelled; event 968. A region that is DOWN or already ISOLATED
stays as it is (log entry 74). -/
def State.regionIsolate (s : State) (r cause : Nat) : State :=
  if s.safe || s.region r = 0 || s.region r = 3 then s
  else
    let paddle := s.region r = 4
    let s := (regionBlocks r).foldl (fun s b =>
      let s := s.blkFail b 4
      s.setBlk b { s.blkOf b with restartDue := false }) s
    let s := ((if paddle then s.paddleEnd else s).setRegion r 3).raise 968 0x0E05 [w32 r, Config.isoCause cause]
    s.holdCheck

/-! ### Region and block resets (R108 to R112) -/

/-- A reset is asked for: it begins, or waits for the Rig controller (R112); one that is already asked for is not asked for again. -/
def State.resetAsk (s : State) (j : ResetJob) : State :=
  if 3 ≤ s.rigState then { s with boot := { s.boot with waitingResets := s.boot.waitingResets ++ [j] } }.showResets
  else s.resetBegin j

/-- A region reset is in progress or waits. -/
def State.regionBusy (s : State) (r : Nat) : Bool :=
  (s.boot.resets ++ s.boot.waitingResets).any (fun j => match j with | .region q _ => q == r | .block _ => false)

/-- A write of BOH_REGION_RESET (R108, R110). -/
def State.regionWrite (s : State) (v : Word) (down : Bool) : State :=
  (List.range 5).foldl (fun s r => if bitOf v r && !s.regionBusy r then s.resetAsk (.region r down) else s) s

/-- Row REGION_RESET: a write of REGION bits without DOWN. -/
def execRegionReset (regions : BitVec 5) (s : State) : Res :=
  .next (s.settle (s.hostDo BOH_REGION_RESET true (fun s => s.regionWrite (w32 regions.toNat) false)))

/-- Row REGION_DOWN: a write of REGION bits with DOWN. -/
def execRegionDown (regions : BitVec 5) (s : State) : Res :=
  .next (s.settle (s.hostDo BOH_REGION_RESET true (fun s => s.regionWrite (w32 regions.toNat) true)))

/-- A reset job is in progress. -/
def State.jobRuns (s : State) (j : ResetJob) : Bool := s.boot.resets.contains j

/-- A reset job ends; a commit that waited for it may enter HOLDING (R112). -/
def State.jobEnds (s : State) (j : ResetJob) : State :=
  ({ s with boot := { s.boot with resets := s.boot.resets.erase j } }.showResets).holdDeferred

/-- Every block of a region is held or stopped: the marshal clears and restarts the region, or leaves it DOWN (R108, R110). -/
def State.regionDone (s : State) (r : Nat) (down : Bool) : State :=
  let s := if down then
      (regionBlocks r).foldl (fun s b =>
        let t := s.blkStop b 1
        t.setBlk b { phase := .down, code := (t.blkOf b).code }) (s.setRegion r 0)
    else if s.safe then s.setRegion r 2
    else
      (regionBlocks r).foldl (fun s b =>
        let s := s.blkReload b
        if s.committed b then s.blkAfter b else s) (s.setRegion r 2)
  (s.raise 36 0x0E00 [w32 r]).jobEnds (.region r down)

/-- The region boundary (R108): no block of the region still runs. -/
def State.regionHeld (s : State) (r : Nat) : Bool := (regionBlocks r).all (fun b => !s.running b)

/-- Row REGION_BOUNDARY_REACHED. -/
def execRegionBoundaryReached (r : Fin 5) (s : State) : Res :=
  .next (
    if !s.regionHeld r then s
    else if s.jobRuns (.region r true) then s.settle (s.regionDone r true)
    else if s.jobRuns (.region r false) then s.settle (s.regionDone r false)
    else s)

/-- Row REGION_RESET_TIMEOUT: RIG_BOUNDARY_TMO expires; every block not yet held stops with 0x01 (R109). -/
def execRegionResetTimeout (r : Fin 5) (s : State) : Res :=
  .next (
    if s.jobRuns (.region r true) || s.jobRuns (.region r false) then
      s.settle ((regionBlocks r).foldl (fun s b => if s.running b then s.blkStop b 1 else s) s)
    else s)

/-- A write of BOH_BLOCK_RESET: chip functions, the endpoint's quads, BLOCK_IDs that name no block, and blocks of a region that is not RUNNING are
discarded (R111; log entry 71). -/
def State.blockWrite (s : State) (b : Nat) : State :=
  if !bidValid b || bidChip b || b = 0x0B00 || b = 0x0B01 || s.region (bidRegion b) ≠ 2 then s
  else if (s.boot.resets ++ s.boot.waitingResets).contains (.block b) then s
  else s.resetAsk (.block b)

/-- Row BLOCK_RESET. -/
def execBlockReset (bid : BitVec 16) (s : State) : Res :=
  .next (s.settle (s.hostDo BOH_BLOCK_RESET true (fun s => s.blockWrite bid.toNat)))

/-- Row BLOCK_RESET_TIMEOUT: the block is stopped before its restart (R111). -/
def execBlockResetTimeout (bid : BitVec 16) (s : State) : Res :=
  .next (if s.jobRuns (.block bid.toNat) && s.running bid.toNat then s.settle (s.blkStop bid.toNat 1) else s)

/-! ### Boundaries (R19, R60) -/

/-- A listed block reaches its boundary in HOLDING and is held; a Coach has then handed its partitions over (R60, R68). -/
def State.rigHeld (s : State) (b : Nat) : State :=
  let k := s.blkOf b
  if s.rigState = 3 && s.rig.listed.contains b && k.holdRig && k.phase = .running && (s.atBoundary b || s.refusedBlk b) then
    let s := if bidType b = 0x0F && s.coachParts (bidUnit b) ≠ 0 then (s.coachHand (bidUnit b)).raise 72 b [w32 (bidUnit b)] else s
    (s.setBlk b { s.blkOf b with phase := .held }).holdCheck
  else s

/-- A repair of an Eight is asked for or in progress (R67). -/
def State.repairing (s : State) (e : Nat) : Bool :=
  s.rig.cox.any (fun x => x.1 == e) || (s.rig.job == some .repair && s.rig.repair.1 == e)

/-- A block that is held, stopped or due for a restart reaches its boundary. -/
def State.boundary (s : State) (b : Nat) : State :=
  let k := s.blkOf b
  let open_ := s.region (bidRegion b) = 2 || s.region (bidRegion b) = 4
  if s.safe || k.phase = .down || !s.atBoundary b then s
  else if s.jobRuns (.block b) then
    let t := (s.blkReload b)
    (if s.committed b then t.blkAfter b else t).jobEnds (.block b)
  else if k.phase = .stopped then
    if k.restartDue && open_ && !(bidType b = 0x01 && (s.hlt.oarPllBad || s.repairing (bidUnit b))) then (s.blkRestart b).blkAfter b else s
  else if k.phase = .running && k.holdRig then s.rigHeld b
  else if k.phase = .running && k.holdReset then s.setBlk b { k with phase := .held }
  else s

/-- Row BLOCK_BOUNDARY_REACHED (R19, R108, R111, R501). -/
def execBlockBoundaryReached (bid : BitVec 16) (s : State) : Res := .next (s.settle (s.boundary bid.toNat))

/-! ### Cell errors (R424, R425, R501) -/

/-- Row CELL_CORRECTED_ERROR: counted by the cell; of an Eight's seat under R424. -/
def execCellCorrectedError (bid : BitVec 16) (seat : Fin 9) (s : State) : Res :=
  .next (if bidValid bid.toNat && bidType bid.toNat = 0x01 then s.settle (s.seatCorrected (bidUnit bid.toNat) seat) else s)

/-- Row CELL_UNCORRECTABLE_ERROR: the cell fails; the block stops and restarts, an Eight's seat first takes the spare; in a chip function or a marshal it is
chip-fatal (R16, R501, R502). -/
def execCellUncorrectableError (unit : FaultUnit) (seat : Option (Fin 9)) (s : State) : Res :=
  .next (
    match unit with
    | .marshal r => s.settle (s.chipFatal 7 0x0E00 [w32 r.val])
    | .block bid =>
      let b := bid.toNat
      if !bidValid b then s
      else if bidChip b then s.settle (s.chipFatal 5 b [w32 b])
      else
        match seat with
        | some p => if bidType b = 0x01 then s.settle (s.seatFault (bidUnit b) p) else s.settle (s.blkFault b)
        | none => s.settle (s.blkFault b))

/-- Row COX_CONTROL_PARITY_ERROR: reported to the marshal, and the block is stopped and restarted (R501). -/
def execCoxControlParityError (bid : BitVec 16) (s : State) : Res :=
  .next (if bidValid bid.toNat && !bidChip bid.toNat then s.settle (s.blkFault bid.toNat) else s)

/-- Row COX_ANSWER_TIMEOUT: the marshal isolates its region (R502). -/
def execCoxAnswerTimeout (bid : BitVec 16) (s : State) : Res :=
  .next (if bidValid bid.toNat && !bidChip bid.toNat then s.settle (s.regionIsolate (bidRegion bid.toNat) 0) else s)

/-- Row COURSE_PORT_ERROR: the marshal isolates its region (R502). -/
def execCoursePortError (r : Fin 5) (s : State) : Res := .next (s.settle (s.regionIsolate r 1))

/-- The Eight of a repair is at its boundary: the logical seat moves to seat 8, with event 18, and the Eight restarts (R66, R67, R425). -/
def State.remapRestart (s : State) (e : Nat) : State :=
  let p := s.rig.repair.2
  let b := 0x0100 + e
  let k := s.blkOf b
  let s := match (List.range 8).find? (fun l => s.physSeat e l == p) with
    | some l => (s.setFld (EGT_SEAT_MAP e) ⟨4 * l + 3, 4 * l⟩ 8).raise 18 0x0E01 [w32 e, w32 p, 8]
    | none => s
  let cox := s.rig.coxJob
  let s := if s.safe || k.phase = .down || s.region (bidRegion b) ≠ 2 || k.gaveUp then s.setBlk b { s.blkOf b with holdRig := false }
    else (s.blkRestart b).blkAfter b
  let s := (if cox then s else s.rigOk).rigIdle
  if cox then s else s.rigAnswer

/-- Row EIGHT_REMAP_RESTART. -/
def execEightRemapRestart (e : Fin 32) (s : State) : Res :=
  .next (if s.rigState = 5 && s.rig.repair.1 = e && s.atBoundary (0x0100 + e) then s.settle (s.remapRestart e) else s)

end Sys2Proof.Machine
end

