-- ==== Sys2Proof/Machine/VaultOps.lean ====
section
/-! DEFINITION. Zeroisation, the container of images and stores, and their verification (R43 to R45, R54, R55, R193, R228, R458, R471). -/

namespace Sys2Proof.Machine

/-! ### Zeroisation (R471) -/

/-- A channel works on an encrypted clip or has a key for one. -/
def State.recKeyed (s : State) (c : Nat) : Bool := (s.recOf c).key.isSome || (match (s.recOf c).clip with | some k => k.key.isSome | none => false)

/-- Zeroisation: encrypted recordings stop with 0x02 and stay OPEN, keys and secrets are overwritten, LIFECYCLE reads ZEROISED, Hold bit 4 sets, and event
995 carries SERIAL. A second one finds nothing left to do. -/
def State.zeroise (s : State) : State :=
  if s.vault.burnt && s.vault.life = 128 then s
  else
    let s := (List.range 8).foldl (fun s c => if s.recKeyed c then s.recAbort c 2 else s) s
    let s := (List.range 4).foldl (fun s d => s.setDec d { s.decOf d with key := none }) s
    let v := s.vault
    let s := s.setVault { v with life := 128, burnt := true, keys := [], certs := [], storeOk := false, chal := [], sess := [] }
    (s.vaultHoldSet 4).raise 995 0x0E06 (bytesWords s.vault.serial)

/-! ### Containers (R43 to R45, R54, R55) -/

/-- The header and signature block of a container have the values that R44, R45, R54 and R55 give, with a magic and a largest length. -/
def contHeader (img : List Byte) (magic maxLen : Nat) : Bool :=
  let h := imgHeader img
  let z (o n : Nat) : Bool := allZero (sliceAt img o n)
  decide (256 ≤ img.length) && h.magic == magic && h.format == 1 && h.headerSize == 256 && decide (h.flags < 2) && h.length == img.length &&
    decide (h.length ≤ maxLen) && decide (1 ≤ h.count) && decide (h.count ≤ 4096) && h.tableOff == 256 && h.sigOff % 64 == 0 &&
    decide (256 + 64 * h.count ≤ h.sigOff) && z 0x12 2 && z 0x4B 53 && z 0xB0 80 &&
    leAt img h.sigOff 4 == 0x47535843 && leAt img (h.sigOff + 4) 2 == 1 && leAt img (h.sigOff + 6) 2 == 1 && leAt img (h.sigOff + 12) 4 == 0 &&
    z (h.sigOff + 0xD8D) 3 && h.length == h.sigOff + 0xD90 + leAt img (h.sigOff + 8) 4

/-- A section entry lies as R44 and R46 give: after the end of what stands before it, with zeros between. -/
def contEntry (img : List Byte) (prev : Nat) (e : SectEntry) : Bool :=
  e.off % 64 == 0 && decide (prev ≤ e.off) && e.len != 0 && decide (e.off + e.len ≤ (imgHeader img).sigOff) && e.rsv == 0 &&
    allZero (sliceAt img prev (e.off - prev))

/-- The index of the first section entry that does not lie as it must. -/
def contEntries (img : List Byte) : Nat → Nat → List SectEntry → Option Nat
  | _, _, [] => none
  | i, prev, e :: es => if contEntry img prev e then contEntries img (i + 1) (e.off + e.len) es else some i

/-- The bytes between the last section and the signature block are zero. -/
def contTail (img : List Byte) : Bool :=
  let last := ((sectTable img).map (fun e => e.off + e.len)).foldl max (256 + 64 * (imgHeader img).count)
  allZero (sliceAt img last ((imgHeader img).sigOff - last))

/-- Section and table hashes match (R458). -/
def hashesOk (img : List Byte) : Bool :=
  let h := imgHeader img
  sha384 (sliceAt img 256 (64 * h.count)) == h.tableHash && (sectTable img).all (fun e => sha384 (sliceAt img e.off e.len) == e.hash)

/-- KEY_ID of the signature block (R54). -/
def imgKeyId (img : List Byte) : List Byte := sliceAt img ((imgHeader img).sigOff + 0x10) 48

/-- The tests of R458 in order against a rollback minimum: 0, or the code of the first that fails. -/
def verifyCode (minimum : Nat) (img : List Byte) (k : SigCheck) : Nat :=
  if !hashesOk img then 0x0304
  else if !(k.chain && k.unit && k.key) then 0x0302
  else if !k.sigs then 0x0301
  else if (imgHeader img).rollback < minimum then 0x0303
  else 0

/-- The pins of a policy (R464). -/
def policyPins (p : List Byte) : List (List Byte) := (List.range (leAt p 0x0A 1)).map (fun i => sliceAt p (0x10 + 48 * i) 48)

/-- Verification of a Rig image: the signer is among the pins where the policy in force has any (R464). -/
def State.verifyRig (s : State) (img : List Byte) (k : SigCheck) : Nat :=
  let c := verifyCode s.vault.rbRig img k
  let pins := policyPins s.vault.pol
  if c ≠ 0 then c else if !pins.isEmpty && !pins.contains (imgKeyId img) then 0x0306 else 0

/-! ### Calibration and colour stores (R193, R194, R228) -/

/-- A store as the heads use it. -/
def storeOf (img : List Byte) : CalStore where
  id := (imgHeader img).rigId
  hash := sha384 (sliceAt img 0 256)
  used := false
  sections := (sectTable img).map (fun e => calSectionOf (e.block % 256) (sliceAt img e.off e.len))

/-- A store's container: that of R43 to R55 with the differences of R193 and R228. -/
def storeShape (img : List Byte) (colour : Bool) : Bool :=
  let h := imgHeader img
  contHeader img (if colour then 0x53435843 else 0x4C435843) 67108864 && h.flags == 0 && allZero h.baseId && h.minBw == 0 && h.minGib == 0 &&
    (contEntries img 0 (256 + 64 * h.count) (sectTable img)).isNone && contTail img &&
    (sectTable img).all (fun e => e.kind == 7 && decide (e.block < 8))

/-- A head's factory contexts in a store exceed its context range (R194). -/
def State.storeOver (s : State) (st : CalStore) (h : Nat) : Bool :=
  s.catOn h && !s.paddleHead h &&
    (match calPick st h 7 0 (s.modeTag h) (s.zlTest h) none with
     | some x => decide ((s.defRange h).2 < (calContexts x).length)
     | none => false)

/-- Verification of a store ends (R194, R228): a verified store is due at each head's next Frame Start; a rejected one leaves the previous one in force. In
bring-up a calibration store that is rejected leaves Paddle mode unstarted (R120). `q` is the Call queue that asked, 16 none. -/
def State.storeVerified (s : State) (colour : Bool) (img : List Byte) (k : SigCheck) (q : Nat) : State :=
  let ok := storeShape img colour && verifyCode s.vault.rbCal img k == 0
  let st := storeOf img
  if !ok then
    let s := if colour then s.raise 385 0x0400 [1] else s.raise 169 0x0300 [1]
    let s := if !colour && s.boot.paddle == .waiting then (s.wr BOH_BOOT_ERR 4).paddleEnd else s
    s.callDone (.cal q) 4 1
  else if colour then
    let s := (List.range 8).foldl (fun s h => s.setDrv h { s.drvOf h with calDue := true }) { s with colNew := st }
    s.callDone (.cal q) 0 (leAt st.id 0 8) (leAt st.id 8 8)
  else if (List.range 8).any (fun h => s.storeOver st h) then s.callDone (.cal q) 3 0x0108
  else
    let s := (List.range 8).foldl (fun s h => s.setCat h { s.catOf h with calDue := true }) { s with calNew := st }
    let s := s.setVault { s.vault with calIn := (imgHeader img).rollback }
    s.callDone (.cal q) 0 (leAt st.id 0 8) (leAt st.id 8 8)

/-- The verification in progress, if it is one. -/
def State.verifying (s : State) : Option VVerify := if s.vault.turn = some true then s.vault.verify.head? else none

/-- Row CAL_STORE_VERIFIED: of the store that the boot loader read from flash, or of the store that a Call has loaded. -/
def execCalStoreVerified (colour : Bool) (flash : Option (List Byte)) (k : SigCheck) (s : State) : Res :=
  .next (
    match flash with
    | some img => if s.boot.desc.isSome && s.stage = 3 then s.settle (s.storeVerified colour img k 16) else s
    | none =>
      match s.verifying with
      | some x => if x.cls = (if colour then 2 else 1) then s.settle (s.verifyPop.storeVerified colour x.data k x.path) else s
      | none => s)

/-- Row VAULT_VERIFY_DONE: the verification in progress completes (R458, R468): its code is kept for the Rig checks, or its store applies. -/
def execVaultVerifyDone (k : SigCheck) (s : State) : Res :=
  .next (
    match s.verifying with
    | none => s
    | some x =>
      let t := s.verifyPop
      if x.cls = 0 then s.settle { t with rig := { t.rig with verdict := some (t.verifyRig x.data k) } }
      else s.settle (t.storeVerified (x.cls == 2) x.data k x.path))

end Sys2Proof.Machine
end

