-- ==== Sys2Proof/Machine/Boot.lean ====
section
/-! DEFINITION. Reset, bring-up, Paddle mode's start, host warm reset and orderly shutdown (R86, R87, R106, R107, R113 to R121, R126, R511, R520). Rows
POWER_ON_RESET to HOST_WARM_RESET, SHUTDOWN to SHUTDOWN_STEP_TIMEOUT, and PORESET_N_ASSERT. -/

namespace Sys2Proof.Machine

/-! ### PORESET_N (R106, R483, R511) -/

/-- A Logbook flush cut after a number of bytes: records are written in SEQ order, each with ascending bytes (R511). -/
def State.logCut (s : State) (bytes : Nat) : State :=
  if !s.log.flushing then s
  else
    let rs := s.log.staged.take s.log.flushN
    let put (m : List Host.Cell) (i : Nat) : List Host.Cell :=
      match rs[i]? with
      | some r => tabFill 0 m (128 * logSlot r.1) (r.2.take (bytes - 128 * i))
      | none => m
    s.setLog { s.log with mram := (List.range rs.length).foldl put s.log.mram }

/-- The whole part resets. The MRAM store and its KEEL_FULL flag, the OTP, the key store in the boot flash, the secure RTC, the tamper latch, the power-cycle
count and OP_TIME survive; OP_TIME resumes from its stored value where VDD_AON was absent (R106, R463, R472, R483). -/
def State.porReset (s : State) (aon : Bool) : State :=
  let v := s.vault
  let l := s.log
  let z : State := {
    log := { mram := l.mram, opTime := if aon then s.opNow else l.opStored, opStored := l.opStored }
    vault := { life := v.life, burnt := v.burnt, vendor := v.vendor, serial := v.serial, rbRig := v.rbRig, rbCal := v.rbCal, rbFw := v.rbFw,
               keys := v.keys, certs := v.certs, gen := v.gen, storeOk := v.storeOk, rtcValid := v.rtcValid, rtcSec := s.rtcNow, tampWait := v.tampWait }
    out := s.out, pending := s.pending, freeCtr := s.freeCtr }
  ((z.wr LOG_PCYCLES (s.rd LOG_PCYCLES)).wr VLT_TAMPER (s.rd VLT_TAMPER)).setBit LOG_STATUS LOG_STATUS_KEEL_FULL (s.bit LOG_STATUS LOG_STATUS_KEEL_FULL)

/-- Row PORESET_N_ASSERT: the reset takes effect at once; a flush in progress stops after `written` bytes, low-speed outputs are high-impedance and FATAL_N is
released (R509, R511). -/
def execPoresetNAssert (written : BitVec 16) (s : State) : Res :=
  .next (
    if s.boot.poresetLow then s
    else { ((s.logCut written.toNat).porReset true) with boot := { poresetLow := true }, hiZ := true })

/-- Row POWER_ON_RESET: PORESET_N releases. `aon` says that VDD_AON stayed present, `off` for how many seconds the part was without a clock, and the straps
read `dens`, `clam` in samples that agree or do not (R106, R472, R483, R520). -/
def execPowerOnReset (aon : Bool) (off : Word) (dens : BitVec 2) (clam agree : Bool) (s : State) : Res :=
  .next (
    let z := s.porReset aon
    let z := if aon then z else { z with vault := { z.vault with rtcSec := z.vault.rtcSec + off.toNat } }
    let z := (z.inc LOG_PCYCLES).setFld G7_CONFIG G7_CONFIG_DENS dens.toNat
    let z := z.setBit G7_CONFIG G7_CONFIG_CLAM clam
    { z with boot := { z.boot with strapBad := !agree || dens == 0 } })

/-! ### To the boot loader (R113 to R116) -/

/-- Row BOOT_PLL_LOCKED. -/
def execBootPllLocked (s : State) : Res :=
  .next (if s.stage = 0 && !s.boot.poresetLow && !s.safe then s.settle (s.toStage 1) else s)

/-- The self-tests passed: the key store opens, an interrupted zeroisation completes, the Logbook takes its next SEQ from the store, and the registers of the
endpoint, Vault and Logbook show their values from LOADER on (R113, R114, R457, R463, R471, R472, R483). -/
def State.selftestPassed (s : State) (store : Bool) : State :=
  let v := s.vault
  let opens := store && v.storeOk && !v.burnt
  let s := s.setVault { v with ready := true, storeOk := opens, keys := if opens then v.keys else [], certs := if opens then v.certs else [] }
  let s := if opens then s else s.raise 1001 0x0E06
  let s := if s.vault.tampWait || (64 < s.vault.life && s.vault.life < 128) then
      let t := s.zeroise
      t.setVault { t.vault with tampWait := false } else s
  let s := if 64 < s.vault.life then s.vaultHoldSet 4 else s
  let s := s.setLog { s.log with seq := logScan s.log.mram }
  ((s.toStage 2).wr LND_EP_ID (w32 (0x0C960000 + s.vault.vendor % 65536))).logShow.logRead

/-- A self-test failed: cause 0x01, STAGE FAILED, and chip-fatal 0x08 (R113, R504). -/
def State.selftestFailed (s : State) : State := ((s.wr BOH_BOOT_ERR 1).toStage 6).chipFatal 8 0x0E06 [1]

/-- Row SELFTEST_DONE: the outcome of the tests, and whether a valid copy of the key store was found. -/
def execSelftestDone (pass store : Bool) (s : State) : Res :=
  .next (if s.stage = 1 then s.settle (if pass then s.selftestPassed store else s.selftestFailed) else s)

/-- Frame rates by PADDLE_RATE, in millifps (R116). -/
def paddleRates : List Nat := [23976, 24000, 25000, 29970, 30000, 50000, 59940, 60000]

/-- The boot descriptor's 64 bytes (R116). -/
def descOf (b : List Byte) : BootDesc where
  bflags := leAt b 0x06 1
  paddleOut := leAt b 0x07 1
  paddleQuad := leAt b 0x08 1
  paddleRate := paddleRates.getD (leAt b 0x09 1) 60000
  paddleTmo := leAt b 0x0A 2
  rigOffset := leAt b 0x0C 4
  rigLength := leAt b 0x10 4
  calOffset := leAt b 0x14 4
  calLength := leAt b 0x18 4
  scriptOffset := leAt b 0x1C 4
  scriptLength := leAt b 0x20 4
  paddleW := leAt b 0x24 2
  paddleH := leAt b 0x26 2
  paddleB := leAt b 0x28 1
  paddleCfa := leAt b 0x29 1
  paddleTrain := leAt b 0x2A 2
  paddleSync := leAt b 0x2C 4
  paddleTag := leAt b 0x30 1

/-- The container of a boot loader (R458). -/
def loaderShape (img : List Byte) : Bool :=
  let h := imgHeader img
  contHeader img 0x4C425843 4194304 && h.part == 0x0C96 && h.count == 1 && (contEntries img 0 (256 + 64) (sectTable img)).isNone && contTail img &&
    (sectTable img).all (fun e => e.kind == 3 && e.block == 0x0F00)

/-- A boot loader passes verification (R458). -/
def State.loaderOk (s : State) (img : List Byte) (k : SigCheck) : Bool := loaderShape img && verifyCode s.vault.rbFw img k == 0

/-- Paddle mode begins to wait for H0: its blocks run, its regions read STARTING, and SP0's set-up script starts (R118, R121). -/
def State.paddleWait (s : State) (d : BootDesc) (script : List Byte) : State :=
  let s := ({ s with boot := { s.boot with paddle := .waiting } }).paddleRegions 1
  let s := s.paddleBlocks.foldl (fun s b => s.setBlk b { phase := .running }) s
  let s := if d.bflags / 4 % 2 = 1 then
      let s := s.wr (SPT_P_LEG_TRAIN 0) (w32 d.paddleTrain)
      if d.paddleSync = 0 then s else s.wr (SPT_P_LEG_SYNC 0) (w32 d.paddleSync)
    else s
  if d.scriptLength = 0 then s
  else ((s.setScript 0 { busy := true, boot := true, flash := script }).wr (SPT_P_SCRIPT_CTRL 0) 2).scriptIssue 0

/-- A verified boot loader starts on Coach 0: EARLY, GDDR7 training, and Paddle mode where it is enabled (R113, R115, R117, R459). -/
def State.loaderStart (s : State) (img desc script : List Byte) : State :=
  let d := descOf desc
  let v := s.vault
  let s := s.setVault { v with fwMeas := measExtend v.fwMeas (sha384 (sliceAt img 0 256)), fwIn := (imgHeader img).rollback }
  let s := { s with boot := { s.boot with desc := some d } }
  let s := (s.setBit BOH_BOOT_STATUS BOH_BOOT_STATUS_AUTO (d.bflags / 2 % 2 == 1)).setFld (BOH_COACH 0) ⟨2, 0⟩ 1
  let s := (s.toStage 3).setFld G7_STATUS G7_STATUS_STATE 1
  if d.bflags % 2 = 1 then s.paddleWait d script else s

/-- Row LOADER_VERIFIED: the loader image read from slot A or B, what the public-key tests found, where its section holds the boot descriptor, and the set-up
script that the descriptor names in flash. -/
def execLoaderVerified (slotB : Bool) (img : List Byte) (k : SigCheck) (descAt : BitVec 22) (script : List Byte) (s : State) : Res :=
  .next (
    if s.stage ≠ 2 || slotB != s.boot.loaderBad || s.safe then s
    else if s.loaderOk img k then
      let t := if slotB then s.wr BOH_BOOT_ERR 2 else s
      s.settle ((t.setBit BOH_BOOT_STATUS BOH_BOOT_STATUS_SLOT slotB).loaderStart img (sliceAt img ((sectEntryAt img 256).off + descAt.toNat) 64) script)
    else if slotB then s.settle ((s.wr BOH_BOOT_ERR 3).toStage 6)
    else { s with boot := { s.boot with loaderBad := true } })

/-! ### EARLY (R87, R117, R119) -/

/-- Training ends at a pin rate (R73, R87, R88): bandwidth, capacity and admission limit show. -/
def State.g7Trained (s : State) (rate : Nat) : State :=
  let bw := 32 * rate * 1000
  let s := (s.setFld G7_STATUS G7_STATUS_STATE 2).setFld G7_STATUS G7_STATUS_RATE rate
  (((s.wr G7_TRAINED_BW (w32 bw)).wr UMP_ADMIT_LIMIT (w32 (bw * 4 / 5)))).g7Show

/-- With AUTO_COMMIT, the boot loader copies the Rig image into GDDR7 and starts a COMMIT (R117). -/
def State.autoCommit (s : State) (addr : Nat) (img : List Byte) : State :=
  if s.bit BOH_BOOT_STATUS BOH_BOOT_STATUS_AUTO then
    let s := s.memWrite addr img
    let s := ((s.wr RIG_IMG_ADDR_LO (w32 (addr / 64 * 64))).wr RIG_IMG_ADDR_HI (w32 (addr / 4294967296))).wr RIG_IMG_LEN (w32 img.length)
    s.rigStart .commit
  else s

/-- Row G7_TRAINING_DONE: the highest pin rate in Gbit/s at which every channel passes, 0 where none does; and, for AUTO_COMMIT, the GDDR7 address to which the
boot loader copies the Rig image and the image read from flash. -/
def execG7TrainingDone (rate : BitVec 8) (addr : BitVec 36) (rig : List Byte) (s : State) : Res :=
  .next (
    if s.fld G7_STATUS G7_STATUS_STATE ≠ 1 then s
    else if !s.boot.strapBad && [32, 28, 24, 20, 16].contains rate.toNat then
      s.settle ((s.g7Trained rate.toNat).autoCommit (addr.toNat / 64 * 64) rig)
    else s.settle (((s.setFld G7_STATUS G7_STATUS_STATE 3).wr BOH_BOOT_ERR 6).raise 28 0x0E00))

/-- Row PADDLE_TIMEOUT: H0 has sent no valid Frame Start in time (R119). -/
def execPaddleTimeout (s : State) : Res :=
  .next (if s.boot.paddle = .waiting then s.settle ((s.bootFail 5).paddleEnd) else s)

/-! ### Host warm reset (R106, R107, R435, R466) -/

/-- Registers of the endpoint, DMA channels, and Call and Answer queues: those that a host warm reset returns to Reset. -/
def warmReg (o : Nat) : Bool := (0x0400_1008 ≤ o && o < 0x0400_3000) || (0x0008_0000 ≤ o && o < 0x0008_2000)

/-- Row HOST_WARM_RESET: the endpoint resets and is back in service; event 38. -/
def execHostWarmReset (s : State) : Res :=
  .next (
    if s.boot.poresetLow then s
    else
      let t := { s with regs := s.regs.filter (fun e => !warmReg e.1), call := {}, lnd := { s.lnd with bar2Log := 28 } }
      let v := t.vault
      let w := { v with sess := [], queue := v.queue.filter (fun r => 16 ≤ r.path), verify := v.verify.map (fun (x : VVerify) => { x with path := 16 }) }
      let t := t.setVault { w with turn := w.next }
      s.settle (t.raise 38 0x0E00))

/-! ### Orderly shutdown (R126) -/

/-- A channel's clip is open. -/
def State.clipsOpen (s : State) : List Nat := (List.range 8).filter (fun c => (s.recOf c).clip.isSome)

/-- A scan-out head still runs, holds or stops. -/
def State.scnBusy (s : State) : List Nat := (List.range 4).filter (fun n => s.scnOn n && s.scnState n != 0 && s.scnState n != 4)

/-- Shutdown step 1: every recording channel closes its clip and seals it. -/
def State.shutBegin (s : State) (tmo : Nat) : State :=
  let s := { s with boot := { s.boot with shutStep := 1, shutTmo := if tmo = 0 then 5000 else tmo } }
  (List.range 8).foldl (fun s c => s.recEnd c 6) (s.toStage 7)

/-- A write of BOH_SHUTDOWN. -/
def State.shutWrite (s : State) (v : Word) : State :=
  if bitOf v 31 && s.stage ≠ 7 && s.stage ≠ 8 then s.shutBegin (bitsOf v.toNat 15 0) else s

/-- Row SHUTDOWN. -/
def execShutdown (v : Word) (s : State) : Res := .next (s.settle (s.hostDo BOH_SHUTDOWN true (fun s => s.shutWrite v)))

/-- A step is complete: what it waits for has come about. -/
def State.shutStepDone (s : State) : Bool :=
  match s.boot.shutStep with
  | 1 => s.clipsOpen.isEmpty
  | 3 => s.scnBusy.isEmpty
  | 4 => !s.log.flushing
  | _ => true

/-- The next step starts. -/
def State.shutNext (s : State) : State :=
  let n := s.boot.shutStep
  let s := { s with boot := { s.boot with shutStep := if n = 4 then 0 else n + 1 } }
  match n with
  | 1 => (List.range 8).foldl (fun s h => if (s.leadPort h).isSome then s.headStop h 1 else s) s
  | 2 => (List.range 4).foldl (fun s n => if s.scnOn n then s.softStop n else s) s
  | 3 => s.logFlush
  | _ => (s.toStage 8).raise 37 0x0E00

/-- Row SHUTDOWN_STEP_DONE. -/
def execShutdownStepDone (s : State) : Res :=
  .next (if s.boot.shutStep ≠ 0 && s.shutStepDone then s.settle s.shutNext else s)

/-- What remains open at a timeout stops with 0x01. -/
def State.shutForce (s : State) : State :=
  match s.boot.shutStep with
  | 1 => s.clipsOpen.foldl (fun s c => s.recAbort c 1) s
  | 3 => s.scnBusy.foldl (fun s n => s.scnStopped n) s
  | _ => s

/-- Row SHUTDOWN_STEP_TIMEOUT: BOH_SHUTDOWN.TMO expires on a step; an arrival in that tick wins. -/
def execShutdownStepTimeout (s : State) : Res :=
  .next (if s.boot.shutStep ≠ 0 then s.settle (s.shutForce.shutNext) else s)

end Sys2Proof.Machine
end

