-- ==== Sys2Proof/Machine/Umpire.lean ====
section
/-! DEFINITION. The Umpire: metering of GDDR7 requests, link EDC and inline ECC, backlogs and run-time refusal (R89 to R105). Rows UMP_S_DELAY_LO_READ
and GDDR7_REQUEST to STREAM_DATA_CONSUMED. -/

namespace Sys2Proof.Machine

/-! ### Delay counters (R105) -/

/-- A stream's delay counter grows; DELAY_LO shows its low word. -/
def State.delayAdd (s : State) (r n : Nat) : State :=
  let x := s.strmOf r
  (s.setStrm r { x with delay := (x.delay + n) % 2 ^ 64 }).wr (UMP_S_DELAY_LO r) (w32 (x.delay + n))

/-- A read of DELAY_LO returns the low word and latches the high word. -/
def State.delayRead (s : State) (r : Nat) : State :=
  let x := s.strmOf r
  { s.wr (UMP_S_DELAY_HI r) (w32 (x.delay / 4294967296)) with hostData := s.rd (UMP_S_DELAY_LO r) }

/-- Row UMP_S_DELAY_LO_READ. -/
def execUmpSDelayLoRead (r : Fin 1024) (s : State) : Res := .next (s.hostDo (UMP_S_DELAY_LO r) false (·.delayRead r))

/-! ### Credit (R96), in 1/5000 byte: one tick of 0.8 ns at 1 MB/s adds 4 -/

/-- What a bucket holds at most: 4 KiB, or 8 µs of RATE. -/
def creditCap (rate : Nat) : Nat := 5000 * max 4096 (8 * rate)

/-- Credit of a record now: refilled since it was last looked at. -/
def State.creditNow (s : State) (r : Nat) : Nat :=
  let rate := (s.rd (UMP_S_RATE r)).toNat
  let x := s.strmOf r
  if x.creditAt = 0 then creditCap rate else min (creditCap rate) (x.credit + 4 * rate * (s.ticks + 1 - x.creditAt))

/-- A request of a number of bytes on a record: 64 bytes of credit for each 64-byte access. It says whether the request is within reservation. -/
def State.creditTake (s : State) (r bytes : Nat) : State × Bool :=
  let c := s.creditNow r
  let cost := 5000 * 64 * ceilDiv bytes 64
  let ok := decide (cost ≤ c)
  (s.setStrm r { s.strmOf r with credit := if ok then c - cost else c, creditAt := s.ticks + 1 }, ok)

/-- Metering of a request on an Iso or Firm record: without credit it is delayed by the clocks that it waited (R96, R98, R105). -/
def State.meter (s : State) (r bytes waited : Nat) : State :=
  let (s, ok) := s.creditTake r bytes
  if ok then s
  else
    let s := s.delayAdd r waited
    if s.fld (UMP_S_CFG r) UMP_S_CFG_CLASS = 0 then s.raiseOnce 26 r 0x0E00 else s

/-- Metering by class: a Soft claimant waits unserved at level 5; `alone` of the clocks it waited count in UMP_SOFT_DELAY (R104, R105). -/
def State.serve (s : State) (r bytes waited alone : Nat) : State :=
  if s.fld (UMP_S_CFG r) UMP_S_CFG_CLASS = 2 then (s.delayAdd r waited).inc UMP_SOFT_DELAY (min alone waited) else s.meter r bytes waited

/-! ### Integrity (R91 to R93) -/

/-- The channel of an address (R89). -/
def g7Channel (a : Nat) : Nat := a / 256 % 8

/-- EDC failures of a transfer: a failed retry counts, and 16 retries of a channel in a round raise event 31 and ask for retraining (R91). -/
def State.edcFail (s : State) (ch fails : Nat) : State :=
  if fails = 0 then s
  else
    let s := s.inc (G7_EDC_RETRY_CNT ch) (min 4 fails - 1)
    let was := tabGet s.edc 0 ch
    let now := was + min 3 fails
    let s := { s with edc := tabSet s.edc 0 ch now }
    if was < 16 && 16 ≤ now then { s with retrain := if s.retrain.contains ch then s.retrain else s.retrain ++ [ch] }.raise 31 0x0E00 else s

/-- The device-service area: the top 1 GiB of trained capacity (R90). -/
def State.serviceArea (s : State) (a : Nat) : Bool := decide (((s.rd G7_TRAINED_CAP).toNat - 1024) * 1048576 ≤ a)

/-- An uncorrectable error of an access: latched and counted, event 30, and the data reaches the requester's block poisoned; in the device-service area it is
chip-fatal (R93). -/
def State.g7Uncorrected (s : State) (id a : Nat) : State :=
  let s := ((s.wr G7_ECC_ADDR (w32 (a / 16))).inc G7_ECC_UNC_CNT).raise 30 0x0E00
  if s.serviceArea a then s.chipFatal 6 0x0E00 [w32 (a / 16)] else s.poisoned id

/-- The data of an access is checked: link EDC, then inline ECC where it is enabled. -/
def State.g7Check (s : State) (id a fails : Nat) (ecc : EccOutcome) : State :=
  let s := s.edcFail (g7Channel a) fails
  if 4 ≤ fails then s.g7Uncorrected id a
  else if !s.bit G7_CONFIG G7_CONFIG_IECC then s
  else
    match ecc with
    | .ok => s
    | .corrected => (s.inc G7_ECC_CORR_CNT).raiseOnce 29 0 0x0E00
    | .uncorrected => s.g7Uncorrected id a

/-- The Course record of a stream (R105). -/
def State.courseRec (s : State) (id : Nat) : Option Nat :=
  (List.range 1024).find? (fun i => (s.rd (UMP_S_ID i)).toNat == id && s.fld (UMP_S_CFG i) UMP_S_CFG_TARGET == 2)

/-- A request of a record's stream: metered on the record and on the stream's Course record, and served; a write that EDC never passed leaves free bytes
(R93). -/
def State.g7Request (s : State) (r : Nat) (write : Bool) (a : Nat) (data : List Byte) (length waited alone course fails : Nat) (ecc : EccOutcome) :
    State :=
  let n := if write then data.length else length
  let id := (s.rd (UMP_S_ID r)).toNat
  if id = 0 || 2 ≤ s.fld (UMP_S_CFG r) UMP_S_CFG_TARGET || n = 0 || (s.rd G7_TRAINED_CAP).toNat * 1048576 < a + n then s
  else
    let s := s.serve r n waited alone
    let s := match s.courseRec id with | some q => s.meter q n course | none => s
    let s := if !write then s
      else if 4 ≤ fails then (s.memWrite a ((List.range n).map (Config.freeByte s.freeCtr))).useFree
      else s.memWrite a data
    s.g7Check id a fails ecc

/-- Row GDDR7_REQUEST: a request on a stream record. `waited` are the Course clocks that it waits where it lacks credit or is Soft, `alone` those of them in
which no earlier Soft request waits, `course` those at its Course port, `fails` how many of its attempts fail EDC. -/
def execGddr7Request (r : Fin 1024) (write : Bool) (a : BitVec 36) (data : List Byte) (length : BitVec 25) (waited alone course : Word) (fails : Fin 5)
    (ecc : EccOutcome) (s : State) : Res :=
  .next (s.settle (s.g7Request r write a.toNat data length.toNat waited.toNat alone.toNat course.toNat fails ecc))

/-- Row G7_CHANNEL_RETRAIN: the channel is retrained in its maintenance window (R91). -/
def execG7ChannelRetrain (ch : Fin 8) (s : State) : Res := .next { s with retrain := s.retrain.filter (· != ch.val) }

/-! ### Backlogs (R99 to R103) -/

/-- The stream of a refused record stops in its block (R100). -/
def State.refusedStop (s : State) (id : Nat) : State :=
  let b := id / 65536
  match bidType b with
  | 0x05 => (s.stopFld (LKP_STATUS (bidUnit b)) LKP_STATUS_STOP_REASON 6).setLkp (bidUnit b) { s.lkpOf (bidUnit b) with buf := none }
  | 0x08 => s.encStop (bidUnit b) (id % 4) 6
  | 0x09 => s.decStop (id % 4) 6
  | 0x0A => s.zrxStop (id / 2 % 8) 6
  | 0x0C => s.recRefused (bidUnit b)
  | _ => s

/-- Bytes of a Firm stream produced and not yet taken: what its queue cannot hold is backlog (R99). -/
def State.strmHold (s : State) (r total : Nat) : State :=
  let q := (s.rd (UMP_S_QUEUE r)).toNat % 65536 * 1024
  let s := s.setStrm r { s.strmOf r with queued := min q total }
  s.backlogSet r (total - q)

/-- Bytes are produced; those taken in the same clock count first (R101). A byte that would overflow the backlog refuses the stream, and so does a full queue
where BACKLOG is 0 (R100). -/
def State.produce (s : State) (r n taken : Nat) : State :=
  let x := s.strmOf r
  if s.rd (UMP_S_ID r) = 0 || s.fld (UMP_S_CFG r) UMP_S_CFG_TARGET ≠ 1 || s.fld (UMP_S_CFG r) UMP_S_CFG_CLASS ≠ 1 || x.refused || s.rd (UMP_S_STOP r) ≠ 0 then s
  else
    let limit := (s.rd (UMP_S_QUEUE r)).toNat % 65536 * 1024 + s.backlogMax r
    let total := x.backlog + x.queued - taken + n
    let s := s.strmHold r (min limit total)
    if limit < total || (s.backlogMax r = 0 && limit ≤ total) then
      let t := (s.streamRefuse r).refusedStop (s.rd (UMP_S_ID r)).toNat
      if t.rigState = 3 then t.holdCheck else t
    else s

/-- Row STREAM_DATA_PRODUCED. -/
def execStreamDataProduced (r : Fin 1024) (n taken : Word) (s : State) : Res := .next (s.settle (s.produce r n.toNat taken.toNat))

/-- Bytes are taken; those of a refused stream stay readable until it restarts (R100). -/
def State.consume (s : State) (r n : Nat) : State :=
  let x := s.strmOf r
  if s.rd (UMP_S_ID r) = 0 || s.fld (UMP_S_CFG r) UMP_S_CFG_TARGET ≠ 1 || s.fld (UMP_S_CFG r) UMP_S_CFG_CLASS ≠ 1 then s
  else s.strmHold r (x.backlog + x.queued - n)

/-- Row STREAM_DATA_CONSUMED. -/
def execStreamDataConsumed (r : Fin 1024) (n : Word) (s : State) : Res := .next (s.settle (s.consume r n.toNat))

end Sys2Proof.Machine
end

