-- ==== Sys2Proof/Machine/RigForm.lean ====
section
/-! DEFINITION. Step 1 of the commit checks: the container and the field values of every section kind (R43 to R55, R92, R141, R142, R413, R415, R418, R423,
R427, R464, R522, R523). -/

namespace Sys2Proof.Machine

/-- The first refusal of a list of tests. -/
def firstBad : List (Option Refused) → Option Refused
  | [] => none
  | some r :: _ => some r
  | none :: rs => firstBad rs

/-- RIG_REFUSAL_DETAIL for a record of a section. -/
def detailAt (section_ record : Nat) : Word := w32 (min record 0xFFFE * 65536 + section_ % 8192)
/-- RIG_REFUSAL_DETAIL for a section. -/
def detailOf (section_ : Nat) : Word := w32 (0xFFFF0000 + section_ % 8192)

/-- A test at step 1 on a section. -/
def formBad (bad : Bool) (i : Nat) (code : Nat := 0x0402) : Option Refused := if bad then some ⟨1, code, 0, detailOf i⟩ else none
/-- A test at step 1 on a record of a section. -/
def recBad (bad : Bool) (i r : Nat) (code : Nat := 0x0402) : Option Refused := if bad then some ⟨1, code, 0, detailAt i r⟩ else none

/-! ### Section table (R46 to R48) -/

/-- KINDs that a block may have (R48). -/
def kindOk (kind block : Nat) : Bool :=
  let t := bidType block
  match kind with
  | 1 | 4 => true
  | 2 => t == 0x01
  | 3 => t == 0x0F
  | 5 => t != 0x0E || block == 0x0E01
  | 6 | 8 => block == 0x0E01
  | 7 => (decide (2 ≤ t) && decide (t ≤ 0x0A)) || t == 0x0D
  | _ => false

/-- Section-table entries from an index on: each lies and is typed as R44 and R46 to R48 give, and none is there twice. -/
def tableBad (img : List Byte) : Nat → Nat → List (Nat × Nat × Nat) → List SectEntry → Option Refused
  | _, _, _, [] => none
  | i, prev, seen, e :: es =>
    let key := (e.block, e.kind, e.sflags)
    if !bidValid e.block || !kindOk e.kind e.block || (if e.kind = 2 then 7 else 0) < e.sflags || !contEntry img prev e ||
        (e.kind != 7 && seen.contains key) then some ⟨1, 0x0402, 0, detailOf i⟩
    else tableBad img (i + 1) (e.off + e.len) (key :: seen) es

/-! ### Records (R50 to R53) -/

/-- The last unit of a resource class (R51). -/
def rclassLast : Nat → Nat
  | 1 => 15 | 2 => 511 | 3 => 24575 | 4 => 39 | 5 => 15 | 6 => 12287 | 7 => 287 | 8 => 1048575 | _ => 0

/-- An ownership record in the section of a block. -/
def ownOk (b : Nat) (o : OwnRec) : Bool :=
  decide (1 ≤ o.rclass) && decide (o.rclass ≤ 8) && o.rsv == 0 && o.count != 0 && decide (o.first + o.count ≤ rclassLast o.rclass + 1) &&
    bidValid (o.owner / 65536) && (b == 0x0E01 || o.owner / 65536 == b)

/-- A reservation record in the section of a block: chip function 1 carries those of the Ethernet streams, sending 0 to 31 and receiving 0x20 to 0x23. -/
def resOk (b : Nat) (r : ResRec) : Bool :=
  decide (1 ≤ r.target) && decide (r.target ≤ 3) && decide (r.cls ≤ 2) && decide (r.dir ≤ (if r.target = 2 then 3 else 0)) && r.rsv == 0 &&
    r.stream / 65536 == b && decide (r.backlog ≤ (if r.cls = 1 then 4096 else 0)) && (b != 0x0E01 || decide (r.stream % 65536 < 0x24))

/-- How many links of a kind there are, and the types of their ends (R28, R53). -/
def linkForm : Nat → Option (Nat × Nat × Nat)
  | 1 => some (8, 0x02, 0x03) | 2 => some (8, 0x03, 0x04) | 3 => some (8, 0x04, 0x05) | 4 => some (4, 0x05, 0x06) | 5 => some (4, 0x07, 0x0B)
  | _ => none

/-- A topology record. -/
def topoOk (t : TopoRec) : Bool :=
  match linkForm t.link with
  | some (n, a, b) => decide (t.index < n) && t.rsv == 0 && bidValid t.source && bidValid t.sink && bidType t.source == a && bidType t.sink == b
  | none => false

/-! ### CONFIG (R49, R92, R141, R142, R423, R522, R523) -/

/-- TINST limits of R142; 65,536 where TINST is not used. -/
def tinstLimit : Nat → Nat
  | 1 => 8 | 2 => 16 | 3 => 4 | 4 => 4 | 5 => 16 | 6 => 64 | 7 => 288 | 8 => 8 | _ => 65536

/-- The slot whose record an offset lies in, and the place in the record. -/
def slotAt (o : Nat) : Option (Nat × Nat) := if 0x201000 ≤ o && o < 0x205000 then some ((o - 0x201000) / 0x20, (o - 0x201000) % 0x20) else none

/-- The front-end lane to which a head's span belongs after the apply (R522): FE_FIRST as the image writes it, or as last committed. -/
def State.feAfter (s : State) (ss : List Section) (h : Nat) : Nat :=
  let o := 0x0120_0000 + h * 0x1_0000
  let ws := ((sectsOfKind 1 ss).flatMap (fun x => cfgEntries x.data)).filter (fun e => e.1 == o)
  CAT_H_CFG_FE_FIRST.get (match ws.getLast? with | some e => e.2 | none => s.rd (CAT_H_CFG h))

/-- The word sets only RW and RG fields of a register that stands at the offset. -/
def rigSettable (o : Nat) (v : Word) : Bool :=
  match regRowAt o with
  | some (row, _) => (row.rw ||| row.rg) != 0 && (v &&& ~~~(row.rw ||| row.rg)) == 0
  | none => false

/-- A CONFIG entry of a block names a register inside the block's span, or a slot that the image gives the block (0x0407). -/
def State.cfgOk (s : State) (ss : List Section) (part : Bool) (b : Nat) (e : Nat × Word) : Bool :=
  let (o, v) := e
  rigSettable o v && !(part && o == G7_CONFIG.off) &&
  match slotAt o with
  | some (n, k) =>
    let own := if n < 16 then b == 0x0E02 else (allOwn ss).any (fun r => r.rclass == 2 && r.owner / 65536 == b && r.first ≤ n && n < r.first + r.count)
    let tt := STK_S_CFG_TTYPE.get v
    own && (b == 0x0E02 || k == 0 || k == 4) && !(k == 0 && (decide (10 ≤ tt) || decide (tinstLimit tt ≤ STK_S_CFG_TINST.get v)))
  | none =>
    if 0x0120_0000 ≤ o && o < 0x0128_0000 then b == 0x0300 + s.feAfter ss ((o - 0x0120_0000) / 0x1_0000) else spanBlock o == some b

/-- An entry that sets EGT_SEAT_MAP gives a map with two logical seats on one physical seat, or a value above 8 (R423). -/
def seatMapBad (e : Nat × Word) : Bool :=
  decide (0x0800_0004 ≤ e.1) && decide (e.1 < 0x0A00_0000) && (e.1 - 0x0800_0004) % 0x10_0000 == 0 &&
    (let ps := (List.range 8).map (fun l => bitsOf e.2.toNat (4 * l + 3) (4 * l))
     ps.any (fun p => decide (8 < p)) || (uniqNat ps).length != 8)

/-! ### Programs and firmware (R413, R415, R418, R427) -/

/-- Two byte ranges overlap. -/
def spansMeet (a n b m : Nat) : Bool := decide (a < b + m) && decide (b < a + n)

/-- No two ranges of a list overlap. -/
def spansApart : List (Nat × Nat) → Bool
  | [] => true
  | x :: xs => xs.all (fun y => !spansMeet x.1 x.2 y.1 y.2) && spansApart xs

/-- A segment's source lies in the payload at a multiple of 8, and its FLAGS are 0 or 1. -/
def segForm (d : List Byte) (a : Nat) : Bool :=
  let f := leAt d (a + 12) 4
  decide (f ≤ 1) && (f == 1 || (leAt d (a + 8) 4 % 8 == 0 && decide (leAt d (a + 8) 4 + leAt d (a + 4) 4 ≤ d.length)))

/-- A segment lies in local or shared memory. -/
def segPlace (g : OarSeg) : Bool :=
  decide (g.addr + g.len ≤ 0x40000) || (decide (0x100000 ≤ g.addr) && decide (g.addr + g.len ≤ 0x300000))

/-- A window is well formed, and one onto GDDR7 ends below the device-service area, which begins at `top` (R413, R415). -/
def winOk (d : List Byte) (top a : Nat) : Bool :=
  let size := leAt d (a + 2) 1
  let base := leAt d (a + 8) 8
  decide (leAt d a 1 ≤ 1) && decide (leAt d (a + 1) 1 ≤ 3) && decide (16 ≤ size) && decide (size ≤ 34) && allZero (sliceAt d (a + 3) 5) &&
    base % 2 ^ size == 0 && (leAt d a 1 == 1 || decide (base + 2 ^ size ≤ top))

/-- A port-table entry of an Eight (R418). -/
def portOk (d : List Byte) (eight a : Nat) : Bool :=
  let dir := leAt d (a + 1) 1
  let inst := leAt d (a + 2) 2
  let peer := leAt d (a + 4) 2
  decide (dir ≤ 1) && leAt d (a + 6) 2 == 0 &&
  match leAt d a 1 with
  | 0 => decide (inst < 8) && decide (peer < 8)
  | 1 => decide (inst < 32) && decide (peer < 8)
  | 2 => dir == 0 && decide (inst < 8) && peer == 0 && bidRegion (0x0100 + eight) == 0
  | 3 => dir == 0 && decide (inst < 8) && peer == 0 && bidRegion (0x0100 + eight) == 1
  | _ => false

/-- A PROGRAM payload of an Eight. -/
def progOk (d : List Byte) (eight top : Nat) : Bool :=
  let t := leAt d 6 1
  let w := leAt d 7 1
  let p := leAt d 8 1
  let n := leAt d 9 1
  let ow := 0x90 + 32 * t
  let op := ow + 16 * w
  let os := op + 8 * p
  decide (0x90 ≤ d.length) && leAt d 0 4 == 0x504F5843 && leAt d 4 2 == 1 && decide (1 ≤ t) && decide (t ≤ 8) && decide (w ≤ 8) && decide (p ≤ 8) &&
    decide (1 ≤ n) && decide (n ≤ 16) && allZero (sliceAt d 0x0A 6) && decide (os + 16 * n ≤ d.length) &&
    (List.range t).all (fun i => let a := 0x90 + 32 * i; decide (leAt d (a + 28) 1 ≤ 2) && decide (leAt d (a + 29) 1 ≤ 1) && leAt d (a + 30) 2 == 0) &&
    (List.range w).all (fun i => winOk d top (ow + 16 * i)) && (List.range p).all (fun i => portOk d eight (op + 8 * i)) &&
    (List.range n).all (fun i => segForm d (os + 16 * i)) && (oarProg d).segs.all segPlace && spansApart ((oarProg d).segs.map (fun g => (g.addr, g.len)))

/-- A FIRMWARE payload of a Coach. -/
def fwOk (d : List Byte) (c : Nat) : Bool :=
  let n := leAt d 7 1
  decide (64 ≤ d.length) && leAt d 0 4 == 0x46435843 && leAt d 4 2 == 1 && leAt d 6 1 == c && decide (1 ≤ n) && decide (n ≤ 64) &&
    fwStandby d != c && decide (fwStandby d ≤ 7) && leAt d 0x17 1 == 0 && allZero (sliceAt d 0x20 32) && decide (64 + 16 * n ≤ d.length) &&
    (List.range n).all (fun i => segForm d (64 + 16 * i))

/-- A POLICY payload (R464). -/
def policyOk (d : List Byte) : Bool :=
  d.length == 0x250 && leAt d 0 4 == 0x4F505843 && leAt d 4 2 == 1 && decide (leAt d 6 2 < 16) && decide (leAt d 8 1 < 32) && decide (leAt d 9 1 < 16) &&
    decide (leAt d 0x0A 1 ≤ 4) && decide (1 ≤ leAt d 0x0B 1) && decide (leAt d 0x0B 1 ≤ 4) && decide (leAt d 0x0C 1 ≤ 4) && allZero (sliceAt d 0x0D 3)

/-! ### Step 1 -/

/-- Payload length is a whole number of records. -/
def wholeRecs (d : List Byte) (n i : Nat) : Option Refused := formBad (d.length % n != 0) i

/-- One section at step 1. -/
def State.sectBad (s : State) (ss : List Section) (part : Bool) (top : Nat) (p : Section × Nat) : Option Refused :=
  let (x, i) := p
  match x.kind with
  | 1 => firstBad (wholeRecs x.data 8 i :: (cfgEntries x.data).zipIdx.map (fun e =>
      firstBad [recBad (!s.cfgOk ss part x.block e.1) i e.2 0x0407, recBad (seatMapBad e.1) i e.2]))
  | 2 => formBad (!progOk x.data (bidUnit x.block) top) i
  | 3 => formBad (!fwOk x.data (bidUnit x.block)) i
  | 4 => firstBad (wholeRecs x.data 16 i :: (ownRecs x.data).zipIdx.map (fun e => recBad (!ownOk x.block e.1) i e.2))
  | 5 => firstBad (wholeRecs x.data 16 i :: (resRecs x.data).zipIdx.map (fun e => recBad (!resOk x.block e.1) i e.2))
  | 6 => formBad (!policyOk x.data) i
  | 8 => firstBad (wholeRecs x.data 8 i :: (topoRecs x.data).zipIdx.map (fun e => recBad (!topoOk e.1) i e.2))
  | _ => none

/-- Shared-memory segments of the programs of one Eight do not overlap (R415). -/
def sharedOk (ss : List Section) (b : Nat) : Bool :=
  spansApart ((((sectsOfKind 2 ss).filter (·.block == b)).flatMap (fun x => (oarProg x.data).segs)).filterMap (fun g =>
    if 0x100000 ≤ g.addr then some (g.addr, g.len) else none))

/-- Every Iso or Firm task of a program names a seat-time record that stands after the apply (R415). -/
def tasksOk (after : List Section) (d : List Byte) : Bool :=
  (oarProg d).tasks.all (fun t => t.cls == 2 || (allRes after).any (fun r => r.target == 3 && r.stream == t.stream))

/-- The committed sections after the apply of an image (R59, R63). -/
def State.sectsAfter (s : State) (img : List Byte) : List Section :=
  if (imgHeader img).isPartial then s.rig.sections.filter (fun x => !(imgListed img).contains x.block) ++ imgSections img else imgSections img

/-- Whether inline ECC is on after the apply of an image (R88, R92): only a full image sets it. -/
def State.ieccAfter (s : State) (img : List Byte) : Bool :=
  if (imgHeader img).isPartial then s.bit G7_CONFIG G7_CONFIG_IECC
  else (((sectsOfKind 1 (imgSections img)).flatMap (fun x => cfgEntries x.data)).filter (fun e => e.1 == G7_CONFIG.off)).any (fun e => bitOf e.2 4)

/-- Trained capacity in MiB after the apply; 0 where GDDR7 is not trained. -/
def State.capAfter (s : State) (img : List Byte) : Nat := if s.fld G7_STATUS G7_STATUS_STATE = 2 then s.g7Cap (s.ieccAfter img) else 0

/-- Step 1 of R57. -/
def State.formCheck (s : State) (img : List Byte) : Option Refused :=
  let h := imgHeader img
  if !contHeader img 0x47525843 268435456 || (!h.isPartial && !allZero h.baseId) then some ⟨1, 0x0402, 0, 0xFFFF1FFF⟩
  else
    match tableBad img 0 (256 + 64 * h.count) [] (sectTable img) with
    | some r => some r
    | none =>
      if !contTail img then some ⟨1, 0x0402, 0, 0xFFFF1FFF⟩
      else
        let ss := imgSections img
        let top := (s.capAfter img - 1024) * 1048576
        let after := s.sectsAfter img
        firstBad (ss.zipIdx.map (s.sectBad ss h.isPartial top) ++
          ss.zipIdx.map (fun p => formBad (p.1.kind == 2 && (!sharedOk ss p.1.block || !tasksOk after p.1.data)) p.2))

end Sys2Proof.Machine
end

