-- ==== Sys2Proof/Machine/RigCheck.lean ====
section
/-! DEFINITION. Steps 2 to 7 of the commit checks (R57 to R59, R62, R72 to R84, R316, R322, R343, R416, R423, R427, R464, R470). -/

namespace Sys2Proof.Machine

/-! ### The machine as it stands after the apply -/

/-- The registers and sections as an apply of the image would leave them. -/
def State.afterApply (s : State) (img : List Byte) : State :=
  let part := (imgHeader img).isPartial
  let ls := imgListed img
  let ss := s.sectsAfter img
  let t := if part then s else { s.fullClear ls with boot := { s.boot with paddle := .off } }
  let t := (t.slotsMove s.rig.sections ss (part || ls.contains 0x0E02)).setRig { t.rig with sections := ss }
  ls.foldl (fun t b => t.cfgBlock (imgSections img) b) t

/-- Index of the first section of a block in the image. -/
def sectIndex (img : List Byte) (b : Nat) : Option Nat := ((sectTable img).zipIdx.find? (fun e => e.1.block == b)).map (·.2)

/-- DETAIL that names the first section of a block, where the image has one. -/
def detailBlk (img : List Byte) (b : Nat) : Word := match sectIndex img b with | some i => detailOf i | none => 0xFFFF1FFF

/-! ### Step 2 -/

/-- DETAIL of a hash refusal: the section that fails, where the table holds (R458). -/
def hashDetail (img : List Byte) : Word :=
  if sha384 (sliceAt img 256 (64 * (imgHeader img).count)) != (imgHeader img).tableHash then 0xFFFF1FFF
  else match (sectTable img).zipIdx.find? (fun e => sha384 (sliceAt img e.1.off e.1.len) != e.1.hash) with
    | some e => detailOf e.2
    | none => 0xFFFF1FFF

/-- Step 2 of R57, given the Vault's answer and the machine after the apply: the answer, then LOCK, ENCRYPT_REQUIRED and PROV_REQUIRED (R464), then Hold for a
listed channel that would start encrypted clips (R59). -/
def State.vaultCheck (s v : State) (img : List Byte) (verdict : Nat) : Option Refused :=
  let fl := s.vault.pflags
  let recs (p : Nat → Bool) : Option Nat := (List.range 8).find? (fun c => v.bit (REC_C_CFG c) REC_C_CFG_EN && p c)
  let at_ (c : Nat) : Word := detailBlk img (0x0C00 + c)
  if verdict = 0x0304 then some ⟨2, verdict, 0, hashDetail img⟩
  else if verdict ≠ 0 then some ⟨2, verdict, 0, 0xFFFF1FFF⟩
  else if fl % 2 = 1 && (imgHeader img).isPartial && !(sectsOfKind 6 (imgSections img)).isEmpty then
    some ⟨2, 0x0306, 0, match (sectTable img).zipIdx.find? (fun e => e.1.kind == 6) with | some e => detailOf e.2 | none => 0xFFFF1FFF⟩
  else
    match (if fl / 2 % 2 = 1 then recs (fun c => !v.bit (REC_C_CFG c) REC_C_CFG_ENCRYPT) else none) with
    | some c => some ⟨2, 0x0306, 0, at_ c⟩
    | none =>
      match (if fl / 4 % 2 = 1 then recs (fun c => !v.bit (REC_C_CFG c) REC_C_CFG_PROV) else none) with
      | some c => some ⟨2, 0x0306, 0, at_ c⟩
      | none =>
        match (if s.vault.hold then recs (fun c => v.bit (REC_C_CFG c) REC_C_CFG_ENCRYPT && (imgListed img).contains (0x0C00 + c)) else none) with
        | some c => some ⟨2, 0x0305, 0, at_ c⟩
        | none => none

/-! ### Step 3 -/

/-- Part number and stepping of the CX96 (R45). -/
def chipPart : Nat := 0x0C96
def chipStep : Nat := 0xB0

/-- Step 3 of R57 (R45, R87, R88). -/
def State.partCheck (s : State) (img : List Byte) : Option Refused :=
  let h := imgHeader img
  if h.part ≠ chipPart || chipStep < h.minStep then some ⟨3, 0x0403, 0, 0xFFFF1FFF⟩
  else if h.isPartial && h.baseId != s.rigId then some ⟨3, 0x0404, 0, 0xFFFF1FFF⟩
  else if s.fld G7_STATUS G7_STATUS_STATE ≠ 2 || (s.rd G7_TRAINED_BW).toNat < h.minBw * 1000 || s.capAfter img / 1024 < h.minGib then
    some ⟨3, 0x0206, 0, 0xFFFF1FFF⟩
  else none

/-! ### Step 4: Coaches (R68, R83, R427) -/

/-- A Coach runs after the apply. -/
def State.coachUpAfter (s : State) (img : List Byte) (c : Nat) : Bool :=
  let k := s.blkOf (0x0F00 + c)
  !(imgHeader img).isPartial || (imgListed img).contains (0x0F00 + c) || k.phase == .running || k.phase == .held

/-- Two firmware versions lie in each other's range. -/
def fwPair (a b : List Byte) : Bool :=
  decide (fwMin a ≤ fwVersion b) && decide (fwVersion b ≤ fwMax a) && decide (fwMin b ≤ fwVersion a) && decide (fwVersion a ≤ fwMax b)

/-- The Coach firmware tests. -/
def State.coachCheck (s : State) (img : List Byte) : Option Refused :=
  let part := (imgHeader img).isPartial
  let fws := (sectTable img).zipIdx.filter (fun e => e.1.kind == 3)
  let after := s.sectsAfter img
  let cs := (List.range 8).filter (fun c => s.coachUpAfter img c && (fwOf after c).isSome)
  let pairOk (a b : Nat) : Bool := match fwOf after a, fwOf after b with | some x, some y => fwPair x y | _, _ => true
  if (part && 1 < fws.length) || (!part && fws.length ≠ 8) then some ⟨4, 0x0405, 0, 0xFFFF1FFF⟩
  else
    match fws.find? (fun e => !s.coachUpAfter img (fwStandby (sliceAt img e.1.off e.1.len))) with
    | some e => some ⟨4, 0x0402, 0, detailOf e.2⟩
    | none => if cs.all (fun a => cs.all (fun b => a == b || pairOk a b)) then none else some ⟨4, 0x0406, 0, 0xFFFF1FFF⟩

/-! ### Step 4: throughput (R81) -/

/-- Photosites or pixels a second of a head, in thousandths. -/
def headPx (v : State) (h : Nat) : Nat := v.headRate h * (v.geom h).w * (v.geom h).h

/-- Sensor lanes of the head that a lead port serves. -/
def lanesOk (v : State) (p : Nat) : Bool :=
  let c := v.rd (SPT_P_CFG p)
  let h := SPT_P_CFG_HEAD.get c
  let g := v.geom h
  let lanes := (v.fld (SPT_H_CFG p) SPT_H_CFG_PORTS + 1) * SPT_P_CFG_LANES.get c
  !(v.bit (SPT_P_CFG p) SPT_P_CFG_EN && v.bit (SPT_P_CFG p) SPT_P_CFG_LEAD) ||
    decide (headPx v h * g.r * g.b * 66 ≤ 97 * lanes * SPT_P_CFG_RATE.get c * 125000 * 64 * 100)

/-- Front-end lanes of a head. -/
def feOk (v : State) (h : Nat) : Bool :=
  !v.bit (CAT_H_CFG h) CAT_H_CFG_EN || decide (headPx v h * (v.geom h).r ≤ 10 ^ 13 * v.fld (CAT_H_CFG h) CAT_H_CFG_FE_COUNT)

/-- No front-end lane serves two heads. -/
def feApart (v : State) : Bool :=
  spansApart ((List.range 8).filterMap (fun h =>
    if v.bit (CAT_H_CFG h) CAT_H_CFG_EN then some (v.fld (CAT_H_CFG h) CAT_H_CFG_FE_FIRST, v.fld (CAT_H_CFG h) CAT_H_CFG_FE_COUNT) else none))

/-- Heads that a colour pipe serves. -/
def pipeServes (v : State) (p : Nat) : List Nat := (List.range 8).filter (fun h => v.bit (DRV_P_CFG p) DRV_P_CFG_EN && bitOf (v.rd (DRV_P_CFG p)) (8 + h))

/-- A colour pipe's pixel rate within the limit of its mode; a head on both pipes counts half on each, and both pipes then run in one mode. -/
def pipeOk (v : State) (p : Nat) : Bool :=
  let q := 1 - p
  let both (h : Nat) : Bool := (pipeServes v q).contains h
  let load := ((pipeServes v p).map (fun h => if both h then headPx v h else 2 * headPx v h)).sum
  let limit := if v.bit (DRV_P_CFG p) DRV_P_CFG_MODE then 10 ^ 13 else 2 * 10 ^ 13
  decide (load ≤ 2 * limit) && (!(pipeServes v p).any both || v.bit (DRV_P_CFG p) DRV_P_CFG_MODE == v.bit (DRV_P_CFG q) DRV_P_CFG_MODE)

/-- A look path's pixel rate. -/
def lookOk (v : State) (n : Nat) : Bool := !v.bit (LKP_CFG n) LKP_CFG_EN || decide (headPx v (v.fld (LKP_CFG n) LKP_CFG_HEAD) ≤ 2 * 10 ^ 13)

/-- Bytes a second of a picture source, as a budget (R76): a ZRX frame by mode, or an encoder's bit rate. In thousandths. -/
def sourceRate (v : State) (typ i : Nat) : Nat :=
  if typ = 0 then
    let fz := match v.zrxMode i with
      | 0 => v.zrxFu i
      | 3 => (v.rd (ZRX_S_TARGET i)).toNat
      | _ => ceilDiv (v.zrxFu i * 100) (max 1 (v.fld (ZRX_S_CFG i) ZRX_S_CFG_DECL_RATIO))
    v.headRate (v.zrxHead i) * fz
  else (v.encShadow (i / 4) (i % 4)).bitrate.toNat * 1000 * 1000 / 8

/-- Essence rate of a recording channel (R353): picture and sound, in thousandths of a byte a second. -/
def essenceRate (v : State) (c : Nat) : Nat :=
  sourceRate v (v.fld (REC_C_CFG c) REC_C_CFG_SRC_TYPE) (v.fld (REC_C_CFG c) REC_C_CFG_SRC_INST) +
    ((v.recPorts c).map (fun p => 3 * v.audSlots p * v.audFs p * 1000)).sum

/-- A media set within 14.0 GB/s for each drive, and its root ports in no other set (R81, R359). -/
def setOk (v : State) (m : Nat) : Bool :=
  let c := v.rd (REC_M_CFG m)
  let drives := bitsOf c.toNat 3 0
  let on := (List.range 8).filter (fun n => v.bit (REC_C_CFG n) REC_C_CFG_EN && v.recSet n == m)
  !bitOf c 4 || (decide (((on.map (essenceRate v)).sum) ≤ 14 * 10 ^ 12 * (v.setPorts m).length) &&
    (List.range 4).all (fun k => k == m || !bitOf (v.rd (REC_M_CFG k)) 4 || bitsOf (v.rd (REC_M_CFG k)).toNat 3 0 &&& drives == 0))

/-- An audio port within 98.304 MHz. -/
def audRateOk (v : State) (p : Nat) : Bool := !v.bit (AUD_P_CFG p) AUD_P_CFG_EN || decide (v.audSlots p * 32 * v.audFs p ≤ 98304000)

/-! ### Step 4: rings that are backlog buffers (R322, R343) -/

/-- BACKLOG of the GDDR7 record of a stream after the apply. -/
def backlogOf (v : State) (id : Nat) : Nat := (((allRes v.rig.sections).find? (fun r => r.target == 1 && r.stream == id)).map (·.backlog)).getD 0

/-- The rings of a core's sessions are their backlog buffers. -/
def encRingsOk (v : State) (c : Nat) : Bool :=
  !bitOf (v.rd (ENC_C_CFG c)) 4 || (v.encSessions c).all (fun e => backlogOf v (encStream c e) == (v.rd (ENC_S_BS_SIZE c e)).toNat % 8192)

/-- The rings of the ZRX sessions are their backlog buffers. -/
def zrxRingsOk (v : State) : Bool :=
  (List.range 8).all (fun z => !v.bit (ZRX_S_CFG z) ZRX_S_CFG_EN || backlogOf v (zrxStream z) == (v.rd (ZRX_S_OUT_SIZE z)).toNat % 8192)

/-! ### Step 4: each block -/

/-- A condition that is refused with 0x0401. -/
def mustHold (ok : Bool) : Option Nat := if ok then none else some 0x0401

/-- The first code of a list of tests. -/
def firstCode : List (Option Nat) → Option Nat
  | [] => none
  | some k :: _ => some k
  | none :: rs => firstCode rs

/-- A learner is rigged for a head on a Catch seat (R202, R418). -/
def learnerOf (v : State) (h : Nat) : Bool := (v.tapPort 2 h).isSome

/-- The tests of one block on the machine after the apply. -/
def blkCheck (v : State) (b : Nat) : Option Nat :=
  let u := bidUnit b
  match bidType b with
  | 0x02 => firstCode [chkPorts v u, mustHold (lanesOk v u)]
  | 0x03 => firstCode (((List.range 8).filter (fun h => v.bit (CAT_H_CFG h) CAT_H_CFG_EN && v.fld (CAT_H_CFG h) CAT_H_CFG_FE_FIRST == u)).flatMap
      (fun h => [chkCat v h (learnerOf v h), mustHold (feOk v h && feApart v)]))
  | 0x04 => firstCode [chkDrv v u, mustHold (pipeOk v u)]
  | 0x05 => firstCode [chkLkp v u, mustHold (lookOk v u)]
  | 0x06 => chkCmp v u
  | 0x07 => chkScn v u
  | 0x08 => firstCode [chkEnc v u, mustHold (encRingsOk v u)]
  | 0x09 => chkDec v
  | 0x0A => firstCode [chkRaw v, mustHold (zrxRingsOk v)]
  | 0x0B => chkQuad v u
  | 0x0C => mustHold (!v.bit (REC_C_CFG u) REC_C_CFG_EN || setOk v (v.recSet u))
  | 0x0D => firstCode [chkAudPort v u, mustHold (audRateOk v u)]
  | 0x0E => if u = 1 then firstCode [chkEth v, mustHold ((List.range 4).all (setOk v))] else none
  | _ => none

/-! ### Step 4: combinations (R82, R83) -/

/-- Live layer 0 of a compositor: the source head. -/
def liveOf (v : State) (n : Nat) : Option Nat :=
  if v.bit (CMP_CFG n) CMP_CFG_EN && (v.layerShadow n 0).on && (v.layerShadow n 0).src == 0 then (v.livePath n).map v.lkpHead else none

/-- R82: HDR merge with native raw output, spectral colour with a live layer (C1), and live layer 0 with eDP self-refresh. -/
def pairsBad (v : State) : List (Nat × Bool) :=
  (List.range 8).map (fun h => (0x0300 + v.fld (CAT_H_CFG h) CAT_H_CFG_FE_FIRST,
    v.bit (CAT_H_CFG h) CAT_H_CFG_EN && v.bit (CAT_H_CFG h) CAT_H_CFG_RAW_WR && !v.bit (CAT_H_CFG h) CAT_H_CFG_OUTFMT && decide (2 ≤ (v.geom h).r))) ++
  (List.range 4).map (fun n => (0x0600 + n, match liveOf v n with
    | some h => (List.range 2).any (fun p => (pipeServes v p).contains h && v.bit (DRV_P_CFG p) DRV_P_CFG_MODE && !pipeOk v p)
    | none => false)) ++
  (List.range 4).map (fun n => (0x0700 + n, (liveOf v n).isSome && bitOf (v.rd (SCN_CFG n)) 16 && v.bit (SCN_PSR n) SCN_PSR_EN))

/-- A slot of a kind and unit on a timebase. -/
def slotOn (v : State) (p : Nat → Word → Bool) : Bool := (List.range 512).any (fun n => p n (v.rd (STK_S_CFG n)))

/-- A live layer's head is followed: by TB2 of the source head, or by the GENLOCK timebase that triggers it too. -/
def liveLocked (v : State) (n h : Nat) : Bool :=
  let out (c : Word) : Bool := STK_S_CFG_TTYPE.get c == 3 && STK_S_CFG_TINST.get c == n
  slotOn v (fun _ c => out c && STK_S_CFG_TB.get c == 2 && STK_S_CFG_HEAD.get c == h) ||
    (slotOn v (fun _ c => out c && STK_S_CFG_TB.get c == 1) &&
      slotOn v (fun _ c => STK_S_CFG_TTYPE.get c == 1 && STK_S_CFG_TINST.get c == h && STK_S_CFG_TB.get c == 1))

/-- Members of a stakeboat group in use. -/
def sgMembers (v : State) (g : Nat) : List Nat :=
  if bitOf (v.rd (SPT_SG_CFG g)) 16 then (List.range 8).filter (fun h => bitOf (v.rd (SPT_SG_CFG g)) h) else []

/-- All numbers of a list are one. -/
def allSame : List Nat → Bool
  | [] => true
  | x :: xs => xs.all (· == x)

/-- A stakeboat group: 1 to 8 heads in use, with one frame rate, one scheduling timebase, and in no other group. -/
def groupOk (v : State) (g : Nat) : Bool :=
  let ms := sgMembers v g
  let tbs := (List.range 512).filterMap (fun n =>
    let c := v.rd (STK_S_CFG n)
    if STK_S_CFG_TTYPE.get c == 1 && ms.contains (STK_S_CFG_TINST.get c) then some (STK_S_CFG_TB.get c) else none)
  !bitOf (v.rd (SPT_SG_CFG g)) 16 || (!ms.isEmpty && ms.all (fun h => (v.leadPort h).isSome) && allSame (ms.map v.headRate) && allSame tbs &&
    (List.range 4).all (fun k => k == g || (sgMembers v k).all (fun h => !ms.contains h)))

/-- R83 from top to bottom: what R82 and the blocks' own tests do not hold yet. -/
def combosBad (v : State) : List (Nat × Bool) :=
  (List.range 4).map (fun n => (0x0700 + n, match liveOf v n with
    | some h => bitOf (v.rd (SCN_CFG n)) 16 && SCN_CFG_PROTO.get (v.rd (SCN_CFG n)) != 0 && !liveLocked v n h
    | none => false)) ++
  (List.range 4).map (fun g => (0x0200, !groupOk v g)) ++
  (List.range 4).map (fun n => (0x0700 + n, v.bit (SCN_PSR n) SCN_PSR_EN && bitOf (v.rd (SCN_CFG n)) 16 && SCN_CFG_PROTO.get (v.rd (SCN_CFG n)) != 5)) ++
  [(0x0E01, (chkAudGroups v).isSome)]

/-- Step 4 of R57 in the order of R83. Blocks outside the image stand after the listed ones. -/
def State.modeCheck (s v : State) (img : List Byte) : Option Refused :=
  let ls := imgListed img
  let rest := (uniqNat (v.rig.sections.map (·.block))).filter (fun b => !ls.contains b)
  let one (b : Nat) : Option Refused := (blkCheck v b).map (fun k => ⟨4, k, 0, detailBlk img b⟩)
  let pair (x : Nat × Bool) : Option Refused := if x.2 then some ⟨4, 0x0401, 0, detailBlk img x.1⟩ else none
  firstBad (s.coachCheck img :: ((ls ++ rest).map one ++ (pairsBad v).map pair ++ (combosBad v).map pair))

/-! ### Step 5: ownership (R59, R62, R84, R142, R423) -/

/-- The ownership records of an image with their places. -/
def imgOwns (img : List Byte) : List (OwnRec × Nat × Nat) :=
  ((imgSections img).zipIdx.filter (·.1.kind == 4)).flatMap (fun p => (ownRecs p.1.data).zipIdx.map (fun r => (r.1, p.2, r.2)))

/-- Two records claim a unit in common. -/
def ownMeets (a b : OwnRec) : Bool := a.rclass == b.rclass && spansMeet a.first a.count b.first b.count

/-- Two records of the image claim the same unit (0x0101). -/
def ownOverlap : List OwnRec → List (OwnRec × Nat × Nat) → Option Refused
  | _, [] => none
  | seen, (o, i, r) :: rest => if seen.any (ownMeets o) then some ⟨5, 0x0101, 0, detailAt i r⟩ else ownOverlap (o :: seen) rest

/-- What blocks outside the image hold: slots 0 to 15, and the records that stay (R72, R84). -/
def State.unitHolders (s : State) (img : List Byte) : List OwnRec :=
  let ls := imgListed img
  let kept := if (imgHeader img).isPartial then allOwn (s.rig.sections.filter (fun x => !ls.contains x.block)) else []
  ⟨2, 0, 0x0E020000, 0, 16⟩ :: kept

/-- A claim on what a block outside the image holds (0x0105). -/
def State.ownHeld (s : State) (img : List Byte) : Option Refused :=
  let hs := s.unitHolders img
  firstBad ((imgOwns img).map (fun (o, i, r) =>
    match hs.find? (fun x => ownMeets o x && x.owner / 65536 != o.owner / 65536) with
    | some x => some ⟨5, 0x0105, w32 x.owner, detailAt i r⟩
    | none => none))

/-- A GPIO pulse on a ball whose group an audio port, LTC or a head trigger owns (0x0105, R142). -/
def gpioHeld (v : State) : Option Refused :=
  let taken (g : Nat) : Option Nat :=
    match ownerOf v.rig.sections 1 g with
    | some w =>
      let t := w / 16777216
      if t = 0x0D || (w / 65536 = 0x0E02 && (g = 6 || g = 7)) || (8 ≤ g && (t = 0x02 || t = 0x03)) then some w else none
    | none => none
  firstBad ((List.range 512).map (fun n =>
    let c := v.rd (STK_S_CFG n)
    if STK_S_CFG_TTYPE.get c = 6 then (taken (STK_S_CFG_TINST.get c / 4)).map (fun w => ⟨5, 0x0105, w32 w, 0xFFFF1FFF⟩) else none))

/-- A block outside a partial image runs. -/
def State.outside (s : State) (img : List Byte) (b : Nat) : Bool :=
  let k := s.blkOf b
  !(imgListed img).contains b && !bidChip b && (k.phase == .running || k.phase == .held)

/-- Direct links whose assignment an apply changes: link, index, and their ends before and after. -/
def State.linkChanges (s : State) (img : List Byte) : List (Option TopoRec × Option TopoRec) :=
  let old := allTopo s.rig.sections
  let new := allTopo (s.sectsAfter img)
  let other (l : List TopoRec) (t : TopoRec) : Option TopoRec := l.find? (fun x => x.link == t.link && x.index == t.index)
  (new.filter (fun t => other old t != some t)).map (fun t => (other old t, some t)) ++
    ((old.filter (fun t => (other new t).isNone)).map (fun t => (some t, none)))

/-- The ends of a link. -/
def linkEnds : Option TopoRec → List Nat
  | some t => [t.source, t.sink]
  | none => []

/-- A link given to other ends while a running block outside the image holds it (0x0109). -/
def State.linkHeld (s : State) (img : List Byte) : Option Refused :=
  firstBad ((s.linkChanges img).map (fun c =>
    match c with
    | (some o, some _) => ((linkEnds (some o)).find? (s.outside img)).map (fun b => ⟨5, 0x0109, w32 (b * 65536), detailBlk img 0x0E01⟩)
    | _ => none))

/-- What a running block loses or gains by the apply: its ownership, its reservations or its links (R62). -/
def State.holdingsChange (s : State) (img : List Byte) (b : Nat) : Bool :=
  let after := s.sectsAfter img
  let owns (ss : List Section) : List OwnRec := (allOwn ss).filter (fun o => o.owner / 65536 == b)
  let ress (ss : List Section) : List ResRec := (allRes ss).filter (fun r => r.stream / 65536 == b)
  owns s.rig.sections != owns after || ress s.rig.sections != ress after ||
    (s.linkChanges img).any (fun c => (linkEnds c.1 ++ linkEnds c.2).contains b)

/-- RG fields of registers. -/
def rgVals (v : State) (rs : List Reg) : List Word :=
  rs.map (fun r => match regRowAt r.off with | some (row, _) => v.rd r &&& row.rg | none => 0)

/-- The fields that describe a head's data: geometry, depth, CFA, readouts and rate. -/
def headFmt (v : State) (h : Nat) : List Word := rgVals v [SPT_H_GEOM (v.hp h), SPT_H_FMT (v.hp h), SPT_H_RATE (v.hp h)]

/-- The format of what a block gives another (R62). -/
def feedFmt (v : State) (l r : Nat) : List Word :=
  let u := bidUnit l
  let size (h : Nat) : List Word := let p := v.drvSize h; [w32 p.1, w32 p.2, w32 (v.headRate h)]
  match bidType l, bidType r with
  | 0x02, _ => (v.portHeads u).flatMap (headFmt v)
  | 0x03, 0x0A => (v.feHeads l).flatMap (fun h => headFmt v h ++ rgVals v [CAT_H_CFG h, CAT_H_RAW_ADDR_LO h, CAT_H_RAW_ADDR_HI h, CAT_H_RAW_BUFS h])
  | 0x03, _ => (v.feHeads l).flatMap (headFmt v)
  | 0x04, _ => (v.pipeHeads u).flatMap size
  | 0x05, 0x06 => size (v.lkpHead u) ++ rgVals v [LKP_ENC u]
  | 0x05, _ => size (v.lkpHead u) ++ rgVals v [LKP_ENC u, LKP_WR_CFG u, LKP_WR_ADDR_LO u, LKP_WR_ADDR_HI u]
  | 0x06, 0x07 => rgVals v [CMP_OUT_SIZE u]
  | 0x06, _ => rgVals v [CMP_OUT_SIZE u, CMP_WB_CFG u, CMP_WB_ADDR_LO u, CMP_WB_ADDR_HI u]
  | 0x08, _ => (List.range 4).flatMap (fun e => rgVals v [ENC_S_CODEC u e, ENC_S_CROP_WH u e, ENC_S_SCALE u e, ENC_S_TIME_SCALE u e, ENC_S_NUM_UNITS u e,
      ENC_S_BS_ADDR_LO u e, ENC_S_BS_ADDR_HI u e, ENC_S_BS_SIZE u e])
  | 0x09, _ => (List.range 4).flatMap (fun d => rgVals v [DEC_S_CFG d, DEC_S_MAX d, DEC_S_MAX_RATE d, DEC_S_OUT_ADDR_LO d, DEC_S_OUT_ADDR_HI d])
  | 0x0A, _ => (List.range 8).flatMap (fun z => rgVals v [ZRX_S_CFG z, ZRX_S_OUT_ADDR_LO z, ZRX_S_OUT_ADDR_HI z, ZRX_S_OUT_SIZE z])
  | _, _ => []

/-- Running blocks outside the image that take data whose format a listed block changes (R62). -/
def State.formatHit (s v : State) (img : List Byte) : List Nat :=
  (imgListed img).flatMap (fun l => ((s.downstream l).map keyBlock).filter (fun r => s.outside img r && feedFmt s l r != feedFmt v l r))

/-- Running blocks outside the image that use what a change of chip function 1's spans changes (R523). -/
def State.spansHit (s v : State) (img : List Byte) : List Nat :=
  let moved (rs : List Reg) : Bool := rgVals s rs != rgVals v rs
  if !(imgListed img).contains 0x0E01 then []
  else
    let recs := (List.range 8).filter (fun c => s.bit (REC_C_CFG c) REC_C_CFG_EN &&
      moved (REC_M_CFG (s.recSet c) :: (s.setPorts (s.recSet c)).map NVR_CFG))
    let auds := (List.range 16).filter (fun p => s.bit (AUD_P_CFG p) AUD_P_CFG_EN &&
      ((s.bit (AUD_P_CFG p) AUD_P_CFG_MASTER && moved [AUD_REF_CFG]) ||
        (s.bit (AUD_P_CFG p) AUD_P_CFG_GROUPED && moved [AUD_G_CFG (s.fld (AUD_P_CFG p) AUD_P_CFG_GROUP)])))
    let sends := (List.range 32).filter (fun n => bitOf (s.rd (ETH_S_CFG n)) 0 && moved [ETH_S_CFG n, ETH_S_FMT n])
    let encs := (sends.filter (fun n => bitsOf (s.rd (ETH_S_CFG n)).toNat 15 12 == 3)).map (fun n => 0x0800 + s.sendInst n / 4)
    let decs := sends.any (fun n => bitsOf (s.rd (ETH_S_CFG n)).toNat 15 12 == 2) ||
      (List.range 4).any (fun r => bitOf (s.rd (ETH_R_CFG r)) 0 && moved [ETH_R_CFG r])
    (recs.map (0x0C00 + ·) ++ auds.map (0x0D00 + ·) ++ encs ++ (if decs then [0x0900] else [])).filter (s.outside img)

/-- A partial image would change a running block outside it (0x0106). -/
def State.disturbs (s v : State) (img : List Byte) : Option Refused :=
  let hit := allBlocks.filter (fun b => s.outside img b && s.holdingsChange img b) ++ s.formatHit v img ++ s.spansHit v img
  match hit.min? with
  | some b => some ⟨5, 0x0106, w32 (b * 65536), 0xFFFF1FFF⟩
  | none => none

/-- A full image while a region is neither DOWN nor PADDLE, or Boathouse is not DOWN (R59): the lowest block of such a region, of those committed where there
are any. -/
def State.fullHeld (s : State) : Option Refused :=
  let open_ (r : Nat) : Bool := if r = 3 then s.region r != 0 else s.region r != 0 && s.region r != 4
  let bad := allBlocks.filter (fun b => open_ (bidRegion b))
  let mine := bad.filter s.committed
  match (if mine.isEmpty then bad else mine).min? with
  | some b => some ⟨5, 0x0106, w32 (b * 65536), 0xFFFF1FFF⟩
  | none => none

/-- A physical seat is marked failed (R424). -/
def State.seatBad (s : State) (e p : Nat) : Bool := bitOf (s.rd (EGT_SEAT_STATE e)) p

/-- The image names a failed seat: in an ownership record, in a seat map, or by a program after the apply (0x0103). -/
def State.seatsBad (s v : State) (img : List Byte) : Option Refused :=
  let owns := (imgOwns img).map (fun (o, i, r) =>
    if o.rclass = 7 && (List.range (min o.count 288)).any (fun k => s.seatBad ((o.first + k) / 9) ((o.first + k) % 9)) then
      some ⟨5, 0x0103, 0, detailAt i r⟩ else none)
  let maps := ((imgSections img).zipIdx.filter (·.1.kind == 1)).flatMap (fun p => (cfgEntries p.1.data).zipIdx.map (fun c =>
    let o := c.1.1
    if 0x0800_0004 ≤ o && o < 0x0A00_0000 && (o - 0x0800_0004) % 0x10_0000 = 0 &&
        (List.range 8).any (fun l => s.seatBad ((o - 0x0800_0004) / 0x10_0000) (bitsOf c.1.2.toNat (4 * l + 3) (4 * l))) then
      some ⟨5, 0x0103, 0, detailAt p.2 c.2⟩ else none))
  let progs := ((imgSections img).zipIdx.filter (·.1.kind == 2)).map (fun p =>
    if s.seatBad (bidUnit p.1.block) (v.physSeat (bidUnit p.1.block) (p.1.sflags % 16)) then some ⟨5, 0x0103, 0, detailOf p.2⟩ else none)
  firstBad (owns ++ maps ++ progs)

/-- Units of a class that a configuration owns. -/
def ownedUnits (ss : List Section) (rclass : Nat) : Nat := (((allOwn ss).filter (·.rclass == rclass)).map (·.count)).sum

/-- Step 5 of R57: overlaps inside the image, claims on what blocks outside it hold, failed seats, and defect contexts. -/
def State.ownCheck (s v : State) (img : List Byte) : Option Refused :=
  let part := (imgHeader img).isPartial
  firstBad [(if part then none else s.fullHeld), ownOverlap [] (imgOwns img), s.ownHeld img, gpioHeld v,
    (if part then s.linkHeld img else none), (if part then s.disturbs v img else none), s.seatsBad v img,
    (if 1048576 < ownedUnits v.rig.sections 8 then some ⟨5, 0x0108, 0, 0xFFFF1FFF⟩ else none)]

/-! ### Step 6: capacity and admission (R72 to R75) -/

/-- A refusal at step 6. -/
def capBad (bad : Bool) (code : Nat) : Option Refused := if bad then some ⟨6, code, 0, 0xFFFF1FFF⟩ else none

/-- The head of an enabled front end needs more merge memory than its first lane owns (R206). -/
def mergeBad (v : State) (h : Nat) : Bool :=
  v.bit (CAT_H_CFG h) CAT_H_CFG_EN &&
    decide (4096 * (rangeOf v.rig.sections 6 (0x0300 + v.fld (CAT_H_CFG h) CAT_H_CFG_FE_FIRST)).2 < mergeNeed v h)

/-- The Course port that a stream loads (R52). -/
def coursePort (id : Nat) : Nat := let r := bidRegion (id / 65536); if r = 5 then 4 else r

/-- Course load of a port in a direction, 0 read and 1 write. -/
def courseLoad (ss : List Section) (port dir : Nat) : Nat :=
  (((allRes ss).filter (fun r => r.target == 2 && coursePort r.stream == port && (r.dir % 4 == 0 || bitsOf r.dir dir dir == 1))).map (·.rate)).sum

/-- Seats on which a task names a stream, as Eight × 9 + physical seat; a stream that no task names stands alone. -/
def State.seatOf (v : State) (id : Nat) : Option Nat :=
  ((List.range 256).find? (fun i => match v.prog (i / 8) (i % 8) with | some g => g.tasks.any (fun t => t.stream == id && t.cls != 2) | none => false)).map
    (fun i => 9 * (i / 8) + v.physSeat (i / 8) (i % 8))

/-- A seat, or a stream alone, is reserved above 1,000 thousandths (R416). -/
def seatOver (v : State) : Bool :=
  let rs := (allRes v.rig.sections).filter (·.target == 3)
  let at_ : List (Option Nat × Nat) := rs.map (fun r => (v.seatOf r.stream, r.rate))
  (List.range 288).any (fun k => decide (1000 < ((at_.filter (fun x => x.1 == some k)).map (fun x => x.2)).sum)) || at_.any (fun x => x.1.isNone && decide (1000 < x.2))

/-- Step 6 of R57 in the order of R75. -/
def State.capCheck (s v : State) (img : List Byte) : Option Refused :=
  let ss := v.rig.sections
  let rs := allRes ss
  let backlog := (rs.map (·.backlog)).sum
  let pre := ((List.range 8).map (fun c => if v.bit (REC_C_CFG c) REC_C_CFG_EN then (v.rd (REC_C_PRE c)).toNat % 65536 else 0)).sum
  let g7 := ((rs.filter (fun r => r.target == 1 && r.cls != 2)).map (·.rate)).sum
  firstBad ([capBad (decide (1024 < (umpRecs ss).length)) 0x010A, capBad (decide (24576 < ownedUnits ss 3)) 0x0107,
    capBad (decide (12288 < ownedUnits ss 6) || (List.range 8).any (mergeBad v)) 0x0104,
    capBad (decide (s.capAfter img - 1024 < backlog + pre)) 0x0204, capBad (decide ((s.rd G7_TRAINED_BW).toNat * 4 / 5 < g7)) 0x0201] ++
    (List.range 10).map (fun k => capBad (decide ((if k / 2 = 3 then 128000 else 512000) < courseLoad ss (k / 2) (k % 2))) 0x0202) ++
    [capBad (seatOver v) 0x0205, capBad (!(List.range 4).all (encFloorsMet v) || !zrxFloorsMet v) 0x0203])

/-! ### Steps 3 to 7 -/

/-- Step 7 of R57: the slots owned, with the 16 of device services (R72). -/
def slotCheck (v : State) : Option Refused :=
  let n := (((allOwn v.rig.sections).filter (fun o => o.rclass == 2 && 16 ≤ o.first)).map (·.count)).sum
  if 512 < n + 16 then some ⟨7, 0x0501, 0, 0xFFFF1FFF⟩ else none

/-- Checks 2 to 7, given the Vault's answer. -/
def State.laterChecks (s : State) (img : List Byte) (verdict : Nat) : Option Refused :=
  let v := s.afterApply img
  match s.vaultCheck v img verdict with
  | some r => some r
  | none =>
    match s.partCheck img with
    | some r => some r
    | none =>
      match s.modeCheck v img with
      | some r => some r
      | none => firstBad [s.ownCheck v img, s.capCheck v img, slotCheck v]

end Sys2Proof.Machine
end

