-- ==== Sys2Proof/Machine/Rig.lean ====
section
/-! DEFINITION. The Rig controller's commands and steps (R56 to R60, R67, R69, R112). Rows RIG_CMD_COMMIT to RIG_BOUNDARY_TIMEOUT. -/

namespace Sys2Proof.Machine

/-! ### Commands -/

/-- ABORT: only in HOLDING, where it refuses the commit or repair with 0x0504 (R69, R71). -/
def State.rigAbort (s : State) : State := if s.rigState = 3 then s.rigRefuse ⟨8, 0x0504, 0, 0xFFFF1FFF⟩ else s

/-- REPAIR of a physical seat of an Eight (R67): values out of range are discarded; a seat that no logical seat uses has nothing to move. -/
def State.rigRepair (s : State) (e p : Nat) : State :=
  if 31 < e || 7 < p then s
  else if s.rigBusy then s.refuseRecord ⟨0, 0x0503, 0, 0xFFFF1FFF⟩ false false []
  else
    let s := s.setRig { s.rig with job := some .repair, image := [], listed := [], repair := (e, p), waiting := false, verdict := none, coxJob := false }
    if s.spareGone e then s.rigRefuse ⟨5, 0x0103, 0, 0xFFFF1FFF⟩
    else if !(List.range 8).any (fun l => s.physSeat e l == p) then s.rigOk.rigIdle.rigAnswer
    else s.holdEnter [0x0100 + e]

/-- A write of RIG_CMD: other values of OP are discarded. -/
def State.rigCmd (s : State) (v : Word) : State :=
  match bitsOf v.toNat 3 0 with
  | 1 => s.rigStart .commit
  | 2 => s.rigAbort
  | 3 => s.rigRepair (bitsOf v.toNat 15 8) (bitsOf v.toNat 19 16)
  | 4 => s.rigStart .check
  | _ => s

/-- Row RIG_CMD_COMMIT. -/
def execRigCmdCommit (s : State) : Res := .next (s.settle (s.hostDo RIG_CMD true (·.rigStart .commit)))
/-- Row RIG_CMD_CHECK. -/
def execRigCmdCheck (s : State) : Res := .next (s.settle (s.hostDo RIG_CMD true (·.rigStart .check)))
/-- Row RIG_CMD_ABORT. -/
def execRigCmdAbort (s : State) : Res := .next (s.settle (s.hostDo RIG_CMD true (·.rigAbort)))
/-- Row RIG_CMD_REPAIR: the Eight and the physical seat as RIG_CMD gives them. -/
def execRigCmdRepair (e : Byte) (p : BitVec 4) (s : State) : Res := .next (s.settle (s.hostDo RIG_CMD true (·.rigRepair e.toNat p.toNat)))

/-! ### Copying and checking -/

/-- The copy of the image is complete: checking starts, and an image whose form holds goes to the Vault (R56, R57). An image longer than any legal one is
copied as far as its first byte too many. -/
def State.rigCopied (s : State) : State :=
  let img := s.rigSource (min (s.rd RIG_IMG_LEN).toNat 268435457)
  let s := (s.setRig { s.rig with image := img }).setRigState 2
  if (s.formCheck img).isNone then s.vaultAsk { cls := 0, data := img } else s

/-- Row RIG_IMAGE_COPIED. -/
def execRigImageCopied (s : State) : Res := .next (if s.rigState = 1 then s.settle s.rigCopied else s)

/-- The checks have passed: a CHECK completes; a commit enters HOLDING, or waits for resets in progress (R57, R60, R112). -/
def State.rigPassed (s : State) : State :=
  let ls := imgListed s.rig.image
  if s.rig.job = some .check then s.rigOk.rigIdle.rigAnswer
  else if s.resetting then s.setRig { s.rig with listed := ls, waiting := true }
  else s.holdEnter ls

/-- The checks end (R57): step 1, then those that need the Vault's answer, which is waited for. -/
def State.rigChecked (s : State) : State :=
  match s.formCheck s.rig.image with
  | some r => s.rigRefuse r
  | none =>
    match s.rig.verdict with
    | none => s
    | some code =>
      match s.laterChecks s.rig.image code with
      | some r => s.rigRefuse r
      | none => s.rigPassed

/-- Row RIG_CHECKS_COMPLETE. -/
def execRigChecksComplete (s : State) : Res := .next (if s.rigState = 2 && !s.rig.waiting then s.settle s.rigChecked else s)

/-! ### Holding -/

/-- Row RIG_BLOCK_HELD: a listed block reaches its boundary (R60). -/
def execRigBlockHeld (bid : BitVec 16) (s : State) : Res := .next (s.settle (s.rigHeld bid.toNat))

/-- RIG_BOUNDARY_TMO expires with a listed block not held (R60). -/
def State.rigTimeout (s : State) : State :=
  match s.unheld with
  | [] => s
  | b :: _ => s.rigRefuse ⟨8, 0x0502, w32 (b * 65536), detailBlk s.rig.image b⟩

/-- Row RIG_BOUNDARY_TIMEOUT. -/
def execRigBoundaryTimeout (s : State) : Res := .next (if s.rigState = 3 then s.settle s.rigTimeout else s)

end Sys2Proof.Machine
end

