-- ==== Sys2Proof/Machine/Health.lean ====
section
/-! DEFINITION. The housekeeping round: temperature sensors, thermal levels, rails, clocks, and the LTC input (R493 to R500, R505). Rows
HEALTH_CHANNEL_READ to LTC_INPUT_TIMEOUT. -/

namespace Sys2Proof.Machine

/-! ### Tables of R494, R499 and R500 -/

/-- The group of a sensor: first and last index (R494). -/
def tsGroup (n : Nat) : Nat × Nat := if n < 10 then (0, 9) else if n < 22 then (10, 21) else if n < 30 then (22, 29) else (30, 39)

/-- The neighbours of a cross-checked sensor (R494). -/
def tsNear (n : Nat) : List Nat :=
  let g := tsGroup n
  (List.range 40).filter (fun i => g.1 ≤ i && i ≤ g.2 && i != n && decide (i ≤ n + 2) && decide (n ≤ i + 2))

/-- The sensors that give Tj and that the Trip path watches (R497, R498). -/
def tsWatched : List Nat := List.range 40 ++ [42, 43, 44, 45, 46, 47]

/-- 120 °C and 150 °C and −55 °C in 1/16 °C. -/
def tripRaw : Int := 1920
def rawHigh : Int := 2400
def rawLow : Int := -880

/-- A number put in ascending order into a list. -/
def intInsert (a : Int) : List Int → List Int
  | [] => [a]
  | b :: bs => if a ≤ b then a :: b :: bs else b :: intInsert a bs

/-- Twice the median of a list, the mean of the middle two where their number is even. -/
def median2 (xs : List Int) : Int :=
  let l := xs.foldl (fun l x => intInsert x l) []
  let m := l.length / 2
  if l.length % 2 = 1 then 2 * l.getD m 0 else l.getD (m - 1) 0 + l.getD m 0

/-- A reading of 1/32 °C in 1/16 °C; a half goes up or down as the hardware does (log entry 75). -/
def tsShown (x : Int) : Int := if x % 2 = 0 then x / 2 else if Config.tsHalf x then x / 2 + 1 else x / 2

/-- Nominal voltage of a monitored rail in mV (R499, R507; log entry 76 for VM52–57). -/
def railMv (n : Nat) : Nat :=
  if n < 40 then 750 else if n < 48 then 850 else if n < 52 then 900 else if n < 55 then 900 else if n < 62 then 1200 else if n = 62 then 1800 else 800

/-- The region that a rail's FAULT isolates; none is chip-fatal (R499). -/
def railRegion (n : Nat) : Option Nat :=
  if n < 8 then some 0 else if n < 20 then some 1 else if n < 28 then some 2 else if n < 34 then none else if n < 40 then some 4
  else if n < 42 then some 0 else if n < 44 then some 1 else if n < 46 then some 2 else if n < 48 then some 4 else if n < 52 then none
  else if n < 58 then some 4 else none

/-! ### Access to the records -/

/-- A sensor's record. -/
def State.tsOf (s : State) (n : Nat) : TempSensor := tabGet s.hlt.ts {} n
/-- A sensor's record set. -/
def State.setTs (s : State) (n : Nat) (x : TempSensor) : State := { s with hlt := { s.hlt with ts := tabSet s.hlt.ts {} n x } }
/-- A voltage monitor's record. -/
def State.vmOf (s : State) (n : Nat) : Monitor := tabGet s.hlt.vm {} n
/-- A voltage monitor's record set. -/
def State.setVm (s : State) (n : Nat) (x : Monitor) : State := { s with hlt := { s.hlt with vm := tabSet s.hlt.vm {} n x } }
/-- A clock monitor's record. -/
def State.cmOf (s : State) (n : Nat) : Monitor := tabGet s.hlt.cm {} n
/-- A clock monitor's record set. -/
def State.setCm (s : State) (n : Nat) (x : Monitor) : State := { s with hlt := { s.hlt with cm := tabSet s.hlt.cm {} n x } }

/-- The Health source of events. -/
def hltSrc : Nat := 0x0E05

/-- LEVEL (R497). -/
def State.level (s : State) : Nat := s.fld HLT_STATUS HLT_STATUS_LEVEL

/-- HLT_TS_ST of a sensor shows its record. -/
def State.tsShow (s : State) (n : Nat) (sub : Bool) : State :=
  let t := s.tsOf n
  let r := HLT_TS_ST n
  ((s.setBit r HLT_TS_ST_BROKEN t.broken).setFld r HLT_TS_ST_GOOD (if t.broken then t.goodRun else 0)).setBit r HLT_TS_ST_SUBSTITUTED sub

/-! ### The Trip path (R498) -/

/-- The Trip path: level 4 with event 960, chip-fatal, and the clocks stop once the Logbook has flushed. -/
def State.tripStart (s : State) (cause sensor : Nat) (tj : Int) : State :=
  if s.hlt.trip then s
  else
    let s := { s with hlt := { s.hlt with trip := true, tj := tj } }
    let s := (s.setFld HLT_STATUS HLT_STATUS_HOTTEST sensor).setFld HLT_STATUS HLT_STATUS_LEVEL 4
    ((s.raise 960 hltSrc [4, w32 sensor, wOfInt tj]).chipFatal cause hltSrc [w32 sensor]).tripClocks

/-! ### Readings (R493) -/

/-- A temperature reading in 1/16 °C with its oscillator count. -/
def State.tsRead (s : State) (n : Nat) (raw : Int) (osc : Nat) : State :=
  let t := s.tsOf n
  let same := if t.read && t.osc == osc then min 8 (t.sameRun + 1) else 1
  let s := s.setTs n { t with raw := raw, osc := osc, sameRun := same, read := true }
  let s := s.setFld (HLT_TS_VAL n) ⟨31, 16⟩ (BitVec.ofInt 16 raw).toNat
  if tripRaw ≤ raw then (if n = 40 || n = 41 then s.vaultHoldSet 0 else s.tripStart 1 n raw) else s

/-- VDD_AON lies in its recommended range (R507). -/
def aonGood (mv : Nat) : Bool := 776 ≤ mv && mv ≤ 824

/-- A voltage reading in mV. -/
def State.vmRead (s : State) (n mv : Nat) : State :=
  let s := (s.setVm n { s.vmOf n with value := mv, read := true }).setFld (HLT_VM n) ⟨15, 0⟩ mv
  if n = 63 && !aonGood mv then s.vaultHoldSet 3 else s

/-- A frequency reading in kHz; `quads` are the quads of CM12–15 whose PLL is outside its tolerance, bit 0 the lowest. -/
def State.cmRead (s : State) (n khz quads : Nat) : State :=
  let m := s.cmOf n
  (s.setCm n { m with value := khz, read := true, quadsOld := m.quads, quads := quads % 1024 }).setFld (HLT_CM n) ⟨23, 0⟩ khz

/-- Row HEALTH_CHANNEL_READ: `reading` is s16 in 1/16 °C, mV or kHz; `aux` the oscillator count of a temperature sensor, or the failing quads of CM12–15
(log entry 77). -/
def execHealthChannelRead (k : Fin 128) (reading aux : Word) (s : State) : Res :=
  .next (s.settle (
    if k.val < 48 then s.tsRead k (sext 16 reading.toNat) aux.toNat
    else if k.val < 112 then s.vmRead (k - 48) (reading.toNat % 65536)
    else s.cmRead (k - 112) (reading.toNat % 16777216) aux.toNat))

/-! ### Temperature sensors at the round's end (R495, R496) -/

/-- The raw readings of a sensor's neighbours that the table holds valid. -/
def State.nearRaw (s : State) (ts : Table TempSensor) (n : Nat) : List Int :=
  ((tsNear n).filter (fun i => let t := tabGet ts {} i; t.read && !t.broken)).map (fun i => (s.tsOf i).raw)

/-- The conditions of R495 judged for one sensor; validity of its neighbours is that before this round's end (log entry 78). -/
def State.tsJudge (s : State) (old : Table TempSensor) (n : Nat) : State :=
  let t := s.tsOf n
  if !t.read then s
  else
    let near := if n < 40 then s.nearRaw old n else []
    let off := !near.isEmpty && decide (480 < (2 * t.raw - median2 near).natAbs)
    let div := if off then min 4 (t.divRun + 1) else 0
    let bad := decide (t.raw < rawLow) || decide (rawHigh < t.raw) || decide (8 ≤ t.sameRun) || decide (4 ≤ div)
    let t := { t with divRun := div }
    if !t.broken then
      if bad then (s.setTs n { t with broken := true, goodRun := 0 }).raise 961 hltSrc [w32 n] else s.setTs n t
    else if bad then s.setTs n { t with goodRun := 0 }
    else if t.goodRun + 1 < 489 then s.setTs n { t with goodRun := t.goodRun + 1 }
    else (s.setTs n { t with broken := false, goodRun := 0 }).raise 962 hltSrc

/-- The effective reading of a sensor from its own reading or its neighbours (R496), in 1/32 °C, and whether it is a neighbour median; none where the
group decides. -/
def State.tsOwn (s : State) (n : Nat) : Option Int × Bool :=
  let t := s.tsOf n
  if !t.broken then (some (2 * t.raw), false)
  else if 40 ≤ n then (some (2 * tripRaw), false)
  else
    let near := s.nearRaw s.hlt.ts n
    if near.isEmpty then (none, false) else (some (median2 near), true)

/-- The highest of some readings. -/
def intMax : List Int → Option Int
  | [] => none
  | x :: xs => some (xs.foldl max x)

/-- The effective reading of a sensor (R496). -/
def State.tsEff (s : State) (n : Nat) : Int × Bool :=
  match s.tsOwn n with
  | (some v, sub) => (v, sub)
  | (none, _) =>
    let g := tsGroup n
    let vs := (List.range 40).filterMap (fun i => if g.1 ≤ i && i ≤ g.2 && (s.tsOf i).read then (s.tsOwn i).1 else none)
    ((intMax vs).getD 3360, false)

/-- Every sensor's effective reading, with its registers. -/
def State.tsSettle (s : State) : State :=
  let es := (List.range 48).map (fun n => if (s.tsOf n).read then some (s.tsEff n) else none)
  es.zipIdx.foldl (fun s e =>
    match e.1 with
    | some (v, sub) =>
      ((s.setTs e.2 { s.tsOf e.2 with eff := v }).setFld (HLT_TS_VAL e.2) ⟨15, 0⟩ (BitVec.ofInt 16 (tsShown v)).toNat).tsShow e.2 sub
    | none => s) s

/-- The Vault's own sensors act on the Vault alone: Hold bit 0 (R469, R498). -/
def State.vaultSensors (s : State) : State :=
  let ts := [40, 41].map s.tsOf
  let setRun (s : State) (n : Nat) : State := { s with hlt := { s.hlt with vaultRun := n } }
  if ts.any (fun t => t.read && (t.broken || decide (tripRaw ≤ t.raw))) then (setRun s 0).vaultHoldSet 0
  else if ts.any (fun t => t.read && decide (1600 ≤ t.raw)) then setRun s 0
  else if s.hlt.vaultRun + 1 < 489 then setRun s (s.hlt.vaultRun + 1)
  else s.vaultHoldClear 0

/-! ### Levels (R497) -/

/-- The threshold of a level in 1/32 °C. -/
def levelAt (n : Nat) : Int := if n = 0 then 0 else if n = 1 then 3040 else if n = 2 then 3200 else if n = 3 then 3360 else 3840

/-- The level that Tj has reached, below Trip. -/
def levelOf (tj : Int) : Nat := if 3360 ≤ tj then 3 else if 3200 ≤ tj then 2 else if 3040 ≤ tj then 1 else 0

/-- Entry to Critical: recording channels end their clips, sensor heads stop. -/
def State.critical (s : State) : State :=
  let s := (List.range 8).foldl (fun s c => if s.recState c = 2 then s.recEnd c 5 else s) s
  (List.range 8).foldl (fun s h =>
    if (s.leadPort h).isSome && s.running (s.spBid h) && s.zlStage h ≠ 5 then s.headStop h 5 else s) s

/-- Critical is left: those heads return to DETECT, those channels go to IDLE. -/
def State.uncritical (s : State) : State :=
  let s := (List.range 8).foldl (fun s c =>
    if s.recState c = 4 && s.fld (REC_C_STATUS c) REC_C_STATUS_STOP_REASON = 5 then
      (s.setRecState c 0).setFld (REC_C_STATUS c) REC_C_STATUS_STOP_REASON 0
    else s) s
  (List.range 8).foldl (fun s h =>
    if (s.leadPort h).isSome && s.running (s.spBid h) && s.zlStage h = 5 && s.fld (SPT_H_STATE (s.hp h)) SPT_H_STATE_STOP_REASON = 5 then
      s.headRestart h
    else s) s

/-- The level changes, with its actions; in the safe state the blocks are stopped and nothing acts on them. -/
def State.setLevel (s : State) (new : Nat) : State :=
  let old := s.level
  let s := { s with hlt := { s.hlt with fallRun := 0 } }
  let s := (s.setFld HLT_STATUS HLT_STATUS_LEVEL new).raise 960 hltSrc [w32 new, w32 (s.fld HLT_STATUS HLT_STATUS_HOTTEST), wOfInt s.hlt.tj]
  if s.safe then s
  else
    let s := if (2 ≤ old) == (2 ≤ new) then s else s.encHot
    if old < 3 && 3 ≤ new then s.critical else if 3 ≤ old && new < 3 then s.uncritical else s

/-- The level follows Tj, in 1/32 °C. -/
def State.levelRound (s : State) (tj : Int) : State :=
  let old := s.level
  if old < levelOf tj then s.setLevel (levelOf tj)
  else if old ≠ 0 && tj ≤ levelAt old - 160 then
    if s.hlt.fallRun + 1 < 489 then { s with hlt := { s.hlt with fallRun := s.hlt.fallRun + 1 } } else s.setLevel (old - 1)
  else { s with hlt := { s.hlt with fallRun := 0 } }

/-- Tj and its sensor: the highest effective reading, the lowest index first. -/
def State.hottest (s : State) : Option (Int × Nat) :=
  tsWatched.foldl (fun best n =>
    if !(s.tsOf n).read then best
    else match best with
      | some (v, _) => if v < (s.tsOf n).eff then some ((s.tsOf n).eff, n) else best
      | none => some ((s.tsOf n).eff, n)) none

/-- Sensors, Tj and level at the end of a round; with a Trip, only the Trip takes effect (R498). -/
def State.thermalRound (s : State) : State :=
  let s := ((List.range 48).foldl (fun t n => t.tsJudge s.hlt.ts n) s).tsSettle.vaultSensors
  match s.hottest with
  | none => s
  | some (tj, n) =>
    if s.hlt.trip then s
    else
      let hot := tsWatched.filter (fun i => (s.tsOf i).read && decide (3840 ≤ (s.tsOf i).eff))
      let s := { s with hlt := { s.hlt with tj := tsShown tj } }.setFld HLT_STATUS HLT_STATUS_HOTTEST n
      match hot.find? (fun i => !(40 ≤ i && (s.tsOf i).broken)), hot.head? with
      | some i, _ => s.tripStart 1 i (tsShown (s.tsOf i).eff)
      | none, some i => s.tripStart 2 i (tsShown (s.tsOf i).eff)
      | none, none => s.levelRound tj

/-! ### Rails (R499) -/

/-- A reading lies more than `pct` percent from nominal. -/
def offBy (v nom pct : Nat) : Bool := decide (pct * nom < 100 * (if v < nom then nom - v else v - nom))

/-- One rail at the end of a round. -/
def State.railRound (s : State) (n : Nat) : State :=
  let m := s.vmOf n
  if !m.read then s
  else
    let warn := offBy m.value (railMv n) 5
    let out := if offBy m.value (railMv n) 10 then min 2 (m.outRun + 1) else 0
    let good := if warn then 0 else min 2 (m.inRun + 1)
    let had := bitOf (s.rd (HLT_VM n)) 17
    let s := s.setVm n { m with outRun := out, inRun := good }
    let s := if warn then (s.setFld (HLT_VM n) ⟨16, 16⟩ 1).raiseOnce 963 0 hltSrc
      else if good = 2 then s.setFld (HLT_VM n) ⟨17, 16⟩ 0 else s
    if out < 2 || had then s
    else
      let s := (s.setFld (HLT_VM n) ⟨17, 17⟩ 1).raise 964 hltSrc
      match railRegion n with
      | some r => s.regionIsolate r 2
      | none => s.chipFatal 3 hltSrc [w32 n, w32 m.value]

/-- VDD_AON against its recommended range: Hold bit 3 (R469). -/
def State.aonRound (s : State) : State :=
  let m := s.vmOf 63
  let setRun (s : State) (n : Nat) : State := { s with hlt := { s.hlt with aonRun := n } }
  if !m.read then s
  else if !aonGood m.value then (setRun s 0).vaultHoldSet 3
  else if s.hlt.aonRun + 1 < 489 then setRun s (s.hlt.aonRun + 1)
  else s.vaultHoldClear 3

/-! ### Clocks (R500) -/

/-- A clock in tolerance: num ÷ den kHz nominal, ± tol ten-thousandths. -/
def clkGood (khz num den tol : Nat) : Bool :=
  decide (10000 * (if khz * den < num then num - khz * den else khz * den - num) ≤ tol * num)

/-- A clock monitor's reading is in tolerance; none: it is not checked. -/
def State.cmGood (s : State) (n : Nat) : Option Bool :=
  let m := s.cmOf n
  let v := m.value
  match n with
  | 0 => some (clkGood v 100000 1 10)
  | 1 => some (clkGood v 25000 1 2500)
  | 2 => some (clkGood v 1250000 1 50)
  | 3 => some (clkGood v 1600000 1 50)
  | 4 => some (clkGood v 2000000 1 50)
  | 5 => some (clkGood v 1000000 1 50)
  | 10 => some (clkGood v 98304 1 10)
  | 11 => some (clkGood v 25000 1 100)
  | n =>
    if 6 ≤ n && n ≤ 9 then
      let x := n - 6
      if s.scnOn x && s.scnState x ≠ 2 then
        let (a, b) := (s.scnOf x).tim.pix
        some (clkGood v a (1000 * b) 100)
      else none
    else some (m.quads == 0)

/-- Every Eight stops as a block fault and waits for the PLL. -/
def State.oarPllFault (s : State) : State :=
  (List.range 32).foldl (fun s e => s.blkFault (0x0100 + e)) { s with hlt := { s.hlt with oarPllBad := true } }

/-- All five regions are isolated, and the Course PLL has 1 ms to come back. -/
def State.coursePllFault (s : State) : State :=
  let s := (List.range 5).foldl (fun s r => s.regionIsolate r 3) s
  { s with hlt := { s.hlt with courseGrace := true } }

/-- The Oar PLL is back: the Eights that wait for it restart. -/
def State.oarPllBack (s : State) : State :=
  let s := { s with hlt := { s.hlt with oarPllBad := false } }
  (List.range 32).foldl (fun s e =>
    let b := 0x0100 + e
    let k := s.blkOf b
    if k.phase = .stopped && k.restartDue && !s.safe && s.region (bidRegion b) = 2 && !s.repairing e then (s.blkRestart b).blkAfter b else s) s

/-- What a clock's FAULT brings. -/
def State.clkAction (s : State) (n : Nat) : State :=
  match n with
  | 0 => ((((s.regionIsolate 0 3).regionIsolate 1 3).oarPllFault).regionIsolate 3 3).coursePllFault
  | 2 => (s.regionIsolate 0 3).regionIsolate 1 3
  | 3 => s.oarPllFault
  | 4 => s.regionIsolate 3 3
  | 5 => s.coursePllFault
  | 10 => (List.range 16).foldl (fun s p => if s.bit (AUD_P_CFG p) AUD_P_CFG_MASTER && s.bit (AUD_P_CFG p) AUD_P_CFG_EN then s.blkFault (0x0D00 + p) else s) s
  | n =>
    if 6 ≤ n && n ≤ 9 then s.blkFault (0x0700 + (n - 6))
    else s.chipFatal 4 hltSrc [w32 n, w32 (s.cmOf n).value]

/-- The quads whose PLL has been out for two rounds leave ACTIVE; Q0 or Q1 is chip-fatal. -/
def State.quadPlls (s : State) (n : Nat) : State :=
  let m := s.cmOf n
  (List.range 10).foldl (fun s i =>
    let q := 10 * (n - 12) + i
    if bitsOf m.quads i i = 1 && bitsOf m.quadsOld i i = 1 then
      if q < 2 then s.chipFatal 4 hltSrc [w32 n, w32 m.value] else if s.quadStage q = 4 then s.quadFail q else s
    else s) s

/-- One clock at the end of a round. -/
def State.clkRound (s : State) (n : Nat) : State :=
  let m := s.cmOf n
  if !m.read then s
  else
    match s.cmGood n with
    | none => s.setCm n { m with outRun := 0, inRun := 0 }
    | some good =>
      let quad := 12 ≤ n
      let out := if quad then (if m.quads &&& m.quadsOld = 0 then 0 else 2) else if good then 0 else min 2 (m.outRun + 1)
      let ok := if good then min 2 (m.inRun + 1) else 0
      let had := bitOf (s.rd (HLT_CM n)) 31
      let s := s.setCm n { m with outRun := out, inRun := ok }
      let s := if out = 2 && !had then (s.setFld (HLT_CM n) ⟨31, 31⟩ 1).raise 965 hltSrc else s
      let s := if s.safe then s
        else if quad then s.quadPlls n else if out = 2 && !had then s.clkAction n else s
      if had && ok = 2 then
        let s := s.setFld (HLT_CM n) ⟨31, 31⟩ 0
        if (n = 0 || n = 3) && !bitOf (s.rd (HLT_CM 0)) 31 && !bitOf (s.rd (HLT_CM 3)) 31 && s.hlt.oarPllBad then s.oarPllBack else s
      else s

/-! ### The round's end -/

/-- The end of a round: sensors and level, rails, clocks; a new round begins, in which what is raised once per round may be raised again. -/
def State.roundEnd (s : State) : State :=
  let s := s.thermalRound
  let s := ((List.range 64).foldl (fun s n => s.railRound n) s).aonRound
  let s := (List.range 16).foldl (fun s n => s.clkRound n) { s with hlt := { s.hlt with courseGrace := false } }
  { s.incWrap HLT_ROUNDS with roundFlags := [], edc := [] }

/-- Row HOUSEKEEPING_ROUND_END. -/
def execHousekeepingRoundEnd (s : State) : Res := .next (s.settle s.roundEnd)

/-- Row COURSE_PLL_GRACE_EXPIRE: 1 ms after the isolation the Course PLL is still out of tolerance (R500). -/
def execCoursePllGraceExpire (s : State) : Res :=
  .next (
    if !s.hlt.courseGrace then s
    else
      let n := if bitOf (s.rd (HLT_CM 5)) 31 then 5 else 0
      s.settle ({ s with hlt := { s.hlt with courseGrace := false } }.chipFatal 4 hltSrc [w32 n, w32 (s.cmOf n).value]))

/-- Row CORE_DROOP: a clock of the region is stretched, and counted (R499). -/
def execCoreDroop (s : State) : Res := .next (s.inc HLT_VM_DROOP)

/-! ### The LTC input (R505) -/

/-- The BCD digits of a timecode are legal: below 24 hours, 60 minutes, 60 seconds, and two digits of frames (R505). -/
def ltcLegal (v : BitVec 31) : Bool :=
  let n := v.toNat
  let d (hi lo : Nat) : Nat := bitsOf n hi lo
  decide (d 3 0 ≤ 9) && decide (d 7 4 ≤ 9) && decide (d 11 8 ≤ 9) && decide (d 15 12 ≤ 5) && decide (d 19 16 ≤ 9) && decide (d 23 20 ≤ 5) &&
    decide (d 27 24 ≤ 9) && decide (10 * d 29 28 + d 27 24 ≤ 23)

/-- Row LTC_FRAME_DECODED: bits [29:0] the BCD timecode, bit 30 drop frame. A frame whose digits are not legal is not valid and decodes to nothing. -/
def execLtcFrameDecoded (v : BitVec 31) (s : State) : Res :=
  .next (if ltcLegal v then s.wr HLT_LTC_IN (w32 (v.toNat + 0x80000000)) else s)

/-- Row LTC_INPUT_TIMEOUT: VALID clears, with event 969. -/
def execLtcInputTimeout (s : State) : Res :=
  .next (if bitOf (s.rd HLT_LTC_IN) 31 then (s.setFld HLT_LTC_IN ⟨31, 31⟩ 0).raise 969 hltSrc else s)

end Sys2Proof.Machine
end

