-- ==== Sys2Proof/Machine/Slots.lean ====
section
/-! DEFINITION. The action slots of the Stroke timeline (R141 to R146, R479). Rows SLOT_ARM to GPIO_PULSE_END. -/

namespace Sys2Proof.Machine

/-! ### Arming -/

/-- An armed slot whose COMPARE had been reached matches late in the tick after the write (R144). -/
def State.slotJudge (s : State) (n : Nat) : State :=
  if s.armed n && s.slotReached n then s.tick.slotMatch n true else s

/-- ARM written (R143): discarded with TTYPE 0x00; a slot that is armed stays so. -/
def State.slotArm (s : State) (n : Nat) : State :=
  if s.fld (STK_S_CFG n) STK_S_CFG_TTYPE = 0 || s.armed n then s
  else (s.setBit (STK_S_CTRL n) STK_S_CTRL_ARM true).slotJudge n

/-- The match of an armed slot in the tick in which its timebase reaches COMPARE; on TB0, time passes to that tick. -/
def State.slotOnTime (s : State) (n : Nat) : State :=
  if !s.armed n then s
  else
    let s := if s.fld (STK_S_CFG n) STK_S_CFG_TB = 0 && !s.slotReached n then s.passToNs (s.rd (STK_S_COMPARE n)) else s
    if s.slotReached n then s.slotMatch n false else s

/-- DISARM written: a match in its tick fires first (R146); an event delivery that waits for the slot's next tick is discarded (R479). -/
def State.slotDisarm (s : State) (n : Nat) (matching : Bool) : State :=
  let s := if matching then s.slotOnTime n else s
  let lost := (s.stk.evMatch.filter (· == n)).length
  let s := { s with stk := { s.stk with evMatch := s.stk.evMatch.filter (· != n) } }
  (s.inc EVT_STK_DROP lost).setBit (STK_S_CTRL n) STK_S_CTRL_ARM false

/-- A write of STK_S_CTRL: LATE clears by 1; ARM, and DISARM after it (R143). -/
def State.slotCtrl (s : State) (n : Nat) (v : Word) : State :=
  if !s.slotOwned n then s
  else
    let s := if bitOf v 8 then s.setBit (STK_S_CTRL n) STK_S_CTRL_LATE false else s
    if bitOf v 1 then s.slotDisarm n false else if bitOf v 0 then s.slotArm n else s

/-- A write of STK_S_COMPARE: in the tick of a match the old value fires, and the written one arms the slot; a slot armed on a passed value matches late
(R144, R146). -/
def State.slotCompare (s : State) (n : Nat) (v : Word) (matching : Bool) : State :=
  if !s.slotOwned n then s
  else
    let hit := matching && s.armed n
    let s := if hit then s.slotOnTime n else s
    let s := s.wr (STK_S_COMPARE n) v
    (if hit then s.setBit (STK_S_CTRL n) STK_S_CTRL_ARM true else s).slotJudge n

/-- Row SLOT_ARM. -/
def execSlotArm (n : Fin 512) (s : State) : Res := .next (s.settle (s.hostDo (STK_S_CTRL n) true (fun s => s.slotCtrl n 1)))

/-- Row SLOT_DISARM: `matching` says that the slot matches in the tick of the write. -/
def execSlotDisarm (n : Fin 512) (matching : Bool) (s : State) : Res :=
  .next (s.settle (s.hostDo (STK_S_CTRL n) true (fun s => if s.slotOwned n then s.slotDisarm n matching else s)))

/-- Row SLOT_COMPARE_WRITE. -/
def execSlotCompareWrite (n : Fin 512) (v : Word) (matching : Bool) (s : State) : Res :=
  .next (s.settle (s.hostDo (STK_S_COMPARE n) true (fun s => s.slotCompare n v matching)))

/-- Row SLOT_MATCH: an event delivery makes an armed slot match in the next tick, with COMPARE kept (R479); else the timebase reaches COMPARE. -/
def execSlotMatch (n : Fin 512) (s : State) : Res :=
  .next (s.settle (
    if s.stk.evMatch.contains n.val then
      let s := { s.tick with stk := { s.tick.stk with evMatch := s.stk.evMatch.erase n.val } }
      if !s.armed n then s.inc EVT_STK_DROP
      else
        let c := s.rd (STK_S_COMPARE n)
        (s.slotMatch n false).wr (STK_S_COMPARE n) c
    else s.slotOnTime n))

/-! ### Delivery (R142, R146) -/

/-- TTYPE of a delivery. -/
def Delivery.ttype (d : Delivery) : Nat := STK_S_CFG_TTYPE.get d.cfg
/-- TINST of a delivery. -/
def Delivery.tinst (d : Delivery) : Nat := STK_S_CFG_TINST.get d.cfg
/-- TPARAM of a delivery. -/
def Delivery.tparam (d : Delivery) : Nat := bitsOf d.param.toNat 15 0

/-- The target of a delivery: TTYPE, TINST and the action that TPARAM [0] chooses; every event-only slot is its own. -/
def Delivery.target (d : Delivery) : Nat × Nat × Nat :=
  let t := d.ttype
  if t = 9 then (9, d.slot, 0) else (t, d.tinst, if t = 1 || t = 4 || t = 8 then d.tparam % 2 else 0)

/-- A capture (R142). -/
def State.capture (s : State) (i : Nat) : State :=
  let s := s.wr (STK_CAP i) s.ns
  let s := if bitOf (s.rd STK_CAP_FLAGS) i then s.setFld STK_CAP_FLAGS ⟨16 + i, 16 + i⟩ 1 else s
  s.setFld STK_CAP_FLAGS ⟨i, i⟩ 1

/-- A GPIO pulse starts, or its width starts again. -/
def State.gpioPulse (s : State) (g width : Nat) : State :=
  let w := max 1 width
  ({ s with stk := { s.stk with gpio := tabSet s.stk.gpio 0 g (s.ticks + w) } }).emit (.gpioPulse g true w)

/-- Pixel clocks by which a head's frame start missed the delivery (R284), as the command gives them. -/
def errAt (errs : List Word) (n : Nat) : Int := (errs.getD n 0).toInt

/-- The target of a delivery acts once; `d` is the delivery of the lowest slot, `width` the largest TPARAM. -/
def State.targetActs (s : State) (d : Delivery) (width : Nat) (errs : List Word) : State :=
  let i := d.tinst
  match d.ttype with
  | 1 => if i < 8 then s.trigger i d.tparam else s
  | 2 => if i < 16 then s.audTrigger i else s
  | 3 => if i < 4 then s.scnDelivery i (errAt errs i) else s
  | 4 => if i < 4 then (if d.tparam % 2 = 0 then s.encOpen i else s.encClose i) else s
  | 5 => if i < 16 then s.capture i else s
  | 6 => if i < 64 then s.gpioPulse i width else s
  | 7 => if i < 288 then s.wakeIndex i { slot := d.slot, event := 0, ns := s.ns } else s
  | 8 => if i < 8 then (if d.tparam % 2 = 0 then s.zrxOpen i else s.zrxClose i) else s
  | 9 => s.raise 56 0x0E02 [w32 d.slot]
  | _ => s

/-- The send stream that owns a slot of TTYPE 0x09: the one that the ownership record names (R450; log entry 57). -/
def State.slotStream (s : State) (n : Nat) : Option Nat :=
  match ownerOf s.rig.sections 2 n with
  | some o => if 0x0E010000 ≤ o && o < 0x0E010020 then some (o - 0x0E010000) else none
  | none => none

/-- What reads a slot's own deliveries: sessions paced by it (R390), and the send stream that owns it (R450). -/
def State.slotReaders (s : State) (n ttype : Nat) : State :=
  let s := s.decSlot n
  match s.slotStream n with
  | some k => if ttype = 9 then s.sendDelivery k else s
  | none => s

/-- The deliveries of one tick, in ascending slot order: each slot counts, each target acts once, and the merged ones are counted (R146). -/
def State.deliver (s : State) (errs : List Word) : List Delivery → Nat → State
  | _, 0 => s
  | [], _ => s
  | d :: ds, fuel + 1 =>
    let same := ds.filter (fun x => x.target == d.target)
    let width := same.foldl (fun m x => max m x.tparam) d.tparam
    let s := (d :: same).foldl (fun s x => s.inc (STK_S_FIRES x.slot)) s
    let s := (s.inc STK_MERGE_CNT same.length).targetActs d width errs
    let s := (d :: same).foldl (fun s x => s.slotReaders x.slot x.ttype) s
    s.deliver errs (ds.filter (fun x => x.target != d.target)) fuel

/-- A delivery put into a list in ascending slot order. -/
def dueInsert (d : Delivery) : List Delivery → List Delivery
  | [] => [d]
  | x :: xs => if d.slot < x.slot then d :: x :: xs else x :: dueInsert d xs

/-- The earliest tick at which a delivery is due. -/
def dueFirst : List Delivery → Option Nat
  | [] => none
  | d :: ds => some (ds.foldl (fun m x => min m x.due) d.due)

/-- Row SLOT_DELIVERY: time passes to the earliest delivery due, and every delivery of that tick is made; `errs` gives, for each scan-out head, the pixel
clocks between its frame start and a delivery. Nothing is delivered in the safe state (R503). -/
def execSlotDelivery (errs : List Word) (s : State) : Res :=
  .next (
    match dueFirst s.stk.due with
    | none => s
    | some t =>
      let now := s.stk.due.filter (fun d => d.due ≤ t)
      let s' := if s.ticks < t then (s.passTicks (t - s.ticks)).tb1Sync else s
      let s' := { s' with stk := { s'.stk with due := s.stk.due.filter (fun d => t < d.due) } }
      if s.safe then s' else s.settle (s'.deliver errs (now.foldl (fun l d => dueInsert d l) []) now.length))

/-- Row GPIO_PULSE_END: time passes to the end of the pulse, and the ball goes back to high impedance (R142). -/
def execGpioPulseEnd (g : Fin 64) (s : State) : Res :=
  .next (
    let e := tabGet s.stk.gpio 0 g.val
    if e = 0 then s
    else
      let s := if s.ticks < e then (s.passTicks (e - s.ticks)).tb1Sync else s
      ({ s with stk := { s.stk with gpio := tabDel s.stk.gpio g.val } }).emit (.gpioPulse g.val false 0))

end Sys2Proof.Machine
end

