-- ==== Sys2Proof/Machine/Calls.lean ====
section
/-! DEFINITION. Call and Answer queues, and the commands of the host (R439 to R444). Rows CALL_SUBMIT to CALL_VAULT. -/

namespace Sys2Proof.Machine

/-! ### Queues (R439, R441) -/

/-- A write of CLL_Q_TAIL: one outside the ring would leave more than 255 pending; it is discarded with OVF and event 776 (log entry 80). -/
def State.callTail (s : State) (q : Nat) (v : Word) : State :=
  if 256 ≤ v.toNat then (s.setFld (CLL_Q_STATUS q) ⟨0, 0⟩ 1).raise 776 0x0B00 else s.wr (CLL_Q_TAIL q) v

/-- Entries that the host writes into BAR4 from the queue's TAIL on. -/
def State.callEntries (s : State) (q : Nat) (es : List (List Byte)) : State :=
  let t := (s.rd (CLL_Q_TAIL q)).toNat
  let x := s.callQ q
  s.setCallQ q { x with entries := (es.take 256).zipIdx.foldl (fun m e => tabSet m [] ((t + e.2) % 256) (sliceAt e.1 0 64)) x.entries }

/-- Row CALL_SUBMIT: the host writes entries of 64 bytes from TAIL on, and then TAIL. -/
def execCallSubmit (q : Fin 16) (entries : List (List Byte)) (tail : Word) (s : State) : Res :=
  .next (s.settle (s.hostDo (CLL_Q_TAIL q) true (fun s => (s.callEntries q entries).callTail q tail)))

/-- A write of CLL_Q_CFG: EN alone changes while it reads 1. Clearing it stops the queue once the Call in progress has its Answer; setting it starts the
queue empty. -/
def State.callCfg (s : State) (q : Nat) (v : Word) : State :=
  let r := CLL_Q_CFG q
  let en := bitOf v 0
  if bitOf (s.rd r) 0 then
    if en then s
    else
      let s := s.setFld r ⟨0, 0⟩ 0
      if (s.callQ q).cur.isSome then s.setCallQ q { s.callQ q with stop := true } else s.callClear q
  else
    let s := s.wr r (v &&& 0xF01)
    if en then ((s.setCallQ q { s.callQ q with stop := false }).wr (CLL_Q_HEAD q) 0).wr (CLL_Q_TAIL q) 0 else s

/-- Row CALL_QUEUE_ENABLE: a write of CLL_Q_CFG. -/
def execCallQueueEnable (q : Fin 16) (v : Word) (s : State) : Res := .next (s.settle (s.hostDo (CLL_Q_CFG q) true (·.callCfg q v)))

/-- A write of CLL_A_CFG: EN alone changes while it reads 1, and not to 0 while an enabled Call queue names the Answer queue. Setting it starts an empty
ring with PHASE 1. -/
def State.ansCfg (s : State) (a : Nat) (v : Word) : State :=
  let r := CLL_A_CFG a
  let clear (s : State) : State := (s.wr (CLL_A_HEAD a) 0).wr (CLL_A_TAIL a) 0
  if bitOf (s.rd r) 8 then
    if bitOf v 8 || (List.range 16).any (fun q => bitOf (s.rd (CLL_Q_CFG q)) 0 && s.callAq q == a) then s
    else clear (s.setFld r ⟨8, 8⟩ 0)
  else
    let s := s.wr r (v &&& 0x7FF010F)
    if bitOf v 8 then State.ansFlush 16 (clear (s.setAnsQ a { s.ansQ a with phase := true })) a else s

/-- Row ANSWER_QUEUE_ENABLE: a write of CLL_A_CFG. -/
def execAnswerQueueEnable (a : Fin 16) (v : Word) (s : State) : Res := .next (s.settle (s.hostDo (CLL_A_CFG a) true (·.ansCfg a v)))

/-- A write of CLL_A_HEAD: Answers that waited for room are written (R441). -/
def State.ansHead (s : State) (a : Nat) (v : Word) : State := State.ansFlush 16 (s.wr (CLL_A_HEAD a) (v &&& 0xFFF)) a

/-- Row ANSWER_HEAD_WRITE. -/
def execAnswerHeadWrite (a : Fin 16) (v : Word) (s : State) : Res := .next (s.settle (s.hostDo (CLL_A_HEAD a) true (·.ansHead a v)))

/-! ### Answers to bad Calls (R442) -/

/-- The index of the first bad argument. -/
def firstBadArg (l : List (Nat × Bool)) : Option Nat := (l.find? (·.2)).map (·.1)

/-- A Call goes on unless an argument is bad: then BAD_ARG with its index. -/
def State.callArgs (s : State) (q : Nat) (bad : List (Nat × Bool)) (f : State → State) : State :=
  match firstBadArg bad with
  | some i => s.callAnswer q 2 i
  | none => f s

/-- DATA_ADDR names a buffer of at least `n` bytes. -/
def Call.dataOk (c : Call) (n : Nat) : Bool := c.addr != 0 && decide (n ≤ c.len)

/-! ### General Calls -/

/-- Row CALL_NOP. -/
def execCallNop (q : Fin 16) (s : State) : Res := .next (s.callRun q 0x0001 (fun _ => true) (fun s c => s.callAnswer q 0 (c.arg 0)))

/-- The identification words in the order of R444. -/
def State.idWords (s : State) : List Word :=
  [s.rd BOH_CHIP_ID, s.rd BOH_BOOT_STATUS] ++ (List.range 4).map (fun i => s.rd (RIG_ACTIVE_ID i)) ++ (List.range 8).map (fun c => s.rd (BOH_COACH c)) ++
    [s.rd LND_EP_ID]

/-- Row CALL_IDENTIFY. -/
def execCallIdentify (q : Fin 16) (s : State) : Res :=
  .next (s.callRun q 0x0002 (fun _ => true) (fun s c =>
    if c.dataOk 256 then (s.emit (.hostWrite c.addr (wordsBytes s.idWords))).callAnswer q 0 else s.callAnswer q 5))

/-! ### The Rig controller -/

/-- A Call gives the Rig controller a command: the one that finds it busy is answered with the refusal it gets; the others wait (R59, R444). -/
def State.callRig (s : State) (q : Nat) (f : State → State) : State :=
  if s.rigBusy then
    let t := f s
    t.callAnswer q 3 (0x0503 + 4294967296 * (t.rd RIG_REFUSAL_OWNER).toNat)
  else f (s.callWait q .rig)

/-- A CHECK or COMMIT Call: the image address and length go to their registers. -/
def State.callImage (s : State) (q : Nat) (c : Call) (job : RigJob) : State :=
  let a := c.arg 0
  let n := c.arg 1
  if a % 64 ≠ 0 then s.callAnswer q 2 0
  else if 4294967296 ≤ n then s.callAnswer q 2 1
  else if !s.g7Span a n then s.callAnswer q 5
  else s.callRig q (fun s =>
    let s := if s.rigBusy then s else ((s.wr RIG_IMG_ADDR_LO (w32 a)).wr RIG_IMG_ADDR_HI (w32 (a / 4294967296))).wr RIG_IMG_LEN (w32 n)
    s.rigStart job)

/-- Row CALL_RIG_CHECK. -/
def execCallRigCheck (q : Fin 16) (s : State) : Res := .next (s.callRun q 0x0101 (fun _ => true) (fun s c => s.callImage q c .check))

/-- Row CALL_RIG_COMMIT. -/
def execCallRigCommit (q : Fin 16) (s : State) : Res := .next (s.callRun q 0x0102 (fun _ => true) (fun s c => s.callImage q c .commit))

/-- Row CALL_RIG_ABORT. -/
def execCallRigAbort (q : Fin 16) (s : State) : Res := .next (s.callRun q 0x0103 (fun _ => true) (fun s _ => s.rigAbort.callAnswer q 0))

/-- Row CALL_RIG_REPAIR. -/
def execCallRigRepair (q : Fin 16) (s : State) : Res :=
  .next (s.callRun q 0x0104 (fun _ => true) (fun s c =>
    s.callArgs q [(0, decide (31 < c.arg 0)), (1, decide (7 < c.arg 1))] (fun s => s.callRig q (·.rigRepair (c.arg 0) (c.arg 1)))))

/-! ### Stores -/

/-- Row CAL_LOAD's Call: the store in GDDR7 goes to the Vault (R194, R228). -/
def execCallCalLoad (q : Fin 16) (s : State) : Res :=
  .next (s.callRun q 0x0201 (fun _ => true) (fun s c =>
    s.callArgs q [(2, decide (1 < c.arg 2))] (fun s =>
      if !s.g7Span (c.arg 0) (c.arg 1) then s.callAnswer q 5
      else (s.callWait q (.cal q)).vaultAsk { cls := 1 + c.arg 2, data := s.memRead (c.arg 0) (c.arg 1), path := q })))

/-! ### Time -/

/-- Row CALL_TIME_READ. -/
def execCallTimeRead (q : Fin 16) (s : State) : Res :=
  .next (s.callRun q 0x0301 (fun _ => true) (fun s _ =>
    let s := s.snapshot
    s.callAnswer q 0 (s.ns.toNat + 4294967296 * bitsOf s.frac.toNat 31 24 + 281474976710656 * (s.stk.steps % 65536))
      (s.tb1Now.toNat + 4294967296 * s.tb3Now.toNat)))

/-- A signed 64-bit argument fits a signed 32-bit register. -/
def fits32 (n : Nat) : Bool := decide (n < 2147483648) || (decide (18446744071562067968 ≤ n) && decide (n < 18446744073709551616))

/-- Row CALL_TIME_STEP. -/
def execCallTimeStep (q : Fin 16) (s : State) : Res :=
  .next (s.callRun q 0x0302 (fun _ => true) (fun s c =>
    s.callArgs q [(0, !fits32 (c.arg 0))] (fun s =>
      if s.servo then s.callAnswer q 7 else (s.stepTb0 (w32 (c.arg 0))).callAnswer q 0)))

/-- Row CALL_TIME_INC. -/
def execCallTimeInc (q : Fin 16) (s : State) : Res :=
  .next (s.callRun q 0x0303 (fun _ => true) (fun s c =>
    if s.servo then s.callAnswer q 7
    else
      let s := s.setTb0Inc (w32 (c.arg 0))
      s.callAnswer q 0 (s.fld STK_TB0_STATUS STK_TB0_STATUS_CLAMPED)))

/-- The four registers of TB1's MODE 2 written in one tick (R137). -/
def State.timeAlign (s : State) (align period frac lines : Word) : State :=
  let s := (s.wr STK_TB1_PERIOD_NS period).wr STK_TB1_PERIOD_FRAC (frac &&& 0xFFFF)
  (s.tb1LinesWrite lines).tb1AlignWrite align

/-- Row CALL_TIME_ALIGN. -/
def execCallTimeAlign (q : Fin 16) (s : State) : Res :=
  .next (s.callRun q 0x0304 (fun _ => true) (fun s c =>
    (s.timeAlign (w32 (c.arg 0)) (w32 (c.arg 1)) (w32 (c.arg 2)) (w32 (c.arg 3))).callAnswer q 0))

/-! ### Recording -/

/-- The Calls of REC_CTRL with an action; an action above 3 is bad in each of them. -/
def recAct (k : Nat) (c : Call) : Bool := c.arg 1 == k || decide (3 < c.arg 1)

/-- A REC_CTRL Call with good arguments goes on. -/
def State.callRec (s : State) (q k : Nat) (f : State → Nat → State) : State :=
  s.callRun q 0x0401 (recAct k) (fun s c =>
    s.callArgs q [(0, decide (7 < c.arg 0)), (1, decide (3 < c.arg 1))] (fun s => f s (c.arg 0)))

/-- Row CALL_REC_ARM. -/
def execCallRecArm (q : Fin 16) (s : State) : Res := .next (s.callRec q 0 (fun s c => (s.recCtrl c 1).callAnswer q 0))

/-- Row CALL_REC_DISARM. -/
def execCallRecDisarm (q : Fin 16) (s : State) : Res := .next (s.callRec q 1 (fun s c => (s.recCtrl c 2).callAnswer q 0))

/-- Row CALL_REC_START: refused in Hold with ENCRYPT (R470), failed with START_FAIL, or answered at the apply. -/
def execCallRecStart (q : Fin 16) (s : State) : Res :=
  .next (s.callRec q 2 (fun s c =>
    let hold := s.vault.hold && s.bit (REC_C_CFG c) REC_C_CFG_ENCRYPT
    let s := s.recCtrl c 4
    let f := s.fld (REC_C_STATUS c) REC_C_STATUS_START_FAIL
    if f = 0 then s.callWait q (.recStart c) else if f = 4 && hold then s.callAnswer q 3 0x0305 else s.callAnswer q 4 f))

/-- Row CALL_REC_STOP: answered after the seal; with no clip there is nothing to stop (log entry 80). -/
def execCallRecStop (q : Fin 16) (s : State) : Res :=
  .next (s.callRec q 3 (fun s c =>
    if (s.recOf c).clip.isSome then (s.callWait q (.recSeal c)).recCtrl c 8 else (s.recCtrl c 8).callAnswer q 4 6))

/-! ### Media -/

/-- Row CALL_SET_MOUNT. -/
def execCallSetMount (q : Fin 16) (s : State) : Res :=
  .next (s.callRun q 0x0402 (fun _ => true) (fun s c =>
    s.callArgs q [(0, decide (3 < c.arg 0))] (fun s =>
      let m := c.arg 0
      if !bitOf (s.rd (REC_M_CFG m)) 4 || s.setBusy m then s.callAnswer q 4 (s.setState m)
      else (s.callWait q (.mount m)).setMount m)))

/-- Row CALL_SET_FORMAT. -/
def execCallSetFormat (q : Fin 16) (s : State) : Res :=
  .next (s.callRun q 0x0403 (fun _ => true) (fun s c =>
    s.callArgs q [(0, decide (3 < c.arg 0)), (1, c.arg 1 != 0x5A)] (fun s =>
      let r := s.setFormat (c.arg 0) (c.arg 1)
      if r.2 then r.1.callWait q (.format (c.arg 0)) else r.1.callAnswer q 4 1)))

/-- Row CALL_CLIP_DELETE. -/
def execCallClipDelete (q : Fin 16) (s : State) : Res :=
  .next (s.callRun q 0x0404 (fun _ => true) (fun s c =>
    s.callArgs q [(0, decide (3 < c.arg 0)), (1, decide (32767 < c.arg 1))] (fun s =>
      let r := s.clipDelete (c.arg 0) (c.arg 1)
      if r.2 then r.1.callWait q (.delete (c.arg 0) (c.arg 1)) else r.1.callAnswer q 4 1)))

/-- The 1,024 bytes of a directory entry: the copy that R366 selects. -/
def State.dirCopy (s : State) (m e : Nat) : List Byte :=
  let x := s.mediaOf m
  sliceAt (tabGet x.raw [] (2 * e + b2n (tabGet x.dir {} e).copy)) 0 1024

/-- Row CALL_DIR_READ. -/
def execCallDirRead (q : Fin 16) (s : State) : Res :=
  .next (s.callRun q 0x0405 (fun _ => true) (fun s c =>
    s.callArgs q [(0, decide (3 < c.arg 0)), (1, decide (32767 < c.arg 1)), (2, decide (32768 < c.arg 1 + c.arg 2))] (fun s =>
      let n := c.arg 2
      if !c.dataOk (1024 * n) then s.callAnswer q 5
      else (s.emit (.hostWrite c.addr ((List.range n).flatMap (fun i => s.dirCopy (c.arg 0) (c.arg 1 + i))))).callAnswer q 0 n)))

/-! ### The Vault -/

/-- The service codes of R467. -/
def vaultCodes : List Nat := [0x01, 0x02, 0x03, 0x04, 0x05, 0x10, 0x11, 0x12, 0x20, 0x21, 0x22, 0x30, 0x31, 0x40, 0x41, 0x50]

/-- Row CALL_VAULT: the request is read from the host's data buffer, `data` as PCIe gives it or an error, and passes to the Vault. Every Answer carries the
approved-service indicator (R465). -/
def execCallVault (q : Fin 16) (data : List Byte) (err : Bool) (s : State) : Res :=
  .next (s.callRun q 0x0601 (fun _ => true) (fun s c =>
    if !vaultCodes.contains (c.arg 0) then s.callAnswer q 2 0 1
    else if c.len < c.arg 1 then s.callAnswer q 2 1 1
    else
      let s := if c.arg 1 = 0 then s else s.emit (.hostRead c.addr (c.arg 1))
      if c.arg 1 ≠ 0 && (c.addr = 0 || err) then s.callAnswer q 5 0 1
      else (s.callWait q .vault).vaultHost ⟨q, c.arg 0, sliceAt data 0 (c.arg 1)⟩))

end Sys2Proof.Machine
end

