-- ==== Sys2Proof/Machine/Events.lean ====
section
/-! DEFINITION. Delivery of event occurrences by the router (R475 to R479). Row 252. -/

namespace Sys2Proof.Machine

/-- A Coach's pending bit of an event (R477). -/
def State.coachSet (s : State) (c n : Nat) : State := { s with coachPend := tabSet s.coachPend false (1024 * c + n) true }

/-- A delivery to a Stroke slot: an armed slot matches in the next tick; else the delivery is discarded and counted (R479). -/
def State.evtSlot (s : State) (slot : Nat) : State :=
  if bitOf (s.rd (STK_S_CTRL slot)) 0 then { s with stk := { s.stk with evMatch := s.stk.evMatch ++ [slot] } } else s.inc EVT_STK_DROP

/-- An occurrence reaches every target of its route. -/
def State.evtDeliver (s : State) (o : Occ) : State :=
  let s := if EVT_R_CFG_MSI_EN.get o.cfg = 1 then
      ((s.setFld (EVT_PEND (o.num / 32)) (evtBit o.num) 1).msixSend (EVT_R_CFG_VECTOR.get o.cfg)) else s
  let s := (List.range 8).foldl (fun s c => if bitsOf (EVT_R_CFG_COACH.get o.cfg) c c = 1 then s.coachSet c o.num else s) s
  let seat := EVT_R_TGT_SEAT.get o.tgt
  let s := if EVT_R_TGT_WAKE_EN.get o.tgt = 1 && seat ≤ 287 then s.wakeIndex seat { slot := 0x3FE, event := o.num, ns := o.ns } else s
  let s := if EVT_R_TGT_STK_EN.get o.tgt = 1 then s.evtSlot (EVT_R_TGT_SLOT.get o.tgt) else s
  if EVT_R_CFG_LOG.get o.cfg = 1 then s.logIntake (.event o) else s

/-- Row EVENT_DELIVERY: the oldest occurrence is delivered. -/
def execEventDelivery (s : State) : Res :=
  .next (
    match s.occ with
    | [] => s
    | o :: os => let t := { s with occ := os }; t.settle (t.evtDeliver o))

end Sys2Proof.Machine
end

