-- ==== Sys2Proof/Machine/Flags.lean ====
section
/-! DEFINITION. What an access does to the bits of a register by their access types (R7, R8): this block has no flags of arithmetic. -/

namespace Sys2Proof.Machine

/-- A word written over `old`: RW bits are set, W1S bits set and W1C bits cleared by a 1, and every other bit stays. `fixed` are bits that no write changes,
and `hw` the W1C and W1S bits that the hardware updates in the same clock: the write has no effect on them (R8). -/
def RegRow.written (row : RegRow) (fixed hw old v : Word) : Word :=
  let m := row.rw &&& ~~~fixed
  (((old &&& ~~~m) ||| (v &&& m)) ||| (v &&& row.w1s &&& ~~~hw)) &&& ~~~(v &&& row.w1c &&& ~~~hw)

/-- What a read returns: WO bits read 0. -/
def RegRow.shown (row : RegRow) (v : Word) : Word := v &&& ~~~row.wo

/-- What a register holds after a read: its RC bits are at their reset value, with what a hardware increment in the same clock adds (R8). -/
def RegRow.afterRead (row : RegRow) (i : Nat) (inc v : Word) : Word := (v &&& ~~~row.rc) ||| ((row.reset i + inc) &&& row.rc)

end Sys2Proof.Machine
end

