-- ==== Sys2Proof/Machine/Operands.lean ====
section
/-! DEFINITION. The forms in which a host access names registers (R6): 1, 2, 4 or 8 bytes at an offset, served as accesses of dwords. -/

namespace Sys2Proof.Machine

/-- Bytes of an access: 1, 2, 4 or 8. -/
def accessBytes (size : Fin 4) : Nat := 2 ^ size.val

/-- The dwords that an access of `n` bytes touches, lower address first. -/
def dwordsOf (a n : Nat) : List Nat := (List.range ((a + n - 1) / 4 + 1 - a / 4)).map (fun i => (a / 4 + i) * 4)

/-- The access covers a whole dword. -/
def coversDword (a n o : Nat) : Bool := decide (a ≤ o) && decide (o + 4 ≤ a + n)

end Sys2Proof.Machine
end

