-- ==== Sys2Proof/Machine/Services.lean ====
section
/-! DEFINITION. The services of the Botos Vault, its authentication, Hold, tamper and secure RTC (R456, R460, R461, R465 to R473). Rows VLT_RTC_LO_READ,
VAULT_MB_GO to HOLD_CLEAR, and ENTROPY_HEALTH_FAIL to VBAT_LOW. -/

namespace Sys2Proof.Machine

/-! ### The mailbox (R467) -/

/-- The first `n` bytes of the mailbox window. -/
def State.mbBytes (s : State) (n : Nat) : List Byte := (wordsBytes ((List.range (ceilDiv n 4)).map (fun i => s.rd (VLT_MB_DATA i)))).take n

/-- A response in the window, from byte 0. -/
def State.mbPut (s : State) (b : List Byte) : State :=
  let n := min 16384 b.length
  let old := (s.mbBytes (4 * ceilDiv n 4)).drop n
  (bytesWords (b.take n ++ old)).zipIdx.foldl (fun s w => s.wr (VLT_MB_DATA w.2) w.1) s

/-- BUSY ends with RSTATUS, the length of the response, and CAUSE: the cause of a FAILED request, a free value after another (log entry 148). -/
def State.mbDone (s : State) (status cause : Nat) (resp : List Byte) : State :=
  let c := if status = 4 then cause else (Config.freeByte s.freeCtr 0).toNat
  let s := (s.mbPut resp).wr VLT_MB_RESP (w32 (min 16384 resp.length % 16384))
  let s := ((s.setFld VLT_MB_CTRL ⟨23, 16⟩ c).setFld VLT_MB_CTRL ⟨15, 8⟩ status).setFld VLT_MB_CTRL ⟨1, 1⟩ 0
  if status = 4 then s else s.useFree

/-- A write of VLT_MB_CTRL: SERVICE is set, and GO submits the request unless BUSY; SERVICE 0x3F takes the code from byte 0, and one below 0x40 there is
answered BAD_OPCODE. A code that no service has is BAD_OPCODE too. -/
def State.mbWrite (s : State) (v : Word) : State :=
  let busy := bitOf (s.rd VLT_MB_CTRL) 1
  let s := s.setFld VLT_MB_CTRL ⟨7, 2⟩ (bitsOf v.toNat 7 2)
  if !bitOf v 0 || busy then s
  else
    let b := s.mbBytes (s.rd VLT_MB_LEN).toNat
    let esc := bitsOf v.toNat 7 2 == 0x3F
    let code := if esc then leAt b 0 1 else bitsOf v.toNat 7 2
    if (esc && code < 0x40) || !vaultCodes.contains code then s.mbDone 1 0 []
    else (s.setFld VLT_MB_CTRL ⟨1, 1⟩ 1).vaultHost ⟨16, code, if esc then b.drop 1 else b⟩

/-- Row VAULT_MB_GO. -/
def execVaultMbGo (v : Word) (s : State) : Res := .next (s.settle (s.hostDo VLT_MB_CTRL true (·.mbWrite v)))

/-! ### Serving a request (R465 to R468) -/

/-- What a service answers: a status of R442 with its cause or argument, the response, and the state it leaves. -/
structure Reply where
  status : Nat := 0
  cause : Nat := 0
  resp : List Byte := []
  s : State
deriving DecidableEq, Repr

/-- The Answer of a VAULT Call: the response goes to the data buffer, RESULT1 [0] is 1 (R465), and RESULT0 of a good service is free (log entry 81). -/
def State.vaultAnswer (s : State) (q : Nat) (r : Reply) : State :=
  match (s.callQ q).cur with
  | some (c, some .vault) =>
    if r.status ≠ 0 then s.callAnswer q r.status r.cause 1
    else if !r.resp.isEmpty && !c.dataOk r.resp.length then s.callAnswer q 5 0 1
    else
      let s := if r.resp.isEmpty then s else s.emit (.hostWrite c.addr r.resp)
      let (f, s) := s.drbg 8
      s.callAnswer q 0 (leNat f) 1
  | _ => s

/-- The request in progress leaves the queue, and its path gets the reply. -/
def Reply.give (r : Reply) (path : Nat) : State :=
  let v := r.s.vault
  let w := { v with queue := v.queue.tail }
  let s := r.s.setVault { w with turn := w.next }
  if path = 16 then s.mbDone r.status r.cause r.resp else s.vaultAnswer path r

/-- The host request in progress, where it asks for a service. -/
def State.serving (s : State) (code : Nat) : Option VReq :=
  if s.vault.turn = some false then
    match s.vault.queue with
    | r :: _ => if r.code = code then some r else none
    | [] => none
  else none

/-- The role that the session of a path holds: 1 CO, 2 User. -/
def State.pathRole (s : State) (path : Nat) : Nat := ((tabGet s.vault.sess none path).map (·.1)).getD 0

/-- A service runs on the request in progress if it is the one asked for: without its role it is DENIED; `role` 0 none, 1 CO, 2 User (R466, R467). -/
def State.vaultServe (s : State) (code role : Nat) (f : State → VReq → Reply) : State :=
  match s.serving code with
  | none => s
  | some r =>
    let have_ := s.pathRole r.path
    let reply : Reply := if role = 0 || have_ = 1 || have_ = role then f s r else { status := 7, s := s }
    s.settle (reply.give r.path)

/-- The same for what Hold refuses with 0x0305 (R470). -/
def State.vaultServeOut (s : State) (code role : Nat) (f : State → VReq → Reply) : State :=
  s.vaultServe code role (fun s r => if s.vault.hold then { status := 3, cause := 0x0305, s := s } else f s r)

/-- The request is not as long as its service takes: BAD_ARG with the index of the length. -/
def badLength (s : State) : Reply := { status := 2, cause := 1, s := s }

/-! ### State and tests -/

/-- Row VAULT_STATUS. -/
def execVaultStatus (s : State) : Res :=
  .next (s.vaultServe 0x01 0 (fun s _ =>
    { resp := wordBytes (s.rd VLT_STATUS) ++ wordBytes (s.rd VLT_HOLD_CAUSE) ++ leBytes 4 s.vault.lifecycle ++ leBytes 4 s.vault.keys.length, s := s }))

/-- A self-test fails after SELFTEST: event 999, and Hold bit 2 (R469, R471). -/
def State.selftestHold (s : State) : State := (s.raise 999 0x0E06).vaultHoldSet 2

/-- Row VAULT_SELFTEST: `pass` is the outcome of the pre-operational tests; a pass clears Hold bits 1 and 2 (R469). -/
def execVaultSelftest (pass : Bool) (s : State) : Res :=
  .next (s.vaultServe 0x02 0 (fun s _ =>
    if pass then { s := (s.vaultHoldClear 1).vaultHoldClear 2 } else { status := 4, cause := 1, s := s.selftestHold }))

/-- Row ENTROPY_HEALTH_FAIL (R469). -/
def execEntropyHealthFail (s : State) : Res := .next (s.settle (s.vaultHoldSet 1))

/-- Row CONDITIONAL_SELFTEST_FAIL (R469). -/
def execConditionalSelftestFail (s : State) : Res := .next (s.settle s.selftestHold)

/-- Row HOLD_CLEAR: Hold ends if no cause bit is set, with event 993 (R469). -/
def execHoldClear (s : State) : Res :=
  .next (s.vaultServe 0x50 1 (fun s _ =>
    if s.vault.cause ≠ 0 then { status := 4, cause := 9, s := s }
    else if s.vault.hold then { s := (s.setVault { s.vault with hold := false }).raise 993 0x0E06 }
    else { s := s }))

/-! ### Authentication (R466) -/

/-- Row AUTH_CHALLENGE: from the DRBG, or in Hold from the count, SERIAL and the power cycles. -/
def execAuthChallenge (s : State) : Res :=
  .next (s.vaultServe 0x03 0 (fun s r =>
    let v := s.vault
    let (c, s) := if v.hold then ((sha384 (leBytes 8 v.chalCount ++ sliceAt v.serial 0 16 ++ wordBytes (s.rd LOG_PCYCLES))).take 32, s) else s.drbg 32
    { resp := c, s := s.setVault { s.vault with chal := tabSet s.vault.chal [] r.path c, chalCount := v.chalCount + 1 } }))

/-- A KEY_ID is among the CO keys, or the User keys: those of the policy from DEPLOYED on, the factory's before (R464, R466). -/
def State.roleKey (s : State) (co : Bool) (id : List Byte) : Bool :=
  let v := s.vault
  if v.lifecycle < 2 then co && Config.factoryCo id
  else
    let n := leAt v.pol (if co then 0x0B else 0x0C) 1
    (List.range (min 4 n)).any (fun i => sliceAt v.pol ((if co then 0xD0 else 0x190) + 48 * i) 48 == id)

/-- An authentication fails: event 996, counted, and after 8 in a row the lockout begins. -/
def State.authFail (s : State) : Reply :=
  let s := (s.inc VLT_AUTH_FAIL_CNT).raise 996 0x0E06
  let v := s.vault
  let s := if v.locked then s else s.setVault { v with fails := v.fails + 1, locked := decide (8 ≤ v.fails + 1) }
  { status := 4, cause := 6, s := s }

/-- Row AUTH_RESPONSE: `sigs` says whether both signatures over challenge and SERIAL verify with the keys that the request carries. -/
def execAuthResponse (sigs : Bool) (s : State) : Res :=
  .next (s.vaultServe 0x04 0 (fun s r =>
    let v := s.vault
    let chal := tabGet v.chal [] r.path
    let id := sha384 (sliceAt r.data 1 2049)
    let s := s.setVault { v with chal := tabDel v.chal r.path }
    if r.data.length ≠ 1 + 2049 + 3405 then badLength s
    else
      match Config.authRole (r.data.headD 0) with
      | some co =>
        if !v.locked && !chal.isEmpty && sigs && s.roleKey co id then
          { s := s.setVault { s.vault with fails := 0, sess := tabSet s.vault.sess none r.path (some (if co then 1 else 2, s.ticks)) } }
        else s.authFail
      | none => s.authFail))

/-- Row LOGOUT. -/
def execLogout (s : State) : Res :=
  .next (s.vaultServe 0x05 0 (fun s r => { s := s.setVault { s.vault with sess := tabDel s.vault.sess r.path } }))

/-- Row AUTH_SESSION_TIMEOUT: 600 s without a request on a path, 0 to 15 the Call queues and 16 the mailbox. -/
def execAuthSessionTimeout (path : Fin 17) (s : State) : Res :=
  .next (s.setVault { s.vault with sess := tabDel s.vault.sess path.val })

/-- Row AUTH_LOCKOUT_END. -/
def execAuthLockoutEnd (s : State) : Res :=
  .next (if s.vault.locked then s.setVault { s.vault with locked := false, fails := 0 } else s)

/-! ### Quotes, certificates, random bytes -/

/-- Row QUOTE: for a User, or for anyone with QUOTE_OPEN (R460, R464). -/
def execQuote (s : State) : Res :=
  .next (s.vaultServeOut 0x10 (if s.vault.pflags / 8 % 2 = 1 then 0 else 2) (fun s r =>
    if r.data.length ≠ 32 then badLength s else let (q, s) := s.quote 0 r.data; { resp := q, s := s }))

/-- Row GET_CERTS (R456). -/
def execGetCerts (s : State) : Res := .next (s.vaultServe 0x11 0 (fun s _ => { resp := s.vault.certs, s := s }))

/-- Row RANDOM: the request is the length. -/
def execRandom (s : State) : Res :=
  .next (s.vaultServeOut 0x12 2 (fun s r =>
    let n := leNat r.data
    if n < 1 || 4096 < n then { status := 2, cause := 1, s := s } else let (b, s) := s.drbg n; { resp := b, s := s }))

/-! ### Media keys (R461) -/

/-- The key-encryption key of an import. -/
def State.importKek (s : State) (point : List Byte) (id : Nat) : List Byte :=
  (sha384 ([0, 0, 0, 1] ++ Config.ecdhZ point ++ [0x43, 0x58, 0x39, 0x36, 0x20, 0x4D, 0x4B, 0x49] ++ sliceAt s.vault.serial 0 16 ++ leBytes 4 id)).take 32

/-- Row MEDIA_KEY_IMPORT. -/
def execMediaKeyImport (s : State) : Res :=
  .next (s.vaultServeOut 0x20 1 (fun s r =>
    let v := s.vault
    let id := leAt r.data 0 4
    if r.data.length ≠ 141 || id = 0 then badLength s
    else if v.keys.any (·.1 == id) then { status := 4, cause := 3, s := s }
    else if 64 ≤ v.keys.length then { status := 4, cause := 4, s := s }
    else
      match aesUnwrap (s.importKek (sliceAt r.data 4 97) id) (sliceAt r.data 101 40) with
      | some k => { s := (s.setVault { v with keys := v.keys ++ [(id, k)], gen := v.gen + 1, storeOk := true }).raise 998 0x0E06 }
      | none => { status := 4, cause := 5, s := s }))

/-- Row MEDIA_KEY_DELETE. -/
def execMediaKeyDelete (s : State) : Res :=
  .next (s.vaultServe 0x21 1 (fun s r =>
    let v := s.vault
    let id := leAt r.data 0 4
    if r.data.length ≠ 4 then badLength s
    else if v.keys.any (·.1 == id) then { s := s.setVault { v with keys := v.keys.filter (·.1 != id), gen := v.gen + 1 } }
    else { status := 4, cause := 7, s := s }))

/-- Row MEDIA_KEY_LIST. -/
def execMediaKeyList (s : State) : Res := .next (s.vaultServe 0x22 2 (fun s _ => { resp := s.vault.keys.flatMap (fun k => leBytes 4 k.1), s := s }))

/-! ### Rollback, RTC, zeroisation -/

/-- Row ROLLBACK_ADVANCE: a class and a value (R457, R467). -/
def execRollbackAdvance (s : State) : Res :=
  .next (s.vaultServeOut 0x30 1 (fun s r =>
    let v := s.vault
    let cls := leAt r.data 0 1
    let n := leAt r.data 1 2
    let now := if cls = 0 then v.rbRig else if cls = 1 then v.rbCal else v.rbFw
    let cap := if cls = 0 then v.rigIn else if cls = 1 then v.calIn else v.fwIn
    if r.data.length ≠ 3 || 2 < cls then badLength s
    else if n < now || 1024 < n || cap < n then { status := 4, cause := 2, s := s }
    else
      let w := if cls = 0 then { v with rbRig := n } else if cls = 1 then { v with rbCal := n } else { v with rbFw := n }
      let s := s.setVault w
      { s := if now < n then s.raise 997 0x0E06 else s }))

/-- Row RTC_SET. -/
def execRtcSet (s : State) : Res :=
  .next (s.vaultServe 0x31 1 (fun s r =>
    if r.data.length ≠ 8 then badLength s
    else { s := (s.setVault { s.vault with rtcSec := leNat r.data, rtcTick := s.ticks, rtcValid := true }).raise 1000 0x0E06 }))

/-- Row ZEROISE: with the confirm word (R471). -/
def execZeroise (s : State) : Res :=
  .next (s.vaultServe 0x40 1 (fun s r =>
    if r.data.length ≠ 4 || leNat r.data ≠ 0x5A5AC396 then badLength s else { s := s.zeroise }))

/-- A read of VLT_RTC_LO: the low word is returned, and the high word latched. -/
def State.rtcRead (s : State) : State :=
  { ((s.wr VLT_RTC_LO (w32 s.rtcNow)).wr VLT_RTC_HI (w32 (s.rtcNow / 4294967296))) with hostData := w32 s.rtcNow }

/-- Row VLT_RTC_LO_READ. -/
def execVltRtcLoRead (s : State) : Res := .next (s.hostDo VLT_RTC_LO false (·.rtcRead))

/-! ### Recovery (R467) -/

/-- Row RECOVERY_LOAD: a chunk of a boot loader at a rising offset; the empty one ends the transfer, and the image is verified and started. `k` is what the
public-key tests found, `descAt` where its section holds the boot descriptor, and `script` the set-up script in flash. -/
def execRecoveryLoad (k : SigCheck) (descAt : BitVec 22) (script : List Byte) (s : State) : Res :=
  .next (s.vaultServe 0x41 0 (fun s r =>
    let v := s.vault
    let off := leAt r.data 0 4
    let chunk := r.data.drop 4
    if s.stage ≠ 6 || s.rd BOH_BOOT_ERR ≠ 3 then { status := 4, cause := 8, s := s }
    else if r.data.length < 4 || off < v.loader.length || 4194304 < off + chunk.length then badLength s
    else if !chunk.isEmpty then { s := s.setVault { v with loader := sliceAt v.loader 0 off ++ chunk } }
    else
      let s := s.setVault { v with loader := [] }
      if s.loaderOk v.loader k then { s := s.loaderStart v.loader (sliceAt v.loader ((sectEntryAt v.loader 256).off + descAt.toNat) 64) script }
      else { s := s }))

/-! ### Tamper (R472) -/

/-- A tamper source is enabled: the inputs and the mesh by the policy, the internal detectors always. -/
def State.tamperOn (s : State) (n : Nat) : Bool := if n < 5 then bitsOf (leAt s.vault.pol 8 1) n n == 1 else true

/-- Row TAMPER_DETECT: sources 0 to 3 are TAMP_IN0–3, 4 the mesh, 5 the temperature, 6 the oscillator; without VDD_AON zeroisation waits for power-up. -/
def execTamperDetect (n : Fin 7) (aon : Bool) (s : State) : Res :=
  .next (
    if !s.tamperOn n then s
    else
      let t := s.setFld VLT_TAMPER ⟨n, n⟩ 1
      if aon then s.settle ((t.raise 994 0x0E06).zeroise) else t.setVault { t.vault with tampWait := true })

/-- Row VBAT_LOW: RTC_VALID clears, with no zeroisation. -/
def execVbatLow (s : State) : Res :=
  .next (((s.setFld VLT_TAMPER ⟨7, 7⟩ 1).setVault { s.vault with rtcValid := false }).raise 994 0x0E06)

end Sys2Proof.Machine
end

