-- ==== Sys2Proof/Machine/HostAccess.lean ====
section
/-! DEFINITION. Accesses of BAR0 in general (R6 to R9, R38 to R42): what a write does to each register, and what a read returns. Rows
HOST_REGISTER_WRITE, UNMAPPED_ACCESS and RC_READ. -/

namespace Sys2Proof.Machine

/-! ### Plain registers -/

/-- A write by the access types (R7, R8): RW bits are set, W1C bits cleared and W1S bits set by a 1; the host changes no RG bit. A W1C or W1S bit under
`hw` is one that the hardware updates in the same clock: the write has no effect on it. -/
def State.plainWrite (s : State) (row : RegRow) (i o : Nat) (v hw : Word) : State :=
  let r : Reg := ⟨o, row.reset i⟩
  s.wr r (row.written (fixedBits o) hw (s.rd r) v)

/-- A register write whose effect the access types say alone. -/
abbrev Effect := Nat → Word → State → State

/-! ### Shadows -/

/-- A write to a layer's shadow is discarded while its commit is pending, and WR_DISCARD is set (R264). -/
def State.layerGuard (s : State) (n l : Nat) : Option State :=
  if s.bit (CMP_L_STATUS n l) CMP_L_STATUS_PENDING then some (s.setBit (CMP_L_STATUS n l) CMP_L_STATUS_WR_DISCARD true) else none

/-- What guards a write to a register of a shadow, by its offset: a layer's registers, EXPECT of a bound buoy (R272), and those of an encoder session
with its map (R324). -/
def State.shadowGuard (s : State) (row : RegRow) (o : Nat) : Option State :=
  if row.rw = 0 then none
  else if 0x2400000 ≤ o && o < 0x2440000 then
    let n := (o - 0x2400000) / 0x10000
    let d := o % 0x10000
    if 0x1000 ≤ d && d < 0x1800 then s.layerGuard n ((d - 0x1000) / 0x100)
    else if 0x800 ≤ d && d < 0xA00 && d % 0x20 = 0xC then
      let l := s.fld (CMP_B_CFG n ((d - 0x800) / 0x20)) CMP_B_CFG_BIND
      if l < 8 then s.layerGuard n l else none
    else none
  else if 0x3000000 ≤ o && o < 0x3400000 && 0x1000 ≤ o % 0x100000 && row.base ≠ (ENC_S_BS_RP 0 0).off then
    let c := (o - 0x3000000) / 0x100000
    let e := (o % 0x100000 - 0x1000) / 0x1000
    if s.bit (ENC_S_STATUS c e) ENC_S_STATUS_PENDING then some (s.setBit (ENC_S_STATUS c e) ENC_S_STATUS_WR_DISCARD true) else none
  else none

/-! ### Registers whose write does more -/

/-- Chip, time and Landing registers: base of the row, and the effect at a distance from it. -/
def effectsChip : List (Nat × Effect) := [
  (RIG_CMD.off, fun _ v s => s.rigCmd v),
  (BOH_REGION_RESET.off, fun _ v s => s.regionWrite v (bitOf v 8)),
  (BOH_BLOCK_RESET.off, fun _ v s => s.blockWrite (v.toNat % 65536)),
  (BOH_SHUTDOWN.off, fun _ v s => s.shutWrite v),
  (STK_TB0_INC.off, fun _ v s => s.tb0IncWrite v false),
  (STK_TB0_STEP.off, fun _ v s => s.tb0StepWrite v false),
  (STK_TB1_CTRL.off, fun _ v s => s.tb1ModeWrite v),
  (STK_TB1_LINES.off, fun _ v s => s.tb1LinesWrite v),
  (STK_TB1_ALIGN.off, fun _ v s => s.tb1AlignWrite v),
  (STK_TB1_PERIOD_NS.off, fun _ v s => s.tb1PeriodWrite false v),
  (STK_TB1_PERIOD_FRAC.off, fun _ v s => s.tb1PeriodWrite true v),
  (STK_TB3_CTRL.off, fun _ v s => s.tb3Write v),
  ((STK_S_CTRL 0).off, fun d v s => s.slotCtrl (d / 32) v),
  ((STK_S_COMPARE 0).off, fun d v s => s.slotCompare (d / 32) v false),
  ((STK_S_REPEAT 0).off, fun d v s => if s.slotOwned (d / 32) then s.wr (STK_S_REPEAT (d / 32)) v else s),
  ((PTP_P_TXQ_POP 0).off, fun d v s => if bitOf v 0 then s.ptpPop (d / 256) else s),
  (LND_BAR2_BASE_LO.off, fun _ v s => s.bar2Base false v),
  (LND_BAR2_BASE_HI.off, fun _ v s => s.bar2Base true v),
  ((LND_D_TAIL 0).off, fun d v s => s.dmaTail (d / 32) v),
  ((CLL_Q_TAIL 0).off, fun d v s => s.callTail (d / 64) v),
  ((CLL_Q_CFG 0).off, fun d v s => s.callCfg (d / 64) v),
  ((CLL_A_BASE_LO 0).off, fun d v s => if bitOf (s.rd (CLL_A_CFG (d / 64))) 8 then s else s.wr (CLL_A_BASE_LO (d / 64)) (v &&& 0xFFFFFFE0)),
  ((CLL_A_BASE_HI 0).off, fun d v s => if bitOf (s.rd (CLL_A_CFG (d / 64))) 8 then s else s.wr (CLL_A_BASE_HI (d / 64)) v),
  ((CLL_A_CFG 0).off, fun d v s => s.ansCfg (d / 64) v),
  ((CLL_A_HEAD 0).off, fun d v s => s.ansHead (d / 64) v),
  ((ETH_Q_TAIL 0 0).off, fun d v s => s.ethTail (d / 65536) (d % 65536 / 64) v),
  (VLT_MB_CTRL.off, fun _ v s => s.mbWrite v),
  (LOG_CTRL.off, fun _ v s => s.logCtrl v),
  (LOG_RD_SLOT.off, fun _ v s => s.logSelect v)]

/-- Sensor-port, raw front-end and colour registers. -/
def effectsHead : List (Nat × Effect) := [
  ((SPT_P_SCRIPT_CTRL 0).off, fun d v s => s.scriptGo (d / 65536) v),
  ((SPT_P_LEG_CTRL 0).off, fun d v s => s.legCtrlWrite (d / 65536) v),
  ((SPT_L_BITSLIP 0 0).off, fun d v s => s.bitslip (d / 65536) (d % 65536 / 32) v),
  ((SPT_H_CMD_CTRL 0).off, fun d v s => s.cmdCtrlWrite (d / 65536) v),
  ((SPT_SG_REJOIN 0).off, fun d v s => s.sgRejoinWrite (d / 64) v),
  ((CAT_H_USER_COMMIT 0).off, fun d v s => s.userCommitWrite (d / 65536) v),
  ((CAT_TBL_DATA 0).off, fun d v s => s.tblAccess (d / 65536) true v),
  ((CAT_DEF_DATA 0 0).off, fun d v s => s.defAccess (d / 65536) (d % 65536 / 4) true v),
  ((CAT_DEF_QUERY 0).off, fun d v s => s.defQuery (d / 65536) v),
  ((DRV_H_COMMIT 0 0).off, fun d v s => s.drvCommitWrite (d / 524288) (d % 524288 / 4096) v),
  ((DRV_H_ILL_DATA 0 0).off, fun d v s => s.illAccess (d / 524288) (d % 524288 / 4096) true v),
  ((LKP_CTRL 0).off, fun d v s => s.lkpSwapWrite (d / 65536) v),
  ((LKP_TBL_DATA0 0).off, fun d v s => s.lkpAccess (d / 65536) false true v),
  ((LKP_TBL_DATA1 0).off, fun d v s => s.lkpAccess (d / 65536) true true v)]

/-- Compositor, scan-out, codec, recording and audio registers. -/
def effectsMedia : List (Nat × Effect) := [
  ((CMP_BG 0).off, fun d v s => ((s.wr (CMP_BG (d / 65536)) (v &&& 0x3FFFFFFF)).psrChange (d / 65536)).psrExit (d / 65536)),
  ((CMP_L_COMMIT 0 0).off, fun d v s => s.layerCommitWrite (d / 65536) (d % 65536 / 256) v),
  ((CMP_L_POST 0 0).off, fun d v s => s.layerPostWrite (d / 65536) (d % 65536 / 256) v),
  ((CMP_B_CFG 0 0).off, fun d v s => s.buoyCfgWrite (d / 65536) (d % 65536 / 32) v),
  ((CMP_B_STATUS 0 0).off, fun d v s => s.buoyStatusWrite (d / 65536) (d % 65536 / 32) v),
  ((SCN_CTRL 0).off, fun d v s => s.scnCtrlWrite (d / 65536) v),
  ((SCN_SB_CTRL 0).off, fun d v s => s.sbWrite (d / 65536) v),
  ((ENC_S_COMMIT 0 0).off, fun d v s => s.encCommitWrite (d / 1048576) (d % 1048576 / 4096) v),
  ((ENC_S_BS_RP 0 0).off, fun d v s => s.encRpWrite (d / 1048576) (d % 1048576 / 4096) v),
  ((ZRX_S_OUT_RP 0).off, fun d v s => s.zrxRpWrite (d / 256) v),
  ((CMX_J_TAIL 0).off, fun d v s => s.jobTailWrite (d / 64) v),
  ((REC_M_CTRL 0).off, fun d v s => s.setCtrl (d / 256) v),
  ((REC_C_CTRL 0).off, fun d v s => s.recCtrl (d / 4096) v),
  ((DEC_S_CMD 0).off, fun d v s => s.decCmdWrite (d / 4096) v),
  ((DEC_S_IN_WP 0).off, fun d v s => s.decInWp (d / 4096) v),
  ((AUD_P_CTRL 0).off, fun d v s => s.audCtrl (d / 32768) v),
  ((AUD_D_MASK 0 0).off, fun d v s => s.audMaskWrite (d / 32768) (d % 32768 / 256) v),
  ((AUD_D_MUTE 0 0).off, fun d v s => s.audMuteWrite (d / 32768) (d % 32768 / 256) v),
  ((AUD_D_WP 0 1).off, fun d v s => s.audWp (d / 32768) v)]

/-- The effect of a write to the registers of a row, where it is more than its access types say. -/
def effectOf (base : Nat) : Option Effect :=
  let l := if base < 0x1000000 || (0x4000000 ≤ base && base < 0x4800000) then effectsChip
    else if base < 0x2400000 then effectsHead else effectsMedia
  (l.find? (fun e => e.1 == base)).map (·.2)

/-! ### One 32-bit access -/

/-- A 32-bit write that reaches a mapped register. -/
def State.regWrite (s : State) (o : Nat) (v hw : Word) : State :=
  match regRowAt o with
  | none => s
  | some (row, i) =>
    match s.shadowGuard row o with
    | some t => t
    | none =>
      match effectOf row.base with
      | some f => f (o - row.base) (v &&& ~~~(hw &&& (row.w1c ||| row.w1s))) s
      | none => s.plainWrite row i o v hw

/-- What a 32-bit read returns, with what it does (R7): a register whose read latches or advances another does so; WO bits read 0; RC bits are cleared to
their reset value, and then hold what a hardware increment in the same clock adds (R8). -/
def State.regRead (s : State) (o : Nat) (inc : Word) : State :=
  match regRowAt o with
  | none => { s with hostData := 0 }
  | some (row, i) =>
    let d := o - row.base
    let b := row.base
    if b = STK_TB0_NOW.off then { s.snapshot with hostData := s.ns }
    else if b = STK_TB1_NOW.off then { s with hostData := s.tb1Now }
    else if b = STK_TB3_NOW.off then { s with hostData := s.tb3Now }
    else if b = (UMP_S_DELAY_LO 0).off then s.delayRead (d / 64)
    else if b = LOG_SEQ_LO.off then s.logSeqRead
    else if b = LOG_OPTIME_LO.off then s.logTimeRead
    else if b = VLT_RTC_LO.off then s.rtcRead
    else if b = (CAT_TBL_DATA 0).off then s.tblAccess (d / 65536) false 0
    else if b = (CAT_DEF_DATA 0 0).off then s.defAccess (d / 65536) (d % 65536 / 4) false 0
    else if b = (DRV_H_ILL_DATA 0 0).off then s.illAccess (d / 524288) (d % 524288 / 4096) false 0
    else if b = (LKP_TBL_DATA0 0).off then s.lkpAccess (d / 65536) false false 0
    else if b = (LKP_TBL_DATA1 0).off then s.lkpAccess (d / 65536) true false 0
    else
      let r : Reg := ⟨o, row.reset i⟩
      let v := s.rd r
      let s := { s with hostData := row.shown v }
      if row.rc = 0 then s else s.wr r (row.afterRead i inc v)

/-- A write that covers a dword or a part of one: a mapped register takes only a whole one (R6), and an unmapped offset answers by R39. -/
def State.dwordWrite (s : State) (o : Nat) (whole : Bool) (v hw : Word) : State :=
  if s.accessible o then if whole then s.regWrite o v hw else s else s.unmapped o true

/-- A read of a dword. -/
def State.dwordRead (s : State) (o : Nat) (inc : Word) : State :=
  if s.accessible o then s.regRead o inc else s.unmapped o false

/-! ### Rows -/

/-- Row HOST_REGISTER_WRITE: a host write of 1, 2, 4 or 8 bytes at an offset; `hw` has the W1C and W1S bits that the hardware updates in the same clock. -/
def execHostRegisterWrite (addr : BitVec 28) (size : Fin 4) (v : BitVec 64) (hw : Word) (s : State) : Res :=
  .next (
    if !s.hostUp then s
    else
      let a := addr.toNat
      let n := accessBytes size
      s.settle ((dwordsOf a n).foldl (fun s o => s.dwordWrite o (coversDword a n o) (w32 (v.toNat / 2 ^ (8 * (o - a)))) hw) s))

/-- Row UNMAPPED_ACCESS: a host access of 1, 2, 4 or 8 bytes to offsets that are not mapped, or whose region is not in service (R39 to R42). -/
def execUnmappedAccess (addr : BitVec 28) (size : Fin 4) (write : Bool) (s : State) : Res :=
  .next (
    if !s.hostUp then s
    else s.settle ((dwordsOf addr.toNat (accessBytes size)).foldl (fun s o => if s.accessible o then s else s.unmapped o write) s))

/-- Row RC_READ: a host read of 1, 2 or 4 bytes; `inc` is what a hardware increment in the same clock adds, in the places of the RC fields. A narrow read
returns the bytes addressed (R6). -/
def execRcRead (addr : BitVec 28) (size : Fin 3) (inc : Word) (s : State) : Res :=
  .next (
    if !s.hostUp then s
    else
      let a := addr.toNat
      let t := s.settle (s.dwordRead (a / 4 * 4) inc)
      { t with hostData := w32 (t.hostData.toNat / 2 ^ (8 * (a % 4)) % 2 ^ (8 * 2 ^ size.val)) })

end Sys2Proof.Machine
end

