-- ==== Sys2Proof/Machine/Oar.lean ====
section
/-! DEFINITION. The custom instructions of the Oars, seat time, the watchdog, and Coach faults (R411 to R422, R428). Rows STPOP to COACH_RESTARTED.
Each row names the Eight, the logical seat and the context, and brings what the context's RISC-V instructions have left before it. -/

namespace Sys2Proof.Machine

/-! ### The address spaces (R413) -/

/-- Where an Oar address lies: local memory, shared memory, GDDR7 or BAR0 through a window; with the place there, the window's permissions, and how many
bytes follow in the space. -/
structure OarPlace where
  kind : Nat
  at_ : Nat
  perm : Nat
  left : Nat
deriving DecidableEq, Repr

/-- The place of an Oar address. -/
def OarProg.place (g : OarProg) (a : Nat) : Option OarPlace :=
  if a < 0x40000 then some ⟨0, a, 3, 0x40000 - a⟩
  else if 0x100000 ≤ a && a < 0x300000 then some ⟨1, a, 3, 0x300000 - a⟩
  else if a < 0x400000000 then none
  else
    match g.windows[a / 0x400000000 - 1]? with
    | some w =>
      let d := a % 0x400000000
      if d < 2 ^ w.log then some ⟨2 + w.kind, w.base + d, w.perm, 2 ^ w.log - d⟩ else none
    | none => none

/-- The pieces of `n` bytes from an Oar address, at most two spaces in a row: none where a byte lies outside, or the access is forbidden (bit 0 read, bit 1
write). -/
def OarProg.pieces (g : OarProg) (a n bit : Nat) : Option (List (OarPlace × Nat)) :=
  let ok (p : OarPlace) : Bool := bitsOf p.perm bit bit == 1
  match g.place a with
  | none => none
  | some p =>
    if !ok p then none
    else if n ≤ p.left then some [(p, n)]
    else
      match g.place (a + p.left) with
      | none => none
      | some q => if ok q && n - p.left ≤ q.left then some [(p, p.left), (q, n - p.left)] else none

/-- A 32-bit access of an Oar through a BAR0 window acts as the host's (log entry 86); the host sees nothing of it. -/
def State.oarBus (s : State) (o : Nat) (whole : Bool) (v : Option Word) : Word × State :=
  match v with
  | some w => (0, s.dwordWrite o whole w 0)
  | none => let t := s.dwordRead o 0; (t.hostData, { t with hostData := s.hostData })

/-- Bytes read from BAR0, each dword once. -/
def State.barRead (s : State) (a n : Nat) : List Byte × State :=
  let (bs, t) := (dwordsOf a n).foldl (fun (acc : List Byte × State) o => let (w, t) := acc.2.oarBus o true none; (acc.1 ++ wordBytes w, t)) ([], s)
  ((bs.drop (a % 4)).take n, t)

/-- Bytes written to BAR0: whole dwords, and narrower accesses at the ends. -/
def State.barWrite (s : State) (a : Nat) (bs : List Byte) : State :=
  (dwordsOf a bs.length).foldl (fun s o => (s.oarBus o (coversDword a bs.length o) (some (w32 (leAt bs (o - a) 4)))).2) s

/-- Bytes read from a place. -/
def State.placeRead (s : State) (e l : Nat) (p : OarPlace) (n : Nat) : List Byte × State :=
  if p.kind = 2 then (s.memRead p.at_ n, s)
  else if p.kind = 3 then s.barRead p.at_ n
  else ((List.range n).map (fun i => s.oarByte e l (p.at_ + i)), s)

/-- Bytes written to a place. -/
def State.placeWrite (s : State) (e l : Nat) (p : OarPlace) (bs : List Byte) : State :=
  if p.kind = 2 then s.memWrite p.at_ bs else if p.kind = 3 then s.barWrite p.at_ bs else s.oarFill e l p.at_ bs

/-- One byte stored by an Oar; a store that raises the access fault changes nothing. -/
def State.oarStore (s : State) (g : OarProg) (e l a : Nat) (b : Byte) : State :=
  match g.place a with
  | some p => if bitsOf p.perm 1 1 = 1 && p.kind ≠ 3 then s.placeWrite e l p [b] else s
  | none => s

/-! ### What runs before a command (R411, R412, R416) -/

/-- A context gets the seat: another that ran is ready again. -/
def State.seatTake (s : State) (e l c : Nat) : State :=
  let s := (List.range 8).foldl (fun s k => if k ≠ c && s.ctxState e l k = 2 then s.setCtxState e l k 1 else s) s
  if s.ctxState e l c = 2 then s else s.setCtxState e l c 2

/-- A context with what its instructions have left. -/
def OarCtx.after (x : OarCtx) (r : OarRun) : OarCtx :=
  { x with
    pc := r.pc
    x := r.x.foldl (fun t e => if e.1 % 32 = 0 then t else tabSet t 0 (e.1 % 32) e.2) x.x
    f := r.f.foldl (fun t e => tabSet t 0 (e.1 % 32) e.2) x.f
    v := r.v.foldl (fun t e => tabSet t 0 (e.1 % 32) e.2) x.v
    csrs := r.csrs.foldl (fun t e => tabSet t 0 (e.1 % 4096) e.2) x.csrs
    vl := r.vl, sew := r.sew
    cycle := x.cycle + r.clocks, instret := x.instret + r.retired, budget := x.budget - r.clocks
    inTrap := if r.mret then false else x.inTrap }

/-- What a context's instructions have left: only a context that is ready or running, on an Eight that runs, executes. -/
def State.oarRun (s : State) (e l c : Nat) (r : OarRun) : Option (State × OarProg) :=
  match s.prog e l with
  | none => none
  | some g =>
    if !s.running (0x0100 + e) || !(s.ctxState e l c = 1 || s.ctxState e l c = 2) then none
    else
      let s := s.seatTake e l c
      let s := s.setCtx e l c ((s.ctxOf e l c).after r)
      let s := r.stores.foldl (fun s w => s.oarStore g e l w.1 w.2) s
      let s := r.bus.foldl (fun s w =>
        match g.place w.1 with
        | some p => if p.kind = 3 && bitsOf p.perm (b2n w.2.isSome) (b2n w.2.isSome) = 1 && p.at_ % 4 = 0 then (s.oarBus p.at_ true w.2).2 else s
        | none => s) s
      some (s, g)

/-- A custom instruction of a context. -/
def State.oarDo (s : State) (e l c : Nat) (r : OarRun) (f : State → OarProg → State) : State :=
  match s.oarRun e l c r with
  | some (t, g) => s.settle (f t g)
  | none => s

/-- An instruction completes: the next one follows. -/
def OarCtx.done (x : OarCtx) : OarCtx := { x with pc := x.pc + 4, instret := x.instret + 1, wait := none }

/-- A context's instruction completes with an integer result. -/
def State.oarResult (s : State) (e l c rd : Nat) (v : BitVec 64) : State := s.setCtx e l c ((s.ctxOf e l c).setX rd v).done

/-- A context waits. -/
def State.oarWait (s : State) (e l c : Nat) (w : OarWait) : State :=
  (s.setCtx e l c { s.ctxOf e l c with wait := some w, waitAt := s.ticks }).setCtxState e l c 3

/-- The illegal-instruction exception. -/
def State.oarIllegal (s : State) (e l c : Nat) : State := s.ctxTrap e l c 2

/-! ### Stream ports (R418, R419) -/

/-- The port of an immediate: imm[11:3] must be 0, and the program binds the port in the direction asked for. -/
def OarProg.port (g : OarProg) (imm : BitVec 12) (out : Bool) : Option Nat :=
  if 8 ≤ imm.toNat then none
  else
    match g.ports[imm.toNat]? with
    | some q => if (if out then q.dir == 1 && decide (q.kind < 2) else q.dir == 0) then some imm.toNat else none
    | none => none

/-- The far end of an outbound port, Eight and port. -/
def OarPort.far (q : OarPort) (e : Nat) : Option (Nat × Nat) :=
  if q.dir = 1 && q.kind < 2 && q.peer < 8 then
    if q.kind = 0 then some (e, q.peer) else if q.inst < 32 then some (q.inst, q.peer) else none
  else none

/-- Words pass from an outbound port to its far end, which is the same FIFO or another, while it has room. -/
def State.portFlow (s : State) (e p : Nat) (far : Nat × Nat) : State :=
  if far = (e, p) || !s.running (0x0100 + far.1) then s
  else
    let q := s.portQ e p
    let d := s.portQ far.1 far.2
    let n := min q.length (512 - d.length)
    (s.setPortQ e p (q.drop n)).setPortQ far.1 far.2 (d ++ q.take n)

/-- The outbound port of a seat passes its words on. -/
def State.portOut (s : State) (g : OarProg) (e p : Nat) : State :=
  match (g.ports[p]?).bind (fun q => q.far e) with
  | some far => s.portFlow e p far
  | none => s

/-- The outbound ports that end at a port pass their words on. -/
def State.portIn (s : State) (e p : Nat) : State :=
  (List.range 32).foldl (fun s k => (List.range 8).foldl (fun s l =>
    match s.prog k l with
    | some g => g.ports.zipIdx.foldl (fun s q => if q.1.far k = some (e, p) then s.portFlow k q.2 (e, p) else s) s
    | none => s) s) s

/-- `n` words of an inbound port, if they are there. -/
def State.portTake (s : State) (e p n : Nat) : Option (List (BitVec 64) × State) :=
  let q := s.portQ e p
  if q.length < n then none else some (q.take n, (s.setPortQ e p (q.drop n)).portIn e p)

/-- Words into an outbound port while there is room, and the words left. -/
def State.portGive (s : State) (g : OarProg) (e p : Nat) (vs : List (BitVec 64)) : State × List (BitVec 64) :=
  let q := s.portQ e p
  let n := 512 - q.length
  ((s.setPortQ e p (q ++ vs.take n)).portOut g e p, vs.drop n)

/-! ### Vector elements (R419), one in each port word (log entry 53) -/

/-- The vector group of the context lies within v0 to v31, and SEW is legal. -/
def OarCtx.vecOk (x : OarCtx) (vd : Nat) : Bool :=
  (x.sew == 8 || x.sew == 16 || x.sew == 32 || x.sew == 64) && decide (vd * 512 + x.vl * x.sew ≤ 32 * 512)

/-- Element `i` of a group. -/
def OarCtx.element (x : OarCtx) (vd i : Nat) : Nat :=
  let k := i * x.sew
  bitsOf (tabGet x.v 0 (vd + k / 512)).toNat (k % 512 + x.sew - 1) (k % 512)

/-- Element `i` of a group set. -/
def OarCtx.setElement (x : OarCtx) (vd i : Nat) (w : BitVec 64) : OarCtx :=
  let k := i * x.sew
  let r := vd + k / 512
  let o := (tabGet x.v 0 r).toNat
  let lo := k % 512
  { x with v := tabSet x.v 0 r (BitVec.ofNat 512 (o - bitsOf o (lo + x.sew - 1) lo * 2 ^ lo + w.toNat % 2 ^ x.sew * 2 ^ lo)) }

/-- The words that VSTPUSH appends: the bits above SEW are free. -/
def State.vecWords (s : State) (x : OarCtx) (vs : Nat) : List (BitVec 64) :=
  (List.range x.vl).map (fun i => BitVec.ofNat 64 (x.element vs i) ||| ((Config.stHigh (s.freeCtr + i) >>> x.sew) <<< x.sew))

/-! ### DMA (R420) -/

/-- A DMA descriptor: 32 bytes of local memory. -/
structure OarDma where
  src : Nat
  dst : Nat
  len : Nat
  rows : Nat
  spitch : Nat
  dpitch : Nat
deriving DecidableEq, Repr

/-- The fields of a descriptor. -/
def oarDma (d : List Byte) : OarDma :=
  ⟨leAt d 0 8, leAt d 8 8, leAt d 16 4, max 1 (leAt d 20 2), leAt d 24 4, leAt d 28 4⟩

/-- Every row of a descriptor lies in the spaces of R413 with the access it needs, and LEN is 1 to 2^24. -/
def OarProg.dmaOk (g : OarProg) (d : OarDma) : Bool :=
  decide (1 ≤ d.len && d.len ≤ 16777216) &&
  (List.range d.rows).all (fun i => (g.pieces (d.src + i * d.spitch) d.len 0).isSome && (g.pieces (d.dst + i * d.dpitch) d.len 1).isSome)

/-- One row moved. -/
def State.dmaRow (s : State) (g : OarProg) (e l src dst len : Nat) : State :=
  match g.pieces src len 0, g.pieces dst len 1 with
  | some ps, some qs =>
    let (bs, s) := ps.foldl (fun (acc : List Byte × State) p => let (b, t) := acc.2.placeRead e l p.1 p.2; (acc.1 ++ b, t)) ([], s)
    (qs.foldl (fun (acc : State × List Byte) q => (acc.1.placeWrite e l q.1 (acc.2.take q.2), acc.2.drop q.2)) (s, bs)).1
  | _, _ => s

/-- The rows of a descriptor moved in order. -/
def State.dmaMove (s : State) (g : OarProg) (e l : Nat) (d : OarDma) : State :=
  (List.range d.rows).foldl (fun s i => s.dmaRow g e l (d.src + i * d.spitch) (d.dst + i * d.dpitch) d.len) s

/-- Tickets of a context whose transfer has not ended. -/
def OarCtx.open_ (x : OarCtx) : Nat := (x.tickets.filter (fun t => t.status.isNone)).length

/-- DMASTART with a ticket free: the descriptor is read and checked, and the ticket is given; a failed check ends it with status 1. -/
def State.dmaStart (s : State) (g : OarProg) (e l c rd a : Nat) : State :=
  if 0x40000 < a + 32 then s.ctxTrap e l c 5
  else
    let d := (List.range 32).map (fun i => s.oarByte e l (a + i))
    let x := s.ctxOf e l c
    let n := x.nextTicket
    let t : Ticket := ⟨n, d, if g.dmaOk (oarDma d) then none else some 1⟩
    let x := { x with tickets := x.tickets.filter (fun (k : Ticket) => k.num != n) ++ [t], nextTicket := (n + 1) % 65536 }
    s.setCtx e l c (x.setX rd (BitVec.ofNat 64 n)).done

/-- DMAWAIT on a ticket that has ended or is unknown: its status, and the ticket is used up. -/
def State.dmaStatus (s : State) (e l c rd n : Nat) : Option State :=
  let x := s.ctxOf e l c
  match x.tickets.find? (fun t => t.num == n) with
  | none => some (s.oarResult e l c rd 3)
  | some t =>
    match t.status with
    | some k => some (s.setCtx e l c (({ x with tickets := x.tickets.filter (fun k => k.num != n) }).setX rd (BitVec.ofNat 64 k)).done)
    | none => none

/-! ### Waits that end (R412) -/

/-- A wait whose data, room, delivery or DMA is there: the instruction completes, or a vector push goes on. -/
def State.waitEnds (s : State) (g : OarProg) (e l c : Nat) (w : OarWait) : Option State :=
  let x := s.ctxOf e l c
  match w with
  | .pop rd p => (s.portTake e p 1).map (fun r => r.2.oarResult e l c rd (r.1.headD 0))
  | .push p v => if 512 ≤ (s.portQ e p).length then none else some ((s.portGive g e p [v]).1.oarResult e l c 0 0)
  | .vpop vd p => (s.portTake e p x.vl).map (fun r => r.2.setCtx e l c (r.1.zipIdx.foldl (fun x w => x.setElement vd w.2 w.1) x).done)
  | .vpush p vs =>
    if !vs.isEmpty && 512 ≤ (s.portQ e p).length then none
    else
      let (t, rest) := s.portGive g e p vs
      let (t, rest) := if rest.isEmpty then (t, rest) else t.portGive g e p rest
      some (if rest.isEmpty then t.oarResult e l c 0 0 else t.oarWait e l c (.vpush p rest))
  | .swait _ _ _ => none
  | .got rd v => some (s.oarResult e l c rd v)
  | .dmaStart rd a => if x.open_ < 4 then some (s.dmaStart g e l c rd a) else none
  | .dmaWait rd n => s.dmaStatus e l c rd n

/-- An instruction that may wait: it completes at once, or the context waits. -/
def State.oarTry (s : State) (g : OarProg) (e l c : Nat) (w : OarWait) : State :=
  match s.waitEnds g e l c w with
  | some t => t
  | none => s.oarWait e l c w

/-! ### Rows of the stream instructions -/

/-- Row STPOP. -/
def execStpop (e : Fin 32) (l c : Fin 8) (rd : BitVec 5) (imm : BitVec 12) (run : OarRun) (s : State) : Res :=
  .next (s.oarDo e l c run (fun s g =>
    match g.port imm false with
    | some p => s.oarTry g e l c (.pop rd.toNat p)
    | none => s.oarIllegal e l c))

/-- Row STPUSH. -/
def execStpush (e : Fin 32) (l c : Fin 8) (rs1 : BitVec 5) (imm : BitVec 12) (run : OarRun) (s : State) : Res :=
  .next (s.oarDo e l c run (fun s g =>
    match g.port imm true with
    | some p => s.oarTry g e l c (.push p ((s.ctxOf e l c).getX rs1.toNat))
    | none => s.oarIllegal e l c))

/-- Row VSTPOP. -/
def execVstpop (e : Fin 32) (l c : Fin 8) (vd : BitVec 5) (imm : BitVec 12) (run : OarRun) (s : State) : Res :=
  .next (s.oarDo e l c run (fun s g =>
    match g.port imm false with
    | some p => if (s.ctxOf e l c).vecOk vd.toNat then s.oarTry g e l c (.vpop vd.toNat p) else s.oarIllegal e l c
    | none => s.oarIllegal e l c))

/-- Row VSTPUSH. -/
def execVstpush (e : Fin 32) (l c : Fin 8) (vs3 : BitVec 5) (imm : BitVec 12) (run : OarRun) (s : State) : Res :=
  .next (s.oarDo e l c run (fun s g =>
    match g.port imm true with
    | some p =>
      let x := s.ctxOf e l c
      if x.vecOk vs3.toNat then { s with freeCtr := s.freeCtr + x.vl }.oarTry g e l c (.vpush p (s.vecWords x vs3.toNat)) else s.oarIllegal e l c
    | none => s.oarIllegal e l c))

/-! ### SWAIT (R419, R478) -/

/-- The first wake-up of a queue that a selection takes, and the queue without it. -/
def takeWake (sel : Nat) : List Wake → Option (Wake × List Wake)
  | [] => none
  | w :: ws => if selTakes sel w.slot then some (w, ws) else (takeWake sel ws).map (fun r => (r.1, w :: r.2))

/-- A wake-up that is queued for the seat: in the context's own queue first, then in the others'. -/
def State.seatWake (s : State) (e l c sel : Nat) : Option (Wake × State) :=
  (c :: (List.range 8).filter (· != c)).findSome? (fun k => (takeWake sel (s.ctxOf e l k).queue).map (fun r => (r.1, s.setQueue e l k r.2)))

/-- Row SWAIT: a delivery that is queued is taken at once; else the context waits, with a timeout where rs2 holds one. -/
def execSwait (e : Fin 32) (l c : Fin 8) (rd rs1 rs2 : BitVec 5) (run : OarRun) (s : State) : Res :=
  .next (s.oarDo e l c run (fun s _ =>
    let x := s.ctxOf e l c
    let v := (x.getX rs1.toNat).toNat
    if 1024 ≤ v || (512 ≤ v && v ≤ 0x3FD) then s.oarIllegal e l c
    else
      let s := s.setCtx e l c { x with sel := some v }
      match s.seatWake e l c v with
      | some (w, t) => t.oarResult e l c rd.toNat w.value
      | none => s.oarWait e l c (.swait rd.toNat v (x.getX rs2.toNat != 0))))

/-- Row SWAIT_TIMEOUT: the context is ready again; a delivery that has come stands (R128). -/
def execSwaitTimeout (e : Fin 32) (l c : Fin 8) (s : State) : Res :=
  .next (
    match (s.ctxOf e l c).wait with
    | some (.swait rd _ true) =>
      if s.running (0x0100 + e.val) && s.ctxState e l c = 3 then (s.oarResult e l c rd (timeoutValue s.ns)).setCtxState e l c 1 else s
    | _ => s)

/-! ### EVRAISE, DMASTART and DMAWAIT -/

/-- Row EVRAISE; `rd` must be 0. -/
def execEvraise (e : Fin 32) (l c : Fin 8) (rd rs1 rs2 : BitVec 5) (run : OarRun) (s : State) : Res :=
  .next (s.oarDo e l c run (fun s g =>
    let x := s.ctxOf e l c
    let n := bitsOf (x.getX rs1.toNat).toNat 9 0
    if rd ≠ 0 then s.oarIllegal e l c
    else
      let s := s.oarResult e l c 0 0
      if bitsOf (leNat g.events) n n = 1 then s.raise n (0x0100 + e.val) [w32 (x.getX rs2.toNat).toNat]
      else (s.inc (EGT_EV_DENY e)).raiseOnce 69 e.val (0x0100 + e.val) [w32 e.val]))

/-- Row DMASTART; `rs2` must be 0. -/
def execDmastart (e : Fin 32) (l c : Fin 8) (rd rs1 rs2 : BitVec 5) (run : OarRun) (s : State) : Res :=
  .next (s.oarDo e l c run (fun s g =>
    if rs2 ≠ 0 then s.oarIllegal e l c else s.oarTry g e l c (.dmaStart rd.toNat ((s.ctxOf e l c).getX rs1.toNat).toNat)))

/-- Row DMAWAIT; `rs2` must be 0. -/
def execDmawait (e : Fin 32) (l c : Fin 8) (rd rs1 rs2 : BitVec 5) (run : OarRun) (s : State) : Res :=
  .next (s.oarDo e l c run (fun s g =>
    if rs2 ≠ 0 then s.oarIllegal e l c else s.oarTry g e l c (.dmaWait rd.toNat (((s.ctxOf e l c).getX rs1.toNat).toNat % 65536))))

/-- Row OAR_DMA_COMPLETE: the data moves and the ticket is ready; poisoned data gives status 2, and a failed seat discards the data (R93, R420, R425). -/
def execOarDmaComplete (e : Fin 32) (l c : Fin 8) (num : BitVec 16) (poison : Bool) (s : State) : Res :=
  .next (
    let x := s.ctxOf e l c
    match x.tickets.find? (fun t => t.num == num.toNat && t.status.isNone), s.prog e l with
    | some t, some g =>
      let failed := bitOf (s.rd (EGT_SEAT_STATE e)) (s.physSeat e l)
      let m := if failed then s else s.dmaMove g e l (oarDma t.desc)
      let y := m.ctxOf e l c
      s.settle (m.setCtx e l c { y with tickets := y.tickets.map (fun k =>
        if k.num == num.toNat then { k with status := some (if failed || poison then 2 else 0) } else k) })
    | _, _ => s)

/-- Row OAR_CONTEXT_RESUME: what a waiting context waits for is there, and it is ready (R412). -/
def execOarContextResume (e : Fin 32) (l c : Fin 8) (s : State) : Res :=
  .next (
    match (s.ctxOf e l c).wait, s.prog e l with
    | some w, some g =>
      if s.running (0x0100 + e.val) && s.ctxState e l c = 3 then
        match s.waitEnds g e l c w with
        | some t => s.settle (if (t.ctxOf e l c).wait.isSome || t.ctxState e l c ≠ 3 then t else t.setCtxState e l c 1)
        | none => s
      else s
    | _, _ => s)

/-- Row OAR_TRAP: an exception of a RISC-V instruction of a context, with its mcause. -/
def execOarTrap (e : Fin 32) (l c : Fin 8) (mcause : BitVec 64) (run : OarRun) (s : State) : Res :=
  .next (s.oarDo e l c run (fun s _ => s.ctxTrap e l c mcause))

/-! ### Seat time and taps -/

/-- Clocks of budget for each thousandth of RATE: 160, and 120 from level 2 on (R416, R497). -/
def State.budgetClocks (s : State) : Nat := if 2 ≤ s.fld HLT_STATUS HLT_STATUS_LEVEL then 120 else 160

/-- Row SEAT_PERIOD_REFILL: the budgets of an Eight's Iso and Firm tasks are refilled. -/
def execSeatPeriodRefill (e : Fin 32) (s : State) : Res :=
  .next (
    if !s.running (0x0100 + e.val) then s
    else
      (List.range 64).foldl (fun s i =>
        let (l, c) := (i / 8, i % 8)
        match s.taskRec e l c with
        | some r =>
          let s := s.seatDelay e l c
          s.setCtx e l c { s.ctxOf e l c with budget := (s.rd (UMP_S_RATE r)).toNat * s.budgetClocks }
        | none => s) s)

/-- Row TAP_WORD: a tap of KIND 2 (`look` false) or 3 pushes a word. -/
def execTapWord (look : Bool) (inst : Fin 8) (w : BitVec 64) (s : State) : Res := .next (s.tapWord (if look then 3 else 2) inst w)

/-- Row EIGHT_WATCHDOG: EGT_WDOG expires for a watched task at level 1 or 2 (R422). -/
def execEightWatchdog (e : Fin 32) (l c : Fin 8) (s : State) : Res :=
  .next (
    let st := s.ctxState e l c
    let watched := match s.task e l c with | some t => t.wdog | none => false
    if s.running (0x0100 + e.val) && watched && (st = 1 || st = 2) && !s.taskLow e l c then
      s.settle ((s.raise 67 (0x0100 + e.val) [w32 e.val]).blkFault (0x0100 + e.val))
    else s)

/-! ### Coaches (R428) -/

/-- Calls in progress on a Coach get an Answer with status 6 (R442). -/
def State.coachDrop (s : State) (c : Nat) : State :=
  let parts := s.coachParts c
  (List.range 16).foldl (fun s q =>
    match (s.callQ q).cur with
    | some (k, some _) => if bitsOf parts (Config.callPart k.op % 16) (Config.callPart k.op % 16) = 1 then s.callAnswer q 6 else s
    | _ => s) s

/-- Row COACH_FAULT. -/
def execCoachFault (c : Fin 8) (s : State) : Res :=
  .next (
    let b := 0x0F00 + c.val
    let k := s.blkOf b
    if k.phase = .down || k.phase = .stopped then s
    else s.settle ((((s.raise 74 b [w32 c.val]).coachDrop c).blkFault b).setFld (BOH_COACH c) ⟨2, 0⟩ 2))

/-- Row COACH_HANDOVER_DONE: the stopped Coach's partitions pass on, and it restarts. -/
def execCoachHandoverDone (c : Fin 8) (s : State) : Res :=
  .next (
    let b := 0x0F00 + c.val
    if (s.blkOf b).phase = .stopped && bitsOf (s.rd (BOH_COACH c)).toNat 2 0 = 2 then
      (((s.coachHand c).setFld (BOH_COACH c) ⟨2, 0⟩ 3).raise 72 b [w32 c.val])
    else s)

/-- Row COACH_RESTARTED: the Coach runs again with its home partitions, and event 73. -/
def execCoachRestarted (c : Fin 8) (s : State) : Res :=
  .next (
    let b := 0x0F00 + c.val
    if (s.blkOf b).phase = .stopped && bitsOf (s.rd (BOH_COACH c)).toNat 2 0 = 3 then s.settle (s.boundary b) else s)

end Sys2Proof.Machine
end

