-- ==== Sys2Proof/Machine/Dispatch.lean ====
section
/-! DEFINITION. Which meaning each command has. -/

namespace Sys2Proof.Machine

def exec (i : Instr) (s : State) : Host.Outcome State Fault Refusal :=
  match i with
  | .hostRegisterWrite addr size v hw => Sys2Proof.Machine.execHostRegisterWrite addr size v hw s
  | .unmappedAccess addr size write => Sys2Proof.Machine.execUnmappedAccess addr size write s
  | .stkTb0NowRead => Sys2Proof.Machine.execStkTb0NowRead s
  | .umpSDelayLoRead r => Sys2Proof.Machine.execUmpSDelayLoRead r s
  | .vltRtcLoRead => Sys2Proof.Machine.execVltRtcLoRead s
  | .logSeqLoRead => Sys2Proof.Machine.execLogSeqLoRead s
  | .logOptimeLoRead => Sys2Proof.Machine.execLogOptimeLoRead s
  | .powerOnReset aon off dens clam agree => Sys2Proof.Machine.execPowerOnReset aon off dens clam agree s
  | .bootPllLocked => Sys2Proof.Machine.execBootPllLocked s
  | .selftestDone pass store => Sys2Proof.Machine.execSelftestDone pass store s
  | .loaderVerified slotB img k descAt script => Sys2Proof.Machine.execLoaderVerified slotB img k descAt script s
  | .g7TrainingDone rate addr rig => Sys2Proof.Machine.execG7TrainingDone rate addr rig s
  | .paddleTimeout => Sys2Proof.Machine.execPaddleTimeout s
  | .hostWarmReset => Sys2Proof.Machine.execHostWarmReset s
  | .regionReset regions => Sys2Proof.Machine.execRegionReset regions s
  | .regionDown regions => Sys2Proof.Machine.execRegionDown regions s
  | .regionBoundaryReached r => Sys2Proof.Machine.execRegionBoundaryReached r s
  | .regionResetTimeout r => Sys2Proof.Machine.execRegionResetTimeout r s
  | .blockReset bid => Sys2Proof.Machine.execBlockReset bid s
  | .blockResetTimeout bid => Sys2Proof.Machine.execBlockResetTimeout bid s
  | .blockBoundaryReached bid => Sys2Proof.Machine.execBlockBoundaryReached bid s
  | .shutdown v => Sys2Proof.Machine.execShutdown v s
  | .shutdownStepDone => Sys2Proof.Machine.execShutdownStepDone s
  | .shutdownStepTimeout => Sys2Proof.Machine.execShutdownStepTimeout s
  | .rigCmdCommit => Sys2Proof.Machine.execRigCmdCommit s
  | .rigCmdCheck => Sys2Proof.Machine.execRigCmdCheck s
  | .rigCmdAbort => Sys2Proof.Machine.execRigCmdAbort s
  | .rigCmdRepair e p => Sys2Proof.Machine.execRigCmdRepair e p s
  | .rigImageCopied => Sys2Proof.Machine.execRigImageCopied s
  | .rigChecksComplete => Sys2Proof.Machine.execRigChecksComplete s
  | .rigBlockHeld bid => Sys2Proof.Machine.execRigBlockHeld bid s
  | .rigBoundaryTimeout => Sys2Proof.Machine.execRigBoundaryTimeout s
  | .eightRemapRestart e => Sys2Proof.Machine.execEightRemapRestart e s
  | .cellCorrectedError bid seat => Sys2Proof.Machine.execCellCorrectedError bid seat s
  | .cellUncorrectableError unit seat => Sys2Proof.Machine.execCellUncorrectableError unit seat s
  | .coxControlParityError bid => Sys2Proof.Machine.execCoxControlParityError bid s
  | .coxAnswerTimeout bid => Sys2Proof.Machine.execCoxAnswerTimeout bid s
  | .coursePortError r => Sys2Proof.Machine.execCoursePortError r s
  | .streamBoundaryStop k => Sys2Proof.Machine.execStreamBoundaryStop k s
  | .gddr7Request r write a data length waited alone course fails ecc => Sys2Proof.Machine.execGddr7Request r write a data length waited alone course fails ecc s
  | .g7ChannelRetrain ch => Sys2Proof.Machine.execG7ChannelRetrain ch s
  | .streamDataProduced r n taken => Sys2Proof.Machine.execStreamDataProduced r n taken s
  | .streamDataConsumed r n => Sys2Proof.Machine.execStreamDataConsumed r n s
  | .tb0IncWrite v servo => Sys2Proof.Machine.execTb0IncWrite v servo s
  | .tb0Step v servo => Sys2Proof.Machine.execTb0Step v servo s
  | .tb0Wrap => Sys2Proof.Machine.execTb0Wrap s
  | .tb1ModeWrite v => Sys2Proof.Machine.execTb1ModeWrite v s
  | .genlockPulse lines lineQ16 => Sys2Proof.Machine.execGenlockPulse lines lineQ16 s
  | .tb1HoldoverTimeout => Sys2Proof.Machine.execTb1HoldoverTimeout s
  | .tb1AlignWrite v => Sys2Proof.Machine.execTb1AlignWrite v s
  | .tb1AlignReached => Sys2Proof.Machine.execTb1AlignReached s
  | .tb3Enable v => Sys2Proof.Machine.execTb3Enable v s
  | .mainsEdgeConfirmed => Sys2Proof.Machine.execMainsEdgeConfirmed s
  | .tb3HoldoverTimeout => Sys2Proof.Machine.execTb3HoldoverTimeout s
  | .slotArm n => Sys2Proof.Machine.execSlotArm n s
  | .slotDisarm n matching => Sys2Proof.Machine.execSlotDisarm n matching s
  | .slotCompareWrite n v matching => Sys2Proof.Machine.execSlotCompareWrite n v matching s
  | .slotMatch n => Sys2Proof.Machine.execSlotMatch n s
  | .slotDelivery errs => Sys2Proof.Machine.execSlotDelivery errs s
  | .gpioPulseEnd g => Sys2Proof.Machine.execGpioPulseEnd g s
  | .ptpPTxqPop p => Sys2Proof.Machine.execPtpPTxqPop p s
  | .ptpAnnounceTimeout eight => Sys2Proof.Machine.execPtpAnnounceTimeout eight s
  | .laneIdleExit h => Sys2Proof.Machine.execLaneIdleExit h s
  | .eqAdaptDone h => Sys2Proof.Machine.execEqAdaptDone h s
  | .trainTimeout h => Sys2Proof.Machine.execTrainTimeout h s
  | .lockTimeout h => Sys2Proof.Machine.execLockTimeout h s
  | .zlBlockInvalid h k valid => Sys2Proof.Machine.execZlBlockInvalid h k valid s
  | .zlAlign h lanes => Sys2Proof.Machine.execZlAlign h lanes s
  | .zlTrain h k c => Sys2Proof.Machine.execZlTrain h k c s
  | .zlIdle h k c => Sys2Proof.Machine.execZlIdle h k c s
  | .zlFrameStart h c => Sys2Proof.Machine.execZlFrameStart h c s
  | .zlLineStart h c => Sys2Proof.Machine.execZlLineStart h c s
  | .zlPayload h d => Sys2Proof.Machine.execZlPayload h d s
  | .zlLineEnd h c => Sys2Proof.Machine.execZlLineEnd h c s
  | .zlFrameEnd h c => Sys2Proof.Machine.execZlFrameEnd h c s
  | .zlStatus h c => Sys2Proof.Machine.execZlStatus h c s
  | .zlResponse h c d => Sys2Proof.Machine.execZlResponse h c d s
  | .zlSleep h c => Sys2Proof.Machine.execZlSleep h c s
  | .lineTimeout h => Sys2Proof.Machine.execLineTimeout h s
  | .frameTimeout h => Sys2Proof.Machine.execFrameTimeout h s
  | .sgDeadline g => Sys2Proof.Machine.execSgDeadline g s
  | .sgRejoinWrite g v => Sys2Proof.Machine.execSgRejoinWrite g v s
  | .sptCmdGo p v => Sys2Proof.Machine.execSptCmdGo p v s
  | .sptCmdTimeout h => Sys2Proof.Machine.execSptCmdTimeout h s
  | .cmdlTxIdleTimeout h => Sys2Proof.Machine.execCmdlTxIdleTimeout h s
  | .cmdlWakeTimeout h => Sys2Proof.Machine.execCmdlWakeTimeout h s
  | .triggerPulseEnd h => Sys2Proof.Machine.execTriggerPulseEnd h s
  | .sptLBitslip p l v => Sys2Proof.Machine.execSptLBitslip p l v s
  | .legacyAlign p v => Sys2Proof.Machine.execLegacyAlign p v s
  | .legacyAlignDone p offs => Sys2Proof.Machine.execLegacyAlignDone p offs s
  | .legacyRun p v => Sys2Proof.Machine.execLegacyRun p v s
  | .legacySyncCode p code => Sys2Proof.Machine.execLegacySyncCode p code s
  | .scriptGo p v => Sys2Proof.Machine.execScriptGo p v s
  | .scriptEntryDone p ok => Sys2Proof.Machine.execScriptEntryDone p ok s
  | .catUserCommitGo h v => Sys2Proof.Machine.execCatUserCommitGo h v s
  | .catTblDataAccess h write v => Sys2Proof.Machine.execCatTblDataAccess h write v s
  | .catDefDataAccess h write v => Sys2Proof.Machine.execCatDefDataAccess h write v s
  | .catDefQuery h v => Sys2Proof.Machine.execCatDefQuery h v s
  | .catDefQueryDone h => Sys2Proof.Machine.execCatDefQueryDone h s
  | .defectIndexBuilt h => Sys2Proof.Machine.execDefectIndexBuilt h s
  | .calStoreVerified colour flash k => Sys2Proof.Machine.execCalStoreVerified colour flash k s
  | .headTempStale h => Sys2Proof.Machine.execHeadTempStale h s
  | .bufferRelease ring buf reader => Sys2Proof.Machine.execBufferRelease ring buf reader s
  | .drvHCommitGo p h v => Sys2Proof.Machine.execDrvHCommitGo p h v s
  | .drvPrecomputeDone h => Sys2Proof.Machine.execDrvPrecomputeDone h s
  | .drvHIllDataAccess p h write v => Sys2Proof.Machine.execDrvHIllDataAccess p h write v s
  | .lkpSwap n v => Sys2Proof.Machine.execLkpSwap n v s
  | .lkpBankCopyDone n => Sys2Proof.Machine.execLkpBankCopyDone n s
  | .lkpTblDataAccess n hi write v => Sys2Proof.Machine.execLkpTblDataAccess n hi write v s
  | .lkpFrameWritten n => Sys2Proof.Machine.execLkpFrameWritten n s
  | .layerCommit n l v => Sys2Proof.Machine.execLayerCommit n l v s
  | .layerPost n l v => Sys2Proof.Machine.execLayerPost n l v s
  | .buoyLearn n b v => Sys2Proof.Machine.execBuoyLearn n b v s
  | .buoyFsClear n b v => Sys2Proof.Machine.execBuoyFsClear n b v s
  | .wbFrameWritten n => Sys2Proof.Machine.execWbFrameWritten n s
  | .timingWrite n v => Sys2Proof.Machine.execTimingWrite n v s
  | .scnSoftStop n v => Sys2Proof.Machine.execScnSoftStop n v s
  | .scnStart n v => Sys2Proof.Machine.execScnStart n v s
  | .scnPsrExit n v => Sys2Proof.Machine.execScnPsrExit n v s
  | .scnPllLocked n us => Sys2Proof.Machine.execScnPllLocked n us s
  | .scnRelockTimeout n => Sys2Proof.Machine.execScnRelockTimeout n s
  | .scnFrameStart n => Sys2Proof.Machine.execScnFrameStart n s
  | .scnLine n missed => Sys2Proof.Machine.execScnLine n missed s
  | .scnDeliveryTimeout n => Sys2Proof.Machine.execScnDeliveryTimeout n s
  | .scnSbGo n v => Sys2Proof.Machine.execScnSbGo n v s
  | .scnSbDone n ok data => Sys2Proof.Machine.execScnSbDone n ok data s
  | .hpdChange n level => Sys2Proof.Machine.execHpdChange n level s
  | .scnLinkTrained n ok psr => Sys2Proof.Machine.execScnLinkTrained n ok psr s
  | .encPictureStart c extra pre => Sys2Proof.Machine.execEncPictureStart c extra pre s
  | .encCtuRowDone c hdr cands data => Sys2Proof.Machine.execEncCtuRowDone c hdr cands data s
  | .encPictureDone c => Sys2Proof.Machine.execEncPictureDone c s
  | .encSessionCommit c e v => Sys2Proof.Machine.execEncSessionCommit c e v s
  | .encBsRpWrite c e v => Sys2Proof.Machine.execEncBsRpWrite c e v s
  | .zrxFrameStart z => Sys2Proof.Machine.execZrxFrameStart z s
  | .zrxTileCoded z => Sys2Proof.Machine.execZrxTileCoded z s
  | .zrxFrameDone z => Sys2Proof.Machine.execZrxFrameDone z s
  | .zrxOutRpWrite z v => Sys2Proof.Machine.execZrxOutRpWrite z v s
  | .cmxFallback => Sys2Proof.Machine.execCmxFallback s
  | .cmxRestore => Sys2Proof.Machine.execCmxRestore s
  | .cmxJobSubmit j v => Sys2Proof.Machine.execCmxJobSubmit j v s
  | .cmxJobComplete j => Sys2Proof.Machine.execCmxJobComplete j s
  | .recArm c => Sys2Proof.Machine.execRecArm c s
  | .recDisarm c => Sys2Proof.Machine.execRecDisarm c s
  | .recStart c => Sys2Proof.Machine.execRecStart c s
  | .recStop c => Sys2Proof.Machine.execRecStop c s
  | .nvmeCompletion p tag status data => Sys2Proof.Machine.execNvmeCompletion p tag status data s
  | .nvmeCmdTimeout p tag => Sys2Proof.Machine.execNvmeCmdTimeout p tag s
  | .nvmeAbortTimeout p tag => Sys2Proof.Machine.execNvmeAbortTimeout p tag s
  | .setMount m v => Sys2Proof.Machine.execSetMount m v s
  | .setMountDone m rd => Sys2Proof.Machine.execSetMountDone m rd s
  | .setFormat m v => Sys2Proof.Machine.execSetFormat m v s
  | .setFormatDone m => Sys2Proof.Machine.execSetFormatDone m s
  | .clipDelete m e => Sys2Proof.Machine.execClipDelete m e s
  | .decLoad d v => Sys2Proof.Machine.execDecLoad d v s
  | .decPlay d v => Sys2Proof.Machine.execDecPlay d v s
  | .decPause d v => Sys2Proof.Machine.execDecPause d v s
  | .decSeek d v => Sys2Proof.Machine.execDecSeek d v s
  | .decStep d v => Sys2Proof.Machine.execDecStep d v s
  | .decStop d v => Sys2Proof.Machine.execDecStop d v s
  | .decCmdDone d info => Sys2Proof.Machine.execDecCmdDone d info s
  | .decPictureDecoded d c => Sys2Proof.Machine.execDecPictureDecoded d c s
  | .decInWpWrite d v => Sys2Proof.Machine.execDecInWpWrite d v s
  | .audStart p => Sys2Proof.Machine.execAudStart p s
  | .audStop p => Sys2Proof.Machine.execAudStop p s
  | .audPortStarted p fetched => Sys2Proof.Machine.execAudPortStarted p fetched s
  | .audFrameSync p width rx serve fetched => Sys2Proof.Machine.execAudFrameSync p width rx serve fetched s
  | .audFsTimeout p => Sys2Proof.Machine.execAudFsTimeout p s
  | .audMaskWrite p d v => Sys2Proof.Machine.execAudMaskWrite p d v s
  | .audMuteWrite p d v => Sys2Proof.Machine.execAudMuteWrite p d v s
  | .audWpWrite p v => Sys2Proof.Machine.execAudWpWrite p v s
  | .audRampEnd p d => Sys2Proof.Machine.execAudRampEnd p d s
  | .stpop e l c rd imm run => Sys2Proof.Machine.execStpop e l c rd imm run s
  | .stpush e l c rs1 imm run => Sys2Proof.Machine.execStpush e l c rs1 imm run s
  | .vstpop e l c vd imm run => Sys2Proof.Machine.execVstpop e l c vd imm run s
  | .vstpush e l c vs3 imm run => Sys2Proof.Machine.execVstpush e l c vs3 imm run s
  | .swait e l c rd rs1 rs2 run => Sys2Proof.Machine.execSwait e l c rd rs1 rs2 run s
  | .swaitTimeout e l c => Sys2Proof.Machine.execSwaitTimeout e l c s
  | .evraise e l c rd rs1 rs2 run => Sys2Proof.Machine.execEvraise e l c rd rs1 rs2 run s
  | .dmastart e l c rd rs1 rs2 run => Sys2Proof.Machine.execDmastart e l c rd rs1 rs2 run s
  | .dmawait e l c rd rs1 rs2 run => Sys2Proof.Machine.execDmawait e l c rd rs1 rs2 run s
  | .oarDmaComplete e l c num poison => Sys2Proof.Machine.execOarDmaComplete e l c num poison s
  | .oarContextResume e l c => Sys2Proof.Machine.execOarContextResume e l c s
  | .oarTrap e l c mcause run => Sys2Proof.Machine.execOarTrap e l c mcause run s
  | .seatPeriodRefill e => Sys2Proof.Machine.execSeatPeriodRefill e s
  | .tapWord look inst w => Sys2Proof.Machine.execTapWord look inst w s
  | .eightWatchdog e l c => Sys2Proof.Machine.execEightWatchdog e l c s
  | .coachFault c => Sys2Proof.Machine.execCoachFault c s
  | .coachHandoverDone c => Sys2Proof.Machine.execCoachHandoverDone c s
  | .coachRestarted c => Sys2Proof.Machine.execCoachRestarted c s
  | .quadLinkUp q gen width lanes d => Sys2Proof.Machine.execQuadLinkUp q gen width lanes d s
  | .quadLinkDown q => Sys2Proof.Machine.execQuadLinkDown q s
  | .quadTrainTimeout q => Sys2Proof.Machine.execQuadTrainTimeout q s
  | .quadRetryDetect q => Sys2Proof.Machine.execQuadRetryDetect q s
  | .ethLpiEntry p => Sys2Proof.Machine.execEthLpiEntry p s
  | .bar2Access write off data len => Sys2Proof.Machine.execBar2Access write off data len s
  | .hostDmaSubmit k v => Sys2Proof.Machine.execHostDmaSubmit k v s
  | .hostDmaDescDone k desc data err => Sys2Proof.Machine.execHostDmaDescDone k desc data err s
  | .msixUnmask v mask => Sys2Proof.Machine.execMsixUnmask v mask s
  | .callSubmit q entries tail => Sys2Proof.Machine.execCallSubmit q entries tail s
  | .callQueueEnable q v => Sys2Proof.Machine.execCallQueueEnable q v s
  | .answerQueueEnable a v => Sys2Proof.Machine.execAnswerQueueEnable a v s
  | .answerHeadWrite a v => Sys2Proof.Machine.execAnswerHeadWrite a v s
  | .callNop q => Sys2Proof.Machine.execCallNop q s
  | .callIdentify q => Sys2Proof.Machine.execCallIdentify q s
  | .callRigCheck q => Sys2Proof.Machine.execCallRigCheck q s
  | .callRigCommit q => Sys2Proof.Machine.execCallRigCommit q s
  | .callRigAbort q => Sys2Proof.Machine.execCallRigAbort q s
  | .callRigRepair q => Sys2Proof.Machine.execCallRigRepair q s
  | .callCalLoad q => Sys2Proof.Machine.execCallCalLoad q s
  | .callTimeRead q => Sys2Proof.Machine.execCallTimeRead q s
  | .callTimeStep q => Sys2Proof.Machine.execCallTimeStep q s
  | .callTimeInc q => Sys2Proof.Machine.execCallTimeInc q s
  | .callTimeAlign q => Sys2Proof.Machine.execCallTimeAlign q s
  | .callRecArm q => Sys2Proof.Machine.execCallRecArm q s
  | .callRecDisarm q => Sys2Proof.Machine.execCallRecDisarm q s
  | .callRecStart q => Sys2Proof.Machine.execCallRecStart q s
  | .callRecStop q => Sys2Proof.Machine.execCallRecStop q s
  | .callSetMount q => Sys2Proof.Machine.execCallSetMount q s
  | .callSetFormat q => Sys2Proof.Machine.execCallSetFormat q s
  | .callClipDelete q => Sys2Proof.Machine.execCallClipDelete q s
  | .callDirRead q => Sys2Proof.Machine.execCallDirRead q s
  | .callVault q data err => Sys2Proof.Machine.execCallVault q data err s
  | .ethRxFrame p f fcs buf => Sys2Proof.Machine.execEthRxFrame p f fcs buf s
  | .ethTxTailWrite p t v => Sys2Proof.Machine.execEthTxTailWrite p t v s
  | .ethTxFrameSent p t desc data => Sys2Proof.Machine.execEthTxFrameSent p t desc data s
  | .ethSendPacket n => Sys2Proof.Machine.execEthSendPacket n s
  | .rtpWindowExpire r => Sys2Proof.Machine.execRtpWindowExpire r s
  | .rtpPathSilent r b => Sys2Proof.Machine.execRtpPathSilent r b s
  | .vaultMbGo v => Sys2Proof.Machine.execVaultMbGo v s
  | .vaultStatus => Sys2Proof.Machine.execVaultStatus s
  | .vaultSelftest pass => Sys2Proof.Machine.execVaultSelftest pass s
  | .authChallenge => Sys2Proof.Machine.execAuthChallenge s
  | .authResponse sigs => Sys2Proof.Machine.execAuthResponse sigs s
  | .logout => Sys2Proof.Machine.execLogout s
  | .quote => Sys2Proof.Machine.execQuote s
  | .getCerts => Sys2Proof.Machine.execGetCerts s
  | .random => Sys2Proof.Machine.execRandom s
  | .mediaKeyImport => Sys2Proof.Machine.execMediaKeyImport s
  | .mediaKeyDelete => Sys2Proof.Machine.execMediaKeyDelete s
  | .mediaKeyList => Sys2Proof.Machine.execMediaKeyList s
  | .rollbackAdvance => Sys2Proof.Machine.execRollbackAdvance s
  | .rtcSet => Sys2Proof.Machine.execRtcSet s
  | .zeroise => Sys2Proof.Machine.execZeroise s
  | .recoveryLoad k descAt script => Sys2Proof.Machine.execRecoveryLoad k descAt script s
  | .holdClear => Sys2Proof.Machine.execHoldClear s
  | .vaultVerifyDone k => Sys2Proof.Machine.execVaultVerifyDone k s
  | .entropyHealthFail => Sys2Proof.Machine.execEntropyHealthFail s
  | .conditionalSelftestFail => Sys2Proof.Machine.execConditionalSelftestFail s
  | .authSessionTimeout path => Sys2Proof.Machine.execAuthSessionTimeout path s
  | .authLockoutEnd => Sys2Proof.Machine.execAuthLockoutEnd s
  | .tamperDetect n aon => Sys2Proof.Machine.execTamperDetect n aon s
  | .vbatLow => Sys2Proof.Machine.execVbatLow s
  | .eventDelivery => Sys2Proof.Machine.execEventDelivery s
  | .logRecordAssembled => Sys2Proof.Machine.execLogRecordAssembled s
  | .logCtrlFlush => Sys2Proof.Machine.execLogCtrlFlush s
  | .logCtrlNote => Sys2Proof.Machine.execLogCtrlNote s
  | .logFlushDone high => Sys2Proof.Machine.execLogFlushDone high s
  | .powerFail => Sys2Proof.Machine.execPowerFail s
  | .opTimeStore => Sys2Proof.Machine.execOpTimeStore s
  | .healthChannelRead k reading aux => Sys2Proof.Machine.execHealthChannelRead k reading aux s
  | .housekeepingRoundEnd => Sys2Proof.Machine.execHousekeepingRoundEnd s
  | .coursePllGraceExpire => Sys2Proof.Machine.execCoursePllGraceExpire s
  | .coreDroop => Sys2Proof.Machine.execCoreDroop s
  | .ltcFrameDecoded v => Sys2Proof.Machine.execLtcFrameDecoded v s
  | .ltcInputTimeout => Sys2Proof.Machine.execLtcInputTimeout s
  | .rcRead addr size inc => Sys2Proof.Machine.execRcRead addr size inc s
  | .quadSignalDetect q => Sys2Proof.Machine.execQuadSignalDetect q s
  | .poresetNAssert written => Sys2Proof.Machine.execPoresetNAssert written s
  | .legacyWord p l w => Sys2Proof.Machine.execLegacyWord p l w s

end Sys2Proof.Machine
end

