-- ==== Sys2Proof/Safety.lean ====
section
/-! DEFINITION. What a sound state of the block is, in the terms the statements use. -/

namespace Sys2Proof.Machine

/-- The register table and GDDR7 stand in their canonical form: keys strictly rise, and no entry equals what an unlisted one reads as. -/
structure State.Canon (s : State) : Prop where
  regs : tabSorted s.regs = true
  mem : Memory.wf s.g7

end Sys2Proof.Machine
end

