-- ==== Sys2Proof/Certificates/Slice0/Obligations.lean ====
section
/-! DEFINITION. Statements about the block, for proof: what each command does, under conditions on the state and its operands alone. -/

/-! ### Terms of the statements -/

namespace Sys2Proof.Claims
open Sys2Proof.Machine

/-- The command answers a next state of which `P` holds. -/
def Runs (i : Instr) (s : State) (P : State → Prop) : Prop := ∃ t, exec i s = .next t ∧ P t

/-- A host access to the register reaches it (R40, R41, R114). -/
def Reach (s : State) (r : Reg) : Prop := s.hostUp = true ∧ s.accessible r.off = true

/-- Every register outside the listed offsets holds what it held. -/
def RegsBut (s t : State) (os : List Nat) : Prop := ∀ o, o ∉ os → tabGet? t.regs o = tabGet? s.regs o

/-- Every byte of GDDR7 reads as before. -/
def SameMem (s t : State) : Prop := ∀ a, t.mem a = s.mem a

/-- One occurrence of an event was raised last, with its source and VALUE: it counts, and its VALUE is kept (R474, R475). -/
def Raised (s t : State) (ev src : Nat) (v : Word) : Prop :=
  (∃ o : Occ, t.occ = s.occ ++ [o] ∧ o.num = ev ∧ o.source = src ∧ o.value = v) ∧
  t.rd (EVT_R_CNT ev) = satAdd (s.rd (EVT_R_CNT ev)) 1 ∧ t.rd (EVT_R_LAST ev) = v

/-- The registers that an event changes when it is raised. -/
def evRegs (ev : Nat) : List Nat := [(EVT_R_CNT ev).off, (EVT_R_LAST ev).off]

/-- The registers that show the Vault's own state (R452, R462). -/
def vaultShown : List Nat :=
  [VLT_STATUS.off, VLT_HOLD_CAUSE.off, VLT_RB_RIG.off, VLT_RB_CAL.off, VLT_RB_FW.off, (VLT_SERIAL 0).off, (VLT_SERIAL 1).off, (VLT_SERIAL 2).off, (VLT_SERIAL 3).off]

end Sys2Proof.Claims

open Sys2Proof Sys2Proof.Machine Sys2Proof.Claims

/-! ### The queue, the tick, and reset -/

/-- A step runs the command at the front of the queue on the queue's rest. -/
def Sys2Proof.Claims.StepRunsFrontCommand : Prop :=
  ∀ (c : Instr) (cs : List Instr) (s : State), step { s with pending := c :: cs } = exec c { s with pending := cs }

/-- With an empty queue one tick of 0.8 ns passes (the model's choice, log entry 87): TB0 adds STK_TB0_INC (R131), a wrap of NS moves ETH_TB0_WRAP (R449), and
no other register, no memory and no queue changes; with the clocks stopped TB0 stands. -/
def Sys2Proof.Claims.IdleStepPassesATick : Prop :=
  ∀ s : State, s.pending = [] → ∃ t, step s = .next t ∧
    (s.hlt.clocksStopped = false →
      t.tb0 = BitVec.ofNat 64 (s.tb0.toNat + (s.rd STK_TB0_INC).toNat) ∧ t.ticks = s.ticks + 1 ∧
      t.rd ETH_TB0_WRAP = s.rd ETH_TB0_WRAP + w32 ((s.tb0.toNat + (s.rd STK_TB0_INC).toNat) / 2 ^ 64)) ∧
    (s.hlt.clocksStopped = true → t.tb0 = s.tb0 ∧ t.ticks = s.ticks) ∧
    RegsBut s t [ETH_TB0_WRAP.off] ∧ t.pending = [] ∧
    t = { s with regs := t.regs, tb0 := t.tb0, ticks := t.ticks, stk := { s.stk with tb1 := t.stk.tb1 } }

/-- What PORESET_N leaves, as the spec gives it: every register of the map at its Reset column (R10), BOH_CHIP_ID (R2), TB0 at 0 and its increment (R131), every
region DOWN and stage OFF (R41, R113), no event pending and, of the model's own, an empty queue. -/
def Sys2Proof.Claims.ResetHoldsTheSpecsValues : Prop :=
  (∀ o row i, regRowAt o = some (row, i) → State.reset.rd ⟨o, row.reset i⟩ = row.reset i) ∧
  State.reset.rd BOH_CHIP_ID = 0x0C96B000 ∧ State.reset.tb0 = 0 ∧ State.reset.rd STK_TB0_INC = 0xCCCCCCCD ∧
  (∀ r, r < 5 → State.reset.region r = 0) ∧ State.reset.stage = 0 ∧ State.reset.occ = [] ∧ State.reset.pending = []

/-- The state after reset has the canonical form of registers and memory. -/
def Sys2Proof.Claims.ResetIsCanonical : Prop := State.reset.Canon

/-! ### Host accesses of BAR0 -/

/-- A whole 32-bit write of a register that nothing but its access types governs (R7, R8): RW bits take what is written, W1C bits clear by a 1, W1S bits set by a
1, other bits stay, and a W1C or W1S bit that the hardware updates in the same clock stays. Nothing else of the block changes. -/
def Sys2Proof.Claims.HostWriteByAccessType : Prop :=
  ∀ (addr : BitVec 28) (v : BitVec 64) (hw : Word) (s : State) (row : RegRow) (i : Nat),
    s.hostUp = true → addr.toNat % 4 = 0 → s.accessible addr.toNat = true → regRowAt addr.toNat = some (row, i) →
    s.shadowGuard row addr.toNat = none → effectOf row.base = none →
    Runs (.hostRegisterWrite addr 2 v hw) s (fun t =>
      (∀ b, b < 32 →
        let r : Reg := ⟨addr.toNat, row.reset i⟩
        let old := (s.rd r).getLsbD b
        let new := (t.rd r).getLsbD b
        let one := v.getLsbD b
        (row.rw.getLsbD b = true → (fixedBits addr.toNat).getLsbD b = false → row.w1c.getLsbD b = false → row.w1s.getLsbD b = false → new = one) ∧
        (row.w1c.getLsbD b = true → row.rw.getLsbD b = false → row.w1s.getLsbD b = false → hw.getLsbD b = false → new = (old && !one)) ∧
        (row.w1s.getLsbD b = true → row.rw.getLsbD b = false → row.w1c.getLsbD b = false → hw.getLsbD b = false → new = (old || one)) ∧
        (row.rw.getLsbD b = false → hw.getLsbD b = true → new = old) ∧
        (row.rw.getLsbD b = false → row.w1c.getLsbD b = false → row.w1s.getLsbD b = false → new = old)) ∧
      RegsBut s t [addr.toNat] ∧ t = { s with regs := t.regs })

/-- A write of less than a dword is discarded (R6), and so is every write before stage LOADER (R114). -/
def Sys2Proof.Claims.NarrowWriteIsDiscarded : Prop :=
  ∀ (addr : BitVec 28) (size : Fin 4) (v : BitVec 64) (hw : Word) (s : State),
    (s.hostUp = true → size.val < 2 → addr.toNat % 2 ^ size.val = 0 → s.accessible (addr.toNat / 4 * 4) = true → exec (.hostRegisterWrite addr size v hw) s = .next s) ∧
    (s.hostUp = false → exec (.hostRegisterWrite addr size v hw) s = .next s)

/-- A read of a plain register (R6, R7, R8): WO bits return 0, a narrow read returns the bytes addressed, RC bits go to their reset value plus what the hardware
adds in the same clock, and nothing else changes; a register without RC bits keeps its value. -/
def Sys2Proof.Claims.HostReadClearsRcBits : Prop :=
  ∀ (addr : BitVec 28) (size : Fin 3) (inc : Word) (s : State) (row : RegRow) (i : Nat),
    let o := addr.toNat / 4 * 4
    let r : Reg := ⟨o, row.reset i⟩
    s.hostUp = true → s.accessible o = true → regRowAt o = some (row, i) →
    row.base ∉ [STK_TB0_NOW.off, STK_TB1_NOW.off, STK_TB3_NOW.off, (UMP_S_DELAY_LO 0).off, LOG_SEQ_LO.off, LOG_OPTIME_LO.off, VLT_RTC_LO.off,
      (CAT_TBL_DATA 0).off, (CAT_DEF_DATA 0 0).off, (DRV_H_ILL_DATA 0 0).off, (LKP_TBL_DATA0 0).off, (LKP_TBL_DATA1 0).off] →
    Runs (.rcRead addr size inc) s (fun t =>
      t.hostData = w32 ((s.rd r &&& ~~~row.wo).toNat / 2 ^ (8 * (addr.toNat % 4)) % 2 ^ (8 * 2 ^ size.val)) ∧
      (∀ b, b < 32 → (t.rd r).getLsbD b = if row.rc.getLsbD b then (row.reset i + inc).getLsbD b else (s.rd r).getLsbD b) ∧
      (row.rc = 0 → t.regs = s.regs) ∧ RegsBut s t [o] ∧ t = { s with regs := t.regs, hostData := t.hostData })

/-- An access of one dword that no register answers (R39, R42): a read returns 0, BOH_UNMAPPED_ADDR latches the first while VALID is 0 and stands otherwise,
BOH_UNMAPPED_CNT counts and saturates, and event 8 is raised. Of a 64-bit access each half counts as one, the lower first (R6). -/
def Sys2Proof.Claims.UnmappedAccessIsLatched : Prop :=
  ∀ (addr : BitVec 28) (size : Fin 4) (write : Bool) (s : State),
    let o := addr.toNat / 4 * 4
    (s.hostUp = true → size.val < 3 → addr.toNat % 2 ^ size.val = 0 → s.accessible o = false →
    Runs (.unmappedAccess addr size write) s (fun t =>
      (write = false → t.hostData = 0) ∧ (write = true → t.hostData = s.hostData) ∧
      ((s.rd BOH_UNMAPPED_ADDR).getLsbD 31 = true → t.rd BOH_UNMAPPED_ADDR = s.rd BOH_UNMAPPED_ADDR) ∧
      ((s.rd BOH_UNMAPPED_ADDR).getLsbD 31 = false → t.rd BOH_UNMAPPED_ADDR = unmappedWord o write (regRowAt o).isSome) ∧
      t.rd BOH_UNMAPPED_CNT = w32 (min 0xFFFFFFFF ((s.rd BOH_UNMAPPED_CNT).toNat + 1)) ∧
      (∃ w, Raised s t 8 0x0E00 w) ∧ RegsBut s t (BOH_UNMAPPED_ADDR.off :: BOH_UNMAPPED_CNT.off :: evRegs 8) ∧
      t = { s with regs := t.regs, hostData := t.hostData, occ := t.occ })) ∧
    (s.hostUp = true → size.val = 3 → addr.toNat % 8 = 0 →
      (s.accessible addr.toNat = true → s.accessible (addr.toNat + 4) = false → exec (.unmappedAccess addr 3 write) s = exec (.unmappedAccess (addr + 4) 2 write) s) ∧
      (s.accessible addr.toNat = false → s.accessible (addr.toNat + 4) = false → Runs (.unmappedAccess addr 3 write) s (fun t =>
        ((s.rd BOH_UNMAPPED_ADDR).getLsbD 31 = true → t.rd BOH_UNMAPPED_ADDR = s.rd BOH_UNMAPPED_ADDR) ∧
        ((s.rd BOH_UNMAPPED_ADDR).getLsbD 31 = false → t.rd BOH_UNMAPPED_ADDR = unmappedWord addr.toNat write (regRowAt addr.toNat).isSome) ∧
        t.rd BOH_UNMAPPED_CNT = w32 (min 0xFFFFFFFF ((s.rd BOH_UNMAPPED_CNT).toNat + 2)) ∧
        RegsBut s t (BOH_UNMAPPED_ADDR.off :: BOH_UNMAPPED_CNT.off :: evRegs 8))))

/-- A read of the low word of a pair returns it and latches the high word, so that the pair is read whole: the delay counters (R105), the RTC (R467), the Logbook's
SEQ (R491) and OP_TIME (R483), and TB0 with its snapshot (R140). -/
def Sys2Proof.Claims.LowWordReadLatchesTheHigh : Prop :=
  ∀ s : State,
    (∀ r : Fin 1024, Reach s (UMP_S_DELAY_LO r) →
      exec (.umpSDelayLoRead r) s = .next { s.wr (UMP_S_DELAY_HI r) (w32 ((s.strmOf r).delay / 2 ^ 32)) with hostData := s.rd (UMP_S_DELAY_LO r) }) ∧
    (Reach s VLT_RTC_LO → Runs .vltRtcLoRead s (fun t =>
      t.hostData = w32 s.rtcNow ∧ t.rd VLT_RTC_HI = w32 (s.rtcNow / 2 ^ 32) ∧ RegsBut s t [VLT_RTC_LO.off, VLT_RTC_HI.off] ∧
      t = { s with regs := t.regs, hostData := t.hostData })) ∧
    (Reach s LOG_SEQ_LO → Runs .logSeqLoRead s (fun t =>
      t.hostData = w32 s.log.seq ∧ t.rd LOG_SEQ_HI = w32 (s.log.seq / 2 ^ 32) ∧ RegsBut s t [LOG_SEQ_HI.off] ∧
      t = { s with regs := t.regs, hostData := t.hostData })) ∧
    (Reach s LOG_OPTIME_LO → Runs .logOptimeLoRead s (fun t =>
      t.hostData = w32 s.opNow ∧ t.rd LOG_OPTIME_HI = w32 (s.opNow / 2 ^ 32 % 65536) ∧ RegsBut s t [LOG_OPTIME_LO.off, LOG_OPTIME_HI.off] ∧
      t = { s with regs := t.regs, hostData := t.hostData })) ∧
    (Reach s STK_TB0_NOW → Runs .stkTb0NowRead s (fun t =>
      t.hostData = (s.tb0 >>> 32).setWidth 32 ∧ t.rd STK_SNAP_FRAC = s.tb0.setWidth 32 ∧ t.rd STK_SNAP_TB1 = s.tb1Now ∧ t.rd STK_SNAP_TB3 = s.tb3Now ∧
      t.rd STK_SNAP_STEPS = w32 s.stk.steps ∧ RegsBut s t [STK_SNAP_FRAC.off, STK_SNAP_TB1.off, STK_SNAP_TB3.off, STK_SNAP_STEPS.off] ∧
      t = { s with regs := t.regs, hostData := t.hostData }))

/-! ### Reset and bring-up -/

/-- The release of PORESET_N (R106, R483, R520): every register but four and all state outside the stores goes to its value after reset; the power cycle counts,
the tamper latch stays, the straps are sampled, and the stores of the Logbook, the OTP and the key store survive. -/
def Sys2Proof.Claims.PowerOnResetClears : Prop :=
  ∀ (aon : Bool) (off : Word) (dens : BitVec 2) (clam agree : Bool) (s : State),
    Runs (.powerOnReset aon off dens clam agree) s (fun t =>
      (∀ o, o ∉ [LOG_PCYCLES.off, VLT_TAMPER.off, LOG_STATUS.off, G7_CONFIG.off] → tabGet? t.regs o = none) ∧
      t.rd LOG_PCYCLES = satAdd (s.rd LOG_PCYCLES) 1 ∧ t.rd VLT_TAMPER = s.rd VLT_TAMPER ∧
      t.bit LOG_STATUS LOG_STATUS_KEEL_FULL = s.bit LOG_STATUS LOG_STATUS_KEEL_FULL ∧
      t.fld G7_CONFIG G7_CONFIG_DENS = dens.toNat ∧ t.bit G7_CONFIG G7_CONFIG_CLAM = clam ∧
      t.boot = { strapBad := !agree || dens == 0 } ∧ t.log.mram = s.log.mram ∧ t.log.staged = [] ∧
      t.vault.keys = s.vault.keys ∧ t.vault.life = s.vault.life ∧ t.vault.sess = [] ∧ t.vault.ready = false ∧
      t.g7 = [] ∧ t.blk = [] ∧ t.rig = {} ∧ t.strm = [] ∧ t.occ = [] ∧ t.stk = {} ∧ t.call = {} ∧ t.tb0 = 0 ∧ t.ticks = 0 ∧
      t.fatalN = false ∧ t.hiZ = false ∧ t.pending = s.pending)

/-- PORESET_N low (R106, R509, R511): the part resets at once, and its low-speed outputs are high-impedance; while it is low already nothing happens. -/
def Sys2Proof.Claims.PoresetAssertResetsAtOnce : Prop :=
  ∀ (written : BitVec 16) (s : State),
    (s.boot.poresetLow = false → Runs (.poresetNAssert written) s (fun t =>
      t.hiZ = true ∧ t.fatalN = false ∧ t.boot = { poresetLow := true } ∧ t.g7 = [] ∧ t.blk = [] ∧ t.tb0 = 0 ∧ t.occ = [] ∧
      (∀ o, o ∉ [LOG_PCYCLES.off, VLT_TAMPER.off, LOG_STATUS.off] → tabGet? t.regs o = none) ∧
      (s.log.flushing = false → t.log.mram = s.log.mram))) ∧
    (s.boot.poresetLow = true → exec (.poresetNAssert written) s = .next s)

/-- Bring-up goes by stages (R113, R115, R117, R119, R87): PLL lock to ROM, the self-tests to LOADER, a verified loader to EARLY with GDDR7 training, and the end of
training. Each failure leaves its cause. -/
def Sys2Proof.Claims.BringUpGoesByStages : Prop :=
  ∀ s : State,
    (s.stage = 0 → s.boot.poresetLow = false → s.safe = false → Runs .bootPllLocked s (fun t =>
      t.stage = 1 ∧ (∃ o, t.occ = s.occ ++ [o] ∧ o.num = 32 ∧ o.value = 1) ∧ t.rig = s.rig ∧ SameMem s t)) ∧
    (∀ store, s.stage = 1 → exec (.selftestDone false store) s = .next (s.settle (((s.wr BOH_BOOT_ERR 1).toStage 6).chipFatal 8 0x0E06 [1]))) ∧
    (s.stage = 1 → s.vault.storeOk = true → s.vault.burnt = false → s.vault.life ≤ 64 → s.vault.tampWait = false →
      Runs (.selftestDone true true) s (fun t =>
        t.stage = 2 ∧ t.vault.ready = true ∧ t.vault.keys = s.vault.keys ∧ t.rd LND_EP_ID = w32 (0x0C960000 + s.vault.vendor % 65536) ∧
        t.log.seq = logScan s.log.mram)) ∧
    (∀ img k at_ script, s.stage = 2 → s.boot.loaderBad = false → s.safe = false → s.loaderOk img k = false →
      exec (.loaderVerified false img k at_ script) s = .next { s with boot := { s.boot with loaderBad := true } }) ∧
    (∀ img k at_ script, s.stage = 2 → s.boot.loaderBad = true → s.safe = false → s.loaderOk img k = false →
      Runs (.loaderVerified true img k at_ script) s (fun t => t.stage = 6 ∧ t.rd BOH_BOOT_ERR = 3)) ∧
    (∀ img k (at_ : BitVec 22) script, s.stage = 2 → s.boot.loaderBad = false → s.safe = false → s.loaderOk img k = true →
      (descOf (sliceAt img ((sectEntryAt img 256).off + at_.toNat) 64)).bflags % 2 = 0 →
      Runs (.loaderVerified false img k at_ script) s (fun t =>
        t.stage = 3 ∧ t.fld G7_STATUS G7_STATUS_STATE = 1 ∧ t.boot.desc = some (descOf (sliceAt img ((sectEntryAt img 256).off + at_.toNat) 64)) ∧
        t.vault.fwIn = (imgHeader img).rollback ∧ t.fld (BOH_COACH 0) ⟨2, 0⟩ = 1)) ∧
    (s.boot.paddle = .waiting → Runs .paddleTimeout s (fun t =>
      t.boot.paddle = .off ∧ t.rd BOH_BOOT_ERR = 5 ∧ t.bit BOH_BOOT_STATUS BOH_BOOT_STATUS_PADDLE = false ∧ (t.blkOf 0x0300).phase = .down ∧
      Raised s t 35 0x0E00 5))

/-- The end of GDDR7 training (R73, R87, R88): at a pin rate the bandwidth is 8 channels × 32 pins × the rate ÷ 8, in MB/s, and the admission limit 0.8 of it
rounded down; with no passing rate, or straps that do not agree, it fails with cause 0x06 and event 28. -/
def Sys2Proof.Claims.TrainingGivesBandwidth : Prop :=
  ∀ (rate : BitVec 8) (addr : BitVec 36) (rig : List Byte) (s : State), s.fld G7_STATUS G7_STATUS_STATE = 1 →
    (s.boot.strapBad = false → rate.toNat ∈ [32, 28, 24, 20, 16] → s.bit BOH_BOOT_STATUS BOH_BOOT_STATUS_AUTO = false →
      Runs (.g7TrainingDone rate addr rig) s (fun t =>
        t.fld G7_STATUS G7_STATUS_STATE = 2 ∧ t.fld G7_STATUS G7_STATUS_RATE = rate.toNat ∧
        t.rd G7_TRAINED_BW = w32 (8 * 32 * rate.toNat * 1000 / 8) ∧ t.rd UMP_ADMIT_LIMIT = w32 (8 * 32 * rate.toNat * 1000 / 8 * 8 / 10) ∧
        t.rd G7_TRAINED_CAP = w32 (s.g7Cap (s.bit G7_CONFIG G7_CONFIG_IECC)) ∧
        RegsBut s t [G7_STATUS.off, G7_TRAINED_BW.off, UMP_ADMIT_LIMIT.off, G7_TRAINED_CAP.off] ∧ t = { s with regs := t.regs })) ∧
    (s.boot.strapBad = true ∨ rate.toNat ∉ [32, 28, 24, 20, 16] →
      Runs (.g7TrainingDone rate addr rig) s (fun t =>
        t.fld G7_STATUS G7_STATUS_STATE = 3 ∧ t.rd BOH_BOOT_ERR = 6 ∧ Raised s t 28 0x0E00 0 ∧
        RegsBut s t (G7_STATUS.off :: BOH_BOOT_ERR.off :: evRegs 28) ∧ t = { s with regs := t.regs, occ := t.occ }))

/-- A host warm reset (R107, R435, R466) discards every Call, returns the endpoint's and the queues' registers to Reset, closes the Vault sessions, leaves every
other register that does not show the Vault's state, and GDDR7, as they are, and raises event 38. -/
def Sys2Proof.Claims.WarmResetKeepsTheBlocks : Prop :=
  ∀ s : State, s.boot.poresetLow = false → Runs .hostWarmReset s (fun t =>
    t.call = {} ∧ t.vault.sess = [] ∧ (∀ o, warmReg o = true → tabGet? t.regs o = none) ∧
    (∀ o, warmReg o = false → o ∉ evRegs 38 ++ vaultShown → tabGet? t.regs o = tabGet? s.regs o) ∧
    (∃ o, t.occ = s.occ ++ [o] ∧ o.num = 38 ∧ o.source = 0x0E00) ∧
    t = { s with regs := t.regs, call := t.call, vault := t.vault, occ := t.occ, lnd := { s.lnd with bar2Log := 28 } })

/-- An orderly shutdown (R126): the write sets stage SHUTDOWN and step 1; a step that is complete, or times out, starts the next; after the flush the stage is OFF
with event 37. -/
def Sys2Proof.Claims.ShutdownGoesByStages : Prop :=
  ∀ s : State,
    (∀ v : Word, Reach s BOH_SHUTDOWN → v.getLsbD 31 = true → s.stage ≠ 7 → s.stage ≠ 8 →
      (∀ c, c < 8 → (s.recOf c).clip = none) →
      Runs (.shutdown v) s (fun t =>
        t.stage = 7 ∧ t.boot = { s.boot with shutStep := 1, shutTmo := if v.toNat % 65536 = 0 then 5000 else v.toNat % 65536 } ∧
        Raised s t 32 0x0E00 7 ∧ t = { s with regs := t.regs, boot := t.boot, occ := t.occ })) ∧
    (s.boot.shutStep = 1 → (∀ c, c < 8 → (s.recOf c).clip = none) → (∀ h, h < 8 → s.leadPort h = none) →
      exec .shutdownStepDone s = .next { s with boot := { s.boot with shutStep := 2 } }) ∧
    (s.boot.shutStep = 2 → (∀ n, n < 4 → s.scnOn n = false) →
      exec .shutdownStepDone s = .next { s with boot := { s.boot with shutStep := 3 } } ∧
      exec .shutdownStepTimeout s = .next { s with boot := { s.boot with shutStep := 3 } }) ∧
    (s.boot.shutStep = 4 → s.stage = 7 → s.log.flushing = false →
      Runs .shutdownStepDone s (fun t => t.stage = 8 ∧ t.boot.shutStep = 0 ∧ t.occ.map (·.num) = s.occ.map (·.num) ++ [32, 37])) ∧
    (s.boot.shutStep = 4 → s.stage = 7 →
      Runs .shutdownStepTimeout s (fun t => t.stage = 8 ∧ t.boot.shutStep = 0 ∧ t.occ.map (·.num) = s.occ.map (·.num) ++ [32, 37]))

/-! ### Regions, blocks and what contains a fault -/

/-- A stop gives a running or held block the code, and a stopped block keeps its first one (R33). -/
def Sys2Proof.Claims.BlockKeepsFirstStopReason : Prop :=
  ∀ (s : State) (b code : Nat),
    ((s.blkOf b).phase = .running ∨ (s.blkOf b).phase = .held →
      ((s.blkStop b code).blkOf b).phase = .stopped ∧ ((s.blkStop b code).blkOf b).code = code) ∧
    ((s.blkOf b).phase = .stopped → s.blkStop b code = s)

/-- A write that asks for a region reset or for DOWN (R108, R110, R112): a reset of a region whose blocks have no clip open begins, its state reads resetting, and
every block that runs or is held is asked to stop at its boundary; while the Rig controller is busy it waits; one already asked for is not asked for again. -/
def Sys2Proof.Claims.RegionResetBegins : Prop :=
  ∀ (regions : BitVec 5) (r : Nat) (down : Bool) (s : State),
    let c : Instr := if down then .regionDown regions else .regionReset regions
    Reach s BOH_REGION_RESET → r < 5 → regions.toNat = 2 ^ r →
    (s.regionBusy r = false → s.rigState < 3 → s.region r ≠ 4 → (∀ u, u < 8 → (s.recOf u).clip = none) → Runs c s (fun t =>
      t.boot.resets = s.boot.resets ++ [.region r down] ∧ t.region r = 1 ∧
      (∀ b, b ∈ regionBlocks r → (s.blkOf b).phase = .running ∨ (s.blkOf b).phase = .held → (t.blkOf b).holdReset = true) ∧
      (∀ b, b ∈ regionBlocks r → (t.blkOf b).restartDue = false ∧ (t.blkOf b).phase = (s.blkOf b).phase) ∧ SameMem s t)) ∧
    (s.regionBusy r = false → 3 ≤ s.rigState → Runs c s (fun t =>
      t.boot = { s.boot with waitingResets := s.boot.waitingResets ++ [.region r down] } ∧ t.blk = s.blk ∧
      RegsBut s t [BOH_REGION_RESET.off] ∧ t = { s with regs := t.regs, boot := t.boot })) ∧
    (s.regionBusy r = true → exec c s = .next s)

/-- The region boundary (R108, R110): with every block of the region held, a DOWN leaves it DOWN and its blocks down, with event 36; the reset ends. Stated for a
region whose blocks have all stopped already, with no commit waiting. -/
def Sys2Proof.Claims.RegionDownEndsAtBoundary : Prop :=
  ∀ (r : Fin 5) (s : State),
    (∀ b, b ∈ regionBlocks r → (s.blkOf b).phase = .stopped ∨ (s.blkOf b).phase = .down) → s.jobRuns (.region r true) = true → s.rig.waiting = false →
    Runs (.regionBoundaryReached r) s (fun t =>
      t.region r = 0 ∧ (∀ b, b ∈ regionBlocks r → (t.blkOf b).phase = .down) ∧ t.boot = { s.boot with resets := s.boot.resets.erase (.region r true) } ∧
      Raised s t 36 0x0E00 (w32 r.val) ∧ RegsBut s t (BOH_REGION_STATE.off :: BOH_REGION_RESET.off :: evRegs 36) ∧
      t = { s with regs := t.regs, blk := t.blk, boot := t.boot, occ := t.occ })

/-- RIG_BOUNDARY_TMO of a reset (R109, R111): every block that still runs stops with 0x01. -/
def Sys2Proof.Claims.ResetTimeoutStops : Prop :=
  ∀ (s : State),
    (∀ r : Fin 5, s.jobRuns (.region r true) = true ∨ s.jobRuns (.region r false) = true →
      exec (.regionResetTimeout r) s = .next (s.settle ((regionBlocks r).foldl (fun u b => if u.running b then u.blkStop b 1 else u) s))) ∧
    (∀ bid : BitVec 16, s.jobRuns (.block bid.toNat) = true → s.running bid.toNat = true → Runs (.blockResetTimeout bid) s (fun t =>
      (t.blkOf bid.toNat).phase = .stopped ∧ (t.blkOf bid.toNat).code = 1))

/-- A block reset (R111; log entry 71): a running block of a RUNNING region is asked to stop at its boundary; a chip function, a BLOCK_ID that names no block, and a
block whose region does not run, are not reset. -/
def Sys2Proof.Claims.BlockResetAsksAtBoundary : Prop :=
  ∀ (bid : BitVec 16) (s : State), let b := bid.toNat
    Reach s BOH_BLOCK_RESET →
    (bidValid b = true → bidChip b = false → b ≠ 0x0B00 → b ≠ 0x0B01 → bidType b ≠ 0x0C → bidType b ≠ 0x0F → s.region (bidRegion b) = 2 →
      ResetJob.block b ∉ s.boot.resets → ResetJob.block b ∉ s.boot.waitingResets → s.rigState < 3 → s.running b = true →
      exec (.blockReset bid) s = .next ({ s with boot := { s.boot with resets := s.boot.resets ++ [ResetJob.block b] } }.setBlk b { s.blkOf b with holdReset := true })) ∧
    (bidValid b = false ∨ bidChip b = true ∨ b = 0x0B00 ∨ b = 0x0B01 ∨ s.region (bidRegion b) ≠ 2 → exec (.blockReset bid) s = .next s)

/-- At its boundary (R19, R108) a running block that a reset asked to stop is held; one that was not asked goes on. -/
def Sys2Proof.Claims.BoundaryHoldsForReset : Prop :=
  ∀ (bid : BitVec 16) (s : State), let b := bid.toNat
    s.safe = false → s.atBoundary b = true → s.jobRuns (.block b) = false → (s.blkOf b).phase = .running → (s.blkOf b).holdRig = false →
    ((s.blkOf b).holdReset = true → exec (.blockBoundaryReached bid) s = .next (s.setBlk b { s.blkOf b with phase := .held })) ∧
    ((s.blkOf b).holdReset = false → exec (.blockBoundaryReached bid) s = .next s)

/-- Corrected errors of a seat count, and the 16th within a second sets WARN and raises event 64 (R424). -/
def Sys2Proof.Claims.SeatCountsCorrectedErrors : Prop :=
  ∀ (e : Nat) (p : Fin 9) (s : State), e < 32 →
    Runs (.cellCorrectedError (BitVec.ofNat 16 (0x0100 + e)) p) s (fun t =>
      t.rd (EGT_SEAT_CE e p) = satAdd (s.rd (EGT_SEAT_CE e p)) 1 ∧
      (((tabGet s.eng.ceAt [] (9 * e + p)).filter (fun x => decide (s.ticks < x + 1250000000))).length < 15 →
        t.rd (EGT_SEAT_STATE e) = s.rd (EGT_SEAT_STATE e) ∧ t.occ = s.occ) ∧
      (15 ≤ ((tabGet s.eng.ceAt [] (9 * e + p)).filter (fun x => decide (s.ticks < x + 1250000000))).length →
        (s.rd (EGT_SEAT_STATE e)).getLsbD (16 + p) = false →
        (t.rd (EGT_SEAT_STATE e)).getLsbD (16 + p) = true ∧ Raised s t 64 (0x0100 + e) (w32 e)) ∧
      RegsBut s t ((EGT_SEAT_CE e p).off :: (EGT_SEAT_STATE e).off :: evRegs 64) ∧ t = { s with regs := t.regs, eng := t.eng, occ := t.occ })

/-- An uncorrectable error (R16, R22, R501, R503): in a marshal or a chip function it is chip-fatal, outputs go safe and low-speed outputs high-impedance; a block of Drive or a
Coach, on which nothing depends and outside a hold, stops with 0x02 and is due to restart while the restart limit is not passed, and a control parity error of a cox does the
same; a block that has stopped stays as it is. -/
def Sys2Proof.Claims.UncorrectableErrorStopsTheBlock : Prop :=
  ∀ (bid : BitVec 16) (s : State), let b := bid.toNat
    (∀ seat, bidValid b = true → bidChip b = true → s.hlt.fatal = none → Runs (.cellUncorrectableError (FaultUnit.block bid) seat) s (fun t =>
      t.safe = true ∧ t.hiZ = true ∧ t.hlt.fatal = some 5 ∧ t.stk.due = [])) ∧
    (∀ (r : Fin 5) seat, s.hlt.fatal = none → Runs (.cellUncorrectableError (FaultUnit.marshal r) seat) s (fun t =>
      t.safe = true ∧ t.hiZ = true ∧ t.hlt.fatal = some 7 ∧ t.stk.due = [])) ∧
    (∀ c : Instr, c = .cellUncorrectableError (FaultUnit.block bid) none ∨ c = .coxControlParityError bid →
      bidValid b = true → bidType b ∈ [0x04, 0x05, 0x0F] → s.downstream b = [] → s.rigState < 3 → (s.blkOf b).phase = .running ∨ (s.blkOf b).phase = .held →
      ((s.blkOf b).restarts.filter (fun x => decide (s.ticks < x + 1250000000 * max 1 (bitsOf (s.rd HLT_RESTART).toNat 23 16)))).length
        < max 1 (bitsOf (s.rd HLT_RESTART).toNat 7 0) →
      Runs c s (fun t =>
        (t.blkOf b).phase = .stopped ∧ (t.blkOf b).code = 2 ∧ (t.blkOf b).restartDue = true ∧ Raised s t 966 0x0E05 (w32 b) ∧ SameMem s t)) ∧
    (∀ c : Instr, c = .cellUncorrectableError (FaultUnit.block bid) none ∨ c = .coxControlParityError bid →
      bidValid b = true → bidChip b = false → (s.blkOf b).phase = .stopped ∨ (s.blkOf b).phase = .down → exec c s = .next s)

/-- A cox that does not answer, or a port error, makes the marshal isolate its region (R21, R502): ISOLATED, event 968, and pending restarts cancelled. Stated for
a region whose blocks have stopped already, outside a hold; a region that is DOWN or already ISOLATED stays as it is (log entry 74). -/
def Sys2Proof.Claims.MarshalIsolatesItsRegion : Prop :=
  ∀ (r : Fin 5) (bid : BitVec 16) (s : State), bidValid bid.toNat = true → bidChip bid.toNat = false → bidRegion bid.toNat = r.val →
    (s.safe = false → s.region r = 1 ∨ s.region r = 2 → s.rigState < 3 → (∀ b, b ∈ regionBlocks r → (s.blkOf b).phase = .stopped ∨ (s.blkOf b).phase = .down) →
      ∀ c : Instr, c = .coxAnswerTimeout bid ∨ c = .coursePortError r → Runs c s (fun t =>
        t.region r = 3 ∧ (∀ b, b ∈ regionBlocks r → (t.blkOf b).restartDue = false ∧ (t.blkOf b).phase = (s.blkOf b).phase) ∧
        Raised s t 968 0x0E05 (w32 r.val) ∧ RegsBut s t (BOH_REGION_STATE.off :: RIG_STATUS.off :: evRegs 968) ∧
        t = { s with regs := t.regs, blk := t.blk, occ := t.occ })) ∧
    (s.region r = 0 ∨ s.region r = 3 → exec (.coxAnswerTimeout bid) s = .next s ∧ exec (.coursePortError r) s = .next s)

/-- The Eight of a repair at its boundary (R66, R67, R425): the logical seat that used the failed one moves to seat 8, with event 18. Stated for an Eight of a
region that does not run, with nothing waiting for the controller. -/
def Sys2Proof.Claims.RepairMovesSeatToSpare : Prop :=
  ∀ (e : Fin 32) (l : Nat) (s : State), l < 8 → s.rigState = 5 → s.rig.repair.1 = e.val → s.atBoundary (0x0100 + e) = true →
    s.physSeat e l = s.rig.repair.2 → (∀ k, k < l → s.physSeat e k ≠ s.rig.repair.2) → s.region (bidRegion (0x0100 + e)) ≠ 2 →
    s.rig.coxJob = true → s.rig.cox = [] → s.boot.waitingResets = [] →
    Runs (.eightRemapRestart e) s (fun t =>
      t.physSeat e l = 8 ∧ t.rigState = 0 ∧ t.rig.job = none ∧ Raised s t 18 0x0E01 (w32 e.val) ∧
      RegsBut s t ((EGT_SEAT_MAP e).off :: RIG_STATUS.off :: evRegs 18) ∧ t = { s with regs := t.regs, blk := t.blk, rig := t.rig, occ := t.occ })

/-- A dependent stream stops at its own boundary with the pending cause (R34); a recording channel with a clip open does not stop yet (R19). -/
def Sys2Proof.Claims.DependentStreamStops : Prop :=
  ∀ (k : BitVec 32) (s : State), let n := k.toNat
    ((s.blkOf n).upstream = 0 → exec (.streamBoundaryStop k) s = .next s) ∧
    (n < 65536 → (s.blkOf n).upstream ≠ 0 → bidType n = 0x0C → (s.recOf (bidUnit n)).clip.isSome = true → exec (.streamBoundaryStop k) s = .next s) ∧
    (n < 65536 → (s.blkOf n).upstream = 4 ∨ (s.blkOf n).upstream = 3 → bidType n ≠ 0x0C → s.downstream n = [] → (s.blkOf n).phase = .running ∨ (s.blkOf n).phase = .held →
      Runs (.streamBoundaryStop k) s (fun t =>
        (t.blkOf n).phase = .stopped ∧ (t.blkOf n).code = (s.blkOf n).upstream ∧ (t.blkOf n).upstream = 0))

/-! ### The Rig controller -/

namespace Sys2Proof.Claims
open Sys2Proof.Machine

/-- Some Call waits for something. -/
def waits (s : State) (w : WaitFor) : Bool :=
  (List.range 16).any (fun q => match (s.callQ q).cur with | some (_, some x) => x == w | _ => false)

/-- Nothing waits for the Rig controller: no cox, no reset, no Call. -/
def NothingWaits (s : State) : Prop := s.rig.cox = [] ∧ s.boot.waitingResets = [] ∧ waits s .rig = false

/-- The refusal registers hold a step, a code, an owner and a detail (R70). -/
def Refusal (t : State) (step code : Nat) (owner detail : Word) : Prop :=
  t.rd RIG_REFUSAL = w32 (step * 65536 + code) ∧ t.rd RIG_REFUSAL_OWNER = owner ∧ t.rd RIG_REFUSAL_DETAIL = detail

end Sys2Proof.Claims

/-- COMMIT and CHECK start copying on an idle controller with no reset in progress (R56); a COMMIT of a full image before the first full apply sets stage RIGLOAD
(R117), which is stated apart by the bring-up stage. A busy controller refuses either with 0x0503, and a COMMIT's refusal counts and raises event 17 (R59, R70). -/
def Sys2Proof.Claims.RigCommandStartsOrIsRefused : Prop :=
  ∀ s : State, Reach s RIG_CMD →
    (s.rigState = 0 → s.resetting = false →
      exec .rigCmdCheck s = .next ({ s with rig := { s.rig with
        job := some .check, image := [], listed := [], waiting := false, verdict := none, coxJob := false } }.setFld RIG_STATUS RIG_STATUS_STATE 1)) ∧
    (s.rigState = 0 → s.resetting = false → s.rig.everFull = true ∨ (imgHeader (s.rigSource 256)).isPartial = true →
      exec .rigCmdCommit s = .next ({ s with rig := { s.rig with
        job := some .commit, image := [], listed := [], waiting := false, verdict := none, coxJob := false } }.setFld RIG_STATUS RIG_STATUS_STATE 1)) ∧
    (s.rigState = 0 → s.resetting = false → s.rig.everFull = false → (imgHeader (s.rigSource 256)).isPartial = false → s.stage = 3 → Runs .rigCmdCommit s (fun t =>
      t.rigState = 1 ∧ t.rig.job = some .commit ∧ t.stage = 4 ∧ Raised s t 32 0x0E00 4)) ∧
    (s.rigState ≠ 0 → Runs .rigCmdCommit s (fun t =>
      Refusal t 0 0x0503 0 0xFFFF1FFF ∧ t.rd RIG_REFUSAL_TIME = s.ns ∧ t.rd RIG_REFUSE_CNT = satAdd (s.rd RIG_REFUSE_CNT) 1 ∧
      t.rigState = s.rigState ∧ t.bit RIG_STATUS RIG_STATUS_LAST_REFUSED = true ∧ Raised s t 17 0x0E01 0x0503 ∧
      RegsBut s t (RIG_REFUSAL.off :: RIG_REFUSAL_OWNER.off :: RIG_REFUSAL_DETAIL.off :: RIG_REFUSAL_TIME.off :: RIG_REFUSE_CNT.off :: RIG_STATUS.off :: evRegs 17) ∧
      t = { s with regs := t.regs, occ := t.occ })) ∧
    (s.rigState ≠ 0 → Runs .rigCmdCheck s (fun t =>
      Refusal t 0 0x0503 0 0xFFFF1FFF ∧ t.rd RIG_REFUSE_CNT = s.rd RIG_REFUSE_CNT ∧ t.occ = s.occ ∧ t.rigState = s.rigState))

/-- The copy is complete (R56): the image is what GDDR7 holds at RIG_IMG_ADDR, and the checks begin. -/
def Sys2Proof.Claims.RigCopiesItsImage : Prop :=
  ∀ s : State, s.rigState = 1 → Runs .rigImageCopied s (fun t =>
    t.rigState = 2 ∧ t.rig = { s.rig with image := s.rigSource (min (s.rd RIG_IMG_LEN).toNat 268435457) } ∧
    t = { s with regs := t.regs, rig := t.rig, vault := t.vault })

/-- The checks end (R57, R112): an image whose form fails is refused with its record and the controller is idle; while the Vault's answer is awaited nothing
happens; a CHECK that passes is OK; a COMMIT that passes while a reset is in progress waits. -/
def Sys2Proof.Claims.RigChecksEnd : Prop :=
  ∀ s : State, s.rigState = 2 → s.rig.waiting = false → s.rig.coxJob = false → NothingWaits s →
    (∀ r, s.formCheck s.rig.image = some r → s.rig.job = some .check → Runs .rigChecksComplete s (fun t =>
      Refusal t r.step r.code r.owner r.detail ∧ t.rigState = 0 ∧ t.rig.job = none ∧ t.rig.sections = s.rig.sections ∧
      t.bit RIG_STATUS RIG_STATUS_LAST_REFUSED = true ∧ t.occ = s.occ)) ∧
    (s.formCheck s.rig.image = none → s.rig.verdict = none → exec .rigChecksComplete s = .next s) ∧
    (∀ code, s.formCheck s.rig.image = none → s.rig.verdict = some code → s.laterChecks s.rig.image code = none → s.rig.job = some .check →
      Runs .rigChecksComplete s (fun t =>
        t.rigState = 0 ∧ t.bit RIG_STATUS RIG_STATUS_LAST_OK = true ∧ t.bit RIG_STATUS RIG_STATUS_LAST_REFUSED = false ∧ t.rig.job = none ∧
        t.rig.sections = s.rig.sections ∧ RegsBut s t [RIG_STATUS.off] ∧ t = { s with regs := t.regs, rig := t.rig })) ∧
    (∀ code, s.formCheck s.rig.image = none → s.rig.verdict = some code → s.laterChecks s.rig.image code = none → s.rig.job = some .commit →
      s.resetting = true →
      exec .rigChecksComplete s = .next { s with rig := { s.rig with listed := imgListed s.rig.image, waiting := true } })

/-- HOLDING (R60): a listed block at its boundary is held; the job goes on holding while another listed block runs. -/
def Sys2Proof.Claims.HoldingHoldsListedBlocks : Prop :=
  ∀ (bid : BitVec 16) (b' : Nat) (s : State), let b := bid.toNat
    s.rigState = 3 → b ∈ s.rig.listed → (s.blkOf b).holdRig = true → (s.blkOf b).phase = .running → s.atBoundary b = true → bidType b ≠ 0x0F →
    b' ∈ s.rig.listed → b' ≠ b → (s.blkOf b').phase = .running → (s.blkOf b').holdRig = true → s.refusedBlk b' = false →
    Runs (.rigBlockHeld bid) s (fun t =>
      (t.blkOf b).phase = .held ∧ (∀ c, c ≠ b → t.blkOf c = s.blkOf c) ∧ t.rigState = 3 ∧ RegsBut s t [RIG_STATUS.off] ∧
      t = { s with regs := t.regs, blk := t.blk })

/-- ABORT in HOLDING refuses the commit with 0x0504 at step 8 and releases what was held on its previous configuration; outside HOLDING it does nothing (R69, R71).
RIG_BOUNDARY_TMO refuses it with 0x0502, naming the first block that still runs (R60). -/
def Sys2Proof.Claims.HoldEndsInRefusal : Prop :=
  ∀ s : State,
    (Reach s RIG_CMD → s.rigState ≠ 3 → exec .rigCmdAbort s = .next s) ∧
    (Reach s RIG_CMD → s.rigState = 3 → s.rig.job = some .commit → s.rig.everFull = true → s.rig.coxJob = false → NothingWaits s →
      (∀ b, b ∈ s.rig.listed → bidType b ≠ 0x0F) → Runs .rigCmdAbort s (fun t =>
        Refusal t 8 0x0504 0 0xFFFF1FFF ∧ t.rigState = 0 ∧ t.rig.job = none ∧ t.rig.sections = s.rig.sections ∧
        (∀ b, b ∈ s.rig.listed → (s.blkOf b).holdRig = true → (t.blkOf b).holdRig = false ∧ ((s.blkOf b).phase = .held → (t.blkOf b).phase = .running)) ∧
        Raised s t 17 0x0E01 0x80504)) ∧
    (∀ b bs, s.rigState = 3 → s.unheld = b :: bs → s.rig.job = some .commit → s.rig.everFull = true → s.rig.coxJob = false → NothingWaits s →
      (∀ b, b ∈ s.rig.listed → bidType b ≠ 0x0F) → Runs .rigBoundaryTimeout s (fun t =>
        Refusal t 8 0x0502 (w32 (b * 65536)) (detailBlk s.rig.image b) ∧ t.rigState = 0 ∧ t.rig.job = none ∧ t.rig.sections = s.rig.sections ∧
        Raised s t 17 0x0E01 0x80502))

/-- REPAIR of an Eight's physical seat (R67): values out of range are discarded; with the spare gone it is refused with 0x0103 and event 19; else the Eight is asked to
stop at its boundary and the controller holds. -/
def Sys2Proof.Claims.RepairHoldsTheEight : Prop :=
  ∀ (e : Byte) (p : BitVec 4) (s : State), Reach s RIG_CMD →
    (31 < e.toNat ∨ 7 < p.toNat → exec (.rigCmdRepair e p) s = .next s) ∧
    (e.toNat < 32 → p.toNat < 8 → s.rigBusy = false → s.spareGone e.toNat = true → NothingWaits s → Runs (.rigCmdRepair e p) s (fun t =>
      Refusal t 5 0x0103 0 0xFFFF1FFF ∧ t.rigState = 0 ∧ Raised s t 19 0x0E01 0)) ∧
    (e.toNat < 32 → p.toNat < 8 → s.rigBusy = false → s.spareGone e.toNat = false → (∃ l, l < 8 ∧ s.physSeat e.toNat l = p.toNat) →
      s.running (0x0100 + e.toNat) = true → s.refusedBlk (0x0100 + e.toNat) = false → Runs (.rigCmdRepair e p) s (fun t =>
        t.rigState = 3 ∧ t.rig.job = some .repair ∧ t.rig.repair = (e.toNat, p.toNat) ∧ t.rig.listed = [0x0100 + e.toNat] ∧
        (t.blkOf (0x0100 + e.toNat)).holdRig = true ∧ RegsBut s t [RIG_STATUS.off] ∧ t = { s with regs := t.regs, rig := t.rig, blk := t.blk }))

/-! ### The Umpire and GDDR7 -/

/-- A GDDR7 request within reservation whose data checks (R89, R96, R101): a write puts its bytes at the address and nowhere else, a read changes no byte, and each 64-byte
access costs 64 bytes of credit. An address outside the trained capacity is not served. -/
def Sys2Proof.Claims.RequestWritesItsBytes : Prop :=
  ∀ (r : Fin 1024) (write : Bool) (a : BitVec 36) (data : List Byte) (length : BitVec 25) (waited alone course : Word) (s : State),
    let n := if write then data.length else length.toNat
    let c : Instr := .gddr7Request r write a data length waited alone course 0 .ok
    s.rd (UMP_S_ID r) ≠ 0 → s.fld (UMP_S_CFG r) UMP_S_CFG_TARGET < 2 → 0 < n →
    ((s.rd G7_TRAINED_CAP).toNat * 1048576 < a.toNat + n → exec c s = .next s) ∧
    (a.toNat + n ≤ (s.rd G7_TRAINED_CAP).toNat * 1048576 → s.fld (UMP_S_CFG r) UMP_S_CFG_CLASS < 2 → s.courseRec (s.rd (UMP_S_ID r)).toNat = none →
      5000 * 64 * ceilDiv n 64 ≤ s.creditNow r → Runs c s (fun t =>
        (write = true → ∀ i, i < data.length → t.mem (a.toNat + i) = data.getD i 0) ∧
        (∀ b, b < a.toNat ∨ a.toNat + n ≤ b → t.mem b = s.mem b) ∧ (write = false → t.g7 = s.g7) ∧
        (t.strmOf r).credit = s.creditNow r - 5000 * 64 * ceilDiv n 64 ∧ (∀ q, q ≠ r.val → t.strmOf q = s.strmOf q) ∧
        t = { s with g7 := t.g7, strm := t.strm }))

/-- A request without credit is delayed (R96, R98, R105): the clocks it waited add to the record's 64-bit delay counter, and Iso demand above reservation raises event 26
once per housekeeping round and stream; it is served all the same. -/
def Sys2Proof.Claims.RequestAboveReservationIsDelayed : Prop :=
  ∀ (r : Fin 1024) (a : BitVec 36) (length : BitVec 25) (waited alone course : Word) (s : State),
    s.rd (UMP_S_ID r) ≠ 0 → s.fld (UMP_S_CFG r) UMP_S_CFG_TARGET < 2 → 0 < length.toNat →
    a.toNat + length.toNat ≤ (s.rd G7_TRAINED_CAP).toNat * 1048576 → s.courseRec (s.rd (UMP_S_ID r)).toNat = none →
    s.creditNow r < 5000 * 64 * ceilDiv length.toNat 64 →
    (s.fld (UMP_S_CFG r) UMP_S_CFG_CLASS = 0 → s.roundFlags.contains (26, r.val) = false →
      Runs (.gddr7Request r false a [] length waited alone course 0 .ok) s (fun t =>
        (t.strmOf r).delay = ((s.strmOf r).delay + waited.toNat) % 2 ^ 64 ∧ t.rd (UMP_S_DELAY_LO r) = w32 ((s.strmOf r).delay + waited.toNat) ∧
        Raised s t 26 0x0E00 0 ∧ t.g7 = s.g7 ∧ RegsBut s t ((UMP_S_DELAY_LO r).off :: evRegs 26))) ∧
    (s.fld (UMP_S_CFG r) UMP_S_CFG_CLASS = 1 → Runs (.gddr7Request r false a [] length waited alone course 0 .ok) s (fun t =>
        (t.strmOf r).delay = ((s.strmOf r).delay + waited.toNat) % 2 ^ 64 ∧ t.occ = s.occ ∧ t.g7 = s.g7 ∧ RegsBut s t [(UMP_S_DELAY_LO r).off]))

/-- Integrity (R91, R92): failed retries of the link EDC count on their channel, and a corrected inline ECC error counts and raises event 29 once per round. Retraining
takes a channel off the list. -/
def Sys2Proof.Claims.IntegrityErrorsCount : Prop :=
  ∀ (r : Fin 1024) (a : BitVec 36) (length : BitVec 25) (waited alone course : Word) (s : State),
    s.rd (UMP_S_ID r) ≠ 0 → s.fld (UMP_S_CFG r) UMP_S_CFG_TARGET < 2 → 0 < length.toNat → s.fld (UMP_S_CFG r) UMP_S_CFG_CLASS < 2 →
    a.toNat + length.toNat ≤ (s.rd G7_TRAINED_CAP).toNat * 1048576 → s.courseRec (s.rd (UMP_S_ID r)).toNat = none →
    5000 * 64 * ceilDiv length.toNat 64 ≤ s.creditNow r →
    (∀ fails : Fin 5, 0 < fails.val → fails.val < 4 → s.bit G7_CONFIG G7_CONFIG_IECC = false →
      tabGet s.edc 0 (a.toNat / 256 % 8) + fails.val < 16 →
      Runs (.gddr7Request r false a [] length waited alone course fails .ok) s (fun t =>
        t.rd (G7_EDC_RETRY_CNT (a.toNat / 256 % 8)) = satAdd (s.rd (G7_EDC_RETRY_CNT (a.toNat / 256 % 8))) (fails.val - 1) ∧
        tabGet t.edc 0 (a.toNat / 256 % 8) = tabGet s.edc 0 (a.toNat / 256 % 8) + fails.val ∧ t.occ = s.occ ∧ t.g7 = s.g7)) ∧
    (s.bit G7_CONFIG G7_CONFIG_IECC = true → s.roundFlags.contains (29, 0) = false →
      Runs (.gddr7Request r false a [] length waited alone course 0 .corrected) s (fun t =>
        t.rd G7_ECC_CORR_CNT = satAdd (s.rd G7_ECC_CORR_CNT) 1 ∧ Raised s t 29 0x0E00 0 ∧ t.g7 = s.g7)) ∧
    (∀ ch : Fin 8, exec (.g7ChannelRetrain ch) s = .next { s with retrain := s.retrain.filter (· != ch.val) })

/-- A Firm stream to GDDR7 (R99, R100, R101): what its queue cannot hold is backlog, and bytes taken in the same clock count first. A byte that would overflow BACKLOG refuses it: STOP 0x06,
refusal record 0x0204 with the short time, and event 24 with its STREAM_ID (stated for a stream whose block has no stop of its own, outside a hold). -/
def Sys2Proof.Claims.FirmStreamBacklog : Prop :=
  ∀ (r : Fin 1024) (n taken : Word) (s : State),
    let q := (s.rd (UMP_S_QUEUE r)).toNat % 65536 * 1024
    let total := (s.strmOf r).backlog + (s.strmOf r).queued - taken.toNat + n.toNat
    s.rd (UMP_S_ID r) ≠ 0 → s.fld (UMP_S_CFG r) UMP_S_CFG_TARGET = 1 → s.fld (UMP_S_CFG r) UMP_S_CFG_CLASS = 1 →
    (s.rd (UMP_S_STOP r) = 0 → (s.strmOf r).refused = false → total ≤ q + s.backlogMax r → 0 < s.backlogMax r → Runs (.streamDataProduced r n taken) s (fun t =>
      (t.strmOf r).queued = min q total ∧ (t.strmOf r).backlog = total - q ∧ t.rd (UMP_S_BKL_NOW r) = w32 (ceilDiv (total - q) 1024) ∧
      t.rd (UMP_S_STOP r) = 0 ∧ SameMem s t)) ∧
    (s.rd (UMP_S_STOP r) = 0 → (s.strmOf r).refused = false → q + s.backlogMax r < total →
      bidType ((s.rd (UMP_S_ID r)).toNat / 65536) ∉ [0x05, 0x08, 0x09, 0x0A, 0x0C] → s.rigState ≠ 3 → Runs (.streamDataProduced r n taken) s (fun t =>
        t.rd (UMP_S_STOP r) = 6 ∧ t.rd (UMP_S_REFUSAL r) = 0x00010204 ∧ t.rd (UMP_S_REFUSAL_TIME r) = s.ns ∧ (t.strmOf r).refused = true ∧
        t.rd UMP_RT_REFUSE_CNT = satAdd (s.rd UMP_RT_REFUSE_CNT) 1 ∧ t.rd (EVT_R_LAST 24) = s.rd (UMP_S_ID r) ∧
        (t.strmOf r).backlog = s.backlogMax r)) ∧
    (s.rd (UMP_S_STOP r) ≠ 0 → exec (.streamDataProduced r n taken) s = .next s) ∧
    Runs (.streamDataConsumed r n) s (fun t =>
      (t.strmOf r).queued = min q ((s.strmOf r).backlog + (s.strmOf r).queued - n.toNat) ∧
      (t.strmOf r).backlog = (s.strmOf r).backlog + (s.strmOf r).queued - n.toNat - q ∧ t.rd (UMP_S_STOP r) = s.rd (UMP_S_STOP r))

/-- Event 25 when the backlog first exceeds 75 % of BACKLOG; again only after it has fallen below 50 % (R102). -/
def Sys2Proof.Claims.BacklogHighIsRaisedOnce : Prop :=
  ∀ (r : Fin 1024) (n : Word) (s : State),
    let q := (s.rd (UMP_S_QUEUE r)).toNat % 65536 * 1024
    let m := s.backlogMax r
    let bk := (s.strmOf r).backlog + (s.strmOf r).queued + n.toNat - q
    s.rd (UMP_S_ID r) ≠ 0 → s.fld (UMP_S_CFG r) UMP_S_CFG_TARGET = 1 → s.fld (UMP_S_CFG r) UMP_S_CFG_CLASS = 1 → s.rd (UMP_S_STOP r) = 0 →
    (s.strmOf r).refused = false → 0 < m → bk ≤ m →
    Runs (.streamDataProduced r n 0) s (fun t =>
      (75 * m < 100 * bk → (s.strmOf r).highRaised = false → Raised s t 25 0x0E00 0 ∧ (t.strmOf r).highRaised = true) ∧
      (75 * m < 100 * bk → (s.strmOf r).highRaised = true → t.occ = s.occ ∧ (t.strmOf r).highRaised = true) ∧
      (100 * bk ≤ 75 * m → t.occ = s.occ) ∧
      (100 * bk < 50 * m → (t.strmOf r).highRaised = false) ∧
      (50 * m ≤ 100 * bk → 100 * bk ≤ 75 * m → (t.strmOf r).highRaised = (s.strmOf r).highRaised)) ∧
    Runs (.streamDataConsumed r n) s (fun t =>
      let bk' := (s.strmOf r).backlog + (s.strmOf r).queued - n.toNat - q
      (100 * bk' < 50 * m → (t.strmOf r).highRaised = false) ∧
      (50 * m ≤ 100 * bk' → 100 * bk' ≤ 75 * m → (t.strmOf r).highRaised = (s.strmOf r).highRaised))

/-! ### The Stroke timebases -/

/-- STK_TB0_INC accepts 0xCC98_5F07 to 0xCD01_3A93; a value outside is clamped to the nearer limit, sets CLAMPED and raises event 50; the write itself leaves TB0, and
the next tick adds the new increment (R132). The host's write is discarded while the servo disciplines TB0 (R134). -/
def Sys2Proof.Claims.IncrementIsClamped : Prop :=
  ∀ (v : Word) (servo : Bool) (s : State),
    (servo = false → Reach s STK_TB0_INC ∧ s.servo = false) →
    (0xCC985F07 ≤ v.toNat → v.toNat ≤ 0xCD013A93 → exec (.tb0IncWrite v servo) s = .next (s.wr STK_TB0_INC v)) ∧
    (v.toNat < 0xCC985F07 → exec (.tb0IncWrite v servo) s = .next (((s.wr STK_TB0_INC 0xCC985F07).setBit STK_TB0_STATUS STK_TB0_STATUS_CLAMPED true).raise 50 0x0E02)) ∧
    (0xCD013A93 < v.toNat → exec (.tb0IncWrite v servo) s = .next (((s.wr STK_TB0_INC 0xCD013A93).setBit STK_TB0_STATUS STK_TB0_STATUS_CLAMPED true).raise 50 0x0E02)) ∧
    Runs (.tb0IncWrite v servo) s (fun t =>
      t.tb0 = s.tb0 ∧
      (s.pending = [] → s.hlt.clocksStopped = false →
        ∃ u, step t = .next u ∧ u.tb0 = BitVec.ofNat 64 (s.tb0.toNat + max 0xCC985F07 (min 0xCD013A93 v.toNat))))

/-- While SERVO reads 1, the host's writes of STK_TB0_INC and STK_TB0_STEP are discarded (R134). -/
def Sys2Proof.Claims.ServoShutsTheHostOut : Prop :=
  ∀ (v : Word) (s : State), s.servo = true →
    (Reach s STK_TB0_INC → exec (.tb0IncWrite v false) s = .next s) ∧ (Reach s STK_TB0_STEP → exec (.tb0Step v false) s = .next s)

/-- A step adds its signed value to NS in the next tick and leaves FRAC; it counts in the snapshot's step count and raises event 49 (R133). -/
def Sys2Proof.Claims.StepMovesTb0 : Prop :=
  ∀ (v : Word) (servo : Bool) (s : State),
    (servo = false → Reach s STK_TB0_STEP ∧ s.servo = false) →
    Runs (.tb0Step v servo) s (fun t =>
      t.tb0 = s.tick.tb0 + (v.signExtend 64 <<< 32) ∧ t.frac = s.tick.frac ∧ t.ns = s.tick.ns + v ∧
      t.stk.steps = (s.stk.steps + 1) % 65536 ∧ t.rd (EVT_R_CNT 49) = satAdd (s.rd (EVT_R_CNT 49)) 1 ∧ t.ticks = s.tick.ticks ∧ t.g7 = s.g7 ∧ t.rig = s.rig ∧
      (v.msb = true → ∃ o, t.occ = s.occ ++ [o] ∧ o.num = 49) ∧
      (v.msb = true → RegsBut s t (ETH_TB0_WRAP.off :: evRegs 49)))

/-- TB0 passes 2^32 − 1 ns: ETH_TB0_WRAP counts (R449), and NS is then less than one increment past 0. -/
def Sys2Proof.Claims.Tb0WrapCounts : Prop :=
  ∀ s : State, s.hlt.clocksStopped = false → s.rd STK_TB0_INC ≠ 0 → Runs .tb0Wrap s (fun t =>
    t.rd ETH_TB0_WRAP = s.rd ETH_TB0_WRAP + 1 ∧ t.tb0.toNat < (s.rd STK_TB0_INC).toNat ∧
    t.ticks = s.ticks + ceilDiv (2 ^ 64 - s.tb0.toNat) (s.rd STK_TB0_INC).toNat ∧ RegsBut s t [ETH_TB0_WRAP.off] ∧ SameMem s t)

/-- A change of MODE restarts TB1 at frame 0, line 0 (R135): LOCKING, or OFF for MODE 0 and for the reserved MODE 3, which acts as 0. A write of the MODE that stands does nothing. In MODE 2 with no PERIOD the standing
ALIGN takes no effect (R137). -/
def Sys2Proof.Claims.Tb1ModeRestarts : Prop :=
  ∀ (v : Word) (s : State), Reach s STK_TB1_CTRL → let m := v.toNat % 4
    (m = s.fld STK_TB1_CTRL STK_TB1_CTRL_MODE → exec (.tb1ModeWrite v) s = .next s) ∧
    (m ≠ s.fld STK_TB1_CTRL STK_TB1_CTRL_MODE → m ≠ 2 ∨ (s.rd STK_TB1_PERIOD_NS = 0 ∧ (s.rd STK_TB1_PERIOD_FRAC).toNat % 65536 = 0) →
      Runs (.tb1ModeWrite v) s (fun t =>
        t.fld STK_TB1_CTRL STK_TB1_CTRL_MODE = m ∧ t.tb1State = (if m = 1 ∨ m = 2 then 1 else 0) ∧ t.tb1Now = 0 ∧ t.stk.tb1 = {} ∧
        RegsBut s t [STK_TB1_CTRL.off, AUD_REF_STATUS.off] ∧ t = { s with regs := t.regs, stk := t.stk }))

/-- GENLOCK (R136): in LOCKED a pulse of another format or outside 500 ppm is not accepted and breaks the run of references; an accepted one starts the next frame at it; the
eighth accepted reference in LOCKING locks TB1 with event 51. Two frames without one make HOLDOVER with event 52. -/
def Sys2Proof.Claims.GenlockLocksAndHolds : Prop :=
  ∀ (lines : BitVec 14) (p : Word) (s : State), s.tb1Mode = 1 →
    (genlockFormat lines.toNat = true → s.tb1State = 2 → lines.toNat ≠ s.tb1Lines ∨ within500ppm p.toNat s.stk.tb1.lineQ16 = false →
      exec (.genlockPulse lines p) s = .next { s with stk := { s.stk with tb1 := { s.stk.tb1 with count := 0 } } }) ∧
    (genlockFormat lines.toNat = false → exec (.genlockPulse lines p) s = .next s) ∧
    (genlockFormat lines.toNat = true → s.tb1State = 2 → lines.toNat = s.tb1Lines → within500ppm p.toNat s.stk.tb1.lineQ16 = true →
      Runs (.genlockPulse lines p) s (fun t => t.stk.tb1.refTick = s.ticks ∧ t.stk.tb1.count = s.stk.tb1.count + 1 ∧ t.stk.tb1.seen = true ∧
        t.tb1State = 2 ∧ t.regs = s.regs ∧ t.occ = s.occ)) ∧
    (genlockFormat lines.toNat = true → s.tb1State = 1 → s.stk.tb1.lineQ16 ≠ 0 → lines.toNat = s.fld STK_TB1_LINES STK_TB1_LINES_LINES → s.stk.tb1.count = 7 →
      within500ppm p.toNat s.stk.tb1.lineQ16 = true → Runs (.genlockPulse lines p) s (fun t =>
        t.tb1State = 2 ∧ t.stk.tb1.count = 8 ∧ Raised s t 51 0x0E02 (w32 s.stk.tb1.moved.toNat) ∧
        RegsBut s t (STK_TB1_CTRL.off :: AUD_REF_STATUS.off :: evRegs 51) ∧ t = { s with regs := t.regs, stk := t.stk, occ := t.occ })) ∧
    (s.stk.tb1.seen = true → s.tb1State = 1 ∨ s.tb1State = 2 → Runs .tb1HoldoverTimeout s (fun t =>
      t.tb1State = 3 ∧ t.stk.tb1 = { s.stk.tb1 with count := 0 } ∧ Raised s t 52 0x0E02 0 ∧
      RegsBut s t (STK_TB1_CTRL.off :: AUD_REF_STATUS.off :: evRegs 52)))

/-- ALIGN in MODE 2 (R137): a value not yet reached awaits TB0; when TB0 reaches it, frame FRAME0 starts at it and TB1 is LOCKED with event 51; outside MODE 2 it is only kept. -/
def Sys2Proof.Claims.AlignStartsFrame0 : Prop :=
  ∀ (v : Word) (s : State),
    (Reach s STK_TB1_ALIGN → s.tb1Mode ≠ 2 → exec (.tb1AlignWrite v) s = .next (s.wr STK_TB1_ALIGN v)) ∧
    (Reach s STK_TB1_ALIGN → s.tb1Mode = 2 → s.tb1PeriodQ32 ≠ 0 → reached s.ns v = false →
      exec (.tb1AlignWrite v) s = .next { (s.wr STK_TB1_ALIGN v) with stk := { s.stk with tb1 := { s.stk.tb1 with alignWait := true } } }) ∧
    (s.tb1Mode = 2 → s.stk.tb1.alignWait = true → s.tb1PeriodQ32 ≠ 0 → s.tb1State = 1 → s.armedSlots = [] → s.hlt.clocksStopped = false →
      Runs .tb1AlignReached s (fun t => t.stk.tb1.aligned = true ∧ t.stk.tb1.alignWait = false ∧ t.tb1State = 2 ∧
        Raised s t 51 0x0E02 0 ∧ SameMem s t))

/-- TB3 (R139): EN starts it in LOCKING at cycle 0 and its clearing turns it off; the first confirmed edge counts a cycle and stands 100 µs back; the sixteenth accepted edge in
LOCKING locks it with event 53; an edge outside 15.38 to 22.22 ms is not accepted; 25 ms without one make HOLDOVER with event 54. -/
def Sys2Proof.Claims.Tb3FollowsMains : Prop :=
  ∀ (v : Word) (s : State),
    (Reach s STK_TB3_CTRL → v.getLsbD 0 = s.bit STK_TB3_CTRL STK_TB3_CTRL_EN → exec (.tb3Enable v) s = .next s) ∧
    (Reach s STK_TB3_CTRL → v.getLsbD 0 ≠ s.bit STK_TB3_CTRL STK_TB3_CTRL_EN → Runs (.tb3Enable v) s (fun t =>
      t.bit STK_TB3_CTRL STK_TB3_CTRL_EN = v.getLsbD 0 ∧ t.fld STK_TB3_CTRL STK_TB3_CTRL_STATE = (v.getLsbD 0).toNat ∧ t.stk.tb3 = {} ∧
      RegsBut s t [STK_TB3_CTRL.off] ∧ t = { s with regs := t.regs, stk := t.stk })) ∧
    (s.bit STK_TB3_CTRL STK_TB3_CTRL_EN = false → exec .mainsEdgeConfirmed s = .next s) ∧
    (s.bit STK_TB3_CTRL STK_TB3_CTRL_EN = true → s.stk.tb3.confirmed = none →
      exec .mainsEdgeConfirmed s = .next { s with stk := { s.stk with tb3 := { s.stk.tb3 with
        cycle := s.stk.tb3.cycle + 1, bound := s.ticks - 125000, count := 1, accepted := some (s.ticks - 125000), confirmed := some (s.ticks - 125000) } } }) ∧
    (∀ c a, s.bit STK_TB3_CTRL STK_TB3_CTRL_EN = true → s.fld STK_TB3_CTRL STK_TB3_CTRL_STATE = 1 → s.stk.tb3.confirmed = some c → s.stk.tb3.accepted = some a →
      s.stk.tb3.count = 15 → 19225000 ≤ s.ticks - 125000 - a → s.ticks - 125000 - a ≤ 27775000 → Runs .mainsEdgeConfirmed s (fun t =>
        t.fld STK_TB3_CTRL STK_TB3_CTRL_STATE = 2 ∧ t.stk.tb3.cycle = s.stk.tb3.cycle + 1 ∧ t.stk.tb3.period = s.ticks - 125000 - a ∧ Raised s t 53 0x0E02 0 ∧
        RegsBut s t (STK_TB3_CTRL.off :: evRegs 53))) ∧
    (∀ c a, s.bit STK_TB3_CTRL STK_TB3_CTRL_EN = true → s.fld STK_TB3_CTRL STK_TB3_CTRL_STATE ≠ 3 → s.stk.tb3.confirmed = some c → s.stk.tb3.accepted = some a →
      s.ticks - 125000 - a < 19225000 →
      exec .mainsEdgeConfirmed s = .next { s with stk := { s.stk with tb3 := { s.stk.tb3 with count := 0, confirmed := some (s.ticks - 125000) } } }) ∧
    (s.bit STK_TB3_CTRL STK_TB3_CTRL_EN = true → s.fld STK_TB3_CTRL STK_TB3_CTRL_STATE = 1 ∨ s.fld STK_TB3_CTRL STK_TB3_CTRL_STATE = 2 →
      s.stk.tb3.accepted.isSome = true → Runs .tb3HoldoverTimeout s (fun t =>
        t.fld STK_TB3_CTRL STK_TB3_CTRL_STATE = 3 ∧ t.stk.tb3 = { s.stk.tb3 with count := 0 } ∧ Raised s t 54 0x0E02 0 ∧ RegsBut s t (STK_TB3_CTRL.off :: evRegs 54)))

/-- The transmit stamp queue (R150): a pop removes the head entry and shows the next with its VALID, or zeros; the count follows. A lost announce of the PTP servo raises event 801 (R151, R524). -/
def Sys2Proof.Claims.StampQueuePops : Prop :=
  ∀ s : State,
    (∀ p : Fin 8, Reach s (PTP_P_TXQ_POP p) → (s.ptpQ p).length ≤ 64 → Runs (.ptpPTxqPop p) s (fun t =>
      t.ptpQ p = (s.ptpQ p).tail ∧ (∀ q, q ≠ p.val → t.ptpQ q = s.ptpQ q) ∧ t.fld (PTP_P_TXQ_STAT p) PTP_P_TXQ_STAT_COUNT = (s.ptpQ p).length - 1 ∧
      (∀ a e es, s.ptpQ p = a :: e :: es → t.rd (PTP_P_TXQ_NS p) = e.ns ∧ t.rd (PTP_P_TXQ_ID p) = w32 (0x80000000 + e.id % 65536)) ∧
      ((s.ptpQ p).length ≤ 1 → t.rd (PTP_P_TXQ_ID p) = 0) ∧
      RegsBut s t [(PTP_P_TXQ_STAT p).off, (PTP_P_TXQ_ID p).off, (PTP_P_TXQ_NS p).off, (PTP_P_TXQ_FRAC p).off] ∧ t = { s with regs := t.regs, stk := t.stk })) ∧
    (∀ e : Fin 4, s.servo = true → exec (.ptpAnnounceTimeout e) s = .next (s.raise 801 (0x0100 + 28 + e.val))) ∧
    (∀ e : Fin 4, s.servo = false → exec (.ptpAnnounceTimeout e) s = .next s)

/-! ### Action slots -/

/-- Arming and disarming (R143, R144, R479): ARM of a slot without a target type or of an armed slot does nothing; a slot whose COMPARE has not been reached arms; DISARM
disarms it and drops the deliveries of events that wait for it, which count. A slot that nobody owns takes no write (R141). -/
def Sys2Proof.Claims.SlotArmsAndDisarms : Prop :=
  ∀ (n : Fin 512) (s : State), Reach s (STK_S_CTRL n) →
    (s.slotOwned n = false → exec (.slotArm n) s = .next s ∧ exec (.slotDisarm n false) s = .next s) ∧
    (s.slotOwned n = true → s.fld (STK_S_CFG n) STK_S_CFG_TTYPE = 0 → exec (.slotArm n) s = .next s) ∧
    (s.slotOwned n = true → s.fld (STK_S_CFG n) STK_S_CFG_TTYPE ≠ 0 → s.armed n = false → s.slotReached n = false →
      exec (.slotArm n) s = .next (s.setBit (STK_S_CTRL n) STK_S_CTRL_ARM true)) ∧
    (s.slotOwned n = true → Runs (.slotDisarm n false) s (fun t =>
      t.armed n = false ∧ t.stk = { s.stk with evMatch := s.stk.evMatch.filter (· != n.val) } ∧
      t.rd EVT_STK_DROP = satAdd (s.rd EVT_STK_DROP) (s.stk.evMatch.filter (· == n.val)).length ∧
      RegsBut s t [EVT_STK_DROP.off, (STK_S_CTRL n).off] ∧ t = { s with regs := t.regs, stk := t.stk }))

/-- A write of COMPARE (R144, R146): an unarmed slot, or an armed one whose new value lies ahead, keeps it. -/
def Sys2Proof.Claims.CompareIsWritten : Prop :=
  ∀ (n : Fin 512) (v : Word) (s : State), Reach s (STK_S_COMPARE n) → s.slotOwned n = true →
    (s.armed n = false → exec (.slotCompareWrite n v false) s = .next (s.wr (STK_S_COMPARE n) v)) ∧
    (s.armed n = true → (s.wr (STK_S_COMPARE n) v).slotReached n = false → exec (.slotCompareWrite n v false) s = .next (s.wr (STK_S_COMPARE n) v))

/-- A match (R143): its delivery is due DELAY ticks later, a one-shot slot disarms, and a repeating one on TB0 adds REPEAT to COMPARE and stays armed. -/
def Sys2Proof.Claims.SlotMatchSchedulesDelivery : Prop :=
  ∀ (n : Fin 512) (s : State), s.armed n = true → s.slotReached n = true → s.stk.evMatch.contains n.val = false →
    (s.rd (STK_S_REPEAT n) = 0 → Runs (.slotMatch n) s (fun t =>
      t.armed n = false ∧ t.stk.due = s.stk.due ++ [⟨n, s.ticks + (s.rd (STK_S_PARAM n)).toNat / 65536, s.rd (STK_S_CFG n), s.rd (STK_S_PARAM n)⟩] ∧
      t.occ = s.occ ∧ RegsBut s t [(STK_S_CTRL n).off] ∧ t = { s with regs := t.regs, stk := t.stk })) ∧
    (s.rd (STK_S_REPEAT n) ≠ 0 → s.fld (STK_S_CFG n) STK_S_CFG_TB = 0 → Runs (.slotMatch n) s (fun t =>
      t.rd (STK_S_COMPARE n) = s.rd (STK_S_COMPARE n) + s.rd (STK_S_REPEAT n) ∧ t.armed n = true ∧ t.stk.due.length = s.stk.due.length + 1 ∧
      RegsBut s t [(STK_S_COMPARE n).off, (STK_S_SKIP n).off] ∧ t = { s with regs := t.regs, stk := t.stk }))

/-- A repeating slot that matches late fires once, adds the smallest multiple of REPEAT that puts COMPARE in the future, and the periods passed over are added to STK_S_SKIP (R145); stated on TB0. -/
def Sys2Proof.Claims.LateSlotSkipsPeriods : Prop :=
  ∀ (n : Nat) (s : State), n < 512 → s.fld (STK_S_CFG n) STK_S_CFG_TB = 0 → s.rd (STK_S_REPEAT n) ≠ 0 → reached s.ns (s.rd (STK_S_COMPARE n)) = true →
    ∃ k : Nat, 0 < k ∧
      (s.slotMatch n true).rd (STK_S_COMPARE n) = s.rd (STK_S_COMPARE n) + w32 (k * (s.rd (STK_S_REPEAT n)).toNat) ∧
      (s.ns - s.rd (STK_S_COMPARE n)).toNat < k * (s.rd (STK_S_REPEAT n)).toNat ∧
      (k - 1) * (s.rd (STK_S_REPEAT n)).toNat ≤ (s.ns - s.rd (STK_S_COMPARE n)).toNat ∧
      (s.slotMatch n true).rd (STK_S_SKIP n) = satAdd (s.rd (STK_S_SKIP n)) (k - 1) ∧
      (s.slotMatch n true).stk.due.length = s.stk.due.length + 1 ∧ (s.slotMatch n true).rd STK_LATE_CNT = satAdd (s.rd STK_LATE_CNT) 1

/-- The one delivery that is due (R142, R146): its slot counts; a capture takes TB0 NS and sets its flag, a GPIO pulse starts and lasts its width, and an event-only slot raises event 56.
The end of a pulse releases the ball. In the safe state nothing is delivered (R503). -/
def Sys2Proof.Claims.DeliveryActsOnItsTarget : Prop :=
  ∀ (d : Delivery) (s : State), s.stk.due = [d] → d.due ≤ s.ticks → d.slot < 512 → s.slotStream d.slot = none →
    (∀ k, k < 4 → DEC_S_PACE_MODE.get (s.rd (DEC_S_PACE k)) ≠ 2) →
    (s.safe = true → ∀ errs, exec (.slotDelivery errs) s = .next { s with stk := { s.stk with due := [] } }) ∧
    (s.safe = false → d.ttype = 6 → d.tinst < 64 → ∀ errs, Runs (.slotDelivery errs) s (fun t =>
      tabGet t.stk.gpio 0 d.tinst = s.ticks + max 1 (d.param.toNat % 65536) ∧ t.stk.due = [] ∧
      t.rd (STK_S_FIRES d.slot) = satAdd (s.rd (STK_S_FIRES d.slot)) 1)) ∧
    (s.safe = false → d.ttype = 5 → d.tinst < 16 → ∀ errs, Runs (.slotDelivery errs) s (fun t =>
      t.rd (STK_CAP d.tinst) = s.ns ∧ (t.rd STK_CAP_FLAGS).getLsbD d.tinst = true ∧ t.stk.due = [])) ∧
    (s.safe = false → d.ttype = 9 → ∀ errs, Runs (.slotDelivery errs) s (fun t => Raised s t 56 0x0E02 (w32 d.slot) ∧ t.stk.due = []))

/-- The end of a GPIO pulse: the ball goes back to high impedance (R142). -/
def Sys2Proof.Claims.GpioPulseEnds : Prop :=
  ∀ (g : Fin 64) (s : State), 0 < tabGet s.stk.gpio 0 g.val → tabGet s.stk.gpio 0 g.val ≤ s.ticks →
    exec (.gpioPulseEnd g) s = .next { s with stk := { s.stk with gpio := tabDel s.stk.gpio g.val }, out := s.out ++ [.gpioPulse g.val false 0] }

/-! ### Sensor ports and Zevlink -/

namespace Sys2Proof.Claims
open Sys2Proof.Machine

/-- STAGE of a head, in the span that `s` gives it. -/
def stageIn (s : State) (h : Nat) (t : State) : Nat := t.fld (SPT_H_STATE (s.hp h)) SPT_H_STATE_STAGE

/-- The head's frames pass to no other block: Catch does not use it, and no colour pipe and no compositor follows it. -/
def PortAlone (s : State) (h : Nat) : Prop :=
  s.catOn h = false ∧ s.feBlocks h = [] ∧ (s.catOf h).frame = none ∧ s.pipeOf h = none ∧ (s.drvOf h).open_ = false ∧ s.followers h = [] ∧ s.groupOf h = none

/-- A head in ACTIVE outside Paddle mode whose ports run. -/
def Active (s : State) (h : Nat) : Prop := s.zlStage h = 4 ∧ s.headUp h = true ∧ s.spIdle h = false ∧ s.boot.paddle = .off

end Sys2Proof.Claims

/-- Bring-up of a head (R163): lane activity takes DETECT to TRAIN, equalisation or its 200 µs timeout takes TRAIN to LOCK, and no lock in SPT_H_LOCK_TMO takes it back to DETECT with event
130; every change raises event 128 with the new stage. A Legacy port leaves TRAIN by word alignment alone (R181). -/
def Sys2Proof.Claims.HeadStages : Prop :=
  ∀ (h : Fin 8) (s : State),
    (s.headUp h = true → s.zlStage h = 0 → s.spIdle h = false → Runs (.laneIdleExit h) s (fun t =>
      stageIn s h t = 1 ∧ (t.sptOf h).offsets = [] ∧ (∃ o, t.occ = s.occ ++ [o] ∧ o.num = 128 ∧ o.value = 1) ∧ SameMem s t)) ∧
    (s.zlStage h = 1 → s.legacy h = false → ∀ c : Instr, c = .eqAdaptDone h ∨ c = .trainTimeout h → Runs c s (fun t =>
      stageIn s h t = 2 ∧ (∃ o, t.occ = s.occ ++ [o] ∧ o.num = 128 ∧ o.value = 2) ∧
      RegsBut s t ((SPT_H_STATE (s.hp h)).off :: evRegs 128) ∧ t = { s with regs := t.regs, occ := t.occ })) ∧
    (s.zlStage h = 1 ∨ s.zlStage h = 2 → s.legacy h = false → Runs (.lockTimeout h) s (fun t =>
      stageIn s h t = 0 ∧ t.occ.map (·.num) = s.occ.map (·.num) ++ [128, 130] ∧
      RegsBut s t ((SPT_H_STATE (s.hp h)).off :: (evRegs 128 ++ evRegs 130)) ∧ t = { s with regs := t.regs, occ := t.occ })) ∧
    (s.zlStage h = 1 → s.legacy h = true →
      exec (.eqAdaptDone h) s = .next s ∧ exec (.trainTimeout h) s = .next s ∧ exec (.lockTimeout h) s = .next s)

/-- Block lock (R156): a lane gains it after 64 consecutive valid sync headers, an invalid block counts and is discarded, and 16 invalid ones of any 64 lose it. -/
def Sys2Proof.Claims.BlockLock : Prop :=
  ∀ (h : Fin 8) (k : Nat) (c : BitVec 56) (s : State), s.headUp h = true → k < s.laneCount h →
    let p := (s.lanePlace h k).1
    let l := (s.lanePlace h k).2
    let x := s.laneOf p l
    (l < 12 → ∀ i : Instr, (i = .zlTrain h k c ∧ ctlOk 0xD2 c = true) ∨ (i = .zlIdle h k c ∧ ctlOk 0x1E c = true) → Runs i s (fun t =>
      (t.laneOf p l).run = min 64 (x.run + 1) ∧ (64 ≤ x.run + 1 → t.laneLock p l = true) ∧ (x.run + 1 < 64 → t.laneLock p l = s.laneLock p l) ∧
      t.occ = s.occ ∧ RegsBut s t [(SPT_P_LANE_STAT p).off, (SPT_L_STAT p l).off] ∧ t = { s with regs := t.regs, lanes := t.lanes })) ∧
    (l < 12 → s.zlStage h ≤ 2 → Runs (.zlBlockInvalid h k 0) s (fun t =>
      t.rd (SPT_L_ERR_CNT p l) = satAdd (s.rd (SPT_L_ERR_CNT p l)) 1 ∧ (t.laneOf p l).run = 0 ∧
      (15 ≤ (((x.bad.map (· + 0)).filter (· < 64)).map (· + 1)).countP (· < 64) → t.laneLock p l = false) ∧ t.occ = s.occ))

/-- Align (R162, R163, R165): a stripe in place on locked lanes leaves its offsets; the second with the same offsets takes a head in LOCK without a command lane through EXCHANGE to ACTIVE. -/
def Sys2Proof.Claims.AlignDeskews : Prop :=
  ∀ (h : Fin 8) (lanes : List (BitVec 56 × Byte)) (s : State),
    let lo := (lanes.map (fun e => e.2.toNat)).foldl min 255
    let offs := (lanes.map (fun e => e.2.toNat)).map (· - lo)
    s.headUp h = true → s.legacy h = false → lanes.length = s.laneCount h → s.allLocked h = true → (∀ e, e ∈ lanes → ctlOk 0x4B e.1 = true) →
    s.miswired h lanes = none → offs.foldl max 0 ≤ 48 →
    (s.zlStage h = 3 ∨ s.zlStage h = 4 ∨ (s.zlStage h = 2 ∧ (s.sptOf h).offsets ≠ offs) → Runs (.zlAlign h lanes) s (fun t =>
      t.sptOf h = { s.sptOf h with offsets := offs } ∧ t.occ = s.occ ∧ stageIn s h t = s.zlStage h)) ∧
    (s.zlStage h = 2 → (s.sptOf h).offsets = offs → s.cmdl h = false → Runs (.zlAlign h lanes) s (fun t =>
      stageIn s h t = 4 ∧ (t.sptOf h).offsets = offs))

/-- Frames and lines (R138, R171, R172): a Frame Start opens a frame, counts it and moves TB2; a Line Start opens its line, Payload fills it, and a Line End whose length, number and CRC-32C
are right passes it; one whose CRC fails is missing and substituted. Stated for a head whose frames pass to no other block. -/
def Sys2Proof.Claims.FramesAndLines : Prop :=
  ∀ (h : Fin 8) (c : BitVec 56) (d : BitVec 64) (s : State), Active s h → PortAlone s h → let p := s.hp h
    (ctlOk 0x55 c = true → ctlByte c 1 % 8 = h.val → s.frameModeOk h (ctlByte c 4) (ctlByte c 5) = true → (s.sptOf h).frame = none → (s.sptOf h).last = none →
      Runs (.zlFrameStart h c) s (fun t =>
        t.rd (SPT_H_FRAMES p) = s.rd (SPT_H_FRAMES p) + 1 ∧ t.rd (SPT_H_LAST_FRAME p) = w32 (ctlHalf c 2) ∧
        t.rd (STK_TB2_NOW h) = w32 (((s.rd (STK_TB2_NOW h)).toNat / 16384 + 1) % 262144 * 16384) ∧
        (∃ f, (t.sptOf h).frame = some f ∧ f.info.number = ctlHalf c 2 ∧ f.info.tStart = s.ns ∧ f.readouts = ctlByte c 5 ∧ f.next = []) ∧ t.occ = s.occ ∧
        RegsBut s t [(SPT_H_FRAMES p).off, (SPT_H_LAST_FRAME p).off, (STK_TB2_NOW h).off] ∧ SameMem s t)) ∧
    (∀ f, ctlOk 0x66 c = true → ctlByte c 1 % 8 = h.val → (s.sptOf h).frame = some f → (s.sptOf h).line = none → ctlHalf c 2 < (s.geom h).h →
      bitsOf (ctlByte c 1) 5 4 < f.readouts → ctlByte c 4 = f.info.number % 256 → tabGet f.next 0 (bitsOf (ctlByte c 1) 5 4) ≤ ctlHalf c 2 →
      Runs (.zlLineStart h c) s (fun t =>
        (t.sptOf h).line = some { mode := .taken, readout := bitsOf (ctlByte c 1) 5 4, line := ctlHalf c 2 } ∧ (t.sptOf h).frame = some f ∧
        (bitsOf (ctlByte c 1) 5 4 = 0 → t.rd (STK_TB2_NOW h) = w32 ((s.rd (STK_TB2_NOW h)).toNat / 16384 * 16384 + ctlHalf c 2 % 16384)) ∧
        RegsBut s t [(STK_TB2_NOW h).off] ∧ t = { s with regs := t.regs, spt := t.spt })) ∧
    (∀ l, (s.sptOf h).line = some l → l.mode = .taken →
      exec (.zlPayload h d) s = .next { s with spt := tabSet s.spt {} h { s.sptOf h with line := some { l with payload := l.payload ++ leBytes 8 d.toNat } } }) ∧
    (∀ l f, ctlOk 0x78 c = true → (s.sptOf h).frame = some f → (s.sptOf h).line = some l → l.mode = .taken → tabGet f.next 0 l.readout = l.line →
      l.payload.length = 8 * ceilDiv ((s.geom h).w * (s.geom h).b) 64 → ctlHalf c 5 = l.line → (crc32c l.payload).toNat = bitsOf c.toNat 31 0 →
      Runs (.zlLineEnd h c) s (fun t =>
        (t.sptOf h).line = none ∧ (∃ f', (t.sptOf h).frame = some f' ∧ tabGet f'.next 0 l.readout = l.line + 1 ∧ f'.info = f.info) ∧
        t.regs = s.regs ∧ t.occ = s.occ)) ∧
    (∀ l f, ctlOk 0x78 c = true → (s.sptOf h).frame = some f → f.headless = false → (s.sptOf h).line = some l → l.mode = .taken → tabGet f.next 0 l.readout = l.line →
      l.payload.length = 8 * ceilDiv ((s.geom h).w * (s.geom h).b) 64 → ctlHalf c 5 = l.line → (crc32c l.payload).toNat ≠ bitsOf c.toNat 31 0 →
      s.bit (SPT_H_CFG p) SPT_H_CFG_CRC_KEEP = false →
      Runs (.zlLineEnd h c) s (fun t =>
        t.rd (SPT_H_CRC_ERR p) = satAdd (s.rd (SPT_H_CRC_ERR p)) 1 ∧ t.rd (SPT_H_SUBST p) = satAdd (s.rd (SPT_H_SUBST p)) 1 ∧
        (∃ f', (t.sptOf h).frame = some f' ∧ tabGet f'.next 0 l.readout = l.line + 1 ∧ f'.info.subst = f.info.subst + 1)))

/-- The end of a frame (R173, R175, R176): a Frame End, or the frame timeout, closes the open frame; one whose lines all arrived is complete, without event 134. The line timeout substitutes the
lowest missing line, counts, and raises event 133 once per round. -/
def Sys2Proof.Claims.FramesEnd : Prop :=
  ∀ (h : Fin 8) (c : BitVec 56) (f : OpenFrame) (s : State), Active s h → PortAlone s h → (s.sptOf h).frame = some f → let p := s.hp h
    ((∀ r, r < f.readouts → tabGet f.next 0 r = (s.geom h).h) → f.info.subst = 0 → f.info.kept = 0 → f.headless = false → 
      (ctlOk 0x87 c = true → Runs (.zlFrameEnd h c) s (fun t =>
        (t.sptOf h).frame = none ∧ (t.sptOf h).closed = some f.info.number ∧ (t.sptOf h).line = none ∧ t.occ = s.occ ∧
        t.fld (SPT_H_STATUS_WORD p) ⟨7, 0⟩ = ctlByte c 5 % 256 ∧ RegsBut s t [(SPT_H_STATUS_WORD p).off] ∧ t = { s with regs := t.regs, spt := t.spt })) ∧
      Runs (.frameTimeout h) s (fun t => (t.sptOf h).frame = none ∧ (t.sptOf h).closed = some f.info.number ∧ t.regs = s.regs ∧ t = { s with spt := t.spt })) ∧
    (f.readouts = 1 → tabGet f.next 0 0 < (s.geom h).h → f.headless = false → s.roundFlags.contains (133, h.val) = false → Runs (.lineTimeout h) s (fun t =>
      t.rd (SPT_H_SUBST p) = satAdd (s.rd (SPT_H_SUBST p)) 1 ∧ t.rd (SPT_H_TMO_CNT p) = satAdd (s.rd (SPT_H_TMO_CNT p)) 1 ∧
      (∃ f', (t.sptOf h).frame = some f' ∧ tabGet f'.next 0 0 = tabGet f.next 0 0 + 1 ∧ f'.info.subst = f.info.subst + 1) ∧
      Raised s t 133 (0x0200 + p) 0))

/-- A Status block (R183): it sets the fields of the status word that carry it and raises event 137; a head temperature is kept (R199). One with a wrong CRC-8 counts as a protocol error. -/
def Sys2Proof.Claims.StatusIsKept : Prop :=
  ∀ (h : Fin 8) (c : BitVec 56) (s : State), s.zlStage h = 3 ∨ s.zlStage h = 4 → s.headUp h = true → let p := s.hp h
    (ctlOk 0x99 c = true → ctlByte c 1 = h.val → Runs (.zlStatus h c) s (fun t =>
      t.fld (SPT_H_STATUS_WORD p) ⟨15, 8⟩ = ctlByte c 2 ∧ t.fld (SPT_H_STATUS_WORD p) ⟨31, 16⟩ = bitsOf c.toNat 47 16 % 65536 ∧
      Raised s t 137 (0x0200 + p) (w32 (bitsOf c.toNat 47 16)) ∧
      (ctlByte c 2 = 0x10 → (t.catOf h).temp = some ((w32 (bitsOf c.toNat 47 16)).setWidth 16) ∧ t.bit (CAT_H_STATUS h) CAT_H_STATUS_TEMP_VALID = true) ∧
      (ctlByte c 2 ≠ 0x10 → t.cat = s.cat ∧ RegsBut s t ((SPT_H_STATUS_WORD p).off :: evRegs 137)))) ∧
    (ctlOk 0x99 c = false → s.zlStage h = 3 → exec (.zlStatus h c) s = .next (s.inc (SPT_H_PROTO_ERR p)))

/-- The command lane (R167, R168, R169): a write of GO sends the request with the next tag and sets BUSY, or is discarded while one is outstanding; its Response ends it with STATUS and event
139; a timeout sends it again, and after three attempts ends it with STATUS 0xF and event 138. Each direction sleeps, and a direction that does not wake sends the head back to LOCK. -/
def Sys2Proof.Claims.CommandLane : Prop :=
  ∀ (h p : Fin 8) (v : Word) (c : BitVec 56) (d : BitVec 64) (s : State),
    (Reach s (SPT_H_CMD_CTRL p) → v.getLsbD 1 = true → v.getLsbD 9 = false → s.bit (SPT_H_CMD_CTRL p) SPT_H_CMD_CTRL_BUSY = false → s.portHead p = h.val → s.leadPort h = some p.val →
      Runs (.sptCmdGo p v) s (fun t =>
        (t.sptOf h).cmd = some ⟨v.getLsbD 0, (s.sptOf h).tag, s.rd (SPT_H_CMD_ADDR p), s.rd (SPT_H_CMD_DATA p), 1, .software⟩ ∧
        (t.sptOf h).tag = ((s.sptOf h).tag + 1) % 256 ∧ t.bit (SPT_H_CMD_CTRL p) SPT_H_CMD_CTRL_BUSY = true ∧
        t.out = s.out ++ [.cmdLane h (requestBlocks (v.getLsbD 0) (s.sptOf h).tag (s.rd (SPT_H_CMD_ADDR p)) (s.rd (SPT_H_CMD_DATA p)))] ∧
        RegsBut s t [(SPT_H_CMD_CTRL p).off] ∧ t = { s with regs := t.regs, spt := t.spt, out := t.out })) ∧
    (Reach s (SPT_H_CMD_CTRL p) → v.getLsbD 1 = true → v.getLsbD 9 = false → s.bit (SPT_H_CMD_CTRL p) SPT_H_CMD_CTRL_BUSY = true → Runs (.sptCmdGo p v) s (fun t =>
      t.bit (SPT_H_CMD_CTRL p) SPT_H_CMD_CTRL_DISCARD = true ∧ RegsBut s t [(SPT_H_CMD_CTRL p).off] ∧ t = { s with regs := t.regs })) ∧
    (∀ q, (s.sptOf h).cmd = some q → q.tries < 3 →
      exec (.sptCmdTimeout h) s = .next (({ s with spt := tabSet s.spt {} h { s.sptOf h with cmd := some { q with tries := q.tries + 1 }, txSleep := false } }.setBit
        (SPT_H_CMD_CTRL (s.hp h)) SPT_H_CMD_CTRL_BUSY true).emit (.cmdLane h (requestBlocks q.write q.tag q.addr q.data)))) ∧
    (∀ q, (s.sptOf h).cmd = some q → 3 ≤ q.tries → q.by_ = .software → (s.sptOf h).ex = .idle → (s.scriptOf (s.hp h)).waitCmd = false → Runs (.sptCmdTimeout h) s (fun t =>
      t.sptOf h = { s.sptOf h with cmd := none } ∧ t.fld (SPT_H_CMD_CTRL (s.hp h)) SPT_H_CMD_CTRL_STATUS = 15 ∧ t.bit (SPT_H_CMD_CTRL (s.hp h)) SPT_H_CMD_CTRL_BUSY = false ∧
      Raised s t 138 (0x0200 + s.hp h) 0 ∧ RegsBut s t ((SPT_H_CMD_CTRL (s.hp h)).off :: evRegs 138))) ∧
    (∀ q, s.cmdl h = true → ctlOk 0x3C c = true → (s.sptOf h).cmd = some q → q.by_ = .software → (s.sptOf h).ex = .idle → (s.scriptOf (s.hp h)).waitCmd = false → q.write = false →
      crc32c ((0x3C#8 :: leBytes 7 c.toNat) ++ leBytes 4 d.toNat) = w32 (d.toNat / 4294967296) → ctlByte c 1 = 1 → ctlByte c 2 = q.tag → ctlByte c 3 % 16 ≠ 15 →
      Runs (.zlResponse h c d) s (fun t =>
        (t.sptOf h).cmd = none ∧ t.fld (SPT_H_CMD_CTRL (s.hp h)) SPT_H_CMD_CTRL_STATUS = ctlByte c 3 % 16 ∧ t.rd (SPT_H_CMD_DATA (s.hp h)) = w32 d.toNat ∧
        t.bit (SPT_H_CMD_CTRL (s.hp h)) SPT_H_CMD_CTRL_BUSY = false ∧ Raised s t 139 (0x0200 + s.hp h) 0)) ∧
    (ctlOk 0xE1 c = true → s.cmdl h = true → exec (.zlSleep h c) s = .next { s with spt := tabSet s.spt {} h { s.sptOf h with rxSleep := true } }) ∧
    (s.cmdl h = true → (s.rd (SPT_H_SLEEP (s.hp h))).toNat % 65536 ≠ 0 → s.fld (SPT_H_CFG (s.hp h)) SPT_H_CFG_TRIG < 2 → (s.sptOf h).txSleep = false →
      exec (.cmdlTxIdleTimeout h) s = .next ({ s with spt := tabSet s.spt {} h { s.sptOf h with txSleep := true } }.emit (.cmdLane h (ctlBlock 0xE1 [])))) ∧
    (s.cmdl h = true → s.zlStage h = 4 → (s.sptOf h).cmd = none → Runs (.cmdlWakeTimeout h) s (fun t =>
      stageIn s h t = 2 ∧ (t.sptOf h).offsets = [] ∧ (t.sptOf h).ex = .idle ∧ t.rd (SPT_H_LINK_DOWN_CNT (s.hp h)) = satAdd (s.rd (SPT_H_LINK_DOWN_CNT (s.hp h))) 1 ∧
      t.occ.map (·.num) = s.occ.map (·.num) ++ [128, 129])) ∧
    exec (.triggerPulseEnd h) s = .next { s with spt := tabSet s.spt {} h { s.sptOf h with trigPulse := false } }

/-- Stakeboat groups (R177, R178): a member whose run of INCOMPLETE frames reaches DROP_LIMIT at the deadline, where a limit of 0 acts as 8, is dropped with event 144; a write of SPT_SG_REJOIN asks
for readmission. -/
def Sys2Proof.Claims.GroupDropsAndReadmits : Prop :=
  ∀ (g : Fin 4) (h : Fin 8) (v : Word) (s : State), let lim := (s.rd (SPT_SG_CFG g)).toNat / 256 % 256
    ((s.rd (SPT_SG_CFG g)).getLsbD 16 = true → s.sgMembers g = [h.val] → (s.sptOf h).frame = none → (s.sptOf h).due = false →
      (if lim = 0 then 8 else lim) ≤ s.fld (sgRunReg g h) (sgRunFld h) → Runs (.sgDeadline g) s (fun t =>
        (t.rd (SPT_SG_ACTIVE g)).getLsbD h = false ∧ (t.rd (SPT_SG_ACTIVE g)).getLsbD (8 + h) = true ∧ Raised s t 144 (0x0200 + s.hp h) (w32 h.val) ∧
        RegsBut s t ((SPT_SG_ACTIVE g).off :: evRegs 144) ∧ t = { s with regs := t.regs, occ := t.occ })) ∧
    (Reach s (SPT_SG_REJOIN g) → exec (.sgRejoinWrite g v) s = .next (s.wr (SPT_SG_REJOIN g) (s.rd (SPT_SG_REJOIN g) ||| (v &&& 0xFF))))

/-- Legacy mode (R180, R181): a bit slip restarts the count of matching words; ALIGN starts the search; its end with a skew of at most 8 words is shown and takes the port to LOCK, and a lane without a
match raises event 136 with its number; RUN enters ACTIVE; words count while they match; a Start Of Line code opens the next line. -/
def Sys2Proof.Claims.LegacyMode : Prop :=
  ∀ (p : Fin 8) (l : Fin 12) (v : Word) (w : BitVec 16) (code : Byte) (offs : List (Option Nat)) (s : State), let h := s.portHead p
    (Reach s (SPT_L_BITSLIP p l) → v.getLsbD 0 = true → exec (.sptLBitslip p l v) s = .next (s.wr (SPT_L_LEG_MATCH p l) 0)) ∧
    (Reach s (SPT_P_LEG_CTRL p) → v.getLsbD 0 = true → v.getLsbD 1 = false → s.legacy h = true → s.zlStage h = 1 → Runs (.legacyAlign p v) s (fun t =>
      (t.scriptOf p).aligning = true ∧ (t.rd (SPT_P_LEG_STAT p)).getLsbD 0 = false ∧ RegsBut s t [(SPT_P_LEG_STAT p).off] ∧
      t = { s with regs := t.regs, scripts := t.scripts })) ∧
    (Reach s (SPT_P_LEG_CTRL p) → v.getLsbD 0 = false → v.getLsbD 1 = true → s.legacy h = true → s.zlStage h = 2 → Runs (.legacyRun p v) s (fun t =>
      stageIn s h t = 4 ∧ (∃ o, t.occ = s.occ ++ [o] ∧ o.num = 128 ∧ o.value = 4))) ∧
    ((s.scriptOf p).aligning = true → (s.scriptOf p).busy = false → (∀ o, o ∈ offs → o.isSome = true) → s.zlStage h = 1 →
      (offs.map (·.getD 0)).foldl max 0 - (offs.map (·.getD 0)).foldl min ((offs.map (·.getD 0)).headD 0) ≤ 8 → Runs (.legacyAlignDone p offs) s (fun t =>
        t.rd (SPT_P_LEG_STAT p) = w32 (1 + 256 * ((offs.map (·.getD 0)).foldl max 0 - (offs.map (·.getD 0)).foldl min ((offs.map (·.getD 0)).headD 0))) ∧
        stageIn s h t = 2 ∧ (t.scriptOf p).aligning = false)) ∧
    (∀ rest, (s.scriptOf p).aligning = true → (s.scriptOf p).busy = false → Runs (.legacyAlignDone p (none :: rest)) s (fun t =>
      Raised s t 136 (0x0200 + p) 0 ∧ (t.scriptOf p).aligning = false ∧ RegsBut s t (evRegs 136))) ∧
    (s.legacy h = true → s.headUp h = true → (s.sptOf h).line = none → let b := (s.geom h).b
      let word := w.toNat % 2 ^ b
      exec (.legacyWord p l w) s = .next (s.wr (SPT_L_LEG_MATCH p l)
        (if word = (s.rd (SPT_P_LEG_TRAIN p)).toNat % 65536 % 2 ^ b then w32 (min 255 ((s.rd (SPT_L_LEG_MATCH p l)).toNat + 1)) else 0))) ∧
    (∀ f, s.legacy h = true → s.headUp h = true → s.zlStage h = 4 → (s.sptOf h).frame = some f → (s.sptOf h).line = none → (s.sptOf h).legLine < (s.geom h).h →
      code.toNat = (s.rd (SPT_P_LEG_SYNC p)).toNat % 256 → code.toNat ≠ (s.rd (SPT_P_LEG_SYNC p)).toNat / 65536 % 256 → Runs (.legacySyncCode p code) s (fun t =>
        (t.sptOf h).line = some { mode := .taken, line := (s.sptOf h).legLine } ∧ (t.sptOf h).legLine = (s.sptOf h).legLine + 1 ∧
        t.rd (STK_TB2_NOW h) = w32 ((s.rd (STK_TB2_NOW h)).toNat / 16384 * 16384 + (s.sptOf h).legLine % 16384)))

/-- Set-up scripts (R182): GO starts the script at its address, whose first entry, a sensor-bus access, is issued; a script that runs takes no GO; the end of an entry issues the next, and an entry OP 0 ends the
script with event 141; a failed entry stops it with its index and event 140. -/
def Sys2Proof.Claims.SetUpScripts : Prop :=
  ∀ (p : Fin 8) (v : Word) (s : State), let a := s.rd64 (SPT_P_SCRIPT_ADDR_LO p) (SPT_P_SCRIPT_ADDR_HI p) / 16 * 16
    (Reach s (SPT_P_SCRIPT_CTRL p) → v.getLsbD 0 = true → (s.scriptOf p).busy = false → s.mem a = 1 ∨ s.mem a = 2 → Runs (.scriptGo p v) s (fun t =>
      t.scriptOf p = { base := a, busy := true } ∧ t.rd (SPT_P_SCRIPT_CTRL p) = 2 ∧
      t.out = s.out ++ [.sensorBus p (leAt (s.memRead a 16) 0 4) (leAt (s.memRead a 16) 4 4) (leAt (s.memRead a 16) 8 4)] ∧
      RegsBut s t [(SPT_P_SCRIPT_CTRL p).off] ∧ t = { s with regs := t.regs, scripts := t.scripts, out := t.out })) ∧
    (Reach s (SPT_P_SCRIPT_CTRL p) → (s.scriptOf p).busy = true → exec (.scriptGo p v) s = .next s) ∧
    ((s.scriptOf p).busy = true → (s.scriptOf p).boot = false → (s.scriptOf p).entry < 4095 → s.mem ((s.scriptOf p).base + 16 * ((s.scriptOf p).entry + 1)) = 0 →
      Runs (.scriptEntryDone p true) s (fun t =>
        (t.scriptOf p).busy = false ∧ t.rd (SPT_P_SCRIPT_CTRL p) = 0 ∧ Raised s t 141 (0x0200 + p) 0 ∧ RegsBut s t ((SPT_P_SCRIPT_CTRL p).off :: evRegs 141) ∧
        t = { s with regs := t.regs, scripts := t.scripts, occ := t.occ })) ∧
    ((s.scriptOf p).busy = true → (s.scriptOf p).boot = false → (s.scriptOf p).entry < 4096 → Runs (.scriptEntryDone p false) s (fun t =>
      (t.scriptOf p).busy = false ∧ t.rd (SPT_P_SCRIPT_CTRL p) = w32 (4 + (s.scriptOf p).entry * 65536) ∧ Raised s t 140 (0x0200 + p) (w32 (s.scriptOf p).entry) ∧
      RegsBut s t ((SPT_P_SCRIPT_CTRL p).off :: evRegs 140)))

/-! ### Raw front end -/

/-- User commits and the table windows (R190, R192, R199, R522): GO of CAT_H_USER_COMMIT is pending until a Frame Start; each access of a data window moves its index by one within its width, a factory entry takes
no write, and an index outside the table reads 0; a query is answered with the context applied at its position. -/
def Sys2Proof.Claims.CatchWindows : Prop :=
  ∀ (h : Fin 8) (v : Word) (s : State),
    (Reach s (CAT_H_USER_COMMIT h) → v.getLsbD 0 = true → v.getLsbD 1 = false → exec (.catUserCommitGo h v) s =
      .next ((s.setBit (CAT_H_USER_COMMIT h) CAT_H_USER_COMMIT_GO true).setBit (CAT_H_STATUS h) CAT_H_STATUS_USER_PENDING true)) ∧
    (Reach s (CAT_TBL_DATA h) → (s.rd (CAT_TBL_SEL h)).getLsbD 8 = false → exec (.catTblDataAccess h true v) s =
      .next (s.wr (CAT_TBL_INDEX h) (w32 (((s.rd (CAT_TBL_INDEX h)).toNat + 1) % 2 ^ 24)))) ∧
    (Reach s (CAT_TBL_DATA h) → calLen (s.catCfg h).g (CAT_TBL_SEL_TYPE.get (s.rd (CAT_TBL_SEL h))) ≤ (s.rd (CAT_TBL_INDEX h)).toNat % 2 ^ 24 →
      exec (.catTblDataAccess h false v) s = .next ({ s with hostData := 0 }.wr (CAT_TBL_INDEX h) (w32 (((s.rd (CAT_TBL_INDEX h)).toNat + 1) % 2 ^ 24)))) ∧
    (Reach s (CAT_DEF_DATA h 2) → Runs (.catDefDataAccess h false v) s (fun t =>
      t.hostData = s.defDataRead h 2 ∧ t.rd (CAT_DEF_INDEX h) = w32 (((s.rd (CAT_DEF_INDEX h)).toNat + 1) % 2 ^ 20) ∧ RegsBut s t [(CAT_DEF_INDEX h).off] ∧
      t = { s with regs := t.regs, hostData := t.hostData })) ∧
    (Reach s (CAT_DEF_QUERY h) → Runs (.catDefQuery h v) s (fun t =>
      t.rd (CAT_DEF_QUERY h) = v &&& 0x1FFFFFFF ∧ t.rd (CAT_DEF_QRESULT h) = 0 ∧ t.catOf h = { s.catOf h with query := true } ∧
      RegsBut s t [(CAT_DEF_QUERY h).off, (CAT_DEF_QRESULT h).off])) ∧
    ((s.catOf h).query = true → applied (lineCtxs (s.catLive h) (bitsOf (s.rd (CAT_DEF_QUERY h)).toNat 28 15)) (bitsOf (s.rd (CAT_DEF_QUERY h)).toNat 14 0) = none →
      Runs (.catDefQueryDone h) s (fun t => t.rd (CAT_DEF_QRESULT h) = 0x80000000 ∧ (t.catOf h).query = false ∧ RegsBut s t [(CAT_DEF_QRESULT h).off]))

/-- A completed defect index awaits the next Frame Start (R198); a temperature 1 s old is no longer valid, with event 171 (R199); a named reader releases the buffer it held, and no other reader does (R213). -/
def Sys2Proof.Claims.CatchIndexAndRings : Prop :=
  ∀ s : State,
    (∀ h : Fin 8, (s.catOf h).idxDue = true → exec (.defectIndexBuilt h) s = .next { s with cat := tabSet s.cat {} h { s.catOf h with idxDue := false, built := some (s.catOf h).ctx } }) ∧
    (∀ h : Fin 8, s.bit (CAT_H_STATUS h) CAT_H_STATUS_TEMP_VALID = true →
      exec (.headTempStale h) s = .next ((s.setBit (CAT_H_STATUS h) CAT_H_STATUS_TEMP_VALID false).raise 171 (s.feBid h))) ∧
    (∀ (ring : Fin 24) (buf : Byte) (reader : BitVec 16), Runs (.bufferRelease ring buf reader) s (fun t =>
      reader.toNat ∉ t.holders ring buf.toNat ∧ (∀ q, q ≠ reader.toNat → (q ∈ t.holders ring buf.toNat ↔ q ∈ s.holders ring buf.toNat)) ∧
      (∀ r b, ringKey r b ≠ ringKey ring buf.toNat → t.holders r b = s.holders r b) ∧ t = { s with rings := t.rings }))

/-! ### Colour pipelines and look paths -/

/-- A user commit of a head's colour (R230): with DISCARDED written 1 it is cleared; GO copies the clamped shadow when no copy is pending and the pipeline carries
the head, and is nothing otherwise; the end of the computation makes the values pending for a Frame Start (R234). -/
def Sys2Proof.Claims.ColourCommit : Prop :=
  ∀ (p : Fin 2) (h : Fin 8) (v : Word) (s : State),
    (Reach s (DRV_H_COMMIT p h) → v.getLsbD 0 = true → v.getLsbD 1 = false → (s.drvOf h).copied = none → s.pp h = p → (s.drvCopy h).2 = 0 →
      exec (.drvHCommitGo p h v) s = .next ((({ s with drv := tabSet s.drv {} h { s.drvOf h with copied := some (s.drvCopy h).1, ready := false } }).setBit
        (DRV_H_COMMIT p h) DRV_H_COMMIT_GO true).setBit (DRV_H_STATUS p h) DRV_H_STATUS_COMPUTING true)) ∧
    (Reach s (DRV_H_COMMIT p h) → v.getLsbD 1 = true → v.getLsbD 0 = false →
      exec (.drvHCommitGo p h v) s = .next (s.setBit (DRV_H_COMMIT p h) DRV_H_COMMIT_DISCARDED false)) ∧
    (Reach s (DRV_H_COMMIT p h) → v.getLsbD 1 = false → (s.drvOf h).copied ≠ none → exec (.drvHCommitGo p h v) s = .next s) ∧
    ((s.drvOf h).copied ≠ none → (s.drvOf h).ready = false → Runs (.drvPrecomputeDone h) s (fun t =>
      t.drvOf h = { s.drvOf h with ready := true } ∧ t.bit (DRV_H_STATUS (s.pp h) h) DRV_H_STATUS_COMPUTING = false ∧
      t.bit (DRV_H_STATUS (s.pp h) h) DRV_H_STATUS_PENDING = true ∧ RegsBut s t [(DRV_H_STATUS (s.pp h) h).off] ∧
      (∀ k : Fin 8, k ≠ h → t.drvOf k = s.drvOf k) ∧ t = { s with regs := t.regs, drv := t.drv }))

/-- The table windows of the colour pipelines (R244): each access moves the index by one within its width; an illuminant index of 41 or more reads 0 and takes no write; the
active bank of a look path takes no write; a look-path index outside its table reads 0; of the LUT only LKP_TBL_DATA1 moves the index, of the others only LKP_TBL_DATA0. -/
def Sys2Proof.Claims.ColourWindows : Prop :=
  ∀ (p : Fin 2) (h n : Fin 8) (v : Word) (s : State),
    let i := bitsOf (s.rd (DRV_H_ILL_INDEX p h)).toNat 5 0
    let j := bitsOf (s.rd (LKP_TBL_INDEX n)).toNat 18 0
    let sel := s.rd (LKP_TBL_SEL n)
    (Reach s (DRV_H_ILL_DATA p h) → 41 ≤ i →
      exec (.drvHIllDataAccess p h true v) s = .next (s.wr (DRV_H_ILL_INDEX p h) (w32 (((s.rd (DRV_H_ILL_INDEX p h)).toNat + 1) % 64))) ∧
      exec (.drvHIllDataAccess p h false v) s = .next ({ s with hostData := 0 }.wr (DRV_H_ILL_INDEX p h) (w32 (((s.rd (DRV_H_ILL_INDEX p h)).toNat + 1) % 64)))) ∧
    (Reach s (DRV_H_ILL_DATA p h) → i < 41 → Runs (.drvHIllDataAccess p h true v) s (fun t =>
      tabGet (t.drvOf h).illShadow 0 (64 * bitsOf (s.rd (DRV_H_ILL_SEL p h)).toNat 0 0 + i) = v ∧
      RegsBut s t [(DRV_H_ILL_INDEX p h).off] ∧ t = { s with regs := t.regs, drv := t.drv })) ∧
    (Reach s (LKP_TBL_DATA0 n) → sel.getLsbD 9 = true → LKP_TBL_SEL_TABLE.get sel ≠ 1 →
      exec (.lkpTblDataAccess n false true v) s = .next (s.wr (LKP_TBL_INDEX n) (w32 (((s.rd (LKP_TBL_INDEX n)).toNat + 1) % 2 ^ 19)))) ∧
    (Reach s (LKP_TBL_DATA0 n) → LKP_TBL_SEL_TABLE.get sel = 1 → 274625 ≤ j →
      exec (.lkpTblDataAccess n false false v) s = .next { s with hostData := 0 }) ∧
    (Reach s (LKP_TBL_DATA1 n) → LKP_TBL_SEL_TABLE.get sel = 1 → 274625 ≤ j →
      exec (.lkpTblDataAccess n true false v) s =
        .next ({ s with hostData := 0 }.wr (LKP_TBL_INDEX n) (w32 (((s.rd (LKP_TBL_INDEX n)).toNat + 1) % 2 ^ 19))))

/-- A look path's swap and bank copy (R243): SWAP waits for a Frame Start and is nothing while one waits; the copy's end gives the incoming bank what the active one holds. -/
def Sys2Proof.Claims.LookPathBanks : Prop :=
  ∀ (n : Fin 8) (v : Word) (s : State),
    (Reach s (LKP_CTRL n) → v.getLsbD 0 = true → s.bit (LKP_STATUS n) LKP_STATUS_SWAP_PENDING = false →
      exec (.lkpSwap n v) s = .next ((s.wr (LKP_CTRL n) 1).setBit (LKP_STATUS n) LKP_STATUS_SWAP_PENDING true)) ∧
    (Reach s (LKP_CTRL n) → s.bit (LKP_STATUS n) LKP_STATUS_SWAP_PENDING = true → exec (.lkpSwap n v) s = .next s) ∧
    ((s.lkpOf n).copying = true → (s.lkpOf n).active.mat.length = 9 → (s.lkpOf n).active.ofs.length = 3 → Runs (.lkpBankCopyDone n) s (fun t =>
      t.lkpOf n = { s.lkpOf n with copying := false, incoming := (s.lkpOf n).tabs } ∧ t.rd (LKP_EXPOSURE n) = (s.lkpOf n).active.exposure ∧
      t.rd (LKP_LIN_SCALE n) = (s.lkpOf n).active.linScale ∧ t.rd (LKP_PQ_NITS n) = (s.lkpOf n).active.pqNits ∧
      (∀ i, i < 9 → t.rd (LKP_MAT n i) = ((s.lkpOf n).active.mat[i]?).getD 0) ∧ (∀ i, i < 3 → t.rd (LKP_OFS n i) = ((s.lkpOf n).active.ofs[i]?).getD 0) ∧
      t.bit (LKP_STATUS n) LKP_STATUS_SWAP_PENDING = false ∧ t = { s with regs := t.regs, lkp := t.lkp }))

/-- A written frame of a look path (R246) or of a write-back (R270): its trailer is the last 64 bytes of its buffer, the register of the last buffer shows it, event 401 or
420 names it, and it is posted to the ring's readers; no other byte of memory changes before the post. -/
def Sys2Proof.Claims.WrittenFramesArePosted : Prop :=
  (∀ (n : Fin 8) (s : State) (w : LkpWrite) (ws : List LkpWrite), (s.lkpOf n).written = w :: ws → ∃ u : State,
    exec (.lkpFrameWritten n) s = .next (u.postRing (8 + n) w.buf w.info) ∧
    (let a := s.lkpBufAddr n w.buf + s.lkpBufBytes n - 64
     (∀ i, i < 64 → u.mem (a + i) = (s.lkpTrailer n w).getD i 0) ∧ (∀ b, b < a ∨ a + 64 ≤ b → u.mem b = s.mem b)) ∧
    u.rd (LKP_WR_LAST n) = w32 w.buf ∧ (u.lkpOf n).written = ws ∧ Raised s u 401 (0x0500 + n) (w32 n.val) ∧
    RegsBut s u ((LKP_WR_LAST n).off :: evRegs 401) ∧ u = { s with regs := u.regs, g7 := u.g7, lkp := u.lkp, occ := u.occ }) ∧
  (∀ (n : Fin 4) (s : State) (w : WbWrite) (ws : List WbWrite), (s.cmpOf n).wbDone = w :: ws → ∃ u : State,
    exec (.wbFrameWritten n) s = .next (u.postRing (16 + n) w.buf w.info) ∧
    (let a := s.wbAddr n w.buf + s.wbBytes n - 64
     (∀ i, i < 64 → u.mem (a + i) = (s.wbTrailer n w).getD i 0) ∧ (∀ b, b < a ∨ a + 64 ≤ b → u.mem b = s.mem b)) ∧
    u.rd (CMP_WB_LAST n) = w32 w.buf ∧ (u.cmpOf n).wbDone = ws ∧ Raised s u 420 (0x0600 + n) (w32 w.buf) ∧
    RegsBut s u ((CMP_WB_LAST n).off :: evRegs 420) ∧ u = { s with regs := u.regs, g7 := u.g7, cmp := u.cmp, occ := u.occ })

/-! ### Composition -/

/-- A layer commit (R263, R265): a commit that is pending discards the write; a layer the compositor does not have refuses it with 0401, the time and event 417; one that
switches the layer off waits for a frame start. -/
def Sys2Proof.Claims.LayerCommits : Prop :=
  ∀ (n : Fin 4) (l : Fin 8) (v : Word) (s : State), Reach s (CMP_L_COMMIT n l) → v.getLsbD 0 = true → v.getLsbD 1 = false →
    (s.bit (CMP_L_STATUS n l) CMP_L_STATUS_PENDING = true →
      exec (.layerCommit n l v) s = .next (s.setBit (CMP_L_STATUS n l) CMP_L_STATUS_WR_DISCARD true)) ∧
    (s.bit (CMP_L_STATUS n l) CMP_L_STATUS_PENDING = false → s.rigListing (0x0600 + n) = false → s.cmpLayers n ≤ l.val → Runs (.layerCommit n l v) s (fun t =>
      t.rd (CMP_L_REFUSAL n l) = 0x0401 ∧ t.rd (CMP_L_REFUSAL_TIME n l) = s.ns ∧ Raised s t 417 (0x0600 + n) (s.rd (CMP_FRAME n)) ∧
      RegsBut s t ((CMP_L_REFUSAL n l).off :: (CMP_L_REFUSAL_TIME n l).off :: evRegs 417) ∧ t = { s with regs := t.regs, occ := t.occ })) ∧
    (s.bit (CMP_L_STATUS n l) CMP_L_STATUS_PENDING = false → s.rigListing (0x0600 + n) = true → Runs (.layerCommit n l v) s (fun t =>
      t.rd (CMP_L_REFUSAL n l) = 0x0503 ∧ t.bit (CMP_L_STATUS n l) CMP_L_STATUS_PENDING = false ∧ Raised s t 417 (0x0600 + n) (s.rd (CMP_FRAME n)))) ∧
    (s.bit (CMP_L_STATUS n l) CMP_L_STATUS_PENDING = false → s.rigListing (0x0600 + n) = false → l.val < s.cmpLayers n → (s.layerShadow n l).on = false →
      s.fld (SCN_STATUS n) SCN_STATUS_STATE ≠ 5 → Runs (.layerCommit n l v) s (fun t =>
      t.bit (CMP_L_STATUS n l) CMP_L_STATUS_PENDING = true ∧ t.bit (CMP_L_COMMIT n l) ⟨0, 0⟩ = true ∧
      RegsBut s t [(CMP_L_COMMIT n l).off, (CMP_L_STATUS n l).off, (CMP_L_RATE_NEED n l).off] ∧ t = { s with regs := t.regs }))

/-- A post to a layer that reads the host's ring (SRC 3, R252, R266) adds its buffer at the end; a post to another is nothing. -/
def Sys2Proof.Claims.LayerPosts : Prop :=
  ∀ (n : Fin 4) (l : Fin 8) (v : Word) (s : State), Reach s (CMP_L_POST n l) →
    ((s.layerOf n l).act.on = true → (s.layerOf n l).act.src = 3 → s.fld (SCN_STATUS n) SCN_STATUS_STATE ≠ 5 →
      Runs (.layerPost n l v) s (fun t =>
        t.layerOf n l = { s.layerOf n l with posted := (s.layerOf n l).posted ++ [v.toNat % 256] } ∧
        (∀ k : Fin 8, k ≠ l → t.layerOf n k = s.layerOf n k) ∧ t = { s with cmp := t.cmp })) ∧
    ((s.layerOf n l).act.src ≠ 3 → exec (.layerPost n l v) s = .next s)

/-- Buoy registers (R271, R273): LEARN set by a 1 stays until the hardware clears it, the other fields take what is written, and reserved bits read 0; a 1 to FS_LATCHED
ends the painting and nothing else. -/
def Sys2Proof.Claims.BuoyRegisters : Prop :=
  ∀ (n : Fin 4) (b : Fin 16) (v : Word) (s : State),
    (Reach s (CMP_B_CFG n b) → Runs (.buoyLearn n b v) s (fun t =>
      t.rd (CMP_B_CFG n b) = (v &&& 0xFF003F03) ||| (s.rd (CMP_B_CFG n b) &&& 2) ∧ RegsBut s t [(CMP_B_CFG n b).off] ∧ t = { s with regs := t.regs })) ∧
    (Reach s (CMP_B_STATUS n b) → Runs (.buoyFsClear n b v) s (fun t =>
      (∀ k, k < 32 → (t.rd (CMP_B_STATUS n b)).getLsbD k = ((s.rd (CMP_B_STATUS n b)).getLsbD k && !(k == 0 && v.getLsbD 0))) ∧
      RegsBut s t [(CMP_B_STATUS n b).off] ∧ t = { s with regs := t.regs }))

/-! ### Scan-out -/

/-- SCN_CTRL is one register whose four bits are commands of their own (R277, R283, R291): the four rows are writes of it. -/
def Sys2Proof.Claims.ScanCtrlIsOneRegister : Prop :=
  ∀ (n : Fin 4) (v : Word) (s : State), exec (.scnSoftStop n v) s = exec (.timingWrite n v) s ∧ exec (.scnStart n v) s = exec (.timingWrite n v) s ∧
    exec (.scnPsrExit n v) s = exec (.timingWrite n v) s

/-- A timing write (R277, R279 to R282): a broken check refuses the whole group with its code, the time and event 433; an accepted one is in force at once, counts and raises
event 432; one that changes the PLL puts a running head in HOLD and truncates the frame in progress. -/
def Sys2Proof.Claims.TimingWrites : Prop :=
  ∀ (n : Fin 4) (s : State), Reach s (SCN_CTRL n) →
    let t0 := s.scnShadow n
    let pll := t0.div ≠ (s.scnOf n).tim.div ∨ t0.frac ≠ (s.scnOf n).tim.frac
    (∀ k, s.timingCheck n t0 (s.liveHead n) = some k → Runs (.timingWrite n 1) s (fun t =>
      t.rd (SCN_TW_REFUSAL n) = w32 k ∧ t.rd (SCN_TW_REFUSAL_TIME n) = s.ns ∧ Raised s t 433 (0x0700 + n) 0 ∧
      RegsBut s t ((SCN_TW_REFUSAL n).off :: (SCN_TW_REFUSAL_TIME n).off :: evRegs 433) ∧ t = { s with regs := t.regs, occ := t.occ })) ∧
    (s.timingCheck n t0 (s.liveHead n) = none → s.scnState n = 2 → Runs (.timingWrite n 1) s (fun t =>
      t.rd (SCN_TW_REFUSAL n) = 0x0503 ∧ t.scnOf n = s.scnOf n ∧ Raised s t 433 (0x0700 + n) 0)) ∧
    (s.timingCheck n t0 (s.liveHead n) = none → s.scnState n ≠ 2 → s.scnState n ≠ 5 → s.rigListing (0x0700 + n) = false → ¬ pll →
      Runs (.timingWrite n 1) s (fun t =>
        t.scnOf n = { s.scnOf n with tim := t0, checked := false, skip := 2 } ∧ t.rd (SCN_TW_GEN n) = s.rd (SCN_TW_GEN n) + 1 ∧
        t.rd (SCN_WAKE_STATUS n) = s.rd (SCN_WAKE_STATUS n) &&& 1 ∧ Raised s t 432 (0x0700 + n) (w32 n.val) ∧
        RegsBut s t ((SCN_TW_GEN n).off :: (SCN_WAKE_STATUS n).off :: evRegs 432) ∧ t = { s with regs := t.regs, scn := t.scn, occ := t.occ })) ∧
    (s.timingCheck n t0 (s.liveHead n) = none → s.scnState n = 1 → s.rigListing (0x0700 + n) = false → pll → Runs (.timingWrite n 1) s (fun t =>
        t.scnState n = 2 ∧ (t.scnOf n).tim = t0 ∧ (t.scnOf n).open_ = false ∧ t.rd (SCN_TW_GEN n) = s.rd (SCN_TW_GEN n) + 1 ∧
        t.rd (SCN_TRUNC_CNT n) = (if (s.scnOf n).open_ then satAdd (s.rd (SCN_TRUNC_CNT n)) 1 else s.rd (SCN_TRUNC_CNT n))))

/-- SOFT_STOP, START and PSR_EXIT (R283, R291): a running head is STOPPING until its frame ends, a head in HOLD stops when it ends; START is kept by a stopped head alone; a head in self-refresh leaves it with event 442. -/
def Sys2Proof.Claims.ScanStopsAndStarts : Prop :=
  ∀ (n : Fin 4) (s : State), Reach s (SCN_CTRL n) →
    (s.scnState n = 1 → exec (.scnSoftStop n 2) s = .next (s.setFld (SCN_STATUS n) SCN_STATUS_STATE 3)) ∧
    (s.scnState n = 2 → exec (.scnSoftStop n 2) s = .next { s with scn := tabSet s.scn {} n { s.scnOf n with stopAfter := true } }) ∧
    (s.scnState n = 3 ∨ s.scnState n = 4 → exec (.scnSoftStop n 2) s = .next s) ∧
    (s.scnState n = 4 → exec (.scnStart n 4) s = .next { s with scn := tabSet s.scn {} n { s.scnOf n with startReq := true } }) ∧
    (s.scnState n ≠ 4 → exec (.scnStart n 4) s = .next s) ∧
    (s.scnState n ≠ 5 → exec (.scnPsrExit n 8) s = .next s) ∧
    (s.scnState n = 5 → Runs (.scnPsrExit n 8) s (fun t =>
      t.scnState n = (if (s.scnOf n).stopAfter then 3 else 1) ∧ (t.scnOf n).fresh = true ∧ Raised s t 442 (0x0700 + n) 0 ∧
      RegsBut s t ((SCN_STATUS n).off :: evRegs 442) ∧ t = { s with regs := t.regs, scn := t.scn, occ := t.occ }))

/-- The end of HOLD (R281, R282): on lock the hold time goes out with event 434 and a head that was stopped is stopped again, one in slot-locked mode waits for its next delivery;
200 µs without lock stop the head with reason 2, where no reason stands, and event 435; no delivery for two frame periods unlocks it (R284). -/
def Sys2Proof.Claims.HoldEnds : Prop :=
  ∀ (n : Fin 4) (us : Byte) (s : State),
    (s.scnState n ≠ 2 → exec (.scnPllLocked n us) s = .next s ∧ exec (.scnRelockTimeout n) s = .next s) ∧
    (s.scnState n = 2 → (s.scnOf n).black = true → Runs (.scnPllLocked n us) s (fun t =>
      t.scnState n = 4 ∧ t.rd (SCN_RELOCK_CNT n) = satAdd (s.rd (SCN_RELOCK_CNT n)) 1 ∧ Raised s t 434 (0x0700 + n) (w32 us.toNat) ∧
      (t.scnOf n).black = false ∧ RegsBut s t ((SCN_STATUS n).off :: (SCN_RELOCK_CNT n).off :: evRegs 434) ∧
      t = { s with regs := t.regs, scn := t.scn, occ := t.occ })) ∧
    (s.scnState n = 2 → (s.scnOf n).black = false → (s.scnOf n).stopAfter = false → s.fld (SCN_SYNC n) SCN_SYNC_MODE = 1 →
      Runs (.scnPllLocked n us) s (fun t => t.scnState n = 1 ∧ (t.scnOf n).waitSlot = true ∧ Raised s t 434 (0x0700 + n) (w32 us.toNat) ∧
        RegsBut s t ((SCN_STATUS n).off :: (SCN_RELOCK_CNT n).off :: evRegs 434) ∧ t = { s with regs := t.regs, scn := t.scn, occ := t.occ })) ∧
    (s.scnState n = 2 → Runs (.scnRelockTimeout n) s (fun t =>
      t.scnState n = 4 ∧ Raised s t 435 (0x0700 + n) 0 ∧
      t.fld (SCN_STATUS n) SCN_STATUS_STOP_REASON = (if s.fld (SCN_STATUS n) SCN_STATUS_STOP_REASON = 0 then 2 else s.fld (SCN_STATUS n) SCN_STATUS_STOP_REASON) ∧
      RegsBut s t ((SCN_STATUS n).off :: evRegs 435) ∧ t = { s with regs := t.regs, scn := t.scn, occ := t.occ })) ∧
    (s.fld (SCN_SYNC n) SCN_SYNC_MODE = 1 → s.scnOn n = true → Runs (.scnDeliveryTimeout n) s (fun t =>
      t.bit (SCN_STATUS n) SCN_STATUS_LOCKED = false ∧ t.scnOf n = { s.scnOf n with lockRun := 0 } ∧ Raised s t 438 (0x0700 + n) 0 ∧
      RegsBut s t ((SCN_STATUS n).off :: evRegs 438) ∧ t = { s with regs := t.regs, scn := t.scn, occ := t.occ }))

/-- A frame start of a head whose compositor runs by itself (R277, R283, R287, R289, R291): a running head counts SCN_FRAME and sends the frame's timecode and packets; a stopped
head sends black at the same pace; START brings it back; a STOPPING head stops with reason 1 and event 436; an unchanged picture for IDLE_FRAMES frames sends a head into
self-refresh with event 441. -/
def Sys2Proof.Claims.FrameStarts : Prop :=
  ∀ (n : Fin 4) (s : State), s.scnOn n = true → s.running (0x0700 + n) = true → (s.scnOf n).waitSlot = false →
    let proto := s.fld (SCN_CFG n) SCN_CFG_PROTO
    let sent (t : State) : Prop := t.rd (SCN_FRAME n) = s.rd (SCN_FRAME n) + 1 ∧ t.out = s.out ++ [.scanFrame n (s.rd (SCN_FRAME n) + 1)
      (if proto = 1 ∧ (s.rd (SCN_TC n)).getLsbD 31 = true then some (s.rd (SCN_TC n) &&& 0x3FFFFFFF) else none) (if proto = 1 then s.scnId n else 0) (s.scnPackets n)] ∧
      (t.scnOf n).open_ = true ∧ (t.scnOf n).line = 0 ∧ (t.scnOf n).tc = s.rd (SCN_TC n)
    (s.scnState n = 1 → (s.scnOf n).open_ = false → s.fsync n = true → Runs (.scnFrameStart n) s (fun t => sent t ∧ t.scnState n = 1 ∧
      RegsBut s t [(SCN_FRAME n).off, (SCN_TC n).off] ∧ t = { s with regs := t.regs, scn := t.scn, cmp := t.cmp, out := t.out })) ∧
    (s.scnState n = 4 → (s.scnOf n).startReq = false → Runs (.scnFrameStart n) s (fun t => sent t ∧ t.scnState n = 4 ∧
      RegsBut s t [(SCN_FRAME n).off, (SCN_TC n).off] ∧ t = { s with regs := t.regs, scn := t.scn, cmp := t.cmp, out := t.out })) ∧
    (s.scnState n = 4 → (s.scnOf n).startReq = true → s.fsync n = true → Runs (.scnFrameStart n) s (fun t => sent t ∧ t.scnState n = 1 ∧
      t.fld (SCN_STATUS n) SCN_STATUS_STOP_REASON = 0 ∧ (t.scnOf n).startReq = false ∧
      RegsBut s t [(SCN_FRAME n).off, (SCN_TC n).off, (SCN_STATUS n).off])) ∧
    (s.scnState n = 3 → (s.cmpOf n).open_ = false → Runs (.scnFrameStart n) s (fun t => sent t ∧ t.scnState n = 4 ∧ Raised s t 436 (0x0700 + n) 0 ∧
      t.fld (SCN_STATUS n) SCN_STATUS_STOP_REASON = (if s.fld (SCN_STATUS n) SCN_STATUS_STOP_REASON = 0 then 1 else s.fld (SCN_STATUS n) SCN_STATUS_STOP_REASON) ∧
      RegsBut s t ((SCN_FRAME n).off :: (SCN_TC n).off :: (SCN_STATUS n).off :: evRegs 436))) ∧
    (s.scnState n = 1 → (s.scnOf n).open_ = true → proto = 5 → s.bit (SCN_PSR n) SCN_PSR_EN = true → (s.scnOf n).psrSink = true → (s.cmpOf n).chg = false →
      max 2 (s.fld (SCN_PSR n) SCN_PSR_IDLE_FRAMES) ≤ (s.scnOf n).idle + 1 → Runs (.scnFrameStart n) s (fun t =>
        t.scnState n = 5 ∧ t.rd (SCN_PSR_CNT n) = satAdd (s.rd (SCN_PSR_CNT n)) 1 ∧ Raised s t 441 (0x0700 + n) 0 ∧
        RegsBut s t ((SCN_STATUS n).off :: (SCN_PSR_CNT n).off :: evRegs 441) ∧ t.out = s.out))

/-- Output lines (R123, R283 to R285): a stopped head sends black, a repeated frame sends its lines again, and a running head sends what its compositor composed; past the active lines
nothing is sent. -/
def Sys2Proof.Claims.OutputLines : Prop :=
  ∀ (n : Fin 4) (missed : List (Nat × Nat)) (s : State), s.scnOn n = true → s.running (0x0700 + n) = true →
    let x := s.scnOf n
    let black : List Rgba := List.replicate x.tim.hActive ⟨0, 0, 0, fpOne⟩
    let above := match (s.cmpOf n).lines.getLast? with
      | some l => paintLine (s.cmpOf n).paint (x.line - 1) l
      | none => black
    (x.open_ = false ∨ x.tim.vActive ≤ x.line → exec (.scnLine n missed) s = .next s) ∧
    (x.open_ = true → x.line < x.tim.vActive → s.scnState n = 4 → x.shown = [] → Runs (.scnLine n missed) s (fun t =>
      t.out = s.out ++ [.scanLine n x.line (lineCodes x.tim x.line above black)] ∧ (t.scnOf n).line = x.line + 1 ∧
      t = { s with scn := t.scn, out := t.out })) ∧
    (x.open_ = true → x.line < x.tim.vActive → s.scnState n = 1 → x.shown ≠ [] → Runs (.scnLine n missed) s (fun t =>
      t.out = s.out ++ [.scanLine n x.line (x.shown.getD x.line [])] ∧ (t.scnOf n).line = x.line + 1 ∧ t = { s with scn := t.scn, out := t.out })) ∧
    (x.open_ = true → x.line + 1 < x.tim.vActive → s.scnState n = 1 → x.shown = [] →
      let u := (s.cmpLine n x.line missed).1
      let codes := lineCodes x.tim x.line above (s.cmpLine n x.line missed).2
      u.embedOn n = false →
      exec (.scnLine n missed) s = .next (s.settle ({ u with scn := tabSet u.scn {} n { x with line := x.line + 1, codes := x.codes ++ [codes] } }.emit
        (.scanLine n x.line codes))))

/-- The wake check at a frame's end (R292, R293): with a picture that changes, K signatures equal to the one before raise event 440, count and set the sticky bit, and the run starts again; a different
signature clears the run; the first frame only gives the reference. -/
def Sys2Proof.Claims.WakeChecks : Prop :=
  ∀ (n : Fin 4) (s : State), (s.scnOf n).checked = true →
    let x := s.scnOf n
    let t := s.wakeCheck n
    let run := s.fld (SCN_WAKE_STATUS n) scnRun
    let k := clampNat 1 60 (s.fld (SCN_WAKE_CFG n) SCN_WAKE_CFG_K)
    t.rd (SCN_WAKE_SIG n) = s.wakeSig n ∧ (t.scnOf n).ref = some (s.wakeSig n) ∧ (t.scnOf n).checked = false ∧
    (x.fresh = true ∨ x.ref = none → t.rd (SCN_WAKE_STATUS n) = s.rd (SCN_WAKE_STATUS n) ∧ t.occ = s.occ) ∧
    (x.fresh = false → (∃ w, x.ref = some w ∧ w ≠ s.wakeSig n) → t.fld (SCN_WAKE_STATUS n) scnRun = 0 ∧ t.occ = s.occ) ∧
    (x.fresh = false → x.ref = some (s.wakeSig n) → s.bit (SCN_WAKE_CFG n) SCN_WAKE_CFG_CHANGING = false →
      t.fld (SCN_WAKE_STATUS n) scnRun = min 63 (run + 1) ∧ t.occ = s.occ) ∧
    (x.fresh = false → x.ref = some (s.wakeSig n) → s.bit (SCN_WAKE_CFG n) SCN_WAKE_CFG_CHANGING = true → k ≤ min 63 (run + 1) →
      t.fld (SCN_WAKE_STATUS n) scnRun = 0 ∧ t.bit (SCN_WAKE_STATUS n) ⟨0, 0⟩ = true ∧ t.rd (SCN_WAKE_CNT n) = satAdd (s.rd (SCN_WAKE_CNT n)) 1 ∧
      Raised s t 440 (0x0700 + n) (w32 n.val)) ∧
    RegsBut s t ((SCN_WAKE_SIG n).off :: (SCN_WAKE_STATUS n).off :: (SCN_WAKE_CNT n).off :: evRegs 440)

/-- The sideband (R290): GO starts an access with BUSY set and NACK cleared; a GO while BUSY is discarded; its end clears BUSY and tells NACK, and a read's bytes stand in the data registers, the others as before. -/
def Sys2Proof.Claims.Sideband : Prop :=
  ∀ (n : Fin 4) (v : Word) (ok : Bool) (data : BitVec 128) (s : State),
    (Reach s (SCN_SB_CTRL n) → (s.rd (SCN_SB_CTRL n)).getLsbD 2 = true → exec (.scnSbGo n v) s = .next s) ∧
    (Reach s (SCN_SB_CTRL n) → (s.rd (SCN_SB_CTRL n)).getLsbD 2 = false → v.getLsbD 0 = true → Runs (.scnSbGo n v) s (fun t =>
      t.rd (SCN_SB_CTRL n) = (v &&& 0x1F02) ||| 4 ∧ t.out = s.out ++ [.sideband n (v.getLsbD 1) (bitsOf (s.rd (SCN_SB_ADDR n)).toNat 19 0)
        (if v.getLsbD 1 then (wordsBytes ((List.range 4).map (fun i => s.rd (SCN_SB_DATA n i)))).take (min 16 (bitsOf v.toNat 12 8 + 1)) else [])] ∧
      RegsBut s t [(SCN_SB_CTRL n).off] ∧ t = { s with regs := t.regs, out := t.out })) ∧
    ((s.rd (SCN_SB_CTRL n)).getLsbD 2 = false → exec (.scnSbDone n ok data) s = .next s) ∧
    ((s.rd (SCN_SB_CTRL n)).getLsbD 2 = true → Runs (.scnSbDone n ok data) s (fun t =>
      (∀ b, b < 32 → (t.rd (SCN_SB_CTRL n)).getLsbD b = if b = 2 then false else if b = 3 then !ok else (s.rd (SCN_SB_CTRL n)).getLsbD b) ∧
      (∀ i b, i < 4 → b < 32 → (t.rd (SCN_SB_DATA n i)).getLsbD b =
        if ok = true ∧ (s.rd (SCN_SB_CTRL n)).getLsbD 1 = false ∧ 4 * i + b / 8 < bitsOf (s.rd (SCN_SB_CTRL n)).toNat 12 8 + 1 then data.getLsbD (32 * i + b)
        else (s.rd (SCN_SB_DATA n i)).getLsbD b) ∧
      RegsBut s t [(SCN_SB_CTRL n).off, (SCN_SB_DATA n 0).off, (SCN_SB_DATA n 1).off, (SCN_SB_DATA n 2).off, (SCN_SB_DATA n 3).off] ∧
      t = { s with regs := t.regs }))

/-- Hot plug and link training (R290): HPD follows its level, and its fall idles the link with event 444; training that completes raises event 445 and tells whether an eDP sink has self-refresh. -/
def Sys2Proof.Claims.LinksOfHeads : Prop :=
  ∀ (n : Fin 4) (s : State),
    (∀ level : Bool, Runs (.hpdChange n level) s (fun t => t.bit (SCN_STATUS n) SCN_STATUS_HPD = level ∧
      (s.bit (SCN_STATUS n) SCN_STATUS_HPD = true → level = false → t.bit (SCN_STATUS n) SCN_STATUS_LINK_UP = false) ∧
      t = { s with regs := t.regs, occ := t.occ })) ∧
    (s.scnQuads n = [] → s.bit (SCN_STATUS n) SCN_STATUS_HPD = true → Runs (.hpdChange n false) s (fun t =>
      Raised s t 444 (0x0700 + n) 0 ∧ RegsBut s t ((SCN_STATUS n).off :: evRegs 444))) ∧
    (∀ psr : Bool, Runs (.scnLinkTrained n false psr) s (fun t =>
      t.bit (SCN_STATUS n) SCN_STATUS_LINK_UP = false ∧ Raised s t 444 (0x0700 + n) 0 ∧
      RegsBut s t ((SCN_STATUS n).off :: evRegs 444) ∧ t = { s with regs := t.regs, occ := t.occ })) ∧
    (∀ psr : Bool, Runs (.scnLinkTrained n true psr) s (fun t =>
      t.bit (SCN_STATUS n) SCN_STATUS_LINK_UP = true ∧ Raised s t 445 (0x0700 + n) 0 ∧
      t.scnOf n = { s.scnOf n with psrSink := s.fld (SCN_CFG n) SCN_CFG_PROTO == 5 && psr } ∧
      t.bit (SCN_STATUS n) SCN_STATUS_PSR_UNSUP = (s.fld (SCN_CFG n) SCN_CFG_PROTO == 5 && !psr && s.bit (SCN_PSR n) SCN_PSR_EN) ∧
      RegsBut s t ((SCN_STATUS n).off :: evRegs 445) ∧ t = { s with regs := t.regs, scn := t.scn, occ := t.occ }))

/-! ### Encoders -/

/-- A session commit (R324, R325): discarded while one is pending; refused with 0x0503 while a Rig commit of the core is held or applied, else with the code of the first broken check, the time and event 583;
accepted it is pending and counts the ROI values it clamps. -/
def Sys2Proof.Claims.SessionCommits : Prop :=
  ∀ (c e : Fin 4) (v : Word) (s : State), Reach s (ENC_S_COMMIT c e) → v.getLsbD 0 = true → v.getLsbD 1 = false →
    let refused (k : Nat) : Prop := Runs (.encSessionCommit c e v) s (fun t =>
      t.rd (ENC_S_REFUSAL c e) = w32 k ∧ t.rd (ENC_S_REFUSAL_TIME c e) = s.ns ∧ Raised s t 583 (0x0800 + c) 0 ∧
      RegsBut s t ((ENC_S_REFUSAL c e).off :: (ENC_S_REFUSAL_TIME c e).off :: evRegs 583) ∧ t = { s with regs := t.regs, occ := t.occ })
    (s.bit (ENC_S_STATUS c e) ENC_S_STATUS_PENDING = true →
      exec (.encSessionCommit c e v) s = .next (s.setBit (ENC_S_STATUS c e) ENC_S_STATUS_WR_DISCARD true)) ∧
    (s.bit (ENC_S_STATUS c e) ENC_S_STATUS_PENDING = false → s.rigListing (0x0800 + c) = true → refused 0x0503) ∧
    (∀ k, s.bit (ENC_S_STATUS c e) ENC_S_STATUS_PENDING = false → s.rigListing (0x0800 + c) = false → s.encCheck c e (s.encShadow c e) = some k → refused k) ∧
    (s.bit (ENC_S_STATUS c e) ENC_S_STATUS_PENDING = false → s.rigListing (0x0800 + c) = false → s.encCheck c e (s.encShadow c e) = none →
      Runs (.encSessionCommit c e v) s (fun t =>
        t.bit (ENC_S_STATUS c e) ENC_S_STATUS_PENDING = true ∧ (t.rd (ENC_S_COMMIT c e)).getLsbD 0 = true ∧
        t.rd (ENC_S_REPLACED c e) = satAdd (s.rd (ENC_S_REPLACED c e)) (s.encShadow c e).clampRoi.2 ∧
        RegsBut s t [(ENC_S_STATUS c e).off, (ENC_S_COMMIT c e).off, (ENC_S_REPLACED c e).off] ∧ t = { s with regs := t.regs }))

/-- A picture starts on a free core in the order of waiting (R296, R303, R317): it takes the session's oldest frame, with the cap of its HARD_CAP and, under CBR and capped VBR, of the CPB. -/
def Sys2Proof.Claims.PicturesStart : Prop :=
  ∀ (c e : Fin 4) (extra : Nat) (pre : List Byte) (s : State) (ws : List Nat) (f : EncFrame) (fs : List EncFrame),
    (s.encCoreOf c).cur = none → (s.encCoreOf c).wait = e.val :: ws →
    (s.encOn c e = false → exec (.encPictureStart c extra pre) s =
      .next { s with encCore := tabSet s.encCore {} c { s.encCoreOf c with wait := ws } }) ∧
    (s.encOn c e = true → s.bit (ENC_S_STATUS c e) ENC_S_STATUS_PENDING = false → s.encStruct c e ≠ 3 → s.encSub c e = false →
      (s.encOf c e).queue = f :: fs → (s.encOf c e).closed = false →
      Runs (.encPictureStart c extra pre) s (fun t =>
        (t.encCoreOf c).wait = ws ∧ (t.encOf c e).queue = (f :: fs).filter (fun g => g.idx != f.idx) ∧
        (∃ p, (t.encCoreOf c).cur = some p ∧ p.session = e ∧ p.frame = f ∧ (p.typ, p.irap) = s.encKind c e (s.encOf c e).plan.head? ∧ p.phase = 1 ∧ p.row = 0 ∧
          p.slices = s.encSlices c e ∧ p.payload = pre ∧
          p.cap = if (s.encOf c e).act.hrd then min (8 * (s.encOf c e).act.hardCap.toNat) (s.encFullness c e f.gap) else 8 * (s.encOf c e).act.hardCap.toNat) ∧
        t.rd (ENC_C_STATUS c) = (s.rd (ENC_C_STATUS c) &&& 0xFFFFFFF8) ||| w32 (4 + e) ∧ t.fld (ENC_S_STATUS c e) ENC_S_STATUS_PHASE = 1 ∧
        RegsBut s t [(ENC_C_STATUS c).off, (ENC_S_STATUS c e).off, (ENC_S_FQ c e).off] ∧
        t = { s with regs := t.regs, enc := t.enc, encCore := t.encCore }))

/-- The hard cap (R317, R318): a CTU whose floor is within the reserve keeps bits plus reserve within the cap, and no phase returns. -/
def Sys2Proof.Claims.BitsStayWithinTheCap : Prop :=
  ∀ (r : CtuRun) (fc rest : Nat) (k : CtuCand), fc ≤ rest → r.pic.bits + rest ≤ r.pic.cap →
    (r.ctu fc rest k).pic.bits + (rest - fc) ≤ (r.ctu fc rest k).pic.cap ∧ (r.ctu fc rest k).pic.cap = r.pic.cap ∧
    r.pic.phase ≤ (r.ctu fc rest k).pic.phase

/-- A CTU row (R318): the next row follows, its payload is appended, phases never return, and a picture in phase 3 stays there and takes at most 640 bits for its slice header and the
floor of each CTU. -/
def Sys2Proof.Claims.CtuRows : Prop :=
  ∀ (c : Fin 4) (hdr : Nat) (cands : List CtuCand) (data : List Byte) (s : State) (p : EncPic), (s.encCoreOf c).cur = some p →
    ((s.encCtus c p.session).2 ≤ p.row → exec (.encCtuRowDone c hdr cands data) s = .next s) ∧
    (p.row < (s.encCtus c p.session).2 → s.running (0x0800 + c) = true → s.encSub c p.session = false → p.session < 4 → p.phase ≤ 3 →
      Runs (.encCtuRowDone c hdr cands data) s (fun t => ∃ q, t.encCoreOf c = { s.encCoreOf c with cur := some q } ∧ q.row = p.row + 1 ∧ p.phase ≤ q.phase ∧
        q.phase ≤ 3 ∧ q.payload = p.payload ++ data ∧ q.cap = p.cap ∧ q.frame = p.frame ∧ t.fld (ENC_S_STATUS c p.session) ENC_S_STATUS_PHASE = q.phase ∧
        (p.phase = 3 → t.occ = s.occ ∧ q.bits ≤ p.bits + 640 + (s.encCtus c p.session).1 * s.encFdc c p.session) ∧
        RegsBut s t ((ENC_S_STATUS c p.session).off :: (ENC_S_MAXQP_CNT c p.session).off :: (ENC_S_FLOOR_CNT c p.session).off :: (evRegs 578 ++ evRegs 579)) ∧
        t = { s with regs := t.regs, encCore := t.encCore, occ := t.occ }))

/-- A coded picture (R303, R322, R323): its record, header and payload, stands in the ring at WP and no other byte changes, WP moves past it, its figures show, its buffer is released, the core is free, and
event 576 is raised. A record that would fill the ring stops the session with 0x06. -/
def Sys2Proof.Claims.PicturesEnd : Prop :=
  ∀ (c : Fin 4) (s : State) (p : EncPic), (s.encCoreOf c).cur = some p → p.session < 4 → p.row = (s.encCtus c p.session).2 → s.running (0x0800 + c) = true →
    let e := p.session
    let figures (t : State) : Prop := t.rd (ENC_S_LAST_BITS c e) = w32 p.bits ∧ t.rd (ENC_S_LAST_CAP c e) = w32 p.cap ∧
      t.rd (ENC_S_PICTURES c e) = s.rd (ENC_S_PICTURES c e) + 1 ∧ (t.encCoreOf c).cur = none ∧ encReader c e ∉ t.holders p.frame.ring p.frame.buf ∧
      t.fld (ENC_S_STATUS c e) ENC_S_STATUS_PHASE = 0 ∧ t.rd (EVT_R_CNT 576) = satAdd (s.rd (EVT_R_CNT 576)) 1
    let wp := (s.rd (ENC_S_BS_WP c e)).toNat
    let size := roundUp (32 + p.payload.length) 64
    (s.encSub c e = true → Runs (.encPictureDone c) s (fun t => figures t ∧ SameMem s t ∧ t.rd (ENC_S_BS_WP c e) = s.rd (ENC_S_BS_WP c e))) ∧
    (s.encSub c e = false → wp + size ≤ s.encRingSize c e → s.encBacklog c e + size < s.encRingSize c e → s.recFor 1 (4 * c + e) = none →
      Runs (.encPictureDone c) s (fun t => figures t ∧ t.rd (ENC_S_BS_WP c e) = w32 ((wp + size) % s.encRingSize c e) ∧
        (let a := s.encRingBase c e + wp
         t.memRead a (32 + p.payload.length) =
           encHeader 2 (e + 4 * c) 0xFFFF p.payload.length p.poc p.frame.info.seq p.frame.info.tStart s.ns (p.flags + 64) ++ p.payload ∧
         (∀ b, b < a ∨ a + size ≤ b → t.mem b = s.mem b)))) ∧
    (s.encSub c e = false → wp + size ≤ s.encRingSize c e → s.encRingSize c e ≤ s.encBacklog c e + size → Runs (.encPictureDone c) s (fun t =>
      t.fld (ENC_S_STATUS c e) ENC_S_STATUS_STOP_REASON = (if s.fld (ENC_S_STATUS c e) ENC_S_STATUS_STOP_REASON = 0 then 6 else s.fld (ENC_S_STATUS c e) ENC_S_STATUS_STOP_REASON) ∧
      (t.encCoreOf c).cur = none ∧ (t.encOf c e).queue = [] ∧ t.rd (EVT_R_CNT 584) = satAdd (s.rd (EVT_R_CNT 584)) 1 ∧ SameMem s t ∧
      t.rd (ENC_S_BS_WP c e) = s.rd (ENC_S_BS_WP c e) ∧ t.rd (ENC_S_PICTURES c e) = s.rd (ENC_S_PICTURES c e)))

/-- The consumer's read pointer (R323): it is taken in units of 64 bytes and sets the stream's backlog; a session without a stream record changes nothing else. -/
def Sys2Proof.Claims.BitstreamIsRead : Prop :=
  ∀ (c e : Fin 4) (v : Word) (s : State), Reach s (ENC_S_BS_RP c e) →
    Runs (.encBsRpWrite c e v) s (fun t => t.rd (ENC_S_BS_RP c e) = v &&& 0xFFFFFFC0 ∧ SameMem s t ∧ t.enc = s.enc ∧
      (s.strmRec (encStream c e) = none → t = s.wr (ENC_S_BS_RP c e) (v &&& 0xFFFFFFC0)))

/-! ### The raw codec and CMX -/

/-- A raw session starts its oldest taken frame at WP, at once or with PACE at an open delivery (R342); the consumer's read pointer is taken in units of 4 KiB (R343). -/
def Sys2Proof.Claims.RawFramesStart : Prop :=
  ∀ (z : Fin 8) (v : Word) (s : State) (b : Nat) (sk : Bool) (q : List (Nat × Bool)),
    ((s.zrxOf z).cur = none → (s.zrxOf z).queue = (b, sk) :: q → s.zrxOn z = true →
      (s.bit (ZRX_S_CFG z) ZRX_S_CFG_PACE = false ∨ 0 < (s.zrxOf z).go) → Runs (.zrxFrameStart z) s (fun t =>
        (t.zrxOf z).cur = some { buf := b, start := (s.rd (ZRX_S_OUT_WP z)).toNat, bytes := 256 + 8 * s.zrxTiles z, flags := if sk then 64 else 0 } ∧
        t.zrxOf z = { s.zrxOf z with queue := q, go := (s.zrxOf z).go - 1, cur := (t.zrxOf z).cur } ∧
        t.fld (ZRX_S_STATUS z) ZRX_S_STATUS_PHASE = 1 ∧ t.rd CMX_BACKLOG = w32 (ceilDiv t.cmxBacklog 1024) ∧
        RegsBut s t [(ZRX_S_STATUS z).off, CMX_BACKLOG.off] ∧ t = { s with regs := t.regs, zrx := t.zrx })) ∧
    ((s.zrxOf z).cur ≠ none → exec (.zrxFrameStart z) s = .next s) ∧
    (s.bit (ZRX_S_CFG z) ZRX_S_CFG_PACE = true → (s.zrxOf z).go = 0 → exec (.zrxFrameStart z) s = .next s) ∧
    (Reach s (ZRX_S_OUT_RP z) → Runs (.zrxOutRpWrite z v) s (fun t => t.rd (ZRX_S_OUT_RP z) = v &&& 0xFFFFF000 ∧ SameMem s t ∧
      (s.strmRec (zrxStream z) = none → t = s.wr (ZRX_S_OUT_RP z) (v &&& 0xFFFFF000))))

/-- A tile of a raw session (R338, R341, R342): with no coding left open its bytes stand after those of the frame so far, in the session's ring, and nothing outside the ring changes; after a close every tile is FLAT;
mode U stores the tile as it is. -/
def Sys2Proof.Claims.RawTiles : Prop :=
  ∀ (z : Fin 8) (s : State) (f : ZrxFrame), (s.zrxOf z).cur = some f → s.zrxOn z = true →
    let g := s.geom (s.zrxHead z)
    let rows := s.tileRows (s.zrxHead z) f.buf f.tile
    let level := if s.bit CMX_STATUS CMX_STATUS_FALLBACK then 0 else s.fld CMX_STATUS CMX_STATUS_LEVEL_NOW
    let c : TileCode :=
      if f.closed then ⟨3, 0, payloadFlat g (s.rawBits (s.zrxHead z)) rows⟩
      else if s.zrxMode z = 0 then ⟨0, 0, payloadU (s.rawBits (s.zrxHead z)) rows⟩
      else codeTile g (s.rawBits (s.zrxHead z)) (if s.zrxMode z = 1 then 0 else s.fld (ZRX_S_CFG z) ZRX_S_CFG_NEAR) level rows
    (s.zrxTiles z ≤ f.tile → exec (.zrxTileCoded z) s = .next s) ∧
    (f.tile < s.zrxTiles z → f.closed = true ∨ s.zrxMode z < 3 → s.zrxUsed z f.start + f.bytes + c.size < s.zrxRing z → Runs (.zrxTileCoded z) s (fun t =>
      (∃ k, (t.zrxOf z).cur = some k ∧ k.tile = f.tile + 1 ∧ k.bytes = f.bytes + c.size ∧ k.index = f.index ++ [(f.bytes, c.size)] ∧ k.phase = f.phase) ∧
      (∀ a, a < s.zrxBase z ∨ s.zrxBase z + s.zrxRing z ≤ a → t.mem a = s.mem a) ∧
      (∀ i, i < c.payload.length → 16 + c.payload.length ≤ s.zrxRing z →
        t.mem (s.zrxBase z + (f.start + f.bytes + 16 + i) % s.zrxRing z) = c.payload.getD i 0))) ∧
    (f.tile < s.zrxTiles z → f.closed = true ∨ s.zrxMode z < 3 → s.zrxRing z ≤ s.zrxUsed z f.start + f.bytes + c.size → Runs (.zrxTileCoded z) s (fun t =>
      (t.zrxOf z).cur = none ∧ (t.zrxOf z).queue = [] ∧ t.rd (EVT_R_CNT 605) = satAdd (s.rd (EVT_R_CNT 605)) 1 ∧ SameMem s t ∧
      t.fld (ZRX_S_STATUS z) ZRX_S_STATUS_STOP_REASON = 6))

/-- A raw frame that has all its tiles completes (R341, R343): WP moves past it in units of 4 KiB, its size and count show, event 600 is raised, and nothing outside the ring changes. -/
def Sys2Proof.Claims.RawFramesEnd : Prop :=
  ∀ (z : Fin 8) (s : State) (f : ZrxFrame), (s.zrxOf z).cur = some f → s.zrxOn z = true → f.tile = s.zrxTiles z → 0 < s.zrxRing z → s.recFor 0 z = none →
    Runs (.zrxFrameDone z) s (fun t =>
      (t.zrxOf z).cur = none ∧ (t.zrxOf z).queue = (s.zrxOf z).queue ∧ (t.zrxOf z).fq = (if f.p2Tiles = 0 then (s.zrxOf z).fq else f.p2Bytes / f.p2Tiles) ∧
      t.rd (ZRX_S_OUT_WP z) = w32 ((f.start + roundUp f.bytes 4096) % s.zrxRing z) ∧ t.rd (ZRX_S_LAST_BYTES z) = w32 f.bytes ∧
      t.rd (ZRX_S_FRAMES z) = s.rd (ZRX_S_FRAMES z) + 1 ∧ t.fld (ZRX_S_STATUS z) ZRX_S_STATUS_PHASE = 0 ∧
      t.rd (EVT_R_CNT 600) = satAdd (s.rd (EVT_R_CNT 600)) 1 ∧ t.rd (EVT_R_LAST 600) = w32 z.val ∧
      (∀ a, a < s.zrxBase z ∨ s.zrxBase z + s.zrxRing z ≤ a → t.mem a = s.mem a))

/-- CMX falls back to level 0 when its backlog exceeds HI, and takes the committed level again when it is below LO, each once (R348). -/
def Sys2Proof.Claims.CmxFallsBackAndRestores : Prop :=
  ∀ s : State,
    (s.cmxLimits.1 < s.cmxBacklog → s.bit CMX_STATUS CMX_STATUS_FALLBACK = false → Runs .cmxFallback s (fun t =>
      t.bit CMX_STATUS CMX_STATUS_FALLBACK = true ∧ t.fld CMX_STATUS CMX_STATUS_LEVEL_NOW = 0 ∧ t.rd CMX_FB_CNT = satAdd (s.rd CMX_FB_CNT) 1 ∧
      Raised s t 616 0x0A00 0 ∧ RegsBut s t (CMX_STATUS.off :: CMX_FB_CNT.off :: evRegs 616) ∧ t = { s with regs := t.regs, occ := t.occ })) ∧
    (s.cmxBacklog < s.cmxLimits.2 → s.bit CMX_STATUS CMX_STATUS_FALLBACK = true → Runs .cmxRestore s (fun t =>
      t.bit CMX_STATUS CMX_STATUS_FALLBACK = false ∧ t.fld CMX_STATUS CMX_STATUS_LEVEL_NOW = s.fld CMX_CFG CMX_CFG_LEVEL ∧
      Raised s t 617 0x0A00 0 ∧ RegsBut s t (CMX_STATUS.off :: evRegs 617) ∧ t = { s with regs := t.regs, occ := t.occ })) ∧
    (s.cmxBacklog ≤ s.cmxLimits.1 → exec .cmxFallback s = .next s) ∧ (s.cmxLimits.2 ≤ s.cmxBacklog → exec .cmxRestore s = .next s)

/-- Job rings (R349 to R351): a TAIL outside the ring is an error and stays; the job at the head completes with its status in its descriptor, DONE counts, the head moves on, and no byte changes outside the job's
output and the completion part of its descriptor; an operation or level that does not exist is status 3 with no output. -/
def Sys2Proof.Claims.CmxJobs : Prop :=
  ∀ (j : Fin 16) (v : Word) (s : State),
    (Reach s (CMX_J_TAIL j) → s.jobRing j ≤ v.toNat % 4096 → exec (.cmxJobSubmit j v) s = .next (s.setFld (CMX_J_STATUS j) ⟨0, 0⟩ 1)) ∧
    (Reach s (CMX_J_TAIL j) → v.toNat % 4096 < s.jobRing j → exec (.cmxJobSubmit j v) s = .next (s.wr (CMX_J_TAIL j) (w32 (v.toNat % 4096)))) ∧
    (s.rd (CMX_J_HEAD j) = s.rd (CMX_J_TAIL j) → exec (.cmxJobComplete j) s = .next s) ∧
    (s.running 0x0A00 = true → s.bit (CMX_J_CFG j) CMX_J_CFG_EN = true → s.rd (CMX_J_HEAD j) ≠ s.rd (CMX_J_TAIL j) →
      let i := (s.rd (CMX_J_HEAD j)).toNat
      let a := s.rd64 (CMX_J_BASE_LO j) (CMX_J_BASE_HI j) / 64 * 64 + 64 * i
      let d := s.memRead a 64
      let r := s.jobRun d
      Runs (.cmxJobComplete j) s (fun t =>
        t.mem (a + 0x20) = BitVec.ofNat 8 r.1 ∧ t.rd (CMX_J_HEAD j) = w32 ((i + 1) % s.jobRing j) ∧ t.rd (CMX_J_DONE j) = s.rd (CMX_J_DONE j) + 1 ∧
        (∀ b, (b < leAt d 0x18 8 ∨ leAt d 0x18 8 + r.2.2.2.2.length ≤ b) → (b < a + 0x20 ∨ a + 0x30 ≤ b) → t.mem b = s.mem b) ∧
        (r.1 ≠ 1 → (t.rd (CMX_J_STATUS j)).getLsbD 1 = true) ∧ (r.1 = 1 → t.rd (CMX_J_STATUS j) = s.rd (CMX_J_STATUS j)) ∧
        RegsBut s t ((CMX_J_HEAD j).off :: (CMX_J_DONE j).off :: (CMX_J_STATUS j).off :: (evRegs 618 ++ evRegs 619))) ∧
      (leAt d 0 1 ∉ [1, 2] ∨ (10 ≤ leAt d 1 1 ∧ leAt d 1 1 ≠ 0xFF) → r = (3, 0, 0, 0, []))) ∧
    (∀ d, leAt d 0 1 = 1 → (leAt d 1 1 < 10 ∨ leAt d 1 1 = 0xFF) → s.g7Span (leAt d 8 8) (leAt d 0x10 4) = false → (s.jobRun d).1 = 6)

/-! ### Recording -/

/-- ARM and DISARM (R354, R356): an IDLE channel in use is ARMED with an empty pre-record; an ARMED one goes IDLE and drops what it held; in other states they are nothing. -/
def Sys2Proof.Claims.ChannelsArm : Prop :=
  ∀ (c : Fin 8) (s : State), Reach s (REC_C_CTRL c) →
    (s.recUp c = true → s.recState c = 0 → exec (.recArm c) s = .next ((s.setFld (REC_C_STATUS c) REC_C_STATUS_STATE 1).wr (REC_C_PRE_FRAMES c) 0)) ∧
    (s.recState c ≠ 0 → exec (.recArm c) s = .next s) ∧
    (s.recState c = 1 → exec (.recDisarm c) s = .next ((({ s with recs := tabSet s.recs {} c { s.recOf c with hold := [] } }).setFld
      (REC_C_STATUS c) REC_C_STATUS_STATE 0).wr (REC_C_PRE_FRAMES c) 0)) ∧
    (s.recState c ≠ 1 → exec (.recDisarm c) s = .next s)

/-- START (R355): in a wrong state START_FAIL is 5; a set that is not mounted, a full directory and too little space fail with 1, 2 and 3 and event 838; else the name is taken, and the clip waits for its first frame. -/
def Sys2Proof.Claims.ClipsStart : Prop :=
  ∀ (c : Fin 8) (s : State), Reach s (REC_C_CTRL c) →
    let m := s.recSet c
    let fails (k : Nat) : Prop := Runs (.recStart c) s (fun t =>
      t.fld (REC_C_STATUS c) REC_C_STATUS_START_FAIL = k ∧ Raised s t 838 (0x0C00 + c) 0 ∧ RegsBut s t ((REC_C_STATUS c).off :: evRegs 838) ∧
      t = { s with regs := t.regs, occ := t.occ })
    let able : Prop := s.recUp c = true ∧ (s.recState c = 0 ∨ s.recState c = 1)
    (¬ able → exec (.recStart c) s = .next (s.setFld (REC_C_STATUS c) REC_C_STATUS_START_FAIL 5)) ∧
    (able → s.setState m ≠ 2 → fails 1) ∧
    (able → s.setState m = 2 → s.dirFree m = none → fails 2) ∧
    (able → s.setState m = 2 → s.dirFree m ≠ none → (s.mediaOf m).free < 4096 + footReserve 0 → fails 3) ∧
    (able → s.setState m = 2 → s.dirFree m ≠ none → 4096 + footReserve 0 ≤ (s.mediaOf m).free → (s.mediaOf m).findRun 4096 ≠ none →
      s.bit (REC_C_CFG c) REC_C_CFG_ENCRYPT = false → s.fld (REC_C_CFG c) REC_C_CFG_SRC_TYPE = 0 → Runs (.recStart c) s (fun t =>
        (t.recOf c).start = true ∧ (t.recOf c).key = none ∧ (t.recOf c).name = (List.range 8).flatMap (fun i => wordBytes (s.rd (REC_C_NAME c i))) ∧
        (t.recOf c).hold = (s.recOf c).hold ∧ t.fld (REC_C_STATUS c) REC_C_STATUS_START_FAIL = 0 ∧ t.recState c = s.recState c ∧
        RegsBut s t [(REC_C_STATUS c).off] ∧ t = { s with regs := t.regs, recs := t.recs })) ∧
    (able → s.setState m = 2 → s.dirFree m ≠ none → 4096 + footReserve 0 ≤ (s.mediaOf m).free → (s.mediaOf m).findRun 4096 ≠ none →
      s.bit (REC_C_CFG c) REC_C_CFG_ENCRYPT = true → s.vault.hold = true → Runs (.recStart c) s (fun t =>
        t.fld (REC_C_STATUS c) REC_C_STATUS_START_FAIL = 4 ∧ t.rd (REC_C_REFUSAL c) = 0x0305 ∧ t.rd (REC_C_REFUSAL_TIME c) = s.ns ∧ Raised s t 838 (0x0C00 + c) 0))

/-- STOP (R357, R376): a recording clip whose frames are all wrapped ends with cause 1, shows its last frame, and seals: its footer follows the file so far, and the seal waits for its data. In other states it is nothing. -/
def Sys2Proof.Claims.ClipsStop : Prop :=
  ∀ (c : Fin 8) (s : State) (k : Clip), Reach s (REC_C_CTRL c) →
    (s.recState c ≠ 2 → exec (.recStop c) s = .next s) ∧
    (s.recState c = 2 → (s.recOf c).clip = some k → k.cause = 0 → k.wait = [] → k.cks = [] → k.done < k.file.length → s.log.pfail = false →
      Runs (.recStop c) s (fun t => t.recState c = 3 ∧ t.fld (REC_C_STATUS c) REC_C_STATUS_CAUSE = 1 ∧ t.rd (REC_C_LAST_FRAME c) = w32 (k.frames - 1) ∧
        ∃ j, (t.recOf c).clip = some j ∧ j.cause = 1 ∧ j.frames = k.frames ∧ j.file.take k.file.length = k.file ∧ j.cks.length = 1 ∧ j.entry = k.entry))

/-- NVMe commands (R361): a completion of a tag that is not out is nothing; one without error ends its command; a failed Write or Flush counts and raises event 851, and the set of the drive is in ERROR with event 842;
a command that times out is aborted with event 850; an Abort that is not answered resets the controller and ends every command of the port. -/
def Sys2Proof.Claims.NvmeCommands : Prop :=
  ∀ (p : Fin 4) (tag : Fin 65536) (status : Nat) (data : List Byte) (s : State),
    (s.nvCmd p tag = none → exec (.nvmeCompletion p tag status data) s = .next s ∧ exec (.nvmeCmdTimeout p tag) s = .next s ∧
      exec (.nvmeAbortTimeout p tag) s = .next s) ∧
    (∀ k m, s.nvCmd p tag = some k → k.use = .set m → status = 0 → exec (.nvmeCompletion p tag status data) s =
      .next { s with nv := tabSet s.nv {} p { s.nvOf p with cmds := (s.nvOf p).cmds.filter (fun x => x.tag != tag.val) } }) ∧
    (∀ k m, s.nvCmd p tag = some k → k.use = .set m → status ≠ 0 → k.op = 0 ∨ k.op = 1 → s.portSet p = none →
      Runs (.nvmeCompletion p tag status data) s (fun t =>
        t.nvOf p = { s.nvOf p with cmds := (s.nvOf p).cmds.filter (fun x => x.tag != tag.val) } ∧ t.rd (NVR_ERR_CNT p) = satAdd (s.rd (NVR_ERR_CNT p)) 1 ∧
        Raised s t 851 (s.nvBid p) 0 ∧ RegsBut s t ((NVR_ERR_CNT p).off :: evRegs 851) ∧ t = { s with regs := t.regs, nv := t.nv, occ := t.occ })) ∧
    (∀ k c lo hi m, s.nvCmd p tag = some k → k.use = .data c lo hi → status ≠ 0 → k.op = 1 → s.portSet p = some m → s.setState m ≠ 0 → s.setState m ≠ 1 →
      s.setState m ≠ 5 → (∀ c', c' < 8 → s.bit (REC_C_CFG c') REC_C_CFG_EN = true → s.recSet c' ≠ m) → Runs (.nvmeCompletion p tag status data) s (fun t =>
        t.setState m = 5 ∧ (t.rd (REC_M_STATUS m)).getLsbD (12 + p) = true ∧ t.rd (NVR_ERR_CNT p) = satAdd (s.rd (NVR_ERR_CNT p)) 1 ∧
        t.rd (EVT_R_CNT 842) = satAdd (s.rd (EVT_R_CNT 842)) 1 ∧ t.rd (EVT_R_CNT 851) = satAdd (s.rd (EVT_R_CNT 851)) 1 ∧
        RegsBut s t ((NVR_ERR_CNT p).off :: (REC_M_STATUS m).off :: (evRegs 842 ++ evRegs 851)))) ∧
    (∀ k m, s.nvCmd p tag = some k → k.use = .set m → s.portSet p = none → s.safe = false → Runs (.nvmeCmdTimeout p tag) s (fun t =>
      (t.nvOf p).cmds = (s.nvOf p).cmds ++ [⟨(s.nvOf p).next, 8, .abort tag⟩] ∧ t.out = s.out ++ [.nvme p 8 0 0 (s.nvOf p).next []] ∧
      t.rd (NVR_TMO_CNT p) = satAdd (s.rd (NVR_TMO_CNT p)) 1 ∧ Raised s t 850 (s.nvBid p) 0 ∧ RegsBut s t ((NVR_TMO_CNT p).off :: evRegs 850))) ∧
    (∀ k a, s.nvCmd p tag = some k → k.use = .abort a → exec (.nvmeCmdTimeout p tag) s = .next s ∧
      (s.portSet p = none → Runs (.nvmeAbortTimeout p tag) s (fun t =>
        (t.nvOf p).cmds = [] ∧ t.out = s.out ++ [.nvme p 0x100 0 0 0 []] ∧ t = { s with nv := t.nv, out := t.out })))

/-- MOUNT and FORMAT of a media set (R362): nothing on a set in use; FORMAT needs its key, and a busy set shows that it was refused; MOUNT reads the superblocks of each drive; FORMAT leaves the set unmounted with its drives and no directory. -/
def Sys2Proof.Claims.SetsAreAsked : Prop :=
  ∀ (m : Fin 4) (v : Word) (s : State), Reach s (REC_M_CTRL m) → (s.rd (REC_M_CFG m)).getLsbD 4 = true →
    (s.setBusy m = true → exec (.setMount m 0) s = .next s) ∧
    (s.setBusy m = false → s.safe = false → Runs (.setMount m 0) s (fun t =>
      t.setState m = 1 ∧ bitsOf (t.rd (REC_M_STATUS m)).toNat 15 12 = 0 ∧
      (∀ p, p ∈ s.setPorts m → (t.nvOf p).cmds = (s.nvOf p).cmds ++ [⟨(s.nvOf p).next, 2, .set m⟩]) ∧
      (∀ p, p ∉ s.setPorts m → t.nvOf p = s.nvOf p) ∧ RegsBut s t [(REC_M_STATUS m).off] ∧ t = { s with regs := t.regs, nv := t.nv, out := t.out })) ∧
    (v.getLsbD 0 = false → bitsOf v.toNat 15 8 ≠ 0x5A → exec (.setFormat m v) s = .next s) ∧
    (v.getLsbD 0 = false → bitsOf v.toNat 15 8 = 0x5A → s.setBusy m = true → exec (.setFormat m v) s = .next (s.setFld (REC_M_STATUS m) ⟨8, 8⟩ 1)) ∧
    (v.getLsbD 0 = false → bitsOf v.toNat 15 8 = 0x5A → s.setBusy m = false → Runs (.setFormat m v) s (fun t =>
      t.setState m = 0 ∧ t.mediaOf m = { disks := s.setPorts m } ∧ (∀ k : Fin 4, k ≠ m → t.mediaOf k = s.mediaOf k) ∧
      RegsBut s t [(REC_M_STATUS m).off] ∧ t = { s with regs := t.regs, nv := t.nv, sets := t.sets, out := t.out }))

/-- The end of a mount and of a format (R362, R364): a drive that is not ready makes the set WRONG, no superblock leaves it UNFORMATTED, and a set of one drive whose superblock is its own and whose directory is empty is MOUNTED with event 841;
a format gives the set a UUID of free value and its stripes. -/
def Sys2Proof.Claims.SetsAreMounted : Prop :=
  ∀ (m : Fin 4) (rd : MountRead) (s : State),
    (s.setState m ≠ 1 → exec (.setMountDone m rd) s = .next s) ∧
    (s.setState m = 1 → waits s (.mount m) = false → (∃ p, p ∈ s.setPorts m ∧ s.bit (NVR_STATUS p) NVR_STATUS_READY = false) →
      exec (.setMountDone m rd) s = .next (s.setFld (REC_M_STATUS m) ⟨2, 0⟩ 4)) ∧
    (s.setState m = 1 → waits s (.mount m) = false → rd.supers = [] →
      (∀ p, p ∈ s.setPorts m → s.bit (NVR_STATUS p) NVR_STATUS_READY = true ∧ s.bit (NVR_STATUS p) NVR_STATUS_FMT_BAD = false) →
      exec (.setMountDone m rd) s = .next (s.setFld (REC_M_STATUS m) ⟨2, 0⟩ 3)) ∧
    (∀ p b0 b1 b, s.setState m = 1 → waits s (.mount m) = false → s.setPorts m = [p] → rd.supers = [(p, b0, b1)] → rd.dir = [] → rd.journal = [] →
      superPick b0 b1 = some b → leAt b 6 1 = 1 → leAt b 7 1 = 0 → s.bit (NVR_STATUS p) NVR_STATUS_READY = true →
      s.bit (NVR_STATUS p) NVR_STATUS_FMT_BAD = false → (∀ c, c < 8 → s.recState c ≠ 4) → Runs (.setMountDone m rd) s (fun t =>
        t.setState m = 2 ∧ t.mediaOf m = { disks := [p], uuid := sliceAt b 8 16, stripes := leAt b 0x20 4 } ∧
        t.rd (REC_M_TOTAL m) = w32 (leAt b 0x20 4) ∧ t.rd (REC_M_FREE m) = w32 (leAt b 0x20 4 - 80) ∧
        (∀ i, i < 4 → t.rd (REC_M_UUID m i) = w32 (leAt (sliceAt b 8 16) (4 * i) 4)) ∧ Raised s t 841 0x0E01 0 ∧
        t = { s with regs := t.regs, sets := t.sets, occ := t.occ })) ∧
    (s.setState m = 0 → (s.mediaOf m).disks ≠ [] → (s.mediaOf m).stripes = 0 → waits s (.format m) = false → Runs (.setFormatDone m) s (fun t =>
      (t.mediaOf m).stripes = setStripes ((s.mediaOf m).disks.map (fun p => (((s.nvOf p).drive).map (·.blocks)).getD 0)) ∧
      t.mediaOf m = { s.mediaOf m with uuid := (List.range 16).map (Config.freeByte s.freeCtr), stripes := (t.mediaOf m).stripes } ∧
      t.regs = s.regs ∧ t = { s with nv := t.nv, sets := t.sets, out := t.out, freeCtr := s.freeCtr + 1 })) ∧
    (s.setState m ≠ 0 → exec (.setFormatDone m) s = .next s)

/-- Deletion (R367): an entry that is free, OPEN, already deleted or a continuation, or one of a set that is not mounted, is not deleted; else a DELETE record goes to the next journal block, and the entry stands until it is durable. -/
def Sys2Proof.Claims.ClipsAreDeleted : Prop :=
  ∀ (m : Fin 4) (e : Fin 32768) (s : State), s.hostUp = true →
    let x := s.mediaOf m
    let d := tabGet x.dir {} e
    (s.setState m ≠ 2 ∨ d.state ∈ [0, 1, 4] ∨ d.kind = 2 → exec (.clipDelete m e) s = .next s) ∧
    (s.setState m = 2 → d.state = 2 ∨ d.state = 3 → d.kind ≠ 2 → s.safe = false → Runs (.clipDelete m e) s (fun t =>
      let w := s.setAddr m (x.jBlock / 1024) (x.jBlock % 1024)
      t.mediaOf m = { x with jSeq := x.jSeq + 1, jBlock := (x.jBlock + 1) % 65536 } ∧
      (t.nvOf w.1).cmds = (s.nvOf w.1).cmds ++ [⟨(s.nvOf w.1).next, 1, .delete m e 1⟩] ∧
      t.out = s.out ++ [.nvme w.1 1 w.2 1 (s.nvOf w.1).next (sliceAt (jrecBytes x.jSeq ⟨4, 0xFF, e, 0, 0⟩ s.ns) 0 4096)] ∧
      t = { s with nv := t.nv, sets := t.sets, out := t.out }))

/-! ### Playback -/

/-- The six operations of a session are writes of one register (R388): one while another runs is discarded and shows it; else the operation is in progress with its direction, argument and set. -/
def Sys2Proof.Claims.SessionsAreCommanded : Prop :=
  ∀ (d : Fin 4) (v : Word) (s : State) (op : Nat) (i : Instr),
    (op, i) ∈ [(1, Instr.decLoad d v), (2, .decPlay d v), (3, .decPause d v), (4, .decSeek d v), (5, .decStep d v), (6, .decStop d v)] → Reach s (DEC_S_CMD d) →
    (s.bit (DEC_S_CMD d) DEC_S_CMD_BUSY = true → exec i s = .next (s.wr (DEC_S_CMD d) (s.rd (DEC_S_CMD d) ||| 0x40))) ∧
    (s.bit (DEC_S_CMD d) DEC_S_CMD_BUSY = false → s.decOn d = true → Runs i s (fun t =>
      t.decOf d = { s.decOf d with cmd := some (op, v.getLsbD 7, (s.rd (DEC_S_CMD_ARG d)).toNat, bitsOf v.toNat 13 12) } ∧
      t.bit (DEC_S_CMD d) DEC_S_CMD_BUSY = true ∧ t.fld (DEC_S_CMD d) DEC_S_CMD_FAIL = 0 ∧ (t.rd (DEC_S_CMD d)).toNat % 16 = op ∧
      RegsBut s t [(DEC_S_CMD d).off] ∧ t = { s with regs := t.regs, dec := t.dec })) ∧
    (s.bit (DEC_S_CMD d) DEC_S_CMD_BUSY = false → s.decOn d = false → Runs i s (fun t =>
      t.bit (DEC_S_CMD d) DEC_S_CMD_BUSY = false ∧ RegsBut s t [(DEC_S_CMD d).off] ∧ t = { s with regs := t.regs }))

/-- The end of an operation (R386, R388): BUSY falls, FAIL tells why it failed, and event 648 or 649 is raised. PAUSE, SEEK and STEP need their states, LOAD a mounted set, a position must lie in the clip, reverse needs intra coding, and STOP forgets
the source. -/
def Sys2Proof.Claims.OperationsEnd : Prop :=
  ∀ (d : Fin 4) (info : DecInfo) (s : State) (op arg m : Nat) (dir : Bool),
    ((s.decOf d).cmd = none → exec (.decCmdDone d info) s = .next s) ∧
    ((s.decOf d).cmd = some (op, dir, arg, m) →
      let st := s.decState d
      let ends (code : Nat) (P : State → Prop) : Prop := Runs (.decCmdDone d info) s (fun t =>
        t.bit (DEC_S_CMD d) DEC_S_CMD_BUSY = false ∧ t.fld (DEC_S_CMD d) DEC_S_CMD_FAIL = code ∧ (t.decOf d).cmd = none ∧
        t.rd (EVT_R_CNT (if code = 0 then 648 else 649)) = satAdd (s.rd (EVT_R_CNT (if code = 0 then 648 else 649))) 1 ∧ P t)
      let still (t : State) : Prop := t.decState d = st ∧ t.decOf d = { s.decOf d with cmd := none } ∧
        RegsBut s t ((DEC_S_CMD d).off :: evRegs 649) ∧ t = { s with regs := t.regs, dec := t.dec, occ := t.occ }
      (op = 3 → st ≠ 2 → ends 5 still) ∧
      (op = 3 → st = 2 → ends 0 (fun t => t.decState d = 1)) ∧
      (op = 1 → st = 2 ∨ st = 4 → ends 5 still) ∧
      (op = 1 → st = 0 → s.decRingSrc d = false → s.setState m ≠ 2 → ends 1 still) ∧
      (op = 1 → st = 0 → s.decRingSrc d = false → s.setState m = 2 → (tabGet (s.mediaOf m).dir {} arg).state = 1 → ends 2 still) ∧
      (op = 1 → st = 0 ∨ st = 1 ∨ st = 3 → s.decRingSrc d = true → info.codec ≠ 0 → info.w ≤ (s.rd (DEC_S_MAX d)).toNat % 65536 →
        info.h ≤ (s.rd (DEC_S_MAX d)).toNat / 65536 → info.rate ≤ (s.rd (DEC_S_MAX_RATE d)).toNat → info.quad = false →
        ends 0 (fun t => t.decState d = 1 ∧ t.decOf d = { clip := some (info, m, arg), buf := (s.decOf d).buf })) ∧
      (op = 1 → st = 0 ∨ st = 1 ∨ st = 3 → s.decRingSrc d = true → info.codec = 0 → ends 3 still) ∧
      (op = 2 → st = 0 ∨ st = 2 ∨ st = 4 → ends 5 still) ∧
      (op = 2 → st = 1 ∨ st = 3 → dir = true → s.decNoBack d = true → ends 7 still) ∧
      (op = 2 → st = 1 ∨ st = 3 → dir = false → (s.decOf d).back = false → s.fld (DEC_S_PACE d) DEC_S_PACE_MODE ≠ 0 →
        ends 0 (fun t => t.decState d = 2 ∧ t.decOf d = { s.decOf d with cmd := none, first := none, evs := 0 })) ∧
      (op = 4 → s.decRingSrc d = true ∨ (st ≠ 1 ∧ st ≠ 2) → ends 5 still) ∧
      (∀ i x, op = 4 → s.decRingSrc d = false → st = 1 ∨ st = 2 → (s.decOf d).clip = some (i, x) → i.frames ≤ arg → ends 6 still) ∧
      (∀ i x, op = 4 → s.decRingSrc d = false → st = 1 ∨ st = 2 → (s.decOf d).clip = some (i, x) → arg < i.frames →
        ends 0 (fun t => t.decState d = st ∧ (t.decOf d).seek = arg ∧ (t.decOf d).shown = none ∧ (t.decOf d).skipTo = arg ∧ (t.decOf d).ready = [] ∧
          (t.decOf d).back = false)) ∧
      (op = 5 → s.decRingSrc d = true ∨ st ≠ 1 → ends 5 still) ∧
      (∀ i x p, op = 5 → s.decRingSrc d = false → st = 1 → dir = false → (s.decOf d).clip = some (i, x) → (s.decOf d).shown = some p → (s.decOf d).back = false →
        0 ≤ p → p + 1 < i.frames → s.fld (DEC_S_PACE d) DEC_S_PACE_MODE ≠ 0 → ends 0 (fun t => t.decState d = 1 ∧ (t.decOf d).step = true)) ∧
      (op = 6 → st = 0 → ends 5 still) ∧
      (op = 6 → st ≠ 0 → ends 0 (fun t => t.decState d = 0 ∧ t.fld (DEC_S_STATUS d) DEC_S_STATUS_STOP_REASON = 0 ∧
        t.decOf d = { buf := (s.decOf d).buf, count := (s.decOf d).count })))

/-- Pictures of a ring source (R386, R392, R393): an access unit without its LAST is passed over, one outside capability counts and raises event 651, and a sound one awaits its output at its place, with its figures, while pacing is by events. -/
def Sys2Proof.Claims.PicturesAreDecoded : Prop :=
  ∀ (d : Fin 4) (c : DecCoded) (v : Word) (s : State) (i : DecInfo) (m e next fl : Nat) (whole : Bool) (tm : Word),
    (Reach s (DEC_S_IN_WP d) → exec (.decInWpWrite d v) s = .next (s.wr (DEC_S_IN_WP d) (v &&& 0xFFFFFFC0))) ∧
    ((s.decOf d).clip = none → exec (.decPictureDecoded d c) s = .next s) ∧
    (s.decOn d = true → s.decState d ≠ 4 → (s.decOf d).clip = some (i, m, e) → s.decRingSrc d = true → i.codec ≠ 1 →
      s.rd (DEC_S_IN_RP d) = s.rd (DEC_S_IN_WP d) → exec (.decPictureDecoded d c) s = .next s) ∧
    (s.decOn d = true → s.decState d ≠ 4 → (s.decOf d).clip = some (i, m, e) → s.decRingSrc d = true → i.codec ≠ 1 →
      s.decUnit d ((s.rd (DEC_S_IN_SIZE d)).toNat / 64 + 1) (s.rd (DEC_S_IN_RP d)).toNat false = some (next, whole, tm, fl) →
      (whole = false → exec (.decPictureDecoded d c) s = .next (s.wr (DEC_S_IN_RP d) (w32 next))) ∧
      (whole = true → c.unsup = true → c.syntaxErr = 0 → Runs (.decPictureDecoded d c) s (fun t =>
        t.rd (DEC_S_IN_RP d) = w32 next ∧ t.rd (DEC_S_UNSUP d) = satAdd (s.rd (DEC_S_UNSUP d)) 1 ∧ Raised s t 651 0x0900 0 ∧
        RegsBut s t ((DEC_S_IN_RP d).off :: (DEC_S_UNSUP d).off :: evRegs 651) ∧ t = { s with regs := t.regs, occ := t.occ })) ∧
      (whole = true → c.unsup = false → c.syntaxErr = 0 → c.rasl = true → exec (.decPictureDecoded d c) s = .next (s.wr (DEC_S_IN_RP d) (w32 next))) ∧
      (whole = true → c.unsup = false → c.syntaxErr = 0 → c.rasl = false → c.missing = 0 → c.ctus = 0 → c.refs = [] → (s.decOf d).marking = false →
        (s.decOf d).back = false → (s.decOf d).skipTo ≤ c.pos → s.fld (DEC_S_PACE d) DEC_S_PACE_MODE ≠ 0 → Runs (.decPictureDecoded d c) s (fun t =>
          t.rd (DEC_S_IN_RP d) = w32 next ∧ (t.decOf d).prev = concealPlanes c.chroma c.depth c.areas (s.decOf d).prev c.planes ∧
          (∃ o, (t.decOf d).ready = readyInsert false o (s.decOf d).ready ∧ o.pos = c.pos ∧ o.time = tm ∧ o.flags = fl % 2 ∧ o.poc = wOfInt c.poc ∧ o.conceal = 0) ∧
          t.rd (DEC_S_FMT d) = w32 (c.chroma + 4 * (if c.depth = 8 then 0 else if c.depth = 10 then 1 else 2) + 16 * b2n c.full + 256 * (c.matrix % 256)) ∧
          RegsBut s t [(DEC_S_IN_RP d).off, (DEC_S_FMT d).off] ∧ t = { s with regs := t.regs, dec := t.dec })))

/-! ### Audio -/

/-- START and STOP of a port (R405, R406): START makes an OFF port in use WAITING; STOP makes a WAITING one OFF, ramps every moving direction of a RUNNING one down before it is OFF, and ends a LOST one at once. -/
def Sys2Proof.Claims.PortsStartAndStop : Prop :=
  ∀ (p : Fin 16) (s : State), Reach s (AUD_P_CTRL p) →
    (s.audOn p = true → s.audState p = 0 → exec (.audStart p) s =
      .next ({ s with aud := tabSet s.aud {} p { s.audOf p with trig := false } }.setFld (AUD_P_STATUS p) ⟨2, 0⟩ 1)) ∧
    (s.audOn p = false ∨ s.audState p ≠ 0 → exec (.audStart p) s = .next s) ∧
    (s.audState p = 1 → exec (.audStop p) s = .next (s.setFld (AUD_P_STATUS p) ⟨2, 0⟩ 0)) ∧
    (s.audState p = 2 → (∀ d, d < 2 → (s.audDir p d).active = false) → exec (.audStop p) s = .next (s.setFld (AUD_P_STATUS p) ⟨2, 0⟩ 0)) ∧
    (s.audState p = 2 → (∃ d, d < 2 ∧ (s.audDir p d).active = true) → Runs (.audStop p) s (fun t =>
      t.audState p = 3 ∧ (∀ d, d < 2 → (t.audDir p d).active = (s.audDir p d).active ∧
        (t.audDir p d).stopping = ((s.audDir p d).active || (s.audDir p d).stopping)) ∧
      RegsBut s t [(AUD_P_STATUS p).off] ∧ t = { s with regs := t.regs, aud := t.aud })) ∧
    (s.audState p = 4 → Runs (.audStop p) s (fun t => t.audState p = 0 ∧ (∀ d, d < 2 → (t.audDir p d).active = false) ∧ t = { s with regs := t.regs, aud := t.aud })) ∧
    (s.audState p = 0 ∨ s.audState p = 3 → exec (.audStop p) s = .next s)

/-- A port alone that is WAITING and, where it needs its trigger, triggered, runs from block 0 at its first frame sync (R402, R403, R406): event 864 gives the time, a receive direction begins its block and stamp there. -/
def Sys2Proof.Claims.PortsRun : Prop :=
  ∀ (p : Fin 16) (fetched : Bool) (s : State),
    (s.audOn p = false ∨ s.audState p ≠ 1 ∨ ((s.rd (AUD_P_CFG p)).getLsbD 21 = true ∧ (s.audOf p).trig = false) → exec (.audPortStarted p fetched) s = .next s) ∧
    (s.audOn p = true → s.audState p = 1 → (s.rd (AUD_P_CFG p)).getLsbD 20 = false → ((s.rd (AUD_P_CFG p)).getLsbD 21 = true → (s.audOf p).trig = true) →
      s.audDirOn p 0 = true → s.audDirOn p 1 = false → (s.audDir p 0).pend = none → Runs (.audPortStarted p fetched) s (fun t =>
        t.audState p = 2 ∧ Raised s t 864 (0x0D00 + p) s.ns ∧ (t.audOf p).block = 0 ∧ (t.audOf p).frame = 0 ∧ (t.audOf p).last = s.ticks ∧
        (t.audDir p 0).active = true ∧ (t.audDir p 1).active = false ∧ t.rd (AUD_D_WP p 0) = 0 ∧ t.rd (AUD_D_BLOCK p 0) = 0 ∧
        t.rd (AUD_D_STAMP p 0 0) = 0 ∧ t.rd (AUD_D_STAMP p 0 1) = s.ns ∧ t.rd (AUD_D_STAMP p 0 3) = w32 (s.frac.toNat / 16777216) ∧ SameMem s t))

/-- Frame syncs (R400, R402): a pulse of less than 2 ticks is no sync of a slave; a port that does not run takes none; a running master advances by one frame, and its receive direction takes the frame's words with their gains. A slave without sync for two
frame periods is LOST with cause 2 and event 869. -/
def Sys2Proof.Claims.FrameSyncs : Prop :=
  ∀ (p : Fin 16) (width : Nat) (rx : List Word) (serve fetched : Bool) (s : State),
    (s.bit (AUD_P_CFG p) AUD_P_CFG_MASTER = false → width < 2 → exec (.audFrameSync p width rx serve fetched) s = .next s) ∧
    (s.audOn p = false → exec (.audFrameSync p width rx serve fetched) s = .next s) ∧
    (s.bit (AUD_P_CFG p) AUD_P_CFG_MASTER = true → s.audState p < 2 → exec (.audFrameSync p width rx serve fetched) s = .next s) ∧
    (s.audOn p = true → s.bit (AUD_P_CFG p) AUD_P_CFG_MASTER = true → s.audState p = 2 → (s.audDir p 0).active = true → (s.audDir p 1).active = false →
      (s.audDir p 0).pend = none → (s.audOf p).frame < 63 → Runs (.audFrameSync p width rx serve fetched) s (fun t =>
        (t.audOf p).frame = (s.audOf p).frame + 1 ∧ (t.audOf p).block = (s.audOf p).block ∧ (t.audOf p).last = s.ticks ∧ t.audState p = 2 ∧
        (t.audDir p 0).blk.frames = (s.audDir p 0).blk.frames ++ [(s.audFrame p 0 rx).2] ∧ SameMem s t)) ∧
    (s.audOn p = true → s.bit (AUD_P_CFG p) AUD_P_CFG_MASTER = false → s.audState p = 2 ∨ s.audState p = 3 → Runs (.audFsTimeout p) s (fun t =>
      t.audState p = 4 ∧ Raised s t 869 (0x0D00 + p) 2 ∧ t.audOf p = { s.audOf p with good := 0, lostAt := s.ticks } ∧
      RegsBut s t ((AUD_P_STATUS p).off :: evRegs 869) ∧ t = { s with regs := t.regs, aud := t.aud, occ := t.occ })) ∧
    (s.bit (AUD_P_CFG p) AUD_P_CFG_MASTER = true ∨ s.audState p = 4 → exec (.audFsTimeout p) s = .next s)

/-- Masks, mutes and positions (R402, R405, R408): a mask awaits a later frame sync with the tick of its write; a mute turns the ramp of each slot that moves; WP is the producer's. -/
def Sys2Proof.Claims.SlotsOfPorts : Prop :=
  ∀ (p : Fin 16) (d : Fin 2) (v : Word) (s : State),
    (Reach s (AUD_D_MASK p d) → Runs (.audMaskWrite p d v) s (fun t =>
      t.rd (AUD_D_MASK p d) = v &&& 0xFFFF ∧ t.audDir p d = { s.audDir p d with pend := some ((v &&& 0xFFFF).toNat, s.ticks) } ∧
      (t.rd (AUD_D_STATUS p d)).getLsbD 1 = true ∧ RegsBut s t [(AUD_D_MASK p d).off, (AUD_D_STATUS p d).off] ∧ t = { s with regs := t.regs, aud := t.aud })) ∧
    (Reach s (AUD_D_MUTE p d) → (s.audDir p d).active = false → exec (.audMuteWrite p d v) s = .next (s.wr (AUD_D_MUTE p d) (v &&& 0xFFFF))) ∧
    (Reach s (AUD_D_MUTE p d) → (s.audDir p d).active = true → Runs (.audMuteWrite p d v) s (fun t =>
      t.rd (AUD_D_MUTE p d) = v &&& 0xFFFF ∧
      (∀ i, i < s.audSlots p → i < 16 → s.audCut p d (s.audDir p d) i = false →
        tabGet (t.audDir p d).ramps {} i = (tabGet (s.audDir p d).ramps {} i).toward
          (!(s.audDir p d).stopping && !(decide (d.val = 1) && (s.rd (AUD_D_STATUS p d)).getLsbD 0) && !v.getLsbD i) (s.audRampLen p)) ∧
      RegsBut s t [(AUD_D_MUTE p d).off] ∧ t = { s with regs := t.regs, aud := t.aud })) ∧
    (Reach s (AUD_D_WP p 1) → exec (.audWpWrite p v) s = .next (s.wr (AUD_D_WP p 1) v))

/-- A stop ramp at its last sample (R405): event 865, and the direction idles with its mask; the last one of the port makes it OFF. Before that nothing happens. -/
def Sys2Proof.Claims.RampsEnd : Prop :=
  ∀ (p : Fin 16) (d : Fin 2) (s : State),
    ((s.audDir p d).active = false ∨ (s.audDir p d).stopping = false → exec (.audRampEnd p d) s = .next s) ∧
    ((s.audDir p d).active = true → (s.audDir p d).stopping = true → (s.audDir p d).ramps.all (fun r => r.2.n ≤ r.2.k) = true → Runs (.audRampEnd p d) s (fun t =>
      Raised s t 865 (0x0D00 + p) 0 ∧ t.audDir p d = { mask := (s.audDir p d).mask, pend := (s.audDir p d).pend } ∧ t.audDir p (1 - d.val) = s.audDir p (1 - d.val) ∧
      t.rd (AUD_D_NA_PAIRS p d) = 0 ∧ (t.rd (AUD_D_STATUS p d)).getLsbD 0 = false ∧
      t.audState p = (if (s.audDir p (1 - d.val)).active then s.audState p else 0) ∧
      RegsBut s t ((AUD_D_NA_PAIRS p d).off :: (AUD_D_STATUS p d).off :: (AUD_P_STATUS p).off :: evRegs 865) ∧
      t = { s with regs := t.regs, aud := t.aud, occ := t.occ }))

/-! ### Oars -/

namespace Sys2Proof.Claims
open Sys2Proof.Machine

/-- What a context's instructions have left is in place, and the custom instruction runs on `u` with the program `g`; no event came before it. -/
def OarAt (s : State) (e l c : Nat) (run : OarRun) (u : State) (g : OarProg) : Prop :=
  s.oarRun e l c run = some (u, g) ∧ u.ctxState e l c = 2 ∧ u.occ = s.occ

/-- An instruction completes with a result: x0 takes none, pc moves on by 4, and minstret counts. -/
def Completes (u t : State) (e l c rd : Nat) (v : BitVec 64) : Prop := t.ctxOf e l c = ((u.ctxOf e l c).setX rd v).done

/-- A context waits for something from this tick on, and nothing else changes. -/
def WaitsFor (u t : State) (e l c : Nat) (w : OarWait) : Prop :=
  t.ctxState e l c = 3 ∧ t.ctxOf e l c = { u.ctxOf e l c with wait := some w, waitAt := u.ticks, delayAt := u.ticks } ∧
  RegsBut u t [(EGT_CTX e l c).off] ∧ t = { u with regs := t.regs, eng := t.eng }

/-- A trap (R414): to mtvec with mepc and mcause set, or, where mtvec is 0 or a trap has no mret yet, the context halts with event 66. -/
def Traps (u t : State) (e l c : Nat) (m : BitVec 64) : Prop :=
  let x := u.ctxOf e l c
  (tabGet x.csrs 0 0x305 ≠ 0 → x.inTrap = false → t.regs = u.regs ∧ t.occ = u.occ ∧
    t.ctxOf e l c = { x with csrs := tabSet (tabSet x.csrs 0 0x341 x.pc) 0 0x342 m, pc := tabGet x.csrs 0 0x305 &&& ~~~3#64, inTrap := true, wait := none }) ∧
  (tabGet x.csrs 0 0x305 = 0 ∨ x.inTrap = true → t.ctxState e l c = 4 ∧ t.fld (EGT_CTX e l c) EGT_CTX_MCAUSE = m.toNat % 256 ∧
    (t.ctxOf e l c).wait = none ∧ (t.ctxOf e l c).pc = x.pc ∧ Raised u t 66 (0x0100 + e) (w32 e))

end Sys2Proof.Claims

/-- Which contexts execute (R411, R412): without a program, on an Eight that does not run, or while it neither is ready nor runs, a context's instructions are nothing; else, with no store and no access of BAR0, what they have left is
in the context and it runs. -/
def Sys2Proof.Claims.ContextsExecute : Prop :=
  ∀ (e : Fin 32) (l c : Fin 8) (r1 r2 r3 : BitVec 5) (imm : BitVec 12) (m : BitVec 64) (run : OarRun) (s : State),
    (s.prog e l = none ∨ s.running (0x0100 + e) = false ∨ (s.ctxState e l c ≠ 1 ∧ s.ctxState e l c ≠ 2) →
      ∀ i, i ∈ [Instr.stpop e l c r1 imm run, .stpush e l c r1 imm run, .vstpop e l c r1 imm run, .vstpush e l c r1 imm run, .swait e l c r1 r2 r3 run,
        .evraise e l c r1 r2 r3 run, .dmastart e l c r1 r2 r3 run, .dmawait e l c r1 r2 r3 run, .oarTrap e l c m run] → exec i s = .next s) ∧
    (∀ g, s.prog e l = some g → s.running (0x0100 + e) = true → s.ctxState e l c = 2 → (∀ k : Fin 8, k ≠ c → s.ctxState e l k ≠ 2) → run.stores = [] → run.bus = [] →
      ∃ u, OarAt s e l c run u g ∧ u.ctxOf e l c = (s.ctxOf e l c).after run ∧ u.regs = s.regs ∧ u = { s with eng := u.eng })

/-- STPOP and STPUSH (R418, R419): an inbound port with a word gives it to rd; an outbound one with room takes rs1; else the context waits; a port that the program does not bind, or in the other direction, is an illegal instruction. -/
def Sys2Proof.Claims.StreamWords : Prop :=
  ∀ (e : Fin 32) (l c : Fin 8) (rd rs1 : BitVec 5) (imm : BitVec 12) (run : OarRun) (s u : State) (g : OarProg), OarAt s e l c run u g →
    (∀ p w ws, g.port imm false = some p → u.portQ e p = w :: ws → Runs (.stpop e l c rd imm run) s (fun t =>
      Completes u t e l c rd.toNat w ∧ t.regs = u.regs ∧ (∃ more, t.portQ e p = ws ++ more))) ∧
    (∀ p, g.port imm false = some p → u.portQ e p = [] → Runs (.stpop e l c rd imm run) s (fun t => WaitsFor u t e l c (.pop rd.toNat p))) ∧
    (g.port imm false = none → Runs (.stpop e l c rd imm run) s (fun t => Traps u t e l c 2)) ∧
    (∀ p, g.port imm true = some p → (u.portQ e p).length < 512 → Runs (.stpush e l c rs1 imm run) s (fun t => Completes u t e l c 0 0 ∧ t.regs = u.regs)) ∧
    (∀ p, g.port imm true = some p → 512 ≤ (u.portQ e p).length → Runs (.stpush e l c rs1 imm run) s (fun t =>
      WaitsFor u t e l c (.push p ((u.ctxOf e l c).getX rs1.toNat)))) ∧
    (g.port imm true = none → Runs (.stpush e l c rs1 imm run) s (fun t => Traps u t e l c 2))

/-- VSTPOP and VSTPUSH (R419, log entry 53): vl elements, one a word; short of words, or with no room, the context waits; a register group outside v0 to v31 is an illegal instruction. The bits above SEW of a pushed word are free values. -/
def Sys2Proof.Claims.StreamVectors : Prop :=
  ∀ (e : Fin 32) (l c : Fin 8) (vr : BitVec 5) (imm : BitVec 12) (run : OarRun) (s u : State) (g : OarProg) (p : Nat), OarAt s e l c run u g →
    let x := u.ctxOf e l c
    (g.port imm false = some p → x.vecOk vr.toNat = true → x.vl ≤ (u.portQ e p).length → Runs (.vstpop e l c vr imm run) s (fun t =>
      t.regs = u.regs ∧ t.ctxOf e l c = ((((u.portQ e p).take x.vl).zipIdx.foldl (fun y w => y.setElement vr.toNat w.2 w.1) x).done))) ∧
    (g.port imm false = some p → x.vecOk vr.toNat = true → (u.portQ e p).length < x.vl → Runs (.vstpop e l c vr imm run) s (fun t =>
      WaitsFor u t e l c (.vpop vr.toNat p))) ∧
    (g.port imm false = none ∨ x.vecOk vr.toNat = false → Runs (.vstpop e l c vr imm run) s (fun t => Traps u t e l c 2)) ∧
    (g.port imm true = some p → x.vecOk vr.toNat = true → (u.portQ e p).length + x.vl ≤ 512 → Runs (.vstpush e l c vr imm run) s (fun t =>
      Completes u t e l c 0 0 ∧ t.regs = u.regs ∧ t.freeCtr = u.freeCtr + x.vl)) ∧
    (g.port imm true = some p → x.vecOk vr.toNat = true → 0 < x.vl → 512 ≤ (u.portQ e p).length → Runs (.vstpush e l c vr imm run) s (fun t =>
      t.ctxState e l c = 3 ∧ (t.ctxOf e l c).wait = some (.vpush p (u.vecWords x vr.toNat)) ∧ t.freeCtr = u.freeCtr + x.vl)) ∧
    (g.port imm true = none ∨ x.vecOk vr.toNat = false → Runs (.vstpush e l c vr imm run) s (fun t => Traps u t e l c 2))

/-- SWAIT (R419, R478): a selection that is no slot, EVENT or ANY is an illegal instruction; a delivery that is queued is its result at once; else the context waits, and its timeout, where rs2 holds one, ends the wait with bit 15 set and the context ready. -/
def Sys2Proof.Claims.StrokeWaits : Prop :=
  ∀ (e : Fin 32) (l c : Fin 8) (rd rs1 rs2 : BitVec 5) (run : OarRun) (s : State),
    (∀ u g, OarAt s e l c run u g →
      let v := ((u.ctxOf e l c).getX rs1.toNat).toNat
      (1024 ≤ v ∨ (512 ≤ v ∧ v ≤ 0x3FD) → Runs (.swait e l c rd rs1 rs2 run) s (fun t => Traps u t e l c 2)) ∧
      (∀ w ws, v < 512 ∨ v = 0x3FE ∨ v = 0x3FF → takeWake v (u.ctxOf e l c).queue = some (w, ws) → Runs (.swait e l c rd rs1 rs2 run) s (fun t =>
        (t.ctxOf e l c).queue = ws ∧ (t.ctxOf e l c).getX rd.toNat = (if rd = 0 then 0 else w.value) ∧ (t.ctxOf e l c).pc = (u.ctxOf e l c).pc + 4 ∧
        (t.ctxOf e l c).sel = some v ∧ t.ctxState e l c = 2)) ∧
      (v < 512 ∨ v = 0x3FE ∨ v = 0x3FF → (∀ k, k < 8 → takeWake v (u.ctxOf e l k).queue = none) → Runs (.swait e l c rd rs1 rs2 run) s (fun t =>
        t.ctxState e l c = 3 ∧ (t.ctxOf e l c).wait = some (.swait rd.toNat v ((u.ctxOf e l c).getX rs2.toNat != 0)) ∧ (t.ctxOf e l c).sel = some v ∧
        (t.ctxOf e l c).waitAt = u.ticks))) ∧
    (∀ r sel, (s.ctxOf e l c).wait = some (.swait r sel true) → s.running (0x0100 + e) = true → s.ctxState e l c = 3 → Runs (.swaitTimeout e l c) s (fun t =>
      t.ctxState e l c = 1 ∧ (t.ctxOf e l c).wait = none ∧ (t.ctxOf e l c).pc = (s.ctxOf e l c).pc + 4 ∧
      (t.ctxOf e l c).getX r = (if r = 0 then 0 else timeoutValue s.ns) ∧ RegsBut s t [(EGT_CTX e l c).off] ∧ t = { s with regs := t.regs, eng := t.eng })) ∧
    (∀ r sel, (s.ctxOf e l c).wait = some (.swait r sel false) → exec (.swaitTimeout e l c) s = .next s)

/-- The value that SWAIT returns (R419): the slot in bits 9 to 0, bit 15 at a timeout only, and TB0 NS in bits 63 to 32; the other bits are free values. -/
def Sys2Proof.Claims.StrokeWaitValues : Prop :=
  (∀ w : Wake, w.slot < 512 → w.value.toNat % 1024 = w.slot ∧ w.value.getLsbD 15 = false ∧ w.value.toNat / 2 ^ 32 = w.ns.toNat) ∧
  (∀ w : Wake, w.slot = 0x3FE → w.value.toNat % 1024 = 0x3FE ∧ w.value.getLsbD 15 = false ∧ w.value.toNat / 2 ^ 16 % 1024 = w.event % 1024 ∧
    w.value.toNat / 2 ^ 32 = w.ns.toNat) ∧
  (∀ ns : Word, (timeoutValue ns).getLsbD 15 = true ∧ (timeoutValue ns).toNat / 2 ^ 32 = ns.toNat)

/-- EVRAISE (R419): an event that the program permits is raised with rs2 as its VALUE; one that it does not permit counts in EGT_EV_DENY; rd other than x0 is an illegal instruction. -/
def Sys2Proof.Claims.EventsOfOars : Prop :=
  ∀ (e : Fin 32) (l c : Fin 8) (rd rs1 rs2 : BitVec 5) (run : OarRun) (s u : State) (g : OarProg), OarAt s e l c run u g →
    let x := u.ctxOf e l c
    let n := (x.getX rs1.toNat).toNat % 1024
    (rd ≠ 0 → Runs (.evraise e l c rd rs1 rs2 run) s (fun t => Traps u t e l c 2)) ∧
    (rd = 0 → bitsOf (leNat g.events) n n = 1 → Runs (.evraise e l c rd rs1 rs2 run) s (fun t =>
      Completes u t e l c 0 0 ∧ Raised u t n (0x0100 + e) ((x.getX rs2.toNat).setWidth 32) ∧ RegsBut u t (evRegs n))) ∧
    (rd = 0 → bitsOf (leNat g.events) n n = 0 → Runs (.evraise e l c rd rs1 rs2 run) s (fun t =>
      Completes u t e l c 0 0 ∧ t.rd (EGT_EV_DENY e) = satAdd (u.rd (EGT_EV_DENY e)) 1 ∧ RegsBut u t ((EGT_EV_DENY e).off :: evRegs 69)))

/-- DMASTART and DMAWAIT (R420): with a ticket free the descriptor is taken and the ticket's number is the result; with four out the context waits; an ended ticket gives its status once, an unknown one gives 3, and one still out waits. -/
def Sys2Proof.Claims.TransfersOfOars : Prop :=
  ∀ (e : Fin 32) (l c : Fin 8) (rd rs1 rs2 : BitVec 5) (run : OarRun) (s u : State) (g : OarProg), OarAt s e l c run u g →
    let x := u.ctxOf e l c
    let a := (x.getX rs1.toNat).toNat
    let n := a % 65536
    (rs2 ≠ 0 → Runs (.dmastart e l c rd rs1 rs2 run) s (fun t => Traps u t e l c 2) ∧ Runs (.dmawait e l c rd rs1 rs2 run) s (fun t => Traps u t e l c 2)) ∧
    (rs2 = 0 → x.open_ < 4 → 0x40000 < a + 32 → Runs (.dmastart e l c rd rs1 rs2 run) s (fun t => Traps u t e l c 5)) ∧
    (rs2 = 0 → x.open_ < 4 → a + 32 ≤ 0x40000 → Runs (.dmastart e l c rd rs1 rs2 run) s (fun t =>
      let d := (List.range 32).map (fun i => u.oarByte e l (a + i))
      (∃ k, k ∈ (t.ctxOf e l c).tickets ∧ k.num = x.nextTicket ∧ k.desc = d ∧ (k.status = none ↔ g.dmaOk (oarDma d) = true) ∧ (k.status ≠ none → k.status = some 1)) ∧
      (t.ctxOf e l c).getX rd.toNat = (if rd = 0 then 0 else BitVec.ofNat 64 x.nextTicket) ∧ (t.ctxOf e l c).nextTicket = (x.nextTicket + 1) % 65536 ∧
      (t.ctxOf e l c).pc = x.pc + 4 ∧ t.regs = u.regs ∧ SameMem u t)) ∧
    (rs2 = 0 → 4 ≤ x.open_ → Runs (.dmastart e l c rd rs1 rs2 run) s (fun t => WaitsFor u t e l c (.dmaStart rd.toNat a))) ∧
    (rs2 = 0 → (∀ k, k ∈ x.tickets → k.num ≠ n) → Runs (.dmawait e l c rd rs1 rs2 run) s (fun t => Completes u t e l c rd.toNat 3)) ∧
    (∀ k v, rs2 = 0 → x.tickets.find? (fun k => k.num == n) = some k → k.status = some v → Runs (.dmawait e l c rd rs1 rs2 run) s (fun t =>
      (∀ j, j ∈ (t.ctxOf e l c).tickets → j.num ≠ n) ∧ (t.ctxOf e l c).getX rd.toNat = (if rd = 0 then 0 else BitVec.ofNat 64 v) ∧ (t.ctxOf e l c).pc = x.pc + 4)) ∧
    (∀ k, rs2 = 0 → x.tickets.find? (fun k => k.num == n) = some k → k.status = none → Runs (.dmawait e l c rd rs1 rs2 run) s (fun t =>
      WaitsFor u t e l c (.dmaWait rd.toNat n)))

/-- The end of a transfer (R93, R420, R425): a ticket that is not out is nothing; one row from local memory to GDDR7 is copied there and no other byte changes; poisoned data gives status 2; a failed seat discards the data. -/
def Sys2Proof.Claims.TransfersEnd : Prop :=
  ∀ (e : Fin 32) (l c : Fin 8) (num : BitVec 16) (poison : Bool) (s : State),
    ((∀ k, k ∈ (s.ctxOf e l c).tickets → k.num = num.toNat → k.status ≠ none) → exec (.oarDmaComplete e l c num poison) s = .next s) ∧
    (∀ k g, (s.ctxOf e l c).tickets.find? (fun t => t.num == num.toNat && t.status.isNone) = some k → s.prog e l = some g →
      let ended (t : State) (st : Nat) : Prop := ∀ j, j ∈ (t.ctxOf e l c).tickets → j.num = num.toNat → j.status = some st
      ((s.rd (EGT_SEAT_STATE e)).getLsbD (s.physSeat e l) = true → Runs (.oarDmaComplete e l c num poison) s (fun t =>
        ended t 2 ∧ SameMem s t ∧ t.regs = s.regs)) ∧
      (∀ a b n, (s.rd (EGT_SEAT_STATE e)).getLsbD (s.physSeat e l) = false → (oarDma k.desc).rows = 1 → (oarDma k.desc).len = n →
        (∃ p q, g.pieces (oarDma k.desc).src n 0 = some [(p, n)] ∧ p.kind = 0 ∧ p.at_ = a ∧ g.pieces (oarDma k.desc).dst n 1 = some [(q, n)] ∧ q.kind = 2 ∧ q.at_ = b) →
        Runs (.oarDmaComplete e l c num poison) s (fun t => ended t (if poison then 2 else 0) ∧ t.regs = s.regs ∧
          (∀ i, i < n → t.mem (b + i) = s.oarByte e l (a + i)) ∧ (∀ i, i < b ∨ b + n ≤ i → t.mem i = s.mem i))))

/-- A wait that can end (R412): a delivery that has come is the result, a word that is there is popped, and the context is ready; while it cannot end, nothing happens. -/
def Sys2Proof.Claims.ContextsResume : Prop :=
  ∀ (e : Fin 32) (l c : Fin 8) (s : State) (g : OarProg),
    ((s.ctxOf e l c).wait = none → exec (.oarContextResume e l c) s = .next s) ∧
    (∀ r sel b, (s.ctxOf e l c).wait = some (.swait r sel b) → exec (.oarContextResume e l c) s = .next s) ∧
    (∀ r p, (s.ctxOf e l c).wait = some (.pop r p) → s.portQ e p = [] → exec (.oarContextResume e l c) s = .next s) ∧
    (∀ r v, s.prog e l = some g → s.running (0x0100 + e) = true → s.ctxState e l c = 3 → (s.ctxOf e l c).wait = some (.got r v) → Runs (.oarContextResume e l c) s (fun t =>
      t.ctxState e l c = 1 ∧ (t.ctxOf e l c).wait = none ∧ (t.ctxOf e l c).pc = (s.ctxOf e l c).pc + 4 ∧ (t.ctxOf e l c).getX r = (if r = 0 then 0 else v) ∧
      RegsBut s t [(EGT_CTX e l c).off] ∧ t = { s with regs := t.regs, eng := t.eng })) ∧
    (∀ r p w ws, s.prog e l = some g → s.running (0x0100 + e) = true → s.ctxState e l c = 3 → (s.ctxOf e l c).wait = some (.pop r p) → s.portQ e p = w :: ws →
      Runs (.oarContextResume e l c) s (fun t =>
        t.ctxState e l c = 1 ∧ (t.ctxOf e l c).wait = none ∧ (t.ctxOf e l c).pc = (s.ctxOf e l c).pc + 4 ∧ (t.ctxOf e l c).getX r = (if r = 0 then 0 else w)))

/-- Exceptions of RISC-V instructions (R414): the context traps to mtvec, or halts. -/
def Sys2Proof.Claims.ContextsTrap : Prop :=
  ∀ (e : Fin 32) (l c : Fin 8) (m : BitVec 64) (run : OarRun) (s u : State) (g : OarProg), OarAt s e l c run u g →
    Runs (.oarTrap e l c m run) s (fun t => Traps u t e l c m ∧ SameMem u t)

/-- Seat time (R416, R497): at a refill each Iso and Firm task's budget is its RATE in clocks, three quarters of it from Health level 2 on, and other contexts stay. -/
def Sys2Proof.Claims.BudgetsAreRefilled : Prop :=
  ∀ (e : Fin 32) (s : State),
    (s.running (0x0100 + e) = false → exec (.seatPeriodRefill e) s = .next s) ∧
    (s.running (0x0100 + e) = true → Runs (.seatPeriodRefill e) s (fun t => ∀ l c : Fin 8,
      (∀ r, s.taskRec e l c = some r → (t.ctxOf e l c).budget = (s.rd (UMP_S_RATE r)).toNat * (if 2 ≤ s.fld HLT_STATUS HLT_STATUS_LEVEL then 120 else 160) ∧
        (t.ctxOf e l c).delayAt = s.ticks) ∧
      (s.taskRec e l c = none → t.ctxOf e l c = s.ctxOf e l c)))

/-- A word of a tap (R418): its port takes it while it has room, else the word is dropped and counted; a tap that no program binds gives nothing. -/
def Sys2Proof.Claims.TapsFeedPorts : Prop :=
  ∀ (look : Bool) (inst : Fin 8) (w : BitVec 64) (s : State),
    (s.tapPort (if look then 3 else 2) inst = none → exec (.tapWord look inst w) s = .next s) ∧
    (∀ e p, s.tapPort (if look then 3 else 2) inst = some (e, p) → s.running (0x0100 + e) = true →
      ((s.portQ e p).length < 512 → Runs (.tapWord look inst w) s (fun t => t.portQ e p = s.portQ e p ++ [w] ∧ t = { s with eng := t.eng })) ∧
      (512 ≤ (s.portQ e p).length → (70, e) ∉ s.roundFlags → Runs (.tapWord look inst w) s (fun t =>
        t.rd (EGT_PORT_DROP e) = satAdd (s.rd (EGT_PORT_DROP e)) 1 ∧ Raised s t 70 (0x0100 + e) (w32 e) ∧ t.eng = s.eng)))

/-- The watchdog of an Eight (R422): a watched task that runs with its budget when EGT_WDOG expires stops its Eight with event 67; a task that is not watched does not. -/
def Sys2Proof.Claims.EightsAreWatched : Prop :=
  ∀ (e : Fin 32) (l c : Fin 8) (k : OarTask) (s : State), s.task e l c = some k →
    (k.wdog = false ∨ s.ctxState e l c = 3 → exec (.eightWatchdog e l c) s = .next s) ∧
    (k.wdog = true → s.running (0x0100 + e) = true → s.ctxState e l c = 1 ∨ s.ctxState e l c = 2 → k.cls < 2 → (s.ctxOf e l c).budget ≠ 0 → s.rigState < 3 →
      Runs (.eightWatchdog e l c) s (fun t => (t.blkOf (0x0100 + e)).phase = .stopped ∧ (t.blkOf (0x0100 + e)).code = 2 ∧
        t.rd (EVT_R_CNT 67) = satAdd (s.rd (EVT_R_CNT 67)) 1 ∧ t.rd (EVT_R_LAST 67) = w32 e.val ∧ SameMem s t))

/-- Coaches (R428): a fault stops the Coach with event 74; its partitions pass to its heir with event 72 and it restarts; once restarted it runs with event 73. -/
def Sys2Proof.Claims.CoachesFailOver : Prop :=
  ∀ (c : Fin 8) (s : State), let b := 0x0F00 + c.val
    ((s.blkOf b).phase = .stopped ∨ (s.blkOf b).phase = .down → exec (.coachFault c) s = .next s) ∧
    ((s.blkOf b).phase = .running ∨ (s.blkOf b).phase = .held → (∀ q : Fin 16, (s.callQ q).cur = none) → s.rigState < 3 → Runs (.coachFault c) s (fun t =>
      (t.blkOf b).phase = .stopped ∧ (t.blkOf b).code = 2 ∧ bitsOf (t.rd (BOH_COACH c)).toNat 2 0 = 2 ∧
      t.rd (EVT_R_CNT 74) = satAdd (s.rd (EVT_R_CNT 74)) 1 ∧ t.rd (EVT_R_LAST 74) = w32 c.val ∧ SameMem s t)) ∧
    (∀ k, (s.blkOf b).phase = .stopped → bitsOf (s.rd (BOH_COACH c)).toNat 2 0 = 2 → s.coachHeir c = some k → Runs (.coachHandoverDone c) s (fun t =>
      t.coachParts k = s.coachParts k ||| s.coachParts c ∧ t.coachParts c = 0 ∧ bitsOf (t.rd (BOH_COACH c)).toNat 2 0 = 3 ∧ Raised s t 72 b (w32 c.val) ∧
      RegsBut s t ((BOH_COACH k).off :: (BOH_COACH c).off :: evRegs 72) ∧ t = { s with regs := t.regs, occ := t.occ })) ∧
    ((s.blkOf b).phase ≠ .stopped → exec (.coachHandoverDone c) s = .next s ∧ exec (.coachRestarted c) s = .next s) ∧
    ((s.blkOf b).phase = .stopped → bitsOf (s.rd (BOH_COACH c)).toNat 2 0 = 3 → s.safe = false → (s.blkOf b).restartDue = true → s.jobRuns (.block b) = false →
      s.region (bidRegion b) = 2 → (∀ q : Fin 16, (s.callQ q).cur = none) → Runs (.coachRestarted c) s (fun t =>
        (t.blkOf b).phase = .running ∧ (t.blkOf b).code = 0 ∧ (t.blkOf b).restartDue = false ∧ bitsOf (t.rd (BOH_COACH c)).toNat 2 0 = 1 ∧
        Raised s t 73 b (w32 c.val) ∧ SameMem s t))

/-! ### Landing -/

/-- Links come up (R431, R432): a quad in DETECT that does not wait finds its partner and trains, on HDMI and DisplayPort while its head's HPD is high; when training is complete it passes to ACTIVE with event 770 and shows the lanes that locked. The endpoint shows its speed and width, a root port shows its drive and raises event 848, and each Ethernet port whose lane
locked is up; in other stages it is nothing. -/
def Sys2Proof.Claims.QuadsComeUp : Prop :=
  ∀ (q : Fin 40) (gen : BitVec 4) (width : BitVec 5) (lanes : BitVec 4) (d : DriveId) (s : State), s.quadOn q = true →
    let i := Instr.quadLinkUp q gen width lanes d
    let up (t : State) : Prop := t.quadStage q = 4 ∧ bitsOf (t.rd (LND_Q_STATUS q)).toNat 7 4 = lanes.toNat ∧ t.rd (EVT_R_LAST 768) = 4 ∧
      t.rd (EVT_R_CNT 770) = satAdd (s.rd (EVT_R_CNT 770)) 1
    let found : Prop := Runs (.quadSignalDetect q) s (fun t => t.quadStage q = 1 ∧ Raised s t 768 (0x0B00 + q) 1 ∧
      RegsBut s t ((LND_Q_STATUS q).off :: evRegs 768) ∧ t = { s with regs := t.regs, occ := t.occ })
    (s.quadStage q = 0 → s.quadWaiting q = false → s.quadProto q ∉ [3, 4, 5] → found) ∧
    (∀ n, s.quadStage q = 0 → s.quadWaiting q = false → s.quadProto q = 4 ∨ s.quadProto q = 5 → s.quadScn q = some n → s.bit (SCN_STATUS n) SCN_STATUS_HPD = true → found) ∧
    (∀ n, s.quadProto q = 4 ∨ s.quadProto q = 5 → s.quadScn q = some n → s.bit (SCN_STATUS n) SCN_STATUS_HPD = false → exec (.quadSignalDetect q) s = .next s) ∧
    (s.quadStage q ≠ 0 ∨ s.quadWaiting q = true → exec (.quadSignalDetect q) s = .next s) ∧
    (s.quadStage q ≠ 1 → s.quadStage q ≠ 2 → exec i s = .next s) ∧
    (s.quadStage q = 1 ∨ s.quadStage q = 2 →
      (s.quadProto q = 1 → Runs i s (fun t => up t ∧ t.rd LND_EP_LINK = w32 (gen.toNat + 16 * width.toNat) ∧
        RegsBut s t ((LND_Q_STATUS q).off :: LND_EP_LINK.off :: (evRegs 768 ++ evRegs 770)) ∧ t = { s with regs := t.regs, occ := t.occ })) ∧
      (∀ p : Fin 4, s.quadProto q = 2 → s.quadNvr q = some p.val → Runs i s (fun t => up t ∧
        (t.nvOf p).drive = some { d with speed := gen.toNat, width := width.toNat } ∧ t.bit (NVR_STATUS p) NVR_STATUS_READY = true ∧
        t.bit (NVR_STATUS p) NVR_STATUS_FMT_BAD = !d.fmtOk ∧ t.rd (NVR_CAP_LO p) = w32 d.blocks ∧ t.rd (NVR_CAP_HI p) = w32 (d.blocks / 4294967296) ∧
        t.rd (EVT_R_CNT 848) = satAdd (s.rd (EVT_R_CNT 848)) 1 ∧ t = { s with regs := t.regs, nv := t.nv, occ := t.occ })) ∧
      (s.quadProto q = 6 ∨ s.quadProto q = 7 → Runs i s (fun t => up t ∧
        (∀ p, p < 8 → t.ethUp p = (s.ethUp p || (decide (p ∈ s.quadPorts q) && (s.quadProto q == 7 || lanes.getLsbD (p % 4))))) ∧
        t = { s with regs := t.regs, occ := t.occ })) ∧
      (s.quadProto q = 8 → Runs i s (fun t => up t ∧ RegsBut s t ((LND_Q_STATUS q).off :: (evRegs 768 ++ evRegs 770)) ∧
        t = { s with regs := t.regs, occ := t.occ })))

/-- A quad's link fails or its training times out (R432): it leaves ACTIVE with event 769 and a count for DETECT, and its owner's link is down (Ethernet ports with event 817, a root port with event 849, its commands ended); TRAIN or LOCK that lasts too long
raises event 771, and the quad waits before DETECT until the wait ends. -/
def Sys2Proof.Claims.QuadsFail : Prop :=
  ∀ (q : Fin 40) (s : State),
    let down (t : State) : Prop := t.quadStage q = 0 ∧ t.rd (LND_Q_DOWN_CNT q) = satAdd (s.rd (LND_Q_DOWN_CNT q)) 1 ∧
      t.rd (EVT_R_CNT 769) = satAdd (s.rd (EVT_R_CNT 769)) 1 ∧ t.rd (EVT_R_CNT 768) = satAdd (s.rd (EVT_R_CNT 768)) 1
    (s.quadOn q = true → s.quadStage q = 4 →
      (s.quadProto q = 1 → Runs (.quadLinkDown q) s (fun t => down t ∧ t.rd LND_EP_LINK = 0 ∧ t = { s with regs := t.regs, occ := t.occ })) ∧
      (s.quadProto q = 6 ∨ s.quadProto q = 7 → Runs (.quadLinkDown q) s (fun t => down t ∧
        (∀ p, p < 8 → t.ethUp p = (s.ethUp p && !decide (p ∈ s.quadPorts q))) ∧ t = { s with regs := t.regs, occ := t.occ })) ∧
      (∀ p : Fin 4, s.quadProto q = 2 → s.quadNvr q = some p.val → s.portSet p = none → Runs (.quadLinkDown q) s (fun t => down t ∧
        (t.nvOf p).cmds = [] ∧ (t.nvOf p).drive = none ∧ t.rd (NVR_STATUS p) = 0 ∧ t.rd (EVT_R_CNT 849) = satAdd (s.rd (EVT_R_CNT 849)) 1 ∧
        t = { s with regs := t.regs, nv := t.nv, occ := t.occ }))) ∧
    (s.quadStage q ≠ 4 → exec (.quadLinkDown q) s = .next s) ∧
    (s.quadOn q = true → s.quadStage q = 1 ∨ s.quadStage q = 2 → Runs (.quadTrainTimeout q) s (fun t =>
      t.quadStage q = 0 ∧ t.quadWaiting q = true ∧ t.rd (EVT_R_CNT 771) = satAdd (s.rd (EVT_R_CNT 771)) 1 ∧
      t.rd (EVT_R_CNT 768) = satAdd (s.rd (EVT_R_CNT 768)) 1 ∧ RegsBut s t ((LND_Q_STATUS q).off :: (evRegs 768 ++ evRegs 771)) ∧
      t = { s with regs := t.regs, lnd := t.lnd, occ := t.occ })) ∧
    (s.quadOn q = false ∨ s.quadStage q = 0 ∨ 3 ≤ s.quadStage q → exec (.quadTrainTimeout q) s = .next s) ∧
    Runs (.quadRetryDetect q) s (fun t => t.quadWaiting q = false ∧ (∀ k, k ≠ q.val → t.quadWaiting k = s.quadWaiting k) ∧
      t = { s with lnd := t.lnd })

/-- Low-power idle (R433): a 25GbE port with LPI_EN, its link up and no frame queued lets its transmit direction sleep, which the port and the lane of its quad show; with a frame queued, or on a port of another kind, nothing sleeps. -/
def Sys2Proof.Claims.PortsSleep : Prop :=
  ∀ (p : Fin 8) (s : State),
    let idle : Prop := ∀ i, i < 4 → (s.rd (ETH_Q_CFG p i)).getLsbD 8 = true → s.rd (ETH_Q_HEAD p i) = s.rd (ETH_Q_TAIL p i)
    (s.ethMode p = 2 → (s.rd (ETH_P_CFG p)).getLsbD 9 = true → s.ethUp p = true → idle → Runs (.ethLpiEntry p) s (fun t =>
      t.rd (ETH_P_STATUS p) = s.rd (ETH_P_STATUS p) ||| 2 ∧
      t.rd (LND_Q_STATUS (s.ethQuad p)) = s.rd (LND_Q_STATUS (s.ethQuad p)) ||| (1 <<< (8 + p.val % 4)) ∧
      RegsBut s t [(ETH_P_STATUS p).off, (LND_Q_STATUS (s.ethQuad p)).off] ∧ t = { s with regs := t.regs })) ∧
    (s.ethMode p ≠ 2 ∨ ¬ idle → exec (.ethLpiEntry p) s = .next s)

/-- The BAR2 window (R436): byte k reaches GDDR7 address LND_BAR2_BASE + k; a write stores its bytes alone and a read answers them; an access with a byte beyond the memory that the host may reach is not performed at all, reads zeros, counts, raises event 772,
and is latched while VALID is 0. -/
def Sys2Proof.Claims.WindowOnMemory : Prop :=
  ∀ (off : BitVec 36) (data : List Byte) (len : BitVec 13) (s : State),
    let size := 2 ^ s.lnd.bar2Log
    let a := s.rd64 LND_BAR2_BASE_LO LND_BAR2_BASE_HI / size * size + off.toNat
    let fault (w : Bool) (t : State) : Prop := SameMem s t ∧ t.rd LND_BAR2_FAULT_CNT = satAdd (s.rd LND_BAR2_FAULT_CNT) 1 ∧ Raised s t 772 0x0B00 0 ∧
      ((s.rd LND_BAR2_FAULT).getLsbD 31 = true → t.rd LND_BAR2_FAULT = s.rd LND_BAR2_FAULT) ∧
      ((s.rd LND_BAR2_FAULT).getLsbD 31 = false → t.rd LND_BAR2_FAULT = w32 (2147483648 + (if w then 1073741824 else 0) + off.toNat / 64)) ∧
      RegsBut s t (LND_BAR2_FAULT.off :: LND_BAR2_FAULT_CNT.off :: evRegs 772)
    s.hostUp = true → off.toNat < size →
      (a + data.length ≤ s.g7Open → Runs (.bar2Access true off data len) s (fun t =>
        (∀ x, t.mem x = if a ≤ x ∧ x < a + data.length then data.getD (x - a) 0 else s.mem x) ∧ t = { s with g7 := t.g7 })) ∧
      (a + len.toNat ≤ s.g7Open → exec (.bar2Access false off data len) s = .next (s.emit (.bar2Data ((List.range len.toNat).map (fun k => s.mem (a + k)))))) ∧
      (s.g7Open < a + data.length → Runs (.bar2Access true off data len) s (fun t => fault true t ∧ t.out = s.out)) ∧
      (s.g7Open < a + len.toNat → Runs (.bar2Access false off data len) s (fun t => fault false t ∧ t.out = s.out ++ [.bar2Data (List.replicate len.toNat 0)]))

/-- Host DMA (R438): a TAIL outside the ring is discarded with OVF; a descriptor moves its bytes between host memory and GDDR7, has its STATUS written and advances HEAD; one outside the limits moves nothing, and each that fails sets ERR and raises event 774. -/
def Sys2Proof.Claims.ChannelsMoveBytes : Prop :=
  ∀ (k : Fin 32) (v : Word) (desc data : List Byte) (err : Bool) (s : State),
    (Reach s (LND_D_TAIL k) → v.toNat % 4096 < s.dmaRing k → exec (.hostDmaSubmit k v) s = .next (s.wr (LND_D_TAIL k) (w32 (v.toNat % 4096)))) ∧
    (Reach s (LND_D_TAIL k) → s.dmaRing k ≤ v.toNat % 4096 → Runs (.hostDmaSubmit k v) s (fun t =>
      (t.rd (LND_D_STATUS k)).getLsbD 0 = true ∧ RegsBut s t [(LND_D_STATUS k).off] ∧ t = { s with regs := t.regs })) ∧
    (s.rd (LND_D_HEAD k) = s.rd (LND_D_TAIL k) → exec (.hostDmaDescDone k desc data err) s = .next s) ∧
    (s.hostUp = true → (s.rd (LND_D_CFG k)).getLsbD 8 = true → s.rd (LND_D_HEAD k) ≠ s.rd (LND_D_TAIL k) →
      let h := (s.rd (LND_D_HEAD k)).toNat
      let a := leAt desc 8 8
      let n := leAt desc 16 4
      let st := s.rd64 (LND_D_BASE_LO k) (LND_D_BASE_HI k) / 64 * 64 + 32 * h + 21
      let vec := bitsOf (s.rd (LND_D_CFG k)).toNat 26 16
      let moved (t : State) : Prop := t.rd (LND_D_HEAD k) = w32 ((h + 1) % s.dmaRing k) ∧ t.rd (LND_D_DONE k) = s.rd (LND_D_DONE k) + 1
      (1 ≤ n → n ≤ 67108864 → a + n ≤ s.g7Open → leAt desc 20 1 % 4 = 0 → err = false → data.length = n →
        Runs (.hostDmaDescDone k desc data err) s (fun t => moved t ∧ (∀ x, t.mem x = if a ≤ x ∧ x < a + n then data.getD (x - a) 0 else s.mem x) ∧
          t.out = s.out ++ [.hostWrite st [1]] ∧ RegsBut s t [(LND_D_HEAD k).off, (LND_D_DONE k).off] ∧ t = { s with regs := t.regs, g7 := t.g7, out := t.out })) ∧
      (1 ≤ n → n ≤ 67108864 → a + n ≤ s.g7Open → leAt desc 20 1 % 4 = 3 → err = false → (s.msixOf vec).masked = false →
        Runs (.hostDmaDescDone k desc data err) s (fun t => moved t ∧ SameMem s t ∧ Raised s t 773 0x0B00 0 ∧
          t.out = s.out ++ [.hostWrite (leAt desc 0 8) ((List.range n).map (fun x => s.mem (a + x))), .hostWrite st [1], .msix vec] ∧
          RegsBut s t ((LND_D_HEAD k).off :: (LND_D_DONE k).off :: evRegs 773) ∧ t = { s with regs := t.regs, occ := t.occ, out := t.out })) ∧
      (n = 0 ∨ 67108864 < n ∨ s.g7Open < a + n → (s.msixOf vec).masked = false → Runs (.hostDmaDescDone k desc data err) s (fun t => moved t ∧ SameMem s t ∧
          (t.rd (LND_D_STATUS k)).getLsbD 1 = true ∧ Raised s t 774 0x0B00 0 ∧ t.out = s.out ++ [.hostWrite st [2], .msix vec])) ∧
      (1 ≤ n → n ≤ 67108864 → a + n ≤ s.g7Open → err = true → (s.msixOf vec).masked = false → Runs (.hostDmaDescDone k desc data err) s (fun t => moved t ∧
          (t.rd (LND_D_STATUS k)).getLsbD 1 = true ∧ Raised s t 774 0x0B00 0 ∧ t.out = s.out ++ [.hostWrite st [3], .msix vec])))

/-- MSI-X (R437): masking a vector keeps its pending bit; unmasking it sends the message that is pending, and none else. -/
def Sys2Proof.Claims.VectorsAreMasked : Prop :=
  ∀ (v : Fin 2048) (s : State), s.hostUp = true →
    Runs (.msixUnmask v true) s (fun t => t.msixOf v = { s.msixOf v with masked := true } ∧ (∀ k, k ≠ v.val → t.msixOf k = s.msixOf k) ∧
      t = { s with call := t.call }) ∧
    Runs (.msixUnmask v false) s (fun t => t.msixOf v = ⟨false, false⟩ ∧ (∀ k, k ≠ v.val → t.msixOf k = s.msixOf k) ∧
      t.out = s.out ++ (if (s.msixOf v).pending then [.msix v] else []) ∧ t = { s with call := t.call, out := t.out })

/-! ### Calls and Answers -/

namespace Sys2Proof.Claims
open Sys2Proof.Machine

/-- The Call service reads this Call next from a queue (R439, R440). -/
def CallNext (s : State) (q : Nat) (c : Call) : Prop :=
  s.hostUp = true ∧ (s.rd (CLL_Q_CFG q)).getLsbD 0 = true ∧ (s.callQ q).cur = none ∧ (s.callQ q).stop = false ∧ s.rd (CLL_Q_HEAD q) ≠ s.rd (CLL_Q_TAIL q) ∧
  callOf (tabGet (s.callQ q).entries [] (s.rd (CLL_Q_HEAD q)).toNat) = c

/-- The Answer queue that a Call queue names is enabled, its ring has room, and its vector is not masked. -/
def AnswerRoom (s : State) (q : Nat) : Prop :=
  let a := s.callAq q
  (s.rd (CLL_A_CFG a)).getLsbD 8 = true ∧ ((s.rd (CLL_A_TAIL a)).toNat + 1) % s.ansSize a ≠ (s.rd (CLL_A_HEAD a)).toNat % s.ansSize a ∧
  (s.msixOf (bitsOf (s.rd (CLL_A_CFG a)).toNat 26 16)).masked = false

/-- The Call got its Answer (R440, R441): HEAD has passed it, its Answer stands at the ring's TAIL with PHASE and the short time, TAIL has moved and PHASE turns at the end of the ring, the
vector is sent, and the queue is free for its next Call. `out` is what left the block before the Answer. -/
def Answered (s t : State) (q : Nat) (c : Call) (status r0 r1 : Nat) (out : List Out) : Prop :=
  let a := s.callAq q
  let h := ((s.rd (CLL_Q_HEAD q)).toNat + 1) % 256
  let k := (s.rd (CLL_A_TAIL a)).toNat
  t.out = s.out ++ out ++ [.hostWrite (s.rd64 (CLL_A_BASE_LO a) (CLL_A_BASE_HI a) / 32 * 32 + 32 * k) (ansBytes ⟨q, c.tag, status, h, r0, r1⟩ (s.ansQ a).phase t.ns),
    .msix (bitsOf (s.rd (CLL_A_CFG a)).toNat 26 16)] ∧
  t.rd (CLL_Q_HEAD q) = w32 h ∧ t.rd (CLL_A_TAIL a) = w32 ((k + 1) % s.ansSize a) ∧ (t.callQ q).cur = none ∧ (t.rd (CLL_Q_STATUS q)).getLsbD 1 = false ∧
  (t.ansQ a).phase = (if (k + 1) % s.ansSize a = 0 then !(s.ansQ a).phase else (s.ansQ a).phase)

/-- The registers that an Answer changes. -/
def callRegs (s : State) (q : Nat) : List Nat := [(CLL_Q_HEAD q).off, (CLL_Q_STATUS q).off, (CLL_A_TAIL (s.callAq q)).off]

/-- The Call waits for its work (R440, R442): HEAD has passed it and BUSY is set. -/
def CallWaits (s t : State) (q : Nat) (c : Call) (w : WaitFor) : Prop :=
  t.rd (CLL_Q_HEAD q) = w32 (((s.rd (CLL_Q_HEAD q)).toNat + 1) % 256) ∧ (t.rd (CLL_Q_STATUS q)).getLsbD 1 = true ∧ (t.callQ q).cur = some (c, some w)

/-- A Call command runs as its Answer alone: nothing else of the block changes. -/
def JustAnswers (i : Instr) (s : State) (q : Nat) (c : Call) (status r0 r1 : Nat) : Prop :=
  Runs i s (fun t => Answered s t q c status r0 r1 [] ∧ RegsBut s t (callRegs s q) ∧ t = { s with regs := t.regs, call := t.call, out := t.out })

end Sys2Proof.Claims

/-- Queues of Calls (R439, R440): the host's entries stand from TAIL on and TAIL moves; a TAIL outside the ring is discarded with OVF and event 776; enabling starts the queue empty, EN alone changes while it is enabled, and a queue disabled with a Call in progress stops at
its Answer. -/
def Sys2Proof.Claims.CallQueuesAreKept : Prop :=
  ∀ (q : Fin 16) (v : Word) (es : List (List Byte)) (s : State),
    (Reach s (CLL_Q_TAIL q) → es.length ≤ 256 → v.toNat < 256 → Runs (.callSubmit q es v) s (fun t =>
      t.rd (CLL_Q_TAIL q) = v ∧ (∀ i, i < es.length → tabGet (t.callQ q).entries [] (((s.rd (CLL_Q_TAIL q)).toNat + i) % 256) = sliceAt (es.getD i []) 0 64) ∧
      (t.callQ q).cur = (s.callQ q).cur ∧ RegsBut s t [(CLL_Q_TAIL q).off] ∧ t = { s with regs := t.regs, call := t.call })) ∧
    (Reach s (CLL_Q_TAIL q) → 256 ≤ v.toNat → Runs (.callSubmit q es v) s (fun t =>
      t.rd (CLL_Q_TAIL q) = s.rd (CLL_Q_TAIL q) ∧ (t.rd (CLL_Q_STATUS q)).getLsbD 0 = true ∧ Raised s t 776 0x0B00 0 ∧
      RegsBut s t ((CLL_Q_STATUS q).off :: evRegs 776) ∧ t = { s with regs := t.regs, call := t.call, occ := t.occ })) ∧
    (Reach s (CLL_Q_CFG q) →
      ((s.rd (CLL_Q_CFG q)).getLsbD 0 = false → v.getLsbD 0 = true → Runs (.callQueueEnable q v) s (fun t =>
        t.rd (CLL_Q_CFG q) = v &&& 0xF01 ∧ t.rd (CLL_Q_HEAD q) = 0 ∧ t.rd (CLL_Q_TAIL q) = 0 ∧ t.callQ q = { s.callQ q with stop := false } ∧
        RegsBut s t [(CLL_Q_CFG q).off, (CLL_Q_HEAD q).off, (CLL_Q_TAIL q).off] ∧ t = { s with regs := t.regs, call := t.call })) ∧
      ((s.rd (CLL_Q_CFG q)).getLsbD 0 = true → v.getLsbD 0 = true → exec (.callQueueEnable q v) s = .next s) ∧
      ((s.rd (CLL_Q_CFG q)).getLsbD 0 = true → v.getLsbD 0 = false → (s.callQ q).cur = none → Runs (.callQueueEnable q v) s (fun t =>
        (t.rd (CLL_Q_CFG q)).getLsbD 0 = false ∧ t.rd (CLL_Q_HEAD q) = 0 ∧ t.rd (CLL_Q_TAIL q) = 0 ∧ (t.rd (CLL_Q_STATUS q)).getLsbD 1 = false ∧
        RegsBut s t [(CLL_Q_CFG q).off, (CLL_Q_HEAD q).off, (CLL_Q_TAIL q).off, (CLL_Q_STATUS q).off] ∧ t = { s with regs := t.regs, call := t.call })) ∧
      ((s.rd (CLL_Q_CFG q)).getLsbD 0 = true → v.getLsbD 0 = false → (s.callQ q).cur ≠ none → Runs (.callQueueEnable q v) s (fun t =>
        (t.rd (CLL_Q_CFG q)).getLsbD 0 = false ∧ t.callQ q = { s.callQ q with stop := true } ∧ RegsBut s t [(CLL_Q_CFG q).off] ∧
        t = { s with regs := t.regs, call := t.call })))

/-- Answer queues (R441): enabling starts an empty ring with PHASE 1, EN alone changes while it is enabled and not while an enabled Call queue names the ring, and a HEAD that makes room lets an Answer that waits be written. -/
def Sys2Proof.Claims.AnswerQueuesAreKept : Prop :=
  ∀ (a : Fin 16) (v : Word) (s : State),
    (Reach s (CLL_A_CFG a) →
      ((s.rd (CLL_A_CFG a)).getLsbD 8 = false → v.getLsbD 8 = true → (s.ansQ a).wait = [] → Runs (.answerQueueEnable a v) s (fun t =>
        t.rd (CLL_A_CFG a) = v &&& 0x7FF010F ∧ t.rd (CLL_A_HEAD a) = 0 ∧ t.rd (CLL_A_TAIL a) = 0 ∧ t.ansQ a = ⟨true, []⟩ ∧
        RegsBut s t [(CLL_A_CFG a).off, (CLL_A_HEAD a).off, (CLL_A_TAIL a).off] ∧ t = { s with regs := t.regs, call := t.call })) ∧
      ((s.rd (CLL_A_CFG a)).getLsbD 8 = true → v.getLsbD 8 = true ∨ (∃ q, q < 16 ∧ (s.rd (CLL_Q_CFG q)).getLsbD 0 = true ∧ s.callAq q = a) →
        exec (.answerQueueEnable a v) s = .next s) ∧
      ((s.rd (CLL_A_CFG a)).getLsbD 8 = true → v.getLsbD 8 = false → (∀ q, q < 16 → (s.rd (CLL_Q_CFG q)).getLsbD 0 = true → s.callAq q ≠ a) →
        Runs (.answerQueueEnable a v) s (fun t => (t.rd (CLL_A_CFG a)).getLsbD 8 = false ∧ t.rd (CLL_A_HEAD a) = 0 ∧ t.rd (CLL_A_TAIL a) = 0 ∧
          RegsBut s t [(CLL_A_CFG a).off, (CLL_A_HEAD a).off, (CLL_A_TAIL a).off] ∧ t = { s with regs := t.regs }))) ∧
    (Reach s (CLL_A_HEAD a) → (s.ansQ a).wait = [] → exec (.answerHeadWrite a v) s = .next (s.wr (CLL_A_HEAD a) (v &&& 0xFFF))) ∧
    (∀ e : Answer, Reach s (CLL_A_HEAD a) → (s.ansQ a).wait = [e] → (s.rd (CLL_A_CFG a)).getLsbD 8 = true → (s.callQ e.queue).stop = false →
      ((s.rd (CLL_A_TAIL a)).toNat + 1) % s.ansSize a ≠ (v &&& 0xFFF).toNat % s.ansSize a →
      (s.msixOf (bitsOf (s.rd (CLL_A_CFG a)).toNat 26 16)).masked = false → Runs (.answerHeadWrite a v) s (fun t =>
        t.rd (CLL_A_HEAD a) = v &&& 0xFFF ∧ (t.ansQ a).wait = [] ∧ t.rd (CLL_A_TAIL a) = w32 (((s.rd (CLL_A_TAIL a)).toNat + 1) % s.ansSize a) ∧
        (t.callQ e.queue).cur = none ∧ t.out = s.out ++ [.hostWrite (s.rd64 (CLL_A_BASE_LO a) (CLL_A_BASE_HI a) / 32 * 32 + 32 * (s.rd (CLL_A_TAIL a)).toNat)
          (ansBytes e (s.ansQ a).phase s.ns), .msix (bitsOf (s.rd (CLL_A_CFG a)).toNat 26 16)] ∧
        RegsBut s t [(CLL_A_HEAD a).off, (CLL_A_TAIL a).off, (CLL_Q_STATUS e.queue).off] ∧ t = { s with regs := t.regs, call := t.call, out := t.out }))

/-- NOP, IDENTIFY and unknown opcodes (R442, R444): NOP answers its first argument, IDENTIFY writes the identification words to a buffer of 256 bytes and answers ADDRESS without one, an opcode outside R444 answers BAD_OPCODE; with the ring full the Answer waits,
FULL is set and event 777 raised. -/
def Sys2Proof.Claims.PlainCalls : Prop :=
  ∀ (q : Fin 16) (c : Call) (s : State), CallNext s q c →
    (c.op = 1 → AnswerRoom s q → JustAnswers (.callNop q) s q c 0 (c.arg 0) 0) ∧
    (c.op ∉ callOps → AnswerRoom s q → JustAnswers (.callNop q) s q c 1 0 0) ∧
    (c.op = 2 → AnswerRoom s q → c.addr ≠ 0 → 256 ≤ c.len → Runs (.callIdentify q) s (fun t =>
      Answered s t q c 0 0 0 [.hostWrite c.addr (wordsBytes s.idWords)] ∧ RegsBut s t (callRegs s q) ∧ t = { s with regs := t.regs, call := t.call, out := t.out })) ∧
    (c.op = 2 → AnswerRoom s q → c.addr = 0 ∨ c.len < 256 → JustAnswers (.callIdentify q) s q c 5 0 0) ∧
    (let a := s.callAq q
     c.op = 1 → (s.rd (CLL_A_CFG a)).getLsbD 8 = true → ((s.rd (CLL_A_TAIL a)).toNat + 1) % s.ansSize a = (s.rd (CLL_A_HEAD a)).toNat % s.ansSize a →
      Runs (.callNop q) s (fun t => (t.callQ q).cur = some (c, none) ∧ (t.rd (CLL_Q_STATUS q)).getLsbD 1 = true ∧ (t.rd (CLL_A_STATUS a)).getLsbD 0 = true ∧
        (t.ansQ a).wait = (s.ansQ a).wait ++ [⟨q, c.tag, 0, ((s.rd (CLL_Q_HEAD q)).toNat + 1) % 256, c.arg 0, 0⟩] ∧ Raised s t 777 0x0B00 0 ∧ t.out = s.out))

/-- Calls to the Rig controller (R59, R67, R444): CHECK and COMMIT on an idle controller put the image's place in its registers and wait; bad addresses and lengths are answered; a busy controller's refusal is the Answer; REPAIR waits for the Eight, and ABORT is
answered at once. -/
def Sys2Proof.Claims.RigCalls : Prop :=
  ∀ (q : Fin 16) (c : Call) (s : State), CallNext s q c →
    let started (job : RigJob) (t : State) : Prop := CallWaits s t q c .rig ∧ t.rigState = 1 ∧ t.rig.job = some job ∧ t.rd RIG_IMG_ADDR_LO = w32 (c.arg 0) ∧
      t.rd RIG_IMG_ADDR_HI = w32 (c.arg 0 / 4294967296) ∧ t.rd RIG_IMG_LEN = w32 (c.arg 1) ∧
      RegsBut s t [(CLL_Q_HEAD q).off, (CLL_Q_STATUS q).off, RIG_IMG_ADDR_LO.off, RIG_IMG_ADDR_HI.off, RIG_IMG_LEN.off, RIG_STATUS.off] ∧
      t = { s with regs := t.regs, call := t.call, rig := t.rig }
    (c.op = 0x101 → c.arg 0 % 64 = 0 → c.arg 1 < 4294967296 → c.arg 0 + c.arg 1 ≤ s.g7Open → s.rigState = 0 → s.resetting = false →
      Runs (.callRigCheck q) s (started .check)) ∧
    (c.op = 0x102 → c.arg 0 % 64 = 0 → c.arg 1 < 4294967296 → c.arg 0 + c.arg 1 ≤ s.g7Open → s.rigState = 0 → s.resetting = false → s.rig.everFull = true →
      Runs (.callRigCommit q) s (started .commit)) ∧
    (∀ i, (c.op = 0x101 ∧ i = Instr.callRigCheck q) ∨ (c.op = 0x102 ∧ i = .callRigCommit q) → AnswerRoom s q →
      (c.arg 0 % 64 ≠ 0 → JustAnswers i s q c 2 0 0) ∧
      (c.arg 0 % 64 = 0 → 4294967296 ≤ c.arg 1 → JustAnswers i s q c 2 1 0) ∧
      (c.arg 0 % 64 = 0 → c.arg 1 < 4294967296 → s.g7Open < c.arg 0 + c.arg 1 → JustAnswers i s q c 5 0 0) ∧
      (c.arg 0 % 64 = 0 → c.arg 1 < 4294967296 → c.arg 0 + c.arg 1 ≤ s.g7Open → s.rigState ≠ 0 → Runs i s (fun t =>
        Answered s t q c 3 0x0503 0 [] ∧ Refusal t 0 0x0503 0 0xFFFF1FFF ∧ t.rigState = s.rigState))) ∧
    (c.op = 0x103 → AnswerRoom s q → s.rigState ≠ 3 → JustAnswers (.callRigAbort q) s q c 0 0 0) ∧
    (c.op = 0x103 → s.rigState = 3 → s.rig.job = some .commit → s.rig.everFull = true → s.rig.coxJob = false → NothingWaits s →
      (∀ b, b ∈ s.rig.listed → bidType b ≠ 0x0F) → Runs (.callRigAbort q) s (fun t =>
        Refusal t 8 0x0504 0 0xFFFF1FFF ∧ t.rigState = 0 ∧ t.rig.job = none ∧ t.rig.sections = s.rig.sections)) ∧
    (c.op = 0x104 → AnswerRoom s q → 31 < c.arg 0 → JustAnswers (.callRigRepair q) s q c 2 0 0) ∧
    (c.op = 0x104 → AnswerRoom s q → c.arg 0 ≤ 31 → 7 < c.arg 1 → JustAnswers (.callRigRepair q) s q c 2 1 0) ∧
    (c.op = 0x104 → c.arg 0 < 32 → c.arg 1 < 8 → s.rigBusy = false → s.spareGone (c.arg 0) = false → (∃ l, l < 8 ∧ s.physSeat (c.arg 0) l = c.arg 1) →
      s.running (0x0100 + c.arg 0) = true → s.refusedBlk (0x0100 + c.arg 0) = false → Runs (.callRigRepair q) s (fun t =>
        CallWaits s t q c .rig ∧ t.rigState = 3 ∧ t.rig.job = some .repair ∧ t.rig.repair = (c.arg 0, c.arg 1) ∧
        (t.blkOf (0x0100 + c.arg 0)).holdRig = true ∧ t = { s with regs := t.regs, call := t.call, rig := t.rig, blk := t.blk }))

/-- Calls on the time (R133, R137, R140, R444): TIME_READ answers the snapshot; the servo denies TIME_STEP and TIME_INC; a step that does not fit is bad; an increment is clamped, and TIME_ALIGN writes the registers of MODE 2. -/
def Sys2Proof.Claims.TimeCalls : Prop :=
  ∀ (q : Fin 16) (c : Call) (s : State), CallNext s q c → AnswerRoom s q →
    (c.op = 0x301 → Runs (.callTimeRead q) s (fun t =>
      Answered s t q c 0 (s.ns.toNat + 4294967296 * bitsOf s.frac.toNat 31 24 + 281474976710656 * (s.stk.steps % 65536)) (s.tb1Now.toNat + 4294967296 * s.tb3Now.toNat) [] ∧
      t.rd STK_SNAP_FRAC = s.frac ∧ t.rd STK_SNAP_TB1 = s.tb1Now ∧ t.rd STK_SNAP_TB3 = s.tb3Now ∧ t.rd STK_SNAP_STEPS = w32 s.stk.steps ∧
      RegsBut s t (STK_SNAP_FRAC.off :: STK_SNAP_TB1.off :: STK_SNAP_TB3.off :: STK_SNAP_STEPS.off :: callRegs s q) ∧
      t = { s with regs := t.regs, call := t.call, out := t.out })) ∧
    (c.op = 0x302 → fits32 (c.arg 0) = false → JustAnswers (.callTimeStep q) s q c 2 0 0) ∧
    (c.op = 0x302 → fits32 (c.arg 0) = true → s.servo = true → JustAnswers (.callTimeStep q) s q c 7 0 0) ∧
    (c.op = 0x302 → fits32 (c.arg 0) = true → s.servo = false → (w32 (c.arg 0)).msb = true → Runs (.callTimeStep q) s (fun t =>
      Answered s t q c 0 0 0 [] ∧ t.ns = s.tick.ns + w32 (c.arg 0) ∧ t.frac = s.tick.frac ∧ t.stk.steps = (s.stk.steps + 1) % 65536 ∧ Raised s t 49 0x0E02 0)) ∧
    (c.op = 0x302 → fits32 (c.arg 0) = true → s.servo = false → Runs (.callTimeStep q) s (fun t =>
      t.ns = s.tick.ns + w32 (c.arg 0) ∧ t.frac = s.tick.frac ∧ t.stk.steps = (s.stk.steps + 1) % 65536 ∧ t.g7 = s.g7)) ∧
    (c.op = 0x303 → s.servo = true → JustAnswers (.callTimeInc q) s q c 7 0 0) ∧
    (c.op = 0x303 → s.servo = false → 0xCC985F07 ≤ c.arg 0 → c.arg 0 ≤ 0xCD013A93 → Runs (.callTimeInc q) s (fun t =>
      Answered s t q c 0 (s.fld STK_TB0_STATUS STK_TB0_STATUS_CLAMPED) 0 [] ∧ t.rd STK_TB0_INC = w32 (c.arg 0) ∧ RegsBut s t (STK_TB0_INC.off :: callRegs s q) ∧
      t = { s with regs := t.regs, call := t.call, out := t.out })) ∧
    (c.op = 0x303 → s.servo = false → c.arg 0 < 0xCC985F07 → Runs (.callTimeInc q) s (fun t =>
      Answered s t q c 0 1 0 [] ∧ t.rd STK_TB0_INC = 0xCC985F07 ∧ Raised s t 50 0x0E02 0)) ∧
    (c.op = 0x304 → s.tb1Mode = 0 → Runs (.callTimeAlign q) s (fun t => Answered s t q c 0 0 0 [] ∧
      t.rd STK_TB1_ALIGN = w32 (c.arg 0) ∧ t.rd STK_TB1_PERIOD_NS = w32 (c.arg 1) ∧ t.rd STK_TB1_PERIOD_FRAC = w32 (c.arg 2) &&& 0xFFFF ∧
      t.rd STK_TB1_LINES = w32 (c.arg 3) ∧
      RegsBut s t (STK_TB1_ALIGN.off :: STK_TB1_PERIOD_NS.off :: STK_TB1_PERIOD_FRAC.off :: STK_TB1_LINES.off :: callRegs s q) ∧
      t = { s with regs := t.regs, call := t.call, out := t.out })) ∧
    (c.op = 0x304 → s.tb1Mode = 2 → w32 (c.arg 1) ≠ 0 → reached s.ns (w32 (c.arg 0)) = false → Runs (.callTimeAlign q) s (fun t => Answered s t q c 0 0 0 [] ∧
      t.rd STK_TB1_ALIGN = w32 (c.arg 0) ∧ t.rd STK_TB1_PERIOD_NS = w32 (c.arg 1) ∧ t.rd STK_TB1_PERIOD_FRAC = w32 (c.arg 2) &&& 0xFFFF ∧
      t.rd STK_TB1_LINES = w32 (c.arg 3) ∧ t.stk.tb1.alignWait = true))

/-- Calls on recording (R354 to R357, R444): bad arguments are answered with their index; ARM and DISARM act and are answered; START waits for its apply or is answered with why it failed; STOP of a channel with no clip fails (log entry 80), and one with a clip waits for the seal. -/
def Sys2Proof.Claims.RecordCalls : Prop :=
  ∀ (q : Fin 16) (c : Call) (n : Fin 8) (s : State), CallNext s q c → c.op = 0x401 →
    (AnswerRoom s q → 7 < c.arg 0 → c.arg 1 = 0 → JustAnswers (.callRecArm q) s q c 2 0 0) ∧
    (AnswerRoom s q → c.arg 0 ≤ 7 → 3 < c.arg 1 → JustAnswers (.callRecArm q) s q c 2 1 0) ∧
    (AnswerRoom s q → c.arg 0 = n.val → c.arg 1 = 0 → s.recUp n = true → s.recState n = 0 → Runs (.callRecArm q) s (fun t =>
      Answered s t q c 0 0 0 [] ∧ t.recState n = 1 ∧ t.rd (REC_C_PRE_FRAMES n) = 0 ∧
      RegsBut s t ((REC_C_STATUS n).off :: (REC_C_PRE_FRAMES n).off :: callRegs s q) ∧ t = { s with regs := t.regs, call := t.call, out := t.out })) ∧
    (AnswerRoom s q → c.arg 0 = n.val → c.arg 1 = 1 → s.recState n = 1 → Runs (.callRecDisarm q) s (fun t =>
      Answered s t q c 0 0 0 [] ∧ t.recState n = 0 ∧ (t.recOf n).hold = [] ∧
      RegsBut s t ((REC_C_STATUS n).off :: (REC_C_PRE_FRAMES n).off :: callRegs s q) ∧ t = { s with regs := t.regs, call := t.call, recs := t.recs, out := t.out })) ∧
    (AnswerRoom s q → c.arg 0 = n.val → c.arg 1 = 2 → ¬ (s.recUp n = true ∧ (s.recState n = 0 ∨ s.recState n = 1)) → Runs (.callRecStart q) s (fun t =>
      Answered s t q c 4 5 0 [] ∧ t.fld (REC_C_STATUS n) REC_C_STATUS_START_FAIL = 5 ∧ RegsBut s t ((REC_C_STATUS n).off :: callRegs s q) ∧
      t = { s with regs := t.regs, call := t.call, out := t.out })) ∧
    (c.arg 0 = n.val → c.arg 1 = 2 → s.recUp n = true → s.recState n = 0 ∨ s.recState n = 1 → s.setState (s.recSet n) = 2 → s.dirFree (s.recSet n) ≠ none →
      4096 + footReserve 0 ≤ (s.mediaOf (s.recSet n)).free → ((s.mediaOf (s.recSet n)).findRun 4096) ≠ none → s.bit (REC_C_CFG n) REC_C_CFG_ENCRYPT = false →
      s.fld (REC_C_CFG n) REC_C_CFG_SRC_TYPE = 0 → Runs (.callRecStart q) s (fun t => CallWaits s t q c (.recStart n) ∧ (t.recOf n).start = true ∧
        t.fld (REC_C_STATUS n) REC_C_STATUS_START_FAIL = 0 ∧ t = { s with regs := t.regs, call := t.call, recs := t.recs })) ∧
    (AnswerRoom s q → c.arg 0 = n.val → c.arg 1 = 3 → (s.recOf n).clip = none → s.recState n ≠ 2 → JustAnswers (.callRecStop q) s q c 4 6 0) ∧
    (∀ k, c.arg 0 = n.val → c.arg 1 = 3 → (s.recOf n).clip = some k → s.recState n = 2 → k.cause = 0 → k.wait = [] → k.cks = [] → k.done < k.file.length →
      s.log.pfail = false → Runs (.callRecStop q) s (fun t =>
        CallWaits s t q c (.recSeal n) ∧ t.recState n = 3 ∧ t.fld (REC_C_STATUS n) REC_C_STATUS_CAUSE = 1))

/-- Calls on media sets and on the calibration store (R228, R362, R366, R367, R444): bad indexes are answered; MOUNT, FORMAT and DELETE wait for their work or are answered with why not; DIR_READ writes whole entries to the host; CAL_LOAD gives the store to the Vault. -/
def Sys2Proof.Claims.MediaCalls : Prop :=
  ∀ (q : Fin 16) (c : Call) (m : Fin 4) (s : State), CallNext s q c →
    (AnswerRoom s q → ∀ i, (c.op = 0x402 ∧ i = Instr.callSetMount q) ∨ (c.op = 0x403 ∧ i = .callSetFormat q) ∨ (c.op = 0x404 ∧ i = .callClipDelete q) ∨
      (c.op = 0x405 ∧ i = .callDirRead q) → 3 < c.arg 0 → JustAnswers i s q c 2 0 0) ∧
    (AnswerRoom s q → c.op = 0x402 → c.arg 0 = m.val → (s.rd (REC_M_CFG m)).getLsbD 4 = false ∨ s.setBusy m = true →
      JustAnswers (.callSetMount q) s q c 4 (s.setState m) 0) ∧
    (c.op = 0x402 → c.arg 0 = m.val → (s.rd (REC_M_CFG m)).getLsbD 4 = true → s.setBusy m = false → Runs (.callSetMount q) s (fun t =>
      CallWaits s t q c (.mount m) ∧ t.setState m = 1 ∧ t = { s with regs := t.regs, call := t.call, nv := t.nv, out := t.out })) ∧
    (AnswerRoom s q → c.op = 0x403 → c.arg 0 = m.val → c.arg 1 ≠ 0x5A → JustAnswers (.callSetFormat q) s q c 2 1 0) ∧
    (c.op = 0x403 → c.arg 0 = m.val → c.arg 1 = 0x5A → (s.rd (REC_M_CFG m)).getLsbD 4 = true → s.setBusy m = false → Runs (.callSetFormat q) s (fun t =>
      CallWaits s t q c (.format m) ∧ t.setState m = 0 ∧ t.mediaOf m = { disks := s.setPorts m } ∧
      t = { s with regs := t.regs, call := t.call, nv := t.nv, sets := t.sets, out := t.out })) ∧
    (AnswerRoom s q → c.op = 0x403 → c.arg 0 = m.val → c.arg 1 = 0x5A → (s.rd (REC_M_CFG m)).getLsbD 4 = false → JustAnswers (.callSetFormat q) s q c 4 1 0) ∧
    (AnswerRoom s q → c.op = 0x404 → c.arg 0 = m.val → c.arg 1 ≤ 32767 → s.setState m ≠ 2 → JustAnswers (.callClipDelete q) s q c 4 1 0) ∧
    (c.op = 0x404 → c.arg 0 = m.val → c.arg 1 ≤ 32767 → s.setState m = 2 → (tabGet (s.mediaOf m).dir {} (c.arg 1)).state = 2 ∨ (tabGet (s.mediaOf m).dir {} (c.arg 1)).state = 3 →
      (tabGet (s.mediaOf m).dir {} (c.arg 1)).kind ≠ 2 → Runs (.callClipDelete q) s (fun t => CallWaits s t q c (.delete m (c.arg 1)) ∧
        t.mediaOf m = { s.mediaOf m with jSeq := (s.mediaOf m).jSeq + 1, jBlock := ((s.mediaOf m).jBlock + 1) % 65536 })) ∧
    (AnswerRoom s q → c.op = 0x405 → c.arg 0 = m.val → c.arg 1 ≤ 32767 → c.arg 1 + c.arg 2 ≤ 32768 → c.addr ≠ 0 → 1024 * c.arg 2 ≤ c.len →
      Runs (.callDirRead q) s (fun t =>
        Answered s t q c 0 (c.arg 2) 0 [.hostWrite c.addr ((List.range (c.arg 2)).flatMap (fun i => s.dirCopy m (c.arg 1 + i)))] ∧
        RegsBut s t (callRegs s q) ∧ t = { s with regs := t.regs, call := t.call, out := t.out })) ∧
    (AnswerRoom s q → c.op = 0x405 → c.arg 0 = m.val → c.arg 1 ≤ 32767 → 32768 < c.arg 1 + c.arg 2 → JustAnswers (.callDirRead q) s q c 2 2 0) ∧
    (AnswerRoom s q → c.op = 0x201 → 1 < c.arg 2 → JustAnswers (.callCalLoad q) s q c 2 2 0) ∧
    (AnswerRoom s q → c.op = 0x201 → c.arg 2 ≤ 1 → s.g7Open < c.arg 0 + c.arg 1 → JustAnswers (.callCalLoad q) s q c 5 0 0) ∧
    (c.op = 0x201 → c.arg 2 ≤ 1 → c.arg 0 + c.arg 1 ≤ s.g7Open → Runs (.callCalLoad q) s (fun t =>
      CallWaits s t q c (.cal q) ∧
      t.vault.verify = s.vault.verify ++ [⟨1 + c.arg 2, (List.range (c.arg 1)).map (fun k => s.mem (c.arg 0 + k)), q⟩] ∧
      t = { s with regs := t.regs, call := t.call, vault := t.vault }))

/-- Calls to the Vault (R465, R467): an unknown service code or a buffer too short is bad, a buffer that PCIe cannot read is ADDRESS, each with the approved-service indicator 1; else the request joins the Vault's queue and the Call waits. -/
def Sys2Proof.Claims.VaultCalls : Prop :=
  ∀ (q : Fin 16) (data : List Byte) (err : Bool) (c : Call) (s : State), CallNext s q c → c.op = 0x601 →
    (AnswerRoom s q → c.arg 0 ∉ vaultCodes → JustAnswers (.callVault q data err) s q c 2 0 1) ∧
    (AnswerRoom s q → c.arg 0 ∈ vaultCodes → c.len < c.arg 1 → JustAnswers (.callVault q data err) s q c 2 1 1) ∧
    (AnswerRoom s q → c.arg 0 ∈ vaultCodes → c.arg 1 ≤ c.len → c.arg 1 ≠ 0 → c.addr = 0 ∨ err = true → Runs (.callVault q data err) s (fun t =>
      Answered s t q c 5 0 1 [.hostRead c.addr (c.arg 1)] ∧ RegsBut s t (callRegs s q) ∧ t = { s with regs := t.regs, call := t.call, out := t.out })) ∧
    (c.arg 0 ∈ vaultCodes → c.arg 1 ≤ c.len → c.arg 1 ≠ 0 → c.addr ≠ 0 → err = false → Runs (.callVault q data err) s (fun t =>
      CallWaits s t q c .vault ∧ t.vault.queue = s.vault.queue ++ [⟨q, c.arg 0, sliceAt data 0 (c.arg 1)⟩] ∧ t.vault.verify = s.vault.verify ∧
      t.out = s.out ++ [.hostRead c.addr (c.arg 1)] ∧ t = { s with regs := t.regs, call := t.call, vault := t.vault, out := t.out }))

/-! ### Ethernet -/

/-- Transmit queues (R433, R447, R448): a write of TAIL keeps 12 bits and a frame queued wakes a sleeping port; the frame at HEAD leaves as its descriptor and its owner's memory give it, HEAD advances and is written back; a PTP event message with STAMP has its time queued (R148). -/
def Sys2Proof.Claims.FramesAreSent : Prop :=
  ∀ (p : Fin 8) (k : Fin 4) (v : Word) (desc data : List Byte) (s : State),
    let head := ((s.rd (ETH_Q_HEAD p k)).toNat + 1) % s.ethRing p k
    let wb := s.rd64 (ETH_Q_WB_LO p k) (ETH_Q_WB_HI p k)
    let awake : Prop := (s.rd (ETH_P_STATUS p)).getLsbD 1 = false
    (Reach s (ETH_Q_TAIL p k) → awake → exec (.ethTxTailWrite p k v) s = .next (s.wr (ETH_Q_TAIL p k) (v &&& 0xFFF))) ∧
    (Reach s (ETH_Q_TAIL p k) → ¬ awake → (s.rd (ETH_Q_CFG p k)).getLsbD 8 = true → s.rd (ETH_Q_HEAD p k) ≠ v &&& 0xFFF → Runs (.ethTxTailWrite p k v) s (fun t =>
      t.rd (ETH_Q_TAIL p k) = v &&& 0xFFF ∧ (t.rd (ETH_P_STATUS p)).getLsbD 1 = false ∧ (t.rd (LND_Q_STATUS (s.ethQuad p))).getLsbD (8 + p.val % 4) = false ∧
      RegsBut s t [(ETH_Q_TAIL p k).off, (ETH_P_STATUS p).off, (LND_Q_STATUS (s.ethQuad p)).off] ∧ t = { s with regs := t.regs })) ∧
    (s.ethUp p = false ∨ s.ethReady p k = false → exec (.ethTxFrameSent p k desc data) s = .next s) ∧
    (s.ethUp p = true → s.ethReady p k = true → awake →
      (s.ethHost p k = true → leAt desc 10 2 = 0 → Runs (.ethTxFrameSent p k desc data) s (fun t =>
        t.out = s.out ++ [.packet p (sliceAt data 0 (leAt desc 8 2)), .hostWrite wb (wordBytes (w32 head))] ∧ t.rd (ETH_Q_HEAD p k) = w32 head ∧
        RegsBut s t [(ETH_Q_HEAD p k).off] ∧ t = { s with regs := t.regs, out := t.out })) ∧
      (s.ethHost p k = true → leAt desc 10 2 = 1 → (s.rd (PTP_P_CTRL p)).getLsbD 1 = true → ptpEvent (sliceAt data 0 (leAt desc 8 2)) = true →
        (s.ptpQ p).length < 64 → Runs (.ethTxFrameSent p k desc data) s (fun t =>
          t.ptpQ p = s.ptpQ p ++ [⟨leAt desc 12 2, (s.stampNow (sext 32 (s.rd (PTP_P_TX_COMP p)).toNat)).1, (s.stampNow (sext 32 (s.rd (PTP_P_TX_COMP p)).toNat)).2⟩] ∧
          t.out = s.out ++ [.packet p (sliceAt data 0 (leAt desc 8 2)), .hostWrite wb (wordBytes (w32 head))] ∧ t.rd (ETH_Q_HEAD p k) = w32 head)) ∧
      (let d := (List.range 16).map (fun i => s.mem (s.rd64 (ETH_Q_BASE_LO p k) (ETH_Q_BASE_HI p k) + 16 * (s.rd (ETH_Q_HEAD p k)).toNat + i))
       s.ethHost p k = false → leAt d 10 2 = 0 → Runs (.ethTxFrameSent p k desc data) s (fun t =>
        t.out = s.out ++ [.packet p ((List.range (leAt d 8 2)).map (fun i => s.mem (leAt d 0 8 + i)))] ∧ t.rd (ETH_Q_HEAD p k) = w32 head ∧
        (∀ a, t.mem a = if wb ≤ a ∧ a < wb + 4 then (wordBytes (w32 head)).getD (a - wb) 0 else s.mem a) ∧
        RegsBut s t [(ETH_Q_HEAD p k).off] ∧ t = { s with regs := t.regs, g7 := t.g7, out := t.out })))

/-- Received frames (R446, R448): none on a port that is down; a bad FCS counts; pause frames and lengths outside 60 to 9,212 are dropped; the first matching filter entry steers a frame, and one without takes queue 4 if it is the port's own unicast; without a buffer,
or with one too short, it counts and event 818 is raised; else the buffer takes the frame without its tag and a completion names its length, filter entry and PHASE. -/
def Sys2Proof.Claims.FramesAreReceived : Prop :=
  ∀ (p : Fin 8) (f : List Byte) (fcs : Bool) (buf : BitVec 64) (s : State),
    let i := Instr.ethRxFrame p f fcs buf
    let sound : Prop := s.ethMode p ≠ 0 ∧ s.ethUp p = true ∧ fcs = true ∧ 60 ≤ f.length ∧ f.length ≤ 9212 ∧ frType f ≠ 0x8808
    let own : Prop := s.filterOf p f = none ∧ f.take 6 = s.ethMac p ∧ beAt f 0 1 % 2 = 0
    (s.ethMode p = 0 ∨ s.ethUp p = false → exec i s = .next s) ∧
    (s.ethMode p ≠ 0 → s.ethUp p = true → fcs = false → exec i s = .next (s.inc (ETH_P_FCS_ERR p))) ∧
    (s.ethMode p ≠ 0 → s.ethUp p = true → fcs = true → f.length < 60 ∨ 9212 < f.length ∨ (frType f = 0x8808 ∧ beAt f (frL3 f) 2 = 1) → exec i s = .next s) ∧
    (sound → s.filterOf p f = none → ¬ (f.take 6 = s.ethMac p ∧ beAt f 0 1 % 2 = 0) → exec i s = .next s) ∧
    (∀ j, sound → s.filterOf p f = some j → 2 ≤ bitsOf (s.rd (ETH_F_CTRL p j)).toNat 9 8 → exec i s = .next s) ∧
    (∀ q fl, sound → (own ∧ q = 4 ∧ fl = 0xFFFF) ∨ (∃ j, s.filterOf p f = some j ∧ fl = j ∧ bitsOf (s.rd (ETH_F_CTRL p j)).toNat 9 8 = 0 ∧
        q = bitsOf (s.rd (ETH_F_CTRL p j)).toNat 18 16 ∧ 4 ≤ q) →
      let dropped (r : Reg) : Prop := Runs i s (fun t => t.rd r = satAdd (s.rd r) 1 ∧ ((818, p.val) ∉ s.roundFlags → Raised s t 818 (s.ethBid p) 0) ∧
        ((818, p.val) ∈ s.roundFlags → t.occ = s.occ) ∧ RegsBut s t (r.off :: evRegs 818) ∧ SameMem s t ∧ t.out = s.out)
      let h := (s.rd (ETH_Q_HEAD p q)).toNat
      (s.ethReady p q = false → dropped (ETH_P_RX_DROP p)) ∧
      (s.ethReady p q = true → bitsOf (s.rd (ETH_Q_CFG p q)).toNat 13 10 * 1024 < (dropTag f).length → dropped (ETH_P_RX_LONG p)) ∧
      (s.ethReady p q = true → (dropTag f).length ≤ bitsOf (s.rd (ETH_Q_CFG p q)).toNat 13 10 * 1024 → s.ethHost p q = true → Runs i s (fun t =>
        (∃ c, t.out = s.out ++ [.hostWrite buf.toNat (dropTag f), .hostWrite (s.rd64 (ETH_Q_WB_LO p q) (ETH_Q_WB_HI p q) + 16 * h) c] ∧ c.length = 16 ∧
          leAt c 0 2 = (dropTag f).length ∧ leAt c 2 2 / 32768 = b2n (tabGet s.lnd.phase true (8 * p.val + q)) ∧
          leAt c 2 2 / 4 % 2 = b2n (frTagged f) ∧ leAt c 6 2 = fl) ∧
        tabGet t.lnd.phase true (8 * p.val + q) = (if h + 1 = s.ethRing p q then !(tabGet s.lnd.phase true (8 * p.val + q)) else tabGet s.lnd.phase true (8 * p.val + q)) ∧
        t.rd (ETH_Q_HEAD p q) = w32 ((h + 1) % s.ethRing p q) ∧ RegsBut s t [(ETH_Q_HEAD p q).off] ∧ t = { s with regs := t.regs, lnd := t.lnd, out := t.out })))

/-- Receive streams (R452): a packet that is late or held already counts as a duplicate; one ahead of its turn is held; the one expected next is taken; the window's end passes the missing number, marks the unit, counts and raises event 821; a path silent for 10 ms shows it and raises
event 820. -/
def Sys2Proof.Claims.StreamsAreReceived : Prop :=
  ∀ (p : Fin 8) (r : Fin 4) (f d : List Byte) (fcs : Bool) (buf : BitVec 64) (j seq e : Nat) (ts : Word) (m : Bool) (s : State),
    let c := (s.rd (ETH_R_CFG r)).toNat
    let x := s.recvOf r
    let k : RtpPkt := ⟨seq, ts, m, d⟩
    let steered : Prop := s.ethMode p ≠ 0 ∧ s.ethUp p = true ∧ fcs = true ∧ 60 ≤ f.length ∧ f.length ≤ 9212 ∧ frType f ≠ 0x8808 ∧ s.filterOf p f = some j ∧
      bitsOf (s.rd (ETH_F_CTRL p j)).toNat 9 8 = 1 ∧ bitsOf (s.rd (ETH_F_CTRL p j)).toNat 18 16 = r ∧ c % 2 = 1 ∧ bitsOf c 6 4 = p ∧
      rtpParse (frUdpData f) = some (seq, ts, m, d) ∧ x.next = some e
    let seen (t : State) : Prop := (t.rd (ETH_R_STATUS r)).getLsbD 0 = true
    (steered → 32768 ≤ (seq + 65536 - e) % 65536 ∨ (∃ h, h ∈ x.held ∧ h.seq = seq) → Runs (.ethRxFrame p f fcs buf) s (fun t =>
      t.rd (ETH_R_DUP_CNT r) = satAdd (s.rd (ETH_R_DUP_CNT r)) 1 ∧ seen t ∧ RegsBut s t [(ETH_R_DUP_CNT r).off, (ETH_R_STATUS r).off] ∧ t = { s with regs := t.regs })) ∧
    (steered → 0 < (seq + 65536 - e) % 65536 → (seq + 65536 - e) % 65536 < 32768 → (∀ h, h ∈ x.held → h.seq ≠ seq) → Runs (.ethRxFrame p f fcs buf) s (fun t =>
      t.recvOf r = { x with held := x.held ++ [k] } ∧ (∀ n, n ≠ r.val → t.recvOf n = s.recvOf n) ∧ seen t ∧ RegsBut s t [(ETH_R_STATUS r).off] ∧
      t = { s with regs := t.regs, lnd := t.lnd })) ∧
    (steered → (seq + 65536 - e) % 65536 = 0 → x.held = [] → x.opened = false ∨ x.ts = ts → m = false → Runs (.ethRxFrame p f fcs buf) s (fun t =>
      t.recvOf r = { ({ x with opened := true, ts := ts }.take d) with next := some ((seq + 1) % 65536) } ∧ seen t ∧ RegsBut s t [(ETH_R_STATUS r).off] ∧
      t = { s with regs := t.regs, lnd := t.lnd })) ∧
    (x.next = none ∨ x.held = [] → exec (.rtpWindowExpire r) s = .next s) ∧
    (∀ h, x.next = some e → x.held = [h] → h.seq ≠ (e + 1) % 65536 → (821, r.val) ∉ s.roundFlags → Runs (.rtpWindowExpire r) s (fun t =>
      t.recvOf r = { x with next := some ((e + 1) % 65536), bad := true, frag := none } ∧ t.rd (ETH_R_GAP_CNT r) = satAdd (s.rd (ETH_R_GAP_CNT r)) 1 ∧
      Raised s t 821 (s.ethBid (bitsOf c 6 4)) 0 ∧ RegsBut s t ((ETH_R_GAP_CNT r).off :: evRegs 821) ∧
      t = { s with regs := t.regs, lnd := t.lnd, occ := t.occ, roundFlags := (821, r.val) :: s.roundFlags })) ∧
    (∀ h, x.next = some e → x.held = [h] → h.seq = (e + 1) % 65536 → x.opened = true → x.ts = h.ts → h.marker = false → Runs (.rtpWindowExpire r) s (fun t =>
      (t.recvOf r).next = some ((h.seq + 1) % 65536) ∧ (t.recvOf r).held = [] ∧ t.rd (ETH_R_GAP_CNT r) = satAdd (s.rd (ETH_R_GAP_CNT r)) 1)) ∧
    (∀ b : Bool, c % 2 = 0 ∨ (s.rd (ETH_R_STATUS r)).getLsbD (b2n b) = false → exec (.rtpPathSilent r b) s = .next s) ∧
    (∀ b : Bool, c % 2 = 1 → (s.rd (ETH_R_STATUS r)).getLsbD (b2n b) = true → Runs (.rtpPathSilent r b) s (fun t =>
      (t.rd (ETH_R_STATUS r)).getLsbD (b2n b) = false ∧ Raised s t 820 (s.ethBid (if b then bitsOf c 10 8 else bitsOf c 6 4)) 0 ∧
      RegsBut s t ((ETH_R_STATUS r).off :: evRegs 820) ∧ t = { s with regs := t.regs, occ := t.occ }))

/-- Send streams (R450, R451): nothing leaves a stream that is off, or a video or ancillary stream with no frame to send; a video packet carries one SRD of its line and the frame's timestamp, with the marker on the last; an ancillary packet ends its frame; a path that is down drops
its copy and counts; audio waits for its samples. -/
def Sys2Proof.Claims.StreamsAreSent : Prop :=
  ∀ (n : Fin 32) (s : State),
    let c := (s.rd (ETH_S_CFG n)).toNat
    let x := s.sendOf n
    let p := bitsOf c 6 4
    let seq := (Config.rtpSeq0 n + x.seq) % 4294967296
    let hdr := wordsBytes ((List.range 12).map (fun i => s.rd (ETH_S_HDR_A n i)))
    let onePath : Prop := c % 2 = 1 ∧ bitsOf c 11 11 = 0 ∧ s.ethUp p = true ∧ (s.rd (ETH_P_STATUS p)).getLsbD 1 = false
    (c % 2 = 0 ∨ ((s.sendType n = 0 ∨ s.sendType n = 2) ∧ x.sending = false) → exec (.ethSendPacket n) s = .next s) ∧
    (∀ b, onePath → s.sendType n = 0 → x.sending = true → x.cur = some b →
      let g := s.sendSurface n b
      let per := max 1 (s.sendBytes n / (pgroup g.fmt g.depth).2) * (pgroup g.fmt g.depth).1
      let line := ceilDiv g.w per
      let last := x.idx + 1 == line * g.h
      Runs (.ethSendPacket n) s (fun t =>
        (∃ pay, t.out = s.out ++ [.packet p (udpFrame hdr (s.ethMac p) (Config.ipFree s.freeCtr)
            (rtpHeader last (96 + bitsOf c 28 24) seq x.ts (s.rd (ETH_S_SSRC n)) ++ beBytes 2 (seq / 65536) ++ pay))] ∧
          beAt pay 2 2 = x.idx / max 1 line % 65536 ∧ beAt pay 4 2 = x.idx % max 1 line * per % 65536) ∧
        t.sendOf n = { x with seq := (x.seq + 1) % 4294967296, idx := x.idx + 1, sending := !last } ∧ (∀ k, k ≠ n.val → t.sendOf k = s.sendOf k) ∧
        t.rd (ETH_S_PKTS n) = s.rd (ETH_S_PKTS n) + 1 ∧ RegsBut s t [(ETH_S_PKTS n).off] ∧
        t = { s with regs := t.regs, lnd := t.lnd, out := t.out, freeCtr := s.freeCtr + 1 })) ∧
    (onePath → s.sendType n = 2 → x.sending = true → Runs (.ethSendPacket n) s (fun t =>
      t.out = s.out ++ [.packet p (udpFrame hdr (s.ethMac p) (Config.ipFree s.freeCtr) (rtpHeader true (96 + bitsOf c 28 24) seq x.ts (s.rd (ETH_S_SSRC n)) ++
        Config.ancPayload (s.rd (SCN_TC (s.sendInst n % 4))) (s.scnId (s.sendInst n % 4))))] ∧
      t.sendOf n = { x with seq := (x.seq + 1) % 4294967296, sending := false } ∧ t.rd (ETH_S_PKTS n) = s.rd (ETH_S_PKTS n) + 1 ∧
      RegsBut s t [(ETH_S_PKTS n).off] ∧ t = { s with regs := t.regs, lnd := t.lnd, out := t.out, freeCtr := s.freeCtr + 1 })) ∧
    (c % 2 = 1 → bitsOf c 11 11 = 0 → s.ethUp p = false → s.sendType n = 2 → x.sending = true → Runs (.ethSendPacket n) s (fun t =>
      t.rd (ETH_S_PATH_DROP n) = satAdd (s.rd (ETH_S_PATH_DROP n)) 1 ∧ t.sendOf n = { x with seq := (x.seq + 1) % 4294967296, sending := false } ∧
      RegsBut s t [(ETH_S_PKTS n).off, (ETH_S_PATH_DROP n).off] ∧ t = { s with regs := t.regs, lnd := t.lnd })) ∧
    (let slots := (List.range 16).filter (fun i => (s.rd (ETH_S_FMT n)).getLsbD (16 + i))
     let a := s.sendInst n % 16
     s.sendType n = 1 → audPacking slots.length (s.audFs a) (s.sendBytes n) = none ∨ s.rd (AUD_D_WP a 0) = 0 → exec (.ethSendPacket n) s = .next s)

/-! ### The Botos Vault -/

namespace Sys2Proof.Claims
open Sys2Proof.Machine

/-- The Vault serves this request of the mailbox next; `rest` waits behind it. -/
def AtVault (s : State) (code : Nat) (r : VReq) (rest : List VReq) : Prop :=
  s.vault.turn = some false ∧ s.vault.queue = r :: rest ∧ r.code = code ∧ r.path = 16

/-- The request has its response in the mailbox (R467): BUSY is clear, status, length, bytes and a failure's cause stand there; the Vault has the state `v`, and takes up a verification first, else what waits. No register outside the Vault's span
changes but those of the listed events. -/
def Served (s t : State) (rest : List VReq) (v : Vault) (status cause : Nat) (resp : List Byte) (evs : List Nat) : Prop :=
  t.vault = { v with queue := rest, turn := if s.vault.verify ≠ [] then some true else if rest ≠ [] then some false else none } ∧
  (t.rd VLT_MB_CTRL).getLsbD 1 = false ∧ bitsOf (t.rd VLT_MB_CTRL).toNat 15 8 = status ∧ (status = 4 → bitsOf (t.rd VLT_MB_CTRL).toNat 23 16 = cause) ∧
  t.rd VLT_MB_RESP = w32 resp.length ∧ t.mbBytes resp.length = resp ∧
  (∀ o, o < 0x500000 ∨ 0x50C000 ≤ o → o ∉ evs → tabGet? t.regs o = tabGet? s.regs o)

/-- The service runs as its response and the Vault's state alone. -/
def JustServes (i : Instr) (s : State) (rest : List VReq) (v : Vault) (status cause : Nat) (resp : List Byte) : Prop :=
  Runs i s (fun t => Served s t rest v status cause resp [] ∧ t = { s with regs := t.regs, vault := t.vault, freeCtr := t.freeCtr })

end Sys2Proof.Claims

/-- The mailbox (R467): GO submits the request of VLT_MB_LEN bytes and sets BUSY; a GO while BUSY, or a write without GO, only keeps SERVICE; 0x3F takes the code from byte 0; a code that no service has is BAD_OPCODE. -/
def Sys2Proof.Claims.MailboxTakesRequests : Prop :=
  ∀ (v : Word) (s : State), Reach s VLT_MB_CTRL →
    let k := bitsOf v.toNat 7 2
    let b := s.mbBytes (s.rd VLT_MB_LEN).toNat
    let asks (r : VReq) : Prop := Runs (.vaultMbGo v) s (fun t => t.vault.queue = s.vault.queue ++ [r] ∧ t.vault.verify = s.vault.verify ∧
      (t.rd VLT_MB_CTRL).getLsbD 1 = true ∧ t = { s with regs := t.regs, vault := t.vault })
    (v.getLsbD 0 = false ∨ (s.rd VLT_MB_CTRL).getLsbD 1 = true → exec (.vaultMbGo v) s = .next (s.setFld VLT_MB_CTRL ⟨7, 2⟩ k)) ∧
    (v.getLsbD 0 = true → (s.rd VLT_MB_CTRL).getLsbD 1 = false →
      (k ≠ 0x3F → k ∈ vaultCodes → asks ⟨16, k, b⟩) ∧
      (k = 0x3F → 0x40 ≤ leAt b 0 1 → leAt b 0 1 ∈ vaultCodes → asks ⟨16, leAt b 0 1, b.drop 1⟩) ∧
      ((k ≠ 0x3F ∧ k ∉ vaultCodes) ∨ (k = 0x3F ∧ (leAt b 0 1 < 0x40 ∨ leAt b 0 1 ∉ vaultCodes)) → Runs (.vaultMbGo v) s (fun t =>
        (t.rd VLT_MB_CTRL).getLsbD 1 = false ∧ bitsOf (t.rd VLT_MB_CTRL).toNat 15 8 = 1 ∧ t.rd VLT_MB_RESP = 0 ∧
        RegsBut s t [VLT_MB_CTRL.off, VLT_MB_RESP.off] ∧ t = { s with regs := t.regs, freeCtr := t.freeCtr })))

/-- Roles and Hold (R466, R467, R470): a service without its role is DENIED and does nothing; a User's services are a CO's too; in Hold QUOTE, RANDOM, MEDIA_KEY_IMPORT and ROLLBACK_ADVANCE are REFUSED with 0x0305; a command that is not the request in progress does nothing. -/
def Sys2Proof.Claims.RolesAndHold : Prop :=
  ∀ (k : SigCheck) (s : State) (r : VReq) (rest : List VReq),
    (∀ code i, (code, i) ∈ [(0x50, Instr.holdClear), (0x20, .mediaKeyImport), (0x21, .mediaKeyDelete), (0x30, .rollbackAdvance), (0x31, .rtcSet), (0x40, .zeroise)] →
      AtVault s code r rest → s.pathRole 16 ≠ 1 → JustServes i s rest s.vault 7 0 []) ∧
    (∀ code i, (code, i) ∈ [(0x12, Instr.random), (0x22, .mediaKeyList)] → AtVault s code r rest → s.pathRole 16 ≠ 1 → s.pathRole 16 ≠ 2 →
      JustServes i s rest s.vault 7 0 []) ∧
    (AtVault s 0x10 r rest → s.vault.pflags / 8 % 2 = 0 → s.pathRole 16 ≠ 1 → s.pathRole 16 ≠ 2 → JustServes .quote s rest s.vault 7 0 []) ∧
    (∀ code i, (code, i) ∈ [(0x10, Instr.quote), (0x12, .random), (0x20, .mediaKeyImport), (0x30, .rollbackAdvance)] → AtVault s code r rest → s.pathRole 16 = 1 →
      s.vault.hold = true → JustServes i s rest s.vault 3 0x0305 []) ∧
    (∀ code i, (code, i) ∈ [(0x01, Instr.vaultStatus), (0x02, .vaultSelftest true), (0x03, .authChallenge), (0x04, .authResponse true), (0x05, .logout), (0x10, .quote),
        (0x11, .getCerts), (0x12, .random), (0x20, .mediaKeyImport), (0x21, .mediaKeyDelete), (0x22, .mediaKeyList), (0x30, .rollbackAdvance), (0x31, .rtcSet),
        (0x40, .zeroise), (0x41, .recoveryLoad k 0 []), (0x50, .holdClear)] →
      (s.vault.turn ≠ some false ∨ s.vault.queue = [] ∨ (s.vault.queue = r :: rest ∧ r.code ≠ code)) → exec i s = .next s)

/-- Services without a role (R456, R460, R466, R467): STATUS, SELFTEST with what it clears or sets in Hold, AUTH_CHALLENGE from the DRBG or in Hold from the count, AUTH_RESPONSE, LOGOUT and GET_CERTS. The challenge out of Hold and which keys are a role's are free values. -/
def Sys2Proof.Claims.OpenServices : Prop :=
  ∀ (s : State) (r : VReq) (rest : List VReq), let v := s.vault
    (AtVault s 0x01 r rest → JustServes .vaultStatus s rest v 0 0
      (wordBytes (s.rd VLT_STATUS) ++ wordBytes (s.rd VLT_HOLD_CAUSE) ++ leBytes 4 v.lifecycle ++ leBytes 4 v.keys.length)) ∧
    (AtVault s 0x02 r rest → Runs (.vaultSelftest true) s (fun t => Served s t rest { v with cause := t.vault.cause } 0 0 [] [] ∧
      (∀ b, bitsOf t.vault.cause b b = if b = 1 ∨ b = 2 then 0 else bitsOf v.cause b b) ∧ t = { s with regs := t.regs, vault := t.vault, freeCtr := t.freeCtr })) ∧
    (AtVault s 0x02 r rest → bitsOf v.cause 2 2 = 0 → Runs (.vaultSelftest false) s (fun t =>
      Served s t rest { v with hold := true, cause := v.cause + 4 } 4 1 [] (evRegs 992 ++ evRegs 999) ∧
      t.rd (EVT_R_CNT 992) = satAdd (s.rd (EVT_R_CNT 992)) 1 ∧ t.rd (EVT_R_CNT 999) = satAdd (s.rd (EVT_R_CNT 999)) 1 ∧ t.rd (EVT_R_LAST 992) = 2 ∧
      t = { s with regs := t.regs, vault := t.vault, occ := t.occ })) ∧
    (AtVault s 0x03 r rest → v.hold = false → let c := (List.range 32).map (Config.freeByte s.freeCtr)
      Runs .authChallenge s (fun t => Served s t rest { v with chal := tabSet v.chal [] 16 c, chalCount := v.chalCount + 1 } 0 0 c [] ∧
        t = { s with regs := t.regs, vault := t.vault, freeCtr := t.freeCtr })) ∧
    (AtVault s 0x03 r rest → v.hold = true → Runs .authChallenge s (fun t => (tabGet t.vault.chal [] 16) =
        (sha384 (leBytes 8 v.chalCount ++ sliceAt v.serial 0 16 ++ wordBytes (s.rd LOG_PCYCLES))).take 32 ∧ t.vault.chalCount = v.chalCount + 1 ∧
        (t.rd VLT_MB_CTRL).getLsbD 1 = false ∧ t = { s with regs := t.regs, vault := t.vault, freeCtr := t.freeCtr })) ∧
    (AtVault s 0x04 r rest → r.data.length = 5455 → ∀ sigs : Bool, Runs (.authResponse sigs) s (fun t =>
      let d := { v with chal := tabDel v.chal 16 }
      let failed : Prop := Served s t rest (if v.locked then d else { d with fails := v.fails + 1, locked := decide (8 ≤ v.fails + 1) }) 4 6 [] (evRegs 996) ∧
        t.rd VLT_AUTH_FAIL_CNT = satAdd (s.rd VLT_AUTH_FAIL_CNT) 1 ∧ Raised s t 996 0x0E06 0
      (v.locked = true ∨ sigs = false ∨ tabGet v.chal [] 16 = [] ∨ Config.authRole (r.data.headD 0) = none → failed) ∧
      (∀ co, Config.authRole (r.data.headD 0) = some co →
        (s.roleKey co (sha384 (sliceAt r.data 1 2049)) = false → failed) ∧
        (v.locked = false → sigs = true → tabGet v.chal [] 16 ≠ [] → s.roleKey co (sha384 (sliceAt r.data 1 2049)) = true →
          Served s t rest { d with fails := 0, sess := tabSet v.sess none 16 (some (if co then 1 else 2, s.ticks)) } 0 0 [] [])))) ∧
    (AtVault s 0x05 r rest → JustServes .logout s rest { v with sess := tabDel v.sess 16 } 0 0 []) ∧
    (AtVault s 0x11 r rest → v.certs.length < 16384 → JustServes .getCerts s rest v 0 0 v.certs)

/-- Services of a User (R454, R460, R461): QUOTE answers its body and two signatures, RANDOM that many bytes, both from free values, and MEDIA_KEY_LIST the IDs in use. -/
def Sys2Proof.Claims.UserServices : Prop :=
  ∀ (s : State) (r : VReq) (rest : List VReq), let v := s.vault
    s.pathRole 16 = 1 ∨ s.pathRole 16 = 2 →
    (AtVault s 0x10 r rest → v.hold = false → r.data.length = 32 → (s.quoteBody 0 r.data).length = 256 → Runs .quote s (fun t =>
      Served s t rest v 0 0 (s.quoteBody 0 r.data ++ (List.range 3405).map (Config.freeByte s.freeCtr)) [] ∧
      t = { s with regs := t.regs, vault := t.vault, freeCtr := t.freeCtr })) ∧
    (AtVault s 0x10 r rest → v.hold = false → r.data.length ≠ 32 → JustServes .quote s rest v 2 1 []) ∧
    (AtVault s 0x12 r rest → v.hold = false → 1 ≤ leNat r.data → leNat r.data ≤ 4096 → Runs .random s (fun t =>
      Served s t rest v 0 0 ((List.range (leNat r.data)).map (Config.freeByte s.freeCtr)) [] ∧
      t = { s with regs := t.regs, vault := t.vault, freeCtr := t.freeCtr })) ∧
    (AtVault s 0x12 r rest → v.hold = false → leNat r.data = 0 ∨ 4096 < leNat r.data → JustServes .random s rest v 2 1 []) ∧
    (AtVault s 0x22 r rest → v.keys.length ≤ 64 → JustServes .mediaKeyList s rest v 0 0 (v.keys.flatMap (fun k => leBytes 4 k.1)))

/-- Services of a CO (R457, R461, R467, R469, R471): HOLD_CLEAR, key import and deletion, ROLLBACK_ADVANCE within its bounds, RTC_SET, and ZEROISE with its confirm word. -/
def Sys2Proof.Claims.OfficerServices : Prop :=
  ∀ (s : State) (r : VReq) (rest : List VReq), let v := s.vault
    let id := leAt r.data 0 4
    s.pathRole 16 = 1 →
    (AtVault s 0x50 r rest → v.cause ≠ 0 → JustServes .holdClear s rest v 4 9 []) ∧
    (AtVault s 0x50 r rest → v.cause = 0 → v.hold = true → Runs .holdClear s (fun t => Served s t rest { v with hold := false } 0 0 [] (evRegs 993) ∧
      Raised s t 993 0x0E06 0 ∧ t = { s with regs := t.regs, vault := t.vault, occ := t.occ, freeCtr := t.freeCtr })) ∧
    (AtVault s 0x20 r rest → v.hold = false →
      (r.data.length ≠ 141 ∨ id = 0 → JustServes .mediaKeyImport s rest v 2 1 []) ∧
      (r.data.length = 141 → id ≠ 0 → (∃ k, k ∈ v.keys ∧ k.1 = id) → JustServes .mediaKeyImport s rest v 4 3 []) ∧
      (r.data.length = 141 → id ≠ 0 → (∀ k, k ∈ v.keys → k.1 ≠ id) → 64 ≤ v.keys.length → JustServes .mediaKeyImport s rest v 4 4 []) ∧
      (r.data.length = 141 → id ≠ 0 → (∀ k, k ∈ v.keys → k.1 ≠ id) → v.keys.length < 64 → Runs .mediaKeyImport s (fun t =>
        match aesUnwrap (s.importKek (sliceAt r.data 4 97) id) (sliceAt r.data 101 40) with
        | some k => Served s t rest { v with keys := v.keys ++ [(id, k)], gen := v.gen + 1, storeOk := true } 0 0 [] (evRegs 998) ∧ Raised s t 998 0x0E06 0
        | none => Served s t rest v 4 5 [] [] ∧ t.occ = s.occ))) ∧
    (AtVault s 0x21 r rest → r.data.length = 4 → (∃ k, k ∈ v.keys ∧ k.1 = id) →
      JustServes .mediaKeyDelete s rest { v with keys := v.keys.filter (fun k => k.1 != id), gen := v.gen + 1 } 0 0 []) ∧
    (AtVault s 0x21 r rest → r.data.length = 4 → (∀ k, k ∈ v.keys → k.1 ≠ id) → JustServes .mediaKeyDelete s rest v 4 7 []) ∧
    (AtVault s 0x30 r rest → v.hold = false → r.data.length = 3 →
      let cls := leAt r.data 0 1
      let n := leAt r.data 1 2
      (2 < cls → JustServes .rollbackAdvance s rest v 2 1 []) ∧
      (∀ now cap w, (cls, now, cap, w) ∈ [(0, v.rbRig, v.rigIn, { v with rbRig := n }), (1, v.rbCal, v.calIn, { v with rbCal := n }), (2, v.rbFw, v.fwIn, { v with rbFw := n })] →
        (n < now ∨ 1024 < n ∨ cap < n → JustServes .rollbackAdvance s rest v 4 2 []) ∧
        (now < n → n ≤ 1024 → n ≤ cap → Runs .rollbackAdvance s (fun t => Served s t rest w 0 0 [] (evRegs 997) ∧ Raised s t 997 0x0E06 0)))) ∧
    (AtVault s 0x31 r rest → r.data.length = 8 → Runs .rtcSet s (fun t =>
      Served s t rest { v with rtcSec := leNat r.data, rtcTick := s.ticks, rtcValid := true } 0 0 [] (evRegs 1000) ∧ Raised s t 1000 0x0E06 0 ∧
      t = { s with regs := t.regs, vault := t.vault, occ := t.occ, freeCtr := t.freeCtr })) ∧
    (AtVault s 0x40 r rest → r.data.length ≠ 4 ∨ leNat r.data ≠ 0x5A5AC396 → JustServes .zeroise s rest v 2 1 []) ∧
    (AtVault s 0x40 r rest → r.data.length = 4 → leNat r.data = 0x5A5AC396 → v.burnt = false → (∀ c, c < 8 → s.recKeyed c = false) → Runs .zeroise s (fun t =>
      t.vault.life = 128 ∧ t.vault.burnt = true ∧ t.vault.keys = [] ∧ t.vault.sess = [] ∧ t.vault.hold = true ∧ bitsOf t.vault.cause 4 4 = 1 ∧
      t.vault.rbRig = v.rbRig ∧ t.vault.rbCal = v.rbCal ∧ t.vault.rbFw = v.rbFw ∧ (∀ d, d < 4 → (t.decOf d).key = none) ∧
      t.rd (EVT_R_CNT 995) = satAdd (s.rd (EVT_R_CNT 995)) 1 ∧ bitsOf (t.rd VLT_MB_CTRL).toNat 15 8 = 0 ∧
      t = { s with regs := t.regs, vault := t.vault, dec := t.dec, occ := t.occ, freeCtr := t.freeCtr }))

/-- What happens to the Vault (R466, R469, R471, R472): health-test and self-test failures set Hold and its cause with event 992; a session's silence ends it, and the lockout's end clears the count; an enabled tamper source latches with event 994 and zeroises, or awaits power-up;
a low VBAT clears RTC_VALID alone. -/
def Sys2Proof.Claims.VaultWatches : Prop :=
  ∀ s : State, let v := s.vault
    (bitsOf v.cause 1 1 = 0 → Runs .entropyHealthFail s (fun t => t.vault = { v with hold := true, cause := v.cause + 2 } ∧ Raised s t 992 0x0E06 1 ∧
      t = { s with regs := t.regs, vault := t.vault, occ := t.occ })) ∧
    (bitsOf v.cause 1 1 = 1 → Runs .entropyHealthFail s (fun t => t.vault = { v with hold := true } ∧ t = { s with regs := t.regs, vault := t.vault })) ∧
    (bitsOf v.cause 2 2 = 0 → Runs .conditionalSelftestFail s (fun t => t.vault = { v with hold := true, cause := v.cause + 4 } ∧
      t.rd (EVT_R_CNT 992) = satAdd (s.rd (EVT_R_CNT 992)) 1 ∧ t.rd (EVT_R_CNT 999) = satAdd (s.rd (EVT_R_CNT 999)) 1 ∧
      t = { s with regs := t.regs, vault := t.vault, occ := t.occ })) ∧
    (∀ p : Fin 17, Runs (.authSessionTimeout p) s (fun t => tabGet t.vault.sess none p = none ∧ t.vault = { v with sess := t.vault.sess } ∧
      t = { s with regs := t.regs, vault := t.vault })) ∧
    (v.locked = true → Runs .authLockoutEnd s (fun t => t.vault = { v with locked := false, fails := 0 } ∧ t = { s with regs := t.regs, vault := t.vault })) ∧
    (v.locked = false → exec .authLockoutEnd s = .next s) ∧
    (∀ (n : Fin 7) (aon : Bool), s.tamperOn n = false → exec (.tamperDetect n aon) s = .next s) ∧
    (∀ n : Fin 7, s.tamperOn n = true → Runs (.tamperDetect n false) s (fun t => (t.rd VLT_TAMPER).getLsbD n = true ∧ t.vault = { v with tampWait := true } ∧
      t.occ = s.occ ∧ t = { s with regs := t.regs, vault := t.vault })) ∧
    (∀ n : Fin 7, s.tamperOn n = true → v.burnt = false → (∀ c, c < 8 → s.recKeyed c = false) → Runs (.tamperDetect n true) s (fun t =>
      (t.rd VLT_TAMPER).getLsbD n = true ∧ t.vault.life = 128 ∧ t.vault.keys = [] ∧ t.vault.hold = true ∧
      t.rd (EVT_R_CNT 994) = satAdd (s.rd (EVT_R_CNT 994)) 1 ∧ t.rd (EVT_R_CNT 995) = satAdd (s.rd (EVT_R_CNT 995)) 1)) ∧
    (∀ n : Fin 7, s.tamperOn n = true → v.burnt = true → v.life = 128 → Runs (.tamperDetect n true) s (fun t =>
      (t.rd VLT_TAMPER).getLsbD n = true ∧ t.vault = v ∧ Raised s t 994 0x0E06 0 ∧ RegsBut s t (VLT_TAMPER.off :: evRegs 994) ∧
      t = { s with regs := t.regs, occ := t.occ })) ∧
    Runs .vbatLow s (fun t => (t.rd VLT_TAMPER).getLsbD 7 = true ∧ t.vault = { v with rtcValid := false } ∧ Raised s t 994 0x0E06 0 ∧
      t = { s with regs := t.regs, vault := t.vault, occ := t.occ })

/-- Verifications (R194, R228, R458, R468): the code of a Rig image is kept for its checks; a store that fails its tests leaves the one in force with event 169 or 385; one that passes is due at each head and its ROLLBACK is noted; a loader comes in rising chunks, in the state that R467 names. -/
def Sys2Proof.Claims.VaultVerifies : Prop :=
  ∀ (k : SigCheck) (s : State) (x : VVerify) (xs : List VVerify),
    let asked : Prop := s.vault.turn = some true ∧ s.vault.verify = x :: xs
    let passes (colour : Bool) (img : List Byte) : Prop := storeShape img colour = true ∧ verifyCode s.vault.rbCal img k = 0
    let outcome (colour : Bool) (img : List Byte) (t : State) : Prop :=
      (¬ passes colour img → t.calNew = s.calNew ∧ t.colNew = s.colNew ∧ t.rd (EVT_R_CNT (if colour then 385 else 169)) = satAdd (s.rd (EVT_R_CNT (if colour then 385 else 169))) 1) ∧
      (passes colour img → colour = true → t.colNew = storeOf img ∧ t.calNew = s.calNew ∧ (∀ h, h < 8 → (t.drvOf h).calDue = true)) ∧
      (passes colour img → colour = false → (∃ h, h < 8 ∧ s.storeOver (storeOf img) h = true) → t.calNew = s.calNew ∧ t.cat = s.cat) ∧
      (passes colour img → colour = false → (∀ h, h < 8 → s.storeOver (storeOf img) h = false) → t.calNew = storeOf img ∧ t.colNew = s.colNew ∧
        (∀ h, h < 8 → (t.catOf h).calDue = true) ∧ t.vault.calIn = (imgHeader img).rollback)
    (s.vault.turn ≠ some true ∨ s.vault.verify = [] → exec (.vaultVerifyDone k) s = .next s ∧ ∀ c : Bool, exec (.calStoreVerified c none k) s = .next s) ∧
    (asked → x.cls = 0 → Runs (.vaultVerifyDone k) s (fun t => t.rig = { s.rig with verdict := some (s.verifyRig x.data k) } ∧ t.vault.verify = xs ∧
      t = { s with regs := t.regs, vault := t.vault, rig := t.rig })) ∧
    (∀ c : Bool, asked → x.cls = (if c then 2 else 1) → exec (.vaultVerifyDone k) s = exec (.calStoreVerified c none k) s) ∧
    (∀ c : Bool, asked → x.cls = (if c then 2 else 1) → waits s (.cal x.path) = false → s.boot.paddle ≠ .waiting → Runs (.calStoreVerified c none k) s (fun t =>
      t.vault.verify = xs ∧ outcome c x.data t)) ∧
    (∀ (c : Bool) (img : List Byte), s.boot.desc.isSome = true → s.stage = 3 → waits s (.cal 16) = false → s.boot.paddle ≠ .waiting →
      Runs (.calStoreVerified c (some img) k) s (outcome c img)) ∧
    (∀ (d : BitVec 22) (script : List Byte) (r : VReq) (rest : List VReq), AtVault s 0x41 r rest →
      let off := leAt r.data 0 4
      let chunk := r.data.drop 4
      (s.stage ≠ 6 ∨ s.rd BOH_BOOT_ERR ≠ 3 → JustServes (.recoveryLoad k d script) s rest s.vault 4 8 []) ∧
      (s.stage = 6 → s.rd BOH_BOOT_ERR = 3 →
        (r.data.length < 4 ∨ off < s.vault.loader.length ∨ 4194304 < off + chunk.length → JustServes (.recoveryLoad k d script) s rest s.vault 2 1 []) ∧
        (4 ≤ r.data.length → s.vault.loader.length ≤ off → off + chunk.length ≤ 4194304 → chunk ≠ [] →
          JustServes (.recoveryLoad k d script) s rest { s.vault with loader := sliceAt s.vault.loader 0 off ++ chunk } 0 0 []) ∧
        (r.data.length = 4 → s.vault.loader.length ≤ off → off ≤ 4194304 → s.loaderOk s.vault.loader k = false →
          JustServes (.recoveryLoad k d script) s rest { s.vault with loader := [] } 0 0 [])))

/-- A service asked by a Call (R465, R467): its response goes to the data buffer, its Answer carries the approved-service indicator 1 in RESULT1, and a role that is missing is DENIED there too. -/
def Sys2Proof.Claims.ServicesOfCalls : Prop :=
  ∀ (q : Fin 16) (c : Call) (s : State) (r : VReq) (rest : List VReq), s.vault.turn = some false → s.vault.queue = r :: rest → r.path = q.val →
    (s.callQ q).cur = some (c, some .vault) → (s.callQ q).stop = false → AnswerRoom s q →
    let a := s.callAq q
    let k := (s.rd (CLL_A_TAIL a)).toNat
    let answer (status r1 : Nat) (r0 : Nat) : List Out := [.hostWrite (s.rd64 (CLL_A_BASE_LO a) (CLL_A_BASE_HI a) / 32 * 32 + 32 * k)
      (ansBytes ⟨q, c.tag, status, (s.rd (CLL_Q_HEAD q)).toNat, r0, r1⟩ (s.ansQ a).phase s.ns), .msix (bitsOf (s.rd (CLL_A_CFG a)).toNat 26 16)]
    let resp := wordBytes (s.rd VLT_STATUS) ++ wordBytes (s.rd VLT_HOLD_CAUSE) ++ leBytes 4 s.vault.lifecycle ++ leBytes 4 s.vault.keys.length
    (r.code = 0x01 → c.addr ≠ 0 → 16 ≤ c.len → Runs .vaultStatus s (fun t => t.vault.queue = rest ∧ (t.callQ q).cur = none ∧
      ∃ r0, t.out = s.out ++ [.hostWrite c.addr resp] ++ answer 0 1 r0)) ∧
    (r.code = 0x01 → c.addr = 0 ∨ c.len < 16 → Runs .vaultStatus s (fun t => t.vault.queue = rest ∧ (t.callQ q).cur = none ∧ t.out = s.out ++ answer 5 1 0)) ∧
    (r.code = 0x31 → s.pathRole q ≠ 1 → Runs .rtcSet s (fun t => t.vault.queue = rest ∧ t.vault.rtcSec = s.vault.rtcSec ∧ (t.callQ q).cur = none ∧
      t.out = s.out ++ answer 7 1 0))

/-! ### Events, the Logbook and health -/

/-- Delivery (R475 to R480): the oldest occurrence leaves the router for each target of its route, and for no other: a vector with its pending bit, Coaches, an armed slot or the drop count, a seat, the Logbook. -/
def Sys2Proof.Claims.EventsAreDelivered : Prop :=
  ∀ (s : State) (o : Occ) (os : List Occ),
    let u := { s with occ := os }
    let msi := EVT_R_CFG_MSI_EN.get o.cfg = 1
    let coach := EVT_R_CFG_COACH.get o.cfg ≠ 0
    let wake := EVT_R_TGT_WAKE_EN.get o.tgt = 1 ∧ EVT_R_TGT_SEAT.get o.tgt ≤ 287
    let stk := EVT_R_TGT_STK_EN.get o.tgt = 1
    let log := EVT_R_CFG_LOG.get o.cfg = 1
    (s.occ = [] → exec .eventDelivery s = .next s) ∧
    (s.occ = o :: os →
      (¬ msi → ¬ coach → ¬ wake → ¬ stk → ¬ log → exec .eventDelivery s = .next u) ∧
      (msi → ¬ coach → ¬ wake → ¬ stk → ¬ log → (s.msixOf (EVT_R_CFG_VECTOR.get o.cfg)).masked = false → Runs .eventDelivery s (fun t =>
        (t.rd (EVT_PEND (o.num / 32))).getLsbD (o.num % 32) = true ∧ t.out = s.out ++ [.msix (EVT_R_CFG_VECTOR.get o.cfg)] ∧
        RegsBut s t [(EVT_PEND (o.num / 32)).off] ∧ t = { u with regs := t.regs, out := t.out })) ∧
      (msi → ¬ coach → ¬ wake → ¬ stk → ¬ log → (s.msixOf (EVT_R_CFG_VECTOR.get o.cfg)).masked = true → Runs .eventDelivery s (fun t =>
        (t.rd (EVT_PEND (o.num / 32))).getLsbD (o.num % 32) = true ∧ (t.msixOf (EVT_R_CFG_VECTOR.get o.cfg)).pending = true ∧ t.out = s.out ∧
        RegsBut s t [(EVT_PEND (o.num / 32)).off])) ∧
      (¬ msi → coach → ¬ wake → ¬ stk → ¬ log → o.num < 1024 → Runs .eventDelivery s (fun t =>
        (∀ c n, c < 8 → n < 1024 → tabGet t.coachPend false (1024 * c + n) = (tabGet s.coachPend false (1024 * c + n) || (decide (n = o.num) && (EVT_R_CFG_COACH.get o.cfg).testBit c))) ∧
        t = { u with coachPend := t.coachPend })) ∧
      (¬ msi → ¬ coach → ¬ wake → stk → ¬ log → (s.rd (STK_S_CTRL (EVT_R_TGT_SLOT.get o.tgt))).getLsbD 0 = true →
        exec .eventDelivery s = .next { u with stk := { s.stk with evMatch := s.stk.evMatch ++ [EVT_R_TGT_SLOT.get o.tgt] } }) ∧
      (¬ msi → ¬ coach → ¬ wake → stk → ¬ log → (s.rd (STK_S_CTRL (EVT_R_TGT_SLOT.get o.tgt))).getLsbD 0 = false → exec .eventDelivery s = .next (u.inc EVT_STK_DROP)) ∧
      (¬ msi → ¬ coach → wake → ¬ stk → ¬ log → exec .eventDelivery s =
        .next (u.settle (u.wakeIndex (EVT_R_TGT_SEAT.get o.tgt) { slot := 0x3FE, event := o.num, ns := o.ns }))) ∧
      (¬ msi → ¬ coach → ¬ wake → ¬ stk → log → s.log.pfail = false → s.log.asm = none → s.log.fifo = [] → s.log.staged.length < 511 → Runs .eventDelivery s (fun t =>
        t.log = { s.log with asm := some (.event o) } ∧ RegsBut s t [LOG_STATUS.off, LOG_SEQ_LO.off] ∧ t = { u with regs := t.regs, log := t.log })) ∧
      (¬ msi → ¬ coach → ¬ wake → ¬ stk → log → s.log.pfail = false → 256 ≤ s.log.fifo.length → o.num < 1024 → Runs .eventDelivery s (fun t =>
        t.rd (LOG_DROP o.num) = w32 (min 65535 ((s.rd (LOG_DROP o.num)).toNat + 1)) ∧ t.rd LOG_DROP_CNT = satAdd (s.rd LOG_DROP_CNT) 1 ∧
        t.log = { s.log with dropped := s.log.dropped + 1 } ∧ (s.log.dropped = 0 → t.rd (EVT_R_CNT 1022) = satAdd (s.rd (EVT_R_CNT 1022)) 1))))

/-- Records (R481 to R489): a NOTE passes to the idle assembler or, after PFAIL_N, is dropped and counted; a finished record takes the next SEQ in staging, and its event's FLUSH starts a flush; a flush that software asks for covers what is staged, and its end makes it durable, raises event 1020
and lets intake resume once PFAIL_N is high; PFAIL_N stages the POWER_FAIL record and flushes. -/
def Sys2Proof.Claims.RecordsAreKept : Prop :=
  ∀ s : State, let l := s.log
    (Reach s LOG_CTRL → Runs .logCtrlFlush s (fun t => t.log = { l with flushing := true, flushN := l.staged.length, opStored := s.opNow } ∧ (t.rd LOG_CTRL).getLsbD 0 = true ∧
      RegsBut s t [LOG_CTRL.off, LOG_STATUS.off, LOG_SEQ_LO.off] ∧ t = { s with regs := t.regs, log := t.log })) ∧
    (Reach s LOG_CTRL → l.pfail = false → l.asm = none → l.fifo = [] → l.staged.length < 511 → Runs .logCtrlNote s (fun t =>
      t.log = { l with asm := some (.note (s.rd LOG_NOTE_VAL) s.ns) } ∧ RegsBut s t [LOG_STATUS.off, LOG_SEQ_LO.off] ∧ t = { s with regs := t.regs, log := t.log })) ∧
    (Reach s LOG_CTRL → l.pfail = true → l.dropped = 0 → Runs .logCtrlNote s (fun t =>
      t.rd LOG_NOTE_DROP = w32 (min 65535 ((s.rd LOG_NOTE_DROP).toNat + 1)) ∧ t.rd LOG_DROP_CNT = satAdd (s.rd LOG_DROP_CNT) 1 ∧ t.log = { l with dropped := 1 } ∧
      Raised s t 1022 0x0E04 0)) ∧
    (l.asm = none → exec .logRecordAssembled s = .next s) ∧
    (∀ e, l.asm = some e → l.fifo = [] → s.logDropping = false → l.staged.length < 255 → (∀ o, e = .event o → EVT_R_CFG_FLUSH.get o.cfg = 0) →
      Runs .logRecordAssembled s (fun t => t.log = { l with asm := none, staged := l.staged ++ [(l.seq, s.entryRecord e)], seq := l.seq + 1 } ∧
        t = { s with regs := t.regs, log := t.log })) ∧
    (∀ o, l.asm = some (.event o) → l.fifo = [] → s.logDropping = false → l.staged.length < 510 → EVT_R_CFG_FLUSH.get o.cfg = 1 →
      Runs .logRecordAssembled s (fun t => t.log = { l with asm := none, staged := l.staged ++ [(l.seq, s.entryRecord (.event o))], seq := t.log.seq, flushing := true, flushN := t.log.flushN, opStored := s.opNow } ∧
        t.log.seq = l.seq + 1 ∧ t.log.flushN = l.staged.length + 1 ∧ t = { s with regs := t.regs, log := t.log })) ∧
    (∀ high : Bool, l.flushing = true → l.asm = none → l.fifo = [] → l.pfail = false → s.logDropping = false → s.hlt.trip = false → s.hlt.fatal = none →
      (s.rd LOG_CTRL).getLsbD 0 = true → (∀ r, r ∈ l.staged.take l.flushN → r.1 ≠ 16383) → Runs (.logFlushDone high) s (fun t =>
        t.log = { l with staged := l.staged.drop l.flushN, flushing := false, flushN := 0, opStored := s.opNow, mram := t.log.mram } ∧
        t.log.mram = (l.staged.take l.flushN).foldl (fun m r => tabFill 0 m (128 * logSlot r.1) r.2) l.mram ∧
        (t.rd LOG_CTRL).getLsbD 0 = false ∧ Raised s t 1020 0x0E04 0 ∧ t = { s with regs := t.regs, log := t.log, occ := t.occ })) ∧
    (l.flushing = false → l.pfail = true → l.asm = none → l.fifo = [] → s.logDropping = false → s.hlt.trip = false → Runs (.logFlushDone true) s (fun t =>
      t.log = { l with pfail := false } ∧ t = { s with regs := t.regs, log := t.log })) ∧
    (l.pfail = true → exec .powerFail s = .next s) ∧
    (l.pfail = false → l.asm = none → l.fifo = [] → Runs .powerFail s (fun t =>
      t.log = { l with pfail := true, staged := t.log.staged, seq := l.seq + 1, flushing := true, flushN := l.staged.length + 1, opStored := s.opNow } ∧
      t.log.staged = l.staged ++ [(l.seq, s.logRecord 3 false true s.ns 0xFFFF 0x0E04 (w32 l.staged.length) [])] ∧ t = { s with regs := t.regs, log := t.log })) ∧
    exec .opTimeStore s = .next { s with log := { l with opStored := s.opNow } }

/-- Readings (R493, R495, R498): a channel's reading stands in its register with what the round judges it by; a temperature of 120 °C starts the Trip path at once, but for the Vault's sensors, which set Hold, as VDD_AON out of its range does (R469). -/
def Sys2Proof.Claims.ChannelsAreRead : Prop :=
  ∀ (k : Fin 128) (v aux : Word) (s : State),
    (k.val < 48 → sext 16 v.toNat < 1920 → Runs (.healthChannelRead k v aux) s (fun t =>
      bitsOf (t.rd (HLT_TS_VAL k)).toNat 31 16 = v.toNat % 65536 ∧ (t.tsOf k).raw = sext 16 v.toNat ∧ (t.tsOf k).osc = aux.toNat ∧ (t.tsOf k).read = true ∧
      (t.tsOf k).sameRun = (if (s.tsOf k).read = true ∧ (s.tsOf k).osc = aux.toNat then min 8 ((s.tsOf k).sameRun + 1) else 1) ∧
      (t.tsOf k).broken = (s.tsOf k).broken ∧ (∀ n, n ≠ k.val → t.tsOf n = s.tsOf n) ∧ RegsBut s t [(HLT_TS_VAL k).off] ∧ t = { s with regs := t.regs, hlt := t.hlt })) ∧
    (k.val = 40 ∨ k.val = 41 → 1920 ≤ sext 16 v.toNat → Runs (.healthChannelRead k v aux) s (fun t => t.vault.hold = true ∧ bitsOf t.vault.cause 0 0 = 1 ∧
      t.hlt.trip = s.hlt.trip ∧ t = { s with regs := t.regs, hlt := t.hlt, vault := t.vault, occ := t.occ })) ∧
    (k.val < 48 → k.val ≠ 40 → k.val ≠ 41 → 1920 ≤ sext 16 v.toNat → s.hlt.trip = false → s.hlt.fatal = none → Runs (.healthChannelRead k v aux) s (fun t =>
      t.hlt.fatal = some 1 ∧ t.safe = true ∧ t.hiZ = true)) ∧
    (k.val < 48 → k.val ≠ 40 → k.val ≠ 41 → 1920 ≤ sext 16 v.toNat → s.hlt.trip = false → s.hlt.fatal ≠ none → Runs (.healthChannelRead k v aux) s (fun t =>
      t.hlt.trip = true ∧ t.hlt.fatal = s.hlt.fatal ∧ t.level = 4 ∧ t.fld HLT_STATUS HLT_STATUS_HOTTEST = k ∧ Raised s t 960 0x0E05 4 ∧
      t.hlt.clocksStopped = (s.hlt.clocksStopped || !s.log.flushing))) ∧
    (48 ≤ k.val → k.val < 111 → Runs (.healthChannelRead k v aux) s (fun t => bitsOf (t.rd (HLT_VM (k.val - 48))).toNat 15 0 = v.toNat % 65536 ∧
      t.vmOf (k.val - 48) = { s.vmOf (k.val - 48) with value := v.toNat % 65536, read := true } ∧ RegsBut s t [(HLT_VM (k.val - 48)).off] ∧
      t = { s with regs := t.regs, hlt := t.hlt })) ∧
    (k.val = 111 → v.toNat % 65536 < 776 ∨ 824 < v.toNat % 65536 → Runs (.healthChannelRead k v aux) s (fun t => t.vault.hold = true ∧ bitsOf t.vault.cause 3 3 = 1)) ∧
    (112 ≤ k.val → Runs (.healthChannelRead k v aux) s (fun t => bitsOf (t.rd (HLT_CM (k.val - 112))).toNat 23 0 = v.toNat % 16777216 ∧
      t.cmOf (k.val - 112) = { s.cmOf (k.val - 112) with value := v.toNat % 16777216, read := true, quadsOld := (s.cmOf (k.val - 112)).quads, quads := aux.toNat % 1024 } ∧
      RegsBut s t [(HLT_CM (k.val - 112)).off] ∧ t = { s with regs := t.regs, hlt := t.hlt }))

/-- The judgement of a round (R495, R497, R499): a sensor that meets a condition is broken with event 961; the level rises at once to what Tj reaches and falls one step after its run of rounds; a rail outside 5 percent warns, and outside 10 percent in two rounds in a row it is a FAULT with event 964. A round
of which nothing was read counts and lets what is raised once a round be raised again. -/
def Sys2Proof.Claims.RoundsAreJudged : Prop :=
  ∀ (s : State),
    (s.hlt.ts = [] → s.hlt.vm = [] → s.hlt.cm = [] → s.hlt.vaultRun + 1 < 489 → Runs .housekeepingRoundEnd s (fun t =>
      t.rd HLT_ROUNDS = s.rd HLT_ROUNDS + 1 ∧ t.roundFlags = [] ∧ t.hlt.vaultRun = s.hlt.vaultRun + 1 ∧ RegsBut s t [HLT_ROUNDS.off])) ∧
    (∀ n : Fin 48, let x := s.tsOf n
      x.read = true → x.broken = false → 40 ≤ n.val → (x.raw < -880 ∨ 2400 < x.raw ∨ 8 ≤ x.sameRun → ((s.tsJudge s.hlt.ts n).tsOf n).broken = true ∧ Raised s (s.tsJudge s.hlt.ts n) 961 0x0E05 (w32 n)) ∧
        (-880 ≤ x.raw → x.raw ≤ 2400 → x.sameRun < 8 → ((s.tsJudge s.hlt.ts n).tsOf n).broken = false ∧ (s.tsJudge s.hlt.ts n).occ = s.occ)) ∧
    (∀ tj : Int, s.safe = true → s.level < levelOf tj → (s.levelRound tj).level = levelOf tj ∧ Raised s (s.levelRound tj) 960 0x0E05 (w32 (levelOf tj))) ∧
    (∀ tj : Int, levelOf tj ≤ s.level → s.level ≠ 0 → tj ≤ levelAt s.level - 160 →
      (s.hlt.fallRun + 1 < 489 → s.levelRound tj = { s with hlt := { s.hlt with fallRun := s.hlt.fallRun + 1 } }) ∧
      (489 ≤ s.hlt.fallRun + 1 → s.safe = true → (s.levelRound tj).level = s.level - 1)) ∧
    (∀ tj : Int, levelOf tj ≤ s.level → s.level = 0 ∨ levelAt s.level - 160 < tj → s.levelRound tj = { s with hlt := { s.hlt with fallRun := 0 } }) ∧
    (∀ n : Fin 64, let m := s.vmOf n
      (m.read = false → s.railRound n = s) ∧
      (m.read = true → offBy m.value (railMv n) 5 = true → offBy m.value (railMv n) 10 = false → (s.railRound n).bit (HLT_VM n) ⟨16, 16⟩ = true ∧ ((s.railRound n).vmOf n).inRun = 0) ∧
      (m.read = true → offBy m.value (railMv n) 10 = true → m.outRun = 0 → (s.railRound n).bit (HLT_VM n) ⟨17, 17⟩ = s.bit (HLT_VM n) ⟨17, 17⟩ ∧
        ((s.railRound n).vmOf n).outRun = 1) ∧
      (m.read = true → offBy m.value (railMv n) 10 = true → 1 ≤ m.outRun → s.bit (HLT_VM n) ⟨17, 17⟩ = false → s.safe = true → railRegion n ≠ none →
        (s.railRound n).bit (HLT_VM n) ⟨17, 17⟩ = true ∧ (s.railRound n).rd (EVT_R_CNT 964) = satAdd (s.rd (EVT_R_CNT 964)) 1))

/-- The Course PLL's grace, the droop count and LTC (R499, R500, R505): the grace that runs out is chip-fatal; a droop counts; a legal LTC frame is shown VALID, one of illegal digits decodes to nothing, and silence clears VALID with event 969. -/
def Sys2Proof.Claims.ClocksAndTimecode : Prop :=
  ∀ (v : BitVec 31) (s : State),
    (s.hlt.courseGrace = false → exec .coursePllGraceExpire s = .next s) ∧
    (s.hlt.courseGrace = true → s.hlt.fatal = none → Runs .coursePllGraceExpire s (fun t => t.hlt.fatal = some 4 ∧ t.safe = true ∧ t.hiZ = true)) ∧
    exec .coreDroop s = .next (s.inc HLT_VM_DROOP) ∧
    (ltcLegal v = true → exec (.ltcFrameDecoded v) s = .next (s.wr HLT_LTC_IN (w32 (v.toNat + 0x80000000)))) ∧
    (ltcLegal v = false → exec (.ltcFrameDecoded v) s = .next s) ∧
    ((s.rd HLT_LTC_IN).getLsbD 31 = false → exec .ltcInputTimeout s = .next s) ∧
    ((s.rd HLT_LTC_IN).getLsbD 31 = true → Runs .ltcInputTimeout s (fun t => (t.rd HLT_LTC_IN).getLsbD 31 = false ∧ Raised s t 969 0x0E05 0 ∧
      RegsBut s t (HLT_LTC_IN.off :: evRegs 969) ∧ t = { s with regs := t.regs, occ := t.occ }))

/-! ### Invariants that every step keeps -/

namespace Sys2Proof.Claims
open Sys2Proof.Machine

/-- The commands of the timebases and the transmit stamps. -/
def timeCommand : Instr → Bool
  | .tb0IncWrite _ _ | .tb0Step _ _ | .tb0Wrap | .tb1ModeWrite _ | .genlockPulse _ _ | .tb1HoldoverTimeout | .tb1AlignWrite _ | .tb1AlignReached
  | .tb3Enable _ | .mainsEdgeConfirmed | .tb3HoldoverTimeout | .stkTb0NowRead | .ptpPTxqPop _ | .ptpAnnounceTimeout _ => true
  | _ => false

/-- Registers and memory have their canonical form, the increment of TB0 lies where R132 admits it, and only commands of the timebases wait. -/
def TimeInv (s : State) : Prop :=
  s.Canon ∧ 0xCC985F07 ≤ (s.rd STK_TB0_INC).toNat ∧ (s.rd STK_TB0_INC).toNat ≤ 0xCD013A93 ∧ ∀ c, c ∈ s.pending → timeCommand c = true

/-- Services of the Vault that a host asks for, short of zeroisation and recovery, and what the Vault's sessions do of themselves. -/
def vaultCommand : Instr → Bool
  | .vaultMbGo _ | .vaultStatus | .vaultSelftest _ | .authChallenge | .authResponse _ | .logout | .quote | .getCerts | .random | .mediaKeyImport
  | .mediaKeyDelete | .mediaKeyList | .rollbackAdvance | .rtcSet | .authSessionTimeout _ | .authLockoutEnd | .vbatLow => true
  | _ => false

/-- The key store holds at most 64 media keys with distinct identifiers other than 0 (R461), no rollback minimum passes 1,024 (R457), and only services of the Vault wait. -/
def VaultInv (s : State) : Prop :=
  s.vault.keys.length ≤ 64 ∧ (s.vault.keys.map (·.1)).Nodup ∧ (∀ k, k ∈ s.vault.keys → k.1 ≠ 0) ∧
  s.vault.rbRig ≤ 1024 ∧ s.vault.rbCal ≤ 1024 ∧ s.vault.rbFw ≤ 1024 ∧ ∀ c, c ∈ s.pending → vaultCommand c = true

end Sys2Proof.Claims

/-- Every step of the timebases keeps the canonical form of registers and memory and the increment of TB0 within its limits (R132), the idle tick with it. -/
def Sys2Proof.Claims.TimeStepsKeepTheIncrement : Prop := ∀ s t : State, TimeInv s → step s = .next t → TimeInv t

/-- Every step of the Vault's services keeps the key store and the rollback minima as R457 and R461 bound them. -/
def Sys2Proof.Claims.VaultStepsKeepTheStore : Prop := ∀ s t : State, VaultInv s → step s = .next t → VaultInv t

/-- The state after reset meets both invariants. -/
def Sys2Proof.Claims.ResetMeetsTheInvariants : Prop := TimeInv State.reset ∧ VaultInv State.reset

/-! ### The statements -/

/-- Step runs the command at the front of the queue. -/
def Obligations.StepRunsTheFrontCommand : Prop :=
  Sys2Proof.Claims.StepRunsFrontCommand

/-- On an empty queue one tick passes (the model's choice, log entry 87). -/
def Obligations.IdleStepIsOneTick : Prop :=
  Sys2Proof.Claims.IdleStepPassesATick

/-- What PORESET_N leaves. -/
def Obligations.ResetLeavesTheSpecsValues : Prop :=
  Sys2Proof.Claims.ResetHoldsTheSpecsValues ∧ Sys2Proof.Claims.ResetIsCanonical ∧ Sys2Proof.Claims.ResetMeetsTheInvariants

/-- Host writes follow the access types of R7. -/
def Obligations.HostWritesFollowAccessTypes : Prop :=
  Sys2Proof.Claims.HostWriteByAccessType ∧ Sys2Proof.Claims.NarrowWriteIsDiscarded

/-- Host reads, clears on read, and latched pairs. -/
def Obligations.HostReadsHaveTheirEffects : Prop :=
  Sys2Proof.Claims.HostReadClearsRcBits ∧ Sys2Proof.Claims.LowWordReadLatchesTheHigh

/-- Unmapped accesses are latched, counted and raise event 8. -/
def Obligations.UnmappedAccessesAreCounted : Prop :=
  Sys2Proof.Claims.UnmappedAccessIsLatched

/-- Power-on reset, PORESET_N low and host warm reset. -/
def Obligations.PowerOnAndWarmResets : Prop :=
  Sys2Proof.Claims.PowerOnResetClears ∧ Sys2Proof.Claims.PoresetAssertResetsAtOnce ∧ Sys2Proof.Claims.WarmResetKeepsTheBlocks

/-- Stages of bring-up and of orderly shutdown. -/
def Obligations.BringUpAndShutdownStages : Prop :=
  Sys2Proof.Claims.BringUpGoesByStages ∧ Sys2Proof.Claims.TrainingGivesBandwidth ∧ Sys2Proof.Claims.ShutdownGoesByStages

/-- Resets of regions and blocks run at their boundaries. -/
def Obligations.RegionAndBlockResets : Prop :=
  Sys2Proof.Claims.RegionResetBegins ∧ Sys2Proof.Claims.RegionDownEndsAtBoundary ∧ Sys2Proof.Claims.ResetTimeoutStops ∧ Sys2Proof.Claims.BlockResetAsksAtBoundary ∧ Sys2Proof.Claims.BoundaryHoldsForReset

/-- Stops, isolation and uncorrectable errors. -/
def Obligations.FaultsAreContained : Prop :=
  Sys2Proof.Claims.BlockKeepsFirstStopReason ∧ Sys2Proof.Claims.DependentStreamStops ∧ Sys2Proof.Claims.MarshalIsolatesItsRegion ∧ Sys2Proof.Claims.UncorrectableErrorStopsTheBlock

/-- Corrected errors of a seat, and its repair. -/
def Obligations.EightSeatsAndSpare : Prop :=
  Sys2Proof.Claims.SeatCountsCorrectedErrors ∧ Sys2Proof.Claims.RepairMovesSeatToSpare

/-- COMMIT and CHECK: start, copy and checks. -/
def Obligations.RigChecksItsImage : Prop :=
  Sys2Proof.Claims.RigCommandStartsOrIsRefused ∧ Sys2Proof.Claims.RigCopiesItsImage ∧ Sys2Proof.Claims.RigChecksEnd

/-- HOLDING, ABORT and REPAIR. -/
def Obligations.RigHoldsItsBlocks : Prop :=
  Sys2Proof.Claims.HoldingHoldsListedBlocks ∧ Sys2Proof.Claims.HoldEndsInRefusal ∧ Sys2Proof.Claims.RepairHoldsTheEight

/-- GDDR7 requests, integrity and Firm streams. -/
def Obligations.MemoryTrafficAndStreams : Prop :=
  Sys2Proof.Claims.RequestWritesItsBytes ∧ Sys2Proof.Claims.RequestAboveReservationIsDelayed ∧ Sys2Proof.Claims.IntegrityErrorsCount ∧ Sys2Proof.Claims.FirmStreamBacklog

/-- Event 25 at 75 % of BACKLOG, and again only below 50 %. -/
def Obligations.BacklogHighOnce : Prop :=
  Sys2Proof.Claims.BacklogHighIsRaisedOnce

/-- STK_TB0_INC is clamped to 0.8 ns ± 1,000 ppm and holds from the next tick. -/
def Obligations.Tb0IncrementClamps : Prop :=
  Sys2Proof.Claims.IncrementIsClamped

/-- Steps of TB0, its wrap, and the servo. -/
def Obligations.Tb0StepsAndWraps : Prop :=
  Sys2Proof.Claims.ServoShutsTheHostOut ∧ Sys2Proof.Claims.StepMovesTb0 ∧ Sys2Proof.Claims.Tb0WrapCounts

/-- TB1: MODE, GENLOCK and ALIGN. -/
def Obligations.Tb1FollowsItsSource : Prop :=
  Sys2Proof.Claims.Tb1ModeRestarts ∧ Sys2Proof.Claims.GenlockLocksAndHolds ∧ Sys2Proof.Claims.AlignStartsFrame0

/-- TB3 and the transmit stamp queue. -/
def Obligations.MainsAndStamps : Prop :=
  Sys2Proof.Claims.Tb3FollowsMains ∧ Sys2Proof.Claims.StampQueuePops

/-- Action slots arm, are written and match. -/
def Obligations.ActionSlots : Prop :=
  Sys2Proof.Claims.SlotArmsAndDisarms ∧ Sys2Proof.Claims.CompareIsWritten ∧ Sys2Proof.Claims.SlotMatchSchedulesDelivery

/-- A late repeating slot of TB0 skips the periods passed over. -/
def Obligations.LateSlotsSkip : Prop :=
  Sys2Proof.Claims.LateSlotSkipsPeriods

/-- What a delivery does at its target. -/
def Obligations.SlotDeliveries : Prop :=
  Sys2Proof.Claims.DeliveryActsOnItsTarget ∧ Sys2Proof.Claims.GpioPulseEnds

/-- Heads train, lock and align. -/
def Obligations.HeadsComeUp : Prop :=
  Sys2Proof.Claims.HeadStages ∧ Sys2Proof.Claims.BlockLock ∧ Sys2Proof.Claims.AlignDeskews

/-- Frames, lines and status of heads. -/
def Obligations.FramesOfHeads : Prop :=
  Sys2Proof.Claims.FramesAndLines ∧ Sys2Proof.Claims.FramesEnd ∧ Sys2Proof.Claims.StatusIsKept

/-- Command lane, stakeboat groups, Legacy mode and scripts. -/
def Obligations.HeadControl : Prop :=
  Sys2Proof.Claims.CommandLane ∧ Sys2Proof.Claims.GroupDropsAndReadmits ∧ Sys2Proof.Claims.LegacyMode ∧ Sys2Proof.Claims.SetUpScripts

/-- Catch: commits, table windows, index and rings. -/
def Obligations.CatchTables : Prop :=
  Sys2Proof.Claims.CatchWindows ∧ Sys2Proof.Claims.CatchIndexAndRings

/-- Drive colour: commits, windows, banks and written frames. -/
def Obligations.ColourTables : Prop :=
  Sys2Proof.Claims.ColourCommit ∧ Sys2Proof.Claims.ColourWindows ∧ Sys2Proof.Claims.LookPathBanks ∧ Sys2Proof.Claims.WrittenFramesArePosted

/-- Layer commits, layer posts and buoys. -/
def Obligations.LayersAndBuoys : Prop :=
  Sys2Proof.Claims.LayerCommits ∧ Sys2Proof.Claims.LayerPosts ∧ Sys2Proof.Claims.BuoyRegisters

/-- Scan-out: SCN_CTRL, timing writes, stop and start. -/
def Obligations.ScanTiming : Prop :=
  Sys2Proof.Claims.ScanCtrlIsOneRegister ∧ Sys2Proof.Claims.TimingWrites ∧ Sys2Proof.Claims.ScanStopsAndStarts

/-- Scan-out: HOLD, frame starts and lines. -/
def Obligations.ScanFrames : Prop :=
  Sys2Proof.Claims.HoldEnds ∧ Sys2Proof.Claims.FrameStarts ∧ Sys2Proof.Claims.OutputLines

/-- Scan-out: wake check, sideband and links. -/
def Obligations.ScanLinks : Prop :=
  Sys2Proof.Claims.WakeChecks ∧ Sys2Proof.Claims.Sideband ∧ Sys2Proof.Claims.LinksOfHeads

/-- Encoder: session commits, pictures started and ended. -/
def Obligations.EncoderPictures : Prop :=
  Sys2Proof.Claims.SessionCommits ∧ Sys2Proof.Claims.PicturesStart ∧ Sys2Proof.Claims.PicturesEnd

/-- Encoder: hard cap, CTU rows and the consumer's pointer. -/
def Obligations.EncoderCap : Prop :=
  Sys2Proof.Claims.BitsStayWithinTheCap ∧ Sys2Proof.Claims.CtuRows ∧ Sys2Proof.Claims.BitstreamIsRead

/-- ZRX: frames and tiles. -/
def Obligations.RawCoding : Prop :=
  Sys2Proof.Claims.RawFramesStart ∧ Sys2Proof.Claims.RawTiles ∧ Sys2Proof.Claims.RawFramesEnd

/-- CMX: fallback and job rings. -/
def Obligations.Compression : Prop :=
  Sys2Proof.Claims.CmxFallsBackAndRestores ∧ Sys2Proof.Claims.CmxJobs

/-- Recording channels: ARM, START and STOP. -/
def Obligations.RecordingChannels : Prop :=
  Sys2Proof.Claims.ChannelsArm ∧ Sys2Proof.Claims.ClipsStart ∧ Sys2Proof.Claims.ClipsStop

/-- NVMe commands and media sets. -/
def Obligations.MediaSets : Prop :=
  Sys2Proof.Claims.NvmeCommands ∧ Sys2Proof.Claims.SetsAreAsked ∧ Sys2Proof.Claims.SetsAreMounted ∧ Sys2Proof.Claims.ClipsAreDeleted

/-- Playback sessions. -/
def Obligations.Playback : Prop :=
  Sys2Proof.Claims.SessionsAreCommanded ∧ Sys2Proof.Claims.OperationsEnd ∧ Sys2Proof.Claims.PicturesAreDecoded

/-- Audio ports. -/
def Obligations.AudioPorts : Prop :=
  Sys2Proof.Claims.PortsStartAndStop ∧ Sys2Proof.Claims.PortsRun ∧ Sys2Proof.Claims.FrameSyncs ∧ Sys2Proof.Claims.SlotsOfPorts ∧ Sys2Proof.Claims.RampsEnd

/-- Contexts of the Eights execute, wait, trap and get seat time. -/
def Obligations.OarContexts : Prop :=
  Sys2Proof.Claims.ContextsExecute ∧ Sys2Proof.Claims.ContextsResume ∧ Sys2Proof.Claims.ContextsTrap ∧ Sys2Proof.Claims.BudgetsAreRefilled

/-- Stream words, vectors and SWAIT. -/
def Obligations.OarStreamsAndWaits : Prop :=
  Sys2Proof.Claims.StreamWords ∧ Sys2Proof.Claims.StreamVectors ∧ Sys2Proof.Claims.StrokeWaits ∧ Sys2Proof.Claims.StrokeWaitValues

/-- EVRAISE, DMA of the Eights, and taps. -/
def Obligations.OarTransfers : Prop :=
  Sys2Proof.Claims.EventsOfOars ∧ Sys2Proof.Claims.TransfersOfOars ∧ Sys2Proof.Claims.TransfersEnd ∧ Sys2Proof.Claims.TapsFeedPorts

/-- Watchdogs of Eights, and Coaches. -/
def Obligations.EngineWatch : Prop :=
  Sys2Proof.Claims.EightsAreWatched ∧ Sys2Proof.Claims.CoachesFailOver

/-- Landing quads come up, fail and sleep. -/
def Obligations.LandingQuads : Prop :=
  Sys2Proof.Claims.QuadsComeUp ∧ Sys2Proof.Claims.QuadsFail ∧ Sys2Proof.Claims.PortsSleep

/-- BAR2, host DMA and MSI-X. -/
def Obligations.HostWindowAndDma : Prop :=
  Sys2Proof.Claims.WindowOnMemory ∧ Sys2Proof.Claims.ChannelsMoveBytes ∧ Sys2Proof.Claims.VectorsAreMasked

/-- Queues of Calls and Answers, and plain Calls. -/
def Obligations.CallAndAnswerQueues : Prop :=
  Sys2Proof.Claims.CallQueuesAreKept ∧ Sys2Proof.Claims.AnswerQueuesAreKept ∧ Sys2Proof.Claims.PlainCalls

/-- Calls to the Rig controller and on the time. -/
def Obligations.CallsOfRigAndTime : Prop :=
  Sys2Proof.Claims.RigCalls ∧ Sys2Proof.Claims.TimeCalls

/-- Calls on recording and media, and to the Vault. -/
def Obligations.CallsOfMediaAndVault : Prop :=
  Sys2Proof.Claims.RecordCalls ∧ Sys2Proof.Claims.MediaCalls ∧ Sys2Proof.Claims.VaultCalls

/-- Ethernet frames sent and received. -/
def Obligations.EthernetFrames : Prop :=
  Sys2Proof.Claims.FramesAreSent ∧ Sys2Proof.Claims.FramesAreReceived

/-- Receive and send streams. -/
def Obligations.EthernetStreams : Prop :=
  Sys2Proof.Claims.StreamsAreReceived ∧ Sys2Proof.Claims.StreamsAreSent

/-- The Vault's mailbox, roles, Hold and services asked by a Call. -/
def Obligations.VaultMailbox : Prop :=
  Sys2Proof.Claims.MailboxTakesRequests ∧ Sys2Proof.Claims.RolesAndHold ∧ Sys2Proof.Claims.ServicesOfCalls

/-- Services of the Vault. -/
def Obligations.VaultServices : Prop :=
  Sys2Proof.Claims.OpenServices ∧ Sys2Proof.Claims.UserServices ∧ Sys2Proof.Claims.OfficerServices

/-- What happens to the Vault, and its verifications. -/
def Obligations.VaultEvents : Prop :=
  Sys2Proof.Claims.VaultWatches ∧ Sys2Proof.Claims.VaultVerifies

/-- Events are delivered to their targets. -/
def Obligations.EventRouting : Prop :=
  Sys2Proof.Claims.EventsAreDelivered

/-- Records of the Logbook. -/
def Obligations.LogbookRecords : Prop :=
  Sys2Proof.Claims.RecordsAreKept

/-- Sensors, rounds, clocks and LTC. -/
def Obligations.HealthAndClocks : Prop :=
  Sys2Proof.Claims.ChannelsAreRead ∧ Sys2Proof.Claims.RoundsAreJudged ∧ Sys2Proof.Claims.ClocksAndTimecode

/-- Every step of the timebases keeps the canonical state and the increment's limits. -/
def Obligations.TimeInvariant : Prop :=
  Sys2Proof.Claims.TimeStepsKeepTheIncrement

/-- Every step of the Vault's services keeps the key store and the rollback minima within bounds. -/
def Obligations.VaultInvariant : Prop :=
  Sys2Proof.Claims.VaultStepsKeepTheStore
end

