-- ==== Sys2Proof/Laws/Fields.lean ====
section
/-! SUPPORT. Laws of bit fields: what a field, another field and a single bit read after a field is put. -/

namespace Sys2Proof.Machine

theorem w32_getLsbD (n i : Nat) : (w32 n).getLsbD i = (decide (i < 32) && n.testBit i) := by
  simp [w32, BitVec.getLsbD_ofNat]

/-- The mask of a field, bit by bit. -/
theorem Fld.mask_getLsbD (f : Fld) (i : Nat) : f.mask.getLsbD i = (decide (i < 32) && (decide (f.lo ≤ i) && decide (i - f.lo < f.hi + 1 - f.lo))) := by
  rw [Fld.mask, w32_getLsbD, Nat.testBit_mul_two_pow, Nat.testBit_two_pow_sub_one]

/-- A word with a field replaced, bit by bit. -/
theorem Fld.put_getLsbD (f : Fld) (w : Word) (v i : Nat) (h : i < 32) :
    (f.put w v).getLsbD i = if f.lo ≤ i ∧ i < f.hi + 1 then v.testBit (i - f.lo) else w.getLsbD i := by
  rw [Fld.put, BitVec.getLsbD_or, BitVec.getLsbD_and, BitVec.getLsbD_not, Fld.mask_getLsbD, w32_getLsbD, Nat.testBit_mul_two_pow, Nat.testBit_mod_two_pow]
  by_cases h1 : f.lo ≤ i <;> by_cases h2 : i < f.hi + 1
  · have h3 : i - f.lo < f.hi + 1 - f.lo := by omega
    simp [h, h1, h2, h3]
  · have h3 : ¬ i - f.lo < f.hi + 1 - f.lo := by omega
    simp [h, h1, h2, h3]
  · simp [h, h1]
  · simp [h, h1]

/-- A field as a number, bit by bit. -/
theorem Fld.get_testBit (f : Fld) (w : Word) (i : Nat) : (f.get w).testBit i = (decide (i < f.hi + 1 - f.lo) && w.getLsbD (i + f.lo)) := by
  rw [Fld.get, bitsOf, Nat.testBit_mod_two_pow, Nat.testBit_div_two_pow]; rfl

/-- A field reads as put, cut to its width. -/
theorem Fld.get_put_self (f : Fld) (w : Word) (v : Nat) (h : f.hi < 32) : f.get (f.put w v) = v % 2 ^ (f.hi + 1 - f.lo) := by
  apply Nat.eq_of_testBit_eq
  intro i
  rw [Fld.get_testBit, Nat.testBit_mod_two_pow]
  by_cases hi : i < f.hi + 1 - f.lo
  · rw [Fld.put_getLsbD f w v _ (by omega), if_pos (by omega)]
    simp
  · simp [hi]

/-- Another field reads as before. -/
theorem Fld.get_put_ne (f g : Fld) (w : Word) (v : Nat) (hg : g.hi < 32) (h : g.hi < f.lo ∨ f.hi < g.lo) : g.get (f.put w v) = g.get w := by
  apply Nat.eq_of_testBit_eq
  intro i
  rw [Fld.get_testBit, Fld.get_testBit]
  by_cases hi : i < g.hi + 1 - g.lo
  · rw [Fld.put_getLsbD f w v _ (by omega), if_neg (by omega)]
  · simp [hi]

/-- A single bit reads as put. -/
theorem Fld.bit_put_self (f : Fld) (w : Word) (b : Bool) (h : f.hi < 32) (hl : f.lo ≤ f.hi) : bitOf (f.put w (b2n b)) f.lo = b := by
  rw [bitOf, Fld.put_getLsbD f w _ _ (by omega), if_pos (by omega)]
  cases b <;> simp

/-- A single bit outside the field reads as before. -/
theorem Fld.bit_put_ne (f : Fld) (w : Word) (v i : Nat) (hi : i < 32) (h : i < f.lo ∨ f.hi < i) : bitOf (f.put w v) i = bitOf w i := by
  rw [bitOf, bitOf, Fld.put_getLsbD f w _ _ hi, if_neg (by omega)]

end Sys2Proof.Machine
end

