-- ==== Sys2Proof/Laws/Sparse.lean ====
section
/-! SUPPORT. Laws of sparse tables: reading after setting, and the canonical form that every operation keeps. -/

namespace Sys2Proof.Machine

variable {α : Type}

theorem tabGet?_insert_self (t : Table α) (k : Nat) (v : α) : tabGet? (tabInsert k v (tabDel t k)) k = some v := by
  induction t with
  | nil => simp [tabDel, tabInsert, tabGet?]
  | cons e t ih =>
    by_cases h : e.1 = k
    · simpa [tabDel, h] using ih
    · have hd : tabDel (e :: t) k = e :: tabDel t k := by simp [tabDel, h]
      rw [hd, tabInsert]
      split
      · simp [tabGet?]
      · have he : (e.1 == k) = false := by simpa using h
        simpa [tabGet?, he] using ih

theorem tabGet?_insert_ne (t : Table α) {k j : Nat} (v : α) (h : j ≠ k) : tabGet? (tabInsert k v t) j = tabGet? t j := by
  have hk : (k == j) = false := by simpa using fun e => h e.symm
  induction t with
  | nil => simp [tabInsert, tabGet?, hk]
  | cons e t ih =>
    rw [tabInsert]
    split
    · simp [tabGet?, hk]
    · by_cases he : e.1 = j
      · simp [tabGet?, he]
      · have : (e.1 == j) = false := by simpa using he
        simpa [tabGet?, this] using ih

theorem tabGet?_del_ne (t : Table α) {k j : Nat} (h : j ≠ k) : tabGet? (tabDel t k) j = tabGet? t j := by
  induction t with
  | nil => rfl
  | cons e t ih =>
    by_cases hk : e.1 = k
    · have hd : tabDel (e :: t) k = tabDel t k := by simp [tabDel, hk]
      have he : (e.1 == j) = false := by simpa [hk] using fun q => h q.symm
      rw [hd, ih]; simp [tabGet?, he]
    · have hd : tabDel (e :: t) k = e :: tabDel t k := by simp [tabDel, hk]
      rw [hd]
      by_cases he : e.1 = j
      · simp [tabGet?, he]
      · have : (e.1 == j) = false := by simpa using he
        simpa [tabGet?, this] using ih

theorem tabGet?_del_self (t : Table α) (k : Nat) : tabGet? (tabDel t k) k = none := by
  induction t with
  | nil => rfl
  | cons e t ih =>
    by_cases h : e.1 = k
    · simpa [tabDel, h] using ih
    · have hd : tabDel (e :: t) k = e :: tabDel t k := by simp [tabDel, h]
      have he : (e.1 == k) = false := by simpa using h
      rw [hd]; simpa [tabGet?, he] using ih

theorem mem_tabInsert {k : Nat} {v : α} {e : Nat × α} : ∀ {t : Table α}, e ∈ tabInsert k v t ↔ e = (k, v) ∨ e ∈ t
  | [] => by simp [tabInsert]
  | f :: t => by
    rw [tabInsert]
    split
    · simp
    · simp only [List.mem_cons, mem_tabInsert]; tauto

theorem tabInsert_pairwise {k : Nat} {v : α} : ∀ {t : Table α}, t.Pairwise (fun a b => a.1 < b.1) → (∀ e ∈ t, e.1 ≠ k) →
    (tabInsert k v t).Pairwise (fun a b => a.1 < b.1)
  | [], _, _ => by simp [tabInsert]
  | e :: t, h, hk => by
    rw [List.pairwise_cons] at h
    rw [tabInsert]
    split
    · rename_i hlt
      refine List.pairwise_cons.2 ⟨?_, List.pairwise_cons.2 h⟩
      intro x hx
      rcases List.mem_cons.1 hx with rfl | hx
      · exact hlt
      · exact Nat.lt_trans hlt (h.1 x hx)
    · rename_i hge
      refine List.pairwise_cons.2 ⟨?_, tabInsert_pairwise h.2 (fun x hx => hk x (List.mem_cons_of_mem _ hx))⟩
      intro x hx
      rcases mem_tabInsert.1 hx with rfl | hx
      · have := hk e (List.mem_cons_self ..); simp only at *; omega
      · exact h.1 x hx

theorem tabDel_pairwise {t : Table α} (k : Nat) (h : t.Pairwise (fun a b => a.1 < b.1)) : (tabDel t k).Pairwise (fun a b => a.1 < b.1) :=
  h.filter _

variable [DecidableEq α]

/-- A key that is set reads as what was set. -/
theorem tabGet_set_self (t : Table α) (d v : α) (k : Nat) : tabGet (tabSet t d k v) d k = v := by
  unfold tabSet tabGet
  split
  · rw [tabGet?_del_self]; simp_all
  · rw [tabGet?_insert_self]; rfl

/-- A key that is not set keeps its entry. -/
theorem tabGet?_set_ne (t : Table α) (d v : α) {k j : Nat} (h : j ≠ k) : tabGet? (tabSet t d k v) j = tabGet? t j := by
  unfold tabSet
  split
  · exact tabGet?_del_ne t h
  · rw [tabGet?_insert_ne _ v h, tabGet?_del_ne t h]

/-- A key that is not set reads as before. -/
theorem tabGet_set_ne (t : Table α) (d v d' : α) {k j : Nat} (h : j ≠ k) : tabGet (tabSet t d k v) d' j = tabGet t d' j := by
  unfold tabGet; rw [tabGet?_set_ne t d v h]

/-! ### The canonical form -/

/-- Setting a key keeps the keys rising. -/
theorem tabSorted_set {t : Table α} (d v : α) (k : Nat) (h : tabSorted t = true) : tabSorted (tabSet t d k v) = true := by
  simp only [tabSorted, decide_eq_true_eq] at *
  unfold tabSet
  split
  · exact tabDel_pairwise k h
  · exact tabInsert_pairwise (tabDel_pairwise k h) (fun e he => by simpa [tabDel] using (List.mem_filter.1 he).2)

/-- Setting a key keeps the canonical form. -/
theorem tabWf_set {t : Table α} (d v : α) (k : Nat) (h : tabWf d t = true) : tabWf d (tabSet t d k v) = true := by
  simp only [tabWf, Bool.and_eq_true, decide_eq_true_eq, List.all_eq_true] at *
  have hs := tabSorted_set d v k (t := t) (by simpa [tabSorted] using h.1)
  refine ⟨by simpa [tabSorted] using hs, ?_⟩
  intro e he
  unfold tabSet at he
  split at he
  · exact h.2 e (List.mem_filter.1 he).1
  · rcases mem_tabInsert.1 he with rfl | he
    · assumption
    · exact h.2 e (List.mem_filter.1 he).1

/-- Filling a run of keys keeps the canonical form. -/
theorem tabWf_fill (d : α) : ∀ (vs : List α) (t : Table α) (k : Nat), tabWf d t = true → tabWf d (tabFill d t k vs) = true
  | [], _, _, h => h
  | v :: vs, t, k, h => tabWf_fill d vs (tabSet t d k v) (k + 1) (tabWf_set d v k h)

/-- A key outside the run that is filled keeps its entry. -/
theorem tabGet?_fill_out (d : α) : ∀ (vs : List α) (t : Table α) (k j : Nat), j < k ∨ k + vs.length ≤ j → tabGet? (tabFill d t k vs) j = tabGet? t j
  | [], _, _, _, _ => rfl
  | v :: vs, t, k, j, h => by
    rw [tabFill, tabGet?_fill_out d vs _ _ _ (by simp only [List.length_cons] at h; omega), tabGet?_set_ne]
    simp only [List.length_cons] at h; omega

end Sys2Proof.Machine
end

