-- ==== Sys2Proof/Laws/State.lean ====
section
/-! SUPPORT. What the basic updates of State leave: one lemma per field and update, true by rfl. -/

namespace Sys2Proof.Machine

@[simp] theorem State.wr_g7 (s : State) (r : Reg) (v : Word) : (s.wr r v).g7 = s.g7 := rfl
@[simp] theorem State.wr_blk (s : State) (r : Reg) (v : Word) : (s.wr r v).blk = s.blk := rfl
@[simp] theorem State.wr_rig (s : State) (r : Reg) (v : Word) : (s.wr r v).rig = s.rig := rfl
@[simp] theorem State.wr_boot (s : State) (r : Reg) (v : Word) : (s.wr r v).boot = s.boot := rfl
@[simp] theorem State.wr_strm (s : State) (r : Reg) (v : Word) : (s.wr r v).strm = s.strm := rfl
@[simp] theorem State.wr_log (s : State) (r : Reg) (v : Word) : (s.wr r v).log = s.log := rfl
@[simp] theorem State.wr_hlt (s : State) (r : Reg) (v : Word) : (s.wr r v).hlt = s.hlt := rfl
@[simp] theorem State.wr_occ (s : State) (r : Reg) (v : Word) : (s.wr r v).occ = s.occ := rfl
@[simp] theorem State.wr_stk (s : State) (r : Reg) (v : Word) : (s.wr r v).stk = s.stk := rfl
@[simp] theorem State.wr_coachPend (s : State) (r : Reg) (v : Word) : (s.wr r v).coachPend = s.coachPend := rfl
@[simp] theorem State.wr_cat (s : State) (r : Reg) (v : Word) : (s.wr r v).cat = s.cat := rfl
@[simp] theorem State.wr_calNew (s : State) (r : Reg) (v : Word) : (s.wr r v).calNew = s.calNew := rfl
@[simp] theorem State.wr_colNew (s : State) (r : Reg) (v : Word) : (s.wr r v).colNew = s.colNew := rfl
@[simp] theorem State.wr_drv (s : State) (r : Reg) (v : Word) : (s.wr r v).drv = s.drv := rfl
@[simp] theorem State.wr_lkp (s : State) (r : Reg) (v : Word) : (s.wr r v).lkp = s.lkp := rfl
@[simp] theorem State.wr_cmp (s : State) (r : Reg) (v : Word) : (s.wr r v).cmp = s.cmp := rfl
@[simp] theorem State.wr_scn (s : State) (r : Reg) (v : Word) : (s.wr r v).scn = s.scn := rfl
@[simp] theorem State.wr_enc (s : State) (r : Reg) (v : Word) : (s.wr r v).enc = s.enc := rfl
@[simp] theorem State.wr_encCore (s : State) (r : Reg) (v : Word) : (s.wr r v).encCore = s.encCore := rfl
@[simp] theorem State.wr_zrx (s : State) (r : Reg) (v : Word) : (s.wr r v).zrx = s.zrx := rfl
@[simp] theorem State.wr_call (s : State) (r : Reg) (v : Word) : (s.wr r v).call = s.call := rfl
@[simp] theorem State.wr_vault (s : State) (r : Reg) (v : Word) : (s.wr r v).vault = s.vault := rfl
@[simp] theorem State.wr_nv (s : State) (r : Reg) (v : Word) : (s.wr r v).nv = s.nv := rfl
@[simp] theorem State.wr_sets (s : State) (r : Reg) (v : Word) : (s.wr r v).sets = s.sets := rfl
@[simp] theorem State.wr_recs (s : State) (r : Reg) (v : Word) : (s.wr r v).recs = s.recs := rfl
@[simp] theorem State.wr_dec (s : State) (r : Reg) (v : Word) : (s.wr r v).dec = s.dec := rfl
@[simp] theorem State.wr_aud (s : State) (r : Reg) (v : Word) : (s.wr r v).aud = s.aud := rfl
@[simp] theorem State.wr_eng (s : State) (r : Reg) (v : Word) : (s.wr r v).eng = s.eng := rfl
@[simp] theorem State.wr_lnd (s : State) (r : Reg) (v : Word) : (s.wr r v).lnd = s.lnd := rfl
@[simp] theorem State.wr_spt (s : State) (r : Reg) (v : Word) : (s.wr r v).spt = s.spt := rfl
@[simp] theorem State.wr_lanes (s : State) (r : Reg) (v : Word) : (s.wr r v).lanes = s.lanes := rfl
@[simp] theorem State.wr_scripts (s : State) (r : Reg) (v : Word) : (s.wr r v).scripts = s.scripts := rfl
@[simp] theorem State.wr_rings (s : State) (r : Reg) (v : Word) : (s.wr r v).rings = s.rings := rfl
@[simp] theorem State.wr_edc (s : State) (r : Reg) (v : Word) : (s.wr r v).edc = s.edc := rfl
@[simp] theorem State.wr_retrain (s : State) (r : Reg) (v : Word) : (s.wr r v).retrain = s.retrain := rfl
@[simp] theorem State.wr_tb0 (s : State) (r : Reg) (v : Word) : (s.wr r v).tb0 = s.tb0 := rfl
@[simp] theorem State.wr_ticks (s : State) (r : Reg) (v : Word) : (s.wr r v).ticks = s.ticks := rfl
@[simp] theorem State.wr_fatalN (s : State) (r : Reg) (v : Word) : (s.wr r v).fatalN = s.fatalN := rfl
@[simp] theorem State.wr_hiZ (s : State) (r : Reg) (v : Word) : (s.wr r v).hiZ = s.hiZ := rfl
@[simp] theorem State.wr_hostData (s : State) (r : Reg) (v : Word) : (s.wr r v).hostData = s.hostData := rfl
@[simp] theorem State.wr_out (s : State) (r : Reg) (v : Word) : (s.wr r v).out = s.out := rfl
@[simp] theorem State.wr_roundFlags (s : State) (r : Reg) (v : Word) : (s.wr r v).roundFlags = s.roundFlags := rfl
@[simp] theorem State.wr_freeCtr (s : State) (r : Reg) (v : Word) : (s.wr r v).freeCtr = s.freeCtr := rfl
@[simp] theorem State.wr_pending (s : State) (r : Reg) (v : Word) : (s.wr r v).pending = s.pending := rfl

@[simp] theorem State.memPut_regs (s : State) (a : Nat) (b : Byte) : (s.memPut a b).regs = s.regs := rfl
@[simp] theorem State.memPut_blk (s : State) (a : Nat) (b : Byte) : (s.memPut a b).blk = s.blk := rfl
@[simp] theorem State.memPut_rig (s : State) (a : Nat) (b : Byte) : (s.memPut a b).rig = s.rig := rfl
@[simp] theorem State.memPut_boot (s : State) (a : Nat) (b : Byte) : (s.memPut a b).boot = s.boot := rfl
@[simp] theorem State.memPut_strm (s : State) (a : Nat) (b : Byte) : (s.memPut a b).strm = s.strm := rfl
@[simp] theorem State.memPut_log (s : State) (a : Nat) (b : Byte) : (s.memPut a b).log = s.log := rfl
@[simp] theorem State.memPut_hlt (s : State) (a : Nat) (b : Byte) : (s.memPut a b).hlt = s.hlt := rfl
@[simp] theorem State.memPut_occ (s : State) (a : Nat) (b : Byte) : (s.memPut a b).occ = s.occ := rfl
@[simp] theorem State.memPut_stk (s : State) (a : Nat) (b : Byte) : (s.memPut a b).stk = s.stk := rfl
@[simp] theorem State.memPut_coachPend (s : State) (a : Nat) (b : Byte) : (s.memPut a b).coachPend = s.coachPend := rfl
@[simp] theorem State.memPut_cat (s : State) (a : Nat) (b : Byte) : (s.memPut a b).cat = s.cat := rfl
@[simp] theorem State.memPut_calNew (s : State) (a : Nat) (b : Byte) : (s.memPut a b).calNew = s.calNew := rfl
@[simp] theorem State.memPut_colNew (s : State) (a : Nat) (b : Byte) : (s.memPut a b).colNew = s.colNew := rfl
@[simp] theorem State.memPut_drv (s : State) (a : Nat) (b : Byte) : (s.memPut a b).drv = s.drv := rfl
@[simp] theorem State.memPut_lkp (s : State) (a : Nat) (b : Byte) : (s.memPut a b).lkp = s.lkp := rfl
@[simp] theorem State.memPut_cmp (s : State) (a : Nat) (b : Byte) : (s.memPut a b).cmp = s.cmp := rfl
@[simp] theorem State.memPut_scn (s : State) (a : Nat) (b : Byte) : (s.memPut a b).scn = s.scn := rfl
@[simp] theorem State.memPut_enc (s : State) (a : Nat) (b : Byte) : (s.memPut a b).enc = s.enc := rfl
@[simp] theorem State.memPut_encCore (s : State) (a : Nat) (b : Byte) : (s.memPut a b).encCore = s.encCore := rfl
@[simp] theorem State.memPut_zrx (s : State) (a : Nat) (b : Byte) : (s.memPut a b).zrx = s.zrx := rfl
@[simp] theorem State.memPut_call (s : State) (a : Nat) (b : Byte) : (s.memPut a b).call = s.call := rfl
@[simp] theorem State.memPut_vault (s : State) (a : Nat) (b : Byte) : (s.memPut a b).vault = s.vault := rfl
@[simp] theorem State.memPut_nv (s : State) (a : Nat) (b : Byte) : (s.memPut a b).nv = s.nv := rfl
@[simp] theorem State.memPut_sets (s : State) (a : Nat) (b : Byte) : (s.memPut a b).sets = s.sets := rfl
@[simp] theorem State.memPut_recs (s : State) (a : Nat) (b : Byte) : (s.memPut a b).recs = s.recs := rfl
@[simp] theorem State.memPut_dec (s : State) (a : Nat) (b : Byte) : (s.memPut a b).dec = s.dec := rfl
@[simp] theorem State.memPut_aud (s : State) (a : Nat) (b : Byte) : (s.memPut a b).aud = s.aud := rfl
@[simp] theorem State.memPut_eng (s : State) (a : Nat) (b : Byte) : (s.memPut a b).eng = s.eng := rfl
@[simp] theorem State.memPut_lnd (s : State) (a : Nat) (b : Byte) : (s.memPut a b).lnd = s.lnd := rfl
@[simp] theorem State.memPut_spt (s : State) (a : Nat) (b : Byte) : (s.memPut a b).spt = s.spt := rfl
@[simp] theorem State.memPut_lanes (s : State) (a : Nat) (b : Byte) : (s.memPut a b).lanes = s.lanes := rfl
@[simp] theorem State.memPut_scripts (s : State) (a : Nat) (b : Byte) : (s.memPut a b).scripts = s.scripts := rfl
@[simp] theorem State.memPut_rings (s : State) (a : Nat) (b : Byte) : (s.memPut a b).rings = s.rings := rfl
@[simp] theorem State.memPut_edc (s : State) (a : Nat) (b : Byte) : (s.memPut a b).edc = s.edc := rfl
@[simp] theorem State.memPut_retrain (s : State) (a : Nat) (b : Byte) : (s.memPut a b).retrain = s.retrain := rfl
@[simp] theorem State.memPut_tb0 (s : State) (a : Nat) (b : Byte) : (s.memPut a b).tb0 = s.tb0 := rfl
@[simp] theorem State.memPut_ticks (s : State) (a : Nat) (b : Byte) : (s.memPut a b).ticks = s.ticks := rfl
@[simp] theorem State.memPut_fatalN (s : State) (a : Nat) (b : Byte) : (s.memPut a b).fatalN = s.fatalN := rfl
@[simp] theorem State.memPut_hiZ (s : State) (a : Nat) (b : Byte) : (s.memPut a b).hiZ = s.hiZ := rfl
@[simp] theorem State.memPut_hostData (s : State) (a : Nat) (b : Byte) : (s.memPut a b).hostData = s.hostData := rfl
@[simp] theorem State.memPut_out (s : State) (a : Nat) (b : Byte) : (s.memPut a b).out = s.out := rfl
@[simp] theorem State.memPut_roundFlags (s : State) (a : Nat) (b : Byte) : (s.memPut a b).roundFlags = s.roundFlags := rfl
@[simp] theorem State.memPut_freeCtr (s : State) (a : Nat) (b : Byte) : (s.memPut a b).freeCtr = s.freeCtr := rfl
@[simp] theorem State.memPut_pending (s : State) (a : Nat) (b : Byte) : (s.memPut a b).pending = s.pending := rfl

@[simp] theorem State.memWrite_regs (s : State) (a : Nat) (bs : List Byte) : (s.memWrite a bs).regs = s.regs := rfl
@[simp] theorem State.memWrite_blk (s : State) (a : Nat) (bs : List Byte) : (s.memWrite a bs).blk = s.blk := rfl
@[simp] theorem State.memWrite_rig (s : State) (a : Nat) (bs : List Byte) : (s.memWrite a bs).rig = s.rig := rfl
@[simp] theorem State.memWrite_boot (s : State) (a : Nat) (bs : List Byte) : (s.memWrite a bs).boot = s.boot := rfl
@[simp] theorem State.memWrite_strm (s : State) (a : Nat) (bs : List Byte) : (s.memWrite a bs).strm = s.strm := rfl
@[simp] theorem State.memWrite_log (s : State) (a : Nat) (bs : List Byte) : (s.memWrite a bs).log = s.log := rfl
@[simp] theorem State.memWrite_hlt (s : State) (a : Nat) (bs : List Byte) : (s.memWrite a bs).hlt = s.hlt := rfl
@[simp] theorem State.memWrite_occ (s : State) (a : Nat) (bs : List Byte) : (s.memWrite a bs).occ = s.occ := rfl
@[simp] theorem State.memWrite_stk (s : State) (a : Nat) (bs : List Byte) : (s.memWrite a bs).stk = s.stk := rfl
@[simp] theorem State.memWrite_coachPend (s : State) (a : Nat) (bs : List Byte) : (s.memWrite a bs).coachPend = s.coachPend := rfl
@[simp] theorem State.memWrite_cat (s : State) (a : Nat) (bs : List Byte) : (s.memWrite a bs).cat = s.cat := rfl
@[simp] theorem State.memWrite_calNew (s : State) (a : Nat) (bs : List Byte) : (s.memWrite a bs).calNew = s.calNew := rfl
@[simp] theorem State.memWrite_colNew (s : State) (a : Nat) (bs : List Byte) : (s.memWrite a bs).colNew = s.colNew := rfl
@[simp] theorem State.memWrite_drv (s : State) (a : Nat) (bs : List Byte) : (s.memWrite a bs).drv = s.drv := rfl
@[simp] theorem State.memWrite_lkp (s : State) (a : Nat) (bs : List Byte) : (s.memWrite a bs).lkp = s.lkp := rfl
@[simp] theorem State.memWrite_cmp (s : State) (a : Nat) (bs : List Byte) : (s.memWrite a bs).cmp = s.cmp := rfl
@[simp] theorem State.memWrite_scn (s : State) (a : Nat) (bs : List Byte) : (s.memWrite a bs).scn = s.scn := rfl
@[simp] theorem State.memWrite_enc (s : State) (a : Nat) (bs : List Byte) : (s.memWrite a bs).enc = s.enc := rfl
@[simp] theorem State.memWrite_encCore (s : State) (a : Nat) (bs : List Byte) : (s.memWrite a bs).encCore = s.encCore := rfl
@[simp] theorem State.memWrite_zrx (s : State) (a : Nat) (bs : List Byte) : (s.memWrite a bs).zrx = s.zrx := rfl
@[simp] theorem State.memWrite_call (s : State) (a : Nat) (bs : List Byte) : (s.memWrite a bs).call = s.call := rfl
@[simp] theorem State.memWrite_vault (s : State) (a : Nat) (bs : List Byte) : (s.memWrite a bs).vault = s.vault := rfl
@[simp] theorem State.memWrite_nv (s : State) (a : Nat) (bs : List Byte) : (s.memWrite a bs).nv = s.nv := rfl
@[simp] theorem State.memWrite_sets (s : State) (a : Nat) (bs : List Byte) : (s.memWrite a bs).sets = s.sets := rfl
@[simp] theorem State.memWrite_recs (s : State) (a : Nat) (bs : List Byte) : (s.memWrite a bs).recs = s.recs := rfl
@[simp] theorem State.memWrite_dec (s : State) (a : Nat) (bs : List Byte) : (s.memWrite a bs).dec = s.dec := rfl
@[simp] theorem State.memWrite_aud (s : State) (a : Nat) (bs : List Byte) : (s.memWrite a bs).aud = s.aud := rfl
@[simp] theorem State.memWrite_eng (s : State) (a : Nat) (bs : List Byte) : (s.memWrite a bs).eng = s.eng := rfl
@[simp] theorem State.memWrite_lnd (s : State) (a : Nat) (bs : List Byte) : (s.memWrite a bs).lnd = s.lnd := rfl
@[simp] theorem State.memWrite_spt (s : State) (a : Nat) (bs : List Byte) : (s.memWrite a bs).spt = s.spt := rfl
@[simp] theorem State.memWrite_lanes (s : State) (a : Nat) (bs : List Byte) : (s.memWrite a bs).lanes = s.lanes := rfl
@[simp] theorem State.memWrite_scripts (s : State) (a : Nat) (bs : List Byte) : (s.memWrite a bs).scripts = s.scripts := rfl
@[simp] theorem State.memWrite_rings (s : State) (a : Nat) (bs : List Byte) : (s.memWrite a bs).rings = s.rings := rfl
@[simp] theorem State.memWrite_edc (s : State) (a : Nat) (bs : List Byte) : (s.memWrite a bs).edc = s.edc := rfl
@[simp] theorem State.memWrite_retrain (s : State) (a : Nat) (bs : List Byte) : (s.memWrite a bs).retrain = s.retrain := rfl
@[simp] theorem State.memWrite_tb0 (s : State) (a : Nat) (bs : List Byte) : (s.memWrite a bs).tb0 = s.tb0 := rfl
@[simp] theorem State.memWrite_ticks (s : State) (a : Nat) (bs : List Byte) : (s.memWrite a bs).ticks = s.ticks := rfl
@[simp] theorem State.memWrite_fatalN (s : State) (a : Nat) (bs : List Byte) : (s.memWrite a bs).fatalN = s.fatalN := rfl
@[simp] theorem State.memWrite_hiZ (s : State) (a : Nat) (bs : List Byte) : (s.memWrite a bs).hiZ = s.hiZ := rfl
@[simp] theorem State.memWrite_hostData (s : State) (a : Nat) (bs : List Byte) : (s.memWrite a bs).hostData = s.hostData := rfl
@[simp] theorem State.memWrite_out (s : State) (a : Nat) (bs : List Byte) : (s.memWrite a bs).out = s.out := rfl
@[simp] theorem State.memWrite_roundFlags (s : State) (a : Nat) (bs : List Byte) : (s.memWrite a bs).roundFlags = s.roundFlags := rfl
@[simp] theorem State.memWrite_freeCtr (s : State) (a : Nat) (bs : List Byte) : (s.memWrite a bs).freeCtr = s.freeCtr := rfl
@[simp] theorem State.memWrite_pending (s : State) (a : Nat) (bs : List Byte) : (s.memWrite a bs).pending = s.pending := rfl

@[simp] theorem State.emit_regs (s : State) (o : Out) : (s.emit o).regs = s.regs := rfl
@[simp] theorem State.emit_g7 (s : State) (o : Out) : (s.emit o).g7 = s.g7 := rfl
@[simp] theorem State.emit_blk (s : State) (o : Out) : (s.emit o).blk = s.blk := rfl
@[simp] theorem State.emit_rig (s : State) (o : Out) : (s.emit o).rig = s.rig := rfl
@[simp] theorem State.emit_boot (s : State) (o : Out) : (s.emit o).boot = s.boot := rfl
@[simp] theorem State.emit_strm (s : State) (o : Out) : (s.emit o).strm = s.strm := rfl
@[simp] theorem State.emit_log (s : State) (o : Out) : (s.emit o).log = s.log := rfl
@[simp] theorem State.emit_hlt (s : State) (o : Out) : (s.emit o).hlt = s.hlt := rfl
@[simp] theorem State.emit_occ (s : State) (o : Out) : (s.emit o).occ = s.occ := rfl
@[simp] theorem State.emit_stk (s : State) (o : Out) : (s.emit o).stk = s.stk := rfl
@[simp] theorem State.emit_coachPend (s : State) (o : Out) : (s.emit o).coachPend = s.coachPend := rfl
@[simp] theorem State.emit_cat (s : State) (o : Out) : (s.emit o).cat = s.cat := rfl
@[simp] theorem State.emit_calNew (s : State) (o : Out) : (s.emit o).calNew = s.calNew := rfl
@[simp] theorem State.emit_colNew (s : State) (o : Out) : (s.emit o).colNew = s.colNew := rfl
@[simp] theorem State.emit_drv (s : State) (o : Out) : (s.emit o).drv = s.drv := rfl
@[simp] theorem State.emit_lkp (s : State) (o : Out) : (s.emit o).lkp = s.lkp := rfl
@[simp] theorem State.emit_cmp (s : State) (o : Out) : (s.emit o).cmp = s.cmp := rfl
@[simp] theorem State.emit_scn (s : State) (o : Out) : (s.emit o).scn = s.scn := rfl
@[simp] theorem State.emit_enc (s : State) (o : Out) : (s.emit o).enc = s.enc := rfl
@[simp] theorem State.emit_encCore (s : State) (o : Out) : (s.emit o).encCore = s.encCore := rfl
@[simp] theorem State.emit_zrx (s : State) (o : Out) : (s.emit o).zrx = s.zrx := rfl
@[simp] theorem State.emit_call (s : State) (o : Out) : (s.emit o).call = s.call := rfl
@[simp] theorem State.emit_vault (s : State) (o : Out) : (s.emit o).vault = s.vault := rfl
@[simp] theorem State.emit_nv (s : State) (o : Out) : (s.emit o).nv = s.nv := rfl
@[simp] theorem State.emit_sets (s : State) (o : Out) : (s.emit o).sets = s.sets := rfl
@[simp] theorem State.emit_recs (s : State) (o : Out) : (s.emit o).recs = s.recs := rfl
@[simp] theorem State.emit_dec (s : State) (o : Out) : (s.emit o).dec = s.dec := rfl
@[simp] theorem State.emit_aud (s : State) (o : Out) : (s.emit o).aud = s.aud := rfl
@[simp] theorem State.emit_eng (s : State) (o : Out) : (s.emit o).eng = s.eng := rfl
@[simp] theorem State.emit_lnd (s : State) (o : Out) : (s.emit o).lnd = s.lnd := rfl
@[simp] theorem State.emit_spt (s : State) (o : Out) : (s.emit o).spt = s.spt := rfl
@[simp] theorem State.emit_lanes (s : State) (o : Out) : (s.emit o).lanes = s.lanes := rfl
@[simp] theorem State.emit_scripts (s : State) (o : Out) : (s.emit o).scripts = s.scripts := rfl
@[simp] theorem State.emit_rings (s : State) (o : Out) : (s.emit o).rings = s.rings := rfl
@[simp] theorem State.emit_edc (s : State) (o : Out) : (s.emit o).edc = s.edc := rfl
@[simp] theorem State.emit_retrain (s : State) (o : Out) : (s.emit o).retrain = s.retrain := rfl
@[simp] theorem State.emit_tb0 (s : State) (o : Out) : (s.emit o).tb0 = s.tb0 := rfl
@[simp] theorem State.emit_ticks (s : State) (o : Out) : (s.emit o).ticks = s.ticks := rfl
@[simp] theorem State.emit_fatalN (s : State) (o : Out) : (s.emit o).fatalN = s.fatalN := rfl
@[simp] theorem State.emit_hiZ (s : State) (o : Out) : (s.emit o).hiZ = s.hiZ := rfl
@[simp] theorem State.emit_hostData (s : State) (o : Out) : (s.emit o).hostData = s.hostData := rfl
@[simp] theorem State.emit_roundFlags (s : State) (o : Out) : (s.emit o).roundFlags = s.roundFlags := rfl
@[simp] theorem State.emit_freeCtr (s : State) (o : Out) : (s.emit o).freeCtr = s.freeCtr := rfl
@[simp] theorem State.emit_pending (s : State) (o : Out) : (s.emit o).pending = s.pending := rfl

@[simp] theorem State.setBlk_regs (s : State) (b : Nat) (k : Blk) : (s.setBlk b k).regs = s.regs := rfl
@[simp] theorem State.setBlk_g7 (s : State) (b : Nat) (k : Blk) : (s.setBlk b k).g7 = s.g7 := rfl
@[simp] theorem State.setBlk_rig (s : State) (b : Nat) (k : Blk) : (s.setBlk b k).rig = s.rig := rfl
@[simp] theorem State.setBlk_boot (s : State) (b : Nat) (k : Blk) : (s.setBlk b k).boot = s.boot := rfl
@[simp] theorem State.setBlk_strm (s : State) (b : Nat) (k : Blk) : (s.setBlk b k).strm = s.strm := rfl
@[simp] theorem State.setBlk_log (s : State) (b : Nat) (k : Blk) : (s.setBlk b k).log = s.log := rfl
@[simp] theorem State.setBlk_hlt (s : State) (b : Nat) (k : Blk) : (s.setBlk b k).hlt = s.hlt := rfl
@[simp] theorem State.setBlk_occ (s : State) (b : Nat) (k : Blk) : (s.setBlk b k).occ = s.occ := rfl
@[simp] theorem State.setBlk_stk (s : State) (b : Nat) (k : Blk) : (s.setBlk b k).stk = s.stk := rfl
@[simp] theorem State.setBlk_coachPend (s : State) (b : Nat) (k : Blk) : (s.setBlk b k).coachPend = s.coachPend := rfl
@[simp] theorem State.setBlk_cat (s : State) (b : Nat) (k : Blk) : (s.setBlk b k).cat = s.cat := rfl
@[simp] theorem State.setBlk_calNew (s : State) (b : Nat) (k : Blk) : (s.setBlk b k).calNew = s.calNew := rfl
@[simp] theorem State.setBlk_colNew (s : State) (b : Nat) (k : Blk) : (s.setBlk b k).colNew = s.colNew := rfl
@[simp] theorem State.setBlk_drv (s : State) (b : Nat) (k : Blk) : (s.setBlk b k).drv = s.drv := rfl
@[simp] theorem State.setBlk_lkp (s : State) (b : Nat) (k : Blk) : (s.setBlk b k).lkp = s.lkp := rfl
@[simp] theorem State.setBlk_cmp (s : State) (b : Nat) (k : Blk) : (s.setBlk b k).cmp = s.cmp := rfl
@[simp] theorem State.setBlk_scn (s : State) (b : Nat) (k : Blk) : (s.setBlk b k).scn = s.scn := rfl
@[simp] theorem State.setBlk_enc (s : State) (b : Nat) (k : Blk) : (s.setBlk b k).enc = s.enc := rfl
@[simp] theorem State.setBlk_encCore (s : State) (b : Nat) (k : Blk) : (s.setBlk b k).encCore = s.encCore := rfl
@[simp] theorem State.setBlk_zrx (s : State) (b : Nat) (k : Blk) : (s.setBlk b k).zrx = s.zrx := rfl
@[simp] theorem State.setBlk_call (s : State) (b : Nat) (k : Blk) : (s.setBlk b k).call = s.call := rfl
@[simp] theorem State.setBlk_vault (s : State) (b : Nat) (k : Blk) : (s.setBlk b k).vault = s.vault := rfl
@[simp] theorem State.setBlk_nv (s : State) (b : Nat) (k : Blk) : (s.setBlk b k).nv = s.nv := rfl
@[simp] theorem State.setBlk_sets (s : State) (b : Nat) (k : Blk) : (s.setBlk b k).sets = s.sets := rfl
@[simp] theorem State.setBlk_recs (s : State) (b : Nat) (k : Blk) : (s.setBlk b k).recs = s.recs := rfl
@[simp] theorem State.setBlk_dec (s : State) (b : Nat) (k : Blk) : (s.setBlk b k).dec = s.dec := rfl
@[simp] theorem State.setBlk_aud (s : State) (b : Nat) (k : Blk) : (s.setBlk b k).aud = s.aud := rfl
@[simp] theorem State.setBlk_eng (s : State) (b : Nat) (k : Blk) : (s.setBlk b k).eng = s.eng := rfl
@[simp] theorem State.setBlk_lnd (s : State) (b : Nat) (k : Blk) : (s.setBlk b k).lnd = s.lnd := rfl
@[simp] theorem State.setBlk_spt (s : State) (b : Nat) (k : Blk) : (s.setBlk b k).spt = s.spt := rfl
@[simp] theorem State.setBlk_lanes (s : State) (b : Nat) (k : Blk) : (s.setBlk b k).lanes = s.lanes := rfl
@[simp] theorem State.setBlk_scripts (s : State) (b : Nat) (k : Blk) : (s.setBlk b k).scripts = s.scripts := rfl
@[simp] theorem State.setBlk_rings (s : State) (b : Nat) (k : Blk) : (s.setBlk b k).rings = s.rings := rfl
@[simp] theorem State.setBlk_edc (s : State) (b : Nat) (k : Blk) : (s.setBlk b k).edc = s.edc := rfl
@[simp] theorem State.setBlk_retrain (s : State) (b : Nat) (k : Blk) : (s.setBlk b k).retrain = s.retrain := rfl
@[simp] theorem State.setBlk_tb0 (s : State) (b : Nat) (k : Blk) : (s.setBlk b k).tb0 = s.tb0 := rfl
@[simp] theorem State.setBlk_ticks (s : State) (b : Nat) (k : Blk) : (s.setBlk b k).ticks = s.ticks := rfl
@[simp] theorem State.setBlk_fatalN (s : State) (b : Nat) (k : Blk) : (s.setBlk b k).fatalN = s.fatalN := rfl
@[simp] theorem State.setBlk_hiZ (s : State) (b : Nat) (k : Blk) : (s.setBlk b k).hiZ = s.hiZ := rfl
@[simp] theorem State.setBlk_hostData (s : State) (b : Nat) (k : Blk) : (s.setBlk b k).hostData = s.hostData := rfl
@[simp] theorem State.setBlk_out (s : State) (b : Nat) (k : Blk) : (s.setBlk b k).out = s.out := rfl
@[simp] theorem State.setBlk_roundFlags (s : State) (b : Nat) (k : Blk) : (s.setBlk b k).roundFlags = s.roundFlags := rfl
@[simp] theorem State.setBlk_freeCtr (s : State) (b : Nat) (k : Blk) : (s.setBlk b k).freeCtr = s.freeCtr := rfl
@[simp] theorem State.setBlk_pending (s : State) (b : Nat) (k : Blk) : (s.setBlk b k).pending = s.pending := rfl

@[simp] theorem State.useFree_regs (s : State) : (s.useFree).regs = s.regs := rfl
@[simp] theorem State.useFree_g7 (s : State) : (s.useFree).g7 = s.g7 := rfl
@[simp] theorem State.useFree_blk (s : State) : (s.useFree).blk = s.blk := rfl
@[simp] theorem State.useFree_rig (s : State) : (s.useFree).rig = s.rig := rfl
@[simp] theorem State.useFree_boot (s : State) : (s.useFree).boot = s.boot := rfl
@[simp] theorem State.useFree_strm (s : State) : (s.useFree).strm = s.strm := rfl
@[simp] theorem State.useFree_log (s : State) : (s.useFree).log = s.log := rfl
@[simp] theorem State.useFree_hlt (s : State) : (s.useFree).hlt = s.hlt := rfl
@[simp] theorem State.useFree_occ (s : State) : (s.useFree).occ = s.occ := rfl
@[simp] theorem State.useFree_stk (s : State) : (s.useFree).stk = s.stk := rfl
@[simp] theorem State.useFree_coachPend (s : State) : (s.useFree).coachPend = s.coachPend := rfl
@[simp] theorem State.useFree_cat (s : State) : (s.useFree).cat = s.cat := rfl
@[simp] theorem State.useFree_calNew (s : State) : (s.useFree).calNew = s.calNew := rfl
@[simp] theorem State.useFree_colNew (s : State) : (s.useFree).colNew = s.colNew := rfl
@[simp] theorem State.useFree_drv (s : State) : (s.useFree).drv = s.drv := rfl
@[simp] theorem State.useFree_lkp (s : State) : (s.useFree).lkp = s.lkp := rfl
@[simp] theorem State.useFree_cmp (s : State) : (s.useFree).cmp = s.cmp := rfl
@[simp] theorem State.useFree_scn (s : State) : (s.useFree).scn = s.scn := rfl
@[simp] theorem State.useFree_enc (s : State) : (s.useFree).enc = s.enc := rfl
@[simp] theorem State.useFree_encCore (s : State) : (s.useFree).encCore = s.encCore := rfl
@[simp] theorem State.useFree_zrx (s : State) : (s.useFree).zrx = s.zrx := rfl
@[simp] theorem State.useFree_call (s : State) : (s.useFree).call = s.call := rfl
@[simp] theorem State.useFree_vault (s : State) : (s.useFree).vault = s.vault := rfl
@[simp] theorem State.useFree_nv (s : State) : (s.useFree).nv = s.nv := rfl
@[simp] theorem State.useFree_sets (s : State) : (s.useFree).sets = s.sets := rfl
@[simp] theorem State.useFree_recs (s : State) : (s.useFree).recs = s.recs := rfl
@[simp] theorem State.useFree_dec (s : State) : (s.useFree).dec = s.dec := rfl
@[simp] theorem State.useFree_aud (s : State) : (s.useFree).aud = s.aud := rfl
@[simp] theorem State.useFree_eng (s : State) : (s.useFree).eng = s.eng := rfl
@[simp] theorem State.useFree_lnd (s : State) : (s.useFree).lnd = s.lnd := rfl
@[simp] theorem State.useFree_spt (s : State) : (s.useFree).spt = s.spt := rfl
@[simp] theorem State.useFree_lanes (s : State) : (s.useFree).lanes = s.lanes := rfl
@[simp] theorem State.useFree_scripts (s : State) : (s.useFree).scripts = s.scripts := rfl
@[simp] theorem State.useFree_rings (s : State) : (s.useFree).rings = s.rings := rfl
@[simp] theorem State.useFree_edc (s : State) : (s.useFree).edc = s.edc := rfl
@[simp] theorem State.useFree_retrain (s : State) : (s.useFree).retrain = s.retrain := rfl
@[simp] theorem State.useFree_tb0 (s : State) : (s.useFree).tb0 = s.tb0 := rfl
@[simp] theorem State.useFree_ticks (s : State) : (s.useFree).ticks = s.ticks := rfl
@[simp] theorem State.useFree_fatalN (s : State) : (s.useFree).fatalN = s.fatalN := rfl
@[simp] theorem State.useFree_hiZ (s : State) : (s.useFree).hiZ = s.hiZ := rfl
@[simp] theorem State.useFree_hostData (s : State) : (s.useFree).hostData = s.hostData := rfl
@[simp] theorem State.useFree_out (s : State) : (s.useFree).out = s.out := rfl
@[simp] theorem State.useFree_roundFlags (s : State) : (s.useFree).roundFlags = s.roundFlags := rfl
@[simp] theorem State.useFree_pending (s : State) : (s.useFree).pending = s.pending := rfl

@[simp] theorem State.raise_g7 (s : State) (ev src : Nat) (items : List Word) : (s.raise ev src items).g7 = s.g7 := rfl
@[simp] theorem State.raise_blk (s : State) (ev src : Nat) (items : List Word) : (s.raise ev src items).blk = s.blk := rfl
@[simp] theorem State.raise_rig (s : State) (ev src : Nat) (items : List Word) : (s.raise ev src items).rig = s.rig := rfl
@[simp] theorem State.raise_boot (s : State) (ev src : Nat) (items : List Word) : (s.raise ev src items).boot = s.boot := rfl
@[simp] theorem State.raise_strm (s : State) (ev src : Nat) (items : List Word) : (s.raise ev src items).strm = s.strm := rfl
@[simp] theorem State.raise_log (s : State) (ev src : Nat) (items : List Word) : (s.raise ev src items).log = s.log := rfl
@[simp] theorem State.raise_hlt (s : State) (ev src : Nat) (items : List Word) : (s.raise ev src items).hlt = s.hlt := rfl
@[simp] theorem State.raise_stk (s : State) (ev src : Nat) (items : List Word) : (s.raise ev src items).stk = s.stk := rfl
@[simp] theorem State.raise_coachPend (s : State) (ev src : Nat) (items : List Word) : (s.raise ev src items).coachPend = s.coachPend := rfl
@[simp] theorem State.raise_cat (s : State) (ev src : Nat) (items : List Word) : (s.raise ev src items).cat = s.cat := rfl
@[simp] theorem State.raise_calNew (s : State) (ev src : Nat) (items : List Word) : (s.raise ev src items).calNew = s.calNew := rfl
@[simp] theorem State.raise_colNew (s : State) (ev src : Nat) (items : List Word) : (s.raise ev src items).colNew = s.colNew := rfl
@[simp] theorem State.raise_drv (s : State) (ev src : Nat) (items : List Word) : (s.raise ev src items).drv = s.drv := rfl
@[simp] theorem State.raise_lkp (s : State) (ev src : Nat) (items : List Word) : (s.raise ev src items).lkp = s.lkp := rfl
@[simp] theorem State.raise_cmp (s : State) (ev src : Nat) (items : List Word) : (s.raise ev src items).cmp = s.cmp := rfl
@[simp] theorem State.raise_scn (s : State) (ev src : Nat) (items : List Word) : (s.raise ev src items).scn = s.scn := rfl
@[simp] theorem State.raise_enc (s : State) (ev src : Nat) (items : List Word) : (s.raise ev src items).enc = s.enc := rfl
@[simp] theorem State.raise_encCore (s : State) (ev src : Nat) (items : List Word) : (s.raise ev src items).encCore = s.encCore := rfl
@[simp] theorem State.raise_zrx (s : State) (ev src : Nat) (items : List Word) : (s.raise ev src items).zrx = s.zrx := rfl
@[simp] theorem State.raise_call (s : State) (ev src : Nat) (items : List Word) : (s.raise ev src items).call = s.call := rfl
@[simp] theorem State.raise_vault (s : State) (ev src : Nat) (items : List Word) : (s.raise ev src items).vault = s.vault := rfl
@[simp] theorem State.raise_nv (s : State) (ev src : Nat) (items : List Word) : (s.raise ev src items).nv = s.nv := rfl
@[simp] theorem State.raise_sets (s : State) (ev src : Nat) (items : List Word) : (s.raise ev src items).sets = s.sets := rfl
@[simp] theorem State.raise_recs (s : State) (ev src : Nat) (items : List Word) : (s.raise ev src items).recs = s.recs := rfl
@[simp] theorem State.raise_dec (s : State) (ev src : Nat) (items : List Word) : (s.raise ev src items).dec = s.dec := rfl
@[simp] theorem State.raise_aud (s : State) (ev src : Nat) (items : List Word) : (s.raise ev src items).aud = s.aud := rfl
@[simp] theorem State.raise_eng (s : State) (ev src : Nat) (items : List Word) : (s.raise ev src items).eng = s.eng := rfl
@[simp] theorem State.raise_lnd (s : State) (ev src : Nat) (items : List Word) : (s.raise ev src items).lnd = s.lnd := rfl
@[simp] theorem State.raise_spt (s : State) (ev src : Nat) (items : List Word) : (s.raise ev src items).spt = s.spt := rfl
@[simp] theorem State.raise_lanes (s : State) (ev src : Nat) (items : List Word) : (s.raise ev src items).lanes = s.lanes := rfl
@[simp] theorem State.raise_scripts (s : State) (ev src : Nat) (items : List Word) : (s.raise ev src items).scripts = s.scripts := rfl
@[simp] theorem State.raise_rings (s : State) (ev src : Nat) (items : List Word) : (s.raise ev src items).rings = s.rings := rfl
@[simp] theorem State.raise_edc (s : State) (ev src : Nat) (items : List Word) : (s.raise ev src items).edc = s.edc := rfl
@[simp] theorem State.raise_retrain (s : State) (ev src : Nat) (items : List Word) : (s.raise ev src items).retrain = s.retrain := rfl
@[simp] theorem State.raise_tb0 (s : State) (ev src : Nat) (items : List Word) : (s.raise ev src items).tb0 = s.tb0 := rfl
@[simp] theorem State.raise_ticks (s : State) (ev src : Nat) (items : List Word) : (s.raise ev src items).ticks = s.ticks := rfl
@[simp] theorem State.raise_fatalN (s : State) (ev src : Nat) (items : List Word) : (s.raise ev src items).fatalN = s.fatalN := rfl
@[simp] theorem State.raise_hiZ (s : State) (ev src : Nat) (items : List Word) : (s.raise ev src items).hiZ = s.hiZ := rfl
@[simp] theorem State.raise_hostData (s : State) (ev src : Nat) (items : List Word) : (s.raise ev src items).hostData = s.hostData := rfl
@[simp] theorem State.raise_out (s : State) (ev src : Nat) (items : List Word) : (s.raise ev src items).out = s.out := rfl
@[simp] theorem State.raise_roundFlags (s : State) (ev src : Nat) (items : List Word) : (s.raise ev src items).roundFlags = s.roundFlags := rfl
@[simp] theorem State.raise_freeCtr (s : State) (ev src : Nat) (items : List Word) : (s.raise ev src items).freeCtr = s.freeCtr := rfl
@[simp] theorem State.raise_pending (s : State) (ev src : Nat) (items : List Word) : (s.raise ev src items).pending = s.pending := rfl

@[simp] theorem State.settle_regs (s u : State) : (s.settle u).regs = u.regs := rfl
@[simp] theorem State.settle_g7 (s u : State) : (s.settle u).g7 = u.g7 := rfl
@[simp] theorem State.settle_blk (s u : State) : (s.settle u).blk = u.blk := rfl
@[simp] theorem State.settle_rig (s u : State) : (s.settle u).rig = u.rig := rfl
@[simp] theorem State.settle_boot (s u : State) : (s.settle u).boot = u.boot := rfl
@[simp] theorem State.settle_strm (s u : State) : (s.settle u).strm = u.strm := rfl
@[simp] theorem State.settle_log (s u : State) : (s.settle u).log = u.log := rfl
@[simp] theorem State.settle_hlt (s u : State) : (s.settle u).hlt = u.hlt := rfl
@[simp] theorem State.settle_stk (s u : State) : (s.settle u).stk = u.stk := rfl
@[simp] theorem State.settle_coachPend (s u : State) : (s.settle u).coachPend = u.coachPend := rfl
@[simp] theorem State.settle_cat (s u : State) : (s.settle u).cat = u.cat := rfl
@[simp] theorem State.settle_calNew (s u : State) : (s.settle u).calNew = u.calNew := rfl
@[simp] theorem State.settle_colNew (s u : State) : (s.settle u).colNew = u.colNew := rfl
@[simp] theorem State.settle_drv (s u : State) : (s.settle u).drv = u.drv := rfl
@[simp] theorem State.settle_lkp (s u : State) : (s.settle u).lkp = u.lkp := rfl
@[simp] theorem State.settle_cmp (s u : State) : (s.settle u).cmp = u.cmp := rfl
@[simp] theorem State.settle_scn (s u : State) : (s.settle u).scn = u.scn := rfl
@[simp] theorem State.settle_enc (s u : State) : (s.settle u).enc = u.enc := rfl
@[simp] theorem State.settle_encCore (s u : State) : (s.settle u).encCore = u.encCore := rfl
@[simp] theorem State.settle_zrx (s u : State) : (s.settle u).zrx = u.zrx := rfl
@[simp] theorem State.settle_call (s u : State) : (s.settle u).call = u.call := rfl
@[simp] theorem State.settle_vault (s u : State) : (s.settle u).vault = u.vault := rfl
@[simp] theorem State.settle_nv (s u : State) : (s.settle u).nv = u.nv := rfl
@[simp] theorem State.settle_sets (s u : State) : (s.settle u).sets = u.sets := rfl
@[simp] theorem State.settle_recs (s u : State) : (s.settle u).recs = u.recs := rfl
@[simp] theorem State.settle_dec (s u : State) : (s.settle u).dec = u.dec := rfl
@[simp] theorem State.settle_aud (s u : State) : (s.settle u).aud = u.aud := rfl
@[simp] theorem State.settle_eng (s u : State) : (s.settle u).eng = u.eng := rfl
@[simp] theorem State.settle_lnd (s u : State) : (s.settle u).lnd = u.lnd := rfl
@[simp] theorem State.settle_spt (s u : State) : (s.settle u).spt = u.spt := rfl
@[simp] theorem State.settle_lanes (s u : State) : (s.settle u).lanes = u.lanes := rfl
@[simp] theorem State.settle_scripts (s u : State) : (s.settle u).scripts = u.scripts := rfl
@[simp] theorem State.settle_rings (s u : State) : (s.settle u).rings = u.rings := rfl
@[simp] theorem State.settle_edc (s u : State) : (s.settle u).edc = u.edc := rfl
@[simp] theorem State.settle_retrain (s u : State) : (s.settle u).retrain = u.retrain := rfl
@[simp] theorem State.settle_tb0 (s u : State) : (s.settle u).tb0 = u.tb0 := rfl
@[simp] theorem State.settle_ticks (s u : State) : (s.settle u).ticks = u.ticks := rfl
@[simp] theorem State.settle_fatalN (s u : State) : (s.settle u).fatalN = u.fatalN := rfl
@[simp] theorem State.settle_hiZ (s u : State) : (s.settle u).hiZ = u.hiZ := rfl
@[simp] theorem State.settle_hostData (s u : State) : (s.settle u).hostData = u.hostData := rfl
@[simp] theorem State.settle_out (s u : State) : (s.settle u).out = u.out := rfl
@[simp] theorem State.settle_roundFlags (s u : State) : (s.settle u).roundFlags = u.roundFlags := rfl
@[simp] theorem State.settle_freeCtr (s u : State) : (s.settle u).freeCtr = u.freeCtr := rfl
@[simp] theorem State.settle_pending (s u : State) : (s.settle u).pending = u.pending := rfl

end Sys2Proof.Machine
end

