-- ==== Sys2Proof/Laws/Ops.lean ====
section
/-! SUPPORT. Laws of the named operations: reading registers after writing them, fields, events, memory, and accesses. -/

namespace Sys2Proof.Machine

/-! ### Registers -/

theorem State.wr_regs (s : State) (r : Reg) (v : Word) : (s.wr r v).regs = tabSet s.regs r.reset r.off v := rfl

/-- A register reads as written. -/
@[simp] theorem State.rd_wr_self (s : State) (r : Reg) (v : Word) : (s.wr r v).rd r = v := tabGet_set_self _ _ _ _

/-- Another register reads as before. -/
theorem State.rd_wr_ne (s : State) {r q : Reg} (v : Word) (h : q.off ≠ r.off) : (s.wr r v).rd q = s.rd q := tabGet_set_ne _ _ _ _ h

/-- The entry of another offset stays. -/
theorem State.reg?_wr_ne (s : State) (r : Reg) (v : Word) {o : Nat} (h : o ≠ r.off) : tabGet? (s.wr r v).regs o = tabGet? s.regs o :=
  tabGet?_set_ne _ _ _ h

theorem State.setFld_eq (s : State) (r : Reg) (f : Fld) (n : Nat) : s.setFld r f n = s.wr r (f.put (s.rd r) n) := rfl
theorem State.setBit_eq (s : State) (r : Reg) (f : Fld) (b : Bool) : s.setBit r f b = s.wr r (f.put (s.rd r) (b2n b)) := rfl
theorem State.inc_eq (s : State) (r : Reg) (n : Nat) : s.inc r n = s.wr r (satAdd (s.rd r) n) := rfl
theorem State.incWrap_eq (s : State) (r : Reg) : s.incWrap r = s.wr r (s.rd r + 1) := rfl

/-- The table keeps its order. -/
theorem State.wr_sorted (s : State) (r : Reg) (v : Word) (h : tabSorted s.regs = true) : tabSorted (s.wr r v).regs = true := tabSorted_set _ _ _ h

/-! ### Events -/

/-- An event counts, keeps its VALUE, and its occurrence awaits delivery. -/
theorem State.raise_eq (s : State) (ev src : Nat) (items : List Word) :
    s.raise ev src items =
      { ((s.wr (EVT_R_CNT ev) (satAdd (s.rd (EVT_R_CNT ev)) 1)).wr (EVT_R_LAST ev) (items.headD 0)) with
        occ := s.occ ++ [⟨ev, src, items.headD 0, items.tail, s.ns, s.rd (EVT_R_CFG ev), s.rd (EVT_R_TGT ev)⟩] } := rfl

theorem State.raise_occ (s : State) (ev src : Nat) (items : List Word) :
    (s.raise ev src items).occ = s.occ ++ [⟨ev, src, items.headD 0, items.tail, s.ns, s.rd (EVT_R_CFG ev), s.rd (EVT_R_TGT ev)⟩] := rfl

/-- A register that is no counter or last value of the event reads as before. -/
theorem State.rd_raise (s : State) (ev src : Nat) (items : List Word) {r : Reg} (h1 : r.off ≠ (EVT_R_CNT ev).off) (h2 : r.off ≠ (EVT_R_LAST ev).off) :
    (s.raise ev src items).rd r = s.rd r :=
  (State.rd_wr_ne _ _ h2).trans (State.rd_wr_ne _ _ h1)

theorem State.reg?_raise (s : State) (ev src : Nat) (items : List Word) {o : Nat} (h1 : o ≠ (EVT_R_CNT ev).off) (h2 : o ≠ (EVT_R_LAST ev).off) :
    tabGet? (s.raise ev src items).regs o = tabGet? s.regs o :=
  (State.reg?_wr_ne _ _ _ h2).trans (State.reg?_wr_ne _ _ _ h1)

theorem State.raise_sorted (s : State) (ev src : Nat) (items : List Word) (h : tabSorted s.regs = true) :
    tabSorted (s.raise ev src items).regs = true := State.wr_sorted _ _ _ (State.wr_sorted _ _ _ h)

/-- A command that raised nothing needs no ordering. -/
theorem State.settle_same {s t : State} (h : t.occ = s.occ) : s.settle t = t := by
  have : t.occ.take s.occ.length ++ occSort (t.occ.drop s.occ.length) = t.occ := by rw [h]; simp [occSort]
  unfold State.settle; rw [this]

/-- A command that raised one event needs no ordering. -/
theorem State.settle_one {s t : State} {o : Occ} (h : t.occ = s.occ ++ [o]) : s.settle t = t := by
  have : t.occ.take s.occ.length ++ occSort (t.occ.drop s.occ.length) = t.occ := by rw [h]; simp [occSort, occInsert]
  unfold State.settle; rw [this]

@[simp] theorem State.rd_settle (s t : State) (r : Reg) : (s.settle t).rd r = t.rd r := rfl

/-- Occurrences taken in order are the same occurrences. -/
theorem occInsert_length (o : Occ) : ∀ l : List Occ, (occInsert o l).length = l.length + 1
  | [] => rfl
  | p :: ps => by rw [occInsert]; split <;> simp [occInsert_length o ps]

/-! ### Memory -/

/-- A byte outside those written reads as before. -/
theorem State.mem_memWrite_out (s : State) (a : Nat) (bs : List Byte) {b : Nat} (h : b < a ∨ a + bs.length ≤ b) : (s.memWrite a bs).mem b = s.mem b := by
  unfold State.memWrite State.mem tabGet
  rw [tabGet?_fill_out _ _ _ _ _ h]

/-- A write keeps the canonical form of memory. -/
theorem State.memWrite_wf (s : State) (a : Nat) (bs : List Byte) (h : Memory.wf s.g7) : Memory.wf (s.memWrite a bs).g7 := tabWf_fill _ _ _ _ h
theorem State.memPut_wf (s : State) (a : Nat) (b : Byte) (h : Memory.wf s.g7) : Memory.wf (s.memPut a b).g7 := tabWf_set _ _ _ h
@[simp] theorem State.mem_memPut_self (s : State) (a : Nat) (b : Byte) : (s.memPut a b).mem a = b := tabGet_set_self _ _ _ _
theorem State.mem_memPut_ne (s : State) {a c : Nat} (b : Byte) (h : c ≠ a) : (s.memPut a b).mem c = s.mem c := tabGet_set_ne _ _ _ _ h

theorem State.ringWrite_wf (base size : Nat) : ∀ (bs : List Byte) (s : State) (off : Nat), Memory.wf s.g7 → Memory.wf (s.ringWrite base size off bs).g7
  | [], _, _, h => h
  | b :: bs, s, _, h => State.ringWrite_wf base size bs _ _ (State.memPut_wf s _ b h)

/-! ### Host accesses -/

/-- An access that reaches its register takes its effect. -/
theorem State.hostDo_reach (s : State) (r : Reg) (w : Bool) (f : State → State) (h : s.hostUp = true) (a : s.accessible r.off = true) :
    s.hostDo r w f = f s := by simp [State.hostDo, h, a]

/-- Before stage LOADER, and after the clocks have stopped, nothing reaches the endpoint. -/
theorem State.hostDo_down (s : State) (r : Reg) (w : Bool) (f : State → State) (h : s.hostUp = false) : s.hostDo r w f = s := by
  simp [State.hostDo, h]

end Sys2Proof.Machine
end

