-- ==== Sys2Proof/WellFormed.lean ====
section
/-! DEFINITION. Which commands a sender can give: the bounds on operands that their types do not say. A meaning is total on the others too. -/

namespace Sys2Proof

open Sys2Proof.Machine

/-- What a context's instructions have left names registers of the Oar, and a legal SEW or none (R411). -/
def Machine.OarRun.wf (r : OarRun) : Bool :=
  r.x.all (fun e => decide (e.1 < 32)) && r.f.all (fun e => decide (e.1 < 32)) && r.v.all (fun e => decide (e.1 < 32)) &&
  r.csrs.all (fun e => decide (e.1 < 4096)) && [0, 8, 16, 32, 64].contains r.sew && decide (r.vl ≤ 512)

/-- A cell error names a block of R47, and a seat only in an Eight (R424). -/
def unitWf (unit : FaultUnit) (seat : Option (Fin 9)) : Bool :=
  match unit, seat with
  | .block bid, none => bidValid bid.toNat
  | .block bid, some _ => bidValid bid.toNat && bidType bid.toNat == 1
  | .marshal _, none => true
  | .marshal _, some _ => false

/-- A command is well-formed. -/
def Instr.wf : Instr → Bool
  | .hostRegisterWrite _ size v _ => decide (v.toNat < 256 ^ 2 ^ size.val)
  | .loaderVerified _ img _ _ _ => decide (img.length ≤ 4194304)
  | .blockResetTimeout bid => bidValid bid.toNat
  | .blockBoundaryReached bid => bidValid bid.toNat
  | .rigBlockHeld bid => bidValid bid.toNat
  | .cellCorrectedError bid _ => bidValid bid.toNat
  | .cellUncorrectableError unit seat => unitWf unit seat
  | .coxControlParityError bid => bidValid bid.toNat
  | .coxAnswerTimeout bid => bidValid bid.toNat
  | .gddr7Request _ write _ data length _ _ _ _ _ => decide (1 ≤ length.toNat) && (if write then data.length == length.toNat else data.isEmpty)
  | .slotDelivery errs => decide (errs.length ≤ 4)
  | .zlBlockInvalid _ k _ => decide (k < 96)
  | .zlAlign _ lanes => decide (1 ≤ lanes.length && lanes.length ≤ 96)
  | .zlTrain _ k _ => decide (k < 96)
  | .zlIdle _ k _ => decide (k < 96)
  | .legacyAlignDone _ offs => offs.length == 12
  | .scnLine _ missed => missed.all (fun m => decide (m.1 < 8))
  | .stpop _ _ _ _ _ run => run.wf
  | .stpush _ _ _ _ _ run => run.wf
  | .vstpop _ _ _ _ _ run => run.wf
  | .vstpush _ _ _ _ _ run => run.wf
  | .swait _ _ _ _ _ _ run => run.wf
  | .evraise _ _ _ _ _ _ run => run.wf
  | .dmastart _ _ _ _ _ _ run => run.wf
  | .dmawait _ _ _ _ _ _ run => run.wf
  | .oarTrap _ _ _ _ run => run.wf
  | .bar2Access write _ data len => if write then decide (1 ≤ data.length && data.length ≤ 4096) else decide (1 ≤ len.toNat && len.toNat ≤ 4096) && data.isEmpty
  | .hostDmaDescDone _ desc _ _ => desc.length == 32
  | .callSubmit _ entries _ => decide (entries.length ≤ 255) && entries.all (fun b => b.length == 64)
  | .ethRxFrame _ f _ _ => !f.isEmpty
  | .ethTxFrameSent _ _ desc _ => desc.length == 16
  | .rcRead addr size _ => decide (addr.toNat % 4 + 2 ^ size.val ≤ 4)
  | .unmappedAccess _ _ _
  | .stkTb0NowRead
  | .umpSDelayLoRead _
  | .vltRtcLoRead
  | .logSeqLoRead
  | .logOptimeLoRead
  | .powerOnReset _ _ _ _ _
  | .bootPllLocked
  | .selftestDone _ _
  | .g7TrainingDone _ _ _
  | .paddleTimeout
  | .hostWarmReset
  | .regionReset _
  | .regionDown _
  | .regionBoundaryReached _
  | .regionResetTimeout _
  | .blockReset _
  | .shutdown _
  | .shutdownStepDone
  | .shutdownStepTimeout
  | .rigCmdCommit
  | .rigCmdCheck
  | .rigCmdAbort
  | .rigCmdRepair _ _
  | .rigImageCopied
  | .rigChecksComplete
  | .rigBoundaryTimeout
  | .eightRemapRestart _
  | .coursePortError _
  | .streamBoundaryStop _
  | .g7ChannelRetrain _
  | .streamDataProduced _ _ _
  | .streamDataConsumed _ _
  | .tb0IncWrite _ _
  | .tb0Step _ _
  | .tb0Wrap
  | .tb1ModeWrite _
  | .genlockPulse _ _
  | .tb1HoldoverTimeout
  | .tb1AlignWrite _
  | .tb1AlignReached
  | .tb3Enable _
  | .mainsEdgeConfirmed
  | .tb3HoldoverTimeout
  | .slotArm _
  | .slotDisarm _ _
  | .slotCompareWrite _ _ _
  | .slotMatch _
  | .gpioPulseEnd _
  | .ptpPTxqPop _
  | .ptpAnnounceTimeout _
  | .laneIdleExit _
  | .eqAdaptDone _
  | .trainTimeout _
  | .lockTimeout _
  | .zlFrameStart _ _
  | .zlLineStart _ _
  | .zlPayload _ _
  | .zlLineEnd _ _
  | .zlFrameEnd _ _
  | .zlStatus _ _
  | .zlResponse _ _ _
  | .zlSleep _ _
  | .lineTimeout _
  | .frameTimeout _
  | .sgDeadline _
  | .sgRejoinWrite _ _
  | .sptCmdGo _ _
  | .sptCmdTimeout _
  | .cmdlTxIdleTimeout _
  | .cmdlWakeTimeout _
  | .triggerPulseEnd _
  | .sptLBitslip _ _ _
  | .legacyAlign _ _
  | .legacyRun _ _
  | .legacySyncCode _ _
  | .scriptGo _ _
  | .scriptEntryDone _ _
  | .catUserCommitGo _ _
  | .catTblDataAccess _ _ _
  | .catDefDataAccess _ _ _
  | .catDefQuery _ _
  | .catDefQueryDone _
  | .defectIndexBuilt _
  | .calStoreVerified _ _ _
  | .headTempStale _
  | .bufferRelease _ _ _
  | .drvHCommitGo _ _ _
  | .drvPrecomputeDone _
  | .drvHIllDataAccess _ _ _ _
  | .lkpSwap _ _
  | .lkpBankCopyDone _
  | .lkpTblDataAccess _ _ _ _
  | .lkpFrameWritten _
  | .layerCommit _ _ _
  | .layerPost _ _ _
  | .buoyLearn _ _ _
  | .buoyFsClear _ _ _
  | .wbFrameWritten _
  | .timingWrite _ _
  | .scnSoftStop _ _
  | .scnStart _ _
  | .scnPsrExit _ _
  | .scnPllLocked _ _
  | .scnRelockTimeout _
  | .scnFrameStart _
  | .scnDeliveryTimeout _
  | .scnSbGo _ _
  | .scnSbDone _ _ _
  | .hpdChange _ _
  | .scnLinkTrained _ _ _
  | .encPictureStart _ _ _
  | .encCtuRowDone _ _ _ _
  | .encPictureDone _
  | .encSessionCommit _ _ _
  | .encBsRpWrite _ _ _
  | .zrxFrameStart _
  | .zrxTileCoded _
  | .zrxFrameDone _
  | .zrxOutRpWrite _ _
  | .cmxFallback
  | .cmxRestore
  | .cmxJobSubmit _ _
  | .cmxJobComplete _
  | .recArm _
  | .recDisarm _
  | .recStart _
  | .recStop _
  | .nvmeCompletion _ _ _ _
  | .nvmeCmdTimeout _ _
  | .nvmeAbortTimeout _ _
  | .setMount _ _
  | .setMountDone _ _
  | .setFormat _ _
  | .setFormatDone _
  | .clipDelete _ _
  | .decLoad _ _
  | .decPlay _ _
  | .decPause _ _
  | .decSeek _ _
  | .decStep _ _
  | .decStop _ _
  | .decCmdDone _ _
  | .decPictureDecoded _ _
  | .decInWpWrite _ _
  | .audStart _
  | .audStop _
  | .audPortStarted _ _
  | .audFrameSync _ _ _ _ _
  | .audFsTimeout _
  | .audMaskWrite _ _ _
  | .audMuteWrite _ _ _
  | .audWpWrite _ _
  | .audRampEnd _ _
  | .swaitTimeout _ _ _
  | .oarDmaComplete _ _ _ _ _
  | .oarContextResume _ _ _
  | .seatPeriodRefill _
  | .tapWord _ _ _
  | .eightWatchdog _ _ _
  | .coachFault _
  | .coachHandoverDone _
  | .coachRestarted _
  | .quadLinkUp _ _ _ _ _
  | .quadLinkDown _
  | .quadTrainTimeout _
  | .quadRetryDetect _
  | .ethLpiEntry _
  | .hostDmaSubmit _ _
  | .msixUnmask _ _
  | .callQueueEnable _ _
  | .answerQueueEnable _ _
  | .answerHeadWrite _ _
  | .callNop _
  | .callIdentify _
  | .callRigCheck _
  | .callRigCommit _
  | .callRigAbort _
  | .callRigRepair _
  | .callCalLoad _
  | .callTimeRead _
  | .callTimeStep _
  | .callTimeInc _
  | .callTimeAlign _
  | .callRecArm _
  | .callRecDisarm _
  | .callRecStart _
  | .callRecStop _
  | .callSetMount _
  | .callSetFormat _
  | .callClipDelete _
  | .callDirRead _
  | .callVault _ _ _
  | .ethTxTailWrite _ _ _
  | .ethSendPacket _
  | .rtpWindowExpire _
  | .rtpPathSilent _ _
  | .vaultMbGo _
  | .vaultStatus
  | .vaultSelftest _
  | .authChallenge
  | .authResponse _
  | .logout
  | .quote
  | .getCerts
  | .random
  | .mediaKeyImport
  | .mediaKeyDelete
  | .mediaKeyList
  | .rollbackAdvance
  | .rtcSet
  | .zeroise
  | .recoveryLoad _ _ _
  | .holdClear
  | .vaultVerifyDone _
  | .entropyHealthFail
  | .conditionalSelftestFail
  | .authSessionTimeout _
  | .authLockoutEnd
  | .tamperDetect _ _
  | .vbatLow
  | .eventDelivery
  | .logRecordAssembled
  | .logCtrlFlush
  | .logCtrlNote
  | .logFlushDone _
  | .powerFail
  | .opTimeStore
  | .healthChannelRead _ _ _
  | .housekeepingRoundEnd
  | .coursePllGraceExpire
  | .coreDroop
  | .ltcFrameDecoded _
  | .ltcInputTimeout
  | .quadSignalDetect _
  | .poresetNAssert _
  | .legacyWord _ _ _ => true

end Sys2Proof
end

section
/-! PROOFS. Event 25 of a Firm stream (R102): the hysteresis of a backlog between 75 % and 50 % of BACKLOG, and what a command on the stream's bytes does with it. -/

namespace Sys2Proof.Machine
open Sys2Proof.Claims

/-! ### Stream records beside registers and events -/

@[simp] theorem State.strmOf_setStrm_self (s : State) (r : Nat) (x : Strm) : (s.setStrm r x).strmOf r = x := tabGet_set_self _ _ _ _
@[simp] theorem State.rd_setStrm (s : State) (r : Nat) (x : Strm) (g : Reg) : (s.setStrm r x).rd g = s.rd g := rfl
@[simp] theorem State.strmOf_raise (s : State) (ev src : Nat) (items : List Word) (r : Nat) : (s.raise ev src items).strmOf r = s.strmOf r := rfl
@[simp] theorem State.strmOf_settle (s t : State) (r : Nat) : (s.settle t).strmOf r = t.strmOf r := rfl

/-! ### Events raised by a command -/

/-- An event raised on a state that has the occurrences and the event's count of `s` is raised since `s`. -/
theorem State.raised_raise {s u : State} (ev src : Nat) (items : List Word) (hocc : u.occ = s.occ)
    (hcnt : u.rd (EVT_R_CNT ev) = s.rd (EVT_R_CNT ev)) : Raised s (u.raise ev src items) ev src (items.headD 0) := by
  have hne : (EVT_R_CNT ev).off ≠ (EVT_R_LAST ev).off := by simp [EVT_R_CNT, EVT_R_LAST]
  refine ⟨⟨_, by rw [State.raise_occ, hocc], rfl, rfl, rfl⟩, ?_, State.rd_wr_self _ _ _⟩
  calc (u.raise ev src items).rd (EVT_R_CNT ev)
      = (u.inc (EVT_R_CNT ev)).rd (EVT_R_CNT ev) := State.rd_wr_ne _ _ hne
    _ = satAdd (s.rd (EVT_R_CNT ev)) 1 := by rw [State.inc_eq, State.rd_wr_self, hcnt]

theorem State.settle_occ_same {s t : State} (h : t.occ = s.occ) : (s.settle t).occ = s.occ := by rw [State.settle_same h, h]

/-- The end of the clock leaves a single event as it was raised. -/
theorem State.raised_settle {s t : State} {ev src : Nat} {v : Word} (h : Raised s t ev src v) : Raised s (s.settle t) ev src v := by
  obtain ⟨o, ho, -⟩ := h.1
  rwa [State.settle_one ho]

/-! ### The two thresholds (R102) -/

/-- Whether event 25 counts as raised once a backlog of `bytes` stands against a BACKLOG of `m` bytes, where `was` says so of the clock before. -/
def highAfter (m bytes : Nat) (was : Bool) : Bool := decide (3 * m < 4 * bytes) || was && !decide (2 * bytes < m)

theorem highAfter_above {m bytes : Nat} (was : Bool) (h : 75 * m < 100 * bytes) : highAfter m bytes was = true := by
  have hhigh : 3 * m < 4 * bytes := by omega
  simp [highAfter, hhigh]

theorem highAfter_below {m bytes : Nat} (was : Bool) (h : 100 * bytes < 50 * m) : highAfter m bytes was = false := by
  have hlow : 2 * bytes < m := by omega
  have hhigh : ¬ 3 * m < 4 * bytes := by omega
  simp [highAfter, hlow, hhigh]

theorem highAfter_between {m bytes : Nat} (was : Bool) (hlo : 50 * m ≤ 100 * bytes) (hhi : 100 * bytes ≤ 75 * m) : highAfter m bytes was = was := by
  have hlow : ¬ 2 * bytes < m := by omega
  have hhigh : ¬ 3 * m < 4 * bytes := by omega
  simp [highAfter, hlow, hhigh]

/-! ### A backlog is set -/

/-- The two registers of a record that show a backlog of `bytes` and its peak (R105). -/
def State.backlogShown (s : State) (r bytes : Nat) : State :=
  let kib := w32 (ceilDiv bytes 1024)
  (s.wr (UMP_S_BKL_NOW r) kib).wr (UMP_S_BKL_PEAK r) (if (s.rd (UMP_S_BKL_PEAK r)).toNat < kib.toNat then kib else s.rd (UMP_S_BKL_PEAK r))

theorem State.rd_backlogShown (s : State) (r bytes : Nat) {g : Reg} (hnow : g.off ≠ (UMP_S_BKL_NOW r).off) (hpeak : g.off ≠ (UMP_S_BKL_PEAK r).off) :
    (s.backlogShown r bytes).rd g = s.rd g :=
  (State.rd_wr_ne _ _ hpeak).trans (State.rd_wr_ne _ _ hnow)

/-- The counter of an event is no register of a stream record. -/
theorem State.rd_backlogShown_cnt (s : State) (r : Fin 1024) (bytes ev : Nat) :
    (s.backlogShown r bytes).rd (EVT_R_CNT ev) = s.rd (EVT_R_CNT ev) := by
  have hr := r.isLt
  apply State.rd_backlogShown
  · simp only [EVT_R_CNT, UMP_S_BKL_NOW]; omega
  · simp only [EVT_R_CNT, UMP_S_BKL_PEAK]; omega

/-- Event 25 is raised by the first backlog above three quarters. -/
theorem State.backlogSet_first {s : State} {r bytes : Nat} (h : 3 * s.backlogMax r < 4 * bytes) (hx : (s.strmOf r).highRaised = false) :
    s.backlogSet r bytes = ((s.backlogShown r bytes).setStrm r { s.strmOf r with backlog := bytes, highRaised := true }).raise 25 0x0E00 :=
  if_pos (by simp [h, hx])

/-- Every other backlog raises nothing. -/
theorem State.backlogSet_quiet {s : State} {r bytes : Nat} (h : 3 * s.backlogMax r < 4 * bytes → (s.strmOf r).highRaised = true) :
    s.backlogSet r bytes = (s.backlogShown r bytes).setStrm r
      { s.strmOf r with backlog := bytes, highRaised := (s.strmOf r).highRaised && !decide (2 * bytes < s.backlogMax r) } :=
  if_neg (by simpa using h)

/-- BACKLOG is no register that a backlog or event 25 writes. -/
theorem State.backlogMax_backlogSet (s : State) (r : Fin 1024) (bytes : Nat) : (s.backlogSet r bytes).backlogMax r = s.backlogMax r := by
  have hr := r.isLt
  have hshown : (s.backlogShown r bytes).rd (UMP_S_CFG r) = s.rd (UMP_S_CFG r) := by
    apply State.rd_backlogShown
    · simp only [UMP_S_CFG, UMP_S_BKL_NOW]; omega
    · simp only [UMP_S_CFG, UMP_S_BKL_PEAK]; omega
  have hcnt : (UMP_S_CFG r).off ≠ (EVT_R_CNT 25).off := by simp only [UMP_S_CFG, EVT_R_CNT]; omega
  have hlast : (UMP_S_CFG r).off ≠ (EVT_R_LAST 25).off := by simp only [UMP_S_CFG, EVT_R_LAST]; omega
  have hcfg : (s.backlogSet r bytes).rd (UMP_S_CFG r) = s.rd (UMP_S_CFG r) := by
    by_cases h : 3 * s.backlogMax r < 4 * bytes → (s.strmOf r).highRaised = true
    · rw [State.backlogSet_quiet h, State.rd_setStrm, hshown]
    · obtain ⟨h34, hx⟩ := Classical.not_imp.1 h
      rw [State.backlogSet_first h34 (Bool.eq_false_iff.2 hx), State.rd_raise _ _ _ _ hcnt hlast, State.rd_setStrm, hshown]
  rw [State.backlogMax, State.fld, hcfg]; rfl

theorem State.backlogSet_highRaised (s : State) (r bytes : Nat) :
    ((s.backlogSet r bytes).strmOf r).highRaised = highAfter (s.backlogMax r) bytes (s.strmOf r).highRaised := by
  by_cases h : 3 * s.backlogMax r < 4 * bytes
  · have hlow : ¬ 2 * bytes < s.backlogMax r := by omega
    cases hx : (s.strmOf r).highRaised with
    | false => simp [State.backlogSet_first h hx, highAfter, h]
    | true => simp [State.backlogSet_quiet (fun _ => hx), highAfter, h, hlow, hx]
  · simp [State.backlogSet_quiet (fun h' => absurd h' h), highAfter, h]

/-! ### Bytes are held in queue and backlog -/

/-- The state in which a record's queue is filled and its backlog stands as before. -/
def State.queueFilled (s : State) (r total : Nat) : State :=
  s.setStrm r { s.strmOf r with queued := min ((s.rd (UMP_S_QUEUE r)).toNat % 65536 * 1024) total }

@[simp] theorem State.backlogMax_queueFilled (s : State) (r total : Nat) : (s.queueFilled r total).backlogMax r = s.backlogMax r := rfl
@[simp] theorem State.highRaised_queueFilled (s : State) (r total : Nat) :
    ((s.queueFilled r total).strmOf r).highRaised = (s.strmOf r).highRaised := by simp [State.queueFilled]

theorem State.strmHold_eq (s : State) (r total : Nat) :
    s.strmHold r total = (s.queueFilled r total).backlogSet r (total - (s.rd (UMP_S_QUEUE r)).toNat % 65536 * 1024) := rfl

theorem State.backlogMax_strmHold (s : State) (r : Fin 1024) (total : Nat) : (s.strmHold r total).backlogMax r = s.backlogMax r := by
  rw [State.strmHold_eq, State.backlogMax_backlogSet, State.backlogMax_queueFilled]

section
variable {s : State} {r : Fin 1024} {total bytes : Nat} (hbytes : total - (s.rd (UMP_S_QUEUE r)).toNat % 65536 * 1024 = bytes)
include hbytes

theorem State.strmHold_highRaised : ((s.strmHold r total).strmOf r).highRaised = highAfter (s.backlogMax r) bytes (s.strmOf r).highRaised := by
  rw [State.strmHold_eq, hbytes, State.backlogSet_highRaised, State.backlogMax_queueFilled, State.highRaised_queueFilled]

theorem State.settle_strmHold_highRaised :
    ((s.settle (s.strmHold r total)).strmOf r).highRaised = highAfter (s.backlogMax r) bytes (s.strmOf r).highRaised := by
  rw [State.strmOf_settle, State.strmHold_highRaised hbytes]

theorem State.strmHold_raised (h : 75 * s.backlogMax r < 100 * bytes) (hx : (s.strmOf r).highRaised = false) :
    Raised s (s.strmHold r total) 25 0x0E00 0 := by
  have h34 : 3 * (s.queueFilled r total).backlogMax r < 4 * bytes := by rw [State.backlogMax_queueFilled]; omega
  rw [State.strmHold_eq, hbytes, State.backlogSet_first h34 (by simpa using hx)]
  exact State.raised_raise 25 0x0E00 [] rfl (State.rd_backlogShown_cnt _ r _ 25)

theorem State.strmHold_occ (h : 75 * s.backlogMax r < 100 * bytes → (s.strmOf r).highRaised = true) : (s.strmHold r total).occ = s.occ := by
  have hq : 3 * (s.queueFilled r total).backlogMax r < 4 * bytes → ((s.queueFilled r total).strmOf r).highRaised = true := by
    rw [State.backlogMax_queueFilled, State.highRaised_queueFilled]
    exact fun h34 => h (by omega)
  rw [State.strmHold_eq, hbytes, State.backlogSet_quiet hq]
  rfl

end

/-! ### The two commands on a Firm stream to GDDR7 -/

section
variable {r : Fin 1024} {n : Word} {s : State} (hid : s.rd (UMP_S_ID r) ≠ 0#32) (htgt : s.fld (UMP_S_CFG r) UMP_S_CFG_TARGET = 1)
  (hcls : s.fld (UMP_S_CFG r) UMP_S_CFG_CLASS = 1)
include hid htgt hcls

/-- Bytes that BACKLOG has room for are held, and the stream goes on (R99, R100). -/
theorem exec_streamDataProduced_fits (hstop : s.rd (UMP_S_STOP r) = 0) (href : (s.strmOf r).refused = false) (hpos : 0 < s.backlogMax r)
    (hfit : (s.strmOf r).backlog + (s.strmOf r).queued + n.toNat - (s.rd (UMP_S_QUEUE r)).toNat % 65536 * 1024 ≤ s.backlogMax r) :
    exec (.streamDataProduced r n 0) s = .next (s.settle (s.strmHold r ((s.strmOf r).backlog + (s.strmOf r).queued + n.toNat))) := by
  have hle := Nat.sub_le_iff_le_add'.1 hfit
  have hpos' : (s.strmHold r ((s.strmOf r).backlog + (s.strmOf r).queued + n.toNat)).backlogMax r ≠ 0 := by
    rw [State.backlogMax_strmHold]; omega
  have hheld : s.produce r n.toNat 0 = s.strmHold r ((s.strmOf r).backlog + (s.strmOf r).queued + n.toNat) := by
    simp only [State.produce, Nat.sub_zero, Nat.min_eq_right hle]
    rw [if_neg (by simp [hid, htgt, hcls, hstop, href]), if_neg (by simp [hpos', Nat.not_lt.2 hle])]
  exact congrArg (fun t => Host.Outcome.next (s.settle t)) hheld

/-- Bytes taken leave queue and backlog (R99). -/
theorem exec_streamDataConsumed_firm :
    exec (.streamDataConsumed r n) s = .next (s.settle (s.strmHold r ((s.strmOf r).backlog + (s.strmOf r).queued - n.toNat))) := by
  have hheld : s.consume r n.toNat = s.strmHold r ((s.strmOf r).backlog + (s.strmOf r).queued - n.toNat) :=
    if_neg (by simp [hid, htgt, hcls])
  exact congrArg (fun t => Host.Outcome.next (s.settle t)) hheld

end

/-! ### Settling O15 -/

/-- Settles O15: both commands hold their bytes against BACKLOG, and the record keeps in `highRaised` the hysteresis of `highAfter`. -/
theorem backlogHighOnce : Obligations.BacklogHighOnce := by
  unfold Obligations.BacklogHighOnce Claims.BacklogHighIsRaisedOnce
  intro r n s q m bk hid htgt hcls hstop href hpos hfit
  constructor
  · have hbytes : (s.strmOf r).backlog + (s.strmOf r).queued + n.toNat - q = bk := rfl
    have hhigh := State.settle_strmHold_highRaised hbytes
    refine ⟨_, exec_streamDataProduced_fits hid htgt hcls hstop href hpos hfit, fun habove hfirst => ?_, fun habove hagain => ?_, fun hnot => ?_,
      fun hlow => hhigh.trans (highAfter_below _ hlow), fun hlo hhi => hhigh.trans (highAfter_between _ hlo hhi)⟩
    · exact ⟨State.raised_settle (State.strmHold_raised hbytes habove hfirst), hhigh.trans (highAfter_above _ habove)⟩
    · exact ⟨State.settle_occ_same (State.strmHold_occ hbytes fun _ => hagain), hhigh.trans (highAfter_above _ habove)⟩
    · exact State.settle_occ_same (State.strmHold_occ hbytes fun habove => absurd habove (Nat.not_lt.2 hnot))
  · have hhigh := State.settle_strmHold_highRaised (s := s) (r := r) (total := (s.strmOf r).backlog + (s.strmOf r).queued - n.toNat) rfl
    exact ⟨_, exec_streamDataConsumed_firm hid htgt hcls,
      fun hlow => hhigh.trans (highAfter_below _ hlow), fun hlo hhi => hhigh.trans (highAfter_between _ hlo hhi)⟩

/-! ### A stream that meets the conditions -/

/-- After reset, record 0 holds a Firm stream to GDDR7 of Recording with a BACKLOG of 1 MiB and no on-chip queue. -/
def firmStream1MiB : State := (State.reset.wr (UMP_S_ID 0) 0x0C000000).wr (UMP_S_CFG 0) 0x00010005

/-- One byte above 75 % of its 1 MiB raises event 25. -/
theorem firmStream1MiB_raises : Runs (.streamDataProduced 0 786433 0) firmStream1MiB (fun t => Raised firmStream1MiB t 25 0x0E00 0) := by
  obtain ⟨⟨t, hrun, hraise, -⟩, -⟩ := backlogHighOnce 0 786433 firmStream1MiB (by decide) (by decide) (by decide) (by decide) (by decide) (by decide) (by decide)
  exact ⟨t, hrun, (hraise (by decide) (by decide)).1⟩

end Sys2Proof.Machine
end

section
/-! PROOFS. The increment of TB0 (R132): a write stores the clamped value and leaves TB0, and the next tick adds it. -/

namespace Sys2Proof.Machine
open Sys2Proof.Claims

/-! ### The limits of an increment -/

theorem clampNat_within {lo hi v : Nat} (hlo : lo ≤ v) (hhi : v ≤ hi) : clampNat lo hi v = v := by
  rw [clampNat, Nat.min_eq_right hhi, Nat.max_eq_right hlo]

theorem clampNat_below {lo hi v : Nat} (h : v < lo) (hlohi : lo ≤ hi) : clampNat lo hi v = lo := by
  rw [clampNat, Nat.min_eq_right (h.le.trans hlohi), Nat.max_eq_left h.le]

theorem clampNat_above {lo hi v : Nat} (h : hi < v) (hlohi : lo ≤ hi) : clampNat lo hi v = hi := by
  rw [clampNat, Nat.min_eq_left h.le, Nat.max_eq_right hlohi]

theorem clampNat_le {lo hi : Nat} (v : Nat) (hlohi : lo ≤ hi) : clampNat lo hi v ≤ hi :=
  Nat.max_le.2 ⟨hlohi, Nat.min_le_left _ _⟩

theorem tb0IncMin_le_tb0IncMax : tb0IncMin ≤ tb0IncMax := by decide

theorem tb0IncMax_lt : tb0IncMax < 2 ^ 32 := by decide

/-! ### An increment written -/

/-- The state in which an increment was clamped to a limit: CLAMPED reads 1 and event 50 is raised (R132). -/
def State.tb0IncLimited (s : State) (limit : Nat) : State :=
  ((s.wr STK_TB0_INC (w32 limit)).setBit STK_TB0_STATUS STK_TB0_STATUS_CLAMPED true).raise 50 0x0E02

@[simp] theorem State.rd_tb0IncLimited (s : State) (limit : Nat) : (s.tb0IncLimited limit).rd STK_TB0_INC = w32 limit := by
  have hcnt : STK_TB0_INC.off ≠ (EVT_R_CNT 50).off := by decide
  have hlast : STK_TB0_INC.off ≠ (EVT_R_LAST 50).off := by decide
  have hstatus : STK_TB0_INC.off ≠ STK_TB0_STATUS.off := by decide
  calc (s.tb0IncLimited limit).rd STK_TB0_INC
      = ((s.wr STK_TB0_INC (w32 limit)).setBit STK_TB0_STATUS STK_TB0_STATUS_CLAMPED true).rd STK_TB0_INC :=
        State.rd_raise _ _ _ _ hcnt hlast
    _ = (s.wr STK_TB0_INC (w32 limit)).rd STK_TB0_INC := State.rd_wr_ne _ _ hstatus
    _ = w32 limit := State.rd_wr_self _ _ _

@[simp] theorem State.tb0IncLimited_tb0 (s : State) (limit : Nat) : (s.tb0IncLimited limit).tb0 = s.tb0 := rfl
@[simp] theorem State.tb0IncLimited_pending (s : State) (limit : Nat) : (s.tb0IncLimited limit).pending = s.pending := rfl
@[simp] theorem State.tb0IncLimited_hlt (s : State) (limit : Nat) : (s.tb0IncLimited limit).hlt = s.hlt := rfl

theorem State.setTb0Inc_within {v : Word} (s : State) (hlo : tb0IncMin ≤ v.toNat) (hhi : v.toNat ≤ tb0IncMax) :
    s.setTb0Inc v = s.wr STK_TB0_INC v := by
  have hv : w32 v.toNat = v := BitVec.ofNat_toNat ..
  simp [State.setTb0Inc, clampNat_within hlo hhi, hv]

/-- A value that the clamp moves sets CLAMPED and raises event 50. -/
theorem State.setTb0Inc_moved {v : Word} (s : State) (h : clampNat tb0IncMin tb0IncMax v.toNat ≠ v.toNat) :
    s.setTb0Inc v = s.tb0IncLimited (clampNat tb0IncMin tb0IncMax v.toNat) := if_neg h

/-- A write of the increment stores the clamped value, and marks the clamp if there was one. -/
theorem State.setTb0Inc_cases (s : State) (v : Word) :
    s.setTb0Inc v = s.wr STK_TB0_INC (w32 (clampNat tb0IncMin tb0IncMax v.toNat)) ∨
    s.setTb0Inc v = s.tb0IncLimited (clampNat tb0IncMin tb0IncMax v.toNat) := by
  by_cases h : clampNat tb0IncMin tb0IncMax v.toNat = v.toNat
  · exact .inl (if_pos h)
  · exact .inr (State.setTb0Inc_moved s h)

theorem State.setTb0Inc_below {v : Word} (s : State) (h : v.toNat < tb0IncMin) : s.setTb0Inc v = s.tb0IncLimited tb0IncMin := by
  have hclamp := clampNat_below h tb0IncMin_le_tb0IncMax
  rw [State.setTb0Inc_moved s (by omega), hclamp]

theorem State.setTb0Inc_above {v : Word} (s : State) (h : tb0IncMax < v.toNat) : s.setTb0Inc v = s.tb0IncLimited tb0IncMax := by
  have hclamp := clampNat_above h tb0IncMin_le_tb0IncMax
  rw [State.setTb0Inc_moved s (by omega), hclamp]

@[simp] theorem State.setTb0Inc_tb0 (s : State) (v : Word) : (s.setTb0Inc v).tb0 = s.tb0 := by
  obtain h | h := State.setTb0Inc_cases s v <;> simp [h]
@[simp] theorem State.setTb0Inc_pending (s : State) (v : Word) : (s.setTb0Inc v).pending = s.pending := by
  obtain h | h := State.setTb0Inc_cases s v <;> simp [h]
@[simp] theorem State.setTb0Inc_hlt (s : State) (v : Word) : (s.setTb0Inc v).hlt = s.hlt := by
  obtain h | h := State.setTb0Inc_cases s v <;> simp [h]

/-- STK_TB0_INC reads the clamped value. -/
theorem State.rd_setTb0Inc (s : State) (v : Word) :
    ((s.setTb0Inc v).rd STK_TB0_INC).toNat = clampNat tb0IncMin tb0IncMax v.toNat := by
  have hword : (w32 (clampNat tb0IncMin tb0IncMax v.toNat)).toNat = clampNat tb0IncMin tb0IncMax v.toNat :=
    Nat.mod_eq_of_lt ((clampNat_le _ tb0IncMin_le_tb0IncMax).trans_lt tb0IncMax_lt)
  obtain h | h := State.setTb0Inc_cases s v
  · rw [h, State.rd_wr_self, hword]
  · rw [h, State.rd_tb0IncLimited, hword]

/-- A write that reaches the register outside the servo, and the servo's own, sets the increment (R134). -/
theorem exec_tb0IncWrite {v : Word} {servo : Bool} {s : State} (h : servo = false → Reach s STK_TB0_INC ∧ s.servo = false) :
    exec (.tb0IncWrite v servo) s = .next (s.setTb0Inc v) := by
  cases servo with
  | true => rfl
  | false =>
    obtain ⟨⟨hup, hacc⟩, hservo⟩ := h rfl
    have hhost : s.hostDo STK_TB0_INC true (fun u => u.tb0IncWrite v false) = s.setTb0Inc v := by
      simp [State.hostDo_reach _ _ _ _ hup hacc, State.tb0IncWrite, hservo]
    exact congrArg Host.Outcome.next hhost

/-! ### The tick after the write -/

@[simp] theorem State.tb1Sync_tb0 (s : State) : s.tb1Sync.tb0 = s.tb0 := by
  unfold State.tb1Sync
  dsimp only
  split <;> rfl

theorem State.passTicks_tb0 {s : State} (n : Nat) (h : s.hlt.clocksStopped = false) :
    (s.passTicks n).tb0 = BitVec.ofNat 64 (s.tb0.toNat + n * (s.rd STK_TB0_INC).toNat) := by simp [State.passTicks, h]

/-- A tick adds the increment to TB0 (R131). -/
theorem State.tick_tb0 {s : State} (h : s.hlt.clocksStopped = false) :
    s.tick.tb0 = BitVec.ofNat 64 (s.tb0.toNat + (s.rd STK_TB0_INC).toNat) := by
  rw [State.tick, State.tb1Sync_tb0, State.passTicks_tb0 1 h, Nat.one_mul]

theorem step_idle {s : State} (h : s.pending = []) : step s = .next s.tick := by simp [step, h]

/-- The tick after a write of the increment adds the clamped value to the TB0 before it (R132). -/
theorem State.tick_setTb0Inc_tb0 {s : State} (v : Word) (h : s.hlt.clocksStopped = false) :
    (s.setTb0Inc v).tick.tb0 = BitVec.ofNat 64 (s.tb0.toNat + clampNat tb0IncMin tb0IncMax v.toNat) := by
  rw [State.tick_tb0 (by simpa using h), State.setTb0Inc_tb0, State.rd_setTb0Inc]

/-! ### Settling O16 -/

/-- Settles O16: a write that takes effect is `setTb0Inc`, which clamps the increment and leaves TB0, and the next idle step is a tick. -/
theorem tb0IncrementClamps : Obligations.Tb0IncrementClamps := by
  unfold Obligations.Tb0IncrementClamps Claims.IncrementIsClamped
  intro v servo s heffect
  have hexec := exec_tb0IncWrite (v := v) heffect
  refine ⟨fun hlo hhi => ?_, fun hlow => ?_, fun hhigh => ?_, ?_⟩
  · rw [hexec, State.setTb0Inc_within s hlo hhi]
  · rw [hexec, State.setTb0Inc_below s hlow]; rfl
  · rw [hexec, State.setTb0Inc_above s hhigh]; rfl
  · exact ⟨_, hexec, State.setTb0Inc_tb0 s v, fun hempty hclocks =>
      ⟨_, step_idle (by simpa using hempty), State.tick_setTb0Inc_tb0 v hclocks⟩⟩

/-! ### Writes at the limits -/

/-- After reset, with the boot at stage LOADER: the host reaches the registers, and no servo disciplines TB0. -/
def hostAtLoader : State := State.reset.setFld BOH_BOOT_STATUS BOH_BOOT_STATUS_STAGE 2

theorem hostAtLoader_takes_writes : Reach hostAtLoader STK_TB0_INC ∧ hostAtLoader.servo = false :=
  ⟨⟨by decide, by decide⟩, by decide⟩

/-- The least increment of the range is kept. -/
theorem hostAtLoader_keeps_least : exec (.tb0IncWrite 0xCC985F07 false) hostAtLoader = .next (hostAtLoader.wr STK_TB0_INC 0xCC985F07) := by
  obtain ⟨hwithin, -⟩ := tb0IncrementClamps 0xCC985F07 false hostAtLoader fun _ => hostAtLoader_takes_writes
  exact hwithin (by decide) (by decide)

/-- One less is clamped to it, and it is what the first tick adds to a TB0 of 0. -/
theorem hostAtLoader_clamps_below : Runs (.tb0IncWrite 0xCC985F06 false) hostAtLoader (fun t => ∃ u, step t = .next u ∧ u.tb0 = 0xCC985F07) := by
  obtain ⟨-, -, -, t, hrun, -, htick⟩ := tb0IncrementClamps 0xCC985F06 false hostAtLoader fun _ => hostAtLoader_takes_writes
  exact ⟨t, hrun, htick (by decide) (by decide)⟩

/-- The servo's write of one more than the greatest is clamped too, after reset, when no host is up. -/
theorem reset_clamps_above : exec (.tb0IncWrite 0xCD013A94 true) State.reset = .next (State.reset.tb0IncLimited 0xCD013A93) := by
  obtain ⟨-, -, habove, -⟩ := tb0IncrementClamps 0xCD013A94 true State.reset (fun h => absurd h (by decide))
  exact habove (by decide)

end Sys2Proof.Machine
end

section
/-! PROOFS. The invariant of the timebases: writes of other registers and of TB0's own state keep it, and each command is made of these and of clamped increments. -/

-- One proof at a time: the text is compiled as one file in bounded memory.
set_option Elab.async false

namespace Sys2Proof.Claims
open Sys2Proof.Machine

/-! ### What keeps the invariant -/

/-- The invariant speaks of registers, memory and queue only. -/
theorem TimeInv.congr {s t : State} (h : TimeInv s) (hregs : t.regs = s.regs := by rfl) (hmem : t.g7 = s.g7 := by rfl)
    (hpend : t.pending = s.pending := by rfl) : TimeInv t := by
  obtain ⟨⟨hsorted, hwf⟩, hlo, hhi, hq⟩ := h
  have hrd : t.rd STK_TB0_INC = s.rd STK_TB0_INC := by rw [State.rd, State.rd, hregs]
  exact ⟨⟨hregs ▸ hsorted, hmem ▸ hwf⟩, hrd ▸ hlo, hrd ▸ hhi, hpend ▸ hq⟩

/-- A write of another register than the increment. -/
theorem TimeInv.wr {s : State} (h : TimeInv s) (r : Reg) (v : Word) (hr : STK_TB0_INC.off ≠ r.off := by decide) : TimeInv (s.wr r v) := by
  obtain ⟨⟨hsorted, hwf⟩, hlo, hhi, hq⟩ := h
  have hrd : (s.wr r v).rd STK_TB0_INC = s.rd STK_TB0_INC := State.rd_wr_ne _ _ hr
  exact ⟨⟨State.wr_sorted _ _ _ hsorted, hwf⟩, hrd ▸ hlo, hrd ▸ hhi, hq⟩

theorem TimeInv.setFld {s : State} (h : TimeInv s) (r : Reg) (f : Fld) (v : Nat) (hr : STK_TB0_INC.off ≠ r.off := by decide) :
    TimeInv (s.setFld r f v) := h.wr r _ hr

/-- A write of the increment within its limits (R132). -/
theorem TimeInv.wrInc {s : State} (h : TimeInv s) {n : Nat} (hlo : tb0IncMin ≤ n) (hhi : n ≤ tb0IncMax) : TimeInv (s.wr STK_TB0_INC (w32 n)) := by
  obtain ⟨⟨hsorted, hwf⟩, -, -, hq⟩ := h
  have hn : ((s.wr STK_TB0_INC (w32 n)).rd STK_TB0_INC).toNat = n := by
    rw [State.rd_wr_self]; exact Nat.mod_eq_of_lt (hhi.trans_lt tb0IncMax_lt)
  exact ⟨⟨State.wr_sorted _ _ _ hsorted, hwf⟩, hlo.trans_eq hn.symm, hn.trans_le hhi, hq⟩

theorem TimeInv.raise {s : State} (h : TimeInv s) (ev src : Nat) (items : List Word) : TimeInv (s.raise ev src items) :=
  ((h.wr (EVT_R_CNT ev) _ (by simp only [STK_TB0_INC, EVT_R_CNT]; omega)).wr (EVT_R_LAST ev) (items.headD 0)
    (by simp only [STK_TB0_INC, EVT_R_LAST]; omega)).congr

theorem TimeInv.raiseOnce {s : State} (h : TimeInv s) (ev key src : Nat) (items : List Word) : TimeInv (s.raiseOnce ev key src items) := by
  unfold State.raiseOnce
  split
  · exact h
  · exact TimeInv.raise (h.congr) ev src items

/-- Folds of steps that keep the invariant keep it. -/
theorem TimeInv.foldl {α : Type} {f : State → α → State} (hf : ∀ s a, TimeInv s → TimeInv (f s a)) :
    ∀ (as : List α) {s : State}, TimeInv s → TimeInv (as.foldl f s)
  | [], _, h => h
  | a :: as, _, h => TimeInv.foldl hf as (hf _ a h)

/-- A choice between two states that meet the invariant meets it. -/
theorem TimeInv.ite {c : Prop} [Decidable c] {s t : State} (hs : TimeInv s) (ht : TimeInv t) : TimeInv (if c then s else t) := by
  split
  · exact hs
  · exact ht

/-! ### The tick and late slots -/

theorem TimeInv.passTicks {s : State} (h : TimeInv s) (n : Nat) : TimeInv (s.passTicks n) := by
  unfold State.passTicks
  split
  · exact h
  · dsimp only
    split
    · exact h.congr
    · exact (h.wr ETH_TB0_WRAP _).congr

theorem TimeInv.tb1Sync {s : State} (h : TimeInv s) : TimeInv s.tb1Sync := by
  unfold State.tb1Sync
  dsimp only
  split
  · exact h.congr
  · exact h

theorem TimeInv.tick {s : State} (h : TimeInv s) : TimeInv s.tick := (h.passTicks 1).tb1Sync

/-- A match writes registers of its slot, which all lie above the increment. -/
theorem TimeInv.slotMatch {s : State} (h : TimeInv s) (n : Nat) (late : Bool) : TimeInv (s.slotMatch n late) := by
  have hctrl : STK_TB0_INC.off ≠ (STK_S_CTRL n).off := by simp only [STK_TB0_INC, STK_S_CTRL]; omega
  have hcmp : STK_TB0_INC.off ≠ (STK_S_COMPARE n).off := by simp only [STK_TB0_INC, STK_S_COMPARE]; omega
  have hskip : STK_TB0_INC.off ≠ (STK_S_SKIP n).off := by simp only [STK_TB0_INC, STK_S_SKIP]; omega
  have hdue (u : State) (hu : TimeInv u) : TimeInv
      (if u.rd (STK_S_REPEAT n) = 0 then u.setBit (STK_S_CTRL n) STK_S_CTRL_ARM false
       else (u.wr (STK_S_COMPARE n) (u.slotNext n late).1).inc (STK_S_SKIP n) (u.slotNext n late).2) := by
    split
    · exact hu.wr _ _ hctrl
    · exact (hu.wr _ _ hcmp).wr _ _ hskip
  have hgo := hdue _ (h.congr (t := { s with stk := { s.stk with due := s.stk.due ++
    [⟨n, s.ticks + bitsOf (s.rd (STK_S_PARAM n)).toNat 31 16, s.rd (STK_S_CFG n), s.rd (STK_S_PARAM n)⟩] } }))
  unfold State.slotMatch
  dsimp only
  split
  · exact TimeInv.raiseOnce ((hgo.wr _ _ hctrl).wr STK_LATE_CNT _) _ _ _ _
  · exact hgo

theorem TimeInv.markLate {s : State} (h : TimeInv s) (before : State) (tb : Nat) : TimeInv (State.markLate before s tb) :=
  TimeInv.foldl (fun _ n hu => hu.slotMatch n true) _ h

/-! ### TB0 -/

theorem TimeInv.setTb0Inc {s : State} (h : TimeInv s) (v : Word) : TimeInv (s.setTb0Inc v) := by
  have hlo : tb0IncMin ≤ clampNat tb0IncMin tb0IncMax v.toNat := Nat.le_max_left _ _
  have hhi := clampNat_le v.toNat tb0IncMin_le_tb0IncMax
  obtain heq | heq := State.setTb0Inc_cases s v <;> rw [heq]
  · exact h.wrInc hlo hhi
  · exact ((h.wrInc hlo hhi).wr STK_TB0_STATUS _).raise _ _ _

theorem TimeInv.stepTb0 {s : State} (h : TimeInv s) (v : Word) : TimeInv (s.stepTb0 v) := by
  have ha := h.tick.wr ETH_TB0_WRAP (s.tick.rd ETH_TB0_WRAP + wOfInt (stepWrap s.tick.ns v))
  unfold State.stepTb0
  dsimp only
  refine (TimeInv.tb1Sync ?_).raise _ _ _
  split <;> split
  · exact ha.congr
  · exact TimeInv.markLate ha.congr _ _
  · exact TimeInv.markLate ha.congr _ _
  · exact (TimeInv.markLate ha.congr _ _).markLate _ _

theorem TimeInv.snapshot {s : State} (h : TimeInv s) : TimeInv s.snapshot :=
  (((h.wr STK_SNAP_FRAC _).wr STK_SNAP_TB1 _).wr STK_SNAP_TB3 _).wr STK_SNAP_STEPS _

/-! ### TB1 -/

theorem TimeInv.setTb1 {s : State} (h : TimeInv s) (t : Tb1) : TimeInv (s.setTb1 t) := h.congr

theorem TimeInv.setTb1State {s : State} (h : TimeInv s) (v : Nat) : TimeInv (s.setTb1State v) :=
  (h.wr STK_TB1_CTRL _).wr AUD_REF_STATUS _

theorem TimeInv.tb1Lock {s : State} (h : TimeInv s) (jump : Bool) : TimeInv (s.tb1Lock jump) :=
  ((h.setTb1State 2).wr STK_TB1_CTRL _).raise _ _ _

theorem TimeInv.tb1Align {s : State} (h : TimeInv s) : TimeInv s.tb1Align := by
  unfold State.tb1Align
  dsimp only
  split
  · exact ((h.setTb1 _).markLate _ _).tb1Sync
  · exact ((h.setTb1 _).markLate _ _).tb1Sync.tb1Lock _

theorem TimeInv.tb1TakeAlign {s : State} (h : TimeInv s) : TimeInv s.tb1TakeAlign := by
  unfold State.tb1TakeAlign
  split_ifs
  · exact h
  · exact h.tick.tb1Align.raise _ _ _
  · exact h.setTb1 _

theorem TimeInv.tb1ModeWrite {s : State} (h : TimeInv s) (v : Word) : TimeInv (s.tb1ModeWrite v) :=
  have hmode := ((h.wr STK_TB1_CTRL _).setTb1 {}).setTb1State _
  h.ite (hmode.tb1TakeAlign.ite hmode)

theorem TimeInv.tb1FollowRef {s : State} (h : TimeInv s) : TimeInv s.tb1FollowRef := ((h.setTb1 _).tb1Lock _).ite (h.setTb1 _)

theorem TimeInv.tb1Realign {s : State} (h : TimeInv s) : TimeInv s.tb1Realign :=
  have hmoved := (((h.setTb1 _).setTb1State 1).wr STK_TB1_CTRL _).ite ((h.setTb1 _).setTb1State 1)
  (hmoved.markLate _ _).ite hmoved

theorem TimeInv.genlockPulse {s : State} (h : TimeInv s) (lines lineQ16 : Nat) : TimeInv (s.genlockPulse lines lineQ16) :=
  have hhold := h.tb1Realign.ite h
  have htaken := hhold.ite ((hhold.wr STK_TB1_LINES _).setTb1 _)
  h.ite ((h.tb1FollowRef.ite (h.setTb1 _)).ite ((h.setTb1 _).ite (htaken.ite htaken.tb1FollowRef)))

/-! ### TB3 and the stamps -/

theorem TimeInv.setTb3 {s : State} (h : TimeInv s) (t : Tb3) : TimeInv (s.setTb3 t) := h.congr

theorem TimeInv.tb3Write {s : State} (h : TimeInv s) (v : Word) : TimeInv (s.tb3Write v) := by
  unfold State.tb3Write
  dsimp only
  split
  · exact h
  · exact ((h.wr STK_TB3_CTRL _).wr STK_TB3_CTRL _).setTb3 {}

theorem TimeInv.mainsEdge {s : State} (h : TimeInv s) : TimeInv s.mainsEdge := by
  unfold State.mainsEdge
  dsimp only
  refine h.ite ?_
  split
  · exact h.setTb3 _
  · refine TimeInv.ite (TimeInv.ite ?_ (TimeInv.ite ?_ ?_)) (h.setTb3 _)
    · exact (h.setTb3 _).setFld STK_TB3_CTRL _ _
    · exact ((h.setTb3 _).setFld STK_TB3_CTRL _ _).raise _ _ _
    · exact h.setTb3 _

theorem TimeInv.setPtpQ {s : State} (h : TimeInv s) (p : Nat) (q : List Stamp) : TimeInv (s.setPtpQ p q) := by
  have hstat : STK_TB0_INC.off ≠ (PTP_P_TXQ_STAT p).off := by simp only [STK_TB0_INC, PTP_P_TXQ_STAT]; omega
  have hid : STK_TB0_INC.off ≠ (PTP_P_TXQ_ID p).off := by simp only [STK_TB0_INC, PTP_P_TXQ_ID]; omega
  have hns : STK_TB0_INC.off ≠ (PTP_P_TXQ_NS p).off := by simp only [STK_TB0_INC, PTP_P_TXQ_NS]; omega
  have hfrac : STK_TB0_INC.off ≠ (PTP_P_TXQ_FRAC p).off := by simp only [STK_TB0_INC, PTP_P_TXQ_FRAC]; omega
  have hcount := TimeInv.wr (h.congr (t := { s with stk := { s.stk with ptp := tabSet s.stk.ptp [] p q } })) (PTP_P_TXQ_STAT p)
    (PTP_P_TXQ_STAT_COUNT.put (s.rd (PTP_P_TXQ_STAT p)) q.length) hstat
  cases q with
  | nil => exact ((hcount.wr _ _ hid).wr _ _ hns).wr _ _ hfrac
  | cons e es => exact ((hcount.wr _ _ hid).wr _ _ hns).wr _ _ hfrac

/-! ### The commands -/

theorem TimeInv.unmapped {s : State} (h : TimeInv s) (o : Nat) (write : Bool) : TimeInv (s.unmapped o write) := by
  unfold State.unmapped
  dsimp only
  refine TimeInv.raise (TimeInv.wr ?_ BOH_UNMAPPED_CNT _) _ _ _
  split <;> split
  · exact h
  · exact h.wr BOH_UNMAPPED_ADDR _
  · exact h.congr
  · exact TimeInv.wr h.congr BOH_UNMAPPED_ADDR _

/-- A host access keeps the invariant when its effect does. -/
theorem TimeInv.hostDo {s : State} (h : TimeInv s) (r : Reg) (write : Bool) {f : State → State} (hf : TimeInv (f s)) :
    TimeInv (s.hostDo r write f) := by
  unfold State.hostDo
  split_ifs
  · exact h
  · exact hf
  · exact h.unmapped _ _

/-- What a command of the timebases answers keeps the invariant. -/
theorem TimeInv.exec {s t : State} (h : TimeInv s) {c : Instr} (hc : timeCommand c = true) (ht : exec c s = .next t) : TimeInv t := by
  have next {u : State} (hu : TimeInv u) (hrun : Machine.exec c s = .next u) : TimeInv t := by
    rw [hrun] at ht; exact Host.Outcome.next.inj ht ▸ hu
  cases c
  case tb0IncWrite v servo =>
    cases servo with
    | true => exact next (h.setTb0Inc v) rfl
    | false =>
      refine next (h.hostDo STK_TB0_INC true (f := fun s => s.tb0IncWrite v false) ?_) rfl
      cases hs : s.servo <;> simp [State.tb0IncWrite, hs, h, h.setTb0Inc v]
  case tb0Step v servo =>
    cases servo with
    | true => exact next (h.stepTb0 v) rfl
    | false =>
      refine next (h.hostDo STK_TB0_STEP true (f := fun s => s.tb0StepWrite v false) ?_) rfl
      cases hs : s.servo <;> simp [State.tb0StepWrite, hs, h, h.stepTb0 v]
  case tb0Wrap =>
    refine next ?_ rfl
    split
    · exact h
    · exact (h.passTicks _).tb1Sync
  case tb1ModeWrite v => exact next (h.hostDo _ _ (h.tb1ModeWrite v)) rfl
  case genlockPulse lines lineQ16 => exact next (h.genlockPulse _ _) rfl
  case tb1HoldoverTimeout =>
    refine next ?_ rfl
    split
    · exact ((h.setTb1State 3).setTb1 _).raise _ _ _
    · exact h
  case tb1AlignWrite v => exact next (h.hostDo STK_TB1_ALIGN _ (f := fun s => s.tb1AlignWrite v) (h.wr STK_TB1_ALIGN v).tb1TakeAlign) rfl
  case tb1AlignReached =>
    refine next ?_ rfl
    split
    · exact (h.passTicks _).tb1Sync.tb1Align
    · exact h
  case tb3Enable v => exact next (h.hostDo _ _ (h.tb3Write v)) rfl
  case mainsEdgeConfirmed => exact next h.mainsEdge rfl
  case tb3HoldoverTimeout =>
    refine next ?_ rfl
    split
    · exact TimeInv.raise ((h.wr STK_TB3_CTRL _).congr) _ _ _
    · exact h
  case stkTb0NowRead => exact next (h.hostDo STK_TB0_NOW _ (f := fun s => { s.snapshot with hostData := s.ns }) h.snapshot.congr) rfl
  case ptpPTxqPop p => exact next (h.hostDo _ _ (h.setPtpQ _ _)) rfl
  case ptpAnnounceTimeout eight =>
    refine next ?_ rfl
    split
    · exact h.raise _ _ _
    · exact h
  all_goals exact absurd hc Bool.false_ne_true

/-! ### Settling O57 -/

/-- Settles O57: the front command is one of the timebases', and the idle step is a tick. -/
theorem timeInvariant : Obligations.TimeInvariant := by
  unfold Obligations.TimeInvariant Claims.TimeStepsKeepTheIncrement
  intro s t h ht
  cases hq : s.pending with
  | nil =>
    rw [step_idle hq] at ht
    exact Host.Outcome.next.inj ht ▸ h.tick
  | cons c cs =>
    obtain ⟨hcanon, hlo, hhi, hpend⟩ := h
    rw [hq] at hpend
    have hrest : TimeInv { s with pending := cs } := ⟨⟨hcanon.regs, hcanon.mem⟩, hlo, hhi, fun d hd => hpend d (List.mem_cons_of_mem _ hd)⟩
    exact hrest.exec (hpend c (List.mem_cons_self ..)) (by simpa [step, hq] using ht)

end Sys2Proof.Claims
end

section
/-! PROOFS. The invariant of the Vault: its services change the key store and the rollback minima only where R457 and R461 let them, and answering a request
changes neither. -/

-- One proof at a time: the text is compiled as one file in bounded memory.
set_option Elab.async false

namespace Sys2Proof.Machine

/-! ### The Vault's record beside its registers -/

@[simp] theorem State.vaultShow_vault (s : State) : s.vaultShow.vault = s.vault := by
  unfold State.vaultShow
  split <;> rfl
@[simp] theorem State.vaultShow_pending (s : State) : s.vaultShow.pending = s.pending := by
  unfold State.vaultShow
  split <;> rfl
@[simp] theorem State.setVault_vault (s : State) (v : Vault) : (s.setVault v).vault = v := State.vaultShow_vault _
@[simp] theorem State.setVault_pending (s : State) (v : Vault) : (s.setVault v).pending = s.pending := State.vaultShow_pending _

end Sys2Proof.Machine

namespace Sys2Proof.Claims
open Sys2Proof.Machine

/-! ### What keeps the invariant -/

/-- The invariant speaks of the Vault and the queue only. -/
theorem VaultInv.congr {s t : State} (h : VaultInv s) (hv : t.vault = s.vault := by rfl) (hq : t.pending = s.pending := by rfl) : VaultInv t := by
  unfold VaultInv at *
  rw [hv, hq]
  exact h

theorem VaultInv.ite {c : Prop} [Decidable c] {s t : State} (hs : VaultInv s) (ht : VaultInv t) : VaultInv (if c then s else t) := by
  split
  · exact hs
  · exact ht

theorem VaultInv.foldl {α : Type} {f : State → α → State} (hf : ∀ s a, VaultInv s → VaultInv (f s a)) :
    ∀ (as : List α) {s : State}, VaultInv s → VaultInv (as.foldl f s)
  | [], _, h => h
  | a :: as, _, h => VaultInv.foldl hf as (hf _ a h)

/-- A record of the Vault with the same keys and minima. -/
theorem VaultInv.setVault {s : State} (h : VaultInv s) (v : Vault) (hk : v.keys = s.vault.keys := by rfl) (hr : v.rbRig = s.vault.rbRig := by rfl)
    (hc : v.rbCal = s.vault.rbCal := by rfl) (hf : v.rbFw = s.vault.rbFw := by rfl) : VaultInv (s.setVault v) := by
  unfold VaultInv at *
  rw [State.setVault_vault, State.setVault_pending, hk, hr, hc, hf]
  exact h

/-- A record with other keys, within the bounds of R461. -/
theorem VaultInv.setKeys {s : State} (h : VaultInv s) (v : Vault) (hlen : v.keys.length ≤ 64) (hnd : (v.keys.map (·.1)).Nodup)
    (hpos : ∀ k, k ∈ v.keys → k.1 ≠ 0) (hr : v.rbRig = s.vault.rbRig := by rfl) (hc : v.rbCal = s.vault.rbCal := by rfl)
    (hf : v.rbFw = s.vault.rbFw := by rfl) : VaultInv (s.setVault v) := by
  obtain ⟨-, -, -, hrig, hcal, hfw, hq⟩ := h
  unfold VaultInv
  rw [State.setVault_vault, State.setVault_pending, hr, hc, hf]
  exact ⟨hlen, hnd, hpos, hrig, hcal, hfw, hq⟩

/-- A record with other minima, within the bound of R457. -/
theorem VaultInv.setMinima {s : State} (h : VaultInv s) (v : Vault) (hr : v.rbRig ≤ 1024) (hc : v.rbCal ≤ 1024) (hf : v.rbFw ≤ 1024)
    (hk : v.keys = s.vault.keys := by rfl) : VaultInv (s.setVault v) := by
  obtain ⟨hlen, hnd, hpos, -, -, -, hq⟩ := h
  unfold VaultInv
  rw [State.setVault_vault, State.setVault_pending, hk]
  exact ⟨hlen, hnd, hpos, hr, hc, hf, hq⟩

theorem VaultInv.wr {s : State} (h : VaultInv s) (r : Reg) (v : Word) : VaultInv (s.wr r v) := h.congr
theorem VaultInv.raise {s : State} (h : VaultInv s) (ev src : Nat) (items : List Word) : VaultInv (s.raise ev src items) := h.congr
theorem VaultInv.settle {s u : State} (h : VaultInv u) : VaultInv (s.settle u) := h.congr

/-! ### The mailbox and the Answers -/

theorem VaultInv.mbPut {s : State} (h : VaultInv s) (b : List Byte) : VaultInv (s.mbPut b) := VaultInv.foldl (fun _ _ hu => hu.congr) _ h

theorem VaultInv.mbDone {s : State} (h : VaultInv s) (status cause : Nat) (resp : List Byte) : VaultInv (s.mbDone status cause resp) := by
  unfold State.mbDone
  dsimp only
  split
  · exact (h.mbPut resp).congr
  · exact (h.mbPut resp).congr

theorem VaultInv.vaultHost {s : State} (h : VaultInv s) (r : VReq) : VaultInv (s.vaultHost r) := h.setVault _

theorem VaultInv.mbWrite {s : State} (h : VaultInv s) (v : Word) : VaultInv (s.mbWrite v) := by
  have hset : VaultInv (s.setFld VLT_MB_CTRL ⟨7, 2⟩ (bitsOf v.toNat 7 2)) := h.congr
  exact hset.ite ((hset.mbDone 1 0 []).ite (VaultInv.vaultHost hset.congr _))

theorem VaultInv.setCallQ {s : State} (h : VaultInv s) (q : Nat) (x : CallQ) : VaultInv (s.setCallQ q x) := h.congr
theorem VaultInv.setAnsQ {s : State} (h : VaultInv s) (a : Nat) (x : AnsQ) : VaultInv (s.setAnsQ a x) := h.congr

theorem VaultInv.msixSend {s : State} (h : VaultInv s) (v : Nat) : VaultInv (s.msixSend v) := VaultInv.ite h.congr h.congr

theorem VaultInv.callEnded {s : State} (h : VaultInv s) (q : Nat) : VaultInv (s.callEnded q) := VaultInv.ite h.congr h.congr

theorem VaultInv.ansPut {s : State} (h : VaultInv s) (a : Nat) (e : Answer) : VaultInv (s.ansPut a e) := by
  unfold State.ansPut
  dsimp only
  refine VaultInv.ite (h.setAnsQ _ _) (VaultInv.ite h.congr ?_)
  exact ((VaultInv.ite (VaultInv.setAnsQ h.congr _ _) h.congr).msixSend _).callEnded _

theorem VaultInv.callAnswer {s : State} (h : VaultInv s) (q status r0 r1 : Nat) : VaultInv (s.callAnswer q status r0 r1) := by
  unfold State.callAnswer
  dsimp only
  split
  · exact (h.setCallQ _ _).ansPut _ _
  · exact h

theorem VaultInv.vaultAnswer {s : State} (h : VaultInv s) (q : Nat) (r : Reply) : VaultInv (s.vaultAnswer q r) := by
  unfold State.vaultAnswer
  split
  · next c _ =>
    have hsent : VaultInv (if r.resp.isEmpty then s else s.emit (.hostWrite c.addr r.resp)) := h.ite h.congr
    exact VaultInv.ite (h.callAnswer ..) (VaultInv.ite (h.callAnswer ..) (VaultInv.callAnswer hsent.congr ..))
  · exact h

/-! ### A request that is served -/

/-- The reply leaves the queue and reaches its path. -/
theorem VaultInv.give {r : Reply} (h : VaultInv r.s) (path : Nat) : VaultInv (r.give path) := by
  have hpop : VaultInv (r.s.setVault { r.s.vault with queue := r.s.vault.queue.tail, turn := { r.s.vault with queue := r.s.vault.queue.tail }.next }) :=
    h.setVault _
  exact (hpop.mbDone _ _ _).ite (hpop.vaultAnswer path r)

/-- A choice between two replies. -/
theorem VaultInv.reply {c : Prop} [Decidable c] {a b : Reply} (ha : c → VaultInv a.s) (hb : ¬ c → VaultInv b.s) : VaultInv (if c then a else b).s := by
  split
  · next hc => exact ha hc
  · next hc => exact hb hc

/-- A service keeps the invariant when the state that its reply leaves keeps it. -/
theorem VaultInv.vaultServe {s : State} (h : VaultInv s) (code role : Nat) {f : State → VReq → Reply} (hf : ∀ r, VaultInv (f s r).s) :
    VaultInv (s.vaultServe code role f) := by
  unfold State.vaultServe
  split
  · exact h
  · exact VaultInv.settle (VaultInv.give (VaultInv.reply (fun _ => hf _) fun _ => h) _)

theorem VaultInv.vaultServeOut {s : State} (h : VaultInv s) (code role : Nat) {f : State → VReq → Reply} (hf : ∀ r, VaultInv (f s r).s) :
    VaultInv (s.vaultServeOut code role f) := by
  exact h.vaultServe code role fun r => VaultInv.reply (fun _ => h) fun _ => hf r

/-! ### Hold, sessions and random bytes -/

theorem VaultInv.vaultHoldSet {s : State} (h : VaultInv s) (bit : Nat) : VaultInv (s.vaultHoldSet bit) :=
  VaultInv.ite (h.setVault _) ((h.setVault _).raise _ _ _)

theorem VaultInv.vaultHoldClear {s : State} (h : VaultInv s) (bit : Nat) : VaultInv (s.vaultHoldClear bit) := (h.setVault _).ite h

theorem VaultInv.authFail {s : State} (h : VaultInv s) : VaultInv s.authFail.s := by
  have hcount : VaultInv ((s.inc VLT_AUTH_FAIL_CNT).raise 996 0x0E06) := h.congr
  exact hcount.ite (hcount.setVault _)

/-! ### The key store and the minima -/

/-- A key of a new identifier other than 0 joins a store of fewer than 64 (R461). -/
theorem VaultInv.addKey {s : State} (h : VaultInv s) {id : Nat} (k : List Byte) (v : Vault) (hkeys : v.keys = s.vault.keys ++ [(id, k)]) (hid : id ≠ 0)
    (hnew : s.vault.keys.any (·.1 == id) = false) (hroom : s.vault.keys.length < 64) (hr : v.rbRig = s.vault.rbRig := by rfl)
    (hc : v.rbCal = s.vault.rbCal := by rfl) (hf : v.rbFw = s.vault.rbFw := by rfl) : VaultInv (s.setVault v) := by
  have ⟨_, hnd, hpos, _⟩ := h
  refine h.setKeys v ?_ ?_ ?_ hr hc hf <;> rw [hkeys]
  · simpa using hroom
  · rw [List.map_append, List.nodup_append]
    refine ⟨hnd, by simp, ?_⟩
    simp only [List.any_eq_false, beq_iff_eq] at hnew
    simpa using hnew
  · intro e he
    rcases List.mem_append.1 he with he | he
    · exact hpos e he
    · simpa [List.mem_singleton.1 he] using hid

/-- Keys that leave the store leave it within its bounds. -/
theorem VaultInv.filterKeys {s : State} (h : VaultInv s) (p : Nat × List Byte → Bool) (v : Vault) (hkeys : v.keys = s.vault.keys.filter p)
    (hr : v.rbRig = s.vault.rbRig := by rfl) (hc : v.rbCal = s.vault.rbCal := by rfl) (hf : v.rbFw = s.vault.rbFw := by rfl) :
    VaultInv (s.setVault v) := by
  have ⟨hlen, hnd, hpos, _⟩ := h
  refine h.setKeys v ?_ ?_ ?_ hr hc hf <;> rw [hkeys]
  · exact (List.length_filter_le _ _).trans hlen
  · exact hnd.sublist (List.filter_sublist.map _)
  · exact fun e he => hpos e (List.mem_of_mem_filter he)

/-! ### The services -/

theorem VaultInv.mediaKeyImport {s t : State} (h : VaultInv s) (ht : execMediaKeyImport s = .next t) : VaultInv t := by
  refine Host.Outcome.next.inj ht ▸ h.vaultServeOut 0x20 1 fun r => ?_
  dsimp only
  split_ifs with hbad hknown hfull
  · exact h
  · exact h
  · exact h
  · split
    · simp only [Bool.or_eq_true, decide_eq_true_eq, not_or] at hbad
      exact (h.addKey _ _ rfl hbad.2 (Bool.eq_false_iff.2 hknown) (Nat.not_le.1 hfull)).raise _ _ _
    · exact h

theorem VaultInv.mediaKeyDelete {s t : State} (h : VaultInv s) (ht : execMediaKeyDelete s = .next t) : VaultInv t := by
  refine Host.Outcome.next.inj ht ▸ h.vaultServe 0x21 1 fun r => ?_
  dsimp only
  split_ifs
  · exact h
  · exact h.filterKeys _ _ rfl
  · exact h

theorem VaultInv.rollbackAdvance {s t : State} (h : VaultInv s) (ht : execRollbackAdvance s = .next t) : VaultInv t := by
  refine Host.Outcome.next.inj ht ▸ h.vaultServeOut 0x30 1 fun r => ?_
  have ⟨_, _, _, hrig, hcal, hfw, _⟩ := h
  have hset (hn : ¬ 1024 < leAt r.data 1 2) : VaultInv (s.setVault (if leAt r.data 0 1 = 0 then { s.vault with rbRig := leAt r.data 1 2 }
      else if leAt r.data 0 1 = 1 then { s.vault with rbCal := leAt r.data 1 2 } else { s.vault with rbFw := leAt r.data 1 2 })) := by
    split_ifs
    · exact h.setMinima _ (Nat.not_lt.1 hn) hcal hfw
    · exact h.setMinima _ hrig (Nat.not_lt.1 hn) hfw
    · exact h.setMinima _ hrig hcal (Nat.not_lt.1 hn)
  refine VaultInv.reply (fun _ => h) fun _ => VaultInv.reply (fun _ => h) fun hbound => ?_
  simp only [Bool.or_eq_true, decide_eq_true_eq, not_or] at hbound
  exact (VaultInv.raise (hset hbound.1.2) _ _ _).ite (hset hbound.1.2)

theorem VaultInv.authResponse {s t : State} (sigs : Bool) (h : VaultInv s) (ht : execAuthResponse sigs s = .next t) : VaultInv t := by
  rw [execAuthResponse, Host.Outcome.next.injEq] at ht
  subst ht
  refine h.vaultServe 0x04 0 fun r => ?_
  have hused : VaultInv (s.setVault { s.vault with chal := tabDel s.vault.chal r.path }) := h.setVault _
  refine VaultInv.reply (fun _ => hused) fun _ => ?_
  split
  · exact VaultInv.reply (fun _ => hused.setVault _) fun _ => hused.authFail
  · exact hused.authFail

theorem VaultInv.authChallenge {s t : State} (h : VaultInv s) (ht : execAuthChallenge s = .next t) : VaultInv t := by
  rw [execAuthChallenge, Host.Outcome.next.injEq] at ht
  subst ht
  refine h.vaultServe 0x03 0 fun r => ?_
  cases hhold : s.vault.hold
  · simpa [hhold] using VaultInv.setVault (s := (s.drbg 32).2) h.congr _
  · simpa [hhold] using h.setVault _

theorem VaultInv.unmapped {s : State} (h : VaultInv s) (o : Nat) (write : Bool) : VaultInv (s.unmapped o write) := by
  unfold State.unmapped
  dsimp only
  refine VaultInv.raise (VaultInv.wr ?_ BOH_UNMAPPED_CNT _) _ _ _
  split <;> split
  · exact h
  · exact h.wr BOH_UNMAPPED_ADDR _
  · exact h.congr
  · exact VaultInv.wr h.congr BOH_UNMAPPED_ADDR _

theorem VaultInv.hostDo {s : State} (h : VaultInv s) (r : Reg) (write : Bool) {f : State → State} (hf : VaultInv (f s)) :
    VaultInv (s.hostDo r write f) := h.ite (hf.ite (h.unmapped _ _))

/-- What a service of the Vault answers keeps the invariant. -/
theorem VaultInv.exec {s t : State} (h : VaultInv s) {c : Instr} (hc : vaultCommand c = true) (ht : exec c s = .next t) : VaultInv t := by
  have next {u : State} (hu : VaultInv u) (hrun : Machine.exec c s = .next u) : VaultInv t := by
    rw [hrun] at ht; exact Host.Outcome.next.inj ht ▸ hu
  cases c
  case vaultMbGo v => exact next (h.hostDo _ _ (h.mbWrite v)).settle rfl
  case vaultStatus => exact next (h.vaultServe 0x01 0 fun _ => h) rfl
  case vaultSelftest pass =>
    refine next (h.vaultServe 0x02 0 fun _ => ?_) rfl
    exact VaultInv.reply (fun _ => (h.vaultHoldClear 1).vaultHoldClear 2) fun _ => (h.raise 999 0x0E06 []).vaultHoldSet 2
  case authChallenge =>
    exact h.authChallenge ht
  case authResponse sigs => exact h.authResponse sigs ht
  case logout => exact next (h.vaultServe 0x05 0 fun _ => h.setVault _) rfl
  case quote =>
    refine next (h.vaultServeOut 0x10 _ fun r => ?_) rfl
    exact VaultInv.reply (fun _ => h) fun _ => h.congr
  case getCerts => exact next (h.vaultServe 0x11 0 fun _ => h) rfl
  case random =>
    refine next (h.vaultServeOut 0x12 2 fun r => ?_) rfl
    exact VaultInv.reply (fun _ => h) fun _ => h.congr
  case mediaKeyImport => exact h.mediaKeyImport ht
  case mediaKeyDelete => exact h.mediaKeyDelete ht
  case mediaKeyList => exact next (h.vaultServe 0x22 2 fun _ => h) rfl
  case rollbackAdvance => exact h.rollbackAdvance ht
  case rtcSet =>
    refine next (h.vaultServe 0x31 1 fun r => ?_) rfl
    exact VaultInv.reply (fun _ => h) fun _ => (h.setVault _).raise _ _ _
  case authSessionTimeout path => exact next (h.setVault _) rfl
  case authLockoutEnd => exact next ((h.setVault _).ite h) rfl
  case vbatLow => exact next ((VaultInv.setVault h.congr _).raise _ _ _) rfl
  all_goals exact absurd hc Bool.false_ne_true

/-! ### Settling O58 -/

@[simp] theorem tick_vault (s : State) : s.tick.vault = s.vault := by
  have hpass : (s.passTicks 1).vault = s.vault := by
    unfold State.passTicks
    dsimp only
    split_ifs <;> rfl
  rw [← hpass]
  unfold State.tick State.tb1Sync
  dsimp only
  split <;> rfl

@[simp] theorem tick_pending (s : State) : s.tick.pending = s.pending := by
  have hpass : (s.passTicks 1).pending = s.pending := by
    unfold State.passTicks
    dsimp only
    split_ifs <;> rfl
  rw [← hpass]
  unfold State.tick State.tb1Sync
  dsimp only
  split <;> rfl

/-- Settles O58: the front command is a service of the Vault or an end of its sessions, and a tick leaves the Vault. -/
theorem vaultInvariant : Obligations.VaultInvariant := by
  unfold Obligations.VaultInvariant Claims.VaultStepsKeepTheStore
  intro s t h ht
  cases hq : s.pending with
  | nil =>
    rw [step_idle hq] at ht
    exact Host.Outcome.next.inj ht ▸ h.congr (tick_vault s) (tick_pending s)
  | cons c cs =>
    obtain ⟨hlen, hnd, hpos, hrig, hcal, hfw, hpend⟩ := h
    rw [hq] at hpend
    have hrest : VaultInv { s with pending := cs } := ⟨hlen, hnd, hpos, hrig, hcal, hfw, fun d hd => hpend d (List.mem_cons_of_mem _ hd)⟩
    exact hrest.exec (hpend c (List.mem_cons_self ..)) (by simpa [step, hq] using ht)

end Sys2Proof.Claims
end

section
/-! PROOFS. Rules for the terms of the statements: what a command answers, which registers it leaves, and what fields read after writes. -/

-- One proof at a time: the text is compiled as one file in bounded memory.
set_option Elab.async false

namespace Sys2Proof.Claims
open Sys2Proof.Machine

/-! ### What a command answers -/

theorem Runs.next {i : Instr} {s t : State} {P : State → Prop} (hrun : exec i s = .next t) (hP : P t) : Runs i s P := ⟨t, hrun, hP⟩

/-! ### Registers that stay -/

theorem RegsBut.refl (s : State) (os : List Nat) : RegsBut s s os := fun _ _ => rfl

/-- The statement speaks of the register table only. -/
theorem RegsBut.congr {s t u : State} {os : List Nat} (h : RegsBut s t os) (hregs : u.regs = t.regs := by rfl) : RegsBut s u os :=
  fun o ho => hregs ▸ h o ho

theorem RegsBut.wr {s t : State} {os : List Nat} (h : RegsBut s t os) (r : Reg) (v : Word) (hr : r.off ∈ os := by simp) : RegsBut s (t.wr r v) os :=
  fun o ho => (State.reg?_wr_ne t r v (fun heq : o = r.off => ho (heq ▸ hr))).trans (h o ho)

theorem RegsBut.setFld {s t : State} {os : List Nat} (h : RegsBut s t os) (r : Reg) (f : Fld) (v : Nat) (hr : r.off ∈ os := by simp) :
    RegsBut s (t.setFld r f v) os := h.wr r _ hr

theorem RegsBut.setBit {s t : State} {os : List Nat} (h : RegsBut s t os) (r : Reg) (f : Fld) (b : Bool) (hr : r.off ∈ os := by simp) :
    RegsBut s (t.setBit r f b) os := h.wr r _ hr

theorem RegsBut.inc {s t : State} {os : List Nat} (h : RegsBut s t os) (r : Reg) (n : Nat) (hr : r.off ∈ os := by simp) :
    RegsBut s (t.inc r n) os := h.wr r _ hr

theorem RegsBut.raise {s t : State} {os : List Nat} (h : RegsBut s t os) (ev src : Nat) (items : List Word)
    (hev : evRegs ev ⊆ os := by simp [evRegs]) : RegsBut s (t.raise ev src items) os := by
  have hcnt : (EVT_R_CNT ev).off ∈ os := hev (by simp [evRegs])
  have hlast : (EVT_R_LAST ev).off ∈ os := hev (by simp [evRegs])
  exact RegsBut.congr ((h.wr (EVT_R_CNT ev) (satAdd (t.rd (EVT_R_CNT ev)) 1) hcnt).wr (EVT_R_LAST ev) (items.headD 0) hlast)

theorem RegsBut.ite {c : Prop} [Decidable c] {s t u : State} {os : List Nat} (ht : RegsBut s t os) (hu : RegsBut s u os) :
    RegsBut s (if c then t else u) os := by
  split
  · exact ht
  · exact hu

theorem RegsBut.settle {s t u : State} {os : List Nat} (h : RegsBut s t os) : RegsBut s (u.settle t) os := h.congr

theorem RegsBut.trans {s t u : State} {os : List Nat} (h : RegsBut s t os) (h' : RegsBut t u os) : RegsBut s u os :=
  fun o ho => (h' o ho).trans (h o ho)

theorem RegsBut.mono {s t : State} {os ps : List Nat} (h : RegsBut s t os) (hsub : os ⊆ ps) : RegsBut s t ps :=
  fun o ho => h o (fun hmem => ho (hsub hmem))

theorem RegsBut.foldl {α : Type} {s : State} {os : List Nat} {f : State → α → State} (hf : ∀ u a, RegsBut s u os → RegsBut s (f u a) os) :
    ∀ (as : List α) {t : State}, RegsBut s t os → RegsBut s (as.foldl f t) os
  | [], _, h => h
  | a :: as, _, h => RegsBut.foldl hf as (hf _ a h)

/-- A register outside the list reads as before. -/
theorem RegsBut.rd {s t : State} {os : List Nat} (h : RegsBut s t os) {r : Reg} (hr : r.off ∉ os) : t.rd r = s.rd r := by
  rw [State.rd, State.rd, tabGet, tabGet, h r.off hr]

/-! ### What changes only registers, or registers and occurrences -/

/-- Nothing but registers differs. -/
def OnlyRegs (s t : State) : Prop := t = { s with regs := t.regs }

/-- Nothing but registers and occurrences differs. -/
def OnlyRegsOcc (s t : State) : Prop := t = { s with regs := t.regs, occ := t.occ }

theorem OnlyRegs.refl (s : State) : OnlyRegs s s := rfl

theorem OnlyRegs.wr {s t : State} (h : OnlyRegs s t) (r : Reg) (v : Word) : OnlyRegs s (t.wr r v) := by
  rw [OnlyRegs] at h ⊢
  rw [h]; rfl

theorem OnlyRegs.setFld {s t : State} (h : OnlyRegs s t) (r : Reg) (f : Fld) (v : Nat) : OnlyRegs s (t.setFld r f v) := h.wr _ _
theorem OnlyRegs.setBit {s t : State} (h : OnlyRegs s t) (r : Reg) (f : Fld) (b : Bool) : OnlyRegs s (t.setBit r f b) := h.wr _ _
theorem OnlyRegs.inc {s t : State} (h : OnlyRegs s t) (r : Reg) (n : Nat) : OnlyRegs s (t.inc r n) := h.wr _ _

theorem OnlyRegs.ite {c : Prop} [Decidable c] {s t u : State} (ht : OnlyRegs s t) (hu : OnlyRegs s u) : OnlyRegs s (if c then t else u) := by
  split
  · exact ht
  · exact hu

theorem OnlyRegs.foldl {α : Type} {s : State} {f : State → α → State} (hf : ∀ u a, OnlyRegs s u → OnlyRegs s (f u a)) :
    ∀ (as : List α) {t : State}, OnlyRegs s t → OnlyRegs s (as.foldl f t)
  | [], _, h => h
  | a :: as, _, h => OnlyRegs.foldl hf as (hf _ a h)

theorem OnlyRegs.occ {s t : State} (h : OnlyRegs s t) : t.occ = s.occ := by
  rw [OnlyRegs] at h
  rw [h]

theorem OnlyRegs.regsOcc {s t : State} (h : OnlyRegs s t) : OnlyRegsOcc s t := by
  rw [OnlyRegs] at h
  rw [OnlyRegsOcc, h]

theorem OnlyRegsOcc.refl (s : State) : OnlyRegsOcc s s := rfl

theorem OnlyRegsOcc.wr {s t : State} (h : OnlyRegsOcc s t) (r : Reg) (v : Word) : OnlyRegsOcc s (t.wr r v) := by
  rw [OnlyRegsOcc] at h ⊢
  rw [h]; rfl

theorem OnlyRegsOcc.setFld {s t : State} (h : OnlyRegsOcc s t) (r : Reg) (f : Fld) (v : Nat) : OnlyRegsOcc s (t.setFld r f v) := h.wr _ _
theorem OnlyRegsOcc.setBit {s t : State} (h : OnlyRegsOcc s t) (r : Reg) (f : Fld) (b : Bool) : OnlyRegsOcc s (t.setBit r f b) := h.wr _ _
theorem OnlyRegsOcc.inc {s t : State} (h : OnlyRegsOcc s t) (r : Reg) (n : Nat) : OnlyRegsOcc s (t.inc r n) := h.wr _ _

theorem OnlyRegsOcc.raise {s t : State} (h : OnlyRegsOcc s t) (ev src : Nat) (items : List Word) : OnlyRegsOcc s (t.raise ev src items) := by
  rw [OnlyRegsOcc] at h ⊢
  rw [h]; rfl

theorem OnlyRegsOcc.settle {s t : State} (h : OnlyRegsOcc s t) (u : State) : OnlyRegsOcc s (u.settle t) := by
  rw [OnlyRegsOcc] at h ⊢
  rw [h]; rfl

theorem OnlyRegsOcc.ite {c : Prop} [Decidable c] {s t u : State} (ht : OnlyRegsOcc s t) (hu : OnlyRegsOcc s u) :
    OnlyRegsOcc s (if c then t else u) := by
  split
  · exact ht
  · exact hu

theorem OnlyRegsOcc.trans {s t u : State} (h : OnlyRegsOcc s t) (h' : OnlyRegsOcc t u) : OnlyRegsOcc s u := by
  rw [OnlyRegsOcc] at h h' ⊢
  rw [h', h]

end Sys2Proof.Claims

namespace Sys2Proof.Machine

/-! ### Fields after writes -/

@[simp] theorem State.rd_hostData (s : State) (x : Word) (r : Reg) : ({ s with hostData := x } : State).rd r = s.rd r := rfl

theorem State.fld_wr_self (s : State) (r : Reg) (v : Word) (f : Fld) : (s.wr r v).fld r f = f.get v := by rw [State.fld, State.rd_wr_self]
theorem State.bit_wr_self (s : State) (r : Reg) (v : Word) (f : Fld) : (s.wr r v).bit r f = bitOf v f.lo := by rw [State.bit, State.rd_wr_self]
theorem State.fld_wr_ne (s : State) {r q : Reg} (v : Word) (f : Fld) (h : q.off ≠ r.off) : (s.wr r v).fld q f = s.fld q f := by
  rw [State.fld, State.fld, State.rd_wr_ne s v h]
theorem State.bit_wr_ne (s : State) {r q : Reg} (v : Word) (f : Fld) (h : q.off ≠ r.off) : (s.wr r v).bit q f = s.bit q f := by
  rw [State.bit, State.bit, State.rd_wr_ne s v h]

/-- A field reads as it was set, cut to its width. -/
theorem State.fld_setFld_self (s : State) (r : Reg) (f : Fld) (v : Nat) (hf : f.hi < 32 := by decide) :
    (s.setFld r f v).fld r f = v % 2 ^ (f.hi + 1 - f.lo) := by
  rw [State.setFld_eq, State.fld_wr_self, Fld.get_put_self _ _ _ hf]

theorem State.fld_setFld_ne (s : State) (r : Reg) {f g : Fld} (v : Nat) (hg : g.hi < 32 := by decide) (h : g.hi < f.lo ∨ f.hi < g.lo := by decide) :
    (s.setFld r f v).fld r g = s.fld r g := by
  rw [State.setFld_eq, State.fld_wr_self, Fld.get_put_ne _ _ _ _ hg h]; rfl

theorem State.fld_setFld_reg (s : State) {r q : Reg} (f g : Fld) (v : Nat) (h : q.off ≠ r.off) : (s.setFld r f v).fld q g = s.fld q g :=
  State.fld_wr_ne s _ g h

theorem State.bit_setBit_self (s : State) (r : Reg) (f : Fld) (b : Bool) (hf : f.hi < 32 := by decide) (hl : f.lo ≤ f.hi := by decide) :
    (s.setBit r f b).bit r f = b := by
  rw [State.setBit_eq, State.bit_wr_self, Fld.bit_put_self _ _ _ hf hl]

theorem State.bit_setFld_ne (s : State) (r : Reg) {f g : Fld} (v : Nat) (hg : g.lo < 32 := by decide) (h : g.lo < f.lo ∨ f.hi < g.lo := by decide) :
    (s.setFld r f v).bit r g = s.bit r g := by
  rw [State.setFld_eq, State.bit_wr_self, Fld.bit_put_ne _ _ _ _ hg h]; rfl

theorem State.rd_setFld_ne (s : State) {r q : Reg} (f : Fld) (v : Nat) (h : q.off ≠ r.off) : (s.setFld r f v).rd q = s.rd q := State.rd_wr_ne s _ h

/-! ### Raised events -/

/-- The counter of an event after it is raised. -/
theorem State.rd_raise_cnt (s : State) (ev src : Nat) (items : List Word) :
    (s.raise ev src items).rd (EVT_R_CNT ev) = satAdd (s.rd (EVT_R_CNT ev)) 1 := by
  have hne : (EVT_R_CNT ev).off ≠ (EVT_R_LAST ev).off := by simp only [EVT_R_CNT, EVT_R_LAST]; omega
  exact (State.rd_wr_ne _ _ hne).trans (State.rd_wr_self _ _ _)

theorem State.rd_raise_last (s : State) (ev src : Nat) (items : List Word) : (s.raise ev src items).rd (EVT_R_LAST ev) = items.headD 0 :=
  State.rd_wr_self _ _ _

/-- A raise on a state with the same occurrences is put in order by a settle as it stands. -/
theorem State.settle_raise {s u : State} (ev src : Nat) (items : List Word) (h : u.occ = s.occ) :
    s.settle (u.raise ev src items) = u.raise ev src items := State.settle_one (by rw [State.raise_occ, h])

end Sys2Proof.Machine
end

section
/-! PROOFS. Rules for events seen from an earlier state, for folds that change nothing, and for the Vault's registers and the stage. -/

set_option Elab.async false

namespace Sys2Proof.Claims
open Sys2Proof.Machine

/-! ### Events seen from an earlier or at a later state -/

/-- Registers that change afterwards, other than those of the event, leave it raised. -/
theorem Raised.later {s t u : State} {ev src : Nat} {v : Word} {os : List Nat} (h : Raised s t ev src v) (hocc : u.occ = t.occ) (hregs : RegsBut t u os)
    (hcnt : (EVT_R_CNT ev).off ∉ os := by decide) (hlast : (EVT_R_LAST ev).off ∉ os := by decide) : Raised s u ev src v := by
  obtain ⟨ho, hc, hl⟩ := h
  exact ⟨by rw [hocc]; exact ho, (hregs.rd hcnt).trans hc, (hregs.rd hlast).trans hl⟩

/-- An event raised since a state is raised since an earlier one with the same occurrences and count. -/
theorem Raised.earlier {s u t : State} {ev src : Nat} {v : Word} {os : List Nat} (h : Raised u t ev src v) (hocc : u.occ = s.occ) (hregs : RegsBut s u os)
    (hcnt : (EVT_R_CNT ev).off ∉ os := by decide) : Raised s t ev src v := by
  obtain ⟨ho, hc, hl⟩ := h
  exact ⟨by rw [← hocc]; exact ho, by rw [hc, hregs.rd hcnt], hl⟩

theorem Raised.of_raise (s : State) (ev src : Nat) (items : List Word) : Raised s (s.raise ev src items) ev src (items.headD 0) :=
  State.raised_raise ev src items rfl rfl

theorem OnlyRegs.regsBut_occ {s t : State} (h : OnlyRegs s t) : t.occ = s.occ := h.occ

theorem OnlyRegs.trans {s t u : State} (h : OnlyRegs s t) (h' : OnlyRegs t u) : OnlyRegs s u := by
  rw [OnlyRegs] at h h' ⊢
  rw [h', h]

/-- What holds of the fields beside the registers is kept. -/
theorem OnlyRegs.field {α : Type} {s t : State} (h : OnlyRegs s t) (f : State → α) (hf : ∀ regs, f { s with regs := regs } = f s := by intro; rfl) : f t = f s := by
  rw [OnlyRegs] at h
  rw [h]; exact hf _

theorem OnlyRegsOcc.field {α : Type} {s t : State} (h : OnlyRegsOcc s t) (f : State → α)
    (hf : ∀ regs occ, f { s with regs := regs, occ := occ } = f s := by intro _ _; rfl) : f t = f s := by
  rw [OnlyRegsOcc] at h
  rw [h]; exact hf _ _

end Sys2Proof.Claims

namespace Sys2Proof.Machine
open Sys2Proof.Claims

/-! ### Folds -/

/-- A fold whose every step leaves its state leaves it. -/
theorem foldl_fixed_mem {α β : Type} {f : β → α → β} {b : β} : ∀ {l : List α}, (∀ a, a ∈ l → f b a = b) → l.foldl f b = b
  | [], _ => rfl
  | a :: l, h => by
    rw [List.foldl_cons, h a (List.mem_cons_self ..)]
    exact foldl_fixed_mem fun x hx => h x (List.mem_cons_of_mem _ hx)

/-! ### The Vault's registers -/

theorem State.vaultShow_only (s : State) : OnlyRegs s s.vaultShow := by
  unfold State.vaultShow
  refine (OnlyRegs.refl s).ite (OnlyRegs.foldl (fun _ _ hu => hu.wr _ _) _ ?_)
  exact ((((((OnlyRegs.refl s).wr VLT_STATUS _).wr VLT_HOLD_CAUSE _).wr VLT_RB_RIG _).wr VLT_RB_CAL _).wr VLT_RB_FW _)

/-- The Vault's state shows in its own registers alone. -/
theorem State.vaultShow_regs (s : State) : RegsBut s s.vaultShow vaultShown := by
  have hmem {o : Nat} (h : o ∈ vaultShown := by decide) : o ∈ vaultShown := h
  unfold State.vaultShow
  refine (RegsBut.refl s _).ite ?_
  have hfive := (((((RegsBut.refl s vaultShown).wr VLT_STATUS (w32 (b2n s.vault.ready + 2 * b2n s.vault.hold + 4 * b2n (!s.vault.queue.isEmpty ||
    !s.vault.verify.isEmpty) + 8 * b2n (tabGet s.vault.sess none 16).isSome + 16 * (s.vault.pflags % 2) + 32 * b2n s.vault.rtcValid +
    64 * s.vault.lifecycle)) hmem).wr VLT_HOLD_CAUSE (w32 s.vault.cause) hmem).wr VLT_RB_RIG (w32 s.vault.rbRig) hmem).wr VLT_RB_CAL
    (w32 s.vault.rbCal) hmem).wr VLT_RB_FW (w32 s.vault.rbFw) hmem
  exact (((hfive.wr (VLT_SERIAL 0) _ hmem).wr (VLT_SERIAL 1) _ hmem).wr (VLT_SERIAL 2) _ hmem).wr (VLT_SERIAL 3) _ hmem

theorem State.setVault_frame (s : State) (v : Vault) : s.setVault v = { s with regs := (s.setVault v).regs, vault := v } :=
  State.vaultShow_only { s with vault := v }

theorem State.setVault_regs (s : State) (v : Vault) : RegsBut s (s.setVault v) vaultShown := State.vaultShow_regs { s with vault := v }

@[simp] theorem State.setVault_occ (s : State) (v : Vault) : (s.setVault v).occ = s.occ := by rw [State.setVault_frame]

/-! ### The stage (R113) -/

/-- The registers that a change of the stage can change. -/
def stageRegs : List Nat := BOH_BOOT_STATUS.off :: evRegs 32 ++ vaultShown

theorem State.stage_eq (s : State) : s.stage = BOH_BOOT_STATUS_STAGE.get (s.rd BOH_BOOT_STATUS) := rfl

/-- The stage stands while its register does. -/
theorem State.stage_regsBut {s t : State} {os : List Nat} (h : RegsBut s t os) (hos : BOH_BOOT_STATUS.off ∉ os := by decide) : t.stage = s.stage := by
  rw [State.stage_eq, State.stage_eq, h.rd hos]

section
variable {s : State} {n : Nat} (hne : s.stage ≠ n)
include hne

theorem State.toStage_ne : s.toStage n = ((s.setFld BOH_BOOT_STATUS BOH_BOOT_STATUS_STAGE n).raise 32 0x0E00 [w32 n]).vaultShow := if_neg hne

theorem State.toStage_raised : Raised s (s.toStage n) 32 0x0E00 (w32 n) := by
  have hset : RegsBut s (s.setFld BOH_BOOT_STATUS BOH_BOOT_STATUS_STAGE n) [BOH_BOOT_STATUS.off] := (RegsBut.refl s _).setFld BOH_BOOT_STATUS _ _
  have hraised : Raised s ((s.setFld BOH_BOOT_STATUS BOH_BOOT_STATUS_STAGE n).raise 32 0x0E00 [w32 n]) 32 0x0E00 (w32 n) :=
    State.raised_raise 32 0x0E00 [w32 n] rfl (hset.rd (by decide))
  rw [State.toStage_ne hne]
  exact hraised.later (State.vaultShow_only _).occ (State.vaultShow_regs _)

theorem State.toStage_occ : (s.toStage n).occ = s.occ ++ [⟨32, 0x0E00, w32 n, [], s.ns, s.rd (EVT_R_CFG 32), s.rd (EVT_R_TGT 32)⟩] := by
  rw [State.toStage_ne hne, (State.vaultShow_only _).occ, State.raise_occ, State.rd_setFld_ne _ _ _ (by decide), State.rd_setFld_ne _ _ _ (by decide)]
  rfl

theorem State.stage_toStage (hn : n < 16) : (s.toStage n).stage = n := by
  rw [State.toStage_ne hne, State.stage_regsBut (State.vaultShow_regs _), State.stage_eq, State.rd_raise _ _ _ _ (by decide) (by decide)]
  exact (State.fld_setFld_self s BOH_BOOT_STATUS BOH_BOOT_STATUS_STAGE n).trans (Nat.mod_eq_of_lt hn)

end

theorem State.toStage_only (s : State) (n : Nat) : OnlyRegsOcc s (s.toStage n) := by
  unfold State.toStage
  refine (OnlyRegsOcc.refl s).ite (OnlyRegsOcc.trans ?_ (State.vaultShow_only _).regsOcc)
  exact ((OnlyRegsOcc.refl s).setFld BOH_BOOT_STATUS _ _).raise 32 0x0E00 [w32 n]

theorem State.toStage_regs (s : State) (n : Nat) : RegsBut s (s.toStage n) stageRegs := by
  unfold State.toStage
  refine (RegsBut.refl s _).ite (RegsBut.trans ?_ ((State.vaultShow_regs _).mono (by simp [stageRegs])))
  exact ((RegsBut.refl s stageRegs).setFld BOH_BOOT_STATUS _ _ (by simp [stageRegs])).raise 32 0x0E00 [w32 n] (by simp [stageRegs])

end Sys2Proof.Machine
end

section
/-! PROOFS. Host accesses of BAR0 (R6 to R8, R39, R42): the dwords that an access touches, plain writes and reads bit by bit, unmapped accesses, and latched pairs. -/

-- One proof at a time: the text is compiled as one file in bounded memory.
set_option Elab.async false

namespace Sys2Proof.Machine
open Sys2Proof.Claims

/-! ### The dwords of an access -/

theorem dwordsOf_word {a : Nat} (h : a % 4 = 0) : dwordsOf a 4 = [a] := by
  have hn : (a + 4 - 1) / 4 + 1 - a / 4 = 1 := by omega
  have ha : a / 4 * 4 = a := by omega
  rw [dwordsOf, hn]
  simp [ha]

theorem dwordsOf_pair {a : Nat} (h : a % 8 = 0) : dwordsOf a 8 = [a, a + 4] := by
  have hn : (a + 8 - 1) / 4 + 1 - a / 4 = 2 := by omega
  have ha : a / 4 * 4 = a := by omega
  have hb : (a / 4 + 1) * 4 = a + 4 := by omega
  rw [dwordsOf, hn]
  simp [List.range_succ, ha, hb]

/-- An aligned access of at most a dword touches one dword. -/
theorem dwordsOf_aligned {a k : Nat} (hk : k < 3) (h : a % 2 ^ k = 0) : dwordsOf a (2 ^ k) = [a / 4 * 4] := by
  have hn : (a + 2 ^ k - 1) / 4 + 1 - a / 4 = 1 := by
    interval_cases k <;> omega
  rw [dwordsOf, hn]
  simp

/-- A narrower access covers no dword. -/
theorem coversDword_narrow {a k : Nat} (hk : k < 2) (h : a % 2 ^ k = 0) : coversDword a (2 ^ k) (a / 4 * 4) = false := by
  have : ¬ (a ≤ a / 4 * 4 ∧ a / 4 * 4 + 4 ≤ a + 2 ^ k) := by
    interval_cases k <;> omega
  simpa [coversDword] using this

/-! ### Whole writes -/

theorem State.plainWrite_regs (s : State) (row : RegRow) (i o : Nat) (v hw : Word) :
    s.plainWrite row i o v hw = s.wr ⟨o, row.reset i⟩ (row.written (fixedBits o) hw (s.rd ⟨o, row.reset i⟩) v) := rfl

/-- A whole write of a register that its access types govern alone. -/
theorem exec_hostRegisterWrite_plain {addr : BitVec 28} {v : BitVec 64} {hw : Word} {s : State} {row : RegRow} {i : Nat} (hup : s.hostUp = true)
    (halign : addr.toNat % 4 = 0) (hacc : s.accessible addr.toNat = true) (hrow : regRowAt addr.toNat = some (row, i))
    (hguard : s.shadowGuard row addr.toNat = none) (heff : effectOf row.base = none) :
    exec (.hostRegisterWrite addr 2 v hw) s = .next (s.plainWrite row i addr.toNat (w32 v.toNat) hw) := by
  have hcover : coversDword addr.toNat 4 addr.toNat = true := by simp [coversDword]
  have hwrite : s.regWrite addr.toNat (w32 v.toNat) hw = s.plainWrite row i addr.toNat (w32 v.toNat) hw := by
    simp [State.regWrite, hrow, hguard, heff]
  have hdword : s.dwordWrite addr.toNat true (w32 (v.toNat / 2 ^ (8 * (addr.toNat - addr.toNat)))) hw =
      s.plainWrite row i addr.toNat (w32 v.toNat) hw := by
    rw [State.dwordWrite, if_pos hacc, if_pos rfl, Nat.sub_self, Nat.mul_zero, Nat.pow_zero, Nat.div_one, hwrite]
  have hocc : (s.plainWrite row i addr.toNat (w32 v.toNat) hw).occ = s.occ := rfl
  have hsettle := State.settle_same hocc
  change execHostRegisterWrite addr 2 v hw s = _
  simp only [execHostRegisterWrite, hup, accessBytes, Fin.isValue, Fin.val_two, Nat.reducePow, dwordsOf_word halign, List.foldl_cons, List.foldl_nil,
    hcover, hdword, hsettle]
  rfl

theorem w32_toNat_getLsbD (v : BitVec 64) {b : Nat} (hb : b < 32) : (w32 v.toNat).getLsbD b = v.getLsbD b := by
  rw [w32_getLsbD, decide_eq_true hb, Bool.true_and]; rfl

/-- What a written register holds, bit by bit (R7). -/
theorem RegRow.written_getLsbD (row : RegRow) (fixed hw old v : Word) {b : Nat} (hb : b < 32) :
    (row.written fixed hw old v).getLsbD b =
      (((old.getLsbD b && !(row.rw.getLsbD b && !fixed.getLsbD b)) || (v.getLsbD b && (row.rw.getLsbD b && !fixed.getLsbD b)) ||
        (v.getLsbD b && row.w1s.getLsbD b && !hw.getLsbD b)) && !(v.getLsbD b && row.w1c.getLsbD b && !hw.getLsbD b)) := by
  simp [RegRow.written, hb]

theorem hostWriteByAccessType : Claims.HostWriteByAccessType := by
  intro addr v hw s row i hup halign hacc hrow hguard heff
  refine Runs.next (exec_hostRegisterWrite_plain hup halign hacc hrow hguard heff) ⟨fun b hb => ?_, (RegsBut.refl s _).wr _ _, rfl⟩
  have hnew := RegRow.written_getLsbD row (fixedBits addr.toNat) hw (s.rd ⟨addr.toNat, row.reset i⟩) (w32 v.toNat) hb
  rw [w32_toNat_getLsbD v hb] at hnew
  simp only [State.plainWrite_regs, State.rd_wr_self, hnew]
  clear hnew hb
  refine ⟨?_, ?_, ?_, ?_, ?_⟩ <;> intros <;> simp [*]

theorem narrowWriteIsDiscarded : Claims.NarrowWriteIsDiscarded := by
  intro addr size v hw s
  refine ⟨fun hup hsize halign hacc => ?_, fun hdown => congrArg Host.Outcome.next (if_pos (by simp [hdown]))⟩
  have hsettle : s.settle s = s := State.settle_same rfl
  change execHostRegisterWrite addr size v hw s = _
  simp [execHostRegisterWrite, hup, accessBytes, dwordsOf_aligned (by omega : size.val < 3) halign, coversDword_narrow hsize halign,
    State.dwordWrite, hacc, hsettle]

/-- Settles O4: a whole write is the plain write of its row, read bit by bit; a narrow one reaches no register. -/
theorem hostWritesFollowAccessTypes : Obligations.HostWritesFollowAccessTypes := ⟨hostWriteByAccessType, narrowWriteIsDiscarded⟩

/-! ### Reads -/

/-- What a register holds after a read, bit by bit (R7, R8). -/
theorem RegRow.afterRead_getLsbD (row : RegRow) (i : Nat) (inc v : Word) {b : Nat} (hb : b < 32) :
    (row.afterRead i inc v).getLsbD b = if row.rc.getLsbD b then (row.reset i + inc).getLsbD b else v.getLsbD b := by
  by_cases hrc : row.rc.getLsbD b = true
  · simp only [RegRow.afterRead, BitVec.getLsbD_or, BitVec.getLsbD_and, BitVec.getLsbD_not, hrc, hb]
    simp
  · simp only [RegRow.afterRead, BitVec.getLsbD_or, BitVec.getLsbD_and, BitVec.getLsbD_not, hrc, hb]
    simp

/-- The state that a read of a plain register leaves. -/
def State.plainRead (s : State) (row : RegRow) (i o : Nat) (inc : Word) : State :=
  let t : State := { s with hostData := row.shown (s.rd ⟨o, row.reset i⟩) }
  if row.rc = 0 then t else t.wr ⟨o, row.reset i⟩ (row.afterRead i inc (s.rd ⟨o, row.reset i⟩))

@[simp] theorem State.plainRead_occ (s : State) (row : RegRow) (i o : Nat) (inc : Word) : (s.plainRead row i o inc).occ = s.occ := by
  unfold State.plainRead
  dsimp only
  split <;> rfl

theorem State.regRead_plain {s : State} {row : RegRow} {i o : Nat} (inc : Word) (hrow : regRowAt o = some (row, i))
    (hbase : row.base ∉ [STK_TB0_NOW.off, STK_TB1_NOW.off, STK_TB3_NOW.off, (UMP_S_DELAY_LO 0).off, LOG_SEQ_LO.off, LOG_OPTIME_LO.off, VLT_RTC_LO.off,
      (CAT_TBL_DATA 0).off, (CAT_DEF_DATA 0 0).off, (DRV_H_ILL_DATA 0 0).off, (LKP_TBL_DATA0 0).off, (LKP_TBL_DATA1 0).off]) :
    s.regRead o inc = s.plainRead row i o inc := by
  simp only [List.mem_cons, List.not_mem_nil, or_false, not_or] at hbase
  simp only [State.regRead, hrow, hbase, if_false]
  rfl

theorem hostReadClearsRcBits : Claims.HostReadClearsRcBits := by
  intro addr size inc s row i o r hup hacc hrow hbase
  have hdword : s.settle (s.dwordRead o inc) = s.plainRead row i o inc := by
    rw [State.dwordRead, if_pos hacc, State.regRead_plain inc hrow hbase, State.settle_same (State.plainRead_occ ..)]
  refine Runs.next (t := { s.plainRead row i o inc with hostData := w32 ((s.plainRead row i o inc).hostData.toNat / 2 ^ (8 * (addr.toNat % 4)) % 2 ^ (8 * 2 ^ size.val)) })
    (by change execRcRead addr size inc s = _; simp only [execRcRead, hup]; exact congrArg (fun t : State => Host.Outcome.next
      { t with hostData := w32 (t.hostData.toNat / 2 ^ (8 * (addr.toNat % 4)) % 2 ^ (8 * 2 ^ size.val)) }) hdword) ?_
  by_cases hrc : row.rc = 0
  · rw [State.plainRead, if_pos hrc]
    have hbit (b : Nat) : row.rc.getLsbD b = false := by simp [hrc]
    exact ⟨rfl, fun b _ => by rw [hbit]; rfl, fun _ => rfl, RegsBut.refl s _, rfl⟩
  · rw [State.plainRead, if_neg hrc]
    refine ⟨rfl, fun b hb => ?_, fun h => absurd h hrc, ((RegsBut.refl s _).wr r _ (List.mem_singleton.2 rfl)).congr, rfl⟩
    have hread := State.rd_wr_self s r (row.afterRead i inc (s.rd r))
    exact (congrArg (BitVec.getLsbD · b) hread).trans (RegRow.afterRead_getLsbD row i inc _ hb)

theorem lowWordReadLatchesTheHigh : Claims.LowWordReadLatchesTheHigh := by
  intro s
  refine ⟨fun r ⟨hup, hacc⟩ => ?_, fun ⟨hup, hacc⟩ => ?_, fun ⟨hup, hacc⟩ => ?_, fun ⟨hup, hacc⟩ => ?_, fun ⟨hup, hacc⟩ => ?_⟩
  · exact congrArg Host.Outcome.next (State.hostDo_reach s (UMP_S_DELAY_LO r) false (·.delayRead r) hup hacc)
  · refine Runs.next (congrArg Host.Outcome.next (State.hostDo_reach s VLT_RTC_LO false (·.rtcRead) hup hacc)) ?_
    exact ⟨rfl, State.rd_wr_self (s.wr VLT_RTC_LO _) VLT_RTC_HI _, (((RegsBut.refl s _).wr VLT_RTC_LO _).wr VLT_RTC_HI _).congr, rfl⟩
  · refine Runs.next (congrArg Host.Outcome.next (State.hostDo_reach s LOG_SEQ_LO false (·.logSeqRead) hup hacc)) ?_
    exact ⟨rfl, State.rd_wr_self s LOG_SEQ_HI _, ((RegsBut.refl s _).wr LOG_SEQ_HI _).congr, rfl⟩
  · refine Runs.next (congrArg Host.Outcome.next (State.hostDo_reach s LOG_OPTIME_LO false (·.logTimeRead) hup hacc)) ?_
    exact ⟨rfl, State.rd_wr_self (s.wr LOG_OPTIME_LO _) LOG_OPTIME_HI _, (((RegsBut.refl s _).wr LOG_OPTIME_LO _).wr LOG_OPTIME_HI _).congr, rfl⟩
  · refine Runs.next (t := { s.snapshot with hostData := s.ns })
      (congrArg Host.Outcome.next (State.hostDo_reach s STK_TB0_NOW false (fun s => { s.snapshot with hostData := s.ns }) hup hacc)) ?_
    have hdata : ({ s.snapshot with hostData := s.ns } : State).hostData = s.ns := rfl
    have hfrac : s.snapshot.rd STK_SNAP_FRAC = s.frac := by simp (disch := decide) [State.snapshot, State.rd_wr_ne]
    have htb1 : s.snapshot.rd STK_SNAP_TB1 = s.tb1Now := by simp (disch := decide) [State.snapshot, State.rd_wr_ne]
    have htb3 : s.snapshot.rd STK_SNAP_TB3 = s.tb3Now := by simp (disch := decide) [State.snapshot, State.rd_wr_ne]
    have hsteps : s.snapshot.rd STK_SNAP_STEPS = w32 s.stk.steps := by simp [State.snapshot]
    have hregs : RegsBut s s.snapshot [STK_SNAP_FRAC.off, STK_SNAP_TB1.off, STK_SNAP_TB3.off, STK_SNAP_STEPS.off] :=
      (((RegsBut.refl s _).wr STK_SNAP_FRAC _).wr STK_SNAP_TB1 _).wr STK_SNAP_TB3 _ |>.wr STK_SNAP_STEPS _
    have honly : OnlyRegs s s.snapshot := (((OnlyRegs.refl s).wr STK_SNAP_FRAC _).wr STK_SNAP_TB1 _).wr STK_SNAP_TB3 _ |>.wr STK_SNAP_STEPS _
    exact ⟨hdata, (State.rd_hostData ..).trans hfrac, (State.rd_hostData ..).trans htb1, (State.rd_hostData ..).trans htb3,
      (State.rd_hostData ..).trans hsteps, hregs.congr, congrArg (fun u : State => { u with hostData := s.ns }) honly⟩

/-- Settles O5: plain reads by the masks of their row, and the pairs by the read that latches the high word. -/
theorem hostReadsHaveTheirEffects : Obligations.HostReadsHaveTheirEffects := ⟨hostReadClearsRcBits, lowWordReadLatchesTheHigh⟩

/-! ### Unmapped accesses -/

/-- The latched word has VALID set (R39). -/
theorem unmappedWord_valid (o : Nat) (write iso : Bool) : (unmappedWord o write iso).getLsbD 31 = true := by
  have hlo : b2n write * 0x40000000 + b2n iso * 0x10000000 + o % 0x10000000 / 4 * 4 < 2 ^ 31 := by
    have hw : b2n write ≤ 1 := Bool.toNat_le _
    have hi : b2n iso ≤ 1 := Bool.toNat_le _
    omega
  have hsum : 0x80000000 + b2n write * 0x40000000 + b2n iso * 0x10000000 + o % 0x10000000 / 4 * 4 =
      2 ^ 31 + (b2n write * 0x40000000 + b2n iso * 0x10000000 + o % 0x10000000 / 4 * 4) := by omega
  rw [unmappedWord, w32_getLsbD, hsum, Nat.testBit_two_pow_add_eq, Nat.testBit_lt_two_pow hlo]
  rfl

/-- A read returns 0 where no register answers (R39). -/
def State.readsZero (s : State) (write : Bool) : State := if write then s else { s with hostData := 0 }

theorem State.readsZero_frame (s : State) (write : Bool) : s.readsZero write = { s with hostData := if write then s.hostData else 0 } := by
  cases write <;> rfl
@[simp] theorem State.readsZero_rd (s : State) (write : Bool) (r : Reg) : (s.readsZero write).rd r = s.rd r := by cases write <;> rfl
@[simp] theorem State.readsZero_occ (s : State) (write : Bool) : (s.readsZero write).occ = s.occ := by cases write <;> rfl

/-- The state in which an unmapped access stands latched and counted, before its event. -/
def State.unmappedKept (s : State) (w : Word) (write : Bool) : State :=
  (if bitOf ((s.readsZero write).rd BOH_UNMAPPED_ADDR) 31 then s.readsZero write else (s.readsZero write).wr BOH_UNMAPPED_ADDR w).inc BOH_UNMAPPED_CNT

theorem State.unmapped_eq (s : State) (o : Nat) (write : Bool) :
    s.unmapped o write = (s.unmappedKept (unmappedWord o write (regRowAt o).isSome) write).raise 8 0x0E00 [unmappedWord o write (regRowAt o).isSome] := by
  unfold State.unmapped State.unmappedKept State.readsZero
  dsimp only

section
variable (s : State) (w : Word) (write : Bool)

theorem State.unmappedKept_addr : (s.unmappedKept w write).rd BOH_UNMAPPED_ADDR =
    if (s.rd BOH_UNMAPPED_ADDR).getLsbD 31 then s.rd BOH_UNMAPPED_ADDR else w := by
  rw [State.unmappedKept, State.inc_eq, State.rd_wr_ne _ _ (by decide), State.readsZero_rd, bitOf]
  split
  · exact State.readsZero_rd ..
  · exact State.rd_wr_self _ _ _

theorem State.unmappedKept_cnt : (s.unmappedKept w write).rd BOH_UNMAPPED_CNT = satAdd (s.rd BOH_UNMAPPED_CNT) 1 := by
  rw [State.unmappedKept, State.inc_eq, State.rd_wr_self]
  split
  · rw [State.readsZero_rd]
  · rw [State.rd_wr_ne _ _ (by decide), State.readsZero_rd]

theorem State.unmappedKept_only : OnlyRegs (s.readsZero write) (s.unmappedKept w write) :=
  ((OnlyRegs.refl _).ite ((OnlyRegs.refl _).wr BOH_UNMAPPED_ADDR w)).inc BOH_UNMAPPED_CNT 1

theorem State.unmappedKept_frame :
    s.unmappedKept w write = { s with regs := (s.unmappedKept w write).regs, hostData := if write then s.hostData else 0 } := by
  have honly := State.unmappedKept_only s w write
  rw [State.readsZero_frame, OnlyRegs] at honly
  exact honly

theorem State.unmappedKept_occ : (s.unmappedKept w write).occ = s.occ := (State.unmappedKept_only s w write).occ.trans (State.readsZero_occ ..)

theorem State.unmappedKept_regs : RegsBut s (s.unmappedKept w write) [BOH_UNMAPPED_ADDR.off, BOH_UNMAPPED_CNT.off] := by
  have hread : RegsBut s (s.readsZero write) [BOH_UNMAPPED_ADDR.off, BOH_UNMAPPED_CNT.off] := by cases write <;> exact (RegsBut.refl s _).congr
  exact (hread.ite (hread.wr BOH_UNMAPPED_ADDR w)).inc BOH_UNMAPPED_CNT 1

end

theorem satAdd_one (w : Word) : satAdd w 1 = w32 (min 0xFFFFFFFF (w.toNat + 1)) := rfl

/-- Two counts, each saturating, are one count of two. -/
theorem satAdd_twice (w : Word) : satAdd (satAdd w 1) 1 = w32 (min 0xFFFFFFFF (w.toNat + 2)) := by
  have hle : min satMax (w.toNat + 1) < 2 ^ 32 := by unfold satMax; omega
  have hmin : min satMax (min satMax (w.toNat + 1) + 1) = min 0xFFFFFFFF (w.toNat + 2) := by unfold satMax; omega
  rw [satAdd, satAdd, BitVec.toNat_ofNat, Nat.mod_eq_of_lt hle, hmin]

/-- What holds of an unmapped access of one dword (R39, R42). -/
theorem State.unmapped_latched (s : State) (o : Nat) (write : Bool) :
    let t := s.unmapped o write
    (write = false → t.hostData = 0) ∧ (write = true → t.hostData = s.hostData) ∧
    ((s.rd BOH_UNMAPPED_ADDR).getLsbD 31 = true → t.rd BOH_UNMAPPED_ADDR = s.rd BOH_UNMAPPED_ADDR) ∧
    ((s.rd BOH_UNMAPPED_ADDR).getLsbD 31 = false → t.rd BOH_UNMAPPED_ADDR = unmappedWord o write (regRowAt o).isSome) ∧
    t.rd BOH_UNMAPPED_CNT = satAdd (s.rd BOH_UNMAPPED_CNT) 1 ∧ Raised s t 8 0x0E00 (unmappedWord o write (regRowAt o).isSome) ∧
    RegsBut s t (BOH_UNMAPPED_ADDR.off :: BOH_UNMAPPED_CNT.off :: evRegs 8) ∧ t = { s with regs := t.regs, hostData := t.hostData, occ := t.occ } := by
  intro t
  have ht : t = s.unmapped o write := rfl
  rw [State.unmapped_eq] at ht
  clear_value t
  generalize unmappedWord o write (regRowAt o).isSome = w at ht ⊢
  have haddr : t.rd BOH_UNMAPPED_ADDR = (s.unmappedKept w write).rd BOH_UNMAPPED_ADDR := by
    rw [ht]; exact State.rd_raise _ _ _ _ (by decide) (by decide)
  have hcnt : t.rd BOH_UNMAPPED_CNT = (s.unmappedKept w write).rd BOH_UNMAPPED_CNT := by
    rw [ht]; exact State.rd_raise _ _ _ _ (by decide) (by decide)
  have honly : OnlyRegsOcc (s.unmappedKept w write) t := by rw [ht]; exact (OnlyRegsOcc.refl _).raise 8 0x0E00 [w]
  have hframe : t = { s with regs := t.regs, hostData := if write then s.hostData else 0, occ := t.occ } := by
    rw [State.unmappedKept_frame, OnlyRegsOcc] at honly
    exact honly
  rw [State.unmappedKept_addr] at haddr
  rw [State.unmappedKept_cnt] at hcnt
  refine ⟨fun h => by rw [hframe]; simp [h], fun h => by rw [hframe]; simp [h], fun h => by rw [haddr, if_pos h], fun h => by rw [haddr, if_neg (Bool.eq_false_iff.1 h)], hcnt, ?_, ?_, ?_⟩
  · rw [ht]
    exact State.raised_raise 8 0x0E00 [w] (State.unmappedKept_occ s w write) ((State.unmappedKept_regs s w write).rd (by decide))
  · rw [ht]
    exact ((State.unmappedKept_regs s w write).mono (by simp)).raise 8 0x0E00 [w]
  · rw [hframe]

/-- An unmapped access of one dword is that of `unmapped`. -/
theorem exec_unmappedAccess_dword {addr : BitVec 28} {size : Fin 4} {write : Bool} {s : State} (hup : s.hostUp = true) (hsize : size.val < 3)
    (halign : addr.toNat % 2 ^ size.val = 0) (hacc : s.accessible (addr.toNat / 4 * 4) = false) :
    exec (.unmappedAccess addr size write) s = .next (s.unmapped (addr.toNat / 4 * 4) write) := by
  have hsettle : s.settle (s.unmapped (addr.toNat / 4 * 4) write) = s.unmapped (addr.toNat / 4 * 4) write := by
    rw [State.unmapped_eq]; exact State.settle_raise _ _ _ (State.unmappedKept_occ ..)
  change execUnmappedAccess addr size write s = _
  simp [execUnmappedAccess, hup, accessBytes, dwordsOf_aligned hsize halign, hacc, hsettle]

/-- An access reaches the same registers after one that was unmapped. -/
theorem State.accessible_unmapped (s : State) (o p : Nat) (write : Bool) : (s.unmapped o write).accessible p = s.accessible p := by
  obtain ⟨-, -, -, -, -, -, hregs, hframe⟩ := State.unmapped_latched s o write
  have hregion (r : Nat) : (s.unmapped o write).region r = s.region r := congrArg (Fld.get _) (hregs.rd (by decide))
  have hboot : (s.unmapped o write).boot = s.boot := by rw [hframe]
  unfold State.accessible State.paddleBlocks
  rw [hboot]
  simp only [hregion]

theorem unmappedAccessIsLatched : Claims.UnmappedAccessIsLatched := by
  intro addr size write s o
  refine ⟨fun hup hsize halign hacc => ?_, fun hup hsize halign => ⟨fun hlow hhigh => ?_, fun hlow hhigh => ?_⟩⟩
  · obtain ⟨hread, hwrite, hold, hnew, hcnt, hraised, hregs, hframe⟩ := State.unmapped_latched s o write
    exact Runs.next (exec_unmappedAccess_dword hup hsize halign hacc) ⟨hread, hwrite, hold, hnew, hcnt, ⟨_, hraised⟩, hregs, hframe⟩
  · have hadd : (addr + 4).toNat = addr.toNat + 4 := by
      have := addr.isLt
      rw [BitVec.toNat_add]; simp; omega
    have hword : (addr + 4).toNat / 4 * 4 = addr.toNat + 4 := by omega
    have hhalf : exec (.unmappedAccess (addr + 4) 2 write) s = .next (s.unmapped ((addr + 4).toNat / 4 * 4) write) :=
      exec_unmappedAccess_dword hup (by decide) (by rw [hadd]; simp; omega) (by rwa [hword])
    rw [hhalf, hword]
    have hsettle : s.settle (s.unmapped (addr.toNat + 4) write) = s.unmapped (addr.toNat + 4) write := by
      rw [State.unmapped_eq]; exact State.settle_raise _ _ _ (State.unmappedKept_occ ..)
    change execUnmappedAccess addr 3 write s = _
    simp [execUnmappedAccess, hup, accessBytes, dwordsOf_pair halign, hlow, hhigh, hsettle]
  · obtain ⟨-, -, hold, hnew, hcnt, -, hregs, -⟩ := State.unmapped_latched s addr.toNat write
    obtain ⟨-, -, hold', -, hcnt', -, hregs', -⟩ := State.unmapped_latched (s.unmapped addr.toNat write) (addr.toNat + 4) write
    have hrun : exec (.unmappedAccess addr 3 write) s = .next (s.settle ((s.unmapped addr.toNat write).unmapped (addr.toNat + 4) write)) := by
      have hwords : dwordsOf addr.toNat (accessBytes 3) = [addr.toNat, addr.toNat + 4] := dwordsOf_pair halign
      change execUnmappedAccess addr 3 write s = _
      rw [execUnmappedAccess, hwords, List.foldl_cons, List.foldl_cons, List.foldl_nil, hlow, if_neg Bool.false_ne_true, State.accessible_unmapped, hhigh,
        if_neg Bool.false_ne_true, hup]
      rfl
    refine Runs.next hrun ⟨fun hv => ?_, fun hv => ?_, ?_, (hregs.trans hregs').settle⟩
    · rw [State.rd_settle, hold' ((congrArg (·.getLsbD 31) (hold hv)).trans hv), hold hv]
    · rw [State.rd_settle, hold' (by rw [hnew hv]; exact unmappedWord_valid ..), hnew hv]
    · rw [State.rd_settle, hcnt', hcnt, satAdd_twice]

/-- Settles O6: each dword of the access is latched, counted and raises event 8, the lower one first. -/
theorem unmappedAccessesAreCounted : Obligations.UnmappedAccessesAreCounted := unmappedAccessIsLatched

end Sys2Proof.Machine
end

section
/-! PROOFS. The step on a queue and on an empty one, and the state after reset (R2, R10, R41, R113, R131). -/

-- One proof at a time: the text is compiled as one file in bounded memory.
set_option Elab.async false

namespace Sys2Proof.Machine
open Sys2Proof.Claims

/-- Settles O1: by the definition of a step on a queue that is not empty. -/
theorem stepRunsTheFrontCommand : Obligations.StepRunsTheFrontCommand := fun _ _ _ => rfl

/-! ### The idle tick -/

theorem State.passTicks_running {s : State} (n : Nat) (h : s.hlt.clocksStopped = false) :
    s.passTicks n = { (if (s.tb0.toNat + n * (s.rd STK_TB0_INC).toNat) / 2 ^ 64 = 0 then s
      else s.wr ETH_TB0_WRAP (s.rd ETH_TB0_WRAP + w32 ((s.tb0.toNat + n * (s.rd STK_TB0_INC).toNat) / 2 ^ 64))) with
      tb0 := BitVec.ofNat 64 (s.tb0.toNat + n * (s.rd STK_TB0_INC).toNat), ticks := s.ticks + n } := by
  unfold State.passTicks
  rw [if_neg (by simp [h])]
  dsimp only
  split <;> rfl

theorem State.passTicks_stopped {s : State} (n : Nat) (h : s.hlt.clocksStopped = true) : s.passTicks n = s := if_pos h

/-- Bringing the origin of MODE 2 along changes TB1's own state alone (R137). -/
theorem State.tb1Sync_frame (s : State) : s.tb1Sync = { s with stk := { s.stk with tb1 := s.tb1Sync.stk.tb1 } } := by
  unfold State.tb1Sync
  dsimp only
  split <;> rfl

@[simp] theorem State.rd_tb1Sync (s : State) (r : Reg) : s.tb1Sync.rd r = s.rd r := by rw [State.tb1Sync_frame]; rfl

theorem State.passTicks_frame (s : State) (n : Nat) :
    s.passTicks n = { s with regs := (s.passTicks n).regs, tb0 := (s.passTicks n).tb0, ticks := (s.passTicks n).ticks } := by
  cases h : s.hlt.clocksStopped
  · rw [State.passTicks_running n h]
    split <;> rfl
  · rw [State.passTicks_stopped n h]

theorem State.passTicks_regs (s : State) (n : Nat) : RegsBut s (s.passTicks n) [ETH_TB0_WRAP.off] := by
  cases h : s.hlt.clocksStopped
  · rw [State.passTicks_running n h]
    exact ((RegsBut.refl s _).ite ((RegsBut.refl s _).wr ETH_TB0_WRAP _)).congr
  · rw [State.passTicks_stopped n h]
    exact RegsBut.refl s _

/-- A wrap of NS counts in ETH_TB0_WRAP (R449). -/
theorem State.rd_passTicks_wrap {s : State} (n : Nat) (h : s.hlt.clocksStopped = false) :
    (s.passTicks n).rd ETH_TB0_WRAP = s.rd ETH_TB0_WRAP + w32 ((s.tb0.toNat + n * (s.rd STK_TB0_INC).toNat) / 2 ^ 64) := by
  rw [State.passTicks_running n h]
  generalize (s.tb0.toNat + n * (s.rd STK_TB0_INC).toNat) / 2 ^ 64 = k
  by_cases hk : k = 0
  · rw [if_pos hk, hk]; exact (BitVec.add_zero _).symm
  · rw [if_neg hk]; exact State.rd_wr_self _ _ _

theorem State.passTicks_ticks {s : State} (n : Nat) (h : s.hlt.clocksStopped = false) : (s.passTicks n).ticks = s.ticks + n := by
  rw [State.passTicks_running n h]

theorem State.tb1Sync_regs (s : State) : s.tb1Sync.regs = s.regs := by rw [State.tb1Sync_frame]
theorem State.tb1Sync_ticks (s : State) : s.tb1Sync.ticks = s.ticks := by rw [State.tb1Sync_frame]

/-- A tick changes the wrap count, TB0, the ticks and TB1's own state. -/
theorem State.tick_frame (s : State) :
    s.tick = { s with regs := s.tick.regs, tb0 := s.tick.tb0, ticks := s.tick.ticks, stk := { s.stk with tb1 := s.tick.stk.tb1 } } := by
  rw [State.tick, State.tb1Sync_regs, State.tb1Sync_tb0, State.tb1Sync_ticks]
  exact (State.tb1Sync_frame _).trans
    (congrArg (fun u : State => { u with stk := { u.stk with tb1 := (s.passTicks 1).tb1Sync.stk.tb1 } }) (State.passTicks_frame s 1))

theorem idleStepPassesATick : Claims.IdleStepPassesATick := by
  intro s hq
  have hticks : s.tick.ticks = (s.passTicks 1).ticks := State.tb1Sync_ticks _
  refine ⟨s.tick, step_idle hq, fun hrun => ⟨State.tick_tb0 hrun, ?_, ?_⟩, fun hstop => ⟨?_, ?_⟩, ?_, ?_, State.tick_frame s⟩
  · rw [hticks, State.passTicks_ticks 1 hrun]
  · rw [State.tick, State.rd_tb1Sync, State.rd_passTicks_wrap 1 hrun, Nat.one_mul]
  · rw [State.tick, State.tb1Sync_tb0, State.passTicks_stopped 1 hstop]
  · rw [hticks, State.passTicks_stopped 1 hstop]
  · exact (State.passTicks_regs s 1).congr (State.tb1Sync_regs _)
  · rw [State.tick_frame]; exact hq

/-- Settles O2: the idle step is a tick. -/
theorem idleStepIsOneTick : Obligations.IdleStepIsOneTick := idleStepPassesATick

/-! ### The state after reset -/

/-- Nothing is listed after reset, so a register reads its reset value (R10). -/
theorem State.rd_reset (r : Reg) : State.reset.rd r = r.reset := rfl

theorem resetHoldsTheSpecsValues : Claims.ResetHoldsTheSpecsValues := by
  refine ⟨fun o row i _ => State.rd_reset _, State.rd_reset _, rfl, State.rd_reset _, fun r hr => ?_, rfl, rfl, rfl⟩
  interval_cases r <;> rfl

theorem reset_canon : Claims.ResetIsCanonical := ⟨rfl, rfl⟩

theorem resetMeetsTheInvariants : Claims.ResetMeetsTheInvariants := by
  refine ⟨⟨reset_canon, ?_, ?_, fun c hc => absurd hc (List.not_mem_nil)⟩, ?_⟩
  · rw [State.rd_reset]; decide
  · rw [State.rd_reset]; decide
  · exact ⟨Nat.zero_le _, List.nodup_nil, fun k hk => absurd hk (List.not_mem_nil), Nat.zero_le _, Nat.zero_le _, Nat.zero_le _,
      fun c hc => absurd hc (List.not_mem_nil)⟩

/-- Settles O3: nothing is listed after reset, so every register reads its reset value. -/
theorem resetLeavesTheSpecsValues : Obligations.ResetLeavesTheSpecsValues := ⟨resetHoldsTheSpecsValues, reset_canon, resetMeetsTheInvariants⟩

end Sys2Proof.Machine
end

section
/-! PROOFS. Resets and bring-up (R87, R106, R107, R113 to R119, R126, R435, R466, R483): what PORESET_N leaves, the stages of bring-up, and those of an orderly shutdown. -/

set_option Elab.async false

namespace Sys2Proof.Machine
open Sys2Proof.Claims

/-! ### PORESET_N -/

/-- The state that PORESET_N leaves before the registers that survive it. -/
def State.porBlank (s : State) (aon : Bool) : State where
  log := { mram := s.log.mram, opTime := if aon then s.opNow else s.log.opStored, opStored := s.log.opStored }
  vault := { life := s.vault.life, burnt := s.vault.burnt, vendor := s.vault.vendor, serial := s.vault.serial, rbRig := s.vault.rbRig,
             rbCal := s.vault.rbCal, rbFw := s.vault.rbFw, keys := s.vault.keys, certs := s.vault.certs, gen := s.vault.gen, storeOk := s.vault.storeOk,
             rtcValid := s.vault.rtcValid, rtcSec := s.rtcNow, tampWait := s.vault.tampWait }
  out := s.out
  pending := s.pending
  freeCtr := s.freeCtr

section
variable (s : State) (aon : Bool)

theorem State.porReset_eq : s.porReset aon =
    (((s.porBlank aon).wr LOG_PCYCLES (s.rd LOG_PCYCLES)).wr VLT_TAMPER (s.rd VLT_TAMPER)).setBit LOG_STATUS LOG_STATUS_KEEL_FULL
      (s.bit LOG_STATUS LOG_STATUS_KEEL_FULL) := rfl

theorem State.porReset_only : OnlyRegs (s.porBlank aon) (s.porReset aon) :=
  (((OnlyRegs.refl _).wr LOG_PCYCLES _).wr VLT_TAMPER _).setBit LOG_STATUS _ _

theorem State.porReset_regs : RegsBut (s.porBlank aon) (s.porReset aon) [LOG_PCYCLES.off, VLT_TAMPER.off, LOG_STATUS.off] :=
  (((RegsBut.refl _ _).wr LOG_PCYCLES _).wr VLT_TAMPER _).setBit LOG_STATUS _ _

theorem State.rd_porReset_pcycles : (s.porReset aon).rd LOG_PCYCLES = s.rd LOG_PCYCLES := by
  rw [State.porReset_eq, State.setBit_eq, State.rd_wr_ne _ _ (by decide), State.rd_wr_ne _ _ (by decide), State.rd_wr_self]

theorem State.rd_porReset_tamper : (s.porReset aon).rd VLT_TAMPER = s.rd VLT_TAMPER := by
  rw [State.porReset_eq, State.setBit_eq, State.rd_wr_ne _ _ (by decide), State.rd_wr_self]

theorem State.bit_porReset_keel : (s.porReset aon).bit LOG_STATUS LOG_STATUS_KEEL_FULL = s.bit LOG_STATUS LOG_STATUS_KEEL_FULL := by
  rw [State.porReset_eq, State.bit_setBit_self _ _ LOG_STATUS_KEEL_FULL]

end

/-- The state after the release of PORESET_N, before the straps are sampled: the RTC has run on without VDD_AON. -/
def State.porClocked (s : State) (aon : Bool) (off : Nat) : State :=
  if aon then s.porReset aon else { s.porReset aon with vault := { (s.porReset aon).vault with rtcSec := (s.porReset aon).vault.rtcSec + off } }

theorem State.porClocked_frame (s : State) (aon : Bool) (off : Nat) :
    s.porClocked aon off = { s.porReset aon with vault := { (s.porReset aon).vault with rtcSec := (s.porReset aon).vault.rtcSec + (if aon then 0 else off) } } := by
  cases aon <;> rfl

/-- The state in which the power cycle counts and the straps are sampled (R483, R520). -/
def State.strapped (z : State) (dens : BitVec 2) (clam : Bool) : State :=
  ((z.inc LOG_PCYCLES).setFld G7_CONFIG G7_CONFIG_DENS dens.toNat).setBit G7_CONFIG G7_CONFIG_CLAM clam

theorem State.strapped_only (z : State) (dens : BitVec 2) (clam : Bool) : OnlyRegs z (z.strapped dens clam) :=
  (((OnlyRegs.refl z).inc LOG_PCYCLES 1).setFld G7_CONFIG _ _).setBit G7_CONFIG _ _

theorem State.strapped_regs (z : State) (dens : BitVec 2) (clam : Bool) : RegsBut z (z.strapped dens clam) [LOG_PCYCLES.off, G7_CONFIG.off] :=
  (((RegsBut.refl z _).inc LOG_PCYCLES 1).setFld G7_CONFIG _ _).setBit G7_CONFIG _ _

theorem State.strapped_straps (z : State) (dens : BitVec 2) (clam : Bool) :
    (z.strapped dens clam).fld G7_CONFIG G7_CONFIG_DENS = dens.toNat ∧ (z.strapped dens clam).bit G7_CONFIG G7_CONFIG_CLAM = clam ∧
    (z.strapped dens clam).rd LOG_PCYCLES = satAdd (z.rd LOG_PCYCLES) 1 := by
  refine ⟨?_, State.bit_setBit_self _ _ _ _, ?_⟩
  · have hdens : dens.toNat % 2 ^ (G7_CONFIG_DENS.hi + 1 - G7_CONFIG_DENS.lo) = dens.toNat := Nat.mod_eq_of_lt (by have := dens.isLt; simp [G7_CONFIG_DENS]; omega)
    rw [State.strapped, State.setBit, State.fld_setFld_ne _ _ (f := G7_CONFIG_CLAM) (g := G7_CONFIG_DENS), State.fld_setFld_self _ _ G7_CONFIG_DENS, hdens]
  · rw [State.strapped, State.setBit, State.rd_setFld_ne _ _ _ (by decide), State.rd_setFld_ne _ _ _ (by decide), State.inc_eq, State.rd_wr_self]

theorem exec_powerOnReset (aon : Bool) (off : Word) (dens : BitVec 2) (clam agree : Bool) (s : State) :
    exec (.powerOnReset aon off dens clam agree) s =
      .next { (s.porClocked aon off.toNat).strapped dens clam with boot := { ((s.porClocked aon off.toNat).strapped dens clam).boot with strapBad := !agree || dens == 0 } } :=
  rfl

theorem powerOnResetClears : Claims.PowerOnResetClears := by
  intro aon off dens clam agree s
  refine Runs.next (exec_powerOnReset aon off dens clam agree s) ?_
  obtain ⟨hdens, hclam, hcycles⟩ := State.strapped_straps (s.porClocked aon off.toNat) dens clam
  have hregs := State.strapped_regs (s.porClocked aon off.toNat) dens clam
  have honly := State.strapped_only (s.porClocked aon off.toNat) dens clam
  have hclocked : (s.porClocked aon off.toNat).regs = (s.porReset aon).regs := by rw [State.porClocked_frame]
  have hrd (r : Reg) : (s.porClocked aon off.toNat).rd r = (s.porReset aon).rd r := by rw [State.rd, State.rd, hclocked]
  have hbit (r : Reg) (f : Fld) : (s.porClocked aon off.toNat).bit r f = (s.porReset aon).bit r f := by rw [State.bit, State.bit, hrd]
  rw [hrd, State.rd_porReset_pcycles] at hcycles
  have htamper : ((s.porClocked aon off.toNat).strapped dens clam).rd VLT_TAMPER = s.rd VLT_TAMPER := by
    rw [hregs.rd (by decide), hrd, State.rd_porReset_tamper]
  have hkeel : ((s.porClocked aon off.toNat).strapped dens clam).bit LOG_STATUS LOG_STATUS_KEEL_FULL = s.bit LOG_STATUS LOG_STATUS_KEEL_FULL := by
    rw [State.bit, hregs.rd (by decide)]; exact (hbit _ _).trans (State.bit_porReset_keel s aon)
  have hnone : ∀ o, o ∉ [LOG_PCYCLES.off, VLT_TAMPER.off, LOG_STATUS.off, G7_CONFIG.off] →
      tabGet? ((s.porClocked aon off.toNat).strapped dens clam).regs o = none := by
    intro o ho
    simp only [List.mem_cons, List.not_mem_nil, or_false, not_or] at ho
    obtain ⟨hp, ht, hl, hg⟩ := ho
    rw [hregs o (by simp [hp, hg]), hclocked, State.porReset_regs s aon o (by simp [hp, ht, hl])]
    rfl
  generalize (s.porClocked aon off.toNat).strapped dens clam = t at *
  have hframe : t = { s.porBlank aon with
      regs := t.regs
      vault := { (s.porBlank aon).vault with rtcSec := (s.porBlank aon).vault.rtcSec + (if aon then 0 else off.toNat) } } := by
    rw [OnlyRegs] at honly
    rw [honly, State.porClocked_frame, State.porReset_only s aon]
  refine ⟨hnone, hcycles, htamper, hkeel, hdens, hclam, ?_⟩
  rw [hframe]
  exact ⟨rfl, rfl, rfl, rfl, rfl, rfl, rfl, rfl, rfl, rfl, rfl, rfl, rfl, rfl, rfl, rfl, rfl, rfl, rfl⟩

/-- A cut of the flush changes the Logbook's store alone, and nothing while no flush runs (R511). -/
theorem State.logCut_frame (s : State) (n : Nat) : s.logCut n = { s with log := { s.log with mram := (s.logCut n).log.mram } } := by
  unfold State.logCut
  split <;> rfl

theorem poresetAssertResetsAtOnce : Claims.PoresetAssertResetsAtOnce := by
  intro written s
  refine ⟨fun hhigh => ?_, fun hlow => congrArg Host.Outcome.next (if_pos hlow)⟩
  refine Runs.next (congrArg Host.Outcome.next (if_neg (by simp [hhigh]))) ?_
  have hregs := State.porReset_regs (s.logCut written.toNat) true
  have honly := State.porReset_only (s.logCut written.toNat) true
  have hmram : s.log.flushing = false → (s.logCut written.toNat).log.mram = s.log.mram := fun h => by rw [State.logCut, if_pos (by simp [h])]
  generalize (s.logCut written.toNat).porReset true = t at *
  rw [OnlyRegs] at honly
  rw [honly]
  refine ⟨rfl, rfl, rfl, rfl, rfl, rfl, rfl, fun o ho => ?_, hmram⟩
  exact hregs o ho

/-! ### Host warm reset -/

/-- The register table without those that a host warm reset returns to Reset. -/
theorem tabGet?_filter {α : Type} (t : Table α) (p : Nat → Bool) (o : Nat) : tabGet? (t.filter (fun e => p e.1)) o = if p o then tabGet? t o else none := by
  induction t with
  | nil => simp [tabGet?]
  | cons e t ih =>
    by_cases he : e.1 = o
    · subst he
      cases hp : p e.1
      · have : tabGet? (t.filter (fun e => p e.1)) e.1 = none := by rw [ih, hp]; rfl
        rw [List.filter_cons_of_neg (by simp [hp]), this]; rfl
      · rw [List.filter_cons_of_pos (by simp [hp]), if_pos rfl]
        simp [tabGet?]
    · have hbeq : (e.1 == o) = false := by simpa using he
      have hskip : tabGet? (e :: t) o = tabGet? t o := by simp [tabGet?, hbeq]
      rw [hskip, ← ih]
      cases hp : p e.1
      · rw [List.filter_cons_of_neg (by simp [hp])]
      · rw [List.filter_cons_of_pos (by simp [hp])]
        simp [tabGet?, hbeq]

/-- The state whose endpoint has been reset, before the Vault's sessions close. -/
def State.endpointReset (s : State) : State := { s with regs := s.regs.filter (fun e => !warmReg e.1), call := {}, lnd := { s.lnd with bar2Log := 28 } }

/-- The Vault without its sessions, the requests of Calls, and the Calls that asked for verifications (R466). -/
def Vault.warm (v : Vault) : Vault :=
  let w := { v with sess := [], queue := v.queue.filter (fun r => 16 ≤ r.path), verify := v.verify.map (fun (x : VVerify) => { x with path := 16 }) }
  { w with turn := w.next }

theorem exec_hostWarmReset {s : State} (h : s.boot.poresetLow = false) :
    exec .hostWarmReset s = .next (s.settle ((s.endpointReset.setVault s.vault.warm).raise 38 0x0E00)) := congrArg Host.Outcome.next (if_neg (by simp [h]))

theorem warmReg_vaultShown {o : Nat} (h : o ∈ evRegs 38 ++ vaultShown) : warmReg o = false := by
  have hall : (evRegs 38 ++ vaultShown).all (fun o => !warmReg o) = true := by decide
  simpa using List.all_eq_true.1 hall o h

theorem warmResetKeepsTheBlocks : Claims.WarmResetKeepsTheBlocks := by
  intro s hhigh
  have hocc : (s.endpointReset.setVault s.vault.warm).occ = s.occ := State.setVault_occ _ _
  have hregs : RegsBut s.endpointReset ((s.endpointReset.setVault s.vault.warm).raise 38 0x0E00) (evRegs 38 ++ vaultShown) :=
    ((State.setVault_regs s.endpointReset s.vault.warm).mono (List.subset_append_right ..)).raise 38 0x0E00 [] (List.subset_append_left ..)
  have hfilter (o : Nat) : tabGet? s.endpointReset.regs o = if warmReg o then none else tabGet? s.regs o := by
    have := tabGet?_filter s.regs (fun o => !warmReg o) o
    cases hw : warmReg o <;> simpa [State.endpointReset, hw] using this
  refine Runs.next ((exec_hostWarmReset hhigh).trans (by rw [State.settle_raise _ _ _ hocc])) ?_
  have hframe : OnlyRegsOcc { s.endpointReset with vault := s.vault.warm } ((s.endpointReset.setVault s.vault.warm).raise 38 0x0E00) :=
    ((State.vaultShow_only _).regsOcc).raise 38 0x0E00 []
  have hraise : ((s.endpointReset.setVault s.vault.warm).raise 38 0x0E00).occ =
      s.occ ++ [⟨38, 0x0E00, 0, [], (s.endpointReset.setVault s.vault.warm).ns, (s.endpointReset.setVault s.vault.warm).rd (EVT_R_CFG 38),
        (s.endpointReset.setVault s.vault.warm).rd (EVT_R_TGT 38)⟩] := by rw [State.raise_occ, hocc]; rfl
  generalize (s.endpointReset.setVault s.vault.warm).raise 38 0x0E00 = t at *
  rw [OnlyRegsOcc] at hframe
  have hcall : t.call = {} := by rw [hframe]; rfl
  have hsess : t.vault.sess = [] := by rw [hframe]; rfl
  refine ⟨hcall, hsess, fun o ho => ?_, fun o ho hnot => ?_, ⟨_, hraise, rfl, rfl⟩, ?_⟩
  · rw [hregs o (fun h => by rw [warmReg_vaultShown h] at ho; exact Bool.false_ne_true ho), hfilter, if_pos ho]
  · rw [hregs o hnot, hfilter, if_neg (by simp [ho])]
  · rw [hframe]; rfl

/-- Settles O7: PORESET_N leaves a blank state with the registers that survive it, and a host warm reset clears the endpoint's part of the state. -/
theorem powerOnAndWarmResets : Obligations.PowerOnAndWarmResets := ⟨powerOnResetClears, poresetAssertResetsAtOnce, warmResetKeepsTheBlocks⟩

end Sys2Proof.Machine
end

section
/-! PROOFS. Bring-up by stages, GDDR7 training, and orderly shutdown (R73, R87, R88, R113 to R119, R126). -/

set_option Elab.async false

namespace Sys2Proof.Machine
open Sys2Proof.Claims

/-! ### To the boot loader -/

theorem toStage_sameMem (s : State) (n : Nat) : SameMem s (s.toStage n) :=
  fun a => (State.toStage_only s n).field (fun u => u.mem a) (fun _ _ => rfl)

/-- The stage after a change of it whatever stood before. -/
theorem State.stage_toStage_any (s : State) {n : Nat} (hn : n < 16) : (s.toStage n).stage = n := by
  by_cases h : s.stage = n
  · rw [State.toStage, if_pos h, h]
  · exact State.stage_toStage h hn

theorem State.stage_settle (s t : State) : (s.settle t).stage = t.stage := rfl

theorem bootPllLocked_rom {s : State} (hstage : s.stage = 0) (hhigh : s.boot.poresetLow = false) (hsafe : s.safe = false) :
    Runs .bootPllLocked s (fun t => t.stage = 1 ∧ (∃ o, t.occ = s.occ ++ [o] ∧ o.num = 32 ∧ o.value = 1) ∧ t.rig = s.rig ∧ SameMem s t) := by
  have hne : s.stage ≠ 1 := by omega
  have hocc := State.toStage_occ hne
  refine Runs.next (congrArg Host.Outcome.next (if_pos (by simp [hstage, hhigh, hsafe]))) ?_
  rw [State.settle_one hocc]
  exact ⟨State.stage_toStage hne (by decide), ⟨_, hocc, rfl, rfl⟩, (State.toStage_only s 1).field State.rig, toStage_sameMem s 1⟩

/-- The Logbook's registers show its state: they alone change (R114). -/
theorem State.logShow_only (s : State) : OnlyRegs s s.logShow := ((OnlyRegs.refl s).wr LOG_STATUS _).wr LOG_SEQ_LO _
theorem State.logRead_only (s : State) : OnlyRegs s s.logRead := OnlyRegs.foldl (fun _ i hu => hu.wr (LOG_RD_DATA i) _) _ (OnlyRegs.refl s)

/-- The registers that show the Logbook. -/
def logShown : List Nat := [LOG_STATUS.off, LOG_SEQ_LO.off]

theorem State.logShow_regs (s : State) : RegsBut s s.logShow logShown := by
  have hstatus : LOG_STATUS.off ∈ logShown := by decide
  have hseq : LOG_SEQ_LO.off ∈ logShown := by decide
  exact RegsBut.wr (RegsBut.wr (RegsBut.refl s _) LOG_STATUS _ hstatus) LOG_SEQ_LO _ hseq

/-- The readout window changes at its 32 registers. -/
theorem State.logRead_regs (s : State) : RegsBut s s.logRead ((List.range 32).map fun i => (LOG_RD_DATA i).off) := by
  have hstep : ∀ (is : List Nat) (u : State), RegsBut s u ((List.range 32).map fun i => (LOG_RD_DATA i).off) → (∀ i, i ∈ is → i < 32) →
      RegsBut s (is.foldl (fun s' i => s'.wr (LOG_RD_DATA i) (w32 (leAt (s.logSlotBytes (bitsOf (s.rd LOG_RD_SLOT).toNat 15 0)) (4 * i) 4))) u)
        ((List.range 32).map fun i => (LOG_RD_DATA i).off) := by
    intro is
    induction is with
    | nil => exact fun u hu _ => hu
    | cons i is ih =>
      intro u hu his
      refine ih _ (hu.wr (LOG_RD_DATA i) _ ?_) fun j hj => his j (List.mem_cons_of_mem _ hj)
      exact List.mem_map.2 ⟨i, List.mem_range.2 (his i (List.mem_cons_self ..)), rfl⟩
  exact hstep _ s (RegsBut.refl s _) fun i hi => List.mem_range.1 hi

section
variable {s : State} (hstage : s.stage = 1) (hstore : s.vault.storeOk = true) (hburnt : s.vault.burnt = false) (hlife : s.vault.life ≤ 64)
  (htamp : s.vault.tampWait = false)
include hstore hburnt hlife htamp

/-- The state in which the self-tests passed with the key store open, and the Logbook knows its next SEQ. -/
def State.selftested (s : State) : State :=
  let u := s.setVault { s.vault with ready := true }
  u.setLog { u.log with seq := logScan u.log.mram }

theorem State.selftestPassed_open : s.selftestPassed true =
    ((s.selftested.toStage 2).wr LND_EP_ID (w32 (0x0C960000 + (s.selftested.toStage 2).vault.vendor % 65536))).logShow.logRead := by
  have hvault : ∀ v, (s.setVault v).vault = v := State.setVault_vault s
  have hvendor : (s.selftested.toStage 2).vault = s.selftested.vault := (State.toStage_only _ 2).field State.vault
  rw [hvendor]
  unfold State.selftestPassed
  simp only [hstore, hburnt, Bool.not_false, Bool.and_true, if_true, hvault, htamp]
  have h64 : ¬ 64 < s.vault.life := by omega
  simp only [h64, decide_false, Bool.false_and, Bool.or_self, Bool.false_eq_true, if_false, hvault]
  simp only [State.selftested, hstore, hburnt, htamp]

end

theorem State.selftested_frame (s : State) : s.selftested = { s with
    regs := s.selftested.regs
    vault := { s.vault with ready := true }
    log := { s.log with seq := logScan s.log.mram } } := by
  unfold State.selftested
  rw [State.setVault_frame]
  rfl

theorem State.selftested_regs (s : State) : RegsBut s s.selftested vaultShown := (State.setVault_regs s _).congr

theorem selftestDone_passes {s : State} (hstage : s.stage = 1) (hstore : s.vault.storeOk = true) (hburnt : s.vault.burnt = false)
    (hlife : s.vault.life ≤ 64) (htamp : s.vault.tampWait = false) : Runs (.selftestDone true true) s (fun t =>
      t.stage = 2 ∧ t.vault.ready = true ∧ t.vault.keys = s.vault.keys ∧ t.rd LND_EP_ID = w32 (0x0C960000 + s.vault.vendor % 65536) ∧
      t.log.seq = logScan s.log.mram) := by
  refine Runs.next (congrArg Host.Outcome.next (if_pos hstage)) ?_
  rw [if_pos rfl, State.selftestPassed_open hstore hburnt hlife htamp]
  have hne : s.selftested.stage ≠ 2 := by rw [State.stage_regsBut (State.selftested_regs s)]; omega
  have hvault : (s.selftested.toStage 2).vault = { s.vault with ready := true } := by
    rw [(State.toStage_only s.selftested 2).field State.vault, State.selftested_frame]
  have hlog : (s.selftested.toStage 2).log = { s.log with seq := logScan s.log.mram } := by
    rw [(State.toStage_only s.selftested 2).field State.log, State.selftested_frame]
  have hstage2 := State.stage_toStage hne (by decide)
  generalize s.selftested.toStage 2 = u at *
  generalize hw : w32 (0x0C960000 + u.vault.vendor % 65536) = w
  have hw' : w32 (0x0C960000 + s.vault.vendor % 65536) = w := by rw [← hw, hvault]
  have honly : OnlyRegs u (u.wr LND_EP_ID w).logShow.logRead :=
    (((OnlyRegs.refl u).wr LND_EP_ID w).trans (State.logShow_only _)).trans (State.logRead_only _)
  have hlogs : RegsBut (u.wr LND_EP_ID w) (u.wr LND_EP_ID w).logShow.logRead (logShown ++ (List.range 32).map fun i => (LOG_RD_DATA i).off) :=
    ((State.logShow_regs _).mono (List.subset_append_left ..)).trans ((State.logRead_regs _).mono (List.subset_append_right ..))
  refine ⟨?_, ?_, ?_, ?_, ?_⟩
  · rw [State.stage_settle, State.stage_regsBut hlogs, State.stage_regsBut ((RegsBut.refl u [LND_EP_ID.off]).wr LND_EP_ID w)]
    exact hstage2
  · rw [State.settle_vault, honly.field State.vault, hvault]
  · rw [State.settle_vault, honly.field State.vault, hvault]
  · rw [State.rd_settle, hlogs.rd (by decide), State.rd_wr_self, hw']
  · rw [State.settle_log, honly.field State.log, hlog]

/-! ### The boot loader -/

theorem loaderVerified_fails {s : State} {img : List Byte} {k : SigCheck} {at_ : BitVec 22} {script : List Byte} (hstage : s.stage = 2)
    (hbad : s.boot.loaderBad = false) (hsafe : s.safe = false) (hk : s.loaderOk img k = false) :
    exec (.loaderVerified false img k at_ script) s = .next { s with boot := { s.boot with loaderBad := true } } := by
  change execLoaderVerified false img k at_ script s = _
  rw [execLoaderVerified, if_neg (by simp [hstage, hbad, hsafe]), if_neg (by simp [hk]), if_neg Bool.false_ne_true]

theorem loaderVerified_failsB {s : State} {img : List Byte} {k : SigCheck} {at_ : BitVec 22} {script : List Byte} (hstage : s.stage = 2)
    (hbad : s.boot.loaderBad = true) (hsafe : s.safe = false) (hk : s.loaderOk img k = false) :
    Runs (.loaderVerified true img k at_ script) s (fun t => t.stage = 6 ∧ t.rd BOH_BOOT_ERR = 3) := by
  have hrun : exec (.loaderVerified true img k at_ script) s = .next (s.settle ((s.wr BOH_BOOT_ERR 3).toStage 6)) := by
    change execLoaderVerified true img k at_ script s = _
    rw [execLoaderVerified, if_neg (by simp [hstage, hbad, hsafe]), if_neg (by simp [hk]), if_pos rfl]
  refine Runs.next hrun ⟨State.stage_toStage_any _ (by decide), ?_⟩
  rw [State.rd_settle, (State.toStage_regs (s.wr BOH_BOOT_ERR 3) 6).rd (by decide), State.rd_wr_self]

section
variable (s : State) (img desc script : List Byte)

/-- The state in which a verified loader is measured and shown, before the stage changes. -/
def State.loaderShown (s : State) (img desc : List Byte) : State :=
  let u := s.setVault { s.vault with fwMeas := measExtend s.vault.fwMeas (sha384 (sliceAt img 0 256)), fwIn := (imgHeader img).rollback }
  let u : State := { u with boot := { u.boot with desc := some (descOf desc) } }
  (u.setBit BOH_BOOT_STATUS BOH_BOOT_STATUS_AUTO ((descOf desc).bflags / 2 % 2 == 1)).setFld (BOH_COACH 0) ⟨2, 0⟩ 1

theorem State.loaderStart_plain (hpaddle : (descOf desc).bflags % 2 = 0) :
    s.loaderStart img desc script = ((s.loaderShown img desc).toStage 3).setFld G7_STATUS G7_STATUS_STATE 1 := if_neg (by omega)

theorem State.loaderShown_frame : s.loaderShown img desc = { s with
    regs := (s.loaderShown img desc).regs
    vault := { s.vault with fwMeas := measExtend s.vault.fwMeas (sha384 (sliceAt img 0 256)), fwIn := (imgHeader img).rollback }
    boot := { s.boot with desc := some (descOf desc) } } := by
  have honly : OnlyRegs { s.setVault { s.vault with fwMeas := measExtend s.vault.fwMeas (sha384 (sliceAt img 0 256)), fwIn := (imgHeader img).rollback } with
      boot := { s.boot with desc := some (descOf desc) } } (s.loaderShown img desc) := by
    have hboot : (s.setVault { s.vault with fwMeas := measExtend s.vault.fwMeas (sha384 (sliceAt img 0 256)), fwIn := (imgHeader img).rollback }).boot = s.boot := by
      rw [State.setVault_frame]
    rw [State.loaderShown, hboot]
    exact ((OnlyRegs.refl _).setBit BOH_BOOT_STATUS _ _).setFld (BOH_COACH 0) _ _
  rw [OnlyRegs] at honly
  rw [honly, State.setVault_frame]

theorem State.coach_loaderShown : (s.loaderShown img desc).fld (BOH_COACH 0) ⟨2, 0⟩ = 1 := State.fld_setFld_self _ _ ⟨2, 0⟩ 1

/-- A verified loader starts: EARLY, and GDDR7 in training (R113, R115, R117). -/
theorem State.loaderStart_early (hpaddle : (descOf desc).bflags % 2 = 0) :
    let t := s.loaderStart img desc script
    t.stage = 3 ∧ t.fld G7_STATUS G7_STATUS_STATE = 1 ∧ t.boot.desc = some (descOf desc) ∧ t.vault.fwIn = (imgHeader img).rollback ∧
    t.fld (BOH_COACH 0) ⟨2, 0⟩ = 1 := by
  intro t
  have ht : t = ((s.loaderShown img desc).toStage 3).setFld G7_STATUS G7_STATUS_STATE 1 := State.loaderStart_plain s img desc script hpaddle
  have honly : OnlyRegsOcc (s.loaderShown img desc) t := by rw [ht]; exact (State.toStage_only _ 3).setFld G7_STATUS _ _
  have hg7 : RegsBut ((s.loaderShown img desc).toStage 3) t [G7_STATUS.off] := by rw [ht]; exact (RegsBut.refl _ _).setFld G7_STATUS _ _
  refine ⟨?_, ?_, ?_, ?_, ?_⟩
  · rw [State.stage_regsBut hg7, State.stage_toStage_any _ (by decide)]
  · rw [ht, State.fld_setFld_self _ _ G7_STATUS_STATE]; rfl
  · rw [honly.field (fun u => u.boot.desc), State.loaderShown_frame]
  · rw [honly.field (fun u => u.vault.fwIn), State.loaderShown_frame]
  · rw [State.fld, hg7.rd (by decide), (State.toStage_regs (s.loaderShown img desc) 3).rd (by decide)]
    exact State.coach_loaderShown s img desc

end

theorem loaderVerified_starts {s : State} {img : List Byte} {k : SigCheck} {at_ : BitVec 22} {script : List Byte} (hstage : s.stage = 2)
    (hbad : s.boot.loaderBad = false) (hsafe : s.safe = false) (hk : s.loaderOk img k = true)
    (hpaddle : (descOf (sliceAt img ((sectEntryAt img 256).off + at_.toNat) 64)).bflags % 2 = 0) :
    Runs (.loaderVerified false img k at_ script) s (fun t =>
      t.stage = 3 ∧ t.fld G7_STATUS G7_STATUS_STATE = 1 ∧ t.boot.desc = some (descOf (sliceAt img ((sectEntryAt img 256).off + at_.toNat) 64)) ∧
      t.vault.fwIn = (imgHeader img).rollback ∧ t.fld (BOH_COACH 0) ⟨2, 0⟩ = 1) := by
  have hrun : exec (.loaderVerified false img k at_ script) s = .next (s.settle ((s.setBit BOH_BOOT_STATUS BOH_BOOT_STATUS_SLOT false).loaderStart img
      (sliceAt img ((sectEntryAt img 256).off + at_.toNat) 64) script)) := by
    change execLoaderVerified false img k at_ script s = _
    rw [execLoaderVerified, if_neg (by simp [hstage, hbad, hsafe]), if_pos hk]
    rfl
  exact Runs.next hrun (State.loaderStart_early _ img _ script hpaddle)

/-! ### Paddle mode's timeout -/

theorem State.blkOf_setBlk_self (s : State) (b : Nat) (k : Blk) : (s.setBlk b k).blkOf b = k := tabGet_set_self _ _ _ _
theorem State.blkOf_setBlk_ne (s : State) {b c : Nat} (k : Blk) (h : c ≠ b) : (s.setBlk b k).blkOf c = s.blkOf c := tabGet_set_ne _ _ _ _ h

/-- Blocks that are taken down are down, and change nothing else. -/
theorem foldl_setBlk_down : ∀ (bs : List Nat) (s : State) {b : Nat}, b ∈ bs ∨ s.blkOf b = {} → (bs.foldl (fun (s : State) b => s.setBlk b {}) s).blkOf b = {}
  | [], _, _, h => h.resolve_left (List.not_mem_nil)
  | c :: bs, s, b, h => by
    refine foldl_setBlk_down bs (s.setBlk c {}) ?_
    by_cases hbc : b = c
    · exact .inr (hbc ▸ State.blkOf_setBlk_self s c {})
    · rw [State.blkOf_setBlk_ne s {} hbc]
      exact h.imp_left fun hmem => (List.mem_cons.1 hmem).resolve_left hbc

theorem foldl_setBlk_frame (f : Nat → Blk) : ∀ (bs : List Nat) (s : State), bs.foldl (fun s b => s.setBlk b (f b)) s =
    { s with blk := (bs.foldl (fun s b => s.setBlk b (f b)) s).blk }
  | [], _ => rfl
  | b :: bs, s => (foldl_setBlk_frame f bs (s.setBlk b (f b))).trans rfl

theorem paddleTimeout_waiting {s : State} (hwait : s.boot.paddle = .waiting) : Runs .paddleTimeout s (fun t =>
    t.boot.paddle = .off ∧ t.rd BOH_BOOT_ERR = 5 ∧ t.bit BOH_BOOT_STATUS BOH_BOOT_STATUS_PADDLE = false ∧ (t.blkOf 0x0300).phase = .down ∧
    Raised s t 35 0x0E00 5) := by
  have herr : RegsBut s (s.wr BOH_BOOT_ERR 5) [BOH_BOOT_ERR.off] := (RegsBut.refl s _).wr BOH_BOOT_ERR 5
  have hraised : Raised s (s.bootFail 5) 35 0x0E00 5 := State.raised_raise 35 0x0E00 [5] rfl (herr.rd (by decide))
  have hcause : (s.bootFail 5).rd BOH_BOOT_ERR = 5 := by
    rw [State.bootFail, State.rd_raise _ _ _ _ (by decide) (by decide), State.rd_wr_self]; rfl
  have hboot : (s.bootFail 5).boot.paddle = .waiting := hwait
  have hdown := foldl_setBlk_down (s.bootFail 5).paddleBlocks (s.bootFail 5) (b := 0x0300) (.inl (by simp [State.paddleBlocks]))
  have hframe := foldl_setBlk_frame (fun _ => {}) (s.bootFail 5).paddleBlocks (s.bootFail 5)
  have hend : (s.bootFail 5).paddleEnd = (({ (s.bootFail 5).paddleBlocks.foldl (fun (s : State) b => s.setBlk b {}) (s.bootFail 5) with
      boot := { ((s.bootFail 5).paddleBlocks.foldl (fun (s : State) b => s.setBlk b {}) (s.bootFail 5)).boot with paddle := .off } }).paddleRegions 0).setBit
        BOH_BOOT_STATUS BOH_BOOT_STATUS_PADDLE false := if_neg (by simp [hboot])
  generalize (s.bootFail 5).paddleBlocks.foldl (fun (s : State) b => s.setBlk b {}) (s.bootFail 5) = u at *
  refine Runs.next (congrArg Host.Outcome.next (if_pos hwait)) ?_
  rw [hend]
  generalize hv : ({ u with boot := { u.boot with paddle := .off } } : State) = v
  have honly : OnlyRegs v ((v.paddleRegions 0).setBit BOH_BOOT_STATUS BOH_BOOT_STATUS_PADDLE false) :=
    ((((OnlyRegs.refl v).setFld BOH_REGION_STATE _ _).setFld BOH_REGION_STATE _ _).setFld BOH_REGION_STATE _ _).setBit BOH_BOOT_STATUS _ _
  have hregs : RegsBut v ((v.paddleRegions 0).setBit BOH_BOOT_STATUS BOH_BOOT_STATUS_PADDLE false) [BOH_REGION_STATE.off, BOH_BOOT_STATUS.off] :=
    ((((RegsBut.refl v _).setFld BOH_REGION_STATE _ _).setFld BOH_REGION_STATE _ _).setFld BOH_REGION_STATE _ _).setBit BOH_BOOT_STATUS _ _
  have hbit : ((v.paddleRegions 0).setBit BOH_BOOT_STATUS BOH_BOOT_STATUS_PADDLE false).bit BOH_BOOT_STATUS BOH_BOOT_STATUS_PADDLE = false :=
    State.bit_setBit_self _ _ _ _
  have hvregs : v.regs = (s.bootFail 5).regs := by rw [← hv, hframe]
  have hvocc : v.occ = (s.bootFail 5).occ := by rw [← hv, hframe]
  have hraised' := hraised.later (honly.occ.trans hvocc) (RegsBut.trans (u := (v.paddleRegions 0).setBit BOH_BOOT_STATUS BOH_BOOT_STATUS_PADDLE false)
    ((RegsBut.refl (s.bootFail 5) _).congr hvregs) hregs)
  generalize (v.paddleRegions 0).setBit BOH_BOOT_STATUS BOH_BOOT_STATUS_PADDLE false = w at *
  refine ⟨?_, ?_, hbit, ?_, State.raised_settle hraised'⟩
  · rw [State.settle_boot, honly.field State.boot, ← hv]
  · rw [State.rd_settle, hregs.rd (r := BOH_BOOT_ERR) (by decide), State.rd, hvregs]
    exact hcause
  · have hblk : w.blk = u.blk := by rw [honly.field State.blk, ← hv]
    have : (s.settle w).blkOf 0x0300 = {} := by rw [State.blkOf, State.settle_blk, hblk]; exact hdown
    rw [this]

theorem bringUpGoesByStages : Claims.BringUpGoesByStages := fun _ =>
  ⟨bootPllLocked_rom, fun _ hstage => congrArg Host.Outcome.next (if_pos hstage), selftestDone_passes, fun _ _ _ _ => loaderVerified_fails,
    fun _ _ _ _ => loaderVerified_failsB, fun _ _ _ _ => loaderVerified_starts, paddleTimeout_waiting⟩

/-! ### GDDR7 training -/

theorem g7Trained_shows {s : State} {rate : Nat} (hrate : rate ≤ 32) :
    let t := s.g7Trained rate
    t.fld G7_STATUS G7_STATUS_STATE = 2 ∧ t.fld G7_STATUS G7_STATUS_RATE = rate ∧ t.rd G7_TRAINED_BW = w32 (32 * rate * 1000) ∧
    t.rd UMP_ADMIT_LIMIT = w32 (32 * rate * 1000 * 4 / 5) ∧ t.rd G7_TRAINED_CAP = w32 (s.g7Cap (s.bit G7_CONFIG G7_CONFIG_IECC)) ∧
    RegsBut s t [G7_STATUS.off, G7_TRAINED_BW.off, UMP_ADMIT_LIMIT.off, G7_TRAINED_CAP.off] ∧ OnlyRegs s t := by
  intro t
  generalize hbw : w32 (32 * rate * 1000) = bw
  generalize hlim : w32 (32 * rate * 1000 * 4 / 5) = lim
  let u := (((s.setFld G7_STATUS G7_STATUS_STATE 2).setFld G7_STATUS G7_STATUS_RATE rate).wr G7_TRAINED_BW bw).wr UMP_ADMIT_LIMIT lim
  have hu : RegsBut s u [G7_STATUS.off, G7_TRAINED_BW.off, UMP_ADMIT_LIMIT.off] :=
    ((((RegsBut.refl s _).setFld G7_STATUS _ _).setFld G7_STATUS _ _).wr G7_TRAINED_BW bw).wr UMP_ADMIT_LIMIT lim
  have hstatus : u.rd G7_STATUS = ((s.setFld G7_STATUS G7_STATUS_STATE 2).setFld G7_STATUS G7_STATUS_RATE rate).rd G7_STATUS := by
    rw [State.rd_wr_ne _ _ (by decide), State.rd_wr_ne _ _ (by decide)]
  have hstate : u.fld G7_STATUS G7_STATUS_STATE = 2 := by
    rw [State.fld, hstatus]
    exact (State.fld_setFld_ne _ _ rate).trans (State.fld_setFld_self s G7_STATUS G7_STATUS_STATE 2)
  have hr : u.fld G7_STATUS G7_STATUS_RATE = rate := by
    rw [State.fld, hstatus]
    exact (State.fld_setFld_self _ _ _ rate).trans (Nat.mod_eq_of_lt (by simp [G7_STATUS_RATE]; omega))
  have hcap : u.g7Cap (u.bit G7_CONFIG G7_CONFIG_IECC) = s.g7Cap (s.bit G7_CONFIG G7_CONFIG_IECC) := by
    have hconf : u.rd G7_CONFIG = s.rd G7_CONFIG := hu.rd (by decide)
    simp only [State.g7Cap, State.g7Raw, State.fld, State.bit, hconf]
    rfl
  have ht : t = u.wr G7_TRAINED_CAP (w32 (s.g7Cap (s.bit G7_CONFIG G7_CONFIG_IECC))) := by
    have hshow : t = u.g7Show := by subst hbw hlim; rfl
    rw [hshow, State.g7Show, if_pos hstate, hcap]
  have honly : OnlyRegs s t := by
    rw [ht]
    exact (((((OnlyRegs.refl s).setFld G7_STATUS _ _).setFld G7_STATUS _ _).wr G7_TRAINED_BW bw).wr UMP_ADMIT_LIMIT lim).wr G7_TRAINED_CAP _
  have hregs : RegsBut u t [G7_TRAINED_CAP.off] := by rw [ht]; exact (RegsBut.refl u _).wr G7_TRAINED_CAP _
  refine ⟨?_, ?_, ?_, ?_, ?_, (hu.mono (by simp)).trans (hregs.mono (by simp)), honly⟩
  · rw [State.fld, hregs.rd (by decide)]; exact hstate
  · rw [State.fld, hregs.rd (by decide)]; exact hr
  · rw [hregs.rd (by decide), State.rd_wr_ne _ _ (by decide), State.rd_wr_self]
  · rw [hregs.rd (by decide), State.rd_wr_self]
  · rw [ht, State.rd_wr_self]

theorem trainingGivesBandwidth : Claims.TrainingGivesBandwidth := by
  intro rate addr rig s htrain
  refine ⟨fun hstrap hrate hauto => ?_, fun hfail => ?_⟩
  · have hle : rate.toNat ≤ 32 := by simp at hrate; omega
    obtain ⟨hstate, hr, hbw, hlim, hcap, hregs, honly⟩ := g7Trained_shows (s := s) hle
    have hcommit : (s.g7Trained rate.toNat).autoCommit (addr.toNat / 64 * 64) rig = s.g7Trained rate.toNat := by
      have hbit : (s.g7Trained rate.toNat).bit BOH_BOOT_STATUS BOH_BOOT_STATUS_AUTO = false := by
        rw [State.bit, hregs.rd (by decide)]; exact hauto
      exact if_neg (by simp [hbit])
    have hrun : exec (.g7TrainingDone rate addr rig) s = .next (s.g7Trained rate.toNat) := by
      change execG7TrainingDone rate addr rig s = _
      have hcontains : [32, 28, 24, 20, 16].contains rate.toNat = true := List.contains_iff_mem.2 hrate
      rw [execG7TrainingDone, if_neg (by simp [htrain]), if_pos (by simp only [hstrap, hcontains]; rfl), hcommit, State.settle_same honly.occ]
    have hrates : 8 * 32 * rate.toNat * 1000 / 8 = 32 * rate.toNat * 1000 := by omega
    have hlimit : 32 * rate.toNat * 1000 * 4 / 5 = 8 * 32 * rate.toNat * 1000 / 8 * 8 / 10 := by omega
    rw [hlimit] at hlim
    rw [← hrates] at hbw
    exact Runs.next hrun ⟨hstate, hr, hbw, hlim, hcap, hregs, honly⟩
  · have hrun : exec (.g7TrainingDone rate addr rig) s =
        .next (((s.setFld G7_STATUS G7_STATUS_STATE 3).wr BOH_BOOT_ERR 6).raise 28 0x0E00) := by
      change execG7TrainingDone rate addr rig s = _
      have hfail' : (!s.boot.strapBad && [32, 28, 24, 20, 16].contains rate.toNat) = false := by
        rcases hfail with h | h
        · simp [h]
        · have : [32, 28, 24, 20, 16].contains rate.toNat = false := by rw [← Bool.not_eq_true, List.contains_iff_mem]; exact h
          rw [this, Bool.and_false]
      rw [execG7TrainingDone, if_neg (by simp [htrain]), hfail', if_neg Bool.false_ne_true, State.settle_raise 28 0x0E00 [] (by rfl)]
    have hset : RegsBut s ((s.setFld G7_STATUS G7_STATUS_STATE 3).wr BOH_BOOT_ERR 6) [G7_STATUS.off, BOH_BOOT_ERR.off] :=
      ((RegsBut.refl s _).setFld G7_STATUS _ _).wr BOH_BOOT_ERR 6
    refine Runs.next hrun ⟨?_, ?_, State.raised_raise 28 0x0E00 [] rfl (hset.rd (by decide)), (hset.mono (by simp)).raise 28 0x0E00 [],
      (((OnlyRegsOcc.refl s).setFld G7_STATUS _ _).wr BOH_BOOT_ERR 6).raise 28 0x0E00 []⟩
    · rw [State.fld, State.rd_raise _ _ _ _ (by decide) (by decide), State.rd_wr_ne _ _ (by decide)]
      exact State.fld_setFld_self s G7_STATUS G7_STATUS_STATE 3
    · rw [State.rd_raise _ _ _ _ (by decide) (by decide), State.rd_wr_self]

/-! ### Orderly shutdown -/

/-- A channel with no clip has nothing to end (R376). -/
theorem State.recEnd_idle {s : State} {c : Nat} (cause : Nat) (h : (s.recOf c).clip = none) : s.recEnd c cause = s := by rw [State.recEnd, h]

theorem shutdown_begins {s : State} {v : Word} (hreach : Reach s BOH_SHUTDOWN) (hgo : v.getLsbD 31 = true) (h7 : s.stage ≠ 7) (h8 : s.stage ≠ 8)
    (hclips : ∀ c, c < 8 → (s.recOf c).clip = none) : Runs (.shutdown v) s (fun t =>
      t.stage = 7 ∧ t.boot = { s.boot with shutStep := 1, shutTmo := if v.toNat % 65536 = 0 then 5000 else v.toNat % 65536 } ∧
      Raised s t 32 0x0E00 7 ∧ t = { s with regs := t.regs, boot := t.boot, occ := t.occ }) := by
  obtain ⟨hup, hacc⟩ := hreach
  have htmo : bitsOf v.toNat 15 0 = v.toNat % 65536 := by simp [bitsOf]
  generalize hu : ({ s with boot := { s.boot with shutStep := 1, shutTmo := if v.toNat % 65536 = 0 then 5000 else v.toNat % 65536 } } : State) = u
  have hustage : u.stage ≠ 7 := by rw [← hu]; exact h7
  have honly := State.toStage_only u 7
  have hbegin : s.shutWrite v = u.toStage 7 := by
    have hfixed : (List.range 8).foldl (fun s c => s.recEnd c 6) (u.toStage 7) = u.toStage 7 := by
      refine foldl_fixed_mem fun c hc => State.recEnd_idle 6 ?_
      rw [honly.field (fun w => (w.recOf c).clip) (fun _ _ => rfl), ← hu]
      exact hclips c (List.mem_range.1 hc)
    rw [State.shutWrite, if_pos (by simp [bitOf, hgo, h7, h8]), State.shutBegin, htmo]
    dsimp only
    rw [hu]; exact hfixed
  have hrun : exec (.shutdown v) s = .next (u.toStage 7) := by
    change execShutdown v s = _
    rw [execShutdown, State.hostDo_reach s BOH_SHUTDOWN true (fun s => s.shutWrite v) hup hacc, hbegin]
    have hocc : (u.toStage 7).occ = s.occ ++ _ := (State.toStage_occ hustage).trans (by rw [← hu])
    rw [State.settle_one hocc]
  refine Runs.next hrun ⟨State.stage_toStage hustage (by decide), ?_, ?_, ?_⟩
  · rw [honly.field State.boot, ← hu]
  · exact (State.toStage_raised hustage).earlier (by rw [← hu]) ((RegsBut.refl s []).congr (by rw [← hu])) (by decide)
  · have hboot : (u.toStage 7).boot = u.boot := honly.field State.boot
    rw [OnlyRegsOcc] at honly
    rw [hboot]
    refine honly.trans ?_
    rw [← hu]

/-- The stage OFF and its event after the last step. -/
theorem shutNext_off {s : State} (hstep : s.boot.shutStep = 4) (hstage : s.stage = 7) :
    (s.settle s.shutNext).stage = 8 ∧ (s.settle s.shutNext).boot.shutStep = 0 ∧
    (s.settle s.shutNext).occ.map (·.num) = s.occ.map (·.num) ++ [32, 37] := by
  generalize hu : ({ s with boot := { s.boot with shutStep := 0 } } : State) = u
  have hne : u.stage ≠ 8 := by rw [← hu]; exact fun h => by rw [show s.stage = 8 from h] at hstage; omega
  have hnext : s.shutNext = (u.toStage 8).raise 37 0x0E00 := by
    rw [State.shutNext, hstep, ← hu]
    rfl
  have huocc : u.occ = s.occ := by rw [← hu]
  have hocc := State.toStage_occ hne
  rw [huocc] at hocc
  rw [hnext]
  refine ⟨?_, ?_, ?_⟩
  · rw [State.stage_settle, State.stage_regsBut ((RegsBut.refl (u.toStage 8) (evRegs 37)).raise 37 0x0E00 [])]
    exact State.stage_toStage hne (by decide)
  · have hboot : ((u.toStage 8).raise 37 0x0E00).boot = u.boot := (State.toStage_only u 8).field State.boot
    rw [State.settle_boot, hboot, ← hu]
  · unfold State.settle
    rw [State.raise_occ, hocc]
    simp [occSort, occInsert]

theorem shutdownGoesByStages : Claims.ShutdownGoesByStages := by
  intro s
  refine ⟨fun v hreach hgo h7 h8 hclips => shutdown_begins hreach hgo h7 h8 hclips, fun hstep hclips hheads => ?_, fun hstep hheads => ?_,
    fun hstep hstage hflush => ?_, fun hstep hstage => ?_⟩
  · have hdone : s.shutStepDone = true := by
      rw [State.shutStepDone, hstep]
      have : s.clipsOpen = [] := by
        rw [State.clipsOpen, List.filter_eq_nil_iff]
        exact fun c hc => by simp [hclips c (List.mem_range.1 hc)]
      simp [this]
    have hnext : s.shutNext = { s with boot := { s.boot with shutStep := 2 } } := by
      rw [State.shutNext, hstep]
      refine foldl_fixed_mem fun h hh => if_neg ?_
      have hport : (s.leadPort h) = none := hheads h (List.mem_range.1 hh)
      have hsame : ({ s with boot := { s.boot with shutStep := 2 } } : State).leadPort h = s.leadPort h := rfl
      simp [hsame, hport]
    refine congrArg Host.Outcome.next ((if_pos (by rw [hdone, hstep]; rfl)).trans ?_)
    rw [hnext, State.settle_same (by rfl)]
  · have hnext : s.shutNext = { s with boot := { s.boot with shutStep := 3 } } := by
      rw [State.shutNext, hstep]
      refine foldl_fixed_mem fun n hn => if_neg ?_
      have hsame : ({ s with boot := { s.boot with shutStep := 3 } } : State).scnOn n = s.scnOn n := rfl
      simp [hsame, hheads n (List.mem_range.1 hn)]
    have hdone : s.shutStepDone = true := by rw [State.shutStepDone, hstep]; rfl
    have hforce : s.shutForce = s := by rw [State.shutForce, hstep]; rfl
    have hsettle : s.settle s.shutNext = { s with boot := { s.boot with shutStep := 3 } } := by rw [hnext, State.settle_same (by rfl)]
    refine ⟨congrArg Host.Outcome.next ((if_pos (by rw [hdone, hstep]; rfl)).trans hsettle),
      congrArg Host.Outcome.next ((if_pos (by rw [hstep]; decide)).trans ?_)⟩
    rw [hforce, hsettle]
  · have hdone : s.shutStepDone = true := by rw [State.shutStepDone, hstep]; simp [hflush]
    exact Runs.next (congrArg Host.Outcome.next (if_pos (by rw [hdone, hstep]; rfl))) (shutNext_off hstep hstage)
  · have hforce : s.shutForce = s := by rw [State.shutForce, hstep]; rfl
    refine Runs.next (congrArg Host.Outcome.next ((if_pos (by rw [hstep]; decide)).trans ?_)) (shutNext_off hstep hstage)
    rw [hforce]

/-- Settles O8: each stage by the lemma for its change, training by what it shows, and the shutdown by its steps. -/
theorem bringUpAndShutdownStages : Obligations.BringUpAndShutdownStages := ⟨bringUpGoesByStages, trainingGivesBandwidth, shutdownGoesByStages⟩

end Sys2Proof.Machine
end

section
/-! PROOFS. What a match of a slot changes, steps of TB0, its wrap, and the servo (R133, R134, R143 to R145, R449). -/

-- One proof at a time: the text is compiled as one file in bounded memory.
set_option Elab.async false

namespace Sys2Proof.Claims
open Sys2Proof.Machine

/-- Every register outside the offsets of `P` holds what it held. -/
def RegsIn (P : Nat → Prop) (s t : State) : Prop := ∀ o, ¬ P o → tabGet? t.regs o = tabGet? s.regs o

theorem RegsIn.refl (P : Nat → Prop) (s : State) : RegsIn P s s := fun _ _ => rfl

theorem RegsIn.congr {P : Nat → Prop} {s t u : State} (h : RegsIn P s t) (hregs : u.regs = t.regs := by rfl) : RegsIn P s u :=
  fun o ho => hregs ▸ h o ho

theorem RegsIn.trans {P : Nat → Prop} {s t u : State} (h : RegsIn P s t) (h' : RegsIn P t u) : RegsIn P s u :=
  fun o ho => (h' o ho).trans (h o ho)

theorem RegsIn.wr {P : Nat → Prop} {s t : State} (h : RegsIn P s t) (r : Reg) (v : Word) (hr : P r.off) : RegsIn P s (t.wr r v) :=
  fun o ho => (State.reg?_wr_ne t r v (fun heq : o = r.off => ho (heq ▸ hr))).trans (h o ho)

theorem RegsIn.foldl {α : Type} {P : Nat → Prop} {s : State} {f : State → α → State} : ∀ (as : List α) {t : State},
    (∀ u a, a ∈ as → RegsIn P s u → RegsIn P s (f u a)) → RegsIn P s t → RegsIn P s (as.foldl f t)
  | [], _, _, h => h
  | a :: as, _, hf, h => RegsIn.foldl as (fun u b hb => hf u b (List.mem_cons_of_mem _ hb)) (hf _ a (List.mem_cons_self ..) h)

theorem RegsIn.rd {P : Nat → Prop} {s t : State} (h : RegsIn P s t) {r : Reg} (hr : ¬ P r.off) : t.rd r = s.rd r := by
  rw [State.rd, State.rd, tabGet, tabGet, h r.off hr]

/-- A listed set of registers is such a set. -/
theorem RegsBut.regsIn {s t : State} {os : List Nat} (h : RegsBut s t os) {P : Nat → Prop} (hP : ∀ o ∈ os, P o) : RegsIn P s t :=
  fun o ho => h o fun hmem => ho (hP o hmem)

end Sys2Proof.Claims

namespace Sys2Proof.Machine
open Sys2Proof.Claims

/-! ### A raise once a round -/

theorem State.raiseOnce_regs (s : State) (ev key src : Nat) (items : List Word) : RegsBut s (s.raiseOnce ev key src items) (evRegs ev) := by
  unfold State.raiseOnce
  exact (RegsBut.refl s _).ite ((RegsBut.congr (RegsBut.refl s _)).raise ev src items fun _ h => h)

/-! ### A match -/

/-- What matches of slots can change: registers, deliveries, occurrences and the events raised in this round. -/
def SlotFrame (s t : State) : Prop :=
  t = { s with
    regs := t.regs
    stk := { s.stk with due := t.stk.due }
    occ := t.occ
    roundFlags := t.roundFlags }

theorem SlotFrame.refl (s : State) : SlotFrame s s := rfl

theorem SlotFrame.trans {s t u : State} (h : SlotFrame s t) (h' : SlotFrame t u) : SlotFrame s u := by
  rw [SlotFrame] at h h' ⊢
  rw [h', h]

theorem SlotFrame.onlyRegsOcc {s t u : State} (h : SlotFrame s t) (h' : OnlyRegsOcc t u) : SlotFrame s u := by
  rw [SlotFrame] at h ⊢
  rw [OnlyRegsOcc] at h'
  rw [h', h]

theorem SlotFrame.ite {c : Prop} [Decidable c] {s t u : State} (ht : SlotFrame s t) (hu : SlotFrame s u) : SlotFrame s (if c then t else u) := by
  split
  · exact ht
  · exact hu

theorem SlotFrame.foldl {α : Type} {s : State} {f : State → α → State} (hf : ∀ u a, SlotFrame u (f u a)) :
    ∀ (as : List α) {t : State}, SlotFrame s t → SlotFrame s (as.foldl f t)
  | [], _, h => h
  | a :: as, _, h => SlotFrame.foldl hf as (h.trans (hf _ a))

theorem SlotFrame.raiseOnce {s t : State} (h : SlotFrame s t) (ev key src : Nat) (items : List Word) : SlotFrame s (t.raiseOnce ev key src items) := by
  refine h.trans ?_
  unfold State.raiseOnce
  exact (SlotFrame.refl t).ite (SlotFrame.onlyRegsOcc (t := { t with roundFlags := (ev, key) :: t.roundFlags }) rfl
    ((OnlyRegsOcc.refl _).raise ev src items))

/-- The delivery that a match of a slot makes due. -/
def State.slotDue (s : State) (n : Nat) : Delivery :=
  ⟨n, s.ticks + bitsOf (s.rd (STK_S_PARAM n)).toNat 31 16, s.rd (STK_S_CFG n), s.rd (STK_S_PARAM n)⟩

/-- The state with the delivery of a slot added. -/
def State.withDue (s : State) (n : Nat) : State := { s with stk := { s.stk with due := s.stk.due ++ [s.slotDue n] } }

/-- The slot after its delivery is due: disarmed, or at its next COMPARE. -/
def State.slotMoved (s : State) (n : Nat) (late : Bool) : State :=
  if s.rd (STK_S_REPEAT n) = 0 then s.setBit (STK_S_CTRL n) STK_S_CTRL_ARM false
  else (s.wr (STK_S_COMPARE n) (s.slotNext n late).1).inc (STK_S_SKIP n) (s.slotNext n late).2

theorem State.slotMatch_eq (s : State) (n : Nat) (late : Bool) : s.slotMatch n late =
    if late then ((((s.withDue n).slotMoved n late).setBit (STK_S_CTRL n) STK_S_CTRL_LATE true).inc STK_LATE_CNT).raiseOnce 48 n 0x0E02 [w32 n]
    else (s.withDue n).slotMoved n late := rfl

theorem State.slotMoved_only (s : State) (n : Nat) (late : Bool) : OnlyRegs s (s.slotMoved n late) :=
  ((OnlyRegs.refl s).setBit (STK_S_CTRL n) _ _).ite (((OnlyRegs.refl s).wr (STK_S_COMPARE n) _).inc (STK_S_SKIP n) _)

theorem State.slotMoved_frame (s : State) (n : Nat) (late : Bool) : SlotFrame s ((s.withDue n).slotMoved n late) :=
  SlotFrame.onlyRegsOcc (t := s.withDue n) rfl (State.slotMoved_only _ n late).regsOcc

theorem State.slotMatch_frame (s : State) (n : Nat) (late : Bool) : SlotFrame s (s.slotMatch n late) := by
  rw [State.slotMatch_eq]
  refine SlotFrame.ite (SlotFrame.raiseOnce ?_ 48 n 0x0E02 [w32 n]) (State.slotMoved_frame s n late)
  exact (State.slotMoved_frame s n late).onlyRegsOcc (((OnlyRegsOcc.refl _).setBit (STK_S_CTRL n) _ _).inc STK_LATE_CNT 1)

theorem State.markLate_frame (a b : State) (tb : Nat) : SlotFrame b (a.markLate b tb) :=
  SlotFrame.foldl (fun u n => State.slotMatch_frame u n true) _ (SlotFrame.refl b)

/-- The registers of the slots, of late matches, and of event 48. -/
def SlotOff (o : Nat) : Prop := (0x201000 ≤ o ∧ o < 0x205000) ∨ o = STK_LATE_CNT.off ∨ o ∈ evRegs 48

section
variable {P : Nat → Prop} {s : State} {n : Nat} (hctrl : P (STK_S_CTRL n).off) (hcomp : P (STK_S_COMPARE n).off) (hskip : P (STK_S_SKIP n).off)
include hctrl hcomp hskip

theorem State.slotMoved_regsIn (late : Bool) : RegsIn P s ((s.withDue n).slotMoved n late) := by
  unfold State.slotMoved
  have hdue : RegsIn P s (s.withDue n) := (RegsIn.refl P s).congr
  split
  · exact hdue.wr _ _ hctrl
  · exact (hdue.wr _ _ hcomp).wr _ _ hskip

theorem State.slotMatch_regsIn (late : Bool) (hlate : P STK_LATE_CNT.off) (hev : ∀ o ∈ evRegs 48, P o) : RegsIn P s (s.slotMatch n late) := by
  have hmoved := State.slotMoved_regsIn (s := s) hctrl hcomp hskip late
  rw [State.slotMatch_eq]
  split
  · exact ((hmoved.wr _ _ hctrl).wr _ _ hlate).trans ((State.raiseOnce_regs _ 48 n 0x0E02 [w32 n]).regsIn hev)
  · exact hmoved

end

/-- Armed slots are among the 512. -/
theorem State.armedSlots_lt {s : State} {n : Nat} (h : n ∈ s.armedSlots) : n < 512 := by
  obtain ⟨e, _, he⟩ := List.mem_filterMap.1 h
  split at he
  next hc =>
    simp only [Bool.and_eq_true, decide_eq_true_eq] at hc
    obtain ⟨⟨⟨hlo, hhi⟩, _⟩, _⟩ := hc
    obtain rfl := Option.some.inj he
    omega
  · exact absurd he (by simp)

theorem State.markLate_regsIn (a b : State) (tb : Nat) : RegsIn SlotOff b (a.markLate b tb) := by
  refine RegsIn.foldl _ (fun u n hn hu => hu.trans ?_) (RegsIn.refl _ b)
  have hlt : n < 512 := State.armedSlots_lt (List.mem_filter.1 hn).1
  refine State.slotMatch_regsIn ?_ ?_ ?_ true (.inr (.inl rfl)) fun o ho => .inr (.inr ho)
  · exact .inl (by simp only [STK_S_CTRL]; omega)
  · exact .inl (by simp only [STK_S_COMPARE]; omega)
  · exact .inl (by simp only [STK_S_SKIP]; omega)

/-! ### The servo and the steps of TB0 -/

theorem servoShutsTheHostOut : Claims.ServoShutsTheHostOut := fun v s hservo =>
  ⟨fun ⟨hup, hacc⟩ => congrArg Host.Outcome.next ((State.hostDo_reach s STK_TB0_INC true (fun s => s.tb0IncWrite v false) hup hacc).trans (if_pos hservo)),
    fun ⟨hup, hacc⟩ => congrArg Host.Outcome.next ((State.hostDo_reach s STK_TB0_STEP true (fun s => s.tb0StepWrite v false) hup hacc).trans (if_pos hservo))⟩

theorem exec_tb0Step {v : Word} {servo : Bool} {s : State} (h : servo = false → Reach s STK_TB0_STEP ∧ s.servo = false) :
    exec (.tb0Step v servo) s = .next (s.stepTb0 v) := by
  change execTb0Step v servo s = _
  cases servo with
  | true => rfl
  | false =>
    obtain ⟨⟨hup, hacc⟩, hservo⟩ := h rfl
    rw [execTb0Step, if_neg Bool.false_ne_true, State.hostDo_reach s STK_TB0_STEP true (fun s => s.tb0StepWrite v false) hup hacc, State.tb0StepWrite,
      if_neg Bool.false_ne_true, if_neg (by simp [hservo])]

/-- The state in which NS has moved, before slots passed match late. -/
def State.stepped (s : State) (v : Word) : State :=
  let a := s.tick.wr ETH_TB0_WRAP (s.tick.rd ETH_TB0_WRAP + wOfInt (stepWrap (s.tick.wr ETH_TB0_WRAP 0).ns v))
  { a with tb0 := a.tb0 + (v.signExtend 64 <<< 32), stk := { a.stk with steps := (a.stk.steps + 1) % 65536 } }

/-- The state in which slots passed have matched late. -/
def State.passed (s : State) (v : Word) : State :=
  let a := s.tick.wr ETH_TB0_WRAP (s.tick.rd ETH_TB0_WRAP + wOfInt (stepWrap (s.tick.wr ETH_TB0_WRAP 0).ns v))
  let b := if v.msb then s.stepped v else a.markLate (s.stepped v) 0
  if v.msb || s.tb1Mode ≠ 2 then b else a.markLate b 1

theorem State.stepTb0_eq (s : State) (v : Word) : s.stepTb0 v = (s.passed v).tb1Sync.raise 49 0x0E02 := rfl

theorem State.passed_back {s : State} {v : Word} (h : v.msb = true) : s.passed v = s.stepped v := by
  rw [State.passed, h]; rfl

theorem State.passed_frame (s : State) (v : Word) : SlotFrame (s.stepped v) (s.passed v) := by
  rw [State.passed]
  have hb := (SlotFrame.refl (s.stepped v)).ite (c := v.msb = true) (State.markLate_frame (s.tick.wr ETH_TB0_WRAP (s.tick.rd ETH_TB0_WRAP +
    wOfInt (stepWrap (s.tick.wr ETH_TB0_WRAP 0).ns v))) (s.stepped v) 0)
  exact hb.ite (hb.trans (State.markLate_frame _ _ 1))

theorem State.passed_regsIn (s : State) (v : Word) : RegsIn SlotOff (s.stepped v) (s.passed v) := by
  rw [State.passed]
  have hite : ∀ {c : Prop} [Decidable c] {t u : State}, RegsIn SlotOff (s.stepped v) t → RegsIn SlotOff (s.stepped v) u →
      RegsIn SlotOff (s.stepped v) (if c then t else u) := fun ht hu => by split; exacts [ht, hu]
  have hb := hite (c := v.msb = true) (RegsIn.refl _ _) (State.markLate_regsIn (s.tick.wr ETH_TB0_WRAP (s.tick.rd ETH_TB0_WRAP +
    wOfInt (stepWrap (s.tick.wr ETH_TB0_WRAP 0).ns v))) (s.stepped v) 0)
  exact hite hb (hb.trans (State.markLate_regsIn _ _ 1))

theorem State.tick_regs (s : State) : RegsBut s s.tick [ETH_TB0_WRAP.off] := (State.passTicks_regs s 1).congr (State.tb1Sync_regs _)

theorem State.stepped_regs (s : State) (v : Word) : RegsBut s (s.stepped v) [ETH_TB0_WRAP.off] := ((State.tick_regs s).wr ETH_TB0_WRAP _).congr

/-- A whole number of nanoseconds added to TB0 leaves FRAC, and NS moves by it. -/
theorem tb0_add_ns (a : BitVec 64) (v : Word) : (a + (v.signExtend 64 <<< 32)).setWidth 32 = a.setWidth 32 ∧
    ((a + (v.signExtend 64 <<< 32)) >>> 32).setWidth 32 = (a >>> 32).setWidth 32 + v := by
  have hlow : (v.signExtend 64 <<< 32).toNat = v.toNat * 2 ^ 32 := by
    have hext : (v.signExtend 64).toNat % 2 ^ 32 = v.toNat := by
      have hv := v.isLt
      rw [BitVec.toNat_signExtend, BitVec.toNat_setWidth]
      split <;> omega
    rw [BitVec.toNat_shiftLeft, Nat.shiftLeft_eq]
    omega
  have ha := a.isLt
  have hv := v.isLt
  constructor
  · apply BitVec.eq_of_toNat_eq
    rw [BitVec.toNat_setWidth, BitVec.toNat_setWidth, BitVec.toNat_add, hlow]
    omega
  · apply BitVec.eq_of_toNat_eq
    rw [BitVec.toNat_setWidth, BitVec.toNat_add, BitVec.toNat_setWidth, BitVec.toNat_ushiftRight, BitVec.toNat_ushiftRight, BitVec.toNat_add, hlow,
      Nat.shiftRight_eq_div_pow, Nat.shiftRight_eq_div_pow]
    omega

/-- What time and steps of it can change. -/
def TimeFrame (s t : State) : Prop :=
  t = { s with
    regs := t.regs
    tb0 := t.tb0
    ticks := t.ticks
    stk := t.stk
    occ := t.occ
    roundFlags := t.roundFlags }

theorem State.stepped_frame (s : State) (v : Word) : TimeFrame s (s.stepped v) := by
  rw [TimeFrame, State.stepped, State.tick_frame]; rfl

theorem TimeFrame.trans {s t u : State} (h : TimeFrame s t) (h' : TimeFrame t u) : TimeFrame s u := by
  rw [TimeFrame] at h h' ⊢
  rw [h', h]

theorem SlotFrame.time {s t : State} (h : SlotFrame s t) : TimeFrame s t := by
  rw [SlotFrame] at h
  rw [TimeFrame, h]

theorem State.tb1Sync_time (s : State) : TimeFrame s s.tb1Sync := by rw [TimeFrame, State.tb1Sync_frame]

theorem OnlyRegsOcc.time {s t : State} (h : OnlyRegsOcc s t) : TimeFrame s t := by
  rw [OnlyRegsOcc] at h
  rw [TimeFrame, h]

theorem State.stepTb0_frame (s : State) (v : Word) : TimeFrame s (s.stepTb0 v) := by
  rw [State.stepTb0_eq]
  exact (((State.stepped_frame s v).trans (State.passed_frame s v).time).trans (State.tb1Sync_time _)).trans
    (OnlyRegsOcc.time ((OnlyRegsOcc.refl _).raise 49 0x0E02 []))

theorem stepMovesTb0 : Claims.StepMovesTb0 := by
  intro v servo s h
  refine Runs.next ((exec_tb0Step h).trans (congrArg Host.Outcome.next (State.stepTb0_eq s v))) ?_
  have hframe := State.passed_frame s v
  rw [SlotFrame] at hframe
  have htb0 : ((s.passed v).tb1Sync.raise 49 0x0E02).tb0 = s.tick.tb0 + (v.signExtend 64 <<< 32) := by
    rw [State.raise_tb0, State.tb1Sync_tb0, hframe]; rfl
  have hstk : ((s.passed v).tb1Sync.raise 49 0x0E02).stk.steps = (s.stk.steps + 1) % 65536 := by
    rw [State.raise_stk, State.tb1Sync_frame, hframe]
    change (s.tick.stk.steps + 1) % 65536 = _
    rw [State.tick_frame]
  have hcnt : ((s.passed v).tb1Sync.raise 49 0x0E02).rd (EVT_R_CNT 49) = satAdd (s.rd (EVT_R_CNT 49)) 1 := by
    rw [State.rd_raise_cnt, State.rd_tb1Sync, (State.passed_regsIn s v).rd (by simp [SlotOff, evRegs, EVT_R_CNT, EVT_R_LAST, STK_LATE_CNT]),
      (State.stepped_regs s v).rd (by decide)]
  have hall := State.stepTb0_frame s v
  rw [TimeFrame, State.stepTb0_eq] at hall
  refine ⟨htb0, ?_, ?_, hstk, hcnt, ?_, by rw [hall], by rw [hall], fun hneg => ?_, fun hneg => ?_⟩
  · rw [State.frac, htb0]; exact (tb0_add_ns _ v).1
  · rw [State.ns, htb0]; exact (tb0_add_ns _ v).2
  · rw [State.raise_ticks, State.tb1Sync_ticks, hframe]; rfl
  · have hocc : (s.passed v).tb1Sync.occ = s.occ := by
      rw [State.passed_back hneg, State.tb1Sync_frame]
      change s.tick.occ = _
      rw [State.tick_frame]
    exact ⟨_, by rw [State.raise_occ, hocc], rfl⟩
  · rw [State.passed_back hneg]
    exact ((((State.stepped_regs s v).mono (by simp)).congr (State.tb1Sync_regs _)).raise 49 0x0E02 [])

theorem tb0WrapCounts : Claims.Tb0WrapCounts := by
  intro s hrun hinc
  have hpos : 0 < (s.rd STK_TB0_INC).toNat := Nat.pos_of_ne_zero fun h => hinc (BitVec.eq_of_toNat_eq h)
  have hmax : max 1 (s.rd STK_TB0_INC).toNat = (s.rd STK_TB0_INC).toNat := by omega
  refine Runs.next (congrArg Host.Outcome.next (if_neg (by simp [hrun]))) ?_
  rw [hmax]
  have hlt := (s.rd STK_TB0_INC).isLt
  have htb := s.tb0.isLt
  generalize hn : ceilDiv (2 ^ 64 - s.tb0.toNat) (s.rd STK_TB0_INC).toNat = n
  -- The sum passes 2^64 by less than one increment.
  have hsum : 2 ^ 64 ≤ s.tb0.toNat + n * (s.rd STK_TB0_INC).toNat ∧ s.tb0.toNat + n * (s.rd STK_TB0_INC).toNat < 2 ^ 64 + (s.rd STK_TB0_INC).toNat := by
    generalize (s.rd STK_TB0_INC).toNat = i at *
    have hdiv := Nat.div_add_mod (2 ^ 64 - s.tb0.toNat + i - 1) i
    have hmod := Nat.mod_lt (2 ^ 64 - s.tb0.toNat + i - 1) hpos
    rw [show (2 ^ 64 - s.tb0.toNat + i - 1) / i = n from hn, Nat.mul_comm] at hdiv
    omega
  obtain ⟨hge, hless⟩ := hsum
  have hwraps : (s.tb0.toNat + n * (s.rd STK_TB0_INC).toNat) / 2 ^ 64 = 1 := by omega
  refine ⟨?_, ?_, ?_, (State.passTicks_regs s n).congr (State.tb1Sync_regs _), fun a => ?_⟩
  · rw [State.rd_tb1Sync, State.rd_passTicks_wrap n hrun, hwraps]; rfl
  · rw [State.tb1Sync_tb0, State.passTicks_running n hrun]
    rw [BitVec.toNat_ofNat]
    omega
  · rw [State.tb1Sync_ticks, State.passTicks_ticks n hrun]
  · rw [State.tb1Sync_frame, State.passTicks_frame]; rfl

/-- Settles O17: the host's writes under the servo by definition, a step by what moves with it, and the wrap by the sum's bounds. -/
theorem tb0StepsAndWraps : Obligations.Tb0StepsAndWraps := ⟨servoShutsTheHostOut, stepMovesTb0, tb0WrapCounts⟩

end Sys2Proof.Machine
end

section
/-! PROOFS. TB1: MODE, GENLOCK and ALIGN (R135 to R137). -/

-- One proof at a time: the text is compiled as one file in bounded memory.
set_option Elab.async false

namespace Sys2Proof.Machine
open Sys2Proof.Claims

/-! ### Fields beside a bit that is set -/

theorem State.fld_setBit_ne (s : State) (r : Reg) {f g : Fld} (b : Bool) (hg : g.hi < 32 := by decide) (h : g.hi < f.lo ∨ f.hi < g.lo := by decide) :
    (s.setBit r f b).fld r g = s.fld r g := State.fld_setFld_ne s r (b2n b) hg h

theorem State.bit_setBit_ne (s : State) (r : Reg) {f g : Fld} (b : Bool) (hg : g.lo < 32 := by decide) (h : g.lo < f.lo ∨ f.hi < g.lo := by decide) :
    (s.setBit r f b).bit r g = s.bit r g := State.bit_setFld_ne s r (b2n b) hg h

/-! ### TB1's state -/

/-- The registers of a change of TB1's state. -/
def tb1Regs : List Nat := [STK_TB1_CTRL.off, AUD_REF_STATUS.off]

theorem State.setTb1State_only (s : State) (v : Nat) : OnlyRegs s (s.setTb1State v) := ((OnlyRegs.refl s).setFld STK_TB1_CTRL _ v).wr AUD_REF_STATUS _
theorem State.setTb1State_regs (s : State) (v : Nat) : RegsBut s (s.setTb1State v) tb1Regs :=
  ((RegsBut.refl s tb1Regs).setFld STK_TB1_CTRL _ v (by decide)).wr AUD_REF_STATUS _ (by decide)

/-- The control register holds the new state, whatever AUD_REF_STATUS shows. -/
theorem State.rd_setTb1State (s : State) (v : Nat) : (s.setTb1State v).rd STK_TB1_CTRL = (s.setFld STK_TB1_CTRL STK_TB1_CTRL_STATE v).rd STK_TB1_CTRL :=
  State.rd_wr_ne _ _ (by decide)

theorem State.tb1State_setTb1State (s : State) {v : Nat} (hv : v < 4) : (s.setTb1State v).tb1State = v := by
  rw [State.tb1State, State.fld, State.rd_setTb1State]
  exact (State.fld_setFld_self s STK_TB1_CTRL STK_TB1_CTRL_STATE v).trans (Nat.mod_eq_of_lt hv)

theorem State.mode_setTb1State (s : State) (v : Nat) : (s.setTb1State v).fld STK_TB1_CTRL STK_TB1_CTRL_MODE = s.fld STK_TB1_CTRL STK_TB1_CTRL_MODE := by
  rw [State.fld, State.rd_setTb1State]
  exact State.fld_setFld_ne s STK_TB1_CTRL v

theorem State.tb1Lock_regs (s : State) (jump : Bool) : RegsBut s (s.tb1Lock jump) (STK_TB1_CTRL.off :: AUD_REF_STATUS.off :: evRegs 51) :=
  (((State.setTb1State_regs s 2).mono (by decide)).setBit STK_TB1_CTRL STK_TB1_CTRL_JUMP jump).raise 51 0x0E02 [w32 (b2n jump)]

theorem State.tb1Lock_only (s : State) (jump : Bool) : OnlyRegsOcc s (s.tb1Lock jump) :=
  ((State.setTb1State_only s 2).regsOcc.setBit STK_TB1_CTRL STK_TB1_CTRL_JUMP jump).raise 51 0x0E02 [w32 (b2n jump)]

/-- TB1 is LOCKED on entry to it. -/
theorem State.tb1State_tb1Lock (s : State) (jump : Bool) : (s.tb1Lock jump).tb1State = 2 := by
  rw [State.tb1State, State.fld, State.tb1Lock, State.rd_raise _ _ _ _ (by decide) (by decide)]
  exact (State.fld_setBit_ne (s.setTb1State 2) STK_TB1_CTRL (f := STK_TB1_CTRL_JUMP) (g := STK_TB1_CTRL_STATE) jump).trans
    (State.tb1State_setTb1State s (by decide))

theorem State.tb1Lock_raised (s : State) (jump : Bool) : Raised s (s.tb1Lock jump) 51 0x0E02 (w32 (b2n jump)) :=
  (Raised.of_raise ((s.setTb1State 2).setBit STK_TB1_CTRL STK_TB1_CTRL_JUMP jump) 51 0x0E02 [w32 (b2n jump)]).earlier
    (((State.setTb1State_only s 2).setBit STK_TB1_CTRL STK_TB1_CTRL_JUMP jump).occ)
    ((State.setTb1State_regs s 2).setBit STK_TB1_CTRL STK_TB1_CTRL_JUMP jump (by decide))

/-! ### MODE -/

/-- TB1 stands at frame 0, line 0 while nothing has been taken as its reference. -/
theorem State.tb1Now_fresh {s : State} (h : s.stk.tb1 = {}) : s.tb1Now = 0 := by
  have hline : s.tb1FrameLine = (0, 0) := by
    rw [State.tb1FrameLine, h]
    simp
  rw [State.tb1Now, hline]; rfl

/-- The state in which a change of MODE has restarted TB1. -/
def State.tb1Restarted (s : State) (m : Nat) : State :=
  ((s.setFld STK_TB1_CTRL STK_TB1_CTRL_MODE m).setTb1 {}).setTb1State (if m = 1 || m = 2 then 1 else 0)

theorem State.tb1TakeAlign_none {s : State} (h : s.tb1Mode ≠ 2 ∨ s.tb1PeriodQ32 = 0) : s.tb1TakeAlign = s := if_pos (by simpa using h)

theorem State.tb1Restarted_regs (s : State) (m : Nat) : RegsBut s (s.tb1Restarted m) tb1Regs :=
  (((RegsBut.refl s tb1Regs).setFld STK_TB1_CTRL _ m (by decide)).congr).trans (State.setTb1State_regs _ _)

theorem tb1ModeRestarts : Claims.Tb1ModeRestarts := by
  intro v s ⟨hup, hacc⟩ m
  have hexec : exec (.tb1ModeWrite v) s = .next (s.tb1ModeWrite v) :=
    congrArg Host.Outcome.next (State.hostDo_reach s STK_TB1_CTRL true (·.tb1ModeWrite v) hup hacc)
  refine ⟨fun hm => hexec.trans (congrArg Host.Outcome.next (if_pos hm)), fun hm hperiod => ?_⟩
  have hmlt : m < 4 := Nat.mod_lt _ (by decide)
  have hregs := State.tb1Restarted_regs s m
  have honly : OnlyRegs ((s.setFld STK_TB1_CTRL STK_TB1_CTRL_MODE m).setTb1 {}) (s.tb1Restarted m) := State.setTb1State_only _ _
  have hwrite : s.tb1ModeWrite v = s.tb1Restarted m := by
    have hcases : s.tb1ModeWrite v = if m = 2 then (s.tb1Restarted m).tb1TakeAlign else s.tb1Restarted m := if_neg hm
    rw [hcases]
    split
    next h2 =>
      obtain ⟨hns, hfrac⟩ := hperiod.resolve_left (fun h => h h2)
      refine State.tb1TakeAlign_none (.inr ?_)
      rw [State.tb1PeriodQ32, hregs.rd (by decide), hregs.rd (by decide), hns, hfrac]; rfl
    · rfl
  have hstk : (s.tb1Restarted m).stk = { s.stk with tb1 := {} } := honly.field State.stk
  refine Runs.next (hexec.trans (congrArg Host.Outcome.next hwrite)) ⟨?_, ?_, ?_, ?_, hregs, ?_⟩
  · refine (State.mode_setTb1State _ _).trans ((State.fld_setFld_self s STK_TB1_CTRL STK_TB1_CTRL_MODE m).trans (Nat.mod_eq_of_lt hmlt))
  · rw [State.tb1Restarted, State.tb1State_setTb1State _ (by split <;> decide)]
    simp
  · exact State.tb1Now_fresh (by rw [hstk])
  · rw [hstk]
  · rw [hstk]
    rw [OnlyRegs] at honly
    refine honly.trans ?_
    rfl

/-! ### GENLOCK -/

section
variable {s : State} {l p : Nat} (hmode : s.tb1Mode = 1) (hform : genlockFormat l = true)
include hmode hform

theorem State.genlockPulse_locked (hst : s.tb1State = 2) : s.genlockPulse l p =
    if l = s.tb1Lines && within500ppm p s.stk.tb1.lineQ16 then s.tb1FollowRef else s.setTb1 { s.stk.tb1 with count := 0 } := by
  rw [State.genlockPulse, if_neg (by simp [hmode, hform]), if_pos hst]

theorem State.genlockPulse_locking (hst : s.tb1State = 1) (hline : s.stk.tb1.lineQ16 ≠ 0) (hl : l = s.fld STK_TB1_LINES STK_TB1_LINES_LINES)
    (hp : within500ppm p s.stk.tb1.lineQ16 = true) : s.genlockPulse l p = s.tb1FollowRef := by
  have hsame : (decide (l = s.fld STK_TB1_LINES STK_TB1_LINES_LINES) && decide (s.stk.tb1.lineQ16 ≠ 0)) = true := by simp [hl, hline]
  have h3 : ¬ s.tb1State = 3 := by omega
  rw [State.genlockPulse, if_neg (by simp [hmode, hform]), if_neg (by omega)]
  simp only [hsame, hp, h3, Bool.not_true, Bool.and_false, Bool.false_eq_true, if_false, if_true]

end

/-- TB1's own state after an accepted reference. -/
def State.tb1Followed (s : State) : Tb1 :=
  { s.stk.tb1 with
    frame := (if s.stk.tb1.seen then s.stk.tb1.frame + max 1 (((if s.stk.tb1.lineQ16 = 0 then 0 else q16OfTicks (s.ticks - s.stk.tb1.refTick) / s.stk.tb1.lineQ16) +
      s.tb1Lines / 2) / s.tb1Lines) else 0) % 262144
    refTick := s.ticks
    seen := true
    count := s.stk.tb1.count + 1 }

theorem State.tb1FollowRef_eq (s : State) : s.tb1FollowRef =
    if s.tb1State = 1 && 8 ≤ s.stk.tb1.count + 1 then (s.setTb1 s.tb1Followed).tb1Lock s.stk.tb1.moved else s.setTb1 s.tb1Followed := rfl

theorem genlockLocksAndHolds : Claims.GenlockLocksAndHolds := by
  intro lines p s hmode
  have hexec : exec (.genlockPulse lines p) s = .next (s.genlockPulse lines.toNat p.toNat) := rfl
  refine ⟨fun hform hst hno => ?_, fun hform => ?_, fun hform hst hl hp => ?_, fun hform hst hline hl hcount hp => ?_, fun hseen hst => ?_⟩
  · rw [hexec, State.genlockPulse_locked hmode hform hst, if_neg (by rcases hno with h | h <;> simp [h])]; rfl
  · exact congrArg Host.Outcome.next (if_pos (by simp [hform]))
  · refine Runs.next (t := s.setTb1 s.tb1Followed) ?_ ⟨rfl, rfl, rfl, hst, rfl, rfl⟩
    rw [hexec, State.genlockPulse_locked hmode hform hst, if_pos (by simp [hl, hp]), State.tb1FollowRef_eq, if_neg (by simp [hst])]
  · have hrun : exec (.genlockPulse lines p) s = .next ((s.setTb1 s.tb1Followed).tb1Lock s.stk.tb1.moved) := by
      rw [hexec, State.genlockPulse_locking hmode hform hst hline hl hp, State.tb1FollowRef_eq, if_pos (by simp [hst, hcount])]
    have honly := State.tb1Lock_only (s.setTb1 s.tb1Followed) s.stk.tb1.moved
    have hstk : ((s.setTb1 s.tb1Followed).tb1Lock s.stk.tb1.moved).stk = (s.setTb1 s.tb1Followed).stk := honly.field State.stk
    refine Runs.next hrun ⟨State.tb1State_tb1Lock _ _, ?_, ?_, (State.tb1Lock_regs (s.setTb1 s.tb1Followed) _), ?_⟩
    · rw [hstk]
      exact congrArg (· + 1) hcount
    · have hval : w32 (b2n s.stk.tb1.moved) = w32 s.stk.tb1.moved.toNat := by cases s.stk.tb1.moved <;> rfl
      rw [← hval]
      exact State.tb1Lock_raised (s.setTb1 s.tb1Followed) s.stk.tb1.moved
    · rw [hstk]
      rw [OnlyRegsOcc] at honly
      exact honly.trans rfl
  · have hrun : exec .tb1HoldoverTimeout s = .next (((s.setTb1State 3).setTb1 { s.stk.tb1 with count := 0 }).raise 52 0x0E02) :=
      congrArg Host.Outcome.next (if_pos (by simp [hmode, hseen, hst]))
    have hregs : RegsBut s ((s.setTb1State 3).setTb1 { s.stk.tb1 with count := 0 }) tb1Regs := (State.setTb1State_regs s 3).congr
    have hocc : ((s.setTb1State 3).setTb1 { s.stk.tb1 with count := 0 }).occ = s.occ := (State.setTb1State_only s 3).occ
    refine Runs.next hrun ⟨?_, rfl, ?_, (hregs.mono (by decide)).raise 52 0x0E02 []⟩
    · rw [State.tb1State, State.fld, State.rd_raise _ _ _ _ (by decide) (by decide)]
      exact State.tb1State_setTb1State s (by decide)
    · exact (Raised.of_raise ((s.setTb1State 3).setTb1 { s.stk.tb1 with count := 0 }) 52 0x0E02 []).earlier hocc hregs

/-! ### ALIGN -/

theorem State.tb1Mode_regs {s t : State} {os : List Nat} (h : RegsBut s t os) (hos : STK_TB1_CTRL.off ∉ os := by decide) : t.tb1Mode = s.tb1Mode := by
  rw [State.tb1Mode, State.tb1Mode, State.fld, State.fld, h.rd hos]

theorem State.tb1PeriodQ32_regs {s t : State} {os : List Nat} (h : RegsBut s t os) (hns : STK_TB1_PERIOD_NS.off ∉ os := by decide)
    (hfrac : STK_TB1_PERIOD_FRAC.off ∉ os := by decide) : t.tb1PeriodQ32 = s.tb1PeriodQ32 := by
  rw [State.tb1PeriodQ32, State.tb1PeriodQ32, h.rd hns, h.rd hfrac]

/-- A write of a register outside the slots arms none. -/
theorem State.armedSlots_wr {s : State} (r : Reg) (v : Word) (hr : r.off < 0x201000 ∨ 0x205000 ≤ r.off) (h : s.armedSlots = []) :
    (s.wr r v).armedSlots = [] := by
  rw [State.armedSlots, List.filterMap_eq_nil_iff] at h ⊢
  intro e he
  have hmem : e = (r.off, v) ∨ e ∈ s.regs := by
    rw [State.wr_regs, tabSet] at he
    split at he
    · exact .inr (List.mem_of_mem_filter he)
    · exact (mem_tabInsert.1 he).imp_right List.mem_of_mem_filter
  rcases hmem with rfl | hmem
  · exact if_neg (by simp only [Bool.and_eq_true, decide_eq_true_eq]; omega)
  · exact h e hmem

theorem State.armedSlots_passTicks {s : State} (n : Nat) (h : s.armedSlots = []) : (s.passTicks n).armedSlots = [] := by
  cases hstop : s.hlt.clocksStopped with
  | true => rw [State.passTicks_stopped n hstop]; exact h
  | false =>
    have hwr : ∀ v, (s.wr ETH_TB0_WRAP v).armedSlots = [] := fun v => State.armedSlots_wr ETH_TB0_WRAP v (.inr (by decide)) h
    rw [State.passTicks_running n hstop]
    split
    · exact h
    · exact hwr _

theorem State.tb1Sync_tb1 (s : State) : s.tb1Sync.stk.tb1.aligned = s.stk.tb1.aligned ∧ s.tb1Sync.stk.tb1.alignWait = s.stk.tb1.alignWait := by
  unfold State.tb1Sync
  dsimp only
  split <;> exact ⟨rfl, rfl⟩

theorem State.markLate_none {a b : State} (tb : Nat) (h : b.armedSlots = []) : a.markLate b tb = b := by
  rw [State.markLate, h]; rfl

theorem State.passToNs_regs (s : State) (c : Word) : RegsBut s (s.passToNs c) [ETH_TB0_WRAP.off] := (State.passTicks_regs s _).congr (State.tb1Sync_regs _)

theorem State.passToNs_time (s : State) (c : Word) : s.passToNs c = { s with
    regs := (s.passTicks (s.ticksToNs c)).regs
    tb0 := (s.passTicks (s.ticksToNs c)).tb0
    ticks := (s.passTicks (s.ticksToNs c)).ticks
    stk := { s.stk with tb1 := (s.passToNs c).stk.tb1 } } :=
  (State.tb1Sync_frame _).trans
    (congrArg (fun u : State => { u with stk := { u.stk with tb1 := (s.passToNs c).stk.tb1 } }) (State.passTicks_frame s (s.ticksToNs c)))

theorem alignStartsFrame0 : Claims.AlignStartsFrame0 := by
  intro v s
  have hexec : Reach s STK_TB1_ALIGN → exec (.tb1AlignWrite v) s = .next (s.wr STK_TB1_ALIGN v).tb1TakeAlign := fun ⟨hup, hacc⟩ =>
    congrArg Host.Outcome.next (State.hostDo_reach s STK_TB1_ALIGN true (·.tb1AlignWrite v) hup hacc)
  have hwr : RegsBut s (s.wr STK_TB1_ALIGN v) [STK_TB1_ALIGN.off] := (RegsBut.refl s _).wr STK_TB1_ALIGN v
  refine ⟨fun hreach hmode => ?_, fun hreach hmode hper hno => ?_, fun hmode hwait hper hst harm hrun => ?_⟩
  · rw [hexec hreach, State.tb1TakeAlign_none (.inl (by rw [State.tb1Mode_regs hwr]; exact hmode))]
  · rw [hexec hreach, State.tb1TakeAlign, if_neg (by rw [State.tb1Mode_regs hwr, State.tb1PeriodQ32_regs hwr]; simp [hmode, hper]), State.rd_wr_self,
      if_neg (by rw [show (s.wr STK_TB1_ALIGN v).ns = s.ns from rfl, hno]; exact Bool.false_ne_true)]
    rfl
  · generalize hu : s.passToNs (s.rd STK_TB1_ALIGN) = u
    have huregs : RegsBut s u [ETH_TB0_WRAP.off] := hu ▸ State.passToNs_regs s _
    have huframe := State.passToNs_time s (s.rd STK_TB1_ALIGN)
    rw [hu] at huframe
    have huarm : u.armedSlots = [] := by
      have hsame : u.armedSlots = (s.passTicks (s.ticksToNs (s.rd STK_TB1_ALIGN))).armedSlots := by rw [State.armedSlots, State.armedSlots, huframe]
      rw [hsame]
      exact State.armedSlots_passTicks _ harm
    have hust : u.tb1State = 1 := by rw [State.tb1State, State.fld, huregs.rd (by decide)]; exact hst
    generalize hb : u.setTb1 { u.stk.tb1 with
      aligned := true
      alignWait := false
      frame := u.fld STK_TB1_LINES STK_TB1_LINES_FRAME0
      start := (u.rd STK_TB1_ALIGN).setWidth 64 <<< 32 } = b
    have hbarm : b.armedSlots = [] := by rw [← hb]; exact huarm
    have halign : u.tb1Align = b.tb1Sync.tb1Lock false := by
      rw [State.tb1Align, hb]
      rw [State.markLate_none 1 hbarm, if_neg (by omega)]
    have hregs : RegsBut s b.tb1Sync [ETH_TB0_WRAP.off] := (huregs.congr (by rw [← hb]; rfl)).congr (State.tb1Sync_regs b)
    have hocc : b.tb1Sync.occ = s.occ := by rw [State.tb1Sync_frame, ← hb]; exact (by rw [huframe] : u.occ = s.occ)
    have hmem : b.tb1Sync.g7 = s.g7 := by rw [State.tb1Sync_frame, ← hb]; exact (by rw [huframe] : u.g7 = s.g7)
    have honly := State.tb1Lock_only b.tb1Sync false
    obtain ⟨haligned, hwaits⟩ := State.tb1Sync_tb1 b
    refine Runs.next (t := b.tb1Sync.tb1Lock false) ?_ ⟨?_, ?_, State.tb1State_tb1Lock _ _, (State.tb1Lock_raised b.tb1Sync false).earlier hocc hregs, fun a => ?_⟩
    · exact congrArg Host.Outcome.next ((if_pos (by simp [hmode, hwait, hper])).trans (by rw [hu, halign]))
    · rw [honly.field (fun w => w.stk.tb1.aligned), haligned, ← hb]; rfl
    · rw [honly.field (fun w => w.stk.tb1.alignWait), hwaits, ← hb]; rfl
    · have hg7 : (b.tb1Sync.tb1Lock false).g7 = s.g7 := (honly.field State.g7).trans hmem
      rw [State.mem, State.mem, hg7]

/-- Settles O18: a change of MODE by what it restarts, GENLOCK by the state it finds, and ALIGN by whether TB0 has reached it. -/
theorem tb1FollowsItsSource : Obligations.Tb1FollowsItsSource := ⟨tb1ModeRestarts, genlockLocksAndHolds, alignStartsFrame0⟩

end Sys2Proof.Machine
end

section
/-! PROOFS. TB3, the transmit stamp queues, and the PTP servo's announce timeout (R139, R150, R151). -/

-- One proof at a time: the text is compiled as one file in bounded memory.
set_option Elab.async false

namespace Sys2Proof.Machine
open Sys2Proof.Claims

/-! ### TB3 -/

theorem ticksOfUs_100 : ticksOfUs 100 = 125000 := by decide

section
variable {s : State} (hen : s.bit STK_TB3_CTRL STK_TB3_CTRL_EN = true)
include hen

/-- The first confirmed edge is accepted (R139). -/
theorem State.mainsEdge_first (hconf : s.stk.tb3.confirmed = none) : s.mainsEdge = s.setTb3 { s.stk.tb3 with
    cycle := s.stk.tb3.cycle + 1
    bound := s.ticks - 125000
    count := 1
    accepted := some (s.ticks - 125000)
    confirmed := some (s.ticks - 125000) } := by
  rw [State.mainsEdge, if_neg (by simp [hen]), ticksOfUs_100]
  simp only [hconf]

variable {c a : Nat} (hst : s.fld STK_TB3_CTRL STK_TB3_CTRL_STATE ≠ 3) (hconf : s.stk.tb3.confirmed = some c) (hacc : s.stk.tb3.accepted = some a)
include hst hconf hacc

/-- An edge outside the window of LOCKING and LOCKED breaks the run. -/
theorem State.mainsEdge_outside (hwin : mainsWindow (s.ticks - 125000 - a) = false) :
    s.mainsEdge = s.setTb3 { s.stk.tb3 with count := 0, confirmed := some (s.ticks - 125000) } := by
  rw [State.mainsEdge, if_neg (by simp [hen]), ticksOfUs_100]
  simp only [hconf, hacc, hst, if_false, Option.getD_some, hwin, Bool.false_eq_true]

/-- TB3's own state after an accepted edge in LOCKING or LOCKED. -/
def State.tb3Next (s : State) (a : Nat) : Tb3 :=
  { s.stk.tb3 with
    cycle := s.stk.tb3.cycle + 1
    bound := s.ticks - 125000
    period := s.ticks - 125000 - a
    count := s.stk.tb3.count + 1
    accepted := some (s.ticks - 125000)
    confirmed := some (s.ticks - 125000) }

theorem State.mainsEdge_locks (hst1 : s.fld STK_TB3_CTRL STK_TB3_CTRL_STATE = 1) (hcount : s.stk.tb3.count = 15) (hwin : mainsWindow (s.ticks - 125000 - a) = true) :
    s.mainsEdge = ((s.setTb3 (s.tb3Next a)).setFld STK_TB3_CTRL STK_TB3_CTRL_STATE 2).raise 53 0x0E02 := by
  rw [State.mainsEdge, if_neg (by simp [hen]), ticksOfUs_100]
  simp only [hconf, hacc, hst, if_false, Option.getD_some, hwin, if_true, decide_false, Bool.false_and, Bool.false_eq_true]
  rw [if_pos (by simp [hst1, hcount])]
  rfl

end

/-- An event raised after a change of TB3's state and of its own record. -/
theorem State.tb3Event (s : State) (x : Tb3) (v ev : Nat) (hv : v < 4) (hcnt : (EVT_R_CNT ev).off ∉ [STK_TB3_CTRL.off] := by decide)
    (hcntne : STK_TB3_CTRL.off ≠ (EVT_R_CNT ev).off := by decide) (hlast : STK_TB3_CTRL.off ≠ (EVT_R_LAST ev).off := by decide) :
    let t := ((s.setTb3 x).setFld STK_TB3_CTRL STK_TB3_CTRL_STATE v).raise ev 0x0E02
    t.fld STK_TB3_CTRL STK_TB3_CTRL_STATE = v ∧ t.stk.tb3 = x ∧ Raised s t ev 0x0E02 0 ∧ RegsBut s t (STK_TB3_CTRL.off :: evRegs ev) := by
  have hregs : RegsBut s ((s.setTb3 x).setFld STK_TB3_CTRL STK_TB3_CTRL_STATE v) [STK_TB3_CTRL.off] :=
    (RegsBut.congr (u := s.setTb3 x) (RegsBut.refl s _)).setFld STK_TB3_CTRL _ v
  refine ⟨?_, rfl, (Raised.of_raise _ ev 0x0E02 []).earlier rfl hregs hcnt, (hregs.mono (by simp)).raise ev 0x0E02 []⟩
  rw [State.fld, State.rd_raise _ _ _ _ hcntne hlast]
  exact (State.fld_setFld_self _ STK_TB3_CTRL STK_TB3_CTRL_STATE v).trans (Nat.mod_eq_of_lt hv)

theorem tb3FollowsMains : Claims.Tb3FollowsMains := by
  intro v s
  have hwrite : Reach s STK_TB3_CTRL → exec (.tb3Enable v) s = .next (s.tb3Write v) := fun ⟨hup, hacc⟩ =>
    congrArg Host.Outcome.next (State.hostDo_reach s STK_TB3_CTRL true (·.tb3Write v) hup hacc)
  refine ⟨fun hreach hv => ?_, fun hreach hv => ?_, fun hen => ?_, fun hen hconf => ?_, fun c a hen hst hconf hacc hcount hlo hhi => ?_,
    fun c a hen hst hconf hacc hlt => ?_, fun hen hst hacc => ?_⟩
  · exact (hwrite hreach).trans (congrArg Host.Outcome.next (if_pos (by rw [← hv]; exact beq_self_eq_true _)))
  · generalize ht : ((s.setBit STK_TB3_CTRL STK_TB3_CTRL_EN (v.getLsbD 0)).setFld STK_TB3_CTRL STK_TB3_CTRL_STATE (b2n (v.getLsbD 0))) = t
    have hrun : exec (.tb3Enable v) s = .next (t.setTb3 {}) := by
      refine (hwrite hreach).trans (congrArg Host.Outcome.next ((if_neg ?_).trans (congrArg (State.setTb3 · {}) ht)))
      rw [beq_iff_eq]; exact hv
    have honly : OnlyRegs s t := ht ▸ ((OnlyRegs.refl s).setBit STK_TB3_CTRL _ _).setFld STK_TB3_CTRL _ _
    have hregs : RegsBut s t [STK_TB3_CTRL.off] := ht ▸ ((RegsBut.refl s _).setBit STK_TB3_CTRL _ _).setFld STK_TB3_CTRL _ _
    refine Runs.next hrun ⟨?_, ?_, rfl, hregs.congr, ?_⟩
    · change t.bit STK_TB3_CTRL STK_TB3_CTRL_EN = _
      rw [← ht, State.bit_setFld_ne]
      exact State.bit_setBit_self s STK_TB3_CTRL STK_TB3_CTRL_EN _
    · change t.fld STK_TB3_CTRL STK_TB3_CTRL_STATE = _
      rw [← ht]
      refine (State.fld_setFld_self _ STK_TB3_CTRL STK_TB3_CTRL_STATE _).trans ?_
      cases v.getLsbD 0 <;> rfl
    · rw [OnlyRegs] at honly
      rw [honly]; rfl
  · exact congrArg Host.Outcome.next (if_pos (by simp [hen]))
  · exact congrArg Host.Outcome.next (State.mainsEdge_first hen hconf)
  · have hrun := State.mainsEdge_locks hen (by omega) hconf hacc hst hcount (by simp [mainsWindow]; omega)
    obtain ⟨hstate, htb3, hraised, hregs⟩ := State.tb3Event s (s.tb3Next a) 2 53 (by decide)
    exact Runs.next (congrArg Host.Outcome.next hrun) ⟨hstate, by rw [htb3]; rfl, by rw [htb3]; rfl, hraised, hregs⟩
  · exact congrArg Host.Outcome.next (State.mainsEdge_outside hen hst hconf hacc (by simp [mainsWindow]; omega))
  · exact Runs.next (congrArg Host.Outcome.next (if_pos (by simp [hen, hst, hacc]))) (State.tb3Event s { s.stk.tb3 with count := 0 } 3 54 (by decide))

/-! ### The stamp queues -/

/-- The registers of a port's queue that show its head entry and its count. -/
def stampRegs (p : Nat) : List Nat := [(PTP_P_TXQ_STAT p).off, (PTP_P_TXQ_ID p).off, (PTP_P_TXQ_NS p).off, (PTP_P_TXQ_FRAC p).off]

section
variable (s : State) (p : Nat) (q : List Stamp)

/-- The state with the queue of a port, before its registers show it. -/
def State.withPtpQ (s : State) (p : Nat) (q : List Stamp) : State := { s with stk := { s.stk with ptp := tabSet s.stk.ptp [] p q } }

theorem State.setPtpQ_only : OnlyRegs (s.withPtpQ p q) (s.setPtpQ p q) := by
  have hstat : OnlyRegs (s.withPtpQ p q) ((s.withPtpQ p q).setFld (PTP_P_TXQ_STAT p) PTP_P_TXQ_STAT_COUNT q.length) :=
    (OnlyRegs.refl _).setFld (PTP_P_TXQ_STAT p) _ _
  cases q with
  | nil => exact ((hstat.wr (PTP_P_TXQ_ID p) 0).wr (PTP_P_TXQ_NS p) 0).wr (PTP_P_TXQ_FRAC p) 0
  | cons e es => exact ((hstat.wr (PTP_P_TXQ_ID p) _).wr (PTP_P_TXQ_NS p) _).wr (PTP_P_TXQ_FRAC p) _

theorem State.setPtpQ_regs : RegsBut s (s.setPtpQ p q) (stampRegs p) := by
  have hstat : RegsBut s ((s.withPtpQ p q).setFld (PTP_P_TXQ_STAT p) PTP_P_TXQ_STAT_COUNT q.length) (stampRegs p) :=
    (RegsBut.congr (u := s.withPtpQ p q) (RegsBut.refl s _)).setFld (PTP_P_TXQ_STAT p) _ _ (by simp [stampRegs])
  have hmem : (PTP_P_TXQ_ID p).off ∈ stampRegs p ∧ (PTP_P_TXQ_NS p).off ∈ stampRegs p ∧ (PTP_P_TXQ_FRAC p).off ∈ stampRegs p := by simp [stampRegs]
  obtain ⟨hid, hns, hfrac⟩ := hmem
  cases q with
  | nil => exact ((hstat.wr (PTP_P_TXQ_ID p) 0 hid).wr (PTP_P_TXQ_NS p) 0 hns).wr (PTP_P_TXQ_FRAC p) 0 hfrac
  | cons e es => exact ((hstat.wr (PTP_P_TXQ_ID p) _ hid).wr (PTP_P_TXQ_NS p) _ hns).wr (PTP_P_TXQ_FRAC p) _ hfrac

/-- The count of the queue shows, as long as it fits its field. -/
theorem State.count_setPtpQ (hlen : q.length < 128) : (s.setPtpQ p q).fld (PTP_P_TXQ_STAT p) PTP_P_TXQ_STAT_COUNT = q.length := by
  have hstat : ((s.withPtpQ p q).setFld (PTP_P_TXQ_STAT p) PTP_P_TXQ_STAT_COUNT q.length).fld (PTP_P_TXQ_STAT p) PTP_P_TXQ_STAT_COUNT = q.length :=
    (State.fld_setFld_self _ (PTP_P_TXQ_STAT p) PTP_P_TXQ_STAT_COUNT q.length).trans (Nat.mod_eq_of_lt hlen)
  have hne : (PTP_P_TXQ_STAT p).off ≠ (PTP_P_TXQ_ID p).off ∧ (PTP_P_TXQ_STAT p).off ≠ (PTP_P_TXQ_NS p).off ∧
      (PTP_P_TXQ_STAT p).off ≠ (PTP_P_TXQ_FRAC p).off := by simp [PTP_P_TXQ_STAT, PTP_P_TXQ_ID, PTP_P_TXQ_NS, PTP_P_TXQ_FRAC]
  obtain ⟨hid, hns, hfrac⟩ := hne
  have hthree : ∀ (u : State) (a b c : Word), (((u.wr (PTP_P_TXQ_ID p) a).wr (PTP_P_TXQ_NS p) b).wr (PTP_P_TXQ_FRAC p) c).fld (PTP_P_TXQ_STAT p) PTP_P_TXQ_STAT_COUNT =
      u.fld (PTP_P_TXQ_STAT p) PTP_P_TXQ_STAT_COUNT := fun u a b c => by
    rw [State.fld_wr_ne _ _ _ hfrac, State.fld_wr_ne _ _ _ hns, State.fld_wr_ne _ _ _ hid]
  cases q with
  | nil => exact (hthree _ _ _ _).trans hstat
  | cons e es => exact (hthree _ _ _ _).trans hstat

/-- The identification that shows is the head entry's, or 0. -/
theorem State.id_setPtpQ : (s.setPtpQ p q).rd (PTP_P_TXQ_ID p) = match q with
    | [] => 0
    | e :: _ => w32 (0x80000000 + e.id % 65536) := by
  have hthree : ∀ (u : State) (a b c : Word), (((u.wr (PTP_P_TXQ_ID p) a).wr (PTP_P_TXQ_NS p) b).wr (PTP_P_TXQ_FRAC p) c).rd (PTP_P_TXQ_ID p) = a := fun u a b c => by
    rw [State.rd_wr_ne _ _ (by simp [PTP_P_TXQ_ID, PTP_P_TXQ_FRAC]), State.rd_wr_ne _ _ (by simp [PTP_P_TXQ_ID, PTP_P_TXQ_NS]), State.rd_wr_self]
  cases q with
  | nil => exact hthree _ _ _ _
  | cons e es => exact hthree _ _ _ _

theorem State.ns_setPtpQ (e : Stamp) (es : List Stamp) : (s.setPtpQ p (e :: es)).rd (PTP_P_TXQ_NS p) = e.ns := by
  have hwr : ∀ (u : State) (b c : Word), ((u.wr (PTP_P_TXQ_NS p) b).wr (PTP_P_TXQ_FRAC p) c).rd (PTP_P_TXQ_NS p) = b := fun u b c => by
    rw [State.rd_wr_ne _ _ (by simp [PTP_P_TXQ_NS, PTP_P_TXQ_FRAC]), State.rd_wr_self]
  exact hwr _ _ _

end

theorem stampQueuePops : Claims.StampQueuePops := by
  intro s
  refine ⟨fun p ⟨hup, hacc⟩ hlen => ?_, fun e hservo => congrArg Host.Outcome.next (if_pos hservo),
    fun e hservo => congrArg Host.Outcome.next (if_neg (by simp [hservo]))⟩
  have hrun : exec (.ptpPTxqPop p) s = .next (s.setPtpQ p (s.ptpQ p).tail) :=
    congrArg Host.Outcome.next (State.hostDo_reach s (PTP_P_TXQ_POP p) true (·.ptpPop p) hup hacc)
  have honly := State.setPtpQ_only s p (s.ptpQ p).tail
  have hstk : (s.setPtpQ p (s.ptpQ p).tail).stk.ptp = tabSet s.stk.ptp [] p (s.ptpQ p).tail := honly.field (fun u => u.stk.ptp)
  have hlentail : (s.ptpQ p).tail.length = (s.ptpQ p).length - 1 := List.length_tail
  refine Runs.next hrun ⟨?_, fun q hq => ?_, ?_, fun a e es hq => ⟨?_, ?_⟩, fun hshort => ?_, State.setPtpQ_regs s p _, ?_⟩
  · rw [State.ptpQ, hstk, tabGet_set_self]
  · rw [State.ptpQ, hstk, tabGet_set_ne _ _ _ _ hq]; rfl
  · rw [State.count_setPtpQ s p _ (by omega), hlentail]
  · rw [hq]; exact State.ns_setPtpQ s p e es
  · rw [hq]; exact State.id_setPtpQ s p (e :: es)
  · have hnil : (s.ptpQ p).tail = [] := List.eq_nil_of_length_eq_zero (by omega)
    rw [hnil]; exact State.id_setPtpQ s p []
  · rw [OnlyRegs] at honly
    have hstk' : (s.setPtpQ p (s.ptpQ p).tail).stk = (s.withPtpQ p (s.ptpQ p).tail).stk := by rw [honly]
    rw [hstk']
    exact honly.trans rfl

/-- Settles O19: TB3 by what an edge finds, and the stamp queue by what its head shows. -/
theorem mainsAndStamps : Obligations.MainsAndStamps := ⟨tb3FollowsMains, stampQueuePops⟩

end Sys2Proof.Machine
end

section
/-! PROOFS. Action slots: arming, COMPARE, matches, late matches, deliveries and GPIO pulses (R141 to R146, R479). -/

-- One proof at a time: the text is compiled as one file in bounded memory.
set_option Elab.async false

namespace Sys2Proof.Machine
open Sys2Proof.Claims

/-! ### Where a slot stands -/

theorem Fld.get_lt (f : Fld) (w : Word) : f.get w < 2 ^ (f.hi + 1 - f.lo) := Nat.mod_lt _ (by positivity)

/-- The timebases are not in the slots' registers, so a slot's registers other than its own CFG and COMPARE say nothing of what it has reached. -/
theorem State.slotReached_congr {P : Nat → Prop} {s t : State} {n : Nat} (hregs : RegsIn P s t) (hP : ∀ o, P o → 0x201000 ≤ o)
    (hcfg : ¬ P (STK_S_CFG n).off) (hcomp : ¬ P (STK_S_COMPARE n).off) (htime : t.tb0 = s.tb0 ∧ t.ticks = s.ticks ∧ t.stk.tb1 = s.stk.tb1 ∧ t.stk.tb3 = s.stk.tb3) :
    t.slotReached n = s.slotReached n := by
  obtain ⟨htb0, hticks, htb1, htb3⟩ := htime
  have hlow : ∀ {r : Reg}, r.off < 0x201000 → t.rd r = s.rd r := fun {r} h => hregs.rd fun hr => by have := hP _ hr; omega
  have hhead : STK_S_CFG_HEAD.get (s.rd (STK_S_CFG n)) < 8 := Fld.get_lt STK_S_CFG_HEAD _
  have htb2 : t.rd (STK_TB2_NOW (STK_S_CFG_HEAD.get (s.rd (STK_S_CFG n)))) = s.rd (STK_TB2_NOW (STK_S_CFG_HEAD.get (s.rd (STK_S_CFG n)))) :=
    hlow (by simp only [STK_TB2_NOW]; omega)
  simp only [State.slotReached, State.tbNow, State.ns, State.tb1Now, State.tb1FrameLine, State.tb1Lines, State.tb1Mode, State.tb1PeriodQ32, State.tb3Now, State.fld,
    htb0, hticks, htb1, htb3, hregs.rd hcfg, hregs.rd hcomp, htb2, hlow (r := STK_TB1_CTRL) (by decide), hlow (r := STK_TB1_LINES) (by decide),
    hlow (r := STK_TB1_PERIOD_NS) (by decide), hlow (r := STK_TB1_PERIOD_FRAC) (by decide), hlow (r := STK_TB3_CTRL) (by decide)]
  rfl

theorem State.slotReached_ctrl (s : State) (n : Nat) (v : Word) : (s.wr (STK_S_CTRL n) v).slotReached n = s.slotReached n := by
  refine State.slotReached_congr (P := fun o => o = (STK_S_CTRL n).off) ((RegsIn.refl _ s).wr _ _ rfl) (fun o ho => ?_) ?_ ?_ ⟨rfl, rfl, rfl, rfl⟩
  · rw [ho]; simp only [STK_S_CTRL]; omega
  · simp only [STK_S_CTRL, STK_S_CFG]; omega
  · simp only [STK_S_CTRL, STK_S_COMPARE]; omega

/-- A slot that has not been reached, or is not armed, does not match on arming or on a write. -/
theorem State.slotJudge_stays {s : State} {n : Nat} (h : s.armed n = false ∨ s.slotReached n = false) : s.slotJudge n = s :=
  if_neg (by rcases h with h | h <;> simp [h])

/-! ### Arming and disarming -/

theorem State.slotCtrl_unowned {s : State} {n : Nat} (v : Word) (h : s.slotOwned n = false) : s.slotCtrl n v = s := if_pos (by simp [h])

theorem State.slotCtrl_arm {s : State} {n : Nat} (h : s.slotOwned n = true) : s.slotCtrl n 1 = s.slotArm n := if_neg (by simp [h])

/-- What a disarm leaves. -/
theorem State.slotDisarm_leaves (s : State) (n : Nat) :
    let t := s.slotDisarm n false
    t.armed n = false ∧ t.stk = { s.stk with evMatch := s.stk.evMatch.filter (· != n) } ∧
      t.rd EVT_STK_DROP = satAdd (s.rd EVT_STK_DROP) (s.stk.evMatch.filter (· == n)).length ∧
      RegsBut s t [EVT_STK_DROP.off, (STK_S_CTRL n).off] ∧ t = { s with regs := t.regs, stk := t.stk } := by
  intro t
  generalize hu : ({ s with stk := { s.stk with evMatch := s.stk.evMatch.filter (· != n) } } : State) = u
  have ht : t = (u.inc EVT_STK_DROP (s.stk.evMatch.filter (· == n)).length).setBit (STK_S_CTRL n) STK_S_CTRL_ARM false := by rw [← hu]; rfl
  have honly : OnlyRegs u t := by rw [ht]; exact ((OnlyRegs.refl u).inc EVT_STK_DROP _).setBit (STK_S_CTRL n) _ _
  have hstk : t.stk = u.stk := honly.field State.stk
  have hdrop : t.rd EVT_STK_DROP = satAdd (u.rd EVT_STK_DROP) (s.stk.evMatch.filter (· == n)).length := by
    have hne : EVT_STK_DROP.off ≠ (STK_S_CTRL n).off := by simp only [EVT_STK_DROP, STK_S_CTRL]; omega
    rw [ht, State.setBit_eq, State.rd_wr_ne _ _ hne, State.inc_eq, State.rd_wr_self]
  have hregs : RegsBut u t [EVT_STK_DROP.off, (STK_S_CTRL n).off] := by
    rw [ht]; exact ((RegsBut.refl u _).inc EVT_STK_DROP _).setBit (STK_S_CTRL n) _ _
  refine ⟨by rw [ht]; exact State.bit_setBit_self _ _ STK_S_CTRL_ARM _, by rw [hstk, ← hu], by rw [hdrop, ← hu]; rfl, ?_, ?_⟩
  · rw [← hu] at hregs; exact hregs
  · rw [hstk]
    rw [OnlyRegs] at honly
    exact honly.trans (by rw [← hu])

theorem slotArmsAndDisarms : Claims.SlotArmsAndDisarms := by
  intro n s ⟨hup, hacc⟩
  have harm : exec (.slotArm n) s = .next (s.settle (s.slotCtrl n 1)) :=
    congrArg (fun u => Host.Outcome.next (s.settle u)) (State.hostDo_reach s (STK_S_CTRL n) true (fun s => s.slotCtrl n 1) hup hacc)
  have hdis : exec (.slotDisarm n false) s = .next (s.settle (if s.slotOwned n then s.slotDisarm n false else s)) :=
    congrArg (fun u => Host.Outcome.next (s.settle u))
      (State.hostDo_reach s (STK_S_CTRL n) true (fun s => if s.slotOwned n then s.slotDisarm n false else s) hup hacc)
  have hsame : s.settle s = s := State.settle_same rfl
  refine ⟨fun hno => ⟨?_, ?_⟩, fun hown htype => ?_, fun hown htype hunarmed hahead => ?_, fun hown => ?_⟩
  · rw [harm, State.slotCtrl_unowned 1 hno, hsame]
  · rw [hdis, if_neg (by simp [hno]), hsame]
  · rw [harm, State.slotCtrl_arm hown, State.slotArm, if_pos (by simp [htype]), hsame]
  · have hjudge : (s.setBit (STK_S_CTRL n) STK_S_CTRL_ARM true).slotJudge n = s.setBit (STK_S_CTRL n) STK_S_CTRL_ARM true :=
      State.slotJudge_stays (.inr ((State.slotReached_ctrl s n _).trans hahead))
    rw [harm, State.slotCtrl_arm hown, State.slotArm, if_neg (by simp [htype, hunarmed]), hjudge, State.settle_same (s := s) (t := s.setBit (STK_S_CTRL n) STK_S_CTRL_ARM true) rfl]
  · have hleaves := State.slotDisarm_leaves s n
    have hocc : (s.slotDisarm n false).occ = s.occ := by
      obtain ⟨_, _, _, _, hall⟩ := hleaves
      rw [hall]
    refine Runs.next (hdis.trans ?_) hleaves
    rw [if_pos hown, State.settle_same hocc]

theorem compareIsWritten : Claims.CompareIsWritten := by
  intro n v s ⟨hup, hacc⟩ hown
  have hrun : exec (.slotCompareWrite n v false) s = .next (s.settle (s.slotCompare n v false)) :=
    congrArg (fun u => Host.Outcome.next (s.settle u)) (State.hostDo_reach s (STK_S_COMPARE n) true (fun s => s.slotCompare n v false) hup hacc)
  have hcomp : s.slotCompare n v false = (s.wr (STK_S_COMPARE n) v).slotJudge n := if_neg (by simp [hown])
  have hstays : (s.wr (STK_S_COMPARE n) v).armed n = false ∨ (s.wr (STK_S_COMPARE n) v).slotReached n = false →
      exec (.slotCompareWrite n v false) s = .next (s.wr (STK_S_COMPARE n) v) := fun h => by
    rw [hrun, hcomp, State.slotJudge_stays h, State.settle_same (State.wr_occ ..)]
  have harmed : (s.wr (STK_S_COMPARE n) v).armed n = s.armed n := State.bit_wr_ne s v STK_S_CTRL_ARM (by simp only [STK_S_CTRL, STK_S_COMPARE]; omega)
  exact ⟨fun h => hstays (.inl (harmed.trans h)), fun _ h => hstays (.inr h)⟩

/-! ### Matches -/

theorem bitsOf_31_16 (w : Word) : bitsOf w.toNat 31 16 = w.toNat / 65536 := by
  have := w.isLt
  simp only [bitsOf]
  omega

/-- The next COMPARE of a slot on TB0 is a whole number of REPEATs on. -/
theorem State.slotNext_tb0 {s : State} {n : Nat} (late : Bool) (htb : s.fld (STK_S_CFG n) STK_S_CFG_TB = 0) : s.slotNext n late =
    (s.rd (STK_S_COMPARE n) + w32 ((if late then (s.ns - s.rd (STK_S_COMPARE n)).toNat / (s.rd (STK_S_REPEAT n)).toNat + 1 else 1) *
      (s.rd (STK_S_REPEAT n)).toNat), (if late then (s.ns - s.rd (STK_S_COMPARE n)).toNat / (s.rd (STK_S_REPEAT n)).toNat + 1 else 1) - 1) := by
  have hdiff : (s.ns.toNat + 4294967296 - (s.rd (STK_S_COMPARE n)).toNat % 4294967296) % 4294967296 = (s.ns - s.rd (STK_S_COMPARE n)).toNat := by
    have hc := (s.rd (STK_S_COMPARE n)).isLt
    rw [BitVec.toNat_sub]
    omega
  unfold State.slotNext
  simp only [htb, State.tbNow, tbLinear, tbWord, decide_true, Bool.true_or, if_true, hdiff]
  congr 1
  apply BitVec.eq_of_toNat_eq
  simp

/-- A match on time of a slot that the queue of event deliveries does not name. -/
theorem exec_slotMatch {n : Fin 512} {s : State} (harm : s.armed n = true) (hreach : s.slotReached n = true) (hno : s.stk.evMatch.contains n.val = false) :
    exec (.slotMatch n) s = .next (s.settle (s.slotMatch n false)) := by
  change execSlotMatch n s = _
  rw [execSlotMatch, if_neg (by simp only [hno]; exact Bool.false_ne_true), State.slotOnTime, if_neg (by simp [harm])]
  simp only [hreach, Bool.not_true, Bool.and_false, Bool.false_eq_true, if_false, if_true]

theorem State.slotMatch_onTime (s : State) (n : Nat) : s.slotMatch n false = (s.withDue n).slotMoved n false := rfl

theorem slotMatchSchedulesDelivery : Claims.SlotMatchSchedulesDelivery := by
  intro n s harm hreach hno
  have honly := State.slotMoved_only (s.withDue n) n false
  have hocc : ((s.withDue n).slotMoved n false).occ = s.occ := honly.occ
  have hrun := exec_slotMatch harm hreach hno
  rw [State.slotMatch_onTime, State.settle_same hocc] at hrun
  have hstk : ((s.withDue n).slotMoved n false).stk = (s.withDue n).stk := honly.field State.stk
  have hframe : (s.withDue n).slotMoved n false = { s with regs := ((s.withDue n).slotMoved n false).regs, stk := ((s.withDue n).slotMoved n false).stk } := by
    rw [hstk]
    rw [OnlyRegs] at honly
    exact honly.trans rfl
  refine ⟨fun hone => Runs.next hrun ⟨?_, ?_, hocc, ?_, hframe⟩, fun hrep htb => Runs.next hrun ?_⟩
  · rw [State.slotMoved, if_pos (show (s.withDue n).rd (STK_S_REPEAT n) = 0 from hone)]
    exact State.bit_setBit_self _ _ STK_S_CTRL_ARM _
  · rw [hstk, ← bitsOf_31_16]; rfl
  · rw [State.slotMoved, if_pos (show (s.withDue n).rd (STK_S_REPEAT n) = 0 from hone)]
    exact (RegsBut.congr (u := s.withDue n) (RegsBut.refl s _)).setBit (STK_S_CTRL n) _ _
  · have hmoved : (s.withDue n).slotMoved n false =
        ((s.withDue n).wr (STK_S_COMPARE n) ((s.withDue n).slotNext n false).1).inc (STK_S_SKIP n) ((s.withDue n).slotNext n false).2 := if_neg hrep
    have hnext : ((s.withDue n).slotNext n false).1 = s.rd (STK_S_COMPARE n) + s.rd (STK_S_REPEAT n) := by
      rw [State.slotNext_tb0 (s := s.withDue n) false htb, if_neg Bool.false_ne_true, Nat.one_mul, w32, BitVec.ofNat_toNat, BitVec.setWidth_eq]; rfl
    rw [hmoved] at hframe hstk ⊢
    refine ⟨?_, ?_, ?_, ?_, hframe⟩
    · rw [State.inc_eq, State.rd_wr_ne _ _ (by simp only [STK_S_COMPARE, STK_S_SKIP]; omega), State.rd_wr_self, hnext]
    · rw [State.armed, State.inc_eq, State.bit_wr_ne _ _ _ (by simp only [STK_S_CTRL, STK_S_SKIP]; omega),
        State.bit_wr_ne _ _ _ (by simp only [STK_S_CTRL, STK_S_COMPARE]; omega)]
      exact harm
    · rw [hstk]; exact List.length_append
    · exact ((RegsBut.congr (u := s.withDue n) (RegsBut.refl s _)).wr (STK_S_COMPARE n) _).inc (STK_S_SKIP n) _

/-- Settles O20: each write of a slot by what it finds, and a match by its slot's next COMPARE. -/
theorem actionSlots : Obligations.ActionSlots := ⟨slotArmsAndDisarms, compareIsWritten, slotMatchSchedulesDelivery⟩

/-! ### Late matches -/

theorem lateSlotSkipsPeriods : Claims.LateSlotSkipsPeriods := by
  intro n s hn htb hrep hlate
  have hpos : 0 < (s.rd (STK_S_REPEAT n)).toNat := Nat.pos_of_ne_zero fun h => hrep (BitVec.eq_of_toNat_eq h)
  generalize hk : (s.ns - s.rd (STK_S_COMPARE n)).toNat / (s.rd (STK_S_REPEAT n)).toNat = k
  have hnext : (s.withDue n).slotNext n true = (s.rd (STK_S_COMPARE n) + w32 ((k + 1) * (s.rd (STK_S_REPEAT n)).toNat), k) := by
    rw [← hk]; exact State.slotNext_tb0 true htb
  have hmoved : (s.withDue n).slotMoved n true =
      ((s.withDue n).wr (STK_S_COMPARE n) (s.rd (STK_S_COMPARE n) + w32 ((k + 1) * (s.rd (STK_S_REPEAT n)).toNat))).inc (STK_S_SKIP n) k := by
    rw [State.slotMoved, if_neg (show ¬ (s.withDue n).rd (STK_S_REPEAT n) = 0 from hrep), hnext]
  generalize hm : (s.withDue n).slotMoved n true = m at *
  -- The match leaves the moved slot, marked late and counted, beside the registers of event 48.
  have hmatch : s.slotMatch n true = (((m.setBit (STK_S_CTRL n) STK_S_CTRL_LATE true).inc STK_LATE_CNT).raiseOnce 48 n 0x0E02 [w32 n]) := by
    rw [State.slotMatch_eq, if_pos rfl, hm]
  have hev := State.raiseOnce_regs ((m.setBit (STK_S_CTRL n) STK_S_CTRL_LATE true).inc STK_LATE_CNT) 48 n 0x0E02 [w32 n]
  have hframe := SlotFrame.raiseOnce (SlotFrame.refl ((m.setBit (STK_S_CTRL n) STK_S_CTRL_LATE true).inc STK_LATE_CNT)) 48 n 0x0E02 [w32 n]
  have hout : ∀ r : Reg, r.off < 0x300000 → r.off ≠ (STK_S_CTRL n).off → r.off ≠ STK_LATE_CNT.off → (s.slotMatch n true).rd r = m.rd r := by
    intro r hlow hctrl hcnt
    rw [hmatch, hev.rd (by simp only [evRegs, EVT_R_CNT, EVT_R_LAST, List.mem_cons, List.not_mem_nil, or_false, not_or]; omega), State.inc_eq, State.rd_wr_ne _ _ hcnt, State.setBit_eq,
      State.rd_wr_ne _ _ hctrl]
  have hdiv := Nat.div_add_mod (s.ns - s.rd (STK_S_COMPARE n)).toNat (s.rd (STK_S_REPEAT n)).toNat
  have hmod := Nat.mod_lt (s.ns - s.rd (STK_S_COMPARE n)).toNat hpos
  rw [hk, Nat.mul_comm] at hdiv
  refine ⟨k + 1, Nat.succ_pos k, ?_, ?_, ?_, ?_, ?_, ?_⟩
  · rw [hout _ (by simp only [STK_S_COMPARE]; omega) (by simp only [STK_S_COMPARE, STK_S_CTRL]; omega) (by simp only [STK_S_COMPARE, STK_LATE_CNT]; omega), hmoved,
      State.inc_eq, State.rd_wr_ne _ _ (by simp only [STK_S_COMPARE, STK_S_SKIP]; omega), State.rd_wr_self]
  · rw [Nat.add_mul]; omega
  · rw [Nat.add_sub_cancel]; omega
  · rw [hout _ (by simp only [STK_S_SKIP]; omega) (by simp only [STK_S_SKIP, STK_S_CTRL]; omega) (by simp only [STK_S_SKIP, STK_LATE_CNT]; omega), hmoved,
      State.inc_eq, State.rd_wr_self, State.rd_wr_ne _ _ (by simp only [STK_S_COMPARE, STK_S_SKIP]; omega), Nat.add_sub_cancel]
    rfl
  · have hall := State.slotMoved_only (s.withDue n) n true
    rw [hm] at hall
    have hdue : m.stk.due = s.stk.due ++ [s.slotDue n] := hall.field (fun u => u.stk.due)
    have hsame : (s.slotMatch n true).stk.due = m.stk.due := by
      rw [hmatch]
      unfold State.raiseOnce
      split <;> rfl
    rw [hsame, hdue, List.length_append]; rfl
  · have hcnt : m.rd STK_LATE_CNT = s.rd STK_LATE_CNT := by
      rw [hmoved, State.inc_eq, State.rd_wr_ne _ _ (by simp only [STK_LATE_CNT, STK_S_SKIP]; omega),
        State.rd_wr_ne _ _ (by simp only [STK_LATE_CNT, STK_S_COMPARE]; omega)]
      rfl
    rw [hmatch, hev.rd (by decide), State.inc_eq, State.rd_wr_self, State.setBit_eq, State.rd_wr_ne _ _ (by simp only [STK_LATE_CNT, STK_S_CTRL]; omega), hcnt]

/-- Settles O21: the quotient of the delay by REPEAT gives the periods passed over. -/
theorem lateSlotsSkip : Obligations.LateSlotsSkip := lateSlotSkipsPeriods

/-! ### Deliveries -/

/-- No session is paced by slots, so no session reads a slot's delivery. -/
theorem State.decSlot_none {s : State} (slot : Nat) (h : ∀ k, k < 4 → DEC_S_PACE_MODE.get (s.rd (DEC_S_PACE k)) ≠ 2) : s.decSlot slot = s :=
  foldl_fixed_mem fun k hk => if_neg (by simp [h k (List.mem_range.1 hk)])

/-- The state in which the one delivery has been counted. -/
def State.fired (s : State) (d : Delivery) : State := (({ s with stk := { s.stk with due := [] } } : State).inc (STK_S_FIRES d.slot)).inc STK_MERGE_CNT 0

theorem State.fired_only (s : State) (d : Delivery) : OnlyRegs { s with stk := { s.stk with due := [] } } (s.fired d) :=
  ((OnlyRegs.refl _).inc (STK_S_FIRES d.slot) _).inc STK_MERGE_CNT _

theorem State.fired_regs (s : State) (d : Delivery) : RegsBut s (s.fired d) [(STK_S_FIRES d.slot).off, STK_MERGE_CNT.off] :=
  ((RegsBut.congr (u := { s with stk := { s.stk with due := [] } }) (RegsBut.refl s _)).inc (STK_S_FIRES d.slot) _).inc STK_MERGE_CNT _

section
variable {d : Delivery} {s : State} (hone : s.stk.due = [d]) (hdue : d.due ≤ s.ticks)
include hone hdue

theorem exec_slotDelivery (errs : List Word) : exec (.slotDelivery errs) s =
    .next (if s.safe then { s with stk := { s.stk with due := [] } }
      else s.settle (({ s with stk := { s.stk with due := [] } } : State).deliver errs [d] 1)) := by
  change execSlotDelivery errs s = _
  have hfirst : dueFirst s.stk.due = some d.due := by rw [hone]; rfl
  have hlate : ¬ s.ticks < d.due := by omega
  rw [execSlotDelivery, hfirst]
  simp [hone, hlate, dueInsert]

variable (hstream : s.slotStream d.slot = none) (hpace : ∀ k, k < 4 → DEC_S_PACE_MODE.get (s.rd (DEC_S_PACE k)) ≠ 2) (hsafe : s.safe = false)
include hstream hpace hsafe

/-- The delivery counts and its target acts; nothing else reads it. -/
theorem exec_slotDelivery_acts {u : State} (errs : List Word) (hacts : (s.fired d).targetActs d d.tparam errs = u) (hrig : u.rig = s.rig)
    (hregs : ∀ k, k < 4 → u.rd (DEC_S_PACE k) = s.rd (DEC_S_PACE k)) : exec (.slotDelivery errs) s = .next (s.settle u) := by
  have hreaders : u.slotReaders d.slot d.ttype = u := by
    have hnone : u.slotStream d.slot = none := by rw [State.slotStream, hrig]; exact hstream
    rw [State.slotReaders, State.decSlot_none d.slot (fun k hk => by rw [hregs k hk]; exact hpace k hk), hnone]
  have hdeliver : ({ s with stk := { s.stk with due := [] } } : State).deliver errs [d] 1 =
      ((s.fired d).targetActs d d.tparam errs).slotReaders d.slot d.ttype := rfl
  rw [exec_slotDelivery hone hdue, if_neg (by simp [hsafe]), hdeliver, hacts, hreaders]

end

theorem State.fired_rig (s : State) (d : Delivery) : (s.fired d).rig = s.rig := (State.fired_only s d).field State.rig
theorem State.fired_stk (s : State) (d : Delivery) : (s.fired d).stk = { s.stk with due := [] } := (State.fired_only s d).field State.stk

theorem State.fired_fires (s : State) (d : Delivery) : (s.fired d).rd (STK_S_FIRES d.slot) = satAdd (s.rd (STK_S_FIRES d.slot)) 1 := by
  have hne : (STK_S_FIRES d.slot).off ≠ STK_MERGE_CNT.off := by simp only [STK_S_FIRES, STK_MERGE_CNT]; omega
  rw [State.fired, State.inc_eq, State.rd_wr_ne _ _ hne, State.inc_eq, State.rd_wr_self]; rfl

theorem State.fired_pace (s : State) (d : Delivery) (hslot : d.slot < 512) (k : Nat) : (s.fired d).rd (DEC_S_PACE k) = s.rd (DEC_S_PACE k) :=
  (State.fired_regs s d).rd (by simp only [DEC_S_PACE, STK_S_FIRES, STK_MERGE_CNT, List.mem_cons, List.not_mem_nil, or_false, not_or]; omega)

theorem State.gpioPulse_stk (s : State) (g w : Nat) : (s.gpioPulse g w).stk = { s.stk with gpio := tabSet s.stk.gpio 0 g (s.ticks + max 1 w) } := rfl
theorem State.gpioPulse_rig (s : State) (g w : Nat) : (s.gpioPulse g w).rig = s.rig := rfl
theorem State.gpioPulse_regs (s : State) (g w : Nat) : (s.gpioPulse g w).regs = s.regs := rfl

section
variable (s : State) {i : Nat}

theorem State.capture_only : OnlyRegs s (s.capture i) :=
  OnlyRegs.setFld (OnlyRegs.ite (((OnlyRegs.refl _).wr (STK_CAP i) _).setFld STK_CAP_FLAGS _ 1) ((OnlyRegs.refl _).wr (STK_CAP i) _)) STK_CAP_FLAGS _ 1

theorem State.capture_regs : RegsBut s (s.capture i) [(STK_CAP i).off, STK_CAP_FLAGS.off] :=
  RegsBut.setFld (RegsBut.ite (((RegsBut.refl _ _).wr (STK_CAP i) _).setFld STK_CAP_FLAGS _ 1) ((RegsBut.refl _ _).wr (STK_CAP i) _)) STK_CAP_FLAGS _ 1

/-- A capture holds TB0 NS, and its flag is set. -/
theorem State.capture_shows (hi : i < 16) : (s.capture i).rd (STK_CAP i) = s.ns ∧ ((s.capture i).rd STK_CAP_FLAGS).getLsbD i = true := by
  have hne : (STK_CAP i).off ≠ STK_CAP_FLAGS.off := by simp only [STK_CAP, STK_CAP_FLAGS]; omega
  have hbit : (s.capture i).bit STK_CAP_FLAGS ⟨i, i⟩ = true := State.bit_setBit_self _ STK_CAP_FLAGS ⟨i, i⟩ true (by simp only; omega) (Nat.le_refl _)
  refine ⟨?_, hbit⟩
  rw [State.capture, State.setFld_eq, State.rd_wr_ne _ _ hne]
  split
  · rw [State.setFld_eq, State.rd_wr_ne _ _ hne, State.rd_wr_self]
  · rw [State.rd_wr_self]

end

section
variable {d : Delivery} {s : State} (hone : s.stk.due = [d]) (hdue : d.due ≤ s.ticks) (hslot : d.slot < 512) (hstream : s.slotStream d.slot = none)
  (hpace : ∀ k, k < 4 → DEC_S_PACE_MODE.get (s.rd (DEC_S_PACE k)) ≠ 2) (hsafe : s.safe = false)
include hone hdue hslot hstream hpace hsafe

theorem slotDelivery_pulses (htype : d.ttype = 6) (hinst : d.tinst < 64) (errs : List Word) : Runs (.slotDelivery errs) s (fun t =>
    tabGet t.stk.gpio 0 d.tinst = s.ticks + max 1 (d.param.toNat % 65536) ∧ t.stk.due = [] ∧ t.rd (STK_S_FIRES d.slot) = satAdd (s.rd (STK_S_FIRES d.slot)) 1) := by
  have hacts : (s.fired d).targetActs d d.tparam errs = (s.fired d).gpioPulse d.tinst d.tparam := by
    rw [State.targetActs, htype]; exact if_pos hinst
  have hwidth : d.tparam = d.param.toNat % 65536 := by simp [Delivery.tparam, bitsOf]
  have hticks : (s.fired d).ticks = s.ticks := (State.fired_only s d).field State.ticks
  have hrd : ∀ r, ((s.fired d).gpioPulse d.tinst d.tparam).rd r = (s.fired d).rd r := fun r => by rw [State.rd, State.rd, State.gpioPulse_regs]
  refine Runs.next (exec_slotDelivery_acts hone hdue hstream hpace hsafe errs hacts ((State.gpioPulse_rig ..).trans (State.fired_rig s d))
    fun k _ => (hrd _).trans (State.fired_pace s d hslot k)) ⟨?_, ?_, ?_⟩
  · rw [State.settle_stk, State.gpioPulse_stk]
    dsimp only
    rw [tabGet_set_self, hticks, hwidth]
  · rw [State.settle_stk, State.gpioPulse_stk, State.fired_stk]
  · rw [State.rd_settle, hrd]
    exact State.fired_fires s d

theorem slotDelivery_captures (htype : d.ttype = 5) (hinst : d.tinst < 16) (errs : List Word) : Runs (.slotDelivery errs) s (fun t =>
    t.rd (STK_CAP d.tinst) = s.ns ∧ (t.rd STK_CAP_FLAGS).getLsbD d.tinst = true ∧ t.stk.due = []) := by
  have hacts : (s.fired d).targetActs d d.tparam errs = (s.fired d).capture d.tinst := by
    rw [State.targetActs, htype]; exact if_pos hinst
  have honly := State.capture_only (s.fired d) (i := d.tinst)
  have hregs := State.capture_regs (s.fired d) (i := d.tinst)
  obtain ⟨hcap, hflag⟩ := State.capture_shows (s.fired d) hinst
  refine Runs.next (exec_slotDelivery_acts hone hdue hstream hpace hsafe errs hacts ((honly.field State.rig).trans (State.fired_rig s d)) fun k hk => ?_)
    ⟨?_, ?_, ?_⟩
  · rw [hregs.rd (by simp only [DEC_S_PACE, STK_CAP, STK_CAP_FLAGS, List.mem_cons, List.not_mem_nil, or_false, not_or]; omega), State.fired_pace s d hslot k]
  · rw [State.rd_settle, hcap]
    exact (State.fired_only s d).field State.ns
  · rw [State.rd_settle]; exact hflag
  · rw [State.settle_stk, honly.field State.stk, State.fired_stk]

theorem slotDelivery_raises (htype : d.ttype = 9) (errs : List Word) :
    Runs (.slotDelivery errs) s (fun t => Raised s t 56 0x0E02 (w32 d.slot) ∧ t.stk.due = []) := by
  have hacts : (s.fired d).targetActs d d.tparam errs = (s.fired d).raise 56 0x0E02 [w32 d.slot] := by rw [State.targetActs, htype]; rfl
  have hraised : Raised s ((s.fired d).raise 56 0x0E02 [w32 d.slot]) 56 0x0E02 (w32 d.slot) :=
    (Raised.of_raise (s.fired d) 56 0x0E02 [w32 d.slot]).earlier (State.fired_only s d).occ (State.fired_regs s d)
      (by simp only [EVT_R_CNT, STK_S_FIRES, STK_MERGE_CNT, List.mem_cons, List.not_mem_nil, or_false, not_or]; omega)
  refine Runs.next (exec_slotDelivery_acts hone hdue hstream hpace hsafe errs hacts ((State.raise_rig ..).trans (State.fired_rig s d)) fun k hk => ?_)
    ⟨State.raised_settle hraised, ?_⟩
  · rw [State.rd_raise _ _ _ _ (by simp only [DEC_S_PACE, EVT_R_CNT]; omega) (by simp only [DEC_S_PACE, EVT_R_LAST]; omega), State.fired_pace s d hslot k]
  · rw [State.settle_stk, State.raise_stk, State.fired_stk]

end

theorem deliveryActsOnItsTarget : Claims.DeliveryActsOnItsTarget := fun _ _ hone hdue hslot hstream hpace =>
  ⟨fun hsafe errs => (exec_slotDelivery hone hdue errs).trans (congrArg Host.Outcome.next (if_pos hsafe)),
    fun hsafe htype hinst errs => slotDelivery_pulses hone hdue hslot hstream hpace hsafe htype hinst errs,
    fun hsafe htype hinst errs => slotDelivery_captures hone hdue hslot hstream hpace hsafe htype hinst errs,
    fun hsafe htype errs => slotDelivery_raises hone hdue hslot hstream hpace hsafe htype errs⟩

theorem gpioPulseEnds : Claims.GpioPulseEnds := by
  intro g s hpos hdue
  change execGpioPulseEnd g s = _
  rw [execGpioPulseEnd]
  have hne : ¬ tabGet s.stk.gpio 0 g.val = 0 := by omega
  have hlate : ¬ s.ticks < tabGet s.stk.gpio 0 g.val := by omega
  simp only [hne, hlate, if_false]
  rfl

/-- Settles O22: a delivery by what its target does, and the end of a pulse by definition. -/
theorem slotDeliveries : Obligations.SlotDeliveries := ⟨deliveryActsOnItsTarget, gpioPulseEnds⟩

end Sys2Proof.Machine
end

section
/-! PROOFS. Blocks that stop and are asked to stop, and the resets of regions and blocks (R33, R108 to R112). -/

-- One proof at a time: the text is compiled as one file in bounded memory.
set_option Elab.async false

namespace Sys2Proof.Machine
open Sys2Proof.Claims

/-! ### A block that stops (R33) -/

theorem State.blkStop_active {s : State} {b : Nat} (code : Nat) (h : (s.blkOf b).phase = .running ∨ (s.blkOf b).phase = .held) :
    s.blkStop b code = ((s.unitsStop b code).strmsStop b code).setBlk b { s.blkOf b with phase := .stopped, code := code, upstream := 0 } :=
  if_neg (by rcases h with h | h <;> simp [h])

theorem State.blkStop_inactive {s : State} {b : Nat} (code : Nat) (h : (s.blkOf b).phase = .stopped ∨ (s.blkOf b).phase = .down) : s.blkStop b code = s :=
  if_pos (by rcases h with h | h <;> simp [h])

/-- A block that stops is stopped with the code, whatever its units do. -/
theorem State.blkOf_blkStop {s : State} {b : Nat} (code : Nat) (h : (s.blkOf b).phase = .running ∨ (s.blkOf b).phase = .held) :
    (s.blkStop b code).blkOf b = { s.blkOf b with phase := .stopped, code := code, upstream := 0 } := by
  rw [State.blkStop_active code h, State.blkOf_setBlk_self]

theorem blockKeepsFirstStopReason : Claims.BlockKeepsFirstStopReason := fun s b code =>
  ⟨fun h => by rw [State.blkOf_blkStop code h]; exact ⟨rfl, rfl⟩, fun h => State.blkStop_inactive code (.inl h)⟩

/-! ### A block that is asked to stop at its boundary (R19, R60, R108) -/

/-- With no clip open, asking a block changes at most the state of its Coach. -/
theorem State.holdAsk_cases {s : State} {b : Nat} (h : bidType b = 0x0C → (s.recOf (bidUnit b)).clip = none) :
    s.holdAsk b = s ∨ s.holdAsk b = s.setFld (BOH_COACH (bidUnit b)) ⟨2, 0⟩ 2 := by
  unfold State.holdAsk
  split
  next htype => exact .inl (State.recEnd_idle 7 (h htype))
  · exact .inr rfl
  · exact .inl rfl

theorem State.holdAsk_other {s : State} {b : Nat} (h0C : bidType b ≠ 0x0C) (h0F : bidType b ≠ 0x0F) : s.holdAsk b = s := by
  unfold State.holdAsk
  split
  next h => exact absurd h h0C
  next h => exact absurd h h0F
  · rfl

theorem State.holdAsk_only {s : State} {b : Nat} (h : bidType b = 0x0C → (s.recOf (bidUnit b)).clip = none) : OnlyRegs s (s.holdAsk b) := by
  rcases State.holdAsk_cases h with heq | heq <;> rw [heq]
  · exact OnlyRegs.refl s
  · exact (OnlyRegs.refl s).setFld (BOH_COACH (bidUnit b)) _ _

/-- The registers of the Coaches. -/
def CoachOff (o : Nat) : Prop := 0x100 ≤ o ∧ o < 0x500

theorem coachOff (u : Nat) (h : u < 256) : CoachOff (BOH_COACH u).off := by simp only [CoachOff, BOH_COACH]; omega
theorem bidUnit_lt (b : Nat) : bidUnit b < 256 := Nat.mod_lt _ (by decide)

theorem State.holdAsk_regs {s : State} {b : Nat} (h : bidType b = 0x0C → (s.recOf (bidUnit b)).clip = none) : RegsIn CoachOff s (s.holdAsk b) := by
  rcases State.holdAsk_cases h with heq | heq <;> rw [heq]
  · exact RegsIn.refl _ s
  · exact (RegsIn.refl _ s).wr _ _ (coachOff _ (bidUnit_lt b))

/-! ### A reset asks the blocks of a region -/

/-- What a reset asks of one block: its pending restart is cancelled, and it stops at its boundary. -/
def State.resetAskBlk (s : State) (b : Nat) : State :=
  let u := s.setBlk b { s.blkOf b with restartDue := false }
  let k := u.blkOf b
  if k.phase = .running || k.phase = .held then (u.setBlk b { k with holdReset := true }).holdAsk b else u

/-- What asking blocks changes: their records, and registers of Coaches. -/
def AskFrame (s t : State) : Prop := t = { s with regs := t.regs, blk := t.blk } ∧ RegsIn CoachOff s t

theorem AskFrame.refl (s : State) : AskFrame s s := ⟨rfl, RegsIn.refl _ s⟩

theorem AskFrame.trans {s t u : State} (h : AskFrame s t) (h' : AskFrame t u) : AskFrame s u := by
  obtain ⟨ht, hregs⟩ := h
  obtain ⟨hu, hregs'⟩ := h'
  exact ⟨by rw [hu, ht], hregs.trans hregs'⟩

theorem AskFrame.field {α : Type} {s t : State} (h : AskFrame s t) (f : State → α) (hf : ∀ regs blk, f { s with regs := regs, blk := blk } = f s := by intro _ _; rfl) :
    f t = f s := by
  rw [h.1]; exact hf _ _

section
variable {s : State} {b : Nat} (hclip : bidType b = 0x0C → (s.recOf (bidUnit b)).clip = none)
include hclip

theorem State.resetAskBlk_frame : AskFrame s (s.resetAskBlk b) := by
  unfold State.resetAskBlk
  dsimp only
  split
  · generalize hu : (s.setBlk b { s.blkOf b with restartDue := false }).setBlk b { (s.setBlk b { s.blkOf b with restartDue := false }).blkOf b with holdReset := true } = u
    have hclip' : bidType b = 0x0C → (u.recOf (bidUnit b)).clip = none := by rw [← hu]; exact hclip
    have hframe : AskFrame s u := by rw [← hu]; exact ⟨rfl, RegsIn.congr (RegsIn.refl _ s)⟩
    have honly := State.holdAsk_only hclip'
    rw [OnlyRegs] at honly
    exact hframe.trans ⟨honly.trans (by rw [honly]), State.holdAsk_regs hclip'⟩
  · exact ⟨rfl, RegsIn.congr (RegsIn.refl _ s)⟩

/-- A block that is asked keeps its phase. -/
theorem State.blkOf_resetAskBlk_self : (s.resetAskBlk b).blkOf b =
    { s.blkOf b with
      restartDue := false
      holdReset := if (s.blkOf b).phase = .running ∨ (s.blkOf b).phase = .held then true else (s.blkOf b).holdReset } := by
  unfold State.resetAskBlk
  dsimp only
  rw [State.blkOf_setBlk_self]
  by_cases h : (s.blkOf b).phase = .running ∨ (s.blkOf b).phase = .held
  · rw [if_pos (by simpa using h), if_pos h]
    have honly : OnlyRegs ((s.setBlk b { s.blkOf b with restartDue := false }).setBlk b { s.blkOf b with restartDue := false, holdReset := true })
        (((s.setBlk b { s.blkOf b with restartDue := false }).setBlk b { s.blkOf b with restartDue := false, holdReset := true }).holdAsk b) :=
      State.holdAsk_only hclip
    exact (honly.field (fun u => u.blkOf b)).trans (State.blkOf_setBlk_self ..)
  · rw [if_neg (by simpa using h), if_neg h, State.blkOf_setBlk_self]

theorem State.blkOf_resetAskBlk_ne {c : Nat} (hc : c ≠ b) : (s.resetAskBlk b).blkOf c = s.blkOf c := by
  unfold State.resetAskBlk
  dsimp only
  split
  · generalize hk : ({ (s.setBlk b { s.blkOf b with restartDue := false }).blkOf b with holdReset := true } : Blk) = k
    have honly : OnlyRegs ((s.setBlk b { s.blkOf b with restartDue := false }).setBlk b k) (((s.setBlk b { s.blkOf b with restartDue := false }).setBlk b k).holdAsk b) :=
      State.holdAsk_only hclip
    rw [honly.field (fun u => u.blkOf c), State.blkOf_setBlk_ne _ _ hc, State.blkOf_setBlk_ne _ _ hc]
  · exact State.blkOf_setBlk_ne _ _ hc

end

/-- What asking has left of a block: no pending restart, the same phase, and a boundary to stop at if it runs or is held. -/
def Asked (s t : State) (b : Nat) : Prop :=
  (t.blkOf b).restartDue = false ∧ (t.blkOf b).phase = (s.blkOf b).phase ∧ ((s.blkOf b).phase = .running ∨ (s.blkOf b).phase = .held → (t.blkOf b).holdReset = true)

/-- All the blocks asked in turn. -/
theorem resetAsk_all {s : State} : ∀ (bs : List Nat) (t : State), AskFrame s t → (∀ b, (t.blkOf b).phase = (s.blkOf b).phase) →
    (∀ b, b ∈ bs → bidType b = 0x0C → (s.recOf (bidUnit b)).clip = none) →
    AskFrame s (bs.foldl (fun u b => u.resetAskBlk b) t) ∧ ∀ b, b ∈ bs ∨ Asked s t b → Asked s (bs.foldl (fun u b => u.resetAskBlk b) t) b
  | [], _, hframe, _, _ => ⟨hframe, fun _ h => h.resolve_left List.not_mem_nil⟩
  | c :: bs, t, hframe, hphase, hclip => by
    have hclipc : bidType c = 0x0C → (t.recOf (bidUnit c)).clip = none := fun hty => by
      rw [hframe.field (fun u => (u.recOf (bidUnit c)).clip)]
      exact hclip c (List.mem_cons_self ..) hty
    have hself := State.blkOf_resetAskBlk_self hclipc
    have hne {b : Nat} (hb : b ≠ c) := State.blkOf_resetAskBlk_ne hclipc hb
    have hphase' : ∀ b, ((t.resetAskBlk c).blkOf b).phase = (s.blkOf b).phase := fun b => by
      by_cases hb : b = c
      · rw [hb, hself]; exact hphase c
      · rw [hne hb]; exact hphase b
    obtain ⟨hall, hasked⟩ := resetAsk_all bs (t.resetAskBlk c) (hframe.trans (State.resetAskBlk_frame hclipc)) hphase'
      fun b hb => hclip b (List.mem_cons_of_mem _ hb)
    refine ⟨hall, fun b hb => hasked b ?_⟩
    by_cases hbc : b = c
    · refine .inr ⟨?_, hphase' b, fun hrun => ?_⟩
      · rw [hbc, hself]
      · rw [hbc, hself]
        exact if_pos (by rw [hphase c, ← hbc]; exact hrun)
    · refine hb.imp (fun hmem => (List.mem_cons.1 hmem).resolve_left hbc) fun h => ?_
      rw [Asked, hne hbc]; exact h

/-- The unit of a block is one of its type's. -/
theorem allBlocks_unit {b : Nat} (h : b ∈ allBlocks) : bidUnit b < bidCount (bidType b) := by
  obtain ⟨t, ht, hb⟩ := List.mem_flatMap.1 h
  obtain ⟨i, hi, rfl⟩ := List.mem_map.1 hb
  have hlt : t < 256 := by simp only [List.mem_cons, List.not_mem_nil, or_false] at ht; omega
  have hcount : bidCount t ≤ 40 := by unfold bidCount; split <;> decide
  have hi := List.mem_range.1 hi
  have htype : bidType (t * 256 + i) = t := by simp only [bidType]; omega
  have hunit : bidUnit (t * 256 + i) = i := by simp only [bidUnit]; omega
  rw [htype, hunit]; exact hi

/-- The recording channels among the blocks are 0 to 7. -/
theorem recUnit_lt {b : Nat} (h : b ∈ allBlocks) (htype : bidType b = 0x0C) : bidUnit b < 8 := by
  have hunit := allBlocks_unit h
  rwa [htype] at hunit

theorem regionBlocks_sub {r b : Nat} (h : b ∈ regionBlocks r) : b ∈ allBlocks := (List.mem_filter.1 h).1

/-! ### A region reset begins -/

/-- A fold whose steps leave every state but at one element is that step. -/
theorem foldl_only {α β : Type} {f : β → α → β} {a : α} : ∀ {l : List α} {b : β}, a ∈ l → l.Nodup → (∀ x ∈ l, x ≠ a → ∀ b, f b x = b) → l.foldl f b = f b a
  | x :: l, b, hmem, hnodup, h => by
    obtain ⟨hx, hl⟩ := List.nodup_cons.1 hnodup
    rw [List.foldl_cons]
    by_cases hxa : x = a
    · rw [hxa, foldl_fixed_mem fun y hy => h y (List.mem_cons_of_mem _ hy) (fun hya => hx (by rw [hxa, ← hya]; exact hy)) _]
    · rw [h x (List.mem_cons_self ..) hxa]
      exact foldl_only ((List.mem_cons.1 hmem).resolve_left (Ne.symm hxa)) hl fun y hy => h y (List.mem_cons_of_mem _ hy)

theorem bitOf_two_pow {n r q : Nat} (hn : n = 2 ^ r) (hr : r < 5) (hq : q < 5) : bitOf (w32 n) q = decide (q = r) := by
  rw [hn]
  interval_cases r <;> interval_cases q <;> rfl

theorem regionWrite_one {s : State} {regions : BitVec 5} {r : Nat} (down : Bool) (hr : r < 5) (hregions : regions.toNat = 2 ^ r) :
    s.regionWrite (w32 regions.toNat) down = if s.regionBusy r then s else s.resetAsk (.region r down) := by
  rw [State.regionWrite, foldl_only (List.mem_range.2 hr) List.nodup_range fun q hq hqr u => if_neg ?_]
  · rw [bitOf_two_pow hregions hr hr]
    cases s.regionBusy r <;> simp
  · rw [bitOf_two_pow hregions hr (List.mem_range.1 hq)]
    simp [hqr]

theorem exec_regionCommand {s : State} {regions : BitVec 5} {r : Nat} (down : Bool) (hreach : Reach s BOH_REGION_RESET) (hr : r < 5) (hregions : regions.toNat = 2 ^ r) :
    exec (if down then .regionDown regions else .regionReset regions) s =
      .next (s.settle (if s.regionBusy r then s else s.resetAsk (.region r down))) := by
  obtain ⟨hup, hacc⟩ := hreach
  have hdo := State.hostDo_reach s BOH_REGION_RESET true (fun s => s.regionWrite (w32 regions.toNat) down) hup hacc
  rw [← regionWrite_one down hr hregions]
  cases down <;> exact congrArg (fun u => Host.Outcome.next (s.settle u)) hdo

theorem regionFld_hi {r : Nat} (h : r < 5) : (regionFld r).hi < 32 := by simp only [regionFld]; omega

theorem State.region_setRegion (s : State) {r v : Nat} (hr : r < 5) (hv : v < 16) : (s.setRegion r v).region r = v := by
  refine (State.fld_setFld_self s BOH_REGION_STATE (regionFld r) v (regionFld_hi hr)).trans (Nat.mod_eq_of_lt ?_)
  rw [show (regionFld r).hi + 1 - (regionFld r).lo = 4 by simp only [regionFld]; omega]
  exact hv

theorem State.showResets_only (s : State) : OnlyRegs s s.showResets := (OnlyRegs.refl s).wr BOH_REGION_RESET _
theorem State.showResets_regs (s : State) : RegsBut s s.showResets [BOH_REGION_RESET.off] := (RegsBut.refl s _).wr BOH_REGION_RESET _

/-- The state in which a region reset has been noted and shown, before its blocks are asked. -/
def State.resetShown (s : State) (r : Nat) (down : Bool) : State :=
  (({ s with boot := { s.boot with resets := s.boot.resets ++ [.region r down] } } : State).setRegion r 1).showResets

theorem State.resetBegin_region {s : State} {r : Nat} (down : Bool) (h4 : s.region r ≠ 4) :
    s.resetBegin (.region r down) = (regionBlocks r).foldl (fun u b => u.resetAskBlk b) (s.resetShown r down) := by
  have hpaddle : ¬ ({ s with boot := { s.boot with resets := s.boot.resets ++ [.region r down] } } : State).region r = 4 := h4
  rw [State.resetBegin]
  simp only [hpaddle, if_false]
  rfl

theorem regionReset_begins {s : State} {r : Nat} (down : Bool) (hr : r < 5) (h4 : s.region r ≠ 4) (hclip : ∀ u, u < 8 → (s.recOf u).clip = none) :
    let t := s.resetBegin (.region r down)
    t.boot.resets = s.boot.resets ++ [.region r down] ∧ t.region r = 1 ∧
      (∀ b, b ∈ regionBlocks r → (s.blkOf b).phase = .running ∨ (s.blkOf b).phase = .held → (t.blkOf b).holdReset = true) ∧
      (∀ b, b ∈ regionBlocks r → (t.blkOf b).restartDue = false ∧ (t.blkOf b).phase = (s.blkOf b).phase) ∧ SameMem s t := by
  intro t
  have ht : t = (regionBlocks r).foldl (fun u b => u.resetAskBlk b) (s.resetShown r down) := State.resetBegin_region down h4
  obtain ⟨hframe, hasked⟩ := resetAsk_all (s := s.resetShown r down) (regionBlocks r) _ (AskFrame.refl _) (fun _ => rfl)
    fun b hb hty => hclip (bidUnit b) (recUnit_lt (regionBlocks_sub hb) hty)
  rw [← ht] at hframe hasked
  have hregion : (s.resetShown r down).region r = 1 := by
    rw [State.resetShown, State.region, State.fld, (State.showResets_regs _).rd (by decide)]
    exact State.region_setRegion _ hr (by decide)
  refine ⟨hframe.field (fun u => u.boot.resets), ?_, fun b hb hrun => ?_, fun b hb => ?_, fun a => hframe.field (fun u => u.mem a)⟩
  · rw [State.region, State.fld, hframe.2.rd (by simp [CoachOff, BOH_REGION_STATE])]
    exact hregion
  · obtain ⟨_, _, hhold⟩ := hasked b (.inl hb)
    exact hhold hrun
  · obtain ⟨hdue, hphase, _⟩ := hasked b (.inl hb)
    exact ⟨hdue, hphase⟩

theorem regionResetBegins : Claims.RegionResetBegins := by
  intro regions r down s c hreach hr hregions
  have hrun := exec_regionCommand down hreach hr hregions
  refine ⟨fun hbusy hrig h4 hclip => ?_, fun hbusy hrig => ?_, fun hbusy => ?_⟩
  · have hask : s.resetAsk (.region r down) = s.resetBegin (.region r down) := if_neg (by omega)
    refine Runs.next (hrun.trans (by rw [hbusy, if_neg Bool.false_ne_true, hask])) ?_
    exact regionReset_begins down hr h4 hclip
  · generalize hu : ({ s with boot := { s.boot with waitingResets := s.boot.waitingResets ++ [.region r down] } } : State) = u
    have hask : s.resetAsk (.region r down) = u.showResets := (if_pos hrig).trans (by rw [← hu])
    have honly := State.showResets_only u
    have hregs := State.showResets_regs u
    have hocc : u.showResets.occ = s.occ := honly.occ.trans (by rw [← hu])
    have hboot : u.showResets.boot = u.boot := honly.field State.boot
    have hblk : u.showResets.blk = u.blk := honly.field State.blk
    refine Runs.next (hrun.trans (by rw [hbusy, if_neg Bool.false_ne_true, hask, State.settle_same hocc])) ⟨by rw [hboot, ← hu], by rw [hblk, ← hu], ?_, ?_⟩
    · rw [← hu] at hregs ⊢; exact hregs
    · rw [hboot]
      rw [OnlyRegs] at honly
      exact honly.trans (by rw [← hu])
  · rw [hrun, hbusy, if_pos rfl, State.settle_same rfl]

/-! ### The region boundary -/

/-- One block taken down at the region's boundary. -/
def State.downBlk (s : State) (b : Nat) : State :=
  (s.blkStop b 1).setBlk b { phase := .down, code := ((s.blkStop b 1).blkOf b).code }

/-- Blocks that have stopped are all taken down, and nothing else changes. -/
theorem downBlk_all : ∀ (bs : List Nat) (s : State), (∀ b, b ∈ bs → (s.blkOf b).phase = .stopped ∨ (s.blkOf b).phase = .down) →
    let t := bs.foldl (fun u b => u.downBlk b) s
    t = { s with blk := t.blk } ∧ ∀ b, b ∈ bs ∨ (s.blkOf b).phase = .down → (t.blkOf b).phase = .down
  | [], _, _ => ⟨rfl, fun _ h => h.resolve_left List.not_mem_nil⟩
  | c :: bs, s, hstop => by
    have hc : s.downBlk c = s.setBlk c { phase := .down, code := (s.blkOf c).code } := by
      rw [State.downBlk, State.blkStop_inactive 1 (hstop c (List.mem_cons_self ..))]
    have hphase : ∀ b, ((s.downBlk c).blkOf b).phase = if b = c then .down else (s.blkOf b).phase := fun b => by
      rw [hc]
      split
      next hb => rw [hb, State.blkOf_setBlk_self]
      next hb => rw [State.blkOf_setBlk_ne _ _ hb]
    obtain ⟨hframe, hdown⟩ := downBlk_all bs (s.downBlk c) fun b hb => by
      rw [hphase b]
      split
      · exact .inr rfl
      · exact hstop b (List.mem_cons_of_mem _ hb)
    rw [List.foldl_cons]
    refine ⟨hframe.trans (by rw [hc]; rfl), fun b hb => hdown b ?_⟩
    rw [hphase b]
    by_cases hbc : b = c
    · exact .inr (if_pos hbc)
    · rw [if_neg hbc]
      exact hb.imp_left fun hmem => (List.mem_cons.1 hmem).resolve_left hbc

theorem regionDownEndsAtBoundary : Claims.RegionDownEndsAtBoundary := by
  intro r s hstop hjob hwait
  generalize hu : s.setRegion r 0 = u
  have huonly : OnlyRegs s u := hu ▸ (OnlyRegs.refl s).setFld BOH_REGION_STATE _ _
  have huregs : RegsBut s u [BOH_REGION_STATE.off] := hu ▸ (RegsBut.refl s _).setFld BOH_REGION_STATE _ _
  have hur : u.region r = 0 := hu ▸ State.region_setRegion s r.isLt (by decide)
  obtain ⟨hvframe, hvdown⟩ := downBlk_all (regionBlocks r) u fun b hb => by rw [huonly.field (fun w => w.blkOf b)]; exact hstop b hb
  generalize hv : (regionBlocks r).foldl (fun u b => u.downBlk b) u = v at hvframe hvdown
  generalize hw : ({ v.raise 36 0x0E00 [w32 r] with boot := { v.boot with resets := v.boot.resets.erase (.region r true) } } : State) = w
  have hends : s.regionDone r true = w.showResets := by
    have hdone : s.regionDone r true = (v.raise 36 0x0E00 [w32 r]).jobEnds (.region r true) := by rw [← hv, ← hu]; rfl
    have hwaits : w.showResets.rig.waiting = false := by rw [(State.showResets_only w).field State.rig, ← hw, State.raise_rig, hvframe, huonly.field State.rig]; exact hwait
    rw [hdone, State.jobEnds]
    rw [show ({ v.raise 36 0x0E00 [w32 r] with boot := { (v.raise 36 0x0E00 [w32 r]).boot with
      resets := (v.raise 36 0x0E00 [w32 r]).boot.resets.erase (.region r true) } } : State) = w from hw]
    exact if_neg (by simp [hwaits])
  have hvregs : RegsBut s v [BOH_REGION_STATE.off] := huregs.congr (by rw [hvframe])
  have hraised : Raised s w.showResets 36 0x0E00 (w32 r.val) := by
    refine (Raised.later (t := v.raise 36 0x0E00 [w32 r]) (u := w.showResets) (os := [BOH_REGION_RESET.off])
      ((Raised.of_raise v 36 0x0E00 [w32 r]).earlier ?_ hvregs) ?_ ?_)
    · rw [hvframe]; exact huonly.occ
    · rw [(State.showResets_only w).occ, ← hw]
    · exact RegsBut.trans (RegsBut.congr (RegsBut.refl _ _) (by rw [← hw])) (State.showResets_regs w)
  obtain ⟨o, hocc, -⟩ := hraised.1
  have hheld : s.regionHeld r = true := by
    refine List.all_eq_true.2 fun b hb => ?_
    rw [State.running]
    rcases hstop b hb with h | h <;> rw [h] <;> rfl
  have hrun : exec (.regionBoundaryReached r) s = .next w.showResets := by
    change execRegionBoundaryReached r s = _
    rw [execRegionBoundaryReached, if_neg (by simp [hheld]), if_pos hjob, hends, State.settle_one hocc]
  have hshow := State.showResets_only w
  have hwregs : RegsBut s w (BOH_REGION_STATE.off :: BOH_REGION_RESET.off :: evRegs 36) :=
    ((hvregs.mono (by simp)).raise 36 0x0E00 [w32 r] (by decide)).congr (by rw [← hw])
  have hregion : w.showResets.region r = 0 := by
    have hrd : w.showResets.rd BOH_REGION_STATE = u.rd BOH_REGION_STATE := by
      rw [(State.showResets_regs w).rd (by decide), ← hw]
      refine (State.rd_raise v 36 0x0E00 [w32 r] (by decide) (by decide)).trans ?_
      rw [hvframe]; rfl
    rw [State.region, State.fld, hrd]; exact hur
  refine Runs.next hrun ⟨hregion, fun b hb => ?_, ?_, hraised, hwregs.trans ((State.showResets_regs w).mono (by simp)), ?_⟩
  · rw [hshow.field (fun x => x.blkOf b), ← hw]
    exact hvdown b (.inl hb)
  · rw [hshow.field State.boot, ← hw, hvframe, huonly.field State.boot]
  · have hboot : w.showResets.boot = w.boot := hshow.field State.boot
    have hblk : w.showResets.blk = w.blk := hshow.field State.blk
    rw [hboot, hblk, hshow.occ]
    rw [OnlyRegs] at hshow huonly
    refine hshow.trans ?_
    rw [← hw, State.raise_eq, hvframe, huonly]
    rfl

/-! ### Timeouts and block resets -/

theorem resetTimeoutStops : Claims.ResetTimeoutStops := by
  refine fun s => ⟨fun r hjob => congrArg Host.Outcome.next (if_pos (by simpa using hjob)), fun bid hjob hrun => ?_⟩
  have hphase : (s.blkOf bid.toNat).phase = .running := by simpa [State.running] using hrun
  have hblk := State.blkOf_blkStop (s := s) 1 (.inl hphase)
  refine Runs.next (congrArg Host.Outcome.next (if_pos (by rw [hjob, hrun]; rfl))) ?_
  have hsettle : (s.settle (s.blkStop bid.toNat 1)).blkOf bid.toNat = (s.blkStop bid.toNat 1).blkOf bid.toNat := rfl
  rw [hsettle, hblk]
  exact ⟨rfl, rfl⟩

theorem blockResetAsksAtBoundary : Claims.BlockResetAsksAtBoundary := by
  intro bid s b ⟨hup, hacc⟩
  have hrun : exec (.blockReset bid) s = .next (s.settle (s.blockWrite b)) :=
    congrArg (fun u => Host.Outcome.next (s.settle u)) (State.hostDo_reach s BOH_BLOCK_RESET true (fun s => s.blockWrite bid.toNat) hup hacc)
  refine ⟨fun hvalid hchip h0 h1 h0C h0F hregion hno hnow hrig hrunning => ?_, fun hno => ?_⟩
  · have hphase : (s.blkOf b).phase = .running := by simpa [State.running] using hrunning
    generalize hu : ({ s with boot := { s.boot with resets := s.boot.resets ++ [ResetJob.block b] } } : State) = u
    have hblk : u.blkOf b = s.blkOf b := by rw [← hu]; rfl
    have hwrite : s.blockWrite b = u.setBlk b { s.blkOf b with holdReset := true } := by
      have hnone : (s.boot.resets ++ s.boot.waitingResets).contains (ResetJob.block b) = false := by
        rw [← Bool.not_eq_true, List.contains_iff_mem, List.mem_append]; exact fun h => h.elim hno hnow
      have hbegin : s.resetBegin (.block b) = u.setBlk b { s.blkOf b with holdReset := true } := by
        have hask : s.resetBegin (.block b) = if (u.blkOf b).phase = .running || (u.blkOf b).phase = .held then
            (u.setBlk b { u.blkOf b with holdReset := true }).holdAsk b else u := by rw [← hu]; rfl
        rw [hask, if_pos (by simp [hblk, hphase]), State.holdAsk_other h0C h0F, hblk]
      rw [State.blockWrite, if_neg (by simp [hvalid, hchip, h0, h1, hregion]), if_neg (by rw [hnone]; exact Bool.false_ne_true), State.resetAsk, if_neg (by omega), hbegin]
    rw [hrun, hwrite, State.settle_same (s := s) (t := u.setBlk b { s.blkOf b with holdReset := true }) (by rw [← hu]; rfl)]
  · rw [hrun, State.blockWrite, if_pos (by rcases hno with h | h | h | h | h <;> simp [h]), State.settle_same rfl]

theorem boundaryHoldsForReset : Claims.BoundaryHoldsForReset := by
  intro bid s b hsafe hat hjob hphase hrig
  have hbound : s.boundary b = if (s.blkOf b).holdReset then s.setBlk b { s.blkOf b with phase := .held } else s := by
    rw [State.boundary]
    simp [hsafe, hat, hjob, hphase, hrig]
  have hrun : exec (.blockBoundaryReached bid) s = .next (s.settle (s.boundary b)) := rfl
  refine ⟨fun hhold => ?_, fun hhold => ?_⟩
  · rw [hrun, hbound, if_pos hhold, State.settle_same (s := s) (t := s.setBlk b { s.blkOf b with phase := .held }) rfl]
  · rw [hrun, hbound, if_neg (by simp [hhold]), State.settle_same rfl]

/-- Settles O9: a reset asks every block of its region, its boundary takes them down, and a block reset asks its block. -/
theorem regionAndBlockResets : Obligations.RegionAndBlockResets :=
  ⟨regionResetBegins, regionDownEndsAtBoundary, resetTimeoutStops, blockResetAsksAtBoundary, boundaryHoldsForReset⟩

end Sys2Proof.Machine
end

section
/-! PROOFS. Stops of streams, isolation of regions, uncorrectable and corrected errors, and the repair of a seat (R16, R21, R22, R34, R66, R67, R424, R425,
R501 to R503). -/

-- One proof at a time: the text is compiled as one file in bounded memory.
set_option Elab.async false

namespace Sys2Proof.Machine
open Sys2Proof.Claims

/-! ### Dependent streams (R34) -/

theorem State.markDown_none {s : State} {b : Nat} (code : Nat) (h : s.downstream b = []) : s.markDown b code = s := by rw [State.markDown, h]; rfl

/-- A block on which nothing depends fails by stopping. -/
theorem State.blkFail_alone {s : State} {b : Nat} (code : Nat) (hdown : s.downstream b = []) : s.blkFail b code = s.blkStop b code := by
  by_cases h : (s.blkOf b).phase = .stopped ∨ (s.blkOf b).phase = .down
  · rw [State.blkStop_inactive code h]
    exact if_pos (by rcases h with h | h <;> simp [h])
  · have hno : ¬ ((s.blkOf b).phase = .down || (s.blkOf b).phase = .stopped) = true := by simpa [or_comm] using h
    rw [State.blkFail, if_neg hno, State.markDown_none code hdown, ite_self]

theorem State.blkFail_inactive {s : State} {b : Nat} (code : Nat) (h : (s.blkOf b).phase = .stopped ∨ (s.blkOf b).phase = .down) : s.blkFail b code = s :=
  if_pos (by rcases h with h | h <;> simp [h])

theorem dependentStreamStops : Claims.DependentStreamStops := by
  intro k s n
  have hrun : exec (.streamBoundaryStop k) s = .next (if (s.blkOf n).upstream = 0 then s
      else if n < 65536 then (if (bidType n == 0x0C && (s.recOf (bidUnit n)).clip.isSome) then s else s.settle (s.blkFail n (s.blkOf n).upstream))
      else s.settle ((s.setBlk n { phase := .stopped, code := (s.blkOf n).upstream }).streamStop n (s.blkOf n).upstream)) := rfl
  refine ⟨fun hzero => by rw [hrun, if_pos hzero], fun hlt hup htype hclip => ?_, fun hlt hup htype hdown hphase => ?_⟩
  · rw [hrun, if_neg hup, if_pos hlt, if_pos (by simp [htype, hclip])]
  · have hne : (s.blkOf n).upstream ≠ 0 := by omega
    refine Runs.next (t := s.settle (s.blkStop n (s.blkOf n).upstream)) ?_ ?_
    · rw [hrun, if_neg hne, if_pos hlt, if_neg (by simp [htype]), State.blkFail_alone _ hdown]
    · have hsettle : (s.settle (s.blkStop n (s.blkOf n).upstream)).blkOf n = (s.blkStop n (s.blkOf n).upstream).blkOf n := rfl
      rw [hsettle, State.blkOf_blkStop _ hphase]
      exact ⟨rfl, rfl, rfl⟩

/-! ### Regions that are isolated (R21, R502) -/

/-- Outside a hold the hold's count alone follows. -/
theorem State.holdCheck_idle {s : State} (h : s.rigState < 3) : s.holdCheck = s.setHeld (s.rig.listed.length - s.unheld.length) := by
  have hstate : (s.setHeld (s.rig.listed.length - s.unheld.length)).rigState = s.rigState := State.fld_setFld_ne s RIG_STATUS _
  rw [State.holdCheck]
  exact if_pos (by simp only [Bool.or_eq_true, decide_eq_true_eq, hstate]; right; omega)

/-- The pending restart of a block cancelled. -/
def State.cancelRestart (s : State) (b : Nat) : State := s.setBlk b { s.blkOf b with restartDue := false }

theorem cancelRestart_all : ∀ (bs : List Nat) (s : State),
    let t := bs.foldl (fun u b => u.cancelRestart b) s
    t = { s with blk := t.blk } ∧ ∀ b, (t.blkOf b).phase = (s.blkOf b).phase ∧ (b ∈ bs ∨ (s.blkOf b).restartDue = false → (t.blkOf b).restartDue = false)
  | [], _ => ⟨rfl, fun _ => ⟨rfl, fun h => h.resolve_left List.not_mem_nil⟩⟩
  | c :: bs, s => by
    obtain ⟨hframe, hblk⟩ := cancelRestart_all bs (s.cancelRestart c)
    have hself : (s.cancelRestart c).blkOf c = { s.blkOf c with restartDue := false } := State.blkOf_setBlk_self ..
    have hne {b : Nat} (hb : b ≠ c) : (s.cancelRestart c).blkOf b = s.blkOf b := State.blkOf_setBlk_ne _ _ hb
    refine ⟨hframe.trans rfl, fun b => ?_⟩
    obtain ⟨hphase, hdue⟩ := hblk b
    by_cases hbc : b = c
    · refine ⟨hphase.trans (by rw [hbc, hself]), fun _ => hdue (.inr (by rw [hbc, hself]))⟩
    · exact ⟨hphase.trans (by rw [hne hbc]), fun h => hdue (h.imp (fun hmem => (List.mem_cons.1 hmem).resolve_left hbc) fun h => by rw [hne hbc]; exact h)⟩

/-- Blocks that have stopped fail no further. -/
theorem isolateFold : ∀ (bs : List Nat) (s : State), (∀ b, b ∈ bs → (s.blkOf b).phase = .stopped ∨ (s.blkOf b).phase = .down) →
    bs.foldl (fun u b => (u.blkFail b 4).setBlk b { (u.blkFail b 4).blkOf b with restartDue := false }) s = bs.foldl (fun u b => u.cancelRestart b) s
  | [], _, _ => rfl
  | c :: bs, s, h => by
    rw [List.foldl_cons, List.foldl_cons, State.blkFail_inactive 4 (h c (List.mem_cons_self ..))]
    refine isolateFold bs (s.cancelRestart c) fun b hb => ?_
    have hphase : ((s.cancelRestart c).blkOf b).phase = (s.blkOf b).phase := ((cancelRestart_all [c] s).2 b).1
    rw [hphase]
    exact h b (List.mem_cons_of_mem _ hb)

theorem State.regionIsolate_stays {s : State} {r : Nat} (cause : Nat) (h : s.region r = 0 ∨ s.region r = 3) : s.regionIsolate r cause = s :=
  if_pos (by rcases h with h | h <;> simp [h])

theorem State.regionIsolate_shows {s : State} {r : Nat} (hr : r < 5) (cause : Nat) (hsafe : s.safe = false) (hreg : s.region r = 1 ∨ s.region r = 2) (hrig : s.rigState < 3)
    (hstop : ∀ b, b ∈ regionBlocks r → (s.blkOf b).phase = .stopped ∨ (s.blkOf b).phase = .down) :
    let t := s.regionIsolate r cause
    t.region r = 3 ∧ (∀ b, b ∈ regionBlocks r → (t.blkOf b).restartDue = false ∧ (t.blkOf b).phase = (s.blkOf b).phase) ∧
      Raised s t 968 0x0E05 (w32 r) ∧ RegsBut s t (BOH_REGION_STATE.off :: RIG_STATUS.off :: evRegs 968) ∧ t = { s with regs := t.regs, blk := t.blk, occ := t.occ } := by
  intro t
  obtain ⟨hframe, hblk⟩ := cancelRestart_all (regionBlocks r) s
  generalize hu : (regionBlocks r).foldl (fun u b => u.cancelRestart b) s = u at hframe hblk
  generalize hv : (u.setRegion r 3).raise 968 0x0E05 [w32 r, Config.isoCause cause] = v
  have hset : RegsBut s (u.setRegion r 3) [BOH_REGION_STATE.off] :=
    (RegsBut.congr (RegsBut.refl s _) (by rw [hframe])).setFld BOH_REGION_STATE _ _
  have hregs : RegsBut s v (BOH_REGION_STATE.off :: evRegs 968) := hv ▸ (hset.mono (by simp)).raise 968 0x0E05 _
  have hvrig : v.rigState = s.rigState := by rw [State.rigState, State.fld, hregs.rd (by decide)]; rfl
  have ht : t = v.setHeld (v.rig.listed.length - v.unheld.length) := by
    rw [← State.holdCheck_idle (by omega : v.rigState < 3), ← hv, ← hu]
    have h4 : ¬ s.region r = 4 := by omega
    have hno : ¬ (s.safe || s.region r = 0 || s.region r = 3) = true := by
      rcases hreg with h | h <;> simp [hsafe, h]
    change s.regionIsolate r cause = _
    rw [State.regionIsolate, if_neg hno, ← isolateFold (regionBlocks r) s hstop]
    simp only [h4, if_false]
  have honly : OnlyRegs v t := ht ▸ (OnlyRegs.refl v).setFld RIG_STATUS _ _
  have hheld : RegsBut v t [RIG_STATUS.off] := ht ▸ (RegsBut.refl v _).setFld RIG_STATUS _ _
  have hvblk : v.blk = u.blk := by rw [← hv]; rfl
  refine ⟨?_, fun b hb => ?_, ?_, (hregs.mono (by simp)).trans (hheld.mono (by simp)), ?_⟩
  · rw [State.region, State.fld, hheld.rd (by decide), ← hv, State.rd_raise _ _ _ _ (by decide) (by decide)]
    exact State.region_setRegion u hr (by decide)
  · obtain ⟨hphase, hdue⟩ := hblk b
    have hsame : t.blkOf b = u.blkOf b := by rw [State.blkOf, honly.field State.blk, hvblk]; rfl
    rw [hsame]
    exact ⟨hdue (.inl hb), hphase⟩
  · have hraised : Raised s v 968 0x0E05 (w32 r) := hv ▸ (Raised.of_raise (u.setRegion r 3) 968 0x0E05 _).earlier (by rw [hframe]; rfl) hset
    exact hraised.later honly.occ hheld
  · have hblkt : t.blk = v.blk := honly.field State.blk
    rw [hblkt, honly.occ]
    rw [OnlyRegs] at honly
    refine honly.trans ?_
    rw [← hv, State.raise_eq, hframe]
    rfl

theorem marshalIsolatesItsRegion : Claims.MarshalIsolatesItsRegion := by
  intro r bid s hvalid hchip hregion
  have hcox : exec (.coxAnswerTimeout bid) s = .next (s.settle (s.regionIsolate r 0)) := by
    rw [← hregion]; exact congrArg Host.Outcome.next (if_pos (by simp [hvalid, hchip]))
  have hport : exec (.coursePortError r) s = .next (s.settle (s.regionIsolate r 1)) := rfl
  refine ⟨fun hsafe hreg hrig hstop c hc => ?_, fun hreg => ?_⟩
  · have hcause : ∃ cause, exec c s = .next (s.settle (s.regionIsolate r cause)) := by
      rcases hc with rfl | rfl
      · exact ⟨0, hcox⟩
      · exact ⟨1, hport⟩
    obtain ⟨cause, hrun⟩ := hcause
    have hshows := State.regionIsolate_shows r.isLt cause hsafe hreg hrig hstop
    have hraised := hshows
    obtain ⟨_, _, ⟨⟨o, hocc, _⟩, _, _⟩, _, _⟩ := hraised
    rw [State.settle_one hocc] at hrun
    exact Runs.next hrun hshows
  · rw [hcox, hport, State.regionIsolate_stays 0 hreg, State.regionIsolate_stays 1 hreg, State.settle_same rfl]
    exact ⟨rfl, rfl⟩

/-! ### Chip-fatal (R22, R503) -/

/-- The Logbook's registers. -/
def LogOff (o : Nat) : Prop := 0x380000 ≤ o ∧ o < 0x380200

/-- What the Logbook's own work changes. -/
def LogFrame (s t : State) : Prop := t = { s with regs := t.regs, log := t.log } ∧ RegsIn LogOff s t

theorem LogFrame.refl (s : State) : LogFrame s s := ⟨rfl, RegsIn.refl _ s⟩

theorem LogFrame.trans {s t u : State} (h : LogFrame s t) (h' : LogFrame t u) : LogFrame s u := by
  obtain ⟨ht, hregs⟩ := h
  obtain ⟨hu, hregs'⟩ := h'
  exact ⟨by rw [hu, ht], hregs.trans hregs'⟩

theorem OnlyRegs.logFrame {s t : State} (h : OnlyRegs s t) (hregs : RegsIn LogOff s t) : LogFrame s t := by
  rw [OnlyRegs] at h
  exact ⟨h.trans (by rw [h]), hregs⟩

theorem LogFrame.setLog (s : State) (l : Log) : LogFrame s (s.setLog l) := ⟨rfl, RegsIn.congr (RegsIn.refl _ s)⟩

theorem State.logShow_frame (s : State) : LogFrame s s.logShow :=
  OnlyRegs.logFrame (State.logShow_only s) ((State.logShow_regs s).regsIn (by simp [logShown, LOG_STATUS, LOG_SEQ_LO, LogOff]))

theorem State.logRead_frame (s : State) : LogFrame s s.logRead := by
  refine OnlyRegs.logFrame (State.logRead_only s) ((State.logRead_regs s).regsIn fun o ho => ?_)
  obtain ⟨i, hi, rfl⟩ := List.mem_map.1 ho
  have hi := List.mem_range.1 hi
  simp only [LOG_RD_DATA, LogOff]
  omega

theorem State.logStage_frame (s : State) (b : List Byte) : LogFrame s (s.logStage b) := (LogFrame.setLog s _).trans (State.logRead_frame _)

theorem State.logFinish_frame (s : State) : LogFrame s s.logFinish := by
  unfold State.logFinish
  split
  · exact (State.logStage_frame s _).trans (LogFrame.setLog _ _)
  · exact LogFrame.refl s

theorem State.logFlush_frame (s : State) : LogFrame s s.logFlush := (LogFrame.setLog s _).trans (LogFrame.setLog _ _)

theorem State.logFatal_frame (s : State) (cause detector : Nat) (detail : List Word) : LogFrame s (s.logFatal cause detector detail) :=
  (((State.logFinish_frame s).trans (State.logStage_frame _ _)).trans (State.logFlush_frame _)).trans (State.logShow_frame _)

/-- The safe state is entered with its cause, and nothing is delivered any more. -/
theorem State.chipFatal_safe {s : State} (cause detector : Nat) (detail : List Word) (h : s.hlt.fatal = none) :
    let t := s.chipFatal cause detector detail
    t.safe = true ∧ t.hiZ = true ∧ t.hlt.fatal = some cause ∧ t.stk.due = [] := by
  intro t
  generalize hu : (allBlocks.foldl (fun s b => s.blkStop b 7) s).setBit HLT_STATUS HLT_STATUS_SAFE true = u
  generalize hv : ({ u with hiZ := true, hlt := { u.hlt with fatal := some cause }, stk := { u.stk with due := [], evMatch := [], gpio := [] } } : State) = v
  have ht : t = v.logFatal cause detector detail := by
    change s.chipFatal cause detector detail = _
    rw [State.chipFatal, if_neg (by simp [h])]
    dsimp only
    rw [hu, hv]
  obtain ⟨hframe, hregs⟩ := State.logFatal_frame v cause detector detail
  have hsafe : v.safe = true := by
    have husafe : u.safe = true := by rw [← hu]; exact State.bit_setBit_self _ _ _ _
    rw [← hv]; exact husafe
  rw [ht]
  refine ⟨?_, ?_, ?_, ?_⟩
  · rw [State.safe, State.bit, hregs.rd (by simp [LogOff, HLT_STATUS])]; exact hsafe
  · rw [hframe, ← hv]
  · rw [hframe, ← hv]
  · rw [hframe, ← hv]

/-! ### Faults of blocks (R501) -/

/-- The types of the blocks whose faults are stated: a colour pipe, a look path, a Coach. -/
def FaultType (b : Nat) : Prop := bidType b ∈ [0x04, 0x05, 0x0F]

/-- What depends on such a block is not read from the registers of an event below 1,000. -/
theorem State.downstream_raise {s : State} {b : Nat} (htype : FaultType b) (ev src : Nat) (items : List Word) (hev : ev < 1000) :
    (s.raise ev src items).downstream b = s.downstream b := by
  have hhigh : ∀ r : Reg, 0x304000 < r.off → (s.raise ev src items).rd r = s.rd r := fun r hr =>
    State.rd_raise _ _ _ _ (by simp only [EVT_R_CNT]; omega) (by simp only [EVT_R_LAST]; omega)
  have hdrv : ∀ p, (s.raise ev src items).rd (DRV_P_CFG p) = s.rd (DRV_P_CFG p) := fun p => hhigh _ (by simp only [DRV_P_CFG]; omega)
  have hlkp : ∀ n, (s.raise ev src items).rd (LKP_CFG n) = s.rd (LKP_CFG n) := fun n => hhigh _ (by simp only [LKP_CFG]; omega)
  have hcfg : ∀ c, (s.raise ev src items).rd (ENC_C_CFG c) = s.rd (ENC_C_CFG c) := fun c => hhigh _ (by simp only [ENC_C_CFG]; omega)
  have hcodec : ∀ c e, (s.raise ev src items).rd (ENC_S_CODEC c e) = s.rd (ENC_S_CODEC c e) := fun c e => hhigh _ (by simp only [ENC_S_CODEC]; omega)
  have hsrc : ∀ c e, (s.raise ev src items).rd (ENC_S_SRC c e) = s.rd (ENC_S_SRC c e) := fun c e => hhigh _ (by simp only [ENC_S_SRC]; omega)
  rcases List.mem_cons.1 htype with h | h
  · simp only [State.downstream, h, State.pipeHeads, State.pipeOf, State.paddleHead, State.lkpOn, State.lkpHead, State.bit, State.fld, hdrv, hlkp, State.raise_boot]
    rfl
  rcases List.mem_cons.1 h with h | h
  · simp only [State.downstream, h, State.livePath, State.paddleCmp, State.encReaders, State.encHas, State.encRing, State.bit, hcfg, hcodec, hsrc, State.raise_boot,
      State.raise_rig]
    rfl
  · simp only [State.downstream, List.mem_singleton.1 h]

/-- The registers that the stop of such a block can change. -/
def FaultOff (o : Nat) : Prop := (0x10024 ≤ o ∧ o < 0x20024) ∨ CoachOff o ∨ 0x2000000 ≤ o

/-- What the stop of such a block changes beside its record. -/
def FaultFrame (s t : State) : Prop := t = { s with regs := t.regs, drv := t.drv, lkp := t.lkp } ∧ RegsIn FaultOff s t

theorem FaultFrame.refl (s : State) : FaultFrame s s := ⟨rfl, RegsIn.refl _ s⟩

theorem FaultFrame.trans {s t u : State} (h : FaultFrame s t) (h' : FaultFrame t u) : FaultFrame s u := by
  obtain ⟨ht, hregs⟩ := h
  obtain ⟨hu, hregs'⟩ := h'
  exact ⟨by rw [hu, ht], hregs.trans hregs'⟩

theorem FaultFrame.wr (s : State) {r : Reg} (v : Word) (hr : FaultOff r.off) : FaultFrame s (s.wr r v) := ⟨rfl, (RegsIn.refl _ s).wr r v hr⟩

theorem FaultFrame.stopFld (s : State) {r : Reg} (f : Fld) (code : Nat) (hr : FaultOff r.off) : FaultFrame s (s.stopFld r f code) := by
  unfold State.stopFld
  split
  · exact FaultFrame.wr s _ hr
  · exact FaultFrame.refl s

theorem FaultFrame.setDrvs (s : State) : ∀ (hs : List Nat) (t : State), FaultFrame s t →
    FaultFrame s (hs.foldl (fun u h => u.setDrv h { u.drvOf h with open_ := false }) t)
  | [], _, h => h
  | h :: hs, t, ht => FaultFrame.setDrvs s hs _ (ht.trans ⟨rfl, RegsIn.congr (RegsIn.refl _ t)⟩)

theorem State.unitsStop_fault {s : State} {b : Nat} (htype : FaultType b) (code : Nat) : FaultFrame s (s.unitsStop b code) := by
  unfold State.unitsStop
  rcases List.mem_cons.1 htype with h | h
  · rw [h]
    exact FaultFrame.setDrvs s _ _ (FaultFrame.stopFld s _ code (.inr (.inr (by simp only [DRV_P_STATUS]; omega))))
  rcases List.mem_cons.1 h with h | h
  · rw [h]
    exact (FaultFrame.stopFld s _ code (.inr (.inr (by simp only [LKP_STATUS]; omega)))).trans ⟨rfl, RegsIn.congr (RegsIn.refl _ _)⟩
  · rw [List.mem_singleton.1 h]
    exact FaultFrame.wr s _ (.inr (.inl (coachOff _ (bidUnit_lt b))))

theorem State.strmsStop_fault (s : State) (b code : Nat) : FaultFrame s (s.strmsStop b code) := by
  have hstep : ∀ (rs : List Nat) (t : State), (∀ r ∈ rs, r < 1024) → FaultFrame s t →
      FaultFrame s (rs.foldl (fun u r => if u.rd (UMP_S_STOP r) = 0 then u.wr (UMP_S_STOP r) (w32 code) else u) t) := by
    intro rs
    induction rs with
    | nil => exact fun _ _ h => h
    | cons r rs ih =>
      intro t hrs ht
      refine ih _ (fun q hq => hrs q (List.mem_cons_of_mem _ hq)) ?_
      dsimp only
      split
      · have hr := hrs r (List.mem_cons_self ..)
        exact ht.trans (FaultFrame.wr t _ (.inl (by simp only [UMP_S_STOP]; omega)))
      · exact ht
  exact hstep _ s (fun r hr => List.mem_range.1 (List.mem_filter.1 hr).1) (FaultFrame.refl s)

/-- The restarts of a block that still count against its limit (R501). -/
def State.recentRestarts (s : State) (b : Nat) : List Nat :=
  (s.blkOf b).restarts.filter (fun x => decide (s.ticks < x + 1250000000 * max 1 (bitsOf (s.rd HLT_RESTART).toNat 23 16)))

section
variable {s : State} {b : Nat} (htype : FaultType b) (hdown : s.downstream b = []) (hrig : s.rigState < 3)
  (hphase : (s.blkOf b).phase = .running ∨ (s.blkOf b).phase = .held)
  (hlimit : (s.recentRestarts b).length < max 1 (bitsOf (s.rd HLT_RESTART).toNat 7 0))
include htype hdown hrig hphase hlimit

/-- A fault stops its block with 0x02, with event 966, and a restart at the boundary. -/
theorem State.blkFault_restarts :
    let t := s.blkFault b
    (t.blkOf b).phase = .stopped ∧ (t.blkOf b).code = 2 ∧ (t.blkOf b).restartDue = true ∧ Raised s t 966 0x0E05 (w32 b) ∧ SameMem s t := by
  intro t
  generalize hu : s.raise 966 0x0E05 [w32 b] = u
  have huphase : (u.blkOf b).phase = .running ∨ (u.blkOf b).phase = .held := by rw [← hu]; exact hphase
  have hfail : u.blkFail b 2 = u.blkStop b 2 := State.blkFail_alone 2 (by rw [← hu, State.downstream_raise htype 966 _ _ (by decide)]; exact hdown)
  have hblk := State.blkOf_blkStop 2 huphase
  obtain ⟨hframe, hregs⟩ := (State.unitsStop_fault (s := u) htype 2).trans (State.strmsStop_fault _ b 2)
  generalize hw : (u.unitsStop b 2).strmsStop b 2 = w at hframe hregs
  have hstop : u.blkStop b 2 = w.setBlk b { u.blkOf b with phase := .stopped, code := 2, upstream := 0 } := by rw [State.blkStop_active 2 huphase, hw]
  have hlim : (u.blkStop b 2).rd HLT_RESTART = s.rd HLT_RESTART := by
    have hrd : w.rd HLT_RESTART = u.rd HLT_RESTART := hregs.rd (by simp [FaultOff, CoachOff, HLT_RESTART])
    rw [hstop]
    refine hrd.trans ?_
    rw [← hu, State.rd_raise _ _ _ _ (by decide) (by decide)]
  have hticks : (u.blkStop b 2).ticks = s.ticks := by
    rw [hstop]
    change w.ticks = _
    rw [hframe, ← hu, State.raise_ticks]
  generalize hv : (u.blkStop b 2).setBlk b { (u.blkStop b 2).blkOf b with restarts := s.ticks :: s.recentRestarts b, restartDue := true } = v
  have hvrig : v.rigState = s.rigState := by
    have hrd : v.rd RIG_STATUS = w.rd RIG_STATUS := by rw [← hv, hstop]; rfl
    rw [State.rigState, State.fld, hrd, hregs.rd (by simp [FaultOff, CoachOff, RIG_STATUS]), ← hu, State.rd_raise _ _ _ _ (by decide) (by decide)]
    rfl
  have ht : t = v.setHeld (v.rig.listed.length - v.unheld.length) := by
    rw [← State.holdCheck_idle (by omega : v.rigState < 3), ← hv]
    have hno : ¬ ((s.blkOf b).phase = .down || (s.blkOf b).phase = .stopped) = true := by rcases hphase with h | h <;> simp [h]
    have hmul : ∀ n, ticksOfMs (1000 * n) = 1250000000 * n := fun n => by rw [ticksOfMs]; omega
    change s.blkFault b = _
    rw [State.blkFault, if_neg hno, hu, hfail]
    simp only [hlim, hticks, hmul]
    exact congrArg State.holdCheck (if_pos hlimit)
  have hheld : OnlyRegs v t := ht ▸ (OnlyRegs.refl v).setFld RIG_STATUS _ _
  have hheldRegs : RegsBut v t [RIG_STATUS.off] := ht ▸ (RegsBut.refl v _).setFld RIG_STATUS _ _
  have hself : t.blkOf b = { (u.blkStop b 2).blkOf b with restarts := s.ticks :: s.recentRestarts b, restartDue := true } := by
    rw [hheld.field (fun x => x.blkOf b), ← hv, State.blkOf_setBlk_self]
  rw [hblk] at hself
  have hraised : Raised s u 966 0x0E05 (w32 b) := hu ▸ Raised.of_raise s 966 0x0E05 [w32 b]
  have hvocc : v.occ = u.occ := by
    rw [← hv, hstop]
    change w.occ = _
    rw [hframe]
  have hvg7 : v.g7 = s.g7 := by
    rw [← hv, hstop]
    change w.g7 = _
    rw [hframe, ← hu, State.raise_g7]
  have hvrd : ∀ {r : Reg}, ¬ FaultOff r.off → r.off ≠ RIG_STATUS.off → t.rd r = u.rd r := fun {r} hr hne => by
    have hrd : v.rd r = w.rd r := by rw [← hv, hstop]; rfl
    rw [hheldRegs.rd (by simpa using hne), hrd, hregs.rd hr]
  refine ⟨by rw [hself], by rw [hself], by rw [hself], ?_, fun a => ?_⟩
  · obtain ⟨hocc, hcnt, hlast⟩ := hraised
    refine ⟨by rw [hheld.occ, hvocc]; exact hocc, ?_, ?_⟩
    · rw [hvrd (by simp [FaultOff, CoachOff, EVT_R_CNT]) (by decide)]; exact hcnt
    · rw [hvrd (by simp [FaultOff, CoachOff, EVT_R_LAST]) (by decide)]; exact hlast
  · rw [hheld.field (fun x => x.mem a), State.mem, State.mem, hvg7]

end

theorem State.blkFault_inactive {s : State} {b : Nat} (h : (s.blkOf b).phase = .stopped ∨ (s.blkOf b).phase = .down) : s.blkFault b = s :=
  if_pos (by rcases h with h | h <;> simp [h])

/-- A fault of a block that is no chip function, without a seat, and a control parity error of its cox are one fault. -/
theorem exec_blkFault {bid : BitVec 16} {s : State} {c : Instr} (hc : c = .cellUncorrectableError (FaultUnit.block bid) none ∨ c = .coxControlParityError bid)
    (hvalid : bidValid bid.toNat = true) (hchip : bidChip bid.toNat = false) : exec c s = .next (s.settle (s.blkFault bid.toNat)) := by
  rcases hc with rfl | rfl
  · exact congrArg Host.Outcome.next ((if_neg (by simp [hvalid])).trans (if_neg (by simp [hchip])))
  · exact congrArg Host.Outcome.next (if_pos (by simp [hvalid, hchip]))

theorem FaultType.not_chip {b : Nat} (h : FaultType b) : bidChip b = false := by
  have hne : bidType b ≠ 0x0E := fun heq => absurd (heq ▸ h : (0x0E : Nat) ∈ [0x04, 0x05, 0x0F]) (by decide)
  simp [bidChip, hne]

theorem uncorrectableErrorStopsTheBlock : Claims.UncorrectableErrorStopsTheBlock := by
  intro bid s b
  refine ⟨fun seat hvalid hchip hfatal => ?_, fun r seat hfatal => ?_, fun c hc hvalid htype hdown hrig hphase hlimit => ?_, fun c hc hvalid hchip hphase => ?_⟩
  · exact Runs.next (congrArg Host.Outcome.next ((if_neg (by rw [hvalid]; decide)).trans (if_pos hchip))) (State.chipFatal_safe 5 b [w32 b] hfatal)
  · exact Runs.next rfl (State.chipFatal_safe 7 0x0E00 [w32 r.val] hfatal)
  · have hstops := State.blkFault_restarts htype hdown hrig hphase hlimit
    have hraised := hstops
    obtain ⟨_, _, _, ⟨⟨o, hocc, _⟩, _, _⟩, _⟩ := hraised
    refine Runs.next ((exec_blkFault hc hvalid (FaultType.not_chip htype)).trans ?_) hstops
    rw [State.settle_one hocc]
  · rw [exec_blkFault hc hvalid hchip, State.blkFault_inactive hphase, State.settle_same rfl]

/-- Settles O10: a stop by the phase it finds, an isolation by its blocks, chip-fatal by what it sets, and a fault by the frame of its stop. -/
theorem faultsAreContained : Obligations.FaultsAreContained :=
  ⟨blockKeepsFirstStopReason, dependentStreamStops, marshalIsolatesItsRegion, uncorrectableErrorStopsTheBlock⟩

/-! ### Corrected errors of a seat (R424) -/

theorem seatCountsCorrectedErrors : Claims.SeatCountsCorrectedErrors := by
  intro e p s he
  have hbid : (BitVec.ofNat 16 (0x0100 + e)).toNat = 0x0100 + e := by rw [BitVec.toNat_ofNat]; omega
  have htype : bidType (0x0100 + e) = 0x01 := by simp only [bidType]; omega
  have hunit : bidUnit (0x0100 + e) = e := by simp only [bidUnit]; omega
  have hvalid : bidValid (0x0100 + e) = true := by rw [bidValid, htype, hunit]; simp [bidCount]; omega
  generalize hold : (tabGet s.eng.ceAt [] (9 * e + p)).filter (fun x => decide (s.ticks < x + 1250000000)) = old
  generalize hu : ({ s with eng := { s.eng with ceAt := tabSet s.eng.ceAt [] (9 * e + p) ((s.ticks :: old).take 16) } } : State).inc (EGT_SEAT_CE e p) = u
  have hcorr : s.seatCorrected e p = if ((s.ticks :: old).take 16).length = 16 && !bitOf (u.rd (EGT_SEAT_STATE e)) (16 + p) then
      (u.setFld (EGT_SEAT_STATE e) ⟨16 + p, 16 + p⟩ 1).raise 64 (0x0100 + e) [w32 e, w32 p] else u := by
    have hfilter : (s.ticks :: tabGet s.eng.ceAt [] (9 * e + p)).filter (fun t => decide (s.ticks < t + ticksOfMs 1000)) = s.ticks :: old := by
      rw [List.filter_cons_of_pos (by simp [ticksOfMs]), ← hold]; rfl
    rw [State.seatCorrected, hfilter, ← hu]
  have hne : (EGT_SEAT_STATE e).off ≠ (EGT_SEAT_CE e p).off := by simp only [EGT_SEAT_STATE, EGT_SEAT_CE]; omega
  have hstate : u.rd (EGT_SEAT_STATE e) = s.rd (EGT_SEAT_STATE e) := by
    rw [← hu, State.inc_eq, State.rd_wr_ne _ _ hne]; rfl
  have hce : u.rd (EGT_SEAT_CE e p) = satAdd (s.rd (EGT_SEAT_CE e p)) 1 := by
    rw [← hu, State.inc_eq, State.rd_wr_self]; rfl
  have hlen : (((s.ticks :: old).take 16).length = 16) = (15 ≤ old.length) := by
    rw [List.length_take, List.length_cons]
    exact propext ⟨fun h => by omega, fun h => by omega⟩
  have huregs : RegsBut s u [(EGT_SEAT_CE e p).off] := by
    rw [← hu]; exact RegsBut.inc (RegsBut.congr (RegsBut.refl s _)) (EGT_SEAT_CE e p) 1
  have huocc : u.occ = s.occ := by rw [← hu]; rfl
  have huframe : u = { s with regs := u.regs, eng := u.eng } := by rw [← hu]; rfl
  have hset : RegsBut s (u.setFld (EGT_SEAT_STATE e) ⟨16 + p, 16 + p⟩ 1) [(EGT_SEAT_CE e p).off, (EGT_SEAT_STATE e).off] :=
    (huregs.mono (by simp)).setFld (EGT_SEAT_STATE e) _ _
  generalize hx : (u.setFld (EGT_SEAT_STATE e) ⟨16 + p, 16 + p⟩ 1).raise 64 (0x0100 + e) [w32 e, w32 p] = x at hcorr
  have hcntne : (EVT_R_CNT 64).off ∉ [(EGT_SEAT_CE e p).off, (EGT_SEAT_STATE e).off] := by
    simp only [EVT_R_CNT, EGT_SEAT_CE, EGT_SEAT_STATE, List.mem_cons, List.not_mem_nil, or_false, not_or]; omega
  have hxraised : Raised s x 64 (0x0100 + e) (w32 e) := hx ▸ (Raised.of_raise _ 64 (0x0100 + e) [w32 e, w32 p]).earlier huocc hset hcntne
  have hxrd : ∀ {r : Reg}, r.off ≥ 0x8000000 → x.rd r = (u.setFld (EGT_SEAT_STATE e) ⟨16 + p, 16 + p⟩ 1).rd r := fun {r} hr => by
    rw [← hx, State.rd_raise _ _ _ _ (by simp only [EVT_R_CNT]; omega) (by simp only [EVT_R_LAST]; omega)]
  have hbit : bitOf (x.rd (EGT_SEAT_STATE e)) (16 + p) = true := by
    rw [hxrd (by simp only [EGT_SEAT_STATE]; omega)]
    exact State.bit_setBit_self u (EGT_SEAT_STATE e) ⟨16 + p, 16 + p⟩ true (by simp only; omega) (Nat.le_refl _)
  have hocc : (s.seatCorrected e p).occ = s.occ ∨ ∃ o, (s.seatCorrected e p).occ = s.occ ++ [o] := by
    rw [hcorr]
    split
    · obtain ⟨⟨o, ho, _⟩, _, _⟩ := hxraised
      exact .inr ⟨o, ho⟩
    · exact .inl huocc
  have hrun : exec (.cellCorrectedError (BitVec.ofNat 16 (0x0100 + e)) p) s = .next (s.seatCorrected e p) := by
    have hsettle : s.settle (s.seatCorrected e p) = s.seatCorrected e p := by
      rcases hocc with h | ⟨o, h⟩
      · exact State.settle_same h
      · exact State.settle_one h
    refine congrArg Host.Outcome.next ((if_pos (by rw [hbid, hvalid, htype]; rfl)).trans ?_)
    rw [hbid, hunit, hsettle]
  refine Runs.next hrun ?_
  rw [hcorr, hstate]
  refine ⟨?_, fun hfew => ?_, fun hmany hwarn => ?_, ?_, ?_⟩
  · split
    · rw [hxrd (by simp only [EGT_SEAT_CE]; omega), State.setFld_eq, State.rd_wr_ne _ _ hne.symm, hce]
    · exact hce
  · have hno : ¬ (((s.ticks :: old).take 16).length = 16 && !bitOf (s.rd (EGT_SEAT_STATE e)) (16 + p)) = true := by
      simp only [Bool.and_eq_true, decide_eq_true_eq, hlen]; omega
    rw [if_neg hno]
    exact ⟨hstate, huocc⟩
  · have hyes : (((s.ticks :: old).take 16).length = 16 && !bitOf (s.rd (EGT_SEAT_STATE e)) (16 + p)) = true := by
      simp only [Bool.and_eq_true, decide_eq_true_eq, hlen]
      exact ⟨hmany, by rw [bitOf, hwarn]; rfl⟩
    rw [if_pos hyes]
    exact ⟨hbit, hxraised⟩
  · refine RegsBut.ite ?_ (huregs.mono (by simp))
    rw [← hx]
    exact (hset.mono (by simp)).raise 64 (0x0100 + e) _
  · split
    · rw [← hx, State.raise_eq]
      have hfld : u.setFld (EGT_SEAT_STATE e) ⟨16 + p, 16 + p⟩ 1 = { u with regs := (u.setFld (EGT_SEAT_STATE e) ⟨16 + p, 16 + p⟩ 1).regs } := rfl
      rw [hfld, huframe]
      rfl
    · rw [huocc]
      exact huframe

end Sys2Proof.Machine
end

section
/-! PROOFS. The Rig controller's idle state, and the repair of an Eight's seat (R56, R66, R67, R425). -/

-- One proof at a time: the text is compiled as one file in bounded memory.
set_option Elab.async false

namespace Sys2Proof.Machine
open Sys2Proof.Claims

/-! ### The controller is idle again -/

theorem State.resetsGo_none {s : State} (h : s.boot.waitingResets = []) : s.resetsGo = s := by
  have hboot : ({ s.boot with waitingResets := [] } : Boot) = s.boot := by rw [← h]
  rw [State.resetsGo, h, List.foldl_nil, hboot]

/-- The state of the controller that is idle again. -/
def State.rigIdled (s : State) : State :=
  ((s.setRig { s.rig with job := none, image := [], listed := [], waiting := false, verdict := none, coxJob := false }).setRigState 0).setHeld 0

/-- With no reset and no repair waiting, the controller is idle and nothing more happens. -/
theorem State.rigIdle_quiet {s : State} (hcox : s.rig.cox = []) (hwait : s.boot.waitingResets = []) : s.rigIdle = s.rigIdled := by
  have hgo : s.rigIdled.resetsGo = s.rigIdled := State.resetsGo_none hwait
  have hempty : s.rigIdled.rig.cox.isEmpty = true := congrArg List.isEmpty hcox
  have hidle : s.rigIdle = if s.rigIdled.resetsGo.rig.cox.isEmpty then s.rigIdled.resetsGo else s.rigIdled.resetsGo.coxNext 33 := rfl
  rw [hidle, hgo, if_pos hempty]

theorem State.rigIdled_frame (s : State) : s.rigIdled = { s with
    regs := s.rigIdled.regs
    rig := { s.rig with job := none, image := [], listed := [], waiting := false, verdict := none, coxJob := false } } := rfl

theorem State.rigIdled_regs (s : State) : RegsBut s s.rigIdled [RIG_STATUS.off] :=
  RegsBut.setFld (RegsBut.setFld (RegsBut.congr (RegsBut.refl s _)) RIG_STATUS _ _) RIG_STATUS _ _

theorem State.rigState_setRigState (s : State) {v : Nat} (hv : v < 8) : (s.setRigState v).rigState = v :=
  (State.fld_setFld_self s RIG_STATUS RIG_STATUS_STATE v).trans (Nat.mod_eq_of_lt hv)

theorem State.rigState_setHeld (s : State) (n : Nat) : (s.setHeld n).rigState = s.rigState := State.fld_setFld_ne s RIG_STATUS _

theorem State.rigState_rigIdled (s : State) : s.rigIdled.rigState = 0 :=
  (State.rigState_setHeld _ 0).trans (State.rigState_setRigState _ (by decide))

/-- The bits that tell how the last command ended stand. -/
theorem State.bit_rigIdled (s : State) {f : Fld} (hf : f.lo < 16 ∧ 2 < f.lo) : s.rigIdled.bit RIG_STATUS f = s.bit RIG_STATUS f :=
  (State.bit_setFld_ne _ RIG_STATUS (f := RIG_STATUS_HELD) 0 (by omega) (.inl hf.1)).trans
    (State.bit_setFld_ne _ RIG_STATUS (f := RIG_STATUS_STATE) 0 (by omega) (.inr hf.2))

theorem State.rigState_regs {s t : State} {os : List Nat} (h : RegsBut s t os) (hos : RIG_STATUS.off ∉ os := by decide) : t.rigState = s.rigState := by
  rw [State.rigState, State.rigState, State.fld, State.fld, h.rd hos]

/-! ### The seat map (R66) -/

theorem find_least {p : Nat → Bool} {l n : Nat} (hl : l < n) (hp : p l = true) (hlow : ∀ k, k < l → p k = false) : (List.range n).find? p = some l := by
  rw [List.find?_range_eq_some]
  exact ⟨hp, List.mem_range.2 hl, fun k hk => by rw [hlow k hk]; rfl⟩

/-- The map of an Eight after a seat moves to the spare. -/
theorem State.physSeat_setFld (s : State) (e : Nat) {l : Nat} (hl : l < 8) : (s.setFld (EGT_SEAT_MAP e) ⟨4 * l + 3, 4 * l⟩ 8).physSeat e l = 8 := by
  refine (State.fld_setFld_self s (EGT_SEAT_MAP e) ⟨4 * l + 3, 4 * l⟩ 8 (by simp only; omega)).trans ?_
  exact congrArg (fun n => 8 % 2 ^ n) (show 4 * l + 3 + 1 - 4 * l = 4 by omega)

theorem repairMovesSeatToSpare : Claims.RepairMovesSeatToSpare := by
  intro e l s hl hstate hrep hbound hseat hlow hregion hcoxjob hcox hwait
  have hfind : (List.range 8).find? (fun k => s.physSeat e k == s.rig.repair.2) = some l :=
    find_least hl (by simp [hseat]) fun k hk => by simpa using hlow k hk
  generalize hm : s.setFld (EGT_SEAT_MAP e) ⟨4 * l + 3, 4 * l⟩ 8 = m
  have hmregs : RegsBut s m [(EGT_SEAT_MAP e).off] := hm ▸ (RegsBut.refl s _).setFld (EGT_SEAT_MAP e) _ _
  have hmonly : OnlyRegs s m := hm ▸ (OnlyRegs.refl s).setFld (EGT_SEAT_MAP e) _ _
  have hmseat : m.physSeat e l = 8 := hm ▸ State.physSeat_setFld s e hl
  generalize hr : m.raise 18 0x0E01 [w32 e, w32 s.rig.repair.2, 8] = r
  have hrraised : Raised s r 18 0x0E01 (w32 e) := hr ▸ (Raised.of_raise m 18 0x0E01 _).earlier hmonly.occ hmregs
    (by simp only [EVT_R_CNT, EGT_SEAT_MAP, List.mem_singleton]; omega)
  have hrregs : RegsBut s r ((EGT_SEAT_MAP e).off :: RIG_STATUS.off :: evRegs 18) := hr ▸ (hmregs.mono (by simp)).raise 18 0x0E01 _
  have hrig : r.rig = s.rig := by rw [← hr, State.raise_rig, hmonly.field State.rig]
  have hrregion : r.region (bidRegion (0x0100 + e)) = s.region (bidRegion (0x0100 + e)) := by
    rw [State.region, State.region, State.fld, State.fld, hrregs.rd (by
      simp only [BOH_REGION_STATE, EGT_SEAT_MAP, RIG_STATUS, evRegs, EVT_R_CNT, EVT_R_LAST, List.mem_cons, List.not_mem_nil, or_false, not_or]; omega)]
  generalize hb : r.setBlk (0x0100 + e) { r.blkOf (0x0100 + e) with holdRig := false } = b
  have hremap : s.remapRestart e = b.rigIdled := by
    have hbrig : b.rig = s.rig := by rw [← hb]; exact hrig
    have hbwait : b.boot.waitingResets = [] := by
      rw [← hb]
      change r.boot.waitingResets = []
      rw [← hr, State.raise_boot, hmonly.field State.boot]; exact hwait
    have hno : (r.safe || (s.blkOf (0x0100 + e)).phase = .down || r.region (bidRegion (0x0100 + e)) ≠ 2 || (s.blkOf (0x0100 + e)).gaveUp) = true := by
      simp [hrregion, hregion]
    rw [← State.rigIdle_quiet (by rw [hbrig]; exact hcox) hbwait, ← hb, State.remapRestart, hfind]
    simp only [hm, hr, hno, hrig, hcoxjob, if_true]
  have hidle := State.rigIdled_regs b
  have hbregs : RegsBut s b ((EGT_SEAT_MAP e).off :: RIG_STATUS.off :: evRegs 18) := hrregs.congr (by rw [← hb]; rfl)
  have hraised : Raised s b.rigIdled 18 0x0E01 (w32 e.val) := hrraised.later (by rw [State.rigIdled_frame, ← hb]; rfl)
    (RegsBut.trans (RegsBut.congr (RegsBut.refl r _) (by rw [← hb]; rfl)) hidle)
  obtain ⟨⟨o, hocc, -⟩, -, -⟩ := id hraised
  have hrun : exec (.eightRemapRestart e) s = .next b.rigIdled := by
    refine congrArg Host.Outcome.next ((if_pos (by simp [hstate, hrep, hbound])).trans ?_)
    rw [hremap, State.settle_one hocc]
  refine Runs.next hrun ⟨?_, State.rigState_rigIdled b, rfl, hraised, hbregs.trans (hidle.mono (by simp)), ?_⟩
  · have hmap : b.rigIdled.rd (EGT_SEAT_MAP e) = m.rd (EGT_SEAT_MAP e) := by
      rw [hidle.rd (by simp only [EGT_SEAT_MAP, RIG_STATUS, List.mem_singleton]; omega), ← hb]
      refine Eq.trans (b := r.rd (EGT_SEAT_MAP e)) rfl ?_
      rw [← hr, State.rd_raise _ _ _ _ (by simp only [EGT_SEAT_MAP, EVT_R_CNT]; omega) (by simp only [EGT_SEAT_MAP, EVT_R_LAST]; omega)]
    rw [State.physSeat, hmap]; exact hmseat
  · rw [State.rigIdled_frame, ← hb, ← hr, State.raise_eq]
    rw [OnlyRegs] at hmonly
    rw [hmonly]
    rfl

/-- Settles O11: a corrected error by the errors of the last second, a repair by the map it writes. -/
theorem eightSeatsAndSpare : Obligations.EightSeatsAndSpare := ⟨seatCountsCorrectedErrors, repairMovesSeatToSpare⟩

end Sys2Proof.Machine
end

section
/-! PROOFS. COMMIT and CHECK: start, refusal, copy and the end of the checks (R56 to R59, R65, R70, R112, R117). -/

-- One proof at a time: the text is compiled as one file in bounded memory.
set_option Elab.async false

namespace Sys2Proof.Machine
open Sys2Proof.Claims

/-! ### The refusal registers (R65, R70) -/

/-- The refusal registers with the bits of the last command, before a commit's refusal counts. -/
def State.refuseShown (s : State) (r : Refused) : State :=
  let u := (((s.wr RIG_REFUSAL (w32 (r.step * 65536 + r.code))).wr RIG_REFUSAL_OWNER r.owner).wr RIG_REFUSAL_DETAIL r.detail).wr RIG_REFUSAL_TIME s.ns
  (u.setBit RIG_STATUS RIG_STATUS_LAST_REFUSED true).setBit RIG_STATUS RIG_STATUS_LAST_OK false

/-- The registers of a refusal. -/
def refuseRegs : List Nat := [RIG_REFUSAL.off, RIG_REFUSAL_OWNER.off, RIG_REFUSAL_DETAIL.off, RIG_REFUSAL_TIME.off, RIG_STATUS.off]

section
variable (s : State) (r : Refused)

theorem State.refuseShown_only : OnlyRegs s (s.refuseShown r) :=
  (((((OnlyRegs.refl s).wr RIG_REFUSAL _).wr RIG_REFUSAL_OWNER _).wr RIG_REFUSAL_DETAIL _).wr RIG_REFUSAL_TIME _).setBit RIG_STATUS _ _ |>.setBit RIG_STATUS _ _

theorem State.refuseShown_regs : RegsBut s (s.refuseShown r) refuseRegs :=
  ((((((RegsBut.refl s refuseRegs).wr RIG_REFUSAL _ (by decide)).wr RIG_REFUSAL_OWNER _ (by decide)).wr RIG_REFUSAL_DETAIL _ (by decide)).wr RIG_REFUSAL_TIME _
    (by decide)).setBit RIG_STATUS _ _ (by decide)).setBit RIG_STATUS _ _ (by decide)

theorem State.refuseShown_refusal : Claims.Refusal (s.refuseShown r) r.step r.code r.owner r.detail ∧ (s.refuseShown r).rd RIG_REFUSAL_TIME = s.ns := by
  have hwr : ∀ (u : State) (q : Reg) (a b : Word), q.off ≠ RIG_STATUS.off → ((u.wr RIG_STATUS a).wr RIG_STATUS b).rd q = u.rd q := fun u q a b h => by
    rw [State.rd_wr_ne _ _ h, State.rd_wr_ne _ _ h]
  unfold State.refuseShown
  dsimp only
  rw [Claims.Refusal, State.setBit_eq, State.setBit_eq, hwr _ _ _ _ (by decide), hwr _ _ _ _ (by decide), hwr _ _ _ _ (by decide), hwr _ _ _ _ (by decide)]
  refine ⟨⟨?_, ?_, ?_⟩, State.rd_wr_self _ _ _⟩
  · rw [State.rd_wr_ne _ _ (by decide), State.rd_wr_ne _ _ (by decide), State.rd_wr_ne _ _ (by decide), State.rd_wr_self]
  · rw [State.rd_wr_ne _ _ (by decide), State.rd_wr_ne _ _ (by decide), State.rd_wr_self]
  · rw [State.rd_wr_ne _ _ (by decide), State.rd_wr_self]

theorem State.refuseShown_bit : (s.refuseShown r).bit RIG_STATUS RIG_STATUS_LAST_REFUSED = true :=
  (State.bit_setBit_ne _ RIG_STATUS (f := RIG_STATUS_LAST_OK) false).trans (State.bit_setBit_self _ RIG_STATUS RIG_STATUS_LAST_REFUSED true)

theorem State.refuseShown_state : (s.refuseShown r).rigState = s.rigState := by
  have hu : ((((s.wr RIG_REFUSAL (w32 (r.step * 65536 + r.code))).wr RIG_REFUSAL_OWNER r.owner).wr RIG_REFUSAL_DETAIL r.detail).wr RIG_REFUSAL_TIME s.ns).rigState =
      s.rigState := State.rigState_regs (os := [RIG_REFUSAL.off, RIG_REFUSAL_OWNER.off, RIG_REFUSAL_DETAIL.off, RIG_REFUSAL_TIME.off])
    (((((RegsBut.refl s _).wr RIG_REFUSAL _).wr RIG_REFUSAL_OWNER _).wr RIG_REFUSAL_DETAIL _).wr RIG_REFUSAL_TIME _)
  exact (State.fld_setBit_ne _ RIG_STATUS (f := RIG_STATUS_LAST_OK) (g := RIG_STATUS_STATE) false).trans
    ((State.fld_setBit_ne _ RIG_STATUS (f := RIG_STATUS_LAST_REFUSED) (g := RIG_STATUS_STATE) true).trans hu)

/-- The items of event 17. -/
def State.refuseItems (s : State) (r : Refused) (rigId : List Byte) : List Word :=
  [w32 (r.step * 65536 + r.code), r.owner, r.detail, s.ns] ++ bytesWords ((rigId ++ List.replicate 16 0).take 16)

theorem State.refuseRecord_check (rigId : List Byte) : s.refuseRecord r false false rigId = s.refuseShown r := rfl

theorem State.refuseRecord_commit (rigId : List Byte) :
    s.refuseRecord r true false rigId = ((s.refuseShown r).inc RIG_REFUSE_CNT).raise 17 0x0E01 (s.refuseItems r rigId) := by
  have hns : ∀ u : State, OnlyRegs s u → u.ns = s.ns := fun u hu => hu.field State.ns
  rw [State.refuseItems, ← hns (s.refuseShown r) (State.refuseShown_only s r)]
  rfl

/-- The commit's refusal: the registers, the count and event 17 with the refusal's code. -/
theorem State.refuseCommit_regs (rigId : List Byte) : RegsBut s (s.refuseRecord r true false rigId) (RIG_REFUSAL.off :: RIG_REFUSAL_OWNER.off ::
    RIG_REFUSAL_DETAIL.off :: RIG_REFUSAL_TIME.off :: RIG_REFUSE_CNT.off :: RIG_STATUS.off :: evRegs 17) := by
  rw [State.refuseRecord_commit]
  exact (RegsBut.inc ((State.refuseShown_regs s r).mono (by decide)) RIG_REFUSE_CNT 1).raise 17 0x0E01 _

theorem State.refuseCommit_only (rigId : List Byte) : OnlyRegsOcc s (s.refuseRecord r true false rigId) := by
  rw [State.refuseRecord_commit]
  exact ((State.refuseShown_only s r).regsOcc.inc RIG_REFUSE_CNT 1).raise 17 0x0E01 _

theorem State.refuseCommit_raised (rigId : List Byte) : Raised s (s.refuseRecord r true false rigId) 17 0x0E01 (w32 (r.step * 65536 + r.code)) := by
  have hinc : RegsBut s ((s.refuseShown r).inc RIG_REFUSE_CNT) (RIG_REFUSE_CNT.off :: refuseRegs) :=
    RegsBut.inc ((State.refuseShown_regs s r).mono (by simp)) RIG_REFUSE_CNT 1
  rw [State.refuseRecord_commit]
  exact (Raised.of_raise _ 17 0x0E01 (s.refuseItems r rigId)).earlier ((State.refuseShown_only s r).inc RIG_REFUSE_CNT 1).occ hinc

theorem State.rd_refuseCommit (rigId : List Byte) {q : Reg} (hq : q.off ∉ RIG_REFUSE_CNT.off :: evRegs 17 := by decide) :
    (s.refuseRecord r true false rigId).rd q = (s.refuseShown r).rd q := by
  rw [State.refuseRecord_commit]
  exact RegsBut.rd ((RegsBut.inc (RegsBut.refl _ _) RIG_REFUSE_CNT 1).raise 17 0x0E01 _ (by simp)) hq

end

theorem refusal_of_rd {t u : State} {step code : Nat} {owner detail : Word} (h : Claims.Refusal t step code owner detail)
    (hrd : ∀ q ∈ [RIG_REFUSAL, RIG_REFUSAL_OWNER, RIG_REFUSAL_DETAIL], u.rd q = t.rd q) : Claims.Refusal u step code owner detail := by
  obtain ⟨hcode, howner, hdetail⟩ := h
  exact ⟨(hrd _ (by simp)).trans hcode, (hrd _ (by simp)).trans howner, (hrd _ (by simp)).trans hdetail⟩

/-! ### COMMIT and CHECK -/

theorem exec_rigCommand {s : State} (job : RigJob) {i : Instr} (hi : (job = .commit ∧ i = .rigCmdCommit) ∨ (job = .check ∧ i = .rigCmdCheck))
    (hreach : Reach s RIG_CMD) : exec i s = .next (s.settle (s.rigStart job)) := by
  obtain ⟨hup, hacc⟩ := hreach
  have hdo := State.hostDo_reach s RIG_CMD true (·.rigStart job) hup hacc
  rcases hi with ⟨rfl, rfl⟩ | ⟨rfl, rfl⟩ <;> exact congrArg (fun u => Host.Outcome.next (s.settle u)) hdo

/-- The state in which copying has started. -/
def State.rigStarted (s : State) (job : RigJob) : State :=
  (s.setRig { s.rig with job := some job, image := [], listed := [], waiting := false, verdict := none, coxJob := false }).setRigState 1

theorem State.rigStart_free {s : State} (job : RigJob) (hstate : s.rigState = 0) (hreset : s.resetting = false) : s.rigStart job =
    if (job == .commit && !s.rig.everFull && !(imgHeader (s.rigSource 256)).isPartial) && (s.stage = 3 || s.stage = 4) then (s.rigStarted job).toStage 4
    else s.rigStarted job := by
  have hstage : (s.rigStarted job).stage = s.stage :=
    State.stage_regsBut (os := [RIG_STATUS.off]) (RegsBut.setFld (RegsBut.congr (RegsBut.refl s _)) RIG_STATUS _ _)
  rw [State.rigStart, if_neg (by simp [State.rigBusy, hstate, hreset])]
  simp only [← hstage]
  rfl

theorem State.rigStart_busy {s : State} (job : RigJob) (h : s.rigState ≠ 0) :
    s.rigStart job = s.refuseRecord ⟨0, 0x0503, 0, 0xFFFF1FFF⟩ (job == .commit) false (sliceAt (s.rigSource 64) 0x20 16) := if_pos (by simp [State.rigBusy, h])

theorem rigCommandStartsOrIsRefused : Claims.RigCommandStartsOrIsRefused := by
  intro s hreach
  have hcheck := exec_rigCommand .check (.inr ⟨rfl, rfl⟩) hreach
  have hcommit := exec_rigCommand .commit (.inl ⟨rfl, rfl⟩) hreach
  have hsame (job : RigJob) : s.settle (s.rigStarted job) = s.rigStarted job := State.settle_same rfl
  refine ⟨fun hstate hreset => ?_, fun hstate hreset hlater => ?_, fun hstate hreset hfirst hfull hstage => ?_, fun hbusy => ?_, fun hbusy => ?_⟩
  · have hno : ¬ ((RigJob.check == .commit && !s.rig.everFull && !(imgHeader (s.rigSource 256)).isPartial) && (s.stage = 3 || s.stage = 4)) = true := by
      rw [show (RigJob.check == RigJob.commit) = false from rfl]; simp
    rw [hcheck, State.rigStart_free .check hstate hreset, if_neg hno, hsame]; rfl
  · have hno : ¬ ((RigJob.commit == .commit && !s.rig.everFull && !(imgHeader (s.rigSource 256)).isPartial) && (s.stage = 3 || s.stage = 4)) = true := by
      rcases hlater with h | h <;> simp [h]
    rw [hcommit, State.rigStart_free .commit hstate hreset, if_neg hno, hsame]; rfl
  · have hyes : ((RigJob.commit == .commit && !s.rig.everFull && !(imgHeader (s.rigSource 256)).isPartial) && (s.stage = 3 || s.stage = 4)) = true := by
      rw [show (RigJob.commit == RigJob.commit) = true from rfl]; simp [hfirst, hfull, hstage]
    have hregs : RegsBut s (s.rigStarted .commit) [RIG_STATUS.off] := RegsBut.setFld (RegsBut.congr (RegsBut.refl s _)) RIG_STATUS _ _
    have hne : (s.rigStarted .commit).stage ≠ 4 := by rw [State.stage_regsBut hregs]; omega
    have hraised := (State.toStage_raised hne).earlier (s := s) rfl hregs
    obtain ⟨⟨o, hocc, -⟩, -, -⟩ := id hraised
    have hrun : exec .rigCmdCommit s = .next ((s.rigStarted .commit).toStage 4) := by
      rw [hcommit, State.rigStart_free .commit hstate hreset, if_pos hyes, State.settle_one hocc]
    refine Runs.next hrun ⟨?_, ?_, State.stage_toStage hne (by decide), hraised⟩
    · rw [State.rigState_regs (State.toStage_regs _ 4)]
      exact State.rigState_setRigState _ (by decide)
    · rw [(State.toStage_only (s.rigStarted .commit) 4).field (fun u => u.rig.job)]; rfl
  · generalize hid : sliceAt (s.rigSource 64) 0x20 16 = id'
    generalize hr : (⟨0, 0x0503, 0, 0xFFFF1FFF⟩ : Refused) = r
    have hraised := State.refuseCommit_raised s r id'
    obtain ⟨⟨o, hocc, -⟩, -, -⟩ := id hraised
    have hrun : exec .rigCmdCommit s = .next (s.refuseRecord r true false id') := by
      rw [hcommit, State.rigStart_busy .commit hbusy, hid, hr]
      exact congrArg Host.Outcome.next (State.settle_one hocc)
    obtain ⟨hrefusal, htime⟩ := State.refuseShown_refusal s r
    have hrd {q : Reg} (hq : q.off ∉ RIG_REFUSE_CNT.off :: evRegs 17 := by decide) := State.rd_refuseCommit s r id' hq
    refine Runs.next hrun ⟨?_, ?_, ?_, ?_, ?_, ?_, State.refuseCommit_regs s r id', State.refuseCommit_only s r id'⟩
    · rw [← hr] at hrefusal ⊢
      exact refusal_of_rd hrefusal fun q hq => State.rd_refuseCommit s _ id' (by
        simp only [List.mem_cons, List.not_mem_nil, or_false] at hq; rcases hq with rfl | rfl | rfl <;> decide)
    · rw [hrd]; exact htime
    · rw [State.refuseRecord_commit, State.rd_raise _ _ _ _ (by decide) (by decide), State.inc_eq, State.rd_wr_self, (State.refuseShown_regs s r).rd (by decide)]
    · rw [State.rigState, State.fld, hrd]; exact State.refuseShown_state s r
    · rw [State.bit, hrd]; exact State.refuseShown_bit s r
    · rw [← hr] at hraised ⊢; exact hraised
  · generalize hr : (⟨0, 0x0503, 0, 0xFFFF1FFF⟩ : Refused) = r
    have hocc : (s.refuseShown r).occ = s.occ := (State.refuseShown_only s r).occ
    have hrun : exec .rigCmdCheck s = .next (s.refuseShown r) := by
      rw [hcheck, State.rigStart_busy .check hbusy, hr]
      exact congrArg Host.Outcome.next (State.settle_same hocc)
    refine Runs.next hrun ⟨?_, (State.refuseShown_regs s r).rd (by decide), hocc, State.refuseShown_state s r⟩
    rw [← hr]; exact (State.refuseShown_refusal s _).1

/-! ### The copy -/

theorem State.vaultAsk_frame (s : State) (k : VVerify) : s.vaultAsk k = { s with regs := (s.vaultAsk k).regs, vault := (s.vaultAsk k).vault } := by
  unfold State.vaultAsk
  rw [State.setVault_frame]

theorem rigCopiesItsImage : Claims.RigCopiesItsImage := by
  intro s hstate
  generalize hu : (s.setRig { s.rig with image := s.rigSource (min (s.rd RIG_IMG_LEN).toNat 268435457) }).setRigState 2 = u
  have hurig : u.rig = { s.rig with image := s.rigSource (min (s.rd RIG_IMG_LEN).toNat 268435457) } := by rw [← hu]; rfl
  have hustate : u.rigState = 2 := by rw [← hu]; exact State.rigState_setRigState _ (by decide)
  have hcases : s.rigCopied = u ∨ ∃ k, s.rigCopied = u.vaultAsk k := by
    have hcopied : s.rigCopied = if (u.formCheck (s.rigSource (min (s.rd RIG_IMG_LEN).toNat 268435457))).isNone then
        u.vaultAsk { cls := 0, data := s.rigSource (min (s.rd RIG_IMG_LEN).toNat 268435457) } else u := by rw [← hu]; rfl
    rw [hcopied]
    split
    · exact .inr ⟨_, rfl⟩
    · exact .inl rfl
  have hframe : s.rigCopied = { u with regs := s.rigCopied.regs, vault := s.rigCopied.vault } := by
    rcases hcases with h | ⟨k, h⟩
    · rw [h]
    · rw [h]; exact State.vaultAsk_frame u k
  have hregs : RegsBut u s.rigCopied vaultShown := by
    rcases hcases with h | ⟨k, h⟩
    · rw [h]; exact RegsBut.refl u _
    · rw [h]; exact State.setVault_regs u _
  have hocc : s.rigCopied.occ = s.occ := by rw [hframe, ← hu]; rfl
  refine Runs.next (congrArg Host.Outcome.next ((if_pos hstate).trans (State.settle_same hocc))) ⟨?_, ?_, ?_⟩
  · rw [State.rigState_regs hregs]; exact hustate
  · rw [hframe]; exact hurig
  · rw [hframe, ← hu]; rfl

/-! ### The end of the checks -/

theorem waits_congr {s t : State} (h : t.call = s.call) (w : WaitFor) : waits t w = waits s w := by
  simp only [waits, State.callQ, h]

/-- An Answer that no Call waits for is none. -/
theorem State.callDone_none {s : State} {w : WaitFor} (h : waits s w = false) (status r0 r1 : Nat) : s.callDone w status r0 r1 = s := by
  refine foldl_fixed_mem fun q hq => ?_
  have hq' := List.any_eq_false.1 h q hq
  split
  next c x heq => exact if_neg (by simpa [heq] using hq')
  · rfl

/-- Nothing waits for the controller, seen after its registers and its job change. -/
theorem NothingWaits.idle {s u : State} (h : NothingWaits s) (hcox : u.rig.cox = s.rig.cox) (hboot : u.boot = s.boot) (hcall : u.call = s.call)
    (status r0 r1 : Nat) : (u.rigIdle).callDone .rig status r0 r1 = u.rigIdled := by
  obtain ⟨hnone, hwait, hcalls⟩ := h
  rw [State.rigIdle_quiet (by rw [hcox]; exact hnone) (by rw [hboot]; exact hwait)]
  exact State.callDone_none ((waits_congr (by rw [State.rigIdled_frame]; exact hcall) .rig).trans hcalls) status r0 r1

/-- A CHECK that is refused: its record, and the controller is idle. -/
theorem State.rigRefuse_check {s : State} (r : Refused) (hjob : s.rig.job = some .check) (hcox : s.rig.coxJob = false) (hstate : s.rigState ≠ 3)
    (hwait : NothingWaits s) : s.rigRefuse r = (s.refuseShown r).rigIdled := by
  have honly := State.refuseShown_only s r
  have hcommit : (s.rig.job == some .commit) = false := by rw [hjob]; rfl
  have hjob' : ((s.refuseShown r).rig.job == some .repair) = false := by rw [honly.field State.rig, hjob]; rfl
  have hstate' : ¬ (s.refuseShown r).rigState = 3 := by rw [State.refuseShown_state]; exact hstate
  unfold State.rigRefuse
  simp only [hcommit, hcox, Bool.false_and, State.refuseRecord_check, hjob', Bool.and_false, Bool.false_eq_true, if_false, hstate']
  exact NothingWaits.idle hwait (honly.field fun u => u.rig.cox) (honly.field State.boot) (honly.field State.call) _ _ _

/-- The state in which a command has completed. -/
theorem State.rigOk_only (s : State) : OnlyRegs s s.rigOk := ((OnlyRegs.refl s).setBit RIG_STATUS _ _).setBit RIG_STATUS _ _
theorem State.rigOk_regs (s : State) : RegsBut s s.rigOk [RIG_STATUS.off] := ((RegsBut.refl s _).setBit RIG_STATUS _ _).setBit RIG_STATUS _ _

theorem State.rigOk_bits (s : State) : s.rigOk.bit RIG_STATUS RIG_STATUS_LAST_OK = true ∧ s.rigOk.bit RIG_STATUS RIG_STATUS_LAST_REFUSED = false :=
  ⟨(State.bit_setBit_ne _ RIG_STATUS (f := RIG_STATUS_LAST_REFUSED) false).trans (State.bit_setBit_self s RIG_STATUS RIG_STATUS_LAST_OK true),
    State.bit_setBit_self _ RIG_STATUS RIG_STATUS_LAST_REFUSED false⟩

theorem State.refuseShown_idled (s : State) (r : Refused) : Claims.Refusal (s.refuseShown r).rigIdled r.step r.code r.owner r.detail := by
  refine refusal_of_rd (State.refuseShown_refusal s r).1 fun q hq => (State.rigIdled_regs _).rd ?_
  simp only [List.mem_cons, List.not_mem_nil, or_false] at hq
  rcases hq with rfl | rfl | rfl <;> decide

/-- The end of the checks from what each of them says. -/
def checksEnd (form : Option Refused) (verdict : Option Nat) (later : Nat → Option Refused) (refuse : Refused → State) (passed stays : State) : State :=
  match form with
  | some r => refuse r
  | none =>
    match verdict with
    | none => stays
    | some code =>
      match later code with
      | some r => refuse r
      | none => passed

theorem State.rigChecked_eq (s : State) :
    s.rigChecked = checksEnd (s.formCheck s.rig.image) s.rig.verdict (s.laterChecks s.rig.image) s.rigRefuse s.rigPassed s := by
  delta State.rigChecked checksEnd
  generalize s.formCheck s.rig.image = form
  generalize s.laterChecks s.rig.image = later
  cases form with
  | some r => rfl
  | none => rfl

section
variable {s : State} (hstate : s.rigState = 2) (hwaiting : s.rig.waiting = false)
include hstate hwaiting

theorem exec_rigChecksComplete : exec .rigChecksComplete s = .next (s.settle s.rigChecked) := by
  have hif : exec .rigChecksComplete s = .next (if s.rigState = 2 && !s.rig.waiting then s.settle s.rigChecked else s) := rfl
  rw [hif, if_pos (by simp [hstate, hwaiting])]

theorem exec_rigChecks {t : State} (ht : s.rigChecked = t) (hocc : t.occ = s.occ) : exec .rigChecksComplete s = .next t := by
  rw [exec_rigChecksComplete hstate hwaiting, ht, State.settle_same hocc]

end

theorem State.rigChecked_refused {s : State} {r : Refused} (hform : s.formCheck s.rig.image = some r) : s.rigChecked = s.rigRefuse r := by
  rw [State.rigChecked_eq, hform, checksEnd]

theorem State.rigChecked_waits {s : State} (hform : s.formCheck s.rig.image = none) (hverdict : s.rig.verdict = none) : s.rigChecked = s := by
  rw [State.rigChecked_eq, hform, hverdict, checksEnd]

theorem State.rigChecked_passes {s : State} {code : Nat} (hform : s.formCheck s.rig.image = none) (hverdict : s.rig.verdict = some code)
    (hlater : s.laterChecks s.rig.image code = none) : s.rigChecked = s.rigPassed := by
  rw [State.rigChecked_eq, hform, hverdict, checksEnd]
  simp only [hlater]

theorem rigChecksEnd : Claims.RigChecksEnd := by
  intro s hstate hwaiting hcox hwait
  have hrun (t : State) (ht : s.rigChecked = t) (hocc : t.occ = s.occ) : exec .rigChecksComplete s = .next t := exec_rigChecks hstate hwaiting ht hocc
  refine ⟨fun r hform hjob => ?_, fun hform hverdict => ?_, fun code hform hverdict hlater hjob => ?_, fun code hform hverdict hlater hjob hreset => ?_⟩
  · have hchecked : s.rigChecked = (s.refuseShown r).rigIdled :=
      (State.rigChecked_refused hform).trans (State.rigRefuse_check r hjob hcox (by omega) hwait)
    have honly := State.refuseShown_only s r
    have hocc : (s.refuseShown r).rigIdled.occ = s.occ := by rw [State.rigIdled_frame]; exact honly.occ
    refine Runs.next (hrun _ hchecked hocc) ⟨State.refuseShown_idled s r, State.rigState_rigIdled _, rfl, ?_, ?_, hocc⟩
    · rw [State.rigIdled_frame]; exact honly.field (fun u => u.rig.sections)
    · rw [State.bit_rigIdled _ (by decide)]; exact State.refuseShown_bit s r
  · exact hrun s (State.rigChecked_waits hform hverdict) rfl
  · have honly := State.rigOk_only s
    have hpassed : s.rigPassed = s.rigOk.rigIdled := by
      rw [State.rigPassed, if_pos hjob]
      exact NothingWaits.idle hwait (honly.field fun u => u.rig.cox) (honly.field State.boot) (honly.field State.call) _ _ _
    have hocc : s.rigOk.rigIdled.occ = s.occ := by rw [State.rigIdled_frame]; exact honly.occ
    obtain ⟨hok, hrefused⟩ := State.rigOk_bits s
    refine Runs.next (hrun _ ((State.rigChecked_passes hform hverdict hlater).trans hpassed) hocc) ⟨State.rigState_rigIdled _, ?_, ?_, rfl, ?_, ?_, ?_⟩
    · rw [State.bit_rigIdled _ (by decide)]; exact hok
    · rw [State.bit_rigIdled _ (by decide)]; exact hrefused
    · rw [State.rigIdled_frame]; exact honly.field (fun u => u.rig.sections)
    · exact (State.rigOk_regs s).trans (State.rigIdled_regs _)
    · rw [OnlyRegs] at honly
      rw [State.rigIdled_frame, honly]
  · refine hrun _ ((State.rigChecked_passes hform hverdict hlater).trans ?_) rfl
    have hno : ¬ s.rig.job = some .check := by rw [hjob]; decide
    rw [State.rigPassed, if_neg hno, if_pos hreset]
    rfl

/-- Settles O12: a command by the state it finds, the copy by what it takes, and the checks by the record of the first that fails. -/
theorem rigChecksItsImage : Obligations.RigChecksItsImage := ⟨rigCommandStartsOrIsRefused, rigCopiesItsImage, rigChecksEnd⟩

end Sys2Proof.Machine
end

section
/-! PROOFS. HOLDING, ABORT, the timeout of the hold, and REPAIR (R60, R67, R69, R71). -/

-- One proof at a time: the text is compiled as one file in bounded memory.
set_option Elab.async false

namespace Sys2Proof.Machine
open Sys2Proof.Claims

/-! ### Blocks that count as held -/

/-- Whether a block was refused at run time is in the Umpire's registers and records. -/
theorem State.refusedBlk_congr {s t : State} {os : List Nat} (hregs : RegsBut s t os) (hos : ∀ r, r < 1024 → (UMP_S_ID r).off ∉ os) (hstrm : t.strm = s.strm) (b : Nat) :
    t.refusedBlk b = s.refusedBlk b := by
  have hrecs : t.blkStrms b = s.blkStrms b := by
    refine List.filter_congr fun r hr => ?_
    rw [hregs.rd (hos r (List.mem_range.1 hr))]
  simp only [State.refusedBlk, hrecs, State.strmOf, hstrm]

theorem umpId_notRig : ∀ r, r < 1024 → (UMP_S_ID r).off ∉ [RIG_STATUS.off] := fun r hr => by
  simp only [UMP_S_ID, RIG_STATUS, List.mem_singleton]; omega

theorem State.mem_unheld {s : State} {b : Nat} (hb : b ∈ s.rig.listed) (hphase : (s.blkOf b).phase = .running) (hhold : (s.blkOf b).holdRig = true)
    (hno : s.refusedBlk b = false) : b ∈ s.unheld :=
  List.mem_filter.2 ⟨hb, by simp [hphase, hhold, hno]⟩

/-- While a listed block runs, the hold goes on. -/
theorem State.holdCheck_left {s : State} {b : Nat} (h : b ∈ s.unheld) : s.holdCheck = s.setHeld (s.rig.listed.length - s.unheld.length) := by
  have hne : s.unheld.isEmpty = false := by
    cases hu : s.unheld with
    | nil => rw [hu] at h; exact absurd h List.not_mem_nil
    | cons _ _ => rfl
  rw [State.holdCheck]
  exact if_pos (by simp [hne])

theorem State.setHeld_only (s : State) (n : Nat) : OnlyRegs s (s.setHeld n) := (OnlyRegs.refl s).setFld RIG_STATUS _ _
theorem State.setHeld_regs (s : State) (n : Nat) : RegsBut s (s.setHeld n) [RIG_STATUS.off] := (RegsBut.refl s _).setFld RIG_STATUS _ _

theorem holdingHoldsListedBlocks : Claims.HoldingHoldsListedBlocks := by
  intro bid b' s b hstate hlisted hhold hphase hbound htype hlisted' hne hphase' hhold' hno
  generalize hu : s.setBlk b { s.blkOf b with phase := .held } = u
  have hother {c : Nat} (hc : c ≠ b) : u.blkOf c = s.blkOf c := by rw [← hu]; exact State.blkOf_setBlk_ne s _ hc
  have hregs : RegsBut s u [RIG_STATUS.off] := RegsBut.congr (RegsBut.refl s _) (by rw [← hu]; rfl)
  have hleft : b' ∈ u.unheld := by
    refine State.mem_unheld (by rw [← hu]; exact hlisted') (by rw [hother hne]; exact hphase') (by rw [hother hne]; exact hhold') ?_
    rw [State.refusedBlk_congr hregs umpId_notRig (by rw [← hu]; rfl)]; exact hno
  have hheld : s.rigHeld b = u.setHeld (u.rig.listed.length - u.unheld.length) := by
    have hyes : (s.rigState = 3 && s.rig.listed.contains b && (s.blkOf b).holdRig && (s.blkOf b).phase = .running && (s.atBoundary b || s.refusedBlk b)) = true := by
      simp [hstate, hlisted, hhold, hphase, hbound]
    have hcoach : ¬ (bidType b = 0x0F && s.coachParts (bidUnit b) ≠ 0) = true := by simp [htype]
    rw [← State.holdCheck_left hleft, ← hu, State.rigHeld, if_pos hyes, if_neg hcoach]
  have honly := State.setHeld_only u (u.rig.listed.length - u.unheld.length)
  have hocc : (u.setHeld (u.rig.listed.length - u.unheld.length)).occ = s.occ := honly.occ.trans (by rw [← hu]; rfl)
  have hrun : exec (.rigBlockHeld bid) s = .next (u.setHeld (u.rig.listed.length - u.unheld.length)) :=
    congrArg Host.Outcome.next ((congrArg (State.settle s) hheld).trans (State.settle_same hocc))
  refine Runs.next hrun ⟨?_, fun c hc => ?_, ?_, hregs.trans (State.setHeld_regs u _), ?_⟩
  · rw [honly.field (fun x => x.blkOf b), ← hu, State.blkOf_setBlk_self]
  · rw [honly.field (fun x => x.blkOf c)]; exact hother hc
  · rw [State.rigState_setHeld, ← hu]; exact hstate
  · have hblk : (u.setHeld (u.rig.listed.length - u.unheld.length)).blk = u.blk := honly.field State.blk
    rw [hblk]
    rw [OnlyRegs] at honly
    exact honly.trans (by rw [← hu]; rfl)

/-! ### The hold ends in a refusal -/

/-- A listed block released: what was held runs again, and nothing is asked of it. -/
def State.releaseBlk (s : State) (b : Nat) : State :=
  if (s.blkOf b).holdRig then s.setBlk b { s.blkOf b with phase := if (s.blkOf b).phase = .held then .running else (s.blkOf b).phase, holdRig := false } else s

theorem State.holdRelease_eq {s : State} (h : ∀ b, b ∈ s.rig.listed → bidType b ≠ 0x0F) :
    s.holdRelease = s.rig.listed.foldl (fun u b => u.releaseBlk b) s := by
  have hstep : ∀ (bs : List Nat) (u : State), (∀ b, b ∈ bs → bidType b ≠ 0x0F) → bs.foldl (fun s b =>
      let k := s.blkOf b
      let s := if bidType b = 0x0F && k.holdRig && k.phase != .stopped then
          (if k.phase = .held then s.coachStart (bidUnit b) else s.setFld (BOH_COACH (bidUnit b)) ⟨2, 0⟩ 1) else s
      if k.holdRig then s.setBlk b { s.blkOf b with phase := if k.phase = .held then .running else k.phase, holdRig := false } else s) u =
      bs.foldl (fun u b => u.releaseBlk b) u := by
    intro bs
    induction bs with
    | nil => exact fun _ _ => rfl
    | cons b bs ih =>
      intro u hbs
      have hno : ¬ (bidType b = 0x0F && (u.blkOf b).holdRig && (u.blkOf b).phase != .stopped) = true := by simp [hbs b (List.mem_cons_self ..)]
      rw [List.foldl_cons, List.foldl_cons, ← ih _ fun c hc => hbs c (List.mem_cons_of_mem _ hc)]
      simp only [hno]
      rfl
  exact hstep s.rig.listed s h

/-- Released blocks, in any order: no other changes, and each is released that was asked to hold. -/
theorem releaseBlk_all : ∀ (bs : List Nat) (s : State),
    let t := bs.foldl (fun u b => u.releaseBlk b) s
    t = { s with blk := t.blk } ∧ ∀ b, ((t.blkOf b).phase = (s.blkOf b).phase ∨ ((s.blkOf b).phase = .held ∧ (t.blkOf b).phase = .running)) ∧
      ((s.blkOf b).holdRig = false → (t.blkOf b).holdRig = false) ∧
      (b ∈ bs → (s.blkOf b).holdRig = true → (t.blkOf b).holdRig = false ∧ ((s.blkOf b).phase = .held → (t.blkOf b).phase = .running))
  | [], _ => ⟨rfl, fun _ => ⟨.inl rfl, fun h => h, fun h => absurd h List.not_mem_nil⟩⟩
  | c :: bs, s => by
    obtain ⟨hframe, hblk⟩ := releaseBlk_all bs (s.releaseBlk c)
    have hne {b : Nat} (hb : b ≠ c) : (s.releaseBlk c).blkOf b = s.blkOf b := by
      unfold State.releaseBlk
      split
      · exact State.blkOf_setBlk_ne s _ hb
      · rfl
    have hself : (s.releaseBlk c).blkOf c = if (s.blkOf c).holdRig then
        { s.blkOf c with phase := if (s.blkOf c).phase = .held then .running else (s.blkOf c).phase, holdRig := false } else s.blkOf c := by
      unfold State.releaseBlk
      split
      · exact State.blkOf_setBlk_self s c _
      · rfl
    have hone : s.releaseBlk c = { s with blk := (s.releaseBlk c).blk } := by
      unfold State.releaseBlk
      split <;> rfl
    rw [List.foldl_cons]
    refine ⟨hframe.trans (by rw [hone]), fun b => ?_⟩
    obtain ⟨hphase, hkeep, hrel⟩ := hblk b
    by_cases hbc : b = c
    · subst hbc
      rw [hself] at hphase hkeep hrel
      cases hhold : (s.blkOf b).holdRig with
      | false =>
        simp only [hhold, Bool.false_eq_true, if_false] at hphase hkeep hrel
        exact ⟨hphase, fun _ => hkeep trivial, fun _ h => absurd h Bool.false_ne_true⟩
      | true =>
        simp only [hhold, if_true] at hphase hkeep
        have hend := hkeep trivial
        by_cases hheld : (s.blkOf b).phase = .held
        · simp only [hheld, if_true] at hphase
          have hrun := hphase.resolve_right fun h => absurd h.1 (by decide)
          exact ⟨.inr ⟨hheld, hrun⟩, fun h => absurd h (by simp), fun _ _ => ⟨hend, fun _ => hrun⟩⟩
        · simp only [hheld, if_false] at hphase
          have hrun := hphase.resolve_right fun h => h.1
          exact ⟨.inl hrun, fun h => absurd h (by simp), fun _ _ => ⟨hend, fun h => absurd h hheld⟩⟩
    · rw [hne hbc] at hphase hkeep hrel
      exact ⟨hphase, hkeep, fun hmem => hrel ((List.mem_cons.1 hmem).resolve_left hbc)⟩

/-- A refusal step by step: its record, event 19 of a repair, the cause of the first full commit, and the release of what was held. -/
theorem State.rigRefuse_steps {s u v w x : State} {r : Refused}
    (hu : s.refuseRecord r (s.rig.job == some .commit) s.rig.coxJob (sliceAt s.rig.image 0x20 16) = u)
    (hv : (if r.code = 0x0103 && u.rig.job == some .repair then u.raise 19 0x0E01 else u) = v)
    (hw : (if (s.rig.job == some .commit) && !(imgHeader s.rig.image).isPartial && !s.rig.everFull then v.wr BOH_BOOT_ERR 7 else v) = w)
    (hx : (if w.rigState = 3 then w.holdRelease else w) = x) :
    s.rigRefuse r = x.rigIdle.callDone .rig 3 (r.code % 65536 + r.owner.toNat * 4294967296) r.detail.toNat := by
  subst hu hv hw hx; rfl

section
variable {s : State} {r : Refused} (hstate : s.rigState = 3) (hjob : s.rig.job = some .commit) (hfull : s.rig.everFull = true) (hcox : s.rig.coxJob = false)
  (hwait : NothingWaits s) (hcode : r.code ≠ 0x0103) (htype : ∀ b, b ∈ s.rig.listed → bidType b ≠ 0x0F)
include hstate hjob hfull hcox hwait hcode htype

/-- A commit in HOLDING that is refused: its record and event 17, what was held is released, and the controller is idle. -/
theorem State.rigRefuse_holding {u : State} (hu : s.refuseRecord r true false (sliceAt s.rig.image 0x20 16) = u) :
    s.rigRefuse r = (u.rig.listed.foldl (fun u b => u.releaseBlk b) u).rigIdled := by
  have honly : OnlyRegsOcc s u := hu ▸ State.refuseCommit_only s r (sliceAt s.rig.image 0x20 16)
  have hcommit : (s.rig.job == some .commit) = true := by rw [hjob]; rfl
  have hustate : u.rigState = 3 := by
    rw [← hu, State.rigState, State.fld, State.rd_refuseCommit]
    exact (State.refuseShown_state s r).trans hstate
  have hurig : u.rig = s.rig := honly.field State.rig
  have hrelease : u.holdRelease = u.rig.listed.foldl (fun u b => u.releaseBlk b) u := State.holdRelease_eq (by rw [hurig]; exact htype)
  have hframe := (releaseBlk_all u.rig.listed u).1
  have hfirst : ¬ ((s.rig.job == some .commit) && !(imgHeader s.rig.image).isPartial && !s.rig.everFull) = true := by simp [hfull]
  have hno : ¬ (r.code = 0x0103 && u.rig.job == some .repair) = true := by simp [hcode]
  have hrecord : s.refuseRecord r (s.rig.job == some .commit) s.rig.coxJob (sliceAt s.rig.image 0x20 16) = u := by rw [hcommit, hcox, hu]
  rw [State.rigRefuse_steps hrecord (if_neg hno) (if_neg hfirst) (if_pos hustate), hrelease]
  have hidle := NothingWaits.idle (u := u.rig.listed.foldl (fun u b => u.releaseBlk b) u) hwait (by rw [hframe]; exact honly.field fun u => u.rig.cox)
    (by rw [hframe]; exact honly.field State.boot) (by rw [hframe]; exact honly.field State.call)
  rw [hidle]

theorem rigRefuse_holding_shows :
    let t := s.rigRefuse r
    Claims.Refusal t r.step r.code r.owner r.detail ∧ t.rigState = 0 ∧ t.rig.job = none ∧ t.rig.sections = s.rig.sections ∧
      (∀ b, b ∈ s.rig.listed → (s.blkOf b).holdRig = true → (t.blkOf b).holdRig = false ∧ ((s.blkOf b).phase = .held → (t.blkOf b).phase = .running)) ∧
      Raised s t 17 0x0E01 (w32 (r.step * 65536 + r.code)) := by
  intro t
  have ht := State.rigRefuse_holding hstate hjob hfull hcox hwait hcode htype (u := s.refuseRecord r true false (sliceAt s.rig.image 0x20 16)) rfl
  have honly := State.refuseCommit_only s r (sliceAt s.rig.image 0x20 16)
  have hraised := State.refuseCommit_raised s r (sliceAt s.rig.image 0x20 16)
  have hrefusal : Claims.Refusal (s.refuseRecord r true false (sliceAt s.rig.image 0x20 16)) r.step r.code r.owner r.detail :=
    refusal_of_rd (State.refuseShown_refusal s r).1 fun q hq => State.rd_refuseCommit s r _ (by
      simp only [List.mem_cons, List.not_mem_nil, or_false] at hq; rcases hq with rfl | rfl | rfl <;> decide)
  generalize s.refuseRecord r true false (sliceAt s.rig.image 0x20 16) = u at *
  obtain ⟨hframe, hblk⟩ := releaseBlk_all u.rig.listed u
  generalize u.rig.listed.foldl (fun u b => u.releaseBlk b) u = v at *
  have hregs : RegsBut u v.rigIdled [RIG_STATUS.off] := RegsBut.trans (RegsBut.congr (RegsBut.refl u _) (by rw [hframe])) (State.rigIdled_regs v)
  have hrig : u.rig = s.rig := honly.field State.rig
  have hvrig : v.rig = s.rig := by rw [hframe]; exact hrig
  have htv : t = v.rigIdled := ht
  rw [htv]
  refine ⟨?_, State.rigState_rigIdled v, rfl, ?_, fun b hb hhold => ?_, hraised.later ?_ hregs⟩
  · refine refusal_of_rd hrefusal fun q hq => hregs.rd ?_
    simp only [List.mem_cons, List.not_mem_nil, or_false] at hq
    rcases hq with rfl | rfl | rfl <;> decide
  · have hsections : v.rigIdled.rig.sections = v.rig.sections := rfl
    rw [hsections, hvrig]
  · have hsame : u.blkOf b = s.blkOf b := honly.field fun x => x.blkOf b
    obtain ⟨_, _, hrel⟩ := hblk b
    have hrel' := hrel (by rw [hrig]; exact hb) (by rw [hsame]; exact hhold)
    rw [hsame] at hrel'
    exact hrel'
  · rw [State.rigIdled_frame, hframe]

end

theorem holdEndsInRefusal : Claims.HoldEndsInRefusal := by
  intro s
  have habort : Reach s RIG_CMD → exec .rigCmdAbort s = .next (s.settle s.rigAbort) := fun ⟨hup, hacc⟩ =>
    congrArg (fun u => Host.Outcome.next (s.settle u)) (State.hostDo_reach s RIG_CMD true (·.rigAbort) hup hacc)
  refine ⟨fun hreach hstate => ?_, fun hreach hstate hjob hfull hcox hwait htype => ?_, fun b bs hstate hunheld hjob hfull hcox hwait htype => ?_⟩
  · rw [habort hreach, State.rigAbort, if_neg hstate, State.settle_same rfl]
  · obtain ⟨hrefusal, hst, hj, hsec, hblk, hraised⟩ :=
      rigRefuse_holding_shows (r := ⟨8, 0x0504, 0, 0xFFFF1FFF⟩) hstate hjob hfull hcox hwait (show (0x0504 : Nat) ≠ 0x0103 by decide) htype
    obtain ⟨⟨o, hocc, -⟩, -, -⟩ := id hraised
    refine Runs.next ((habort hreach).trans ?_) ⟨hrefusal, hst, hj, hsec, hblk, hraised⟩
    rw [State.rigAbort, if_pos hstate, State.settle_one hocc]
  · obtain ⟨hrefusal, hst, hj, hsec, hblk, hraised⟩ :=
      rigRefuse_holding_shows (r := ⟨8, 0x0502, w32 (b * 65536), detailBlk s.rig.image b⟩) hstate hjob hfull hcox hwait (show (0x0502 : Nat) ≠ 0x0103 by decide) htype
    obtain ⟨⟨o, hocc, -⟩, -, -⟩ := id hraised
    have hval : w32 (8 * 65536 + 0x0502) = 0x80502 := by decide
    rw [hval] at hraised
    refine Runs.next (congrArg Host.Outcome.next ((if_pos hstate).trans ?_)) ⟨hrefusal, hst, hj, hsec, hraised⟩
    rw [State.rigTimeout, hunheld]
    exact State.settle_one hocc

/-! ### REPAIR -/

/-- The state of the controller with a repair as its job. -/
def State.repairJob (s : State) (e p : Nat) : State :=
  s.setRig { s.rig with job := some .repair, image := [], listed := [], repair := (e, p), waiting := false, verdict := none, coxJob := false }

theorem State.rigRepair_free {s : State} {e p : Nat} (he : e < 32) (hp : p < 8) (hbusy : s.rigBusy = false) : s.rigRepair e p =
    if (s.repairJob e p).spareGone e then (s.repairJob e p).rigRefuse ⟨5, 0x0103, 0, 0xFFFF1FFF⟩
    else if !(List.range 8).any (fun l => (s.repairJob e p).physSeat e l == p) then (s.repairJob e p).rigOk.rigIdle.rigAnswer
    else (s.repairJob e p).holdEnter [0x0100 + e] := by
  have hno : ¬ (31 < e || 7 < p) = true := by simp; omega
  rw [State.rigRepair, if_neg hno, if_neg (by simp [hbusy])]
  rfl

/-- With the spare gone a repair is refused with event 19. -/
theorem rigRefuse_repair {u : State} (r : Refused) (hcode : r.code = 0x0103) (hstate : u.rigState = 0) (hjob : u.rig.job = some .repair) (hcox : u.rig.coxJob = false)
    (hwait : NothingWaits u) :
    let t := u.rigRefuse r
    Claims.Refusal t r.step r.code r.owner r.detail ∧ t.rigState = 0 ∧ Raised u t 19 0x0E01 0 := by
  intro t
  have honly := State.refuseShown_only u r
  have hcommit : (u.rig.job == some .commit) = false := by rw [hjob]; rfl
  have hrepair : ((u.refuseShown r).rig.job == some .repair) = true := by rw [honly.field State.rig, hjob]; rfl
  have hstate' : ¬ ((u.refuseShown r).raise 19 0x0E01).rigState = 3 := by
    rw [State.rigState, State.fld, State.rd_raise _ _ _ _ (by decide) (by decide)]
    have := (State.refuseShown_state u r).trans hstate
    rw [State.rigState, State.fld] at this
    omega
  have ht : t = ((u.refuseShown r).raise 19 0x0E01).rigIdled := by
    have hfirst : ¬ ((u.rig.job == some .commit) && !(imgHeader u.rig.image).isPartial && !u.rig.everFull) = true := by simp [hcommit]
    refine (State.rigRefuse_steps (by rw [hcommit, hcox, State.refuseRecord_check]) (if_pos (by simp [hcode, hrepair])) (if_neg hfirst) (if_neg hstate')).trans ?_
    have hcox' : ((u.refuseShown r).raise 19 0x0E01).rig.cox = u.rig.cox := by rw [State.raise_rig]; exact honly.field fun u => u.rig.cox
    have hboot : ((u.refuseShown r).raise 19 0x0E01).boot = u.boot := by rw [State.raise_boot]; exact honly.field State.boot
    have hcall : ((u.refuseShown r).raise 19 0x0E01).call = u.call := by rw [State.raise_call]; exact honly.field State.call
    exact NothingWaits.idle hwait hcox' hboot hcall _ _ _
  have hraised : Raised u ((u.refuseShown r).raise 19 0x0E01) 19 0x0E01 0 :=
    (Raised.of_raise (u.refuseShown r) 19 0x0E01 []).earlier honly.occ (State.refuseShown_regs u r)
  have hregs := State.rigIdled_regs ((u.refuseShown r).raise 19 0x0E01)
  rw [ht]
  refine ⟨?_, State.rigState_rigIdled _, hraised.later (by rw [State.rigIdled_frame]) hregs⟩
  refine refusal_of_rd (State.refuseShown_refusal u r).1 fun q hq => ?_
  simp only [List.mem_cons, List.not_mem_nil, or_false] at hq
  rcases hq with rfl | rfl | rfl <;> exact (hregs.rd (by decide)).trans (State.rd_raise _ _ _ _ (by decide) (by decide))

/-- The hold of one Eight: it is asked to stop, and the controller holds. -/
theorem State.holdEnter_eight {u : State} {e : Nat} (he : e < 32) (hrun : u.running (0x0100 + e) = true) (hno : u.refusedBlk (0x0100 + e) = false) :
    let t := u.holdEnter [0x0100 + e]
    t.rigState = 3 ∧ t.rig = { u.rig with listed := [0x0100 + e], waiting := false } ∧ (t.blkOf (0x0100 + e)).holdRig = true ∧ RegsBut u t [RIG_STATUS.off] ∧
      t = { u with regs := t.regs, rig := t.rig, blk := t.blk } := by
  intro t
  have hphase : (u.blkOf (0x0100 + e)).phase = .running := by simpa [State.running] using hrun
  have htype : bidType (0x0100 + e) = 0x01 := by simp only [bidType]; omega
  generalize hv : (u.setRig { u.rig with listed := [0x0100 + e], waiting := false }).setRigState 3 = v
  generalize hw : v.setBlk (0x0100 + e) { v.blkOf (0x0100 + e) with holdRig := true, skipped := 0 } = w
  have hvblk : v.blkOf (0x0100 + e) = u.blkOf (0x0100 + e) := by rw [← hv]; rfl
  have hask : w.holdAsk (0x0100 + e) = w := State.holdAsk_other (by omega) (by omega)
  have henter : t = w.holdCheck := by
    have hyes : (((v.blkOf (0x0100 + e)).phase = .running) && !bidChip (0x0100 + e)) = true := by
      rw [hvblk, hphase, bidChip, htype]; rfl
    have hfold : t = (if (v.blkOf (0x0100 + e)).phase = .running && !bidChip (0x0100 + e) then
        (v.setBlk (0x0100 + e) { v.blkOf (0x0100 + e) with holdRig := true, skipped := 0 }).holdAsk (0x0100 + e)
      else v.setBlk (0x0100 + e) { v.blkOf (0x0100 + e) with skipped := 0 }).holdCheck := by rw [← hv]; rfl
    rw [hfold, if_pos hyes, hw, hask]
  have hself : w.blkOf (0x0100 + e) = { u.blkOf (0x0100 + e) with holdRig := true, skipped := 0 } := by rw [← hw, State.blkOf_setBlk_self, hvblk]
  have hwregs : RegsBut u w [RIG_STATUS.off] := by
    have hvregs : RegsBut u v [RIG_STATUS.off] := by rw [← hv]; exact RegsBut.setFld (RegsBut.congr (RegsBut.refl u _)) RIG_STATUS _ _
    exact hvregs.congr (by rw [← hw]; rfl)
  have hleft : (0x0100 + e) ∈ w.unheld := by
    refine State.mem_unheld ?_ (by rw [hself]; exact hphase) (by rw [hself]) ?_
    · rw [← hw, ← hv]; exact List.mem_singleton.2 rfl
    · rw [State.refusedBlk_congr hwregs umpId_notRig (by rw [← hw, ← hv]; rfl)]; exact hno
  have honly := State.setHeld_only w (w.rig.listed.length - w.unheld.length)
  have ht : t = w.setHeld (w.rig.listed.length - w.unheld.length) := henter.trans (State.holdCheck_left hleft)
  have hwstate : w.rigState = 3 := by
    rw [← hw, ← hv]; exact State.rigState_setRigState _ (by decide)
  have hwrig : w.rig = { u.rig with listed := [0x0100 + e], waiting := false } := by rw [← hw, ← hv]; rfl
  rw [ht]
  refine ⟨(State.rigState_setHeld w _).trans hwstate, (honly.field State.rig).trans hwrig, ?_, hwregs.trans (State.setHeld_regs w _), ?_⟩
  · rw [honly.field (fun x => x.blkOf (0x0100 + e)), hself]
  · have hrig' : (w.setHeld (w.rig.listed.length - w.unheld.length)).rig = w.rig := honly.field State.rig
    have hblk' : (w.setHeld (w.rig.listed.length - w.unheld.length)).blk = w.blk := honly.field State.blk
    rw [hrig', hblk']
    rw [OnlyRegs] at honly
    exact honly.trans (by rw [← hw, ← hv]; rfl)

theorem repairHoldsTheEight : Claims.RepairHoldsTheEight := by
  intro e p s ⟨hup, hacc⟩
  have hrun : exec (.rigCmdRepair e p) s = .next (s.settle (s.rigRepair e.toNat p.toNat)) :=
    congrArg (fun u => Host.Outcome.next (s.settle u)) (State.hostDo_reach s RIG_CMD true (·.rigRepair e.toNat p.toNat) hup hacc)
  have hstate0 (hbusy : s.rigBusy = false) : s.rigState = 0 := by
    have : (s.rigState != 0) = false := by simp only [State.rigBusy, Bool.or_eq_false_iff] at hbusy; exact hbusy.1
    simpa using this
  refine ⟨fun hrange => ?_, fun he hp hbusy hspare hwait => ?_, fun he hp hbusy hspare hseat hrunning hno => ?_⟩
  · rw [hrun, State.rigRepair, if_pos (by simpa using hrange), State.settle_same rfl]
  · have hrefuse : s.rigRepair e.toNat p.toNat = (s.repairJob e.toNat p.toNat).rigRefuse ⟨5, 0x0103, 0, 0xFFFF1FFF⟩ := by
      rw [State.rigRepair_free he hp hbusy]
      exact if_pos hspare
    obtain ⟨hrefusal, hst, hraised⟩ := rigRefuse_repair (u := s.repairJob e.toNat p.toNat) ⟨5, 0x0103, 0, 0xFFFF1FFF⟩ rfl (hstate0 hbusy) rfl rfl hwait
    obtain ⟨⟨o, hocc, -⟩, -, -⟩ := id hraised
    refine Runs.next (hrun.trans ?_) ⟨hrefusal, hst, hraised⟩
    rw [hrefuse]
    exact congrArg Host.Outcome.next (State.settle_one hocc)
  · have hany : (!(List.range 8).any fun l => (s.repairJob e.toNat p.toNat).physSeat e.toNat l == p.toNat) = false := by
      obtain ⟨l, hl, hls⟩ := hseat
      rw [Bool.not_eq_false']
      exact List.any_eq_true.2 ⟨l, List.mem_range.2 hl, beq_iff_eq.2 hls⟩
    have hspare' : (s.repairJob e.toNat p.toNat).spareGone e.toNat = false := hspare
    have henter : s.rigRepair e.toNat p.toNat = (s.repairJob e.toNat p.toNat).holdEnter [0x0100 + e.toNat] := by
      rw [State.rigRepair_free he hp hbusy, hspare', hany, if_neg Bool.false_ne_true, if_neg Bool.false_ne_true]
    obtain ⟨hst, hrig, hhold, hregs, hframe⟩ := State.holdEnter_eight (u := s.repairJob e.toNat p.toNat) he hrunning hno
    generalize (s.repairJob e.toNat p.toNat).holdEnter [0x0100 + e.toNat] = t at *
    have hocc : t.occ = s.occ := by rw [hframe]; rfl
    refine Runs.next (hrun.trans (by rw [henter, State.settle_same hocc])) ⟨hst, by rw [hrig]; rfl, by rw [hrig]; rfl, by rw [hrig], hhold, hregs, ?_⟩
    exact hframe.trans rfl

/-- Settles O13: HOLDING by the blocks it still waits for, a refusal by what it releases, and REPAIR by the seats it finds. -/
theorem rigHoldsItsBlocks : Obligations.RigHoldsItsBlocks := ⟨holdingHoldsListedBlocks, holdEndsInRefusal, repairHoldsTheEight⟩

end Sys2Proof.Machine
end

section
/-! PROOFS. GDDR7 requests (R89 to R105): bytes in memory, credit and its lack, integrity errors, and the backlog of a Firm stream. -/

-- One proof at a time: the text is compiled as one file in bounded memory.
set_option Elab.async false

namespace Sys2Proof.Machine
open Sys2Proof.Claims

/-! ### Bytes written to memory -/

theorem tabGet_fill_in {α : Type} [DecidableEq α] (d : α) :
    ∀ (vs : List α) (t : Table α) (k i : Nat), i < vs.length → tabGet (tabFill d t k vs) d (k + i) = vs.getD i d
  | [], _, _, _, h => absurd h (Nat.not_lt_zero _)
  | v :: vs, t, k, 0, _ => by
    have hout : tabGet? (tabFill d (tabSet t d k v) (k + 1) vs) k = tabGet? (tabSet t d k v) k := tabGet?_fill_out d vs _ _ _ (Or.inl (by omega))
    have hfirst : tabGet (tabFill d (tabSet t d k v) (k + 1) vs) d k = v := by
      rw [tabGet, hout]
      exact tabGet_set_self t d v k
    exact hfirst
  | v :: vs, t, k, i + 1, h => by
    have hrest := tabGet_fill_in d vs (tabSet t d k v) (k + 1) i (Nat.lt_of_succ_lt_succ h)
    rw [Nat.add_right_comm] at hrest
    exact hrest

/-- A byte written to memory is read there. -/
theorem State.mem_memWrite_in (s : State) (a : Nat) (bs : List Byte) {i : Nat} (h : i < bs.length) : (s.memWrite a bs).mem (a + i) = bs.getD i 0 :=
  tabGet_fill_in memDefault bs s.g7 a i h

/-! ### Metering -/

theorem State.strmOf_setStrm_ne (s : State) {r q : Nat} (x : Strm) (h : q ≠ r) : (s.setStrm r x).strmOf q = s.strmOf q := tabGet_set_ne _ _ _ _ h

/-- The state in which a request within reservation has taken its credit. -/
def State.credited (s : State) (r bytes : Nat) : State :=
  s.setStrm r { s.strmOf r with credit := s.creditNow r - 5000 * 64 * ceilDiv bytes 64, creditAt := s.ticks + 1 }

theorem State.meter_within {s : State} {r bytes : Nat} (h : 5000 * 64 * ceilDiv bytes 64 ≤ s.creditNow r) (waited : Nat) :
    s.meter r bytes waited = s.credited r bytes := by
  unfold State.meter State.creditTake State.credited
  simp only [decide_eq_true h, if_true]

/-- The state in which a request without credit has been delayed. -/
def State.delayed (s : State) (r waited : Nat) : State :=
  (s.setStrm r { s.strmOf r with credit := s.creditNow r, creditAt := s.ticks + 1 }).delayAdd r waited

theorem State.meter_above {s : State} {r bytes : Nat} (h : s.creditNow r < 5000 * 64 * ceilDiv bytes 64) (waited : Nat) :
    s.meter r bytes waited = if (s.delayed r waited).fld (UMP_S_CFG r) UMP_S_CFG_CLASS = 0 then (s.delayed r waited).raiseOnce 26 r 0x0E00
      else s.delayed r waited := by
  unfold State.meter State.creditTake State.delayed
  simp only [decide_eq_false (Nat.not_le.2 h), Bool.false_eq_true, if_false]

theorem State.delayed_regs (s : State) (r waited : Nat) : RegsBut s (s.delayed r waited) [(UMP_S_DELAY_LO r).off] := by
  have hcred : RegsBut s (s.setStrm r { s.strmOf r with credit := s.creditNow r, creditAt := s.ticks + 1 }) [(UMP_S_DELAY_LO r).off] :=
    (RegsBut.refl s _).congr
  exact (hcred.congr (u := (s.setStrm r { s.strmOf r with credit := s.creditNow r, creditAt := s.ticks + 1 }).setStrm r _) rfl).wr (UMP_S_DELAY_LO r) _

theorem State.delayed_delay (s : State) (r waited : Nat) : ((s.delayed r waited).strmOf r).delay = ((s.strmOf r).delay + waited) % 2 ^ 64 := by
  have hstrm : ((s.delayed r waited).strmOf r).delay =
      (((s.setStrm r { s.strmOf r with credit := s.creditNow r, creditAt := s.ticks + 1 }).strmOf r).delay + waited) % 2 ^ 64 :=
    congrArg Strm.delay (State.strmOf_setStrm_self _ r _)
  rw [hstrm, State.strmOf_setStrm_self]

theorem State.rd_delayed (s : State) (r waited : Nat) : (s.delayed r waited).rd (UMP_S_DELAY_LO r) = w32 ((s.strmOf r).delay + waited) := by
  have hlow : (s.delayed r waited).rd (UMP_S_DELAY_LO r) =
      w32 (((s.setStrm r { s.strmOf r with credit := s.creditNow r, creditAt := s.ticks + 1 }).strmOf r).delay + waited) := State.rd_wr_self _ _ _
  rw [hlow, State.strmOf_setStrm_self]

/-- The registers that metering of record `r` can change. -/
def meterRegs (r : Nat) : List Nat := (UMP_S_DELAY_LO r).off :: evRegs 26

theorem State.meter_regs (s : State) (r bytes waited : Nat) : RegsBut s (s.meter r bytes waited) (meterRegs r) := by
  rcases Nat.lt_or_ge (s.creditNow r) (5000 * 64 * ceilDiv bytes 64) with h | h
  · have hdelay : RegsBut s (s.delayed r waited) (meterRegs r) := (s.delayed_regs r waited).mono (by simp [meterRegs])
    rw [State.meter_above h]
    exact (hdelay.trans ((State.raiseOnce_regs _ 26 r 0x0E00 []).mono (by simp [meterRegs]))).ite hdelay
  · rw [State.meter_within h]
    exact (RegsBut.refl s _).congr

/-! ### A request that is served -/

/-- A stream's Course record is found in the records' registers. -/
theorem State.courseRec_congr {s t : State} (hid : ∀ i, i < 1024 → t.rd (UMP_S_ID i) = s.rd (UMP_S_ID i))
    (hcfg : ∀ i, i < 1024 → t.rd (UMP_S_CFG i) = s.rd (UMP_S_CFG i)) (id : Nat) : t.courseRec id = s.courseRec id := by
  refine List.find?_congr fun i hi => ?_
  have hlt := List.mem_range.1 hi
  rw [State.fld, State.fld, hid i hlt, hcfg i hlt]

theorem State.courseRec_meter (s : State) (r bytes waited id : Nat) : (s.meter r bytes waited).courseRec id = s.courseRec id := by
  apply State.courseRec_congr
  all_goals
    intro i hi
    apply (s.meter_regs r bytes waited).rd
    simp only [meterRegs, evRegs, UMP_S_DELAY_LO, UMP_S_ID, UMP_S_CFG, EVT_R_CNT, EVT_R_LAST, List.mem_cons, List.not_mem_nil, or_false, not_or]
    omega

/-- Integrity checks with no failure change nothing (R91, R92). -/
theorem State.g7Check_ok (s : State) (id a : Nat) : s.g7Check id a 0 .ok = s := by
  unfold State.g7Check State.edcFail
  rw [if_pos rfl, if_neg (by decide)]
  exact ite_self _

section
variable {r : Fin 1024} {write : Bool} {a length waited alone course n : Nat} {data : List Byte} {s : State}
  (hn : (if write then data.length else length) = n) (hid : s.rd (UMP_S_ID r) ≠ 0) (htgt : s.fld (UMP_S_CFG r) UMP_S_CFG_TARGET < 2) (hpos : 0 < n)
include hn hid htgt hpos

omit hid htgt hpos in
/-- An address outside the trained capacity is not served (log entry 102). -/
theorem State.g7Request_beyond {fails : Nat} {ecc : EccOutcome} (hcap : (s.rd G7_TRAINED_CAP).toNat * 1048576 < a + n) :
    s.g7Request r write a data length waited alone course fails ecc = s := by
  unfold State.g7Request
  rw [hn]
  exact if_pos (by simp [hcap])

/-- A request of an Iso or Firm record without a Course record is metered on its own record, and a write whose data EDC passed puts its bytes in place. -/
theorem State.g7Request_served {fails : Nat} {ecc : EccOutcome} (hcap : a + n ≤ (s.rd G7_TRAINED_CAP).toNat * 1048576)
    (hcls : s.fld (UMP_S_CFG r) UMP_S_CFG_CLASS < 2) (hcourse : s.courseRec (s.rd (UMP_S_ID r)).toNat = none) (hfails : fails < 4) :
    s.g7Request r write a data length waited alone course fails ecc =
      (if write then (s.meter r n waited).memWrite a data else s.meter r n waited).g7Check (s.rd (UMP_S_ID r)).toNat a fails ecc := by
  have hidNat : (s.rd (UMP_S_ID r)).toNat ≠ 0 := fun h => hid (BitVec.eq_of_toNat_eq h)
  have hserve : s.serve r n waited alone = s.meter r n waited := if_neg (by omega)
  unfold State.g7Request
  rw [hn]
  simp only [hserve, State.courseRec_meter s r n waited _, hcourse, Nat.not_le.2 hfails, if_false]
  rw [if_neg (by simp [hidNat]; omega)]
  cases write <;> rfl

end

/-! ### Settling O14: requests -/

theorem requestWritesItsBytes : RequestWritesItsBytes := by
  unfold RequestWritesItsBytes
  intro r write a data length waited alone course s n c hid htgt hpos
  refine ⟨fun hcap => ?_, fun hcap hcls hcourse hcredit => ?_⟩
  · have hsame : s.g7Request r write a.toNat data length.toNat waited.toNat alone.toNat course.toNat 0 .ok = s :=
      State.g7Request_beyond rfl hcap
    exact congrArg Host.Outcome.next ((congrArg s.settle hsame).trans (State.settle_same rfl))
  · generalize hm : (if write then (s.credited r n).memWrite a.toNat data else s.credited r n) = m
    have hreq : s.g7Request r write a.toNat data length.toNat waited.toNat alone.toNat course.toNat 0 .ok = m := by
      rw [State.g7Request_served rfl hid htgt hpos hcap hcls hcourse (by decide), State.g7Check_ok, State.meter_within hcredit, hm]
    have hocc : m.occ = s.occ := by rw [← hm]; cases write <;> rfl
    have hstrm : m.strm = (s.credited r n).strm := by rw [← hm]; cases write <;> rfl
    refine Runs.next (congrArg Host.Outcome.next ((congrArg s.settle hreq).trans (State.settle_same hocc))) ⟨?_, ?_, ?_, ?_, ?_, ?_⟩
    · intro hw i hi
      subst hw hm
      exact State.mem_memWrite_in _ _ _ hi
    · intro b hb
      subst hm
      cases write with
      | false => rfl
      | true => exact State.mem_memWrite_out (s.credited r n) _ _ hb
    · intro hw
      subst hw hm
      rfl
    · rw [State.strmOf, hstrm]
      exact congrArg Strm.credit (State.strmOf_setStrm_self s r _)
    · intro q hq
      rw [State.strmOf, hstrm]
      exact State.strmOf_setStrm_ne s _ hq
    · subst hm
      cases write <;> rfl

theorem requestAboveReservationIsDelayed : RequestAboveReservationIsDelayed := by
  unfold RequestAboveReservationIsDelayed
  intro r a length waited alone course s hid htgt hpos hcap hcourse hcredit
  have hr := r.isLt
  have hcfg : (s.delayed r waited.toNat).fld (UMP_S_CFG r) UMP_S_CFG_CLASS = s.fld (UMP_S_CFG r) UMP_S_CFG_CLASS := by
    rw [State.fld, State.fld, (s.delayed_regs r waited.toNat).rd (by simp [UMP_S_CFG, UMP_S_DELAY_LO])]
  have hreq (hcls : s.fld (UMP_S_CFG r) UMP_S_CFG_CLASS < 2) :
      s.g7Request r false a.toNat [] length.toNat waited.toNat alone.toNat course.toNat 0 .ok = s.meter r length.toNat waited.toNat :=
    (State.g7Request_served (n := length.toNat) rfl hid htgt hpos hcap hcls hcourse (by decide)).trans (State.g7Check_ok _ _ _)
  have hcnt : (EVT_R_CNT 26).off ∉ [(UMP_S_DELAY_LO r).off] := by simp only [EVT_R_CNT, UMP_S_DELAY_LO, List.mem_singleton]; omega
  have hlow : (UMP_S_DELAY_LO r).off ≠ (EVT_R_CNT 26).off ∧ (UMP_S_DELAY_LO r).off ≠ (EVT_R_LAST 26).off := by
    simp only [UMP_S_DELAY_LO, EVT_R_CNT, EVT_R_LAST]; omega
  refine ⟨fun hiso hfirst => ?_, fun hfirm => ?_⟩
  · have honce : s.meter r length.toNat waited.toNat = ({ s.delayed r waited.toNat with roundFlags := (26, r.val) :: s.roundFlags } : State).raise 26 0x0E00 := by
      rw [State.meter_above hcredit, if_pos (hcfg.trans hiso)]
      exact if_neg (by rw [show (s.delayed r waited.toNat).roundFlags = s.roundFlags from rfl, hfirst]; exact Bool.false_ne_true)
    have hregs : RegsBut s ({ s.delayed r waited.toNat with roundFlags := (26, r.val) :: s.roundFlags } : State) [(UMP_S_DELAY_LO r).off] :=
      (s.delayed_regs r waited.toNat).congr
    have hrun : s.settle (s.g7Request r false a.toNat [] length.toNat waited.toNat alone.toNat course.toNat 0 .ok) =
        ({ s.delayed r waited.toNat with roundFlags := (26, r.val) :: s.roundFlags } : State).raise 26 0x0E00 := by
      rw [hreq (by omega), honce]
      exact State.settle_raise 26 0x0E00 [] rfl
    refine Runs.next (congrArg Host.Outcome.next hrun) ⟨s.delayed_delay r waited.toNat, ?_, State.raised_raise 26 0x0E00 [] rfl (hregs.rd hcnt), rfl, ?_⟩
    · exact (State.rd_raise _ _ _ _ hlow.1 hlow.2).trans (s.rd_delayed r waited.toNat)
    · exact (hregs.mono (by simp)).raise 26 0x0E00 [] (by simp)
  · have hquiet : s.settle (s.g7Request r false a.toNat [] length.toNat waited.toNat alone.toNat course.toNat 0 .ok) = s.delayed r waited.toNat := by
      rw [hreq (by omega), State.meter_above hcredit, if_neg (by rw [hcfg, hfirm]; decide)]
      exact State.settle_same rfl
    exact Runs.next (congrArg Host.Outcome.next hquiet) ⟨s.delayed_delay r waited.toNat, rfl, rfl, s.delayed_regs r waited.toNat⟩

theorem integrityErrorsCount : IntegrityErrorsCount := by
  unfold IntegrityErrorsCount
  intro r a length waited alone course s hid htgt hpos hcls hcap hcourse hcredit
  have hreq (fails : Nat) (ecc : EccOutcome) (hf : fails < 4) :
      s.g7Request r false a.toNat [] length.toNat waited.toNat alone.toNat course.toNat fails ecc =
        (s.credited r length.toNat).g7Check (s.rd (UMP_S_ID r)).toNat a.toNat fails ecc := by
    rw [State.g7Request_served (n := length.toNat) rfl hid htgt hpos hcap hcls hcourse hf, State.meter_within hcredit]
    rfl
  refine ⟨fun fails hpos' hf hiecc hfew => ?_, fun hiecc hfirst => ?_, fun ch => rfl⟩
  · let c := (s.credited r length.toNat).inc (G7_EDC_RETRY_CNT (a.toNat / 256 % 8)) (min 4 fails.val - 1)
    let t : State := { c with edc := tabSet s.edc 0 (a.toNat / 256 % 8) (tabGet s.edc 0 (a.toNat / 256 % 8) + min 3 fails.val) }
    have hedc : (s.credited r length.toNat).edcFail (g7Channel a.toNat) fails.val = t := by
      unfold State.edcFail
      rw [if_neg (by omega)]
      refine if_neg ?_
      rw [Bool.and_eq_true, decide_eq_true_eq, decide_eq_true_eq]
      exact fun h => absurd h.2 (Nat.not_le.2 (by
        have hsame : tabGet (s.credited r length.toNat).edc 0 (g7Channel a.toNat) = tabGet s.edc 0 (a.toNat / 256 % 8) := rfl
        change tabGet (s.credited r length.toNat).edc 0 (g7Channel a.toNat) + min 3 fails.val < 16
        rw [hsame]; omega))
    have hcfg : t.bit G7_CONFIG G7_CONFIG_IECC = false := by
      have hrd : t.rd G7_CONFIG = s.rd G7_CONFIG :=
        State.rd_wr_ne (s.credited r length.toNat) _ (by simp only [G7_CONFIG, G7_EDC_RETRY_CNT]; omega)
      rw [State.bit, hrd]
      exact hiecc
    have hcheck : (s.credited r length.toNat).g7Check (s.rd (UMP_S_ID r)).toNat a.toNat fails.val .ok = t := by
      unfold State.g7Check
      rw [hedc, if_neg (by omega), if_pos (by simp [hcfg])]
    have hrun : s.settle (s.g7Request r false a.toNat [] length.toNat waited.toNat alone.toNat course.toNat fails.val .ok) = t := by
      rw [hreq _ _ hf, hcheck]
      exact State.settle_same rfl
    refine Runs.next (congrArg Host.Outcome.next hrun) ⟨?_, ?_, rfl, rfl⟩
    · rw [show fails.val - 1 = min 4 fails.val - 1 by omega]
      exact State.rd_wr_self (s.credited r length.toNat) _ _
    · rw [show fails.val = min 3 fails.val by omega]
      refine (tabGet_set_self _ _ _ _).trans ?_
      omega
  · let c := (s.credited r length.toNat).inc G7_ECC_CORR_CNT
    have hcorr : (s.credited r length.toNat).g7Check (s.rd (UMP_S_ID r)).toNat a.toNat 0 .corrected =
        ({ c with roundFlags := (29, 0) :: s.roundFlags } : State).raise 29 0x0E00 := by
      unfold State.g7Check State.edcFail
      rw [if_pos rfl, if_neg (by decide), if_neg (by rw [show (s.credited r length.toNat).bit G7_CONFIG G7_CONFIG_IECC = true from hiecc]; decide)]
      exact if_neg (by rw [show ((s.credited r length.toNat).inc G7_ECC_CORR_CNT).roundFlags = s.roundFlags from rfl, hfirst]; exact Bool.false_ne_true)
    have hrun : s.settle (s.g7Request r false a.toNat [] length.toNat waited.toNat alone.toNat course.toNat 0 .corrected) =
        ({ c with roundFlags := (29, 0) :: s.roundFlags } : State).raise 29 0x0E00 := by
      rw [hreq _ _ (by decide), hcorr]
      exact State.settle_raise 29 0x0E00 [] rfl
    refine Runs.next (congrArg Host.Outcome.next hrun) ⟨?_, State.raised_raise 29 0x0E00 [] rfl ?_, rfl⟩
    · exact (State.rd_raise _ _ _ _ (by decide) (by decide)).trans (State.rd_wr_self (s.credited r length.toNat) _ _)
    · exact State.rd_wr_ne (s.credited r length.toNat) _ (by decide)

/-! ### Settling O14: the backlog of a Firm stream -/

/-- The registers that a change of a record's backlog can change. -/
def backlogRegs (r : Nat) : List Nat := [(UMP_S_BKL_NOW r).off, (UMP_S_BKL_PEAK r).off] ++ evRegs 25

theorem State.backlogShown_regs (s : State) (r bytes : Nat) : RegsBut s (s.backlogShown r bytes) (backlogRegs r) :=
  ((RegsBut.refl s (backlogRegs r)).wr (UMP_S_BKL_NOW r) _ (by simp [backlogRegs])).wr (UMP_S_BKL_PEAK r) _ (by simp [backlogRegs])

/-- What a change of a record's backlog leaves: nothing but its record, its registers and event 25 changes. -/
theorem State.backlogSet_cases (s : State) (r bytes : Nat) : ∃ b, s.backlogSet r bytes =
      ((s.backlogShown r bytes).setStrm r { s.strmOf r with backlog := bytes, highRaised := b }).raise 25 0x0E00 ∨
    s.backlogSet r bytes = (s.backlogShown r bytes).setStrm r { s.strmOf r with backlog := bytes, highRaised := b } := by
  by_cases h : 3 * s.backlogMax r < 4 * bytes → (s.strmOf r).highRaised = true
  · exact ⟨_, Or.inr (State.backlogSet_quiet h)⟩
  · obtain ⟨h34, hx⟩ := Classical.not_imp.1 h
    exact ⟨true, Or.inl (State.backlogSet_first h34 (Bool.eq_false_iff.2 hx))⟩

theorem State.strmOf_backlogSet (s : State) (r bytes : Nat) : ∃ b, (s.backlogSet r bytes).strmOf r = { s.strmOf r with backlog := bytes, highRaised := b } := by
  obtain ⟨b, h | h⟩ := s.backlogSet_cases r bytes
  · exact ⟨b, by rw [h]; exact (State.strmOf_raise ..).trans (State.strmOf_setStrm_self _ _ _)⟩
  · exact ⟨b, by rw [h]; exact State.strmOf_setStrm_self _ _ _⟩

theorem State.backlogSet_regs (s : State) (r bytes : Nat) : RegsBut s (s.backlogSet r bytes) (backlogRegs r) := by
  obtain ⟨b, h | h⟩ := s.backlogSet_cases r bytes
  · rw [h]
    exact ((s.backlogShown_regs r bytes).congr (u := (s.backlogShown r bytes).setStrm r _) rfl).raise 25 0x0E00 [] (by simp [backlogRegs])
  · rw [h]
    exact (s.backlogShown_regs r bytes).congr

theorem State.rd_backlogSet_now (s : State) (r bytes : Nat) (hr : r < 1024) :
    (s.backlogSet r bytes).rd (UMP_S_BKL_NOW r) = w32 (ceilDiv bytes 1024) := by
  have hshown : (s.backlogShown r bytes).rd (UMP_S_BKL_NOW r) = w32 (ceilDiv bytes 1024) :=
    (State.rd_wr_ne _ _ (by simp [UMP_S_BKL_NOW, UMP_S_BKL_PEAK])).trans (State.rd_wr_self _ _ _)
  have hne : (UMP_S_BKL_NOW r).off ≠ (EVT_R_CNT 25).off ∧ (UMP_S_BKL_NOW r).off ≠ (EVT_R_LAST 25).off := by
    simp only [UMP_S_BKL_NOW, EVT_R_CNT, EVT_R_LAST]; omega
  obtain ⟨b, h | h⟩ := s.backlogSet_cases r bytes
  · rw [h, State.rd_raise _ _ _ _ hne.1 hne.2]
    exact hshown
  · rw [h]
    exact hshown

theorem State.g7_backlogSet (s : State) (r bytes : Nat) : (s.backlogSet r bytes).g7 = s.g7 := by
  obtain ⟨b, h | h⟩ := s.backlogSet_cases r bytes <;> rw [h] <;> rfl

theorem State.tb0_backlogSet (s : State) (r bytes : Nat) : (s.backlogSet r bytes).tb0 = s.tb0 := by
  obtain ⟨b, h | h⟩ := s.backlogSet_cases r bytes <;> rw [h] <;> rfl

section
variable {r : Fin 1024} {n taken : Nat} {s : State} (hid : s.rd (UMP_S_ID r) ≠ 0#32) (htgt : s.fld (UMP_S_CFG r) UMP_S_CFG_TARGET = 1)
  (hcls : s.fld (UMP_S_CFG r) UMP_S_CFG_CLASS = 1) (hstop : s.rd (UMP_S_STOP r) = 0) (href : (s.strmOf r).refused = false)
include hid htgt hcls hstop href

/-- Bytes that queue and BACKLOG have room for are held (R99). -/
theorem State.produce_fits (hfit : (s.strmOf r).backlog + (s.strmOf r).queued - taken + n ≤ (s.rd (UMP_S_QUEUE r)).toNat % 65536 * 1024 + s.backlogMax r)
    (hpos : 0 < s.backlogMax r) : s.produce r n taken = s.strmHold r ((s.strmOf r).backlog + (s.strmOf r).queued - taken + n) := by
  have hpos' : (s.strmHold r ((s.strmOf r).backlog + (s.strmOf r).queued - taken + n)).backlogMax r ≠ 0 := by rw [State.backlogMax_strmHold]; omega
  simp only [State.produce, Nat.min_eq_right hfit]
  rw [if_neg (by simp [hid, htgt, hcls, hstop, href]), if_neg (by simp [hpos', Nat.not_lt.2 hfit])]

/-- Bytes beyond queue and BACKLOG fill both, and refuse the stream (R100). -/
theorem State.produce_over (hover : (s.rd (UMP_S_QUEUE r)).toNat % 65536 * 1024 + s.backlogMax r < (s.strmOf r).backlog + (s.strmOf r).queued - taken + n)
    {h u : State} (hheld : s.strmHold r ((s.rd (UMP_S_QUEUE r)).toNat % 65536 * 1024 + s.backlogMax r) = h)
    (hu : (h.streamRefuse r).refusedStop (h.rd (UMP_S_ID r)).toNat = u) (hrig : u.rigState ≠ 3) : s.produce r n taken = u := by
  subst hheld hu
  simp only [State.produce, Nat.min_eq_left (Nat.le_of_lt hover)]
  rw [if_neg (by simp [hid, htgt, hcls, hstop, href]), if_pos (by simp [hover]), if_neg hrig]

end

theorem State.refusedStop_other {s : State} {id : Nat} (h : bidType (id / 65536) ∉ [0x05, 0x08, 0x09, 0x0A, 0x0C]) : s.refusedStop id = s := by
  unfold State.refusedStop
  dsimp only
  simp only [List.mem_cons, List.not_mem_nil, or_false, not_or] at h
  obtain ⟨h5, h8, h9, hA, hC⟩ := h
  split <;> first | contradiction | rfl

/-- The state in which a record has stopped and shows its refusal (R100). -/
def State.refusalKept (s : State) (r : Nat) : State :=
  (((((s.setStrm r { s.strmOf r with refused := true }).wr (UMP_S_STOP r) 6).wr (UMP_S_REFUSAL r) 0x00010204).wr (UMP_S_REFUSAL_TIME r) s.ns).inc UMP_RT_REFUSE_CNT)

theorem State.streamRefuse_eq {s : State} {r : Nat} (hstop : s.rd (UMP_S_STOP r) = 0) :
    s.streamRefuse r = (s.refusalKept r).raise 24 0x0E00 [(s.refusalKept r).rd (UMP_S_ID r)] := by
  have hkept : (if (s.setStrm r { s.strmOf r with refused := true }).rd (UMP_S_STOP r) = 0 then
      (s.setStrm r { s.strmOf r with refused := true }).wr (UMP_S_STOP r) 6 else s.setStrm r { s.strmOf r with refused := true }) =
      (s.setStrm r { s.strmOf r with refused := true }).wr (UMP_S_STOP r) 6 := if_pos hstop
  unfold State.streamRefuse State.refusalKept
  dsimp only
  rw [hkept]
  rfl

/-- The registers that a refusal of record `r` at run time can change. -/
def refusalRegs (r : Nat) : List Nat := [(UMP_S_STOP r).off, (UMP_S_REFUSAL r).off, (UMP_S_REFUSAL_TIME r).off, UMP_RT_REFUSE_CNT.off]

theorem State.refusalKept_regs (s : State) (r : Nat) : RegsBut s (s.refusalKept r) (refusalRegs r) := by
  have hset : RegsBut s (s.setStrm r { s.strmOf r with refused := true }) (refusalRegs r) := (RegsBut.refl s _).congr
  exact (((hset.wr (UMP_S_STOP r) 6 (by simp [refusalRegs])).wr (UMP_S_REFUSAL r) _ (by simp [refusalRegs])).wr (UMP_S_REFUSAL_TIME r) _
    (by simp [refusalRegs])).inc UMP_RT_REFUSE_CNT _ (by simp [refusalRegs])

section
variable (s : State) {r : Nat} (hr : r < 1024)
include hr

theorem State.rd_refusalKept_stop : (s.refusalKept r).rd (UMP_S_STOP r) = 6 := by
  have h1 : (UMP_S_STOP r).off ≠ UMP_RT_REFUSE_CNT.off := by simp only [UMP_S_STOP, UMP_RT_REFUSE_CNT]; omega
  have h2 : (UMP_S_STOP r).off ≠ (UMP_S_REFUSAL_TIME r).off := by simp only [UMP_S_STOP, UMP_S_REFUSAL_TIME]; omega
  have h3 : (UMP_S_STOP r).off ≠ (UMP_S_REFUSAL r).off := by simp only [UMP_S_STOP, UMP_S_REFUSAL]; omega
  rw [State.refusalKept, State.inc_eq, State.rd_wr_ne _ _ h1, State.rd_wr_ne _ _ h2, State.rd_wr_ne _ _ h3, State.rd_wr_self]

theorem State.rd_refusalKept_refusal : (s.refusalKept r).rd (UMP_S_REFUSAL r) = 0x00010204 := by
  have h1 : (UMP_S_REFUSAL r).off ≠ UMP_RT_REFUSE_CNT.off := by simp only [UMP_S_REFUSAL, UMP_RT_REFUSE_CNT]; omega
  have h2 : (UMP_S_REFUSAL r).off ≠ (UMP_S_REFUSAL_TIME r).off := by simp only [UMP_S_REFUSAL, UMP_S_REFUSAL_TIME]; omega
  rw [State.refusalKept, State.inc_eq, State.rd_wr_ne _ _ h1, State.rd_wr_ne _ _ h2, State.rd_wr_self]

theorem State.rd_refusalKept_time : (s.refusalKept r).rd (UMP_S_REFUSAL_TIME r) = s.ns := by
  have h1 : (UMP_S_REFUSAL_TIME r).off ≠ UMP_RT_REFUSE_CNT.off := by simp only [UMP_S_REFUSAL_TIME, UMP_RT_REFUSE_CNT]; omega
  rw [State.refusalKept, State.inc_eq, State.rd_wr_ne _ _ h1, State.rd_wr_self]

theorem State.rd_refusalKept_count : (s.refusalKept r).rd UMP_RT_REFUSE_CNT = satAdd (s.rd UMP_RT_REFUSE_CNT) 1 := by
  have h1 : UMP_RT_REFUSE_CNT.off ≠ (UMP_S_STOP r).off := by simp only [UMP_S_STOP, UMP_RT_REFUSE_CNT]; omega
  have h2 : UMP_RT_REFUSE_CNT.off ≠ (UMP_S_REFUSAL r).off := by simp only [UMP_S_REFUSAL, UMP_RT_REFUSE_CNT]; omega
  have h3 : UMP_RT_REFUSE_CNT.off ≠ (UMP_S_REFUSAL_TIME r).off := by simp only [UMP_S_REFUSAL_TIME, UMP_RT_REFUSE_CNT]; omega
  rw [State.refusalKept, State.inc_eq, State.rd_wr_self, State.rd_wr_ne _ _ h3, State.rd_wr_ne _ _ h2, State.rd_wr_ne _ _ h1]
  rfl

end

theorem State.strmOf_refusalKept (s : State) (r : Nat) : (s.refusalKept r).strmOf r = { s.strmOf r with refused := true } := State.strmOf_setStrm_self s r _

/-! ### A record's bytes after they are held -/

section
variable (s : State) (r : Fin 1024) (x : Nat)

theorem State.strmOf_strmHold : ∃ b, (s.strmHold r x).strmOf r =
    { s.strmOf r with queued := min ((s.rd (UMP_S_QUEUE r)).toNat % 65536 * 1024) x, backlog := x - (s.rd (UMP_S_QUEUE r)).toNat % 65536 * 1024,
                      highRaised := b } := by
  obtain ⟨b, hb⟩ := (s.queueFilled r x).strmOf_backlogSet r (x - (s.rd (UMP_S_QUEUE r)).toNat % 65536 * 1024)
  refine ⟨b, ?_⟩
  rw [State.strmHold_eq, hb, State.queueFilled, State.strmOf_setStrm_self]

theorem State.strmHold_regs : RegsBut s (s.strmHold r x) (backlogRegs r) := by
  rw [State.strmHold_eq]
  exact ((RegsBut.refl s (backlogRegs r)).congr (u := s.queueFilled r x) rfl).trans (State.backlogSet_regs _ _ _)

/-- Registers of a record other than its backlog's, and all below the records, stand. -/
theorem State.rd_strmHold {g : Reg} (hnow : g.off ≠ (UMP_S_BKL_NOW r).off) (hpeak : g.off ≠ (UMP_S_BKL_PEAK r).off) (hev : g.off < 0x300000) :
    (s.strmHold r x).rd g = s.rd g := by
  apply (s.strmHold_regs r x).rd
  simp only [backlogRegs, evRegs, EVT_R_CNT, EVT_R_LAST, List.mem_cons, List.mem_append, List.not_mem_nil, or_false, not_or]
  exact ⟨⟨hnow, hpeak⟩, by omega, by omega⟩

theorem State.rd_strmHold_stop : (s.strmHold r x).rd (UMP_S_STOP r) = s.rd (UMP_S_STOP r) := by
  have hr := r.isLt
  apply State.rd_strmHold
  all_goals simp only [UMP_S_STOP, UMP_S_BKL_NOW, UMP_S_BKL_PEAK]; omega

theorem State.rd_strmHold_id : (s.strmHold r x).rd (UMP_S_ID r) = s.rd (UMP_S_ID r) := by
  have hr := r.isLt
  apply State.rd_strmHold
  all_goals simp only [UMP_S_ID, UMP_S_BKL_NOW, UMP_S_BKL_PEAK]; omega

theorem State.rd_strmHold_low {g : Reg} (hg : g.off < 0x10000 ∨ 0x20000 ≤ g.off ∧ g.off < 0x300000) : (s.strmHold r x).rd g = s.rd g := by
  have hr := r.isLt
  exact State.rd_strmHold s r x (by simp only [UMP_S_BKL_NOW]; omega) (by simp only [UMP_S_BKL_PEAK]; omega) (by omega)

theorem State.mem_strmHold (a : Nat) : (s.strmHold r x).mem a = s.mem a := by
  rw [State.strmHold_eq, State.mem, State.g7_backlogSet]
  rfl

theorem State.tb0_strmHold : (s.strmHold r x).tb0 = s.tb0 := by
  rw [State.strmHold_eq, State.tb0_backlogSet]
  rfl

end

/-! ### A refusal at run time -/

section
variable {s : State} {r : Fin 1024}

/-- The registers above the events' are not the refusal's. -/
theorem State.rd_refused_low {g : Reg} (hg : g.off < 0x300000) (id : Word) :
    ((s.refusalKept r).raise 24 0x0E00 [id]).rd g = (s.refusalKept r).rd g :=
  State.rd_raise _ _ _ _ (by simp only [EVT_R_CNT]; omega) (by simp only [EVT_R_LAST]; omega)

theorem State.rd_refusalKept_id : (s.refusalKept r).rd (UMP_S_ID r) = s.rd (UMP_S_ID r) := by
  have hr := r.isLt
  apply (s.refusalKept_regs r).rd
  simp only [refusalRegs, UMP_S_ID, UMP_S_STOP, UMP_S_REFUSAL, UMP_S_REFUSAL_TIME, UMP_RT_REFUSE_CNT, List.mem_cons, List.not_mem_nil, or_false, not_or]
  omega

/-- A stream of a block without a stop of its own refuses with its record and event 24 alone. -/
theorem State.streamRefuse_refusedStop (hstop : s.rd (UMP_S_STOP r) = 0)
    (hother : bidType ((s.rd (UMP_S_ID r)).toNat / 65536) ∉ [0x05, 0x08, 0x09, 0x0A, 0x0C]) :
    (s.streamRefuse r).refusedStop (s.rd (UMP_S_ID r)).toNat = (s.refusalKept r).raise 24 0x0E00 [s.rd (UMP_S_ID r)] := by
  rw [State.refusedStop_other hother, State.streamRefuse_eq hstop, State.rd_refusalKept_id]

theorem State.rigState_refused (id : Word) : ((s.refusalKept r).raise 24 0x0E00 [id]).rigState = s.rigState := by
  have hr := r.isLt
  have hrd : ((s.refusalKept r).raise 24 0x0E00 [id]).rd RIG_STATUS = s.rd RIG_STATUS := by
    refine (State.rd_refused_low (by decide) id).trans ((s.refusalKept_regs r).rd ?_)
    simp only [refusalRegs, RIG_STATUS, UMP_S_STOP, UMP_S_REFUSAL, UMP_S_REFUSAL_TIME, UMP_RT_REFUSE_CNT, List.mem_cons, List.not_mem_nil, or_false, not_or]
    omega
  rw [State.rigState, State.fld, hrd]
  rfl

end

/-- What a refusal of record `r` at run time shows (R100). -/
theorem State.refused_shows (h : State) (r : Fin 1024) (id : Word) (u : State) (hu : (h.refusalKept r).raise 24 0x0E00 [id] = u) :
    u.rd (UMP_S_STOP r) = 6 ∧ u.rd (UMP_S_REFUSAL r) = 0x00010204 ∧ u.rd (UMP_S_REFUSAL_TIME r) = h.ns ∧
    u.rd UMP_RT_REFUSE_CNT = satAdd (h.rd UMP_RT_REFUSE_CNT) 1 ∧ u.rd (EVT_R_LAST 24) = id ∧ u.strmOf r = { h.strmOf r with refused := true } := by
  have hr := r.isLt
  subst hu
  refine ⟨?_, ?_, ?_, ?_, State.rd_raise_last _ _ _ _, ?_⟩
  · exact (State.rd_refused_low (by simp only [UMP_S_STOP]; omega) id).trans (h.rd_refusalKept_stop hr)
  · exact (State.rd_refused_low (by simp only [UMP_S_REFUSAL]; omega) id).trans (h.rd_refusalKept_refusal hr)
  · exact (State.rd_refused_low (by simp only [UMP_S_REFUSAL_TIME]; omega) id).trans (h.rd_refusalKept_time hr)
  · exact (State.rd_refused_low (by simp only [UMP_RT_REFUSE_CNT]; omega) id).trans (h.rd_refusalKept_count hr)
  · rw [State.strmOf_raise, State.strmOf_refusalKept]

theorem State.mem_settle (s t : State) (a : Nat) : (s.settle t).mem a = t.mem a := rfl

theorem State.ns_congr {s t : State} (h : t.tb0 = s.tb0) : t.ns = s.ns := by rw [State.ns, State.ns, h]

section
variable {r : Fin 1024} {n taken : Word} {s : State} (hid : s.rd (UMP_S_ID r) ≠ 0#32) (htgt : s.fld (UMP_S_CFG r) UMP_S_CFG_TARGET = 1)
  (hcls : s.fld (UMP_S_CFG r) UMP_S_CFG_CLASS = 1) {q m total : Nat} (hq : (s.rd (UMP_S_QUEUE r)).toNat % 65536 * 1024 = q) (hm : s.backlogMax r = m)
  (ht : (s.strmOf r).backlog + (s.strmOf r).queued - taken.toNat + n.toNat = total)
include hid htgt hcls hq hm ht

/-- Bytes with room are held in queue and backlog, and shown (R99, R105). -/
theorem produced_fits (hstop : s.rd (UMP_S_STOP r) = 0) (href : (s.strmOf r).refused = false) (hfit : total ≤ q + m) (hpos : 0 < m) :
    Runs (.streamDataProduced r n taken) s (fun t =>
      (t.strmOf r).queued = min q total ∧ (t.strmOf r).backlog = total - q ∧ t.rd (UMP_S_BKL_NOW r) = w32 (ceilDiv (total - q) 1024) ∧
      t.rd (UMP_S_STOP r) = 0 ∧ SameMem s t) := by
  subst hq hm ht
  obtain ⟨b, hb⟩ := s.strmOf_strmHold r ((s.strmOf r).backlog + (s.strmOf r).queued - taken.toNat + n.toNat)
  refine Runs.next (congrArg (fun u => Host.Outcome.next (s.settle u)) (State.produce_fits hid htgt hcls hstop href hfit hpos))
    ⟨?_, ?_, ?_, ?_, fun a => (State.mem_settle _ _ a).trans (s.mem_strmHold r _ a)⟩
  · rw [State.strmOf_settle, hb]
  · rw [State.strmOf_settle, hb]
  · rw [State.rd_settle, State.strmHold_eq, State.rd_backlogSet_now _ _ _ r.isLt]
  · rw [State.rd_settle, State.rd_strmHold_stop, hstop]

/-- Bytes without room refuse the stream (R100). -/
theorem produced_over (hstop : s.rd (UMP_S_STOP r) = 0) (href : (s.strmOf r).refused = false) (hover : q + m < total)
    (hother : bidType ((s.rd (UMP_S_ID r)).toNat / 65536) ∉ [0x05, 0x08, 0x09, 0x0A, 0x0C]) (hrig : s.rigState ≠ 3) :
    Runs (.streamDataProduced r n taken) s (fun t =>
        t.rd (UMP_S_STOP r) = 6 ∧ t.rd (UMP_S_REFUSAL r) = 0x00010204 ∧ t.rd (UMP_S_REFUSAL_TIME r) = s.ns ∧ (t.strmOf r).refused = true ∧
        t.rd UMP_RT_REFUSE_CNT = satAdd (s.rd UMP_RT_REFUSE_CNT) 1 ∧ t.rd (EVT_R_LAST 24) = s.rd (UMP_S_ID r) ∧ (t.strmOf r).backlog = m) := by
  obtain ⟨b, hb⟩ := s.strmOf_strmHold r (q + m)
  generalize hheld : s.strmHold r (q + m) = h at hb
  have hstop' : h.rd (UMP_S_STOP r) = 0 := by rw [← hheld, State.rd_strmHold_stop, hstop]
  have hidh : h.rd (UMP_S_ID r) = s.rd (UMP_S_ID r) := by rw [← hheld, State.rd_strmHold_id]
  have hns : h.ns = s.ns := State.ns_congr (by rw [← hheld, State.tb0_strmHold])
  have hcnt : h.rd UMP_RT_REFUSE_CNT = s.rd UMP_RT_REFUSE_CNT := by rw [← hheld, State.rd_strmHold_low _ _ _ (by decide)]
  have hrigh : h.rigState = s.rigState := by
    rw [State.rigState, State.rigState, State.fld, State.fld, ← hheld, State.rd_strmHold_low _ _ _ (by decide)]
  generalize hu : (h.refusalKept r).raise 24 0x0E00 [h.rd (UMP_S_ID r)] = u
  have hrigu : u.rigState ≠ 3 := by rw [← hu, State.rigState_refused, hrigh]; exact hrig
  have hrun : s.produce r n.toNat taken.toNat = u := by
    refine State.produce_over hid htgt hcls hstop href (by rw [hq, hm, ht]; exact hover) (h := h) (by rw [hq, hm]; exact hheld) ?_ hrigu
    rw [State.streamRefuse_refusedStop hstop' (by rw [hidh]; exact hother), hu]
  obtain ⟨h1, h2, h3, h4, h5, h6⟩ := h.refused_shows r _ u hu
  refine Runs.next (congrArg (fun u => Host.Outcome.next (s.settle u)) hrun) ⟨?_, ?_, ?_, ?_, ?_, ?_, ?_⟩
  · rw [State.rd_settle, h1]
  · rw [State.rd_settle, h2]
  · rw [State.rd_settle, h3, hns]
  · rw [State.strmOf_settle, h6]
  · rw [State.rd_settle, h4, hcnt]
  · rw [State.rd_settle, h5, hidh]
  · rw [State.strmOf_settle, h6, hb]
    change q + m - _ = m
    rw [hq, Nat.add_sub_cancel_left]

end

theorem firmStreamBacklog : FirmStreamBacklog := by
  unfold FirmStreamBacklog
  intro r n taken s q total hid htgt hcls
  refine ⟨produced_fits hid htgt hcls rfl rfl rfl, produced_over hid htgt hcls rfl rfl rfl, fun hstop => ?_, ?_⟩
  · have hstop' : s.rd (UMP_S_STOP r) ≠ 0#32 := hstop
    have hsame : s.produce r n.toNat taken.toNat = s := if_pos (by simp [hstop'])
    exact congrArg Host.Outcome.next ((congrArg s.settle hsame).trans (State.settle_same rfl))
  · obtain ⟨b, hb⟩ := s.strmOf_strmHold r ((s.strmOf r).backlog + (s.strmOf r).queued - n.toNat)
    refine Runs.next (exec_streamDataConsumed_firm hid htgt hcls) ⟨?_, ?_, ?_⟩
    · rw [State.strmOf_settle, hb]
    · rw [State.strmOf_settle, hb]
    · rw [State.rd_settle, State.rd_strmHold_stop]

/-- Settles O14: requests move their bytes and credit, errors count, and a Firm stream's bytes are held or refused. -/
theorem memoryTrafficAndStreams : Obligations.MemoryTrafficAndStreams := by
  unfold Obligations.MemoryTrafficAndStreams
  exact ⟨requestWritesItsBytes, requestAboveReservationIsDelayed, integrityErrorsCount, firmStreamBacklog⟩

end Sys2Proof.Machine
end

section
/-! PROOFS. What a head's ports are read from, and how a head changes its bring-up stage (R153, R163). -/

-- One proof at a time: the text is compiled as one file in bounded memory.
set_option Elab.async false

namespace Sys2Proof.Machine
open Sys2Proof.Claims

/-! ### The registers that shape the heads -/

/-- An offset that holds no SPT_P_CFG, SPT_H_CFG, SPT_H_GEOM or SPT_H_FMT. -/
def notShape (o : Nat) : Prop := o < 0x1000000 ∨ o % 0x10000 ≠ 0 ∧ o % 0x10000 ≠ 0x1000 ∧ o % 0x10000 ≠ 0x1008 ∧ o % 0x10000 ≠ 0x100C

/-- Two states whose heads have the same ports, lanes, formats and blocks. -/
structure SameHeads (s t : State) : Prop where
  boot : t.boot = s.boot
  blk : t.blk = s.blk
  pcfg : ∀ p, t.rd (SPT_P_CFG p) = s.rd (SPT_P_CFG p)
  hcfg : ∀ p, t.rd (SPT_H_CFG p) = s.rd (SPT_H_CFG p)
  hgeom : ∀ p, t.rd (SPT_H_GEOM p) = s.rd (SPT_H_GEOM p)
  hfmt : ∀ p, t.rd (SPT_H_FMT p) = s.rd (SPT_H_FMT p)

theorem SameHeads.of_regsIn {s t : State} {P : Nat → Prop} (h : RegsIn P s t) (hP : ∀ o, P o → notShape o)
    (hboot : t.boot = s.boot := by rfl) (hblk : t.blk = s.blk := by rfl) : SameHeads s t := by
  have hout {o : Nat} (ho : ¬ notShape o) : ¬ P o := fun hmem => ho (hP o hmem)
  refine ⟨hboot, hblk, fun p => h.rd (hout ?_), fun p => h.rd (hout ?_), fun p => h.rd (hout ?_), fun p => h.rd (hout ?_)⟩
  all_goals
    simp only [notShape, SPT_P_CFG, SPT_H_CFG, SPT_H_GEOM, SPT_H_FMT]
    omega

theorem SameHeads.of_regsBut {s t : State} {os : List Nat} (h : RegsBut s t os) (hos : ∀ o, o ∈ os → notShape o)
    (hboot : t.boot = s.boot := by rfl) (hblk : t.blk = s.blk := by rfl) : SameHeads s t :=
  SameHeads.of_regsIn (h.regsIn hos) (fun _ ho => ho) hboot hblk

theorem SameHeads.trans {s t u : State} (h : SameHeads s t) (h' : SameHeads t u) : SameHeads s u where
  boot := h'.boot.trans h.boot
  blk := h'.blk.trans h.blk
  pcfg p := (h'.pcfg p).trans (h.pcfg p)
  hcfg p := (h'.hcfg p).trans (h.hcfg p)
  hgeom p := (h'.hgeom p).trans (h.hgeom p)
  hfmt p := (h'.hfmt p).trans (h.hfmt p)

section
variable {s t : State} (hst : SameHeads s t) (h : Nat)
include hst

theorem SameHeads.paddleHead : t.paddleHead h = s.paddleHead h := by rw [State.paddleHead, State.paddleHead, hst.boot]

theorem SameHeads.leadPort : t.leadPort h = s.leadPort h := by
  have hfind : (fun p => t.bit (SPT_P_CFG p) SPT_P_CFG_EN && t.bit (SPT_P_CFG p) SPT_P_CFG_LEAD && t.fld (SPT_P_CFG p) SPT_P_CFG_HEAD == h) =
      fun p => s.bit (SPT_P_CFG p) SPT_P_CFG_EN && s.bit (SPT_P_CFG p) SPT_P_CFG_LEAD && s.fld (SPT_P_CFG p) SPT_P_CFG_HEAD == h := by
    funext p
    simp only [State.bit, State.fld, hst.pcfg]
  unfold State.leadPort
  rw [hst.boot, hfind]

theorem SameHeads.hp : t.hp h = s.hp h := by rw [State.hp, State.hp, hst.leadPort]

theorem SameHeads.spBid : t.spBid h = s.spBid h := by rw [State.spBid, State.spBid, hst.hp]

theorem SameHeads.headPorts : t.headPorts h = s.headPorts h := by
  unfold State.headPorts
  rw [hst.paddleHead, hst.hp, State.fld, State.fld, hst.hcfg]

theorem SameHeads.headLanes : t.headLanes h = s.headLanes h := by
  unfold State.headLanes
  rw [hst.paddleHead, hst.hp, State.fld, State.fld, hst.pcfg]

theorem SameHeads.lanePlace (k : Nat) : t.lanePlace h k = s.lanePlace h k := by
  unfold State.lanePlace
  rw [hst.hp, hst.headLanes]

theorem SameHeads.laneCount : t.laneCount h = s.laneCount h := by rw [State.laneCount, State.laneCount, hst.headPorts, hst.headLanes]

theorem SameHeads.cmdl : t.cmdl h = s.cmdl h := by
  unfold State.cmdl
  rw [hst.paddleHead, hst.hp, State.bit, State.bit, hst.hcfg]

theorem SameHeads.legacy : t.legacy h = s.legacy h := by
  unfold State.legacy
  rw [hst.paddleHead, hst.hp, hst.boot, State.bit, State.bit, hst.pcfg]

theorem SameHeads.spIdle : t.spIdle h = s.spIdle h := by
  unfold State.spIdle State.running State.blkOf
  rw [hst.headPorts, hst.blk]

theorem SameHeads.geom : t.geom h = s.geom h := by
  unfold State.geom
  rw [hst.paddleHead, hst.hp, hst.boot, hst.hgeom, hst.hfmt]

theorem SameHeads.headUp : t.headUp h = s.headUp h := by
  unfold State.headUp State.blkOf
  rw [hst.leadPort, hst.headPorts, hst.blk]

theorem SameHeads.portHead (p : Nat) : t.portHead p = s.portHead p := by
  unfold State.portHead
  rw [hst.boot, State.fld, State.fld, hst.pcfg]

/-- The stage stands with the register that shows it. -/
theorem SameHeads.zlStage (hstate : t.rd (SPT_H_STATE (s.hp h)) = s.rd (SPT_H_STATE (s.hp h))) : t.zlStage h = s.zlStage h := by
  rw [State.zlStage, State.zlStage, hst.hp, State.fld, State.fld, hstate]

end

theorem hp_lt {s : State} {h : Nat} (hh : h < 8) : s.hp h < 8 := by
  unfold State.hp
  cases hl : s.leadPort h with
  | none => exact hh
  | some p =>
    unfold State.leadPort at hl
    split at hl
    · rw [← Option.some.inj hl]
      exact Nat.zero_lt_succ 7
    · exact List.mem_range.1 (List.mem_of_find?_eq_some hl)

/-! ### A change of the stage (R163) -/

/-- The registers that a change of the stage can change, but for the count of links down. -/
def stagedRegs (p : Nat) : List Nat := (SPT_H_STATE p).off :: evRegs 128

theorem stagedRegs_notShape (p : Nat) : ∀ o, o ∈ stagedRegs p → notShape o := by
  intro o ho
  simp only [stagedRegs, evRegs, SPT_H_STATE, EVT_R_CNT, EVT_R_LAST, List.mem_cons, List.not_mem_nil, or_false] at ho
  simp only [notShape]
  omega

/-- The state of a head after its stage has changed and event 128 has gone out. -/
def State.staged (s : State) (h n : Nat) : State :=
  ((s.setFld (SPT_H_STATE (s.hp h)) SPT_H_STATE_STAGE n).raise 128 (0x0200 + s.hp h) [w32 n]).setBit (SPT_H_STATE (s.hp h)) SPT_H_STATE_MISMATCH false

theorem State.staged_only (s : State) (h n : Nat) : OnlyRegsOcc s (s.staged h n) :=
  (((OnlyRegsOcc.refl s).setFld _ _ _).raise 128 _ _).setBit _ _ _

theorem State.staged_regs (s : State) (h n : Nat) : RegsBut s (s.staged h n) (stagedRegs (s.hp h)) := by
  have hmem : (SPT_H_STATE (s.hp h)).off ∈ stagedRegs (s.hp h) := by simp [stagedRegs]
  exact (((RegsBut.refl s _).setFld (SPT_H_STATE (s.hp h)) _ _ hmem).raise 128 _ _ (by simp [stagedRegs])).setBit (SPT_H_STATE (s.hp h)) _ _ hmem

theorem State.staged_occ (s : State) (h n : Nat) : ∃ o, (s.staged h n).occ = s.occ ++ [o] ∧ o.num = 128 ∧ o.value = w32 n :=
  ⟨_, State.raise_occ _ _ _ _, rfl, rfl⟩

theorem State.staged_sameHeads (s : State) (h n : Nat) : SameHeads s (s.staged h n) :=
  SameHeads.of_regsBut (s.staged_regs h n) (stagedRegs_notShape _)

theorem State.stageIn_staged (s : State) (h : Nat) {n : Nat} (hn : n < 8) (hp : s.hp h < 8) : stageIn s h (s.staged h n) = n := by
  have hset : ((s.setFld (SPT_H_STATE (s.hp h)) SPT_H_STATE_STAGE n).raise 128 (0x0200 + s.hp h) [w32 n]).fld (SPT_H_STATE (s.hp h)) SPT_H_STATE_STAGE = n := by
    rw [State.fld, State.rd_raise _ _ _ _ (by simp only [SPT_H_STATE, EVT_R_CNT]; omega) (by simp only [SPT_H_STATE, EVT_R_LAST]; omega)]
    exact (State.fld_setFld_self s _ SPT_H_STATE_STAGE n).trans (Nat.mod_eq_of_lt hn)
  exact (State.fld_setFld_ne _ _ _).trans hset

theorem State.zlStage_staged (s : State) (h : Nat) {n : Nat} (hn : n < 8) (hp : s.hp h < 8) : (s.staged h n).zlStage h = n := by
  rw [State.zlStage, (s.staged_sameHeads h n).hp]
  exact s.stageIn_staged h hn hp

/-- A head that leaves another stage than ACTIVE. -/
theorem State.setStage_eq {s : State} {h n : Nat} (hne : s.zlStage h ≠ n) (h4 : s.zlStage h ≠ 4) : s.setStage h n = s.staged h n := by
  have hhp : ((s.setFld (SPT_H_STATE (s.hp h)) SPT_H_STATE_STAGE n).raise 128 (0x0200 + s.hp h) [w32 n]).hp h = s.hp h := by
    refine SameHeads.hp (SameHeads.of_regsBut (os := stagedRegs (s.hp h)) ?_ (stagedRegs_notShape _)) h
    exact ((RegsBut.refl s _).setFld (SPT_H_STATE (s.hp h)) _ _ (by simp [stagedRegs])).raise 128 _ _ (by simp [stagedRegs])
  unfold State.setStage
  dsimp only
  rw [if_neg hne, if_neg h4, State.spBid, hhp]
  rfl

/-- A head that leaves ACTIVE counts and raises event 129. -/
theorem State.setStage_down {s : State} {h n : Nat} (hne : n ≠ 4) (h4 : s.zlStage h = 4) :
    s.setStage h n = ((s.staged h n).inc (SPT_H_LINK_DOWN_CNT (s.hp h))).raise 129 (0x0200 + s.hp h) := by
  have hhp : ((s.setFld (SPT_H_STATE (s.hp h)) SPT_H_STATE_STAGE n).raise 128 (0x0200 + s.hp h) [w32 n]).hp h = s.hp h := by
    refine SameHeads.hp (SameHeads.of_regsBut (os := stagedRegs (s.hp h)) ?_ (stagedRegs_notShape _)) h
    exact ((RegsBut.refl s _).setFld (SPT_H_STATE (s.hp h)) _ _ (by simp [stagedRegs])).raise 128 _ _ (by simp [stagedRegs])
  unfold State.setStage
  dsimp only
  rw [if_neg (by omega), if_pos h4, show s.spBid h = 0x0200 + s.hp h from rfl, hhp, ← State.staged, (s.staged_sameHeads h n).hp, (s.staged_sameHeads h n).spBid]
  rfl

/-! ### Two events in order -/

/-- Two events raised in the order of their numbers are left as they stand. -/
theorem State.settle_pair {s t : State} {a b : Occ} (h : t.occ = s.occ ++ [a, b]) (hle : a.num ≤ b.num) : s.settle t = t := by
  have hsort : occSort [a, b] = [a, b] := by simp [occSort, occInsert, Nat.not_lt.2 hle]
  rw [State.settle, h, List.take_left, List.drop_left, hsort, ← h]

end Sys2Proof.Machine
end

section
/-! PROOFS. Bring-up of heads (R156, R162 to R165): stages, block lock and Align stripes. -/

-- One proof at a time: the text is compiled as one file in bounded memory.
set_option Elab.async false

namespace Sys2Proof.Machine
open Sys2Proof.Claims

/-! ### Stages -/

theorem laneStatCleared_regs (s : State) (ps : List Nat) :
    RegsBut s (ps.foldl (fun s p => s.setFld (SPT_P_LANE_STAT p) ⟨27, 16⟩ 0) s) (ps.map (fun p => (SPT_P_LANE_STAT p).off)) := by
  have h : ∀ (qs : List Nat) (t : State), qs ⊆ ps → RegsBut s t (ps.map (fun p => (SPT_P_LANE_STAT p).off)) →
      RegsBut s (qs.foldl (fun s p => s.setFld (SPT_P_LANE_STAT p) ⟨27, 16⟩ 0) t) (ps.map (fun p => (SPT_P_LANE_STAT p).off)) := by
    intro qs
    induction qs with
    | nil => exact fun _ _ ht => ht
    | cons q qs ih =>
      intro t hsub ht
      have hq : (SPT_P_LANE_STAT q).off ∈ ps.map (fun p => (SPT_P_LANE_STAT p).off) := List.mem_map_of_mem (hsub (List.mem_cons_self ..))
      exact ih _ (fun x hx => hsub (List.mem_cons_of_mem _ hx)) (ht.setFld (SPT_P_LANE_STAT q) _ _ hq)
  exact h ps s (fun _ hx => hx) (RegsBut.refl s _)

theorem laneStatCleared_only (s : State) (ps : List Nat) : OnlyRegs s (ps.foldl (fun s p => s.setFld (SPT_P_LANE_STAT p) ⟨27, 16⟩ 0) s) :=
  OnlyRegs.foldl (fun _ _ hu => hu.setFld _ _ _) ps (OnlyRegs.refl s)

theorem laneStatRegs_notShape (ps : List Nat) : ∀ o, o ∈ ps.map (fun p => (SPT_P_LANE_STAT p).off) → notShape o ∧ o % 0x10000 ≠ 0x1004 := by
  intro o ho
  obtain ⟨p, -, rfl⟩ := List.mem_map.1 ho
  simp only [notShape, SPT_P_LANE_STAT]
  omega

theorem SPT_H_STATE_mod {p : Nat} : (SPT_H_STATE p).off % 0x10000 = 0x1004 := by simp only [SPT_H_STATE]; omega

theorem laneIdleExit_trains {h : Fin 8} {s : State} (hup : s.headUp h = true) (h0 : s.zlStage h = 0) (hidle : s.spIdle h = false) :
    Runs (.laneIdleExit h) s (fun t =>
      stageIn s h t = 1 ∧ (t.sptOf h).offsets = [] ∧ (∃ o, t.occ = s.occ ++ [o] ∧ o.num = 128 ∧ o.value = 1) ∧ SameMem s t) := by
  generalize hu : (s.headPorts h).foldl (fun s p => s.setFld (SPT_P_LANE_STAT p) ⟨27, 16⟩ 0) s = u
  have honly : OnlyRegs s u := hu ▸ laneStatCleared_only s _
  have hregs : RegsBut s u ((s.headPorts h).map (fun p => (SPT_P_LANE_STAT p).off)) := hu ▸ laneStatCleared_regs s _
  have hsame : SameHeads s (u.setSpt h { u.sptOf h with offsets := [] }) :=
    SameHeads.of_regsBut hregs.congr (fun o ho => (laneStatRegs_notShape _ o ho).1) (honly.field State.boot) (honly.field State.blk)
  generalize hv : u.setSpt h { u.sptOf h with offsets := [] } = v at hsame
  have hstage : v.zlStage h = 0 := by
    refine (hsame.zlStage h ?_).trans h0
    rw [← hv]
    exact (hregs.congr (u := u.setSpt h { u.sptOf h with offsets := [] }) rfl).rd fun hmem => (laneStatRegs_notShape _ _ hmem).2 SPT_H_STATE_mod
  have hrun : exec (.laneIdleExit h) s = .next (v.staged h 1) := by
    have hcond : (s.headUp h && decide (s.zlStage h = 0) && !s.spIdle h) = true := by simp [hup, h0, hidle]
    refine (congrArg Host.Outcome.next (if_pos hcond)).trans (congrArg Host.Outcome.next ?_)
    dsimp only
    rw [hu, hv, State.setStage_eq (by omega) (by omega)]
  obtain ⟨o, ho, hnum, hval⟩ := v.staged_occ h 1
  have hvocc : v.occ = s.occ := by rw [← hv]; exact honly.occ
  have hvspt : (v.sptOf h).offsets = [] := by rw [← hv]; exact congrArg SptH.offsets (tabGet_set_self u.spt _ _ _)
  refine Runs.next hrun ⟨?_, ?_, ⟨o, by rw [ho, hvocc], hnum, hval⟩, fun a => ?_⟩
  · have := v.stageIn_staged h (n := 1) (by decide) (hp_lt h.isLt)
    rwa [stageIn, hsame.hp] at this
  · rw [State.sptOf, (v.staged_only h 1).field State.spt]
    exact hvspt
  · rw [State.mem, (v.staged_only h 1).field State.g7, ← hv]
    exact congrArg (fun g => tabGet g memDefault a) (honly.field State.g7)

theorem headStages : HeadStages := by
  unfold HeadStages
  intro h s
  have hp : s.hp h < 8 := hp_lt h.isLt
  refine ⟨fun hup h0 hidle => laneIdleExit_trains hup h0 hidle, fun h1 hleg c hc => ?_, fun h12 hleg => ?_, fun h1 hleg => ?_⟩
  · have hcond : (decide (s.zlStage h = 1) && !s.legacy h) = true := by simp [h1, hleg]
    have hrun : exec c s = .next (s.staged h 2) := by
      have hstage : s.setStage h 2 = s.staged h 2 := State.setStage_eq (by omega) (by omega)
      rcases hc with rfl | rfl
      · exact congrArg Host.Outcome.next ((if_pos hcond).trans hstage)
      · exact congrArg Host.Outcome.next ((if_pos hcond).trans hstage)
    exact Runs.next hrun ⟨s.stageIn_staged h (by decide) hp, s.staged_occ h 2, s.staged_regs h 2, s.staged_only h 2⟩
  · have hcond : ((decide (s.zlStage h = 1) || decide (s.zlStage h = 2)) && !s.legacy h) = true := by rcases h12 with h | h <;> simp [h, hleg]
    have hstage : s.setStage h 0 = s.staged h 0 := State.setStage_eq (by omega) (by omega)
    obtain ⟨o, ho, hnum, -⟩ := s.staged_occ h 0
    have hocc : ∃ b, ((s.staged h 0).raise 130 (s.spBid h)).occ = s.occ ++ [o, b] ∧ b.num = 130 := by
      obtain ⟨b, hb, hbn, -⟩ := (Raised.of_raise (s.staged h 0) 130 (s.spBid h) []).1
      exact ⟨b, by rw [hb, ho, List.append_assoc]; rfl, hbn⟩
    obtain ⟨b, hb, hbn⟩ := hocc
    have hrun : exec (.lockTimeout h) s = .next ((s.staged h 0).raise 130 (s.spBid h)) := by
      refine congrArg Host.Outcome.next ((if_pos hcond).trans ?_)
      rw [hstage]
      exact State.settle_pair hb (by omega)
    refine Runs.next hrun ⟨?_, ?_, ?_, (s.staged_only h 0).raise 130 _ _⟩
    · have hrd : ((s.staged h 0).raise 130 (s.spBid h)).rd (SPT_H_STATE (s.hp h)) = (s.staged h 0).rd (SPT_H_STATE (s.hp h)) :=
        State.rd_raise _ _ _ _ (by simp only [SPT_H_STATE, EVT_R_CNT]; omega) (by simp only [SPT_H_STATE, EVT_R_LAST]; omega)
      rw [stageIn, State.fld, hrd]
      exact s.stageIn_staged h (by decide) hp
    · rw [hb, List.map_append, List.map_cons, List.map_cons, hnum, hbn]
      rfl
    · exact ((s.staged_regs h 0).mono (by simp [stagedRegs])).raise 130 _ _ (by simp)
  · have hcond : ¬ (decide (s.zlStage h = 1) && !s.legacy h) = true := by simp [hleg]
    have hcond' : ¬ ((decide (s.zlStage h = 1) || decide (s.zlStage h = 2)) && !s.legacy h) = true := by simp [hleg]
    exact ⟨congrArg Host.Outcome.next (if_neg hcond), congrArg Host.Outcome.next (if_neg hcond), congrArg Host.Outcome.next (if_neg hcond')⟩

/-! ### Block lock (R156) -/

/-- The registers that show a lane's block lock. -/
def lockRegs (p l : Nat) : List Nat := [(SPT_P_LANE_STAT p).off, (SPT_L_STAT p l).off]

theorem State.setLock_regs (s : State) (p l : Nat) (b : Bool) : RegsBut s (s.setLock p l b) (lockRegs p l) :=
  ((RegsBut.refl s _).setFld (SPT_P_LANE_STAT p) _ _ (by simp [lockRegs])).setFld (SPT_L_STAT p l) _ _ (by simp [lockRegs])

theorem State.laneLock_setLock (s : State) (p : Nat) {l : Nat} (b : Bool) (hl : l < 12) : (s.setLock p l b).laneLock p l = b := by
  have hrd : (s.setLock p l b).rd (SPT_P_LANE_STAT p) = (s.setFld (SPT_P_LANE_STAT p) ⟨l, l⟩ (b2n b)).rd (SPT_P_LANE_STAT p) :=
    State.rd_setFld_ne _ _ _ (by simp only [SPT_P_LANE_STAT, SPT_L_STAT]; omega)
  have hl32 : l < 32 := by omega
  rw [State.laneLock, hrd, State.setFld_eq, State.rd_wr_self]
  exact Fld.bit_put_self ⟨l, l⟩ _ b hl32 (Nat.le_refl l)

/-- The state of a lane after valid headers, before its lock is looked at. -/
def State.laneRun (s : State) (p l n : Nat) : State :=
  s.setLane p l { run := min 64 ((s.laneOf p l).run + n), bad := ((s.laneOf p l).bad.map (· + n)).filter (· < 64) }

theorem State.laneOf_laneRun (s : State) (p l n : Nat) :
    (s.laneRun p l n).laneOf p l = { run := min 64 ((s.laneOf p l).run + n), bad := ((s.laneOf p l).bad.map (· + n)).filter (· < 64) } :=
  tabGet_set_self _ _ _ _

theorem State.headers_eq (s : State) (p l n : Nat) :
    s.headers p l n = if min 64 ((s.laneOf p l).run + n) = 64 ∧ s.laneLock p l = false then (s.laneRun p l n).setLock p l true else s.laneRun p l n := by
  have hsame : (s.laneRun p l n).laneLock p l = s.laneLock p l := rfl
  unfold State.headers
  dsimp only
  rw [← State.laneRun, hsame]
  by_cases h1 : min 64 ((s.laneOf p l).run + n) = 64 <;> by_cases h2 : s.laneLock p l = true <;> simp [h1, h2]

/-- Valid headers change a lane and the registers of its lock. -/
theorem State.headers_lanes (s : State) (p l n : Nat) : (s.headers p l n).lanes = (s.laneRun p l n).lanes := by
  rw [State.headers_eq]; split <;> rfl

theorem State.headers_frame (s : State) (p l n : Nat) :
    s.headers p l n = { s with regs := (s.headers p l n).regs, lanes := (s.headers p l n).lanes } := by
  rw [State.headers_eq]; split <;> rfl

theorem State.headers_regs (s : State) (p l n : Nat) : RegsBut s (s.headers p l n) (lockRegs p l) := by
  have hrun : RegsBut s (s.laneRun p l n) (lockRegs p l) := (RegsBut.refl s _).congr
  rw [State.headers_eq]
  exact (hrun.trans ((s.laneRun p l n).setLock_regs p l true)).ite hrun

theorem State.laneOf_headers (s : State) (p l n : Nat) :
    (s.headers p l n).laneOf p l = { run := min 64 ((s.laneOf p l).run + n), bad := ((s.laneOf p l).bad.map (· + n)).filter (· < 64) } := by
  rw [State.laneOf, State.headers_lanes]
  exact s.laneOf_laneRun p l n

theorem State.laneLock_headers (s : State) (p : Nat) {l : Nat} (n : Nat) (hl : l < 12) :
    (s.headers p l n).laneLock p l = (decide (64 ≤ (s.laneOf p l).run + n) || s.laneLock p l) := by
  rw [State.headers_eq]
  by_cases h64 : 64 ≤ (s.laneOf p l).run + n
  · by_cases hlock : s.laneLock p l = true
    · rw [if_neg (by simp [hlock]), hlock, Bool.or_true]
      exact hlock
    · rw [if_pos ⟨by omega, Bool.eq_false_iff.2 hlock⟩, State.laneLock_setLock _ _ _ hl]
      simp [h64]
  · rw [if_neg (fun h => h64 (by omega)), decide_eq_false h64, Bool.false_or]
    rfl

theorem lockRegs_notShape {p l : Nat} : ∀ o, o ∈ lockRegs p l → notShape o := by
  intro o ho
  simp only [lockRegs, List.mem_cons, List.not_mem_nil, or_false] at ho
  rcases ho with rfl | rfl <;> simp only [notShape, SPT_P_LANE_STAT, SPT_L_STAT] <;> omega

theorem zlHeader_runs {h : Fin 8} {k : Nat} {c : BitVec 56} {s : State} (hup : s.headUp h = true) (hk : k < s.laneCount h) {i : Instr}
    (hi : (i = .zlTrain h k c ∧ ctlOk 0xD2 c = true) ∨ (i = .zlIdle h k c ∧ ctlOk 0x1E c = true)) :
    exec i s = .next (s.headers (s.lanePlace h k).1 (s.lanePlace h k).2 1) := by
  have hcond : (s.headUp h && decide (k < s.laneCount h)) = true := by simp [hup, hk]
  rcases hi with ⟨rfl, hok⟩ | ⟨rfl, hok⟩
  · exact congrArg Host.Outcome.next ((if_pos hcond).trans (if_pos hok))
  · exact congrArg Host.Outcome.next ((if_pos hcond).trans (if_pos hok))

/-- An invalid header on a lane of a head that is not past LOCK counts, breaks the run, and clears a lock that 16 of any 64 lose. -/
theorem State.badHeader_quiet (s : State) {h k p l : Nat} {bad : List Nat} (hplace : s.lanePlace h k = (p, l))
    (hbad : 0 :: ((s.laneOf p l).bad.map (· + 1)).filter (· < 64) = bad) {u : State}
    (hu : (s.inc (SPT_L_ERR_CNT p l)).setLane p l { run := 0, bad := bad } = u) (hstage : (u.setLock p l false).zlStage h ≤ 2) :
    s.badHeader h k = if 16 ≤ bad.length ∧ u.laneLock p l = true then u.setLock p l false else u := by
  have hlost : (u.setLock p l false).linkLost h = u.setLock p l false := if_neg (by simp; omega)
  subst hbad hu
  unfold State.badHeader
  rw [hplace]
  dsimp only
  rw [hlost]
  split <;> simp_all

theorem blockInvalid_runs {h : Fin 8} {k : Nat} {s : State} (hup : s.headUp h = true) (hk : k < s.laneCount h) {p l : Nat}
    (hplace : s.lanePlace h k = (p, l)) (hl : l < 12) (hstage : s.zlStage h ≤ 2) :
    Runs (.zlBlockInvalid h k 0) s (fun t =>
      t.rd (SPT_L_ERR_CNT p l) = satAdd (s.rd (SPT_L_ERR_CNT p l)) 1 ∧ (t.laneOf p l).run = 0 ∧
      (15 ≤ ((((s.laneOf p l).bad.map (· + 0)).filter (· < 64)).map (· + 1)).countP (· < 64) → t.laneLock p l = false) ∧ t.occ = s.occ) := by
  have hcond : (s.headUp h && decide (k < s.laneCount h)) = true := by simp [hup, hk]
  generalize hv : s.headers p l 0 = v
  have hvregs : RegsBut s v (lockRegs p l) := hv ▸ s.headers_regs p l 0
  have hvocc : v.occ = s.occ := by rw [← hv, s.headers_frame]
  have hvheads : SameHeads s v := SameHeads.of_regsBut hvregs lockRegs_notShape (by rw [← hv, s.headers_frame]) (by rw [← hv, s.headers_frame])
  have hvlane : v.laneOf p l = _ := hv ▸ s.laneOf_headers p l 0
  generalize hbad : 0 :: ((v.laneOf p l).bad.map (· + 1)).filter (· < 64) = bad
  generalize hu : (v.inc (SPT_L_ERR_CNT p l)).setLane p l { run := 0, bad := bad } = u
  have huregs : RegsBut s (u.setLock p l false) ((SPT_L_ERR_CNT p l).off :: lockRegs p l) := by
    have h1 : RegsBut s (v.inc (SPT_L_ERR_CNT p l)) ((SPT_L_ERR_CNT p l).off :: lockRegs p l) := (hvregs.mono (by simp)).inc (SPT_L_ERR_CNT p l) 1
    have h2 : RegsBut s u ((SPT_L_ERR_CNT p l).off :: lockRegs p l) := by rw [← hu]; exact h1.congr
    exact h2.trans ((u.setLock_regs p l false).mono (by simp))
  have hshape : ∀ o, o ∈ (SPT_L_ERR_CNT p l).off :: lockRegs p l → notShape o ∧ o % 0x10000 ≠ 0x1004 := by
    intro o ho
    simp only [lockRegs, List.mem_cons, List.not_mem_nil, or_false] at ho
    rcases ho with rfl | rfl | rfl <;> simp only [notShape, SPT_L_ERR_CNT, SPT_P_LANE_STAT, SPT_L_STAT] <;> omega
  have huboot : (u.setLock p l false).boot = s.boot := by rw [← hu, ← hv, s.headers_frame]; rfl
  have hublk : (u.setLock p l false).blk = s.blk := by rw [← hu, ← hv, s.headers_frame]; rfl
  have hzl : (u.setLock p l false).zlStage h = s.zlStage h :=
    (SameHeads.of_regsBut huregs (fun o ho => (hshape o ho).1) huboot hublk).zlStage h (huregs.rd fun hmem => (hshape _ hmem).2 SPT_H_STATE_mod)
  have hbh := State.badHeader_quiet v ((hvheads.lanePlace h k).trans hplace) hbad hu (by omega)
  have hcnt : u.rd (SPT_L_ERR_CNT p l) = satAdd (s.rd (SPT_L_ERR_CNT p l)) 1 := by
    have hkeep : v.rd (SPT_L_ERR_CNT p l) = s.rd (SPT_L_ERR_CNT p l) := by
      apply hvregs.rd
      simp only [lockRegs, SPT_L_ERR_CNT, SPT_P_LANE_STAT, SPT_L_STAT, List.mem_cons, List.not_mem_nil, or_false, not_or]
      omega
    rw [← hu, ← hkeep]
    exact State.rd_wr_self v _ _
  have hulane : u.laneOf p l = { run := 0, bad := bad } := by rw [← hu]; exact tabGet_set_self _ _ _ _
  have huocc : u.occ = s.occ := by rw [← hu]; exact hvocc
  have hlen : bad.length = ((((s.laneOf p l).bad.map (· + 0)).filter (· < 64)).map (· + 1)).countP (· < 64) + 1 := by
    rw [← hbad, List.length_cons, hvlane, List.countP_eq_length_filter]
  have hrun (t : State) (ht : v.badHeader h k = t) (hocc : t.occ = s.occ) : exec (.zlBlockInvalid h k 0) s = .next t := by
    refine congrArg Host.Outcome.next ((if_pos hcond).trans ?_)
    rw [hplace]
    dsimp only
    rw [hv, ht, State.settle_same hocc]
  by_cases hlost : 16 ≤ bad.length ∧ u.laneLock p l = true
  · rw [if_pos hlost] at hbh
    refine Runs.next (hrun _ hbh huocc) ⟨?_, congrArg ZlLane.run hulane, fun _ => State.laneLock_setLock _ _ _ hl, huocc⟩
    refine ((u.setLock_regs p l false).rd ?_).trans hcnt
    simp only [lockRegs, SPT_L_ERR_CNT, SPT_P_LANE_STAT, SPT_L_STAT, List.mem_cons, List.not_mem_nil, or_false, not_or]
    omega
  · rw [if_neg hlost] at hbh
    refine Runs.next (hrun _ hbh huocc) ⟨hcnt, congrArg ZlLane.run hulane, fun h15 => ?_, huocc⟩
    exact Bool.eq_false_iff.2 fun hlock => hlost ⟨by omega, hlock⟩

theorem blockLock : BlockLock := by
  unfold BlockLock
  intro h k c s hup hk p l x
  refine ⟨fun hl i hi => ?_, fun hl hstage => ?_⟩
  · refine Runs.next (zlHeader_runs hup hk hi) ⟨congrArg ZlLane.run (s.laneOf_headers p l 1), fun h64 => ?_, fun h64 => ?_, ?_, s.headers_regs p l 1,
      s.headers_frame p l 1⟩
    · exact (State.laneLock_headers s p 1 hl).trans (by rw [decide_eq_true (p := 64 ≤ (s.laneOf p l).run + 1) h64, Bool.true_or])
    · exact (State.laneLock_headers s p 1 hl).trans (by rw [decide_eq_false (p := 64 ≤ (s.laneOf p l).run + 1) (Nat.not_le.2 h64), Bool.false_or])
    · rw [State.headers_frame]
  · exact blockInvalid_runs hup hk rfl hl hstage

/-! ### Align stripes (R162) -/

/-- The registers of a lane. -/
def laneReg (o : Nat) : Prop := 0x1000000 ≤ o ∧ 0x100 ≤ o % 0x10000 ∧ o % 0x10000 < 0x1000

theorem laneReg_notShape : ∀ o, laneReg o → notShape o := by
  intro o ho
  simp only [laneReg] at ho
  simp only [notShape]
  omega

theorem headLanes_lt (s : State) (h : Nat) : s.headLanes h < 16 := by
  unfold State.headLanes
  split
  · decide
  · exact Fld.get_lt _ _

theorem lanePlace_lt (s : State) (h k : Nat) : (s.lanePlace h k).2 < 16 := by
  have hlanes := headLanes_lt s h
  have hmod : k % max 1 (s.headLanes h) < max 1 (s.headLanes h) := Nat.mod_lt _ (by omega)
  exact Nat.lt_of_lt_of_le hmod (by omega)

/-- The offset of one lane in its status register (R162). -/
def State.laneShown (s : State) (h : Nat) (e : Nat × Nat) : State :=
  s.setFld (SPT_L_STAT (s.lanePlace h e.2).1 (s.lanePlace h e.2).2) ⟨13, 8⟩ (min 63 e.1)

theorem lanesShown_regs (s : State) (h : Nat) (es : List (Nat × Nat)) : RegsIn laneReg s (es.foldl (fun s e => s.laneShown h e) s) := by
  refine RegsIn.foldl es (fun u e _ hu => hu.wr _ _ ?_) (RegsIn.refl _ s)
  have hl := lanePlace_lt u h e.2
  simp only [laneReg, SPT_L_STAT]
  omega

theorem lanesShown_only (s : State) (h : Nat) (es : List (Nat × Nat)) : OnlyRegs s (es.foldl (fun s e => s.laneShown h e) s) :=
  OnlyRegs.foldl (fun _ _ hu => hu.setFld _ _ _) es (OnlyRegs.refl s)

theorem SameHeads.miswired {s t : State} (hst : SameHeads s t) (h : Nat) (lanes : List (BitVec 56 × Byte)) : t.miswired h lanes = s.miswired h lanes := by
  unfold State.miswired
  simp only [hst.lanePlace, hst.hp]

/-- A stripe whose lanes are in place within the limit (R162): its offsets show, and a second one alike takes a head from LOCK to EXCHANGE. -/
theorem alignStripe_eq {h : Nat} {lanes : List (BitVec 56 × Byte)} {s : State} {offs : List Nat}
    (hoffs : (lanes.map (fun e => e.2.toNat)).map (· - (lanes.map (fun e => e.2.toNat)).foldl min 255) = offs) (hlock : s.allLocked h = true)
    (hok : ∀ e, e ∈ lanes → ctlOk 0x4B e.1 = true) (hmis : s.miswired h lanes = none) (hmax : offs.foldl max 0 ≤ 48) {u : State}
    (hu : offs.zipIdx.foldl (fun s e => s.laneShown h e) s = u) :
    s.alignStripe h lanes = if u.zlStage h = 2 ∧ (u.sptOf h).offsets = offs then (u.setSpt h { u.sptOf h with offsets := offs }).enterExchange h
      else u.setSpt h { u.sptOf h with offsets := offs } := by
  have hbad : lanes.filter (fun e => !ctlOk 0x4B e.1) = [] := List.filter_eq_nil_iff.2 fun e he => by rw [hok e he]; exact Bool.false_ne_true
  have hsame : SameHeads s u := by
    rw [← hu]
    exact SameHeads.of_regsIn (lanesShown_regs s h _) laneReg_notShape ((lanesShown_only s h _).field State.boot) ((lanesShown_only s h _).field State.blk)
  have hfold : offs.zipIdx.foldl (fun s e => let (p, l) := s.lanePlace h e.2; s.setFld (SPT_L_STAT p l) ⟨13, 8⟩ (min 63 e.1)) s = u := hu
  unfold State.alignStripe
  dsimp only
  rw [hbad, hlock, hoffs, hfold, hsame.miswired, hmis]
  simp only [List.length_nil, ne_eq, not_true_eq_false, if_false, Bool.not_true, Bool.false_eq_true, Nat.not_lt.2 hmax]
  by_cases h1 : u.zlStage h = 2 <;> by_cases h2 : (u.sptOf h).offsets = offs <;> simp [h1, h2]

theorem alignDeskews : AlignDeskews := by
  unfold AlignDeskews
  intro h lanes s lo offs hup hleg hlen hlock hok hmis hmax
  have hp : s.hp h < 8 := hp_lt h.isLt
  generalize hu : offs.zipIdx.foldl (fun s e => s.laneShown h e) s = u
  have honly : OnlyRegs s u := hu ▸ lanesShown_only s h _
  have hregs : RegsIn laneReg s u := hu ▸ lanesShown_regs s h _
  have hsame : SameHeads s u := SameHeads.of_regsIn hregs laneReg_notShape (honly.field State.boot) (honly.field State.blk)
  have hstate : u.rd (SPT_H_STATE (s.hp h)) = s.rd (SPT_H_STATE (s.hp h)) := hregs.rd (by simp only [laneReg, SPT_H_STATE]; omega)
  have hzl : u.zlStage h = s.zlStage h := hsame.zlStage h hstate
  have hspt : u.sptOf h = s.sptOf h := by rw [State.sptOf, honly.field State.spt]; rfl
  have hstripe := alignStripe_eq (offs := offs) rfl hlock hok hmis hmax hu
  rw [hzl, hspt] at hstripe
  have hcond (h24 : 2 ≤ s.zlStage h ∧ s.zlStage h ≤ 4) : (s.headUp h && decide (2 ≤ s.zlStage h) && decide (s.zlStage h ≤ 4) && !s.legacy h &&
      decide (lanes.length = s.laneCount h)) = true := by simp [hup, hleg, hlen, h24]
  generalize hv : u.setSpt h { s.sptOf h with offsets := offs } = v at hstripe
  have hvspt : v.sptOf h = { s.sptOf h with offsets := offs } := by rw [← hv]; exact tabGet_set_self u.spt _ _ _
  have hvocc : v.occ = s.occ := by rw [← hv]; exact honly.occ
  have hvsame : SameHeads u v := by rw [← hv]; exact SameHeads.of_regsBut (os := []) (RegsBut.refl u _).congr (by simp)
  have hvhp : v.hp h = s.hp h := (hvsame.hp h).trans (hsame.hp h)
  have hvstate : v.rd (SPT_H_STATE (s.hp h)) = s.rd (SPT_H_STATE (s.hp h)) := by rw [← hv]; exact hstate
  refine ⟨fun hstage => ?_, fun h2 hoffs hcmdl => ?_⟩
  · have hnot : ¬ (s.zlStage h = 2 ∧ (s.sptOf h).offsets = offs) := by
      rintro ⟨h2, hoffs⟩
      rcases hstage with h3 | h4 | ⟨-, hne⟩
      · omega
      · omega
      · exact hne hoffs
    rw [if_neg hnot] at hstripe
    have hrun : exec (.zlAlign h lanes) s = .next v := by
      refine congrArg Host.Outcome.next ((if_pos (hcond (by omega))).trans ?_)
      rw [hstripe, State.settle_same hvocc]
    refine Runs.next hrun ⟨hvspt, hvocc, ?_⟩
    rw [stageIn, State.fld, hvstate]
    rfl
  · rw [if_pos ⟨h2, hoffs⟩] at hstripe
    have hvzl : v.zlStage h = 2 := by rw [State.zlStage, hvhp, State.fld, hvstate]; exact h2
    have hs3 : v.setStage h 3 = v.staged h 3 := State.setStage_eq (by omega) (by omega)
    have hz3 : (v.staged h 3).zlStage h = 3 := v.zlStage_staged h (by decide) (by omega)
    have hs4 : (v.staged h 3).setStage h 4 = (v.staged h 3).staged h 4 := State.setStage_eq (by omega) (by omega)
    have hcm : (v.staged h 3).cmdl h = false := by rw [(v.staged_sameHeads h 3).cmdl, hvsame.cmdl, hsame.cmdl, hcmdl]
    have henter : v.enterExchange h = (v.staged h 3).staged h 4 := by
      unfold State.enterExchange
      dsimp only
      rw [hs3, if_neg (by simp [hcm]), hs4]
    obtain ⟨a, ha, han, -⟩ := v.staged_occ h 3
    obtain ⟨b, hb, hbn, -⟩ := (v.staged h 3).staged_occ h 4
    have hrun : exec (.zlAlign h lanes) s = .next ((v.staged h 3).staged h 4) := by
      refine congrArg Host.Outcome.next ((if_pos (hcond (by omega))).trans ?_)
      rw [hstripe, henter]
      refine State.settle_pair (a := a) (b := b) ?_ (by omega)
      rw [hb, ha, hvocc, List.append_assoc]
      rfl
    refine Runs.next hrun ⟨?_, ?_⟩
    · have hin := (v.staged h 3).stageIn_staged h (n := 4) (by decide) (by rw [(v.staged_sameHeads h 3).hp]; omega)
      rwa [stageIn, (v.staged_sameHeads h 3).hp, hvhp] at hin
    · have hkeep : ((v.staged h 3).staged h 4).sptOf h = v.sptOf h := by
        rw [State.sptOf, ((v.staged h 3).staged_only h 4).field State.spt, (v.staged_only h 3).field State.spt]
        rfl
      rw [hkeep, hvspt]

/-- Settles O23: the stages of a head, the lock of its lanes, and its Align stripes. -/
theorem headsComeUp : Obligations.HeadsComeUp := by
  unfold Obligations.HeadsComeUp
  exact ⟨headStages, blockLock, alignDeskews⟩

end Sys2Proof.Machine
end

section
/-! PROOFS. Frames and lines of a head whose frames pass to no other block, and its Status blocks (R138, R171 to R176, R183). -/

-- One proof at a time: the text is compiled as one file in bounded memory.
set_option Elab.async false

namespace Sys2Proof.Machine
open Sys2Proof.Claims

/-! ### A head whose frames pass to no other block -/

/-- A register that neither shapes a head nor says which blocks follow it: those of the timebases and events, and the ports' own. -/
def aloneReg (o : Nat) : Prop := notShape o ∧ (o < 0x1000000 ∨ o < 0x1100000 ∧ o % 0x10000 < 0x8000)

/-- What a step on the frames of such a head leaves as it is. -/
structure AloneFrame (s t : State) : Prop where
  regs : RegsIn aloneReg s t
  boot : t.boot = s.boot
  blk : t.blk = s.blk
  cat : t.cat = s.cat
  drv : t.drv = s.drv
  rig : t.rig = s.rig

theorem AloneFrame.refl (s : State) : AloneFrame s s := ⟨RegsIn.refl _ s, rfl, rfl, rfl, rfl, rfl⟩

theorem AloneFrame.trans {s t u : State} (h : AloneFrame s t) (h' : AloneFrame t u) : AloneFrame s u :=
  ⟨h.regs.trans h'.regs, h'.boot.trans h.boot, h'.blk.trans h.blk, h'.cat.trans h.cat, h'.drv.trans h.drv, h'.rig.trans h.rig⟩

theorem AloneFrame.wr {s t : State} (h : AloneFrame s t) (r : Reg) (v : Word) (hr : aloneReg r.off) : AloneFrame s (t.wr r v) :=
  ⟨h.regs.wr r v hr, h.boot, h.blk, h.cat, h.drv, h.rig⟩

theorem AloneFrame.setSpt {s t : State} (h : AloneFrame s t) (k : Nat) (x : SptH) : AloneFrame s (t.setSpt k x) :=
  ⟨h.regs.congr, h.boot, h.blk, h.cat, h.drv, h.rig⟩

theorem AloneFrame.heads {s t : State} (h : AloneFrame s t) : SameHeads s t := SameHeads.of_regsIn h.regs (fun _ ho => ho.1) h.boot h.blk

theorem evReg_alone {ev : Nat} (hev : ev < 1024) : ∀ o, o ∈ evRegs ev → aloneReg o := by
  intro o ho
  simp only [evRegs, EVT_R_CNT, EVT_R_LAST, List.mem_cons, List.not_mem_nil, or_false] at ho
  simp only [aloneReg, notShape]
  omega

theorem AloneFrame.raiseOnce {s t : State} (h : AloneFrame s t) {ev : Nat} (key src : Nat) (items : List Word) (hev : ev < 1024) :
    AloneFrame s (t.raiseOnce ev key src items) := by
  have hregs : RegsIn aloneReg t (t.raiseOnce ev key src items) := (t.raiseOnce_regs ev key src items).regsIn (evReg_alone hev)
  have hfields : (t.raiseOnce ev key src items).boot = t.boot ∧ (t.raiseOnce ev key src items).blk = t.blk ∧ (t.raiseOnce ev key src items).cat = t.cat ∧
      (t.raiseOnce ev key src items).drv = t.drv ∧ (t.raiseOnce ev key src items).rig = t.rig := by
    unfold State.raiseOnce
    split <;> exact ⟨rfl, rfl, rfl, rfl, rfl⟩
  obtain ⟨h1, h2, h3, h4, h5⟩ := hfields
  exact h.trans ⟨hregs, h1, h2, h3, h4, h5⟩

/-- A head stays one whose frames pass to no other block. -/
theorem AloneFrame.alone {s t : State} (h : AloneFrame s t) {k : Nat} (ha : PortAlone s k) : PortAlone t k := by
  have hcat (n : Nat) : t.rd (CAT_H_CFG n) = s.rd (CAT_H_CFG n) := h.regs.rd (by simp only [aloneReg, CAT_H_CFG]; omega)
  have hdrv (n : Nat) : t.rd (DRV_P_CFG n) = s.rd (DRV_P_CFG n) := h.regs.rd (by simp only [aloneReg, DRV_P_CFG]; omega)
  have hcmp (n : Nat) : t.rd (CMP_CFG n) = s.rd (CMP_CFG n) := h.regs.rd (by simp only [aloneReg, CMP_CFG]; omega)
  have hlkp (n : Nat) : t.rd (LKP_CFG n) = s.rd (LKP_CFG n) := h.regs.rd (by simp only [aloneReg, LKP_CFG]; omega)
  have hsg (g : Nat) (hg : g < 4) : t.rd (SPT_SG_CFG g) = s.rd (SPT_SG_CFG g) := h.regs.rd (by simp only [aloneReg, SPT_SG_CFG]; omega)
  have hact (g : Nat) (hg : g < 4) : t.rd (SPT_SG_ACTIVE g) = s.rd (SPT_SG_ACTIVE g) := h.regs.rd (by simp only [aloneReg, SPT_SG_ACTIVE]; omega)
  have hpad (n : Nat) : t.paddleHead n = s.paddleHead n := h.heads.paddleHead n
  obtain ⟨hon, hfe, hframe, hpipe, hopen, hfol, hgroup⟩ := ha
  refine ⟨?_, ?_, ?_, ?_, ?_, ?_, ?_⟩
  · rw [State.catOn, hpad, State.bit, hcat]
    exact hon
  · unfold State.feBlocks at hfe ⊢
    rw [hpad, State.fld, State.fld, hcat]
    exact hfe
  · rw [State.catOf, h.cat]
    exact hframe
  · have hfind : (fun p => t.bit (DRV_P_CFG p) DRV_P_CFG_EN && bitOf (t.rd (DRV_P_CFG p)) (8 + k)) =
        fun p => s.bit (DRV_P_CFG p) DRV_P_CFG_EN && bitOf (s.rd (DRV_P_CFG p)) (8 + k) := by
      funext p
      simp only [State.bit, hdrv]
    unfold State.pipeOf at hpipe ⊢
    rw [hpad, hfind]
    exact hpipe
  · rw [State.drvOf, h.drv]
    exact hopen
  · unfold State.followers State.cmpOn State.fsync State.livePath State.lkpHead State.lkpOn State.paddleCmp at hfol ⊢
    simp only [State.bit, State.fld, hcmp, hlkp, h.boot, h.rig] at hfol ⊢
    exact hfol
  · unfold State.groupOf at hgroup ⊢
    refine (List.find?_congr fun g hg => ?_).trans hgroup
    rw [hsg g (List.mem_range.1 hg), hact g (List.mem_range.1 hg)]

theorem State.setSpt_alone {s : State} {h : Nat} (ha : PortAlone s h) (k : Nat) (x : SptH) : PortAlone (s.setSpt k x) h :=
  ((AloneFrame.refl s).setSpt k x).alone ha

section
variable {s : State} {h : Nat} (ha : PortAlone s h)
include ha

theorem catFrameStart_alone : s.catFrameStart h = s := by
  obtain ⟨hon, hfe, -⟩ := ha
  unfold State.catFrameStart
  rw [if_pos (by simp [State.feIdle, hon]), hfe, List.foldl_nil]

theorem drvFrameStart_alone : s.drvFrameStart h = s := by
  obtain ⟨-, -, -, hpipe, -⟩ := ha
  unfold State.drvFrameStart
  rw [hpipe]

theorem lkpFrameStart_alone : s.lkpFrameStart h = s := by
  obtain ⟨-, -, hframe, -⟩ := ha
  exact if_pos (by rw [hframe]; rfl)

theorem cmpHeadStart_alone : s.cmpHeadStart h = s := by
  obtain ⟨-, -, -, -, -, hfol, -⟩ := ha
  unfold State.cmpHeadStart
  rw [hfol, List.foldl_nil]

theorem catLine_alone (ro row : Nat) (px : List Nat) (subst : Bool) : s.catLine h ro row px subst = s := by
  obtain ⟨-, -, hframe, -⟩ := ha
  unfold State.catLine
  rw [hframe]

theorem drvAdvance_alone (close : Bool) (fuel : Nat) : s.drvAdvance h close fuel = s := by
  obtain ⟨-, -, -, -, hopen, -⟩ := ha
  cases fuel with
  | zero => rfl
  | succ n => exact if_neg (by rw [hopen, Bool.false_and]; exact Bool.false_ne_true)

theorem catFrameClose_alone (i : FrameInfo) : s.catFrameClose h i = s := by
  obtain ⟨-, -, hframe, -⟩ := ha
  unfold State.catFrameClose
  rw [hframe]

theorem drvClose_alone (i : FrameInfo) : s.drvClose h i = s := by
  obtain ⟨-, -, -, hpipe, -⟩ := ha
  unfold State.drvClose
  rw [hpipe]

theorem cmpHeadClose_alone (i : FrameInfo) : s.cmpHeadClose h i = s := by
  obtain ⟨-, -, -, -, -, hfol, -⟩ := ha
  unfold State.cmpHeadClose
  rw [hfol, List.foldl_nil]

theorem sgCount_alone (inc : Bool) : s.sgCount h inc = s := by
  obtain ⟨-, -, -, -, -, -, hgroup⟩ := ha
  unfold State.sgCount
  rw [hgroup]

/-- A frame opens at its port alone. -/
theorem openFrame_alone (f : OpenFrame) : s.openFrame h f = s.setSpt h { s.sptOf h with frame := some f, line := none, legLine := 0 } := by
  have hset := State.setSpt_alone ha h { s.sptOf h with frame := some f, line := none, legLine := 0 }
  unfold State.openFrame
  dsimp only
  rw [catFrameStart_alone hset, drvFrameStart_alone hset, lkpFrameStart_alone hset, cmpHeadStart_alone hset]

end

/-! ### Lines pass, missing lines are substituted -/

theorem State.sptOf_tb2Line (s : State) (h n k : Nat) : (s.tb2Line h n).sptOf k = s.sptOf k := rfl

theorem State.sptOf_setSpt (s : State) (h : Nat) (x : SptH) : (s.setSpt h x).sptOf h = x := tabGet_set_self _ _ _ _

/-- A line's place in its frame: the next line of the readout, and the last four (R174). -/
def linePassed (r n : Nat) (px : List Nat) (f : OpenFrame) : OpenFrame :=
  { f with next := tabSet f.next 0 r (n + 1), hist := tabSet f.hist [] r ((px :: tabGet f.hist [] r).take 4) }

theorem linePassed_next (r n : Nat) (px : List Nat) (f : OpenFrame) : tabGet (linePassed r n px f).next 0 r = n + 1 :=
  tabGet_set_self f.next 0 (n + 1) r

theorem State.modFrame_some {s : State} {h : Nat} {f : OpenFrame} (hf : (s.sptOf h).frame = some f) (g : OpenFrame → OpenFrame) :
    s.modFrame h g = s.setSpt h { s.sptOf h with frame := some (g f) } := by
  unfold State.modFrame
  dsimp only
  rw [hf]

theorem passLine_alone {s : State} {h : Nat} (ha : PortAlone s h) {f : OpenFrame} (hf : (s.sptOf h).frame = some f) (r n : Nat) (px : List Nat)
    (subst : Bool) : s.passLine h r n px subst = s.setSpt h { s.sptOf h with frame := some (linePassed r n px f) } := by
  have hmod : s.modFrame h (fun f => { f with next := tabSet f.next 0 r (n + 1), hist := tabSet f.hist [] r ((px :: tabGet f.hist [] r).take 4) }) =
      s.setSpt h { s.sptOf h with frame := some (linePassed r n px f) } := State.modFrame_some hf _
  have hset := State.setSpt_alone ha h { s.sptOf h with frame := some (linePassed r n px f) }
  unfold State.passLine
  dsimp only
  rw [hmod, catLine_alone hset, drvAdvance_alone hset]

/-- Nothing is missing up to a line that is the next one. -/
theorem substUpTo_done {s : State} {h r n : Nat} {f : OpenFrame} (hf : (s.sptOf h).frame = some f) (hn : n ≤ tabGet f.next 0 r) (fuel : Nat) :
    s.substUpTo h r n fuel = s := by
  cases fuel with
  | zero => rfl
  | succ k =>
    unfold State.substUpTo
    rw [hf]
    exact if_neg (Nat.not_lt.2 hn)

theorem substUpTo_next {s : State} {h r n : Nat} {f : OpenFrame} (hf : (s.sptOf h).frame = some f) (hn : tabGet f.next 0 r < n) (fuel : Nat) :
    s.substUpTo h r n (fuel + 1) = (s.substLine h r).substUpTo h r n fuel := by
  conv_lhs => unfold State.substUpTo
  rw [hf]
  exact if_pos hn

/-- The registers that a substituted line changes. -/
def substRegs (s : State) (h : Nat) : List Nat := [(SPT_H_SUBST (s.hp h)).off, (STK_TB2_NOW h).off]

theorem substRegs_alone {s : State} {h : Nat} (hh : h < 8) : ∀ o, o ∈ substRegs s h → aloneReg o := by
  have hp : s.hp h < 8 := hp_lt hh
  intro o ho
  simp only [substRegs, SPT_H_SUBST, STK_TB2_NOW, List.mem_cons, List.not_mem_nil, or_false] at ho
  simp only [aloneReg, notShape]
  omega

/-- A missing line of an open frame (R172, R174): it counts, and the frame goes on to the line after it. -/
theorem substLine_alone {s : State} {h r : Nat} (ha : PortAlone s h) (hh : h < 8) {f : OpenFrame} (hf : (s.sptOf h).frame = some f)
    (hhead : f.headless = false) : ∃ f', (s.substLine h r).sptOf h = { s.sptOf h with frame := some f' } ∧ tabGet f'.next 0 r = tabGet f.next 0 r + 1 ∧
      f'.info.subst = f.info.subst + 1 ∧ (s.substLine h r).rd (SPT_H_SUBST (s.hp h)) = satAdd (s.rd (SPT_H_SUBST (s.hp h))) 1 ∧
      RegsBut s (s.substLine h r) (substRegs s h) ∧ AloneFrame s (s.substLine h r) ∧ (s.substLine h r).occ = s.occ ∧
      (s.substLine h r).roundFlags = s.roundFlags := by
  have hp : s.hp h < 8 := hp_lt hh
  have hmem : (SPT_H_SUBST (s.hp h)).off ∈ substRegs s h ∧ (STK_TB2_NOW h).off ∈ substRegs s h := by simp [substRegs]
  generalize hpx : (match (tabGet f.hist [] r)[(if (s.geom h).cfa = 1 then 4 else 2) - 1]? with
      | some l => l
      | none => List.replicate (s.geom h).w (bitsOf (s.rd (SPT_H_FILL (s.hp h))).toNat 15 0)) = px
  generalize hmap : ({ f with info := { f.info with subst := f.info.subst + 1, map := tabGet f.next 0 r :: f.info.map } } : OpenFrame) = f1
  have hf1 : f1.info.subst = f.info.subst + 1 := by rw [← hmap]
  generalize hu : ((s.inc (SPT_H_SUBST (s.hp h))).setSpt h { s.sptOf h with frame := some f1 }).tb2Line h (tabGet f.next 0 r) = u
  have hframe : AloneFrame s u := by
    rw [← hu]
    exact ((((AloneFrame.refl s).wr (SPT_H_SUBST (s.hp h)) _ (substRegs_alone hh _ hmem.1)).setSpt h _).wr (STK_TB2_NOW h) _ (substRegs_alone hh _ hmem.2))
  have huspt : u.sptOf h = { s.sptOf h with frame := some f1 } := by
    rw [← hu, State.sptOf_tb2Line, State.sptOf_setSpt]
  have hmod : (s.inc (SPT_H_SUBST (s.hp h))).modFrame h (fun g => { g with info := { g.info with subst := g.info.subst + 1, map := tabGet f.next 0 r :: g.info.map } }) = (s.inc (SPT_H_SUBST (s.hp h))).setSpt h { s.sptOf h with frame := some f1 } :=
    (State.modFrame_some (s := s.inc (SPT_H_SUBST (s.hp h))) (f := f) hf _).trans (by rw [hmap]; rfl)
  have heq : s.substLine h r = u.setSpt h { u.sptOf h with frame := some (linePassed r (tabGet f.next 0 r) px f1) } := by
    have hpass := passLine_alone (hframe.alone ha) (f := f1) (by rw [huspt]) r (tabGet f.next 0 r) px true
    rw [← hpass]
    conv_lhs => unfold State.substLine
    rw [hf]
    dsimp only
    rw [hmod, if_neg (by rw [hhead]; exact Bool.false_ne_true), hu, ← hpx] <;> rfl
  have hregs : RegsBut s u (substRegs s h) := by
    rw [← hu]
    exact (((RegsBut.refl s _).inc (SPT_H_SUBST (s.hp h)) 1 hmem.1).congr (u := (s.inc (SPT_H_SUBST (s.hp h))).setSpt h _) rfl).wr (STK_TB2_NOW h) _ hmem.2
  refine ⟨linePassed r (tabGet f.next 0 r) px f1, ?_, linePassed_next _ _ _ _, hf1, ?_, ?_, ?_, ?_, ?_⟩
  · rw [heq, State.sptOf_setSpt, huspt]
  · have hsub : u.rd (SPT_H_SUBST (s.hp h)) = satAdd (s.rd (SPT_H_SUBST (s.hp h))) 1 := by
      rw [← hu]
      refine (State.rd_wr_ne _ _ ?_).trans (State.rd_wr_self s _ _)
      simp only [SPT_H_SUBST, STK_TB2_NOW]
      omega
    rw [heq]
    exact hsub
  · rw [heq]
    exact hregs.congr
  · rw [heq]
    exact hframe.setSpt h _
  · rw [heq, ← hu]
    rfl
  · rw [heq, ← hu]
    rfl

/-! ### Frames open, lines open and end -/

theorem paddleFirst_off {s : State} (hoff : s.boot.paddle = .off) (h : Nat) : s.paddleFirst h = (s, true) := by
  unfold State.paddleFirst
  rw [hoff]
  exact ite_self _

/-- The state in which a Frame Start has counted and moved TB2 (R138, R171). -/
def State.frameCounted (s : State) (h number : Nat) : State :=
  ((s.incWrap (SPT_H_FRAMES (s.hp h))).wr (SPT_H_LAST_FRAME (s.hp h)) (w32 number)).tb2Frame h

theorem acceptFrame_open {s : State} {h : Nat} (hoff : s.boot.paddle = .off) (hidle : s.spIdle h = false) (number readouts : Nat) :
    ∃ i : FrameInfo, i.number = number ∧ i.tStart = s.ns ∧ s.acceptFrame h number readouts =
      ((s.frameCounted h number).setSpt h { s.sptOf h with reject := false, closed := none, last := some number }).openFrame h
        { info := i, readouts := readouts } := by
  unfold State.acceptFrame
  rw [paddleFirst_off hoff]
  dsimp only
  rw [if_neg (by decide), if_neg (by rw [hidle]; exact Bool.false_ne_true)]
  exact ⟨_, rfl, rfl, rfl⟩

theorem frameStart_runs {h : Fin 8} {c : BitVec 56} {s : State} (hact : Active s h) (ha : PortAlone s h) (hok : ctlOk 0x55 c = true)
    (hhead : ctlByte c 1 % 8 = h.val) (hmode : s.frameModeOk h (ctlByte c 4) (ctlByte c 5) = true) (hframe : (s.sptOf h).frame = none)
    (hlast : (s.sptOf h).last = none) :
    Runs (.zlFrameStart h c) s (fun t =>
        t.rd (SPT_H_FRAMES (s.hp h)) = s.rd (SPT_H_FRAMES (s.hp h)) + 1 ∧ t.rd (SPT_H_LAST_FRAME (s.hp h)) = w32 (ctlHalf c 2) ∧
        t.rd (STK_TB2_NOW h) = w32 (((s.rd (STK_TB2_NOW h)).toNat / 16384 + 1) % 262144 * 16384) ∧
        (∃ f, (t.sptOf h).frame = some f ∧ f.info.number = ctlHalf c 2 ∧ f.info.tStart = s.ns ∧ f.readouts = ctlByte c 5 ∧ f.next = []) ∧ t.occ = s.occ ∧
        RegsBut s t [(SPT_H_FRAMES (s.hp h)).off, (SPT_H_LAST_FRAME (s.hp h)).off, (STK_TB2_NOW h).off] ∧ SameMem s t) := by
  obtain ⟨h4, hup, hidle, hoff⟩ := hact
  have hp : s.hp h < 8 := hp_lt h.isLt
  have h8 := h.isLt
  obtain ⟨i, hnum, hstart, hacc⟩ := acceptFrame_open hoff hidle (ctlHalf c 2) (ctlByte c 5)
  generalize hu : (s.frameCounted h (ctlHalf c 2)).setSpt h { s.sptOf h with reject := false, closed := none, last := some (ctlHalf c 2) } = u at hacc
  have hua : PortAlone u h := by
    have hcounted : AloneFrame s (s.frameCounted h (ctlHalf c 2)) := by
      refine (((AloneFrame.refl s).wr (SPT_H_FRAMES (s.hp h)) _ ?_).wr (SPT_H_LAST_FRAME (s.hp h)) _ ?_).wr (STK_TB2_NOW h) _ ?_
      all_goals
        simp only [aloneReg, notShape, SPT_H_FRAMES, SPT_H_LAST_FRAME, STK_TB2_NOW]
        omega
    rw [← hu]
    exact (hcounted.setSpt h _).alone ha
  rw [openFrame_alone hua] at hacc
  have hclose : s.closeFrame h true = s := by
    unfold State.closeFrame
    rw [hframe]
  have hstartEq : s.frameStart h c = s.acceptFrame h (ctlHalf c 2) (ctlByte c 5) := by
    unfold State.frameStart
    dsimp only
    rw [hok, hmode, hlast, hframe]
    simp only [Bool.not_true, Bool.false_eq_true, if_false, hhead, ne_eq, not_true_eq_false, Option.isSome_none]
    rw [hclose]
  have hrun : exec (.zlFrameStart h c) s = .next (u.setSpt h { u.sptOf h with frame := some { info := i, readouts := ctlByte c 5 }, line := none, legLine := 0 }) := by
    refine congrArg Host.Outcome.next ((if_pos (by simp [h4, hup])).trans ?_)
    rw [hstartEq, hacc]
    exact State.settle_same (by rw [← hu]; rfl)
  have h12 : (SPT_H_FRAMES (s.hp h)).off ≠ (SPT_H_LAST_FRAME (s.hp h)).off := by simp only [SPT_H_FRAMES, SPT_H_LAST_FRAME]; omega
  have h13 : (SPT_H_FRAMES (s.hp h)).off ≠ (STK_TB2_NOW h).off := by simp only [SPT_H_FRAMES, STK_TB2_NOW]; omega
  have h23 : (SPT_H_LAST_FRAME (s.hp h)).off ≠ (STK_TB2_NOW h).off := by simp only [SPT_H_LAST_FRAME, STK_TB2_NOW]; omega
  subst hu
  refine Runs.next hrun ⟨?_, ?_, ?_, ⟨_, congrArg SptH.frame (State.sptOf_setSpt _ _ _), hnum, hstart, rfl, rfl⟩, rfl, ?_, fun _ => rfl⟩
  · exact (State.rd_wr_ne _ _ h13).trans ((State.rd_wr_ne _ _ h12).trans (State.rd_wr_self s _ _))
  · exact (State.rd_wr_ne _ _ h23).trans (State.rd_wr_self _ _ _)
  · refine (State.rd_wr_self _ _ _).trans ?_
    rw [State.rd_wr_ne _ _ h23.symm, State.incWrap_eq, State.rd_wr_ne _ _ h13.symm]
  · have hregs : RegsBut s (s.frameCounted h (ctlHalf c 2)) [(SPT_H_FRAMES (s.hp h)).off, (SPT_H_LAST_FRAME (s.hp h)).off, (STK_TB2_NOW h).off] :=
      (((RegsBut.refl s _).wr (SPT_H_FRAMES (s.hp h)) _).wr (SPT_H_LAST_FRAME (s.hp h)) _).wr (STK_TB2_NOW h) _
    exact hregs.congr

theorem lineStart_runs {h : Fin 8} {c : BitVec 56} {f : OpenFrame} {s : State} (hact : Active s h) (hok : ctlOk 0x66 c = true)
    (hhead : ctlByte c 1 % 8 = h.val) (hframe : (s.sptOf h).frame = some f) (hline : (s.sptOf h).line = none) (hn : ctlHalf c 2 < (s.geom h).h)
    (hro : bitsOf (ctlByte c 1) 5 4 < f.readouts) (hnum : ctlByte c 4 = f.info.number % 256)
    (hnext : tabGet f.next 0 (bitsOf (ctlByte c 1) 5 4) ≤ ctlHalf c 2) :
    Runs (.zlLineStart h c) s (fun t =>
        (t.sptOf h).line = some { mode := .taken, readout := bitsOf (ctlByte c 1) 5 4, line := ctlHalf c 2 } ∧ (t.sptOf h).frame = some f ∧
        (bitsOf (ctlByte c 1) 5 4 = 0 → t.rd (STK_TB2_NOW h) = w32 ((s.rd (STK_TB2_NOW h)).toNat / 16384 * 16384 + ctlHalf c 2 % 16384)) ∧
        RegsBut s t [(STK_TB2_NOW h).off] ∧ t = { s with regs := t.regs, spt := t.spt }) := by
  obtain ⟨h4, hup, -, -⟩ := hact
  generalize hu : s.setSpt h { s.sptOf h with line := some ({ mode := .taken, readout := bitsOf (ctlByte c 1) 5 4, line := ctlHalf c 2 } : OpenLine) } = u
  have hstart : s.lineStart h c = if bitsOf (ctlByte c 1) 5 4 = 0 then u.tb2Line h (ctlHalf c 2) else u := by
    unfold State.lineStart
    dsimp only
    rw [hok, hline, hframe]
    simp only [Bool.not_true, Bool.false_eq_true, if_false, hhead, ne_eq, not_true_eq_false, Option.isSome_none]
    rw [if_neg (by simp only [Bool.or_eq_true, decide_eq_true_eq]; omega), hframe, Option.map_some, Option.getD_some, if_neg (by omega), ← hframe, hu]
  have huspt : u.sptOf h = { s.sptOf h with line := some ({ mode := .taken, readout := bitsOf (ctlByte c 1) 5 4, line := ctlHalf c 2 } : OpenLine) } := by
    rw [← hu]; exact State.sptOf_setSpt _ _ _
  have hrun (t : State) (ht : s.lineStart h c = t) (hocc : t.occ = s.occ) : exec (.zlLineStart h c) s = .next t := by
    refine congrArg Host.Outcome.next ((if_pos (by simp [h4, hup])).trans ?_)
    rw [ht, State.settle_same hocc]
  by_cases h0 : bitsOf (ctlByte c 1) 5 4 = 0
  · rw [if_pos h0] at hstart
    refine Runs.next (hrun _ hstart (by rw [← hu]; rfl)) ⟨?_, ?_, fun _ => ?_, ?_, ?_⟩
    · exact congrArg SptH.line huspt
    · exact (congrArg SptH.frame huspt).trans hframe
    · rw [← hu]
      exact State.rd_wr_self _ _ _
    · rw [← hu]
      exact ((RegsBut.refl s _).congr (u := s.setSpt h _) rfl).wr (STK_TB2_NOW h) _
    · rw [← hu]
      rfl
  · rw [if_neg h0] at hstart
    refine Runs.next (hrun _ hstart (by rw [← hu]; rfl)) ⟨congrArg SptH.line huspt, (congrArg SptH.frame huspt).trans hframe, fun h => absurd h h0, ?_, ?_⟩
    · rw [← hu]
      exact (RegsBut.refl s _).congr
    · rw [← hu]
      rfl

/-- The open line of a frame ends with the length and number that it should have (R171). -/
theorem lineEnd_eq {h : Nat} {c : BitVec 56} {l : OpenLine} {f : OpenFrame} {s u : State} (hok : ctlOk 0x78 c = true)
    (hframe : (s.sptOf h).frame = some f) (hline : (s.sptOf h).line = some l) (hmode : l.mode = .taken) (hnext : tabGet f.next 0 l.readout = l.line)
    (hlen : l.payload.length = 8 * ceilDiv ((s.geom h).w * (s.geom h).b) 64) (hnum : ctlHalf c 5 = l.line)
    (hu : s.setSpt h { s.sptOf h with line := none } = u) :
    s.lineEnd h c =
      if (crc32c l.payload).toNat = bitsOf c.toNat 31 0 then
        u.lineAccept h l.readout l.line (unpackLine (s.geom h).w (s.geom h).b (leNat l.payload)) false
      else
        let v := (u.inc (SPT_H_CRC_ERR (u.hp h))).raiseOnce 132 h (u.spBid h)
        if v.bit (SPT_H_CFG (v.hp h)) SPT_H_CFG_CRC_KEEP then
          v.lineAccept h l.readout l.line (unpackLine (s.geom h).w (s.geom h).b (leNat l.payload)) true
        else v.lineMissing h l.readout l.line := by
  have huspt : u.sptOf h = { s.sptOf h with line := none } := by rw [← hu]; exact State.sptOf_setSpt _ _ _
  unfold State.lineEnd
  dsimp only
  rw [hok, hline]
  simp only [Bool.not_true, Bool.false_eq_true, if_false, hmode]
  rw [hu, huspt, hframe, Option.map_some, Option.getD_some, hnext, if_neg (Nat.lt_irrefl _), if_neg (by simp [hlen, hnum])]
  simp only [beq_iff_eq]

theorem lineEnd_passes {h : Fin 8} {c : BitVec 56} {l : OpenLine} {f : OpenFrame} {s : State} (hact : Active s h) (ha : PortAlone s h)
    (hok : ctlOk 0x78 c = true) (hframe : (s.sptOf h).frame = some f) (hline : (s.sptOf h).line = some l) (hmode : l.mode = .taken)
    (hnext : tabGet f.next 0 l.readout = l.line) (hlen : l.payload.length = 8 * ceilDiv ((s.geom h).w * (s.geom h).b) 64) (hnum : ctlHalf c 5 = l.line)
    (hcrc : (crc32c l.payload).toNat = bitsOf c.toNat 31 0) :
    Runs (.zlLineEnd h c) s (fun t =>
        (t.sptOf h).line = none ∧ (∃ f', (t.sptOf h).frame = some f' ∧ tabGet f'.next 0 l.readout = l.line + 1 ∧ f'.info = f.info) ∧
        t.regs = s.regs ∧ t.occ = s.occ) := by
  obtain ⟨h4, hup, -, -⟩ := hact
  generalize hu : s.setSpt h { s.sptOf h with line := none } = u
  have huspt : u.sptOf h = { s.sptOf h with line := none } := by rw [← hu, State.sptOf_setSpt]
  have huf : (u.sptOf h).frame = some f := by rw [huspt]; exact hframe
  have hua : PortAlone u h := hu ▸ State.setSpt_alone ha h _
  have hend := lineEnd_eq hok hframe hline hmode hnext hlen hnum hu
  generalize hpx : unpackLine (s.geom h).w (s.geom h).b (leNat l.payload) = px at hend
  have haccept : u.lineAccept h l.readout l.line px false = u.setSpt h { u.sptOf h with frame := some (linePassed l.readout l.line px f) } := by
    unfold State.lineAccept
    rw [substUpTo_done huf (Nat.le_of_eq hnext.symm)]
    exact passLine_alone hua huf _ _ _ _
  rw [if_pos hcrc, haccept, huspt] at hend
  have hrun : exec (.zlLineEnd h c) s = .next (u.setSpt h { s.sptOf h with frame := some (linePassed l.readout l.line px f), line := none }) := by
    refine congrArg Host.Outcome.next ((if_pos (by simp [h4, hup])).trans ?_)
    rw [hend]
    exact State.settle_same (by rw [← hu]; rfl)
  refine Runs.next hrun ⟨congrArg SptH.line (State.sptOf_setSpt _ _ _),
    ⟨_, congrArg SptH.frame (State.sptOf_setSpt _ _ _), linePassed_next _ _ _ _, rfl⟩, by rw [← hu]; rfl, by rw [← hu]; rfl⟩

theorem raiseOnce_fields (s : State) (ev key src : Nat) (items : List Word) : (s.raiseOnce ev key src items).spt = s.spt := by
  unfold State.raiseOnce
  split <;> rfl

theorem lineEnd_substitutes {h : Fin 8} {c : BitVec 56} {l : OpenLine} {f : OpenFrame} {s : State} (hact : Active s h) (ha : PortAlone s h)
    (hok : ctlOk 0x78 c = true) (hframe : (s.sptOf h).frame = some f) (hhead : f.headless = false) (hline : (s.sptOf h).line = some l)
    (hmode : l.mode = .taken) (hnext : tabGet f.next 0 l.readout = l.line)
    (hlen : l.payload.length = 8 * ceilDiv ((s.geom h).w * (s.geom h).b) 64) (hnum : ctlHalf c 5 = l.line)
    (hcrc : (crc32c l.payload).toNat ≠ bitsOf c.toNat 31 0) (hkeep : s.bit (SPT_H_CFG (s.hp h)) SPT_H_CFG_CRC_KEEP = false) :
    Runs (.zlLineEnd h c) s (fun t =>
        t.rd (SPT_H_CRC_ERR (s.hp h)) = satAdd (s.rd (SPT_H_CRC_ERR (s.hp h))) 1 ∧ t.rd (SPT_H_SUBST (s.hp h)) = satAdd (s.rd (SPT_H_SUBST (s.hp h))) 1 ∧
        (∃ f', (t.sptOf h).frame = some f' ∧ tabGet f'.next 0 l.readout = l.line + 1 ∧ f'.info.subst = f.info.subst + 1)) := by
  obtain ⟨h4, hup, -, -⟩ := hact
  have hp : s.hp h < 8 := hp_lt h.isLt
  have h8 := h.isLt
  generalize hu : s.setSpt h { s.sptOf h with line := none } = u
  have hend := lineEnd_eq hok hframe hline hmode hnext hlen hnum hu
  have huspt : u.sptOf h = { s.sptOf h with line := none } := by rw [← hu, State.sptOf_setSpt]
  have hsu : AloneFrame s u := by rw [← hu]; exact (AloneFrame.refl s).setSpt h _
  have huregs : u.regs = s.regs := by rw [← hu]; rfl
  have hcrcReg : aloneReg (SPT_H_CRC_ERR (s.hp h)).off := by
    simp only [aloneReg, notShape, SPT_H_CRC_ERR]
    omega
  rw [if_neg hcrc, hsu.heads.hp, hsu.heads.spBid] at hend
  generalize hv : (u.inc (SPT_H_CRC_ERR (s.hp h))).raiseOnce 132 h (s.spBid h) = v at hend
  have hsv : AloneFrame s v := by
    rw [← hv]
    exact (hsu.wr _ _ hcrcReg).raiseOnce h _ _ (by decide)
  have hvregs : RegsBut s v ((SPT_H_CRC_ERR (s.hp h)).off :: evRegs 132) := by
    rw [← hv]
    have hinc : RegsBut s (u.inc (SPT_H_CRC_ERR (s.hp h))) ((SPT_H_CRC_ERR (s.hp h)).off :: evRegs 132) :=
      ((RegsBut.refl s _).congr huregs).inc (SPT_H_CRC_ERR (s.hp h)) 1
    exact hinc.trans ((State.raiseOnce_regs _ _ _ _ _).mono (by simp))
  have hvspt : v.sptOf h = { s.sptOf h with line := none } := by
    rw [State.sptOf, ← hv, raiseOnce_fields]
    exact huspt
  have hvf : (v.sptOf h).frame = some f := by rw [hvspt]; exact hframe
  have hvkeep : v.bit (SPT_H_CFG (v.hp h)) SPT_H_CFG_CRC_KEEP = false := by rw [hsv.heads.hp, State.bit, hsv.heads.hcfg]; exact hkeep
  have hvcrc : v.rd (SPT_H_CRC_ERR (s.hp h)) = satAdd (s.rd (SPT_H_CRC_ERR (s.hp h))) 1 := by
    have hrd : u.rd (SPT_H_CRC_ERR (s.hp h)) = s.rd (SPT_H_CRC_ERR (s.hp h)) := by rw [State.rd, huregs]; rfl
    rw [← hv, (State.raiseOnce_regs _ 132 h _ []).rd (by simp only [evRegs, EVT_R_CNT, EVT_R_LAST, SPT_H_CRC_ERR, List.mem_cons, List.not_mem_nil, or_false]; omega),
      ← hrd]
    exact State.rd_wr_self u _ _
  have hvsub : v.rd (SPT_H_SUBST (s.hp h)) = s.rd (SPT_H_SUBST (s.hp h)) := hvregs.rd (by
    simp only [evRegs, EVT_R_CNT, EVT_R_LAST, SPT_H_CRC_ERR, SPT_H_SUBST, List.mem_cons, List.not_mem_nil, or_false]; omega)
  obtain ⟨f', hspt, hnext', hsubst, hcnt, hregs, -, -, -⟩ := substLine_alone (r := l.readout) (hsv.alone ha) h.isLt hvf hhead
  have hmiss : v.lineMissing h l.readout l.line = v.substLine h l.readout := by
    unfold State.lineMissing
    rw [substUpTo_next hvf (by omega)]
    exact substUpTo_done (f := f') (by rw [hspt]) (by omega) _
  dsimp only at hend
  rw [hvkeep, if_neg Bool.false_ne_true, hmiss] at hend
  have hrun : exec (.zlLineEnd h c) s = .next (s.settle (v.substLine h l.readout)) := by
    refine congrArg Host.Outcome.next ((if_pos (by simp [h4, hup])).trans ?_)
    rw [hend]
  rw [hsv.heads.hp] at hcnt
  refine Runs.next hrun ⟨?_, ?_, f', ?_, by rw [hnext', hnext], hsubst⟩
  · rw [State.rd_settle, hregs.rd, hvcrc]
    rw [substRegs, hsv.heads.hp]
    simp only [SPT_H_CRC_ERR, SPT_H_SUBST, STK_TB2_NOW, List.mem_cons, List.not_mem_nil, or_false]
    omega
  · rw [State.rd_settle, hcnt, hvsub]
  · rw [State.sptOf, State.settle_spt]
    exact congrArg SptH.frame hspt

theorem framesAndLines : FramesAndLines := by
  unfold FramesAndLines
  intro h c d s hact ha p
  refine ⟨fun hok hhead hmode hframe hlast => frameStart_runs hact ha hok hhead hmode hframe hlast,
    fun f hok hhead hframe hline hn hro hnum hnext => lineStart_runs hact hok hhead hframe hline hn hro hnum hnext, fun l hline hmode => ?_,
    fun l f hok hframe hline hmode hnext hlen hnum hcrc => lineEnd_passes hact ha hok hframe hline hmode hnext hlen hnum hcrc,
    fun l f hok hframe hhead hline hmode hnext hlen hnum hcrc hkeep => lineEnd_substitutes hact ha hok hframe hhead hline hmode hnext hlen hnum hcrc hkeep⟩
  obtain ⟨h4, hup, -, -⟩ := hact
  refine congrArg Host.Outcome.next ((if_pos (by simp [h4, hup])).trans ?_)
  rw [hline]
  exact if_pos (by rw [hmode]; decide)

/-! ### The end of a frame (R173, R175) -/

/-- Nothing is substituted in a frame whose lines have all arrived. -/
theorem substRest_done {s : State} {h : Nat} {f : OpenFrame} (hframe : (s.sptOf h).frame = some f)
    (hall : ∀ r, r < f.readouts → tabGet f.next 0 r = (s.geom h).h) : s.substRest h = s := by
  unfold State.substRest
  rw [hframe]
  refine foldl_fixed_mem fun n hn => foldl_fixed_mem fun r hr => substUpTo_done hframe ?_ 1
  rw [hall r (List.mem_range.1 hr)]
  exact List.mem_range.1 hn

/-- A complete frame closes at its port alone (R175, R176). -/
theorem closeFrame_done {s : State} {h : Nat} (ha : PortAlone s h) {f : OpenFrame} (hframe : (s.sptOf h).frame = some f)
    (hall : ∀ r, r < f.readouts → tabGet f.next 0 r = (s.geom h).h) (hsub : f.info.subst = 0) (hkept : f.info.kept = 0) (hhead : f.headless = false)
    (atEnd : Bool) : ∃ x : SptH, s.closeFrame h atEnd = s.setSpt h x ∧ x.frame = none ∧ x.closed = some f.info.number ∧ (atEnd = true → x.line = none) := by
  refine ⟨{ s.sptOf h with
    frame := none, due := false, closed := if f.headless then (s.sptOf h).closed else some f.info.number,
    line := if atEnd then none else (s.sptOf h).line.map (fun l => if l.mode == LineMode.taken then { l with mode := LineMode.late } else l) },
    ?_, rfl, ?_, fun hend => if_pos hend⟩
  · have hset := State.setSpt_alone ha h { s.sptOf h with
      frame := none, due := false, closed := if f.headless then (s.sptOf h).closed else some f.info.number,
      line := if atEnd then none else (s.sptOf h).line.map (fun l => if l.mode == LineMode.taken then { l with mode := LineMode.late } else l) }
    have hinc : (decide (0 < f.info.subst) || decide (0 < f.info.kept)) = false := by rw [hsub, hkept]; rfl
    unfold State.closeFrame
    rw [hframe]
    dsimp only
    rw [substRest_done hframe hall, hframe]
    dsimp only
    rw [hinc, if_neg Bool.false_ne_true, catFrameClose_alone hset, drvClose_alone hset, cmpHeadClose_alone hset, sgCount_alone hset]
  · rw [hhead]
    rfl

theorem lineTimeout_runs {h : Fin 8} {f : OpenFrame} {s : State} (hact : Active s h) (ha : PortAlone s h) (hframe : (s.sptOf h).frame = some f)
    (hone : f.readouts = 1) (hnext : tabGet f.next 0 0 < (s.geom h).h) (hhead : f.headless = false) (hround : s.roundFlags.contains (133, h.val) = false) :
    Runs (.lineTimeout h) s (fun t =>
      t.rd (SPT_H_SUBST (s.hp h)) = satAdd (s.rd (SPT_H_SUBST (s.hp h))) 1 ∧ t.rd (SPT_H_TMO_CNT (s.hp h)) = satAdd (s.rd (SPT_H_TMO_CNT (s.hp h))) 1 ∧
      (∃ f', (t.sptOf h).frame = some f' ∧ tabGet f'.next 0 0 = tabGet f.next 0 0 + 1 ∧ f'.info.subst = f.info.subst + 1) ∧
      Raised s t 133 (0x0200 + s.hp h) 0) := by
  obtain ⟨h4, hup, -, -⟩ := hact
  have hp : s.hp h < 8 := hp_lt h.isLt
  have h8 := h.isLt
  have hlow : lowestReadout f = 0 := by simp [lowestReadout, hone]
  obtain ⟨f', hspt, hnext', hsubst, hcnt, hregs, -, hocc, hflags⟩ := substLine_alone (r := 0) ha h.isLt hframe hhead
  generalize hw : s.substLine h 0 = w at *
  have hraise : (w.inc (SPT_H_TMO_CNT (s.hp h))).raiseOnce 133 h (s.spBid h) =
      ({ w.inc (SPT_H_TMO_CNT (s.hp h)) with roundFlags := (133, h.val) :: w.roundFlags } : State).raise 133 (s.spBid h) :=
    if_neg (by rw [show (w.inc (SPT_H_TMO_CNT (s.hp h))).roundFlags = w.roundFlags from rfl, hflags, hround]; exact Bool.false_ne_true)
  generalize hx : ({ w.inc (SPT_H_TMO_CNT (s.hp h)) with roundFlags := (133, h.val) :: w.roundFlags } : State) = x at hraise
  have hxocc : x.occ = s.occ := by rw [← hx]; exact hocc
  have hrun : exec (.lineTimeout h) s = .next (x.raise 133 (s.spBid h)) := by
    have hbody : (match (s.sptOf h).frame with
        | none => s
        | some f =>
          if s.zlStage h = 4 && tabGet f.next 0 (lowestReadout f) < (s.geom h).h then
            s.settle (((s.substLine h (lowestReadout f)).inc (SPT_H_TMO_CNT (s.hp h))).raiseOnce 133 h (s.spBid h))
          else s) = x.raise 133 (s.spBid h) := by
      rw [hframe]
      dsimp only
      rw [hlow, if_pos (by simp [h4, hnext]), hw, hraise]
      exact State.settle_raise 133 _ [] hxocc
    exact congrArg Host.Outcome.next hbody
  have hxregs : RegsBut s x ((SPT_H_TMO_CNT (s.hp h)).off :: substRegs s h) := by
    rw [← hx]
    exact ((hregs.mono (by simp)).inc (SPT_H_TMO_CNT (s.hp h)) 1).congr
  have hev {g : Reg} (hg : 0x1000000 ≤ g.off) : (x.raise 133 (s.spBid h)).rd g = x.rd g :=
    State.rd_raise _ _ _ _ (by simp only [EVT_R_CNT]; omega) (by simp only [EVT_R_LAST]; omega)
  refine Runs.next hrun ⟨?_, ?_, ⟨f', ?_, hnext', hsubst⟩, State.raised_raise 133 _ [] hxocc (hxregs.rd ?_)⟩
  · rw [hev (by simp only [SPT_H_SUBST]; omega), ← hx, State.rd, State.inc]
    refine (State.rd_wr_ne w _ ?_).trans hcnt
    simp only [SPT_H_SUBST, SPT_H_TMO_CNT]
    omega
  · have hkeep : w.rd (SPT_H_TMO_CNT (s.hp h)) = s.rd (SPT_H_TMO_CNT (s.hp h)) := hregs.rd (by
      simp only [substRegs, SPT_H_SUBST, SPT_H_TMO_CNT, STK_TB2_NOW, List.mem_cons, List.not_mem_nil, or_false]; omega)
    rw [hev (by simp only [SPT_H_TMO_CNT]; omega), ← hx, ← hkeep]
    exact State.rd_wr_self w _ _
  · have hkeep : (x.raise 133 (s.spBid h)).sptOf h = w.sptOf h := by rw [← hx]; rfl
    rw [hkeep, hspt]
  · simp only [substRegs, SPT_H_SUBST, SPT_H_TMO_CNT, STK_TB2_NOW, EVT_R_CNT, List.mem_cons, List.not_mem_nil, or_false]
    omega

theorem framesEnd : FramesEnd := by
  unfold FramesEnd
  intro h c f s hact ha hframe p
  refine ⟨fun hall hsub hkept hhead => ⟨fun hok => ?_, ?_⟩,
    fun hone hnext hhead hround => lineTimeout_runs hact ha hframe hone hnext hhead hround⟩
  · obtain ⟨h4, hup, -, -⟩ := hact
    have hp : s.hp h < 8 := hp_lt h.isLt
    have hreg : aloneReg (SPT_H_STATUS_WORD (s.hp h)).off := by simp only [aloneReg, notShape, SPT_H_STATUS_WORD]; omega
    have hframe' : AloneFrame s (s.setFld (SPT_H_STATUS_WORD (s.hp h)) ⟨7, 0⟩ (ctlByte c 5)) := (AloneFrame.refl s).wr _ _ hreg
    obtain ⟨x, hclose, hnone, hclosed, hline⟩ := closeFrame_done (s := s.setFld (SPT_H_STATUS_WORD (s.hp h)) ⟨7, 0⟩ (ctlByte c 5)) (hframe'.alone ha) hframe
      (fun r hr => (hall r hr).trans (by rw [hframe'.heads.geom])) hsub hkept hhead true
    have hend : s.frameEnd h c = (s.setFld (SPT_H_STATUS_WORD (s.hp h)) ⟨7, 0⟩ (ctlByte c 5)).setSpt h x := by
      unfold State.frameEnd
      dsimp only
      rw [hok, hframe]
      exact hclose
    have hrun : exec (.zlFrameEnd h c) s = .next ((s.setFld (SPT_H_STATUS_WORD (s.hp h)) ⟨7, 0⟩ (ctlByte c 5)).setSpt h x) := by
      refine congrArg Host.Outcome.next ((if_pos (by simp [h4, hup])).trans ?_)
      rw [hend]
      exact State.settle_same rfl
    refine Runs.next hrun ⟨?_, ?_, ?_, rfl, ?_, ?_, rfl⟩
    · rw [State.sptOf_setSpt, hnone]
    · rw [State.sptOf_setSpt, hclosed]
    · rw [State.sptOf_setSpt, hline rfl]
    · exact State.fld_setFld_self s (SPT_H_STATUS_WORD (s.hp h)) ⟨7, 0⟩ (ctlByte c 5)
    · exact ((RegsBut.refl s _).setFld (SPT_H_STATUS_WORD (s.hp h)) ⟨7, 0⟩ (ctlByte c 5) (List.mem_singleton.2 rfl)).congr
  · obtain ⟨-, -, -, -, -, -, hgroup⟩ := id ha
    obtain ⟨x, hclose, hnone, hclosed, -⟩ := closeFrame_done ha hframe hall hsub hkept hhead false
    have hrun : exec (.frameTimeout h) s = .next (s.setSpt h x) := by
      refine congrArg Host.Outcome.next ((if_pos (by rw [hgroup]; rfl)).trans ?_)
      rw [hclose]
      exact State.settle_same rfl
    refine Runs.next hrun ⟨?_, ?_, rfl, rfl⟩
    · rw [State.sptOf_setSpt, hnone]
    · rw [State.sptOf_setSpt, hclosed]

/-! ### Status blocks (R183) -/

theorem ctlByte_lt (c : BitVec 56) (i : Nat) (hi : 0 < i) : ctlByte c i < 256 := by
  have hmod : c.toNat / 2 ^ (8 * (i - 1)) % 2 ^ (8 * i - 1 + 1 - 8 * (i - 1)) < 2 ^ (8 * i - 1 + 1 - 8 * (i - 1)) := Nat.mod_lt _ (Nat.two_pow_pos _)
  rw [show 8 * i - 1 + 1 - 8 * (i - 1) = 8 by omega] at hmod
  exact Nat.lt_of_le_of_lt (Nat.le_of_eq (by unfold ctlByte bitsOf; rw [show 8 * i - 1 + 1 - 8 * (i - 1) = 8 by omega])) hmod

/-- The state in which a Status block shows in the status word. -/
def State.statusShown (s : State) (h : Nat) (c : BitVec 56) : State :=
  (s.setFld (SPT_H_STATUS_WORD (s.hp h)) ⟨15, 8⟩ (ctlByte c 2)).setFld (SPT_H_STATUS_WORD (s.hp h)) ⟨31, 16⟩ ((w32 (bitsOf c.toNat 47 16)).toNat % 65536)

theorem statusShown_regs (s : State) (h : Nat) (c : BitVec 56) : RegsBut s (s.statusShown h c) [(SPT_H_STATUS_WORD (s.hp h)).off] :=
  ((RegsBut.refl s _).setFld (SPT_H_STATUS_WORD (s.hp h)) _ _).setFld (SPT_H_STATUS_WORD (s.hp h)) _ _

theorem statusIsKept : StatusIsKept := by
  unfold StatusIsKept
  intro h c s hstage hup p
  have hp : s.hp h < 8 := hp_lt h.isLt
  have h8 := h.isLt
  have hcond : ((decide (s.zlStage h = 3) || decide (s.zlStage h = 4)) && s.headUp h) = true := by rcases hstage with h3 | h4 <;> simp [*]
  refine ⟨fun hok hhead => ?_, fun hbad h3 => ?_⟩
  · generalize hu : (if ctlByte c 2 = 0x10 then (s.statusShown h c).catTemp h (w32 (bitsOf c.toNat 47 16)) else s.statusShown h c) = u
    have huregs : RegsBut s u ((SPT_H_STATUS_WORD (s.hp h)).off :: [(CAT_H_STATUS h).off]) := by
      have hshown : RegsBut s (s.statusShown h c) ((SPT_H_STATUS_WORD (s.hp h)).off :: [(CAT_H_STATUS h).off]) := (statusShown_regs s h c).mono (by simp)
      rw [← hu]
      exact ((hshown.congr (u := (s.statusShown h c).setCat h _) rfl).setBit (CAT_H_STATUS h) _ _ (by simp)).ite hshown
    have huf : u.boot = s.boot ∧ u.blk = s.blk ∧ u.occ = s.occ := by
      rw [← hu]
      split <;> exact ⟨rfl, rfl, rfl⟩
    obtain ⟨huboot, hublk, huocc⟩ := huf
    have hbid : u.spBid h = 0x0200 + s.hp h := by
      refine SameHeads.spBid (SameHeads.of_regsBut huregs ?_ huboot hublk) h
      intro o ho
      simp only [SPT_H_STATUS_WORD, CAT_H_STATUS, List.mem_cons, List.not_mem_nil, or_false] at ho
      simp only [notShape]
      omega
    have hrun : exec (.zlStatus h c) s = .next (u.raise 137 (0x0200 + s.hp h) [w32 (bitsOf c.toNat 47 16), w32 (ctlByte c 2)]) := by
      refine congrArg Host.Outcome.next ((if_pos hcond).trans ((if_neg (by rw [hok]; decide)).trans ((if_neg (by rw [hhead]; exact fun h => h rfl)).trans ?_)))
      rw [← hbid, ← hu]
      rfl
    have hword : u.rd (SPT_H_STATUS_WORD (s.hp h)) = (s.statusShown h c).rd (SPT_H_STATUS_WORD (s.hp h)) := by
      have hne : (SPT_H_STATUS_WORD (s.hp h)).off ≠ (CAT_H_STATUS h).off := by simp only [SPT_H_STATUS_WORD, CAT_H_STATUS]; omega
      rw [← hu]
      split
      · exact State.rd_wr_ne _ _ hne
      · rfl
    have hev {g : Reg} (hg : 0x1000000 ≤ g.off) (src : Nat) (items : List Word) : (u.raise 137 src items).rd g = u.rd g :=
      State.rd_raise _ _ _ _ (by simp only [EVT_R_CNT]; omega) (by simp only [EVT_R_LAST]; omega)
    have hbyte : ctlByte c 2 < 256 := ctlByte_lt c 2 (by decide)
    refine Runs.next hrun ⟨?_, ?_, State.raised_raise 137 _ [w32 (bitsOf c.toNat 47 16), w32 (ctlByte c 2)] huocc (huregs.rd ?_), fun htemp => ?_, fun htemp => ?_⟩
    · rw [State.fld, hev (by simp only [SPT_H_STATUS_WORD]; omega), hword]
      refine (State.fld_setFld_ne _ _ _).trans ((State.fld_setFld_self s _ ⟨15, 8⟩ _).trans (Nat.mod_eq_of_lt hbyte))
    · rw [State.fld, hev (by simp only [SPT_H_STATUS_WORD]; omega), hword]
      refine (State.fld_setFld_self _ _ ⟨31, 16⟩ _).trans ?_
      have hlt : bitsOf c.toNat 47 16 < 2 ^ 32 := Nat.mod_lt _ (by decide)
      have hto : (w32 (bitsOf c.toNat 47 16)).toNat = bitsOf c.toNat 47 16 := by rw [w32, BitVec.toNat_ofNat, Nat.mod_eq_of_lt hlt]
      rw [hto]
      exact Nat.mod_eq_of_lt (Nat.mod_lt _ (by decide))
    · simp only [EVT_R_CNT, SPT_H_STATUS_WORD, CAT_H_STATUS, List.mem_cons, List.not_mem_nil, or_false]
      omega
    · rw [if_pos htemp] at hu
      refine ⟨?_, ?_⟩
      · rw [← hu]
        exact congrArg CatH.temp (tabGet_set_self s.cat _ _ _)
      · rw [State.bit, hev (by simp only [CAT_H_STATUS]; omega), ← hu]
        exact State.bit_setBit_self _ _ _ _
    · rw [if_neg htemp] at hu
      refine ⟨by rw [← hu]; rfl, ?_⟩
      rw [← hu]
      exact ((statusShown_regs s h c).mono (fun o ho => List.mem_cons.2 (Or.inl (List.mem_singleton.1 ho)))).raise 137 _ _
  · have hsame : SameHeads s (s.inc (SPT_H_PROTO_ERR (s.hp h))) := by
      refine SameHeads.of_regsBut (os := [(SPT_H_PROTO_ERR (s.hp h)).off]) ((RegsBut.refl s _).inc (SPT_H_PROTO_ERR (s.hp h)) 1) ?_
      simp only [List.mem_singleton, forall_eq, notShape, SPT_H_PROTO_ERR]
      omega
    have hzl : (s.inc (SPT_H_PROTO_ERR (s.hp h))).zlStage h = s.zlStage h :=
      hsame.zlStage h (State.rd_wr_ne s _ (by simp only [SPT_H_PROTO_ERR, SPT_H_STATE]; omega))
    have hproto : s.proto h = s.inc (SPT_H_PROTO_ERR (s.hp h)) := if_neg (by rw [hzl, h3]; decide)
    exact congrArg Host.Outcome.next ((if_pos hcond).trans ((if_pos (by rw [hbad]; rfl)).trans hproto))

/-- Settles O24: frames and lines of a head alone, their end, and its Status blocks. -/
theorem framesOfHeads : Obligations.FramesOfHeads := by
  unfold Obligations.FramesOfHeads
  exact ⟨framesAndLines, framesEnd, statusIsKept⟩

end Sys2Proof.Machine
end

section
/-! PROOFS. The control of heads: command lane, stakeboat groups, Legacy mode and set-up scripts (R167 to R169, R177 to R182). -/

-- One proof at a time: the text is compiled as one file in bounded memory.
set_option Elab.async false

namespace Sys2Proof.Machine
open Sys2Proof.Claims

/-! ### The command lane -/

theorem bitOf_put_ne {f : Fld} {w : Word} {v i : Nat} (hi : i < 32) (h : i < f.lo ∨ f.hi < i) : bitOf (f.put w v) i = bitOf w i := Fld.bit_put_ne f w v i hi h

theorem State.scriptOf_setScript (s : State) (p : Nat) (x : Script) : (s.setScript p x).scriptOf p = x := tabGet_set_self _ _ _ _

/-- The registers of a command that ends. -/
def cmdRegs (p : Nat) : List Nat := [(SPT_H_CMD_CTRL p).off, (SPT_H_CMD_DATA p).off]

theorem cmdRegs_notShape (p : Nat) : ∀ o, o ∈ cmdRegs p → notShape o := by
  intro o ho
  simp only [cmdRegs, SPT_H_CMD_CTRL, SPT_H_CMD_DATA, List.mem_cons, List.not_mem_nil, or_false] at ho
  simp only [notShape]
  omega

/-- The state of a head whose command has ended with a status, before its event (R168). -/
def State.cmdEnded (s : State) (h status : Nat) : State := (s.dropCmd h).setFld (SPT_H_CMD_CTRL (s.hp h)) SPT_H_CMD_CTRL_STATUS status

theorem cmdEnded_regs (s : State) (h status : Nat) : RegsBut s (s.cmdEnded h status) [(SPT_H_CMD_CTRL (s.hp h)).off] := by
  have hset : RegsBut s (s.setSpt h { s.sptOf h with cmd := none }) [(SPT_H_CMD_CTRL (s.hp h)).off] := (RegsBut.refl s _).congr
  exact (hset.setBit (SPT_H_CMD_CTRL (s.hp h)) SPT_H_CMD_CTRL_BUSY false).setFld (SPT_H_CMD_CTRL (s.hp h)) _ _

theorem cmdEnded_sptOf (s : State) (h status : Nat) : (s.cmdEnded h status).sptOf h = { s.sptOf h with cmd := none } := State.sptOf_setSpt s h _

theorem cmdEnded_status (s : State) (h : Nat) {status : Nat} (hlt : status < 16) :
    (s.cmdEnded h status).fld (SPT_H_CMD_CTRL (s.hp h)) SPT_H_CMD_CTRL_STATUS = status :=
  (State.fld_setFld_self _ _ SPT_H_CMD_CTRL_STATUS status).trans (Nat.mod_eq_of_lt hlt)

theorem cmdEnded_busy (s : State) (h status : Nat) : (s.cmdEnded h status).bit (SPT_H_CMD_CTRL (s.hp h)) SPT_H_CMD_CTRL_BUSY = false :=
  (State.bit_setFld_ne _ _ _).trans (State.bit_setBit_self _ _ SPT_H_CMD_CTRL_BUSY false)

/-- A command of software ends: nothing else waits for the lane. -/
theorem cmdDone_software {s : State} {h status ev : Nat} {d : Word} {c : CmdReq} (hc : (s.sptOf h).cmd = some c) (hby : c.by_ = .software)
    (hidle : (s.sptOf h).ex = .idle) (hwait : (s.scriptOf (s.hp h)).waitCmd = false) (hev : ev < 1024) {u : State}
    (hu : (if (!c.write && status != 15) = true then (s.cmdEnded h status).wr (SPT_H_CMD_DATA (s.hp h)) d else s.cmdEnded h status) = u) :
    s.cmdDone h status d ev = u.raise ev (0x0200 + s.hp h) := by
  have hregs : RegsBut s u (cmdRegs (s.hp h)) := by
    have hended : RegsBut s (s.cmdEnded h status) (cmdRegs (s.hp h)) := (cmdEnded_regs s h status).mono (by simp [cmdRegs])
    rw [← hu]
    exact (hended.wr (SPT_H_CMD_DATA (s.hp h)) d (by simp [cmdRegs])).ite hended
  have hfields : u.boot = s.boot ∧ u.blk = s.blk ∧ u.spt = (s.cmdEnded h status).spt ∧ u.scripts = s.scripts := by
    rw [← hu]
    split <;> exact ⟨rfl, rfl, rfl, rfl⟩
  obtain ⟨hboot, hblk, hspt, hscripts⟩ := hfields
  have hheads : SameHeads s u := SameHeads.of_regsBut hregs (cmdRegs_notShape _) hboot hblk
  have hheads' : SameHeads s (u.raise ev (0x0200 + s.hp h)) := by
    refine hheads.trans (SameHeads.of_regsBut ((RegsBut.refl u (evRegs ev)).raise ev (0x0200 + s.hp h) [] (by simp)) fun o ho => (evReg_alone hev o ho).1)
  have hex : ((u.raise ev (0x0200 + s.hp h)).sptOf h).ex = .idle := by
    have hkeep : (u.raise ev (0x0200 + s.hp h)).sptOf h = (s.cmdEnded h status).sptOf h := congrArg (fun x => tabGet x ({} : SptH) h) hspt
    rw [hkeep, cmdEnded_sptOf]
    exact hidle
  have hw : ((u.raise ev (0x0200 + s.hp h)).scriptOf ((u.raise ev (0x0200 + s.hp h)).hp h)).waitCmd = false := by
    rw [hheads'.hp]
    exact (congrArg (fun x => (tabGet x ({} : Script) (s.hp h)).waitCmd) hscripts).trans hwait
  have hnext : (u.raise ev (0x0200 + s.hp h)).cmdNext h = u.raise ev (0x0200 + s.hp h) := by
    unfold State.cmdNext
    dsimp only
    rw [hex, hw]
    rfl
  unfold State.cmdDone
  rw [hc]
  dsimp only
  rw [← State.cmdEnded, hu, hby, hheads.spBid]
  exact hnext

theorem cmdGo_sends {h p : Fin 8} {v : Word} {s : State} (hreach : Reach s (SPT_H_CMD_CTRL p)) (hgo : v.getLsbD 1 = true) (hdis : v.getLsbD 9 = false)
    (hbusy : s.bit (SPT_H_CMD_CTRL p) SPT_H_CMD_CTRL_BUSY = false) (hport : s.portHead p = h.val) (hlead : s.leadPort h = some p.val) :
    Runs (.sptCmdGo p v) s (fun t =>
        (t.sptOf h).cmd = some ⟨v.getLsbD 0, (s.sptOf h).tag, s.rd (SPT_H_CMD_ADDR p), s.rd (SPT_H_CMD_DATA p), 1, .software⟩ ∧
        (t.sptOf h).tag = ((s.sptOf h).tag + 1) % 256 ∧ t.bit (SPT_H_CMD_CTRL p) SPT_H_CMD_CTRL_BUSY = true ∧
        t.out = s.out ++ [.cmdLane h (requestBlocks (v.getLsbD 0) (s.sptOf h).tag (s.rd (SPT_H_CMD_ADDR p)) (s.rd (SPT_H_CMD_DATA p)))] ∧
        RegsBut s t [(SPT_H_CMD_CTRL p).off] ∧ t = { s with regs := t.regs, spt := t.spt, out := t.out }) := by
  obtain ⟨hup, hacc⟩ := hreach
  generalize hu : s.setFld (SPT_H_CMD_CTRL p) SPT_H_CMD_CTRL_OP (b2n (bitOf v 0)) = u
  have huregs : RegsBut s u [(SPT_H_CMD_CTRL p).off] := hu ▸ (RegsBut.refl s _).setFld (SPT_H_CMD_CTRL p) _ _
  have huonly : OnlyRegs s u := hu ▸ (OnlyRegs.refl s).setFld _ _ _
  have hheads : SameHeads s u := SameHeads.of_regsBut huregs (by simp only [List.mem_singleton, forall_eq, notShape, SPT_H_CMD_CTRL]; omega)
    (huonly.field State.boot) (huonly.field State.blk)
  have hubusy : u.bit (SPT_H_CMD_CTRL p) SPT_H_CMD_CTRL_BUSY = false := by rw [← hu, State.bit_setFld_ne]; exact hbusy
  have huspt : u.sptOf h = s.sptOf h := congrArg (fun x => tabGet x ({} : SptH) h.val) (huonly.field State.spt)
  have haddr : u.rd (SPT_H_CMD_ADDR p) = s.rd (SPT_H_CMD_ADDR p) := huregs.rd (by simp [SPT_H_CMD_ADDR, SPT_H_CMD_CTRL])
  have hdata : u.rd (SPT_H_CMD_DATA p) = s.rd (SPT_H_CMD_DATA p) := huregs.rd (by simp [SPT_H_CMD_DATA, SPT_H_CMD_CTRL])
  have huhp : u.hp h = p.val := by rw [hheads.hp, State.hp, hlead]; rfl
  generalize hw : (u.setSpt h { u.sptOf h with tag := ((u.sptOf h).tag + 1) % 256 }) = w
  have hwspt : w.sptOf h = { s.sptOf h with tag := ((s.sptOf h).tag + 1) % 256 } := by rw [← hw, State.sptOf_setSpt, huspt]
  generalize hq : (⟨bitOf v 0, (s.sptOf h).tag, s.rd (SPT_H_CMD_ADDR p), s.rd (SPT_H_CMD_DATA p), 0 + 1, .software⟩ : CmdReq) = q
  generalize hx : w.setSpt h { w.sptOf h with cmd := some q, txSleep := false } = x
  have hxhp : x.hp h = p.val := by
    rw [← hx, ← hw]
    exact huhp
  have hwrite : s.cmdCtrlWrite p v = (x.setBit (SPT_H_CMD_CTRL p) SPT_H_CMD_CTRL_BUSY true).emit
      (.cmdLane h (requestBlocks (bitOf v 0) (s.sptOf h).tag (s.rd (SPT_H_CMD_ADDR p)) (s.rd (SPT_H_CMD_DATA p)))) := by
    unfold State.cmdCtrlWrite
    dsimp only
    rw [hu, if_neg (show ¬ bitOf v 9 = true by rw [bitOf, hdis]; exact Bool.false_ne_true), if_neg (show ¬ (!bitOf v 1) = true by rw [bitOf, hgo]; decide), if_neg (by rw [hubusy]; exact Bool.false_ne_true),
      hheads.portHead, hport, hheads.leadPort, if_pos hlead]
    unfold State.newCmd State.sendCmd
    dsimp only
    rw [hw, haddr, hdata, huspt, hq, hx, hxhp]
  have hrun : exec (.sptCmdGo p v) s = .next ((x.setBit (SPT_H_CMD_CTRL p) SPT_H_CMD_CTRL_BUSY true).emit
      (.cmdLane h (requestBlocks (bitOf v 0) (s.sptOf h).tag (s.rd (SPT_H_CMD_ADDR p)) (s.rd (SPT_H_CMD_DATA p))))) :=
    congrArg Host.Outcome.next ((State.hostDo_reach s _ true _ hup hacc).trans hwrite)
  have hxspt : x.sptOf h = { w.sptOf h with cmd := some q, txSleep := false } := by rw [← hx, State.sptOf_setSpt]
  refine Runs.next hrun ⟨?_, ?_, State.bit_setBit_self x _ SPT_H_CMD_CTRL_BUSY true, ?_, ?_, ?_⟩
  · exact (congrArg SptH.cmd hxspt).trans (congrArg some hq.symm)
  · exact (congrArg SptH.tag hxspt).trans (congrArg SptH.tag hwspt)
  · rw [← hx, ← hw, ← hu]
    rfl
  · have hxregs : RegsBut s x [(SPT_H_CMD_CTRL p).off] := by
      rw [← hx, ← hw]
      exact huregs.congr
    exact (hxregs.setBit (SPT_H_CMD_CTRL p) _ _).congr
  · rw [← hx, ← hw, ← hu]
    rfl

theorem cmdGo_discarded {p : Fin 8} {v : Word} {s : State} (hreach : Reach s (SPT_H_CMD_CTRL p)) (hgo : v.getLsbD 1 = true) (hdis : v.getLsbD 9 = false)
    (hbusy : s.bit (SPT_H_CMD_CTRL p) SPT_H_CMD_CTRL_BUSY = true) : Runs (.sptCmdGo p v) s (fun t =>
      t.bit (SPT_H_CMD_CTRL p) SPT_H_CMD_CTRL_DISCARD = true ∧ RegsBut s t [(SPT_H_CMD_CTRL p).off] ∧ t = { s with regs := t.regs }) := by
  obtain ⟨hup, hacc⟩ := hreach
  have hubusy : (s.setFld (SPT_H_CMD_CTRL p) SPT_H_CMD_CTRL_OP (b2n (bitOf v 0))).bit (SPT_H_CMD_CTRL p) SPT_H_CMD_CTRL_BUSY = true := by
    rw [State.bit_setFld_ne]; exact hbusy
  have hwrite : s.cmdCtrlWrite p v = (s.setFld (SPT_H_CMD_CTRL p) SPT_H_CMD_CTRL_OP (b2n (bitOf v 0))).setBit (SPT_H_CMD_CTRL p) SPT_H_CMD_CTRL_DISCARD true := by
    unfold State.cmdCtrlWrite
    dsimp only
    rw [if_neg (show ¬ bitOf v 9 = true by rw [bitOf, hdis]; exact Bool.false_ne_true), if_neg (show ¬ (!bitOf v 1) = true by rw [bitOf, hgo]; decide), if_pos hubusy]
  refine Runs.next (congrArg Host.Outcome.next ((State.hostDo_reach s _ true _ hup hacc).trans hwrite)) ⟨State.bit_setBit_self _ _ SPT_H_CMD_CTRL_DISCARD true,
    ((RegsBut.refl s _).setFld (SPT_H_CMD_CTRL p) _ _).setBit (SPT_H_CMD_CTRL p) _ _, rfl⟩

theorem cmdTimeout_ends {h : Fin 8} {q : CmdReq} {s : State} (hq : (s.sptOf h).cmd = some q) (htries : 3 ≤ q.tries) (hby : q.by_ = .software)
    (hidle : (s.sptOf h).ex = .idle) (hwait : (s.scriptOf (s.hp h)).waitCmd = false) : Runs (.sptCmdTimeout h) s (fun t =>
      t.sptOf h = { s.sptOf h with cmd := none } ∧ t.fld (SPT_H_CMD_CTRL (s.hp h)) SPT_H_CMD_CTRL_STATUS = 15 ∧ t.bit (SPT_H_CMD_CTRL (s.hp h)) SPT_H_CMD_CTRL_BUSY = false ∧
      Raised s t 138 (0x0200 + s.hp h) 0 ∧ RegsBut s t ((SPT_H_CMD_CTRL (s.hp h)).off :: evRegs 138)) := by
  have hp : s.hp h < 8 := hp_lt h.isLt
  have hdone : s.cmdDone h 15 0 138 = (s.cmdEnded h 15).raise 138 (0x0200 + s.hp h) :=
    cmdDone_software hq hby hidle hwait (by decide) (if_neg (by simp))
  have hbody : s.settle (match (s.sptOf h).cmd with
      | none => s
      | some c => if c.tries < 3 then s.sendCmd h c else s.cmdDone h 15 0 138) = (s.cmdEnded h 15).raise 138 (0x0200 + s.hp h) := by
    rw [hq]
    dsimp only
    rw [if_neg (Nat.not_lt.2 htries), hdone]
    exact State.settle_raise 138 _ [] rfl
  have hrun : exec (.sptCmdTimeout h) s = .next ((s.cmdEnded h 15).raise 138 (0x0200 + s.hp h)) := congrArg Host.Outcome.next hbody
  have hrd : ((s.cmdEnded h 15).raise 138 (0x0200 + s.hp h)).rd (SPT_H_CMD_CTRL (s.hp h)) = (s.cmdEnded h 15).rd (SPT_H_CMD_CTRL (s.hp h)) :=
    State.rd_raise _ _ _ _ (by simp only [SPT_H_CMD_CTRL, EVT_R_CNT]; omega) (by simp only [SPT_H_CMD_CTRL, EVT_R_LAST]; omega)
  refine Runs.next hrun ⟨cmdEnded_sptOf s h 15, ?_, ?_, State.raised_raise 138 _ [] rfl ((cmdEnded_regs s h 15).rd ?_), ?_⟩
  · rw [State.fld, hrd]
    exact cmdEnded_status s h (by decide)
  · rw [State.bit, hrd]
    exact cmdEnded_busy s h 15
  · simp only [EVT_R_CNT, SPT_H_CMD_CTRL, List.mem_cons, List.not_mem_nil, or_false]
    omega
  · exact ((cmdEnded_regs s h 15).mono (by simp)).raise 138 _ _ (by simp)

theorem response_ends {h : Fin 8} {c : BitVec 56} {d : BitVec 64} {q : CmdReq} {s : State} (hcmdl : s.cmdl h = true) (hok : ctlOk 0x3C c = true)
    (hq : (s.sptOf h).cmd = some q) (hby : q.by_ = .software) (hidle : (s.sptOf h).ex = .idle) (hwait : (s.scriptOf (s.hp h)).waitCmd = false)
    (hread : q.write = false) (hcrc : crc32c ((0x3C#8 :: leBytes 7 c.toNat) ++ leBytes 4 d.toNat) = w32 (d.toNat / 4294967296)) (hkind : ctlByte c 1 = 1)
    (htag : ctlByte c 2 = q.tag) (hstatus : ctlByte c 3 % 16 ≠ 15) :
    Runs (.zlResponse h c d) s (fun t =>
        (t.sptOf h).cmd = none ∧ t.fld (SPT_H_CMD_CTRL (s.hp h)) SPT_H_CMD_CTRL_STATUS = ctlByte c 3 % 16 ∧ t.rd (SPT_H_CMD_DATA (s.hp h)) = w32 d.toNat ∧
        t.bit (SPT_H_CMD_CTRL (s.hp h)) SPT_H_CMD_CTRL_BUSY = false ∧ Raised s t 139 (0x0200 + s.hp h) 0) := by
  have hp : s.hp h < 8 := hp_lt h.isLt
  generalize hu : s.setSpt h { s.sptOf h with rxSleep := false } = u
  have hhp : u.hp h = s.hp h := by rw [← hu]; rfl
  have huspt : u.sptOf h = { s.sptOf h with rxSleep := false } := by rw [← hu, State.sptOf_setSpt]
  have hucmd : (u.sptOf h).cmd = some q := by rw [huspt]; exact hq
  generalize hv : (u.cmdEnded h (ctlByte c 3 % 16)).wr (SPT_H_CMD_DATA (u.hp h)) (w32 d.toNat) = v
  have hdone : u.cmdDone h (ctlByte c 3 % 16) (w32 d.toNat) 139 = v.raise 139 (0x0200 + u.hp h) := by
    refine cmdDone_software hucmd hby (by rw [huspt]; exact hidle) ?_ (by decide) ((if_pos ?_).trans hv)
    · rw [← hu]
      exact hwait
    · rw [hread]
      simpa using hstatus
  have hbody : (if !s.cmdl h then s
    else if !ctlOk 0x3C c then s.proto h
    else
      let s := s.setSpt h { s.sptOf h with rxSleep := false }
      let blk := 0x3C#8 :: leBytes 7 c.toNat
      let data := leBytes 4 d.toNat
      match (s.sptOf h).cmd with
      | none => s
      | some q =>
        if crc32c (blk ++ data) = w32 (d.toNat / 4294967296) && ctlByte c 1 == (if q.write then 2 else 1) && ctlByte c 2 == q.tag then
          s.cmdDone h (ctlByte c 3 % 16) (w32 d.toNat) 139
        else s) = v.raise 139 (0x0200 + u.hp h) := by
    rw [if_neg (by rw [hcmdl]; decide), if_neg (by rw [hok]; decide)]
    dsimp only
    rw [hu, hucmd]
    dsimp only
    rw [if_pos, hdone]
    rw [hcrc, hkind, hread, htag]
    simp
  have hvocc : v.occ = s.occ := by rw [← hv, ← hu]; rfl
  have hrun : exec (.zlResponse h c d) s = .next (v.raise 139 (0x0200 + u.hp h)) :=
    congrArg Host.Outcome.next ((congrArg s.settle hbody).trans (State.settle_raise 139 _ [] hvocc))
  have hev {g : Reg} (hg : 0x1000000 ≤ g.off) : (v.raise 139 (0x0200 + u.hp h)).rd g = v.rd g :=
    State.rd_raise _ _ _ _ (by simp only [EVT_R_CNT]; omega) (by simp only [EVT_R_LAST]; omega)
  have hctrl : v.rd (SPT_H_CMD_CTRL (s.hp h)) = (u.cmdEnded h (ctlByte c 3 % 16)).rd (SPT_H_CMD_CTRL (s.hp h)) := by
    rw [← hv]
    refine State.rd_wr_ne _ _ ?_
    rw [hhp]
    simp only [SPT_H_CMD_CTRL, SPT_H_CMD_DATA]
    omega
  refine Runs.next hrun ⟨?_, ?_, ?_, ?_, ?_⟩
  · rw [← hv]
    exact congrArg SptH.cmd (cmdEnded_sptOf u h (ctlByte c 3 % 16))
  · rw [State.fld, hev (by simp only [SPT_H_CMD_CTRL]; omega), hctrl, ← hhp]
    exact cmdEnded_status u h (Nat.mod_lt _ (by decide))
  · rw [hev (by simp only [SPT_H_CMD_DATA]; omega), ← hv, hhp]
    exact State.rd_wr_self _ _ _
  · rw [State.bit, hev (by simp only [SPT_H_CMD_CTRL]; omega), hctrl, ← hhp]
    exact cmdEnded_busy u h _
  · rw [hhp]
    refine State.raised_raise 139 _ [] hvocc ?_
    have hvregs : RegsBut s v (cmdRegs (s.hp h)) := by
      rw [← hv, hhp]
      refine RegsBut.wr ?_ (SPT_H_CMD_DATA (s.hp h)) _ (by simp [cmdRegs])
      have hended := (cmdEnded_regs u h (ctlByte c 3 % 16)).mono (ps := cmdRegs (s.hp h)) (by rw [hhp]; simp [cmdRegs])
      exact ((RegsBut.refl s _).congr (u := u) (by rw [← hu]; rfl)).trans hended
    apply hvregs.rd
    simp only [cmdRegs, EVT_R_CNT, SPT_H_CMD_CTRL, SPT_H_CMD_DATA, List.mem_cons, List.not_mem_nil, or_false]
    omega

theorem wakeTimeout_locks {h : Fin 8} {s : State} (hcmdl : s.cmdl h = true) (h4 : s.zlStage h = 4) (hcmd : (s.sptOf h).cmd = none) :
    Runs (.cmdlWakeTimeout h) s (fun t =>
      stageIn s h t = 2 ∧ (t.sptOf h).offsets = [] ∧ (t.sptOf h).ex = .idle ∧ t.rd (SPT_H_LINK_DOWN_CNT (s.hp h)) = satAdd (s.rd (SPT_H_LINK_DOWN_CNT (s.hp h))) 1 ∧
      t.occ.map (·.num) = s.occ.map (·.num) ++ [128, 129]) := by
  have hp : s.hp h < 8 := hp_lt h.isLt
  generalize hu : (s.stopExchange h).setSpt h { (s.stopExchange h).sptOf h with offsets := [] } = u
  have hstop : s.stopExchange h = s.setSpt h { s.sptOf h with ex := .idle, words := [] } := by
    unfold State.stopExchange
    dsimp only
    rw [hcmd]
    rfl
  have huhp : u.hp h = s.hp h := by rw [← hu, hstop]; rfl
  have hustage : u.zlStage h = 4 := by rw [← hu, hstop]; exact h4
  have huregs : u.regs = s.regs := by rw [← hu, hstop]; rfl
  have huspt : u.sptOf h = { s.sptOf h with ex := .idle, words := [], offsets := [] } := by
    rw [← hu, State.sptOf_setSpt, hstop, State.sptOf_setSpt]
  have huocc : u.occ = s.occ := by rw [← hu, hstop]; rfl
  have hlost : s.linkLost h = ((u.staged h 2).inc (SPT_H_LINK_DOWN_CNT (s.hp h))).raise 129 (0x0200 + s.hp h) := by
    unfold State.linkLost
    rw [if_pos (by simp [h4])]
    dsimp only
    rw [hu, State.setStage_down (by decide) hustage, huhp]
  generalize hw : (u.staged h 2).inc (SPT_H_LINK_DOWN_CNT (s.hp h)) = w at hlost
  have hwocc : w.occ = (u.staged h 2).occ := by rw [← hw]; rfl
  obtain ⟨a, ha, han, -⟩ := u.staged_occ h 2
  obtain ⟨b, hb, hbn, -⟩ := (Raised.of_raise w 129 (0x0200 + s.hp h) []).1
  have hocc : (w.raise 129 (0x0200 + s.hp h)).occ = s.occ ++ [a, b] := by rw [hb, hwocc, ha, huocc, List.append_assoc]; rfl
  have hrun : exec (.cmdlWakeTimeout h) s = .next (w.raise 129 (0x0200 + s.hp h)) := by
    have hbody : (if s.cmdl h then s.linkLost h else s) = w.raise 129 (0x0200 + s.hp h) := (if_pos hcmdl).trans hlost
    exact congrArg Host.Outcome.next ((congrArg s.settle hbody).trans (State.settle_pair hocc (by omega)))
  have hwspt : w.spt = u.spt := by rw [← hw]; rfl
  have hev {g : Reg} (hg : 0x1000000 ≤ g.off) : (w.raise 129 (0x0200 + s.hp h)).rd g = w.rd g :=
    State.rd_raise _ _ _ _ (by simp only [EVT_R_CNT]; omega) (by simp only [EVT_R_LAST]; omega)
  have hfin : (w.raise 129 (0x0200 + s.hp h)).sptOf h = u.sptOf h := congrArg (fun x => tabGet x ({} : SptH) h.val) hwspt
  refine Runs.next hrun ⟨?_, ?_, ?_, ?_, ?_⟩
  · have hin := u.stageIn_staged h (n := 2) (by decide) (by omega)
    rw [stageIn, huhp] at hin
    rw [stageIn, State.fld, hev (by simp only [SPT_H_STATE]; omega), ← hw]
    refine Eq.trans (congrArg (Fld.get SPT_H_STATE_STAGE) (State.rd_wr_ne _ _ ?_)) hin
    simp only [SPT_H_STATE, SPT_H_LINK_DOWN_CNT]
    omega
  · rw [hfin, huspt]
  · rw [hfin, huspt]
  · have hkeep : (u.staged h 2).rd (SPT_H_LINK_DOWN_CNT (s.hp h)) = s.rd (SPT_H_LINK_DOWN_CNT (s.hp h)) := by
      have hsu : RegsBut s u (stagedRegs (u.hp h)) := (RegsBut.refl s _).congr huregs
      apply (hsu.trans (u.staged_regs h 2)).rd
      rw [huhp]
      simp only [stagedRegs, evRegs, SPT_H_STATE, SPT_H_LINK_DOWN_CNT, EVT_R_CNT, EVT_R_LAST, List.mem_cons, List.not_mem_nil, or_false]
      omega
    rw [hev (by simp only [SPT_H_LINK_DOWN_CNT]; omega), ← hw, ← hkeep]
    exact State.rd_wr_self _ _ _
  · rw [hocc, List.map_append, List.map_cons, List.map_cons, han, hbn]
    rfl

theorem commandLane : CommandLane := by
  unfold CommandLane
  intro h p v c d s
  refine ⟨fun hreach hgo hdis hbusy hport hlead => cmdGo_sends hreach hgo hdis hbusy hport hlead,
    fun hreach hgo hdis hbusy => cmdGo_discarded hreach hgo hdis hbusy, fun q hq htries => ?_,
    fun q hq htries hby hidle hwait => cmdTimeout_ends hq htries hby hidle hwait,
    fun q hcmdl hok hq hby hidle hwait hread hcrc hkind htag hstatus => response_ends hcmdl hok hq hby hidle hwait hread hcrc hkind htag hstatus,
    fun hok hcmdl => ?_, fun hcmdl hsleep htrig htx => ?_, fun hcmdl h4 hcmd => wakeTimeout_locks hcmdl h4 hcmd, rfl⟩
  · have hbody : (match (s.sptOf h).cmd with
        | none => s
        | some c => if c.tries < 3 then s.sendCmd h c else s.cmdDone h 15 0 138) = s.sendCmd h q := by
      rw [hq]
      exact if_pos htries
    exact congrArg Host.Outcome.next ((congrArg s.settle hbody).trans (State.settle_same rfl))
  · exact congrArg Host.Outcome.next ((if_neg (by rw [hok]; decide)).trans (if_pos hcmdl))
  · have hcond : (s.cmdl h && decide (bitsOf (s.rd (SPT_H_SLEEP (s.hp h))).toNat 15 0 ≠ 0) && decide (s.fld (SPT_H_CFG (s.hp h)) SPT_H_CFG_TRIG < 2) &&
        !(s.sptOf h).txSleep) = true := by
      have hbits : bitsOf (s.rd (SPT_H_SLEEP (s.hp h))).toNat 15 0 ≠ 0 := by
        rw [bitsOf, Nat.pow_zero, Nat.div_one]
        exact hsleep
      simp [hcmdl, hbits, htrig, htx]
    exact congrArg Host.Outcome.next (if_pos hcond)

/-! ### Stakeboat groups -/

theorem groupDropsAndReadmits : GroupDropsAndReadmits := by
  unfold GroupDropsAndReadmits
  intro g h v s lim
  refine ⟨fun hon hmem hframe hdue hlim => ?_, fun hreach => ?_⟩
  · have hp : s.hp h < 8 := hp_lt h.isLt
    have h8 := h.isLt
    have hg := g.isLt
    have hclose : s.sgMemberClose g h = s := by
      unfold State.sgMemberClose
      dsimp only
      rw [hframe, hdue]
      rfl
    generalize hu : (s.setFld (SPT_SG_ACTIVE g) ⟨h, h⟩ 0).setFld (SPT_SG_ACTIVE g) ⟨8 + h, 8 + h⟩ 1 = u
    have huregs : RegsBut s u [(SPT_SG_ACTIVE g).off] := hu ▸ ((RegsBut.refl s _).setFld (SPT_SG_ACTIVE g) _ _).setFld (SPT_SG_ACTIVE g) _ _
    have huonly : OnlyRegs s u := hu ▸ ((OnlyRegs.refl s).setFld _ _ _).setFld _ _ _
    have hlim' : (if bitsOf (s.rd (SPT_SG_CFG g)).toNat 15 8 = 0 then 8 else bitsOf (s.rd (SPT_SG_CFG g)).toNat 15 8) ≤ s.fld (sgRunReg g h) (sgRunFld h) := hlim
    have hdrop : s.sgDrop g h = u.raise 144 (0x0200 + s.hp h) [w32 h.val, s.rd (SPT_SG_FRAME g)] := by
      unfold State.sgDrop
      dsimp only
      rw [if_pos hlim', hu, State.spBid]
    have hrun : exec (.sgDeadline g) s = .next (u.raise 144 (0x0200 + s.hp h) [w32 h.val, s.rd (SPT_SG_FRAME g)]) := by
      have hbody : s.settle ((s.sgMembers g).foldl (fun s h => s.sgDrop g h) ((s.sgMembers g).foldl (fun s h => s.sgMemberClose g h) s)) =
          u.raise 144 (0x0200 + s.hp h) [w32 h.val, s.rd (SPT_SG_FRAME g)] := by
        rw [hmem]
        simp only [List.foldl_cons, List.foldl_nil, hclose, hdrop]
        exact State.settle_raise 144 _ _ huonly.occ
      exact congrArg Host.Outcome.next ((if_pos hon).trans hbody)
    have hact : (u.raise 144 (0x0200 + s.hp h) [w32 h.val, s.rd (SPT_SG_FRAME g)]).rd (SPT_SG_ACTIVE g) = u.rd (SPT_SG_ACTIVE g) :=
      State.rd_raise _ _ _ _ (by simp only [SPT_SG_ACTIVE, EVT_R_CNT]; omega) (by simp only [SPT_SG_ACTIVE, EVT_R_LAST]; omega)
    have hfirst : bitOf ((s.setFld (SPT_SG_ACTIVE g) ⟨h, h⟩ 0).rd (SPT_SG_ACTIVE g)) h = false := by
      rw [State.setFld_eq, State.rd_wr_self]
      exact Fld.bit_put_self ⟨h, h⟩ _ false (show h.val < 32 by omega) (Nat.le_refl _)
    refine Runs.next hrun ⟨?_, ?_, State.raised_raise 144 _ _ huonly.occ (huregs.rd ?_), ?_, ?_⟩
    · rw [hact, ← hu, State.setFld_eq, State.rd_wr_self]
      exact (bitOf_put_ne (by omega) (Or.inl (show h.val < 8 + h.val by omega))).trans hfirst
    · rw [hact, ← hu, State.setFld_eq, State.rd_wr_self]
      exact Fld.bit_put_self ⟨8 + h, 8 + h⟩ _ true (show 8 + h.val < 32 by omega) (Nat.le_refl _)
    · simp only [EVT_R_CNT, SPT_SG_ACTIVE, List.mem_singleton]
      omega
    · exact (huregs.mono (by simp)).raise 144 _ _ (by simp)
    · exact huonly.regsOcc.raise 144 _ _
  · obtain ⟨hup, hacc⟩ := hreach
    exact congrArg Host.Outcome.next (State.hostDo_reach s _ true _ hup hacc)

/-! ### Legacy mode -/

theorem portHead_lt (s : State) (p : Nat) : s.portHead p < 8 := by
  unfold State.portHead
  split
  · decide
  · exact Fld.get_lt _ _

theorem legacyAlign_starts {p : Fin 8} {v : Word} {s : State} (hreach : Reach s (SPT_P_LEG_CTRL p)) (h0 : v.getLsbD 0 = true) (h1 : v.getLsbD 1 = false)
    (hleg : s.legacy (s.portHead p) = true) (hstage : s.zlStage (s.portHead p) = 1) : Runs (.legacyAlign p v) s (fun t =>
      (t.scriptOf p).aligning = true ∧ (t.rd (SPT_P_LEG_STAT p)).getLsbD 0 = false ∧ RegsBut s t [(SPT_P_LEG_STAT p).off] ∧
      t = { s with regs := t.regs, scripts := t.scripts }) := by
  obtain ⟨hup, hacc⟩ := hreach
  have hwrite : s.legCtrlWrite p v = (s.setScript p { s.scriptOf p with aligning := true }).setFld (SPT_P_LEG_STAT p) ⟨0, 0⟩ 0 := by
    unfold State.legCtrlWrite
    dsimp only
    rw [if_neg (show ¬ bitOf v 1 = true by rw [bitOf, h1]; exact Bool.false_ne_true), if_pos]
    rw [bitOf, h0, hleg, hstage]
    rfl
  have hscript : RegsBut s (s.setScript p { s.scriptOf p with aligning := true }) [(SPT_P_LEG_STAT p).off] := (RegsBut.refl s _).congr
  refine Runs.next (congrArg Host.Outcome.next ((State.hostDo_reach s _ true _ hup hacc).trans hwrite)) ⟨?_, ?_, hscript.setFld (SPT_P_LEG_STAT p) _ _, rfl⟩
  · exact congrArg Script.aligning (State.scriptOf_setScript s p _)
  · rw [State.setFld_eq, State.rd_wr_self]
    exact Fld.bit_put_self ⟨0, 0⟩ _ false (by decide) (by decide)

theorem legacyRun_enters {p : Fin 8} {v : Word} {s : State} (hreach : Reach s (SPT_P_LEG_CTRL p)) (h0 : v.getLsbD 0 = false) (h1 : v.getLsbD 1 = true)
    (hleg : s.legacy (s.portHead p) = true) (hstage : s.zlStage (s.portHead p) = 2) : Runs (.legacyRun p v) s (fun t =>
      stageIn s (s.portHead p) t = 4 ∧ (∃ o, t.occ = s.occ ++ [o] ∧ o.num = 128 ∧ o.value = 4)) := by
  obtain ⟨hup, hacc⟩ := hreach
  have hnot : ¬ (bitOf v 0 && s.legacy (s.portHead p) && decide (s.zlStage (s.portHead p) = 1)) = true := by
    rw [bitOf, h0, Bool.false_and, Bool.false_and]
    exact Bool.false_ne_true
  have hwrite : s.legCtrlWrite p v = s.staged (s.portHead p) 4 := by
    unfold State.legCtrlWrite
    dsimp only
    rw [if_neg hnot, if_pos (show bitOf v 1 = true from h1)]
    unfold State.legRun
    dsimp only
    rw [if_pos (by rw [hleg, hstage]; rfl), State.setStage_eq (by omega) (by omega)]
  exact Runs.next (congrArg Host.Outcome.next ((State.hostDo_reach s _ true _ hup hacc).trans hwrite))
    ⟨s.stageIn_staged _ (by decide) (hp_lt (portHead_lt s p)), s.staged_occ _ 4⟩

section
variable {p : Fin 8} {s : State} (hal : (s.scriptOf p).aligning = true) (hbusy : (s.scriptOf p).busy = false)
include hal hbusy

theorem legacyAlign_ends {offs : List (Option Nat)} (hall : ∀ o, o ∈ offs → o.isSome = true) (hstage : s.zlStage (s.portHead p) = 1) {skew : Nat}
    (hskew : (offs.map (·.getD 0)).foldl max 0 - (offs.map (·.getD 0)).foldl min ((offs.map (·.getD 0)).headD 0) = skew) (h8 : skew ≤ 8) :
    Runs (.legacyAlignDone p offs) s (fun t =>
        t.rd (SPT_P_LEG_STAT p) = w32 (1 + 256 * skew) ∧ stageIn s (s.portHead p) t = 2 ∧ (t.scriptOf p).aligning = false) := by
  have hpl := p.isLt
  have hp : s.hp (s.portHead p) < 8 := hp_lt (portHead_lt s p)
  have hfind : offs.zipIdx.find? (fun e => e.1.isNone) = none := by
    refine List.find?_eq_none.2 fun e he => ?_
    have hmem : e.1 ∈ offs := List.fst_mem_of_mem_zipIdx he
    cases hx : e.1 with
    | none => exact absurd (hall _ hmem) (by rw [hx]; exact Bool.false_ne_true)
    | some _ => exact Bool.false_ne_true
  generalize hu : (s.setScript p { s.scriptOf p with aligning := false }).wr (SPT_P_LEG_STAT p) (w32 (1 + skew * 256)) = u
  have huregs : RegsBut s u [(SPT_P_LEG_STAT p).off] := by
    rw [← hu]
    exact ((RegsBut.refl s _).congr (u := s.setScript p _) rfl).wr (SPT_P_LEG_STAT p) _
  have hheads : SameHeads s u := by
    refine SameHeads.of_regsBut huregs ?_ (by rw [← hu]; rfl) (by rw [← hu]; rfl)
    simp only [List.mem_singleton, forall_eq, notShape, SPT_P_LEG_STAT]
    omega
  have hustage : u.zlStage (s.portHead p) = 1 := by
    refine (hheads.zlStage _ (huregs.rd ?_)).trans hstage
    simp only [List.mem_singleton, SPT_P_LEG_STAT, SPT_H_STATE]
    omega
  have hdone : s.legAlignDone p offs = u.staged (s.portHead p) 2 := by
    unfold State.legAlignDone
    dsimp only
    rw [if_neg (show ¬ (!(s.scriptOf p).aligning) = true by rw [hal]; decide), hfind]
    dsimp only
    rw [hskew, if_neg (Nat.not_lt.2 h8), hu, State.setStage_eq (by omega) (by omega)]
    exact if_neg (by rw [hbusy, Bool.false_and]; exact Bool.false_ne_true)
  obtain ⟨o, ho, -⟩ := u.staged_occ (s.portHead p) 2
  have hrun : exec (.legacyAlignDone p offs) s = .next (u.staged (s.portHead p) 2) := by
    refine congrArg Host.Outcome.next ((congrArg s.settle hdone).trans (State.settle_one (o := o) ?_))
    rw [ho, ← hu]
    rfl
  refine Runs.next hrun ⟨?_, ?_, ?_⟩
  · refine ((u.staged_regs _ 2).rd ?_).trans ?_
    · simp only [stagedRegs, evRegs, SPT_H_STATE, SPT_P_LEG_STAT, EVT_R_CNT, EVT_R_LAST, List.mem_cons, List.not_mem_nil, or_false]
      omega
    · rw [← hu, State.rd_wr_self, Nat.mul_comm]
  · have hin := u.stageIn_staged (s.portHead p) (n := 2) (by decide) (by rw [hheads.hp]; exact hp)
    rwa [stageIn, hheads.hp] at hin
  · have hscripts : (u.staged (s.portHead p) 2).scriptOf p = { s.scriptOf p with aligning := false } := by
      rw [State.scriptOf, (u.staged_only _ 2).field State.scripts, ← hu]
      exact State.scriptOf_setScript s p _
    rw [hscripts]

theorem legacyAlign_fails (rest : List (Option Nat)) : Runs (.legacyAlignDone p (none :: rest)) s (fun t =>
      Raised s t 136 (0x0200 + p) 0 ∧ (t.scriptOf p).aligning = false ∧ RegsBut s t (evRegs 136)) := by
  have hdone : s.legAlignDone p (none :: rest) = (s.setScript p { s.scriptOf p with aligning := false }).raise 136 (0x0200 + p) [w32 0] := by
    unfold State.legAlignDone
    dsimp only
    rw [hal, hbusy]
    rfl
  refine Runs.next (congrArg Host.Outcome.next ((congrArg s.settle hdone).trans (State.settle_raise 136 _ _ rfl))) ⟨State.raised_raise 136 _ [w32 0] rfl rfl, ?_, ?_⟩
  · exact congrArg Script.aligning (State.scriptOf_setScript s p _)
  · exact ((RegsBut.refl s _).congr (u := s.setScript p _) rfl).raise 136 _ _ (by simp)

end

theorem bitsOf_15_0 (n : Nat) : bitsOf n 15 0 = n % 65536 := by simp [bitsOf]

theorem legacyWord_counts {p : Fin 8} {l : Fin 12} {w : BitVec 16} {s : State} (hleg : s.legacy (s.portHead p) = true) (hup : s.headUp (s.portHead p) = true)
    (hline : (s.sptOf (s.portHead p)).line = none) : exec (.legacyWord p l w) s = .next (s.wr (SPT_L_LEG_MATCH p l)
        (if w.toNat % 2 ^ (s.geom (s.portHead p)).b = (s.rd (SPT_P_LEG_TRAIN p)).toNat % 65536 % 2 ^ (s.geom (s.portHead p)).b then
          w32 (min 255 ((s.rd (SPT_L_LEG_MATCH p l)).toNat + 1)) else 0)) := by
  have hbits := bitsOf_15_0 (s.rd (SPT_P_LEG_TRAIN p)).toNat
  have hkeep (v : Word) : ((s.wr (SPT_L_LEG_MATCH p l) v).sptOf (s.portHead p)).line = none := hline
  have hword : s.legWord p l w.toNat = s.wr (SPT_L_LEG_MATCH p l)
      (w32 (if w.toNat % 2 ^ (s.geom (s.portHead p)).b = (s.rd (SPT_P_LEG_TRAIN p)).toNat % 65536 % 2 ^ (s.geom (s.portHead p)).b then
        min 255 ((s.rd (SPT_L_LEG_MATCH p l)).toNat + 1) else 0)) := by
    unfold State.legWord
    dsimp only
    rw [hkeep, hbits]
  refine congrArg Host.Outcome.next ((if_pos (by rw [hleg, hup]; rfl)).trans (hword.trans ?_))
  split <;> rfl

theorem legacyCode_opens {p : Fin 8} {code : Byte} {f : OpenFrame} {s : State} (hleg : s.legacy (s.portHead p) = true)
    (hup : s.headUp (s.portHead p) = true) (h4 : s.zlStage (s.portHead p) = 4) (hframe : (s.sptOf (s.portHead p)).frame = some f)
    (hline : (s.sptOf (s.portHead p)).line = none) (hn : (s.sptOf (s.portHead p)).legLine < (s.geom (s.portHead p)).h)
    (hcode : code.toNat = (s.rd (SPT_P_LEG_SYNC p)).toNat % 256) (hother : code.toNat ≠ (s.rd (SPT_P_LEG_SYNC p)).toNat / 65536 % 256) :
    Runs (.legacySyncCode p code) s (fun t =>
        (t.sptOf (s.portHead p)).line = some { mode := .taken, line := (s.sptOf (s.portHead p)).legLine } ∧
        (t.sptOf (s.portHead p)).legLine = (s.sptOf (s.portHead p)).legLine + 1 ∧
        t.rd (STK_TB2_NOW (s.portHead p)) = w32 ((s.rd (STK_TB2_NOW (s.portHead p))).toNat / 16384 * 16384 + (s.sptOf (s.portHead p)).legLine % 16384)) := by
  generalize hh : s.portHead p = h at *
  have hsof : code.toNat ≠ bitsOf (s.rd (SPT_P_LEG_SYNC p)).toNat 23 16 := hother
  have hsol : code.toNat = bitsOf (s.rd (SPT_P_LEG_SYNC p)).toNat 7 0 := by rw [bitsOf, Nat.pow_zero, Nat.div_one]; exact hcode
  generalize hu : s.setSpt h { s.sptOf h with legLine := (s.sptOf h).legLine + 1 } = u
  have huspt : u.sptOf h = { s.sptOf h with legLine := (s.sptOf h).legLine + 1 } := by rw [← hu, State.sptOf_setSpt]
  have hugeom : u.geom h = s.geom h := by rw [← hu]; rfl
  generalize hv : (u.setSpt h { u.sptOf h with line := some ({ mode := .taken, line := (s.sptOf h).legLine } : OpenLine) }).tb2Line h (s.sptOf h).legLine = v
  have hlegCode : s.legCode p code.toNat = v := by
    rw [← hv, ← hu]
    unfold State.legCode
    dsimp only
    rw [hh, if_neg hsof, if_pos hsol]
    simp only [hframe, hline]
    exact if_neg (Nat.not_le.2 hn)
  have hbody : (if s.legacy (s.portHead p) && s.headUp (s.portHead p) && s.zlStage (s.portHead p) = 4 then s.settle (s.legCode p code.toNat) else s) = v := by
    rw [hh, if_pos (by rw [hleg, hup, h4]; rfl), hlegCode]
    exact State.settle_same (by rw [← hv, ← hu]; rfl)
  have hvspt : v.sptOf h = { u.sptOf h with line := some ({ mode := .taken, line := (s.sptOf h).legLine } : OpenLine) } := by
    rw [← hv, State.sptOf_tb2Line, State.sptOf_setSpt]
  refine Runs.next (congrArg Host.Outcome.next hbody) ⟨by rw [hvspt], by rw [hvspt, huspt], ?_⟩
  rw [← hv, ← hu]
  exact State.rd_wr_self _ _ _

theorem legacyMode : LegacyMode := by
  unfold LegacyMode
  intro p l v w code offs s h
  refine ⟨fun hreach h0 => ?_, fun hreach h0 h1 hleg hstage => legacyAlign_starts hreach h0 h1 hleg hstage,
    fun hreach h0 h1 hleg hstage => legacyRun_enters hreach h0 h1 hleg hstage,
    fun hal hbusy hall hstage hskew => legacyAlign_ends hal hbusy hall hstage rfl hskew,
    fun rest hal hbusy => legacyAlign_fails hal hbusy rest, fun hleg hup hline => legacyWord_counts hleg hup hline,
    fun f hleg hup h4 hframe hline hn hcode hother => legacyCode_opens hleg hup h4 hframe hline hn hcode hother⟩
  obtain ⟨hup, hacc⟩ := hreach
  exact congrArg Host.Outcome.next ((State.hostDo_reach s _ true _ hup hacc).trans (if_pos h0))

/-! ### Set-up scripts -/

theorem memRead_op (s : State) (a : Nat) : leAt (s.memRead a 16) 0 1 = (s.mem a).toNat := by
  change (s.mem a).toNat + 256 * 0 = (s.mem a).toNat
  omega

/-- An entry of a script that runs from GDDR7. -/
theorem scriptEntry_mem {s : State} {p : Nat} (hboot : (s.scriptOf p).boot = false) :
    s.scriptEntry p = s.memRead ((s.scriptOf p).base + 16 * (s.scriptOf p).entry) 16 := by
  unfold State.scriptEntry
  dsimp only
  rw [hboot]
  rfl

theorem scriptGo_starts {p : Fin 8} {v : Word} {a : Nat} {s : State} (ha : s.rd64 (SPT_P_SCRIPT_ADDR_LO p) (SPT_P_SCRIPT_ADDR_HI p) / 16 * 16 = a)
    (hreach : Reach s (SPT_P_SCRIPT_CTRL p)) (h0 : v.getLsbD 0 = true) (hbusy : (s.scriptOf p).busy = false) (hop : s.mem a = 1 ∨ s.mem a = 2) :
    Runs (.scriptGo p v) s (fun t =>
      t.scriptOf p = { base := a, busy := true } ∧ t.rd (SPT_P_SCRIPT_CTRL p) = 2 ∧
      t.out = s.out ++ [.sensorBus p (leAt (s.memRead a 16) 0 4) (leAt (s.memRead a 16) 4 4) (leAt (s.memRead a 16) 8 4)] ∧
      RegsBut s t [(SPT_P_SCRIPT_CTRL p).off] ∧ t = { s with regs := t.regs, scripts := t.scripts, out := t.out }) := by
  obtain ⟨hup, hacc⟩ := hreach
  generalize hu : (s.setScript p { base := a, busy := true }).wr (SPT_P_SCRIPT_CTRL p) 2 = u
  have hscript : u.scriptOf p = { base := a, busy := true } := by rw [← hu]; exact State.scriptOf_setScript s p _
  have hmem (x n : Nat) : u.memRead x n = s.memRead x n := by rw [← hu]; rfl
  have hentry : u.scriptEntry p = s.memRead a 16 := by
    rw [scriptEntry_mem (by rw [hscript]), hscript, hmem]
    rfl
  have hop' : leAt (s.memRead a 16) 0 1 = 1 ∨ leAt (s.memRead a 16) 0 1 = 2 := by
    rw [memRead_op]
    rcases hop with h | h <;> rw [h]
    · exact Or.inl rfl
    · exact Or.inr rfl
  have hissue : u.scriptIssue p = u.emit (.sensorBus p (leAt (s.memRead a 16) 0 4) (leAt (s.memRead a 16) 4 4) (leAt (s.memRead a 16) 8 4)) := by
    have hlow : ¬ 4096 ≤ (u.scriptOf p).entry := by rw [hscript]; exact Nat.not_le.2 (Nat.zero_lt_succ _)
    unfold State.scriptIssue
    dsimp only
    rw [hentry, if_neg hlow, if_neg (by omega), if_pos]
    rcases hop' with h | h <;> rw [h] <;> rfl
  have hgo : s.scriptGo p v = u.scriptIssue p := by
    unfold State.scriptGo
    rw [if_pos (by rw [hbusy, bitOf, h0]; rfl)]
    dsimp only
    rw [ha, hu]
  have hrun : s.settle (s.hostDo (SPT_P_SCRIPT_CTRL p) true (·.scriptGo p v)) = u.emit (.sensorBus p (leAt (s.memRead a 16) 0 4) (leAt (s.memRead a 16) 4 4)
      (leAt (s.memRead a 16) 8 4)) := by
    rw [State.hostDo_reach s _ true _ hup hacc, hgo, hissue]
    exact State.settle_same (by rw [← hu]; rfl)
  refine Runs.next (congrArg Host.Outcome.next hrun) ⟨hscript, ?_, ?_, ?_, ?_⟩
  · have hctrl : u.rd (SPT_P_SCRIPT_CTRL p) = 2 := by rw [← hu]; exact State.rd_wr_self _ _ _
    exact hctrl
  · rw [← hu]
    rfl
  · rw [← hu]
    exact (((RegsBut.refl s _).congr (u := s.setScript p _) rfl).wr (SPT_P_SCRIPT_CTRL p) 2).congr
  · rw [← hu]
    rfl

theorem scriptCtrl_ev {p ev : Nat} : (SPT_P_SCRIPT_CTRL p).off ≠ (EVT_R_CNT ev).off ∧ (SPT_P_SCRIPT_CTRL p).off ≠ (EVT_R_LAST ev).off := by
  simp only [SPT_P_SCRIPT_CTRL, EVT_R_CNT, EVT_R_LAST]
  omega

section
variable {p : Fin 8} {s : State} (hbusy : (s.scriptOf p).busy = true) (hboot : (s.scriptOf p).boot = false)
include hbusy hboot

theorem scriptEnd_stops (hentry : (s.scriptOf p).entry < 4095) (hop : s.mem ((s.scriptOf p).base + 16 * ((s.scriptOf p).entry + 1)) = 0) :
    Runs (.scriptEntryDone p true) s (fun t =>
        (t.scriptOf p).busy = false ∧ t.rd (SPT_P_SCRIPT_CTRL p) = 0 ∧ Raised s t 141 (0x0200 + p) 0 ∧ RegsBut s t ((SPT_P_SCRIPT_CTRL p).off :: evRegs 141) ∧
        t = { s with regs := t.regs, scripts := t.scripts, occ := t.occ }) := by
  generalize hu : s.setScript p { s.scriptOf p with entry := (s.scriptOf p).entry + 1, waitCmd := false } = u
  have hscript : u.scriptOf p = { s.scriptOf p with entry := (s.scriptOf p).entry + 1, waitCmd := false } := by rw [← hu]; exact State.scriptOf_setScript s p _
  have hmem (x n : Nat) : u.memRead x n = s.memRead x n := by rw [← hu]; rfl
  have hop' : leAt (u.scriptEntry p) 0 1 = 0 := by
    rw [scriptEntry_mem (by rw [hscript]; exact hboot), hscript, hmem, memRead_op, hop]
    rfl
  generalize hv : (u.setScript p { u.scriptOf p with busy := false }).wr (SPT_P_SCRIPT_CTRL p) 0 = v
  have hissue : u.scriptIssue p = v.raise 141 (0x0200 + p) := by
    have hlow : ¬ 4096 ≤ (u.scriptOf p).entry := by rw [hscript]; exact Nat.not_le.2 (show (s.scriptOf p).entry + 1 < 4096 by omega)
    unfold State.scriptIssue
    dsimp only
    rw [if_neg hlow, if_pos hop', hv]
  have hdone : s.scriptDone p true = v.raise 141 (0x0200 + p) := by
    unfold State.scriptDone
    dsimp only
    rw [if_neg (by rw [hbusy]; decide), if_pos rfl, hu, hissue]
  have hvocc : v.occ = s.occ := by rw [← hv, ← hu]; rfl
  have hvregs : RegsBut s v [(SPT_P_SCRIPT_CTRL p).off] := by
    have husame : u.regs = s.regs := by rw [← hu]; rfl
    rw [← hv]
    exact ((RegsBut.refl s _).congr (u := u.setScript p { u.scriptOf p with busy := false }) husame).wr (SPT_P_SCRIPT_CTRL p) 0
  have hne := scriptCtrl_ev (p := p) (ev := 141)
  refine Runs.next (congrArg Host.Outcome.next ((congrArg s.settle hdone).trans (State.settle_raise 141 _ [] hvocc)))
    ⟨?_, ?_, State.raised_raise 141 _ [] hvocc (hvregs.rd (by simpa using hne.1.symm)), (hvregs.mono (by simp)).raise 141 _ _ (by simp), ?_⟩
  · rw [← hv]
    exact congrArg Script.busy (State.scriptOf_setScript u p _)
  · rw [State.rd_raise _ _ _ _ hne.1 hne.2, ← hv]
    exact State.rd_wr_self _ _ _
  · rw [← hv, ← hu]
    rfl

theorem scriptEntry_fails (hentry : (s.scriptOf p).entry < 4096) : Runs (.scriptEntryDone p false) s (fun t =>
      (t.scriptOf p).busy = false ∧ t.rd (SPT_P_SCRIPT_CTRL p) = w32 (4 + (s.scriptOf p).entry * 65536) ∧ Raised s t 140 (0x0200 + p) (w32 (s.scriptOf p).entry) ∧
      RegsBut s t ((SPT_P_SCRIPT_CTRL p).off :: evRegs 140)) := by
  generalize hv : (s.setScript p { s.scriptOf p with busy := false, waitCmd := false, aligning := false }).wr (SPT_P_SCRIPT_CTRL p)
    (w32 (4 + (s.scriptOf p).entry * 65536)) = v
  have hdone : s.scriptDone p false = v.raise 140 (0x0200 + p) [w32 (s.scriptOf p).entry] := by
    unfold State.scriptDone State.scriptFail
    dsimp only
    rw [if_neg (by rw [hbusy]; decide), if_neg Bool.false_ne_true, Nat.mod_eq_of_lt hentry, hv]
    exact if_neg (by rw [hboot, Bool.false_and]; exact Bool.false_ne_true)
  have hvocc : v.occ = s.occ := by rw [← hv]; rfl
  have hvregs : RegsBut s v [(SPT_P_SCRIPT_CTRL p).off] := by
    rw [← hv]
    exact ((RegsBut.refl s _).congr (u := s.setScript p _) rfl).wr (SPT_P_SCRIPT_CTRL p) _
  have hne := scriptCtrl_ev (p := p) (ev := 140)
  refine Runs.next (congrArg Host.Outcome.next ((congrArg s.settle hdone).trans (State.settle_raise 140 _ _ hvocc)))
    ⟨?_, ?_, State.raised_raise 140 _ _ hvocc (hvregs.rd (by simpa using hne.1.symm)), (hvregs.mono (by simp)).raise 140 _ _ (by simp)⟩
  · rw [← hv]
    exact congrArg Script.busy (State.scriptOf_setScript s p _)
  · rw [State.rd_raise _ _ _ _ hne.1 hne.2, ← hv]
    exact State.rd_wr_self _ _ _

end

theorem setUpScripts : SetUpScripts := by
  unfold SetUpScripts
  intro p v s a
  refine ⟨fun hreach h0 hbusy hop => scriptGo_starts rfl hreach h0 hbusy hop, fun hreach hbusy => ?_,
    fun hbusy hboot hentry hop => scriptEnd_stops hbusy hboot hentry hop, fun hbusy hboot hentry => scriptEntry_fails hbusy hboot hentry⟩
  obtain ⟨hup, hacc⟩ := hreach
  have hgo : s.scriptGo p v = s := if_neg (by rw [hbusy, Bool.not_true, Bool.and_false]; exact Bool.false_ne_true)
  exact congrArg Host.Outcome.next ((congrArg s.settle ((State.hostDo_reach s _ true _ hup hacc).trans hgo)).trans (State.settle_same rfl))

/-- Settles O25: the command lane, stakeboat groups, Legacy mode and scripts. -/
theorem headControl : Obligations.HeadControl := by
  unfold Obligations.HeadControl
  exact ⟨commandLane, groupDropsAndReadmits, legacyMode, setUpScripts⟩

end Sys2Proof.Machine
end

section
/-! PROOFS. Catch: user commits, the table and defect windows, the defect index, stale temperatures and named readers (R190 to R199, R213). -/

-- One proof at a time: the text is compiled as one file in bounded memory.
set_option Elab.async false

namespace Sys2Proof.Machine
open Sys2Proof.Claims

/-- A host write of a register that is reached is the write alone. -/
theorem exec_hostDo {s t : State} {r : Reg} {w : Bool} {f : State → State} (hreach : Reach s r) (hf : f s = t) :
    (Host.Outcome.next (s.hostDo r w f) : Res) = .next t := by
  obtain ⟨hup, hacc⟩ := hreach
  rw [State.hostDo_reach s r w f hup hacc, hf]

theorem State.catOf_setCat (s : State) (h : Nat) (x : CatH) : (s.setCat h x).catOf h = x := tabGet_set_self _ _ _ _

theorem bitsOf_low (n hi : Nat) : bitsOf n hi 0 = n % 2 ^ (hi + 1) := by rw [bitsOf, Nat.pow_zero, Nat.div_one, Nat.sub_zero]

theorem userCommitWrite_go {s : State} {h : Nat} {v : Word} (h0 : v.getLsbD 0 = true) (h1 : v.getLsbD 1 = false) :
    s.userCommitWrite h v = (s.setBit (CAT_H_USER_COMMIT h) CAT_H_USER_COMMIT_GO true).setBit (CAT_H_STATUS h) CAT_H_STATUS_USER_PENDING true := by
  unfold State.userCommitWrite
  dsimp only
  rw [if_neg (show ¬ bitOf v 1 = true by rw [bitOf, h1]; exact Bool.false_ne_true), if_pos (show bitOf v 0 = true from h0)]

/-- The factory layer takes no write (R192). -/
theorem tblWrite_factory {s : State} {h : Nat} {v : Word} (hlayer : (s.rd (CAT_TBL_SEL h)).getLsbD 8 = false) : s.tblWrite h v = s :=
  if_neg (by rw [bitOf, hlayer, Bool.false_and]; exact Bool.false_ne_true)

theorem tblRead_beyond {s : State} {h : Nat}
    (hlen : calLen (s.catCfg h).g (CAT_TBL_SEL_TYPE.get (s.rd (CAT_TBL_SEL h))) ≤ (s.rd (CAT_TBL_INDEX h)).toNat % 2 ^ 24) : s.tblRead h = 0 :=
  if_pos (by rw [bitsOf_low]; exact hlen)

theorem catchWindows : CatchWindows := by
  unfold CatchWindows
  intro h v s
  refine ⟨fun hreach h0 h1 => exec_hostDo hreach (userCommitWrite_go h0 h1), fun hreach hlayer => exec_hostDo hreach ?_,
    fun hreach hlen => exec_hostDo hreach ?_, fun hreach => ?_, fun hreach => ?_, fun hquery hnone => ?_⟩
  · exact congrArg (fun u => State.advance u (CAT_TBL_INDEX h) 24) (tblWrite_factory hlayer)
  · have hread : ({ s with hostData := s.tblRead h } : State) = { s with hostData := 0 } := by rw [tblRead_beyond hlen]
    exact congrArg (fun u => State.advance u (CAT_TBL_INDEX h) 24) hread
  · refine Runs.next (exec_hostDo (t := ({ s with hostData := s.defDataRead h 2 } : State).advance (CAT_DEF_INDEX h) 20) hreach rfl)
      ⟨rfl, State.rd_wr_self _ _ _, ?_, rfl⟩
    exact ((RegsBut.refl s _).congr (u := { s with hostData := s.defDataRead h 2 }) rfl).wr (CAT_DEF_INDEX h) _
  · have hne : (CAT_DEF_QUERY h).off ≠ (CAT_DEF_QRESULT h).off := by simp only [CAT_DEF_QUERY, CAT_DEF_QRESULT]; omega
    refine Runs.next (exec_hostDo (t := s.defQuery h v) hreach rfl) ⟨?_, ?_, State.catOf_setCat _ _ _, ?_⟩
    · have hpos : ((s.wr (CAT_DEF_QUERY h) (v &&& 0x1FFFFFFF)).wr (CAT_DEF_QRESULT h) 0).rd (CAT_DEF_QUERY h) = v &&& 0x1FFFFFFF :=
        (State.rd_wr_ne _ _ hne).trans (State.rd_wr_self _ _ _)
      exact hpos
    · exact State.rd_wr_self (s.wr (CAT_DEF_QUERY h) (v &&& 0x1FFFFFFF)) (CAT_DEF_QRESULT h) 0
    · exact (((RegsBut.refl s _).wr (CAT_DEF_QUERY h) _).wr (CAT_DEF_QRESULT h) 0).congr
  · have hdone : execCatDefQueryDone h s = .next ((s.wr (CAT_DEF_QRESULT h) 0x80000000).setCat h { s.catOf h with query := false }) := by
      unfold execCatDefQueryDone
      dsimp only
      rw [if_pos hquery, hnone]
      rfl
    refine Runs.next hdone ⟨State.rd_wr_self s (CAT_DEF_QRESULT h) 0x80000000, congrArg CatH.query (State.catOf_setCat _ _ _), ?_⟩
    exact ((RegsBut.refl s _).wr (CAT_DEF_QRESULT h) 0x80000000).congr

theorem catchIndexAndRings : CatchIndexAndRings := by
  unfold CatchIndexAndRings
  intro s
  refine ⟨fun h hdue => congrArg Host.Outcome.next (if_pos hdue), fun h hvalid => congrArg Host.Outcome.next (if_pos hvalid), fun ring buf reader => ?_⟩
  have hself : (s.releaseBuf ring buf.toNat reader.toNat).holders ring buf.toNat = (s.holders ring buf.toNat).filter (· != reader.toNat) := tabGet_set_self _ _ _ _
  refine Runs.next (t := s.releaseBuf ring buf.toNat reader.toNat) rfl ⟨?_, fun q hq => ?_, fun r b hkey => tabGet_set_ne _ _ _ _ hkey, rfl⟩
  · rw [hself]
    simp
  · rw [hself]
    simp [hq]

/-- Settles O26: the windows of Catch, its defect index, stale temperatures and named readers. -/
theorem catchTables : Obligations.CatchTables := by
  unfold Obligations.CatchTables
  exact ⟨catchWindows, catchIndexAndRings⟩

end Sys2Proof.Machine
end

section
/-! PROOFS. Drive colour: user commits, table windows, the banks of look paths, and written frames (R230, R243, R244, R246, R270). -/

-- One proof at a time: the text is compiled as one file in bounded memory.
set_option Elab.async false

namespace Sys2Proof.Machine
open Sys2Proof.Claims

/-! ### Commits -/

theorem State.drvOf_setDrv (s : State) (h : Nat) (d : DrvH) : (s.setDrv h d).drvOf h = d := tabGet_set_self _ _ _ _
theorem State.drvOf_setDrv_ne (s : State) {h k : Nat} (d : DrvH) (hk : k ≠ h) : (s.setDrv h d).drvOf k = s.drvOf k := tabGet_set_ne _ _ _ _ hk

theorem colourCommit : ColourCommit := by
  unfold ColourCommit
  intro p h v s
  refine ⟨fun hreach h0 h1 hcopied hpipe hclean => exec_hostDo hreach ?_, fun hreach h1 h0 => exec_hostDo hreach ?_, fun hreach h1 hcopied => exec_hostDo hreach ?_,
    fun hcopied hready => ?_⟩
  · unfold State.drvCommitWrite
    dsimp only
    rw [if_neg (show ¬ bitOf v 1 = true by rw [bitOf, h1]; exact Bool.false_ne_true), if_pos (by rw [bitOf, h0, hcopied, hpipe]; simp), hclean]
    exact if_pos rfl
  · unfold State.drvCommitWrite
    dsimp only
    rw [if_pos (show bitOf v 1 = true from h1)]
    exact if_neg (by rw [bitOf, h0, Bool.false_and, Bool.false_and]; exact Bool.false_ne_true)
  · unfold State.drvCommitWrite
    dsimp only
    rw [if_neg (show ¬ bitOf v 1 = true by rw [bitOf, h1]; exact Bool.false_ne_true)]
    refine if_neg ?_
    cases hc : (s.drvOf h).copied with
    | none => exact absurd hc hcopied
    | some _ => simp
  · generalize hr : DRV_H_STATUS (s.pp h) h = r
    have hsome : ((s.drvOf h).copied.isSome && !(s.drvOf h).ready) = true := by
      rw [hready, Option.isSome_iff_ne_none.2 hcopied]
      rfl
    have hdone : execDrvPrecomputeDone h s = .next (((s.setDrv h { s.drvOf h with ready := true }).setBit r DRV_H_STATUS_COMPUTING false).setBit r
        DRV_H_STATUS_PENDING true) := by
      rw [← hr]
      exact congrArg Host.Outcome.next (if_pos hsome)
    refine Runs.next hdone ⟨State.drvOf_setDrv s h _, ?_, State.bit_setBit_self _ _ DRV_H_STATUS_PENDING true, ?_, fun k hk => ?_, rfl⟩
    · exact (State.bit_setFld_ne _ r (f := DRV_H_STATUS_PENDING) (g := DRV_H_STATUS_COMPUTING) _).trans (State.bit_setBit_self _ r DRV_H_STATUS_COMPUTING false)
    · have hset : RegsBut s (s.setDrv h { s.drvOf h with ready := true }) [r.off] := (RegsBut.refl s _).congr
      exact (hset.setBit r _ _).setBit r _ _
    · exact State.drvOf_setDrv_ne s _ (fun heq => hk (Fin.ext heq))

/-! ### Table windows -/

theorem illAccess_beyond {p h : Nat} {s : State} {v : Word} (hi : 41 ≤ bitsOf (s.rd (DRV_H_ILL_INDEX p h)).toNat 5 0) (write : Bool) :
    s.illAccess p h write v = (if write then s else { s with hostData := 0 }).advance (DRV_H_ILL_INDEX p h) 6 := by
  unfold State.illAccess
  dsimp only
  cases write with
  | false => rw [if_neg Bool.false_ne_true, if_pos hi, if_neg Bool.false_ne_true]
  | true => rw [if_pos rfl, if_neg (Nat.not_lt.2 hi), if_pos rfl]

theorem colourWindows : ColourWindows := by
  unfold ColourWindows
  intro p h n v s i j sel
  refine ⟨fun hreach hi => ⟨exec_hostDo hreach (illAccess_beyond hi true), exec_hostDo hreach (illAccess_beyond hi false)⟩, fun hreach hi => ?_,
    fun hreach hact htab => exec_hostDo hreach ?_, fun hreach htab hj => exec_hostDo hreach ?_, fun hreach htab hj => exec_hostDo hreach ?_⟩
  · generalize hd : ({ s.drvOf h with illShadow := tabSet (s.drvOf h).illShadow 0 (64 * bitsOf (s.rd (DRV_H_ILL_SEL p h)).toNat 0 0 + i) v } : DrvH) = d
    have hwrite : s.illAccess p h true v = (s.setDrv h d).advance (DRV_H_ILL_INDEX p h) 6 := by
      have hlt : bitsOf (s.rd (DRV_H_ILL_INDEX p h)).toNat 5 0 < 41 := hi
      unfold State.illAccess
      dsimp only
      rw [if_pos rfl, if_pos hlt, ← hd]
    refine Runs.next (exec_hostDo hreach hwrite) ⟨?_, ?_, rfl⟩
    · have hdrv : ((s.setDrv h d).advance (DRV_H_ILL_INDEX p h) 6).drvOf h = d := State.drvOf_setDrv s h d
      rw [hdrv, ← hd]
      exact tabGet_set_self (s.drvOf h).illShadow 0 v _
    · exact ((RegsBut.refl s _).congr (u := s.setDrv h d) rfl).wr (DRV_H_ILL_INDEX p h) _
  · have hact' : bitOf (s.rd (LKP_TBL_SEL n)) 9 = true := hact
    have htab' : (LKP_TBL_SEL_TABLE.get (s.rd (LKP_TBL_SEL n)) == 1) = false := beq_false_of_ne htab
    unfold State.lkpAccess
    dsimp only
    rw [if_pos rfl, if_pos hact', htab', if_pos (by decide)]
    rfl
  · have htab' : LKP_TBL_SEL_TABLE.get (s.rd (LKP_TBL_SEL n)) = 1 := htab
    have hj' : 274625 ≤ bitsOf (s.rd (LKP_TBL_INDEX n)).toNat 18 0 := hj
    have hzero (t : LkpTables) (ch : Nat) : lkpEntry t 1 ch (bitsOf (s.rd (LKP_TBL_INDEX n)).toNat 18 0) false = 0 := if_pos hj'
    unfold State.lkpAccess
    dsimp only
    rw [htab', if_neg Bool.false_ne_true, hzero, if_neg (by decide)]
  · have htab' : LKP_TBL_SEL_TABLE.get (s.rd (LKP_TBL_SEL n)) = 1 := htab
    have hj' : 274625 ≤ bitsOf (s.rd (LKP_TBL_INDEX n)).toNat 18 0 := hj
    have hzero (t : LkpTables) (ch : Nat) : lkpEntry t 1 ch (bitsOf (s.rd (LKP_TBL_INDEX n)).toNat 18 0) true = 0 := if_pos hj'
    unfold State.lkpAccess
    dsimp only
    rw [htab', if_neg Bool.false_ne_true, hzero, if_pos (by decide)]
    rfl

/-! ### Banks of a look path -/

/-- A list of words written to registers one after the other, from place `k` on. -/
def State.wrList (s : State) (r : Nat → Reg) (vs : List Word) (k : Nat) : State := (vs.zipIdx k).foldl (fun s e => s.wr (r e.2) e.1) s

theorem wrList_cons (s : State) (r : Nat → Reg) (v : Word) (vs : List Word) (k : Nat) : s.wrList r (v :: vs) k = (s.wr (r k) v).wrList r vs (k + 1) := by
  rw [State.wrList, List.zipIdx_cons, List.foldl_cons]
  rfl

theorem wrList_only (s : State) (r : Nat → Reg) (vs : List Word) (k : Nat) : OnlyRegs s (s.wrList r vs k) :=
  OnlyRegs.foldl (fun _ _ hu => hu.wr _ _) _ (OnlyRegs.refl s)

/-- Other registers stand. -/
theorem rd_wrList_other {r : Nat → Reg} {g : Reg} : ∀ (vs : List Word) (s : State) (k : Nat), (∀ i, i < vs.length → g.off ≠ (r (k + i)).off) →
    (s.wrList r vs k).rd g = s.rd g
  | [], _, _, _ => rfl
  | v :: vs, s, k, h => by
    have hrest := rd_wrList_other vs (s.wr (r k) v) (k + 1) fun i hi => by
      rw [Nat.add_right_comm]
      exact h (i + 1) (Nat.succ_lt_succ hi)
    have h0 : g.off ≠ (r k).off := h 0 (Nat.zero_lt_succ _)
    rw [wrList_cons, hrest, State.rd_wr_ne _ _ h0]

/-- Each register of a list reads its own word. -/
theorem rd_wrList {r : Nat → Reg} (hr : ∀ i j, i ≠ j → (r i).off ≠ (r j).off) : ∀ (vs : List Word) (s : State) (k i : Nat), i < vs.length →
    (s.wrList r vs k).rd (r (k + i)) = (vs[i]?).getD 0
  | [], _, _, _, h => absurd h (Nat.not_lt_zero _)
  | v :: vs, s, k, 0, _ => by
    rw [wrList_cons, rd_wrList_other vs _ _ (fun i _ => hr _ _ (by omega))]
    exact State.rd_wr_self s (r k) v
  | v :: vs, s, k, i + 1, h => by
    have hrest := rd_wrList hr vs (s.wr (r k) v) (k + 1) i (Nat.lt_of_succ_lt_succ h)
    rw [Nat.add_right_comm] at hrest
    rw [wrList_cons, Nat.add_succ]
    exact hrest

theorem State.lkpOf_setLkp (s : State) (n : Nat) (l : Lkp) : (s.setLkp n l).lkpOf n = l := tabGet_set_self _ _ _ _

theorem bankCopy_runs {n : Fin 8} {s : State} (hcopy : (s.lkpOf n).copying = true) (hmat : (s.lkpOf n).active.mat.length = 9)
    (hofs : (s.lkpOf n).active.ofs.length = 3) : Runs (.lkpBankCopyDone n) s (fun t =>
      t.lkpOf n = { s.lkpOf n with copying := false, incoming := (s.lkpOf n).tabs } ∧ t.rd (LKP_EXPOSURE n) = (s.lkpOf n).active.exposure ∧
      t.rd (LKP_LIN_SCALE n) = (s.lkpOf n).active.linScale ∧ t.rd (LKP_PQ_NITS n) = (s.lkpOf n).active.pqNits ∧
      (∀ i, i < 9 → t.rd (LKP_MAT n i) = ((s.lkpOf n).active.mat[i]?).getD 0) ∧ (∀ i, i < 3 → t.rd (LKP_OFS n i) = ((s.lkpOf n).active.ofs[i]?).getD 0) ∧
      t.bit (LKP_STATUS n) LKP_STATUS_SWAP_PENDING = false ∧ t = { s with regs := t.regs, lkp := t.lkp }) := by
  generalize hp : (s.lkpOf n).active = p at *
  generalize hl : ({ s.lkpOf n with copying := false, incoming := (s.lkpOf n).tabs } : Lkp) = l
  generalize ha : (((s.setLkp n l).wr (LKP_EXPOSURE n) p.exposure).wr (LKP_LIN_SCALE n) p.linScale).wr (LKP_PQ_NITS n) p.pqNits = a
  generalize hb : a.wrList (LKP_MAT n) p.mat 0 = b
  generalize hc : b.wrList (LKP_OFS n) p.ofs 0 = c
  have hab : OnlyRegs a b := hb ▸ wrList_only a _ _ 0
  have hbc : OnlyRegs b c := hc ▸ wrList_only b _ _ 0
  have hrun : execLkpBankCopyDone n s = .next (c.setBit (LKP_STATUS n) LKP_STATUS_SWAP_PENDING false) := by
    refine congrArg Host.Outcome.next ((if_pos hcopy).trans ?_)
    rw [← hc, ← hb, ← ha, ← hl, ← hp]
    rfl
  have hframe : OnlyRegs (s.setLkp n l) (c.setBit (LKP_STATUS n) LKP_STATUS_SWAP_PENDING false) := by
    have hsa : OnlyRegs (s.setLkp n l) a := ha ▸ (((OnlyRegs.refl _).wr _ _).wr _ _).wr _ _
    exact ((hsa.trans hab).trans hbc).setBit _ _ _
  have hother {g : Reg} (h0 : g.off ≠ (LKP_STATUS n).off) (hg : g.off < (LKP_MAT n 0).off) :
      (c.setBit (LKP_STATUS n) LKP_STATUS_SWAP_PENDING false).rd g = a.rd g := by
    have hm (i : Nat) : g.off ≠ (LKP_MAT n (0 + i)).off := by simp only [LKP_MAT] at hg ⊢; omega
    have ho (i : Nat) : g.off ≠ (LKP_OFS n (0 + i)).off := by simp only [LKP_MAT] at hg; simp only [LKP_OFS]; omega
    have hset : (c.setBit (LKP_STATUS n) LKP_STATUS_SWAP_PENDING false).rd g = c.rd g := State.rd_wr_ne c _ h0
    rw [hset, ← hc, rd_wrList_other _ _ _ fun i _ => ho i, ← hb, rd_wrList_other _ _ _ fun i _ => hm i]
  refine Runs.next hrun ⟨?_, ?_, ?_, ?_, fun i hi => ?_, fun i hi => ?_, State.bit_setBit_self _ _ LKP_STATUS_SWAP_PENDING false, ?_⟩
  · rw [State.lkpOf, hframe.field State.lkp]
    exact State.lkpOf_setLkp s n l
  · have h12 : (LKP_EXPOSURE n).off ≠ (LKP_LIN_SCALE n).off := by simp only [LKP_EXPOSURE, LKP_LIN_SCALE]; omega
    have h13 : (LKP_EXPOSURE n).off ≠ (LKP_PQ_NITS n).off := by simp only [LKP_EXPOSURE, LKP_PQ_NITS]; omega
    rw [hother (by simp only [LKP_EXPOSURE, LKP_STATUS]; omega) (by simp only [LKP_EXPOSURE, LKP_MAT]; omega), ← ha, State.rd_wr_ne _ _ h13,
      State.rd_wr_ne _ _ h12, State.rd_wr_self]
  · have h23 : (LKP_LIN_SCALE n).off ≠ (LKP_PQ_NITS n).off := by simp only [LKP_LIN_SCALE, LKP_PQ_NITS]; omega
    rw [hother (by simp only [LKP_LIN_SCALE, LKP_STATUS]; omega) (by simp only [LKP_LIN_SCALE, LKP_MAT]; omega), ← ha, State.rd_wr_ne _ _ h23, State.rd_wr_self]
  · rw [hother (by simp only [LKP_PQ_NITS, LKP_STATUS]; omega) (by simp only [LKP_PQ_NITS, LKP_MAT]; omega), ← ha, State.rd_wr_self]
  · have hset : (c.setBit (LKP_STATUS n) LKP_STATUS_SWAP_PENDING false).rd (LKP_MAT n i) = c.rd (LKP_MAT n i) :=
      State.rd_wr_ne c _ (by simp only [LKP_MAT, LKP_STATUS]; omega)
    have hofsOut (k : Nat) : (LKP_MAT n i).off ≠ (LKP_OFS n (0 + k)).off := by simp only [LKP_MAT, LKP_OFS]; omega
    have hread := rd_wrList (r := LKP_MAT n) (fun x y hxy => by simp only [LKP_MAT]; omega) p.mat a 0 i (by omega)
    rw [hset, ← hc, rd_wrList_other _ _ _ fun k _ => hofsOut k, ← hb]
    rwa [Nat.zero_add] at hread
  · have hset : (c.setBit (LKP_STATUS n) LKP_STATUS_SWAP_PENDING false).rd (LKP_OFS n i) = c.rd (LKP_OFS n i) :=
      State.rd_wr_ne c _ (by simp only [LKP_OFS, LKP_STATUS]; omega)
    have hread := rd_wrList (r := LKP_OFS n) (fun x y hxy => by simp only [LKP_OFS]; omega) p.ofs b 0 i (by omega)
    rw [hset, ← hc]
    rwa [Nat.zero_add] at hread
  · rw [OnlyRegs] at hframe
    rw [hframe]
    rfl

theorem lookPathBanks : LookPathBanks := by
  unfold LookPathBanks
  intro n v s
  refine ⟨fun hreach h0 hpend => exec_hostDo hreach (if_pos ?_), fun hreach hpend => exec_hostDo hreach (if_neg ?_),
    fun hcopy hmat hofs => bankCopy_runs hcopy hmat hofs⟩
  · rw [bitOf, h0, hpend]
    rfl
  · rw [hpend, Bool.not_true, Bool.and_false]
    exact Bool.false_ne_true

/-! ### Written frames -/

theorem length_leBytes : ∀ (n v : Nat), (leBytes n v).length = n
  | 0, _ => rfl
  | n + 1, v => congrArg Nat.succ (length_leBytes n (v / 256))

theorem length_wordBytes (w : Word) : (wordBytes w).length = 4 := length_leBytes 4 _

theorem length_lkpTrailer (s : State) (n : Nat) (w : LkpWrite) : (s.lkpTrailer n w).length = 64 := by
  simp only [State.lkpTrailer, List.length_append, length_leBytes, length_wordBytes, List.length_replicate]

theorem length_wbTrailer (s : State) (n : Nat) (w : WbWrite) : (s.wbTrailer n w).length = 64 := by
  simp only [State.wbTrailer, List.length_append, length_leBytes, length_wordBytes, List.length_replicate]

/-- A frame's trailer is written to its place, and no other byte changes. -/
theorem trailer_written {s : State} {a : Nat} {bs : List Byte} (hlen : bs.length = 64) :
    (∀ i, i < 64 → (s.memWrite a bs).mem (a + i) = bs.getD i 0) ∧ (∀ b, b < a ∨ a + 64 ≤ b → (s.memWrite a bs).mem b = s.mem b) :=
  ⟨fun _ hi => State.mem_memWrite_in s a bs (hlen ▸ hi), fun _ hb => State.mem_memWrite_out s a bs (hlen ▸ hb)⟩

/-- A state with a trailer in its memory and the register of the last buffer written raises its event: what the new state shows. -/
theorem trailer_raised {s u : State} {a ev src : Nat} {bs : List Byte} {r : Reg} {v w : Word} {ws : List Word} (hlen : bs.length = 64)
    (hmem : u.g7 = (s.memWrite a bs).g7) (hregs : RegsBut s u [r.off]) (hocc : u.occ = s.occ) (hrd : u.rd r = v)
    (hcnt : r.off ≠ (EVT_R_CNT ev).off) (hlast : r.off ≠ (EVT_R_LAST ev).off) :
    ((∀ i, i < 64 → (u.raise ev src (w :: ws)).mem (a + i) = bs.getD i 0) ∧
      (∀ b, b < a ∨ a + 64 ≤ b → (u.raise ev src (w :: ws)).mem b = s.mem b)) ∧
    (u.raise ev src (w :: ws)).rd r = v ∧ Raised s (u.raise ev src (w :: ws)) ev src w ∧
    RegsBut s (u.raise ev src (w :: ws)) (r.off :: evRegs ev) := by
  obtain ⟨hin, hout⟩ := trailer_written (s := s) (a := a) hlen
  have hkeep (b : Nat) : (u.raise ev src (w :: ws)).mem b = (s.memWrite a bs).mem b := by rw [State.mem, State.raise_g7, hmem]; rfl
  refine ⟨⟨fun i hi => (hkeep _).trans (hin i hi), fun b hb => (hkeep b).trans (hout b hb)⟩, ?_, ?_, ?_⟩
  · rw [State.rd_raise _ _ _ _ hcnt hlast, hrd]
  · exact State.raised_raise ev _ _ hocc (hregs.rd (by simpa using hcnt.symm))
  · exact (hregs.mono (by simp)).raise ev _ _ (by simp)

theorem memWrite_frame (s : State) (a : Nat) (bs : List Byte) : s.memWrite a bs = { s with g7 := (s.memWrite a bs).g7 } := rfl

theorem lookFrame_posted {n : Fin 8} {s : State} {w : LkpWrite} {ws : List LkpWrite} (hw : (s.lkpOf n).written = w :: ws) : ∃ u : State,
    exec (.lkpFrameWritten n) s = .next (u.postRing (8 + n) w.buf w.info) ∧
    (let a := s.lkpBufAddr n w.buf + s.lkpBufBytes n - 64
     (∀ i, i < 64 → u.mem (a + i) = (s.lkpTrailer n w).getD i 0) ∧ (∀ b, b < a ∨ a + 64 ≤ b → u.mem b = s.mem b)) ∧
    u.rd (LKP_WR_LAST n) = w32 w.buf ∧ (u.lkpOf n).written = ws ∧ Raised s u 401 (0x0500 + n) (w32 n.val) ∧
    RegsBut s u ((LKP_WR_LAST n).off :: evRegs 401) ∧ u = { s with regs := u.regs, g7 := u.g7, lkp := u.lkp, occ := u.occ } := by
  generalize hm : s.memWrite (s.lkpBufAddr n w.buf + s.lkpBufBytes n - 64) (s.lkpTrailer n w) = m
  generalize hu : (m.setLkp n { s.lkpOf n with written := ws }).wr (LKP_WR_LAST n) (w32 w.buf) = u
  have hrun : execLkpFrameWritten n s = .next ((u.raise 401 (0x0500 + n) [w32 n.val, w32 w.buf]).postRing (8 + n) w.buf w.info) := by
    unfold execLkpFrameWritten
    dsimp only
    rw [hw]
    dsimp only
    rw [hm, hu]
  have hwritten : m = { s with g7 := m.g7 } := by rw [← hm]; exact memWrite_frame s _ _
  have hframe : u = { s with regs := u.regs, g7 := m.g7, lkp := u.lkp } := by
    have hu' : u = { m with regs := u.regs, lkp := u.lkp } := by rw [← hu]; rfl
    rw [hu', hwritten]
  have hregs : RegsBut s u [(LKP_WR_LAST n).off] := by
    have hset : RegsBut s (m.setLkp n { s.lkpOf n with written := ws }) [(LKP_WR_LAST n).off] := (RegsBut.refl s _).congr (by rw [hwritten]; rfl)
    exact hu ▸ hset.wr (LKP_WR_LAST n) _
  have hg7 : u.g7 = (s.memWrite (s.lkpBufAddr n w.buf + s.lkpBufBytes n - 64) (s.lkpTrailer n w)).g7 := by rw [hm, hframe]
  have h8 := n.isLt
  obtain ⟨hmem, hrd, hraised, hbut⟩ := trailer_raised (ev := 401) (src := 0x0500 + n) (w := w32 n.val) (ws := [w32 w.buf]) (length_lkpTrailer s n w) hg7 hregs
    (by rw [hframe]) (hu ▸ State.rd_wr_self _ _ (w32 w.buf)) (by simp only [LKP_WR_LAST, EVT_R_CNT]; omega) (by simp only [LKP_WR_LAST, EVT_R_LAST]; omega)
  refine ⟨_, hrun, hmem, hrd, ?_, hraised, hbut, ?_⟩
  · have hlkp : (u.raise 401 (0x0500 + n) [w32 n.val, w32 w.buf]).lkpOf n = u.lkpOf n := by rw [State.lkpOf, State.raise_lkp]; rfl
    rw [hlkp, ← hu]
    exact congrArg Lkp.written (State.lkpOf_setLkp m n _)
  · have hraise : OnlyRegsOcc u (u.raise 401 (0x0500 + n) [w32 n.val, w32 w.buf]) := OnlyRegsOcc.refl u |>.raise _ _ _
    rw [OnlyRegsOcc] at hraise
    rw [hraise, hframe]

theorem backFrame_posted {n : Fin 4} {s : State} {w : WbWrite} {ws : List WbWrite} (hw : (s.cmpOf n).wbDone = w :: ws) : ∃ u : State,
    exec (.wbFrameWritten n) s = .next (u.postRing (16 + n) w.buf w.info) ∧
    (let a := s.wbAddr n w.buf + s.wbBytes n - 64
     (∀ i, i < 64 → u.mem (a + i) = (s.wbTrailer n w).getD i 0) ∧ (∀ b, b < a ∨ a + 64 ≤ b → u.mem b = s.mem b)) ∧
    u.rd (CMP_WB_LAST n) = w32 w.buf ∧ (u.cmpOf n).wbDone = ws ∧ Raised s u 420 (0x0600 + n) (w32 w.buf) ∧
    RegsBut s u ((CMP_WB_LAST n).off :: evRegs 420) ∧ u = { s with regs := u.regs, g7 := u.g7, cmp := u.cmp, occ := u.occ } := by
  generalize hm : s.memWrite (s.wbAddr n w.buf + s.wbBytes n - 64) (s.wbTrailer n w) = m
  generalize hu : (m.setCmp n { s.cmpOf n with wbDone := ws }).wr (CMP_WB_LAST n) (w32 w.buf) = u
  have hrun : execWbFrameWritten n s = .next ((u.raise 420 (0x0600 + n) [w32 w.buf, u.rd (CMP_FRAME n)]).postRing (16 + n) w.buf w.info) := by
    unfold execWbFrameWritten
    dsimp only
    rw [hw]
    dsimp only
    rw [hm, hu]
  have hwritten : m = { s with g7 := m.g7 } := by rw [← hm]; exact memWrite_frame s _ _
  have hframe : u = { s with regs := u.regs, g7 := m.g7, cmp := u.cmp } := by
    have hu' : u = { m with regs := u.regs, cmp := u.cmp } := by rw [← hu]; rfl
    rw [hu', hwritten]
  have hregs : RegsBut s u [(CMP_WB_LAST n).off] := by
    have hset : RegsBut s (m.setCmp n { s.cmpOf n with wbDone := ws }) [(CMP_WB_LAST n).off] := (RegsBut.refl s _).congr (by rw [hwritten]; rfl)
    exact hu ▸ hset.wr (CMP_WB_LAST n) _
  have hg7 : u.g7 = (s.memWrite (s.wbAddr n w.buf + s.wbBytes n - 64) (s.wbTrailer n w)).g7 := by rw [hm, hframe]
  have h4 := n.isLt
  obtain ⟨hmem, hrd, hraised, hbut⟩ := trailer_raised (ev := 420) (src := 0x0600 + n) (w := w32 w.buf) (ws := [u.rd (CMP_FRAME n)]) (length_wbTrailer s n w) hg7 hregs
    (by rw [hframe]) (hu ▸ State.rd_wr_self _ _ (w32 w.buf)) (by simp only [CMP_WB_LAST, EVT_R_CNT]; omega) (by simp only [CMP_WB_LAST, EVT_R_LAST]; omega)
  refine ⟨_, hrun, hmem, hrd, ?_, hraised, hbut, ?_⟩
  · have hcmp : (u.raise 420 (0x0600 + n) [w32 w.buf, u.rd (CMP_FRAME n)]).cmpOf n = u.cmpOf n :=
      by rw [State.cmpOf, State.raise_cmp]; rfl
    rw [hcmp, ← hu]
    exact congrArg Cmp.wbDone (tabGet_set_self m.cmp _ _ _)
  · have hraise : OnlyRegsOcc u (u.raise 420 (0x0600 + n) [w32 w.buf, u.rd (CMP_FRAME n)]) := OnlyRegsOcc.refl u |>.raise _ _ _
    rw [OnlyRegsOcc] at hraise
    rw [hraise, hframe]

theorem writtenFramesArePosted : WrittenFramesArePosted := by
  unfold WrittenFramesArePosted
  exact ⟨fun _ _ _ _ hw => lookFrame_posted hw, fun _ _ _ _ hw => backFrame_posted hw⟩

/-- Settles O27: commits and windows of the colour pipelines, banks of look paths, and written frames. -/
theorem colourTables : Obligations.ColourTables := by
  unfold Obligations.ColourTables
  exact ⟨colourCommit, colourWindows, lookPathBanks, writtenFramesArePosted⟩

end Sys2Proof.Machine
end

section
/-! PROOFS. Composition: layer commits, layer posts and buoys (R252, R263, R265, R266, R271, R273). -/

-- One proof at a time: the text is compiled as one file in bounded memory.
set_option Elab.async false

namespace Sys2Proof.Machine
open Sys2Proof.Claims

/-! ### Layer commits -/

/-- A write of GO alone passes the discard's bit by. -/
theorem layerCommitWrite_go {s : State} {n l : Nat} {v : Word} (h0 : v.getLsbD 0 = true) (h1 : v.getLsbD 1 = false)
    (hpend : s.bit (CMP_L_STATUS n l) CMP_L_STATUS_PENDING = false) {code : Option Nat}
    (hcode : (if s.rigListing (0x0600 + n) then some 0x0503 else s.layerCheck n l (s.layerShadow n l)) = code) :
    s.layerCommitWrite n l v = match (generalizing := false) code with
      | some k => ((s.wr (CMP_L_REFUSAL n l) (w32 k)).wr (CMP_L_REFUSAL_TIME n l) s.ns).raise 417 (0x0600 + n) [s.rd (CMP_FRAME n)]
      | none => (((s.layerFigures n l (s.layerShadow n l)).wr (CMP_L_COMMIT n l) (putBit ((s.layerFigures n l (s.layerShadow n l)).rd (CMP_L_COMMIT n l)) 0 true)).setBit
          (CMP_L_STATUS n l) CMP_L_STATUS_PENDING true).psrExit n := by
  unfold State.layerCommitWrite
  dsimp only
  rw [if_neg (show ¬ bitOf v 1 = true by rw [bitOf, h1]; exact Bool.false_ne_true), if_neg (by rw [bitOf, h0]; exact Bool.false_ne_true),
    if_neg (by rw [hpend]; exact Bool.false_ne_true), hcode] <;> rfl

/-- A refused commit: the code, the time and event 417; nothing else changes. -/
theorem layerRefused (s : State) (n : Fin 4) (l : Fin 8) (k : Nat) {t : State}
    (ht : ((s.wr (CMP_L_REFUSAL n l) (w32 k)).wr (CMP_L_REFUSAL_TIME n l) s.ns).raise 417 (0x0600 + n) [s.rd (CMP_FRAME n)] = t) :
    t.rd (CMP_L_REFUSAL n l) = w32 k ∧ t.rd (CMP_L_REFUSAL_TIME n l) = s.ns ∧ Raised s t 417 (0x0600 + n) (s.rd (CMP_FRAME n)) ∧
      RegsBut s t ((CMP_L_REFUSAL n l).off :: (CMP_L_REFUSAL_TIME n l).off :: evRegs 417) ∧ t = { s with regs := t.regs, occ := t.occ } := by
  have h4 := n.isLt
  have h8 := l.isLt
  have hdiff : (CMP_L_REFUSAL n l).off ≠ (CMP_L_REFUSAL_TIME n l).off := by simp only [CMP_L_REFUSAL, CMP_L_REFUSAL_TIME]; omega
  have hcode : (CMP_L_REFUSAL n l).off ≠ (EVT_R_CNT 417).off ∧ (CMP_L_REFUSAL n l).off ≠ (EVT_R_LAST 417).off := by
    simp only [CMP_L_REFUSAL, EVT_R_CNT, EVT_R_LAST]; omega
  have htime : (CMP_L_REFUSAL_TIME n l).off ≠ (EVT_R_CNT 417).off ∧ (CMP_L_REFUSAL_TIME n l).off ≠ (EVT_R_LAST 417).off := by
    simp only [CMP_L_REFUSAL_TIME, EVT_R_CNT, EVT_R_LAST]; omega
  generalize hu : (s.wr (CMP_L_REFUSAL n l) (w32 k)).wr (CMP_L_REFUSAL_TIME n l) s.ns = u at ht
  have hregs : RegsBut s u [(CMP_L_REFUSAL n l).off, (CMP_L_REFUSAL_TIME n l).off] := hu ▸ ((RegsBut.refl s _).wr _ _).wr _ _
  have honly : OnlyRegs s u := hu ▸ ((OnlyRegs.refl s).wr _ _).wr _ _
  rw [← ht]
  refine ⟨?_, ?_, State.raised_raise 417 _ _ honly.occ (hregs.rd (by simpa using ⟨hcode.1.symm, htime.1.symm⟩)), (hregs.mono (by simp)).raise 417 _ _ (by simp),
    honly.regsOcc.raise 417 _ _⟩
  · rw [State.rd_raise _ _ _ _ hcode.1 hcode.2, ← hu, State.rd_wr_ne _ _ hdiff, State.rd_wr_self]
  · rw [State.rd_raise _ _ _ _ htime.1 htime.2, ← hu, State.rd_wr_self]

theorem layerCheck_absent {s : State} {n l : Nat} (c : LayerCfg) (h : s.cmpLayers n ≤ l) : s.layerCheck n l c = some 0x0401 := if_pos h

theorem layerCheck_off {s : State} {n l : Nat} {c : LayerCfg} (h : l < s.cmpLayers n) (hoff : c.on = false) : s.layerCheck n l c = none :=
  (if_neg (Nat.not_le.2 h)).trans (if_pos (by rw [hoff]; rfl))

theorem psrExit_awake {s : State} {n : Nat} (h : s.fld (SCN_STATUS n) SCN_STATUS_STATE ≠ 5) : s.psrExit n = s := if_neg h

theorem layerCommits : LayerCommits := by
  unfold LayerCommits
  intro n l v s hreach h0 h1
  have h4 := n.isLt
  have h8 := l.isLt
  refine ⟨fun hpend => exec_hostDo hreach ?_, fun hpend hrig habsent => ?_, fun hpend hrig => ?_, fun hpend hrig hhas hoff hawake => ?_⟩
  · unfold State.layerCommitWrite
    dsimp only
    rw [if_neg (show ¬ bitOf v 1 = true by rw [bitOf, h1]; exact Bool.false_ne_true), if_neg (by rw [bitOf, h0]; exact Bool.false_ne_true), if_pos hpend]
  · have hwrite := layerCommitWrite_go (code := some 0x0401) h0 h1 hpend (by rw [hrig]; exact layerCheck_absent _ habsent)
    exact Runs.next (exec_hostDo hreach hwrite) (layerRefused s n l 0x0401 rfl)
  · have hwrite := layerCommitWrite_go (code := some 0x0503) h0 h1 hpend (by rw [hrig]; rfl)
    obtain ⟨hcode, htime, hraised, hregs, hframe⟩ := layerRefused s n l 0x0503 rfl
    refine Runs.next (exec_hostDo hreach hwrite) ⟨hcode, ?_, hraised⟩
    rw [State.bit, hregs.rd]
    · exact hpend
    · simp only [evRegs, CMP_L_STATUS, CMP_L_REFUSAL, CMP_L_REFUSAL_TIME, EVT_R_CNT, EVT_R_LAST, List.mem_cons, List.not_mem_nil, or_false, not_or]
      omega
  · have hwrite := layerCommitWrite_go (code := none) h0 h1 hpend (by rw [hrig]; exact layerCheck_off hhas hoff)
    dsimp only at hwrite
    generalize hf : s.layerFigures n l (s.layerShadow n l) = f at hwrite
    generalize hu : (f.wr (CMP_L_COMMIT n l) (putBit (f.rd (CMP_L_COMMIT n l)) 0 true)).setBit (CMP_L_STATUS n l) CMP_L_STATUS_PENDING true = u at hwrite
    have hregsF : RegsBut s f [(CMP_L_COMMIT n l).off, (CMP_L_STATUS n l).off, (CMP_L_RATE_NEED n l).off] := hf ▸ ((RegsBut.refl s _).wr _ _).setBit _ _ _
    have hregs : RegsBut s u [(CMP_L_COMMIT n l).off, (CMP_L_STATUS n l).off, (CMP_L_RATE_NEED n l).off] := hu ▸ (hregsF.wr _ _).setBit _ _ _
    have honly : OnlyRegs s u := by
      have hof : OnlyRegs s f := hf ▸ ((OnlyRegs.refl s).wr _ _).setBit _ _ _
      exact hu ▸ (hof.wr _ _).setBit _ _ _
    have hstate : u.psrExit n = u := psrExit_awake (by
      rw [State.fld, hregs.rd]
      · exact hawake
      · simp only [SCN_STATUS, CMP_L_COMMIT, CMP_L_STATUS, CMP_L_RATE_NEED, List.mem_cons, List.not_mem_nil, or_false, not_or]
        omega)
    have hdiff : (CMP_L_COMMIT n l).off ≠ (CMP_L_STATUS n l).off := by simp only [CMP_L_COMMIT, CMP_L_STATUS]; omega
    refine Runs.next (exec_hostDo hreach (hwrite.trans hstate)) ⟨?_, ?_, hregs, honly⟩
    · rw [← hu]
      exact State.bit_setBit_self _ _ CMP_L_STATUS_PENDING true
    · have hrd : u.rd (CMP_L_COMMIT n l) = putBit (f.rd (CMP_L_COMMIT n l)) 0 true := by
        rw [← hu]
        exact (State.rd_wr_ne _ _ hdiff).trans (State.rd_wr_self _ _ _)
      rw [State.bit, hrd]
      exact Fld.bit_put_self ⟨0, 0⟩ _ true (by decide) (by decide)

/-! ### Layer posts -/

theorem layerPosted_host {s : State} {n l buf : Nat} (hsrc : (s.layerOf n l).act.src = 3) (hawake : s.fld (SCN_STATUS n) SCN_STATUS_STATE ≠ 5) :
    s.layerPosted n l buf = s.setLayer n l { s.layerOf n l with posted := (s.layerOf n l).posted ++ [buf] } := by
  unfold State.layerPosted
  dsimp only
  rw [State.layerRing, hsrc]
  exact psrExit_awake hawake

theorem State.layerOf_setLayer (s : State) (n l : Nat) (x : CmpLayer) : (s.setLayer n l x).layerOf n l = x := by
  have hcmp : (s.setLayer n l x).cmpOf n = { s.cmpOf n with layers := tabSet (s.cmpOf n).layers {} l x } := tabGet_set_self _ _ _ _
  rw [State.layerOf, hcmp]
  exact tabGet_set_self _ _ _ _

theorem State.layerOf_setLayer_ne (s : State) (n : Nat) {l k : Nat} (x : CmpLayer) (hk : k ≠ l) : (s.setLayer n l x).layerOf n k = s.layerOf n k := by
  have hcmp : (s.setLayer n l x).cmpOf n = { s.cmpOf n with layers := tabSet (s.cmpOf n).layers {} l x } := tabGet_set_self _ _ _ _
  rw [State.layerOf, hcmp]
  exact tabGet_set_ne _ _ _ _ hk

theorem layerPosts : LayerPosts := by
  unfold LayerPosts
  intro n l v s hreach
  refine ⟨fun hon hsrc hawake => ?_, fun hsrc => exec_hostDo hreach (if_neg ?_)⟩
  · have hwrite : s.layerPostWrite n l v = s.setLayer n l { s.layerOf n l with posted := (s.layerOf n l).posted ++ [v.toNat % 256] } :=
      (if_pos (by rw [hon, hsrc]; rfl)).trans ((congrArg (s.layerPosted n l) (bitsOf_low v.toNat 7)).trans (layerPosted_host hsrc hawake))
    exact Runs.next (exec_hostDo hreach hwrite)
      ⟨State.layerOf_setLayer s n l _, fun k hk => State.layerOf_setLayer_ne s n _ (fun heq => hk (Fin.ext heq)), rfl⟩
  · rw [beq_false_of_ne hsrc, Bool.and_false]
    exact Bool.false_ne_true

/-! ### Buoys -/

theorem buoyRegisters : BuoyRegisters := by
  unfold BuoyRegisters
  intro n b v s
  refine ⟨fun hreach => Runs.next (exec_hostDo hreach rfl) ⟨State.rd_wr_self _ _ _, (RegsBut.refl s _).wr (CMP_B_CFG n b) _, rfl⟩, fun hreach => ?_⟩
  cases hv : v.getLsbD 0 with
  | false =>
    refine Runs.next (exec_hostDo hreach (if_neg (by rw [bitOf, hv]; exact Bool.false_ne_true))) ⟨fun k _ => ?_, RegsBut.refl s _, rfl⟩
    rw [Bool.and_false, Bool.not_false, Bool.and_true]
  | true =>
    refine Runs.next (exec_hostDo hreach (if_pos hv)) ⟨fun k hk => ?_, (RegsBut.refl s _).setBit (CMP_B_STATUS n b) _ _, rfl⟩
    rw [Bool.and_true]
    by_cases h0 : k = 0
    · rw [h0]
      exact (State.bit_setBit_self s (CMP_B_STATUS n b) CMP_B_STATUS_FS_LATCHED false).trans (by simp)
    · rw [beq_false_of_ne h0, Bool.not_false, Bool.and_true]
      have hset : (s.setBit (CMP_B_STATUS n b) CMP_B_STATUS_FS_LATCHED false).rd (CMP_B_STATUS n b) =
          CMP_B_STATUS_FS_LATCHED.put (s.rd (CMP_B_STATUS n b)) 0 := by
        rw [State.setBit_eq]
        exact State.rd_wr_self _ _ _
      rw [hset]
      exact Fld.bit_put_ne _ _ _ k hk (Or.inr (Nat.pos_of_ne_zero h0))

/-- Settles O28: layer commits, posts to layers, and the registers of buoys. -/
theorem layersAndBuoys : Obligations.LayersAndBuoys := by
  unfold Obligations.LayersAndBuoys
  exact ⟨layerCommits, layerPosts, buoyRegisters⟩

end Sys2Proof.Machine
end

section
/-! PROOFS. Scan-out: the register SCN_CTRL, timing writes, stops and starts (R277, R279 to R283, R291). -/

-- One proof at a time: the text is compiled as one file in bounded memory.
set_option Elab.async false

namespace Sys2Proof.Machine
open Sys2Proof.Claims

theorem State.scnOf_setScn (s : State) (n : Nat) (x : Scn) : (s.setScn n x).scnOf n = x := tabGet_set_self _ _ _ _

theorem State.scnState_eq (s : State) (n : Nat) : s.scnState n = SCN_STATUS_STATE.get (s.rd (SCN_STATUS n)) := rfl

theorem State.scnState_setScnState (s : State) (n : Nat) {v : Nat} (hv : v < 8) : (s.setScnState n v).scnState n = v :=
  (State.fld_setFld_self s (SCN_STATUS n) SCN_STATUS_STATE v).trans (Nat.mod_eq_of_lt hv)

theorem scanCtrlIsOneRegister : ScanCtrlIsOneRegister := by
  unfold ScanCtrlIsOneRegister
  exact fun _ _ _ => ⟨rfl, rfl, rfl⟩

/-! ### One bit of SCN_CTRL at a time -/

theorem scnCtrlWrite_timing (s : State) (n : Nat) : s.scnCtrlWrite n 1 = s.timingGo n := rfl
theorem scnCtrlWrite_stop (s : State) (n : Nat) : s.scnCtrlWrite n 2 = s.softStop n := rfl
theorem scnCtrlWrite_psrExit (s : State) (n : Nat) : s.scnCtrlWrite n 8 = s.psrExit n := rfl
theorem scnCtrlWrite_start (s : State) (n : Nat) :
    s.scnCtrlWrite n 4 = if s.scnState n == 4 then s.setScn n { s.scnOf n with startReq := true } else s := rfl

/-! ### Registers of a head of scan-out and of its events -/

/-- An event's registers lie below those of the output side. -/
theorem scanReg_ev {o ev : Nat} (ho : 0x2000000 ≤ o) (hev : ev < 1024) : o ≠ (EVT_R_CNT ev).off ∧ o ≠ (EVT_R_LAST ev).off := by
  simp only [EVT_R_CNT, EVT_R_LAST]
  omega

/-! ### Timing writes -/

/-- A refused timing write: its code, the time and event 433. -/
theorem timingRefused (s : State) (n : Fin 4) (k : Nat) {t : State} (ht : s.timingRefuse n k = t) :
    t.rd (SCN_TW_REFUSAL n) = w32 k ∧ t.rd (SCN_TW_REFUSAL_TIME n) = s.ns ∧ Raised s t 433 (0x0700 + n) 0 ∧
      RegsBut s t ((SCN_TW_REFUSAL n).off :: (SCN_TW_REFUSAL_TIME n).off :: evRegs 433) ∧ t = { s with regs := t.regs, occ := t.occ } := by
  have hdiff : (SCN_TW_REFUSAL n).off ≠ (SCN_TW_REFUSAL_TIME n).off := by simp only [SCN_TW_REFUSAL, SCN_TW_REFUSAL_TIME]; omega
  have hcode := scanReg_ev (o := (SCN_TW_REFUSAL n).off) (ev := 433) (by simp only [SCN_TW_REFUSAL]; omega) (by decide)
  have htime := scanReg_ev (o := (SCN_TW_REFUSAL_TIME n).off) (ev := 433) (by simp only [SCN_TW_REFUSAL_TIME]; omega) (by decide)
  rw [State.timingRefuse] at ht
  generalize hu : (s.wr (SCN_TW_REFUSAL n) (w32 k)).wr (SCN_TW_REFUSAL_TIME n) s.ns = u at ht
  have hregs : RegsBut s u [(SCN_TW_REFUSAL n).off, (SCN_TW_REFUSAL_TIME n).off] := hu ▸ ((RegsBut.refl s _).wr _ _).wr _ _
  have honly : OnlyRegs s u := hu ▸ ((OnlyRegs.refl s).wr _ _).wr _ _
  rw [← ht]
  refine ⟨?_, ?_, State.raised_raise 433 _ _ honly.occ (hregs.rd (by simpa using ⟨hcode.1.symm, htime.1.symm⟩)), (hregs.mono (by simp)).raise 433 _ _ (by simp),
    honly.regsOcc.raise 433 _ _⟩
  · rw [State.rd_raise _ _ _ _ hcode.1 hcode.2, ← hu, State.rd_wr_ne _ _ hdiff, State.rd_wr_self]
  · rw [State.rd_raise _ _ _ _ htime.1 htime.2, ← hu, State.rd_wr_self]

/-- A register write of one event is settled as it stands. -/
theorem settle_timingRefuse (s : State) (n k : Nat) : s.settle (s.timingRefuse n k) = s.timingRefuse n k := State.settle_raise _ _ _ rfl

/-- An accepted timing write is in force, and counted, before the PLL is looked at. -/
def State.timingInForce (s : State) (n : Nat) (w : ScnTiming) : State :=
  let s := s.setScn n { s.scnOf n with tim := w, checked := false, skip := 2 }
  let s := s.wr (SCN_WAKE_STATUS n) (s.rd (SCN_WAKE_STATUS n) &&& 1)
  (s.incWrap (SCN_TW_GEN n)).raise 432 (scnBid n) [w32 n, s.rd (SCN_FRAME n)]

/-- What a timing write that changes the PLL asks of a head that runs. -/
def State.timingHold (s : State) (n : Nat) (stop : Bool) : State := ((s.scnTruncate n).setScn n { (s.scnTruncate n).scnOf n with stopAfter := stop }).setScnState n 2

theorem timingApply_eq (s : State) (n : Nat) (w : ScnTiming) : s.timingApply n w =
    (if !(w.div != (s.scnOf n).tim.div || w.frac != (s.scnOf n).tim.frac) || s.scnState n = 0 then s.timingInForce n w
      else if s.scnState n = 4 then ((s.timingInForce n w).setScn n { (s.timingInForce n w).scnOf n with black := true }).setScnState n 2
      else (s.timingInForce n w).timingHold n (decide (s.scnState n = 3))) := rfl

theorem timingGo_refused {s : State} {n k : Nat} (hcheck : s.timingCheck n (s.scnShadow n) (s.liveHead n) = some k) : s.timingGo n = s.timingRefuse n k := by
  unfold State.timingGo
  dsimp only
  rw [hcheck]

theorem timingGo_held {s : State} {n : Nat} (hcheck : s.timingCheck n (s.scnShadow n) (s.liveHead n) = none) (hstate : s.scnState n = 2) :
    s.timingGo n = s.timingRefuse n 0x0503 := by
  unfold State.timingGo
  dsimp only
  rw [hcheck]
  exact if_pos (by rw [hstate]; rfl)

theorem timingGo_applies {s : State} {n : Nat} (hcheck : s.timingCheck n (s.scnShadow n) (s.liveHead n) = none) (hstate : s.scnState n ≠ 2)
    (hawake : s.scnState n ≠ 5) (hrig : s.rigListing (0x0700 + n) = false) : s.timingGo n = s.timingApply n (s.scnShadow n) := by
  unfold State.timingGo
  dsimp only
  rw [hcheck]
  have hrig' : s.rigListing (scnBid n) = false := hrig
  exact (if_neg (by rw [hrig', decide_eq_false hstate]; exact Bool.false_ne_true)).trans (congrArg (·.timingApply n (s.scnShadow n)) (psrExit_awake hawake))

section
variable (s : State) (n : Fin 4) (w : ScnTiming)

theorem timingInForce_only : OnlyRegsOcc (s.setScn n { s.scnOf n with tim := w, checked := false, skip := 2 }) (s.timingInForce n w) :=
  (((OnlyRegsOcc.refl _).wr _ _).wr _ _).raise _ _ _

theorem timingInForce_frame : s.timingInForce n w =
    { s with regs := (s.timingInForce n w).regs, scn := (s.timingInForce n w).scn, occ := (s.timingInForce n w).occ } := by
  have h := timingInForce_only s n w
  rw [OnlyRegsOcc] at h
  rw [h]
  rfl

theorem scnOf_timingInForce : (s.timingInForce n w).scnOf n = { s.scnOf n with tim := w, checked := false, skip := 2 } := State.scnOf_setScn s n _

/-- The registers and the event of a timing write in force. -/
theorem timingInForce_shows {t : State} (ht : s.timingInForce n w = t) : t.rd (SCN_TW_GEN n) = s.rd (SCN_TW_GEN n) + 1 ∧
    t.rd (SCN_WAKE_STATUS n) = s.rd (SCN_WAKE_STATUS n) &&& 1 ∧ Raised s t 432 (0x0700 + n) (w32 n.val) ∧
    RegsBut s t ((SCN_TW_GEN n).off :: (SCN_WAKE_STATUS n).off :: evRegs 432) := by
  have hdiff : (SCN_WAKE_STATUS n).off ≠ (SCN_TW_GEN n).off := by simp only [SCN_WAKE_STATUS, SCN_TW_GEN]; omega
  have hgen := scanReg_ev (o := (SCN_TW_GEN n).off) (ev := 432) (by simp only [SCN_TW_GEN]; omega) (by decide)
  have hwake := scanReg_ev (o := (SCN_WAKE_STATUS n).off) (ev := 432) (by simp only [SCN_WAKE_STATUS]; omega) (by decide)
  rw [State.timingInForce] at ht
  generalize hx : s.setScn n { s.scnOf n with tim := w, checked := false, skip := 2 } = x at ht
  have hxregs : x.regs = s.regs := by rw [← hx]; rfl
  have hrd (r : Reg) : x.rd r = s.rd r := ((RegsBut.refl s []).congr hxregs).rd List.not_mem_nil
  generalize hy : x.wr (SCN_WAKE_STATUS n) (x.rd (SCN_WAKE_STATUS n) &&& 1) = y at ht
  have hregs : RegsBut s (y.incWrap (SCN_TW_GEN n)) [(SCN_TW_GEN n).off, (SCN_WAKE_STATUS n).off] := by
    have hxy : RegsBut s y [(SCN_TW_GEN n).off, (SCN_WAKE_STATUS n).off] := hy ▸ ((RegsBut.refl s _).congr hxregs).wr _ _
    exact hxy.wr _ _
  have hocc : (y.incWrap (SCN_TW_GEN n)).occ = s.occ := by rw [← hy, ← hx]; rfl
  rw [← ht]
  refine ⟨?_, ?_, State.raised_raise 432 _ _ hocc (hregs.rd (by simpa using ⟨hgen.1.symm, hwake.1.symm⟩)), (hregs.mono (by simp)).raise 432 _ _ (by simp)⟩
  · rw [State.rd_raise _ _ _ _ hgen.1 hgen.2, State.incWrap_eq, State.rd_wr_self, ← hy, State.rd_wr_ne _ _ hdiff.symm, hrd]
  · rw [State.rd_raise _ _ _ _ hwake.1 hwake.2, State.incWrap_eq, State.rd_wr_ne _ _ hdiff, ← hy, State.rd_wr_self, hrd]

end

/-! ### A frame in progress is truncated -/

/-- The registers below those of scan-out: with them the compositor's and the events'. -/
def BelowScan (o : Nat) : Prop := o < 0x2600000

theorem belowScan_ev {ev : Nat} (hev : ev < 1024) : ∀ o, o ∈ evRegs ev → BelowScan o := by
  simp only [evRegs, EVT_R_CNT, EVT_R_LAST, BelowScan, List.mem_cons, List.not_mem_nil, or_false, forall_eq_or_imp, forall_eq]
  omega

/-- What truncating a compositor's frame may change: its own state and registers, and an event. -/
def TruncFrame (s t : State) : Prop := t = { s with regs := t.regs, cmp := t.cmp, occ := t.occ } ∧ RegsIn BelowScan s t

theorem TruncFrame.refl (s : State) : TruncFrame s s := ⟨rfl, RegsIn.refl _ s⟩

theorem TruncFrame.setCmp {s t : State} (h : TruncFrame s t) (n : Nat) (c : Cmp) : TruncFrame s (t.setCmp n c) := by
  obtain ⟨hframe, hregs⟩ := h
  refine ⟨?_, hregs.congr⟩
  rw [hframe]
  rfl

theorem TruncFrame.only {s t u : State} (h : TruncFrame s t) (honly : OnlyRegsOcc t u) (hregs : RegsIn BelowScan t u) : TruncFrame s u := by
  refine ⟨?_, h.2.trans hregs⟩
  rw [OnlyRegsOcc] at honly
  rw [honly, h.1]

theorem TruncFrame.foldl {α : Type} {s : State} {f : State → α → State} : ∀ (as : List α) {t : State}, (∀ u a, a ∈ as → TruncFrame s u → TruncFrame s (f u a)) →
    TruncFrame s t → TruncFrame s (as.foldl f t)
  | [], _, _, h => h
  | a :: as, _, hf, h => TruncFrame.foldl as (fun u b hb => hf u b (List.mem_cons_of_mem _ hb)) (hf _ a (List.mem_cons_self ..) h)

/-- The paintings that are due are counted as skipped. -/
def State.skipDue (s : State) (n : Nat) : State :=
  (List.range 16).foldl (fun u b => if (tabGet (s.cmpOf n).buoys {} b).due then u.incFld (CMP_B_STATUS n b) CMP_B_STATUS_SKIPPED else u) s

theorem skipDue_frame (s : State) (n : Fin 4) : TruncFrame s (s.skipDue n) := by
  have h4 := n.isLt
  refine TruncFrame.foldl _ (fun u k hk hu => ?_) (TruncFrame.refl s)
  have hk16 := List.mem_range.1 hk
  split
  · exact hu.only ((OnlyRegsOcc.refl u).setFld _ _ _) ((RegsIn.refl _ u).wr _ _ (by simp only [BelowScan, CMP_B_STATUS]; omega))
  · exact hu

theorem wbDrop_frame {s b : State} (n : Fin 4) (h : TruncFrame s b) : TruncFrame s (b.wbDrop n) := by
  have hregs : RegsBut b (b.wbDrop n) ((CMP_WB_DROP n).off :: evRegs 421) := ((RegsBut.refl b _).inc _ _).raise _ _ _
  refine h.only (((OnlyRegsOcc.refl b).inc _ _).raise _ _ _) (hregs.regsIn fun o ho => ?_)
  rcases List.mem_cons.1 ho with rfl | hev
  · simp only [BelowScan, CMP_WB_DROP]; omega
  · exact belowScan_ev (by decide) o hev

/-- With no frame of its compositor open nothing is truncated. -/
theorem cmpTruncate_closed {s : State} {n : Nat} (h : (s.cmpOf n).open_ = false) : s.cmpTruncate n = s := if_pos (by rw [h]; rfl)

theorem cmpTruncate_open {s d : State} {n : Nat} (h : (s.cmpOf n).open_ = true) (hd : (if (s.cmpOf n).wb.isSome then (s.skipDue n).wbDrop n else s.skipDue n) = d) :
    s.cmpTruncate n = d.setCmp n { d.cmpOf n with open_ := false, wb := none, lines := [] } := by
  rw [State.skipDue] at hd
  unfold State.cmpTruncate
  dsimp only
  rw [if_neg (by rw [h]; exact Bool.false_ne_true), hd]

theorem cmpTruncate_frame (s : State) (n : Fin 4) : TruncFrame s (s.cmpTruncate n) := by
  cases hopen : (s.cmpOf n).open_ with
  | false => rw [cmpTruncate_closed hopen]; exact TruncFrame.refl s
  | true =>
    have hdrop : TruncFrame s (if (s.cmpOf n).wb.isSome then (s.skipDue n).wbDrop n else s.skipDue n) := by
      split
      · exact wbDrop_frame n (skipDue_frame s n)
      · exact skipDue_frame s n
    rw [cmpTruncate_open hopen rfl]
    exact hdrop.setCmp n _

/-- The end of a frame of scan-out that is truncated. -/
theorem scnTruncate_shows (s : State) (n : Fin 4) {t : State} (ht : s.scnTruncate n = t) : (t.scnOf n).open_ = false ∧ (t.scnOf n).tim = (s.scnOf n).tim ∧
    t.rd (SCN_TW_GEN n) = s.rd (SCN_TW_GEN n) ∧
    t.rd (SCN_TRUNC_CNT n) = (if (s.scnOf n).open_ then satAdd (s.rd (SCN_TRUNC_CNT n)) 1 else s.rd (SCN_TRUNC_CNT n)) := by
  rw [State.scnTruncate] at ht
  cases hopen : (s.scnOf n).open_ with
  | false =>
    rw [hopen, if_neg Bool.false_ne_true] at ht
    rw [← ht]
    exact ⟨hopen, rfl, rfl, rfl⟩
  | true =>
    rw [hopen, if_pos rfl] at ht
    obtain ⟨-, hregs⟩ := cmpTruncate_frame (s.inc (SCN_TRUNC_CNT n) 1) n
    generalize hu : (s.inc (SCN_TRUNC_CNT n) 1).cmpTruncate n = u at ht hregs
    have hdiff : (SCN_TW_GEN n).off ≠ (SCN_TRUNC_CNT n).off := by simp only [SCN_TW_GEN, SCN_TRUNC_CNT]; omega
    have hx : t.scnOf n = { s.scnOf n with open_ := false, checked := false } := by
      rw [← ht]
      exact State.scnOf_setScn u n _
    have hrd (r : Reg) (hr : ¬ BelowScan r.off) : t.rd r = (s.inc (SCN_TRUNC_CNT n) 1).rd r := by
      rw [← hregs.rd hr, ← ht]
      rfl
    refine ⟨by rw [hx], by rw [hx], ?_, ?_⟩
    · rw [hrd _ (by simp only [BelowScan, SCN_TW_GEN]; omega), State.inc_eq, State.rd_wr_ne _ _ hdiff]
    · rw [hrd _ (by simp only [BelowScan, SCN_TRUNC_CNT]; omega), State.inc_eq, State.rd_wr_self, if_pos rfl]

theorem timingWrite_runs {n : Fin 4} {s t : State} (hreach : Reach s (SCN_CTRL n)) (h : s.settle (s.timingGo n) = t) {P : State → Prop} (hP : P t) :
    Runs (.timingWrite n 1) s P := Runs.next (exec_hostDo hreach h) hP

theorem timingWrites : TimingWrites := by
  unfold TimingWrites
  intro n s hreach t0 pll
  have h4 := n.isLt
  refine ⟨fun k hcheck => timingWrite_runs hreach (by rw [timingGo_refused hcheck]; exact settle_timingRefuse s n k) (timingRefused s n k rfl),
    fun hcheck hstate => ?_, fun hcheck hstate hawake hrig hpll => ?_, fun hcheck hstate hrig hpll => ?_⟩
  · obtain ⟨hcode, -, hraised, -, hframe⟩ := timingRefused s n 0x0503 rfl
    refine timingWrite_runs hreach (by rw [timingGo_held hcheck hstate]; exact settle_timingRefuse s n 0x0503) ⟨hcode, ?_, hraised⟩
    rw [hframe]
    rfl
  · have hsame : (!(t0.div != (s.scnOf n).tim.div || t0.frac != (s.scnOf n).tim.frac)) = true := by
      obtain ⟨hdiv, hfrac⟩ := not_or.1 hpll
      rw [not_not.1 hdiv, not_not.1 hfrac, bne_self_eq_false, bne_self_eq_false]
      rfl
    have happly : s.timingApply n t0 = s.timingInForce n t0 := by
      rw [timingApply_eq]
      exact if_pos (by rw [hsame]; rfl)
    have hsettle : s.settle (s.timingGo n) = s.timingInForce n t0 := by
      rw [timingGo_applies hcheck hstate hawake hrig, happly]
      exact State.settle_raise _ _ _ rfl
    obtain ⟨hgen, hwake, hraised, hregs⟩ := timingInForce_shows s n t0 rfl
    exact timingWrite_runs hreach hsettle ⟨scnOf_timingInForce s n t0, hgen, hwake, hraised, hregs, timingInForce_frame s n t0⟩
  · have hother : (!(t0.div != (s.scnOf n).tim.div || t0.frac != (s.scnOf n).tim.frac)) = false := by
      rcases hpll with hdiv | hfrac
      · rw [bne_iff_ne.2 hdiv]
        rfl
      · rw [bne_iff_ne.2 hfrac, Bool.or_true]
        rfl
    have happly : s.timingApply n t0 = (s.timingInForce n t0).timingHold n false := by
      rw [timingApply_eq, if_neg (by rw [hother, hstate]; decide), if_neg (by rw [hstate]; decide), hstate]
      rfl
    obtain ⟨hgen, -, -, hregs⟩ := timingInForce_shows s n t0 rfl
    obtain ⟨hclosed, htim, hgenT, htrunc⟩ := scnTruncate_shows (s.timingInForce n t0) n rfl
    have hx := scnOf_timingInForce s n t0
    generalize s.timingInForce n t0 = f at *
    generalize hu : f.scnTruncate n = u at *
    have hscn : (f.timingHold n false).scnOf n = { u.scnOf n with stopAfter := false } := by
      rw [State.timingHold, hu]
      exact State.scnOf_setScn u n _
    have hrd (r : Reg) (hr : r.off ≠ (SCN_STATUS n).off) : (f.timingHold n false).rd r = u.rd r := by
      rw [State.timingHold, hu]
      exact State.rd_setFld_ne _ _ _ hr
    refine timingWrite_runs hreach (t := s.settle (f.timingHold n false)) (by rw [timingGo_applies hcheck (by rw [hstate]; decide) (by rw [hstate]; decide) hrig, happly])
      ⟨State.scnState_setScnState _ n (by decide), ?_, ?_, ?_, ?_⟩
    · exact (congrArg Scn.tim hscn).trans (htim.trans (congrArg Scn.tim hx))
    · exact (congrArg Scn.open_ hscn).trans hclosed
    · rw [State.rd_settle, hrd _ (by simp only [SCN_TW_GEN, SCN_STATUS]; omega), hgenT, hgen]
    · have hcnt : f.rd (SCN_TRUNC_CNT n) = s.rd (SCN_TRUNC_CNT n) := hregs.rd (by
        simp only [evRegs, SCN_TRUNC_CNT, SCN_TW_GEN, SCN_WAKE_STATUS, EVT_R_CNT, EVT_R_LAST, List.mem_cons, List.not_mem_nil, or_false, not_or]
        omega)
      rw [State.rd_settle, hrd _ (by simp only [SCN_TRUNC_CNT, SCN_STATUS]; omega), htrunc, hcnt, hx]

/-! ### Stops and starts -/

theorem psrExit_asleep {s : State} {n : Nat} (h : s.scnState n = 5) : s.psrExit n =
    ((s.setScnState n (if (s.scnOf n).stopAfter then 3 else 1)).setScn n { s.scnOf n with
      idle := 0, fresh := true, stopAfter := false, waitSlot := s.fld (SCN_SYNC n) SCN_SYNC_MODE == 1 }).raise 442 (0x0700 + n) := if_pos h

theorem psrExit_shows {n : Fin 4} {s : State} (h5 : s.scnState n = 5) {t : State} (ht : s.psrExit n = t) :
    t.scnState n = (if (s.scnOf n).stopAfter then 3 else 1) ∧ (t.scnOf n).fresh = true ∧ Raised s t 442 (0x0700 + n) 0 ∧
      RegsBut s t ((SCN_STATUS n).off :: evRegs 442) ∧ t = { s with regs := t.regs, scn := t.scn, occ := t.occ } ∧ s.settle t = t := by
  have hev := scanReg_ev (o := (SCN_STATUS n).off) (ev := 442) (by simp only [SCN_STATUS]; omega) (by decide)
  rw [psrExit_asleep h5] at ht
  generalize hx : ({ s.scnOf n with idle := 0, fresh := true, stopAfter := false, waitSlot := s.fld (SCN_SYNC n) SCN_SYNC_MODE == 1 } : Scn) = x at ht
  generalize hu : (s.setScnState n (if (s.scnOf n).stopAfter then 3 else 1)).setScn n x = u at ht
  have hregs : RegsBut s u [(SCN_STATUS n).off] := hu ▸ ((RegsBut.refl s _).setFld (SCN_STATUS n) _ _).congr
  have hocc : u.occ = s.occ := by rw [← hu]; rfl
  have honly : OnlyRegs (s.setScn n x) u := by rw [← hu]; rfl
  have hscn : (u.raise 442 (0x0700 + n)).scnOf n = x := by rw [State.scnOf, State.raise_scn, ← hu]; exact State.scnOf_setScn _ n x
  rw [← ht]
  refine ⟨?_, by rw [hscn, ← hx], State.raised_raise 442 _ _ hocc (hregs.rd (by simpa using hev.1.symm)), (hregs.mono (by simp)).raise 442 _ _ (by simp), ?_,
    State.settle_raise _ _ _ hocc⟩
  · rw [State.scnState_eq, State.rd_raise _ _ _ _ hev.1 hev.2, ← hu]
    exact State.scnState_setScnState s n (by split <;> decide)
  · have honly' := honly.regsOcc.raise 442 (0x0700 + n.val) []
    rw [OnlyRegsOcc] at honly'
    rw [honly']
    rfl

theorem scanStopsAndStarts : ScanStopsAndStarts := by
  unfold ScanStopsAndStarts
  intro n s hreach
  have hsame {t : State} (ht : t.occ = s.occ) : s.settle t = t := State.settle_same ht
  refine ⟨fun h1 => exec_hostDo hreach ?_, fun h2 => exec_hostDo hreach ?_, fun h34 => exec_hostDo hreach ?_, fun h4 => exec_hostDo hreach ?_,
    fun h4 => exec_hostDo hreach ?_, fun h5 => exec_hostDo hreach ?_, fun h5 => ?_⟩
  · rw [scnCtrlWrite_stop, State.softStop, h1]
    exact hsame rfl
  · rw [scnCtrlWrite_stop, State.softStop, h2]
    exact hsame rfl
  · rw [scnCtrlWrite_stop, State.softStop]
    rcases h34 with h | h
    · rw [h]; exact hsame rfl
    · rw [h]; exact hsame rfl
  · rw [scnCtrlWrite_start, h4]
    exact hsame rfl
  · rw [scnCtrlWrite_start, if_neg (by simpa using h4)]
    exact hsame rfl
  · rw [scnCtrlWrite_psrExit, psrExit_awake h5]
    exact hsame rfl
  · obtain ⟨hstate, hfresh, hraised, hregs, hframe, hsettle⟩ := psrExit_shows h5 rfl
    exact Runs.next (exec_hostDo hreach ((congrArg s.settle (scnCtrlWrite_psrExit s n)).trans hsettle)) ⟨hstate, hfresh, hraised, hregs, hframe⟩

/-- Settles O29: SCN_CTRL as one register, timing writes, and the stops and starts of a head. -/
theorem scanTiming : Obligations.ScanTiming := by
  unfold Obligations.ScanTiming
  exact ⟨scanCtrlIsOneRegister, timingWrites, scanStopsAndStarts⟩

end Sys2Proof.Machine
end

section
/-! PROOFS. Scan-out: the end of HOLD, frame starts, and output lines (R123, R277, R281 to R285, R287, R289, R291). -/

-- One proof at a time: the text is compiled as one file in bounded memory.
set_option Elab.async false

namespace Sys2Proof.Machine
open Sys2Proof.Claims

/-! ### The end of HOLD -/

/-- The events of HOLD's end stand before the status of the head is written. -/
theorem held_raised {n : Fin 4} {s u t : State} {ev : Nat} {v : Word} {os : List Nat} (hraised : Raised s u ev (0x0700 + n) v) (hregs : RegsBut s u os)
    (hev : ev < 1024) (hocc : t.occ = u.occ) (hbut : RegsBut u t [(SCN_STATUS n).off]) (hmem : (SCN_STATUS n).off ∈ os) :
    Raised s t ev (0x0700 + n) v ∧ RegsBut s t os := by
  obtain ⟨hcnt, hlast⟩ := scanReg_ev (o := (SCN_STATUS n).off) (ev := ev) (by simp only [SCN_STATUS]; omega) hev
  exact ⟨hraised.later hocc hbut (by simpa using hcnt.symm) (by simpa using hlast.symm), hregs.trans (hbut.mono (by simpa using hmem))⟩

/-- The PLL has locked: the relock counts, event 434 goes out with its time, and the requests of the HOLD are taken back. -/
def State.relocked (s : State) (n : Nat) (us : Byte) : State :=
  ((s.inc (SCN_RELOCK_CNT n)).raise 434 (scnBid n) [w32 us.toNat]).setScn n { s.scnOf n with black := false, stopAfter := false }

theorem relocked_shows (s : State) (n : Fin 4) (us : Byte) {u : State} (hu : s.relocked n us = u) : Raised s u 434 (0x0700 + n) (w32 us.toNat) ∧
    RegsBut s u ((SCN_STATUS n).off :: (SCN_RELOCK_CNT n).off :: evRegs 434) ∧ u.rd (SCN_RELOCK_CNT n) = satAdd (s.rd (SCN_RELOCK_CNT n)) 1 ∧
    u.scnOf n = { s.scnOf n with black := false, stopAfter := false } ∧ u = { s with regs := u.regs, scn := u.scn, occ := u.occ } ∧
    ∃ o, u.occ = s.occ ++ [o] := by
  have hev := scanReg_ev (o := (SCN_RELOCK_CNT n).off) (ev := 434) (by simp only [SCN_RELOCK_CNT]; omega) (by decide)
  rw [State.relocked] at hu
  generalize hr : (s.inc (SCN_RELOCK_CNT n)).raise 434 (scnBid n) [w32 us.toNat] = r at hu
  have hregs : RegsBut s (s.inc (SCN_RELOCK_CNT n)) [(SCN_RELOCK_CNT n).off] := (RegsBut.refl s _).inc _ _
  have hraised : Raised s r 434 (0x0700 + n) (w32 us.toNat) := hr ▸ State.raised_raise 434 _ _ rfl (hregs.rd (by simpa using hev.1.symm))
  have hbut : RegsBut s r ((SCN_STATUS n).off :: (SCN_RELOCK_CNT n).off :: evRegs 434) := hr ▸ (hregs.mono (by simp)).raise 434 _ _ (by simp)
  have honly : OnlyRegsOcc s r := hr ▸ ((OnlyRegsOcc.refl s).inc _ _).raise _ _ _
  have hocc : ∃ o, r.occ = s.occ ++ [o] := ⟨_, by rw [← hr, State.raise_occ]; rfl⟩
  have hcnt : r.rd (SCN_RELOCK_CNT n) = satAdd (s.rd (SCN_RELOCK_CNT n)) 1 := by
    rw [← hr, State.rd_raise _ _ _ _ hev.1 hev.2, State.inc_eq, State.rd_wr_self]
  rw [← hu]
  refine ⟨hraised, hbut, hcnt, State.scnOf_setScn r n _, ?_, hocc⟩
  rw [OnlyRegsOcc] at honly
  rw [honly]
  rfl

theorem pllLocked_eq {n : Fin 4} {us : Byte} {s u : State} (hstate : s.scnState n = 2) (hu : s.relocked n us = u) : exec (.scnPllLocked n us) s = .next (s.settle
    (if (s.scnOf n).black then u.setScnState n 4
      else if (s.scnOf n).stopAfter then u.scnStopped n
      else if (u.setScnState n 1).fld (SCN_SYNC n) SCN_SYNC_MODE = 1 then (u.setScnState n 1).setScn n { (u.setScnState n 1).scnOf n with waitSlot := true }
      else (u.setScnState n 1).scnFrameStart n)) := by
  subst hu
  exact congrArg Host.Outcome.next (if_neg (not_not.2 hstate))

theorem pllLocked_black {n : Fin 4} {us : Byte} {s : State} (h2 : s.scnState n = 2) (hblack : (s.scnOf n).black = true) : Runs (.scnPllLocked n us) s (fun t =>
    t.scnState n = 4 ∧ t.rd (SCN_RELOCK_CNT n) = satAdd (s.rd (SCN_RELOCK_CNT n)) 1 ∧ Raised s t 434 (0x0700 + n) (w32 us.toNat) ∧
    (t.scnOf n).black = false ∧ RegsBut s t ((SCN_STATUS n).off :: (SCN_RELOCK_CNT n).off :: evRegs 434) ∧
    t = { s with regs := t.regs, scn := t.scn, occ := t.occ }) := by
  generalize hu : s.relocked n us = u
  obtain ⟨hraised, hregs, hcnt, hx, hframe, o, hocc⟩ := relocked_shows s n us hu
  have heq := pllLocked_eq h2 hu
  rw [if_pos hblack, State.settle_one (t := u.setScnState n 4) (o := o) hocc] at heq
  have hbut : RegsBut u (u.setScnState n 4) [(SCN_STATUS n).off] := (RegsBut.refl u _).setFld (SCN_STATUS n) _ _
  obtain ⟨hraisedT, hregsT⟩ := held_raised (t := u.setScnState n 4) hraised hregs (by decide) rfl hbut (List.mem_cons_self ..)
  refine Runs.next heq ⟨State.scnState_setScnState _ n (by decide), ?_, hraisedT, ?_, hregsT, ?_⟩
  · rw [hbut.rd (by simp only [SCN_RELOCK_CNT, SCN_STATUS, List.mem_singleton]; omega), hcnt]
  · exact congrArg Scn.black hx
  · rw [hframe]
    rfl

theorem pllLocked_slotLocked {n : Fin 4} {us : Byte} {s : State} (h2 : s.scnState n = 2) (hblack : (s.scnOf n).black = false)
    (hstop : (s.scnOf n).stopAfter = false) (hmode : s.fld (SCN_SYNC n) SCN_SYNC_MODE = 1) : Runs (.scnPllLocked n us) s (fun t =>
    t.scnState n = 1 ∧ (t.scnOf n).waitSlot = true ∧ Raised s t 434 (0x0700 + n) (w32 us.toNat) ∧
      RegsBut s t ((SCN_STATUS n).off :: (SCN_RELOCK_CNT n).off :: evRegs 434) ∧ t = { s with regs := t.regs, scn := t.scn, occ := t.occ }) := by
  generalize hu : s.relocked n us = u
  obtain ⟨hraised, hregs, -, -, hframe, o, hocc⟩ := relocked_shows s n us hu
  have hbut : RegsBut u (u.setScnState n 1) [(SCN_STATUS n).off] := (RegsBut.refl u _).setFld (SCN_STATUS n) _ _
  have hmodeU : (u.setScnState n 1).fld (SCN_SYNC n) SCN_SYNC_MODE = 1 := by
    rw [State.fld, (hregs.trans (hbut.mono (by simp))).rd]
    · exact hmode
    · simp only [evRegs, SCN_SYNC, SCN_STATUS, SCN_RELOCK_CNT, EVT_R_CNT, EVT_R_LAST, List.mem_cons, List.not_mem_nil, or_false, not_or]
      omega
  have heq := pllLocked_eq h2 hu
  rw [if_neg (by rw [hblack]; exact Bool.false_ne_true), if_neg (by rw [hstop]; exact Bool.false_ne_true), if_pos hmodeU,
    State.settle_one (t := (u.setScnState n 1).setScn n _) (o := o) hocc] at heq
  obtain ⟨hraisedT, hregsT⟩ := held_raised (t := u.setScnState n 1) hraised hregs (by decide) rfl hbut (List.mem_cons_self ..)
  have hstate : (u.setScnState n 1).scnState n = 1 := State.scnState_setScnState _ n (by decide)
  have hframeT : u.setScnState n 1 = { s with regs := (u.setScnState n 1).regs, scn := u.scn, occ := u.occ } := by rw [hframe]; rfl
  generalize u.setScnState n 1 = v at *
  refine Runs.next heq ⟨hstate, by rw [State.scnOf_setScn], hraisedT.later (os := []) rfl (RegsBut.refl v _) (by simp) (by simp), hregsT.congr, ?_⟩
  rw [hframeT]
  rfl

/-- A head's reason to stop is kept, or set where none stands. -/
theorem stopReason_kept (s : State) (n : Fin 4) {k : Nat} (hk : k < 256) {t : State}
    (ht : (if s.fld (SCN_STATUS n) SCN_STATUS_STOP_REASON = 0 then s.setFld (SCN_STATUS n) SCN_STATUS_STOP_REASON k else s) = t) :
    t.fld (SCN_STATUS n) SCN_STATUS_STOP_REASON = (if s.fld (SCN_STATUS n) SCN_STATUS_STOP_REASON = 0 then k else s.fld (SCN_STATUS n) SCN_STATUS_STOP_REASON) ∧
      RegsBut s t [(SCN_STATUS n).off] ∧ OnlyRegs s t := by
  rw [← ht]
  refine ⟨?_, RegsBut.ite ((RegsBut.refl s _).setFld _ _ _) (RegsBut.refl s _), OnlyRegs.ite ((OnlyRegs.refl s).setFld _ _ _) (OnlyRegs.refl s)⟩
  split
  · exact (State.fld_setFld_self s (SCN_STATUS n) SCN_STATUS_STOP_REASON k).trans (Nat.mod_eq_of_lt hk)
  · rfl

/-- A head stops with a reason and an event: its status, and the event. -/
theorem stopped_shows {s u : State} {n : Fin 4} {reason ev : Nat} {x : Scn} (hev : ev < 1024)
    (hreason : u.fld (SCN_STATUS n) SCN_STATUS_STOP_REASON = reason) (hregs : RegsBut s u [(SCN_STATUS n).off]) (honly : OnlyRegs s u) {t : State}
    (ht : ((u.setScn n x).setScnState n 4).raise ev (0x0700 + n) = t) :
    t.scnState n = 4 ∧ Raised s t ev (0x0700 + n) 0 ∧ t.fld (SCN_STATUS n) SCN_STATUS_STOP_REASON = reason ∧
      RegsBut s t ((SCN_STATUS n).off :: evRegs ev) ∧ t = { s with regs := t.regs, scn := t.scn, occ := t.occ } := by
  obtain ⟨hcnt, hlast⟩ := scanReg_ev (o := (SCN_STATUS n).off) (ev := ev) (by simp only [SCN_STATUS]; omega) hev
  generalize hv : (u.setScn n x).setScnState n 4 = v at ht
  have hregsV : RegsBut s v [(SCN_STATUS n).off] := hv ▸ (hregs.congr (u := u.setScn n x) rfl).setFld (SCN_STATUS n) _ _
  have hocc : v.occ = s.occ := by rw [← hv]; exact honly.occ
  have hstate : v.scnState n = 4 := by rw [← hv]; exact State.scnState_setScnState _ n (by decide)
  have hkept : v.fld (SCN_STATUS n) SCN_STATUS_STOP_REASON = reason := by
    rw [← hv, ← hreason]
    exact State.fld_setFld_ne (u.setScn n x) (SCN_STATUS n) (f := SCN_STATUS_STATE) (g := SCN_STATUS_STOP_REASON) 4
  have hv' : v = { s with regs := v.regs, scn := v.scn } := by
    have hvu : v = { u with regs := v.regs, scn := v.scn } := by rw [← hv]; rfl
    rw [OnlyRegs] at honly
    rw [hvu, honly]
  rw [← ht]
  refine ⟨?_, State.raised_raise ev _ _ hocc (hregsV.rd (by simpa using hcnt.symm)), ?_, (hregsV.mono (by simp)).raise ev _ _ (by simp), ?_⟩
  · rw [State.scnState_eq, State.rd_raise _ _ _ _ hcnt hlast]
    exact hstate
  · rw [State.fld, State.rd_raise _ _ _ _ hcnt hlast]
    exact hkept
  · have hraise : OnlyRegsOcc v (v.raise ev (0x0700 + n)) := (OnlyRegsOcc.refl v).raise _ _ _
    rw [OnlyRegsOcc] at hraise
    rw [hraise, hv']

theorem holdEnds : HoldEnds := by
  unfold HoldEnds
  intro n us s
  refine ⟨fun h2 => ⟨congrArg Host.Outcome.next (if_pos h2), congrArg Host.Outcome.next (if_pos h2)⟩, fun h2 hblack => pllLocked_black h2 hblack,
    fun h2 hblack hstop hmode => pllLocked_slotLocked h2 hblack hstop hmode, fun h2 => ?_, fun hmode hon => ?_⟩
  · generalize hu : (if s.fld (SCN_STATUS n) SCN_STATUS_STOP_REASON = 0 then s.setFld (SCN_STATUS n) SCN_STATUS_STOP_REASON 2 else s) = u
    have hrun : exec (.scnRelockTimeout n) s =
        .next (((u.setScn n { u.scnOf n with black := false, stopAfter := false }).setScnState n 4).raise 435 (0x0700 + n)) := by
      rw [← hu]
      exact congrArg Host.Outcome.next (if_neg (not_not.2 h2))
    obtain ⟨hreason, hregs, honly⟩ := stopReason_kept s n (by decide) hu
    exact Runs.next hrun (stopped_shows (by decide) hreason hregs honly rfl)
  · have hrun : exec (.scnDeliveryTimeout n) s =
        .next (((s.setBit (SCN_STATUS n) SCN_STATUS_LOCKED false).setScn n { s.scnOf n with lockRun := 0 }).raise 438 (0x0700 + n)) :=
      congrArg Host.Outcome.next (if_pos (by rw [hmode, hon]; rfl))
    generalize hx : ({ s.scnOf n with lockRun := 0 } : Scn) = x at *
    generalize hu : (s.setBit (SCN_STATUS n) SCN_STATUS_LOCKED false).setScn n x = u at hrun
    obtain ⟨hcnt, hlast⟩ := scanReg_ev (o := (SCN_STATUS n).off) (ev := 438) (by simp only [SCN_STATUS]; omega) (by decide)
    have hregs : RegsBut s u [(SCN_STATUS n).off] := hu ▸ ((RegsBut.refl s _).setBit (SCN_STATUS n) _ _).congr
    have hocc : u.occ = s.occ := by rw [← hu]; rfl
    refine Runs.next hrun ⟨?_, ?_, State.raised_raise 438 _ _ hocc (hregs.rd (by simpa using hcnt.symm)), (hregs.mono (by simp)).raise 438 _ _ (by simp), ?_⟩
    · rw [State.bit, State.rd_raise _ _ _ _ hcnt hlast, ← hu]
      exact State.bit_setBit_self s _ SCN_STATUS_LOCKED false
    · rw [State.scnOf, State.raise_scn, ← hu]
      exact State.scnOf_setScn _ n x
    · have hraise : OnlyRegsOcc u (u.raise 438 (0x0700 + n)) := (OnlyRegsOcc.refl u).raise _ _ _
      have hus : u = { s with regs := u.regs, scn := u.scn } := by rw [← hu]; rfl
      rw [OnlyRegsOcc] at hraise
      rw [hraise, hus]

/-! ### Frame starts -/

/-- The registers a frame start may write before what it sends is read: below scan-out, the head's status, and its frame count. -/
def NotSent (n o : Nat) : Prop := BelowScan o ∨ o = (SCN_STATUS n).off ∨ o = (SCN_FRAME n).off

theorem notSent_pkt {n o : Nat} (h : 0x2600000 + n * 0x10000 + 0x70 ≤ o) : ¬ NotSent n o := by
  simp only [NotSent, BelowScan, SCN_STATUS, SCN_FRAME]
  omega

section
variable {s u : State} {n : Nat} (hregs : RegsIn (NotSent n) s u)
include hregs

theorem scnPackets_congr : u.scnPackets n = s.scnPackets n := by
  have hhdr (t : Nat) : u.rd (SCN_PKT_HDR n t) = s.rd (SCN_PKT_HDR n t) := hregs.rd (notSent_pkt (by simp only [SCN_PKT_HDR]; omega))
  have hpay (t i : Nat) : u.rd (SCN_PKT_PAY n t i) = s.rd (SCN_PKT_PAY n t i) := hregs.rd (notSent_pkt (by simp only [SCN_PKT_PAY]; omega))
  have hcfg : u.fld (SCN_CFG n) SCN_CFG_PROTO = s.fld (SCN_CFG n) SCN_CFG_PROTO := by
    rw [State.fld, hregs.rd (by simp only [NotSent, BelowScan, SCN_CFG, SCN_STATUS, SCN_FRAME]; omega)]
    rfl
  simp only [State.scnPackets, hhdr, hpay, hcfg]

theorem scnCfg_congr : u.rd (SCN_CFG n) = s.rd (SCN_CFG n) := hregs.rd (by simp only [NotSent, BelowScan, SCN_CFG, SCN_STATUS, SCN_FRAME]; omega)

theorem scnId_congr (htim : (u.scnOf n).tim = (s.scnOf n).tim) : u.scnId n = s.scnId n := by
  have hst : u.rd (SCN_ST352 n) = s.rd (SCN_ST352 n) := hregs.rd (notSent_pkt (by simp only [SCN_ST352]; omega))
  simp only [State.scnId, hst, htim, scnCfg_congr hregs]

end

/-- The output that a frame start of a state sends. -/
def frameOut (s : State) (n : Nat) : Out := .scanFrame n (s.rd (SCN_FRAME n) + 1)
  (if s.fld (SCN_CFG n) SCN_CFG_PROTO = 1 ∧ (s.rd (SCN_TC n)).getLsbD 31 = true then some (s.rd (SCN_TC n) &&& 0x3FFFFFFF) else none)
  (if s.fld (SCN_CFG n) SCN_CFG_PROTO = 1 then s.scnId n else 0) (s.scnPackets n)

/-- A frame is sent: its count and its output, with the head's frame open at line 0. -/
def FrameSent (s t : State) (n : Nat) : Prop := t.rd (SCN_FRAME n) = s.rd (SCN_FRAME n) + 1 ∧ t.out = s.out ++ [frameOut s n] ∧
  (t.scnOf n).open_ = true ∧ (t.scnOf n).line = 0 ∧ (t.scnOf n).tc = s.rd (SCN_TC n)

/-- The frame opened after its output has left. -/
theorem scnOpen_eq {u e f : State} {n : Nat} (he : (u.incWrap (SCN_FRAME n)).emit (.scanFrame n ((u.incWrap (SCN_FRAME n)).rd (SCN_FRAME n))
      (if SCN_CFG_PROTO.get ((u.incWrap (SCN_FRAME n)).rd (SCN_CFG n)) = 1 && bitOf ((u.incWrap (SCN_FRAME n)).rd (SCN_TC n)) 31 then
        some ((u.incWrap (SCN_FRAME n)).rd (SCN_TC n) &&& 0x3FFFFFFF) else none)
      (if SCN_CFG_PROTO.get ((u.incWrap (SCN_FRAME n)).rd (SCN_CFG n)) = 1 then (u.incWrap (SCN_FRAME n)).scnId n else 0)
      ((u.incWrap (SCN_FRAME n)).scnPackets n)) = e)
    (hf : (if bitOf ((u.incWrap (SCN_FRAME n)).rd (SCN_TC n)) 30 then e.wr (SCN_TC n) (tcNext (u.scnOf n).tim.fps ((u.incWrap (SCN_FRAME n)).rd (SCN_TC n))) else e) = f) :
    u.scnOpen n = f.setScn n { u.scnOf n with
      open_ := true, line := 0, codes := [], tc := (u.incWrap (SCN_FRAME n)).rd (SCN_TC n), waitSlot := false, skip := (u.scnOf n).skip - 1,
      shown := (u.scnOf n).again, again := [], checked := f.bit (SCN_WAKE_CFG n) SCN_WAKE_CFG_EN && (u.scnOf n).skip == 0 } := by
  subst hf he
  rfl

/-- What opening a frame changes: the frame count, the timecode, the head and the outputs. -/
theorem scnOpen_sent {s u : State} {n : Nat} (hregs : RegsIn (NotSent n) s u) (hcount : u.rd (SCN_FRAME n) = s.rd (SCN_FRAME n)) (hout : u.out = s.out)
    (htim : (u.scnOf n).tim = (s.scnOf n).tim) {t : State} (ht : u.scnOpen n = t) :
    FrameSent s t n ∧ t.scnState n = u.scnState n ∧ (t.scnOf n).startReq = (u.scnOf n).startReq ∧
      RegsBut u t [(SCN_FRAME n).off, (SCN_TC n).off] ∧ t = { u with regs := t.regs, scn := t.scn, out := t.out } := by
  generalize hi : u.incWrap (SCN_FRAME n) = i
  have hiregs : RegsBut u i [(SCN_FRAME n).off] := hi ▸ (RegsBut.refl u _).wr _ _
  have hsi : RegsIn (NotSent n) s i := hregs.trans (hiregs.regsIn fun o ho => Or.inr (Or.inr (List.mem_singleton.1 ho)))
  have hiframe : OnlyRegs u i := hi ▸ (OnlyRegs.refl u).wr _ _
  have hinc : i.rd (SCN_FRAME n) = s.rd (SCN_FRAME n) + 1 := by rw [← hi, State.incWrap_eq, State.rd_wr_self, hcount]
  have htc : i.rd (SCN_TC n) = s.rd (SCN_TC n) := hsi.rd (notSent_pkt (by simp only [SCN_TC]; omega))
  have hsent : (Out.scanFrame n (i.rd (SCN_FRAME n)) (if SCN_CFG_PROTO.get (i.rd (SCN_CFG n)) = 1 && bitOf (i.rd (SCN_TC n)) 31 then
      some (i.rd (SCN_TC n) &&& 0x3FFFFFFF) else none) (if SCN_CFG_PROTO.get (i.rd (SCN_CFG n)) = 1 then i.scnId n else 0) (i.scnPackets n)) = frameOut s n := by
    have hid : i.scnId n = s.scnId n := scnId_congr hsi (by rw [State.scnOf, hiframe.field State.scn]; exact htim)
    rw [hinc, htc, scnCfg_congr hsi, hid, scnPackets_congr hsi]
    simp only [frameOut, State.fld, bitOf, Bool.and_eq_true, decide_eq_true_eq] <;> rfl
  generalize he : i.emit (frameOut s n) = e
  generalize hf : (if bitOf (i.rd (SCN_TC n)) 30 then e.wr (SCN_TC n) (tcNext (u.scnOf n).tim.fps (i.rd (SCN_TC n))) else e) = f
  have heq := scnOpen_eq (u := u) (n := n) (by rw [hi, hsent, he]) (by rw [hi, hf])
  rw [hi, htc, ht] at heq
  have hef : OnlyRegs e f := hf ▸ OnlyRegs.ite ((OnlyRegs.refl e).wr _ _) (OnlyRegs.refl e)
  have hefregs : RegsBut e f [(SCN_TC n).off] := hf ▸ RegsBut.ite ((RegsBut.refl e _).wr _ _) (RegsBut.refl e _)
  have huf : RegsBut u f [(SCN_FRAME n).off, (SCN_TC n).off] := ((hiregs.congr (u := e) (by rw [← he]; rfl)).mono (by simp)).trans (hefregs.mono (by simp))
  have hscn : t.scnOf n = _ := (congrArg (fun v => State.scnOf v n) heq).trans (State.scnOf_setScn f n _)
  have htregs : t.regs = f.regs := by rw [heq]; rfl
  have hut := huf.congr htregs
  have heout : e.out = s.out ++ [frameOut s n] := by rw [← he, ← hout, ← hiframe.field State.out]; rfl
  refine ⟨⟨?_, ?_, by rw [hscn], by rw [hscn], by rw [hscn]⟩, ?_, by rw [hscn], hut, ?_⟩
  · have hft : t.rd (SCN_FRAME n) = f.rd (SCN_FRAME n) := by rw [heq]; rfl
    have hie : e.rd (SCN_FRAME n) = i.rd (SCN_FRAME n) := by rw [← he]; rfl
    rw [hft, hefregs.rd (by simp only [SCN_FRAME, SCN_TC, List.mem_singleton]; omega), hie, hinc]
  · have hfout : t.out = f.out := by rw [heq]; rfl
    rw [hfout, hef.field State.out, heout]
  · rw [State.scnState_eq, hut.rd (by simp only [SCN_FRAME, SCN_TC, SCN_STATUS, List.mem_cons, List.not_mem_nil, or_false, not_or]; omega)]
    rfl
  · rw [OnlyRegs] at hef hiframe
    rw [heq, hef, ← he, hiframe]
    rfl

/-- A head that does not wait for self-refresh starts its idle count again. -/
def State.idleReset (s : State) (n : Nat) : State := (s.setCmp n { s.cmpOf n with chg := false }).setScn n { s.scnOf n with idle := 0 }

theorem psrDecide_awake {s : State} {n : Nat} (h : (s.scnOf n).open_ = false ∨ s.scnState n ≠ 1) : s.psrDecide n = (s.idleReset n, false) := by
  refine if_pos ?_
  rcases h with h | h
  · rw [h]
    rfl
  · rw [bne_iff_ne.2 h, Bool.or_true]

theorem psrDecide_sleeps {s : State} {n : Nat} (h1 : s.scnState n = 1) (hopen : (s.scnOf n).open_ = true) (hproto : s.fld (SCN_CFG n) SCN_CFG_PROTO = 5)
    (hen : s.bit (SCN_PSR n) SCN_PSR_EN = true) (hsink : (s.scnOf n).psrSink = true) (hchg : (s.cmpOf n).chg = false)
    (hidle : max 2 (s.fld (SCN_PSR n) SCN_PSR_IDLE_FRAMES) ≤ (s.scnOf n).idle + 1) : s.psrDecide n =
      (((((s.setCmp n { s.cmpOf n with chg := false }).setScn n { s.scnOf n with idle := 0, open_ := false }).setScnState n 5).inc (SCN_PSR_CNT n)).raise 441
        (scnBid n), true) := by
  have hen' : bitOf (s.rd (SCN_PSR n)) 0 = true := hen
  unfold State.psrDecide
  dsimp only
  rw [if_neg (by rw [hopen, hproto, hen', hsink, h1]; decide)]
  simp only [hchg, Bool.false_eq_true, if_false]
  exact if_pos hidle

/-- What the reset of the idle count changes: nothing that a frame start sends. -/
theorem idleReset_shows (s : State) (n : Nat) {a : State} (ha : s.idleReset n = a) :
    a.regs = s.regs ∧ a.scnOf n = { s.scnOf n with idle := 0 } ∧ a.cmpOf n = { s.cmpOf n with chg := false } ∧ a = { s with scn := a.scn, cmp := a.cmp } := by
  rw [← ha]
  exact ⟨rfl, State.scnOf_setScn _ n _, tabGet_set_self _ _ _ _, rfl⟩

section
variable {n : Fin 4} {s : State} (hon : s.scnOn n = true) (hrun : s.running (0x0700 + n) = true) (hwait : (s.scnOf n).waitSlot = false)
include hon hrun hwait

/-- A frame start runs on a head that is on, runs, and waits for no delivery. -/
theorem scnFrameStart_runs {t : State} (ht : s.scnFrameStart n = t) (hsettle : s.settle t = t) : exec (.scnFrameStart n) s = .next t := by
  have hrun' : s.running (scnBid n) = true := hrun
  refine congrArg Host.Outcome.next ((if_pos (by rw [hon, hrun', hwait]; rfl)).trans ?_)
  rw [ht, hsettle]

theorem frameStart_opens {a t : State} (ha : s.idleReset n = a) (h : a.scnOpen n = t) (hstart : s.scnFrameStart n = t) :
    exec (.scnFrameStart n) s = .next t ∧ FrameSent s t n ∧ t.scnState n = s.scnState n ∧ RegsBut s t [(SCN_FRAME n).off, (SCN_TC n).off] ∧
      t = { s with regs := t.regs, scn := t.scn, cmp := t.cmp, out := t.out } := by
  obtain ⟨hregs, hscn, -, hframe⟩ := idleReset_shows s n ha
  have hrd (r : Reg) : a.rd r = s.rd r := ((RegsBut.refl s []).congr hregs).rd List.not_mem_nil
  obtain ⟨hsent, hstate, -, hbut, hframeT⟩ := scnOpen_sent (s := s) (u := a) ((RegsIn.refl _ s).congr hregs) (hrd _) (by rw [hframe]) (by rw [hscn]) h
  have hocc : t.occ = s.occ := by rw [hframeT, hframe]
  refine ⟨scnFrameStart_runs hon hrun hwait hstart (State.settle_same hocc), hsent, ?_, ((RegsBut.refl s _).congr hregs).trans hbut, ?_⟩
  · rw [hstate, State.scnState_eq, hrd]
    rfl
  · rw [hframeT, hframe]

end

theorem scnCompose_fsync {s : State} {n : Nat} (h : s.fsync n = true) : s.scnCompose n = s := if_pos (by rw [h]; rfl)

section
variable {s a : State} {n : Nat} (hdecide : s.psrDecide n = (a, false))
include hdecide

theorem scnFrameStart_awake {t : State} (h : (match a.scnState n with
    | 1 => (a.scnOpen n).scnCompose n
    | 3 => (a.scnStopped n).scnOpen n
    | 4 => if (a.scnOf n).startReq then (State.scnOpen (((a.setFld (SCN_STATUS n) SCN_STATUS_STOP_REASON 0).setScnState n 1).setScn n
        { a.scnOf n with startReq := false, fresh := true }) n).scnCompose n else a.scnOpen n
    | _ => a) = t) : s.scnFrameStart n = t := by
  rw [← h, State.scnFrameStart, hdecide] <;> rfl

theorem scnFrameStart_one (hstate : a.scnState n = 1) : s.scnFrameStart n = (a.scnOpen n).scnCompose n := scnFrameStart_awake hdecide (by simp only [hstate])

theorem scnFrameStart_three (hstate : a.scnState n = 3) : s.scnFrameStart n = (a.scnStopped n).scnOpen n := scnFrameStart_awake hdecide (by simp only [hstate])

theorem scnFrameStart_four (hstate : a.scnState n = 4) : s.scnFrameStart n = if (a.scnOf n).startReq then (State.scnOpen
    (((a.setFld (SCN_STATUS n) SCN_STATUS_STOP_REASON 0).setScnState n 1).setScn n { a.scnOf n with startReq := false, fresh := true }) n).scnCompose n
    else a.scnOpen n := scnFrameStart_awake hdecide (by simp only [hstate])

end

/-- FSYNC is read where a frame start does not write. -/
theorem fsync_congr {s t : State} {n : Fin 4} (h : s.fsync n = true) (hregs : RegsBut s t [(SCN_FRAME n).off, (SCN_TC n).off, (SCN_STATUS n).off])
    (hboot : t.boot = s.boot) : t.fsync n = true := by
  have hcfg : t.rd (CMP_CFG n) = s.rd (CMP_CFG n) := hregs.rd (by
    simp only [CMP_CFG, SCN_FRAME, SCN_TC, SCN_STATUS, List.mem_cons, List.not_mem_nil, or_false, not_or]
    omega)
  rw [State.fsync, State.paddleCmp, State.bit, hcfg, hboot]
  exact h

/-- A frame that starts by itself: its compositor waits for no head. -/
theorem frameStart_running {n : Fin 4} {s a : State} (ha : s.idleReset n = a) (h1 : s.scnState n = 1) (hclosed : (s.scnOf n).open_ = false) (hfsync : s.fsync n = true) :
    s.scnFrameStart n = a.scnOpen n := by
  obtain ⟨hregs, hscn, -, hframe⟩ := idleReset_shows s n ha
  have hstate : a.scnState n = 1 := (congrArg SCN_STATUS_STATE.get (((RegsBut.refl s []).congr hregs).rd List.not_mem_nil)).trans h1
  generalize ht : a.scnOpen n = t
  obtain ⟨-, -, -, hbut, hframeT⟩ := scnOpen_sent (RegsIn.refl _ a) rfl rfl rfl ht
  have hopen : t.fsync n = true := fsync_congr (s := s) hfsync ((((RegsBut.refl s _).congr hregs).trans hbut).mono (by simp)) (by rw [hframeT, hframe])
  rw [scnFrameStart_one ((psrDecide_awake (Or.inl hclosed)).trans (by rw [ha])) hstate, ht, scnCompose_fsync hopen]

theorem frameStart_black {n : Fin 4} {s a : State} (ha : s.idleReset n = a) (h4 : s.scnState n = 4) (hstart : (s.scnOf n).startReq = false) :
    s.scnFrameStart n = a.scnOpen n := by
  obtain ⟨hregs, hscn, -, -⟩ := idleReset_shows s n ha
  have hstate : a.scnState n = 4 := (congrArg SCN_STATUS_STATE.get (((RegsBut.refl s []).congr hregs).rd List.not_mem_nil)).trans h4
  have hreq : (a.scnOf n).startReq = false := by rw [hscn]; exact hstart
  rw [scnFrameStart_four ((psrDecide_awake (Or.inr (by rw [h4]; decide))).trans (by rw [ha])) hstate, hreq, if_neg Bool.false_ne_true]

/-- START takes a stopped head back. -/
def State.started (s : State) (n : Nat) : State :=
  ((s.setFld (SCN_STATUS n) SCN_STATUS_STOP_REASON 0).setScnState n 1).setScn n { s.scnOf n with startReq := false, fresh := true }

theorem started_shows (s : State) (n : Fin 4) {u : State} (hu : s.started n = u) : u.scnState n = 1 ∧ u.fld (SCN_STATUS n) SCN_STATUS_STOP_REASON = 0 ∧
    u.scnOf n = { s.scnOf n with startReq := false, fresh := true } ∧ RegsBut s u [(SCN_STATUS n).off] ∧ u = { s with regs := u.regs, scn := u.scn } := by
  rw [← hu]
  refine ⟨State.scnState_setScnState (s.setFld (SCN_STATUS n) SCN_STATUS_STOP_REASON 0) n (by decide), ?_, State.scnOf_setScn _ n _,
    (((RegsBut.refl s _).setFld (SCN_STATUS n) _ _).setFld (SCN_STATUS n) _ _).congr, rfl⟩
  exact (State.fld_setFld_ne (s.setFld (SCN_STATUS n) SCN_STATUS_STOP_REASON 0) (SCN_STATUS n) (f := SCN_STATUS_STATE) (g := SCN_STATUS_STOP_REASON) 1).trans
    (State.fld_setFld_self s (SCN_STATUS n) SCN_STATUS_STOP_REASON 0)

/-- The status of a head is none of what a frame sends. -/
theorem statusOnly_notSent {s u : State} {n : Nat} (h : RegsBut s u [(SCN_STATUS n).off]) : RegsIn (NotSent n) s u :=
  h.regsIn fun _ ho => Or.inr (Or.inl (List.mem_singleton.1 ho))

theorem frameStart_starts {n : Fin 4} {s : State} (hon : s.scnOn n = true) (hrun : s.running (0x0700 + n) = true) (hwait : (s.scnOf n).waitSlot = false)
    (h4 : s.scnState n = 4) (hstart : (s.scnOf n).startReq = true) (hfsync : s.fsync n = true) : Runs (.scnFrameStart n) s (fun t =>
    FrameSent s t n ∧ t.scnState n = 1 ∧ t.fld (SCN_STATUS n) SCN_STATUS_STOP_REASON = 0 ∧ (t.scnOf n).startReq = false ∧
      RegsBut s t [(SCN_FRAME n).off, (SCN_TC n).off, (SCN_STATUS n).off]) := by
  generalize ha : s.idleReset n = a
  obtain ⟨hregs, hscn, -, hframe⟩ := idleReset_shows s n ha
  generalize hu : a.started n = u
  obtain ⟨hstateU, hreason, hscnU, hregsU, hframeU⟩ := started_shows a n hu
  have hsu : RegsBut s u [(SCN_STATUS n).off] := ((RegsBut.refl s _).congr hregs).trans hregsU
  have hframeN : (SCN_FRAME n).off ∉ [(SCN_STATUS n).off] := by simp only [SCN_FRAME, SCN_STATUS, List.mem_singleton]; omega
  have htim : (u.scnOf n).tim = (s.scnOf n).tim := by rw [hscnU, hscn]
  generalize ht : u.scnOpen n = t
  obtain ⟨hsent, hstate, hreq, hbut, hframeT⟩ := scnOpen_sent (statusOnly_notSent hsu) (hsu.rd hframeN) (by rw [hframeU, hframe])
    htim ht
  have hst : RegsBut s t [(SCN_FRAME n).off, (SCN_TC n).off, (SCN_STATUS n).off] := (hsu.mono (by simp)).trans (hbut.mono (by simp))
  have hstart' : s.scnFrameStart n = t := by
    have hstateA : a.scnState n = 4 := (congrArg SCN_STATUS_STATE.get (((RegsBut.refl s []).congr hregs).rd List.not_mem_nil)).trans h4
    have hreqA : (a.scnOf n).startReq = true := by rw [hscn]; exact hstart
    rw [scnFrameStart_four ((psrDecide_awake (Or.inr (by rw [h4]; decide))).trans (by rw [ha])) hstateA, if_pos hreqA]
    rw [State.started] at hu
    rw [hu, ht]
    exact scnCompose_fsync (fsync_congr hfsync hst (by rw [hframeT, hframeU, hframe]))
  refine Runs.next (scnFrameStart_runs hon hrun hwait hstart' (State.settle_same (by rw [hframeT, hframeU, hframe]))) ⟨hsent, hstate.trans hstateU, ?_, ?_, hst⟩
  · rw [State.fld, hbut.rd (by simp only [SCN_FRAME, SCN_TC, SCN_STATUS, List.mem_cons, List.not_mem_nil, or_false, not_or]; omega)]
    exact hreason
  · rw [hreq, hscnU]

theorem frameStart_stops {n : Fin 4} {s : State} (hon : s.scnOn n = true) (hrun : s.running (0x0700 + n) = true) (hwait : (s.scnOf n).waitSlot = false)
    (h3 : s.scnState n = 3) (hclosed : (s.cmpOf n).open_ = false) : Runs (.scnFrameStart n) s (fun t =>
    FrameSent s t n ∧ t.scnState n = 4 ∧ Raised s t 436 (0x0700 + n) 0 ∧
      t.fld (SCN_STATUS n) SCN_STATUS_STOP_REASON = (if s.fld (SCN_STATUS n) SCN_STATUS_STOP_REASON = 0 then 1 else s.fld (SCN_STATUS n) SCN_STATUS_STOP_REASON) ∧
      RegsBut s t ((SCN_FRAME n).off :: (SCN_TC n).off :: (SCN_STATUS n).off :: evRegs 436)) := by
  generalize ha : s.idleReset n = a
  obtain ⟨hregs, hscn, hcmp, hframe⟩ := idleReset_shows s n ha
  have hrdA : a.rd (SCN_STATUS n) = s.rd (SCN_STATUS n) := ((RegsBut.refl s []).congr hregs).rd List.not_mem_nil
  have hstateA : a.scnState n = 3 := (congrArg SCN_STATUS_STATE.get hrdA).trans h3
  generalize hr : (if a.fld (SCN_STATUS n) SCN_STATUS_STOP_REASON = 0 then a.setFld (SCN_STATUS n) SCN_STATUS_STOP_REASON 1 else a) = r
  obtain ⟨hreason, hregsR, honlyR⟩ := stopReason_kept a n (by decide) hr
  generalize hv : r.setScnState n 4 = v
  generalize hu : v.raise 436 (0x0700 + n) = u
  have hev := scanReg_ev (o := (SCN_STATUS n).off) (ev := 436) (by simp only [SCN_STATUS]; omega) (by decide)
  have honlyV : OnlyRegs a v := hv ▸ honlyR.setFld _ _ _
  have hsv : RegsBut s v [(SCN_STATUS n).off] := ((RegsBut.refl s _).congr hregs).trans (hv ▸ hregsR.setFld (SCN_STATUS n) _ _)
  have hoccV : v.occ = s.occ := by rw [honlyV.occ, hframe]
  have hraised : Raised s u 436 (0x0700 + n) 0 := hu ▸ State.raised_raise 436 _ _ hoccV (hsv.rd (by simpa using hev.1.symm))
  have hsu : RegsBut s u ((SCN_STATUS n).off :: evRegs 436) := hu ▸ (hsv.mono (by simp)).raise 436 _ _ (by simp)
  have hstatusU : u.rd (SCN_STATUS n) = v.rd (SCN_STATUS n) := by rw [← hu, State.rd_raise _ _ _ _ hev.1 hev.2]
  have honlyU : OnlyRegsOcc a u := hu ▸ honlyV.regsOcc.raise _ _ _
  have hscnU : u.scnOf n = a.scnOf n := by rw [State.scnOf, honlyU.field State.scn]; rfl
  have hcmpU : (u.cmpOf n).open_ = false := by
    have hcu : u.cmpOf n = a.cmpOf n := by rw [State.cmpOf, honlyU.field State.cmp]; rfl
    rw [hcu, hcmp]
    exact hclosed
  have hstopped : a.scnStopped n = u := by
    unfold State.scnStopped
    dsimp only
    rw [hr, hv, scnBid, hu]
    exact cmpTruncate_closed hcmpU
  have hbelow : RegsIn (NotSent n) s u := hsu.regsIn fun o ho => by
    rcases List.mem_cons.1 ho with rfl | he
    · exact Or.inr (Or.inl rfl)
    · exact Or.inl (belowScan_ev (by decide) o he)
  have htim : (u.scnOf n).tim = (s.scnOf n).tim := by rw [hscnU, hscn]
  generalize ht : u.scnOpen n = t
  obtain ⟨hsent, hstate, -, hbut, hframeT⟩ := scnOpen_sent hbelow
    (hsu.rd (by simp only [evRegs, SCN_FRAME, SCN_STATUS, EVT_R_CNT, EVT_R_LAST, List.mem_cons, List.not_mem_nil, or_false, not_or]; omega))
    (by rw [honlyU.field State.out, hframe]) htim ht
  have hstart : s.scnFrameStart n = t := by
    rw [scnFrameStart_three ((psrDecide_awake (Or.inr (by rw [h3]; decide))).trans (by rw [ha])) hstateA, hstopped, ht]
  have hocc : ∃ o, t.occ = s.occ ++ [o] := ⟨_, by rw [hframeT, ← hu, State.raise_occ, hoccV]⟩
  obtain ⟨o, ho⟩ := hocc
  have hev' : (EVT_R_CNT 436).off ∉ [(SCN_FRAME n).off, (SCN_TC n).off] ∧ (EVT_R_LAST 436).off ∉ [(SCN_FRAME n).off, (SCN_TC n).off] := by
    simp only [SCN_FRAME, SCN_TC, EVT_R_CNT, EVT_R_LAST, List.mem_cons, List.not_mem_nil, or_false, not_or]
    omega
  have hreasonT : t.rd (SCN_STATUS n) = v.rd (SCN_STATUS n) := by
    rw [hbut.rd (by simp only [SCN_FRAME, SCN_TC, SCN_STATUS, List.mem_cons, List.not_mem_nil, or_false, not_or]; omega), hstatusU]
  refine Runs.next (scnFrameStart_runs hon hrun hwait hstart (State.settle_one ho)) ⟨hsent, ?_, hraised.later (by rw [hframeT]) hbut hev'.1 hev'.2, ?_,
    (hsu.mono (by simp)).trans (hbut.mono (by simp))⟩
  · rw [State.scnState_eq, hreasonT, ← hv]
    exact State.scnState_setScnState r n (by decide)
  · have hkept : v.fld (SCN_STATUS n) SCN_STATUS_STOP_REASON = r.fld (SCN_STATUS n) SCN_STATUS_STOP_REASON := by
      rw [← hv]
      exact State.fld_setFld_ne r (SCN_STATUS n) (f := SCN_STATUS_STATE) (g := SCN_STATUS_STOP_REASON) 4
    have hsame : a.fld (SCN_STATUS n) SCN_STATUS_STOP_REASON = s.fld (SCN_STATUS n) SCN_STATUS_STOP_REASON := congrArg SCN_STATUS_STOP_REASON.get hrdA
    rw [State.fld, hreasonT]
    rw [hsame] at hreason
    exact hkept.trans hreason

theorem frameStart_sleeps {n : Fin 4} {s : State} (hon : s.scnOn n = true) (hrun : s.running (0x0700 + n) = true) (hwait : (s.scnOf n).waitSlot = false)
    {t : State} (hpsr : s.psrDecide n = (t, true)) {x : Scn}
    (ht : ((((s.setCmp n { s.cmpOf n with chg := false }).setScn n x).setScnState n 5).inc (SCN_PSR_CNT n)).raise 441 (scnBid n) = t) :
    Runs (.scnFrameStart n) s (fun t => t.scnState n = 5 ∧ t.rd (SCN_PSR_CNT n) = satAdd (s.rd (SCN_PSR_CNT n)) 1 ∧ Raised s t 441 (0x0700 + n) 0 ∧
      RegsBut s t ((SCN_STATUS n).off :: (SCN_PSR_CNT n).off :: evRegs 441) ∧ t.out = s.out) := by
  have hstatus := scanReg_ev (o := (SCN_STATUS n).off) (ev := 441) (by simp only [SCN_STATUS]; omega) (by decide)
  have hcnt := scanReg_ev (o := (SCN_PSR_CNT n).off) (ev := 441) (by simp only [SCN_PSR_CNT]; omega) (by decide)
  have hdiff : (SCN_STATUS n).off ≠ (SCN_PSR_CNT n).off := by simp only [SCN_STATUS, SCN_PSR_CNT]; omega
  generalize hp : (s.setCmp n { s.cmpOf n with chg := false }).setScn n x = p at ht
  have hpregs : p.regs = s.regs := by rw [← hp]; rfl
  have hprd (r : Reg) : p.rd r = s.rd r := ((RegsBut.refl s []).congr hpregs).rd List.not_mem_nil
  have hpocc : p.occ = s.occ ∧ p.out = s.out := by rw [← hp]; exact ⟨rfl, rfl⟩
  generalize hu : (p.setScnState n 5).inc (SCN_PSR_CNT n) = u at ht
  have hregs : RegsBut s u [(SCN_STATUS n).off, (SCN_PSR_CNT n).off] := hu ▸ (((RegsBut.refl s _).congr hpregs).setFld (SCN_STATUS n) _ _).inc _ _
  have honly : OnlyRegs p u := hu ▸ ((OnlyRegs.refl p).setFld (SCN_STATUS n) _ _).inc _ _
  have hocc : u.occ = s.occ := honly.occ.trans hpocc.1
  have hstart : s.scnFrameStart n = t := by
    unfold State.scnFrameStart
    rw [hpsr]
    rfl
  refine Runs.next (scnFrameStart_runs hon hrun hwait hstart (by rw [← ht]; exact State.settle_raise _ _ _ hocc)) ?_
  rw [← ht]
  refine ⟨?_, ?_, State.raised_raise 441 _ _ hocc (hregs.rd (by simpa using ⟨hstatus.1.symm, hcnt.1.symm⟩)), (hregs.mono (by simp)).raise 441 _ _ (by simp), ?_⟩
  · rw [State.scnState_eq, State.rd_raise _ _ _ _ hstatus.1 hstatus.2, ← hu, State.inc_eq, State.rd_wr_ne _ _ hdiff]
    exact State.scnState_setScnState p n (by decide)
  · rw [State.rd_raise _ _ _ _ hcnt.1 hcnt.2, ← hu, State.inc_eq, State.rd_wr_self, State.setScnState, State.rd_setFld_ne _ _ _ hdiff.symm, hprd]
  · rw [State.raise_out, honly.field State.out, hpocc.2]

theorem frameStarts : FrameStarts := by
  unfold FrameStarts
  intro n s hon hrun hwait
  refine ⟨fun h1 hclosed hfsync => ?_, fun h4 hstart => ?_, fun h4 hstart hfsync => frameStart_starts hon hrun hwait h4 hstart hfsync,
    fun h3 hclosed => frameStart_stops hon hrun hwait h3 hclosed,
    fun h1 hopen hproto hen hsink hchg hidle => frameStart_sleeps hon hrun hwait (psrDecide_sleeps h1 hopen hproto hen hsink hchg hidle) rfl⟩
  · obtain ⟨hexec, hsent, hstate, hregs, hframe⟩ := frameStart_opens hon hrun hwait rfl rfl (frameStart_running rfl h1 hclosed hfsync)
    exact Runs.next hexec ⟨hsent, hstate.trans h1, hregs, hframe⟩
  · obtain ⟨hexec, hsent, hstate, hregs, hframe⟩ := frameStart_opens hon hrun hwait rfl rfl (frameStart_black rfl h4 hstart)
    exact Runs.next hexec ⟨hsent, hstate.trans h4, hregs, hframe⟩

/-! ### Output lines -/

section
variable {n : Fin 4} {missed : List (Nat × Nat)} {s : State} (hon : s.scnOn n = true) (hrun : s.running (0x0700 + n) = true)
include hon hrun

theorem scnLine_runs {t : State} (ht : s.scnLine n missed = t) : exec (.scnLine n missed) s = .next (s.settle t) := by
  have hrun' : s.running (scnBid n) = true := hrun
  subst ht
  exact congrArg Host.Outcome.next (if_pos (by rw [hon, hrun']; rfl))

end

/-- A line that is sent: the head is on it, and its state is one that sends. -/
theorem scnLine_active {s : State} {n : Nat} (hopen : (s.scnOf n).open_ = true) (hline : (s.scnOf n).line < (s.scnOf n).tim.vActive)
    (hstate : s.scnState n = 1 ∨ s.scnState n = 4) : ¬ (!(s.scnOf n).open_ || decide ((s.scnOf n).tim.vActive ≤ (s.scnOf n).line) ||
      !(decide (s.scnState n = 1) || decide (s.scnState n = 3) || decide (s.scnState n = 4))) = true := by
  rw [hopen, decide_eq_false (Nat.not_le.2 hline)]
  rcases hstate with h | h
  · rw [h]; decide
  · rw [h]; decide

theorem embedLine_off {s : State} {n : Nat} (h : s.embedOn n = false) (a b c : Nat) : s.embedLine n a b c = s := by
  unfold State.embedLine
  dsimp only
  rw [h]
  rfl

theorem embedOn_black {s : State} {n : Nat} (h : s.scnState n = 4) : s.embedOn n = false := by
  have h' : s.fld (SCN_STATUS n) SCN_STATUS_STATE = 4 := h
  rw [State.embedOn, h', Bool.and_eq_false_iff]
  exact Or.inr rfl

/-- What stands above the line that a head sends: the line its compositor composed last, or black. -/
def lineAbove (s : State) (n : Nat) : List Rgba :=
  match (s.cmpOf n).lines.getLast? with
  | some l => paintLine (s.cmpOf n).paint ((s.scnOf n).line - 1) l
  | none => List.replicate (s.scnOf n).tim.hActive ⟨0, 0, 0, fpOne⟩

/-- A line of given codes is sent. -/
def State.lineSent (s : State) (n : Nat) (x : Scn) (codes : List (List Nat)) : State :=
  (s.setScn n { x with line := x.line + 1, codes := x.codes ++ [codes] }).emit (.scanLine n x.line codes)

section
variable {n : Nat} {missed : List (Nat × Nat)} {s : State} (hopen : (s.scnOf n).open_ = true) (hline : (s.scnOf n).line < (s.scnOf n).tim.vActive)
include hopen hline

theorem scnLine_repeats (hstate : s.scnState n = 1) (hshown : (s.scnOf n).shown ≠ []) :
    s.scnLine n missed = s.lineSent n (s.scnOf n) ((s.scnOf n).shown.getD (s.scnOf n).line []) := by
  refine (if_neg (scnLine_active hopen hline (Or.inl hstate))).trans (if_pos ?_)
  rw [Bool.not_eq_true', List.isEmpty_eq_false_iff]
  exact hshown

theorem scnLine_composes (hstate : s.scnState n = 1 ∨ s.scnState n = 4) (hshown : (s.scnOf n).shown = []) {u : State} {px : List Rgba}
    (hu : (if s.scnState n = 4 then (s, List.replicate (s.scnOf n).tim.hActive ⟨0, 0, 0, fpOne⟩) else s.cmpLine n (s.scnOf n).line missed) = (u, px))
    (hembed : u.embedOn n = false) (hlast : ((s.scnOf n).line + 1 = (s.scnOf n).tim.vActive && s.scnState n != 4) = false) :
    s.scnLine n missed = u.lineSent n (s.scnOf n) (lineCodes (s.scnOf n).tim (s.scnOf n).line (lineAbove s n) px) := by
  have hembed' (codes : List (List Nat)) : (u.lineSent n (s.scnOf n) codes).embedOn n = false := hembed
  unfold State.scnLine
  dsimp only
  rw [if_neg (scnLine_active hopen hline hstate), if_neg (by rw [hshown]; exact Bool.false_ne_true), hu]
  dsimp only
  rw [hlast, if_neg Bool.false_ne_true]
  exact embedLine_off (hembed' _) _ _ _

end

/-- What a sent line changes. -/
theorem lineSent_shows (s : State) (n : Nat) (codes : List (List Nat)) : (s.settle (s.lineSent n (s.scnOf n) codes)).out = s.out ++ [.scanLine n (s.scnOf n).line codes] ∧
    ((s.settle (s.lineSent n (s.scnOf n) codes)).scnOf n).line = (s.scnOf n).line + 1 ∧ s.settle (s.lineSent n (s.scnOf n) codes) =
      { s with scn := (s.settle (s.lineSent n (s.scnOf n) codes)).scn, out := (s.settle (s.lineSent n (s.scnOf n) codes)).out } := by
  have hsettle : s.settle (s.lineSent n (s.scnOf n) codes) = s.lineSent n (s.scnOf n) codes := State.settle_same rfl
  rw [hsettle]
  exact ⟨rfl, congrArg Scn.line (State.scnOf_setScn s n _), rfl⟩

theorem outputLines : OutputLines := by
  unfold OutputLines
  intro n missed s hon hrun
  refine ⟨fun hnone => ?_, fun hopen hline h4 hshown => ?_, fun hopen hline h1 hshown => ?_, fun hopen hline h1 hshown hembed => ?_⟩
  · have hsame : s.scnLine n missed = s := if_pos (by
      rcases hnone with h | h
      · rw [h]; rfl
      · rw [decide_eq_true h, Bool.or_true, Bool.true_or])
    rw [scnLine_runs hon hrun hsame, State.settle_same rfl]
  · have heq := scnLine_composes (missed := missed) hopen hline (Or.inr h4) hshown (if_pos h4) (embedOn_black h4) (by rw [h4, bne_self_eq_false, Bool.and_false])
    exact Runs.next (scnLine_runs hon hrun heq) (lineSent_shows s n _)
  · exact Runs.next (scnLine_runs hon hrun (scnLine_repeats hopen hline h1 hshown)) (lineSent_shows s n _)
  · have heq := scnLine_composes (missed := missed) hopen (Nat.lt_of_succ_lt hline) (Or.inl h1) hshown (if_neg (by rw [h1]; decide)) hembed
      (by rw [decide_eq_false (Nat.ne_of_lt hline), Bool.false_and])
    exact scnLine_runs hon hrun heq

/-- Settles O30: the end of HOLD, frame starts, and the lines that are sent. -/
theorem scanFrames : Obligations.ScanFrames := by
  unfold Obligations.ScanFrames
  exact ⟨holdEnds, frameStarts, outputLines⟩

end Sys2Proof.Machine
end

section
/-! PROOFS. Scan-out: the wake check, the sideband, and the links of heads (R290, R292, R293). -/

-- One proof at a time: the text is compiled as one file in bounded memory.
set_option Elab.async false

namespace Sys2Proof.Machine
open Sys2Proof.Claims

/-! ### The wake check -/

section
variable {n : Fin 4} {s : State} (hchecked : (s.scnOf n).checked = true)

/-- The signature of a checked frame is shown, and is the reference of the next. -/
def State.wakeRef (s : State) (n : Nat) : State :=
  (s.wr (SCN_WAKE_SIG n) (s.wakeSig n)).setScn n { s.scnOf n with ref := some (s.wakeSig n), fresh := false, checked := false }

theorem wakeRef_regs (s : State) (n : Nat) : RegsBut s (s.wakeRef n) [(SCN_WAKE_SIG n).off] := ((RegsBut.refl s _).wr (SCN_WAKE_SIG n) _).congr

theorem rd_wakeRef (s : State) (n : Fin 4) {r : Reg} (hr : r.off ≠ (SCN_WAKE_SIG n).off) : (s.wakeRef n).rd r = s.rd r :=
  (wakeRef_regs s n).rd (by simpa using hr)

theorem wakeStatus_sig : (SCN_WAKE_STATUS n).off ≠ (SCN_WAKE_SIG n).off := by simp only [SCN_WAKE_STATUS, SCN_WAKE_SIG]; omega

/-- The run of equal signatures after a frame. -/
def wakeRun (s : State) (n : Nat) : Nat := if (s.scnOf n).ref = some (s.wakeSig n) then min 63 (s.fld (SCN_WAKE_STATUS n) scnRun + 1) else 0

/-- K signatures equal to the one before, of a picture that changes: the run starts again, and the check is counted. -/
def State.wakeWarned (s : State) (n : Nat) : State :=
  (((s.setFld (SCN_WAKE_STATUS n) scnRun 0).setFld (SCN_WAKE_STATUS n) ⟨0, 0⟩ 1).inc (SCN_WAKE_CNT n)).raise 440 (scnBid n)
    [w32 n, ((s.setFld (SCN_WAKE_STATUS n) scnRun 0).setFld (SCN_WAKE_STATUS n) ⟨0, 0⟩ 1).rd (SCN_FRAME n)]

include hchecked

theorem wakeCheck_eq : s.wakeCheck n = if (s.scnOf n).fresh || (s.scnOf n).ref.isNone then s.wakeRef n
    else if s.bit (SCN_WAKE_CFG n) SCN_WAKE_CFG_CHANGING && decide (clampNat 1 60 (s.fld (SCN_WAKE_CFG n) SCN_WAKE_CFG_K) ≤ wakeRun s n) then (s.wakeRef n).wakeWarned n
    else (s.wakeRef n).setFld (SCN_WAKE_STATUS n) scnRun (wakeRun s n) := by
  have hcfg : (s.wakeRef n).rd (SCN_WAKE_CFG n) = s.rd (SCN_WAKE_CFG n) := rd_wakeRef s n (by simp only [SCN_WAKE_CFG, SCN_WAKE_SIG]; omega)
  have hrun : (s.wakeRef n).fld (SCN_WAKE_STATUS n) scnRun = s.fld (SCN_WAKE_STATUS n) scnRun := congrArg scnRun.get (rd_wakeRef s n wakeStatus_sig)
  rw [State.bit, State.fld, wakeRun, ← hcfg, ← hrun]
  exact if_neg (by rw [hchecked]; exact Bool.false_ne_true)

end

theorem wakeWarned_shows (s : State) (n : Fin 4) {t : State} (ht : s.wakeWarned n = t) : t.fld (SCN_WAKE_STATUS n) scnRun = 0 ∧
    t.bit (SCN_WAKE_STATUS n) ⟨0, 0⟩ = true ∧ t.rd (SCN_WAKE_CNT n) = satAdd (s.rd (SCN_WAKE_CNT n)) 1 ∧ Raised s t 440 (0x0700 + n) (w32 n.val) ∧
    RegsBut s t ((SCN_WAKE_STATUS n).off :: (SCN_WAKE_CNT n).off :: evRegs 440) ∧ t.scn = s.scn := by
  have hstatus := scanReg_ev (o := (SCN_WAKE_STATUS n).off) (ev := 440) (by simp only [SCN_WAKE_STATUS]; omega) (by decide)
  have hcnt := scanReg_ev (o := (SCN_WAKE_CNT n).off) (ev := 440) (by simp only [SCN_WAKE_CNT]; omega) (by decide)
  have hdiff : (SCN_WAKE_STATUS n).off ≠ (SCN_WAKE_CNT n).off := by simp only [SCN_WAKE_STATUS, SCN_WAKE_CNT]; omega
  rw [State.wakeWarned] at ht
  generalize hp : (s.setFld (SCN_WAKE_STATUS n) scnRun 0).setFld (SCN_WAKE_STATUS n) ⟨0, 0⟩ 1 = p at ht
  have hpregs : RegsBut s p [(SCN_WAKE_STATUS n).off] := hp ▸ ((RegsBut.refl s _).setFld (SCN_WAKE_STATUS n) _ _).setFld _ _ _
  have hponly : OnlyRegs s p := hp ▸ ((OnlyRegs.refl s).setFld _ _ _).setFld _ _ _
  have hregs : RegsBut s (p.inc (SCN_WAKE_CNT n)) [(SCN_WAKE_STATUS n).off, (SCN_WAKE_CNT n).off] := (hpregs.mono (by simp)).inc _ _
  have hrdStatus : t.rd (SCN_WAKE_STATUS n) = p.rd (SCN_WAKE_STATUS n) := by
    rw [← ht, State.rd_raise _ _ _ _ hstatus.1 hstatus.2, State.inc_eq, State.rd_wr_ne _ _ hdiff]
  refine ⟨?_, ?_, ?_, ?_, ?_, ?_⟩
  · rw [State.fld, hrdStatus, ← hp]
    exact (State.fld_setFld_ne (s.setFld (SCN_WAKE_STATUS n) scnRun 0) (SCN_WAKE_STATUS n) (f := ⟨0, 0⟩) (g := scnRun) 1).trans
      (State.fld_setFld_self s (SCN_WAKE_STATUS n) scnRun 0)
  · rw [State.bit, hrdStatus, ← hp]
    exact State.bit_setBit_self _ _ ⟨0, 0⟩ true
  · rw [← ht, State.rd_raise _ _ _ _ hcnt.1 hcnt.2, State.inc_eq, State.rd_wr_self, hpregs.rd (by simpa using hdiff.symm)]
  · rw [← ht]
    exact State.raised_raise 440 _ _ hponly.occ (hregs.rd (by simpa using ⟨hstatus.1.symm, hcnt.1.symm⟩))
  · rw [← ht]
    exact (hregs.mono (by simp)).raise 440 _ _ (by simp)
  · rw [← ht, State.raise_scn]
    exact hponly.field State.scn

theorem wakeChecks : WakeChecks := by
  unfold WakeChecks
  intro n s hchecked
  have heq := wakeCheck_eq hchecked
  generalize hu : s.wakeRef n = u at heq
  generalize s.wakeCheck n = t at heq
  have hregsU : RegsBut s u ((SCN_WAKE_SIG n).off :: (SCN_WAKE_STATUS n).off :: (SCN_WAKE_CNT n).off :: evRegs 440) := hu ▸ (wakeRef_regs s n).mono (by simp)
  have hsig : u.rd (SCN_WAKE_SIG n) = s.wakeSig n := by rw [← hu]; exact State.rd_wr_self s _ _
  have hscn : u.scnOf n = { s.scnOf n with ref := some (s.wakeSig n), fresh := false, checked := false } := by rw [← hu]; exact State.scnOf_setScn _ n _
  have hocc : u.occ = s.occ := by rw [← hu]; rfl
  have hstatus : u.rd (SCN_WAKE_STATUS n) = s.rd (SCN_WAKE_STATUS n) := by rw [← hu]; exact rd_wakeRef s n wakeStatus_sig
  have hsigEv := scanReg_ev (o := (SCN_WAKE_SIG n).off) (ev := 440) (by simp only [SCN_WAKE_SIG]; omega) (by decide)
  have hne : (SCN_WAKE_SIG n).off ≠ (SCN_WAKE_STATUS n).off ∧ (SCN_WAKE_SIG n).off ≠ (SCN_WAKE_CNT n).off := by
    simp only [SCN_WAKE_SIG, SCN_WAKE_STATUS, SCN_WAKE_CNT]; omega
  obtain ⟨hrun0, hsticky, hcnt, hraised, hregsW, hscnW⟩ := wakeWarned_shows u n rfl
  have hrunU (k : Nat) : (u.setFld (SCN_WAKE_STATUS n) scnRun k).rd (SCN_WAKE_SIG n) = s.wakeSig n := by rw [State.rd_setFld_ne _ _ _ hne.1, hsig]
  have hshown : t.rd (SCN_WAKE_SIG n) = s.wakeSig n ∧ (t.scnOf n) = u.scnOf n ∧
      RegsBut s t ((SCN_WAKE_SIG n).off :: (SCN_WAKE_STATUS n).off :: (SCN_WAKE_CNT n).off :: evRegs 440) := by
    rw [heq]
    split
    · exact ⟨hsig, rfl, hregsU⟩
    · split
      · refine ⟨?_, by rw [State.scnOf, hscnW]; rfl, hregsU.trans (hregsW.mono (by simp))⟩
        rw [hregsW.rd (by simpa [evRegs] using ⟨hne.1, hne.2, hsigEv⟩), hsig]
      · exact ⟨hrunU _, rfl, hregsU.setFld _ _ _⟩
  obtain ⟨hsigT, hscnT, hregsT⟩ := hshown
  have hlater (hfresh : (s.scnOf n).fresh = false) {w : Word} (hw : (s.scnOf n).ref = some w) : ¬ ((s.scnOf n).fresh || (s.scnOf n).ref.isNone) = true := by
    rw [hfresh, hw]
    exact Bool.false_ne_true
  refine ⟨hsigT, by rw [hscnT, hscn], by rw [hscnT, hscn], fun hfirst => ?_, fun hfresh ⟨w, hw, hdiff⟩ => ?_, fun hfresh href hstill => ?_,
    fun hfresh href hchanging hk => ?_, hregsT⟩
  · rw [if_pos (by rcases hfirst with h | h <;> simp [h])] at heq
    rw [heq]
    exact ⟨hstatus, hocc⟩
  · have hzero : wakeRun s n = 0 := if_neg (by rw [hw]; exact fun h => hdiff (Option.some.inj h))
    have hk : ¬ clampNat 1 60 (s.fld (SCN_WAKE_CFG n) SCN_WAKE_CFG_K) ≤ 0 := by rw [clampNat]; omega
    rw [if_neg (hlater hfresh hw), hzero, decide_eq_false hk, Bool.and_false, if_neg Bool.false_ne_true] at heq
    rw [heq]
    exact ⟨State.fld_setFld_self u _ scnRun 0, hocc⟩
  · have hrun : wakeRun s n = min 63 (s.fld (SCN_WAKE_STATUS n) scnRun + 1) := if_pos href
    rw [if_neg (hlater hfresh href), hrun, hstill, Bool.false_and, if_neg Bool.false_ne_true] at heq
    rw [heq]
    exact ⟨(State.fld_setFld_self u _ scnRun _).trans (Nat.mod_eq_of_lt (by simp only [scnRun]; omega)), hocc⟩
  · have hrun : wakeRun s n = min 63 (s.fld (SCN_WAKE_STATUS n) scnRun + 1) := if_pos href
    rw [if_neg (hlater hfresh href), hrun, hchanging, decide_eq_true hk, Bool.and_self, if_pos rfl] at heq
    have hcntU : u.rd (SCN_WAKE_CNT n) = s.rd (SCN_WAKE_CNT n) := by rw [← hu]; exact rd_wakeRef s n hne.2.symm
    rw [heq]
    exact ⟨hrun0, hsticky, by rw [hcnt, hcntU], hraised.earlier hocc (os := [(SCN_WAKE_SIG n).off]) (by rw [← hu]; exact wakeRef_regs s n)
      (by simpa using hsigEv.1.symm)⟩

/-! ### Bytes and bits of words -/

/-- Bit `b` of a number is bit `b mod 8` of its byte `b / 8`. -/
theorem leNat_testBit : ∀ (bs : List Byte) (b : Nat), (leNat bs).testBit b = ((bs.getD (b / 8) 0).getLsbD (b % 8))
  | [], b => by rw [leNat, Nat.zero_testBit]; simp
  | c :: bs, b => by
    have hsplit : leNat (c :: bs) = 2 ^ 8 * leNat bs + c.toNat := Nat.add_comm _ _
    rw [hsplit, Nat.testBit_two_pow_mul_add _ c.isLt]
    split
    · next h => rw [Nat.div_eq_of_lt h, Nat.mod_eq_of_lt h]; rfl
    · next h =>
      have hdiv : b / 8 = (b - 8) / 8 + 1 := by omega
      rw [leNat_testBit bs, hdiv, List.getD_cons_succ, show b % 8 = (b - 8) % 8 by omega]

/-- Byte `k` of a number's little-endian form holds its bits from `8 k` on. -/
theorem leBytes_bit : ∀ (n v k m : Nat), k < n → m < 8 → ((leBytes n v).getD k 0).getLsbD m = v.testBit (8 * k + m)
  | n + 1, v, 0, m, _, hm => by
    rw [leBytes, List.getD_cons_zero, BitVec.getLsbD_ofNat, decide_eq_true hm, Bool.true_and, Nat.mul_zero, Nat.zero_add]
  | n + 1, v, k + 1, m, hk, hm => by
    rw [leBytes, List.getD_cons_succ, leBytes_bit n (v / 256) k m (Nat.lt_of_succ_lt_succ hk) hm, show 256 = 2 ^ 8 from rfl, Nat.testBit_div_two_pow]
    congr 1
    omega

/-- The bytes of words: four of each. -/
theorem wordsBytes_getD : ∀ (ws : List Word) (i k : Nat), k < 4 → (wordsBytes ws).getD (4 * i + k) 0 = if i < ws.length then (wordBytes (ws.getD i 0)).getD k 0 else 0
  | [], i, _, _ => (if_neg (Nat.not_lt_zero i)).symm
  | w :: ws, i, k, hk => by
    have hcons : wordsBytes (w :: ws) = wordBytes w ++ wordsBytes ws := rfl
    cases i with
    | zero => rw [hcons, Nat.mul_zero, Nat.zero_add, List.getD_append _ _ _ _ (by rw [length_wordBytes]; exact hk)]; exact (if_pos (Nat.zero_lt_succ _)).symm
    | succ i =>
      rw [hcons, List.getD_append_right _ _ _ _ (by rw [length_wordBytes]; omega), length_wordBytes, show 4 * (i + 1) + k - 4 = 4 * i + k by omega,
        wordsBytes_getD ws i k hk, List.getD_cons_succ]
      simp

/-- A word's bit is the bit of its byte. -/
theorem wordBytes_bit (w : Word) {b : Nat} (hb : b < 32) : ((wordBytes w).getD (b / 8) 0).getLsbD (b % 8) = w.getLsbD b := by
  rw [wordBytes, leBytes_bit 4 w.toNat (b / 8) (b % 8) (by omega) (by omega), show 8 * (b / 8) + b % 8 = b by omega]
  rfl

/-- A word read from bytes has the bits of the four bytes at its place. -/
theorem leAt_bit (bs : List Byte) (off : Nat) {b : Nat} (hb : b < 32) : (w32 (leAt bs off 4)).getLsbD b = (bs.getD (off + b / 8) 0).getLsbD (b % 8) := by
  have hplace : ((bs.drop off).take 4).getD (b / 8) 0 = bs.getD (off + b / 8) 0 := by
    rw [List.getD_eq_getElem?_getD, List.getD_eq_getElem?_getD, List.getElem?_take_of_lt (by omega), List.getElem?_drop]
  rw [BitVec.getLsbD_ofNat, decide_eq_true hb, Bool.true_and, leAt, leNat_testBit, hplace]

theorem getLsbD_putBit (w : Word) {i j : Nat} (b : Bool) (hj : j < 32) : (putBit w i b).getLsbD j = if j = i then b else w.getLsbD j := by
  split
  · next h =>
    subst h
    exact Fld.bit_put_self ⟨j, j⟩ w b hj (Nat.le_refl _)
  · next h => exact Fld.bit_put_ne ⟨i, i⟩ w _ j hj (Nat.lt_or_gt_of_ne h)

/-! ### The sideband -/

theorem sbWrite_busy {s : State} {n : Nat} {v : Word} (h : (s.rd (SCN_SB_CTRL n)).getLsbD 2 = true) : s.sbWrite n v = s := by
  have h' : bitOf (s.rd (SCN_SB_CTRL n)) 2 = true := h
  unfold State.sbWrite
  dsimp only
  rw [h', if_pos rfl, if_pos (by rw [Bool.or_true])]

/-- The control word of an access that starts: the fields of the write, with BUSY set and NACK cleared. -/
theorem sbCtrl_start (v old : Word) : putBit (putBit ((v &&& 0x1F02) ||| (old &&& 0x8)) 2 true) 3 false = (v &&& 0x1F02) ||| 4 := by
  have hnack : ∀ j : Fin 32, (8 : Word).getLsbD j = decide (j.val = 3) := by decide
  have hbusy : ∀ j : Fin 32, (4 : Word).getLsbD j = decide (j.val = 2) := by decide
  have hmask : (0x1F02 : Word).getLsbD 3 = false := by decide
  refine BitVec.eq_of_getLsbD_eq fun j hj => ?_
  have h8 : (8 : Word).getLsbD j = decide (j = 3) := hnack ⟨j, hj⟩
  have h4 : (4 : Word).getLsbD j = decide (j = 2) := hbusy ⟨j, hj⟩
  rw [getLsbD_putBit _ _ hj, getLsbD_putBit _ _ hj, BitVec.getLsbD_or, BitVec.getLsbD_or, BitVec.getLsbD_and, BitVec.getLsbD_and, h8, h4]
  by_cases h3 : j = 3
  · subst h3
    rw [if_pos rfl, hmask, Bool.and_false]
    rfl
  · by_cases h2 : j = 2
    · subst h2
      simp
    · simp [h2, h3]

/-- The bytes that a write's access sends. -/
theorem sbWrite_go {s : State} {n : Nat} {v : Word} (h : (s.rd (SCN_SB_CTRL n)).getLsbD 2 = false) (hgo : v.getLsbD 0 = true) {a b : State}
    (ha : s.wr (SCN_SB_CTRL n) ((v &&& 0x1F02) ||| (s.rd (SCN_SB_CTRL n) &&& 0x8)) = a)
    (hb : a.wr (SCN_SB_CTRL n) (putBit (putBit (a.rd (SCN_SB_CTRL n)) 2 true) 3 false) = b) :
    s.sbWrite n v = b.emit (.sideband n (bitOf v 1) (bitsOf (b.rd (SCN_SB_ADDR n)).toNat 19 0)
      (if bitOf v 1 then (wordsBytes ((List.range 4).map (fun i => a.rd (SCN_SB_DATA n i)))).take (min 16 (bitsOf v.toNat 12 8 + 1)) else [])) := by
  have h' : bitOf (s.rd (SCN_SB_CTRL n)) 2 = false := h
  have hgo' : bitOf v 0 = true := hgo
  unfold State.sbWrite
  dsimp only
  rw [h', if_neg Bool.false_ne_true, hgo', if_neg (by decide), ha, hb]

theorem sideband_starts {n : Fin 4} {v : Word} {s : State} (hreach : Reach s (SCN_SB_CTRL n)) (h : (s.rd (SCN_SB_CTRL n)).getLsbD 2 = false)
    (hgo : v.getLsbD 0 = true) : Runs (.scnSbGo n v) s (fun t =>
      t.rd (SCN_SB_CTRL n) = (v &&& 0x1F02) ||| 4 ∧ t.out = s.out ++ [.sideband n (v.getLsbD 1) (bitsOf (s.rd (SCN_SB_ADDR n)).toNat 19 0)
        (if v.getLsbD 1 then (wordsBytes ((List.range 4).map (fun i => s.rd (SCN_SB_DATA n i)))).take (min 16 (bitsOf v.toNat 12 8 + 1)) else [])] ∧
      RegsBut s t [(SCN_SB_CTRL n).off] ∧ t = { s with regs := t.regs, out := t.out }) := by
  generalize ha : s.wr (SCN_SB_CTRL n) ((v &&& 0x1F02) ||| (s.rd (SCN_SB_CTRL n) &&& 0x8)) = a
  generalize hb : a.wr (SCN_SB_CTRL n) (putBit (putBit (a.rd (SCN_SB_CTRL n)) 2 true) 3 false) = b
  have hregsA : RegsBut s a [(SCN_SB_CTRL n).off] := ha ▸ (RegsBut.refl s _).wr _ _
  have hregsB : RegsBut s b [(SCN_SB_CTRL n).off] := hb ▸ hregsA.wr _ _
  have honly : OnlyRegs s b := by
    have h1 : OnlyRegs s a := ha ▸ (OnlyRegs.refl s).wr _ _
    exact hb ▸ h1.wr _ _
  have haddr : b.rd (SCN_SB_ADDR n) = s.rd (SCN_SB_ADDR n) := hregsB.rd (by simp only [SCN_SB_ADDR, SCN_SB_CTRL, List.mem_singleton]; omega)
  have hdata (i : Nat) : a.rd (SCN_SB_DATA n i) = s.rd (SCN_SB_DATA n i) := hregsA.rd (by simp only [SCN_SB_DATA, SCN_SB_CTRL, List.mem_singleton]; omega)
  have hctrl : b.rd (SCN_SB_CTRL n) = (v &&& 0x1F02) ||| 4 := by
    have hrdA : a.rd (SCN_SB_CTRL n) = (v &&& 0x1F02) ||| (s.rd (SCN_SB_CTRL n) &&& 0x8) := by rw [← ha]; exact State.rd_wr_self _ _ _
    rw [← hb, State.rd_wr_self, hrdA, sbCtrl_start]
  have heq := sbWrite_go h hgo ha hb
  simp only [haddr, hdata] at heq
  refine Runs.next (exec_hostDo hreach heq) ⟨hctrl, ?_, hregsB.congr, ?_⟩
  · rw [State.emit, honly.field State.out]
    rfl
  · rw [OnlyRegs] at honly
    rw [State.emit, honly]

/-- The words that the data registers of the sideband take from the bytes of a read. -/
def sbBytes (s : State) (n : Nat) (data : BitVec 128) : List Byte :=
  (leBytes 16 data.toNat).take (min 16 (bitsOf (s.rd (SCN_SB_CTRL n)).toNat 12 8 + 1)) ++
    (wordsBytes ((List.range 4).map (fun i => s.rd (SCN_SB_DATA n i)))).drop (min 16 (bitsOf (s.rd (SCN_SB_CTRL n)).toNat 12 8 + 1))

theorem length_sbOld (s : State) (n : Nat) : (wordsBytes ((List.range 4).map (fun i => s.rd (SCN_SB_DATA n i)))).length = 16 := by
  simp only [wordsBytes, List.length_flatMap, length_wordBytes, List.map_const', List.length_map, List.length_range]
  rfl

/-- Each byte of the data registers after a read: the sink's within its length, else as before. -/
theorem sbBytes_bit (s : State) (n : Nat) (data : BitVec 128) {i b : Nat} (hi : i < 4) (hb : b < 32) :
    ((sbBytes s n data).getD (4 * i + b / 8) 0).getLsbD (b % 8) = if 4 * i + b / 8 < bitsOf (s.rd (SCN_SB_CTRL n)).toNat 12 8 + 1 then
      data.getLsbD (32 * i + b) else (s.rd (SCN_SB_DATA n i)).getLsbD b := by
  generalize hlen : bitsOf (s.rd (SCN_SB_CTRL n)).toNat 12 8 + 1 = len
  have htake : ((leBytes 16 data.toNat).take (min 16 len)).length = min 16 len := by rw [List.length_take, length_leBytes]; omega
  have hcases : sbBytes s n data = (leBytes 16 data.toNat).take (min 16 len) ++
    (wordsBytes ((List.range 4).map (fun i => s.rd (SCN_SB_DATA n i)))).drop (min 16 len) := by rw [sbBytes, hlen]
  rw [hcases]
  split
  · next h =>
    have hin : ((leBytes 16 data.toNat).take (min 16 len)).getD (4 * i + b / 8) 0 = (leBytes 16 data.toNat).getD (4 * i + b / 8) 0 := by
      rw [List.getD_eq_getElem?_getD, List.getD_eq_getElem?_getD, List.getElem?_take_of_lt (by omega)]
    rw [List.getD_append _ _ _ _ (by rw [htake]; omega), hin, leBytes_bit 16 _ _ _ (by omega) (by omega),
      show 8 * (4 * i + b / 8) + b % 8 = 32 * i + b by omega]
    rfl
  · next h =>
    have hreg : ((List.range 4).map (fun i => s.rd (SCN_SB_DATA n i))).getD i 0 = s.rd (SCN_SB_DATA n i) := by
      rw [List.getD_eq_getElem?_getD, List.getElem?_map, List.getElem?_range hi]
      rfl
    have hout : ((wordsBytes ((List.range 4).map (fun i => s.rd (SCN_SB_DATA n i)))).drop (min 16 len)).getD (4 * i + b / 8 - min 16 len) 0 =
        (wordBytes (s.rd (SCN_SB_DATA n i))).getD (b / 8) 0 := by
      rw [List.getD_eq_getElem?_getD, List.getElem?_drop, show min 16 len + (4 * i + b / 8 - min 16 len) = 4 * i + b / 8 by omega,
        ← List.getD_eq_getElem?_getD, wordsBytes_getD _ _ _ (by omega), if_pos (by simpa using hi), hreg]
    rw [List.getD_append_right _ _ _ _ (by rw [htake]; omega), htake, hout, wordBytes_bit _ hb]

theorem sbDone_idle {n : Fin 4} {ok : Bool} {data : BitVec 128} {s : State} (h : (s.rd (SCN_SB_CTRL n)).getLsbD 2 = false) :
    exec (.scnSbDone n ok data) s = .next s := by
  have h' : bitOf (s.rd (SCN_SB_CTRL n)) 2 = false := h
  exact congrArg Host.Outcome.next (if_pos (by rw [h']; rfl))

theorem sbDone_busy {n : Fin 4} {ok : Bool} {data : BitVec 128} {s a : State} (h : (s.rd (SCN_SB_CTRL n)).getLsbD 2 = true)
    (ha : s.wr (SCN_SB_CTRL n) (putBit (putBit (s.rd (SCN_SB_CTRL n)) 2 false) 3 (!ok)) = a) :
    exec (.scnSbDone n ok data) s = .next (if ok && !bitOf (s.rd (SCN_SB_CTRL n)) 1 then
      a.wrList (SCN_SB_DATA n) ((List.range 4).map (fun i => w32 (leAt (sbBytes s n data) (4 * i) 4))) 0 else a) := by
  have h' : bitOf (s.rd (SCN_SB_CTRL n)) 2 = true := h
  have hregsA : RegsBut s a [(SCN_SB_CTRL n).off] := ha ▸ (RegsBut.refl s _).wr _ _
  have hdata (i : Nat) : s.rd (SCN_SB_DATA n i) = a.rd (SCN_SB_DATA n i) :=
    (hregsA.rd (by simp only [SCN_SB_DATA, SCN_SB_CTRL, List.mem_singleton]; omega)).symm
  refine congrArg Host.Outcome.next ((if_neg (by rw [h']; exact Bool.false_ne_true)).trans ?_)
  simp only [sbBytes, hdata]
  rw [ha]
  rfl

theorem sbDone_runs {n : Fin 4} {ok : Bool} {data : BitVec 128} {s : State} (h : (s.rd (SCN_SB_CTRL n)).getLsbD 2 = true) : Runs (.scnSbDone n ok data) s (fun t =>
      (∀ b, b < 32 → (t.rd (SCN_SB_CTRL n)).getLsbD b = if b = 2 then false else if b = 3 then !ok else (s.rd (SCN_SB_CTRL n)).getLsbD b) ∧
      (∀ i b, i < 4 → b < 32 → (t.rd (SCN_SB_DATA n i)).getLsbD b =
        if ok = true ∧ (s.rd (SCN_SB_CTRL n)).getLsbD 1 = false ∧ 4 * i + b / 8 < bitsOf (s.rd (SCN_SB_CTRL n)).toNat 12 8 + 1 then data.getLsbD (32 * i + b)
        else (s.rd (SCN_SB_DATA n i)).getLsbD b) ∧
      RegsBut s t [(SCN_SB_CTRL n).off, (SCN_SB_DATA n 0).off, (SCN_SB_DATA n 1).off, (SCN_SB_DATA n 2).off, (SCN_SB_DATA n 3).off] ∧
      t = { s with regs := t.regs }) := by
  generalize ha : s.wr (SCN_SB_CTRL n) (putBit (putBit (s.rd (SCN_SB_CTRL n)) 2 false) 3 (!ok)) = a
  have hrun := sbDone_busy (ok := ok) (data := data) h ha
  have honlyA : OnlyRegs s a := ha ▸ (OnlyRegs.refl s).wr _ _
  have hregsA : RegsBut s a [(SCN_SB_CTRL n).off] := ha ▸ (RegsBut.refl s _).wr _ _
  have hctrlA (b : Nat) (hb : b < 32) : (a.rd (SCN_SB_CTRL n)).getLsbD b = if b = 2 then false else if b = 3 then !ok else (s.rd (SCN_SB_CTRL n)).getLsbD b := by
    rw [← ha, State.rd_wr_self, getLsbD_putBit _ _ hb, getLsbD_putBit _ _ hb]
    by_cases h2 : b = 2
    · rw [if_pos h2, if_pos h2, if_neg (by omega)]
    · rw [if_neg h2, if_neg h2]
  have hdataA (i : Nat) : a.rd (SCN_SB_DATA n i) = s.rd (SCN_SB_DATA n i) := hregsA.rd (by simp only [SCN_SB_DATA, SCN_SB_CTRL, List.mem_singleton]; omega)
  cases hread : (ok && !bitOf (s.rd (SCN_SB_CTRL n)) 1) with
  | false =>
    rw [hread, if_neg Bool.false_ne_true] at hrun
    refine Runs.next hrun ⟨hctrlA, fun i b _ _ => ?_, hregsA.mono (by simp), honlyA⟩
    rw [hdataA, if_neg]
    rintro ⟨hok, hrw, -⟩
    rw [hok, bitOf, hrw] at hread
    exact Bool.noConfusion hread
  | true =>
    obtain ⟨hok, hrw⟩ := Bool.and_eq_true_iff.1 hread
    rw [hread, if_pos rfl] at hrun
    generalize hws : (List.range 4).map (fun i => w32 (leAt (sbBytes s n data) (4 * i) 4)) = ws at hrun
    have hlen : ws.length = 4 := by rw [← hws]; rfl
    have hne (i k : Nat) : (SCN_SB_CTRL n).off ≠ (SCN_SB_DATA n (i + k)).off := by simp only [SCN_SB_CTRL, SCN_SB_DATA]; omega
    refine Runs.next hrun ⟨fun b hb => ?_, fun i b hi hb => ?_, ?_, honlyA.trans (wrList_only a _ ws 0)⟩
    · rw [rd_wrList_other ws a 0 (fun i _ => hne 0 i)]
      exact hctrlA b hb
    · have hrd := rd_wrList (r := SCN_SB_DATA n) (fun x y hxy => by simp only [SCN_SB_DATA]; omega) ws a 0 i (by rw [hlen]; exact hi)
      have hword : (ws[i]?).getD 0 = w32 (leAt (sbBytes s n data) (4 * i) 4) := by
        rw [← hws, List.getElem?_map, List.getElem?_range hi]
        rfl
      rw [Nat.zero_add] at hrd
      rw [hrd, hword, leAt_bit _ _ hb, sbBytes_bit s n data hi hb]
      exact if_congr ⟨fun hlt => ⟨hok, by simpa [bitOf] using hrw, hlt⟩, fun hlt => hlt.2.2⟩ rfl rfl
    · have hlist : RegsBut s (a.wrList (SCN_SB_DATA n) ws 0)
          [(SCN_SB_CTRL n).off, (SCN_SB_DATA n 0).off, (SCN_SB_DATA n 1).off, (SCN_SB_DATA n 2).off, (SCN_SB_DATA n 3).off] := by
        rw [← hws]
        exact ((((hregsA.mono (by simp)).wr (SCN_SB_DATA n 0) _).wr (SCN_SB_DATA n 1) _).wr (SCN_SB_DATA n 2) _).wr (SCN_SB_DATA n 3) _
      exact hlist

theorem sideband : Sideband := by
  unfold Sideband
  intro n v ok data s
  exact ⟨fun hreach hbusy => exec_hostDo hreach (sbWrite_busy hbusy), fun hreach hidle hgo => sideband_starts hreach hidle hgo, fun hidle => sbDone_idle hidle,
    fun hbusy => sbDone_runs hbusy⟩

/-! ### Hot plug and link training -/

/-- The registers of events and of the landing quads. -/
def QuadReg (o : Nat) : Prop := BelowScan o ∨ 0x4000000 ≤ o

/-- What a quad's stage changes. -/
def QuadFrame (s t : State) : Prop := OnlyRegsOcc s t ∧ RegsIn QuadReg s t

theorem QuadFrame.refl (s : State) : QuadFrame s s := ⟨OnlyRegsOcc.refl s, RegsIn.refl _ s⟩

theorem QuadFrame.wr {s t : State} (h : QuadFrame s t) (r : Reg) (v : Word) (hr : 0x4000000 ≤ r.off) : QuadFrame s (t.wr r v) :=
  ⟨h.1.wr r v, h.2.wr r v (Or.inr hr)⟩

theorem QuadFrame.raise {s t : State} (h : QuadFrame s t) {ev : Nat} (src : Nat) (items : List Word) (hev : ev < 1024) : QuadFrame s (t.raise ev src items) := by
  have hregs : RegsBut t (t.raise ev src items) (evRegs ev) := (RegsBut.refl t _).raise ev src items
  exact ⟨h.1.raise ev src items, h.2.trans (hregs.regsIn fun o ho => Or.inl (belowScan_ev hev o ho))⟩

theorem QuadFrame.foldl {s : State} {f : State → Nat → State} (hf : ∀ u q, QuadFrame s u → QuadFrame s (f u q)) : ∀ (qs : List Nat) {t : State},
    QuadFrame s t → QuadFrame s (qs.foldl f t)
  | [], _, h => h
  | q :: qs, _, h => QuadFrame.foldl hf qs (hf _ q h)

theorem lndStatus_off (q : Nat) : 0x4000000 ≤ (LND_Q_STATUS q).off := by simp only [LND_Q_STATUS]; omega

theorem setQuadStage_frame {s t : State} (h : QuadFrame s t) (q k : Nat) : QuadFrame s (t.setQuadStage q k) := by
  unfold State.setQuadStage
  split
  · exact h
  · exact (h.wr (LND_Q_STATUS q) _ (lndStatus_off q)).raise _ _ (by decide)

theorem quadDetect_frame {s t : State} (h : QuadFrame s t) (q : Nat) : QuadFrame s (t.quadDetect q) := by
  unfold State.quadDetect
  split
  · exact setQuadStage_frame h q 1
  · exact h

theorem quadFail_frame {s t : State} (h : QuadFrame s t) (q : Nat) : QuadFrame s (t.quadFail q) := by
  unfold State.quadFail
  dsimp only
  refine setQuadStage_frame (QuadFrame.wr ?_ _ _ (lndStatus_off q)) q 0
  split
  · exact (h.wr (LND_Q_DOWN_CNT q) _ (by simp only [LND_Q_DOWN_CNT]; omega)).raise _ _ (by decide)
  · exact h

theorem quadFrame_status {s t : State} (h : QuadFrame s t) (n : Fin 4) : t.rd (SCN_STATUS n) = s.rd (SCN_STATUS n) :=
  h.2.rd (by simp only [QuadReg, BelowScan, SCN_STATUS]; omega)

/-- The link of a head idles with event 444. -/
theorem scnLinkDown_shows (s : State) (n : Fin 4) {t : State} (ht : s.scnLinkDown n = t) : t.bit (SCN_STATUS n) SCN_STATUS_LINK_UP = false ∧
    t.bit (SCN_STATUS n) SCN_STATUS_HPD = s.bit (SCN_STATUS n) SCN_STATUS_HPD ∧ Raised s t 444 (0x0700 + n) 0 ∧
    RegsBut s t ((SCN_STATUS n).off :: evRegs 444) ∧ OnlyRegsOcc s t ∧ s.settle t = t := by
  have hev := scanReg_ev (o := (SCN_STATUS n).off) (ev := 444) (by simp only [SCN_STATUS]; omega) (by decide)
  rw [State.scnLinkDown] at ht
  generalize hu : s.setBit (SCN_STATUS n) SCN_STATUS_LINK_UP false = u at ht
  have hregs : RegsBut s u [(SCN_STATUS n).off] := hu ▸ (RegsBut.refl s _).setBit _ _ _
  have honly : OnlyRegs s u := hu ▸ (OnlyRegs.refl s).setBit _ _ _
  have hrd : t.rd (SCN_STATUS n) = u.rd (SCN_STATUS n) := by rw [← ht, State.rd_raise _ _ _ _ hev.1 hev.2]
  refine ⟨?_, ?_, ht ▸ State.raised_raise 444 _ _ honly.occ (hregs.rd (by simpa using hev.1.symm)), ht ▸ (hregs.mono (by simp)).raise 444 _ _ (by simp),
    ht ▸ honly.regsOcc.raise _ _ _, ht ▸ State.settle_raise _ _ _ honly.occ⟩
  · rw [State.bit, hrd, ← hu]
    exact State.bit_setBit_self s _ SCN_STATUS_LINK_UP false
  · rw [State.bit, hrd, ← hu]
    exact State.bit_setFld_ne s (SCN_STATUS n) (f := SCN_STATUS_LINK_UP) (g := SCN_STATUS_HPD) _

theorem hpdChange_runs (n : Fin 4) (s : State) (level : Bool) : Runs (.hpdChange n level) s (fun t => t.bit (SCN_STATUS n) SCN_STATUS_HPD = level ∧
      (s.bit (SCN_STATUS n) SCN_STATUS_HPD = true → level = false → t.bit (SCN_STATUS n) SCN_STATUS_LINK_UP = false) ∧
      t = { s with regs := t.regs, occ := t.occ }) := by
  generalize hqs : (s.scnQuads n).filter (fun q => s.quadProto q == 4 || s.quadProto q == 5) = qs
  generalize hu : s.setBit (SCN_STATUS n) SCN_STATUS_HPD level = u
  have hrun : exec (.hpdChange n level) s = .next (s.settle (if s.bit (SCN_STATUS n) SCN_STATUS_HPD && !level then
      (qs.foldl (fun s q => s.quadFail q) u).scnLinkDown n else if level then qs.foldl (fun s q => s.quadDetect q) u else u)) := by
    subst hqs hu
    rfl
  have honly : OnlyRegsOcc s u := hu ▸ (OnlyRegsOcc.refl s).setBit _ _ _
  have hhpd : u.bit (SCN_STATUS n) SCN_STATUS_HPD = level := by rw [← hu]; exact State.bit_setBit_self s _ SCN_STATUS_HPD level
  generalize ht : (if s.bit (SCN_STATUS n) SCN_STATUS_HPD && !level then (qs.foldl (fun s q => s.quadFail q) u).scnLinkDown n
    else if level then qs.foldl (fun s q => s.quadDetect q) u else u) = t at hrun
  suffices h : t.bit (SCN_STATUS n) SCN_STATUS_HPD = level ∧
      (s.bit (SCN_STATUS n) SCN_STATUS_HPD = true → level = false → t.bit (SCN_STATUS n) SCN_STATUS_LINK_UP = false) ∧ OnlyRegsOcc s t from
    Runs.next hrun ⟨h.1, h.2.1, h.2.2.settle s⟩
  have hhpdOf {v : State} (hv : QuadFrame u v) : v.bit (SCN_STATUS n) SCN_STATUS_HPD = level := by rw [State.bit, quadFrame_status hv]; exact hhpd
  rw [← ht]
  split
  · have hv : QuadFrame u (qs.foldl (fun s q => s.quadFail q) u) := QuadFrame.foldl (fun _ q h => quadFail_frame h q) qs (QuadFrame.refl u)
    obtain ⟨hlink, hkept, -, -, hdown, -⟩ := scnLinkDown_shows (qs.foldl (fun s q => s.quadFail q) u) n rfl
    exact ⟨hkept.trans (hhpdOf hv), fun _ _ => hlink, (honly.trans hv.1).trans hdown⟩
  · next hfall =>
    have hnone : s.bit (SCN_STATUS n) SCN_STATUS_HPD = true → level = false → False := fun h1 h2 => hfall (by rw [h1, h2]; rfl)
    split
    · have hv : QuadFrame u (qs.foldl (fun s q => s.quadDetect q) u) := QuadFrame.foldl (fun _ q h => quadDetect_frame h q) qs (QuadFrame.refl u)
      exact ⟨hhpdOf hv, fun h1 h2 => absurd h2 (fun h2 => hnone h1 h2), honly.trans hv.1⟩
    · exact ⟨hhpd, fun h1 h2 => absurd h2 (fun h2 => hnone h1 h2), honly⟩

theorem hpdFalls_alone {n : Fin 4} {s : State} (hquads : s.scnQuads n = []) (hhpd : s.bit (SCN_STATUS n) SCN_STATUS_HPD = true) :
    Runs (.hpdChange n false) s (fun t => Raised s t 444 (0x0700 + n) 0 ∧ RegsBut s t ((SCN_STATUS n).off :: evRegs 444)) := by
  have hev := scanReg_ev (o := (SCN_STATUS n).off) (ev := 444) (by simp only [SCN_STATUS]; omega) (by decide)
  generalize hu : s.setBit (SCN_STATUS n) SCN_STATUS_HPD false = u
  have hrun : exec (.hpdChange n false) s = .next (s.settle (u.scnLinkDown n)) := by
    subst hu
    exact congrArg (fun v => Host.Outcome.next (s.settle v)) ((if_pos (by rw [hhpd]; rfl)).trans (by rw [hquads]; rfl))
  obtain ⟨-, -, hraised, hregs, -, -⟩ := scnLinkDown_shows u n rfl
  have hsu : RegsBut s u [(SCN_STATUS n).off] := hu ▸ (RegsBut.refl s _).setBit _ _ _
  have hocc : u.occ = s.occ := by rw [← hu]; rfl
  exact Runs.next hrun ⟨State.raised_settle (hraised.earlier hocc hsu (by simpa using hev.1.symm)), ((hsu.mono (by simp)).trans hregs).settle⟩

theorem linkTrains {n : Fin 4} {s : State} (psr : Bool) : Runs (.scnLinkTrained n true psr) s (fun t =>
      t.bit (SCN_STATUS n) SCN_STATUS_LINK_UP = true ∧ Raised s t 445 (0x0700 + n) 0 ∧
      t.scnOf n = { s.scnOf n with psrSink := s.fld (SCN_CFG n) SCN_CFG_PROTO == 5 && psr } ∧
      t.bit (SCN_STATUS n) SCN_STATUS_PSR_UNSUP = (s.fld (SCN_CFG n) SCN_CFG_PROTO == 5 && !psr && s.bit (SCN_PSR n) SCN_PSR_EN) ∧
      RegsBut s t ((SCN_STATUS n).off :: evRegs 445) ∧ t = { s with regs := t.regs, scn := t.scn, occ := t.occ }) := by
  have hev := scanReg_ev (o := (SCN_STATUS n).off) (ev := 445) (by simp only [SCN_STATUS]; omega) (by decide)
  generalize hedp : (s.fld (SCN_CFG n) SCN_CFG_PROTO == 5) = edp
  generalize ha : (s.setBit (SCN_STATUS n) SCN_STATUS_LINK_UP true).setScn n { s.scnOf n with psrSink := edp && psr } = a
  have hpsr : a.bit (SCN_PSR n) SCN_PSR_EN = s.bit (SCN_PSR n) SCN_PSR_EN := by
    rw [← ha]
    exact State.bit_wr_ne s _ _ (by simp only [SCN_PSR, SCN_STATUS]; omega)
  generalize hu : a.setBit (SCN_STATUS n) SCN_STATUS_PSR_UNSUP (edp && !psr && s.bit (SCN_PSR n) SCN_PSR_EN) = u
  have hrun : exec (.scnLinkTrained n true psr) s = .next (u.raise 445 (0x0700 + n)) := by
    subst hu hedp
    rw [← hpsr, ← ha]
    rfl
  have hregsA : RegsBut s a [(SCN_STATUS n).off] := ha ▸ ((RegsBut.refl s _).setBit (SCN_STATUS n) _ _).congr
  have hregs : RegsBut s u [(SCN_STATUS n).off] := hu ▸ hregsA.setBit _ _ _
  have hocc : u.occ = s.occ := by rw [← hu, ← ha]; rfl
  have hlink : u.bit (SCN_STATUS n) SCN_STATUS_LINK_UP = true := by
    have hlinkA : a.bit (SCN_STATUS n) SCN_STATUS_LINK_UP = true := by rw [← ha]; exact State.bit_setBit_self s _ SCN_STATUS_LINK_UP true
    rw [← hu, ← hlinkA]
    exact State.bit_setFld_ne a (SCN_STATUS n) (f := SCN_STATUS_PSR_UNSUP) (g := SCN_STATUS_LINK_UP) _
  refine Runs.next hrun ⟨?_, State.raised_raise 445 _ _ hocc (hregs.rd (by simpa using hev.1.symm)), ?_, ?_, (hregs.mono (by simp)).raise 445 _ _ (by simp), ?_⟩
  · rw [State.bit, State.rd_raise _ _ _ _ hev.1 hev.2]
    exact hlink
  · rw [State.scnOf, State.raise_scn, ← hu, ← ha]
    exact State.scnOf_setScn _ n _
  · rw [State.bit, State.rd_raise _ _ _ _ hev.1 hev.2, ← hu]
    exact State.bit_setBit_self a _ SCN_STATUS_PSR_UNSUP _
  · have honly : OnlyRegsOcc a (u.raise 445 (0x0700 + n)) := hu ▸ ((OnlyRegsOcc.refl a).setBit _ _ _).raise _ _ _
    have hframe : a = { s with regs := a.regs, scn := a.scn } := by rw [← ha]; rfl
    rw [OnlyRegsOcc] at honly
    rw [honly, hframe]

theorem linksOfHeads : LinksOfHeads := by
  unfold LinksOfHeads
  intro n s
  refine ⟨hpdChange_runs n s, fun hquads hhpd => hpdFalls_alone hquads hhpd, fun psr => ?_, fun psr => linkTrains psr⟩
  obtain ⟨hlink, -, hraised, hregs, honly, -⟩ := scnLinkDown_shows s n rfl
  exact Runs.next (t := s.scnLinkDown n) rfl ⟨hlink, hraised, hregs, honly⟩

/-- Settles O31: the wake check, the sideband, and hot plug and link training. -/
theorem scanLinks : Obligations.ScanLinks := by
  unfold Obligations.ScanLinks
  exact ⟨wakeChecks, sideband, linksOfHeads⟩

end Sys2Proof.Machine
end

section
/-! PROOFS. Encoder cores: session commits, and pictures that start and end (R296, R303, R317, R322 to R325). -/

-- One proof at a time: the text is compiled as one file in bounded memory.
set_option Elab.async false

namespace Sys2Proof.Machine
open Sys2Proof.Claims

/-! ### Refusal records -/

/-- A refusal kept in two registers, with its event: the code, the time, and nothing else. -/
theorem refusalRaised (s : State) {a b : Reg} (w : Word) {ev src : Nat} (items : List Word) (hdiff : a.off ≠ b.off)
    (ha : a.off ≠ (EVT_R_CNT ev).off ∧ a.off ≠ (EVT_R_LAST ev).off) (hb : b.off ≠ (EVT_R_CNT ev).off ∧ b.off ≠ (EVT_R_LAST ev).off) {t : State}
    (ht : ((s.wr a w).wr b s.ns).raise ev src items = t) :
    t.rd a = w ∧ t.rd b = s.ns ∧ Raised s t ev src (items.headD 0) ∧ RegsBut s t (a.off :: b.off :: evRegs ev) ∧ t = { s with regs := t.regs, occ := t.occ } := by
  have hregs : RegsBut s ((s.wr a w).wr b s.ns) [a.off, b.off] := ((RegsBut.refl s _).wr _ _).wr _ _
  have honly : OnlyRegs s ((s.wr a w).wr b s.ns) := ((OnlyRegs.refl s).wr _ _).wr _ _
  generalize hu : (s.wr a w).wr b s.ns = u at *
  rw [← ht]
  refine ⟨?_, ?_, State.raised_raise ev _ _ honly.occ (hregs.rd (by simpa using ⟨ha.1.symm, hb.1.symm⟩)), (hregs.mono (by simp)).raise ev _ _ (by simp),
    honly.regsOcc.raise ev _ _⟩
  · rw [State.rd_raise _ _ _ _ ha.1 ha.2, ← hu, State.rd_wr_ne _ _ hdiff, State.rd_wr_self]
  · rw [State.rd_raise _ _ _ _ hb.1 hb.2, ← hu, State.rd_wr_self]

/-! ### Session commits -/

section
variable {c e : Fin 4} {v : Word} {s : State} (hreach : Reach s (ENC_S_COMMIT c e)) (h0 : v.getLsbD 0 = true) (h1 : v.getLsbD 1 = false)
include hreach h0 h1

theorem encCommit_discarded (hpend : s.bit (ENC_S_STATUS c e) ENC_S_STATUS_PENDING = true) :
    exec (.encSessionCommit c e v) s = .next (s.setBit (ENC_S_STATUS c e) ENC_S_STATUS_WR_DISCARD true) := by
  refine exec_hostDo hreach ?_
  unfold State.encCommitWrite
  dsimp only
  rw [if_neg (show ¬ bitOf v 1 = true by rw [bitOf, h1]; exact Bool.false_ne_true), if_neg (by rw [bitOf, h0]; exact Bool.false_ne_true), if_pos hpend]

variable (hpend : s.bit (ENC_S_STATUS c e) ENC_S_STATUS_PENDING = false)
include hpend

theorem encCommit_refused {k : Nat} (hcode : (if s.rigListing (0x0800 + c) then some 0x0503 else s.encCheck c e (s.encShadow c e)) = some k) :
    Runs (.encSessionCommit c e v) s (fun t =>
      t.rd (ENC_S_REFUSAL c e) = w32 k ∧ t.rd (ENC_S_REFUSAL_TIME c e) = s.ns ∧ Raised s t 583 (0x0800 + c) 0 ∧
      RegsBut s t ((ENC_S_REFUSAL c e).off :: (ENC_S_REFUSAL_TIME c e).off :: evRegs 583) ∧ t = { s with regs := t.regs, occ := t.occ }) := by
  have hwrite : s.encCommitWrite c e v = ((s.wr (ENC_S_REFUSAL c e) (w32 k)).wr (ENC_S_REFUSAL_TIME c e) s.ns).raise 583 (0x0800 + c) := by
    unfold State.encCommitWrite
    dsimp only
    rw [if_neg (show ¬ bitOf v 1 = true by rw [bitOf, h1]; exact Bool.false_ne_true), if_neg (by rw [bitOf, h0]; exact Bool.false_ne_true),
      if_neg (by rw [hpend]; exact Bool.false_ne_true), hcode]
  exact Runs.next (exec_hostDo hreach hwrite) (refusalRaised s (w32 k) [] (by simp only [ENC_S_REFUSAL, ENC_S_REFUSAL_TIME]; omega)
    (scanReg_ev (by simp only [ENC_S_REFUSAL]; omega) (by decide)) (scanReg_ev (by simp only [ENC_S_REFUSAL_TIME]; omega) (by decide)) rfl)

theorem encCommit_accepted (hrig : s.rigListing (0x0800 + c) = false) (hcheck : s.encCheck c e (s.encShadow c e) = none) :
    Runs (.encSessionCommit c e v) s (fun t =>
        t.bit (ENC_S_STATUS c e) ENC_S_STATUS_PENDING = true ∧ (t.rd (ENC_S_COMMIT c e)).getLsbD 0 = true ∧
        t.rd (ENC_S_REPLACED c e) = satAdd (s.rd (ENC_S_REPLACED c e)) (s.encShadow c e).clampRoi.2 ∧
        RegsBut s t [(ENC_S_STATUS c e).off, (ENC_S_COMMIT c e).off, (ENC_S_REPLACED c e).off] ∧ t = { s with regs := t.regs }) := by
  generalize ha : s.inc (ENC_S_REPLACED c e) (s.encShadow c e).clampRoi.2 = a
  generalize hb : a.wr (ENC_S_COMMIT c e) (putBit (a.rd (ENC_S_COMMIT c e)) 0 true) = b
  have hwrite : s.encCommitWrite c e v = b.setBit (ENC_S_STATUS c e) ENC_S_STATUS_PENDING true := by
    unfold State.encCommitWrite
    dsimp only
    rw [if_neg (show ¬ bitOf v 1 = true by rw [bitOf, h1]; exact Bool.false_ne_true), if_neg (by rw [bitOf, h0]; exact Bool.false_ne_true),
      if_neg (by rw [hpend]; exact Bool.false_ne_true), hrig, if_neg Bool.false_ne_true, hcheck]
    dsimp only
    rw [ha, hb]
  have hsc : (ENC_S_COMMIT c e).off ≠ (ENC_S_STATUS c e).off := by simp only [ENC_S_COMMIT, ENC_S_STATUS]; omega
  have hrc : (ENC_S_REPLACED c e).off ≠ (ENC_S_COMMIT c e).off := by simp only [ENC_S_COMMIT, ENC_S_REPLACED]; omega
  have hrs : (ENC_S_REPLACED c e).off ≠ (ENC_S_STATUS c e).off := by simp only [ENC_S_REPLACED, ENC_S_STATUS]; omega
  refine Runs.next (exec_hostDo hreach hwrite) ⟨State.bit_setBit_self b _ ENC_S_STATUS_PENDING true, ?_, ?_, ?_, ?_⟩
  · rw [State.setBit_eq, State.rd_wr_ne _ _ hsc, ← hb, State.rd_wr_self, getLsbD_putBit _ _ (by decide), if_pos rfl]
  · rw [State.setBit_eq, State.rd_wr_ne _ _ hrs, ← hb, State.rd_wr_ne _ _ hrc, ← ha, State.inc_eq, State.rd_wr_self]
  · rw [← hb, ← ha]
    exact (((RegsBut.refl s _).inc (ENC_S_REPLACED c e) _).wr (ENC_S_COMMIT c e) _).setBit (ENC_S_STATUS c e) _ _
  · rw [← hb, ← ha]
    exact (((OnlyRegs.refl s).inc _ _).wr _ _).setBit _ _ _

end

theorem sessionCommits : SessionCommits := by
  unfold SessionCommits
  intro c e v s hreach h0 h1
  exact ⟨fun hpend => encCommit_discarded hreach h0 h1 hpend, fun hpend hrig => encCommit_refused hreach h0 h1 hpend (by rw [hrig]; rfl),
    fun k hpend hrig hcheck => encCommit_refused hreach h0 h1 hpend (by rw [hrig]; exact hcheck),
    fun hpend hrig hcheck => encCommit_accepted hreach h0 h1 hpend hrig hcheck⟩

/-! ### A picture starts -/

theorem State.encCoreOf_setEncCore (s : State) (c : Nat) (x : EncCore) : (s.setEncCore c x).encCoreOf c = x := tabGet_set_self _ _ _ _

theorem State.encOf_setEnc (s : State) (c e : Nat) (x : EncSess) : (s.setEnc c e x).encOf c e = x := tabGet_set_self _ _ _ _

theorem encApply_none {s : State} {c e : Nat} (h : s.bit (ENC_S_STATUS c e) ENC_S_STATUS_PENDING = false) : s.encApply c e = s := if_pos (by rw [h]; rfl)

/-- A picture taken on a core: its session and core, and the registers that show it. -/
def State.encTaken (s : State) (c e : Nat) (x : EncSess) (p : EncPic) (fc : Nat) : State :=
  let s := ((s.setEnc c e x).setEncCore c { (s.setEnc c e x).encCoreOf c with cur := some p }).encQueued c e
  let s := (s.wr (ENC_C_STATUS c) ((s.rd (ENC_C_STATUS c) &&& 0xFFFFFFF8) ||| w32 (4 + e))).setFld (ENC_S_STATUS c e) ENC_S_STATUS_PHASE p.phase
  s.wr (ENC_S_FQ c e) (w32 (s.encFq c e fc))

theorem encTaken_shows (s : State) (c e : Fin 4) (x : EncSess) (p : EncPic) (fc : Nat) (hphase : p.phase < 4) {t : State} (ht : s.encTaken c e x p fc = t) :
    t.encCoreOf c = { s.encCoreOf c with cur := some p } ∧ t.encOf c e = x ∧
    t.rd (ENC_C_STATUS c) = (s.rd (ENC_C_STATUS c) &&& 0xFFFFFFF8) ||| w32 (4 + e) ∧ t.fld (ENC_S_STATUS c e) ENC_S_STATUS_PHASE = p.phase ∧
    RegsBut s t [(ENC_C_STATUS c).off, (ENC_S_STATUS c e).off, (ENC_S_FQ c e).off] ∧ t = { s with regs := t.regs, enc := t.enc, encCore := t.encCore } := by
  have hcs : (ENC_C_STATUS c).off ≠ (ENC_S_STATUS c e).off := by simp only [ENC_C_STATUS, ENC_S_STATUS]; omega
  have hcf : (ENC_C_STATUS c).off ≠ (ENC_S_FQ c e).off := by simp only [ENC_C_STATUS, ENC_S_FQ]; omega
  have hsf : (ENC_S_STATUS c e).off ≠ (ENC_S_FQ c e).off := by simp only [ENC_S_STATUS, ENC_S_FQ]; omega
  rw [State.encTaken] at ht
  generalize ha : (s.setEnc c e x).setEncCore c { (s.setEnc c e x).encCoreOf c with cur := some p } = a at ht
  have haframe : a = { s with enc := a.enc, encCore := a.encCore } := by rw [← ha]; rfl
  have haregs : a.regs = s.regs := by rw [haframe]
  have hard (r : Reg) : a.rd r = s.rd r := ((RegsBut.refl s []).congr haregs).rd List.not_mem_nil
  generalize hb : a.encQueued c e = b at ht
  have hbregs : RegsBut a b [(ENC_S_STATUS c e).off] := hb ▸ (RegsBut.refl a _).setFld _ _ _
  generalize hd : b.wr (ENC_C_STATUS c) ((b.rd (ENC_C_STATUS c) &&& 0xFFFFFFF8) ||| w32 (4 + e)) = d at ht
  generalize hf : d.setFld (ENC_S_STATUS c e) ENC_S_STATUS_PHASE p.phase = f at ht
  have honly : OnlyRegs a t := by
    have h1 : OnlyRegs a b := hb ▸ (OnlyRegs.refl a).setFld _ _ _
    have h2 : OnlyRegs a d := hd ▸ h1.wr _ _
    have h3 : OnlyRegs a f := hf ▸ h2.setFld _ _ _
    exact ht ▸ h3.wr _ _
  have hregs : RegsBut s t [(ENC_C_STATUS c).off, (ENC_S_STATUS c e).off, (ENC_S_FQ c e).off] := by
    have h1 : RegsBut s b [(ENC_C_STATUS c).off, (ENC_S_STATUS c e).off, (ENC_S_FQ c e).off] := ((RegsBut.refl s _).congr haregs).trans (hbregs.mono (by simp))
    have h2 := hd ▸ h1.wr (ENC_C_STATUS c) ((b.rd (ENC_C_STATUS c) &&& 0xFFFFFFF8) ||| w32 (4 + e))
    have h3 := hf ▸ h2.setFld (ENC_S_STATUS c e) ENC_S_STATUS_PHASE p.phase
    exact ht ▸ h3.wr _ _
  refine ⟨?_, ?_, ?_, ?_, hregs, ?_⟩
  · rw [State.encCoreOf, honly.field State.encCore, ← ha]
    exact State.encCoreOf_setEncCore _ c _
  · rw [State.encOf, honly.field State.enc, ← ha]
    exact State.encOf_setEnc s c e x
  · rw [← ht, State.rd_wr_ne _ _ hcf, ← hf, State.rd_setFld_ne _ _ _ hcs, ← hd, State.rd_wr_self,
      hbregs.rd (by simpa using hcs), hard]
  · rw [State.fld, ← ht, State.rd_wr_ne _ _ hsf, ← hf]
    exact (State.fld_setFld_self d _ ENC_S_STATUS_PHASE p.phase).trans (Nat.mod_eq_of_lt hphase)
  · rw [OnlyRegs] at honly
    rw [honly, haframe]

/-- A picture starts on its core: what is taken. -/
theorem encStart_takes {s : State} {c e : Fin 4} {extra : Nat} {pre : List Byte} {f : EncFrame} {fs : List EncFrame}
    (hpend : s.bit (ENC_S_STATUS c e) ENC_S_STATUS_PENDING = false) (hstruct : s.encStruct c e ≠ 3) (hsub : s.encSub c e = false)
    (hqueue : (s.encOf c e).queue = f :: fs) (hclosed : (s.encOf c e).closed = false) :
    ∃ x p fc, s.encStart c e extra pre = s.encTaken c e x p fc ∧ x.queue = (f :: fs).filter (fun g => g.idx != f.idx) ∧
      p.session = e ∧ p.frame = f ∧ (p.typ, p.irap) = s.encKind c e (s.encOf c e).plan.head? ∧ p.phase = 1 ∧ p.row = 0 ∧ p.slices = s.encSlices c e ∧
      p.payload = pre ∧
      p.cap = if (s.encOf c e).act.hrd then min (8 * (s.encOf c e).act.hardCap.toNat) (s.encFullness c e f.gap) else 8 * (s.encOf c e).act.hardCap.toNat := by
  rcases hkind : s.encKind c e (s.encOf c e).plan.head? with ⟨typ, irap⟩
  have hsubT (x : EncSess) (p : EncPic) (fc : Nat) (hphase : p.phase < 4) : (s.encTaken c e x p fc).encSub c e = false := by
    obtain ⟨-, -, -, -, hregs, -⟩ := encTaken_shows s c e x p fc hphase rfl
    rw [State.encSub, State.bit, hregs.rd]
    · exact hsub
    · simp only [ENC_S_CODEC, ENC_C_STATUS, ENC_S_STATUS, ENC_S_FQ, List.mem_cons, List.not_mem_nil, or_false, not_or]
      omega
  unfold State.encStart
  dsimp only
  rw [encApply_none hpend, beq_false_of_ne hstruct, if_neg Bool.false_ne_true, hqueue, List.head?_cons]
  dsimp only
  rw [hkind, hclosed, hsub]
  dsimp only
  simp only [Bool.false_eq_true, if_false]
  refine ⟨_, _, _, ((if_neg ?_).trans rfl : _ = s.encTaken c e _ _ _), rfl, rfl, rfl, rfl, rfl, rfl, rfl, rfl, rfl⟩
  exact Bool.eq_false_iff.1 (hsubT _ _ _ (show 1 < 4 by decide))

theorem pictureStart_off {c e : Fin 4} {extra : Nat} {pre : List Byte} {s : State} {ws : List Nat} (hcur : (s.encCoreOf c).cur = none)
    (hwait : (s.encCoreOf c).wait = e.val :: ws) (hoff : s.encOn c e = false) :
    exec (.encPictureStart c extra pre) s = .next (s.setEncCore c { s.encCoreOf c with wait := ws }) := by
  have hrun : execEncPictureStart c extra pre s = .next (s.setEncCore c { s.encCoreOf c with wait := ws }) := by
    unfold execEncPictureStart
    dsimp only
    simp only [hcur, hwait, hoff, Bool.false_eq_true, if_false]
  exact hrun

theorem pictureStart_on {c e : Fin 4} {extra : Nat} {pre : List Byte} {s u : State} {ws : List Nat} (hcur : (s.encCoreOf c).cur = none)
    (hwait : (s.encCoreOf c).wait = e.val :: ws) (hon : s.encOn c e = true) (hu : s.setEncCore c { s.encCoreOf c with wait := ws } = u) :
    exec (.encPictureStart c extra pre) s = .next (s.settle (u.encStart c e extra pre)) := by
  have hrun : execEncPictureStart c extra pre s = .next (s.settle (u.encStart c e extra pre)) := by
    unfold execEncPictureStart
    subst hu
    simp only [hcur, hwait, hon, if_true]
  exact hrun

theorem picturesStart : PicturesStart := by
  unfold PicturesStart
  intro c e extra pre s ws f fs hcur hwait
  refine ⟨fun hoff => pictureStart_off hcur hwait hoff, fun hon hpend hstruct hsub hqueue hclosed => ?_⟩
  generalize hu : s.setEncCore c { s.encCoreOf c with wait := ws } = u
  have hrun := pictureStart_on (extra := extra) (pre := pre) hcur hwait hon hu
  have hcore : u.encCoreOf c = { s.encCoreOf c with wait := ws } := by rw [← hu]; exact State.encCoreOf_setEncCore s c _
  have hframe : u = { s with encCore := u.encCore } := by rw [← hu]; rfl
  have hsame : u.encOf c e = s.encOf c e ∧ u.encKind c e (u.encOf c e).plan.head? = s.encKind c e (s.encOf c e).plan.head? ∧ u.encSlices c e = s.encSlices c e ∧
      u.encFullness c e f.gap = s.encFullness c e f.gap ∧ u.regs = s.regs := by
    rw [← hu]
    exact ⟨rfl, rfl, rfl, rfl, rfl⟩
  obtain ⟨hx, hkind, hslices, hfull, hregs⟩ := hsame
  have hrd (r : Reg) : u.rd r = s.rd r := ((RegsBut.refl s []).congr hregs).rd List.not_mem_nil
  have hpendU : u.bit (ENC_S_STATUS c e) ENC_S_STATUS_PENDING = false := by rw [State.bit, hrd]; exact hpend
  have hstructU : u.encStruct c e ≠ 3 := by rw [State.encStruct, State.fld, hrd]; exact hstruct
  have hsubU : u.encSub c e = false := by rw [State.encSub, State.bit, hrd]; exact hsub
  obtain ⟨x, p, fc, heq, hq, hsess, hfr, hk, hph, hrow, hsl, hpay, hcap⟩ := encStart_takes (extra := extra) (pre := pre) hpendU hstructU hsubU (by rw [hx]; exact hqueue)
    (by rw [hx]; exact hclosed)
  obtain ⟨hcoreT, hxT, hstat, hphase, hregsT, hframeT⟩ := encTaken_shows u c e x p fc (by rw [hph]; decide) rfl
  rw [hkind] at hk
  rw [hslices] at hsl
  rw [hx, hfull] at hcap
  rw [heq, State.settle_same (by rw [hframeT, hframe])] at hrun
  refine Runs.next hrun ⟨by rw [hcoreT, hcore], by rw [hxT, hq], ⟨p, by rw [hcoreT], hsess, hfr, hk, hph, hrow, hsl, hpay, hcap⟩, ?_, ?_, ?_, ?_⟩
  · rw [hstat, hrd]
  · rw [hphase, hph]
  · exact ((RegsBut.refl s _).congr hregs).trans hregsT
  · rw [hframeT, hframe]

/-! ### Frames of a stream's backlog and of its refusal -/

/-- The registers of stream records, and those of events 24 and 25. -/
def StreamReg (o : Nat) : Prop := o < 0x20000 ∨ o ∈ evRegs 24 ∨ o ∈ evRegs 25

/-- What a stream's backlog and its refusal change. -/
def StreamFrame (s t : State) : Prop := t = { s with regs := t.regs, strm := t.strm, occ := t.occ } ∧ RegsIn StreamReg s t

theorem StreamFrame.refl (s : State) : StreamFrame s s := ⟨rfl, RegsIn.refl _ s⟩

theorem StreamFrame.mem {s t : State} (h : StreamFrame s t) (a : Nat) : t.mem a = s.mem a := by rw [h.1]; rfl

theorem backlogRegs_stream {r : Nat} (hr : r < 1024) : ∀ o, o ∈ backlogRegs r → StreamReg o := by
  intro o ho
  rcases List.mem_append.1 ho with h | h
  · refine Or.inl ?_
    simp only [UMP_S_BKL_NOW, UMP_S_BKL_PEAK, List.mem_cons, List.not_mem_nil, or_false] at h
    omega
  · exact Or.inr (Or.inr h)

theorem strmRec_lt {s : State} {id r : Nat} (h : s.strmRec id = some r) : r < 1024 := by
  rw [State.strmRec] at h
  exact List.mem_range.1 (List.mem_of_find?_eq_some h)

theorem backlogShown_only (s : State) (r bytes : Nat) : OnlyRegs s (s.backlogShown r bytes) := ((OnlyRegs.refl s).wr _ _).wr _ _

theorem backlogSet_frame (s : State) (r bytes : Nat) (hr : r < 1024) : StreamFrame s (s.backlogSet r bytes) := by
  refine ⟨?_, (s.backlogSet_regs r bytes).regsIn (backlogRegs_stream hr)⟩
  have honly := backlogShown_only s r bytes
  obtain ⟨b, h⟩ := s.backlogSet_cases r bytes
  generalize s.backlogShown r bytes = a at h honly
  generalize hu : a.setStrm r { s.strmOf r with backlog := bytes, highRaised := b } = u at h
  have hframe : u = { s with regs := u.regs, strm := u.strm } := by
    have hua : u = { a with strm := u.strm } := by rw [← hu]; rfl
    rw [OnlyRegs] at honly
    rw [hua, honly]
  rcases h with h | h
  · have hraise : OnlyRegsOcc u (u.raise 25 0x0E00) := (OnlyRegsOcc.refl u).raise _ _ _
    rw [OnlyRegsOcc] at hraise
    rw [h, hraise, hframe]
  · rw [h, hframe]

theorem backlogSetId_frame (s : State) (id bytes : Nat) : StreamFrame s (s.backlogSetId id bytes) := by
  unfold State.backlogSetId
  split
  · next r hr => exact backlogSet_frame s r bytes (strmRec_lt hr)
  · exact StreamFrame.refl s

theorem streamRefuse_frame (s : State) (r : Nat) (hr : r < 1024) : StreamFrame s (s.streamRefuse r) := by
  unfold State.streamRefuse
  dsimp only
  generalize ha : s.setStrm r { s.strmOf r with refused := true } = a
  have haframe : a = { s with strm := a.strm } := by rw [← ha]; rfl
  generalize hb : (if a.rd (UMP_S_STOP r) = 0 then a.wr (UMP_S_STOP r) 6 else a) = b
  have hbonly : OnlyRegs a b := hb ▸ OnlyRegs.ite ((OnlyRegs.refl a).wr _ _) (OnlyRegs.refl a)
  have hlow (g : Reg) (hg : g.off < 0x20000) : StreamReg g.off := Or.inl hg
  have hbregs : RegsIn StreamReg s b := by
    have h0 : RegsIn StreamReg s a := (RegsIn.refl _ s).congr (by rw [haframe])
    rw [← hb]
    split
    · exact h0.wr _ _ (hlow _ (by simp only [UMP_S_STOP]; omega))
    · exact h0
  generalize hd : ((b.wr (UMP_S_REFUSAL r) 0x00010204).wr (UMP_S_REFUSAL_TIME r) b.ns).inc UMP_RT_REFUSE_CNT = d
  have hdonly : OnlyRegs b d := hd ▸ (((OnlyRegs.refl b).wr _ _).wr _ _).inc _ _
  have hdregs : RegsIn StreamReg s d := by
    rw [← hd]
    exact ((hbregs.wr (UMP_S_REFUSAL r) _ (hlow _ (by simp only [UMP_S_REFUSAL]; omega))).wr (UMP_S_REFUSAL_TIME r) _
      (hlow _ (by simp only [UMP_S_REFUSAL_TIME]; omega))).wr UMP_RT_REFUSE_CNT _ (hlow _ (by decide))
  have hraise : RegsBut d (d.raise 24 0x0E00 [d.rd (UMP_S_ID r)]) (evRegs 24) := (RegsBut.refl d _).raise _ _ _
  refine ⟨?_, hdregs.trans (hraise.regsIn fun o ho => Or.inr (Or.inl ho))⟩
  have h : OnlyRegsOcc a (d.raise 24 0x0E00 [d.rd (UMP_S_ID r)]) := (hbonly.trans hdonly).regsOcc.raise _ _ _
  rw [OnlyRegsOcc] at h
  rw [h, haframe]

theorem streamRefuseId_frame (s : State) (id : Nat) : StreamFrame s (s.streamRefuseId id) := by
  unfold State.streamRefuseId
  split
  · next r hr => exact streamRefuse_frame s r (strmRec_lt hr)
  · exact StreamFrame.refl s

/-- Registers of the encoder cores and of the recording channels stand through it. -/
theorem streamReg_high {o : Nat} (h : 0x3000000 ≤ o) : ¬ StreamReg o := by
  simp only [StreamReg, evRegs, EVT_R_CNT, EVT_R_LAST, List.mem_cons, List.not_mem_nil, or_false]
  omega

theorem streamReg_event {ev : Nat} (h24 : ev ≠ 24) (h25 : ev ≠ 25) : ¬ StreamReg (EVT_R_CNT ev).off := by
  simp only [StreamReg, evRegs, EVT_R_CNT, EVT_R_LAST, List.mem_cons, List.not_mem_nil, or_false]
  omega

/-! ### Memory read back -/

theorem tabSlice_eq {α : Type} {t : Table α} {d : α} : ∀ {bs : List α} {a : Nat}, (∀ i, i < bs.length → tabGet t d (a + i) = bs.getD i d) →
    tabSlice t d a bs.length = bs
  | [], _, _ => rfl
  | b :: bs, a, h => by
    have hrest : tabSlice t d (a + 1) bs.length = bs := tabSlice_eq fun i hi => by
      have := h (i + 1) (Nat.succ_lt_succ hi)
      rwa [List.getD_cons_succ, Nat.add_comm i 1, ← Nat.add_assoc] at this
    have hfirst : tabGet t d a = b := h 0 (Nat.zero_lt_succ _)
    rw [List.length_cons, tabSlice, hrest, hfirst]

theorem memRead_of_mem {s : State} {a : Nat} {bs : List Byte} (h : ∀ i, i < bs.length → s.mem (a + i) = bs.getD i 0) : s.memRead a bs.length = bs :=
  tabSlice_eq h

theorem length_encHeader (kind ses row len poc : Nat) (seq tSrc tDone : Word) (flags : Nat) : (encHeader kind ses row len poc seq tSrc tDone flags).length = 32 := by
  simp only [encHeader, List.length_append, length_leBytes, length_wordBytes]

theorem le_roundUp (n : Nat) {m : Nat} (hm : 0 < m) : n ≤ roundUp n m := by
  have h := Nat.div_add_mod (n + m - 1) m
  have hmod := Nat.mod_lt (n + m - 1) hm
  rw [roundUp, ceilDiv, Nat.mul_comm]
  omega

/-! ### A core is freed, and a session stops -/

/-- The registers that show a session on its core. -/
def encShowRegs (c e : Nat) : List Nat := [(ENC_C_STATUS c).off, (ENC_S_STATUS c e).off]

section
variable (s : State) (c e : Fin 4)

theorem encFree_shows {t : State} (ht : s.encFree c e = t) : (t.encCoreOf c).cur = none ∧ (t.encCoreOf c).wait = (s.encCoreOf c).wait ∧
    t.fld (ENC_S_STATUS c e) ENC_S_STATUS_PHASE = 0 ∧ t.fld (ENC_S_STATUS c e) ENC_S_STATUS_STOP_REASON = s.fld (ENC_S_STATUS c e) ENC_S_STATUS_STOP_REASON ∧
    RegsBut s t (encShowRegs c e) ∧ t = { s with regs := t.regs, encCore := t.encCore } := by
  have hsc : (ENC_S_STATUS c e).off ≠ (ENC_C_STATUS c).off := by simp only [ENC_C_STATUS, ENC_S_STATUS]; omega
  rw [State.encFree] at ht
  generalize ha : s.setEncCore c { s.encCoreOf c with cur := none } = a at ht
  have haframe : a = { s with encCore := a.encCore } := by rw [← ha]; rfl
  have hacore : a.encCoreOf c = { s.encCoreOf c with cur := none } := by rw [← ha]; exact State.encCoreOf_setEncCore s c _
  have haregs : a.regs = s.regs := by rw [haframe]
  have hard : a.rd (ENC_S_STATUS c e) = s.rd (ENC_S_STATUS c e) := ((RegsBut.refl s []).congr haregs).rd List.not_mem_nil
  generalize hb : a.wr (ENC_C_STATUS c) (a.rd (ENC_C_STATUS c) &&& 0xFFFFFFF8) = b at ht
  have hbrd : b.rd (ENC_S_STATUS c e) = s.rd (ENC_S_STATUS c e) := by rw [← hb, State.rd_wr_ne _ _ hsc, hard]
  have honly : OnlyRegs a t := by
    have h1 : OnlyRegs a b := hb ▸ (OnlyRegs.refl a).wr _ _
    exact ht ▸ h1.setFld _ _ _
  have hcoreT : t.encCoreOf c = a.encCoreOf c := by rw [State.encCoreOf, honly.field State.encCore]; rfl
  refine ⟨by rw [hcoreT, hacore], by rw [hcoreT, hacore], ?_, ?_, ?_, ?_⟩
  · rw [← ht]
    exact State.fld_setFld_self b _ ENC_S_STATUS_PHASE 0
  · rw [← ht]
    exact (State.fld_setFld_ne b (ENC_S_STATUS c e) (f := ENC_S_STATUS_PHASE) (g := ENC_S_STATUS_STOP_REASON) 0).trans (congrArg ENC_S_STATUS_STOP_REASON.get hbrd)
  · have h1 : RegsBut s b (encShowRegs c e) := hb ▸ ((RegsBut.refl s _).congr haregs).wr (ENC_C_STATUS c) _ (by simp [encShowRegs])
    exact ht ▸ h1.setFld _ _ _ (by simp [encShowRegs])
  · rw [OnlyRegs] at honly
    rw [honly, haframe]

theorem releaseAll_frame : ∀ (fs : List EncFrame) (s : State), fs.foldl (fun s f => s.releaseBuf f.ring f.buf (encReader c e)) s =
    { s with rings := (fs.foldl (fun s f => s.releaseBuf f.ring f.buf (encReader c e)) s).rings }
  | [], _ => rfl
  | f :: fs, s => by
    rw [List.foldl_cons, releaseAll_frame fs (s.releaseBuf f.ring f.buf (encReader c e))]
    rfl

/-- The end of a session's stop: it waits for no core, and its frames are forgotten. -/
def State.encForgotten (s : State) (c e : Nat) (x : EncSess) : State :=
  ((s.setEncCore c { s.encCoreOf c with wait := (s.encCoreOf c).wait.filter (· != e) }).setEnc c e x).encQueued c e

theorem encForgotten_shows (x : EncSess) {t : State} (ht : s.encForgotten c e x = t) : t.encOf c e = x ∧ (t.encCoreOf c).cur = (s.encCoreOf c).cur ∧
    t.fld (ENC_S_STATUS c e) ENC_S_STATUS_STOP_REASON = s.fld (ENC_S_STATUS c e) ENC_S_STATUS_STOP_REASON ∧ RegsBut s t (encShowRegs c e) ∧
    t = { s with regs := t.regs, enc := t.enc, encCore := t.encCore } := by
  rw [State.encForgotten] at ht
  generalize hk : s.setEncCore c { s.encCoreOf c with wait := (s.encCoreOf c).wait.filter (· != e.val) } = k at ht
  have hkframe : k = { s with encCore := k.encCore } := by rw [← hk]; rfl
  have hkcur : (k.encCoreOf c).cur = (s.encCoreOf c).cur := by rw [← hk, State.encCoreOf_setEncCore]
  generalize hd : k.setEnc c e x = d at ht
  have hdframe : d = { k with enc := d.enc } := by rw [← hd]; rfl
  have hdregs : d.regs = s.regs := by rw [hdframe, hkframe]
  have hdrd : d.rd (ENC_S_STATUS c e) = s.rd (ENC_S_STATUS c e) := ((RegsBut.refl s []).congr hdregs).rd List.not_mem_nil
  have honly : OnlyRegs d t := ht ▸ (OnlyRegs.refl d).setFld _ _ _
  refine ⟨?_, ?_, ?_, ht ▸ ((RegsBut.refl s _).congr hdregs).setFld _ _ _ (by simp [encShowRegs]), ?_⟩
  · rw [State.encOf, honly.field State.enc, ← hd]
    exact State.encOf_setEnc k c e x
  · have hcore : t.encCoreOf c = k.encCoreOf c := by rw [State.encCoreOf, honly.field State.encCore, hdframe, State.encCoreOf]
    rw [hcore, hkcur]
  · rw [← ht]
    exact (State.fld_setFld_ne d (ENC_S_STATUS c e) (f := ENC_S_STATUS_QUEUED) (g := ENC_S_STATUS_STOP_REASON) _).trans
      (congrArg ENC_S_STATUS_STOP_REASON.get hdrd)
  · rw [OnlyRegs] at honly
    rw [honly, hdframe, hkframe]

/-- A session that is on its core stops. -/
theorem encStop_current {p : EncPic} (hcur : (s.encCoreOf c).cur = some p) (hp : p.session = e.val) {code : Nat} {r f : State}
    (hr : (if s.fld (ENC_S_STATUS c e) ENC_S_STATUS_STOP_REASON = 0 then s.setFld (ENC_S_STATUS c e) ENC_S_STATUS_STOP_REASON code else s) = r)
    (hf : (((r.encOf c e).queue ++ [p.frame]).foldl (fun s f => s.releaseBuf f.ring f.buf (encReader c e)) r).encFree c e = f) :
    s.encStop c e code = f.encForgotten c e
      { r.encOf c e with queue := [], plan := [], gop := [], since := none, closed := false, skipped := false, fullness := none } := by
  have hcurR : (r.encCoreOf c).cur = some p := by
    have honly : OnlyRegs s r := hr ▸ OnlyRegs.ite ((OnlyRegs.refl s).setFld _ _ _) (OnlyRegs.refl s)
    rw [State.encCoreOf, honly.field State.encCore]
    exact hcur
  subst hf
  unfold State.encStop
  dsimp only
  rw [hr]
  simp only [hcurR, hp, beq_self_eq_true, if_true]
  rfl

theorem stopReason_taken {code : Nat} (hcode : code < 256) {r : State}
    (hr : (if s.fld (ENC_S_STATUS c e) ENC_S_STATUS_STOP_REASON = 0 then s.setFld (ENC_S_STATUS c e) ENC_S_STATUS_STOP_REASON code else s) = r) :
    r.fld (ENC_S_STATUS c e) ENC_S_STATUS_STOP_REASON =
        (if s.fld (ENC_S_STATUS c e) ENC_S_STATUS_STOP_REASON = 0 then code else s.fld (ENC_S_STATUS c e) ENC_S_STATUS_STOP_REASON) := by
  rw [← hr]
  split
  · exact (State.fld_setFld_self s _ ENC_S_STATUS_STOP_REASON code).trans (Nat.mod_eq_of_lt hcode)
  · rfl

theorem encStop_shows {p : EncPic} (hcur : (s.encCoreOf c).cur = some p) (hp : p.session = e.val) {code : Nat} (hcode : code < 256) {t : State}
    (ht : s.encStop c e code = t) : t.fld (ENC_S_STATUS c e) ENC_S_STATUS_STOP_REASON =
      (if s.fld (ENC_S_STATUS c e) ENC_S_STATUS_STOP_REASON = 0 then code else s.fld (ENC_S_STATUS c e) ENC_S_STATUS_STOP_REASON) ∧
    (t.encCoreOf c).cur = none ∧ (t.encOf c e).queue = [] ∧ RegsBut s t (encShowRegs c e) ∧
    t = { s with regs := t.regs, enc := t.enc, encCore := t.encCore, rings := t.rings } := by
  generalize hr : (if s.fld (ENC_S_STATUS c e) ENC_S_STATUS_STOP_REASON = 0 then s.setFld (ENC_S_STATUS c e) ENC_S_STATUS_STOP_REASON code else s) = r
  have hreasonR := stopReason_taken s c e hcode hr
  have hsr : RegsBut s r (encShowRegs c e) := hr ▸ RegsBut.ite ((RegsBut.refl s _).setFld _ _ _ (by simp [encShowRegs])) (RegsBut.refl s _)
  have honlyR : OnlyRegs s r := hr ▸ OnlyRegs.ite ((OnlyRegs.refl s).setFld _ _ _) (OnlyRegs.refl s)
  generalize hh : ((r.encOf c e).queue ++ [p.frame]).foldl (fun s f => s.releaseBuf f.ring f.buf (encReader c e)) r = h
  have hhframe := releaseAll_frame c e ((r.encOf c e).queue ++ [p.frame]) r
  rw [hh] at hhframe
  have hhregs : h.regs = r.regs := by rw [hhframe]
  have hhrd (q : Reg) : h.rd q = r.rd q := ((RegsBut.refl r []).congr hhregs).rd List.not_mem_nil
  generalize hf : h.encFree c e = f
  obtain ⟨hcurF, -, -, hreasonF, hregsF, hframeF⟩ := encFree_shows h c e hf
  have heq := encStop_current (f := f) s c e hcur hp hr (by rw [hh]; exact hf)
  obtain ⟨hxT, hcurT, hreasonT, hregsT, hframeT⟩ := encForgotten_shows f c e _ (heq.symm.trans ht)
  refine ⟨?_, hcurT.trans hcurF, by rw [hxT], ((hsr.congr hhregs).trans hregsF).trans hregsT, ?_⟩
  · rw [hreasonT, hreasonF, State.fld, hhrd]
    exact hreasonR
  · rw [OnlyRegs] at honlyR
    rw [hframeT, hframeF, hhframe, honlyR]

end

/-! ### Records of the bitstream ring -/

section
variable {s : State} {c e : Fin 4} {row poc flags : Nat} {f : FrameInfo} {payload : List Byte}

/-- What stands in the ring of a picture's record. -/
def encBytes (s : State) (c e row poc flags : Nat) (f : FrameInfo) (payload : List Byte) : List Byte :=
  encHeader 2 (e + 4 * c) row payload.length poc f.seq f.tStart s.ns flags ++ payload

theorem length_encBytes : (encBytes s c e row poc flags f payload).length = 32 + payload.length := by rw [encBytes, List.length_append, length_encHeader]

/-- A record's bytes with the zeros up to its end. -/
def encPadded (s : State) (c e row poc flags : Nat) (f : FrameInfo) (payload : List Byte) : List Byte :=
  encBytes s c e row poc flags f payload ++ List.replicate (roundUp (32 + payload.length) 64 - (encBytes s c e row poc flags f payload).length) 0

theorem length_encPadded : (encPadded s c e row poc flags f payload).length = roundUp (32 + payload.length) 64 := by
  rw [encPadded, List.length_append, List.length_replicate, length_encBytes]
  have := le_roundUp (32 + payload.length) (m := 64) (by decide)
  omega

variable {wp size : Nat} (hwp : (s.rd (ENC_S_BS_WP c e)).toNat = wp) (hsize : roundUp (32 + payload.length) 64 = size) (hfit : wp + size ≤ s.encRingSize c e)
include hwp hsize hfit

/-- A record that fits its ring up to the end is written at WP, and WP moves past it. -/
theorem encRecord_fits (hfree : s.encBacklog c e + size < s.encRingSize c e) {m w b : State}
    (hm : s.memWrite (s.encRingBase c e + wp) (encPadded s c e row poc flags f payload) = m)
    (hw : m.wr (ENC_S_BS_WP c e) (w32 ((wp + size) % s.encRingSize c e)) = w) (hb : w.backlogSetId (encStream c e) (w.encBacklog c e) = b)
    (hrec : b.recFor 1 (4 * c + e) = none) : s.encRecord c e 2 row poc flags f payload = (b, true) := by
  have hpad : (if s.encRingSize c e < (s.rd (ENC_S_BS_WP c e)).toNat + roundUp (32 + payload.length) 64 then
      s.encRingSize c e - (s.rd (ENC_S_BS_WP c e)).toNat else 0) = 0 := if_neg (by rw [hwp, hsize]; exact Nat.not_lt.2 hfit)
  have hcond : ¬ s.encRingSize c e ≤ s.encBacklog c e + (if s.encRingSize c e < (s.rd (ENC_S_BS_WP c e)).toNat + roundUp (32 + payload.length) 64 then
      s.encRingSize c e - (s.rd (ENC_S_BS_WP c e)).toNat else 0) + roundUp (32 + payload.length) 64 := by rw [hpad, hsize]; omega
  rw [encPadded, encBytes] at hm
  refine (if_neg hcond).trans ?_
  rw [hpad, if_pos (show (0 : Nat) = 0 from rfl), if_pos (show (0 : Nat) = 0 from rfl), hwp, hm, hsize, hw, hb]
  simp only [hrec]

/-- A record that would fill the ring stops the session. -/
theorem encRecord_full (hfull : s.encRingSize c e ≤ s.encBacklog c e + size) {kind : Nat} :
    s.encRecord c e kind row poc flags f payload = (((s.streamRefuseId (encStream c e)).encStop c e 6).raise 584 (0x0800 + c), false) := by
  have hpad : (if s.encRingSize c e < (s.rd (ENC_S_BS_WP c e)).toNat + roundUp (32 + payload.length) 64 then
      s.encRingSize c e - (s.rd (ENC_S_BS_WP c e)).toNat else 0) = 0 := if_neg (by rw [hwp, hsize]; exact Nat.not_lt.2 hfit)
  have hsum : s.encBacklog c e + (if s.encRingSize c e < (s.rd (ENC_S_BS_WP c e)).toNat + roundUp (32 + payload.length) 64 then
      s.encRingSize c e - (s.rd (ENC_S_BS_WP c e)).toNat else 0) + roundUp (32 + payload.length) 64 = s.encBacklog c e + size := by rw [hpad, hsize, Nat.add_zero]
  exact if_pos (hfull.trans_eq hsum.symm)

end

/-! ### A picture is complete -/

/-- A released buffer is held by the others alone. -/
theorem State.holders_releaseBuf (s : State) (ring buf reader : Nat) :
    (s.releaseBuf ring buf reader).holders ring buf = (s.holders ring buf).filter (· != reader) :=
  tabGet_set_self s.rings [] ((s.holders ring buf).filter (· != reader)) (ringKey ring buf)

theorem State.released (s : State) (ring buf reader : Nat) : reader ∉ (s.releaseBuf ring buf reader).holders ring buf := by
  rw [State.holders_releaseBuf, List.mem_filter]
  rintro ⟨-, hne⟩
  rw [bne_self_eq_false] at hne
  exact Bool.noConfusion hne

/-- The bits, cap and floor of a complete picture, with its buffer released. -/
def State.encFigured (s : State) (c e : Nat) (p : EncPic) (x : EncSess) (fq : Option Nat) : State :=
  let s := ((State.releaseBuf (s.setEnc c e x) p.frame.ring p.frame.buf (encReader c e)).wr (ENC_S_LAST_BITS c e) (w32 p.bits)).wr (ENC_S_LAST_CAP c e) (w32 p.cap)
  match fq with
  | some v => s.wr (ENC_S_FQ c e) (w32 v)
  | none => s

/-- The registers of a complete picture's bits, cap and floor. -/
def figureRegs (c e : Nat) : List Nat := [(ENC_S_LAST_BITS c e).off, (ENC_S_LAST_CAP c e).off, (ENC_S_FQ c e).off]

theorem encFigured_shows (s : State) (c e : Fin 4) (p : EncPic) (x : EncSess) (fq : Option Nat) {t : State} (ht : s.encFigured c e p x fq = t) :
    t.rd (ENC_S_LAST_BITS c e) = w32 p.bits ∧ t.rd (ENC_S_LAST_CAP c e) = w32 p.cap ∧ encReader c e ∉ t.holders p.frame.ring p.frame.buf ∧
    RegsBut s t (figureRegs c e) ∧ t.g7 = s.g7 := by
  have hbc : (ENC_S_LAST_BITS c e).off ≠ (ENC_S_LAST_CAP c e).off := by simp only [ENC_S_LAST_BITS, ENC_S_LAST_CAP]; omega
  have hbf : (ENC_S_LAST_BITS c e).off ≠ (ENC_S_FQ c e).off := by simp only [ENC_S_LAST_BITS, ENC_S_FQ]; omega
  have hcf : (ENC_S_LAST_CAP c e).off ≠ (ENC_S_FQ c e).off := by simp only [ENC_S_LAST_CAP, ENC_S_FQ]; omega
  generalize hd : s.setEnc c e x = d
  have hdframe : d = { s with enc := d.enc } := by rw [← hd]; rfl
  generalize ha : d.releaseBuf p.frame.ring p.frame.buf (encReader c e) = a
  have haframe : a = { d with rings := a.rings } := by rw [← ha]; rfl
  have haregs : a.regs = s.regs := by rw [haframe, hdframe]
  have haholders : encReader c e ∉ a.holders p.frame.ring p.frame.buf := ha ▸ State.released _ _ _ _
  have hag7 : a.g7 = s.g7 := by rw [haframe, hdframe]
  generalize hb : (a.wr (ENC_S_LAST_BITS c e) (w32 p.bits)).wr (ENC_S_LAST_CAP c e) (w32 p.cap) = b
  have hbits : b.rd (ENC_S_LAST_BITS c e) = w32 p.bits := by rw [← hb, State.rd_wr_ne _ _ hbc, State.rd_wr_self]
  have hcap : b.rd (ENC_S_LAST_CAP c e) = w32 p.cap := by rw [← hb, State.rd_wr_self]
  have hregs : RegsBut s b (figureRegs c e) :=
    hb ▸ (((RegsBut.refl s _).congr haregs).wr (ENC_S_LAST_BITS c e) _ (by simp [figureRegs])).wr (ENC_S_LAST_CAP c e) _ (by simp [figureRegs])
  have honly : OnlyRegs a b := hb ▸ ((OnlyRegs.refl a).wr _ _).wr _ _
  have hholders : encReader c e ∉ b.holders p.frame.ring p.frame.buf := by
    rw [State.holders, honly.field State.rings]
    exact haholders
  have hg7 : b.g7 = s.g7 := by rw [honly.field State.g7, hag7]
  cases fq with
  | none =>
    have hbt : b = t := by rw [← hb, ← ha, ← hd]; exact ht
    exact hbt ▸ ⟨hbits, hcap, hholders, hregs, hg7⟩
  | some v =>
    have hbt : b.wr (ENC_S_FQ c e) (w32 v) = t := by rw [← hb, ← ha, ← hd]; exact ht
    have hbonly : OnlyRegs b (b.wr (ENC_S_FQ c e) (w32 v)) := (OnlyRegs.refl b).wr _ _
    rw [← hbt]
    refine ⟨(State.rd_wr_ne _ _ hbf).trans hbits, (State.rd_wr_ne _ _ hcf).trans hcap, ?_, hregs.wr _ _ (by simp [figureRegs]), hbonly.field State.g7 |>.trans hg7⟩
    rw [State.holders, hbonly.field State.rings]
    exact hholders

/-- The figures of a complete picture, its buffer and its core. -/
def State.encShown (s : State) (c e : Nat) (p : EncPic) (x : EncSess) (fq : Option Nat) : State :=
  (((s.encFigured c e p x fq).incWrap (ENC_S_PICTURES c e)).encFree c e).raise 576 (0x0800 + c)

/-- The registers that a complete picture changes. -/
def shownRegs (c e : Nat) : List Nat := (ENC_S_PICTURES c e).off :: figureRegs c e ++ encShowRegs c e

theorem encShown_shows {s : State} {c e : Fin 4} {p : EncPic} {x : EncSess} {fq : Option Nat} {t : State} (ht : s.encShown c e p x fq = t) :
    t.rd (ENC_S_LAST_BITS c e) = w32 p.bits ∧ t.rd (ENC_S_LAST_CAP c e) = w32 p.cap ∧ t.rd (ENC_S_PICTURES c e) = s.rd (ENC_S_PICTURES c e) + 1 ∧
    (t.encCoreOf c).cur = none ∧ encReader c e ∉ t.holders p.frame.ring p.frame.buf ∧ t.fld (ENC_S_STATUS c e) ENC_S_STATUS_PHASE = 0 ∧
    t.rd (EVT_R_CNT 576) = satAdd (s.rd (EVT_R_CNT 576)) 1 ∧ RegsBut s t (shownRegs c e ++ evRegs 576) ∧ t.g7 = s.g7 := by
  have hpn : (ENC_S_PICTURES c e).off ∉ figureRegs c e := by
    simp only [figureRegs, ENC_S_PICTURES, ENC_S_LAST_BITS, ENC_S_LAST_CAP, ENC_S_FQ, List.mem_cons, List.not_mem_nil, or_false, not_or]
    omega
  have hbp : (ENC_S_LAST_BITS c e).off ≠ (ENC_S_PICTURES c e).off := by simp only [ENC_S_LAST_BITS, ENC_S_PICTURES]; omega
  have hcp : (ENC_S_LAST_CAP c e).off ≠ (ENC_S_PICTURES c e).off := by simp only [ENC_S_LAST_CAP, ENC_S_PICTURES]; omega
  have hshow (g : Reg) (hg : g.off = (ENC_S_LAST_BITS c e).off ∨ g.off = (ENC_S_LAST_CAP c e).off ∨ g.off = (ENC_S_PICTURES c e).off) : g.off ∉ encShowRegs c e := by
    simp only [ENC_S_LAST_BITS, ENC_S_LAST_CAP, ENC_S_PICTURES] at hg
    simp only [encShowRegs, ENC_C_STATUS, ENC_S_STATUS, List.mem_cons, List.not_mem_nil, or_false, not_or]
    omega
  rw [State.encShown] at ht
  generalize hq : s.encFigured c e p x fq = q at ht
  obtain ⟨hbits, hcap, hholders, hqregs, hqg7⟩ := encFigured_shows s c e p x fq hq
  generalize hi : q.incWrap (ENC_S_PICTURES c e) = i at ht
  have hionly : OnlyRegs q i := hi ▸ (OnlyRegs.refl q).wr _ _
  have hiregs : RegsBut s i (shownRegs c e) := hi ▸ (hqregs.mono (by simp [shownRegs])).wr (ENC_S_PICTURES c e) _ (by simp [shownRegs])
  generalize hf : i.encFree c e = f at ht
  obtain ⟨hcur, -, hphase, -, hfregs, hfframe⟩ := encFree_shows i c e hf
  have hsf : RegsBut s f (shownRegs c e) := hiregs.trans (hfregs.mono (by simp [shownRegs]))
  have hrdT (g : Reg) (hg : 0x2000000 ≤ g.off) : t.rd g = f.rd g := by
    obtain ⟨h1, h2⟩ := scanReg_ev (ev := 576) hg (by decide)
    rw [← ht, State.rd_raise _ _ _ _ h1 h2]
  have honlyT : OnlyRegsOcc f t := ht ▸ (OnlyRegsOcc.refl f).raise _ _ _
  refine ⟨?_, ?_, ?_, ?_, ?_, ?_, ?_, ?_, ?_⟩
  · rw [hrdT _ (by simp only [ENC_S_LAST_BITS]; omega), hfregs.rd (hshow _ (Or.inl rfl)), ← hi, State.incWrap_eq, State.rd_wr_ne _ _ hbp, hbits]
  · rw [hrdT _ (by simp only [ENC_S_LAST_CAP]; omega), hfregs.rd (hshow _ (Or.inr (Or.inl rfl))), ← hi, State.incWrap_eq, State.rd_wr_ne _ _ hcp, hcap]
  · rw [hrdT _ (by simp only [ENC_S_PICTURES]; omega), hfregs.rd (hshow _ (Or.inr (Or.inr rfl))), ← hi, State.incWrap_eq, State.rd_wr_self, hqregs.rd hpn]
  · rw [State.encCoreOf, honlyT.field State.encCore]
    exact hcur
  · have hrings : t.holders p.frame.ring p.frame.buf = q.holders p.frame.ring p.frame.buf := by
      rw [State.holders, honlyT.field State.rings, hfframe, hionly.field State.rings, State.holders]
    rw [hrings]
    exact hholders
  · rw [State.fld, hrdT _ (by simp only [ENC_S_STATUS]; omega)]
    exact hphase
  · rw [← ht, State.rd_raise_cnt, hsf.rd]
    simp only [shownRegs, figureRegs, encShowRegs, EVT_R_CNT, ENC_S_LAST_BITS, ENC_S_LAST_CAP, ENC_S_FQ, ENC_S_PICTURES, ENC_C_STATUS, ENC_S_STATUS,
      List.cons_append, List.nil_append, List.mem_cons, List.not_mem_nil, or_false, not_or]
    omega
  · rw [← ht]
    exact (hsf.mono (by simp)).raise 576 _ _ (by simp)
  · rw [honlyT.field State.g7, hfframe, hionly.field State.g7, hqg7]

section
variable {s : State} {c : Nat} {p : EncPic} {r : State} {ok : Bool}

theorem encDone_recorded (h : (if s.encSub c p.session then (s, true) else s.encRecord c p.session 2 0xFFFF p.poc (p.flags + 64) p.frame.info p.payload) = (r, true)) :
    ∃ x fq, s.encDone c p = r.encShown c p.session p x fq := by
  unfold State.encDone
  dsimp only
  rw [h]
  exact ⟨_, _, rfl⟩

theorem encDone_refused (h : (if s.encSub c p.session then (s, true) else s.encRecord c p.session 2 0xFFFF p.poc (p.flags + 64) p.frame.info p.payload) = (r, false)) :
    s.encDone c p = r := by
  unfold State.encDone
  dsimp only
  rw [h]
  rfl

end

/-- The figures that a complete picture shows. -/
def PictureShown (s t : State) (c e : Nat) (p : EncPic) : Prop := t.rd (ENC_S_LAST_BITS c e) = w32 p.bits ∧ t.rd (ENC_S_LAST_CAP c e) = w32 p.cap ∧
  t.rd (ENC_S_PICTURES c e) = s.rd (ENC_S_PICTURES c e) + 1 ∧ (t.encCoreOf c).cur = none ∧ encReader c e ∉ t.holders p.frame.ring p.frame.buf ∧
  t.fld (ENC_S_STATUS c e) ENC_S_STATUS_PHASE = 0 ∧ t.rd (EVT_R_CNT 576) = satAdd (s.rd (EVT_R_CNT 576)) 1

section
variable {c e : Fin 4} {s : State} {p : EncPic}

/-- A picture whose record stands, or needs none, is shown. -/
theorem pictureShown {r t : State} {x : EncSess} {fq : Option Nat} (hpics : r.rd (ENC_S_PICTURES c e) = s.rd (ENC_S_PICTURES c e))
    (hcnt : r.rd (EVT_R_CNT 576) = s.rd (EVT_R_CNT 576)) (ht : s.settle (r.encShown c e p x fq) = t) :
    PictureShown s t c e p ∧ t.rd (ENC_S_BS_WP c e) = r.rd (ENC_S_BS_WP c e) ∧ ∀ a, t.mem a = r.mem a := by
  obtain ⟨hbits, hcap, hpictures, hcur, hholders, hphase, hevent, hregs, hg7⟩ := encShown_shows (s := r) (c := c) (e := e) (p := p) (x := x) (fq := fq) rfl
  generalize r.encShown c e p x fq = q at *
  have hrd (g : Reg) : t.rd g = q.rd g := by rw [← ht, State.rd_settle]
  refine ⟨⟨by rw [hrd, hbits], by rw [hrd, hcap], by rw [hrd, hpictures, hpics], ?_, ?_, ?_, by rw [hrd, hevent, hcnt]⟩, ?_, fun a => ?_⟩
  · rw [← ht, State.encCoreOf, State.settle_encCore]
    exact hcur
  · rw [← ht, State.holders, State.settle_rings]
    exact hholders
  · rw [State.fld, hrd]
    exact hphase
  · rw [hrd, hregs.rd]
    simp only [shownRegs, figureRegs, encShowRegs, evRegs, EVT_R_CNT, EVT_R_LAST, ENC_S_BS_WP, ENC_S_LAST_BITS, ENC_S_LAST_CAP, ENC_S_FQ, ENC_S_PICTURES,
      ENC_C_STATUS, ENC_S_STATUS, List.cons_append, List.nil_append, List.mem_cons, List.not_mem_nil, or_false, not_or]
    omega
  · rw [← ht, State.mem_settle, State.mem, hg7, State.mem]

theorem pictureDone_eq (hcur : (s.encCoreOf c).cur = some p) (hrow : p.row = (s.encCtus c p.session).2) (hrun : s.running (0x0800 + c) = true) :
    exec (.encPictureDone c) s = .next (s.settle (s.encDone c p)) := by
  have h : execEncPictureDone c s = .next (s.settle (s.encDone c p)) := by
    unfold execEncPictureDone
    simp only [hcur, hrow, hrun, decide_true, Bool.and_self, if_true]
  exact h

/-- A recording channel's source is read where the encoder's record does not write. -/
theorem recFor_congr {t : State} {typ inst : Nat} (hcfg : ∀ c, t.rd (REC_C_CFG c) = s.rd (REC_C_CFG c)) (hblk : t.blk = s.blk) :
    t.recFor typ inst = s.recFor typ inst := by
  simp only [State.recFor, State.recUp, State.bit, State.fld, State.running, State.blkOf, hcfg, hblk]

theorem pictureDone_sub (he : p.session = e.val) (hsub : s.encSub c e = true) : ∃ t, s.settle (s.encDone c p) = t ∧
    PictureShown s t c e p ∧ SameMem s t ∧ t.rd (ENC_S_BS_WP c e) = s.rd (ENC_S_BS_WP c e) := by
  obtain ⟨x, fq, heq⟩ := encDone_recorded (s := s) (c := c) (p := p) (r := s) (by rw [he, hsub, if_pos rfl])
  rw [he] at heq
  obtain ⟨hshown, hwp, hmem⟩ := pictureShown (s := s) (p := p) (r := s) (x := x) (fq := fq) rfl rfl rfl
  exact ⟨_, by rw [heq], hshown, hmem, hwp⟩

theorem pictureDone_written (he : p.session = e.val) (hsub : s.encSub c e = false) {wp size : Nat} (hwp : (s.rd (ENC_S_BS_WP c e)).toNat = wp)
    (hsize : roundUp (32 + p.payload.length) 64 = size) (hfit : wp + size ≤ s.encRingSize c e) (hfree : s.encBacklog c e + size < s.encRingSize c e)
    (hrec : s.recFor 1 (4 * c + e) = none) : ∃ t, s.settle (s.encDone c p) = t ∧ PictureShown s t c e p ∧
      t.rd (ENC_S_BS_WP c e) = w32 ((wp + size) % s.encRingSize c e) ∧
      t.memRead (s.encRingBase c e + wp) (32 + p.payload.length) = encBytes s c e 0xFFFF p.poc (p.flags + 64) p.frame.info p.payload ∧
      ∀ b, b < s.encRingBase c e + wp ∨ s.encRingBase c e + wp + size ≤ b → t.mem b = s.mem b := by
  have hlen : (encPadded s c e 0xFFFF p.poc (p.flags + 64) p.frame.info p.payload).length = size := by rw [length_encPadded, hsize]
  generalize hm : s.memWrite (s.encRingBase c e + wp) (encPadded s c e 0xFFFF p.poc (p.flags + 64) p.frame.info p.payload) = m
  have hmframe : m = { s with g7 := m.g7 } := by rw [← hm]; exact memWrite_frame s _ _
  generalize hw : m.wr (ENC_S_BS_WP c e) (w32 ((wp + size) % s.encRingSize c e)) = w
  have hwonly : OnlyRegs m w := hw ▸ (OnlyRegs.refl m).wr _ _
  have hwregs : RegsBut s w [(ENC_S_BS_WP c e).off] := hw ▸ ((RegsBut.refl s _).congr (by rw [hmframe])).wr (ENC_S_BS_WP c e) _
  generalize hb : w.backlogSetId (encStream c e) (w.encBacklog c e) = b
  obtain ⟨hbframe, hbregs⟩ : StreamFrame w b := hb ▸ backlogSetId_frame w _ _
  have hrd (g : Reg) (hg : ¬ StreamReg g.off) (hne : g.off ≠ (ENC_S_BS_WP c e).off) : b.rd g = s.rd g := by
    rw [hbregs.rd hg, hwregs.rd (by simpa using hne)]
  have hrecB : b.recFor 1 (4 * c + e) = none := by
    refine (recFor_congr (s := s) (fun k => hrd _ (streamReg_high (by simp only [REC_C_CFG]; omega)) ?_) ?_).trans hrec
    · simp only [REC_C_CFG, ENC_S_BS_WP]
      omega
    · rw [hbframe, hwonly.field State.blk, hmframe]
  obtain ⟨x, fq, heq⟩ := encDone_recorded (s := s) (c := c) (p := p) (r := b) (by
    rw [he, hsub, if_neg Bool.false_ne_true]
    exact encRecord_fits hwp hsize hfit hfree hm hw hb hrecB)
  rw [he] at heq
  have hcnt : (EVT_R_CNT 576).off ≠ (ENC_S_BS_WP c e).off := by simp only [EVT_R_CNT, ENC_S_BS_WP]; omega
  obtain ⟨hshown, hwpT, hmem⟩ := pictureShown (s := s) (p := p) (r := b) (x := x) (fq := fq)
    (hrd _ (streamReg_high (by simp only [ENC_S_PICTURES]; omega)) (by simp only [ENC_S_PICTURES, ENC_S_BS_WP]; omega))
    (hrd _ (streamReg_event (by decide) (by decide)) hcnt) rfl
  have hmemM (a : Nat) : b.mem a = m.mem a := by rw [State.mem, hbframe, hwonly.field State.g7, State.mem]
  have hplace (i : Nat) (hi : i < 32 + p.payload.length) : b.mem (s.encRingBase c e + wp + i) =
      (encBytes s c e 0xFFFF p.poc (p.flags + 64) p.frame.info p.payload).getD i 0 := by
    have hle := le_roundUp (32 + p.payload.length) (m := 64) (by decide)
    rw [hmemM, ← hm, State.mem_memWrite_in _ _ _ (by rw [hlen]; omega), encPadded, List.getD_append _ _ _ _ (by rw [length_encBytes]; exact hi)]
  refine ⟨_, by rw [heq], hshown, ?_, ?_, fun a ha => ?_⟩
  · rw [hwpT, hbregs.rd (streamReg_high (by simp only [ENC_S_BS_WP]; omega)), ← hw, State.rd_wr_self]
  · rw [← length_encBytes (s := s) (c := c) (e := e) (row := 0xFFFF) (poc := p.poc) (flags := p.flags + 64) (f := p.frame.info)]
    refine memRead_of_mem fun i hi => ?_
    rw [hmem]
    exact hplace i (by rwa [length_encBytes] at hi)
  · rw [hmem, hmemM, ← hm]
    exact State.mem_memWrite_out s _ _ (by rw [hlen]; exact ha)

theorem pictureDone_full (hcur : (s.encCoreOf c).cur = some p) (he : p.session = e.val) (hsub : s.encSub c e = false) {wp size : Nat}
    (hwp : (s.rd (ENC_S_BS_WP c e)).toNat = wp) (hsize : roundUp (32 + p.payload.length) 64 = size) (hfit : wp + size ≤ s.encRingSize c e)
    (hfull : s.encRingSize c e ≤ s.encBacklog c e + size) : ∃ t, s.settle (s.encDone c p) = t ∧
      t.fld (ENC_S_STATUS c e) ENC_S_STATUS_STOP_REASON = (if s.fld (ENC_S_STATUS c e) ENC_S_STATUS_STOP_REASON = 0 then 6 else s.fld (ENC_S_STATUS c e) ENC_S_STATUS_STOP_REASON) ∧
      (t.encCoreOf c).cur = none ∧ (t.encOf c e).queue = [] ∧ t.rd (EVT_R_CNT 584) = satAdd (s.rd (EVT_R_CNT 584)) 1 ∧ SameMem s t ∧
      t.rd (ENC_S_BS_WP c e) = s.rd (ENC_S_BS_WP c e) ∧ t.rd (ENC_S_PICTURES c e) = s.rd (ENC_S_PICTURES c e) := by
  generalize hq : s.streamRefuseId (encStream c e) = q
  obtain ⟨hqframe, hqregs⟩ : StreamFrame s q := hq ▸ streamRefuseId_frame s _
  have hcurQ : (q.encCoreOf c).cur = some p := by rw [State.encCoreOf, hqframe]; exact hcur
  generalize hu : q.encStop c e 6 = u
  obtain ⟨hreason, hnone, hempty, huregs, huframe⟩ := encStop_shows q c e hcurQ he (by decide) hu
  have heq : s.encDone c p = u.raise 584 (0x0800 + c) := by
    refine encDone_refused ?_
    rw [he, hsub, if_neg Bool.false_ne_true, encRecord_full hwp hsize hfit hfull, hq, hu]
  have honly : OnlyRegsOcc u (u.raise 584 (0x0800 + c)) := (OnlyRegsOcc.refl u).raise _ _ _
  have hrdT (g : Reg) (hg : 0x3000000 ≤ g.off) : (u.raise 584 (0x0800 + c)).rd g = u.rd g := by
    obtain ⟨h1, h2⟩ := scanReg_ev (o := g.off) (ev := 584) (by omega) (by decide)
    exact State.rd_raise _ _ _ _ h1 h2
  have hstatus : q.rd (ENC_S_STATUS c e) = s.rd (ENC_S_STATUS c e) := hqregs.rd (streamReg_high (by simp only [ENC_S_STATUS]; omega))
  have hkept (g : Reg) (hg : 0x3000000 ≤ g.off) (hne : g.off ∉ encShowRegs c e) : (u.raise 584 (0x0800 + c)).rd g = s.rd g := by
    rw [hrdT g hg, huregs.rd hne, hqregs.rd (streamReg_high hg)]
  refine ⟨s.settle (u.raise 584 (0x0800 + c)), by rw [heq], ?_, ?_, ?_, ?_, fun a => ?_, ?_, ?_⟩
  · rw [State.fld, State.rd_settle, hrdT _ (by simp only [ENC_S_STATUS]; omega)]
    rw [State.fld, State.fld, hstatus] at hreason
    exact hreason
  · rw [State.encCoreOf, State.settle_encCore, honly.field State.encCore]
    exact hnone
  · rw [State.encOf, State.settle_enc, honly.field State.enc]
    exact hempty
  · have hcnt : (EVT_R_CNT 584).off ∉ encShowRegs c e := by
      simp only [encShowRegs, EVT_R_CNT, ENC_C_STATUS, ENC_S_STATUS, List.mem_cons, List.not_mem_nil, or_false, not_or]
      omega
    rw [State.rd_settle, State.rd_raise_cnt, huregs.rd hcnt, hqregs.rd (streamReg_event (by decide) (by decide))]
  · rw [State.mem_settle, State.mem, honly.field State.g7, huframe, hqframe, State.mem]
  · rw [State.rd_settle]
    refine hkept _ (by simp only [ENC_S_BS_WP]; omega) ?_
    simp only [encShowRegs, ENC_S_BS_WP, ENC_C_STATUS, ENC_S_STATUS, List.mem_cons, List.not_mem_nil, or_false, not_or]
    omega
  · rw [State.rd_settle]
    refine hkept _ (by simp only [ENC_S_PICTURES]; omega) ?_
    simp only [encShowRegs, ENC_S_PICTURES, ENC_C_STATUS, ENC_S_STATUS, List.mem_cons, List.not_mem_nil, or_false, not_or]
    omega

end

theorem picturesEnd : PicturesEnd := by
  unfold PicturesEnd
  intro c s p hcur hsess hrow hrun
  obtain ⟨e, he⟩ : ∃ e : Fin 4, p.session = e.val := ⟨⟨p.session, hsess⟩, rfl⟩
  have hexec := pictureDone_eq hcur hrow hrun
  rw [he]
  refine ⟨fun hsub => ?_, fun hsub hfit hfree hrec => ?_, fun hsub hfit hfull => ?_⟩
  · obtain ⟨t, ht, hshown, hmem, hwp⟩ := pictureDone_sub he hsub
    exact Runs.next (hexec.trans (by rw [ht])) ⟨hshown, hmem, hwp⟩
  · obtain ⟨t, ht, hshown, hwp, hread, hmem⟩ := pictureDone_written he hsub rfl rfl hfit hfree hrec
    exact Runs.next (hexec.trans (by rw [ht])) ⟨hshown, hwp, hread, hmem⟩
  · obtain ⟨t, ht, hreason, hnone, hempty, hcnt, hmem, hwp, hpics⟩ := pictureDone_full hcur he hsub rfl rfl hfit hfull
    exact Runs.next (hexec.trans (by rw [ht])) ⟨hreason, hnone, hempty, hcnt, hmem, hwp, hpics⟩

/-- Settles O32: session commits, and the start and the end of a picture. -/
theorem encoderPictures : Obligations.EncoderPictures := by
  unfold Obligations.EncoderPictures
  exact ⟨sessionCommits, picturesStart, picturesEnd⟩

end Sys2Proof.Machine
end

section
/-! PROOFS. Encoder cores: the hard cap, CTU rows, and the consumer's pointer (R317, R318, R323). -/

-- One proof at a time: the text is compiled as one file in bounded memory.
set_option Elab.async false

namespace Sys2Proof.Machine
open Sys2Proof.Claims

/-! ### A CTU under the hard cap -/

/-- A phase is entered once and changes neither bits nor cap. -/
theorem CtuRun.enter_shows (r : CtuRun) (ph : Nat) : (r.enter ph).pic.bits = r.pic.bits ∧ (r.enter ph).pic.cap = r.pic.cap ∧
    (r.enter ph).pic.payload = r.pic.payload ∧ (r.enter ph).pic.frame = r.pic.frame ∧ (r.enter ph).pic.phase = max r.pic.phase ph := by
  unfold CtuRun.enter
  split
  · next h => exact ⟨rfl, rfl, rfl, rfl, (Nat.max_eq_right (Nat.le_of_lt h)).symm⟩
  · next h => exact ⟨rfl, rfl, rfl, rfl, (Nat.max_eq_left (Nat.not_lt.1 h)).symm⟩

theorem CtuRun.enter_late {r : CtuRun} {ph : Nat} (h : ph ≤ r.pic.phase) : r.enter ph = r := if_neg (Nat.not_lt.2 h)

/-- The phase in which a CTU is coded. -/
def CtuRun.phased (r : CtuRun) (fc rest : Nat) (k : CtuCand) : CtuRun :=
  let a : Int := (r.pic.cap : Int) - r.pic.bits - rest
  let keep (b : Nat) : Bool := decide ((b : Int) ≤ a + fc)
  let r := if r.pic.phase = 1 && !keep k.normal then r.enter 2 else r
  if r.pic.phase = 2 && !keep k.maxQp then r.enter 3 else r

/-- The bits that a CTU takes in its phase. -/
def ctuBits (fc phase : Nat) (k : CtuCand) : Nat := if phase = 1 then k.normal else if phase = 2 then k.maxQp else min k.floor fc

theorem ctu_shows (r : CtuRun) (fc rest : Nat) (k : CtuCand) {q t : CtuRun} (hq : r.phased fc rest k = q) (ht : r.ctu fc rest k = t) :
    t.pic.bits = q.pic.bits + ctuBits fc q.pic.phase k ∧ t.pic.cap = q.pic.cap ∧ t.pic.payload = q.pic.payload ∧ t.pic.frame = q.pic.frame ∧
      t.pic.phase = q.pic.phase ∧ t.entered = q.entered := by
  have h : t = (match q.pic.phase with
      | 1 => { q with pic := { q.pic with bits := q.pic.bits + k.normal } }
      | 2 => { q with pic := { q.pic with bits := q.pic.bits + k.maxQp, p2Bits := q.pic.p2Bits + k.maxQp, p2Ctus := q.pic.p2Ctus + 1 } }
      | _ => { q with pic := { q.pic with bits := q.pic.bits + min k.floor fc } }) := by
    rw [← ht, ← hq]
    rfl
  rw [h, ctuBits]
  split
  · next h1 => exact ⟨by rw [if_pos h1], rfl, rfl, rfl, rfl, rfl⟩
  · next h2 => exact ⟨by rw [h2]; rfl, rfl, rfl, rfl, rfl, rfl⟩
  · next h1 h2 => exact ⟨by rw [if_neg h1, if_neg h2], rfl, rfl, rfl, rfl, rfl⟩

/-- What choosing a CTU's phase leaves: bits and cap; a picture in phase 3 stays as it is; in phase 1 and 2 the CTU's bits keep the reserve. -/
theorem phased_shows (r : CtuRun) (fc rest : Nat) (k : CtuCand) {q : CtuRun} (hq : r.phased fc rest k = q) :
    q.pic.bits = r.pic.bits ∧ q.pic.cap = r.pic.cap ∧ q.pic.payload = r.pic.payload ∧ q.pic.frame = r.pic.frame ∧ r.pic.phase ≤ q.pic.phase ∧
      (r.pic.phase ≤ 3 → q.pic.phase ≤ 3) ∧ (3 ≤ r.pic.phase → q = r) ∧
      (q.pic.phase = 1 → (k.normal : Int) ≤ r.pic.cap - r.pic.bits - rest + fc) ∧ (q.pic.phase = 2 → (k.maxQp : Int) ≤ r.pic.cap - r.pic.bits - rest + fc) := by
  rw [CtuRun.phased] at hq
  dsimp only at hq
  generalize ha : (if r.pic.phase = 1 && !decide ((k.normal : Int) ≤ r.pic.cap - r.pic.bits - rest + fc) then r.enter 2 else r) = a at hq
  have hA : a.pic.bits = r.pic.bits ∧ a.pic.cap = r.pic.cap ∧ a.pic.payload = r.pic.payload ∧ a.pic.frame = r.pic.frame ∧ r.pic.phase ≤ a.pic.phase ∧
      (r.pic.phase ≤ 3 → a.pic.phase ≤ 3) ∧ (3 ≤ r.pic.phase → a = r) ∧ (a.pic.phase = 1 → (k.normal : Int) ≤ r.pic.cap - r.pic.bits - rest + fc) := by
    obtain ⟨hbits, hcap, hpay, hframe, hphase⟩ := r.enter_shows 2
    rw [← ha]
    split
    · next h =>
      obtain ⟨h1, -⟩ := Bool.and_eq_true_iff.1 h
      have h1 : r.pic.phase = 1 := of_decide_eq_true h1
      refine ⟨hbits, hcap, hpay, hframe, ?_, ?_, ?_, ?_⟩
      · omega
      · omega
      · omega
      · omega
    · next h =>
      refine ⟨rfl, rfl, rfl, rfl, Nat.le_refl _, id, fun _ => rfl, fun h1 => ?_⟩
      by_contra hover
      exact h (by rw [decide_eq_true h1, decide_eq_false hover]; rfl)
  obtain ⟨habits, hacap, hapay, haframe, haphase, hale, hastay, hanormal⟩ := hA
  obtain ⟨hbits, hcap, hpay, hframe, hphase⟩ := a.enter_shows 3
  rw [← hq]
  split
  · next h =>
    obtain ⟨h2, -⟩ := Bool.and_eq_true_iff.1 h
    have h2 : a.pic.phase = 2 := of_decide_eq_true h2
    refine ⟨hbits.trans habits, hcap.trans hacap, hpay.trans hapay, hframe.trans haframe, ?_, ?_, fun h3 => ?_, ?_, ?_⟩
    · omega
    · omega
    · have := hastay h3
      rw [this] at h2
      omega
    · omega
    · omega
  · next h =>
    refine ⟨habits, hacap, hapay, haframe, haphase, hale, hastay, hanormal, fun h2 => ?_⟩
    by_contra hover
    exact h (by rw [decide_eq_true h2, decide_eq_false hover]; rfl)

theorem bitsStayWithinTheCap : BitsStayWithinTheCap := by
  unfold BitsStayWithinTheCap
  intro r fc rest k hfc hrest
  obtain ⟨hqbits, hqcap, -, -, hqphase, -, -, hnormal, hmax⟩ := phased_shows r fc rest k rfl
  obtain ⟨hbits, hcap, -, -, hphase, -⟩ := ctu_shows r fc rest k rfl rfl
  refine ⟨?_, hcap.trans hqcap, by rw [hphase]; exact hqphase⟩
  rw [hbits, hcap, hqbits, hqcap, ctuBits]
  split
  · next h1 =>
    have := hnormal h1
    omega
  · split
    · next h2 =>
      have := hmax h2
      omega
    · have := Nat.min_le_right k.floor fc
      omega

/-! ### CTU rows -/

/-- What coding some CTUs of a picture keeps; in phase 3 it takes at most `n` bits and enters no phase. -/
structure CtuKeeps (p : EncPic) (n : Nat) (r : CtuRun) : Prop where
  payload : r.pic.payload = p.payload
  cap : r.pic.cap = p.cap
  frame : r.pic.frame = p.frame
  rises : p.phase ≤ r.pic.phase
  phase : r.pic.phase ≤ 3
  floor : p.phase = 3 → r.entered = [] ∧ r.pic.bits ≤ p.bits + n

theorem CtuKeeps.ctu {p : EncPic} {n fc : Nat} {r : CtuRun} (h : CtuKeeps p n r) (rest : Nat) (k : CtuCand) : CtuKeeps p (n + fc) (r.ctu fc rest k) := by
  obtain ⟨-, hqcap, hqpay, hqframe, hqrises, hqphase, hqstay, -, -⟩ := phased_shows r fc rest k rfl
  obtain ⟨hbits, hcap, hpay, hframe, hphase, hentered⟩ := ctu_shows r fc rest k rfl rfl
  refine ⟨by rw [hpay, hqpay, h.payload], by rw [hcap, hqcap, h.cap], by rw [hframe, hqframe, h.frame], ?_, ?_, fun h3 => ?_⟩
  · rw [hphase]
    exact h.rises.trans hqrises
  · rw [hphase]
    exact hqphase h.phase
  · obtain ⟨hnone, hle⟩ := h.floor h3
    have hr3 : 3 ≤ r.pic.phase := h3 ▸ h.rises
    have hq := hqstay hr3
    rw [hq] at hbits hentered
    have hfloor : ctuBits fc r.pic.phase k = min k.floor fc := by
      rw [Nat.le_antisymm h.phase hr3]
      rfl
    have := Nat.min_le_right k.floor fc
    exact ⟨hentered.trans hnone, by rw [hbits, hfloor]; omega⟩

theorem CtuKeeps.mono {p : EncPic} {n m : Nat} {r : CtuRun} (h : CtuKeeps p n r) (hnm : n ≤ m) : CtuKeeps p m r :=
  { h with floor := fun h3 => ⟨(h.floor h3).1, (h.floor h3).2.trans (Nat.add_le_add_left hnm _)⟩ }

theorem CtuKeeps.foldl {p : EncPic} {b : Nat} {fc : Nat → Nat} {rest : CtuRun → Nat → Nat} {k : Nat → CtuCand} (hfc : ∀ i, fc i ≤ b) :
    ∀ (cols : List Nat) {n : Nat} {r : CtuRun}, CtuKeeps p n r →
      CtuKeeps p (n + cols.length * b) (cols.foldl (fun r col => r.ctu (fc col) (rest r col) (k col)) r)
  | [], _, _, h => h.mono (Nat.le_add_right _ _)
  | col :: cols, n, r, h => by
    have hnext := CtuKeeps.foldl (rest := rest) (k := k) hfc cols ((h.ctu (rest r col) (k col)).mono (Nat.add_le_add_left (hfc col) n))
    refine hnext.mono ?_
    rw [List.length_cons, Nat.succ_mul]
    omega

theorem ctuFloor_le (s : State) (c e : Nat) (p : EncPic) (col : Nat) : s.ctuFloor c e p col ≤ s.encFdc c e := by
  have h160 : 160 ≤ s.encFdc c e := by
    unfold State.encFdc
    split <;> decide
  unfold State.ctuFloor
  dsimp only
  split
  · exact Nat.le_refl _
  · omega

theorem CtuKeeps.refl {p : EncPic} (h : p.phase ≤ 3) : CtuKeeps p 0 { pic := p } :=
  ⟨rfl, rfl, rfl, Nat.le_refl _, h, fun _ => ⟨rfl, Nat.le_refl _⟩⟩

theorem CtuKeeps.enterTwo {p : EncPic} {n : Nat} {r : CtuRun} (h : CtuKeeps p n r) : CtuKeeps p n (r.enter 2) := by
  obtain ⟨-, hcap, hpay, hframe, hphase⟩ := r.enter_shows 2
  have hrises := h.rises
  have hle := h.phase
  refine ⟨hpay.trans h.payload, hcap.trans h.cap, hframe.trans h.frame, ?_, ?_, fun h3 => ?_⟩
  · omega
  · omega
  · rw [CtuRun.enter_late (by omega)]
    exact h.floor h3

/-- A slice's header takes at most 640 bits. -/
theorem CtuKeeps.header {p : EncPic} {n : Nat} {r : CtuRun} (h : CtuKeeps p n r) (hdr k : Nat) :
    CtuKeeps p (n + 640) { r with pic := { r.pic with slices := k, bits := r.pic.bits + min hdr 640 } } := by
  refine ⟨h.payload, h.cap, h.frame, h.rises, h.phase, fun h3 => ⟨(h.floor h3).1, ?_⟩⟩
  have hle := (h.floor h3).2
  have := Nat.min_le_right hdr 640
  show r.pic.bits + min hdr 640 ≤ p.bits + (n + 640)
  omega

/-- The end of a row: the picture so far on its core, its phase, and the phases entered. -/
def State.encRowEnd (s : State) (c e poc row : Nat) (q : EncPic) (entered : List Nat) : State :=
  entered.foldl (fun s ph =>
    (s.inc (if ph = 2 then ENC_S_MAXQP_CNT c e else ENC_S_FLOOR_CNT c e)).raise (if ph = 2 then 578 else 579) (0x0800 + c) [w32 e, w32 poc, w32 row])
    ((s.setEncCore c { s.encCoreOf c with cur := some q }).setFld (ENC_S_STATUS c e) ENC_S_STATUS_PHASE q.phase)

/-- The registers of a row's end. -/
def rowRegs (c e : Nat) : List Nat :=
  (ENC_S_STATUS c e).off :: (ENC_S_MAXQP_CNT c e).off :: (ENC_S_FLOOR_CNT c e).off :: (evRegs 578 ++ evRegs 579)

section
variable (s : State) (c e : Fin 4) (poc row : Nat) (q : EncPic) (entered : List Nat)

theorem encRowEnd_shows (hphase : q.phase ≤ 3) {t : State} (ht : s.encRowEnd c e poc row q entered = t) :
    t.encCoreOf c = { s.encCoreOf c with cur := some q } ∧ t.fld (ENC_S_STATUS c e) ENC_S_STATUS_PHASE = q.phase ∧ RegsBut s t (rowRegs c e) ∧
      t = { s with regs := t.regs, encCore := t.encCore, occ := t.occ } ∧ (entered = [] → t.occ = s.occ) := by
  rw [State.encRowEnd] at ht
  generalize ha : s.setEncCore c { s.encCoreOf c with cur := some q } = a at ht
  have haframe : a = { s with encCore := a.encCore } := by rw [← ha]; rfl
  have haregs : a.regs = s.regs := by rw [haframe]
  generalize hb : a.setFld (ENC_S_STATUS c e) ENC_S_STATUS_PHASE q.phase = b at ht
  have hbonly : OnlyRegs a b := hb ▸ (OnlyRegs.refl a).setFld _ _ _
  have hbregs : RegsBut s b (rowRegs c e) := hb ▸ ((RegsBut.refl s _).congr haregs).setFld _ _ _ (by simp [rowRegs])
  have hbphase : b.fld (ENC_S_STATUS c e) ENC_S_STATUS_PHASE = q.phase := by
    rw [← hb]
    exact (State.fld_setFld_self a _ ENC_S_STATUS_PHASE q.phase).trans (Nat.mod_eq_of_lt (by simp only [ENC_S_STATUS_PHASE]; omega))
  have honly : OnlyRegsOcc b t := by
    have hfold : ∀ (l : List Nat) (u : State), OnlyRegsOcc b u → OnlyRegsOcc b (l.foldl (fun s ph =>
        (s.inc (if ph = 2 then ENC_S_MAXQP_CNT c e else ENC_S_FLOOR_CNT c e)).raise (if ph = 2 then 578 else 579) (0x0800 + c) [w32 e, w32 poc, w32 row]) u) := by
      intro l
      induction l with
      | nil => exact fun _ hu => hu
      | cons ph l ih => exact fun u hu => ih _ ((hu.inc _ _).raise _ _ _)
    exact ht ▸ hfold entered b (OnlyRegsOcc.refl b)
  have hafter : RegsBut b t ((ENC_S_MAXQP_CNT c e).off :: (ENC_S_FLOOR_CNT c e).off :: (evRegs 578 ++ evRegs 579)) := by
    rw [← ht]
    refine RegsBut.foldl (fun u ph hu => ?_) entered (RegsBut.refl b _)
    by_cases h2 : ph = 2
    · rw [if_pos h2, if_pos h2]
      exact (hu.inc _ _ (by simp)).raise 578 _ _ (fun o ho => by simp [ho])
    · rw [if_neg h2, if_neg h2]
      exact (hu.inc _ _ (by simp)).raise 579 _ _ (fun o ho => by simp [ho])
  refine ⟨?_, ?_, hbregs.trans (hafter.mono (by simp [rowRegs])), ?_, fun hnone => ?_⟩
  · rw [State.encCoreOf, honly.field State.encCore, hbonly.field State.encCore, ← ha]
    exact State.encCoreOf_setEncCore s c _
  · have hstatus : t.rd (ENC_S_STATUS c e) = b.rd (ENC_S_STATUS c e) := hafter.rd (by
      simp only [evRegs, EVT_R_CNT, EVT_R_LAST, ENC_S_STATUS, ENC_S_MAXQP_CNT, ENC_S_FLOOR_CNT, List.cons_append, List.nil_append, List.mem_cons,
        List.not_mem_nil, or_false, not_or]
      omega)
    rw [State.fld, hstatus]
    exact hbphase
  · rw [OnlyRegsOcc] at honly
    rw [OnlyRegs] at hbonly
    rw [honly, hbonly, haframe]
  · rw [hnone] at ht
    have hbt : b = t := ht
    rw [← hbt, hbonly.occ, haframe]

end

/-- The run of a row's CTUs: phase 2 where the floors would not fit any more, the header of a slice, and the CTUs. -/
def State.encRowRun (s : State) (c e w h : Nat) (p : EncPic) (hdr : Nat) (cands : List CtuCand) : CtuRun :=
  let fq := (s.rd (ENC_S_FQ c e)).toNat
  let row := p.row
  let a : Int := (p.cap : Int) - p.bits - s.encReserve c e p row 0
  let r : CtuRun := { pic := p }
  let r := if p.phase = 1 && a < ((h - row) * w * fq : Nat) then r.enter 2 else r
  let sr := s.sliceRows c e
  let starts := if sr = 0 then row == 0 else row % sr == 0
  let r := if starts then { r with pic := { r.pic with slices := r.pic.slices - 1, bits := r.pic.bits + min hdr 640 } } else r
  (List.range w).foldl (fun r col =>
    r.ctu (s.ctuFloor c e p col) (s.encReserve c e r.pic row col) ((cands[col]?).getD ⟨0, 0, 0, 0⟩)) r

theorem encRowRun_keeps (s : State) (c e w h : Nat) {p : EncPic} (hdr : Nat) (cands : List CtuCand) (hphase : p.phase ≤ 3) :
    CtuKeeps p (640 + w * s.encFdc c e) (s.encRowRun c e w h p hdr cands) := by
  unfold State.encRowRun
  extract_lets +onlyGivenNames fq row a r0 r1 sr starts src r2
  have h1 : CtuKeeps p 0 r1 := by
    show CtuKeeps p 0 (if _ then _ else _)
    split
    · exact (CtuKeeps.refl hphase).enterTwo
    · exact CtuKeeps.refl hphase
  have h2 : CtuKeeps p 640 r2 := by
    show CtuKeeps p 640 (if _ then _ else _)
    split
    · exact (h1.header hdr (r1.pic.slices - 1)).mono (by omega)
    · exact h1.mono (by omega)
  have hfold := CtuKeeps.foldl (rest := fun r col => s.encReserve c e r.pic row col) (k := fun col => (cands[col]?).getD ⟨0, 0, 0, 0⟩)
    (ctuFloor_le s c e p) (List.range w) h2
  rwa [List.length_range] at hfold

/-- The picture after a row. -/
def encRowPic (r : CtuRun) (row : Nat) (qps : List Nat) (data : List Byte) : EncPic :=
  { r.pic with row := row + 1, groupQp := qps, payload := r.pic.payload ++ data }

/-- A row in its parts: the CTUs' run, the row's end, and the record of a session that sends its slices. -/
def State.encRowParts (s : State) (c e w h : Nat) (p : EncPic) (hdr : Nat) (cands : List CtuCand) (data : List Byte) : State :=
  let r := s.encRowRun c e w h p hdr cands
  let qps := (List.range w).flatMap (fun col => s.ctuQps c e (s.encOf c e).act r.pic.phase ((cands[col]?).getD ⟨0, 0, 0, 0⟩).qp col p.row)
  let q := { r.pic with row := p.row + 1, groupQp := qps, payload := if s.encSub c e then [] else r.pic.payload ++ data }
  let t := s.encRowEnd c e p.poc p.row q r.entered
  if t.encSub c e then
    let (u, ok) := t.encRecord c e 1 p.row p.poc (q.flags + 8 * b2n (q.lateRow == some p.row) + 64 * b2n (p.row + 1 == h)) p.frame.info data
    if ok then u.raise 577 (0x0800 + c) [w32 e, w32 p.poc, w32 p.row] else u
  else t

theorem encRow_eq_parts {s : State} {c : Nat} {p : EncPic} {hdr : Nat} {cands : List CtuCand} {data : List Byte} {w h : Nat}
    (hwh : s.encCtus c p.session = (w, h)) : s.encRow c p hdr cands data = s.encRowParts c p.session w h p hdr cands data := by
  unfold State.encRow
  extract_lets +onlyGivenNames e
  rw [show s.encCtus c e = (w, h) from hwh]
  rfl

/-- A row of a session that does not send its slices: the CTUs' run and the row's end. -/
theorem encRow_codes {s : State} {c e : Fin 4} {p : EncPic} {hdr : Nat} {cands : List CtuCand} {data : List Byte} (he : p.session = e)
    (hsub : s.encSub c e = false) (hphase : p.phase ≤ 3) {w h : Nat} (hwh : s.encCtus c p.session = (w, h))
    {r : CtuRun} (hr : s.encRowRun c e w h p hdr cands = r) :
    ∃ q, q.row = p.row + 1 ∧ q.phase = r.pic.phase ∧ q.bits = r.pic.bits ∧ q.payload = r.pic.payload ++ data ∧ q.cap = r.pic.cap ∧ q.frame = r.pic.frame ∧
      s.encRow c p hdr cands data = s.encRowEnd c e p.poc p.row q r.entered := by
  have hkeeps : CtuKeeps p (640 + w * s.encFdc c e) r := hr ▸ encRowRun_keeps s c e w h hdr cands hphase
  generalize hq : encRowPic r p.row ((List.range w).flatMap (fun col =>
    s.ctuQps c e (s.encOf c e).act r.pic.phase ((cands[col]?).getD ⟨0, 0, 0, 0⟩).qp col p.row)) data = q
  obtain ⟨hrow, hpic, hbits, hpay, hcap, hframe⟩ : q.row = p.row + 1 ∧ q.phase = r.pic.phase ∧ q.bits = r.pic.bits ∧
      q.payload = r.pic.payload ++ data ∧ q.cap = r.pic.cap ∧ q.frame = r.pic.frame := by
    rw [← hq]
    exact ⟨rfl, rfl, rfl, rfl, rfl, rfl⟩
  refine ⟨q, hrow, hpic, hbits, hpay, hcap, hframe, ?_⟩
  generalize ht : s.encRowEnd c e p.poc p.row q r.entered = t
  rw [encRow_eq_parts hwh, he, State.encRowParts, hr, hsub, ← ht, ← hq]
  refine if_neg ?_
  show ¬ (s.encRowEnd c e p.poc p.row (encRowPic _ _ _ _) r.entered).encSub c e = true
  rw [hq, ht]
  have hkept : t.encSub c e = false := by
    obtain ⟨-, -, hregs, -, -⟩ := encRowEnd_shows s c e p.poc p.row q r.entered (hpic ▸ hkeeps.phase) ht
    have hrd : t.rd (ENC_S_CODEC c e) = s.rd (ENC_S_CODEC c e) := hregs.rd (by
      simp only [rowRegs, evRegs, EVT_R_CNT, EVT_R_LAST, ENC_S_STATUS, ENC_S_CODEC, ENC_S_MAXQP_CNT, ENC_S_FLOOR_CNT, List.cons_append, List.nil_append,
        List.mem_cons, List.not_mem_nil, or_false, not_or]
      omega)
    rw [State.encSub, State.bit, hrd]
    exact hsub
  exact Bool.eq_false_iff.1 hkept

theorem ctuRows : CtuRows := by
  unfold CtuRows
  intro c hdr cands data s p hcur
  refine ⟨fun hdone => ?_, fun hrow hrun hsub hsess hphase => ?_⟩
  · have h : execEncCtuRowDone c hdr cands data s = .next s := by
      unfold execEncCtuRowDone
      simp only [hcur, decide_eq_false (Nat.not_lt.2 hdone), Bool.false_and, Bool.false_eq_true, if_false]
    exact h
  · obtain ⟨e, he⟩ : ∃ e : Fin 4, p.session = e := ⟨⟨p.session, hsess⟩, rfl⟩
    rcases hwh : s.encCtus c p.session with ⟨w, h⟩
    rw [hwh] at hrow
    rw [he] at hsub ⊢

    have hrun' : execEncCtuRowDone c hdr cands data s = .next (s.settle (s.encRow c p hdr cands data)) := by
      unfold execEncCtuRowDone
      simp only [hcur, hwh, decide_eq_true hrow, hrun, Bool.and_self, if_true]
    obtain ⟨q, hqrow, hqphase, hqbits, hqpay, hqcap, hqframe, hrowEq⟩ := encRow_codes (hdr := hdr) (cands := cands) (data := data) he hsub hphase hwh rfl
    obtain ⟨hpay, hcap, hframe, hrises, hle, hfloor⟩ := encRowRun_keeps s c e w h hdr cands hphase
    rw [hrowEq] at hrun'
    generalize s.encRowRun c e w h p hdr cands = r at hrun' hqphase hqbits hqpay hqcap hqframe hpay hcap hframe hrises hle hfloor
    generalize ht : s.encRowEnd c e p.poc p.row q r.entered = t at hrun'
    obtain ⟨hcore, hshown, hregs, hall, hocc⟩ := encRowEnd_shows s c e p.poc p.row q r.entered (hqphase ▸ hle) ht
    refine Runs.next hrun' ⟨q, hcore, hqrow, hqphase ▸ hrises, hqphase ▸ hle, by rw [hqpay, hpay], by rw [hqcap, hcap], by rw [hqframe, hframe], hshown,
      fun h3 => ⟨State.settle_occ_same (hocc (hfloor h3).1), ?_⟩, hregs.settle, ?_⟩
    · have hle := (hfloor h3).2
      show q.bits ≤ p.bits + 640 + w * s.encFdc c e
      rw [hqbits]
      omega
    · rw [State.settle, hall]

/-! ### The consumer's pointer -/

/-- The pointer is no stream's record. -/
theorem strmRec_none {s a : State} {c e : Fin 4} {v : Word} {id : Nat} (ha : s.wr (ENC_S_BS_RP c e) v = a) (h : s.strmRec id = none) : a.strmRec id = none := by
  rw [State.strmRec, List.find?_eq_none] at h ⊢
  intro i hi
  have hlt := List.mem_range.1 hi
  have hid : a.rd (UMP_S_ID i) = s.rd (UMP_S_ID i) := by
    rw [← ha, State.rd_wr_ne _ _ (by simp only [UMP_S_ID, ENC_S_BS_RP]; omega)]
  have hcfg : a.rd (UMP_S_CFG i) = s.rd (UMP_S_CFG i) := by
    rw [← ha, State.rd_wr_ne _ _ (by simp only [UMP_S_CFG, ENC_S_BS_RP]; omega)]
  rw [hid, State.fld, hcfg]
  exact h i hi

theorem bitstreamIsRead : BitstreamIsRead := by
  unfold BitstreamIsRead
  intro c e v s hreach
  have hrun : exec (.encBsRpWrite c e v) s = .next (s.encRpWrite c e v) := exec_hostDo hreach rfl
  refine ⟨_, hrun, ?_⟩
  generalize ht : s.encRpWrite c e v = t
  rw [State.encRpWrite] at ht
  generalize ha : s.wr (ENC_S_BS_RP c e) (v &&& 0xFFFFFFC0) = a at ht
  have haonly : OnlyRegs s a := ha ▸ (OnlyRegs.refl s).wr _ _
  obtain ⟨hframe, hregs⟩ : StreamFrame a t := ht ▸ backlogSetId_frame a _ _
  refine ⟨?_, fun b => ?_, ?_, fun hnone => ?_⟩
  · rw [hregs.rd (streamReg_high (by simp only [ENC_S_BS_RP]; omega)), ← ha]
    exact State.rd_wr_self _ _ _
  · exact (StreamFrame.mem ⟨hframe, hregs⟩ b).trans (congrFun (haonly.field State.mem) b)
  · rw [hframe]
    exact haonly.field State.enc
  · have hrec := strmRec_none (id := encStream c e) ha hnone
    have hta : t = a := by
      rw [← ht]
      unfold State.backlogSetId
      simp only [hrec]
    exact hta

/-- Settles O33, a CTU by the phase in which it is coded, and a row by what its CTUs keep. -/
theorem encoderCap : Obligations.EncoderCap := by
  unfold Obligations.EncoderCap
  exact ⟨bitsStayWithinTheCap, ctuRows, bitstreamIsRead⟩

end Sys2Proof.Machine
end

section
/-! PROOFS. CMX: the fallback and the job rings (R348 to R351). -/

-- One proof at a time: the text is compiled as one file in bounded memory.
set_option Elab.async false

namespace Sys2Proof.Machine
open Sys2Proof.Claims

/-! ### The fallback -/

theorem cmxFallsBackAndRestores : CmxFallsBackAndRestores := by
  unfold CmxFallsBackAndRestores
  intro s
  refine ⟨fun hover hoff => ?_, fun hunder hon => ?_, fun hwithin => ?_, fun hwithin => ?_⟩
  · generalize ha : s.setBit CMX_STATUS CMX_STATUS_FALLBACK true = a
    generalize hb : a.setFld CMX_STATUS CMX_STATUS_LEVEL_NOW 0 = b
    have hrun : exec .cmxFallback s = .next ((b.inc CMX_FB_CNT).raise 616 0x0A00) := by
      rw [← hb, ← ha]
      exact congrArg Host.Outcome.next (if_pos (by rw [decide_eq_true hover, hoff]; rfl))
    have honly : OnlyRegs s (b.inc CMX_FB_CNT) := by
      rw [← hb, ← ha]
      exact (((OnlyRegs.refl s).setBit _ _ _).setFld _ _ _).inc _ _
    have hregs : RegsBut s (b.inc CMX_FB_CNT) [CMX_STATUS.off, CMX_FB_CNT.off] := by
      rw [← hb, ← ha]
      exact (((RegsBut.refl s _).setBit _ _ _).setFld _ _ _).inc _ _
    have hcount : b.rd CMX_FB_CNT = s.rd CMX_FB_CNT := by
      rw [← hb, ← ha, State.rd_setFld_ne _ _ _ (by decide), State.setBit_eq, State.rd_wr_ne _ _ (by decide)]
    have hstatus : ((b.inc CMX_FB_CNT).raise 616 0x0A00).rd CMX_STATUS = b.rd CMX_STATUS := by
      rw [State.rd_raise _ _ _ _ (by decide) (by decide), State.inc_eq, State.rd_wr_ne _ _ (by decide)]
    refine Runs.next hrun ⟨?_, ?_, ?_, State.raised_raise 616 _ [] honly.occ (hregs.rd (by decide)), (hregs.mono (by simp)).raise 616 _ _ (by simp),
      honly.regsOcc.raise _ _ _⟩
    · rw [State.bit, hstatus, ← hb]
      refine (State.bit_setFld_ne a CMX_STATUS (f := CMX_STATUS_LEVEL_NOW) (g := CMX_STATUS_FALLBACK) 0).trans ?_
      rw [← ha]
      exact State.bit_setBit_self s _ _ _
    · rw [State.fld, hstatus, ← hb]
      exact State.fld_setFld_self a CMX_STATUS CMX_STATUS_LEVEL_NOW 0
    · rw [State.rd_raise _ _ _ _ (by decide) (by decide), State.inc_eq, State.rd_wr_self, hcount]
  · generalize ha : s.setBit CMX_STATUS CMX_STATUS_FALLBACK false = a
    generalize hb : a.setFld CMX_STATUS CMX_STATUS_LEVEL_NOW (s.fld CMX_CFG CMX_CFG_LEVEL) = b
    have hrun : exec .cmxRestore s = .next (b.raise 617 0x0A00) := by
      rw [← hb, ← ha]
      exact congrArg Host.Outcome.next (if_pos (by rw [decide_eq_true hunder, hon]; rfl))
    have honly : OnlyRegs s b := by
      rw [← hb, ← ha]
      exact ((OnlyRegs.refl s).setBit _ _ _).setFld _ _ _
    have hregs : RegsBut s b [CMX_STATUS.off] := by
      rw [← hb, ← ha]
      exact ((RegsBut.refl s _).setBit _ _ _).setFld _ _ _
    have hstatus : (b.raise 617 0x0A00).rd CMX_STATUS = b.rd CMX_STATUS := State.rd_raise _ _ _ _ (by decide) (by decide)
    refine Runs.next hrun ⟨?_, ?_, State.raised_raise 617 _ [] honly.occ (hregs.rd (by decide)), (hregs.mono (by simp)).raise 617 _ _ (by simp),
      honly.regsOcc.raise _ _ _⟩
    · rw [State.bit, hstatus, ← hb]
      refine (State.bit_setFld_ne a CMX_STATUS (f := CMX_STATUS_LEVEL_NOW) (g := CMX_STATUS_FALLBACK) _).trans ?_
      rw [← ha]
      exact State.bit_setBit_self s _ _ _
    · rw [State.fld, hstatus, ← hb]
      refine (State.fld_setFld_self a CMX_STATUS CMX_STATUS_LEVEL_NOW _).trans (Nat.mod_eq_of_lt ?_)
      exact Nat.mod_lt _ (by decide)
  · exact congrArg Host.Outcome.next (if_neg (by rw [decide_eq_false (Nat.not_lt.2 hwithin), Bool.false_and]; decide))
  · exact congrArg Host.Outcome.next (if_neg (by rw [decide_eq_false (Nat.not_lt.2 hwithin), Bool.false_and]; decide))

/-! ### Jobs -/

/-- Memory after a job: its output, and the completion part of its descriptor at `a`. -/
def State.jobWritten (s : State) (a : Nat) (d : List Byte) (st lu eo n : Nat) (out : List Byte) : State :=
  let s := (s.memWrite (leAt d 0x18 8) out).useFree
  let s := s.memWrite (a + 0x21) (leBytes 1 lu ++ leBytes 2 0 ++ leBytes 4 n ++ leBytes 4 eo ++ wordBytes s.ns)
  s.memWrite (a + 0x20) (leBytes 1 st)

/-- Registers and events after a job at ring place `i`. -/
def State.jobCounted (s : State) (j i : Nat) (d : List Byte) (st : Nat) : State :=
  let s := (s.wr (CMX_J_HEAD j) (w32 ((i + 1) % s.jobRing j))).incWrap (CMX_J_DONE j)
  let tag := w32 (leAt d 4 4)
  let s := if bitsOf (leAt d 2 2) 2 2 = 1 then s.raise 618 0x0A00 [tag] else s
  if st = 1 then s else (s.setFld (CMX_J_STATUS j) ⟨1, 1⟩ 1).raiseOnce 619 j 0x0A00 [tag]

theorem jobDone_eq {s : State} {j i a st lu eo n : Nat} {d out : List Byte} (hi : (s.rd (CMX_J_HEAD j)).toNat = i)
    (ha : s.rd64 (CMX_J_BASE_LO j) (CMX_J_BASE_HI j) / 64 * 64 + 64 * i = a) (hd : s.memRead a 64 = d) (hr : s.jobRun d = (st, lu, eo, n, out)) :
    s.jobDone j = (s.jobWritten a d st lu eo n out).jobCounted j i d st := by
  subst hd ha hi
  unfold State.jobDone
  extract_lets +onlyGivenNames i a d
  rw [show s.jobRun d = _ from hr]
  rfl

/-- An operation or a level that does not exist is status 3 with no output. -/
theorem jobRun_bad {s : State} {d : List Byte} (h : leAt d 0 1 ∉ [1, 2] ∨ (10 ≤ leAt d 1 1 ∧ leAt d 1 1 ≠ 0xFF)) : s.jobRun d = (3, 0, 0, 0, []) := by
  refine if_pos ?_
  rcases h with hop | ⟨hlow, hhigh⟩
  · simp only [List.mem_cons, List.not_mem_nil, or_false, not_or] at hop
    rw [decide_eq_false hop.1, decide_eq_false hop.2]
    rfl
  · rw [decide_eq_true hlow, bne_iff_ne.2 hhigh, Bool.and_self, Bool.or_true]

/-- A source outside the memory of software is status 6. -/
theorem jobRun_outside {s : State} {d : List Byte} (hop : leAt d 0 1 = 1) (hlv : leAt d 1 1 < 10 ∨ leAt d 1 1 = 0xFF)
    (hspan : s.g7Span (leAt d 8 8) (leAt d 0x10 4) = false) : (s.jobRun d).1 = 6 := by
  have hgood : ¬ (!(decide (leAt d 0 1 = 1) || decide (leAt d 0 1 = 2)) || (decide (10 ≤ leAt d 1 1) && leAt d 1 1 != 0xFF)) = true := by
    rw [decide_eq_true hop, Bool.true_or, Bool.not_true, Bool.false_or, Bool.not_eq_true, Bool.and_eq_false_iff]
    exact hlv.imp (fun hlt => decide_eq_false (Nat.not_le.2 hlt)) (fun heq => by rw [heq]; rfl)
  have h : s.jobRun d = (6, 0, 0, 0, []) := (if_neg hgood).trans (if_pos (by rw [hspan]; rfl))
  rw [h]

section
variable (s : State) (a : Nat) (d : List Byte) (st lu eo n : Nat) (out : List Byte) {w : State} (hw : s.jobWritten a d st lu eo n out = w)
include hw

/-- A job writes its output and the 16 bytes of its completion; nothing but memory and the counter of free values changes. -/
theorem jobWritten_shows : w.mem (a + 0x20) = BitVec.ofNat 8 st ∧
    (∀ b, (b < leAt d 0x18 8 ∨ leAt d 0x18 8 + out.length ≤ b) → (b < a + 0x20 ∨ a + 0x30 ≤ b) → w.mem b = s.mem b) ∧ w.regs = s.regs := by
  rw [State.jobWritten] at hw
  generalize hu : (s.memWrite (leAt d 0x18 8) out).useFree = u at hw
  generalize hc : leBytes 1 lu ++ leBytes 2 0 ++ leBytes 4 n ++ leBytes 4 eo ++ wordBytes u.ns = c at hw
  generalize hv : u.memWrite (a + 0x21) c = v at hw
  have hlen : c.length = 15 := by rw [← hc]; simp only [List.length_append, length_leBytes, length_wordBytes]
  have hone : (leBytes 1 st).length = 1 := length_leBytes 1 st
  refine ⟨?_, fun b hout hcompl => ?_, ?_⟩
  · have h := State.mem_memWrite_in v (a + 0x20) (leBytes 1 st) (i := 0) (by rw [hone]; decide)
    rw [hw] at h
    exact h.trans rfl
  · calc w.mem b = v.mem b := by rw [← hw]; exact State.mem_memWrite_out v _ _ (by rw [hone]; omega)
      _ = u.mem b := by rw [← hv]; exact State.mem_memWrite_out u _ _ (by rw [hlen]; omega)
      _ = (s.memWrite (leAt d 0x18 8) out).mem b := by rw [← hu]; rfl
      _ = s.mem b := State.mem_memWrite_out s _ _ hout
  · rw [← hw, ← hv, ← hu]
    rfl

end

/-- What raising once per round leaves besides the registers of its event. -/
theorem raiseOnce_mem (s : State) (ev key src : Nat) (items : List Word) (b : Nat) : (s.raiseOnce ev key src items).mem b = s.mem b := by
  unfold State.raiseOnce
  split <;> rfl

section
variable (w : State) (j : Fin 16) (i : Nat) (d : List Byte) (st : Nat) {t : State} (ht : w.jobCounted j i d st = t)
include ht

/-- Head, count and status after a job, with the registers and the memory that stay. -/
theorem jobCounted_shows : t.rd (CMX_J_HEAD j) = w32 ((i + 1) % w.jobRing j) ∧ t.rd (CMX_J_DONE j) = w.rd (CMX_J_DONE j) + 1 ∧
    (∀ b, t.mem b = w.mem b) ∧ (st ≠ 1 → (t.rd (CMX_J_STATUS j)).getLsbD 1 = true) ∧ (st = 1 → t.rd (CMX_J_STATUS j) = w.rd (CMX_J_STATUS j)) ∧
    RegsBut w t ((CMX_J_HEAD j).off :: (CMX_J_DONE j).off :: (CMX_J_STATUS j).off :: (evRegs 618 ++ evRegs 619)) := by
  have hj := j.isLt
  rw [State.jobCounted] at ht
  generalize hu : (w.wr (CMX_J_HEAD j) (w32 ((i + 1) % w.jobRing j))).incWrap (CMX_J_DONE j) = u at ht
  have huregs : RegsBut w u [(CMX_J_HEAD j).off, (CMX_J_DONE j).off] := by
    rw [← hu, State.incWrap_eq]
    exact ((RegsBut.refl w _).wr _ _).wr _ _
  have huonly : OnlyRegs w u := by
    rw [← hu, State.incWrap_eq]
    exact ((OnlyRegs.refl w).wr _ _).wr _ _
  have hhead : u.rd (CMX_J_HEAD j) = w32 ((i + 1) % w.jobRing j) := by
    rw [← hu, State.incWrap_eq, State.rd_wr_ne _ _ (by simp only [CMX_J_HEAD, CMX_J_DONE]; omega), State.rd_wr_self]
  have hdone : u.rd (CMX_J_DONE j) = w.rd (CMX_J_DONE j) + 1 := by
    rw [← hu, State.incWrap_eq, State.rd_wr_self, State.rd_wr_ne _ _ (by simp only [CMX_J_HEAD, CMX_J_DONE]; omega)]
  have hustatus : u.rd (CMX_J_STATUS j) = w.rd (CMX_J_STATUS j) := huregs.rd (by
    simp only [CMX_J_HEAD, CMX_J_DONE, CMX_J_STATUS, List.mem_cons, List.not_mem_nil, or_false, not_or]; omega)
  generalize hv : (if bitsOf (leAt d 2 2) 2 2 = 1 then u.raise 618 0x0A00 [w32 (leAt d 4 4)] else u) = v at ht
  have hvregs : RegsBut u v (evRegs 618) := hv ▸ RegsBut.ite ((RegsBut.refl u _).raise 618 _ _) (RegsBut.refl u _)
  have hvonly : OnlyRegsOcc u v := hv ▸ OnlyRegsOcc.ite ((OnlyRegsOcc.refl u).raise 618 _ _) (OnlyRegsOcc.refl u)
  have hmem (b : Nat) : v.mem b = w.mem b := (congrFun (hvonly.field State.mem) b).trans (congrFun (huonly.field State.mem) b)
  have hstay {r : Reg} (h : r.off ∉ evRegs 618) : v.rd r = u.rd r := hvregs.rd h
  have hhigh {o : Nat} (ev : Nat) (hev : ev < 1024) (h : 0x3601000 ≤ o) : o ∉ evRegs ev := by
    simp only [evRegs, EVT_R_CNT, EVT_R_LAST, List.mem_cons, List.not_mem_nil, or_false, not_or]
    omega
  have hheadHigh : 0x3601000 ≤ (CMX_J_HEAD j).off := by simp only [CMX_J_HEAD]; omega
  have hdoneHigh : 0x3601000 ≤ (CMX_J_DONE j).off := by simp only [CMX_J_DONE]; omega
  have hstatusHigh : 0x3601000 ≤ (CMX_J_STATUS j).off := by simp only [CMX_J_STATUS]; omega
  have hall : RegsBut w v ((CMX_J_HEAD j).off :: (CMX_J_DONE j).off :: (CMX_J_STATUS j).off :: (evRegs 618 ++ evRegs 619)) :=
    (huregs.mono (by simp)).trans (hvregs.mono (fun o ho => by simp [ho]))
  by_cases h1 : st = 1
  · rw [if_pos h1] at ht
    rw [← ht]
    exact ⟨(hstay (hhigh 618 (by decide) hheadHigh)).trans hhead, (hstay (hhigh 618 (by decide) hdoneHigh)).trans hdone, hmem, fun h => absurd h1 h,
      fun _ => (hstay (hhigh 618 (by decide) hstatusHigh)).trans hustatus, hall⟩
  · rw [if_neg h1] at ht
    generalize hx : v.setFld (CMX_J_STATUS j) ⟨1, 1⟩ 1 = x at ht
    have hxregs : RegsBut v x [(CMX_J_STATUS j).off] := hx ▸ (RegsBut.refl v _).setFld _ _ _
    have hxonly : OnlyRegs v x := hx ▸ (OnlyRegs.refl v).setFld _ _ _
    have htregs : RegsBut x t (evRegs 619) := ht ▸ State.raiseOnce_regs x 619 j 0x0A00 [w32 (leAt d 4 4)]
    have hstatus : (x.rd (CMX_J_STATUS j)).getLsbD 1 = true := by
      rw [← hx, State.setFld_eq, State.rd_wr_self, Fld.put_getLsbD _ _ _ _ (by decide)]
      rfl
    refine ⟨?_, ?_, fun b => ?_, fun _ => ?_, fun h => absurd h h1, ?_⟩
    · rw [htregs.rd (hhigh 619 (by decide) hheadHigh), hxregs.rd (by simp only [CMX_J_HEAD, CMX_J_STATUS, List.mem_singleton]; omega),
        hstay (hhigh 618 (by decide) hheadHigh), hhead]
    · rw [htregs.rd (hhigh 619 (by decide) hdoneHigh), hxregs.rd (by simp only [CMX_J_DONE, CMX_J_STATUS, List.mem_singleton]; omega),
        hstay (hhigh 618 (by decide) hdoneHigh), hdone]
    · rw [← ht, raiseOnce_mem]
      exact (congrFun (hxonly.field State.mem) b).trans (hmem b)
    · rw [htregs.rd (hhigh 619 (by decide) hstatusHigh)]
      exact hstatus
    · exact hall.trans ((hxregs.mono (by simp)).trans (htregs.mono (fun o ho => by simp [ho])))

end

theorem cmxJobs : CmxJobs := by
  unfold CmxJobs
  intro j v s
  refine ⟨fun hreach hout => ?_, fun hreach hin => ?_, fun hempty => ?_, fun hrun hen hne => ?_, fun d hop hlv hspan => jobRun_outside hop hlv hspan⟩
  · exact exec_hostDo hreach (if_pos hout)
  · exact exec_hostDo hreach (if_neg (Nat.not_le.2 hin))
  · exact congrArg Host.Outcome.next (if_neg (by rw [hempty, bne_self_eq_false, Bool.and_false]; decide))
  · intro i a d r
    refine ⟨?_, fun hbad => jobRun_bad hbad⟩
    rcases hr : s.jobRun d with ⟨st, lu, eo, n, out⟩
    have hexec : exec (.cmxJobComplete j) s = .next (s.settle (s.jobDone j)) :=
      congrArg Host.Outcome.next (if_pos (by rw [hrun, hen, bne_iff_ne.2 hne]; rfl))
    rw [jobDone_eq (i := i) (a := a) rfl rfl rfl hr] at hexec
    generalize hw : s.jobWritten a d st lu eo n out = w at hexec
    generalize ht : w.jobCounted j i d st = t at hexec
    obtain ⟨hplace, hmem, hregs⟩ := jobWritten_shows s a d st lu eo n out hw
    obtain ⟨hhead, hdone, htmem, hbadSt, hok, htregs⟩ := jobCounted_shows w j i d st ht
    have hrd (q : Reg) : w.rd q = s.rd q := by rw [State.rd, hregs, State.rd]
    have hwregs : RegsBut s w ((CMX_J_HEAD j).off :: (CMX_J_DONE j).off :: (CMX_J_STATUS j).off :: (evRegs 618 ++ evRegs 619)) :=
      (RegsBut.refl s _).congr hregs
    have hr1 : r = (st, lu, eo, n, out) := hr
    rw [hr1]
    refine Runs.next hexec ⟨?_, ?_, ?_, fun b hout hcompl => ?_, fun hst => ?_, fun hst => ?_, (hwregs.trans htregs).settle⟩
    · rw [State.mem_settle, htmem]
      exact hplace
    · rw [State.rd_settle, hhead, State.jobRing, State.jobRing, State.fld, hrd, State.fld]
    · rw [State.rd_settle, hdone, hrd]
    · rw [State.mem_settle, htmem]
      exact hmem b hout hcompl
    · rw [State.rd_settle]
      exact hbadSt hst
    · rw [State.rd_settle, hok hst, hrd]

/-- Settles O35, the fallback and its end by what they write, and a job by its memory and then its registers. -/
theorem compression : Obligations.Compression := by
  unfold Obligations.Compression
  exact ⟨cmxFallsBackAndRestores, cmxJobs⟩

end Sys2Proof.Machine
end

section
/-! PROOFS. The raw codec: frames started, tiles written in the ring, and frames completed (R338 to R343). -/

-- One proof at a time: the text is compiled as one file in bounded memory.
set_option Elab.async false

namespace Sys2Proof.Machine
open Sys2Proof.Claims

theorem State.zrxOf_setZrx (s : State) (z : Nat) (x : ZrxS) : (s.setZrx z x).zrxOf z = x := tabGet_set_self _ _ _ _

/-! ### The ring of a session -/

theorem ringWrite_frame (base size : Nat) : ∀ (bs : List Byte) (s : State) (off : Nat),
    s.ringWrite base size off bs = { s with g7 := (s.ringWrite base size off bs).g7 }
  | [], _, _ => rfl
  | b :: bs, s, off => by
    rw [State.ringWrite, ringWrite_frame base size bs]
    rfl

/-- Bytes written to a ring stay in it. -/
theorem mem_ringWrite_out {base size : Nat} (hsize : 0 < size) {a : Nat} (ha : a < base ∨ base + size ≤ a) : ∀ (bs : List Byte) (s : State) (off : Nat),
    (s.ringWrite base size off bs).mem a = s.mem a
  | [], _, _ => rfl
  | b :: bs, s, off => by
    have hlt := Nat.mod_lt off hsize
    rw [State.ringWrite, mem_ringWrite_out hsize ha bs, if_neg (by omega)]
    exact State.mem_memPut_ne s b (by omega)

/-- A ring place that later bytes do not reach keeps its byte. -/
theorem mem_ringWrite_skip {base size i : Nat} (hi : i < size) : ∀ (bs : List Byte) (s : State) (off : Nat), (∀ k, k < bs.length → (off + k) % size ≠ i) →
    (s.ringWrite base size off bs).mem (base + i) = s.mem (base + i)
  | [], _, _, _ => rfl
  | b :: bs, s, off, h => by
    have hfirst := h 0 (by simp)
    rw [Nat.add_zero] at hfirst
    rw [State.ringWrite, mem_ringWrite_skip hi bs _ _ (fun k hk => by
      have := h (k + 1) (by rw [List.length_cons]; omega)
      rwa [show off + 1 + k = off + (k + 1) by omega]), if_neg (by omega)]
    exact State.mem_memPut_ne s b (by omega)

/-- A string of bytes no longer than the ring stands in it from its place on. -/
theorem mem_ringWrite_in {base size : Nat} : ∀ (bs : List Byte) (s : State) (off i : Nat), i < bs.length → bs.length ≤ size →
    (s.ringWrite base size off bs).mem (base + (off + i) % size) = bs.getD i 0
  | [], _, _, _, h, _ => absurd h (Nat.not_lt_zero _)
  | b :: bs, s, off, 0, _, hle => by
    rw [List.length_cons] at hle
    have hsize : 0 < size := by omega
    rw [State.ringWrite, mem_ringWrite_skip (Nat.mod_lt _ hsize) bs _ _ (fun k hk => ?_), if_neg (by omega), Nat.add_zero, State.mem_memPut_self]
    · rfl
    · rw [Nat.add_zero]
      intro heq
      have hdvd : (off + 1 + k - off) % size = 0 := Nat.sub_mod_eq_zero_of_mod_eq heq
      rw [show off + 1 + k - off = k + 1 by omega, Nat.mod_eq_of_lt (by omega)] at hdvd
      omega
  | b :: bs, s, off, i + 1, h, hle => by
    rw [List.length_cons] at h hle
    rw [State.ringWrite, show off + (i + 1) = off + 1 + i by omega, mem_ringWrite_in bs _ _ i (by omega) (by omega), List.getD_cons_succ]

/-! ### The backlog of CMX -/

/-- The backlog reads neither the register that shows it nor those of other blocks' progress. -/
theorem cmxBacklog_congr {s t : State} (hzrx : t.zrx = s.zrx) (hboot : t.boot = s.boot) (hregs : RegsBut s t [CMX_BACKLOG.off]) : t.cmxBacklog = s.cmxBacklog := by
  have hport (p : Nat) : t.rd (SPT_P_CFG p) = s.rd (SPT_P_CFG p) := hregs.rd (by simp only [SPT_P_CFG, CMX_BACKLOG, List.mem_singleton]; omega)
  have hgeom (p : Nat) : t.rd (SPT_H_GEOM p) = s.rd (SPT_H_GEOM p) := hregs.rd (by simp only [SPT_H_GEOM, CMX_BACKLOG, List.mem_singleton]; omega)
  have hfmt (p : Nat) : t.rd (SPT_H_FMT p) = s.rd (SPT_H_FMT p) := hregs.rd (by simp only [SPT_H_FMT, CMX_BACKLOG, List.mem_singleton]; omega)
  have hcat (h : Nat) : t.rd (CAT_H_CFG h) = s.rd (CAT_H_CFG h) := hregs.rd (by simp only [CAT_H_CFG, CMX_BACKLOG, List.mem_singleton]; omega)
  have hcfg (z : Nat) : t.rd (ZRX_S_CFG z) = s.rd (ZRX_S_CFG z) := hregs.rd (by simp only [ZRX_S_CFG, CMX_BACKLOG, List.mem_singleton]; omega)
  have hlead (h : Nat) : t.leadPort h = s.leadPort h := by simp only [State.leadPort, State.bit, State.fld, hport, hboot]
  have hg (h : Nat) : t.geom h = s.geom h := by
    unfold State.geom State.paddleHead State.hp
    rw [hboot, hlead, hgeom, hfmt]
  have hhead (z : Nat) : t.zrxHead z = s.zrxHead z := by simp only [State.zrxHead, State.fld, hcfg]
  have hbits (h : Nat) : t.rawBits h = s.rawBits h := by
    unfold State.rawBits State.bit
    rw [hcat, hg]
  have hmode (z : Nat) : t.zrxMode z = s.zrxMode z := by simp only [State.zrxMode, State.fld, hcfg]
  have htiles (z : Nat) : t.zrxTiles z = s.zrxTiles z := by simp only [State.zrxTiles, hg, hhead]
  have htile (z : Nat) : t.tileU z = s.tileU z := funext fun i => by simp only [State.tileU, hg, hhead, hbits]
  have hof (z : Nat) : t.zrxOf z = s.zrxOf z := by rw [State.zrxOf, hzrx, State.zrxOf]
  unfold State.cmxBacklog
  simp only [hmode, htiles, htile, hof]

/-- The backlog shown is the backlog. -/
theorem cmxShow_shows (s : State) : s.cmxShow.rd CMX_BACKLOG = w32 (ceilDiv s.cmxShow.cmxBacklog 1024) ∧ RegsBut s s.cmxShow [CMX_BACKLOG.off] ∧ OnlyRegs s s.cmxShow := by
  have honly : OnlyRegs s s.cmxShow := (OnlyRegs.refl s).wr _ _
  have hregs : RegsBut s s.cmxShow [CMX_BACKLOG.off] := (RegsBut.refl s _).wr _ _
  refine ⟨?_, hregs, honly⟩
  rw [cmxBacklog_congr (honly.field State.zrx) (honly.field State.boot) hregs]
  exact State.rd_wr_self s CMX_BACKLOG _

/-! ### Frames started -/

/-- A frame on its session, with the registers that show it. -/
def State.zrxBegun (s : State) (z : Nat) (x : ZrxS) : State :=
  (((s.setZrx z x).setFld (ZRX_S_STATUS z) ZRX_S_STATUS_PHASE 1).zrxQueued z).cmxShow

theorem zrxBegun_shows (s : State) (z : Fin 8) (x : ZrxS) {t : State} (ht : s.zrxBegun z x = t) :
    t.zrxOf z = x ∧ t.fld (ZRX_S_STATUS z) ZRX_S_STATUS_PHASE = 1 ∧ t.rd CMX_BACKLOG = w32 (ceilDiv t.cmxBacklog 1024) ∧
      RegsBut s t [(ZRX_S_STATUS z).off, CMX_BACKLOG.off] ∧ t = { s with regs := t.regs, zrx := t.zrx } := by
  rw [State.zrxBegun, State.zrxQueued] at ht
  generalize ha : s.setZrx z x = a at ht
  have haframe : a = { s with zrx := a.zrx } := by rw [← ha]; rfl
  have haregs : a.regs = s.regs := by rw [haframe]
  have hax : a.zrxOf z = x := ha ▸ State.zrxOf_setZrx s z x
  generalize hb : a.setFld (ZRX_S_STATUS z) ZRX_S_STATUS_PHASE 1 = b at ht
  generalize hc : b.setFld (ZRX_S_STATUS z) ZRX_S_STATUS_QUEUED (b.zrxOf z).queue.length = c at ht
  have honly : OnlyRegs a c := hc ▸ hb ▸ ((OnlyRegs.refl a).setFld _ _ _).setFld _ _ _
  have hregs : RegsBut s c [(ZRX_S_STATUS z).off, CMX_BACKLOG.off] := by
    rw [← hc, ← hb]
    exact (((RegsBut.refl s _).congr haregs).setFld _ _ _).setFld _ _ _
  have hphase : c.fld (ZRX_S_STATUS z) ZRX_S_STATUS_PHASE = 1 := by
    rw [← hc]
    refine (State.fld_setFld_ne b (ZRX_S_STATUS z) (f := ZRX_S_STATUS_QUEUED) (g := ZRX_S_STATUS_PHASE) _).trans ?_
    rw [← hb]
    exact State.fld_setFld_self a (ZRX_S_STATUS z) ZRX_S_STATUS_PHASE 1
  obtain ⟨hshown, htregs, htonly⟩ := cmxShow_shows c
  rw [ht] at hshown htregs htonly
  have hall := honly.trans htonly
  refine ⟨?_, ?_, hshown, hregs.trans (htregs.mono (by simp)), ?_⟩
  · rw [State.zrxOf, hall.field State.zrx]
    exact hax
  · rw [State.fld, htregs.rd (by simp only [ZRX_S_STATUS, CMX_BACKLOG, List.mem_singleton]; omega)]
    exact hphase
  · rw [OnlyRegs] at hall
    rw [hall, haframe]

/-- The pointer is no stream's record. -/
theorem strmRec_zrx {s a : State} {z : Fin 8} {v : Word} {id : Nat} (ha : s.wr (ZRX_S_OUT_RP z) v = a) (h : s.strmRec id = none) : a.strmRec id = none := by
  rw [State.strmRec, List.find?_eq_none] at h ⊢
  intro i hi
  have hlt := List.mem_range.1 hi
  have hid : a.rd (UMP_S_ID i) = s.rd (UMP_S_ID i) := by
    rw [← ha, State.rd_wr_ne _ _ (by simp only [UMP_S_ID, ZRX_S_OUT_RP]; omega)]
  have hcfg : a.rd (UMP_S_CFG i) = s.rd (UMP_S_CFG i) := by
    rw [← ha, State.rd_wr_ne _ _ (by simp only [UMP_S_CFG, ZRX_S_OUT_RP]; omega)]
  rw [hid, State.fld, hcfg]
  exact h i hi

theorem rawFramesStart : RawFramesStart := by
  unfold RawFramesStart
  intro z v s b sk q
  refine ⟨fun hcur hqueue hon hopen => ?_, fun hcur => ?_, fun hpace hgo => ?_, fun hreach => ?_⟩
  · generalize hx : ({ s.zrxOf z with
      queue := q
      cur := some { buf := b, start := (s.rd (ZRX_S_OUT_WP z)).toNat, bytes := 256 + 8 * s.zrxTiles z, flags := 64 * b2n sk }
      go := (s.zrxOf z).go - 1 } : ZrxS) = x
    have hgo : (s.zrxOn z && (!s.bit (ZRX_S_CFG z) ZRX_S_CFG_PACE || decide (0 < (s.zrxOf z).go))) = true := by
      rw [hon, Bool.true_and, Bool.or_eq_true]
      exact hopen.imp (fun h => by rw [h]; rfl) decide_eq_true
    have hrun : execZrxFrameStart z s = .next (s.zrxBegun z x) := by
      unfold execZrxFrameStart
      simp only [hcur, hqueue, hgo, if_true]
      rw [← hx]
      rfl
    obtain ⟨hof, hphase, hshown, hregs, hframe⟩ := zrxBegun_shows s z x rfl
    refine Runs.next hrun ⟨?_, ?_, hphase, hshown, hregs, hframe⟩
    · rw [hof, ← hx]
      cases sk <;> rfl
    · rw [hof, ← hx]
  · have h : execZrxFrameStart z s = .next s := by
      unfold execZrxFrameStart
      rcases hf : (s.zrxOf z).cur with _ | f
      · exact absurd hf hcur
      · simp only [hf]
    exact h
  · have h : execZrxFrameStart z s = .next s := by
      unfold execZrxFrameStart
      simp only [hpace, hgo, Bool.not_true, Bool.false_or, Nat.lt_irrefl, decide_false, Bool.and_false, Bool.false_eq_true, if_false]
      split <;> rfl
    exact h
  · have hrun : exec (.zrxOutRpWrite z v) s = .next (s.zrxRpWrite z v) := exec_hostDo hreach rfl
    refine ⟨_, hrun, ?_⟩
    generalize ht : s.zrxRpWrite z v = t
    rw [State.zrxRpWrite] at ht
    generalize ha : s.wr (ZRX_S_OUT_RP z) (v &&& 0xFFFFF000) = a at ht
    have haonly : OnlyRegs s a := ha ▸ (OnlyRegs.refl s).wr _ _
    obtain ⟨hframe, hregs⟩ : StreamFrame a t := ht ▸ backlogSetId_frame a _ _
    refine ⟨?_, fun b => ?_, fun hnone => ?_⟩
    · rw [hregs.rd (streamReg_high (by simp only [ZRX_S_OUT_RP]; omega)), ← ha]
      exact State.rd_wr_self _ _ _
    · exact (StreamFrame.mem ⟨hframe, hregs⟩ b).trans (congrFun (haonly.field State.mem) b)
    · have hrec := strmRec_zrx (id := zrxStream z) ha hnone
      rw [← ht]
      unfold State.backlogSetId
      simp only [hrec]

/-! ### Tiles -/

/-- The next tile of a frame in the modes without phases, and of a frame that was closed. -/
def State.zrxTileCode (s : State) (z : Nat) (f : ZrxFrame) : TileCode :=
  let g := s.geom (s.zrxHead z)
  let rows := s.tileRows (s.zrxHead z) f.buf f.tile
  let level := if s.bit CMX_STATUS CMX_STATUS_FALLBACK then 0 else s.fld CMX_STATUS CMX_STATUS_LEVEL_NOW
  if f.closed then ⟨3, 0, payloadFlat g (s.rawBits (s.zrxHead z)) rows⟩
  else if s.zrxMode z = 0 then ⟨0, 0, payloadU (s.rawBits (s.zrxHead z)) rows⟩
  else codeTile g (s.rawBits (s.zrxHead z)) (if s.zrxMode z = 1 then 0 else s.fld (ZRX_S_CFG z) ZRX_S_CFG_NEAR) level rows

/-- How the next tile is coded: the state and the frame then, and the tile. -/
def State.zrxPick (s : State) (z : Nat) (f : ZrxFrame) : State × ZrxFrame × TileCode :=
  let h := s.zrxHead z
  let g := s.geom h
  let bo := s.rawBits h
  let rows := s.tileRows h f.buf f.tile
  let level := if s.bit CMX_STATUS CMX_STATUS_FALLBACK then 0 else s.fld CMX_STATUS CMX_STATUS_LEVEL_NOW
  if f.closed then (s, f, ⟨3, 0, payloadFlat g bo rows⟩)
  else match s.zrxMode z with
    | 0 => (s, f, ⟨0, 0, payloadU bo rows⟩)
    | 1 => (s, f, codeTile g bo 0 level rows)
    | 2 => (s, f, codeTile g bo (s.fld (ZRX_S_CFG z) ZRX_S_CFG_NEAR) level rows)
    | _ => s.zrxModeC z f g bo level rows

/-- A coded tile goes to its place with its flags. -/
def zrxPlaced (z mode : Nat) (fb : Bool) (g : Geom) : State × ZrxFrame × TileCode → State
  | (s, f, t) =>
    let u := mode != 0 && t.mode == 0
    let z0 := fb && (t.mode == 1 || t.mode == 2)
    let p2 := f.phase == 2 && t.mode != 3
    let s := if u then s.inc (ZRX_S_UTILES z) else s
    let f := { f with flags := f.flags ||| (2 * b2n p2 + 16 * b2n z0 + 32 * b2n u) }
    s.zrxWriteTile z f g t (b2n p2 + 2 * b2n f.closed + 4 * b2n z0)

theorem zrxTile_placed (s : State) (z : Nat) (f : ZrxFrame) :
    s.zrxTile z f = zrxPlaced z (s.zrxMode z) (s.bit CMX_STATUS CMX_STATUS_FALLBACK) (s.geom (s.zrxHead z)) (s.zrxPick z f) := rfl

theorem zrxPick_eq {s : State} {z : Nat} {f : ZrxFrame} (h : f.closed = true ∨ s.zrxMode z < 3) : s.zrxPick z f = (s, f, s.zrxTileCode z f) := by
  unfold State.zrxPick State.zrxTileCode
  by_cases hc : f.closed = true
  · rw [if_pos hc, if_pos hc]
  · rw [if_neg hc, if_neg hc]
    have hmode := h.resolve_left hc
    generalize s.zrxMode z = m at hmode ⊢
    match m, hmode with
    | 0, _ => rfl
    | 1, _ => rfl
    | 2, _ => rfl

/-- A tile that is placed: its flags, and the count of tiles in mode U. -/
theorem zrxTile_eq {s : State} {z : Nat} {f : ZrxFrame} (h : f.closed = true ∨ s.zrxMode z < 3) : ∃ (u : Bool) (fl : Nat) (tf : Nat),
    s.zrxTile z f = (if u then s.inc (ZRX_S_UTILES z) else s).zrxWriteTile z { f with flags := fl } (s.geom (s.zrxHead z)) (s.zrxTileCode z f) tf := by
  rw [zrxTile_placed, zrxPick_eq h]
  exact ⟨_, _, _, rfl⟩

/-- A frame with a tile more. -/
def ZrxFrame.next (f : ZrxFrame) (t : TileCode) : ZrxFrame :=
  { f with
    tile := f.tile + 1, bytes := f.bytes + t.size, index := f.index ++ [(f.bytes, t.size)],
    p2Bytes := if f.phase == 2 && t.mode != 3 then f.p2Bytes + t.size else f.p2Bytes, p2Tiles := f.p2Tiles + b2n (f.phase == 2 && t.mode != 3) }

/-- The first stop of a session. -/
theorem zrxStop_shows (s : State) (z : Fin 8) (hstop : s.fld (ZRX_S_STATUS z) ZRX_S_STATUS_STOP_REASON = 0) {t : State} (ht : s.zrxStop z 6 = t) :
    (t.zrxOf z).cur = none ∧ (t.zrxOf z).queue = [] ∧ t.fld (ZRX_S_STATUS z) ZRX_S_STATUS_STOP_REASON = 6 ∧ RegsBut s t [(ZRX_S_STATUS z).off] ∧ SameMem s t := by
  rw [State.zrxStop, if_pos hstop] at ht
  generalize hp : s.setFld (ZRX_S_STATUS z) ZRX_S_STATUS_STOP_REASON 6 = p at ht
  generalize hbs : (p.zrxOf z).queue.map (·.1) ++ (match (p.zrxOf z).cur with | some f => [f.buf] | none => []) = bs at ht
  generalize hr : bs.foldl (fun s b => s.releaseBuf (s.zrxHead z) b (zrxReader z)) p = r at ht
  have hrframe : r = { p with rings := r.rings } := by
    have hfold : ∀ (l : List Nat) (u : State), u = { p with rings := u.rings } →
        l.foldl (fun s b => s.releaseBuf (s.zrxHead z) b (zrxReader z)) u = { p with rings := (l.foldl (fun s b => s.releaseBuf (s.zrxHead z) b (zrxReader z)) u).rings } := by
      intro l
      induction l with
      | nil => exact fun u hu => hu
      | cons b l ih => exact fun u hu => ih _ (by rw [hu]; rfl)
    rw [← hr]
    exact hfold bs p rfl
  generalize hx : ({ p.zrxOf z with queue := [], cur := none, skipped := false, go := 0 } : ZrxS) = x at ht
  generalize hy : r.setZrx z x = y at ht
  have hyframe : y = { r with zrx := y.zrx } := by rw [← hy]; rfl
  have hyof : y.zrxOf z = x := hy ▸ State.zrxOf_setZrx r z x
  generalize hv : y.setFld (ZRX_S_STATUS z) ZRX_S_STATUS_PHASE 0 = v at ht
  rw [State.zrxQueued] at ht
  have honly : OnlyRegs y t := ht ▸ hv ▸ ((OnlyRegs.refl y).setFld _ _ _).setFld _ _ _
  have hponly : OnlyRegs s p := hp ▸ (OnlyRegs.refl s).setFld _ _ _
  have hyregs : y.regs = p.regs := by rw [hyframe, hrframe]
  have hpregs : RegsBut s p [(ZRX_S_STATUS z).off] := hp ▸ (RegsBut.refl s _).setFld _ _ _
  have hof : t.zrxOf z = x := by rw [State.zrxOf, honly.field State.zrx]; exact hyof
  refine ⟨?_, ?_, ?_, ?_, fun a => ?_⟩
  · rw [hof, ← hx]
  · rw [hof, ← hx]
  · have hreason : p.fld (ZRX_S_STATUS z) ZRX_S_STATUS_STOP_REASON = 6 := by
      rw [← hp]
      exact State.fld_setFld_self s (ZRX_S_STATUS z) ZRX_S_STATUS_STOP_REASON 6
    rw [← ht]
    refine (State.fld_setFld_ne v (ZRX_S_STATUS z) (f := ZRX_S_STATUS_QUEUED) (g := ZRX_S_STATUS_STOP_REASON) _).trans ?_
    rw [← hv]
    refine (State.fld_setFld_ne y (ZRX_S_STATUS z) (f := ZRX_S_STATUS_PHASE) (g := ZRX_S_STATUS_STOP_REASON) _).trans ?_
    rw [State.fld, State.rd, hyregs]
    exact hreason
  · have hyregs' : RegsBut s y [(ZRX_S_STATUS z).off] := hpregs.congr hyregs
    rw [← ht, ← hv]
    exact (hyregs'.setFld _ _ _).setFld _ _ _
  · rw [congrFun (honly.field State.mem) a, hyframe, hrframe]
    exact congrFun (hponly.field State.mem) a

section
variable (s : State) (z : Fin 8) (f : ZrxFrame) (g : Geom) (c : TileCode) (tf : Nat)

/-- A tile within the ring. -/
theorem zrxWriteTile_within (hfit : s.zrxUsed z f.start + f.bytes + c.size < s.zrxRing z) {t : State} (ht : s.zrxWriteTile z f g c tf = t) :
    (t.zrxOf z).cur = some (f.next c) ∧ (∀ a, a < s.zrxBase z ∨ s.zrxBase z + s.zrxRing z ≤ a → t.mem a = s.mem a) ∧
      (∀ i, i < c.payload.length → 16 + c.payload.length ≤ s.zrxRing z →
        t.mem (s.zrxBase z + (f.start + f.bytes + 16 + i) % s.zrxRing z) = c.payload.getD i 0) := by
  generalize hw : s.ringWrite (s.zrxBase z) (s.zrxRing z) (f.start + f.bytes) (tileHeader g f.tile tf c ++ c.payload) = w
  generalize hx : w.setZrx z { w.zrxOf z with cur := some (f.next c) } = x
  generalize hy : x.setFld (ZRX_S_STATUS z) ZRX_S_STATUS_PHASE f.phase = y
  generalize hv : (if (f.next c).tile = y.zrxTiles z then y.releaseBuf (y.zrxHead z) f.buf (zrxReader z) else y) = v
  generalize hb : v.backlogSetId (zrxStream z) (v.zrxUsed z f.start + (f.next c).bytes) = b
  have hEq : b.cmxShow = t := by
    rw [← ht, ← hb, ← hv, ← hy, ← hx, ← hw]
    exact (if_neg (Nat.not_le.2 hfit)).symm
  have hxmem (a : Nat) : x.mem a = w.mem a := by rw [← hx]; rfl
  have hyonly : OnlyRegs x y := hy ▸ (OnlyRegs.refl x).setFld _ _ _
  have hvframe : v = { y with rings := v.rings } := by
    rw [← hv]
    split <;> rfl
  obtain ⟨hbframe, hbregs⟩ : StreamFrame v b := hb ▸ backlogSetId_frame v _ _
  have htonly : OnlyRegs b t := hEq ▸ (cmxShow_shows b).2.2
  have htmem (a : Nat) : t.mem a = w.mem a := by
    rw [congrFun (htonly.field State.mem) a, StreamFrame.mem ⟨hbframe, hbregs⟩ a, hvframe]
    exact (congrFun (hyonly.field State.mem) a).trans (hxmem a)
  have hzrx : t.zrx = x.zrx := by
    rw [htonly.field State.zrx, hbframe, hvframe]
    exact hyonly.field State.zrx
  have hpos : 0 < s.zrxRing z := by omega
  have hheader : (tileHeader g f.tile tf c).length = 16 := by simp only [tileHeader, List.length_append, length_leBytes, length_wordBytes]
  refine ⟨?_, fun a ha => ?_, fun i hi hroom => ?_⟩
  · rw [State.zrxOf, hzrx, ← hx]
    exact congrArg ZrxS.cur (State.zrxOf_setZrx w z _)
  · rw [htmem, ← hw]
    exact mem_ringWrite_out hpos ha _ _ _
  · rw [htmem, ← hw, Nat.add_assoc _ 16 i, mem_ringWrite_in _ _ _ _ (by rw [List.length_append, hheader]; omega) (by rw [List.length_append, hheader]; exact hroom),
      List.getD_append_right _ _ _ _ (by rw [hheader]; omega), hheader, Nat.add_sub_cancel_left]

/-- A tile beyond the ring refuses the output and stops the session. -/
theorem zrxWriteTile_refused (hover : s.zrxRing z ≤ s.zrxUsed z f.start + f.bytes + c.size) (hstop : s.fld (ZRX_S_STATUS z) ZRX_S_STATUS_STOP_REASON = 0)
    {t : State} (ht : s.zrxWriteTile z f g c tf = t) :
    (t.zrxOf z).cur = none ∧ (t.zrxOf z).queue = [] ∧ t.rd (EVT_R_CNT 605) = satAdd (s.rd (EVT_R_CNT 605)) 1 ∧ SameMem s t ∧
      t.fld (ZRX_S_STATUS z) ZRX_S_STATUS_STOP_REASON = 6 := by
  generalize hq : s.streamRefuseId (zrxStream z) = q
  generalize hp : q.zrxStop z 6 = p
  have hEq : (p.raise 605 0x0A00).cmxShow = t := by
    rw [← ht, ← hp, ← hq]
    exact (if_pos hover).symm
  obtain ⟨hqframe, hqregs⟩ : StreamFrame s q := hq ▸ streamRefuseId_frame s _
  have hstatus : q.rd (ZRX_S_STATUS z) = s.rd (ZRX_S_STATUS z) := hqregs.rd (streamReg_high (by simp only [ZRX_S_STATUS]; omega))
  obtain ⟨hcur, hqueue, hreason, hpregs, hpmem⟩ := zrxStop_shows q z (by rw [State.fld, hstatus]; exact hstop) hp
  obtain ⟨-, htregs, htonly⟩ := cmxShow_shows (p.raise 605 0x0A00)
  rw [hEq] at htregs htonly
  have hof : t.zrxOf z = p.zrxOf z := htonly.field (State.zrxOf · z)
  have hz := z.isLt
  refine ⟨by rw [hof, hcur], by rw [hof, hqueue], ?_, fun a => ?_, ?_⟩
  · rw [htregs.rd (by decide), State.rd_raise_cnt, hpregs.rd (by simp only [EVT_R_CNT, ZRX_S_STATUS, List.mem_singleton]; omega),
      hqregs.rd (streamReg_event (ev := 605) (by decide) (by decide))]
  · rw [congrFun (htonly.field State.mem) a]
    exact (hpmem a).trans (StreamFrame.mem ⟨hqframe, hqregs⟩ a)
  · rw [State.fld, htregs.rd (by simp only [ZRX_S_STATUS, CMX_BACKLOG, List.mem_singleton]; omega),
      State.rd_raise _ _ _ _ (by simp only [EVT_R_CNT, ZRX_S_STATUS]; omega) (by simp only [EVT_R_LAST, ZRX_S_STATUS]; omega)]
    exact hreason

end

theorem zrxOn_stop {s : State} {z : Nat} (h : s.zrxOn z = true) : s.fld (ZRX_S_STATUS z) ZRX_S_STATUS_STOP_REASON = 0 := by
  rw [State.zrxOn, Bool.and_eq_true] at h
  exact eq_of_beq h.2

/-- The count of tiles in mode U changes nothing of the ring. -/
theorem utiles_keeps {s t : State} {z : Fin 8} {u : Bool} (ht : (if u = true then s.inc (ZRX_S_UTILES z) else s) = t) :
    OnlyRegs s t ∧ t.zrxRing z = s.zrxRing z ∧ t.zrxBase z = s.zrxBase z ∧ ∀ off, t.zrxUsed z off = s.zrxUsed z off := by
  have hregs : RegsBut s t [(ZRX_S_UTILES z).off] := ht ▸ RegsBut.ite ((RegsBut.refl s _).inc _ _) (RegsBut.refl s _)
  have hring : t.zrxRing z = s.zrxRing z := by
    rw [State.zrxRing, hregs.rd (by simp only [ZRX_S_OUT_SIZE, ZRX_S_UTILES, List.mem_singleton]; omega), State.zrxRing]
  refine ⟨ht ▸ OnlyRegs.ite ((OnlyRegs.refl s).inc _ _) (OnlyRegs.refl s), hring, ?_, fun off => ?_⟩
  · rw [State.zrxBase, State.rd64, hregs.rd (by simp only [ZRX_S_OUT_ADDR_LO, ZRX_S_UTILES, List.mem_singleton]; omega),
      hregs.rd (by simp only [ZRX_S_OUT_ADDR_HI, ZRX_S_UTILES, List.mem_singleton]; omega), State.zrxBase, State.rd64]
  · rw [State.zrxUsed, hring, hregs.rd (by simp only [ZRX_S_OUT_RP, ZRX_S_UTILES, List.mem_singleton]; omega), State.zrxUsed]

theorem rawTiles : RawTiles := by
  unfold RawTiles
  intro z s f hcur hon g rows level c
  have hcode : s.zrxTileCode z f = c := rfl
  have hcoded {t : State} (hmore : f.tile < s.zrxTiles z) (ht : s.zrxTile z f = t) : exec (.zrxTileCoded z) s = .next (s.settle t) := by
    have h : execZrxTileCoded z s = .next (s.settle t) := by
      unfold execZrxTileCoded
      simp only [hcur, hon, decide_eq_true hmore, Bool.and_self, if_true, ht]
    exact h
  refine ⟨fun hall => ?_, fun hmore hmode hfit => ?_, fun hmore hmode hover => ?_⟩
  · have h : execZrxTileCoded z s = .next s := by
      unfold execZrxTileCoded
      simp only [hcur, decide_eq_false (Nat.not_lt.2 hall), Bool.and_false, Bool.false_eq_true, if_false]
    exact h
  · obtain ⟨u, fl, tf, htile⟩ := zrxTile_eq hmode
    rw [hcode] at htile
    generalize hs1 : (if u = true then s.inc (ZRX_S_UTILES z) else s) = s1 at htile
    obtain ⟨hone, hring, hbase, hused⟩ := utiles_keeps hs1
    generalize ht : s1.zrxWriteTile z { f with flags := fl } (s.geom (s.zrxHead z)) c tf = t at htile
    obtain ⟨hnext, hmem, hbytes⟩ := zrxWriteTile_within s1 z _ _ c tf (by rw [hring, hused]; exact hfit) ht
    rw [hring, hbase] at hmem hbytes
    refine Runs.next (hcoded hmore htile) ⟨⟨({ f with flags := fl } : ZrxFrame).next c, ?_, rfl, rfl, rfl, rfl⟩, fun a ha => ?_, fun i hi hroom => ?_⟩
    · rw [State.zrxOf, State.settle_zrx]
      exact hnext
    · rw [State.mem_settle, hmem a ha]
      exact congrFun (hone.field State.mem) a
    · rw [State.mem_settle]
      exact hbytes i hi hroom
  · obtain ⟨u, fl, tf, htile⟩ := zrxTile_eq hmode
    rw [hcode] at htile
    generalize hs1 : (if u = true then s.inc (ZRX_S_UTILES z) else s) = s1 at htile
    obtain ⟨hone, hring, hbase, hused⟩ := utiles_keeps hs1
    generalize ht : s1.zrxWriteTile z { f with flags := fl } (s.geom (s.zrxHead z)) c tf = t at htile
    have hregs : RegsBut s s1 [(ZRX_S_UTILES z).off] := hs1 ▸ RegsBut.ite ((RegsBut.refl s _).inc _ _) (RegsBut.refl s _)
    have hstop : s1.fld (ZRX_S_STATUS z) ZRX_S_STATUS_STOP_REASON = 0 := by
      rw [State.fld, hregs.rd (by simp only [ZRX_S_STATUS, ZRX_S_UTILES, List.mem_singleton]; omega)]
      exact zrxOn_stop hon
    obtain ⟨hnone, hqueue, hcnt, hmem, hreason⟩ := zrxWriteTile_refused s1 z _ _ c tf (by rw [hring, hused]; exact hover) hstop ht
    have hz := z.isLt
    refine Runs.next (hcoded hmore htile) ⟨?_, ?_, ?_, fun a => ?_, ?_⟩
    · rw [State.zrxOf, State.settle_zrx]
      exact hnone
    · rw [State.zrxOf, State.settle_zrx]
      exact hqueue
    · rw [State.rd_settle, hcnt, hregs.rd (by simp only [EVT_R_CNT, ZRX_S_UTILES, List.mem_singleton]; omega)]
    · rw [State.mem_settle, hmem a]
      exact congrFun (hone.field State.mem) a
    · rw [State.fld, State.rd_settle]
      exact hreason

/-! ### Frames completed -/

/-- The frame's header and index in the ring. -/
def State.zrxHeaded (s : State) (z : Nat) (f : ZrxFrame) : State :=
  let index := f.index.flatMap (fun e => leBytes 4 e.1 ++ leBytes 4 e.2)
  let a := s.zrxHeader z f index
  s.ringWrite (s.zrxBase z) (s.zrxRing z) f.start (a ++ wordBytes (crc32c a) ++ index)

/-- The registers that show a completed frame. -/
def State.zrxFigures (s : State) (z fq wp bytes : Nat) : State :=
  let s := (s.wr (ZRX_S_FQ z) (w32 fq)).wr (ZRX_S_OUT_WP z) (w32 wp)
  ((s.wr (ZRX_S_LAST_BYTES z) (w32 bytes)).incWrap (ZRX_S_FRAMES z)).setFld (ZRX_S_STATUS z) ZRX_S_STATUS_PHASE 0

/-- A completed frame, before a recording channel takes it. -/
def State.zrxCompleted (s : State) (z : Nat) (f : ZrxFrame) : State :=
  let w := s.zrxHeaded z f
  let wp := (f.start + roundUp f.bytes 4096) % w.zrxRing z
  let x := w.zrxOf z
  let fq := if f.p2Tiles = 0 then x.fq else f.p2Bytes / f.p2Tiles
  let v := (w.setZrx z { x with cur := none, fq := fq }).zrxFigures z fq wp f.bytes
  (v.backlogSetId (zrxStream z) (v.zrxUsed z wp)).raise 600 0x0A00 [w32 z, w32 f.start]

theorem zrxDone_eq {s : State} {z : Nat} {f : ZrxFrame} (h : (s.zrxCompleted z f).recFor 0 z = none) : s.zrxDone z f = s.zrxCompleted z f := by
  unfold State.zrxDone
  extract_lets
  split
  · rfl
  · next ch hch => exact absurd (h.symm.trans hch) (by simp)

def figureRegsZ (z : Nat) : List Nat :=
  [(ZRX_S_FQ z).off, (ZRX_S_OUT_WP z).off, (ZRX_S_LAST_BYTES z).off, (ZRX_S_FRAMES z).off, (ZRX_S_STATUS z).off]

theorem zrxFigures_shows (s : State) (z fq wp bytes : Nat) {t : State} (ht : s.zrxFigures z fq wp bytes = t) :
    t.rd (ZRX_S_OUT_WP z) = w32 wp ∧ t.rd (ZRX_S_LAST_BYTES z) = w32 bytes ∧ t.rd (ZRX_S_FRAMES z) = s.rd (ZRX_S_FRAMES z) + 1 ∧
      t.fld (ZRX_S_STATUS z) ZRX_S_STATUS_PHASE = 0 ∧ RegsBut s t (figureRegsZ z) ∧ OnlyRegs s t := by
  rw [State.zrxFigures, State.incWrap_eq] at ht
  rw [← ht]
  refine ⟨?_, ?_, ?_, State.fld_setFld_self _ _ _ _, ?_, ?_⟩
  · simp [State.setFld_eq, State.rd_wr_ne, ZRX_S_OUT_WP, ZRX_S_STATUS, ZRX_S_FRAMES, ZRX_S_LAST_BYTES]
  · simp [State.setFld_eq, State.rd_wr_ne, ZRX_S_STATUS, ZRX_S_FRAMES, ZRX_S_LAST_BYTES]
  · simp [State.setFld_eq, State.rd_wr_ne, ZRX_S_OUT_WP, ZRX_S_STATUS, ZRX_S_FRAMES, ZRX_S_LAST_BYTES, ZRX_S_FQ]
  · exact (((((RegsBut.refl s _).wr _ _ (by simp [figureRegsZ])).wr _ _ (by simp [figureRegsZ])).wr _ _ (by simp [figureRegsZ])).wr _ _
      (by simp [figureRegsZ])).setFld _ _ _ (by simp [figureRegsZ])
  · exact (((((OnlyRegs.refl s).wr _ _).wr _ _).wr _ _).wr _ _).setFld _ _ _

theorem rawFramesEnd : RawFramesEnd := by
  unfold RawFramesEnd
  intro z s f hcur hon htile hsize hrec
  have hz := z.isLt
  generalize hw : s.zrxHeaded z f = w
  have hwframe : w = { s with g7 := w.g7 } := by
    rw [← hw]
    exact ringWrite_frame _ _ _ _ _
  have hwregs : w.regs = s.regs := by rw [hwframe]
  have hring : w.zrxRing z = s.zrxRing z := by rw [State.zrxRing, State.rd, hwregs, State.zrxRing, State.rd]
  have hwof : w.zrxOf z = s.zrxOf z := by rw [hwframe]; rfl
  generalize hfq : (if f.p2Tiles = 0 then (s.zrxOf z).fq else f.p2Bytes / f.p2Tiles) = fq
  generalize hx : w.setZrx z { s.zrxOf z with cur := none, fq := fq } = x
  have hxframe : x = { w with zrx := x.zrx } := by rw [← hx]; rfl
  generalize hv : x.zrxFigures z fq ((f.start + roundUp f.bytes 4096) % s.zrxRing z) f.bytes = v
  obtain ⟨hwp, hbytes, hframes, hphase, hvregs, hvonly⟩ := zrxFigures_shows x z _ _ _ hv
  generalize hb : v.backlogSetId (zrxStream z) (v.zrxUsed z ((f.start + roundUp f.bytes 4096) % s.zrxRing z)) = b
  obtain ⟨hbframe, hbregs⟩ : StreamFrame v b := hb ▸ backlogSetId_frame v _ _
  generalize ht : b.raise 600 0x0A00 [w32 z, w32 f.start] = t
  have htonly : OnlyRegsOcc b t := ht ▸ (OnlyRegsOcc.refl b).raise _ _ _
  have hdone : s.zrxCompleted z f = t := by
    rw [← ht, ← hb, ← hv, ← hx, ← hfq, ← hwof, ← hring, ← hw]
    rfl
  have hxregs : x.regs = s.regs := by rw [hxframe, hwregs]
  have hstay {r : Reg} (hr : r.off ∉ figureRegsZ z) (hsr : ¬ StreamReg r.off) (hev : r.off ∉ evRegs 600) : t.rd r = s.rd r := by
    rw [← ht, State.rd_raise _ _ _ _ (fun h => hev (by simp [evRegs, h])) (fun h => hev (by simp [evRegs, h])), hbregs.rd hsr, hvregs.rd hr, State.rd, hxregs, State.rd]
  have hshow {r : Reg} (hr : 0x3400000 ≤ r.off) : t.rd r = v.rd r := by
    rw [← ht, State.rd_raise _ _ _ _ (by simp only [EVT_R_CNT]; omega) (by simp only [EVT_R_LAST]; omega), hbregs.rd (streamReg_high (by omega))]
  have hcfg (c : Nat) : t.rd (REC_C_CFG c) = s.rd (REC_C_CFG c) :=
    hstay (by simp only [figureRegsZ, ZRX_S_FQ, ZRX_S_OUT_WP, ZRX_S_LAST_BYTES, ZRX_S_FRAMES, ZRX_S_STATUS, REC_C_CFG, List.mem_cons, List.not_mem_nil,
      or_false, not_or]; omega) (streamReg_high (by simp only [REC_C_CFG]; omega))
      (by simp only [evRegs, EVT_R_CNT, EVT_R_LAST, REC_C_CFG, List.mem_cons, List.not_mem_nil, or_false, not_or]; omega)
  have hblk : t.blk = s.blk := by
    rw [htonly.field State.blk, hbframe]
    refine (hvonly.field State.blk).trans ?_
    rw [hxframe, hwframe]
  have hzrx : t.zrx = x.zrx := by
    rw [htonly.field State.zrx, hbframe]
    exact hvonly.field State.zrx
  have hmem (a : Nat) : t.mem a = w.mem a := by
    rw [congrFun (htonly.field State.mem) a, StreamFrame.mem ⟨hbframe, hbregs⟩ a, congrFun (hvonly.field State.mem) a, hxframe]
    rfl
  have hrun : execZrxFrameDone z s = .next (s.settle t) := by
    have heq : s.zrxDone z f = t := (zrxDone_eq (by rw [hdone, recFor_congr hcfg hblk, hrec])).trans hdone
    unfold execZrxFrameDone
    simp only [hcur, hon, htile, decide_true, Bool.and_self, if_true, heq]
  have hof : t.zrxOf z = { s.zrxOf z with cur := none, fq := fq } := by
    rw [State.zrxOf, hzrx, ← hx]
    exact State.zrxOf_setZrx w z _
  refine Runs.next hrun ⟨?_, ?_, ?_, ?_, ?_, ?_, ?_, ?_, ?_, fun a ha => ?_⟩
  · rw [State.zrxOf, State.settle_zrx]
    exact congrArg ZrxS.cur hof
  · rw [State.zrxOf, State.settle_zrx]
    exact (congrArg ZrxS.queue hof).trans rfl
  · rw [State.zrxOf, State.settle_zrx]
    exact congrArg ZrxS.fq hof
  · rw [State.rd_settle, hshow (by simp only [ZRX_S_OUT_WP]; omega)]
    exact hwp
  · rw [State.rd_settle, hshow (by simp only [ZRX_S_LAST_BYTES]; omega)]
    exact hbytes
  · rw [State.rd_settle, hshow (by simp only [ZRX_S_FRAMES]; omega), hframes, State.rd, hxregs, State.rd]
  · rw [State.fld, State.rd_settle, hshow (by simp only [ZRX_S_STATUS]; omega)]
    exact hphase
  · rw [State.rd_settle, ← ht, State.rd_raise_cnt, hbregs.rd (streamReg_event (ev := 600) (by decide) (by decide)), hvregs.rd (by
      simp only [figureRegsZ, ZRX_S_FQ, ZRX_S_OUT_WP, ZRX_S_LAST_BYTES, ZRX_S_FRAMES, ZRX_S_STATUS, EVT_R_CNT, List.mem_cons, List.not_mem_nil,
        or_false, not_or]; omega), State.rd, hxregs, State.rd]
  · rw [State.rd_settle, ← ht, State.rd_raise_last]
    rfl
  · rw [State.mem_settle, hmem, ← hw]
    exact mem_ringWrite_out hsize ha _ _ _

/-- Settles O34, by the parts of a frame: its start, a tile in the ring or refused, and its header, index and figures. -/
theorem rawCoding : Obligations.RawCoding := by
  unfold Obligations.RawCoding
  exact ⟨rawFramesStart, rawTiles, rawFramesEnd⟩

end Sys2Proof.Machine
end

section
/-! PROOFS. Recording channels: ARM, DISARM, START and STOP (R354 to R357, R376). -/

-- One proof at a time: the text is compiled as one file in bounded memory.
set_option Elab.async false

namespace Sys2Proof.Machine
open Sys2Proof.Claims

theorem State.recOf_setRec (s : State) (c : Nat) (x : RecC) : (s.setRec c x).recOf c = x := tabGet_set_self _ _ _ _

/-! ### Commands of a channel's control register -/

theorem recCtrl_arm (s : State) (c : Nat) : s.recCtrl c 1 = s.recArm c := rfl
theorem recCtrl_disarm (s : State) (c : Nat) : s.recCtrl c 2 = s.recDisarm c := rfl
theorem recCtrl_start (s : State) (c : Nat) : s.recCtrl c 4 = s.recStart c := rfl
theorem recCtrl_stop (s : State) (c : Nat) : s.recCtrl c 8 = s.recEnd c 1 := rfl

theorem channelsArm : ChannelsArm := by
  unfold ChannelsArm
  intro c s hreach
  refine ⟨fun hup hidle => ?_, fun hbusy => ?_, fun harmed => ?_, fun hother => ?_⟩
  · exact exec_hostDo hreach ((recCtrl_arm s c).trans (if_pos (by rw [hup, hidle]; rfl)))
  · exact exec_hostDo hreach ((recCtrl_arm s c).trans (if_neg (by rw [beq_eq_false_iff_ne.2 hbusy, Bool.and_false]; decide)))
  · exact exec_hostDo hreach ((recCtrl_disarm s c).trans (if_pos harmed))
  · exact exec_hostDo hreach ((recCtrl_disarm s c).trans (if_neg hother))

/-! ### START -/

/-- START that fails with a code. -/
def State.startRefused (s : State) (c code : Nat) : State := (s.setFld (REC_C_STATUS c) REC_C_STATUS_START_FAIL code).raise 838 (recBid c)

theorem startRefused_shows (s : State) (c : Fin 8) {code : Nat} (hcode : code < 8) {t : State} (ht : s.startRefused c code = t) :
    t.fld (REC_C_STATUS c) REC_C_STATUS_START_FAIL = code ∧ Raised s t 838 (0x0C00 + c) 0 ∧ RegsBut s t ((REC_C_STATUS c).off :: evRegs 838) ∧
      t = { s with regs := t.regs, occ := t.occ } ∧ s.settle t = t := by
  rw [State.startRefused] at ht
  generalize hu : s.setFld (REC_C_STATUS c) REC_C_STATUS_START_FAIL code = u at ht
  have honly : OnlyRegs s u := hu ▸ (OnlyRegs.refl s).setFld _ _ _
  have hregs : RegsBut s u [(REC_C_STATUS c).off] := hu ▸ (RegsBut.refl s _).setFld _ _ _
  have hfail : u.fld (REC_C_STATUS c) REC_C_STATUS_START_FAIL = code := by
    rw [← hu]
    exact (State.fld_setFld_self s (REC_C_STATUS c) REC_C_STATUS_START_FAIL code).trans (Nat.mod_eq_of_lt (show code < 2 ^ 3 from hcode))
  rw [← ht]
  refine ⟨?_, State.raised_raise 838 _ [] honly.occ (hregs.rd (by simp only [EVT_R_CNT, REC_C_STATUS, List.mem_singleton]; omega)),
    (hregs.mono (by simp)).raise 838 _ _ (by simp), honly.regsOcc.raise _ _ _, State.settle_raise _ _ _ honly.occ⟩
  rw [State.fld, State.rd_raise _ _ _ _ (by simp only [EVT_R_CNT, REC_C_STATUS]; omega) (by simp only [EVT_R_LAST, REC_C_STATUS]; omega)]
  exact hfail

section
variable {s : State} {c : Nat}

/-- A channel that may start. -/
def State.recAble (s : State) (c : Nat) : Prop := s.recUp c = true ∧ (s.recState c = 0 ∨ s.recState c = 1)

theorem recAble_iff : (!s.recUp c || !(s.recState c == 0 || s.recState c == 1)) = false ↔ s.recAble c := by
  rw [State.recAble, Bool.or_eq_false_iff, Bool.not_eq_false', Bool.not_eq_false', Bool.or_eq_true, beq_iff_eq, beq_iff_eq]

theorem recStart_unable (h : ¬ s.recAble c) : s.recStart c = s.setFld (REC_C_STATUS c) REC_C_STATUS_START_FAIL 5 :=
  if_pos (Bool.not_eq_false _ ▸ mt recAble_iff.1 h)

theorem recStart_unmounted (h : s.recAble c) (hset : s.setState (s.recSet c) ≠ 2) : s.recStart c = s.startRefused c 1 :=
  (if_neg (by rw [recAble_iff.2 h]; decide)).trans (if_pos (bne_iff_ne.2 hset))

theorem recStart_full (h : s.recAble c) (hset : s.setState (s.recSet c) = 2) (hdir : s.dirFree (s.recSet c) = none) : s.recStart c = s.startRefused c 2 :=
  (if_neg (by rw [recAble_iff.2 h]; decide)).trans <| (if_neg (by rw [hset]; decide)).trans (if_pos (by rw [hdir]; rfl))

theorem recStart_short (h : s.recAble c) (hset : s.setState (s.recSet c) = 2) (hdir : s.dirFree (s.recSet c) ≠ none)
    (hfree : (s.mediaOf (s.recSet c)).free < 4096 + footReserve 0) : s.recStart c = s.startRefused c 3 :=
  (if_neg (by rw [recAble_iff.2 h]; decide)).trans <| (if_neg (by rw [hset]; decide)).trans <|
    (if_neg (by rwa [Option.isNone_iff_eq_none])).trans (if_pos (by rw [decide_eq_true hfree]; rfl))

/-- A START with room, from its clip key on. -/
def State.recNamed (c : Nat) : State × Bool → State
  | (s, ok) =>
    if !ok then s.startRefused c 4
    else
      let name := (List.range 8).flatMap (fun i => wordBytes (s.rd (REC_C_NAME c i)))
      let r := s.recOf c
      let s := (s.setRec c { r with start := true, name := name, ext := 0, extNs := s.ns }).setFld (REC_C_STATUS c) REC_C_STATUS_START_FAIL 0
      let i := s.fld (REC_C_CFG c) REC_C_CFG_SRC_INST
      if s.fld (REC_C_CFG c) REC_C_CFG_SRC_TYPE = 1 && !r.hold.any (·.key) then
        s.setEnc (i / 4) (i % 4) { s.encOf (i / 4) (i % 4) with force := true }
      else s

theorem recStart_keyed (h : s.recAble c) (hset : s.setState (s.recSet c) = 2) (hdir : s.dirFree (s.recSet c) ≠ none)
    (hfree : 4096 + footReserve 0 ≤ (s.mediaOf (s.recSet c)).free) (hrun : (s.mediaOf (s.recSet c)).findRun 4096 ≠ none) :
    s.recStart c = State.recNamed c (s.clipKey c) :=
  (if_neg (by rw [recAble_iff.2 h]; decide)).trans <| (if_neg (by rw [hset]; decide)).trans <|
    (if_neg (by rwa [Option.isNone_iff_eq_none])).trans <|
      (if_neg (by rw [decide_eq_false (Nat.not_lt.2 hfree), Bool.false_or, Option.isNone_iff_eq_none]; exact hrun)).trans rfl

end

/-- A START without encryption of a raw source. -/
theorem recNamed_open (s : State) (c : Fin 8) (hsrc : s.fld (REC_C_CFG c) REC_C_CFG_SRC_TYPE = 0) {t : State}
    (ht : State.recNamed c (s.setRec c { s.recOf c with key := none }, true) = t) :
    (t.recOf c).start = true ∧ (t.recOf c).key = none ∧ (t.recOf c).name = (List.range 8).flatMap (fun i => wordBytes (s.rd (REC_C_NAME c i))) ∧
      (t.recOf c).hold = (s.recOf c).hold ∧ t.fld (REC_C_STATUS c) REC_C_STATUS_START_FAIL = 0 ∧ t.recState c = s.recState c ∧
      RegsBut s t [(REC_C_STATUS c).off] ∧ t = { s with regs := t.regs, recs := t.recs } := by
  generalize ha : s.setRec c { s.recOf c with key := none } = a at ht
  have haframe : a = { s with recs := a.recs } := by rw [← ha]; rfl
  have haregs : a.regs = s.regs := by rw [haframe]
  have hof : a.recOf c = { s.recOf c with key := none } := ha ▸ State.recOf_setRec s c _
  generalize hname : (List.range 8).flatMap (fun i => wordBytes (a.rd (REC_C_NAME c i))) = name
  generalize hb : a.setRec c { a.recOf c with start := true, name := name, ext := 0, extNs := a.ns } = b
  generalize hd : b.setFld (REC_C_STATUS c) REC_C_STATUS_START_FAIL 0 = d
  have hbframe : b = { a with recs := b.recs } := by rw [← hb]; rfl
  have hbregs : b.regs = s.regs := by rw [hbframe, haregs]
  have hdonly : OnlyRegs b d := hd ▸ (OnlyRegs.refl b).setFld _ _ _
  have hdregs : RegsBut s d [(REC_C_STATUS c).off] := hd ▸ ((RegsBut.refl s _).congr hbregs).setFld _ _ _
  have hcfg : d.fld (REC_C_CFG c) REC_C_CFG_SRC_TYPE = 0 := by
    rw [State.fld, hdregs.rd (by simp only [REC_C_CFG, REC_C_STATUS, List.mem_singleton]; omega)]
    exact hsrc
  have hdt : d = t := by
    rw [← ht, ← hd, ← hb, ← hname]
    refine (if_neg ?_).symm
    have h1 : decide (d.fld (REC_C_CFG c) REC_C_CFG_SRC_TYPE = 1) = false := decide_eq_false (by rw [hcfg]; decide)
    rw [← hd, ← hb, ← hname] at h1
    rw [h1, Bool.false_and]
    decide
  have hofT : t.recOf c = { a.recOf c with start := true, name := name, ext := 0, extNs := a.ns } := by
    rw [← hdt, State.recOf, hdonly.field State.recs, ← hb]
    exact State.recOf_setRec a c _
  refine ⟨by rw [hofT], by rw [hofT, hof], ?_, by rw [hofT, hof], ?_, ?_, hdt ▸ hdregs, ?_⟩
  · rw [hofT, ← hname]
    simp only [State.rd, haregs]
  · rw [← hdt, ← hd]
    exact State.fld_setFld_self b (REC_C_STATUS c) REC_C_STATUS_START_FAIL 0
  · rw [← hdt, ← hd, State.recState]
    refine (State.fld_setFld_ne b (REC_C_STATUS c) (f := REC_C_STATUS_START_FAIL) (g := REC_C_STATUS_STATE) 0).trans ?_
    rw [State.recState, State.fld, State.fld, State.rd, hbregs, State.rd]
  · rw [← hdt]
    rw [OnlyRegs] at hdonly
    rw [hdonly, hbframe, haframe]

theorem clipsStart : ClipsStart := by
  unfold ClipsStart
  intro c s hreach m fails able
  have hable : able ↔ s.recAble c := Iff.rfl
  have hrun {t : State} (h : s.recStart c = t) : exec (.recStart c) s = .next (s.settle t) :=
    exec_hostDo hreach (by rw [recCtrl_start, h])
  have hfails {k : Nat} (hk : k < 8) (h : s.recStart c = s.startRefused c k) : fails k := by
    obtain ⟨hfail, hraised, hregs, hframe, hsettle⟩ := startRefused_shows s c hk rfl
    exact Runs.next ((hrun h).trans (congrArg Host.Outcome.next hsettle)) ⟨hfail, hraised, hregs, hframe⟩
  refine ⟨fun hun => ?_, fun hab hset => hfails (by decide) (recStart_unmounted hab hset), fun hab hset hdir => hfails (by decide) (recStart_full hab hset hdir),
    fun hab hset hdir hfree => hfails (by decide) (recStart_short hab hset hdir hfree), fun hab hset hdir hfree hfind hopen hsrc => ?_,
    fun hab hset hdir hfree hfind henc hhold => ?_⟩
  · refine (hrun (recStart_unable hun)).trans (congrArg Host.Outcome.next (State.settle_same ?_))
    rfl
  · have hkey : s.clipKey c = (s.setRec c { s.recOf c with key := none }, true) := if_pos (by rw [hopen]; rfl)
    generalize ht : State.recNamed c (s.setRec c { s.recOf c with key := none }, true) = t
    have hstart : s.recStart c = t := by rw [recStart_keyed hab hset hdir hfree hfind, hkey, ht]
    obtain ⟨hstarted, hnokey, hname, hhold, hfail, hstate, hregs, hframe⟩ := recNamed_open s c hsrc ht
    have hsettle : s.settle t = t := State.settle_same (by rw [hframe])
    exact Runs.next ((hrun hstart).trans (congrArg Host.Outcome.next hsettle)) ⟨hstarted, hnokey, hname, hhold, hfail, hstate, hregs, hframe⟩
  · generalize ha : (s.wr (REC_C_REFUSAL c) 0x0305).wr (REC_C_REFUSAL_TIME c) s.ns = a
    have hkey : s.clipKey c = (a, false) := by
      rw [← ha]
      exact (if_neg (by rw [henc]; decide)).trans (if_pos hhold)
    have honly : OnlyRegs s a := ha ▸ ((OnlyRegs.refl s).wr _ _).wr _ _
    have hregs : RegsBut s a [(REC_C_REFUSAL c).off, (REC_C_REFUSAL_TIME c).off] := ha ▸ ((RegsBut.refl s _).wr _ _).wr _ _
    have hstart : s.recStart c = a.startRefused c 4 := by
      rw [recStart_keyed hab hset hdir hfree hfind, hkey]
      rfl
    obtain ⟨hfail, hraised, htregs, -, -⟩ := startRefused_shows a c (code := 4) (by decide) rfl
    have hraisedS : Raised s (a.startRefused c 4) 838 (0x0C00 + c) 0 :=
      hraised.earlier honly.occ hregs (by simp only [REC_C_REFUSAL, REC_C_REFUSAL_TIME, EVT_R_CNT, List.mem_cons, List.not_mem_nil, or_false, not_or]; omega)
    have hc := c.isLt
    refine Runs.next (hrun hstart) ⟨?_, ?_, ?_, State.raised_settle hraisedS⟩
    · rw [State.fld, State.rd_settle]
      exact hfail
    · rw [State.rd_settle, htregs.rd (by
        simp only [REC_C_REFUSAL, REC_C_STATUS, evRegs, EVT_R_CNT, EVT_R_LAST, List.mem_cons, List.not_mem_nil, or_false, not_or]; omega), ← ha,
        State.rd_wr_ne _ _ (by simp only [REC_C_REFUSAL, REC_C_REFUSAL_TIME]; omega), State.rd_wr_self]
    · rw [State.rd_settle, htregs.rd (by
        simp only [REC_C_REFUSAL_TIME, REC_C_STATUS, evRegs, EVT_R_CNT, EVT_R_LAST, List.mem_cons, List.not_mem_nil, or_false, not_or]; omega), ← ha,
        State.rd_wr_self]

/-! ### Media sets and drives -/

/-- Registers of the media sets and root ports. -/
def MediaReg (o : Nat) : Prop := 0x4880000 ≤ o ∧ o < 0x4900000

/-- What commands to drives and changes of a set's directory leave. -/
def MediaFrame (s t : State) : Prop := t = { s with regs := t.regs, sets := t.sets, nv := t.nv, out := t.out } ∧ RegsIn MediaReg s t

theorem MediaFrame.refl (s : State) : MediaFrame s s := ⟨rfl, RegsIn.refl _ s⟩

theorem MediaFrame.trans {s t u : State} (h : MediaFrame s t) (h' : MediaFrame t u) : MediaFrame s u :=
  ⟨by rw [h'.1, h.1], h.2.trans h'.2⟩

theorem MediaFrame.setMedia (s : State) (m : Nat) (x : RecSet) : MediaFrame s (s.setMedia m x) := ⟨rfl, (RegsIn.refl _ s).congr rfl⟩

theorem nvIssue_frame (s : State) (p op lba blocks : Nat) (data : List Byte) (use : NvUse) :
    s.nvIssue p op lba blocks data use = { s with nv := (s.nvIssue p op lba blocks data use).nv, out := (s.nvIssue p op lba blocks data use).out } := by
  unfold State.nvIssue
  dsimp only
  split <;> rfl

theorem MediaFrame.nvIssue (s : State) (p op lba blocks : Nat) (data : List Byte) (use : NvUse) : MediaFrame s (s.nvIssue p op lba blocks data use) := by
  have h := nvIssue_frame s p op lba blocks data use
  generalize s.nvIssue p op lba blocks data use = t at h
  exact ⟨by rw [h], (RegsIn.refl _ s).congr (by rw [h])⟩

theorem MediaFrame.wr {s t : State} (h : MediaFrame s t) (r : Reg) (v : Word) (hr : MediaReg r.off) : MediaFrame s (t.wr r v) :=
  h.trans ⟨(OnlyRegs.refl t).wr r v ▸ rfl, (RegsIn.refl _ t).wr r v hr⟩

theorem dirChain_frame (s : State) (m e : Nat) : MediaFrame s (s.dirChain m e) := by
  unfold State.dirChain
  dsimp only
  split
  · exact MediaFrame.refl s
  · split
    · exact MediaFrame.setMedia s _ _
    · exact MediaFrame.refl s

/-- The set of a channel is one of four. -/
theorem recSet_lt (s : State) (c : Nat) : s.recSet c < 4 := Nat.mod_lt _ (by decide)

theorem takeRun_frame {s t : State} {m e n : Nat} {run : Extent} (hm : m < 4) (h : s.takeRun m e n = some (t, run)) : MediaFrame s t := by
  unfold State.takeRun at h
  dsimp only at h
  split at h
  · exact absurd h (by simp)
  · next a ha =>
    simp only [Option.some.injEq, Prod.mk.injEq] at h
    rw [← h.1, State.setShow]
    refine (((MediaFrame.setMedia s m _).trans (dirChain_frame _ m e)).wr _ _ ?_).wr _ _ ?_
    · simp only [MediaReg, REC_M_TOTAL]
      omega
    · simp only [MediaReg, REC_M_FREE]
      omega

/-! ### Data writes and the seal -/

/-- What issuing a clip's data leaves: the channel's clip but for what it has sent, and every register. -/
def ClipFed (s t : State) (c : Nat) (k : Clip) : Prop :=
  (∃ n, (t.recOf c).clip = some { k with sent := n }) ∧ t.regs = s.regs

/-- A command that writes a clip's data from what was sent up to a place. -/
def State.clipIssued (s : State) (c : Nat) (k : Clip) (n p lba blocks : Nat) (data : List Byte) (use : NvUse) : State :=
  (s.setClip c { k with sent := n }).nvIssue p 1 lba blocks data use

theorem clipIssued_fed (s : State) (c : Nat) (k : Clip) (n p lba blocks : Nat) (data : List Byte) (use : NvUse) :
    ((s.clipIssued c k n p lba blocks data use).recOf c).clip = some { k with sent := n } ∧ (s.clipIssued c k n p lba blocks data use).regs = s.regs := by
  rw [State.clipIssued, nvIssue_frame]
  exact ⟨congrArg RecC.clip (State.recOf_setRec s c _), rfl⟩

/-- Issuing stops, issues the last blocks, or issues a unit and goes on. -/
theorem recIssue_cases {s : State} {c : Nat} {force : Bool} {fuel : Nat} {k : Clip} (h : (s.recOf c).clip = some k) :
    s.recIssue c force (fuel + 1) = s ∨ ∃ n p lba blocks data use, s.recIssue c force (fuel + 1) = s.clipIssued c k n p lba blocks data use ∨
      s.recIssue c force (fuel + 1) = (s.clipIssued c k n p lba blocks data use).recIssue c force fuel := by
  generalize hr : s.recIssue c force (fuel + 1) = r
  unfold State.recIssue at hr
  extract_lets +onlyGivenNames m at hr
  split at hr
  · exact Or.inl hr.symm
  · next k' hk' =>
    obtain rfl : k' = k := Option.some.inj (hk'.symm.trans h)
    extract_lets +onlyGivenNames d at hr
    split at hr
    · exact Or.inl hr.symm
    · next st hst =>
      split at hr
      next p lba haddr =>
      extract_lets +onlyGivenNames mdts unit avail at hr
      by_cases hfull : (s.nvOf p).cmds.countP (fun x => match x.use with | .data c' _ _ => c' == c | _ => false) = 255
      · exact Or.inl (hr.symm.trans (if_pos hfull))
      · by_cases hunit : unit ≤ avail
        · exact Or.inr ⟨_, _, _, _, _, _, Or.inr (hr.symm.trans ((if_neg hfull).trans (if_pos hunit)))⟩
        · by_cases hrest : (force && decide (k'.done < k'.file.length) && decide (0 < avail)) = true
          · exact Or.inr ⟨_, _, _, _, _, _, Or.inl (hr.symm.trans ((if_neg hfull).trans ((if_neg hunit).trans (if_pos hrest))))⟩
          · exact Or.inl (hr.symm.trans ((if_neg hfull).trans ((if_neg hunit).trans (if_neg hrest))))

theorem recIssue_fed {c : Nat} {force : Bool} : ∀ (fuel : Nat) {s : State} {k : Clip}, (s.recOf c).clip = some k → ClipFed s (s.recIssue c force fuel) c k
  | 0, _, k, h => ⟨⟨k.sent, h⟩, rfl⟩
  | fuel + 1, s, k, h => by
    rcases recIssue_cases (force := force) (fuel := fuel) h with hstop | ⟨n, p, lba, blocks, data, use, hlast | hmore⟩
    · rw [hstop]
      exact ⟨⟨k.sent, h⟩, rfl⟩
    · obtain ⟨hclip, hregs⟩ := clipIssued_fed s c k n p lba blocks data use
      rw [hlast]
      exact ⟨⟨n, hclip⟩, hregs⟩
    · obtain ⟨hclip, hregs⟩ := clipIssued_fed s c k n p lba blocks data use
      obtain ⟨⟨i, hi⟩, hiregs⟩ := recIssue_fed fuel (force := force) hclip
      rw [hmore]
      exact ⟨⟨i, hi⟩, hiregs.trans hregs⟩

theorem recFeed_fed {s : State} {c : Nat} {force : Bool} {k : Clip} (h : (s.recOf c).clip = some k) : ClipFed s (s.recFeed c force) c k := by
  unfold State.recFeed
  simp only [h]
  exact recIssue_fed _ h

/-- A checkpoint whose data is not written yet waits. -/
theorem ckptRun_waits {s : State} {c : Nat} {k : Clip} {x : Ckpt} (hclip : (s.recOf c).clip = some k) (hcks : k.cks = [x]) (hstep : x.step = 1)
    (hlen : k.done < x.length) : s.ckptRun c = s := by
  unfold State.ckptRun State.ckptAdvance
  simp only [hclip, hcks, List.find?_cons, hstep, if_true, decide_eq_false (Nat.not_le.2 hlen), List.find?_nil]

/-- The file closed by its footer, with the seal that waits for it. -/
def State.sealFiled (s : State) (c : Nat) (k : Clip) (foot : List Byte) (fresh : List Extent) : State :=
  s.setClip c { k with file := k.file ++ foot, fresh := k.fresh ++ fresh, cks := k.cks ++ [⟨0, (k.file ++ foot).length, k.frames, 1, 0⟩] }

/-- The seal begins: the file is closed on the stripes there are, or on one run more. -/
theorem sealBegin_eq {s : State} {c : Nat} {k : Clip} (hclip : (s.recOf c).clip = some k) (hp : s.log.pfail = false) :
    ∃ u foot fresh, MediaFrame s u ∧ s.sealBegin c = ((u.sealFiled c k foot fresh).recFeed c true).ckptRun c := by
  unfold State.sealBegin
  split
  · next k' hk' =>
    obtain rfl : k' = k := Option.some.inj (hk'.symm.trans hclip)
    rw [if_neg (by rw [hp]; decide)]
    extract_lets +onlyGivenNames m d foot file need have_
    by_cases hneed : need ≤ have_
    · rw [if_pos hneed]
      exact ⟨s, foot, [], MediaFrame.refl s, rfl⟩
    · rw [if_neg hneed]
      rcases hrun : s.takeRun m k'.entry (need - have_) with _ | ⟨u, run⟩
      · exact ⟨s, foot, [], MediaFrame.refl s, rfl⟩
      · exact ⟨u, foot, [run], takeRun_frame (recSet_lt s c) hrun, rfl⟩
  · next hk' => exact absurd (hclip.symm.trans hk') (by simp)

/-- A clip without checkpoints that begins its seal: the footer follows the file, and the seal waits for its data. -/
theorem sealBegin_shows {s : State} {c : Fin 8} {k : Clip} (hclip : (s.recOf c).clip = some k) (hp : s.log.pfail = false) (hcks : k.cks = [])
    (hdone : k.done < k.file.length) {t : State} (ht : s.sealBegin c = t) :
    (∃ j, (t.recOf c).clip = some j ∧ j.cause = k.cause ∧ j.frames = k.frames ∧ j.file.take k.file.length = k.file ∧ j.cks.length = 1 ∧ j.entry = k.entry) ∧
      RegsIn MediaReg s t := by
  obtain ⟨u, foot, fresh, ⟨-, huregs⟩, hseal⟩ := sealBegin_eq hclip hp
  rw [ht] at hseal
  generalize hv : u.sealFiled c k foot fresh = v at hseal
  have hvregs : v.regs = u.regs := by rw [← hv]; rfl
  obtain ⟨⟨n, hn⟩, hwregs⟩ := recFeed_fed (s := v) (c := c) (force := true) (by rw [← hv]; exact congrArg RecC.clip (State.recOf_setRec u c _))
  rw [ckptRun_waits hn (by rw [hcks]; rfl) rfl (by rw [List.length_append]; exact Nat.lt_of_lt_of_le hdone (Nat.le_add_right _ _))] at hseal
  rw [hseal]
  exact ⟨⟨_, hn, rfl, rfl, List.take_left' rfl, by rw [hcks]; rfl, rfl⟩, huregs.congr (hwregs.trans hvregs)⟩

/-! ### STOP -/

theorem recEnd_idle {s : State} {c : Nat} (h : s.recState c ≠ 2) : s.recEnd c 1 = s := by
  unfold State.recEnd
  split
  · exact if_pos (by rw [bne_iff_ne.2 h, Bool.or_true])
  · rfl

/-- The state of a channel whose clip ends. -/
theorem clipEnds_shows {s : State} {c : Fin 8} {k : Clip} (hclip : (s.recOf c).clip = some k) {t : State} (ht : s.clipEnds c 1 = t) :
    (t.recOf c).clip = some { k with cause := 1 } ∧ t.recState c = 3 ∧ t.fld (REC_C_STATUS c) REC_C_STATUS_CAUSE = 1 ∧
      t.rd (REC_C_LAST_FRAME c) = w32 (k.frames - 1) ∧ t.log = s.log := by
  unfold State.clipEnds at ht
  simp only [hclip] at ht
  generalize ha : s.setClip c { k with cause := 1 } = a at ht
  have hof : (a.recOf c).clip = some { k with cause := 1 } := ha ▸ congrArg RecC.clip (State.recOf_setRec s c _)
  have hlog : a.log = s.log := by rw [← ha]; rfl
  generalize hb : a.setFld (REC_C_STATUS c) REC_C_STATUS_CAUSE 1 = b at ht
  rw [State.setRecState] at ht
  generalize hd : b.setFld (REC_C_STATUS c) REC_C_STATUS_STATE 3 = d at ht
  have honly : OnlyRegs a t := ht ▸ hd ▸ hb ▸ (((OnlyRegs.refl a).setFld _ _ _).setFld _ _ _).wr _ _
  have hstatus : t.rd (REC_C_STATUS c) = d.rd (REC_C_STATUS c) := by
    rw [← ht, State.rd_wr_ne _ _ (by simp only [REC_C_STATUS, REC_C_LAST_FRAME]; omega)]
  refine ⟨?_, ?_, ?_, ?_, (honly.field State.log).trans hlog⟩
  · rw [State.recOf, honly.field State.recs]
    exact hof
  · rw [State.recState, State.fld, hstatus, ← hd]
    exact State.fld_setFld_self b (REC_C_STATUS c) REC_C_STATUS_STATE 3
  · rw [State.fld, hstatus, ← hd]
    refine (State.fld_setFld_ne b (REC_C_STATUS c) (f := REC_C_STATUS_STATE) (g := REC_C_STATUS_CAUSE) 3).trans ?_
    rw [← hb]
    exact State.fld_setFld_self a (REC_C_STATUS c) REC_C_STATUS_CAUSE 1
  · rw [← ht]
    exact State.rd_wr_self _ _ _

/-- STOP of a recording clip with no frame waiting. -/
theorem recEnd_eq {s : State} {c : Nat} {k : Clip} (hstate : s.recState c = 2) (hclip : (s.recOf c).clip = some k) (hcause : k.cause = 0) (hwait : k.wait = []) :
    s.recEnd c 1 = ((s.setClip c { k with cause := 1 }).clipEnds c 1).sealBegin c := by
  generalize ha : s.setClip c { k with cause := 1 } = a
  have hof : (a.recOf c).clip = some { k with cause := 1 } := ha ▸ congrArg RecC.clip (State.recOf_setRec s c _)
  have hastate : a.recState c = 2 := by rw [← ha]; exact hstate
  have hwrap : a.recWrap c = (a, false) := by
    unfold State.recWrap
    simp only [hof, hwait]
  have hpump : a.recPump c 1 = a := by
    unfold State.recPump
    simp only [hwrap, Bool.false_eq_true, if_false]
  have hlen : k.wait.length + 1 = 1 := by rw [hwait]; rfl
  have hends : (match (a.recOf c).clip with
      | some j => if j.cause = 1 && a.recState c = 2 then (a.clipEnds c 1).sealBegin c else a
      | none => a) = (a.clipEnds c 1).sealBegin c := by
    rw [hof]
    exact if_pos (by rw [hastate]; rfl)
  unfold State.recEnd
  rw [hclip]
  refine (if_neg (by rw [hcause, hstate]; decide)).trans ?_
  rw [hlen, ha, hpump]
  exact hends

theorem clipsStop : ClipsStop := by
  unfold ClipsStop
  intro c s k hreach
  have hrun {t : State} (h : s.recEnd c 1 = t) : exec (.recStop c) s = .next (s.settle t) :=
    exec_hostDo hreach (by rw [recCtrl_stop, h])
  refine ⟨fun hother => (hrun (recEnd_idle hother)).trans (congrArg Host.Outcome.next (State.settle_same rfl)), fun hstate hclip hcause hwait hcks hdone hp => ?_⟩
  generalize ha : s.setClip c { k with cause := 1 } = a
  have hof : (a.recOf c).clip = some { k with cause := 1 } := ha ▸ congrArg RecC.clip (State.recOf_setRec s c _)
  have hlog : a.log = s.log := by rw [← ha]; rfl
  generalize hb : a.clipEnds c 1 = b
  obtain ⟨hbclip, hbstate, hbcause, hblast, hblog⟩ := clipEnds_shows hof hb
  generalize ht : b.sealBegin c = t
  obtain ⟨⟨j, hj, hjcause, hjframes, hjfile, hjcks, hjentry⟩, hregs⟩ := sealBegin_shows hbclip (by rw [hblog, hlog]; exact hp) hcks hdone ht
  have hEq : s.recEnd c 1 = t := by rw [recEnd_eq hstate hclip hcause hwait, ha, hb, ht]
  have hstatus : t.rd (REC_C_STATUS c) = b.rd (REC_C_STATUS c) := hregs.rd (by simp only [MediaReg, REC_C_STATUS]; omega)
  refine Runs.next (hrun hEq) ⟨?_, ?_, ?_, j, ?_, hjcause, hjframes, hjfile, hjcks, hjentry⟩
  · rw [State.recState, State.fld, State.rd_settle, hstatus]
    exact hbstate
  · rw [State.fld, State.rd_settle, hstatus]
    exact hbcause
  · rw [State.rd_settle, hregs.rd (by simp only [MediaReg, REC_C_LAST_FRAME]; omega)]
    exact hblast
  · rw [State.recOf, State.settle_recs]
    exact hj

/-- Settles O36, a command by the state of its channel, and a seal by what its file and its directory change. -/
theorem recordingChannels : Obligations.RecordingChannels := by
  unfold Obligations.RecordingChannels
  exact ⟨channelsArm, clipsStart, clipsStop⟩

end Sys2Proof.Machine
end

section
/-! PROOFS. NVMe commands and media sets: completions, mounts, formats and deletion (R361 to R367). -/

-- One proof at a time: the text is compiled as one file in bounded memory.
set_option Elab.async false

namespace Sys2Proof.Machine
open Sys2Proof.Claims

theorem State.nvOf_setNv (s : State) (p : Nat) (x : NvPort) : (s.setNv p x).nvOf p = x := tabGet_set_self _ _ _ _
theorem State.nvOf_setNv_ne (s : State) {p q : Nat} (x : NvPort) (h : q ≠ p) : (s.setNv p x).nvOf q = s.nvOf q := tabGet_set_ne _ _ _ _ h
theorem State.mediaOf_setMedia (s : State) (m : Nat) (x : RecSet) : (s.setMedia m x).mediaOf m = x := tabGet_set_self _ _ _ _
theorem State.mediaOf_setMedia_ne (s : State) {m k : Nat} (x : RecSet) (h : k ≠ m) : (s.setMedia m x).mediaOf k = s.mediaOf k := tabGet_set_ne _ _ _ _ h

/-! ### Commands of a root port -/

/-- A command issued on a root port outside the safe state. -/
theorem nvIssue_eq {s : State} (hsafe : s.safe = false) (p op lba blocks : Nat) (data : List Byte) (use : NvUse) :
    s.nvIssue p op lba blocks data use =
      (s.setNv p { s.nvOf p with cmds := (s.nvOf p).cmds ++ [⟨(s.nvOf p).next, op, use⟩], next := ((s.nvOf p).next + 1) % 65536 }).emit
        (.nvme p op lba blocks (s.nvOf p).next data) := if_neg (by rw [hsafe]; decide)

/-- A drive of no set makes no media error. -/
theorem mediaError_none {s : State} {p : Nat} (h : s.portSet p = none) : s.mediaError p = s := by
  unfold State.mediaError
  rw [h]

/-- The sets' configuration is read where a root port's counters and events are not. -/
theorem portSet_congr {s t : State} {os : List Nat} (h : RegsBut s t os) (hos : ∀ m, m < 4 → (REC_M_CFG m).off ∉ os) (p : Nat) : t.portSet p = s.portSet p := by
  have hcfg (m : Nat) (hm : m ∈ List.range 4) : t.rd (REC_M_CFG m) = s.rd (REC_M_CFG m) := h.rd (hos m (List.mem_range.1 hm))
  unfold State.portSet
  generalize List.range 4 = l at hcfg
  induction l with
  | nil => rfl
  | cons m l ih =>
    rw [List.find?_cons, List.find?_cons, hcfg m (List.mem_cons_self ..), ih (fun i hi => hcfg i (List.mem_cons_of_mem _ hi))]

theorem portSet_lt {s : State} {p m : Nat} (h : s.portSet p = some m) : m < 4 := by
  rw [State.portSet] at h
  exact List.mem_range.1 (List.mem_of_find?_eq_some h)

section
variable {s : State} {p tag status : Nat} {data : List Byte} {k : NvCmd}

theorem nvComplete_unknown (h : s.nvCmd p tag = none) : s.nvComplete p tag status data = s := by
  unfold State.nvComplete
  rw [h]

theorem nvTimeout_unknown (h : s.nvCmd p tag = none) : s.nvTimeout p tag = s := by
  unfold State.nvTimeout
  rw [h]

/-- A command of a set that ends without error leaves the outstanding ones. -/
theorem nvComplete_ended {m : Nat} (h : s.nvCmd p tag = some k) (huse : k.use = .set m) (hst : status = 0) :
    s.nvComplete p tag status data = s.nvRemove p tag := by
  unfold State.nvComplete
  simp only [h, huse, hst, bne_self_eq_false, Bool.false_and, Bool.false_eq_true, if_false, if_true, State.nvDone]

/-- A Write or Flush that fails is an error of its root port, and of its media. -/
theorem nvComplete_failed (h : s.nvCmd p tag = some k) (huse : ∀ d, k.use ≠ .read d) (hst : status ≠ 0) (hop : k.op = 0 ∨ k.op = 1) :
    s.nvComplete p tag status data = (((s.nvRemove p tag).inc (NVR_ERR_CNT p)).raise 851 (s.nvBid p)).mediaError p := by
  have hcond : (status != 0 && (k.op == 0 || k.op == 1)) = true := by
    rw [bne_iff_ne.2 hst, Bool.true_and, Bool.or_eq_true, beq_iff_eq, beq_iff_eq]
    exact hop
  have hbid : (s.nvRemove p tag).nvBid p = s.nvBid p := rfl
  rw [← hbid]
  unfold State.nvComplete
  rcases hu : k.use with _ | _ | _ | _ | d | _
  case read => exact absurd hu (huse d)
  all_goals
    simp only [h, hu]
    exact if_pos hcond

end

/-- A root port's error counted and told. -/
theorem portError_shows (s : State) (p : Fin 4) {r : Reg} {ev : Nat} (hr : 0x4800000 ≤ r.off) (hlow : r.off < 0x4840000) (hev : ev < 1024) (a : State)
    (haregs : a.regs = s.regs) (haocc : a.occ = s.occ) {t : State} (ht : (a.inc r).raise ev (s.nvBid p) = t) :
    t.rd r = satAdd (s.rd r) 1 ∧ Raised s t ev (s.nvBid p) 0 ∧ RegsBut s t (r.off :: evRegs ev) ∧ OnlyRegsOcc a t ∧
      (∀ m, m < 4 → (REC_M_CFG m).off ∉ r.off :: evRegs ev) := by
  have hregs : RegsBut s (a.inc r) [r.off] := ((RegsBut.refl s _).congr haregs).inc _ _
  have hcnt : (EVT_R_CNT ev).off ≠ r.off := by simp only [EVT_R_CNT]; omega
  have hlast : (EVT_R_LAST ev).off ≠ r.off := by simp only [EVT_R_LAST]; omega
  rw [← ht]
  refine ⟨?_, State.raised_raise ev _ [] haocc (hregs.rd (by simpa using hcnt)), (hregs.mono (by simp)).raise ev _ _ (fun o ho => List.mem_cons_of_mem _ ho),
    ((OnlyRegsOcc.refl a).inc _ _).raise _ _ _, fun m hm => ?_⟩
  · rw [State.rd_raise _ _ _ _ hcnt.symm hlast.symm, State.inc_eq, State.rd_wr_self, State.rd, haregs, State.rd]
  · simp only [REC_M_CFG, evRegs, EVT_R_CNT, EVT_R_LAST, List.mem_cons, List.not_mem_nil, or_false, not_or]
    omega

/-- A media error stops no channel of a set that no channel uses. -/
theorem recMediaStop_unused {s : State} {m : Nat} (h : ∀ c, c < 8 → s.bit (REC_C_CFG c) REC_C_CFG_EN = true → s.recSet c ≠ m) : s.recMediaStop m = s := by
  refine foldl_fixed_mem fun c hc => if_neg ?_
  have hlt := List.mem_range.1 hc
  rcases hen : s.bit (REC_C_CFG c) REC_C_CFG_EN
  · rw [Bool.false_and, Bool.false_and]
    decide
  · rw [beq_eq_false_iff_ne.2 (h c hlt hen), Bool.and_false, Bool.false_and]
    decide

/-- A media error of a set in use that no channel uses: the drive is shown, and the set is in ERROR. -/
theorem mediaError_unused {s : State} {p m : Nat} (hp : p < 4) (h : s.portSet p = some m) (h0 : s.setState m ≠ 0) (h1 : s.setState m ≠ 1) (h5 : s.setState m ≠ 5)
    (hnone : ∀ c, c < 8 → s.bit (REC_C_CFG c) REC_C_CFG_EN = true → s.recSet c ≠ m) {t : State} (ht : s.mediaError p = t) :
    t.setState m = 5 ∧ (t.rd (REC_M_STATUS m)).getLsbD (12 + p) = true ∧ t.rd (EVT_R_CNT 842) = satAdd (s.rd (EVT_R_CNT 842)) 1 ∧
      RegsBut s t ((REC_M_STATUS m).off :: evRegs 842) := by
  have hm := portSet_lt h
  generalize ha : s.setFld (REC_M_STATUS m) ⟨12 + p, 12 + p⟩ 1 = a
  have haregs : RegsBut s a [(REC_M_STATUS m).off] := ha ▸ (RegsBut.refl s _).setFld _ _ _
  have hastate : a.setState m = s.setState m := by
    rw [← ha]
    exact State.fld_setFld_ne s (REC_M_STATUS m) (f := ⟨12 + p, 12 + p⟩) (g := ⟨2, 0⟩) 1 (by decide) (Or.inl (show 2 < 12 + p by omega))
  generalize hb : a.setSetState m 5 = b
  have hbregs : RegsBut s b [(REC_M_STATUS m).off] := hb ▸ haregs.setFld _ _ _
  generalize hc : b.raise 842 0x0E01 = c
  have hcregs : RegsBut s c ((REC_M_STATUS m).off :: evRegs 842) := hc ▸ (hbregs.mono (by simp)).raise 842 _ _ (by simp)
  have hcfg (i : Nat) (hi : i < 8) : c.rd (REC_C_CFG i) = s.rd (REC_C_CFG i) := hcregs.rd (by
    simp only [REC_C_CFG, REC_M_STATUS, evRegs, EVT_R_CNT, EVT_R_LAST, List.mem_cons, List.not_mem_nil, or_false, not_or]; omega)
  have hstop : c.recMediaStop m = c := recMediaStop_unused fun i hi hen => by
    rw [State.recSet, State.fld, hcfg i hi]
    rw [State.bit, hcfg i hi] at hen
    exact hnone i hi hen
  have hct : c = t := by
    rw [← ht]
    unfold State.mediaError
    rw [h]
    refine Eq.symm ((if_neg ?_).trans ((if_neg ?_).trans ?_))
    · rw [ha, hastate, decide_eq_false h5, decide_eq_false h0]
      decide
    · rw [ha, hastate, beq_eq_false_iff_ne.2 h1]
      decide
    · rw [ha, hb, hc, hstop]
  have hstatus : c.rd (REC_M_STATUS m) = b.rd (REC_M_STATUS m) := by
    rw [← hc, State.rd_raise _ _ _ _ (by simp only [EVT_R_CNT, REC_M_STATUS]; omega) (by simp only [EVT_R_LAST, REC_M_STATUS]; omega)]
  rw [← hct]
  refine ⟨?_, ?_, ?_, hcregs⟩
  · rw [State.setState, hstatus, ← hb]
    exact State.fld_setFld_self a (REC_M_STATUS m) ⟨2, 0⟩ 5
  · have hkeep := State.bit_setFld_ne a (REC_M_STATUS m) (f := ⟨2, 0⟩) (g := ⟨12 + p, 12 + p⟩) 5 (show 12 + p < 32 by omega) (Or.inr (show 2 < 12 + p by omega))
    have hself := State.bit_setBit_self s (REC_M_STATUS m) ⟨12 + p, 12 + p⟩ true (show 12 + p < 32 by omega) (Nat.le_refl _)
    rw [hstatus, ← hb]
    refine hkeep.trans ?_
    rw [← ha]
    exact hself
  · rw [← hc, State.rd_raise_cnt, hbregs.rd (by simp only [EVT_R_CNT, REC_M_STATUS, List.mem_singleton]; omega)]

theorem nvmeCommands : NvmeCommands := by
  unfold NvmeCommands
  intro p tag status data s
  have hp := p.isLt
  have hexec {t : State} (h : s.nvComplete p tag status data = t) : exec (.nvmeCompletion p tag status data) s = .next (s.settle t) :=
    congrArg (fun u => Host.Outcome.next (s.settle u)) h
  have htmo {t : State} (h : s.nvTimeout p tag = t) : exec (.nvmeCmdTimeout p tag) s = .next (s.settle t) :=
    congrArg (fun u => Host.Outcome.next (s.settle u)) h
  have hself : (Host.Outcome.next (s.settle s) : Res) = .next s := congrArg Host.Outcome.next (State.settle_same rfl)
  have hcommon {a : State} {os : List Nat} (hregs : RegsBut s a os) (hos : ∀ m, m < 4 → (REC_M_CFG m).off ∉ os) : a.portSet p = s.portSet p :=
    portSet_congr hregs hos p
  refine ⟨fun hnone => ⟨(hexec (nvComplete_unknown hnone)).trans hself, (htmo (nvTimeout_unknown hnone)).trans hself, ?_⟩, fun k m hk huse hst => ?_,
    fun k m hk huse hst hop hset => ?_, fun k c lo hi m hk huse hst hop hset h0 h1 h5 hfree => ?_, fun k m hk huse hset hsafe => ?_, fun k a hk huse => ⟨?_, fun hset => ?_⟩⟩
  · have h : execNvmeAbortTimeout p tag s = .next s := by
      unfold execNvmeAbortTimeout
      rw [hnone]
    exact h
  · exact (hexec (nvComplete_ended hk huse hst)).trans (congrArg Host.Outcome.next (State.settle_same rfl))
  · generalize ha : s.nvRemove p tag = a
    have haframe : a = { s with nv := a.nv } := by rw [← ha]; rfl
    have haof : a.nvOf p = { s.nvOf p with cmds := (s.nvOf p).cmds.filter (fun x => x.tag != tag.val) } := ha ▸ State.nvOf_setNv s p _
    generalize ht : (a.inc (NVR_ERR_CNT p)).raise 851 (s.nvBid p) = t
    obtain ⟨hcnt, hraised, hregs, honly, hcfg⟩ := portError_shows s p (r := NVR_ERR_CNT p) (ev := 851) (by simp only [NVR_ERR_CNT]; omega)
      (by simp only [NVR_ERR_CNT]; omega) (by decide) a (by rw [haframe]) (by rw [haframe]) ht
    have hdone : s.nvComplete p tag status data = t := by
      rw [nvComplete_failed hk (fun d => by rw [huse]; simp) hst hop, ha, ht, mediaError_none ((hcommon hregs hcfg).trans hset)]
    have hsettle : s.settle t = t := by
      rw [← ht]
      exact State.settle_raise _ _ _ (show a.occ = s.occ by rw [haframe])
    refine Runs.next ((hexec hdone).trans (congrArg Host.Outcome.next hsettle)) ⟨?_, hcnt, hraised, hregs, ?_⟩
    · rw [State.nvOf, honly.field State.nv]
      exact haof
    · rw [OnlyRegsOcc] at honly
      rw [honly, haframe]
  · generalize ha : s.nvRemove p tag = a
    have haframe : a = { s with nv := a.nv } := by rw [← ha]; rfl
    generalize hb : (a.inc (NVR_ERR_CNT p)).raise 851 (s.nvBid p) = b
    obtain ⟨hcnt, hraised, hregs, honly, hcfg⟩ := portError_shows s p (r := NVR_ERR_CNT p) (ev := 851) (by simp only [NVR_ERR_CNT]; omega)
      (by simp only [NVR_ERR_CNT]; omega) (by decide) a (by rw [haframe]) (by rw [haframe]) hb
    have hm := portSet_lt hset
    have hstate : b.setState m = s.setState m := by
      rw [State.setState, hregs.rd (by simp only [REC_M_STATUS, NVR_ERR_CNT, evRegs, EVT_R_CNT, EVT_R_LAST, List.mem_cons, List.not_mem_nil, or_false, not_or]; omega),
        State.setState]
    have hcfgC (c : Nat) (hc : c < 8) : b.rd (REC_C_CFG c) = s.rd (REC_C_CFG c) := hregs.rd (by
      simp only [REC_C_CFG, NVR_ERR_CNT, evRegs, EVT_R_CNT, EVT_R_LAST, List.mem_cons, List.not_mem_nil, or_false, not_or]; omega)
    generalize ht : b.mediaError p = t
    obtain ⟨h5T, hbit, h842, htregs⟩ := mediaError_unused hp ((hcommon hregs hcfg).trans hset) (hstate ▸ h0) (hstate ▸ h1) (hstate ▸ h5) (fun c hc hen => by
      rw [State.recSet, State.fld, hcfgC c hc]
      rw [State.bit, hcfgC c hc] at hen
      exact hfree c hc hen) ht
    have hdone : s.nvComplete p tag status data = t := by
      rw [nvComplete_failed hk (fun d => by rw [huse]; simp) hst (Or.inr hop), ha, hb, ht]
    refine Runs.next (hexec hdone) ⟨?_, ?_, ?_, ?_, ?_, ((hregs.mono ?_).trans (htregs.mono ?_)).settle⟩
    · rw [State.setState, State.rd_settle]
      exact h5T
    · rw [State.rd_settle]
      exact hbit
    · rw [State.rd_settle, htregs.rd (by
        simp only [REC_M_STATUS, NVR_ERR_CNT, evRegs, EVT_R_CNT, EVT_R_LAST, List.mem_cons, List.not_mem_nil, or_false, not_or]; omega), hcnt]
    · rw [State.rd_settle, h842, hregs.rd (by simp only [NVR_ERR_CNT, evRegs, EVT_R_CNT, EVT_R_LAST, List.mem_cons, List.not_mem_nil, or_false, not_or]; omega)]
    · obtain ⟨-, hc851, -⟩ := hraised
      rw [State.rd_settle, htregs.rd (by
        simp only [REC_M_STATUS, evRegs, EVT_R_CNT, EVT_R_LAST, List.mem_cons, List.not_mem_nil, or_false, not_or]; omega), hc851]
    · simp [evRegs]
    · simp [evRegs]
  · generalize ha : s.nvIssue p 8 0 0 [] (.abort tag) = a
    have haframe : a = { s with nv := a.nv, out := a.out } := by rw [← ha]; exact nvIssue_frame ..
    generalize ht : (a.inc (NVR_TMO_CNT p)).raise 850 (s.nvBid p) = t
    obtain ⟨hcnt, hraised, hregs, honly, hcfg⟩ := portError_shows s p (r := NVR_TMO_CNT p) (ev := 850) (by simp only [NVR_TMO_CNT]; omega)
      (by simp only [NVR_TMO_CNT]; omega) (by decide) a (by rw [haframe]) (by rw [haframe]) ht
    have hbid : a.nvBid p = s.nvBid p := by rw [haframe]; rfl
    have hdone : s.nvTimeout p tag = t := by
      unfold State.nvTimeout
      simp only [hk, huse, ha]
      rw [hbid, ht, mediaError_none ((hcommon hregs hcfg).trans hset)]
    have hsettle : s.settle t = t := by
      rw [← ht]
      exact State.settle_raise _ _ _ (show a.occ = s.occ by rw [haframe])
    refine Runs.next ((htmo hdone).trans (congrArg Host.Outcome.next hsettle)) ⟨?_, ?_, hcnt, hraised, hregs⟩
    · rw [State.nvOf, honly.field State.nv, ← ha, nvIssue_eq hsafe]
      exact congrArg NvPort.cmds (State.nvOf_setNv s p _)
    · rw [honly.field State.out, ← ha, nvIssue_eq hsafe]
      rfl
  · refine (htmo ?_).trans hself
    unfold State.nvTimeout
    simp only [hk, huse]
  · generalize hb : (s.setNv p { s.nvOf p with cmds := [] }).emit (.nvme p 0x100 0 0 0 []) = b
    have hbframe : b = { s with nv := b.nv, out := b.out } := by rw [← hb]; rfl
    have hstay : b.portSet p = none := (hcommon (os := []) ((RegsBut.refl s _).congr (by rw [hbframe])) (by simp)).trans hset
    have hrun : execNvmeAbortTimeout p tag s = .next b := by
      obtain ⟨ktag, kop, kuse⟩ := k
      have hkuse : kuse = .abort a := huse
      unfold execNvmeAbortTimeout
      rw [hk, hkuse]
      refine congrArg Host.Outcome.next ?_
      rw [hb, mediaError_none hstay]
      exact State.settle_same (by rw [hbframe])
    refine Runs.next hrun ⟨?_, ?_, hbframe⟩
    · rw [← hb]
      exact congrArg NvPort.cmds (State.nvOf_setNv s p _)
    · rw [← hb]
      rfl

/-! ### Commands to the drives of a set -/

/-- What commands to drives leave. -/
def DriveFrame (s t : State) : Prop := t = { s with nv := t.nv, out := t.out }

theorem DriveFrame.refl (s : State) : DriveFrame s s := rfl

theorem DriveFrame.trans {s t u : State} (h : DriveFrame s t) (h' : DriveFrame t u) : DriveFrame s u := by
  rw [DriveFrame] at *
  rw [h', h]

theorem DriveFrame.nvIssue (s : State) (p op lba blocks : Nat) (data : List Byte) (use : NvUse) : DriveFrame s (s.nvIssue p op lba blocks data use) :=
  nvIssue_frame s p op lba blocks data use

theorem DriveFrame.foldl {α : Type} {f : State → α → State} (hf : ∀ u a, DriveFrame u (f u a)) : ∀ (as : List α) (s : State), DriveFrame s (as.foldl f s)
  | [], s => DriveFrame.refl s
  | a :: as, s => (hf s a).trans (DriveFrame.foldl hf as (f s a))

theorem DriveFrame.field {α : Type} {s t : State} (h : DriveFrame s t) (f : State → α) (hf : ∀ nv out, f { s with nv := nv, out := out } = f s := by intros; rfl) :
    f t = f s := by rw [h]; exact hf _ _

/-- One command for each of some root ports. -/
theorem issueAll_cmds {op lba blocks : Nat} {use : NvUse} : ∀ (ports : List Nat) {s : State}, s.safe = false → ports.Nodup →
    (∀ p, p ∈ ports → ((ports.foldl (fun s p => s.nvIssue p op lba blocks [] use) s).nvOf p).cmds = (s.nvOf p).cmds ++ [⟨(s.nvOf p).next, op, use⟩]) ∧
      (∀ p, p ∉ ports → (ports.foldl (fun s p => s.nvIssue p op lba blocks [] use) s).nvOf p = s.nvOf p)
  | [], _, _, _ => ⟨fun _ h => absurd h (List.not_mem_nil), fun _ _ => rfl⟩
  | q :: ports, s, hsafe, hdup => by
    obtain ⟨hq, hrest⟩ := List.nodup_cons.1 hdup
    rw [List.foldl_cons]
    generalize hu : s.nvIssue q op lba blocks [] use = u
    have husafe : u.safe = false := by rw [← hsafe, ← hu]; exact (DriveFrame.nvIssue s ..).field State.safe
    have hself : (u.nvOf q).cmds = (s.nvOf q).cmds ++ [⟨(s.nvOf q).next, op, use⟩] := by
      rw [← hu, nvIssue_eq hsafe]
      exact congrArg NvPort.cmds (State.nvOf_setNv s q _)
    have hother {p : Nat} (h : p ≠ q) : u.nvOf p = s.nvOf p := by
      rw [← hu, nvIssue_eq hsafe]
      exact State.nvOf_setNv_ne s _ h
    obtain ⟨hin, hout⟩ := issueAll_cmds (op := op) (lba := lba) (blocks := blocks) (use := use) ports husafe hrest
    refine ⟨fun p hp => ?_, fun p hp => ?_⟩
    · rcases List.mem_cons.1 hp with rfl | hmem
      · rw [hout p hq, hself]
      · have hne : p ≠ q := fun h => hq (h ▸ hmem)
        rw [hin p hmem, hother hne]
    · obtain ⟨hne, hmem⟩ := not_or.1 (mt List.mem_cons.2 hp)
      rw [hout p hmem, hother hne]

theorem setPorts_nodup (s : State) (m : Nat) : (s.setPorts m).Nodup := List.nodup_range.filter _

/-! ### MOUNT and FORMAT -/

theorem setMount_busy {s : State} {m : Nat} (h : s.setBusy m = true) : s.setMount m = s := if_pos (by rw [h, Bool.or_true])

theorem setMount_reads {s : State} {m : Nat} (hcfg : (s.rd (REC_M_CFG m)).getLsbD 4 = true) (hbusy : s.setBusy m = false) {a : State}
    (ha : (s.setSetState m 1).setFld (REC_M_STATUS m) ⟨15, 12⟩ 0 = a) : s.setMount m = (a.setPorts m).foldl (fun s p => s.nvIssue p 2 0 2 [] (.set m)) a := by
  rw [← ha]
  exact if_neg (by rw [hbusy, bitOf, hcfg]; decide)

/-- The two commands that format a drive. -/
def State.driveFormatted (m : Nat) (s : State) (p : Nat) : State :=
  let i := (s.nvOf p).drive
  let s := if i.all (·.fmtNow) then s else s.nvIssue p 0x80 0 0 [] (.set m)
  s.nvIssue p 9 0 ((i.map (·.blocks)).getD 0) [] (.set m)

theorem driveFormatted_frame (m : Nat) (s : State) (p : Nat) : DriveFrame s (State.driveFormatted m s p) := by
  unfold State.driveFormatted
  dsimp only
  split
  · exact DriveFrame.nvIssue ..
  · exact (DriveFrame.nvIssue ..).trans (DriveFrame.nvIssue ..)

/-- The first stripes of a set cleared. -/
def State.setCleared (s : State) (m : Nat) : State :=
  (List.range 80).foldl (fun s st => let (p, lba) := s.setAddr m st 0; s.nvIssue p 1 lba 1024 [] (.set m)) s

theorem setCleared_frame (s : State) (m : Nat) : DriveFrame s (s.setCleared m) := DriveFrame.foldl (fun _ _ => DriveFrame.nvIssue ..) _ _

theorem setFormat_eq {s : State} {m : Nat} (hcfg : (s.rd (REC_M_CFG m)).getLsbD 4 = true) (hbusy : s.setBusy m = false) :
    (s.setFormat m 0x5A).1 = (((s.setPorts m).foldl (State.driveFormatted m) (s.setSetState m 0)).setMedia m { disks := s.setPorts m }).setCleared m := by
  unfold State.setFormat State.setCleared
  generalize List.range 80 = stripes
  rw [if_neg (by rw [bitOf, hcfg]; decide), if_neg (by rw [hbusy]; decide)]
  rfl

theorem setFormat_key {s : State} {m key : Nat} (h : key ≠ 0x5A) : (s.setFormat m key).1 = s :=
  congrArg Prod.fst (if_pos (by rw [bne_iff_ne.2 h, Bool.or_true]))

theorem setFormat_busy {s : State} {m : Nat} (hcfg : (s.rd (REC_M_CFG m)).getLsbD 4 = true) (hbusy : s.setBusy m = true) :
    (s.setFormat m 0x5A).1 = s.setFld (REC_M_STATUS m) ⟨8, 8⟩ 1 :=
  congrArg Prod.fst ((if_neg (by rw [bitOf, hcfg]; decide)).trans (if_pos hbusy))

/-- A byte of a register. -/
theorem bitsOf_15_8 (v : Word) : bitsOf v.toNat 15 8 = (v.extractLsb' 8 8).toNat := by
  rw [BitVec.extractLsb'_toNat, Nat.shiftRight_eq_div_pow]
  rfl

/-- The written word of a FORMAT: its key, bit 0 as written, and bit 1. -/
theorem formatWord (v : Word) (h0 : v.getLsbD 0 = false) : bitOf (v &&& 0xFF03 ||| 2) 0 = false ∧ bitOf (v &&& 0xFF03 ||| 2) 1 = true ∧
    bitsOf (v &&& 0xFF03 ||| 2).toNat 15 8 = bitsOf v.toNat 15 8 := by
  refine ⟨?_, ?_, ?_⟩
  · rw [bitOf, BitVec.getLsbD_or, BitVec.getLsbD_and, h0]
    rfl
  · rw [bitOf, BitVec.getLsbD_or, BitVec.getLsbD_and]
    exact Bool.or_true _
  · rw [bitsOf_15_8, bitsOf_15_8, BitVec.extractLsb'_or, BitVec.extractLsb'_and,
      show BitVec.extractLsb' 8 8 (0xFF03 : Word) = BitVec.allOnes 8 by decide, show BitVec.extractLsb' 8 8 (2 : Word) = 0 by decide, BitVec.and_allOnes]
    simp

theorem setCtrl_format {s : State} {m : Nat} {v : Word} (h0 : v.getLsbD 0 = false) :
    s.setCtrl m (v &&& 0xFF03 ||| 2) = (s.setFormat m (bitsOf v.toNat 15 8)).1 := by
  obtain ⟨hb0, hb1, hkey⟩ := formatWord v h0
  unfold State.setCtrl
  rw [hb0, hb1, hkey]
  rfl

theorem setsAreAsked : SetsAreAsked := by
  unfold SetsAreAsked
  intro m v s hreach hcfg
  have hm := m.isLt
  have hmount {t : State} (h : s.setMount m = t) : exec (.setMount m 0) s = .next t := exec_hostDo hreach h
  have hformat {t : State} (h0 : v.getLsbD 0 = false) (h : (s.setFormat m (bitsOf v.toNat 15 8)).1 = t) : exec (.setFormat m v) s = .next t :=
    exec_hostDo hreach ((setCtrl_format h0).trans h)
  refine ⟨fun hbusy => hmount (setMount_busy hbusy), fun hbusy hsafe => ?_, fun h0 hkey => hformat h0 (setFormat_key hkey),
    fun h0 hkey hbusy => hformat h0 (by rw [hkey]; exact setFormat_busy hcfg hbusy), fun h0 hkey hbusy => ?_⟩
  · generalize ha : (s.setSetState m 1).setFld (REC_M_STATUS m) ⟨15, 12⟩ 0 = a
    have haonly : OnlyRegs s a := ha ▸ ((OnlyRegs.refl s).setFld _ _ _).setFld _ _ _
    have haregs : RegsBut s a [(REC_M_STATUS m).off] := ha ▸ ((RegsBut.refl s _).setFld _ _ _).setFld _ _ _
    have hports : a.setPorts m = s.setPorts m := by
      rw [State.setPorts, haregs.rd (by simp only [REC_M_CFG, REC_M_STATUS, List.mem_singleton]; omega), State.setPorts]
    have hof (p : Nat) : a.nvOf p = s.nvOf p := by rw [State.nvOf, haonly.field State.nv, State.nvOf]
    generalize ht : (a.setPorts m).foldl (fun s p => s.nvIssue p 2 0 2 [] (.set m)) a = t
    have htframe : DriveFrame a t := ht ▸ DriveFrame.foldl (fun _ _ => DriveFrame.nvIssue ..) _ _
    have htregs : t.regs = a.regs := htframe.field State.regs
    have hstatus : t.rd (REC_M_STATUS m) = a.rd (REC_M_STATUS m) := by rw [State.rd, htregs, State.rd]
    obtain ⟨hin, hout⟩ := issueAll_cmds (op := 2) (lba := 0) (blocks := 2) (use := .set m) (a.setPorts m) (s := a)
      (by rw [State.safe, State.bit, haregs.rd (by simp only [HLT_STATUS, REC_M_STATUS, List.mem_singleton]; omega)]; exact hsafe) (setPorts_nodup a m)
    rw [ht, hports] at hin hout
    refine Runs.next (hmount ((setMount_reads hcfg hbusy ha).trans ht)) ⟨?_, ?_, fun p hp => ?_, fun p hp => ?_, haregs.congr htregs, ?_⟩
    · rw [State.setState, hstatus, ← ha]
      refine (State.fld_setFld_ne (s.setSetState m 1) (REC_M_STATUS m) (f := ⟨15, 12⟩) (g := ⟨2, 0⟩) 0).trans ?_
      exact State.fld_setFld_self s (REC_M_STATUS m) ⟨2, 0⟩ 1
    · rw [hstatus, ← ha]
      exact State.fld_setFld_self (s.setSetState m 1) (REC_M_STATUS m) ⟨15, 12⟩ 0
    · rw [hin p hp, hof]
    · rw [hout p hp, hof]
    · rw [DriveFrame] at htframe
      rw [OnlyRegs] at haonly
      rw [htframe, haonly]
  · generalize ha : s.setSetState m 0 = a
    have haonly : OnlyRegs s a := ha ▸ (OnlyRegs.refl s).setFld _ _ _
    have haregs : RegsBut s a [(REC_M_STATUS m).off] := ha ▸ (RegsBut.refl s _).setFld _ _ _
    generalize hb : (s.setPorts m).foldl (State.driveFormatted m) a = b
    have hbframe : DriveFrame a b := hb ▸ DriveFrame.foldl (driveFormatted_frame m) _ _
    generalize hc : b.setMedia m { disks := s.setPorts m } = c
    have hcframe : c = { b with sets := c.sets } := by rw [← hc]; rfl
    generalize ht : c.setCleared m = t
    have htframe : DriveFrame c t := ht ▸ setCleared_frame c m
    have hEq : (s.setFormat m (bitsOf v.toNat 15 8)).1 = t := by rw [hkey, setFormat_eq hcfg hbusy, ha, hb, hc, ht]
    have htregs : t.regs = a.regs := by
      rw [htframe.field State.regs, hcframe]
      exact hbframe.field State.regs
    have hsets : t.sets = c.sets := htframe.field State.sets
    refine Runs.next (hformat h0 hEq) ⟨?_, ?_, fun k hk => ?_, haregs.congr htregs, ?_⟩
    · rw [State.setState, State.rd, htregs, ← ha]
      exact State.fld_setFld_self s (REC_M_STATUS m) ⟨2, 0⟩ 0
    · rw [State.mediaOf, hsets, ← hc]
      exact State.mediaOf_setMedia b m _
    · rw [State.mediaOf, hsets, ← hc]
      refine (State.mediaOf_setMedia_ne b _ (fun h => hk (Fin.ext h))).trans ?_
      rw [State.mediaOf, hbframe.field State.sets, haonly.field State.sets, State.mediaOf]
    · rw [DriveFrame] at htframe hbframe
      rw [OnlyRegs] at haonly
      rw [htframe, hcframe, hbframe, haonly]

/-! ### The end of a mount -/

/-- The superblock of a root port as it was read. -/
def mountSuper (rd : MountRead) (p : Nat) : Option (List Byte) := (rd.supers.find? (·.1 == p)).bind (fun x => superPick x.2.1 x.2.2)

/-- The superblocks of a set as they were read. -/
def State.mountSupers (s : State) (m : Nat) (rd : MountRead) : List (Nat × List Byte) :=
  (s.setPorts m).filterMap (fun p => (mountSuper rd p).map (fun b => (p, b)))

/-- A drive of a set is not ready. -/
def State.mountBad (s : State) (m : Nat) : Bool :=
  (s.setPorts m).any (fun p => s.bit (NVR_STATUS p) NVR_STATUS_FMT_BAD || !s.bit (NVR_STATUS p) NVR_STATUS_READY)

/-- The superblocks of `n` drives agree. -/
def supersAgree (n : Nat) (sb : List (Nat × List Byte)) : Bool :=
  sb.all (fun p => sliceAt p.2 8 16 == sliceAt ((sb.map (·.2)).headD []) 8 16 && leAt p.2 6 1 == n) &&
    (List.range n).all (fun i => sb.any (fun p => leAt p.2 7 1 == i))

/-- The drives of a set in their order. -/
def mountDisks (n : Nat) (sb : List (Nat × List Byte)) : List Nat :=
  (List.range n).filterMap (fun i => (sb.find? (fun p => leAt p.2 7 1 == i)).map (·.1))

/-- The UUID of a set shown. -/
def State.uuidShown (s : State) (m : Nat) (u : List Byte) : State :=
  (List.range 4).foldl (fun s i => s.wr (REC_M_UUID m i) (w32 (leAt u (4 * i) 4))) s

/-- A set without clips mounted. -/
def State.setMounted (s : State) (m : Nat) (x : RecSet) : State :=
  ((((s.setMedia m x).uuidShown m x.uuid).setShow m).setSetState m 2).raise 841 0x0E01

section
variable {s : State} {m : Nat} {rd : MountRead}

theorem mountEnd_bad (hbad : s.mountBad m = true) : s.mountEnd m rd = s.setSetState m 4 := if_pos hbad

theorem mountEnd_unformatted (hbad : s.mountBad m = false) (hfew : s.mountSupers m rd = [] ) : s.mountEnd m rd = s.setSetState m 3 := by
  have hcond : (decide ((s.mountSupers m rd).length < (s.setPorts m).length) || (s.setPorts m).isEmpty) = true := by
    rw [hfew]
    rcases s.setPorts m with _ | ⟨p, ps⟩
    · rfl
    · rw [decide_eq_true (by simp), Bool.true_or]
  exact (if_neg (Bool.eq_false_iff.1 hbad)).trans (if_pos hcond)

/-- A set whose superblocks agree and whose directory and journal are empty. -/
theorem mountEnd_empty {n : Nat} {sb : List (Nat × List Byte)} (hbad : s.mountBad m = false) (hn : (s.setPorts m).length = n) (hpos : n ≠ 0)
    (hsb : s.mountSupers m rd = sb) (hlen : sb.length = n) (hagree : supersAgree n sb = true) (hdir : rd.dir = []) (hjournal : rd.journal = []) :
    s.mountEnd m rd = s.setMounted m
      { disks := mountDisks n sb, uuid := sliceAt ((sb.map (·.2)).headD []) 8 16, stripes := leAt ((sb.map (·.2)).headD []) 0x20 4 } := by
  have hmany : ¬ (decide ((s.mountSupers m rd).length < (s.setPorts m).length) || (s.setPorts m).isEmpty) = true := by
    rw [hsb, hn, hlen, decide_eq_false (Nat.lt_irrefl n), Bool.false_or]
    intro hempty
    rw [List.isEmpty_iff.1 hempty] at hn
    exact hpos hn.symm
  have hok : ¬ (!supersAgree (s.setPorts m).length (s.mountSupers m rd)) = true := by
    rw [hn, hsb, hagree]
    decide
  rw [← hsb, ← hn]
  refine (if_neg (Bool.eq_false_iff.1 hbad)).trans ((if_neg hmany).trans ((if_neg hok).trans ?_))
  rw [hdir, hjournal]
  rfl

end

/-- The registers of a set that show it. -/
def mountedRegs (m : Nat) : List Nat :=
  [(REC_M_UUID m 0).off, (REC_M_UUID m 1).off, (REC_M_UUID m 2).off, (REC_M_UUID m 3).off, (REC_M_TOTAL m).off, (REC_M_FREE m).off, (REC_M_STATUS m).off]

theorem uuidShown_shows (s : State) (m : Nat) (u : List Byte) : (∀ i, i < 4 → (s.uuidShown m u).rd (REC_M_UUID m i) = w32 (leAt u (4 * i) 4)) ∧
    RegsBut s (s.uuidShown m u) (mountedRegs m) ∧ OnlyRegs s (s.uuidShown m u) := by
  have hunfold : s.uuidShown m u = (((s.wr (REC_M_UUID m 0) (w32 (leAt u (4 * 0) 4))).wr (REC_M_UUID m 1) (w32 (leAt u (4 * 1) 4))).wr
      (REC_M_UUID m 2) (w32 (leAt u (4 * 2) 4))).wr (REC_M_UUID m 3) (w32 (leAt u (4 * 3) 4)) := rfl
  rw [hunfold]
  refine ⟨fun i hi => ?_, ((((RegsBut.refl s _).wr _ _ ?_).wr _ _ ?_).wr _ _ ?_).wr _ _ ?_, ((((OnlyRegs.refl s).wr _ _).wr _ _).wr _ _).wr _ _⟩
  · match i, hi with
    | 0, _ => simp [State.rd_wr_ne, REC_M_UUID]
    | 1, _ => simp [State.rd_wr_ne, REC_M_UUID]
    | 2, _ => simp [State.rd_wr_ne, REC_M_UUID]
    | 3, _ => exact State.rd_wr_self _ _ _
  all_goals simp [mountedRegs]

theorem setMounted_shows (s : State) {m : Nat} (hm : m < 4) (x : RecSet) {t : State} (ht : s.setMounted m x = t) :
    t.setState m = 2 ∧ t.mediaOf m = x ∧ t.rd (REC_M_TOTAL m) = w32 x.stripes ∧ t.rd (REC_M_FREE m) = w32 x.free ∧
      (∀ i, i < 4 → t.rd (REC_M_UUID m i) = w32 (leAt x.uuid (4 * i) 4)) ∧ Raised s t 841 0x0E01 0 ∧ RegsBut s t (mountedRegs m ++ evRegs 841) ∧
      t = { s with regs := t.regs, sets := t.sets, occ := t.occ } ∧ s.settle t = t := by
  rw [State.setMounted] at ht
  generalize ha : s.setMedia m x = a at ht
  have haframe : a = { s with sets := a.sets } := by rw [← ha]; rfl
  have haregs : a.regs = s.regs := by rw [haframe]
  generalize hb : a.uuidShown m x.uuid = b at ht
  obtain ⟨huuid, hbregs, hbonly⟩ : (∀ i, i < 4 → b.rd (REC_M_UUID m i) = w32 (leAt x.uuid (4 * i) 4)) ∧ RegsBut a b (mountedRegs m) ∧ OnlyRegs a b :=
    hb ▸ uuidShown_shows a m x.uuid
  have hbof : b.mediaOf m = x := by
    rw [State.mediaOf, hbonly.field State.sets, ← ha]
    exact State.mediaOf_setMedia s m x
  rw [State.setShow, hbof] at ht
  generalize hc : (b.wr (REC_M_TOTAL m) (w32 x.stripes)).wr (REC_M_FREE m) (w32 x.free) = c at ht
  have hconly : OnlyRegs b c := hc ▸ ((OnlyRegs.refl b).wr _ _).wr _ _
  have hcregs : RegsBut b c [(REC_M_TOTAL m).off, (REC_M_FREE m).off] := hc ▸ ((RegsBut.refl b _).wr _ _).wr _ _
  generalize hd : c.setSetState m 2 = d at ht
  have hdonly : OnlyRegs c d := hd ▸ (OnlyRegs.refl c).setFld _ _ _
  have hdregs : RegsBut c d [(REC_M_STATUS m).off] := hd ▸ (RegsBut.refl c _).setFld _ _ _
  have honly : OnlyRegs a d := hbonly.trans (hconly.trans hdonly)
  have hall : RegsBut s d (mountedRegs m) :=
    (hbregs.congr rfl |> fun h => ((RegsBut.refl s _).congr haregs).trans h).trans ((hcregs.mono (by simp [mountedRegs])).trans (hdregs.mono (by simp [mountedRegs])))
  have hshow {r : Reg} (hlow : 0x4880000 ≤ r.off) : t.rd r = d.rd r := by
    rw [← ht, State.rd_raise _ _ _ _ (by simp only [EVT_R_CNT]; omega) (by simp only [EVT_R_LAST]; omega)]
  have hocc : d.occ = s.occ := by
    rw [honly.field State.occ, haframe]
  refine ⟨?_, ?_, ?_, ?_, fun i hi => ?_, ?_, ?_, ?_, ?_⟩
  · rw [State.setState, hshow (by simp only [REC_M_STATUS]; omega), ← hd]
    exact State.fld_setFld_self c (REC_M_STATUS m) ⟨2, 0⟩ 2
  · rw [← ht]
    refine Eq.trans ?_ hbof
    rw [State.mediaOf, State.raise_sets, (hconly.trans hdonly).field State.sets, State.mediaOf]
  · rw [hshow (by simp only [REC_M_TOTAL]; omega), hdregs.rd (by simp only [REC_M_TOTAL, REC_M_STATUS, List.mem_singleton]; omega), ← hc,
      State.rd_wr_ne _ _ (by simp only [REC_M_TOTAL, REC_M_FREE]; omega), State.rd_wr_self]
  · rw [hshow (by simp only [REC_M_FREE]; omega), hdregs.rd (by simp only [REC_M_FREE, REC_M_STATUS, List.mem_singleton]; omega), ← hc, State.rd_wr_self]
  · rw [hshow (by simp only [REC_M_UUID]; omega), hdregs.rd (by simp only [REC_M_UUID, REC_M_STATUS, List.mem_singleton]; omega),
      hcregs.rd (by simp only [REC_M_UUID, REC_M_TOTAL, REC_M_FREE, List.mem_cons, List.not_mem_nil, or_false, not_or]; omega), huuid i hi]
  · rw [← ht]
    exact State.raised_raise 841 _ [] hocc (hall.rd (by
      simp only [mountedRegs, EVT_R_CNT, REC_M_UUID, REC_M_TOTAL, REC_M_FREE, REC_M_STATUS, List.mem_cons, List.not_mem_nil, or_false, not_or]; omega))
  · rw [← ht]
    exact (hall.mono (fun o ho => List.mem_append_left _ ho)).raise 841 _ _ (fun o ho => List.mem_append_right _ ho)
  · have htonly := honly.regsOcc.raise 841 0x0E01 []
    rw [ht, OnlyRegsOcc] at htonly
    rw [htonly, haframe]
  · rw [← ht]
    exact State.settle_raise _ _ _ hocc

/-- Channels that are not STOPPED stay as they are at a mount. -/
theorem recRemounted_none {s : State} {m : Nat} (h : ∀ c, c < 8 → s.recState c ≠ 4) : s.recRemounted m = s :=
  foldl_fixed_mem fun c hc => if_neg (by rw [beq_eq_false_iff_ne.2 (h c (List.mem_range.1 hc)), Bool.and_false, Bool.false_and]; decide)

/-- A mount that ends with a Call waiting for it answers; here none waits. -/
theorem setMountDone_eq {m : Fin 4} {rd : MountRead} {s : State} (hmounting : s.setState m = 1) {t u : State} (hend : s.mountEnd m rd = t)
    (hdone : (if t.setState m = 2 then (t.recRemounted m).callDone (.mount m) 0 else t.callDone (.mount m) 4 (t.setState m)) = u) :
    exec (.setMountDone m rd) s = .next (s.settle u) := by
  rw [← hdone, ← hend]
  exact congrArg Host.Outcome.next (if_neg (by rw [hmounting]; decide))

/-! ### The end of a format -/

/-- The superblocks of a set written. -/
def State.supersWritten (s : State) (m : Nat) (x : RecSet) (uuid : List Byte) (stripes : Nat) (serials : List Byte) : State :=
  x.disks.zipIdx.foldl (fun s p =>
    let b := superBytes x.disks.length p.2 uuid stripes s.utc serials
    (s.nvIssue p.1 1 0 1 b (.set m)).nvIssue p.1 1 1 1 b (.set m)) s

theorem setsAreMounted : SetsAreMounted := by
  unfold SetsAreMounted
  intro m rd s
  have hm := m.isLt
  have hends {v : Nat} (hv : v < 8) (h2 : v ≠ 2) (hmounting : s.setState m = 1) (hwait : waits s (.mount m) = false) (hend : s.mountEnd m rd = s.setSetState m v) :
      exec (.setMountDone m rd) s = .next (s.setFld (REC_M_STATUS m) ⟨2, 0⟩ v) := by
    generalize ht : s.setSetState m v = t at hend
    have honly : OnlyRegs s t := ht ▸ (OnlyRegs.refl s).setFld _ _ _
    have hstate : t.setState m = v := by
      rw [← ht]
      exact (State.fld_setFld_self s (REC_M_STATUS m) ⟨2, 0⟩ v).trans (Nat.mod_eq_of_lt (show v < 2 ^ 3 from hv))
    have hnone : waits t (.mount m) = false := (waits_congr (honly.field State.call) _).trans hwait
    have hrun := setMountDone_eq (u := t) hmounting hend ((if_neg (by rwa [hstate])).trans (State.callDone_none hnone _ _ _))
    rw [hrun, State.settle_same honly.occ, ← ht]
    rfl
  refine ⟨fun hnot => ?_, fun hmounting hwait hbad => ?_, fun hmounting hwait hsupers hready => ?_, ?_, fun h0 hdisks hstripes hwait => ?_, fun hnot => ?_⟩
  · exact congrArg Host.Outcome.next (if_pos (bne_iff_ne.2 hnot))
  · obtain ⟨p, hp, hoff⟩ := hbad
    exact hends (by decide) (by decide) hmounting hwait (mountEnd_bad (List.any_eq_true.2 ⟨p, hp, by rw [hoff, Bool.not_false, Bool.or_true]⟩))
  · refine hends (by decide) (by decide) hmounting hwait (mountEnd_unformatted (List.any_eq_false.2 fun p hp => ?_) ?_)
    · obtain ⟨hon, hfmt⟩ := hready p hp
      rw [hon, hfmt]
      decide
    · rw [State.mountSupers, List.filterMap_eq_nil_iff]
      intro p hp
      rw [mountSuper, hsupers]
      rfl
  · intro p b0 b1 b hmounting hwait hports hsupers hdir hjournal hpick hcount hindex hon hfmt hstates
    have hbad : s.mountBad m = false := by
      rw [State.mountBad, hports, List.any_cons, List.any_nil, hfmt, hon]
      rfl
    have hsuper : mountSuper rd p = some b := by
      rw [mountSuper, hsupers, List.find?_cons, beq_self_eq_true]
      exact hpick
    have hsb : s.mountSupers m rd = [(p, b)] := by
      rw [State.mountSupers, hports, List.filterMap_cons, hsuper]
      rfl
    have hagree : supersAgree 1 [(p, b)] = true := by
      simp [supersAgree, hcount, hindex]
    have hdisks : mountDisks 1 [(p, b)] = [p] := by
      simp [mountDisks, hindex]
    have hend := mountEnd_empty (n := 1) hbad (by rw [hports]; rfl) (by decide) hsb rfl hagree hdir hjournal
    rw [hdisks] at hend
    generalize ht : s.setMounted m _ = t at hend
    obtain ⟨hstate, hof, htotal, hfree, huuid, hraised, hregs, hframe, hsettle⟩ := setMounted_shows s hm _ ht
    have hstatesT (c : Nat) (hc : c < 8) : t.recState c ≠ 4 := by
      rw [State.recState, State.fld, hregs.rd (by
        simp only [mountedRegs, evRegs, EVT_R_CNT, EVT_R_LAST, REC_M_UUID, REC_M_TOTAL, REC_M_FREE, REC_M_STATUS, REC_C_STATUS, List.cons_append, List.nil_append,
          List.mem_cons, List.not_mem_nil, or_false, not_or]; omega)]
      exact hstates c hc
    have hnone : waits t (.mount m) = false := (waits_congr (by rw [hframe]) _).trans hwait
    have hrun := setMountDone_eq (u := t) hmounting hend ((if_pos hstate).trans (by rw [recRemounted_none hstatesT, State.callDone_none hnone]))
    rw [hsettle] at hrun
    exact Runs.next hrun ⟨hstate, hof, htotal, hfree, huuid, hraised, hframe⟩
  · generalize hx : s.mediaOf m = x at hdisks hstripes
    generalize ha : s.useFree = a
    have haframe : a = { s with freeCtr := s.freeCtr + 1 } := by rw [← ha]; rfl
    generalize huuid : (List.range 16).map (Config.freeByte s.freeCtr) = uuid
    generalize hn : setStripes ((x.disks.map (fun p => (a.nvOf p).drive)).map (fun d => (d.map (·.blocks)).getD 0)) = n
    generalize hser : (x.disks.map (fun p => (a.nvOf p).drive)).flatMap (fun d => sliceAt ((d.map (·.serial)).getD []) 0 20) = serials
    generalize hb : a.supersWritten m x uuid n serials = b
    have hbframe : DriveFrame a b := hb ▸ DriveFrame.foldl (fun _ _ => (DriveFrame.nvIssue ..).trans (DriveFrame.nvIssue ..)) _ _
    generalize ht : b.setMedia m { x with uuid := uuid, stripes := n } = t
    have htframe : t = { b with sets := t.sets } := by rw [← ht]; rfl
    have hof : t.mediaOf m = { x with uuid := uuid, stripes := n } := ht ▸ State.mediaOf_setMedia b m _
    have hall : t = { s with nv := t.nv, sets := t.sets, out := t.out, freeCtr := s.freeCtr + 1 } := by
      rw [DriveFrame] at hbframe
      rw [htframe, hbframe, haframe]
    have hrun : exec (.setFormatDone m) s = .next t := by
      have hnone : waits t (.format m) = false := (waits_congr (by rw [hall]) _).trans hwait
      have hcond : ¬ (s.setState m != 0 || (s.mediaOf m).disks.isEmpty || (s.mediaOf m).stripes != 0) = true := by
        rw [h0, hx, hstripes, List.isEmpty_eq_false_iff.2 hdisks]
        decide
      have hcalled : execSetFormatDone m s = .next (t.callDone (.format m) 0) := by
        rw [← ht, ← hb, ← hser, ← hn, ← huuid, ← ha, ← hx]
        exact congrArg Host.Outcome.next (if_neg hcond)
      exact hcalled.trans (congrArg Host.Outcome.next (State.callDone_none hnone _ _ _))
    have hdrives : x.disks.map (fun p => (a.nvOf p).drive) = x.disks.map (fun p => (s.nvOf p).drive) := by
      rw [haframe]
      rfl
    refine Runs.next hrun ⟨?_, ?_, ?_, hall⟩
    · rw [hof, ← hn, hdrives, List.map_map]
      rfl
    · rw [hof]
    · rw [hall]
  · exact congrArg Host.Outcome.next (if_pos (by rw [bne_iff_ne.2 hnot]; rfl))

/-! ### Deletion -/

theorem length_sliceAt (bs : List Byte) (off n : Nat) : (sliceAt bs off n).length = n := by
  have := List.length_take_le n (bs.drop off)
  rw [sliceAt, List.length_append, List.length_replicate]
  omega

/-- One record in the next journal block. -/
theorem journal_one (s : State) (m : Nat) (use : NvUse) (r : JRec) {x : RecSet} (hx : s.mediaOf m = x) : (s.journal m use 1 [r]).1 =
    (s.setMedia m { x with jSeq := x.jSeq + 1, jBlock := (x.jBlock + 1) % 65536 }).setWrite m (x.jBlock / 1024) (x.jBlock % 1024)
      (sliceAt (jrecBytes x.jSeq r s.ns) 0 4096) use := by
  rw [← hx, ← List.append_nil (jrecBytes (s.mediaOf m).jSeq r s.ns)]
  rfl

theorem clipsAreDeleted : ClipsAreDeleted := by
  unfold ClipsAreDeleted
  intro m e s hup x d
  have he := e.isLt
  have hrun {t : State} {ok : Bool} (h : s.clipDelete m e = (t, ok)) : exec (.clipDelete m e) s = .next t := by
    refine congrArg Host.Outcome.next ((if_pos hup).trans ?_)
    rw [h]
  refine ⟨fun hrefused => hrun (ok := false) (if_pos ?_), fun hmounted hstate hkind hsafe => ?_⟩
  · show (s.setState m != 2 || decide (d.state = 0) || decide (d.state = 1) || decide (d.state = 4) || decide (d.kind = 2) || decide (32768 ≤ e.val)) = true
    simp only [Bool.or_eq_true, bne_iff_ne, decide_eq_true_eq]
    simp only [List.mem_cons, List.not_mem_nil, or_false] at hrefused
    tauto
  · generalize hw : s.setAddr m (x.jBlock / 1024) (x.jBlock % 1024) = w
    have hcond : ¬ (s.setState m != 2 || decide (d.state = 0) || decide (d.state = 1) || decide (d.state = 4) || decide (d.kind = 2) || decide (32768 ≤ e.val)) = true := by
      simp only [Bool.or_eq_true, bne_iff_ne, decide_eq_true_eq]
      omega
    generalize hblk : sliceAt (jrecBytes x.jSeq ⟨4, 0xFF, e, 0, 0⟩ s.ns) 0 4096 = blk
    have hlen : blk.length = 4096 := hblk ▸ length_sliceAt ..
    generalize ha : s.setMedia m { x with jSeq := x.jSeq + 1, jBlock := (x.jBlock + 1) % 65536 } = a
    have haframe : a = { s with sets := a.sets } := by rw [← ha]; rfl
    have haof : a.mediaOf m = { x with jSeq := x.jSeq + 1, jBlock := (x.jBlock + 1) % 65536 } := ha ▸ State.mediaOf_setMedia s m _
    have hasafe : a.safe = false := by rw [haframe]; exact hsafe
    have hof (p : Nat) : a.nvOf p = s.nvOf p := by rw [haframe]; rfl
    have haddr : a.setAddr m (x.jBlock / 1024) (x.jBlock % 1024) = w := by
      unfold State.setAddr
      rw [haof]
      exact hw
    generalize ht : a.nvIssue w.1 1 w.2 (blk.length / 4096) blk (.delete m e 1) = t
    have hdone : s.clipDelete m e = (t, true) := by
      refine (if_neg hcond).trans ?_
      rw [journal_one s m _ _ (show s.mediaOf m = x from rfl), hblk, ha, State.setWrite, haddr]
      exact congrArg (·, true) ht
    have htframe : DriveFrame a t := ht ▸ DriveFrame.nvIssue a ..
    refine Runs.next (hrun hdone) ⟨?_, ?_, ?_, ?_⟩
    · rw [State.mediaOf, htframe.field State.sets]
      exact haof
    · rw [← hof, ← ht, nvIssue_eq hasafe]
      exact congrArg NvPort.cmds (State.nvOf_setNv a w.1 _)
    · rw [← hof, ← ht, nvIssue_eq hasafe, hlen, haframe]
      rfl
    · rw [DriveFrame] at htframe
      rw [htframe, haframe]

/-- Settles O37, a command's end by what it was issued for, and a set's commands by the drives that they reach. -/
theorem mediaSets : Obligations.MediaSets := by
  unfold Obligations.MediaSets
  exact ⟨nvmeCommands, setsAreAsked, setsAreMounted, clipsAreDeleted⟩

end Sys2Proof.Machine
end

section
/-! PROOFS. Playback sessions: their commands and their pictures (R386 to R393). -/

-- One proof at a time: the text is compiled as one file in bounded memory.
set_option Elab.async false

namespace Sys2Proof.Machine
open Sys2Proof.Claims

theorem State.decOf_setDec (s : State) (d : Nat) (x : DecS) : (s.setDec d x).decOf d = x := tabGet_set_self _ _ _ _

/-! ### Commands given -/

/-- A bit of the word that an operation writes. -/
theorem goWord_bit (v : Word) (op i : Nat) (hi : i < 32) : (v &&& 0x30C0 ||| 0x10 ||| w32 op).getLsbD i =
    (v.getLsbD i && (0x30C0 : Word).getLsbD i || (0x10 : Word).getLsbD i || op.testBit i) := by
  rw [BitVec.getLsbD_or, BitVec.getLsbD_or, BitVec.getLsbD_and, w32, BitVec.getLsbD_ofNat, decide_eq_true hi, Bool.true_and]

/-- The fields of the word that an operation writes. -/
theorem goWord_fields (v : Word) {op : Nat} (h1 : 1 ≤ op) (h6 : op ≤ 6) {w : Word} (hw : v &&& 0x30C0 ||| 0x10 ||| w32 op = w) :
    bitOf w 4 = true ∧ bitsOf w.toNat 3 0 = op ∧ bitOf w 7 = v.getLsbD 7 ∧ bitsOf w.toNat 13 12 = bitsOf v.toNat 13 12 := by
  have hbit (i : Nat) (hi : i < 32) := hw ▸ goWord_bit v op i hi
  have hop (i : Nat) (hi : 3 ≤ i) : op.testBit i = false := Nat.testBit_lt_two_pow (lt_of_lt_of_le (show op < 2 ^ 3 by omega) (Nat.pow_le_pow_right (by decide) hi))
  refine ⟨?_, ?_, ?_, ?_⟩
  · rw [bitOf, hbit 4 (by decide)]
    simp
  · refine Nat.eq_of_testBit_eq fun i => ?_
    rw [bitsOf, Nat.pow_zero, Nat.div_one, Nat.testBit_mod_two_pow, BitVec.testBit_toNat]
    by_cases hi : i < 4
    · rw [decide_eq_true (show i < 3 + 1 - 0 from hi), Bool.true_and, hbit i (by omega)]
      match i, hi with
      | 0, _ => simp
      | 1, _ => simp
      | 2, _ => simp
      | 3, _ => simp
    · rw [decide_eq_false (show ¬ i < 3 + 1 - 0 from hi), Bool.false_and, hop i (by omega)]
  · rw [bitOf, hbit 7 (by decide), hop 7 (by decide)]
    simp
  · refine Nat.eq_of_testBit_eq fun i => ?_
    rw [bitsOf, bitsOf, Nat.testBit_mod_two_pow, Nat.testBit_mod_two_pow, Nat.testBit_div_two_pow, Nat.testBit_div_two_pow, BitVec.testBit_toNat,
      BitVec.testBit_toNat]
    by_cases hi : i < 2
    · rw [hbit _ (by omega), hop _ (by omega)]
      match i, hi with
      | 0, _ => simp
      | 1, _ => simp
    · rw [decide_eq_false (show ¬ i < 13 + 1 - 12 from hi), Bool.false_and, Bool.false_and]

/-- The register after a write that a session takes. -/
def cmdWord (old w : Word) : Word := (if bitOf w 6 then (old &&& 0x00000F60) &&& 0xFFFFFFBF else old &&& 0x00000F60) ||| (w &&& 0x0000308F)

theorem cmdWord_bits (old w : Word) (i : Nat) (hi : i < 4 ∨ i = 5) : (cmdWord old w).getLsbD i = if i = 5 then old.getLsbD 5 else w.getLsbD i := by
  have hi : i = 0 ∨ i = 1 ∨ i = 2 ∨ i = 3 ∨ i = 5 := by omega
  unfold cmdWord
  split
  · rcases hi with rfl | rfl | rfl | rfl | rfl <;> simp
  · rcases hi with rfl | rfl | rfl | rfl | rfl <;> simp

/-- The low four bits of the register are the operation's. -/
theorem cmdWord_op (old w : Word) : (cmdWord old w).toNat % 16 = bitsOf w.toNat 3 0 := by
  refine Nat.eq_of_testBit_eq fun i => ?_
  rw [bitsOf, Nat.pow_zero, Nat.div_one, show (16 : Nat) = 2 ^ 4 from rfl, Nat.testBit_mod_two_pow, Nat.testBit_mod_two_pow, BitVec.testBit_toNat, BitVec.testBit_toNat]
  by_cases hi : i < 4
  · rw [cmdWord_bits old w i (Or.inl hi), if_neg (by omega)]
  · rw [decide_eq_false hi, Bool.false_and, Bool.false_and]

section
variable {s : State} {d : Nat} {w : Word}

theorem decCmdWrite_busy (hgo : bitOf w 4 = true) (hbusy : s.bit (DEC_S_CMD d) DEC_S_CMD_BUSY = true) :
    s.decCmdWrite d w = s.wr (DEC_S_CMD d) (s.rd (DEC_S_CMD d) ||| 0x40) :=
  if_pos (Bool.and_eq_true_iff.2 ⟨hgo, hbusy⟩)

theorem decCmdWrite_off (hgo : bitOf w 4 = true) (hbusy : s.bit (DEC_S_CMD d) DEC_S_CMD_BUSY = false) {a : State}
    (ha : s.wr (DEC_S_CMD d) (cmdWord (s.rd (DEC_S_CMD d)) w) = a) (hoff : a.decOn d = false) : s.decCmdWrite d w = a := by
  have hfree : ¬ (bitOf w 4 && bitOf (s.rd (DEC_S_CMD d)) 5) = true := by
    rw [show bitOf (s.rd (DEC_S_CMD d)) 5 = false from hbusy, Bool.and_false]
    decide
  rw [← ha] at hoff ⊢
  refine (if_neg hfree).trans (if_neg ?_)
  show ¬ (bitOf w 4 && (s.wr (DEC_S_CMD d) (cmdWord (s.rd (DEC_S_CMD d)) w)).decOn d && decide (1 ≤ bitsOf w.toNat 3 0) && decide (bitsOf w.toNat 3 0 ≤ 6)) = true
  rw [hgo, hoff, Bool.and_false, Bool.false_and, Bool.false_and]
  decide

theorem decCmdWrite_on (hgo : bitOf w 4 = true) (hbusy : s.bit (DEC_S_CMD d) DEC_S_CMD_BUSY = false) {a b : State}
    (ha : s.wr (DEC_S_CMD d) (cmdWord (s.rd (DEC_S_CMD d)) w) = a) (hon : a.decOn d = true) (h1 : 1 ≤ bitsOf w.toNat 3 0) (h6 : bitsOf w.toNat 3 0 ≤ 6)
    (hb : a.setDec d { a.decOf d with cmd := some (bitsOf w.toNat 3 0, bitOf w 7, (a.rd (DEC_S_CMD_ARG d)).toNat, bitsOf w.toNat 13 12) } = b) :
    s.decCmdWrite d w = (b.setFld (DEC_S_CMD d) DEC_S_CMD_FAIL 0).setFld (DEC_S_CMD d) DEC_S_CMD_BUSY 1 := by
  have hfree : ¬ (bitOf w 4 && bitOf (s.rd (DEC_S_CMD d)) 5) = true := by
    rw [show bitOf (s.rd (DEC_S_CMD d)) 5 = false from hbusy, Bool.and_false]
    decide
  rw [← hb, ← ha] at *
  refine (if_neg hfree).trans (if_pos ?_)
  show (bitOf w 4 && (s.wr (DEC_S_CMD d) (cmdWord (s.rd (DEC_S_CMD d)) w)).decOn d && decide (1 ≤ bitsOf w.toNat 3 0) && decide (bitsOf w.toNat 3 0 ≤ 6)) = true
  rw [hgo, hon, decide_eq_true h1, decide_eq_true h6]
  rfl

end

theorem sessionsAreCommanded : SessionsAreCommanded := by
  unfold SessionsAreCommanded
  intro d v s op i hmem hreach
  have hd := d.isLt
  have hop : 1 ≤ op ∧ op ≤ 6 ∧ ∀ t, s.decCmdWrite d (v &&& 0x30C0 ||| 0x10 ||| w32 op) = t → exec i s = .next t := by
    simp only [List.mem_cons, Prod.mk.injEq, List.not_mem_nil, or_false] at hmem
    have hgo {j : Instr} {n : Nat} (h : exec j s = .next (s.decGo d n v)) : ∀ t, s.decCmdWrite d (v &&& 0x30C0 ||| 0x10 ||| w32 n) = t → exec j s = .next t :=
      fun t ht => h.trans (exec_hostDo hreach ht)
    rcases hmem with ⟨rfl, rfl⟩ | ⟨rfl, rfl⟩ | ⟨rfl, rfl⟩ | ⟨rfl, rfl⟩ | ⟨rfl, rfl⟩ | ⟨rfl, rfl⟩
    all_goals exact ⟨by decide, by decide, hgo rfl⟩
  obtain ⟨h1, h6, hrun⟩ := hop
  generalize hw : v &&& 0x30C0 ||| 0x10 ||| w32 op = w at hrun
  obtain ⟨hgo, hwop, hdir, hset⟩ := goWord_fields v h1 h6 hw
  generalize ha : s.wr (DEC_S_CMD d) (cmdWord (s.rd (DEC_S_CMD d)) w) = a
  have haonly : OnlyRegs s a := ha ▸ (OnlyRegs.refl s).wr _ _
  have haregs : RegsBut s a [(DEC_S_CMD d).off] := ha ▸ (RegsBut.refl s _).wr _ _
  have haword : a.rd (DEC_S_CMD d) = cmdWord (s.rd (DEC_S_CMD d)) w := by rw [← ha, State.rd_wr_self]
  have haon : a.decOn d = s.decOn d := by
    unfold State.decOn State.running State.blkOf State.bit
    rw [haregs.rd (by simp only [DEC_C_CFG, DEC_S_CMD, List.mem_singleton]; omega), haregs.rd (by simp only [DEC_S_CFG, DEC_S_CMD, List.mem_singleton]; omega),
      haonly.field State.blk]
  refine ⟨fun hbusy => hrun _ (decCmdWrite_busy hgo hbusy), fun hbusy hon => ?_, fun hbusy hoff => ?_⟩
  · generalize hb : a.setDec d { a.decOf d with cmd := some (op, v.getLsbD 7, (s.rd (DEC_S_CMD_ARG d)).toNat, bitsOf v.toNat 13 12) } = b
    have hbframe : b = { a with dec := b.dec } := by rw [← hb]; rfl
    have hbregs : b.regs = a.regs := by rw [hbframe]
    generalize hc : b.setFld (DEC_S_CMD d) DEC_S_CMD_FAIL 0 = c
    generalize ht : c.setFld (DEC_S_CMD d) DEC_S_CMD_BUSY 1 = t
    have hdone : s.decCmdWrite d w = t := by
      rw [← ht, ← hc]
      refine decCmdWrite_on hgo hbusy ha (haon.trans hon) (hwop ▸ h1) (hwop ▸ h6) ?_
      rw [hwop, hdir, hset, haregs.rd (by simp only [DEC_S_CMD_ARG, DEC_S_CMD, List.mem_singleton]; omega)]
      exact hb
    have honly : OnlyRegs b t := ht ▸ hc ▸ ((OnlyRegs.refl b).setFld _ _ _).setFld _ _ _
    have hregs : RegsBut s t [(DEC_S_CMD d).off] := ht ▸ hc ▸ ((haregs.congr hbregs).setFld _ _ _).setFld _ _ _
    refine Runs.next (hrun t hdone) ⟨?_, ?_, ?_, ?_, hregs, ?_⟩
    · rw [State.decOf, honly.field State.dec, ← hb]
      refine (State.decOf_setDec a d _).trans ?_
      rw [State.decOf, haonly.field State.dec, State.decOf]
    · rw [← ht]
      exact State.bit_setBit_self c (DEC_S_CMD d) DEC_S_CMD_BUSY true
    · rw [← ht]
      refine (State.fld_setFld_ne c (DEC_S_CMD d) (f := DEC_S_CMD_BUSY) (g := DEC_S_CMD_FAIL) 1).trans ?_
      rw [← hc]
      exact State.fld_setFld_self b (DEC_S_CMD d) DEC_S_CMD_FAIL 0
    · have hlow (x : State) : (x.rd (DEC_S_CMD d)).toNat % 16 = x.fld (DEC_S_CMD d) ⟨3, 0⟩ := by
        exact (bitsOf_low _ 3).symm
      rw [hlow, ← ht]
      refine (State.fld_setFld_ne c (DEC_S_CMD d) (f := DEC_S_CMD_BUSY) (g := ⟨3, 0⟩) 1).trans ?_
      rw [← hc]
      refine (State.fld_setFld_ne b (DEC_S_CMD d) (f := DEC_S_CMD_FAIL) (g := ⟨3, 0⟩) 0).trans ?_
      rw [← hlow, State.rd, hbregs, ← State.rd, haword, cmdWord_op, hwop]
    · rw [OnlyRegs] at honly haonly
      rw [honly, hbframe, haonly]
  · refine Runs.next (hrun a (decCmdWrite_off hgo hbusy ha (haon.trans hoff))) ⟨?_, haregs, haonly⟩
    rw [State.bit, haword]
    exact (cmdWord_bits _ w 5 (Or.inr rfl)).trans hbusy

/-! ### Commands that end -/

/-- The event that tells how a command ended. -/
def cmdEvent (code : Nat) : Nat := if code = 0 then 648 else 649

/-- A command's end shown: BUSY falls, FAIL takes its code, and its event is raised. -/
def State.decEnded (s : State) (d code : Nat) : State :=
  let t := (s.setFld (DEC_S_CMD d) DEC_S_CMD_BUSY 0).setFld (DEC_S_CMD d) DEC_S_CMD_FAIL code
  if code = 0 then t.raise 648 0x0900 else t.raise 649 0x0900

theorem decEnded_eq (s : State) (d code : Nat) : s.decEnded d code =
    ((s.setFld (DEC_S_CMD d) DEC_S_CMD_BUSY 0).setFld (DEC_S_CMD d) DEC_S_CMD_FAIL code).raise (cmdEvent code) 0x0900 := by
  unfold State.decEnded cmdEvent
  split <;> rfl

/-- What a command's end leaves of the state that it ran to. -/
structure CmdEnd (r t : State) (d code : Nat) : Prop where
  busy : t.bit (DEC_S_CMD d) DEC_S_CMD_BUSY = false
  fail : t.fld (DEC_S_CMD d) DEC_S_CMD_FAIL = code
  count : t.rd (EVT_R_CNT (cmdEvent code)) = satAdd (r.rd (EVT_R_CNT (cmdEvent code))) 1
  regs : RegsBut r t ((DEC_S_CMD d).off :: evRegs (cmdEvent code))
  only : OnlyRegsOcc r t

theorem cmdEvent_cases (code : Nat) : cmdEvent code = 648 ∨ cmdEvent code = 649 := by
  unfold cmdEvent
  split
  · exact Or.inl rfl
  · exact Or.inr rfl

theorem decEnded_shows (r : State) (d : Fin 4) {code : Nat} (hcode : code < 16) {t : State} (ht : r.decEnded d code = t) : CmdEnd r t d code := by
  have hev := cmdEvent_cases code
  have hev' : cmdEvent code < 1024 := by omega
  generalize ha : r.setFld (DEC_S_CMD d) DEC_S_CMD_BUSY 0 = a
  generalize hb : a.setFld (DEC_S_CMD d) DEC_S_CMD_FAIL code = b
  have hbt : b.raise (cmdEvent code) 0x0900 = t := by rw [← hb, ← ha, ← decEnded_eq, ht]
  have hregs : RegsBut r b [(DEC_S_CMD d).off] := hb ▸ ha ▸ ((RegsBut.refl r _).setFld _ _ _).setFld _ _ _
  have honly : OnlyRegs r b := hb ▸ ha ▸ ((OnlyRegs.refl r).setFld _ _ _).setFld _ _ _
  have hcmd : t.rd (DEC_S_CMD d) = b.rd (DEC_S_CMD d) := by
    rw [← hbt, State.rd_raise _ _ _ _ (by simp only [EVT_R_CNT, DEC_S_CMD]; omega) (by simp only [EVT_R_LAST, DEC_S_CMD]; omega)]
  refine ⟨?_, ?_, ?_, ?_, hbt ▸ honly.regsOcc.raise _ _ _⟩
  · rw [State.bit, hcmd, ← hb]
    refine (State.bit_setFld_ne a (DEC_S_CMD d) (f := DEC_S_CMD_FAIL) (g := DEC_S_CMD_BUSY) code).trans ?_
    rw [← ha]
    exact State.bit_setBit_self r (DEC_S_CMD d) DEC_S_CMD_BUSY false
  · rw [State.fld, hcmd, ← hb]
    exact (State.fld_setFld_self a (DEC_S_CMD d) DEC_S_CMD_FAIL code).trans (Nat.mod_eq_of_lt (show code < 2 ^ 4 from hcode))
  · rw [← hbt, State.rd_raise_cnt, hregs.rd (by simp only [EVT_R_CNT, DEC_S_CMD, List.mem_singleton]; omega)]
  · rw [← hbt]
    exact (hregs.mono (by simp)).raise _ _ _ (fun o ho => List.mem_cons_of_mem _ ho)

section
variable {d : Fin 4} {info : DecInfo} {s : State} {op arg m : Nat} {dir : Bool}

/-- The session with its command taken. -/
def State.cmdTaken (s : State) (d : Nat) : State := s.setDec d { s.decOf d with cmd := none }

theorem cmdTaken_frame (s : State) (d : Nat) : s.cmdTaken d = { s with dec := (s.cmdTaken d).dec } := rfl

theorem decOf_cmdTaken (s : State) (d : Nat) : (s.cmdTaken d).decOf d = { s.decOf d with cmd := none } := State.decOf_setDec s d _

theorem decCmdDone_eq (hcmd : (s.decOf d).cmd = some (op, dir, arg, m)) {r : State} {code : Nat} (hrun : (s.cmdTaken d).decRun d op dir arg m info = (r, code)) :
    exec (.decCmdDone d info) s = .next (s.settle (r.decEnded d code)) := by
  have h : execDecCmdDone d info s = .next (s.settle (r.decEnded d code)) := by
    unfold execDecCmdDone
    rw [hcmd]
    refine congrArg Host.Outcome.next ?_
    rw [show s.setDec d { s.decOf d with cmd := none } = s.cmdTaken d from rfl]
    simp only [hrun]
    rfl
  exact h

/-- A command that runs to a state and a code. -/
theorem decCmdDone_ends (hcmd : (s.decOf d).cmd = some (op, dir, arg, m)) {r : State} {code : Nat} (hcode : code < 16)
    (hrun : (s.cmdTaken d).decRun d op dir arg m info = (r, code)) (hcnt : r.rd (EVT_R_CNT (cmdEvent code)) = s.rd (EVT_R_CNT (cmdEvent code)))
    (hnone : (r.decOf d).cmd = none) {P : State → Prop}
    (hP : ∀ t, t.decState d = r.decState d → t.decOf d = r.decOf d → t.fld (DEC_S_STATUS d) DEC_S_STATUS_STOP_REASON = r.fld (DEC_S_STATUS d) DEC_S_STATUS_STOP_REASON →
      RegsBut r t ((DEC_S_CMD d).off :: evRegs (cmdEvent code)) → OnlyRegsOcc r t → P t) :
    Runs (.decCmdDone d info) s (fun t => t.bit (DEC_S_CMD d) DEC_S_CMD_BUSY = false ∧ t.fld (DEC_S_CMD d) DEC_S_CMD_FAIL = code ∧ (t.decOf d).cmd = none ∧
      t.rd (EVT_R_CNT (if code = 0 then 648 else 649)) = satAdd (s.rd (EVT_R_CNT (if code = 0 then 648 else 649))) 1 ∧ P t) := by
  obtain ⟨hbusy, hfail, hcount, hregs, honly⟩ := decEnded_shows r d hcode rfl
  have hev := cmdEvent_cases code
  have hexec := decCmdDone_eq hcmd hrun
  generalize r.decEnded d code = t at *
  have hof : (s.settle t).decOf d = r.decOf d := by
    rw [State.decOf, State.settle_dec, honly.field State.dec, State.decOf]
  have hstatus : (s.settle t).rd (DEC_S_STATUS d) = r.rd (DEC_S_STATUS d) := by
    rw [State.rd_settle, hregs.rd (by
      simp only [DEC_S_STATUS, DEC_S_CMD, evRegs, EVT_R_CNT, EVT_R_LAST, List.mem_cons, List.not_mem_nil, or_false, not_or]; omega)]
  refine Runs.next hexec ⟨?_, ?_, by rw [hof, hnone], ?_, hP _ ?_ hof ?_ hregs.settle (honly.settle s)⟩
  · rw [State.bit, State.rd_settle]
    exact hbusy
  · rw [State.fld, State.rd_settle]
    exact hfail
  · rw [hcnt] at hcount
    rw [State.rd_settle]
    exact hcount
  · rw [State.decState, State.fld, hstatus, State.decState, State.fld]
  · rw [State.fld, hstatus, State.fld]

/-- A session that keeps its state and its source, with its command gone. -/
def StillAs (s t : State) (d : Nat) : Prop := t.decState d = s.decState d ∧ t.decOf d = { s.decOf d with cmd := none } ∧
  RegsBut s t ((DEC_S_CMD d).off :: evRegs 649) ∧ t = { s with regs := t.regs, dec := t.dec, occ := t.occ }

/-- A command that fails leaves the session as it was. -/
theorem decCmdDone_fails (hcmd : (s.decOf d).cmd = some (op, dir, arg, m)) {code : Nat} (hcode : code < 16) (h0 : code ≠ 0)
    (hrun : (s.cmdTaken d).decRun d op dir arg m info = (s.cmdTaken d, code)) :
    Runs (.decCmdDone d info) s (fun t => t.bit (DEC_S_CMD d) DEC_S_CMD_BUSY = false ∧ t.fld (DEC_S_CMD d) DEC_S_CMD_FAIL = code ∧ (t.decOf d).cmd = none ∧
      t.rd (EVT_R_CNT (if code = 0 then 648 else 649)) = satAdd (s.rd (EVT_R_CNT (if code = 0 then 648 else 649))) 1 ∧ StillAs s t d) := by
  refine decCmdDone_ends hcmd hcode hrun rfl (by rw [decOf_cmdTaken]) fun t hstate hof _ hregs honly => ⟨hstate, hof.trans (decOf_cmdTaken s d), ?_, ?_⟩
  · rw [cmdEvent, if_neg h0] at hregs
    exact hregs
  · rw [OnlyRegsOcc] at honly
    rw [honly, cmdTaken_frame]

/-- A command that is done in a state with the registers of the session's status changed. -/
theorem decCmdDone_done (hcmd : (s.decOf d).cmd = some (op, dir, arg, m)) {r : State} (hrun : (s.cmdTaken d).decRun d op dir arg m info = (r, 0))
    (hregs : RegsBut s r [(DEC_S_STATUS d).off]) (hnone : (r.decOf d).cmd = none) {P : State → Prop}
    (hP : ∀ t, t.decState d = r.decState d → t.decOf d = r.decOf d → t.fld (DEC_S_STATUS d) DEC_S_STATUS_STOP_REASON = r.fld (DEC_S_STATUS d) DEC_S_STATUS_STOP_REASON → P t) :
    Runs (.decCmdDone d info) s (fun t => t.bit (DEC_S_CMD d) DEC_S_CMD_BUSY = false ∧ t.fld (DEC_S_CMD d) DEC_S_CMD_FAIL = 0 ∧ (t.decOf d).cmd = none ∧
      t.rd (EVT_R_CNT (if 0 = 0 then 648 else 649)) = satAdd (s.rd (EVT_R_CNT (if 0 = 0 then 648 else 649))) 1 ∧ P t) :=
  decCmdDone_ends hcmd (by decide) hrun (hregs.rd (by simp only [cmdEvent, if_true, EVT_R_CNT, DEC_S_STATUS, List.mem_singleton]; omega)) hnone
    (fun t hstate hof hstop _ _ => hP t hstate hof hstop)

/-- A session's state set. -/
theorem setDecState_shows (s : State) (d : Nat) {v : Nat} (hv : v < 8) : (s.setDecState d v).decState d = v ∧ RegsBut s (s.setDecState d v) [(DEC_S_STATUS d).off] ∧
    (s.setDecState d v).decOf d = s.decOf d := by
  refine ⟨?_, (RegsBut.refl s _).setFld _ _ _, ?_⟩
  · exact (State.fld_setFld_self s (DEC_S_STATUS d) DEC_S_STATUS_STATE v).trans (Nat.mod_eq_of_lt (show v < 2 ^ 3 from hv))
  · rw [State.decOf, State.setDecState, ((OnlyRegs.refl s).setFld _ _ _).field State.dec, State.decOf]

/-- Pacing by events outputs nothing by itself. -/
theorem decFree_paced {s : State} {d : Nat} (h : s.fld (DEC_S_PACE d) DEC_S_PACE_MODE ≠ 0) : ∀ n, s.decFree d n = s
  | 0 => rfl
  | _ + 1 => if_pos (by rw [bne_iff_ne.2 h, Bool.true_or])

/-- A ring source is read by no Reads. -/
theorem decFetch_ring {s : State} {d : Nat} (h : s.decRingSrc d = true) : s.decFetch d = s := by
  unfold State.decFetch
  extract_lets +onlyGivenNames x
  split
  · rfl
  · exact if_pos (by rw [h, Bool.true_or, Bool.true_or, Bool.true_or, Bool.true_or])

/-- The Read of one part of a package. -/
def readIssued (d m : Nat) (xs : List Extent) (st : State × List (Nat × Option (List Byte))) (c : Nat × Nat) : State × List (Nat × Option (List Byte)) :=
  match stripeOf xs (c.1 / 4194304) with
  | none => st
  | some g =>
    let (p, lba) := st.1.setAddr m g (c.1 % 4194304 / 4096)
    let t := (st.1.nvOf p).next
    (st.1.nvIssue p 2 lba ((c.2 - c.1) / 4096) [] (.read d), st.2 ++ [(t + 65536 * p, none)])

theorem readsIssued_frame (d m : Nat) (xs : List Extent) : ∀ (cuts : List (Nat × Nat)) (st : State × List (Nat × Option (List Byte))),
    DriveFrame st.1 (cuts.foldl (readIssued d m xs) st).1
  | [], st => DriveFrame.refl st.1
  | c :: cuts, st => by
    refine DriveFrame.trans ?_ (readsIssued_frame d m xs cuts (readIssued d m xs st c))
    unfold readIssued
    rcases stripeOf xs (c.1 / 4194304) with _ | g
    · exact DriveFrame.refl st.1
    · exact DriveFrame.nvIssue ..

/-- Reads of a clip's parts change what the session reads, and no register. -/
theorem decFetch_keeps (s : State) (d : Nat) : (s.decFetch d).regs = s.regs ∧ ∃ reading next, (s.decFetch d).decOf d = { s.decOf d with reading := reading, next := next } := by
  generalize hr : s.decFetch d = r
  unfold State.decFetch at hr
  extract_lets +onlyGivenNames x at hr
  split at hr
  · rw [← hr]
    exact ⟨rfl, (s.decOf d).reading, (s.decOf d).next, rfl⟩
  · next i m e hclip =>
    split at hr
    · rw [← hr]
      exact ⟨rfl, (s.decOf d).reading, (s.decOf d).next, rfl⟩
    · extract_lets +onlyGivenNames a b xs lo hi cuts at hr
      split at hr
      next u tags hu =>
      have hframe : DriveFrame s u := by
        change cuts.foldl (readIssued d m xs) (s, []) = (u, tags) at hu
        have hall := readsIssued_frame d m xs cuts (s, [])
        rwa [hu] at hall
      have hdec : u.decOf d = s.decOf d := hframe.field (State.decOf · d)
      extract_lets +onlyGivenNames nx at hr
      rw [← hr]
      refine ⟨hframe.field State.regs, some ⟨x.next, true, tags, a - lo, b - a⟩, nx, ?_⟩
      rw [State.decOf_setDec, hdec]

end

/-! ### The operations -/

section
variable {s : State} {d : Nat} {dir : Bool} {arg m : Nat} {info : DecInfo}

/-- LOAD is refused for a session in play or STOPPED. -/
theorem decRun_load_wrong (h : s.decState d = 2 ∨ s.decState d = 4) : s.decRun d 1 dir arg m info = (s, 5) :=
  if_pos (by rcases h with h | h <;> rw [h] <;> decide)

theorem decRun_load_unmounted (h : s.decState d = 0) (hsrc : s.decRingSrc d = false) (hset : s.setState m ≠ 2) : s.decRun d 1 dir arg m info = (s, 1) :=
  (if_neg (by rw [h]; decide)).trans ((if_neg (by rw [hsrc]; decide)).trans (if_pos (bne_iff_ne.2 hset)))

theorem decRun_load_open (h : s.decState d = 0) (hsrc : s.decRingSrc d = false) (hset : s.setState m = 2) (hopen : (tabGet (s.mediaOf m).dir {} arg).state = 1) :
    s.decRun d 1 dir arg m info = (s, 2) :=
  (if_neg (by rw [h]; decide)).trans ((if_neg (by rw [hsrc]; decide)).trans ((if_neg (by rw [hset]; decide)).trans (if_pos (by rw [hopen]; rfl))))

/-- What a session was loaded with is outside its capability. -/
def State.decOver (s : State) (d : Nat) (info : DecInfo) : Bool :=
  info.codec = 0 || (s.rd (DEC_S_MAX d)).toNat % 65536 < info.w || (s.rd (DEC_S_MAX d)).toNat / 65536 < info.h ||
    (s.rd (DEC_S_MAX_RATE d)).toNat < info.rate || (info.quad && s.bit (DEC_S_CFG d) DEC_S_CFG_PREVIEW)

theorem decRun_load_over (h : s.decState d = 0 ∨ s.decState d = 1 ∨ s.decState d = 3) (hsrc : s.decRingSrc d = true) (hover : s.decOver d info = true) :
    s.decRun d 1 dir arg m info = (s, 3) :=
  (if_neg (by rcases h with h | h | h <;> rw [h] <;> decide)).trans ((if_pos hsrc).trans (if_pos hover))

theorem decRun_load_ring (h : s.decState d = 0 ∨ s.decState d = 1 ∨ s.decState d = 3) (hsrc : s.decRingSrc d = true) (hover : s.decOver d info = false) :
    s.decRun d 1 dir arg m info = ((s.setDec d { clip := some (info, m, arg), buf := (s.decOf d).buf }).setDecState d 1, 0) := by
  generalize ha : (s.setDec d { clip := some (info, m, arg), buf := (s.decOf d).buf }).setDecState d 1 = a
  have hring : a.decRingSrc d = true := by
    rw [← ha, ← hsrc]
    exact State.bit_wr_ne (s.setDec d { clip := some (info, m, arg), buf := (s.decOf d).buf }) _ DEC_S_CFG_SRC (by simp only [DEC_S_CFG, DEC_S_STATUS]; omega)
  refine (if_neg (by rcases h with h | h | h <;> rw [h] <;> decide)).trans ((if_pos hsrc).trans ((if_neg (Bool.eq_false_iff.1 hover)).trans ?_))
  refine congrArg (·, 0) ?_
  show ((s.setDec d { clip := some (info, m, arg), buf := (s.decOf d).buf, count := if s.decRingSrc d = true then 0 else (s.decOf d).count }).setDecState d 1).decFetch d = a
  rw [if_pos hsrc]
  exact (congrArg (State.decFetch · d) ha).trans (decFetch_ring hring)

theorem decRun_play_wrong (h : s.decState d = 0 ∨ s.decState d = 2 ∨ s.decState d = 4) : s.decRun d 2 dir arg m info = (s, 5) :=
  if_pos (by rcases h with h | h | h <;> rw [h] <;> decide)

theorem decRun_play_back (h : s.decState d = 1 ∨ s.decState d = 3) (hback : s.decNoBack d = true) : s.decRun d 2 true arg m info = (s, 7) :=
  (if_neg (by rcases h with h | h <;> rw [h] <;> decide)).trans (if_pos (by rw [hback]; rfl))

theorem decRun_play (h : s.decState d = 1 ∨ s.decState d = 3) (hback : (s.decOf d).back = false) (hpace : s.fld (DEC_S_PACE d) DEC_S_PACE_MODE ≠ 0) :
    s.decRun d 2 false arg m info = ((s.setDec d { s.decOf d with first := none, evs := 0 }).setDecState d 2, 0) := by
  generalize ha : (s.setDec d { s.decOf d with first := none, evs := 0 }).setDecState d 2 = a
  have hpaced : a.fld (DEC_S_PACE d) DEC_S_PACE_MODE ≠ 0 := by
    rw [← ha]
    refine ne_of_eq_of_ne ?_ hpace
    exact State.fld_wr_ne (s.setDec d { s.decOf d with first := none, evs := 0 }) _ DEC_S_PACE_MODE (by simp only [DEC_S_PACE, DEC_S_STATUS]; omega)
  refine (if_neg (by rcases h with h | h <;> rw [h] <;> decide)).trans ((if_neg (by rw [Bool.false_and]; decide)).trans ?_)
  refine congrArg (·, 0) ?_
  show ((if ((s.decOf d).back != false) = true then s.decSeekTo d _ false else s.setDec d { s.decOf d with first := none, evs := 0 }).setDecState d 2).decFree d 1024 = a
  rw [if_neg (by rw [hback]; decide), ha]
  exact decFree_paced hpaced 1024

theorem decRun_pause_wrong (h : s.decState d ≠ 2) : s.decRun d 3 dir arg m info = (s, 5) := if_pos (bne_iff_ne.2 h)

theorem decRun_pause (h : s.decState d = 2) : s.decRun d 3 dir arg m info = (s.setDecState d 1, 0) := if_neg (by rw [h]; decide)

theorem decRun_seek_wrong (h : s.decRingSrc d = true ∨ (s.decState d ≠ 1 ∧ s.decState d ≠ 2)) : s.decRun d 4 dir arg m info = (s, 5) := by
  refine if_pos ?_
  rcases h with h | ⟨h1, h2⟩
  · rw [h, Bool.true_or]
  · rw [decide_eq_false h1, decide_eq_false h2, Bool.or_false, Bool.not_false, Bool.or_true]

/-- The frames of a session's clip. -/
theorem decRun_seek_out {i : DecInfo} {x : Nat × Nat} (hsrc : s.decRingSrc d = false) (h : s.decState d = 1 ∨ s.decState d = 2) (hclip : (s.decOf d).clip = some (i, x))
    (hout : i.frames ≤ arg) : s.decRun d 4 dir arg m info = (s, 6) := by
  refine (if_neg (by rw [hsrc]; rcases h with h | h <;> rw [h] <;> decide)).trans (if_pos ?_)
  rw [hclip]
  exact hout

/-- A session that seeks: what it shows next, and where it reads. -/
def State.decSought (s : State) (d arg : Nat) : State :=
  (s.decSeekTo d arg false).setDec d { (s.decSeekTo d arg false).decOf d with shown := none, seek := arg }

theorem decRun_seek {i : DecInfo} {x : Nat × Nat} (hsrc : s.decRingSrc d = false) (h : s.decState d = 1 ∨ s.decState d = 2) (hclip : (s.decOf d).clip = some (i, x))
    (hin : arg < i.frames) : s.decRun d 4 dir arg m info = (s.decSought d arg, 0) := by
  refine (if_neg (by rw [hsrc]; rcases h with h | h <;> rw [h] <;> decide)).trans ((if_neg ?_).trans rfl)
  rw [hclip]
  exact Nat.not_le.2 hin

theorem decRun_step_wrong (h : s.decRingSrc d = true ∨ s.decState d ≠ 1) : s.decRun d 5 dir arg m info = (s, 5) := by
  refine if_pos ?_
  rcases h with h | h
  · rw [h, Bool.true_or]
  · rw [bne_iff_ne.2 h, Bool.or_true]

theorem decRun_step {i : DecInfo} {x : Nat × Nat} {p : Int} (hsrc : s.decRingSrc d = false) (h : s.decState d = 1) (hclip : (s.decOf d).clip = some (i, x))
    (hshown : (s.decOf d).shown = some p) (hback : (s.decOf d).back = false) (h0 : 0 ≤ p) (hp : p + 1 < i.frames) (hpace : s.fld (DEC_S_PACE d) DEC_S_PACE_MODE ≠ 0) :
    ∃ r, s.decRun d 5 false arg m info = (r, 0) ∧ r.regs = s.regs ∧ (r.decOf d).cmd = (s.decOf d).cmd ∧ (r.decOf d).step = true := by
  generalize ha : s.setDec d { s.decOf d with first := none, evs := 0 } = a
  have haof : a.decOf d = { s.decOf d with first := none, evs := 0 } := ha ▸ State.decOf_setDec s d _
  generalize hr : a.setDec d { a.decOf d with step := true } = r
  have hrregs : r.regs = s.regs := by rw [← hr, ← ha]; rfl
  have hrof : r.decOf d = { a.decOf d with step := true } := hr ▸ State.decOf_setDec a d _
  have hrpace : r.fld (DEC_S_PACE d) DEC_S_PACE_MODE ≠ 0 := by
    rw [State.fld, State.rd, hrregs]
    exact hpace
  have hnext : ¬ (decide (p + 1 < 0) || decide ((i.frames : Int) ≤ p + 1)) = true := by
    rw [decide_eq_false (show ¬ p + 1 < 0 by omega), decide_eq_false (show ¬ (i.frames : Int) ≤ p + 1 by omega)]
    decide
  refine ⟨r, ?_, hrregs, by rw [hrof, haof], by rw [hrof]⟩
  refine (if_neg (by rw [hsrc, h]; decide)).trans ((if_neg (by rw [Bool.false_and]; decide)).trans ((if_neg ?_).trans ?_))
  · rw [hclip, hshown]
    exact hnext
  · refine congrArg (·, 0) ?_
    show ((if ((s.decOf d).back != false) = true then s.decSeekTo d _ false else s.setDec d { s.decOf d with first := none, evs := 0 }).setDec d
      { (if ((s.decOf d).back != false) = true then s.decSeekTo d _ false else s.setDec d { s.decOf d with first := none, evs := 0 }).decOf d with step := true }).decFree d 2 = r
    rw [if_neg (by rw [hback]; decide), ha, hr]
    exact decFree_paced hrpace 2

theorem decRun_stop_wrong (h : s.decState d = 0) : s.decRun d 6 dir arg m info = (s, 5) := if_pos h

theorem decRun_stop (h : s.decState d ≠ 0) : s.decRun d 6 dir arg m info = ((s.decIdle d).setFld (DEC_S_STATUS d) DEC_S_STATUS_STOP_REASON 0, 0) := if_neg h

end

/-- A session that seeks a position of its clip. -/
theorem decSought_shows {s : State} {d : Nat} {i : DecInfo} {x : Nat × Nat} (hclip : (s.decOf d).clip = some (i, x)) (arg : Nat) {t : State}
    (ht : s.decSought d arg = t) : t.regs = s.regs ∧ (t.decOf d).cmd = (s.decOf d).cmd ∧ (t.decOf d).seek = arg ∧ (t.decOf d).shown = none ∧
      (t.decOf d).skipTo = arg ∧ (t.decOf d).ready = [] ∧ (t.decOf d).back = false := by
  generalize hk : (i.keys.filter (· ≤ (arg : Int).toNat)).foldl max 0 = k
  generalize ha : s.setDec d { s.decOf d with back := false, next := k, reading := none, pkgs := [], ready := [], skipTo := arg, marks := [], first := none, evs := 0 } = a
  have haof : a.decOf d = { s.decOf d with back := false, next := k, reading := none, pkgs := [], ready := [], skipTo := arg, marks := [], first := none, evs := 0 } :=
    ha ▸ State.decOf_setDec s d _
  have hseek : s.decSeekTo d arg false = a.decFetch d := by
    unfold State.decSeekTo
    extract_lets +onlyGivenNames y
    split
    · next i' z hz =>
      obtain rfl : i' = i := (Prod.mk.inj (Option.some.inj (hz.symm.trans hclip))).1
      rw [← ha, ← hk]
      rfl
    · next hz => exact absurd (hclip.symm.trans hz) (by simp)
  obtain ⟨hregs, reading, next, hof⟩ := decFetch_keeps a d
  rw [State.decSought, hseek] at ht
  have htof : t.decOf d = { (a.decFetch d).decOf d with shown := none, seek := (arg : Int) } := ht ▸ State.decOf_setDec _ d _
  rw [hof, haof] at htof
  refine ⟨?_, by rw [htof], by rw [htof], by rw [htof], by rw [htof], by rw [htof], by rw [htof]⟩
  rw [← ht]
  refine Eq.trans ?_ (hregs.trans ?_)
  · rfl
  · rw [← ha]
    rfl

theorem operationsEnd : OperationsEnd := by
  unfold OperationsEnd
  intro d info s op arg m dir
  refine ⟨fun hnone => ?_, ?_⟩
  · have h : execDecCmdDone d info s = .next s := by
      unfold execDecCmdDone
      rw [hnone]
    exact h
  intro hcmd st ends still
  have hof := decOf_cmdTaken s d
  have hnoback : (s.cmdTaken d).decNoBack d = s.decNoBack d := by
    unfold State.decNoBack
    rw [hof]
  have hfails {code : Nat} (hcode : code < 16) (h0 : code ≠ 0) (hrun : (s.cmdTaken d).decRun d op dir arg m info = (s.cmdTaken d, code)) : ends code still :=
    decCmdDone_fails hcmd hcode h0 hrun
  have hstate {v : Nat} (a : State) (haregs : a.regs = s.regs) (hv : v < 8) : (a.setDecState d v).decState d = v ∧ RegsBut s (a.setDecState d v) [(DEC_S_STATUS d).off] ∧
      (a.setDecState d v).decOf d = a.decOf d := by
    obtain ⟨h1, h2, h3⟩ := setDecState_shows a d hv
    exact ⟨h1, ((RegsBut.refl s _).congr haregs).trans h2, h3⟩
  refine ⟨fun hop h => ?_, fun hop h => ?_, fun hop h => ?_, fun hop h hsrc hset => ?_, fun hop h hsrc hset hent => ?_, fun hop h hsrc hcodec hw hh hrate hquad => ?_,
    fun hop h hsrc hcodec => ?_, fun hop h => ?_, fun hop h hdir hback => ?_, fun hop h hdir hback hpace => ?_, fun hop h => ?_, fun i x hop hsrc h hclip hout => ?_,
    fun i x hop hsrc h hclip hin => ?_, fun hop h => ?_, fun i x p hop hsrc h hdir hclip hshown hback h0 hp hpace => ?_, fun hop h => ?_, fun hop h => ?_⟩
  all_goals subst hop
  · exact hfails (by decide) (by decide) (decRun_pause_wrong h)
  · obtain ⟨hst, hregs, hrof⟩ := hstate (v := 1) (s.cmdTaken d) rfl (by decide)
    exact decCmdDone_done hcmd (decRun_pause h) hregs (by rw [hrof, hof]) (fun t ht _ _ => ht.trans hst)
  · exact hfails (by decide) (by decide) (decRun_load_wrong h)
  · exact hfails (by decide) (by decide) (decRun_load_unmounted h hsrc hset)
  · exact hfails (by decide) (by decide) (decRun_load_open h hsrc hset hent)
  · have hover : (s.cmdTaken d).decOver d info = false := by
      show (decide (info.codec = 0) || decide ((s.rd (DEC_S_MAX d)).toNat % 65536 < info.w) || decide ((s.rd (DEC_S_MAX d)).toNat / 65536 < info.h) ||
        decide ((s.rd (DEC_S_MAX_RATE d)).toNat < info.rate) || (info.quad && s.bit (DEC_S_CFG d) DEC_S_CFG_PREVIEW)) = false
      rw [decide_eq_false hcodec, decide_eq_false (Nat.not_lt.2 hw), decide_eq_false (Nat.not_lt.2 hh), decide_eq_false (Nat.not_lt.2 hrate), hquad]
      rfl
    generalize ha : (s.cmdTaken d).setDec d { clip := some (info, m, arg), buf := ((s.cmdTaken d).decOf d).buf } = a
    have haof : a.decOf d = { clip := some (info, m, arg), buf := (s.decOf d).buf } := by
      rw [← ha, State.decOf_setDec, hof]
    obtain ⟨hst, hregs, hrof⟩ := hstate (v := 1) a (by rw [← ha]; rfl) (by decide)
    have hrun : (s.cmdTaken d).decRun d 1 dir arg m info = (a.setDecState d 1, 0) := by
      rw [decRun_load_ring (s := s.cmdTaken d) h hsrc hover, ha]
    refine decCmdDone_done hcmd hrun hregs (by rw [hrof, haof]) (fun t ht htof _ => ⟨ht.trans hst, ?_⟩)
    rw [htof, hrof, haof]
  · refine hfails (by decide) (by decide) (decRun_load_over h hsrc ?_)
    rw [State.decOver, decide_eq_true hcodec, Bool.true_or, Bool.true_or, Bool.true_or, Bool.true_or]
  · exact hfails (by decide) (by decide) (decRun_play_wrong h)
  · subst hdir
    exact hfails (by decide) (by decide) (decRun_play_back h (hnoback.trans hback))
  · subst hdir
    generalize ha : (s.cmdTaken d).setDec d { (s.cmdTaken d).decOf d with first := none, evs := 0 } = a
    have haof : a.decOf d = { s.decOf d with cmd := none, first := none, evs := 0 } := by
      rw [← ha, State.decOf_setDec, hof]
    obtain ⟨hst, hregs, hrof⟩ := hstate (v := 2) a (by rw [← ha]; rfl) (by decide)
    have hrun : (s.cmdTaken d).decRun d 2 false arg m info = (a.setDecState d 2, 0) := by
      rw [decRun_play (s := s.cmdTaken d) h (by rw [hof]; exact hback) hpace, ha]
    refine decCmdDone_done hcmd hrun hregs (by rw [hrof, haof]) (fun t ht htof _ => ⟨ht.trans hst, ?_⟩)
    rw [htof, hrof, haof]
  · exact hfails (by decide) (by decide) (decRun_seek_wrong h)
  · exact hfails (by decide) (by decide) (decRun_seek_out hsrc h (by rw [hof]; exact hclip) hout)
  · obtain ⟨hregs, hrcmd, hseek, hshown, hskip, hready, hback⟩ := decSought_shows (s := s.cmdTaken d) (d := d) (by rw [hof]; exact hclip) arg rfl
    refine decCmdDone_done hcmd (decRun_seek hsrc h (by rw [hof]; exact hclip) hin) ((RegsBut.refl s _).congr hregs) (by rw [hrcmd, hof]) (fun t ht htof _ => ?_)
    rw [htof]
    refine ⟨ht.trans ?_, hseek, hshown, hskip, hready, hback⟩
    rw [State.decState, State.fld, State.rd, hregs]
    rfl
  · exact hfails (by decide) (by decide) (decRun_step_wrong h)
  · subst hdir
    obtain ⟨r, hrun, hregs, hrcmd, hstep⟩ := decRun_step (s := s.cmdTaken d) (arg := arg) (m := m) (info := info) hsrc h (by rw [hof]; exact hclip) (by rw [hof]; exact hshown)
      (by rw [hof]; exact hback) h0 hp hpace
    refine decCmdDone_done hcmd hrun ((RegsBut.refl s _).congr hregs) (by rw [hrcmd, hof]) (fun t ht htof _ => ⟨ht.trans ?_, by rw [htof, hstep]⟩)
    rw [State.decState, State.fld, State.rd, hregs]
    exact h
  · exact hfails (by decide) (by decide) (decRun_stop_wrong h)
  · generalize ha : (s.cmdTaken d).setDec d { buf := ((s.cmdTaken d).decOf d).buf, count := ((s.cmdTaken d).decOf d).count } = a
    have haof : a.decOf d = { buf := (s.decOf d).buf, count := (s.decOf d).count } := by
      rw [← ha, State.decOf_setDec, hof]
    obtain ⟨hst, hregs, hrof⟩ := hstate (v := 0) a (by rw [← ha]; rfl) (by decide)
    have hidle : (s.cmdTaken d).decIdle d = a.setDecState d 0 := by rw [← ha]; rfl
    generalize a.setDecState d 0 = b at hst hregs hrof hidle
    generalize hr : b.setFld (DEC_S_STATUS d) DEC_S_STATUS_STOP_REASON 0 = r
    have hrregs : RegsBut s r [(DEC_S_STATUS d).off] := hr ▸ hregs.setFld _ _ _
    have hrof' : r.decOf d = b.decOf d := by
      rw [← hr]
      exact ((OnlyRegs.refl b).setFld (DEC_S_STATUS d) DEC_S_STATUS_STOP_REASON 0).field (State.decOf · d)
    have hrun : (s.cmdTaken d).decRun d 6 dir arg m info = (r, 0) := by
      rw [decRun_stop (s := s.cmdTaken d) h, hidle, hr]
    refine decCmdDone_done hcmd hrun hrregs (by rw [hrof', hrof, haof]) (fun t ht htof hstop => ⟨ht.trans ?_, hstop.trans ?_, ?_⟩)
    · rw [← hr]
      exact (State.fld_setFld_ne b (DEC_S_STATUS d) (f := DEC_S_STATUS_STOP_REASON) (g := DEC_S_STATUS_STATE) 0).trans hst
    · rw [← hr]
      exact State.fld_setFld_self b (DEC_S_STATUS d) DEC_S_STATUS_STOP_REASON 0
    · rw [htof, hrof', hrof, haof]

/-! ### Pictures of a ring source -/

section
variable {s : State} {d : Fin 4} {c : DecCoded} {i : DecInfo} {x : Nat × Nat}

theorem pictureDecoded_eq (hon : s.decOn d = true) (hstate : s.decState d ≠ 4) (hclip : (s.decOf d).clip = some (i, x)) {t : State} (ht : s.decNext d c = t) :
    exec (.decPictureDecoded d c) s = .next (s.settle t) := by
  refine congrArg Host.Outcome.next ((if_pos ?_).trans (by rw [ht]))
  rw [hon, hclip, bne_iff_ne.2 hstate]
  rfl

/-- What the next access unit of a ring makes of a session. -/
def State.unitTaken (s : State) (d : Nat) (c : DecCoded) : Option (Nat × Bool × Word × Nat) → State
  | none => s
  | some (next, whole, t, fl) => if whole then (s.wr (DEC_S_IN_RP d) (w32 next)).decPicture d c 0xFFFFFFFF t fl else s.wr (DEC_S_IN_RP d) (w32 next)

theorem decNext_ring (hclip : (s.decOf d).clip = some (i, x)) (hsrc : s.decRingSrc d = true) (hcodec : i.codec ≠ 1) :
    s.decNext d c = s.unitTaken d c (s.decUnit d ((s.rd (DEC_S_IN_SIZE d)).toNat / 64 + 1) (s.rd (DEC_S_IN_RP d)).toNat false) := by
  unfold State.decNext
  extract_lets +onlyGivenNames y
  split
  · next hz => exact absurd (hclip.symm.trans hz) (by simp)
  · next i' z hz =>
    obtain rfl : i' = i := (Prod.mk.inj (Option.some.inj (hz.symm.trans hclip))).1
    rw [if_pos hsrc]
    extract_lets +onlyGivenNames rp size
    rw [if_neg hcodec]
    rcases s.decUnit d (size / 64 + 1) rp false with _ | ⟨next, whole, t, fl⟩
    · rfl
    · rfl

/-- At the producer's pointer there is no unit. -/
theorem decUnit_empty (h : s.rd (DEC_S_IN_RP d) = s.rd (DEC_S_IN_WP d)) (n : Nat) : s.decUnit d (n + 1) (s.rd (DEC_S_IN_RP d)).toNat false = none :=
  if_pos (by rw [h, decide_eq_true rfl, Bool.or_true])

/-- A sound picture outside capability. -/
theorem decPicture_unsupported (hunsup : c.unsup = true) (hsyntax : c.syntaxErr = 0) (group tm : Word) (fl : Nat) :
    s.decPicture d c group tm fl = (s.inc (DEC_S_UNSUP d)).raise 651 0x0900 := by
  have hs : s.decSyntax d c.syntaxErr = s := if_pos hsyntax
  refine (if_pos hunsup).trans ?_
  rw [hs]

theorem decPicture_rasl (hunsup : c.unsup = false) (hsyntax : c.syntaxErr = 0) (hrasl : c.rasl = true) (group tm : Word) (fl : Nat) :
    s.decPicture d c group tm fl = s := by
  have hs : s.decSyntax d c.syntaxErr = s := if_pos hsyntax
  refine (if_neg (Bool.eq_false_iff.1 hunsup)).trans ((if_pos hrasl).trans hs)

/-- A picture that decodes without concealment awaits its output. -/
theorem decPicture_sound {group tm : Word} {fl : Nat} (hunsup : c.unsup = false) (hsyntax : c.syntaxErr = 0) (hrasl : c.rasl = false) (hmissing : c.missing = 0)
    (hctus : c.ctus = 0) (hrefs : c.refs = []) (hmarking : (s.decOf d).marking = false) :
    ∃ good marks size body w h, s.decPicture d c group tm fl =
      (((s.setDec d { s.decOf d with prev := concealPlanes c.chroma c.depth c.areas (s.decOf d).prev c.planes, good := good, marking := false, marks := marks }).wr
        (DEC_S_FMT d) (w32 (c.chroma + 4 * (if c.depth = 8 then 0 else if c.depth = 10 then 1 else 2) + 16 * b2n c.full + 256 * (c.matrix % 256)))).decReady d
        ⟨c.pos, wOfInt c.pos, group, tm, b2n (fl % 2 == 1), wOfInt c.poc, 0, w, h, size, body⟩) := by
  have hs : s.decSyntax d c.syntaxErr = s := if_pos hsyntax
  generalize hr : s.decPicture d c group tm fl = r
  unfold State.decPicture at hr
  simp only [hs, hunsup, hrasl, hmissing, hctus, hrefs, hmarking, Bool.and_false, Bool.false_eq_true, if_false, Nat.lt_irrefl, decide_false, List.any_nil, Bool.or_self,
    List.range_zero, List.foldl_nil, if_true] at hr
  have hflags : 2 * b2n false + 4 * b2n false + b2n (fl % 2 == 1 || 2 * b2n false + 4 * b2n false != 0) = b2n (fl % 2 == 1) := by
    cases fl % 2 == 1 <;> rfl
  rw [hflags] at hr
  rw [← hr]
  exact ⟨_, _, _, _, _, _, rfl⟩

/-- A picture of a ring that is ahead, paced by events, awaits its output. -/
theorem decReady_paced (hsrc : s.decRingSrc d = true) (hback : (s.decOf d).back = false) {o : DecOut} (hskip : (s.decOf d).skipTo ≤ o.pos)
    (hpace : s.fld (DEC_S_PACE d) DEC_S_PACE_MODE ≠ 0) : s.decReady d o = s.setDec d { s.decOf d with ready := readyInsert false o (s.decOf d).ready } := by
  have hno : (if (s.decOf d).back then decide ((s.decOf d).skipTo < o.pos) else decide (o.pos < (s.decOf d).skipTo)) = false := by
    rw [hback]
    exact decide_eq_false (not_lt.2 hskip)
  unfold State.decReady
  extract_lets +onlyGivenNames x skip r
  have hr : r = s.setDec d { s.decOf d with ready := readyInsert false o (s.decOf d).ready } := by
    show (if skip then s else s.setDec d { s.decOf d with ready := readyInsert (s.decOf d).back o (s.decOf d).ready }) = _
    rw [show skip = false from hno, hback]
    rfl
  rw [hr, decFetch_ring (s := s.setDec d _) hsrc, decFree_paced (s := s.setDec d _) hpace]

end

/-- The flag that a source unit passes on. -/
theorem b2n_odd (n : Nat) : b2n (n % 2 == 1) = n % 2 := by
  rcases Nat.mod_two_eq_zero_or_one n with h | h <;> rw [h] <;> rfl

theorem picturesAreDecoded : PicturesAreDecoded := by
  unfold PicturesAreDecoded
  intro d c v s i m e next fl whole tm
  have hd := d.isLt
  have htaken : s.decOn d = true → s.decState d ≠ 4 → (s.decOf d).clip = some (i, m, e) → s.decRingSrc d = true → i.codec ≠ 1 →
      ∀ {u}, s.decUnit d ((s.rd (DEC_S_IN_SIZE d)).toNat / 64 + 1) (s.rd (DEC_S_IN_RP d)).toNat false = u → exec (.decPictureDecoded d c) s = .next (s.settle (s.unitTaken d c u)) :=
    fun hon hstate hclip hsrc hcodec _ hu => pictureDecoded_eq hon hstate hclip ((decNext_ring hclip hsrc hcodec).trans (by rw [hu]))
  refine ⟨fun hreach => exec_hostDo hreach rfl, fun hnone => congrArg Host.Outcome.next (if_neg ?_), fun hon hstate hclip hsrc hcodec hrp => ?_,
    fun hon hstate hclip hsrc hcodec hunit => ?_⟩
  · rw [hnone]
    simp
  · rw [htaken hon hstate hclip hsrc hcodec (decUnit_empty hrp _)]
    exact congrArg Host.Outcome.next (State.settle_same rfl)
  have hexec := htaken hon hstate hclip hsrc hcodec hunit
  have hrun {r : State} (hw : whole = true) (hp : (s.wr (DEC_S_IN_RP d) (w32 next)).decPicture d c 0xFFFFFFFF tm fl = r) : exec (.decPictureDecoded d c) s = .next (s.settle r) :=
    hexec.trans (by rw [State.unitTaken, if_pos hw, hp])
  refine ⟨fun hw => ?_, fun hw hunsup hsyntax => ?_, fun hw hunsup hsyntax hrasl => ?_,
    fun hw hunsup hsyntax hrasl hmissing hctus hrefs hmarking hback hskip hpace => ?_⟩
  · rw [hexec, State.unitTaken, if_neg (by rw [hw]; decide)]
    exact congrArg Host.Outcome.next (State.settle_same rfl)
  · have hr := hrun hw (decPicture_unsupported hunsup hsyntax _ _ _)
    generalize ha : s.wr (DEC_S_IN_RP d) (w32 next) = a at hr
    generalize hu : a.inc (DEC_S_UNSUP d) = u at hr
    have harp : a.rd (DEC_S_IN_RP d) = w32 next := by rw [← ha, State.rd_wr_self]
    have haun : a.rd (DEC_S_UNSUP d) = s.rd (DEC_S_UNSUP d) := by
      rw [← ha, State.rd_wr_ne _ _ (by simp only [DEC_S_IN_RP, DEC_S_UNSUP]; omega)]
    have huun : u.rd (DEC_S_UNSUP d) = satAdd (s.rd (DEC_S_UNSUP d)) 1 := by rw [← hu, State.inc_eq, State.rd_wr_self, haun]
    have hurp : u.rd (DEC_S_IN_RP d) = w32 next := by
      rw [← hu, State.inc_eq, State.rd_wr_ne _ _ (by simp only [DEC_S_IN_RP, DEC_S_UNSUP]; omega), harp]
    have honly : OnlyRegs s u := hu ▸ (ha ▸ (OnlyRegs.refl s).wr _ _).inc _ _
    have hregs : RegsBut s u [(DEC_S_IN_RP d).off, (DEC_S_UNSUP d).off] :=
      hu ▸ (ha ▸ (RegsBut.refl s _).wr _ _ (by simp)).inc _ _ (by simp)
    have hkeeps {r : Reg} (h1 : r.off ≠ (EVT_R_CNT 651).off) (h2 : r.off ≠ (EVT_R_LAST 651).off) : (u.raise 651 0x0900 []).rd r = u.rd r := State.rd_raise _ _ _ _ h1 h2
    refine Runs.next (hr.trans (congrArg Host.Outcome.next (State.settle_raise _ _ _ honly.occ))) ⟨?_, ?_, ?_, (hregs.mono (by simp)).raise 651 _ _ (by simp), honly.regsOcc.raise _ _ _⟩
    · exact (hkeeps (by simp only [EVT_R_CNT, DEC_S_IN_RP]; omega) (by simp only [EVT_R_LAST, DEC_S_IN_RP]; omega)).trans hurp
    · exact (hkeeps (by simp only [EVT_R_CNT, DEC_S_UNSUP]; omega) (by simp only [EVT_R_LAST, DEC_S_UNSUP]; omega)).trans huun
    · exact State.raised_raise 651 _ [] honly.occ (hregs.rd (by simp only [EVT_R_CNT, DEC_S_IN_RP, DEC_S_UNSUP, List.mem_cons, List.not_mem_nil, or_false, not_or]; omega))
  · rw [hrun hw (decPicture_rasl hunsup hsyntax hrasl _ _ _)]
    exact congrArg Host.Outcome.next (State.settle_same rfl)
  · obtain ⟨good, marks, size, body, w, h, hpic⟩ := decPicture_sound (s := s.wr (DEC_S_IN_RP d) (w32 next)) (group := 0xFFFFFFFF) (tm := tm) (fl := fl)
      hunsup hsyntax hrasl hmissing hctus hrefs hmarking
    generalize ha : s.wr (DEC_S_IN_RP d) (w32 next) = a at hpic hrun
    have haframe : a = { s with regs := a.regs } := by rw [← ha]; rfl
    have hareg : RegsBut s a [(DEC_S_IN_RP d).off, (DEC_S_FMT d).off] := ha ▸ (RegsBut.refl s _).wr _ _ (by simp)
    have harp : a.rd (DEC_S_IN_RP d) = w32 next := by rw [← ha, State.rd_wr_self]
    have haof : a.decOf d = s.decOf d := by rw [haframe]; rfl
    have hapace : a.fld (DEC_S_PACE d) DEC_S_PACE_MODE = s.fld (DEC_S_PACE d) DEC_S_PACE_MODE := by
      rw [State.fld, State.fld, hareg.rd (by simp only [DEC_S_IN_RP, DEC_S_PACE, DEC_S_FMT, List.mem_cons, List.not_mem_nil, or_false, not_or]; omega)]
    generalize hx : { a.decOf d with
      prev := concealPlanes c.chroma c.depth c.areas (a.decOf d).prev c.planes, good := good, marking := false, marks := marks } = x at hpic
    generalize hk : w32 (c.chroma + 4 * (if c.depth = 8 then 0 else if c.depth = 10 then 1 else 2) + 16 * b2n c.full + 256 * (c.matrix % 256)) = k at hpic ⊢
    generalize hb : (a.setDec d x).wr (DEC_S_FMT d) k = b at hpic
    have hbframe : b = { s with regs := b.regs, dec := b.dec } := by rw [← hb, ← ha]; rfl
    have hbof : b.decOf d = x := by
      rw [← hb]
      exact State.decOf_setDec a d x
    have hbreg : RegsBut s b [(DEC_S_IN_RP d).off, (DEC_S_FMT d).off] := hb ▸ (hareg.congr (u := a.setDec d x) rfl).wr _ _ (by simp)
    have hbfmt : b.rd (DEC_S_FMT d) = k := by rw [← hb, State.rd_wr_self]
    have hbrp : b.rd (DEC_S_IN_RP d) = w32 next := by
      rw [← hb, State.rd_wr_ne _ _ (by simp only [DEC_S_IN_RP, DEC_S_FMT]; omega)]
      exact harp
    have hbpace : b.fld (DEC_S_PACE d) DEC_S_PACE_MODE ≠ 0 := by
      rw [State.fld, hbreg.rd (by simp only [DEC_S_IN_RP, DEC_S_PACE, DEC_S_FMT, List.mem_cons, List.not_mem_nil, or_false, not_or]; omega)]
      exact hpace
    have hbsrc : b.decRingSrc d = true := by
      rw [State.decRingSrc, State.bit, hbreg.rd (by simp only [DEC_S_IN_RP, DEC_S_CFG, DEC_S_FMT, List.mem_cons, List.not_mem_nil, or_false, not_or]; omega)]
      exact hsrc
    have hxback : x.back = false := by rw [← hx, haof]; exact hback
    have hxskip : x.skipTo = (s.decOf d).skipTo := by rw [← hx, haof]
    have hxready : x.ready = (s.decOf d).ready := by rw [← hx, haof]
    have hxprev : x.prev = concealPlanes c.chroma c.depth c.areas (s.decOf d).prev c.planes := by rw [← hx, haof]
    have hready {o : DecOut} (ho : o.pos = c.pos) : b.decReady d o = b.setDec d { x with ready := readyInsert false o x.ready } := by
      rw [decReady_paced hbsrc (by rw [hbof]; exact hxback) (by rw [hbof, hxskip, ho]; exact hskip) hbpace, hbof]
    rw [hready rfl] at hpic
    refine Runs.next ((hrun hw hpic).trans (congrArg Host.Outcome.next (State.settle_same (by rw [hbframe]; rfl)))) ⟨hbrp, ?_, ?_, hbfmt, hbreg.congr rfl, ?_⟩
    · rw [State.decOf_setDec]
      exact hxprev
    · rw [State.decOf_setDec, hxready]
      exact ⟨_, rfl, rfl, rfl, b2n_odd fl, rfl, rfl⟩
    · rw [hbframe]
      rfl

/-- Settles O38, by the rules of the operations and of a ring's units. -/
theorem playback : Obligations.Playback := ⟨sessionsAreCommanded, operationsEnd, picturesAreDecoded⟩

end Sys2Proof.Machine
end

section
/-! PROOFS. Audio ports: start and stop, frame syncs, slots, and the end of a stop ramp (R400 to R408). -/

-- One proof at a time: the text is compiled as one file in bounded memory.
set_option Elab.async false

namespace Sys2Proof.Machine
open Sys2Proof.Claims

theorem State.audOf_setAud (s : State) (p : Nat) (x : AudPort) : (s.setAud p x).audOf p = x := tabGet_set_self _ _ _ _

theorem State.audState_setAudState (s : State) (p : Nat) {v : Nat} (hv : v < 8) : (s.setAudState p v).audState p = v :=
  (State.fld_setFld_self s (AUD_P_STATUS p) ⟨2, 0⟩ v).trans (Nat.mod_eq_of_lt (show v < 2 ^ 3 from hv))

theorem State.audDir_setAudDir (s : State) (p d : Nat) (x : AudDir) : (s.setAudDir p d x).audDir p d = x := by
  unfold State.audDir State.setAudDir
  rw [State.audOf_setAud]
  by_cases h : d = 0 <;> simp [h]

/-- The other direction of a port stays. -/
theorem State.audDir_setAudDir_ne (s : State) (p : Nat) {d e : Nat} (x : AudDir) (hd : d < 2) (he : e < 2) (hne : e ≠ d) :
    (s.setAudDir p d x).audDir p e = s.audDir p e := by
  unfold State.audDir State.setAudDir
  rw [State.audOf_setAud]
  by_cases h : d = 0
  · simp [h, show e ≠ 0 by omega]
  · simp [h, show e = 0 by omega]

theorem State.setAudDir_frame (s : State) (p d : Nat) (x : AudDir) : s.setAudDir p d x = { s with aud := (s.setAudDir p d x).aud } := rfl

/-- Retargeting changes the ramps of a direction alone. -/
theorem State.audRetarget_eq (s : State) (p d : Nat) : ∃ ramps, s.audRetarget p d = s.setAudDir p d { s.audDir p d with ramps := ramps } := ⟨_, rfl⟩

theorem mem_audActive (s : State) (p d : Nat) : d ∈ s.audActive p ↔ d < 2 ∧ (s.audDir p d).active = true := by
  unfold State.audActive
  rw [List.mem_filter, List.mem_range]

theorem audActive_empty (s : State) (p : Nat) : (s.audActive p).isEmpty = true ↔ ∀ d, d < 2 → (s.audDir p d).active = false := by
  rw [List.isEmpty_iff, List.eq_nil_iff_forall_not_mem]
  refine forall_congr' fun d => ?_
  rw [mem_audActive, not_and, Bool.not_eq_true]

/-! ### START and STOP -/

/-- A direction told to ramp down. -/
def State.audRampDown (s : State) (p d : Nat) : State := (s.setAudDir p d { s.audDir p d with stopping := true }).audRetarget p d

theorem audRampDown_shows (s : State) (p : Nat) {d : Nat} (hd : d < 2) : s.audRampDown p d = { s with aud := (s.audRampDown p d).aud } ∧
    ((s.audRampDown p d).audDir p d).active = (s.audDir p d).active ∧ ((s.audRampDown p d).audDir p d).stopping = true ∧
    ∀ e, e < 2 → e ≠ d → (s.audRampDown p d).audDir p e = s.audDir p e := by
  unfold State.audRampDown
  obtain ⟨ramps, hr⟩ := (s.setAudDir p d { s.audDir p d with stopping := true }).audRetarget_eq p d
  rw [hr]
  refine ⟨rfl, ?_, ?_, fun e he hne => ?_⟩
  · rw [State.audDir_setAudDir, State.audDir_setAudDir]
  · rw [State.audDir_setAudDir, State.audDir_setAudDir]
  · rw [State.audDir_setAudDir_ne _ _ _ hd he hne, State.audDir_setAudDir_ne _ _ _ hd he hne]

theorem audRampsDown_shows (p : Nat) : ∀ (l : List Nat) (s : State), (∀ d ∈ l, d < 2) →
    l.foldl (fun s d => s.audRampDown p d) s = { s with aud := (l.foldl (fun s d => s.audRampDown p d) s).aud } ∧
    ∀ e, e < 2 → ((l.foldl (fun s d => s.audRampDown p d) s).audDir p e).active = (s.audDir p e).active ∧
      ((l.foldl (fun s d => s.audRampDown p d) s).audDir p e).stopping = (decide (e ∈ l) || (s.audDir p e).stopping)
  | [], s, _ => ⟨rfl, fun _ _ => ⟨rfl, rfl⟩⟩
  | d :: l, s, hl => by
    obtain ⟨hframe, hact, hstop, hother⟩ := audRampDown_shows s p (hl d (List.mem_cons_self ..))
    obtain ⟨hframes, hdirs⟩ := audRampsDown_shows p l (s.audRampDown p d) fun e he => hl e (List.mem_cons_of_mem _ he)
    rw [List.foldl_cons]
    refine ⟨hframes.trans (by rw [hframe]), fun e he => ?_⟩
    obtain ⟨h1, h2⟩ := hdirs e he
    rw [h1, h2]
    by_cases hed : e = d
    · subst hed
      exact ⟨hact, by rw [hstop, Bool.or_true, decide_eq_true (List.mem_cons_self ..), Bool.true_or]⟩
    · rw [hother e he hed]
      refine ⟨rfl, ?_⟩
      rw [show decide (e ∈ d :: l) = decide (e ∈ l) from decide_eq_decide.2 (by simp [hed])]

/-- A direction that idles. -/
theorem audIdle_shows (s : State) (p : Nat) {d : Nat} (hd : d < 2) {t : State} (ht : s.audIdle p d = t) :
    t.audDir p d = { mask := (s.audDir p d).mask, pend := (s.audDir p d).pend } ∧ t.audDir p (1 - d) = s.audDir p (1 - d) ∧
    t.rd (AUD_D_NA_PAIRS p d) = 0 ∧ (t.rd (AUD_D_STATUS p d)).getLsbD 0 = false ∧
    t.audState p = (if (s.audDir p (1 - d)).active then s.audState p else 0) ∧
    RegsBut s t [(AUD_D_NA_PAIRS p d).off, (AUD_D_STATUS p d).off, (AUD_P_STATUS p).off] ∧ t = { s with regs := t.regs, aud := t.aud } := by
  unfold State.audIdle at ht
  extract_lets +onlyGivenNames x a b c at ht
  have hcaud : c.aud = a.aud := ((OnlyRegs.refl a).wr (AUD_D_NA_PAIRS p d) 0 |>.setFld (AUD_D_STATUS p d) ⟨0, 0⟩ 0).field State.aud
  have hcdir (e : Nat) : c.audDir p e = a.audDir p e := by
    unfold State.audDir State.audOf
    rw [hcaud]
  have hself : c.audDir p d = { mask := x.mask, pend := x.pend } := (hcdir d).trans (State.audDir_setAudDir s p d _)
  have hother : c.audDir p (1 - d) = s.audDir p (1 - d) := (hcdir _).trans (State.audDir_setAudDir_ne s p _ hd (by omega) (by omega))
  have hregs : RegsBut s c [(AUD_D_NA_PAIRS p d).off, (AUD_D_STATUS p d).off, (AUD_P_STATUS p).off] :=
    (((RegsBut.refl s _).congr (u := a) rfl).wr _ _ (by simp)).setFld _ _ _ (by simp)
  have hpairs : c.rd (AUD_D_NA_PAIRS p d) = 0 := by
    refine (State.rd_setFld_ne b ⟨0, 0⟩ 0 (by simp only [AUD_D_NA_PAIRS, AUD_D_STATUS]; omega)).trans ?_
    exact State.rd_wr_self ..
  have hlow : (c.rd (AUD_D_STATUS p d)).getLsbD 0 = false := by
    show ((b.setFld (AUD_D_STATUS p d) ⟨0, 0⟩ 0).rd (AUD_D_STATUS p d)).getLsbD 0 = false
    rw [State.setFld_eq, State.rd_wr_self, Fld.put_getLsbD _ _ _ _ (by decide)]
    rfl
  have hstate : c.audState p = s.audState p := by
    have h : c.rd (AUD_P_STATUS p) = s.rd (AUD_P_STATUS p) :=
      (State.rd_setFld_ne b ⟨0, 0⟩ 0 (by simp only [AUD_P_STATUS, AUD_D_STATUS]; omega)).trans
        (State.rd_wr_ne a 0 (by simp only [AUD_D_NA_PAIRS, AUD_P_STATUS]; omega))
    rw [State.audState, h, State.audState]
  have hempty : (c.audActive p).isEmpty = true ↔ (s.audDir p (1 - d)).active = false := by
    rw [audActive_empty, ← hother]
    refine ⟨fun h => h _ (by omega), fun h e he => ?_⟩
    by_cases hed : e = d
    · rw [hed, hself]
    · rw [show e = 1 - d by omega]
      exact h
  by_cases hact : (s.audDir p (1 - d)).active = true
  · rw [if_neg (fun h => by rw [hempty.1 h] at hact; exact absurd hact (by decide))] at ht
    rw [← ht, if_pos hact]
    exact ⟨hself, hother, hpairs, hlow, hstate, hregs, rfl⟩
  · rw [if_pos (hempty.2 (Bool.eq_false_iff.2 hact))] at ht
    rw [← ht, if_neg hact]
    have hoff {q : Reg} (hq : q.off ≠ (AUD_P_STATUS p).off) : (c.setAudState p 0).rd q = c.rd q := State.rd_setFld_ne c _ _ hq
    refine ⟨hself, hother, ?_, ?_, State.audState_setAudState c p (by decide), hregs.setFld _ _ _ (by simp), rfl⟩
    · rw [hoff (by simp only [AUD_D_NA_PAIRS, AUD_P_STATUS]; omega)]
      exact hpairs
    · rw [hoff (by simp only [AUD_D_STATUS, AUD_P_STATUS]; omega)]
      exact hlow

/-- Directions that idle one after the other. -/
theorem audIdles_shows (p : Nat) : ∀ (l : List Nat) (s : State), (∀ d ∈ l, d < 2) →
    l.foldl (fun s d => s.audIdle p d) s = { s with regs := (l.foldl (fun s d => s.audIdle p d) s).regs, aud := (l.foldl (fun s d => s.audIdle p d) s).aud } ∧
    ∀ e, e < 2 → (s.audDir p e).active = false ∨ e ∈ l → ((l.foldl (fun s d => s.audIdle p d) s).audDir p e).active = false
  | [], s, _ => ⟨rfl, fun _ _ h => h.resolve_right (List.not_mem_nil)⟩
  | d :: l, s, hl => by
    have hd := hl d (List.mem_cons_self ..)
    obtain ⟨hself, hother, -, -, -, -, hframe⟩ := audIdle_shows s p hd rfl
    obtain ⟨hframes, hidle⟩ := audIdles_shows p l (s.audIdle p d) fun e he => hl e (List.mem_cons_of_mem _ he)
    rw [List.foldl_cons]
    refine ⟨hframes.trans (by rw [hframe]), fun e he h => hidle e he ?_⟩
    by_cases hed : e = d
    · rw [hed, hself]
      exact .inl rfl
    · have he' : (s.audIdle p d).audDir p e = s.audDir p e := by
        rw [show e = 1 - d by omega]
        exact hother
      rw [he']
      exact h.imp_right fun h => (List.mem_cons.1 h).resolve_left hed

theorem portsStartAndStop : PortsStartAndStop := by
  unfold PortsStartAndStop
  intro p s hreach
  have hstart {t : State} (h : s.audStart p = t) : exec (.audStart p) s = .next t := exec_hostDo hreach h
  have hstop {t : State} (h : s.audStop p = t) : exec (.audStop p) s = .next t := exec_hostDo hreach h
  refine ⟨fun hon hoff => hstart ?_, fun h => hstart ?_, fun h => hstop ?_, fun h hidle => hstop ?_, fun h hmove => ?_, fun h => ?_, fun h => hstop ?_⟩
  · refine if_pos ?_
    rw [hon, hoff]
    rfl
  · refine if_neg ?_
    rcases h with h | h
    · rw [h]
      simp
    · rw [beq_eq_false_iff_ne.2 h, Bool.and_false]
      decide
  · exact if_pos h
  · have hempty := (audActive_empty s p).2 hidle
    unfold State.audStop
    extract_lets +onlyGivenNames st
    rw [if_neg (show ¬ st = 1 from fun h' => absurd (h.symm.trans h') (by decide)), if_pos (show st = 2 from h), if_pos hempty]
    rfl
  · obtain ⟨d, hd, hact⟩ := hmove
    have hempty : ¬ (s.audActive p).isEmpty = true := fun hempty => by
      rw [(audActive_empty s p).1 hempty d hd] at hact
      exact absurd hact (by decide)
    have hrun : s.audStop p = (s.audActive p).foldl (fun s d => s.audRampDown p d) (s.setAudState p 3) := by
      unfold State.audStop
      extract_lets +onlyGivenNames st
      rw [if_neg (show ¬ st = 1 from fun h' => absurd (h.symm.trans h') (by decide)), if_pos (show st = 2 from h), if_neg hempty]
      rfl
    obtain ⟨hframe, hdirs⟩ := audRampsDown_shows p (s.audActive p) (s.setAudState p 3) fun e he => ((mem_audActive s p e).1 he).1
    rw [← hrun] at hframe hdirs
    generalize hu : s.setAudState p 3 = u at hframe hdirs
    have hstate : u.audState p = 3 := hu ▸ State.audState_setAudState s p (by decide)
    have hregs : RegsBut s u [(AUD_P_STATUS p).off] := hu ▸ (RegsBut.refl s _).setFld _ _ _
    have huframe : OnlyRegs s u := hu ▸ (OnlyRegs.refl s).setFld _ _ _
    have hudir (e : Nat) : u.audDir p e = s.audDir p e := huframe.field (State.audDir · p e)
    have htregs : (s.audStop p).regs = u.regs := by rw [hframe]
    refine Runs.next (hstop rfl) ⟨?_, fun e he => ?_, hregs.congr htregs, ?_⟩
    · rw [State.audState, State.rd, htregs]
      exact hstate
    · obtain ⟨h1, h2⟩ := hdirs e he
      rw [h1, h2, hudir]
      refine ⟨rfl, ?_⟩
      congr 1
      rw [← Bool.decide_coe (s.audDir p e).active]
      exact decide_eq_decide.2 ((mem_audActive s p e).trans (and_iff_right he))
    · rw [OnlyRegs] at huframe
      rw [hframe, huframe]
  · have hrun : s.audStop p = ((s.audActive p).foldl (fun s d => s.audIdle p d) s).setAudState p 0 := by
      unfold State.audStop
      extract_lets +onlyGivenNames st
      have hst : st = 4 := h
      rw [if_neg (by omega), if_neg (by omega), if_pos hst]
    obtain ⟨hframe, hidle⟩ := audIdles_shows p (s.audActive p) s fun e he => ((mem_audActive s p e).1 he).1
    generalize (s.audActive p).foldl (fun s d => s.audIdle p d) s = u at hframe hidle hrun
    refine Runs.next (hstop hrun) ⟨State.audState_setAudState u p (by decide), fun e he => (show _ = false from hidle e he ?_), ?_⟩
    · by_cases hact : (s.audDir p e).active = true
      · exact .inr ((mem_audActive s p e).2 ⟨he, hact⟩)
      · exact .inl (Bool.eq_false_iff.2 hact)
    · rw [hframe]
      rfl
  · unfold State.audStop
    extract_lets +onlyGivenNames st
    have hst : st = 0 ∨ st = 3 := h
    rw [if_neg (by omega), if_neg (by omega), if_neg (by omega)]

/-! ### Masks, mutes and positions -/

/-- Every entry of a table below a bound goes through a function of its index. -/
theorem tabGet_mapped {α : Type} [DecidableEq α] (d : α) (f : Nat → α → α) (t : Table α) : ∀ n i,
    tabGet ((List.range n).foldl (fun t i => tabSet t d i (f i (tabGet t d i))) t) d i = if i < n then f i (tabGet t d i) else tabGet t d i
  | 0, i => (if_neg (Nat.not_lt_zero i)).symm
  | n + 1, i => by
    rw [List.range_succ, List.foldl_append, List.foldl_cons, List.foldl_nil]
    by_cases h : i = n
    · subst h
      rw [tabGet_set_self, tabGet_mapped d f t i i, if_neg (Nat.lt_irrefl i), if_pos (Nat.lt_succ_self i)]
    · rw [tabGet_set_ne _ _ _ _ h, tabGet_mapped d f t n i]
      by_cases hlt : i < n
      · rw [if_pos hlt, if_pos (by omega)]
      · rw [if_neg hlt, if_neg (by omega)]

/-- Where the gain of a slot is told to go. -/
theorem audRetarget_ramp {s : State} {p d i : Nat} (hi : i < s.audSlots p) (hcut : s.audCut p d (s.audDir p d) i = false) :
    tabGet ((s.audRetarget p d).audDir p d).ramps {} i = (tabGet (s.audDir p d).ramps {} i).toward
      (!(s.audDir p d).stopping && !(decide (d = 1) && bitOf (s.rd (AUD_D_STATUS p d)) 0) && !bitOf (s.rd (AUD_D_MUTE p d)) i) (s.audRampLen p) := by
  unfold State.audRetarget
  rw [State.audDir_setAudDir]
  refine (tabGet_mapped {} (fun i (r : Ramp) => if s.audCut p d (s.audDir p d) i then {} else r.toward
    (!(s.audDir p d).stopping && !(decide (d = 1) && bitOf (s.rd (AUD_D_STATUS p d)) 0) && !bitOf (s.rd (AUD_D_MUTE p d)) i) (s.audRampLen p)) _ _ i).trans ?_
  rw [if_pos hi, if_neg (by rw [hcut]; decide)]

theorem slotsOfPorts : SlotsOfPorts := by
  unfold SlotsOfPorts
  intro p d v s
  have hp := p.isLt
  have hd := d.isLt
  refine ⟨fun hreach => ?_, fun hreach hstill => exec_hostDo hreach (if_neg ?_), fun hreach hact => ?_, fun hreach => exec_hostDo hreach rfl⟩
  · generalize hrun : s.audMaskWrite p d v = t
    generalize ha : s.wr (AUD_D_MASK p d) (v &&& 0xFFFF) = a
    generalize hx : { s.audDir p d with pend := some ((v &&& 0xFFFF).toNat, s.ticks) } = x
    generalize hb : a.setAudDir p d x = b
    have ht : b.setFld (AUD_D_STATUS p d) ⟨1, 1⟩ 1 = t := by
      rw [← hb, ← hx, ← ha, ← hrun]
      rfl
    have hamask : a.rd (AUD_D_MASK p d) = v &&& 0xFFFF := by rw [← ha, State.rd_wr_self]
    have haonly : OnlyRegs s a := ha ▸ (OnlyRegs.refl s).wr _ _
    have haregs : RegsBut s a [(AUD_D_MASK p d).off, (AUD_D_STATUS p d).off] := ha ▸ (RegsBut.refl s _).wr _ _ (by simp)
    have hbmask : b.rd (AUD_D_MASK p d) = v &&& 0xFFFF := by rw [← hb]; exact hamask
    have hbregs : RegsBut s b [(AUD_D_MASK p d).off, (AUD_D_STATUS p d).off] := haregs.congr (by rw [← hb]; rfl)
    have hbdir : b.audDir p d = x := by rw [← hb, State.audDir_setAudDir]
    refine Runs.next (exec_hostDo hreach hrun) ⟨?_, ?_, ?_, ht ▸ hbregs.setFld _ _ _ (by simp), ?_⟩
    · rw [← ht, State.rd_setFld_ne b _ _ (by simp only [AUD_D_MASK, AUD_D_STATUS]; omega)]
      exact hbmask
    · rw [← ht]
      exact (((OnlyRegs.refl b).setFld (AUD_D_STATUS p d) ⟨1, 1⟩ 1).field (State.audDir · p d)).trans hbdir
    · rw [← ht, State.setFld_eq, State.rd_wr_self, Fld.put_getLsbD _ _ _ _ (by decide)]
      rfl
    · rw [← ht, ← hb, ← ha]
      rfl
  · show ¬ (s.audDir p d).active = true
    rw [hstill]
    decide
  · generalize ha : s.wr (AUD_D_MUTE p d) (v &&& 0xFFFF) = a
    have haonly : OnlyRegs s a := ha ▸ (OnlyRegs.refl s).wr _ _
    have hadir : a.audDir p d = s.audDir p d := haonly.field (State.audDir · p d)
    have haregs : RegsBut s a [(AUD_D_MUTE p d).off] := ha ▸ (RegsBut.refl s _).wr _ _
    have hamute : a.rd (AUD_D_MUTE p d) = v &&& 0xFFFF := by rw [← ha, State.rd_wr_self]
    have hrd {r : Reg} (hr : r.off ≠ (AUD_D_MUTE p d).off) : a.rd r = s.rd r := by rw [← ha, State.rd_wr_ne _ _ hr]
    have hcfg : a.rd (AUD_P_CFG p) = s.rd (AUD_P_CFG p) := hrd (by simp only [AUD_P_CFG, AUD_D_MUTE]; omega)
    have hrun : s.audMuteWrite p d v = a.audRetarget p d := by
      unfold State.audMuteWrite
      rw [ha, if_pos (by rw [hadir]; exact hact)]
    obtain ⟨ramps, hramps⟩ := a.audRetarget_eq p d
    refine Runs.next (exec_hostDo hreach hrun) ⟨?_, fun i hi h16 hcut => ?_, ?_, ?_⟩
    · rw [hramps]
      exact hamute
    · have hslots : a.audSlots p = s.audSlots p := by
        rw [State.audSlots, State.fld, State.fld, hcfg, State.audSlots, State.fld, State.fld]
      have hlen : a.audRampLen p = s.audRampLen p := by
        rw [State.audRampLen, State.audFs, hrd (by simp only [AUD_P_FEATHER, AUD_D_MUTE]; omega), hrd (by simp only [AUD_P_FS, AUD_D_MUTE]; omega), State.audRampLen, State.audFs]
      have hcut' : a.audCut p d (a.audDir p d) i = false := by
        rw [hadir, State.audCut, State.bit, hrd (by simp only [AUD_D_CFG, AUD_D_MUTE]; omega)]
        exact hcut
      have hmute : bitOf (v &&& 0xFFFF) i = v.getLsbD i := by
        have hlow : ∀ i < 16, (0xFFFF : Word).getLsbD i = true := by decide
        rw [bitOf, BitVec.getLsbD_and, hlow i h16, Bool.and_true]
      rw [audRetarget_ramp (hslots ▸ hi) hcut', hadir, hlen, hamute, hmute, hrd (by simp only [AUD_D_STATUS, AUD_D_MUTE]; omega)]
      rfl
    · rw [hramps]
      exact haregs.congr rfl
    · rw [hramps, ← ha]
      rfl

/-! ### The end of a stop ramp -/

theorem rampsEnd : RampsEnd := by
  unfold RampsEnd
  intro p d s
  have hp := p.isLt
  have hd := d.isLt
  refine ⟨fun h => congrArg Host.Outcome.next (if_neg ?_), fun hact hstop hramps => ?_⟩
  · rcases h with h | h <;> rw [h] <;> simp
  generalize ha : s.raise 865 (audBid p) = a
  have hrun : exec (.audRampEnd p d) s = .next (s.settle (a.audIdle p d)) := congrArg Host.Outcome.next ((if_pos (by rw [hact, hstop, hramps]; rfl)).trans (by rw [ha]))
  have haonly : OnlyRegsOcc s a := ha ▸ (OnlyRegsOcc.refl s).raise _ _ _
  have haregs : RegsBut s a ((AUD_D_NA_PAIRS p d).off :: (AUD_D_STATUS p d).off :: (AUD_P_STATUS p).off :: evRegs 865) := ha ▸ (RegsBut.refl s _).raise 865 _ _ (fun o ho => by simp [ho])
  have haraised : Raised s a 865 (0x0D00 + p) 0 := ha ▸ Raised.of_raise s 865 _ []
  have hastate : a.audState p = s.audState p := by
    rw [← ha, State.audState, State.rd_raise _ _ _ _ (by simp only [AUD_P_STATUS, EVT_R_CNT]; omega) (by simp only [AUD_P_STATUS, EVT_R_LAST]; omega), State.audState]
  have hadir (e : Nat) : a.audDir p e = s.audDir p e := haonly.field (State.audDir · p e)
  obtain ⟨hself, hother, hpairs, hlow, hstate, hregs, hframe⟩ := audIdle_shows a p hd rfl
  generalize a.audIdle p d = u at hrun hself hother hpairs hlow hstate hregs hframe
  rw [hadir] at hself hother
  rw [hadir, hastate] at hstate
  have huocc : u.occ = a.occ := by rw [hframe]
  have hraised : Raised s u 865 (0x0D00 + p) 0 := haraised.later huocc hregs
    (by simp only [AUD_D_NA_PAIRS, AUD_D_STATUS, AUD_P_STATUS, EVT_R_CNT, List.mem_cons, List.not_mem_nil, or_false, not_or]; omega)
    (by simp only [AUD_D_NA_PAIRS, AUD_D_STATUS, AUD_P_STATUS, EVT_R_LAST, List.mem_cons, List.not_mem_nil, or_false, not_or]; omega)
  refine Runs.next hrun ⟨State.raised_settle hraised, hself, hother, hpairs, hlow, hstate, ((haregs.trans (hregs.mono (by simp))).congr rfl), ?_⟩
  rw [OnlyRegsOcc] at haonly
  rw [hframe, haonly]
  rfl

/-! ### Frame syncs -/

theorem audActive_rx {s : State} {p : Nat} (h0 : (s.audDir p 0).active = true) (h1 : (s.audDir p 1).active = false) : s.audActive p = [0] := by
  show List.filter (fun d => (s.audDir p d).active) [0, 1] = [0]
  rw [List.filter_cons_of_pos (by exact h0), List.filter_cons_of_neg (by rw [h1]; decide), List.filter_nil]

/-- What a receive direction's frame leaves: the port's place, the direction's movement, the other direction, the port's state, memory and time. -/
structure RxHeard (p : Nat) (s t : State) : Prop where
  frame : (t.audOf p).frame = (s.audOf p).frame
  block : (t.audOf p).block = (s.audOf p).block
  active : (t.audDir p 0).active = (s.audDir p 0).active
  pend : (t.audDir p 0).pend = (s.audDir p 0).pend
  frames : (t.audDir p 0).blk.frames = (s.audDir p 0).blk.frames
  other : t.audDir p 1 = s.audDir p 1
  status : t.rd (AUD_P_STATUS p) = s.rd (AUD_P_STATUS p)
  mem : t.mem = s.mem
  ticks : t.ticks = s.ticks

section
variable {p : Nat} {s t u : State}

theorem RxHeard.refl (s : State) : RxHeard p s s := ⟨rfl, rfl, rfl, rfl, rfl, rfl, rfl, rfl, rfl⟩

theorem RxHeard.trans (h : RxHeard p s t) (h' : RxHeard p t u) : RxHeard p s u :=
  ⟨h'.frame.trans h.frame, h'.block.trans h.block, h'.active.trans h.active, h'.pend.trans h.pend, h'.frames.trans h.frames, h'.other.trans h.other,
    h'.status.trans h.status, h'.mem.trans h.mem, h'.ticks.trans h.ticks⟩

/-- The receive direction set, with its movement and its block's frames as they are. -/
theorem RxHeard.setAudDir (h : RxHeard p s t) {x : AudDir} (ha : x.active = (t.audDir p 0).active) (hp : x.pend = (t.audDir p 0).pend)
    (hf : x.blk.frames = (t.audDir p 0).blk.frames) : RxHeard p s (t.setAudDir p 0 x) := by
  have hof : (t.setAudDir p 0 x).audOf p = { t.audOf p with rx := x } := State.audOf_setAud ..
  have hself := State.audDir_setAudDir t p 0 x
  refine h.trans ⟨by rw [hof], by rw [hof], by rw [hself, ha], by rw [hself, hp], by rw [hself, hf], ?_, rfl, rfl, rfl⟩
  exact State.audDir_setAudDir_ne t p x (by decide) (by decide) (by decide)

theorem RxHeard.audRetarget (h : RxHeard p s t) : RxHeard p s (t.audRetarget p 0) := by
  obtain ⟨ramps, hr⟩ := t.audRetarget_eq p 0
  rw [hr]
  exact h.setAudDir rfl rfl rfl

/-- Ports, memory and time as they are, and the port's state. -/
theorem RxHeard.of_aud (h : RxHeard p s t) (haud : u.aud = t.aud) (hst : u.rd (AUD_P_STATUS p) = t.rd (AUD_P_STATUS p)) (hmem : u.mem = t.mem)
    (hticks : u.ticks = t.ticks) : RxHeard p s u := by
  have hof : u.audOf p = t.audOf p := by rw [State.audOf, haud, State.audOf]
  have hdir (d : Nat) : u.audDir p d = t.audDir p d := by rw [State.audDir, hof, State.audDir]
  exact h.trans ⟨by rw [hof], by rw [hof], by rw [hdir], by rw [hdir], by rw [hdir], hdir 1, hst, hmem, hticks⟩

theorem RxHeard.wr (h : RxHeard p s t) (r : Reg) (v : Word) (hr : (AUD_P_STATUS p).off ≠ r.off) : RxHeard p s (t.wr r v) :=
  h.of_aud rfl (State.rd_wr_ne t v hr) rfl rfl

theorem RxHeard.raise (h : RxHeard p s t) (ev src : Nat) (items : List Word) (hev : ev < 1024) : RxHeard p s (t.raise ev src items) :=
  h.of_aud rfl (State.rd_raise _ _ _ _ (by simp only [AUD_P_STATUS, EVT_R_CNT]; omega) (by simp only [AUD_P_STATUS, EVT_R_LAST]; omega)) rfl rfl

theorem RxHeard.raiseOnce (h : RxHeard p s t) (ev key src : Nat) (items : List Word) (hev : ev < 1024) : RxHeard p s (t.raiseOnce ev key src items) := by
  unfold State.raiseOnce
  split
  · exact h
  · exact (h.of_aud (u := { t with roundFlags := (ev, key) :: t.roundFlags }) rfl rfl rfl rfl).raise ev src items hev

theorem RxHeard.foldl {α : Type} {f : State → α → State} (hf : ∀ u a, RxHeard p s u → RxHeard p s (f u a)) :
    ∀ (l : List α) {t : State}, RxHeard p s t → RxHeard p s (l.foldl f t)
  | [], _, h => h
  | a :: l, t, h => RxHeard.foldl hf l (hf t a h)

theorem RxHeard.audPair (h : RxHeard p s t) (f : List Word) (i : Nat) : RxHeard p s (t.audPair p 0 f i) := by
  have hpairs : (AUD_P_STATUS p).off ≠ (AUD_D_NA_PAIRS p 0).off := by simp only [AUD_P_STATUS, AUD_D_NA_PAIRS]; omega
  unfold State.audPair
  extract_lets +onlyGivenNames a b x cs bad pre q put
  have hput (q : NaPair) : RxHeard p s (put q) := h.setAudDir rfl rfl rfl
  split
  · extract_lets +onlyGivenNames n
    split
    · exact (((hput _).wr _ _ hpairs).raise 871 _ _ (by decide)).audRetarget
    · exact hput _
  · split
    · exact (((hput _).wr _ _ hpairs).raise 870 _ _ (by decide)).audRetarget
    · exact hput _

theorem RxHeard.audStamp (h : RxHeard p s t) (b : AudBlock) : RxHeard p s (t.audStamp p 0 b) := by
  have hoff (i : Nat) : (AUD_P_STATUS p).off ≠ (AUD_D_STAMP p 0 (b.num % 256 * 4 + i)).off := by simp only [AUD_P_STATUS, AUD_D_STAMP]; omega
  exact (((h.wr _ _ (hoff 0)).wr _ _ (hoff 1)).wr _ _ (hoff 2)).wr _ _ (hoff 3)

theorem RxHeard.audFlag (h : RxHeard p s t) (fl : Nat) : RxHeard p s (t.audFlag p 0 fl) := by
  unfold State.audFlag
  extract_lets +onlyGivenNames x b
  split
  · exact h
  · exact RxHeard.audStamp (h.setAudDir (x := { t.audDir p 0 with blk := { (t.audDir p 0).blk with flags := (t.audDir p 0).blk.flags ||| fl } }) rfl rfl rfl) _

theorem RxHeard.audFrame (h : RxHeard p s t) (f : List Word) : RxHeard p s (t.audFrame p 0 f).1 := by
  unfold State.audFrame
  extract_lets +onlyGivenNames n u x out ramping na ramps
  have hu : RxHeard p s u := RxHeard.foldl (fun _ i h => h.audPair f i) (List.range (n / 2)) h
  exact RxHeard.audFlag (hu.setAudDir (x := { x with ramps := ramps }) rfl rfl rfl) _

theorem RxHeard.setEmbed (h : RxHeard p s t) (n : Nat) (a : ScnAud) : RxHeard p s (t.setEmbed n a) := h.of_aud rfl rfl rfl rfl

theorem RxHeard.embedFrame (h : RxHeard p s t) (q : Nat) (f : List Word) : RxHeard p s (t.embedFrame q f) := by
  unfold State.embedFrame
  refine RxHeard.foldl (fun u n hu => ?_) _ h
  extract_lets +onlyGivenNames a
  split
  · split
    · exact hu
    · exact hu.setEmbed n _
  · extract_lets +onlyGivenNames b
    split
    · extract_lets +onlyGivenNames c
      split
      · have hslip : (AUD_P_STATUS p).off ≠ (SCN_AUD_SLIP n).off := by simp only [AUD_P_STATUS, SCN_AUD_SLIP]; omega
        exact ((hu.setEmbed n _).wr _ _ hslip).raiseOnce 443 _ _ _ (by decide)
      · exact hu.setEmbed n _
    · exact hu.setEmbed n _

end

/-- A frame that is not the last of its block is heard. -/
theorem audRxEnd_shows {s : State} {p : Nat} (hact : (s.audDir p 0).active = true) (hframe : (s.audOf p).frame < 63) (rx : List Word) (serve : Bool) {t : State}
    (ht : s.audRxEnd p rx serve = t) : (t.audOf p).frame = (s.audOf p).frame ∧ (t.audOf p).block = (s.audOf p).block ∧ (t.audDir p 0).active = true ∧
      (t.audDir p 0).pend = (s.audDir p 0).pend ∧ (t.audDir p 0).blk.frames = (s.audDir p 0).blk.frames ++ [(s.audFrame p 0 rx).2] ∧ t.audDir p 1 = s.audDir p 1 ∧
      t.rd (AUD_P_STATUS p) = s.rd (AUD_P_STATUS p) ∧ t.mem = s.mem ∧ t.ticks = s.ticks := by
  unfold State.audRxEnd at ht
  rw [if_neg (by rw [hact]; decide)] at ht
  have hu : RxHeard p s (s.audFrame p 0 rx).1 := (RxHeard.refl s).audFrame rx
  rcases hf : s.audFrame p 0 rx with ⟨u, out⟩
  rw [hf] at ht hu
  dsimp -zeta only at ht
  extract_lets +onlyGivenNames x blk a b at ht
  have hadir : a.audDir p 0 = { x with blk := { x.blk with frames := x.blk.frames ++ [out] } } := State.audDir_setAudDir u p 0 _
  have haother : a.audDir p 1 = u.audDir p 1 := State.audDir_setAudDir_ne u p _ (by decide) (by decide) (by decide)
  have haof : a.audOf p = { u.audOf p with rx := { x with blk := { x.blk with frames := x.blk.frames ++ [out] } } } := State.audOf_setAud ..
  have hb : RxHeard p a b := (RxHeard.refl a).embedFrame p _
  have hbframe : (b.audOf p).frame = (s.audOf p).frame := by rw [hb.frame, haof, hu.frame]
  rw [if_neg (by rw [hbframe]; omega)] at ht
  subst ht
  refine ⟨hbframe, by rw [hb.block, haof, hu.block], ?_, ?_, ?_, by rw [hb.other, haother, hu.other], hb.status.trans hu.status, hb.mem.trans hu.mem, hb.ticks.trans hu.ticks⟩
  · rw [hb.active, hadir]
    exact hu.active.trans hact
  · rw [hb.pend, hadir]
    exact hu.pend
  · rw [hb.frames, hadir]
    exact congrArg (· ++ [out]) hu.frames

/-- The blocks that begin with a frame. -/
def State.audBlocks (s : State) (p : Nat) (fetched : Bool) (ds : List Nat) : State :=
  if (s.audOf p).frame = 0 then
    let s := ds.foldl (fun s d => s.audBlockStart p d fetched) s
    let s := s.setAud p { s.audOf p with disc := false }
    let c := s.rd (AUD_P_CFG p)
    if bitOf c 20 then s.wr (AUD_G_BLOCK (AUD_P_CFG_GROUP.get c)) (w32 (s.audOf p).block) else s
  else s

/-- The transmit frame that leaves. -/
def State.audLeave (s : State) (p : Nat) : State :=
  if (s.audDir p 1).active then
    let f := (s.audDir p 1).blk.frames.getD (s.audOf p).frame []
    let (s, out) := s.audFrame p 1 f
    s.emit (.audioFrame p out)
  else s

/-- The port at a frame sync. -/
def State.audSynced (s : State) (p : Nat) : State := s.setAud p { s.audOf p with last := s.ticks }

theorem audBegin_eq (s : State) (p : Nat) (fetched : Bool) : s.audBegin p fetched =
    ((((s.audSynced p).audActive p).foldl (fun s d => s.audMaskApply p d) (s.audSynced p)).audBlocks p fetched ((s.audSynced p).audActive p)).audLeave p := rfl

theorem audMaskApply_none {s : State} {p d : Nat} (h : (s.audDir p d).pend = none) : s.audMaskApply p d = s := by
  unfold State.audMaskApply
  extract_lets +onlyGivenNames x
  rw [show x.pend = none from h]

theorem audOf_audSynced (s : State) (p : Nat) : (s.audSynced p).audOf p = { s.audOf p with last := s.ticks } := State.audOf_setAud ..

theorem audDir_audSynced (s : State) (p d : Nat) : (s.audSynced p).audDir p d = s.audDir p d := by
  rw [State.audDir, audOf_audSynced]
  rfl

/-- A frame of a port that receives only and has no mask waiting. -/
theorem audBegin_rx {s : State} {p : Nat} (h0 : (s.audDir p 0).active = true) (h1 : (s.audDir p 1).active = false) (hpend : (s.audDir p 0).pend = none)
    (fetched : Bool) : s.audBegin p fetched = ((s.audSynced p).audBlocks p fetched [0]).audLeave p := by
  have hdir := audDir_audSynced s p
  have hds : (s.audSynced p).audActive p = [0] := audActive_rx ((hdir 0).symm ▸ h0) ((hdir 1).symm ▸ h1)
  rw [audBegin_eq, hds, List.foldl_cons, List.foldl_nil, audMaskApply_none (by rw [hdir]; exact hpend)]

/-- A port that does not transmit sends nothing. -/
theorem audLeave_rx {s : State} {p : Nat} (h1 : (s.audDir p 1).active = false) : s.audLeave p = s := if_neg (by rw [h1]; decide)

/-- A frame in the middle of a block begins on a port that receives only. -/
theorem audBegin_mid {s : State} {p : Nat} (h0 : (s.audDir p 0).active = true) (h1 : (s.audDir p 1).active = false) (hpend : (s.audDir p 0).pend = none)
    (hframe : (s.audOf p).frame ≠ 0) (fetched : Bool) : s.audBegin p fetched = s.setAud p { s.audOf p with last := s.ticks } := by
  have hblocks : (s.audSynced p).audBlocks p fetched [0] = s.audSynced p := if_neg (by rw [audOf_audSynced]; exact hframe)
  rw [audBegin_rx h0 h1 hpend, hblocks, audLeave_rx (by rw [audDir_audSynced]; exact h1)]
  rfl

theorem frameSyncs : FrameSyncs := by
  unfold FrameSyncs
  intro p width rx serve fetched s
  have hp := p.isLt
  have hidle (h : (!s.audOn p || (!s.bit (AUD_P_CFG p) AUD_P_CFG_MASTER && width < 2)) = true) : exec (.audFrameSync p width rx serve fetched) s = .next s := by
    have hrun : s.audSync p width rx serve fetched = s := if_pos h
    exact congrArg Host.Outcome.next ((congrArg s.settle hrun).trans (State.settle_same rfl))
  refine ⟨fun hslave hw => hidle ?_, fun hoff => hidle ?_, fun hmaster hst => ?_, fun hon hmaster hst h0 h1 hpend hframe => ?_, fun hon hslave hst => ?_, fun h => ?_⟩
  · rw [hslave, decide_eq_true hw]
    simp
  · rw [hoff]
    rfl
  · by_cases hon : s.audOn p = true
    · have hrun : s.audSync p width rx serve fetched = s := by
        unfold State.audSync
        extract_lets +onlyGivenNames slave a st
        have ha : a = s := if_neg (show ¬ (!s.bit (AUD_P_CFG p) AUD_P_CFG_MASTER) = true by rw [hmaster]; decide)
        have hst' : st < 2 := by
          show a.audState p < 2
          rw [ha]
          exact hst
        rw [if_neg (by simp [slave, hon, hmaster]), if_neg (by omega), if_neg (by simp; omega), ha]
      exact congrArg Host.Outcome.next ((congrArg s.settle hrun).trans (State.settle_same rfl))
    · exact hidle (by rw [Bool.eq_false_iff.2 hon]; rfl)
  · generalize ha : s.audRxEnd p rx serve = a
    obtain ⟨hfr, hbl, hact, hpe, hfrs, hoth, hstat, hmem, hticks⟩ := audRxEnd_shows h0 (by omega) rx serve ha
    generalize hb : a.setAud p { a.audOf p with frame := (a.audOf p).frame + 1 } = b
    have hbof : b.audOf p = { a.audOf p with frame := (a.audOf p).frame + 1 } := by rw [← hb, State.audOf_setAud]
    have hbdir (d : Nat) : b.audDir p d = a.audDir p d := by
      rw [State.audDir, hbof]
      rfl
    have hadv : a.audAdvance p = b := by
      unfold State.audAdvance
      extract_lets +onlyGivenNames x
      rw [if_neg (show ¬ (a.audOf p).frame = 63 by rw [hfr]; omega), ← hb]
    have hrun : s.audSync p width rx serve fetched = b.setAud p { b.audOf p with last := b.ticks } := by
      unfold State.audSync
      extract_lets +onlyGivenNames slave s' st a' x
      have hs : s' = s := if_neg (show ¬ (!s.bit (AUD_P_CFG p) AUD_P_CFG_MASTER) = true by rw [hmaster]; decide)
      have hst' : st = 2 := by
        show s'.audState p = 2
        rw [hs]
        exact hst
      have ha' : a' = a := by
        show s'.audRxEnd p rx serve = a
        rw [hs, ha]
      rw [if_neg (by simp [slave, hon, hmaster]), if_neg (by omega), if_pos (by simp [hst']), if_neg (by simp [slave, hmaster]), ha', hadv,
        audBegin_mid (by rw [hbdir]; exact hact) (by rw [hbdir, hoth]; exact h1) (by rw [hbdir, hpe]; exact hpend) (by rw [hbof]; exact Nat.succ_ne_zero _)]
    have hticks' : b.ticks = s.ticks := by
      rw [← hb]
      exact hticks
    generalize hc : b.setAud p { b.audOf p with last := b.ticks } = c at hrun
    have hcof : c.audOf p = { b.audOf p with last := b.ticks } := by rw [← hc, State.audOf_setAud]
    refine Runs.next (congrArg Host.Outcome.next (congrArg s.settle hrun)) ?_
    have htof : (s.settle c).audOf p = c.audOf p := rfl
    have htdir : ((s.settle c).audDir p 0) = a.audDir p 0 := by
      rw [← hbdir]
      show (c.audOf p).rx = (b.audOf p).rx
      rw [hcof]
    refine ⟨?_, ?_, ?_, ?_, ?_, fun x => ?_⟩
    · rw [htof, hcof, hbof, ← hfr]
    · rw [htof, hcof, hbof]
      exact hbl
    · rw [htof, hcof, hticks']
    · rw [State.audState, State.rd_settle, show c.rd (AUD_P_STATUS p) = a.rd (AUD_P_STATUS p) by rw [← hc, ← hb]; rfl, hstat]
      exact hst
    · rw [htdir, hfrs]
    · show c.mem x = s.mem x
      rw [← hc, ← hb, ← hmem]
      rfl
  · generalize hu : s.setAud p { s.audOf p with good := 0, lostAt := s.ticks } = u
    generalize hv : u.setAudState p 4 = v
    have hrun : exec (.audFsTimeout p) s = .next (v.raise 869 (audBid p) [w32 2]) := by
      refine congrArg Host.Outcome.next ((if_pos ?_).trans ?_)
      · rw [hon, hslave]
        rcases hst with h | h <;> rw [h] <;> rfl
      · rw [← hv, ← hu]
        rfl
    have hvocc : v.occ = s.occ := by rw [← hv, ← hu]; rfl
    have hvregs : RegsBut s v [(AUD_P_STATUS p).off] := hv ▸ ((RegsBut.refl s _).congr (by rw [← hu]; rfl)).setFld _ _ _
    have hvstate : v.audState p = 4 := hv ▸ State.audState_setAudState u p (by decide)
    have hvof : v.audOf p = { s.audOf p with good := 0, lostAt := s.ticks } := by
      rw [← hv]
      refine (((OnlyRegs.refl u).setFld (AUD_P_STATUS p) ⟨2, 0⟩ 4).field (State.audOf · p)).trans ?_
      rw [← hu, State.audOf_setAud]
    refine Runs.next hrun ⟨?_, State.raised_raise 869 _ _ hvocc (hvregs.rd (by simp only [EVT_R_CNT, AUD_P_STATUS, List.mem_singleton]; omega)), hvof,
      (hvregs.mono (by simp)).raise 869 _ _ (fun o ho => by simp [ho]), ?_⟩
    · rw [State.audState, State.rd_raise _ _ _ _ (by simp only [AUD_P_STATUS, EVT_R_CNT]; omega) (by simp only [AUD_P_STATUS, EVT_R_LAST]; omega)]
      exact hvstate
    · rw [← hv, ← hu]
      rfl
  · refine congrArg Host.Outcome.next (if_neg ?_)
    rcases h with h | h <;> rw [h] <;> simp

/-! ### A port alone starts -/

/-- The port's record as it starts at block 0. -/
def AudPort.started (a : AudPort) : AudPort := { times := a.times, rx := { mask := a.rx.mask, pend := a.rx.pend }, tx := { mask := a.tx.mask, pend := a.tx.pend } }

/-- A direction in use starts to move. -/
def State.audDirRun (s : State) (p d : Nat) : State :=
  if s.audDirOn p d then
    let s := s.wr (AUD_D_NA_PAIRS p d) 0
    let s := if d = 0 then s.wr (AUD_D_WP p 0) (w32 0) else s
    (s.setAudDir p d { s.audDir p d with active := true }).audRetarget p d
  else s

theorem audRun_eq (s : State) (p : Nat) (fetched : Bool) : s.audRun p 0 fetched =
    ((((((s.setAud p (s.audOf p).started).audDirRun p 0).audDirRun p 1).setAudState p 2).raise 864 (audBid p)
      [(((((s.setAud p (s.audOf p).started).audDirRun p 0).audDirRun p 1).setAudState p 2)).ns]).audBegin p fetched) := rfl

/-- The registers that a start of the receive direction writes. -/
def audStartRegs (p : Nat) : List Nat := [(AUD_D_NA_PAIRS p 0).off, (AUD_D_WP p 0).off]

theorem audOf_setAudDir_rx (s : State) (p : Nat) (x : AudDir) : (s.setAudDir p 0 x).audOf p = { s.audOf p with rx := x } := State.audOf_setAud ..

/-- A receive direction alone that is set to run from block 0. -/
theorem audDirsRun_rx {s : State} {p : Nat} (h0 : s.audDirOn p 0 = true) (h1 : s.audDirOn p 1 = false) {t : State}
    (ht : ((s.setAud p (s.audOf p).started).audDirRun p 0).audDirRun p 1 = t) :
    (t.audOf p).frame = 0 ∧ (t.audOf p).block = 0 ∧ (t.audDir p 0).active = true ∧ (t.audDir p 0).pend = (s.audDir p 0).pend ∧ (t.audDir p 1).active = false ∧
      t.rd (AUD_D_WP p 0) = 0 ∧ RegsBut s t (audStartRegs p) ∧ t = { s with regs := t.regs, aud := t.aud } := by
  generalize ha : s.setAud p (s.audOf p).started = a at ht
  generalize hb : (a.wr (AUD_D_NA_PAIRS p 0) 0).wr (AUD_D_WP p 0) (w32 0) = b
  obtain ⟨ramps, hr⟩ := (b.setAudDir p 0 { b.audDir p 0 with active := true }).audRetarget_eq p 0
  generalize hc : (b.setAudDir p 0 { b.audDir p 0 with active := true }).audRetarget p 0 = c at hr
  have haof : a.audOf p = (s.audOf p).started := by rw [← ha, State.audOf_setAud]
  have hbof : b.audOf p = (s.audOf p).started := by
    rw [← haof, ← hb]
    rfl
  have hbregs : RegsBut s b (audStartRegs p) := hb ▸ ((((RegsBut.refl s _).congr (by rw [← ha]; rfl)).wr _ _ (by simp [audStartRegs])).wr _ _ (by simp [audStartRegs]))
  have hcregs : RegsBut s c (audStartRegs p) := hbregs.congr (by rw [hr]; rfl)
  have hcof : c.audOf p = { (s.audOf p).started with rx := { (s.audOf p).started.rx with active := true, ramps := ramps } } := by
    rw [hr, audOf_setAudDir_rx, audOf_setAudDir_rx, State.audDir_setAudDir, ← hbof]
    rfl
  have hcon : c.audDirOn p 1 = false := by
    rw [State.audDirOn, State.bit, hcregs.rd (by simp only [audStartRegs, AUD_D_CFG, AUD_D_NA_PAIRS, AUD_D_WP, List.mem_cons, List.not_mem_nil, or_false, not_or]; omega)]
    exact h1
  have h0' : a.audDirOn p 0 = true := by rw [← ha]; exact h0
  have hac : a.audDirRun p 0 = c := by
    rw [← hc, ← hb]
    exact if_pos h0'
  have hct : c = t := by
    rw [← ht, hac]
    exact (if_neg (by rw [hcon]; decide)).symm
  rw [← hct]
  refine ⟨by rw [hcof]; rfl, by rw [hcof]; rfl, by rw [State.audDir, hcof]; rfl, by rw [State.audDir, hcof]; rfl, by rw [State.audDir, hcof]; rfl, ?_, hcregs, ?_⟩
  · rw [show c.rd (AUD_D_WP p 0) = b.rd (AUD_D_WP p 0) by rw [hr]; rfl, ← hb, State.rd_wr_self]
    rfl
  · rw [hr, ← hb, ← ha]
    rfl

/-- The block that begins now. -/
def State.audNewBlock (s : State) (p d : Nat) : AudBlock :=
  { num := (s.audOf p).block, ns := s.ns, frac := s.frac.toNat / 16777216, mask := (s.audDir p d).mask, flags := 2 * b2n (s.audOf p).disc }

theorem audBlockStart_eq (s : State) (p : Nat) (fetched : Bool) : s.audBlockStart p 0 fetched =
    (((s.setAudDir p 0 { s.audDir p 0 with blk := s.audNewBlock p 0 }).wr (AUD_D_BLOCK p 0) (w32 (s.audOf p).block)).audStamp p 0 (s.audNewBlock p 0)) := rfl

/-- The stamp of a block of number 0. -/
theorem audStamp_zero {s : State} {p : Nat} {b : AudBlock} (hnum : b.num = 0) (hfrac : b.frac < 256) {t : State} (ht : s.audStamp p 0 b = t) :
    t.rd (AUD_D_STAMP p 0 0) = 0 ∧ t.rd (AUD_D_STAMP p 0 1) = b.ns ∧ t.rd (AUD_D_STAMP p 0 3) = w32 b.frac ∧ OnlyRegs s t ∧
      RegsBut s t [(AUD_D_STAMP p 0 0).off, (AUD_D_STAMP p 0 1).off, (AUD_D_STAMP p 0 2).off, (AUD_D_STAMP p 0 3).off] := by
  unfold State.audStamp at ht
  rw [hnum, Nat.mod_eq_of_lt hfrac] at ht
  have hne {i j : Nat} (h : i ≠ j) : (AUD_D_STAMP p 0 i).off ≠ (AUD_D_STAMP p 0 j).off := by simp only [AUD_D_STAMP]; omega
  rw [← ht]
  refine ⟨?_, ?_, ?_, (((((OnlyRegs.refl s).wr _ _).wr _ _).wr _ _).wr _ _),
    (((((RegsBut.refl s _).wr _ _ (by simp)).wr _ _ (by simp)).wr _ _ (by simp)).wr _ _ (by simp))⟩
  · rw [State.rd_wr_ne _ _ (hne (by decide)), State.rd_wr_ne _ _ (hne (by decide)), State.rd_wr_ne _ _ (hne (by decide))]
    exact State.rd_wr_self ..
  · rw [State.rd_wr_ne _ _ (hne (by decide)), State.rd_wr_ne _ _ (hne (by decide))]
    exact State.rd_wr_self ..
  · exact State.rd_wr_self ..

/-- Block 0 of the receive direction begins. -/
theorem audBlockStart_rx {s : State} {p : Nat} (hblock : (s.audOf p).block = 0) (hact : (s.audDir p 0).active = true) {fetched : Bool} {t : State}
    (ht : s.audBlockStart p 0 fetched = t) : (t.audOf p).frame = (s.audOf p).frame ∧ (t.audOf p).block = 0 ∧ (t.audOf p).last = (s.audOf p).last ∧
      (t.audDir p 0).active = true ∧ t.audDir p 1 = s.audDir p 1 ∧ t.rd (AUD_D_BLOCK p 0) = 0 ∧ t.rd (AUD_D_STAMP p 0 0) = 0 ∧ t.rd (AUD_D_STAMP p 0 1) = s.ns ∧
      t.rd (AUD_D_STAMP p 0 3) = w32 (s.frac.toNat / 16777216) ∧
      RegsBut s t [(AUD_D_BLOCK p 0).off, (AUD_D_STAMP p 0 0).off, (AUD_D_STAMP p 0 1).off, (AUD_D_STAMP p 0 2).off, (AUD_D_STAMP p 0 3).off] ∧
      t = { s with regs := t.regs, aud := t.aud } := by
  rw [audBlockStart_eq] at ht
  generalize hb : s.audNewBlock p 0 = b at ht
  generalize ha : (s.setAudDir p 0 { s.audDir p 0 with blk := b }).wr (AUD_D_BLOCK p 0) (w32 (s.audOf p).block) = a at ht
  have haof : a.audOf p = { s.audOf p with rx := { s.audDir p 0 with blk := b } } := by
    rw [← ha]
    exact audOf_setAudDir_rx s p _
  have habl : a.rd (AUD_D_BLOCK p 0) = 0 := by
    rw [← ha, State.rd_wr_self, hblock]
    rfl
  have haregs : RegsBut s a [(AUD_D_BLOCK p 0).off] := ha ▸ ((RegsBut.refl s _).congr rfl).wr _ _
  have hfrac : b.frac = s.frac.toNat / 16777216 := by rw [← hb]; rfl
  have hlt : s.frac.toNat < 4294967296 := s.frac.isLt
  obtain ⟨h0, h1, h3, honly, hregs⟩ := audStamp_zero (by rw [← hb]; exact hblock) (by rw [hfrac]; omega) ht
  have htof : t.audOf p = a.audOf p := honly.field (State.audOf · p)
  refine ⟨by rw [htof, haof], by rw [htof, haof]; exact hblock, by rw [htof, haof], ?_, ?_, ?_, h0, ?_, ?_, (haregs.mono (by simp)).trans (hregs.mono (by simp)), ?_⟩
  · rw [State.audDir, htof, haof]
    exact hact
  · rw [State.audDir, htof, haof]
    rfl
  · rw [hregs.rd (by simp only [AUD_D_BLOCK, AUD_D_STAMP, List.mem_cons, List.not_mem_nil, or_false, not_or]; omega)]
    exact habl
  · rw [h1, ← hb]
    rfl
  · rw [h3, hfrac]
  · rw [OnlyRegs] at honly
    rw [honly, ← ha]
    rfl

/-- A first frame of a port that receives only and stands in no group. -/
theorem audBlocks_first {s : State} {p : Nat} (hframe : (s.audOf p).frame = 0) {u : State} (fetched : Bool) (hu : s.audBlockStart p 0 fetched = u)
    (hgroup : (u.rd (AUD_P_CFG p)).getLsbD 20 = false) : s.audBlocks p fetched [0] = u.setAud p { u.audOf p with disc := false } := by
  refine (if_pos hframe).trans ?_
  rw [List.foldl_cons, List.foldl_nil, hu]
  exact if_neg (by
    show ¬ (u.rd (AUD_P_CFG p)).getLsbD 20 = true
    rw [hgroup]
    decide)

theorem audFirstSync_alone {s : State} {p : Nat} (hon : s.audOn p = true) (hwait : s.audState p = 1) (hgroup : (s.rd (AUD_P_CFG p)).getLsbD 20 = false)
    (htrig : (s.rd (AUD_P_CFG p)).getLsbD 21 = true → (s.audOf p).trig = true) (fetched : Bool) : s.audFirstSync p fetched = s.audRun p 0 fetched := by
  have hms : s.audMembers p = [p] := if_pos (by
    show (!(s.rd (AUD_P_CFG p)).getLsbD 20) = true
    rw [hgroup]
    rfl)
  unfold State.audFirstSync
  extract_lets +onlyGivenNames c ms
  have hms' : ms = [p] := hms
  rw [hms', if_neg, List.find?_cons_of_neg (by rw [hwait]; decide), List.find?_nil]
  · show (([p].filter fun q => s.audState q == 1).foldl (fun s q => s.audRun q 0 fetched) s) = _
    rw [List.filter_cons_of_pos (by rw [hwait]; rfl)]
    rfl
  · rw [hon, hwait]
    intro h
    have h' : ((s.rd (AUD_P_CFG p)).getLsbD 21 && !(s.audOf p).trig) = true := h
    rw [Bool.and_eq_true, Bool.not_eq_true'] at h'
    rw [htrig h'.1] at h'
    exact absurd h'.2 (by decide)

theorem portsRun : PortsRun := by
  unfold PortsRun
  intro p fetched s
  have hp := p.isLt
  refine ⟨fun h => ?_, fun hon hwait hgroup htrig h0 h1 hpend => ?_⟩
  · have hrun : s.audFirstSync p fetched = s := by
      refine if_pos ?_
      rcases h with h | h | ⟨h, h'⟩
      · rw [h]
        rfl
      · rw [bne_iff_ne.2 h, Bool.or_true, Bool.true_or]
      · rw [h', show bitOf (s.rd (AUD_P_CFG p)) 21 = true from h, Bool.not_false, Bool.and_true, Bool.or_true]
    exact congrArg Host.Outcome.next ((congrArg s.settle hrun).trans (State.settle_same rfl))
  have hrun := audRun_eq s p fetched
  generalize ha : ((s.setAud p (s.audOf p).started).audDirRun p 0).audDirRun p 1 = a at hrun
  obtain ⟨hfr, hbl, hact, hpe, hoth, hwp, haregs, haframe⟩ := audDirsRun_rx h0 h1 ha
  generalize hb : a.setAudState p 2 = b at hrun
  generalize hc : b.raise 864 (audBid p) [b.ns] = c at hrun
  have hcaud : c.aud = a.aud := by
    rw [← hc, ← hb]
    rfl
  have hcof : c.audOf p = a.audOf p := by rw [State.audOf, hcaud, State.audOf]
  have hcdir (d : Nat) : c.audDir p d = a.audDir p d := by rw [State.audDir, hcof, State.audDir]
  have hbns : b.ns = s.ns := by
    rw [← hb, haframe]
    rfl
  have hbregs : RegsBut s b ((AUD_P_STATUS p).off :: audStartRegs p) := hb ▸ (haregs.mono (by simp)).setFld _ _ _ (by simp)
  have hbocc : b.occ = s.occ := by
    rw [← hb, haframe]
    rfl
  have hraised : Raised s c 864 (0x0D00 + p) s.ns := by
    rw [← hc, hbns]
    exact State.raised_raise 864 _ _ hbocc
      (hbregs.rd (by simp only [audStartRegs, EVT_R_CNT, AUD_P_STATUS, AUD_D_NA_PAIRS, AUD_D_WP, List.mem_cons, List.not_mem_nil, or_false, not_or]; omega))
  have hkept {r : Reg} (h1 : r.off ≠ (EVT_R_CNT 864).off) (h2 : r.off ≠ (EVT_R_LAST 864).off) : c.rd r = b.rd r := by rw [← hc, State.rd_raise _ _ _ _ h1 h2]
  have hcstate : c.audState p = 2 := by
    rw [State.audState, hkept (by simp only [AUD_P_STATUS, EVT_R_CNT]; omega) (by simp only [AUD_P_STATUS, EVT_R_LAST]; omega), ← hb]
    exact State.audState_setAudState a p (by decide)
  have hcwp : c.rd (AUD_D_WP p 0) = 0 := by
    rw [hkept (by simp only [AUD_D_WP, EVT_R_CNT]; omega) (by simp only [AUD_D_WP, EVT_R_LAST]; omega), ← hwp, ← hb]
    exact State.rd_setFld_ne a _ _ (by simp only [AUD_D_WP, AUD_P_STATUS]; omega)
  have hccfg : c.rd (AUD_P_CFG p) = s.rd (AUD_P_CFG p) := by
    rw [hkept (by simp only [AUD_P_CFG, EVT_R_CNT]; omega) (by simp only [AUD_P_CFG, EVT_R_LAST]; omega)]
    exact hbregs.rd (by simp only [audStartRegs, AUD_P_CFG, AUD_P_STATUS, AUD_D_NA_PAIRS, AUD_D_WP, List.mem_cons, List.not_mem_nil, or_false, not_or]; omega)
  have hcframe : c = { s with regs := c.regs, aud := c.aud, occ := c.occ } := by
    rw [← hc, ← hb, haframe]
    rfl
  generalize hd : c.audSynced p = d
  have hdof : d.audOf p = { a.audOf p with last := s.ticks } := by
    rw [← hd, audOf_audSynced, hcof, show c.ticks = s.ticks by rw [hcframe]]
  have hddir (e : Nat) : d.audDir p e = a.audDir p e := by rw [← hd, audDir_audSynced, hcdir]
  have hdframe : d = { c with aud := d.aud } := by
    rw [← hd]
    rfl
  generalize he : d.audBlockStart p 0 fetched = e
  obtain ⟨hefr, hebl, helast, heact, heoth, heblk, hes0, hes1, hes3, heregs, heframe⟩ :=
    audBlockStart_rx (by rw [hdof]; exact hbl) (by rw [hddir]; exact hact) he
  have hdrd (r : Reg) : d.rd r = c.rd r := by
    rw [hdframe]
    rfl
  have hestay {r : Reg} (hr : r.off ∉ [(AUD_D_BLOCK p 0).off, (AUD_D_STAMP p 0 0).off, (AUD_D_STAMP p 0 1).off, (AUD_D_STAMP p 0 2).off, (AUD_D_STAMP p 0 3).off]) :
      e.rd r = c.rd r := (heregs.rd hr).trans (hdrd r)
  have hgroup' : (e.rd (AUD_P_CFG p)).getLsbD 20 = false := by
    rw [hestay (by simp only [AUD_P_CFG, AUD_D_BLOCK, AUD_D_STAMP, List.mem_cons, List.not_mem_nil, or_false, not_or]; omega), hccfg]
    exact hgroup
  have hblocks := audBlocks_first (by rw [hdof]; exact hfr) fetched he hgroup'
  have hbegin : c.audBegin p fetched = e.setAud p { e.audOf p with disc := false } := by
    rw [audBegin_rx (by rw [hcdir]; exact hact) (by rw [hcdir]; exact hoth) (by rw [hcdir, hpe]; exact hpend), hd, hblocks]
    refine audLeave_rx ?_
    rw [State.audDir, State.audOf_setAud]
    exact (congrArg AudDir.active (heoth.trans (hddir 1))).trans hoth
  rw [hbegin] at hrun
  generalize ht : e.setAud p { e.audOf p with disc := false } = t at hrun
  have htof : t.audOf p = { e.audOf p with disc := false } := by rw [← ht, State.audOf_setAud]
  have htdir (k : Nat) : t.audDir p k = e.audDir p k := by
    rw [State.audDir, htof]
    rfl
  have htrd (r : Reg) : t.rd r = e.rd r := by rw [← ht]; rfl
  have hteq : t.occ = c.occ ∧ t.mem = s.mem := by
    rw [← ht, heframe, hdframe, hcframe]
    exact ⟨rfl, rfl⟩
  have htregs : RegsBut c t [(AUD_D_BLOCK p 0).off, (AUD_D_STAMP p 0 0).off, (AUD_D_STAMP p 0 1).off, (AUD_D_STAMP p 0 2).off, (AUD_D_STAMP p 0 3).off] :=
    (((RegsBut.refl c _).congr (by rw [hdframe])).trans heregs).congr (by rw [← ht]; rfl)
  have htraised : Raised s t 864 (0x0D00 + p) s.ns := hraised.later hteq.1 htregs
    (by simp only [EVT_R_CNT, AUD_D_BLOCK, AUD_D_STAMP, List.mem_cons, List.not_mem_nil, or_false, not_or]; omega)
    (by simp only [EVT_R_LAST, AUD_D_BLOCK, AUD_D_STAMP, List.mem_cons, List.not_mem_nil, or_false, not_or]; omega)
  refine Runs.next (congrArg (fun u => Host.Outcome.next (s.settle u)) ((audFirstSync_alone hon hwait hgroup htrig fetched).trans hrun)) ?_
  refine ⟨?_, State.raised_settle htraised, ?_, ?_, ?_, ?_, ?_, ?_, ?_, ?_, ?_, ?_, fun x => ?_⟩
  · show bitsOf (t.rd (AUD_P_STATUS p)).toNat 2 0 = 2
    rw [htrd, hestay (by simp only [AUD_P_STATUS, AUD_D_BLOCK, AUD_D_STAMP, List.mem_cons, List.not_mem_nil, or_false, not_or]; omega)]
    exact hcstate
  · show (t.audOf p).block = 0
    rw [htof]
    exact hebl
  · show (t.audOf p).frame = 0
    rw [htof]
    exact hefr.trans (by rw [hdof]; exact hfr)
  · show (t.audOf p).last = s.ticks
    rw [htof]
    exact helast.trans (by rw [hdof])
  · show (t.audDir p 0).active = true
    rw [htdir]
    exact heact
  · show (t.audDir p 1).active = false
    rw [htdir, heoth, hddir]
    exact hoth
  · rw [State.rd_settle, htrd, hestay (by simp only [AUD_D_WP, AUD_D_BLOCK, AUD_D_STAMP, List.mem_cons, List.not_mem_nil, or_false, not_or]; omega)]
    exact hcwp
  · rw [State.rd_settle, htrd, heblk]
  · rw [State.rd_settle, htrd, hes0]
  · rw [State.rd_settle, htrd, hes1, hdframe, hcframe]
    rfl
  · rw [State.rd_settle, htrd, hes3, hdframe, hcframe]
    rfl
  · exact congrFun hteq.2 x

/-- Settles O39, by the rules of a port's start, stop, frames, slots and ramps. -/
theorem audioPorts : Obligations.AudioPorts := ⟨portsStartAndStop, portsRun, frameSyncs, slotsOfPorts, rampsEnd⟩

end Sys2Proof.Machine
end

section
/-! PROOFS. Contexts of the Eights: what executes, waits that end, traps, and seat time (R411 to R417, R497). -/

-- One proof at a time: the text is compiled as one file in bounded memory.
set_option Elab.async false

namespace Sys2Proof.Machine
open Sys2Proof.Claims

/-! ### Contexts -/

theorem State.ctxOf_setCtx (s : State) (e l c : Nat) (x : OarCtx) : (s.setCtx e l c x).ctxOf e l c = x := tabGet_set_self _ _ _ _

theorem State.ctxOf_setCtx_ne (s : State) {e l c l' c' : Nat} (x : OarCtx) (hc : c < 8) (hc' : c' < 8) (hne : l' ≠ l ∨ c' ≠ c) :
    (s.setCtx e l c x).ctxOf e l' c' = s.ctxOf e l' c' := tabGet_set_ne _ _ _ _ (by unfold ctxKey; omega)

theorem State.setCtx_setCtx (s : State) (e l c : Nat) (x y : OarCtx) : ((s.setCtx e l c x).setCtx e l c y).ctxOf e l c = y := State.ctxOf_setCtx ..

theorem OarCtx.getX_setX (x : OarCtx) (r : Nat) (v : BitVec 64) : (x.setX r v).getX r = if r = 0 then 0 else v := by
  unfold OarCtx.getX OarCtx.setX
  by_cases h : r = 0
  · rw [if_pos h, if_pos h]
  · rw [if_neg h, if_neg h, if_neg h, tabGet_set_self]

theorem OarCtx.getX_done (x : OarCtx) (r : Nat) : x.done.getX r = x.getX r := rfl

theorem OarCtx.setX_zero (x : OarCtx) (v : BitVec 64) : x.setX 0 v = x := if_pos rfl

/-- What a register's set leaves of a context. -/
theorem OarCtx.setX_frame (x : OarCtx) (r : Nat) (v : BitVec 64) : x.setX r v = { x with x := (x.setX r v).x } := by
  unfold OarCtx.setX
  split <;> rfl

/-- A context that is not ready has no delay to count. -/
theorem seatDelay_idle {s : State} {e l c : Nat} (h : s.ctxState e l c ≠ 1) : s.seatDelay e l c = s.setCtx e l c { s.ctxOf e l c with delayAt := s.ticks } := by
  unfold State.seatDelay
  extract_lets +onlyGivenNames x n t
  rw [decide_eq_false h, Bool.false_and]
  exact if_neg (by decide)

/-- A context that is not ready goes to another state. -/
theorem setCtxState_shows {s : State} {e l c v : Nat} (h : s.ctxState e l c ≠ 1) (hv : v < 8) {t : State} (ht : s.setCtxState e l c v = t) :
    t.ctxState e l c = v ∧ t.ctxOf e l c = { s.ctxOf e l c with delayAt := s.ticks } ∧ RegsBut s t [(EGT_CTX e l c).off] ∧ t = { s with regs := t.regs, eng := t.eng } := by
  unfold State.setCtxState at ht
  rw [seatDelay_idle h] at ht
  generalize hu : s.setCtx e l c { s.ctxOf e l c with delayAt := s.ticks } = u at ht
  have huof : u.ctxOf e l c = { s.ctxOf e l c with delayAt := s.ticks } := by rw [← hu, State.ctxOf_setCtx]
  rw [← ht]
  refine ⟨?_, ?_, ((RegsBut.refl s _).congr (by rw [← hu]; rfl)).setFld _ _ _, ?_⟩
  · exact (State.fld_setFld_self u (EGT_CTX e l c) EGT_CTX_STATE v).trans (Nat.mod_eq_of_lt (show v < 2 ^ 3 from hv))
  · exact (((OnlyRegs.refl u).setFld (EGT_CTX e l c) EGT_CTX_STATE v).field (State.ctxOf · e l c)).trans huof
  · rw [← hu]
    rfl

theorem oarWait_shows {u : State} {e l c : Nat} (h : u.ctxState e l c ≠ 1) (w : OarWait) : WaitsFor u (u.oarWait e l c w) e l c w := by
  unfold State.oarWait
  generalize hv : u.setCtx e l c { u.ctxOf e l c with wait := some w, waitAt := u.ticks } = v
  have hvof : v.ctxOf e l c = { u.ctxOf e l c with wait := some w, waitAt := u.ticks } := by rw [← hv, State.ctxOf_setCtx]
  have hvst : v.ctxState e l c ≠ 1 := by
    rw [← hv]
    exact h
  obtain ⟨hst, hof, hregs, hframe⟩ := setCtxState_shows hvst (v := 3) (by decide) rfl
  refine ⟨hst, ?_, ((RegsBut.refl u _).congr (by rw [← hv]; rfl)).trans hregs, ?_⟩
  · rw [hof, hvof, ← hv]
    rfl
  · rw [hframe, ← hv]
    rfl

/-! ### Instructions and what runs before them -/

section
variable {s u : State} {e l c : Nat} {run : OarRun} {g : OarProg}

theorem oarDo_at (h : OarAt s e l c run u g) (f : State → OarProg → State) : s.oarDo e l c run f = s.settle (f u g) := by
  unfold State.oarDo
  rw [h.1]

/-- An instruction that raises nothing. -/
theorem oarDo_quiet (h : OarAt s e l c run u g) {f : State → OarProg → State} {t : State} (hf : f u g = t) (hocc : t.occ = u.occ) : s.oarDo e l c run f = t := by
  rw [oarDo_at h, hf]
  exact State.settle_same (hocc.trans h.2.2)

theorem oarTry_some {w : OarWait} {t : State} (h : u.waitEnds g e l c w = some t) : u.oarTry g e l c w = t := by
  unfold State.oarTry
  rw [h]

theorem oarTry_none {w : OarWait} (h : u.waitEnds g e l c w = none) : u.oarTry g e l c w = u.oarWait e l c w := by
  unfold State.oarTry
  rw [h]

theorem oarRun_none (h : s.prog e l = none ∨ s.running (0x0100 + e) = false ∨ (s.ctxState e l c ≠ 1 ∧ s.ctxState e l c ≠ 2)) : s.oarRun e l c run = none := by
  unfold State.oarRun
  rcases hg : s.prog e l with _ | g
  · rfl
  · rw [hg] at h
    refine if_pos ?_
    rcases h with h | h | ⟨h1, h2⟩
    · exact absurd h (by simp)
    · rw [h]
      rfl
    · rw [decide_eq_false h1, decide_eq_false h2, Bool.or_self, Bool.not_false, Bool.or_true]

theorem oarDo_none (h : s.oarRun e l c run = none) (f : State → OarProg → State) : s.oarDo e l c run f = s := by
  unfold State.oarDo
  rw [h]

/-- A running context that runs alone keeps the seat. -/
theorem seatTake_alone (hst : s.ctxState e l c = 2) (hoth : ∀ k, k < 8 → k ≠ c → s.ctxState e l k ≠ 2) : s.seatTake e l c = s := by
  have hfold : (List.range 8).foldl (fun s k => if k ≠ c && s.ctxState e l k = 2 then s.setCtxState e l k 1 else s) s = s := by
    refine foldl_fixed_mem fun k hk => if_neg ?_
    rw [Bool.and_eq_true, decide_eq_true_eq, decide_eq_true_eq]
    exact fun h => hoth k (List.mem_range.1 hk) h.1 h.2
  unfold State.seatTake
  rw [hfold]
  exact if_pos hst

end

theorem contextsExecute : ContextsExecute := by
  unfold ContextsExecute
  intro e l c r1 r2 r3 imm m run s
  refine ⟨fun h i hi => ?_, fun g hg hrun hst hoth hstores hbus => ?_⟩
  · have hnone := oarDo_none (oarRun_none (run := run) h)
    simp only [List.mem_cons, List.not_mem_nil, or_false] at hi
    rcases hi with rfl | rfl | rfl | rfl | rfl | rfl | rfl | rfl | rfl <;> exact congrArg Host.Outcome.next (hnone _)
  · refine ⟨s.setCtx e l c ((s.ctxOf e l c).after run), ⟨?_, hst, rfl⟩, State.ctxOf_setCtx .., rfl, rfl⟩
    have htake : s.seatTake e l c = s := seatTake_alone hst fun k hk hne => hoth ⟨k, hk⟩ fun h => hne (congrArg Fin.val h)
    unfold State.oarRun
    rw [hg]
    dsimp -zeta only
    rw [if_neg (by rw [hrun, hst]; decide), htake, hstores, hbus]
    rfl

/-! ### Traps (R414) -/

theorem seatRec_lt {s : State} {id r : Nat} (h : s.seatRec id = some r) : r < 1024 := by
  rw [State.seatRec] at h
  exact List.mem_range.1 (List.mem_of_find?_eq_some h)

theorem taskRec_lt {s : State} {e l c r : Nat} (h : s.taskRec e l c = some r) : r < 1024 := by
  rw [State.taskRec, Option.bind_eq_some_iff] at h
  obtain ⟨k, -, hk⟩ := h
  split at hk
  · exact seatRec_lt hk
  · exact absurd hk (by simp)

/-- A task's stop reason is a register of its stream's record. -/
theorem taskStop_shows (s : State) (e l c code : Nat) : ∃ r, r < 1024 ∧ RegsBut s (s.taskStop e l c code) [(UMP_S_STOP r).off] ∧ OnlyRegs s (s.taskStop e l c code) := by
  unfold State.taskStop
  rcases hr : s.taskRec e l c with _ | r
  · exact ⟨0, by decide, .refl s _, .refl s⟩
  · exact ⟨r, taskRec_lt hr, ((RegsBut.refl s _).wr _ _).ite (.refl s _), ((OnlyRegs.refl s).wr _ _).ite (.refl s)⟩

theorem ctxHalt_shows {u : State} {e l c : Nat} (hl : l < 8) (hc : c < 8) (h : u.ctxState e l c ≠ 1) (m : BitVec 64) {t : State} (ht : u.ctxHalt e l c m = t) :
    t.ctxState e l c = 4 ∧ t.fld (EGT_CTX e l c) EGT_CTX_MCAUSE = m.toNat % 256 ∧ (t.ctxOf e l c).wait = none ∧ (t.ctxOf e l c).pc = (u.ctxOf e l c).pc ∧
      Raised u t 66 (0x0100 + e) (w32 e) ∧ t = { u with regs := t.regs, eng := t.eng, occ := t.occ } := by
  generalize hv : u.setCtx e l c { u.ctxOf e l c with wait := none } = v
  have hvof : v.ctxOf e l c = { u.ctxOf e l c with wait := none } := by rw [← hv, State.ctxOf_setCtx]
  have hvst : v.ctxState e l c ≠ 1 := by
    rw [← hv]
    exact h
  obtain ⟨hst, hof, hregs, hframe⟩ := setCtxState_shows hvst (v := 4) (by decide) rfl
  generalize hw : v.setCtxState e l c 4 = w at hst hof hregs hframe
  generalize ha : w.setFld (EGT_CTX e l c) EGT_CTX_MCAUSE (m.toNat % 256) = a
  obtain ⟨r, hr, hbregs, hbonly⟩ := taskStop_shows a e l c 2
  generalize hb : a.taskStop e l c 2 = b at hbregs hbonly
  have hrun : b.raise 66 (0x0100 + e) [w32 e, w32 l, w32 c, w32 m.toNat] = t := by
    rw [← ht, ← hb, ← ha, ← hw, ← hv]
    rfl
  have hactx : b.rd (EGT_CTX e l c) = a.rd (EGT_CTX e l c) := hbregs.rd (by simp only [EGT_CTX, UMP_S_STOP, List.mem_singleton]; omega)
  have hast : a.ctxState e l c = 4 := by
    rw [← hst, ← ha]
    exact State.fld_setFld_ne w (EGT_CTX e l c) (f := EGT_CTX_MCAUSE) (g := EGT_CTX_STATE) _
  have hacause : a.fld (EGT_CTX e l c) EGT_CTX_MCAUSE = m.toNat % 256 := by
    rw [← ha]
    exact (State.fld_setFld_self w (EGT_CTX e l c) EGT_CTX_MCAUSE _).trans (Nat.mod_eq_of_lt (show m.toNat % 256 < 2 ^ 8 from Nat.mod_lt _ (by decide)))
  have haof : a.ctxOf e l c = w.ctxOf e l c := by
    rw [← ha]
    exact ((OnlyRegs.refl w).setFld (EGT_CTX e l c) EGT_CTX_MCAUSE _).field (State.ctxOf · e l c)
  have hbof : b.ctxOf e l c = a.ctxOf e l c := hbonly.field (State.ctxOf · e l c)
  have htctx : t.rd (EGT_CTX e l c) = a.rd (EGT_CTX e l c) := by
    rw [← hrun, State.rd_raise _ _ _ _ (by simp only [EGT_CTX, EVT_R_CNT]; omega) (by simp only [EGT_CTX, EVT_R_LAST]; omega), hactx]
  have htof : t.ctxOf e l c = { u.ctxOf e l c with wait := none, delayAt := v.ticks } := by
    rw [← hrun]
    refine (show _ = b.ctxOf e l c from rfl).trans ?_
    rw [hbof, haof, hof, hvof]
  have huregs : RegsBut u b [(EGT_CTX e l c).off, (UMP_S_STOP r).off] := by
    refine RegsBut.trans (t := a) ?_ (hbregs.mono (by simp))
    rw [← ha]
    exact ((((RegsBut.refl u _).congr (by rw [← hv]; rfl)).trans hregs).mono (by simp)).setFld _ _ _
  have hbframe : b = { u with regs := b.regs, eng := b.eng } := by
    rw [OnlyRegs] at hbonly
    rw [hbonly, ← ha, hframe, ← hv]
    rfl
  refine ⟨?_, ?_, by rw [htof], by rw [htof], ?_, ?_⟩
  · rw [State.ctxState, State.fld, htctx]
    exact hast
  · rw [State.fld, htctx]
    exact hacause
  · rw [← hrun]
    exact State.raised_raise 66 _ _ (by rw [hbframe]) (huregs.rd (by simp only [EVT_R_CNT, EGT_CTX, UMP_S_STOP, List.mem_cons, List.not_mem_nil, or_false, not_or]; omega))
  · rw [← hrun, hbframe]
    rfl

/-- A trap goes to mtvec or halts the context. -/
theorem ctxTrap_shows {u : State} {e l c : Nat} (hl : l < 8) (hc : c < 8) (h : u.ctxState e l c ≠ 1) (m : BitVec 64) :
    Traps u (u.ctxTrap e l c m) e l c m ∧ SameMem u (u.ctxTrap e l c m) ∧ ∀ s : State, u.occ = s.occ → s.settle (u.ctxTrap e l c m) = u.ctxTrap e l c m := by
  generalize ht : u.ctxTrap e l c m = t
  have hiff : (decide (tabGet (u.ctxOf e l c).csrs 0 0x305 = 0) || (u.ctxOf e l c).inTrap) = true ↔ tabGet (u.ctxOf e l c).csrs 0 0x305 = 0 ∨ (u.ctxOf e l c).inTrap = true := by
    rw [Bool.or_eq_true, decide_eq_true_eq]
  by_cases hhalt : tabGet (u.ctxOf e l c).csrs 0 0x305 = 0 ∨ (u.ctxOf e l c).inTrap = true
  · have hrun : u.ctxHalt e l c m = t := (if_pos (hiff.2 hhalt)).symm.trans ht
    obtain ⟨hst, hcause, hwait, hpc, hraised, hframe⟩ := ctxHalt_shows hl hc h m hrun
    refine ⟨⟨fun h0 htrap => ?_, fun _ => ⟨hst, hcause, hwait, hpc, hraised⟩⟩, fun a => by rw [hframe]; rfl, fun s hocc => ?_⟩
    · rcases hhalt with h' | h'
      · exact absurd h' h0
      · rw [htrap] at h'
        exact absurd h' (by decide)
    · obtain ⟨o, ho, -⟩ := hraised.1
      exact State.settle_one (ho.trans (by rw [hocc]))
  · have hrun := (if_neg (fun h' => hhalt (hiff.1 h'))).symm.trans ht
    rw [← hrun]
    refine ⟨⟨fun _ _ => ⟨rfl, rfl, State.ctxOf_setCtx ..⟩, fun h' => absurd h' hhalt⟩, fun a => rfl, fun s hocc => State.settle_same hocc⟩

/-- An instruction that traps. -/
theorem oarDo_traps {s u : State} {e : Fin 32} {l c : Fin 8} {run : OarRun} {g : OarProg} (h : OarAt s e l c run u g) {f : State → OarProg → State} (m : BitVec 64)
    (hf : f u g = u.ctxTrap e l c m) : Traps u (s.oarDo e l c run f) e l c m ∧ SameMem u (s.oarDo e l c run f) := by
  obtain ⟨htraps, hmem, hsettle⟩ := ctxTrap_shows (u := u) l.isLt c.isLt (by rw [h.2.1]; decide) m
  rw [oarDo_at h, hf, hsettle s h.2.2]
  exact ⟨htraps, hmem⟩

theorem contextsTrap : ContextsTrap := by
  unfold ContextsTrap
  intro e l c m run s u g h
  exact Runs.next rfl (oarDo_traps h m rfl)

/-! ### Ports (R418) -/

/-- Only the FIFOs of the stream ports differ. -/
def PortsOnly (s t : State) : Prop := t = { s with eng := { s.eng with fifo := t.eng.fifo } }

section
variable {s t u : State}

theorem PortsOnly.refl (s : State) : PortsOnly s s := rfl

theorem PortsOnly.trans (h : PortsOnly s t) (h' : PortsOnly t u) : PortsOnly s u := by
  unfold PortsOnly at *
  rw [h', h]

theorem PortsOnly.setPortQ (h : PortsOnly s t) (e p : Nat) (q : List (BitVec 64)) : PortsOnly s (t.setPortQ e p q) := h.trans rfl

theorem PortsOnly.foldl {α : Type} {f : State → α → State} (hf : ∀ u a, PortsOnly u (f u a)) : ∀ (l : List α) (s : State), PortsOnly s (l.foldl f s)
  | [], s => .refl s
  | a :: l, s => (hf s a).trans (PortsOnly.foldl hf l (f s a))

theorem PortsOnly.ctxOf (h : PortsOnly s t) (e l c : Nat) : t.ctxOf e l c = s.ctxOf e l c := by
  rw [PortsOnly] at h
  rw [h]
  rfl

theorem PortsOnly.regs (h : PortsOnly s t) : t.regs = s.regs := by
  rw [PortsOnly] at h
  rw [h]

theorem PortsOnly.occ (h : PortsOnly s t) : t.occ = s.occ := by
  rw [PortsOnly] at h
  rw [h]

theorem PortsOnly.freeCtr (h : PortsOnly s t) : t.freeCtr = s.freeCtr := by
  rw [PortsOnly] at h
  rw [h]

theorem PortsOnly.ctxState (h : PortsOnly s t) (e l c : Nat) : t.ctxState e l c = s.ctxState e l c := by rw [State.ctxState, State.fld, State.rd, h.regs]; rfl

end

theorem portFlow_ports (s : State) (e p : Nat) (far : Nat × Nat) : PortsOnly s (s.portFlow e p far) := by
  unfold State.portFlow
  split
  · exact .refl s
  · exact ((PortsOnly.refl s).setPortQ _ _ _).setPortQ _ _ _

theorem portOut_ports (s : State) (g : OarProg) (e p : Nat) : PortsOnly s (s.portOut g e p) := by
  unfold State.portOut
  split
  · exact portFlow_ports ..
  · exact .refl s

theorem portIn_ports (s : State) (e p : Nat) : PortsOnly s (s.portIn e p) := by
  refine PortsOnly.foldl (fun u k => PortsOnly.foldl (fun v l => ?_) _ u) _ s
  split
  · refine PortsOnly.foldl (fun w q => ?_) _ v
    split
    · exact portFlow_ports ..
    · exact .refl w
  · exact .refl v

theorem portTake_some {s : State} {e p n : Nat} (h : n ≤ (s.portQ e p).length) :
    s.portTake e p n = some ((s.portQ e p).take n, (s.setPortQ e p ((s.portQ e p).drop n)).portIn e p) := if_neg (by omega)

theorem portTake_none {s : State} {e p n : Nat} (h : (s.portQ e p).length < n) : s.portTake e p n = none := if_pos h

/-! ### Waits that end (R412) -/

/-- A context whose instruction completes. -/
theorem oarResult_shows (s : State) (e l c rd : Nat) (v : BitVec 64) : (s.oarResult e l c rd v).ctxOf e l c = ((s.ctxOf e l c).setX rd v).done := State.ctxOf_setCtx ..

section
variable {s : State} {e : Fin 32} {l c : Fin 8} {g : OarProg} {w : OarWait}

theorem resume_idle (hwait : (s.ctxOf e l c).wait = some w) (hnone : ∀ g, s.waitEnds g e l c w = none) : exec (.oarContextResume e l c) s = .next s := by
  refine congrArg Host.Outcome.next ?_
  rw [hwait]
  rcases s.prog e l with _ | g
  · rfl
  · dsimp only
    rw [hnone g]
    exact ite_self _

/-- A wait that ends with the context done makes it ready. -/
theorem resume_ready (hg : s.prog e l = some g) (hrun : s.running (0x0100 + e) = true) (hst : s.ctxState e l c = 3) (hwait : (s.ctxOf e l c).wait = some w)
    {u : State} (hu : s.waitEnds g e l c w = some u) (huwait : (u.ctxOf e l c).wait = none) (hust : u.ctxState e l c = 3) (huocc : u.occ = s.occ) :
    Runs (.oarContextResume e l c) s (fun t => t.ctxState e l c = 1 ∧ t.ctxOf e l c = { u.ctxOf e l c with delayAt := u.ticks } ∧ RegsBut u t [(EGT_CTX e l c).off] ∧
      t = { u with regs := t.regs, eng := t.eng }) := by
  obtain ⟨hst1, hof, hregs, hframe⟩ := setCtxState_shows (s := u) (e := e) (l := l) (c := c) (by rw [hust]; decide) (v := 1) (by decide) rfl
  have hexec : exec (.oarContextResume e l c) s = .next (u.setCtxState e l c 1) := by
    refine congrArg Host.Outcome.next ?_
    rw [hwait, hg]
    dsimp only
    rw [if_pos (by rw [hrun, hst]; rfl), hu]
    dsimp only
    rw [if_neg (by rw [huwait, hust]; decide)]
    exact State.settle_same (by rw [hframe, huocc])
  exact Runs.next hexec ⟨hst1, hof, hregs, hframe⟩

end

theorem waitEnds_pop (s : State) (g : OarProg) (e l c r p : Nat) :
    s.waitEnds g e l c (.pop r p) = (s.portTake e p 1).map (fun q => q.2.oarResult e l c r (q.1.headD 0)) := rfl

theorem portTake_word {s : State} {e p : Nat} {w : BitVec 64} {ws : List (BitVec 64)} (hq : s.portQ e p = w :: ws) :
    s.portTake e p 1 = some ([w], (s.setPortQ e p ws).portIn e p) := by
  rw [portTake_some (by rw [hq]; exact Nat.succ_le_succ (Nat.zero_le _)), hq, List.take_succ_cons, List.take_zero, List.drop_succ_cons, List.drop_zero]

theorem contextsResume : ContextsResume := by
  unfold ContextsResume
  intro e l c s g
  refine ⟨fun hnone => ?_, fun r sel b hwait => resume_idle hwait fun _ => rfl, fun r p hwait hq => resume_idle hwait fun g => ?_, fun r v hg hrun hst hwait => ?_,
    fun r p w ws hg hrun hst hwait hq => ?_⟩
  · refine congrArg Host.Outcome.next ?_
    rw [hnone]
  · show (s.portTake e p 1).map _ = none
    rw [portTake_none (by rw [hq]; decide)]
    rfl
  · have hof := oarResult_shows s e l c r v
    obtain ⟨t, hexec, hst1, htof, hregs, hframe⟩ := resume_ready hg hrun hst hwait rfl (by rw [hof]; rfl) hst rfl
    refine Runs.next hexec ⟨hst1, ?_, ?_, ?_, hregs.congr rfl, hframe.trans rfl⟩
    · rw [htof, hof]
      rfl
    · rw [htof, hof, OarCtx.setX_frame]
      rfl
    · rw [htof, hof]
      exact OarCtx.getX_setX ..
  · have hports := ((PortsOnly.refl s).setPortQ e p ws).trans (portIn_ports (s.setPortQ e p ws) e p)
    generalize ha : (s.setPortQ e p ws).portIn e p = a at hports
    have hof := oarResult_shows a e l c r w
    have hends : s.waitEnds g e l c (.pop r p) = some (a.oarResult e l c r w) := by
      rw [waitEnds_pop, portTake_word hq, ha]
      rfl
    obtain ⟨t, hexec, hst1, htof, -, -⟩ := resume_ready hg hrun hst hwait hends (by rw [hof]; rfl)
      ((show (a.oarResult e l c r w).ctxState e l c = a.ctxState e l c from rfl).trans ((hports.ctxState e l c).trans hst)) hports.occ
    refine Runs.next hexec ⟨hst1, ?_, ?_, ?_⟩
    · rw [htof, hof]
      rfl
    · rw [htof, hof, OarCtx.setX_frame, hports.ctxOf]
      rfl
    · rw [htof, hof]
      exact OarCtx.getX_setX ..

/-! ### Seat time (R416) -/

/-- The low words of the streams' delay counters. -/
def DelayReg (o : Nat) : Prop := ∃ r, r < 1024 ∧ o = (UMP_S_DELAY_LO r).off

/-- What seat time changes: contexts, the streams' counts, and the low words of delay counters. -/
def SeatTime (s t : State) : Prop := t = { s with regs := t.regs, eng := t.eng, strm := t.strm } ∧ RegsIn DelayReg s t

section
variable {s t u : State}

theorem SeatTime.refl (s : State) : SeatTime s s := ⟨rfl, .refl _ s⟩

theorem SeatTime.trans (h : SeatTime s t) (h' : SeatTime t u) : SeatTime s u := by
  refine ⟨?_, h.2.trans h'.2⟩
  rw [h'.1, h.1]

theorem SeatTime.ticks (h : SeatTime s t) : t.ticks = s.ticks := by rw [h.1]

theorem SeatTime.rate (h : SeatTime s t) (r : Nat) : t.rd (UMP_S_RATE r) = s.rd (UMP_S_RATE r) :=
  h.2.rd (by simp only [DelayReg, UMP_S_RATE, UMP_S_DELAY_LO]; omega)

theorem SeatTime.budgetClocks (h : SeatTime s t) : t.budgetClocks = s.budgetClocks := by
  rw [State.budgetClocks, State.fld, h.2.rd (by simp only [DelayReg, HLT_STATUS, UMP_S_DELAY_LO]; omega)]
  rfl

theorem SeatTime.taskRec (h : SeatTime s t) (e l c : Nat) : t.taskRec e l c = s.taskRec e l c := by
  have htask : t.task e l c = s.task e l c := by
    rw [h.1]
    rfl
  have hrec (id : Nat) : t.seatRec id = s.seatRec id := by
    rw [State.seatRec, State.seatRec]
    refine congrArg (fun f => List.find? f (List.range 1024)) (funext fun i => ?_)
    rw [State.fld, State.fld, h.2.rd (r := UMP_S_ID i) (by simp only [DelayReg, UMP_S_ID, UMP_S_DELAY_LO]; omega),
      h.2.rd (r := UMP_S_CFG i) (by simp only [DelayReg, UMP_S_CFG, UMP_S_DELAY_LO]; omega)]
  rw [State.taskRec, State.taskRec, htask]
  refine congrArg (fun f => Option.bind (s.task e l c) f) (funext fun k => ?_)
  rw [hrec]

end

theorem seatDelay_shows (s : State) (e l c : Nat) : SeatTime s (s.seatDelay e l c) ∧
    (s.seatDelay e l c).eng = (s.setCtx e l c { s.ctxOf e l c with delayAt := s.ticks }).eng := by
  unfold State.seatDelay
  extract_lets +onlyGivenNames x n t
  have ht : SeatTime s t := ⟨rfl, (RegsIn.refl _ s).congr rfl⟩
  split
  · rcases hr : s.taskRec e l c with _ | r
    · exact ⟨ht, rfl⟩
    · exact ⟨ht.trans ⟨rfl, ((RegsIn.refl _ t).congr rfl).wr _ _ ⟨r, taskRec_lt hr, rfl⟩⟩, rfl⟩
  · exact ⟨ht, rfl⟩

/-- The budget of one context is refilled. -/
def State.refill (s : State) (e l c : Nat) : State :=
  match s.taskRec e l c with
  | some r =>
    let s := s.seatDelay e l c
    s.setCtx e l c { s.ctxOf e l c with budget := (s.rd (UMP_S_RATE r)).toNat * s.budgetClocks }
  | none => s

theorem refill_none {s : State} {e l c : Nat} (h : s.taskRec e l c = none) : s.refill e l c = s := by
  unfold State.refill
  rw [h]

theorem refill_shows {s : State} {e l c r : Nat} (h : s.taskRec e l c = some r) : SeatTime s (s.refill e l c) ∧
    (s.refill e l c).ctxOf e l c = { s.ctxOf e l c with delayAt := s.ticks, budget := (s.rd (UMP_S_RATE r)).toNat * s.budgetClocks } ∧
    ∀ l' c', c < 8 → c' < 8 → l' ≠ l ∨ c' ≠ c → (s.refill e l c).ctxOf e l' c' = s.ctxOf e l' c' := by
  unfold State.refill
  rw [h]
  dsimp only
  obtain ⟨htime, heng⟩ := seatDelay_shows s e l c
  generalize s.seatDelay e l c = u at htime heng
  have huof : u.ctxOf e l c = { s.ctxOf e l c with delayAt := s.ticks } := by
    rw [State.ctxOf, heng]
    exact State.ctxOf_setCtx ..
  refine ⟨htime.trans ⟨rfl, (RegsIn.refl _ u).congr rfl⟩, ?_, fun l' c' hc hc' hne => ?_⟩
  · rw [State.ctxOf_setCtx, huof, htime.rate, htime.budgetClocks]
  · rw [State.ctxOf_setCtx_ne _ _ hc hc' hne, State.ctxOf, heng]
    exact State.ctxOf_setCtx_ne s _ hc hc' hne

/-- Contexts refilled one after the other. -/
theorem refills_show (e : Nat) : ∀ (is : List Nat) (s : State), is.Nodup →
    let t := is.foldl (fun u i => u.refill e (i / 8) (i % 8)) s
    SeatTime s t ∧ ∀ l c, c < 8 → (∀ r, s.taskRec e l c = some r → 8 * l + c ∈ is →
        t.ctxOf e l c = { s.ctxOf e l c with delayAt := s.ticks, budget := (s.rd (UMP_S_RATE r)).toNat * s.budgetClocks }) ∧
      (s.taskRec e l c = none ∨ 8 * l + c ∉ is → t.ctxOf e l c = s.ctxOf e l c)
  | [], s, _ => ⟨.refl s, fun _ _ _ => ⟨fun _ _ h => absurd h List.not_mem_nil, fun _ => rfl⟩⟩
  | i :: is, s, hnodup => by
    obtain ⟨hi, hrest⟩ := List.nodup_cons.1 hnodup
    obtain ⟨htime, hctx⟩ := refills_show e is (s.refill e (i / 8) (i % 8)) hrest
    rw [List.foldl_cons]
    generalize is.foldl (fun u i => u.refill e (i / 8) (i % 8)) (s.refill e (i / 8) (i % 8)) = t at htime hctx
    have hmod : i % 8 < 8 := Nat.mod_lt _ (by decide)
    rcases hr : s.taskRec e (i / 8) (i % 8) with _ | r
    · rw [refill_none hr] at htime hctx
      refine ⟨htime, fun l c hc => ⟨fun r hrec hmem => (hctx l c hc).1 r hrec ?_, fun h => (hctx l c hc).2 (h.imp_right fun h hmem => h (List.mem_cons_of_mem _ hmem))⟩⟩
      refine (List.mem_cons.1 hmem).resolve_left fun heq => ?_
      rw [← heq, show (8 * l + c) / 8 = l by omega, show (8 * l + c) % 8 = c by omega, hrec] at hr
      exact absurd hr (by simp)
    · obtain ⟨htime1, hself, hoth⟩ := refill_shows hr
      refine ⟨htime1.trans htime, fun l c hc => ?_⟩
      obtain ⟨hsome, hkeep⟩ := hctx l c hc
      rw [htime1.taskRec] at hsome hkeep
      by_cases heq : 8 * l + c = i
      · obtain ⟨rfl, rfl⟩ : l = i / 8 ∧ c = i % 8 := by omega
        rw [heq] at hkeep ⊢
        refine ⟨fun r' hrec _ => ?_, fun h => ?_⟩
        · obtain rfl : r' = r := Option.some.inj (hrec.symm.trans hr)
          exact (hkeep (.inr hi)).trans hself
        · rcases h with h | h
          · exact absurd (h.symm.trans hr) (by simp)
          · exact absurd (List.mem_cons_self ..) h
      · have hstay : (s.refill e (i / 8) (i % 8)).ctxOf e l c = s.ctxOf e l c := hoth l c hmod hc (by omega)
        rw [hstay] at hkeep
        refine ⟨fun r' hrec hmem => ?_, fun h => hkeep (h.imp_right fun h hmem => h (List.mem_cons_of_mem _ hmem))⟩
        rw [hsome r' hrec ((List.mem_cons.1 hmem).resolve_left heq), hstay, htime1.ticks, htime1.rate, htime1.budgetClocks]

theorem seatPeriodRefill_eq {s : State} {e : Fin 32} (h : s.running (0x0100 + e) = true) :
    exec (.seatPeriodRefill e) s = .next ((List.range 64).foldl (fun u i => u.refill e (i / 8) (i % 8)) s) := congrArg Host.Outcome.next (if_neg (by rw [h]; decide))

theorem budgetsAreRefilled : BudgetsAreRefilled := by
  unfold BudgetsAreRefilled
  intro e s
  refine ⟨fun hoff => congrArg Host.Outcome.next (if_pos (by rw [hoff]; rfl)), fun hrun => Runs.next (seatPeriodRefill_eq hrun) fun l c => ?_⟩
  obtain ⟨-, hctx⟩ := refills_show e (List.range 64) s List.nodup_range
  obtain ⟨hsome, hkeep⟩ := hctx l c c.isLt
  have hmem : 8 * l.val + c.val ∈ List.range 64 := List.mem_range.2 (by omega)
  refine ⟨fun r hr => ?_, fun hnone => hkeep (.inl hnone)⟩
  rw [hsome r hr hmem]
  exact ⟨rfl, rfl⟩

/-- Settles O40, by the rules of a context's execution, waits, traps and budgets. -/
theorem oarContexts : Obligations.OarContexts := ⟨contextsExecute, contextsResume, contextsTrap, budgetsAreRefilled⟩

end Sys2Proof.Machine
end

section
/-! PROOFS. Stream words, vectors, and SWAIT (R418, R419, R478). -/

-- One proof at a time: the text is compiled as one file in bounded memory.
set_option Elab.async false

namespace Sys2Proof.Machine
open Sys2Proof.Claims

/-! ### Instructions that complete, wait or trap -/

section
variable {s u : State} {e : Fin 32} {l c : Fin 8} {run : OarRun} {g : OarProg} {i : Instr}

/-- An instruction that traps. -/
theorem runs_traps (h : OarAt s e l c run u g) {m : BitVec 64} (hi : exec i s = .next (s.settle (u.ctxTrap e l c m))) : Runs i s (fun t => Traps u t e l c m) := by
  obtain ⟨htraps, -, hsettle⟩ := ctxTrap_shows (u := u) l.isLt c.isLt (by rw [h.2.1]; decide) m
  refine Runs.next hi ?_
  rw [hsettle s h.2.2]
  exact htraps

/-- An instruction that waits. -/
theorem runs_waits (h : OarAt s e l c run u g) {w : OarWait} (hnone : u.waitEnds g e l c w = none) (hi : exec i s = .next (s.settle (u.oarTry g e l c w))) :
    Runs i s (fun t => WaitsFor u t e l c w) := by
  have hwaits := oarWait_shows (u := u) (e := e) (l := l) (c := c) (by rw [h.2.1]; decide) w
  have hsettle : s.settle (u.oarWait e l c w) = u.oarWait e l c w := State.settle_same (by rw [hwaits.2.2.2]; exact h.2.2)
  refine Runs.next hi ?_
  rw [oarTry_none hnone, hsettle]
  exact hwaits

/-- An instruction that completes at once. -/
theorem runs_completes (h : OarAt s e l c run u g) {w : OarWait} {t : State} {P : State → Prop} (hends : u.waitEnds g e l c w = some t)
    (hi : exec i s = .next (s.settle (u.oarTry g e l c w))) (hocc : t.occ = u.occ) (hP : P t) : Runs i s P := by
  refine Runs.next hi ?_
  rw [oarTry_some hends, State.settle_same (hocc.trans h.2.2)]
  exact hP

end

/-! ### The instructions of the stream ports -/

section
variable {s u : State} {e : Fin 32} {l c : Fin 8} {run : OarRun} {g : OarProg} {r : BitVec 5} {imm : BitVec 12} {p : Nat}

theorem stpop_port (h : OarAt s e l c run u g) (hp : g.port imm false = some p) :
    exec (.stpop e l c r imm run) s = .next (s.settle (u.oarTry g e l c (.pop r.toNat p))) := by
  refine congrArg Host.Outcome.next ((oarDo_at h _).trans ?_)
  rw [hp]

theorem stpop_unbound (h : OarAt s e l c run u g) (hp : g.port imm false = none) :
    exec (.stpop e l c r imm run) s = .next (s.settle (u.ctxTrap e l c 2)) := by
  refine congrArg Host.Outcome.next ((oarDo_at h _).trans ?_)
  rw [hp]
  rfl

theorem stpush_port (h : OarAt s e l c run u g) (hp : g.port imm true = some p) :
    exec (.stpush e l c r imm run) s = .next (s.settle (u.oarTry g e l c (.push p ((u.ctxOf e l c).getX r.toNat)))) := by
  refine congrArg Host.Outcome.next ((oarDo_at h _).trans ?_)
  rw [hp]

theorem stpush_unbound (h : OarAt s e l c run u g) (hp : g.port imm true = none) :
    exec (.stpush e l c r imm run) s = .next (s.settle (u.ctxTrap e l c 2)) := by
  refine congrArg Host.Outcome.next ((oarDo_at h _).trans ?_)
  rw [hp]
  rfl

theorem vstpop_port (h : OarAt s e l c run u g) (hp : g.port imm false = some p) (hok : (u.ctxOf e l c).vecOk r.toNat = true) :
    exec (.vstpop e l c r imm run) s = .next (s.settle (u.oarTry g e l c (.vpop r.toNat p))) := by
  refine congrArg Host.Outcome.next ((oarDo_at h _).trans ?_)
  rw [hp]
  dsimp only
  rw [if_pos hok]

theorem vstpop_illegal (h : OarAt s e l c run u g) (hno : g.port imm false = none ∨ (u.ctxOf e l c).vecOk r.toNat = false) :
    exec (.vstpop e l c r imm run) s = .next (s.settle (u.ctxTrap e l c 2)) := by
  refine congrArg Host.Outcome.next ((oarDo_at h _).trans ?_)
  rcases hp : g.port imm false with _ | q
  · rfl
  · rw [hp] at hno
    dsimp only
    rw [if_neg (by rw [hno.resolve_left (by simp)]; decide)]
    rfl

theorem vstpush_port (h : OarAt s e l c run u g) (hp : g.port imm true = some p) (hok : (u.ctxOf e l c).vecOk r.toNat = true) :
    exec (.vstpush e l c r imm run) s =
      .next (s.settle ({ u with freeCtr := u.freeCtr + (u.ctxOf e l c).vl }.oarTry g e l c (.vpush p (u.vecWords (u.ctxOf e l c) r.toNat)))) := by
  refine congrArg Host.Outcome.next ((oarDo_at h _).trans ?_)
  rw [hp]
  dsimp only
  rw [if_pos hok]

theorem vstpush_illegal (h : OarAt s e l c run u g) (hno : g.port imm true = none ∨ (u.ctxOf e l c).vecOk r.toNat = false) :
    exec (.vstpush e l c r imm run) s = .next (s.settle (u.ctxTrap e l c 2)) := by
  refine congrArg Host.Outcome.next ((oarDo_at h _).trans ?_)
  rcases hp : g.port imm true with _ | q
  · rfl
  · rw [hp] at hno
    dsimp only
    rw [if_neg (by rw [hno.resolve_left (by simp)]; decide)]
    rfl

end

/-! ### Words in and out of a port -/

theorem State.portQ_setPortQ (s : State) (e p : Nat) (q : List (BitVec 64)) : (s.setPortQ e p q).portQ e p = q := tabGet_set_self _ _ _ _

/-- What flows into a port goes behind its words. -/
theorem portFlow_into (s : State) (k q e p : Nat) : ∃ more, (s.portFlow k q (e, p)).portQ e p = s.portQ e p ++ more := by
  unfold State.portFlow
  split
  · exact ⟨[], (List.append_nil _).symm⟩
  · exact ⟨_, State.portQ_setPortQ ..⟩

/-- Words behind those of a port come in one step after the other. -/
theorem portQ_foldl {α : Type} {e p : Nat} {f : State → α → State} (hf : ∀ u a, ∃ more, (f u a).portQ e p = u.portQ e p ++ more) :
    ∀ (as : List α) (s : State), ∃ more, (as.foldl f s).portQ e p = s.portQ e p ++ more
  | [], s => ⟨[], (List.append_nil _).symm⟩
  | a :: as, s => by
    obtain ⟨m1, h1⟩ := hf s a
    obtain ⟨m2, h2⟩ := portQ_foldl hf as (f s a)
    exact ⟨m1 ++ m2, by rw [List.foldl_cons, h2, h1, List.append_assoc]⟩

theorem portIn_into (s : State) (e p : Nat) : ∃ more, (s.portIn e p).portQ e p = s.portQ e p ++ more := by
  refine portQ_foldl (fun u k => portQ_foldl (fun v l => ?_) _ u) _ s
  split
  · refine portQ_foldl (fun w q => ?_) _ v
    split
    · exact portFlow_into ..
    · exact ⟨[], (List.append_nil _).symm⟩
  · exact ⟨[], (List.append_nil _).symm⟩

theorem portGive_ports (s : State) (g : OarProg) (e p : Nat) (vs : List (BitVec 64)) : PortsOnly s (s.portGive g e p vs).1 :=
  ((PortsOnly.refl s).setPortQ _ _ _).trans (portOut_ports ..)

theorem streamWords : StreamWords := by
  unfold StreamWords
  intro e l c rd rs1 imm run s u g h
  refine ⟨fun p w ws hp hq => ?_, fun p hp hq => runs_waits h ?_ (stpop_port h hp), fun hp => runs_traps h (stpop_unbound h hp), fun p hp hq => ?_,
    fun p hp hq => runs_waits h (if_pos hq) (stpush_port h hp), fun hp => runs_traps h (stpush_unbound h hp)⟩
  · have hports := ((PortsOnly.refl u).setPortQ e p ws).trans (portIn_ports (u.setPortQ e p ws) e p)
    have hmore := portIn_into (u.setPortQ e p ws) e p
    rw [State.portQ_setPortQ] at hmore
    have htake := portTake_word hq
    generalize (u.setPortQ e p ws).portIn e p = a at hports hmore htake
    have hends : u.waitEnds g e l c (.pop rd.toNat p) = some (a.oarResult e l c rd.toNat w) := by
      rw [waitEnds_pop, htake]
      rfl
    refine runs_completes h hends (stpop_port h hp) hports.occ ⟨?_, hports.regs, hmore⟩
    rw [Completes, oarResult_shows, hports.ctxOf]
  · rw [waitEnds_pop, portTake_none (by rw [hq]; decide)]
    rfl
  · have hports := portGive_ports u g e p [(u.ctxOf e l c).getX rs1.toNat]
    have hends : u.waitEnds g e l c (.push p ((u.ctxOf e l c).getX rs1.toNat)) = some ((u.portGive g e p [(u.ctxOf e l c).getX rs1.toNat]).1.oarResult e l c 0 0) :=
      if_neg (Nat.not_le.2 hq)
    generalize (u.portGive g e p [(u.ctxOf e l c).getX rs1.toNat]).1 = a at hports hends
    refine runs_completes h hends (stpush_port h hp) hports.occ ⟨?_, hports.regs⟩
    rw [Completes, oarResult_shows, hports.ctxOf]

/-! ### Vectors -/

section
variable {u : State} {g : OarProg} {e l c p vd : Nat}

theorem waitEnds_vpop (h : (u.ctxOf e l c).vl ≤ (u.portQ e p).length) {a : State} (ha : (u.setPortQ e p ((u.portQ e p).drop (u.ctxOf e l c).vl)).portIn e p = a) :
    u.waitEnds g e l c (.vpop vd p) =
      some (a.setCtx e l c (((u.portQ e p).take (u.ctxOf e l c).vl).zipIdx.foldl (fun y w => y.setElement vd w.2 w.1) (u.ctxOf e l c)).done) := by
  refine (congrArg (Option.map _) (portTake_some h)).trans ?_
  rw [ha]
  rfl

theorem waitEnds_vpop_short (h : (u.portQ e p).length < (u.ctxOf e l c).vl) : u.waitEnds g e l c (.vpop vd p) = none :=
  congrArg (Option.map _) (portTake_none h)

/-- How a vector's push goes on after its first words. -/
def pushedOn (g : OarProg) (e l c p : Nat) : State × List (BitVec 64) → State
  | (t, rest) =>
    let (t, rest) := if rest.isEmpty then (t, rest) else t.portGive g e p rest
    if rest.isEmpty then t.oarResult e l c 0 0 else t.oarWait e l c (.vpush p rest)

/-- A vector that fits is pushed at once. -/
theorem waitEnds_vpush {vs : List (BitVec 64)} (h : (u.portQ e p).length + vs.length ≤ 512) :
    u.waitEnds g e l c (.vpush p vs) = some ((u.portGive g e p vs).1.oarResult e l c 0 0) := by
  have hrest : (u.portGive g e p vs).2 = [] := List.drop_eq_nil_of_le (by omega)
  have hroom : ¬ (!vs.isEmpty && decide (512 ≤ (u.portQ e p).length)) = true := by
    rcases vs with _ | ⟨v, vs⟩
    · exact Bool.false_ne_true
    · have hlt : (u.portQ e p).length < 512 := by
        rw [List.length_cons] at h
        omega
      rw [decide_eq_false (Nat.not_le.2 hlt), Bool.and_false]
      decide
  have hon : u.waitEnds g e l c (.vpush p vs) = some (pushedOn g e l c p (u.portGive g e p vs)) := if_neg hroom
  rw [hon]
  rcases hgive : u.portGive g e p vs with ⟨t, rest⟩
  rw [hgive] at hrest
  obtain rfl : rest = [] := hrest
  rfl

theorem waitEnds_vpush_full {vs : List (BitVec 64)} (hvs : vs ≠ []) (h : 512 ≤ (u.portQ e p).length) : u.waitEnds g e l c (.vpush p vs) = none := by
  refine if_pos ?_
  rw [decide_eq_true h, Bool.and_true, Bool.not_eq_true', List.isEmpty_eq_false_iff]
  exact hvs

end

theorem length_vecWords (s : State) (x : OarCtx) (vs : Nat) : (s.vecWords x vs).length = x.vl := by rw [State.vecWords, List.length_map, List.length_range]

theorem streamVectors : StreamVectors := by
  unfold StreamVectors
  intro e l c vr imm run s u g p h x
  refine ⟨fun hp hok hlen => ?_, fun hp hok hlen => runs_waits h (waitEnds_vpop_short hlen) (vstpop_port h hp hok), fun hno => runs_traps h (vstpop_illegal h hno),
    fun hp hok hlen => ?_, fun hp hok hpos hlen => ?_, fun hno => runs_traps h (vstpush_illegal h hno)⟩
  · generalize ha : (u.setPortQ e p ((u.portQ e p).drop x.vl)).portIn e p = a
    have hports : PortsOnly u a := ha ▸ ((PortsOnly.refl u).setPortQ e p _).trans (portIn_ports _ e p)
    exact runs_completes h (waitEnds_vpop hlen ha) (vstpop_port h hp hok) hports.occ ⟨hports.regs, State.ctxOf_setCtx ..⟩
  · have hexec := vstpush_port h hp hok
    generalize hv : ({ u with freeCtr := u.freeCtr + (u.ctxOf e l c).vl } : State) = v at hexec
    have hq : v.portQ e p = u.portQ e p := by rw [← hv]; rfl
    have hends := waitEnds_vpush (u := v) (g := g) (e := e) (l := l) (c := c) (p := p) (vs := u.vecWords x vr.toNat) (by rw [hq, length_vecWords]; exact hlen)
    have hports := portGive_ports v g e p (u.vecWords x vr.toNat)
    generalize (v.portGive g e p (u.vecWords x vr.toNat)).1 = a at hends hports
    have hocc : a.occ = u.occ := by rw [hports.occ, ← hv]
    refine Runs.next hexec ?_
    rw [oarTry_some hends, State.settle_same (t := a.oarResult e l c 0 0) (hocc.trans h.2.2)]
    refine ⟨?_, hports.regs.trans (by rw [← hv]), hports.freeCtr.trans (by rw [← hv])⟩
    rw [Completes, oarResult_shows, hports.ctxOf, ← hv]
    rfl
  · have hexec := vstpush_port h hp hok
    generalize hv : ({ u with freeCtr := u.freeCtr + (u.ctxOf e l c).vl } : State) = v at hexec
    have hvst : v.ctxState e l c = 2 := by
      rw [← hv]
      exact h.2.1
    have hq : v.portQ e p = u.portQ e p := by rw [← hv]; rfl
    have hne : u.vecWords x vr.toNat ≠ [] := fun hnil => by
      have := length_vecWords u x vr.toNat
      rw [hnil, List.length_nil] at this
      omega
    have hnone := waitEnds_vpush_full (u := v) (g := g) (e := e) (l := l) (c := c) hne (hq ▸ hlen)
    obtain ⟨hst, hof, -, hframe⟩ := oarWait_shows (u := v) (e := e) (l := l) (c := c) (by rw [hvst]; decide) (.vpush p (u.vecWords x vr.toNat))
    refine Runs.next hexec ?_
    rw [oarTry_none hnone, State.settle_same (by rw [hframe, ← hv]; exact h.2.2)]
    refine ⟨hst, by rw [hof], ?_⟩
    rw [hframe, ← hv]

/-! ### SWAIT (R419, R478) -/

section
variable {s u : State} {e : Fin 32} {l c : Fin 8} {run : OarRun} {g : OarProg} {rd rs1 rs2 : BitVec 5} {v : Nat}

/-- A context with its selection. -/
def State.selected (u : State) (e l c v : Nat) : State := u.setCtx e l c { u.ctxOf e l c with sel := some v }

theorem ctxOf_selected (u : State) (e l c v : Nat) : (u.selected e l c v).ctxOf e l c = { u.ctxOf e l c with sel := some v } := State.ctxOf_setCtx ..

theorem swait_illegal (h : OarAt s e l c run u g) (hv : ((u.ctxOf e l c).getX rs1.toNat).toNat = v) (hbad : 1024 ≤ v ∨ (512 ≤ v ∧ v ≤ 0x3FD)) :
    exec (.swait e l c rd rs1 rs2 run) s = .next (s.settle (u.ctxTrap e l c 2)) := by
  subst hv
  refine congrArg Host.Outcome.next ((oarDo_at h _).trans ?_)
  dsimp only
  rw [if_pos (by simpa using hbad)]
  rfl

theorem swait_taken (h : OarAt s e l c run u g) (hv : ((u.ctxOf e l c).getX rs1.toNat).toNat = v) (hok : v < 512 ∨ v = 0x3FE ∨ v = 0x3FF) {w : Wake} {t : State}
    (hwake : (u.selected e l c v).seatWake e l c v = some (w, t)) : exec (.swait e l c rd rs1 rs2 run) s = .next (s.settle (t.oarResult e l c rd.toNat w.value)) := by
  subst hv
  refine congrArg Host.Outcome.next ((oarDo_at h _).trans ?_)
  dsimp only
  rw [if_neg (by simp; omega), show (u.setCtx e l c { u.ctxOf e l c with sel := some ((u.ctxOf e l c).getX rs1.toNat).toNat }).seatWake e l c _ = some (w, t) from hwake]

theorem swait_waits (h : OarAt s e l c run u g) (hv : ((u.ctxOf e l c).getX rs1.toNat).toNat = v) (hok : v < 512 ∨ v = 0x3FE ∨ v = 0x3FF)
    (hwake : (u.selected e l c v).seatWake e l c v = none) :
    exec (.swait e l c rd rs1 rs2 run) s = .next (s.settle ((u.selected e l c v).oarWait e l c (.swait rd.toNat v ((u.ctxOf e l c).getX rs2.toNat != 0)))) := by
  subst hv
  refine congrArg Host.Outcome.next ((oarDo_at h _).trans ?_)
  dsimp only
  rw [if_neg (by simp; omega), show (u.setCtx e l c { u.ctxOf e l c with sel := some ((u.ctxOf e l c).getX rs1.toNat).toNat }).seatWake e l c _ = none from hwake]
  rfl

end

/-- A wake queue set leaves the context's state. -/
theorem setQueue_shows (s : State) {e l c : Nat} (q : List Wake) {t : State} (ht : s.setQueue e l c q = t) :
    t.ctxOf e l c = { s.ctxOf e l c with queue := q } ∧ t.ctxState e l c = s.ctxState e l c ∧ t.occ = s.occ := by
  unfold State.setQueue at ht
  extract_lets +onlyGivenNames x a b at ht
  have haof : a.ctxOf e l c = { s.ctxOf e l c with queue := q } := State.ctxOf_setCtx ..
  have hbof : b.ctxOf e l c = a.ctxOf e l c := ((OnlyRegs.refl a).setFld (EGT_CTX e l c) EGT_CTX_QUEUED (min 15 q.length)).field (State.ctxOf · e l c)
  have hbst : b.ctxState e l c = s.ctxState e l c := State.fld_setFld_ne a (EGT_CTX e l c) (f := EGT_CTX_QUEUED) (g := EGT_CTX_STATE) _
  have hbocc : b.occ = s.occ := rfl
  rcases hr : b.taskRec e l c with _ | r
  · rw [hr] at ht
    subst ht
    exact ⟨hbof.trans haof, hbst, hbocc⟩
  · rw [hr] at ht
    have hlt := taskRec_lt hr
    dsimp only at ht
    have honly : OnlyRegs b t := ht ▸ ((OnlyRegs.refl b).wr _ _).wr _ _
    have hregs : RegsBut b t [(UMP_S_BKL_NOW r).off, (UMP_S_BKL_PEAK r).off] := ht ▸ ((RegsBut.refl b _).wr _ _ (by simp)).wr _ _ (by simp)
    refine ⟨(honly.field (State.ctxOf · e l c)).trans (hbof.trans haof), ?_, honly.occ.trans hbocc⟩
    rw [State.ctxState, State.fld, hregs.rd (by simp only [EGT_CTX, UMP_S_BKL_NOW, UMP_S_BKL_PEAK, List.mem_cons, List.not_mem_nil, or_false, not_or]; omega)]
    exact hbst

/-- The context's own queue comes first. -/
theorem seatWake_own {s : State} {e l c v : Nat} {w : Wake} {ws : List Wake} (h : takeWake v (s.ctxOf e l c).queue = some (w, ws)) :
    s.seatWake e l c v = some (w, s.setQueue e l c ws) := by
  unfold State.seatWake
  rw [List.findSome?_cons, h]
  rfl

theorem seatWake_none {s : State} {e l c v : Nat} (hc : c < 8) (h : ∀ k, k < 8 → takeWake v (s.ctxOf e l k).queue = none) : s.seatWake e l c v = none := by
  unfold State.seatWake
  rw [List.findSome?_eq_none_iff]
  intro k hk
  have hlt : k < 8 := by
    rcases List.mem_cons.1 hk with rfl | hk
    · exact hc
    · exact List.mem_range.1 (List.mem_filter.1 hk).1
  rw [h k hlt]
  rfl

/-- Register 0 by its number and by its name. -/
theorem if_rd_zero (r : BitVec 5) (v : BitVec 64) : (if r.toNat = 0 then 0 else v) = if r = 0 then 0 else v := by
  have h : r.toNat = 0 ↔ r = 0 := by rw [← BitVec.toNat_inj]; rfl
  by_cases hr : r = 0
  · rw [if_pos hr, if_pos (h.2 hr)]
  · rw [if_neg hr, if_neg fun hz => hr (h.1 hz)]

theorem strokeWaits : StrokeWaits := by
  unfold StrokeWaits
  intro e l c rd rs1 rs2 run s
  refine ⟨?_, fun r sel hwait hrun hst => ?_, fun r sel hwait => ?_⟩
  · intro u g h v
    refine ⟨fun hbad => runs_traps h (swait_illegal h rfl hbad), fun w ws hok htake => ?_, fun hok hnone => ?_⟩
    · have hsel := ctxOf_selected u e l c v
      have hwake := seatWake_own (s := u.selected e l c v) (e := e) (l := l) (c := c) (v := v) (w := w) (ws := ws) (by rw [hsel]; exact htake)
      obtain ⟨hof, hst, hocc⟩ := setQueue_shows (u.selected e l c v) (e := e) (l := l) (c := c) ws rfl
      have hexec := swait_taken (rd := rd) (rs2 := rs2) h rfl hok hwake
      generalize (u.selected e l c v).setQueue e l c ws = a at hof hst hocc hexec
      have hof' := oarResult_shows a e l c rd.toNat w.value
      rw [State.settle_same (t := a.oarResult e l c rd.toNat w.value) (hocc.trans h.2.2)] at hexec
      refine Runs.next hexec ⟨?_, ?_, ?_, ?_, ?_⟩
      · rw [hof', OarCtx.setX_frame, hof, hsel]
        rfl
      · rw [hof', OarCtx.getX_done, OarCtx.getX_setX, if_rd_zero]
      · rw [hof', OarCtx.setX_frame, hof, hsel]
        rfl
      · rw [hof', OarCtx.setX_frame, hof, hsel]
        rfl
      · exact hst.trans h.2.1
    · have hsel := ctxOf_selected u e l c v
      have hqueue (k : Nat) : ((u.selected e l c v).ctxOf e l k).queue = (u.ctxOf e l k).queue := by
        by_cases hk : k = c
        · rw [hk, hsel]
        · exact congrArg OarCtx.queue (tabGet_set_ne _ _ _ _ (by unfold ctxKey; omega))
      have hwake := seatWake_none (s := u.selected e l c v) (e := e) (l := l) (v := v) c.isLt fun k hk => by rw [hqueue]; exact hnone k hk
      have hexec := swait_waits (rd := rd) (rs2 := rs2) h rfl hok hwake
      have hselst : (u.selected e l c v).ctxState e l c ≠ 1 := by
        show u.ctxState e l c ≠ 1
        rw [h.2.1]
        decide
      obtain ⟨hst, hof, -, hframe⟩ := oarWait_shows hselst (.swait rd.toNat v ((u.ctxOf e l c).getX rs2.toNat != 0))
      generalize (u.selected e l c v).oarWait e l c (.swait rd.toNat v ((u.ctxOf e l c).getX rs2.toNat != 0)) = t at hst hof hframe hexec
      rw [State.settle_same (by rw [hframe]; exact h.2.2)] at hexec
      refine Runs.next hexec ⟨hst, by rw [hof], by rw [hof, hsel], ?_⟩
      rw [hof]
      rfl
  · have hof := oarResult_shows s e l c r (timeoutValue s.ns)
    obtain ⟨hst1, htof, hregs, hframe⟩ := setCtxState_shows (s := s.oarResult e l c r (timeoutValue s.ns)) (e := e) (l := l) (c := c) (v := 1)
      (show s.ctxState e l c ≠ 1 by rw [hst]; decide) (by decide) rfl
    have hexec : exec (.swaitTimeout e l c) s = .next ((s.oarResult e l c r (timeoutValue s.ns)).setCtxState e l c 1) := by
      refine congrArg Host.Outcome.next ?_
      rw [hwait]
      exact if_pos (by rw [hrun, hst]; rfl)
    refine Runs.next hexec ⟨hst1, ?_, ?_, ?_, ((RegsBut.refl s _).congr rfl).trans hregs, hframe.trans rfl⟩
    · rw [htof, hof]
      rfl
    · rw [htof, hof, OarCtx.setX_frame]
      rfl
    · rw [htof, hof]
      exact OarCtx.getX_setX ..
  · refine congrArg Host.Outcome.next ?_
    rw [hwait]

/-! ### The values that SWAIT returns -/

/-- A field that a mask leaves out is the first word's. -/
theorem or_masked_field (a r m : BitVec 64) {lo n : Nat} (h : m.toNat / 2 ^ lo % 2 ^ n = 0) : (a ||| (r &&& m)).toNat / 2 ^ lo % 2 ^ n = a.toNat / 2 ^ lo % 2 ^ n := by
  rw [BitVec.toNat_or, BitVec.toNat_and, Nat.or_div_two_pow, Nat.and_div_two_pow, Nat.or_mod_two_pow, Nat.and_mod_two_pow, h, Nat.and_zero, Nat.or_zero]

/-- The timeout bit and the time of a wake-up's word. -/
theorem wakeWord_fields {n : Nat} (hn : n < 2 ^ 64) (r m : BitVec 64) (h15 : m.toNat / 2 ^ 15 % 2 ^ 1 = 0) (h32 : m.toNat / 2 ^ 32 % 2 ^ 32 = 0) :
    (BitVec.ofNat 64 n ||| (r &&& m)).getLsbD 15 = decide (n / 2 ^ 15 % 2 = 1) ∧ (BitVec.ofNat 64 n ||| (r &&& m)).toNat / 2 ^ 32 = n / 2 ^ 32 := by
  have hlt : (BitVec.ofNat 64 n ||| (r &&& m)).toNat < 2 ^ 64 := (BitVec.ofNat 64 n ||| (r &&& m)).isLt
  have e15 := or_masked_field (BitVec.ofNat 64 n) r m h15
  have e32 := or_masked_field (BitVec.ofNat 64 n) r m h32
  rw [BitVec.toNat_ofNat, Nat.mod_eq_of_lt hn] at e15 e32
  refine ⟨?_, by omega⟩
  rw [BitVec.getLsbD, Nat.testBit_eq_decide_div_mod_eq]
  exact decide_eq_decide.2 (by omega)

/-- The low bits of a wake-up's word. -/
theorem wakeWord_low {n : Nat} (hn : n < 2 ^ 64) (r m : BitVec 64) {lo : Nat} (h : m.toNat / 2 ^ lo % 2 ^ 10 = 0) :
    (BitVec.ofNat 64 n ||| (r &&& m)).toNat / 2 ^ lo % 1024 = n / 2 ^ lo % 1024 := by
  have e := or_masked_field (BitVec.ofNat 64 n) r m h
  rwa [BitVec.toNat_ofNat, Nat.mod_eq_of_lt hn] at e

theorem wakeValue_slot {w : Wake} (h : w.slot < 512) :
    w.value = BitVec.ofNat 64 (w.slot + 4294967296 * w.ns.toNat) ||| (Config.swaitRest w.slot w.event w.ns &&& 0xFFFF7C00) := by
  have hne : w.slot ≠ 0x3FE := by omega
  unfold Wake.value
  rw [if_neg hne, if_neg hne, Nat.mod_eq_of_lt (show w.slot < 1024 by omega)]
  rfl

theorem wakeValue_event {w : Wake} (h : w.slot = 0x3FE) :
    w.value = BitVec.ofNat 64 (0x3FE + 65536 * (w.event % 1024) + 4294967296 * w.ns.toNat) ||| (Config.swaitRest w.slot w.event w.ns &&& 0xFC007C00) := by
  unfold Wake.value
  rw [if_pos h, if_pos h]
  rw [h]

theorem strokeWaitValues : StrokeWaitValues := by
  unfold StrokeWaitValues
  refine ⟨fun w hslot => ?_, fun w hslot => ?_, fun ns => ?_⟩
  · have hns : w.ns.toNat < 2 ^ 32 := w.ns.isLt
    have hn : w.slot + 4294967296 * w.ns.toNat < 2 ^ 64 := by omega
    obtain ⟨h15, h32⟩ := wakeWord_fields hn (Config.swaitRest w.slot w.event w.ns) 0xFFFF7C00 (by decide) (by decide)
    have h0 := wakeWord_low hn (Config.swaitRest w.slot w.event w.ns) 0xFFFF7C00 (lo := 0) (by decide)
    rw [wakeValue_slot hslot, h15, h32]
    rw [Nat.pow_zero, Nat.div_one] at h0
    refine ⟨by omega, decide_eq_false (by omega), by omega⟩
  · have hns : w.ns.toNat < 2 ^ 32 := w.ns.isLt
    have hn : 0x3FE + 65536 * (w.event % 1024) + 4294967296 * w.ns.toNat < 2 ^ 64 := by omega
    obtain ⟨h15, h32⟩ := wakeWord_fields hn (Config.swaitRest w.slot w.event w.ns) 0xFC007C00 (by decide) (by decide)
    have h0 := wakeWord_low hn (Config.swaitRest w.slot w.event w.ns) 0xFC007C00 (lo := 0) (by decide)
    have h16 := wakeWord_low hn (Config.swaitRest w.slot w.event w.ns) 0xFC007C00 (lo := 16) (by decide)
    rw [wakeValue_event hslot, h15, h32]
    rw [Nat.pow_zero, Nat.div_one] at h0
    refine ⟨by omega, decide_eq_false (by omega), by omega, by omega⟩
  · have hns : ns.toNat < 2 ^ 32 := ns.isLt
    obtain ⟨h15, h32⟩ := wakeWord_fields (show 0x8000 + 4294967296 * ns.toNat < 2 ^ 64 by omega) (Config.swaitRest 0x400 0 ns) 0xFFFF7FFF (by decide) (by decide)
    refine ⟨h15.trans (decide_eq_true (by omega)), h32.trans (by omega)⟩

/-- Settles O41, by the rules of the stream ports, the vectors and SWAIT. -/
theorem oarStreamsAndWaits : Obligations.OarStreamsAndWaits := ⟨streamWords, streamVectors, strokeWaits, strokeWaitValues⟩

end Sys2Proof.Machine
end

section
/-! PROOFS. EVRAISE, the DMA of the Eights, and taps (R93, R418 to R420, R425). -/

-- One proof at a time: the text is compiled as one file in bounded memory.
set_option Elab.async false

namespace Sys2Proof.Machine
open Sys2Proof.Claims

/-! ### EVRAISE -/

theorem evNum (n : Nat) : bitsOf n 9 0 = n % 1024 := bitsOf_low n 9

section
variable {s u : State} {e : Fin 32} {l c : Fin 8} {run : OarRun} {g : OarProg} {rd rs1 rs2 : BitVec 5}

theorem evraise_illegal (h : OarAt s e l c run u g) (hrd : rd ≠ 0) : exec (.evraise e l c rd rs1 rs2 run) s = .next (s.settle (u.ctxTrap e l c 2)) := by
  refine congrArg Host.Outcome.next ((oarDo_at h _).trans ?_)
  dsimp only
  rw [if_pos hrd]
  rfl

theorem evraise_permitted (h : OarAt s e l c run u g) (hrd : rd = 0) {n : Nat} (hn : ((u.ctxOf e l c).getX rs1.toNat).toNat % 1024 = n) (hok : bitsOf (leNat g.events) n n = 1) :
    exec (.evraise e l c rd rs1 rs2 run) s =
      .next (s.settle ((u.oarResult e l c 0 0).raise n (0x0100 + e.val) [w32 ((u.ctxOf e l c).getX rs2.toNat).toNat])) := by
  subst hn
  refine congrArg Host.Outcome.next ((oarDo_at h _).trans ?_)
  dsimp only
  rw [if_neg (not_not.2 hrd), evNum, if_pos hok]

theorem evraise_denied (h : OarAt s e l c run u g) (hrd : rd = 0) {n : Nat} (hn : ((u.ctxOf e l c).getX rs1.toNat).toNat % 1024 = n) (hno : bitsOf (leNat g.events) n n = 0) :
    exec (.evraise e l c rd rs1 rs2 run) s =
      .next (s.settle (((u.oarResult e l c 0 0).inc (EGT_EV_DENY e)).raiseOnce 69 e.val (0x0100 + e.val) [w32 e.val])) := by
  subst hn
  refine congrArg Host.Outcome.next ((oarDo_at h _).trans ?_)
  dsimp only
  rw [if_neg (not_not.2 hrd), evNum, if_neg (by rw [hno]; decide)]

end

theorem eventsOfOars : EventsOfOars := by
  unfold EventsOfOars
  intro e l c rd rs1 rs2 run s u g h x n
  have he := e.isLt
  have hl := l.isLt
  have hc := c.isLt
  have hnlt : n < 1024 := Nat.mod_lt _ (by decide)
  refine ⟨fun hrd => runs_traps h (evraise_illegal h hrd), fun hrd hok => ?_, fun hrd hno => ?_⟩
  · have hexec := evraise_permitted (rs2 := rs2) h hrd (rs1 := rs1) (n := n) rfl hok
    have hof := oarResult_shows u e l c 0 0
    generalize ha : u.oarResult e l c 0 0 = a at hexec hof
    have haocc : a.occ = u.occ := by rw [← ha]; rfl
    have haregs : a.regs = u.regs := by rw [← ha]; rfl
    rw [State.settle_raise _ _ _ (haocc.trans h.2.2)] at hexec
    refine Runs.next hexec ⟨hof, ?_, ((RegsBut.refl u _).congr haregs).raise n _ _ fun _ ho => ho⟩
    have hval : w32 ((u.ctxOf e l c).getX rs2.toNat).toNat = (x.getX rs2.toNat).setWidth 32 := BitVec.eq_of_toNat_eq rfl
    rw [← hval]
    exact State.raised_raise n _ _ haocc (by rw [State.rd, haregs]; rfl)
  · have hexec := evraise_denied (rs2 := rs2) h hrd (rs1 := rs1) (n := n) rfl hno
    have hof := oarResult_shows u e l c 0 0
    generalize ha : u.oarResult e l c 0 0 = a at hexec hof
    have haregs : a.regs = u.regs := by rw [← ha]; rfl
    generalize hb : a.inc (EGT_EV_DENY e) = b at hexec
    have hbregs : RegsBut u b [(EGT_EV_DENY e).off] := hb ▸ ((RegsBut.refl u _).congr haregs).inc _ _
    have hbdeny : b.rd (EGT_EV_DENY e) = satAdd (u.rd (EGT_EV_DENY e)) 1 := by
      rw [← hb, State.inc_eq, State.rd_wr_self, State.rd, haregs]
      rfl
    have hraise := State.raiseOnce_regs b 69 e.val (0x0100 + e.val) [w32 e.val]
    have hctx : (b.raiseOnce 69 e.val (0x0100 + e.val) [w32 e.val]).eng = b.eng := by
      unfold State.raiseOnce
      split <;> rfl
    have hb0 : b.ctxOf e l c = a.ctxOf e l c := by
      rw [← hb]
      exact ((OnlyRegs.refl a).inc (EGT_EV_DENY e) 1).field (State.ctxOf · e l c)
    refine Runs.next hexec ⟨?_, ?_, ?_⟩
    · show tabGet (b.raiseOnce 69 e.val (0x0100 + e.val) [w32 e.val]).eng.ctx {} (ctxKey e l c) = _
      rw [hctx]
      exact hb0.trans hof
    · rw [State.rd_settle, hraise.rd (by simp only [evRegs, EVT_R_CNT, EVT_R_LAST, EGT_EV_DENY, List.mem_cons, List.not_mem_nil, or_false, not_or]; omega)]
      exact hbdeny
    · exact ((hbregs.mono (by simp)).trans (hraise.mono fun o ho => by simp [ho])).settle

/-! ### DMASTART and DMAWAIT -/

section
variable {s u : State} {e : Fin 32} {l c : Fin 8} {run : OarRun} {g : OarProg} {rd rs1 rs2 : BitVec 5}

theorem dmastart_illegal (h : OarAt s e l c run u g) (hrs : rs2 ≠ 0) : exec (.dmastart e l c rd rs1 rs2 run) s = .next (s.settle (u.ctxTrap e l c 2)) := by
  refine congrArg Host.Outcome.next ((oarDo_at h _).trans ?_)
  rw [if_pos hrs]
  rfl

theorem dmawait_illegal (h : OarAt s e l c run u g) (hrs : rs2 ≠ 0) : exec (.dmawait e l c rd rs1 rs2 run) s = .next (s.settle (u.ctxTrap e l c 2)) := by
  refine congrArg Host.Outcome.next ((oarDo_at h _).trans ?_)
  rw [if_pos hrs]
  rfl

theorem dmastart_tries (h : OarAt s e l c run u g) (hrs : rs2 = 0) :
    exec (.dmastart e l c rd rs1 rs2 run) s = .next (s.settle (u.oarTry g e l c (.dmaStart rd.toNat ((u.ctxOf e l c).getX rs1.toNat).toNat))) := by
  refine congrArg Host.Outcome.next ((oarDo_at h _).trans ?_)
  rw [if_neg (not_not.2 hrs)]

theorem dmawait_tries (h : OarAt s e l c run u g) (hrs : rs2 = 0) :
    exec (.dmawait e l c rd rs1 rs2 run) s = .next (s.settle (u.oarTry g e l c (.dmaWait rd.toNat (((u.ctxOf e l c).getX rs1.toNat).toNat % 65536)))) := by
  refine congrArg Host.Outcome.next ((oarDo_at h _).trans ?_)
  rw [if_neg (not_not.2 hrs)]

end

/-- The 32 bytes of a descriptor. -/
def State.descAt (u : State) (e l a : Nat) : List Byte := (List.range 32).map (fun i => u.oarByte e l (a + i))

/-- The ticket that a descriptor gets. -/
def dmaTicket (g : OarProg) (num : Nat) (d : List Byte) : Ticket := ⟨num, d, if g.dmaOk (oarDma d) then none else some 1⟩

theorem dmaTicket_status (g : OarProg) (num : Nat) (d : List Byte) :
    ((dmaTicket g num d).status = none ↔ g.dmaOk (oarDma d) = true) ∧ ((dmaTicket g num d).status ≠ none → (dmaTicket g num d).status = some 1) := by
  unfold dmaTicket
  by_cases h : g.dmaOk (oarDma d) = true <;> simp [h]

/-- A context that has taken a ticket. -/
def OarCtx.ticketed (x : OarCtx) (k : Ticket) : OarCtx :=
  { x with tickets := x.tickets.filter (fun (j : Ticket) => j.num != x.nextTicket) ++ [k], nextTicket := (x.nextTicket + 1) % 65536 }

/-- A context that has used a ticket up. -/
def OarCtx.spent (x : OarCtx) (n : Nat) : OarCtx := { x with tickets := x.tickets.filter (fun k => k.num != n) }

section
variable {u : State} {g : OarProg} {e l c rd a n : Nat}

theorem waitEnds_dmaStart_fault (hopen : (u.ctxOf e l c).open_ < 4) (h : 0x40000 < a + 32) : u.waitEnds g e l c (.dmaStart rd a) = some (u.ctxTrap e l c 5) :=
  (if_pos hopen).trans (congrArg some (if_pos h))

theorem waitEnds_dmaStart (hopen : (u.ctxOf e l c).open_ < 4) (h : a + 32 ≤ 0x40000) : u.waitEnds g e l c (.dmaStart rd a) =
    some (u.setCtx e l c ((((u.ctxOf e l c).ticketed (dmaTicket g (u.ctxOf e l c).nextTicket (u.descAt e l a))).setX rd (BitVec.ofNat 64 (u.ctxOf e l c).nextTicket)).done)) :=
  (if_pos hopen).trans (congrArg some (if_neg (Nat.not_lt.2 h)))

theorem waitEnds_dmaStart_full (hopen : 4 ≤ (u.ctxOf e l c).open_) : u.waitEnds g e l c (.dmaStart rd a) = none := if_neg (Nat.not_lt.2 hopen)

theorem waitEnds_dmaWait_unknown (h : (u.ctxOf e l c).tickets.find? (fun k => k.num == n) = none) : u.waitEnds g e l c (.dmaWait rd n) = some (u.oarResult e l c rd 3) := by
  show u.dmaStatus e l c rd n = _
  unfold State.dmaStatus
  extract_lets +onlyGivenNames x
  rw [show x.tickets.find? (fun k => k.num == n) = none from h]

theorem waitEnds_dmaWait_ended {k : Ticket} {v : Nat} (h : (u.ctxOf e l c).tickets.find? (fun k => k.num == n) = some k) (hk : k.status = some v) :
    u.waitEnds g e l c (.dmaWait rd n) = some (u.setCtx e l c ((((u.ctxOf e l c).spent n).setX rd (BitVec.ofNat 64 v)).done)) := by
  show u.dmaStatus e l c rd n = _
  unfold State.dmaStatus
  extract_lets +onlyGivenNames x
  rw [show x.tickets.find? (fun k => k.num == n) = some k from h]
  dsimp only
  rw [hk]
  rfl

theorem waitEnds_dmaWait_out {k : Ticket} (h : (u.ctxOf e l c).tickets.find? (fun k => k.num == n) = some k) (hk : k.status = none) :
    u.waitEnds g e l c (.dmaWait rd n) = none := by
  show u.dmaStatus e l c rd n = _
  unfold State.dmaStatus
  extract_lets +onlyGivenNames x
  rw [show x.tickets.find? (fun k => k.num == n) = some k from h]
  dsimp only
  rw [hk]

end

theorem transfersOfOars : TransfersOfOars := by
  unfold TransfersOfOars
  intro e l c rd rs1 rs2 run s u g h x a n
  refine ⟨fun hrs => ⟨runs_traps h (dmastart_illegal h hrs), runs_traps h (dmawait_illegal h hrs)⟩, fun hrs hopen hbad => ?_, fun hrs hopen hok => ?_,
    fun hrs hopen => runs_waits h (waitEnds_dmaStart_full hopen) (dmastart_tries h hrs), fun hrs hunknown => ?_, fun k v hrs hfind hk => ?_,
    fun k hrs hfind hk => runs_waits h (waitEnds_dmaWait_out hfind hk) (dmawait_tries h hrs)⟩
  · refine runs_traps h ((dmastart_tries h hrs).trans ?_)
    rw [oarTry_some (waitEnds_dmaStart_fault hopen hbad)]
  · generalize hy : ((x.ticketed (dmaTicket g x.nextTicket (u.descAt e l a))).setX rd.toNat (BitVec.ofNat 64 x.nextTicket)).done = y
    have hends := (waitEnds_dmaStart (u := u) (g := g) (rd := rd.toNat) hopen hok).trans (congrArg (fun z => some (u.setCtx e l c z)) hy)
    have hof := u.ctxOf_setCtx e l c y
    refine runs_completes h hends (dmastart_tries h hrs) rfl ⟨⟨dmaTicket g x.nextTicket (u.descAt e l a), ?_, rfl, rfl, ?_⟩, ?_, ?_, ?_, rfl, fun _ => rfl⟩
    · rw [hof, ← hy, OarCtx.setX_frame]
      exact List.mem_append_right _ (List.mem_singleton_self _)
    · exact dmaTicket_status g x.nextTicket (u.descAt e l a)
    · rw [hof, ← hy, OarCtx.getX_done, OarCtx.getX_setX, if_rd_zero]
    · rw [hof, ← hy, OarCtx.setX_frame]
      rfl
    · rw [hof, ← hy, OarCtx.setX_frame]
      rfl
  · have hnone : x.tickets.find? (fun k => k.num == n) = none := List.find?_eq_none.2 fun k hk => by simpa using hunknown k hk
    exact runs_completes h (waitEnds_dmaWait_unknown hnone) (dmawait_tries h hrs) rfl (oarResult_shows ..)
  · generalize hy : ((x.spent n).setX rd.toNat (BitVec.ofNat 64 v)).done = y
    have hends := (waitEnds_dmaWait_ended (u := u) (g := g) (rd := rd.toNat) hfind hk).trans (congrArg (fun z => some (u.setCtx e l c z)) hy)
    have hof := u.ctxOf_setCtx e l c y
    refine runs_completes h hends (dmawait_tries h hrs) rfl ⟨fun j hj => ?_, ?_, ?_⟩
    · rw [hof, ← hy, OarCtx.setX_frame] at hj
      simpa using (List.mem_filter.1 hj).2
    · rw [hof, ← hy, OarCtx.getX_done, OarCtx.getX_setX, if_rd_zero]
    · rw [hof, ← hy, OarCtx.setX_frame]
      rfl

/-! ### The end of a transfer -/

/-- A context's ticket ends with a status. -/
def OarCtx.ended (x : OarCtx) (num st : Nat) : OarCtx := { x with tickets := x.tickets.map (fun k => if k.num == num then { k with status := some st } else k) }

theorem ended_status (x : OarCtx) (num st : Nat) : ∀ j, j ∈ (x.ended num st).tickets → j.num = num → j.status = some st := by
  intro j hj hnum
  obtain ⟨k, -, rfl⟩ := List.mem_map.1 hj
  by_cases h : (k.num == num) = true
  · rw [if_pos h]
  · rw [if_neg h] at hnum
    exact absurd (beq_iff_eq.2 hnum) h

section
variable {s : State} {e : Fin 32} {l c : Fin 8} {num : BitVec 16} {poison : Bool} {k : Ticket} {g : OarProg}

theorem dmaComplete_failed (hk : (s.ctxOf e l c).tickets.find? (fun t => t.num == num.toNat && t.status.isNone) = some k) (hg : s.prog e l = some g)
    (hseat : (s.rd (EGT_SEAT_STATE e)).getLsbD (s.physSeat e l) = true) :
    exec (.oarDmaComplete e l c num poison) s = .next (s.settle (s.setCtx e l c ((s.ctxOf e l c).ended num.toNat 2))) := by
  refine congrArg Host.Outcome.next ?_
  extract_lets +onlyGivenNames x
  rw [show x.tickets.find? (fun t => t.num == num.toNat && t.status.isNone) = some k from hk, hg]
  dsimp only
  rw [show bitOf (s.rd (EGT_SEAT_STATE e)) (s.physSeat e l) = true from hseat, if_pos rfl, Bool.true_or, if_pos rfl]
  rfl

theorem dmaComplete_moved (hk : (s.ctxOf e l c).tickets.find? (fun t => t.num == num.toNat && t.status.isNone) = some k) (hg : s.prog e l = some g)
    (hseat : (s.rd (EGT_SEAT_STATE e)).getLsbD (s.physSeat e l) = false) {m : State} (hm : s.dmaMove g e l (oarDma k.desc) = m) :
    exec (.oarDmaComplete e l c num poison) s = .next (s.settle (m.setCtx e l c ((m.ctxOf e l c).ended num.toNat (if poison then 2 else 0)))) := by
  refine congrArg Host.Outcome.next ?_
  extract_lets +onlyGivenNames x
  rw [show x.tickets.find? (fun t => t.num == num.toNat && t.status.isNone) = some k from hk, hg]
  dsimp only
  rw [show bitOf (s.rd (EGT_SEAT_STATE e)) (s.physSeat e l) = false from hseat, if_neg Bool.false_ne_true, Bool.false_or, hm]
  rfl

end

/-- A row from local memory to GDDR7. -/
theorem dmaMove_row {s : State} {g : OarProg} {e l : Nat} {d : OarDma} {p q : OarPlace} (hrows : d.rows = 1) (hsrc : g.pieces d.src d.len 0 = some [(p, d.len)]) (hp : p.kind = 0)
    (hdst : g.pieces d.dst d.len 1 = some [(q, d.len)]) (hq : q.kind = 2) :
    s.dmaMove g e l d = s.memWrite q.at_ ((List.range d.len).map (fun i => s.oarByte e l (p.at_ + i))) := by
  have hread : s.placeRead e l p d.len = ((List.range d.len).map (fun i => s.oarByte e l (p.at_ + i)), s) := by
    unfold State.placeRead
    rw [if_neg (by rw [hp]; decide), if_neg (by rw [hp]; decide)]
  have htake : ((List.range d.len).map (fun i => s.oarByte e l (p.at_ + i))).take d.len = (List.range d.len).map (fun i => s.oarByte e l (p.at_ + i)) :=
    List.take_of_length_le (by rw [List.length_map, List.length_range])
  unfold State.dmaMove
  rw [hrows, List.range_one, List.foldl_cons, List.foldl_nil, Nat.zero_mul, Nat.zero_mul, Nat.add_zero, Nat.add_zero]
  unfold State.dmaRow
  rw [hsrc, hdst]
  dsimp only [List.foldl_cons, List.foldl_nil]
  rw [hread]
  dsimp only
  rw [List.nil_append, htake]
  unfold State.placeWrite
  exact if_pos hq

theorem transfersEnd : TransfersEnd := by
  unfold TransfersEnd
  intro e l c num poison s
  refine ⟨fun h => ?_, ?_⟩
  · have hnone : (s.ctxOf e l c).tickets.find? (fun t => t.num == num.toNat && t.status.isNone) = none := by
      refine List.find?_eq_none.2 fun k hk hb => ?_
      rw [Bool.and_eq_true, beq_iff_eq, Option.isNone_iff_eq_none] at hb
      exact h k hk hb.1 hb.2
    refine congrArg Host.Outcome.next ?_
    extract_lets +onlyGivenNames x
    rw [show x.tickets.find? (fun t => t.num == num.toNat && t.status.isNone) = none from hnone]
  intro k g hk hg ended
  refine ⟨fun hseat => ?_, fun a b n hseat hrows hlen hpieces => ?_⟩
  · refine Runs.next (dmaComplete_failed hk hg hseat) ⟨?_, fun _ => rfl, rfl⟩
    have hof := s.ctxOf_setCtx e l c ((s.ctxOf e l c).ended num.toNat 2)
    exact fun j hj => ended_status _ _ _ j (by rw [← hof]; exact hj)
  · obtain ⟨p, q, hsrc, hp, hpa, hdst, hq, hqb⟩ := hpieces
    subst hlen
    have hmove := dmaMove_row (s := s) (e := e) (l := l) hrows hsrc hp hdst hq
    rw [hpa, hqb] at hmove
    generalize hbs : (List.range (oarDma k.desc).len).map (fun i => s.oarByte e l (a + i)) = bs at hmove
    have hlen : bs.length = (oarDma k.desc).len := by rw [← hbs, List.length_map, List.length_range]
    have hframe := memWrite_frame s b bs
    have hmem : (∀ i, i < (oarDma k.desc).len → (s.memWrite b bs).mem (b + i) = s.oarByte e l (a + i)) ∧
        ∀ i, i < b ∨ b + (oarDma k.desc).len ≤ i → (s.memWrite b bs).mem i = s.mem i := by
      refine ⟨fun i hi => ?_, fun i hi => s.mem_memWrite_out b bs (by rw [hlen]; exact hi)⟩
      rw [s.mem_memWrite_in b bs (by rw [hlen]; exact hi), ← hbs, List.getD_eq_getElem _ _ (by rw [List.length_map, List.length_range]; exact hi), List.getElem_map, List.getElem_range]
    generalize s.memWrite b bs = m at hmove hframe hmem
    refine Runs.next (dmaComplete_moved hk hg hseat hmove) ⟨?_, ?_, hmem⟩
    · have hof := m.ctxOf_setCtx e l c ((m.ctxOf e l c).ended num.toNat (if poison then 2 else 0))
      exact fun j hj => ended_status _ _ _ j (by rw [← hof]; exact hj)
    · show m.regs = s.regs
      rw [hframe]

/-! ### Taps (R418) -/

theorem tapPort_lt {s : State} {kind inst e p : Nat} (h : s.tapPort kind inst = some (e, p)) : e < 32 := by
  rw [State.tapPort] at h
  obtain ⟨k, hk, hmem⟩ := List.mem_flatMap.1 (List.mem_of_head? h)
  obtain ⟨l, -, hmem⟩ := List.mem_flatMap.1 hmem
  have hek : e = k := by
    split at hmem
    · obtain ⟨q, -, hq⟩ := List.mem_filterMap.1 hmem
      split at hq
      · exact (Prod.mk.inj (Option.some.inj hq)).1.symm
      · exact absurd hq (by simp)
    · exact absurd hmem List.not_mem_nil
  exact hek ▸ List.mem_range.1 hk

theorem tapsFeedPorts : TapsFeedPorts := by
  unfold TapsFeedPorts
  intro look inst w s
  refine ⟨fun hnone => congrArg Host.Outcome.next ?_, fun e p hport hrun => ?_⟩
  · unfold State.tapWord
    rw [hnone]
  have hexec : exec (.tapWord look inst w) s = .next (if (s.portQ e p).length < 512 then s.setPortQ e p (s.portQ e p ++ [w])
      else (s.inc (EGT_PORT_DROP e)).raiseOnce 70 e (0x0100 + e) [w32 e]) := by
    refine congrArg Host.Outcome.next ?_
    unfold State.tapWord
    rw [hport]
    dsimp only
    rw [if_neg (by rw [hrun]; decide)]
  refine ⟨fun hroom => ?_, fun hfull hfresh => ?_⟩
  · rw [if_pos hroom] at hexec
    exact Runs.next hexec ⟨State.portQ_setPortQ .., rfl⟩
  · have he := tapPort_lt hport
    rw [if_neg (Nat.not_lt.2 hfull)] at hexec
    generalize ha : s.inc (EGT_PORT_DROP e) = a at hexec
    have haframe : a = { s with regs := a.regs } := by rw [← ha]; rfl
    have haregs : RegsBut s a [(EGT_PORT_DROP e).off] := ha ▸ (RegsBut.refl s _).inc _ _
    have hadrop : a.rd (EGT_PORT_DROP e) = satAdd (s.rd (EGT_PORT_DROP e)) 1 := by rw [← ha, State.inc_eq, State.rd_wr_self]
    have honce : a.raiseOnce 70 e (0x0100 + e) [w32 e] = { a with roundFlags := (70, e) :: a.roundFlags }.raise 70 (0x0100 + e) [w32 e] := by
      refine if_neg ?_
      rw [haframe, List.contains_iff_mem]
      exact hfresh
    rw [honce] at hexec
    generalize hb : ({ a with roundFlags := (70, e) :: a.roundFlags } : State) = b at hexec
    have hbregs : b.regs = a.regs := by rw [← hb]
    refine Runs.next hexec ⟨?_, ?_, ?_⟩
    · rw [State.rd_raise _ _ _ _ (by simp only [EGT_PORT_DROP, EVT_R_CNT]; omega) (by simp only [EGT_PORT_DROP, EVT_R_LAST]; omega), State.rd, hbregs]
      exact hadrop
    · refine State.raised_raise 70 _ _ (by rw [← hb, haframe]) ?_
      rw [State.rd, hbregs]
      exact haregs.rd (by simp only [EGT_PORT_DROP, EVT_R_CNT, List.mem_singleton]; omega)
    · rw [← hb, haframe]
      rfl

/-- Settles O42, by the rules of EVRAISE, of tickets and of taps. -/
theorem oarTransfers : Obligations.OarTransfers := ⟨eventsOfOars, transfersOfOars, transfersEnd, tapsFeedPorts⟩

end Sys2Proof.Machine
end

section
/-! PROOFS. Watchdogs of Eights, and Coaches that fail over (R422, R428). -/

-- One proof at a time: the text is compiled as one file in bounded memory.
set_option Elab.async false

namespace Sys2Proof.Machine
open Sys2Proof.Claims

/-! ### A fault of a block on which nothing depends -/

/-- The registers of such a fault's block and of its events. -/
def FaultedOff (o : Nat) : Prop := FaultOff o ∨ o ∈ evRegs 966 ∨ o ∈ evRegs 967

/-- The registers that such a fault can change: these, and the hold's count. -/
def WatchOff (o : Nat) : Prop := FaultedOff o ∨ o = RIG_STATUS.off

/-- The restart that a fault leaves due, or its limit passed (R501). -/
def State.faultMarked (s : State) (b : Nat) (k : Blk) : State :=
  let window := max 1 (bitsOf (s.rd HLT_RESTART).toNat 23 16)
  let count := max 1 (bitsOf (s.rd HLT_RESTART).toNat 7 0)
  let recent := k.restarts.filter (fun t => decide (s.ticks < t + ticksOfMs (1000 * window)))
  if recent.length < count then s.setBlk b { s.blkOf b with restarts := s.ticks :: recent, restartDue := true }
  else (s.setBlk b { s.blkOf b with restarts := recent, restartDue := false, gaveUp := true }).raise 967 0x0E05 [w32 b]

theorem faultMarked_cases (s : State) (b : Nat) (k : Blk) : ∃ j : Blk, j.phase = (s.blkOf b).phase ∧ j.code = (s.blkOf b).code ∧
    (s.faultMarked b k = s.setBlk b j ∨ s.faultMarked b k = (s.setBlk b j).raise 967 0x0E05 [w32 b]) := by
  unfold State.faultMarked
  extract_lets +onlyGivenNames window count recent
  by_cases h : recent.length < count
  · refine ⟨_, ?_, ?_, .inl (if_pos h)⟩ <;> rfl
  · refine ⟨_, ?_, ?_, .inr (if_neg h)⟩ <;> rfl

section
variable {s : State} {b : Nat}

theorem blkFault_eq (h : ¬ (decide ((s.blkOf b).phase = .down) || decide ((s.blkOf b).phase = .stopped)) = true) :
    s.blkFault b = (((s.raise 966 0x0E05 [w32 b]).blkFail b 2).faultMarked b (s.blkOf b)).holdCheck := if_neg h

/-- The end of a hold does not follow a fault outside one. -/
theorem holdCheck_kept {y : State} (hrig : s.rigState < 3) (hy : (y.blkOf b).phase = .stopped ∧ (y.blkOf b).code = 2 ∧ RegsIn FaultedOff s y ∧ y.g7 = s.g7) :
    (y.holdCheck.blkOf b).phase = .stopped ∧ (y.holdCheck.blkOf b).code = 2 ∧ RegsIn WatchOff s y.holdCheck ∧ SameMem s y.holdCheck := by
  obtain ⟨hph, hcode, hyregs, hg7⟩ := hy
  have hyrig : y.rigState = s.rigState := by
    rw [State.rigState, State.fld, hyregs.rd (by simp [FaultedOff, FaultOff, CoachOff, RIG_STATUS, evRegs, EVT_R_CNT, EVT_R_LAST])]
    rfl
  rw [State.holdCheck_idle (by rw [hyrig]; exact hrig)]
  generalize ht : y.setHeld (y.rig.listed.length - y.unheld.length) = t
  have honly : OnlyRegs y t := ht ▸ (OnlyRegs.refl y).setFld RIG_STATUS _ _
  have hregs : RegsIn WatchOff s t := ht ▸ RegsIn.wr (fun o ho => hyregs o fun h => ho (.inl h)) RIG_STATUS _ (.inr rfl)
  rw [honly.field (State.blkOf · b)]
  refine ⟨hph, hcode, hregs, fun a => ?_⟩
  rw [honly.field (State.mem · a), State.mem, State.mem, hg7]

/-- A block's fault stops it with 0x02, whether it may restart or not. -/
theorem blkFault_stops (hdown : (s.raise 966 0x0E05 [w32 b]).downstream b = [])
    (hunits : FaultFrame (s.raise 966 0x0E05 [w32 b]) ((s.raise 966 0x0E05 [w32 b]).unitsStop b 2)) (hrig : s.rigState < 3)
    (hphase : (s.blkOf b).phase = .running ∨ (s.blkOf b).phase = .held) :
    ((s.blkFault b).blkOf b).phase = .stopped ∧ ((s.blkFault b).blkOf b).code = 2 ∧ RegsIn WatchOff s (s.blkFault b) ∧ SameMem s (s.blkFault b) := by
  generalize hu : s.raise 966 0x0E05 [w32 b] = u at hdown hunits
  have huphase : (u.blkOf b).phase = .running ∨ (u.blkOf b).phase = .held := by rw [← hu]; exact hphase
  have huregs : RegsIn FaultedOff s u := hu ▸ ((RegsBut.refl s _).raise 966 0x0E05 [w32 b] fun _ h => h).regsIn fun o ho => .inr (.inl ho)
  obtain ⟨hframe, hregs⟩ := hunits.trans (State.strmsStop_fault _ b 2)
  have hfail : u.blkFail b 2 = ((u.unitsStop b 2).strmsStop b 2).setBlk b { u.blkOf b with phase := .stopped, code := 2, upstream := 0 } := by
    rw [State.blkFail_alone 2 hdown, State.blkStop_active 2 huphase]
  generalize (u.unitsStop b 2).strmsStop b 2 = w at hframe hregs hfail
  generalize hx : w.setBlk b { u.blkOf b with phase := .stopped, code := 2, upstream := 0 } = x at hfail
  have hxblk : x.blkOf b = { u.blkOf b with phase := .stopped, code := 2, upstream := 0 } := by rw [← hx, State.blkOf_setBlk_self]
  have hxregs : RegsIn FaultedOff s x := (huregs.trans (fun o ho => hregs o fun h => ho (.inl h))).congr (by rw [← hx]; rfl)
  have hxg7 : x.g7 = s.g7 := by
    rw [← hx]
    show w.g7 = s.g7
    rw [hframe, ← hu, State.raise_g7]
  have hno : ¬ (decide ((s.blkOf b).phase = .down) || decide ((s.blkOf b).phase = .stopped)) = true := by rcases hphase with h | h <;> rw [h] <;> decide
  rw [blkFault_eq hno, hu, hfail]
  refine holdCheck_kept hrig ?_
  obtain ⟨k, hph, hcode, hmark⟩ := faultMarked_cases x b (s.blkOf b)
  rw [hxblk] at hph hcode
  have hkblk : (x.setBlk b k).blkOf b = k := State.blkOf_setBlk_self ..
  have hkregs : RegsIn FaultedOff s (x.setBlk b k) := hxregs.congr rfl
  have hkg7 : (x.setBlk b k).g7 = s.g7 := hxg7
  rcases hmark with h | h <;> rw [h]
  · exact ⟨by rw [hkblk, hph], by rw [hkblk, hcode], hkregs, hkg7⟩
  · have hraise : RegsIn FaultedOff s ((x.setBlk b k).raise 967 0x0E05 [w32 b]) :=
      hkregs.trans (((RegsBut.refl _ _).raise 967 0x0E05 [w32 b] fun _ h => h).regsIn fun o ho => .inr (.inr ho))
    exact ⟨(congrArg Blk.phase hkblk).trans hph, (congrArg Blk.code hkblk).trans hcode, hraise, (State.raise_g7 ..).trans hkg7⟩

end

/-- Nothing depends on an Eight or a Coach. -/
theorem downstream_none {s : State} {b : Nat} (h : bidType b = 0x01 ∨ bidType b = 0x0F) : s.downstream b = [] := by
  unfold State.downstream
  rcases h with h | h <;> rw [h] <;> rfl

/-! ### The watchdog of an Eight (R422) -/

theorem eightStop_fault (s : State) {b : Nat} (htype : bidType b = 0x01) (code : Nat) : FaultFrame s (s.unitsStop b code) := by
  have hrun : s.unitsStop b code = s.eightStop (bidUnit b) code := by
    unfold State.unitsStop
    rw [htype]
    rfl
  have hoff : FaultOff (EGT_STATUS (bidUnit b)).off := .inr (.inr (by simp only [EGT_STATUS]; omega))
  rw [hrun]
  unfold State.eightStop
  extract_lets +onlyGivenNames a
  have ha : FaultFrame s a := FaultFrame.wr s _ hoff
  split
  · exact ha.trans (FaultFrame.wr a _ hoff)
  · exact ha

/-- An event's registers outside a fault's. -/
theorem watchOff_event {ev : Nat} (h : ev < 900) : ¬ WatchOff (EVT_R_CNT ev).off ∧ ¬ WatchOff (EVT_R_LAST ev).off := by
  simp only [WatchOff, FaultedOff, FaultOff, CoachOff, evRegs, EVT_R_CNT, EVT_R_LAST, RIG_STATUS, List.mem_cons, List.not_mem_nil, or_false]
  omega

theorem bidType_eight (e : Fin 32) : bidType (0x0100 + e) = 0x01 := by unfold bidType; omega

theorem taskLow_false {s : State} {e l c : Nat} {k : OarTask} (hk : s.task e l c = some k) (hcls : k.cls < 2) (hbudget : (s.ctxOf e l c).budget ≠ 0) : s.taskLow e l c = false := by
  unfold State.taskLow
  rw [hk]
  dsimp only
  rw [decide_eq_false (Nat.not_le.2 hcls), Bool.false_or, beq_eq_false_iff_ne]
  exact hbudget

theorem eightsAreWatched : EightsAreWatched := by
  unfold EightsAreWatched
  intro e l c k s hk
  refine ⟨fun h => congrArg Host.Outcome.next (if_neg ?_), fun hw hrun hst hcls hbudget hrig => ?_⟩
  · rw [hk]
    rcases h with h | h
    · dsimp only
      rw [h]
      simp
    · rw [h]
      simp
  · have hrun' : (s.blkOf (0x0100 + e)).phase = .running := beq_iff_eq.1 hrun
    generalize hu : s.raise 67 (0x0100 + e.val) [w32 e.val] = u
    have hexec : exec (.eightWatchdog e l c) s = .next (s.settle (u.blkFault (0x0100 + e.val))) := by
      refine congrArg Host.Outcome.next ((if_pos ?_).trans (by rw [hu]))
      rw [hk, hrun, taskLow_false hk hcls hbudget]
      rcases hst with h | h <;> rw [h] <;> dsimp only <;> rw [hw] <;> rfl
    have hurig : u.rigState = s.rigState := by
      rw [← hu, State.rigState, State.fld, State.rd_raise _ _ _ _ (by decide) (by decide)]
      rfl
    have htype := bidType_eight e
    obtain ⟨hph, hcode, hregs, hmem⟩ := blkFault_stops (s := u) (b := 0x0100 + e.val) (downstream_none (.inl htype)) (eightStop_fault _ htype 2)
      (by rw [hurig]; exact hrig) (.inl (by rw [← hu]; exact hrun'))
    obtain ⟨hcnt, hlast⟩ := watchOff_event (ev := 67) (by decide)
    refine Runs.next hexec ⟨hph, hcode, ?_, ?_, fun a => (hmem a).trans (by rw [← hu]; rfl)⟩
    · rw [State.rd_settle, hregs.rd hcnt, ← hu, State.rd_raise_cnt]
    · rw [State.rd_settle, hregs.rd hlast, ← hu, State.rd_raise_last]
      rfl

/-! ### Coaches (R428) -/

theorem bidType_coach (c : Fin 8) : bidType (0x0F00 + c) = 0x0F := by unfold bidType; omega

theorem bidUnit_coach (c : Fin 8) : bidUnit (0x0F00 + c) = c := by unfold bidUnit; omega

/-- Without Calls in progress a Coach's fault answers none. -/
theorem coachDrop_idle {s : State} (h : ∀ q : Fin 16, (s.callQ q).cur = none) (c : Nat) : s.coachDrop c = s := by
  unfold State.coachDrop
  extract_lets +onlyGivenNames parts
  refine foldl_fixed_mem fun q hq => ?_
  rw [show (s.callQ q).cur = none from h ⟨q, List.mem_range.1 hq⟩]

theorem coachCalls_idle {s : State} (h : ∀ q : Fin 16, (s.callQ q).cur = none) (c : Nat) : s.coachCalls c = false := by
  unfold State.coachCalls
  extract_lets +onlyGivenNames parts
  rw [List.any_eq_false]
  intro q hq
  rw [show (s.callQ q).cur = none from h ⟨q, List.mem_range.1 hq⟩]
  exact Bool.false_ne_true

theorem coachHeir_ne {s : State} {c k : Nat} (h : s.coachHeir c = some k) : k ≠ c ∧ k < 8 := by
  unfold State.coachHeir at h
  extract_lets +onlyGivenNames up sb at h
  have hup {j : Nat} (hj : up j = true) : j ≠ c := by
    have h1 : (j != c) = true := (Bool.and_eq_true _ _ ▸ (show ((j != c) && bitsOf (s.rd (BOH_COACH j)).toNat 2 0 == 1) = true from hj)).1
    exact bne_iff_ne.1 h1
  split at h
  · next hsb =>
    obtain rfl := Option.some.inj h
    rw [Bool.and_eq_true, decide_eq_true_eq] at hsb
    exact ⟨hup hsb.2, hsb.1⟩
  · exact ⟨hup (List.find?_some h), List.mem_range.1 (List.mem_of_find?_eq_some h)⟩

/-- A Coach starts: its record, and its partitions' place. -/
theorem coachStart_shows (s : State) {c : Nat} (hc : c < 8) :
    bitsOf ((s.coachStart c).rd (BOH_COACH c)).toNat 2 0 = 1 ∧ s.coachStart c = { s with regs := (s.coachStart c).regs } ∧ RegsIn CoachOff s (s.coachStart c) := by
  have hoff (j : Nat) (hj : j < 256) : CoachOff (BOH_COACH j).off := coachOff j hj
  generalize ht : s.coachStart c = t
  unfold State.coachStart at ht
  rcases hf : fwOf s.rig.sections c with _ | d
  · rw [hf] at ht
    subst ht
    exact ⟨State.fld_setFld_self s (BOH_COACH c) ⟨2, 0⟩ 1, rfl, (RegsIn.refl _ s).wr _ _ (hoff c (by omega))⟩
  · rw [hf] at ht
    dsimp -zeta only at ht
    extract_lets +onlyGivenNames home u at ht
    have hu : OnlyRegs s u := OnlyRegs.foldl (fun v k hv => hv.ite (hv.setFld _ _ _)) _ (.refl s)
    have huregs : RegsIn CoachOff s u := RegsIn.foldl _ (fun v k hk hv => by
      split
      · exact hv
      · exact hv.wr _ _ (hoff k (by have := List.mem_range.1 hk; omega))) (.refl _ s)
    subst ht
    refine ⟨?_, hu.wr _ _, huregs.wr _ _ (hoff c (by omega))⟩
    rw [State.rd_wr_self]
    show (home * 65536 + fwVersion d / 16777216 * 256 + 1) % 4294967296 / 2 ^ 0 % 2 ^ 3 = 1
    omega

/-- The registers that a Coach's restart and its streams' restarts change. -/
def RestartOff (o : Nat) : Prop := CoachOff o ∨ (0x10000 ≤ o ∧ o < 0x20024)

theorem strmRestarts_show (s : State) : ∀ (rs : List Nat) (t : State), (∀ r ∈ rs, r < 1024) → t = { s with regs := t.regs, strm := t.strm } → RegsIn RestartOff s t →
    let u := rs.foldl (fun s r => s.strmRestart r) t
    u = { s with regs := u.regs, strm := u.strm } ∧ RegsIn RestartOff s u
  | [], _, _, ht, hregs => ⟨ht, hregs⟩
  | r :: rs, t, hrs, ht, hregs => by
    have hr := hrs r (List.mem_cons_self ..)
    refine strmRestarts_show s rs (t.strmRestart r) (fun q hq => hrs q (List.mem_cons_of_mem _ hq)) ?_ ?_
    · rw [ht]
      rfl
    · exact ((hregs.congr rfl).wr (UMP_S_BKL_NOW r) _ (.inr (by simp only [UMP_S_BKL_NOW]; omega))).wr (UMP_S_STOP r) _ (.inr (by simp only [UMP_S_STOP]; omega))

/-- A stopped Coach's block runs again. -/
theorem blkStart_coach {s : State} {b : Nat} (hsafe : s.safe = false) (htype : bidType b = 0x0F) :
    (s.blkStart b).blkOf b = { s.blkOf b with phase := .running, code := 0, holdRig := false, holdReset := false, restartDue := false, gaveUp := false, upstream := 0 } ∧
    s.blkStart b = { s with regs := (s.blkStart b).regs, blk := (s.blkStart b).blk, strm := (s.blkStart b).strm } ∧ RegsIn RestartOff s (s.blkStart b) := by
  generalize hk : ({ s.blkOf b with phase := .running, code := 0, holdRig := false, holdReset := false, restartDue := false, gaveUp := false, upstream := 0 } : Blk) = k
  generalize ha : s.setBlk b k = a
  generalize hu : a.setFld (BOH_COACH (bidUnit b)) ⟨2, 0⟩ 1 = u
  have hunits : a.unitsRestart b = u := by
    unfold State.unitsRestart
    rw [htype]
    exact hu
  have hrun : s.blkStart b = (a.blkStrms b).foldl (fun s r => s.strmRestart r) u := by
    unfold State.blkStart
    extract_lets +onlyGivenNames j
    rw [if_neg (by rw [hsafe]; decide)]
    show ((s.setBlk b { s.blkOf b with phase := .running, code := 0, holdRig := false, holdReset := false, restartDue := false, gaveUp := false, upstream := 0 }).blkStrms b).foldl
      _ ((s.setBlk b { s.blkOf b with phase := .running, code := 0, holdRig := false, holdReset := false, restartDue := false, gaveUp := false, upstream := 0 }).unitsRestart b) = _
    rw [hk, ha, hunits]
  have huregs : RegsIn RestartOff a u := hu ▸ (RegsIn.refl _ a).wr _ _ (.inl (coachOff _ (bidUnit_lt b)))
  obtain ⟨hframe, hregs⟩ := strmRestarts_show a (a.blkStrms b) u (fun r hr => List.mem_range.1 (List.mem_filter.1 hr).1) (by rw [← hu]; rfl) huregs
  rw [hrun]
  generalize (a.blkStrms b).foldl (fun s r => s.strmRestart r) u = t at hframe hregs
  refine ⟨?_, ?_, fun o ho => (hregs o ho).trans (by rw [← ha]; rfl)⟩
  · rw [hframe]
    show a.blkOf b = k
    rw [← ha, State.blkOf_setBlk_self]
  · rw [hframe, ← ha]
    rfl

theorem coachesFailOver : CoachesFailOver := by
  unfold CoachesFailOver
  intro c s b
  refine ⟨fun h => congrArg Host.Outcome.next (if_pos ?_), fun hphase hcalls hrig => ?_, fun k hphase hfield hheir => ?_, fun h => ⟨congrArg Host.Outcome.next (if_neg ?_),
    congrArg Host.Outcome.next (if_neg ?_)⟩, fun hphase hfield hsafe hdue hjob hregion hcalls => ?_⟩
  · rcases h with h | h <;> rw [h] <;> decide
  · generalize hu : s.raise 74 b [w32 c.val] = u
    have hexec : exec (.coachFault c) s = .next (s.settle ((u.blkFault b).setFld (BOH_COACH c) ⟨2, 0⟩ 2)) := by
      refine congrArg Host.Outcome.next ((if_neg ?_).trans ?_)
      · rcases hphase with h | h <;> rw [h] <;> decide
      · rw [hu, coachDrop_idle (by rw [← hu]; exact hcalls)]
    have hurig : u.rigState = s.rigState := by
      rw [← hu, State.rigState, State.fld, State.rd_raise _ _ _ _ (by decide) (by decide)]
      rfl
    have htype : bidType b = 0x0F := bidType_coach c
    have huphase : (u.blkOf b).phase = .running ∨ (u.blkOf b).phase = .held := by
      rw [← hu]
      exact hphase
    obtain ⟨hph, hcode, hregs, hmem⟩ := blkFault_stops (s := u) (b := b) (downstream_none (.inr htype)) (State.unitsStop_fault (by simp [FaultType, htype]) 2)
      (by rw [hurig]; exact hrig) huphase
    obtain ⟨hcnt, hlast⟩ := watchOff_event (ev := 74) (by decide)
    generalize u.blkFault b = v at hexec hph hcode hregs hmem
    have hv {r : Reg} (hr : r.off ≠ (BOH_COACH c).off) : (v.setFld (BOH_COACH c) ⟨2, 0⟩ 2).rd r = v.rd r := State.rd_setFld_ne v ⟨2, 0⟩ 2 hr
    have hcl := c.isLt
    refine Runs.next hexec ⟨hph, hcode, ?_, ?_, ?_, fun a => (hmem a).trans (by rw [← hu]; rfl)⟩
    · exact State.fld_setFld_self v (BOH_COACH c) ⟨2, 0⟩ 2
    · rw [State.rd_settle, hv (by simp only [EVT_R_CNT, BOH_COACH]; omega), hregs.rd hcnt, ← hu, State.rd_raise_cnt]
    · rw [State.rd_settle, hv (by simp only [EVT_R_LAST, BOH_COACH]; omega), hregs.rd hlast, ← hu, State.rd_raise_last]
      rfl
  · obtain ⟨hne, hk⟩ := coachHeir_ne hheir
    have hcl := c.isLt
    generalize hp : s.coachParts k ||| s.coachParts c = p
    generalize hu : s.setParts k p = u
    generalize hv : u.setParts c 0 = v
    generalize hw : v.setFld (BOH_COACH c) ⟨2, 0⟩ 3 = w
    have hexec : exec (.coachHandoverDone c) s = .next (w.raise 72 b [w32 c.val]) := by
      refine congrArg Host.Outcome.next ((if_pos ?_).trans ?_)
      · rw [hphase, hfield]
        decide
      · rw [← hw, ← hv, ← hu, ← hp]
        unfold State.coachHand
        rw [hheir]
    have hplt : p < 2 ^ 16 := by
      have hbits (j : Nat) : s.coachParts j < 2 ^ 16 := Nat.mod_lt _ (by decide)
      rw [← hp]
      exact Nat.or_lt_two_pow (hbits k) (hbits c)
    have hwonly : OnlyRegs s w := by
      rw [← hw, ← hv, ← hu]
      exact (((OnlyRegs.refl s).setFld (BOH_COACH k) ⟨31, 16⟩ p).setFld (BOH_COACH c) ⟨31, 16⟩ 0).setFld (BOH_COACH c) ⟨2, 0⟩ 3
    have hwregs : RegsBut s w [(BOH_COACH k).off, (BOH_COACH c).off] := by
      rw [← hw, ← hv, ← hu]
      exact (((RegsBut.refl s _).setFld (BOH_COACH k) ⟨31, 16⟩ p (by simp)).setFld (BOH_COACH c) ⟨31, 16⟩ 0 (by simp)).setFld (BOH_COACH c) ⟨2, 0⟩ 3 (by simp)
    have hheirOff : (BOH_COACH k).off ≠ (BOH_COACH c).off := by simp only [BOH_COACH]; omega
    have hwk : w.rd (BOH_COACH k) = u.rd (BOH_COACH k) := by
      rw [← hw, State.rd_setFld_ne _ _ _ hheirOff, ← hv]
      exact State.rd_setFld_ne u ⟨31, 16⟩ 0 hheirOff
    have hukeeps : u.coachParts k = p := by
      rw [← hu]
      exact (State.fld_setFld_self s (BOH_COACH k) ⟨31, 16⟩ p).trans (Nat.mod_eq_of_lt hplt)
    have hwc : w.coachParts c = 0 := by
      rw [← hw]
      refine (State.fld_setFld_ne v (BOH_COACH c) (f := ⟨2, 0⟩) (g := ⟨31, 16⟩) 3).trans ?_
      rw [← hv]
      exact State.fld_setFld_self u (BOH_COACH c) ⟨31, 16⟩ 0
    have hwstate : w.fld (BOH_COACH c) ⟨2, 0⟩ = 3 := by
      rw [← hw]
      exact State.fld_setFld_self v (BOH_COACH c) ⟨2, 0⟩ 3
    have hstay {j : Nat} (hj : j < 8) : (w.raise 72 b [w32 c.val]).rd (BOH_COACH j) = w.rd (BOH_COACH j) :=
      State.rd_raise _ _ _ _ (by simp only [BOH_COACH, EVT_R_CNT]; omega) (by simp only [BOH_COACH, EVT_R_LAST]; omega)
    refine Runs.next hexec ⟨?_, ?_, ?_, State.raised_raise 72 b [w32 c.val] hwonly.occ (hwregs.rd ?_), (hwregs.mono (by simp)).raise 72 b _ (fun o ho => by simp [ho]),
      hwonly.regsOcc.raise _ _ _⟩
    · rw [State.coachParts, hstay hk, hwk]
      exact hukeeps
    · rw [State.coachParts, hstay hcl]
      exact hwc
    · rw [hstay hcl]
      exact hwstate
    · simp only [EVT_R_CNT, BOH_COACH, List.mem_cons, List.not_mem_nil, or_false, not_or]
      omega
  · rw [decide_eq_false h]
    simp
  · rw [decide_eq_false h]
    simp
  · have htype : bidType b = 0x0F := bidType_coach c
    have hunit : bidUnit b = c := bidUnit_coach c
    have hbound : s.boundary b = ((s.blkStart b).coachStart c).raise 73 b [w32 c.val] := by
      have hat : s.atBoundary b = true := by
        unfold State.atBoundary
        rw [htype]
        exact congrArg (! ·) (coachCalls_idle hcalls _)
      have hrestart : s.blkRestart b = s.blkStart b := by
        unfold State.blkRestart State.resumeDown
        rw [downstream_none (.inr htype)]
        rfl
      have hafter : (s.blkStart b).blkAfter b = ((s.blkStart b).coachStart c).raise 73 b [w32 c.val] := by
        unfold State.blkAfter
        extract_lets +onlyGivenNames v
        rw [htype, show v = c.val from hunit]
        rfl
      unfold State.boundary
      extract_lets +onlyGivenNames k open_
      have hopen : open_ = true := by
        show (decide (s.region (bidRegion b) = 2) || decide (s.region (bidRegion b) = 4)) = true
        rw [hregion]
        rfl
      rw [if_neg (by rw [hsafe, hat, show k.phase = .stopped from hphase]; decide), if_neg (by rw [hjob]; decide), if_pos (show k.phase = .stopped from hphase),
        if_pos (by rw [show k.restartDue = true from hdue, hopen, htype]; rfl), hrestart, hafter]
    have hexec : exec (.coachRestarted c) s = .next (s.settle (((s.blkStart b).coachStart c).raise 73 b [w32 c.val])) := by
      refine congrArg Host.Outcome.next ((if_pos ?_).trans (by rw [← hbound]))
      rw [hphase, hfield]
      decide
    obtain ⟨hblk, hsframe, hsregs⟩ := blkStart_coach hsafe htype
    obtain ⟨hstate, hcframe, hcregs⟩ := coachStart_shows (s.blkStart b) c.isLt
    generalize s.blkStart b = u at hblk hsframe hsregs hexec hstate hcframe hcregs
    generalize u.coachStart c = v at hexec hstate hcframe hcregs
    have hvocc : v.occ = s.occ := by rw [hcframe, hsframe]
    rw [State.settle_raise _ _ _ hvocc] at hexec
    have hcl := c.isLt
    have hvblk : v.blkOf b = u.blkOf b := by rw [hcframe]; rfl
    have hcnt : v.rd (EVT_R_CNT 73) = s.rd (EVT_R_CNT 73) := by
      rw [hcregs.rd (by simp [CoachOff, EVT_R_CNT]), hsregs.rd (by simp [RestartOff, CoachOff, EVT_R_CNT])]
    refine Runs.next hexec ⟨?_, ?_, ?_, ?_, State.raised_raise 73 b _ hvocc hcnt, fun a => ?_⟩
    · show (v.blkOf b).phase = .running
      rw [hvblk, hblk]
    · show (v.blkOf b).code = 0
      rw [hvblk, hblk]
    · show (v.blkOf b).restartDue = false
      rw [hvblk, hblk]
    · rw [State.rd_raise _ _ _ _ (by simp only [BOH_COACH, EVT_R_CNT]; omega) (by simp only [BOH_COACH, EVT_R_LAST]; omega)]
      exact hstate
    · show v.mem a = s.mem a
      rw [hcframe, hsframe]
      rfl

/-- Settles O43, by the rules of a fault of a block on which nothing depends, and of a Coach's restart. -/
theorem engineWatch : Obligations.EngineWatch := ⟨eightsAreWatched, coachesFailOver⟩

end Sys2Proof.Machine
end

section
/-! PROOFS. The BAR2 window, host DMA, and MSI-X vectors (R436 to R438). -/

-- One proof at a time: the text is compiled as one file in bounded memory.
set_option Elab.async false

namespace Sys2Proof.Machine
open Sys2Proof.Claims

/-! ### The BAR2 window (R436) -/

/-- Memory after a write, byte by byte. -/
theorem mem_memWrite (s : State) (a : Nat) (bs : List Byte) (x : Nat) :
    (s.memWrite a bs).mem x = if a ≤ x ∧ x < a + bs.length then bs.getD (x - a) 0 else s.mem x := by
  by_cases h : a ≤ x ∧ x < a + bs.length
  · rw [if_pos h]
    have := s.mem_memWrite_in a bs (i := x - a) (by omega)
    rwa [show a + (x - a) = x by omega] at this
  · rw [if_neg h]
    exact s.mem_memWrite_out a bs (by omega)

/-- Bytes read are memory's, one after the other. -/
theorem memRead_eq_map (s : State) (a n : Nat) : s.memRead a n = (List.range n).map (fun k => s.mem (a + k)) := by
  have hlen : ((List.range n).map (fun k => s.mem (a + k))).length = n := by rw [List.length_map, List.length_range]
  have h := memRead_of_mem (s := s) (a := a) (bs := (List.range n).map (fun k => s.mem (a + k))) fun i hi => by
    rw [List.getD_eq_getElem _ _ hi, List.getElem_map, List.getElem_range]
  rwa [hlen] at h

/-- What a request that is not performed leaves. -/
def State.bar2Fault (s : State) (write : Bool) (off : Nat) : State :=
  ((if bitOf (s.rd LND_BAR2_FAULT) 31 then s
    else s.wr LND_BAR2_FAULT (w32 (0x80000000 + 0x40000000 * b2n write + off / 64 % 1073741824))).inc LND_BAR2_FAULT_CNT).raise 772 0x0B00

theorem bar2Fault_shows {u : State} {write : Bool} {off : Nat} (hoff : off / 64 < 1073741824) {t : State} (ht : u.bar2Fault write off = t) :
    SameMem u t ∧ t.rd LND_BAR2_FAULT_CNT = satAdd (u.rd LND_BAR2_FAULT_CNT) 1 ∧ Raised u t 772 0x0B00 0 ∧
      ((u.rd LND_BAR2_FAULT).getLsbD 31 = true → t.rd LND_BAR2_FAULT = u.rd LND_BAR2_FAULT) ∧
      ((u.rd LND_BAR2_FAULT).getLsbD 31 = false → t.rd LND_BAR2_FAULT = w32 (2147483648 + (if write then 1073741824 else 0) + off / 64)) ∧
      RegsBut u t (LND_BAR2_FAULT.off :: LND_BAR2_FAULT_CNT.off :: evRegs 772) ∧ t.out = u.out := by
  unfold State.bar2Fault at ht
  generalize ha : (if bitOf (u.rd LND_BAR2_FAULT) 31 then u
    else u.wr LND_BAR2_FAULT (w32 (0x80000000 + 0x40000000 * b2n write + off / 64 % 1073741824))) = a at ht
  have haonly : OnlyRegs u a := ha ▸ (OnlyRegs.refl u).ite ((OnlyRegs.refl u).wr _ _)
  have haregs : RegsBut u a [LND_BAR2_FAULT.off] := ha ▸ (RegsBut.refl u _).ite ((RegsBut.refl u _).wr _ _)
  generalize hb : a.inc LND_BAR2_FAULT_CNT = b at ht
  have hbonly : OnlyRegs u b := hb ▸ haonly.inc _ _
  have hbregs : RegsBut u b [LND_BAR2_FAULT.off, LND_BAR2_FAULT_CNT.off] := hb ▸ (haregs.mono (by simp)).inc _ _ (by simp)
  have hbcnt : b.rd LND_BAR2_FAULT_CNT = satAdd (u.rd LND_BAR2_FAULT_CNT) 1 := by rw [← hb, State.inc_eq, State.rd_wr_self, haregs.rd (by decide)]
  have htfault : t.rd LND_BAR2_FAULT = a.rd LND_BAR2_FAULT := by
    rw [← ht, State.rd_raise _ _ _ _ (by decide) (by decide), ← hb, State.inc_eq, State.rd_wr_ne _ _ (by decide)]
  have hocc := hbonly.regsOcc.raise 772 0x0B00 []
  rw [ht] at hocc
  refine ⟨fun x => hocc.field (State.mem · x), ?_, ?_, fun h => ?_, fun h => ?_, ?_, hocc.field State.out⟩
  · rw [← ht, State.rd_raise _ _ _ _ (by decide) (by decide), hbcnt]
  · rw [← ht]
    exact State.raised_raise 772 0x0B00 [] hbonly.occ (hbregs.rd (by decide))
  · rw [htfault, ← ha, if_pos (show bitOf (u.rd LND_BAR2_FAULT) 31 = true from h)]
  · rw [htfault, ← ha, if_neg (by rw [bitOf, h]; decide), State.rd_wr_self, Nat.mod_eq_of_lt hoff]
    cases write <;> rfl
  · rw [← ht]
    exact (hbregs.mono (by simp)).raise 772 0x0B00 [] (fun o ho => by simp [ho])

section
variable {off : BitVec 36} {data : List Byte} {len : BitVec 13} {s : State} {w : Bool} (hup : s.hostUp = true) (hoff : off.toNat < 2 ^ s.lnd.bar2Log)
include hup hoff

theorem bar2_performed (h : s.rd64 LND_BAR2_BASE_LO LND_BAR2_BASE_HI / 2 ^ s.lnd.bar2Log * 2 ^ s.lnd.bar2Log + off.toNat + (if w then data.length else len.toNat) ≤ s.g7Open) :
    exec (.bar2Access w off data len) s = .next (if w then s.memWrite (s.rd64 LND_BAR2_BASE_LO LND_BAR2_BASE_HI / 2 ^ s.lnd.bar2Log * 2 ^ s.lnd.bar2Log + off.toNat) data
      else s.emit (.bar2Data (s.memRead (s.rd64 LND_BAR2_BASE_LO LND_BAR2_BASE_HI / 2 ^ s.lnd.bar2Log * 2 ^ s.lnd.bar2Log + off.toNat) (if w then data.length else len.toNat)))) :=
  congrArg Host.Outcome.next ((if_neg (by rw [hup, decide_eq_false (Nat.not_le.2 hoff)]; decide)).trans (if_pos (decide_eq_true h)))

theorem bar2_refused (h : s.g7Open < s.rd64 LND_BAR2_BASE_LO LND_BAR2_BASE_HI / 2 ^ s.lnd.bar2Log * 2 ^ s.lnd.bar2Log + off.toNat + (if w then data.length else len.toNat)) :
    exec (.bar2Access w off data len) s =
      .next ((if w then s else s.emit (.bar2Data (List.replicate (if w then data.length else len.toNat) 0))).bar2Fault w off.toNat) :=
  congrArg Host.Outcome.next ((if_neg (by rw [hup, decide_eq_false (Nat.not_le.2 hoff)]; decide)).trans
    (if_neg (by rw [State.g7Span, decide_eq_false (Nat.not_le.2 h)]; decide)))

end

theorem windowOnMemory : WindowOnMemory := by
  unfold WindowOnMemory
  intro off data len s size a fault hup hoff
  have h36 : off.toNat < 2 ^ 36 := off.isLt
  have hlt : off.toNat / 64 < 1073741824 := by omega
  refine ⟨fun h => ?_, fun h => ?_, fun h => ?_, fun h => ?_⟩
  · refine Runs.next (bar2_performed (w := true) hup hoff h) ⟨fun x => ?_, rfl⟩
    exact mem_memWrite s a data x
  · have hread := bar2_performed (w := false) (data := data) hup hoff h
    rw [if_neg Bool.false_ne_true, if_neg Bool.false_ne_true, memRead_eq_map] at hread
    exact hread
  · obtain ⟨hmem, hcnt, hraised, hvalid, hfree, hregs, hout⟩ := bar2Fault_shows (u := s) (write := true) hlt rfl
    exact Runs.next (bar2_refused (w := true) hup hoff h) ⟨⟨hmem, hcnt, hraised, hvalid, hfree, hregs⟩, hout⟩
  · obtain ⟨hmem, hcnt, hraised, hvalid, hfree, hregs, hout⟩ := bar2Fault_shows (u := s.emit (.bar2Data (List.replicate len.toNat 0))) (write := false) hlt rfl
    exact Runs.next (bar2_refused (w := false) (data := data) hup hoff h) ⟨⟨hmem, hcnt, hraised, hvalid, hfree, hregs⟩, hout⟩

/-! ### MSI-X (R437) -/

theorem State.msixOf_setMsix (s : State) (v : Nat) (x : MsixVec) : (s.setMsix v x).msixOf v = x := tabGet_set_self _ _ _ _

theorem State.msixOf_setMsix_ne (s : State) {v k : Nat} (x : MsixVec) (h : k ≠ v) : (s.setMsix v x).msixOf k = s.msixOf k := tabGet_set_ne _ _ _ _ h

theorem vectorsAreMasked : VectorsAreMasked := by
  unfold VectorsAreMasked
  intro v s hup
  have hno : ¬ (!s.hostUp) = true := by rw [hup]; decide
  refine ⟨Runs.next (congrArg Host.Outcome.next (if_neg hno)) ⟨s.msixOf_setMsix v _, fun k hk => s.msixOf_setMsix_ne _ hk, rfl⟩, ?_⟩
  by_cases hp : (s.msixOf v).pending = true
  · rw [if_pos hp]
    exact Runs.next (congrArg Host.Outcome.next ((if_neg hno).trans (if_pos hp))) ⟨s.msixOf_setMsix v _, fun k hk => s.msixOf_setMsix_ne _ hk, rfl, rfl⟩
  · rw [if_neg hp, List.append_nil]
    exact Runs.next (congrArg Host.Outcome.next ((if_neg hno).trans (if_neg hp))) ⟨s.msixOf_setMsix v _, fun k hk => s.msixOf_setMsix_ne _ hk, rfl, rfl⟩

/-! ### Host DMA (R438) -/

/-- The bytes of a descriptor moved: `st` is its status. -/
def State.dmaBytes (s : State) (desc data : List Byte) (st : Nat) : State :=
  if st = 2 then s
  else if leAt desc 20 1 % 2 = 0 then s.memWrite (leAt desc 8 8) (data.take (leAt desc 16 4))
  else if st = 3 then s else s.emit (.hostWrite (leAt desc 0 8) (s.memRead (leAt desc 8 8) (leAt desc 16 4)))

/-- Its STATUS written, HEAD and DONE. -/
def State.dmaAdvance (s : State) (k h st : Nat) : State :=
  let s := s.emit (.hostWrite (s.rd64 (LND_D_BASE_LO k) (LND_D_BASE_HI k) / 64 * 64 + 32 * h + 21) (leBytes 1 st))
  (s.wr (LND_D_HEAD k) (w32 ((h + 1) % s.dmaRing k))).incWrap (LND_D_DONE k)

/-- Its event and its vector. -/
def State.dmaTold (s : State) (k fl st : Nat) : State :=
  let s := if st = 1 then (if fl / 2 % 2 = 1 then s.raise 773 0x0B00 else s) else (s.setFld (LND_D_STATUS k) ⟨1, 1⟩ 1).raise 774 0x0B00
  if st = 1 && fl / 2 % 2 = 0 then s else s.msixSend (bitsOf (s.rd (LND_D_CFG k)).toNat 26 16)

/-- A descriptor keeps the limits of R438. -/
def State.dmaFits (s : State) (desc : List Byte) : Bool :=
  s.g7Span (leAt desc 8 8) (leAt desc 16 4) && decide (1 ≤ leAt desc 16 4) && decide (leAt desc 16 4 ≤ 67108864)

/-- What a descriptor comes to: 1 good, 2 outside the limits, 3 an error of PCIe. -/
def State.dmaStatusOf (s : State) (desc : List Byte) (err : Bool) : Nat :=
  if s.dmaFits desc then (if err then 3 else 1) else 2

/-- A descriptor's work, where it is known whether it keeps the limits. -/
def State.dmaDoneIf (s : State) (k : Nat) (desc data : List Byte) (err ok : Bool) : State :=
  let h := (s.rd (LND_D_HEAD k)).toNat
  let fl := leAt desc 20 1
  let st := if !ok then 2 else if err then 3 else 1
  let s := if !ok then s
    else if fl % 2 = 0 then s.memWrite (leAt desc 8 8) (data.take (leAt desc 16 4))
    else if err then s else s.emit (.hostWrite (leAt desc 0 8) (s.memRead (leAt desc 8 8) (leAt desc 16 4)))
  (s.dmaAdvance k h st).dmaTold k fl st

theorem dmaDone_eq {s : State} {k : Nat} (hup : s.hostUp = true) (hen : (s.rd (LND_D_CFG k)).getLsbD 8 = true) (hne : s.rd (LND_D_HEAD k) ≠ s.rd (LND_D_TAIL k))
    (desc data : List Byte) (err : Bool) {st : Nat} (hst : s.dmaStatusOf desc err = st) :
    s.dmaDone k desc data err = ((s.dmaBytes desc data st).dmaAdvance k (s.rd (LND_D_HEAD k)).toNat st).dmaTold k (leAt desc 20 1) st := by
  have hno : ¬ (!s.hostUp || !bitOf (s.rd (LND_D_CFG k)) 8 || (s.rd (LND_D_HEAD k)).toNat == (s.rd (LND_D_TAIL k)).toNat) = true := by
    rw [hup, bitOf, hen, beq_eq_false_iff_ne.2 fun h => hne (BitVec.eq_of_toNat_eq h)]
    decide
  have hdone : s.dmaDone k desc data err = ((s.dmaBytes desc data (s.dmaStatusOf desc err)).dmaAdvance k (s.rd (LND_D_HEAD k)).toNat (s.dmaStatusOf desc err)).dmaTold k
      (leAt desc 20 1) (s.dmaStatusOf desc err) := by
    have hrun : s.dmaDone k desc data err = s.dmaDoneIf k desc data err (s.dmaFits desc) := if_neg hno
    rw [hrun]
    unfold State.dmaStatusOf
    generalize s.dmaFits desc = ok
    cases ok <;> cases err <;> rfl
  rw [hdone, hst]

/-- Where the STATUS of the descriptor at `h` stands in host memory. -/
def State.dmaStatusAt (s : State) (k h : Nat) : Nat := s.rd64 (LND_D_BASE_LO k) (LND_D_BASE_HI k) / 64 * 64 + 32 * h + 21

/-- What the move of a descriptor's bytes leaves of the registers. -/
theorem dmaBytes_regs (s : State) (desc data : List Byte) (st : Nat) : (s.dmaBytes desc data st).regs = s.regs := by
  unfold State.dmaBytes
  repeat (first | split | rfl)

theorem dmaAdvance_shows {s u : State} (k : Fin 32) (h st : Nat) (hregs : u.regs = s.regs) {t : State} (ht : u.dmaAdvance k h st = t) :
    t.rd (LND_D_HEAD k) = w32 ((h + 1) % s.dmaRing k) ∧ t.rd (LND_D_DONE k) = s.rd (LND_D_DONE k) + 1 ∧ RegsBut s t [(LND_D_HEAD k).off, (LND_D_DONE k).off] ∧
      t = { u with regs := t.regs, out := u.out ++ [.hostWrite (s.dmaStatusAt k h) (leBytes 1 st)] } := by
  have hk := k.isLt
  have hrd (r : Reg) : u.rd r = s.rd r := by rw [State.rd, hregs, State.rd]
  have hring : u.dmaRing k = s.dmaRing k := by rw [State.dmaRing, hrd, State.dmaRing]
  have hat : u.dmaStatusAt k h = s.dmaStatusAt k h := by rw [State.dmaStatusAt, State.rd64, hrd, hrd, State.dmaStatusAt, State.rd64]
  have hne : (LND_D_HEAD k).off ≠ (LND_D_DONE k).off := by simp only [LND_D_HEAD, LND_D_DONE]; omega
  generalize ha : u.emit (.hostWrite (s.dmaStatusAt k h) (leBytes 1 st)) = a
  have hard (r : Reg) : a.rd r = s.rd r := by rw [← ha]; exact hrd r
  have hrun : (a.wr (LND_D_HEAD k) (w32 ((h + 1) % s.dmaRing k))).incWrap (LND_D_DONE k) = t := by
    rw [← ht, ← ha, ← hat, ← hring]
    rfl
  have haregs : RegsBut s a [(LND_D_HEAD k).off, (LND_D_DONE k).off] := (RegsBut.refl s _).congr (by rw [← ha]; exact hregs)
  rw [← hrun]
  refine ⟨?_, ?_, ?_, ?_⟩
  · rw [State.incWrap_eq, State.rd_wr_ne _ _ hne, State.rd_wr_self]
  · rw [State.incWrap_eq, State.rd_wr_self, State.rd_wr_ne _ _ hne.symm, hard]
  · exact (haregs.wr _ _ (by simp)).wr _ _ (by simp)
  · rw [← ha]
    rfl

section
variable {s : State} {k : Fin 32} {fl st : Nat}

theorem msixSend_open {v : Nat} (h : (s.msixOf v).masked = false) : s.msixSend v = s.emit (.msix v) := if_neg (by rw [h]; decide)

theorem dmaTold_quiet (hfl : fl / 2 % 2 = 0) : s.dmaTold k fl 1 = s := by
  unfold State.dmaTold
  rw [if_pos rfl, if_neg (show ¬ fl / 2 % 2 = 1 by omega), if_pos (by rw [decide_eq_true hfl]; rfl)]

theorem dmaTold_good (hfl : fl / 2 % 2 = 1) : s.dmaTold k fl 1 = (s.raise 773 0x0B00).msixSend (bitsOf ((s.raise 773 0x0B00).rd (LND_D_CFG k)).toNat 26 16) := by
  unfold State.dmaTold
  rw [if_pos rfl, if_pos hfl, if_neg (by rw [hfl]; decide)]

theorem dmaTold_bad (hst : st ≠ 1) :
    s.dmaTold k fl st = ((s.setFld (LND_D_STATUS k) ⟨1, 1⟩ 1).raise 774 0x0B00).msixSend (bitsOf (((s.setFld (LND_D_STATUS k) ⟨1, 1⟩ 1).raise 774 0x0B00).rd (LND_D_CFG k)).toNat 26 16) := by
  unfold State.dmaTold
  rw [if_neg hst, if_neg (by rw [decide_eq_false hst, Bool.false_and]; exact Bool.false_ne_true)]

end

theorem channelsMoveBytes : ChannelsMoveBytes := by
  unfold ChannelsMoveBytes
  intro k v desc data err s
  have hk := k.isLt
  refine ⟨fun hreach hlt => exec_hostDo hreach (if_neg (Nat.not_le.2 hlt)), fun hreach hle => ?_, fun heq => ?_, fun hup hen hne => ?_⟩
  · refine Runs.next (exec_hostDo hreach (if_pos hle)) ⟨?_, (RegsBut.refl s _).setFld _ _ _, rfl⟩
    rw [State.setFld_eq, State.rd_wr_self, Fld.put_getLsbD _ _ _ _ (by decide)]
    rfl
  · refine congrArg Host.Outcome.next (if_pos ?_)
    rw [heq, beq_self_eq_true, Bool.or_true]
  intro h a n st vec moved
  have hexec {c : Nat} (hc : s.dmaStatusOf desc err = c) :
      exec (.hostDmaDescDone k desc data err) s = .next (((s.dmaBytes desc data c).dmaAdvance k h c).dmaTold k (leAt desc 20 1) c) :=
    congrArg Host.Outcome.next (dmaDone_eq hup hen hne desc data err hc)
  have hfits (h1 : 1 ≤ n) (h2 : n ≤ 67108864) (h3 : a + n ≤ s.g7Open) : s.dmaFits desc = true := by
    rw [State.dmaFits, State.g7Span, decide_eq_true h3, decide_eq_true h1, decide_eq_true h2]
    rfl
  -- A descriptor that fails sets ERR, and sends its event and its vector.
  have hfails {c : Nat} (hc : s.dmaStatusOf desc err = c) (hc1 : c ≠ 1) (hout : (s.dmaBytes desc data c).out = s.out) (hocc : (s.dmaBytes desc data c).occ = s.occ)
      (hcall : (s.dmaBytes desc data c).call = s.call) (hmask : (s.msixOf vec).masked = false) :
      Runs (.hostDmaDescDone k desc data err) s (fun t => moved t ∧ t.g7 = (s.dmaBytes desc data c).g7 ∧ (t.rd (LND_D_STATUS k)).getLsbD 1 = true ∧ Raised s t 774 0x0B00 0 ∧
        t.out = s.out ++ [.hostWrite st (leBytes 1 c), .msix vec]) := by
    obtain ⟨hhead, hdone, hregs, hframe⟩ := dmaAdvance_shows k h c (dmaBytes_regs s desc data c) rfl
    have hrun := hexec hc
    generalize (s.dmaBytes desc data c).dmaAdvance k h c = u at hrun hhead hdone hregs hframe
    rw [dmaTold_bad hc1] at hrun
    generalize hw : u.setFld (LND_D_STATUS k) ⟨1, 1⟩ 1 = w at hrun
    have hwregs : RegsBut u w [(LND_D_STATUS k).off] := hw ▸ (RegsBut.refl u _).setFld _ _ _
    have hwbit : (w.rd (LND_D_STATUS k)).getLsbD 1 = true := by
      rw [← hw, State.setFld_eq, State.rd_wr_self, Fld.put_getLsbD _ _ _ _ (by decide)]
      rfl
    have hwocc : w.occ = s.occ := by
      rw [← hw, ← hocc]
      exact (show u.occ = _ by rw [hframe])
    generalize hx : w.raise 774 0x0B00 = x at hrun
    have hxrd {r : Reg} (h1 : r.off ≠ (EVT_R_CNT 774).off) (h2 : r.off ≠ (EVT_R_LAST 774).off) : x.rd r = w.rd r := by rw [← hx, State.rd_raise _ _ _ _ h1 h2]
    have hxmsix : x.call = s.call := by
      rw [← hx, ← hw, ← hcall]
      exact (show u.call = _ by rw [hframe])
    have hvec : bitsOf (x.rd (LND_D_CFG k)).toNat 26 16 = vec := by
      rw [hxrd (by simp only [LND_D_CFG, EVT_R_CNT]; omega) (by simp only [LND_D_CFG, EVT_R_LAST]; omega), hwregs.rd (by simp only [LND_D_CFG, LND_D_STATUS, List.mem_singleton]; omega),
        hregs.rd (by simp only [LND_D_CFG, LND_D_HEAD, LND_D_DONE, List.mem_cons, List.not_mem_nil, or_false, not_or]; omega)]
    have hopen : (x.msixOf vec).masked = false := by
      rw [State.msixOf, hxmsix]
      exact hmask
    rw [hvec, msixSend_open hopen] at hrun
    refine Runs.next hrun ⟨⟨?_, ?_⟩, ?_, ?_, ?_, ?_⟩
    · refine (hxrd (by simp only [LND_D_HEAD, EVT_R_CNT]; omega) (by simp only [LND_D_HEAD, EVT_R_LAST]; omega)).trans ?_
      rw [hwregs.rd (by simp only [LND_D_HEAD, LND_D_STATUS, List.mem_singleton]; omega), hhead]
    · refine (hxrd (by simp only [LND_D_DONE, EVT_R_CNT]; omega) (by simp only [LND_D_DONE, EVT_R_LAST]; omega)).trans ?_
      rw [hwregs.rd (by simp only [LND_D_DONE, LND_D_STATUS, List.mem_singleton]; omega), hdone]
    · rw [← hx, ← hw]
      exact (show u.g7 = _ by rw [hframe])
    · refine (congrArg (BitVec.getLsbD · 1) (hxrd (by simp only [LND_D_STATUS, EVT_R_CNT]; omega) (by simp only [LND_D_STATUS, EVT_R_LAST]; omega))).trans hwbit
    · rw [← hx]
      refine State.raised_raise 774 0x0B00 [] hwocc ?_
      rw [hwregs.rd (by simp only [EVT_R_CNT, LND_D_STATUS, List.mem_singleton]; omega),
        hregs.rd (by simp only [EVT_R_CNT, LND_D_HEAD, LND_D_DONE, List.mem_cons, List.not_mem_nil, or_false, not_or]; omega)]
    · show x.out ++ [.msix vec] = _
      rw [show x.out = u.out by rw [← hx, ← hw]; rfl, hframe]
      show (s.dmaBytes desc data c).out ++ [.hostWrite st (leBytes 1 c)] ++ [.msix vec] = _
      rw [hout, List.append_assoc]
      rfl
  refine ⟨fun h1 h2 h3 hfl herr hlen => ?_, fun h1 h2 h3 hfl herr hmask => ?_, fun hbad hmask => ?_, fun h1 h2 h3 herr hmask => ?_⟩
  · have hst : s.dmaStatusOf desc err = 1 := by rw [State.dmaStatusOf, if_pos (hfits h1 h2 h3), herr]; rfl
    have hbytes : s.dmaBytes desc data 1 = s.memWrite a data := by
      refine (if_neg (by decide)).trans ((if_pos (by omega)).trans ?_)
      rw [List.take_of_length_le (le_of_eq hlen)]
    obtain ⟨hhead, hdone, hregs, hframe⟩ := dmaAdvance_shows k h 1 (dmaBytes_regs s desc data 1) rfl
    have hrun := hexec hst
    rw [hbytes] at hrun hframe hhead hdone hregs
    generalize (s.memWrite a data).dmaAdvance k h 1 = u at hrun hhead hdone hregs hframe
    rw [dmaTold_quiet (by omega)] at hrun
    refine Runs.next hrun ⟨⟨hhead, hdone⟩, fun x => ?_, ?_, hregs, ?_⟩
    · rw [hframe, ← hlen]
      exact mem_memWrite s a data x
    · rw [hframe]
      rfl
    · rw [hframe, memWrite_frame]
  · have hst : s.dmaStatusOf desc err = 1 := by rw [State.dmaStatusOf, if_pos (hfits h1 h2 h3), herr]; rfl
    have hbytes : s.dmaBytes desc data 1 = s.emit (.hostWrite (leAt desc 0 8) ((List.range n).map (fun x => s.mem (a + x)))) := by
      refine (if_neg (by decide)).trans ((if_neg (by omega)).trans ((if_neg (by decide)).trans ?_))
      rw [memRead_eq_map]
    obtain ⟨hhead, hdone, hregs, hframe⟩ := dmaAdvance_shows k h 1 (dmaBytes_regs s desc data 1) rfl
    have hrun := hexec hst
    rw [hbytes] at hrun hframe hhead hdone hregs
    generalize (s.emit (.hostWrite (leAt desc 0 8) ((List.range n).map (fun x => s.mem (a + x))))).dmaAdvance k h 1 = u at hrun hhead hdone hregs hframe
    rw [dmaTold_good (by omega)] at hrun
    generalize hx : u.raise 773 0x0B00 = x at hrun
    have hocc : u.occ = s.occ := by rw [hframe]; rfl
    have hxrd {r : Reg} (h1 : r.off ≠ (EVT_R_CNT 773).off) (h2 : r.off ≠ (EVT_R_LAST 773).off) : x.rd r = u.rd r := by rw [← hx, State.rd_raise _ _ _ _ h1 h2]
    have hvec : bitsOf (x.rd (LND_D_CFG k)).toNat 26 16 = vec := by
      rw [hxrd (by simp only [LND_D_CFG, EVT_R_CNT]; omega) (by simp only [LND_D_CFG, EVT_R_LAST]; omega),
        hregs.rd (by simp only [LND_D_CFG, LND_D_HEAD, LND_D_DONE, List.mem_cons, List.not_mem_nil, or_false, not_or]; omega)]
    have hopen : (x.msixOf vec).masked = false := by
      rw [State.msixOf, show x.call = s.call by rw [← hx, hframe]; rfl]
      exact hmask
    rw [hvec, msixSend_open hopen] at hrun
    have hxout : x.out = s.out ++ [.hostWrite (leAt desc 0 8) ((List.range n).map (fun x => s.mem (a + x)))] ++ [.hostWrite st (leBytes 1 1)] := by
      rw [← hx, hframe]
      rfl
    refine Runs.next hrun ⟨⟨?_, ?_⟩, fun y => ?_, ?_, ?_, ?_, ?_⟩
    · exact (hxrd (by simp only [LND_D_HEAD, EVT_R_CNT]; omega) (by simp only [LND_D_HEAD, EVT_R_LAST]; omega)).trans hhead
    · exact (hxrd (by simp only [LND_D_DONE, EVT_R_CNT]; omega) (by simp only [LND_D_DONE, EVT_R_LAST]; omega)).trans hdone
    · rw [← hx, hframe]
      rfl
    · rw [← hx]
      refine State.raised_raise 773 0x0B00 [] hocc ?_
      rw [hregs.rd (by simp only [EVT_R_CNT, LND_D_HEAD, LND_D_DONE, List.mem_cons, List.not_mem_nil, or_false, not_or]; omega)]
    · show x.out ++ [.msix vec] = _
      rw [hxout, List.append_assoc, List.append_assoc]
      rfl
    · rw [← hx]
      exact ((hregs.mono (by simp)).raise 773 0x0B00 [] (fun o ho => by simp [ho])).congr
    · rw [← hx, hframe]
      rfl
  · have hst : s.dmaStatusOf desc err = 2 := by
      refine if_neg ?_
      rw [State.dmaFits, State.g7Span]
      rcases hbad with h' | h' | h'
      · simp [show leAt desc 16 4 = 0 from h']
      · simp [Nat.not_le.2 (show 67108864 < leAt desc 16 4 from h')]
      · simp [Nat.not_le.2 (show s.g7Open < leAt desc 8 8 + leAt desc 16 4 from h')]
    obtain ⟨t, hrun, hmoved, hg7, hbit, hraised, hout⟩ := hfails hst (by decide) rfl rfl rfl hmask
    exact ⟨t, hrun, hmoved, fun x => by rw [State.mem, hg7]; rfl, hbit, hraised, hout⟩
  · have hst : s.dmaStatusOf desc err = 3 := by rw [State.dmaStatusOf, if_pos (hfits h1 h2 h3), herr]; rfl
    have hkept : (s.dmaBytes desc data 3).out = s.out ∧ (s.dmaBytes desc data 3).occ = s.occ ∧ (s.dmaBytes desc data 3).call = s.call := by
      unfold State.dmaBytes
      rw [if_neg (by decide), if_pos rfl]
      split <;> exact ⟨rfl, rfl, rfl⟩
    obtain ⟨t, hrun, hmoved, -, hbit, hraised, hout⟩ := hfails hst (by decide) hkept.1 hkept.2.1 hkept.2.2 hmask
    exact ⟨t, hrun, hmoved, hbit, hraised, hout⟩

/-- Settles O45, by the rules of the window, of a channel's descriptors and of the vectors. -/
theorem hostWindowAndDma : Obligations.HostWindowAndDma := ⟨windowOnMemory, channelsMoveBytes, vectorsAreMasked⟩

end Sys2Proof.Machine
end

section
/-! PROOFS. A refutation about Answer queues: the Answer that waits is any Answer, of a Call queue that need not exist (R441). -/

-- One proof at a time: the text is compiled as one file in bounded memory.
set_option Elab.async false

namespace Sys2Proof.Machine
open Sys2Proof.Claims

/-- The Answer that waits in `strayAnswer`: of a "queue 64", whose CLL_Q_STATUS would stand where CLL_A_HEAD of Answer queue 0 stands. -/
def strayEntry : Answer := ⟨64, 0, 0, 0, 0, 0⟩

/-- Stage LOADER, with Answer queue 0 enabled, of 32,768 entries, its vector open, and that Answer waiting. -/
def strayAnswer : State :=
  { regs := [(BOH_BOOT_STATUS.off, 2), ((CLL_A_CFG 0).off, 0x10F)],
    call := { a := [(0, ⟨true, [strayEntry]⟩)], msix := [(0, ⟨false, false⟩)] } }

theorem strayAnswer_reach : Reach strayAnswer (CLL_A_HEAD (0 : Fin 16)) := ⟨by decide, by decide⟩

/-- BUSY of queue 64 is bit 1 of CLL_A_HEAD of Answer queue 0: the HEAD of 2 that the host writes reads 0. -/
theorem strayAnswer_head {t : State} (h : exec (.answerHeadWrite 0 2) strayAnswer = .next t) : t.rd (CLL_A_HEAD (0 : Fin 16)) = 0 := by
  have ht : strayAnswer.settle (strayAnswer.hostDo (CLL_A_HEAD (0 : Fin 16)) true (·.ansHead 0 2)) = t := Host.Outcome.next.inj h
  rw [State.hostDo_reach _ _ _ _ strayAnswer_reach.1 strayAnswer_reach.2] at ht
  rw [← ht]
  decide

theorem not_answerQueuesAreKept : ¬ AnswerQueuesAreKept := by
  intro h
  obtain ⟨-, -, hwait⟩ := h 0 2 strayAnswer
  obtain ⟨t, hrun, hhead, -⟩ := hwait strayEntry strayAnswer_reach (by decide) (by decide) (by decide) (by decide) (by decide)
  rw [strayAnswer_head hrun] at hhead
  exact absurd hhead (by decide)

/-- Refutes O46: an Answer that waits, of a "queue" of 64, has its BUSY bit in CLL_A_HEAD of Answer queue 0, so HEAD does not keep the 2 written. -/
theorem not_callAndAnswerQueues : ¬ Obligations.CallAndAnswerQueues := by
  rintro ⟨-, h, -⟩
  exact not_answerQueuesAreKept h

end Sys2Proof.Machine
end

section
/-! PROOFS. Records of the Logbook: notes, staging, flushes, and PFAIL_N (R481 to R489). -/

-- One proof at a time: the text is compiled as one file in bounded memory.
set_option Elab.async false

namespace Sys2Proof.Machine
open Sys2Proof.Claims

/-! ### Whether drops await a record -/

/-- What is listed under another key is listed as before. -/
theorem any_tabSet {α : Type} [DecidableEq α] (t : Table α) (d : α) (k : Nat) (v : α) {p : Nat × α → Bool} (hp : ∀ x, p (k, x) = false) :
    (tabSet t d k v).any p = t.any p := by
  have hdel : (tabDel t k).any p = t.any p := by
    unfold tabDel
    induction t with
    | nil => rfl
    | cons e t ih =>
      rw [List.filter_cons]
      by_cases he : e.1 = k
      · rw [if_neg (by simp [he]), ih, List.any_cons, show p e = false by rw [← hp e.2, ← he], Bool.false_or]
      · rw [if_pos (by simp [he]), List.any_cons, List.any_cons, ih]
  have hins : ∀ u : Table α, (tabInsert k v u).any p = u.any p := by
    intro u
    induction u with
    | nil => rw [tabInsert, List.any_cons, hp, Bool.false_or]
    | cons e u ih =>
      rw [tabInsert]
      split
      · rw [List.any_cons, hp, Bool.false_or]
      · rw [List.any_cons, List.any_cons, ih]
  unfold tabSet
  split
  · exact hdel
  · rw [hins, hdel]

/-- The drop counts say the same in both states. -/
def DropsKept (s t : State) : Prop := t.logDropping = s.logDropping

theorem DropsKept.refl (s : State) : DropsKept s s := rfl

theorem DropsKept.wr {s t : State} (h : DropsKept s t) (r : Reg) (v : Word) (hr : r.off < 0x381000 ∨ 0x382000 ≤ r.off) (hn : r.off ≠ LOG_NOTE_DROP.off) :
    DropsKept s (t.wr r v) := by
  unfold DropsKept at h ⊢
  rw [← h, State.logDropping, State.logDropping, State.rd_wr_ne t v (Ne.symm hn)]
  congr 1
  refine any_tabSet _ _ _ _ fun x => ?_
  simp only [Bool.and_eq_false_iff, decide_eq_false_iff_not]
  omega

theorem DropsKept.raise {s t : State} (h : DropsKept s t) (ev src : Nat) (items : List Word) (hev : ev < 1024 := by decide) : DropsKept s (t.raise ev src items) :=
  show DropsKept s ((t.wr (EVT_R_CNT ev) _).wr (EVT_R_LAST ev) _) from
    (h.wr _ _ (by simp only [EVT_R_CNT]; omega) (by simp only [EVT_R_CNT, LOG_NOTE_DROP]; omega)).wr _ _ (by simp only [EVT_R_LAST]; omega)
      (by simp only [EVT_R_LAST, LOG_NOTE_DROP]; omega)

theorem DropsKept.foldl {α : Type} {s : State} {f : State → α → State} : ∀ (as : List α) {t : State}, (∀ u a, a ∈ as → DropsKept s u → DropsKept s (f u a)) →
    DropsKept s t → DropsKept s (as.foldl f t)
  | [], _, _, h => h
  | a :: as, _, hf, h => DropsKept.foldl as (fun u b hb => hf u b (List.mem_cons_of_mem _ hb)) (hf _ a (List.mem_cons_self ..) h)

theorem State.logRead_drops (s : State) : DropsKept s s.logRead :=
  DropsKept.foldl _ (fun u i hi h => h.wr _ _ (by have := List.mem_range.1 hi; simp only [LOG_RD_DATA]; omega)
    (by have := List.mem_range.1 hi; simp only [LOG_RD_DATA, LOG_NOTE_DROP]; omega)) (DropsKept.refl s)

/-! ### The assembler -/

/-- With nothing in the FIFO and no drops to tell, or after PFAIL_N, the idle assembler stays idle. -/
theorem State.logTake_idle {s : State} (hfifo : s.log.fifo = []) (h : s.log.pfail = true ∨ s.logDropping = false) : s.logTake = s := by
  unfold State.logTake
  split
  · rfl
  next hno =>
    rw [hfifo]
    dsimp only
    rcases h with h | h
    · exact absurd (by rw [h, Bool.or_true, Bool.true_or]) hno
    · rw [if_neg (by rw [h]; decide)]

theorem State.logTake_takes {s : State} {e : LogEntry} {es : List LogEntry} (hasm : s.log.asm = none) (hfifo : s.log.fifo = e :: es) (hpfail : s.log.pfail = false)
    (hroom : s.log.staged.length < 511) : s.logTake = s.setLog { s.log with asm := some e, fifo := es } := by
  unfold State.logTake
  rw [if_neg (by rw [hasm, hpfail, decide_eq_false (by omega)]; decide), hfifo]

/-- An entry that finds the assembler idle passes to it. -/
theorem State.logIntake_idle {s : State} {e : LogEntry} (hpfail : s.log.pfail = false) (hasm : s.log.asm = none) (hfifo : s.log.fifo = [])
    (hroom : s.log.staged.length < 511) : s.logIntake e = (s.setLog { s.log with asm := some e }).logShow := by
  have htake : (s.setLog { s.log with fifo := s.log.fifo ++ [e] }).logTake = s.setLog { s.log with asm := some e } := by
    have := State.logTake_takes (s := s.setLog { s.log with fifo := s.log.fifo ++ [e] }) (e := e) (es := []) hasm (congrArg (· ++ [e]) hfifo) hpfail hroom
    rw [this, ← hfifo]
    rfl
  unfold State.logIntake
  dsimp only
  rw [if_neg (by rw [hpfail, hfifo]; decide), htake]

/-- What the display of the Logbook's state leaves. -/
theorem State.logShow_shows {s t : State} (ht : s.logShow = t) : RegsBut s t [LOG_STATUS.off, LOG_SEQ_LO.off] ∧ t.log = s.log ∧ t = { s with regs := t.regs } := by
  have honly := State.logShow_only s
  rw [ht] at honly
  exact ⟨ht ▸ State.logShow_regs s, honly.field State.log, honly⟩

theorem logCtrlFlush_shows {s : State} (hreach : Reach s LOG_CTRL) : Runs .logCtrlFlush s (fun t =>
    t.log = { s.log with flushing := true, flushN := s.log.staged.length, opStored := s.opNow } ∧ (t.rd LOG_CTRL).getLsbD 0 = true ∧
      RegsBut s t [LOG_CTRL.off, LOG_STATUS.off, LOG_SEQ_LO.off] ∧ t = { s with regs := t.regs, log := t.log }) := by
  have hctrl : s.logCtrl 1 = (s.setFld LOG_CTRL ⟨0, 0⟩ 1).logFlush.logShow := by
    unfold State.logCtrl
    rw [if_neg (show ¬ bitOf (1 : Word) 1 = true by decide), if_pos (show bitOf (1 : Word) 0 = true by decide)]
  generalize ha : s.setFld LOG_CTRL ⟨0, 0⟩ 1 = a at hctrl
  have haregs : RegsBut s a [LOG_CTRL.off] := ha ▸ (RegsBut.refl s _).setFld _ _ _
  have habit : (a.rd LOG_CTRL).getLsbD 0 = true := by
    rw [← ha, State.setFld_eq, State.rd_wr_self, Fld.put_getLsbD _ _ _ _ (by decide)]
    rfl
  have haframe : a = { s with regs := a.regs } := by rw [← ha]; rfl
  obtain ⟨hregs, hlog, hframe⟩ := State.logShow_shows (s := a.logFlush) rfl
  rw [← hctrl] at hregs hlog hframe
  have hocc : (s.logCtrl 1).occ = s.occ := by rw [hframe, haframe]; rfl
  refine Runs.next (exec_hostDo hreach (State.settle_same hocc)) ⟨?_, ?_, ?_, ?_⟩
  · rw [hlog, haframe]
    rfl
  · rw [hregs.rd (by decide)]
    exact habit
  · exact (haregs.mono (by simp)).trans ((hregs.congr).mono (by simp))
  · rw [hframe, haframe]
    rfl

theorem logCtrlNote_eq (s : State) : s.logCtrl 2 = s.logIntake (.note (s.rd LOG_NOTE_VAL) s.ns) := by
  unfold State.logCtrl
  rw [if_pos (show bitOf (2 : Word) 1 = true by decide), if_neg (show ¬ bitOf (2 : Word) 0 = true by decide)]

/-! ### Records and flushes -/

/-- A record in staging: its number, the log's frame, and the drop counts. -/
theorem State.logStage_shows {s t : State} {b : List Byte} (ht : s.logStage b = t) :
    t.log = { s.log with staged := s.log.staged ++ [(s.log.seq, b)], seq := s.log.seq + 1 } ∧ DropsKept s t ∧ t = { s with regs := t.regs, log := t.log } := by
  generalize hl : ({ s.log with staged := s.log.staged ++ [(s.log.seq, b)], seq := s.log.seq + 1 } : Log) = l
  have hstage : s.logStage b = (s.setLog l).logRead := by rw [← hl]; rfl
  have honly := State.logRead_only (s.setLog l)
  have hdrops : DropsKept s (s.setLog l).logRead := State.logRead_drops (s.setLog l)
  have hlog : (s.setLog l).logRead.log = l := honly.field State.log
  rw [hstage] at ht
  rw [OnlyRegs] at honly
  rw [ht] at honly hdrops hlog
  refine ⟨hlog, hdrops, ?_⟩
  rw [hlog, honly]
  rfl

/-- The entry in assembly becomes a record. -/
theorem State.logFinish_shows {s t : State} {e : LogEntry} (hasm : s.log.asm = some e) (ht : s.logFinish = t) :
    t.log = { s.log with asm := none, staged := s.log.staged ++ [(s.log.seq, s.entryRecord e)], seq := s.log.seq + 1 } ∧ DropsKept s t ∧
      t = { s with regs := t.regs, log := t.log } := by
  have hfin : s.logFinish = (s.logStage (s.entryRecord e)).setLog { (s.logStage (s.entryRecord e)).log with asm := none } := by
    unfold State.logFinish
    rw [hasm]
  obtain ⟨hlog, hdrops, hframe⟩ := State.logStage_shows (s := s) (b := s.entryRecord e) rfl
  generalize s.logStage (s.entryRecord e) = u at hlog hdrops hframe hfin
  rw [← ht, hfin]
  refine ⟨?_, hdrops, ?_⟩
  · show { u.log with asm := none } = _
    rw [hlog]
  · rw [hframe]
    rfl

/-- The event of an entry asks for a flush. -/
def LogEntry.flushes (e : LogEntry) : Bool := match e with | .event o => EVT_R_CFG_FLUSH.get o.cfg == 1 | _ => false

theorem logRecordAssembled_eq {s : State} {e : LogEntry} (hasm : s.log.asm = some e) :
    exec .logRecordAssembled s = .next (s.settle (if e.flushes || (256 ≤ s.logFinish.log.staged.length && !s.logFinish.log.flushing) then s.logFinish.logFlush
      else s.logFinish).logTake.logShow) := by
  refine congrArg Host.Outcome.next ?_
  rw [hasm]
  rfl

theorem recordAssembled_runs {s u : State} {e : LogEntry} (hasm : s.log.asm = some e)
    (hu : (if e.flushes || (256 ≤ s.logFinish.log.staged.length && !s.logFinish.log.flushing) then s.logFinish.logFlush else s.logFinish) = u)
    (hufifo : u.log.fifo = []) (hudrops : u.logDropping = false) (hframe : u = { s with regs := u.regs, log := u.log }) :
    Runs .logRecordAssembled s (fun t => t.log = u.log ∧ t = { s with regs := t.regs, log := t.log }) := by
  have hrun := logRecordAssembled_eq hasm
  rw [hu, State.logTake_idle hufifo (Or.inr hudrops)] at hrun
  obtain ⟨-, hlog, hshow⟩ := State.logShow_shows (s := u) rfl
  have hocc : u.logShow.occ = s.occ := by rw [hshow, hframe]
  rw [State.settle_same hocc] at hrun
  refine Runs.next hrun ⟨hlog, ?_⟩
  rw [hlog, hshow, hframe]

theorem recordAssembled_quiet {s : State} {e : LogEntry} (hasm : s.log.asm = some e) (hfifo : s.log.fifo = []) (hdrops : s.logDropping = false)
    (hstaged : s.log.staged.length < 255) (he : ∀ o, e = .event o → EVT_R_CFG_FLUSH.get o.cfg = 0) :
    Runs .logRecordAssembled s (fun t => t.log = { s.log with asm := none, staged := s.log.staged ++ [(s.log.seq, s.entryRecord e)], seq := s.log.seq + 1 } ∧
      t = { s with regs := t.regs, log := t.log }) := by
  have hflush : e.flushes = false := by
    cases e with
    | event o => rw [LogEntry.flushes, he o rfl]; rfl
    | note v ns => rfl
    | overflow d n ps ns => rfl
  obtain ⟨hlog, hkept, hframe⟩ := State.logFinish_shows hasm rfl
  have hlen : s.logFinish.log.staged.length ≤ 255 := by
    rw [hlog]
    show (s.log.staged ++ [_]).length ≤ 255
    rw [List.length_append, List.length_singleton]
    omega
  have hrun := recordAssembled_runs (u := s.logFinish) hasm (if_neg (by rw [hflush, decide_eq_false (by omega), Bool.false_and, Bool.or_false]; exact Bool.false_ne_true)) (by rw [hlog]; exact hfifo)
    (hkept.trans hdrops) hframe
  rwa [hlog] at hrun

theorem recordAssembled_flushes {s : State} {o : Occ} (hasm : s.log.asm = some (.event o)) (hfifo : s.log.fifo = []) (hdrops : s.logDropping = false)
    (hflush : EVT_R_CFG_FLUSH.get o.cfg = 1) :
    Runs .logRecordAssembled s (fun t => t.log = { s.log with
        asm := none, staged := s.log.staged ++ [(s.log.seq, s.entryRecord (.event o))], seq := s.log.seq + 1, flushing := true,
        flushN := s.log.staged.length + 1, opStored := s.opNow } ∧ t = { s with regs := t.regs, log := t.log }) := by
  obtain ⟨hlog, hkept, hframe⟩ := State.logFinish_shows hasm rfl
  have hrun := recordAssembled_runs (u := s.logFinish.logFlush) hasm
    (if_pos (by rw [show (LogEntry.event o).flushes = true by rw [LogEntry.flushes, hflush]; rfl, Bool.true_or])) ((congrArg Log.fifo hlog).trans hfifo)
    (hkept.trans hdrops) (by rw [hframe]; rfl)
  have hend : s.logFinish.logFlush.log =
      { s.log with asm := none, staged := s.log.staged ++ [(s.log.seq, s.entryRecord (.event o))], seq := s.log.seq + 1, flushing := true, flushN := s.log.staged.length + 1, opStored := s.opNow } := by
    have hflushLog (w : State) : w.logFlush.log = { w.log with flushing := true, flushN := w.log.staged.length, opStored := w.opNow } := rfl
    have hlen : s.logFinish.log.staged.length = s.log.staged.length + 1 := by
      rw [hlog]
      exact List.length_append
    rw [hflushLog, hlen, show s.logFinish.opNow = s.opNow by rw [hframe, hlog]; rfl, hlog]
  rwa [hend] at hrun

/-! ### The end of a flush, and PFAIL_N -/

/-- The log after a flush that software asked for. -/
def Log.flushed (l : Log) (now : Nat) : Log :=
  { l with staged := l.staged.drop l.flushN, flushing := false, flushN := 0, opStored := now,
           mram := (l.staged.take l.flushN).foldl (fun m r => tabFill 0 m (128 * logSlot r.1) r.2) l.mram }

theorem State.logFlushed_shows {s t : State} (hfatal : s.hlt.fatal = none) (hasked : (s.rd LOG_CTRL).getLsbD 0 = true)
    (hkeel : ∀ r, r ∈ s.log.staged.take s.log.flushN → r.1 ≠ 16383) (ht : s.logFlushed = t) :
    t.log = s.log.flushed s.opNow ∧ (t.rd LOG_CTRL).getLsbD 0 = false ∧ Raised s t 1020 0x0E04 0 ∧ DropsKept s t ∧ t = { s with regs := t.regs, log := t.log, occ := t.occ } := by
  generalize hl : ({ s.log with
    staged := s.log.staged.drop s.log.flushN, flushing := false, flushN := 0,
    mram := (s.log.staged.take s.log.flushN).foldl (fun m r => tabFill 0 m (128 * logSlot r.1) r.2) s.log.mram } : Log) = l
  have hno : ((s.log.staged.take s.log.flushN).any fun r => r.1 == 16383) = false :=
    List.any_eq_false.2 fun r hr => by rw [beq_iff_eq]; exact hkeel r hr
  generalize ha : (s.setLog l).setFld LOG_CTRL ⟨0, 0⟩ 0 = a
  have hflushed : s.logFlushed = (a.raise 1020 0x0E04).opStore.logRead := by
    unfold State.logFlushed
    extract_lets +onlyGivenNames l0 done mram asked keel
    rw [show asked = true from hasked, show keel = false from hno]
    dsimp only
    rw [← ha, ← hl, if_pos rfl, if_neg Bool.false_ne_true]
    refine congrArg (fun x : State => x.opStore.logRead) (if_neg ?_)
    show ¬ s.hlt.fatal.isSome = true
    rw [hfatal]
    decide
  have haregs : RegsBut s a [LOG_CTRL.off] := ha ▸ ((RegsBut.refl s _).congr.setFld _ _ _)
  have habit : (a.rd LOG_CTRL).getLsbD 0 = false := by
    rw [← ha, State.setFld_eq, State.rd_wr_self, Fld.put_getLsbD _ _ _ _ (by decide)]
    rfl
  have haraised : Raised s (a.raise 1020 0x0E04) 1020 0x0E04 0 := by
    refine State.raised_raise 1020 0x0E04 [] ?_ (haregs.rd (by decide))
    rw [← ha]
    rfl
  have hadrops : DropsKept s (a.raise 1020 0x0E04) := by
    refine DropsKept.raise ?_ _ _ _
    rw [← ha]
    exact DropsKept.wr (show DropsKept s (s.setLog l) from DropsKept.refl s) _ _ (by decide) (by decide)
  have haframe : a = { s with regs := a.regs, log := l } := by rw [← ha]; rfl
  generalize hb : (a.raise 1020 0x0E04).opStore = b at hflushed
  have hblog : b.log = s.log.flushed s.opNow := by
    rw [← hb, haframe, ← hl]
    rfl
  have hbframe : b = { s with regs := b.regs, log := b.log, occ := b.occ } := by
    rw [← hb, haframe]
    rfl
  have honly := State.logRead_only b
  have hregs := State.logRead_regs b
  have hdrops := State.logRead_drops b
  rw [← hflushed, ht] at honly hregs hdrops
  have hnot {r : Reg} (h : r.off < 0x380100 ∨ 0x380180 ≤ r.off) : r.off ∉ (List.range 32).map fun i => (LOG_RD_DATA i).off := by
    intro hmem
    obtain ⟨i, hi, heq⟩ := List.mem_map.1 hmem
    have := List.mem_range.1 hi
    simp only [LOG_RD_DATA] at heq
    omega
  refine ⟨(honly.field State.log).trans hblog, ?_, ?_, ?_, ?_⟩
  · rw [hregs.rd (hnot (by decide)), ← hb]
    show ((a.raise 1020 0x0E04).rd LOG_CTRL).getLsbD 0 = false
    rw [State.rd_raise _ _ _ _ (by decide) (by decide)]
    exact habit
  · exact haraised.later (honly.occ.trans (by rw [← hb]; rfl)) (by rw [← hb] at hregs; exact hregs) (hnot (by decide)) (hnot (by decide))
  · exact hdrops.trans (by rw [← hb]; exact hadrops)
  · rw [OnlyRegs] at honly
    rw [honly, hbframe]

/-- The end of a flush from the state in which its records are durable and PFAIL_N's level is known. -/
theorem logFlushDone_runs {s u : State} {high : Bool}
    (hu : (if (if s.log.flushing then s.logFlushed else s).log.pfail && high then
        (if s.log.flushing then s.logFlushed else s).setLog { (if s.log.flushing then s.logFlushed else s).log with pfail := false }
      else (if s.log.flushing then s.logFlushed else s)) = u)
    (hfifo : u.log.fifo = []) (hdrops : u.logDropping = false) (htrip : u.hlt.trip = false) :
    exec (.logFlushDone high) s = .next (s.settle u.logShow) := by
  have hrun : exec (.logFlushDone high) s = .next (s.settle u.logTake.logShow.tripClocks) := by rw [← hu]; rfl
  have hend : u.logShow.tripClocks = u.logShow := by
    refine if_neg ?_
    rw [(State.logShow_only u).field fun x => x.hlt.trip, htrip, Bool.false_and]
    exact Bool.false_ne_true
  rw [hrun, State.logTake_idle hfifo (Or.inr hdrops), hend]

theorem flushDone_asked {s : State} (high : Bool) (hflushing : s.log.flushing = true) (hfifo : s.log.fifo = []) (hpfail : s.log.pfail = false)
    (hdrops : s.logDropping = false) (htrip : s.hlt.trip = false) (hfatal : s.hlt.fatal = none) (hasked : (s.rd LOG_CTRL).getLsbD 0 = true)
    (hkeel : ∀ r, r ∈ s.log.staged.take s.log.flushN → r.1 ≠ 16383) :
    Runs (.logFlushDone high) s (fun t => t.log = s.log.flushed s.opNow ∧ (t.rd LOG_CTRL).getLsbD 0 = false ∧ Raised s t 1020 0x0E04 0 ∧
      t = { s with regs := t.regs, log := t.log, occ := t.occ }) := by
  obtain ⟨hlog, hbit, hraised, hkept, hframe⟩ := State.logFlushed_shows hfatal hasked hkeel rfl
  have hu : (if s.log.flushing then s.logFlushed else s) = s.logFlushed := if_pos hflushing
  have hrun := logFlushDone_runs (s := s) (u := s.logFlushed) (high := high)
    (by rw [hu, if_neg (by rw [hlog, show (s.log.flushed s.opNow).pfail = false from hpfail, Bool.false_and]; exact Bool.false_ne_true)])
    ((congrArg Log.fifo hlog).trans hfifo) (hkept.trans hdrops) (by rw [hframe]; exact htrip)
  generalize s.logFlushed = b at hlog hbit hraised hframe hrun
  obtain ⟨hregs, hshowLog, hshow⟩ := State.logShow_shows (s := b) rfl
  obtain ⟨⟨o, hocc, ho⟩, hcnt, hlast⟩ := hraised
  have hshowOcc : b.logShow.occ = s.occ ++ [o] := by rw [hshow]; exact hocc
  rw [State.settle_one hshowOcc] at hrun
  refine Runs.next hrun ⟨hshowLog.trans hlog, ?_, ⟨⟨o, hshowOcc, ho⟩, ?_, ?_⟩, ?_⟩
  · rw [hregs.rd (by decide)]
    exact hbit
  · rw [hregs.rd (by decide), hcnt]
  · rw [hregs.rd (by decide), hlast]
  · rw [hshowLog, hshow, hframe]

theorem flushDone_resumes {s : State} (hflushing : s.log.flushing = false) (hpfail : s.log.pfail = true) (hfifo : s.log.fifo = []) (hdrops : s.logDropping = false)
    (htrip : s.hlt.trip = false) :
    Runs (.logFlushDone true) s (fun t => t.log = { s.log with pfail := false } ∧ t = { s with regs := t.regs, log := t.log }) := by
  have hu : (if s.log.flushing then s.logFlushed else s) = s := if_neg (by rw [hflushing]; decide)
  have hrun := logFlushDone_runs (s := s) (u := s.setLog { s.log with pfail := false }) (high := true)
    (by rw [hu]; exact if_pos (by rw [hpfail]; rfl)) hfifo hdrops htrip
  obtain ⟨-, hlog, hframe⟩ := State.logShow_shows (s := s.setLog { s.log with pfail := false }) rfl
  have hocc : (s.setLog { s.log with pfail := false }).logShow.occ = s.occ := by rw [hframe]; rfl
  rw [State.settle_same hocc] at hrun
  refine Runs.next hrun ⟨hlog, ?_⟩
  rw [hlog, hframe]
  rfl

theorem powerFail_stages {s : State} (hpfail : s.log.pfail = false) (hasm : s.log.asm = none) (hfifo : s.log.fifo = []) :
    Runs .powerFail s (fun t => t.log = { s.log with
        pfail := true, staged := s.log.staged ++ [(s.log.seq, s.logRecord 3 false true s.ns 0xFFFF 0x0E04 (w32 s.log.staged.length) [])], seq := s.log.seq + 1,
        flushing := true, flushN := s.log.staged.length + 1, opStored := s.opNow } ∧ t = { s with regs := t.regs, log := t.log }) := by
  have hfin : s.logFinish = s := by
    unfold State.logFinish
    rw [hasm]
  generalize hb : s.logRecord 3 false true s.ns 0xFFFF 0x0E04 (w32 s.log.staged.length) [] = b
  obtain ⟨hlog, -, hframe⟩ := State.logStage_shows (s := s) (b := b) rfl
  generalize hu : s.logStage b = u at hlog hframe
  have hpower : s.powerFail = (u.setLog { u.log with pfail := true, fifo := [] }).logFlush.logShow := by
    unfold State.powerFail
    rw [if_neg (by rw [hpfail]; decide)]
    dsimp only
    rw [hfin, hb, hu, show u.log.fifo = [] from (congrArg Log.fifo hlog).trans hfifo]
    rfl
  have hrun : exec .powerFail s = .next (s.settle s.powerFail) := rfl
  rw [hpower] at hrun
  generalize hv : (u.setLog { u.log with pfail := true, fifo := [] }).logFlush = v at hrun
  have hvlog : v.log = { s.log with
        pfail := true, staged := s.log.staged ++ [(s.log.seq, b)], seq := s.log.seq + 1,
        flushing := true, flushN := s.log.staged.length + 1, opStored := s.opNow } := by
    have hlen : u.log.staged.length = s.log.staged.length + 1 := by
      rw [hlog]
      exact List.length_append
    have hall : v.log = { u.log with pfail := true, fifo := [], flushing := true, flushN := u.log.staged.length, opStored := u.opNow } := by rw [← hv]; rfl
    rw [hall, hlen, show u.opNow = s.opNow by rw [hframe, hlog]; rfl, hlog, ← hfifo]
  have hvframe : v = { s with regs := v.regs, log := v.log } := by
    rw [← hv, hframe]
    rfl
  obtain ⟨-, hshowLog, hshow⟩ := State.logShow_shows (s := v) rfl
  have hocc : v.logShow.occ = s.occ := by rw [hshow, hvframe]
  rw [State.settle_same hocc] at hrun
  refine Runs.next hrun ⟨hshowLog.trans hvlog, ?_⟩
  rw [hshowLog, hshow, hvframe]

theorem logDrop_note {s : State} (hfirst : s.log.dropped = 0) :
    s.logDrop none = (((s.wr LOG_NOTE_DROP (w32 (min 65535 ((s.rd LOG_NOTE_DROP).toNat + 1)))).inc LOG_DROP_CNT).setLog { s.log with dropped := 1 }).raise 1022 0x0E04 := by
  have hl : ({ s.log with dropped := s.log.dropped + 1 } : Log) = { s.log with dropped := 1 } := by rw [hfirst]
  refine (if_pos (beq_iff_eq.2 hfirst)).trans ?_
  exact congrArg (fun l => (((s.wr LOG_NOTE_DROP (w32 (min 65535 ((s.rd LOG_NOTE_DROP).toNat + 1)))).inc LOG_DROP_CNT).setLog l).raise 1022 0x0E04) hl

theorem recordsAreKept : RecordsAreKept := by
  unfold RecordsAreKept
  intro s l
  refine ⟨logCtrlFlush_shows, fun hreach hpfail hasm hfifo hroom => ?_, fun hreach hpfail hdropped => ?_, fun hasm => ?_, fun e hasm hfifo hdrops hstaged he =>
    recordAssembled_quiet hasm hfifo hdrops hstaged he, fun o hasm hfifo hdrops hstaged hflush => ?_,
    fun high hflushing hasm hfifo hpfail hdrops htrip hfatal hasked hkeel => ?_, fun hflushing hpfail hasm hfifo hdrops htrip =>
    flushDone_resumes hflushing hpfail hfifo hdrops htrip, fun hpfail => ?_, fun hpfail hasm hfifo => ?_, rfl⟩
  · obtain ⟨hregs, hlog, hframe⟩ := State.logShow_shows (s := s.setLog { s.log with asm := some (.note (s.rd LOG_NOTE_VAL) s.ns) }) rfl
    have hnote := (logCtrlNote_eq s).trans (State.logIntake_idle hpfail hasm hfifo hroom)
    rw [← hnote] at hregs hlog hframe
    have hocc : (s.logCtrl 2).occ = s.occ := by rw [hframe]; rfl
    refine Runs.next (exec_hostDo hreach (State.settle_same hocc)) ⟨hlog, hregs, ?_⟩
    rw [hlog, hframe]
    rfl
  · have hnote : s.logCtrl 2 = (s.logDrop none).logShow := by
      rw [logCtrlNote_eq]
      unfold State.logIntake
      dsimp only
      rw [if_pos (by rw [show s.log.pfail = true from hpfail, Bool.true_or])]
    rw [logDrop_note hdropped] at hnote
    generalize ha : ((s.wr LOG_NOTE_DROP (w32 (min 65535 ((s.rd LOG_NOTE_DROP).toNat + 1)))).inc LOG_DROP_CNT).setLog { s.log with dropped := 1 } = a at hnote
    have haraised : Raised s (a.raise 1022 0x0E04) 1022 0x0E04 0 := by
      refine State.raised_raise 1022 0x0E04 [] (by rw [← ha]; rfl) ?_
      rw [← ha]
      exact (State.rd_wr_ne _ _ (by decide)).trans (State.rd_wr_ne _ _ (by decide))
    obtain ⟨hregs, hlog, hframe⟩ := State.logShow_shows (s := a.raise 1022 0x0E04) rfl
    rw [← hnote] at hregs hlog hframe
    obtain ⟨⟨o, hocc, ho⟩, hcnt, hlast⟩ := haraised
    have hocc' : (s.logCtrl 2).occ = s.occ ++ [o] := by rw [hframe]; exact hocc
    refine Runs.next (exec_hostDo hreach (State.settle_one hocc')) ⟨?_, ?_, ?_, ⟨o, hocc', ho⟩, ?_, ?_⟩
    · rw [hregs.rd (by decide), State.rd_raise _ _ _ _ (by decide) (by decide), ← ha]
      exact (State.rd_wr_ne _ _ (by decide)).trans (State.rd_wr_self _ _ _)
    · rw [hregs.rd (by decide), State.rd_raise _ _ _ _ (by decide) (by decide), ← ha]
      exact (State.rd_wr_self _ _ _).trans (congrArg (satAdd · 1) (State.rd_wr_ne _ _ (by decide)))
    · rw [hlog, ← ha]
      rfl
    · rw [hregs.rd (by decide), hcnt]
    · rw [hregs.rd (by decide), hlast]
  · refine congrArg Host.Outcome.next ?_
    rw [show s.log.asm = none from hasm]
  · obtain ⟨t, hrun, hlog, hframe⟩ := recordAssembled_flushes hasm hfifo hdrops hflush
    refine ⟨t, hrun, ?_, by rw [hlog], by rw [hlog], hframe⟩
    rw [hlog]
  · obtain ⟨t, hrun, hlog, hbit, hraised, hframe⟩ := flushDone_asked high hflushing hfifo hpfail hdrops htrip hfatal hasked hkeel
    refine ⟨t, hrun, ?_, by rw [hlog]; rfl, hbit, hraised, hframe⟩
    rw [hlog]
    rfl
  · have hstay : s.powerFail = s := if_pos hpfail
    have hrun : exec .powerFail s = .next (s.settle s.powerFail) := rfl
    rw [hrun, hstay, State.settle_same rfl]
  · obtain ⟨t, hrun, hlog, hframe⟩ := powerFail_stages hpfail hasm hfifo
    refine ⟨t, hrun, ?_, by rw [hlog], hframe⟩
    rw [hlog]

/-- Settles O55, by what the assembler, the staging and a flush leave of the log. -/
theorem logbookRecords : Obligations.LogbookRecords := recordsAreKept

end Sys2Proof.Machine
end

section
/-! PROOFS. Delivery of an occurrence to the target of its route (R475 to R480). -/

-- One proof at a time: the text is compiled as one file in bounded memory.
set_option Elab.async false

namespace Sys2Proof.Machine
open Sys2Proof.Claims

/-! ### The targets, one by one -/

section
variable (s : State) (o : Occ)

/-- The vector's part of a route. -/
def State.evtMsi : State :=
  if EVT_R_CFG_MSI_EN.get o.cfg = 1 then (s.setFld (EVT_PEND (o.num / 32)) (evtBit o.num) 1).msixSend (EVT_R_CFG_VECTOR.get o.cfg) else s

/-- The Coaches' part. -/
def State.evtCoach : State := (List.range 8).foldl (fun s c => if bitsOf (EVT_R_CFG_COACH.get o.cfg) c c = 1 then s.coachSet c o.num else s) s

/-- The seat's part. -/
def State.evtWake : State :=
  if EVT_R_TGT_WAKE_EN.get o.tgt = 1 && EVT_R_TGT_SEAT.get o.tgt ≤ 287 then s.wakeIndex (EVT_R_TGT_SEAT.get o.tgt) { slot := 0x3FE, event := o.num, ns := o.ns } else s

/-- The Stroke slot's part. -/
def State.evtStk : State := if EVT_R_TGT_STK_EN.get o.tgt = 1 then s.evtSlot (EVT_R_TGT_SLOT.get o.tgt) else s

/-- The Logbook's part. -/
def State.evtLog : State := if EVT_R_CFG_LOG.get o.cfg = 1 then s.logIntake (.event o) else s

theorem State.evtDeliver_eq : s.evtDeliver o = ((((s.evtMsi o).evtCoach o).evtWake o).evtStk o).evtLog o := rfl

end

section
variable {s : State} {o : Occ}

theorem State.evtMsi_none (h : ¬ EVT_R_CFG_MSI_EN.get o.cfg = 1) : s.evtMsi o = s := if_neg h

theorem State.evtCoach_none (h : ¬ EVT_R_CFG_COACH.get o.cfg ≠ 0) : s.evtCoach o = s :=
  foldl_fixed_mem fun c _ => if_neg (by rw [Decidable.not_not.1 h, bitsOf, Nat.zero_div, Nat.zero_mod]; decide)

theorem State.evtWake_none (h : ¬ (EVT_R_TGT_WAKE_EN.get o.tgt = 1 ∧ EVT_R_TGT_SEAT.get o.tgt ≤ 287)) : s.evtWake o = s :=
  if_neg (by rwa [Bool.and_eq_true, decide_eq_true_iff, decide_eq_true_iff])

theorem State.evtStk_none (h : ¬ EVT_R_TGT_STK_EN.get o.tgt = 1) : s.evtStk o = s := if_neg h

theorem State.evtLog_none (h : ¬ EVT_R_CFG_LOG.get o.cfg = 1) : s.evtLog o = s := if_neg h

theorem eventDelivery_some {os : List Occ} (h : s.occ = o :: os) :
    exec .eventDelivery s = .next (({ s with occ := os } : State).settle (({ s with occ := os } : State).evtDeliver o)) := by
  refine congrArg Host.Outcome.next ?_
  rw [h]

theorem eventDelivery_none (h : s.occ = []) : exec .eventDelivery s = .next s := by
  refine congrArg Host.Outcome.next ?_
  rw [h]

end

/-! ### What each target gets -/

/-- Pending bits that a list of Coaches gets. -/
theorem coachSet_foldl (m num : Nat) : ∀ (cs : List Nat) (s : State) (k : Nat),
    tabGet (cs.foldl (fun s c => if bitsOf m c c = 1 then s.coachSet c num else s) s).coachPend false k
      = (tabGet s.coachPend false k || cs.any (fun c => bitsOf m c c == 1 && k == 1024 * c + num))
  | [], s, k => by rw [List.foldl_nil, List.any_nil, Bool.or_false]
  | c :: cs, s, k => by
    rw [List.foldl_cons, coachSet_foldl m num cs, List.any_cons, ← Bool.or_assoc]
    congr 1
    by_cases hc : bitsOf m c c = 1
    · rw [if_pos hc, hc, beq_self_eq_true, Bool.true_and]
      by_cases hk : k = 1024 * c + num
      · rw [hk, beq_self_eq_true, Bool.or_true]
        exact tabGet_set_self s.coachPend false true (1024 * c + num)
      · rw [beq_eq_false_iff_ne.2 hk, Bool.or_false]
        exact tabGet_set_ne s.coachPend false true false hk
    · rw [if_neg hc, beq_eq_false_iff_ne.2 hc, Bool.false_and, Bool.or_false]

theorem coachSet_foldl_frame (m num : Nat) : ∀ (cs : List Nat) (s : State),
    cs.foldl (fun s c => if bitsOf m c c = 1 then s.coachSet c num else s) s
      = { s with coachPend := (cs.foldl (fun s c => if bitsOf m c c = 1 then s.coachSet c num else s) s).coachPend }
  | [], _ => rfl
  | c :: cs, s => by
    rw [List.foldl_cons]
    refine (coachSet_foldl_frame m num cs _).trans ?_
    split <;> rfl

theorem State.evtCoach_pend (s : State) (o : Occ) (hnum : o.num < 1024) {c n : Nat} (hc : c < 8) (hn : n < 1024) :
    tabGet (s.evtCoach o).coachPend false (1024 * c + n) = (tabGet s.coachPend false (1024 * c + n) || (decide (n = o.num) && (EVT_R_CFG_COACH.get o.cfg).testBit c)) := by
  unfold State.evtCoach
  rw [coachSet_foldl]
  congr 1
  rw [Bool.eq_iff_iff, List.any_eq_true, Bool.and_eq_true, decide_eq_true_iff, Nat.testBit_eq_decide_div_mod_eq, decide_eq_true_iff]
  have hbits (b : Nat) : bitsOf (EVT_R_CFG_COACH.get o.cfg) b b = EVT_R_CFG_COACH.get o.cfg / 2 ^ b % 2 := by rw [bitsOf, Nat.add_sub_cancel_left, Nat.pow_one]
  constructor
  · rintro ⟨b, -, hb⟩
    rw [Bool.and_eq_true, beq_iff_eq, beq_iff_eq] at hb
    obtain ⟨hbit, hkey⟩ := hb
    obtain ⟨rfl, rfl⟩ : b = c ∧ n = o.num := by omega
    exact ⟨rfl, by rw [← hbits]; exact hbit⟩
  · rintro ⟨rfl, hbit⟩
    exact ⟨c, List.mem_range.2 hc, by rw [hbits, hbit, beq_self_eq_true, beq_self_eq_true]; rfl⟩

/-- A delivery with a vector alone. -/
theorem State.evtMsi_pend {s u : State} {n v : Nat} (hu : s.setFld (EVT_PEND (n / 32)) (evtBit n) 1 = u) :
    (u.rd (EVT_PEND (n / 32))).getLsbD (n % 32) = true ∧ RegsBut s u [(EVT_PEND (n / 32)).off] ∧ u.msixOf v = s.msixOf v ∧ u = { s with regs := u.regs } := by
  have hlt : n % 32 < 32 := Nat.mod_lt _ (by decide)
  rw [← hu]
  refine ⟨?_, (RegsBut.refl s _).setFld _ _ _, rfl, rfl⟩
  rw [State.setFld_eq, State.rd_wr_self, Fld.put_getLsbD _ _ _ _ hlt]
  simp [evtBit]

theorem State.logIntake_full {s : State} {o : Occ} (hfifo : 256 ≤ s.log.fifo.length) : s.logIntake (.event o) = (s.logDrop (some o.num)).logShow := by
  unfold State.logIntake
  dsimp only
  rw [if_pos (by rw [decide_eq_true hfifo, Bool.or_true])]

/-- The registers and the count of a drop, before the first one's event. -/
def State.dropped (s : State) (n : Nat) : State :=
  ((s.wr (LOG_DROP n) (w32 (min 65535 ((s.rd (LOG_DROP n)).toNat + 1)))).inc LOG_DROP_CNT).setLog { s.log with dropped := s.log.dropped + 1 }

theorem State.logDrop_some (s : State) (n : Nat) : s.logDrop (some n) = if s.log.dropped = 0 then (s.dropped n).raise 1022 0x0E04 else s.dropped n := by
  unfold State.logDrop
  dsimp only
  by_cases h : s.log.dropped = 0
  · rw [if_pos h]
    exact if_pos (beq_iff_eq.2 h)
  · rw [if_neg h]
    exact if_neg (by rwa [beq_iff_eq])

theorem State.logDrop_shows {s t : State} {n : Nat} (hn : n < 1024) (ht : s.logDrop (some n) = t) :
    t.rd (LOG_DROP n) = w32 (min 65535 ((s.rd (LOG_DROP n)).toNat + 1)) ∧ t.rd LOG_DROP_CNT = satAdd (s.rd LOG_DROP_CNT) 1 ∧
      t.log = { s.log with dropped := s.log.dropped + 1 } ∧ (s.log.dropped = 0 → t.rd (EVT_R_CNT 1022) = satAdd (s.rd (EVT_R_CNT 1022)) 1) ∧
      (t.occ = s.occ ∨ ∃ x, t.occ = s.occ ++ [x]) := by
  have hcnt : (s.dropped n).rd LOG_DROP_CNT = satAdd (s.rd LOG_DROP_CNT) 1 :=
    (State.rd_wr_self _ _ _).trans (congrArg (satAdd · 1) (State.rd_wr_ne _ _ (by simp only [LOG_DROP_CNT, LOG_DROP]; omega)))
  have hdrop : (s.dropped n).rd (LOG_DROP n) = w32 (min 65535 ((s.rd (LOG_DROP n)).toNat + 1)) :=
    (State.rd_wr_ne _ _ (by simp only [LOG_DROP_CNT, LOG_DROP]; omega)).trans (State.rd_wr_self _ _ _)
  have hevt : (s.dropped n).rd (EVT_R_CNT 1022) = s.rd (EVT_R_CNT 1022) :=
    (State.rd_wr_ne _ _ (by decide)).trans (State.rd_wr_ne _ _ (by simp only [EVT_R_CNT, LOG_DROP]; omega))
  have hlog : (s.dropped n).log = { s.log with dropped := s.log.dropped + 1 } := rfl
  have hocc : (s.dropped n).occ = s.occ := rfl
  rw [← ht, State.logDrop_some]
  generalize s.dropped n = d at hcnt hdrop hevt hlog hocc
  by_cases h : s.log.dropped = 0
  · rw [if_pos h]
    refine ⟨?_, ?_, (State.raise_log ..).trans hlog, fun _ => ?_, Or.inr ⟨_, by rw [State.raise_occ, hocc]⟩⟩
    · rw [State.rd_raise _ _ _ _ (by simp only [EVT_R_CNT, LOG_DROP]; omega) (by simp only [EVT_R_LAST, LOG_DROP]; omega), hdrop]
    · rw [State.rd_raise _ _ _ _ (by decide) (by decide), hcnt]
    · rw [State.rd_raise_cnt, hevt]
  · rw [if_neg h]
    exact ⟨hdrop, hcnt, hlog, fun h' => absurd h' h, Or.inl hocc⟩

theorem eventsAreDelivered : EventsAreDelivered := by
  unfold EventsAreDelivered
  intro s o os u msi coach wake stk log
  refine ⟨eventDelivery_none, fun hocc => ?_⟩
  have hrun : exec .eventDelivery s = .next (u.settle (((((u.evtMsi o).evtCoach o).evtWake o).evtStk o).evtLog o)) := eventDelivery_some hocc
  refine ⟨fun hm hc hw hs hl => ?_, fun hm hc hw hs hl hopen => ?_, fun hm hc hw hs hl hmask => ?_, fun hm hc hw hs hl hnum => ?_, fun hm hc hw hs hl harm => ?_,
    fun hm hc hw hs hl harm => ?_, fun hm hc hw hs hl => ?_, fun hm hc hw hs hl hpfail hasm hfifo hroom => ?_, fun hm hc hw hs hl hpfail hfifo hnum => ?_⟩
  · rw [hrun, State.evtMsi_none hm, State.evtCoach_none hc, State.evtWake_none hw, State.evtStk_none hs, State.evtLog_none hl, State.settle_same rfl]
  · obtain ⟨hpend, hregs, hmsix, hframe⟩ := State.evtMsi_pend (s := u) (n := o.num) (v := EVT_R_CFG_VECTOR.get o.cfg) rfl
    have hmsi : u.evtMsi o = (u.setFld (EVT_PEND (o.num / 32)) (evtBit o.num) 1).msixSend (EVT_R_CFG_VECTOR.get o.cfg) := if_pos hm
    generalize u.setFld (EVT_PEND (o.num / 32)) (evtBit o.num) 1 = a at hpend hregs hmsix hframe hmsi
    have hsent : (a.emit (.msix (EVT_R_CFG_VECTOR.get o.cfg))).occ = u.occ := by rw [hframe]; rfl
    rw [State.evtCoach_none hc, State.evtWake_none hw, State.evtStk_none hs, State.evtLog_none hl, hmsi, msixSend_open (by rw [hmsix]; exact hopen),
      State.settle_same hsent] at hrun
    refine Runs.next hrun ⟨hpend, ?_, hregs, ?_⟩
    · rw [hframe]
      rfl
    · rw [hframe]
      rfl
  · obtain ⟨hpend, hregs, hmsix, hframe⟩ := State.evtMsi_pend (s := u) (n := o.num) (v := EVT_R_CFG_VECTOR.get o.cfg) rfl
    have hmsi : u.evtMsi o = (u.setFld (EVT_PEND (o.num / 32)) (evtBit o.num) 1).msixSend (EVT_R_CFG_VECTOR.get o.cfg) := if_pos hm
    generalize u.setFld (EVT_PEND (o.num / 32)) (evtBit o.num) 1 = a at hpend hregs hmsix hframe hmsi
    have hmask' : (a.msixOf (EVT_R_CFG_VECTOR.get o.cfg)).masked = true := by rw [hmsix]; exact hmask
    have hsend : a.msixSend (EVT_R_CFG_VECTOR.get o.cfg)
        = a.setMsix (EVT_R_CFG_VECTOR.get o.cfg) { a.msixOf (EVT_R_CFG_VECTOR.get o.cfg) with pending := true } := if_pos hmask'
    have hsent : (a.setMsix (EVT_R_CFG_VECTOR.get o.cfg) { a.msixOf (EVT_R_CFG_VECTOR.get o.cfg) with pending := true }).occ = u.occ := by
      show a.occ = u.occ
      rw [hframe]
    rw [State.evtCoach_none hc, State.evtWake_none hw, State.evtStk_none hs, State.evtLog_none hl, hmsi, hsend, State.settle_same hsent] at hrun
    refine Runs.next hrun ⟨hpend, ?_, ?_, hregs⟩
    · rw [State.msixOf_setMsix]
    · show a.out = s.out
      rw [hframe]
  · have hframe : u.evtCoach o = { u with coachPend := (u.evtCoach o).coachPend } := coachSet_foldl_frame _ _ _ u
    have hkept : (u.evtCoach o).occ = u.occ := by rw [hframe]
    rw [State.evtMsi_none hm, State.evtWake_none hw, State.evtStk_none hs, State.evtLog_none hl, State.settle_same hkept] at hrun
    exact Runs.next hrun ⟨fun c n hc' hn => u.evtCoach_pend o hnum hc' hn, hframe⟩
  · have hstk : u.evtStk o = { u with stk := { s.stk with evMatch := s.stk.evMatch ++ [EVT_R_TGT_SLOT.get o.tgt] } } := (if_pos hs).trans (if_pos harm)
    rw [hrun, State.evtMsi_none hm, State.evtCoach_none hc, State.evtWake_none hw, hstk, State.evtLog_none hl]
    exact congrArg Host.Outcome.next (State.settle_same rfl)
  · have hstk : u.evtStk o = u.inc EVT_STK_DROP := (if_pos hs).trans (if_neg (by rw [bitOf]; exact fun h => absurd (harm.symm.trans h) Bool.false_ne_true))
    rw [hrun, State.evtMsi_none hm, State.evtCoach_none hc, State.evtWake_none hw, hstk, State.evtLog_none hl]
    exact congrArg Host.Outcome.next (State.settle_same rfl)
  · have hwake : u.evtWake o = u.wakeIndex (EVT_R_TGT_SEAT.get o.tgt) { slot := 0x3FE, event := o.num, ns := o.ns } :=
      if_pos (by rwa [Bool.and_eq_true, decide_eq_true_iff, decide_eq_true_iff])
    rw [hrun, State.evtMsi_none hm, State.evtCoach_none hc, hwake, State.evtStk_none hs, State.evtLog_none hl]
  · have hlog : u.evtLog o = (u.setLog { s.log with asm := some (.event o) }).logShow := (if_pos hl).trans (State.logIntake_idle hpfail hasm hfifo hroom)
    obtain ⟨hregs, hend, hframe⟩ := State.logShow_shows (s := u.setLog { s.log with asm := some (.event o) }) rfl
    rw [State.evtMsi_none hm, State.evtCoach_none hc, State.evtWake_none hw, State.evtStk_none hs, hlog] at hrun
    generalize (u.setLog { s.log with asm := some (.event o) }).logShow = t at hrun hregs hend hframe
    rw [State.settle_same (by rw [hframe]; rfl)] at hrun
    refine Runs.next hrun ⟨hend, hregs, ?_⟩
    rw [hend, hframe]
    rfl
  · have hlog : u.evtLog o = (u.logDrop (some o.num)).logShow := (if_pos hl).trans (State.logIntake_full hfifo)
    obtain ⟨hdrop, hcnt, hlogd, hevt, hocc'⟩ := State.logDrop_shows (s := u) hnum rfl
    obtain ⟨hregs, hend, hframe⟩ := State.logShow_shows (s := u.logDrop (some o.num)) rfl
    rw [State.evtMsi_none hm, State.evtCoach_none hc, State.evtWake_none hw, State.evtStk_none hs, hlog] at hrun
    generalize u.logDrop (some o.num) = a at hrun hregs hend hframe hdrop hcnt hlogd hevt hocc'
    have hsettle : u.settle a.logShow = a.logShow := by
      have hsame : a.logShow.occ = a.occ := by rw [hframe]
      rcases hocc' with h | ⟨x, h⟩
      · exact State.settle_same (hsame.trans h)
      · exact State.settle_one (hsame.trans h)
    rw [hsettle] at hrun
    refine Runs.next hrun ⟨?_, ?_, hend.trans hlogd, fun h => ?_⟩
    · rw [hregs.rd (by simp only [LOG_DROP, LOG_STATUS, LOG_SEQ_LO, List.mem_cons, List.not_mem_nil, or_false, not_or]; omega), hdrop]
      rfl
    · rw [hregs.rd (by decide), hcnt]
      rfl
    · rw [hregs.rd (by decide), hevt h]
      rfl

/-- Settles O54, target by target, each on a route that has no other. -/
theorem eventRouting : Obligations.EventRouting := eventsAreDelivered

end Sys2Proof.Machine
end

section
/-! PROOFS. Rules for the services of the Vault: the bytes of the mailbox, how a request is served, and what its response leaves (R465 to R468). -/

-- One proof at a time: the text is compiled as one file in bounded memory.
set_option Elab.async false

namespace Sys2Proof.Machine
open Sys2Proof.Claims

/-! ### Words and bytes -/

theorem leBytes_leNat : ∀ l : List Byte, leBytes l.length (leNat l) = l
  | [] => rfl
  | b :: l => by
    have hb : b.toNat < 256 := b.isLt
    rw [List.length_cons, leBytes, leNat, show (b.toNat + 256 * leNat l) / 256 = leNat l by omega, leBytes_leNat l]
    congr 1
    refine BitVec.eq_of_toNat_eq ?_
    rw [BitVec.toNat_ofNat]
    omega

theorem leNat_lt : ∀ l : List Byte, leNat l < 256 ^ l.length
  | [] => by decide
  | b :: l => by
    have hb : b.toNat < 256 := b.isLt
    have := leNat_lt l
    rw [List.length_cons, leNat, Nat.pow_succ]
    omega

/-- Four bytes as a word and back. -/
theorem wordBytes_leNat {l : List Byte} (h : l.length = 4) : wordBytes (w32 (leNat l)) = l := by
  have hlt := leNat_lt l
  rw [h] at hlt
  have hn : (w32 (leNat l)).toNat = leNat l := Nat.mod_eq_of_lt hlt
  have hb := leBytes_leNat l
  rw [h] at hb
  rw [wordBytes, hn, hb]

theorem bytesWords_append {l r : List Byte} (h : l.length = 4) : bytesWords (l ++ r) = w32 (leNat l) :: bytesWords r := by
  have hc : ceilDiv (l ++ r).length 4 = ceilDiv r.length 4 + 1 := by rw [List.length_append, h, ceilDiv, ceilDiv]; omega
  rw [bytesWords, hc, List.range_succ_eq_map, List.map_cons, List.map_map]
  congr 1
  · rw [leAt, List.drop_zero, List.take_append_of_le_length (by omega), List.take_of_length_le (by omega)]
  · refine List.map_congr_left fun i _ => ?_
    rw [Function.comp_apply, leAt, leAt, show 4 * i.succ = l.length + 4 * i by rw [h]; omega, List.drop_append, List.drop_of_length_le (by omega), List.nil_append,
      Nat.add_sub_cancel_left]

/-- Whole words of bytes are read back as written. -/
theorem wordsBytes_bytesWords : ∀ (m : Nat) (l : List Byte), l.length = 4 * m → wordsBytes (bytesWords l) = l
  | 0, l, h => by
    rw [List.length_eq_zero_iff.1 h]
    rfl
  | m + 1, l, h => by
    have h4 : (l.take 4).length = 4 := by rw [List.length_take]; omega
    have hrest := wordsBytes_bytesWords m (l.drop 4) (by rw [List.length_drop]; omega)
    calc wordsBytes (bytesWords l) = wordsBytes (bytesWords (l.take 4 ++ l.drop 4)) := by rw [List.take_append_drop]
      _ = wordBytes (w32 (leNat (l.take 4))) ++ wordsBytes (bytesWords (l.drop 4)) := by rw [bytesWords_append h4]; rfl
      _ = l := by rw [wordBytes_leNat h4, hrest, List.take_append_drop]

theorem length_wordsBytes : ∀ ws : List Word, (wordsBytes ws).length = 4 * ws.length
  | [] => rfl
  | w :: ws => by
    have := length_wordsBytes ws
    rw [wordsBytes] at this ⊢
    rw [List.flatMap_cons, List.length_append, length_wordBytes, this, List.length_cons]
    omega

theorem length_bytesWords (l : List Byte) : (bytesWords l).length = ceilDiv l.length 4 := by rw [bytesWords, List.length_map, List.length_range]

/-! ### The mailbox window (R467) -/

theorem mbBytes_congr {s t : State} {n : Nat} (h : ∀ i, i < ceilDiv n 4 → t.rd (VLT_MB_DATA i) = s.rd (VLT_MB_DATA i)) : t.mbBytes n = s.mbBytes n := by
  rw [State.mbBytes, State.mbBytes]
  congr 2
  exact List.map_congr_left fun i hi => h i (List.mem_range.1 hi)

/-- The words that a response of `n` bytes writes. -/
def State.mbWords (s : State) (b : List Byte) : List Word := bytesWords (b ++ (s.mbBytes (4 * ceilDiv b.length 4)).drop b.length)

theorem State.mbPut_eq {s : State} {b : List Byte} (h : b.length ≤ 16384) : s.mbPut b = s.wrList VLT_MB_DATA (s.mbWords b) 0 := by
  have hmin : min 16384 b.length = b.length := Nat.min_eq_right h
  unfold State.mbPut
  dsimp only
  rw [hmin, List.take_length]
  rfl

theorem length_mbWindow (s : State) (b : List Byte) : (b ++ (s.mbBytes (4 * ceilDiv b.length 4)).drop b.length).length = 4 * ceilDiv b.length 4 := by
  have hle : b.length ≤ 4 * ceilDiv b.length 4 := by rw [ceilDiv]; omega
  have hc : ceilDiv (4 * ceilDiv b.length 4) 4 = ceilDiv b.length 4 := by rw [ceilDiv]; omega
  rw [List.length_append, List.length_drop, State.mbBytes, List.length_take, length_wordsBytes, List.length_map, List.length_range, hc]
  omega

theorem length_mbWords (s : State) (b : List Byte) : (s.mbWords b).length = ceilDiv b.length 4 := by
  rw [State.mbWords, length_bytesWords, length_mbWindow, ceilDiv]
  omega

/-- A response stands in the window, from byte 0. -/
theorem State.mbBytes_mbPut {s : State} {b : List Byte} (h : b.length ≤ 16384) : (s.mbPut b).mbBytes b.length = b := by
  have hread : (List.range (ceilDiv b.length 4)).map (fun i => (s.mbPut b).rd (VLT_MB_DATA i)) = s.mbWords b := by
    refine List.ext_getElem (by rw [List.length_map, List.length_range, length_mbWords]) fun i h1 h2 => ?_
    have hi := rd_wrList (r := VLT_MB_DATA) (fun i j hij => by simp only [VLT_MB_DATA]; omega) (s.mbWords b) s 0 i h2
    rw [Nat.zero_add, List.getElem?_eq_getElem h2, Option.getD_some] at hi
    rw [List.getElem_map, List.getElem_range, State.mbPut_eq h]
    exact hi
  rw [State.mbBytes, hread, State.mbWords, wordsBytes_bytesWords _ _ (length_mbWindow s b), List.take_left']
  rfl

/-- The registers of the Vault's span, and those of the events listed. -/
def VaultOff (evs : List Nat) (o : Nat) : Prop := (0x500000 ≤ o ∧ o < 0x50C000) ∨ o ∈ evs

/-- The registers of the mailbox that the end of a request writes. -/
def MbOff (o : Nat) : Prop := o ∈ [VLT_MB_CTRL.off, VLT_MB_RESP.off] ∨ (0x508000 ≤ o ∧ o < 0x50C000)

/-- The registers that a reply to the mailbox writes: those, and what shows the Vault's state. -/
def ReplyOff (o : Nat) : Prop := o ∈ vaultShown ∨ MbOff o

theorem ReplyOff.span {o : Nat} (h : ReplyOff o) : 0x500000 ≤ o ∧ o < 0x50C000 := by
  rcases h with h | h | h
  · revert o
    decide
  · revert o
    decide
  · omega

theorem not_replyOff {o : Nat} (h : o < 0x500000) : ¬ ReplyOff o := fun h' => absurd h'.span.1 (Nat.not_le.2 h)

theorem vaultShown_span {evs : List Nat} : ∀ o ∈ vaultShown, VaultOff evs o := by
  intro o ho
  have : 0x500000 ≤ o ∧ o < 0x50C000 := by
    revert o
    decide
  exact Or.inl this

theorem State.mbPut_only {s : State} {b : List Byte} (h : b.length ≤ 16384) : OnlyRegs s (s.mbPut b) := by
  rw [State.mbPut_eq h]
  exact wrList_only ..

theorem State.mbPut_regs {s : State} {b : List Byte} (h : b.length ≤ 16384) : RegsIn (fun o => 0x508000 ≤ o ∧ o < 0x50C000) s (s.mbPut b) := by
  rw [State.mbPut_eq h, State.wrList]
  refine RegsIn.foldl _ (fun u e he hu => hu.wr _ _ ?_) (RegsIn.refl _ s)
  have hlt := List.snd_lt_of_mem_zipIdx he
  rw [length_mbWords, ceilDiv] at hlt
  simp only [VLT_MB_DATA]
  omega

/-! ### The end of a request (R467) -/

/-- The registers that the end of a request of the mailbox writes: MB_CTRL, with status and cause, and the length of the response. -/
def State.mbEnd (s : State) (status cause n : Nat) : State :=
  (((s.wr VLT_MB_RESP (w32 n)).setFld VLT_MB_CTRL ⟨23, 16⟩ cause).setFld VLT_MB_CTRL ⟨15, 8⟩ status).setFld VLT_MB_CTRL ⟨1, 1⟩ 0

theorem State.mbEnd_shows {s t : State} {status cause n : Nat} (ht : s.mbEnd status cause n = t) :
    (t.rd VLT_MB_CTRL).getLsbD 1 = false ∧ bitsOf (t.rd VLT_MB_CTRL).toNat 15 8 = status % 256 ∧ bitsOf (t.rd VLT_MB_CTRL).toNat 23 16 = cause % 256 ∧
      t.rd VLT_MB_RESP = w32 n ∧ RegsBut s t [VLT_MB_CTRL.off, VLT_MB_RESP.off] ∧ OnlyRegs s t := by
  have hfld {u v : State} {f g : Fld} {x : Nat} (h : u.setFld VLT_MB_CTRL g x = v) (hf : f.hi < 32) (hne : f.hi < g.lo ∨ g.hi < f.lo) :
      f.get (v.rd VLT_MB_CTRL) = f.get (u.rd VLT_MB_CTRL) := by
    rw [← h]
    exact State.fld_setFld_ne u VLT_MB_CTRL x hf hne
  have hself {u v : State} {g : Fld} {x : Nat} (h : u.setFld VLT_MB_CTRL g x = v) (hg : g.hi < 32) : g.get (v.rd VLT_MB_CTRL) = x % 2 ^ (g.hi + 1 - g.lo) := by
    rw [← h]
    exact State.fld_setFld_self u VLT_MB_CTRL g x hg
  generalize ha : s.wr VLT_MB_RESP (w32 n) = a
  generalize hb : a.setFld VLT_MB_CTRL ⟨23, 16⟩ cause = b
  generalize hc : b.setFld VLT_MB_CTRL ⟨15, 8⟩ status = c
  have hend : c.setFld VLT_MB_CTRL ⟨1, 1⟩ 0 = t := by rw [← ht, ← hc, ← hb, ← ha]; rfl
  refine ⟨?_, ?_, ?_, ?_, ?_, ?_⟩
  · rw [← hend, State.setFld_eq, State.rd_wr_self, Fld.put_getLsbD _ _ _ _ (by decide)]
    rfl
  · exact (hfld (f := ⟨15, 8⟩) hend (by decide) (by decide)).trans (hself hc (by decide))
  · exact (hfld (f := ⟨23, 16⟩) hend (by decide) (by decide)).trans ((hfld (f := ⟨23, 16⟩) hc (by decide) (by decide)).trans (hself hb (by decide)))
  · rw [← hend, State.rd_setFld_ne _ _ _ (by decide), ← hc, State.rd_setFld_ne _ _ _ (by decide), ← hb, State.rd_setFld_ne _ _ _ (by decide), ← ha, State.rd_wr_self]
  · rw [← ht]
    exact ((((RegsBut.refl s _).wr _ _).setFld _ _ _).setFld _ _ _).setFld _ _ _
  · rw [← ht]
    exact ((((OnlyRegs.refl s).wr _ _).setFld _ _ _).setFld _ _ _).setFld _ _ _

theorem State.mbDone_eq {s : State} {status cause : Nat} {resp : List Byte} (h : resp.length < 16384) :
    s.mbDone status cause resp = if status = 4 then (s.mbPut resp).mbEnd 4 cause resp.length
      else ((s.mbPut resp).mbEnd status (Config.freeByte s.freeCtr 0).toNat resp.length).useFree := by
  have hlen : min 16384 resp.length % 16384 = resp.length := by rw [Nat.min_eq_right (by omega), Nat.mod_eq_of_lt h]
  unfold State.mbDone
  dsimp only
  rw [hlen]
  by_cases h4 : status = 4
  · rw [if_pos h4, if_pos h4, if_pos h4, h4]
    rfl
  · rw [if_neg h4, if_neg h4, if_neg h4]
    rfl

/-- What the end of a request leaves: BUSY is clear, status, length, bytes and a failure's cause stand in the mailbox. -/
theorem State.mbDone_shows {s t : State} {status cause : Nat} {resp : List Byte} (h : resp.length < 16384) (hstatus : status < 256) (hcause : status = 4 → cause < 256)
    (ht : s.mbDone status cause resp = t) :
    (t.rd VLT_MB_CTRL).getLsbD 1 = false ∧ bitsOf (t.rd VLT_MB_CTRL).toNat 15 8 = status ∧ (status = 4 → bitsOf (t.rd VLT_MB_CTRL).toNat 23 16 = cause) ∧
      t.rd VLT_MB_RESP = w32 resp.length ∧ t.mbBytes resp.length = resp ∧ RegsIn MbOff s t ∧
      t = { s with regs := t.regs, freeCtr := t.freeCtr } ∧ (status = 4 → t.freeCtr = s.freeCtr) := by
  have hle : resp.length ≤ 16384 := by omega
  have hput := State.mbPut_only (s := s) hle
  have hputRegs := State.mbPut_regs (s := s) hle
  have hbytes := State.mbBytes_mbPut (s := s) hle
  rw [State.mbDone_eq h] at ht
  generalize s.mbPut resp = u at *
  -- Both forms of the end show the same, up to the cause and the count of free values.
  have hshow {x : State} {c : Nat} (hx : u.mbEnd status c resp.length = x) (hregs : t.regs = x.regs) :
      (t.rd VLT_MB_CTRL).getLsbD 1 = false ∧ bitsOf (t.rd VLT_MB_CTRL).toNat 15 8 = status ∧ bitsOf (t.rd VLT_MB_CTRL).toNat 23 16 = c % 256 ∧
        t.rd VLT_MB_RESP = w32 resp.length ∧ t.mbBytes resp.length = resp ∧ RegsIn MbOff s t := by
    obtain ⟨hbusy, hst, hc, hresp, hend, -⟩ := State.mbEnd_shows hx
    have hrd (r : Reg) : t.rd r = x.rd r := by rw [State.rd, hregs, State.rd]
    refine ⟨by rw [hrd]; exact hbusy, by rw [hrd, hst, Nat.mod_eq_of_lt hstatus], by rw [hrd]; exact hc, by rw [hrd]; exact hresp, ?_, ?_⟩
    · refine (mbBytes_congr fun i _ => ?_).trans hbytes
      rw [hrd, hend.rd (by simp only [VLT_MB_DATA, VLT_MB_CTRL, VLT_MB_RESP, List.mem_cons, List.not_mem_nil, or_false, not_or]; omega)]
    · have hsu : RegsIn MbOff s u := fun o ho => hputRegs o fun hin => ho (Or.inr hin)
      exact (hsu.trans (hend.regsIn fun o ho => Or.inl ho)).congr hregs
  by_cases h4 : status = 4
  · rw [if_pos h4] at ht
    obtain ⟨-, -, -, -, -, honly⟩ := State.mbEnd_shows ht
    obtain ⟨hbusy, hst, hc, hresp, hmb, hin⟩ := hshow (x := t) (c := cause) (by rw [h4]; exact ht) rfl
    refine ⟨hbusy, hst, fun _ => by rw [hc, Nat.mod_eq_of_lt (hcause h4)], hresp, hmb, hin, ?_, fun _ => (honly.field State.freeCtr).trans (hput.field State.freeCtr)⟩
    rw [OnlyRegs] at honly hput
    rw [honly, hput]
  · rw [if_neg h4] at ht
    generalize hx : u.mbEnd status (Config.freeByte s.freeCtr 0).toNat resp.length = x at ht
    obtain ⟨-, -, -, -, -, honly⟩ := State.mbEnd_shows hx
    obtain ⟨hbusy, hst, -, hresp, hmb, hin⟩ := hshow hx (by rw [← ht]; rfl)
    refine ⟨hbusy, hst, fun h => absurd h h4, hresp, hmb, hin, ?_, fun h => absurd h h4⟩
    rw [OnlyRegs] at honly hput
    rw [← ht, honly, hput]
    rfl

/-! ### A request served (R465 to R468) -/

theorem vaultServe_runs {s : State} {code role : Nat} {f : State → VReq → Reply} {r : VReq} {rest : List VReq} (h : AtVault s code r rest)
    (hrole : role = 0 ∨ s.pathRole 16 = 1 ∨ s.pathRole 16 = role) : s.vaultServe code role f = s.settle ((f s r).give 16) := by
  obtain ⟨hturn, hqueue, hcode, hpath⟩ := h
  have hserving : s.serving code = some r := by
    unfold State.serving
    rw [if_pos hturn, hqueue]
    exact if_pos hcode
  unfold State.vaultServe
  rw [hserving]
  dsimp only
  rw [hpath, if_pos (by
    rw [Bool.or_eq_true, Bool.or_eq_true, decide_eq_true_iff, decide_eq_true_iff, decide_eq_true_iff]
    rcases hrole with h | h | h
    · exact Or.inl (Or.inl h)
    · exact Or.inl (Or.inr h)
    · exact Or.inr h)]

theorem vaultServe_denied {s : State} {code role : Nat} {f : State → VReq → Reply} {r : VReq} {rest : List VReq} (h : AtVault s code r rest)
    (h0 : role ≠ 0) (h1 : s.pathRole 16 ≠ 1) (h2 : s.pathRole 16 ≠ role) : s.vaultServe code role f = s.settle (({ status := 7, s := s } : Reply).give 16) := by
  obtain ⟨hturn, hqueue, hcode, hpath⟩ := h
  have hserving : s.serving code = some r := by
    unfold State.serving
    rw [if_pos hturn, hqueue]
    exact if_pos hcode
  unfold State.vaultServe
  rw [hserving]
  dsimp only
  rw [hpath, if_neg (by
    rw [Bool.or_eq_true, Bool.or_eq_true, decide_eq_true_iff, decide_eq_true_iff, decide_eq_true_iff]
    rintro ((h | h) | h)
    · exact h0 h
    · exact h1 h
    · exact h2 h)]

/-- A command that is not the request in progress does nothing. -/
theorem vaultServe_idle {s : State} {code role : Nat} {f : State → VReq → Reply} (h : s.serving code = none) : s.vaultServe code role f = s := by
  unfold State.vaultServe
  rw [h]

theorem serving_none {s : State} {code : Nat} {r : VReq} {rest : List VReq}
    (h : s.vault.turn ≠ some false ∨ s.vault.queue = [] ∨ (s.vault.queue = r :: rest ∧ r.code ≠ code)) : s.serving code = none := by
  unfold State.serving
  split
  next hturn =>
    rcases h with h | h | ⟨h, hcode⟩
    · exact absurd hturn h
    · rw [h]
    · rw [h]
      exact if_neg hcode
  · rfl

theorem vault_next (v : Vault) : v.next = if v.verify ≠ [] then some true else if v.queue ≠ [] then some false else none := by
  unfold Vault.next
  cases v.verify <;> cases v.queue <;> rfl

/-- What a reply to the mailbox leaves. -/
theorem Reply.give_served {s t : State} {p : Reply} {r : VReq} {rest : List VReq} {v : Vault} {evs : List Nat} (hv : p.s.vault = v) (hq : v.queue = r :: rest)
    (hver : v.verify = s.vault.verify) (hregs : RegsIn (VaultOff evs) s p.s) (hlen : p.resp.length < 16384) (hstatus : p.status < 256)
    (hcause : p.status = 4 → p.cause < 256) (ht : p.give 16 = t) :
    Served s t rest v p.status p.cause p.resp evs ∧ RegsIn ReplyOff p.s t ∧ t = { p.s with regs := t.regs, vault := t.vault, freeCtr := t.freeCtr } ∧
      (p.status = 4 → t.freeCtr = p.s.freeCtr) := by
  generalize hw : ({ v with queue := rest, turn := if s.vault.verify ≠ [] then some true else if rest ≠ [] then some false else none } : Vault) = w
  have hgive : p.give 16 = (p.s.setVault w).mbDone p.status p.cause p.resp := by
    unfold Reply.give
    dsimp only
    rw [if_pos rfl, hv, hq, vault_next, hver, ← hw, ← hver]
    rfl
  have hset := State.setVault_frame p.s w
  have hsetRegs := State.setVault_regs p.s w
  rw [hgive] at ht
  generalize p.s.setVault w = u at ht hset hsetRegs
  obtain ⟨hbusy, hst, hc, hresp, hmb, hin, hframe, hfree⟩ := State.mbDone_shows hlen hstatus hcause ht
  have hsu : RegsIn ReplyOff p.s t := (hsetRegs.regsIn (P := ReplyOff) fun o ho => Or.inl ho).trans fun o ho => hin o fun h => ho (Or.inr h)
  refine ⟨⟨?_, hbusy, hst, hc, hresp, hmb, fun o ho hev => ?_⟩, hsu, ?_, fun h => (hfree h).trans (by rw [hset])⟩
  · rw [hw, hframe, hset]
  · refine ((hregs.trans (fun o ho => hsu o fun h => ho ?_)) o ?_)
    · exact Or.inl h.span
    · rintro (h | h)
      · omega
      · exact hev h
  · rw [hframe, hset]

section
variable {i : Instr} {s u : State} {status cause : Nat} {resp : List Byte} {r : VReq} {rest : List VReq} {v : Vault} {evs : List Nat}

/-- A service that replies: what the mailbox and the Vault show, and what else has changed. -/
theorem serves (hexec : exec i s = .next (s.settle (({ status := status, cause := cause, resp := resp, s := u } : Reply).give 16))) (hv : u.vault = v)
    (hq : v.queue = r :: rest) (hver : v.verify = s.vault.verify) (hregs : RegsIn (VaultOff evs) s u) (hlen : resp.length < 16384 := by decide)
    (hstatus : status < 256 := by decide) (hcause : status = 4 → cause < 256 := by decide) :
    Runs i s (fun t => Served s t rest v status cause resp evs ∧ RegsIn ReplyOff u t ∧
      t = { s.settle u with regs := t.regs, vault := t.vault, freeCtr := t.freeCtr } ∧ (status = 4 → t.freeCtr = u.freeCtr)) := by
  obtain ⟨hserved, hin, hframe, hfree⟩ :=
    Reply.give_served (p := { status := status, cause := cause, resp := resp, s := u }) hv hq hver hregs hlen hstatus hcause rfl
  generalize Reply.give { status := status, cause := cause, resp := resp, s := u } 16 = x at *
  refine Runs.next hexec ⟨hserved, hin.congr, ?_, hfree⟩
  rw [hframe]
  rfl

/-- A service whose reply has no event: its response and the Vault's state alone. -/
theorem justServes (hexec : exec i s = .next (s.settle (({ status := status, cause := cause, resp := resp, s := u } : Reply).give 16))) (hv : u.vault = v)
    (hq : v.queue = r :: rest) (hver : v.verify = s.vault.verify) (hregs : RegsIn (VaultOff []) s u)
    (hframe : u = { s with regs := u.regs, vault := u.vault, freeCtr := u.freeCtr }) (hlen : resp.length < 16384 := by decide)
    (hstatus : status < 256 := by decide) (hcause : status = 4 → cause < 256 := by decide) : JustServes i s rest v status cause resp := by
  obtain ⟨t, hrun, hserved, -, ht, -⟩ := serves hexec hv hq hver hregs hlen hstatus hcause
  have hocc : u.occ = s.occ := by rw [hframe]
  rw [State.settle_same hocc] at ht
  refine ⟨t, hrun, hserved, ?_⟩
  rw [ht, hframe]

end

/-- A reply from the state as it stands. -/
theorem justServes_plain {i : Instr} {s : State} {code status cause : Nat} {resp : List Byte} {r : VReq} {rest : List VReq} (h : AtVault s code r rest)
    (hexec : exec i s = .next (s.settle (({ status := status, cause := cause, resp := resp, s := s } : Reply).give 16))) (hlen : resp.length < 16384 := by decide)
    (hstatus : status < 256 := by decide) (hcause : status = 4 → cause < 256 := by decide) : JustServes i s rest s.vault status cause resp :=
  justServes hexec rfl h.2.1 rfl (RegsIn.refl _ s) rfl hlen hstatus hcause

/-- A reply with the Vault's state set. -/
theorem justServes_vault {i : Instr} {s : State} {code status cause : Nat} {resp : List Byte} {r : VReq} {rest : List VReq} {v : Vault} (h : AtVault s code r rest)
    (hexec : exec i s = .next (s.settle (({ status := status, cause := cause, resp := resp, s := s.setVault v } : Reply).give 16)))
    (hq : v.queue = s.vault.queue := by rfl) (hver : v.verify = s.vault.verify := by rfl) (hlen : resp.length < 16384 := by decide)
    (hstatus : status < 256 := by decide) (hcause : status = 4 → cause < 256 := by decide) : JustServes i s rest v status cause resp := by
  refine justServes hexec (State.setVault_vault s v) (hq.trans h.2.1) hver ((State.setVault_regs s v).regsIn vaultShown_span) ?_ hlen hstatus hcause
  rw [State.setVault_frame]

theorem vaultServeOut_runs {s : State} {code role : Nat} {f : State → VReq → Reply} {r : VReq} {rest : List VReq} (h : AtVault s code r rest)
    (hrole : role = 0 ∨ s.pathRole 16 = 1 ∨ s.pathRole 16 = role) (hhold : s.vault.hold = false) : s.vaultServeOut code role f = s.settle ((f s r).give 16) := by
  refine (vaultServe_runs h hrole).trans ?_
  rw [if_neg (by rw [hhold]; exact Bool.false_ne_true)]

theorem vaultServeOut_held {s : State} {code role : Nat} {f : State → VReq → Reply} {r : VReq} {rest : List VReq} (h : AtVault s code r rest)
    (hrole : role = 0 ∨ s.pathRole 16 = 1 ∨ s.pathRole 16 = role) (hhold : s.vault.hold = true) :
    s.vaultServeOut code role f = s.settle (({ status := 3, cause := 0x0305, s := s } : Reply).give 16) := by
  refine (vaultServe_runs h hrole).trans ?_
  rw [if_pos hhold]

end Sys2Proof.Machine
end

section
/-! PROOFS. The services of the Vault: of anyone, of a User, and of a CO (R454 to R471). -/

-- One proof at a time: the text is compiled as one file in bounded memory.
set_option Elab.async false

namespace Sys2Proof.Machine
open Sys2Proof.Claims

/-! ### Hold causes (R469) -/

theorem bitsOf_one (n b : Nat) : bitsOf n b b = n / 2 ^ b % 2 := by rw [bitsOf, Nat.add_sub_cancel_left, Nat.pow_one]

/-- A bit of a number as 0 or 1. -/
theorem bitsOf_one_testBit (n b : Nat) : bitsOf n b b = b2n (n.testBit b) := by
  rw [bitsOf_one, Nat.testBit_eq_decide_div_mod_eq]
  rcases Nat.mod_two_eq_zero_or_one (n / 2 ^ b) with h | h <;> rw [h] <;> rfl

/-- Hold causes without one of them. -/
def causeClear (n bit : Nat) : Nat := if bitsOf n bit bit = 1 then n - 2 ^ bit else n

/-- A set bit taken away leaves the others. -/
theorem testBit_sub_two_pow {n k : Nat} (h : n.testBit k = true) (j : Nat) : (n - 2 ^ k).testBit j = (n.testBit j && decide (j ≠ k)) := by
  have hr : n % 2 ^ k < 2 ^ k := Nat.mod_lt _ (Nat.two_pow_pos k)
  have hn : n = 2 ^ k * (n / 2 ^ k) + n % 2 ^ k := (Nat.div_add_mod n _).symm
  have hodd : n / 2 ^ k % 2 = 1 := by rwa [Nat.testBit_eq_decide_div_mod_eq, decide_eq_true_iff] at h
  generalize n / 2 ^ k = a at hn hodd
  generalize n % 2 ^ k = r at hn hr
  have hsub : n - 2 ^ k = 2 ^ k * (a - 1) + r := by
    have hmul : 2 ^ k * a = 2 ^ k * (a - 1) + 2 ^ k := by rw [← Nat.mul_succ, show (a - 1).succ = a by omega]
    omega
  rw [hsub, hn, Nat.testBit_two_pow_mul_add _ hr, Nat.testBit_two_pow_mul_add _ hr]
  by_cases hlt : j < k
  · rw [if_pos hlt, if_pos hlt, decide_eq_true (by omega), Bool.and_true]
  · rw [if_neg hlt, if_neg hlt]
    by_cases hjk : j = k
    · rw [hjk, Nat.sub_self, decide_eq_false (fun h => h rfl), Bool.and_false, Nat.testBit_zero, decide_eq_false (by omega)]
    · obtain ⟨d, hd⟩ : ∃ d, j - k = d + 1 := ⟨j - k - 1, by omega⟩
      rw [hd, Nat.testBit_add_one, Nat.testBit_add_one, show (a - 1) / 2 = a / 2 by omega, decide_eq_true hjk, Bool.and_true]

theorem causeClear_bit (n bit b : Nat) : bitsOf (causeClear n bit) b b = if b = bit then 0 else bitsOf n b b := by
  unfold causeClear
  rw [bitsOf_one_testBit, bitsOf_one_testBit, bitsOf_one_testBit]
  cases hn : n.testBit bit with
  | false =>
    rw [if_neg (by decide)]
    split
    next hb => rw [hb, hn]; rfl
    · rfl
  | true =>
    rw [if_pos (by decide), testBit_sub_two_pow hn]
    split
    next hb => rw [decide_eq_false (fun h => h hb), Bool.and_false]; rfl
    next hb => rw [decide_eq_true hb, Bool.and_true]

theorem vaultHoldClear_eq (s : State) (bit : Nat) :
    s.vaultHoldClear bit = if bitsOf s.vault.cause bit bit = 1 then s.setVault { s.vault with cause := s.vault.cause - 2 ^ bit } else s := rfl

theorem shown_span {evs : List Nat} : ∀ o ∈ vaultShown ++ evs, VaultOff evs o := fun o ho => (List.mem_append.1 ho).elim (vaultShown_span o) Or.inr

/-- What the clearing of a Hold cause leaves. -/
theorem vaultHoldClear_shows {s t : State} {bit : Nat} (ht : s.vaultHoldClear bit = t) :
    t.vault = { s.vault with cause := causeClear s.vault.cause bit } ∧ RegsIn (VaultOff []) s t ∧ t = { s with regs := t.regs, vault := t.vault } := by
  rw [vaultHoldClear_eq] at ht
  unfold causeClear
  split at ht
  next h =>
    rw [if_pos h, ← ht]
    refine ⟨State.setVault_vault _ _, (State.setVault_regs s _).regsIn vaultShown_span, ?_⟩
    rw [State.setVault_vault]
    exact State.setVault_frame s _
  next h =>
    rw [if_neg h, ← ht]
    exact ⟨rfl, RegsIn.refl _ s, rfl⟩

/-- What the setting of a Hold cause that is not set leaves. -/
theorem vaultHoldSet_new {s t : State} {bit : Nat} (h : bitsOf s.vault.cause bit bit = 0) (ht : s.vaultHoldSet bit = t) :
    t.vault = { s.vault with hold := true, cause := s.vault.cause + 2 ^ bit } ∧ RegsBut s t (vaultShown ++ evRegs 992) ∧ Raised s t 992 0x0E06 (w32 bit) ∧
      t = { s with regs := t.regs, vault := t.vault, occ := t.occ } := by
  generalize hv : ({ s.vault with hold := true, cause := s.vault.cause + 2 ^ bit } : Vault) = v
  have hrun : (s.setVault v).raise 992 0x0E06 [w32 bit] = t := by
    rw [← ht, ← hv]
    exact (if_neg (by rw [h]; decide)).symm
  have hset := State.setVault_frame s v
  have hsetRegs := State.setVault_regs s v
  generalize s.setVault v = u at hrun hset hsetRegs
  have hcnt : u.rd (EVT_R_CNT 992) = s.rd (EVT_R_CNT 992) := hsetRegs.rd (by decide)
  rw [← hrun]
  refine ⟨?_, ?_, State.raised_raise 992 0x0E06 [w32 bit] (by rw [hset]) hcnt, ?_⟩
  · rw [State.raise_vault, hset]
  · exact (hsetRegs.mono (List.subset_append_left vaultShown (evRegs 992))).raise 992 0x0E06 [w32 bit] (List.subset_append_right ..)
  · rw [hset]
    rfl

theorem vaultHoldSet_again {s : State} {bit : Nat} (h : bitsOf s.vault.cause bit bit = 1) : s.vaultHoldSet bit = s.setVault { s.vault with hold := true } := if_pos h

/-! ### Services of anyone (R456, R460, R466) -/

section
variable {s : State} {r : VReq} {rest : List VReq}

theorem vaultSelftest_passes (h : AtVault s 0x02 r rest) : Runs (.vaultSelftest true) s (fun t => Served s t rest { s.vault with cause := t.vault.cause } 0 0 [] [] ∧
    (∀ b, bitsOf t.vault.cause b b = if b = 1 ∨ b = 2 then 0 else bitsOf s.vault.cause b b) ∧ t = { s with regs := t.regs, vault := t.vault, freeCtr := t.freeCtr }) := by
  have hexec : exec (.vaultSelftest true) s = .next (s.settle (({ s := (s.vaultHoldClear 1).vaultHoldClear 2 } : Reply).give 16)) :=
    congrArg Host.Outcome.next (vaultServe_runs h (Or.inl rfl))
  obtain ⟨hv1, hregs1, hframe1⟩ := vaultHoldClear_shows (s := s) (bit := 1) rfl
  generalize s.vaultHoldClear 1 = a at *
  obtain ⟨hv2, hregs2, hframe2⟩ := vaultHoldClear_shows (s := a) (bit := 2) rfl
  generalize a.vaultHoldClear 2 = b at *
  generalize hc : causeClear (causeClear s.vault.cause 1) 2 = c
  have hv : b.vault = { s.vault with cause := c } := by rw [hv2, hv1, ← hc]
  have hjust : JustServes (.vaultSelftest true) s rest { s.vault with cause := c } 0 0 [] :=
    justServes hexec hv h.2.1 rfl (hregs1.trans hregs2) (by rw [hframe2, hframe1])
  obtain ⟨t, hrun, hserved, hframe⟩ := hjust
  have htc : t.vault.cause = c := by rw [hserved.1]
  refine ⟨t, hrun, by rw [htc]; exact hserved, fun b => ?_, hframe⟩
  rw [htc, ← hc, causeClear_bit, causeClear_bit]
  by_cases hb2 : b = 2
  · rw [if_pos hb2, if_pos (Or.inr hb2)]
  · rw [if_neg hb2]
    by_cases hb1 : b = 1
    · rw [if_pos hb1, if_pos (Or.inl hb1)]
    · rw [if_neg hb1, if_neg (by omega)]

/-- A failed self-test: both events, and the cause in Hold. -/
theorem selftestHold_shows {t : State} (h : bitsOf s.vault.cause 2 2 = 0) (ht : s.selftestHold = t) :
    t.vault = { s.vault with hold := true, cause := s.vault.cause + 4 } ∧ RegsIn (VaultOff (evRegs 992 ++ evRegs 999)) s t ∧
      t.rd (EVT_R_CNT 992) = satAdd (s.rd (EVT_R_CNT 992)) 1 ∧ t.rd (EVT_R_CNT 999) = satAdd (s.rd (EVT_R_CNT 999)) 1 ∧ t.rd (EVT_R_LAST 992) = 2 ∧
      t = { s with regs := t.regs, vault := t.vault, occ := t.occ } := by
  have hraise : RegsBut s (s.raise 999 0x0E06) (evRegs 999) := (RegsBut.refl s _).raise 999 0x0E06 [] (fun _ h => h)
  have hcnt999 : (s.raise 999 0x0E06).rd (EVT_R_CNT 999) = satAdd (s.rd (EVT_R_CNT 999)) 1 := State.rd_raise_cnt ..
  have hframe : s.raise 999 0x0E06 = { s with regs := (s.raise 999 0x0E06).regs, occ := (s.raise 999 0x0E06).occ } := rfl
  have hrun : (s.raise 999 0x0E06).vaultHoldSet 2 = t := ht
  generalize s.raise 999 0x0E06 = a at *
  have hav : a.vault = s.vault := by rw [hframe]
  obtain ⟨hv, hbut, ⟨-, hcnt, hlast⟩, hframe2⟩ := vaultHoldSet_new (s := a) (bit := 2) (by rw [hav]; exact h) hrun
  have hin := hbut.regsIn shown_span
  refine ⟨by rw [hv, hav]; rfl, ?_, ?_, ?_, hlast, by rw [hframe2, hframe]⟩
  · exact (hraise.regsIn (P := VaultOff (evRegs 992 ++ evRegs 999)) fun o ho => Or.inr (List.mem_append_right _ ho)).trans fun o ho =>
      hin o fun h => ho (h.imp id fun hm => List.mem_append_left _ hm)
  · rw [hcnt, hraise.rd (by decide)]
  · rw [hin.rd (by unfold VaultOff; decide), hcnt999]

theorem vaultSelftest_fails (h : AtVault s 0x02 r rest) (hc : bitsOf s.vault.cause 2 2 = 0) : Runs (.vaultSelftest false) s (fun t =>
    Served s t rest { s.vault with hold := true, cause := s.vault.cause + 4 } 4 1 [] (evRegs 992 ++ evRegs 999) ∧
      t.rd (EVT_R_CNT 992) = satAdd (s.rd (EVT_R_CNT 992)) 1 ∧ t.rd (EVT_R_CNT 999) = satAdd (s.rd (EVT_R_CNT 999)) 1 ∧ t.rd (EVT_R_LAST 992) = 2 ∧
      t = { s with regs := t.regs, vault := t.vault, occ := t.occ }) := by
  have hexec : exec (.vaultSelftest false) s = .next (s.settle (({ status := 4, cause := 1, s := s.selftestHold } : Reply).give 16)) :=
    congrArg Host.Outcome.next (vaultServe_runs h (Or.inl rfl))
  obtain ⟨hv, hin, h992, h999, hlast, hframe⟩ := selftestHold_shows hc rfl
  generalize s.selftestHold = u at *
  obtain ⟨t, hrun, hserved, hut, ht, hfree⟩ := serves hexec hv h.2.1 rfl hin
  have hevt {r : Reg} (hr : r.off < 0x500000) : t.rd r = u.rd r := hut.rd (not_replyOff hr)
  refine ⟨t, hrun, hserved, (hevt (by decide)).trans h992, (hevt (by decide)).trans h999, (hevt (by decide)).trans hlast, ?_⟩
  have hfree' : t.freeCtr = s.freeCtr := (hfree rfl).trans (by rw [hframe])
  rw [ht, hfree', hframe]
  rfl

theorem length_sha384_take (b : List Byte) : ((sha384 b).take 32).length < 16384 := by
  rw [List.length_take]
  omega

theorem authChallenge_drbg (h : AtVault s 0x03 r rest) (hhold : s.vault.hold = false) :
    JustServes .authChallenge s rest { s.vault with chal := tabSet s.vault.chal [] 16 ((List.range 32).map (Config.freeByte s.freeCtr)), chalCount := s.vault.chalCount + 1 } 0 0
      ((List.range 32).map (Config.freeByte s.freeCtr)) := by
  obtain ⟨-, -, -, hpath⟩ := id h
  generalize hc : (List.range 32).map (Config.freeByte s.freeCtr) = c
  have hlen : c.length = 32 := by rw [← hc, List.length_map, List.length_range]
  generalize hv : ({ s.vault with chal := tabSet s.vault.chal [] 16 c, chalCount := s.vault.chalCount + 1 } : Vault) = v
  have hexec : exec .authChallenge s = .next (s.settle (({ resp := c, s := s.useFree.setVault v } : Reply).give 16)) := by
    refine congrArg Host.Outcome.next ((vaultServe_runs h (Or.inl rfl)).trans ?_)
    dsimp only
    rw [hhold, if_neg Bool.false_ne_true, hpath, ← hv, ← hc]
    rfl
  refine justServes hexec (State.setVault_vault _ v) (by rw [← hv]; exact h.2.1) (by rw [← hv])
    ((State.setVault_regs s.useFree v).congr.regsIn vaultShown_span) ?_ (by rw [hlen]; decide)
  rw [State.setVault_frame]
  rfl

theorem authChallenge_count (h : AtVault s 0x03 r rest) (hhold : s.vault.hold = true) : Runs .authChallenge s (fun t =>
    (tabGet t.vault.chal [] 16) = (sha384 (leBytes 8 s.vault.chalCount ++ sliceAt s.vault.serial 0 16 ++ wordBytes (s.rd LOG_PCYCLES))).take 32 ∧
      t.vault.chalCount = s.vault.chalCount + 1 ∧ (t.rd VLT_MB_CTRL).getLsbD 1 = false ∧ t = { s with regs := t.regs, vault := t.vault, freeCtr := t.freeCtr }) := by
  obtain ⟨-, -, -, hpath⟩ := id h
  generalize hc : (sha384 (leBytes 8 s.vault.chalCount ++ sliceAt s.vault.serial 0 16 ++ wordBytes (s.rd LOG_PCYCLES))).take 32 = c
  have hlen : c.length ≤ 32 := by rw [← hc, List.length_take]; omega
  generalize hv : ({ s.vault with chal := tabSet s.vault.chal [] 16 c, chalCount := s.vault.chalCount + 1 } : Vault) = v
  have hexec : exec .authChallenge s = .next (s.settle (({ resp := c, s := s.setVault v } : Reply).give 16)) := by
    refine congrArg Host.Outcome.next ((vaultServe_runs h (Or.inl rfl)).trans ?_)
    dsimp only
    rw [hhold, if_pos rfl, hpath, ← hv, ← hc]
  obtain ⟨t, hrun, hserved, hframe⟩ := justServes_vault h hexec (by rw [← hv]) (by rw [← hv]) (by omega)
  obtain ⟨htv, hbusy, -⟩ := hserved
  refine ⟨t, hrun, ?_, ?_, hbusy, hframe⟩
  · rw [htv, ← hv]
    exact tabGet_set_self _ _ _ _
  · rw [htv, ← hv]

/-- An authentication that fails: counted, event 996, and the lockout after eight in a row. -/
theorem authFail_shows {u : State} (hu : s.authFail.s = u) :
    u.vault = (if s.vault.locked then s.vault else { s.vault with fails := s.vault.fails + 1, locked := decide (8 ≤ s.vault.fails + 1) }) ∧
      u.rd VLT_AUTH_FAIL_CNT = satAdd (s.rd VLT_AUTH_FAIL_CNT) 1 ∧ RegsIn (VaultOff (evRegs 996)) s u ∧ Raised s u 996 0x0E06 0 ∧
      u = { s with regs := u.regs, vault := u.vault, occ := u.occ } := by
  have ha : RegsBut s (s.inc VLT_AUTH_FAIL_CNT) [VLT_AUTH_FAIL_CNT.off] := (RegsBut.refl s _).inc _ _
  have hcnt : (s.inc VLT_AUTH_FAIL_CNT).rd VLT_AUTH_FAIL_CNT = satAdd (s.rd VLT_AUTH_FAIL_CNT) 1 := State.rd_wr_self _ _ _
  have hframe : s.inc VLT_AUTH_FAIL_CNT = { s with regs := (s.inc VLT_AUTH_FAIL_CNT).regs } := rfl
  have hrun : (if ((s.inc VLT_AUTH_FAIL_CNT).raise 996 0x0E06).vault.locked then (s.inc VLT_AUTH_FAIL_CNT).raise 996 0x0E06
      else ((s.inc VLT_AUTH_FAIL_CNT).raise 996 0x0E06).setVault { ((s.inc VLT_AUTH_FAIL_CNT).raise 996 0x0E06).vault with
        fails := ((s.inc VLT_AUTH_FAIL_CNT).raise 996 0x0E06).vault.fails + 1, locked := decide (8 ≤ ((s.inc VLT_AUTH_FAIL_CNT).raise 996 0x0E06).vault.fails + 1) }) = u := hu
  generalize s.inc VLT_AUTH_FAIL_CNT = a at *
  have hraised : Raised s (a.raise 996 0x0E06) 996 0x0E06 0 := State.raised_raise 996 0x0E06 [] (by rw [hframe]) (ha.rd (by decide))
  have hrd : (a.raise 996 0x0E06).rd VLT_AUTH_FAIL_CNT = satAdd (s.rd VLT_AUTH_FAIL_CNT) 1 := (State.rd_raise _ _ _ _ (by decide) (by decide)).trans hcnt
  have hregs : RegsBut s (a.raise 996 0x0E06) (VLT_AUTH_FAIL_CNT.off :: evRegs 996) := (ha.mono (by simp)).raise 996 0x0E06 [] (by simp)
  have hspan : ∀ o ∈ VLT_AUTH_FAIL_CNT.off :: evRegs 996, VaultOff (evRegs 996) o := fun o ho =>
    (List.mem_cons.1 ho).elim (fun h => Or.inl (by rw [h]; decide)) Or.inr
  have hxframe : a.raise 996 0x0E06 = { s with regs := (a.raise 996 0x0E06).regs, occ := (a.raise 996 0x0E06).occ } := by rw [hframe]; rfl
  generalize a.raise 996 0x0E06 = x at *
  have hxv : x.vault = s.vault := by rw [hxframe]
  rw [hxv] at hrun
  by_cases hlock : s.vault.locked = true
  · rw [if_pos hlock] at hrun
    rw [if_pos hlock, ← hrun]
    exact ⟨hxv, hrd, hregs.regsIn hspan, hraised, by rw [hxv]; exact hxframe⟩
  · rw [if_neg hlock] at hrun
    rw [if_neg hlock, ← hrun]
    have hset := State.setVault_regs x { s.vault with fails := s.vault.fails + 1, locked := decide (8 ≤ s.vault.fails + 1) }
    have hfr := State.setVault_frame x { s.vault with fails := s.vault.fails + 1, locked := decide (8 ≤ s.vault.fails + 1) }
    generalize x.setVault { s.vault with fails := s.vault.fails + 1, locked := decide (8 ≤ s.vault.fails + 1) } = y at *
    refine ⟨by rw [hfr], ?_, (hregs.regsIn hspan).trans (hset.regsIn vaultShown_span), hraised.later (by rw [hfr]) hset, ?_⟩
    · rw [hset.rd (by decide), hrd]
    · rw [hfr, hxframe]

/-- What AUTH_RESPONSE comes to once the challenge is used up. -/
def State.authOutcome (s a : State) (r : VReq) (sigs : Bool) : Reply :=
  match Config.authRole (r.data.headD 0) with
  | some co =>
    if !s.vault.locked && !(tabGet s.vault.chal [] 16).isEmpty && sigs && a.roleKey co (sha384 (sliceAt r.data 1 2049)) then
      { s := a.setVault { a.vault with fails := 0, sess := tabSet a.vault.sess none 16 (some (if co then 1 else 2, a.ticks)) } }
    else a.authFail
  | none => a.authFail

theorem authResponse_exec (h : AtVault s 0x04 r rest) (hlen : r.data.length = 5455) (sigs : Bool) {a : State}
    (ha : s.setVault { s.vault with chal := tabDel s.vault.chal 16 } = a) : exec (.authResponse sigs) s = .next (s.settle ((s.authOutcome a r sigs).give 16)) := by
  obtain ⟨-, -, -, hpath⟩ := id h
  refine congrArg Host.Outcome.next ((vaultServe_runs h (Or.inl rfl)).trans ?_)
  dsimp only
  rw [hpath, ha, if_neg (by rw [hlen]; decide)]
  rfl

theorem roleKey_congr {a : State} (hv : a.vault = { s.vault with chal := tabDel s.vault.chal 16 }) (co : Bool) (id : List Byte) : a.roleKey co id = s.roleKey co id := by
  unfold State.roleKey
  rw [hv]
  rfl

theorem authResponse_runs (h : AtVault s 0x04 r rest) (hlen : r.data.length = 5455) (sigs : Bool) : Runs (.authResponse sigs) s (fun t =>
      let d : Vault := { s.vault with chal := tabDel s.vault.chal 16 }
      let failed : Prop := Served s t rest (if s.vault.locked then d else { d with fails := s.vault.fails + 1, locked := decide (8 ≤ s.vault.fails + 1) }) 4 6 [] (evRegs 996) ∧
        t.rd VLT_AUTH_FAIL_CNT = satAdd (s.rd VLT_AUTH_FAIL_CNT) 1 ∧ Raised s t 996 0x0E06 0
      (s.vault.locked = true ∨ sigs = false ∨ tabGet s.vault.chal [] 16 = [] ∨ Config.authRole (r.data.headD 0) = none → failed) ∧
      (∀ co, Config.authRole (r.data.headD 0) = some co →
        (s.roleKey co (sha384 (sliceAt r.data 1 2049)) = false → failed) ∧
        (s.vault.locked = false → sigs = true → tabGet s.vault.chal [] 16 ≠ [] → s.roleKey co (sha384 (sliceAt r.data 1 2049)) = true →
          Served s t rest { d with fails := 0, sess := tabSet s.vault.sess none 16 (some (if co then 1 else 2, s.ticks)) } 0 0 [] []))) := by
  generalize hd : ({ s.vault with chal := tabDel s.vault.chal 16 } : Vault) = d
  have haframe := State.setVault_frame s d
  have haregs := State.setVault_regs s d
  generalize ha : s.setVault d = a at haframe haregs
  have hav : a.vault = d := by rw [haframe]
  have hexec := authResponse_exec (a := a) h hlen sigs (by rw [hd]; exact ha)
  have hkey := roleKey_congr (s := s) (a := a) (by rw [hd]; exact hav)
  have hq : d.queue = r :: rest := by rw [← hd]; exact h.2.1
  have hver : d.verify = s.vault.verify := by rw [← hd]
  -- Either the authentication fails, or the session opens.
  have hfail (hno : s.authOutcome a r sigs = a.authFail) : Runs (.authResponse sigs) s (fun t =>
      Served s t rest (if s.vault.locked then d else { d with fails := s.vault.fails + 1, locked := decide (8 ≤ s.vault.fails + 1) }) 4 6 [] (evRegs 996) ∧
        t.rd VLT_AUTH_FAIL_CNT = satAdd (s.rd VLT_AUTH_FAIL_CNT) 1 ∧ Raised s t 996 0x0E06 0) := by
    obtain ⟨hv, hcnt, hin, hraised, hframe⟩ := authFail_shows (s := a) rfl
    have hreply : a.authFail = { status := 4, cause := 6, s := a.authFail.s } := rfl
    rw [hno, hreply] at hexec
    generalize a.authFail.s = u at *
    rw [hav] at hv
    have hlock : d.locked = s.vault.locked := by rw [← hd]
    have hfails : d.fails = s.vault.fails := by rw [← hd]
    rw [hlock, hfails] at hv
    have huq : u.vault.queue = r :: rest ∧ u.vault.verify = s.vault.verify := by
      rw [hv]
      split
      · exact ⟨hq, hver⟩
      · exact ⟨hq, hver⟩
    have hsu : RegsIn (VaultOff (evRegs 996)) s u := (haregs.regsIn vaultShown_span).trans hin
    obtain ⟨⟨o, hocc, ho⟩, hcnt', hlast⟩ := hraised
    have huocc : u.occ = s.occ ++ [o] := hocc.trans (by rw [haframe])
    obtain ⟨t, hrun, hserved, hut, ht, -⟩ := serves hexec rfl huq.1 huq.2 hsu
    rw [State.settle_one huocc] at ht
    have hout : (EVT_R_CNT 996).off < 0x500000 ∧ (EVT_R_LAST 996).off < 0x500000 := by decide
    rw [hv] at hserved
    refine ⟨t, hrun, hserved, ?_, ⟨⟨o, by rw [ht]; exact huocc, ho⟩, ?_, ?_⟩⟩
    · rw [hut.rd (by unfold ReplyOff MbOff; decide), hcnt, haregs.rd (by decide)]
    · rw [hut.rd (not_replyOff hout.1), hcnt', haregs.rd (by decide)]
    · rw [hut.rd (not_replyOff hout.2), hlast]
  cases hrole : Config.authRole (r.data.headD 0) with
  | none =>
    obtain ⟨t, hrun, hfailed⟩ := hfail (by unfold State.authOutcome; rw [hrole])
    exact ⟨t, hrun, fun _ => hfailed, fun co hco => absurd hco (by simp)⟩
  | some co =>
    have hcond : (!s.vault.locked && !(tabGet s.vault.chal [] 16).isEmpty && sigs && a.roleKey co (sha384 (sliceAt r.data 1 2049))) = true ↔
        s.vault.locked = false ∧ sigs = true ∧ tabGet s.vault.chal [] 16 ≠ [] ∧ s.roleKey co (sha384 (sliceAt r.data 1 2049)) = true := by
      rw [hkey, Bool.and_eq_true, Bool.and_eq_true, Bool.and_eq_true, Bool.not_eq_true', Bool.not_eq_true', List.isEmpty_eq_false_iff]
      tauto
    by_cases hok : s.vault.locked = false ∧ sigs = true ∧ tabGet s.vault.chal [] 16 ≠ [] ∧ s.roleKey co (sha384 (sliceAt r.data 1 2049)) = true
    · obtain ⟨hlocked, hsigs, hchal, hrk⟩ := id hok
      have hopen : s.authOutcome a r sigs =
          { s := a.setVault { d with fails := 0, sess := tabSet s.vault.sess none 16 (some (if co then 1 else 2, s.ticks)) } } := by
        unfold State.authOutcome
        rw [hrole]
        dsimp only
        rw [if_pos (hcond.2 hok), hav, show a.ticks = s.ticks by rw [haframe], show d.sess = s.vault.sess by rw [← hd]]
      generalize hw : ({ d with fails := 0, sess := tabSet s.vault.sess none 16 (some (if co then 1 else 2, s.ticks)) } : Vault) = w at hopen
      rw [hopen] at hexec
      have hwq : w.queue = r :: rest ∧ w.verify = s.vault.verify := by rw [← hw]; exact ⟨hq, hver⟩
      have hset := State.setVault_frame a w
      have hsetRegs := State.setVault_regs a w
      generalize a.setVault w = u at *
      obtain ⟨t, hrun, hserved, -⟩ := justServes hexec (by rw [hset]) hwq.1 hwq.2 ((haregs.regsIn vaultShown_span).trans (hsetRegs.regsIn vaultShown_span))
        (by rw [hset, haframe])
      refine ⟨t, hrun, fun hno => ?_, fun c hc => ?_⟩
      · rcases hno with h' | h' | h' | h'
        · exact absurd (hlocked.symm.trans h') Bool.false_ne_true
        · exact absurd (h'.symm.trans hsigs) Bool.false_ne_true
        · exact absurd h' hchal
        · exact absurd h' (by simp)
      · obtain rfl : co = c := Option.some.inj hc
        exact ⟨fun h' => absurd (h'.symm.trans hrk) Bool.false_ne_true, fun _ _ _ _ => by rw [hw]; exact hserved⟩
    · obtain ⟨t, hrun, hfailed⟩ := hfail (by
        unfold State.authOutcome
        rw [hrole]
        exact if_neg fun h' => hok (hcond.1 h'))
      refine ⟨t, hrun, fun _ => hfailed, fun c hc => ?_⟩
      obtain rfl : co = c := Option.some.inj hc
      exact ⟨fun _ => hfailed, fun h1 h2 h3 h4 => absurd ⟨h1, h2, h3, h4⟩ hok⟩

end

theorem openServices : OpenServices := by
  unfold OpenServices
  intro s r rest v
  refine ⟨fun h => ?_, vaultSelftest_passes, vaultSelftest_fails, fun h hhold => authChallenge_drbg h hhold, authChallenge_count,
    fun h hlen sigs => authResponse_runs h hlen sigs, fun h => ?_, fun h hlen => ?_⟩
  · refine justServes_plain h (congrArg Host.Outcome.next (vaultServe_runs h (Or.inl rfl))) ?_
    simp only [List.length_append, length_wordBytes, length_leBytes]
    decide
  · obtain ⟨-, -, -, hpath⟩ := id h
    refine justServes_vault h ((congrArg Host.Outcome.next (vaultServe_runs h (Or.inl rfl))).trans ?_)
    rw [hpath]
  · exact justServes_plain h (congrArg Host.Outcome.next (vaultServe_runs h (Or.inl rfl))) hlen

/-! ### Services of a User (R454, R460, R461) -/

theorem length_keyList : ∀ ks : List (Nat × List Byte), (ks.flatMap fun k => leBytes 4 k.1).length = 4 * ks.length
  | [] => rfl
  | k :: ks => by
    rw [List.flatMap_cons, List.length_append, length_leBytes, length_keyList ks, List.length_cons]
    omega

theorem userServices : UserServices := by
  unfold UserServices
  intro s r rest v hrole
  have hrole2 (k : Nat) (hk : k = 0 ∨ k = 2) : k = 0 ∨ s.pathRole 16 = 1 ∨ s.pathRole 16 = k := by
    rcases hk with rfl | rfl
    · exact Or.inl rfl
    · exact Or.inr hrole
  have hquote : ∀ c : Prop, ∀ _ : Decidable c, (if c then 0 else 2) = 0 ∨ (if c then 0 else 2) = 2 := fun c _ => by split <;> simp
  refine ⟨fun h hhold hlen hbody => ?_, fun h hhold hlen => ?_, fun h hhold hlo hhi => ?_, fun h hhold hbad => ?_, fun h hkeys => ?_⟩
  · generalize hresp : s.quoteBody 0 r.data ++ (List.range 3405).map (Config.freeByte s.freeCtr) = resp
    have hexec : exec .quote s = .next (s.settle (({ resp := resp, s := s.useFree } : Reply).give 16)) := by
      refine congrArg Host.Outcome.next ((vaultServeOut_runs h (hrole2 _ (hquote _ _)) hhold).trans ?_)
      rw [if_neg (not_not.2 hlen), ← hresp]
      rfl
    have hlen' : resp.length < 16384 := by
      rw [← hresp, List.length_append, hbody, List.length_map, List.length_range]
      decide
    exact justServes hexec rfl h.2.1 rfl ((RegsIn.refl _ s).congr) rfl hlen'
  · refine justServes_plain h (congrArg Host.Outcome.next ((vaultServeOut_runs h (hrole2 _ (hquote _ _)) hhold).trans ?_))
    rw [if_pos hlen]
    rfl
  · generalize hresp : (List.range (leNat r.data)).map (Config.freeByte s.freeCtr) = resp
    have hexec : exec .random s = .next (s.settle (({ resp := resp, s := s.useFree } : Reply).give 16)) := by
      refine congrArg Host.Outcome.next ((vaultServeOut_runs h (hrole2 2 (Or.inr rfl)) hhold).trans ?_)
      dsimp only
      rw [if_neg (by rw [Bool.or_eq_true, decide_eq_true_iff, decide_eq_true_iff]; omega), ← hresp]
      rfl
    have hlen' : resp.length < 16384 := by
      rw [← hresp, List.length_map, List.length_range]
      omega
    exact justServes hexec rfl h.2.1 rfl ((RegsIn.refl _ s).congr) rfl hlen'
  · refine justServes_plain h (congrArg Host.Outcome.next ((vaultServeOut_runs h (hrole2 2 (Or.inr rfl)) hhold).trans ?_))
    dsimp only
    rw [if_pos (by rw [Bool.or_eq_true, decide_eq_true_iff, decide_eq_true_iff]; omega)]
  · refine justServes_plain h (congrArg Host.Outcome.next (vaultServe_runs h (hrole2 2 (Or.inr rfl)))) ?_
    rw [length_keyList]
    omega

/-! ### Zeroisation (R471) -/

/-- Decoders without their keys: nothing else changes. -/
theorem decKeys_dropped : ∀ (ds : List Nat) (s : State),
    ds.foldl (fun s d => s.setDec d { s.decOf d with key := none }) s = { s with dec := (ds.foldl (fun s d => s.setDec d { s.decOf d with key := none }) s).dec } ∧
      ∀ d, d ∈ ds ∨ (s.decOf d).key = none → ((ds.foldl (fun s d => s.setDec d { s.decOf d with key := none }) s).decOf d).key = none
  | [], _ => ⟨rfl, fun _ h => h.elim (fun h => absurd h List.not_mem_nil) id⟩
  | d :: ds, s => by
    obtain ⟨hframe, hkey⟩ := decKeys_dropped ds (s.setDec d { s.decOf d with key := none })
    rw [List.foldl_cons]
    refine ⟨hframe.trans rfl, fun e he => hkey e ?_⟩
    by_cases hed : e = d
    · right
      rw [hed]
      exact congrArg DecS.key (State.decOf_setDec ..)
    · rcases he with he | he
      · exact Or.inl ((List.mem_cons.1 he).resolve_left hed)
      · right
        have hne : (s.setDec d { s.decOf d with key := none }).decOf e = s.decOf e := tabGet_set_ne _ _ _ _ hed
        rw [hne]
        exact he

/-- What zeroisation leaves of the Vault's own record, before the Hold cause. -/
def Vault.zeroised (v : Vault) : Vault := { v with life := 128, burnt := true, keys := [], certs := [], storeOk := false, chal := [], sess := [] }

theorem zeroise_eq {s : State} (hburnt : s.vault.burnt = false) (hkeys : ∀ c, c < 8 → s.recKeyed c = false) :
    s.zeroise = (((((List.range 4).foldl (fun s d => s.setDec d { s.decOf d with key := none }) s).setVault s.vault.zeroised).vaultHoldSet 4).raise 995 0x0E06
      (bytesWords s.vault.serial)) := by
  have hrec : (List.range 8).foldl (fun s c => if s.recKeyed c then s.recAbort c 2 else s) s = s :=
    foldl_fixed_mem fun c hc => if_neg (by rw [hkeys c (List.mem_range.1 hc)]; exact Bool.false_ne_true)
  obtain ⟨hframe, -⟩ := decKeys_dropped (List.range 4) s
  unfold State.zeroise
  rw [if_neg (by rw [hburnt, Bool.false_and]; exact Bool.false_ne_true)]
  dsimp only
  rw [hrec]
  generalize (List.range 4).foldl (fun s d => s.setDec d { s.decOf d with key := none }) s = a at *
  have hav : a.vault = s.vault := by rw [hframe]
  have hv : (a.setVault a.vault.zeroised).vaultHoldSet 4 = (a.setVault s.vault.zeroised).vaultHoldSet 4 := by rw [hav]
  have hserial : ((a.setVault s.vault.zeroised).vaultHoldSet 4).vault.serial = s.vault.serial := by
    unfold State.vaultHoldSet
    dsimp only
    split
    · rw [State.setVault_vault, State.setVault_vault]
      rfl
    · rw [State.raise_vault, State.setVault_vault, State.setVault_vault]
      rfl
  show ((a.setVault a.vault.zeroised).vaultHoldSet 4).raise 995 0x0E06 (bytesWords (a.setVault a.vault.zeroised).vault.serial) = _
  rw [hv, State.setVault_vault, hav]
  rfl

/-- The Hold cause of zeroisation, whether it stood or not. -/
theorem vaultHoldSet_shows {s t : State} (ht : s.vaultHoldSet 4 = t) :
    (∃ c, bitsOf c 4 4 = 1 ∧ t.vault = { s.vault with hold := true, cause := c }) ∧ RegsBut s t (vaultShown ++ evRegs 992) ∧
      t = { s with regs := t.regs, vault := t.vault, occ := t.occ } := by
  have hbit : bitsOf s.vault.cause 4 4 = 0 ∨ bitsOf s.vault.cause 4 4 = 1 := by rw [bitsOf_one]; omega
  rcases hbit with h | h
  · obtain ⟨hv, hbut, -, hframe⟩ := vaultHoldSet_new h ht
    refine ⟨⟨s.vault.cause + 2 ^ 4, ?_, hv⟩, hbut, hframe⟩
    rw [bitsOf_one] at h ⊢
    omega
  · rw [vaultHoldSet_again h] at ht
    generalize hw : ({ s.vault with hold := true } : Vault) = w at ht
    have hset := State.setVault_frame s w
    rw [ht] at hset
    have htv : t.vault = w := by rw [hset]
    refine ⟨⟨s.vault.cause, h, by rw [htv, ← hw]⟩, ?_, by rw [hset]⟩
    rw [← ht]
    exact (State.setVault_regs s w).mono (List.subset_append_left ..)

/-- What zeroisation leaves, where no recording has a key. -/
theorem zeroise_shows {s t : State} (hburnt : s.vault.burnt = false) (hkeys : ∀ c, c < 8 → s.recKeyed c = false) (ht : s.zeroise = t) :
    (∃ c, bitsOf c 4 4 = 1 ∧ t.vault = { s.vault.zeroised with hold := true, cause := c }) ∧ (∀ d, d < 4 → (t.decOf d).key = none) ∧
      t.rd (EVT_R_CNT 995) = satAdd (s.rd (EVT_R_CNT 995)) 1 ∧ RegsBut s t (vaultShown ++ (evRegs 992 ++ evRegs 995)) ∧
      t = { s with regs := t.regs, vault := t.vault, dec := t.dec, occ := t.occ } := by
  have hrun := zeroise_eq hburnt hkeys
  obtain ⟨hframe, hkey⟩ := decKeys_dropped (List.range 4) s
  generalize (List.range 4).foldl (fun s d => s.setDec d { s.decOf d with key := none }) s = a at *
  have hset := State.setVault_frame a s.vault.zeroised
  have hsetRegs := State.setVault_regs a s.vault.zeroised
  generalize a.setVault s.vault.zeroised = b at *
  obtain ⟨⟨c, hc, hv⟩, hbut, hframe2⟩ := vaultHoldSet_shows (s := b) rfl
  generalize b.vaultHoldSet 4 = x at *
  rw [hrun] at ht
  have hbv : b.vault = s.vault.zeroised := by rw [hset]
  have hsb : RegsBut s b vaultShown := (RegsBut.congr (RegsBut.refl s _) (by rw [hframe])).trans hsetRegs
  have hsx : RegsBut s x (vaultShown ++ (evRegs 992 ++ evRegs 995)) :=
    (hsb.mono (List.subset_append_left ..)).trans (hbut.mono (List.append_subset.2 ⟨List.subset_append_left .., fun o ho =>
      List.mem_append_right _ (List.mem_append_left _ ho)⟩))
  rw [← ht]
  refine ⟨⟨c, hc, by rw [State.raise_vault, hv, hbv]⟩, fun d hd => ?_, ?_, hsx.raise 995 0x0E06 _ fun o ho => List.mem_append_right _ (List.mem_append_right _ ho), ?_⟩
  · show (tabGet x.dec {} d).key = none
    rw [hframe2, hset]
    exact hkey d (Or.inl (List.mem_range.2 hd))
  · rw [State.rd_raise_cnt, hbut.rd (by decide), hsb.rd (by decide)]
  · rw [hframe2, hset, hframe]
    rfl

/-! ### Services of a CO (R457, R461, R467, R469, R471) -/

section
variable {s : State} {r : VReq} {rest : List VReq}

/-- A service that sets the Vault's state and raises its event. -/
theorem serves_raised {i : Instr} {code ev : Nat} {w : Vault} (h : AtVault s code r rest) (hev : ev < 1024)
    (hexec : exec i s = .next (s.settle (({ s := (s.setVault w).raise ev 0x0E06 } : Reply).give 16))) (hq : w.queue = s.vault.queue := by rfl)
    (hver : w.verify = s.vault.verify := by rfl) :
    Runs i s (fun t => Served s t rest w 0 0 [] (evRegs ev) ∧ Raised s t ev 0x0E06 0 ∧ t = { s with regs := t.regs, vault := t.vault, occ := t.occ, freeCtr := t.freeCtr }) := by
  have hset := State.setVault_frame s w
  have hsetRegs := State.setVault_regs s w
  generalize s.setVault w = a at *
  have hregs : RegsIn (VaultOff (evRegs ev)) s (a.raise ev 0x0E06) :=
    (hsetRegs.regsIn vaultShown_span).trans (((RegsBut.refl a (evRegs ev)).raise ev 0x0E06 [] (fun _ h => h)).regsIn fun o ho => Or.inr ho)
  have hshown : (EVT_R_CNT ev).off ∉ vaultShown := fun hm => by
    have := (vaultShown_span (evs := []) _ hm).resolve_right List.not_mem_nil
    simp only [EVT_R_CNT] at this
    omega
  have hraised : Raised s (a.raise ev 0x0E06) ev 0x0E06 0 := State.raised_raise ev 0x0E06 [] (by rw [hset]) (hsetRegs.rd hshown)
  have hxv : (a.raise ev 0x0E06).vault = w := by rw [State.raise_vault, hset]
  have hxframe : a.raise ev 0x0E06 = { s with regs := (a.raise ev 0x0E06).regs, vault := (a.raise ev 0x0E06).vault, occ := (a.raise ev 0x0E06).occ } := by
    rw [hset]
    rfl
  generalize a.raise ev 0x0E06 = x at *
  obtain ⟨⟨o, hocc, ho⟩, hcnt, hlast⟩ := hraised
  obtain ⟨t, hrun, hserved, hxt, ht, -⟩ := serves hexec hxv (hq.trans h.2.1) hver hregs
  rw [State.settle_one hocc] at ht
  refine ⟨t, hrun, hserved, ⟨⟨o, by rw [ht]; exact hocc, ho⟩, ?_, ?_⟩, ?_⟩
  · rw [hxt.rd (not_replyOff (by simp only [EVT_R_CNT]; omega)), hcnt]
  · rw [hxt.rd (not_replyOff (by simp only [EVT_R_LAST]; omega)), hlast]
  · rw [ht, hxframe]

theorem mediaKeyImport_exec (h : AtVault s 0x20 r rest) (hrole : s.pathRole 16 = 1) (hhold : s.vault.hold = false) : exec .mediaKeyImport s = .next (s.settle (
    (if r.data.length ≠ 141 || leAt r.data 0 4 = 0 then badLength s
    else if s.vault.keys.any (·.1 == leAt r.data 0 4) then { status := 4, cause := 3, s := s }
    else if 64 ≤ s.vault.keys.length then { status := 4, cause := 4, s := s }
    else
      match aesUnwrap (s.importKek (sliceAt r.data 4 97) (leAt r.data 0 4)) (sliceAt r.data 101 40) with
      | some k => { s := (s.setVault { s.vault with keys := s.vault.keys ++ [(leAt r.data 0 4, k)], gen := s.vault.gen + 1, storeOk := true }).raise 998 0x0E06 }
      | none => { status := 4, cause := 5, s := s } : Reply).give 16)) :=
  congrArg Host.Outcome.next (vaultServeOut_runs h (Or.inr (Or.inl hrole)) hhold)

theorem anyKey_iff (ks : List (Nat × List Byte)) (id : Nat) : ks.any (·.1 == id) = true ↔ ∃ k, k ∈ ks ∧ k.1 = id := by
  rw [List.any_eq_true]
  exact exists_congr fun k => and_congr_right fun _ => beq_iff_eq

theorem anyKey_false {ks : List (Nat × List Byte)} {id : Nat} (h : ∀ k, k ∈ ks → k.1 ≠ id) : ks.any (·.1 == id) = false :=
  Bool.eq_false_iff.2 fun hany => by
    obtain ⟨k, hk, hid⟩ := (anyKey_iff ks id).1 hany
    exact h k hk hid

theorem mediaKeyImport_serves (h : AtVault s 0x20 r rest) (hrole : s.pathRole 16 = 1) (hhold : s.vault.hold = false) :
    (r.data.length ≠ 141 ∨ leAt r.data 0 4 = 0 → JustServes .mediaKeyImport s rest s.vault 2 1 []) ∧
    (r.data.length = 141 → leAt r.data 0 4 ≠ 0 → (∃ k, k ∈ s.vault.keys ∧ k.1 = leAt r.data 0 4) → JustServes .mediaKeyImport s rest s.vault 4 3 []) ∧
    (r.data.length = 141 → leAt r.data 0 4 ≠ 0 → (∀ k, k ∈ s.vault.keys → k.1 ≠ leAt r.data 0 4) → 64 ≤ s.vault.keys.length →
      JustServes .mediaKeyImport s rest s.vault 4 4 []) ∧
    (r.data.length = 141 → leAt r.data 0 4 ≠ 0 → (∀ k, k ∈ s.vault.keys → k.1 ≠ leAt r.data 0 4) → s.vault.keys.length < 64 → Runs .mediaKeyImport s (fun t =>
      match aesUnwrap (s.importKek (sliceAt r.data 4 97) (leAt r.data 0 4)) (sliceAt r.data 101 40) with
      | some k => Served s t rest { s.vault with keys := s.vault.keys ++ [(leAt r.data 0 4, k)], gen := s.vault.gen + 1, storeOk := true } 0 0 [] (evRegs 998) ∧
          Raised s t 998 0x0E06 0
      | none => Served s t rest s.vault 4 5 [] [] ∧ t.occ = s.occ)) := by
  have hexec := mediaKeyImport_exec h hrole hhold
  generalize leAt r.data 0 4 = id at *
  have hgood (hlen : r.data.length = 141) (hid : id ≠ 0) : ¬ (r.data.length ≠ 141 || id = 0) = true := by
    rw [Bool.or_eq_true, decide_eq_true_iff, decide_eq_true_iff]
    tauto
  refine ⟨fun hbad => ?_, fun hlen hid hk => ?_, fun hlen hid hno hfull => ?_, fun hlen hid hno hroom => ?_⟩
  · rw [if_pos (by rwa [Bool.or_eq_true, decide_eq_true_iff, decide_eq_true_iff])] at hexec
    exact justServes_plain h hexec
  · rw [if_neg (hgood hlen hid), if_pos ((anyKey_iff _ _).2 hk)] at hexec
    exact justServes_plain h hexec
  · rw [if_neg (hgood hlen hid), if_neg (by rw [anyKey_false hno]; exact Bool.false_ne_true), if_pos hfull] at hexec
    exact justServes_plain h hexec
  · rw [if_neg (hgood hlen hid), if_neg (by rw [anyKey_false hno]; exact Bool.false_ne_true), if_neg (by omega)] at hexec
    cases hkey : aesUnwrap (s.importKek (sliceAt r.data 4 97) id) (sliceAt r.data 101 40) with
    | some k =>
      rw [hkey] at hexec
      obtain ⟨t, hrun, hserved, hraised, -⟩ := serves_raised h (by decide) hexec
      exact ⟨t, hrun, hserved, hraised⟩
    | none =>
      rw [hkey] at hexec
      obtain ⟨t, hrun, hserved, hframe⟩ := justServes_plain h hexec
      exact ⟨t, hrun, hserved, by rw [hframe]⟩

theorem rollbackAdvance_serves (h : AtVault s 0x30 r rest) (hrole : s.pathRole 16 = 1) (hhold : s.vault.hold = false) (hlen : r.data.length = 3) :
    (2 < leAt r.data 0 1 → JustServes .rollbackAdvance s rest s.vault 2 1 []) ∧
    (∀ now cap w, (leAt r.data 0 1, now, cap, w) ∈ [(0, s.vault.rbRig, s.vault.rigIn, { s.vault with rbRig := leAt r.data 1 2 }),
        (1, s.vault.rbCal, s.vault.calIn, { s.vault with rbCal := leAt r.data 1 2 }), (2, s.vault.rbFw, s.vault.fwIn, { s.vault with rbFw := leAt r.data 1 2 })] →
      (leAt r.data 1 2 < now ∨ 1024 < leAt r.data 1 2 ∨ cap < leAt r.data 1 2 → JustServes .rollbackAdvance s rest s.vault 4 2 []) ∧
      (now < leAt r.data 1 2 → leAt r.data 1 2 ≤ 1024 → leAt r.data 1 2 ≤ cap → Runs .rollbackAdvance s (fun t =>
        Served s t rest w 0 0 [] (evRegs 997) ∧ Raised s t 997 0x0E06 0))) := by
  generalize hn : leAt r.data 1 2 = n
  generalize hcls : leAt r.data 0 1 = cls
  have hexec : exec .rollbackAdvance s = .next (s.settle (
      (if r.data.length ≠ 3 || 2 < cls then badLength s
      else if n < (if cls = 0 then s.vault.rbRig else if cls = 1 then s.vault.rbCal else s.vault.rbFw) || 1024 < n ||
        (if cls = 0 then s.vault.rigIn else if cls = 1 then s.vault.calIn else s.vault.fwIn) < n then { status := 4, cause := 2, s := s }
      else
        { s := if (if cls = 0 then s.vault.rbRig else if cls = 1 then s.vault.rbCal else s.vault.rbFw) < n then
            (s.setVault (if cls = 0 then { s.vault with rbRig := n } else if cls = 1 then { s.vault with rbCal := n } else { s.vault with rbFw := n })).raise 997 0x0E06
          else s.setVault (if cls = 0 then { s.vault with rbRig := n } else if cls = 1 then { s.vault with rbCal := n } else { s.vault with rbFw := n }) } : Reply).give 16)) := by
    rw [← hn, ← hcls]
    exact congrArg Host.Outcome.next (vaultServeOut_runs h (Or.inr (Or.inl hrole)) hhold)
  refine ⟨fun hbad => ?_, fun now cap w hmem => ?_⟩
  · rw [if_pos (by rw [decide_eq_true hbad, Bool.or_true])] at hexec
    exact justServes_plain h hexec
  · -- The three classes have their own minimum, bound and record.
    have hclass : cls ≤ 2 ∧ now = (if cls = 0 then s.vault.rbRig else if cls = 1 then s.vault.rbCal else s.vault.rbFw) ∧
        cap = (if cls = 0 then s.vault.rigIn else if cls = 1 then s.vault.calIn else s.vault.fwIn) ∧
        w = (if cls = 0 then { s.vault with rbRig := n } else if cls = 1 then { s.vault with rbCal := n } else { s.vault with rbFw := n }) := by
      rcases List.mem_cons.1 hmem with h' | hmem
      · obtain ⟨rfl, rfl, rfl, rfl⟩ : cls = 0 ∧ now = _ ∧ cap = _ ∧ w = _ := by simpa only [Prod.mk.injEq] using h'
        exact ⟨by decide, rfl, rfl, rfl⟩
      · rcases List.mem_cons.1 hmem with h' | hmem
        · obtain ⟨rfl, rfl, rfl, rfl⟩ : cls = 1 ∧ now = _ ∧ cap = _ ∧ w = _ := by simpa only [Prod.mk.injEq] using h'
          exact ⟨by decide, rfl, rfl, rfl⟩
        · obtain ⟨rfl, rfl, rfl, rfl⟩ : cls = 2 ∧ now = _ ∧ cap = _ ∧ w = _ := by simpa only [Prod.mk.injEq] using List.mem_singleton.1 hmem
          exact ⟨by decide, rfl, rfl, rfl⟩
    obtain ⟨hle, hnow, hcap, hw⟩ := hclass
    have hwq : w.queue = s.vault.queue ∧ w.verify = s.vault.verify := by
      rw [hw]
      split
      · exact ⟨rfl, rfl⟩
      · split
        · exact ⟨rfl, rfl⟩
        · exact ⟨rfl, rfl⟩
    rw [← hnow, ← hcap, ← hw, if_neg (by rw [hlen, decide_eq_false (not_not.2 rfl), Bool.false_or, decide_eq_true_iff]; omega)] at hexec
    refine ⟨fun hbad => ?_, fun hlo hhi hmax => ?_⟩
    · rw [if_pos (by rw [Bool.or_eq_true, Bool.or_eq_true, decide_eq_true_iff, decide_eq_true_iff, decide_eq_true_iff]; tauto)] at hexec
      exact justServes_plain h hexec
    · rw [if_neg (by rw [Bool.or_eq_true, Bool.or_eq_true, decide_eq_true_iff, decide_eq_true_iff, decide_eq_true_iff]; omega), if_pos hlo] at hexec
      obtain ⟨t, hrun, hserved, hraised, -⟩ := serves_raised h (by decide) hexec hwq.1 hwq.2
      exact ⟨t, hrun, hserved, hraised⟩

theorem zeroise_serves (h : AtVault s 0x40 r rest) (hrole : s.pathRole 16 = 1) (hlen : r.data.length = 4) (hword : leNat r.data = 0x5A5AC396)
    (hburnt : s.vault.burnt = false) (hkeys : ∀ c, c < 8 → s.recKeyed c = false) : Runs .zeroise s (fun t =>
      t.vault.life = 128 ∧ t.vault.burnt = true ∧ t.vault.keys = [] ∧ t.vault.sess = [] ∧ t.vault.hold = true ∧ bitsOf t.vault.cause 4 4 = 1 ∧
      t.vault.rbRig = s.vault.rbRig ∧ t.vault.rbCal = s.vault.rbCal ∧ t.vault.rbFw = s.vault.rbFw ∧ (∀ d, d < 4 → (t.decOf d).key = none) ∧
      t.rd (EVT_R_CNT 995) = satAdd (s.rd (EVT_R_CNT 995)) 1 ∧ bitsOf (t.rd VLT_MB_CTRL).toNat 15 8 = 0 ∧
      t = { s with regs := t.regs, vault := t.vault, dec := t.dec, occ := t.occ, freeCtr := t.freeCtr }) := by
  have hexec : exec .zeroise s = .next (s.settle (({ s := s.zeroise } : Reply).give 16)) := by
    refine congrArg Host.Outcome.next ((vaultServe_runs h (Or.inr (Or.inl hrole))).trans ?_)
    rw [if_neg (by
      rw [Bool.or_eq_true, decide_eq_true_iff, decide_eq_true_iff]
      exact fun h' => h'.elim (fun h' => h' hlen) fun h' => h' hword)]
  obtain ⟨⟨c, hc, hv⟩, hkey, hcnt, hbut, hframe⟩ := zeroise_shows hburnt hkeys rfl
  generalize s.zeroise = u at *
  obtain ⟨t, hrun, hserved, hut, ht, -⟩ := serves hexec hv h.2.1 rfl (hbut.regsIn shown_span)
  obtain ⟨htv, -, hstatus, -⟩ := hserved
  refine ⟨t, hrun, ?_, ?_, ?_, ?_, ?_, ?_, ?_, ?_, ?_, fun d hd => ?_, ?_, hstatus, ?_⟩
  · rw [htv]; rfl
  · rw [htv]; rfl
  · rw [htv]; rfl
  · rw [htv]; rfl
  · rw [htv]
  · rw [htv]; exact hc
  · rw [htv]; rfl
  · rw [htv]; rfl
  · rw [htv]; rfl
  · rw [ht]
    exact hkey d hd
  · rw [hut.rd (not_replyOff (by decide)), hcnt]
  · rw [ht, hframe]
    rfl

theorem officerServices_keys (hrole : s.pathRole 16 = 1) :
    (AtVault s 0x21 r rest → r.data.length = 4 → (∃ k, k ∈ s.vault.keys ∧ k.1 = leAt r.data 0 4) →
      JustServes .mediaKeyDelete s rest { s.vault with keys := s.vault.keys.filter (fun k => k.1 != leAt r.data 0 4), gen := s.vault.gen + 1 } 0 0 []) ∧
    (AtVault s 0x21 r rest → r.data.length = 4 → (∀ k, k ∈ s.vault.keys → k.1 ≠ leAt r.data 0 4) → JustServes .mediaKeyDelete s rest s.vault 4 7 []) := by
  refine ⟨fun h hlen hk => ?_, fun h hlen hno => ?_⟩
  · refine justServes_vault h ((congrArg Host.Outcome.next (vaultServe_runs h (Or.inr (Or.inl hrole)))).trans ?_)
    dsimp only
    rw [if_neg (not_not.2 hlen), if_pos ((anyKey_iff _ _).2 hk)]
  · refine justServes_plain h ((congrArg Host.Outcome.next (vaultServe_runs h (Or.inr (Or.inl hrole)))).trans ?_)
    dsimp only
    rw [if_neg (not_not.2 hlen), if_neg (by rw [anyKey_false hno]; exact Bool.false_ne_true)]

end

theorem officerServices : OfficerServices := by
  unfold OfficerServices
  intro s r rest v id hrole
  have hco {k : Nat} : k = 0 ∨ s.pathRole 16 = 1 ∨ s.pathRole 16 = k := Or.inr (Or.inl hrole)
  refine ⟨fun h hc => ?_, fun h hc hhold => ?_, fun h hhold => mediaKeyImport_serves h hrole hhold, (officerServices_keys hrole).1, (officerServices_keys hrole).2,
    fun h hhold hlen => rollbackAdvance_serves h hrole hhold hlen, fun h hlen => ?_, fun h hbad => ?_, fun h hlen hword hburnt hkeys =>
    zeroise_serves h hrole hlen hword hburnt hkeys⟩
  · refine justServes_plain h ((congrArg Host.Outcome.next (vaultServe_runs h hco)).trans ?_)
    rw [if_pos hc]
  · refine serves_raised h (by decide) ((congrArg Host.Outcome.next (vaultServe_runs h hco)).trans ?_)
    rw [if_neg (not_not.2 hc), if_pos hhold]
  · refine serves_raised h (by decide) ((congrArg Host.Outcome.next (vaultServe_runs h hco)).trans ?_)
    rw [if_neg (not_not.2 hlen)]
  · refine justServes_plain h ((congrArg Host.Outcome.next (vaultServe_runs h hco)).trans ?_)
    rw [if_pos (by rwa [Bool.or_eq_true, decide_eq_true_iff, decide_eq_true_iff])]
    rfl

/-- Settles O52, by the services one by one, each through what a reply to the mailbox leaves. -/
theorem vaultServices : Obligations.VaultServices := ⟨openServices, userServices, officerServices⟩

end Sys2Proof.Machine
end

section
/-! PROOFS. What happens to the Vault, and its verifications (R194, R228, R458, R466 to R472). -/

-- One proof at a time: the text is compiled as one file in bounded memory.
set_option Elab.async false

namespace Sys2Proof.Machine
open Sys2Proof.Claims

/-! ### Hold, sessions and the lockout (R466, R469) -/

theorem State.setVault_settle (s : State) (v : Vault) : s.settle (s.setVault v) = s.setVault v := State.settle_same (State.setVault_occ s v)

/-- A Vault record set is the record and registers alone. -/
theorem State.setVault_only (s : State) (v : Vault) : s.setVault v = { s with regs := (s.setVault v).regs, vault := (s.setVault v).vault } :=
  (State.setVault_frame s v).trans (by rw [State.setVault_vault])

section
variable {s : State}

theorem entropyHealthFail_sets (h : bitsOf s.vault.cause 1 1 = 0) : Runs .entropyHealthFail s (fun t => t.vault = { s.vault with hold := true, cause := s.vault.cause + 2 } ∧
    Raised s t 992 0x0E06 1 ∧ t = { s with regs := t.regs, vault := t.vault, occ := t.occ }) := by
  obtain ⟨hv, -, hraised, hframe⟩ := vaultHoldSet_new h rfl
  have hrun : exec .entropyHealthFail s = .next (s.settle (s.vaultHoldSet 1)) := rfl
  obtain ⟨⟨o, hocc, -⟩, -, -⟩ := id hraised
  rw [State.settle_one hocc] at hrun
  exact Runs.next hrun ⟨hv, hraised, hframe⟩

theorem entropyHealthFail_again (h : bitsOf s.vault.cause 1 1 = 1) : Runs .entropyHealthFail s (fun t => t.vault = { s.vault with hold := true } ∧
    t = { s with regs := t.regs, vault := t.vault }) := by
  have hrun : exec .entropyHealthFail s = .next (s.settle (s.vaultHoldSet 1)) := rfl
  rw [vaultHoldSet_again h, State.setVault_settle] at hrun
  exact Runs.next hrun ⟨State.setVault_vault .., State.setVault_only ..⟩

theorem conditionalSelftestFail_sets (h : bitsOf s.vault.cause 2 2 = 0) : Runs .conditionalSelftestFail s (fun t =>
    t.vault = { s.vault with hold := true, cause := s.vault.cause + 4 } ∧ t.rd (EVT_R_CNT 992) = satAdd (s.rd (EVT_R_CNT 992)) 1 ∧
      t.rd (EVT_R_CNT 999) = satAdd (s.rd (EVT_R_CNT 999)) 1 ∧ t = { s with regs := t.regs, vault := t.vault, occ := t.occ }) := by
  obtain ⟨hv, -, h992, h999, -, hframe⟩ := selftestHold_shows h rfl
  have hrun : exec .conditionalSelftestFail s = .next (s.settle s.selftestHold) := rfl
  generalize s.selftestHold = u at *
  refine Runs.next hrun ⟨hv, h992, h999, ?_⟩
  rw [hframe]
  rfl

/-! ### Tamper and the secure RTC's supply (R471, R472) -/

theorem tamper_bit (n : Fin 7) : ((s.setFld VLT_TAMPER ⟨n, n⟩ 1).rd VLT_TAMPER).getLsbD n = true := by
  have hn := n.isLt
  rw [State.setFld_eq, State.rd_wr_self, Fld.put_getLsbD _ _ _ _ (by omega), if_pos ⟨le_refl _, Nat.lt_succ_self _⟩, Nat.sub_self]
  rfl

theorem tamperDetect_waits (n : Fin 7) (hon : s.tamperOn n = true) : Runs (.tamperDetect n false) s (fun t => (t.rd VLT_TAMPER).getLsbD n = true ∧
    t.vault = { s.vault with tampWait := true } ∧ t.occ = s.occ ∧ t = { s with regs := t.regs, vault := t.vault }) := by
  have hbit := tamper_bit (s := s) n
  have hframe : s.setFld VLT_TAMPER ⟨n, n⟩ 1 = { s with regs := (s.setFld VLT_TAMPER ⟨n, n⟩ 1).regs } := rfl
  have hrun : exec (.tamperDetect n false) s = .next ((s.setFld VLT_TAMPER ⟨n, n⟩ 1).setVault { s.vault with tampWait := true }) :=
    congrArg Host.Outcome.next ((if_neg (by rw [hon]; decide)).trans (if_neg Bool.false_ne_true))
  generalize s.setFld VLT_TAMPER ⟨n, n⟩ 1 = a at *
  generalize hw : ({ s.vault with tampWait := true } : Vault) = w at *
  have hset := State.setVault_frame a w
  have hregs := State.setVault_regs a w
  generalize a.setVault w = u at *
  refine Runs.next hrun ⟨?_, by rw [hset], by rw [hset, hframe], by rw [hset, hframe]⟩
  rw [hregs.rd (by decide)]
  exact hbit

theorem tamperDetect_zeroises (n : Fin 7) (hon : s.tamperOn n = true) (hburnt : s.vault.burnt = false) (hkeys : ∀ c, c < 8 → s.recKeyed c = false) :
    Runs (.tamperDetect n true) s (fun t => (t.rd VLT_TAMPER).getLsbD n = true ∧ t.vault.life = 128 ∧ t.vault.keys = [] ∧ t.vault.hold = true ∧
      t.rd (EVT_R_CNT 994) = satAdd (s.rd (EVT_R_CNT 994)) 1 ∧ t.rd (EVT_R_CNT 995) = satAdd (s.rd (EVT_R_CNT 995)) 1) := by
  have hbit := tamper_bit (s := s) n
  have hframe : s.setFld VLT_TAMPER ⟨n, n⟩ 1 = { s with regs := (s.setFld VLT_TAMPER ⟨n, n⟩ 1).regs } := rfl
  have hregs : RegsBut s (s.setFld VLT_TAMPER ⟨n, n⟩ 1) [VLT_TAMPER.off] := (RegsBut.refl s _).setFld _ _ _
  have hrun : exec (.tamperDetect n true) s = .next (s.settle ((s.setFld VLT_TAMPER ⟨n, n⟩ 1).raise 994 0x0E06).zeroise) :=
    congrArg Host.Outcome.next ((if_neg (by rw [hon]; decide)).trans (if_pos rfl))
  generalize s.setFld VLT_TAMPER ⟨n, n⟩ 1 = a at *
  have h994 : (a.raise 994 0x0E06).rd (EVT_R_CNT 994) = satAdd (s.rd (EVT_R_CNT 994)) 1 := by rw [State.rd_raise_cnt, hregs.rd (by decide)]
  have h995 : (a.raise 994 0x0E06).rd (EVT_R_CNT 995) = s.rd (EVT_R_CNT 995) := by
    rw [State.rd_raise _ _ _ _ (by decide) (by decide), hregs.rd (by decide)]
  have htamper : ((a.raise 994 0x0E06).rd VLT_TAMPER).getLsbD n = true := by
    rw [State.rd_raise _ _ _ _ (by decide) (by decide)]
    exact hbit
  have hxframe : a.raise 994 0x0E06 = { s with regs := (a.raise 994 0x0E06).regs, occ := (a.raise 994 0x0E06).occ } := by rw [hframe]; rfl
  generalize a.raise 994 0x0E06 = x at *
  have hxv : x.vault = s.vault := by rw [hxframe]
  have hxk (c : Nat) : x.recKeyed c = s.recKeyed c := by rw [hxframe]; rfl
  obtain ⟨⟨c, -, hv⟩, -, hcnt, hbut, -⟩ := zeroise_shows (s := x) (by rw [hxv]; exact hburnt) (fun c hc => (hxk c).trans (hkeys c hc)) rfl
  generalize x.zeroise = y at *
  refine Runs.next hrun ⟨?_, ?_, ?_, ?_, ?_, ?_⟩
  · show (y.rd VLT_TAMPER).getLsbD n = true
    rw [hbut.rd (by decide)]
    exact htamper
  · show y.vault.life = 128
    rw [hv]
    rfl
  · show y.vault.keys = []
    rw [hv]
    rfl
  · show y.vault.hold = true
    rw [hv]
  · show y.rd (EVT_R_CNT 994) = _
    rw [hbut.rd (by decide), h994]
  · show y.rd (EVT_R_CNT 995) = _
    rw [hcnt, h995]

theorem tamperDetect_again (n : Fin 7) (hon : s.tamperOn n = true) (hburnt : s.vault.burnt = true) (hlife : s.vault.life = 128) :
    Runs (.tamperDetect n true) s (fun t => (t.rd VLT_TAMPER).getLsbD n = true ∧ t.vault = s.vault ∧ Raised s t 994 0x0E06 0 ∧
      RegsBut s t (VLT_TAMPER.off :: evRegs 994) ∧ t = { s with regs := t.regs, occ := t.occ }) := by
  have hbit := tamper_bit (s := s) n
  have hframe : s.setFld VLT_TAMPER ⟨n, n⟩ 1 = { s with regs := (s.setFld VLT_TAMPER ⟨n, n⟩ 1).regs } := rfl
  have hregs : RegsBut s (s.setFld VLT_TAMPER ⟨n, n⟩ 1) [VLT_TAMPER.off] := (RegsBut.refl s _).setFld _ _ _
  have hrun : exec (.tamperDetect n true) s = .next (s.settle ((s.setFld VLT_TAMPER ⟨n, n⟩ 1).raise 994 0x0E06).zeroise) :=
    congrArg Host.Outcome.next ((if_neg (by rw [hon]; decide)).trans (if_pos rfl))
  generalize s.setFld VLT_TAMPER ⟨n, n⟩ 1 = a at *
  have hav : a.vault = s.vault := by rw [hframe]
  have haocc : a.occ = s.occ := by rw [hframe]
  have hstay : (a.raise 994 0x0E06).zeroise = a.raise 994 0x0E06 :=
    if_pos (by rw [State.raise_vault, hav, hburnt, hlife]; rfl)
  rw [hstay, State.settle_raise 994 0x0E06 [] haocc] at hrun
  refine Runs.next hrun ⟨?_, by rw [State.raise_vault, hav], State.raised_raise 994 0x0E06 [] haocc (hregs.rd (by decide)),
    (hregs.mono (by simp)).raise 994 0x0E06 [] (by simp), by rw [hframe]; rfl⟩
  rw [State.rd_raise _ _ _ _ (by decide) (by decide)]
  exact hbit

theorem vbatLow_runs (s : State) : Runs .vbatLow s (fun t => (t.rd VLT_TAMPER).getLsbD 7 = true ∧ t.vault = { s.vault with rtcValid := false } ∧
    Raised s t 994 0x0E06 0 ∧ t = { s with regs := t.regs, vault := t.vault, occ := t.occ }) := by
  have hbit : ((s.setFld VLT_TAMPER ⟨7, 7⟩ 1).rd VLT_TAMPER).getLsbD 7 = true := by
    rw [State.setFld_eq, State.rd_wr_self, Fld.put_getLsbD _ _ _ _ (by decide)]
    rfl
  have hframe : s.setFld VLT_TAMPER ⟨7, 7⟩ 1 = { s with regs := (s.setFld VLT_TAMPER ⟨7, 7⟩ 1).regs } := rfl
  have hregs : RegsBut s (s.setFld VLT_TAMPER ⟨7, 7⟩ 1) [VLT_TAMPER.off] := (RegsBut.refl s _).setFld _ _ _
  have hrun : exec .vbatLow s = .next (((s.setFld VLT_TAMPER ⟨7, 7⟩ 1).setVault { s.vault with rtcValid := false }).raise 994 0x0E06) := rfl
  generalize s.setFld VLT_TAMPER ⟨7, 7⟩ 1 = a at *
  generalize hw : ({ s.vault with rtcValid := false } : Vault) = w at *
  have hset := State.setVault_frame a w
  have hsetRegs := State.setVault_regs a w
  generalize a.setVault w = u at *
  have huocc : u.occ = s.occ := by rw [hset, hframe]
  refine Runs.next hrun ⟨?_, by rw [State.raise_vault, hset], State.raised_raise 994 0x0E06 [] huocc ((hsetRegs.rd (by decide)).trans (hregs.rd (by decide))), ?_⟩
  · rw [State.rd_raise _ _ _ _ (by decide) (by decide), hsetRegs.rd (by decide)]
    exact hbit
  · rw [hset, hframe]
    rfl

end

theorem vaultWatches : VaultWatches := by
  unfold VaultWatches
  intro s v
  refine ⟨entropyHealthFail_sets, entropyHealthFail_again, conditionalSelftestFail_sets, fun p => ?_, fun hlocked => ?_, fun hno => ?_, fun n aon hoff => ?_,
    tamperDetect_waits, tamperDetect_zeroises, tamperDetect_again, vbatLow_runs s⟩
  · have hrun : exec (.authSessionTimeout p) s = .next (s.setVault { s.vault with sess := tabDel s.vault.sess p.val }) := rfl
    refine Runs.next hrun ⟨?_, ?_, State.setVault_only ..⟩
    · rw [State.setVault_vault, tabGet, tabGet?_del_self]
      rfl
    · rw [State.setVault_vault]
  · have hrun : exec .authLockoutEnd s = .next (s.setVault { s.vault with locked := false, fails := 0 }) := congrArg Host.Outcome.next (if_pos hlocked)
    exact Runs.next hrun ⟨State.setVault_vault .., State.setVault_only ..⟩
  · refine congrArg Host.Outcome.next (if_neg ?_)
    rw [show s.vault.locked = false from hno]
    exact Bool.false_ne_true
  · refine congrArg Host.Outcome.next (if_pos ?_)
    rw [hoff]
    rfl

/-! ### Stores verified (R194, R228) -/

/-- Heads with a store due: nothing else changes. -/
theorem drvDue_foldl : ∀ (hs : List Nat) (s : State),
    hs.foldl (fun s h => s.setDrv h { s.drvOf h with calDue := true }) s = { s with drv := (hs.foldl (fun s h => s.setDrv h { s.drvOf h with calDue := true }) s).drv } ∧
      ∀ h, h ∈ hs ∨ (s.drvOf h).calDue = true → ((hs.foldl (fun s h => s.setDrv h { s.drvOf h with calDue := true }) s).drvOf h).calDue = true
  | [], _ => ⟨rfl, fun _ h => h.elim (fun h => absurd h List.not_mem_nil) id⟩
  | h :: hs, s => by
    obtain ⟨hframe, hdue⟩ := drvDue_foldl hs (s.setDrv h { s.drvOf h with calDue := true })
    rw [List.foldl_cons]
    refine ⟨hframe.trans rfl, fun k hk => hdue k ?_⟩
    by_cases hkh : k = h
    · right
      rw [hkh]
      exact congrArg DrvH.calDue (tabGet_set_self s.drv {} { s.drvOf h with calDue := true } h)
    · rcases hk with hk | hk
      · exact Or.inl ((List.mem_cons.1 hk).resolve_left hkh)
      · right
        have hne : (s.setDrv h { s.drvOf h with calDue := true }).drvOf k = s.drvOf k := tabGet_set_ne _ _ _ _ hkh
        rw [hne]
        exact hk

/-- The same for the calibration store. -/
theorem catDue_foldl : ∀ (hs : List Nat) (s : State),
    hs.foldl (fun s h => s.setCat h { s.catOf h with calDue := true }) s = { s with cat := (hs.foldl (fun s h => s.setCat h { s.catOf h with calDue := true }) s).cat } ∧
      ∀ h, h ∈ hs ∨ (s.catOf h).calDue = true → ((hs.foldl (fun s h => s.setCat h { s.catOf h with calDue := true }) s).catOf h).calDue = true
  | [], _ => ⟨rfl, fun _ h => h.elim (fun h => absurd h List.not_mem_nil) id⟩
  | h :: hs, s => by
    obtain ⟨hframe, hdue⟩ := catDue_foldl hs (s.setCat h { s.catOf h with calDue := true })
    rw [List.foldl_cons]
    refine ⟨hframe.trans rfl, fun k hk => hdue k ?_⟩
    by_cases hkh : k = h
    · right
      rw [hkh]
      exact congrArg CatH.calDue (tabGet_set_self s.cat {} { s.catOf h with calDue := true } h)
    · rcases hk with hk | hk
      · exact Or.inl ((List.mem_cons.1 hk).resolve_left hkh)
      · right
        have hne : (s.setCat h { s.catOf h with calDue := true }).catOf k = s.catOf k := tabGet_set_ne _ _ _ _ hkh
        rw [hne]
        exact hk

/-- Whether a store has too many contexts for a head does not depend on the Vault. -/
theorem storeOver_congr {s a : State} (hframe : a = { s with regs := a.regs, vault := a.vault }) (hregs : RegsBut s a vaultShown) (st : CalStore) (h : Nat) :
    a.storeOver st h = s.storeOver st h := by
  have hrd {r : Reg} (hr : 0x1000000 ≤ r.off) : a.rd r = s.rd r := hregs.rd fun hm => by
    have := (vaultShown_span (evs := []) _ hm).resolve_right List.not_mem_nil
    omega
  have hboot : a.boot = s.boot := by rw [hframe]
  have hspt : a.spt = s.spt := by rw [hframe]
  have hp (p : Nat) : a.rd (SPT_P_CFG p) = s.rd (SPT_P_CFG p) := hrd (by simp only [SPT_P_CFG]; omega)
  have hh (p : Nat) : a.rd (SPT_H_CFG p) = s.rd (SPT_H_CFG p) := hrd (by simp only [SPT_H_CFG]; omega)
  have hcfg (p : Nat) : a.rd (CAT_H_CFG p) = s.rd (CAT_H_CFG p) := hrd (by simp only [CAT_H_CFG]; omega)
  have hfirst (p : Nat) : a.rd (CAT_H_DEF_FIRST p) = s.rd (CAT_H_DEF_FIRST p) := hrd (by simp only [CAT_H_DEF_FIRST]; omega)
  have hcount (p : Nat) : a.rd (CAT_H_DEF_COUNT p) = s.rd (CAT_H_DEF_COUNT p) := hrd (by simp only [CAT_H_DEF_COUNT]; omega)
  have hhp (k : Nat) : a.hp k = s.hp k := by simp only [State.hp, State.leadPort, State.bit, State.fld, hp, hboot]
  have hpad (k : Nat) : a.paddleHead k = s.paddleHead k := by rw [State.paddleHead, State.paddleHead, hboot]
  have hon : a.catOn h = s.catOn h := by rw [State.catOn, State.catOn, hpad, State.bit, State.bit, hcfg]
  have htag : a.modeTag h = s.modeTag h := by simp only [State.modeTag, State.fld, hpad, hboot, hhp, hh]
  have hzl : a.zlTest h = s.zlTest h := by simp only [State.zlTest, State.bit, hpad, hhp, hh, hspt]; rfl
  have hrange : a.defRange h = s.defRange h := by rw [State.defRange, State.defRange, hfirst, hcount]
  unfold State.storeOver
  rw [hon, hpad, htag, hzl, hrange]

section
variable {a : State} {colour : Bool} {img : List Byte} {k : SigCheck} {q : Nat}

/-- A store passes its tests. -/
def storePasses (a : State) (colour : Bool) (img : List Byte) (k : SigCheck) : Prop := storeShape img colour = true ∧ verifyCode a.vault.rbCal img k = 0

theorem storePasses_iff : (storeShape img colour && verifyCode a.vault.rbCal img k == 0) = true ↔ storePasses a colour img k := by
  rw [Bool.and_eq_true, beq_iff_eq]
  rfl

theorem storeVerified_rejected (hno : ¬ storePasses a colour img k) (hwait : waits a (.cal q) = false) (hpaddle : a.boot.paddle ≠ .waiting) :
    a.storeVerified colour img k q = if colour then a.raise 385 0x0400 [1] else a.raise 169 0x0300 [1] := by
  have hno' : (!(storeShape img colour && verifyCode a.vault.rbCal img k == 0)) = true := by
    rw [Bool.not_eq_true', ← Bool.not_eq_true, storePasses_iff]
    exact hno
  generalize hb : (if colour then a.raise 385 0x0400 [1] else a.raise 169 0x0300 [1]) = b
  have hbframe : b = { a with regs := b.regs, occ := b.occ } := by
    rw [← hb]
    split <;> rfl
  have hbpaddle : (!colour && b.boot.paddle == .waiting) = false := by
    rw [show (b.boot.paddle == .waiting) = false by rw [hbframe]; exact beq_eq_false_iff_ne.2 hpaddle, Bool.and_false]
  have hbwait : waits b (.cal q) = false := (waits_congr (by rw [hbframe]) _).trans hwait
  unfold State.storeVerified
  dsimp only
  rw [if_pos hno', hb, hbpaddle, if_neg Bool.false_ne_true, State.callDone_none hbwait]

theorem storeVerified_colour (h : storePasses a true img k) (hwait : waits a (.cal q) = false) :
    a.storeVerified true img k q = (List.range 8).foldl (fun s h => s.setDrv h { s.drvOf h with calDue := true }) { a with colNew := storeOf img } := by
  have hok : ¬ (!(storeShape img true && verifyCode a.vault.rbCal img k == 0)) = true := by rw [storePasses_iff.2 h]; decide
  obtain ⟨hframe, -⟩ := drvDue_foldl (List.range 8) { a with colNew := storeOf img }
  unfold State.storeVerified
  dsimp only
  rw [if_neg hok, if_pos rfl]
  refine State.callDone_none ((waits_congr ?_ _).trans hwait) _ _ _
  rw [hframe]

theorem storeVerified_over (h : storePasses a false img k) (hover : ∃ h, h < 8 ∧ a.storeOver (storeOf img) h = true) (hwait : waits a (.cal q) = false) :
    a.storeVerified false img k q = a := by
  have hok : ¬ (!(storeShape img false && verifyCode a.vault.rbCal img k == 0)) = true := by rw [storePasses_iff.2 h]; decide
  obtain ⟨n, hn, hover⟩ := hover
  unfold State.storeVerified
  dsimp only
  rw [if_neg hok, if_neg Bool.false_ne_true, if_pos (List.any_eq_true.2 ⟨n, List.mem_range.2 hn, hover⟩)]
  exact State.callDone_none hwait _ _ _

theorem storeVerified_applies (h : storePasses a false img k) (hfits : ∀ h, h < 8 → a.storeOver (storeOf img) h = false) (hwait : waits a (.cal q) = false) :
    a.storeVerified false img k q = ((List.range 8).foldl (fun (s : State) h => s.setCat h { s.catOf h with calDue := true }) { a with calNew := storeOf img }).setVault
      { a.vault with calIn := (imgHeader img).rollback } := by
  have hok : ¬ (!(storeShape img false && verifyCode a.vault.rbCal img k == 0)) = true := by rw [storePasses_iff.2 h]; decide
  have hno : ¬ (List.range 8).any (fun h => a.storeOver (storeOf img) h) = true := by
    rw [List.any_eq_true]
    rintro ⟨n, hn, hover⟩
    exact absurd ((hfits n (List.mem_range.1 hn)).symm.trans hover) Bool.false_ne_true
  obtain ⟨hframe, -⟩ := catDue_foldl (List.range 8) { a with calNew := storeOf img }
  unfold State.storeVerified
  dsimp only
  rw [if_neg hok, if_neg Bool.false_ne_true, if_neg hno]
  generalize (List.range 8).foldl (fun (s : State) h => s.setCat h { s.catOf h with calDue := true }) { a with calNew := storeOf img } = b at *
  have hbv : b.vault = a.vault := by rw [hframe]
  rw [hbv]
  refine State.callDone_none ((waits_congr ?_ _).trans hwait) _ _ _
  rw [State.setVault_frame, hframe]

theorem storeVerified_verify (hwait : waits a (.cal q) = false) (hpaddle : a.boot.paddle ≠ .waiting) : (a.storeVerified colour img k q).vault.verify = a.vault.verify := by
  by_cases h : storePasses a colour img k
  · cases colour
    · by_cases hover : ∃ h, h < 8 ∧ a.storeOver (storeOf img) h = true
      · rw [storeVerified_over h hover hwait]
      · have hfits : ∀ h, h < 8 → a.storeOver (storeOf img) h = false := fun n hn => by
          rw [← Bool.not_eq_true]
          exact fun hmany => hover ⟨n, hn, hmany⟩
        rw [storeVerified_applies h hfits hwait, State.setVault_vault]
    · rw [storeVerified_colour h hwait, (drvDue_foldl (List.range 8) { a with colNew := storeOf img }).1]
  · rw [storeVerified_rejected h hwait hpaddle]
    split
    · rw [State.raise_vault]
    · rw [State.raise_vault]

end

/-- What a verified store leaves (R194, R228). -/
def StoreOutcome (s : State) (colour : Bool) (img : List Byte) (k : SigCheck) (t : State) : Prop :=
  (¬ storePasses s colour img k → t.calNew = s.calNew ∧ t.colNew = s.colNew ∧ t.rd (EVT_R_CNT (if colour then 385 else 169)) = satAdd (s.rd (EVT_R_CNT (if colour then 385 else 169))) 1) ∧
  (storePasses s colour img k → colour = true → t.colNew = storeOf img ∧ t.calNew = s.calNew ∧ (∀ h, h < 8 → (t.drvOf h).calDue = true)) ∧
  (storePasses s colour img k → colour = false → (∃ h, h < 8 ∧ s.storeOver (storeOf img) h = true) → t.calNew = s.calNew ∧ t.cat = s.cat) ∧
  (storePasses s colour img k → colour = false → (∀ h, h < 8 → s.storeOver (storeOf img) h = false) → t.calNew = storeOf img ∧ t.colNew = s.colNew ∧
    (∀ h, h < 8 → (t.catOf h).calDue = true) ∧ t.vault.calIn = (imgHeader img).rollback)

section
variable {s a : State} {colour : Bool} {img : List Byte} {k : SigCheck} {q : Nat}

theorem storeVerified_outcome (hframe : a = { s with regs := a.regs, vault := a.vault }) (hregs : RegsBut s a vaultShown) (hrb : a.vault.rbCal = s.vault.rbCal)
    (hwait : waits s (.cal q) = false) (hpaddle : s.boot.paddle ≠ .waiting) : StoreOutcome s colour img k (s.settle (a.storeVerified colour img k q)) := by
  have hcal : a.calNew = s.calNew := by rw [hframe]
  have hcol : a.colNew = s.colNew := by rw [hframe]
  have hcat : a.cat = s.cat := by rw [hframe]
  have hawait : waits a (.cal q) = false := (waits_congr (by rw [hframe]) _).trans hwait
  have hapaddle : a.boot.paddle ≠ .waiting := by rw [hframe]; exact hpaddle
  have hpass : storePasses s colour img k → storePasses a colour img k := fun h => ⟨h.1, by rw [hrb]; exact h.2⟩
  have hpass' : storePasses a colour img k → storePasses s colour img k := fun h => ⟨h.1, by rw [← hrb]; exact h.2⟩
  have hcnt (n : Nat) (hn : n < 1024) : a.rd (EVT_R_CNT n) = s.rd (EVT_R_CNT n) := hregs.rd fun hm => by
    have hspan := (vaultShown_span (evs := []) _ hm).resolve_right List.not_mem_nil
    simp only [EVT_R_CNT] at hspan
    omega
  have hover := storeOver_congr hframe hregs (storeOf img)
  refine ⟨fun hno => ?_, fun h hc => ?_, fun h hc hmany => ?_, fun h hc hfits => ?_⟩
  · rw [storeVerified_rejected (mt hpass' hno) hawait hapaddle, ← hcal, ← hcol, ← hcnt _ (by split <;> decide)]
    cases colour
    · exact ⟨State.raise_calNew a 169 0x0300 [1], State.raise_colNew a 169 0x0300 [1], State.rd_raise_cnt a 169 0x0300 [1]⟩
    · exact ⟨State.raise_calNew a 385 0x0400 [1], State.raise_colNew a 385 0x0400 [1], State.rd_raise_cnt a 385 0x0400 [1]⟩
  · subst hc
    rw [storeVerified_colour (hpass h) hawait, ← hcal]
    obtain ⟨hdframe, hdue⟩ := drvDue_foldl (List.range 8) { a with colNew := storeOf img }
    generalize (List.range 8).foldl (fun (s : State) h => s.setDrv h { s.drvOf h with calDue := true }) { a with colNew := storeOf img } = b at *
    refine ⟨?_, ?_, fun h hh => hdue h (Or.inl (List.mem_range.2 hh))⟩
    · have hb : b.colNew = storeOf img := by rw [hdframe]
      exact hb
    · have hb : b.calNew = a.calNew := by rw [hdframe]
      exact hb
  · subst hc
    obtain ⟨n, hn, hmany⟩ := hmany
    rw [storeVerified_over (hpass h) ⟨n, hn, (hover n).trans hmany⟩ hawait]
    exact ⟨hcal, hcat⟩
  · subst hc
    rw [storeVerified_applies (hpass h) (fun n hn => (hover n).trans (hfits n hn)) hawait, ← hcol]
    obtain ⟨hcframe, hdue⟩ := catDue_foldl (List.range 8) { a with calNew := storeOf img }
    generalize (List.range 8).foldl (fun (s : State) h => s.setCat h { s.catOf h with calDue := true }) { a with calNew := storeOf img } = b at *
    have hset := State.setVault_frame b { a.vault with calIn := (imgHeader img).rollback }
    have hvault := State.setVault_vault b { a.vault with calIn := (imgHeader img).rollback }
    generalize b.setVault { a.vault with calIn := (imgHeader img).rollback } = c at *
    refine ⟨?_, ?_, fun h hh => ?_, ?_⟩
    · have hb : c.calNew = storeOf img := by rw [hset, hcframe]
      exact hb
    · have hb : c.colNew = a.colNew := by rw [hset, hcframe]
      exact hb
    · have hccat : c.cat = b.cat := by rw [hset]
      exact (congrArg (fun x => (tabGet x {} h : CatH).calDue) hccat).trans (hdue h (Or.inl (List.mem_range.2 hh)))
    · exact congrArg Vault.calIn hvault

end

/-! ### The Vault's verifications (R458, R468) -/

section
variable {s : State} {x : VVerify} {xs : List VVerify} {k : SigCheck}

theorem verifying_some (hturn : s.vault.turn = some true) (hx : s.vault.verify = x :: xs) : s.verifying = some x := by
  rw [State.verifying, if_pos hturn, hx]
  rfl

theorem verifying_none (h : s.vault.turn ≠ some true ∨ s.vault.verify = []) : s.verifying = none := by
  rw [State.verifying]
  split
  · rw [h.resolve_left (not_not_intro ‹_›)]
    rfl
  · rfl

/-- What taking a verification off its queue leaves. -/
theorem verifyPop_shows (hx : s.vault.verify = x :: xs) : s.verifyPop.vault.verify = xs ∧ s.verifyPop.vault.rbRig = s.vault.rbRig ∧ s.verifyPop.vault.rbCal = s.vault.rbCal ∧
    s.verifyPop.vault.pol = s.vault.pol ∧ RegsBut s s.verifyPop vaultShown ∧ s.verifyPop = { s with regs := s.verifyPop.regs, vault := s.verifyPop.vault } := by
  unfold State.verifyPop
  dsimp only
  rw [State.setVault_vault]
  refine ⟨by rw [hx]; rfl, rfl, rfl, rfl, fun o ho => State.setVault_regs _ _ o ho, ?_⟩
  rw [State.setVault_frame]

/-- The code of a Rig image is kept for its checks (R458). -/
theorem vaultVerifyDone_rig (hturn : s.vault.turn = some true) (hx : s.vault.verify = x :: xs) (hcls : x.cls = 0) : Runs (.vaultVerifyDone k) s (fun t =>
    t.rig = { s.rig with verdict := some (s.verifyRig x.data k) } ∧ t.vault.verify = xs ∧ t = { s with regs := t.regs, vault := t.vault, rig := t.rig }) := by
  obtain ⟨hv, hrb, -, hpol, -, hframe⟩ := verifyPop_shows hx
  have hrun : exec (.vaultVerifyDone k) s = .next (s.settle { s.verifyPop with rig := { s.verifyPop.rig with verdict := some (s.verifyPop.verifyRig x.data k) } }) := by
    change execVaultVerifyDone k s = _
    unfold execVaultVerifyDone
    rw [verifying_some hturn hx]
    exact congrArg Host.Outcome.next (if_pos hcls)
  have hcode : s.verifyPop.verifyRig x.data k = s.verifyRig x.data k := by
    unfold State.verifyRig
    rw [hrb, hpol]
  have hrig : s.verifyPop.rig = s.rig := by rw [hframe]
  rw [hcode, hrig] at hrun
  generalize s.verifyPop = a at *
  have hocc : a.occ = s.occ := by rw [hframe]
  refine Runs.next (hrun.trans (congrArg Host.Outcome.next (State.settle_same hocc))) ⟨rfl, hv, ?_⟩
  dsimp only
  rw [hframe]

theorem calStoreVerified_runs {c : Bool} (hturn : s.vault.turn = some true) (hx : s.vault.verify = x :: xs) (hcls : x.cls = if c then 2 else 1) :
    exec (.calStoreVerified c none k) s = .next (s.settle (s.verifyPop.storeVerified c x.data k x.path)) := by
  change execCalStoreVerified c none k s = _
  unfold execCalStoreVerified
  dsimp only
  rw [verifying_some hturn hx]
  exact congrArg Host.Outcome.next (if_pos hcls)

theorem vaultVerifyDone_store {c : Bool} (hturn : s.vault.turn = some true) (hx : s.vault.verify = x :: xs) (hcls : x.cls = if c then 2 else 1) :
    exec (.vaultVerifyDone k) s = exec (.calStoreVerified c none k) s := by
  rw [calStoreVerified_runs hturn hx hcls]
  change execVaultVerifyDone k s = _
  unfold execVaultVerifyDone
  rw [verifying_some hturn hx]
  have hne : x.cls ≠ 0 := by rw [hcls]; cases c <;> decide
  have hc : (x.cls == 2) = c := by rw [hcls]; cases c <;> rfl
  refine (congrArg Host.Outcome.next (if_neg hne)).trans ?_
  rw [hc]

theorem vaultVerify_none (h : s.vault.turn ≠ some true ∨ s.vault.verify = []) :
    exec (.vaultVerifyDone k) s = .next s ∧ ∀ c : Bool, exec (.calStoreVerified c none k) s = .next s := by
  refine ⟨?_, fun c => ?_⟩
  · change execVaultVerifyDone k s = _
    unfold execVaultVerifyDone
    rw [verifying_none h]
  · change execCalStoreVerified c none k s = _
    unfold execCalStoreVerified
    dsimp only
    rw [verifying_none h]

end

/-! ### The loader (R467, R472) -/

section
variable {s : State} {k : SigCheck} {d : BitVec 22} {script : List Byte} {r : VReq} {rest : List VReq}

/-- The reply to RECOVERY_LOAD. -/
def recoveryReply (k : SigCheck) (d : BitVec 22) (script : List Byte) (s : State) (r : VReq) : Reply :=
  let v := s.vault
  let off := leAt r.data 0 4
  let chunk := r.data.drop 4
  if s.stage ≠ 6 || s.rd BOH_BOOT_ERR ≠ 3 then { status := 4, cause := 8, s := s }
  else if r.data.length < 4 || off < v.loader.length || 4194304 < off + chunk.length then badLength s
  else if !chunk.isEmpty then { s := s.setVault { v with loader := sliceAt v.loader 0 off ++ chunk } }
  else
    let s := s.setVault { v with loader := [] }
    if s.loaderOk v.loader k then { s := s.loaderStart v.loader (sliceAt v.loader ((sectEntryAt v.loader 256).off + d.toNat) 64) script }
    else { s := s }

theorem recoveryLoad_runs (h : AtVault s 0x41 r rest) : exec (.recoveryLoad k d script) s = .next (s.settle ((recoveryReply k d script s r).give 16)) :=
  congrArg Host.Outcome.next (vaultServe_runs (f := recoveryReply k d script) h (Or.inl rfl))

theorem recoveryReply_otherState (h : s.stage ≠ 6 ∨ s.rd BOH_BOOT_ERR ≠ 3) : recoveryReply k d script s r = { status := 4, cause := 8, s := s } :=
  if_pos (by simpa only [Bool.or_eq_true, decide_eq_true_eq] using h)

theorem recoveryReply_body (hstage : s.stage = 6) (herr : s.rd BOH_BOOT_ERR = 3) : recoveryReply k d script s r =
    if r.data.length < 4 || leAt r.data 0 4 < s.vault.loader.length || 4194304 < leAt r.data 0 4 + (r.data.drop 4).length then badLength s
    else if !(r.data.drop 4).isEmpty then { s := s.setVault { s.vault with loader := sliceAt s.vault.loader 0 (leAt r.data 0 4) ++ r.data.drop 4 } }
    else
      let s' := s.setVault { s.vault with loader := [] }
      if s'.loaderOk s.vault.loader k then { s := s'.loaderStart s.vault.loader (sliceAt s.vault.loader ((sectEntryAt s.vault.loader 256).off + d.toNat) 64) script }
      else { s := s' } :=
  if_neg (by rw [hstage, herr]; decide)

theorem loaderForm_iff {n off len : Nat} {loader : List Byte} :
    (decide (n < 4) || decide (off < loader.length) || decide (4194304 < off + len)) = true ↔ n < 4 ∨ off < loader.length ∨ 4194304 < off + len := by
  rw [Bool.or_eq_true, Bool.or_eq_true, decide_eq_true_eq, decide_eq_true_eq, decide_eq_true_eq, or_assoc]

theorem recoveryReply_badForm (hstage : s.stage = 6) (herr : s.rd BOH_BOOT_ERR = 3)
    (hbad : r.data.length < 4 ∨ leAt r.data 0 4 < s.vault.loader.length ∨ 4194304 < leAt r.data 0 4 + (r.data.drop 4).length) :
    recoveryReply k d script s r = badLength s :=
  (recoveryReply_body hstage herr).trans (if_pos (loaderForm_iff.2 hbad))

theorem recoveryReply_chunk (hstage : s.stage = 6) (herr : s.rd BOH_BOOT_ERR = 3) (hlen : 4 ≤ r.data.length) (hoff : s.vault.loader.length ≤ leAt r.data 0 4)
    (hfits : leAt r.data 0 4 + (r.data.drop 4).length ≤ 4194304) (hchunk : r.data.drop 4 ≠ []) :
    recoveryReply k d script s r = { s := s.setVault { s.vault with loader := sliceAt s.vault.loader 0 (leAt r.data 0 4) ++ r.data.drop 4 } } := by
  refine (recoveryReply_body hstage herr).trans ((if_neg ?_).trans (if_pos ?_))
  · rw [loaderForm_iff]
    omega
  · rw [Bool.not_eq_true', List.isEmpty_eq_false_iff]
    exact hchunk

theorem recoveryReply_fails (hstage : s.stage = 6) (herr : s.rd BOH_BOOT_ERR = 3) (hlen : r.data.length = 4) (hoff : s.vault.loader.length ≤ leAt r.data 0 4)
    (hfits : leAt r.data 0 4 ≤ 4194304) (hno : s.loaderOk s.vault.loader k = false) :
    recoveryReply k d script s r = { s := s.setVault { s.vault with loader := [] } } := by
  have hdrop : r.data.drop 4 = [] := List.drop_eq_nil_of_le (by omega)
  refine (recoveryReply_body hstage herr).trans ?_
  rw [hdrop]
  refine (if_neg ?_).trans ((if_neg (by decide)).trans (if_neg ?_))
  · rw [loaderForm_iff, List.length_nil]
    omega
  · rw [show (s.setVault { s.vault with loader := [] }).loaderOk s.vault.loader k = s.loaderOk s.vault.loader k by
      rw [State.loaderOk, State.loaderOk, State.setVault_vault], hno]
    exact Bool.false_ne_true

end

theorem vaultVerifies : VaultVerifies := by
  unfold VaultVerifies
  intro k s x xs
  dsimp only
  refine ⟨vaultVerify_none, fun ⟨hturn, hx⟩ hcls => vaultVerifyDone_rig hturn hx hcls, fun c ⟨hturn, hx⟩ hcls => vaultVerifyDone_store hturn hx hcls,
    fun c ⟨hturn, hx⟩ hcls hwait hpaddle => ?_, fun c img hdesc hstage hwait hpaddle => ?_, fun d script r rest h => ⟨fun hst => ?_, fun hst herr => ⟨fun hbad => ?_, fun hlen hoff hfits hne => ?_, fun hlen hoff hfits hno => ?_⟩⟩⟩
  · obtain ⟨hv, -, hrb, -, hregs, hframe⟩ := verifyPop_shows hx
    refine Runs.next (calStoreVerified_runs hturn hx hcls) ⟨?_, storeVerified_outcome hframe hregs hrb hwait hpaddle⟩
    refine (storeVerified_verify ((waits_congr ?_ _).trans hwait) ?_).trans hv
    · rw [hframe]
    · rw [hframe]
      exact hpaddle
  · refine Runs.next ?_ (storeVerified_outcome (q := 16) (a := s) rfl (RegsBut.refl s vaultShown) rfl hwait hpaddle)
    exact congrArg Host.Outcome.next (if_pos (by rw [hdesc, hstage]; rfl))
  · exact justServes_plain h ((recoveryLoad_runs h).trans (by rw [recoveryReply_otherState hst]))
  · exact justServes_plain h ((recoveryLoad_runs h).trans (by rw [recoveryReply_badForm hst herr hbad]; rfl))
  · exact justServes_vault h ((recoveryLoad_runs h).trans (by rw [recoveryReply_chunk hst herr hlen hoff hfits hne]))
  · exact justServes_vault h ((recoveryLoad_runs h).trans (by rw [recoveryReply_fails hst herr hlen hoff hfits hno]))

/-- Settles O53, by what Hold, the zeroisation and the loading of a store leave: what happens to the Vault, and its verifications. -/
theorem vaultEvents : Obligations.VaultEvents := ⟨vaultWatches, vaultVerifies⟩

end Sys2Proof.Machine
end

section
/-! PROOFS. Calls and their Answers (R439 to R442): what taking a Call, its Answer and its wait leave. -/

-- One proof at a time: the text is compiled as one file in bounded memory.
set_option Elab.async false

namespace Sys2Proof.Machine
open Sys2Proof.Claims

/-! ### The Call block's own state -/

theorem State.callQ_setCallQ (s : State) (q : Nat) (x : CallQ) : (s.setCallQ q x).callQ q = x := tabGet_set_self s.call.q {} x q

theorem State.ansQ_setAnsQ (s : State) (a : Nat) (x : AnsQ) : (s.setAnsQ a x).ansQ a = x := tabGet_set_self s.call.a {} x a

theorem State.callQ_congr {s t : State} (h : t.call = s.call) (q : Nat) : t.callQ q = s.callQ q := by rw [State.callQ, State.callQ, h]

theorem callAq_lt (s : State) (q : Nat) : s.callAq q < 16 := by
  unfold State.callAq bitsOf
  exact Nat.mod_lt _ (by decide)

/-- The registers of the Call and Answer queues (R439, R441). -/
def CallReg (o : Nat) : Prop := 0x80000 ≤ o ∧ o < 0x82000

/-- A state has the queues, their registers and the masks of the vectors of another. -/
structure KeepsCalls (s u : State) : Prop where
  call : u.call = s.call
  regs : RegsIn (fun o => ¬ CallReg o) s u

theorem KeepsCalls.refl (s : State) : KeepsCalls s s := ⟨rfl, RegsIn.refl _ s⟩

theorem KeepsCalls.trans {s t u : State} (h : KeepsCalls s t) (h' : KeepsCalls t u) : KeepsCalls s u := ⟨h'.call.trans h.call, h.regs.trans h'.regs⟩

theorem KeepsCalls.of_regsBut {s u : State} {os : List Nat} (hcall : u.call = s.call) (hregs : RegsBut s u os) (hos : ∀ o ∈ os, ¬ CallReg o) : KeepsCalls s u :=
  ⟨hcall, hregs.regsIn hos⟩

theorem KeepsCalls.rd {s u : State} (h : KeepsCalls s u) {r : Reg} (hr : CallReg r.off) : u.rd r = s.rd r := h.regs.rd (not_not_intro hr)

theorem callReg_q {q : Nat} (hq : q < 16) : CallReg (CLL_Q_CFG q).off ∧ CallReg (CLL_Q_HEAD q).off ∧ CallReg (CLL_Q_TAIL q).off ∧ CallReg (CLL_Q_STATUS q).off := by
  simp only [CallReg, CLL_Q_CFG, CLL_Q_HEAD, CLL_Q_TAIL, CLL_Q_STATUS]
  omega

theorem callReg_a {a : Nat} (ha : a < 16) : CallReg (CLL_A_CFG a).off ∧ CallReg (CLL_A_HEAD a).off ∧ CallReg (CLL_A_TAIL a).off ∧
    CallReg (CLL_A_BASE_LO a).off ∧ CallReg (CLL_A_BASE_HI a).off := by
  simp only [CallReg, CLL_A_CFG, CLL_A_HEAD, CLL_A_TAIL, CLL_A_BASE_LO, CLL_A_BASE_HI]
  omega

theorem KeepsCalls.callAq {s u : State} (h : KeepsCalls s u) {q : Nat} (hq : q < 16) : u.callAq q = s.callAq q := by
  rw [State.callAq, State.callAq, h.rd (callReg_q hq).1]

/-- A field of one bit set to 1, and to 0. -/
theorem State.setFld_one (s : State) (r : Reg) (i : Nat) (hi : i < 32 := by decide) : ((s.setFld r ⟨i, i⟩ 1).rd r).getLsbD i = true := by
  rw [State.setFld_eq, State.rd_wr_self, Fld.put_getLsbD _ _ _ _ hi, if_pos ⟨le_refl _, Nat.lt_succ_self _⟩, Nat.sub_self]
  rfl

theorem State.setFld_zero (s : State) (r : Reg) (i : Nat) (hi : i < 32 := by decide) : ((s.setFld r ⟨i, i⟩ 0).rd r).getLsbD i = false := by
  rw [State.setFld_eq, State.rd_wr_self, Fld.put_getLsbD _ _ _ _ hi, if_pos ⟨le_refl _, Nat.lt_succ_self _⟩, Nat.zero_testBit]

/-! ### A Call is taken (R440) -/

/-- The next Call of a queue taken: HEAD has passed it and BUSY is set. -/
def State.callTaken (s : State) (q : Nat) (c : Call) : State :=
  ((s.setCallQ q { s.callQ q with cur := some (c, none) }).wr (CLL_Q_HEAD q) (w32 (((s.rd (CLL_Q_HEAD q)).toNat + 1) % 256))).setFld (CLL_Q_STATUS q) ⟨1, 1⟩ 1

section
variable {s : State} {q op : Nat} {sel : Call → Bool} {f : State → Call → State} {c : Call}

theorem callRun_next (h : CallNext s q c) : s.callRun q op sel f =
    if !callOps.contains c.op then s.settle ((s.callTaken q c).callAnswer q 1) else if c.op = op && sel c then s.settle (f (s.callTaken q c) c) else s := by
  obtain ⟨hup, hen, hcur, -, hne, hc⟩ := h
  have hgo : ¬ (!bitOf (s.rd (CLL_Q_CFG q)) 0 || (s.callQ q).cur.isSome || (s.rd (CLL_Q_HEAD q)).toNat == (s.rd (CLL_Q_TAIL q)).toNat || !s.hostUp) = true := by
    have hne' : ((s.rd (CLL_Q_HEAD q)).toNat == (s.rd (CLL_Q_TAIL q)).toNat) = false := beq_eq_false_iff_ne.2 fun h => hne (BitVec.eq_of_toNat_eq h)
    rw [bitOf, hen, hcur, hne', hup]
    decide
  unfold State.callRun
  dsimp only
  rw [if_neg hgo, hc]
  rfl

/-- The row of the Call's opcode runs it. -/
theorem callRun_taken (h : CallNext s q c) (hop : c.op = op) (hknown : callOps.contains op = true := by decide) (hsel : sel c = true := by rfl) :
    s.callRun q op sel f = s.settle (f (s.callTaken q c) c) := by
  rw [callRun_next h, if_neg (by rw [hop, hknown]; exact Bool.false_ne_true), if_pos (by rw [hop, hsel, decide_eq_true rfl]; rfl)]

theorem callTaken_callQ : (s.callTaken q c).callQ q = { s.callQ q with cur := some (c, none) } := State.callQ_setCallQ s q _

theorem callTaken_frame : s.callTaken q c = { s with regs := (s.callTaken q c).regs, call := (s.callTaken q c).call } := rfl

theorem callTaken_ansQ (a : Nat) : (s.callTaken q c).ansQ a = s.ansQ a := rfl

theorem callTaken_msixOf (v : Nat) : (s.callTaken q c).msixOf v = s.msixOf v := rfl

theorem callTaken_regs : RegsBut s (s.callTaken q c) [(CLL_Q_HEAD q).off, (CLL_Q_STATUS q).off] :=
  (((RegsBut.refl s _).congr (u := s.setCallQ q _)).wr _ _).setFld _ _ _

theorem callTaken_head : (s.callTaken q c).rd (CLL_Q_HEAD q) = w32 (((s.rd (CLL_Q_HEAD q)).toNat + 1) % 256) := by
  have hne : (CLL_Q_HEAD q).off ≠ (CLL_Q_STATUS q).off := by simp only [CLL_Q_HEAD, CLL_Q_STATUS]; omega
  rw [State.callTaken, State.rd_setFld_ne _ _ _ hne, State.rd_wr_self]

theorem callTaken_busy : ((s.callTaken q c).rd (CLL_Q_STATUS q)).getLsbD 1 = true := State.setFld_one _ _ 1

end

/-! ### An Answer is written (R441) -/

/-- What an Answer's entry in its ring leaves before its vector: the entry, TAIL, and PHASE, which turns at the end of the ring. -/
def State.ansEntry (s : State) (a : Nat) (e : Answer) : State :=
  let t := (s.rd (CLL_A_TAIL a)).toNat
  let u := (s.emit (.hostWrite (s.rd64 (CLL_A_BASE_LO a) (CLL_A_BASE_HI a) / 32 * 32 + 32 * t) (ansBytes e (s.ansQ a).phase s.ns))).wr (CLL_A_TAIL a)
    (w32 ((t + 1) % s.ansSize a))
  if (t + 1) % s.ansSize a = 0 then u.setAnsQ a { u.ansQ a with phase := !(s.ansQ a).phase } else u

section
variable {s : State} {a q : Nat} {e : Answer}

theorem ansEntry_out : (s.ansEntry a e).out = s.out ++ [.hostWrite (s.rd64 (CLL_A_BASE_LO a) (CLL_A_BASE_HI a) / 32 * 32 + 32 * (s.rd (CLL_A_TAIL a)).toNat)
    (ansBytes e (s.ansQ a).phase s.ns)] := by
  unfold State.ansEntry
  dsimp only
  split
  · rfl
  · rfl

theorem ansEntry_regs : (s.ansEntry a e).regs = (s.wr (CLL_A_TAIL a) (w32 (((s.rd (CLL_A_TAIL a)).toNat + 1) % s.ansSize a))).regs := by
  unfold State.ansEntry
  dsimp only
  split
  · rfl
  · rfl

theorem ansEntry_tail : (s.ansEntry a e).rd (CLL_A_TAIL a) = w32 (((s.rd (CLL_A_TAIL a)).toNat + 1) % s.ansSize a) := by
  rw [State.rd, ansEntry_regs]
  exact State.rd_wr_self ..

theorem ansEntry_only : RegsBut s (s.ansEntry a e) [(CLL_A_TAIL a).off] := ((RegsBut.refl s _).wr _ _).congr ansEntry_regs

theorem ansEntry_callQ : (s.ansEntry a e).callQ q = s.callQ q := by
  unfold State.ansEntry
  dsimp only
  split
  · rfl
  · rfl

theorem ansEntry_msixOf (v : Nat) : (s.ansEntry a e).msixOf v = s.msixOf v := by
  unfold State.ansEntry
  dsimp only
  split
  · rfl
  · rfl

theorem ansEntry_phase : ((s.ansEntry a e).ansQ a).phase =
    if ((s.rd (CLL_A_TAIL a)).toNat + 1) % s.ansSize a = 0 then !(s.ansQ a).phase else (s.ansQ a).phase := by
  unfold State.ansEntry
  dsimp only
  split
  · rw [State.ansQ_setAnsQ]
  · rfl

theorem ansEntry_frame : s.ansEntry a e = { s with regs := (s.ansEntry a e).regs, call := (s.ansEntry a e).call, out := (s.ansEntry a e).out } := by
  unfold State.ansEntry
  dsimp only
  split
  · rfl
  · rfl

/-- The queue of a Call that has its Answer is free for its next Call. -/
theorem callEnded_open (h : (s.callQ q).stop = false) : s.callEnded q = (s.setCallQ q { s.callQ q with cur := none }).setFld (CLL_Q_STATUS q) ⟨1, 1⟩ 0 :=
  if_neg (by rw [h]; exact Bool.false_ne_true)

/-- An Answer with room in its ring, its vector open. -/
theorem ansPut_open (hen : (s.rd (CLL_A_CFG a)).getLsbD 8 = true)
    (hroom : ((s.rd (CLL_A_TAIL a)).toNat + 1) % s.ansSize a ≠ (s.rd (CLL_A_HEAD a)).toNat % s.ansSize a)
    (hopen : (s.msixOf (bitsOf (s.rd (CLL_A_CFG a)).toNat 26 16)).masked = false) (hstop : (s.callQ e.queue).stop = false) :
    s.ansPut a e = (((s.ansEntry a e).emit (.msix (bitsOf (s.rd (CLL_A_CFG a)).toNat 26 16))).setCallQ e.queue { (s.ansEntry a e).callQ e.queue with cur := none }).setFld
      (CLL_Q_STATUS e.queue) ⟨1, 1⟩ 0 := by
  have hcfg : (s.ansEntry a e).rd (CLL_A_CFG a) = s.rd (CLL_A_CFG a) := ansEntry_only.rd (by simp only [List.mem_singleton, CLL_A_CFG, CLL_A_TAIL]; omega)
  have hput : s.ansPut a e = ((s.ansEntry a e).msixSend (bitsOf ((s.ansEntry a e).rd (CLL_A_CFG a)).toNat 26 16)).callEnded e.queue :=
    (if_neg (by rw [bitOf, hen]; exact Bool.false_ne_true)).trans (if_neg hroom)
  rw [hput, hcfg, msixSend_open ((congrArg MsixVec.masked (ansEntry_msixOf _)).trans hopen)]
  exact callEnded_open ((congrArg CallQ.stop ansEntry_callQ).trans hstop)

end

/-- What is left of an Answer in a state that holds its Call: HEAD was taken before. -/
structure AnswerLeft (s t : State) (q : Nat) (c : Call) (status r0 r1 : Nat) : Prop where
  out : t.out = s.out ++ [.hostWrite (s.rd64 (CLL_A_BASE_LO (s.callAq q)) (CLL_A_BASE_HI (s.callAq q)) / 32 * 32 + 32 * (s.rd (CLL_A_TAIL (s.callAq q))).toNat)
    (ansBytes ⟨q, c.tag, status, (s.rd (CLL_Q_HEAD q)).toNat, r0, r1⟩ (s.ansQ (s.callAq q)).phase s.ns), .msix (bitsOf (s.rd (CLL_A_CFG (s.callAq q))).toNat 26 16)]
  tail : t.rd (CLL_A_TAIL (s.callAq q)) = w32 (((s.rd (CLL_A_TAIL (s.callAq q))).toNat + 1) % s.ansSize (s.callAq q))
  cur : (t.callQ q).cur = none
  idle : (t.rd (CLL_Q_STATUS q)).getLsbD 1 = false
  phase : (t.ansQ (s.callAq q)).phase =
    if ((s.rd (CLL_A_TAIL (s.callAq q))).toNat + 1) % s.ansSize (s.callAq q) = 0 then !(s.ansQ (s.callAq q)).phase else (s.ansQ (s.callAq q)).phase
  regs : RegsBut s t [(CLL_Q_STATUS q).off, (CLL_A_TAIL (s.callAq q)).off]
  frame : t = { s with regs := t.regs, call := t.call, out := t.out }

section
variable {s : State} {q status r0 r1 : Nat} {c : Call} {w : Option WaitFor}

/-- A Call in hand gets its Answer (R442). -/
theorem callAnswer_left (hcur : (s.callQ q).cur = some (c, w)) (hstop : (s.callQ q).stop = false) (hroom : AnswerRoom s q) :
    AnswerLeft s (s.callAnswer q status r0 r1) q c status r0 r1 := by
  obtain ⟨hen, hroom, hopen⟩ := hroom
  have ha := callAq_lt s q
  have hput : s.callAnswer q status r0 r1 = (s.setCallQ q { s.callQ q with cur := some (c, none) }).ansPut (s.callAq q) ⟨q, c.tag, status, (s.rd (CLL_Q_HEAD q)).toNat, r0, r1⟩ := by
    unfold State.callAnswer
    dsimp only
    rw [hcur]
    rfl
  rw [hput]
  have hstop' : ((s.setCallQ q { s.callQ q with cur := some (c, none) }).callQ q).stop = false := by rw [State.callQ_setCallQ]; exact hstop
  have hopened := ansPut_open (s := s.setCallQ q { s.callQ q with cur := some (c, none) }) (e := ⟨q, c.tag, status, (s.rd (CLL_Q_HEAD q)).toNat, r0, r1⟩) hen hroom hopen hstop'
  rw [hopened]
  have hne : (CLL_A_TAIL (s.callAq q)).off ≠ (CLL_Q_STATUS q).off := by simp only [CLL_A_TAIL, CLL_Q_STATUS]; omega
  have hphase := ansEntry_phase (s := s.setCallQ q { s.callQ q with cur := some (c, none) }) (a := s.callAq q) (e := ⟨q, c.tag, status, (s.rd (CLL_Q_HEAD q)).toNat, r0, r1⟩)
  have hout := ansEntry_out (s := s.setCallQ q { s.callQ q with cur := some (c, none) }) (a := s.callAq q) (e := ⟨q, c.tag, status, (s.rd (CLL_Q_HEAD q)).toNat, r0, r1⟩)
  have htail := ansEntry_tail (s := s.setCallQ q { s.callQ q with cur := some (c, none) }) (a := s.callAq q) (e := ⟨q, c.tag, status, (s.rd (CLL_Q_HEAD q)).toNat, r0, r1⟩)
  have hregs := ansEntry_only (s := s.setCallQ q { s.callQ q with cur := some (c, none) }) (a := s.callAq q) (e := ⟨q, c.tag, status, (s.rd (CLL_Q_HEAD q)).toNat, r0, r1⟩)
  have hframe := ansEntry_frame (s := s.setCallQ q { s.callQ q with cur := some (c, none) }) (a := s.callAq q) (e := ⟨q, c.tag, status, (s.rd (CLL_Q_HEAD q)).toNat, r0, r1⟩)
  generalize (s.setCallQ q { s.callQ q with cur := some (c, none) }).ansEntry (s.callAq q) ⟨q, c.tag, status, (s.rd (CLL_Q_HEAD q)).toNat, r0, r1⟩ = u at *
  have hregs' : RegsBut s u [(CLL_Q_STATUS q).off, (CLL_A_TAIL (s.callAq q)).off] := ((RegsBut.refl s _).congr).trans (hregs.mono (by simp))
  refine ⟨?_, ?_, ?_, State.setFld_zero _ _ 1, hphase, (hregs'.congr).setFld _ _ _, ?_⟩
  · exact (congrArg (· ++ [_]) hout).trans (List.append_assoc ..)
  · rw [State.rd_setFld_ne _ _ _ hne]
    exact htail
  · exact congrArg CallQ.cur (State.callQ_setCallQ ..)
  · rw [hframe]
    rfl

end

/-! ### From a queue to its Answer (R440 to R442) -/

section
variable {s u : State} {q status r0 r1 : Nat} {c : Call} {out : List Out}

/-- What stands of the queues after a Call is taken and its work is done. -/
theorem callTaken_kept (hu : KeepsCalls (s.callTaken q c) u) (hq : q < 16) :
    u.callQ q = { s.callQ q with cur := some (c, none) } ∧ u.rd (CLL_Q_HEAD q) = w32 (((s.rd (CLL_Q_HEAD q)).toNat + 1) % 256) ∧
      (u.rd (CLL_Q_STATUS q)).getLsbD 1 = true ∧ u.callAq q = s.callAq q := by
  have hregs := callTaken_regs (s := s) (q := q) (c := c)
  obtain ⟨hcfg, hhead, -, hstatus⟩ := callReg_q hq
  refine ⟨(State.callQ_congr hu.call q).trans callTaken_callQ, (hu.rd hhead).trans callTaken_head, by rw [hu.rd hstatus]; exact callTaken_busy, ?_⟩
  rw [State.callAq, State.callAq, hu.rd hcfg, hregs.rd (by simp [CLL_Q_CFG, CLL_Q_HEAD, CLL_Q_STATUS])]

/-- The Answer queues stand too. -/
theorem KeepsCalls.ansRd (hu : KeepsCalls (s.callTaken q c) u) (hq : q < 16) {r : Reg} (hr : 0x81000 ≤ r.off ∧ r.off < 0x81400) : u.rd r = s.rd r := by
  have hregs := callTaken_regs (s := s) (q := q) (c := c)
  rw [hu.rd ⟨by omega, by omega⟩, hregs.rd]
  simp only [CLL_Q_HEAD, CLL_Q_STATUS, List.mem_cons, List.not_mem_nil, or_false]
  omega

/-- What an Answer reads of the queues, in a state that holds its Call. -/
theorem callTaken_answerReads (hu : KeepsCalls (s.callTaken q c) u) (hq : q < 16) :
    u.rd (CLL_A_CFG (s.callAq q)) = s.rd (CLL_A_CFG (s.callAq q)) ∧ u.rd (CLL_A_HEAD (s.callAq q)) = s.rd (CLL_A_HEAD (s.callAq q)) ∧
      u.rd (CLL_A_TAIL (s.callAq q)) = s.rd (CLL_A_TAIL (s.callAq q)) ∧ u.ansSize (s.callAq q) = s.ansSize (s.callAq q) ∧
      u.rd64 (CLL_A_BASE_LO (s.callAq q)) (CLL_A_BASE_HI (s.callAq q)) = s.rd64 (CLL_A_BASE_LO (s.callAq q)) (CLL_A_BASE_HI (s.callAq q)) := by
  have ha := callAq_lt s q
  generalize s.callAq q = a at *
  have hrd (r : Reg) (hr : 0x81000 ≤ r.off ∧ r.off < 0x81400) : u.rd r = s.rd r := hu.ansRd hq hr
  have hcfg := hrd (CLL_A_CFG a) (by simp only [CLL_A_CFG]; omega)
  refine ⟨hcfg, hrd _ (by simp only [CLL_A_HEAD]; omega), hrd _ (by simp only [CLL_A_TAIL]; omega), by rw [State.ansSize, State.ansSize, hcfg], ?_⟩
  rw [State.rd64, State.rd64, hrd (CLL_A_BASE_LO a) (by simp only [CLL_A_BASE_LO]; omega), hrd (CLL_A_BASE_HI a) (by simp only [CLL_A_BASE_HI]; omega)]

theorem answerRoom_kept (hroom : AnswerRoom s q) (hu : KeepsCalls (s.callTaken q c) u) (hq : q < 16) : AnswerRoom u q := by
  obtain ⟨-, -, -, haq⟩ := callTaken_kept hu hq
  obtain ⟨hcfg, hhead, htail, hsize, -⟩ := callTaken_answerReads hu hq
  obtain ⟨hen, hroom, hopen⟩ := hroom
  unfold AnswerRoom
  dsimp only
  rw [haq, hcfg, hhead, htail, hsize]
  refine ⟨hen, hroom, ?_⟩
  rw [State.msixOf, hu.call]
  exact hopen

/-- The Call's work done, in a state that kept the queues: its Answer is written. -/
theorem callNext_answered (h : CallNext s q c) (hq : q < 16) (hroom : AnswerRoom s q) (hu : KeepsCalls (s.callTaken q c) u) (hout : u.out = s.out ++ out) :
    Answered s (u.callAnswer q status r0 r1) q c status r0 r1 out ∧ RegsBut u (u.callAnswer q status r0 r1) (callRegs s q) ∧
      u.callAnswer q status r0 r1 = { u with regs := (u.callAnswer q status r0 r1).regs, call := (u.callAnswer q status r0 r1).call, out := (u.callAnswer q status r0 r1).out } := by
  obtain ⟨hcq, hhead, -, haq⟩ := callTaken_kept hu hq
  obtain ⟨hcfg, -, htail, hsize, hbase⟩ := callTaken_answerReads hu hq
  obtain ⟨-, -, -, hstop, -, -⟩ := id h
  have hleft := callAnswer_left (s := u) (status := status) (r0 := r0) (r1 := r1) (congrArg CallQ.cur hcq) ((congrArg CallQ.stop hcq).trans hstop) (answerRoom_kept hroom hu hq)
  have hphase : u.ansQ (s.callAq q) = s.ansQ (s.callAq q) := by
    rw [State.ansQ, hu.call]
    rfl
  obtain ⟨hlout, hltail, hlcur, hlidle, hlphase, hlregs, hlframe⟩ := hleft
  have hnum : (w32 (((s.rd (CLL_Q_HEAD q)).toNat + 1) % 256)).toNat = ((s.rd (CLL_Q_HEAD q)).toNat + 1) % 256 := by
    rw [BitVec.toNat_ofNat]
    omega
  rw [haq, hcfg, htail, hbase, hhead, hphase, hout, hnum] at hlout
  rw [haq, htail, hsize] at hltail
  rw [haq, htail, hsize, hphase] at hlphase
  rw [haq] at hlregs
  generalize u.callAnswer q status r0 r1 = t at *
  have hns : t.ns = u.ns := by rw [hlframe]; rfl
  refine ⟨⟨hns ▸ hlout, ?_, hltail, hlcur, hlidle, hlphase⟩, hlregs.mono (by simp [callRegs]), hlframe⟩
  rw [hlregs.rd, hhead]
  simp only [CLL_Q_HEAD, CLL_Q_STATUS, CLL_A_TAIL, List.mem_cons, List.not_mem_nil, or_false]
  omega

end

section
variable {s : State} {q status r0 r1 : Nat} {c : Call} {i : Instr}

/-- A Call command that is its Answer alone. -/
theorem callNext_justAnswers (h : CallNext s q c) (hq : q < 16) (hroom : AnswerRoom s q)
    (hexec : exec i s = .next (s.settle ((s.callTaken q c).callAnswer q status r0 r1))) : JustAnswers i s q c status r0 r1 := by
  obtain ⟨hanswered, hregs, hframe⟩ := callNext_answered h (status := status) (r0 := r0) (r1 := r1) (out := []) hq hroom (KeepsCalls.refl _) (List.append_nil _).symm
  have hregs' := (callTaken_regs (s := s) (q := q) (c := c)).mono (ps := callRegs s q) (by simp [callRegs]) |>.trans hregs
  generalize (s.callTaken q c).callAnswer q status r0 r1 = t at *
  have hframe' : t = { s with regs := t.regs, call := t.call, out := t.out } := by rw [hframe]; rfl
  have hocc : t.occ = s.occ := by rw [hframe']
  rw [State.settle_same hocc] at hexec
  exact Runs.next hexec ⟨hanswered, hregs', hframe'⟩

/-- A Call that waits for its work. -/
theorem callWait_waits {u : State} {w : WaitFor} (hq : q < 16) (hu : KeepsCalls ((s.callTaken q c).callWait q w) u) : CallWaits s u q c w := by
  have hwait : (s.callTaken q c).callWait q w = (s.callTaken q c).setCallQ q { (s.callTaken q c).callQ q with cur := some (c, some w) } := by
    unfold State.callWait
    rw [callTaken_callQ]
  obtain ⟨-, hhead, -, hstatus⟩ := callReg_q hq
  rw [hwait] at hu
  refine ⟨(hu.rd hhead).trans (callTaken_head (c := c)), ?_, ?_⟩
  · rw [hu.rd hstatus]
    exact callTaken_busy (c := c)
  · rw [State.callQ_congr hu.call, State.callQ_setCallQ]

end

end Sys2Proof.Machine
end

section
/-! PROOFS. The Vault's mailbox, roles and Hold, and services asked by a Call (R465 to R467, R470). -/

-- One proof at a time: the text is compiled as one file in bounded memory.
set_option Elab.async false

namespace Sys2Proof.Machine
open Sys2Proof.Claims

/-! ### The mailbox (R467) -/

section
variable {s : State} {v : Word}

theorem vaultMbGo_runs (h : Reach s VLT_MB_CTRL) : exec (.vaultMbGo v) s = .next (s.settle (s.mbWrite v)) :=
  congrArg (fun u => Host.Outcome.next (s.settle u)) (State.hostDo_reach s VLT_MB_CTRL true _ h.1 h.2)

theorem vaultMbGo_keeps (h : Reach s VLT_MB_CTRL) (hno : v.getLsbD 0 = false ∨ (s.rd VLT_MB_CTRL).getLsbD 1 = true) :
    exec (.vaultMbGo v) s = .next (s.setFld VLT_MB_CTRL ⟨7, 2⟩ (bitsOf v.toNat 7 2)) := by
  have hwrite : s.mbWrite v = s.setFld VLT_MB_CTRL ⟨7, 2⟩ (bitsOf v.toNat 7 2) := if_pos (by
    rw [Bool.or_eq_true, Bool.not_eq_true']
    exact hno)
  rw [vaultMbGo_runs h, hwrite]
  exact congrArg Host.Outcome.next (State.settle_same rfl)

/-- SERVICE kept, the bytes of the request stand. -/
theorem mbBytes_service (k : Nat) : (s.setFld VLT_MB_CTRL ⟨7, 2⟩ k).mbBytes ((s.setFld VLT_MB_CTRL ⟨7, 2⟩ k).rd VLT_MB_LEN).toNat = s.mbBytes (s.rd VLT_MB_LEN).toNat := by
  rw [State.rd_setFld_ne _ _ _ (by decide)]
  exact mbBytes_congr fun i _ => State.rd_setFld_ne _ _ _ (by simp only [VLT_MB_DATA, VLT_MB_CTRL]; omega)

/-- GO on a mailbox that is free. -/
theorem mbWrite_go (hgo : v.getLsbD 0 = true) (hfree : (s.rd VLT_MB_CTRL).getLsbD 1 = false) :
    s.mbWrite v =
      let b := s.mbBytes (s.rd VLT_MB_LEN).toNat
      let u := s.setFld VLT_MB_CTRL ⟨7, 2⟩ (bitsOf v.toNat 7 2)
      let esc := bitsOf v.toNat 7 2 == 0x3F
      let code := if esc then leAt b 0 1 else bitsOf v.toNat 7 2
      if (esc && code < 0x40) || !vaultCodes.contains code then u.mbDone 1 0 [] else (u.setFld VLT_MB_CTRL ⟨1, 1⟩ 1).vaultHost ⟨16, code, if esc then b.drop 1 else b⟩ := by
  have hgo' : ¬ (!bitOf v 0 || bitOf (s.rd VLT_MB_CTRL) 1) = true := by
    rw [bitOf, bitOf, hgo, hfree]
    decide
  unfold State.mbWrite
  dsimp only
  rw [if_neg hgo', mbBytes_service]

/-- A request submitted to the Vault. -/
theorem vaultHost_asks {u : State} (r : VReq) : (u.vaultHost r).vault.queue = u.vault.queue ++ [r] ∧ (u.vaultHost r).vault.verify = u.vault.verify ∧
    RegsBut u (u.vaultHost r) vaultShown ∧ u.vaultHost r = { u with regs := (u.vaultHost r).regs, vault := (u.vaultHost r).vault } := by
  refine ⟨?_, ?_, fun o ho => State.setVault_regs _ _ o ho, State.setVault_only _ _⟩
  · unfold State.vaultHost
    dsimp only
    rw [State.setVault_vault]
  · unfold State.vaultHost
    dsimp only
    rw [State.setVault_vault]

theorem vaultMbGo_submits (h : Reach s VLT_MB_CTRL) {r : VReq}
    (hwrite : s.mbWrite v = ((s.setFld VLT_MB_CTRL ⟨7, 2⟩ (bitsOf v.toNat 7 2)).setFld VLT_MB_CTRL ⟨1, 1⟩ 1).vaultHost r) :
    Runs (.vaultMbGo v) s (fun t => t.vault.queue = s.vault.queue ++ [r] ∧ t.vault.verify = s.vault.verify ∧
      (t.rd VLT_MB_CTRL).getLsbD 1 = true ∧ t = { s with regs := t.regs, vault := t.vault }) := by
  have hrun := vaultMbGo_runs (v := v) h
  have hbusy := State.setFld_one (s.setFld VLT_MB_CTRL ⟨7, 2⟩ (bitsOf v.toNat 7 2)) VLT_MB_CTRL 1
  rw [hwrite] at hrun
  generalize hu : (s.setFld VLT_MB_CTRL ⟨7, 2⟩ (bitsOf v.toNat 7 2)).setFld VLT_MB_CTRL ⟨1, 1⟩ 1 = u at *
  have huonly : u = { s with regs := u.regs } := by rw [← hu]; rfl
  obtain ⟨hqueue, hverify, hregs, hframe⟩ := vaultHost_asks (u := u) r
  generalize u.vaultHost r = t at *
  have hocc : t.occ = s.occ := by rw [hframe, huonly]
  have huv : u.vault = s.vault := by rw [huonly]
  rw [State.settle_same hocc] at hrun
  refine Runs.next hrun ⟨by rw [hqueue, huv], by rw [hverify, huv], ?_, by rw [hframe, huonly]⟩
  rw [hregs.rd (by decide)]
  exact hbusy

theorem vaultMbGo_badOpcode (h : Reach s VLT_MB_CTRL) (hwrite : s.mbWrite v = (s.setFld VLT_MB_CTRL ⟨7, 2⟩ (bitsOf v.toNat 7 2)).mbDone 1 0 []) :
    Runs (.vaultMbGo v) s (fun t => (t.rd VLT_MB_CTRL).getLsbD 1 = false ∧ bitsOf (t.rd VLT_MB_CTRL).toNat 15 8 = 1 ∧ t.rd VLT_MB_RESP = 0 ∧
      RegsBut s t [VLT_MB_CTRL.off, VLT_MB_RESP.off] ∧ t = { s with regs := t.regs, freeCtr := t.freeCtr }) := by
  have hrun := vaultMbGo_runs (v := v) h
  rw [hwrite, State.mbDone_eq (by decide)] at hrun
  have hregs : RegsBut s (s.setFld VLT_MB_CTRL ⟨7, 2⟩ (bitsOf v.toNat 7 2)) [VLT_MB_CTRL.off, VLT_MB_RESP.off] := (RegsBut.refl s _).setFld _ _ _
  generalize hu : s.setFld VLT_MB_CTRL ⟨7, 2⟩ (bitsOf v.toNat 7 2) = u at *
  have huonly : u = { s with regs := u.regs } := by rw [← hu]; rfl
  have hput : u.mbPut [] = u := by simp [State.mbPut, State.mbBytes, ceilDiv, bytesWords]
  rw [if_neg (by decide), hput] at hrun
  obtain ⟨hbusy, hst, -, hresp, hend, honly⟩ := State.mbEnd_shows (s := u) (status := 1) (cause := (Config.freeByte u.freeCtr 0).toNat) (n := ([] : List Byte).length) rfl
  generalize u.mbEnd 1 (Config.freeByte u.freeCtr 0).toNat ([] : List Byte).length = x at *
  rw [OnlyRegs] at honly
  have hocc : x.occ = s.occ := by rw [honly, huonly]
  refine Runs.next (hrun.trans (congrArg Host.Outcome.next (State.settle_same (t := x.useFree) hocc))) ⟨hbusy, hst, hresp, (hregs.trans hend).congr, ?_⟩
  rw [honly, huonly]
  rfl

end

theorem mailboxTakesRequests : MailboxTakesRequests := by
  unfold MailboxTakesRequests
  intro v s h
  dsimp only
  refine ⟨vaultMbGo_keeps h, fun hgo hfree => ⟨fun hk hcode => ?_, fun hk hmin hcode => ?_, fun hbad => ?_⟩⟩
  all_goals
    have hwrite := mbWrite_go hgo hfree
    dsimp only at hwrite
  · have hesc : (bitsOf v.toNat 7 2 == 0x3F) = false := beq_eq_false_iff_ne.2 hk
    refine vaultMbGo_submits h (hwrite.trans ?_)
    rw [hesc]
    exact if_neg (by
      rw [if_neg Bool.false_ne_true, List.contains_iff_mem.2 hcode]
      exact Bool.false_ne_true)
  · have hesc : (bitsOf v.toNat 7 2 == 0x3F) = true := beq_iff_eq.2 hk
    refine vaultMbGo_submits h (hwrite.trans ?_)
    rw [hesc]
    refine if_neg ?_
    rw [if_pos rfl, List.contains_iff_mem.2 hcode, decide_eq_false (by omega)]
    exact Bool.false_ne_true
  · refine vaultMbGo_badOpcode h (hwrite.trans (if_pos ?_))
    rw [Bool.or_eq_true, Bool.not_eq_true', ← Bool.not_eq_true, List.contains_iff_mem, Bool.and_eq_true, decide_eq_true_eq]
    rcases hbad with ⟨hk, hcode⟩ | ⟨hk, hbad⟩
    · have hesc : (bitsOf v.toNat 7 2 == 0x3F) = false := beq_eq_false_iff_ne.2 hk
      rw [hesc]
      exact Or.inr hcode
    · have hesc : (bitsOf v.toNat 7 2 == 0x3F) = true := beq_iff_eq.2 hk
      rw [hesc]
      exact hbad.imp (fun h => ⟨rfl, h⟩) id

/-! ### Roles and Hold (R466, R467, R470) -/

/-- A command serves the request of a code, for a role. -/
def ServesCode (s : State) (i : Instr) (code role : Nat) : Prop := ∃ f, exec i s = .next (s.vaultServe code role f)

/-- A command serves the request of a code, for a role, out of Hold alone. -/
def ServesOut (s : State) (i : Instr) (code role : Nat) : Prop := ∃ f, exec i s = .next (s.vaultServeOut code role f)

section
variable {s : State} {i : Instr} {code role : Nat} {r : VReq} {rest : List VReq} {k : SigCheck}

theorem ServesOut.toCode (h : ServesOut s i code role) : ServesCode s i code role := by
  obtain ⟨f, h⟩ := h
  exact ⟨_, h⟩

theorem ServesCode.denied (hi : ServesCode s i code role) (h : AtVault s code r rest) (h0 : role ≠ 0) (h1 : s.pathRole 16 ≠ 1) (h2 : s.pathRole 16 ≠ role) :
    JustServes i s rest s.vault 7 0 [] := by
  obtain ⟨f, hi⟩ := hi
  exact justServes_plain h (hi.trans (congrArg Host.Outcome.next (vaultServe_denied h h0 h1 h2)))

theorem ServesOut.held (hi : ServesOut s i code role) (h : AtVault s code r rest) (h1 : s.pathRole 16 = 1) (hhold : s.vault.hold = true) :
    JustServes i s rest s.vault 3 0x0305 [] := by
  obtain ⟨f, hi⟩ := hi
  exact justServes_plain h (hi.trans (congrArg Host.Outcome.next (vaultServeOut_held h (Or.inr (Or.inl h1)) hhold)))

theorem ServesCode.idle (hi : ServesCode s i code role) (h : s.vault.turn ≠ some false ∨ s.vault.queue = [] ∨ (s.vault.queue = r :: rest ∧ r.code ≠ code)) : exec i s = .next s := by
  obtain ⟨f, hi⟩ := hi
  exact hi.trans (congrArg Host.Outcome.next (vaultServe_idle (serving_none h)))

theorem servesCode_co : ∀ e ∈ [(0x50, Instr.holdClear), (0x20, .mediaKeyImport), (0x21, .mediaKeyDelete), (0x30, .rollbackAdvance), (0x31, .rtcSet), (0x40, .zeroise)],
    ServesCode s e.2 e.1 1 := by
  simp only [List.forall_mem_cons, List.not_mem_nil, false_imp_iff, implies_true, and_true]
  exact ⟨⟨_, rfl⟩, ⟨_, rfl⟩, ⟨_, rfl⟩, ⟨_, rfl⟩, ⟨_, rfl⟩, ⟨_, rfl⟩⟩

theorem servesCode_user : ∀ e ∈ [(0x12, Instr.random), (0x22, .mediaKeyList)], ServesCode s e.2 e.1 2 := by
  simp only [List.forall_mem_cons, List.not_mem_nil, false_imp_iff, implies_true, and_true]
  exact ⟨⟨_, rfl⟩, ⟨_, rfl⟩⟩

theorem servesCode_all : ∀ e ∈ [(0x01, Instr.vaultStatus), (0x02, .vaultSelftest true), (0x03, .authChallenge), (0x04, .authResponse true), (0x05, .logout), (0x10, .quote),
    (0x11, .getCerts), (0x12, .random), (0x20, .mediaKeyImport), (0x21, .mediaKeyDelete), (0x22, .mediaKeyList), (0x30, .rollbackAdvance), (0x31, .rtcSet),
    (0x40, .zeroise), (0x41, .recoveryLoad k 0 []), (0x50, .holdClear)], ∃ role, ServesCode s e.2 e.1 role := by
  simp only [List.forall_mem_cons, List.not_mem_nil, false_imp_iff, implies_true, and_true]
  exact ⟨⟨_, _, rfl⟩, ⟨_, _, rfl⟩, ⟨_, _, rfl⟩, ⟨_, _, rfl⟩, ⟨_, _, rfl⟩, ⟨_, _, rfl⟩, ⟨_, _, rfl⟩, ⟨_, _, rfl⟩, ⟨_, _, rfl⟩, ⟨_, _, rfl⟩, ⟨_, _, rfl⟩, ⟨_, _, rfl⟩, ⟨_, _, rfl⟩,
    ⟨_, _, rfl⟩, ⟨_, _, rfl⟩, ⟨_, _, rfl⟩⟩

theorem servesOut_all : ∀ e ∈ [(0x10, Instr.quote), (0x12, .random), (0x20, .mediaKeyImport), (0x30, .rollbackAdvance)], ∃ role, ServesOut s e.2 e.1 role := by
  simp only [List.forall_mem_cons, List.not_mem_nil, false_imp_iff, implies_true, and_true]
  exact ⟨⟨_, _, rfl⟩, ⟨_, _, rfl⟩, ⟨_, _, rfl⟩, ⟨_, _, rfl⟩⟩

theorem quote_role (hpf : s.vault.pflags / 8 % 2 = 0) : ServesOut s .quote 0x10 2 := by
  refine ⟨fun s r => if r.data.length ≠ 32 then badLength s else let (q, s) := s.quote 0 r.data; { resp := q, s := s }, ?_⟩
  change execQuote s = _
  unfold execQuote
  rw [if_neg (show ¬ s.vault.pflags / 8 % 2 = 1 by omega)]

end

theorem rolesAndHold : RolesAndHold := by
  unfold RolesAndHold
  intro k s r rest
  refine ⟨fun code i hi h h1 => (servesCode_co _ hi).denied h (by decide) h1 h1, fun code i hi h h1 h2 => (servesCode_user _ hi).denied h (by decide) h1 h2,
    fun h hpf h1 h2 => (ServesOut.toCode (quote_role hpf)).denied h (by decide) h1 h2, fun code i hi h h1 hhold => ?_, fun code i hi h => ?_⟩
  · obtain ⟨role, hi⟩ := servesOut_all _ hi
    exact hi.held h h1 hhold
  · obtain ⟨role, hs⟩ := servesCode_all _ hi
    exact hs.idle h

/-! ### Services asked by a Call (R465) -/

theorem KeepsCalls.room {s u : State} {q : Nat} (h : KeepsCalls s u) (hq : q < 16) (hroom : AnswerRoom s q) : AnswerRoom u q := by
  have ha := callAq_lt s q
  obtain ⟨hcfg, hhead, htail, -, -⟩ := callReg_a ha
  obtain ⟨hen, hroom, hopen⟩ := hroom
  unfold AnswerRoom
  dsimp only
  rw [h.callAq hq, State.ansSize, h.rd hcfg, h.rd hhead, h.rd htail]
  refine ⟨hen, hroom, ?_⟩
  rw [State.msixOf, h.call]
  exact hopen

/-- The Answer of a Call that waited, from a state that kept the queues. -/
theorem KeepsCalls.answer {s u : State} {q status r0 r1 : Nat} {c : Call} {w : Option WaitFor} {out : List Out} (h : KeepsCalls s u) (hq : q < 16)
    (hcur : (s.callQ q).cur = some (c, w)) (hstop : (s.callQ q).stop = false) (hroom : AnswerRoom s q) (hns : u.ns = s.ns) (hout : u.out = s.out ++ out) :
    ((u.callAnswer q status r0 r1).callQ q).cur = none ∧ (u.callAnswer q status r0 r1).vault = u.vault ∧ (u.callAnswer q status r0 r1).out =
      s.out ++ out ++ [.hostWrite (s.rd64 (CLL_A_BASE_LO (s.callAq q)) (CLL_A_BASE_HI (s.callAq q)) / 32 * 32 + 32 * (s.rd (CLL_A_TAIL (s.callAq q))).toNat)
        (ansBytes ⟨q, c.tag, status, (s.rd (CLL_Q_HEAD q)).toNat, r0, r1⟩ (s.ansQ (s.callAq q)).phase s.ns), .msix (bitsOf (s.rd (CLL_A_CFG (s.callAq q))).toNat 26 16)] := by
  obtain ⟨hcfg, -, htail, hlo, hhi⟩ := callReg_a (callAq_lt s q)
  obtain ⟨hlout, -, hlcur, -, -, -, hlframe⟩ := callAnswer_left (s := u) (status := status) (r0 := r0) (r1 := r1)
    ((congrArg CallQ.cur (State.callQ_congr h.call q)).trans hcur) ((congrArg CallQ.stop (State.callQ_congr h.call q)).trans hstop) (h.room hq hroom)
  have hphase : u.ansQ (s.callAq q) = s.ansQ (s.callAq q) := by rw [State.ansQ, h.call, State.ansQ]
  rw [h.callAq hq, State.rd64, h.rd hcfg, h.rd htail, h.rd hlo, h.rd hhi, h.rd (callReg_q hq).2.1, hphase, hns, hout] at hlout
  exact ⟨hlcur, by rw [hlframe], hlout⟩

/-- A request taken off the Vault's queue. -/
def State.vaultPopped (s : State) : State :=
  let v := s.vault
  let w := { v with queue := v.queue.tail }
  s.setVault { w with turn := w.next }

section
variable {s : State} {q : Fin 16} {c : Call} {r : VReq} {rest : List VReq} {code role : Nat} {f : State → VReq → Reply}

theorem vaultPopped_shows (hqueue : s.vault.queue = r :: rest) : s.vaultPopped.vault.queue = rest ∧ s.vaultPopped.vault.rtcSec = s.vault.rtcSec ∧
    KeepsCalls s s.vaultPopped ∧ s.vaultPopped = { s with regs := s.vaultPopped.regs, vault := s.vaultPopped.vault } := by
  have honly : s.vaultPopped = { s with regs := s.vaultPopped.regs, vault := s.vaultPopped.vault } := State.setVault_only _ _
  refine ⟨?_, ?_, KeepsCalls.of_regsBut (os := vaultShown) (by rw [honly]) (fun o ho => State.setVault_regs _ _ o ho) fun o ho => ?_, honly⟩
  · unfold State.vaultPopped
    dsimp only
    rw [State.setVault_vault, hqueue]
    rfl
  · unfold State.vaultPopped
    dsimp only
    rw [State.setVault_vault]
  · have := (vaultShown_span (evs := []) _ ho).resolve_right List.not_mem_nil
    unfold CallReg
    omega

theorem vaultServe_call (hturn : s.vault.turn = some false) (hqueue : s.vault.queue = r :: rest) (hcode : r.code = code) :
    s.vaultServe code role f = s.settle ((if role = 0 || s.pathRole r.path = 1 || s.pathRole r.path = role then f s r else { status := 7, s := s } : Reply).give r.path) := by
  have hserving : s.serving code = some r := by
    unfold State.serving
    rw [if_pos hturn, hqueue]
    exact if_pos hcode
  unfold State.vaultServe
  rw [hserving]

/-- A reply that leaves the state as it is goes to the Call. -/
theorem give_call (hpath : r.path = q.val) (status cause : Nat) (resp : List Byte) :
    ({ status := status, cause := cause, resp := resp, s := s } : Reply).give r.path = s.vaultPopped.vaultAnswer q { status := status, cause := cause, resp := resp, s := s } := by
  have hne : ¬ (q.val = 16) := by omega
  rw [hpath]
  exact if_neg hne

theorem vaultAnswer_fails {u : State} {p : Reply} (hcur : (u.callQ q).cur = some (c, some .vault)) (hst : p.status ≠ 0) :
    u.vaultAnswer q p = u.callAnswer q p.status p.cause 1 := by
  unfold State.vaultAnswer
  rw [hcur]
  exact if_pos hst

theorem vaultAnswer_noBuffer {u : State} {p : Reply} (hcur : (u.callQ q).cur = some (c, some .vault)) (hst : p.status = 0) (hresp : p.resp.isEmpty = false)
    (hno : c.dataOk p.resp.length = false) : u.vaultAnswer q p = u.callAnswer q 5 0 1 := by
  unfold State.vaultAnswer
  rw [hcur]
  exact (if_neg (not_not_intro hst)).trans (if_pos (by rw [hresp, hno]; rfl))

theorem vaultAnswer_writes {u : State} {p : Reply} (hcur : (u.callQ q).cur = some (c, some .vault)) (hst : p.status = 0) (hresp : p.resp.isEmpty = false)
    (hok : c.dataOk p.resp.length = true) : ∃ r0, u.vaultAnswer q p = (u.emit (.hostWrite c.addr p.resp)).useFree.callAnswer q 0 r0 1 := by
  unfold State.vaultAnswer
  rw [hcur]
  refine ⟨leNat ((u.emit (.hostWrite c.addr p.resp)).drbg 8).1, (if_neg (not_not_intro hst)).trans ((if_neg (by rw [hresp, hok]; decide)).trans ?_)⟩
  rw [hresp]
  rfl

end

/-- The response of STATUS (R467). -/
def State.statusBytes (s : State) : List Byte :=
  wordBytes (s.rd VLT_STATUS) ++ wordBytes (s.rd VLT_HOLD_CAUSE) ++ leBytes 4 s.vault.lifecycle ++ leBytes 4 s.vault.keys.length

theorem length_statusBytes (s : State) : s.statusBytes.length = 16 := by
  unfold State.statusBytes
  rw [List.length_append, List.length_append, List.length_append, length_wordBytes, length_wordBytes, length_leBytes, length_leBytes]

theorem statusBytes_isEmpty (s : State) : s.statusBytes.isEmpty = false := by
  rw [List.isEmpty_eq_false_iff, ← List.length_pos_iff, length_statusBytes]
  decide

/-- A response written to the host leaves the queues as they are. -/
theorem written_shows {s u : State} {c : Call} {b : List Byte} (h : KeepsCalls s u) : KeepsCalls s (u.emit (.hostWrite c.addr b)).useFree ∧
    (u.emit (.hostWrite c.addr b)).useFree.ns = u.ns ∧ (u.emit (.hostWrite c.addr b)).useFree.vault = u.vault ∧
    (u.emit (.hostWrite c.addr b)).useFree.out = u.out ++ [.hostWrite c.addr b] := ⟨⟨h.call, h.regs⟩, rfl, rfl, rfl⟩

theorem servicesOfCalls : ServicesOfCalls := by
  unfold ServicesOfCalls
  intro q c s r rest hturn hqueue hpath hcur hstop hroom
  dsimp only
  obtain ⟨hrest, hrtc, hkeeps, honly⟩ := vaultPopped_shows hqueue
  have hns : s.vaultPopped.ns = s.ns := by rw [honly]; rfl
  have hout : s.vaultPopped.out = s.out := by rw [honly]
  have hpcur : (s.vaultPopped.callQ q).cur = some (c, some .vault) := (congrArg CallQ.cur (State.callQ_congr hkeeps.call q)).trans hcur
  have hstatus (hcode : r.code = 0x01) : exec .vaultStatus s = .next (s.settle (s.vaultPopped.vaultAnswer q { resp := s.statusBytes, s := s })) := by
    refine congrArg Host.Outcome.next ((vaultServe_call hturn hqueue hcode).trans ?_)
    rw [if_pos (by rw [decide_eq_true rfl, Bool.true_or, Bool.true_or]), ← give_call hpath]
    rfl
  refine ⟨fun hcode haddr hlen => ?_, fun hcode hno => ?_, fun hcode hrole => ?_⟩
  · have hok : c.dataOk s.statusBytes.length = true := by
      rw [length_statusBytes, Call.dataOk, bne_iff_ne.2 haddr, decide_eq_true hlen]
      rfl
    obtain ⟨r0, hans⟩ := vaultAnswer_writes (p := { resp := s.statusBytes, s := s }) hpcur rfl (statusBytes_isEmpty s) hok
    have hrun := hstatus hcode
    rw [hans] at hrun
    obtain ⟨hk, huns, huv, huout⟩ := written_shows (c := c) (b := s.statusBytes) hkeeps
    generalize (s.vaultPopped.emit (.hostWrite c.addr s.statusBytes)).useFree = u at *
    rw [hns] at huns
    rw [hout] at huout
    obtain ⟨htcur, htv, htout⟩ := hk.answer (status := 0) (r0 := r0) (r1 := 1) q.isLt hcur hstop hroom huns huout
    exact Runs.next hrun ⟨(congrArg Vault.queue (htv.trans huv)).trans hrest, htcur, r0, htout⟩
  · have hno' : c.dataOk s.statusBytes.length = false := by
      rw [length_statusBytes, Call.dataOk, Bool.and_eq_false_iff, bne_eq_false_iff_eq, decide_eq_false_iff_not]
      omega
    have hans := vaultAnswer_noBuffer (p := { resp := s.statusBytes, s := s }) hpcur rfl (statusBytes_isEmpty s) hno'
    have hrun := hstatus hcode
    rw [hans] at hrun
    obtain ⟨htcur, htv, htout⟩ := hkeeps.answer (status := 5) (r0 := 0) (r1 := 1) (out := []) q.isLt hcur hstop hroom hns (hout.trans (List.append_nil _).symm)
    rw [List.append_nil] at htout
    exact Runs.next hrun ⟨(congrArg Vault.queue htv).trans hrest, htcur, htout⟩
  · have hrun : exec .rtcSet s = .next (s.settle (s.vaultPopped.vaultAnswer q { status := 7, s := s })) := by
      refine congrArg Host.Outcome.next ((vaultServe_call hturn hqueue hcode).trans ?_)
      rw [if_neg (by rw [hpath, decide_eq_false hrole]; decide), ← give_call hpath]
    rw [vaultAnswer_fails (p := { status := 7, s := s }) hpcur (show 7 ≠ 0 by decide)] at hrun
    obtain ⟨htcur, htv, htout⟩ := hkeeps.answer (status := 7) (r0 := 0) (r1 := 1) (out := []) q.isLt hcur hstop hroom hns (hout.trans (List.append_nil _).symm)
    rw [List.append_nil] at htout
    exact Runs.next hrun ⟨(congrArg Vault.queue htv).trans hrest, (congrArg Vault.rtcSec htv).trans hrtc, htcur, htout⟩

/-- Settles O51, by what the mailbox, a refused service and a Call's service leave. -/
theorem vaultMailbox : Obligations.VaultMailbox := ⟨mailboxTakesRequests, rolesAndHold, servicesOfCalls⟩

end Sys2Proof.Machine
end

section
/-! PROOFS. Calls to the Rig controller and on the time (R59, R67, R133, R137, R140, R444). -/

-- One proof at a time: the text is compiled as one file in bounded memory.
set_option Elab.async false

namespace Sys2Proof.Machine
open Sys2Proof.Claims

/-! ### What any Answer leaves unchanged (R441) -/

/-- Only the queues, their registers, event 777 and what leaves the block change. -/
structure CallOnly (s t : State) : Prop where
  regs : RegsIn (fun o => CallReg o ∨ o ∈ evRegs 777) s t
  frame : t = { s with regs := t.regs, call := t.call, out := t.out, occ := t.occ }

theorem CallOnly.refl (s : State) : CallOnly s s := ⟨RegsIn.refl _ s, rfl⟩

theorem CallOnly.trans {s t u : State} (h : CallOnly s t) (h' : CallOnly t u) : CallOnly s u :=
  ⟨h.regs.trans h'.regs, h'.frame.trans (by rw [h.frame])⟩

theorem CallOnly.wr {s t : State} (h : CallOnly s t) (r : Reg) (v : Word) (hr : CallReg r.off) : CallOnly s (t.wr r v) :=
  h.trans ⟨(RegsIn.refl _ t).wr r v (Or.inl hr), rfl⟩

theorem CallOnly.setFld {s t : State} (h : CallOnly s t) (r : Reg) (f : Fld) (v : Nat) (hr : CallReg r.off) : CallOnly s (t.setFld r f v) := by
  rw [State.setFld_eq]
  exact h.wr r _ hr

theorem CallOnly.setCallQ {s t : State} (h : CallOnly s t) (q : Nat) (x : CallQ) : CallOnly s (t.setCallQ q x) := h.trans ⟨RegsIn.refl _ _, rfl⟩

theorem CallOnly.setAnsQ {s t : State} (h : CallOnly s t) (a : Nat) (x : AnsQ) : CallOnly s (t.setAnsQ a x) := h.trans ⟨RegsIn.refl _ _, rfl⟩

theorem CallOnly.emit {s t : State} (h : CallOnly s t) (o : Out) : CallOnly s (t.emit o) := h.trans ⟨RegsIn.refl _ _, rfl⟩

theorem CallOnly.raise {s t : State} (h : CallOnly s t) (src : Nat) (items : List Word) : CallOnly s (t.raise 777 src items) :=
  h.trans ⟨((RegsBut.refl t (evRegs 777)).raise 777 src items).regsIn fun _ ho => Or.inr ho, rfl⟩

theorem CallOnly.msixSend {s t : State} (h : CallOnly s t) (v : Nat) : CallOnly s (t.msixSend v) := by
  unfold State.msixSend
  dsimp only
  split
  · exact h.trans ⟨RegsIn.refl _ _, rfl⟩
  · exact h.emit _

theorem CallOnly.callEnded {s t : State} (h : CallOnly s t) {q : Nat} (hq : q < 16) : CallOnly s (t.callEnded q) := by
  obtain ⟨-, hhead, htail, hstatus⟩ := callReg_q hq
  unfold State.callEnded State.callClear
  dsimp only
  split
  · exact (((h.setCallQ q _).wr _ _ hhead).wr _ _ htail).setFld _ _ _ hstatus
  · exact (h.setCallQ q _).setFld _ _ _ hstatus

theorem CallOnly.ansPut {s t : State} (h : CallOnly s t) {a : Nat} (ha : a < 16) {e : Answer} (he : e.queue < 16) : CallOnly s (t.ansPut a e) := by
  obtain ⟨-, -, htail, -, -⟩ := callReg_a ha
  have hstatus : CallReg (CLL_A_STATUS a).off := by
    simp only [CallReg, CLL_A_STATUS]
    omega
  unfold State.ansPut
  dsimp only
  split
  · exact h.setAnsQ a _
  · split
    · exact ((h.setAnsQ a _).setFld _ _ _ hstatus).raise _ _
    · split
      · exact ((((h.emit _).wr _ _ htail).setAnsQ a _).msixSend _).callEnded he
      · exact (((h.emit _).wr _ _ htail).msixSend _).callEnded he

theorem callAnswer_only {s : State} {q : Nat} (hq : q < 16) (status r0 r1 : Nat) : CallOnly s (s.callAnswer q status r0 r1) := by
  unfold State.callAnswer
  dsimp only
  split
  · exact ((CallOnly.refl s).setCallQ q _).ansPut (callAq_lt s q) hq
  · exact CallOnly.refl s

/-! ### A Call in hand -/

/-- A state that differs by a Call in hand alone: HEAD and STATUS of its queue, and the queues' own state. -/
structure CallHeld (s : State) (q : Nat) (u : State) : Prop where
  regs : RegsBut s u [(CLL_Q_HEAD q).off, (CLL_Q_STATUS q).off]
  frame : u = { s with regs := u.regs, call := u.call }

section
variable {s u : State} {q : Nat} {c : Call} {w : WaitFor}

theorem callTaken_held : CallHeld s q (s.callTaken q c) := ⟨callTaken_regs, callTaken_frame⟩

theorem CallHeld.setCallQ (h : CallHeld s q u) (x : CallQ) : CallHeld s q (u.setCallQ q x) :=
  ⟨h.regs.congr, (congrArg (fun t : State => t.setCallQ q x) h.frame).trans rfl⟩

theorem callTaken_callWait : (s.callTaken q c).callWait q w = (s.callTaken q c).setCallQ q { s.callQ q with cur := some (c, some w) } := by
  unfold State.callWait
  rw [callTaken_callQ]

theorem callWait_held : CallHeld s q ((s.callTaken q c).callWait q w) := by
  rw [callTaken_callWait]
  exact callTaken_held.setCallQ _

/-- A register of another block is as it was. -/
theorem CallHeld.rd (h : CallHeld s q u) (hq : q < 16) {r : Reg} (hr : r.off < 0x80000 ∨ 0x82000 ≤ r.off) : u.rd r = s.rd r := by
  refine h.regs.rd ?_
  simp only [CLL_Q_HEAD, CLL_Q_STATUS, List.mem_cons, List.not_mem_nil, or_false]
  omega

theorem waits_callTaken (h : waits s w = false) : waits (s.callTaken q c) w = false := by
  refine List.any_eq_false.2 fun k hk => ?_
  have hno := List.any_eq_false.1 h k hk
  by_cases hkq : k = q
  · rw [hkq, callTaken_callQ]
    exact Bool.false_ne_true
  · have hother : (s.callTaken q c).callQ k = s.callQ k := tabGet_set_ne _ _ _ _ hkq
    rw [hother]
    exact hno

end

/-! ### Arguments (R442) -/

section
variable {s : State} {q i j : Nat} {a b : Bool} {f : State → State}

theorem callArgs_one_bad (ha : a = true) : s.callArgs q [(i, a)] f = s.callAnswer q 2 i := by rw [ha]; rfl

theorem callArgs_one_good (ha : a = false) : s.callArgs q [(i, a)] f = f s := by rw [ha]; rfl

theorem callArgs_first_bad (l : List (Nat × Bool)) (ha : a = true) : s.callArgs q ((i, a) :: l) f = s.callAnswer q 2 i := by rw [ha]; rfl

theorem callArgs_first_good (l : List (Nat × Bool)) (ha : a = false) : s.callArgs q ((i, a) :: l) f = s.callArgs q l f := by rw [ha]; rfl

end

/-! ### Calls to the Rig controller -/

/-- A command that finds the controller busy: its refusal (R59, R70). -/
theorem refuseRecord_shows (s : State) (r : Refused) (commit : Bool) (rigId : List Byte) :
    let t := s.refuseRecord r commit false rigId
    Claims.Refusal t r.step r.code r.owner r.detail ∧ t.rigState = s.rigState ∧ KeepsCalls s t ∧ t.out = s.out := by
  dsimp only
  cases commit
  case false =>
    rw [State.refuseRecord_check]
    have honly := State.refuseShown_only s r
    refine ⟨(State.refuseShown_refusal s _).1, State.refuseShown_state s _, ?_, honly.field State.out⟩
    exact KeepsCalls.of_regsBut (honly.field State.call) (State.refuseShown_regs s _) (by unfold CallReg; decide)
  case true =>
    have honly := State.refuseCommit_only s r rigId
    have hrd {q : Reg} (hq : q.off ∉ RIG_REFUSE_CNT.off :: evRegs 17 := by decide) := State.rd_refuseCommit s r rigId hq
    refine ⟨refusal_of_rd (State.refuseShown_refusal s _).1 fun q hq => hrd (by
      simp only [List.mem_cons, List.not_mem_nil, or_false] at hq; rcases hq with rfl | rfl | rfl <;> decide), ?_, ?_, honly.field State.out⟩
    · rw [State.rigState, State.fld, hrd]
      exact State.refuseShown_state s _
    · exact KeepsCalls.of_regsBut (honly.field State.call) (State.refuseCommit_regs s _ rigId) (by unfold CallReg; decide)

section
variable {s : State} {q : Fin 16} {c : Call} {job : RigJob}

/-- CHECK and COMMIT of a Call. -/
theorem callImage_exec {i : Instr} (h : CallNext s q c) (hi : (job = .check ∧ c.op = 0x101 ∧ i = .callRigCheck q) ∨ (job = .commit ∧ c.op = 0x102 ∧ i = .callRigCommit q)) :
    exec i s = .next (s.settle ((s.callTaken q c).callImage q c job)) := by
  rcases hi with ⟨rfl, hop, rfl⟩ | ⟨rfl, hop, rfl⟩
  · exact congrArg Host.Outcome.next (callRun_taken h hop)
  · exact congrArg Host.Outcome.next (callRun_taken h hop)

theorem callImage_good {u : State} (ha : c.arg 0 % 64 = 0) (hn : c.arg 1 < 4294967296) (hspan : c.arg 0 + c.arg 1 ≤ u.g7Open) :
    u.callImage q c job = u.callRig q (fun s =>
      let s := if s.rigBusy then s else ((s.wr RIG_IMG_ADDR_LO (w32 (c.arg 0))).wr RIG_IMG_ADDR_HI (w32 (c.arg 0 / 4294967296))).wr RIG_IMG_LEN (w32 (c.arg 1))
      s.rigStart job) := by
  have hspan' : ¬ (!u.g7Span (c.arg 0) (c.arg 1)) = true := by
    rw [State.g7Span, decide_eq_true hspan]
    decide
  exact (if_neg (not_not_intro ha)).trans ((if_neg (by omega)).trans (if_neg hspan'))

theorem g7Open_held {u : State} (hu : CallHeld s q u) : u.g7Open = s.g7Open := by
  have hcap : u.rd G7_TRAINED_CAP = s.rd G7_TRAINED_CAP := hu.rd q.isLt (Or.inr (by decide))
  unfold State.g7Open
  rw [hcap]

theorem rigBusy_held {u : State} (hu : CallHeld s q u) : u.rigState = s.rigState ∧ u.resetting = s.resetting ∧ u.rigBusy = s.rigBusy := by
  have hstate : u.rigState = s.rigState := by rw [State.rigState, State.rigState, State.fld, State.fld, hu.rd q.isLt (Or.inr (by decide))]
  have hreset : u.resetting = s.resetting := by rw [State.resetting, State.resetting, hu.frame]
  exact ⟨hstate, hreset, by rw [State.rigBusy, State.rigBusy, hstate, hreset]⟩

/-- The image's place in its registers, and the controller at work on it. -/
def State.imageGiven (s : State) (c : Call) : State :=
  ((s.wr RIG_IMG_ADDR_LO (w32 (c.arg 0))).wr RIG_IMG_ADDR_HI (w32 (c.arg 0 / 4294967296))).wr RIG_IMG_LEN (w32 (c.arg 1))

theorem imageGiven_starts {u : State} (hstate : u.rigState = 0) (hreset : u.resetting = false) (hjob : job = .check ∨ u.rig.everFull = true) :
    (u.imageGiven c).rigStart job = (u.imageGiven c).rigStarted job := by
  have hregs : RegsBut u (u.imageGiven c) [RIG_IMG_ADDR_LO.off, RIG_IMG_ADDR_HI.off, RIG_IMG_LEN.off] := (((RegsBut.refl u _).wr _ _).wr _ _).wr _ _
  have hstate' : (u.imageGiven c).rigState = 0 := (State.rigState_regs hregs).trans hstate
  refine (State.rigStart_free job hstate' hreset).trans (if_neg ?_)
  rcases hjob with rfl | hfull
  · rw [show (RigJob.check == RigJob.commit) = false from rfl, Bool.false_and, Bool.false_and, Bool.false_and]
    exact Bool.false_ne_true
  · have hfull' : (u.imageGiven c).rig.everFull = true := hfull
    rw [hfull', Bool.not_true, Bool.and_false, Bool.false_and, Bool.false_and]
    exact Bool.false_ne_true

theorem callImage_starts {i : Instr} (hexec : exec i s = .next (s.settle ((s.callTaken q c).callImage q c job)))
    (ha : c.arg 0 % 64 = 0) (hn : c.arg 1 < 4294967296) (hspan : c.arg 0 + c.arg 1 ≤ s.g7Open) (hstate : s.rigState = 0) (hreset : s.resetting = false)
    (hjob : job = .check ∨ s.rig.everFull = true) :
    Runs i s (fun t => CallWaits s t q c .rig ∧ t.rigState = 1 ∧ t.rig.job = some job ∧ t.rd RIG_IMG_ADDR_LO = w32 (c.arg 0) ∧
      t.rd RIG_IMG_ADDR_HI = w32 (c.arg 0 / 4294967296) ∧ t.rd RIG_IMG_LEN = w32 (c.arg 1) ∧
      RegsBut s t [(CLL_Q_HEAD q).off, (CLL_Q_STATUS q).off, RIG_IMG_ADDR_LO.off, RIG_IMG_ADDR_HI.off, RIG_IMG_LEN.off, RIG_STATUS.off] ∧
      t = { s with regs := t.regs, call := t.call, rig := t.rig }) := by
  have hheld := callTaken_held (s := s) (q := q) (c := c)
  have hwheld := callWait_held (s := s) (q := q) (c := c) (w := .rig)
  obtain ⟨hst, hre, hbusy⟩ := rigBusy_held hheld
  obtain ⟨hwst, hwre, hwbusy⟩ := rigBusy_held hwheld
  have hfree : s.rigBusy = false := by rw [State.rigBusy, hstate, hreset]; rfl
  rw [callImage_good ha hn (by rw [g7Open_held hheld]; exact hspan), State.callRig, if_neg (by rw [hbusy, hfree]; exact Bool.false_ne_true)] at hexec
  dsimp only at hexec
  rw [if_neg (by rw [hwbusy, hfree]; exact Bool.false_ne_true)] at hexec
  have hwaits := fun u hu => callWait_waits (s := s) (q := q) (c := c) (u := u) (w := .rig) q.isLt hu
  generalize (s.callTaken q c).callWait q .rig = v at *
  have hfull : job = .check ∨ v.rig.everFull = true := hjob.imp id fun hf => by rw [hwheld.frame]; exact hf
  have hstart := imageGiven_starts (c := c) (hwst.trans hstate) (hwre.trans hreset) hfull
  change exec i s = .next (s.settle ((v.imageGiven c).rigStart job)) at hexec
  rw [hstart] at hexec
  have hgiven : RegsBut v (v.imageGiven c) [RIG_IMG_ADDR_LO.off, RIG_IMG_ADDR_HI.off, RIG_IMG_LEN.off, RIG_STATUS.off] :=
    (((RegsBut.refl v _).wr _ _).wr _ _).wr _ _
  have hregs : RegsBut v ((v.imageGiven c).rigStarted job) [RIG_IMG_ADDR_LO.off, RIG_IMG_ADDR_HI.off, RIG_IMG_LEN.off, RIG_STATUS.off] :=
    RegsBut.setFld (RegsBut.congr hgiven) RIG_STATUS _ _
  have hocc : ((v.imageGiven c).rigStarted job).occ = s.occ := by
    change v.occ = s.occ
    rw [hwheld.frame]
  have hrd {r : Reg} (hr : r.off ≠ RIG_STATUS.off) : ((v.imageGiven c).rigStarted job).rd r = (v.imageGiven c).rd r := State.rd_setFld_ne _ _ _ hr
  refine Runs.next (hexec.trans (congrArg Host.Outcome.next (State.settle_same hocc))) ⟨hwaits _ ⟨rfl, hregs.regsIn (by unfold CallReg; decide)⟩,
    State.rigState_setRigState _ (by decide), rfl, ?_, ?_, ?_, ?_, ?_⟩
  · rw [hrd (by decide), State.imageGiven, State.rd_wr_ne _ _ (by decide), State.rd_wr_ne _ _ (by decide), State.rd_wr_self]
  · rw [hrd (by decide), State.imageGiven, State.rd_wr_ne _ _ (by decide), State.rd_wr_self]
  · rw [hrd (by decide), State.imageGiven, State.rd_wr_self]
  · exact (hwheld.regs.mono (by simp)).trans (hregs.mono (by simp))
  · have hframe : (v.imageGiven c).rigStarted job = { v with regs := ((v.imageGiven c).rigStarted job).regs, rig := ((v.imageGiven c).rigStarted job).rig } := rfl
    generalize (v.imageGiven c).rigStarted job = t at *
    rw [hframe, hwheld.frame]

theorem callImage_busy {i : Instr} (h : CallNext s q c) (hexec : exec i s = .next (s.settle ((s.callTaken q c).callImage q c job))) (hroom : AnswerRoom s q)
    (ha : c.arg 0 % 64 = 0) (hn : c.arg 1 < 4294967296) (hspan : c.arg 0 + c.arg 1 ≤ s.g7Open) (hstate : s.rigState ≠ 0) :
    Runs i s (fun t => Answered s t q c 3 0x0503 0 [] ∧ Claims.Refusal t 0 0x0503 0 0xFFFF1FFF ∧ t.rigState = s.rigState) := by
  have hheld := callTaken_held (s := s) (q := q) (c := c)
  obtain ⟨hst, -, hbusy⟩ := rigBusy_held hheld
  have hisBusy : (s.callTaken q c).rigBusy = true := by
    rw [hbusy, State.rigBusy, bne_iff_ne.2 hstate]
    rfl
  have hout : (s.callTaken q c).out = s.out := rfl
  have hanswer := fun u out hu ho => callNext_answered (status := 3) (r0 := 0x0503) (r1 := 0) (u := u) (out := out) h q.isLt hroom hu ho
  rw [callImage_good ha hn (by rw [g7Open_held hheld]; exact hspan), State.callRig, if_pos hisBusy] at hexec
  dsimp only at hexec
  rw [if_pos hisBusy, State.rigStart_busy job (by rw [hst]; exact hstate)] at hexec
  generalize s.callTaken q c = a at *
  obtain ⟨hrefusal, hst', hkeeps, hout'⟩ := refuseRecord_shows a ⟨0, 0x0503, 0, 0xFFFF1FFF⟩ (job == .commit) (sliceAt (a.rigSource 64) 0x20 16)
  generalize a.refuseRecord ⟨0, 0x0503, 0, 0xFFFF1FFF⟩ (job == .commit) false (sliceAt (a.rigSource 64) 0x20 16) = u at *
  have howner : u.rd RIG_REFUSAL_OWNER = 0 := hrefusal.2.1
  rw [howner] at hexec
  obtain ⟨hanswered, -, -⟩ := hanswer u [] hkeeps (hout'.trans (hout.trans (List.append_nil _).symm))
  have honly := callAnswer_only (s := u) q.isLt 3 0x0503 0
  have hexec' : exec i s = .next (s.settle (u.callAnswer q 3 0x0503)) := hexec
  generalize u.callAnswer q 3 0x0503 = t at *
  have hrd {r : Reg} (hr : ¬ (CallReg r.off ∨ r.off ∈ evRegs 777)) : t.rd r = u.rd r := honly.regs.rd hr
  refine Runs.next hexec' ⟨hanswered, ?_, ?_⟩
  · refine refusal_of_rd (t := u) (u := s.settle t) hrefusal fun r hr => hrd ?_
    simp only [List.mem_cons, List.not_mem_nil, or_false] at hr
    rcases hr with rfl | rfl | rfl
    · unfold CallReg; decide
    · unfold CallReg; decide
    · unfold CallReg; decide
  · have hsame : t.rd RIG_STATUS = u.rd RIG_STATUS := hrd (by unfold CallReg; decide)
    exact (congrArg RIG_STATUS_STATE.get hsame).trans (hst'.trans hst)

/-- A REPAIR that is accepted: the controller holds the Eight (R67). -/
theorem rigRepair_holds {v : State} {e p : Nat} (he : e < 32) (hp : p < 8) (hbusy : v.rigBusy = false) (hspare : v.spareGone e = false)
    (hseat : ∃ l, l < 8 ∧ v.physSeat e l = p) (hrunning : v.running (0x0100 + e) = true) (hno : v.refusedBlk (0x0100 + e) = false) :
    let t := v.rigRepair e p
    t.rigState = 3 ∧ t.rig.job = some .repair ∧ t.rig.repair = (e, p) ∧ (t.blkOf (0x0100 + e)).holdRig = true ∧ RegsBut v t [RIG_STATUS.off] ∧
      t = { v with regs := t.regs, rig := t.rig, blk := t.blk } := by
  have hany : (!(List.range 8).any fun l => (v.repairJob e p).physSeat e l == p) = false := by
    obtain ⟨l, hl, hls⟩ := hseat
    rw [Bool.not_eq_false']
    exact List.any_eq_true.2 ⟨l, List.mem_range.2 hl, beq_iff_eq.2 hls⟩
  have hspare' : (v.repairJob e p).spareGone e = false := hspare
  have henter : v.rigRepair e p = (v.repairJob e p).holdEnter [0x0100 + e] := by
    rw [State.rigRepair_free he hp hbusy, hspare', hany, if_neg Bool.false_ne_true, if_neg Bool.false_ne_true]
  obtain ⟨hst, hrig, hhold, hregs, hframe⟩ := State.holdEnter_eight (u := v.repairJob e p) he hrunning hno
  dsimp only
  rw [henter]
  generalize (v.repairJob e p).holdEnter [0x0100 + e] = t at *
  exact ⟨hst, by rw [hrig]; rfl, by rw [hrig]; rfl, hhold, hregs, hframe.trans rfl⟩

theorem callRigRepair_exec (h : CallNext s q c) (hop : c.op = 0x104) : exec (.callRigRepair q) s =
    .next (s.settle ((s.callTaken q c).callArgs q [(0, decide (31 < c.arg 0)), (1, decide (7 < c.arg 1))] (fun s => s.callRig q (·.rigRepair (c.arg 0) (c.arg 1))))) :=
  congrArg Host.Outcome.next (callRun_taken h hop)

theorem callRigRepair_waits (h : CallNext s q c) (hop : c.op = 0x104) (he : c.arg 0 < 32) (hp : c.arg 1 < 8) (hbusy : s.rigBusy = false)
    (hspare : s.spareGone (c.arg 0) = false) (hseat : ∃ l, l < 8 ∧ s.physSeat (c.arg 0) l = c.arg 1) (hrunning : s.running (0x0100 + c.arg 0) = true)
    (hno : s.refusedBlk (0x0100 + c.arg 0) = false) : Runs (.callRigRepair q) s (fun t =>
      CallWaits s t q c .rig ∧ t.rigState = 3 ∧ t.rig.job = some .repair ∧ t.rig.repair = (c.arg 0, c.arg 1) ∧
      (t.blkOf (0x0100 + c.arg 0)).holdRig = true ∧ t = { s with regs := t.regs, call := t.call, rig := t.rig, blk := t.blk }) := by
  have hexec := callRigRepair_exec h hop
  obtain ⟨-, -, hbusyT⟩ := rigBusy_held (callTaken_held (s := s) (q := q) (c := c))
  have hheld := callWait_held (s := s) (q := q) (c := c) (w := .rig)
  obtain ⟨-, -, hbusyV⟩ := rigBusy_held hheld
  rw [callArgs_first_good _ (decide_eq_false (by omega)), callArgs_one_good (decide_eq_false (by omega)), State.callRig,
    if_neg (by rw [hbusyT, hbusy]; exact Bool.false_ne_true)] at hexec
  have hwaits := fun u hu => callWait_waits (s := s) (q := q) (c := c) (u := u) (w := .rig) q.isLt hu
  generalize (s.callTaken q c).callWait q .rig = v at *
  have hmap : v.rd (EGT_SEAT_MAP (c.arg 0)) = s.rd (EGT_SEAT_MAP (c.arg 0)) := hheld.rd q.isLt (Or.inr (by simp only [EGT_SEAT_MAP]; omega))
  have hseats : v.rd (EGT_SEAT_STATE (c.arg 0)) = s.rd (EGT_SEAT_STATE (c.arg 0)) := hheld.rd q.isLt (Or.inr (by simp only [EGT_SEAT_STATE]; omega))
  have hphys (l : Nat) : v.physSeat (c.arg 0) l = s.physSeat (c.arg 0) l := by rw [State.physSeat, State.physSeat, hmap]
  have hspareV : v.spareGone (c.arg 0) = s.spareGone (c.arg 0) := by simp only [State.spareGone, hphys, hseats]
  have hnoV : v.refusedBlk (0x0100 + c.arg 0) = s.refusedBlk (0x0100 + c.arg 0) := by
    refine State.refusedBlk_congr hheld.regs (fun r hr => ?_) (by rw [hheld.frame]) _
    simp only [UMP_S_ID, CLL_Q_HEAD, CLL_Q_STATUS, List.mem_cons, List.not_mem_nil, or_false]
    omega
  have hrunV : v.running (0x0100 + c.arg 0) = true := by
    rw [hheld.frame]
    exact hrunning
  obtain ⟨hst, hjob, hrep, hhold, hregs, hframe⟩ := rigRepair_holds he hp (hbusyV.trans hbusy) (hspareV.trans hspare)
    (hseat.imp fun l hl => ⟨hl.1, (hphys l).trans hl.2⟩) hrunV (hnoV.trans hno)
  generalize v.rigRepair (c.arg 0) (c.arg 1) = t at *
  have hocc : t.occ = s.occ := by rw [hframe, hheld.frame]
  have hcall : t.call = v.call := by rw [hframe]
  refine Runs.next (hexec.trans (congrArg Host.Outcome.next (State.settle_same hocc))) ⟨hwaits t ⟨hcall, hregs.regsIn (by unfold CallReg; decide)⟩, hst, hjob, hrep, hhold, ?_⟩
  rw [hframe, hheld.frame]

theorem callRigAbort_exec (h : CallNext s q c) (hop : c.op = 0x103) : exec (.callRigAbort q) s = .next (s.settle ((s.callTaken q c).rigAbort.callAnswer q 0)) :=
  congrArg Host.Outcome.next (callRun_taken h hop)

theorem callRigAbort_refuses (h : CallNext s q c) (hop : c.op = 0x103) (hstate : s.rigState = 3) (hjob : s.rig.job = some .commit) (hfull : s.rig.everFull = true)
    (hcox : s.rig.coxJob = false) (hwait : NothingWaits s) (htype : ∀ b, b ∈ s.rig.listed → bidType b ≠ 0x0F) : Runs (.callRigAbort q) s (fun t =>
      Claims.Refusal t 8 0x0504 0 0xFFFF1FFF ∧ t.rigState = 0 ∧ t.rig.job = none ∧ t.rig.sections = s.rig.sections) := by
  have hexec := callRigAbort_exec h hop
  have hheld := callTaken_held (s := s) (q := q) (c := c)
  obtain ⟨hst, -, -⟩ := rigBusy_held hheld
  obtain ⟨hnocox, hnoreset, hnocall⟩ := hwait
  have hwaitT : NothingWaits (s.callTaken q c) := ⟨hnocox, hnoreset, waits_callTaken hnocall⟩
  have hrig : (s.callTaken q c).rig = s.rig := rfl
  generalize s.callTaken q c = a at *
  rw [← hrig] at hjob hfull hcox htype
  obtain ⟨hrefusal, hst', hj, hsec, -, -⟩ :=
    rigRefuse_holding_shows (r := ⟨8, 0x0504, 0, 0xFFFF1FFF⟩) (hst.trans hstate) hjob hfull hcox hwaitT (show (0x0504 : Nat) ≠ 0x0103 by decide) htype
  rw [State.rigAbort, if_pos (hst.trans hstate)] at hexec
  generalize a.rigRefuse ⟨8, 0x0504, 0, 0xFFFF1FFF⟩ = u at *
  have honly := callAnswer_only (s := u) q.isLt 0 0 0
  have hrun : exec (.callRigAbort q) s = .next (s.settle (u.callAnswer q 0)) := hexec
  generalize u.callAnswer q 0 = t at *
  have hrd {r : Reg} (hr : ¬ (CallReg r.off ∨ r.off ∈ evRegs 777)) : t.rd r = u.rd r := honly.regs.rd hr
  have htrig : t.rig = u.rig := by rw [honly.frame]
  have hsame : t.rd RIG_STATUS = u.rd RIG_STATUS := hrd (by unfold CallReg; decide)
  refine Runs.next hrun ⟨?_, (congrArg RIG_STATUS_STATE.get hsame).trans hst', (congrArg Rig.job htrig).trans hj,
    (congrArg Rig.sections htrig).trans (hsec.trans (congrArg Rig.sections hrig))⟩
  refine refusal_of_rd (t := u) (u := s.settle t) hrefusal fun r hr => hrd ?_
  simp only [List.mem_cons, List.not_mem_nil, or_false] at hr
  rcases hr with rfl | rfl | rfl
  · unfold CallReg; decide
  · unfold CallReg; decide
  · unfold CallReg; decide

end

theorem rigCalls : RigCalls := by
  unfold RigCalls
  intro q c s h
  dsimp only
  refine ⟨fun hop ha hn hspan hst hre => callImage_starts (callImage_exec h (Or.inl ⟨rfl, hop, rfl⟩)) ha hn hspan hst hre (Or.inl rfl),
    fun hop ha hn hspan hst hre hfull => callImage_starts (callImage_exec h (Or.inr ⟨rfl, hop, rfl⟩)) ha hn hspan hst hre (Or.inr hfull),
    fun i hi hroom => ?_, fun hop hroom hst => ?_, fun hop hst hjob hfull hcox hwait htype => callRigAbort_refuses h hop hst hjob hfull hcox hwait htype,
    fun hop hroom ha => ?_, fun hop hroom ha hb => ?_,
    fun hop he hp hbusy hspare hseat hrun hno => callRigRepair_waits h hop he hp hbusy hspare hseat hrun hno⟩
  · obtain ⟨job, hexec⟩ : ∃ job, exec i s = .next (s.settle ((s.callTaken q c).callImage q c job)) := by
      rcases hi with ⟨hop, hi⟩ | ⟨hop, hi⟩
      · exact ⟨.check, callImage_exec h (Or.inl ⟨rfl, hop, hi⟩)⟩
      · exact ⟨.commit, callImage_exec h (Or.inr ⟨rfl, hop, hi⟩)⟩
    refine ⟨fun ha => ?_, fun ha hn => ?_, fun ha hn hspan => ?_, fun ha hn hspan hst => callImage_busy h hexec hroom ha hn hspan hst⟩
    · rw [State.callImage, if_pos ha] at hexec
      exact callNext_justAnswers h q.isLt hroom hexec
    · rw [State.callImage, if_neg (not_not_intro ha), if_pos hn] at hexec
      exact callNext_justAnswers h q.isLt hroom hexec
    · have hno : (!(s.callTaken q c).g7Span (c.arg 0) (c.arg 1)) = true := by
        rw [State.g7Span, g7Open_held callTaken_held, decide_eq_false (by omega)]
        rfl
      rw [State.callImage, if_neg (not_not_intro ha), if_neg (by omega), if_pos hno] at hexec
      exact callNext_justAnswers h q.isLt hroom hexec
  · have hexec := callRigAbort_exec h hop
    rw [State.rigAbort, if_neg (by rw [(rigBusy_held callTaken_held).1]; exact hst)] at hexec
    exact callNext_justAnswers h q.isLt hroom hexec
  · have hexec := callRigRepair_exec h hop
    rw [callArgs_first_bad _ (decide_eq_true ha)] at hexec
    exact callNext_justAnswers h q.isLt hroom hexec
  · have hexec := callRigRepair_exec h hop
    rw [callArgs_first_good _ (decide_eq_false (by omega)), callArgs_one_bad (decide_eq_true hb)] at hexec
    exact callNext_justAnswers h q.isLt hroom hexec

/-! ### Calls on the time (R133, R137, R140) -/

/-- TB1 as it stands depends on the timebases and TB1's registers alone. -/
theorem tb1Now_congr {s u : State} (hstk : u.stk = s.stk) (htb0 : u.tb0 = s.tb0) (hticks : u.ticks = s.ticks)
    (hrd : ∀ r ∈ [STK_TB1_CTRL, STK_TB1_LINES, STK_TB1_PERIOD_NS, STK_TB1_PERIOD_FRAC], u.rd r = s.rd r) : u.tb1Now = s.tb1Now := by
  simp only [List.forall_mem_cons, List.not_mem_nil, false_imp_iff, implies_true, and_true] at hrd
  obtain ⟨hctrl, hlines, hns, hfrac⟩ := hrd
  have hl : u.tb1Lines = s.tb1Lines := by rw [State.tb1Lines, State.tb1Lines, State.fld, State.fld, hlines]
  have hm : u.tb1Mode = s.tb1Mode := by rw [State.tb1Mode, State.tb1Mode, State.fld, State.fld, hctrl]
  have hp : u.tb1PeriodQ32 = s.tb1PeriodQ32 := by rw [State.tb1PeriodQ32, State.tb1PeriodQ32, hns, hfrac]
  have hline : u.tb1FrameLine = s.tb1FrameLine := by
    unfold State.tb1FrameLine
    rw [hl, hm, hp, hstk, htb0, hticks]
  unfold State.tb1Now
  rw [hline]

theorem tb3Now_congr {s u : State} (hstk : u.stk = s.stk) (hticks : u.ticks = s.ticks) (hrd : u.rd STK_TB3_CTRL = s.rd STK_TB3_CTRL) : u.tb3Now = s.tb3Now := by
  unfold State.tb3Now State.fld
  rw [hstk, hticks, hrd]

/-- The registers of a snapshot (R140). -/
def snapRegs : List Nat := [STK_SNAP_FRAC.off, STK_SNAP_TB1.off, STK_SNAP_TB3.off, STK_SNAP_STEPS.off]

theorem snapshot_shows (s : State) : s.snapshot.rd STK_SNAP_FRAC = s.frac ∧ s.snapshot.rd STK_SNAP_TB1 = s.tb1Now ∧ s.snapshot.rd STK_SNAP_TB3 = s.tb3Now ∧
    s.snapshot.rd STK_SNAP_STEPS = w32 s.stk.steps ∧ RegsBut s s.snapshot snapRegs ∧ OnlyRegs s s.snapshot := by
  have hwr (u : State) (r : Reg) (a : Word) (hr : r.off ≠ STK_SNAP_STEPS.off) : (u.wr STK_SNAP_STEPS a).rd r = u.rd r := State.rd_wr_ne _ _ hr
  have hregs : RegsBut s s.snapshot snapRegs :=
    ((((RegsBut.refl s snapRegs).wr STK_SNAP_FRAC _ (by decide)).wr STK_SNAP_TB1 _ (by decide)).wr STK_SNAP_TB3 _ (by decide)).wr STK_SNAP_STEPS _ (by decide)
  have honly : OnlyRegs s s.snapshot := ((((OnlyRegs.refl s).wr STK_SNAP_FRAC _).wr STK_SNAP_TB1 _).wr STK_SNAP_TB3 _).wr STK_SNAP_STEPS _
  have hsnap : s.snapshot = (((s.wr STK_SNAP_FRAC s.frac).wr STK_SNAP_TB1 s.tb1Now).wr STK_SNAP_TB3 s.tb3Now).wr STK_SNAP_STEPS (w32 s.stk.steps) := rfl
  refine ⟨?_, ?_, ?_, ?_, hregs, honly⟩
  · rw [hsnap, hwr _ _ _ (by decide), State.rd_wr_ne _ _ (by decide), State.rd_wr_ne _ _ (by decide), State.rd_wr_self]
  · rw [hsnap, hwr _ _ _ (by decide), State.rd_wr_ne _ _ (by decide), State.rd_wr_self]
  · rw [hsnap, hwr _ _ _ (by decide), State.rd_wr_self]
  · rw [hsnap, State.rd_wr_self]

/-- TB1's registers that its time depends on, and TB3's. -/
def tbNowRegs : List Nat := [STK_TB1_CTRL.off, STK_TB1_LINES.off, STK_TB1_PERIOD_NS.off, STK_TB1_PERIOD_FRAC.off, STK_TB3_CTRL.off]

/-- The time stands while only registers of other uses change. -/
theorem tbNow_regs {s u : State} {os : List Nat} (hregs : RegsBut s u os) (hos : ∀ o ∈ tbNowRegs, o ∉ os) (hstk : u.stk = s.stk) (htb0 : u.tb0 = s.tb0) (hticks : u.ticks = s.ticks) :
    u.ns = s.ns ∧ u.frac = s.frac ∧ u.tb1Now = s.tb1Now ∧ u.tb3Now = s.tb3Now := by
  have hrd (r : Reg) (hr : r.off ∈ tbNowRegs) : u.rd r = s.rd r := hregs.rd (hos _ hr)
  refine ⟨by rw [State.ns, State.ns, htb0], by rw [State.frac, State.frac, htb0], tb1Now_congr hstk htb0 hticks fun r hr => hrd r ?_,
    tb3Now_congr hstk hticks (hrd _ (by decide))⟩
  simp only [List.mem_cons, List.not_mem_nil, or_false] at hr
  rcases hr with rfl | rfl | rfl | rfl
  · decide
  · decide
  · decide
  · decide

section
variable {s : State} {q : Fin 16} {c : Call}

theorem callTimeRead_answers (h : CallNext s q c) (hroom : AnswerRoom s q) (hop : c.op = 0x301) : Runs (.callTimeRead q) s (fun t =>
      Answered s t q c 0 (s.ns.toNat + 4294967296 * bitsOf s.frac.toNat 31 24 + 281474976710656 * (s.stk.steps % 65536)) (s.tb1Now.toNat + 4294967296 * s.tb3Now.toNat) [] ∧
      t.rd STK_SNAP_FRAC = s.frac ∧ t.rd STK_SNAP_TB1 = s.tb1Now ∧ t.rd STK_SNAP_TB3 = s.tb3Now ∧ t.rd STK_SNAP_STEPS = w32 s.stk.steps ∧
      RegsBut s t (STK_SNAP_FRAC.off :: STK_SNAP_TB1.off :: STK_SNAP_TB3.off :: STK_SNAP_STEPS.off :: callRegs s q) ∧
      t = { s with regs := t.regs, call := t.call, out := t.out }) := by
  have hexec : exec (.callTimeRead q) s = .next (s.settle ((s.callTaken q c).snapshot.callAnswer q 0
      ((s.callTaken q c).snapshot.ns.toNat + 4294967296 * bitsOf (s.callTaken q c).snapshot.frac.toNat 31 24 +
        281474976710656 * ((s.callTaken q c).snapshot.stk.steps % 65536))
      ((s.callTaken q c).snapshot.tb1Now.toNat + 4294967296 * (s.callTaken q c).snapshot.tb3Now.toNat))) :=
    congrArg Host.Outcome.next (callRun_taken h hop)
  have hheld := callTaken_held (s := s) (q := q) (c := c)
  have hanswer := fun u r0 r1 hu ho => callNext_answered (status := 0) (r0 := r0) (r1 := r1) (u := u) (out := []) h q.isLt hroom hu ho
  generalize s.callTaken q c = a at *
  obtain ⟨hfrac, htb1, htb3, hsteps, hregs, honly⟩ := snapshot_shows a
  have hafields : a.stk = s.stk ∧ a.tb0 = s.tb0 ∧ a.ticks = s.ticks ∧ a.out = s.out := by
    rw [hheld.frame]
    exact ⟨rfl, rfl, rfl, rfl⟩
  obtain ⟨hastk, hatb0, haticks, haout⟩ := hafields
  obtain ⟨hans, hafrac, hatb1, hatb3⟩ := tbNow_regs hheld.regs (fun o ho => by
    simp only [tbNowRegs, List.mem_cons, List.not_mem_nil, or_false] at ho
    simp only [CLL_Q_HEAD, CLL_Q_STATUS, List.mem_cons, List.not_mem_nil, or_false]
    rcases ho with rfl | rfl | rfl | rfl | rfl <;> simp only [STK_TB1_CTRL, STK_TB1_LINES, STK_TB1_PERIOD_NS, STK_TB1_PERIOD_FRAC, STK_TB3_CTRL] <;> omega) hastk hatb0 haticks
  have hstk : a.snapshot.stk = a.stk := honly.field State.stk
  obtain ⟨hsns, hsfrac, hstb1, hstb3⟩ := tbNow_regs hregs (by decide) hstk (honly.field State.tb0) (honly.field State.ticks)
  rw [hsns, hsfrac, hstb1, hstb3, hans, hafrac, hatb1, hatb3, hstk, hastk] at hexec
  rw [hafrac] at hfrac
  rw [hatb1] at htb1
  rw [hatb3] at htb3
  rw [hastk] at hsteps
  have hout : a.snapshot.out = s.out ++ [] := (honly.field State.out).trans (haout.trans (List.append_nil _).symm)
  have hkeeps : KeepsCalls a a.snapshot := KeepsCalls.of_regsBut (honly.field State.call) hregs (by unfold CallReg; decide)
  rw [OnlyRegs] at honly
  generalize a.snapshot = u at *
  obtain ⟨hanswered, htregs, hframe⟩ := hanswer u (s.ns.toNat + 4294967296 * bitsOf s.frac.toNat 31 24 + 281474976710656 * (s.stk.steps % 65536))
    (s.tb1Now.toNat + 4294967296 * s.tb3Now.toNat) hkeeps hout
  generalize u.callAnswer q 0 (s.ns.toNat + 4294967296 * bitsOf s.frac.toNat 31 24 + 281474976710656 * (s.stk.steps % 65536))
    (s.tb1Now.toNat + 4294967296 * s.tb3Now.toNat) = t at *
  have hframe' : t = { s with regs := t.regs, call := t.call, out := t.out } := by rw [hframe, honly, hheld.frame]
  have hocc : t.occ = s.occ := by rw [hframe']
  have hrd (r : Reg) (hr : r.off ∈ snapRegs) : t.rd r = u.rd r := htregs.rd (by
    have hb : ∀ o ∈ snapRegs, 0x82000 ≤ o := by decide
    have hr' := hb _ hr
    have haq := callAq_lt s q
    simp only [callRegs, CLL_Q_HEAD, CLL_Q_STATUS, CLL_A_TAIL, List.mem_cons, List.not_mem_nil, or_false]
    omega)
  rw [State.settle_same hocc] at hexec
  refine Runs.next hexec ⟨hanswered, (hrd _ (by decide)).trans hfrac, (hrd _ (by decide)).trans htb1, (hrd _ (by decide)).trans htb3, (hrd _ (by decide)).trans hsteps, ?_, hframe'⟩
  exact ((hheld.regs.mono (by simp [callRegs])).trans (hregs.mono (by simp [snapRegs]))).trans (htregs.mono (by simp [callRegs]))

theorem callRegs_span {q : Nat} (hq : q < 16) : ∀ o ∈ callRegs s q, CallReg o := by
  intro o ho
  obtain ⟨-, hhead, -, hstatus⟩ := callReg_q hq
  obtain ⟨-, -, htail, -, -⟩ := callReg_a (callAq_lt s q)
  simp only [callRegs, List.mem_cons, List.not_mem_nil, or_false] at ho
  rcases ho with rfl | rfl | rfl
  · exact hhead
  · exact hstatus
  · exact htail

/-- An event raised before the Answer. -/
theorem answer_raised {u v t : State} {q ev src : Nat} {x : Word} (hq : q < 16) (h : Raised u v ev src x) (hocc : t.occ = v.occ) (hregs : RegsBut v t (callRegs s q)) :
    Raised u t ev src x := by
  have hno {o : Nat} (ho : 0x300000 ≤ o) : o ∉ callRegs s q := fun hm => by
    have := callRegs_span hq o hm
    unfold CallReg at this
    omega
  exact h.later hocc hregs (hno (by simp only [EVT_R_CNT]; omega)) (hno (by simp only [EVT_R_LAST]; omega))

/-- The next tick of TB0 depends on TB0, its increment and the clocks. -/
theorem tick_tb0_congr {s u : State} (htb0 : u.tb0 = s.tb0) (hhlt : u.hlt = s.hlt) (hinc : u.rd STK_TB0_INC = s.rd STK_TB0_INC) : u.tick.tb0 = s.tick.tb0 := by
  unfold State.tick
  rw [State.tb1Sync_tb0, State.tb1Sync_tb0]
  unfold State.passTicks
  dsimp only
  rw [hhlt, hinc, htb0]
  split
  · exact htb0
  · rfl

/-- The registers of a step: the wrap count, the slots that it passes, and event 49. -/
def StepOff (o : Nat) : Prop := SlotOff o ∨ o = ETH_TB0_WRAP.off ∨ o ∈ evRegs 49

/-- What a step of TB0 leaves (R133). -/
theorem stepTb0_shows (s : State) (v : Word) : (s.stepTb0 v).ns = s.tick.ns + v ∧ (s.stepTb0 v).frac = s.tick.frac ∧
    (s.stepTb0 v).stk.steps = (s.stk.steps + 1) % 65536 ∧ RegsIn StepOff s (s.stepTb0 v) ∧ TimeFrame s (s.stepTb0 v) ∧
    (v.msb = true → Raised s (s.stepTb0 v) 49 0x0E02 0) := by
  have hframe := State.passed_frame s v
  rw [SlotFrame] at hframe
  have htb0 : (s.stepTb0 v).tb0 = s.tick.tb0 + (v.signExtend 64 <<< 32) := by
    rw [State.stepTb0_eq, State.raise_tb0, State.tb1Sync_tb0, hframe]
    rfl
  have hstk : (s.stepTb0 v).stk.steps = (s.stk.steps + 1) % 65536 := by
    rw [State.stepTb0_eq, State.raise_stk, State.tb1Sync_frame, hframe]
    change (s.tick.stk.steps + 1) % 65536 = _
    rw [State.tick_frame]
  have hpassed : RegsIn StepOff s (s.passed v) :=
    ((State.stepped_regs s v).regsIn fun o ho => Or.inr (Or.inl (List.mem_singleton.1 ho))).trans fun o ho => State.passed_regsIn s v o fun hs => ho (Or.inl hs)
  refine ⟨by rw [State.ns, htb0]; exact (tb0_add_ns _ v).2, by rw [State.frac, htb0]; exact (tb0_add_ns _ v).1, hstk, ?_, State.stepTb0_frame s v, fun hneg => ?_⟩
  · rw [State.stepTb0_eq]
    refine (hpassed.congr (State.tb1Sync_regs _)).trans (((RegsBut.refl _ (evRegs 49)).raise 49 0x0E02 []).regsIn fun o ho => Or.inr (Or.inr ho))
  · have hocc : (s.passed v).tb1Sync.occ = s.occ := by
      rw [State.passed_back hneg, State.tb1Sync_frame]
      change s.tick.occ = _
      rw [State.tick_frame]
    have hregs : RegsBut s (s.passed v).tb1Sync [ETH_TB0_WRAP.off] := by
      rw [State.passed_back hneg]
      exact (State.stepped_regs s v).congr (State.tb1Sync_regs _)
    rw [State.stepTb0_eq]
    exact (Raised.of_raise _ 49 0x0E02 []).earlier hocc hregs

/-- A step keeps the queues. -/
theorem stepTb0_keeps (s : State) (v : Word) : KeepsCalls s (s.stepTb0 v) ∧ (s.stepTb0 v).out = s.out ∧ (s.stepTb0 v).g7 = s.g7 := by
  obtain ⟨-, -, -, hregs, hframe, -⟩ := stepTb0_shows s v
  rw [TimeFrame] at hframe
  refine ⟨⟨by rw [hframe], fun o ho => hregs o fun hs => ho fun hc => ?_⟩, by rw [hframe], by rw [hframe]⟩
  have hev : ∀ o ∈ STK_LATE_CNT.off :: ETH_TB0_WRAP.off :: (evRegs 48 ++ evRegs 49), o < 0x80000 ∨ 0x82000 ≤ o := by decide
  have hout (hm : o ∈ STK_LATE_CNT.off :: ETH_TB0_WRAP.off :: (evRegs 48 ++ evRegs 49)) : False := by
    have := hev o hm
    unfold CallReg at hc
    omega
  rcases hs with (hs | hs | hs) | hs | hs
  · unfold CallReg at hc
    omega
  · exact hout (by rw [hs]; exact List.mem_cons_self ..)
  · exact hout (List.mem_cons_of_mem _ (List.mem_cons_of_mem _ (List.mem_append_left _ hs)))
  · exact hout (by rw [hs]; exact List.mem_cons_of_mem _ (List.mem_cons_self ..))
  · exact hout (List.mem_cons_of_mem _ (List.mem_cons_of_mem _ (List.mem_append_right _ hs)))

theorem callTimeStep_exec (h : CallNext s q c) (hop : c.op = 0x302) : exec (.callTimeStep q) s = .next (s.settle ((s.callTaken q c).callArgs q [(0, !fits32 (c.arg 0))] (fun s =>
    if s.servo then s.callAnswer q 7 else (s.stepTb0 (w32 (c.arg 0))).callAnswer q 0))) := congrArg Host.Outcome.next (callRun_taken h hop)

theorem servo_held {u : State} (hu : CallHeld s q u) : u.servo = s.servo := by
  rw [State.servo, State.servo, State.bit, State.bit, hu.rd q.isLt (Or.inr (by decide))]

/-- A step of a Call that the servo allows. -/
theorem callTimeStep_steps (h : CallNext s q c) (hroom : AnswerRoom s q) (hop : c.op = 0x302) (hfits : fits32 (c.arg 0) = true) (hservo : s.servo = false) :
    Runs (.callTimeStep q) s (fun t => Answered s t q c 0 0 0 [] ∧ t.ns = s.tick.ns + w32 (c.arg 0) ∧ t.frac = s.tick.frac ∧ t.stk.steps = (s.stk.steps + 1) % 65536 ∧
      t.g7 = s.g7 ∧ ((w32 (c.arg 0)).msb = true → Raised s t 49 0x0E02 0)) := by
  have hexec := callTimeStep_exec h hop
  have hheld := callTaken_held (s := s) (q := q) (c := c)
  rw [callArgs_one_good (by rw [hfits]; rfl), if_neg (by rw [servo_held hheld, hservo]; exact Bool.false_ne_true)] at hexec
  have hanswer := fun u hu ho => callNext_answered (status := 0) (r0 := 0) (r1 := 0) (u := u) (out := []) h q.isLt hroom hu ho
  generalize s.callTaken q c = a at *
  have hafields : a.tb0 = s.tb0 ∧ a.hlt = s.hlt ∧ a.out = s.out ∧ a.stk = s.stk ∧ a.g7 = s.g7 ∧ a.occ = s.occ := by
    rw [hheld.frame]
    exact ⟨rfl, rfl, rfl, rfl, rfl, rfl⟩
  obtain ⟨hatb0, hahlt, haout, hastk, hag7, haocc⟩ := hafields
  have htick : a.tick.tb0 = s.tick.tb0 := tick_tb0_congr hatb0 hahlt (hheld.rd q.isLt (Or.inr (by decide)))
  obtain ⟨hns, hfrac, hsteps, -, -, hraised⟩ := stepTb0_shows a (w32 (c.arg 0))
  obtain ⟨hkeeps, hout, hg7⟩ := stepTb0_keeps a (w32 (c.arg 0))
  generalize a.stepTb0 (w32 (c.arg 0)) = u at *
  obtain ⟨hanswered, htregs, hframe⟩ := hanswer u hkeeps (hout.trans (haout.trans (List.append_nil _).symm))
  have hrun : exec (.callTimeStep q) s = .next (s.settle (u.callAnswer q 0)) := hexec
  generalize u.callAnswer q 0 = t at *
  have htfields : t.tb0 = u.tb0 ∧ t.stk = u.stk ∧ t.g7 = u.g7 ∧ t.occ = u.occ := by
    rw [hframe]
    exact ⟨rfl, rfl, rfl, rfl⟩
  obtain ⟨httb0, htstk, htg7, htocc⟩ := htfields
  have hraisedT (hneg : (w32 (c.arg 0)).msb = true) : Raised s t 49 0x0E02 0 :=
    (answer_raised q.isLt (hraised hneg) htocc htregs).earlier haocc hheld.regs (by simp only [EVT_R_CNT, CLL_Q_HEAD, CLL_Q_STATUS, List.mem_cons, List.not_mem_nil, or_false]; omega)
  refine Runs.next hrun ⟨hanswered, ?_, ?_, ?_, htg7.trans (hg7.trans hag7), fun hneg => ?_⟩
  · have : t.ns = u.ns := by rw [State.ns, State.ns, httb0]
    refine this.trans (hns.trans ?_)
    rw [State.ns, htick, State.ns]
  · have : t.frac = u.frac := by rw [State.frac, State.frac, httb0]
    refine this.trans (hfrac.trans ?_)
    rw [State.frac, htick, State.frac]
  · exact (congrArg Stroke.steps htstk).trans (hsteps.trans (by rw [hastk]))
  · exact State.raised_settle (hraisedT hneg)

theorem toNat_w32_small {n : Nat} (h : n < 4294967296) : (w32 n).toNat = n := by
  rw [BitVec.toNat_ofNat]
  exact Nat.mod_eq_of_lt h

theorem callTimeInc_exec (h : CallNext s q c) (hop : c.op = 0x303) : exec (.callTimeInc q) s = .next (s.settle (if (s.callTaken q c).servo then (s.callTaken q c).callAnswer q 7
    else ((s.callTaken q c).setTb0Inc (w32 (c.arg 0))).callAnswer q 0 (((s.callTaken q c).setTb0Inc (w32 (c.arg 0))).fld STK_TB0_STATUS STK_TB0_STATUS_CLAMPED))) :=
  congrArg Host.Outcome.next (callRun_taken h hop)

theorem callTimeInc_within (h : CallNext s q c) (hroom : AnswerRoom s q) (hop : c.op = 0x303) (hservo : s.servo = false) (hlo : 0xCC985F07 ≤ c.arg 0)
    (hhi : c.arg 0 ≤ 0xCD013A93) : Runs (.callTimeInc q) s (fun t =>
      Answered s t q c 0 (s.fld STK_TB0_STATUS STK_TB0_STATUS_CLAMPED) 0 [] ∧ t.rd STK_TB0_INC = w32 (c.arg 0) ∧ RegsBut s t (STK_TB0_INC.off :: callRegs s q) ∧
      t = { s with regs := t.regs, call := t.call, out := t.out }) := by
  have hexec := callTimeInc_exec h hop
  have hheld := callTaken_held (s := s) (q := q) (c := c)
  rw [if_neg (by rw [servo_held hheld, hservo]; exact Bool.false_ne_true), State.setTb0Inc_within _ (by rw [toNat_w32_small (by omega)]; exact hlo) (by rw [toNat_w32_small (by omega)]; exact hhi)] at hexec
  have hanswer := fun u r0 hu ho => callNext_answered (status := 0) (r0 := r0) (r1 := 0) (u := u) (out := []) h q.isLt hroom hu ho
  generalize s.callTaken q c = a at *
  have hclamped : (a.wr STK_TB0_INC (w32 (c.arg 0))).fld STK_TB0_STATUS STK_TB0_STATUS_CLAMPED = s.fld STK_TB0_STATUS STK_TB0_STATUS_CLAMPED := by
    rw [State.fld, State.fld, State.rd_wr_ne _ _ (by decide), hheld.rd q.isLt (Or.inr (by decide))]
  have hregs : RegsBut a (a.wr STK_TB0_INC (w32 (c.arg 0))) [STK_TB0_INC.off] := (RegsBut.refl a _).wr _ _
  have hinc := State.rd_wr_self a STK_TB0_INC (w32 (c.arg 0))
  have honly : OnlyRegs a (a.wr STK_TB0_INC (w32 (c.arg 0))) := (OnlyRegs.refl a).wr _ _
  have haout : a.out = s.out := by rw [hheld.frame]
  rw [hclamped] at hexec
  generalize a.wr STK_TB0_INC (w32 (c.arg 0)) = u at *
  obtain ⟨hanswered, htregs, hframe⟩ := hanswer u (s.fld STK_TB0_STATUS STK_TB0_STATUS_CLAMPED)
    (KeepsCalls.of_regsBut (honly.field State.call) hregs (by unfold CallReg; decide)) ((honly.field State.out).trans (haout.trans (List.append_nil _).symm))
  generalize u.callAnswer q 0 (s.fld STK_TB0_STATUS STK_TB0_STATUS_CLAMPED) = t at *
  rw [OnlyRegs] at honly
  have hframe' : t = { s with regs := t.regs, call := t.call, out := t.out } := by rw [hframe, honly, hheld.frame]
  have hocc : t.occ = s.occ := by rw [hframe']
  refine Runs.next (hexec.trans (congrArg Host.Outcome.next (State.settle_same hocc))) ⟨hanswered, ?_, ?_, hframe'⟩
  · rw [htregs.rd fun hm => ?_, hinc]
    have := callRegs_span q.isLt _ hm
    unfold CallReg at this
    simp only [STK_TB0_INC] at this
    omega
  · exact ((hheld.regs.mono (by simp [callRegs])).trans (hregs.mono (by simp))).trans (htregs.mono (List.subset_cons_self ..))

theorem callTimeInc_below (h : CallNext s q c) (hroom : AnswerRoom s q) (hop : c.op = 0x303) (hservo : s.servo = false) (hlo : c.arg 0 < 0xCC985F07) :
    Runs (.callTimeInc q) s (fun t => Answered s t q c 0 1 0 [] ∧ t.rd STK_TB0_INC = 0xCC985F07 ∧ Raised s t 50 0x0E02 0) := by
  have hexec := callTimeInc_exec h hop
  have hheld := callTaken_held (s := s) (q := q) (c := c)
  rw [if_neg (by rw [servo_held hheld, hservo]; exact Bool.false_ne_true), State.setTb0Inc_below _ (by rw [toNat_w32_small (by omega)]; exact hlo), State.tb0IncLimited] at hexec
  have hanswer := fun u hu ho => callNext_answered (status := 0) (r0 := 1) (r1 := 0) (u := u) (out := []) h q.isLt hroom hu ho
  generalize s.callTaken q c = a at *
  have haout : a.out = s.out := by rw [hheld.frame]
  have haocc : a.occ = s.occ := by rw [hheld.frame]
  have hset : RegsBut a ((a.wr STK_TB0_INC (w32 tb0IncMin)).setBit STK_TB0_STATUS STK_TB0_STATUS_CLAMPED true) [STK_TB0_INC.off, STK_TB0_STATUS.off] :=
    ((RegsBut.refl a _).wr _ _).setBit _ _ _
  have honly : OnlyRegs a ((a.wr STK_TB0_INC (w32 tb0IncMin)).setBit STK_TB0_STATUS STK_TB0_STATUS_CLAMPED true) := ((OnlyRegs.refl a).wr _ _).setBit _ _ _
  have hclamped : ((a.wr STK_TB0_INC (w32 tb0IncMin)).setBit STK_TB0_STATUS STK_TB0_STATUS_CLAMPED true).fld STK_TB0_STATUS STK_TB0_STATUS_CLAMPED = 1 := by
    rw [State.setBit]
    exact State.fld_setFld_self _ STK_TB0_STATUS STK_TB0_STATUS_CLAMPED 1
  have hinc : ((a.wr STK_TB0_INC (w32 tb0IncMin)).setBit STK_TB0_STATUS STK_TB0_STATUS_CLAMPED true).rd STK_TB0_INC = 0xCC985F07 :=
    (State.rd_setFld_ne _ _ _ (by decide)).trans (State.rd_wr_self ..)
  generalize (a.wr STK_TB0_INC (w32 tb0IncMin)).setBit STK_TB0_STATUS STK_TB0_STATUS_CLAMPED true = w at *
  have hraised := (Raised.of_raise w 50 0x0E02 []).earlier honly.occ hset
  have hregs : RegsBut w (w.raise 50 0x0E02) (evRegs 50) := (RegsBut.refl w _).raise 50 0x0E02 []
  have hwcall : (w.raise 50 0x0E02).call = a.call := (State.raise_call ..).trans (honly.field State.call)
  have hwout : (w.raise 50 0x0E02).out = a.out := (State.raise_out ..).trans (honly.field State.out)
  have hclamped' : (w.raise 50 0x0E02).fld STK_TB0_STATUS STK_TB0_STATUS_CLAMPED = 1 := by
    rw [State.fld, hregs.rd (by decide)]
    exact hclamped
  have hinc' : (w.raise 50 0x0E02).rd STK_TB0_INC = 0xCC985F07 := (hregs.rd (by decide)).trans hinc
  rw [hclamped'] at hexec
  generalize w.raise 50 0x0E02 = u at *
  have hkeeps : KeepsCalls a u := (KeepsCalls.of_regsBut (honly.field State.call) hset (by unfold CallReg; decide)).trans
    (KeepsCalls.of_regsBut (hwcall.trans (honly.field State.call).symm) hregs (by unfold CallReg; decide))
  obtain ⟨hanswered, htregs, hframe⟩ := hanswer u hkeeps (hwout.trans (haout.trans (List.append_nil _).symm))
  generalize u.callAnswer q 0 1 = t at *
  have htocc : t.occ = u.occ := by rw [hframe]
  refine Runs.next hexec ⟨hanswered, ?_, ?_⟩
  · refine (htregs.rd fun hm => ?_).trans hinc'
    have := callRegs_span q.isLt _ hm
    unfold CallReg at this
    simp only [STK_TB0_INC] at this
    omega
  · exact State.raised_settle ((answer_raised q.isLt hraised htocc htregs).earlier haocc hheld.regs (by
      simp only [EVT_R_CNT, CLL_Q_HEAD, CLL_Q_STATUS, List.mem_cons, List.not_mem_nil, or_false]; omega))

/-- The registers that TIME_ALIGN writes (R137). -/
def alignRegs : List Nat := [STK_TB1_ALIGN.off, STK_TB1_PERIOD_NS.off, STK_TB1_PERIOD_FRAC.off, STK_TB1_LINES.off]

/-- The four registers written, before TB1 takes its ALIGN. -/
def State.alignGiven (s : State) (c : Call) : State :=
  (((s.wr STK_TB1_PERIOD_NS (w32 (c.arg 1))).wr STK_TB1_PERIOD_FRAC (w32 (c.arg 2) &&& 0xFFFF)).wr STK_TB1_LINES (w32 (c.arg 3))).wr STK_TB1_ALIGN (w32 (c.arg 0))

theorem alignGiven_shows (s : State) (c : Call) : (s.alignGiven c).rd STK_TB1_ALIGN = w32 (c.arg 0) ∧ (s.alignGiven c).rd STK_TB1_PERIOD_NS = w32 (c.arg 1) ∧
    (s.alignGiven c).rd STK_TB1_PERIOD_FRAC = w32 (c.arg 2) &&& 0xFFFF ∧ (s.alignGiven c).rd STK_TB1_LINES = w32 (c.arg 3) ∧
    RegsBut s (s.alignGiven c) alignRegs ∧ OnlyRegs s (s.alignGiven c) := by
  refine ⟨State.rd_wr_self .., ?_, ?_, ?_, ?_, ((((OnlyRegs.refl s).wr _ _).wr _ _).wr _ _).wr _ _⟩
  · rw [State.alignGiven, State.rd_wr_ne _ _ (by decide), State.rd_wr_ne _ _ (by decide), State.rd_wr_ne _ _ (by decide), State.rd_wr_self]
  · rw [State.alignGiven, State.rd_wr_ne _ _ (by decide), State.rd_wr_ne _ _ (by decide), State.rd_wr_self]
  · rw [State.alignGiven, State.rd_wr_ne _ _ (by decide), State.rd_wr_self]
  · exact ((((RegsBut.refl s alignRegs).wr _ _ (by decide)).wr _ _ (by decide)).wr _ _ (by decide)).wr _ _ (by decide)

theorem timeAlign_eq {u : State} (hmode : u.tb1Mode ≠ 1) :
    u.timeAlign (w32 (c.arg 0)) (w32 (c.arg 1)) (w32 (c.arg 2)) (w32 (c.arg 3)) = (u.alignGiven c).tb1TakeAlign := by
  have hregs : RegsBut u ((u.wr STK_TB1_PERIOD_NS (w32 (c.arg 1))).wr STK_TB1_PERIOD_FRAC (w32 (c.arg 2) &&& 0xFFFF)) [STK_TB1_PERIOD_NS.off, STK_TB1_PERIOD_FRAC.off] :=
    ((RegsBut.refl u _).wr _ _).wr _ _
  unfold State.timeAlign State.tb1LinesWrite State.tb1AlignWrite
  dsimp only
  rw [if_neg (by rw [State.tb1Mode_regs hregs]; exact hmode)]
  rfl

theorem callTimeAlign_exec (h : CallNext s q c) (hop : c.op = 0x304) (hmode : s.tb1Mode ≠ 1) :
    exec (.callTimeAlign q) s = .next (s.settle (((s.callTaken q c).alignGiven c).tb1TakeAlign.callAnswer q 0)) := by
  refine congrArg Host.Outcome.next ((callRun_taken h hop).trans ?_)
  have hmode' : (s.callTaken q c).tb1Mode = s.tb1Mode := by
    rw [State.tb1Mode, State.tb1Mode, State.fld, State.fld, (callTaken_held (s := s) (q := q) (c := c)).rd q.isLt (Or.inr (by decide))]
  rw [timeAlign_eq (by rw [hmode']; exact hmode)]

theorem alignGiven_mode : ((s.callTaken q c).alignGiven c).tb1Mode = s.tb1Mode := by
  obtain ⟨-, -, -, -, hregs, -⟩ := alignGiven_shows (s.callTaken q c) c
  rw [State.tb1Mode_regs hregs, State.tb1Mode, State.tb1Mode, State.fld, State.fld, (callTaken_held (s := s) (q := q) (c := c)).rd q.isLt (Or.inr (by decide))]

/-- An ALIGN not yet reached awaits TB0. -/
theorem alignGiven_awaits {u : State} (hmode : (u.alignGiven c).tb1Mode = 2) (hperiod : w32 (c.arg 1) ≠ 0) (hreach : reached u.ns (w32 (c.arg 0)) = false) :
    (u.alignGiven c).tb1TakeAlign = (u.alignGiven c).setTb1 { (u.alignGiven c).stk.tb1 with alignWait := true } := by
  obtain ⟨halign, hns, -, -, -, -⟩ := alignGiven_shows u c
  have hpos : (w32 (c.arg 1)).toNat ≠ 0 := fun h0 => hperiod (BitVec.eq_of_toNat_eq h0)
  have hp : (u.alignGiven c).tb1PeriodQ32 ≠ 0 := by
    rw [State.tb1PeriodQ32, hns]
    omega
  have hnow : (u.alignGiven c).ns = u.ns := rfl
  have hgo : ¬ (decide ((u.alignGiven c).tb1Mode ≠ 2) || decide ((u.alignGiven c).tb1PeriodQ32 = 0)) = true := by
    rw [Bool.or_eq_true, decide_eq_true_eq, decide_eq_true_eq, hmode]
    rintro (h | h)
    · exact h rfl
    · exact hp h
  unfold State.tb1TakeAlign
  rw [if_neg hgo, halign, hnow, hreach]
  exact if_neg Bool.false_ne_true

/-- TIME_ALIGN answered: its four registers, and TB1 in whatever ALIGN made of it. -/
theorem callTimeAlign_answers {u : State} (h : CallNext s q c) (hroom : AnswerRoom s q) (hexec : exec (.callTimeAlign q) s = .next (s.settle (u.callAnswer q 0)))
    (hregs : u.regs = ((s.callTaken q c).alignGiven c).regs) (hframe : u = { s.callTaken q c with regs := u.regs, stk := u.stk }) : Runs (.callTimeAlign q) s (fun t =>
      Answered s t q c 0 0 0 [] ∧ t.rd STK_TB1_ALIGN = w32 (c.arg 0) ∧ t.rd STK_TB1_PERIOD_NS = w32 (c.arg 1) ∧ t.rd STK_TB1_PERIOD_FRAC = w32 (c.arg 2) &&& 0xFFFF ∧
      t.rd STK_TB1_LINES = w32 (c.arg 3) ∧ RegsBut s t (STK_TB1_ALIGN.off :: STK_TB1_PERIOD_NS.off :: STK_TB1_PERIOD_FRAC.off :: STK_TB1_LINES.off :: callRegs s q) ∧
      t = { s with regs := t.regs, call := t.call, out := t.out, stk := t.stk } ∧ t.stk = u.stk) := by
  have hheld := callTaken_held (s := s) (q := q) (c := c)
  have hanswer := fun u hu ho => callNext_answered (status := 0) (r0 := 0) (r1 := 0) (u := u) (out := []) h q.isLt hroom hu ho
  generalize s.callTaken q c = a at *
  obtain ⟨halign, hns, hfrac, hlines, hgiven, -⟩ := alignGiven_shows a c
  have haout : a.out = s.out := by rw [hheld.frame]
  have hucall : u.call = a.call := by rw [hframe]
  have huout : u.out = a.out := by rw [hframe]
  have hgivenU : RegsBut a u alignRegs := hgiven.congr hregs
  have hrdU (r : Reg) : u.rd r = (a.alignGiven c).rd r := by rw [State.rd, hregs, State.rd]
  obtain ⟨hanswered, htregs, htframe⟩ := hanswer u (KeepsCalls.of_regsBut hucall hgivenU (by unfold CallReg; decide)) (huout.trans (haout.trans (List.append_nil _).symm))
  generalize u.callAnswer q 0 = t at *
  have hstk : t.stk = u.stk := by rw [htframe]
  have hframe' : t = { s with regs := t.regs, call := t.call, out := t.out, stk := t.stk } := by rw [htframe, hframe, hheld.frame]
  have hocc : t.occ = s.occ := by rw [hframe']
  have hrd (r : Reg) (hr : r.off ∈ alignRegs) : t.rd r = (a.alignGiven c).rd r := (htregs.rd (fun hm => by
    have hlow : ∀ o ∈ alignRegs, 0x82000 ≤ o := by decide
    have := hlow _ hr
    have := callRegs_span q.isLt _ hm
    unfold CallReg at this
    omega)).trans (hrdU r)
  refine Runs.next (hexec.trans (congrArg Host.Outcome.next (State.settle_same hocc))) ⟨hanswered, (hrd _ (by decide)).trans halign, (hrd _ (by decide)).trans hns,
    (hrd _ (by decide)).trans hfrac, (hrd _ (by decide)).trans hlines, ?_, hframe', hstk⟩
  exact ((hheld.regs.mono (by simp [callRegs])).trans (hgivenU.mono (by simp [alignRegs]))).trans (htregs.mono (by simp [callRegs]))

end

theorem timeCalls : TimeCalls := by
  unfold TimeCalls
  intro q c s h hroom
  refine ⟨callTimeRead_answers h hroom, fun hop hno => ?_, fun hop hfits hservo => ?_, fun hop hfits hservo hneg => ?_, fun hop hfits hservo => ?_, fun hop hservo => ?_,
    fun hop hservo hlo hhi => callTimeInc_within h hroom hop hservo hlo hhi, fun hop hservo hlo => callTimeInc_below h hroom hop hservo hlo,
    fun hop hmode => ?_, fun hop hmode hperiod hreach => ?_⟩
  · have hexec := callTimeStep_exec h hop
    rw [callArgs_one_bad (by rw [hno]; rfl)] at hexec
    exact callNext_justAnswers h q.isLt hroom hexec
  · have hexec := callTimeStep_exec h hop
    rw [callArgs_one_good (by rw [hfits]; rfl), if_pos (by rw [servo_held callTaken_held]; exact hservo)] at hexec
    exact callNext_justAnswers h q.isLt hroom hexec
  · obtain ⟨t, hrun, hanswered, hns, hfrac, hsteps, -, hraised⟩ := callTimeStep_steps h hroom hop hfits hservo
    exact ⟨t, hrun, hanswered, hns, hfrac, hsteps, hraised hneg⟩
  · obtain ⟨t, hrun, -, hns, hfrac, hsteps, hg7, -⟩ := callTimeStep_steps h hroom hop hfits hservo
    exact ⟨t, hrun, hns, hfrac, hsteps, hg7⟩
  · have hexec := callTimeInc_exec h hop
    rw [if_pos (by rw [servo_held callTaken_held]; exact hservo)] at hexec
    exact callNext_justAnswers h q.isLt hroom hexec
  · have hexec := callTimeAlign_exec h hop (by omega)
    rw [State.tb1TakeAlign_none (Or.inl (by rw [alignGiven_mode]; omega))] at hexec
    obtain ⟨t, hrun, hanswered, halign, hns, hfrac, hlines, htregs, hframe, hstk⟩ := callTimeAlign_answers h hroom hexec rfl rfl
    have hstk' : t.stk = s.stk := hstk.trans rfl
    rw [hstk'] at hframe
    exact ⟨t, hrun, hanswered, halign, hns, hfrac, hlines, htregs, hframe⟩
  · have hexec := callTimeAlign_exec h hop (by omega)
    rw [alignGiven_awaits (u := s.callTaken q c) (alignGiven_mode.trans hmode) hperiod hreach] at hexec
    obtain ⟨t, hrun, hanswered, halign, hns, hfrac, hlines, -, -, hstk⟩ := callTimeAlign_answers h hroom hexec rfl rfl
    exact ⟨t, hrun, hanswered, halign, hns, hfrac, hlines, by rw [hstk]; rfl⟩

/-- Settles O47, by what a Call in hand, the Rig controller's commands and the steps of the time leave, and the Answer or the wait after them. -/
theorem callsOfRigAndTime : Obligations.CallsOfRigAndTime := ⟨rigCalls, timeCalls⟩

end Sys2Proof.Machine
end

section
/-! PROOFS. Calls on recording, media sets and stores, and to the Vault (R228, R354 to R367, R444, R465, R467). -/

-- One proof at a time: the text is compiled as one file in bounded memory.
set_option Elab.async false

namespace Sys2Proof.Machine
open Sys2Proof.Claims

/-! ### A wait after the work has begun -/

/-- A Call whose work began in a state that kept the queues waits for it. -/
theorem callWait_after {s u : State} {q : Nat} {c : Call} {w : WaitFor} (hq : q < 16) (hu : KeepsCalls (s.callTaken q c) u) :
    CallWaits s (u.callWait q w) q c w ∧ u.callWait q w = { u with call := (u.callWait q w).call } := by
  obtain ⟨hcq, hhead, hbusy, -⟩ := callTaken_kept hu hq
  have hwait : u.callWait q w = u.setCallQ q { u.callQ q with cur := some (c, some w) } := by
    unfold State.callWait
    rw [hcq]
  rw [hwait]
  exact ⟨⟨hhead, hbusy, congrArg CallQ.cur (State.callQ_setCallQ u q _)⟩, rfl⟩

/-! ### Recording (R354 to R357) -/

section
variable {s u : State} {q : Fin 16} {c : Call} {n : Fin 8}

/-- What a recording channel's commands read of a state with a Call in hand. -/
theorem CallHeld.recC (hu : CallHeld s q u) (n : Nat) : u.rd (REC_C_CFG n) = s.rd (REC_C_CFG n) ∧ u.rd (REC_C_STATUS n) = s.rd (REC_C_STATUS n) ∧
    u.recUp n = s.recUp n ∧ u.recState n = s.recState n ∧ u.recSet n = s.recSet n ∧ u.recOf n = s.recOf n := by
  have hcfg : u.rd (REC_C_CFG n) = s.rd (REC_C_CFG n) := hu.rd q.isLt (Or.inr (by simp only [REC_C_CFG]; omega))
  have hstatus : u.rd (REC_C_STATUS n) = s.rd (REC_C_STATUS n) := hu.rd q.isLt (Or.inr (by simp only [REC_C_STATUS]; omega))
  have hrun : u.running (recBid n) = s.running (recBid n) := by rw [hu.frame]; rfl
  refine ⟨hcfg, hstatus, ?_, ?_, ?_, by rw [hu.frame]; rfl⟩
  · rw [State.recUp, State.recUp, State.bit, State.bit, hcfg, hrun]
  · rw [State.recState, State.recState, State.fld, State.fld, hstatus]
  · rw [State.recSet, State.recSet, State.fld, State.fld, hcfg]

/-- The registers of a media set too. -/
theorem CallHeld.mediaC (hu : CallHeld s q u) (m : Nat) : u.rd (REC_M_CFG m) = s.rd (REC_M_CFG m) ∧ u.setState m = s.setState m ∧ u.setBusy m = s.setBusy m ∧
    u.setPorts m = s.setPorts m ∧ u.mediaOf m = s.mediaOf m := by
  have hcfg : u.rd (REC_M_CFG m) = s.rd (REC_M_CFG m) := hu.rd q.isLt (Or.inr (by simp only [REC_M_CFG]; omega))
  have hstatus : u.rd (REC_M_STATUS m) = s.rd (REC_M_STATUS m) := hu.rd q.isLt (Or.inr (by simp only [REC_M_STATUS]; omega))
  refine ⟨hcfg, by rw [State.setState, State.setState, hstatus], ?_, by rw [State.setPorts, State.setPorts, hcfg], by rw [hu.frame]; rfl⟩
  have hbit (n : Nat) : u.bit (REC_C_CFG n) REC_C_CFG_EN = s.bit (REC_C_CFG n) REC_C_CFG_EN := by
    rw [State.bit, State.bit, (hu.recC n).1]
  have hstate (n : Nat) : u.recState n = s.recState n := (hu.recC n).2.2.2.1
  have hset (n : Nat) : u.recSet n = s.recSet n := (hu.recC n).2.2.2.2.1
  simp only [State.setBusy, hbit, hstate, hset]

/-- A row of REC_CTRL with good arguments. -/
theorem callRec_runs {k : Nat} {f : State → Nat → State} (h : CallNext s q c) (hop : c.op = 0x401) (hact : c.arg 1 = k) (hk : k ≤ 3) (hn : c.arg 0 = n.val) :
    s.callRec q k f = s.settle (f (s.callTaken q c) n) := by
  have hsel : recAct k c = true := by
    unfold recAct
    rw [hact, beq_self_eq_true, Bool.true_or]
  have hlt := n.isLt
  unfold State.callRec
  rw [callRun_taken h hop (by decide) hsel, callArgs_first_good _ (decide_eq_false (by omega)), callArgs_one_good (decide_eq_false (by omega)), hn]

theorem callRecArm_bad (h : CallNext s q c) (hop : c.op = 0x401) (hroom : AnswerRoom s q) (hbad : 7 < c.arg 0) (hact : c.arg 1 = 0) :
    JustAnswers (.callRecArm q) s q c 2 0 0 := by
  refine callNext_justAnswers h q.isLt hroom (congrArg Host.Outcome.next ?_)
  unfold State.callRec
  rw [callRun_taken h hop (by decide) (by unfold recAct; rw [hact]; rfl), callArgs_first_bad _ (decide_eq_true hbad)]

theorem callRecArm_badAction (h : CallNext s q c) (hop : c.op = 0x401) (hroom : AnswerRoom s q) (hn : c.arg 0 ≤ 7) (hact : 3 < c.arg 1) :
    JustAnswers (.callRecArm q) s q c 2 1 0 := by
  refine callNext_justAnswers h q.isLt hroom (congrArg Host.Outcome.next ?_)
  unfold State.callRec
  rw [callRun_taken h hop (by decide) (by unfold recAct; rw [decide_eq_true hact, Bool.or_true]), callArgs_first_good _ (decide_eq_false (by omega)),
    callArgs_one_bad (decide_eq_true hact)]

/-- A command of a channel answered: what it left stands beside the Answer. -/
theorem answered_after {i : Instr} {a : State} {os : List Nat} {status r0 : Nat} (h : CallNext s q c) (hroom : AnswerRoom s q)
    (hexec : exec i s = .next (s.settle (u.callAnswer q status r0))) (ha : a = s.callTaken q c) (hregs : RegsBut a u os) (hos : ∀ o ∈ os, 0x82000 ≤ o)
    (hframe : u = { a with regs := u.regs, recs := u.recs }) : Runs i s (fun t =>
      Answered s t q c status r0 0 [] ∧ (∀ r : Reg, 0x82000 ≤ r.off → t.rd r = u.rd r) ∧ RegsBut s t (os ++ callRegs s q) ∧
      t = { s with regs := t.regs, call := t.call, recs := t.recs, out := t.out } ∧ t.recs = u.recs) := by
  have hheld := callTaken_held (s := s) (q := q) (c := c)
  have hanswer := fun u hu ho => callNext_answered (status := status) (r0 := r0) (r1 := 0) (u := u) (out := []) h q.isLt hroom hu ho
  rw [← ha] at hheld hanswer
  have hucall : u.call = a.call := by rw [hframe]
  have huout : u.out = s.out ++ [] := by rw [hframe, hheld.frame, List.append_nil]
  obtain ⟨hanswered, htregs, htframe⟩ := hanswer u (KeepsCalls.of_regsBut hucall hregs fun o ho hc => by
    have := hos o ho
    unfold CallReg at hc
    omega) huout
  generalize u.callAnswer q status r0 = t at *
  have hframe' : t = { s with regs := t.regs, call := t.call, recs := t.recs, out := t.out } := by rw [htframe, hframe, hheld.frame]
  have hocc : t.occ = s.occ := by rw [hframe']
  refine Runs.next (hexec.trans (congrArg Host.Outcome.next (State.settle_same hocc))) ⟨hanswered, fun r hr => htregs.rd fun hm => ?_, ?_, hframe', by rw [htframe]⟩
  · have := callRegs_span q.isLt _ hm
    unfold CallReg at this
    omega
  · exact ((hheld.regs.mono (by simp [callRegs])).trans (hregs.mono (by simp))).trans (htregs.mono (by simp))

theorem callRecArm_arms (h : CallNext s q c) (hop : c.op = 0x401) (hroom : AnswerRoom s q) (hn : c.arg 0 = n.val) (hact : c.arg 1 = 0) (hup : s.recUp n = true)
    (hidle : s.recState n = 0) : Runs (.callRecArm q) s (fun t => Answered s t q c 0 0 0 [] ∧ t.recState n = 1 ∧ t.rd (REC_C_PRE_FRAMES n) = 0 ∧
      RegsBut s t ((REC_C_STATUS n).off :: (REC_C_PRE_FRAMES n).off :: callRegs s q) ∧ t = { s with regs := t.regs, call := t.call, out := t.out }) := by
  have hexec : exec (.callRecArm q) s = .next (s.settle (((s.callTaken q c).recCtrl n 1).callAnswer q 0)) :=
    congrArg Host.Outcome.next (callRec_runs h hop hact (by decide) hn)
  obtain ⟨-, -, hupA, hstateA, -, -⟩ := (callTaken_held (s := s) (q := q) (c := c)).recC n
  rw [recCtrl_arm, State.recArm, if_pos (by rw [hupA, hstateA, hup, hidle]; rfl)] at hexec
  generalize ha : s.callTaken q c = a at hexec
  have hregs : RegsBut a ((a.setRecState n 1).wr (REC_C_PRE_FRAMES n) 0) [(REC_C_STATUS n).off, (REC_C_PRE_FRAMES n).off] := ((RegsBut.refl a _).setFld _ _ _).wr _ _
  obtain ⟨t, hrun, hanswered, hrd, htregs, hframe, hrecs⟩ := answered_after h hroom hexec ha.symm hregs
    (by simp only [REC_C_STATUS, REC_C_PRE_FRAMES, List.forall_mem_cons, List.not_mem_nil, false_imp_iff, implies_true, and_true]; omega) rfl
  have hrecs' : t.recs = s.recs := hrecs.trans (by rw [← ha]; rfl)
  rw [hrecs'] at hframe
  refine ⟨t, hrun, hanswered, ?_, ?_, htregs, hframe⟩
  · rw [State.recState, State.fld, hrd _ (by simp only [REC_C_STATUS]; omega), State.rd_wr_ne _ _ (by simp only [REC_C_STATUS, REC_C_PRE_FRAMES]; omega)]
    exact State.fld_setFld_self a (REC_C_STATUS n) REC_C_STATUS_STATE 1
  · rw [hrd _ (by simp only [REC_C_PRE_FRAMES]; omega), State.rd_wr_self]

theorem callRecDisarm_drops (h : CallNext s q c) (hop : c.op = 0x401) (hroom : AnswerRoom s q) (hn : c.arg 0 = n.val) (hact : c.arg 1 = 1) (harmed : s.recState n = 1) :
    Runs (.callRecDisarm q) s (fun t => Answered s t q c 0 0 0 [] ∧ t.recState n = 0 ∧ (t.recOf n).hold = [] ∧
      RegsBut s t ((REC_C_STATUS n).off :: (REC_C_PRE_FRAMES n).off :: callRegs s q) ∧ t = { s with regs := t.regs, call := t.call, recs := t.recs, out := t.out }) := by
  have hexec : exec (.callRecDisarm q) s = .next (s.settle (((s.callTaken q c).recCtrl n 2).callAnswer q 0)) :=
    congrArg Host.Outcome.next (callRec_runs h hop hact (by decide) hn)
  obtain ⟨-, -, -, hstateA, -, -⟩ := (callTaken_held (s := s) (q := q) (c := c)).recC n
  rw [recCtrl_disarm, State.recDisarm, if_pos (hstateA.trans harmed)] at hexec
  generalize ha : s.callTaken q c = a at hexec
  generalize hb : a.setRec n { a.recOf n with hold := [] } = b at hexec
  have hbframe : b = { a with recs := b.recs } := by rw [← hb]; rfl
  have hregs : RegsBut a ((b.setRecState n 0).wr (REC_C_PRE_FRAMES n) 0) [(REC_C_STATUS n).off, (REC_C_PRE_FRAMES n).off] :=
    (((RegsBut.refl a _).congr (by rw [hbframe])).setFld _ _ _).wr _ _
  obtain ⟨t, hrun, hanswered, hrd, htregs, hframe, hrecs⟩ := answered_after h hroom hexec ha.symm hregs
    (by simp only [REC_C_STATUS, REC_C_PRE_FRAMES, List.forall_mem_cons, List.not_mem_nil, false_imp_iff, implies_true, and_true]; omega) (by rw [hbframe]; rfl)
  refine ⟨t, hrun, hanswered, ?_, ?_, htregs, hframe⟩
  · rw [State.recState, State.fld, hrd _ (by simp only [REC_C_STATUS]; omega), State.rd_wr_ne _ _ (by simp only [REC_C_STATUS, REC_C_PRE_FRAMES]; omega)]
    exact State.fld_setFld_self b (REC_C_STATUS n) REC_C_STATUS_STATE 0
  · have hrecs' : t.recs = b.recs := hrecs
    rw [State.recOf, hrecs', ← hb]
    exact congrArg RecC.hold (State.recOf_setRec a n _)

/-- START of a Call, by the START_FAIL that it shows. -/
theorem callRecStart_exec (h : CallNext s q c) (hop : c.op = 0x401) (hn : c.arg 0 = n.val) (hact : c.arg 1 = 2) (hstart : (s.callTaken q c).recStart n = u) :
    exec (.callRecStart q) s = .next (s.settle (if u.fld (REC_C_STATUS n) REC_C_STATUS_START_FAIL = 0 then u.callWait q (.recStart n)
      else if u.fld (REC_C_STATUS n) REC_C_STATUS_START_FAIL = 4 && ((s.callTaken q c).vault.hold && (s.callTaken q c).bit (REC_C_CFG n) REC_C_CFG_ENCRYPT) then
        u.callAnswer q 3 0x0305
      else u.callAnswer q 4 (u.fld (REC_C_STATUS n) REC_C_STATUS_START_FAIL))) := by
  rw [← hstart]
  exact congrArg Host.Outcome.next (callRec_runs h hop hact (by decide) hn)

theorem callRecStart_unable (h : CallNext s q c) (hop : c.op = 0x401) (hroom : AnswerRoom s q) (hn : c.arg 0 = n.val) (hact : c.arg 1 = 2)
    (hno : ¬ (s.recUp n = true ∧ (s.recState n = 0 ∨ s.recState n = 1))) : Runs (.callRecStart q) s (fun t =>
      Answered s t q c 4 5 0 [] ∧ t.fld (REC_C_STATUS n) REC_C_STATUS_START_FAIL = 5 ∧ RegsBut s t ((REC_C_STATUS n).off :: callRegs s q) ∧
      t = { s with regs := t.regs, call := t.call, out := t.out }) := by
  obtain ⟨-, -, hupA, hstateA, -, -⟩ := (callTaken_held (s := s) (q := q) (c := c)).recC n
  have hunable : ¬ (s.callTaken q c).recAble n := by
    rw [State.recAble, hupA, hstateA]
    exact hno
  have hexec := callRecStart_exec h hop hn hact (recStart_unable hunable)
  have hfail := State.fld_setFld_self (s.callTaken q c) (REC_C_STATUS n) REC_C_STATUS_START_FAIL 5
  have hfail' : ((s.callTaken q c).setFld (REC_C_STATUS n) REC_C_STATUS_START_FAIL 5).fld (REC_C_STATUS n) REC_C_STATUS_START_FAIL = 5 := hfail
  rw [hfail', if_neg (by decide), if_neg (by rw [decide_eq_false (by decide), Bool.false_and]; exact Bool.false_ne_true)] at hexec
  generalize ha : s.callTaken q c = a at *
  have hregs : RegsBut a (a.setFld (REC_C_STATUS n) REC_C_STATUS_START_FAIL 5) [(REC_C_STATUS n).off] := (RegsBut.refl a _).setFld _ _ _
  obtain ⟨t, hrun, hanswered, hrd, htregs, hframe, hrecs⟩ := answered_after h hroom hexec ha.symm hregs
    (by simp only [REC_C_STATUS, List.forall_mem_cons, List.not_mem_nil, false_imp_iff, implies_true, and_true]; omega) rfl
  have hrecs' : t.recs = s.recs := hrecs.trans (by rw [← ha]; rfl)
  rw [hrecs'] at hframe
  refine ⟨t, hrun, hanswered, ?_, htregs, hframe⟩
  rw [State.fld, hrd _ (by simp only [REC_C_STATUS]; omega)]
  exact hfail'

theorem callRecStart_waits (h : CallNext s q c) (hop : c.op = 0x401) (hn : c.arg 0 = n.val) (hact : c.arg 1 = 2) (hable : s.recAble n)
    (hset : s.setState (s.recSet n) = 2) (hdir : s.dirFree (s.recSet n) ≠ none) (hfree : 4096 + footReserve 0 ≤ (s.mediaOf (s.recSet n)).free)
    (hrun : (s.mediaOf (s.recSet n)).findRun 4096 ≠ none) (hopen : s.bit (REC_C_CFG n) REC_C_CFG_ENCRYPT = false) (hsrc : s.fld (REC_C_CFG n) REC_C_CFG_SRC_TYPE = 0) :
    Runs (.callRecStart q) s (fun t => CallWaits s t q c (.recStart n) ∧ (t.recOf n).start = true ∧
      t.fld (REC_C_STATUS n) REC_C_STATUS_START_FAIL = 0 ∧ t = { s with regs := t.regs, call := t.call, recs := t.recs }) := by
  have hheld := callTaken_held (s := s) (q := q) (c := c)
  obtain ⟨hcfgA, -, hupA, hstateA, hsetA, hofA⟩ := hheld.recC n
  obtain ⟨-, hsA, -, -, hmA⟩ := hheld.mediaC (s.recSet n)
  have hable' : (s.callTaken q c).recAble n := by
    rw [State.recAble, hupA, hstateA]
    exact hable
  have hkey : (s.callTaken q c).clipKey n = ((s.callTaken q c).setRec n { (s.callTaken q c).recOf n with key := none }, true) := by
    refine if_pos ?_
    rw [State.bit, hcfgA]
    exact (congrArg (!·) hopen).trans rfl
  have hstart := recStart_keyed hable' (by rw [hsetA, hsA]; exact hset) (by rw [hsetA]; exact hdir) (by rw [hsetA, hmA]; exact hfree) (by rw [hsetA, hmA]; exact hrun)
  rw [hkey] at hstart
  obtain ⟨hstarted, -, -, -, hfail, -, hregs, hframe⟩ := recNamed_open (s.callTaken q c) n (by rw [State.fld, hcfgA]; exact hsrc) rfl
  generalize State.recNamed n ((s.callTaken q c).setRec n { (s.callTaken q c).recOf n with key := none }, true) = u at *
  have hexec := callRecStart_exec h hop hn hact hstart
  rw [if_pos hfail] at hexec
  have hucall : u.call = (s.callTaken q c).call := by rw [hframe]
  obtain ⟨hwaits, hwframe⟩ := callWait_after (u := u) (w := .recStart n) q.isLt (KeepsCalls.of_regsBut hucall hregs (by
    simp only [REC_C_STATUS, CallReg, List.forall_mem_cons, List.not_mem_nil, false_imp_iff, implies_true, and_true]
    omega))
  generalize u.callWait q (.recStart n) = t at *
  have hrecs : t.recs = u.recs := by rw [hwframe]
  have htregs : t.regs = u.regs := by rw [hwframe]
  have hframe' : t = { s with regs := t.regs, call := t.call, recs := t.recs } := by rw [hwframe, hframe, hheld.frame]
  have hocc : t.occ = s.occ := by rw [hframe']
  refine Runs.next (hexec.trans (congrArg Host.Outcome.next (State.settle_same hocc))) ⟨hwaits, ?_, ?_, hframe'⟩
  · rw [State.recOf, hrecs]
    exact hstarted
  · rw [State.fld, State.rd, htregs]
    exact hfail

theorem callRecStop_exec (h : CallNext s q c) (hop : c.op = 0x401) (hn : c.arg 0 = n.val) (hact : c.arg 1 = 3) : exec (.callRecStop q) s =
    .next (s.settle (if ((s.callTaken q c).recOf n).clip.isSome then ((s.callTaken q c).callWait q (.recSeal n)).recEnd n 1
      else ((s.callTaken q c).recEnd n 1).callAnswer q 4 6)) :=
  congrArg Host.Outcome.next (callRec_runs h hop hact (by decide) hn)

/-- STOP of a channel with no clip (log entry 80). -/
theorem callRecStop_none (h : CallNext s q c) (hop : c.op = 0x401) (hroom : AnswerRoom s q) (hn : c.arg 0 = n.val) (hact : c.arg 1 = 3) (hclip : (s.recOf n).clip = none)
    (hst : s.recState n ≠ 2) : JustAnswers (.callRecStop q) s q c 4 6 0 := by
  obtain ⟨-, -, -, hstateA, -, hofA⟩ := (callTaken_held (s := s) (q := q) (c := c)).recC n
  have hexec := callRecStop_exec h hop hn hact
  rw [hofA, hclip, if_neg (by decide), recEnd_idle (by rw [hstateA]; exact hst)] at hexec
  exact callNext_justAnswers h q.isLt hroom hexec

/-- Issuing a clip's data leaves the queues of Calls. -/
theorem clipIssued_call (s : State) (c : Nat) (k : Clip) (n p lba blocks : Nat) (data : List Byte) (use : NvUse) : (s.clipIssued c k n p lba blocks data use).call = s.call := by
  rw [State.clipIssued, nvIssue_frame]
  rfl

theorem recIssue_call {c : Nat} {force : Bool} : ∀ (fuel : Nat) {s : State} {k : Clip}, (s.recOf c).clip = some k → (s.recIssue c force fuel).call = s.call
  | 0, _, _, _ => rfl
  | fuel + 1, s, k, h => by
    rcases recIssue_cases (force := force) (fuel := fuel) h with hstop | ⟨n, p, lba, blocks, data, use, hlast | hmore⟩
    · rw [hstop]
    · rw [hlast, clipIssued_call]
    · rw [hmore, recIssue_call fuel (clipIssued_fed s c k n p lba blocks data use).1, clipIssued_call]

theorem recFeed_call {s : State} {c : Nat} {force : Bool} {k : Clip} (h : (s.recOf c).clip = some k) : (s.recFeed c force).call = s.call := by
  unfold State.recFeed
  simp only [h]
  exact recIssue_call _ h

theorem sealBegin_call {s : State} {c : Nat} {k : Clip} (hclip : (s.recOf c).clip = some k) (hp : s.log.pfail = false) (hcks : k.cks = []) (hdone : k.done < k.file.length) :
    (s.sealBegin c).call = s.call := by
  obtain ⟨u, foot, fresh, ⟨huframe, -⟩, hseal⟩ := sealBegin_eq hclip hp
  generalize hv : u.sealFiled c k foot fresh = v at hseal
  have hvclip : (v.recOf c).clip = some { k with file := k.file ++ foot, fresh := k.fresh ++ fresh, cks := k.cks ++ [⟨0, (k.file ++ foot).length, k.frames, 1, 0⟩] } := by
    rw [← hv]
    exact congrArg RecC.clip (State.recOf_setRec u c _)
  have hvcall : v.call = s.call := by
    rw [← hv, huframe]
    rfl
  obtain ⟨⟨n, hn⟩, -⟩ := recFeed_fed (force := true) hvclip
  rw [ckptRun_waits hn (by rw [hcks]; rfl) rfl (by rw [List.length_append]; exact Nat.lt_of_lt_of_le hdone (Nat.le_add_right _ _))] at hseal
  rw [hseal, recFeed_call hvclip, hvcall]

/-- The end of a recording clip keeps the queues of Calls. -/
theorem clipEnds_keeps {s : State} {n : Fin 8} {k : Clip} (hclip : (s.recOf n).clip = some k) : KeepsCalls s (s.clipEnds n 1) := by
  unfold State.clipEnds
  simp only [hclip]
  refine KeepsCalls.of_regsBut (os := [(REC_C_STATUS n).off, (REC_C_LAST_FRAME n).off]) rfl
    (((((RegsBut.refl s _).congr (u := s.setClip n { k with cause := 1 })).setFld _ _ _).setFld _ _ _).wr _ _) ?_
  simp only [REC_C_STATUS, REC_C_LAST_FRAME, CallReg, List.forall_mem_cons, List.not_mem_nil, false_imp_iff, implies_true, and_true]
  omega

theorem callRecStop_seals {k : Clip} (h : CallNext s q c) (hop : c.op = 0x401) (hn : c.arg 0 = n.val) (hact : c.arg 1 = 3) (hclip : (s.recOf n).clip = some k)
    (hst : s.recState n = 2) (hcause : k.cause = 0) (hwait : k.wait = []) (hcks : k.cks = []) (hdone : k.done < k.file.length) (hp : s.log.pfail = false) :
    Runs (.callRecStop q) s (fun t => CallWaits s t q c (.recSeal n) ∧ t.recState n = 3 ∧ t.fld (REC_C_STATUS n) REC_C_STATUS_CAUSE = 1) := by
  have hexec := callRecStop_exec h hop hn hact
  obtain ⟨-, -, -, -, -, hofA⟩ := (callTaken_held (s := s) (q := q) (c := c)).recC n
  rw [hofA, hclip, if_pos (show (some k).isSome = true from rfl)] at hexec
  have hheld := callWait_held (s := s) (q := q) (c := c) (w := .recSeal n)
  have hwaits := fun u hu => callWait_waits (s := s) (q := q) (c := c) (u := u) (w := .recSeal n) q.isLt hu
  generalize (s.callTaken q c).callWait q (.recSeal n) = v at *
  obtain ⟨-, -, -, hstateV, -, hofV⟩ := hheld.recC n
  rw [recEnd_eq (hstateV.trans hst) ((congrArg RecC.clip hofV).trans hclip) hcause hwait] at hexec
  generalize ha : v.setClip n { k with cause := 1 } = a at hexec
  have hof : (a.recOf n).clip = some { k with cause := 1 } := ha ▸ congrArg RecC.clip (State.recOf_setRec v n _)
  have hlog : a.log = s.log := by rw [← ha, hheld.frame]; rfl
  have hkeepsA : KeepsCalls v a := by rw [← ha]; exact ⟨rfl, RegsIn.refl _ v⟩
  have hkeepsB := clipEnds_keeps hof
  generalize hb : a.clipEnds n 1 = b at *
  obtain ⟨hbclip, hbstate, hbcause, -, hblog⟩ := clipEnds_shows hof hb
  have hbp : b.log.pfail = false := by rw [hblog, hlog]; exact hp
  have hcall := sealBegin_call hbclip hbp hcks hdone
  obtain ⟨-, hregs⟩ := sealBegin_shows hbclip hbp hcks hdone rfl
  generalize b.sealBegin n = t at *
  have hkeeps : KeepsCalls v t := (hkeepsA.trans hkeepsB).trans ⟨hcall, fun o ho => hregs o fun hm => ho fun hc => by
    unfold MediaReg at hm
    unfold CallReg at hc
    omega⟩
  have hstatus : t.rd (REC_C_STATUS n) = b.rd (REC_C_STATUS n) := hregs.rd (by simp only [MediaReg, REC_C_STATUS]; omega)
  exact Runs.next hexec ⟨hwaits t hkeeps, (congrArg REC_C_STATUS_STATE.get hstatus).trans hbstate, (congrArg REC_C_STATUS_CAUSE.get hstatus).trans hbcause⟩

end

theorem recordCalls : RecordCalls := by
  unfold RecordCalls
  intro q c n s h hop
  exact ⟨fun hroom hbad hact => callRecArm_bad h hop hroom hbad hact, fun hroom hn hact => callRecArm_badAction h hop hroom hn hact,
    fun hroom hn hact hup hidle => callRecArm_arms h hop hroom hn hact hup hidle, fun hroom hn hact harmed => callRecDisarm_drops h hop hroom hn hact harmed,
    fun hroom hn hact hno => callRecStart_unable h hop hroom hn hact hno,
    fun hn hact hup hst hset hdir hfree hrun hopen hsrc => callRecStart_waits h hop hn hact ⟨hup, hst⟩ hset hdir hfree hrun hopen hsrc,
    fun hroom hn hact hclip hst => callRecStop_none h hop hroom hn hact hclip hst,
    fun k hn hact hclip hst hcause hwait hcks hdone hp => callRecStop_seals h hop hn hact hclip hst hcause hwait hcks hdone hp⟩

/-! ### Media sets (R362, R366, R367) -/

section
variable {s u : State} {q : Fin 16} {c : Call} {m : Fin 4}

theorem callSetMount_exec (h : CallNext s q c) (hop : c.op = 0x402) : exec (.callSetMount q) s = .next (s.settle ((s.callTaken q c).callArgs q [(0, decide (3 < c.arg 0))] (fun s =>
    let m := c.arg 0
    if !bitOf (s.rd (REC_M_CFG m)) 4 || s.setBusy m then s.callAnswer q 4 (s.setState m) else (s.callWait q (.mount m)).setMount m))) :=
  congrArg Host.Outcome.next (callRun_taken h hop)

theorem callSetFormat_exec (h : CallNext s q c) (hop : c.op = 0x403) : exec (.callSetFormat q) s = .next (s.settle ((s.callTaken q c).callArgs q
    [(0, decide (3 < c.arg 0)), (1, c.arg 1 != 0x5A)] (fun s =>
      let r := s.setFormat (c.arg 0) (c.arg 1)
      if r.2 then r.1.callWait q (.format (c.arg 0)) else r.1.callAnswer q 4 1))) :=
  congrArg Host.Outcome.next (callRun_taken h hop)

theorem callClipDelete_exec (h : CallNext s q c) (hop : c.op = 0x404) : exec (.callClipDelete q) s = .next (s.settle ((s.callTaken q c).callArgs q
    [(0, decide (3 < c.arg 0)), (1, decide (32767 < c.arg 1))] (fun s =>
      let r := s.clipDelete (c.arg 0) (c.arg 1)
      if r.2 then r.1.callWait q (.delete (c.arg 0) (c.arg 1)) else r.1.callAnswer q 4 1))) :=
  congrArg Host.Outcome.next (callRun_taken h hop)

theorem callDirRead_exec (h : CallNext s q c) (hop : c.op = 0x405) : exec (.callDirRead q) s = .next (s.settle ((s.callTaken q c).callArgs q
    [(0, decide (3 < c.arg 0)), (1, decide (32767 < c.arg 1)), (2, decide (32768 < c.arg 1 + c.arg 2))] (fun s =>
      let n := c.arg 2
      if !c.dataOk (1024 * n) then s.callAnswer q 5
      else (s.emit (.hostWrite c.addr ((List.range n).flatMap (fun i => s.dirCopy (c.arg 0) (c.arg 1 + i))))).callAnswer q 0 n))) :=
  congrArg Host.Outcome.next (callRun_taken h hop)

/-- A set's index out of range is answered as argument 0. -/
theorem mediaCalls_badIndex {i : Instr} (h : CallNext s q c) (hroom : AnswerRoom s q) (hi : (c.op = 0x402 ∧ i = Instr.callSetMount q) ∨ (c.op = 0x403 ∧ i = .callSetFormat q) ∨
    (c.op = 0x404 ∧ i = .callClipDelete q) ∨ (c.op = 0x405 ∧ i = .callDirRead q)) (hbad : 3 < c.arg 0) : JustAnswers i s q c 2 0 0 := by
  refine callNext_justAnswers h q.isLt hroom ?_
  rcases hi with ⟨hop, rfl⟩ | ⟨hop, rfl⟩ | ⟨hop, rfl⟩ | ⟨hop, rfl⟩
  · rw [callSetMount_exec h hop, callArgs_one_bad (decide_eq_true hbad)]
  · rw [callSetFormat_exec h hop, callArgs_first_bad _ (decide_eq_true hbad)]
  · rw [callClipDelete_exec h hop, callArgs_first_bad _ (decide_eq_true hbad)]
  · rw [callDirRead_exec h hop, callArgs_first_bad _ (decide_eq_true hbad)]

theorem callSetMount_refused (h : CallNext s q c) (hroom : AnswerRoom s q) (hop : c.op = 0x402) (hm : c.arg 0 = m.val)
    (hno : (s.rd (REC_M_CFG m)).getLsbD 4 = false ∨ s.setBusy m = true) : JustAnswers (.callSetMount q) s q c 4 (s.setState m) 0 := by
  obtain ⟨hcfg, hst, hbusy, -, -⟩ := (callTaken_held (s := s) (q := q) (c := c)).mediaC m
  have hexec := callSetMount_exec h hop
  have hlt := m.isLt
  rw [callArgs_one_good (decide_eq_false (by omega)), hm] at hexec
  dsimp only at hexec
  rw [if_pos (by rw [hcfg, hbusy, Bool.or_eq_true, Bool.not_eq_true']; exact hno), hst] at hexec
  exact callNext_justAnswers h q.isLt hroom hexec

/-- What MOUNT of a set that is free leaves. -/
theorem setMount_shows {v : State} (hcfg : (v.rd (REC_M_CFG m)).getLsbD 4 = true) (hbusy : v.setBusy m = false) : (v.setMount m).setState m = 1 ∧
    RegsBut v (v.setMount m) [(REC_M_STATUS m).off] ∧ v.setMount m = { v with regs := (v.setMount m).regs, nv := (v.setMount m).nv, out := (v.setMount m).out } := by
  rw [setMount_reads hcfg hbusy rfl]
  have honly : OnlyRegs v ((v.setSetState m 1).setFld (REC_M_STATUS m) ⟨15, 12⟩ 0) := ((OnlyRegs.refl v).setFld _ _ _).setFld _ _ _
  have hregs : RegsBut v ((v.setSetState m 1).setFld (REC_M_STATUS m) ⟨15, 12⟩ 0) [(REC_M_STATUS m).off] := ((RegsBut.refl v _).setFld _ _ _).setFld _ _ _
  have hstate : ((v.setSetState m 1).setFld (REC_M_STATUS m) ⟨15, 12⟩ 0).setState m = 1 :=
    (State.fld_setFld_ne (v.setSetState m 1) (REC_M_STATUS m) (f := ⟨15, 12⟩) (g := ⟨2, 0⟩) 0).trans (State.fld_setFld_self v (REC_M_STATUS m) ⟨2, 0⟩ 1)
  generalize (v.setSetState m 1).setFld (REC_M_STATUS m) ⟨15, 12⟩ 0 = a at *
  have hframe : DriveFrame a ((a.setPorts m).foldl (fun s p => s.nvIssue p 2 0 2 [] (.set m)) a) := DriveFrame.foldl (fun _ _ => DriveFrame.nvIssue ..) _ _
  generalize (a.setPorts m).foldl (fun s p => s.nvIssue p 2 0 2 [] (.set m)) a = t at *
  have htregs : t.regs = a.regs := hframe.field State.regs
  rw [DriveFrame] at hframe
  rw [OnlyRegs] at honly
  refine ⟨?_, hregs.congr htregs, by rw [hframe, honly]⟩
  rw [State.setState, State.rd, htregs]
  exact hstate

theorem recStatus_notCall : ∀ o ∈ [(REC_M_STATUS m).off], ¬ CallReg o := by
  intro o ho
  rw [List.mem_singleton.1 ho]
  simp only [CallReg, REC_M_STATUS]
  omega

theorem callSetMount_waits (h : CallNext s q c) (hop : c.op = 0x402) (hm : c.arg 0 = m.val) (hen : (s.rd (REC_M_CFG m)).getLsbD 4 = true) (hfree : s.setBusy m = false) :
    Runs (.callSetMount q) s (fun t => CallWaits s t q c (.mount m) ∧ t.setState m = 1 ∧ t = { s with regs := t.regs, call := t.call, nv := t.nv, out := t.out }) := by
  obtain ⟨hcfg, -, hbusy, -, -⟩ := (callTaken_held (s := s) (q := q) (c := c)).mediaC m
  have hexec := callSetMount_exec h hop
  have hlt := m.isLt
  rw [callArgs_one_good (decide_eq_false (by omega)), hm] at hexec
  dsimp only at hexec
  rw [if_neg (by rw [hcfg, hbusy, hfree, bitOf, hen]; decide)] at hexec
  have hheld := callWait_held (s := s) (q := q) (c := c) (w := .mount m)
  have hwaits := fun u hu => callWait_waits (s := s) (q := q) (c := c) (u := u) (w := .mount m) q.isLt hu
  generalize (s.callTaken q c).callWait q (.mount m) = v at *
  obtain ⟨hcfgV, -, hbusyV, -, -⟩ := hheld.mediaC m
  obtain ⟨hst, hregs, hframe⟩ := setMount_shows (v := v) (m := m) (by rw [hcfgV]; exact hen) (hbusyV.trans hfree)
  generalize v.setMount m = t at *
  have hframe' : t = { s with regs := t.regs, call := t.call, nv := t.nv, out := t.out } := by rw [hframe, hheld.frame]
  have hocc : t.occ = s.occ := by rw [hframe']
  have hcall : t.call = v.call := by rw [hframe]
  exact Runs.next (hexec.trans (congrArg Host.Outcome.next (State.settle_same hocc)))
    ⟨hwaits t (KeepsCalls.of_regsBut hcall hregs recStatus_notCall), hst, hframe'⟩

theorem callSetFormat_key (h : CallNext s q c) (hroom : AnswerRoom s q) (hop : c.op = 0x403) (hm : c.arg 0 = m.val) (hkey : c.arg 1 ≠ 0x5A) :
    JustAnswers (.callSetFormat q) s q c 2 1 0 := by
  have hexec := callSetFormat_exec h hop
  have hlt := m.isLt
  rw [callArgs_first_good _ (decide_eq_false (by omega)), callArgs_one_bad (bne_iff_ne.2 hkey)] at hexec
  exact callNext_justAnswers h q.isLt hroom hexec

/-- What FORMAT of a set that is free leaves. -/
theorem setFormat_shows {v : State} (hcfg : (v.rd (REC_M_CFG m)).getLsbD 4 = true) (hbusy : v.setBusy m = false) : (v.setFormat m 0x5A).1.setState m = 0 ∧
    (v.setFormat m 0x5A).1.mediaOf m = { disks := v.setPorts m } ∧ RegsBut v (v.setFormat m 0x5A).1 [(REC_M_STATUS m).off] ∧
    (v.setFormat m 0x5A).1 = { v with
      regs := (v.setFormat m 0x5A).1.regs
      nv := (v.setFormat m 0x5A).1.nv
      sets := (v.setFormat m 0x5A).1.sets
      out := (v.setFormat m 0x5A).1.out } := by
  rw [setFormat_eq hcfg hbusy]
  have honly : OnlyRegs v (v.setSetState m 0) := (OnlyRegs.refl v).setFld _ _ _
  have hregs : RegsBut v (v.setSetState m 0) [(REC_M_STATUS m).off] := (RegsBut.refl v _).setFld _ _ _
  have hstate : (v.setSetState m 0).setState m = 0 := State.fld_setFld_self v (REC_M_STATUS m) ⟨2, 0⟩ 0
  generalize v.setSetState m 0 = a at *
  generalize hb : (v.setPorts m).foldl (State.driveFormatted m) a = b
  have hbframe : DriveFrame a b := hb ▸ DriveFrame.foldl (driveFormatted_frame m) _ _
  have hof := State.mediaOf_setMedia b m { disks := v.setPorts m }
  have hcframe : b.setMedia m { disks := v.setPorts m } = { b with sets := (b.setMedia m { disks := v.setPorts m }).sets } := rfl
  generalize b.setMedia m { disks := v.setPorts m } = d at *
  have htframe := setCleared_frame d m
  generalize d.setCleared m = t at *
  have htregs : t.regs = a.regs := (htframe.field State.regs).trans ((congrArg State.regs hcframe).trans (hbframe.field State.regs))
  have hsets : t.sets = d.sets := htframe.field State.sets
  refine ⟨?_, by rw [State.mediaOf, hsets]; exact hof, hregs.congr htregs, ?_⟩
  · rw [State.setState, State.rd, htregs]
    exact hstate
  · rw [DriveFrame] at htframe hbframe
    rw [OnlyRegs] at honly
    rw [htframe, hcframe, hbframe, honly]

theorem callSetFormat_waits (h : CallNext s q c) (hop : c.op = 0x403) (hm : c.arg 0 = m.val) (hkey : c.arg 1 = 0x5A) (hen : (s.rd (REC_M_CFG m)).getLsbD 4 = true)
    (hfree : s.setBusy m = false) : Runs (.callSetFormat q) s (fun t => CallWaits s t q c (.format m) ∧ t.setState m = 0 ∧ t.mediaOf m = { disks := s.setPorts m } ∧
      t = { s with regs := t.regs, call := t.call, nv := t.nv, sets := t.sets, out := t.out }) := by
  have hheld := callTaken_held (s := s) (q := q) (c := c)
  obtain ⟨hcfg, -, hbusy, hports, -⟩ := hheld.mediaC m
  have hexec := callSetFormat_exec h hop
  have hlt := m.isLt
  rw [callArgs_first_good _ (decide_eq_false (by omega)), callArgs_one_good (by rw [hkey]; rfl), hm, hkey] at hexec
  dsimp only at hexec
  have hok : ((s.callTaken q c).setFormat m 0x5A).2 = true := by
    unfold State.setFormat
    rw [if_neg (by rw [hcfg, bitOf, hen]; decide), if_neg (by rw [hbusy, hfree]; exact Bool.false_ne_true)]
  rw [if_pos hok] at hexec
  obtain ⟨hst, hof, hregs, hframe⟩ := setFormat_shows (v := s.callTaken q c) (m := m) (by rw [hcfg]; exact hen) (hbusy.trans hfree)
  generalize ((s.callTaken q c).setFormat m 0x5A).1 = u at *
  have hucall : u.call = (s.callTaken q c).call := by rw [hframe]
  obtain ⟨hwaits, hwframe⟩ := callWait_after (u := u) (w := .format m) q.isLt (KeepsCalls.of_regsBut hucall hregs recStatus_notCall)
  generalize u.callWait q (.format m) = t at *
  have htregs : t.regs = u.regs := by rw [hwframe]
  have htsets : t.sets = u.sets := by rw [hwframe]
  have hframe' : t = { s with regs := t.regs, call := t.call, nv := t.nv, sets := t.sets, out := t.out } := by rw [hwframe, hframe, hheld.frame]
  have hocc : t.occ = s.occ := by rw [hframe']
  refine Runs.next (hexec.trans (congrArg Host.Outcome.next (State.settle_same hocc))) ⟨hwaits, ?_, ?_, hframe'⟩
  · rw [State.setState, State.rd, htregs]
    exact hst
  · rw [State.mediaOf, htsets, ← hports]
    exact hof

theorem callSetFormat_unused (h : CallNext s q c) (hroom : AnswerRoom s q) (hop : c.op = 0x403) (hm : c.arg 0 = m.val) (hkey : c.arg 1 = 0x5A)
    (hen : (s.rd (REC_M_CFG m)).getLsbD 4 = false) : JustAnswers (.callSetFormat q) s q c 4 1 0 := by
  obtain ⟨hcfg, -, -, -, -⟩ := (callTaken_held (s := s) (q := q) (c := c)).mediaC m
  have hexec := callSetFormat_exec h hop
  have hlt := m.isLt
  have hno : (s.callTaken q c).setFormat m 0x5A = (s.callTaken q c, false) := if_pos (by rw [hcfg, bitOf, hen]; rfl)
  rw [callArgs_first_good _ (decide_eq_false (by omega)), callArgs_one_good (by rw [hkey]; rfl), hm, hkey, hno] at hexec
  exact callNext_justAnswers h q.isLt hroom hexec

theorem callClipDelete_unmounted (h : CallNext s q c) (hroom : AnswerRoom s q) (hop : c.op = 0x404) (hm : c.arg 0 = m.val) (he : c.arg 1 ≤ 32767)
    (hst : s.setState m ≠ 2) : JustAnswers (.callClipDelete q) s q c 4 1 0 := by
  obtain ⟨-, hstA, -, -, -⟩ := (callTaken_held (s := s) (q := q) (c := c)).mediaC m
  have hexec := callClipDelete_exec h hop
  have hlt := m.isLt
  have hno : (s.callTaken q c).clipDelete m (c.arg 1) = (s.callTaken q c, false) := if_pos (by
    rw [hstA, bne_iff_ne.2 hst]
    simp only [Bool.true_or])
  rw [callArgs_first_good _ (decide_eq_false (by omega)), callArgs_one_good (decide_eq_false (by omega)), hm, hno] at hexec
  exact callNext_justAnswers h q.isLt hroom hexec

/-- What the deletion of a sealed clip leaves: one journal record more. -/
theorem clipDelete_shows {v : State} {e : Nat} (hst : v.setState m = 2) (he : e ≤ 32767)
    (hstate : (tabGet (v.mediaOf m).dir {} e).state = 2 ∨ (tabGet (v.mediaOf m).dir {} e).state = 3) (hkind : (tabGet (v.mediaOf m).dir {} e).kind ≠ 2) :
    (v.clipDelete m e).2 = true ∧ (v.clipDelete m e).1.mediaOf m = { v.mediaOf m with jSeq := (v.mediaOf m).jSeq + 1, jBlock := ((v.mediaOf m).jBlock + 1) % 65536 } ∧
      (v.clipDelete m e).1.call = v.call ∧ (v.clipDelete m e).1.regs = v.regs := by
  have hcond : ¬ (v.setState m != 2 || decide ((tabGet (v.mediaOf m).dir {} e).state = 0) || decide ((tabGet (v.mediaOf m).dir {} e).state = 1) ||
      decide ((tabGet (v.mediaOf m).dir {} e).state = 4) || decide ((tabGet (v.mediaOf m).dir {} e).kind = 2) || decide (32768 ≤ e)) = true := by
    simp only [Bool.or_eq_true, bne_iff_ne, decide_eq_true_eq]
    omega
  have hdel : v.clipDelete m e = ((v.journal m (.delete m e 1) 1 [⟨4, 0xFF, e, 0, 0⟩]).1, true) := if_neg hcond
  rw [hdel, journal_one v m _ _ rfl]
  have hof := State.mediaOf_setMedia v m { v.mediaOf m with jSeq := (v.mediaOf m).jSeq + 1, jBlock := ((v.mediaOf m).jBlock + 1) % 65536 }
  generalize hx : ({ v.mediaOf m with jSeq := (v.mediaOf m).jSeq + 1, jBlock := ((v.mediaOf m).jBlock + 1) % 65536 } : RecSet) = x at *
  have haframe : v.setMedia m x = { v with sets := (v.setMedia m x).sets } := rfl
  generalize v.setMedia m x = a at *
  generalize sliceAt (jrecBytes (v.mediaOf m).jSeq ⟨4, 0xFF, e, 0, 0⟩ v.ns) 0 4096 = data
  have hframe : DriveFrame a (a.setWrite m ((v.mediaOf m).jBlock / 1024) ((v.mediaOf m).jBlock % 1024) data (.delete m e 1)) := DriveFrame.nvIssue ..
  generalize a.setWrite m ((v.mediaOf m).jBlock / 1024) ((v.mediaOf m).jBlock % 1024) data (.delete m e 1) = t at *
  refine ⟨rfl, ?_, ?_, ?_⟩
  · have : t.sets = a.sets := hframe.field State.sets
    exact (congrArg (fun z => tabGet z ({} : RecSet) m) this).trans hof
  · exact (hframe.field State.call).trans (by rw [haframe])
  · exact (hframe.field State.regs).trans (by rw [haframe])

theorem callClipDelete_waits (h : CallNext s q c) (hop : c.op = 0x404) (hm : c.arg 0 = m.val) (he : c.arg 1 ≤ 32767) (hst : s.setState m = 2)
    (hstate : (tabGet (s.mediaOf m).dir {} (c.arg 1)).state = 2 ∨ (tabGet (s.mediaOf m).dir {} (c.arg 1)).state = 3) (hkind : (tabGet (s.mediaOf m).dir {} (c.arg 1)).kind ≠ 2) :
    Runs (.callClipDelete q) s (fun t => CallWaits s t q c (.delete m (c.arg 1)) ∧
      t.mediaOf m = { s.mediaOf m with jSeq := (s.mediaOf m).jSeq + 1, jBlock := ((s.mediaOf m).jBlock + 1) % 65536 }) := by
  obtain ⟨-, hstA, -, -, hofA⟩ := (callTaken_held (s := s) (q := q) (c := c)).mediaC m
  have hexec := callClipDelete_exec h hop
  have hlt := m.isLt
  rw [callArgs_first_good _ (decide_eq_false (by omega)), callArgs_one_good (decide_eq_false (by omega)), hm] at hexec
  dsimp only at hexec
  obtain ⟨hok, hof, hcall, hregs⟩ := clipDelete_shows (v := s.callTaken q c) (m := m) (e := c.arg 1) (hstA.trans hst) he (by rw [hofA]; exact hstate) (by rw [hofA]; exact hkind)
  rw [if_pos hok] at hexec
  generalize ((s.callTaken q c).clipDelete m (c.arg 1)).1 = u at *
  obtain ⟨hwaits, hwframe⟩ := callWait_after (u := u) (w := .delete m (c.arg 1)) q.isLt ⟨hcall, (RegsIn.refl _ _).congr hregs⟩
  generalize u.callWait q (.delete m (c.arg 1)) = t at *
  have htsets : t.sets = u.sets := by rw [hwframe]
  refine Runs.next hexec ⟨hwaits, ?_⟩
  rw [← hofA]
  exact (congrArg (fun z => tabGet z ({} : RecSet) m) htsets).trans hof

theorem callDirRead_answers (h : CallNext s q c) (hroom : AnswerRoom s q) (hop : c.op = 0x405) (hm : c.arg 0 = m.val) (he : c.arg 1 ≤ 32767) (hn : c.arg 1 + c.arg 2 ≤ 32768)
    (haddr : c.addr ≠ 0) (hlen : 1024 * c.arg 2 ≤ c.len) : Runs (.callDirRead q) s (fun t =>
      Answered s t q c 0 (c.arg 2) 0 [.hostWrite c.addr ((List.range (c.arg 2)).flatMap (fun i => s.dirCopy m (c.arg 1 + i)))] ∧
      RegsBut s t (callRegs s q) ∧ t = { s with regs := t.regs, call := t.call, out := t.out }) := by
  have hexec := callDirRead_exec h hop
  have hlt := m.isLt
  rw [callArgs_first_good _ (decide_eq_false (by omega)), callArgs_first_good _ (decide_eq_false (by omega)), callArgs_one_good (decide_eq_false (by omega)), hm] at hexec
  dsimp only at hexec
  rw [if_neg (by rw [Call.dataOk, bne_iff_ne.2 haddr, decide_eq_true hlen]; decide)] at hexec
  have hheld := callTaken_held (s := s) (q := q) (c := c)
  have hcopy (e : Nat) : (s.callTaken q c).dirCopy m e = s.dirCopy m e := rfl
  simp only [hcopy] at hexec
  have hanswer := fun u out hu ho => callNext_answered (status := 0) (r0 := c.arg 2) (r1 := 0) (u := u) (out := out) h q.isLt hroom hu ho
  generalize s.callTaken q c = a at *
  generalize (List.range (c.arg 2)).flatMap (fun i => s.dirCopy m (c.arg 1 + i)) = data at *
  have hout : (a.emit (.hostWrite c.addr data)).out = s.out ++ [.hostWrite c.addr data] := by
    have : a.out = s.out := by rw [hheld.frame]
    exact congrArg (· ++ [_]) this
  have huframe : a.emit (.hostWrite c.addr data) = { a with out := (a.emit (.hostWrite c.addr data)).out } := rfl
  generalize a.emit (.hostWrite c.addr data) = u at *
  have hucall : u.call = a.call := by rw [huframe]
  have huregs : u.regs = a.regs := by rw [huframe]
  obtain ⟨hanswered, htregs, hframe⟩ := hanswer u [.hostWrite c.addr data] ⟨hucall, (RegsIn.refl _ _).congr huregs⟩ hout
  generalize u.callAnswer q 0 (c.arg 2) = t at *
  have hframe' : t = { s with regs := t.regs, call := t.call, out := t.out } := by rw [hframe, huframe, hheld.frame]
  have hocc : t.occ = s.occ := by rw [hframe']
  exact Runs.next (hexec.trans (congrArg Host.Outcome.next (State.settle_same hocc)))
    ⟨hanswered, ((hheld.regs.mono (by simp [callRegs])).congr huregs).trans htregs, hframe'⟩

theorem callDirRead_badCount (h : CallNext s q c) (hroom : AnswerRoom s q) (hop : c.op = 0x405) (hm : c.arg 0 = m.val) (he : c.arg 1 ≤ 32767)
    (hn : 32768 < c.arg 1 + c.arg 2) : JustAnswers (.callDirRead q) s q c 2 2 0 := by
  have hexec := callDirRead_exec h hop
  have hlt := m.isLt
  rw [callArgs_first_good _ (decide_eq_false (by omega)), callArgs_first_good _ (decide_eq_false (by omega)), callArgs_one_bad (decide_eq_true hn)] at hexec
  exact callNext_justAnswers h q.isLt hroom hexec

/-! ### Stores (R228) and the Vault (R465, R467) -/

theorem callCalLoad_exec (h : CallNext s q c) (hop : c.op = 0x201) : exec (.callCalLoad q) s = .next (s.settle ((s.callTaken q c).callArgs q [(2, decide (1 < c.arg 2))] (fun s =>
    if !s.g7Span (c.arg 0) (c.arg 1) then s.callAnswer q 5
    else (s.callWait q (.cal q)).vaultAsk { cls := 1 + c.arg 2, data := s.memRead (c.arg 0) (c.arg 1), path := q }))) :=
  congrArg Host.Outcome.next (callRun_taken h hop)

theorem vaultRegs_notCall : ∀ o ∈ vaultShown, ¬ CallReg o := fun o ho hc => by
  have := (vaultShown_span (evs := []) _ ho).resolve_right List.not_mem_nil
  unfold CallReg at hc
  omega

/-- What a verification asked for leaves. -/
theorem vaultAsk_shows (v : State) (x : VVerify) : (v.vaultAsk x).vault.verify = v.vault.verify ++ [x] ∧ KeepsCalls v (v.vaultAsk x) ∧
    v.vaultAsk x = { v with regs := (v.vaultAsk x).regs, vault := (v.vaultAsk x).vault } := by
  have hframe := State.vaultAsk_frame v x
  refine ⟨?_, KeepsCalls.of_regsBut (os := vaultShown) (by rw [hframe]) (fun o ho => State.setVault_regs _ _ o ho) vaultRegs_notCall, hframe⟩
  unfold State.vaultAsk
  dsimp only
  rw [State.setVault_vault]

theorem callCalLoad_waits (h : CallNext s q c) (hop : c.op = 0x201) (hcls : c.arg 2 ≤ 1) (hspan : c.arg 0 + c.arg 1 ≤ s.g7Open) : Runs (.callCalLoad q) s (fun t =>
      CallWaits s t q c (.cal q) ∧ t.vault.verify = s.vault.verify ++ [⟨1 + c.arg 2, (List.range (c.arg 1)).map (fun k => s.mem (c.arg 0 + k)), q⟩] ∧
      t = { s with regs := t.regs, call := t.call, vault := t.vault }) := by
  have hexec := callCalLoad_exec h hop
  have hread : (s.callTaken q c).memRead (c.arg 0) (c.arg 1) = (List.range (c.arg 1)).map (fun k => s.mem (c.arg 0 + k)) := memRead_eq_map s _ _
  rw [callArgs_one_good (decide_eq_false (by omega)),
    if_neg (by rw [State.g7Span, g7Open_held callTaken_held, decide_eq_true hspan]; decide), hread] at hexec
  have hheld := callWait_held (s := s) (q := q) (c := c) (w := .cal q)
  have hwaits := fun u hu => callWait_waits (s := s) (q := q) (c := c) (u := u) (w := .cal q) q.isLt hu
  generalize (s.callTaken q c).callWait q (.cal q) = v at *
  generalize (List.range (c.arg 1)).map (fun k => s.mem (c.arg 0 + k)) = data at *
  obtain ⟨hverify, hkeeps, hframe⟩ := vaultAsk_shows v ⟨1 + c.arg 2, data, q⟩
  generalize v.vaultAsk ⟨1 + c.arg 2, data, q⟩ = t at *
  have hframe' : t = { s with regs := t.regs, call := t.call, vault := t.vault } := by rw [hframe, hheld.frame]
  have hocc : t.occ = s.occ := by rw [hframe']
  have hvault : v.vault = s.vault := by rw [hheld.frame]
  exact Runs.next (hexec.trans (congrArg Host.Outcome.next (State.settle_same hocc))) ⟨hwaits t hkeeps, by rw [hverify, hvault], hframe'⟩

theorem callCalLoad_bad (h : CallNext s q c) (hroom : AnswerRoom s q) (hop : c.op = 0x201) (hcls : 1 < c.arg 2) : JustAnswers (.callCalLoad q) s q c 2 2 0 := by
  have hexec := callCalLoad_exec h hop
  rw [callArgs_one_bad (decide_eq_true hcls)] at hexec
  exact callNext_justAnswers h q.isLt hroom hexec

theorem callCalLoad_outside (h : CallNext s q c) (hroom : AnswerRoom s q) (hop : c.op = 0x201) (hcls : c.arg 2 ≤ 1) (hspan : s.g7Open < c.arg 0 + c.arg 1) :
    JustAnswers (.callCalLoad q) s q c 5 0 0 := by
  have hexec := callCalLoad_exec h hop
  rw [callArgs_one_good (decide_eq_false (by omega)), if_pos (by rw [State.g7Span, g7Open_held callTaken_held, decide_eq_false (by omega)]; rfl)] at hexec
  exact callNext_justAnswers h q.isLt hroom hexec

end

theorem mediaCalls : MediaCalls := by
  unfold MediaCalls
  intro q c m s h
  exact ⟨fun hroom i hi hbad => mediaCalls_badIndex h hroom hi hbad, fun hroom hop hm hno => callSetMount_refused h hroom hop hm hno,
    fun hop hm hen hfree => callSetMount_waits h hop hm hen hfree, fun hroom hop hm hkey => callSetFormat_key h hroom hop hm hkey,
    fun hop hm hkey hen hfree => callSetFormat_waits h hop hm hkey hen hfree, fun hroom hop hm hkey hen => callSetFormat_unused h hroom hop hm hkey hen,
    fun hroom hop hm he hst => callClipDelete_unmounted h hroom hop hm he hst,
    fun hop hm he hst hstate hkind => callClipDelete_waits h hop hm he hst hstate hkind,
    fun hroom hop hm he hn haddr hlen => callDirRead_answers h hroom hop hm he hn haddr hlen,
    fun hroom hop hm he hn => callDirRead_badCount h hroom hop hm he hn, fun hroom hop hcls => callCalLoad_bad h hroom hop hcls,
    fun hroom hop hcls hspan => callCalLoad_outside h hroom hop hcls hspan, fun hop hcls hspan => callCalLoad_waits h hop hcls hspan⟩

section
variable {s : State} {q : Fin 16} {c : Call} {data : List Byte} {err : Bool}

theorem callVault_exec (h : CallNext s q c) (hop : c.op = 0x601) : exec (.callVault q data err) s = .next (s.settle (
    if !vaultCodes.contains (c.arg 0) then (s.callTaken q c).callAnswer q 2 0 1
    else if c.len < c.arg 1 then (s.callTaken q c).callAnswer q 2 1 1
    else
      let u := if c.arg 1 = 0 then s.callTaken q c else (s.callTaken q c).emit (.hostRead c.addr (c.arg 1))
      if c.arg 1 ≠ 0 && (c.addr = 0 || err) then u.callAnswer q 5 0 1 else (u.callWait q .vault).vaultHost ⟨q, c.arg 0, sliceAt data 0 (c.arg 1)⟩)) :=
  congrArg Host.Outcome.next (callRun_taken h hop)

/-- A request of a known code whose bytes are read from the host. -/
theorem callVault_reads (h : CallNext s q c) (hop : c.op = 0x601) (hcode : c.arg 0 ∈ vaultCodes) (hlen : c.arg 1 ≤ c.len) (hsome : c.arg 1 ≠ 0) :
    exec (.callVault q data err) s = .next (s.settle (
      if c.arg 1 ≠ 0 && (c.addr = 0 || err) then ((s.callTaken q c).emit (.hostRead c.addr (c.arg 1))).callAnswer q 5 0 1
      else (((s.callTaken q c).emit (.hostRead c.addr (c.arg 1))).callWait q .vault).vaultHost ⟨q, c.arg 0, sliceAt data 0 (c.arg 1)⟩)) := by
  have hexec := callVault_exec (data := data) (err := err) h hop
  rw [if_neg (by rw [List.contains_iff_mem.2 hcode]; decide), if_neg (by omega)] at hexec
  dsimp only at hexec
  rw [if_neg hsome] at hexec
  exact hexec

/-- The bytes of a request read from the host, the Call in hand. -/
theorem hostRead_held : (∃ u, (s.callTaken q c).emit (.hostRead c.addr (c.arg 1)) = u ∧ KeepsCalls (s.callTaken q c) u ∧ u.out = s.out ++ [.hostRead c.addr (c.arg 1)] ∧
    u.vault = s.vault ∧ RegsBut s u [(CLL_Q_HEAD q).off, (CLL_Q_STATUS q).off] ∧ u = { s with regs := u.regs, call := u.call, out := u.out }) := by
  have hheld := callTaken_held (s := s) (q := q) (c := c)
  generalize s.callTaken q c = a at *
  have haout : a.out = s.out := by rw [hheld.frame]
  have havault : a.vault = s.vault := by rw [hheld.frame]
  have huframe : a.emit (.hostRead c.addr (c.arg 1)) = { a with out := (a.emit (.hostRead c.addr (c.arg 1))).out } := rfl
  refine ⟨_, rfl, ⟨rfl, RegsIn.refl _ a⟩, congrArg (· ++ [_]) haout, havault, hheld.regs.congr, ?_⟩
  generalize a.emit (.hostRead c.addr (c.arg 1)) = u at *
  rw [huframe, hheld.frame]

theorem callVault_noBuffer (h : CallNext s q c) (hop : c.op = 0x601) (hroom : AnswerRoom s q) (hcode : c.arg 0 ∈ vaultCodes) (hlen : c.arg 1 ≤ c.len) (hsome : c.arg 1 ≠ 0)
    (hno : c.addr = 0 ∨ err = true) : Runs (.callVault q data err) s (fun t => Answered s t q c 5 0 1 [.hostRead c.addr (c.arg 1)] ∧ RegsBut s t (callRegs s q) ∧
      t = { s with regs := t.regs, call := t.call, out := t.out }) := by
  have hexec := callVault_reads (data := data) (err := err) h hop hcode hlen hsome
  rw [if_pos (by rw [decide_eq_true hsome, Bool.true_and, Bool.or_eq_true, decide_eq_true_eq]; exact hno)] at hexec
  obtain ⟨u, hu, hkeeps, hout, -, hregs, huframe⟩ := hostRead_held (s := s) (q := q) (c := c)
  rw [hu] at hexec
  obtain ⟨hanswered, htregs, hframe⟩ := callNext_answered (status := 5) (r0 := 0) (r1 := 1) h q.isLt hroom hkeeps hout
  generalize u.callAnswer q 5 0 1 = t at *
  have hframe' : t = { s with regs := t.regs, call := t.call, out := t.out } := by rw [hframe, huframe]
  have hocc : t.occ = s.occ := by rw [hframe']
  exact Runs.next (hexec.trans (congrArg Host.Outcome.next (State.settle_same hocc))) ⟨hanswered, (hregs.mono (by simp [callRegs])).trans htregs, hframe'⟩

theorem callVault_waits (h : CallNext s q c) (hop : c.op = 0x601) (hcode : c.arg 0 ∈ vaultCodes) (hlen : c.arg 1 ≤ c.len) (hsome : c.arg 1 ≠ 0) (haddr : c.addr ≠ 0)
    (herr : err = false) : Runs (.callVault q data err) s (fun t => CallWaits s t q c .vault ∧
      t.vault.queue = s.vault.queue ++ [⟨q, c.arg 0, sliceAt data 0 (c.arg 1)⟩] ∧ t.vault.verify = s.vault.verify ∧ t.out = s.out ++ [.hostRead c.addr (c.arg 1)] ∧
      t = { s with regs := t.regs, call := t.call, vault := t.vault, out := t.out }) := by
  have hexec := callVault_reads (data := data) (err := err) h hop hcode hlen hsome
  rw [if_neg (by rw [decide_eq_false haddr, herr, Bool.or_false, Bool.and_false]; exact Bool.false_ne_true)] at hexec
  obtain ⟨u, hu, hkeeps, hout, huvault, -, huframe⟩ := hostRead_held (s := s) (q := q) (c := c)
  rw [hu] at hexec
  obtain ⟨⟨hhead, hbusy, hcur⟩, hwframe⟩ := callWait_after (w := .vault) q.isLt hkeeps
  generalize u.callWait q .vault = v at *
  have hvvault : v.vault = s.vault := (congrArg State.vault hwframe).trans huvault
  obtain ⟨hqueue, hverify, hregs, hframe⟩ := vaultHost_asks (u := v) ⟨q, c.arg 0, sliceAt data 0 (c.arg 1)⟩
  generalize v.vaultHost ⟨q, c.arg 0, sliceAt data 0 (c.arg 1)⟩ = t at *
  have hframe' : t = { s with regs := t.regs, call := t.call, vault := t.vault, out := t.out } := by rw [hframe, hwframe, huframe]
  have hocc : t.occ = s.occ := by rw [hframe']
  have htout : t.out = u.out := by rw [hframe, hwframe]
  have htcall : t.call = v.call := by rw [hframe]
  have hkeepsT : KeepsCalls v t := KeepsCalls.of_regsBut htcall hregs vaultRegs_notCall
  obtain ⟨-, hheadC, -, hstatusC⟩ := callReg_q q.isLt
  refine Runs.next (hexec.trans (congrArg Host.Outcome.next (State.settle_same hocc))) ⟨⟨(hkeepsT.rd hheadC).trans hhead, ?_, ?_⟩, by rw [hqueue, hvvault], by rw [hverify, hvvault],
    htout.trans hout, hframe'⟩
  · rw [hkeepsT.rd hstatusC]
    exact hbusy
  · rw [State.callQ_congr htcall]
    exact hcur

end

theorem vaultCalls : VaultCalls := by
  unfold VaultCalls
  intro q data err c s h hop
  refine ⟨fun hroom hno => ?_, fun hroom hcode hlen => ?_, fun hroom hcode hlen hsome hno => callVault_noBuffer h hop hroom hcode hlen hsome hno,
    fun hcode hlen hsome haddr herr => callVault_waits h hop hcode hlen hsome haddr herr⟩
  · have hexec := callVault_exec (data := data) (err := err) h hop
    rw [if_pos (by rw [Bool.not_eq_true', ← Bool.not_eq_true, List.contains_iff_mem]; exact hno)] at hexec
    exact callNext_justAnswers h q.isLt hroom hexec
  · have hexec := callVault_exec (data := data) (err := err) h hop
    rw [if_neg (by rw [List.contains_iff_mem.2 hcode]; decide), if_pos hlen] at hexec
    exact callNext_justAnswers h q.isLt hroom hexec

/-- Settles O48, by what the work of each Call leaves of the recording channels, the media sets and the Vault, and the Answer or the wait after it. -/
theorem callsOfMediaAndVault : Obligations.CallsOfMediaAndVault := ⟨recordCalls, mediaCalls, vaultCalls⟩

end Sys2Proof.Machine
end

section
/-! PROOFS. Ethernet frames that are sent and received (R446 to R448). -/

-- One proof at a time: the text is compiled as one file in bounded memory.
set_option Elab.async false

namespace Sys2Proof.Machine
open Sys2Proof.Claims

/-! ### Ports and their quads -/

/-- The quads of Ethernet are among the part's. -/
theorem State.ethQuads_lt (s : State) {q : Nat} (h : q ∈ s.ethQuads) : q < 40 := List.mem_range.1 (List.mem_of_mem_filter h)

theorem State.ethQuad_lt (s : State) (p : Nat) : s.ethQuad p < 40 := by
  rw [show s.ethQuad p = (s.ethQuads[if p / 4 = 1 && s.ethGroupOn 0 then 1 else 0]?).getD 0 from rfl]
  cases h : s.ethQuads[if p / 4 = 1 && s.ethGroupOn 0 then 1 else 0]? with
  | none => exact (by decide : (0 : Nat) < 40)
  | some q => exact s.ethQuads_lt (List.mem_of_getElem? h)

/-- The quad of a port rests on the modes of ports and the protocols of quads alone. -/
theorem State.ethQuads_congr {s t : State} (hq : ∀ q, q < 40 → t.rd (LND_Q_CFG q) = s.rd (LND_Q_CFG q)) : t.ethQuads = s.ethQuads := by
  refine List.filter_congr fun q hmem => ?_
  rw [State.quadProto, hq q (List.mem_range.1 hmem), State.quadProto]

theorem State.ethQuad_congr {s t : State} (hp : ∀ p, p < 8 → t.rd (ETH_P_CFG p) = s.rd (ETH_P_CFG p)) (hq : ∀ q, q < 40 → t.rd (LND_Q_CFG q) = s.rd (LND_Q_CFG q)) (p : Nat) :
    t.ethQuad p = s.ethQuad p := by
  have hgroup : t.ethGroupOn 0 = s.ethGroupOn 0 := by
    rw [State.ethGroupOn, State.ethGroupOn, Bool.eq_iff_iff, List.any_eq_true, List.any_eq_true]
    refine exists_congr fun i => and_congr_right fun hi => ?_
    have hi4 := List.mem_range.1 hi
    rw [State.ethMode, hp _ (by omega), State.ethMode]
  rw [State.ethQuad, State.ethQuads_congr hq, hgroup, State.ethQuad]

/-- A port that is awake needs no waking. -/
theorem ethWake_awake {s : State} {p : Nat} (h : (s.rd (ETH_P_STATUS p)).getLsbD 1 = false) : s.ethWake p = s :=
  if_neg (by rw [bitOf, h]; decide)

/-- A transmit direction that sleeps or wakes shows it at its port and in the lane of its quad. -/
theorem ethTxSleep_shows {s : State} {p : Nat} (hp : p < 8) {b : Bool} {t : State} (ht : s.ethTxSleep p b = t) :
    t.rd (ETH_P_STATUS p) = Fld.put ⟨1, 1⟩ (s.rd (ETH_P_STATUS p)) (b2n b) ∧
      t.rd (LND_Q_STATUS (s.ethQuad p)) = Fld.put ⟨8 + p % 4, 8 + p % 4⟩ (s.rd (LND_Q_STATUS (s.ethQuad p))) (b2n b) ∧
      RegsBut s t [(ETH_P_STATUS p).off, (LND_Q_STATUS (s.ethQuad p)).off] ∧ t = { s with regs := t.regs } := by
  have hq := s.ethQuad_lt p
  have hne : (ETH_P_STATUS p).off ≠ (LND_Q_STATUS (s.ethQuad p)).off := by simp only [ETH_P_STATUS, LND_Q_STATUS]; omega
  generalize ha : s.setFld (ETH_P_STATUS p) ⟨1, 1⟩ (b2n b) = a
  have hrun : a.setFld (LND_Q_STATUS (s.ethQuad p)) ⟨8 + p % 4, 8 + p % 4⟩ (b2n b) = t := by rw [← ha]; exact ht
  have haregs : RegsBut s a [(ETH_P_STATUS p).off] := by rw [← ha]; exact (RegsBut.refl s _).setFld _ _ _
  have haonly : OnlyRegs s a := by rw [← ha]; exact (OnlyRegs.refl s).setFld _ _ _
  refine ⟨?_, ?_, ?_, ?_⟩
  · rw [← hrun, State.rd_setFld_ne _ _ _ hne, ← ha, State.setFld_eq, State.rd_wr_self]
  · rw [← hrun, State.setFld_eq, State.rd_wr_self, haregs.rd (by simpa using hne.symm)]
  · rw [← hrun]
    exact (haregs.mono (by simp)).setFld _ _ _ (by simp)
  · have honly := haonly.setFld (LND_Q_STATUS (s.ethQuad p)) ⟨8 + p % 4, 8 + p % 4⟩ (b2n b)
    rw [hrun] at honly
    exact honly

/-! ### Transmit queues (R447) -/

/-- The descriptor at a queue's head. -/
def State.txDesc (s : State) (p i : Nat) (desc : List Byte) : List Byte :=
  if s.ethHost p i then desc else s.memRead (s.rd64 (ETH_Q_BASE_LO p i) (ETH_Q_BASE_HI p i) + 16 * (s.rd (ETH_Q_HEAD p i)).toNat) 16

/-- The bytes it names. -/
def State.txData (s : State) (p i : Nat) (d data : List Byte) : List Byte :=
  if s.ethHost p i then sliceAt data 0 (leAt d 8 2) else s.memRead (leAt d 0 8) (leAt d 8 2)

/-- HEAD advances and is written back. -/
def State.txClosed (s : State) (p i : Nat) : State :=
  let s := s.ethAdvance p i
  s.ethWrite p i (s.rd64 (ETH_Q_WB_LO p i) (ETH_Q_WB_HI p i)) (wordBytes (s.rd (ETH_Q_HEAD p i)))

/-- The frame of a descriptor leaves, and its time is queued where it asks for it. -/
def State.txLeaves (s : State) (p i : Nat) (d f : List Byte) : State :=
  let fl := leAt d 10 2
  let f := if fl / 4 % 2 = 1 then addTag f (leAt d 14 2) else f
  let f := if fl / 2 % 2 = 1 then sumOffload f else f
  let s := (s.ethWake p).emit (.packet p f)
  let s := if fl % 2 = 1 && bitOf (s.rd (PTP_P_CTRL p)) 1 && ptpEvent f then
      let (ns, fr) := s.stampNow (sext 32 (s.rd (PTP_P_TX_COMP p)).toNat)
      s.ptpStamp p ⟨leAt d 12 2, ns, fr⟩
    else s
  s.txClosed p i

section
variable {s : State} {p : Fin 8} {k : Fin 4}

theorem ethSent_idle (h : s.ethUp p = false ∨ s.ethReady p k = false) (desc data : List Byte) : s.ethSent p k desc data = s :=
  if_pos (by rcases h with h | h <;> rw [h] <;> simp)

theorem ethSent_eq (hup : s.ethUp p = true) (hready : s.ethReady p k = true) (desc data : List Byte) :
    s.ethSent p k desc data = s.txLeaves p k (s.txDesc p k desc) (s.txData p k (s.txDesc p k desc) data) :=
  if_neg (by rw [hup, hready]; decide)

/-- A descriptor without flags: the frame leaves as it is. -/
theorem txLeaves_plain {d f : List Byte} (hfl : leAt d 10 2 = 0) (hawake : (s.rd (ETH_P_STATUS p)).getLsbD 1 = false) :
    s.txLeaves p k d f = (s.emit (.packet p f)).txClosed p k := by
  unfold State.txLeaves
  rw [hfl, ethWake_awake hawake]
  rfl

/-- A descriptor with STAMP alone, of a PTP event message on a port that takes stamps. -/
theorem txLeaves_stamped {d f : List Byte} (hfl : leAt d 10 2 = 1) (hawake : (s.rd (ETH_P_STATUS p)).getLsbD 1 = false)
    (hctrl : (s.rd (PTP_P_CTRL p)).getLsbD 1 = true) (hptp : ptpEvent f = true) :
    s.txLeaves p k d f = ((s.emit (.packet p f)).ptpStamp p ⟨leAt d 12 2, (s.stampNow (sext 32 (s.rd (PTP_P_TX_COMP p)).toNat)).1,
      (s.stampNow (sext 32 (s.rd (PTP_P_TX_COMP p)).toNat)).2⟩).txClosed p k := by
  unfold State.txLeaves
  rw [hfl, ethWake_awake hawake]
  simp only [Nat.reduceDiv, Nat.reduceMod, Nat.zero_mod, Nat.zero_ne_one, if_false, decide_true, Bool.true_and]
  rw [if_pos (by rw [hptp, Bool.and_true]; exact hctrl)]
  rfl

/-- HEAD, and where its value goes. -/
theorem txClosed_shows {u : State} {t : State} (ht : u.txClosed p k = t) :
    t.rd (ETH_Q_HEAD p k) = w32 (((u.rd (ETH_Q_HEAD p k)).toNat + 1) % u.ethRing p k) ∧ RegsBut u t [(ETH_Q_HEAD p k).off] ∧
      t = (if u.ethHost p k then ({ u with regs := t.regs } : State).emit (.hostWrite (u.rd64 (ETH_Q_WB_LO p k) (ETH_Q_WB_HI p k))
          (wordBytes (w32 (((u.rd (ETH_Q_HEAD p k)).toNat + 1) % u.ethRing p k))))
        else ({ u with regs := t.regs } : State).memWrite (u.rd64 (ETH_Q_WB_LO p k) (ETH_Q_WB_HI p k))
          (wordBytes (w32 (((u.rd (ETH_Q_HEAD p k)).toNat + 1) % u.ethRing p k)))) := by
  have hp := p.isLt
  have hk := k.isLt
  generalize hn : w32 (((u.rd (ETH_Q_HEAD p k)).toNat + 1) % u.ethRing p k) = n
  generalize ha : u.wr (ETH_Q_HEAD p k) n = a
  have haregs : RegsBut u a [(ETH_Q_HEAD p k).off] := by rw [← ha]; exact (RegsBut.refl u _).wr _ _
  have hhost : a.ethHost p k = u.ethHost p k := by
    rw [State.ethHost, haregs.rd (by simp only [ETH_Q_CFG, ETH_Q_HEAD, List.mem_singleton]; omega), State.ethHost]
  have hwb : a.rd64 (ETH_Q_WB_LO p k) (ETH_Q_WB_HI p k) = u.rd64 (ETH_Q_WB_LO p k) (ETH_Q_WB_HI p k) := by
    rw [State.rd64, haregs.rd (by simp only [ETH_Q_WB_LO, ETH_Q_HEAD, List.mem_singleton]; omega),
      haregs.rd (by simp only [ETH_Q_WB_HI, ETH_Q_HEAD, List.mem_singleton]; omega), State.rd64]
  have hhead : a.rd (ETH_Q_HEAD p k) = n := by rw [← ha, State.rd_wr_self]
  have hrun : a.ethWrite p k (a.rd64 (ETH_Q_WB_LO p k) (ETH_Q_WB_HI p k)) (wordBytes (a.rd (ETH_Q_HEAD p k))) = t := by
    rw [← ht, ← ha, ← hn]
    rfl
  have hua : a = { u with regs := a.regs } := by rw [← ha]; rfl
  rw [hwb, hhead, State.ethWrite, hhost] at hrun
  have htregs : t.regs = a.regs := by rw [← hrun]; split <;> rfl
  refine ⟨?_, haregs.congr htregs, ?_⟩
  · rw [State.rd, htregs]
    exact hhead
  · rw [htregs, ← hua]
    exact hrun.symm

end

theorem framesAreSent : FramesAreSent := by
  unfold FramesAreSent
  intro p k v desc data s head wb awake
  have hp := p.isLt
  have hk := k.isLt
  have hexec : exec (.ethTxFrameSent p k desc data) s = .next (s.settle (s.ethSent p k desc data)) := rfl
  generalize ha : s.wr (ETH_Q_TAIL p k) (v &&& 0xFFF) = a
  have hrunTail : s.ethTail p k v = if a.ethReady p k then a.ethWake p else a := by
    have hsplit : s.ethTail p k v = if (decide (k.val < 4) && a.ethReady p k) = true then a.ethWake p else a := by
      rw [← ha]
      rfl
    rw [hsplit, decide_eq_true hk, Bool.true_and]
  have haregs : RegsBut s a [(ETH_Q_TAIL p k).off] := by rw [← ha]; exact (RegsBut.refl s _).wr _ _
  have hastat : a.rd (ETH_P_STATUS p) = s.rd (ETH_P_STATUS p) := haregs.rd (by simp only [ETH_P_STATUS, ETH_Q_TAIL, List.mem_singleton]; omega)
  refine ⟨fun hreach hawake => exec_hostDo hreach ?_, fun hreach hasleep hen hne => ?_, fun hidle => ?_,
    fun hup hready hawake => ⟨fun hhost hfl => ?_, fun hhost hfl hctrl hptp hlen => ?_, ?_⟩⟩
  · rw [hrunTail, ethWake_awake (hastat ▸ hawake), ite_self]
  · have hquad : a.ethQuad p = s.ethQuad p := State.ethQuad_congr
      (fun i hi => haregs.rd (by simp only [ETH_P_CFG, ETH_Q_TAIL, List.mem_singleton]; omega))
      (fun q hq => haregs.rd (by simp only [LND_Q_CFG, ETH_Q_TAIL, List.mem_singleton]; omega)) p
    have hqlt := s.ethQuad_lt p
    have hready : a.ethReady p k = true := by
      have htail : a.rd (ETH_Q_TAIL p k) = v &&& 0xFFF := by rw [← ha, State.rd_wr_self]
      rw [State.ethReady, haregs.rd (by simp only [ETH_Q_CFG, ETH_Q_TAIL, List.mem_singleton]; omega),
        haregs.rd (by simp only [ETH_Q_HEAD, ETH_Q_TAIL, List.mem_singleton]; omega), htail, bitOf, hen, Bool.true_and]
      exact bne_iff_ne.2 hne
    have hwake : a.ethWake p = a.ethTxSleep p false := if_pos (by rw [bitOf, hastat]; exact Bool.eq_true_of_not_eq_false hasleep)
    obtain ⟨hstat, hlane, hregs, hframe⟩ := ethTxSleep_shows hp (s := a) (b := false) rfl
    rw [if_pos hready, hwake] at hrunTail
    generalize a.ethTxSleep p false = t at *
    rw [hquad] at hlane hregs
    refine Runs.next (exec_hostDo hreach hrunTail) ⟨?_, ?_, ?_, ?_, ?_⟩
    · rw [hregs.rd (by simp only [ETH_Q_TAIL, ETH_P_STATUS, LND_Q_STATUS, List.mem_cons, List.not_mem_nil, or_false]; omega), ← ha, State.rd_wr_self]
    · rw [hstat, Fld.put_getLsbD _ _ _ _ (by decide)]
      rfl
    · rw [hlane, Fld.put_getLsbD _ _ _ _ (by omega)]
      simp [b2n]
    · exact (haregs.mono (by simp)).trans (hregs.mono (by simp))
    · rw [hframe, ← ha]
      rfl
  · rw [hexec, ethSent_idle hidle, State.settle_same rfl]
  · have hrun := ethSent_eq hup hready desc data
    rw [State.txDesc, State.txData, if_pos hhost, if_pos hhost, txLeaves_plain hfl hawake] at hrun
    obtain ⟨hhead, hregs, hframe⟩ := txClosed_shows (p := p) (k := k) (u := s.emit (.packet p (sliceAt data 0 (leAt desc 8 2)))) rfl
    rw [← hrun] at hhead hregs hframe
    generalize s.ethSent p k desc data = t at *
    replace hframe := hframe.trans (if_pos hhost)
    refine Runs.next (hexec.trans (congrArg Host.Outcome.next (State.settle_same (by rw [hframe]; rfl)))) ⟨?_, hhead, hregs, ?_⟩
    · rw [hframe]
      exact List.append_assoc _ _ _
    · rw [hframe]
      rfl
  · have hrun := ethSent_eq hup hready desc data
    rw [State.txDesc, State.txData, if_pos hhost, if_pos hhost, txLeaves_stamped hfl hawake hctrl hptp] at hrun
    generalize hb : s.emit (.packet p (sliceAt data 0 (leAt desc 8 2))) = b at hrun
    generalize he : (⟨leAt desc 12 2, (s.stampNow (sext 32 (s.rd (PTP_P_TX_COMP p)).toNat)).1,
      (s.stampNow (sext 32 (s.rd (PTP_P_TX_COMP p)).toNat)).2⟩ : Stamp) = e at hrun
    have hq : b.ptpQ p = s.ptpQ p := by rw [← hb]; rfl
    have hstamp : b.ptpStamp p e = b.setPtpQ p (b.ptpQ p ++ [e]) := if_neg (by rw [hq]; omega)
    rw [hstamp] at hrun
    have honly := State.setPtpQ_only b p (b.ptpQ p ++ [e])
    have hcregs := State.setPtpQ_regs b p (b.ptpQ p ++ [e])
    generalize b.setPtpQ p (b.ptpQ p ++ [e]) = c at hrun honly hcregs
    have hcptp : c.ptpQ p = s.ptpQ p ++ [e] := by
      rw [State.ptpQ, honly.field (fun u => u.stk.ptp), ← hq]
      exact tabGet_set_self _ _ _ _
    have hcout : c.out = s.out ++ [.packet p (sliceAt data 0 (leAt desc 8 2))] := (honly.field State.out).trans (by rw [← hb]; rfl)
    have hcocc : c.occ = s.occ := honly.occ.trans (by rw [← hb]; rfl)
    have hcrd {r : Reg} (hr : r.off < 0x4500000) : c.rd r = s.rd r := by
      rw [hcregs.rd (by simp only [stampRegs, PTP_P_TXQ_STAT, PTP_P_TXQ_ID, PTP_P_TXQ_NS, PTP_P_TXQ_FRAC, List.mem_cons, List.not_mem_nil, or_false]; omega), ← hb]
      rfl
    have hchost : c.ethHost p k = true := by
      rw [State.ethHost, hcrd (by simp only [ETH_Q_CFG]; omega)]
      exact hhost
    have hcwb : c.rd64 (ETH_Q_WB_LO p k) (ETH_Q_WB_HI p k) = wb := by
      rw [State.rd64, hcrd (by simp only [ETH_Q_WB_LO]; omega), hcrd (by simp only [ETH_Q_WB_HI]; omega)]
      rfl
    have hchead : ((c.rd (ETH_Q_HEAD p k)).toNat + 1) % c.ethRing p k = head := by
      rw [State.ethRing, hcrd (by simp only [ETH_Q_HEAD]; omega), hcrd (by simp only [ETH_Q_CFG]; omega)]
      rfl
    obtain ⟨hhead, hregs, hframe⟩ := txClosed_shows (p := p) (k := k) (u := c) rfl
    rw [← hrun] at hhead hregs hframe
    generalize s.ethSent p k desc data = t at *
    rw [if_pos hchost, hcwb, hchead] at hframe
    rw [hchead] at hhead
    refine Runs.next (hexec.trans (congrArg Host.Outcome.next (State.settle_same (by rw [hframe]; exact hcocc)))) ⟨?_, ?_, hhead⟩
    · rw [hframe]
      exact hcptp.trans (by rw [← he])
    · rw [hframe]
      show c.out ++ _ = _
      rw [hcout]
      exact List.append_assoc _ _ _
  · intro d hhost hfl
    have hno : ¬ s.ethHost p k = true := by rw [hhost]; decide
    have hrun := ethSent_eq hup hready desc data
    rw [State.txDesc, State.txData, if_neg hno, if_neg hno, memRead_eq_map, memRead_eq_map] at hrun
    rw [show (List.range 16).map (fun i => s.mem (s.rd64 (ETH_Q_BASE_LO p k) (ETH_Q_BASE_HI p k) + 16 * (s.rd (ETH_Q_HEAD p k)).toNat + i)) = d from rfl] at hrun
    rw [txLeaves_plain hfl hawake] at hrun
    generalize hb : s.emit (.packet p ((List.range (leAt d 8 2)).map (fun i => s.mem (leAt d 0 8 + i)))) = b at hrun
    have hbframe : b = { s with out := s.out ++ [.packet p ((List.range (leAt d 8 2)).map (fun i => s.mem (leAt d 0 8 + i)))] } := by rw [← hb]; rfl
    obtain ⟨hhead, hregs, hframe⟩ := txClosed_shows (p := p) (k := k) (u := b) rfl
    rw [← hrun] at hhead hregs hframe
    generalize s.ethSent p k desc data = t at *
    rw [if_neg (show ¬ b.ethHost p k = true by rw [hbframe]; exact hno)] at hframe
    rw [hbframe] at hhead hregs hframe
    refine Runs.next (hexec.trans (congrArg Host.Outcome.next (State.settle_same (by rw [hframe]; rfl)))) ⟨?_, hhead, fun x => ?_, hregs, ?_⟩
    · rw [hframe]
      rfl
    · rw [hframe]
      have hmem := mem_memWrite ({ s with regs := t.regs, out := s.out ++ [.packet p ((List.range (leAt d 8 2)).map (fun i => s.mem (leAt d 0 8 + i)))] } : State) wb (wordBytes (w32 head)) x
      rw [length_wordBytes] at hmem
      exact hmem
    · rw [hframe, memWrite_frame]

/-! ### Bytes of an entry -/

theorem leNat_leBytes : ∀ n v : Nat, leNat (leBytes n v) = v % 256 ^ n
  | 0, v => by rw [leBytes, leNat, Nat.pow_zero, Nat.mod_one]
  | n + 1, v => by
    rw [leBytes, leNat, leNat_leBytes n, BitVec.toNat_ofNat, show 256 ^ (n + 1) = 256 * 256 ^ n from Nat.pow_succ', Nat.mod_mul]

/-- A field of an entry, between what stands before and behind it. -/
theorem leAt_leBytes {l r : List Byte} {off n : Nat} (hoff : l.length = off) (v : Nat) : leAt (l ++ (leBytes n v ++ r)) off n = v % 256 ^ n := by
  rw [leAt, ← hoff, List.drop_left, ← leNat_leBytes]
  exact congrArg leNat (List.take_left' (length_leBytes n v))

theorem b2n_le (b : Bool) : b2n b ≤ 1 := by cases b <;> decide

/-! ### Events raised once a round -/

theorem raiseOnce_first {s : State} {ev key : Nat} (h : (ev, key) ∉ s.roundFlags) (src : Nat) (items : List Word) :
    s.raiseOnce ev key src items = ({ s with roundFlags := (ev, key) :: s.roundFlags } : State).raise ev src items :=
  if_neg (by rwa [List.contains_iff_mem])

theorem raiseOnce_again {s : State} {ev key : Nat} (h : (ev, key) ∈ s.roundFlags) (src : Nat) (items : List Word) : s.raiseOnce ev key src items = s :=
  if_pos (List.contains_iff_mem.2 h)

/-! ### Received frames (R446, R448) -/

/-- The buffer of a receive queue's head. -/
def State.rxBuf (s : State) (p i buf : Nat) : Nat :=
  if s.ethHost p i then buf else leNat (s.memRead (s.rd64 (ETH_Q_BASE_LO p i) (ETH_Q_BASE_HI p i) + 8 * (s.rd (ETH_Q_HEAD p i)).toNat) 8)

/-- The completion of a frame. -/
def State.rxEntry (s : State) (p i filter : Nat) (f : List Byte) : List Byte :=
  let st := bitOf (s.rd (PTP_P_CTRL p)) 0 && ptpEvent f
  let t := s.stampNow (-(sext 32 (s.rd (PTP_P_RX_COMP p)).toNat))
  let fl := b2n st + 2 * b2n (l4Good f) + 4 * b2n (frTagged f) + 8 * (beAt f 0 1 % 2) + 32768 * b2n (tabGet s.lnd.phase true (8 * p + i))
  leBytes 2 (dropTag f).length ++ leBytes 2 fl ++ leBytes 2 (if frTagged f then beAt f 14 2 else 0) ++ leBytes 2 filter ++
    (if st then wordBytes t.1 ++ leBytes 1 t.2 else List.replicate 5 0) ++ List.replicate 3 0

/-- Frame and completion stand in their owner's memory; a ring that ends turns its PHASE. -/
def State.rxStored (s : State) (p i a : Nat) (g c : List Byte) : State :=
  let h := (s.rd (ETH_Q_HEAD p i)).toNat
  let ph := tabGet s.lnd.phase true (8 * p + i)
  let s := s.ethWrite p i a g
  let s := s.ethWrite p i (s.rd64 (ETH_Q_WB_LO p i) (ETH_Q_WB_HI p i) + 16 * h) c
  let s := if h + 1 = s.ethRing p i then { s with lnd := { s.lnd with phase := tabSet s.lnd.phase true (8 * p + i) (!ph) } } else s
  s.ethAdvance p i

/-- Where a frame that is taken goes: to its filter entry's queue or stream, or, with none, to queue 4. -/
def State.rxSteered (s : State) (p : Nat) (f : List Byte) (buf : Nat) : State :=
  match s.filterOf p f with
  | some j =>
    let c := (s.rd (ETH_F_CTRL p j)).toNat
    let t := bitsOf c 18 16
    match bitsOf c 9 8 with
    | 0 => if t < 4 then s else s.rxQueue p t j f buf
    | 1 => s.rxStream p t f
    | _ => s
  | none => if f.take 6 == s.ethMac p && beAt f 0 1 % 2 == 0 then s.rxQueue p 4 0xFFFF f buf else s

section
variable {s : State} {p : Nat} {f : List Byte} {fcs : Bool} {buf : Nat}

theorem ethRx_down (h : s.ethMode p = 0 ∨ s.ethUp p = false) : s.ethRx p f fcs buf = s :=
  if_pos (by rcases h with h | h <;> rw [h] <;> simp)

section
variable (hmode : s.ethMode p ≠ 0) (hup : s.ethUp p = true)
include hmode hup

theorem ethRx_badFcs (hfcs : fcs = false) : s.ethRx p f fcs buf = s.inc (ETH_P_FCS_ERR p) :=
  (if_neg (by rw [decide_eq_false hmode, hup]; decide)).trans (if_pos (by rw [hfcs]; rfl))

theorem ethRx_dropped (hfcs : fcs = true) (h : f.length < 60 ∨ 9212 < f.length ∨ (frType f = 0x8808 ∧ beAt f (frL3 f) 2 = 1)) : s.ethRx p f fcs buf = s := by
  refine (if_neg (by rw [decide_eq_false hmode, hup]; decide)).trans ((if_neg (by rw [hfcs]; decide)).trans (if_pos ?_))
  rcases h with h | h | ⟨ht, hb⟩
  · rw [decide_eq_true h, Bool.or_true, Bool.true_or]
  · rw [decide_eq_true h, Bool.or_true]
  · rw [ht, hb]
    rfl

theorem ethRx_sound (hfcs : fcs = true) (h60 : 60 ≤ f.length) (h9212 : f.length ≤ 9212) (htype : frType f ≠ 0x8808) : s.ethRx p f fcs buf = s.rxSteered p f buf :=
  (if_neg (by rw [decide_eq_false hmode, hup]; decide)).trans ((if_neg (by rw [hfcs]; decide)).trans
    (if_neg (by rw [beq_eq_false_iff_ne.2 htype, decide_eq_false (Nat.not_lt.2 h60), decide_eq_false (Nat.not_lt.2 h9212), Bool.false_and]; decide)))

end

theorem rxSteered_foreign (hnone : s.filterOf p f = none) (h : ¬ (f.take 6 = s.ethMac p ∧ beAt f 0 1 % 2 = 0)) : s.rxSteered p f buf = s := by
  unfold State.rxSteered
  rw [hnone]
  exact if_neg (by rwa [Bool.and_eq_true, beq_iff_eq, beq_iff_eq])

theorem rxSteered_own (hnone : s.filterOf p f = none) (hmac : f.take 6 = s.ethMac p) (huni : beAt f 0 1 % 2 = 0) : s.rxSteered p f buf = s.rxQueue p 4 0xFFFF f buf := by
  unfold State.rxSteered
  rw [hnone]
  exact if_pos (by rw [hmac, huni, beq_self_eq_true, beq_self_eq_true]; rfl)

section
variable {j : Nat} (hj : s.filterOf p f = some j)
include hj

theorem rxSteered_discarded (h : 2 ≤ bitsOf (s.rd (ETH_F_CTRL p j)).toNat 9 8) : s.rxSteered p f buf = s := by
  unfold State.rxSteered
  rw [hj]
  simp only
  generalize bitsOf (s.rd (ETH_F_CTRL p j)).toNat 9 8 = n at h
  match n, h with
  | _ + 2, _ => rfl

theorem rxSteered_queued (h : bitsOf (s.rd (ETH_F_CTRL p j)).toNat 9 8 = 0) (hq : 4 ≤ bitsOf (s.rd (ETH_F_CTRL p j)).toNat 18 16) :
    s.rxSteered p f buf = s.rxQueue p (bitsOf (s.rd (ETH_F_CTRL p j)).toNat 18 16) j f buf := by
  unfold State.rxSteered
  rw [hj]
  simp only [h]
  exact if_neg (Nat.not_lt.2 hq)

theorem rxSteered_streamed (h : bitsOf (s.rd (ETH_F_CTRL p j)).toNat 9 8 = 1) :
    s.rxSteered p f buf = s.rxStream p (bitsOf (s.rd (ETH_F_CTRL p j)).toNat 18 16) f := by
  unfold State.rxSteered
  rw [hj]
  simp only [h]

end

variable {q fl : Nat}

theorem rxQueue_empty (h : s.ethReady p q = false) : s.rxQueue p q fl f buf = s.rxDrop p (ETH_P_RX_DROP p) := if_pos (by rw [h]; rfl)

theorem rxQueue_long (h : s.ethReady p q = true) (hlen : bitsOf (s.rd (ETH_Q_CFG p q)).toNat 13 10 * 1024 < (dropTag f).length) :
    s.rxQueue p q fl f buf = s.rxDrop p (ETH_P_RX_LONG p) :=
  (if_neg (by rw [h]; decide)).trans (if_pos hlen)

theorem rxQueue_taken (h : s.ethReady p q = true) (hlen : (dropTag f).length ≤ bitsOf (s.rd (ETH_Q_CFG p q)).toNat 13 10 * 1024) :
    s.rxQueue p q fl f buf = s.rxStored p q (s.rxBuf p q buf) (dropTag f) (s.rxEntry p q fl f) :=
  (if_neg (by rw [h]; decide)).trans (if_neg (Nat.not_lt.2 hlen))

/-- What the completion says. -/
theorem rxEntry_says (hlen : (dropTag f).length < 65536) (hfl : fl < 65536) :
    (s.rxEntry p q fl f).length = 16 ∧ leAt (s.rxEntry p q fl f) 0 2 = (dropTag f).length ∧
      leAt (s.rxEntry p q fl f) 2 2 / 32768 = b2n (tabGet s.lnd.phase true (8 * p + q)) ∧ leAt (s.rxEntry p q fl f) 2 2 / 4 % 2 = b2n (frTagged f) ∧
      leAt (s.rxEntry p q fl f) 6 2 = fl := by
  unfold State.rxEntry
  dsimp only
  generalize (bitOf (s.rd (PTP_P_CTRL p)) 0 && ptpEvent f) = st
  generalize s.stampNow (-(sext 32 (s.rd (PTP_P_RX_COMP p)).toNat)) = t
  generalize htail : (if st then wordBytes t.1 ++ leBytes 1 t.2 else List.replicate 5 0) = tail
  have htail5 : tail.length = 5 := by
    rw [← htail]
    cases st
    · rfl
    · show (wordBytes t.1 ++ leBytes 1 t.2).length = 5
      rw [List.length_append, length_wordBytes, length_leBytes]
  have hst := b2n_le st
  have hgood := b2n_le (l4Good f)
  have htag := b2n_le (frTagged f)
  have hph := b2n_le (tabGet s.lnd.phase true (8 * p + q))
  generalize hflags : b2n st + 2 * b2n (l4Good f) + 4 * b2n (frTagged f) + 8 * (beAt f 0 1 % 2) + 32768 * b2n (tabGet s.lnd.phase true (8 * p + q)) = n
  refine ⟨?_, ?_, ?_, ?_, ?_⟩
  · simp only [List.length_append, length_leBytes, htail5, List.length_replicate]
  · simp only [List.append_assoc]
    refine (leAt_leBytes (l := []) rfl _).trans (Nat.mod_eq_of_lt hlen)
  · simp only [List.append_assoc]
    rw [leAt_leBytes (length_leBytes 2 _)]
    omega
  · simp only [List.append_assoc]
    rw [leAt_leBytes (length_leBytes 2 _)]
    omega
  · rw [List.append_assoc, List.append_assoc, leAt_leBytes (by rw [List.length_append, List.length_append, length_leBytes, length_leBytes, length_leBytes])]
    exact Nat.mod_eq_of_lt hfl

end

/-- A frame that finds no place counts, and event 818 tells so once a round. -/
theorem rxDrop_shows {s : State} {p : Nat} {r : Reg} (hr : r.off ∉ evRegs 818) {t : State} (ht : s.rxDrop p r = t) :
    t.rd r = satAdd (s.rd r) 1 ∧ ((818, p) ∉ s.roundFlags → Raised s t 818 (s.ethBid p) 0) ∧ ((818, p) ∈ s.roundFlags → t.occ = s.occ) ∧
      RegsBut s t (r.off :: evRegs 818) ∧ SameMem s t ∧ t.out = s.out := by
  generalize ha : s.inc r = a
  have haonly : OnlyRegs s a := by rw [← ha]; exact (OnlyRegs.refl s).inc _ _
  have haregs : RegsBut s a [r.off] := by rw [← ha]; exact (RegsBut.refl s _).inc _ _
  have hacnt : a.rd r = satAdd (s.rd r) 1 := by rw [← ha, State.inc_eq, State.rd_wr_self]
  have hflags : a.roundFlags = s.roundFlags := haonly.field State.roundFlags
  have hrun : a.raiseOnce 818 p (s.ethBid p) = t := by
    rw [← ht, ← ha]
    rfl
  by_cases hin : (818, p) ∈ s.roundFlags
  · rw [raiseOnce_again (hflags ▸ hin)] at hrun
    subst hrun
    exact ⟨hacnt, fun h => absurd hin h, fun _ => haonly.occ, haregs.mono (by simp), fun x => haonly.field (State.mem · x), haonly.field State.out⟩
  · rw [raiseOnce_first (hflags ▸ hin)] at hrun
    generalize hb : ({ a with roundFlags := (818, p) :: a.roundFlags } : State) = b at hrun
    have hbregs : RegsBut s b [r.off] := haregs.congr (by rw [← hb])
    have hbocc : b.occ = s.occ := by rw [← hb]; exact haonly.occ
    have hcnt : (EVT_R_CNT 818).off ≠ r.off := fun h => hr (by rw [← h]; simp [evRegs])
    have hlast : (EVT_R_LAST 818).off ≠ r.off := fun h => hr (by rw [← h]; simp [evRegs])
    refine ⟨?_, fun _ => ?_, fun h => absurd h hin, ?_, fun x => ?_, ?_⟩
    · rw [← hrun, State.rd_raise _ _ _ _ hcnt.symm hlast.symm, ← hacnt, ← hb]
      rfl
    · rw [← hrun]
      exact State.raised_raise 818 _ [] hbocc (hbregs.rd (by simpa using hcnt))
    · rw [← hrun]
      exact (hbregs.mono (by simp)).raise 818 _ [] (fun o ho => by simp [ho])
    · rw [← hrun, ← hb]
      exact haonly.field (State.mem · x)
    · rw [← hrun, ← hb]
      exact haonly.field State.out

/-- A frame stored in host memory: what goes there, PHASE and HEAD. -/
theorem rxStored_host {s : State} {p : Fin 8} {q a : Nat} (hhost : s.ethHost p q = true) {g c : List Byte} {t : State} (ht : s.rxStored p q a g c = t) :
    t.out = s.out ++ [.hostWrite a g, .hostWrite (s.rd64 (ETH_Q_WB_LO p q) (ETH_Q_WB_HI p q) + 16 * (s.rd (ETH_Q_HEAD p q)).toNat) c] ∧
      tabGet t.lnd.phase true (8 * p.val + q) = (if (s.rd (ETH_Q_HEAD p q)).toNat + 1 = s.ethRing p q then !(tabGet s.lnd.phase true (8 * p.val + q))
        else tabGet s.lnd.phase true (8 * p.val + q)) ∧
      t.rd (ETH_Q_HEAD p q) = w32 (((s.rd (ETH_Q_HEAD p q)).toNat + 1) % s.ethRing p q) ∧ RegsBut s t [(ETH_Q_HEAD p q).off] ∧
      t = { s with regs := t.regs, lnd := t.lnd, out := t.out } := by
  generalize hb : (s.emit (.hostWrite a g)).emit (.hostWrite (s.rd64 (ETH_Q_WB_LO p q) (ETH_Q_WB_HI p q) + 16 * (s.rd (ETH_Q_HEAD p q)).toNat) c) = b
  generalize hd : (if (s.rd (ETH_Q_HEAD p q)).toNat + 1 = s.ethRing p q then
    ({ b with lnd := { b.lnd with phase := tabSet b.lnd.phase true (8 * p + q) (!(tabGet s.lnd.phase true (8 * p + q))) } } : State) else b) = d
  have hwrite (u : State) (hu : u.ethHost p q = true) (x : Nat) (y : List Byte) : u.ethWrite p q x y = u.emit (.hostWrite x y) := if_pos hu
  have hrun : d.wr (ETH_Q_HEAD p q) (w32 (((d.rd (ETH_Q_HEAD p q)).toNat + 1) % d.ethRing p q)) = t := by
    rw [← ht, State.rxStored]
    simp only
    rw [hwrite s hhost, hwrite (s.emit (.hostWrite a g)) hhost, ← hd, ← hb]
    rfl
  have hdframe : d = { s with lnd := d.lnd, out := s.out ++ [.hostWrite a g, .hostWrite (s.rd64 (ETH_Q_WB_LO p q) (ETH_Q_WB_HI p q) + 16 * (s.rd (ETH_Q_HEAD p q)).toNat) c] } := by
    rw [← hd, ← hb]
    split
    · exact congrArg (fun o => ({ s with lnd := _, out := o } : State)) (List.append_assoc _ _ _)
    · exact congrArg (fun o => ({ s with out := o } : State)) (List.append_assoc _ _ _)
  have hdphase : tabGet d.lnd.phase true (8 * p.val + q) = (if (s.rd (ETH_Q_HEAD p q)).toNat + 1 = s.ethRing p q then !(tabGet s.lnd.phase true (8 * p.val + q))
      else tabGet s.lnd.phase true (8 * p.val + q)) := by
    rw [← hd, ← hb]
    split
    · exact tabGet_set_self _ _ _ _
    · rfl
  have hdregs : d.regs = s.regs := by rw [hdframe]
  have hdrd (r : Reg) : d.rd r = s.rd r := by rw [State.rd, hdregs, State.rd]
  rw [State.ethRing, hdrd, hdrd] at hrun
  refine ⟨?_, ?_, ?_, ?_, ?_⟩
  · rw [← hrun, hdframe]
    rfl
  · rw [← hrun]
    exact hdphase
  · rw [← hrun, State.rd_wr_self, State.ethRing]
  · rw [← hrun]
    exact ((RegsBut.refl s _).congr hdregs).wr _ _
  · rw [← hrun, hdframe]
    rfl

theorem framesAreReceived : FramesAreReceived := by
  unfold FramesAreReceived
  intro p f fcs buf s i sound own
  have hp := p.isLt
  have hexec : exec i s = .next (s.settle (s.ethRx p f fcs buf.toNat)) := rfl
  -- A frame that changes nothing.
  have hnothing (h : s.ethRx p f fcs buf.toNat = s) : exec i s = .next s := by rw [hexec, h, State.settle_same rfl]
  refine ⟨fun h => hnothing (ethRx_down h), fun hmode hup hfcs => ?_, fun hmode hup hfcs h => hnothing (ethRx_dropped hmode hup hfcs h),
    fun ⟨hmode, hup, hfcs, h60, h9212, htype⟩ hnone hforeign => hnothing ((ethRx_sound hmode hup hfcs h60 h9212 htype).trans (rxSteered_foreign hnone hforeign)),
    fun j ⟨hmode, hup, hfcs, h60, h9212, htype⟩ hj hact => hnothing ((ethRx_sound hmode hup hfcs h60 h9212 htype).trans (rxSteered_discarded hj hact)),
    fun q fl ⟨hmode, hup, hfcs, h60, h9212, htype⟩ hto => ?_⟩
  · rw [hexec, ethRx_badFcs hmode hup hfcs]
    exact congrArg Host.Outcome.next (State.settle_same rfl)
  have hqueue : fl < 65536 ∧ s.ethRx p f fcs buf.toNat = s.rxQueue p q fl f buf.toNat := by
    rw [ethRx_sound hmode hup hfcs h60 h9212 htype]
    rcases hto with ⟨⟨hnone, hmac, huni⟩, rfl, rfl⟩ | ⟨j, hj, rfl, hact, rfl, h4⟩
    · exact ⟨by decide, rxSteered_own hnone hmac huni⟩
    · refine ⟨?_, rxSteered_queued hj hact h4⟩
      have := List.mem_range.1 (List.mem_of_find?_eq_some hj)
      omega
  obtain ⟨hfl, hrun⟩ := hqueue
  rw [hrun] at hexec
  intro dropped h
  have hdropped {r : Reg} (hr : r.off ∉ evRegs 818) (hdrop : s.rxQueue p q fl f buf.toNat = s.rxDrop p r) : dropped r := by
    rw [hdrop] at hexec
    obtain ⟨hcnt, hfirst, hagain, hregs, hmem, hout⟩ := rxDrop_shows hr (s := s) (p := p) rfl
    generalize s.rxDrop p r = t at *
    refine Runs.next hexec ⟨hcnt, fun hnot => ?_, fun hin => ?_, hregs, hmem, hout⟩
    · exact State.raised_settle (hfirst hnot)
    · rw [State.settle_occ_same (hagain hin)]
  refine ⟨fun hempty => hdropped ?_ (rxQueue_empty hempty), fun hready hlong => hdropped ?_ (rxQueue_long hready hlong), fun hready hfits hhost => ?_⟩
  · simp only [evRegs, EVT_R_CNT, EVT_R_LAST, ETH_P_RX_DROP, List.mem_cons, List.not_mem_nil, or_false]; omega
  · simp only [evRegs, EVT_R_CNT, EVT_R_LAST, ETH_P_RX_LONG, List.mem_cons, List.not_mem_nil, or_false]; omega
  rw [rxQueue_taken hready hfits, State.rxBuf, if_pos hhost] at hexec
  have hlen : (dropTag f).length < 65536 := by
    have := Nat.mod_lt ((s.rd (ETH_Q_CFG p q)).toNat / 2 ^ 10) (show 0 < 2 ^ (13 + 1 - 10) by decide)
    rw [bitsOf] at hfits
    omega
  obtain ⟨hout, hphase, hhead, hregs, hframe⟩ := rxStored_host hhost (p := p) (a := buf.toNat) (g := dropTag f) (c := s.rxEntry p q fl f) rfl
  generalize s.rxStored p q buf.toNat (dropTag f) (s.rxEntry p q fl f) = t at *
  have hocc : t.occ = s.occ := by rw [hframe]
  exact Runs.next (hexec.trans (congrArg Host.Outcome.next (State.settle_same hocc))) ⟨⟨s.rxEntry p q fl f, hout, rxEntry_says hlen hfl⟩, hphase, hhead, hregs, hframe⟩

/-- Settles O49, by the rules of a transmit queue's head and of a received frame's way to its queue. -/
theorem ethernetFrames : Obligations.EthernetFrames := ⟨framesAreSent, framesAreReceived⟩

end Sys2Proof.Machine
end

section
/-! PROOFS. Receive streams and send streams of Ethernet (R450 to R452). -/

-- One proof at a time: the text is compiled as one file in bounded memory.
set_option Elab.async false

namespace Sys2Proof.Machine
open Sys2Proof.Claims

/-! ### Receive streams (R452) -/

theorem State.recvOf_setRecv (s : State) (r : Nat) (x : EthRecv) : (s.setRecv r x).recvOf r = x := tabGet_set_self _ _ _ _

theorem State.recvOf_setRecv_ne (s : State) {r k : Nat} (x : EthRecv) (h : k ≠ r) : (s.setRecv r x).recvOf k = s.recvOf k := tabGet_set_ne _ _ _ _ h

/-- NAL units taken leave what is held. -/
theorem EthRecv.foldl_nal_held (l : List (List Byte)) : ∀ x : EthRecv, (l.foldl EthRecv.nal x).held = x.held := by
  induction l with
  | nil => intro x; rfl
  | cons n l ih => intro x; exact ih (x.nal n)

theorem EthRecv.take_held (x : EthRecv) (d : List Byte) : (x.take d).held = x.held := by
  unfold EthRecv.take
  dsimp only
  split
  · rfl
  split
  · exact EthRecv.foldl_nal_held _ _
  split
  · split
    · split <;> rfl
    · rfl
  · rfl

section
variable {s : State} {r : Nat}

/-- With nothing held that follows on, the packets held stay. -/
theorem recvDrain_none (h : ∀ k, k ∈ (s.recvOf r).held → some k.seq ≠ (s.recvOf r).next) : ∀ n, s.recvDrain r n = s
  | 0 => rfl
  | n + 1 => by
    have hnone : (s.recvOf r).held.find? (fun k => some k.seq == (s.recvOf r).next) = none :=
      List.find?_eq_none.2 fun k hk => by simpa using h k hk
    unfold State.recvDrain
    simp only [hnone]

theorem recvDrain_next {k : RtpPkt} (h : (s.recvOf r).held.find? (fun k => some k.seq == (s.recvOf r).next) = some k) (n : Nat) :
    s.recvDrain r (n + 1) = ((s.setRecv r { s.recvOf r with held := (s.recvOf r).held.filter (·.seq != k.seq) }).recvTake r k).recvDrain r n := by
  rw [State.recvDrain]
  simp only [h]

/-- A packet taken within its unit. -/
theorem recvTake_within {k : RtpPkt} (h : (s.recvOf r).opened = false ∨ (s.recvOf r).ts = k.ts) (hm : k.marker = false) :
    s.recvTake r k = s.setRecv r { ({ s.recvOf r with opened := true, ts := k.ts }.take k.payload) with next := some ((k.seq + 1) % 65536) } := by
  unfold State.recvTake
  have hsame : ¬ ((s.recvOf r).opened && (s.recvOf r).ts != k.ts) = true := by
    rcases h with h | h <;> simp [h]
  rw [if_neg hsame]
  exact if_neg (by rw [hm]; exact Bool.false_ne_true)

end

section
variable {s : State} {p : Fin 8} {r : Fin 4} {f d : List Byte} {j seq : Nat} {ts : Word} {m : Bool}

/-- A frame steered to a stream whose first path its port is. -/
theorem rxStream_parsed {c : Nat} (hc : (s.rd (ETH_R_CFG r)).toNat = c) (hon : c % 2 = 1) (hport : bitsOf c 6 4 = p) (hrtp : rtpParse (frUdpData f) = some (seq, ts, m, d)) :
    s.rxStream p r f = s.recvPacket r 0 ⟨seq, ts, m, d⟩ := by
  have hr := r.isLt
  unfold State.rxStream
  rw [hc]
  dsimp only
  rw [if_pos hport, if_neg (by simp only [Bool.or_eq_true, decide_eq_true_eq]; omega), hrtp]

end

section
variable {s : State} {r : Nat} {k : RtpPkt} {e : Nat} (hnext : (s.recvOf r).next = some e)
include hnext

/-- The path that a packet came on shows (R452). -/
theorem recvPacket_late (h : 32768 ≤ (k.seq + 65536 - e) % 65536 ∨ ∃ g, g ∈ (s.recvOf r).held ∧ g.seq = k.seq) :
    s.recvPacket r 0 k = (s.setFld (ETH_R_STATUS r) ⟨0, 0⟩ 1).inc (ETH_R_DUP_CNT r) := by
  have hx : (s.setFld (ETH_R_STATUS r) ⟨0, 0⟩ 1).recvOf r = s.recvOf r := rfl
  unfold State.recvPacket
  dsimp only
  rw [hx, hnext]
  refine if_pos ?_
  rcases h with h | ⟨g, hg, hseq⟩
  · rw [Option.getD_some, decide_eq_true h, Bool.true_or]
  · have hany : (s.recvOf r).held.any (fun x => x.seq == k.seq) = true := List.any_eq_true.2 ⟨g, hg, beq_iff_eq.2 hseq⟩
    rw [hany, Bool.or_true]

theorem recvPacket_fresh (h : (k.seq + 65536 - e) % 65536 < 32768) (hheld : ∀ g, g ∈ (s.recvOf r).held → g.seq ≠ k.seq) :
    s.recvPacket r 0 k =
      if (k.seq + 65536 - e) % 65536 = 0 then
        ((s.setFld (ETH_R_STATUS r) ⟨0, 0⟩ 1).recvTake r k).recvDrain r ((((s.setFld (ETH_R_STATUS r) ⟨0, 0⟩ 1).recvTake r k).recvOf r).held.length + 1)
      else (s.setFld (ETH_R_STATUS r) ⟨0, 0⟩ 1).setRecv r { s.recvOf r with held := (s.recvOf r).held ++ [k], next := some e } := by
  have hx : (s.setFld (ETH_R_STATUS r) ⟨0, 0⟩ 1).recvOf r = s.recvOf r := rfl
  unfold State.recvPacket
  dsimp only
  rw [hx, hnext, Option.getD_some]
  refine if_neg ?_
  rw [decide_eq_false (Nat.not_le.2 h), List.any_eq_false.2 fun g hg => by simpa using hheld g hg]
  decide

end

/-- The window passes the sequence number `n` that is missing. -/
def State.gapPassed (s : State) (r n : Nat) : State :=
  ((s.setRecv r { s.recvOf r with next := some ((n + 1) % 65536), bad := true, frag := none }).inc (ETH_R_GAP_CNT r)).raiseOnce 821 r
    (s.ethBid (bitsOf (s.rd (ETH_R_CFG r)).toNat 6 4))

theorem windowExpire_passes {s : State} {r : Fin 4} {n : Nat} (hnext : (s.recvOf r).next = some n) (hheld : (s.recvOf r).held ≠ []) :
    exec (.rtpWindowExpire r) s = .next (s.settle ((s.gapPassed r n).recvDrain r ((s.recvOf r).held.length + 1))) := by
  change execRtpWindowExpire r s = _
  unfold execRtpWindowExpire
  simp only [hnext]
  rw [if_neg (by simpa using hheld)]
  rfl

theorem gapPassed_shows {s : State} {r : Fin 4} {n : Nat} {t : State} (ht : s.gapPassed r n = t) :
    t.recvOf r = { s.recvOf r with next := some ((n + 1) % 65536), bad := true, frag := none } ∧ t.rd (ETH_R_GAP_CNT r) = satAdd (s.rd (ETH_R_GAP_CNT r)) 1 ∧
      ((821, r.val) ∉ s.roundFlags → Raised s t 821 (s.ethBid (bitsOf (s.rd (ETH_R_CFG r)).toNat 6 4)) 0 ∧ RegsBut s t ((ETH_R_GAP_CNT r).off :: evRegs 821) ∧
        t = { s with regs := t.regs, lnd := t.lnd, occ := t.occ, roundFlags := (821, r.val) :: s.roundFlags }) := by
  have hr := r.isLt
  generalize hs1 : s.setRecv r { s.recvOf r with next := some ((n + 1) % 65536), bad := true, frag := none } = s1
  have h1rd (q : Reg) : s1.rd q = s.rd q := by rw [← hs1]; rfl
  have h1regs : RegsBut s s1 [(ETH_R_GAP_CNT r).off] := (RegsBut.refl s _).congr (by rw [← hs1]; rfl)
  generalize ha : s1.inc (ETH_R_GAP_CNT r) = a
  have hrun : a.raiseOnce 821 r (s.ethBid (bitsOf (s.rd (ETH_R_CFG r)).toNat 6 4)) = t := by
    rw [← ht, ← ha, ← hs1]
    rfl
  have haframe : a = { s with regs := a.regs, lnd := s1.lnd } := by
    rw [← ha, ← hs1]
    rfl
  have harecv : a.recvOf r = { s.recvOf r with next := some ((n + 1) % 65536), bad := true, frag := none } := by
    rw [← ha, ← hs1]
    exact s.recvOf_setRecv r _
  have haregs : RegsBut s a [(ETH_R_GAP_CNT r).off] := by rw [← ha]; exact h1regs.inc _ _
  have hacnt : a.rd (ETH_R_GAP_CNT r) = satAdd (s.rd (ETH_R_GAP_CNT r)) 1 := by rw [← ha, State.inc_eq, State.rd_wr_self, h1rd]
  have hflags : a.roundFlags = s.roundFlags := by rw [haframe]
  have hcnt : (EVT_R_CNT 821).off ≠ (ETH_R_GAP_CNT r).off := by simp only [EVT_R_CNT, ETH_R_GAP_CNT]; omega
  have hlast : (EVT_R_LAST 821).off ≠ (ETH_R_GAP_CNT r).off := by simp only [EVT_R_LAST, ETH_R_GAP_CNT]; omega
  by_cases hin : (821, r.val) ∈ s.roundFlags
  · rw [raiseOnce_again (hflags ▸ hin)] at hrun
    subst hrun
    exact ⟨harecv, hacnt, fun h => absurd hin h⟩
  · rw [raiseOnce_first (hflags ▸ hin)] at hrun
    generalize hb : ({ a with roundFlags := (821, r.val) :: a.roundFlags } : State) = b at hrun
    have hbframe : b = { s with regs := b.regs, lnd := s1.lnd, roundFlags := (821, r.val) :: s.roundFlags } := by rw [← hb, haframe]
    have hbregs : RegsBut s b [(ETH_R_GAP_CNT r).off] := haregs.congr (by rw [← hb])
    refine ⟨?_, ?_, fun _ => ⟨?_, ?_, ?_⟩⟩
    · rw [← hrun, ← hb]
      exact harecv
    · rw [← hrun, State.rd_raise _ _ _ _ hcnt.symm hlast.symm, ← hacnt, ← hb]
      rfl
    · rw [← hrun]
      exact State.raised_raise 821 _ [] (by rw [hbframe]) (hbregs.rd (by simpa using hcnt))
    · rw [← hrun]
      exact (hbregs.mono (by simp)).raise 821 _ [] (fun o ho => by simp [ho])
    · rw [← hrun, hbframe]
      rfl

theorem streamsAreReceived : StreamsAreReceived := by
  unfold StreamsAreReceived
  intro p r f d fcs buf j seq e ts m s c x k steered seen
  have hr := r.isLt
  have hexec : exec (.ethRxFrame p f fcs buf) s = .next (s.settle (s.ethRx p f fcs buf.toNat)) := rfl
  generalize hu : s.setFld (ETH_R_STATUS r) ⟨0, 0⟩ 1 = u
  have huregs : RegsBut s u [(ETH_R_STATUS r).off] := by rw [← hu]; exact (RegsBut.refl s _).setFld _ _ _
  have huframe : OnlyRegs s u := by rw [← hu]; exact (OnlyRegs.refl s).setFld _ _ _
  have hux : u.recvOf r = x := by rw [← hu]; rfl
  have hubit : (u.rd (ETH_R_STATUS r)).getLsbD 0 = true := by
    rw [← hu, State.setFld_eq, State.rd_wr_self, Fld.put_getLsbD _ _ _ _ (by decide)]
    rfl
  have hrun (h : steered) : s.ethRx p f fcs buf.toNat = s.recvPacket r 0 k ∧ x.next = some e := by
    obtain ⟨hmode, hup, hfcs, h60, h9212, htype, hj, hact, hto, hon, hport, hrtp, hnext⟩ := h
    rw [ethRx_sound hmode hup hfcs h60 h9212 htype, rxSteered_streamed hj hact, hto, rxStream_parsed rfl hon hport hrtp]
    exact ⟨rfl, hnext⟩
  have hclosed {t : State} (ht : s.ethRx p f fcs buf.toNat = t) (hocc : t.occ = s.occ) : exec (.ethRxFrame p f fcs buf) s = .next t := by
    rw [hexec, ht, State.settle_same hocc]
  refine ⟨fun hst hlate => ?_, fun hst hpos hlt hfresh => ?_, fun hst hzero hheld hsame hm => ?_, fun hnone => ?_, fun h hnext hheld hgap hround => ?_,
    fun h hnext hheld hfollows hopen hts hmark => ?_, fun b hoff => ?_, fun b hon hseen => ?_⟩
  · obtain ⟨heq, hnext⟩ := hrun hst
    rw [recvPacket_late hnext hlate, hu] at heq
    have hne : (ETH_R_STATUS r).off ≠ (ETH_R_DUP_CNT r).off := by simp only [ETH_R_STATUS, ETH_R_DUP_CNT]; omega
    refine Runs.next (hclosed heq huframe.occ) ⟨?_, ?_, (huregs.mono (by simp)).inc _ _, huframe.inc _ _⟩
    · rw [State.inc_eq, State.rd_wr_self, huregs.rd (by simpa using hne.symm)]
    · show ((u.inc (ETH_R_DUP_CNT r)).rd (ETH_R_STATUS r)).getLsbD 0 = true
      rw [State.inc_eq, State.rd_wr_ne _ _ hne, hubit]
  · obtain ⟨heq, hnext⟩ := hrun hst
    rw [recvPacket_fresh hnext hlt hfresh, if_neg (show ¬ (k.seq + 65536 - e) % 65536 = 0 by exact hpos.ne'), hu,
      show ({ s.recvOf r with held := (s.recvOf r).held ++ [k], next := some e } : EthRecv) = { x with held := x.held ++ [k] } by rw [← hnext]] at heq
    refine Runs.next (hclosed heq huframe.occ) ⟨u.recvOf_setRecv r _, fun n hn => ?_, hubit, huregs.congr, ?_⟩
    · rw [u.recvOf_setRecv_ne _ hn, ← hu]
      rfl
    · rw [huframe]
      rfl
  · obtain ⟨heq, hnext⟩ := hrun hst
    rw [recvPacket_fresh hnext (by rw [show (k.seq + 65536 - e) % 65536 = 0 from hzero]; decide) (fun g hg => absurd hg (by rw [show (s.recvOf r).held = [] from hheld]; exact List.not_mem_nil)), if_pos hzero, hu,
      recvTake_within (by rw [hux]; exact hsame) hm, hux] at heq
    rw [recvDrain_none (by rw [u.recvOf_setRecv, show ∀ (y : EthRecv) (n : Option Nat), ({ y with next := n } : EthRecv).held = y.held from fun _ _ => rfl, EthRecv.take_held]; exact fun k hk => absurd hk (by rw [show ({ x with opened := true, ts := _ } : EthRecv).held = [] from hheld]; exact List.not_mem_nil))] at heq
    refine Runs.next (hclosed heq huframe.occ) ⟨u.recvOf_setRecv r _, hubit, huregs.congr, ?_⟩
    rw [huframe]
    rfl
  · change execRtpWindowExpire r s = _
    unfold execRtpWindowExpire
    dsimp only
    rcases hnone with h | h
    · rw [show (s.recvOf r).next = none from h]
    · cases hn : (s.recvOf r).next with
      | none => rfl
      | some n =>
        dsimp only
        exact congrArg Host.Outcome.next (if_pos (by rw [show (s.recvOf r).held = [] from h]; rfl))
  · have hrunW := windowExpire_passes (r := r) hnext (by rw [show (s.recvOf r).held = [h] from hheld]; exact List.cons_ne_nil _ _)
    obtain ⟨hrecv, hcnt, hfirst⟩ := gapPassed_shows (s := s) (r := r) (n := e) rfl
    obtain ⟨hraised, hregs, hframe⟩ := hfirst hround
    generalize s.gapPassed r e = t at *
    rw [recvDrain_none (by
      rw [hrecv, show (s.recvOf r).held = [h] from hheld]
      intro g hg
      rw [List.mem_singleton.1 hg]
      exact fun heq => hgap (Option.some.inj heq))] at hrunW
    refine Runs.next hrunW ⟨hrecv, hcnt, State.raised_settle hraised, hregs, ?_⟩
    rw [hframe]
    rfl
  · have hrunW := windowExpire_passes (r := r) hnext (by rw [show (s.recvOf r).held = [h] from hheld]; exact List.cons_ne_nil _ _)
    obtain ⟨hrecv, hcnt, -⟩ := gapPassed_shows (s := s) (r := r) (n := e) rfl
    generalize s.gapPassed r e = a at *
    have haheld : (a.recvOf r).held = [h] := by rw [hrecv]; exact hheld
    have hafirst : (a.recvOf r).held.find? (fun k => some k.seq == (a.recvOf r).next) = some h := by
      rw [haheld, hrecv]
      exact List.find?_cons_of_pos (by rw [hfollows, beq_self_eq_true])
    have hfilter : (a.recvOf r).held.filter (·.seq != h.seq) = [] := by
      rw [haheld]
      exact List.filter_cons_of_neg (by rw [bne_self_eq_false]; exact Bool.false_ne_true)
    have hlen : (s.recvOf r).held.length + 1 = 1 + 1 := congrArg (List.length · + 1) hheld
    rw [hlen, recvDrain_next hafirst, hfilter] at hrunW
    generalize hy : ({ a.recvOf r with held := [] } : EthRecv) = y at hrunW
    have hyts : y.ts = h.ts := by rw [← hy, hrecv]; exact hts
    have hyheld : y.held = [] := by rw [← hy]
    rw [recvTake_within (.inr (by rw [State.recvOf_setRecv]; exact hyts)) hmark, State.recvOf_setRecv] at hrunW
    generalize hz : ({ ({ y with opened := true, ts := h.ts }.take h.payload) with next := some ((h.seq + 1) % 65536) } : EthRecv) = z at hrunW
    have hzheld : z.held = [] := by
      rw [← hz]
      exact (EthRecv.take_held _ _).trans hyheld
    have hznext : z.next = some ((h.seq + 1) % 65536) := by rw [← hz]
    generalize hb : (a.setRecv r y).setRecv r z = b at hrunW
    have hbz : b.recvOf r = z := by rw [← hb]; exact State.recvOf_setRecv _ r z
    rw [recvDrain_none (by rw [hbz, hzheld]; exact fun g hg => absurd hg List.not_mem_nil)] at hrunW
    refine Runs.next hrunW ⟨(congrArg EthRecv.next hbz).trans hznext, (congrArg EthRecv.held hbz).trans hzheld, ?_⟩
    rw [← hcnt, ← hb]
    rfl
  · refine congrArg Host.Outcome.next (if_neg ?_)
    rcases hoff with h | h
    · simp [show (s.rd (ETH_R_CFG r)).toNat % 2 = 0 from h]
    · rw [bitOf, h, Bool.and_false]
      exact Bool.false_ne_true
  · have hrunP : exec (.rtpPathSilent r b) s = .next ((s.setFld (ETH_R_STATUS r) ⟨b2n b, b2n b⟩ 0).raise 820 (s.ethBid (if b then bitsOf c 10 8 else bitsOf c 6 4))) :=
      congrArg Host.Outcome.next (if_pos (by rw [bitOf, hseen, Bool.and_true]; exact decide_eq_true hon))
    generalize hw : s.setFld (ETH_R_STATUS r) ⟨b2n b, b2n b⟩ 0 = w at hrunP
    have hwregs : RegsBut s w [(ETH_R_STATUS r).off] := by rw [← hw]; exact (RegsBut.refl s _).setFld _ _ _
    have hwonly : OnlyRegs s w := by rw [← hw]; exact (OnlyRegs.refl s).setFld _ _ _
    have hcnt : (EVT_R_CNT 820).off ≠ (ETH_R_STATUS r).off := by simp only [EVT_R_CNT, ETH_R_STATUS]; omega
    have hlast : (EVT_R_LAST 820).off ≠ (ETH_R_STATUS r).off := by simp only [EVT_R_LAST, ETH_R_STATUS]; omega
    refine Runs.next hrunP ⟨?_, State.raised_raise 820 _ [] hwonly.occ (hwregs.rd (by simpa using hcnt)), (hwregs.mono (by simp)).raise 820 _ [] (fun o ho => by simp [ho]),
      hwonly.regsOcc.raise 820 _ []⟩
    rw [State.rd_raise _ _ _ _ hcnt.symm hlast.symm, ← hw, State.setFld_eq, State.rd_wr_self, Fld.put_getLsbD _ _ _ _ (by have := b2n_le b; omega)]
    simp

/-! ### Send streams (R449 to R451) -/

theorem State.sendOf_setSend (s : State) (n : Nat) (x : EthSend) : (s.setSend n x).sendOf n = x := tabGet_set_self _ _ _ _

theorem State.sendOf_setSend_ne (s : State) {n k : Nat} (x : EthSend) (h : k ≠ n) : (s.setSend n x).sendOf k = s.sendOf k := tabGet_set_ne _ _ _ _ h

theorem length_beBytes (n v : Nat) : (beBytes n v).length = n := by rw [beBytes, List.length_reverse, length_leBytes]

/-- A big-endian field, between what stands before and behind it. -/
theorem beAt_beBytes {l r : List Byte} {off n : Nat} (hoff : l.length = off) (v : Nat) : beAt (l ++ (beBytes n v ++ r)) off n = v % 256 ^ n := by
  rw [beAt, ← hoff, List.drop_left, List.take_left' (length_beBytes n v), beBytes, List.reverse_reverse, leNat_leBytes]

/-- A packet of a stream takes its number and counts. -/
def State.sendCounted (s : State) (n : Nat) : State := (s.setSend n { s.sendOf n with seq := ((s.sendOf n).seq + 1) % 4294967296 }).incWrap (ETH_S_PKTS n)

/-- The RTP packet of a stream. -/
def State.sendRtp (s : State) (n : Nat) (marker : Bool) (ts : Word) (data : List Byte) : List Byte :=
  let seq := (Config.rtpSeq0 n + (s.sendOf n).seq) % 4294967296
  rtpHeader marker (96 + bitsOf (s.rd (ETH_S_CFG n)).toNat 28 24) seq ts (s.rd (ETH_S_SSRC n)) ++ (if s.sendType n = 0 then beBytes 2 (seq / 65536) else []) ++ data

/-- A packet on its first path. -/
def State.sendPathA (s : State) (n p : Nat) (rtp : List Byte) : State :=
  if s.ethUp p then
    ((s.ethWake p).emit (.packet p (udpFrame (wordsBytes ((List.range 12).map (fun i => s.rd (ETH_S_HDR_A n i)))) (s.ethMac p) (Config.ipFree s.freeCtr) rtp))).useFree
  else s.inc (ETH_S_PATH_DROP n)

section
variable {s : State} {n : Fin 32}

theorem sendOut_onePath {c : Nat} (hc : (s.rd (ETH_S_CFG n)).toNat = c) (hone : bitsOf c 11 11 = 0) (marker : Bool) (ts : Word) (data : List Byte) :
    s.sendOut n marker ts data = (s.sendCounted n).sendPathA n (bitsOf c 6 4) (s.sendRtp n marker ts data) := by
  subst hc
  exact if_neg (by rw [hone]; decide)

theorem sendCounted_shows {t : State} (ht : s.sendCounted n = t) :
    t.sendOf n = { s.sendOf n with seq := ((s.sendOf n).seq + 1) % 4294967296 } ∧ (∀ k, k ≠ n.val → t.sendOf k = s.sendOf k) ∧
      t.rd (ETH_S_PKTS n) = s.rd (ETH_S_PKTS n) + 1 ∧ RegsBut s t [(ETH_S_PKTS n).off] ∧ t = { s with regs := t.regs, lnd := t.lnd } := by
  generalize ha : s.setSend n { s.sendOf n with seq := ((s.sendOf n).seq + 1) % 4294967296 } = a
  have hrun : a.incWrap (ETH_S_PKTS n) = t := by rw [← ht, ← ha]; rfl
  have haregs : RegsBut s a [(ETH_S_PKTS n).off] := (RegsBut.refl s _).congr (by rw [← ha]; rfl)
  refine ⟨?_, fun k hk => ?_, ?_, ?_, ?_⟩
  · rw [← hrun, ← ha]
    exact s.sendOf_setSend n _
  · rw [← hrun, ← ha]
    exact s.sendOf_setSend_ne _ hk
  · rw [← hrun, State.incWrap_eq, State.rd_wr_self, ← ha]
    rfl
  · rw [← hrun]
    exact haregs.wr _ _
  · rw [← hrun, ← ha]
    rfl

variable {p : Nat}

/-- A packet that leaves. -/
theorem sendPathA_up {a : State} (haregs : RegsBut s a [(ETH_S_PKTS n).off]) (hfree : a.freeCtr = s.freeCtr) (hup : s.ethUp p = true) (hawake : (s.rd (ETH_P_STATUS p)).getLsbD 1 = false)
    (rtp : List Byte) : a.sendPathA n p rtp = (a.emit (.packet p (udpFrame (wordsBytes ((List.range 12).map (fun i => s.rd (ETH_S_HDR_A n i)))) (s.ethMac p)
      (Config.ipFree s.freeCtr) rtp))).useFree := by
  have hn := n.isLt
  have hstat : a.rd (ETH_P_STATUS p) = s.rd (ETH_P_STATUS p) := haregs.rd (by simp only [ETH_P_STATUS, ETH_S_PKTS, List.mem_singleton]; omega)
  have hhdr : (List.range 12).map (fun i => a.rd (ETH_S_HDR_A n i)) = (List.range 12).map (fun i => s.rd (ETH_S_HDR_A n i)) :=
    List.map_congr_left fun i hi => haregs.rd (by have := List.mem_range.1 hi; simp only [ETH_S_HDR_A, ETH_S_PKTS, List.mem_singleton]; omega)
  have hmac : a.ethMac p = s.ethMac p := by
    rw [State.ethMac, haregs.rd (by simp only [ETH_P_MAC_LO, ETH_S_PKTS, List.mem_singleton]; omega),
      haregs.rd (by simp only [ETH_P_MAC_HI, ETH_S_PKTS, List.mem_singleton]; omega), State.ethMac]
  have haup : a.ethUp p = true := by rw [State.ethUp, hstat]; exact hup
  rw [State.sendPathA, if_pos haup, ethWake_awake (hstat ▸ hawake), hhdr, hmac, hfree]

theorem sendPathA_down {a : State} (haregs : RegsBut s a [(ETH_S_PKTS n).off]) (hup : s.ethUp p = false) (rtp : List Byte) : a.sendPathA n p rtp = a.inc (ETH_S_PATH_DROP n) := by
  have hn := n.isLt
  refine if_neg ?_
  rw [State.ethUp, haregs.rd (by simp only [ETH_P_STATUS, ETH_S_PKTS, List.mem_singleton]; omega)]
  exact Bool.eq_false_iff.1 hup

end

section
variable {s : State} {n : Fin 32}

theorem sendPacket_off (h : (s.rd (ETH_S_CFG n)).toNat % 2 = 0) : exec (.ethSendPacket n) s = .next s := by
  refine congrArg Host.Outcome.next (if_pos ?_)
  rw [bitOf, BitVec.getLsbD, Nat.testBit_zero, h]
  decide

section
variable (hon : (s.rd (ETH_S_CFG n)).toNat % 2 = 1)
include hon

/-- What a stream that is on sends. -/
theorem sendPacket_on : exec (.ethSendPacket n) s = .next (match s.sendType n with
      | 0 => if (s.sendOf n).sending then s.sendVideo n else s
      | 1 => s.sendAudio n
      | 2 =>
        if (s.sendOf n).sending then
          let t := s.sendOut n true (s.sendOf n).ts (Config.ancPayload (s.rd (SCN_TC (s.sendInst n % 4))) (s.scnId (s.sendInst n % 4)))
          t.setSend n { t.sendOf n with sending := false }
        else s
      | _ => s.sendHevc n) := by
  refine congrArg Host.Outcome.next (if_neg ?_)
  rw [bitOf, BitVec.getLsbD, Nat.testBit_zero, hon]
  decide

theorem sendPacket_video (htype : s.sendType n = 0) (hsend : (s.sendOf n).sending = true) : exec (.ethSendPacket n) s = .next (s.sendVideo n) := by
  rw [sendPacket_on hon, htype]
  exact congrArg Host.Outcome.next (if_pos hsend)

theorem sendPacket_audio (htype : s.sendType n = 1) : exec (.ethSendPacket n) s = .next (s.sendAudio n) := by
  rw [sendPacket_on hon, htype]
  rfl

theorem sendPacket_anc (htype : s.sendType n = 2) (hsend : (s.sendOf n).sending = true) {t : State}
    (ht : s.sendOut n true (s.sendOf n).ts (Config.ancPayload (s.rd (SCN_TC (s.sendInst n % 4))) (s.scnId (s.sendInst n % 4))) = t) :
    exec (.ethSendPacket n) s = .next (t.setSend n { t.sendOf n with sending := false }) := by
  rw [sendPacket_on hon, htype, ← ht]
  exact congrArg Host.Outcome.next (if_pos hsend)

theorem sendPacket_waits (htype : s.sendType n = 0 ∨ s.sendType n = 2) (hsend : (s.sendOf n).sending = false) : exec (.ethSendPacket n) s = .next s := by
  have hno : ¬ (s.sendOf n).sending = true := by rw [hsend]; exact Bool.false_ne_true
  rcases htype with h | h <;> rw [sendPacket_on hon, h] <;> exact congrArg Host.Outcome.next (if_neg hno)

end

theorem sendAudio_waits (h : audPacking ((List.range 16).filter (fun i => bitOf (s.rd (ETH_S_FMT n)) (16 + i))).length (s.audFs (s.sendInst n % 16)) (s.sendBytes n) = none ∨
    s.rd (AUD_D_WP (s.sendInst n % 16) 0) = 0) : s.sendAudio n = s := by
  unfold State.sendAudio
  dsimp only
  cases hpack : audPacking ((List.range 16).filter (fun i => bitOf (s.rd (ETH_S_FMT n)) (16 + i))).length (s.audFs (s.sendInst n % 16)) (s.sendBytes n) with
  | none => rfl
  | some bk =>
    rw [hpack] at h
    dsimp only
    have hwp := h.resolve_left (Option.some_ne_none _)
    exact if_pos (by rw [hwp]; exact Bool.or_true _)

/-- The bytes of a video packet behind the stream's header: one SRD and its samples. -/
def State.videoPay (s : State) (n : Nat) (g : Surface) (per line : Nat) : List Byte :=
  let y := (s.sendOf n).idx / max 1 line
  let px := (s.sendOf n).idx % max 1 line * per
  let data := s.pgData g y px (min per (g.w - px))
  beBytes 2 data.length ++ beBytes 2 y ++ beBytes 2 px ++ data

theorem sendVideo_packet {b : Nat × Nat} (hcur : (s.sendOf n).cur = some b) {g : Surface} (hg : s.sendSurface n b = g) {per line : Nat} {last : Bool}
    (hper : max 1 (s.sendBytes n / (pgroup g.fmt g.depth).2) * (pgroup g.fmt g.depth).1 = per) (hline : ceilDiv g.w per = line)
    (hlast : ((s.sendOf n).idx + 1 == line * g.h) = last) {t : State} (ht : s.sendOut n last (s.sendOf n).ts (s.videoPay n g per line) = t) :
    s.sendVideo n = t.setSend n { t.sendOf n with idx := (s.sendOf n).idx + 1, sending := !last } := by
  unfold State.sendVideo
  dsimp only
  rw [hcur]
  subst hlast hline hper hg ht
  rfl

theorem videoPay_place (g : Surface) (per line : Nat) : beAt (s.videoPay n g per line) 2 2 = (s.sendOf n).idx / max 1 line % 65536 ∧
    beAt (s.videoPay n g per line) 4 2 = (s.sendOf n).idx % max 1 line * per % 65536 := by
  unfold State.videoPay
  dsimp only
  constructor
  · rw [List.append_assoc, List.append_assoc]
    exact beAt_beBytes (length_beBytes 2 _) _
  · rw [List.append_assoc]
    exact beAt_beBytes (by rw [List.length_append, length_beBytes, length_beBytes]) _

/-- A stream with one path, on a port that is up and awake, sends a packet. -/
theorem sendOut_leaves {c : Nat} (hc : (s.rd (ETH_S_CFG n)).toNat = c) (hone : bitsOf c 11 11 = 0) (hup : s.ethUp (bitsOf c 6 4) = true)
    (hawake : (s.rd (ETH_P_STATUS (bitsOf c 6 4))).getLsbD 1 = false) (marker : Bool) (ts : Word) (data : List Byte) {t : State} (ht : s.sendOut n marker ts data = t) :
    t.out = s.out ++ [.packet (bitsOf c 6 4) (udpFrame (wordsBytes ((List.range 12).map (fun i => s.rd (ETH_S_HDR_A n i)))) (s.ethMac (bitsOf c 6 4))
        (Config.ipFree s.freeCtr) (s.sendRtp n marker ts data))] ∧
      t.sendOf n = { s.sendOf n with seq := ((s.sendOf n).seq + 1) % 4294967296 } ∧ (∀ k, k ≠ n.val → t.sendOf k = s.sendOf k) ∧
      t.rd (ETH_S_PKTS n) = s.rd (ETH_S_PKTS n) + 1 ∧ RegsBut s t [(ETH_S_PKTS n).off] ∧
      t = { s with regs := t.regs, lnd := t.lnd, out := t.out, freeCtr := s.freeCtr + 1 } := by
  obtain ⟨hsend, hothers, hpkts, hregs, hframe⟩ := sendCounted_shows (s := s) (n := n) rfl
  rw [sendOut_onePath hc hone, sendPathA_up hregs (by rw [hframe]) hup hawake] at ht
  generalize s.sendCounted n = a at *
  generalize udpFrame (wordsBytes ((List.range 12).map (fun i => s.rd (ETH_S_HDR_A n i)))) (s.ethMac (bitsOf c 6 4)) (Config.ipFree s.freeCtr) (s.sendRtp n marker ts data) = pkt at *
  subst ht
  refine ⟨?_, hsend, hothers, hpkts, hregs.congr, ?_⟩
  · rw [hframe]
    rfl
  · rw [hframe]
    rfl

end

theorem streamsAreSent : StreamsAreSent := by
  unfold StreamsAreSent
  intro n s c x p seq hdr onePath
  have hn := n.isLt
  refine ⟨fun h => ?_, fun b ⟨hon, hone, hup, hawake⟩ htype hsend hcur => ?_, fun ⟨hon, hone, hup, hawake⟩ htype hsend => ?_, fun hon hone hdown htype hsend => ?_, ?_⟩
  · by_cases hon : c % 2 = 1
    · rcases h with h | ⟨htype, hsend⟩
      · omega
      · exact sendPacket_waits hon htype hsend
    · exact sendPacket_off (Nat.mod_two_ne_one.1 hon)
  · intro g per line last
    obtain ⟨hout, hsendOf, hothers, hpkts, hregs, hframe⟩ := sendOut_leaves rfl hone hup hawake last x.ts (s.videoPay n g per line) rfl
    have hrun := sendVideo_packet (s := s) (n := n) hcur (g := g) rfl (per := per) rfl (line := line) rfl (last := last) rfl rfl
    rw [show s.sendRtp n last x.ts (s.videoPay n g per line) = rtpHeader last (96 + bitsOf c 28 24) seq x.ts (s.rd (ETH_S_SSRC n)) ++ beBytes 2 (seq / 65536) ++ s.videoPay n g per line by
      rw [State.sendRtp, if_pos htype]] at hout
    generalize s.sendOut n last x.ts (s.videoPay n g per line) = t at *
    have hexec := sendPacket_video hon htype hsend
    rw [hrun, hsendOf] at hexec
    refine Runs.next hexec ⟨⟨s.videoPay n g per line, hout, videoPay_place g per line⟩, t.sendOf_setSend n _, fun k hk => ?_, hpkts, hregs.congr, ?_⟩
    · rw [t.sendOf_setSend_ne _ hk, hothers k hk]
    · rw [hframe]
      rfl
  · obtain ⟨hout, hsendOf, hothers, hpkts, hregs, hframe⟩ := sendOut_leaves rfl hone hup hawake true x.ts
      (Config.ancPayload (s.rd (SCN_TC (s.sendInst n % 4))) (s.scnId (s.sendInst n % 4))) rfl
    have hexec := sendPacket_anc (s := s) (n := n) hon htype hsend rfl
    rw [show s.sendRtp n true x.ts (Config.ancPayload (s.rd (SCN_TC (s.sendInst n % 4))) (s.scnId (s.sendInst n % 4))) =
        rtpHeader true (96 + bitsOf c 28 24) seq x.ts (s.rd (ETH_S_SSRC n)) ++ Config.ancPayload (s.rd (SCN_TC (s.sendInst n % 4))) (s.scnId (s.sendInst n % 4)) by
      rw [State.sendRtp, if_neg (by rw [htype]; decide), List.append_nil]] at hout
    generalize s.sendOut n true x.ts (Config.ancPayload (s.rd (SCN_TC (s.sendInst n % 4))) (s.scnId (s.sendInst n % 4))) = t at *
    rw [hsendOf] at hexec
    refine Runs.next hexec ⟨hout, t.sendOf_setSend n _, hpkts, hregs.congr, ?_⟩
    rw [hframe]
    rfl
  · have hexec := sendPacket_anc (s := s) (n := n) hon htype hsend rfl
    obtain ⟨hsendOf, -, -, hregs, hframe⟩ := sendCounted_shows (s := s) (n := n) rfl
    rw [sendOut_onePath rfl hone, sendPathA_down hregs hdown] at hexec
    generalize s.sendCounted n = a at *
    have hsend' : (a.inc (ETH_S_PATH_DROP n)).sendOf n = { x with seq := (x.seq + 1) % 4294967296 } := hsendOf
    rw [hsend'] at hexec
    generalize hb : a.inc (ETH_S_PATH_DROP n) = b at hexec
    have hbframe : b = { a with regs := b.regs } := by rw [← hb]; rfl
    refine Runs.next hexec ⟨?_, b.sendOf_setSend n _, ?_, ?_⟩
    · show b.rd (ETH_S_PATH_DROP n) = _
      rw [← hb, State.inc_eq, State.rd_wr_self, hregs.rd (by simp only [ETH_S_PATH_DROP, ETH_S_PKTS, List.mem_singleton]; omega)]
    · refine RegsBut.congr (t := b) ?_
      rw [← hb]
      exact (hregs.mono (by simp)).inc _ _ (by simp)
    · rw [hbframe, hframe]
      rfl
  · intro slots a htype h
    by_cases hon : c % 2 = 1
    · rw [sendPacket_audio hon htype, sendAudio_waits h]
    · exact sendPacket_off (Nat.mod_two_ne_one.1 hon)

/-- Settles O50, by the cases of a packet received and of a packet sent. -/
theorem ethernetStreams : Obligations.EthernetStreams := ⟨streamsAreReceived, streamsAreSent⟩

end Sys2Proof.Machine
end

section
/-! PROOFS. The stages of the Landing quads and what their owners show (R430 to R433). -/

-- One proof at a time: the text is compiled as one file in bounded memory.
set_option Elab.async false

namespace Sys2Proof.Machine
open Sys2Proof.Claims

/-! ### STAGE of a quad (R431) -/

section
variable {s : State} {q n : Nat}

theorem quadStage_setFld (hn : n < 8) : (s.setFld (LND_Q_STATUS q) ⟨2, 0⟩ n).quadStage q = n := by
  have h := Fld.get_put_self ⟨2, 0⟩ (s.rd (LND_Q_STATUS q)) n (by decide)
  rw [State.quadStage, State.setFld_eq, State.rd_wr_self]
  exact h.trans (Nat.mod_eq_of_lt hn)

theorem setQuadStage_ne (h : s.quadStage q ≠ n) : s.setQuadStage q n = (s.setFld (LND_Q_STATUS q) ⟨2, 0⟩ n).raise 768 (0x0B00 + q) [w32 n] := if_neg h

theorem setQuadStage_regs : RegsBut s (s.setQuadStage q n) ((LND_Q_STATUS q).off :: evRegs 768) :=
  (RegsBut.refl s _).ite (((RegsBut.refl s _).setFld _ _ _ (by simp)).raise 768 _ _ (fun o ho => by simp [ho]))

theorem setQuadStage_only : OnlyRegsOcc s (s.setQuadStage q n) := (OnlyRegsOcc.refl s).ite (((OnlyRegsOcc.refl s).setFld _ _ _).raise 768 _ _)

theorem rd_raise_quad {ev src : Nat} {items : List Word} : (s.raise ev src items).rd (LND_Q_STATUS q) = s.rd (LND_Q_STATUS q) :=
  State.rd_raise _ _ _ _ (by simp only [LND_Q_STATUS, EVT_R_CNT]; omega) (by simp only [LND_Q_STATUS, EVT_R_LAST]; omega)

theorem quadStage_setQuadStage (hn : n < 8) : (s.setQuadStage q n).quadStage q = n := by
  by_cases h : s.quadStage q = n
  · rw [State.setQuadStage, if_pos h, h]
  · rw [setQuadStage_ne h, State.quadStage, rd_raise_quad]
    exact quadStage_setFld hn

/-- The lanes that locked stay as the stage changes. -/
theorem lanes_setQuadStage : Fld.get ⟨7, 4⟩ ((s.setQuadStage q n).rd (LND_Q_STATUS q)) = Fld.get ⟨7, 4⟩ (s.rd (LND_Q_STATUS q)) := by
  by_cases h : s.quadStage q = n
  · rw [State.setQuadStage, if_pos h]
  · rw [setQuadStage_ne h, rd_raise_quad, State.setFld_eq, State.rd_wr_self]
    exact Fld.get_put_ne _ _ _ _ (by decide) (.inr (by decide))

/-- A new stage is told by event 768. -/
theorem setQuadStage_raised (h : s.quadStage q ≠ n) : Raised s (s.setQuadStage q n) 768 (0x0B00 + q) (w32 n) := by
  rw [setQuadStage_ne h]
  exact (Raised.of_raise (s.setFld (LND_Q_STATUS q) ⟨2, 0⟩ n) 768 (0x0B00 + q) [w32 n]).earlier rfl ((RegsBut.refl s [(LND_Q_STATUS q).off]).setFld _ _ _)
    (by simp only [EVT_R_CNT, LND_Q_STATUS, List.mem_singleton]; omega)

end

/-! ### A link comes up (R431) -/

/-- What a quad in ACTIVE shows: its lanes, the last stage told, and event 770. -/
def QuadUp (s t : State) (q lanes : Nat) : Prop :=
  t.quadStage q = 4 ∧ bitsOf (t.rd (LND_Q_STATUS q)).toNat 7 4 = lanes ∧ t.rd (EVT_R_LAST 768) = 4 ∧ t.rd (EVT_R_CNT 770) = satAdd (s.rd (EVT_R_CNT 770)) 1

/-- It rests on three registers. -/
theorem QuadUp.later {s t u : State} {q lanes : Nat} {os : List Nat} (h : QuadUp s t q lanes) (hregs : RegsBut t u os)
    (hos : (LND_Q_STATUS q).off ∉ os ∧ (EVT_R_LAST 768).off ∉ os ∧ (EVT_R_CNT 770).off ∉ os) : QuadUp s u q lanes := by
  obtain ⟨hstat, hlast, hcnt⟩ := hos
  unfold QuadUp
  rw [State.quadStage, hregs.rd hstat, hregs.rd hlast, hregs.rd hcnt]
  exact h

/-- The stages that a protocol passes on the way to ACTIVE. -/
def State.quadClimb (s : State) (q proto : Nat) : State :=
  if proto = 6 || proto = 7 || proto = 8 then s.setQuadStage q 2 else if proto = 2 then s.setQuadStage q 3 else s

/-- Training is complete. -/
def State.quadActive (s : State) (q proto lanes : Nat) : State :=
  (((s.setFld (LND_Q_STATUS q) ⟨7, 4⟩ lanes).quadClimb q proto).setQuadStage q 4).raise 770 (0x0B00 + q)

theorem quadClimb_shows {s : State} {q proto : Nat} (hs : s.quadStage q ≠ 4) {t : State} (ht : s.quadClimb q proto = t) :
    t.quadStage q ≠ 4 ∧ Fld.get ⟨7, 4⟩ (t.rd (LND_Q_STATUS q)) = Fld.get ⟨7, 4⟩ (s.rd (LND_Q_STATUS q)) ∧ RegsBut s t ((LND_Q_STATUS q).off :: evRegs 768) ∧ OnlyRegsOcc s t := by
  have hto {n : Nat} (hn : n < 4) : (s.setQuadStage q n).quadStage q ≠ 4 ∧
      Fld.get ⟨7, 4⟩ ((s.setQuadStage q n).rd (LND_Q_STATUS q)) = Fld.get ⟨7, 4⟩ (s.rd (LND_Q_STATUS q)) ∧
      RegsBut s (s.setQuadStage q n) ((LND_Q_STATUS q).off :: evRegs 768) ∧ OnlyRegsOcc s (s.setQuadStage q n) :=
    ⟨by rw [quadStage_setQuadStage (by omega)]; omega, lanes_setQuadStage, setQuadStage_regs, setQuadStage_only⟩
  rw [← ht, State.quadClimb]
  split
  · exact hto (by decide)
  split
  · exact hto (by decide)
  · exact ⟨hs, rfl, RegsBut.refl _ _, OnlyRegsOcc.refl _⟩

/-- Registers of a quad that comes up. -/
def quadRegs (q : Nat) : List Nat := (LND_Q_STATUS q).off :: (evRegs 768 ++ evRegs 770)

theorem quadActive_shows {s : State} {q proto lanes : Nat} (hs : s.quadStage q = 1 ∨ s.quadStage q = 2) (hl : lanes < 16) {t : State} (ht : s.quadActive q proto lanes = t) :
    QuadUp s t q lanes ∧ RegsBut s t (quadRegs q) ∧ OnlyRegsOcc s t := by
  generalize hb : s.setFld (LND_Q_STATUS q) ⟨7, 4⟩ lanes = b at *
  have hbregs : RegsBut s b ((LND_Q_STATUS q).off :: evRegs 768) := by rw [← hb]; exact (RegsBut.refl s _).setFld _ _ _ (by simp)
  have hbonly : OnlyRegsOcc s b := by rw [← hb]; exact (OnlyRegsOcc.refl s).setFld _ _ _
  have hbstage : b.quadStage q = s.quadStage q := by
    rw [← hb, State.quadStage, State.setFld_eq, State.rd_wr_self]
    exact Fld.get_put_ne ⟨7, 4⟩ ⟨2, 0⟩ _ _ (by decide) (.inl (by decide))
  have hblanes : Fld.get ⟨7, 4⟩ (b.rd (LND_Q_STATUS q)) = lanes := by
    rw [← hb, State.setFld_eq, State.rd_wr_self, Fld.get_put_self _ _ _ (by decide)]
    exact Nat.mod_eq_of_lt hl
  obtain ⟨hcstage, hclanes, hcregs, hconly⟩ := quadClimb_shows (s := b) (q := q) (proto := proto) (by rw [hbstage]; omega) rfl
  have hrun : ((b.quadClimb q proto).setQuadStage q 4).raise 770 (0x0B00 + q) = t := by
    rw [← ht, ← hb]
    rfl
  generalize b.quadClimb q proto = c at *
  obtain ⟨-, -, hdlast⟩ := setQuadStage_raised hcstage
  have hdregs : RegsBut s (c.setQuadStage q 4) ((LND_Q_STATUS q).off :: evRegs 768) := (hbregs.trans hcregs).trans setQuadStage_regs
  have hdstage : (c.setQuadStage q 4).quadStage q = 4 := quadStage_setQuadStage (by decide)
  have hdlanes : Fld.get ⟨7, 4⟩ ((c.setQuadStage q 4).rd (LND_Q_STATUS q)) = lanes := lanes_setQuadStage.trans (hclanes.trans hblanes)
  have hdonly : OnlyRegsOcc s (c.setQuadStage q 4) := (hbonly.trans hconly).trans setQuadStage_only
  generalize c.setQuadStage q 4 = d at *
  subst hrun
  refine ⟨⟨?_, ?_, ?_, ?_⟩, ?_, hdonly.raise 770 _ []⟩
  · rw [State.quadStage, rd_raise_quad]
    exact hdstage
  · rw [rd_raise_quad]
    exact hdlanes
  · exact (State.rd_raise _ _ _ _ (by decide) (by decide)).trans hdlast
  · rw [State.rd_raise_cnt, hdregs.rd (by simp only [evRegs, EVT_R_CNT, EVT_R_LAST, LND_Q_STATUS, List.mem_cons, List.not_mem_nil, or_false]; omega)]
  · exact (hdregs.mono (by simp [quadRegs])).raise 770 _ [] (fun o ho => by simp [quadRegs, ho])

/-- What a quad's owner does once it is ACTIVE. -/
def State.quadOwnerUp (s : State) (q proto gen width lanes : Nat) (d : DriveId) : State :=
  if proto = 1 then s.wr LND_EP_LINK (w32 (gen % 16 + 16 * (width % 32)))
  else if proto = 2 then
    match s.quadNvr q with
    | some p => s.nvUp p { d with speed := gen, width := width }
    | none => s
  else if proto = 6 || proto = 7 then
    ((s.quadPorts q).filter (fun p => proto == 7 || lanes.testBit (p % 4))).foldl (fun s p =>
      (s.setFld (ETH_P_STATUS p) ⟨0, 0⟩ 1).raise 816 (s.ethBid p)) s
  else s

section
variable {s : State} {q : Fin 40} (hon : s.quadOn q = true)
include hon

theorem quadUp_eq (hs : s.quadStage q = 1 ∨ s.quadStage q = 2) (gen width lanes : Nat) (d : DriveId) :
    s.quadUp q gen width lanes d = (s.quadActive q (s.quadProto q) lanes).quadOwnerUp q (s.quadProto q) gen width lanes d :=
  if_neg (by rcases hs with h | h <;> rw [hon, h] <;> decide)

theorem quadUp_other (h1 : s.quadStage q ≠ 1) (h2 : s.quadStage q ≠ 2) (gen width lanes : Nat) (d : DriveId) : s.quadUp q gen width lanes d = s :=
  if_pos (by rw [beq_eq_false_iff_ne.2 h1, beq_eq_false_iff_ne.2 h2, hon]; decide)

theorem quadDetect_found (h0 : s.quadStage q = 0) (hw : s.quadWaiting q = false) (hp : s.quadProto q ≠ 3) : s.quadDetect q = s.setQuadStage q 1 :=
  if_pos (by rw [hon, h0, hw, bne_iff_ne.2 hp]; decide)

end

theorem quadDetect_not {s : State} {q : Fin 40} (h : s.quadStage q ≠ 0 ∨ s.quadWaiting q = true) : s.quadDetect q = s := by
  refine if_neg ?_
  rcases h with h | h
  · rw [beq_eq_false_iff_ne.2 h, Bool.and_false, Bool.false_and, Bool.false_and]
    exact Bool.false_ne_true
  · rw [h, Bool.not_true, Bool.and_false, Bool.false_and]
    exact Bool.false_ne_true

/-! ### Who owns a quad -/

theorem State.quadPorts_congr {s t : State} (hp : ∀ p, p < 8 → t.rd (ETH_P_CFG p) = s.rd (ETH_P_CFG p)) (hq : ∀ q, q < 40 → t.rd (LND_Q_CFG q) = s.rd (LND_Q_CFG q)) (q : Nat) :
    t.quadPorts q = s.quadPorts q := by
  refine List.filter_congr fun p hmem => ?_
  rw [State.ethMode, hp p (List.mem_range.1 hmem), State.ethQuads_congr hq, State.ethQuad_congr hp hq, State.ethMode]

theorem State.nvQuad_congr {s t : State} (hn : ∀ p, p < 4 → t.rd (NVR_CFG p) = s.rd (NVR_CFG p)) (hq : ∀ q, q < 40 → t.rd (LND_Q_CFG q) = s.rd (LND_Q_CFG q)) {p : Nat} (hp : p < 4) :
    t.nvQuad p = s.nvQuad p := by
  have hrank : (List.range p).filter (fun i => (t.rd (NVR_CFG i)).getLsbD 0) = (List.range p).filter (fun i => (s.rd (NVR_CFG i)).getLsbD 0) :=
    List.filter_congr fun i hi => by rw [hn i ((List.mem_range.1 hi).trans hp)]
  have hquads : (List.range 40).filter (fun q => bitsOf (t.rd (LND_Q_CFG q)).toNat 3 0 == 2) = (List.range 40).filter (fun q => bitsOf (s.rd (LND_Q_CFG q)).toNat 3 0 == 2) :=
    List.filter_congr fun i hi => by rw [hq i (List.mem_range.1 hi)]
  rw [State.nvQuad, hrank, hquads, State.nvQuad]

theorem State.quadNvr_congr {s t : State} (hn : ∀ p, p < 4 → t.rd (NVR_CFG p) = s.rd (NVR_CFG p)) (hq : ∀ q, q < 40 → t.rd (LND_Q_CFG q) = s.rd (LND_Q_CFG q)) (q : Nat) :
    t.quadNvr q = s.quadNvr q := by
  have hpred (p : Nat) (hp : p ∈ List.range 4) : (bitOf (t.rd (NVR_CFG p)) 0 && t.nvQuad p == q) = (bitOf (s.rd (NVR_CFG p)) 0 && s.nvQuad p == q) := by
    have h4 := List.mem_range.1 hp
    rw [hn p h4, State.nvQuad_congr hn hq h4]
  unfold State.quadNvr
  exact List.find?_congr hpred

/-- The owners' configuration is read where a quad's status and the events of links are not. -/
theorem owners_regs {s t : State} {os : List Nat} (h : RegsBut s t os) (hos : ∀ o, o ∈ os → o < 0x4000000 ∨ (∃ q, q < 40 ∧ (o = (LND_Q_STATUS q).off ∨ o = (LND_Q_DOWN_CNT q).off)))
    (q : Nat) : t.quadNvr q = s.quadNvr q ∧ t.quadPorts q = s.quadPorts q := by
  have hrd {r : Reg} (hr : 0x4280000 ≤ r.off) : t.rd r = s.rd r := h.rd fun hmem => by
    rcases hos _ hmem with hlt | ⟨k, hk, heq | heq⟩
    · omega
    · simp only [heq, LND_Q_STATUS] at hr
      omega
    · simp only [heq, LND_Q_DOWN_CNT] at hr
      omega
  have hq (k : Nat) (hk : k < 40) : t.rd (LND_Q_CFG k) = s.rd (LND_Q_CFG k) := h.rd fun hmem => by
    rcases hos _ hmem with hlt | ⟨k, hk, heq | heq⟩
    · simp only [LND_Q_CFG] at hlt
      omega
    · simp only [LND_Q_CFG, LND_Q_STATUS] at heq
      omega
    · simp only [LND_Q_CFG, LND_Q_DOWN_CNT] at heq
      omega
  exact ⟨State.quadNvr_congr (fun p hp => hrd (by simp only [NVR_CFG]; omega)) hq q,
    State.quadPorts_congr (fun p hp => hrd (by simp only [ETH_P_CFG]; omega)) hq q⟩

/-! ### A fold over ports -/

/-- Ports of a list change their status, each with its event. -/
def State.portsShow (s : State) (g : Word → Word) (ev : Nat) (l : List Nat) : State :=
  l.foldl (fun s p => (s.wr (ETH_P_STATUS p) (g (s.rd (ETH_P_STATUS p)))).raise ev (s.ethBid p)) s

/-- Registers that ports show their links in. -/
def portRegs (ev : Nat) : List Nat := (List.range 8).map (fun p => (ETH_P_STATUS p).off) ++ evRegs ev

theorem portRegs_mem {ev o : Nat} (h : o ∈ portRegs ev) : (∃ p, p < 8 ∧ o = (ETH_P_STATUS p).off) ∨ o ∈ evRegs ev := by
  rcases List.mem_append.1 h with h | h
  · obtain ⟨p, hp, heq⟩ := List.mem_map.1 h
    exact .inl ⟨p, List.mem_range.1 hp, heq.symm⟩
  · exact .inr h

/-- Ports show their links apart from quads and from other events. -/
theorem not_mem_portRegs {ev o : Nat} (hports : o < 0x4400000) (hev : o ∉ evRegs ev) : o ∉ portRegs ev := fun h => by
  rcases portRegs_mem h with ⟨p, hp, heq⟩ | hmem
  · simp only [ETH_P_STATUS] at heq
    omega
  · exact hev hmem

theorem portRegs_quad {q ev : Nat} (hq : q < 40) (hev : ev < 1024) : (LND_Q_STATUS q).off ∉ portRegs ev ∧ (LND_Q_DOWN_CNT q).off ∉ portRegs ev := by
  constructor
  · refine not_mem_portRegs (by simp only [LND_Q_STATUS]; omega) ?_
    simp only [LND_Q_STATUS, evRegs, EVT_R_CNT, EVT_R_LAST, List.mem_cons, List.not_mem_nil, or_false]
    omega
  · refine not_mem_portRegs (by simp only [LND_Q_DOWN_CNT]; omega) ?_
    simp only [LND_Q_DOWN_CNT, evRegs, EVT_R_CNT, EVT_R_LAST, List.mem_cons, List.not_mem_nil, or_false]
    omega

theorem portsShow_shows {g : Word → Word} {ev : Nat} {b : Bool} (hg : ∀ w, bitOf (g w) 0 = b) : ∀ {l : List Nat}, (∀ p, p ∈ l → p < 8) → ∀ (s : State),
    RegsBut s (s.portsShow g ev l) (portRegs ev) ∧ OnlyRegsOcc s (s.portsShow g ev l) ∧ ∀ p, p < 8 → (s.portsShow g ev l).ethUp p = if p ∈ l then b else s.ethUp p := by
  intro l
  induction l with
  | nil => exact fun _ s => ⟨RegsBut.refl s _, OnlyRegsOcc.refl s, fun p _ => rfl⟩
  | cons k l ih =>
    intro hl s
    have hk : k < 8 := hl k List.mem_cons_self
    generalize ha : (s.wr (ETH_P_STATUS k) (g (s.rd (ETH_P_STATUS k)))).raise ev (s.ethBid k) = a
    have hstep : s.portsShow g ev (k :: l) = a.portsShow g ev l := by rw [← ha]; rfl
    obtain ⟨hregs, honly, hups⟩ := ih (fun p hp => hl p (List.mem_cons_of_mem _ hp)) a
    have hmem : (ETH_P_STATUS k).off ∈ portRegs ev := List.mem_append_left _ (List.mem_map.2 ⟨k, List.mem_range.2 hk, rfl⟩)
    have haregs : RegsBut s a (portRegs ev) := by
      rw [← ha]
      exact ((RegsBut.refl s _).wr _ _ hmem).raise ev _ [] (fun o ho => List.mem_append_right _ ho)
    have haonly : OnlyRegsOcc s a := by
      rw [← ha]
      exact ((OnlyRegsOcc.refl s).wr _ _).raise ev _ []
    have haup (p : Nat) : a.ethUp p = if p = k then b else s.ethUp p := by
      have hrd : a.rd (ETH_P_STATUS p) = (s.wr (ETH_P_STATUS k) (g (s.rd (ETH_P_STATUS k)))).rd (ETH_P_STATUS p) := by
        rw [← ha]
        exact State.rd_raise _ _ _ _ (by simp only [ETH_P_STATUS, EVT_R_CNT]; omega) (by simp only [ETH_P_STATUS, EVT_R_LAST]; omega)
      rw [State.ethUp, hrd]
      by_cases hpk : p = k
      · rw [hpk, State.rd_wr_self, if_pos rfl, hg]
      · rw [State.rd_wr_ne _ _ (by simp only [ETH_P_STATUS]; omega), if_neg hpk, State.ethUp]
    rw [hstep]
    refine ⟨haregs.trans hregs, haonly.trans honly, fun p hp => ?_⟩
    rw [hups p hp, haup]
    by_cases hpl : p ∈ l <;> by_cases hpk : p = k <;> simp [hpl, hpk]

/-- The low bits of a root port's status, below its speed and width. -/
theorem nvStatus_low {speed width n i : Nat} (hi : i < 8) :
    bitOf ((NVR_STATUS_SPEED.put 0 speed ||| NVR_STATUS_WIDTH.put 0 width) ||| w32 n) i = bitOf (w32 n) i := by
  have hspeed : bitOf (NVR_STATUS_SPEED.put 0 speed) i = false :=
    (Fld.bit_put_ne NVR_STATUS_SPEED 0 speed i (by omega) (.inl hi)).trans BitVec.getLsbD_zero
  have hwidth : bitOf (NVR_STATUS_WIDTH.put 0 width) i = false :=
    (Fld.bit_put_ne NVR_STATUS_WIDTH 0 width i (by omega) (.inl (by simp only [NVR_STATUS_WIDTH]; omega))).trans BitVec.getLsbD_zero
  rw [bitOf] at hspeed hwidth
  rw [bitOf, BitVec.getLsbD_or, BitVec.getLsbD_or, hspeed, hwidth, Bool.false_or, Bool.false_or, bitOf]

/-- What a root port shows when its link is up. -/
theorem nvUp_shows {s : State} {p : Nat} {d : DriveId} {t : State} (ht : s.nvUp p d = t) :
    (t.nvOf p).drive = some d ∧ t.bit (NVR_STATUS p) NVR_STATUS_READY = true ∧ t.bit (NVR_STATUS p) NVR_STATUS_FMT_BAD = !d.fmtOk ∧
      t.rd (NVR_CAP_LO p) = w32 d.blocks ∧ t.rd (NVR_CAP_HI p) = w32 (d.blocks / 4294967296) ∧ t.rd (EVT_R_CNT 848) = satAdd (s.rd (EVT_R_CNT 848)) 1 ∧
      RegsBut s t ((NVR_STATUS p).off :: (NVR_CAP_LO p).off :: (NVR_CAP_HI p).off :: evRegs 848) ∧ t = { s with regs := t.regs, nv := t.nv, occ := t.occ } := by
  generalize ha : s.setNv p { s.nvOf p with drive := some d } = a
  generalize hv : ((NVR_STATUS_SPEED.put 0 d.speed) ||| (NVR_STATUS_WIDTH.put 0 d.width)) ||| w32 (7 + 8 * b2n (!d.fmtOk)) = v
  obtain ⟨src, hrun⟩ : ∃ src, (((a.wr (NVR_STATUS p) v).wr (NVR_CAP_LO p) (w32 d.blocks)).wr (NVR_CAP_HI p) (w32 (d.blocks / 4294967296))).raise 848 src = t := by
    rw [← ht, ← ha, ← hv]
    exact ⟨_, rfl⟩
  have hard (r : Reg) : a.rd r = s.rd r := by rw [← ha]; rfl
  have haregs : RegsBut s a ((NVR_STATUS p).off :: (NVR_CAP_LO p).off :: (NVR_CAP_HI p).off :: evRegs 848) := (RegsBut.refl s _).congr (by rw [← ha]; rfl)
  have hadrive : (a.nvOf p).drive = some d := by rw [← ha, State.nvOf_setNv]
  have haframe : a = { s with nv := a.nv } := by rw [← ha]; rfl
  have htrd {r : Reg} (h : 0x4800000 ≤ r.off) : t.rd r = (((a.wr (NVR_STATUS p) v).wr (NVR_CAP_LO p) (w32 d.blocks)).wr (NVR_CAP_HI p) (w32 (d.blocks / 4294967296))).rd r := by
    rw [← hrun]
    exact State.rd_raise _ _ _ _ (by simp only [EVT_R_CNT]; omega) (by simp only [EVT_R_LAST]; omega)
  have hstat : t.rd (NVR_STATUS p) = v := by
    rw [htrd (by simp only [NVR_STATUS]; omega), State.rd_wr_ne _ _ (by simp only [NVR_STATUS, NVR_CAP_HI]; omega),
      State.rd_wr_ne _ _ (by simp only [NVR_STATUS, NVR_CAP_LO]; omega), State.rd_wr_self]
  refine ⟨?_, ?_, ?_, ?_, ?_, ?_, ?_, ?_⟩
  · rw [← hrun]
    exact hadrive
  · rw [State.bit, hstat, ← hv, nvStatus_low (by decide)]
    cases d.fmtOk <;> decide
  · rw [State.bit, hstat, ← hv, nvStatus_low (by decide)]
    cases d.fmtOk <;> decide
  · rw [htrd (by simp only [NVR_CAP_LO]; omega), State.rd_wr_ne _ _ (by simp only [NVR_CAP_LO, NVR_CAP_HI]; omega), State.rd_wr_self]
  · rw [htrd (by simp only [NVR_CAP_HI]; omega), State.rd_wr_self]
  · rw [← hrun, State.rd_raise_cnt, State.rd_wr_ne _ _ (by simp only [EVT_R_CNT, NVR_CAP_HI]; omega), State.rd_wr_ne _ _ (by simp only [EVT_R_CNT, NVR_CAP_LO]; omega),
      State.rd_wr_ne _ _ (by simp only [EVT_R_CNT, NVR_STATUS]; omega), hard]
  · rw [← hrun]
    exact (((haregs.wr _ _ (by simp)).wr _ _ (by simp)).wr _ _ (by simp)).raise 848 _ [] (fun o ho => by simp [ho])
  · have honly : OnlyRegsOcc a t := by
      rw [← hrun]
      exact ((((OnlyRegsOcc.refl a).wr _ _).wr _ _).wr _ _).raise 848 _ []
    rw [OnlyRegsOcc] at honly
    rw [honly, haframe]

theorem quadsComeUp : QuadsComeUp := by
  unfold QuadsComeUp
  intro q gen width lanes d s hon i up found
  have hq := q.isLt
  have hgen := gen.isLt
  have hwidth := width.isLt
  have hl : lanes.toNat < 16 := lanes.isLt
  have hdetect {t : State} (ht : (if s.quadProto q == 4 || s.quadProto q == 5 then
      match s.quadScn q with
      | some n => if s.bit (SCN_STATUS n) SCN_STATUS_HPD then s.quadDetect q else s
      | none => s
    else s.quadDetect q) = t) : exec (.quadSignalDetect q) s = .next t := by rw [← ht]; rfl
  have hfound (h0 : s.quadStage q = 0) (hrun : exec (.quadSignalDetect q) s = .next (s.setQuadStage q 1)) : found := by
    have hne : s.quadStage q ≠ 1 := by rw [h0]; decide
    exact Runs.next hrun ⟨quadStage_setQuadStage (by decide), setQuadStage_raised hne, setQuadStage_regs, setQuadStage_only⟩
  have hexec : exec i s = .next (s.settle (s.quadUp q gen.toNat width.toNat lanes.toNat d)) := rfl
  refine ⟨fun h0 hw hp => ?_, fun n h0 hw hp hscn hhpd => ?_, fun n hp hscn hhpd => ?_, fun h => ?_, fun h1 h2 => ?_, fun hs => ?_⟩
  · simp only [List.mem_cons, List.not_mem_nil, or_false, not_or] at hp
    obtain ⟨h3, h4, h5⟩ := hp
    exact hfound h0 (hdetect ((if_neg (by rw [beq_eq_false_iff_ne.2 h4, beq_eq_false_iff_ne.2 h5]; decide)).trans (quadDetect_found hon h0 hw h3)))
  · have hscan : (s.quadProto q == 4 || s.quadProto q == 5) = true := by rcases hp with h | h <;> rw [h] <;> decide
    refine hfound h0 (hdetect ?_)
    rw [if_pos hscan, hscn]
    exact (if_pos hhpd).trans (quadDetect_found hon h0 hw (by omega))
  · have hscan : (s.quadProto q == 4 || s.quadProto q == 5) = true := by rcases hp with h | h <;> rw [h] <;> decide
    refine hdetect ?_
    rw [if_pos hscan, hscn]
    exact if_neg (by rw [hhpd]; exact Bool.false_ne_true)
  · refine hdetect ?_
    rw [quadDetect_not h]
    cases s.quadScn q with
    | none => exact ite_self s
    | some n => simp only [ite_self]
  · rw [hexec, quadUp_other hon h1 h2, State.settle_same rfl]
  obtain ⟨hup, hregs, honly⟩ := quadActive_shows (proto := s.quadProto q) hs hl rfl
  rw [quadUp_eq hon hs] at hexec
  generalize s.quadActive q (s.quadProto q) lanes.toNat = u at *
  rw [OnlyRegsOcc] at honly
  have howners := owners_regs hregs (fun o ho => by
    simp only [quadRegs, evRegs, EVT_R_CNT, EVT_R_LAST, List.mem_cons, List.mem_append, List.not_mem_nil, or_false] at ho
    rcases ho with h | h | h
    · exact .inr ⟨q, hq, .inl h⟩
    · exact .inl (by omega)
    · exact .inl (by omega)) q
  refine ⟨fun hp => ?_, fun p hp hnvr => ?_, fun hp => ?_, fun hp => ?_⟩
  · rw [hp, State.quadOwnerUp, if_pos rfl, Nat.mod_eq_of_lt hgen, Nat.mod_eq_of_lt hwidth] at hexec
    refine Runs.next hexec ⟨hup.later (u := u.wr LND_EP_LINK _) ((RegsBut.refl u [LND_EP_LINK.off]).wr _ _) ⟨?_, by decide, by decide⟩, State.rd_wr_self _ _ _,
      ((hregs.mono (by simp [quadRegs])).wr LND_EP_LINK _ (by simp)).settle, ?_⟩
    · simp only [LND_Q_STATUS, LND_EP_LINK, List.mem_singleton]
      omega
    · rw [honly]
      rfl
  · rw [hp, State.quadOwnerUp, if_neg (by decide), if_pos rfl, howners.1, hnvr] at hexec
    obtain ⟨hdrive, hready, hfmt, hlo, hhi, hcnt, htregs, hframe⟩ := nvUp_shows (s := u) (p := p) (d := { d with speed := gen.toNat, width := width.toNat }) rfl
    have hp4 := p.isLt
    generalize hn : u.nvUp p { d with speed := gen.toNat, width := width.toNat } = t at *
    have hexec' : exec i s = .next (s.settle t) := by rw [← hn]; exact hexec
    refine Runs.next hexec' ⟨hup.later (u := s.settle t) htregs.congr ⟨?_, ?_, ?_⟩, hdrive, hready, hfmt, hlo, hhi, ?_, ?_⟩
    · simp only [LND_Q_STATUS, NVR_STATUS, NVR_CAP_LO, NVR_CAP_HI, evRegs, EVT_R_CNT, EVT_R_LAST, List.mem_cons, List.not_mem_nil, or_false]
      omega
    · simp only [NVR_STATUS, NVR_CAP_LO, NVR_CAP_HI, evRegs, EVT_R_CNT, EVT_R_LAST, List.mem_cons, List.not_mem_nil, or_false]
      omega
    · simp only [NVR_STATUS, NVR_CAP_LO, NVR_CAP_HI, evRegs, EVT_R_CNT, EVT_R_LAST, List.mem_cons, List.not_mem_nil, or_false]
      omega
    · refine hcnt.trans (congrArg (satAdd · 1) (hregs.rd ?_))
      simp only [quadRegs, LND_Q_STATUS, evRegs, EVT_R_CNT, EVT_R_LAST, List.mem_cons, List.mem_append, List.not_mem_nil, or_false]
      omega
    · rw [hframe, honly]
      rfl
  · have hne : s.quadProto q ≠ 1 ∧ s.quadProto q ≠ 2 := by omega
    have hport : (decide (s.quadProto q = 6) || decide (s.quadProto q = 7)) = true := by simpa using hp
    rw [State.quadOwnerUp, if_neg hne.1, if_neg hne.2, if_pos hport, howners.2] at hexec
    generalize hlist : (s.quadPorts q).filter (fun p => s.quadProto q == 7 || lanes.toNat.testBit (p % 4)) = l at hexec
    have hl8 (p : Nat) (hp : p ∈ l) : p < 8 := by
      rw [← hlist] at hp
      exact List.mem_range.1 (List.mem_of_mem_filter (List.mem_of_mem_filter hp))
    obtain ⟨htregs, htonly, hups⟩ := portsShow_shows (g := fun w => Fld.put ⟨0, 0⟩ w 1) (ev := 816) (b := true)
      (fun w => Fld.bit_put_self ⟨0, 0⟩ w true (by decide) (by decide)) hl8 u
    have hexec' : exec i s = .next (s.settle (u.portsShow (fun w => Fld.put ⟨0, 0⟩ w 1) 816 l)) := hexec
    generalize u.portsShow (fun w => Fld.put ⟨0, 0⟩ w 1) 816 l = t at *
    refine Runs.next hexec' ⟨hup.later (u := s.settle t) htregs.congr
      ⟨(portRegs_quad hq (by decide)).1, not_mem_portRegs (by decide) (by decide), not_mem_portRegs (by decide) (by decide)⟩, fun p hp => ?_, ?_⟩
    · have huup : u.ethUp p = s.ethUp p := by
        rw [State.ethUp, hregs.rd (by
          simp only [quadRegs, LND_Q_STATUS, ETH_P_STATUS, evRegs, EVT_R_CNT, EVT_R_LAST, List.mem_cons, List.mem_append, List.not_mem_nil, or_false]
          omega), State.ethUp]
      refine (hups p hp).trans ?_
      rw [huup, ← hlist]
      simp only [List.mem_filter, BitVec.getLsbD]
      by_cases hmem : p ∈ s.quadPorts q
      · cases h7 : (s.quadProto q == 7 || lanes.toNat.testBit (p % 4)) <;> simp [hmem]
      · simp [hmem]
    · rw [OnlyRegsOcc] at htonly
      rw [htonly, honly]
      rfl
  · rw [hp] at hexec
    refine Runs.next hexec ⟨hup, hregs, ?_⟩
    rw [State.quadOwnerUp, if_neg (by decide), if_neg (by decide), if_neg (by decide), honly]
    rfl

/-! ### A link fails (R432) -/

/-- Registers of a quad that fails. -/
def failRegs (q : Nat) : List Nat := (LND_Q_STATUS q).off :: (LND_Q_DOWN_CNT q).off :: (evRegs 768 ++ evRegs 769)

/-- What a quad shows that has left ACTIVE. -/
def QuadDown (s t : State) (q : Nat) : Prop :=
  t.quadStage q = 0 ∧ t.rd (LND_Q_DOWN_CNT q) = satAdd (s.rd (LND_Q_DOWN_CNT q)) 1 ∧ t.rd (EVT_R_CNT 769) = satAdd (s.rd (EVT_R_CNT 769)) 1 ∧
    t.rd (EVT_R_CNT 768) = satAdd (s.rd (EVT_R_CNT 768)) 1

/-- It rests on four registers. -/
theorem QuadDown.later {s t u : State} {q : Nat} {os : List Nat} (h : QuadDown s t q) (hregs : RegsBut t u os)
    (hos : (LND_Q_STATUS q).off ∉ os ∧ (LND_Q_DOWN_CNT q).off ∉ os ∧ (EVT_R_CNT 769).off ∉ os ∧ (EVT_R_CNT 768).off ∉ os) : QuadDown s u q := by
  obtain ⟨hstat, hdown, h769, h768⟩ := hos
  unfold QuadDown
  rw [State.quadStage, hregs.rd hstat, hregs.rd hdown, hregs.rd h769, hregs.rd h768]
  exact h

theorem quadFail_shows {s : State} {q : Nat} (hq : q < 40) (h4 : s.quadStage q = 4) {t : State} (ht : s.quadFail q = t) :
    QuadDown s t q ∧ RegsBut s t (failRegs q) ∧ OnlyRegsOcc s t := by
  generalize ha : (s.inc (LND_Q_DOWN_CNT q)).raise 769 (0x0B00 + q) = a
  generalize hb : a.wr (LND_Q_STATUS q) (a.rd (LND_Q_STATUS q) &&& 0xFFFF0007) = b
  have hrun : b.setQuadStage q 0 = t := by
    rw [← ht, State.quadFail, if_pos h4, ha, hb]
  have hne : (LND_Q_DOWN_CNT q).off ≠ (LND_Q_STATUS q).off := by simp only [LND_Q_DOWN_CNT, LND_Q_STATUS]; omega
  have hincregs : RegsBut s (s.inc (LND_Q_DOWN_CNT q)) [(LND_Q_DOWN_CNT q).off] := (RegsBut.refl s _).inc _ _
  have haregs : RegsBut s a ((LND_Q_DOWN_CNT q).off :: evRegs 769) := by
    rw [← ha]
    exact (hincregs.mono (by simp)).raise 769 _ [] (fun o ho => by simp [ho])
  have hbregs : RegsBut s b (failRegs q) := by
    rw [← hb]
    exact (haregs.mono (fun o ho => by simp only [failRegs, List.mem_cons, List.mem_append] at ho ⊢; tauto)).wr _ _ (by simp [failRegs])
  have hbonly : OnlyRegsOcc s b := by
    rw [← hb, ← ha]
    exact (((OnlyRegsOcc.refl s).inc _ _).raise 769 _ []).wr _ _
  have hbdown : b.rd (LND_Q_DOWN_CNT q) = satAdd (s.rd (LND_Q_DOWN_CNT q)) 1 := by
    rw [← hb, State.rd_wr_ne _ _ hne, ← ha,
      State.rd_raise _ _ _ _ (by simp only [LND_Q_DOWN_CNT, EVT_R_CNT]; omega) (by simp only [LND_Q_DOWN_CNT, EVT_R_LAST]; omega), State.inc_eq, State.rd_wr_self]
  have hb769 : b.rd (EVT_R_CNT 769) = satAdd (s.rd (EVT_R_CNT 769)) 1 := by
    rw [← hb, State.rd_wr_ne _ _ (by simp only [LND_Q_STATUS, EVT_R_CNT]; omega), ← ha, State.rd_raise_cnt,
      hincregs.rd (by simp only [LND_Q_DOWN_CNT, EVT_R_CNT, List.mem_singleton]; omega)]
  have hbstage : b.quadStage q ≠ 0 := by
    have hstat : b.rd (LND_Q_STATUS q) = s.rd (LND_Q_STATUS q) &&& 0xFFFF0007 := by
      rw [← hb, State.rd_wr_self, haregs.rd (by
        simp only [LND_Q_STATUS, LND_Q_DOWN_CNT, evRegs, EVT_R_CNT, EVT_R_LAST, List.mem_cons, List.not_mem_nil, or_false]
        omega)]
    rw [State.quadStage, bitsOf_low] at h4
    rw [State.quadStage, hstat, bitsOf_low, BitVec.toNat_and, Nat.and_mod_two_pow, h4]
    decide
  have hb768 : b.rd (EVT_R_CNT 768) = s.rd (EVT_R_CNT 768) := by
    rw [← hb, State.rd_wr_ne _ _ (by simp only [LND_Q_STATUS, EVT_R_CNT]; omega), haregs.rd (by
      simp only [LND_Q_DOWN_CNT, evRegs, EVT_R_CNT, EVT_R_LAST, List.mem_cons, List.not_mem_nil, or_false]
      omega)]
  obtain ⟨-, ht768, -⟩ := setQuadStage_raised hbstage
  have htregs : RegsBut b (b.setQuadStage q 0) ((LND_Q_STATUS q).off :: evRegs 768) := setQuadStage_regs
  have htstage : (b.setQuadStage q 0).quadStage q = 0 := quadStage_setQuadStage (by decide)
  have htonly : OnlyRegsOcc b (b.setQuadStage q 0) := setQuadStage_only
  rw [hrun] at ht768 htregs htstage htonly
  refine ⟨⟨htstage, ?_, ?_, ?_⟩, hbregs.trans (htregs.mono (fun o ho => by simp only [failRegs, List.mem_cons, List.mem_append] at ho ⊢; tauto)), hbonly.trans htonly⟩
  · rw [htregs.rd (by simp only [LND_Q_STATUS, LND_Q_DOWN_CNT, evRegs, EVT_R_CNT, EVT_R_LAST, List.mem_cons, List.not_mem_nil, or_false]; omega), hbdown]
  · rw [htregs.rd (by simp only [LND_Q_STATUS, evRegs, EVT_R_CNT, EVT_R_LAST, List.mem_cons, List.not_mem_nil, or_false]; omega), hb769]
  · rw [ht768, hb768]

/-- What the owner of a failed quad does; `ports` are those whose links were up. -/
def State.quadOwnerDown (s : State) (q proto : Nat) (ports : List Nat) : State :=
  if proto = 1 then s.wr LND_EP_LINK 0
  else if proto = 2 then
    match s.quadNvr q with
    | some p => ((s.nvGone p).raise 849 (s.nvBid p)).mediaError p
    | none => s
  else if proto = 4 || proto = 5 then
    match s.quadScn q with
    | some n => s.scnLinkDown n
    | none => s
  else ports.foldl (fun s p => (s.ethGone p).raise 817 (s.ethBid p)) s

theorem quadLinkDown_eq {s : State} {q : Nat} (hon : s.quadOn q = true) (h4 : s.quadStage q = 4) :
    s.quadLinkDown q = (s.quadFail q).quadOwnerDown q (s.quadProto q) ((s.quadPorts q).filter s.ethUp) :=
  if_neg (by rw [hon, h4]; decide)

theorem quadLinkDown_other {s : State} {q : Nat} (h4 : s.quadStage q ≠ 4) : s.quadLinkDown q = s :=
  if_pos (by rw [bne_iff_ne.2 h4, Bool.or_true])

/-- A root port whose link is gone, with no media set on it. -/
theorem nvGone_shows {s : State} {p : Fin 4} (hset : s.portSet p = none) {t : State} (ht : ((s.nvGone p).raise 849 (s.nvBid p)).mediaError p = t) :
    (t.nvOf p).cmds = [] ∧ (t.nvOf p).drive = none ∧ t.rd (NVR_STATUS p) = 0 ∧ t.rd (EVT_R_CNT 849) = satAdd (s.rd (EVT_R_CNT 849)) 1 ∧
      RegsBut s t ((NVR_STATUS p).off :: evRegs 849) ∧ t = { s with regs := t.regs, nv := t.nv, occ := t.occ } := by
  have hp := p.isLt
  generalize ha : s.setNv p { s.nvOf p with cmds := [], drive := none } = a
  have haregs : RegsBut s a ((NVR_STATUS p).off :: evRegs 849) := (RegsBut.refl s _).congr (by rw [← ha]; rfl)
  have hanv : a.nvOf p = { s.nvOf p with cmds := [], drive := none } := by rw [← ha, State.nvOf_setNv]
  have haframe : a = { s with nv := a.nv } := by rw [← ha]; rfl
  have hgone : s.nvGone p = a.wr (NVR_STATUS p) 0 := by rw [← ha]; rfl
  generalize hb : a.wr (NVR_STATUS p) 0 = b at hgone
  have hbregs : RegsBut s b ((NVR_STATUS p).off :: evRegs 849) := by rw [← hb]; exact haregs.wr _ _ (by simp)
  have hbcnt : b.rd (EVT_R_CNT 849) = s.rd (EVT_R_CNT 849) := by
    rw [← hb, State.rd_wr_ne _ _ (by simp only [EVT_R_CNT, NVR_STATUS]; omega), ← ha]
    rfl
  have hbframe : b = { s with regs := b.regs, nv := a.nv } := by rw [← hb, haframe]; rfl
  rw [hgone] at ht
  have htregs : RegsBut s (b.raise 849 (s.nvBid p)) ((NVR_STATUS p).off :: evRegs 849) := hbregs.raise 849 _ [] (fun o ho => by simp [ho])
  rw [mediaError_none ((portSet_congr htregs (fun m hm => by
    simp only [REC_M_CFG, NVR_STATUS, evRegs, EVT_R_CNT, EVT_R_LAST, List.mem_cons, List.not_mem_nil, or_false]
    omega) p).trans hset)] at ht
  have hnv : t.nvOf p = { s.nvOf p with cmds := [], drive := none } := by
    rw [← ht, ← hb]
    exact hanv
  refine ⟨by rw [hnv], by rw [hnv], ?_, ?_, ht ▸ htregs, ?_⟩
  · rw [← ht, State.rd_raise _ _ _ _ (by simp only [EVT_R_CNT, NVR_STATUS]; omega) (by simp only [EVT_R_LAST, NVR_STATUS]; omega), ← hb, State.rd_wr_self]
  · rw [← ht, State.rd_raise_cnt, hbcnt]
  · rw [← ht, hbframe]
    rfl

theorem quadsFail : QuadsFail := by
  unfold QuadsFail
  intro q s down
  have hq := q.isLt
  refine ⟨fun hon h4 => ?_, fun h4 => ?_, fun hon hs => ?_, fun h => ?_, ?_⟩
  · obtain ⟨hdown, hregs, honly⟩ := quadFail_shows hq h4 rfl
    have hexec : exec (.quadLinkDown q) s = .next (s.settle (s.quadLinkDown q)) := rfl
    rw [quadLinkDown_eq hon h4] at hexec
    generalize s.quadFail q = u at *
    rw [OnlyRegsOcc] at honly
    have howners := owners_regs hregs (fun o ho => by
      simp only [failRegs, evRegs, EVT_R_CNT, EVT_R_LAST, List.mem_cons, List.mem_append, List.not_mem_nil, or_false] at ho
      rcases ho with h | h | h | h
      · exact .inr ⟨q, hq, .inl h⟩
      · exact .inr ⟨q, hq, .inr h⟩
      · exact .inl (by omega)
      · exact .inl (by omega)) q
    refine ⟨fun hp => ?_, fun hp => ?_, fun p hp hnvr hset => ?_⟩
    · rw [hp, State.quadOwnerDown, if_pos rfl] at hexec
      refine Runs.next hexec ⟨hdown.later (u := u.wr LND_EP_LINK 0) ((RegsBut.refl u [LND_EP_LINK.off]).wr _ _) ⟨?_, ?_, by decide, by decide⟩, u.rd_wr_self LND_EP_LINK 0, ?_⟩
      · simp only [LND_Q_STATUS, LND_EP_LINK, List.mem_singleton]
        omega
      · simp only [LND_Q_DOWN_CNT, LND_EP_LINK, List.mem_singleton]
        omega
      · rw [honly]
        rfl
    · rw [State.quadOwnerDown, if_neg (by omega), if_neg (by omega), if_neg (by simp only [Bool.or_eq_true, decide_eq_true_eq]; omega)] at hexec
      generalize hlist : (s.quadPorts q).filter s.ethUp = l at hexec
      have hl8 (p : Nat) (hp : p ∈ l) : p < 8 := by
        rw [← hlist] at hp
        exact List.mem_range.1 (List.mem_of_mem_filter (List.mem_of_mem_filter hp))
      obtain ⟨htregs, htonly, hups⟩ := portsShow_shows (g := fun w => w &&& 0xFFFFFFF8) (ev := 817) (b := false)
        (fun w => by rw [bitOf, BitVec.getLsbD_and]; exact Bool.and_false _) hl8 u
      have hexec' : exec (.quadLinkDown q) s = .next (s.settle (u.portsShow (fun w => w &&& 0xFFFFFFF8) 817 l)) := hexec
      generalize u.portsShow (fun w => w &&& 0xFFFFFFF8) 817 l = t at *
      obtain ⟨hstatus, hcount⟩ := portRegs_quad hq (show 817 < 1024 by decide)
      refine Runs.next hexec' ⟨hdown.later (u := s.settle t) htregs.congr
        ⟨hstatus, hcount, not_mem_portRegs (by decide) (by decide), not_mem_portRegs (by decide) (by decide)⟩, fun p hp => ?_, ?_⟩
      · have huup : u.ethUp p = s.ethUp p := by
          rw [State.ethUp, hregs.rd (by
            simp only [failRegs, LND_Q_STATUS, LND_Q_DOWN_CNT, ETH_P_STATUS, evRegs, EVT_R_CNT, EVT_R_LAST, List.mem_cons, List.mem_append, List.not_mem_nil, or_false]
            omega), State.ethUp]
        refine (hups p hp).trans ?_
        rw [huup, ← hlist]
        simp only [List.mem_filter]
        by_cases hmem : p ∈ s.quadPorts q
        · cases s.ethUp p <;> simp [hmem]
        · simp [hmem]
      · rw [OnlyRegsOcc] at htonly
        rw [htonly, honly]
        rfl
    · have hp4 := p.isLt
      have huset : u.portSet p = none := (portSet_congr hregs (fun m hm => by
        simp only [failRegs, LND_Q_STATUS, LND_Q_DOWN_CNT, REC_M_CFG, evRegs, EVT_R_CNT, EVT_R_LAST, List.mem_cons, List.mem_append, List.not_mem_nil, or_false]
        omega) p).trans hset
      rw [hp, State.quadOwnerDown, if_neg (by decide), if_pos rfl, howners.1, hnvr] at hexec
      obtain ⟨hcmds, hdrive, hstat, hcnt, htregs, hframe⟩ := nvGone_shows huset rfl
      have hexec' : exec (.quadLinkDown q) s = .next (s.settle (((u.nvGone p).raise 849 (u.nvBid p)).mediaError p)) := hexec
      generalize ((u.nvGone p).raise 849 (u.nvBid p)).mediaError p = t at *
      refine Runs.next hexec' ⟨hdown.later (u := s.settle t) htregs.congr ⟨?_, ?_, ?_, ?_⟩, hcmds, hdrive, hstat, ?_, ?_⟩
      · simp only [LND_Q_STATUS, NVR_STATUS, evRegs, EVT_R_CNT, EVT_R_LAST, List.mem_cons, List.not_mem_nil, or_false]
        omega
      · simp only [LND_Q_DOWN_CNT, NVR_STATUS, evRegs, EVT_R_CNT, EVT_R_LAST, List.mem_cons, List.not_mem_nil, or_false]
        omega
      · simp only [NVR_STATUS, evRegs, EVT_R_CNT, EVT_R_LAST, List.mem_cons, List.not_mem_nil, or_false]
        omega
      · simp only [NVR_STATUS, evRegs, EVT_R_CNT, EVT_R_LAST, List.mem_cons, List.not_mem_nil, or_false]
        omega
      · refine hcnt.trans (congrArg (satAdd · 1) (hregs.rd ?_))
        simp only [failRegs, LND_Q_STATUS, LND_Q_DOWN_CNT, evRegs, EVT_R_CNT, EVT_R_LAST, List.mem_cons, List.mem_append, List.not_mem_nil, or_false]
        omega
      · rw [hframe, honly]
        rfl
  · exact (congrArg (fun t => Host.Outcome.next (s.settle t)) (quadLinkDown_other h4)).trans (congrArg Host.Outcome.next (State.settle_same rfl))
  · have hon' : (s.quadOn q && (s.quadStage q == 1 || s.quadStage q == 2)) = true := by rcases hs with h | h <;> rw [hon, h] <;> decide
    have hexec : exec (.quadTrainTimeout q) s = .next (s.settle (((s.setQuadWaiting q true).raise 771 (0x0B00 + q.val)).setQuadStage q 0)) :=
      congrArg Host.Outcome.next (if_pos hon')
    generalize ha : s.setQuadWaiting q true = a at hexec
    have hawait : a.quadWaiting q = true := by
      rw [← ha]
      exact List.contains_iff_mem.2 List.mem_cons_self
    have haframe : a = { s with lnd := a.lnd } := by rw [← ha]; rfl
    have haregs : RegsBut s a (evRegs 771) := (RegsBut.refl s _).congr (by rw [haframe])
    generalize hb : a.raise 771 (0x0B00 + q.val) = b at hexec
    have hbregs : RegsBut s b (evRegs 771) := by rw [← hb]; exact haregs.raise 771 _ [] (fun o ho => ho)
    have hbonly : OnlyRegsOcc a b := by rw [← hb]; exact (OnlyRegsOcc.refl a).raise 771 _ []
    have hb771 : b.rd (EVT_R_CNT 771) = satAdd (s.rd (EVT_R_CNT 771)) 1 := by
      rw [← hb, State.rd_raise_cnt, ← ha]
      rfl
    have hbstage : b.quadStage q ≠ 0 := by
      rw [State.quadStage, hbregs.rd (by simp only [LND_Q_STATUS, evRegs, EVT_R_CNT, EVT_R_LAST, List.mem_cons, List.not_mem_nil, or_false]; omega)]
      rw [State.quadStage] at hs
      omega
    obtain ⟨-, ht768, -⟩ := setQuadStage_raised hbstage
    have htregs : RegsBut b (b.setQuadStage q 0) ((LND_Q_STATUS q).off :: evRegs 768) := setQuadStage_regs
    have htstage : (b.setQuadStage q 0).quadStage q = 0 := quadStage_setQuadStage (by decide)
    have htonly : OnlyRegsOcc a (b.setQuadStage q 0) := hbonly.trans setQuadStage_only
    generalize b.setQuadStage q 0 = t at *
    rw [OnlyRegsOcc] at htonly
    refine Runs.next hexec ⟨htstage, ?_, ?_, ?_, ?_, ?_⟩
    · show t.lnd.waiting.contains q.val = true
      rw [htonly]
      exact hawait
    · exact (htregs.rd (by simp only [LND_Q_STATUS, evRegs, EVT_R_CNT, EVT_R_LAST, List.mem_cons, List.not_mem_nil, or_false]; omega)).trans hb771
    · exact ht768.trans (congrArg (satAdd · 1) (hbregs.rd (by decide)))
    · refine RegsBut.congr (t := t) (RegsBut.trans (t := b) (hbregs.mono (fun o ho => ?_)) (htregs.mono (fun o ho => ?_)))
      · simp only [List.mem_cons, List.mem_append]
        tauto
      · simp only [List.mem_cons, List.mem_append] at ho ⊢
        tauto
    · rw [htonly, haframe]
      rfl
  · refine congrArg Host.Outcome.next (if_neg ?_)
    simp only [Bool.and_eq_true, Bool.or_eq_true, beq_iff_eq, not_and, not_or]
    intro hon
    rcases h with h | h | h
    · exact absurd hon (by rw [h]; exact Bool.false_ne_true)
    · omega
    · omega
  · have hexec : exec (.quadRetryDetect q) s = .next (s.setQuadWaiting q false) := rfl
    have hmem (k : Nat) : (s.setQuadWaiting q false).quadWaiting k = (s.quadWaiting k && k != q.val) := by
      rw [Bool.eq_iff_iff, Bool.and_eq_true]
      show (s.lnd.waiting.filter (· != q.val)).contains k = true ↔ s.lnd.waiting.contains k = true ∧ _
      rw [List.contains_iff_mem, List.contains_iff_mem, List.mem_filter]
    refine Runs.next hexec ⟨?_, fun k hk => ?_, rfl⟩
    · rw [hmem, bne_self_eq_false, Bool.and_false]
    · rw [hmem, bne_iff_ne.2 hk, Bool.and_true]

/-! ### Low-power idle (R433) -/

/-- A bit set by itself. -/
theorem put_bit_one (w : Word) {n : Nat} (hn : n < 32) : Fld.put ⟨n, n⟩ w (b2n true) = w ||| (1 <<< n) := by
  refine BitVec.eq_of_getLsbD_eq fun i hi => ?_
  rw [Fld.put_getLsbD _ _ _ _ hi, BitVec.getLsbD_or, BitVec.natCast_eq_ofNat, BitVec.getLsbD_ofNat, Nat.one_shiftLeft, Nat.testBit_two_pow, decide_eq_true hi, Bool.true_and]
  by_cases h : i = n
  · subst h
    rw [if_pos ⟨le_refl _, Nat.lt_succ_self _⟩, Nat.sub_self, decide_eq_true rfl, Bool.or_true]
    rfl
  · rw [if_neg (by rintro ⟨h1, h2⟩; exact h (Nat.le_antisymm (Nat.le_of_lt_succ h2) h1))]
    rw [decide_eq_false (Ne.symm h), Bool.or_false]

theorem portsSleep : PortsSleep := by
  unfold PortsSleep
  intro p s idle
  have hp := p.isLt
  have hidle : ((List.range 4).all (fun i => !bitOf (s.rd (ETH_Q_CFG p i)) 8 || s.rd (ETH_Q_HEAD p i) == s.rd (ETH_Q_TAIL p i)) = true) ↔ idle := by
    rw [List.all_eq_true]
    refine forall_congr' fun i => ?_
    rw [List.mem_range, Bool.or_eq_true, beq_iff_eq, bitOf, Bool.not_eq_true', or_iff_not_imp_left, Bool.not_eq_false]
  refine ⟨fun hmode hlpi hup hid => ?_, fun h => ?_⟩
  · have hexec : exec (.ethLpiEntry p) s = .next (s.ethTxSleep p true) :=
      congrArg Host.Outcome.next (if_pos (by rw [hidle.2 hid, hmode, hup, bitOf, hlpi]; rfl))
    obtain ⟨hstat, hlane, hregs, hframe⟩ := ethTxSleep_shows hp (s := s) (b := true) rfl
    generalize s.ethTxSleep p true = t at *
    refine Runs.next hexec ⟨?_, ?_, hregs, hframe⟩
    · exact hstat.trans (put_bit_one _ (by decide))
    · exact hlane.trans (put_bit_one _ (by omega))
  · refine congrArg Host.Outcome.next (if_neg ?_)
    rw [Bool.and_eq_true, hidle]
    rintro ⟨hm, hid⟩
    rcases h with h | h
    · rw [beq_eq_false_iff_ne.2 h] at hm
      exact Bool.false_ne_true hm
    · exact h hid

/-- Settles O44, by what a quad's stages show and by the rules of its owners. -/
theorem landingQuads : Obligations.LandingQuads := ⟨quadsComeUp, quadsFail, portsSleep⟩

end Sys2Proof.Machine
end
